-- ==== Sys2Proof/Syntax.lean ====
section
/-!
DEFINITION. The commands that the block takes: what an agent outside, a core or time does to it, one constructor for each
row of the table of operations and events.
-/

namespace Sys2Proof

/-- Who makes an access: core x (0 is S, 1–4 are C0–C3), the host through P0, the host through the ring (P2 or P3), the
twin through the stitch, or the debug port. -/
inductive Requester where
  | core (x : Fin 5)
  | host
  | ring
  | twin
  | debug
deriving DecidableEq, Repr

/-- The width of an access: 1, 2, 4 or 8 bytes. -/
inductive AccessSize where
  | b1 | b2 | b4 | b8
deriving DecidableEq, Repr

/-- The width in bytes. -/
def AccessSize.bytes : AccessSize → Nat
  | .b1 => 1
  | .b2 => 2
  | .b4 => 4
  | .b8 => 8

/-- How a transaction or a recovery of an identity bus ends on the bus (R91–R93). -/
inductive IdbOutcome where
  | done (bytes : List Byte)
  | nackAddr
  | nackData (index : Nat)
  | arbLost
  | stuck
deriving DecidableEq, Repr

/-- What the converter sees in one epoch (R97–R102): the raw 16-bit code of each channel, of the reference conversion of
each logical position, and of the filler conversions, by slot (a slot that is not listed reads 0). A held voltage, an error of a
slice and its noise reach the converter only through these codes. -/
structure Conversions where
  chan : List Int
  refs : List Int
  mids : List (Nat × Int)
deriving DecidableEq, Repr

/-- What the calibration engine fits in one run (R107): OFFSET, GAIN, the 16 LIN words, and the difference of the two zero
measurements. -/
structure CalFit where
  offset : Int
  gain : Nat
  lin : List Word
  zeroDiff : Nat
deriving DecidableEq, Repr

/-- What a memory that kept nothing holds when it powers up (R312): the bytes that differ from what an unlisted byte reads
as, by fabric address, and the 64-bit words whose check bits show a correctable (`false`) or an uncorrectable error. -/
structure Contents where
  cells : List (Nat × Byte)
  ecc : List (Nat × Bool)
deriving DecidableEq, Repr

/-- What the JTAG port shifts in before an access: its instruction, and the cells for the boundary register (R473). -/
structure JtagScan where
  ir : Fin 256
  cells : List Bool
deriving DecidableEq, Repr

/-- A new level at a wake pin, and the LFXO cycles for which it has held (R351). -/
structure PinLevel where
  level : Bool
  held : Nat
deriving DecidableEq, Repr

/-- What the board shows at power-up: the banks of I/O balls that find 3.3 V (R464), one bit each, and the protocols that the flash on
XSPI_CS0_N describes (R440), one bit each. -/
structure BoardLevels where
  vio : Fin 64
  modes : Fin 16
deriving DecidableEq, Repr

/-- The commands of the block: one constructor for each row of the table of operations and events. -/
inductive Instr where
  /-- REGISTER_WRITE (R7): A write to a register that has no row of its own, judged under the access conditions in the order R7 gives. -/
  | registerWrite (q : Requester) (size : AccessSize) (addr : Nat) (value : Word)
  /-- READ_CLEAR (R10): A read of a register with an RC field, which clears the field except for a debug read. -/
  | readClear (q : Requester) (addr : Nat)
  /-- HELD_ACCESS_RELEASE (R483): An access held by the fabric is released and judged against the state at its release. -/
  | heldAccessRelease
  /-- DEBUG_ACCESS (R12): An IEEE 1149.1 debug access to a register or fabric address, made as requester 0 with the attribute that the lifecycle gives. -/
  | debugAccess (scan : JtagScan) (size : AccessSize) (addr : Nat) (write : Option (BitVec 64))
  /-- SOFT_RST (R17): A write of 1 to PAGE_CTRL.SOFT_RST starts a reset of the block and holds other accesses to the page. -/
  | softRst (q : Requester) (page : Fin 256) (value : Word)
  /-- SOFT_RESET_COMPLETE (R17): The soft reset completes within 16 page clocks, and BUSY and SOFT_RST return to 0. -/
  | softResetComplete (page : Fin 256)
  /-- PAGE_OWNER_WRITE (R20): A write to PAGE_OWNER takes effect only if it is secure and passes the owner check, or comes from S, and only while LOCK is 0. -/
  | pageOwnerWrite (q : Requester) (page : Fin 256) (value : Word)
  /-- FREEZE_GROUP_READ (R237): A read of a freeze-group member captures and freezes all members for that requester. -/
  | freezeGroupRead (q : Requester) (addr : Nat)
  /-- FREEZE_GROUP_RELEASE (R237): A read of the release register returns its captured value and unfreezes the capture. -/
  | freezeGroupRelease (q : Requester) (addr : Nat)
  /-- FREEZE_STALE_TIMEOUT (R238): A capture not released within 65,536 sentinel clocks unfreezes itself and sets the stale flag. -/
  | freezeStaleTimeout (q : Requester) (addr : Nat)
  /-- TACH_PIN_CHANGE (R36): The level of a tach input changes, and its filter starts counting. -/
  | tachPinChange (n : Fin 32) (level : Bool) (dt : Nat)
  /-- TACH_FILTER_ACCEPT (R36): The new level has held for FILT ticks, so the filter accepts the change. -/
  | tachFilterAccept (n : Fin 32)
  /-- EPOCH_EDGE (R74): An epoch edge falls: channels are held, the epoch number advances, and the per-epoch processing begins. -/
  | epochEdge (conv : Conversions) (phase : Fin 1024)
  /-- ACQ_TIMEOUT (R44): 2^37 ticks pass without an edge in ACQUIRING, so acquisition restarts. -/
  | acqTimeout (n : Fin 32)
  /-- REACQ (R43): A write of 1 to ANG_CTRL.REACQ sends the engine to ACQUIRING at the next edge. -/
  | angReacq (q : Requester) (n : Fin 32) (value : Word)
  /-- LEARN (R52): A write of 1 to ANG_CTRL.LEARN starts a tooth-table learning run, or refuses it. -/
  | angLearn (q : Requester) (n : Fin 32) (value : Word)
  /-- LEARN_END (R52): A learning run completes, writes the inactive half and requests a swap. -/
  | learnEnd (n : Fin 32)
  /-- LOAD (R62): A write of 1 to ANG_CTRL.LOAD requests a preset load. -/
  | angLoad (q : Requester) (n : Fin 32) (value : Word)
  /-- ANG_CFG_WRITE (R48): A direct write to ANG_CFG changes its fields and clears ALT_ACTIVE. -/
  | angCfgWrite (q : Requester) (n : Fin 32) (value : Word)
  /-- ANG_TBL_DATA_WRITE (R51): A write to ANG_TBL_DATA goes to the inactive half, with auto-increment. -/
  | angTblDataWrite (q : Requester) (n : Fin 32) (value : Word)
  /-- ANG_TBL_SWAP (R53): A write of 1 to ANG_TBL_CTRL.SWAP requests a tooth-table swap. -/
  | angTblSwap (q : Requester) (n : Fin 32)
  /-- FIRE (R59): A write of 1 to SEAM_SOFT.FIRE requests a soft seam. -/
  | softFire (q : Requester)
  /-- RUN (R76): A write to AIN_CTRL.RUN starts the epoch timer or stops it. -/
  | ainRun (q : Requester) (value : Word)
  /-- GROUP_POWER_WRITE (R69): A write to AIN_GRP_PWR powers groups up or down, subject to the enable check. -/
  | groupPowerWrite (q : Requester) (value : Word)
  /-- GROUP_READY (R69): 2 µs after its EN bit is set, a group's RDY rises. -/
  | groupReady (g : Fin 12)
  /-- ALIGN_HOLDOVER (R82): No update for HOLD_MS ms moves the alignment state to HOLDOVER. -/
  | alignHoldover
  /-- MPRES_CHANGE (R84): The level of a module presence pin changes, and the acceptance count starts. -/
  | mpresChange (g : Fin 12) (level : Bool)
  /-- PRESENCE_ACCEPT (R84): A presence level that has held for 32 LF ticks is accepted, and the position state changes. -/
  | presenceAccept (g : Fin 12)
  /-- AIN_IDCOMMIT (R87): A write to AIN_IDCOMMIT starts the check of the identity record for a position. -/
  | ainIdcommit (q : Requester) (value : Word)
  /-- COMMIT_CHECK_DONE (R87): The commit check ends, and the position becomes VALID or BAD. -/
  | commitCheckDone (g : Fin 12)
  /-- IDB_START (R91): A write of 1 to IDB_CMD.START runs one I2C transaction. -/
  | idbStart (q : Requester) (b : Fin 2) (value : Word)
  /-- IDB_RECOVER (R93): A write of 1 to IDB_CMD.RECOVER starts a nine-clock bus recovery. -/
  | idbRecover (q : Requester) (b : Fin 2) (value : Word)
  /-- IDB_DONE (R92): A transaction or recovery ends, normally or early, and DONE is set. -/
  | idbDone (b : Fin 2) (outcome : IdbOutcome)
  /-- IDB_STRETCH_TIMEOUT (R92): A target holds SCL low beyond STRETCH_MS, so the controller releases the lines and sets TIMEOUT. -/
  | idbStretchTimeout (b : Fin 2)
  /-- ROTATION_DECISION (R108): 64 ticks before a candidate edge, the rotation is decided and the READY slice's half is frozen. -/
  | rotationDecision
  /-- CAL_RUN_DONE (R107): A calibration run completes and either writes the inactive half or fails acceptance. -/
  | calRunDone (p : Fin 9) (fit : CalFit)
  /-- INIT_CAL (R112): Initial calibration starts, when ADC EN changes from 0 to 1 or INIT_CAL is written. -/
  | initCal (q : Requester) (value : Word)
  /-- INIT_CAL_DONE (R112): Initial calibration ends, the tables are written and the slices enter service. -/
  | initCalDone
  /-- ROT_NOW (R109): A write of 1 to ADC_CTRL.ROT_NOW moves the next rotation decisions to SG32. -/
  | rotNow (q : Requester) (value : Word)
  /-- ADCCAL_SWAP (R105): A write of 1 to ADCCAL_CTRL.SWAP requests a swap of the halves at the next rotation seam, or is dropped. -/
  | adccalSwap (q : Requester) (p : Fin 9) (value : Word)
  /-- ADCCAL_TABLE_WRITE (R104): A write to a correction table half is accepted or ignored according to the slice state. -/
  | adccalTableWrite (q : Requester) (p : Fin 9) (h : Fin 2) (w : Fin 18) (value : Word)
  /-- RESULT_START (R116): A write of 1 to RESULT_START.START triggers a scan. -/
  | resultStart (q : Requester) (value : Word)
  /-- RESULT_READ (R118): A read of RESULTi returns the value, the tag and NEW, and then clears NEW. -/
  | resultRead (q : Requester) (i : Fin 32)
  /-- HDR_NOW (R131): A write of 1 to STR_CTRL.HDR_NOW requests a stream header before the next frame. -/
  | hdrNow (q : Requester) (st : Fin 64) (value : Word)
  /-- LANE_FRAME (R136): A frame reaches a resampler lane, which updates its state and computes the points that have become computable. -/
  | laneFrame (l : Fin 16)
  /-- COPY (R137): A write of 1 to RL_CTRL.COPY copies the active half into the inactive half. -/
  | rlCopy (q : Requester) (l : Fin 16) (value : Word)
  /-- COPY_DONE (R137): The table copy completes, and FILL reads 83. -/
  | rlCopyDone (l : Fin 16)
  /-- RL_TBL_DATA_WRITE (R137): A write to RL_TBL_DATA writes an entry of the inactive half and counts it in FILL. -/
  | rlTblDataWrite (q : Requester) (l : Fin 16) (value : Word)
  /-- SWAP (R138): A write of 1 to RL_CTRL.SWAP requests a lane table swap, carried out at once while the lane is OFF. -/
  | rlSwap (q : Requester) (l : Fin 16) (value : Word)
  /-- LINE_ITEM (R145): The line writer takes an item and places it into the payload of the open block. -/
  | lineItem (src : Fin 80)
  /-- FLUSH (R145): A write of 1 to LINE_CTRL.FLUSH flushes the open block. -/
  | lineFlush (q : Requester) (l : Fin 64) (value : Word)
  /-- BLOCK_FLUSH_TIMEOUT (R145): A block that has been open for FLUSH_MS ms is flushed. -/
  | blockFlushTimeout (l : Fin 64)
  /-- LINE_ENABLE_WRITE (R144): A write of LINE_CTRL.EN enables or disables a line, subject to its checks. -/
  | lineEnableWrite (q : Requester) (l : Fin 64) (value : Word)
  /-- GOV_WINDOW (R169): A new 1 µs governor window opens, and waiting HBM requests are admitted in class order. -/
  | govWindow
  /-- DRAIN_BLOCK (R159): In DRAIN, the writer moves the oldest short-line block into its line in HBM. -/
  | drainBlock
  /-- PEG_SET (R153): PEG_CMD SET protects a run of written blocks, or is refused. -/
  | pegSet (q : Requester)
  /-- PEG_ARM (R153): PEG_CMD ARM arms a peg for a trigger, or is refused. -/
  | pegArm (q : Requester)
  /-- PEG_FIRE (R155): PEG_CMD FIRE starts the growth of an armed peg. -/
  | pegFire (q : Requester)
  /-- PEG_RELEASE (R154): PEG_CMD RELEASE frees a peg and unprotects its run. -/
  | pegRelease (q : Requester)
  /-- LINE_FETCH_START (R157): A write of 1 to LINE_FETCH_CTRL.START starts a block fetch, or refuses it. -/
  | lineFetchStart (q : Requester) (value : Word)
  /-- LINE_FETCH_DONE (R157): A fetch completes, DONE is set and the LINE_FETCH generator fires. -/
  | lineFetchDone
  /-- TRAIN_START (R164): A write of 1 to HBMC_CTRL.TRAIN_START starts stack training in the configured mode. -/
  | trainStart (q : Requester) (x : Fin 4) (value : Word)
  /-- TRAINING_DONE (R164): Stack training succeeds, falls back or fails, and HBM_UP is updated. -/
  | trainingDone (x : Fin 4) (ok : Bool) (settings : List Word) (lanes : List Nat)
  /-- ECS_READ (R166): Every 10 s the controller reads the ECS counts and the temperature of the stack. -/
  | ecsRead (x : Fin 4) (rows count temp : Nat)
  /-- RINSE_READ (R167): The rinse engine reads the next block and writes back corrected words. -/
  | rinseRead
  /-- STK_PG_FALL (R469): STK_PG falls while STK_EN is high, so every stack becomes FAILED. -/
  | stkPgFall
  /-- STK_PG_TIMEOUT (R469): STK_PG has not risen 10 ms after STK_EN, so training fails. -/
  | stkPgTimeout
  /-- JOB_DISPATCH (R183): An idle engine takes the eligible head job of the highest-priority queue of its logical engine. -/
  | jobDispatch (w : Fin 18)
  /-- MICROWORD (R199): A Welut engine issues one microword, which drives sequencer, datapath, address units, DMA and scalar unit. -/
  | microword (w : Fin 18) (waits : Nat)
  /-- DMA_COMPLETE (R210): A DMA transfer completes and sets its token, or faults the engine. -/
  | dmaComplete (w : Fin 18) (i : Fin 4)
  /-- JOB_COMPLETE (R189): After the DMA writes complete, the engine writes the digest and the header with STATE 1, fires JOB_DONE and pushes the table. -/
  | jobComplete (w : Fin 18) (clocks : Nat)
  /-- JOB_TIMEOUT (R186): A job runs for LIMIT × 1,024 Welut clocks, so the engine stops with TIMEOUT. -/
  | jobTimeout (w : Fin 18)
  /-- WEL_HALT (R178): A write of 1 to WEL_CTRL.HALT stops a running engine. -/
  | welHalt (q : Requester) (w : Fin 18) (value : Word)
  /-- RESUME (R179): A write of 1 to WEL_CTRL.RESUME leaves STOPPED and discards the job. -/
  | welResume (q : Requester) (w : Fin 18) (value : Word)
  /-- SERVICE_WRITE (R178): A write of WEL_CTRL.SERVICE moves an engine between IDLE and SPARE. -/
  | serviceWrite (q : Requester) (w : Fin 18) (value : Word)
  /-- WELQ_QTAIL_WRITE (R181): A write to a queue TAIL enqueues descriptors, or is refused as reserved. -/
  | welqTailWrite (q : Requester) (n : Fin 64) (value : Word)
  /-- TEMPLATE_COPY_DONE (R188): A template copy completes and TAIL advances. -/
  | templateCopyDone (t : Fin 16)
  /-- FRAME_DIGEST_CLOSE (R193): A frame digest closes, on time or late, and WELQ_DIGEST is updated. -/
  | frameDigestClose (f : Fin 4)
  /-- CS_COMMIT (R214): A write to CS_DATA5 commits a microword to CS_ADDR, or is refused. -/
  | csCommit (q : Requester) (w : Fin 18) (value : Word)
  /-- CS_DATA5_READ (R214): A read of CS_DATA5 returns the word and advances CS_ADDR when AUTOINC is 1. -/
  | csData5Read (q : Requester) (w : Fin 18)
  /-- CS_LOAD (R215): The LOAD command copies the image from analysis SRAM and then checks it. -/
  | csLoad (q : Requester) (w : Fin 18) (value : Word)
  /-- CS_CHECK (R215): The CHECK command computes the store digest to validate the store. -/
  | csCheck (q : Requester) (w : Fin 18) (value : Word)
  /-- CS_VERIFY (R215): The VERIFY command recomputes the digest of a valid store. -/
  | csVerify (q : Requester) (w : Fin 18) (value : Word)
  /-- CS_INVALIDATE (R215): The INVALIDATE command clears VALID, and the engine goes OFF. -/
  | csInvalidate (q : Requester) (w : Fin 18) (value : Word)
  /-- CS_COMMAND_DONE (R215): A LOAD, CHECK or VERIFY ends and sets VALID, the REASON or the verify result. -/
  | csCommandDone (w : Fin 18)
  /-- WEL_TBL_SWAP_REQUEST (R219): A write of 1 to WEL_TBL_CTRL.SWAP marks the inactive half as complete. -/
  | welTblSwapRequest (q : Requester) (w : Fin 18) (value : Word)
  /-- BS_VALUE (R222): A write to BS_VALUE appends an entry to the slot and sets the owner, or overflows. -/
  | bsValue (q : Requester) (slot : Fin 8) (value : Word)
  /-- CLOSE (R223): The CLOSE command moves an OPEN slot to FILLED. -/
  | bsClose (q : Requester) (slot : Fin 8) (mirror : Bool)
  /-- ARM (R223): The ARM command starts validation of a FILLED slot. -/
  | bsArm (q : Requester) (slot : Fin 8) (mirror : Bool)
  /-- ARM_VALIDATION_DONE (R225): Validation ends, and the slot becomes ARMED with its shadows loaded, or ABORTED. -/
  | armValidationDone (slot : Fin 8)
  /-- CANCEL (R223): The CANCEL command aborts a FILLED or ARMED slot, or abandons its validation. -/
  | bsCancel (q : Requester) (slot : Fin 8) (mirror : Bool)
  /-- CLEAR (R223): The CLEAR command returns a PRESSED or ABORTED slot to OPEN and empty. -/
  | bsClear (q : Requester) (slot : Fin 8) (mirror : Bool)
  /-- BS_RDATA_READ (R242): A read of BS_RDATA returns an entry word and advances WORD and INDEX. -/
  | bsRdataRead (q : Requester) (slot : Fin 8)
  /-- ADD (R270): Instruction add. -/
  | kAdd (x : Fin 5)
  /-- SUB (R270): Instruction sub. -/
  | kSub (x : Fin 5)
  /-- AND (R270): Instruction and. -/
  | kAnd (x : Fin 5)
  /-- OR (R270): Instruction or. -/
  | kOr (x : Fin 5)
  /-- XOR (R270): Instruction xor. -/
  | kXor (x : Fin 5)
  /-- ANDN (R270): Instruction andn. -/
  | kAndn (x : Fin 5)
  /-- CLT (R270): Instruction clt, signed compare into a register. -/
  | kClt (x : Fin 5)
  /-- CLTU (R270): Instruction cltu, unsigned compare into a register. -/
  | kCltu (x : Fin 5)
  /-- SHL (R270): Instruction shl. -/
  | kShl (x : Fin 5)
  /-- SHR (R270): Instruction shr. -/
  | kShr (x : Fin 5)
  /-- ASR (R270): Instruction asr. -/
  | kAsr (x : Fin 5)
  /-- MIN (R270): Instruction min. -/
  | kMin (x : Fin 5)
  /-- MAX (R270): Instruction max. -/
  | kMax (x : Fin 5)
  /-- MINU (R270): Instruction minu. -/
  | kMinu (x : Fin 5)
  /-- MAXU (R270): Instruction maxu. -/
  | kMaxu (x : Fin 5)
  /-- ADDS (R270): Instruction adds, saturating add. -/
  | kAdds (x : Fin 5)
  /-- SUBS (R270): Instruction subs, saturating subtract. -/
  | kSubs (x : Fin 5)
  /-- MUL (R271): Instruction mul, low half of the product. -/
  | kMul (x : Fin 5)
  /-- MULX (R271): Instruction mulx, signed high half of the product. -/
  | kMulx (x : Fin 5)
  /-- MULXU (R271): Instruction mulxu, unsigned high half of the product. -/
  | kMulxu (x : Fin 5)
  /-- MOVL (R272): Instruction movl. -/
  | kMovl (x : Fin 5)
  /-- ADDK (R272): Instruction addk. -/
  | kAddk (x : Fin 5)
  /-- ANDK (R272): Instruction andk. -/
  | kAndk (x : Fin 5)
  /-- ORK (R272): Instruction ork. -/
  | kOrk (x : Fin 5)
  /-- XORK (R272): Instruction xork. -/
  | kXork (x : Fin 5)
  /-- MOVH (R272): Instruction movh. -/
  | kMovh (x : Fin 5)
  /-- CLTK (R272): Instruction cltk. -/
  | kCltk (x : Fin 5)
  /-- CLTKU (R272): Instruction cltku. -/
  | kCltku (x : Fin 5)
  /-- SHLK (R272): Instruction shlk, shift left by an immediate. -/
  | kShlk (x : Fin 5)
  /-- SHRK (R272): Instruction shrk, logical shift right by an immediate. -/
  | kShrk (x : Fin 5)
  /-- ASRK (R272): Instruction asrk, arithmetic shift right by an immediate. -/
  | kAsrk (x : Fin 5)
  /-- LDBS (R273): Instruction ldbs. -/
  | kLdbs (x : Fin 5)
  /-- LDBZ (R273): Instruction ldbz. -/
  | kLdbz (x : Fin 5)
  /-- LDHS (R273): Instruction ldhs. -/
  | kLdhs (x : Fin 5)
  /-- LDHZ (R273): Instruction ldhz. -/
  | kLdhz (x : Fin 5)
  /-- LDW (R273): Instruction ldw. -/
  | kLdw (x : Fin 5)
  /-- STB (R273): Instruction stb. -/
  | kStb (x : Fin 5)
  /-- STH (R273): Instruction sth. -/
  | kSth (x : Fin 5)
  /-- STW (R273): Instruction stw. -/
  | kStw (x : Fin 5)
  /-- BREQ (R274): Instruction breq. -/
  | kBreq (x : Fin 5)
  /-- BRNE (R274): Instruction brne. -/
  | kBrne (x : Fin 5)
  /-- BRLT (R274): Instruction brlt. -/
  | kBrlt (x : Fin 5)
  /-- BRGE (R274): Instruction brge. -/
  | kBrge (x : Fin 5)
  /-- BRLTU (R274): Instruction brltu. -/
  | kBrltu (x : Fin 5)
  /-- BRGEU (R274): Instruction brgeu. -/
  | kBrgeu (x : Fin 5)
  /-- BRA (R274): Instruction bra. -/
  | kBra (x : Fin 5)
  /-- CALL (R274): Instruction call. -/
  | kCall (x : Fin 5)
  /-- CALLR (R274): Instruction callr, also written jmp. -/
  | kCallr (x : Fin 5)
  /-- LOOP (R276): Instruction loop, which sets up a hardware loop. -/
  | kLoop (x : Fin 5)
  /-- RPT (R277): Instruction rpt, which latches a repeat count for the next instruction. -/
  | kRpt (x : Fin 5)
  /-- MAC (R278): Instruction mac. -/
  | kMac (x : Fin 5)
  /-- MSU (R278): Instruction msu. -/
  | kMsu (x : Fin 5)
  /-- MULA (R278): Instruction mula. -/
  | kMula (x : Fin 5)
  /-- MFACC (R278): Instruction mfacc, with shift, rounding and saturation. -/
  | kMfacc (x : Fin 5)
  /-- RDACC (R278): Instruction rdacc. -/
  | kRdacc (x : Fin 5)
  /-- WRACC (R278): Instruction wracc. -/
  | kWracc (x : Fin 5)
  /-- CLRACC (R278): Instruction clracc. -/
  | kClracc (x : Fin 5)
  /-- MAC_D (R279): Instruction mac.d, a dual-fetch multiply-accumulate. -/
  | kMacD (x : Fin 5)
  /-- MSU_D (R279): Instruction msu.d, a dual-fetch multiply-subtract. -/
  | kMsuD (x : Fin 5)
  /-- MULA_D (R279): Instruction mula.d, a dual-fetch multiply into the accumulator. -/
  | kMulaD (x : Fin 5)
  /-- RDCR (R280): Instruction rdcr. -/
  | kRdcr (x : Fin 5)
  /-- WRCR (R280): Instruction wrcr. -/
  | kWrcr (x : Fin 5)
  /-- TRAP (R281): Instruction trap. -/
  | kTrap (x : Fin 5)
  /-- BRK (R281): Instruction brk. -/
  | kBrk (x : Fin 5)
  /-- EXRET (R263): Instruction exret, the return from an exception. -/
  | kExret (x : Fin 5)
  /-- WAIT (R264): Instruction wait, which stops issue until an enabled input is high. -/
  | kWait (x : Fin 5)
  /-- INTERRUPT (R264): An enabled interrupt input is high while IE is 1, and the core takes the interrupt. -/
  | coreInterrupt (x : Fin 5)
  /-- CORE_RESET (R265): A write of 1 to CORE_CTRL.RESET resets the core's architectural state. -/
  | coreReset (q : Requester) (x : Fin 5) (value : Word)
  /-- CORE_RUN_WRITE (R265): A write of CORE_CTRL.RUN starts a core or stops it at an instruction boundary. -/
  | coreRunWrite (q : Requester) (x : Fin 5) (value : Word)
  /-- GENERATOR_PULSE (R282): A generator pulse reaches the router input and passes the channel and task stages. -/
  | generatorPulse (gen : Fin 512)
  /-- EVR_FIRE (R286): A write to EVR_FIRE inserts pulses into channels. -/
  | evrFire (q : Requester) (w : Fin 4) (value : Word)
  /-- GUARD_WINDOW_END (R294): A loop-guard window of 2^K router cycles ends, and the pulse count restarts. -/
  | guardWindowEnd (ch : Fin 128)
  /-- CELL_FILTER_ACCEPT (R292): The output of a cell has held for its glitch or debounce time, so the filtered output changes. -/
  | cellFilterAccept (cell : Fin 32)
  /-- EVL_WRITE (R293): A direct write to a cell register is checked for a combinational loop and stands or is refused. -/
  | evlWrite (q : Requester) (cell : Fin 32) (reg : Fin 3) (value : Word)
  /-- TIMER_MATCH (R298): A general timer's count becomes CMP, and MATCH pulses. -/
  | timerMatch (t : Fin 8)
  /-- TIMER_WRAP (R298): A general timer's count passes TOP and wraps, and WRAP pulses. -/
  | timerWrap (t : Fin 8)
  /-- GPIO_INPUT_EDGE (R284): A selected edge on a tapped GPIO pin raises its input-tap generator. -/
  | gpioInputEdge (pin : Fin 48) (level : Bool)
  /-- MODE_REQUEST (R302): S writes PWR_CTRL.TARGET, and the controller heads for that mode step by step. -/
  | modeRequest (q : Requester) (value : Word)
  /-- PWR_ASK (R302): A write to PWR_ASK records the mode asked for and interrupts S. -/
  | pwrAsk (q : Requester) (value : Word)
  /-- NOON_TO_AFTERNOON (R305): The step from Noon to Afternoon. -/
  | noonToAfternoon
  /-- AFTERNOON_TO_EVENING (R305): The step from Afternoon to Evening. -/
  | afternoonToEvening
  /-- EVENING_TO_NIGHT (R305): The step from Evening to Night. -/
  | eveningToNight
  /-- NIGHT_TO_MIDNIGHT (R305): The step from Night to Midnight, which deasserts MAIN_EN. -/
  | nightToMidnight
  /-- AFTERNOON_TO_NOON (R305): The step from Afternoon to Noon. -/
  | afternoonToNoon
  /-- EVENING_TO_NOON (R306): The step from Evening to Noon, started once every clock is READY. -/
  | eveningToNoon
  /-- NIGHT_TO_EVENING (R307): The step from Night to Evening. -/
  | nightToEvening (flipped : List Nat) (found : Contents)
  /-- MODE_STEP_END (R305): A step completes, PWR_LAST is recorded and the controller continues towards TARGET. -/
  | modeStepEnd (clocks : Nat)
  /-- SEAL_CHECK_DONE (R314): A background seal check of a bank ends and sets BAD on a mismatch. -/
  | sealCheckDone
  /-- TACH_WAKE_EDGE (R309): A rising edge on an armed tach input in Night latches wake source TACH. -/
  | tachWakeEdge (n : Fin 32)
  /-- PFW_ASSERT (R316): PFW_N is asserted, and the acceptance count starts. -/
  | pfwAssert
  /-- PFW_ACCEPT (R316): PFW has held for 1 µs, so the power-fail path begins and a soft seam is requested. -/
  | pfwAccept
  /-- PFW_SLOT_TIMEOUT (R316): The power-fail slot has pressed or aborted, or 100 µs have passed, so TARGET becomes Evening. -/
  | pfwSlotTimeout
  /-- PFW_RELEASE (R317): PFW_N is released, and the release count starts. -/
  | pfwRelease
  /-- PFW_CLEAR (R317): PFW has stayed released for CLEAR_MS ms, so PFW clears and PFW_END is latched. -/
  | pfwClear
  /-- MAIN_SUPPLY_FAIL (R308): The main supply fails without the step into Midnight, and D_SEN is lost. -/
  | mainSupplyFail
  /-- TEMP_CONVERSION (R318): A temperature sensor converts, sets WARN or HOT and applies HOT_ACT. -/
  | tempConversion (sensor : Fin 8) (value : BitVec 16)
  /-- THERM_TRIP (R319): A fixed 125 °C comparator trips and sends the device towards Night. -/
  | thermTrip
  /-- SOURCE_READY (R321): A clock source completes its stability count, and its READY flag rises. -/
  | sourceReady (src : Fin 18)
  /-- CLK_SEL_WRITE (R322): A write to CLK_SEL changes clock selections, or is refused. -/
  | clkSelWrite (q : Requester) (value : Word)
  /-- CLK_EN_WRITE (R322): A write to CLK_EN enables or disables clock sources, or is refused. -/
  | clkEnWrite (q : Requester) (value : Word)
  /-- CLK_PEN_WRITE (R325): A write to CLK_PEN gates page clocks, holding the bits of staged pages. -/
  | clkPenWrite (q : Requester) (w : Fin 8) (value : Word)
  /-- CLOCK_FAIL (R331): A clock monitor declares a source failed, and the affected domains enter their safe states. -/
  | clockFail (src : Fin 18)
  /-- CLKMON_RESUME (R333): S writes RESUME, or AUTO_RESUME applies, and a HELD domain returns to RUN. -/
  | clkmonResume (q : Requester) (value : Word)
  /-- CLKMON_RELEASE (R333): S writes RELEASE, and a domain in RESET returns to RUN from reset values. -/
  | clkmonRelease (q : Requester) (value : Word)
  /-- CLKMON_TIMEOUT (R333): CLK_FAIL_TIMEOUT passes since the failure, so the domain enters RESET. -/
  | clkmonTimeout (d : Fin 4)
  /-- DVFS_TARGET_WRITE (R327): A write to DVFS_TARGET or DVFS_CAP changes the effective target and starts a transition. -/
  | dvfsTargetWrite (q : Requester) (cap : Bool) (value : Word)
  /-- DVFS_TRANSITION (R328): The sequencer starts a transition with an AVSBus frame or a frequency change. -/
  | dvfsTransition
  /-- DVFS_TRANSITION_DONE (R328): A transition completes, or fails with FAULT. -/
  | dvfsTransitionDone (answers alert : Bool) (mv : BitVec 16)
  /-- PMB_START (R336): A write of 1 to PMB_CMD.START runs a PMBus transaction. -/
  | pmbStart (q : Requester) (value : Word)
  /-- PMB_DONE (R336): A PMBus transaction ends with DONE, NACK or PEC_ERR. -/
  | pmbDone (data : BitVec 16) (nack pecErr : Bool)
  /-- VBK_SWITCHOVER (R337): The backup node switches between the main-derived supply and VBAT. -/
  | vbkSwitchover (onVbat vbatLow : Bool)
  /-- VBK_DIP (R338): VBK dips, and the outcome follows from the lowest voltage it reaches. -/
  | vbkDip (mv : Nat) (bytes : List (Fin 64 × Byte))
  /-- OSC_STOP_DETECT (R340): The LFXO oscillation has been absent for 1 ms, so OSC_STOPPED is set. -/
  | oscStopDetect
  /-- SECOND_BOUNDARY (R346): TICK[47:15] changes, and the calendar advances. -/
  | secondBoundary (vbatLow : Bool)
  /-- ALARM_FIRE (R344): TICK reaches BKD_ALARM while armed, so the alarm fires and wakes. -/
  | alarmFire
  /-- SET (R342): A write of 1 to BKD_CTRL.SET requests a load of both counters. -/
  | bkdSet (q : Requester) (value : Word)
  /-- TICK_SET_LOAD (R342): At the next raw tick, BKD_SET is loaded into both counters. -/
  | tickSetLoad
  /-- CAL_LOAD (R347): A write of 1 to BKD_CTRL.CAL_LOAD requests a calendar load. -/
  | calLoad (q : Requester) (value : Word)
  /-- MEAS_START (R345): A write of 1 to BKD_MEAS_CTRL.START arms a trim measurement. -/
  | measStart (q : Requester) (value : Word)
  /-- BK_WRITE (R349): A write to a backup word updates the word and the stored CRC. -/
  | bkWrite (q : Requester) (w : Fin 16) (value : Word)
  /-- CRC_CHECK (R350): A write of 1 to BKD_CTRL.CRC_CHECK starts a backup CRC check. -/
  | crcCheck (q : Requester) (value : Word)
  /-- CRC_CHECK_DONE (R350): A CRC check ends and sets BK_CRC_BAD on a mismatch. -/
  | crcCheckDone
  /-- WKUP_EDGE (R351): An accepted active edge on WKUP0 or WKUP1 sets its flag, wakes and raises its generator. -/
  | wkupEdge (p : Fin 2) (edge : PinLevel) (phase : Fin 1024)
  /-- DETECT_RETRY (R355): Every 100 µs in DETECT, the port retries detection of the far end. -/
  | detectRetry (p : Fin 4) (answers : Bool)
  /-- LINK_TRAINING_DONE (R356): Port training completes at the negotiated generation, and the port goes UP. -/
  | linkTrainingDone (p : Fin 4) (trained : Fin 8) (gen : Fin 4) (farBad : Fin 8) (farFresh : Bool) (farExpects : Fin 4096) (farFree : Nat)
  /-- TRAIN_TIMEOUT (R355): No lane trains within 2 ms, or a retrain fails within 500 µs, so the port returns to DETECT. -/
  | trainTimeout (p : Fin 4)
  /-- RETRAIN (R355): A write of 1 to PZL_CTRL.RETRAIN forces a retrain or leaves FAILED. -/
  | pzlRetrain (q : Requester) (p : Fin 4) (value : Word)
  /-- IDLE (R355): A write of PZL_CTRL.IDLE takes the port to IDLE or back. -/
  | pzlIdle (q : Requester) (p : Fin 4) (value : Word)
  /-- LANE_ERROR_WINDOW (R357): A 1 ms window ends, and a lane with too many CRC errors is retired. -/
  | laneErrorWindow (p : Fin 4)
  /-- PACKET_RECEIVE (R359): A packet is received whole, checked, ordered by sequence and delivered, forwarded or discarded. -/
  | packetReceive (p : Fin 4) (lane : Fin 3) (bytes : List Byte) (framed : Bool) (ofs : Nat)
  /-- REG_RD (R367): A REG_RD request reads a run of registers and returns them in a response. -/
  | linkRegRd (p : Fin 4)
  /-- REG_WR (R367): A REG_WR request writes a run of registers and is answered. -/
  | linkRegWr (p : Fin 4)
  /-- MEM_RD (R368): A MEM_RD request reads a run of memory and returns it. -/
  | linkMemRd (p : Fin 4)
  /-- MEM_WR (R368): A MEM_WR request writes a run of memory. -/
  | linkMemWr (p : Fin 4)
  /-- ACK (R363): A received ACK frees the covered packets from the retry buffer. -/
  | linkAck (p : Fin 4)
  /-- NAK (R363): A received link NAK makes the transmitter resend from the named number. -/
  | linkNak (p : Fin 4)
  /-- CREDIT (R364): A received CREDIT returns receive units to the transmitter. -/
  | linkCredit (p : Fin 4)
  /-- WAKE (R372): A received WAKE packet latches wake source WAKE_PKT when it is armed. -/
  | linkWake (p : Fin 4)
  /-- PACKET_SEND (R364): The transmitter sends a packet once it holds enough credit and a free lane. -/
  | packetSend (p : Fin 4) (second : Bool) (ofs : Nat)
  /-- MANGLE_HOLD_EXPIRE (R380): A reordered or delayed packet's hold time expires, and it is sent. -/
  | mangleHoldExpire (u : Fin 4)
  /-- MGL_CTRL_WRITE (R381): A write that enables a mangle unit is accepted or blocked. -/
  | mglCtrlWrite (q : Requester) (u : Fin 4) (value : Word)
  /-- GAP_TIMEOUT (R363): A sequence gap stays open for 2 µs, so the receiver sends a link NAK. -/
  | gapTimeout (p : Fin 4)
  /-- ACK_TIMEOUT (R363): No ACK covers the oldest held packet for ACK_TO µs, so a retry round starts. -/
  | ackTimeout (p : Fin 4)
  /-- PERIODIC_ACK (R363): The receiver sends its periodic ACK every 50 µs. -/
  | periodicAck (p : Fin 4)
  /-- PERIODIC_CREDIT (R364): The receiver sends its periodic CREDIT every 50 µs while UP. -/
  | periodicCredit (p : Fin 4)
  /-- LINK_ACT (R373): Activity lasting 1 µs on an idle lane is detected as LINK_ACT. -/
  | linkAct (p : Fin 4)
  /-- DAWN (R373): 64 repetitions of the Dawn pattern on an idle lane are detected as DAWN. -/
  | linkDawn (p : Fin 4)
  /-- SYNC_SEND (R374): A master's system time reaches N × PERIOD, and it sends SYNC N. -/
  | syncSend
  /-- SYNC (R376): A received SYNC is applied to system time, forwarded, or ignored. -/
  | linkSync (p : Fin 4)
  /-- DREQ (R374): A received DREQ is answered with a DRESP. -/
  | linkDreq (p : Fin 4)
  /-- DRESP (R375): A received DRESP completes a delay measurement and updates BEACON_DELAY. -/
  | linkDresp (p : Fin 4)
  /-- DRESP_TIMEOUT (R375): A DRESP does not arrive within 100 µs, so the measurement is abandoned. -/
  | drespTimeout (p : Fin 4)
  /-- BEACON_SET (R377): A write of 1 to BEACON_CTRL.SET loads a master's system time. -/
  | beaconSet (q : Requester) (value : Word)
  /-- INVALIDATE (R377): A write of 1 to BEACON_CTRL.INVALIDATE clears VALID. -/
  | beaconInvalidate (q : Requester) (value : Word)
  /-- BEACON_ELECTION (R401): A candidate hears no SYNC for its election time and becomes beacon master. -/
  | beaconElection
  /-- PAIR_ENABLE_WRITE (R387): A write of PAIR_CTRL.EN moves the pair state between UNBOUND and BINDING. -/
  | pairEnableWrite (q : Requester) (value : Word)
  /-- HELLO (R387): A received HELLO binds the pair as PRIMARY or SECONDARY. -/
  | pairHello (p : Fin 4)
  /-- HEARTBEAT (R389): A received HEARTBEAT refreshes the twin's state and liveness. -/
  | pairHeartbeat (p : Fin 4)
  /-- CHECKPOINT (R395): A received CHECKPOINT is compared with the device's own engine records. -/
  | pairCheckpoint (p : Fin 4)
  /-- DIGEST (R396): A received DIGEST is compared with the device's own frame digest. -/
  | pairDigest (p : Fin 4)
  /-- OUTCOME (R394): A received OUTCOME is compared with the local outcome of the mirrored slot. -/
  | pairOutcome (p : Fin 4)
  /-- HANDOVER (R391): A received HANDOVER makes the twin PRIMARY. -/
  | pairHandoverMsg (p : Fin 4)
  /-- ENTRIES (R393): A received BASKET ENTRIES packet fills the secondary's slot. -/
  | basketEntries (p : Fin 4)
  /-- BASKET_ARM_MSG (R393): A received BASKET ARM makes the secondary validate and answer ARMED or ABORTED. -/
  | basketArmMsg (p : Fin 4)
  /-- ARMED (R394): A received ARMED sets TWIN_OK and sends COMMIT. -/
  | basketArmed (p : Fin 4)
  /-- COMMIT (R394): A received COMMIT sets the secondary's TWIN_OK, or aborts a slot that has become too late. -/
  | basketCommit (p : Fin 4)
  /-- ABORTED (R393): A received ABORTED aborts the mirrored slot with reason TWIN. -/
  | basketAborted (p : Fin 4)
  /-- BASKET_CANCEL_MSG (R393): A received BASKET CANCEL cancels the secondary's slot. -/
  | basketCancelMsg (p : Fin 4)
  /-- PAIR_HANDOVER (R391): A write of 1 to PAIR_CTRL.HANDOVER sends HANDOVER and stops the token pulses. -/
  | pairHandover (q : Requester) (value : Word)
  /-- HEARTBEAT_SEND (R389): Every 100 µs while P1 is UP, the device sends a HEARTBEAT. -/
  | heartbeatSend
  /-- HEARTBEAT_LOSS (R389): 300 µs pass without a heartbeat, so the pair state changes. -/
  | heartbeatLoss
  /-- TOKEN_PULSE (R388): Every 250 µs, a primary or solo device drives PTOKEN low for 1 µs. -/
  | tokenPulse
  /-- TOKEN_EDGE (R388): A falling edge on PTOKEN makes the token live. -/
  | tokenEdge
  /-- TOKEN_TIMEOUT (R388): No pulse for TOKEN_TO, so the token is dead. -/
  | tokenTimeout
  /-- BIND_TIMEOUT (R387): BINDING has lasted BIND_TO ms with the token dead, so the device becomes SOLO. -/
  | bindTimeout
  /-- UART_CHARACTER (R405): A character frame is received whole and stored with its error flags. -/
  | uartCharacter (n : Fin 2) (start data parity stop : List Bool)
  /-- UART_BREAK (R409): RXD stays low for more than F bit times, so a break character is stored. -/
  | uartBreak (n : Fin 2)
  /-- UART_STUCK_LOW (R409): RXD stays low for 4F bit times, so STUCK_LOW is set and the receiver disarms. -/
  | uartStuckLow (n : Fin 2)
  /-- BREAK_END (R409): RXD reads high for a bit time after STUCK_LOW, so the receiver re-arms. -/
  | uartBreakEnd (n : Fin 2)
  /-- UART_RX_TIMEOUT (R411): Idle line for HALVES half bits flushes the block or sets RX_IDLE. -/
  | uartRxTimeout (n : Fin 2)
  /-- UART_RXDATA_READ (R408): A read of UART_RXDATA returns the character and clears NEW. -/
  | uartRxdataRead (q : Requester) (n : Fin 2)
  /-- UART_RXR_RD_WRITE (R412): A write of UART_RXR_RD frees ring blocks so that the next block can open. -/
  | uartRxrRdWrite (q : Requester) (n : Fin 2) (value : Word)
  /-- UART_TXDATA (R413): A write to UART_TXDATA queues a character, or is lost. -/
  | uartTxdata (q : Requester) (n : Fin 2) (value : Word)
  /-- UART_TX_START (R413): A write of 1 to UART_TX_CTRL.START sends LEN characters from SRAM. -/
  | uartTxStart (q : Requester) (n : Fin 2) (value : Word)
  /-- UART_CHAR_SENT (R403): The last stop bit of a character is sent, and the next character starts. -/
  | uartCharSent (n : Fin 2)
  /-- TX_DONE (R413): The last stop bit of a transfer is sent, and TX_DONE is set. -/
  | uartTxDone (n : Fin 2)
  /-- UART_DE_TAIL (R414): TAIL/16 bit times after the last stop bit with nothing ready, DE is deasserted. -/
  | uartDeTail (n : Fin 2)
  /-- UART_START_EDGE_WAKE (R415): A falling edge on RXD in Night latches the UART wake source. -/
  | uartStartEdgeWake (n : Fin 2) (rested : Bool)
  /-- DSEN_POWER_ON (R467): PORST_N rises or is pulsed low, and D_SEN powers on and starts the boot sequence. -/
  | dsenPowerOn (devid : Fin 32) (board : BoardLevels)
  /-- ROM_COPY_DONE (R418): The ROM copy completes, and the core is released. -/
  | romCopyDone (core : Fin 2) (failed : Option (Fin 3)) (rom found : Contents)
  /-- DEVICE_RESTART (R419): A device restart resets every domain except D_BK and re-enters step 1. -/
  | deviceRestart (cause : Fin 6)
  /-- RESTART (R448): S writes the key to CORE_S.RESTART and restarts the device. -/
  | restartWrite (q : Requester) (value : Word)
  /-- HOLD_RETRY (R421): After a HOLD, S reruns step 1 at 1 s or 60 s. -/
  | holdRetry (failed : Option (Fin 3)) (found : Contents)
  /-- BOOT_MBOX (R423): C0 writes BOOT_MBOX, and S copies the event into the boot step record. -/
  | bootMbox (q : Requester) (value : Word)
  /-- BOOT_MEND (R441): A write of 1 to BOOT_CTRL.MEND asks for mend mode. -/
  | bootMend (q : Requester) (value : Word)
  /-- MEAS_LOCK (R444): A write of 1 to BOOT_CTRL.MEAS_LOCK locks the measurement log. -/
  | measLock (q : Requester) (value : Word)
  /-- MEND_FRAME (R442): A mend frame is received whole on UART0 or P0 and checked. -/
  | mendFrame (p0 : Bool)
  /-- MEND_FRAME_GAP (R442): A gap over 10 ms between UART0 bytes drops the partial frame. -/
  | mendFrameGap
  /-- HELLO_MEND (R443): Mend command HELLO returns identity and record data. -/
  | helloMend
  /-- ERASE (R443): Mend command ERASE erases a slot. -/
  | mendErase (ok : Bool)
  /-- WRITE (R443): Mend command WRITE programs bytes into a slot. -/
  | mendWrite (ok : Bool)
  /-- VERIFY (R443): Mend command VERIFY checks a slot's manifest and digests. -/
  | mendVerify
  /-- SELECT (R443): Mend command SELECT makes a slot active and clears the record. -/
  | mendSelect (ok : Bool)
  /-- LEAVE (R443): Mend command LEAVE replies and restarts with MEND_EXIT. -/
  | mendLeave
  /-- HASH (R445): Crypto command HASH computes SHA-256 of a buffer. -/
  | cryHash (q : Requester) (value : Word)
  /-- CRYPTO_VERIFY (R445): Crypto command VERIFY checks an RSASSA-PSS signature. -/
  | cryVerify (q : Requester) (value : Word)
  /-- MEASURE (R444): Crypto command MEASURE appends a measurement log entry, or is refused. -/
  | cryMeasure (q : Requester) (value : Word)
  /-- ATTEST (R445): Crypto command ATTEST writes a signed attestation report, or is refused. -/
  | cryAttest (q : Requester) (value : Word)
  /-- CRYPTO_DONE (R445): A crypto command ends and sets DONE and its status. -/
  | cryDone
  /-- FUSE_KEY_HASH (R431): FUSE_PROG OP 1 burns a key hash into a slot. -/
  | fuseKeyHash (q : Requester) (value : Word)
  /-- FUSE_REVOKE (R431): FUSE_PROG OP 2 revokes a key slot, or is refused. -/
  | fuseRevoke (q : Requester) (value : Word)
  /-- FUSE_ROLLBACK (R431): FUSE_PROG OP 3 burns the rollback count upward. -/
  | fuseRollback (q : Requester) (value : Word)
  /-- SECURE (R432): FUSE_PROG OP 4 moves the lifecycle to SECURED, or is refused. -/
  | fuseSecure (q : Requester) (value : Word)
  /-- RMA (R432): FUSE_PROG OP 5 moves the lifecycle to RMA, or is refused. -/
  | fuseRma (q : Requester) (value : Word)
  /-- FUSE_BURN_DONE (R431): A fuse burn ends and sets DONE or REFUSED. -/
  | fuseBurnDone
  /-- WD_KICK (R446): A write to WD_KICK reloads the watchdog, or counts as a bad kick. -/
  | wdKick (q : Requester) (d : Fin 5) (value : Word)
  /-- WD_EXPIRY (R446): A watchdog count reaches zero and applies its ACTION. -/
  | wdExpiry (d : Fin 5)
  /-- XSPI_START (R437): A write of 1 to XSPI_CMD.START runs one flash operation. -/
  | xspiStart (q : Requester) (value : Word)
  /-- XSPI_POLL (R438): A write of 1 to XSPI_CMD.POLL starts polling the flash status. -/
  | xspiPoll (q : Requester) (value : Word)
  /-- XSPI_POLL_READ (R438): Each poll interval runs a status read and ends the poll on a match. -/
  | xspiPollRead (bytes : List Byte)
  /-- XSPI_POLL_TIMEOUT (R438): The poll limit passes, so the poll ends with TIMEOUT. -/
  | xspiPollTimeout
  /-- XSPI_DONE (R437): A flash operation ends when the chip select is deasserted, or stops on a bus error. -/
  | xspiDone (bytes : List Byte) (changed : List (Nat × Byte))
  /-- TRACKER_AGE_EXPIRE (R451): A tracker entry sees no error for 2^AGE_LOG2 LF ticks and is dropped. -/
  | trackerAgeExpire (dom : Fin 3) (i : Fin 16)
  /-- CONFIRM (R453): DARN_CTRL.CONFIRM schedules the head proposal for the next frame seam. -/
  | darnConfirm (q : Requester) (value : Word)
  /-- DECLINE (R453): DARN_CTRL.DECLINE removes the head proposal. -/
  | darnDecline (q : Requester) (value : Word)
  /-- BANK_COPY_DONE (R454): A bank darn copy completes, and the logical bank is mapped onto the spare. -/
  | bankCopyDone
  /-- POP (R456): A write of 1 to DARN_LOG_CTRL.POP removes the oldest log entry. -/
  | darnPop (q : Requester) (value : Word)
  /-- APPLY (R459): A write of 1 to DARN_IN_CTRL.APPLY applies a darn-table entry. -/
  | darnApply (q : Requester) (value : Word)
  /-- ANA_PG_FALL (R468): ANA_PG falls while ANA_EN is high, so D_ANA is put in a clock-failure reset. -/
  | anaPgFall
  /-- RELEASE (R481): A write of 1 to GPIO_CTRL.RELEASE releases the held safe state. -/
  | gpioRelease (q : Requester) (value : Word)
  /-- RAW_TICK (R341): At each raw tick (an LFXO cycle while READY, or an LFRC cycle under SUBST), TICK_RAW and TICK advance by the trim arithmetic with its frac accumulator. -/
  | rawTick
  /-- ROUTER_CYCLE (R291): In each router cycle, cells with held or constant inputs form f and update Q, and a channel with EDGE LEVEL pulses while its cell output stays 1. -/
  | routerCycle
  /-- ILLEGAL_INSTRUCTION (R268): A core issues a word whose major opcode or fn is undefined, such as an all-zero word, and raises Illegal Instruction with DETAIL 0. -/
  | coreIllegal (x : Fin 5)
  /-- FETCH_ERROR (R243): A core fetches from an address outside its instruction memory, or meets an uncorrectable error on a fetch, and raises Fetch Error or Memory Error. -/
  | coreFetchError (x : Fin 5)
  /-- START_BIT_NOISE (R405): A falling edge on RXD starts a start bit that reads high by majority, so the receiver discards it as noise and re-arms. -/
  | startBitNoise (n : Fin 2)
  /-- STK_PG_RISE (R469): The board drives STK_PG high after STK_EN, and the device starts the HBM PHYs so that training can go on. -/
  | stkPgRise
  /-- ANA_PG_RISE (R468): The board drives ANA_PG high after ANA_EN, and the D_ANA switches close so that the step from Evening to Noon continues. -/
  | anaPgRise (flipped : List Nat) (found : Contents)
deriving DecidableEq, Repr

end Sys2Proof
end

