-- ==== Sys2Proof/Machine/Regs.lean ====
section
/-!
DEFINITION. The register map: every register of the spec's register tables, its address layout, and its fields with
their access codes, reset values and static reserved encodings.
-/

namespace Sys2Proof.Machine

/-- Every register the spec describes, by the name of its table (an array of registers is one name). -/
inductive Reg where
  | PAGE_ID | PAGE_VER | PAGE_CTRL | PAGE_STATUS | PAGE_IRQ | PAGE_IRQ_EN | PAGE_OWNER | PAGE_SHADOW 
  | SYS_PART | SYS_STRAPS | FAB_ERR_ADDR_LO | FAB_ERR_ADDR_HI | FAB_ERR_INFO | PWR_CTRL | PWR_STATUS 
  | PWR_ASK | PWR_CFG | PWR_PFW | PWR_LAST | WAKE_EN | WAKE_PEND | WAKE_CFG | WAKE_TACH | WAKE_LAST 
  | WAKE_STAMP_LO | WAKE_STAMP_HI | WAKE_COUNT | WAKE_STATUS | CLK_EN | CLK_READY | CLK_SEL | CLK_STATUS 
  | CLKOUT_CFG | CLK_PEN | CLKMON_CTRL | CLKMON_FAIL | CLKMON_STATE | CLKMON_CMD | CLKMON_TIMEOUT 
  | DVFS_TARGET | DVFS_STATUS | DVFS_CAP | DVFS_TIMING | DVFS_VOLT | BKD_CTRL | BKD_STATUS | BKD_TICK_LO 
  | BKD_TICK_HI | BKD_RAW_LO | BKD_RAW_HI | BKD_SET_LO | BKD_SET_HI | BKD_TRIM | BKD_ALARM_LO | BKD_ALARM_HI 
  | BKD_MEAS_CTRL | BKD_MEAS_TICKS | BKD_MEAS_STATUS | BKD_CAL_TIME | BKD_CAL_DATE | BKD_CAL_SET_TIME 
  | BKD_CAL_SET_DATE | BKD_WKPIN | BKD_MIDWAKE | BKD_BKCRC | BKD_BK | RETN_STATUS | RETN_KEEP | RETN_SEAL 
  | RETN_LOST | RETN_BAD | RETN_UNVER | EVR_STATUS | EVR_FIRE | EVR_CFG | EVR_GUARD | EVR_CSTAT | EVR_CCOUNT 
  | EVR_TSEL | EVR_TSTAT | EVR_PTAP | EVR_GIN | EVR_GOUT | EVR_CIRQ | EVR_CIRQ_OVR | EVL_STATUS | EVL_CELL_IN 
  | EVL_CELL_TT | EVL_CELL_MODE | EVL_CELL_STAT | BASKET_STATUS | BS_CTRL | BS_STATE | BS_SEAM | BS_TARGET_LO 
  | BS_TARGET_HI | BS_PNUM_LO | BS_PNUM_HI | BS_PEPOCH_LO | BS_PEPOCH_HI | BS_INFO | BS_ADDR | BS_MASK 
  | BS_VALUE | BS_RIDX | BS_RDATA | SEAM_CFG | SEAM_NUM_LO | SEAM_NUM_HI | SEAM_EPOCH_LO | SEAM_EPOCH_HI 
  | SEAM_SOFT | SEAM_STATUS | ANG_CTRL | ANG_CFG | ANG_LOOP | ANG_COAST | ANG_STATUS | ANG_POS_LO 
  | ANG_POS_HI | ANG_WRAP | ANG_SPEED | ANG_EPOCH_LO | ANG_EPOCH_HI | ANG_PRESET_LO | ANG_PRESET_HI 
  | ANG_TBL_IDX | ANG_TBL_DATA | ANG_TBL_CTRL | CMP_CTRL | CMP_TGT_LO | CMP_TGT_HI | CMP_STEP | TACH_CFG 
  | TACH_STAMP_LO | TACH_STAMP_HI | TACH_COUNT | TACH_LEVEL | TACH_OVR | TACH_MISC | AIN_CTRL | AIN_EPOCH_DIV 
  | AIN_PRESET_LO | AIN_PRESET_HI | AIN_EPOCH_LO | AIN_EPOCH_HI | AIN_ALIGN | AIN_ALIGN_OFS 
  | AIN_ALIGN_STATUS | AIN_ALIGN_RATE | AIN_STATUS | AIN_CHEN | AIN_CHCOUNT | AIN_GRP_PWR | AIN_SPARE 
  | AIN_MOD_PRES | AIN_MOD_CHG | AIN_MOD_STATE | AIN_IDBUF | AIN_IDCOMMIT | MOD_ID | MOD_BIAS | MOD_SER_LO 
  | MOD_SER_HI | CH_GAIN | CH_OFFSET | CH_CORNER | CH_FLAGS | ADC_CTRL | ADC_CFG | ADC_SLICE_MAP | ADC_ROT 
  | ADC_DRIFT_LIM | ADC_STATUS | ADC_SLICE | ADC_DRIFT_OFS | ADC_DRIFT_GAIN | ADCCAL_CTRL | ADCCAL_STATUS 
  | ADCCAL_OFFSET | ADCCAL_GAIN | ADCCAL_LIN | RESULT_CTRL | RESULT_START | RESULT_STATUS | RESULT_OVR 
  | RESULT_MISS | RESULT_SEQ | RESULT | CH_TRIM | CH_STAT | SPARE_TRIM | STR_CTRL | STR_CFG | STR_CH 
  | STR_STATUS | STR_SEQ_LO | STR_SEQ_HI | STR_HDR_CNT | RL_CTRL | RL_CFG | RL_RING_BASE | RL_RING_RECS 
  | RL_RING_WR | RL_STATUS | RL_SEQ_LO | RL_SEQ_HI | RL_TBL_IDX | RL_TBL_DATA | RL_FILL | LINE_CFG 
  | LINE_SHORT | LINE_SHORT_WM | LINE_WSTATE | LINE_SHORT_DROP | LINE_FETCH_CTRL | LINE_FETCH_IDX 
  | LINE_FETCH_DST_LO | LINE_FETCH_DST_HI | LINE_FETCH_STATUS | LINE_CTRL | LINE_BASE | LINE_SIZE | LINE_WR 
  | LINE_SEQ_LO | LINE_SEQ_HI | LINE_STATUS | LINE_AVAIL | PEG_SEL | PEG_CMD | PEG_LINE | PEG_FIRST 
  | PEG_COUNT | PEG_BEFORE | PEG_AFTER | PEG_STATE | PEG_STATUS | PEG_TRIG | PEG_BUSY | HBMC_CFG | HBMC_CTRL 
  | HBMC_STATE | HBMC_ECC_CE | HBMC_ECC_UE | HBMC_UE_ADDR_LO | HBMC_UE_ADDR_HI | HBMC_UE_INFO | HBMC_ECS 
  | HBMC_REPAIR | HBMC_TIDX | HBMC_TDATA | GOV_CEIL | GOV_LIMIT | GOV_STATUS | GOV_PEAK | GOV_HELD 
  | RINSE_CTRL | RINSE_POS | RINSE_PASS | RINSE_FIX | WEL_CTRL | WEL_STATUS | WEL_FAULT_PC | WEL_JOB_DST 
  | WEL_CYCLES | WEL_JOBS | WEL_ARITH | WEL_LMEM_ECC | WEL_MFAULT | CS_CTRL | CS_STATUS | CS_ADDR | CS_DATA 
  | CS_DATA5 | CS_SRC | CS_PATCHES | CS_EXPECT | WEL_TBL_CTRL | WEL_TBL_STATUS | WEL_TBL_BASE | WEL_TBL_SIZE 
  | WELQ_CTRL | WELQ_STATUS | WELQ_MAP | WELQ_FLEN | WELQ_DFRAME_LO | WELQ_DFRAME_HI | WELQ_DVALUE 
  | WELQ_DCOUNT | WELQ_TPL_ADDR | WELQ_TPL_CTRL | WELQ_QCFG | WELQ_QHEAD | WELQ_QTAIL | WELQ_QSTAT | PZL_CTRL 
  | PZL_CFG | PZL_STATUS | PZL_LANE | PZL_LERR | PZL_RETRY | PZL_DROP | PZL_CREDIT | PZL_NAKS | PZL_PUSH_CFG 
  | PZL_PUSH_STATUS | MANGLE_STATUS | MGL_CTRL | MGL_PROB | MGL_CORR | MGL_XOR | MGL_DELAY | MGL_COUNT 
  | BEACON_CTRL | BEACON_CFG | BEACON_PERIOD | BEACON_LAG | BEACON_STEP | BEACON_STATUS | BEACON_TIME_LO 
  | BEACON_TIME_HI | BEACON_BNUM_LO | BEACON_BNUM_HI | BEACON_SET_LO | BEACON_SET_HI | BEACON_RATE 
  | BEACON_LAST_ERR | BEACON_DELAY | BEACON_ASYM | PAIR_CTRL | PAIR_CFG | PAIR_STATUS | PAIR_DIV_INFO 
  | PAIR_MIRROR_STAT | PAIR_RING_CFG | PAIR_RING_BREAK | PAIR_RING_STAT | UART_CTRL | UART_CFG | UART_BAUD 
  | UART_DE | UART_STATUS | UART_RXDATA | UART_RX_TO | UART_RXR_BASE | UART_RXR_CFG | UART_TXDATA 
  | UART_RXR_WR | UART_RXR_RD | UART_TX_CTRL | UART_TX_ADDR | XSPI_CTRL | XSPI_CFG | XSPI_CMD | XSPI_ADDR 
  | XSPI_LEN | XSPI_BUF_LO | XSPI_BUF_HI | XSPI_DATA | XSPI_POLL | XSPI_POLL_TO | XSPI_STATUS | IDB_CFG 
  | IDB_CMD | IDB_STATUS | IDB_BUF | PMB_CFG | PMB_CMD | PMB_DATA | PMB_STATUS | PMB_AVS | GPIO_CTRL 
  | GPIO_OUT | GPIO_OE | GPIO_IN | GPIO_SAFE | GPIO_SAFE_OE | GPIO_SET | GPIO_CLR | GPIO_PAD | TIM_CTRL 
  | TIM_TOP | TIM_CMP | TIM_COUNT | TIM_CAPT | WD_CTRL | WD_TIMEOUT | WD_WINDOW | WD_KICK | WD_STATUS 
  | CRY_CMD | CRY_STATUS | CRY_SRC_LO | CRY_SRC_HI | CRY_DST_LO | CRY_DST_HI | CRY_LEN | CRY_MTYPE 
  | CRY_DIGEST | FUSE_LIFE | FUSE_KEYSTAT | FUSE_ROLLBACK | FUSE_PROG | FUSE_STATUS | FUSE_PDATA | FUSE_KEY 
  | FUSE_UID | BOOT_CTRL | BOOT_STATUS | BOOT_MBOX | BOOT_ROMVER | DARN_CTRL | DARN_CFG | DARN_STATUS 
  | DARN_PROP | DARN_PROP_TGT | DARN_LOG | DARN_LOG_CTRL | DARN_IN | DARN_IN_CTRL | DARN_RETIRED | DARN_LNK 
  | DARN_SPARES | DARN_BANK_IDX | DARN_BANK_INFO | DARN_CELL | TEMP_CTRL | TEMP_WARN | TEMP_HOT | TEMP_STATUS 
  | TEMP_MAX | TEMP_V | CORE_CTRL | CORE_STATUS | CORE_PC | CORE_ECC | CORE_IRQ_PEND_LO | CORE_IRQ_PEND_HI 
  | CORE_IRQ_EN_LO | CORE_IRQ_EN_HI | CORE_IRQ_ID | WIN | RST_CAUSE | RESTART 
deriving DecidableEq, Repr

/-- Access codes of the table "Access codes" of the scope chapter. -/
inductive Acc where
  | rw | ro | wo | w1c | w1s | rc | st
deriving DecidableEq, Repr

/-- One field of a register table: name, lowest bit, width, access code, reset value, and the ranges of values that the
table calls reserved whatever the rest of the machine holds (R3). -/
structure FieldDesc where
  name : String
  lo : Nat
  width : Nat
  acc : Acc
  rst : Nat
  rsv : List (Nat × Nat)
deriving DecidableEq, Repr

/-- Where a register array lies: the address of its first word counted from the first register page, and for each index,
outermost first, how many values it has and how far apart they lie. -/
structure Layout where
  base : Nat
  dims : List (Nat × Nat)
deriving DecidableEq, Repr

/-- The layout of each register, from the register headings. -/
def Reg.layout : Reg → Layout
  | .PAGE_ID => ⟨0x00000, [(256, 0x1000)]⟩
  | .PAGE_VER => ⟨0x00004, [(256, 0x1000)]⟩
  | .PAGE_CTRL => ⟨0x00008, [(256, 0x1000)]⟩
  | .PAGE_STATUS => ⟨0x0000C, [(256, 0x1000)]⟩
  | .PAGE_IRQ => ⟨0x00010, [(256, 0x1000)]⟩
  | .PAGE_IRQ_EN => ⟨0x00014, [(256, 0x1000)]⟩
  | .PAGE_OWNER => ⟨0x00018, [(256, 0x1000)]⟩
  | .PAGE_SHADOW => ⟨0x0001C, [(256, 0x1000)]⟩
  | .SYS_PART => ⟨0x00040, []⟩
  | .SYS_STRAPS => ⟨0x00044, []⟩
  | .FAB_ERR_ADDR_LO => ⟨0x00048, []⟩
  | .FAB_ERR_ADDR_HI => ⟨0x0004C, []⟩
  | .FAB_ERR_INFO => ⟨0x00050, []⟩
  | .PWR_CTRL => ⟨0x01040, []⟩
  | .PWR_STATUS => ⟨0x01044, []⟩
  | .PWR_ASK => ⟨0x01048, []⟩
  | .PWR_CFG => ⟨0x0104C, []⟩
  | .PWR_PFW => ⟨0x01050, []⟩
  | .PWR_LAST => ⟨0x01054, []⟩
  | .WAKE_EN => ⟨0x02040, []⟩
  | .WAKE_PEND => ⟨0x02044, []⟩
  | .WAKE_CFG => ⟨0x02048, []⟩
  | .WAKE_TACH => ⟨0x0204C, []⟩
  | .WAKE_LAST => ⟨0x02050, []⟩
  | .WAKE_STAMP_LO => ⟨0x02054, []⟩
  | .WAKE_STAMP_HI => ⟨0x02058, []⟩
  | .WAKE_COUNT => ⟨0x0205C, []⟩
  | .WAKE_STATUS => ⟨0x02060, []⟩
  | .CLK_EN => ⟨0x03040, []⟩
  | .CLK_READY => ⟨0x03044, []⟩
  | .CLK_SEL => ⟨0x03048, []⟩
  | .CLK_STATUS => ⟨0x0304C, []⟩
  | .CLKOUT_CFG => ⟨0x03050, []⟩
  | .CLK_PEN => ⟨0x03080, [(8, 0x4)]⟩
  | .CLKMON_CTRL => ⟨0x04040, []⟩
  | .CLKMON_FAIL => ⟨0x04044, []⟩
  | .CLKMON_STATE => ⟨0x04048, []⟩
  | .CLKMON_CMD => ⟨0x0404C, []⟩
  | .CLKMON_TIMEOUT => ⟨0x04050, []⟩
  | .DVFS_TARGET => ⟨0x05040, []⟩
  | .DVFS_STATUS => ⟨0x05044, []⟩
  | .DVFS_CAP => ⟨0x05048, []⟩
  | .DVFS_TIMING => ⟨0x0504C, []⟩
  | .DVFS_VOLT => ⟨0x05060, [(6, 0x4)]⟩
  | .BKD_CTRL => ⟨0x06040, []⟩
  | .BKD_STATUS => ⟨0x06044, []⟩
  | .BKD_TICK_LO => ⟨0x06048, []⟩
  | .BKD_TICK_HI => ⟨0x0604C, []⟩
  | .BKD_RAW_LO => ⟨0x06050, []⟩
  | .BKD_RAW_HI => ⟨0x06054, []⟩
  | .BKD_SET_LO => ⟨0x06058, []⟩
  | .BKD_SET_HI => ⟨0x0605C, []⟩
  | .BKD_TRIM => ⟨0x06060, []⟩
  | .BKD_ALARM_LO => ⟨0x06064, []⟩
  | .BKD_ALARM_HI => ⟨0x06068, []⟩
  | .BKD_MEAS_CTRL => ⟨0x06070, []⟩
  | .BKD_MEAS_TICKS => ⟨0x06074, []⟩
  | .BKD_MEAS_STATUS => ⟨0x06078, []⟩
  | .BKD_CAL_TIME => ⟨0x06080, []⟩
  | .BKD_CAL_DATE => ⟨0x06084, []⟩
  | .BKD_CAL_SET_TIME => ⟨0x06088, []⟩
  | .BKD_CAL_SET_DATE => ⟨0x0608C, []⟩
  | .BKD_WKPIN => ⟨0x06090, []⟩
  | .BKD_MIDWAKE => ⟨0x06094, []⟩
  | .BKD_BKCRC => ⟨0x06098, []⟩
  | .BKD_BK => ⟨0x060C0, [(16, 0x4)]⟩
  | .RETN_STATUS => ⟨0x07040, []⟩
  | .RETN_KEEP => ⟨0x07080, [(11, 0x4)]⟩
  | .RETN_SEAL => ⟨0x070C0, [(11, 0x4)]⟩
  | .RETN_LOST => ⟨0x07100, [(11, 0x4)]⟩
  | .RETN_BAD => ⟨0x07140, [(11, 0x4)]⟩
  | .RETN_UNVER => ⟨0x07180, [(11, 0x4)]⟩
  | .EVR_STATUS => ⟨0x08040, [(2, 0x1000)]⟩
  | .EVR_FIRE => ⟨0x08048, [(2, 0x1000), (2, 0x4)]⟩
  | .EVR_CFG => ⟨0x08100, [(2, 0x1000), (64, 0x10)]⟩
  | .EVR_GUARD => ⟨0x08104, [(2, 0x1000), (64, 0x10)]⟩
  | .EVR_CSTAT => ⟨0x08108, [(2, 0x1000), (64, 0x10)]⟩
  | .EVR_CCOUNT => ⟨0x0810C, [(2, 0x1000), (64, 0x10)]⟩
  | .EVR_TSEL => ⟨0x08800, [(224, 0x8)]⟩
  | .EVR_TSTAT => ⟨0x08804, [(224, 0x8)]⟩
  | .EVR_PTAP => ⟨0x09500, [(16, 0x4)]⟩
  | .EVR_GIN => ⟨0x09540, [(8, 0x4)]⟩
  | .EVR_GOUT => ⟨0x09560, [(8, 0x4)]⟩
  | .EVR_CIRQ => ⟨0x09800, [(5, 0x10)]⟩
  | .EVR_CIRQ_OVR => ⟨0x09804, [(5, 0x10)]⟩
  | .EVL_STATUS => ⟨0x0A040, []⟩
  | .EVL_CELL_IN => ⟨0x0A100, [(32, 0x10)]⟩
  | .EVL_CELL_TT => ⟨0x0A104, [(32, 0x10)]⟩
  | .EVL_CELL_MODE => ⟨0x0A108, [(32, 0x10)]⟩
  | .EVL_CELL_STAT => ⟨0x0A10C, [(32, 0x10)]⟩
  | .BASKET_STATUS => ⟨0x0B040, []⟩
  | .BS_CTRL => ⟨0x0B100, [(8, 0x40)]⟩
  | .BS_STATE => ⟨0x0B104, [(8, 0x40)]⟩
  | .BS_SEAM => ⟨0x0B108, [(8, 0x40)]⟩
  | .BS_TARGET_LO => ⟨0x0B10C, [(8, 0x40)]⟩
  | .BS_TARGET_HI => ⟨0x0B110, [(8, 0x40)]⟩
  | .BS_PNUM_LO => ⟨0x0B114, [(8, 0x40)]⟩
  | .BS_PNUM_HI => ⟨0x0B118, [(8, 0x40)]⟩
  | .BS_PEPOCH_LO => ⟨0x0B11C, [(8, 0x40)]⟩
  | .BS_PEPOCH_HI => ⟨0x0B120, [(8, 0x40)]⟩
  | .BS_INFO => ⟨0x0B124, [(8, 0x40)]⟩
  | .BS_ADDR => ⟨0x0B128, [(8, 0x40)]⟩
  | .BS_MASK => ⟨0x0B12C, [(8, 0x40)]⟩
  | .BS_VALUE => ⟨0x0B130, [(8, 0x40)]⟩
  | .BS_RIDX => ⟨0x0B134, [(8, 0x40)]⟩
  | .BS_RDATA => ⟨0x0B138, [(8, 0x40)]⟩
  | .SEAM_CFG => ⟨0x0C040, [(48, 0x4)]⟩
  | .SEAM_NUM_LO => ⟨0x0C100, [(48, 0x10)]⟩
  | .SEAM_NUM_HI => ⟨0x0C104, [(48, 0x10)]⟩
  | .SEAM_EPOCH_LO => ⟨0x0C108, [(48, 0x10)]⟩
  | .SEAM_EPOCH_HI => ⟨0x0C10C, [(48, 0x10)]⟩
  | .SEAM_SOFT => ⟨0x0C400, []⟩
  | .SEAM_STATUS => ⟨0x0C404, []⟩
  | .ANG_CTRL => ⟨0x10040, [(8, 0x1000), (4, 0x40)]⟩
  | .ANG_CFG => ⟨0x10044, [(8, 0x1000), (4, 0x40)]⟩
  | .ANG_LOOP => ⟨0x10048, [(8, 0x1000), (4, 0x40)]⟩
  | .ANG_COAST => ⟨0x1004C, [(8, 0x1000), (4, 0x40)]⟩
  | .ANG_STATUS => ⟨0x10050, [(8, 0x1000), (4, 0x40)]⟩
  | .ANG_POS_LO => ⟨0x10054, [(8, 0x1000), (4, 0x40)]⟩
  | .ANG_POS_HI => ⟨0x10058, [(8, 0x1000), (4, 0x40)]⟩
  | .ANG_WRAP => ⟨0x1005C, [(8, 0x1000), (4, 0x40)]⟩
  | .ANG_SPEED => ⟨0x10060, [(8, 0x1000), (4, 0x40)]⟩
  | .ANG_EPOCH_LO => ⟨0x10064, [(8, 0x1000), (4, 0x40)]⟩
  | .ANG_EPOCH_HI => ⟨0x10068, [(8, 0x1000), (4, 0x40)]⟩
  | .ANG_PRESET_LO => ⟨0x1006C, [(8, 0x1000), (4, 0x40)]⟩
  | .ANG_PRESET_HI => ⟨0x10070, [(8, 0x1000), (4, 0x40)]⟩
  | .ANG_TBL_IDX => ⟨0x10074, [(8, 0x1000), (4, 0x40)]⟩
  | .ANG_TBL_DATA => ⟨0x10078, [(8, 0x1000), (4, 0x40)]⟩
  | .ANG_TBL_CTRL => ⟨0x1007C, [(8, 0x1000), (4, 0x40)]⟩
  | .CMP_CTRL => ⟨0x10400, [(8, 0x1000), (4, 0x80), (8, 0x10)]⟩
  | .CMP_TGT_LO => ⟨0x10404, [(8, 0x1000), (4, 0x80), (8, 0x10)]⟩
  | .CMP_TGT_HI => ⟨0x10408, [(8, 0x1000), (4, 0x80), (8, 0x10)]⟩
  | .CMP_STEP => ⟨0x1040C, [(8, 0x1000), (4, 0x80), (8, 0x10)]⟩
  | .TACH_CFG => ⟨0x18040, [(32, 0x4)]⟩
  | .TACH_STAMP_LO => ⟨0x18100, [(32, 0x8)]⟩
  | .TACH_STAMP_HI => ⟨0x18104, [(32, 0x8)]⟩
  | .TACH_COUNT => ⟨0x18200, [(32, 0x4)]⟩
  | .TACH_LEVEL => ⟨0x18280, []⟩
  | .TACH_OVR => ⟨0x18284, []⟩
  | .TACH_MISC => ⟨0x18288, []⟩
  | .AIN_CTRL => ⟨0x20040, []⟩
  | .AIN_EPOCH_DIV => ⟨0x20044, []⟩
  | .AIN_PRESET_LO => ⟨0x20048, []⟩
  | .AIN_PRESET_HI => ⟨0x2004C, []⟩
  | .AIN_EPOCH_LO => ⟨0x20050, []⟩
  | .AIN_EPOCH_HI => ⟨0x20054, []⟩
  | .AIN_ALIGN => ⟨0x20058, []⟩
  | .AIN_ALIGN_OFS => ⟨0x2005C, []⟩
  | .AIN_ALIGN_STATUS => ⟨0x20060, []⟩
  | .AIN_ALIGN_RATE => ⟨0x20064, []⟩
  | .AIN_STATUS => ⟨0x20068, []⟩
  | .AIN_CHEN => ⟨0x20080, [(6, 0x4)]⟩
  | .AIN_CHCOUNT => ⟨0x20098, []⟩
  | .AIN_GRP_PWR => ⟨0x2009C, []⟩
  | .AIN_SPARE => ⟨0x200C0, [(12, 0x4)]⟩
  | .AIN_MOD_PRES => ⟨0x20100, []⟩
  | .AIN_MOD_CHG => ⟨0x20104, []⟩
  | .AIN_MOD_STATE => ⟨0x20140, [(12, 0x4)]⟩
  | .AIN_IDBUF => ⟨0x20180, [(34, 0x4)]⟩
  | .AIN_IDCOMMIT => ⟨0x20210, []⟩
  | .MOD_ID => ⟨0x20300, [(12, 0x10)]⟩
  | .MOD_BIAS => ⟨0x20304, [(12, 0x10)]⟩
  | .MOD_SER_LO => ⟨0x20308, [(12, 0x10)]⟩
  | .MOD_SER_HI => ⟨0x2030C, [(12, 0x10)]⟩
  | .CH_GAIN => ⟨0x20400, [(192, 0x10)]⟩
  | .CH_OFFSET => ⟨0x20404, [(192, 0x10)]⟩
  | .CH_CORNER => ⟨0x20408, [(192, 0x10)]⟩
  | .CH_FLAGS => ⟨0x2040C, [(192, 0x10)]⟩
  | .ADC_CTRL => ⟨0x21040, []⟩
  | .ADC_CFG => ⟨0x21044, []⟩
  | .ADC_SLICE_MAP => ⟨0x21048, []⟩
  | .ADC_ROT => ⟨0x2104C, []⟩
  | .ADC_DRIFT_LIM => ⟨0x21050, []⟩
  | .ADC_STATUS => ⟨0x21054, []⟩
  | .ADC_SLICE => ⟨0x21060, [(9, 0x4)]⟩
  | .ADC_DRIFT_OFS => ⟨0x210A0, [(9, 0x8)]⟩
  | .ADC_DRIFT_GAIN => ⟨0x210A4, [(9, 0x8)]⟩
  | .ADCCAL_CTRL => ⟨0x22100, [(9, 0x100)]⟩
  | .ADCCAL_STATUS => ⟨0x22104, [(9, 0x100)]⟩
  | .ADCCAL_OFFSET => ⟨0x22110, [(9, 0x100), (2, 0x70)]⟩
  | .ADCCAL_GAIN => ⟨0x22114, [(9, 0x100), (2, 0x70)]⟩
  | .ADCCAL_LIN => ⟨0x22118, [(9, 0x100), (2, 0x70), (16, 0x4)]⟩
  | .RESULT_CTRL => ⟨0x23040, []⟩
  | .RESULT_START => ⟨0x23044, []⟩
  | .RESULT_STATUS => ⟨0x23048, []⟩
  | .RESULT_OVR => ⟨0x2304C, []⟩
  | .RESULT_MISS => ⟨0x23050, []⟩
  | .RESULT_SEQ => ⟨0x23080, [(32, 0x4)]⟩
  | .RESULT => ⟨0x23100, [(32, 0x4)]⟩
  | .CH_TRIM => ⟨0x24040, [(8, 0x1000), (24, 0x10)]⟩
  | .CH_STAT => ⟨0x24044, [(8, 0x1000), (24, 0x10)]⟩
  | .SPARE_TRIM => ⟨0x24400, [(12, 0x4)]⟩
  | .STR_CTRL => ⟨0x2C040, [(4, 0x1000), (16, 0x40)]⟩
  | .STR_CFG => ⟨0x2C044, [(4, 0x1000), (16, 0x40)]⟩
  | .STR_CH => ⟨0x2C048, [(4, 0x1000), (16, 0x40), (4, 0x4)]⟩
  | .STR_STATUS => ⟨0x2C058, [(4, 0x1000), (16, 0x40)]⟩
  | .STR_SEQ_LO => ⟨0x2C05C, [(4, 0x1000), (16, 0x40)]⟩
  | .STR_SEQ_HI => ⟨0x2C060, [(4, 0x1000), (16, 0x40)]⟩
  | .STR_HDR_CNT => ⟨0x2C064, [(4, 0x1000), (16, 0x40)]⟩
  | .RL_CTRL => ⟨0x30040, [(2, 0x1000), (8, 0x40)]⟩
  | .RL_CFG => ⟨0x30044, [(2, 0x1000), (8, 0x40)]⟩
  | .RL_RING_BASE => ⟨0x30048, [(2, 0x1000), (8, 0x40)]⟩
  | .RL_RING_RECS => ⟨0x3004C, [(2, 0x1000), (8, 0x40)]⟩
  | .RL_RING_WR => ⟨0x30050, [(2, 0x1000), (8, 0x40)]⟩
  | .RL_STATUS => ⟨0x30054, [(2, 0x1000), (8, 0x40)]⟩
  | .RL_SEQ_LO => ⟨0x30058, [(2, 0x1000), (8, 0x40)]⟩
  | .RL_SEQ_HI => ⟨0x3005C, [(2, 0x1000), (8, 0x40)]⟩
  | .RL_TBL_IDX => ⟨0x30060, [(2, 0x1000), (8, 0x40)]⟩
  | .RL_TBL_DATA => ⟨0x30064, [(2, 0x1000), (8, 0x40)]⟩
  | .RL_FILL => ⟨0x30068, [(2, 0x1000), (8, 0x40)]⟩
  | .LINE_CFG => ⟨0x38040, []⟩
  | .LINE_SHORT => ⟨0x38044, []⟩
  | .LINE_SHORT_WM => ⟨0x38048, []⟩
  | .LINE_WSTATE => ⟨0x3804C, []⟩
  | .LINE_SHORT_DROP => ⟨0x38050, []⟩
  | .LINE_FETCH_CTRL => ⟨0x38060, []⟩
  | .LINE_FETCH_IDX => ⟨0x38064, []⟩
  | .LINE_FETCH_DST_LO => ⟨0x38068, []⟩
  | .LINE_FETCH_DST_HI => ⟨0x3806C, []⟩
  | .LINE_FETCH_STATUS => ⟨0x38070, []⟩
  | .LINE_CTRL => ⟨0x38400, [(64, 0x20)]⟩
  | .LINE_BASE => ⟨0x38404, [(64, 0x20)]⟩
  | .LINE_SIZE => ⟨0x38408, [(64, 0x20)]⟩
  | .LINE_WR => ⟨0x3840C, [(64, 0x20)]⟩
  | .LINE_SEQ_LO => ⟨0x38410, [(64, 0x20)]⟩
  | .LINE_SEQ_HI => ⟨0x38414, [(64, 0x20)]⟩
  | .LINE_STATUS => ⟨0x38418, [(64, 0x20)]⟩
  | .LINE_AVAIL => ⟨0x3841C, [(64, 0x20)]⟩
  | .PEG_SEL => ⟨0x39040, []⟩
  | .PEG_CMD => ⟨0x39044, []⟩
  | .PEG_LINE => ⟨0x39048, []⟩
  | .PEG_FIRST => ⟨0x3904C, []⟩
  | .PEG_COUNT => ⟨0x39050, []⟩
  | .PEG_BEFORE => ⟨0x39054, []⟩
  | .PEG_AFTER => ⟨0x39058, []⟩
  | .PEG_STATE => ⟨0x3905C, []⟩
  | .PEG_STATUS => ⟨0x39060, []⟩
  | .PEG_TRIG => ⟨0x39080, [(8, 0x4)]⟩
  | .PEG_BUSY => ⟨0x390C0, [(8, 0x4)]⟩
  | .HBMC_CFG => ⟨0x3A040, [(4, 0x1000)]⟩
  | .HBMC_CTRL => ⟨0x3A044, [(4, 0x1000)]⟩
  | .HBMC_STATE => ⟨0x3A048, [(4, 0x1000)]⟩
  | .HBMC_ECC_CE => ⟨0x3A04C, [(4, 0x1000)]⟩
  | .HBMC_ECC_UE => ⟨0x3A050, [(4, 0x1000)]⟩
  | .HBMC_UE_ADDR_LO => ⟨0x3A054, [(4, 0x1000)]⟩
  | .HBMC_UE_ADDR_HI => ⟨0x3A058, [(4, 0x1000)]⟩
  | .HBMC_UE_INFO => ⟨0x3A05C, [(4, 0x1000)]⟩
  | .HBMC_ECS => ⟨0x3A060, [(4, 0x1000)]⟩
  | .HBMC_REPAIR => ⟨0x3A064, [(4, 0x1000)]⟩
  | .HBMC_TIDX => ⟨0x3A070, [(4, 0x1000)]⟩
  | .HBMC_TDATA => ⟨0x3A074, [(4, 0x1000)]⟩
  | .GOV_CEIL => ⟨0x3E040, []⟩
  | .GOV_LIMIT => ⟨0x3E044, [(4, 0x4)]⟩
  | .GOV_STATUS => ⟨0x3E054, []⟩
  | .GOV_PEAK => ⟨0x3E058, []⟩
  | .GOV_HELD => ⟨0x3E05C, []⟩
  | .RINSE_CTRL => ⟨0x3E070, []⟩
  | .RINSE_POS => ⟨0x3E074, []⟩
  | .RINSE_PASS => ⟨0x3E078, []⟩
  | .RINSE_FIX => ⟨0x3E07C, []⟩
  | .WEL_CTRL => ⟨0x40040, [(18, 0x1000)]⟩
  | .WEL_STATUS => ⟨0x40044, [(18, 0x1000)]⟩
  | .WEL_FAULT_PC => ⟨0x40048, [(18, 0x1000)]⟩
  | .WEL_JOB_DST => ⟨0x4004C, [(18, 0x1000)]⟩
  | .WEL_CYCLES => ⟨0x40050, [(18, 0x1000)]⟩
  | .WEL_JOBS => ⟨0x40054, [(18, 0x1000)]⟩
  | .WEL_ARITH => ⟨0x40058, [(18, 0x1000)]⟩
  | .WEL_LMEM_ECC => ⟨0x4005C, [(18, 0x1000)]⟩
  | .WEL_MFAULT => ⟨0x40100, [(18, 0x1000)]⟩
  | .CS_CTRL => ⟨0x40104, [(18, 0x1000)]⟩
  | .CS_STATUS => ⟨0x40108, [(18, 0x1000)]⟩
  | .CS_ADDR => ⟨0x4010C, [(18, 0x1000)]⟩
  | .CS_DATA => ⟨0x40110, [(18, 0x1000), (5, 0x4)]⟩
  | .CS_DATA5 => ⟨0x40124, [(18, 0x1000)]⟩
  | .CS_SRC => ⟨0x40128, [(18, 0x1000)]⟩
  | .CS_PATCHES => ⟨0x4012C, [(18, 0x1000)]⟩
  | .CS_EXPECT => ⟨0x40140, [(18, 0x1000), (8, 0x4)]⟩
  | .WEL_TBL_CTRL => ⟨0x40160, [(18, 0x1000)]⟩
  | .WEL_TBL_STATUS => ⟨0x40164, [(18, 0x1000)]⟩
  | .WEL_TBL_BASE => ⟨0x40168, [(18, 0x1000), (2, 0x4)]⟩
  | .WEL_TBL_SIZE => ⟨0x40170, [(18, 0x1000)]⟩
  | .WELQ_CTRL => ⟨0x52040, []⟩
  | .WELQ_STATUS => ⟨0x52044, []⟩
  | .WELQ_MAP => ⟨0x52048, [(4, 0x4)]⟩
  | .WELQ_FLEN => ⟨0x52060, [(4, 0x4)]⟩
  | .WELQ_DFRAME_LO => ⟨0x52100, [(4, 0x10)]⟩
  | .WELQ_DFRAME_HI => ⟨0x52104, [(4, 0x10)]⟩
  | .WELQ_DVALUE => ⟨0x52108, [(4, 0x10)]⟩
  | .WELQ_DCOUNT => ⟨0x5210C, [(4, 0x10)]⟩
  | .WELQ_TPL_ADDR => ⟨0x52200, [(16, 0x8)]⟩
  | .WELQ_TPL_CTRL => ⟨0x52204, [(16, 0x8)]⟩
  | .WELQ_QCFG => ⟨0x52400, [(64, 0x10)]⟩
  | .WELQ_QHEAD => ⟨0x52404, [(64, 0x10)]⟩
  | .WELQ_QTAIL => ⟨0x52408, [(64, 0x10)]⟩
  | .WELQ_QSTAT => ⟨0x5240C, [(64, 0x10)]⟩
  | .PZL_CTRL => ⟨0x58040, [(4, 0x1000)]⟩
  | .PZL_CFG => ⟨0x58044, [(4, 0x1000)]⟩
  | .PZL_STATUS => ⟨0x58048, [(4, 0x1000)]⟩
  | .PZL_LANE => ⟨0x5804C, [(4, 0x1000)]⟩
  | .PZL_LERR => ⟨0x58050, [(4, 0x1000), (3, 0x4)]⟩
  | .PZL_RETRY => ⟨0x5805C, [(4, 0x1000)]⟩
  | .PZL_DROP => ⟨0x58060, [(4, 0x1000)]⟩
  | .PZL_CREDIT => ⟨0x58064, [(4, 0x1000)]⟩
  | .PZL_NAKS => ⟨0x58068, [(4, 0x1000)]⟩
  | .PZL_PUSH_CFG => ⟨0x58080, []⟩
  | .PZL_PUSH_STATUS => ⟨0x58084, []⟩
  | .MANGLE_STATUS => ⟨0x5C040, []⟩
  | .MGL_CTRL => ⟨0x5C100, [(4, 0x20)]⟩
  | .MGL_PROB => ⟨0x5C104, [(4, 0x20)]⟩
  | .MGL_CORR => ⟨0x5C108, [(4, 0x20)]⟩
  | .MGL_XOR => ⟨0x5C10C, [(4, 0x20)]⟩
  | .MGL_DELAY => ⟨0x5C110, [(4, 0x20)]⟩
  | .MGL_COUNT => ⟨0x5C114, [(4, 0x20)]⟩
  | .BEACON_CTRL => ⟨0x5D040, []⟩
  | .BEACON_CFG => ⟨0x5D044, []⟩
  | .BEACON_PERIOD => ⟨0x5D048, []⟩
  | .BEACON_LAG => ⟨0x5D04C, []⟩
  | .BEACON_STEP => ⟨0x5D050, []⟩
  | .BEACON_STATUS => ⟨0x5D054, []⟩
  | .BEACON_TIME_LO => ⟨0x5D058, []⟩
  | .BEACON_TIME_HI => ⟨0x5D05C, []⟩
  | .BEACON_BNUM_LO => ⟨0x5D060, []⟩
  | .BEACON_BNUM_HI => ⟨0x5D064, []⟩
  | .BEACON_SET_LO => ⟨0x5D068, []⟩
  | .BEACON_SET_HI => ⟨0x5D06C, []⟩
  | .BEACON_RATE => ⟨0x5D070, []⟩
  | .BEACON_LAST_ERR => ⟨0x5D074, []⟩
  | .BEACON_DELAY => ⟨0x5D080, [(4, 0x8)]⟩
  | .BEACON_ASYM => ⟨0x5D084, [(4, 0x8)]⟩
  | .PAIR_CTRL => ⟨0x5E040, []⟩
  | .PAIR_CFG => ⟨0x5E044, []⟩
  | .PAIR_STATUS => ⟨0x5E048, []⟩
  | .PAIR_DIV_INFO => ⟨0x5E04C, []⟩
  | .PAIR_MIRROR_STAT => ⟨0x5E050, []⟩
  | .PAIR_RING_CFG => ⟨0x5E060, []⟩
  | .PAIR_RING_BREAK => ⟨0x5E064, []⟩
  | .PAIR_RING_STAT => ⟨0x5E068, []⟩
  | .UART_CTRL => ⟨0x60040, [(2, 0x1000)]⟩
  | .UART_CFG => ⟨0x60044, [(2, 0x1000)]⟩
  | .UART_BAUD => ⟨0x60048, [(2, 0x1000)]⟩
  | .UART_DE => ⟨0x6004C, [(2, 0x1000)]⟩
  | .UART_STATUS => ⟨0x60050, [(2, 0x1000)]⟩
  | .UART_RXDATA => ⟨0x60054, [(2, 0x1000)]⟩
  | .UART_RX_TO => ⟨0x60058, [(2, 0x1000)]⟩
  | .UART_RXR_BASE => ⟨0x6005C, [(2, 0x1000)]⟩
  | .UART_RXR_CFG => ⟨0x60060, [(2, 0x1000)]⟩
  | .UART_TXDATA => ⟨0x60064, [(2, 0x1000)]⟩
  | .UART_RXR_WR => ⟨0x60068, [(2, 0x1000)]⟩
  | .UART_RXR_RD => ⟨0x6006C, [(2, 0x1000)]⟩
  | .UART_TX_CTRL => ⟨0x60070, [(2, 0x1000)]⟩
  | .UART_TX_ADDR => ⟨0x60074, [(2, 0x1000)]⟩
  | .XSPI_CTRL => ⟨0x62040, []⟩
  | .XSPI_CFG => ⟨0x62044, []⟩
  | .XSPI_CMD => ⟨0x62048, []⟩
  | .XSPI_ADDR => ⟨0x6204C, []⟩
  | .XSPI_LEN => ⟨0x62050, []⟩
  | .XSPI_BUF_LO => ⟨0x62054, []⟩
  | .XSPI_BUF_HI => ⟨0x62058, []⟩
  | .XSPI_DATA => ⟨0x62060, [(2, 0x4)]⟩
  | .XSPI_POLL => ⟨0x62068, []⟩
  | .XSPI_POLL_TO => ⟨0x6206C, []⟩
  | .XSPI_STATUS => ⟨0x62070, []⟩
  | .IDB_CFG => ⟨0x63100, [(2, 0x200)]⟩
  | .IDB_CMD => ⟨0x63104, [(2, 0x200)]⟩
  | .IDB_STATUS => ⟨0x63108, [(2, 0x200)]⟩
  | .IDB_BUF => ⟨0x63140, [(2, 0x200), (64, 0x4)]⟩
  | .PMB_CFG => ⟨0x64040, []⟩
  | .PMB_CMD => ⟨0x64044, []⟩
  | .PMB_DATA => ⟨0x64048, []⟩
  | .PMB_STATUS => ⟨0x6404C, []⟩
  | .PMB_AVS => ⟨0x64060, [(2, 0x4)]⟩
  | .GPIO_CTRL => ⟨0x65040, []⟩
  | .GPIO_OUT => ⟨0x65080, [(2, 0x4)]⟩
  | .GPIO_OE => ⟨0x65088, [(2, 0x4)]⟩
  | .GPIO_IN => ⟨0x65090, [(2, 0x4)]⟩
  | .GPIO_SAFE => ⟨0x65098, [(2, 0x4)]⟩
  | .GPIO_SAFE_OE => ⟨0x650A0, [(2, 0x4)]⟩
  | .GPIO_SET => ⟨0x650B0, [(2, 0x4)]⟩
  | .GPIO_CLR => ⟨0x650B8, [(2, 0x4)]⟩
  | .GPIO_PAD => ⟨0x65100, [(48, 0x4)]⟩
  | .TIM_CTRL => ⟨0x66100, [(8, 0x20)]⟩
  | .TIM_TOP => ⟨0x66104, [(8, 0x20)]⟩
  | .TIM_CMP => ⟨0x66108, [(8, 0x20)]⟩
  | .TIM_COUNT => ⟨0x6610C, [(8, 0x20)]⟩
  | .TIM_CAPT => ⟨0x66110, [(8, 0x20)]⟩
  | .WD_CTRL => ⟨0x67100, [(5, 0x20)]⟩
  | .WD_TIMEOUT => ⟨0x67104, [(5, 0x20)]⟩
  | .WD_WINDOW => ⟨0x67108, [(5, 0x20)]⟩
  | .WD_KICK => ⟨0x6710C, [(5, 0x20)]⟩
  | .WD_STATUS => ⟨0x67110, [(5, 0x20)]⟩
  | .CRY_CMD => ⟨0x68040, []⟩
  | .CRY_STATUS => ⟨0x68044, []⟩
  | .CRY_SRC_LO => ⟨0x68048, []⟩
  | .CRY_SRC_HI => ⟨0x6804C, []⟩
  | .CRY_DST_LO => ⟨0x68050, []⟩
  | .CRY_DST_HI => ⟨0x68054, []⟩
  | .CRY_LEN => ⟨0x68058, []⟩
  | .CRY_MTYPE => ⟨0x6805C, []⟩
  | .CRY_DIGEST => ⟨0x68060, [(8, 0x4)]⟩
  | .FUSE_LIFE => ⟨0x69040, []⟩
  | .FUSE_KEYSTAT => ⟨0x69044, []⟩
  | .FUSE_ROLLBACK => ⟨0x69048, []⟩
  | .FUSE_PROG => ⟨0x6904C, []⟩
  | .FUSE_STATUS => ⟨0x69050, []⟩
  | .FUSE_PDATA => ⟨0x69080, [(8, 0x4)]⟩
  | .FUSE_KEY => ⟨0x69100, [(4, 0x20), (8, 0x4)]⟩
  | .FUSE_UID => ⟨0x69180, [(8, 0x4)]⟩
  | .BOOT_CTRL => ⟨0x6A040, []⟩
  | .BOOT_STATUS => ⟨0x6A044, []⟩
  | .BOOT_MBOX => ⟨0x6A048, []⟩
  | .BOOT_ROMVER => ⟨0x6A04C, []⟩
  | .DARN_CTRL => ⟨0x6C040, []⟩
  | .DARN_CFG => ⟨0x6C044, []⟩
  | .DARN_STATUS => ⟨0x6C048, []⟩
  | .DARN_PROP => ⟨0x6C04C, []⟩
  | .DARN_PROP_TGT => ⟨0x6C050, []⟩
  | .DARN_LOG => ⟨0x6C060, [(4, 0x4)]⟩
  | .DARN_LOG_CTRL => ⟨0x6C070, []⟩
  | .DARN_IN => ⟨0x6C080, [(4, 0x4)]⟩
  | .DARN_IN_CTRL => ⟨0x6C090, []⟩
  | .DARN_RETIRED => ⟨0x6C0A0, []⟩
  | .DARN_LNK => ⟨0x6C0A4, []⟩
  | .DARN_SPARES => ⟨0x6C0A8, []⟩
  | .DARN_BANK_IDX => ⟨0x6C0B0, []⟩
  | .DARN_BANK_INFO => ⟨0x6C0B4, []⟩
  | .DARN_CELL => ⟨0x6C0C0, [(12, 0x4)]⟩
  | .TEMP_CTRL => ⟨0x6E040, []⟩
  | .TEMP_WARN => ⟨0x6E044, []⟩
  | .TEMP_HOT => ⟨0x6E048, []⟩
  | .TEMP_STATUS => ⟨0x6E04C, []⟩
  | .TEMP_MAX => ⟨0x6E050, []⟩
  | .TEMP_V => ⟨0x6E080, [(8, 0x4)]⟩
  | .CORE_CTRL => ⟨0x70040, [(5, 0x1000)]⟩
  | .CORE_STATUS => ⟨0x70044, [(5, 0x1000)]⟩
  | .CORE_PC => ⟨0x70048, [(5, 0x1000)]⟩
  | .CORE_ECC => ⟨0x7004C, [(5, 0x1000)]⟩
  | .CORE_IRQ_PEND_LO => ⟨0x70100, [(5, 0x1000)]⟩
  | .CORE_IRQ_PEND_HI => ⟨0x70104, [(5, 0x1000)]⟩
  | .CORE_IRQ_EN_LO => ⟨0x70108, [(5, 0x1000)]⟩
  | .CORE_IRQ_EN_HI => ⟨0x7010C, [(5, 0x1000)]⟩
  | .CORE_IRQ_ID => ⟨0x70110, [(5, 0x1000)]⟩
  | .WIN => ⟨0x70200, [(5, 0x1000), (8, 0x4)]⟩
  | .RST_CAUSE => ⟨0x74300, []⟩
  | .RESTART => ⟨0x74304, []⟩

namespace Flds

def PAGE_ID : List FieldDesc := [
  ⟨"BLOCK_TYPE", 16, 16, .ro, 0, []⟩,
  ⟨"INSTANCE", 8, 8, .ro, 0, []⟩,
  ⟨"LAYOUT_VER", 0, 8, .ro, 1, []⟩]
def PAGE_VER : List FieldDesc := [⟨"IMPL_MAJOR", 8, 8, .ro, 1, []⟩, ⟨"IMPL_MINOR", 0, 8, .ro, 0, []⟩]
def PAGE_CTRL : List FieldDesc := [⟨"SOFT_RST", 1, 1, .w1s, 0, []⟩, ⟨"EN", 0, 1, .rw, 0, []⟩]
def PAGE_STATUS : List FieldDesc := [
  ⟨"BUSY", 3, 1, .ro, 0, []⟩,
  ⟨"ERR_OWNER", 2, 1, .w1c, 0, []⟩,
  ⟨"ERR_ADDR", 1, 1, .w1c, 0, []⟩,
  ⟨"ERR_RSVD", 0, 1, .w1c, 0, []⟩]
def PAGE_IRQ : List FieldDesc := [⟨"PAGE_ERR", 31, 1, .w1c, 0, []⟩, ⟨"SOURCES", 0, 31, .w1c, 0, []⟩]
def PAGE_IRQ_EN : List FieldDesc := [⟨"EN", 0, 32, .rw, 0, []⟩]
def PAGE_OWNER : List FieldDesc := [
  ⟨"LOCK", 4, 1, .w1s, 0, []⟩,
  ⟨"SEC", 3, 1, .rw, 1, []⟩,
  ⟨"OWNER", 0, 3, .rw, 7, []⟩]
def PAGE_SHADOW : List FieldDesc := [
  ⟨"SLOT_MASK", 8, 8, .ro, 0, []⟩,
  ⟨"SLOT", 1, 3, .ro, 0, []⟩,
  ⟨"STAGED", 0, 1, .ro, 0, []⟩]
def SYS_PART : List FieldDesc := [
  ⟨"PART", 16, 16, .ro, 0x4192, []⟩,
  ⟨"STEPPING", 8, 8, .ro, 1, []⟩,
  ⟨"STACKS", 0, 8, .ro, 4, []⟩]
def SYS_STRAPS : List FieldDesc := [⟨"DEVID_BAD", 5, 1, .ro, 0, []⟩, ⟨"DEVID", 0, 5, .ro, 0, []⟩]
def FAB_ERR_ADDR_LO : List FieldDesc := [⟨"ADDR_LO", 0, 32, .ro, 0, []⟩]
def FAB_ERR_ADDR_HI : List FieldDesc := [⟨"ADDR_HI", 0, 16, .ro, 0, []⟩]
def FAB_ERR_INFO : List FieldDesc := [
  ⟨"VALID", 31, 1, .w1c, 0, []⟩,
  ⟨"OVF", 30, 1, .w1c, 0, []⟩,
  ⟨"SOURCE", 8, 4, .ro, 0, []⟩,
  ⟨"WRITE", 7, 1, .ro, 0, []⟩,
  ⟨"CAUSE", 0, 4, .ro, 0, []⟩]
def PWR_CTRL : List FieldDesc := [⟨"TARGET", 0, 3, .rw, 0, [(5, 7)]⟩]
def PWR_STATUS : List FieldDesc := [
  ⟨"REFUSE", 16, 4, .ro, 0, []⟩,
  ⟨"REFUSED", 15, 1, .w1c, 0, []⟩,
  ⟨"THERM_TRIP", 14, 1, .w1c, 0, []⟩,
  ⟨"PFW_ABORT", 13, 1, .w1c, 0, []⟩,
  ⟨"PFW_NOACQ", 12, 1, .w1c, 0, []⟩,
  ⟨"PFW", 11, 1, .ro, 0, []⟩,
  ⟨"TARGET", 8, 3, .ro, 0, []⟩,
  ⟨"MODE", 0, 3, .ro, 0, []⟩]
def PWR_ASK : List FieldDesc := [⟨"ASKER", 8, 3, .ro, 0, []⟩, ⟨"MODE", 0, 3, .rw, 0, [(5, 7)]⟩]
def PWR_CFG : List FieldDesc := [⟨"NIGHT_SR", 1, 1, .rw, 1, []⟩, ⟨"S_NIGHT", 0, 1, .rw, 0, []⟩]
def PWR_PFW : List FieldDesc := [
  ⟨"CLEAR_MS", 8, 8, .rw, 0x64, [(0, 0)]⟩,
  ⟨"SLOT", 1, 3, .rw, 0, []⟩,
  ⟨"EN", 0, 1, .rw, 0, []⟩]
def PWR_LAST : List FieldDesc := [
  ⟨"FROM", 29, 3, .ro, 0, []⟩,
  ⟨"TO", 26, 3, .ro, 0, []⟩,
  ⟨"CLOCKS", 0, 26, .ro, 0, []⟩]
def WAKE_EN : List FieldDesc := [⟨"EN", 1, 18, .rw, 0x10000, []⟩]
def WAKE_PEND : List FieldDesc := [⟨"PEND", 1, 18, .w1c, 0, []⟩]
def WAKE_CFG : List FieldDesc := [⟨"CH", 8, 7, .rw, 0, []⟩, ⟨"TO", 0, 3, .rw, 0, [(3, 7)]⟩]
def WAKE_TACH : List FieldDesc := [⟨"ARM", 0, 32, .rw, 0, []⟩]
def WAKE_LAST : List FieldDesc := [⟨"RECORD", 0, 32, .ro, 0, []⟩]
def WAKE_STAMP_LO : List FieldDesc := [⟨"TICK_LO", 0, 32, .ro, 0, []⟩]
def WAKE_STAMP_HI : List FieldDesc := [⟨"TICK_HI", 0, 16, .ro, 0, []⟩]
def WAKE_COUNT : List FieldDesc := [⟨"COUNT", 0, 32, .ro, 0, []⟩]
def WAKE_STATUS : List FieldDesc := [⟨"STALE", 0, 1, .w1c, 0, []⟩]
def CLK_EN : List FieldDesc := [⟨"EN", 3, 4, .rw, 1, []⟩, ⟨"FIXED", 0, 3, .ro, 7, []⟩]
def CLK_READY : List FieldDesc := [⟨"READY", 0, 18, .ro, 0, []⟩]
def CLK_SEL : List FieldDesc := [
  ⟨"ADCREF_FREQ", 9, 2, .rw, 1, [(3, 3)]⟩,
  ⟨"ADC_REF", 8, 1, .rw, 0, []⟩,
  ⟨"ACQ_AUTO", 5, 1, .rw, 1, []⟩,
  ⟨"ACQ_SEL", 4, 1, .rw, 0, []⟩,
  ⟨"LF_AUTO", 1, 1, .rw, 1, []⟩,
  ⟨"LF_SEL", 0, 1, .rw, 0, []⟩]
def CLK_STATUS : List FieldDesc := [⟨"PEN_HELD", 1, 1, .w1c, 0, []⟩, ⟨"REFUSED", 0, 1, .w1c, 0, []⟩]
def CLKOUT_CFG : List FieldDesc := [
  ⟨"EN", 31, 1, .rw, 0, []⟩,
  ⟨"DIV", 16, 10, .rw, 0, []⟩,
  ⟨"SRC", 0, 4, .rw, 0, [(10, 15)]⟩]
def CLK_PEN : List FieldDesc := [⟨"PEN", 0, 32, .rw, 0, []⟩]
def CLKMON_CTRL : List FieldDesc := [⟨"TOL", 8, 4, .rw, 2, [(0, 0)]⟩, ⟨"AUTO_RESUME", 0, 4, .rw, 0, []⟩]
def CLKMON_FAIL : List FieldDesc := [⟨"FAIL", 0, 18, .w1c, 0, []⟩]
def CLKMON_STATE : List FieldDesc := [
  ⟨"STATE3", 6, 2, .ro, 0, []⟩,
  ⟨"STATE2", 4, 2, .ro, 0, []⟩,
  ⟨"STATE1", 2, 2, .ro, 0, []⟩,
  ⟨"STATE0", 0, 2, .ro, 0, []⟩]
def CLKMON_CMD : List FieldDesc := [⟨"RELEASE", 8, 4, .wo, 0, []⟩, ⟨"RESUME", 0, 4, .wo, 0, []⟩]
def CLKMON_TIMEOUT : List FieldDesc := [⟨"MS", 0, 16, .rw, 0x64, [(0, 0)]⟩]
def DVFS_TARGET : List FieldDesc := [⟨"ANA", 4, 3, .rw, 0, [(6, 7)]⟩, ⟨"ACQ", 0, 3, .rw, 1, [(6, 7)]⟩]
def DVFS_STATUS : List FieldDesc := [
  ⟨"FAULT_RAIL", 12, 2, .ro, 0, []⟩,
  ⟨"FAULT", 11, 1, .w1c, 0, []⟩,
  ⟨"CAPPED", 10, 1, .w1c, 0, []⟩,
  ⟨"ANA_NOW", 4, 3, .ro, 0, []⟩,
  ⟨"ACQ_NOW", 0, 3, .ro, 1, []⟩]
def DVFS_CAP : List FieldDesc := [⟨"CAP", 0, 3, .rw, 5, [(6, 7)]⟩]
def DVFS_TIMING : List FieldDesc := [⟨"SETTLE", 8, 8, .rw, 4, []⟩, ⟨"SLEW", 0, 8, .rw, 0xa, [(0, 0)]⟩]
def DVFS_VOLT : List FieldDesc := [⟨"MV", 0, 10, .rw, 0, [(0, 499), (901, 1023)]⟩]
def BKD_CTRL : List FieldDesc := [
  ⟨"CRC_CHECK", 6, 1, .w1s, 0, []⟩,
  ⟨"CAL_LOAD", 5, 1, .w1s, 0, []⟩,
  ⟨"SET", 4, 1, .w1s, 0, []⟩,
  ⟨"ALARM_ARM", 3, 1, .rw, 0, []⟩,
  ⟨"SUBST", 1, 1, .rw, 1, []⟩,
  ⟨"LFXO_EN", 0, 1, .rw, 1, []⟩]
def BKD_STATUS : List FieldDesc := [
  ⟨"VBAT_LOW", 11, 1, .ro, 0, []⟩,
  ⟨"ON_VBAT", 10, 1, .ro, 0, []⟩,
  ⟨"SUBST_ACTIVE", 9, 1, .ro, 0, []⟩,
  ⟨"PIN1", 8, 1, .w1c, 0, []⟩,
  ⟨"PIN0", 7, 1, .w1c, 0, []⟩,
  ⟨"STALE", 6, 1, .w1c, 0, []⟩,
  ⟨"ALARM", 5, 1, .w1c, 0, []⟩,
  ⟨"BK_CRC_BAD", 4, 1, .w1c, 0, []⟩,
  ⟨"OSC_STOPPED", 3, 1, .w1c, 0, []⟩,
  ⟨"TIME_LOST", 0, 1, .w1c, 1, []⟩]
def BKD_TICK_LO : List FieldDesc := [⟨"TICK_LO", 0, 32, .ro, 0, []⟩]
def BKD_TICK_HI : List FieldDesc := [⟨"TICK_HI", 0, 16, .ro, 0, []⟩]
def BKD_RAW_LO : List FieldDesc := [⟨"RAW_LO", 0, 32, .ro, 0, []⟩]
def BKD_RAW_HI : List FieldDesc := [⟨"RAW_HI", 0, 16, .ro, 0, []⟩]
def BKD_SET_LO : List FieldDesc := [⟨"SET_LO", 0, 32, .rw, 0, []⟩]
def BKD_SET_HI : List FieldDesc := [⟨"SET_HI", 0, 16, .rw, 0, []⟩]
def BKD_TRIM : List FieldDesc := [⟨"TRIM", 0, 24, .rw, 0, []⟩]
def BKD_ALARM_LO : List FieldDesc := [⟨"ALARM_LO", 0, 32, .rw, 0, []⟩]
def BKD_ALARM_HI : List FieldDesc := [⟨"ALARM_HI", 0, 16, .rw, 0, []⟩]
def BKD_MEAS_CTRL : List FieldDesc := [
  ⟨"START", 31, 1, .w1s, 0, []⟩,
  ⟨"SRC", 24, 2, .rw, 0, []⟩,
  ⟨"N", 0, 24, .rw, 1, [(0, 0)]⟩]
def BKD_MEAS_TICKS : List FieldDesc := [⟨"TICKS", 0, 32, .ro, 0, []⟩]
def BKD_MEAS_STATUS : List FieldDesc := [
  ⟨"DONE", 15, 1, .w1c, 0, []⟩,
  ⟨"ABORT", 14, 1, .w1c, 0, []⟩,
  ⟨"COARSE", 13, 1, .ro, 0, []⟩,
  ⟨"FRAC", 0, 10, .ro, 0, []⟩]
def BKD_CAL_TIME : List FieldDesc := [
  ⟨"HOUR", 16, 5, .ro, 0, []⟩,
  ⟨"MIN", 8, 6, .ro, 0, []⟩,
  ⟨"SEC", 0, 6, .ro, 0, []⟩]
def BKD_CAL_DATE : List FieldDesc := [
  ⟨"WDAY", 24, 3, .ro, 0, []⟩,
  ⟨"YEAR", 16, 8, .ro, 0, []⟩,
  ⟨"MONTH", 8, 4, .ro, 0, []⟩,
  ⟨"DAY", 0, 5, .ro, 0, []⟩]
def BKD_CAL_SET_TIME : List FieldDesc := [
  ⟨"HOUR", 16, 5, .rw, 0, []⟩,
  ⟨"MIN", 8, 6, .rw, 0, []⟩,
  ⟨"SEC", 0, 6, .rw, 0, []⟩]
def BKD_CAL_SET_DATE : List FieldDesc := [
  ⟨"WDAY", 24, 3, .rw, 0, []⟩,
  ⟨"YEAR", 16, 8, .rw, 0, [(200, 255)]⟩,
  ⟨"MONTH", 8, 4, .rw, 0, []⟩,
  ⟨"DAY", 0, 5, .rw, 0, []⟩]
def BKD_WKPIN : List FieldDesc := [
  ⟨"LEVEL", 16, 2, .ro, 0, []⟩,
  ⟨"PULL1", 13, 1, .rw, 1, []⟩,
  ⟨"POL1", 12, 1, .rw, 0, []⟩,
  ⟨"FILT1", 8, 4, .rw, 0, []⟩,
  ⟨"PULL0", 5, 1, .rw, 1, []⟩,
  ⟨"POL0", 4, 1, .rw, 0, []⟩,
  ⟨"FILT0", 0, 4, .rw, 0, []⟩]
def BKD_MIDWAKE : List FieldDesc := [
  ⟨"MAIN_EN", 8, 1, .ro, 1, []⟩,
  ⟨"ALARM", 2, 1, .rw, 0, []⟩,
  ⟨"PIN1", 1, 1, .rw, 0, []⟩,
  ⟨"PIN0", 0, 1, .rw, 0, []⟩]
def BKD_BKCRC : List FieldDesc := [⟨"CRC", 0, 16, .ro, 0, []⟩]
def BKD_BK : List FieldDesc := [⟨"BYTES", 0, 32, .rw, 0, []⟩]
def RETN_STATUS : List FieldDesc := [⟨"CANCELLED", 0, 1, .w1c, 0, []⟩]
def RETN_KEEP : List FieldDesc := [⟨"KEEP", 0, 32, .rw, 0, []⟩]
def RETN_SEAL : List FieldDesc := [⟨"SEAL", 0, 32, .rw, 0, []⟩]
def RETN_LOST : List FieldDesc := [⟨"LOST", 0, 32, .w1c, 0, []⟩]
def RETN_BAD : List FieldDesc := [⟨"BAD", 0, 32, .w1c, 0, []⟩]
def RETN_UNVER : List FieldDesc := [⟨"UNVER", 0, 32, .ro, 0, []⟩]
def EVR_STATUS : List FieldDesc := [⟨"GEN_MERGED", 0, 1, .w1c, 0, []⟩]
def EVR_FIRE : List FieldDesc := [⟨"FIRE", 0, 32, .wo, 0, []⟩]
def EVR_CFG : List FieldDesc := [
  ⟨"EN", 31, 1, .st, 0, []⟩,
  ⟨"OWNER", 28, 3, .rw, 7, []⟩,
  ⟨"SEC", 27, 1, .rw, 1, []⟩,
  ⟨"EDGE", 16, 2, .st, 0, []⟩,
  ⟨"SRC", 0, 9, .st, 0, []⟩]
def EVR_GUARD : List FieldDesc := [⟨"K", 16, 5, .st, 0xc, [(0, 3), (25, 31)]⟩, ⟨"N", 0, 16, .st, 0x40, [(0, 0)]⟩]
def EVR_CSTAT : List FieldDesc := [⟨"FIRE_MERGED", 1, 1, .w1c, 0, []⟩, ⟨"LOOP_TRIP", 0, 1, .w1c, 0, []⟩]
def EVR_CCOUNT : List FieldDesc := [⟨"COUNT", 0, 32, .ro, 0, []⟩]
def EVR_TSEL : List FieldDesc := [
  ⟨"EN", 31, 1, .st, 0, []⟩,
  ⟨"B_EN", 23, 1, .st, 0, []⟩,
  ⟨"SELB", 16, 7, .st, 0, []⟩,
  ⟨"SELA", 0, 7, .st, 0, []⟩]
def EVR_TSTAT : List FieldDesc := [
  ⟨"OVR_COUNT", 16, 16, .ro, 0, []⟩,
  ⟨"EVT_OVERRUN", 1, 1, .w1c, 0, []⟩,
  ⟨"COALESCED", 0, 1, .w1c, 0, []⟩]
def EVR_PTAP : List FieldDesc := [⟨"EN", 31, 1, .rw, 0, []⟩, ⟨"PAGE", 0, 8, .rw, 0, []⟩]
def EVR_GIN : List FieldDesc := [
  ⟨"EN", 31, 1, .rw, 0, []⟩,
  ⟨"EDGE", 8, 2, .rw, 1, [(0, 0)]⟩,
  ⟨"PIN", 0, 6, .rw, 0, [(48, 63)]⟩]
def EVR_GOUT : List FieldDesc := [
  ⟨"EN", 31, 1, .rw, 0, []⟩,
  ⟨"ACTION", 8, 2, .rw, 0, []⟩,
  ⟨"PIN", 0, 6, .rw, 0, [(48, 63)]⟩]
def EVR_CIRQ : List FieldDesc := [⟨"LATCH", 0, 32, .w1c, 0, []⟩]
def EVR_CIRQ_OVR : List FieldDesc := [⟨"OVR", 0, 32, .w1c, 0, []⟩]
def EVL_STATUS : List FieldDesc := [⟨"LOOP_CELL", 8, 5, .ro, 0, []⟩, ⟨"ERR_LOOP", 0, 1, .w1c, 0, []⟩]
def EVL_CELL_IN : List FieldDesc := [
  ⟨"INSEL3", 24, 8, .st, 0xa0, [(162, 255)]⟩,
  ⟨"INSEL2", 16, 8, .st, 0xa0, [(162, 255)]⟩,
  ⟨"INSEL1", 8, 8, .st, 0xa0, [(162, 255)]⟩,
  ⟨"INSEL0", 0, 8, .st, 0xa0, [(162, 255)]⟩]
def EVL_CELL_TT : List FieldDesc := [⟨"TT", 0, 16, .st, 0, []⟩]
def EVL_CELL_MODE : List FieldDesc := [
  ⟨"INIT", 28, 1, .st, 0, []⟩,
  ⟨"DEB", 16, 8, .st, 0, []⟩,
  ⟨"FILT", 8, 4, .st, 0, []⟩,
  ⟨"FMODE", 4, 2, .st, 0, [(3, 3)]⟩,
  ⟨"MODE", 0, 2, .st, 0, []⟩]
def EVL_CELL_STAT : List FieldDesc := [⟨"Q", 1, 1, .ro, 0, []⟩, ⟨"OUT", 0, 1, .ro, 0, []⟩]
def BASKET_STATUS : List FieldDesc := [⟨"PRESSES", 16, 16, .ro, 0, []⟩, ⟨"ARMED", 0, 8, .ro, 0, []⟩]
def BS_CTRL : List FieldDesc := [⟨"MIRROR", 8, 1, .rw, 0, []⟩, ⟨"CMD", 0, 3, .wo, 0, [(5, 7)]⟩]
def BS_STATE : List FieldDesc := [
  ⟨"TWIN_OK", 31, 1, .ro, 0, []⟩,
  ⟨"LATE", 30, 1, .ro, 0, []⟩,
  ⟨"COUNT", 20, 10, .ro, 0, []⟩,
  ⟨"SEC", 19, 1, .ro, 0, []⟩,
  ⟨"OWNER", 16, 3, .ro, 7, []⟩,
  ⟨"REASON", 8, 4, .ro, 0, []⟩,
  ⟨"STATE", 0, 3, .ro, 0, []⟩]
def BS_SEAM : List FieldDesc := [⟨"MODE", 8, 2, .rw, 0, [(2, 3)]⟩, ⟨"GEN", 0, 6, .rw, 0, [(48, 63)]⟩]
def BS_TARGET_LO : List FieldDesc := [⟨"TARGET_LO", 0, 32, .rw, 0, []⟩]
def BS_TARGET_HI : List FieldDesc := [⟨"TARGET_HI", 0, 32, .rw, 0, []⟩]
def BS_PNUM_LO : List FieldDesc := [⟨"NUM_LO", 0, 32, .ro, 0, []⟩]
def BS_PNUM_HI : List FieldDesc := [⟨"NUM_HI", 0, 32, .ro, 0, []⟩]
def BS_PEPOCH_LO : List FieldDesc := [⟨"EPOCH_LO", 0, 32, .ro, 0, []⟩]
def BS_PEPOCH_HI : List FieldDesc := [⟨"EPOCH_HI", 0, 32, .ro, 0, []⟩]
def BS_INFO : List FieldDesc := [⟨"FAIL_ENTRY", 16, 10, .ro, 0, []⟩, ⟨"DEFER", 0, 16, .ro, 0, []⟩]
def BS_ADDR : List FieldDesc := [⟨"ADDR", 0, 32, .rw, 0, []⟩]
def BS_MASK : List FieldDesc := [⟨"MASK", 0, 32, .rw, 0, []⟩]
def BS_VALUE : List FieldDesc := [⟨"VALUE", 0, 32, .wo, 0, []⟩]
def BS_RIDX : List FieldDesc := [⟨"WORD", 9, 2, .rw, 0, [(3, 3)]⟩, ⟨"INDEX", 0, 9, .rw, 0, []⟩]
def BS_RDATA : List FieldDesc := [⟨"DATA", 0, 32, .ro, 0, []⟩]
def SEAM_CFG : List FieldDesc := [
  ⟨"SRCSEL", 8, 8, .st, 0, []⟩,
  ⟨"K", 2, 6, .st, 0, []⟩,
  ⟨"EVT_EN", 1, 1, .rw, 0, []⟩,
  ⟨"EN", 0, 1, .rw, 1, []⟩]
def SEAM_NUM_LO : List FieldDesc := [⟨"NUM_LO", 0, 32, .ro, 0, []⟩]
def SEAM_NUM_HI : List FieldDesc := [⟨"NUM_HI", 0, 32, .ro, 0, []⟩]
def SEAM_EPOCH_LO : List FieldDesc := [⟨"EPOCH_LO", 0, 32, .ro, 0, []⟩]
def SEAM_EPOCH_HI : List FieldDesc := [⟨"EPOCH_HI", 0, 32, .ro, 0, []⟩]
def SEAM_SOFT : List FieldDesc := [⟨"FIRE", 0, 1, .w1s, 0, []⟩]
def SEAM_STATUS : List FieldDesc := [⟨"STALE", 1, 1, .w1c, 0, []⟩, ⟨"SOFT_MERGED", 0, 1, .w1c, 0, []⟩]
def ANG_CTRL : List FieldDesc := [
  ⟨"REACQ", 3, 1, .w1s, 0, []⟩,
  ⟨"LEARN", 2, 1, .w1s, 0, []⟩,
  ⟨"LOAD", 1, 1, .w1s, 0, []⟩,
  ⟨"EN", 0, 1, .rw, 0, []⟩]
def ANG_CFG : List FieldDesc := [
  ⟨"TBL_EN", 31, 1, .st, 0, []⟩,
  ⟨"REF_REQ", 30, 1, .st, 0, []⟩,
  ⟨"GAP_TEETH", 28, 2, .st, 0, []⟩,
  ⟨"REF_MODE", 26, 2, .st, 0, [(3, 3)]⟩,
  ⟨"RSEL", 21, 5, .st, 0, []⟩,
  ⟨"TSEL", 16, 5, .st, 0, []⟩,
  ⟨"PPR", 0, 16, .st, 1, [(0, 0)]⟩]
def ANG_LOOP : List FieldDesc := [
  ⟨"LEARN_LOG2", 24, 4, .st, 4, [(11, 15)]⟩,
  ⟨"RELOCK_EDGES", 20, 4, .st, 2, [(0, 0)]⟩,
  ⟨"COAST_GAP", 16, 4, .st, 4, [(0, 1)]⟩,
  ⟨"ACQ_EDGES", 12, 4, .st, 8, [(0, 1)]⟩,
  ⟨"ACQ_TOL", 8, 4, .st, 4, [(0, 0)]⟩,
  ⟨"KS_SHIFT", 4, 4, .st, 2, []⟩,
  ⟨"KP_SHIFT", 0, 4, .st, 1, []⟩]
def ANG_COAST : List FieldDesc := [
  ⟨"ALT_EN", 21, 1, .st, 0, []⟩,
  ⟨"ALT_TSEL", 16, 5, .st, 0, []⟩,
  ⟨"COAST_REVS", 0, 16, .st, 8, []⟩]
def ANG_STATUS : List FieldDesc := [
  ⟨"TBL_DEFER", 16, 8, .ro, 0, []⟩,
  ⟨"LEARN_ABORT", 13, 1, .w1c, 0, []⟩,
  ⟨"CMP_OVF", 12, 1, .w1c, 0, []⟩,
  ⟨"DISCONT", 11, 1, .w1c, 0, []⟩,
  ⟨"REF_MISMATCH", 10, 1, .w1c, 0, []⟩,
  ⟨"LOAD_REFUSED", 9, 1, .w1c, 0, []⟩,
  ⟨"STALE", 8, 1, .w1c, 0, []⟩,
  ⟨"ALT_ACTIVE", 6, 1, .ro, 0, []⟩,
  ⟨"LEARN_BUSY", 5, 1, .ro, 0, []⟩,
  ⟨"TBL_HALF", 4, 1, .ro, 0, []⟩,
  ⟨"REF_SEEN", 3, 1, .ro, 0, []⟩,
  ⟨"STATE", 0, 3, .ro, 0, []⟩]
def ANG_POS_LO : List FieldDesc := [⟨"FRAC", 0, 32, .ro, 0, []⟩]
def ANG_POS_HI : List FieldDesc := [⟨"REV", 0, 32, .ro, 0, []⟩]
def ANG_WRAP : List FieldDesc := [⟨"WRAP", 0, 32, .ro, 0, []⟩]
def ANG_SPEED : List FieldDesc := [⟨"SPEED", 0, 32, .ro, 0, []⟩]
def ANG_EPOCH_LO : List FieldDesc := [⟨"EPOCH_LO", 0, 32, .ro, 0, []⟩]
def ANG_EPOCH_HI : List FieldDesc := [⟨"EPOCH_HI", 0, 32, .ro, 0, []⟩]
def ANG_PRESET_LO : List FieldDesc := [⟨"FRAC", 0, 32, .rw, 0, []⟩]
def ANG_PRESET_HI : List FieldDesc := [⟨"REV", 0, 32, .rw, 0, []⟩]
def ANG_TBL_IDX : List FieldDesc := [
  ⟨"RD_HALF", 16, 1, .rw, 0, []⟩,
  ⟨"AUTOINC", 15, 1, .rw, 0, []⟩,
  ⟨"INDEX", 0, 10, .rw, 0, []⟩]
def ANG_TBL_DATA : List FieldDesc := [⟨"DEV", 0, 16, .rw, 0, []⟩]
def ANG_TBL_CTRL : List FieldDesc := [⟨"SWAP", 0, 1, .w1s, 0, []⟩]
def CMP_CTRL : List FieldDesc := [
  ⟨"OVF", 3, 1, .w1c, 0, []⟩,
  ⟨"FIRED", 2, 1, .w1c, 0, []⟩,
  ⟨"MODE", 0, 2, .rw, 0, []⟩]
def CMP_TGT_LO : List FieldDesc := [⟨"FRAC", 0, 32, .rw, 0, []⟩]
def CMP_TGT_HI : List FieldDesc := [⟨"REV", 0, 32, .rw, 0, []⟩]
def CMP_STEP : List FieldDesc := [⟨"STEP", 0, 32, .rw, 0, []⟩]
def TACH_CFG : List FieldDesc := [⟨"FILT", 2, 8, .st, 0, []⟩, ⟨"POL", 1, 1, .st, 0, []⟩, ⟨"EN", 0, 1, .rw, 0, []⟩]
def TACH_STAMP_LO : List FieldDesc := [⟨"STAMP_LO", 0, 32, .ro, 0, []⟩]
def TACH_STAMP_HI : List FieldDesc := [⟨"STAMP_HI", 0, 32, .ro, 0, []⟩]
def TACH_COUNT : List FieldDesc := [⟨"COUNT", 0, 32, .ro, 0, []⟩]
def TACH_LEVEL : List FieldDesc := [⟨"LEVEL", 0, 32, .ro, 0, []⟩]
def TACH_OVR : List FieldDesc := [⟨"OVR", 0, 32, .w1c, 0, []⟩]
def TACH_MISC : List FieldDesc := [⟨"STALE", 0, 1, .w1c, 0, []⟩]
def AIN_CTRL : List FieldDesc := [⟨"RUN", 0, 1, .rw, 0, []⟩]
def AIN_EPOCH_DIV : List FieldDesc := [⟨"DIV", 0, 16, .st, 0xc35, [(0, 249)]⟩]
def AIN_PRESET_LO : List FieldDesc := [⟨"PRESET_LO", 0, 32, .rw, 0, []⟩]
def AIN_PRESET_HI : List FieldDesc := [⟨"PRESET_HI", 0, 32, .rw, 0, []⟩]
def AIN_EPOCH_LO : List FieldDesc := [⟨"EPOCH_LO", 0, 32, .ro, 0, []⟩]
def AIN_EPOCH_HI : List FieldDesc := [⟨"EPOCH_HI", 0, 32, .ro, 0, []⟩]
def AIN_ALIGN : List FieldDesc := [
  ⟨"HOLD_MS", 8, 8, .rw, 0xa, [(0, 0)]⟩,
  ⟨"NUMSET", 2, 1, .rw, 0, []⟩,
  ⟨"MODE", 0, 2, .rw, 0, [(2, 3)]⟩]
def AIN_ALIGN_OFS : List FieldDesc := [⟨"OFFSET", 0, 32, .rw, 0, []⟩]
def AIN_ALIGN_STATUS : List FieldDesc := [⟨"LAST_ERR", 16, 16, .ro, 0, []⟩, ⟨"STATE", 0, 3, .ro, 0, []⟩]
def AIN_ALIGN_RATE : List FieldDesc := [⟨"RATE", 0, 32, .ro, 0, []⟩]
def AIN_STATUS : List FieldDesc := [
  ⟨"COMMIT_REFUSED", 2, 1, .w1c, 0, []⟩,
  ⟨"STEPPED", 1, 1, .w1c, 0, []⟩,
  ⟨"STALE", 0, 1, .w1c, 0, []⟩]
def AIN_CHEN : List FieldDesc := [⟨"EN", 0, 32, .st, 0, []⟩]
def AIN_CHCOUNT : List FieldDesc := [⟨"N", 0, 8, .ro, 0, []⟩]
def AIN_GRP_PWR : List FieldDesc := [⟨"RDY", 16, 12, .ro, 0, []⟩, ⟨"EN", 0, 12, .rw, 0, []⟩]
def AIN_SPARE : List FieldDesc := [⟨"EN", 4, 1, .st, 0, []⟩, ⟨"PIN", 0, 4, .st, 0, []⟩]
def AIN_MOD_PRES : List FieldDesc := [⟨"PRES", 0, 12, .ro, 0, []⟩]
def AIN_MOD_CHG : List FieldDesc := [⟨"STATE_CHG", 16, 12, .w1c, 0, []⟩, ⟨"PRES_CHG", 0, 12, .w1c, 0, []⟩]
def AIN_MOD_STATE : List FieldDesc := [
  ⟨"REASON", 8, 4, .ro, 0, []⟩,
  ⟨"FORMAT", 4, 3, .ro, 0, []⟩,
  ⟨"STATE", 0, 2, .ro, 0, []⟩]
def AIN_IDBUF : List FieldDesc := [⟨"BYTES", 0, 32, .rw, 0, []⟩]
def AIN_IDCOMMIT : List FieldDesc := [⟨"MOD", 0, 4, .wo, 0, [(12, 15)]⟩]
def MOD_ID : List FieldDesc := [⟨"POP", 16, 16, .ro, 0, []⟩, ⟨"TYPE", 0, 16, .ro, 0, []⟩]
def MOD_BIAS : List FieldDesc := [⟨"BIAS", 0, 16, .ro, 0, []⟩]
def MOD_SER_LO : List FieldDesc := [⟨"SER_LO", 0, 32, .ro, 0, []⟩]
def MOD_SER_HI : List FieldDesc := [⟨"SER_HI", 0, 32, .ro, 0, []⟩]
def CH_GAIN : List FieldDesc := [⟨"GAIN", 0, 32, .ro, 0, []⟩]
def CH_OFFSET : List FieldDesc := [⟨"OFFSET", 0, 32, .ro, 0, []⟩]
def CH_CORNER : List FieldDesc := [⟨"CORNER", 0, 32, .ro, 0, []⟩]
def CH_FLAGS : List FieldDesc := [
  ⟨"BINDABLE", 2, 1, .ro, 0, []⟩,
  ⟨"BIAS", 1, 1, .ro, 0, []⟩,
  ⟨"POP", 0, 1, .ro, 0, []⟩]
def ADC_CTRL : List FieldDesc := [
  ⟨"INIT_CAL", 3, 1, .w1s, 0, []⟩,
  ⟨"EVE_CAL", 2, 1, .rw, 0, []⟩,
  ⟨"ROT_NOW", 1, 1, .w1s, 0, []⟩,
  ⟨"ROT_EN", 0, 1, .rw, 1, []⟩]
def ADC_CFG : List FieldDesc := [
  ⟨"MID_WIN", 24, 8, .st, 0x10, []⟩,
  ⟨"DRIFT_LOG2", 16, 4, .st, 0xa, [(0, 3)]⟩,
  ⟨"CAL_LOG2", 8, 5, .st, 0x10, [(0, 11), (21, 31)]⟩,
  ⟨"ROT_SG", 0, 3, .st, 5, []⟩]
def ADC_SLICE_MAP : List FieldDesc := [
  ⟨"POS7", 28, 4, .ro, 7, []⟩,
  ⟨"POS6", 24, 4, .ro, 6, []⟩,
  ⟨"POS5", 20, 4, .ro, 5, []⟩,
  ⟨"POS4", 16, 4, .ro, 4, []⟩,
  ⟨"POS3", 12, 4, .ro, 3, []⟩,
  ⟨"POS2", 8, 4, .ro, 2, []⟩,
  ⟨"POS1", 4, 4, .ro, 1, []⟩,
  ⟨"POS0", 0, 4, .ro, 0, []⟩]
def ADC_ROT : List FieldDesc := [
  ⟨"ROT_COUNT", 16, 16, .ro, 0, []⟩,
  ⟨"ROT_DEFER", 8, 8, .ro, 0, []⟩,
  ⟨"ROT_NEXT", 4, 3, .ro, 0, []⟩,
  ⟨"SPARE", 0, 4, .ro, 8, []⟩]
def ADC_DRIFT_LIM : List FieldDesc := [⟨"GAIN_LIM", 16, 16, .rw, 0x834, []⟩, ⟨"OFS_LIM", 0, 16, .rw, 0x800, []⟩]
def ADC_STATUS : List FieldDesc := [
  ⟨"GRP_ERR", 16, 12, .w1c, 0, []⟩,
  ⟨"SHORT", 3, 1, .ro, 0, []⟩,
  ⟨"NO_SPARE", 2, 1, .ro, 0, []⟩,
  ⟨"EARLY_RUN", 1, 1, .w1c, 0, []⟩,
  ⟨"INIT_DONE", 0, 1, .ro, 0, []⟩]
def ADC_SLICE : List FieldDesc := [
  ⟨"SAT", 20, 1, .w1c, 0, []⟩,
  ⟨"CAL_FAIL", 19, 1, .w1c, 0, []⟩,
  ⟨"DRIFT", 18, 1, .w1c, 0, []⟩,
  ⟨"DRIFT_NOW", 17, 1, .ro, 0, []⟩,
  ⟨"CAL_RUNS", 8, 8, .ro, 0, []⟩,
  ⟨"HALF", 3, 1, .ro, 0, []⟩,
  ⟨"STATE", 0, 3, .ro, 0, []⟩]
def ADC_DRIFT_OFS : List FieldDesc := [⟨"OFS", 0, 32, .ro, 0, []⟩]
def ADC_DRIFT_GAIN : List FieldDesc := [⟨"GAIN", 0, 32, .ro, 0, []⟩]
def ADCCAL_CTRL : List FieldDesc := [⟨"SWAP", 0, 1, .w1s, 0, []⟩]
def ADCCAL_STATUS : List FieldDesc := [⟨"WR_IGNORED", 0, 1, .w1c, 0, []⟩]
def ADCCAL_OFFSET : List FieldDesc := [⟨"OFFSET", 0, 24, .rw, 0, []⟩]
def ADCCAL_GAIN : List FieldDesc := [⟨"GAIN", 0, 24, .rw, 0x400000, [(0, 0)]⟩]
def ADCCAL_LIN : List FieldDesc := [⟨"SLOPE", 16, 16, .rw, 0, []⟩, ⟨"BASE", 0, 16, .rw, 0, []⟩]
def RESULT_CTRL : List FieldDesc := [
  ⟨"EVERY", 16, 4, .rw, 0, []⟩,
  ⟨"LEN", 8, 6, .rw, 0x20, [(0, 0), (33, 63)]⟩,
  ⟨"TRIG", 0, 2, .rw, 0, [(3, 3)]⟩]
def RESULT_START : List FieldDesc := [⟨"START", 0, 1, .w1s, 0, []⟩]
def RESULT_STATUS : List FieldDesc := [⟨"TRIG_MERGED", 1, 1, .w1c, 0, []⟩, ⟨"SCAN_DONE", 0, 1, .w1c, 0, []⟩]
def RESULT_OVR : List FieldDesc := [⟨"OVR", 0, 32, .w1c, 0, []⟩]
def RESULT_MISS : List FieldDesc := [⟨"MISS", 0, 32, .w1c, 0, []⟩]
def RESULT_SEQ : List FieldDesc := [⟨"SRC", 8, 2, .rw, 0, []⟩, ⟨"SEL", 0, 8, .rw, 0, []⟩]
def RESULT : List FieldDesc := [⟨"NEW", 31, 1, .rc, 0, []⟩, ⟨"TAG", 24, 7, .ro, 0, []⟩, ⟨"VALUE", 0, 24, .ro, 0, []⟩]
def CH_TRIM : List FieldDesc := [⟨"OFS1", 16, 16, .st, 0, []⟩, ⟨"OFS0", 0, 16, .st, 0, []⟩]
def CH_STAT : List FieldDesc := [
  ⟨"STREAM", 16, 6, .ro, 0, []⟩,
  ⟨"BOUND", 8, 1, .ro, 0, []⟩,
  ⟨"SETTLING", 2, 1, .ro, 0, []⟩,
  ⟨"SAT", 0, 1, .w1c, 0, []⟩]
def SPARE_TRIM : List FieldDesc := [⟨"OFS1", 16, 16, .st, 0, []⟩, ⟨"OFS0", 0, 16, .st, 0, []⟩]
def STR_CTRL : List FieldDesc := [
  ⟨"HDR_NOW", 31, 1, .w1s, 0, []⟩,
  ⟨"HDR_LOG2", 16, 5, .st, 0x10, [(0, 9)]⟩,
  ⟨"TAG_LOG2", 8, 4, .st, 0xf, [(8, 14)]⟩,
  ⟨"DEST_RESULT", 2, 1, .st, 0, []⟩,
  ⟨"DEST_LINE", 1, 1, .st, 0, []⟩,
  ⟨"EN", 0, 1, .st, 0, []⟩]
def STR_CFG : List FieldDesc := [
  ⟨"LINE", 24, 6, .st, 0, []⟩,
  ⟨"NCH", 16, 5, .st, 1, [(0, 0), (17, 31)]⟩,
  ⟨"SHAFT", 13, 1, .st, 0, []⟩,
  ⟨"ENG", 8, 5, .st, 0, []⟩,
  ⟨"K", 0, 4, .st, 0, [(11, 15)]⟩]
def STR_CH : List FieldDesc := [
  ⟨"CH3", 24, 8, .st, 0, []⟩,
  ⟨"CH2", 16, 8, .st, 0, []⟩,
  ⟨"CH1", 8, 8, .st, 0, []⟩,
  ⟨"CH0", 0, 8, .st, 0, []⟩]
def STR_STATUS : List FieldDesc := [
  ⟨"DROP_COUNT", 16, 16, .ro, 0, []⟩,
  ⟨"STALE", 10, 1, .w1c, 0, []⟩,
  ⟨"CUT", 9, 1, .w1c, 0, []⟩,
  ⟨"DROP", 8, 1, .w1c, 0, []⟩,
  ⟨"FINISHING", 1, 1, .ro, 0, []⟩,
  ⟨"ACTIVE", 0, 1, .ro, 0, []⟩]
def STR_SEQ_LO : List FieldDesc := [⟨"SEQ_LO", 0, 32, .ro, 0, []⟩]
def STR_SEQ_HI : List FieldDesc := [⟨"SEQ_HI", 0, 32, .ro, 0, []⟩]
def STR_HDR_CNT : List FieldDesc := [⟨"COUNT", 0, 32, .ro, 0, []⟩]
def RL_CTRL : List FieldDesc := [
  ⟨"COPY", 9, 1, .w1s, 0, []⟩,
  ⟨"SWAP", 8, 1, .w1s, 0, []⟩,
  ⟨"DEST", 1, 2, .st, 0, [(3, 3)]⟩,
  ⟨"EN", 0, 1, .st, 0, []⟩]
def RL_CFG : List FieldDesc := [
  ⟨"LINE", 24, 6, .st, 0, []⟩,
  ⟨"REC_LOG2", 16, 5, .st, 0xa, []⟩,
  ⟨"M", 8, 5, .st, 0xa, [(0, 5), (17, 31)]⟩,
  ⟨"SRC", 0, 6, .st, 0, []⟩]
def RL_RING_BASE : List FieldDesc := [⟨"BASE", 5, 19, .st, 0, []⟩]
def RL_RING_RECS : List FieldDesc := [⟨"RECS", 0, 16, .st, 1, [(0, 0)]⟩]
def RL_RING_WR : List FieldDesc := [⟨"INDEX", 0, 16, .ro, 0, []⟩]
def RL_STATUS : List FieldDesc := [
  ⟨"TBL_DEFER", 16, 8, .ro, 0, []⟩,
  ⟨"STALE", 11, 1, .w1c, 0, []⟩,
  ⟨"DEST_OFF", 10, 1, .w1c, 0, []⟩,
  ⟨"OVR", 9, 1, .w1c, 0, []⟩,
  ⟨"ALIAS_SEEN", 8, 1, .w1c, 0, []⟩,
  ⟨"ALIAS_RISK", 5, 1, .ro, 0, []⟩,
  ⟨"HALF", 4, 1, .ro, 0, []⟩,
  ⟨"STATE", 0, 2, .ro, 0, []⟩]
def RL_SEQ_LO : List FieldDesc := [⟨"SEQ_LO", 0, 32, .ro, 0, []⟩]
def RL_SEQ_HI : List FieldDesc := [⟨"SEQ_HI", 0, 32, .ro, 0, []⟩]
def RL_TBL_IDX : List FieldDesc := [
  ⟨"AUTOINC", 9, 1, .rw, 0, []⟩,
  ⟨"RD_HALF", 8, 1, .rw, 0, []⟩,
  ⟨"INDEX", 0, 7, .rw, 0, [(83, 127)]⟩]
def RL_TBL_DATA : List FieldDesc := [⟨"DATA", 0, 32, .rw, 0, []⟩]
def RL_FILL : List FieldDesc := [⟨"FILL", 0, 7, .ro, 0, []⟩]
def LINE_CFG : List FieldDesc := [⟨"FLUSH_MS", 0, 8, .rw, 0x64, []⟩]
def LINE_SHORT : List FieldDesc := [
  ⟨"KEEP", 31, 1, .rw, 0, []⟩,
  ⟨"COUNT", 16, 11, .rw, 0, []⟩,
  ⟨"BASE", 0, 10, .rw, 0, []⟩]
def LINE_SHORT_WM : List FieldDesc := [⟨"WM", 0, 11, .rw, 0, []⟩]
def LINE_WSTATE : List FieldDesc := [
  ⟨"USED", 16, 11, .ro, 0, []⟩,
  ⟨"PENDING", 8, 8, .ro, 0, []⟩,
  ⟨"STATE", 0, 2, .ro, 1, []⟩]
def LINE_SHORT_DROP : List FieldDesc := [⟨"COUNT", 0, 32, .rc, 0, []⟩]
def LINE_FETCH_CTRL : List FieldDesc := [
  ⟨"START", 31, 1, .w1s, 0, []⟩,
  ⟨"COUNT", 8, 8, .rw, 0, []⟩,
  ⟨"LINE", 0, 6, .rw, 0, []⟩]
def LINE_FETCH_IDX : List FieldDesc := [⟨"INDEX", 0, 26, .rw, 0, []⟩]
def LINE_FETCH_DST_LO : List FieldDesc := [⟨"ADDR_LO", 0, 32, .rw, 0, []⟩]
def LINE_FETCH_DST_HI : List FieldDesc := [⟨"ADDR_HI", 0, 16, .rw, 0, []⟩]
def LINE_FETCH_STATUS : List FieldDesc := [
  ⟨"UNCORR", 23, 9, .ro, 0, []⟩,
  ⟨"UNWRITTEN", 14, 9, .ro, 0, []⟩,
  ⟨"HEM", 5, 9, .ro, 0, []⟩,
  ⟨"IGNORED", 4, 1, .w1c, 0, []⟩,
  ⟨"REASON", 1, 3, .ro, 0, []⟩,
  ⟨"DONE", 0, 1, .w1c, 0, []⟩]
def LINE_CTRL : List FieldDesc := [
  ⟨"HEM", 16, 12, .rw, 0x40, [(0, 15)]⟩,
  ⟨"FLUSH", 2, 1, .w1s, 0, []⟩,
  ⟨"FRESH", 1, 1, .rw, 1, []⟩,
  ⟨"EN", 0, 1, .rw, 0, []⟩]
def LINE_BASE : List FieldDesc := [⟨"UNITS", 0, 17, .rw, 0, []⟩]
def LINE_SIZE : List FieldDesc := [⟨"UNITS", 0, 17, .rw, 0, []⟩]
def LINE_WR : List FieldDesc := [⟨"INDEX", 0, 26, .rw, 0, []⟩]
def LINE_SEQ_LO : List FieldDesc := [⟨"SEQ_LO", 0, 32, .rw, 0, []⟩]
def LINE_SEQ_HI : List FieldDesc := [⟨"SEQ_HI", 0, 16, .rw, 0, []⟩]
def LINE_STATUS : List FieldDesc := [
  ⟨"SKIPS", 16, 16, .ro, 0, []⟩,
  ⟨"DISCARD", 2, 1, .w1c, 0, []⟩,
  ⟨"STALE", 1, 1, .w1c, 0, []⟩,
  ⟨"FILLED", 0, 1, .ro, 0, []⟩]
def LINE_AVAIL : List FieldDesc := [⟨"UNPEGGED", 0, 26, .ro, 0, []⟩]
def PEG_SEL : List FieldDesc := [⟨"PEG", 0, 8, .rw, 0, []⟩]
def PEG_CMD : List FieldDesc := [⟨"CMD", 0, 3, .wo, 0, [(0, 0), (5, 7)]⟩]
def PEG_LINE : List FieldDesc := [⟨"LINE", 0, 6, .rw, 0, []⟩]
def PEG_FIRST : List FieldDesc := [⟨"FIRST", 0, 26, .rw, 0, []⟩]
def PEG_COUNT : List FieldDesc := [⟨"COUNT", 0, 26, .rw, 0, []⟩]
def PEG_BEFORE : List FieldDesc := [⟨"BEFORE", 0, 26, .rw, 0, []⟩]
def PEG_AFTER : List FieldDesc := [⟨"AFTER", 0, 26, .rw, 0, []⟩]
def PEG_STATE : List FieldDesc := [
  ⟨"REASON", 8, 4, .ro, 0, []⟩,
  ⟨"SHORTENED", 4, 1, .ro, 0, []⟩,
  ⟨"CLIPPED", 3, 1, .ro, 0, []⟩,
  ⟨"STATE", 0, 3, .ro, 0, []⟩]
def PEG_STATUS : List FieldDesc := [⟨"TRIG_IGNORED", 1, 1, .w1c, 0, []⟩, ⟨"REFUSED", 0, 1, .w1c, 0, []⟩]
def PEG_TRIG : List FieldDesc := [⟨"EN", 8, 1, .rw, 0, []⟩, ⟨"PEG", 0, 8, .rw, 0, []⟩]
def PEG_BUSY : List FieldDesc := [⟨"BUSY", 0, 32, .ro, 0, []⟩]
def HBMC_CFG : List FieldDesc := [
  ⟨"RFM_EN", 8, 1, .rw, 1, []⟩,
  ⟨"TRAIN", 4, 2, .rw, 1, [(3, 3)]⟩,
  ⟨"RATE", 0, 3, .rw, 2, [(5, 7)]⟩]
def HBMC_CTRL : List FieldDesc := [⟨"TRAIN_START", 0, 1, .w1s, 0, []⟩]
def HBMC_STATE : List FieldDesc := [
  ⟨"TRIES", 24, 8, .ro, 0, []⟩,
  ⟨"TEMP", 16, 8, .ro, 0, []⟩,
  ⟨"HOW", 4, 2, .ro, 0, []⟩,
  ⟨"STATE", 0, 3, .ro, 0, []⟩]
def HBMC_ECC_CE : List FieldDesc := [⟨"COUNT", 0, 32, .rc, 0, []⟩]
def HBMC_ECC_UE : List FieldDesc := [⟨"COUNT", 0, 32, .rc, 0, []⟩]
def HBMC_UE_ADDR_LO : List FieldDesc := [⟨"ADDR_LO", 0, 32, .ro, 0, []⟩]
def HBMC_UE_ADDR_HI : List FieldDesc := [⟨"ADDR_HI", 0, 16, .ro, 0, []⟩]
def HBMC_UE_INFO : List FieldDesc := [
  ⟨"VALID", 31, 1, .w1c, 0, []⟩,
  ⟨"OVF", 30, 1, .w1c, 0, []⟩,
  ⟨"SRC", 0, 2, .ro, 0, []⟩]
def HBMC_ECS : List FieldDesc := [⟨"ROWS", 16, 16, .ro, 0, []⟩, ⟨"COUNT", 0, 16, .ro, 0, []⟩]
def HBMC_REPAIR : List FieldDesc := [⟨"PPR_USED", 8, 8, .ro, 0, []⟩, ⟨"LANES_USED", 0, 8, .ro, 0, []⟩]
def HBMC_TIDX : List FieldDesc := [⟨"INDEX", 0, 8, .rw, 0, []⟩]
def HBMC_TDATA : List FieldDesc := [⟨"DATA", 0, 32, .rw, 0, []⟩]
def GOV_CEIL : List FieldDesc := [⟨"CEIL", 0, 9, .st, 0x100, [(0, 15), (385, 511)]⟩]
def GOV_LIMIT : List FieldDesc := [⟨"LIMIT", 0, 9, .st, 0, [(1, 15)]⟩]
def GOV_STATUS : List FieldDesc := [⟨"HBM_UP", 0, 1, .ro, 0, []⟩]
def GOV_PEAK : List FieldDesc := [⟨"PEAK", 0, 9, .rc, 0, []⟩]
def GOV_HELD : List FieldDesc := [⟨"COUNT", 0, 32, .rc, 0, []⟩]
def RINSE_CTRL : List FieldDesc := [⟨"EN", 0, 1, .rw, 0, []⟩]
def RINSE_POS : List FieldDesc := [⟨"LINE", 26, 6, .ro, 0, []⟩, ⟨"BLOCK", 0, 26, .ro, 0, []⟩]
def RINSE_PASS : List FieldDesc := [⟨"COUNT", 0, 32, .ro, 0, []⟩]
def RINSE_FIX : List FieldDesc := [⟨"COUNT", 0, 32, .rc, 0, []⟩]
def WEL_CTRL : List FieldDesc := [
  ⟨"HALT", 2, 1, .w1s, 0, []⟩,
  ⟨"RESUME", 1, 1, .w1s, 0, []⟩,
  ⟨"SERVICE", 0, 1, .rw, 0, []⟩]
def WEL_STATUS : List FieldDesc := [
  ⟨"CAUSE", 12, 4, .ro, 0, []⟩,
  ⟨"LOGICAL", 8, 4, .ro, 0, []⟩,
  ⟨"PRIO", 6, 2, .ro, 0, []⟩,
  ⟨"STATE", 0, 3, .ro, 0, []⟩]
def WEL_FAULT_PC : List FieldDesc := [⟨"ADDR", 0, 11, .ro, 0, []⟩]
def WEL_JOB_DST : List FieldDesc := [⟨"DST", 0, 24, .ro, 0, []⟩]
def WEL_CYCLES : List FieldDesc := [⟨"COUNT", 0, 32, .rc, 0, []⟩]
def WEL_JOBS : List FieldDesc := [⟨"COUNT", 0, 32, .ro, 0, []⟩]
def WEL_ARITH : List FieldDesc := [⟨"NAN", 1, 1, .w1c, 0, []⟩, ⟨"FLUSH", 0, 1, .w1c, 0, []⟩]
def WEL_LMEM_ECC : List FieldDesc := [⟨"UE", 16, 16, .rc, 0, []⟩, ⟨"CE", 0, 16, .rc, 0, []⟩]
def WEL_MFAULT : List FieldDesc := [⟨"FIELD", 0, 5, .ro, 0, []⟩]
def CS_CTRL : List FieldDesc := [
  ⟨"INVALIDATE", 5, 1, .w1s, 0, []⟩,
  ⟨"AUTOINC", 4, 1, .rw, 0, []⟩,
  ⟨"PATCH", 3, 1, .rw, 0, []⟩,
  ⟨"VERIFY", 2, 1, .w1s, 0, []⟩,
  ⟨"CHECK", 1, 1, .w1s, 0, []⟩,
  ⟨"LOAD", 0, 1, .w1s, 0, []⟩]
def CS_STATUS : List FieldDesc := [
  ⟨"VERIFY_BAD", 9, 1, .w1c, 0, []⟩,
  ⟨"VERIFY_OK", 8, 1, .ro, 0, []⟩,
  ⟨"REASON", 4, 3, .ro, 0, []⟩,
  ⟨"ACTIVE", 1, 1, .ro, 0, []⟩,
  ⟨"VALID", 0, 1, .ro, 0, []⟩]
def CS_ADDR : List FieldDesc := [⟨"ADDR", 0, 11, .rw, 0, []⟩]
def CS_DATA : List FieldDesc := [⟨"DATA", 0, 32, .rw, 0, []⟩]
def CS_DATA5 : List FieldDesc := [⟨"DATA", 0, 16, .rw, 0, []⟩]
def CS_SRC : List FieldDesc := [⟨"OFFSET", 5, 19, .rw, 0, []⟩]
def CS_PATCHES : List FieldDesc := [⟨"COUNT", 0, 12, .ro, 0, []⟩]
def CS_EXPECT : List FieldDesc := [⟨"DIGEST", 0, 32, .rw, 0, []⟩]
def WEL_TBL_CTRL : List FieldDesc := [⟨"FSEL", 1, 2, .rw, 0, []⟩, ⟨"SWAP", 0, 1, .w1s, 0, []⟩]
def WEL_TBL_STATUS : List FieldDesc := [
  ⟨"TBL_DEFER", 16, 8, .ro, 0, []⟩,
  ⟨"WR_ACTIVE", 2, 1, .w1c, 0, []⟩,
  ⟨"HALF", 0, 1, .ro, 0, []⟩]
def WEL_TBL_BASE : List FieldDesc := [⟨"BASE", 6, 12, .rw, 0, []⟩]
def WEL_TBL_SIZE : List FieldDesc := [⟨"SIZE", 0, 12, .rw, 0, [(2049, 4095)]⟩]
def WELQ_CTRL : List FieldDesc := [⟨"HOLD", 0, 1, .rw, 1, []⟩]
def WELQ_STATUS : List FieldDesc := [
  ⟨"OVR_COUNT", 16, 16, .ro, 0, []⟩,
  ⟨"DSTALE", 5, 1, .w1c, 0, []⟩,
  ⟨"SEAM_MISSED", 4, 1, .w1c, 0, []⟩,
  ⟨"LATE", 3, 1, .w1c, 0, []⟩,
  ⟨"EVT_OVERRUN", 2, 1, .w1c, 0, []⟩,
  ⟨"DESC_BAD", 1, 1, .w1c, 0, []⟩,
  ⟨"ALL_IDLE", 0, 1, .ro, 1, []⟩]
def WELQ_MAP : List FieldDesc := [
  ⟨"PHYS3", 24, 5, .st, 0, [(18, 31)]⟩,
  ⟨"PHYS2", 16, 5, .st, 0, [(18, 31)]⟩,
  ⟨"PHYS1", 8, 5, .st, 0, [(18, 31)]⟩,
  ⟨"PHYS0", 0, 5, .st, 0, [(18, 31)]⟩]
def WELQ_FLEN : List FieldDesc := [⟨"LENGTH", 0, 16, .st, 1, []⟩]
def WELQ_DFRAME_LO : List FieldDesc := [⟨"FRAME_LO", 0, 32, .ro, 0, []⟩]
def WELQ_DFRAME_HI : List FieldDesc := [⟨"FRAME_HI", 0, 32, .ro, 0, []⟩]
def WELQ_DVALUE : List FieldDesc := [⟨"DIGEST", 0, 32, .ro, 0, []⟩]
def WELQ_DCOUNT : List FieldDesc := [⟨"LATE", 31, 1, .ro, 0, []⟩, ⟨"COUNT", 0, 16, .ro, 0, []⟩]
def WELQ_TPL_ADDR : List FieldDesc := [⟨"ADDR", 6, 18, .rw, 0, []⟩]
def WELQ_TPL_CTRL : List FieldDesc := [⟨"EN", 31, 1, .rw, 0, []⟩, ⟨"QUEUE", 0, 6, .rw, 0, []⟩]
def WELQ_QCFG : List FieldDesc := [
  ⟨"EN", 31, 1, .rw, 0, []⟩,
  ⟨"LOG2", 24, 4, .rw, 4, [(0, 1), (11, 15)]⟩,
  ⟨"BASE", 6, 18, .rw, 0, []⟩]
def WELQ_QHEAD : List FieldDesc := [⟨"HEAD", 0, 10, .ro, 0, []⟩]
def WELQ_QTAIL : List FieldDesc := [⟨"TAIL", 0, 10, .rw, 0, []⟩]
def WELQ_QSTAT : List FieldDesc := [
  ⟨"WAIT_DST", 2, 1, .ro, 0, []⟩,
  ⟨"WAIT_SEAM", 1, 1, .ro, 0, []⟩,
  ⟨"FULL", 0, 1, .ro, 0, []⟩]
def PZL_CTRL : List FieldDesc := [⟨"RETRAIN", 1, 1, .w1s, 0, []⟩, ⟨"IDLE", 0, 1, .rw, 0, []⟩]
def PZL_CFG : List FieldDesc := [
  ⟨"ACK_TO", 24, 8, .rw, 0x14, [(0, 0)]⟩,
  ⟨"RETRY_MAX", 16, 4, .rw, 8, [(0, 0)]⟩,
  ⟨"LANE_ERR_MAX", 8, 8, .rw, 0x10, [(0, 0)]⟩,
  ⟨"MAX_GEN", 0, 2, .rw, 3, [(0, 0)]⟩]
def PZL_STATUS : List FieldDesc := [
  ⟨"LANES", 6, 2, .ro, 0, []⟩,
  ⟨"GEN", 4, 2, .ro, 0, []⟩,
  ⟨"SEQ_RESET", 3, 1, .w1c, 0, []⟩,
  ⟨"STATE", 0, 3, .ro, 0, []⟩]
def PZL_LANE : List FieldDesc := [
  ⟨"BAD", 8, 3, .ro, 0, []⟩,
  ⟨"SPARE", 4, 2, .ro, 2, []⟩,
  ⟨"IN1", 2, 2, .ro, 1, []⟩,
  ⟨"IN0", 0, 2, .ro, 0, []⟩]
def PZL_LERR : List FieldDesc := [⟨"COUNT", 0, 16, .rc, 0, []⟩]
def PZL_RETRY : List FieldDesc := [⟨"RETRAINS", 16, 16, .rc, 0, []⟩, ⟨"ROUNDS", 0, 16, .rc, 0, []⟩]
def PZL_DROP : List FieldDesc := [⟨"MISROUTE", 16, 16, .rc, 0, []⟩, ⟨"MALFORMED", 0, 16, .rc, 0, []⟩]
def PZL_CREDIT : List FieldDesc := [⟨"UNITS", 0, 9, .ro, 0, []⟩]
def PZL_NAKS : List FieldDesc := [⟨"LINK", 16, 16, .rc, 0, []⟩, ⟨"TRANS", 0, 16, .rc, 0, []⟩]
def PZL_PUSH_CFG : List FieldDesc := [
  ⟨"EN", 31, 1, .rw, 0, []⟩,
  ⟨"PORT", 24, 2, .rw, 0, []⟩,
  ⟨"DEST", 0, 8, .rw, 0x3e, []⟩]
def PZL_PUSH_STATUS : List FieldDesc := [
  ⟨"QUEUED", 16, 5, .ro, 0, []⟩,
  ⟨"DROP", 15, 1, .w1c, 0, []⟩,
  ⟨"COUNT", 0, 15, .rc, 0, []⟩]
def MANGLE_STATUS : List FieldDesc := [⟨"BLOCKED", 0, 1, .w1c, 0, []⟩]
def MGL_CTRL : List FieldDesc := [
  ⟨"EN", 31, 1, .rw, 0, []⟩,
  ⟨"TYPEMASK", 16, 12, .rw, 0, []⟩,
  ⟨"CH", 8, 7, .rw, 0, []⟩,
  ⟨"TRIG", 4, 1, .rw, 0, []⟩,
  ⟨"MODE", 0, 2, .rw, 0, []⟩]
def MGL_PROB : List FieldDesc := [⟨"SEED", 16, 16, .rw, 0xace1, [(0, 0)]⟩, ⟨"PROB", 0, 16, .rw, 0, []⟩]
def MGL_CORR : List FieldDesc := [⟨"TARGET", 8, 1, .rw, 0, []⟩, ⟨"OFS", 0, 8, .rw, 0, []⟩]
def MGL_XOR : List FieldDesc := [⟨"XOR", 0, 32, .rw, 0, []⟩]
def MGL_DELAY : List FieldDesc := [⟨"NS", 0, 16, .rw, 0, []⟩]
def MGL_COUNT : List FieldDesc := [⟨"COUNT", 0, 32, .rc, 0, []⟩]
def BEACON_CTRL : List FieldDesc := [⟨"INVALIDATE", 1, 1, .w1s, 0, []⟩, ⟨"SET", 0, 1, .w1s, 0, []⟩]
def BEACON_CFG : List FieldDesc := [
  ⟨"RGAIN", 20, 2, .rw, 2, []⟩,
  ⟨"DLOG2", 16, 4, .rw, 4, [(11, 15)]⟩,
  ⟨"AUTO", 14, 1, .rw, 1, []⟩,
  ⟨"RXPORT", 12, 2, .rw, 2, []⟩,
  ⟨"TXMASK", 4, 4, .rw, 0, []⟩,
  ⟨"ROLE", 0, 1, .rw, 0, []⟩]
def BEACON_PERIOD : List FieldDesc := [⟨"NS", 0, 24, .rw, 0xf4240, [(0, 9999), (10000001, 16777215)]⟩]
def BEACON_LAG : List FieldDesc := [⟨"NS", 0, 24, .rw, 0x4e20, [(0, 999)]⟩]
def BEACON_STEP : List FieldDesc := [⟨"NS", 0, 24, .rw, 0x3e8, [(0, 0)]⟩]
def BEACON_STATUS : List FieldDesc := [
  ⟨"MASTER", 16, 5, .ro, 0, []⟩,
  ⟨"HOPS", 12, 4, .ro, 0, []⟩,
  ⟨"NO_DELAY", 4, 1, .w1c, 0, []⟩,
  ⟨"STALE", 3, 1, .w1c, 0, []⟩,
  ⟨"SEAM_LATE", 2, 1, .w1c, 0, []⟩,
  ⟨"STEPPED", 1, 1, .w1c, 0, []⟩,
  ⟨"VALID", 0, 1, .ro, 0, []⟩]
def BEACON_TIME_LO : List FieldDesc := [⟨"TIME_LO", 0, 32, .ro, 0, []⟩]
def BEACON_TIME_HI : List FieldDesc := [⟨"TIME_HI", 0, 32, .ro, 0, []⟩]
def BEACON_BNUM_LO : List FieldDesc := [⟨"BNUM_LO", 0, 32, .ro, 0, []⟩]
def BEACON_BNUM_HI : List FieldDesc := [⟨"BNUM_HI", 0, 32, .ro, 0, []⟩]
def BEACON_SET_LO : List FieldDesc := [⟨"SET_LO", 0, 32, .rw, 0, []⟩]
def BEACON_SET_HI : List FieldDesc := [⟨"SET_HI", 0, 32, .rw, 0, []⟩]
def BEACON_RATE : List FieldDesc := [⟨"RATE", 0, 32, .rw, 0, []⟩]
def BEACON_LAST_ERR : List FieldDesc := [⟨"ERR", 0, 32, .ro, 0, []⟩]
def BEACON_DELAY : List FieldDesc := [⟨"DELAY", 0, 32, .ro, 0, []⟩]
def BEACON_ASYM : List FieldDesc := [⟨"ASYM", 0, 16, .rw, 0, []⟩]
def PAIR_CTRL : List FieldDesc := [
  ⟨"ELECT_EN", 3, 1, .rw, 0, []⟩,
  ⟨"HANDOVER", 1, 1, .w1s, 0, []⟩,
  ⟨"EN", 0, 1, .rw, 0, []⟩]
def PAIR_CFG : List FieldDesc := [
  ⟨"COMMIT_EP", 24, 8, .rw, 0x40, [(0, 0)]⟩,
  ⟨"ANG_TOL", 16, 8, .rw, 0x10, []⟩,
  ⟨"BIND_TO", 8, 8, .rw, 0x64, [(0, 0)]⟩,
  ⟨"TOKEN_TO", 0, 8, .rw, 0x1e, [(0, 27)]⟩]
def PAIR_STATUS : List FieldDesc := [
  ⟨"TAKEOVERS", 16, 16, .ro, 0, []⟩,
  ⟨"TOOK_OVER", 12, 1, .w1c, 0, []⟩,
  ⟨"DIV_CAUSE", 9, 3, .ro, 0, []⟩,
  ⟨"MIRROR_DIVERGE", 8, 1, .w1c, 0, []⟩,
  ⟨"HB_LIVE", 5, 1, .ro, 0, []⟩,
  ⟨"TOKEN_LIVE", 4, 1, .ro, 0, []⟩,
  ⟨"STATE", 0, 3, .ro, 0, []⟩]
def PAIR_DIV_INFO : List FieldDesc := [⟨"INDEX", 0, 8, .ro, 0, []⟩]
def PAIR_MIRROR_STAT : List FieldDesc := [⟨"SKIPPED", 16, 16, .rc, 0, []⟩, ⟨"COMPARED", 0, 16, .rc, 0, []⟩]
def PAIR_RING_CFG : List FieldDesc := [
  ⟨"GW_EN", 13, 1, .rw, 0, []⟩,
  ⟨"GWLINK", 8, 5, .rw, 0, []⟩,
  ⟨"N", 0, 5, .rw, 0x18, []⟩]
def PAIR_RING_BREAK : List FieldDesc := [⟨"BREAK", 0, 24, .rw, 0, []⟩]
def PAIR_RING_STAT : List FieldDesc := [⟨"DROPPED", 16, 16, .rc, 0, []⟩, ⟨"FORWARDED", 0, 16, .rc, 0, []⟩]
def UART_CTRL : List FieldDesc := [
  ⟨"SEND_BREAK", 2, 1, .rw, 0, []⟩,
  ⟨"TX_EN", 1, 1, .rw, 0, []⟩,
  ⟨"RX_EN", 0, 1, .rw, 0, []⟩]
def UART_CFG : List FieldDesc := [
  ⟨"OS8", 6, 1, .rw, 0, []⟩,
  ⟨"HDX", 5, 1, .rw, 0, []⟩,
  ⟨"STOP2", 4, 1, .rw, 0, []⟩,
  ⟨"PAR", 2, 2, .rw, 0, [(3, 3)]⟩,
  ⟨"DBITS", 0, 2, .rw, 1, [(3, 3)]⟩]
def UART_BAUD : List FieldDesc := [
  ⟨"SRC", 20, 1, .rw, 1, []⟩,
  ⟨"INT", 8, 12, .rw, 0xd, [(0, 0)]⟩,
  ⟨"FRAC", 0, 8, .rw, 0x90, []⟩]
def UART_DE : List FieldDesc := [⟨"TAIL", 8, 8, .rw, 0, []⟩, ⟨"LEAD", 0, 8, .rw, 0, []⟩]
def UART_STATUS : List FieldDesc := [
  ⟨"OVR_COUNT", 16, 16, .rc, 0, []⟩,
  ⟨"TX_BUSY", 13, 1, .ro, 0, []⟩,
  ⟨"RX_BUSY", 12, 1, .ro, 0, []⟩,
  ⟨"RX_IDLE", 11, 1, .w1c, 0, []⟩,
  ⟨"TX_ABORT", 10, 1, .w1c, 0, []⟩,
  ⟨"TX_LOST", 9, 1, .w1c, 0, []⟩,
  ⟨"FIRST_LOST", 8, 1, .w1c, 0, []⟩,
  ⟨"BREAK_END", 7, 1, .w1c, 0, []⟩,
  ⟨"STUCK_LOW", 6, 1, .w1c, 0, []⟩,
  ⟨"BREAK", 5, 1, .w1c, 0, []⟩,
  ⟨"FAST_SENDER", 4, 1, .w1c, 0, []⟩,
  ⟨"FRAME", 3, 1, .w1c, 0, []⟩,
  ⟨"PARITY", 2, 1, .w1c, 0, []⟩,
  ⟨"OVERRUN", 1, 1, .w1c, 0, []⟩]
def UART_RXDATA : List FieldDesc := [
  ⟨"NEW", 31, 1, .rc, 0, []⟩,
  ⟨"BRK", 11, 1, .ro, 0, []⟩,
  ⟨"FE", 10, 1, .ro, 0, []⟩,
  ⟨"PE", 9, 1, .ro, 0, []⟩,
  ⟨"DATA", 0, 9, .ro, 0, []⟩]
def UART_RX_TO : List FieldDesc := [⟨"HALVES", 0, 12, .rw, 0, []⟩]
def UART_RXR_BASE : List FieldDesc := [⟨"BASE", 2, 20, .rw, 0, []⟩]
def UART_RXR_CFG : List FieldDesc := [
  ⟨"EN", 31, 1, .rw, 0, []⟩,
  ⟨"WIDE", 16, 1, .rw, 0, []⟩,
  ⟨"NBLK", 8, 8, .rw, 0, []⟩,
  ⟨"B", 0, 4, .rw, 4, [(0, 3), (13, 15)]⟩]
def UART_TXDATA : List FieldDesc := [⟨"DATA", 0, 9, .wo, 0, []⟩]
def UART_RXR_WR : List FieldDesc := [⟨"INDEX", 0, 8, .ro, 0, []⟩]
def UART_RXR_RD : List FieldDesc := [⟨"INDEX", 0, 8, .rw, 0, []⟩]
def UART_TX_CTRL : List FieldDesc := [
  ⟨"START", 31, 1, .w1s, 0, []⟩,
  ⟨"TX_DONE", 30, 1, .w1c, 0, []⟩,
  ⟨"WIDE", 29, 1, .rw, 0, []⟩,
  ⟨"LEN", 0, 16, .rw, 0, []⟩]
def UART_TX_ADDR : List FieldDesc := [⟨"ADDR", 0, 22, .rw, 0, []⟩]
def XSPI_CTRL : List FieldDesc := [⟨"FLASH_RST", 0, 1, .rw, 1, []⟩]
def XSPI_CFG : List FieldDesc := [
  ⟨"DIV", 16, 8, .rw, 7, []⟩,
  ⟨"DUMMY", 8, 5, .rw, 0, []⟩,
  ⟨"EXT_INV", 4, 1, .rw, 1, []⟩,
  ⟨"ADDR4", 3, 1, .rw, 0, []⟩,
  ⟨"MODE", 0, 3, .rw, 0, [(4, 7)]⟩]
def XSPI_CMD : List FieldDesc := [
  ⟨"START", 31, 1, .w1s, 0, []⟩,
  ⟨"POLL", 30, 1, .w1s, 0, []⟩,
  ⟨"CS", 13, 1, .rw, 0, []⟩,
  ⟨"DATA_REG", 12, 1, .rw, 0, []⟩,
  ⟨"WRITE", 11, 1, .rw, 0, []⟩,
  ⟨"ADDR_EN", 10, 1, .rw, 0, []⟩,
  ⟨"OPCODE", 0, 8, .rw, 0, []⟩]
def XSPI_ADDR : List FieldDesc := [⟨"ADDR", 0, 32, .rw, 0, []⟩]
def XSPI_LEN : List FieldDesc := [⟨"LEN", 0, 24, .rw, 0, []⟩]
def XSPI_BUF_LO : List FieldDesc := [⟨"ADDR", 0, 32, .rw, 0, []⟩]
def XSPI_BUF_HI : List FieldDesc := [⟨"ADDR", 0, 16, .rw, 0, []⟩]
def XSPI_DATA : List FieldDesc := [⟨"DATA", 0, 32, .rw, 0, []⟩]
def XSPI_POLL : List FieldDesc := [
  ⟨"INTERVAL", 24, 8, .rw, 0xa, [(0, 0)]⟩,
  ⟨"MATCH", 8, 8, .rw, 0, []⟩,
  ⟨"MASK", 0, 8, .rw, 1, []⟩]
def XSPI_POLL_TO : List FieldDesc := [⟨"MS", 0, 16, .rw, 0x7d0, [(0, 0)]⟩]
def XSPI_STATUS : List FieldDesc := [
  ⟨"POLLS", 16, 16, .rc, 0, []⟩,
  ⟨"LAST_POLL", 8, 8, .ro, 0, []⟩,
  ⟨"BUSY", 4, 1, .ro, 0, []⟩,
  ⟨"ABANDONED", 3, 1, .w1c, 0, []⟩,
  ⟨"BUS_ERR", 2, 1, .w1c, 0, []⟩,
  ⟨"TIMEOUT", 1, 1, .w1c, 0, []⟩,
  ⟨"DONE", 0, 1, .w1c, 0, []⟩]
def IDB_CFG : List FieldDesc := [⟨"STRETCH_MS", 8, 8, .rw, 0x19, []⟩, ⟨"SPEED", 0, 2, .rw, 0, [(3, 3)]⟩]
def IDB_CMD : List FieldDesc := [
  ⟨"START", 31, 1, .w1s, 0, []⟩,
  ⟨"RECOVER", 30, 1, .w1s, 0, []⟩,
  ⟨"RLEN", 16, 9, .rw, 0, [(257, 511)]⟩,
  ⟨"WLEN", 7, 9, .rw, 0, [(257, 511)]⟩,
  ⟨"ADDR", 0, 7, .rw, 0, [(0, 7), (120, 127)]⟩]
def IDB_STATUS : List FieldDesc := [
  ⟨"INDEX", 16, 9, .ro, 0, []⟩,
  ⟨"SDA", 9, 1, .ro, 0, []⟩,
  ⟨"SCL", 8, 1, .ro, 0, []⟩,
  ⟨"BUSY", 7, 1, .ro, 0, []⟩,
  ⟨"ABANDONED", 6, 1, .w1c, 0, []⟩,
  ⟨"STUCK", 5, 1, .w1c, 0, []⟩,
  ⟨"TIMEOUT", 4, 1, .w1c, 0, []⟩,
  ⟨"ARB_LOST", 3, 1, .w1c, 0, []⟩,
  ⟨"NACK_DATA", 2, 1, .w1c, 0, []⟩,
  ⟨"NACK_ADDR", 1, 1, .w1c, 0, []⟩,
  ⟨"DONE", 0, 1, .w1c, 0, []⟩]
def IDB_BUF : List FieldDesc := [⟨"BYTES", 0, 32, .rw, 0, []⟩]
def PMB_CFG : List FieldDesc := [
  ⟨"AVS_CLK", 4, 2, .rw, 2, [(3, 3)]⟩,
  ⟨"PEC", 2, 1, .rw, 1, []⟩,
  ⟨"SPEED", 0, 2, .rw, 1, [(3, 3)]⟩]
def PMB_CMD : List FieldDesc := [
  ⟨"START", 31, 1, .w1s, 0, []⟩,
  ⟨"READ", 30, 1, .rw, 0, []⟩,
  ⟨"LEN", 28, 2, .rw, 1, [(3, 3)]⟩,
  ⟨"ADDR", 16, 7, .rw, 0, []⟩,
  ⟨"CODE", 8, 8, .rw, 0, []⟩]
def PMB_DATA : List FieldDesc := [⟨"DATA", 0, 16, .rw, 0, []⟩]
def PMB_STATUS : List FieldDesc := [
  ⟨"PEC_ERR", 2, 1, .w1c, 0, []⟩,
  ⟨"NACK", 1, 1, .w1c, 0, []⟩,
  ⟨"DONE", 0, 1, .w1c, 0, []⟩]
def PMB_AVS : List FieldDesc := [⟨"READ_MV", 16, 16, .ro, 0, []⟩, ⟨"SET_MV", 0, 16, .ro, 0, []⟩]
def GPIO_CTRL : List FieldDesc := [⟨"HELD", 1, 1, .ro, 1, []⟩, ⟨"RELEASE", 0, 1, .w1s, 0, []⟩]
def GPIO_OUT : List FieldDesc := [⟨"OUT", 0, 32, .rw, 0, []⟩]
def GPIO_OE : List FieldDesc := [⟨"OE", 0, 32, .rw, 0, []⟩]
def GPIO_IN : List FieldDesc := [⟨"IN", 0, 32, .ro, 0, []⟩]
def GPIO_SAFE : List FieldDesc := [⟨"SAFE", 0, 32, .rw, 0, []⟩]
def GPIO_SAFE_OE : List FieldDesc := [⟨"SAFE_OE", 0, 32, .rw, 0, []⟩]
def GPIO_SET : List FieldDesc := [⟨"SET", 0, 32, .w1s, 0, []⟩]
def GPIO_CLR : List FieldDesc := [⟨"CLR", 0, 32, .w1s, 0, []⟩]
def GPIO_PAD : List FieldDesc := [
  ⟨"SLOW", 4, 1, .rw, 0, []⟩,
  ⟨"DRIVE", 2, 2, .rw, 1, []⟩,
  ⟨"PULL", 0, 2, .rw, 1, [(3, 3)]⟩]
def TIM_CTRL : List FieldDesc := [
  ⟨"CLK", 4, 2, .rw, 0, [(3, 3)]⟩,
  ⟨"ONESHOT", 1, 1, .rw, 0, []⟩,
  ⟨"RUN", 0, 1, .rw, 0, []⟩]
def TIM_TOP : List FieldDesc := [⟨"TOP", 0, 32, .rw, 0xffffffff, []⟩]
def TIM_CMP : List FieldDesc := [⟨"CMP", 0, 32, .rw, 0, []⟩]
def TIM_COUNT : List FieldDesc := [⟨"COUNT", 0, 32, .ro, 0, []⟩]
def TIM_CAPT : List FieldDesc := [⟨"CAPT", 0, 32, .ro, 0, []⟩]
def WD_CTRL : List FieldDesc := [
  ⟨"LOCK", 3, 1, .w1s, 0, []⟩,
  ⟨"ACTION", 1, 2, .rw, 0, [(3, 3)]⟩,
  ⟨"EN", 0, 1, .rw, 0, []⟩]
def WD_TIMEOUT : List FieldDesc := [⟨"MS", 0, 16, .rw, 0x3e8, [(0, 0)]⟩]
def WD_WINDOW : List FieldDesc := [⟨"MS", 0, 16, .rw, 0, []⟩]
def WD_KICK : List FieldDesc := [⟨"KEY", 0, 16, .wo, 0, []⟩]
def WD_STATUS : List FieldDesc := [
  ⟨"REMAIN", 16, 16, .ro, 0, []⟩,
  ⟨"BAD_KICK", 1, 1, .w1c, 0, []⟩,
  ⟨"EXPIRED", 0, 1, .w1c, 0, []⟩]
def CRY_CMD : List FieldDesc := [⟨"CMD", 0, 3, .wo, 0, [(0, 0), (5, 7)]⟩]
def CRY_STATUS : List FieldDesc := [
  ⟨"NMEAS", 8, 6, .ro, 0, []⟩,
  ⟨"ERR", 2, 3, .ro, 0, []⟩,
  ⟨"OK", 1, 1, .ro, 0, []⟩,
  ⟨"DONE", 0, 1, .w1c, 0, []⟩]
def CRY_SRC_LO : List FieldDesc := [⟨"ADDR", 0, 32, .rw, 0, []⟩]
def CRY_SRC_HI : List FieldDesc := [⟨"ADDR", 0, 16, .rw, 0, []⟩]
def CRY_DST_LO : List FieldDesc := [⟨"ADDR", 0, 32, .rw, 0, []⟩]
def CRY_DST_HI : List FieldDesc := [⟨"ADDR", 0, 16, .rw, 0, []⟩]
def CRY_LEN : List FieldDesc := [⟨"LEN", 0, 28, .rw, 0, []⟩]
def CRY_MTYPE : List FieldDesc := [⟨"INDEX", 16, 16, .rw, 0, []⟩, ⟨"TYPE", 0, 16, .rw, 0, []⟩]
def CRY_DIGEST : List FieldDesc := [⟨"DIGEST", 0, 32, .rw, 0, []⟩]
def FUSE_LIFE : List FieldDesc := [⟨"STATE", 0, 2, .ro, 0, []⟩]
def FUSE_KEYSTAT : List FieldDesc := [⟨"REVOKED", 8, 4, .ro, 0, []⟩, ⟨"PROGRAMMED", 0, 4, .ro, 0, []⟩]
def FUSE_ROLLBACK : List FieldDesc := [⟨"COUNT", 0, 7, .ro, 0, []⟩]
def FUSE_PROG : List FieldDesc := [⟨"OP", 4, 4, .wo, 0, [(0, 0), (6, 15)]⟩, ⟨"SLOT", 0, 2, .wo, 0, []⟩]
def FUSE_STATUS : List FieldDesc := [
  ⟨"REASON", 2, 3, .ro, 0, []⟩,
  ⟨"REFUSED", 1, 1, .w1c, 0, []⟩,
  ⟨"DONE", 0, 1, .w1c, 0, []⟩]
def FUSE_PDATA : List FieldDesc := [⟨"DATA", 0, 32, .rw, 0, []⟩]
def FUSE_KEY : List FieldDesc := [⟨"HASH", 0, 32, .ro, 0, []⟩]
def FUSE_UID : List FieldDesc := [⟨"UID", 0, 32, .ro, 0, []⟩]
def BOOT_CTRL : List FieldDesc := [⟨"MEND", 4, 1, .w1s, 0, []⟩, ⟨"MEAS_LOCK", 0, 1, .w1s, 0, []⟩]
def BOOT_STATUS : List FieldDesc := [
  ⟨"DEGRADED", 8, 1, .rw, 0, []⟩,
  ⟨"UNSIGNED", 7, 1, .rw, 0, []⟩,
  ⟨"FELL_BACK", 6, 1, .rw, 0, []⟩,
  ⟨"SLOT", 5, 1, .rw, 0, []⟩,
  ⟨"STEP", 0, 5, .rw, 0, []⟩]
def BOOT_MBOX : List FieldDesc := [
  ⟨"PEND", 31, 1, .ro, 0, []⟩,
  ⟨"DETAIL", 8, 8, .rw, 0, []⟩,
  ⟨"EVENT", 5, 3, .rw, 0, [(4, 7)]⟩,
  ⟨"STEP", 0, 5, .rw, 0, [(0, 0), (17, 31)]⟩]
def BOOT_ROMVER : List FieldDesc := [⟨"VER", 0, 32, .ro, 0x10000, []⟩]
def DARN_CTRL : List FieldDesc := [
  ⟨"AUTO_ROW", 8, 1, .rw, 1, []⟩,
  ⟨"FSEL", 4, 2, .rw, 0, []⟩,
  ⟨"DECLINE", 1, 1, .w1s, 0, []⟩,
  ⟨"CONFIRM", 0, 1, .w1s, 0, []⟩]
def DARN_CFG : List FieldDesc := [
  ⟨"LMEM_CE_MAX", 16, 8, .rw, 0x40, [(0, 0)]⟩,
  ⟨"AGE_LOG2", 8, 5, .rw, 0x1a, [(0, 9)]⟩,
  ⟨"ROW_CE_MAX", 0, 4, .rw, 4, [(0, 0)]⟩]
def DARN_STATUS : List FieldDesc := [
  ⟨"DEFER", 8, 8, .ro, 0, []⟩,
  ⟨"REFUSE", 4, 2, .ro, 0, []⟩,
  ⟨"LOG_OVF", 2, 1, .w1c, 0, []⟩,
  ⟨"PROP_OVF", 1, 1, .w1c, 0, []⟩,
  ⟨"PROP", 0, 1, .ro, 0, []⟩]
def DARN_PROP : List FieldDesc := [⟨"VALID", 31, 1, .ro, 0, []⟩, ⟨"KIND", 0, 8, .ro, 0, []⟩]
def DARN_PROP_TGT : List FieldDesc := [⟨"TARGET", 0, 32, .ro, 0, []⟩]
def DARN_LOG : List FieldDesc := [⟨"WORD", 0, 32, .ro, 0, []⟩]
def DARN_LOG_CTRL : List FieldDesc := [⟨"POP", 31, 1, .w1s, 0, []⟩, ⟨"COUNT", 0, 6, .ro, 0, []⟩]
def DARN_IN : List FieldDesc := [⟨"WORD", 0, 32, .rw, 0, []⟩]
def DARN_IN_CTRL : List FieldDesc := [⟨"APPLY", 31, 1, .w1s, 0, []⟩, ⟨"RESULT", 0, 2, .ro, 0, []⟩]
def DARN_RETIRED : List FieldDesc := [⟨"ENGINES", 9, 18, .ro, 0, []⟩, ⟨"SLICES", 0, 9, .ro, 0, []⟩]
def DARN_LNK : List FieldDesc := [⟨"BAD", 0, 12, .ro, 0, []⟩]
def DARN_SPARES : List FieldDesc := [
  ⟨"ANA", 16, 2, .ro, 2, []⟩,
  ⟨"ACQ", 12, 2, .ro, 2, []⟩,
  ⟨"SEN", 8, 2, .ro, 2, []⟩,
  ⟨"ENGINE", 4, 2, .ro, 2, []⟩,
  ⟨"SLICE", 0, 2, .ro, 1, []⟩]
def DARN_BANK_IDX : List FieldDesc := [⟨"DOMAIN", 9, 2, .rw, 0, []⟩, ⟨"BANK", 0, 9, .rw, 0, []⟩]
def DARN_BANK_INFO : List FieldDesc := [
  ⟨"PROPOSED", 20, 1, .ro, 0, []⟩,
  ⟨"ROWS", 16, 4, .ro, 0, []⟩,
  ⟨"PHYS", 0, 9, .ro, 0, []⟩]
def DARN_CELL : List FieldDesc := [⟨"EN", 4, 1, .ro, 0, []⟩, ⟨"PIN", 0, 4, .ro, 0, []⟩]
def TEMP_CTRL : List FieldDesc := [⟨"HOT_ACT", 0, 2, .rw, 0, [(3, 3)]⟩]
def TEMP_WARN : List FieldDesc := [⟨"WARN", 0, 8, .rw, 0x64, []⟩]
def TEMP_HOT : List FieldDesc := [⟨"HOT", 0, 8, .rw, 0x6e, []⟩]
def TEMP_STATUS : List FieldDesc := [⟨"HOT", 8, 8, .w1c, 0, []⟩, ⟨"WARN", 0, 8, .w1c, 0, []⟩]
def TEMP_MAX : List FieldDesc := [⟨"MAX", 0, 16, .rc, 0, []⟩]
def TEMP_V : List FieldDesc := [⟨"VALID", 16, 1, .ro, 0, []⟩, ⟨"TEMP", 0, 16, .ro, 0, []⟩]
def CORE_CTRL : List FieldDesc := [⟨"RESET", 1, 1, .w1s, 0, []⟩, ⟨"RUN", 0, 1, .rw, 0, []⟩]
def CORE_STATUS : List FieldDesc := [⟨"STATE", 0, 2, .ro, 0, []⟩]
def CORE_PC : List FieldDesc := [⟨"PC", 0, 32, .ro, 0, []⟩]
def CORE_ECC : List FieldDesc := [⟨"UE", 16, 16, .rc, 0, []⟩, ⟨"CE", 0, 16, .rc, 0, []⟩]
def CORE_IRQ_PEND_LO : List FieldDesc := [⟨"PEND", 0, 32, .ro, 0, []⟩]
def CORE_IRQ_PEND_HI : List FieldDesc := [⟨"PEND", 0, 32, .ro, 0, []⟩]
def CORE_IRQ_EN_LO : List FieldDesc := [⟨"EN", 0, 32, .rw, 0, []⟩]
def CORE_IRQ_EN_HI : List FieldDesc := [⟨"EN", 0, 32, .rw, 0, []⟩]
def CORE_IRQ_ID : List FieldDesc := [⟨"NONE", 6, 1, .ro, 1, []⟩, ⟨"INPUT", 0, 6, .ro, 0, []⟩]
def WIN : List FieldDesc := [⟨"EN", 31, 1, .rw, 0, []⟩, ⟨"BASE", 0, 20, .rw, 0, []⟩]
def RST_CAUSE : List FieldDesc := [⟨"CAUSE", 0, 4, .ro, 0, []⟩]
def RESTART : List FieldDesc := [⟨"KEY", 0, 16, .wo, 0, []⟩]

end Flds

/-- The fields of each register, from the register tables. -/
def Reg.fields : Reg → List FieldDesc
  | .PAGE_ID => Flds.PAGE_ID
  | .PAGE_VER => Flds.PAGE_VER
  | .PAGE_CTRL => Flds.PAGE_CTRL
  | .PAGE_STATUS => Flds.PAGE_STATUS
  | .PAGE_IRQ => Flds.PAGE_IRQ
  | .PAGE_IRQ_EN => Flds.PAGE_IRQ_EN
  | .PAGE_OWNER => Flds.PAGE_OWNER
  | .PAGE_SHADOW => Flds.PAGE_SHADOW
  | .SYS_PART => Flds.SYS_PART
  | .SYS_STRAPS => Flds.SYS_STRAPS
  | .FAB_ERR_ADDR_LO => Flds.FAB_ERR_ADDR_LO
  | .FAB_ERR_ADDR_HI => Flds.FAB_ERR_ADDR_HI
  | .FAB_ERR_INFO => Flds.FAB_ERR_INFO
  | .PWR_CTRL => Flds.PWR_CTRL
  | .PWR_STATUS => Flds.PWR_STATUS
  | .PWR_ASK => Flds.PWR_ASK
  | .PWR_CFG => Flds.PWR_CFG
  | .PWR_PFW => Flds.PWR_PFW
  | .PWR_LAST => Flds.PWR_LAST
  | .WAKE_EN => Flds.WAKE_EN
  | .WAKE_PEND => Flds.WAKE_PEND
  | .WAKE_CFG => Flds.WAKE_CFG
  | .WAKE_TACH => Flds.WAKE_TACH
  | .WAKE_LAST => Flds.WAKE_LAST
  | .WAKE_STAMP_LO => Flds.WAKE_STAMP_LO
  | .WAKE_STAMP_HI => Flds.WAKE_STAMP_HI
  | .WAKE_COUNT => Flds.WAKE_COUNT
  | .WAKE_STATUS => Flds.WAKE_STATUS
  | .CLK_EN => Flds.CLK_EN
  | .CLK_READY => Flds.CLK_READY
  | .CLK_SEL => Flds.CLK_SEL
  | .CLK_STATUS => Flds.CLK_STATUS
  | .CLKOUT_CFG => Flds.CLKOUT_CFG
  | .CLK_PEN => Flds.CLK_PEN
  | .CLKMON_CTRL => Flds.CLKMON_CTRL
  | .CLKMON_FAIL => Flds.CLKMON_FAIL
  | .CLKMON_STATE => Flds.CLKMON_STATE
  | .CLKMON_CMD => Flds.CLKMON_CMD
  | .CLKMON_TIMEOUT => Flds.CLKMON_TIMEOUT
  | .DVFS_TARGET => Flds.DVFS_TARGET
  | .DVFS_STATUS => Flds.DVFS_STATUS
  | .DVFS_CAP => Flds.DVFS_CAP
  | .DVFS_TIMING => Flds.DVFS_TIMING
  | .DVFS_VOLT => Flds.DVFS_VOLT
  | .BKD_CTRL => Flds.BKD_CTRL
  | .BKD_STATUS => Flds.BKD_STATUS
  | .BKD_TICK_LO => Flds.BKD_TICK_LO
  | .BKD_TICK_HI => Flds.BKD_TICK_HI
  | .BKD_RAW_LO => Flds.BKD_RAW_LO
  | .BKD_RAW_HI => Flds.BKD_RAW_HI
  | .BKD_SET_LO => Flds.BKD_SET_LO
  | .BKD_SET_HI => Flds.BKD_SET_HI
  | .BKD_TRIM => Flds.BKD_TRIM
  | .BKD_ALARM_LO => Flds.BKD_ALARM_LO
  | .BKD_ALARM_HI => Flds.BKD_ALARM_HI
  | .BKD_MEAS_CTRL => Flds.BKD_MEAS_CTRL
  | .BKD_MEAS_TICKS => Flds.BKD_MEAS_TICKS
  | .BKD_MEAS_STATUS => Flds.BKD_MEAS_STATUS
  | .BKD_CAL_TIME => Flds.BKD_CAL_TIME
  | .BKD_CAL_DATE => Flds.BKD_CAL_DATE
  | .BKD_CAL_SET_TIME => Flds.BKD_CAL_SET_TIME
  | .BKD_CAL_SET_DATE => Flds.BKD_CAL_SET_DATE
  | .BKD_WKPIN => Flds.BKD_WKPIN
  | .BKD_MIDWAKE => Flds.BKD_MIDWAKE
  | .BKD_BKCRC => Flds.BKD_BKCRC
  | .BKD_BK => Flds.BKD_BK
  | .RETN_STATUS => Flds.RETN_STATUS
  | .RETN_KEEP => Flds.RETN_KEEP
  | .RETN_SEAL => Flds.RETN_SEAL
  | .RETN_LOST => Flds.RETN_LOST
  | .RETN_BAD => Flds.RETN_BAD
  | .RETN_UNVER => Flds.RETN_UNVER
  | .EVR_STATUS => Flds.EVR_STATUS
  | .EVR_FIRE => Flds.EVR_FIRE
  | .EVR_CFG => Flds.EVR_CFG
  | .EVR_GUARD => Flds.EVR_GUARD
  | .EVR_CSTAT => Flds.EVR_CSTAT
  | .EVR_CCOUNT => Flds.EVR_CCOUNT
  | .EVR_TSEL => Flds.EVR_TSEL
  | .EVR_TSTAT => Flds.EVR_TSTAT
  | .EVR_PTAP => Flds.EVR_PTAP
  | .EVR_GIN => Flds.EVR_GIN
  | .EVR_GOUT => Flds.EVR_GOUT
  | .EVR_CIRQ => Flds.EVR_CIRQ
  | .EVR_CIRQ_OVR => Flds.EVR_CIRQ_OVR
  | .EVL_STATUS => Flds.EVL_STATUS
  | .EVL_CELL_IN => Flds.EVL_CELL_IN
  | .EVL_CELL_TT => Flds.EVL_CELL_TT
  | .EVL_CELL_MODE => Flds.EVL_CELL_MODE
  | .EVL_CELL_STAT => Flds.EVL_CELL_STAT
  | .BASKET_STATUS => Flds.BASKET_STATUS
  | .BS_CTRL => Flds.BS_CTRL
  | .BS_STATE => Flds.BS_STATE
  | .BS_SEAM => Flds.BS_SEAM
  | .BS_TARGET_LO => Flds.BS_TARGET_LO
  | .BS_TARGET_HI => Flds.BS_TARGET_HI
  | .BS_PNUM_LO => Flds.BS_PNUM_LO
  | .BS_PNUM_HI => Flds.BS_PNUM_HI
  | .BS_PEPOCH_LO => Flds.BS_PEPOCH_LO
  | .BS_PEPOCH_HI => Flds.BS_PEPOCH_HI
  | .BS_INFO => Flds.BS_INFO
  | .BS_ADDR => Flds.BS_ADDR
  | .BS_MASK => Flds.BS_MASK
  | .BS_VALUE => Flds.BS_VALUE
  | .BS_RIDX => Flds.BS_RIDX
  | .BS_RDATA => Flds.BS_RDATA
  | .SEAM_CFG => Flds.SEAM_CFG
  | .SEAM_NUM_LO => Flds.SEAM_NUM_LO
  | .SEAM_NUM_HI => Flds.SEAM_NUM_HI
  | .SEAM_EPOCH_LO => Flds.SEAM_EPOCH_LO
  | .SEAM_EPOCH_HI => Flds.SEAM_EPOCH_HI
  | .SEAM_SOFT => Flds.SEAM_SOFT
  | .SEAM_STATUS => Flds.SEAM_STATUS
  | .ANG_CTRL => Flds.ANG_CTRL
  | .ANG_CFG => Flds.ANG_CFG
  | .ANG_LOOP => Flds.ANG_LOOP
  | .ANG_COAST => Flds.ANG_COAST
  | .ANG_STATUS => Flds.ANG_STATUS
  | .ANG_POS_LO => Flds.ANG_POS_LO
  | .ANG_POS_HI => Flds.ANG_POS_HI
  | .ANG_WRAP => Flds.ANG_WRAP
  | .ANG_SPEED => Flds.ANG_SPEED
  | .ANG_EPOCH_LO => Flds.ANG_EPOCH_LO
  | .ANG_EPOCH_HI => Flds.ANG_EPOCH_HI
  | .ANG_PRESET_LO => Flds.ANG_PRESET_LO
  | .ANG_PRESET_HI => Flds.ANG_PRESET_HI
  | .ANG_TBL_IDX => Flds.ANG_TBL_IDX
  | .ANG_TBL_DATA => Flds.ANG_TBL_DATA
  | .ANG_TBL_CTRL => Flds.ANG_TBL_CTRL
  | .CMP_CTRL => Flds.CMP_CTRL
  | .CMP_TGT_LO => Flds.CMP_TGT_LO
  | .CMP_TGT_HI => Flds.CMP_TGT_HI
  | .CMP_STEP => Flds.CMP_STEP
  | .TACH_CFG => Flds.TACH_CFG
  | .TACH_STAMP_LO => Flds.TACH_STAMP_LO
  | .TACH_STAMP_HI => Flds.TACH_STAMP_HI
  | .TACH_COUNT => Flds.TACH_COUNT
  | .TACH_LEVEL => Flds.TACH_LEVEL
  | .TACH_OVR => Flds.TACH_OVR
  | .TACH_MISC => Flds.TACH_MISC
  | .AIN_CTRL => Flds.AIN_CTRL
  | .AIN_EPOCH_DIV => Flds.AIN_EPOCH_DIV
  | .AIN_PRESET_LO => Flds.AIN_PRESET_LO
  | .AIN_PRESET_HI => Flds.AIN_PRESET_HI
  | .AIN_EPOCH_LO => Flds.AIN_EPOCH_LO
  | .AIN_EPOCH_HI => Flds.AIN_EPOCH_HI
  | .AIN_ALIGN => Flds.AIN_ALIGN
  | .AIN_ALIGN_OFS => Flds.AIN_ALIGN_OFS
  | .AIN_ALIGN_STATUS => Flds.AIN_ALIGN_STATUS
  | .AIN_ALIGN_RATE => Flds.AIN_ALIGN_RATE
  | .AIN_STATUS => Flds.AIN_STATUS
  | .AIN_CHEN => Flds.AIN_CHEN
  | .AIN_CHCOUNT => Flds.AIN_CHCOUNT
  | .AIN_GRP_PWR => Flds.AIN_GRP_PWR
  | .AIN_SPARE => Flds.AIN_SPARE
  | .AIN_MOD_PRES => Flds.AIN_MOD_PRES
  | .AIN_MOD_CHG => Flds.AIN_MOD_CHG
  | .AIN_MOD_STATE => Flds.AIN_MOD_STATE
  | .AIN_IDBUF => Flds.AIN_IDBUF
  | .AIN_IDCOMMIT => Flds.AIN_IDCOMMIT
  | .MOD_ID => Flds.MOD_ID
  | .MOD_BIAS => Flds.MOD_BIAS
  | .MOD_SER_LO => Flds.MOD_SER_LO
  | .MOD_SER_HI => Flds.MOD_SER_HI
  | .CH_GAIN => Flds.CH_GAIN
  | .CH_OFFSET => Flds.CH_OFFSET
  | .CH_CORNER => Flds.CH_CORNER
  | .CH_FLAGS => Flds.CH_FLAGS
  | .ADC_CTRL => Flds.ADC_CTRL
  | .ADC_CFG => Flds.ADC_CFG
  | .ADC_SLICE_MAP => Flds.ADC_SLICE_MAP
  | .ADC_ROT => Flds.ADC_ROT
  | .ADC_DRIFT_LIM => Flds.ADC_DRIFT_LIM
  | .ADC_STATUS => Flds.ADC_STATUS
  | .ADC_SLICE => Flds.ADC_SLICE
  | .ADC_DRIFT_OFS => Flds.ADC_DRIFT_OFS
  | .ADC_DRIFT_GAIN => Flds.ADC_DRIFT_GAIN
  | .ADCCAL_CTRL => Flds.ADCCAL_CTRL
  | .ADCCAL_STATUS => Flds.ADCCAL_STATUS
  | .ADCCAL_OFFSET => Flds.ADCCAL_OFFSET
  | .ADCCAL_GAIN => Flds.ADCCAL_GAIN
  | .ADCCAL_LIN => Flds.ADCCAL_LIN
  | .RESULT_CTRL => Flds.RESULT_CTRL
  | .RESULT_START => Flds.RESULT_START
  | .RESULT_STATUS => Flds.RESULT_STATUS
  | .RESULT_OVR => Flds.RESULT_OVR
  | .RESULT_MISS => Flds.RESULT_MISS
  | .RESULT_SEQ => Flds.RESULT_SEQ
  | .RESULT => Flds.RESULT
  | .CH_TRIM => Flds.CH_TRIM
  | .CH_STAT => Flds.CH_STAT
  | .SPARE_TRIM => Flds.SPARE_TRIM
  | .STR_CTRL => Flds.STR_CTRL
  | .STR_CFG => Flds.STR_CFG
  | .STR_CH => Flds.STR_CH
  | .STR_STATUS => Flds.STR_STATUS
  | .STR_SEQ_LO => Flds.STR_SEQ_LO
  | .STR_SEQ_HI => Flds.STR_SEQ_HI
  | .STR_HDR_CNT => Flds.STR_HDR_CNT
  | .RL_CTRL => Flds.RL_CTRL
  | .RL_CFG => Flds.RL_CFG
  | .RL_RING_BASE => Flds.RL_RING_BASE
  | .RL_RING_RECS => Flds.RL_RING_RECS
  | .RL_RING_WR => Flds.RL_RING_WR
  | .RL_STATUS => Flds.RL_STATUS
  | .RL_SEQ_LO => Flds.RL_SEQ_LO
  | .RL_SEQ_HI => Flds.RL_SEQ_HI
  | .RL_TBL_IDX => Flds.RL_TBL_IDX
  | .RL_TBL_DATA => Flds.RL_TBL_DATA
  | .RL_FILL => Flds.RL_FILL
  | .LINE_CFG => Flds.LINE_CFG
  | .LINE_SHORT => Flds.LINE_SHORT
  | .LINE_SHORT_WM => Flds.LINE_SHORT_WM
  | .LINE_WSTATE => Flds.LINE_WSTATE
  | .LINE_SHORT_DROP => Flds.LINE_SHORT_DROP
  | .LINE_FETCH_CTRL => Flds.LINE_FETCH_CTRL
  | .LINE_FETCH_IDX => Flds.LINE_FETCH_IDX
  | .LINE_FETCH_DST_LO => Flds.LINE_FETCH_DST_LO
  | .LINE_FETCH_DST_HI => Flds.LINE_FETCH_DST_HI
  | .LINE_FETCH_STATUS => Flds.LINE_FETCH_STATUS
  | .LINE_CTRL => Flds.LINE_CTRL
  | .LINE_BASE => Flds.LINE_BASE
  | .LINE_SIZE => Flds.LINE_SIZE
  | .LINE_WR => Flds.LINE_WR
  | .LINE_SEQ_LO => Flds.LINE_SEQ_LO
  | .LINE_SEQ_HI => Flds.LINE_SEQ_HI
  | .LINE_STATUS => Flds.LINE_STATUS
  | .LINE_AVAIL => Flds.LINE_AVAIL
  | .PEG_SEL => Flds.PEG_SEL
  | .PEG_CMD => Flds.PEG_CMD
  | .PEG_LINE => Flds.PEG_LINE
  | .PEG_FIRST => Flds.PEG_FIRST
  | .PEG_COUNT => Flds.PEG_COUNT
  | .PEG_BEFORE => Flds.PEG_BEFORE
  | .PEG_AFTER => Flds.PEG_AFTER
  | .PEG_STATE => Flds.PEG_STATE
  | .PEG_STATUS => Flds.PEG_STATUS
  | .PEG_TRIG => Flds.PEG_TRIG
  | .PEG_BUSY => Flds.PEG_BUSY
  | .HBMC_CFG => Flds.HBMC_CFG
  | .HBMC_CTRL => Flds.HBMC_CTRL
  | .HBMC_STATE => Flds.HBMC_STATE
  | .HBMC_ECC_CE => Flds.HBMC_ECC_CE
  | .HBMC_ECC_UE => Flds.HBMC_ECC_UE
  | .HBMC_UE_ADDR_LO => Flds.HBMC_UE_ADDR_LO
  | .HBMC_UE_ADDR_HI => Flds.HBMC_UE_ADDR_HI
  | .HBMC_UE_INFO => Flds.HBMC_UE_INFO
  | .HBMC_ECS => Flds.HBMC_ECS
  | .HBMC_REPAIR => Flds.HBMC_REPAIR
  | .HBMC_TIDX => Flds.HBMC_TIDX
  | .HBMC_TDATA => Flds.HBMC_TDATA
  | .GOV_CEIL => Flds.GOV_CEIL
  | .GOV_LIMIT => Flds.GOV_LIMIT
  | .GOV_STATUS => Flds.GOV_STATUS
  | .GOV_PEAK => Flds.GOV_PEAK
  | .GOV_HELD => Flds.GOV_HELD
  | .RINSE_CTRL => Flds.RINSE_CTRL
  | .RINSE_POS => Flds.RINSE_POS
  | .RINSE_PASS => Flds.RINSE_PASS
  | .RINSE_FIX => Flds.RINSE_FIX
  | .WEL_CTRL => Flds.WEL_CTRL
  | .WEL_STATUS => Flds.WEL_STATUS
  | .WEL_FAULT_PC => Flds.WEL_FAULT_PC
  | .WEL_JOB_DST => Flds.WEL_JOB_DST
  | .WEL_CYCLES => Flds.WEL_CYCLES
  | .WEL_JOBS => Flds.WEL_JOBS
  | .WEL_ARITH => Flds.WEL_ARITH
  | .WEL_LMEM_ECC => Flds.WEL_LMEM_ECC
  | .WEL_MFAULT => Flds.WEL_MFAULT
  | .CS_CTRL => Flds.CS_CTRL
  | .CS_STATUS => Flds.CS_STATUS
  | .CS_ADDR => Flds.CS_ADDR
  | .CS_DATA => Flds.CS_DATA
  | .CS_DATA5 => Flds.CS_DATA5
  | .CS_SRC => Flds.CS_SRC
  | .CS_PATCHES => Flds.CS_PATCHES
  | .CS_EXPECT => Flds.CS_EXPECT
  | .WEL_TBL_CTRL => Flds.WEL_TBL_CTRL
  | .WEL_TBL_STATUS => Flds.WEL_TBL_STATUS
  | .WEL_TBL_BASE => Flds.WEL_TBL_BASE
  | .WEL_TBL_SIZE => Flds.WEL_TBL_SIZE
  | .WELQ_CTRL => Flds.WELQ_CTRL
  | .WELQ_STATUS => Flds.WELQ_STATUS
  | .WELQ_MAP => Flds.WELQ_MAP
  | .WELQ_FLEN => Flds.WELQ_FLEN
  | .WELQ_DFRAME_LO => Flds.WELQ_DFRAME_LO
  | .WELQ_DFRAME_HI => Flds.WELQ_DFRAME_HI
  | .WELQ_DVALUE => Flds.WELQ_DVALUE
  | .WELQ_DCOUNT => Flds.WELQ_DCOUNT
  | .WELQ_TPL_ADDR => Flds.WELQ_TPL_ADDR
  | .WELQ_TPL_CTRL => Flds.WELQ_TPL_CTRL
  | .WELQ_QCFG => Flds.WELQ_QCFG
  | .WELQ_QHEAD => Flds.WELQ_QHEAD
  | .WELQ_QTAIL => Flds.WELQ_QTAIL
  | .WELQ_QSTAT => Flds.WELQ_QSTAT
  | .PZL_CTRL => Flds.PZL_CTRL
  | .PZL_CFG => Flds.PZL_CFG
  | .PZL_STATUS => Flds.PZL_STATUS
  | .PZL_LANE => Flds.PZL_LANE
  | .PZL_LERR => Flds.PZL_LERR
  | .PZL_RETRY => Flds.PZL_RETRY
  | .PZL_DROP => Flds.PZL_DROP
  | .PZL_CREDIT => Flds.PZL_CREDIT
  | .PZL_NAKS => Flds.PZL_NAKS
  | .PZL_PUSH_CFG => Flds.PZL_PUSH_CFG
  | .PZL_PUSH_STATUS => Flds.PZL_PUSH_STATUS
  | .MANGLE_STATUS => Flds.MANGLE_STATUS
  | .MGL_CTRL => Flds.MGL_CTRL
  | .MGL_PROB => Flds.MGL_PROB
  | .MGL_CORR => Flds.MGL_CORR
  | .MGL_XOR => Flds.MGL_XOR
  | .MGL_DELAY => Flds.MGL_DELAY
  | .MGL_COUNT => Flds.MGL_COUNT
  | .BEACON_CTRL => Flds.BEACON_CTRL
  | .BEACON_CFG => Flds.BEACON_CFG
  | .BEACON_PERIOD => Flds.BEACON_PERIOD
  | .BEACON_LAG => Flds.BEACON_LAG
  | .BEACON_STEP => Flds.BEACON_STEP
  | .BEACON_STATUS => Flds.BEACON_STATUS
  | .BEACON_TIME_LO => Flds.BEACON_TIME_LO
  | .BEACON_TIME_HI => Flds.BEACON_TIME_HI
  | .BEACON_BNUM_LO => Flds.BEACON_BNUM_LO
  | .BEACON_BNUM_HI => Flds.BEACON_BNUM_HI
  | .BEACON_SET_LO => Flds.BEACON_SET_LO
  | .BEACON_SET_HI => Flds.BEACON_SET_HI
  | .BEACON_RATE => Flds.BEACON_RATE
  | .BEACON_LAST_ERR => Flds.BEACON_LAST_ERR
  | .BEACON_DELAY => Flds.BEACON_DELAY
  | .BEACON_ASYM => Flds.BEACON_ASYM
  | .PAIR_CTRL => Flds.PAIR_CTRL
  | .PAIR_CFG => Flds.PAIR_CFG
  | .PAIR_STATUS => Flds.PAIR_STATUS
  | .PAIR_DIV_INFO => Flds.PAIR_DIV_INFO
  | .PAIR_MIRROR_STAT => Flds.PAIR_MIRROR_STAT
  | .PAIR_RING_CFG => Flds.PAIR_RING_CFG
  | .PAIR_RING_BREAK => Flds.PAIR_RING_BREAK
  | .PAIR_RING_STAT => Flds.PAIR_RING_STAT
  | .UART_CTRL => Flds.UART_CTRL
  | .UART_CFG => Flds.UART_CFG
  | .UART_BAUD => Flds.UART_BAUD
  | .UART_DE => Flds.UART_DE
  | .UART_STATUS => Flds.UART_STATUS
  | .UART_RXDATA => Flds.UART_RXDATA
  | .UART_RX_TO => Flds.UART_RX_TO
  | .UART_RXR_BASE => Flds.UART_RXR_BASE
  | .UART_RXR_CFG => Flds.UART_RXR_CFG
  | .UART_TXDATA => Flds.UART_TXDATA
  | .UART_RXR_WR => Flds.UART_RXR_WR
  | .UART_RXR_RD => Flds.UART_RXR_RD
  | .UART_TX_CTRL => Flds.UART_TX_CTRL
  | .UART_TX_ADDR => Flds.UART_TX_ADDR
  | .XSPI_CTRL => Flds.XSPI_CTRL
  | .XSPI_CFG => Flds.XSPI_CFG
  | .XSPI_CMD => Flds.XSPI_CMD
  | .XSPI_ADDR => Flds.XSPI_ADDR
  | .XSPI_LEN => Flds.XSPI_LEN
  | .XSPI_BUF_LO => Flds.XSPI_BUF_LO
  | .XSPI_BUF_HI => Flds.XSPI_BUF_HI
  | .XSPI_DATA => Flds.XSPI_DATA
  | .XSPI_POLL => Flds.XSPI_POLL
  | .XSPI_POLL_TO => Flds.XSPI_POLL_TO
  | .XSPI_STATUS => Flds.XSPI_STATUS
  | .IDB_CFG => Flds.IDB_CFG
  | .IDB_CMD => Flds.IDB_CMD
  | .IDB_STATUS => Flds.IDB_STATUS
  | .IDB_BUF => Flds.IDB_BUF
  | .PMB_CFG => Flds.PMB_CFG
  | .PMB_CMD => Flds.PMB_CMD
  | .PMB_DATA => Flds.PMB_DATA
  | .PMB_STATUS => Flds.PMB_STATUS
  | .PMB_AVS => Flds.PMB_AVS
  | .GPIO_CTRL => Flds.GPIO_CTRL
  | .GPIO_OUT => Flds.GPIO_OUT
  | .GPIO_OE => Flds.GPIO_OE
  | .GPIO_IN => Flds.GPIO_IN
  | .GPIO_SAFE => Flds.GPIO_SAFE
  | .GPIO_SAFE_OE => Flds.GPIO_SAFE_OE
  | .GPIO_SET => Flds.GPIO_SET
  | .GPIO_CLR => Flds.GPIO_CLR
  | .GPIO_PAD => Flds.GPIO_PAD
  | .TIM_CTRL => Flds.TIM_CTRL
  | .TIM_TOP => Flds.TIM_TOP
  | .TIM_CMP => Flds.TIM_CMP
  | .TIM_COUNT => Flds.TIM_COUNT
  | .TIM_CAPT => Flds.TIM_CAPT
  | .WD_CTRL => Flds.WD_CTRL
  | .WD_TIMEOUT => Flds.WD_TIMEOUT
  | .WD_WINDOW => Flds.WD_WINDOW
  | .WD_KICK => Flds.WD_KICK
  | .WD_STATUS => Flds.WD_STATUS
  | .CRY_CMD => Flds.CRY_CMD
  | .CRY_STATUS => Flds.CRY_STATUS
  | .CRY_SRC_LO => Flds.CRY_SRC_LO
  | .CRY_SRC_HI => Flds.CRY_SRC_HI
  | .CRY_DST_LO => Flds.CRY_DST_LO
  | .CRY_DST_HI => Flds.CRY_DST_HI
  | .CRY_LEN => Flds.CRY_LEN
  | .CRY_MTYPE => Flds.CRY_MTYPE
  | .CRY_DIGEST => Flds.CRY_DIGEST
  | .FUSE_LIFE => Flds.FUSE_LIFE
  | .FUSE_KEYSTAT => Flds.FUSE_KEYSTAT
  | .FUSE_ROLLBACK => Flds.FUSE_ROLLBACK
  | .FUSE_PROG => Flds.FUSE_PROG
  | .FUSE_STATUS => Flds.FUSE_STATUS
  | .FUSE_PDATA => Flds.FUSE_PDATA
  | .FUSE_KEY => Flds.FUSE_KEY
  | .FUSE_UID => Flds.FUSE_UID
  | .BOOT_CTRL => Flds.BOOT_CTRL
  | .BOOT_STATUS => Flds.BOOT_STATUS
  | .BOOT_MBOX => Flds.BOOT_MBOX
  | .BOOT_ROMVER => Flds.BOOT_ROMVER
  | .DARN_CTRL => Flds.DARN_CTRL
  | .DARN_CFG => Flds.DARN_CFG
  | .DARN_STATUS => Flds.DARN_STATUS
  | .DARN_PROP => Flds.DARN_PROP
  | .DARN_PROP_TGT => Flds.DARN_PROP_TGT
  | .DARN_LOG => Flds.DARN_LOG
  | .DARN_LOG_CTRL => Flds.DARN_LOG_CTRL
  | .DARN_IN => Flds.DARN_IN
  | .DARN_IN_CTRL => Flds.DARN_IN_CTRL
  | .DARN_RETIRED => Flds.DARN_RETIRED
  | .DARN_LNK => Flds.DARN_LNK
  | .DARN_SPARES => Flds.DARN_SPARES
  | .DARN_BANK_IDX => Flds.DARN_BANK_IDX
  | .DARN_BANK_INFO => Flds.DARN_BANK_INFO
  | .DARN_CELL => Flds.DARN_CELL
  | .TEMP_CTRL => Flds.TEMP_CTRL
  | .TEMP_WARN => Flds.TEMP_WARN
  | .TEMP_HOT => Flds.TEMP_HOT
  | .TEMP_STATUS => Flds.TEMP_STATUS
  | .TEMP_MAX => Flds.TEMP_MAX
  | .TEMP_V => Flds.TEMP_V
  | .CORE_CTRL => Flds.CORE_CTRL
  | .CORE_STATUS => Flds.CORE_STATUS
  | .CORE_PC => Flds.CORE_PC
  | .CORE_ECC => Flds.CORE_ECC
  | .CORE_IRQ_PEND_LO => Flds.CORE_IRQ_PEND_LO
  | .CORE_IRQ_PEND_HI => Flds.CORE_IRQ_PEND_HI
  | .CORE_IRQ_EN_LO => Flds.CORE_IRQ_EN_LO
  | .CORE_IRQ_EN_HI => Flds.CORE_IRQ_EN_HI
  | .CORE_IRQ_ID => Flds.CORE_IRQ_ID
  | .WIN => Flds.WIN
  | .RST_CAUSE => Flds.RST_CAUSE
  | .RESTART => Flds.RESTART

/-- Part 0 of `Reg.all`. -/
def Reg.all0 : List Reg := [
  .SYS_PART, .SYS_STRAPS, .FAB_ERR_ADDR_LO, .FAB_ERR_ADDR_HI, .FAB_ERR_INFO, .PWR_CTRL, .PWR_STATUS, .PWR_ASK, .PWR_CFG, .PWR_PFW, .PWR_LAST, .WAKE_EN, .WAKE_PEND, .WAKE_CFG, .WAKE_TACH, .WAKE_LAST, .WAKE_STAMP_LO, .WAKE_STAMP_HI, .WAKE_COUNT, .WAKE_STATUS, .CLK_EN, .CLK_READY, .CLK_SEL, .CLK_STATUS, .CLKOUT_CFG, .CLK_PEN, .CLKMON_CTRL, .CLKMON_FAIL, .CLKMON_STATE, .CLKMON_CMD, .CLKMON_TIMEOUT, .DVFS_TARGET, .DVFS_STATUS, .DVFS_CAP, .DVFS_TIMING, .DVFS_VOLT, .BKD_CTRL, .BKD_STATUS, .BKD_TICK_LO, .BKD_TICK_HI, .BKD_RAW_LO, .BKD_RAW_HI, .BKD_SET_LO, .BKD_SET_HI, .BKD_TRIM, .BKD_ALARM_LO, .BKD_ALARM_HI, .BKD_MEAS_CTRL, .BKD_MEAS_TICKS, .BKD_MEAS_STATUS, .BKD_CAL_TIME, .BKD_CAL_DATE, .BKD_CAL_SET_TIME, .BKD_CAL_SET_DATE, .BKD_WKPIN, .BKD_MIDWAKE, .BKD_BKCRC, .BKD_BK, .RETN_STATUS, .RETN_KEEP, .RETN_SEAL, .RETN_LOST, .RETN_BAD, .RETN_UNVER, .EVR_STATUS, .EVR_FIRE, .EVR_CFG, .EVR_GUARD, .EVR_CSTAT, .EVR_CCOUNT, .EVR_TSEL, .EVR_TSTAT, .EVR_PTAP, .EVR_GIN, .EVR_GOUT, .EVR_CIRQ, .EVR_CIRQ_OVR, .EVL_STATUS, .EVL_CELL_IN, .EVL_CELL_TT]

/-- Part 1 of `Reg.all`. -/
def Reg.all1 : List Reg := [
  .EVL_CELL_MODE, .EVL_CELL_STAT, .BASKET_STATUS, .BS_CTRL, .BS_STATE, .BS_SEAM, .BS_TARGET_LO, .BS_TARGET_HI, .BS_PNUM_LO, .BS_PNUM_HI, .BS_PEPOCH_LO, .BS_PEPOCH_HI, .BS_INFO, .BS_ADDR, .BS_MASK, .BS_VALUE, .BS_RIDX, .BS_RDATA, .SEAM_CFG, .SEAM_NUM_LO, .SEAM_NUM_HI, .SEAM_EPOCH_LO, .SEAM_EPOCH_HI, .SEAM_SOFT, .SEAM_STATUS, .ANG_CTRL, .ANG_CFG, .ANG_LOOP, .ANG_COAST, .ANG_STATUS, .ANG_POS_LO, .ANG_POS_HI, .ANG_WRAP, .ANG_SPEED, .ANG_EPOCH_LO, .ANG_EPOCH_HI, .ANG_PRESET_LO, .ANG_PRESET_HI, .ANG_TBL_IDX, .ANG_TBL_DATA, .ANG_TBL_CTRL, .CMP_CTRL, .CMP_TGT_LO, .CMP_TGT_HI, .CMP_STEP, .TACH_CFG, .TACH_STAMP_LO, .TACH_STAMP_HI, .TACH_COUNT, .TACH_LEVEL, .TACH_OVR, .TACH_MISC, .AIN_CTRL, .AIN_EPOCH_DIV, .AIN_PRESET_LO, .AIN_PRESET_HI, .AIN_EPOCH_LO, .AIN_EPOCH_HI, .AIN_ALIGN, .AIN_ALIGN_OFS, .AIN_ALIGN_STATUS, .AIN_ALIGN_RATE, .AIN_STATUS, .AIN_CHEN, .AIN_CHCOUNT, .AIN_GRP_PWR, .AIN_SPARE, .AIN_MOD_PRES, .AIN_MOD_CHG, .AIN_MOD_STATE, .AIN_IDBUF, .AIN_IDCOMMIT, .MOD_ID, .MOD_BIAS, .MOD_SER_LO, .MOD_SER_HI, .CH_GAIN, .CH_OFFSET, .CH_CORNER, .CH_FLAGS]

/-- Part 2 of `Reg.all`. -/
def Reg.all2 : List Reg := [
  .ADC_CTRL, .ADC_CFG, .ADC_SLICE_MAP, .ADC_ROT, .ADC_DRIFT_LIM, .ADC_STATUS, .ADC_SLICE, .ADC_DRIFT_OFS, .ADC_DRIFT_GAIN, .ADCCAL_CTRL, .ADCCAL_STATUS, .ADCCAL_OFFSET, .ADCCAL_GAIN, .ADCCAL_LIN, .RESULT_CTRL, .RESULT_START, .RESULT_STATUS, .RESULT_OVR, .RESULT_MISS, .RESULT_SEQ, .RESULT, .CH_TRIM, .CH_STAT, .SPARE_TRIM, .STR_CTRL, .STR_CFG, .STR_CH, .STR_STATUS, .STR_SEQ_LO, .STR_SEQ_HI, .STR_HDR_CNT, .RL_CTRL, .RL_CFG, .RL_RING_BASE, .RL_RING_RECS, .RL_RING_WR, .RL_STATUS, .RL_SEQ_LO, .RL_SEQ_HI, .RL_TBL_IDX, .RL_TBL_DATA, .RL_FILL, .LINE_CFG, .LINE_SHORT, .LINE_SHORT_WM, .LINE_WSTATE, .LINE_SHORT_DROP, .LINE_FETCH_CTRL, .LINE_FETCH_IDX, .LINE_FETCH_DST_LO, .LINE_FETCH_DST_HI, .LINE_FETCH_STATUS, .LINE_CTRL, .LINE_BASE, .LINE_SIZE, .LINE_WR, .LINE_SEQ_LO, .LINE_SEQ_HI, .LINE_STATUS, .LINE_AVAIL, .PEG_SEL, .PEG_CMD, .PEG_LINE, .PEG_FIRST, .PEG_COUNT, .PEG_BEFORE, .PEG_AFTER, .PEG_STATE, .PEG_STATUS, .PEG_TRIG, .PEG_BUSY, .HBMC_CFG, .HBMC_CTRL, .HBMC_STATE, .HBMC_ECC_CE, .HBMC_ECC_UE, .HBMC_UE_ADDR_LO, .HBMC_UE_ADDR_HI, .HBMC_UE_INFO, .HBMC_ECS]

/-- Part 3 of `Reg.all`. -/
def Reg.all3 : List Reg := [
  .HBMC_REPAIR, .HBMC_TIDX, .HBMC_TDATA, .GOV_CEIL, .GOV_LIMIT, .GOV_STATUS, .GOV_PEAK, .GOV_HELD, .RINSE_CTRL, .RINSE_POS, .RINSE_PASS, .RINSE_FIX, .WEL_CTRL, .WEL_STATUS, .WEL_FAULT_PC, .WEL_JOB_DST, .WEL_CYCLES, .WEL_JOBS, .WEL_ARITH, .WEL_LMEM_ECC, .WEL_MFAULT, .CS_CTRL, .CS_STATUS, .CS_ADDR, .CS_DATA, .CS_DATA5, .CS_SRC, .CS_PATCHES, .CS_EXPECT, .WEL_TBL_CTRL, .WEL_TBL_STATUS, .WEL_TBL_BASE, .WEL_TBL_SIZE, .WELQ_CTRL, .WELQ_STATUS, .WELQ_MAP, .WELQ_FLEN, .WELQ_DFRAME_LO, .WELQ_DFRAME_HI, .WELQ_DVALUE, .WELQ_DCOUNT, .WELQ_TPL_ADDR, .WELQ_TPL_CTRL, .WELQ_QCFG, .WELQ_QHEAD, .WELQ_QTAIL, .WELQ_QSTAT, .PZL_CTRL, .PZL_CFG, .PZL_STATUS, .PZL_LANE, .PZL_LERR, .PZL_RETRY, .PZL_DROP, .PZL_CREDIT, .PZL_NAKS, .PZL_PUSH_CFG, .PZL_PUSH_STATUS, .MANGLE_STATUS, .MGL_CTRL, .MGL_PROB, .MGL_CORR, .MGL_XOR, .MGL_DELAY, .MGL_COUNT, .BEACON_CTRL, .BEACON_CFG, .BEACON_PERIOD, .BEACON_LAG, .BEACON_STEP, .BEACON_STATUS, .BEACON_TIME_LO, .BEACON_TIME_HI, .BEACON_BNUM_LO, .BEACON_BNUM_HI, .BEACON_SET_LO, .BEACON_SET_HI, .BEACON_RATE, .BEACON_LAST_ERR, .BEACON_DELAY]

/-- Part 4 of `Reg.all`. -/
def Reg.all4 : List Reg := [
  .BEACON_ASYM, .PAIR_CTRL, .PAIR_CFG, .PAIR_STATUS, .PAIR_DIV_INFO, .PAIR_MIRROR_STAT, .PAIR_RING_CFG, .PAIR_RING_BREAK, .PAIR_RING_STAT, .UART_CTRL, .UART_CFG, .UART_BAUD, .UART_DE, .UART_STATUS, .UART_RXDATA, .UART_RX_TO, .UART_RXR_BASE, .UART_RXR_CFG, .UART_TXDATA, .UART_RXR_WR, .UART_RXR_RD, .UART_TX_CTRL, .UART_TX_ADDR, .XSPI_CTRL, .XSPI_CFG, .XSPI_CMD, .XSPI_ADDR, .XSPI_LEN, .XSPI_BUF_LO, .XSPI_BUF_HI, .XSPI_DATA, .XSPI_POLL, .XSPI_POLL_TO, .XSPI_STATUS, .IDB_CFG, .IDB_CMD, .IDB_STATUS, .IDB_BUF, .PMB_CFG, .PMB_CMD, .PMB_DATA, .PMB_STATUS, .PMB_AVS, .GPIO_CTRL, .GPIO_OUT, .GPIO_OE, .GPIO_IN, .GPIO_SAFE, .GPIO_SAFE_OE, .GPIO_SET, .GPIO_CLR, .GPIO_PAD, .TIM_CTRL, .TIM_TOP, .TIM_CMP, .TIM_COUNT, .TIM_CAPT, .WD_CTRL, .WD_TIMEOUT, .WD_WINDOW, .WD_KICK, .WD_STATUS, .CRY_CMD, .CRY_STATUS, .CRY_SRC_LO, .CRY_SRC_HI, .CRY_DST_LO, .CRY_DST_HI, .CRY_LEN, .CRY_MTYPE, .CRY_DIGEST, .FUSE_LIFE, .FUSE_KEYSTAT, .FUSE_ROLLBACK, .FUSE_PROG, .FUSE_STATUS, .FUSE_PDATA, .FUSE_KEY, .FUSE_UID, .BOOT_CTRL]

/-- Part 5 of `Reg.all`. -/
def Reg.all5 : List Reg := [
  .BOOT_STATUS, .BOOT_MBOX, .BOOT_ROMVER, .DARN_CTRL, .DARN_CFG, .DARN_STATUS, .DARN_PROP, .DARN_PROP_TGT, .DARN_LOG, .DARN_LOG_CTRL, .DARN_IN, .DARN_IN_CTRL, .DARN_RETIRED, .DARN_LNK, .DARN_SPARES, .DARN_BANK_IDX, .DARN_BANK_INFO, .DARN_CELL, .TEMP_CTRL, .TEMP_WARN, .TEMP_HOT, .TEMP_STATUS, .TEMP_MAX, .TEMP_V, .CORE_CTRL, .CORE_STATUS, .CORE_PC, .CORE_ECC, .CORE_IRQ_PEND_LO, .CORE_IRQ_PEND_HI, .CORE_IRQ_EN_LO, .CORE_IRQ_EN_HI, .CORE_IRQ_ID, .WIN, .RST_CAUSE, .RESTART]

/-- Every register of a block page, in page order (the page head is apart: every page has it, R16). -/
def Reg.all : List Reg := Reg.all0 ++ Reg.all1 ++ Reg.all2 ++ Reg.all3 ++ Reg.all4 ++ Reg.all5

end Sys2Proof.Machine
end

