-- ==== Sys2Proof/Machine/Fields.lean ====
section
/-!
DEFINITION. A name for every field of every register: the register, its lowest bit and its width, from the register
tables. `F.ANG_CFG_PPR` is field PPR of ANG_CFG.
-/

namespace Sys2Proof.Machine

/-- A field of a register (array). -/
structure Fld where
  reg : Reg
  lo : Nat
  width : Nat
deriving DecidableEq, Repr

namespace F

def PAGE_ID_LAYOUT_VER : Fld := ⟨.PAGE_ID, 0, 8⟩
def PAGE_ID_INSTANCE : Fld := ⟨.PAGE_ID, 8, 8⟩
def PAGE_ID_BLOCK_TYPE : Fld := ⟨.PAGE_ID, 16, 16⟩
def PAGE_VER_IMPL_MINOR : Fld := ⟨.PAGE_VER, 0, 8⟩
def PAGE_VER_IMPL_MAJOR : Fld := ⟨.PAGE_VER, 8, 8⟩
def PAGE_CTRL_EN : Fld := ⟨.PAGE_CTRL, 0, 1⟩
def PAGE_CTRL_SOFT_RST : Fld := ⟨.PAGE_CTRL, 1, 1⟩
def PAGE_STATUS_ERR_RSVD : Fld := ⟨.PAGE_STATUS, 0, 1⟩
def PAGE_STATUS_ERR_ADDR : Fld := ⟨.PAGE_STATUS, 1, 1⟩
def PAGE_STATUS_ERR_OWNER : Fld := ⟨.PAGE_STATUS, 2, 1⟩
def PAGE_STATUS_BUSY : Fld := ⟨.PAGE_STATUS, 3, 1⟩
def PAGE_IRQ_SOURCES : Fld := ⟨.PAGE_IRQ, 0, 31⟩
def PAGE_IRQ_PAGE_ERR : Fld := ⟨.PAGE_IRQ, 31, 1⟩
def PAGE_IRQ_EN_EN : Fld := ⟨.PAGE_IRQ_EN, 0, 32⟩
def PAGE_OWNER_OWNER : Fld := ⟨.PAGE_OWNER, 0, 3⟩
def PAGE_OWNER_SEC : Fld := ⟨.PAGE_OWNER, 3, 1⟩
def PAGE_OWNER_LOCK : Fld := ⟨.PAGE_OWNER, 4, 1⟩
def PAGE_SHADOW_STAGED : Fld := ⟨.PAGE_SHADOW, 0, 1⟩
def PAGE_SHADOW_SLOT : Fld := ⟨.PAGE_SHADOW, 1, 3⟩
def PAGE_SHADOW_SLOT_MASK : Fld := ⟨.PAGE_SHADOW, 8, 8⟩
def SYS_PART_STACKS : Fld := ⟨.SYS_PART, 0, 8⟩
def SYS_PART_STEPPING : Fld := ⟨.SYS_PART, 8, 8⟩
def SYS_PART_PART : Fld := ⟨.SYS_PART, 16, 16⟩
def SYS_STRAPS_DEVID : Fld := ⟨.SYS_STRAPS, 0, 5⟩
def SYS_STRAPS_DEVID_BAD : Fld := ⟨.SYS_STRAPS, 5, 1⟩
def FAB_ERR_ADDR_LO_ADDR_LO : Fld := ⟨.FAB_ERR_ADDR_LO, 0, 32⟩
def FAB_ERR_ADDR_HI_ADDR_HI : Fld := ⟨.FAB_ERR_ADDR_HI, 0, 16⟩
def FAB_ERR_INFO_CAUSE : Fld := ⟨.FAB_ERR_INFO, 0, 4⟩
def FAB_ERR_INFO_WRITE : Fld := ⟨.FAB_ERR_INFO, 7, 1⟩
def FAB_ERR_INFO_SOURCE : Fld := ⟨.FAB_ERR_INFO, 8, 4⟩
def FAB_ERR_INFO_OVF : Fld := ⟨.FAB_ERR_INFO, 30, 1⟩
def FAB_ERR_INFO_VALID : Fld := ⟨.FAB_ERR_INFO, 31, 1⟩
def PWR_CTRL_TARGET : Fld := ⟨.PWR_CTRL, 0, 3⟩
def PWR_STATUS_MODE : Fld := ⟨.PWR_STATUS, 0, 3⟩
def PWR_STATUS_TARGET : Fld := ⟨.PWR_STATUS, 8, 3⟩
def PWR_STATUS_PFW : Fld := ⟨.PWR_STATUS, 11, 1⟩
def PWR_STATUS_PFW_NOACQ : Fld := ⟨.PWR_STATUS, 12, 1⟩
def PWR_STATUS_PFW_ABORT : Fld := ⟨.PWR_STATUS, 13, 1⟩
def PWR_STATUS_THERM_TRIP : Fld := ⟨.PWR_STATUS, 14, 1⟩
def PWR_STATUS_REFUSED : Fld := ⟨.PWR_STATUS, 15, 1⟩
def PWR_STATUS_REFUSE : Fld := ⟨.PWR_STATUS, 16, 4⟩
def PWR_ASK_MODE : Fld := ⟨.PWR_ASK, 0, 3⟩
def PWR_ASK_ASKER : Fld := ⟨.PWR_ASK, 8, 3⟩
def PWR_CFG_S_NIGHT : Fld := ⟨.PWR_CFG, 0, 1⟩
def PWR_CFG_NIGHT_SR : Fld := ⟨.PWR_CFG, 1, 1⟩
def PWR_PFW_EN : Fld := ⟨.PWR_PFW, 0, 1⟩
def PWR_PFW_SLOT : Fld := ⟨.PWR_PFW, 1, 3⟩
def PWR_PFW_CLEAR_MS : Fld := ⟨.PWR_PFW, 8, 8⟩
def PWR_LAST_CLOCKS : Fld := ⟨.PWR_LAST, 0, 26⟩
def PWR_LAST_TO : Fld := ⟨.PWR_LAST, 26, 3⟩
def PWR_LAST_FROM : Fld := ⟨.PWR_LAST, 29, 3⟩
def WAKE_EN_EN : Fld := ⟨.WAKE_EN, 1, 18⟩
def WAKE_PEND_PEND : Fld := ⟨.WAKE_PEND, 1, 18⟩
def WAKE_CFG_TO : Fld := ⟨.WAKE_CFG, 0, 3⟩
def WAKE_CFG_CH : Fld := ⟨.WAKE_CFG, 8, 7⟩
def WAKE_TACH_ARM : Fld := ⟨.WAKE_TACH, 0, 32⟩
def WAKE_LAST_RECORD : Fld := ⟨.WAKE_LAST, 0, 32⟩
def WAKE_STAMP_LO_TICK_LO : Fld := ⟨.WAKE_STAMP_LO, 0, 32⟩
def WAKE_STAMP_HI_TICK_HI : Fld := ⟨.WAKE_STAMP_HI, 0, 16⟩
def WAKE_COUNT_COUNT : Fld := ⟨.WAKE_COUNT, 0, 32⟩
def WAKE_STATUS_STALE : Fld := ⟨.WAKE_STATUS, 0, 1⟩
def CLK_EN_FIXED : Fld := ⟨.CLK_EN, 0, 3⟩
def CLK_EN_EN : Fld := ⟨.CLK_EN, 3, 4⟩
def CLK_READY_READY : Fld := ⟨.CLK_READY, 0, 18⟩
def CLK_SEL_LF_SEL : Fld := ⟨.CLK_SEL, 0, 1⟩
def CLK_SEL_LF_AUTO : Fld := ⟨.CLK_SEL, 1, 1⟩
def CLK_SEL_ACQ_SEL : Fld := ⟨.CLK_SEL, 4, 1⟩
def CLK_SEL_ACQ_AUTO : Fld := ⟨.CLK_SEL, 5, 1⟩
def CLK_SEL_ADC_REF : Fld := ⟨.CLK_SEL, 8, 1⟩
def CLK_SEL_ADCREF_FREQ : Fld := ⟨.CLK_SEL, 9, 2⟩
def CLK_STATUS_REFUSED : Fld := ⟨.CLK_STATUS, 0, 1⟩
def CLK_STATUS_PEN_HELD : Fld := ⟨.CLK_STATUS, 1, 1⟩
def CLKOUT_CFG_SRC : Fld := ⟨.CLKOUT_CFG, 0, 4⟩
def CLKOUT_CFG_DIV : Fld := ⟨.CLKOUT_CFG, 16, 10⟩
def CLKOUT_CFG_EN : Fld := ⟨.CLKOUT_CFG, 31, 1⟩
def CLK_PEN_PEN : Fld := ⟨.CLK_PEN, 0, 32⟩
def CLKMON_CTRL_AUTO_RESUME : Fld := ⟨.CLKMON_CTRL, 0, 4⟩
def CLKMON_CTRL_TOL : Fld := ⟨.CLKMON_CTRL, 8, 4⟩
def CLKMON_FAIL_FAIL : Fld := ⟨.CLKMON_FAIL, 0, 18⟩
def CLKMON_STATE_STATE0 : Fld := ⟨.CLKMON_STATE, 0, 2⟩
def CLKMON_STATE_STATE1 : Fld := ⟨.CLKMON_STATE, 2, 2⟩
def CLKMON_STATE_STATE2 : Fld := ⟨.CLKMON_STATE, 4, 2⟩
def CLKMON_STATE_STATE3 : Fld := ⟨.CLKMON_STATE, 6, 2⟩
def CLKMON_CMD_RESUME : Fld := ⟨.CLKMON_CMD, 0, 4⟩
def CLKMON_CMD_RELEASE : Fld := ⟨.CLKMON_CMD, 8, 4⟩
def CLKMON_TIMEOUT_MS : Fld := ⟨.CLKMON_TIMEOUT, 0, 16⟩
def DVFS_TARGET_ACQ : Fld := ⟨.DVFS_TARGET, 0, 3⟩
def DVFS_TARGET_ANA : Fld := ⟨.DVFS_TARGET, 4, 3⟩
def DVFS_STATUS_ACQ_NOW : Fld := ⟨.DVFS_STATUS, 0, 3⟩
def DVFS_STATUS_ANA_NOW : Fld := ⟨.DVFS_STATUS, 4, 3⟩
def DVFS_STATUS_CAPPED : Fld := ⟨.DVFS_STATUS, 10, 1⟩
def DVFS_STATUS_FAULT : Fld := ⟨.DVFS_STATUS, 11, 1⟩
def DVFS_STATUS_FAULT_RAIL : Fld := ⟨.DVFS_STATUS, 12, 2⟩
def DVFS_CAP_CAP : Fld := ⟨.DVFS_CAP, 0, 3⟩
def DVFS_TIMING_SLEW : Fld := ⟨.DVFS_TIMING, 0, 8⟩
def DVFS_TIMING_SETTLE : Fld := ⟨.DVFS_TIMING, 8, 8⟩
def DVFS_VOLT_MV : Fld := ⟨.DVFS_VOLT, 0, 10⟩
def BKD_CTRL_LFXO_EN : Fld := ⟨.BKD_CTRL, 0, 1⟩
def BKD_CTRL_SUBST : Fld := ⟨.BKD_CTRL, 1, 1⟩
def BKD_CTRL_ALARM_ARM : Fld := ⟨.BKD_CTRL, 3, 1⟩
def BKD_CTRL_SET : Fld := ⟨.BKD_CTRL, 4, 1⟩
def BKD_CTRL_CAL_LOAD : Fld := ⟨.BKD_CTRL, 5, 1⟩
def BKD_CTRL_CRC_CHECK : Fld := ⟨.BKD_CTRL, 6, 1⟩
def BKD_STATUS_TIME_LOST : Fld := ⟨.BKD_STATUS, 0, 1⟩
def BKD_STATUS_OSC_STOPPED : Fld := ⟨.BKD_STATUS, 3, 1⟩
def BKD_STATUS_BK_CRC_BAD : Fld := ⟨.BKD_STATUS, 4, 1⟩
def BKD_STATUS_ALARM : Fld := ⟨.BKD_STATUS, 5, 1⟩
def BKD_STATUS_STALE : Fld := ⟨.BKD_STATUS, 6, 1⟩
def BKD_STATUS_PIN0 : Fld := ⟨.BKD_STATUS, 7, 1⟩
def BKD_STATUS_PIN1 : Fld := ⟨.BKD_STATUS, 8, 1⟩
def BKD_STATUS_SUBST_ACTIVE : Fld := ⟨.BKD_STATUS, 9, 1⟩
def BKD_STATUS_ON_VBAT : Fld := ⟨.BKD_STATUS, 10, 1⟩
def BKD_STATUS_VBAT_LOW : Fld := ⟨.BKD_STATUS, 11, 1⟩
def BKD_TICK_LO_TICK_LO : Fld := ⟨.BKD_TICK_LO, 0, 32⟩
def BKD_TICK_HI_TICK_HI : Fld := ⟨.BKD_TICK_HI, 0, 16⟩
def BKD_RAW_LO_RAW_LO : Fld := ⟨.BKD_RAW_LO, 0, 32⟩
def BKD_RAW_HI_RAW_HI : Fld := ⟨.BKD_RAW_HI, 0, 16⟩
def BKD_SET_LO_SET_LO : Fld := ⟨.BKD_SET_LO, 0, 32⟩
def BKD_SET_HI_SET_HI : Fld := ⟨.BKD_SET_HI, 0, 16⟩
def BKD_TRIM_TRIM : Fld := ⟨.BKD_TRIM, 0, 24⟩
def BKD_ALARM_LO_ALARM_LO : Fld := ⟨.BKD_ALARM_LO, 0, 32⟩
def BKD_ALARM_HI_ALARM_HI : Fld := ⟨.BKD_ALARM_HI, 0, 16⟩
def BKD_MEAS_CTRL_N : Fld := ⟨.BKD_MEAS_CTRL, 0, 24⟩
def BKD_MEAS_CTRL_SRC : Fld := ⟨.BKD_MEAS_CTRL, 24, 2⟩
def BKD_MEAS_CTRL_START : Fld := ⟨.BKD_MEAS_CTRL, 31, 1⟩
def BKD_MEAS_TICKS_TICKS : Fld := ⟨.BKD_MEAS_TICKS, 0, 32⟩
def BKD_MEAS_STATUS_FRAC : Fld := ⟨.BKD_MEAS_STATUS, 0, 10⟩
def BKD_MEAS_STATUS_COARSE : Fld := ⟨.BKD_MEAS_STATUS, 13, 1⟩
def BKD_MEAS_STATUS_ABORT : Fld := ⟨.BKD_MEAS_STATUS, 14, 1⟩
def BKD_MEAS_STATUS_DONE : Fld := ⟨.BKD_MEAS_STATUS, 15, 1⟩
def BKD_CAL_TIME_SEC : Fld := ⟨.BKD_CAL_TIME, 0, 6⟩
def BKD_CAL_TIME_MIN : Fld := ⟨.BKD_CAL_TIME, 8, 6⟩
def BKD_CAL_TIME_HOUR : Fld := ⟨.BKD_CAL_TIME, 16, 5⟩
def BKD_CAL_DATE_DAY : Fld := ⟨.BKD_CAL_DATE, 0, 5⟩
def BKD_CAL_DATE_MONTH : Fld := ⟨.BKD_CAL_DATE, 8, 4⟩
def BKD_CAL_DATE_YEAR : Fld := ⟨.BKD_CAL_DATE, 16, 8⟩
def BKD_CAL_DATE_WDAY : Fld := ⟨.BKD_CAL_DATE, 24, 3⟩
def BKD_CAL_SET_TIME_SEC : Fld := ⟨.BKD_CAL_SET_TIME, 0, 6⟩
def BKD_CAL_SET_TIME_MIN : Fld := ⟨.BKD_CAL_SET_TIME, 8, 6⟩
def BKD_CAL_SET_TIME_HOUR : Fld := ⟨.BKD_CAL_SET_TIME, 16, 5⟩
def BKD_CAL_SET_DATE_DAY : Fld := ⟨.BKD_CAL_SET_DATE, 0, 5⟩
def BKD_CAL_SET_DATE_MONTH : Fld := ⟨.BKD_CAL_SET_DATE, 8, 4⟩
def BKD_CAL_SET_DATE_YEAR : Fld := ⟨.BKD_CAL_SET_DATE, 16, 8⟩
def BKD_CAL_SET_DATE_WDAY : Fld := ⟨.BKD_CAL_SET_DATE, 24, 3⟩
def BKD_WKPIN_FILT0 : Fld := ⟨.BKD_WKPIN, 0, 4⟩
def BKD_WKPIN_POL0 : Fld := ⟨.BKD_WKPIN, 4, 1⟩
def BKD_WKPIN_PULL0 : Fld := ⟨.BKD_WKPIN, 5, 1⟩
def BKD_WKPIN_FILT1 : Fld := ⟨.BKD_WKPIN, 8, 4⟩
def BKD_WKPIN_POL1 : Fld := ⟨.BKD_WKPIN, 12, 1⟩
def BKD_WKPIN_PULL1 : Fld := ⟨.BKD_WKPIN, 13, 1⟩
def BKD_WKPIN_LEVEL : Fld := ⟨.BKD_WKPIN, 16, 2⟩
def BKD_MIDWAKE_PIN0 : Fld := ⟨.BKD_MIDWAKE, 0, 1⟩
def BKD_MIDWAKE_PIN1 : Fld := ⟨.BKD_MIDWAKE, 1, 1⟩
def BKD_MIDWAKE_ALARM : Fld := ⟨.BKD_MIDWAKE, 2, 1⟩
def BKD_MIDWAKE_MAIN_EN : Fld := ⟨.BKD_MIDWAKE, 8, 1⟩
def BKD_BKCRC_CRC : Fld := ⟨.BKD_BKCRC, 0, 16⟩
def BKD_BK_BYTES : Fld := ⟨.BKD_BK, 0, 32⟩
def RETN_STATUS_CANCELLED : Fld := ⟨.RETN_STATUS, 0, 1⟩
def RETN_KEEP_KEEP : Fld := ⟨.RETN_KEEP, 0, 32⟩
def RETN_SEAL_SEAL : Fld := ⟨.RETN_SEAL, 0, 32⟩
def RETN_LOST_LOST : Fld := ⟨.RETN_LOST, 0, 32⟩
def RETN_BAD_BAD : Fld := ⟨.RETN_BAD, 0, 32⟩
def RETN_UNVER_UNVER : Fld := ⟨.RETN_UNVER, 0, 32⟩
def EVR_STATUS_GEN_MERGED : Fld := ⟨.EVR_STATUS, 0, 1⟩
def EVR_FIRE_FIRE : Fld := ⟨.EVR_FIRE, 0, 32⟩
def EVR_CFG_SRC : Fld := ⟨.EVR_CFG, 0, 9⟩
def EVR_CFG_EDGE : Fld := ⟨.EVR_CFG, 16, 2⟩
def EVR_CFG_SEC : Fld := ⟨.EVR_CFG, 27, 1⟩
def EVR_CFG_OWNER : Fld := ⟨.EVR_CFG, 28, 3⟩
def EVR_CFG_EN : Fld := ⟨.EVR_CFG, 31, 1⟩
def EVR_GUARD_N : Fld := ⟨.EVR_GUARD, 0, 16⟩
def EVR_GUARD_K : Fld := ⟨.EVR_GUARD, 16, 5⟩
def EVR_CSTAT_LOOP_TRIP : Fld := ⟨.EVR_CSTAT, 0, 1⟩
def EVR_CSTAT_FIRE_MERGED : Fld := ⟨.EVR_CSTAT, 1, 1⟩
def EVR_CCOUNT_COUNT : Fld := ⟨.EVR_CCOUNT, 0, 32⟩
def EVR_TSEL_SELA : Fld := ⟨.EVR_TSEL, 0, 7⟩
def EVR_TSEL_SELB : Fld := ⟨.EVR_TSEL, 16, 7⟩
def EVR_TSEL_B_EN : Fld := ⟨.EVR_TSEL, 23, 1⟩
def EVR_TSEL_EN : Fld := ⟨.EVR_TSEL, 31, 1⟩
def EVR_TSTAT_COALESCED : Fld := ⟨.EVR_TSTAT, 0, 1⟩
def EVR_TSTAT_EVT_OVERRUN : Fld := ⟨.EVR_TSTAT, 1, 1⟩
def EVR_TSTAT_OVR_COUNT : Fld := ⟨.EVR_TSTAT, 16, 16⟩
def EVR_PTAP_PAGE : Fld := ⟨.EVR_PTAP, 0, 8⟩
def EVR_PTAP_EN : Fld := ⟨.EVR_PTAP, 31, 1⟩
def EVR_GIN_PIN : Fld := ⟨.EVR_GIN, 0, 6⟩
def EVR_GIN_EDGE : Fld := ⟨.EVR_GIN, 8, 2⟩
def EVR_GIN_EN : Fld := ⟨.EVR_GIN, 31, 1⟩
def EVR_GOUT_PIN : Fld := ⟨.EVR_GOUT, 0, 6⟩
def EVR_GOUT_ACTION : Fld := ⟨.EVR_GOUT, 8, 2⟩
def EVR_GOUT_EN : Fld := ⟨.EVR_GOUT, 31, 1⟩
def EVR_CIRQ_LATCH : Fld := ⟨.EVR_CIRQ, 0, 32⟩
def EVR_CIRQ_OVR_OVR : Fld := ⟨.EVR_CIRQ_OVR, 0, 32⟩
def EVL_STATUS_ERR_LOOP : Fld := ⟨.EVL_STATUS, 0, 1⟩
def EVL_STATUS_LOOP_CELL : Fld := ⟨.EVL_STATUS, 8, 5⟩
def EVL_CELL_IN_INSEL0 : Fld := ⟨.EVL_CELL_IN, 0, 8⟩
def EVL_CELL_IN_INSEL1 : Fld := ⟨.EVL_CELL_IN, 8, 8⟩
def EVL_CELL_IN_INSEL2 : Fld := ⟨.EVL_CELL_IN, 16, 8⟩
def EVL_CELL_IN_INSEL3 : Fld := ⟨.EVL_CELL_IN, 24, 8⟩
def EVL_CELL_TT_TT : Fld := ⟨.EVL_CELL_TT, 0, 16⟩
def EVL_CELL_MODE_MODE : Fld := ⟨.EVL_CELL_MODE, 0, 2⟩
def EVL_CELL_MODE_FMODE : Fld := ⟨.EVL_CELL_MODE, 4, 2⟩
def EVL_CELL_MODE_FILT : Fld := ⟨.EVL_CELL_MODE, 8, 4⟩
def EVL_CELL_MODE_DEB : Fld := ⟨.EVL_CELL_MODE, 16, 8⟩
def EVL_CELL_MODE_INIT : Fld := ⟨.EVL_CELL_MODE, 28, 1⟩
def EVL_CELL_STAT_OUT : Fld := ⟨.EVL_CELL_STAT, 0, 1⟩
def EVL_CELL_STAT_Q : Fld := ⟨.EVL_CELL_STAT, 1, 1⟩
def BASKET_STATUS_ARMED : Fld := ⟨.BASKET_STATUS, 0, 8⟩
def BASKET_STATUS_PRESSES : Fld := ⟨.BASKET_STATUS, 16, 16⟩
def BS_CTRL_CMD : Fld := ⟨.BS_CTRL, 0, 3⟩
def BS_CTRL_MIRROR : Fld := ⟨.BS_CTRL, 8, 1⟩
def BS_STATE_STATE : Fld := ⟨.BS_STATE, 0, 3⟩
def BS_STATE_REASON : Fld := ⟨.BS_STATE, 8, 4⟩
def BS_STATE_OWNER : Fld := ⟨.BS_STATE, 16, 3⟩
def BS_STATE_SEC : Fld := ⟨.BS_STATE, 19, 1⟩
def BS_STATE_COUNT : Fld := ⟨.BS_STATE, 20, 10⟩
def BS_STATE_LATE : Fld := ⟨.BS_STATE, 30, 1⟩
def BS_STATE_TWIN_OK : Fld := ⟨.BS_STATE, 31, 1⟩
def BS_SEAM_GEN : Fld := ⟨.BS_SEAM, 0, 6⟩
def BS_SEAM_MODE : Fld := ⟨.BS_SEAM, 8, 2⟩
def BS_TARGET_LO_TARGET_LO : Fld := ⟨.BS_TARGET_LO, 0, 32⟩
def BS_TARGET_HI_TARGET_HI : Fld := ⟨.BS_TARGET_HI, 0, 32⟩
def BS_PNUM_LO_NUM_LO : Fld := ⟨.BS_PNUM_LO, 0, 32⟩
def BS_PNUM_HI_NUM_HI : Fld := ⟨.BS_PNUM_HI, 0, 32⟩
def BS_PEPOCH_LO_EPOCH_LO : Fld := ⟨.BS_PEPOCH_LO, 0, 32⟩
def BS_PEPOCH_HI_EPOCH_HI : Fld := ⟨.BS_PEPOCH_HI, 0, 32⟩
def BS_INFO_DEFER : Fld := ⟨.BS_INFO, 0, 16⟩
def BS_INFO_FAIL_ENTRY : Fld := ⟨.BS_INFO, 16, 10⟩
def BS_ADDR_ADDR : Fld := ⟨.BS_ADDR, 0, 32⟩
def BS_MASK_MASK : Fld := ⟨.BS_MASK, 0, 32⟩
def BS_VALUE_VALUE : Fld := ⟨.BS_VALUE, 0, 32⟩
def BS_RIDX_INDEX : Fld := ⟨.BS_RIDX, 0, 9⟩
def BS_RIDX_WORD : Fld := ⟨.BS_RIDX, 9, 2⟩
def BS_RDATA_DATA : Fld := ⟨.BS_RDATA, 0, 32⟩
def SEAM_CFG_EN : Fld := ⟨.SEAM_CFG, 0, 1⟩
def SEAM_CFG_EVT_EN : Fld := ⟨.SEAM_CFG, 1, 1⟩
def SEAM_CFG_K : Fld := ⟨.SEAM_CFG, 2, 6⟩
def SEAM_CFG_SRCSEL : Fld := ⟨.SEAM_CFG, 8, 8⟩
def SEAM_NUM_LO_NUM_LO : Fld := ⟨.SEAM_NUM_LO, 0, 32⟩
def SEAM_NUM_HI_NUM_HI : Fld := ⟨.SEAM_NUM_HI, 0, 32⟩
def SEAM_EPOCH_LO_EPOCH_LO : Fld := ⟨.SEAM_EPOCH_LO, 0, 32⟩
def SEAM_EPOCH_HI_EPOCH_HI : Fld := ⟨.SEAM_EPOCH_HI, 0, 32⟩
def SEAM_SOFT_FIRE : Fld := ⟨.SEAM_SOFT, 0, 1⟩
def SEAM_STATUS_SOFT_MERGED : Fld := ⟨.SEAM_STATUS, 0, 1⟩
def SEAM_STATUS_STALE : Fld := ⟨.SEAM_STATUS, 1, 1⟩
def ANG_CTRL_EN : Fld := ⟨.ANG_CTRL, 0, 1⟩
def ANG_CTRL_LOAD : Fld := ⟨.ANG_CTRL, 1, 1⟩
def ANG_CTRL_LEARN : Fld := ⟨.ANG_CTRL, 2, 1⟩
def ANG_CTRL_REACQ : Fld := ⟨.ANG_CTRL, 3, 1⟩
def ANG_CFG_PPR : Fld := ⟨.ANG_CFG, 0, 16⟩
def ANG_CFG_TSEL : Fld := ⟨.ANG_CFG, 16, 5⟩
def ANG_CFG_RSEL : Fld := ⟨.ANG_CFG, 21, 5⟩
def ANG_CFG_REF_MODE : Fld := ⟨.ANG_CFG, 26, 2⟩
def ANG_CFG_GAP_TEETH : Fld := ⟨.ANG_CFG, 28, 2⟩
def ANG_CFG_REF_REQ : Fld := ⟨.ANG_CFG, 30, 1⟩
def ANG_CFG_TBL_EN : Fld := ⟨.ANG_CFG, 31, 1⟩
def ANG_LOOP_KP_SHIFT : Fld := ⟨.ANG_LOOP, 0, 4⟩
def ANG_LOOP_KS_SHIFT : Fld := ⟨.ANG_LOOP, 4, 4⟩
def ANG_LOOP_ACQ_TOL : Fld := ⟨.ANG_LOOP, 8, 4⟩
def ANG_LOOP_ACQ_EDGES : Fld := ⟨.ANG_LOOP, 12, 4⟩
def ANG_LOOP_COAST_GAP : Fld := ⟨.ANG_LOOP, 16, 4⟩
def ANG_LOOP_RELOCK_EDGES : Fld := ⟨.ANG_LOOP, 20, 4⟩
def ANG_LOOP_LEARN_LOG2 : Fld := ⟨.ANG_LOOP, 24, 4⟩
def ANG_COAST_COAST_REVS : Fld := ⟨.ANG_COAST, 0, 16⟩
def ANG_COAST_ALT_TSEL : Fld := ⟨.ANG_COAST, 16, 5⟩
def ANG_COAST_ALT_EN : Fld := ⟨.ANG_COAST, 21, 1⟩
def ANG_STATUS_STATE : Fld := ⟨.ANG_STATUS, 0, 3⟩
def ANG_STATUS_REF_SEEN : Fld := ⟨.ANG_STATUS, 3, 1⟩
def ANG_STATUS_TBL_HALF : Fld := ⟨.ANG_STATUS, 4, 1⟩
def ANG_STATUS_LEARN_BUSY : Fld := ⟨.ANG_STATUS, 5, 1⟩
def ANG_STATUS_ALT_ACTIVE : Fld := ⟨.ANG_STATUS, 6, 1⟩
def ANG_STATUS_STALE : Fld := ⟨.ANG_STATUS, 8, 1⟩
def ANG_STATUS_LOAD_REFUSED : Fld := ⟨.ANG_STATUS, 9, 1⟩
def ANG_STATUS_REF_MISMATCH : Fld := ⟨.ANG_STATUS, 10, 1⟩
def ANG_STATUS_DISCONT : Fld := ⟨.ANG_STATUS, 11, 1⟩
def ANG_STATUS_CMP_OVF : Fld := ⟨.ANG_STATUS, 12, 1⟩
def ANG_STATUS_LEARN_ABORT : Fld := ⟨.ANG_STATUS, 13, 1⟩
def ANG_STATUS_TBL_DEFER : Fld := ⟨.ANG_STATUS, 16, 8⟩
def ANG_POS_LO_FRAC : Fld := ⟨.ANG_POS_LO, 0, 32⟩
def ANG_POS_HI_REV : Fld := ⟨.ANG_POS_HI, 0, 32⟩
def ANG_WRAP_WRAP : Fld := ⟨.ANG_WRAP, 0, 32⟩
def ANG_SPEED_SPEED : Fld := ⟨.ANG_SPEED, 0, 32⟩
def ANG_EPOCH_LO_EPOCH_LO : Fld := ⟨.ANG_EPOCH_LO, 0, 32⟩
def ANG_EPOCH_HI_EPOCH_HI : Fld := ⟨.ANG_EPOCH_HI, 0, 32⟩
def ANG_PRESET_LO_FRAC : Fld := ⟨.ANG_PRESET_LO, 0, 32⟩
def ANG_PRESET_HI_REV : Fld := ⟨.ANG_PRESET_HI, 0, 32⟩
def ANG_TBL_IDX_INDEX : Fld := ⟨.ANG_TBL_IDX, 0, 10⟩
def ANG_TBL_IDX_AUTOINC : Fld := ⟨.ANG_TBL_IDX, 15, 1⟩
def ANG_TBL_IDX_RD_HALF : Fld := ⟨.ANG_TBL_IDX, 16, 1⟩
def ANG_TBL_DATA_DEV : Fld := ⟨.ANG_TBL_DATA, 0, 16⟩
def ANG_TBL_CTRL_SWAP : Fld := ⟨.ANG_TBL_CTRL, 0, 1⟩
def CMP_CTRL_MODE : Fld := ⟨.CMP_CTRL, 0, 2⟩
def CMP_CTRL_FIRED : Fld := ⟨.CMP_CTRL, 2, 1⟩
def CMP_CTRL_OVF : Fld := ⟨.CMP_CTRL, 3, 1⟩
def CMP_TGT_LO_FRAC : Fld := ⟨.CMP_TGT_LO, 0, 32⟩
def CMP_TGT_HI_REV : Fld := ⟨.CMP_TGT_HI, 0, 32⟩
def CMP_STEP_STEP : Fld := ⟨.CMP_STEP, 0, 32⟩
def TACH_CFG_EN : Fld := ⟨.TACH_CFG, 0, 1⟩
def TACH_CFG_POL : Fld := ⟨.TACH_CFG, 1, 1⟩
def TACH_CFG_FILT : Fld := ⟨.TACH_CFG, 2, 8⟩
def TACH_STAMP_LO_STAMP_LO : Fld := ⟨.TACH_STAMP_LO, 0, 32⟩
def TACH_STAMP_HI_STAMP_HI : Fld := ⟨.TACH_STAMP_HI, 0, 32⟩
def TACH_COUNT_COUNT : Fld := ⟨.TACH_COUNT, 0, 32⟩
def TACH_LEVEL_LEVEL : Fld := ⟨.TACH_LEVEL, 0, 32⟩
def TACH_OVR_OVR : Fld := ⟨.TACH_OVR, 0, 32⟩
def TACH_MISC_STALE : Fld := ⟨.TACH_MISC, 0, 1⟩
def AIN_CTRL_RUN : Fld := ⟨.AIN_CTRL, 0, 1⟩
def AIN_EPOCH_DIV_DIV : Fld := ⟨.AIN_EPOCH_DIV, 0, 16⟩
def AIN_PRESET_LO_PRESET_LO : Fld := ⟨.AIN_PRESET_LO, 0, 32⟩
def AIN_PRESET_HI_PRESET_HI : Fld := ⟨.AIN_PRESET_HI, 0, 32⟩
def AIN_EPOCH_LO_EPOCH_LO : Fld := ⟨.AIN_EPOCH_LO, 0, 32⟩
def AIN_EPOCH_HI_EPOCH_HI : Fld := ⟨.AIN_EPOCH_HI, 0, 32⟩
def AIN_ALIGN_MODE : Fld := ⟨.AIN_ALIGN, 0, 2⟩
def AIN_ALIGN_NUMSET : Fld := ⟨.AIN_ALIGN, 2, 1⟩
def AIN_ALIGN_HOLD_MS : Fld := ⟨.AIN_ALIGN, 8, 8⟩
def AIN_ALIGN_OFS_OFFSET : Fld := ⟨.AIN_ALIGN_OFS, 0, 32⟩
def AIN_ALIGN_STATUS_STATE : Fld := ⟨.AIN_ALIGN_STATUS, 0, 3⟩
def AIN_ALIGN_STATUS_LAST_ERR : Fld := ⟨.AIN_ALIGN_STATUS, 16, 16⟩
def AIN_ALIGN_RATE_RATE : Fld := ⟨.AIN_ALIGN_RATE, 0, 32⟩
def AIN_STATUS_STALE : Fld := ⟨.AIN_STATUS, 0, 1⟩
def AIN_STATUS_STEPPED : Fld := ⟨.AIN_STATUS, 1, 1⟩
def AIN_STATUS_COMMIT_REFUSED : Fld := ⟨.AIN_STATUS, 2, 1⟩
def AIN_CHEN_EN : Fld := ⟨.AIN_CHEN, 0, 32⟩
def AIN_CHCOUNT_N : Fld := ⟨.AIN_CHCOUNT, 0, 8⟩
def AIN_GRP_PWR_EN : Fld := ⟨.AIN_GRP_PWR, 0, 12⟩
def AIN_GRP_PWR_RDY : Fld := ⟨.AIN_GRP_PWR, 16, 12⟩
def AIN_SPARE_PIN : Fld := ⟨.AIN_SPARE, 0, 4⟩
def AIN_SPARE_EN : Fld := ⟨.AIN_SPARE, 4, 1⟩
def AIN_MOD_PRES_PRES : Fld := ⟨.AIN_MOD_PRES, 0, 12⟩
def AIN_MOD_CHG_PRES_CHG : Fld := ⟨.AIN_MOD_CHG, 0, 12⟩
def AIN_MOD_CHG_STATE_CHG : Fld := ⟨.AIN_MOD_CHG, 16, 12⟩
def AIN_MOD_STATE_STATE : Fld := ⟨.AIN_MOD_STATE, 0, 2⟩
def AIN_MOD_STATE_FORMAT : Fld := ⟨.AIN_MOD_STATE, 4, 3⟩
def AIN_MOD_STATE_REASON : Fld := ⟨.AIN_MOD_STATE, 8, 4⟩
def AIN_IDBUF_BYTES : Fld := ⟨.AIN_IDBUF, 0, 32⟩
def AIN_IDCOMMIT_MOD : Fld := ⟨.AIN_IDCOMMIT, 0, 4⟩
def MOD_ID_TYPE : Fld := ⟨.MOD_ID, 0, 16⟩
def MOD_ID_POP : Fld := ⟨.MOD_ID, 16, 16⟩
def MOD_BIAS_BIAS : Fld := ⟨.MOD_BIAS, 0, 16⟩
def MOD_SER_LO_SER_LO : Fld := ⟨.MOD_SER_LO, 0, 32⟩
def MOD_SER_HI_SER_HI : Fld := ⟨.MOD_SER_HI, 0, 32⟩
def CH_GAIN_GAIN : Fld := ⟨.CH_GAIN, 0, 32⟩
def CH_OFFSET_OFFSET : Fld := ⟨.CH_OFFSET, 0, 32⟩
def CH_CORNER_CORNER : Fld := ⟨.CH_CORNER, 0, 32⟩
def CH_FLAGS_POP : Fld := ⟨.CH_FLAGS, 0, 1⟩
def CH_FLAGS_BIAS : Fld := ⟨.CH_FLAGS, 1, 1⟩
def CH_FLAGS_BINDABLE : Fld := ⟨.CH_FLAGS, 2, 1⟩
def ADC_CTRL_ROT_EN : Fld := ⟨.ADC_CTRL, 0, 1⟩
def ADC_CTRL_ROT_NOW : Fld := ⟨.ADC_CTRL, 1, 1⟩
def ADC_CTRL_EVE_CAL : Fld := ⟨.ADC_CTRL, 2, 1⟩
def ADC_CTRL_INIT_CAL : Fld := ⟨.ADC_CTRL, 3, 1⟩
def ADC_CFG_ROT_SG : Fld := ⟨.ADC_CFG, 0, 3⟩
def ADC_CFG_CAL_LOG2 : Fld := ⟨.ADC_CFG, 8, 5⟩
def ADC_CFG_DRIFT_LOG2 : Fld := ⟨.ADC_CFG, 16, 4⟩
def ADC_CFG_MID_WIN : Fld := ⟨.ADC_CFG, 24, 8⟩
def ADC_SLICE_MAP_POS0 : Fld := ⟨.ADC_SLICE_MAP, 0, 4⟩
def ADC_SLICE_MAP_POS1 : Fld := ⟨.ADC_SLICE_MAP, 4, 4⟩
def ADC_SLICE_MAP_POS2 : Fld := ⟨.ADC_SLICE_MAP, 8, 4⟩
def ADC_SLICE_MAP_POS3 : Fld := ⟨.ADC_SLICE_MAP, 12, 4⟩
def ADC_SLICE_MAP_POS4 : Fld := ⟨.ADC_SLICE_MAP, 16, 4⟩
def ADC_SLICE_MAP_POS5 : Fld := ⟨.ADC_SLICE_MAP, 20, 4⟩
def ADC_SLICE_MAP_POS6 : Fld := ⟨.ADC_SLICE_MAP, 24, 4⟩
def ADC_SLICE_MAP_POS7 : Fld := ⟨.ADC_SLICE_MAP, 28, 4⟩
def ADC_ROT_SPARE : Fld := ⟨.ADC_ROT, 0, 4⟩
def ADC_ROT_ROT_NEXT : Fld := ⟨.ADC_ROT, 4, 3⟩
def ADC_ROT_ROT_DEFER : Fld := ⟨.ADC_ROT, 8, 8⟩
def ADC_ROT_ROT_COUNT : Fld := ⟨.ADC_ROT, 16, 16⟩
def ADC_DRIFT_LIM_OFS_LIM : Fld := ⟨.ADC_DRIFT_LIM, 0, 16⟩
def ADC_DRIFT_LIM_GAIN_LIM : Fld := ⟨.ADC_DRIFT_LIM, 16, 16⟩
def ADC_STATUS_INIT_DONE : Fld := ⟨.ADC_STATUS, 0, 1⟩
def ADC_STATUS_EARLY_RUN : Fld := ⟨.ADC_STATUS, 1, 1⟩
def ADC_STATUS_NO_SPARE : Fld := ⟨.ADC_STATUS, 2, 1⟩
def ADC_STATUS_SHORT : Fld := ⟨.ADC_STATUS, 3, 1⟩
def ADC_STATUS_GRP_ERR : Fld := ⟨.ADC_STATUS, 16, 12⟩
def ADC_SLICE_STATE : Fld := ⟨.ADC_SLICE, 0, 3⟩
def ADC_SLICE_HALF : Fld := ⟨.ADC_SLICE, 3, 1⟩
def ADC_SLICE_CAL_RUNS : Fld := ⟨.ADC_SLICE, 8, 8⟩
def ADC_SLICE_DRIFT_NOW : Fld := ⟨.ADC_SLICE, 17, 1⟩
def ADC_SLICE_DRIFT : Fld := ⟨.ADC_SLICE, 18, 1⟩
def ADC_SLICE_CAL_FAIL : Fld := ⟨.ADC_SLICE, 19, 1⟩
def ADC_SLICE_SAT : Fld := ⟨.ADC_SLICE, 20, 1⟩
def ADC_DRIFT_OFS_OFS : Fld := ⟨.ADC_DRIFT_OFS, 0, 32⟩
def ADC_DRIFT_GAIN_GAIN : Fld := ⟨.ADC_DRIFT_GAIN, 0, 32⟩
def ADCCAL_CTRL_SWAP : Fld := ⟨.ADCCAL_CTRL, 0, 1⟩
def ADCCAL_STATUS_WR_IGNORED : Fld := ⟨.ADCCAL_STATUS, 0, 1⟩
def ADCCAL_OFFSET_OFFSET : Fld := ⟨.ADCCAL_OFFSET, 0, 24⟩
def ADCCAL_GAIN_GAIN : Fld := ⟨.ADCCAL_GAIN, 0, 24⟩
def ADCCAL_LIN_BASE : Fld := ⟨.ADCCAL_LIN, 0, 16⟩
def ADCCAL_LIN_SLOPE : Fld := ⟨.ADCCAL_LIN, 16, 16⟩
def RESULT_CTRL_TRIG : Fld := ⟨.RESULT_CTRL, 0, 2⟩
def RESULT_CTRL_LEN : Fld := ⟨.RESULT_CTRL, 8, 6⟩
def RESULT_CTRL_EVERY : Fld := ⟨.RESULT_CTRL, 16, 4⟩
def RESULT_START_START : Fld := ⟨.RESULT_START, 0, 1⟩
def RESULT_STATUS_SCAN_DONE : Fld := ⟨.RESULT_STATUS, 0, 1⟩
def RESULT_STATUS_TRIG_MERGED : Fld := ⟨.RESULT_STATUS, 1, 1⟩
def RESULT_OVR_OVR : Fld := ⟨.RESULT_OVR, 0, 32⟩
def RESULT_MISS_MISS : Fld := ⟨.RESULT_MISS, 0, 32⟩
def RESULT_SEQ_SEL : Fld := ⟨.RESULT_SEQ, 0, 8⟩
def RESULT_SEQ_SRC : Fld := ⟨.RESULT_SEQ, 8, 2⟩
def RESULT_VALUE : Fld := ⟨.RESULT, 0, 24⟩
def RESULT_TAG : Fld := ⟨.RESULT, 24, 7⟩
def RESULT_NEW : Fld := ⟨.RESULT, 31, 1⟩
def CH_TRIM_OFS0 : Fld := ⟨.CH_TRIM, 0, 16⟩
def CH_TRIM_OFS1 : Fld := ⟨.CH_TRIM, 16, 16⟩
def CH_STAT_SAT : Fld := ⟨.CH_STAT, 0, 1⟩
def CH_STAT_SETTLING : Fld := ⟨.CH_STAT, 2, 1⟩
def CH_STAT_BOUND : Fld := ⟨.CH_STAT, 8, 1⟩
def CH_STAT_STREAM : Fld := ⟨.CH_STAT, 16, 6⟩
def SPARE_TRIM_OFS0 : Fld := ⟨.SPARE_TRIM, 0, 16⟩
def SPARE_TRIM_OFS1 : Fld := ⟨.SPARE_TRIM, 16, 16⟩
def STR_CTRL_EN : Fld := ⟨.STR_CTRL, 0, 1⟩
def STR_CTRL_DEST_LINE : Fld := ⟨.STR_CTRL, 1, 1⟩
def STR_CTRL_DEST_RESULT : Fld := ⟨.STR_CTRL, 2, 1⟩
def STR_CTRL_TAG_LOG2 : Fld := ⟨.STR_CTRL, 8, 4⟩
def STR_CTRL_HDR_LOG2 : Fld := ⟨.STR_CTRL, 16, 5⟩
def STR_CTRL_HDR_NOW : Fld := ⟨.STR_CTRL, 31, 1⟩
def STR_CFG_K : Fld := ⟨.STR_CFG, 0, 4⟩
def STR_CFG_ENG : Fld := ⟨.STR_CFG, 8, 5⟩
def STR_CFG_SHAFT : Fld := ⟨.STR_CFG, 13, 1⟩
def STR_CFG_NCH : Fld := ⟨.STR_CFG, 16, 5⟩
def STR_CFG_LINE : Fld := ⟨.STR_CFG, 24, 6⟩
def STR_CH_CH0 : Fld := ⟨.STR_CH, 0, 8⟩
def STR_CH_CH1 : Fld := ⟨.STR_CH, 8, 8⟩
def STR_CH_CH2 : Fld := ⟨.STR_CH, 16, 8⟩
def STR_CH_CH3 : Fld := ⟨.STR_CH, 24, 8⟩
def STR_STATUS_ACTIVE : Fld := ⟨.STR_STATUS, 0, 1⟩
def STR_STATUS_FINISHING : Fld := ⟨.STR_STATUS, 1, 1⟩
def STR_STATUS_DROP : Fld := ⟨.STR_STATUS, 8, 1⟩
def STR_STATUS_CUT : Fld := ⟨.STR_STATUS, 9, 1⟩
def STR_STATUS_STALE : Fld := ⟨.STR_STATUS, 10, 1⟩
def STR_STATUS_DROP_COUNT : Fld := ⟨.STR_STATUS, 16, 16⟩
def STR_SEQ_LO_SEQ_LO : Fld := ⟨.STR_SEQ_LO, 0, 32⟩
def STR_SEQ_HI_SEQ_HI : Fld := ⟨.STR_SEQ_HI, 0, 32⟩
def STR_HDR_CNT_COUNT : Fld := ⟨.STR_HDR_CNT, 0, 32⟩
def RL_CTRL_EN : Fld := ⟨.RL_CTRL, 0, 1⟩
def RL_CTRL_DEST : Fld := ⟨.RL_CTRL, 1, 2⟩
def RL_CTRL_SWAP : Fld := ⟨.RL_CTRL, 8, 1⟩
def RL_CTRL_COPY : Fld := ⟨.RL_CTRL, 9, 1⟩
def RL_CFG_SRC : Fld := ⟨.RL_CFG, 0, 6⟩
def RL_CFG_M : Fld := ⟨.RL_CFG, 8, 5⟩
def RL_CFG_REC_LOG2 : Fld := ⟨.RL_CFG, 16, 5⟩
def RL_CFG_LINE : Fld := ⟨.RL_CFG, 24, 6⟩
def RL_RING_BASE_BASE : Fld := ⟨.RL_RING_BASE, 5, 19⟩
def RL_RING_RECS_RECS : Fld := ⟨.RL_RING_RECS, 0, 16⟩
def RL_RING_WR_INDEX : Fld := ⟨.RL_RING_WR, 0, 16⟩
def RL_STATUS_STATE : Fld := ⟨.RL_STATUS, 0, 2⟩
def RL_STATUS_HALF : Fld := ⟨.RL_STATUS, 4, 1⟩
def RL_STATUS_ALIAS_RISK : Fld := ⟨.RL_STATUS, 5, 1⟩
def RL_STATUS_ALIAS_SEEN : Fld := ⟨.RL_STATUS, 8, 1⟩
def RL_STATUS_OVR : Fld := ⟨.RL_STATUS, 9, 1⟩
def RL_STATUS_DEST_OFF : Fld := ⟨.RL_STATUS, 10, 1⟩
def RL_STATUS_STALE : Fld := ⟨.RL_STATUS, 11, 1⟩
def RL_STATUS_TBL_DEFER : Fld := ⟨.RL_STATUS, 16, 8⟩
def RL_SEQ_LO_SEQ_LO : Fld := ⟨.RL_SEQ_LO, 0, 32⟩
def RL_SEQ_HI_SEQ_HI : Fld := ⟨.RL_SEQ_HI, 0, 32⟩
def RL_TBL_IDX_INDEX : Fld := ⟨.RL_TBL_IDX, 0, 7⟩
def RL_TBL_IDX_RD_HALF : Fld := ⟨.RL_TBL_IDX, 8, 1⟩
def RL_TBL_IDX_AUTOINC : Fld := ⟨.RL_TBL_IDX, 9, 1⟩
def RL_TBL_DATA_DATA : Fld := ⟨.RL_TBL_DATA, 0, 32⟩
def RL_FILL_FILL : Fld := ⟨.RL_FILL, 0, 7⟩
def LINE_CFG_FLUSH_MS : Fld := ⟨.LINE_CFG, 0, 8⟩
def LINE_SHORT_BASE : Fld := ⟨.LINE_SHORT, 0, 10⟩
def LINE_SHORT_COUNT : Fld := ⟨.LINE_SHORT, 16, 11⟩
def LINE_SHORT_KEEP : Fld := ⟨.LINE_SHORT, 31, 1⟩
def LINE_SHORT_WM_WM : Fld := ⟨.LINE_SHORT_WM, 0, 11⟩
def LINE_WSTATE_STATE : Fld := ⟨.LINE_WSTATE, 0, 2⟩
def LINE_WSTATE_PENDING : Fld := ⟨.LINE_WSTATE, 8, 8⟩
def LINE_WSTATE_USED : Fld := ⟨.LINE_WSTATE, 16, 11⟩
def LINE_SHORT_DROP_COUNT : Fld := ⟨.LINE_SHORT_DROP, 0, 32⟩
def LINE_FETCH_CTRL_LINE : Fld := ⟨.LINE_FETCH_CTRL, 0, 6⟩
def LINE_FETCH_CTRL_COUNT : Fld := ⟨.LINE_FETCH_CTRL, 8, 8⟩
def LINE_FETCH_CTRL_START : Fld := ⟨.LINE_FETCH_CTRL, 31, 1⟩
def LINE_FETCH_IDX_INDEX : Fld := ⟨.LINE_FETCH_IDX, 0, 26⟩
def LINE_FETCH_DST_LO_ADDR_LO : Fld := ⟨.LINE_FETCH_DST_LO, 0, 32⟩
def LINE_FETCH_DST_HI_ADDR_HI : Fld := ⟨.LINE_FETCH_DST_HI, 0, 16⟩
def LINE_FETCH_STATUS_DONE : Fld := ⟨.LINE_FETCH_STATUS, 0, 1⟩
def LINE_FETCH_STATUS_REASON : Fld := ⟨.LINE_FETCH_STATUS, 1, 3⟩
def LINE_FETCH_STATUS_IGNORED : Fld := ⟨.LINE_FETCH_STATUS, 4, 1⟩
def LINE_FETCH_STATUS_HEM : Fld := ⟨.LINE_FETCH_STATUS, 5, 9⟩
def LINE_FETCH_STATUS_UNWRITTEN : Fld := ⟨.LINE_FETCH_STATUS, 14, 9⟩
def LINE_FETCH_STATUS_UNCORR : Fld := ⟨.LINE_FETCH_STATUS, 23, 9⟩
def LINE_CTRL_EN : Fld := ⟨.LINE_CTRL, 0, 1⟩
def LINE_CTRL_FRESH : Fld := ⟨.LINE_CTRL, 1, 1⟩
def LINE_CTRL_FLUSH : Fld := ⟨.LINE_CTRL, 2, 1⟩
def LINE_CTRL_HEM : Fld := ⟨.LINE_CTRL, 16, 12⟩
def LINE_BASE_UNITS : Fld := ⟨.LINE_BASE, 0, 17⟩
def LINE_SIZE_UNITS : Fld := ⟨.LINE_SIZE, 0, 17⟩
def LINE_WR_INDEX : Fld := ⟨.LINE_WR, 0, 26⟩
def LINE_SEQ_LO_SEQ_LO : Fld := ⟨.LINE_SEQ_LO, 0, 32⟩
def LINE_SEQ_HI_SEQ_HI : Fld := ⟨.LINE_SEQ_HI, 0, 16⟩
def LINE_STATUS_FILLED : Fld := ⟨.LINE_STATUS, 0, 1⟩
def LINE_STATUS_STALE : Fld := ⟨.LINE_STATUS, 1, 1⟩
def LINE_STATUS_DISCARD : Fld := ⟨.LINE_STATUS, 2, 1⟩
def LINE_STATUS_SKIPS : Fld := ⟨.LINE_STATUS, 16, 16⟩
def LINE_AVAIL_UNPEGGED : Fld := ⟨.LINE_AVAIL, 0, 26⟩
def PEG_SEL_PEG : Fld := ⟨.PEG_SEL, 0, 8⟩
def PEG_CMD_CMD : Fld := ⟨.PEG_CMD, 0, 3⟩
def PEG_LINE_LINE : Fld := ⟨.PEG_LINE, 0, 6⟩
def PEG_FIRST_FIRST : Fld := ⟨.PEG_FIRST, 0, 26⟩
def PEG_COUNT_COUNT : Fld := ⟨.PEG_COUNT, 0, 26⟩
def PEG_BEFORE_BEFORE : Fld := ⟨.PEG_BEFORE, 0, 26⟩
def PEG_AFTER_AFTER : Fld := ⟨.PEG_AFTER, 0, 26⟩
def PEG_STATE_STATE : Fld := ⟨.PEG_STATE, 0, 3⟩
def PEG_STATE_CLIPPED : Fld := ⟨.PEG_STATE, 3, 1⟩
def PEG_STATE_SHORTENED : Fld := ⟨.PEG_STATE, 4, 1⟩
def PEG_STATE_REASON : Fld := ⟨.PEG_STATE, 8, 4⟩
def PEG_STATUS_REFUSED : Fld := ⟨.PEG_STATUS, 0, 1⟩
def PEG_STATUS_TRIG_IGNORED : Fld := ⟨.PEG_STATUS, 1, 1⟩
def PEG_TRIG_PEG : Fld := ⟨.PEG_TRIG, 0, 8⟩
def PEG_TRIG_EN : Fld := ⟨.PEG_TRIG, 8, 1⟩
def PEG_BUSY_BUSY : Fld := ⟨.PEG_BUSY, 0, 32⟩
def HBMC_CFG_RATE : Fld := ⟨.HBMC_CFG, 0, 3⟩
def HBMC_CFG_TRAIN : Fld := ⟨.HBMC_CFG, 4, 2⟩
def HBMC_CFG_RFM_EN : Fld := ⟨.HBMC_CFG, 8, 1⟩
def HBMC_CTRL_TRAIN_START : Fld := ⟨.HBMC_CTRL, 0, 1⟩
def HBMC_STATE_STATE : Fld := ⟨.HBMC_STATE, 0, 3⟩
def HBMC_STATE_HOW : Fld := ⟨.HBMC_STATE, 4, 2⟩
def HBMC_STATE_TEMP : Fld := ⟨.HBMC_STATE, 16, 8⟩
def HBMC_STATE_TRIES : Fld := ⟨.HBMC_STATE, 24, 8⟩
def HBMC_ECC_CE_COUNT : Fld := ⟨.HBMC_ECC_CE, 0, 32⟩
def HBMC_ECC_UE_COUNT : Fld := ⟨.HBMC_ECC_UE, 0, 32⟩
def HBMC_UE_ADDR_LO_ADDR_LO : Fld := ⟨.HBMC_UE_ADDR_LO, 0, 32⟩
def HBMC_UE_ADDR_HI_ADDR_HI : Fld := ⟨.HBMC_UE_ADDR_HI, 0, 16⟩
def HBMC_UE_INFO_SRC : Fld := ⟨.HBMC_UE_INFO, 0, 2⟩
def HBMC_UE_INFO_OVF : Fld := ⟨.HBMC_UE_INFO, 30, 1⟩
def HBMC_UE_INFO_VALID : Fld := ⟨.HBMC_UE_INFO, 31, 1⟩
def HBMC_ECS_COUNT : Fld := ⟨.HBMC_ECS, 0, 16⟩
def HBMC_ECS_ROWS : Fld := ⟨.HBMC_ECS, 16, 16⟩
def HBMC_REPAIR_LANES_USED : Fld := ⟨.HBMC_REPAIR, 0, 8⟩
def HBMC_REPAIR_PPR_USED : Fld := ⟨.HBMC_REPAIR, 8, 8⟩
def HBMC_TIDX_INDEX : Fld := ⟨.HBMC_TIDX, 0, 8⟩
def HBMC_TDATA_DATA : Fld := ⟨.HBMC_TDATA, 0, 32⟩
def GOV_CEIL_CEIL : Fld := ⟨.GOV_CEIL, 0, 9⟩
def GOV_LIMIT_LIMIT : Fld := ⟨.GOV_LIMIT, 0, 9⟩
def GOV_STATUS_HBM_UP : Fld := ⟨.GOV_STATUS, 0, 1⟩
def GOV_PEAK_PEAK : Fld := ⟨.GOV_PEAK, 0, 9⟩
def GOV_HELD_COUNT : Fld := ⟨.GOV_HELD, 0, 32⟩
def RINSE_CTRL_EN : Fld := ⟨.RINSE_CTRL, 0, 1⟩
def RINSE_POS_BLOCK : Fld := ⟨.RINSE_POS, 0, 26⟩
def RINSE_POS_LINE : Fld := ⟨.RINSE_POS, 26, 6⟩
def RINSE_PASS_COUNT : Fld := ⟨.RINSE_PASS, 0, 32⟩
def RINSE_FIX_COUNT : Fld := ⟨.RINSE_FIX, 0, 32⟩
def WEL_CTRL_SERVICE : Fld := ⟨.WEL_CTRL, 0, 1⟩
def WEL_CTRL_RESUME : Fld := ⟨.WEL_CTRL, 1, 1⟩
def WEL_CTRL_HALT : Fld := ⟨.WEL_CTRL, 2, 1⟩
def WEL_STATUS_STATE : Fld := ⟨.WEL_STATUS, 0, 3⟩
def WEL_STATUS_PRIO : Fld := ⟨.WEL_STATUS, 6, 2⟩
def WEL_STATUS_LOGICAL : Fld := ⟨.WEL_STATUS, 8, 4⟩
def WEL_STATUS_CAUSE : Fld := ⟨.WEL_STATUS, 12, 4⟩
def WEL_FAULT_PC_ADDR : Fld := ⟨.WEL_FAULT_PC, 0, 11⟩
def WEL_JOB_DST_DST : Fld := ⟨.WEL_JOB_DST, 0, 24⟩
def WEL_CYCLES_COUNT : Fld := ⟨.WEL_CYCLES, 0, 32⟩
def WEL_JOBS_COUNT : Fld := ⟨.WEL_JOBS, 0, 32⟩
def WEL_ARITH_FLUSH : Fld := ⟨.WEL_ARITH, 0, 1⟩
def WEL_ARITH_NAN : Fld := ⟨.WEL_ARITH, 1, 1⟩
def WEL_LMEM_ECC_CE : Fld := ⟨.WEL_LMEM_ECC, 0, 16⟩
def WEL_LMEM_ECC_UE : Fld := ⟨.WEL_LMEM_ECC, 16, 16⟩
def WEL_MFAULT_FIELD : Fld := ⟨.WEL_MFAULT, 0, 5⟩
def CS_CTRL_LOAD : Fld := ⟨.CS_CTRL, 0, 1⟩
def CS_CTRL_CHECK : Fld := ⟨.CS_CTRL, 1, 1⟩
def CS_CTRL_VERIFY : Fld := ⟨.CS_CTRL, 2, 1⟩
def CS_CTRL_PATCH : Fld := ⟨.CS_CTRL, 3, 1⟩
def CS_CTRL_AUTOINC : Fld := ⟨.CS_CTRL, 4, 1⟩
def CS_CTRL_INVALIDATE : Fld := ⟨.CS_CTRL, 5, 1⟩
def CS_STATUS_VALID : Fld := ⟨.CS_STATUS, 0, 1⟩
def CS_STATUS_ACTIVE : Fld := ⟨.CS_STATUS, 1, 1⟩
def CS_STATUS_REASON : Fld := ⟨.CS_STATUS, 4, 3⟩
def CS_STATUS_VERIFY_OK : Fld := ⟨.CS_STATUS, 8, 1⟩
def CS_STATUS_VERIFY_BAD : Fld := ⟨.CS_STATUS, 9, 1⟩
def CS_ADDR_ADDR : Fld := ⟨.CS_ADDR, 0, 11⟩
def CS_DATA_DATA : Fld := ⟨.CS_DATA, 0, 32⟩
def CS_DATA5_DATA : Fld := ⟨.CS_DATA5, 0, 16⟩
def CS_SRC_OFFSET : Fld := ⟨.CS_SRC, 5, 19⟩
def CS_PATCHES_COUNT : Fld := ⟨.CS_PATCHES, 0, 12⟩
def CS_EXPECT_DIGEST : Fld := ⟨.CS_EXPECT, 0, 32⟩
def WEL_TBL_CTRL_SWAP : Fld := ⟨.WEL_TBL_CTRL, 0, 1⟩
def WEL_TBL_CTRL_FSEL : Fld := ⟨.WEL_TBL_CTRL, 1, 2⟩
def WEL_TBL_STATUS_HALF : Fld := ⟨.WEL_TBL_STATUS, 0, 1⟩
def WEL_TBL_STATUS_WR_ACTIVE : Fld := ⟨.WEL_TBL_STATUS, 2, 1⟩
def WEL_TBL_STATUS_TBL_DEFER : Fld := ⟨.WEL_TBL_STATUS, 16, 8⟩
def WEL_TBL_BASE_BASE : Fld := ⟨.WEL_TBL_BASE, 6, 12⟩
def WEL_TBL_SIZE_SIZE : Fld := ⟨.WEL_TBL_SIZE, 0, 12⟩
def WELQ_CTRL_HOLD : Fld := ⟨.WELQ_CTRL, 0, 1⟩
def WELQ_STATUS_ALL_IDLE : Fld := ⟨.WELQ_STATUS, 0, 1⟩
def WELQ_STATUS_DESC_BAD : Fld := ⟨.WELQ_STATUS, 1, 1⟩
def WELQ_STATUS_EVT_OVERRUN : Fld := ⟨.WELQ_STATUS, 2, 1⟩
def WELQ_STATUS_LATE : Fld := ⟨.WELQ_STATUS, 3, 1⟩
def WELQ_STATUS_SEAM_MISSED : Fld := ⟨.WELQ_STATUS, 4, 1⟩
def WELQ_STATUS_DSTALE : Fld := ⟨.WELQ_STATUS, 5, 1⟩
def WELQ_STATUS_OVR_COUNT : Fld := ⟨.WELQ_STATUS, 16, 16⟩
def WELQ_MAP_PHYS0 : Fld := ⟨.WELQ_MAP, 0, 5⟩
def WELQ_MAP_PHYS1 : Fld := ⟨.WELQ_MAP, 8, 5⟩
def WELQ_MAP_PHYS2 : Fld := ⟨.WELQ_MAP, 16, 5⟩
def WELQ_MAP_PHYS3 : Fld := ⟨.WELQ_MAP, 24, 5⟩
def WELQ_FLEN_LENGTH : Fld := ⟨.WELQ_FLEN, 0, 16⟩
def WELQ_DFRAME_LO_FRAME_LO : Fld := ⟨.WELQ_DFRAME_LO, 0, 32⟩
def WELQ_DFRAME_HI_FRAME_HI : Fld := ⟨.WELQ_DFRAME_HI, 0, 32⟩
def WELQ_DVALUE_DIGEST : Fld := ⟨.WELQ_DVALUE, 0, 32⟩
def WELQ_DCOUNT_COUNT : Fld := ⟨.WELQ_DCOUNT, 0, 16⟩
def WELQ_DCOUNT_LATE : Fld := ⟨.WELQ_DCOUNT, 31, 1⟩
def WELQ_TPL_ADDR_ADDR : Fld := ⟨.WELQ_TPL_ADDR, 6, 18⟩
def WELQ_TPL_CTRL_QUEUE : Fld := ⟨.WELQ_TPL_CTRL, 0, 6⟩
def WELQ_TPL_CTRL_EN : Fld := ⟨.WELQ_TPL_CTRL, 31, 1⟩
def WELQ_QCFG_BASE : Fld := ⟨.WELQ_QCFG, 6, 18⟩
def WELQ_QCFG_LOG2 : Fld := ⟨.WELQ_QCFG, 24, 4⟩
def WELQ_QCFG_EN : Fld := ⟨.WELQ_QCFG, 31, 1⟩
def WELQ_QHEAD_HEAD : Fld := ⟨.WELQ_QHEAD, 0, 10⟩
def WELQ_QTAIL_TAIL : Fld := ⟨.WELQ_QTAIL, 0, 10⟩
def WELQ_QSTAT_FULL : Fld := ⟨.WELQ_QSTAT, 0, 1⟩
def WELQ_QSTAT_WAIT_SEAM : Fld := ⟨.WELQ_QSTAT, 1, 1⟩
def WELQ_QSTAT_WAIT_DST : Fld := ⟨.WELQ_QSTAT, 2, 1⟩
def PZL_CTRL_IDLE : Fld := ⟨.PZL_CTRL, 0, 1⟩
def PZL_CTRL_RETRAIN : Fld := ⟨.PZL_CTRL, 1, 1⟩
def PZL_CFG_MAX_GEN : Fld := ⟨.PZL_CFG, 0, 2⟩
def PZL_CFG_LANE_ERR_MAX : Fld := ⟨.PZL_CFG, 8, 8⟩
def PZL_CFG_RETRY_MAX : Fld := ⟨.PZL_CFG, 16, 4⟩
def PZL_CFG_ACK_TO : Fld := ⟨.PZL_CFG, 24, 8⟩
def PZL_STATUS_STATE : Fld := ⟨.PZL_STATUS, 0, 3⟩
def PZL_STATUS_SEQ_RESET : Fld := ⟨.PZL_STATUS, 3, 1⟩
def PZL_STATUS_GEN : Fld := ⟨.PZL_STATUS, 4, 2⟩
def PZL_STATUS_LANES : Fld := ⟨.PZL_STATUS, 6, 2⟩
def PZL_LANE_IN0 : Fld := ⟨.PZL_LANE, 0, 2⟩
def PZL_LANE_IN1 : Fld := ⟨.PZL_LANE, 2, 2⟩
def PZL_LANE_SPARE : Fld := ⟨.PZL_LANE, 4, 2⟩
def PZL_LANE_BAD : Fld := ⟨.PZL_LANE, 8, 3⟩
def PZL_LERR_COUNT : Fld := ⟨.PZL_LERR, 0, 16⟩
def PZL_RETRY_ROUNDS : Fld := ⟨.PZL_RETRY, 0, 16⟩
def PZL_RETRY_RETRAINS : Fld := ⟨.PZL_RETRY, 16, 16⟩
def PZL_DROP_MALFORMED : Fld := ⟨.PZL_DROP, 0, 16⟩
def PZL_DROP_MISROUTE : Fld := ⟨.PZL_DROP, 16, 16⟩
def PZL_CREDIT_UNITS : Fld := ⟨.PZL_CREDIT, 0, 9⟩
def PZL_NAKS_TRANS : Fld := ⟨.PZL_NAKS, 0, 16⟩
def PZL_NAKS_LINK : Fld := ⟨.PZL_NAKS, 16, 16⟩
def PZL_PUSH_CFG_DEST : Fld := ⟨.PZL_PUSH_CFG, 0, 8⟩
def PZL_PUSH_CFG_PORT : Fld := ⟨.PZL_PUSH_CFG, 24, 2⟩
def PZL_PUSH_CFG_EN : Fld := ⟨.PZL_PUSH_CFG, 31, 1⟩
def PZL_PUSH_STATUS_COUNT : Fld := ⟨.PZL_PUSH_STATUS, 0, 15⟩
def PZL_PUSH_STATUS_DROP : Fld := ⟨.PZL_PUSH_STATUS, 15, 1⟩
def PZL_PUSH_STATUS_QUEUED : Fld := ⟨.PZL_PUSH_STATUS, 16, 5⟩
def MANGLE_STATUS_BLOCKED : Fld := ⟨.MANGLE_STATUS, 0, 1⟩
def MGL_CTRL_MODE : Fld := ⟨.MGL_CTRL, 0, 2⟩
def MGL_CTRL_TRIG : Fld := ⟨.MGL_CTRL, 4, 1⟩
def MGL_CTRL_CH : Fld := ⟨.MGL_CTRL, 8, 7⟩
def MGL_CTRL_TYPEMASK : Fld := ⟨.MGL_CTRL, 16, 12⟩
def MGL_CTRL_EN : Fld := ⟨.MGL_CTRL, 31, 1⟩
def MGL_PROB_PROB : Fld := ⟨.MGL_PROB, 0, 16⟩
def MGL_PROB_SEED : Fld := ⟨.MGL_PROB, 16, 16⟩
def MGL_CORR_OFS : Fld := ⟨.MGL_CORR, 0, 8⟩
def MGL_CORR_TARGET : Fld := ⟨.MGL_CORR, 8, 1⟩
def MGL_XOR_XOR : Fld := ⟨.MGL_XOR, 0, 32⟩
def MGL_DELAY_NS : Fld := ⟨.MGL_DELAY, 0, 16⟩
def MGL_COUNT_COUNT : Fld := ⟨.MGL_COUNT, 0, 32⟩
def BEACON_CTRL_SET : Fld := ⟨.BEACON_CTRL, 0, 1⟩
def BEACON_CTRL_INVALIDATE : Fld := ⟨.BEACON_CTRL, 1, 1⟩
def BEACON_CFG_ROLE : Fld := ⟨.BEACON_CFG, 0, 1⟩
def BEACON_CFG_TXMASK : Fld := ⟨.BEACON_CFG, 4, 4⟩
def BEACON_CFG_RXPORT : Fld := ⟨.BEACON_CFG, 12, 2⟩
def BEACON_CFG_AUTO : Fld := ⟨.BEACON_CFG, 14, 1⟩
def BEACON_CFG_DLOG2 : Fld := ⟨.BEACON_CFG, 16, 4⟩
def BEACON_CFG_RGAIN : Fld := ⟨.BEACON_CFG, 20, 2⟩
def BEACON_PERIOD_NS : Fld := ⟨.BEACON_PERIOD, 0, 24⟩
def BEACON_LAG_NS : Fld := ⟨.BEACON_LAG, 0, 24⟩
def BEACON_STEP_NS : Fld := ⟨.BEACON_STEP, 0, 24⟩
def BEACON_STATUS_VALID : Fld := ⟨.BEACON_STATUS, 0, 1⟩
def BEACON_STATUS_STEPPED : Fld := ⟨.BEACON_STATUS, 1, 1⟩
def BEACON_STATUS_SEAM_LATE : Fld := ⟨.BEACON_STATUS, 2, 1⟩
def BEACON_STATUS_STALE : Fld := ⟨.BEACON_STATUS, 3, 1⟩
def BEACON_STATUS_NO_DELAY : Fld := ⟨.BEACON_STATUS, 4, 1⟩
def BEACON_STATUS_HOPS : Fld := ⟨.BEACON_STATUS, 12, 4⟩
def BEACON_STATUS_MASTER : Fld := ⟨.BEACON_STATUS, 16, 5⟩
def BEACON_TIME_LO_TIME_LO : Fld := ⟨.BEACON_TIME_LO, 0, 32⟩
def BEACON_TIME_HI_TIME_HI : Fld := ⟨.BEACON_TIME_HI, 0, 32⟩
def BEACON_BNUM_LO_BNUM_LO : Fld := ⟨.BEACON_BNUM_LO, 0, 32⟩
def BEACON_BNUM_HI_BNUM_HI : Fld := ⟨.BEACON_BNUM_HI, 0, 32⟩
def BEACON_SET_LO_SET_LO : Fld := ⟨.BEACON_SET_LO, 0, 32⟩
def BEACON_SET_HI_SET_HI : Fld := ⟨.BEACON_SET_HI, 0, 32⟩
def BEACON_RATE_RATE : Fld := ⟨.BEACON_RATE, 0, 32⟩
def BEACON_LAST_ERR_ERR : Fld := ⟨.BEACON_LAST_ERR, 0, 32⟩
def BEACON_DELAY_DELAY : Fld := ⟨.BEACON_DELAY, 0, 32⟩
def BEACON_ASYM_ASYM : Fld := ⟨.BEACON_ASYM, 0, 16⟩
def PAIR_CTRL_EN : Fld := ⟨.PAIR_CTRL, 0, 1⟩
def PAIR_CTRL_HANDOVER : Fld := ⟨.PAIR_CTRL, 1, 1⟩
def PAIR_CTRL_ELECT_EN : Fld := ⟨.PAIR_CTRL, 3, 1⟩
def PAIR_CFG_TOKEN_TO : Fld := ⟨.PAIR_CFG, 0, 8⟩
def PAIR_CFG_BIND_TO : Fld := ⟨.PAIR_CFG, 8, 8⟩
def PAIR_CFG_ANG_TOL : Fld := ⟨.PAIR_CFG, 16, 8⟩
def PAIR_CFG_COMMIT_EP : Fld := ⟨.PAIR_CFG, 24, 8⟩
def PAIR_STATUS_STATE : Fld := ⟨.PAIR_STATUS, 0, 3⟩
def PAIR_STATUS_TOKEN_LIVE : Fld := ⟨.PAIR_STATUS, 4, 1⟩
def PAIR_STATUS_HB_LIVE : Fld := ⟨.PAIR_STATUS, 5, 1⟩
def PAIR_STATUS_MIRROR_DIVERGE : Fld := ⟨.PAIR_STATUS, 8, 1⟩
def PAIR_STATUS_DIV_CAUSE : Fld := ⟨.PAIR_STATUS, 9, 3⟩
def PAIR_STATUS_TOOK_OVER : Fld := ⟨.PAIR_STATUS, 12, 1⟩
def PAIR_STATUS_TAKEOVERS : Fld := ⟨.PAIR_STATUS, 16, 16⟩
def PAIR_DIV_INFO_INDEX : Fld := ⟨.PAIR_DIV_INFO, 0, 8⟩
def PAIR_MIRROR_STAT_COMPARED : Fld := ⟨.PAIR_MIRROR_STAT, 0, 16⟩
def PAIR_MIRROR_STAT_SKIPPED : Fld := ⟨.PAIR_MIRROR_STAT, 16, 16⟩
def PAIR_RING_CFG_N : Fld := ⟨.PAIR_RING_CFG, 0, 5⟩
def PAIR_RING_CFG_GWLINK : Fld := ⟨.PAIR_RING_CFG, 8, 5⟩
def PAIR_RING_CFG_GW_EN : Fld := ⟨.PAIR_RING_CFG, 13, 1⟩
def PAIR_RING_BREAK_BREAK : Fld := ⟨.PAIR_RING_BREAK, 0, 24⟩
def PAIR_RING_STAT_FORWARDED : Fld := ⟨.PAIR_RING_STAT, 0, 16⟩
def PAIR_RING_STAT_DROPPED : Fld := ⟨.PAIR_RING_STAT, 16, 16⟩
def UART_CTRL_RX_EN : Fld := ⟨.UART_CTRL, 0, 1⟩
def UART_CTRL_TX_EN : Fld := ⟨.UART_CTRL, 1, 1⟩
def UART_CTRL_SEND_BREAK : Fld := ⟨.UART_CTRL, 2, 1⟩
def UART_CFG_DBITS : Fld := ⟨.UART_CFG, 0, 2⟩
def UART_CFG_PAR : Fld := ⟨.UART_CFG, 2, 2⟩
def UART_CFG_STOP2 : Fld := ⟨.UART_CFG, 4, 1⟩
def UART_CFG_HDX : Fld := ⟨.UART_CFG, 5, 1⟩
def UART_CFG_OS8 : Fld := ⟨.UART_CFG, 6, 1⟩
def UART_BAUD_FRAC : Fld := ⟨.UART_BAUD, 0, 8⟩
def UART_BAUD_INT : Fld := ⟨.UART_BAUD, 8, 12⟩
def UART_BAUD_SRC : Fld := ⟨.UART_BAUD, 20, 1⟩
def UART_DE_LEAD : Fld := ⟨.UART_DE, 0, 8⟩
def UART_DE_TAIL : Fld := ⟨.UART_DE, 8, 8⟩
def UART_STATUS_OVERRUN : Fld := ⟨.UART_STATUS, 1, 1⟩
def UART_STATUS_PARITY : Fld := ⟨.UART_STATUS, 2, 1⟩
def UART_STATUS_FRAME : Fld := ⟨.UART_STATUS, 3, 1⟩
def UART_STATUS_FAST_SENDER : Fld := ⟨.UART_STATUS, 4, 1⟩
def UART_STATUS_BREAK : Fld := ⟨.UART_STATUS, 5, 1⟩
def UART_STATUS_STUCK_LOW : Fld := ⟨.UART_STATUS, 6, 1⟩
def UART_STATUS_BREAK_END : Fld := ⟨.UART_STATUS, 7, 1⟩
def UART_STATUS_FIRST_LOST : Fld := ⟨.UART_STATUS, 8, 1⟩
def UART_STATUS_TX_LOST : Fld := ⟨.UART_STATUS, 9, 1⟩
def UART_STATUS_TX_ABORT : Fld := ⟨.UART_STATUS, 10, 1⟩
def UART_STATUS_RX_IDLE : Fld := ⟨.UART_STATUS, 11, 1⟩
def UART_STATUS_RX_BUSY : Fld := ⟨.UART_STATUS, 12, 1⟩
def UART_STATUS_TX_BUSY : Fld := ⟨.UART_STATUS, 13, 1⟩
def UART_STATUS_OVR_COUNT : Fld := ⟨.UART_STATUS, 16, 16⟩
def UART_RXDATA_DATA : Fld := ⟨.UART_RXDATA, 0, 9⟩
def UART_RXDATA_PE : Fld := ⟨.UART_RXDATA, 9, 1⟩
def UART_RXDATA_FE : Fld := ⟨.UART_RXDATA, 10, 1⟩
def UART_RXDATA_BRK : Fld := ⟨.UART_RXDATA, 11, 1⟩
def UART_RXDATA_NEW : Fld := ⟨.UART_RXDATA, 31, 1⟩
def UART_RX_TO_HALVES : Fld := ⟨.UART_RX_TO, 0, 12⟩
def UART_RXR_BASE_BASE : Fld := ⟨.UART_RXR_BASE, 2, 20⟩
def UART_RXR_CFG_B : Fld := ⟨.UART_RXR_CFG, 0, 4⟩
def UART_RXR_CFG_NBLK : Fld := ⟨.UART_RXR_CFG, 8, 8⟩
def UART_RXR_CFG_WIDE : Fld := ⟨.UART_RXR_CFG, 16, 1⟩
def UART_RXR_CFG_EN : Fld := ⟨.UART_RXR_CFG, 31, 1⟩
def UART_TXDATA_DATA : Fld := ⟨.UART_TXDATA, 0, 9⟩
def UART_RXR_WR_INDEX : Fld := ⟨.UART_RXR_WR, 0, 8⟩
def UART_RXR_RD_INDEX : Fld := ⟨.UART_RXR_RD, 0, 8⟩
def UART_TX_CTRL_LEN : Fld := ⟨.UART_TX_CTRL, 0, 16⟩
def UART_TX_CTRL_WIDE : Fld := ⟨.UART_TX_CTRL, 29, 1⟩
def UART_TX_CTRL_TX_DONE : Fld := ⟨.UART_TX_CTRL, 30, 1⟩
def UART_TX_CTRL_START : Fld := ⟨.UART_TX_CTRL, 31, 1⟩
def UART_TX_ADDR_ADDR : Fld := ⟨.UART_TX_ADDR, 0, 22⟩
def XSPI_CTRL_FLASH_RST : Fld := ⟨.XSPI_CTRL, 0, 1⟩
def XSPI_CFG_MODE : Fld := ⟨.XSPI_CFG, 0, 3⟩
def XSPI_CFG_ADDR4 : Fld := ⟨.XSPI_CFG, 3, 1⟩
def XSPI_CFG_EXT_INV : Fld := ⟨.XSPI_CFG, 4, 1⟩
def XSPI_CFG_DUMMY : Fld := ⟨.XSPI_CFG, 8, 5⟩
def XSPI_CFG_DIV : Fld := ⟨.XSPI_CFG, 16, 8⟩
def XSPI_CMD_OPCODE : Fld := ⟨.XSPI_CMD, 0, 8⟩
def XSPI_CMD_ADDR_EN : Fld := ⟨.XSPI_CMD, 10, 1⟩
def XSPI_CMD_WRITE : Fld := ⟨.XSPI_CMD, 11, 1⟩
def XSPI_CMD_DATA_REG : Fld := ⟨.XSPI_CMD, 12, 1⟩
def XSPI_CMD_CS : Fld := ⟨.XSPI_CMD, 13, 1⟩
def XSPI_CMD_POLL : Fld := ⟨.XSPI_CMD, 30, 1⟩
def XSPI_CMD_START : Fld := ⟨.XSPI_CMD, 31, 1⟩
def XSPI_ADDR_ADDR : Fld := ⟨.XSPI_ADDR, 0, 32⟩
def XSPI_LEN_LEN : Fld := ⟨.XSPI_LEN, 0, 24⟩
def XSPI_BUF_LO_ADDR : Fld := ⟨.XSPI_BUF_LO, 0, 32⟩
def XSPI_BUF_HI_ADDR : Fld := ⟨.XSPI_BUF_HI, 0, 16⟩
def XSPI_DATA_DATA : Fld := ⟨.XSPI_DATA, 0, 32⟩
def XSPI_POLL_MASK : Fld := ⟨.XSPI_POLL, 0, 8⟩
def XSPI_POLL_MATCH : Fld := ⟨.XSPI_POLL, 8, 8⟩
def XSPI_POLL_INTERVAL : Fld := ⟨.XSPI_POLL, 24, 8⟩
def XSPI_POLL_TO_MS : Fld := ⟨.XSPI_POLL_TO, 0, 16⟩
def XSPI_STATUS_DONE : Fld := ⟨.XSPI_STATUS, 0, 1⟩
def XSPI_STATUS_TIMEOUT : Fld := ⟨.XSPI_STATUS, 1, 1⟩
def XSPI_STATUS_BUS_ERR : Fld := ⟨.XSPI_STATUS, 2, 1⟩
def XSPI_STATUS_ABANDONED : Fld := ⟨.XSPI_STATUS, 3, 1⟩
def XSPI_STATUS_BUSY : Fld := ⟨.XSPI_STATUS, 4, 1⟩
def XSPI_STATUS_LAST_POLL : Fld := ⟨.XSPI_STATUS, 8, 8⟩
def XSPI_STATUS_POLLS : Fld := ⟨.XSPI_STATUS, 16, 16⟩
def IDB_CFG_SPEED : Fld := ⟨.IDB_CFG, 0, 2⟩
def IDB_CFG_STRETCH_MS : Fld := ⟨.IDB_CFG, 8, 8⟩
def IDB_CMD_ADDR : Fld := ⟨.IDB_CMD, 0, 7⟩
def IDB_CMD_WLEN : Fld := ⟨.IDB_CMD, 7, 9⟩
def IDB_CMD_RLEN : Fld := ⟨.IDB_CMD, 16, 9⟩
def IDB_CMD_RECOVER : Fld := ⟨.IDB_CMD, 30, 1⟩
def IDB_CMD_START : Fld := ⟨.IDB_CMD, 31, 1⟩
def IDB_STATUS_DONE : Fld := ⟨.IDB_STATUS, 0, 1⟩
def IDB_STATUS_NACK_ADDR : Fld := ⟨.IDB_STATUS, 1, 1⟩
def IDB_STATUS_NACK_DATA : Fld := ⟨.IDB_STATUS, 2, 1⟩
def IDB_STATUS_ARB_LOST : Fld := ⟨.IDB_STATUS, 3, 1⟩
def IDB_STATUS_TIMEOUT : Fld := ⟨.IDB_STATUS, 4, 1⟩
def IDB_STATUS_STUCK : Fld := ⟨.IDB_STATUS, 5, 1⟩
def IDB_STATUS_ABANDONED : Fld := ⟨.IDB_STATUS, 6, 1⟩
def IDB_STATUS_BUSY : Fld := ⟨.IDB_STATUS, 7, 1⟩
def IDB_STATUS_SCL : Fld := ⟨.IDB_STATUS, 8, 1⟩
def IDB_STATUS_SDA : Fld := ⟨.IDB_STATUS, 9, 1⟩
def IDB_STATUS_INDEX : Fld := ⟨.IDB_STATUS, 16, 9⟩
def IDB_BUF_BYTES : Fld := ⟨.IDB_BUF, 0, 32⟩
def PMB_CFG_SPEED : Fld := ⟨.PMB_CFG, 0, 2⟩
def PMB_CFG_PEC : Fld := ⟨.PMB_CFG, 2, 1⟩
def PMB_CFG_AVS_CLK : Fld := ⟨.PMB_CFG, 4, 2⟩
def PMB_CMD_CODE : Fld := ⟨.PMB_CMD, 8, 8⟩
def PMB_CMD_ADDR : Fld := ⟨.PMB_CMD, 16, 7⟩
def PMB_CMD_LEN : Fld := ⟨.PMB_CMD, 28, 2⟩
def PMB_CMD_READ : Fld := ⟨.PMB_CMD, 30, 1⟩
def PMB_CMD_START : Fld := ⟨.PMB_CMD, 31, 1⟩
def PMB_DATA_DATA : Fld := ⟨.PMB_DATA, 0, 16⟩
def PMB_STATUS_DONE : Fld := ⟨.PMB_STATUS, 0, 1⟩
def PMB_STATUS_NACK : Fld := ⟨.PMB_STATUS, 1, 1⟩
def PMB_STATUS_PEC_ERR : Fld := ⟨.PMB_STATUS, 2, 1⟩
def PMB_AVS_SET_MV : Fld := ⟨.PMB_AVS, 0, 16⟩
def PMB_AVS_READ_MV : Fld := ⟨.PMB_AVS, 16, 16⟩
def GPIO_CTRL_RELEASE : Fld := ⟨.GPIO_CTRL, 0, 1⟩
def GPIO_CTRL_HELD : Fld := ⟨.GPIO_CTRL, 1, 1⟩
def GPIO_OUT_OUT : Fld := ⟨.GPIO_OUT, 0, 32⟩
def GPIO_OE_OE : Fld := ⟨.GPIO_OE, 0, 32⟩
def GPIO_IN_IN : Fld := ⟨.GPIO_IN, 0, 32⟩
def GPIO_SAFE_SAFE : Fld := ⟨.GPIO_SAFE, 0, 32⟩
def GPIO_SAFE_OE_SAFE_OE : Fld := ⟨.GPIO_SAFE_OE, 0, 32⟩
def GPIO_SET_SET : Fld := ⟨.GPIO_SET, 0, 32⟩
def GPIO_CLR_CLR : Fld := ⟨.GPIO_CLR, 0, 32⟩
def GPIO_PAD_PULL : Fld := ⟨.GPIO_PAD, 0, 2⟩
def GPIO_PAD_DRIVE : Fld := ⟨.GPIO_PAD, 2, 2⟩
def GPIO_PAD_SLOW : Fld := ⟨.GPIO_PAD, 4, 1⟩
def TIM_CTRL_RUN : Fld := ⟨.TIM_CTRL, 0, 1⟩
def TIM_CTRL_ONESHOT : Fld := ⟨.TIM_CTRL, 1, 1⟩
def TIM_CTRL_CLK : Fld := ⟨.TIM_CTRL, 4, 2⟩
def TIM_TOP_TOP : Fld := ⟨.TIM_TOP, 0, 32⟩
def TIM_CMP_CMP : Fld := ⟨.TIM_CMP, 0, 32⟩
def TIM_COUNT_COUNT : Fld := ⟨.TIM_COUNT, 0, 32⟩
def TIM_CAPT_CAPT : Fld := ⟨.TIM_CAPT, 0, 32⟩
def WD_CTRL_EN : Fld := ⟨.WD_CTRL, 0, 1⟩
def WD_CTRL_ACTION : Fld := ⟨.WD_CTRL, 1, 2⟩
def WD_CTRL_LOCK : Fld := ⟨.WD_CTRL, 3, 1⟩
def WD_TIMEOUT_MS : Fld := ⟨.WD_TIMEOUT, 0, 16⟩
def WD_WINDOW_MS : Fld := ⟨.WD_WINDOW, 0, 16⟩
def WD_KICK_KEY : Fld := ⟨.WD_KICK, 0, 16⟩
def WD_STATUS_EXPIRED : Fld := ⟨.WD_STATUS, 0, 1⟩
def WD_STATUS_BAD_KICK : Fld := ⟨.WD_STATUS, 1, 1⟩
def WD_STATUS_REMAIN : Fld := ⟨.WD_STATUS, 16, 16⟩
def CRY_CMD_CMD : Fld := ⟨.CRY_CMD, 0, 3⟩
def CRY_STATUS_DONE : Fld := ⟨.CRY_STATUS, 0, 1⟩
def CRY_STATUS_OK : Fld := ⟨.CRY_STATUS, 1, 1⟩
def CRY_STATUS_ERR : Fld := ⟨.CRY_STATUS, 2, 3⟩
def CRY_STATUS_NMEAS : Fld := ⟨.CRY_STATUS, 8, 6⟩
def CRY_SRC_LO_ADDR : Fld := ⟨.CRY_SRC_LO, 0, 32⟩
def CRY_SRC_HI_ADDR : Fld := ⟨.CRY_SRC_HI, 0, 16⟩
def CRY_DST_LO_ADDR : Fld := ⟨.CRY_DST_LO, 0, 32⟩
def CRY_DST_HI_ADDR : Fld := ⟨.CRY_DST_HI, 0, 16⟩
def CRY_LEN_LEN : Fld := ⟨.CRY_LEN, 0, 28⟩
def CRY_MTYPE_TYPE : Fld := ⟨.CRY_MTYPE, 0, 16⟩
def CRY_MTYPE_INDEX : Fld := ⟨.CRY_MTYPE, 16, 16⟩
def CRY_DIGEST_DIGEST : Fld := ⟨.CRY_DIGEST, 0, 32⟩
def FUSE_LIFE_STATE : Fld := ⟨.FUSE_LIFE, 0, 2⟩
def FUSE_KEYSTAT_PROGRAMMED : Fld := ⟨.FUSE_KEYSTAT, 0, 4⟩
def FUSE_KEYSTAT_REVOKED : Fld := ⟨.FUSE_KEYSTAT, 8, 4⟩
def FUSE_ROLLBACK_COUNT : Fld := ⟨.FUSE_ROLLBACK, 0, 7⟩
def FUSE_PROG_SLOT : Fld := ⟨.FUSE_PROG, 0, 2⟩
def FUSE_PROG_OP : Fld := ⟨.FUSE_PROG, 4, 4⟩
def FUSE_STATUS_DONE : Fld := ⟨.FUSE_STATUS, 0, 1⟩
def FUSE_STATUS_REFUSED : Fld := ⟨.FUSE_STATUS, 1, 1⟩
def FUSE_STATUS_REASON : Fld := ⟨.FUSE_STATUS, 2, 3⟩
def FUSE_PDATA_DATA : Fld := ⟨.FUSE_PDATA, 0, 32⟩
def FUSE_KEY_HASH : Fld := ⟨.FUSE_KEY, 0, 32⟩
def FUSE_UID_UID : Fld := ⟨.FUSE_UID, 0, 32⟩
def BOOT_CTRL_MEAS_LOCK : Fld := ⟨.BOOT_CTRL, 0, 1⟩
def BOOT_CTRL_MEND : Fld := ⟨.BOOT_CTRL, 4, 1⟩
def BOOT_STATUS_STEP : Fld := ⟨.BOOT_STATUS, 0, 5⟩
def BOOT_STATUS_SLOT : Fld := ⟨.BOOT_STATUS, 5, 1⟩
def BOOT_STATUS_FELL_BACK : Fld := ⟨.BOOT_STATUS, 6, 1⟩
def BOOT_STATUS_UNSIGNED : Fld := ⟨.BOOT_STATUS, 7, 1⟩
def BOOT_STATUS_DEGRADED : Fld := ⟨.BOOT_STATUS, 8, 1⟩
def BOOT_MBOX_STEP : Fld := ⟨.BOOT_MBOX, 0, 5⟩
def BOOT_MBOX_EVENT : Fld := ⟨.BOOT_MBOX, 5, 3⟩
def BOOT_MBOX_DETAIL : Fld := ⟨.BOOT_MBOX, 8, 8⟩
def BOOT_MBOX_PEND : Fld := ⟨.BOOT_MBOX, 31, 1⟩
def BOOT_ROMVER_VER : Fld := ⟨.BOOT_ROMVER, 0, 32⟩
def DARN_CTRL_CONFIRM : Fld := ⟨.DARN_CTRL, 0, 1⟩
def DARN_CTRL_DECLINE : Fld := ⟨.DARN_CTRL, 1, 1⟩
def DARN_CTRL_FSEL : Fld := ⟨.DARN_CTRL, 4, 2⟩
def DARN_CTRL_AUTO_ROW : Fld := ⟨.DARN_CTRL, 8, 1⟩
def DARN_CFG_ROW_CE_MAX : Fld := ⟨.DARN_CFG, 0, 4⟩
def DARN_CFG_AGE_LOG2 : Fld := ⟨.DARN_CFG, 8, 5⟩
def DARN_CFG_LMEM_CE_MAX : Fld := ⟨.DARN_CFG, 16, 8⟩
def DARN_STATUS_PROP : Fld := ⟨.DARN_STATUS, 0, 1⟩
def DARN_STATUS_PROP_OVF : Fld := ⟨.DARN_STATUS, 1, 1⟩
def DARN_STATUS_LOG_OVF : Fld := ⟨.DARN_STATUS, 2, 1⟩
def DARN_STATUS_REFUSE : Fld := ⟨.DARN_STATUS, 4, 2⟩
def DARN_STATUS_DEFER : Fld := ⟨.DARN_STATUS, 8, 8⟩
def DARN_PROP_KIND : Fld := ⟨.DARN_PROP, 0, 8⟩
def DARN_PROP_VALID : Fld := ⟨.DARN_PROP, 31, 1⟩
def DARN_PROP_TGT_TARGET : Fld := ⟨.DARN_PROP_TGT, 0, 32⟩
def DARN_LOG_WORD : Fld := ⟨.DARN_LOG, 0, 32⟩
def DARN_LOG_CTRL_COUNT : Fld := ⟨.DARN_LOG_CTRL, 0, 6⟩
def DARN_LOG_CTRL_POP : Fld := ⟨.DARN_LOG_CTRL, 31, 1⟩
def DARN_IN_WORD : Fld := ⟨.DARN_IN, 0, 32⟩
def DARN_IN_CTRL_RESULT : Fld := ⟨.DARN_IN_CTRL, 0, 2⟩
def DARN_IN_CTRL_APPLY : Fld := ⟨.DARN_IN_CTRL, 31, 1⟩
def DARN_RETIRED_SLICES : Fld := ⟨.DARN_RETIRED, 0, 9⟩
def DARN_RETIRED_ENGINES : Fld := ⟨.DARN_RETIRED, 9, 18⟩
def DARN_LNK_BAD : Fld := ⟨.DARN_LNK, 0, 12⟩
def DARN_SPARES_SLICE : Fld := ⟨.DARN_SPARES, 0, 2⟩
def DARN_SPARES_ENGINE : Fld := ⟨.DARN_SPARES, 4, 2⟩
def DARN_SPARES_SEN : Fld := ⟨.DARN_SPARES, 8, 2⟩
def DARN_SPARES_ACQ : Fld := ⟨.DARN_SPARES, 12, 2⟩
def DARN_SPARES_ANA : Fld := ⟨.DARN_SPARES, 16, 2⟩
def DARN_BANK_IDX_BANK : Fld := ⟨.DARN_BANK_IDX, 0, 9⟩
def DARN_BANK_IDX_DOMAIN : Fld := ⟨.DARN_BANK_IDX, 9, 2⟩
def DARN_BANK_INFO_PHYS : Fld := ⟨.DARN_BANK_INFO, 0, 9⟩
def DARN_BANK_INFO_ROWS : Fld := ⟨.DARN_BANK_INFO, 16, 4⟩
def DARN_BANK_INFO_PROPOSED : Fld := ⟨.DARN_BANK_INFO, 20, 1⟩
def DARN_CELL_PIN : Fld := ⟨.DARN_CELL, 0, 4⟩
def DARN_CELL_EN : Fld := ⟨.DARN_CELL, 4, 1⟩
def TEMP_CTRL_HOT_ACT : Fld := ⟨.TEMP_CTRL, 0, 2⟩
def TEMP_WARN_WARN : Fld := ⟨.TEMP_WARN, 0, 8⟩
def TEMP_HOT_HOT : Fld := ⟨.TEMP_HOT, 0, 8⟩
def TEMP_STATUS_WARN : Fld := ⟨.TEMP_STATUS, 0, 8⟩
def TEMP_STATUS_HOT : Fld := ⟨.TEMP_STATUS, 8, 8⟩
def TEMP_MAX_MAX : Fld := ⟨.TEMP_MAX, 0, 16⟩
def TEMP_V_TEMP : Fld := ⟨.TEMP_V, 0, 16⟩
def TEMP_V_VALID : Fld := ⟨.TEMP_V, 16, 1⟩
def CORE_CTRL_RUN : Fld := ⟨.CORE_CTRL, 0, 1⟩
def CORE_CTRL_RESET : Fld := ⟨.CORE_CTRL, 1, 1⟩
def CORE_STATUS_STATE : Fld := ⟨.CORE_STATUS, 0, 2⟩
def CORE_PC_PC : Fld := ⟨.CORE_PC, 0, 32⟩
def CORE_ECC_CE : Fld := ⟨.CORE_ECC, 0, 16⟩
def CORE_ECC_UE : Fld := ⟨.CORE_ECC, 16, 16⟩
def CORE_IRQ_PEND_LO_PEND : Fld := ⟨.CORE_IRQ_PEND_LO, 0, 32⟩
def CORE_IRQ_PEND_HI_PEND : Fld := ⟨.CORE_IRQ_PEND_HI, 0, 32⟩
def CORE_IRQ_EN_LO_EN : Fld := ⟨.CORE_IRQ_EN_LO, 0, 32⟩
def CORE_IRQ_EN_HI_EN : Fld := ⟨.CORE_IRQ_EN_HI, 0, 32⟩
def CORE_IRQ_ID_INPUT : Fld := ⟨.CORE_IRQ_ID, 0, 6⟩
def CORE_IRQ_ID_NONE : Fld := ⟨.CORE_IRQ_ID, 6, 1⟩
def WIN_BASE : Fld := ⟨.WIN, 0, 20⟩
def WIN_EN : Fld := ⟨.WIN, 31, 1⟩
def RST_CAUSE_CAUSE : Fld := ⟨.RST_CAUSE, 0, 4⟩
def RESTART_KEY : Fld := ⟨.RESTART, 0, 16⟩

end F

end Sys2Proof.Machine
end

