-- ==== Sys2Proof/Machine/State.lean ====
section
/-!
DEFINITION. The state of the block: everything the spec gives it, as plain data, the reasons a command can stop, and the
state after reset.
-/

namespace Sys2Proof.Machine

/-- A fault: the block stops. No rule of the spec stops this block on a command, so nothing raises a fault. -/
inductive Fault where
  /-- Raised by nothing; it keeps the type inhabited. Safe: no command answers with it. -/
  | never
deriving DecidableEq, Repr

/-- A refusal: a command to which the model gives no meaning. -/
inductive Refusal where
  /-- The command of this mnemonic has no meaning yet; raised by `exec` alone. Safe: nothing can be proved of a next state. -/
  | notModelled (mnemonic : String)
deriving DecidableEq, Repr

/-- The six power domains. -/
inductive Domain where
  | bk | sen | acq | ana | mem | lnk
deriving DecidableEq, Repr

/-- Power of a switched domain: off, powered with its clocks running, or powered with its clocks stopped (D_ANA in
Afternoon). -/
inductive DomPower where
  | off | on | stopped
deriving DecidableEq, Repr

/-- What the last bus access answered its requester: nothing yet, data, or a bus error with its cause code. The MODEL's
own field: the spec sends the answer to the requester. -/
inductive BusAnswer where
  | none
  | ok (data : Nat)
  | err (cause : Nat)
deriving DecidableEq, Repr

/-- An access that the register fabric holds (R483): it is judged when it is released. `secure` is the attribute that it
carries, `log` the address that a bus error of it logs. -/
structure HeldAccess where
  q : Requester
  secure : Bool
  write : Bool
  size : AccessSize
  addr : Nat
  value : Word
  log : Nat
deriving DecidableEq, Repr

/-- One frozen capture of a freeze group (R237): the register-space address of the group's release register, the
requester it belongs to (7 is the debug port), and the captured words by register-space address. -/
structure FreezeCapture where
  group : Nat
  who : Nat
  words : List (Nat × Word)
deriving DecidableEq, Repr

/-- A logic cell (R290–R292): flip-flop state, output register after it, the unfiltered output of the last cycle, and the
filtered output `o`. -/
structure Cell where
  q : Bool
  outReg : Bool
  raw : Bool
  out : Bool
deriving DecidableEq, Repr

/-- The event router (R282): generators pulsing at the router input in this cycle, channels fired in this cycle (R286),
channels that hold a pulse, channels seen at the task stage, the cells, the cell outputs of the cycle before, the pulses
counted in the guard window of each channel (R294), the GPIO pins that a tap drives high for this cycle, and the cores that
have seen an enabled input high since they began to wait (R264). -/
structure Router where
  inp : List Nat
  fires : List Nat
  chan : List Nat
  task : List Nat
  cells : List Cell
  prevOut : List Bool
  guard : List Nat
  tapHigh : List Nat
  woken : List Nat
deriving DecidableEq, Repr

/-- One entry of a basket slot (R221). -/
structure Entry where
  addr : Word
  mask : Word
  value : Word
deriving DecidableEq, Repr

/-- A basket slot beside its registers: the entries, whether an arm is being validated, the tick at which the arm
completed, the first epoch at which a mirrored slot may press (R394), whether its arm goes with the twin (0 no, 1 it went to
the twin, 2 it came from the twin), and the lowest entry whose domain has gone off since the arm (R231). -/
structure Slot where
  entries : List Entry
  arming : Bool
  armedAt : Nat
  eligible : Nat
  twin : Nat
  lost : Option Nat
deriving DecidableEq, Repr

/-- The basket controller: eight slots, the sentinel clocks left of an open press window (R230), the pages it holds,
the slots that the window presses (`true`) or aborts when it closes, and the swaps (register address, mask, value) of a
domain whose clock is stopped (R234). -/
structure Basket where
  slots : List Slot
  window : Nat
  heldPages : List Nat
  closing : List (Nat × Bool)
  later : List (Nat × Word × Word)
deriving DecidableEq, Repr

/-- The I/O ring, which the VDDIO rails power (R464, R465, R473, R481, R482): the banks whose level was found to be 3.3 V at
power-up (bit n for IOBn); whether D_ACQ has not been powered on since PORST_N was low; the safe state that the ring holds at
the GPIO balls, level and drive; the level that the board gives each GPIO ball; and the boundary scan of the JTAG port: its
instruction register and its boundary register, a cell for every ball of IOB0–IOB5. -/
structure Ring where
  vio : Nat
  por : Bool
  safe : List Word
  safeOe : List Word
  ext : List Word
  ir : Nat
  cells : List Bool
deriving DecidableEq, Repr

/-- The power-mode controller: which domains are powered; the step in progress (from, to) with the PWR_CFG and RETN masks
that it latched (R305); the latched but not yet delivered wake (mode, TO, tick at the latch), and whether a wake has been
delivered since the last step into Night began (R416); the power-fail pin, whether PFW waits for its slot, the thermal path (R319); S's clock stopped in Night (R301); the seals of kept banks (R314); ANA_EN, ANA_PG, STK_EN and STK_PG
(R468, R469); and the I/O ring. -/
structure Power where
  senOn : Bool
  acq : DomPower
  ana : DomPower
  mem : DomPower
  lnk : DomPower
  step : Option (Nat × Nat)
  sNight : Bool
  nightSr : Bool
  keep : List Nat
  sealMask : List Nat
  seals : List (Nat × Nat)
  wake : Option (Nat × Nat × Nat)
  replay : Bool
  woken : Bool
  pfwPin : Bool
  pfwWait : Bool
  thermal : Bool
  sStopped : Bool
  anaEn : Bool
  anaPg : Bool
  anaPoint : Nat
  opFail : Bool
  stkEn : Bool
  stkPg : Bool
  ring : Ring
deriving DecidableEq, Repr

/-- A tach input beside its registers: the level at the pin, the first tick of a new level whose filter is counting, the
tick of the last accepted edge, and the stamp as it stood at the most recent epoch edge (R63). -/
structure Tach where
  pin : Bool
  since : Option Nat
  last : Option Nat
  shown : Nat
deriving DecidableEq, Repr

/-- The inside of an angle engine (R39–R52). Angles are extended angles in 2^-48 revolution, speeds in 2^-64 revolution per
tick, so that both carry the 16 further fraction bits of R35. `table` is the sparse tooth table (half × 1024 + entry). -/
structure Engine where
  theta : Int
  tTheta : Int
  speed : Int
  tPrev : Int
  k : Nat
  base : Int
  devPrev : Int
  lastEdge : Int
  angle : Int
  seamRev : Int
  start : Int
  jumped : Bool
  acqLast : Option Int
  prevInt : Option Int
  tests : Nat
  acqCount : Nat
  acqRef : Bool
  acqK : Nat
  acqRev : Int
  refPending : Bool
  noRef : Bool
  relock : Nat
  reacq : Bool
  swapTick : Nat
  learnRevs : Nat
  learnTimes : List (Nat × Int)
  learnSums : List (Nat × Int)
  learnSwap : Bool
  table : List (Nat × Nat)
deriving DecidableEq, Repr

/-- The epoch whose conversions are under way (R97–R101): its number and the tick of its edge, what the converter sees in it, the
qualifiers of the engines and the positions not VALID at its edge, the positions that entered or left VALID since the edge before,
whether channels are converted, the tick of the epoch at which the cells have gone to track (R70), the CONV and REF entries of
a scan of it that are still to be written (entry, source, selection, slot; R119), and the bits that a press on its edge wrote to
registers that had been written late (R236). -/
structure OpenEpoch where
  num : Nat
  tick : Nat
  conv : Conversions
  quals : List Nat
  lost : Nat
  moved : Nat
  on : Bool
  cut : Option Nat
  scan : Option (List (Nat × Nat × Nat × Nat))
  skip : List (Nat × Word)
deriving DecidableEq, Repr

/-- The epoch timer and the edges waiting for it: whether an epoch is in progress, the numbers and ticks of the last edges
(newest first) with the DIV of the epochs that they begin, the tick of the next edge, the accepted tach edges not yet counted (input, tick), the tick of the last
soft-seam request, the number of the first edge still to fall, the tick since
which a gated AIN page holds the timer (R324), the tick of the first edge of the run, the gates of the AIN page within the epoch
in progress, the numbers of the last seams of SG41–SG45 since D_ACQ powered on (R56), the index that the grid point of a waiting timer must exceed (R487), the epoch whose
conversions are under way, and the alignment's outstanding slips, step
ticks, accumulated rate and last update. -/
structure Epoch where
  running : Bool
  edges : List (Nat × Nat)
  divs : List Nat
  next : Option Nat
  tachEdges : List (Nat × Nat)
  softReq : Option Nat
  slips : Int
  step : Int
  acc : Int
  lastUpd : Option Nat
  len : Nat
  stepped : Bool
  tickSeam : Option (Nat × Nat)
  firstNum : Option Nat
  heldAt : Option Nat
  first : Nat
  gates : List (Nat × Nat)
  seamCounts : List Nat
  above : Int
  work : Option OpenEpoch
deriving DecidableEq, Repr

/-- A module position beside its registers: the level at its presence pin, whether the new level is being counted, and the
record of a commit check in progress. -/
structure Module where
  pin : Bool
  counting : Bool
  commit : Option (List Byte)
deriving DecidableEq, Repr

/-- What the beacon logic keeps of a port (R375, R376): HOPS of its last SYNC, the SYNC packets since it reached UP, the T1
of a delay measurement that waits for its DRESP, and whether the port has a measurement since it reached UP. -/
structure BeaconPort where
  hops : Option Nat
  syncs : Nat
  dreq : Option Nat
  known : Bool
deriving DecidableEq, Repr

/-- The time-beacon logic beside its registers: system time in 1/16 ns at a tick of PLL_ADC, an error being removed by rate
(amount in 1/16 ns, length in ticks from that tick), whether the count stands because its page has no clock or is off, the ports, the arrival time of the last applied SYNC in 1/16 ns,
whether the last one stepped, the number of the next SYNC of a master, and the beacons whose seams have not fallen
(generator, number, tick of the application). -/
structure Beacon where
  base16 : Int
  baseTick : Nat
  slew : Int
  slewLen : Nat
  still : Bool
  ports : List BeaconPort
  lastSync : Option Int
  stepped : Bool
  next : Nat
  seams : List (Nat × Nat × Nat)
deriving DecidableEq, Repr

/-- A packet as its header and payload name it (R359). -/
structure Packet where
  typ : Nat
  resp : Bool
  last : Bool
  tag : Nat
  src : Nat
  dst : Nat
  seq : Nat
  hops : Nat
  len : Nat
  sub : Nat
  addr : Nat
  aux : Nat
  payload : List Byte
deriving DecidableEq, Repr

/-- A link port beside its registers (R355–R365): packets that wait to be sent (with the arrival stamp of a forwarded
SYNC, in 1/16 ns), the retry buffer, how many of its packets have been sent in this round and how many hold credit, the
next number to send, the number expected, the packets held ahead of a gap, the delivered requests and messages that wait
for service, how many accesses the first of them has made with the data it has read, the unsequenced packets that wait (with arrival stamp), the last cumulative credit seen, the cumulative
credit returned, the retry rounds without progress, CRC errors by lane in this window, and whether the port has started
afresh since it was last UP. -/
structure Port where
  out : List (Packet × Option Nat)
  retry : List Packet
  cursor : Nat
  paid : Nat
  txNext : Nat
  rxNext : Nat
  ahead : List Packet
  inbox : List Packet
  run : Option (Nat × List Byte)
  side : List (Packet × Nat)
  creditSeen : Nat
  returned : Nat
  rounds : Nat
  laneErr : List Nat
  fresh : Bool
deriving DecidableEq, Repr

/-- A mangle unit beside its registers (R380): whether a pulse has armed it, a packet held by REORDER, and the packets held
by DELAY (lane, bytes). -/
structure Mangle where
  armed : Bool
  reorder : Option (Nat × List Byte)
  delayed : List (Nat × List Byte)
deriving DecidableEq, Repr

/-- A checkpoint record as it is compared (R395): engine, seam number, STATE and angle. -/
structure Checkpoint where
  eng : Nat
  seam : Nat
  st : Nat
  angle : Nat
deriving DecidableEq, Repr

/-- The pair logic beside its registers (R387–R397): the state that the twin's HELLO last reported since P1 came up,
whether BINDING was entered from SECONDARY, whether BIND_TO has passed, whether the heartbeat is lost, whether a HANDOVER
has been sent, the pulses driven on PTOKEN, own and received checkpoints, own and received frame digests (generator, frame, value, LATE), and own and
received outcomes (slot, result, seam). -/
structure Pair where
  twin : Option Nat
  fromSec : Bool
  bindOver : Bool
  hbLost : Bool
  handing : Bool
  tokens : Nat
  own : List Checkpoint
  theirs : List Checkpoint
  ownDig : List (Nat × Nat × Nat × Bool)
  theirDig : List (Nat × Nat × Nat × Bool)
  ownOut : List (Nat × Nat × Nat)
  theirOut : List (Nat × Nat × Nat)
deriving DecidableEq, Repr

/-- The link ports, mangle units and pair logic, and the packets that the last sending step put on the lanes (port, lane,
bytes). -/
structure Links where
  ports : List Port
  mangles : List Mangle
  pair : Pair
  sent : List (Nat × Nat × List Byte)
deriving DecidableEq, Repr

/-- One identity-bus controller beside its registers: what it runs (0 nothing, 1 a transaction, 2 a recovery), the bytes that its
transaction writes and reads, and the bytes that it sends on the bus (R91). -/
structure IdBus where
  run : Nat
  wlen : Nat
  rlen : Nat
  sent : List Byte
deriving DecidableEq, Repr

/-- One darn-table entry (R457): kind, FLAGS, TARGET, REPL and TICK. -/
structure DarnEntry where
  kind : Nat
  flags : Nat
  target : Nat
  repl : Nat
  tick : Nat
deriving DecidableEq, Repr

/-- A row that the SRAM tracker of domain `dom` counts (R451): physical bank, row, corrected errors; the oldest last error
stands first in the list. -/
structure TrackRow where
  dom : Nat
  phys : Nat
  row : Nat
  count : Nat
deriving DecidableEq, Repr

/-- The darn controller beside its registers (R449–R460): the log, the queued and the confirmed proposals (kind, target),
the row trackers, the remap state of rows (domain, physical bank, row, spare row) and banks (domain, logical, physical), the
spare banks that a later darn of their logical bank has retired (domain, logical, physical),
the logical banks for which a BANK proposal was raised, the engine darns (target, replacement), the bank copy in progress,
the HBM rows queued for repair and the HBM lanes recorded, and the banks that were LOST or BAD at the last wake. -/
structure Darn where
  log : List DarnEntry
  props : List (Nat × Nat)
  confirmed : List (Nat × Nat)
  tracker : List TrackRow
  rows : List (Nat × Nat × Nat × Nat)
  banks : List (Nat × Nat × Nat)
  spent : List (Nat × Nat × Nat)
  proposed : List (Nat × Nat)
  engines : List (Nat × Nat)
  copy : Option (Nat × Nat × Nat)
  hbmRows : List Nat
  hbmLanes : List Nat
  lostLast : List Nat
deriving DecidableEq, Repr

/-- A converter slice beside its registers: failing runs in a row, whether a calibration run is in progress, the drift
accumulators (count and sum of the zero, +0.75 and −0.75 levels), and the passing result of the initial calibration. -/
structure Slice where
  fails : Nat
  running : Bool
  acc : List (Nat × Int)
  passed : Option CalFit
deriving DecidableEq, Repr

/-- A rotation decision (R108): its candidate edge and generator, whether ROT_NOW made it, the position (8: round robin)
and the READY slice of a rotation, and whether ROT_EN was 1 and no slice READY. -/
structure RotDecision where
  edge : Nat
  gen : Nat
  byNow : Bool
  rot : Option (Nat × Nat)
  noReady : Bool
deriving DecidableEq, Repr

/-- The converter beside its registers: the slices, whether initial calibration is in progress or has ended and waits for
the next edge (R112), the rotation decision, the trigger of a pending scan with its tick (R116), the entries of a scan that a
failure of the clocks left unwritten (R117), and for each logical position the turn of its next filler conversion (R100). -/
structure Adc where
  slices : List Slice
  init : Bool
  initWait : Bool
  decision : Option RotDecision
  scan : Option Nat
  missed : Option (List Nat)
  turns : List Nat
deriving DecidableEq, Repr

/-- An item on its way to a line (R145): the line, the writer (bit 6: a lane), RATE and member channels for the block
header, its reference epoch and angle (R146), whether its first bytes have been placed, and its bytes. -/
structure LineItem where
  line : Nat
  writer : Nat
  rate : Nat
  chans : List Nat
  epoch : Nat
  angle : Nat
  begun : Bool
  bytes : List Byte
deriving DecidableEq, Repr

/-- The settings of a stream while a press holds them: STR_CTRL without HDR_NOW, STR_CFG and the members. -/
structure StrSet where
  ctrl : Nat
  cfg : Nat
  chans : List Nat
deriving DecidableEq, Repr

/-- A stretch of frames under one setting (R127): the next sample epoch, the sample epoch at which it ends when a press has
ended it, and the start epoch of each member's chain (R124). -/
structure StrRun where
  set : StrSet
  next : Nat
  upto : Option Nat
  starts : List Nat
deriving DecidableEq, Repr

/-- A stream beside its registers: the frames being finished and those in force, the next sequence number, the reasons
that wait for the next header and those that wait for the first frame of the settings in force, the sample epoch of its last
frame, and the items in its FIFO. -/
structure StreamSt where
  old : Option StrRun
  cur : Option StrRun
  seq : Nat
  reasons : Nat
  later : Nat
  lastNs : Option Nat
  fifo : List LineItem
deriving DecidableEq, Repr

/-- What the chains and streams need of one past epoch: its number, whether it was stepped, DIV, the positions not VALID at its
edge, those that had entered or left VALID since the edge before, the trimmed samples (channel, value, SAT), and angle, qualifier and speed of each engine. -/
structure EpochRec where
  num : Nat
  stepped : Bool
  div : Nat
  lost : Nat
  moved : Nat
  smp : List (Nat × Int × Bool)
  ang : List (Nat × Nat × Nat)
deriving DecidableEq, Repr

/-- A frame as a lane takes it: stream sequence number, sample epoch, angle, qualifier, speed, and a value and the marks
(bit 3 SAT, 2 MOD_LOST, 1 SETTLING, 0 STEPPED) for each member; `key` is the stream's K and membership. -/
structure LaneFrame where
  seq : Nat
  ns : Nat
  angle : Nat
  qual : Nat
  speed : Nat
  vals : List Int
  marks : List Nat
  key : StrSet
deriving DecidableEq, Repr

/-- The record a lane is filling: its first point, the epoch of frame i of that point, the members of its frames, FLAGS so far,
the words. -/
structure LaneRec where
  first : Nat
  ns : Nat
  chans : List Nat
  flags : Nat
  words : List Nat
deriving DecidableEq, Repr

/-- A resampler lane beside its registers: the input FIFO, the last frames without a break, the next point, the record in
progress, the last point of the previous record, M and REC_LOG2 as these points are counted, the records that wait for the line, the next record number, the tables
(128 × half + entry), the entries written, and the swaps (seam number, number of the first frame from its epoch on, half) that frames still
need. -/
structure Lane where
  fifo : List LaneFrame
  frames : List LaneFrame
  point : Option Nat
  part : Option LaneRec
  last : Option Nat
  grid : Nat × Nat
  out : List LineItem
  seq : Nat
  table : List (Nat × Nat)
  written : List Nat
  swaps : List (Nat × Nat × Nat)
deriving DecidableEq, Repr

/-- The chains, streams and lanes: the past epochs (newest first), whether the timer has restarted since the last edge, and the
positions that have entered or left VALID since then (R131). -/
structure Chains where
  hist : List EpochRec
  restart : Bool
  moved : Nat
  streams : List StreamSt
  lanes : List Lane
deriving DecidableEq, Repr

/-- A line beside its registers (R144–R152): the payload of the open block, the first item that begins in it (offset,
epoch, angle), the item in progress (epoch, angle), that of the block's start, WRITER with KIND, RATE and CHMASK of the
block, whether it carries SKIP, the written blocks as disjoint rising intervals, the writer bound last, a flush that
waits, and the module positions that were VALID when the open block opened. -/
structure Line where
  payload : List Byte
  first : Option (Nat × Nat × Nat)
  item : Nat × Nat
  start : Nat × Nat
  head : Nat × Nat × Nat
  skip : Bool
  written : List (Nat × Nat)
  bound : Option Nat
  flush : Bool
  valid : Nat
deriving DecidableEq, Repr

/-- A peg (R153–R155): its registers, its state (0 FREE, 1 HELD, 2 ARMED, 3 GROWING) and BEFORE′. -/
structure Peg where
  line : Nat
  first : Nat
  count : Nat
  before : Nat
  after : Nat
  state : Nat
  reason : Nat
  clipped : Bool
  shortened : Bool
  base : Nat
deriving DecidableEq, Repr

/-- A block copy of the fetch engine (R157): line, first index, blocks, destination, the blocks in the hem at its start, and the
blocks copied so far. -/
structure Fetch where
  line : Nat
  idx : Nat
  count : Nat
  dst : Nat
  hem : List Nat
  pos : Nat
deriving DecidableEq, Repr

/-- An HBM stack controller beside its registers (R163–R171): the training mode that runs (0 FULL, 1 CACHED, 2 RESTORE),
failed FULL attempts, the temperature of the RESTORE copy if it is valid, the training data, a training that waits for
STK_PG and its mode, and the lanes that the training has replaced (as TARGET of kind 7, R459). -/
structure HbmStack where
  mode : Option Nat
  fulls : Nat
  copy : Option Int
  tdata : List (Nat × Nat)
  waitPg : Option Nat
  lanes : List Nat
deriving DecidableEq, Repr

/-- A request that waits at the governor (R169): its class, its bytes, and who makes it (0–4 the cores, 5 the debug port, 6 the
fetch engine, 7 the rinse, 8 + p link port p, 16 + w engine w). -/
structure GovReq where
  cls : Nat
  size : Nat
  owner : Nat
deriving DecidableEq, Repr

/-- An access of the debug port to HBM that waits at the governor. -/
structure DebugWait where
  write : Bool
  size : AccessSize
  addr : Nat
  value : BitVec 64
  secure : Bool
deriving DecidableEq, Repr

/-- The line writer, the pegs, the fetch engine, the HBM controllers and the governor: completed blocks that wait for
admission (address, bytes), blocks of the short line (line, slot) oldest first, the next slot, bytes of the window in all
and by class, whether a request waited, the limits in force, the requests that wait in arrival order, the owners whose request has
been admitted and not yet been made, and the accesses of the debug port among those that wait. -/
structure Lines where
  lines : List Line
  pegs : List Peg
  waiting : List (Nat × List Byte)
  short : List (Nat × Nat)
  slot : Nat
  fetch : Option Fetch
  hbm : List HbmStack
  used : Nat
  cls : List Nat
  waited : Bool
  gov : List Nat
  owed : List GovReq
  grants : List Nat
  debug : List DebugWait
deriving DecidableEq, Repr

/-- A DMA transfer of a Welut engine that is outstanding (R210): kind (1 READ, 2 WRITE, 3 LINE), token, local address,
fabric address and length, or line, block index and count; whether a fence waits for it; which blocks of a LINE transfer
were in the hem at its start; and the 64-byte beats or the blocks that it has moved. -/
structure Dma where
  kind : Nat
  tok : Nat
  loc : Nat
  fab : Nat
  len : Nat
  own : Bool
  hem : List Nat
  pos : Nat
deriving DecidableEq, Repr

/-- A job that an engine runs (R182, R189): logical engine, priority, descriptor FLAGS, LIMIT, JOB_ID, DST, DST_LEN, its
frame (generator, number) and whether it took it at a seam, SEQ, the Welut clocks it ran and the result FLAGS so far. -/
structure Job where
  le : Nat
  prio : Nat
  dflags : Nat
  limit : Nat
  id : Nat
  dst : Nat
  cap : Nat
  frame : Option (Nat × Nat)
  atSeam : Bool
  seq : Nat
  cycles : Nat
  rflags : Nat
deriving DecidableEq, Repr

/-- A Welut engine beside its registers (R173–R220): the vector registers that have been written since they last had
power (16 × register + lane), the count of those power-ups, the scalar registers, pointers and strides (4 × address unit +
index), loop counters, the flag mask F, the scalar flags Z N C V, the user flags, the tokens, the return stack, the address
of the next microword, the port loads of the last word, the outstanding transfers, a fence that waits for its own transfer
(its place among them), whether a HALT has been issued, the job, the control store (176-bit words) with the holding
register of CS_DATA0–4, the command that runs on it, the VERIFY_BAD results since the last VERIFY_OK, and whether a darn
retires the engine at its halt, and the cause and address of a stop that waits for the outstanding transfers (R198). -/
structure Wel where
  vreg : List (Nat × Word)
  powered : Nat
  sc : List Word
  ptr : List Nat
  stride : List Nat
  lc : List Nat
  f : Nat
  flags : Nat
  uf : Nat
  tok : Nat
  ret : List Nat
  pc : Nat
  loads : List (Nat × List Word)
  dma : List Dma
  fence : Bool
  halting : Bool
  job : Option Job
  store : List (Nat × Nat)
  hold : List Word
  cmd : Option Nat
  bad : Nat
  retire : Bool
  stopping : Option (Nat × Nat)
deriving DecidableEq, Repr

/-- A job queue beside its registers: the first strobe of each frame generator since the head became head (generator,
frame), and the frame of the last seam-waiting job that started from it (R184). -/
structure WelQueue where
  strobes : List (Nat × Nat)
  frame : Option (Nat × Nat)
deriving DecidableEq, Repr

/-- An open frame (R193): generator and number, the XOR of the contributions and their count, the running jobs that took
it at a seam, the later seams of its generator, and whether it takes no more contributions, and closes late. -/
structure OpenFrame where
  gen : Nat
  num : Nat
  xor : Nat
  count : Nat
  jobs : Nat
  seams : Nat
  shut : Bool
  late : Bool
deriving DecidableEq, Repr

/-- A frame generator's count (R187): source events so far, and the SRCSEL and LENGTH under which they count. -/
structure FrameCount where
  count : Nat
  src : Nat
  len : Nat
deriving DecidableEq, Repr

/-- The Welut engines, their queues and frames: queues, templates whose copy is in progress (template, descriptor bytes,
queue), open frames, frame counts, lane records not yet counted (lane, tick), the seam held in D_ACQ for each frame
generator while D_ANA is clock-stopped with whether an earlier one was missed, the pushed tables that wait (DST, bytes,
bytes sent), and the closed frame digests that wait to be compared (generator, number, value, contributions, LATE). -/
structure WelPart where
  engines : List Wel
  queues : List WelQueue
  copies : List (Nat × Nat × List Byte)
  frames : List OpenFrame
  counts : List FrameCount
  emits : List (Nat × Nat)
  heldSeams : List (Nat × Nat × Bool)
  pushes : List (Nat × Nat × Nat)
  digests : List (Nat × Nat × Nat × Nat × Bool)
deriving DecidableEq, Repr

/-- A trim measurement (R345): whether its window is open, the events counted in it, the raw counter and the phase within a
raw tick (2^-10) at its opening, and whether XO has been READY throughout. -/
structure Meas where
  opened : Bool
  count : Nat
  raw : Nat
  phase : Nat
  xo : Bool
deriving DecidableEq, Repr

/-- The backup domain beside its registers: the accumulator of R341, whether the LFXO is READY, a second boundary and an
alarm that the last raw tick brought, the trim measurement, and the wake that D_BK latched for Midnight (source, whether
several, trimmed counter, REPLAYED). -/
structure Bkd where
  frac : Nat
  lfxo : Bool
  second : Bool
  alarm : Bool
  meas : Option Meas
  wake : Option (Nat × Nat × Bool)
  fell : Bool
  changed : Bool
deriving DecidableEq, Repr


/-- A serial port beside its registers (R403–R416): a line that must read high before it may start a character, a line that
has disarmed the receiver, whether the next character is marked by R407, the samples of RXD since the start of the character
in progress; whether a block of the ring is open, its payload bytes so far, its flags ERR,
BRK and OVR, an overrun since the last block, blocks closed mod 256; the transmit holding register, the bits of the
frame on the line, the transfer in progress (SRAM offset, characters left), the level of TXD while no frame is on the line,
DE, and whether the start-edge detector has fired and not
re-armed. -/
structure Uart where
  low : Bool
  stuck : Bool
  fast : Bool
  rx : List Bool
  blk : Bool
  pos : Nat
  err : Bool
  brk : Bool
  ovr : Bool
  lostOvr : Bool
  seq : Nat
  hold : Option Nat
  shift : Option (List Bool)
  xfer : Option (Nat × Nat)
  txd : Bool
  de : Bool
  fired : Bool
deriving DecidableEq, Repr

/-- Where a write of a core that waits for its distance lands (R248): a general register, a control register written whole,
what rdcr sees of a loop register or of an LA bit, DFC, or the core's copy of CORE_IRQ_EN or of a window (R30, R265). -/
inductive CoreDest where
  | g (n : Nat)
  | cr (n : Nat)
  | ls (n : Nat)
  | le (n : Nat)
  | lc (n : Nat)
  | la (n : Nat)
  | dfc
  | irqEn (n : Nat)
  | win (n : Nat)
deriving DecidableEq, Repr

/-- A pending write: it lands just before the instruction that issues after `left` more (R250). -/
structure CoreWrite where
  dest : CoreDest
  value : Word
  left : Nat
deriving DecidableEq, Repr

/-- A Kiltur core (R245–R264): general registers, accumulators, control registers as rdcr sees them, the loop registers and
LA bits as the loop mechanism uses them (R253), the pending writes in issue order, the address of the next instruction, the
branch whose delay slot it is with the target when taken (R252), the hidden repeat counter with whether an iteration has run
(R256), whether a wait instruction has stopped issue, CORE_IRQ_EN and WIN0–WIN7 as they govern, and the instruction word whose
data access has not completed yet (R251). -/
structure Core where
  g : List Word
  acc : List (BitVec 72)
  psw : Word
  vbase : Word
  epc : Word
  ecause : Word
  estate : Word
  ls : List Word
  le : List Word
  lc : List Word
  loopS : List Word
  loopE : List Word
  loopC : List Nat
  loopA : List Bool
  writes : List CoreWrite
  next : Word
  slot : Option (Word × Option Word)
  rpt : Option (Nat × Bool)
  waiting : Bool
  irqEn : List Word
  win : List Word
  stall : Option Word
deriving DecidableEq, Repr

/-- The clock tree beside its registers: the sources whose failure each of D_ACQ, D_ANA, D_MEM and D_LNK waits out (R333),
the DVFS transition in progress (rail, new point, raising; R328), and whether a PMBus transaction runs. -/
structure Clocks where
  wait : List (List Nat)
  dvfs : Option (Nat × Nat × Bool)
  pmb : Bool
deriving DecidableEq, Repr

/-- The temperature sensors beside their registers (R318): sensors whose WARN and HOT bit may not be set again yet, and
whether TEMP_MAX holds no reading. -/
structure Temps where
  warned : List Nat
  hot : List Nat
  fresh : Bool
deriving DecidableEq, Repr

/-- The fuses (R431): lifecycle (0 OPEN, 1 SECURED, 2 RMA), key hashes by slot, programmed and revoked slots, the rollback
count and the device identifier; and the burn in progress (OP, SLOT, FUSE_PDATA). No power mode and no reset changes what is
burnt. -/
structure Fuses where
  life : Nat
  keys : List (List Word)
  programmed : Nat
  revoked : Nat
  rollback : Nat
  uid : List Word
  burn : Option (Nat × Nat × List Word)
deriving DecidableEq, Repr

/-- The crypto engine beside its registers (R444, R445): the command that runs, the measurement log (TYPE, INDEX, digest),
digest and key hash of the last VERIFY when it passed, and how many reports have been signed. -/
structure Crypto where
  cmd : Option Nat
  log : List (Nat × Nat × List Byte)
  passed : Option (List Byte × List Byte)
  signed : Nat
deriving DecidableEq, Repr

/-- A watchdog beside its registers (R446): LF ticks left, and LF ticks since the last reload. -/
structure Watchdog where
  left : Nat
  since : Nat
deriving DecidableEq, Repr

/-- What one operation of the flash controller puts on the bus (R437): the chip select, the protocol, the bytes of the command
and of the address phase, the dummy clocks, the direction and the bytes of the data phase. -/
structure XspiOp where
  cs : Bool
  mode : Nat
  command : List Byte
  address : List Byte
  dummy : Nat
  write : Bool
  data : List Byte
deriving DecidableEq, Repr

/-- The flash controller beside its registers (R437–R440): what runs (0 nothing, 1 an operation, 2 a poll), the last operation on
the bus, and the protocols (bit MODE) that the JESD216 parameter table of the flash on XSPI_CS0_N describes. -/
structure Xspi where
  run : Nat
  out : Option XspiOp
  modes : Nat
deriving DecidableEq, Repr

/-- Mend mode (R441–R443): whether it is on, the bytes received on UART0 and in the mend window of the frame in progress,
the SEQ of the last good frame, the last reply, whether it is ready in the window, whether a LEAVE waits for
the host to read it, the frame whose command waits (CMD, SEQ,
ARG, data, through P0), the replies sent on UART0, and the result of VERIFY by slot (0 none, 1 passed, 2 failed). -/
structure Mend where
  on : Bool
  rx : List Byte
  win : List Byte
  prev : Option Nat
  reply : List Byte
  ready : Bool
  leaving : Bool
  todo : Option (Nat × Nat × Nat × List Byte × Bool)
  sent : List Byte
  verified : List Nat
deriving DecidableEq, Repr

/-- The start-up machinery (R418–R426): the cores whose ROM copy runs (0 S, 1 C0), whether S is parked by a HOLD, whether
ROM_C runs the steps, the step whose BEGIN was last, the offset in flash of the bundle that step 8
chose, and the failure that the ROM has found in the step in progress (true INTEGRITY, false HARDWARE). -/
structure Boot where
  copying : List Nat
  parked : Bool
  running : Bool
  step : Nat
  bundle : Nat
  bad : Option Bool
deriving DecidableEq, Repr

/-- The whole state of the block. -/
structure State where
  /-- The commands that are waiting, first in, first out. -/
  pending : List Instr
  /-- Time, in PLL_ADC ticks of 1.5625 ns. -/
  now : Nat
  /-- The register file: page × 0x1000 + offset and value, rising, no entry equal to its reset value. -/
  regs : List (Nat × Word)
  /-- Memory by 48-bit fabric address, in canonical form (`Memory.wf`). -/
  mem : List Host.Cell
  /-- The 64-bit words whose stored check bits show an error; `true` is an uncorrectable one. -/
  ecc : List (Nat × Bool)
  /-- The accesses that the register fabric holds, in arrival order. -/
  held : List HeldAccess
  /-- The frozen captures of the freeze groups. -/
  freeze : List FreezeCapture
  /-- The pages whose soft reset is in progress (R17). -/
  softReset : List Nat
  /-- How many free values a reading has drawn. The MODEL's own field. -/
  draws : Nat
  /-- The answer of the last bus access. -/
  answer : BusAnswer
  /-- The event router. -/
  router : Router
  /-- The basket controller. -/
  basket : Basket
  /-- The power-mode controller. -/
  power : Power
  /-- The seams that fell on the last epoch edge. -/
  seams : List Nat
  /-- The tach inputs T0–T31. -/
  tach : List Tach
  /-- The angle engines A0–A31. -/
  engines : List Engine
  /-- The epoch timer. -/
  epoch : Epoch
  /-- The module positions M0–M11. -/
  modules : List Module
  /-- The time-beacon logic. -/
  beacon : Beacon
  /-- The two identity-bus controllers. -/
  idb : List IdBus
  /-- The darn controller. -/
  darn : Darn
  /-- The converter and the result registers. -/
  adc : Adc
  /-- The channel chains, the streams and the resampler lanes. -/
  chains : Chains
  /-- The lines, the pegs, the short line and the HBM controllers. -/
  lines : Lines
  /-- The Welut engines, their queues and frames. -/
  wel : WelPart
  /-- The backup domain beside its registers. -/
  bkd : Bkd
  /-- The link ports, the mangle units and the pair logic. -/
  links : Links
  /-- The two serial ports beside their registers. -/
  uarts : List Uart
  /-- The cores S, C0, C1, C2, C3. -/
  cores : List Core
  /-- The clock tree beside its registers. -/
  clocks : Clocks
  /-- The temperature sensors beside their registers. -/
  temps : Temps
  /-- The fuses. -/
  fuses : Fuses
  /-- The crypto engine beside its registers. -/
  crypto : Crypto
  /-- The flash controller beside its registers. -/
  xspi : Xspi
  /-- The serial flash on XSPI_CS0_N: bytes that are not erased, as their complements, in canonical form. -/
  flash : List Host.Cell
  /-- The watchdogs WD0–WD4 beside their registers. -/
  wdts : List Watchdog
  /-- Mend mode. -/
  mend : Mend
  /-- The start-up machinery. -/
  boot : Boot
  /-- The staged settings of D_ACQ written directly, with what they held before and the tick of the write, until an edge at least 64 ticks later (R236). -/
  late : List (Nat × Word × Nat)
  /-- The pages that a loop check (R293) or the update of a backup word (R349) keeps busy, each with the sentinel clocks that it
  may still take. -/
  checks : List (Nat × Nat)
  /-- The general timers whose START waits for the next tick of their clock (R298). -/
  timers : List Nat
deriving DecidableEq, Repr

/-- The router after D_SEN power-on (R297). -/
def Router.reset : Router where
  inp := []
  fires := []
  chan := []
  task := []
  cells := List.replicate 32 ⟨false, false, false, false⟩
  prevOut := List.replicate 32 false
  guard := List.replicate 128 0
  tapHigh := []
  woken := []

/-- The basket controller after D_ACQ power-on (R241). -/
def Basket.reset : Basket where
  slots := List.replicate 8 ⟨[], false, 0, 0, 0, none⟩
  window := 0
  heldPages := []
  closing := []
  later := []

/-- The I/O ring before the first D_ACQ power-on: every bank at 1.8 V (DESIGN CHOICE, log entry 121), nothing driven, and
BYPASS selected (R465, R473). -/
def Ring.reset : Ring where
  vio := 0
  por := true
  safe := [0#32, 0#32]
  safeOe := [0#32, 0#32]
  ext := [0#32, 0#32]
  ir := 0xFF
  cells := List.replicate 140 false

/-- The power controller right after the first D_SEN power-on: only D_BK and D_SEN are powered. -/
def Power.reset : Power where
  senOn := true
  acq := .off
  ana := .off
  mem := .off
  lnk := .off
  step := none
  sNight := false
  nightSr := true
  keep := []
  sealMask := []
  seals := []
  wake := none
  replay := false
  woken := false
  pfwPin := false
  pfwWait := false
  thermal := false
  sStopped := false
  anaEn := false
  anaPoint := 0
  opFail := false
  anaPg := false
  stkEn := false
  stkPg := false
  ring := Ring.reset

/-- The epoch timer after D_ACQ power-on (R76). -/
def Epoch.reset : Epoch where
  running := false
  edges := []
  divs := []
  next := none
  tachEdges := []
  softReq := none
  slips := 0
  step := 0
  acc := 0
  lastUpd := none
  len := 0
  stepped := false
  tickSeam := none
  firstNum := none
  heldAt := none
  first := 0
  gates := []
  seamCounts := [0, 0, 0, 0, 0]
  above := -1
  work := none

/-- An engine at its power-on state (R64). -/
def Engine.zero : Engine where
  theta := 0
  tTheta := 0
  speed := 0
  tPrev := 0
  k := 0
  base := 0
  devPrev := 0
  lastEdge := 0
  angle := 0
  seamRev := 0
  start := 0
  jumped := false
  acqLast := none
  prevInt := none
  tests := 0
  acqCount := 0
  acqRef := false
  acqK := 0
  acqRev := 0
  refPending := false
  noRef := false
  relock := 0
  reacq := false
  swapTick := 0
  learnRevs := 0
  learnTimes := []
  learnSums := []
  learnSwap := false
  table := []

/-- The beacon logic after D_LNK power-on. -/
def Beacon.reset : Beacon where
  base16 := 0
  baseTick := 0
  slew := 0
  slewLen := 1
  still := true
  ports := List.replicate 4 ⟨none, 0, none, false⟩
  lastSync := none
  stepped := false
  next := 0
  seams := []

/-- A port after D_LNK power-on (R365). -/
def Port.reset : Port where
  out := []
  retry := []
  cursor := 0
  paid := 0
  txNext := 0
  rxNext := 0
  ahead := []
  inbox := []
  run := none
  side := []
  creditSeen := 0
  returned := 0
  rounds := 0
  laneErr := [0, 0, 0]
  fresh := true

/-- The pair logic after D_LNK power-on. -/
def Pair.reset : Pair where
  twin := none
  fromSec := false
  bindOver := false
  hbLost := false
  handing := false
  tokens := 0
  own := []
  theirs := []
  ownDig := []
  theirDig := []
  ownOut := []
  theirOut := []

/-- Links, mangle units and pair logic after D_LNK power-on (R382). -/
def Links.reset : Links where
  ports := List.replicate 4 Port.reset
  mangles := List.replicate 4 ⟨false, none, []⟩
  pair := Pair.reset
  sent := []

/-- The darn controller after a device restart (R450). -/
def Darn.reset : Darn where
  log := []
  props := []
  confirmed := []
  tracker := []
  rows := []
  banks := []
  spent := []
  proposed := []
  engines := []
  copy := none
  hbmRows := []
  hbmLanes := []
  lostLast := []

/-- A slice after D_ACQ power-on. -/
def Slice.reset : Slice where
  fails := 0
  running := false
  acc := [(0, 0), (0, 0), (0, 0)]
  passed := none

/-- The converter after D_ACQ power-on (R112). -/
def Adc.reset : Adc where
  slices := List.replicate 9 Slice.reset
  init := false
  initWait := false
  decision := none
  scan := none
  missed := none
  turns := List.replicate 8 0

/-- An identity-bus controller that runs nothing. -/
def IdBus.idle : IdBus where
  run := 0
  wlen := 0
  rlen := 0
  sent := []

/-- A stream after D_ACQ power-on. -/
def StreamSt.reset : StreamSt where
  old := none
  cur := none
  seq := 0
  reasons := 0
  later := 0
  lastNs := none
  fifo := []

/-- A lane after D_ACQ power-on (R142). -/
def Lane.reset : Lane where
  fifo := []
  frames := []
  point := none
  part := none
  last := none
  grid := (0, 0)
  out := []
  seq := 0
  table := []
  written := []
  swaps := []

/-- Chains, streams and lanes after D_ACQ power-on. -/
def Chains.reset : Chains where
  hist := []
  restart := false
  moved := 0
  streams := List.replicate 64 StreamSt.reset
  lanes := List.replicate 16 Lane.reset

/-- A line after D_ACQ power-on. -/
def Line.reset : Line where
  payload := []
  first := none
  item := (0, 0)
  start := (0, 0)
  head := (0, 0, 0)
  skip := false
  written := []
  bound := none
  flush := false
  valid := 0

/-- A FREE peg. -/
def Peg.reset : Peg where
  line := 0
  first := 0
  count := 0
  before := 0
  after := 0
  state := 0
  reason := 0
  clipped := false
  shortened := false
  base := 0

/-- A stack controller after D_MEM power-on. -/
def HbmStack.reset : HbmStack where
  mode := none
  fulls := 0
  copy := none
  tdata := []
  waitPg := none
  lanes := []

/-- Lines, pegs and HBM controllers after power-on (R171). -/
def Lines.reset : Lines where
  lines := List.replicate 64 Line.reset
  pegs := List.replicate 256 Peg.reset
  waiting := []
  short := []
  slot := 0
  fetch := none
  hbm := List.replicate 4 HbmStack.reset
  used := 0
  cls := [0, 0, 0, 0, 0]
  waited := false
  gov := [256, 0, 0, 0, 0]
  owed := []
  grants := []
  debug := []

/-- A Welut engine after D_ANA power-on (R194). -/
def Wel.reset : Wel where
  vreg := []
  powered := 0
  sc := List.replicate 16 0#32
  ptr := List.replicate 8 0
  stride := List.replicate 8 64
  lc := [0, 0, 0, 0]
  f := 0
  flags := 0
  uf := 0
  tok := 15
  ret := []
  pc := 0
  loads := []
  dma := []
  fence := false
  halting := false
  job := none
  store := []
  hold := List.replicate 5 0#32
  cmd := none
  bad := 0
  retire := false
  stopping := none

/-- The Welut part after D_ANA and D_ACQ power-on. -/
def WelPart.reset : WelPart where
  engines := List.replicate 18 Wel.reset
  queues := List.replicate 64 ⟨[], none⟩
  copies := []
  frames := []
  counts := List.replicate 4 ⟨0, 0, 1⟩
  emits := []
  heldSeams := []
  pushes := []
  digests := []

/-- The backup domain after its power-on reset. -/
def Bkd.reset : Bkd where
  frac := 0
  lfxo := false
  second := false
  alarm := false
  meas := none
  wake := none
  fell := false
  changed := false

/-- A serial port after D_ACQ power-on. -/
def Uart.reset : Uart where
  low := false
  stuck := false
  fast := false
  rx := []
  blk := false
  pos := 0
  err := false
  brk := false
  ovr := false
  lostOvr := false
  seq := 0
  hold := none
  shift := none
  xfer := none
  txd := true
  de := false
  fired := false

/-- A core at reset (R245, R265). -/
def Core.reset : Core where
  g := List.replicate 32 0#32
  acc := [0#72, 0#72]
  psw := 1#32
  vbase := 0#32
  epc := 0#32
  ecause := 0#32
  estate := 0#32
  ls := [0#32, 0#32, 0#32]
  le := [0#32, 0#32, 0#32]
  lc := [0#32, 0#32, 0#32]
  loopS := [0#32, 0#32, 0#32]
  loopE := [0#32, 0#32, 0#32]
  loopC := [0, 0, 0]
  loopA := [false, false, false]
  writes := []
  next := 0#32
  slot := none
  rpt := none
  waiting := false
  irqEn := [0#32, 0#32]
  win := List.replicate 8 0#32
  stall := none

/-- The clock tree after D_SEN power-on. -/
def Clocks.reset : Clocks where
  wait := [[], [], [], []]
  dvfs := none
  pmb := false

/-- A device as delivered: nothing burnt (R431); the identifier is DESIGN CHOICE 0 (log entry 10). -/
def Fuses.blank : Fuses where
  life := 0
  keys := List.replicate 4 (List.replicate 8 0#32)
  programmed := 0
  revoked := 0
  rollback := 0
  uid := List.replicate 8 0#32
  burn := none

/-- The crypto engine after D_ACQ power-on. -/
def Crypto.reset : Crypto where
  cmd := none
  log := []
  passed := none
  signed := 0

/-- Mend mode off. -/
def Mend.reset : Mend where
  on := false
  rx := []
  win := []
  prev := none
  reply := []
  ready := false
  leaving := false
  todo := none
  sent := []
  verified := [0, 0]

/-- The start-up machinery at D_SEN power-on: ROM_S is being copied (R418). -/
def Boot.reset : Boot where
  copying := [0]
  parked := false
  running := false
  step := 0
  bundle := 0
  bad := none

/-- The flash controller at D_SEN power-on; the flash describes every protocol (DESIGN CHOICE, log entry 121). -/
def Xspi.reset : Xspi where
  run := 0
  out := none
  modes := 15

/-- The block right after reset: D_BK and D_SEN powered on for the first time, every register at its reset value. -/
def State.reset : State where
  pending := []
  now := 0
  regs := []
  mem := []
  ecc := []
  held := []
  freeze := []
  softReset := []
  draws := 0
  answer := .none
  router := Router.reset
  basket := Basket.reset
  power := Power.reset
  seams := []
  tach := List.replicate 32 ⟨false, none, none, 0⟩
  engines := List.replicate 32 Engine.zero
  epoch := Epoch.reset
  modules := List.replicate 12 ⟨true, false, none⟩
  beacon := Beacon.reset
  idb := List.replicate 2 IdBus.idle
  darn := Darn.reset
  adc := Adc.reset
  chains := Chains.reset
  lines := Lines.reset
  wel := WelPart.reset
  bkd := Bkd.reset
  links := Links.reset
  uarts := List.replicate 2 Uart.reset
  cores := List.replicate 5 Core.reset
  clocks := Clocks.reset
  temps := ⟨[], [], true⟩
  fuses := Fuses.blank
  crypto := Crypto.reset
  xspi := Xspi.reset
  flash := []
  wdts := List.replicate 5 ⟨0, 0⟩
  mend := Mend.reset
  boot := Boot.reset
  late := []
  checks := []
  timers := []

end Sys2Proof.Machine
end

