-- ==== Sys2Proof/Machine/Ops.lean ====
section
/-!
DEFINITION. The named operations over the register file, the flags, the interrupt bits and the memories: every later
file reads and changes the machine through these.
-/

namespace Sys2Proof.Machine

/-! ### Lists of like things -/

/-- The list with item `n` replaced by `x`: a list that ends before `n` is lengthened with `d`, which is what a read past its
end gives, so that a read after a write is what was written whatever the list. -/
def setAt {α : Type} (d : α) : List α → Nat → α → List α
  | [], 0, x => [x]
  | [], n + 1, x => d :: setAt d [] n x
  | _ :: l, 0, x => x :: l
  | a :: l, n + 1, x => a :: setAt d l n x

/-! ### Bits of a word -/

/-- Field `[lo + w - 1 : lo]` of a register word, as a number. -/
def bits (v : Word) (lo w : Nat) : Nat := (v.toNat >>> lo) % 2 ^ w

/-- The word whose ones are the bits `[lo + w - 1 : lo]`. -/
def maskOf (lo w : Nat) : Word := BitVec.ofNat 32 ((2 ^ w - 1) <<< lo)

/-- `v` with field `[lo + w - 1 : lo]` replaced by the low `w` bits of `x`. -/
def withBits (v : Word) (lo w x : Nat) : Word :=
  (v &&& ~~~(maskOf lo w)) ||| BitVec.ofNat 32 ((x % 2 ^ w) <<< lo)

/-- A number read as a `w`-bit two's complement value. -/
def signed (w x : Nat) : Int :=
  let y := x % 2 ^ w
  if 2 ^ w ≤ 2 * y then (y : Int) - (2 ^ w : Nat) else (y : Int)

/-- An integer as a `w`-bit two's complement field. -/
def toField (w : Nat) (x : Int) : Nat := (x % ((2 ^ w : Nat) : Int)).toNat

/-- An integer saturated to the range of a `w`-bit two's complement value. -/
def saturate (w : Nat) (x : Int) : Int :=
  let hi : Int := (2 ^ (w - 1) : Nat) - 1
  let lo : Int := -((2 ^ (w - 1) : Nat) : Int)
  if x > hi then hi else if x < lo then lo else x

/-- `a / b` rounded to nearest, ties away from zero, for positive `b`. -/
def roundDiv (a : Int) (b : Nat) : Int :=
  if 0 ≤ a then (2 * a + b) / (2 * b) else -((2 * (-a) + b) / (2 * b))

/-- Round to the nearest multiple of `2 ^ k`, as a shift right, ties away from zero. -/
def roundShift (k : Nat) (a : Int) : Int := roundDiv a (2 ^ k)

/-- The members of `0 … n - 1` for which `p` holds. -/
def indices (n : Nat) (p : Nat → Bool) : List Nat := (List.range n).filter p

/-- Apply `f` for each member of a list, threading the state. -/
def forEach {α σ : Type} (xs : List α) (f : α → σ → σ) (s : σ) : σ := xs.foldl (fun s x => f x s) s

/-! ### Addresses of registers -/

/-- Distance of element `n` of an array from its first element (indices outermost first). -/
def dimsOffset : List (Nat × Nat) → Nat → Nat
  | [], _ => 0
  | (_, st) :: ds, n =>
    let inner := ds.foldl (fun a d => a * d.1) 1
    (n / inner) * st + dimsOffset ds (n % inner)

/-- The element of an array that lies `d` above its first element. -/
def dimsIndex : List (Nat × Nat) → Nat → Nat → Option Nat
  | [], acc, d => if d = 0 then some acc else none
  | (c, st) :: ds, acc, d =>
    let q := d / st
    if q < c then dimsIndex ds (acc * c + q) (d % st) else none

/-- How many registers the array holds. -/
def Reg.count (r : Reg) : Nat := r.layout.dims.foldl (fun a d => a * d.1) 1

/-- Address of register `n` of array `r`, counted from the first register page: page × 0x1000 + offset. -/
def Reg.addr (r : Reg) (n : Nat) : Nat := r.layout.base + dimsOffset r.layout.dims n

/-- Task numbers that the task table of R288 lists. -/
def taskMapped (t : Nat) : Bool := t ≤ 0x31 || (0x40 ≤ t && t ≤ 0xDF)

/-- The register array `r` has a register at distance `a` from the first page, and which. -/
def Reg.indexAt (r : Reg) (a : Nat) : Option Nat :=
  if a < r.layout.base then none
  else
    match dimsIndex r.layout.dims 0 (a - r.layout.base) with
    | none => none
    | some n =>
      match r with
      | .EVR_TSEL => if taskMapped n then some n else none
      | .EVR_TSTAT => if taskMapped n then some n else none
      | _ => some n

/-- First register of a list that has a word at `a`. -/
def findReg : List Reg → Nat → Option (Reg × Nat)
  | [], _ => none
  | r :: rs, a =>
    match r.indexAt a with
    | some n => some (r, n)
    | none => findReg rs a

/-- The registers of the common page head (R16). -/
def headRegs : List Reg :=
  [.PAGE_ID, .PAGE_VER, .PAGE_CTRL, .PAGE_STATUS, .PAGE_IRQ, .PAGE_IRQ_EN, .PAGE_OWNER, .PAGE_SHADOW]

/-- The register at page × 0x1000 + offset: `none` is an unmapped offset (R4). Offsets below 0x040 are the page head. -/
def regAt (a : Nat) : Option (Reg × Nat) :=
  if a % 0x1000 < 0x40 then findReg headRegs a else findReg Reg.all a

/-! ### Pages -/

/-- Home domain and first page of the family of a page (table "Register pages"); `none` is an unmapped page. -/
def pageInfo (p : Nat) : Option (Domain × Nat) :=
  if p ≤ 0x05 then some (.sen, p)
  else if p = 0x06 then some (.bk, 0x06)
  else if p = 0x07 then some (.sen, 0x07)
  else if p ≤ 0x09 then some (.sen, 0x08)
  else if p = 0x0A then some (.sen, 0x0A)
  else if p = 0x0B then some (.acq, 0x0B)
  else if p = 0x0C then some (.acq, 0x0C)
  else if 0x10 ≤ p ∧ p ≤ 0x17 then some (.acq, 0x10)
  else if p = 0x18 then some (.acq, 0x18)
  else if 0x20 ≤ p ∧ p ≤ 0x23 then some (.acq, p)
  else if 0x24 ≤ p ∧ p ≤ 0x2B then some (.acq, 0x24)
  else if 0x2C ≤ p ∧ p ≤ 0x2F then some (.acq, 0x2C)
  else if 0x30 ≤ p ∧ p ≤ 0x31 then some (.acq, 0x30)
  else if 0x38 ≤ p ∧ p ≤ 0x39 then some (.acq, p)
  else if 0x3A ≤ p ∧ p ≤ 0x3D then some (.mem, 0x3A)
  else if p = 0x3E then some (.mem, 0x3E)
  else if 0x40 ≤ p ∧ p ≤ 0x51 then some (.ana, 0x40)
  else if p = 0x52 then some (.ana, 0x52)
  else if 0x58 ≤ p ∧ p ≤ 0x5B then some (.lnk, 0x58)
  else if 0x5C ≤ p ∧ p ≤ 0x5E then some (.lnk, p)
  else if 0x60 ≤ p ∧ p ≤ 0x61 then some (.acq, 0x60)
  else if 0x62 ≤ p ∧ p ≤ 0x63 then some (.acq, p)
  else if p = 0x64 then some (.sen, 0x64)
  else if 0x65 ≤ p ∧ p ≤ 0x6A then some (.acq, p)
  else if p = 0x6C then some (.acq, 0x6C)
  else if p = 0x6E then some (.acq, 0x6E)
  else if p = 0x70 then some (.acq, 0x70)
  else if 0x71 ≤ p ∧ p ≤ 0x73 then some (.ana, 0x70)
  else if p = 0x74 then some (.sen, 0x70)
  else none

/-- The pages whose PAGE_CTRL.EN resets to 1 (R18). -/
def enAtReset (p : Nat) : Bool :=
  [0x00, 0x01, 0x02, 0x03, 0x04, 0x06, 0x07, 0x64, 0x69, 0x6A, 0x74].contains p

/-- The pages whose CLK_PEN bit reads 1 and ignores writes (R324). -/
def penFixed (p : Nat) : Bool := [0x00, 0x01, 0x02, 0x03, 0x04, 0x06, 0x07, 0x64, 0x74].contains p

/-- The CLK_PEN word `w` with a 1 for every mapped page (reset value of the table). -/
def penReset (w : Nat) : Nat :=
  ((List.range 32).filter (fun i => (pageInfo (32 * w + i)).isSome)).foldl (fun a i => a + 2 ^ i) 0

/-! ### Reset values -/

/-- The reset value that the fields of a register table give. -/
def fieldsReset (fs : List FieldDesc) : Nat := fs.foldl (fun a f => a + f.rst <<< f.lo) 0

/-- CRC-16 of 64 zero bytes with polynomial 0x1021 and initial value 0xFFFF (R349): the reset value of BKD_BKCRC. -/
def bkCrcReset : Nat := 0xD6DA

/-- Reset value of register `n` of array `r`: the table's, with the values that depend on the index. -/
def Reg.reset (r : Reg) (n : Nat) : Word :=
  let base := fieldsReset r.fields
  BitVec.ofNat 32 (match r with
    | .PAGE_ID =>
      match pageInfo n with
      | some (_, first) => base + first <<< 16 + (n - first) <<< 8
      | none => 0
    | .PAGE_CTRL => if enAtReset n then 1 else 0
    | .ANG_CFG => base + n <<< 16 + n <<< 21
    | .SEAM_CFG => if 32 ≤ n ∧ n ≤ 39 then base + (4 * (n - 32)) <<< 2 else base
    | .CLK_PEN => penReset n
    | .DVFS_VOLT => [550, 600, 660, 720, 780, 850].getD n 0
    | .WELQ_MAP => 4 * n + (4 * n + 1) <<< 8 + (4 * n + 2) <<< 16 + (4 * n + 3) <<< 24
    | .BKD_BKCRC => bkCrcReset
    | .CORE_CTRL => if n = 4 then 1 else 0
    | _ => base)

/-! ### The register file -/

/-- Value stored at an address of the sparse register file, if it differs from reset. -/
def rfGet : List (Nat × Word) → Nat → Option Word
  | [], _ => none
  | (k, v) :: rest, a => if k = a then some v else if a < k then none else rfGet rest a

/-- Store a value at an address, keeping the addresses strictly rising. -/
def rfPut : List (Nat × Word) → Nat → Word → List (Nat × Word)
  | [], a, x => [(a, x)]
  | (k, v) :: rest, a, x =>
    if k = a then (a, x) :: rest else if a < k then (a, x) :: (k, v) :: rest else (k, v) :: rfPut rest a x

/-- Remove an address. -/
def rfDel : List (Nat × Word) → Nat → List (Nat × Word)
  | [], _ => []
  | (k, v) :: rest, a => if k = a then rest else if a < k then (k, v) :: rest else (k, v) :: rfDel rest a

/-- The stored value of a register. -/
def State.reg (s : State) (r : Reg) (n : Nat := 0) : Word :=
  match rfGet s.regs (r.addr n) with
  | some v => v
  | none => r.reset n

/-- Register `n` of array `r` exists: the index lies in the array, and a task register has a task (R288). -/
def Reg.ok (r : Reg) (n : Nat) : Bool :=
  decide (n < r.count) && (if r = .EVR_TSEL ∨ r = .EVR_TSTAT then taskMapped n else true)

/-- The state with a register's stored value replaced; there is no register outside its array. -/
def State.setReg (s : State) (r : Reg) (n : Nat) (v : Word) : State :=
  if r.ok n then
    { s with regs := if v = r.reset n then rfDel s.regs (r.addr n) else rfPut s.regs (r.addr n) v }
  else s

/-- The bits that register `n` of array `r` has: where a table gives some registers of an array fewer bits, the others are
reserved, read 0 and ignore writes (R2, R320, R481). -/
def Reg.has (r : Reg) (n : Nat) : Word :=
  match r with
  | .RETN_KEEP => if n = 0 then 0xFF#32 else 0xFFFFFFFF#32
  | .RETN_SEAL => if n = 0 then 0xFF#32 else 0xFFFFFFFF#32
  | .GPIO_OUT => if n = 0 then 0xFFFFFFFF#32 else 0xFFFF#32
  | .GPIO_OE => if n = 0 then 0xFFFFFFFF#32 else 0xFFFF#32
  | .GPIO_SAFE => if n = 0 then 0xFFFFFFFF#32 else 0xFFFF#32
  | .GPIO_SAFE_OE => if n = 0 then 0xFFFFFFFF#32 else 0xFFFF#32
  | _ => 0xFFFFFFFF#32

/-- A field of a register, as a number. -/
def State.fget (s : State) (f : Fld) (n : Nat := 0) : Nat := bits (s.reg f.reg n) f.lo f.width

/-- A field of a register, as a signed number. -/
def State.fgetI (s : State) (f : Fld) (n : Nat := 0) : Int := signed f.width (s.fget f n)

/-- A one-bit field is 1 (or a wider field is not 0). -/
def State.flag (s : State) (f : Fld) (n : Nat := 0) : Bool := s.fget f n != 0

/-- Write a field of a register, leaving the register's other bits. -/
def State.fset (s : State) (f : Fld) (n : Nat) (x : Nat) : State :=
  s.setReg f.reg n (withBits (s.reg f.reg n) f.lo f.width x)

/-- Write a one-bit field. -/
def State.fsetB (s : State) (f : Fld) (n : Nat) (b : Bool) : State := s.fset f n (if b then 1 else 0)

/-- Set one bit `i` of a field. -/
def State.fsetBit (s : State) (f : Fld) (n i : Nat) (b : Bool) : State :=
  s.setReg f.reg n (withBits (s.reg f.reg n) (f.lo + i) 1 (if b then 1 else 0))

/-- One bit `i` of a field. -/
def State.fbit (s : State) (f : Fld) (n i : Nat) : Bool := bits (s.reg f.reg n) (f.lo + i) 1 = 1

/-- Add to a field that wraps. -/
def State.fadd (s : State) (f : Fld) (n : Nat) (k : Nat) : State := s.fset f n (s.fget f n + k)

/-- Add to a field that saturates at its largest value. -/
def State.faddSat (s : State) (f : Fld) (n : Nat) (k : Nat) : State :=
  s.fset f n (min (2 ^ f.width - 1) (s.fget f n + k))

/-- A 64-bit value held in two registers. -/
def State.get64 (s : State) (lo hi : Reg) (n : Nat := 0) : Nat :=
  (s.reg hi n).toNat * 2 ^ 32 + (s.reg lo n).toNat

/-- Write a 64-bit value into two registers. -/
def State.set64 (s : State) (lo hi : Reg) (n : Nat) (x : Nat) : State :=
  (s.setReg lo n (BitVec.ofNat 32 x)).setReg hi n (BitVec.ofNat 32 (x / 2 ^ 32))

/-! ### When a domain and a page are live -/

/-- Power of a domain. -/
def State.domPower (s : State) : Domain → DomPower
  | .bk => .on
  | .sen => if s.power.senOn then .on else .off
  | .acq => s.power.acq
  | .ana => s.power.ana
  | .mem => s.power.mem
  | .lnk => s.power.lnk

/-- Clock-failure state of a domain (R333): 0 RUN, 1 WAITING, 2 HELD, 3 RESET. -/
def State.clkState (s : State) : Domain → Nat
  | .bk => 0
  | .sen => 0
  | .acq => s.fget F.CLKMON_STATE_STATE0
  | .ana => s.fget F.CLKMON_STATE_STATE1
  | .mem => s.fget F.CLKMON_STATE_STATE2
  | .lnk => s.fget F.CLKMON_STATE_STATE3

/-- A domain is powered and clocked. -/
def State.domLive (s : State) (d : Domain) : Bool := s.domPower d = .on && s.clkState d = 0

/-- PLL_ADC is READY: a block that it clocks does nothing before (R307, R323). -/
def State.adcClock (s : State) : Bool := s.fbit F.CLK_READY_READY 0 6

/-- The clock of page `p` is enabled (R324). -/
def State.pageClocked (s : State) (p : Nat) : Bool := s.fbit F.CLK_PEN_PEN (p / 32) (p % 32)

/-- The page answers accesses: its domain is live and its clock enabled (R6, R22, R332). -/
def State.pageLive (s : State) (p : Nat) : Bool :=
  match pageInfo p with
  | none => false
  | some (.bk, _) => s.domLive .sen && s.pageClocked p
  | some (d, _) => s.domLive d && s.pageClocked p

/-- The block of a page runs: the page is live and PAGE_CTRL.EN is 1. -/
def State.pageEn (s : State) (p : Nat) : Bool := s.pageLive p && s.flag F.PAGE_CTRL_EN p

/-- What the block of page `p` does of itself it does while its domain and its page are clocked; while they are not, it stands
still (R324, R332). -/
def State.clocked (s : State) (p : Nat) (f : State → State) : State := if s.pageLive p then f s else s

/-! ### Basket slots and pages -/

/-- Slot `n`. -/
def State.slot (s : State) (n : Nat) : Slot := s.basket.slots.getD n ⟨[], false, 0, 0, 0, none⟩

/-- Replace slot `n`. -/
def State.setSlot (s : State) (n : Nat) (x : Slot) : State :=
  { s with basket := { s.basket with slots := setAt ⟨[], false, 0, 0, 0, none⟩ s.basket.slots n x } }

/-- The register-space address that an entry names (R221): page × 0x1000 + offset. -/
def Entry.at (e : Entry) : Nat := (e.addr - 0x40000000#32).toNat / 4 * 4

/-- The operation of an entry: 0 WRITE, 1 SNAP_OLD, 2 SNAP_NEW. -/
def Entry.op (e : Entry) : Nat := e.addr.toNat % 4

/-- Slot `n` is ARMED. -/
def State.slotArmed (s : State) (n : Nat) : Bool := s.fget F.BS_STATE_STATE n == 2

/-- Slot `n` holds a staged entry for page `p` (R224). -/
def State.slotStages (s : State) (n p : Nat) : Bool :=
  s.slotArmed n && (s.slot n).entries.any (fun e => e.op == 0 && e.at / 0x1000 == p)

/-- SLOT_MASK of page `p`. -/
def State.slotMask (s : State) (p : Nat) : Nat :=
  (indices 8 (fun n => s.slotStages n p)).foldl (fun a n => a + 2 ^ n) 0

/-- The page that an address names lies in domain `d`. -/
def inDomain (a : Nat) (d : Domain) : Bool := (pageInfo (a / 0x1000)).any (fun i => i.1 == d)

/-- The lower of two entries. -/
def lowerOf (a b : Option Nat) : Option Nat :=
  match a, b with
  | some x, some y => some (min x y)
  | none, y => y
  | x, none => x

/-- What domain `d` has still to swap in is lost (R234). -/
def State.laterLost (s : State) (d : Domain) : State :=
  { s with basket := { s.basket with later := s.basket.later.filter (fun (x : Nat × Word × Word) => !inDomain x.1 d) } }

/-- A domain goes off: the armed slots with an entry in it have lost a shadow (R231), as has what it has still to swap in. -/
def State.stagedLost (s : State) (d : Domain) : State :=
  let slots := s.basket.slots.zipIdx.map (fun (x : Slot × Nat) =>
    if s.slotArmed x.2 then { x.1 with lost := lowerOf x.1.lost (x.1.entries.findIdx? (fun e => inDomain e.at d)) } else x.1)
  { s with basket := { s.basket with slots := slots } }.laterLost d

/-! ### Generators, interrupts and error flags -/

/-- The domain that raises a generator (table "Event generators"); `none` is a reserved number. -/
def genDomain (g : Nat) : Option Domain :=
  if g ≤ 0x15F then some .acq
  else if g ≤ 0x181 then some .ana
  else if g < 0x190 then none
  else if g ≤ 0x1AF then some .sen
  else if g ≤ 0x1BF then some .acq
  else if g ≤ 0x1CF then some .sen
  else if g ≤ 0x1E3 then some .acq
  else if g = 0x1E4 then some .sen
  else if g = 0x1E5 ∨ g = 0x1E6 then some .bk
  else if 0x1E8 ≤ g ∧ g ≤ 0x1EF then some .acq
  else none

/-- The interrupt output of page `p` (R19). -/
def State.pageIrqOut (s : State) (p : Nat) : Bool :=
  (s.reg .PAGE_IRQ p &&& s.reg .PAGE_IRQ_EN p) != 0#32

/-- Index in the CORE registers of core `i`: CORE_C0–CORE_C3, then CORE_S. -/
def coreReg (i : Nat) : Nat := if i = 0 then 4 else i - 1

/-- The pages whose interrupt outputs drive input 32 + `i` of every core (R289). -/
def irqPages (i : Nat) : List Nat :=
  match i with
  | 0 => [0x00]
  | 1 => [0x01]
  | 2 => [0x02]
  | 3 => [0x03, 0x04]
  | 4 => [0x05, 0x64]
  | 5 => [0x06]
  | 6 => [0x07]
  | 7 => [0x08, 0x09, 0x0A]
  | 8 => [0x0B]
  | 9 => [0x0C]
  | 10 => [0x10, 0x11, 0x12, 0x13, 0x14, 0x15, 0x16, 0x17, 0x18]
  | 11 => [0x20]
  | 12 => [0x21, 0x22]
  | 13 => [0x23]
  | 14 => [0x24, 0x25, 0x26, 0x27, 0x28, 0x29, 0x2A, 0x2B]
  | 15 => [0x2C, 0x2D, 0x2E, 0x2F]
  | 16 => [0x30, 0x31]
  | 17 => [0x38, 0x39]
  | 18 => [0x3A, 0x3B, 0x3C, 0x3D, 0x3E]
  | 19 => (List.range 18).map (fun w => 0x40 + w)
  | 20 => [0x52]
  | 21 => [0x58, 0x59, 0x5A, 0x5B, 0x5C]
  | 22 => [0x5D]
  | 23 => [0x5E]
  | 24 => [0x60]
  | 25 => [0x61]
  | 26 => [0x62, 0x63]
  | 27 => [0x65]
  | 28 => [0x66]
  | 29 => [0x67]
  | 30 => [0x68, 0x69, 0x6A]
  | 31 => [0x6C, 0x6E, 0x70, 0x71, 0x72, 0x73, 0x74]
  | _ => []

/-- Level of interrupt input `i` of core `x` (R289). -/
def State.irqInput (s : State) (x i : Nat) : Bool :=
  if i < 32 then s.fbit F.EVR_CIRQ_LATCH x i else (irqPages (i - 32)).any s.pageIrqOut

/-- Inputs `lo` to `lo + 31` of core `x` as a word. -/
def State.irqWord (s : State) (x lo : Nat) : Word :=
  BitVec.ofNat 32 ((indices 32 (fun i => s.irqInput x (lo + i))).foldl (fun a i => a + 2 ^ i) 0)

/-- The core of CORE register `n`. -/
def coreOf (n : Nat) : Nat := if n = 4 then 0 else n + 1

/-- The inputs of core `x` that are high and enabled in CORE_IRQ_EN. -/
def State.irqOpen (s : State) (x : Nat) : List Nat :=
  let lo := s.irqWord x 0 &&& s.reg .CORE_IRQ_EN_LO (coreReg x)
  let hi := s.irqWord x 32 &&& s.reg .CORE_IRQ_EN_HI (coreReg x)
  indices 64 (fun i => if i < 32 then lo.getLsbD i else hi.getLsbD (i - 32))

/-- A core that waits has seen an enabled input high: its wait ends, though the input may fall again before it issues (R264). -/
def State.irqWake (s : State) : State :=
  let up := (List.range 5).filter (fun x => (s.cores.getD x Core.reset).waiting && !(s.irqOpen x).isEmpty)
  if up.isEmpty then s else { s with router := { s.router with woken := s.router.woken ++ up } }

/-- A wait holds core `x` (R264). -/
def State.coreWaits (s : State) (x : Nat) : Bool :=
  (s.cores.getD x Core.reset).waiting && !s.router.woken.contains x && (s.irqOpen x).isEmpty

/-- The core of CORE register `n` is STOPPED: RUN is 0 and its last data access has completed (R251, R265). -/
def State.coreStands (s : State) (n : Nat) : Bool :=
  !s.flag F.CORE_CTRL_RUN n && (s.cores.getD (coreOf n) Core.reset).stall.isNone

/-- Two pulses of one generator fell into one cycle (R283): the flag and its interrupt bit. -/
def State.genMerged (s : State) : State :=
  (s.fsetB F.EVR_STATUS_GEN_MERGED 0 true).fsetBit F.PAGE_IRQ_SOURCES 0x08 2 true

/-- Generator `g` pulses at the router input in this router cycle; `merged` is what two pulses in one cycle do. A generator
whose domain is not live raises nothing (R296). -/
def State.pulseWith (s : State) (g : Nat) (merged : State → State) : State :=
  match genDomain g with
  | none => s
  | some d =>
    if !s.domLive d || !s.power.senOn then s
    else if s.router.inp.contains g then merged s
    else { s with router := { s.router with inp := s.router.inp ++ [g] } }

/-- The page taps (R284) that name page `p`. -/
def State.tapsOf (s : State) (p : Nat) : List Nat :=
  if s.pageEn 0x09 then indices 16 (fun j => s.flag F.EVR_PTAP_EN j && s.fget F.EVR_PTAP_PAGE j == p) else []

/-- GEN_MERGED with the page taps that it raises when the interrupt output of EVR0 rises with it. A tap that merges in its
turn finds the output high. -/
def State.genMergedTaps (s : State) : State :=
  let t := s.genMerged
  if !s.pageIrqOut 0x08 && t.pageIrqOut 0x08 then
    forEach (t.tapsOf 0x08) (fun j t => t.pulseWith (0x1C0 + j) State.genMerged) t.irqWake
  else t

/-- Generator `g` pulses at the router input in this router cycle (R283, R296). -/
def State.pulse (s : State) (g : Nat) : State := s.pulseWith g State.genMergedTaps

/-- Raise the page taps (R284) that name page `p`, whose interrupt output has just risen. -/
def State.tapRise (s : State) (p : Nat) : State := forEach (s.tapsOf p) (fun j s => s.pulse (0x1C0 + j)) s

/-- `s'`, which changes interrupt bits of page `p` of `s`, with what a rising interrupt output does: it ends waits and
raises taps. -/
def State.withTaps (s s' : State) (p : Nat) : State :=
  if !s.pageIrqOut p && s'.pageIrqOut p then s'.irqWake.tapRise p else s'

/-- Set bit `b` of PAGE_IRQ of page `p`. -/
def State.irq (s : State) (p b : Nat) : State :=
  s.withTaps (s.setReg .PAGE_IRQ p (withBits (s.reg .PAGE_IRQ p) b 1 1)) p

/-- Set several bits of PAGE_IRQ of page `p`. -/
def State.irqMask (s : State) (p : Nat) (m : Word) : State :=
  s.withTaps (s.setReg .PAGE_IRQ p (s.reg .PAGE_IRQ p ||| m)) p

/-- Set an error bit of PAGE_STATUS: 0 ERR_RSVD, 1 ERR_ADDR, 2 ERR_OWNER. PAGE_IRQ bit 31 is set when the bit changes
from 0 to 1 (R16). -/
def State.pageErr (s : State) (p b : Nat) : State :=
  if bits (s.reg .PAGE_STATUS p) b 1 = 1 then s
  else (s.setReg .PAGE_STATUS p (withBits (s.reg .PAGE_STATUS p) b 1 1)).irq p 31

/-- Set or clear BUSY of a page on account of a block operation. -/
def State.setBusy (s : State) (p : Nat) (b : Bool) : State := s.fsetB F.PAGE_STATUS_BUSY p b

/-- A loop check of EVL or the update of a backup word keeps page `p` busy for at most `n` sentinel clocks; the fabric holds
other accesses to the page meanwhile (R293, R349, R483). -/
def State.checkBegin (s : State) (p n : Nat) : State := { s with checks := s.checks ++ [(p, n)] }

/-- `n` sentinel clocks pass for the checks in progress. -/
def State.checksAge (s : State) (n : Nat) : State :=
  { s with checks := (s.checks.map (fun (x : Nat × Nat) => (x.1, x.2 - n))).filter (fun x => x.2 != 0) }

/-- The check that keeps page `p` busy has ended: it may take fewer clocks than its limit. -/
def State.checksEnd (s : State) (p : Nat) : State := { s with checks := s.checks.filter (fun x => x.1 != p) }

/-- Log a bus error (R32): `src` and `cause` are the codes of the two tables of FAB_ERR_INFO. -/
def State.logBusErr (s : State) (addr : Nat) (write : Bool) (src cause : Nat) : State :=
  if s.flag F.FAB_ERR_INFO_VALID then s.fsetB F.FAB_ERR_INFO_OVF 0 true
  else
    let s := s.setReg .FAB_ERR_ADDR_LO 0 (BitVec.ofNat 32 addr)
    let s := s.setReg .FAB_ERR_ADDR_HI 0 (BitVec.ofNat 32 ((addr / 2 ^ 32) % 2 ^ 16))
    let s := s.fset F.FAB_ERR_INFO_SOURCE 0 src
    let s := s.fsetB F.FAB_ERR_INFO_WRITE 0 write
    let s := s.fset F.FAB_ERR_INFO_CAUSE 0 cause
    (s.fsetB F.FAB_ERR_INFO_VALID 0 true).irq 0x00 0

/-! ### Register state of pages and domains -/

/-- Every register of page `p` at offset 0x040 and above, with PAGE_STATUS, PAGE_IRQ and PAGE_IRQ_EN, at reset (R17). -/
def State.clearPage (s : State) (p : Nat) : State :=
  { s with regs := s.regs.filter (fun kv =>
      kv.1 / 0x1000 != p ||
        (kv.1 % 0x1000 < 0x40 && kv.1 % 0x1000 != 0xC && kv.1 % 0x1000 != 0x10 && kv.1 % 0x1000 != 0x14)) }

/-- Every register of the pages of domain `d`, the page heads too, at reset. -/
def State.clearDomainRegs (s : State) (d : Domain) : State :=
  { s with regs := s.regs.filter (fun kv =>
      match pageInfo (kv.1 / 0x1000) with
      | some (d', _) => d' != d
      | none => true) }

/-! ### Memory -/

/-- What a byte that the sparse memory does not list reads as (DESIGN CHOICE, log entry 3: the spec gives no contents). -/
def memDefault : Byte := 0#8

/-- One byte of memory. -/
def memGet : List Host.Cell → Nat → Byte
  | [], _ => memDefault
  | (k, v) :: rest, a => if k = a then v else if a < k then memDefault else memGet rest a

/-- Store one byte, keeping the canonical form. -/
def memPut : List Host.Cell → Nat → Byte → List Host.Cell
  | [], a, x => if x = memDefault then [] else [(a, x)]
  | (k, v) :: rest, a, x =>
    if k = a then (if x = memDefault then rest else (a, x) :: rest)
    else if a < k then (if x = memDefault then (k, v) :: rest else (a, x) :: (k, v) :: rest)
    else (k, v) :: memPut rest a x

/-- Store bytes at rising addresses. -/
def memPuts : List Host.Cell → Nat → List Byte → List Host.Cell
  | m, _, [] => m
  | m, a, b :: bs => memPuts (memPut m a b) (a + 1) bs

/-- The canonical form of the memory: addresses strictly rising, and no entry equal to what an unlisted byte reads as. -/
def Memory.wf : List Host.Cell → Bool
  | [] => true
  | [(_, v)] => v != memDefault
  | (k, v) :: (k', v') :: rest => v != memDefault && k < k' && Memory.wf ((k', v') :: rest)

/-- The byte at a fabric address. -/
def State.byte (s : State) (a : Nat) : Byte := memGet s.mem a

/-- `n` bytes from a fabric address, lowest first. -/
def State.bytes (s : State) (a n : Nat) : List Byte := (List.range n).map (fun i => s.byte (a + i))

/-- Store bytes at a fabric address. -/
def State.putBytes (s : State) (a : Nat) (bs : List Byte) : State := { s with mem := memPuts s.mem a bs }

/-- Bytes, least significant first, of a number (every multi-byte value is little endian). -/
def leBytes : Nat → Nat → List Byte
  | 0, _ => []
  | n + 1, x => BitVec.ofNat 8 x :: leBytes n (x / 256)

/-- The number whose bytes, least significant first, are given. -/
def ofLeBytes : List Byte → Nat
  | [] => 0
  | b :: bs => b.toNat + 256 * ofLeBytes bs

/-- A little-endian value of `n` bytes in memory. -/
def State.memVal (s : State) (a n : Nat) : Nat := ofLeBytes (s.bytes a n)

/-- Store a little-endian value of `n` bytes. -/
def State.putVal (s : State) (a n x : Nat) : State := s.putBytes a (leBytes n x)

end Sys2Proof.Machine
end

