-- ==== Sys2Proof/Machine/Angle.lean ====
section
/-!
DEFINITION. Tach inputs, angle engines, comparators and the revolution part of the seams (R33–R64).
-/

namespace Sys2Proof.Machine

/-! ### Sparse tables of numbers (an unlisted entry is 0) -/

/-- Entry `a` of a sparse table. -/
def tblGet : List (Nat × Nat) → Nat → Nat
  | [], _ => 0
  | (k, v) :: rest, a => if k = a then v else if a < k then 0 else tblGet rest a

/-- Store entry `a` of a sparse table, keeping the keys rising and no entry equal to 0. -/
def tblPut : List (Nat × Nat) → Nat → Nat → List (Nat × Nat)
  | [], a, x => if x = 0 then [] else [(a, x)]
  | (k, v) :: rest, a, x =>
    if k = a then (if x = 0 then rest else (a, x) :: rest)
    else if a < k then (if x = 0 then (k, v) :: rest else (a, x) :: (k, v) :: rest)
    else (k, v) :: tblPut rest a x

/-! ### Engines -/

/-- One revolution in 2^-48 revolution. -/
def revUnit : Int := 2 ^ 48

/-- The engine of index `n`. -/
def State.eng (s : State) (n : Nat) : Engine := s.engines.getD n Engine.zero

/-- Replace engine `n`. -/
def State.setEng (s : State) (n : Nat) (e : Engine) : State := { s with engines := setAt Engine.zero s.engines n e }

/-- The settings of an engine, read from ANG_CFG, ANG_LOOP and ANG_COAST. -/
structure AngSet where
  ppr : Nat
  tsel : Nat
  rsel : Nat
  refMode : Nat
  gap : Nat
  refReq : Bool
  tblEn : Bool
  kp : Nat
  ks : Nat
  tol : Nat
  acqEdges : Nat
  coastGap : Nat
  relockEdges : Nat
  learnLog2 : Nat
  coastRevs : Nat
  altEn : Bool
  altTsel : Nat
  half : Nat
deriving DecidableEq, Repr

/-- The settings in force of engine `n`. -/
def State.angSet (s : State) (n : Nat) : AngSet where
  ppr := max 1 (s.fget F.ANG_CFG_PPR n)
  tsel := s.fget F.ANG_CFG_TSEL n
  rsel := s.fget F.ANG_CFG_RSEL n
  refMode := s.fget F.ANG_CFG_REF_MODE n
  gap := if s.fget F.ANG_CFG_REF_MODE n = 2 then s.fget F.ANG_CFG_GAP_TEETH n else 0
  refReq := s.flag F.ANG_CFG_REF_REQ n
  tblEn := s.flag F.ANG_CFG_TBL_EN n
  kp := s.fget F.ANG_LOOP_KP_SHIFT n
  ks := s.fget F.ANG_LOOP_KS_SHIFT n
  tol := s.fget F.ANG_LOOP_ACQ_TOL n
  acqEdges := s.fget F.ANG_LOOP_ACQ_EDGES n
  coastGap := s.fget F.ANG_LOOP_COAST_GAP n
  relockEdges := s.fget F.ANG_LOOP_RELOCK_EDGES n
  learnLog2 := s.fget F.ANG_LOOP_LEARN_LOG2 n
  coastRevs := s.fget F.ANG_COAST_COAST_REVS n
  altEn := s.flag F.ANG_COAST_ALT_EN n
  altTsel := s.fget F.ANG_COAST_ALT_TSEL n
  half := s.fget F.ANG_STATUS_TBL_HALF n

/-- Teeth that the wheel carries: in GAP mode GAP_TEETH positions are missing (R49). -/
def AngSet.teeth (c : AngSet) : Nat := c.ppr - c.gap

/-- Index of the tooth after tooth `k`, whether it begins a new revolution, and the missing teeth crossed. -/
def AngSet.after (c : AngSet) (k : Nat) : Nat × Int × Nat :=
  if k + 1 < c.teeth then (k + 1, 0, 0) else (0, 1, c.gap)

/-- Deviation of tooth `k` in 2^-16 pitch for an edge stamped `t` (R51, R53); 0 when the table is not in use. -/
def Engine.dev (e : Engine) (c : AngSet) (k : Nat) (t : Int) : Int :=
  if !c.tblEn || 1024 < c.ppr then 0
  else
    let h := if (e.swapTick : Int) ≤ t then c.half else 1 - c.half
    signed 16 (tblGet e.table (1024 * h + k))

/-- Angle at which tooth `k` lies above `base`. -/
def AngSet.toothAt (c : AngSet) (base : Int) (k : Nat) (dev : Int) : Int :=
  base + ((((k : Int) * 65536 + dev) * 2 ^ 32) / (c.ppr : Int))

/-- The angle the loop expects at tick `t` (R41 pred, R42 est). -/
def Engine.pred (e : Engine) (t : Int) : Int := e.theta + (e.speed * (t - e.tTheta)) / 2 ^ 16

/-- The interval `i` is recognised as a tooth gap after interval `p` (R49): the tolerance is taken of E. -/
def AngSet.isGap (c : AngSet) (p : Option Int) (i : Int) : Bool :=
  match p with
  | none => false
  | some p =>
    let x := ((c.gap : Int) + 1) * p
    c.gap != 0 && decide (16 * (i - x).natAbs ≤ c.tol * x.natAbs)

/-- What an edge tells the status register: a reference was seen, a mismatch, a discontinuity. -/
structure AngNote where
  ref : Bool
  mismatch : Bool
  discont : Bool
deriving DecidableEq, Repr

/-- Nothing to tell. -/
def AngNote.none : AngNote := ⟨false, false, false⟩

/-- Both notes together. -/
def AngNote.or (a b : AngNote) : AngNote := ⟨a.ref || b.ref, a.mismatch || b.mismatch, a.discont || b.discont⟩

/-- An engine that has just entered ACQUIRING with start angle `a` (R45). -/
def Engine.acquire (e : Engine) (a : Int) (jumped : Bool) : Engine :=
  { e with start := a, jumped := jumped, acqLast := none, prevInt := none, tests := 0, acqCount := 0, acqRef := false,
           acqK := 0, acqRev := 0, refPending := false, relock := 0, speed := 0, angle := a }

/-- A tooth edge counted in ACQUIRING (R44, R45, R49). The pitch by which SPEED follows is the nominal one, 1 / PPR: R46 and R47 do
not say that the tooth table applies to it (DESIGN CHOICE, log entry 93). A gap interval is divided by GAP_TEETH + 1 to whole ticks,
rounding down, before the next interval is tested against it: R44 gives no rounding (DESIGN CHOICE, log entry 111). A second
reference begins the next revolution: R45 speaks of one (DESIGN CHOICE, log entry 112). -/
def Engine.acqEdge (e : Engine) (c : AngSet) (t : Int) : Engine × AngNote :=
  let gapSeen := match e.acqLast with
    | some l => c.isGap e.prevInt (t - l)
    | none => false
  let e1 := match e.acqLast with
    | none => e
    | some l =>
      let i := t - l
      let lp : Int := if gapSeen then (c.gap : Int) + 1 else 1
      let tests := match e.prevInt with
        | none => e.tests
        | some p =>
          if gapSeen then e.tests
          else if 16 * (i - p).natAbs ≤ c.tol * p.natAbs then e.tests + 1 else 0
      { e with tests := tests, prevInt := some (i / lp), speed := (lp * 2 ^ 64) / ((c.ppr : Int) * i) }
  let e2 := { e1 with acqLast := some t, acqCount := e1.acqCount + 1 }
  if gapSeen || e2.refPending then
    ({ e2 with refPending := false, acqRev := if e2.acqRef then e2.acqRev + 1 else e2.acqRev, acqRef := true, acqK := 0 },
     ⟨gapSeen, false, false⟩)
  else if e2.acqRef then
    let (k, w, _) := c.after e2.acqK
    ({ e2 with acqK := k, acqRev := e2.acqRev + w }, AngNote.none)
  else (e2, AngNote.none)

/-- Entry to TRACKING (R45, R46). When a reference has been seen and no tooth edge since, the last edge is the tooth before
tooth 0 of the revolution floor(start) + 1, so that the next one lies there. -/
def Engine.enterTracking (e : Engine) (c : AngSet) : Engine :=
  let t := e.acqLast.getD e.tPrev
  let seen := e.acqRef || e.refPending
  let k := if e.acqRef then e.acqK else if e.refPending then c.teeth - 1 else (e.acqCount - 1) % (max 1 c.teeth)
  let rev : Int := e.start / revUnit + (if e.acqRef then 1 + e.acqRev else 0)
  let a : Int :=
    if seen then c.toothAt (rev * revUnit) k 0 else e.start + ((e.acqCount : Int) * revUnit) / (c.ppr : Int)
  let base : Int := if seen then rev * revUnit else a - ((k : Int) * revUnit) / (c.ppr : Int)
  { e with theta := a, lastEdge := a, tTheta := t, tPrev := t, k := k, base := base, devPrev := e.dev c k t,
           seamRev := (max e.angle a) / revUnit, noRef := !seen, relock := 0 }

/-- A tooth edge counted in TRACKING (R41, R50). A realignment skips the number of a boundary that its jump crosses (R57); the seam of
one that the angle had passed before it stays due (R56). -/
def Engine.trackEdge (e : Engine) (c : AngSet) (t : Int) : Engine × AngNote :=
  let i := t - e.tPrev
  let gapSeen := c.isGap e.prevInt i
  let (k1, w, ga1) := c.after e.k
  let pred := e.pred t
  let isRef := e.refPending || gapSeen
  let b0 := ((pred + revUnit / 2) / revUnit) * revUnit
  let ga : Nat := if isRef && k1 != 0 then (if gapSeen then c.gap else 0) else ga1
  let far := decide (revUnit < 2 * (c.ppr : Int) * ((pred - b0).natAbs : Int))
  if isRef && (e.noRef || far) then
    ({ e with refPending := false, noRef := false, theta := b0, lastEdge := b0, tTheta := t, tPrev := t, k := 0, base := b0,
              devPrev := e.dev c 0 t, prevInt := some (i / ((ga : Int) + 1)),
              seamRev := if pred < b0 then max e.seamRev (b0 / revUnit) else e.seamRev },
     ⟨gapSeen, !e.noRef, true⟩)
  else
    let k := if isRef then 0 else k1
    let base := if isRef then b0 else e.base + w * revUnit
    let dev := e.dev c k t
    let meas := c.toothAt base k dev
    let pitch := ((65536 * (1 + (ga : Int)) + dev - e.devPrev) * 2 ^ 32) / (c.ppr : Int)
    let speed := if i ≤ 0 then e.speed else e.speed + ((pitch * 2 ^ 16) / i - e.speed) / 2 ^ c.ks
    let theta := pred + (meas - pred) / 2 ^ c.kp
    ({ e with refPending := false, theta := theta, lastEdge := theta, speed := speed, tTheta := t, tPrev := t, k := k,
              base := base, devPrev := dev, prevInt := some (i / ((ga : Int) + 1)) },
     ⟨gapSeen, false, false⟩)

/-- A tooth edge counted in COASTING (R43, R48): within a quarter pitch of the tooth that the coasted angle predicts it
counts towards relocking; the tooth found and the interval before it are kept for the return to TRACKING. The limit of COAST_REVS is
counted from the last edge accepted in TRACKING, also after edges in COASTING: R43 does not say which edge is meant (DESIGN CHOICE,
log entry 113). -/
def Engine.coastEdge (e : Engine) (c : AngSet) (t : Int) : Engine :=
  let est := e.pred t
  let x := ((est - e.base) * (c.ppr : Int) + revUnit / 2) / revUnit
  let r := x / (c.ppr : Int)
  let k := (x % (c.ppr : Int)).toNat
  let b := e.base + r * revUnit
  let dev := e.dev c k t
  let ok := k < c.teeth && decide (4 * (c.ppr : Int) * ((est - c.toothAt b k dev).natAbs : Int) ≤ revUnit)
  let teeth : Int := if ok && k == 0 then (c.gap : Int) + 1 else 1
  let e := { e with acqLast := some t, prevInt := e.acqLast.map (fun l => (t - l) / teeth) }
  if ok then { e with relock := e.relock + 1, acqK := k, acqRev := b } else { e with relock := 0 }

/-- Return from COASTING to TRACKING at the last edge that relocked (R43). The angle and the speed stay those of coasting
and R41 goes on from that tooth; a gap may be recognised after the last interval (R49). -/
def Engine.relocked (e : Engine) (c : AngSet) : Engine :=
  let t := e.acqLast.getD e.tPrev
  let p := e.pred t
  { e with theta := p, lastEdge := p, tTheta := t, tPrev := t, k := e.acqK, base := e.acqRev,
           devPrev := e.dev c e.acqK t, relock := 0, refPending := false }

/-- The edges of an engine: reference edges before tooth edges of one stamp, in stamp order. An input that is the reference and,
while ALT_ACTIVE is 1, the tooth input gives tooth edges only: R48 and R49 do not say what its edges are (DESIGN CHOICE, log entry
114). -/
def AngSet.edgesOf (c : AngSet) (tooth : Nat) (edges : List (Nat × Nat)) : List (Bool × Nat) :=
  (edges.filterMap (fun x =>
      if c.refMode = 1 && x.1 = c.rsel && x.1 != tooth then some (true, x.2)
      else if x.1 = tooth then some (false, x.2) else none)).mergeSort (fun a b =>
        a.2 < b.2 || (a.2 = b.2 && (a.1 || !b.1)))

/-- Record the edge of tooth `k` of a learning run and close a revolution at tooth 0 (R52): the deviation of each tooth
against the mean speed of the revolution, in 2^-16 pitch, is added to the sums. -/
def Engine.learnEdge (e : Engine) (c : AngSet) (k : Nat) (t : Int) : Engine :=
  if 2 ^ c.learnLog2 ≤ e.learnRevs then e
  else if k != 0 then { e with learnTimes := e.learnTimes ++ [(k, t)] }
  else
    match e.learnTimes with
    | (0, t0) :: _ =>
      let dt := t - t0
      let add (sums : List (Nat × Int)) (x : Nat × Int) : List (Nat × Int) :=
        let d := if dt ≤ 0 then 0 else ((x.2 - t0) * (c.ppr : Int) * 65536) / dt - (x.1 : Int) * 65536
        match sums.find? (fun y => y.1 == x.1) with
        | some _ => sums.map (fun y => if y.1 == x.1 then (y.1, y.2 + d) else y)
        | none => sums ++ [(x.1, d)]
      { e with learnSums := e.learnTimes.foldl add e.learnSums, learnRevs := e.learnRevs + 1, learnTimes := [(0, t)] }
    | _ => { e with learnTimes := [(0, t)] }

/-- One edge processed in the state that governs (R40): 1 ACQUIRING, 2 TRACKING, 3 COASTING; in STOPPED and LOST an edge
only wakes the engine. -/
def Engine.edge (e : Engine) (c : AngSet) (state : Nat) (learning : Bool) (x : Bool × Nat) : Engine × AngNote :=
  let t : Int := x.2
  if state = 1 then
    if x.1 then ({ e with refPending := true }, ⟨true, false, false⟩) else e.acqEdge c t
  else if state = 2 then
    if x.1 then ({ e with refPending := true }, ⟨true, false, false⟩)
    else
      let (e1, nt) := e.trackEdge c t
      (if learning then e1.learnEdge c e1.k t else e1, nt)
  else if state = 3 then (if x.1 then e else e.coastEdge c t, AngNote.none)
  else (if x.1 then e else { e with acqLast := some t }, AngNote.none)

/-- All edges counted into angle(n). -/
def Engine.edges (e : Engine) (c : AngSet) (state : Nat) (learning : Bool) (xs : List (Bool × Nat)) : Engine × AngNote :=
  xs.foldl (fun acc x => let (e1, nt) := acc.1.edge c state learning x; (e1, acc.2.or nt)) (e, AngNote.none)

/-- More than COAST_GAP expected intervals have passed at tick `t` since the last accepted edge: the expected interval is the
pitch to the next tooth, as R41 defines it, divided by the speed (R43). -/
def Engine.gapPassed (e : Engine) (c : AngSet) (t : Int) : Bool :=
  let (k, _, ga) := c.after e.k
  let pitch := 65536 * (1 + (ga : Int)) + e.dev c k t - e.devPrev
  decide ((c.coastGap : Int) * (pitch * 2 ^ 48) < e.speed * (t - e.tPrev) * (c.ppr : Int))

/-- The published angle registers of engine `n` at an epoch edge of number `num`. -/
def State.publishAngle (s : State) (n : Nat) (e : Engine) (state num : Nat) : State :=
  let a := (e.angle % (2 ^ 128 : Nat)).toNat
  let s := s.set64 .ANG_POS_LO .ANG_POS_HI n ((a / 2 ^ 16) % 2 ^ 64)
  let s := s.setReg .ANG_WRAP n (BitVec.ofNat 32 (a / 2 ^ 80))
  let spd := if state = 0 ∨ state = 4 then 0 else (e.speed / 2 ^ 16 % (2 ^ 32 : Nat)).toNat
  let s := s.setReg .ANG_SPEED n (BitVec.ofNat 32 spd)
  s.set64 .ANG_EPOCH_LO .ANG_EPOCH_HI n num

/-- Set a bit of ANG_STATUS with the fault interrupt of its page (PAGE_IRQ bit 4j + 2). -/
def State.angFault (s : State) (n : Nat) (f : Fld) : State :=
  (s.fsetB f n true).irq (0x10 + n / 4) (4 * (n % 4) + 2)

/-- Fire comparator `k` of engine `n` (R54, R55). -/
def State.cmpFire (s : State) (n k : Nat) (several : Bool) : State :=
  let m := 8 * n + k
  let s := s.fsetB F.CMP_CTRL_FIRED m true
  let s := if several then (s.fsetB F.CMP_CTRL_OVF m true).angFault n F.ANG_STATUS_CMP_OVF else s
  (s.irq (0x10 + n / 4) (4 * (n % 4) + 1)).pulse (0x030 + m)

/-- Evaluate comparator `k` of engine `n` at angle `a`, the extended angle in 2^-32 revolution; `prev` is the angle at the
epoch before (R54, R55). ABS and STEP compare plain unsigned 64-bit values, so that a STEP target that passes 2^64 lies behind
the angle again: the spec does not say how the comparison wraps (DESIGN CHOICE, log entry 96). -/
def State.cmpEval (s : State) (n k : Nat) (prev a : Int) : State :=
  let m := 8 * n + k
  let mode := s.fget F.CMP_CTRL_MODE m
  let tgt : Int := s.get64 .CMP_TGT_LO .CMP_TGT_HI m
  let a64 : Int := a % (2 ^ 64 : Nat)
  if mode = 1 then
    if tgt ≤ a64 then (s.cmpFire n k false).fset F.CMP_CTRL_MODE m 0 else s
  else if mode = 2 then
    let f : Int := (s.reg .CMP_TGT_LO m).toNat
    let passed := (a - f) / (2 ^ 32 : Nat) - (prev - f) / (2 ^ 32 : Nat)
    if 0 < passed then s.cmpFire n k (decide (1 < passed)) else s
  else if mode = 3 then
    let st : Int := (s.reg .CMP_STEP m).toNat
    if tgt ≤ a64 ∧ 0 < st then
      let steps := (a64 - tgt) / st + 1
      let s := s.set64 .CMP_TGT_LO .CMP_TGT_HI m ((tgt + steps * st) % (2 ^ 64 : Nat)).toNat
      s.cmpFire n k (decide (1 < steps))
    else s
  else s

/-! ### Seams -/

/-- SEAM generator `n` can raise seams (R58). -/
def State.seamOn (s : State) (n : Nat) : Bool := s.pageEn 0x0C && s.flag F.SEAM_CFG_EN n

/-- Record a seam of generator `g` with its number on the epoch edge `num`, and raise its event (R56, R58). The list of
seams that fall on this edge is kept in `seams`. -/
def State.raiseSeam (s : State) (g number num : Nat) : State :=
  if !s.seamOn g then s
  else
    let s := s.set64 .SEAM_NUM_LO .SEAM_NUM_HI g number
    let s := s.set64 .SEAM_EPOCH_LO .SEAM_EPOCH_HI g num
    let s := { s with seams := s.seams ++ [g] }
    if s.flag F.SEAM_CFG_EVT_EN g then s.pulse g else s

/-- A seam of a counting generator SG41–SG45, whose number is `k` above that of its last since D_ACQ powered on (R56, R64); the
count does not advance while R58 keeps the generator from raising it. -/
def State.countSeam (s : State) (g k num : Nat) : State :=
  if !s.seamOn g then s
  else
    let number := s.epoch.seamCounts.getD (g - 41) 0 + k
    { s with epoch := { s.epoch with seamCounts := setAt 0 s.epoch.seamCounts (g - 41) number } }.raiseSeam g number num

/-- A request for a soft seam (R59). -/
def State.softSeamRequest (s : State) : State :=
  if s.flag F.SEAM_SOFT_FIRE then (s.fsetB F.SEAM_STATUS_SOFT_MERGED 0 true).irq 0x0C 0
  else { s.fsetB F.SEAM_SOFT_FIRE 0 true with epoch := { s.epoch with softReq := some s.now } }

/-- Swap the tooth-table halves of engine `n` at its revolution seam if a swap is requested (R53). The seam is the engine's own
boundary, also while R58 keeps its generator from raising it: R53 does not say (DESIGN CHOICE, log entry 95). -/
def State.toothSwap (s : State) (n : Nat) : State :=
  if !s.flag F.ANG_TBL_CTRL_SWAP n then s
  else if s.flag F.ANG_STATUS_LEARN_BUSY n then s.faddSat F.ANG_STATUS_TBL_DEFER n 1
  else
    let e := s.eng n
    let s := s.fset F.ANG_STATUS_TBL_HALF n (1 - s.fget F.ANG_STATUS_TBL_HALF n)
    let s := s.fsetB F.ANG_TBL_CTRL_SWAP n false
    let s := s.setEng n { e with swapTick := s.now, learnSwap := false }
    if e.learnSwap then s.irq (0x10 + n / 4) (4 * (n % 4) + 3) else s

/-- BUSY of ANG page `p`: a LOAD or a learning run is pending in it. -/
def State.angBusy (s : State) (p : Nat) : State :=
  s.setBusy (0x10 + p) ((List.range 4).any (fun j =>
    s.flag F.ANG_CTRL_LOAD (4 * p + j) || s.flag F.ANG_STATUS_LEARN_BUSY (4 * p + j)))

/-- The next state of engine `n` decided at an epoch edge (R43); the rows of the table in order. `edge` says that a tooth
edge was counted into angle(n). -/
def State.angNext (s : State) (n : Nat) (e : Engine) (c : AngSet) (state : Nat) (edge : Bool) (t : Int) : Nat :=
  if !(s.pageEn (0x10 + n / 4) && s.flag F.ANG_CTRL_EN n) then 0
  else if (state = 2 ∨ state = 3) ∧ e.reacq then 1
  else if state = 0 then (if edge then 1 else 0)
  else if state = 1 then
    if c.acqEdges ≤ e.tests ∧ (s.flag F.ANG_STATUS_REF_SEEN n ∨ !c.refReq) then 2 else 1
  else if state = 2 then
    if e.gapPassed c t then (if 0 < c.coastRevs then 3 else 4) else 2
  else if state = 3 then
    if c.relockEdges ≤ e.relock then 2
    else if e.lastEdge + (c.coastRevs : Int) * revUnit ≤ e.angle then 4 else 3
  else (if edge then 1 else 4)

/-- The change of engine `n` from state `a` to state `b` (R43, R45–R48, R52). ANG_STATUS.STATE shows `b` from this edge on, although
`b` governs from the next epoch (log entry 97). The tooth edges of the epoch that wakes an engine count as one edge of
ACQUIRING (log entry 94); a REACQ has its effect in TRACKING and COASTING alone (R43, log entry 126, DESIGN CHOICE). -/
def State.angEnter (s : State) (n : Nat) (c : AngSet) (a b : Nat) : State :=
  let e := s.eng n
  if a = b then s.setEng n { e with reacq := false }
  else
    let s := s.fset F.ANG_STATUS_STATE n b
    let s := if s.flag F.ANG_STATUS_LEARN_BUSY n && b != 2 then
        (s.fsetB F.ANG_STATUS_LEARN_BUSY n false).angFault n F.ANG_STATUS_LEARN_ABORT
      else s
    let preset : Int := (s.get64 .ANG_PRESET_LO .ANG_PRESET_HI n : Int) * 2 ^ 16
    let wrapped : Int := ((e.angle / 2 ^ 80) * 2 ^ 80) + preset
    let s :=
      if b = 1 then
        let last := e.acqLast
        let e1 := e.acquire (if a = 0 then wrapped else e.angle) (a != 0)
        let e2 := if a = 2 ∨ a = 3 then e1 else { e1 with acqLast := last, acqCount := 1 }
        let s := s.fsetB F.ANG_STATUS_REF_SEEN n false
        let s := if e.reacq then s.fsetB F.ANG_STATUS_ALT_ACTIVE n false else s
        s.setEng n e2
      else if b = 2 then
        if a = 1 then
          let s := if e.jumped then s.fsetB F.ANG_STATUS_DISCONT n true else s
          s.setEng n (e.enterTracking c)
        else s.setEng n (e.relocked c)
      else if b = 3 then
        let s := if c.altEn then s.fsetB F.ANG_STATUS_ALT_ACTIVE n true else s
        s.setEng n { e with relock := 0, refPending := false, acqLast := none, prevInt := none }
      else if b = 4 then s.setEng n { e with speed := 0, acqLast := none }
      else s.setEng n { e with acqLast := none }
    let s := s.setEng n { s.eng n with reacq := false }
    s.irq (0x10 + n / 4) (4 * (n % 4))

/-- A pending LOAD of engine `n`, decided at the epoch edge in governing state `state` (R62): an accepted one gives the angle and
the start angle before the change of state takes them up, so that the preset holds from the next epoch on. -/
def State.angLoad (s : State) (n state : Nat) : State :=
  if !s.flag F.ANG_CTRL_LOAD n then s
  else
    let s := s.fsetB F.ANG_CTRL_LOAD n false
    if state = 2 ∨ state = 3 then s.angFault n F.ANG_STATUS_LOAD_REFUSED
    else
      let a : Int := (s.get64 .ANG_PRESET_LO .ANG_PRESET_HI n : Int) * 2 ^ 16
      let e := s.eng n
      s.setEng n { e with angle := a, start := a, seamRev := a / revUnit }

/-- Engine `n` at the epoch edge `num` at tick `t` (R39–R62): the edges stamped at least 64 ticks before it are counted in
the state that governs, the angle is published, the revolution seam and the comparators follow, and the state change and
the preset load are decided. -/
def State.angStep (s : State) (t num n : Nat) (edges : List (Nat × Nat)) : State :=
  let state := s.fget F.ANG_STATUS_STATE n
  let idle := state = 0 && !s.flag F.ANG_CTRL_EN n && !s.flag F.ANG_CTRL_LOAD n
  if idle then s.publishAngle n (s.eng n) state num
  else
    let c := s.angSet n
    let tooth := if s.flag F.ANG_STATUS_ALT_ACTIVE n then c.altTsel else c.tsel
    let xs := c.edgesOf tooth edges
    let e0 := s.eng n
    let (e1, note) := e0.edges c state (s.flag F.ANG_STATUS_LEARN_BUSY n) xs
    let a1 := if state = 2 ∨ state = 3 then max e1.angle (e1.pred t) else e1.angle
    let e2 := { e1 with angle := a1 }
    let s := s.setEng n e2
    let s := if note.ref then s.fsetB F.ANG_STATUS_REF_SEEN n true else s
    let s := if note.mismatch then s.angFault n F.ANG_STATUS_REF_MISMATCH else s
    let s := if note.discont then s.fsetB F.ANG_STATUS_DISCONT n true else s
    let s := s.publishAngle n e2 state num
    let live := state = 2 || state = 3
    let rev := a1 / revUnit
    let s :=
      if live && decide (e2.seamRev < rev) then
        let s := s.setEng n { e2 with seamRev := rev }
        (s.raiseSeam n (rev % (2 ^ 64 : Nat)).toNat num).toothSwap n
      else s
    let s := if live then forEach (List.range 8) (fun k s => s.cmpEval n k (e0.angle / 2 ^ 16) (a1 / 2 ^ 16)) s else s
    let edge := xs.any (fun x => !x.1)
    let c := { c with half := s.fget F.ANG_STATUS_TBL_HALF n }
    let nxt := s.angNext n (s.eng n) c state edge t
    ((s.angLoad n state).angEnter n c state nxt).angBusy (n / 4)

/-! ### Tach inputs -/

/-- How many of the ticks from `a` to `b` the gates of the AIN page took, during which the timer stood (R324). -/
def Epoch.gated (e : Epoch) (a b : Nat) : Nat :=
  let all := match e.heldAt with
    | some h => (h, b) :: e.gates
    | none => e.gates
  all.foldl (fun n x => n + (min b x.2 - max a x.1)) 0

/-- The stamp of tick `t` (R38): the epoch in which it fell and the ticks that the timer had counted from its edge, at most one
less than the DIV of that epoch, also in the ticks by which R80 has lengthened it (DESIGN CHOICE, log entry 116); or the number of the
last edge before it and 0xFFFF when no epoch of the run had begun. -/
def State.stampOf (s : State) (t : Nat) : Nat × Nat :=
  let e := s.epoch
  let i := e.edges.findIdx (fun x => x.2 ≤ t)
  let last := e.edges.getD i (0, 0)
  if !e.running then ((e.edges.headD (0, 0)).1, 0xFFFF)
  else if t < e.first then (last.1, 0xFFFF)
  else (last.1, min (t - last.2 - e.gated last.2 t) (e.divs.getD i 250 - 1))

/-- The clock of the tach filters returns: they take the pins' levels without an edge (R36). -/
def State.tachThaw (s : State) : State :=
  let s := { s with tach := s.tach.map (fun (x : Tach) => { x with since := none }) }
  forEach (List.range 32) (fun n s =>
    s.fsetBit F.TACH_LEVEL_LEVEL 0 n (s.tach.getD n ⟨false, none, none, 0⟩).pin) s

/-- The filter of input `n` accepts a new level whose first tick is `t` (R36–R38). -/
def State.tachAccept (s : State) (n t : Nat) (level : Bool) : State :=
  let old := s.fbit F.TACH_LEVEL_LEVEL 0 n
  if old = level then s
  else
    let s := s.fsetBit F.TACH_LEVEL_LEVEL 0 n level
    let active := level != s.flag F.TACH_CFG_POL n
    if !(active && s.flag F.TACH_CFG_EN n && s.pageEn 0x18) then s
    else
      let tc := s.tach.getD n ⟨false, none, none, 0⟩
      let close := match tc.last with
        | some l => decide (t < l + 24)
        | none => false
      if close then (s.fsetBit F.TACH_OVR_OVR 0 n true).irq 0x18 0
      else
        let (num, ofs) := s.stampOf t
        let s := { s with tach := setAt ⟨false, none, none, 0⟩ s.tach n { tc with last := some t } }
        let s := s.set64 .TACH_STAMP_LO .TACH_STAMP_HI n ((num % 2 ^ 48) * 2 ^ 16 + ofs)
        let s := s.fadd F.TACH_COUNT_COUNT n 1
        let s := if ofs = 0xFFFF then s
          else { s with epoch := { s.epoch with tachEdges := s.epoch.tachEdges ++ [(n, t)] } }
        s.pulse (0x130 + n)

end Sys2Proof.Machine
end

