-- ==== Sys2Proof/Config.lean ====
section
/-!
DEFINITION. What the spec leaves open and the model leaves free: constants without a body. Nothing can be proved of their
values, so a statement about the machine holds whatever they are.
-/

namespace Sys2Proof.Config

/-- Taps of the symmetric 19-tap half-band stages of the decimation chain (R122), in 2^-40: tap at distance 2i + 1 from the centre
for i = 0–3. The spec gives the response and not the coefficients (log entry 20). -/
opaque halfTap : Fin 4 → Int

/-- Taps of the symmetric 95-tap stage of the decimation chain (R122), in 2^-40: tap at distance i + 1 from the centre, for
i = 0–46 (log entry 20). -/
opaque lastTap : Fin 47 → Int

/-- Bank and row (24 bits, R457) of a byte offset in a pseudo-channel of HBM: the spec does not place them (log
entry 21). -/
opaque hbmBankRow : Nat → Nat

/-- Whether the post-package repair of an HBM row fails, by the target of its entry and the repairs that the stack has made: the
spec gives no number of spare rows (log entry 123). -/
opaque pprFails (target used : Nat) : Bool

/-- The candidate for RCP of a word: any result within one unit in the last place is allowed (log entry 22). -/
opaque rcp : Word → Word

/-- The candidate for RSQRT of a word (log entry 22). -/
opaque rsqrt : Word → Word

/-- Whether MIN (0) and MAX (1) of two single-precision words answer the first of them, when one is a NaN or both are zeros of
different sign (log entry 23). -/
opaque fpPick : Nat → Word → Word → Bool

/-- How a complex product (0 CMUL, 1 CMAC, 2 CMAG2) rounds on its way (log entry 24). -/
opaque complexOrder : Nat → Nat

/-- Which of the lanes that scatter to one word writes last, of `n` (log entry 25). -/
opaque scatterLast : Nat → Nat

/-- What word `i` of the vector registers of engine `w` holds after its `k`-th power-up from SPARE (log entry 26). -/
opaque vregPowered (w k i : Nat) : Word

/-- Which form of shift register has the feedback polynomial of R380: 0 and 1 take the exclusive or of the taps into one end
(shifting right, shifting left), 2 and 3 spread the bit that leaves over the taps (log entry 27). -/
opaque lfsrForm : Fin 4

/-- Byte `i` of the signature of the `k`-th attestation report: the identity key and the salt are not given (log
entry 28). -/
opaque attestByte (k i : Nat) : Byte

/-- How a HELLO reply of mend mode lays out DEVID, lifecycle, rollback count, ROM version, BK0–BK7 and the two VERIFY
results: the widths are not given (log entry 29). -/
opaque mendHello : List Nat → List Byte

/-- What CORE_PC of core `x` reads at the `k`-th reading while the core is not STOPPED: it is not defined (log entry 30). -/
opaque runningPc (x k : Nat) : Word

/-- The levels of SCL (bit 0) and SDA (bit 1) of identity bus `b` at the `k`-th reading: the pins are driven from outside
(log entry 31). -/
opaque idbLevel (b k : Nat) : BitVec 2

/-- Which of the DETAIL codes that apply to one illegal instruction is recorded: their order is not given (log entry 32). -/
opaque detailPick : List Nat → Nat

/-- SOURCE in FAB_ERR_INFO of a bus error met by the block of page `p`, for a block to which the table of R32 gives no code (log
entry 91). -/
opaque blockSource (p : Nat) : BitVec 4

/-- The byte that a block takes for the one at `a` when it reads an SRAM whose domain is off or stopped: the read fails, and no
data is stated (log entry 92). -/
opaque deadByte (a : Nat) : Byte

end Sys2Proof.Config
end

