-- ==== Sys2Proof/Machine/Fp32.lean ====
section
/-!
DEFINITION. Single-precision numbers: exact values, rounding to nearest even, and the operations that the engines use.
-/

namespace Sys2Proof.Machine

/-- What a single-precision word holds: a NaN, an infinity, or a number (-1)^s × m × 2^e. -/
inductive Fp where
  | nan
  | inf (neg : Bool)
  | num (neg : Bool) (m : Nat) (e : Int)
deriving DecidableEq, Repr

/-- Number of bits of `m`. -/
def bitLen (m : Nat) : Nat := if m = 0 then 0 else Nat.log2 m + 1

/-- The quiet NaN 0x7FC0_0000. -/
def fpQNaN : Word := 0x7FC00000#32

/-- Read a word as a number; a subnormal keeps its value. -/
def fpDecode (w : Word) : Fp :=
  let x := w.toNat
  let neg := decide (x / 2 ^ 31 = 1)
  let ex : Nat := (x / 2 ^ 23) % 256
  let fr : Nat := x % 2 ^ 23
  if ex = 255 then (if fr = 0 then .inf neg else .nan)
  else if ex = 0 then .num neg fr (-149)
  else .num neg (2 ^ 23 + fr) ((ex : Int) - 150)

/-- Word of sign, biased exponent and fraction. -/
def fpWord (neg : Bool) (ex fr : Nat) : Word :=
  BitVec.ofNat 32 ((if neg then 2 ^ 31 else 0) + ex * 2 ^ 23 + fr)

/-- `m / 2 ^ k` rounded to nearest, ties to even. -/
def roundEven (m k : Nat) : Nat :=
  let q := m >>> k
  let r := m % 2 ^ k
  let h := 2 ^ k
  if 2 * r > h ∨ (2 * r = h ∧ q % 2 = 1) then q + 1 else q

/-- (-1)^s × m × 2^e rounded to nearest even. A result below the least normal number becomes a zero of its sign, and the
second component says so. -/
def fpRoundF (neg : Bool) (m : Nat) (e : Int) : Word × Bool :=
  if m = 0 then (fpWord neg 0 0, false)
  else
    let len : Nat := bitLen m
    -- the 24-bit significand and its exponent
    let (sig, ex) : Nat × Int :=
      if len ≤ 24 then (m <<< (24 - len), e - (24 - len : Nat))
      else
        let k := len - 24
        let r := roundEven m k
        if r = 2 ^ 24 then (2 ^ 23, e + (k : Int) + 1) else (r, e + (k : Int))
    let bex := ex + 150
    if bex ≥ 255 then (fpWord neg 255 0, false)
    else if bex ≤ 0 then (fpWord neg 0 0, true)
    else (fpWord neg bex.toNat (sig - 2 ^ 23), false)

/-- As `fpRoundF`, the word alone. -/
def fpRound (neg : Bool) (m : Nat) (e : Int) : Word := (fpRoundF neg m e).1

/-- The single-precision number `x × 2^e`. -/
def fpOfInt (x : Int) (e : Int) : Word := fpRound (decide (x < 0)) x.natAbs e

/-! ### Operations of the engines (R174, R205)

Each answers its word with flags: bit 0 FLUSH, bit 1 NAN. -/

/-- A result with its flags. -/
abbrev FpOut := Word × Nat

/-- The quiet NaN, with NAN. -/
def fpNaN : FpOut := (fpQNaN, 2)

/-- An infinity. -/
def fpInf (neg : Bool) : FpOut := (fpWord neg 255 0, 0)

/-- Round a number; a flushed result says so. -/
def fpOut (neg : Bool) (m : Nat) (e : Int) : FpOut :=
  let (w, fl) := fpRoundF neg m e
  (w, if fl then 1 else 0)

/-- An operand: a subnormal is taken as zero of its sign. -/
def fpIn (w : Word) : Fp :=
  match fpDecode w with
  | .num neg m e => if m < 2 ^ 23 then .num neg 0 e else .num neg m e
  | x => x

/-- The signed significand of a finite number at exponent `e0 ≤ e`. -/
def fpAt (neg : Bool) (m : Nat) (e e0 : Int) : Int :=
  let x : Int := (m <<< (e - e0).toNat : Nat)
  if neg then -x else x

/-- The exact sum of two finite numbers: sign (of a zero sum too), magnitude and exponent. -/
def fpSum (an : Bool) (am : Nat) (ae : Int) (bn : Bool) (bm : Nat) (be : Int) : Bool × Nat × Int :=
  if am = 0 && bm = 0 then (an && bn, 0, 0)
  else if am = 0 then (bn, bm, be)
  else if bm = 0 then (an, am, ae)
  else
    let e := min ae be
    let x := fpAt an am ae e + fpAt bn bm be e
    (decide (x < 0), x.natAbs, e)

/-- a + b. -/
def fpAddN (a b : Fp) : FpOut :=
  match a, b with
  | .nan, _ => fpNaN
  | _, .nan => fpNaN
  | .inf x, .inf y => if x = y then fpInf x else fpNaN
  | .inf x, _ => fpInf x
  | _, .inf y => fpInf y
  | .num an am ae, .num bn bm be => let (n, m, e) := fpSum an am ae bn bm be; fpOut n m e

/-- The number with its sign changed. -/
def Fp.neg : Fp → Fp
  | .nan => .nan
  | .inf n => .inf (!n)
  | .num n m e => .num (!n) m e

/-- The exact product. -/
def fpProd (a b : Fp) : Fp :=
  match a, b with
  | .nan, _ => .nan
  | _, .nan => .nan
  | .inf x, .inf y => .inf (x != y)
  | .inf x, .num y m _ => if m = 0 then .nan else .inf (x != y)
  | .num x m _, .inf y => if m = 0 then .nan else .inf (x != y)
  | .num x am ae, .num y bm be => .num (x != y) (am * bm) (ae + be)

/-- A number rounded. -/
def fpOfN (a : Fp) : FpOut :=
  match a with
  | .nan => fpNaN
  | .inf n => fpInf n
  | .num n m e => fpOut n m e

/-- a + b. -/
def fpAdd (a b : Word) : FpOut := fpAddN (fpIn a) (fpIn b)

/-- a − b. -/
def fpSub (a b : Word) : FpOut := fpAddN (fpIn a) (fpIn b).neg

/-- a × b. -/
def fpMul (a b : Word) : FpOut := fpOfN (fpProd (fpIn a) (fpIn b))

/-- a × b + c, rounded once. -/
def fpFma (a b c : Word) : FpOut := fpAddN (fpProd (fpIn a) (fpIn b)) (fpIn c)

/-- c − a × b, rounded once. -/
def fpFnma (a b c : Word) : FpOut := fpAddN (fpProd (fpIn a) (fpIn b)).neg (fpIn c)

/-- a, as R174 reads and writes it: a NaN is the quiet NaN, a subnormal a zero of its sign. -/
def fpPass (a : Word) : FpOut := fpOfN (fpIn a)

/-- −a. -/
def fpNeg (a : Word) : FpOut := fpOfN (fpIn a).neg

/-- |a|. -/
def fpAbs (a : Word) : FpOut :=
  match fpIn a with
  | .nan => fpNaN
  | .inf _ => fpInf false
  | .num _ m e => fpOut false m e

/-- a < b for operands that are no NaN. -/
def fpLtN (a b : Fp) : Bool :=
  match a, b with
  | .nan, _ => false
  | _, .nan => false
  | .inf x, .inf y => x && !y
  | .inf x, _ => x
  | _, .inf y => !y
  | .num an am ae, .num bn bm be => let e := min ae be; decide (fpAt an am ae e < fpAt bn bm be e)

/-- a = b; a NaN equals nothing. -/
def fpEqN (a b : Fp) : Bool :=
  match a, b with
  | .nan, _ => false
  | _, .nan => false
  | a, b => !fpLtN a b && !fpLtN b a

/-- MIN (0) or MAX (1): one of the operands, as R174 reads and writes it. -/
def fpMinMax (op : Nat) (a b : Word) : FpOut :=
  let x := fpIn a
  let y := fpIn b
  let zeros : Bool := match x, y with
    | .num n m _, .num n' m' _ => m == 0 && m' == 0 && n != n'
    | _, _ => false
  let first := if x = .nan ∨ y = .nan ∨ zeros then Config.fpPick op a b else fpLtN x y == (op == 0)
  fpOfN (if first then x else y)

/-- FP32 to INT32: to nearest even, saturated, NaN to 0. -/
def fpToInt (a : Word) : Word :=
  match fpIn a with
  | .nan => 0#32
  | .inf n => if n then 0x80000000#32 else 0x7FFFFFFF#32
  | .num n m e =>
    let x : Nat := if 0 ≤ e then (if 40 ≤ e then 2 ^ 40 else m <<< e.toNat) else if e < -40 then 0 else roundEven m (-e).toNat
    if n then (if 2 ^ 31 ≤ x then 0x80000000#32 else BitVec.ofInt 32 (-(x : Int)))
    else if 2 ^ 31 ≤ x then 0x7FFFFFFF#32 else BitVec.ofNat 32 x

/-- INT32 to FP32. -/
def fpOfI32 (a : Word) : FpOut := let x := a.toInt; fpOut (decide (x < 0)) x.natAbs 0

/-- Integer square root below `2 ^ k`. -/
def isqrtBits (x : Nat) : Nat → Nat → Nat
  | 0, r => r
  | k + 1, r => isqrtBits x k (if (r + 2 ^ k) * (r + 2 ^ k) ≤ x then r + 2 ^ k else r)

/-- Correctly rounded square root. -/
def fpSqrt (a : Word) : FpOut :=
  match fpIn a with
  | .nan => fpNaN
  | .inf n => if n then fpNaN else fpInf false
  | .num n m e =>
    if m = 0 then fpOut n 0 0
    else if n then fpNaN
    else
      -- m × 2^e = (m × 2^j) × 2^(e − j) with e − j even
      let j : Nat := if e % 2 = 0 then 40 else 41
      let x := m <<< j
      let r := isqrtBits x 34 0
      -- a sticky bit keeps the rounding exact
      fpOut false (2 * r + (if r * r = x then 0 else 1)) ((e - (j : Int)) / 2 - 1)

/-- a × 2^k ≤ b × 2^l for naturals. -/
def leScaled (a : Nat) (k : Int) (b : Nat) (l : Int) : Bool :=
  let e := min k l
  decide (a <<< (k - e).toNat ≤ b <<< (l - e).toNat)

/-- The result of RCP or RSQRT: the exact value is rounded, unless the candidate lies within a unit in the last place:
`within c u` says so of a candidate significand pair. -/
def fpNear (exact : FpOut) (neg : Bool) (cand : Word) (within : Nat → Int → Bool) : FpOut :=
  match fpDecode cand with
  | .num n m e => if n = neg && 2 ^ 23 ≤ m && within m e then (cand, 0) else exact
  | _ => exact

/-- 1 / a within one unit in the last place. -/
def fpRcp (a : Word) : FpOut :=
  match fpIn a with
  | .nan => fpNaN
  | .inf n => fpOut n 0 0
  | .num n m e =>
    if m = 0 then fpInf n
    else
      let q := 2 ^ 72 / m
      let exact := fpOut n (2 * q + (if q * m = 2 ^ 72 then 0 else 1)) (-73 - e)
      if exact.2 ≠ 0 then exact
      else
        -- 1 / a has 24 bits above exponent u
        let u : Int := (bitLen q : Int) - 24 - 72 - e
        fpNear exact n (Config.rcp a) (fun c ce =>
          -- |c 2^ce − 1/(m 2^e)| ≤ 2^u, multiplied by m 2^e
          let p := c * m
          let pe := ce + e
          let f := min pe (min 0 (u + e))
          let sc (x : Nat) (k : Int) : Int := (x <<< (k - f).toNat : Nat)
          decide ((sc p pe - sc 1 0).natAbs ≤ (sc m (u + e)).natAbs))

/-- 1 / √a within one unit in the last place. -/
def fpRsqrt (a : Word) : FpOut :=
  match fpIn a with
  | .nan => fpNaN
  | .inf n => if n then fpNaN else fpOut false 0 0
  | .num n m e =>
    if m = 0 then fpInf n
    else if n then fpNaN
    else
      let j : Nat := if e % 2 = 0 then 112 else 111
      let q := isqrtBits (2 ^ j / m) 46 0
      let exact := fpOut false (2 * q + (if q * q * m = 2 ^ j then 0 else 1)) (-(((j : Int) + e) / 2) - 1)
      let u : Int := (bitLen q : Int) - 24 - ((j : Int) + e) / 2
      fpNear exact false (Config.rsqrt a) (fun c ce =>
        let f := min ce u
        let ci : Int := (c <<< (ce - f).toNat : Nat)
        let ui : Int := (1 <<< (u - f).toNat : Nat)
        let lo := (max 0 (ci - ui)).toNat
        let hi := (ci + ui).toNat
        leScaled (lo * lo * m) (2 * f + e) 1 0 && leScaled 1 0 (hi * hi * m) (2 * f + e))

/-- A result changed by a further operation keeps the flags of both. -/
def fpThen (a : FpOut) (f : Word → FpOut) : FpOut := let b := f a.1; (b.1, a.2 ||| b.2)

/-- x·y ± z·w with the rounding order `k`: 0 each product, then the sum; 1 and 2 one product fused; else once. -/
def fpTwo (k : Nat) (minus : Bool) (x y z w : Word) : FpOut :=
  let sgn (v : Fp) : Fp := if minus then v.neg else v
  let p := fpProd (fpIn x) (fpIn y)
  let r := sgn (fpProd (fpIn z) (fpIn w))
  if k = 0 then
    let a := fpOfN p
    let b := fpOfN r
    let c := fpAddN (fpIn a.1) (fpIn b.1)
    (c.1, a.2 ||| b.2 ||| c.2)
  else if k = 1 then fpThen (fpOfN r) (fun v => fpAddN p (fpIn v))
  else if k = 2 then fpThen (fpOfN p) (fun v => fpAddN r (fpIn v))
  else fpAddN p r

/-- c + (x·y ± z·w) with the rounding order `k`: below 4 the product of that order, then the sum; 4 and 5 one product
after the other fused into c; else once. -/
def fpTwoAcc (k : Nat) (minus : Bool) (x y z w c : Word) : FpOut :=
  let p := fpProd (fpIn x) (fpIn y)
  let r := if minus then (fpProd (fpIn z) (fpIn w)).neg else fpProd (fpIn z) (fpIn w)
  if k < 4 then fpThen (fpTwo k minus x y z w) (fun v => fpAdd c v)
  else if k = 4 then fpThen (fpAddN p (fpIn c)) (fun v => fpAddN r (fpIn v))
  else if k = 5 then fpThen (fpAddN r (fpIn c)) (fun v => fpAddN p (fpIn v))
  else
    match p, r, fpIn c with
    | .num pn pm pe, .num rn rm re, .num cn cm ce =>
      let (n, m, e) := fpSum pn pm pe rn rm re
      let (n, m, e) := fpSum n m e cn cm ce
      fpOut n m e
    | .nan, _, _ => fpNaN
    | _, .nan, _ => fpNaN
    | p, r, c =>
      match p, r with
      | .inf a, .inf b => if a = b then fpAddN (.inf a) c else fpNaN
      | .inf a, _ => fpAddN (.inf a) c
      | _, .inf b => fpAddN (.inf b) c
      | _, _ => fpOfN c

end Sys2Proof.Machine
end

