-- ==== Sys2Proof/Machine/Ain.lean ====
section
/-!
DEFINITION. The input array, the epoch timer and its alignment to system time, the module positions and the identity
buses (R66–R96, R487).
-/

namespace Sys2Proof.Machine

/-! ### Channels and groups -/

/-- Channel `c` is enabled in AIN_CHEN. -/
def State.chEnabled (s : State) (c : Nat) : Bool := s.fbit F.AIN_CHEN_EN (c / 32) (c % 32)

/-- Number of ones of a word. -/
def popCount (w : Word) : Nat := ((List.range 32).filter (fun i => w.getLsbD i)).length

/-- N of R73: the number of enabled channels. -/
def State.chCount (s : State) : Nat := ((List.range 6).map (fun r => popCount (s.reg .AIN_CHEN r))).foldl (· + ·) 0

/-- Group `g` is powered and ready (R69). -/
def State.grpReady (s : State) (g : Nat) : Bool := s.fbit F.AIN_GRP_PWR_RDY 0 g

/-- R88: channel `c` is bindable: its position VALID, its POP bit 1, its group ready. -/
def State.bindable (s : State) (c : Nat) : Bool :=
  let g := c / 16
  s.fget F.AIN_MOD_STATE_STATE g = 2 && s.fbit F.MOD_ID_POP g (c % 16) && s.grpReady g

/-! ### System time and the grid -/

/-- System time in 1/16 ns at tick `t`: 25/16 ns per tick, corrected by BEACON_RATE in 2^-40, and by an
error that is being removed (R376); the count stands while its page does not run. -/
def State.sysTime16 (s : State) (t : Nat) : Int :=
  let b := s.beacon
  if b.still then b.base16 else
  let dt : Int := (t : Int) - (b.baseTick : Int)
  let slew := b.slew * min (max 0 dt) (max 1 (b.slewLen : Int)) / max 1 (b.slewLen : Int)
  b.base16 + 25 * dt + (25 * dt * s.fgetI F.BEACON_RATE_RATE) / (2 ^ 40 : Nat) + slew

/-- Tick time of the grid of R78, in 1/16 tick, at tick `t`. -/
def State.gridTime16 (s : State) (t : Nat) : Int :=
  (s.sysTime16 t * 16) / 25 - 16 * (s.fget F.AIN_ALIGN_OFS_OFFSET : Int)

/-- DIV in force. -/
def State.epochDiv (s : State) : Nat := max 1 (s.fget F.AIN_EPOCH_DIV_DIV)

/-- Write the alignment state, with its interrupt when it changes. -/
def State.setAlign (s : State) (x : Nat) : State :=
  if s.fget F.AIN_ALIGN_STATUS_STATE = x then s else (s.fset F.AIN_ALIGN_STATUS_STATE 0 x).irq 0x20 2

/-- Place the first edge, or the edge after a resumption, on the first grid point at least 64 ticks ahead whose index
exceeds `above` (R76, R487). While system time lies below OFFSET, where the indices are negative, the edge waits for index 0: the
spec says nothing of a negative index (DESIGN CHOICE, log entry 117). -/
def State.placeOnGrid (s : State) (above : Int) : State :=
  let div16 : Int := 16 * (s.epochDiv : Int)
  let g := s.gridTime16 s.now + 16 * 64
  let i := max ((g + div16 - 1) / div16) (above + 1)
  let ahead := (i * div16 - s.gridTime16 s.now + 15) / 16
  let s := { s with epoch := { s.epoch with next := some (s.now + ahead.toNat), firstNum := some i.toNat } }
  s.setAlign 4

/-- RUN changes from 0 to 1 (R76), or the domain resumes from HELD with RUN at 1 (R487, `resume`). A change 1 to 0 to 1 within one
epoch cuts that epoch short, since R76 places the edge 64 ticks after the write and R77 lets the epoch complete (DESIGN CHOICE,
log entry 98). A resumption before any edge of the run goes on from the last edge of an earlier run, or from 0: R487 names the
number of the last edge and no preset (DESIGN CHOICE, log entry 99). -/
def State.startTimer (s : State) (resume : Bool) : State :=
  let mode := s.fget F.AIN_ALIGN_MODE
  let numset := s.flag F.AIN_ALIGN_NUMSET
  let last := (s.epoch.edges.headD (0, 0)).1
  let s := { s with epoch := { s.epoch with running := false, next := none, firstNum := none, slips := 0, step := 0, acc := 0,
                                            above := if resume then (last : Int) else -1 } }
  if mode = 1 && numset then
    let s := s.setAlign 2
    if s.flag F.BEACON_STATUS_VALID && s.domLive .lnk then
      s.placeOnGrid s.epoch.above
    else s
  else
    let num := if resume then last + 1 else s.get64 .AIN_PRESET_LO .AIN_PRESET_HI
    let s := { s with epoch := { s.epoch with next := some (s.now + 64), firstNum := some num } }
    s.setAlign (if mode = 1 then 3 else 1)

/-- A write has changed AIN_CTRL.RUN from `old` (R76, R77). The timer does nothing until PLL_ADC is READY (R307, R323). -/
def State.runWritten (s : State) (old : Bool) : State :=
  let new := s.flag F.AIN_CTRL_RUN
  if !old && new then
    let s := s.setReg .AIN_ALIGN_RATE 0 0#32
    if s.adcClock then s.startTimer false else s
  else if old && !new then
    let s := if s.epoch.running then s else { s with epoch := { s.epoch with next := none, firstNum := none } }
    s.setAlign 0
  else s

/-- PLL_ADC has become READY: a timer whose RUN was set before then starts now (R307, R323). -/
def State.timerReady (s : State) : State :=
  if s.domLive .acq && s.flag F.AIN_CTRL_RUN && !s.epoch.running && s.epoch.next.isNone &&
      s.fget F.AIN_ALIGN_STATUS_STATE = 0 then
    s.startTimer false
  else s

/-- MODE has been written (R82). -/
def State.alignModeWritten (s : State) : State :=
  let st := s.fget F.AIN_ALIGN_STATUS_STATE
  let mode := s.fget F.AIN_ALIGN_MODE
  if st = 1 ∧ mode = 1 then s.setAlign 3
  else if (st = 3 ∨ st = 4 ∨ st = 5) ∧ mode = 0 then
    { s with epoch := { s.epoch with slips := 0, step := 0 } }.setAlign 1
  else s

/-- A system-time update reaches the timer (R79–R82); in FREE it shows the error and corrects nothing. The addition to
AIN_ALIGN_RATE is floored and saturates at 32 bits: the spec gives neither rounding nor range (DESIGN CHOICE, log entry 100). -/
def State.alignUpdate (s : State) : State :=
  let st := s.fget F.AIN_ALIGN_STATUS_STATE
  let prev := s.epoch.lastUpd
  let s := { s with epoch := { s.epoch with lastUpd := some s.now } }
  if st = 2 then (if s.flag F.BEACON_STATUS_VALID then s.placeOnGrid s.epoch.above else s)
  else if st = 0 then s
  else
    match s.epoch.edges with
    | [] => s
    | (_, t) :: _ =>
      let div16 : Int := 16 * (s.epochDiv : Int)
      let m := s.gridTime16 t % div16
      let e16 : Int := if div16 < 2 * m then m - div16 else m
      let r := roundShift 4 e16
      let s := s.fset F.AIN_ALIGN_STATUS_LAST_ERR 0 (toField 16 (saturate 16 r))
      let s := if st = 4 then
          match prev with
          | some u =>
            let d : Int := (s.now : Int) - (u : Int)
            if d ≤ 0 then s
            else
              let rate := s.fgetI F.AIN_ALIGN_RATE_RATE + (e16 * (2 ^ 30 : Nat)) / (16 * d)
              s.fset F.AIN_ALIGN_RATE_RATE 0 (toField 32 (saturate 32 rate))
          | none => s
        else s
      if st = 1 then s
      else if e16.natAbs ≤ 64 * 16 then { s with epoch := { s.epoch with slips := r, step := 0 } }.setAlign 4
      else { s with epoch := { s.epoch with slips := 0, step := r } }.setAlign 3

/-- Length of the epoch that begins now (R75, R80, R81): the timer with its corrections spent, the length, and whether it
is stepped. AIN_ALIGN_RATE is applied in ALIGNED and HOLDOVER; R81 and R82 do not say that it is in ALIGNING, and there it is not
(DESIGN CHOICE, log entry 118). -/
def State.epochLength (s : State) (n : Nat) : Epoch × Nat × Bool :=
  let div := s.epochDiv
  let floor := max 250 (n + 8)
  let st := s.fget F.AIN_ALIGN_STATUS_STATE
  let e := s.epoch
  if !(st = 3 ∨ st = 4 ∨ st = 5) then ({ e with len := max div floor, stepped := false }, max div floor, false)
  else
    let l0 : Int := max div floor
    let (l1, step1) : Int × Int :=
      if st = 3 ∧ 0 < e.step then
        let cut := min e.step (l0 - (floor : Int))
        (l0 - cut, e.step - cut)
      else if st = 3 ∧ e.step < 0 then (l0 - e.step, 0)
      else (l0, e.step)
    let rate := if st = 3 then 0 else s.fgetI F.AIN_ALIGN_RATE_RATE
    let acc1 := e.acc + rate * l1
    let due := (if acc1 < 0 then -((-acc1) / (2 ^ 32 : Nat)) else acc1 / (2 ^ 32 : Nat)) +
      (if st = 5 then 0 else e.slips)
    let most : Int := max 1 (div / 256)
    let want := if due > most then most else if due < -most then -most else due
    let slip := if l1 - want < (floor : Int) then l1 - (floor : Int) else want
    let l2 := l1 - slip
    let rateSlips := (if acc1 < 0 then -((-acc1) / (2 ^ 32 : Nat)) else acc1 / (2 ^ 32 : Nat))
    let usedRate := if (slip < 0 ∧ rateSlips < slip) ∨ (0 < slip ∧ slip < rateSlips) then slip
      else if (slip < 0 ∧ 0 < rateSlips) ∨ (0 < slip ∧ rateSlips < 0) then 0 else rateSlips
    let e1 := { e with step := step1, acc := e.acc + rate * l2 - usedRate * (2 ^ 32 : Nat),
                       slips := if st = 5 then e.slips else e.slips - (slip - usedRate) }
    let stepped := decide (l1 ≠ l0)
    ({ e1 with len := l2.toNat, stepped := stepped }, l2.toNat, stepped)

/-! ### Group power (R69) -/

/-- A write has changed AIN_GRP_PWR.EN: a group that is switched off is not ready. -/
def State.grpPowerWritten (s : State) : State :=
  let en := s.fget F.AIN_GRP_PWR_EN
  s.fset F.AIN_GRP_PWR_RDY 0 (s.fget F.AIN_GRP_PWR_RDY &&& en)

/-! ### Module positions -/

/-- CRC-16 with polynomial 0x1021, one byte. -/
def crc16Byte (c : Nat) (b : Byte) : Nat :=
  (List.range 8).foldl (fun c _ => (if c / 2 ^ 15 = 1 then (2 * c) ^^^ 0x1021 else 2 * c) % 2 ^ 16) (c ^^^ (b.toNat * 256))

/-- CRC-16 of a list of bytes, initial value 0xFFFF (R86, R349). -/
def crc16 (bs : List Byte) : Nat := bs.foldl crc16Byte 0xFFFF

/-- Byte `i` of a record. -/
def recByte (r : List Byte) (i : Nat) : Nat := (r.getD i 0#8).toNat

/-- 16-bit little-endian field at byte `i`. -/
def recU16 (r : List Byte) (i : Nat) : Nat := recByte r i + 256 * recByte r (i + 1)

/-- 32-bit little-endian field at byte `i`. -/
def recU32 (r : List Byte) (i : Nat) : Nat := recU16 r i + 65536 * recU16 r (i + 2)

/-- LENGTH that goes with FORMAT. -/
def recLen (f : Nat) : Nat := if f = 1 then 32 else if f = 2 then 84 else 136

/-- The bytes of the record that must be zero (table of R86). -/
def recZeros (f : Nat) : List Nat :=
  if f = 1 then (List.range 12).map (· + 18)
  else if f = 2 then [14, 15, 80, 81] else (List.range 6).map (· + 128)

/-- Gain word of channel `i`, as FP32. -/
def recGain (r : List Byte) (i : Nat) : Word :=
  let f := recByte r 0
  if f = 1 then fpOfInt (recU16 r 14) (-12)
  else if f = 2 then fpOfInt (recU16 r (16 + 2 * i)) (-12)
  else BitVec.ofNat 32 (recU32 r (16 + 4 * i))

/-- Offset of channel `i` in volts, as FP32. -/
def recOffset (r : List Byte) (i : Nat) : Word :=
  let f := recByte r 0
  let at_ := if f = 1 then 16 else if f = 2 then 48 + 2 * i else 80 + 2 * i
  fpOfInt (signed 16 (recU16 r at_)) (-20)

/-- Anti-alias corner of channel `i` in hertz. -/
def recCorner (r : List Byte) (i : Nat) : Nat :=
  if recByte r 0 = 3 then 100 * recByte r (112 + i) else 10 * recU16 r 12

/-- A gain of format 3 is usable: positive, finite and normal (R87 check 6). -/
def gainOk (f : Nat) (w : Word) : Bool :=
  if f = 3 then
    match fpDecode w with
    | .num neg m _ => !neg && decide (2 ^ 23 ≤ m)
    | _ => false
  else w != 0#32

/-- The first failing check of R87; 0 is VALID. -/
def commitReason (r : List Byte) : Nat :=
  let f := recByte r 0
  let pop := recU16 r 4
  let populated := indices 16 (fun i => Nat.testBit pop i)
  if !(f = 1 ∨ f = 2 ∨ f = 3) then 1
  else if recByte r 1 ≠ recLen f then 2
  else if crc16 (r.take (recLen f - 2)) ≠ recU16 r (recLen f - 2) then 3
  else if (recZeros f).any (fun i => recByte r i != 0) then 4
  else if recU16 r 2 = 0 ∨ recU16 r 2 = 0xFFFF then 5
  else if populated.any (fun i => !gainOk f (recGain r i)) then 6
  else if populated.any (fun i => recCorner r i == 0) then 7
  else if (indices 16 (fun i => Nat.testBit (recU16 r 6) i && !Nat.testBit pop i)) ≠ [] then 8
  else 0

/-- The information registers of position `g` and its channels read zero (R87). -/
def State.clearModInfo (s : State) (g : Nat) : State :=
  let s := (((s.setReg .MOD_ID g 0#32).setReg .MOD_BIAS g 0#32).setReg .MOD_SER_LO g 0#32).setReg .MOD_SER_HI g 0#32
  forEach (List.range 16) (fun i s =>
    let c := 16 * g + i
    (((s.setReg .CH_GAIN c 0#32).setReg .CH_OFFSET c 0#32).setReg .CH_CORNER c 0#32).setReg .CH_FLAGS c 0#32) s

/-- The information registers of position `g` written from a record that passed (R87). -/
def State.writeModInfo (s : State) (g : Nat) (r : List Byte) : State :=
  let pop := recU16 r 4
  let bias := recU16 r 6
  let s := s.setReg .MOD_ID g (BitVec.ofNat 32 (pop * 65536 + recU16 r 2))
  let s := s.setReg .MOD_BIAS g (BitVec.ofNat 32 bias)
  let s := s.setReg .MOD_SER_LO g (BitVec.ofNat 32 (recU32 r 8))
  let s := s.setReg .MOD_SER_HI g (BitVec.ofNat 32 (if recByte r 0 = 3 then recU32 r 12 else 0))
  forEach (List.range 16) (fun i s =>
    let c := 16 * g + i
    let p := Nat.testBit pop i
    let s := s.setReg .CH_GAIN c (if p then recGain r i else 0#32)
    let s := s.setReg .CH_OFFSET c (if p then recOffset r i else 0#32)
    let s := s.setReg .CH_CORNER c (if p then BitVec.ofNat 32 (recCorner r i) else 0#32)
    s.setReg .CH_FLAGS c (BitVec.ofNat 32 ((if p then 1 else 0) + (if Nat.testBit bias i then 2 else 0)))) s

/-- Position `g` takes state `st` with `reason` and `format` (R85); a change sets STATE_CHG. -/
def State.setModState (s : State) (g st reason format : Nat) : State :=
  let old := s.fget F.AIN_MOD_STATE_STATE g
  let s := s.setReg .AIN_MOD_STATE g (BitVec.ofNat 32 (reason * 256 + format * 16 + st))
  let s := if st = 2 then s else s.clearModInfo g
  let s := if (old = 2) = (st = 2) then s
    else { s with chains := { s.chains with moved := s.chains.moved ||| 2 ^ g } }
  if old = st then s else (s.fsetBit F.AIN_MOD_CHG_STATE_CHG 0 g true).irq 0x20 1

/-- The identity buffer as bytes. -/
def State.idBuf (s : State) : List Byte := (List.range 34).flatMap (fun w => leBytes 4 (s.reg .AIN_IDBUF w).toNat)

/-- A write to AIN_IDCOMMIT names position `g` (R85, R87). While checks run, one of another position begins beside them, and one of the
same position takes the place of its record: R87 does not say (DESIGN CHOICE, log entry 120). -/
def State.idCommit (s : State) (g : Nat) : State :=
  if s.fget F.AIN_MOD_STATE_STATE g = 0 then (s.fsetB F.AIN_STATUS_COMMIT_REFUSED 0 true).irq 0x20 5
  else
    let m := s.modules.getD g ⟨true, false, none⟩
    { s with modules := setAt ⟨true, false, none⟩ s.modules g { m with commit := some s.idBuf } }.setBusy 0x20 true

/-- The commit check of position `g` ends (R87, R90). -/
def State.commitDone (s : State) (g : Nat) : State :=
  let m := s.modules.getD g ⟨true, false, none⟩
  match m.commit with
  | none => s
  | some r =>
    let s := { s with modules := setAt ⟨true, false, none⟩ s.modules g { m with commit := none } }
    let s := s.setBusy 0x20 (s.modules.any (fun m => m.commit.isSome))
    if s.fget F.AIN_MOD_STATE_STATE g = 0 then s
    else
      let reason := commitReason r
      if reason = 0 then (s.writeModInfo g r).setModState g 2 0 (recByte r 0)
      else s.setModState g 3 reason 0

/-- The level of MPRESg changes (R84): the acceptance count starts, or stops when the level returns. -/
def State.mpres (s : State) (g : Nat) (level : Bool) : State :=
  let m := s.modules.getD g ⟨true, false, none⟩
  let accepted := s.fbit F.AIN_MOD_PRES_PRES 0 g
  { s with modules := setAt ⟨true, false, none⟩ s.modules g { m with pin := level, counting := !level != accepted } }

/-- A presence level has held for 32 LF ticks (R84, R85, R90). MPRESg is active low. -/
def State.presence (s : State) (g : Nat) : State :=
  let m := s.modules.getD g ⟨true, false, none⟩
  if !m.counting then s
  else
    let here := !m.pin
    let s := { s with modules := setAt ⟨true, false, none⟩ s.modules g { m with counting := false, commit := if here then m.commit else none } }
    let s := s.setBusy 0x20 (s.modules.any (fun m => m.commit.isSome))
    let s := s.fsetBit F.AIN_MOD_PRES_PRES 0 g here
    let s := (s.fsetBit F.AIN_MOD_CHG_PRES_CHG 0 g true).irq 0x20 0
    let s := s.pulse 0x1E0
    s.setModState g (if here then 1 else 0) 0 0

/-! ### Identity buses (R91–R94) -/

/-- BUSY of the IDBUS page: either controller is busy. -/
def State.idbBusy (s : State) : State :=
  s.setBusy 0x63 (s.flag F.IDB_STATUS_BUSY 0 || s.flag F.IDB_STATUS_BUSY 1)

/-- Byte `i` of the buffer of controller `b`. -/
def State.idbByte (s : State) (b i : Nat) : Byte := BitVec.ofNat 8 (bits (s.reg .IDB_BUF (64 * b + i / 4)) (8 * (i % 4)) 8)

/-- What controller `b` sends in a transaction: the address byte and the bytes of the write phase, unless that is left out, and
the address byte of the read phase (R91). -/
def State.idbSends (s : State) (b : Nat) : List Byte :=
  let addr := s.fget F.IDB_CMD_ADDR b
  let wlen := s.fget F.IDB_CMD_WLEN b
  let rlen := s.fget F.IDB_CMD_RLEN b
  (if wlen = 0 ∧ 0 < rlen then [] else BitVec.ofNat 8 (2 * addr) :: (List.range wlen).map (s.idbByte b)) ++
    (if 0 < rlen then [BitVec.ofNat 8 (2 * addr + 1)] else [])

/-- A write has set START (run 1) or RECOVER (2) of controller `b`. RECOVER while BUSY is 1 takes the place of what runs, which
ends without DONE: the spec reserves only START then (DESIGN CHOICE, log entry 101). -/
def State.idbGo (s : State) (b run : Nat) : State :=
  { s with idb := setAt IdBus.idle s.idb b ⟨run, s.fget F.IDB_CMD_WLEN b, s.fget F.IDB_CMD_RLEN b, if run = 1 then s.idbSends b else []⟩
    }.fsetB F.IDB_STATUS_BUSY b true |>.idbBusy

/-- Store the bytes read into the buffer of controller `b`, leaving the rest. -/
def State.idbStore (s : State) (b : Nat) (bs : List Byte) : State :=
  forEach ((List.range bs.length).zip bs) (fun x s =>
    s.setReg .IDB_BUF (64 * b + x.1 / 4) (withBits (s.reg .IDB_BUF (64 * b + x.1 / 4)) (8 * (x.1 % 4)) 8 x.2.toNat)) s

/-- The transaction or recovery of controller `b` ends; `f` is the flag it sets besides DONE. -/
def State.idbEnd (s : State) (b : Nat) (f : Option Fld) : State :=
  let s := { s with idb := setAt IdBus.idle s.idb b { s.idb.getD b IdBus.idle with run := 0 } }
  let s := ((s.fsetB F.IDB_CMD_START b false).fsetB F.IDB_CMD_RECOVER b false).fsetB F.IDB_STATUS_BUSY b false
  let s := s.idbBusy
  let s := match f with
    | some f => (s.fsetB f b true).irq 0x63 (2 + b)
    | none => s
  (s.fsetB F.IDB_STATUS_DONE b true).irq 0x63 b

end Sys2Proof.Machine
end

