-- ==== Sys2Proof/Machine/Bkd.lean ====
section
/-!
DEFINITION. The backup domain: tick counters, calendar, alarm, backup bytes, wake pins and the trim measurement (R337–R353),
and the latching of wakes (R309–R311).
-/

namespace Sys2Proof.Machine

/-! ### Backup bytes (R348–R350) -/

/-- BK0–BK63. -/
def State.bkBytes (s : State) : List Byte := (List.range 16).flatMap (fun w => leBytes 4 (s.reg .BKD_BK w).toNat)

/-- A word is written and the stored CRC follows; the page is busy meanwhile (R349). -/
def State.bkPut (s : State) (w : Nat) (v : Word) : State :=
  let s := (s.setReg .BKD_BK w v).checkBegin 0x06 80
  s.fset F.BKD_BKCRC_CRC 0 (crc16 s.bkBytes)

/-- BUSY of the BKD page (R353). -/
def State.bkdBusy (s : State) : State :=
  s.setBusy 0x06 (s.flag F.BKD_CTRL_CRC_CHECK || s.flag F.BKD_CTRL_SET || s.flag F.BKD_CTRL_CAL_LOAD)

/-- A CRC check compares the bytes with the stored CRC (R350); a byte that a dip of VBK changed is found even when a word write
has since brought the stored CRC up to date (R338; DESIGN CHOICE, log entry 107). -/
def State.bkCheck (s : State) : State :=
  let bad : Bool := crc16 s.bkBytes != s.fget F.BKD_BKCRC_CRC || s.bkd.changed
  let s := { s with bkd := { s.bkd with changed := false } }
  let s := if bad then (s.fsetB F.BKD_STATUS_BK_CRC_BAD 0 true).irq 0x06 4 else s
  (s.fsetB F.BKD_CTRL_CRC_CHECK 0 false).bkdBusy

/-! ### Wakes (R309–R311) -/

/-- Mode that the controller has reached: 0 Noon to 4 Midnight. -/
def State.mode (s : State) : Nat := s.fget F.PWR_STATUS_MODE

/-- The mode sought; the controller's value shows in PWR_CTRL and PWR_STATUS (log entry 9). -/
def State.setTarget (s : State) (m : Nat) : State := (s.fset F.PWR_CTRL_TARGET 0 m).fset F.PWR_STATUS_TARGET 0 m

/-- The trimmed tick counter. -/
def State.tick (s : State) : Nat := s.get64 .BKD_TICK_LO .BKD_TICK_HI

/-- The raw tick counter. -/
def State.rawCount (s : State) : Nat := s.get64 .BKD_RAW_LO .BKD_RAW_HI

/-- Wake source `c` is detected in mode `m` (table "Wake sources"). -/
def wakeIn (c m : Nat) : Bool :=
  if c ≤ 8 then 1 ≤ m && m ≤ 3
  else if c ≤ 11 then m == 3
  else if c ≤ 14 then 1 ≤ m && m ≤ 4
  else if c = 15 then 1 ≤ m && m ≤ 3
  else if c = 16 then m == 2
  else if c = 17 then m == 4
  else m == 1 || m == 2

/-- Codes whose bit of WAKE_PEND is set. -/
def State.wakePending (s : State) : List Nat := (List.range 19).filter (fun c => c != 0 && (s.reg .WAKE_PEND).getLsbD c)

/-- The last-wake record (R311). -/
def wakeRecord (replayed multi : Bool) (frm tgt src tick : Nat) : Word :=
  BitVec.ofNat 32 ((if replayed then 2 ^ 31 else 0) + (if multi then 2 ^ 30 else 0) + frm * 2 ^ 27 + tgt * 2 ^ 24 +
    src * 2 ^ 19 + tick % 2 ^ 19)

/-- A delivered wake writes its record (R311). -/
def State.wakeDeliver (s : State) (rec0 : Word) (tick : Nat) (replayed : Bool) : State :=
  let s := s.setReg .WAKE_LAST 0 rec0
  let s := s.set64 .WAKE_STAMP_LO .WAKE_STAMP_HI 0 (tick % 2 ^ 48)
  let s := (s.fadd F.WAKE_COUNT_COUNT 0 1).bkPut 2 rec0
  let s := s.irq 0x02 0
  let s := if replayed then s.irq 0x02 1 else s
  { s with power := { s.power with sStopped := false } }

/-- The wake latched as (mode, TO, tick) is delivered: the mode sought becomes TO, or the mode reached when TO is not above
it (R310). -/
def State.wakeGo (s : State) (w : Nat × Nat × Nat) (replayed : Bool) : State :=
  let pend := s.wakePending
  let src := pend.headD 0
  let s := s.wakeDeliver (wakeRecord replayed (decide (1 < pend.length)) w.1 w.2.1 src w.2.2) w.2.2 replayed
  let s := { s with power := { s.power with wake := none, replay := false, woken := true, thermal := false } }
  s.setTarget (min w.2.1 s.mode)

/-- The detector of source `c` is armed in D_SEN: in a mode that it is armed in, with its bit of WAKE_EN. In Midnight the enables
of the pins and the alarm are those of the BKD page, and D_BK latches them (R309). -/
def State.wakeTaken (s : State) (c : Nat) : Bool :=
  let modes := match s.power.step with
    | none => [s.mode]
    | some (a, b) => [a, b]
  s.power.senOn && modes.any (fun m => m != 0 && (m != 4 || c == 17) && wakeIn c m) && (c == 17 || (s.reg .WAKE_EN).getLsbD c)

/-- Source `c` has been detected (R309, R310). -/
def State.wakeLatch (s : State) (c : Nat) : State :=
  if !s.wakeTaken c then s
  else
    let s := s.setReg .WAKE_PEND 0 (s.reg .WAKE_PEND ||| BitVec.ofNat 32 (2 ^ c))
    let frm := match s.power.step with
      | none => s.mode
      | some (a, b) => if wakeIn c a && a != 0 then a else b
    let w := (frm, s.fget F.WAKE_CFG_TO, s.tick)
    if s.power.step.isSome || (s.power.thermal && s.mode < 3) then
      match s.power.wake with
      | some _ => s
      | none => { s with power := { s.power with wake := some w, replay := true } }
    else s.wakeGo w false

/-- D_BK latches an enabled Midnight wake (R310, R352): `c` is 12 PIN0, 13 PIN1 or 14 ALARM. The mask of the sources, and the
tick and REPLAYED of the first. -/
def State.midnightWake (s : State) (c : Nat) : State :=
  let leaving : Bool := s.power.step == some (3, 4)
  let down : Bool := !s.power.senOn || s.mode == 4
  let on : Bool := (if c = 12 then s.flag F.BKD_MIDWAKE_PIN0 else if c = 13 then s.flag F.BKD_MIDWAKE_PIN1
    else s.flag F.BKD_MIDWAKE_ALARM)
  if !on || !(leaving || down) then s
  else
    let w := match s.bkd.wake with
      | none => (2 ^ c, s.tick, leaving)
      | some x => (x.1 ||| 2 ^ c, x.2)
    let s := { s with bkd := { s.bkd with wake := some w } }
    if down then s.fsetB F.BKD_MIDWAKE_MAIN_EN 0 true else s

/-! ### Oscillator and supply (R337–R340) -/

/-- The measurement ends without a result (R345). -/
def State.measAbort (s : State) : State :=
  if s.bkd.meas.isNone then s
  else
    let s := { s with bkd := { s.bkd with meas := none } }
    ((s.fsetB F.BKD_MEAS_CTRL_START 0 false).fsetB F.BKD_MEAS_STATUS_ABORT 0 true).irq 0x06 6

/-- The measurement ends without a result if its window is open (R345). -/
def State.measBreak (s : State) : State := if s.bkd.meas.any (fun m => m.opened) then s.measAbort else s

/-- LFRC cycles count as raw ticks, which SUBST_ACTIVE shows (R340). -/
def State.substActive (s : State) : Bool := s.flag F.BKD_CTRL_SUBST && s.power.senOn && !s.bkd.lfxo

/-- SUBST, D_SEN or the LFXO may have changed: SUBST_ACTIVE ends a trim measurement (R340, R345). -/
def State.bkdSubst (s : State) : State := if s.substActive then s.measBreak else s

/-- The LFXO is READY, or no longer so; the LF clock follows it under LF_AUTO (R323). -/
def State.lfxoReady (s : State) (b : Bool) : State :=
  let s := { s with bkd := { s.bkd with lfxo := b } }
  let s := if s.power.senOn then
      let s := s.fsetBit F.CLK_READY_READY 0 0 b
      if s.flag F.CLK_SEL_LF_AUTO then s.fset F.CLK_SEL_LF_SEL 0 (if b then 1 else 0) else s
    else s
  s.bkdSubst


/-- The amplitude detector has seen no oscillation for 1 ms (R340). -/
def State.oscStopped (s : State) : State :=
  let s := s.measBreak
  let s := (s.fsetB F.BKD_STATUS_OSC_STOPPED 0 true).irq 0x06 3
  s.lfxoReady false

/-- VBAT_LOW is sampled (R337). -/
def State.vbatSample (s : State) (low : Bool) : State :=
  if !s.power.senOn then s
  else
    let old := s.flag F.BKD_STATUS_VBAT_LOW
    let s := s.fsetB F.BKD_STATUS_VBAT_LOW 0 low
    if low && !old then s.irq 0x06 7 else s

/-- The register addresses of the measurement unit, which D_SEN holds. -/
def measRegs : List Nat := [Reg.addr .BKD_MEAS_CTRL 0, Reg.addr .BKD_MEAS_TICKS 0, Reg.addr .BKD_MEAS_STATUS 0]

/-- The captures of the freeze groups of the BKD page are gone (R239). -/
def State.bkdThaw (s : State) : State := { s with freeze := s.freeze.filter (fun c => c.group / 0x1000 != 6) }

/-- VBK has dipped to `mv` millivolts (R338); in the middle band the listed bytes change. -/
def State.vbkDip (s : State) (mv : Nat) (bytes : List (Nat × Byte)) : State :=
  if 1400 ≤ mv then s
  else if 1200 ≤ mv then
    let s := s.oscStopped
    let s := { s with bkd := { s.bkd with
      changed := s.bkd.changed || bytes.any (fun x => s.bkBytes.getD x.1 0 != x.2) } }
    forEach bytes (fun x s =>
      s.setReg .BKD_BK (x.1 / 4) (withBits (s.reg .BKD_BK (x.1 / 4)) (8 * (x.1 % 4)) 8 x.2.toNat)) s
  else
    let s := { s with regs := s.regs.filter (fun kv => kv.1 / 0x1000 != 6 || measRegs.contains kv.1),
                      bkd := { Bkd.reset with meas := s.bkd.meas } }.bkdThaw
    s.lfxoReady false

/-! ### Tick counters and alarm (R341–R345) -/

/-- The alarm fires (R344). -/
def State.alarmFire (s : State) : State :=
  if !s.bkd.alarm then s
  else
    let s := { s with bkd := { s.bkd with alarm := false } }
    if !s.flag F.BKD_CTRL_ALARM_ARM then s
    else
      let s := s.fsetB F.BKD_CTRL_ALARM_ARM 0 false
      let s := (s.fsetB F.BKD_STATUS_ALARM 0 true).irq 0x06 0
      (s.wakeLatch 14).midnightWake 14

/-- Days of a month of the calendar. -/
def monthLen (month year : Nat) : Nat :=
  if month = 2 then (if year % 4 = 0 then 29 else 28)
  else if month = 4 ∨ month = 6 ∨ month = 9 ∨ month = 11 then 30
  else 31

/-- The calendar after the next second: second, minute, hour, weekday, day, month and year (R346). -/
def calNext (sec min hour wday day month year : Nat) : Nat × Nat × Nat × Nat × Nat × Nat × Nat :=
  let c := sec = 59 ∨ sec = 63
  let sec' := if c then 0 else sec + 1
  if ¬ c then (sec', min, hour, wday, day, month, year)
  else if ¬ (min = 59 ∨ min = 63) then (sec', min + 1, hour, wday, day, month, year)
  else if ¬ (hour = 23 ∨ hour = 31) then (sec', 0, hour + 1, wday, day, month, year)
  else
    let wday' := if 6 ≤ wday then 0 else wday + 1
    if ¬ (day = monthLen month year ∨ day = 31) then (sec', 0, 0, wday', day + 1, month, year)
    else if 12 ≤ month then (sec', 0, 0, wday', 1, 1, if year = 199 then 0 else year + 1)
    else (sec', 0, 0, wday', 1, month + 1, year)

/-- A second boundary: the calendar advances or is loaded (R346, R347), and SG40 has its edge (R56). -/
def State.secondBoundary (s : State) (low : Bool) : State :=
  if !s.bkd.second then s
  else
    let s := { s with bkd := { s.bkd with second := false } }
    let s :=
      if s.flag F.BKD_CTRL_CAL_LOAD then
        let s := s.setReg .BKD_CAL_TIME 0 (s.reg .BKD_CAL_SET_TIME)
        let s := s.setReg .BKD_CAL_DATE 0 (s.reg .BKD_CAL_SET_DATE)
        (s.fsetB F.BKD_CTRL_CAL_LOAD 0 false).bkdBusy
      else
        let (sec, min, hour, wday, day, month, year) := calNext (s.fget F.BKD_CAL_TIME_SEC) (s.fget F.BKD_CAL_TIME_MIN)
          (s.fget F.BKD_CAL_TIME_HOUR) (s.fget F.BKD_CAL_DATE_WDAY) (s.fget F.BKD_CAL_DATE_DAY)
          (s.fget F.BKD_CAL_DATE_MONTH) (s.fget F.BKD_CAL_DATE_YEAR)
        let s := ((s.fset F.BKD_CAL_TIME_SEC 0 sec).fset F.BKD_CAL_TIME_MIN 0 min).fset F.BKD_CAL_TIME_HOUR 0 hour
        let s := ((s.fset F.BKD_CAL_DATE_WDAY 0 wday).fset F.BKD_CAL_DATE_DAY 0 day).fset F.BKD_CAL_DATE_MONTH 0 month
        s.fset F.BKD_CAL_DATE_YEAR 0 year
    let s := s.vbatSample low
    if s.domLive .acq then { s with epoch := { s.epoch with tickSeam := some (s.now, s.tick / 2 ^ 15) } } else s

/-- What the last raw tick left to do is done before the next one. -/
def State.tickSettle (s : State) : State :=
  (s.secondBoundary (s.flag F.BKD_STATUS_VBAT_LOW)).alarmFire

/-- The counters take the value of BKD_SET (R342). -/
def State.tickLoad (s : State) : State :=
  let v := s.get64 .BKD_SET_LO .BKD_SET_HI
  let s := (s.set64 .BKD_TICK_LO .BKD_TICK_HI 0 v).set64 .BKD_RAW_LO .BKD_RAW_HI 0 v
  let s := { s with bkd := { s.bkd with frac := 0 } }
  (s.fsetB F.BKD_CTRL_SET 0 false).bkdBusy

/-- The counters advance by one raw tick (R341). -/
def State.tickCount (s : State) : State :=
  let tick := s.tick
  let f : Int := (s.bkd.frac : Int) + s.fgetI F.BKD_TRIM_TRIM
  let (frac, tick') : Nat × Nat :=
    if f < 0 then ((f + 2 ^ 32).toNat, tick)
    else if 2 ^ 32 ≤ f ∧ (tick + 1) % 2 ^ 15 ≠ 0 then ((f - 2 ^ 32).toNat, (tick + 2) % 2 ^ 48)
    else (f.toNat, (tick + 1) % 2 ^ 48)
  let s := s.set64 .BKD_RAW_LO .BKD_RAW_HI 0 ((s.rawCount + 1) % 2 ^ 48)
  let s := s.set64 .BKD_TICK_LO .BKD_TICK_HI 0 tick'
  { s with bkd := { s.bkd with frac := frac, second := decide (tick' / 2 ^ 15 ≠ tick / 2 ^ 15) } }

/-- An open window of the measurement takes the raw tick (R345). -/
def State.measTick (s : State) : State :=
  { s with bkd := { s.bkd with meas := s.bkd.meas.map (fun (m : Meas) => if m.opened then { m with raw := m.raw + 1 } else m) } }

/-- A raw tick falls: an LFXO cycle while the LFXO is READY, or an LFRC cycle in its place (R340, R341). -/
def State.tickStep (s : State) : State :=
  if !(s.bkd.lfxo || s.substActive) then s
  else
    let s := s.tickSettle
    let s := if s.flag F.BKD_CTRL_SET then s.tickLoad else s.tickCount
    let s := s.measTick
    if s.flag F.BKD_CTRL_ALARM_ARM && s.get64 .BKD_ALARM_LO .BKD_ALARM_HI ≤ s.tick then
      { s with bkd := { s.bkd with alarm := true } }
    else s

/-! ### The trim measurement (R345) -/

/-- START has been written: a running measurement starts again. -/
def State.measStart (s : State) : State :=
  { s with bkd := { s.bkd with meas := some ⟨false, 0, 0, 0, true⟩ } }.fsetB F.BKD_MEAS_CTRL_START 0 true

/-- A reference event of source `src`, `phase` / 1024 after the last raw tick. -/
def State.measEvent (s : State) (src phase : Nat) : State :=
  match s.bkd.meas with
  | none => s
  | some m =>
    if s.fget F.BKD_MEAS_CTRL_SRC ≠ src ∨ !s.power.senOn then s
    else
      let xo := s.fbit F.CLK_READY_READY 0 3
      if !m.opened then
        let s := { s with bkd := { s.bkd with meas := some ⟨true, 0, 0, phase, xo⟩ } }
        s.bkdSubst
      else if m.count + 1 < s.fget F.BKD_MEAS_CTRL_N then
        { s with bkd := { s.bkd with meas := some { m with count := m.count + 1, xo := m.xo && xo } } }
      else
        let fine := m.xo && xo
        let d := m.raw * 1024 + phase
        let ticks := if fine then (d - m.phase) / 1024 else m.raw
        let frac := if fine then (d - m.phase) % 1024 else 0
        let s := { s with bkd := { s.bkd with meas := none } }
        let s := (s.setReg .BKD_MEAS_TICKS 0 (BitVec.ofNat 32 ticks)).fset F.BKD_MEAS_STATUS_FRAC 0 frac
        let s := (s.fsetB F.BKD_MEAS_STATUS_COARSE 0 (!fine)).fsetB F.BKD_MEAS_CTRL_START 0 false
        (s.fsetB F.BKD_MEAS_STATUS_DONE 0 true).irq 0x06 6

/-! ### Wake pins (R351) -/

/-- The filter of WKUPp accepts a new level that has held for `held` LFXO cycles: at once while the LFXO is not READY (R351). -/
def State.wkupTaken (s : State) (p : Nat) (level : Bool) (held : Nat) : Bool :=
  let filt := if p = 0 then s.fget F.BKD_WKPIN_FILT0 else s.fget F.BKD_WKPIN_FILT1
  level != s.fbit F.BKD_WKPIN_LEVEL 0 p && (!s.bkd.lfxo || decide (filt ≤ held))

/-- A new level at WKUPp has held for `held` LFXO cycles (R351). -/
def State.wkupEdge (s : State) (p : Nat) (level : Bool) (held phase : Nat) : State :=
  let pol := if p = 0 then s.flag F.BKD_WKPIN_POL0 else s.flag F.BKD_WKPIN_POL1
  if !s.wkupTaken p level held then s
  else if level != pol then s.fsetBit F.BKD_WKPIN_LEVEL 0 p level
  else
    let s := s.fsetBit F.BKD_WKPIN_LEVEL 0 p level
    let s := (s.fsetB (if p = 0 then F.BKD_STATUS_PIN0 else F.BKD_STATUS_PIN1) 0 true).irq 0x06 (1 + p)
    let s := (s.wakeLatch (12 + p)).midnightWake (12 + p)
    let s := s.pulse (0x1E5 + p)
    s.measEvent p phase

end Sys2Proof.Machine
end

