-- ==== Sys2Proof/Machine/Darn.lean ====
section
/-!
DEFINITION. Darning: the row trackers and row darns of the domain SRAMs, the proposals, the log and the application of
darn-table entries (R449–R461).
-/

namespace Sys2Proof.Machine

/-! ### The domain SRAMs -/

/-- Logical banks of SRAM domain 0 sentinel, 1 acquisition, 2 analysis; the two spare physical banks follow them. -/
def sramBanks (d : Nat) : Nat := if d = 0 then 8 else if d = 1 then 64 else 256

/-- First fabric address of SRAM domain `d`. -/
def sramBase (d : Nat) : Nat := if d = 0 then 0x100010000000 else if d = 1 then 0x100020000000 else 0x100030000000

/-- The power domain of SRAM domain `d`. -/
def sramDomain (d : Nat) : Domain := if d = 0 then .sen else if d = 1 then .acq else .ana

/-- SRAM domain and offset of a fabric address. -/
def sramOf (a : Nat) : Option (Nat × Nat) :=
  if 0x100010000000 ≤ a ∧ a < 0x100010080000 then some (0, a - 0x100010000000)
  else if 0x100020000000 ≤ a ∧ a < 0x100020400000 then some (1, a - 0x100020000000)
  else if 0x100030000000 ≤ a ∧ a < 0x100031000000 then some (2, a - 0x100030000000)
  else none

/-- Physical bank that holds logical bank `b` of SRAM domain `d`. -/
def State.physBank (s : State) (d b : Nat) : Nat :=
  match s.darn.banks.find? (fun x => x.1 == d && x.2.1 == b) with
  | some x => x.2.2
  | none => b

/-- Spare rows used in a physical bank. -/
def State.rowsUsed (s : State) (d p : Nat) : Nat := (s.darn.rows.filter (fun x => x.1 == d && x.2.1 == p)).length

/-- Spare banks used in SRAM domain `d`: those in service, those retired since (R454), and the one being copied to. -/
def State.banksUsed (s : State) (d : Nat) : Nat :=
  (s.darn.banks.filter (fun x => x.1 == d)).length + (s.darn.spent.filter (fun x => x.1 == d)).length +
    (match s.darn.copy with
     | some x => if x.1 = d then 1 else 0
     | none => 0)

/-- Lowest spare physical bank of domain `d` that is free: neither in service nor retired (R454). -/
def State.freeBank (s : State) (d : Nat) : Option Nat :=
  [sramBanks d, sramBanks d + 1].find? (fun p => !(s.darn.banks ++ s.darn.spent).any (fun x => x.1 == d && x.2.2 == p))

/-- Lowest spare row of physical bank `p` that is free (R452). -/
def State.freeRow (s : State) (d p : Nat) : Option Nat :=
  (List.range 8).find? (fun k => !s.darn.rows.any (fun x => x.1 == d && x.2.1 == p && x.2.2.2 == k))

/-- Logical bank `b` of domain `d` lies on physical bank `p` from now on; the spare that held it is retired (R454). -/
def State.mapBank (s : State) (d b p : Nat) : State :=
  let here (x : Nat × Nat × Nat) : Bool := x.1 == d && x.2.1 == b
  { s with darn := { s.darn with banks := s.darn.banks.filter (fun x => !here x) ++ [(d, b, p)],
                                 spent := s.darn.spent ++ s.darn.banks.filter here } }

/-- The clock of the DARN page is gated while its domain runs: the darn controller stands (R324). -/
def State.darnStands (s : State) : Bool := s.domLive .acq && !s.pageClocked 0x6C

/-- Number of ones of a number below 2^32. -/
def onesOf (x : Nat) : Nat := ((List.range 32).filter (fun i => Nat.testBit x i)).length

/-- Word `w` of an entry. -/
def DarnEntry.word (e : DarnEntry) (w : Nat) : Nat :=
  if w = 0 then e.kind + 256 * e.flags else if w = 1 then e.target else if w = 2 then e.repl else e.tick

/-! ### The register view -/

/-- The DARN registers that show the controller's state. -/
def State.darnShow (s : State) : State :=
  if !s.domLive .acq then s
  else
    let d := s.darn
    let hd := d.log.headD ⟨0, 0, 0, 0, 0⟩
    let s := forEach (List.range 4) (fun w s => s.setReg .DARN_LOG w (BitVec.ofNat 32 (hd.word w))) s
    let s := s.fset F.DARN_LOG_CTRL_COUNT 0 d.log.length
    let s := s.fsetB F.DARN_STATUS_PROP 0 (d.props != [])
    let p := d.props.headD (0, 0)
    let s := s.setReg .DARN_PROP 0 (BitVec.ofNat 32 (if d.props = [] then 0 else 0x80000000 + p.1))
    let s := s.setReg .DARN_PROP_TGT 0 (BitVec.ofNat 32 p.2)
    let s := s.fset F.DARN_SPARES_SLICE 0 (1 - onesOf (s.fget F.DARN_RETIRED_SLICES))
    let s := s.fset F.DARN_SPARES_ENGINE 0 (2 - onesOf (s.fget F.DARN_RETIRED_ENGINES))
    let s := s.fset F.DARN_SPARES_SEN 0 (2 - s.banksUsed 0)
    let s := s.fset F.DARN_SPARES_ACQ 0 (2 - s.banksUsed 1)
    let s := s.fset F.DARN_SPARES_ANA 0 (2 - s.banksUsed 2)
    s.setBusy 0x6C d.copy.isSome

/-- DARN_BANK_INFO for the logical bank that DARN_BANK_IDX names. -/
def State.bankInfo (s : State) : Word :=
  let d := s.fget F.DARN_BANK_IDX_DOMAIN
  let b := s.fget F.DARN_BANK_IDX_BANK
  let p := s.physBank d b
  BitVec.ofNat 32 (p + s.rowsUsed d p * 2 ^ 16 + (if s.darn.proposed.contains (d, b) then 2 ^ 20 else 0))

/-! ### The log and the proposals -/

/-- TICK[47:16] of the trimmed tick counter. -/
def State.darnTick (s : State) : Nat := s.get64 .BKD_TICK_LO .BKD_TICK_HI / 2 ^ 16 % 2 ^ 32

/-- Append an entry to the log (R456). The log is in D_ACQ: while that domain is off there is none. -/
def State.darnLog (s : State) (kind flags target repl : Nat) : State :=
  if !s.pageLive 0x6C then s
  else if 32 ≤ s.darn.log.length then (s.fsetB F.DARN_STATUS_LOG_OVF 0 true).irq 0x6C 3
  else { s with darn := { s.darn with log := s.darn.log ++ [DarnEntry.mk kind flags target repl s.darnTick] } }.darnShow

/-- A darn has taken effect. -/
def State.darnDone (s : State) (kind flags target repl : Nat) : State :=
  ((s.darnLog kind flags target repl).irq 0x6C 1).darnShow

/-- A trigger raises a CONFIRMED darn as a proposal (R453). -/
def State.propose (s : State) (kind target : Nat) : State :=
  if !s.pageLive 0x6C then s
  else if s.darn.props.contains (kind, target) then s
  else if 4 ≤ s.darn.props.length then (s.fsetB F.DARN_STATUS_PROP_OVF 0 true).irq 0x6C 3
  else
    let first := s.darn.props.isEmpty
    let s := { s with darn := { s.darn with props := s.darn.props ++ [(kind, target)] } }.darnShow
    if first then s.irq 0x6C 0 else s

/-- The head proposal leaves the queue. -/
def State.popProp (s : State) : State :=
  let s := { s with darn := { s.darn with props := s.darn.props.tail } }.darnShow
  if s.darn.props.isEmpty then s else s.irq 0x6C 0

/-- TARGET of a BANK darn. -/
def bankTarget (d b : Nat) : Nat := d * 2 ^ 30 + b

/-- A BANK proposal, once per logical bank (R452); a trigger that is lost has raised none (R453). -/
def State.proposeBank (s : State) (d b : Nat) : State :=
  if s.darn.proposed.contains (d, b) then s
  else
    let s := s.propose 5 (bankTarget d b)
    if s.darn.props.contains (5, bankTarget d b) then
      { s with darn := { s.darn with proposed := s.darn.proposed ++ [(d, b)] } }
    else s

/-! ### Row darns -/

/-- The stored check bits of the row of 128 bytes at `a` that show a correctable error are rewritten (R452). -/
def State.scrubRow (s : State) (a : Nat) : State :=
  { s with ecc := s.ecc.filter (fun x => !(x.1 / 128 == a / 128 && !x.2)) }

/-- A row of the SRAM at fabric address `a` calls for a darn (R451, R452). -/
def State.rowTrigger (s : State) (a : Nat) : State :=
  match sramOf a with
  | none => s
  | some (d, o) =>
    if s.darnStands then s
    else
    let b := o / 65536
    let row := (o % 65536) / 128
    let p := s.physBank d b
    let target := d * 2 ^ 30 + p * 2 ^ 21 + row * 2 ^ 12
    let s := { s with darn := { s.darn with
      tracker := s.darn.tracker.filter (fun x => !(x.dom == d && x.phys == p && x.row == row)) } }
    if !s.flag F.DARN_CTRL_AUTO_ROW then s.darnLog 4 3 target 0
    else
      match s.freeRow d p with
      | none => s.proposeBank d b
      | some k =>
        let s := { s with darn := { s.darn with rows := s.darn.rows ++ [(d, p, row, k)] } }
        (s.scrubRow a).darnDone 4 2 target k

/-- A corrected error in the row at `a` (R451). -/
def State.rowCorrected (s : State) (a : Nat) : State :=
  match sramOf a with
  | none => s
  | some (d, o) =>
    if s.darnStands then s
    else
    let p := s.physBank d (o / 65536)
    let row := (o % 65536) / 128
    let mine (x : TrackRow) : Bool := x.dom == d && x.phys == p && x.row == row
    let count : Nat := (match s.darn.tracker.find? mine with
      | some x => x.count
      | none => 0) + 1
    let rest := s.darn.tracker.filter (fun x => !mine x)
    let here := rest.filter (fun x => x.dom == d)
    let rest := if 16 ≤ here.length then
        match here with
        | old :: _ => rest.filter (fun x => x != old)
        | [] => rest
      else rest
    let s := { s with darn := { s.darn with tracker := rest ++ [⟨d, p, row, count⟩] } }
    if s.fget F.DARN_CFG_ROW_CE_MAX ≤ count then s.rowTrigger a else s

/-- The entry `i` of the tracker of domain `d` has aged (R451). -/
def State.trackerExpire (s : State) (d i : Nat) : State :=
  if s.darnStands then s
  else
  match (s.darn.tracker.filter (fun x => x.dom == d))[i]? with
  | some x => { s with darn := { s.darn with tracker := s.darn.tracker.filter (fun y => y != x) } }
  | none => s

/-- An SRAM read of `n` bytes at `a` meets the check bits of the words it covers (R484): corrected errors count against
their rows, uncorrectable ones trigger a row darn; the answer says whether one was uncorrectable. -/
def State.sramRead (s : State) (a n : Nat) : State × Bool :=
  (s.ecc.filter (fun x => a / 8 * 8 ≤ x.1 && x.1 < a + n)).foldl (fun acc x =>
    if !acc.1.ecc.contains x then acc
    else if x.2 then (acc.1.rowTrigger x.1, true)
    else (acc.1.rowCorrected x.1, acc.2)) (s, false)

/-- An SRAM write of `n` bytes at `a` stores new check bits for the words it covers whole or in part (R484). The correction that
a narrower write makes to the stored word does not count against its row: R484 counts a read, and does not say whether the
reading part of such a write is one (DESIGN CHOICE, log entry 89). -/
def State.sramWritten (s : State) (a n : Nat) : State :=
  { s with ecc := s.ecc.filter (fun x => !(a / 8 * 8 ≤ x.1 && x.1 < a + n)) }

/-! ### Reading and writing by the blocks themselves -/

/-- The number of a bank in RETN_KEEPk and its like: word and bit. -/
def retnBit (d b : Nat) : Nat × Nat :=
  if d = 0 then (0, b) else if d = 1 then (1 + b / 32, b % 32) else (3 + b / 32, b % 32)

/-- The banks whose seal check is pending, in ascending order (R314). -/
def State.unverified (s : State) : List (Nat × Nat) :=
  ((List.range 3).flatMap (fun d => (List.range (sramBanks d)).map (fun b => (d, b)))).filter
    (fun x => s.fbit F.RETN_UNVER_UNVER (retnBit x.1 x.2).1 (retnBit x.1 x.2).2)

/-- A step that powers banks down computes their seals (R314): into Evening those of analysis SRAM, into Night the others. -/
def State.sealing (s : State) : Bool :=
  (s.power.step == some (1, 2) && s.power.seals.any (fun x => x.1 / 256 == 2)) ||
    (s.power.step == some (2, 3) && s.power.seals.any (fun x => x.1 / 256 != 2))

/-- BUSY of the RETN page: seals are computed, or checks are pending (R320). -/
def State.retnBusy (s : State) : State := s.setBusy 0x07 (s.sealing || !s.unverified.isEmpty)

/-- One pending check of bank `b` of domain SRAM `d` is over; the last one ends BUSY and sets PAGE_IRQ bit 2 (R314). -/
def State.unverClear (s : State) (d b : Nat) : State :=
  let s := s.fsetBit F.RETN_UNVER_UNVER (retnBit d b).1 (retnBit d b).2 false
  if s.unverified = [] then s.retnBusy.irq 0x07 2 else s

/-- A write of `n` bytes reaches the banks at offset `off` of a domain SRAM: a seal check that waits for one is abandoned
(R315). -/
def State.unverWrite (s : State) (d off n : Nat) : State :=
  forEach (List.range ((off + n - 1) / 65536 + 1 - off / 65536)) (fun k s =>
    let b := off / 65536 + k
    if s.fbit F.RETN_UNVER_UNVER (retnBit d b).1 (retnBit d b).2 then
      (s.unverClear d b).fsetB F.RETN_STATUS_CANCELLED 0 true
    else s) s

/-- SOURCE with which a block of page `p` that has no code of its own is logged: the table of R32 gives none, so the code is
free among those that are produced (log entry 91). -/
def blockSource (p : Nat) : Nat := (Config.blockSource p).toNat % 12

/-- Reading by a block with SOURCE code `src` for its own purposes in a domain SRAM. An uncorrectable error is logged, and the
data is used as read (R484). When the domain of the memory is off or stopped the read fails and is logged (R23); what the block
then takes for data is free (log entry 92). -/
def State.sramOwnRead (s : State) (src a n : Nat) : State × List Byte :=
  let dead := match sramOf a with
    | some (d, _) => !s.domLive (sramDomain d)
    | none => false
  if dead then (s.logBusErr a false src 2, (List.range n).map (fun i => Config.deadByte (a + i)))
  else
    let (s, bad) := s.sramRead a n
    (if bad then s.logBusErr a false src 6 else s, s.bytes a n)

/-- Writing by a block with SOURCE code `src` for its own purposes in a domain SRAM; when its domain is off or stopped the write
fails and is logged (R23). -/
def State.sramOwnWrite (s : State) (src a : Nat) (bs : List Byte) : State :=
  match sramOf a with
  | none => s
  | some (d, o) =>
    if s.domLive (sramDomain d) then ((s.unverWrite d o bs.length).sramWritten a bs.length).putBytes a bs
    else s.logBusErr a true src 2

/-! ### Applying an entry (R459) -/

/-- Apply the entry in DARN_IN: the state and RESULT. -/
def State.darnApply (s : State) : State × Nat :=
  let w (i : Nat) : Nat := (s.reg .DARN_IN i).toNat
  let kind := w 0 % 256
  let flags := w 0 / 256 % 256
  let target := w 1
  let repl := w 2
  let dom := target / 2 ^ 30
  if 65536 ≤ w 0 ∨ 4 ≤ flags then (s, 1)
  else if kind = 1 then
    if 8 < target ∨ repl ≠ 0 then (s, 1)
    else if s.fbit F.DARN_RETIRED_SLICES 0 target then (s, 0)
    else if s.fget F.DARN_SPARES_SLICE = 0 then (s, 2)
    else (s.fsetBit F.DARN_RETIRED_SLICES 0 target true, 0)
  else if kind = 2 then
    let g := target / 16
    let v := 16 + target % 16
    if 191 < target ∨ repl ≠ 0 then (s, 1)
    else if (s.reg .DARN_CELL g).toNat = v then (s, 0)
    else if s.flag F.DARN_CELL_EN g then (s, 2)
    else ((s.setReg .DARN_CELL g (BitVec.ofNat 32 v)).darnDone 2 flags target 0, 0)
  else if kind = 3 then
    if 17 < target ∨ 17 < repl then (s, 1)
    else if s.darn.engines.contains (target, repl) && s.fbit F.DARN_RETIRED_ENGINES 0 target then (s, 0)
    else if s.darn.engines.any (fun x => x.2 == repl && x.1 != target) then (s, 3)
    else if s.fget F.DARN_SPARES_ENGINE = 0 && !s.fbit F.DARN_RETIRED_ENGINES 0 target then (s, 2)
    else
      ({ s with darn := { s.darn with
          engines := s.darn.engines.filter (fun (x : Nat × Nat) => x.1 != target) ++ [(target, repl)] } }.fsetBit
        F.DARN_RETIRED_ENGINES 0 target true, 0)
  else if kind = 4 then
    let p := target / 2 ^ 21 % 512
    let row := target / 2 ^ 12 % 512
    if dom = 3 ∨ target % 4096 ≠ 0 ∨ 7 < repl ∨ sramBanks dom + 2 ≤ p then (s, 1)
    else if s.darn.rows.contains (dom, p, row, repl) then (s, 0)
    else if s.darn.rows.any (fun x => x.1 == dom && x.2.1 == p && x.2.2.2 == repl) then (s, 3)
    else if 8 ≤ s.rowsUsed dom p then (s, 2)
    else ({ s with darn := { s.darn with rows := s.darn.rows ++ [(dom, p, row, repl)] } }, 0)
  else if kind = 5 then
    let b := target % 512
    if dom = 3 ∨ target % 2 ^ 30 / 512 ≠ 0 ∨ sramBanks dom ≤ b ∨ repl < sramBanks dom ∨ sramBanks dom + 2 ≤ repl then (s, 1)
    else if (s.darn.banks ++ s.darn.spent).contains (dom, b, repl) then (s, 0)
    else if (s.darn.banks ++ s.darn.spent).any (fun x => x.1 == dom && x.2.2 == repl) then (s, 3)
    else if (s.freeBank dom).isNone then (s, 2)
    else (s.mapBank dom b repl, 0)
  else if kind = 6 then
    let port := target % 4
    let lane := target / 256 % 4
    if target ≠ port + 256 * lane ∨ lane = 3 ∨ repl ≠ 0 then (s, 1)
    else if s.fbit F.DARN_LNK_BAD 0 (3 * port + lane) then (s, 0)
    else if s.fget F.DARN_LNK_BAD / 2 ^ (3 * port) % 8 ≠ 0 then (s, 2)
    else (s.fsetBit F.DARN_LNK_BAD 0 (3 * port + lane) true, 0)
  else if kind = 7 then
    if target % 16 / 4 ≠ 0 ∨ 65536 ≤ target ∨ repl ≠ 0 then (s, 1)
    else ({ s with darn := { s.darn with hbmLanes := if s.darn.hbmLanes.contains target then s.darn.hbmLanes
                                                     else s.darn.hbmLanes ++ [target] } }, 0)
  else if kind = 8 then
    if repl ≠ 0 then (s, 1)
    else if flags % 2 = 1 && !s.darn.hbmRows.contains target then
      ({ s with darn := { s.darn with hbmRows := s.darn.hbmRows ++ [target] } }, 0)
    else (s, 0)
  else (s, 1)

/-- A write of 1 to DARN_IN_CTRL.APPLY. -/
def State.darnIn (s : State) : State :=
  let (s, r) := s.darnApply
  ((s.fset F.DARN_IN_CTRL_RESULT 0 r).fsetB F.DARN_IN_CTRL_APPLY 0 false).darnShow

end Sys2Proof.Machine
end

