-- ==== Sys2Proof/Machine/Adc.lean ====
section
/-!
DEFINITION. The interleaved converter: correction, calibration, rotation, the drift monitors and the result registers
(R97–R120).
-/

namespace Sys2Proof.Machine

/-! ### Direct writes that came too late for an edge (R236) -/

/-- The bits of a register that lie in ST fields. -/
def Reg.stMask (r : Reg) : Word :=
  r.fields.foldl (fun m f => if f.acc = .st then m ||| maskOf f.lo f.width else m) 0#32

/-- `old` with the bits of `mask` taken from `value`. -/
def swapWord (old mask value : Word) : Word := (old &&& ~~~mask) ||| (value &&& mask)

/-- The registers with ST fields whose direct writes came less than 64 ticks before tick `t`, with the words that they held
before the first such write (R236). -/
def State.lateOld (s : State) (t : Nat) : List (Nat × Word) :=
  (s.late.filter (fun x => decide (t < x.2.2 + 64))).foldl
    (fun xs x => if xs.any (fun y => y.1 == x.1) then xs else xs ++ [(x.1, x.2.1)]) []

/-- The ST fields of the listed registers take their bits from the listed words, but for those that `skip` names. -/
def State.withOld (s : State) (olds : List (Nat × Word)) (skip : Nat → Word) : State :=
  forEach olds (fun (x : Nat × Word) s =>
    match regAt x.1 with
    | some (r, n) => s.setReg r n (swapWord (s.reg r n) (r.stMask &&& ~~~(skip x.1)) x.2)
    | none => s) s

/-- The ST fields of the listed registers take the bits that they have in `live`. -/
def State.putBack (s live : State) (olds : List (Nat × Word)) : State :=
  s.withOld (olds.map (fun x => (x.1, match regAt x.1 with
    | some (r, n) => live.reg r n
    | none => 0#32))) (fun _ => 0#32)

/-! ### Slices and the map -/

/-- The slice of index `p`. -/
def State.slice (s : State) (p : Nat) : Slice := s.adc.slices.getD p Slice.reset

/-- Replace slice `p`. -/
def State.setSlice (s : State) (p : Nat) (x : Slice) : State := { s with adc := { s.adc with slices := setAt Slice.reset s.adc.slices p x } }

/-- STATE of slice `p`: 0 OFF, 1 IN_SERVICE, 2 CALIBRATING, 3 READY, 4 FAILED. -/
def State.sliceState (s : State) (p : Nat) : Nat := s.fget F.ADC_SLICE_STATE p

/-- Physical slice at logical position `l`. -/
def State.slicePos (s : State) (l : Nat) : Nat := bits (s.reg .ADC_SLICE_MAP) (4 * l) 4

/-- The slices of the map. -/
def State.sliceMapped (s : State) (p : Nat) : Bool := (List.range 8).any (fun l => s.slicePos l == p)

/-- Write the map entry of position `l`. -/
def State.setSlicePos (s : State) (l p : Nat) : State :=
  s.setReg .ADC_SLICE_MAP 0 (withBits (s.reg .ADC_SLICE_MAP) (4 * l) 4 p)

/-- NO_SPARE and ADC_ROT.SPARE follow the slice states (R111). After D_ACQ power-on and a soft reset, with every slice OFF, they keep the
reset values of the register tables until a slice first changes its state: R111 would have them 1 and 0xF (DESIGN CHOICE, log entry
115). -/
def State.showSpare (s : State) : State :=
  let out := indices 9 (fun p => s.sliceState p == 2 || s.sliceState p == 3)
  let spare := (out.find? (fun p => !s.sliceMapped p)).getD 0xF
  (s.fsetB F.ADC_STATUS_NO_SPARE 0 (out == [])).fset F.ADC_ROT_SPARE 0 spare

/-- Clear the drift monitor of slice `p` (R110). -/
def State.clearDrift (s : State) (p : Nat) : State :=
  let s := s.setSlice p { s.slice p with acc := [(0, 0), (0, 0), (0, 0)] }
  let s := (s.setReg .ADC_DRIFT_OFS p 0#32).setReg .ADC_DRIFT_GAIN p 0#32
  s.fsetB F.ADC_SLICE_DRIFT_NOW p false

/-- A table write to slice `p` cannot be accepted (R104). -/
def State.wrIgnored (s : State) (p : Nat) : State := (s.fsetB F.ADCCAL_STATUS_WR_IGNORED p true).irq 0x22 1

/-- A SWAP of slice `p` is dropped (R105). -/
def State.swapIgnored (s : State) (p : Nat) : State := (s.fsetB F.ADCCAL_CTRL_SWAP p false).wrIgnored p

/-- Slice `p` becomes CALIBRATING and starts a run; a pending SWAP of it is dropped. -/
def State.startCal (s : State) (p : Nat) : State :=
  let s := if s.flag F.ADCCAL_CTRL_SWAP p then s.swapIgnored p else s
  let s := s.fset F.ADC_SLICE_STATE p 2
  s.setSlice p { s.slice p with fails := 0, running := true, passed := none }

/-- Slice `p` becomes FAILED; `darn` says that it is a new darn (R107, R449). -/
def State.failSlice (s : State) (p : Nat) (darn : Bool) : State :=
  let s := (s.fset F.ADC_SLICE_STATE p 4).irq 0x21 4
  let s := s.setSlice p { s.slice p with running := false, passed := none }
  if darn then (s.fsetBit F.DARN_RETIRED_SLICES 0 p true).darnDone 1 2 p 0 else s

/-! ### Correction tables -/

/-- OFFSET of half `h` of slice `p`. -/
def State.calOffset (s : State) (p h : Nat) : Int := s.fgetI F.ADCCAL_OFFSET_OFFSET (2 * p + h)

/-- Write a fit into half `h` of slice `p`. -/
def State.putFit (s : State) (p h : Nat) (f : CalFit) : State :=
  let s := s.setReg .ADCCAL_OFFSET (2 * p + h) (BitVec.ofNat 32 (toField 24 f.offset))
  let s := s.setReg .ADCCAL_GAIN (2 * p + h) (BitVec.ofNat 32 (f.gain % 2 ^ 24))
  forEach (List.range 16) (fun q s => s.setReg .ADCCAL_LIN (16 * (2 * p + h) + q) (f.lin.getD q 0#32)) s

/-- The acceptance check of R107. -/
def State.fitPasses (s : State) (f : CalFit) : Bool :=
  decide (f.offset.natAbs ≤ 65536) && decide (0x3E0000 ≤ f.gain) && decide (f.gain ≤ 0x420000) &&
    (List.range 16).all (fun q => decide ((signed 16 (f.lin.getD q 0#32).toNat).natAbs ≤ 8192)) &&
    decide (f.zeroDiff ≤ s.fget F.ADC_DRIFT_LIM_OFS_LIM)

/-- The corrected sample of raw code `r` from slice `p`, and its saturation (R102). -/
def State.correct (s : State) (p : Nat) (r : Int) : Int × Bool :=
  let r := saturate 16 r
  let h := s.fget F.ADC_SLICE_HALF p
  let q := ((r + 32768) / 4096).toNat
  let u := r - ((q : Int) * 4096 - 32768)
  let lin := (s.reg .ADCCAL_LIN (16 * (2 * p + h) + q)).toNat
  let d := signed 16 lin + (signed 16 (lin / 65536) * u + 2048) / 4096
  let y := r * 256 + d - s.calOffset p h
  let z := (y * (s.fget F.ADCCAL_GAIN_GAIN (2 * p + h) : Int) + 2097152) / 4194304
  let zs := saturate 24 z
  (zs, decide (zs ≠ z) || r == 32767 || r == -32768)

/-! ### Initial calibration (R112) -/

/-- Initial calibration begins. A slice that it takes out of service has no passing run since (R120). -/
def State.initStart (s : State) : State :=
  let s := { s with adc := { s.adc with init := true, initWait := false, decision := none } }
  let s := (s.fsetB F.ADC_STATUS_INIT_DONE 0 false).setBusy 0x21 true
  let s := forEach (List.range 9) (fun p s =>
    if s.sliceState p = 4 then s
    else if s.fbit F.DARN_RETIRED_SLICES 0 p then s.failSlice p false
    else (if s.sliceState p = 1 then s.fset F.ADC_SLICE_CAL_RUNS p 0 else s).startCal p) s
  s.showSpare

/-- The tables and the map that initial calibration has made govern (R111, R112): the result of each passing slice stands in both
halves, and the first eight usable slices stand at the logical positions, a FAILED one where there are fewer. -/
def State.initApply (s : State) : State :=
  let usable := indices 9 (fun p => (s.slice p).passed.isSome)
  let s := forEach usable (fun p s =>
    match (s.slice p).passed with
    | some f => ((s.putFit p 0 f).putFit p 1 f).setSlice p { s.slice p with passed := none }
    | none => s) s
  let failed := (indices 9 (fun p => s.sliceState p == 4)).headD 0
  let s := forEach (List.range 8) (fun l s => s.setSlicePos l (usable.getD l failed)) s
  let s := forEach (usable.take 8) (fun p s => s.clearDrift p) s
  { s with adc := { s.adc with initWait := false } }.showSpare

/-- Initial calibration ends, if every slice that takes part has passed a run or become FAILED: the slices take their states at
once, and the tables and the map follow at the next edge when the epoch timer is running (R106, R112). -/
def State.initDone (s : State) : State :=
  let open_ := (List.range 9).any (fun p => s.sliceState p == 2 && (s.slice p).passed.isNone)
  if !s.adc.init || open_ || !s.adcClock then s
  else
    let usable := indices 9 (fun p => (s.slice p).passed.isSome)
    let s := { s with adc := { s.adc with init := false } }
    let s := ((s.fsetB F.ADC_STATUS_INIT_DONE 0 true).setBusy 0x21 false).irq 0x21 7
    let s := forEach (usable.take 8) (fun p s =>
      (s.fset F.ADC_SLICE_STATE p 1).setSlice p { s.slice p with running := false }) s
    let s := forEach (usable.drop 8) (fun p s =>
      (s.fset F.ADC_SLICE_STATE p 3).setSlice p { s.slice p with running := true }) s
    let s := s.fsetB F.ADC_STATUS_SHORT 0 (decide (usable.length < 8))
    let s := s.showSpare
    if s.epoch.running then { s with adc := { s.adc with initWait := true } } else s.initApply

/-- A calibration run of slice `p` completes with fit `f` (R106, R107). -/
def State.calRunDone (s : State) (p : Nat) (f : CalFit) : State :=
  let st := s.sliceState p
  let x := s.slice p
  if !x.running || !(st = 2 || st = 3) || !s.adcClock then s
  else if s.fitPasses f then
    let s := s.faddSat F.ADC_SLICE_CAL_RUNS p 1
    if s.adc.init then
      (s.setSlice p { x with fails := 0, running := false, passed := some f }).putFit p (1 - s.fget F.ADC_SLICE_HALF p) f
    else
      let s := s.setSlice p { x with fails := 0 }
      let s := s.putFit p (1 - s.fget F.ADC_SLICE_HALF p) f
      (s.fset F.ADC_SLICE_STATE p 3).showSpare
  else
    let s := (s.fsetB F.ADC_SLICE_CAL_FAIL p true).irq 0x21 3
    if 1 ≤ x.fails then (s.failSlice p true).showSpare
    else s.setSlice p { x with fails := x.fails + 1 }

/-! ### Rotation (R108, R109) -/

/-- The decision for the edge that falls next, if it is a candidate edge of the generator in use (R108, R109). From Evening entry, the
moment at which the step into it begins, none is made while EVE_CAL is 0 (R113). While the map of an initial calibration is still to
come, the slices in service have drift monitors that have just been cleared (R110). -/
def State.rotationDecision (s : State) : State :=
  let n := match s.epoch.edges with
    | (num, _) :: _ => if s.epoch.running then num + 1 else s.epoch.firstNum.getD 0
    | [] => s.epoch.firstNum.getD 0
  let now_ := s.flag F.ADC_CTRL_ROT_NOW
  let g := if now_ then 32 else 32 + s.fget F.ADC_CFG_ROT_SG
  let entered := s.fget F.PWR_STATUS_MODE == 2 || s.power.step.any (fun x => x.2 == 2)
  let evening : Bool := entered && !s.flag F.ADC_CTRL_EVE_CAL
  if n % 2 ^ s.fget F.SEAM_CFG_K g != 0 || evening || !s.domLive .acq || s.epoch.next.isNone then s
  else
    let ready := (indices 9 (fun p => s.sliceState p == 3)).head?
    let on := s.flag F.ADC_CTRL_ROT_EN
    let drift := if s.adc.initWait then none
      else (indices 8 (fun l => s.flag F.ADC_SLICE_DRIFT_NOW (s.slicePos l))).head?
    let rot := match ready with
      | some p => if on && s.flag F.PAGE_CTRL_EN 0x21 then some (drift.getD 8, p) else none
      | none => none
    let s := match rot with
      | some (_, p) => s.setSlice p { s.slice p with running := false }
      | none => s
    { s with adc := { s.adc with decision := some ⟨n, g, now_, rot, on && ready.isNone⟩ } }

/-- A rotation: READY slice `p` takes position `l` (8: the round-robin position). -/
def State.rotate (s : State) (l p : Nat) : State :=
  let rr := s.fget F.ADC_ROT_ROT_NEXT
  let s := if l = 8 then s.fset F.ADC_ROT_ROT_NEXT 0 (rr + 1) else s
  let l := if l = 8 then rr else l
  let old := s.slicePos l
  let s := s.setSlicePos l p
  let s := s.fset F.ADC_SLICE_HALF p (1 - s.fget F.ADC_SLICE_HALF p)
  let s := (s.fset F.ADC_SLICE_STATE p 1).clearDrift p
  let s := (s.fset F.ADC_SLICE_CAL_RUNS old 0).clearDrift old
  let s := if s.sliceState old = 4 then s else s.startCal old
  let s := s.fadd F.ADC_ROT_ROT_COUNT 0 1
  s.showSpare.irq 0x21 0

/-- The seams of epoch edge `n` reach the converter: a decided rotation is carried out or deferred, and requested swaps
take place (R105, R108). -/
def State.adcSeam (s : State) (n : Nat) : State :=
  let s :=
    match s.adc.decision with
    | none => s
    | some ⟨m, g, now_, rot, none_⟩ =>
      let s := { s with adc := { s.adc with decision := none } }
      let hit := m = n && s.seams.contains g
      let s := if hit && now_ then s.fsetB F.ADC_CTRL_ROT_NOW 0 false else s
      let s :=
        match rot with
        | some (l, p) => if hit then s.rotate l p else s
        | none => if hit && none_ then (s.faddSat F.ADC_ROT_ROT_DEFER 0 1).irq 0x21 1 else s
      forEach (indices 9 (fun p => s.sliceState p == 3)) (fun p s =>
        s.setSlice p { s.slice p with running := true }) s
  if s.seams.contains (32 + s.fget F.ADC_CFG_ROT_SG) then
    forEach (List.range 9) (fun p s =>
      let st := s.sliceState p
      if s.flag F.ADCCAL_CTRL_SWAP p && (st = 0 || st = 1 || st = 4) then
        ((s.fset F.ADC_SLICE_HALF p (1 - s.fget F.ADC_SLICE_HALF p)).fsetB F.ADCCAL_CTRL_SWAP p false).irq 0x22 0
      else s) s
  else s

/-- A write of 1 to ADCCAL_CTRLp.SWAP has been stored (R105). -/
def State.swapRequested (s : State) (p : Nat) : State :=
  if s.sliceState p = 2 || s.sliceState p = 3 then s.swapIgnored p else s

/-- Half `h` of slice `p` accepts writes (R104). -/
def State.calHalfOpen (s : State) (p h : Nat) : Bool :=
  let st := s.sliceState p
  h != s.fget F.ADC_SLICE_HALF p && (st == 0 || st == 1 || st == 4)

/-! ### Drift monitors (R110) -/

/-- One corrected reference result of level `lev` (0 zero, 1 +0.75, 2 −0.75) of slice `p`. -/
def State.driftSample (s : State) (p lev : Nat) (x : Int) : State :=
  let n := 2 ^ s.fget F.ADC_CFG_DRIFT_LOG2
  let sl := s.slice p
  let (c, sum) := sl.acc.getD lev (0, 0)
  let acc := if n ≤ c then sl.acc else sl.acc.set lev (c + 1, sum + x)
  if acc.any (fun a => a.1 < n) then s.setSlice p { sl with acc := acc }
  else
    let (c0, s0) := acc.getD 0 (1, 0)
    let (cp, sp) := acc.getD 1 (1, 0)
    let (cm, sm) := acc.getD 2 (1, 0)
    let ofs := (2 * s0 + (c0 : Int)) / (2 * (c0 : Int))
    let den : Int := (cp : Int) * (cm : Int) * 12582912
    let num := (sp * (cm : Int) - sm * (cp : Int) - den) * 4194304
    let gain := (2 * num + den) / (2 * den)
    let now_ := decide (s.fget F.ADC_DRIFT_LIM_OFS_LIM < ofs.natAbs) || decide (s.fget F.ADC_DRIFT_LIM_GAIN_LIM < gain.natAbs)
    let was := s.flag F.ADC_SLICE_DRIFT_NOW p
    let s := s.setSlice p { sl with acc := [(0, 0), (0, 0), (0, 0)] }
    let s := s.setReg .ADC_DRIFT_OFS p (BitVec.ofNat 32 (toField 32 ofs))
    let s := s.setReg .ADC_DRIFT_GAIN p (BitVec.ofNat 32 (toField 32 gain))
    let s := s.fsetB F.ADC_SLICE_DRIFT_NOW p now_
    if now_ && !was then (s.fsetB F.ADC_SLICE_DRIFT p true).irq 0x21 2 else s

/-! ### Result registers (R115–R119) -/

/-- A scan is pending (BUSY of the RESULT page). -/
def State.setScan (s : State) (t : Option Nat) : State :=
  { s with adc := { s.adc with scan := t } }.setBusy 0x23 t.isSome

/-- A trigger from source `src` (1 EVENT, 2 SOFT). -/
def State.scanTrigger (s : State) (src : Nat) : State :=
  if !s.pageEn 0x23 || s.fget F.RESULT_CTRL_TRIG != src then s
  else if s.adc.scan.isSome then (s.fsetB F.RESULT_STATUS_TRIG_MERGED 0 true).irq 0x23 3
  else
    let s := if src = 2 then s.fsetB F.RESULT_START_START 0 true else s
    s.setScan (some s.now)

/-- EN of the RESULT page has become 0: a scan that is pending or under way is abandoned (R116). -/
def State.scanAbandon (s : State) : State :=
  let s := (s.fsetB F.RESULT_START_START 0 false).setScan none
  { s with adc := { s.adc with missed := none },
           epoch := { s.epoch with work := s.epoch.work.map (fun o => { o with scan := none }) } }

/-- Write entry `i` with a value of epoch `num` (R117). -/
def State.putResult (s : State) (i num : Nat) (v : Int) : State :=
  let s := if s.flag F.RESULT_NEW i then (s.fsetBit F.RESULT_OVR_OVR 0 i true).irq 0x23 1 else s
  s.setReg .RESULT i (BitVec.ofNat 32 (2 ^ 31 + (num % 128) * 2 ^ 24 + toField 24 v))

/-- Entry `i` is missed. -/
def State.missResult (s : State) (i : Nat) : State := (s.fsetBit F.RESULT_MISS_MISS 0 i true).irq 0x23 2

/-- Every active CONV and REF entry of a scan has been written or missed (R116). -/
def State.scanDone (s : State) : State := ((s.fsetB F.RESULT_STATUS_SCAN_DONE 0 true).irq 0x23 0).pulse 0x1E3

/-- The slot of channel `c` in epoch `num` when the channels `on` are converted (R98). -/
def slotOf (on : List Nat) (num c : Nat) : Nat :=
  8 + 8 * ((on.filter (fun x => x < c && (x + num) % 8 == (c + num) % 8)).length) + (c + num) % 8

/-- The scan whose epoch `num` begins at tick `t`, in which the channels `on` are converted: its entries as latched now, with their
slots. A CONV entry whose channel is not converted is missed (R116, R117, R119). -/
def State.scanBegin (s : State) (num t : Nat) (on : List Nat) : State × Option (List (Nat × Nat × Nat × Nat)) :=
  let due := match s.adc.scan with
    | some t0 => decide (t0 + 64 ≤ t)
    | none => s.fget F.RESULT_CTRL_TRIG == 0 && num % 2 ^ s.fget F.RESULT_CTRL_EVERY == 0
  if !(s.pageEn 0x23 && due) then (s, none)
  else
    let entry (i : Nat) : Nat × Nat × Nat := (i, s.fget F.RESULT_SEQ_SRC i, s.fget F.RESULT_SEQ_SEL i)
    let all := (List.range (s.fget F.RESULT_CTRL_LEN)).map entry
    let conv := all.filter (fun x => x.2.1 == 1)
    let miss := conv.filter (fun x => !on.contains x.2.2)
    let work := (all.filter (fun x => x.2.1 == 3 || (x.2.1 == 1 && on.contains x.2.2))).map (fun x =>
      (x.1, x.2.1, x.2.2, if x.2.1 = 3 then x.2.2 else slotOf on num x.2.2))
    let s := (s.fsetB F.RESULT_START_START 0 false).setScan none
    let s := forEach miss (fun x (s : State) => s.missResult x.1) s
    if work.isEmpty then (s.scanDone, none) else (s, some work)

/-- A chain output `v` of channel `c` for sample epoch `num` reaches the result registers (R115). -/
def State.chainResult (s : State) (c num : Nat) (v : Int) : State :=
  if !s.pageEn 0x23 then s
  else
    forEach (indices (s.fget F.RESULT_CTRL_LEN) (fun i => s.fget F.RESULT_SEQ_SRC i == 2 && s.fget F.RESULT_SEQ_SEL i == c))
      (fun i s => s.putResult i num v) s

/-! ### One epoch (R97–R103) -/

/-- The sources of the filler conversions in turn: 0 the zero reference, 1 + g the mid-scale reference of a powered group whose
spare cell is idle (R69, R72, R100). -/
def State.fillerSources (s : State) : List Nat :=
  0 :: (indices 12 (fun g => s.fbit F.AIN_GRP_PWR_EN 0 g && !s.flag F.AIN_SPARE_EN g)).map (· + 1)

/-- The filler conversions of logical position `l` in an epoch of `len` slots of which `used` beyond the reference are channel
conversions, as far as `till` ticks have passed (R98, R100): they take the sources in turn, going on from the epoch before. -/
def State.fillers (s : State) (x : Conversions) (l used len till : Nat) : State :=
  let sources := s.fillerSources
  let turn := s.adc.turns.getD l 0
  let count := (len - l - 1) / 8 - used
  let win : Int := (s.fget F.ADC_CFG_MID_WIN * 256 : Nat)
  let mine := x.mids.filter (fun m => m.1 % 8 == l && decide (8 + 8 * used ≤ m.1) && decide (m.1 < len) && decide (m.1 + 40 ≤ till))
  let s := forEach mine (fun m s =>
    let g := sources.getD ((turn + (m.1 / 8 - 1 - used)) % sources.length) 0
    let v := (s.correct (s.slicePos l) m.2).1
    if g != 0 && decide (win < (v.natAbs : Int)) then (s.fsetBit F.ADC_STATUS_GRP_ERR 0 (g - 1) true).irq 0x21 5 else s) s
  { s with adc := { s.adc with turns := setAt 0 s.adc.turns l ((turn + count) % sources.length) } }

/-- The conversions of the epoch `o` whose samples have left the correction stage `till` ticks after its edge (R97–R103): the
corrected samples of its channels with their SAT marks, after the references, the fillers and the scan have had their effects. The
channels whose slots come after the cells have gone to track are not converted (R70), and their entries of a scan are missed (R117). -/
def State.convert (s : State) (o : OpenEpoch) (till : Nat) : State × List (Int × Bool) :=
  let x := o.conv
  let all := if o.on then indices 192 (fun c => s.chEnabled c) else []
  let held (c : Nat) : Bool := o.cut.all (fun k => slotOf all o.num c < k)
  let on := all.filter held
  let samples := (List.range 192).map (fun c =>
    if on.contains c then s.correct (s.slicePos ((c + o.num) % 8)) (x.chan.getD c 0) else (0, false))
  let s := forEach on (fun c s =>
    if (samples.getD c (0, false)).2 && decide (slotOf all o.num c + 40 ≤ till) then
      (s.fsetB F.ADC_SLICE_SAT (s.slicePos ((c + o.num) % 8)) true).irq 0x21 6
    else s) s
  let refs := (List.range 8).map (fun l => (s.correct (s.slicePos l) (x.refs.getD l 0)).1)
  let lev := if o.num % 4 = 1 then 1 else if o.num % 4 = 3 then 2 else 0
  let s := forEach (indices 8 (fun l => decide (l + 40 ≤ till))) (fun l s =>
    let p := s.slicePos l
    if s.sliceState p = 1 then s.driftSample p lev (refs.getD l 0) else s) s
  let len := min s.epochDiv s.epoch.len
  let s := forEach (List.range 8) (fun l s =>
    s.fillers x l (all.filter (fun c => (c + o.num) % 8 == l)).length len till) s
  match o.scan with
  | none => (s, samples)
  | some es =>
    let gone := es.filter (fun e => e.2.1 == 1 && !held e.2.2.1)
    let s := forEach gone (fun e s => s.missResult e.1) s
    let es := es.filter (fun e => !gone.contains e)
    let s := forEach (es.filter (fun e => e.2.2.2 + 40 ≤ till)) (fun e s =>
      s.putResult e.1 o.num (if e.2.1 = 3 then refs.getD e.2.2.1 0 else (samples.getD e.2.2.1 (0, false)).1)) s
    let rest := (es.filter (fun e => till < e.2.2.2 + 40)).map (·.1)
    if rest.isEmpty then (s.scanDone, samples)
    else ({ s with adc := { s.adc with missed := some (s.adc.missed.getD [] ++ rest) } }, samples)

/-- The clocks fail within an epoch (R70, R117): what had left the correction stage stands, the rest of the epoch is discarded, and
no sample of it is produced. -/
def State.epochCut (s : State) : State :=
  match s.epoch.work with
  | none => s
  | some o =>
    let olds := s.lateOld o.tick
    let live := s
    let s := s.withOld olds (fun a => (o.skip.find? (fun x => x.1 == a)).elim 0#32 (·.2))
    let s := (s.convert o (s.now - o.tick)).1.putBack live olds
    { s with epoch := { s.epoch with work := none } }

/-- EN of the AIN page has become 0: all cells go to track, and the values of the epoch not yet converted are lost (R70). -/
def State.cellsTrack (s : State) : State :=
  { s with epoch := { s.epoch with work := s.epoch.work.map (fun o => { o with cut := some (min (o.cut.getD (s.now - o.tick)) (s.now - o.tick)) }) } }

/-- The entries that a failure of the clocks left unwritten are missed when they resume (R117). -/
def State.scanResume (s : State) : State :=
  match s.adc.missed with
  | none => s
  | some es => (forEach es (fun i (s : State) => s.missResult i) { s with adc := { s.adc with missed := none } }).scanDone

/-! ### Power modes, soft reset and clock failure (R112–R114) -/

/-- A soft reset of the ADC page has cleared its registers; `failed` lists the slices that stay FAILED. -/
def State.adcSoftReset (s : State) (failed : List Nat) : State :=
  let s := { s with adc := { s.adc with init := false, initWait := false, decision := none, turns := List.replicate 8 0,
                                        slices := List.replicate 9 Slice.reset } }
  forEach failed (fun p s => s.fset F.ADC_SLICE_STATE p 4) s

/-- Evening entry with EVE_CAL 0: the out-of-service slice is powered down. -/
def State.adcEvening (s : State) : State :=
  if s.flag F.ADC_CTRL_EVE_CAL then s
  else
    (forEach (indices 9 (fun p => (s.sliceState p == 2 || s.sliceState p == 3) && !s.adc.init)) (fun p s =>
      (s.fset F.ADC_SLICE_STATE p 0).setSlice p { s.slice p with running := false }) s).showSpare

/-- Return to Noon: that slice calibrates again (R113). -/
def State.adcNoon (s : State) : State :=
  if s.adc.init || !s.flag F.ADC_STATUS_INIT_DONE then s
  else
    (forEach (indices 9 (fun p => s.sliceState p == 0 && !s.sliceMapped p)) (fun p s => s.startCal p) s).showSpare

/-- The acquisition clocks have failed: runs and decisions are abandoned. -/
def State.adcClockFail (s : State) : State :=
  let s := s.epochCut
  { s with adc := { s.adc with decision := none, slices := s.adc.slices.map (fun x => { x with running := false }) } }

/-- The acquisition clocks have resumed. -/
def State.adcResume (s : State) : State :=
  let s := s.scanResume
  if s.adc.init then s.initStart
  else
    forEach (indices 9 (fun p => s.sliceState p == 2 || s.sliceState p == 3)) (fun p s =>
      s.setSlice p { s.slice p with running := true }) s

end Sys2Proof.Machine
end

