-- ==== Sys2Proof/Machine/Chain.lean ====
section
/-!
DEFINITION. The channel chains and the streams: trim, decimation, frames, stream headers and their FIFOs (R121–R132).
-/

namespace Sys2Proof.Machine

/-- One byte of CRC-32C (R131): reflected, polynomial 0x1EDC_6F41 (0x82F6_3B78 reflected). -/
def crc32cByte (c : Nat) (b : Byte) : Nat :=
  (List.range 8).foldl (fun c _ => if c % 2 = 1 then c / 2 ^^^ 0x82F63B78 else c / 2) (c ^^^ b.toNat)

/-- CRC-32C of a list of bytes. -/
def crc32c (bs : List Byte) : Nat := bs.foldl crc32cByte 0xFFFFFFFF ^^^ 0xFFFFFFFF

/-- Stream `i`. -/
def State.str (s : State) (i : Nat) : StreamSt := s.chains.streams.getD i StreamSt.reset

/-- Replace stream `i`. -/
def State.setStr (s : State) (i : Nat) (x : StreamSt) : State :=
  { s with chains := { s.chains with streams := setAt StreamSt.reset s.chains.streams i x } }

/-- Lane `l`. -/
def State.lane (s : State) (l : Nat) : Lane := s.chains.lanes.getD l Lane.reset

/-- Replace lane `l`. -/
def State.setLane (s : State) (l : Nat) (x : Lane) : State :=
  { s with chains := { s.chains with lanes := setAt Lane.reset s.chains.lanes l x } }

/-! ### Settings -/

/-- The settings that the registers of stream `i` hold; `none` while the stream is not enabled. -/
def State.strSet (s : State) (i : Nat) : Option StrSet :=
  if !(s.flag F.STR_CTRL_EN i && s.pageEn (0x2C + i / 16)) then none
  else
    some ⟨(s.reg .STR_CTRL i).toNat % 2 ^ 31, (s.reg .STR_CFG i).toNat,
      (List.range (s.fget F.STR_CFG_NCH i)).map (fun e => bits (s.reg .STR_CH (4 * i + e / 4)) (8 * (e % 4)) 8)⟩

/-- K of R122. -/
def StrSet.k (x : StrSet) : Nat := x.cfg % 16
/-- SHAFT. -/
def StrSet.shaft (x : StrSet) : Bool := Nat.testBit x.cfg 13
/-- ENG. -/
def StrSet.eng (x : StrSet) : Nat := x.cfg / 2 ^ 8 % 32
/-- LINE. -/
def StrSet.line (x : StrSet) : Nat := x.cfg / 2 ^ 24 % 64
/-- DEST_LINE. -/
def StrSet.toLine (x : StrSet) : Bool := Nat.testBit x.ctrl 1
/-- DEST_RESULT. -/
def StrSet.toResult (x : StrSet) : Bool := Nat.testBit x.ctrl 2
/-- TAG_LOG2. -/
def StrSet.tagLog2 (x : StrSet) : Nat := x.ctrl / 2 ^ 8 % 16
/-- HDR_LOG2. -/
def StrSet.hdrLog2 (x : StrSet) : Nat := x.ctrl / 2 ^ 16 % 32

/-! ### The decimation chain (R122) -/

/-- One in 2^-40. -/
def tapUnit : Int := 2 ^ 40

/-- Tap of a half-band stage at distance `d` from the centre: 1/2 at the centre, 0 at every other even distance, free at the odd
ones 1 to 7, and at 9 what makes the taps add up to 1, so that the gain at DC is exactly 1. -/
def halfTaps (d : Nat) : Int :=
  let free (i : Nat) : Int := if h : i < 4 then Config.halfTap ⟨i, h⟩ else 0
  if d = 0 then tapUnit / 2
  else if d % 2 = 0 then 0
  else if d = 9 then tapUnit / 4 - ((List.range 4).map free).foldl (· + ·) 0
  else free ((d - 1) / 2)

/-- Tap of the last stage at distance `d` from the centre: free, and at the centre what makes the taps add up to 1. -/
def lastTaps (d : Nat) : Int :=
  let free (i : Nat) : Int := if h : i < 47 then Config.lastTap ⟨i, h⟩ else 0
  if d = 0 then tapUnit - 2 * ((List.range 47).map free).foldl (· + ·) 0 else free (d - 1)

/-- One stage that decimates by two: the sums of `2 c + 1` samples weighted by the symmetric taps, two samples apart. -/
def firStage (taps : Nat → Int) (c : Nat) : Nat → List Int → List Int
  | 0, _ => []
  | fuel + 1, xs =>
    if xs.length < 2 * c + 1 then []
    else
      ((xs.take (2 * c + 1)).zipIdx.foldl (fun (a : Int) x => a + taps (max (x.2 - c) (c - x.2)) * x.1) 0) ::
        firStage taps c fuel (xs.drop 2)

/-- The cascade for decimation by 2^k over the samples of a span: k − 1 half-band stages, then the last one. Intermediate values
are exact, in 2^-40 more for each stage. -/
def chainStages : Nat → List Int → List Int
  | 0, xs => xs
  | 1, xs => firStage lastTaps 47 xs.length xs
  | k + 1, xs => chainStages k (firStage halfTaps 9 xs.length xs)

/-- The output of the chain for decimation by 2^k, rounded to nearest with halves up, before it saturates; a sample that the chain
did not take counts as 0. -/
def chainFilter (k : Nat) (xs : List (Option Int)) : Int :=
  roundShift (40 * k) ((chainStages k (xs.map (·.getD 0))).headD 0)

/-- Group delay D in epochs (R122). -/
def delayOf (k : Nat) : Nat := if k = 0 then 0 else 28 * 2 ^ k - 9

/-- The first multiple of 2^k at or after `n`. -/
def firstMultiple (k n : Nat) : Nat := (n + 2 ^ k - 1) / 2 ^ k * 2 ^ k

/-! ### The history of epochs -/

/-- Record of epoch `num`. -/
def State.epochRec (s : State) (num : Nat) : Option EpochRec := s.chains.hist.find? (fun r => r.num == num)

/-- Sample of channel `c` in a record. -/
def EpochRec.sample (r : EpochRec) (c : Nat) : Option (Int × Bool) := (r.smp.find? (fun x => x.1 == c)).map (·.2)

/-- The trimmed sample of channel `c` in epoch `num` (R121). -/
def State.trimmed (s : State) (num c : Nat) (x : Int × Bool) : Int × Bool :=
  let g := c / 16
  let spare := s.flag F.AIN_SPARE_EN g && s.fget F.AIN_SPARE_PIN g == c % 16
  let ofs := if spare then (if num % 2 = 1 then s.fgetI F.SPARE_TRIM_OFS1 g else s.fgetI F.SPARE_TRIM_OFS0 g)
    else (if num % 2 = 1 then s.fgetI F.CH_TRIM_OFS1 c else s.fgetI F.CH_TRIM_OFS0 c)
  let v := x.1 - ofs
  let vs := saturate 24 v
  (vs, x.2 || decide (vs ≠ v))

/-- Qualifier of an engine's state (R61). -/
def State.qualifier (s : State) (n : Nat) : Nat :=
  let st := s.fget F.ANG_STATUS_STATE n
  if st = 2 then 0 else if st = 3 then 1 else 2

/-- Record the epoch `o` and forget what lies before the span of every K, which a stream that is yet to be enabled may ask for (R130). -/
def State.recordEpoch (s : State) (o : OpenEpoch) (samples : List (Int × Bool)) : State :=
  let num := o.num
  let enabled := indices 192 (fun c => s.chEnabled c)
  let rec_ : EpochRec := ⟨num, s.epoch.stepped, s.epochDiv, o.lost, o.moved,
    enabled.map (fun c => (c, s.trimmed num c (samples.getD c (0, false)))),
    (List.range 32).map (fun n => (s.get64 .ANG_POS_LO .ANG_POS_HI n, o.quals.getD n 2, (s.reg .ANG_SPEED n).toNat))⟩
  let deep := 2 * delayOf 10 + 2
  { s with chains := { s.chains with hist := rec_ :: s.chains.hist.filter (fun r => num ≤ r.num + deep) } }

/-! ### Frames -/

/-- The output of the chain of channel `c` for sample epoch `ns` (R122–R124): value and marks (bit 3 SAT, 2 MOD_LOST,
1 SETTLING, 0 STEPPED); `none` when the channel's samples do not exist. The chain takes no sample from before its start epoch;
SAT looks at every conversion of the span (R130). -/
def State.chainOutput (s : State) (c k ns start : Nat) : Option (Int × Nat) :=
  let d := delayOf k
  let span := (List.range (2 * d + 1)).map (fun i => s.epochRec (ns + d - i))
  let smp := span.map (fun r => match r with
    | some r => if start ≤ r.num then r.sample c else none
    | none => none)
  match s.epochRec ns with
  | none => none
  | some r0 =>
    if (r0.sample c).isNone || !s.pageEn (0x24 + c / 24) then none
    else
      let raw := if k = 0 then ((r0.sample c).getD (0, false)).1 else chainFilter k (smp.map (fun x => x.map (·.1)))
      let v := saturate 24 raw
      let sat := decide (v ≠ raw) || span.any (fun r => match r.bind (·.sample c) with
        | some y => y.2
        | none => false)
      let stepped := span.any (fun r => match r with
        | some r => r.stepped
        | none => false)
      let settling := k != 0 && decide (ns < start + d)
      some (v, (if sat then 8 else 0) + (if Nat.testBit r0.lost (c / 16) then 4 else 0) +
        (if settling then 2 else 0) + (if stepped then 1 else 0))

/-- A sample word (R130). -/
def sampleWord (v : Int) (marks qual : Nat) : Nat := toField 24 v * 256 + marks * 16 + qual * 4

/-- The stream header before the frame with sequence number `seq` (R131); `div` is DIV in force at its sample epoch. -/
def State.streamHeader (s : State) (i : Nat) (x : StrSet) (div seq ns angle reason : Nat) : List Byte :=
  let pad {α : Type} (n : Nat) (z : α) (xs : List α) : List α := (xs ++ List.replicate n z).take n
  let valid (c : Nat) : Bool := s.fget F.AIN_MOD_STATE_STATE (c / 16) == 2
  let lost := ((List.range x.chans.length).filter (fun j => !valid (x.chans.getD j 0))).foldl (fun a j => a + 2 ^ j) 0
  let body := [1, i, x.chans.length, x.k, (if x.shaft then 128 else 0) + x.eng, x.tagLog2].flatMap (leBytes 1) ++
    leBytes 2 div ++ leBytes 8 seq ++ leBytes 8 ns ++ leBytes 8 angle ++
    pad 16 (0xFF#8) (x.chans.flatMap (leBytes 1)) ++
    pad 64 (0#8) (x.chans.flatMap (fun c => if valid c then leBytes 4 (s.reg .CH_GAIN c).toNat else leBytes 4 0)) ++
    pad 64 (0#8) (x.chans.flatMap (fun c => if valid c then leBytes 4 (s.reg .CH_OFFSET c).toNat else leBytes 4 0)) ++
    leBytes 2 reason ++ leBytes 2 lost ++ leBytes 8 0
  body ++ leBytes 4 (crc32c body)

/-- Bytes waiting in a FIFO. -/
def fifoBytes (xs : List LineItem) : Nat := xs.foldl (fun a x => a + x.bytes.length) 0

/-- A frame of stream `i` cannot go to its line (R129). -/
def State.dropFrame (s : State) (i : Nat) : State :=
  let x := s.str i
  let s := s.setStr i { x with reasons := x.reasons ||| 8 }
  let s := s.faddSat F.STR_STATUS_DROP_COUNT i 1
  (s.fsetB F.STR_STATUS_DROP i true).irq (0x2C + i / 16) (i % 16)

/-- Sequence number, angle and words of a frame go to the line of the stream (R129–R131). -/
def State.frameToLine (s : State) (i : Nat) (set : StrSet) (div seq ns angle : Nat) (words : List Nat) : State :=
  let x := s.str i
  let periodic := set.hdrLog2 < 31 && seq % 2 ^ set.hdrLog2 == 0
  let reason := x.reasons ||| (if periodic then 16 else 0) ||| (if s.flag F.STR_CTRL_HDR_NOW i then 32 else 0)
  let tag := set.tagLog2 ≤ 7 && seq % 2 ^ set.tagLog2 == 0
  let frame := (if tag then leBytes 8 angle else []) ++ words.flatMap (leBytes 4)
  let item (bs : List Byte) : LineItem := ⟨set.line, i, set.k, set.chans, ns, angle, false, bs⟩
  let items := (if reason = 0 then [] else [item (s.streamHeader i set div seq ns angle reason)]) ++ [item frame]
  if 16384 < fifoBytes x.fifo + fifoBytes items then s.dropFrame i
  else
    let s := s.setStr i { x with reasons := 0, fifo := x.fifo ++ items }
    if reason = 0 then s else (s.fadd F.STR_HDR_CNT_COUNT i 1).fsetB F.STR_CTRL_HDR_NOW i false

/-- A frame reaches the lanes whose source is stream `i` (R129, R140). -/
def State.frameToLanes (s : State) (i : Nat) (f : LaneFrame) : State :=
  forEach (indices 16 (fun l => s.flag F.RL_CTRL_EN l && s.pageEn (0x30 + l / 8) && s.fget F.RL_CFG_SRC l == i))
    (fun l s =>
      let x := s.lane l
      if 128 ≤ x.fifo.length then
        ((s.setLane l { x with frames := [], point := none, part := none }).fsetB F.RL_STATUS_OVR l true
          |>.fset F.RL_STATUS_STATE l 1).irq (0x30 + l / 8) (16 + l % 8)
      else s.setLane l { x with fifo := x.fifo ++ [f] }) s

/-- One frame of stream `i` for sample epoch `ns` of `run` (R125–R131); its number is consumed whatever becomes of it. -/
def State.strFrame (s : State) (i : Nat) (run : StrRun) (ns : Nat) : State :=
  let x := s.str i
  let seq := x.seq
  let s := s.setStr i { x with seq := seq + 1 }
  let outs := ((List.range run.set.chans.length).map (fun j =>
    s.chainOutput (run.set.chans.getD j 0) run.set.k ns (run.starts.getD j 0)))
  match s.epochRec ns with
  | none => s.setStr i { s.str i with reasons := (s.str i).reasons ||| 8 }
  | some r =>
    if outs.any (·.isNone) then s.setStr i { s.str i with reasons := (s.str i).reasons ||| 8 }
    else
      let vals := outs.map (fun o => (o.getD (0, 0)).1)
      let marks := outs.map (fun o => (o.getD (0, 0)).2)
      let (ang, qual, speed) := if run.set.shaft then r.ang.getD run.set.eng (0, 2, 0) else (0, 2, 0)
      let x := s.str i
      let since := x.lastNs.getD ns
      let moved := s.chains.hist.any (fun r => decide (since < r.num) && decide (r.num ≤ ns) &&
        run.set.chans.any (fun c => Nat.testBit r.moved (c / 16)))
      let s := s.setStr i { x with lastNs := some ns, reasons := if moved then x.reasons ||| 4 else x.reasons }
      let s := forEach (List.range run.set.chans.length) (fun j s =>
        let c := run.set.chans.getD j 0
        let m := marks.getD j 0
        let s := if 8 ≤ m then (s.fsetB F.CH_STAT_SAT c true).irq (0x24 + c / 24) 0 else s
        if run.set.toResult then s.chainResult c ns (vals.getD j 0) else s) s
      let s := if run.set.shaft then s.frameToLanes i ⟨seq, ns, ang, qual, speed, vals, marks,
        { run.set with ctrl := 0, cfg := run.set.k }⟩ else s
      if run.set.toLine then
        s.frameToLine i run.set r.div seq ns ang ((List.range vals.length).map (fun j =>
          sampleWord (vals.getD j 0) (marks.getD j 0) qual))
      else s.setStr i { s.str i with reasons := 0 }

/-! ### Settings change at an edge (R124, R127) -/

/-- How many sample epochs a run still has to produce before `upto`. -/
def StrRun.left (r : StrRun) (upto : Nat) : Nat := (upto + 2 ^ r.set.k - 1 - r.next) / 2 ^ r.set.k

/-- Sequence number of the first frame of stream `i` whose sample epoch is `num` or later. -/
def State.seqFrom (s : State) (i num : Nat) : Nat :=
  let x := s.str i
  x.seq + (x.old.elim 0 (fun r => r.left (min num (r.upto.getD num)))) + x.cur.elim 0 (fun r => r.left num)

/-- The outstanding frames of a run of stream `i` up to `upto` are not produced; their numbers are consumed. -/
def State.cutRun (s : State) (i : Nat) (r : StrRun) (upto : Nat) : State :=
  let x := s.str i
  s.setStr i { x with seq := x.seq + r.left upto, reasons := x.reasons ||| 8 }

/-- CH_STAT of the members of stream `i`. -/
def State.bindMembers (s : State) (i : Nat) (set : Option StrSet) (on : Bool) : State :=
  match set with
  | none => s
  | some x => forEach x.chans (fun c s =>
      if on then (s.fset F.CH_STAT_STREAM c i).fsetB F.CH_STAT_BOUND c true
      else (s.fsetB F.CH_STAT_BOUND c false).fsetB F.CH_STAT_SETTLING c false) s

/-- The settings of stream `i` at edge `num`: a change ends the frames of the old settings and begins those of the new. The header
reasons of the new settings wait until the frames of the old ones are out, so that they precede the first new frame; those that a
change before it left waiting come with the next frame (R131). -/
def State.strSettings (s : State) (num i : Nat) : State :=
  let x := s.str i
  let new := s.strSet i
  if x.cur.map (·.set) = new && !s.chains.restart then s
  else
    -- frames cut by a restart of the timer, or by a further press while FINISHING
    let s := match x.old with
      | some r =>
        let s := s.cutRun i r (r.upto.getD num)
        if s.chains.restart then s else (s.fsetB F.STR_STATUS_CUT i true).irq (0x2C + i / 16) (i % 16)
      | none => s
    let x := s.str i
    let oldRun := if s.chains.restart then none
      else (x.cur.filter (fun r => r.left num != 0)).map (fun r => { r with upto := some num })
    let s := match x.cur with
      | some r => if s.chains.restart then s.cutRun i r num else s
      | none => s
    let started : Nat := if x.cur.isNone && new.isSome then 1 else 0
    let config : Nat := if x.cur.isSome && new.isSome && decide (x.cur.map (·.set) ≠ new) then 2 else 0
    let cur := new.map (fun set =>
      ({ set := set, next := firstMultiple set.k num, upto := none,
         starts := set.chans.map (fun c =>
           match x.cur with
           | some r =>
             if s.chains.restart || r.set.k != set.k then num
             else
               match (r.set.chans.zip r.starts).find? (fun y => y.1 == c) with
               | some y => y.2
               | none => num
           | none => num) } : StrRun))
    let s := s.bindMembers i (x.cur.map (·.set)) false
    let y := s.str i
    let due := y.reasons ||| y.later
    let s := s.setStr i (if oldRun.isSome then { y with old := oldRun, cur := cur, reasons := due, later := started ||| config }
      else { y with old := oldRun, cur := cur, reasons := due ||| started ||| config, later := 0 })
    (s.fsetB F.STR_STATUS_ACTIVE i new.isSome).fsetB F.STR_STATUS_FINISHING i oldRun.isSome

/-- Produce the frames of a run that are ready after epoch `num`; `fuel` bounds their number. -/
def State.runFrames (s : State) (i num : Nat) : Nat → StrRun → State × StrRun
  | 0, r => (s, r)
  | fuel + 1, r =>
    let past := match r.upto with
      | some u => decide (u ≤ r.next)
      | none => false
    if past || num < r.next + delayOf r.set.k then (s, r)
    else (s.strFrame i r r.next).runFrames i num fuel { r with next := r.next + 2 ^ r.set.k }

/-- The frames of stream `i` after epoch `num` has been converted, the old settings first (R127). -/
def State.strFrames (s : State) (num i : Nat) : State :=
  let x := s.str i
  let s :=
    match x.old with
    | none => s
    | some r =>
      let (s, r) := s.runFrames i num (num + 2 - r.next) r
      let done := decide (r.upto.getD 0 ≤ r.next)
      let y := s.str i
      let y := if done then { y with old := none, reasons := y.reasons ||| y.later, later := 0 } else { y with old := some r }
      (s.setStr i y).fsetB F.STR_STATUS_FINISHING i (!done)
  let x := s.str i
  match x.old, x.cur with
  | none, some r =>
    let (s, r) := s.runFrames i num (num + 2 - r.next) r
    let s := s.setStr i { s.str i with cur := some r }
    forEach (List.range r.set.chans.length) (fun j s =>
      s.fsetB F.CH_STAT_SETTLING (r.set.chans.getD j 0)
        (r.set.k != 0 && decide (r.next < r.starts.getD j 0 + delayOf r.set.k))) s
  | _, _ => s

/-- Stream `i` has something to do: it is clocked, and it is enabled or has frames to finish. -/
def State.strLive (s : State) (i : Nat) : Bool :=
  s.pageClocked (0x2C + i / 16) && ((s.str i).cur.isSome || (s.str i).old.isSome || s.flag F.STR_CTRL_EN i)

/-- All streams at edge `num`: the settings, the members that they bind, and the sequence numbers that the registers show. -/
def State.strBegin (s : State) (num : Nat) : State :=
  let s := forEach (List.range 64) (fun i s => if s.strLive i then s.strSettings num i else s) s
  let s := forEach (List.range 64) (fun i s => s.bindMembers i ((s.str i).cur.map (·.set)) true) s
  let s := { s with chains := { s.chains with restart := false } }
  forEach (List.range 64) (fun i s => s.set64 .STR_SEQ_LO .STR_SEQ_HI i (s.str i).seq) s

/-- All streams at the end of the epoch `o`: its samples are recorded, and the frames whose span ends with it are produced
(R123). -/
def State.strEnd (s : State) (o : OpenEpoch) (samples : List (Int × Bool)) : State :=
  let s := s.recordEpoch o samples
  forEach (List.range 64) (fun i s => if s.strLive i then s.strFrames o.num i else s) s

end Sys2Proof.Machine
end

