-- ==== Sys2Proof/Machine/Lane.lean ====
section
/-!
DEFINITION. The resampler lanes: states, points, records, the table halves and their swap (R133–R142).
-/

namespace Sys2Proof.Machine

/-! ### Tables -/

/-- Entry `e` of half `h` of lane `l`. -/
def State.rlEntry (s : State) (l h e : Nat) : Nat := tblGet (s.lane l).table (128 * h + e)

/-- RL_FILL follows the entries written (R137). -/
def State.showFill (s : State) (l : Nat) : State := s.fset F.RL_FILL_FILL l (s.lane l).written.length

/-- INDEX of RL_TBL_IDX after an access to RL_TBL_DATA. -/
def State.rlAdvance (s : State) (l : Nat) : State :=
  if s.flag F.RL_TBL_IDX_AUTOINC l then
    let i := s.fget F.RL_TBL_IDX_INDEX l
    s.fset F.RL_TBL_IDX_INDEX l (if 82 ≤ i then 0 else i + 1)
  else s

/-- BUSY of RSMP page `p`: a COPY runs in it. -/
def State.rsmpBusy (s : State) (p : Nat) : State :=
  s.setBusy (0x30 + p) ((List.range 8).any (fun j => s.flag F.RL_CTRL_COPY (8 * p + j)))

/-- The halves of lane `l` swap; `rev` is the seam number with the number of the first frame from the seam's epoch on, `none` while
the lane is OFF (R138). -/
def State.rlSwapNow (s : State) (l : Nat) (rev : Option (Nat × Nat)) : State :=
  let h := 1 - s.fget F.RL_STATUS_HALF l
  let x := s.lane l
  let swaps := match rev with
    | some r => x.swaps ++ [(r.1, r.2, h)]
    | none => []
  let s := s.setLane l { x with written := [], swaps := swaps }
  let s := (s.fset F.RL_STATUS_HALF l h).fsetB F.RL_CTRL_SWAP l false
  (s.showFill l).irq (0x30 + l / 8) (8 + l % 8)

/-- A requested swap of a lane that is OFF is carried out at once, as soon as the half is full (R138). -/
def State.rlSwapOff (s : State) (l : Nat) : State :=
  if s.flag F.RL_CTRL_SWAP l && s.fget F.RL_STATUS_STATE l == 0 && s.fget F.RL_FILL_FILL l == 83 then s.rlSwapNow l none else s

/-- A write to RL_TBL_DATA of lane `l` (R137). -/
def State.rlWrite (s : State) (l : Nat) (v : Word) : State :=
  if s.flag F.RL_CTRL_COPY l then s
  else
    let h := 1 - s.fget F.RL_STATUS_HALF l
    let i := s.fget F.RL_TBL_IDX_INDEX l
    let x := s.lane l
    let s := s.setLane l { x with table := tblPut x.table (128 * h + i) v.toNat,
                                  written := if x.written.contains i then x.written else x.written ++ [i] }
    ((s.showFill l).rlAdvance l).rlSwapOff l

/-- The copy of lane `l` completes (R137). -/
def State.rlCopyDone (s : State) (l : Nat) : State :=
  if !s.flag F.RL_CTRL_COPY l then s
  else
    let h := s.fget F.RL_STATUS_HALF l
    let x := s.lane l
    let table := (List.range 83).foldl (fun t e => tblPut t (128 * (1 - h) + e) (tblGet x.table (128 * h + e))) x.table
    let s := s.setLane l { x with table := table, written := List.range 83 }
    (((s.showFill l).fsetB F.RL_CTRL_COPY l false).rsmpBusy (l / 8)).rlSwapOff l

/-- The seams of the epoch edge `num` reach lane `l` (R138). -/
def State.rlSeam (s : State) (l num : Nat) : State :=
  let src := s.fget F.RL_CFG_SRC l
  let eng := s.fget F.STR_CFG_ENG src
  if s.flag F.RL_CTRL_SWAP l && s.flag F.STR_CFG_SHAFT src && s.seams.contains eng && s.fget F.RL_STATUS_STATE l != 0 then
    if s.fget F.RL_FILL_FILL l = 83 then s.rlSwapNow l (some (s.get64 .SEAM_NUM_LO .SEAM_NUM_HI eng, s.seqFrom src num))
    else s.faddSat F.RL_STATUS_TBL_DEFER l 1
  else s

/-- A point at angle `phi` (2^-32 revolution) between the frames numbered `a` and `b` lies at or beyond the seam of the swap `x`: both
frames come from before the seam's epoch, or from then on, or the seam falls between them and the angles compare, on their 64 bits
(R33, R138). -/
def swapPassed (x : Nat × Nat × Nat) (phi a b : Nat) : Bool :=
  decide (x.2.1 ≤ a) ||
    (decide (x.2.1 ≤ b) && decide ((phi % 2 ^ 64 + 2 ^ 64 - x.1 % 2 ^ 32 * 2 ^ 32) % 2 ^ 64 < 2 ^ 63))

/-- The half that governs a point at angle `phi` between the frames numbered `a` and `b`: that of the last swap whose seam the point
has reached (R138). -/
def State.rlHalfAt (s : State) (l phi a b : Nat) : Nat :=
  match (s.lane l).swaps with
  | [] => s.fget F.RL_STATUS_HALF l
  | x :: rest => (x :: rest).foldl (fun acc x => if swapPassed x phi a b then x.2.2 else acc) (1 - x.2.2)

/-- The swaps that every point from frame `a` on has passed are forgotten. -/
def State.rlForget (s : State) (l a : Nat) : State :=
  let x := s.lane l
  s.setLane l { x with swaps := x.swaps.dropWhile (fun y => y.2.1 ≤ a) }

/-! ### Points (R133, R134, R139) -/

/-- Output value of member `m` at a point: `mu` is the fraction between frames i and i + 1, `xs` the 72 frame values from
i − 35 to i + 36, `half` the governing table. Exact to the final rounding. -/
def State.rlPoint (s : State) (l half mu : Nat) (xs : List Int) : Int :=
  let band (k : Nat) : Int := signed 32 (s.rlEntry l half k)
  let far (p t : Nat) : Int := signed 32 (s.rlEntry l half (33 + 8 * p + t))
  let x (i : Nat) : Int := xs.getD i 0
  -- b[t] uses raw frames (i - 3 + t) - 32 … (i - 3 + t) + 32, that is list positions t … t + 64
  let b (t : Nat) : Int := (List.range 65).foldl (fun a u => a + band (if u ≤ 32 then u else 64 - u) * x (t + u)) 0
  let bs := (List.range 8).map b
  let c (p : Nat) : Int := (List.range 8).foldl (fun a t => a + far p t * bs.getD t 0) 0
  let num := (List.range 6).foldl (fun (a : Int) p => a + c p * (mu : Int) ^ p * (2 ^ (32 * (5 - p)) : Nat)) 0
  let den : Int := (2 ^ 220 : Nat)
  (2 * num + den) / (2 * den)

/-- The window of a lane: the last 72 frames, oldest first. -/
def Lane.window (x : Lane) : List LaneFrame := x.frames.drop (x.frames.length - 72)

/-- The points of lane `l` that lie between frames i and i + 1 of the window, from the lane's next point on. -/
def State.rlPoints (s : State) (l : Nat) : List Nat :=
  let x := s.lane l
  let m := x.grid.1
  let w := x.window
  let z : LaneFrame := ⟨0, 0, 0, 2, 0, [], [], ⟨0, 0, []⟩⟩
  let a := (w.getD 35 z).angle
  let b := (w.getD 36 z).angle
  let step := 2 ^ (32 - m)
  let j0 := (a + step - 1) / step
  let j1 := (b + step - 1) / step
  match x.point with
  | none => []
  | some p => (List.range (j1 - j0)).map (· + j0) |>.filter (fun j => p ≤ j)

/-- The domain of the destination of lane `l` answers (R141). -/
def State.rlDestOk (s : State) (l : Nat) : Bool :=
  let d := s.fget F.RL_CTRL_DEST l
  if d = 1 then s.domLive .ana else s.domLive .acq

/-- A break: a lane that is not OFF returns to WAIT and the record in progress is discarded (R135, R136). -/
def State.rlBreak (s : State) (l : Nat) (frames : List LaneFrame) : State :=
  if s.fget F.RL_STATUS_STATE l = 0 then s
  else (s.setLane l { s.lane l with frames := frames, point := none, part := none }).fset F.RL_STATUS_STATE l 1

/-- A record is complete and is emitted, with the M, the REC_LOG2 and the members that its points have (R135, R141). -/
def State.rlEmit (s : State) (l : Nat) (r : LaneRec) (ang : Nat) : State :=
  let x := s.lane l
  let (m, rl) := x.grid
  let src := s.fget F.RL_CFG_SRC l
  let nch := r.chans.length
  if !s.rlDestOk l then
    ((s.rlBreak l []).fsetB F.RL_STATUS_DEST_OFF l true).irq (0x30 + l / 8) (16 + l % 8)
  else
    let gap := match x.last with
      | some p => decide (p + 1 ≠ r.first)
      | none => true
    let flags := r.flags ||| (if gap then 4 else 0)
    let words := r.words.flatMap (leBytes 4)
    let head := [2, l, src, m, rl, nch].flatMap (leBytes 1) ++ leBytes 2 flags ++ leBytes 8 x.seq ++ leBytes 8 ang ++
      leBytes 4 r.ns
    let bytes := head ++ leBytes 4 (crc32c (head ++ words)) ++ words
    let x := { x with seq := x.seq + 1, part := none, last := some (r.first + 2 ^ rl - 1) }
    let s :=
      if s.fget F.RL_CTRL_DEST l = 0 then
        s.setLane l { x with out := x.out ++ [⟨s.fget F.RL_CFG_LINE l, 64 + l, m,
          r.chans, r.ns, ang, false, bytes⟩] }
      else
        let s := s.setLane l x
        let base := if s.fget F.RL_CTRL_DEST l = 1 then sramBase 2 else sramBase 1
        let k := s.fget F.RL_RING_WR_INDEX l
        let a := base + 32 * s.fget F.RL_RING_BASE_BASE l + k * (32 + 4 * nch * 2 ^ rl)
        let s := s.sramOwnWrite 10 a bytes
        s.fset F.RL_RING_WR_INDEX l (if s.fget F.RL_RING_RECS_RECS l ≤ k + 1 then 0 else k + 1)
    s.pulse (0x150 + l)

/-- Compute point `j` of lane `l` between frames i and i + 1 of the window. -/
def State.rlOnePoint (s : State) (l j : Nat) : State :=
  if s.fget F.RL_STATUS_STATE l != 2 then s
  else
    let x := s.lane l
    let w := x.window
    let (m, rl) := x.grid
    let z : LaneFrame := ⟨0, 0, 0, 2, 0, [], [], ⟨0, 0, []⟩⟩
    let fi := w.getD 35 z
    let fn := w.getD 36 z
    let phi := j * 2 ^ (32 - m)
    let mu := ((phi - fi.angle) * 2 ^ 32) / (fn.angle - fi.angle)
    let half := s.rlHalfAt l phi fi.seq fn.seq
    let lo := s.rlEntry l half 81
    let hi := s.rlEntry l half 82
    let risk := decide (hi < lo) || decide (fi.speed < lo) || decide (hi < fi.speed)
    let coasted := fi.qual == 1 || fn.qual == 1
    let words := (List.range fi.vals.length).map (fun k =>
      let y := s.rlPoint l half mu (w.map (fun f => f.vals.getD k 0))
      let ys := saturate 24 y
      let marks := w.foldl (fun a f => a ||| f.marks.getD k 0) (if ys = y then 0 else 8)
      (sampleWord ys marks (if coasted then 1 else 0), marks))
    let marks := words.foldl (fun a p => a ||| p.2) 0
    let bit (n : Nat) (b : Bool) : Nat := if b then 2 ^ n else 0
    let flags := bit 0 risk + bit 1 coasted + bit 3 (half == 1) + bit 4 (Nat.testBit marks 3) + bit 5 (Nat.testBit marks 2) +
      bit 6 (Nat.testBit marks 1) + bit 7 (Nat.testBit marks 0)
    let s := s.fsetB F.RL_STATUS_ALIAS_RISK l risk
    let s := if risk then (s.fsetB F.RL_STATUS_ALIAS_SEEN l true).irq (0x30 + l / 8) (l % 8) else s
    let start := j % 2 ^ rl = 0
    let r : Option LaneRec := if start then some ⟨j, fi.ns, fi.key.chans, 0, []⟩ else x.part
    let s := s.setLane l { s.lane l with point := some (j + 1) }
    match r with
    | none => s
    | some r =>
      let r := { r with flags := r.flags ||| flags, words := r.words ++ words.map (·.1) }
      if j + 1 = r.first + 2 ^ rl then s.rlEmit l r ((r.first * 2 ^ (32 - m)) % 2 ^ 64)
      else s.setLane l { s.lane l with part := some r }

/-- Two successive angle steps differ by more than a factor of two (R135). -/
def stepBreak (a b c : Nat) : Bool :=
  let p : Int := (b : Int) - (a : Int)
  let q : Int := (c : Int) - (b : Int)
  decide (2 * p < q) || decide (2 * q < p)

/-- The first multiple of 2^r at or after point `j` of the grid 2^m, for a point at angle `a`: the first record that begins there. -/
def recordPoint (m r a : Nat) : Nat :=
  let step := 2 ^ (32 - m) * 2 ^ r
  (a + step - 1) / step * 2 ^ r

/-- Lane `l` counts its points by the M and REC_LOG2 in force. When a press has changed them, the record in progress is discarded
and the lane goes on with the first record of the new grid at or after its next point (DESIGN CHOICE, log entry 102). -/
def State.rlGrid (s : State) (l : Nat) : State :=
  let x := s.lane l
  let g := (s.fget F.RL_CFG_M l, s.fget F.RL_CFG_REC_LOG2 l)
  if x.grid = g then s
  else
    s.setLane l { x with grid := g, part := none, last := none,
                         point := x.point.map (fun p => recordPoint g.1 g.2 (p * 2 ^ (32 - x.grid.1))) }

/-- The angle of a frame after one at the extended angle `p`: it goes on from there, modulo 2^64 (R33); `none` when it falls. -/
def angleAfter (p a : Nat) : Option Nat :=
  let d := (a % 2 ^ 64 + 2 ^ 64 - p % 2 ^ 64) % 2 ^ 64
  if d < 2 ^ 63 then some (p + d) else none

/-- The next frame of the FIFO of lane `l` is taken (R136): breaks, the state, and the points that become computable. -/
def State.laneFrame (s : State) (l : Nat) : State :=
  let s := s.rlGrid l
  let x := s.lane l
  let run := s.flag F.RL_CTRL_EN l && s.pageEn (0x30 + l / 8)
  match x.fifo with
  | [] => s
  | f :: rest =>
    if !run || x.out != [] then s
    else
      let s := s.setLane l { x with fifo := rest }
      let prev := x.frames.getLast?
      let prev2 := x.frames.dropLast.getLast?
      let broken := match prev with
        | none => false
        | some p =>
          p.seq + 1 != f.seq || p.key != f.key ||
          (match angleAfter p.angle f.angle with
           | none => true
           | some a =>
             match prev2 with
             | some q => stepBreak q.angle p.angle a
             | none => false)
      if f.qual = 2 then s.rlBreak l []
      else if !s.rlDestOk l then
        ((s.rlBreak l []).fsetB F.RL_STATUS_DEST_OFF l true).irq (0x30 + l / 8) (16 + l % 8)
      else if broken then s.rlBreak l [f]
      else
        let f := match prev with
          | some p => { f with angle := (angleAfter p.angle f.angle).getD f.angle }
          | none => f
        let frames := (x.frames ++ [f]).drop ((x.frames.length + 1) - 72)
        let s := s.setLane l { s.lane l with frames := frames }
        let s :=
          if s.fget F.RL_STATUS_STATE l != 2 && frames.length = 72 then
            let g := (s.lane l).grid
            (s.setLane l { s.lane l with point := some (recordPoint g.1 g.2 (frames.getD 35 f).angle) }).fset F.RL_STATUS_STATE l 2
          else s
        if s.fget F.RL_STATUS_STATE l = 2 then
          (forEach (s.rlPoints l) (fun j s => s.rlOnePoint l j) s).rlForget l ((s.lane l).window.getD 35 f).seq
        else s

/-- Lane `l` becomes OFF when EN or its page's EN is 0 (R136). -/
def State.rlOff (s : State) (l : Nat) : State :=
  if (s.flag F.RL_CTRL_EN l && s.pageEn (0x30 + l / 8)) || s.fget F.RL_STATUS_STATE l == 0 then s
  else
    ((s.setLane l { s.lane l with fifo := [], frames := [], point := none, part := none }).fset F.RL_STATUS_STATE l 0).rlSwapOff l

/-- Lane `l` at an epoch edge: EN in force and the record number that the registers show (R136). -/
def State.rlEdge (s : State) (l : Nat) : State :=
  let s := s.set64 .RL_SEQ_LO .RL_SEQ_HI l (s.lane l).seq
  if !s.pageClocked (0x30 + l / 8) then s
  else
    let s := s.rlOff l
    if s.flag F.RL_CTRL_EN l && s.pageEn (0x30 + l / 8) && s.fget F.RL_STATUS_STATE l == 0 then
      (s.setLane l { s.lane l with frames := [], point := none, part := none }).fset F.RL_STATUS_STATE l 1
    else s

end Sys2Proof.Machine
end

