-- ==== Sys2Proof/Machine/Line.lean ====
section
/-!
DEFINITION. The lines in HBM: blocks, the ring and its hem, pegs, the short line, the fetch engine, the HBM controllers, the
rinse and the traffic governor (R144–R172).
-/

namespace Sys2Proof.Machine

/-! ### Sets of blocks as disjoint rising intervals -/

/-- Add the interval `[a, b)`. -/
def ivAdd : List (Nat × Nat) → Nat → Nat → List (Nat × Nat)
  | [], a, b => if a < b then [(a, b)] else []
  | (x, y) :: r, a, b =>
    if b ≤ a then (x, y) :: r
    else if b < x then (a, b) :: (x, y) :: r
    else if y < a then (x, y) :: ivAdd r a b
    else ivAdd r (min a x) (max b y)

/-- How many members of the set lie in `[a, b)`. -/
def ivCount (xs : List (Nat × Nat)) (a b : Nat) : Nat := xs.foldl (fun n x => n + (min b x.2 - max a x.1)) 0

/-- Add the circular run of `count` blocks from `first` in a ring of `b` blocks. -/
def ivAddRun (b : Nat) (xs : List (Nat × Nat)) (first count : Nat) : List (Nat × Nat) :=
  if first + count ≤ b then ivAdd xs first (first + count) else ivAdd (ivAdd xs first b) 0 (first + count - b)

/-- How many members of the set the circular run holds. -/
def ivCountRun (b : Nat) (xs : List (Nat × Nat)) (first count : Nat) : Nat :=
  if first + count ≤ b then ivCount xs first (first + count) else ivCount xs first b + ivCount xs 0 (first + count - b)

/-! ### HBM addresses and errors (R162, R165) -/

/-- u of R162 for a fabric address. -/
def hbmU (a : Nat) : Nat :=
  let g := a / 4096
  g % 128 ^^^ (g / 2 ^ 7 % 128) ^^^ (g / 2 ^ 14 % 128)

/-- Stack of an HBM address. -/
def hbmStackOf (a : Nat) : Nat := hbmU a / 32

/-- TARGET of an HBM_ROW darn for an address (R457). -/
def hbmRowTarget (a : Nat) : Nat :=
  let u := hbmU a
  (u / 32) * 2 ^ 30 + (u / 2 % 16) * 2 ^ 26 + (u % 2) * 2 ^ 25 +
    Config.hbmBankRow (a / 4096 / 128 * 4096 + a % 4096) % 2 ^ 24

/-- An uncorrectable HBM error at `a` is counted and logged; `src` is the SRC code (R165), and calls for a row repair
(R449). -/
def State.hbmUncorr (s : State) (a src : Nat) : State :=
  let x := hbmStackOf a
  let s := s.faddSat F.HBMC_ECC_UE_COUNT x 1
  let s :=
    if s.flag F.HBMC_UE_INFO_VALID x then s.fsetB F.HBMC_UE_INFO_OVF x true
    else
      let s := s.setReg .HBMC_UE_ADDR_LO x (BitVec.ofNat 32 a)
      let s := s.setReg .HBMC_UE_ADDR_HI x (BitVec.ofNat 32 (a / 2 ^ 32 % 2 ^ 16))
      ((s.fset F.HBMC_UE_INFO_SRC x src).fsetB F.HBMC_UE_INFO_VALID x true).irq (0x3A + x) 0
  let t := hbmRowTarget a
  if s.darn.hbmRows.contains t then s
  else { s with darn := { s.darn with hbmRows := s.darn.hbmRows ++ [t] } }.darnLog 8 3 t 0

/-- A read of `n` bytes of HBM at `a` meets the stored check bits: the answer says whether a word was uncorrectable. -/
def State.hbmRead (s : State) (a n src : Nat) : State × Bool :=
  let words := (List.range ((a % 32 + n + 31) / 32)).map (fun i => a / 32 * 32 + 32 * i)
  words.foldl (fun acc w =>
    match acc.1.ecc.find? (fun x => x.1 == w) with
    | none => acc
    | some (_, true) => (acc.1.hbmUncorr w src, true)
    | some (_, false) => (acc.1.faddSat F.HBMC_ECC_CE_COUNT (hbmStackOf w) 1, acc.2)) (s, false)

/-- A write of whole 256-bit words stores new check bits. -/
def State.hbmWritten (s : State) (a n : Nat) : State :=
  { s with ecc := s.ecc.filter (fun x => !(a / 32 * 32 ≤ x.1 && x.1 < a + n)) }

/-- HBM is in service (R163). -/
def State.hbmUp (s : State) : Bool := s.flag F.GOV_STATUS_HBM_UP

/-- A request of `n` bytes of class `c` is admitted in the window (R169), by the limits that govern it (R170). Class 4 is the
rinse, which has no limit of its own. -/
def State.govFits (s : State) (c n : Nat) : Bool :=
  let lim := if c < 4 then s.lines.gov.getD (c + 1) 0 else 0
  decide (s.lines.used + n ≤ s.lines.gov.getD 0 0 * 1000) &&
    (lim == 0 || decide (s.lines.cls.getD c 0 + n ≤ lim * 1000))

/-- `n` bytes of class `c` are counted in the window. -/
def State.govTake (s : State) (c n : Nat) : State :=
  { s with lines := { s.lines with used := s.lines.used + n, cls := setAt 0 s.lines.cls c (s.lines.cls.getD c 0 + n) } }

/-- A request of `n` bytes of class `c`, 1 or above, that `owner` makes (R169). The answer says whether it is admitted now: it was
admitted while it waited, or it fits and none of its class waits. Otherwise it waits. -/
def State.govAsk (s : State) (c n owner : Nat) : State × Bool :=
  if s.lines.grants.contains owner then ({ s with lines := { s.lines with grants := s.lines.grants.erase owner } }, true)
  else if s.lines.owed.any (fun x => x.owner == owner) then (s, false)
  else if s.govFits c n && !s.lines.owed.any (fun x => x.cls == c) then (s.govTake c n, true)
  else ({ s with lines := { s.lines with owed := s.lines.owed ++ [⟨c, n, owner⟩], waited := true } }, false)

/-- `owner` no longer makes the request that waits or that has been admitted. -/
def State.govForget (s : State) (owner : Nat) : State :=
  { s with lines := { s.lines with owed := s.lines.owed.filter (fun x => x.owner != owner),
                                   grants := s.lines.grants.filter (fun x => x != owner) } }

/-- Admit the waiting requests of class `c`, oldest first, while they fit (R169). -/
def State.govOwed (s : State) (c : Nat) : Nat → State
  | 0 => s
  | fuel + 1 =>
    match s.lines.owed.find? (fun x => x.cls == c) with
    | none => s
    | some x =>
      if s.govFits c x.size then
        let t := s.govTake c x.size
        { t with lines := { t.lines with owed := s.lines.owed.erase x, grants := t.lines.grants ++ [x.owner] } }.govOwed c fuel
      else s

/-- Admit the blocks that wait in the line writer, which are class 0, while they fit (R169). -/
def State.govAdmit (s : State) : Nat → State
  | 0 => s
  | fuel + 1 =>
    match s.lines.waiting with
    | [] => s
    | (a, bs) :: rest =>
      if s.govFits 0 4096 then
        let s := ((s.govTake 0 4096).hbmWritten a 4096).putBytes a bs
        { s with lines := { s.lines with waiting := rest } }.govAdmit fuel
      else { s with lines := { s.lines with waited := true } }

/-! ### Lines -/

/-- Line `l`. -/
def State.line (s : State) (l : Nat) : Line := s.lines.lines.getD l Line.reset

/-- Replace line `l`. -/
def State.setLine (s : State) (l : Nat) (x : Line) : State := { s with lines := { s.lines with lines := setAt Line.reset s.lines.lines l x } }

/-- B of R144. -/
def State.lineB (s : State) (l : Nat) : Nat := s.fget F.LINE_SIZE_UNITS l * 512

/-- Line `l` is enabled. -/
def State.lineOn (s : State) (l : Nat) : Bool := s.flag F.LINE_CTRL_EN l && s.pageEn 0x38

/-- Peg `p`. -/
def State.peg (s : State) (p : Nat) : Peg := s.lines.pegs.getD p Peg.reset

/-- A peg covers a run. -/
def Peg.covers (p : Peg) : Bool := p.state == 1 || p.state == 3

/-- The blocks of line `l` that pegs protect, without peg `but`. -/
def State.protectedBut (s : State) (l but : Nat) : List (Nat × Nat) :=
  (List.range 256).foldl (fun xs i =>
    let p := s.peg i
    if i != but && p.covers && p.line == l then ivAddRun (s.lineB l) xs p.first p.count else xs) []

/-- The protected blocks of line `l`. -/
def State.protectedOf (s : State) (l : Nat) : List (Nat × Nat) := s.protectedBut l 256

/-- Unpegged blocks, FILLED and LINE_AVAIL of line `l` (R150). -/
def State.lineShow (s : State) (l : Nat) : State :=
  let b := s.lineB l
  let pr := s.protectedOf l
  let both := (s.line l).written.foldl (fun xs x => ivAdd xs x.1 x.2) pr
  let s := s.fset F.LINE_AVAIL_UNPEGGED l (b - ivCount pr 0 b)
  s.fsetB F.LINE_STATUS_FILLED l (s.flag F.LINE_CTRL_EN l && ivCount both 0 b == b)

/-- PENDING and USED of LINE_WSTATE. -/
def State.lineWShow (s : State) : State :=
  let s := s.fset F.LINE_WSTATE_USED 0 s.lines.short.length
  s.fset F.LINE_WSTATE_PENDING 0 (min 255 (s.lines.waiting.length + s.lines.short.length))

/-- The first block at or after `b` in ring order that no peg protects, with whether protected blocks were passed. -/
def nextUnpegged (n : Nat) (pr : List (Nat × Nat)) : Nat → Nat → Bool → Nat × Bool
  | 0, b, k => (b, k)
  | fuel + 1, b, k =>
    match pr.find? (fun x => x.1 ≤ b && b < x.2) with
    | some x => nextUnpegged n pr fuel (x.2 % (max 1 n)) true
    | none => (b, k)

/-- `d` blocks further on in the ring of `n`, at `pos`, `need` unpegged blocks are still to be found: the distance to the last of
them, or `n` where one lap holds fewer. A step passes one run of pegged or of unpegged blocks. -/
def hemWalk (n : Nat) (pr : List (Nat × Nat)) : Nat → Nat → Nat → Nat → Nat
  | 0, _, d, _ => d
  | fuel + 1, pos, d, need =>
    if need = 0 then d
    else if n ≤ d then n
    else
      match pr.find? (fun x => x.1 ≤ pos && pos < x.2) with
      | some x => hemWalk n pr fuel (x.2 % max 1 n) (d + (x.2 - pos)) need
      | none =>
        let stop := (pr.filter (fun x => pos < x.1)).foldl (fun m x => min m x.1) n
        let run := stop - pos
        if need ≤ run then min n (d + need) else hemWalk n pr fuel (stop % max 1 n) (d + run) (need - run)

/-- Distance from the open block of line `l` to the last block of its hem (R150). -/
def State.hemSpan (s : State) (l : Nat) : Nat :=
  let b := s.lineB l
  let pr := s.protectedOf l
  hemWalk b pr (2 * pr.length + 4) ((s.fget F.LINE_WR_INDEX l + 1) % max 1 b) 0 (s.fget F.LINE_CTRL_HEM l - 1)

/-- Block `i` of line `l` is in the hem. -/
def State.inHem (s : State) (l i : Nat) : Bool :=
  let b := s.lineB l
  let d := (i + b - s.fget F.LINE_WR_INDEX l) % max 1 b
  d == 0 || (decide (d ≤ s.hemSpan l) && ivCount (s.protectedOf l) i (i + 1) == 0)

/-- The state that the table of R159 gives the line writer now. -/
def State.writerNext (s : State) : Nat :=
  let st := s.fget F.LINE_WSTATE_STATE
  if !s.domLive .acq then st
  else if !s.hbmUp then 1
  else if st = 1 then (if s.lines.short = [] then 0 else 2)
  else if st = 2 && s.lines.short == [] then 0 else st

/-- The rows of R159 are evaluated: at a block completion and at a change of HBM_UP. -/
def State.writerState (s : State) : State :=
  if s.writerNext = s.fget F.LINE_WSTATE_STATE then s else (s.fset F.LINE_WSTATE_STATE 0 s.writerNext).irq 0x38 1

/-! ### Pegs growing (R155) -/

/-- The pegs that grow on line `l`. -/
def State.growing (s : State) (l : Nat) : List Nat :=
  indices 256 (fun i => (s.peg i).state == 3 && (s.peg i).line == l)

/-- One more block of peg `i` would leave its line fewer than HEM + 2 unpegged blocks. -/
def State.pegTight (s : State) (i : Nat) : Bool :=
  let p := s.peg i
  let b := s.lineB p.line
  decide (b < ivCount (ivAddRun b (s.protectedOf p.line) ((p.first + p.count) % max 1 b) 1) 0 b +
    s.fget F.LINE_CTRL_HEM p.line + 2)

/-- The growth of peg `i` ends: GROWING to HELD. -/
def State.pegHold (s : State) (i : Nat) (short : Bool) : State :=
  { s with lines := { s.lines with pegs := setAt Peg.reset s.lines.pegs i { s.peg i with state := 1, shortened := short } } }.irq 0x39 0

/-- The growing pegs of line `l` that can take no further block stop. -/
def State.pegSettle (s : State) (l : Nat) : State :=
  forEach (s.growing l) (fun i s => if s.pegTight i then s.pegHold i true else s) s

/-- A completion at block `b` of line `l` reaches the growing pegs. -/
def State.pegGrow (s : State) (l b : Nat) : State :=
  forEach (s.growing l) (fun i s =>
    let p := s.peg i
    if (p.first + p.count) % max 1 (s.lineB l) ≠ b then s
    else if s.pegTight i then s.pegHold i true
    else { s with lines := { s.lines with pegs := setAt Peg.reset s.lines.pegs i { p with count := p.count + 1 } } }) s

/-- The growing pegs of line `l` stop where they must; `next` is the block the writer opens. -/
def State.pegStop (s : State) (l next : Nat) : State :=
  let s := forEach (s.growing l) (fun i s =>
    let p := s.peg i
    if p.base + p.after ≤ p.count then s.pegHold i false
    else if (p.first + p.count) % max 1 (s.lineB l) ≠ next then s.pegHold i true else s) s
  s.pegSettle l

/-! ### Blocks (R145–R149) -/

/-- The 4,096 bytes of a block: header with CRC, payload padded with zeros. -/
def blockBytes (word0 seq epoch angle : Nat) (payload : List Byte) : List Byte :=
  let body := (payload ++ List.replicate 4064 0#8).take 4064
  let head := leBytes 8 word0 ++ leBytes 6 seq ++ leBytes 6 epoch ++ leBytes 8 angle
  head ++ leBytes 4 (crc32c (head ++ body)) ++ body

/-- A completed block takes the open block's place in line `l`, and the writer opens the next (R149). -/
def State.placeBlock (s : State) (l : Nat) (bytes : List Byte) : State :=
  let n := s.lineB l
  let b := s.fget F.LINE_WR_INDEX l
  let x := s.line l
  let s := s.setLine l { x with written := ivAdd x.written b (b + 1) }
  let s := if x.skip then s.fadd F.LINE_STATUS_SKIPS l 1 else s
  let s := { s with lines := { s.lines with
    waiting := s.lines.waiting ++ [(s.fget F.LINE_BASE_UNITS l * 2 ^ 21 + 4096 * b, bytes)] } }
  let s := s.pegGrow l b
  let (next, skip) := nextUnpegged n (s.protectedOf l) 600 ((b + 1) % max 1 n) false
  let s := s.pegStop l next
  let s := (s.fset F.LINE_WR_INDEX l next).setLine l { s.line l with skip := skip }
  let s := if s.hbmUp then s.govAdmit 1 else s
  (s.lineShow l).lineWShow

/-- A block of line `l` goes to the tail of the short line (R159, R160). -/
def State.toShort (s : State) (l : Nat) (bytes : List Byte) : State :=
  let count := s.fget F.LINE_SHORT_COUNT
  let drop (s : State) : State := (s.faddSat F.LINE_SHORT_DROP_COUNT 0 1).irq 0x38 3
  let put (s : State) : State :=
    let slot := s.lines.slot
    let a := sramBase 1 + (s.fget F.LINE_SHORT_BASE + slot) * 4096
    let s := s.sramOwnWrite 9 a bytes
    { s with lines := { s.lines with short := s.lines.short ++ [(l, slot)], slot := if count ≤ slot + 1 then 0 else slot + 1 } }
  if count = 0 then drop s
  else if count ≤ s.lines.short.length then
    if s.flag F.LINE_SHORT_KEEP then
      drop (put { s with lines := { s.lines with short := s.lines.short.tail } })
    else drop s
  else
    let s := put s
    let wm := s.fget F.LINE_SHORT_WM_WM
    let s := s.lineWShow
    if wm != 0 && s.lines.short.length == wm then (s.irq 0x38 2).pulse 0x1E2 else s

/-- The module positions that are VALID now. -/
def State.validNow (s : State) : Nat :=
  ((List.range 12).filter (fun m => s.fget F.AIN_MOD_STATE_STATE m == 2)).foldl (fun a m => a + 2 ^ m) 0

/-- The open block of line `l` is complete (R146–R149, R159). -/
def State.completeBlock (s : State) (l : Nat) : State :=
  let x := s.line l
  let s := s.writerState
  let st := s.fget F.LINE_WSTATE_STATE
  let seq := s.get64 .LINE_SEQ_LO .LINE_SEQ_HI l
  let (ofs, ep, ang) := match x.first with
    | some f => f
    | none => (0xFFF, x.start.1, x.start.2)
  let (w, rate, mask) := x.head
  let word0 := l + (w / 64) * 2 ^ 6 + (w % 64) * 2 ^ 7 + rate * 2 ^ 13 + (if x.skip && st == 0 then 2 ^ 20 else 0) + x.payload.length * 2 ^ 22 +
    ofs * 2 ^ 34 + mask * 2 ^ 46
  let bytes := blockBytes word0 (seq % 2 ^ 48) (ep % 2 ^ 48) ang x.payload
  let s := s.set64 .LINE_SEQ_LO .LINE_SEQ_HI l ((seq + 1) % 2 ^ 48)
  let s := s.setLine l { x with payload := [], first := none, start := x.item, valid := s.validNow }
  let s := if st = 0 then s.placeBlock l bytes else s.toShort l bytes
  s.lineWShow

/-- The writer has room for a completed block (R151). -/
def State.lineRoom (s : State) : Bool := s.writerNext != 0 || decide (s.lines.waiting.length < 32)

/-- Place bytes of an item; what finds no room comes back (R145, R151). -/
def State.placeBytes (s : State) (it : LineItem) : Nat → List Byte → State × List Byte
  | 0, bs => (s, bs)
  | _, [] => (s, [])
  | fuel + 1, bs =>
    if !s.lineRoom then (s, bs)
    else
      let l := it.line
      let x := s.line l
      let mask := ((List.range it.chans.length).filter (fun i => x.valid.testBit (it.chans.getD i 0 / 16))).foldl
        (fun a i => a + 2 ^ i) 0
      let x := if x.payload = [] then { x with head := (it.writer, it.rate, mask), start := x.item } else x
      let room := 4064 - x.payload.length
      let s := s.setLine l { x with payload := x.payload ++ bs.take room }
      let s := if room ≤ bs.length then s.completeBlock l else s
      s.placeBytes it fuel (bs.drop room)

/-- The FIFO of source `src`: a stream, or lane `src - 64`. -/
def State.lineFifo (s : State) (src : Nat) : List LineItem :=
  if src < 64 then (s.str src).fifo else (s.lane (src - 64)).out

/-- Replace the FIFO of source `src`. -/
def State.setLineFifo (s : State) (src : Nat) (xs : List LineItem) : State :=
  if src < 64 then s.setStr src { s.str src with fifo := xs } else s.setLane (src - 64) { s.lane (src - 64) with out := xs }

/-- A flush of line `l` that has been asked for is done when the writer has room and no item of a former writer waits. -/
def State.lineFlush (s : State) (l : Nat) : State :=
  let x := s.line l
  let waits := (List.range 80).any (fun i => (s.lineFifo i).any (fun it => it.line == l))
  if !(s.flag F.LINE_CTRL_FLUSH l || (x.flush && !waits)) || !s.lineRoom then s
  else
    let s := if x.payload = [] then s else s.completeBlock l
    (s.setLine l { s.line l with flush := false }).fsetB F.LINE_CTRL_FLUSH l false

/-- The writer takes an item from source `src` (R145, R152). -/
def State.lineItem (s : State) (src : Nat) : State :=
  match s.lineFifo src with
  | [] => s
  | it :: rest =>
    let l := it.line
    if !s.lineOn l then
      ((s.setLineFifo src rest).fsetB F.LINE_STATUS_DISCARD l true).irq 0x38 5
    else if !s.lineRoom then s
    else
      let x := s.line l
      let s := if it.begun then s
        else
          let x := if x.payload = [] then { x with start := (it.epoch, it.angle) } else x
          let fst := x.first.getD (x.payload.length, it.epoch, it.angle)
          s.setLine l { x with item := (it.epoch, it.angle), first := some fst }
      let (s, left) := s.placeBytes it (it.bytes.length / 4064 + 2) it.bytes
      let s := s.setLineFifo src (if left = [] then rest else { it with bytes := left, begun := true } :: rest)
      s.lineFlush l

/-- The writers of the lines as they stand: a line whose writer has gone is flushed (R145). A line that another writer takes with
no byte in its open block opens that block now. -/
def State.lineWriters (s : State) : State :=
  let strLine (i : Nat) : List Nat := ((s.str i).cur.toList.filter (fun r => r.set.toLine)).map (fun r => r.set.line)
  let strOld (i : Nat) : List Nat := ((s.str i).old.toList.filter (fun r => r.set.toLine)).map (fun r => r.set.line)
  let rl (i : Nat) : List Nat :=
    if s.flag F.RL_CTRL_EN i && s.pageEn (0x30 + i / 8) && s.fget F.RL_CTRL_DEST i == 0 then [s.fget F.RL_CFG_LINE i] else []
  let strs := (List.range 64).flatMap (fun i => (strOld i ++ strLine i).map (fun l => (l, i)))
  let rls := (List.range 16).flatMap (fun i => (rl i).map (fun l => (l, 64 + i)))
  let all := strs ++ rls
  forEach (List.range 64) (fun l s =>
    let w := (all.find? (fun y => y.1 == l)).map (fun y => y.2)
    let x := s.line l
    if x.bound = w then s
    else
      let s := (s.setLine l { x with bound := w, flush := x.flush || x.bound.isSome }).lineFlush l
      let x := s.line l
      if x.payload = [] then s.setLine l { x with valid := s.validNow } else s) s

/-- The epoch under way ends (R97–R132): the settings that held at its edge are those of its conversions, samples and frames (R236),
which go on to the streams, the lanes and the line writer. -/
def State.epochClose (s : State) : State :=
  match s.epoch.work with
  | none => s
  | some o =>
    let olds := s.lateOld o.tick
    let live := s
    let s := s.withOld olds (fun a => (o.skip.find? (fun x => x.1 == a)).elim 0#32 (·.2))
    let (s, samples) := s.convert o (2 ^ 32)
    let s := if o.on && o.cut.isNone then s.strEnd o samples else { s with chains := { s.chains with restart := s.chains.restart || o.on } }
    let s := s.putBack live olds
    { s with epoch := { s.epoch with work := none } }.lineWriters

/-- LINE_CTRL.EN of line `l` has changed from `old` (R144, R148, R150). -/
def State.lineEnabled (s : State) (l : Nat) (old : Bool) : State :=
  let new := s.flag F.LINE_CTRL_EN l
  if new && !old then
    let w := if s.flag F.LINE_CTRL_FRESH l then [] else [(0, s.lineB l)]
    (s.setLine l { Line.reset with written := w, bound := (s.line l).bound, valid := s.validNow }).lineShow l
  else if old && !new then (s.setLine l { Line.reset with bound := (s.line l).bound }).lineShow l
  else s

/-- The oldest block of the short line moves to its line (R159). -/
def State.drainBlock (s : State) : State :=
  match s.lines.short with
  | [] => s
  | (l, slot) :: rest =>
    if s.fget F.LINE_WSTATE_STATE != 2 || 32 ≤ s.lines.waiting.length then s
    else
      let s := { s with lines := { s.lines with short := rest } }
      let a := sramBase 1 + (s.fget F.LINE_SHORT_BASE + slot) * 4096
      let s :=
        if s.lineOn l then
          let (s, bs) := s.sramOwnRead 9 a 4096
          let w0 := ofLeBytes (bs.take 8)
          let w0 := w0 - (w0 / 2 ^ 20 % 4) * 2 ^ 20 + 2 ^ 21 + (if (s.line l).skip then 2 ^ 20 else 0)
          let head := leBytes 8 w0 ++ (bs.drop 8).take 20
          s.placeBlock l (head ++ leBytes 4 (crc32c (head ++ bs.drop 32)) ++ bs.drop 32)
        else (s.faddSat F.LINE_SHORT_DROP_COUNT 0 1).irq 0x38 3
      s.lineWShow

/-! ### Peg commands (R153, R154) -/

/-- The peg that PEG_SEL names. -/
def State.pegSel (s : State) : Nat := s.fget F.PEG_SEL_PEG

/-- Store peg `i`; PEG_BUSY and the line's counts follow. -/
def State.putPeg (s : State) (i : Nat) (p : Peg) : State :=
  let s := { s with lines := { s.lines with pegs := setAt Peg.reset s.lines.pegs i p } }
  (s.fsetBit F.PEG_BUSY_BUSY (i / 32) (i % 32) (p.state != 0)).lineShow p.line

/-- A command to peg `i` is refused for `reason`. -/
def State.pegRefuse (s : State) (i reason : Nat) : State :=
  let s := { s with lines := { s.lines with pegs := setAt Peg.reset s.lines.pegs i { s.peg i with reason := reason } } }
  (s.fsetB F.PEG_STATUS_REFUSED 0 true).irq 0x39 1

/-- SET of peg `i`. -/
def State.pegSet (s : State) (i : Nat) : State :=
  let p := s.peg i
  let b := s.lineB p.line
  let run := ivAddRun b (s.protectedOf p.line) p.first p.count
  if !s.lineOn p.line then s.pegRefuse i 1
  else if b ≤ p.first ∨ p.count = 0 ∨ b < p.count then s.pegRefuse i 2
  else if ivCountRun b (s.line p.line).written p.first p.count ≠ p.count then s.pegRefuse i 3
  else if b < ivCount run 0 b + s.fget F.LINE_CTRL_HEM p.line + 2 then s.pegRefuse i 4
  else if p.state ≠ 0 then s.pegRefuse i 5
  else (s.putPeg i { p with state := 1, clipped := false, shortened := false }).pegSettle p.line

/-- ARM of peg `i`. -/
def State.pegArm (s : State) (i : Nat) : State :=
  let p := s.peg i
  if !s.lineOn p.line then s.pegRefuse i 1
  else if s.lineB p.line < p.before + p.after + s.fget F.LINE_CTRL_HEM p.line + 2 then s.pegRefuse i 2
  else if p.state ≠ 0 then s.pegRefuse i 5
  else s.putPeg i { p with state := 2, clipped := false, shortened := false }

/-- BEFORE′ may be `k` for peg `i` (R155). -/
def State.beforeOk (s : State) (i k : Nat) : Bool :=
  let p := s.peg i
  let b := s.lineB p.line
  let wr := s.fget F.LINE_WR_INDEX p.line
  let first := (wr + b - k % max 1 b) % max 1 b
  let pr := s.protectedBut p.line i
  decide (k + s.hemSpan p.line < b) && ivCountRun b (s.line p.line).written first k == k &&
    ivCountRun b pr first k == 0 &&
    decide (ivCount (ivAddRun b pr first k) 0 b + s.fget F.LINE_CTRL_HEM p.line + 2 ≤ b)

/-- Largest `k` in `[lo, hi]` with `beforeOk`, which holds of `lo`; `fuel` halvings. -/
def State.beforeMax (s : State) (i : Nat) : Nat → Nat → Nat → Nat
  | 0, lo, _ => lo
  | fuel + 1, lo, hi =>
    if hi ≤ lo then lo
    else
      let mid := (lo + hi + 1) / 2
      if s.beforeOk i mid then s.beforeMax i fuel mid hi else s.beforeMax i fuel lo (mid - 1)

/-- Growth of the ARMED peg `i` begins (R155). -/
def State.pegStart (s : State) (i : Nat) : State :=
  let p := s.peg i
  let b := s.lineB p.line
  let k := s.beforeMax i 27 0 p.before
  let first := (s.fget F.LINE_WR_INDEX p.line + b - k) % max 1 b
  (s.putPeg i { p with first := first, count := k, base := k, clipped := decide (k < p.before),
                       state := if p.after = 0 then 1 else 3 }).pegSettle p.line

/-- FIRE of peg `i`. -/
def State.pegFire (s : State) (i : Nat) : State := if (s.peg i).state = 2 then s.pegStart i else s.pegRefuse i 5

/-- RELEASE of peg `i`. -/
def State.pegRelease (s : State) (i : Nat) : State :=
  if (s.peg i).state = 0 then s.pegRefuse i 5 else s.putPeg i { s.peg i with state := 0 }

/-- A trigger on task input PEG_TRIGt (R156). -/
def State.pegTrigger (s : State) (t : Nat) : State :=
  let i := s.fget F.PEG_TRIG_PEG t
  if s.flag F.PEG_TRIG_EN t && s.pageEn 0x39 && (s.peg i).state == 2 then s.pegStart i
  else (s.fsetB F.PEG_STATUS_TRIG_IGNORED 0 true).irq 0x39 2

/-- A command word written to PEG_CMD. -/
def State.pegCommand (s : State) (cmd : Nat) : State :=
  let i := s.pegSel
  if cmd = 1 then s.pegSet i else if cmd = 2 then s.pegArm i else if cmd = 3 then s.pegFire i
  else if cmd = 4 then s.pegRelease i else s

/-- What a register of the selected peg reads. -/
def State.pegView (s : State) (r : Reg) : Nat :=
  let p := s.peg s.pegSel
  match r with
  | .PEG_LINE => p.line
  | .PEG_FIRST => p.first
  | .PEG_COUNT => p.count
  | .PEG_BEFORE => p.before
  | .PEG_AFTER => p.after
  | .PEG_STATE => p.state + (if p.clipped then 8 else 0) + (if p.shortened then 16 else 0) + p.reason * 256
  | _ => 0

/-- A write to a register of the selected peg, which is FREE. -/
def State.pegWrite (s : State) (r : Reg) (v : Nat) : State :=
  let i := s.pegSel
  let p := s.peg i
  let p := match r with
    | .PEG_LINE => { p with line := v % 64 }
    | .PEG_FIRST => { p with first := v % 2 ^ 26 }
    | .PEG_COUNT => { p with count := v % 2 ^ 26 }
    | .PEG_BEFORE => { p with before := v % 2 ^ 26 }
    | .PEG_AFTER => { p with after := v % 2 ^ 26 }
    | _ => p
  { s with lines := { s.lines with pegs := setAt Peg.reset s.lines.pegs i p } }

/-! ### The fetch engine (R157) -/

/-- The whole of `n` bytes at `a` lies in one domain SRAM. -/
def inSram (a n : Nat) : Bool :=
  match sramOf a, sramOf (a + n - 1) with
  | some x, some y => x.1 == y.1
  | _, _ => false

/-- START of a fetch has been written. -/
def State.fetchStart (s : State) : State :=
  if s.lines.fetch.isSome then s.fsetB F.LINE_FETCH_STATUS_IGNORED 0 true
  else
    let l := s.fget F.LINE_FETCH_CTRL_LINE
    let c := s.fget F.LINE_FETCH_CTRL_COUNT
    let count := if c = 0 then 256 else c
    let idx := s.fget F.LINE_FETCH_IDX_INDEX
    let dst := s.get64 .LINE_FETCH_DST_LO .LINE_FETCH_DST_HI
    let b := s.lineB l
    let reason := if !s.lineOn l then 1 else if b ≤ idx then 2
      else if dst % 32 ≠ 0 ∨ !inSram dst (4096 * count) then 3 else 0
    let s := ((s.fset F.LINE_FETCH_STATUS_UNCORR 0 0).fset F.LINE_FETCH_STATUS_UNWRITTEN 0 0).fset F.LINE_FETCH_STATUS_HEM 0 0
    let s := s.fset F.LINE_FETCH_STATUS_REASON 0 reason
    if reason ≠ 0 then
      ((s.fsetB F.LINE_FETCH_CTRL_START 0 false).fsetB F.LINE_FETCH_STATUS_DONE 0 true).irq 0x38 0
    else
      let hem := (List.range count).filter (fun k => s.inHem l ((idx + k) % b))
      (({ s with lines := { s.lines with fetch := some ⟨l, idx, count, dst, hem, 0⟩ } }).fsetB
        F.LINE_FETCH_CTRL_START 0 true).setBusy 0x38 true

/-- One block of a fetch. -/
def State.fetchBlock (s : State) (f : Fetch) (k : Nat) : State :=
  let b := s.lineB f.line
  let i := (f.idx + k) % max 1 b
  let a := s.fget F.LINE_BASE_UNITS f.line * 2 ^ 21 + 4096 * i
  if ivCount (s.line f.line).written i (i + 1) = 0 then s.fadd F.LINE_FETCH_STATUS_UNWRITTEN 0 1
  else
    let hem := f.hem.contains k || s.inHem f.line i
    let fixed := s.ecc.any (fun x => a ≤ x.1 && x.1 < a + 4096 && !x.2)
    let (s, bad) := s.hbmRead a 4096 2
    let s := if bad then s.fadd F.LINE_FETCH_STATUS_UNCORR 0 1 else s
    let s := if hem then s.fadd F.LINE_FETCH_STATUS_HEM 0 1 else s
    let bs := s.bytes a 4096
    let w0 := ofLeBytes (bs.take 8)
    let w0 := w0 - (w0 / 2 ^ 18 % 4) * 2 ^ 18 + (if hem then 2 ^ 18 else 0) + (if fixed then 2 ^ 19 else 0)
    let dst := f.dst + 4096 * k
    s.sramOwnWrite (blockSource 0x38) dst (leBytes 8 w0 ++ bs.drop 8)

/-- The fetch goes on with its blocks, `n` of them from `f.pos` on, until the governor holds one (R169). The answer says whether all are copied. -/
def State.fetchRun (s : State) (f : Fetch) : Nat → Nat → State × Bool
  | 0, _ => (s, true)
  | n + 1, k =>
    let i := (f.idx + k) % max 1 (s.lineB f.line)
    let r := if ivCount (s.line f.line).written i (i + 1) = 0 then (s, true) else s.govAsk 2 4096 6
    if r.2 then (r.1.fetchBlock f k).fetchRun f n (k + 1)
    else ({ r.1 with lines := { r.1.lines with fetch := some { f with pos := k } } }, false)

/-- The fetch completes; while HBM is not in service, or the governor holds one of its blocks, it waits. -/
def State.fetchDone (s : State) : State :=
  match s.lines.fetch with
  | none => s
  | some f =>
    let r := if s.hbmUp then s.fetchRun f (f.count - f.pos) f.pos else (s, false)
    let s := r.1
    if !r.2 then s
    else
      let s := { s with lines := { s.lines with fetch := none } }
      let s := (s.fsetB F.LINE_FETCH_CTRL_START 0 false).setBusy 0x38 false
      ((s.fsetB F.LINE_FETCH_STATUS_DONE 0 true).irq 0x38 0).pulse 0x1E1

/-! ### HBM controllers (R163–R168) -/

/-- Stack controller `x`. -/
def State.stack (s : State) (x : Nat) : HbmStack := s.lines.hbm.getD x HbmStack.reset

/-- Replace stack controller `x`. -/
def State.setStack (s : State) (x : Nat) (v : HbmStack) : State :=
  { s with lines := { s.lines with hbm := setAt HbmStack.reset s.lines.hbm x v } }

/-- D_MEM is on and all four stacks are READY (R163). -/
def State.hbmReady (s : State) : Bool := s.domLive .mem && (List.range 4).all (fun x => s.fget F.HBMC_STATE_STATE x == 2)

/-- HBM_UP follows the stacks and D_MEM, and the line writer follows HBM_UP. -/
def State.hbmUpdate (s : State) : State :=
  let up := s.hbmReady
  if up = s.hbmUp then s else ((s.fsetB F.GOV_STATUS_HBM_UP 0 up).irq 0x3E 0).writerState

/-- Stack `x` takes state `st`. -/
def State.stackState (s : State) (x st : Nat) : State :=
  if s.fget F.HBMC_STATE_STATE x = st then s else ((s.fset F.HBMC_STATE_STATE x st).irq (0x3A + x) 1).hbmUpdate

/-- A training attempt in `mode` begins. -/
def State.trainAttempt (s : State) (x mode : Nat) : State :=
  (s.setStack x { s.stack x with mode := some mode }).faddSat F.HBMC_STATE_TRIES x 1

/-- Training of stack `x` starts in `mode`, with the lanes that the darn controller has recorded replaced (R164, R459). -/
def State.trainBegin (s : State) (x mode : Nat) : State :=
  let s := s.setStack x { s.stack x with fulls := 0, lanes := s.darn.hbmLanes.filter (fun t => t % 4 == x) }
  ((s.stackState x 1).setBusy (0x3A + x) true).trainAttempt x mode

/-- Training of stack `x` in `mode` is asked for: it starts once STK_PG is high (R469). -/
def State.trainAsk (s : State) (x mode : Nat) : State :=
  if s.power.stkPg then s.trainBegin x mode else s.setStack x { s.stack x with waitPg := some mode }

/-- Training of stack `x` ends in state `st`: it is in self-refresh no longer, and the copy kept for RESTORE is of no use (R164). -/
def State.trainEnd (s : State) (x st : Nat) : State :=
  ((s.setStack x { s.stack x with mode := none, copy := none }).setBusy (0x3A + x) false
    |>.fsetB F.HBMC_CTRL_TRAIN_START x false).stackState x st

/-- The training attempt of stack `x` has ended (R164, R449). -/
def State.trainingDone (s : State) (x : Nat) (ok : Bool) (settings : List Word) (lanes : List Nat) : State :=
  let st := s.stack x
  match st.mode with
  | none => s
  | some mode =>
    let temp := s.fgetI F.HBMC_STATE_TEMP x
    let valid := match st.copy with
      | some t => decide ((temp - t).natAbs ≤ 5)
      | none => false
    if ok && (mode != 2 || valid) then
      let s := if mode = 0 then
          let s := s.setStack x { st with tdata := (List.range 256).foldl (fun t i =>
            tblPut t i (settings.getD i 0#32).toNat) st.tdata }
          let found := (lanes.map (fun n => x + (n % 16) * 16 + (n / 16 % 256) * 256)).filter (fun t => !st.lanes.contains t)
          let s := s.setStack x { s.stack x with lanes := st.lanes ++ found }
          let s := { s with darn := { s.darn with hbmLanes := s.darn.hbmLanes ++ found } }
          forEach found (fun t s => s.darnDone 7 2 t 0) s
        else s
      let s := s.fset F.HBMC_REPAIR_LANES_USED x (min 255 (s.stack x).lanes.length)
      (s.fset F.HBMC_STATE_HOW x (mode + 1)).trainEnd x 2
    else if mode = 2 then (s.irq (0x3A + x) 2).trainAttempt x (if valid then 1 else 0)
    else if mode = 1 then (s.irq (0x3A + x) 2).trainAttempt x 0
    else if st.fulls = 0 then (s.setStack x { st with fulls := 1 }).trainAttempt x 0
    else s.trainEnd x 4

/-- The 10 s reading of ECS counts and temperature (R166). -/
def State.ecsRead (s : State) (x rows count temp : Nat) : State :=
  if s.fget F.HBMC_STATE_STATE x != 2 then s
  else
    let s := (s.fset F.HBMC_ECS_ROWS x rows).fset F.HBMC_ECS_COUNT x count
    s.fset F.HBMC_STATE_TEMP x temp

/-- An access to HBMC_TDATA advances HBMC_TIDX. -/
def State.tidxNext (s : State) (x : Nat) : State := s.fadd F.HBMC_TIDX_INDEX x 1

/-- The words of the block at HBM address `a` that the rinse corrects and writes back. -/
def State.rinseFixes (s : State) (a : Nat) : Nat :=
  (s.ecc.filter (fun x => a ≤ x.1 && x.1 < a + 4096 && !x.2)).length

/-- The rinse engine reads block `b` of line `l`, at HBM address `a`, and moves its position (R167). -/
def State.rinseBlock (s : State) (lines : List Nat) (l b a : Nat) : State :=
  let r := s.hbmRead a 4096 1
  let fixes := s.rinseFixes a
  let s := { r.1 with ecc := r.1.ecc.filter (fun x => !(a ≤ x.1 && x.1 < a + 4096 && !x.2)) }
  let s := s.faddSat F.RINSE_FIX_COUNT 0 fixes
  let s := if r.2 then s.irq 0x3E 2 else s
  if b + 1 < s.lineB l then (s.fset F.RINSE_POS_LINE 0 l).fset F.RINSE_POS_BLOCK 0 (b + 1)
  else
    match lines.find? (fun k => l < k) with
    | some k => (s.fset F.RINSE_POS_LINE 0 k).fset F.RINSE_POS_BLOCK 0 0
    | none =>
      let s := (s.fset F.RINSE_POS_LINE 0 (lines.headD 0)).fset F.RINSE_POS_BLOCK 0 0
      (s.fadd F.RINSE_PASS_COUNT 0 1).irq 0x3E 1

/-- The rinse engine reads the next block: at its position, or at the first block of the next line that is on (R167). -/
def State.rinseRead (s : State) : State :=
  let lines := indices 64 (fun l => s.lineOn l)
  if !(s.flag F.RINSE_CTRL_EN && s.pageEn 0x3E && s.hbmUp) || lines.isEmpty then s
  else
    let pos := s.fget F.RINSE_POS_LINE
    let at0 := match lines.find? (fun l => pos ≤ l) with
      | some l => if l = pos then (l, s.fget F.RINSE_POS_BLOCK) else (l, 0)
      | none => (lines.headD 0, 0)
    let a := s.fget F.LINE_BASE_UNITS at0.1 * 2 ^ 21 + 4096 * at0.2
    let r := s.govAsk 4 (4096 + 32 * s.rinseFixes a) 7
    if r.2 then r.1.rinseBlock lines at0.1 at0.2 a else r.1

/-- The counts of the window that ends reach the registers. -/
def State.govCount (s : State) : State :=
  let peak := (s.lines.used + 999) / 1000
  let s := if s.fget F.GOV_PEAK_PEAK < peak then s.fset F.GOV_PEAK_PEAK 0 (min 511 peak) else s
  if s.lines.waited then s.faddSat F.GOV_HELD_COUNT 0 1 else s

/-- The window that begins has counted nothing, and the limits pressed before it govern it (R170). -/
def State.govOpen (s : State) : State :=
  { s with lines := { s.lines with
    used := 0, cls := [0, 0, 0, 0, 0], waited := false,
    gov := s.fget F.GOV_CEIL_CEIL :: (List.range 4).map (fun c => s.fget F.GOV_LIMIT_LIMIT c) } }

/-- What waits is admitted in class order, the rinse last (R169). -/
def State.govServe (s : State) : State :=
  let s := if s.hbmUp then s.govAdmit 64 else s
  let s := forEach [1, 2, 3, 4] (fun c (s : State) => s.govOwed c s.lines.owed.length) s
  { s with lines := { s.lines with waited := s.lines.waited || !s.lines.owed.isEmpty } }

/-- A new 1 µs window opens (R169). -/
def State.govWindow (s : State) : State :=
  if !s.domLive .mem then s
  else
    let s := s.govCount.govOpen.govServe
    forEach (List.range 64) (fun l s => s.lineFlush l) s.lineWShow

/-- STK_PG falls while STK_EN is high: every stack becomes FAILED (R469). -/
def State.stacksFail (s : State) : State :=
  forEach (List.range 4) (fun x s => (s.setStack x { s.stack x with copy := none, waitPg := none }).trainEnd x 4) s

end Sys2Proof.Machine
end

