-- ==== Sys2Proof/Machine/Mem.lean ====
section
/-!
DEFINITION. Accesses over the 48-bit fabric: what an address names, the checks of R23–R27 with the ECC of every memory,
and the bytes that an access moves.
-/

namespace Sys2Proof.Machine

/-- What a fabric address names (table "Fabric address map"). -/
inductive Target where
  | hbm
  | sram (d off : Nat)
  | page (a : Nat)
  | priv (i a : Nat)
  | lmem (w a : Nat)
  | unmapped
deriving DecidableEq, Repr

/-- Core address `a` lies in a populated private memory of core `i` (0 is S). -/
def privMapped (i a : Nat) : Bool :=
  if i = 0 then a < 0x8000 || (0x20000 ≤ a && a < 0x24000) || (0x30000 ≤ a && a < 0x34000) else a < 0x40000

/-- First fabric address of the private memory of core `i`. -/
def privBase (i : Nat) : Nat := 0x200000000000 + i * 2 ^ 32

/-- First fabric address of the local memory of engine `w`. -/
def lmemBase (w : Nat) : Nat := 0x300000000000 + w * 2 ^ 32

/-- The target of a fabric address. -/
def fabTarget (a : Nat) : Target :=
  if a < 0x2400000000 then .hbm
  else
    match sramOf a with
    | some (d, o) => .sram d o
    | none =>
      if 0x100040000000 ≤ a ∧ a < 0x100040100000 then .page (a - 0x100040000000)
      else if 0x200000000000 ≤ a ∧ a < 0x200500000000 then
        let i := (a - 0x200000000000) / 2 ^ 32
        let o := a % 2 ^ 32
        if privMapped i o then .priv i o else .unmapped
      else if 0x300000000000 ≤ a ∧ a < 0x301200000000 then
        let w := (a - 0x300000000000) / 2 ^ 32
        let o := a % 2 ^ 32
        if o < 0x40000 then .lmem w o else .unmapped
      else .unmapped

/-- The power domain of core `i` (0 is S). -/
def coreDomain (i : Nat) : Domain := if i = 0 then .sen else if i = 1 then .acq else .ana

/-- The page of core `i`. -/
def corePage (i : Nat) : Nat := if i = 0 then 0x74 else 0x6F + i

/-- HBM answers at `a` (R26): D_MEM is live and the stack is READY. -/
def State.hbmAwake (s : State) (a : Nat) : Bool :=
  s.domLive .mem && s.fget F.HBMC_STATE_STATE (hbmStackOf a) == 2

/-- Sentinel SRAM rests in Night: the kept banks at retention voltage, the others off (R305, R312). -/
def State.senRests (s : State) : Bool :=
  s.power.step == some (2, 3) || (3 ≤ s.fget F.PWR_STATUS_MODE && s.power.step != some (3, 2))

/-- The cause code with which an access of `n` bytes at `a` fails before it reaches the memory, 0 when it does not
(R23–R27, R485). The spec does not order R485 against R23, R26 and R27: an access that is misaligned is given ACCESS_SIZE when it meets
a domain that is off or a stack that is not READY, and UNMAPPED when it is non-secure and names a private or local memory (DESIGN
CHOICE, log entry 90). -/
def State.fabCause (s : State) (a n : Nat) (secure : Bool) : Nat :=
  let dom (d : Domain) : Nat := if a % n ≠ 0 then 7 else if s.domLive d then 0 else 2
  match fabTarget a with
  | .unmapped => 1
  | .page _ => 7
  | .hbm => if a % n ≠ 0 then 7 else if s.hbmAwake a then 0 else 3
  | .sram d _ => if d = 0 && s.senRests && a % n == 0 then 2 else dom (sramDomain d)
  | .priv i _ => if !secure then 1 else dom (coreDomain i)
  | .lmem _ _ => if !secure then 1 else dom .ana

/-- ECC of a private memory on a fabric read (R244). -/
def State.privRead (s : State) (i a n : Nat) : State × Bool :=
  let words := (List.range ((a % 8 + n + 7) / 8)).map (fun k => a / 8 * 8 + 8 * k)
  words.foldl (fun acc w =>
    match acc.1.ecc.find? (fun x => x.1 == w) with
    | none => acc
    | some (_, true) => (acc.1, true)
    | some (_, false) =>
      if acc.1.fget F.CORE_ECC_CE (coreReg i) = 65535 then acc
      else ((acc.1.faddSat F.CORE_ECC_CE (coreReg i) 1).irq (corePage i) 1, acc.2)) (s, false)

/-- The physical engine's local memory met corrected errors: the count, PAGE_IRQ bit 2 and the ENGINE proposal (R177,
R449). -/
def State.lmemCorrected (s : State) (w k : Nat) : State :=
  if k = 0 then s
  else
    let old := s.fget F.WEL_LMEM_ECC_CE w
    let s := s.faddSat F.WEL_LMEM_ECC_CE w k
    let s := if s.fget F.WEL_LMEM_ECC_CE w = old then s else s.irq (0x40 + w) 2
    let m := s.fget F.DARN_CFG_LMEM_CE_MAX
    if m ≠ 0 ∧ m ≤ s.fget F.WEL_LMEM_ECC_CE w then s.propose 3 w else s

/-- ECC of a local memory over the words of `n` bytes at fabric address `a`. -/
def State.lmemRead (s : State) (w a n : Nat) : State × Bool :=
  let here := s.ecc.filter (fun x => a / 8 * 8 ≤ x.1 && x.1 < a + n)
  (s.lmemCorrected w (here.filter (fun x => !x.2)).length, here.any (fun x => x.2))

/-- An access of `n` bytes at `a` that reaches its memory asks whether it goes on now: HBM asks the governor in class `c` for `owner`
(R169), and a bank that a darn copies is held (R454). -/
def State.memAsk (s : State) (owner c a n : Nat) (secure : Bool) : State × Bool :=
  let fails := s.fabCause a n secure ≠ 0
  match fabTarget a with
  | .hbm => if fails then (s.govForget owner, true) else s.govAsk c n owner
  | .sram d o => (s, fails || !s.darn.copy.any (fun x => x.1 == d && x.2.1 == o / 65536))
  | _ => (s, true)

/-- Read `n` bytes at `a` for the requester with SOURCE code `src`: bytes, or the cause of a bus error, which is logged.
`usrc` is the SRC code of an uncorrectable HBM error. The governor has admitted it. -/
def State.fabRead (s : State) (a n src usrc : Nat) (secure : Bool) : State × Except Nat (List Byte) :=
  let c := s.fabCause a n secure
  if c ≠ 0 then (s.logBusErr a false src c, .error c)
  else
    match fabTarget a with
    | .hbm =>
      let (s, bad) := s.hbmRead a n usrc
      if bad then (s.logBusErr a false src 5, .error 5) else (s, .ok (s.bytes a n))
    | .sram _ _ =>
      let (s, bad) := s.sramRead a n
      if bad then (s.logBusErr a false src 6, .error 6) else (s, .ok (s.bytes a n))
    | .priv i _ =>
      let (s, bad) := s.privRead i a n
      if bad then (s.logBusErr a false src 6, .error 6) else (s, .ok (s.bytes a n))
    | .lmem w _ =>
      let (s, bad) := s.lmemRead w a n
      if bad then ((s.faddSat F.WEL_LMEM_ECC_UE w 1).logBusErr a false src 6, .error 6) else (s, .ok (s.bytes a n))
    | _ => (s, .error c)

/-- Local address `a` of engine `w` lies in the active table half (R218). -/
def State.inActive (s : State) (w a : Nat) : Bool :=
  let size := 64 * s.fget F.WEL_TBL_SIZE_SIZE w
  let h := s.fget F.WEL_TBL_STATUS_HALF w
  let base := 64 * s.fget F.WEL_TBL_BASE_BASE (2 * w + h)
  base ≤ a && a < base + size

/-- Store bytes in the local memory of engine `w`; a write in the active half is discarded (R218). -/
def State.lmemWrite (s : State) (w a : Nat) (bs : List Byte) : State :=
  if s.inActive w a then
    if s.flag F.WEL_TBL_STATUS_WR_ACTIVE w then s
    else (s.fsetB F.WEL_TBL_STATUS_WR_ACTIVE w true).irq (0x40 + w) 6
  else (s.sramWritten (lmemBase w + a) bs.length).putBytes (lmemBase w + a) bs

/-- Store bytes at `a` for the requester with SOURCE code `src`: 0, or the cause of a bus error, which is logged. The governor has
admitted it. -/
def State.fabWrite (s : State) (a : Nat) (bs : List Byte) (src : Nat) (secure : Bool) : State × Nat :=
  let n := bs.length
  let c := s.fabCause a n secure
  if c ≠ 0 then (s.logBusErr a true src c, c)
  else
    match fabTarget a with
    | .hbm =>
      if a % 32 = 0 ∧ n % 32 = 0 then ((s.hbmWritten a n).putBytes a bs, 0)
      else
        let (s, bad) := s.hbmRead a n 3
        if bad then (s.logBusErr a true src 5, 5) else ((s.hbmWritten a n).putBytes a bs, 0)
    | .sram d o => (((s.unverWrite d o n).sramWritten a n).putBytes a bs, 0)
    | .priv _ _ => ((s.sramWritten a n).putBytes a bs, 0)
    | .lmem w o => (s.lmemWrite w o bs, 0)
    | _ => (s, c)

end Sys2Proof.Machine
end

