-- ==== Sys2Proof/Machine/Sha256.lean ====
section
/-!
DEFINITION. SHA-256, which the control-store check, the firmware bundle, the crypto unit and the measurements use.
-/

namespace Sys2Proof.Machine

/-- The first primes, up to 311. -/
def shaPrimes : List Nat :=
  [2, 3, 5, 7, 11, 13, 17, 19, 23, 29, 31, 37, 41, 43, 47, 53, 59, 61, 67, 71, 73, 79, 83, 89, 97, 101, 103, 107, 109,
   113, 127, 131, 137, 139, 149, 151, 157, 163, 167, 173, 179, 181, 191, 193, 197, 199, 211, 223, 227, 229, 233, 239,
   241, 251, 257, 263, 269, 271, 277, 281, 283, 293, 307, 311]

/-- The largest `r` below `2 ^ k` with `r ^ e ≤ x`, found bit by bit. -/
def rootBits (e x : Nat) : Nat → Nat → Nat
  | 0, r => r
  | k + 1, r => rootBits e x k (if (r + 2 ^ k) ^ e ≤ x then r + 2 ^ k else r)

/-- The 64 round constants: the first 32 fraction bits of the cube roots of the primes. -/
def shaK : List Word := shaPrimes.map (fun p => BitVec.ofNat 32 (rootBits 3 (p * 2 ^ 96) 36 0))

/-- The initial hash value: the first 32 fraction bits of the square roots of the first eight primes. -/
def shaInit : List Word := (shaPrimes.take 8).map (fun p => BitVec.ofNat 32 (rootBits 2 (p * 2 ^ 64) 38 0))

/-- Rotate right. -/
def rotr (x : Word) (n : Nat) : Word := (x >>> n) ||| (x <<< (32 - n))

/-- The message schedule, newest word first. -/
def shaSchedule : Nat → List Word → List Word
  | 0, ws => ws
  | n + 1, ws =>
    let a := ws.getD 14 0#32
    let b := ws.getD 1 0#32
    let s0 := rotr a 7 ^^^ rotr a 18 ^^^ (a >>> 3)
    let s1 := rotr b 17 ^^^ rotr b 19 ^^^ (b >>> 10)
    shaSchedule n ((ws.getD 15 0#32 + s0 + ws.getD 6 0#32 + s1) :: ws)

/-- One round. -/
def shaRound (h : List Word) (kw : Word × Word) : List Word :=
  match h with
  | [a, b, c, d, e, f, g, hh] =>
    let s1 := rotr e 6 ^^^ rotr e 11 ^^^ rotr e 25
    let ch := (e &&& f) ^^^ (~~~e &&& g)
    let t1 := hh + s1 + ch + kw.1 + kw.2
    let s0 := rotr a 2 ^^^ rotr a 13 ^^^ rotr a 22
    let maj := (a &&& b) ^^^ (a &&& c) ^^^ (b &&& c)
    [t1 + (s0 + maj), a, b, c, d + t1, e, f, g]
  | _ => h

/-- Big-endian 32-bit words of a list of bytes. -/
def shaWords : List Byte → List Word
  | a :: b :: c :: d :: rest => (a ++ b ++ c ++ d) :: shaWords rest
  | _ => []

/-- One block of 64 bytes. -/
def shaBlock (h : List Word) (block : List Byte) : List Word :=
  let ws := (shaSchedule 48 (shaWords block).reverse).reverse
  List.zipWith (· + ·) h ((List.zip shaK ws).foldl shaRound h)

/-- Hash `n` blocks. -/
def shaBlocks : Nat → List Word → List Byte → List Word
  | 0, h, _ => h
  | n + 1, h, bs => shaBlocks n (shaBlock h (bs.take 64)) (bs.drop 64)

/-- The big-endian bytes of a word. -/
def beBytes4 (w : Word) : List Byte := (leBytes 4 w.toNat).reverse

/-- SHA-256 of a list of bytes: 32 bytes. -/
def sha256 (bs : List Byte) : List Byte :=
  let n := bs.length
  let pad := (119 - n % 64) % 64
  let m := bs ++ 0x80#8 :: List.replicate pad 0#8 ++ (leBytes 8 (8 * n)).reverse
  (shaBlocks (m.length / 64) shaInit m).flatMap beBytes4

end Sys2Proof.Machine
end

