-- ==== Sys2Proof/Machine/Vector.lean ====
section
/-!
DEFINITION. The microword of a Welut engine: its fields, the vector operations, and what makes a word faulty (R197–R212).
-/

namespace Sys2Proof.Machine

/-! ### Fields (R197) -/

/-- Bits `[lo + n - 1 : lo]` of a number. -/
def nbits (x lo n : Nat) : Nat := x / 2 ^ lo % 2 ^ n

/-- The decoded microword. -/
structure Micro where
  next : Nat
  cond : Nat
  cinv : Nat
  seqop : Nat
  cnt : Nat
  vop : Nat
  va : Nat
  vb : Nat
  vc : Nat
  vd : Nat
  vfmt : Nat
  agu0 : Nat
  agu1 : Nat
  memp : Nat
  dma : Nat
  sop : Nat
  fe : Nat
  imm : Nat
deriving DecidableEq, Repr

/-- The fields of a 176-bit word. -/
def microOf (x : Nat) : Micro where
  next := nbits x 165 11
  cond := nbits x 160 5
  cinv := nbits x 159 1
  seqop := nbits x 156 3
  cnt := nbits x 148 8
  vop := nbits x 140 8
  va := nbits x 134 6
  vb := nbits x 128 6
  vc := nbits x 122 6
  vd := nbits x 116 6
  vfmt := nbits x 112 4
  agu0 := nbits x 96 16
  agu1 := nbits x 80 16
  memp := nbits x 72 8
  dma := nbits x 64 8
  sop := nbits x 48 16
  fe := nbits x 32 16
  imm := nbits x 0 32

/-! ### Vector operations (R204, R205) -/

/-- What a VOP code uses and takes: sources A, B, C, destination, IMM, the formats (bit i for VFMT i) and the clocks. -/
structure VopInfo where
  a : Bool
  b : Bool
  c : Bool
  d : Bool
  imm : Bool
  fmts : Nat
  clocks : Nat
deriving DecidableEq, Repr

/-- The table of VOP encodings; `none` is a reserved code. Formats: F 1, I 2, H 4, C 8. -/
def vopInfo (op : Nat) : Option VopInfo :=
  let ad (f n : Nat) : Option VopInfo := some ⟨true, false, false, true, false, f, n⟩
  let abd (f n : Nat) : Option VopInfo := some ⟨true, true, false, true, false, f, n⟩
  let all (f n : Nat) : Option VopInfo := some ⟨true, true, true, true, false, f, n⟩
  if op = 0x00 then some ⟨false, false, false, false, false, 1, 1⟩
  else if op = 0x01 then ad 15 1
  else if op = 0x02 then abd 15 1
  else if op = 0x03 then abd 15 1
  else if op = 0x04 then abd 7 1
  else if op = 0x05 then all 3 1
  else if op = 0x06 then all 3 1
  else if op = 0x07 then ad 7 1
  else if op = 0x08 then ad 7 1
  else if op = 0x09 then abd 7 1
  else if op = 0x0A then abd 7 1
  else if 0x10 ≤ op ∧ op ≤ 0x12 then some ⟨true, true, false, false, false, 3, 1⟩
  else if op = 0x13 then abd 15 1
  else if 0x18 ≤ op ∧ op ≤ 0x1D then abd 6 1
  else if op = 0x20 then ad 3 1
  else if op = 0x21 then ad 3 1
  else if op = 0x22 then abd 4 1
  else if 0x28 ≤ op ∧ op ≤ 0x2A then ad 1 4
  else if op = 0x30 then abd 8 2
  else if op = 0x31 then all 8 2
  else if 0x32 ≤ op ∧ op ≤ 0x34 then ad 8 1
  else if op = 0x38 then ad 3 2
  else if op = 0x39 then ad 3 2
  else if op = 0x3C then abd 15 1
  else if op = 0x3D then some ⟨false, false, false, true, true, 15, 1⟩
  else none

/-- A vector of sixteen lanes. -/
abbrev Vec := List Word

/-- Lane `i`. -/
def Vec.at (v : Vec) (i : Nat) : Word := v.getD i 0#32

/-- Apply an operation on each 16-bit element of a lane. -/
def halves (f : BitVec 16 → BitVec 16 → BitVec 16) (a b : Word) : Word :=
  let lo := f (a.extractLsb' 0 16) (b.extractLsb' 0 16)
  let hi := f (a.extractLsb' 16 16) (b.extractLsb' 16 16)
  hi ++ lo

/-- A signed value saturated to 16 bits. -/
def sat16 (x : Int) : BitVec 16 := BitVec.ofInt 16 (saturate 16 x)

/-- One lane of an operation whose lanes are independent, for formats F (0), I (1) and H (2). -/
def laneOp (op fmt : Nat) (a b c : Word) : FpOut :=
  let i (w : Word) : FpOut := (w, 0)
  if op = 0x02 then (if fmt = 0 then fpAdd a b else if fmt = 1 then i (a + b) else i (halves (· + ·) a b))
  else if op = 0x03 then (if fmt = 0 then fpSub a b else if fmt = 1 then i (a - b) else i (halves (· - ·) a b))
  else if op = 0x04 then (if fmt = 0 then fpMul a b else if fmt = 1 then i (a * b) else i (halves (· * ·) a b))
  else if op = 0x05 then (if fmt = 0 then fpFma a b c else i (a * b + c))
  else if op = 0x06 then (if fmt = 0 then fpFnma a b c else i (c - a * b))
  else if op = 0x07 then (if fmt = 0 then fpNeg a else if fmt = 1 then i (-a) else i (halves (fun x _ => -x) a a))
  else if op = 0x08 then
    (if fmt = 0 then fpAbs a else if fmt = 1 then i (if a.msb then -a else a)
     else i (halves (fun x _ => if x.msb then -x else x) a a))
  else if op = 0x09 then
    (if fmt = 0 then fpMinMax 0 a b else if fmt = 1 then i (if a.slt b then a else b)
     else i (halves (fun x y => if x.slt y then x else y) a b))
  else if op = 0x0A then
    (if fmt = 0 then fpMinMax 1 a b else if fmt = 1 then i (if a.slt b then b else a)
     else i (halves (fun x y => if x.slt y then y else x) a b))
  else if op = 0x18 then i (a &&& b)
  else if op = 0x19 then i (a ||| b)
  else if op = 0x1A then i (a ^^^ b)
  else if op = 0x1B then
    (if fmt = 1 then i (a <<< (b.toNat % 32)) else i (halves (fun x y => x <<< (y.toNat % 16)) a b))
  else if op = 0x1C then
    (if fmt = 1 then i (a >>> (b.toNat % 32)) else i (halves (fun x y => x >>> (y.toNat % 16)) a b))
  else if op = 0x1D then
    (if fmt = 1 then i (a.sshiftRight (b.toNat % 32)) else i (halves (fun x y => x.sshiftRight (y.toNat % 16)) a b))
  else if op = 0x20 then (if fmt = 0 then fpOfI32 (a.sshiftRight 8) else i (a.sshiftRight 8))
  else if op = 0x21 then (if fmt = 0 then fpOfI32 a else i (fpToInt a))
  else if op = 0x22 then i (sat16 b.toInt ++ sat16 a.toInt)
  else if op = 0x28 then fpSqrt a
  else if op = 0x29 then fpRcp a
  else if op = 0x2A then fpRsqrt a
  else i a

/-- A pair of lanes of an operation on complex numbers: real and imaginary lane. -/
def pairOp (op : Nat) (ar ai br bi cr ci : Word) : FpOut × FpOut :=
  if op = 0x02 then (fpAdd ar br, fpAdd ai bi)
  else if op = 0x03 then (fpSub ar br, fpSub ai bi)
  else if op = 0x30 then
    let k := Config.complexOrder 0
    (fpTwo k true ar br ai bi, fpTwo k false ar bi ai br)
  else if op = 0x31 then
    let k := Config.complexOrder 1
    (fpTwoAcc k true ar br ai bi cr, fpTwoAcc k false ar bi ai br ci)
  else if op = 0x32 then (fpPass ar, fpNeg ai)
  else if op = 0x33 then (fpPass ai, fpNeg ar)
  else if op = 0x34 then (fpTwo (Config.complexOrder 2) false ar ar ai ai, (0#32, 0))
  else ((ar, 0), (ai, 0))

/-- Lane `i` of a comparison. -/
def cmpLane (op fmt : Nat) (a b : Word) : Bool :=
  if fmt = 0 then
    let x := fpIn a
    let y := fpIn b
    if op = 0x10 then fpEqN x y else if op = 0x11 then fpLtN x y else fpEqN x y || fpLtN x y
  else if op = 0x10 then a == b else if op = 0x11 then a.slt b else a.sle b

/-- Lanes with their flags merged. -/
def gatherFlags (xs : List FpOut) : Vec × Nat := (xs.map (·.1), xs.foldl (fun f x => f ||| x.2) 0)

/-- Fold the lanes of a vector into lane 0. -/
def acrossOp (op fmt : Nat) (v : Vec) : FpOut :=
  let step (acc : FpOut) (x : Word) : FpOut :=
    if op = 0x38 then (if fmt = 0 then fpThen acc (fun w => fpAdd w x) else (acc.1 + x, 0))
    else if fmt = 0 then fpThen acc (fun w => fpMinMax 1 w x) else (if acc.1.slt x then x else acc.1, 0)
  (v.tail).foldl step (v.at 0, 0)

/-- The result vector of an operation that writes VD, with the flags FLUSH (1) and NAN (2). -/
def vecOp (op fmt f imm : Nat) (a b c : Vec) : Vec × Nat :=
  let lanes := List.range 16
  if op = 0x01 then (a, 0)
  else if op = 0x13 then (lanes.map (fun i => if f.testBit i then a.at i else b.at i), 0)
  else if op = 0x3C then (lanes.map (fun i => a.at ((b.at i).toNat % 16)), 0)
  else if op = 0x3D then (lanes.map (fun _ => BitVec.ofNat 32 imm), 0)
  else if op = 0x38 ∨ op = 0x39 then
    let r := acrossOp op fmt a
    (r.1 :: List.replicate 15 0#32, r.2)
  else if fmt = 3 then
    gatherFlags ((List.range 8).flatMap (fun i =>
      let r := pairOp op (a.at (2 * i)) (a.at (2 * i + 1)) (b.at (2 * i)) (b.at (2 * i + 1)) (c.at (2 * i)) (c.at (2 * i + 1))
      [r.1, r.2]))
  else gatherFlags (lanes.map (fun i => laneOp op fmt (a.at i) (b.at i) (c.at i)))

/-- The mask F that a comparison leaves. -/
def cmpMask (op fmt : Nat) (a b : Vec) : Nat :=
  (List.range 16).foldl (fun m i => if cmpLane op fmt (a.at i) (b.at i) then m + 2 ^ i else m) 0

/-! ### Faulty words (R198) -/

/-- The fields that an operation of an address unit has (R206). -/
structure Agu where
  mode : Nat
  tbl : Bool
  k : Nat
  vr : Nat
  ofs : Int
deriving DecidableEq, Repr

/-- The parts of an AGU field. -/
def aguOf (x : Nat) : Agu := ⟨nbits x 14 2, nbits x 13 1 = 1, nbits x 11 2, nbits x 5 6, signed 5 (nbits x 0 5)⟩

/-- The encoding faults of a word that do not depend on the engine, by FIELD code, each with whether it is present. -/
def microFaults (m : Micro) (tblSize : Nat) : List (Nat × Bool) :=
  let cond : Bool := m.seqop = 0 || m.seqop = 1 || m.seqop = 2 || m.seqop = 5
  let always : Bool := m.cond = 0 && m.cinv = 1
  let v := (vopInfo m.vop).getD ⟨true, true, true, true, true, 15, 1⟩
  let a0 := aguOf m.agu0
  let a1 := aguOf m.agu1
  let p0 := nbits m.memp 6 2
  let p1 := nbits m.memp 4 2
  let g := nbits m.memp 2 2
  let op := nbits m.sop 12 4
  let sd := nbits m.sop 8 4
  let sa := nbits m.sop 4 4
  let sb := nbits m.sop 0 4
  let dop := nbits m.dma 5 3
  let sync := nbits m.dma 0 3
  let cop := nbits m.cnt 6 2
  let uop := nbits m.fe 6 2
  let vaUsed := v.a || op == 12
  [ (1, decide (6 ≤ m.seqop)),
    (2, (cond && decide (23 ≤ m.cond)) || (m.seqop == 3 && (decide (4 ≤ m.cond) || m.cinv == 1)) ||
        (m.seqop == 4 && (decide (16 ≤ m.cond) || m.cinv == 1))),
    (3, ((m.seqop == 2 || m.seqop == 5) && always && m.next != 0) || (m.seqop == 4 && m.next % 16 != 0)),
    (4, (cop == 0 && m.cnt % 64 != 0) || (cop == 2 && m.cnt % 16 != 0) || cop == 3),
    (5, (vopInfo m.vop).isNone),
    (6, decide (4 ≤ m.vfmt) || !v.fmts.testBit m.vfmt),
    (7, (!vaUsed && m.va != 0) || (!v.b && m.vb != 0) || (!v.c && m.vc != 0) || (!v.d && m.vd != 0)),
    (8, (a0.mode == 0 && m.agu0 != 0) || (a0.mode != 0 && a0.tbl && tblSize == 0)),
    (9, (a1.mode == 0 && m.agu1 != 0) || (a1.mode != 0 && a1.tbl && tblSize == 0) || (g != 0 && a1.ofs != 0)),
    (10, p0 == 3 || p1 == 3 || g == 3 || m.memp % 4 != 0 || (p0 != 0 && a0.mode == 0) ||
        ((p1 != 0 || g != 0) && a1.mode == 0) || (a0.mode != 0 && p0 == 0) || (a1.mode != 0 && p1 == 0 && g == 0) ||
        (g != 0 && p1 != 0) || (p0 == 1 && p1 == 1 && a0.vr == a1.vr) || (g == 1 && v.d && m.vd == 63)),
    (11, decide (4 ≤ dop) || decide (4 ≤ sync) || (dop == 0 && (sync == 0 || sync == 3) && nbits m.dma 3 2 != 0)),
    (12, op == 15 || (op == 0 && m.sop % 4096 != 0) || (op == 3 && sb != 0) || (op == 9 && sd != 0) ||
        ((op == 10 || op == 11) && decide (8 ≤ sd)) || ((op == 13 || op == 14) && (sa != 0 || sb != 0))),
    (13, uop == 3 || (uop == 0 && nbits m.fe 4 2 != 0) || m.fe % 8 != 0),
    (14, m.imm != 0 && !(op == 3 || op == 13 || cop == 2 || v.imm)) ]

end Sys2Proof.Machine
end

