-- ==== Sys2Proof/Machine/Welut.lean ====
section
/-!
DEFINITION. A Welut engine: its state, the issue of a microword, its DMA transfers, its halt and its stop (R173–R213).
-/

namespace Sys2Proof.Machine

/-! ### State of an engine -/

/-- Engine `w`. -/
def State.wel1 (s : State) (w : Nat) : Wel := s.wel.engines.getD w Wel.reset

/-- Replace engine `w`. -/
def State.setWel (s : State) (w : Nat) (e : Wel) : State := { s with wel := { s.wel with engines := setAt Wel.reset s.wel.engines w e } }

/-- State of engine `w`: 0 OFF, 1 SPARE, 2 IDLE, 3 RUN, 4 STOPPED. -/
def State.welState (s : State) (w : Nat) : Nat := s.fget F.WEL_STATUS_STATE w

/-- ALL_IDLE follows the engines. -/
def State.allIdle (s : State) : State :=
  let idle := (List.range 18).all (fun w => s.welState w != 3)
  if idle = s.flag F.WELQ_STATUS_ALL_IDLE then s
  else
    let s := s.fsetB F.WELQ_STATUS_ALL_IDLE 0 idle
    if idle && s.flag F.WELQ_CTRL_HOLD then s.irq 0x52 5 else s

/-- Engine `w` takes state `st`. In SPARE the register files lose power, so what they hold afterwards is open. -/
def State.welTo (s : State) (w st : Nat) : State :=
  let old := s.welState w
  if old = st then s
  else
    let s := (s.fset F.WEL_STATUS_STATE w st).setBusy (0x40 + w) (st == 3)
    let e := s.wel1 w
    let s := if st = 1 then s.setWel w { e with vreg := [], powered := e.powered + 1 } else s
    s.allIdle

/-- A running job that took frame (f, n) at its seam has ended (R193). -/
def State.frameLeft (s : State) (j : Job) : State :=
  match j.frame with
  | none => s
  | some (f, n) =>
    if !j.atSeam then s
    else
      { s with wel := { s.wel with frames := s.wel.frames.map (fun (x : OpenFrame) =>
          if x.gen == f && x.num == n then { x with jobs := x.jobs - 1, shut := x.shut || (x.jobs == 1 && x.seams != 0) } else x) } }

/-- The job of engine `w` ends. -/
def State.dropJob (s : State) (w : Nat) : State :=
  let e := s.wel1 w
  match e.job with
  | none => s
  | some j => (s.setWel w { e with job := none, halting := false, fence := false, stopping := none }).frameLeft j

/-- The rows of "Engine transitions" that do not need an event (R178): OFF, SPARE and IDLE follow EN, VALID and SERVICE. -/
def State.welRefresh (s : State) (w : Nat) : State :=
  let st := s.welState w
  let home := if s.flag F.WEL_CTRL_SERVICE w then 2 else 1
  if !s.domLive .ana then s
  else if !s.flag F.PAGE_CTRL_EN (0x40 + w) || !s.flag F.CS_STATUS_VALID w then (s.dropJob w).welTo w 0
  else if st ≤ 2 then s.welTo w home
  else s

/-- CS_CTRL.INVALIDATE on engine `w` (R215). -/
def State.csInvalidateNow (s : State) (w : Nat) : State := (s.fsetB F.CS_STATUS_VALID w false).welRefresh w

/-- Vector register `r` of an engine. -/
def Wel.vec (e : Wel) (w r : Nat) : Vec :=
  (List.range 16).map (fun i =>
    match rfGet e.vreg (16 * r + i) with
    | some x => x
    | none => if e.powered = 0 then 0#32 else Config.vregPowered w e.powered (16 * r + i))

/-- Write a vector register. -/
def Wel.setVec (e : Wel) (r : Nat) (v : Vec) : Wel :=
  { e with vreg := (List.range 16).foldl (fun xs i => rfPut xs (16 * r + i) (v.at i)) e.vreg }

/-- Scalar register. -/
def Wel.scal (e : Wel) (r : Nat) : Word := e.sc.getD r 0#32

/-- The job of engine `w` has ended, and a confirmed darn that waited for that retires the engine (R455). -/
def State.welRetire (s : State) (w : Nat) : State :=
  if (s.wel1 w).retire then (s.setWel w { s.wel1 w with retire := false }).csInvalidateNow w else s

/-! ### Stopping (R179) -/

/-- Engine `w` stops with a cause; `pc` is the address that WEL_FAULT_PC takes. Port loads of earlier words complete. -/
def State.welStop (s : State) (w cause pc : Nat) : State :=
  let e := s.wel1 w
  let e := e.loads.foldl (fun e x => e.setVec x.1 x.2) e
  let s := s.setWel w { e with loads := [] }
  let s := match e.job with
    | none => s
    | some j =>
      let a := sramBase 2 + j.dst
      (s.sramOwnWrite (blockSource 0x52) (a + 1) [2#8]).sramOwnWrite (blockSource 0x52) (a + 0x34) (leBytes 4 j.cycles)
  let s := s.dropJob w
  let s := (s.fset F.WEL_STATUS_CAUSE w cause).fset F.WEL_FAULT_PC_ADDR w pc
  ((s.welTo w 4).irq (0x40 + w) 0).welRetire w

/-- A faulty word stops engine `w`: the transfers that earlier words issued complete first, and the job ends then (R198). -/
def State.welFault (s : State) (w pc : Nat) : State :=
  let e := s.wel1 w
  if e.dma = [] then s.welStop w 1 pc else s.setWel w { e with stopping := some (1, pc) }

/-- LMEM_UE: the count, the stop, and the ENGINE proposal (R177, R449). -/
def State.welLmemUe (s : State) (w pc : Nat) : State :=
  ((s.faddSat F.WEL_LMEM_ECC_UE w 1).welStop w 4 pc).propose 3 w

/-! ### Local memory -/

/-- A 64-byte vector of local memory. -/
def State.lmemVec (s : State) (w a : Nat) : Vec :=
  (List.range 16).map (fun i => BitVec.ofNat 32 (s.memVal (lmemBase w + a + 4 * i) 4))

/-- The local address of an access through pointer value `p` (R206, R218). -/
def State.aguAddr (s : State) (w : Nat) (g : Agu) (p : Nat) (off : Int) : Nat :=
  let x : Int := (p : Int) + 64 * g.ofs + off
  if g.tbl then
    let h := s.fget F.WEL_TBL_STATUS_HALF w
    let size : Int := 64 * s.fget F.WEL_TBL_SIZE_SIZE w
    let o := if size = 0 then 0 else x % size
    64 * s.fget F.WEL_TBL_BASE_BASE (2 * w + h) + o.toNat
  else (x % 2 ^ 18).toNat

/-- Twelve bits in reverse order. -/
def rev12 (x : Nat) : Nat := (List.range 12).foldl (fun a i => if x.testBit i then a + 2 ^ (11 - i) else a) 0

/-- The pointer after an access in MODE `m` (R206). -/
def aguNext (m p st : Nat) : Nat :=
  if m = 2 then (p + st) % 2 ^ 18
  else if m = 3 then rev12 ((rev12 (p / 64) + rev12 (st / 64)) % 4096) * 64 + p % 64
  else p

/-! ### DMA (R190, R191, R210) -/

/-- The parameter fault of a transfer at its issue: no fault, a fault that nothing logs, or the cause that is logged. -/
def State.dmaCheck (s : State) (d : Dma) : Option Nat :=
  if d.kind = 3 then
    let l := d.fab / 2 ^ 32
    let idx := d.fab % 2 ^ 32
    if d.loc % 64 ≠ 0 ∨ d.len = 0 ∨ 64 < d.len ∨ 0x40000 < d.loc + 4096 * d.len then some 0
    else if !s.lineOn l || s.lineB l ≤ idx then some 0
    else none
  else
    if d.loc % 64 ≠ 0 ∨ d.fab % 64 ≠ 0 ∨ d.len % 64 ≠ 0 ∨ d.len = 0 ∨ 262144 < d.len ∨ 0x40000 < d.loc + d.len then some 0
    else
      let ok (a : Nat) : Bool := match fabTarget a with
        | .hbm => true
        | .sram _ _ => true
        | _ => false
      if ok d.fab && ok (d.fab + d.len - 1) then none else some 1

/-- What a transfer comes to: the state, whether a bus error ended it, whether local memory was uncorrectable, and the beat or block
at which the governor holds it. -/
structure DmaEnd where
  s : State
  bad : Bool
  ue : Bool
  waits : Option Nat

/-- One 64-byte beat of a READ or WRITE that the governor has admitted. -/
def State.dmaBeat (s : State) (w : Nat) (d : Dma) (i : Nat) : DmaEnd :=
  let a := d.fab + 64 * i
  let l := d.loc + 64 * i
  if d.kind = 1 then
    let (s, r) := s.fabRead a 64 8 2 true
    match r with
    | .error _ => ⟨s, true, false, none⟩
    | .ok bs => ⟨s.lmemWrite w l bs, false, false, none⟩
  else
    let (s, ue) := s.lmemRead w (lmemBase w + l) 64
    if ue then ⟨s, false, true, none⟩
    else
      let (s, c) := s.fabWrite a (s.bytes (lmemBase w + l) 64) 8 true
      ⟨s, c != 0, false, none⟩

/-- `n` beats from beat `i` on, until one fails or the governor holds one (R169). -/
def State.dmaRun (s : State) (w : Nat) (d : Dma) : Nat → Nat → DmaEnd
  | 0, _ => ⟨s, false, false, none⟩
  | n + 1, i =>
    let a := s.memAsk (16 + w) 1 (d.fab + 64 * i) 64 true
    if !a.2 then ⟨a.1, false, false, some i⟩
    else
      let r := a.1.dmaBeat w d i
      if r.bad || r.ue then r else r.s.dmaRun w d n (i + 1)

/-- Set bits of the result FLAGS of the job of engine `w`. -/
def State.jobFlags (s : State) (w m : Nat) : State :=
  let e := s.wel1 w
  match e.job with
  | none => s
  | some j => s.setWel w { e with job := some { j with rflags := j.rflags ||| m } }

/-- One block of a LINE transfer (R191). -/
def State.dmaBlock (s : State) (w : Nat) (d : Dma) (k : Nat) : State :=
  let l := d.fab / 2 ^ 32
  let b := s.lineB l
  let i := (d.fab % 2 ^ 32 + k) % max 1 b
  let a := s.fget F.LINE_BASE_UNITS l * 2 ^ 21 + 4096 * i
  if ivCount (s.line l).written i (i + 1) = 0 then s.jobFlags w (2 ^ 9)
  else
    let hem := d.hem.contains k || s.inHem l i
    let fixed := s.ecc.any (fun x => a ≤ x.1 && x.1 < a + 4096 && !x.2)
    let (s, bad) := s.hbmRead a 4096 2
    let s := s.jobFlags w ((if hem then 2 ^ 7 else 0) + (if bad then 2 ^ 8 else 0))
    let bs := s.bytes a 4096
    let w0 := ofLeBytes (bs.take 8)
    let w0 := w0 - (w0 / 2 ^ 18 % 4) * 2 ^ 18 + (if hem then 2 ^ 18 else 0) + (if fixed then 2 ^ 19 else 0)
    let bs := leBytes 8 w0 ++ bs.drop 8
    forEach (List.range 64) (fun j s => s.lmemWrite w (d.loc + 4096 * k + 64 * j) ((bs.drop (64 * j)).take 64)) s

/-- `n` blocks of a LINE transfer from block `k` on, until the governor holds one (R169). -/
def State.dmaLine (s : State) (w : Nat) (d : Dma) : Nat → Nat → DmaEnd
  | 0, _ => ⟨s, false, false, none⟩
  | n + 1, k =>
    let l := d.fab / 2 ^ 32
    let i := (d.fab % 2 ^ 32 + k) % max 1 (s.lineB l)
    let a := if ivCount (s.line l).written i (i + 1) = 0 then (s, true) else s.govAsk 1 4096 (16 + w)
    if a.2 then (a.1.dmaBlock w d k).dmaLine w d n (k + 1) else ⟨a.1, false, false, some k⟩

/-- The memory on the fabric that a transfer reads or writes: a domain SRAM, or HBM (3). -/
def Dma.memory (d : Dma) : Nat :=
  if d.kind = 3 then 3
  else match fabTarget d.fab with
    | .sram k _ => k
    | _ => 3

/-- An earlier transfer of the engine to the memory of transfer `i` is outstanding: they complete in issue order (R29). -/
def Wel.dmaBehind (e : Wel) (i : Nat) (d : Dma) : Bool := (e.dma.take i).any (fun x => x.memory == d.memory)

/-- Transfer `d` of engine `w` moves what it has not moved yet. -/
def State.dmaMove (s : State) (w : Nat) (d : Dma) : DmaEnd :=
  if d.kind ≠ 3 then s.dmaRun w d (d.len / 64 - d.pos) d.pos
  else if !s.hbmUp then
    ⟨(s.govForget (16 + w)).logBusErr (s.fget F.LINE_BASE_UNITS (d.fab / 2 ^ 32) * 2 ^ 21) false 8 3, true, false, none⟩
  else s.dmaLine w d (d.len - d.pos) d.pos

/-- Transfer `i` of engine `w` completes (R210): not before the earlier ones to its memory (R29), nor while the governor holds it. -/
def State.dmaComplete (s : State) (w i : Nat) : State :=
  let e := s.wel1 w
  match e.dma[i]? with
  | none => s
  | some d =>
    if !s.pageLive (0x40 + w) || e.dmaBehind i d then s
    else
      let r := s.dmaMove w d
      let s := r.s
      let e := s.wel1 w
      match r.waits with
      | some k => s.setWel w { e with dma := e.dma.set i { d with pos := k } }
      | none =>
      let rest := e.dma.eraseIdx i
      let s := s.setWel w { e with
        dma := rest, tok := if r.bad || r.ue then e.tok else e.tok ||| 2 ^ d.tok,
        fence := e.fence && rest.any (fun x => x.kind == 2 || x.own) }
      if s.welState w ≠ 3 then s
      else
        match e.stopping with
        | some (cause, pc) => if rest = [] then s.welStop w cause pc else s
        | none => if r.ue then s.welLmemUe w e.pc else if r.bad then s.welStop w 3 e.pc else s

/-! ### Issue of a microword (R199–R213) -/

/-- The condition that COND selects (R201). -/
def State.welCond (s : State) (w : Nat) (e : Wel) (m : Micro) : Bool :=
  let k := m.cond
  let fl (i : Nat) : Bool := e.flags.testBit i
  let v : Bool :=
    if k = 0 then false
    else if k ≤ 4 then fl (k - 1)
    else if k = 5 then fl 1 != fl 3
    else if k = 6 then fl 0 || (fl 1 != fl 3)
    else if k = 7 then e.f != 0
    else if k = 8 then e.f == 0xFFFF
    else if k ≤ 12 then e.lc.getD (k - 9) 0 == 0
    else if k ≤ 16 then e.tok.testBit (k - 13)
    else if k = 17 then e.dma.isEmpty
    else if k ≤ 21 then e.uf.testBit (k - 18)
    else s.fget F.WEL_TBL_STATUS_HALF w == 1
  v != (m.cinv == 1)

/-- Scalar result with Z N C V (bits 0–3) of x + y + c (R209). -/
def scalarAdd (x y : Word) (c : Nat) : Word × Nat :=
  let t := x.toNat + y.toNat + c
  let r : Word := BitVec.ofNat 32 t
  let v := x.msb == y.msb && r.msb != x.msb
  (r, (if r = 0#32 then 1 else 0) + (if r.msb then 2 else 0) + (if 2 ^ 32 ≤ t then 4 else 0) + (if v then 8 else 0))

/-- The scalar operation of a word: the value for SD, if it writes one, and the scalar flags. -/
def Wel.scalarOp (e : Wel) (w : Nat) (m : Micro) : Option Word × Nat :=
  let op := nbits m.sop 12 4
  let a := e.scal (nbits m.sop 4 4)
  let b := e.scal (nbits m.sop 0 4)
  let imm : Word := BitVec.ofNat 32 m.imm
  let logic (r : Word) : Option Word × Nat :=
    (some r, (e.flags / 4 * 4) + (if r = 0#32 then 1 else 0) + (if r.msb then 2 else 0))
  if op = 1 then let (r, f) := scalarAdd a b 0; (some r, f)
  else if op = 2 then let (r, f) := scalarAdd a (~~~b) 1; (some r, f)
  else if op = 3 then let (r, f) := scalarAdd a imm 0; (some r, f)
  else if op = 4 then logic (a &&& b)
  else if op = 5 then logic (a ||| b)
  else if op = 6 then logic (a ^^^ b)
  else if op = 7 then logic (a <<< (b.toNat % 32))
  else if op = 8 then logic (a >>> (b.toNat % 32))
  else if op = 9 then (none, (scalarAdd a (~~~b) 1).2)
  else if op = 12 then (some ((e.vec w m.va).at (nbits m.sop 0 4)), e.flags)
  else if op = 13 then (some imm, e.flags)
  else if op = 14 then (some (BitVec.ofNat 32 e.f), e.flags)
  else (none, e.flags)

/-- What the memory ports of a word do: the loads, the gathered vector, and the stores (local address, bytes). -/
structure PortWork where
  loads : List (Nat × Nat)
  stores : List (Nat × Vec)
  gather : Option (List Nat)
  scatter : Option (List Nat)

/-- The port operations of a word with their local addresses. -/
def State.portWork (s : State) (w : Nat) (e : Wel) (m : Micro) : PortWork :=
  let a0 := aguOf m.agu0
  let a1 := aguOf m.agu1
  let p0 := nbits m.memp 6 2
  let p1 := nbits m.memp 4 2
  let g := nbits m.memp 2 2
  let vecA (a : Agu) (p : Nat) : Nat := s.aguAddr w a p 0 / 64 * 64
  let x0 := vecA a0 (e.ptr.getD a0.k 0)
  let x1 := vecA a1 (e.ptr.getD (4 + a1.k) 0)
  let idx := e.vec w a1.vr
  let lanes : List Nat := (List.range 16).map (fun i =>
    s.aguAddr w a1 (e.ptr.getD (4 + a1.k) 0) (4 * ((idx.at i).toNat : Int)) / 4 * 4)
  { loads := (if p0 = 1 then [(a0.vr, x0)] else []) ++ (if p1 = 1 then [(a1.vr, x1)] else []),
    stores := (if p0 = 2 then [(x0, e.vec w a0.vr)] else []) ++ (if p1 = 2 then [(x1, e.vec w a1.vr)] else []),
    gather := if g = 1 then some lanes else none,
    scatter := if g = 2 then some lanes else none }

/-- The clocks that the ports of a word take: the largest number of accesses that meet in one bank (R175, R176). -/
def PortWork.clocks (p : PortWork) : Nat :=
  let lanes := ((p.gather.getD []) ++ (p.scatter.getD [])).eraseDups
  let all := p.loads.map (·.2) ++ p.stores.map (·.1) ++ lanes
  (List.range 8).foldl (fun n b => max n ((all.filter (fun a => a / 64 % 8 == b)).length)) 1

/-- The lane whose word a scatter leaves at the address of lane `i`. -/
def scatterFrom (lanes : List Nat) (i : Nat) : Nat :=
  let same := (List.range 16).filter (fun j => lanes.getD j 0 == lanes.getD i 0)
  same.getD (Config.scatterLast same.length % max 1 same.length) i

/-- Engine `w` issues the word at its address (R199). `waits` is the clocks that waiting added. -/
def State.microIssue (s : State) (w waits : Nat) : State :=
  let e := s.wel1 w
  let a := e.pc
  let m := microOf (tblGet e.store a)
  let c := s.welCond w e m
  -- sequencing (R200, R203)
  let li := m.cond % 4
  let lcNew := e.lc.getD li 0 - 1
  let next : Option Nat :=
    if m.seqop = 0 then some (m.next / 2 * 2 + (m.next + (if c then 1 else 0)) % 2)
    else if m.seqop = 1 then (if c then some m.next else none)
    else if m.seqop = 2 then (if c then some (e.ret.headD 0) else some m.next)
    else if m.seqop = 3 then (if lcNew ≠ 0 then some m.next else none)
    else if m.seqop = 4 then some (m.next / 16 * 16 + (e.scal (m.cond % 16)).toNat % 16)
    else some m.next
  let halt : Bool := m.seqop == 5 && c
  let dop := nbits m.dma 5 3
  let tok := nbits m.dma 3 2
  let sync := nbits m.dma 0 3
  -- waiting (R210); what the sequencer makes of the condition is known when the word issues
  let waiting := (sync == 2 && !e.tok.testBit tok) || (sync == 3 && dop == 0 && e.dma.any (fun x => x.kind == 2)) ||
    (dop != 0 && decide (4 ≤ e.dma.length))
  let faults := microFaults m (s.fget F.WEL_TBL_SIZE_SIZE w) ++
    (if waiting then [] else
      [(15, m.seqop == 1 && c && decide (8 ≤ e.ret.length)), (16, m.seqop == 2 && c && e.ret.isEmpty),
       (17, next.isNone && a == 2047)])
  match faults.find? (fun x => x.2) with
  | some (code, _) => (s.fset F.WEL_MFAULT_FIELD w code).welFault w a
  | none =>
    if waiting then s
    else
      let p := s.portWork w e m
      -- the words that the ports read (R177)
      let reads : List (Nat × Nat) := p.loads.map (fun x => (x.2, 64)) ++ (p.gather.getD []).eraseDups.map (fun x => (x, 4))
      let (s, ue) := reads.foldl (fun (acc : State × Bool) x =>
        let r := acc.1.lmemRead w (lmemBase w + x.1) x.2
        (r.1, acc.2 || r.2)) (s, false)
      if ue then s.welLmemUe w a
      else
        let loads := p.loads.map (fun x => (x.1, s.lmemVec w x.2))
        let gathered := p.gather.map (fun xs => xs.map (fun x => (BitVec.ofNat 32 (s.memVal (lmemBase w + x) 4) : Word)))
        let v63 := e.vec w 63
        -- vector operation (R205)
        let info := vopInfo m.vop
        let cmp : Bool := m.vop == 0x10 || m.vop == 0x11 || m.vop == 0x12
        let (vr, vf) := vecOp m.vop m.vfmt e.f m.imm (e.vec w m.va) (e.vec w m.vb) (e.vec w m.vc)
        let f := if cmp then cmpMask m.vop m.vfmt (e.vec w m.va) (e.vec w m.vb) else e.f
        let writes : Bool := match info with
          | some x => x.d
          | none => false
        let (sd, flags) := e.scalarOp w m
        let sop := nbits m.sop 12 4
        let sdn := nbits m.sop 8 4
        let sum := ((e.scal (nbits m.sop 4 4)).toNat + (e.scal (nbits m.sop 0 4)).toNat) % 2 ^ 18
        -- pointers (R206)
        let a0 := aguOf m.agu0
        let a1 := aguOf m.agu1
        let ptr := e.ptr.set a0.k (aguNext a0.mode (e.ptr.getD a0.k 0) (e.stride.getD a0.k 0))
        let ptr := ptr.set (4 + a1.k) (aguNext a1.mode (ptr.getD (4 + a1.k) 0) (e.stride.getD (4 + a1.k) 0))
        let ptr := if sop = 10 then ptr.set (sdn % 8) sum else ptr
        let stride := if sop = 11 then e.stride.set (sdn % 8) sum else e.stride
        -- counters (R203)
        let lc := if m.seqop = 3 then e.lc.set li lcNew else e.lc
        let cop := nbits m.cnt 6 2
        let lc := if cop = 1 then lc.set (nbits m.cnt 4 2) ((e.scal (m.cnt % 16)).toNat % 65536)
          else if cop = 2 then lc.set (nbits m.cnt 4 2) (m.imm % 65536) else lc
        let ret := if m.seqop = 1 && c then ((a + 1) % 2048) :: e.ret else if m.seqop = 2 && c then e.ret.tail else e.ret
        -- user flags and result flags (R211)
        let ub := 2 ^ nbits m.fe 4 2
        let uop := nbits m.fe 6 2
        let uf := if uop = 1 then e.uf ||| ub else if uop = 2 then e.uf &&& (15 - ub) else e.uf
        let rf := nbits m.fe 8 7 + (if m.fe.testBit 15 then 2 ^ 11 else 0)
        -- tokens (R210)
        let tk := if sync = 1 ∨ dop ≠ 0 then e.tok &&& (15 - 2 ^ tok) else e.tok
        let sc12 := (e.scal 12).toNat
        let d : Dma := ⟨dop, tok, sc12,
          if dop = 3 then (e.scal 13).toNat % 64 * 2 ^ 32 + (e.scal 14).toNat
          else (e.scal 13).toNat + (e.scal 14).toNat % 65536 * 2 ^ 32,
          (e.scal 15).toNat, sync == 3,
          if dop = 3 then
            let l := (e.scal 13).toNat % 64
            (List.range (min 64 (e.scal 15).toNat)).filter (fun k =>
              s.inHem l (((e.scal 14).toNat + k) % max 1 (s.lineB l)))
          else [], 0⟩
        let clocks := max (match info with
          | some x => x.clocks
          | none => 1) p.clocks + waits
        -- results: loads of the last word, then this word's (R208)
        let e := e.loads.foldl (fun e x => e.setVec x.1 x.2) e
        let e := if writes then e.setVec m.vd vr else e
        let e := match gathered with
          | some v => e.setVec 63 v
          | none => e
        let e := { e with
          loads := loads, f := f, flags := flags, ptr := ptr, stride := stride, lc := lc, ret := ret, uf := uf, tok := tk,
          sc := (match sd with
            | some x => e.sc.set sdn x
            | none => e.sc),
          pc := (next.getD (a + 1)) % 2048, halting := halt,
          job := e.job.map (fun j => { j with cycles := j.cycles + clocks, rflags := j.rflags ||| rf }) }
        let s := (s.setWel w e).faddSat F.WEL_CYCLES_COUNT w clocks
        let s := if !cmp && writes && vf != 0 then
            (s.setReg .WEL_ARITH w (s.reg .WEL_ARITH w ||| BitVec.ofNat 32 vf)).irq (0x40 + w) 1
          else s
        -- stores
        let s := forEach p.stores (fun x s => s.lmemWrite w x.1 (x.2.flatMap (fun v => leBytes 4 v.toNat))) s
        let s := match p.scatter with
          | none => s
          | some lanes => forEach (List.range 16) (fun i s =>
              s.lmemWrite w (lanes.getD i 0) (leBytes 4 (v63.at (scatterFrom lanes i)).toNat)) s
        let s := if m.fe.testBit 3 then s.pulse (0x170 + w) else s
        -- DMA issue
        let s :=
          if dop = 0 then s
          else
            match s.dmaCheck d with
            | none =>
              let e := s.wel1 w
              s.setWel w { e with dma := e.dma ++ [d], fence := sync == 3 }
            | some cause =>
              let s := if cause = 0 then s else s.logBusErr d.fab (dop == 2) 8 cause
              s.welStop w 3 a
        if halt && s.welState w == 3 then
          let e := s.wel1 w
          let e := e.loads.foldl (fun e x => e.setVec x.1 x.2) e
          s.setWel w { e with loads := [] }
        else s

/-- A MICROWORD: engine `w` is in RUN, has not halted, waits for no fence, and its clock runs (R324). -/
def State.microword (s : State) (w waits : Nat) : State :=
  let e := s.wel1 w
  if s.pageLive (0x40 + w) && s.welState w == 3 && e.job.isSome && !(e.halting || e.fence || e.stopping.isSome) then
    s.microIssue w waits
  else s

end Sys2Proof.Machine
end

