-- ==== Sys2Proof/Machine/Welq.lean ====
section
/-!
DEFINITION. The job queues of the Welut engines, frames and frame digests, templates, control stores, table halves, and the
darns that wait for a frame seam (R180–R196, R213–R220, R453–R455).
-/

namespace Sys2Proof.Machine

/-! ### Queues (R180–R185) -/

/-- Physical engine of logical engine `e` (R180). -/
def State.welMap (s : State) (e : Nat) : Nat := bits (s.reg .WELQ_MAP (e / 4)) (8 * (e % 4)) 5

/-- Slots of queue `q`. -/
def State.qSlots (s : State) (q : Nat) : Nat := 2 ^ s.fget F.WELQ_QCFG_LOG2 q

/-- Descriptors that queue `q` holds. -/
def State.qCount (s : State) (q : Nat) : Nat :=
  let n := s.qSlots q
  (s.fget F.WELQ_QTAIL_TAIL q + n - s.fget F.WELQ_QHEAD_HEAD q % n) % n

/-- Fabric address of slot `i` of queue `q`; the ring lies in analysis SRAM. -/
def State.qSlot (s : State) (q i : Nat) : Nat :=
  sramBase 2 + (s.fget F.WELQ_QCFG_BASE q * 64 + 64 * i) % 2 ^ 24

/-- Queue `q` beside its registers. -/
def State.wq (s : State) (q : Nat) : WelQueue := s.wel.queues.getD q ⟨[], none⟩

/-- Replace queue `q`. -/
def State.setWq (s : State) (q : Nat) (x : WelQueue) : State := { s with wel := { s.wel with queues := setAt ⟨[], none⟩ s.wel.queues q x } }

/-- FULL of queue `q` (a TAIL write that leads to a full queue is allowed, one slot stays free). -/
def State.qFull (s : State) (q : Nat) : Bool := s.qSlots q ≤ s.qCount q + 1

/-- A TAIL write is a reserved encoding (R181). -/
def State.qTailReserved (s : State) (q t : Nat) : Bool :=
  let n := s.qSlots q
  let step := (t + n - s.fget F.WELQ_QTAIL_TAIL q % n) % n
  decide (n ≤ t) || decide (n ≤ s.qCount q + step) ||
    (List.range 16).any (fun i => s.flag F.WELQ_TPL_CTRL_EN i && s.fget F.WELQ_TPL_CTRL_QUEUE i == q)

/-- HEAD of queue `q` moves to the next slot, whose job becomes head. -/
def State.qNext (s : State) (q : Nat) : State :=
  let s := s.fset F.WELQ_QHEAD_HEAD q ((s.fget F.WELQ_QHEAD_HEAD q + 1) % s.qSlots q)
  s.setWq q { s.wq q with strobes := [] }

/-- DST of the jobs that run and of the tables that wait to be pushed (R185, R371). -/
def State.dstsBusy (s : State) : List Nat :=
  (List.range 18).filterMap (fun w => (s.wel1 w).job.map (fun j => j.dst)) ++ s.wel.pushes.map (fun x => x.1)

/-- A number at offset `o` of a descriptor. -/
def descNum (d : List Byte) (o n : Nat) : Nat := ofLeBytes ((d.drop o).take n)

/-- The descriptor is bad (R182). -/
def descBad (d : List Byte) : Bool :=
  let dst := descNum d 0x20 4
  let cap := descNum d 0x24 4
  decide (2048 ≤ descNum d 0 2) || decide (8 ≤ descNum d 2 1) || decide (5 ≤ descNum d 3 1) ||
    decide (2 ^ 48 ≤ descNum d 0x10 8) || decide (2 ^ 48 ≤ descNum d 0x18 8) || dst % 64 != 0 ||
    decide (2 ^ 24 < dst + 64 + cap) || cap % 4 != 0

/-- The first descriptor of queue `q` that is not bad stands at the head; bad ones are skipped (R182). -/
def State.qSkip (s : State) (q : Nat) : Nat → State
  | 0 => s
  | n + 1 =>
    if s.qCount q = 0 then s
    else
      let (s, d) := s.sramOwnRead (blockSource 0x52) (s.qSlot q (s.fget F.WELQ_QHEAD_HEAD q)) 64
      if descBad d then
        (((s.qNext q).fsetB F.WELQ_STATUS_DESC_BAD 0 true).irq 0x52 0).qSkip q n
      else s

/-- A descriptor may have reached the head of queue `q`: an enabled queue checks it before anything else (R182). No queue served by a
STOPPED engine advances (R179). -/
def State.qSettle (s : State) (q : Nat) : State :=
  if s.flag F.WELQ_QCFG_EN q && s.pageEn 0x52 && s.welState (s.welMap (q / 4)) != 4 then s.qSkip q 1024 else s

/-- The queues of logical engine `e` check their heads. -/
def State.qSettleOf (s : State) (e : Nat) : State := forEach (List.range 4) (fun p s => s.qSettle (4 * e + p)) s

/-- Head descriptor of queue `q`. -/
def State.qHead (s : State) (q : Nat) : List Byte := s.bytes (s.qSlot q (s.fget F.WELQ_QHEAD_HEAD q)) 64

/-- The head of queue `q` still waits for its seam (R184). -/
def State.qWaitSeam (s : State) (q : Nat) : Bool :=
  let sel := descNum (s.qHead q) 3 1
  s.qCount q != 0 && sel != 0 && !(s.wq q).strobes.any (fun x => x.1 + 1 == sel)

/-- The head of queue `q` waits for its destination (R185). -/
def State.qWaitDst (s : State) (q : Nat) : Bool :=
  s.qCount q != 0 && s.dstsBusy.contains (descNum (s.qHead q) 0x20 4)

/-- WELQ_QSTAT of queue `q`. -/
def State.qStat (s : State) (q : Nat) : Word :=
  BitVec.ofNat 32 ((if s.qFull q then 1 else 0) + (if s.qWaitSeam q then 2 else 0) + (if s.qWaitDst q then 4 else 0))

/-- The head of queue `q` is eligible (R183). -/
def State.qEligible (s : State) (q : Nat) : Bool :=
  s.flag F.WELQ_QCFG_EN q && !s.flag F.WELQ_CTRL_HOLD && s.qCount q != 0 && !s.qWaitSeam q && !s.qWaitDst q

/-! ### Job start and end (R182, R189, R213) -/

/-- The 64 header bytes, without the CRC: state, engine, queue, length, SEQ, JOB_ID, FRAME, first epoch and angle, FLAGS,
CYCLES and DIGEST. -/
def headerBytes (st w q len seq id frame first angle flags cycles dig : Nat) : List Byte :=
  leBytes 1 3 ++ leBytes 1 st ++ leBytes 1 w ++ leBytes 1 q ++ leBytes 4 len ++ leBytes 8 seq ++ leBytes 8 id ++
    leBytes 8 frame ++ leBytes 8 first ++ leBytes 8 angle ++ leBytes 2 flags ++ leBytes 2 0 ++ leBytes 4 cycles ++ leBytes 4 dig

/-- FRAME of a result header. -/
def frameWord (x : Option (Nat × Nat)) : Nat :=
  match x with
  | none => 0
  | some (f, n) => f * 2 ^ 62 + n % 2 ^ 62

/-- Engine `w` takes the head job of queue `q`. -/
def State.jobStart (s : State) (w q : Nat) : State :=
  let (s, d) := s.sramOwnRead (blockSource 0x52) (s.qSlot q (s.fget F.WELQ_QHEAD_HEAD q)) 64
  let sel := descNum d 3 1
  let dst := descNum d 0x20 4
  let taken := if sel = 0 then none else ((s.wq q).strobes.find? (fun x => x.1 + 1 == sel))
  let frame := if sel = 0 then (s.wq q).frame else taken
  let s := s.setWq q { s.wq q with frame := frame }
  let s := s.qNext q
  let a := sramBase 2 + dst
  let (s, old) := s.sramOwnRead (blockSource 0x52) (a + 8) 8
  let seq := (ofLeBytes old + 1) % 2 ^ 64
  let id := descNum d 8 8
  let s := s.sramOwnWrite (blockSource 0x52) a (headerBytes 0 w q 0 seq id (frameWord frame) 0 0 0 0 0 ++ leBytes 4 0)
  let e := s.wel1 w
  let par (i : Nat) : Word := BitVec.ofNat 32 (descNum d (0x28 + 4 * i) 4)
  let e := { e with
    sc := (List.range 6).map par ++ [BitVec.ofNat 32 dst, BitVec.ofNat 32 (descNum d 0x24 4),
      BitVec.ofNat 32 (descNum d 0x10 4), BitVec.ofNat 32 (descNum d 0x14 2),
      BitVec.ofNat 32 (descNum d 0x18 4), BitVec.ofNat 32 (descNum d 0x1C 2), 0#32, 0#32, 0#32, 0#32],
    ptr := List.replicate 8 0, stride := List.replicate 8 64, lc := [0, 0, 0, 0], f := 0, flags := 0, uf := 0, tok := 15,
    ret := [], pc := descNum d 0 2, loads := [], fence := false, halting := false, stopping := none,
    job := some ⟨q / 4, q % 4, descNum d 2 1, descNum d 4 4, id, dst, descNum d 0x24 4, frame, taken.isSome, seq, 0, 0⟩ }
  let s := s.setWel w e
  let s := (s.fset F.WEL_STATUS_LOGICAL w (q / 4)).fset F.WEL_STATUS_PRIO w (q % 4)
  ((s.fset F.WEL_JOB_DST_DST w dst).welTo w 3).qSettle q

/-- Engine `w` looks for a job (R183). -/
def State.jobDispatch (s : State) (w : Nat) : State :=
  let free := s.pageEn 0x52 && s.pageLive (0x40 + w) && s.welState w == 2 && !s.flag F.CS_STATUS_ACTIVE w && !s.flag F.CS_CTRL_PATCH w
  match (List.range 16).find? (fun e => s.welMap e == w) with
  | none => s
  | some e =>
    if !free then s
    else
      match (List.range 4).find? (fun p => s.qEligible (4 * e + p)) with
      | none => s
      | some p => s.jobStart w (4 * e + p)

/-- A completed table joins the push queue, or is dropped (R371, R386). -/
def State.pushTable (s : State) (dst len : Nat) : State :=
  let pair := s.fget F.PAIR_STATUS_STATE
  if !s.domLive .lnk || pair == 1 || pair == 3 then s
  else if !s.flag F.PZL_PUSH_CFG_EN || 16 ≤ s.wel.pushes.length then
    ((s.fsetB F.PZL_PUSH_STATUS_DROP 0 true).faddSat F.PZL_PUSH_STATUS_COUNT 0 1).irq 0x58 3
  else
    let s := { s with wel := { s.wel with pushes := s.wel.pushes ++ [(dst, len, 0)] } }
    s.fset F.PZL_PUSH_STATUS_QUEUED 0 s.wel.pushes.length

/-- The job of engine `w` completes (R189). -/
def State.jobComplete (s : State) (w clocks : Nat) : State :=
  let e := s.wel1 w
  match e.job with
  | none => s
  | some j =>
    if !(s.pageLive (0x40 + w) && s.welState w == 3 && e.halting) || e.fence || e.dma.any (fun x => x.kind == 2) then s
    else
      let sc7 := (e.scal 7).toNat
      let len := min sc7 j.cap
      let a := sramBase 2 + j.dst
      let (s, payload) := s.sramOwnRead (blockSource 0x52) (a + 64) len
      let dig := crc32c payload
      let dgst : Bool := j.dflags.testBit 0 && j.frame.isSome
      let openF := match j.frame with
        | none => false
        | some (f, n) => s.wel.frames.any (fun x => x.gen == f && x.num == n && !x.shut)
      let late := j.frame.isSome && !openF
      let flags := j.rflags ||| (if j.cap < sc7 then 2 ^ 10 else 0) ||| (if late then 2 ^ 11 else 0)
      let first := s.memVal (a + 0x20) 8
      let angle := s.memVal (a + 0x28) 8
      let cycles := (j.cycles + clocks) % 2 ^ 32
      let body := headerBytes 1 w (4 * j.le + j.prio) len j.seq j.id (frameWord j.frame) first angle flags cycles dig
      let s := s.sramOwnWrite (blockSource 0x52) a (body ++ leBytes 4 (crc32c body))
      let s := s.faddSat F.WEL_CYCLES_COUNT w clocks
      let c := crc32c (leBytes 8 j.seq ++ leBytes 4 j.dst ++ leBytes 4 dig)
      let s := if late then (s.fsetB F.WELQ_STATUS_LATE 0 true).irq 0x52 3
        else if !dgst then s
        else { s with wel := { s.wel with frames := s.wel.frames.map (fun (x : OpenFrame) =>
            if some (x.gen, x.num) == j.frame then { x with xor := x.xor ^^^ c, count := x.count + 1 } else x) } }
      let s := if j.dflags.testBit 2 then s.pulse (0x160 + j.le) else s
      let s := if j.dflags.testBit 1 then s.pushTable j.dst (64 + len) else s
      let s := s.fadd F.WEL_JOBS_COUNT w 1
      ((s.dropJob w).welTo w (if s.flag F.WEL_CTRL_SERVICE w then 2 else 1)).welRetire w

/-- The run limit of the job of engine `w` is reached (R186). -/
def State.jobTimeout (s : State) (w : Nat) : State :=
  let e := s.wel1 w
  match e.job with
  | none => s
  | some j =>
    if s.pageLive (0x40 + w) && s.welState w == 3 && j.limit != 0 && e.stopping.isNone then
      let s := s.faddSat F.WEL_CYCLES_COUNT w (j.limit * 1024 - j.cycles)
      (s.setWel w { e with job := some { j with cycles := max j.cycles (j.limit * 1024) % 2 ^ 32 } }).welStop w 2 e.pc
    else s

/-- A 1 has been written to HALT of engine `w` (R179). -/
def State.welHalt (s : State) (w : Nat) : State :=
  if s.welState w = 3 ∧ (s.wel1 w).stopping.isNone then s.welStop w 5 (s.wel1 w).pc else s

/-- A 1 has been written to RESUME of engine `w` (R179): its queues advance again. -/
def State.welResume (s : State) (w : Nat) : State :=
  if s.welState w = 4 then
    let s := s.welTo w (if s.flag F.WEL_CTRL_SERVICE w then 2 else 1)
    forEach (indices 16 (fun e => s.welMap e == w)) (fun e s => s.qSettleOf e) s
  else s

/-! ### Templates (R188) -/

/-- A launch is dropped. -/
def State.launchDropped (s : State) : State :=
  ((s.fsetB F.WELQ_STATUS_EVT_OVERRUN 0 true).faddSat F.WELQ_STATUS_OVR_COUNT 0 1).irq 0x52 1

/-- A trigger on WELQ_LAUNCHt (R188). -/
def State.launch (s : State) (t : Nat) : State :=
  if !s.pageEn 0x52 || !s.flag F.WELQ_TPL_CTRL_EN t then s
  else
    let q := s.fget F.WELQ_TPL_CTRL_QUEUE t
    let going := (s.wel.copies.filter (fun (x : Nat × Nat × List Byte) => x.2.1 == q)).length
    if s.wel.copies.any (fun x => x.1 == t) || s.qSlots q ≤ s.qCount q + going + 1 then s.launchDropped
    else
      let (s, d) := s.sramOwnRead (blockSource 0x52) (sramBase 2 + s.fget F.WELQ_TPL_ADDR_ADDR t * 64) 64
      { s with wel := { s.wel with copies := s.wel.copies ++ [(t, q, d)] } }

/-- The copy for template `t` completes. -/
def State.templateDone (s : State) (t : Nat) : State :=
  match s.wel.copies.find? (fun x => x.1 == t) with
  | none => s
  | some (_, q, d) =>
    if !s.pageLive 0x52 then s
    else
      let tail := s.fget F.WELQ_QTAIL_TAIL q
      let s := { s with wel := { s.wel with copies := s.wel.copies.filter (fun (x : Nat × Nat × List Byte) => x.1 != t) } }
      let s := s.sramOwnWrite (blockSource 0x52) (s.qSlot q tail) d
      let s := if s.qCount q = 0 then s.setWq q { s.wq q with strobes := [] } else s
      (s.fset F.WELQ_QTAIL_TAIL q ((tail + 1) % s.qSlots q)).qSettle q

/-! ### Frames (R187, R193, R219) -/

/-- The strobe of a seam (generator `f`, number `n`) reaches D_ANA. -/
def State.frameStrobe (s : State) (f n : Nat) : State :=
  let here := s.pageLive 0x52
  let frames := s.wel.frames.map (fun (x : OpenFrame) =>
    if x.gen == f then
      let x := { x with seams := x.seams + 1 }
      if x.shut then x
      else if x.jobs = 0 then { x with shut := true }
      else if 2 ≤ x.seams then { x with shut := true, late := true }
      else x
    else x)
  let s := if here then { s with wel := { s.wel with frames := frames ++ [⟨f, n, 0, 0, 0, 0, false, false⟩] } } else s
  -- table halves (R219)
  let s := forEach (indices 18 (fun w => s.pageLive (0x40 + w) && s.flag F.WEL_TBL_CTRL_SWAP w && s.fget F.WEL_TBL_CTRL_FSEL w == f))
    (fun w s =>
      if s.welState w = 3 then s.faddSat F.WEL_TBL_STATUS_TBL_DEFER w 1
      else
        ((s.fset F.WEL_TBL_STATUS_HALF w (1 - s.fget F.WEL_TBL_STATUS_HALF w)).fsetB F.WEL_TBL_CTRL_SWAP w false).irq (0x40 + w) 5) s
  -- waiting heads, whose jobs take the frame here (R184, R193)
  forEach (indices 64 (fun q => here && s.qCount q != 0)) (fun q s =>
    let x := s.wq q
    if x.strobes.any (fun y => y.1 == f) then s
    else
      let s := s.setWq q { x with strobes := x.strobes ++ [(f, n)] }
      if descNum (s.qHead q) 3 1 ≠ f + 1 then s
      else { s with wel := { s.wel with frames := s.wel.frames.map (fun (x : OpenFrame) =>
        if x.gen == f && x.num == n then { x with jobs := x.jobs + 1 } else x) } }) s

/-- The oldest closed frame of generator `f` is published (R193). -/
def State.frameClose (s : State) (f : Nat) : State :=
  match s.wel.frames.find? (fun x => x.gen == f) with
  | none => s
  | some x =>
    if !(x.shut && s.pageLive 0x52) then s
    else
      let s := { s with wel := { s.wel with
        frames := s.wel.frames.filter (fun (y : OpenFrame) => !(y.gen == x.gen && y.num == x.num)),
        digests := s.wel.digests ++ [(f, x.num, x.xor, min 65535 x.count, x.late)] } }
      let s := s.set64 .WELQ_DFRAME_LO .WELQ_DFRAME_HI f x.num
      let s := s.setReg .WELQ_DVALUE f (BitVec.ofNat 32 x.xor)
      let s := (s.fset F.WELQ_DCOUNT_COUNT f (min 65535 x.count)).fsetB F.WELQ_DCOUNT_LATE f x.late
      s.irq 0x52 2

/-- Source events of a frame generator with SRCSEL `src` on the edge at tick `t` (R187). -/
def State.frameEvents (s : State) (src t : Nat) : Nat :=
  if src / 64 = 0 then (s.seams.filter (fun g => g == src % 32)).length
  else if src / 64 = 1 then (s.seams.filter (fun g => g == 32 + src % 8)).length
  else if src / 64 = 2 then (s.wel.emits.filter (fun x => x.1 == src % 16 && x.2 + 64 ≤ t)).length
  else 0

/-- Frame generator `f` counts the events of the epoch edge `num` at tick `t`. -/
def State.frameCount (s : State) (f num t : Nat) : State :=
  let g := 42 + f
  let c := s.wel.counts.getD f ⟨0, 0, 1⟩
  let src := s.fget F.SEAM_CFG_SRCSEL g
  let len := if s.domPower .ana = .off ∨ s.clkState .ana = 3 then c.len else s.fget F.WELQ_FLEN_LENGTH f
  let c := if c.src = src ∧ c.len = len then c else ⟨0, src, len⟩
  let put (s : State) (c : FrameCount) : State := { s with wel := { s.wel with counts := setAt ⟨0, 0, 1⟩ s.wel.counts f c } }
  if !s.seamOn g then put s { c with count := 0 }
  else
    let n := if len = 0 then 65536 else len
    let total := c.count + s.frameEvents src t
    let s := put s { c with count := total % n }
    if total < n then s
    else
      let number := s.epoch.seamCounts.getD (g - 41) 0 + total / n
      let s := s.countSeam g (total / n) num
      if s.domLive .ana then s.frameStrobe f number
      else if s.domPower .ana = .off then s
      else
        let missed := s.wel.heldSeams.any (fun x => x.1 == f)
        { s with wel := { s.wel with
          heldSeams := s.wel.heldSeams.filter (fun (x : Nat × Nat × Bool) => x.1 != f) ++ [(f, number, missed)] } }

/-- The frame generators at the epoch edge `num` at tick `t`. -/
def State.frameSeams (s : State) (num t : Nat) : State :=
  let s := forEach (List.range 4) (fun f s => s.frameCount f num t) s
  { s with wel := { s.wel with emits := s.wel.emits.filter (fun (x : Nat × Nat) => t < x.2 + 64) } }

/-! ### Control stores (R214–R217) -/

/-- The bytes of the control store of an engine. -/
def Wel.storeBytes (e : Wel) : List Byte := (List.range 2048).flatMap (fun a => leBytes 22 (tblGet e.store a))

/-- The digest of CS_EXPECT of engine `w`. -/
def State.csExpect (s : State) (w : Nat) : List Byte :=
  (List.range 8).flatMap (fun k => leBytes 4 (s.reg .CS_EXPECT (8 * w + k)).toNat)

/-- A commit to engine `w` is accepted (R214). -/
def State.csOpen (s : State) (w : Nat) : Bool :=
  !s.flag F.CS_STATUS_VALID w || (s.flag F.CS_CTRL_PATCH w && s.welState w != 3)

/-- CS_ADDR moves on when AUTOINC is 1. -/
def State.csNext (s : State) (w : Nat) : State := if s.flag F.CS_CTRL_AUTOINC w then s.fadd F.CS_ADDR_ADDR w 1 else s

/-- A value written to CS_DATA5 commits the word (R214). -/
def State.csCommit (s : State) (w : Nat) (v : Word) : State :=
  let e := s.wel1 w
  let x := e.hold.foldr (fun d acc => d.toNat + 2 ^ 32 * acc) 0 + (v.toNat % 65536) * 2 ^ 160
  let s := s.setWel w { e with store := tblPut e.store (s.fget F.CS_ADDR_ADDR w) x }
  let s := if s.flag F.CS_CTRL_PATCH w then s.faddSat F.CS_PATCHES_COUNT w 1 else s
  s.csNext w

/-- What CS_DATAi of engine `w` reads (R214). -/
def State.csData (s : State) (w i : Nat) : Word :=
  if s.flag F.CS_STATUS_ACTIVE w then 0#32
  else BitVec.ofNat 32 (tblGet (s.wel1 w).store (s.fget F.CS_ADDR_ADDR w) / 2 ^ (32 * i) % (if i = 5 then 65536 else 2 ^ 32))

/-- A store command (0 LOAD, 1 CHECK, 2 VERIFY, 3 INVALIDATE) is permitted on engine `w` (R215). -/
def State.csAllowed (s : State) (w k : Nat) : Bool :=
  let valid := s.flag F.CS_STATUS_VALID w
  let run := s.welState w == 3
  !s.flag F.CS_STATUS_ACTIVE w && (if k ≤ 1 then !valid else if k = 2 then valid && !run else !run)

/-- A store command starts (R215). -/
def State.csStart (s : State) (w k : Nat) : State :=
  if k = 3 then s.csInvalidateNow w
  else
    let s := s.setWel w { s.wel1 w with cmd := some k }
    let s := s.fsetB F.CS_STATUS_ACTIVE w true
    let s := s.fset F.CS_STATUS_REASON w 0
    if k = 2 then s.fsetB F.CS_STATUS_VERIFY_OK w false else s

/-- The first record of a LOAD image with an SRAM error or with padding that is not zero: index and REASON. -/
def State.csBadRecord (s : State) (a : Nat) : Nat → Nat → Option (Nat × Nat)
  | 0, _ => none
  | n + 1, i =>
    let r := a + 32 * i
    if s.ecc.any (fun x => r ≤ x.1 && x.1 < r + 32 && x.2) then some (i, 3)
    else if (s.bytes (r + 22) 10).any (fun b => b != 0#8) then some (i, 2)
    else s.csBadRecord a n (i + 1)

/-- VALID is set: the patches counted so far are forgotten. -/
def State.csSetValid (s : State) (w : Nat) : State :=
  (((s.fsetB F.CS_STATUS_VALID w true).fset F.CS_STATUS_REASON w 0).fset F.CS_PATCHES_COUNT w 0).welRefresh w

/-- The check of a LOAD or CHECK ends. -/
def State.csChecked (s : State) (w : Nat) : State :=
  if sha256 (s.wel1 w).storeBytes = s.csExpect w then s.csSetValid w else s.fset F.CS_STATUS_REASON w 1

/-- The running store command of engine `w` ends (R215). -/
def State.csDone (s : State) (w : Nat) : State :=
  let e := s.wel1 w
  match e.cmd with
  | none => s
  | some k =>
    if !s.pageLive (0x40 + w) then s
    else
      let s := s.setWel w { e with cmd := none }
      let s := s.fsetB F.CS_STATUS_ACTIVE w false
      let s :=
        if k = 0 then
          let a := sramBase 2 + s.fget F.CS_SRC_OFFSET w * 32
          let stop := s.csBadRecord a 2048 0
          let n := match stop with
            | some (i, _) => i
            | none => 2048
          let (s, _) := s.sramOwnRead (blockSource (0x40 + w)) a (32 * (if n = 2048 then n else n + 1))
          let e := s.wel1 w
          let s := s.setWel w { e with store := (List.range n).foldl (fun t i => tblPut t i (s.memVal (a + 32 * i) 22)) e.store }
          match stop with
          | some (i, r) => (s.fset F.CS_ADDR_ADDR w i).fset F.CS_STATUS_REASON w r
          | none => s.csChecked w
        else if k = 1 then s.csChecked w
        else
          let e := s.wel1 w
          if sha256 e.storeBytes = s.csExpect w then
            (s.setWel w { e with bad := 0 }).fsetB F.CS_STATUS_VERIFY_OK w true
          else
            let s := (s.setWel w { e with bad := e.bad + 1 }).fsetB F.CS_STATUS_VERIFY_BAD w true
            let s := s.irq (0x40 + w) 4
            if 2 ≤ e.bad + 1 then s.propose 3 w else s
      s.irq (0x40 + w) 3

/-! ### Darns at a seam (R453–R455) -/

/-- A confirmed darn is refused: 1 NO_SPARE, 2 NOT_READY. -/
def State.darnRefuse (s : State) (why : Nat) : State := (s.fset F.DARN_STATUS_REFUSE 0 why).irq 0x6C 2

/-- A confirmed ENGINE darn of engine `wf` is carried out (R455). -/
def State.darnEngine (s : State) (wf : Nat) : State :=
  let retired (w : Nat) : Bool := s.fbit F.DARN_RETIRED_ENGINES 0 w
  match (List.range 18).find? (fun w => s.welState w == 1 && !retired w && w != wf) with
  | none =>
    s.darnRefuse (if (List.range 18).any (fun w => s.welState w == 0 && !s.flag F.CS_STATUS_VALID w && !retired w && w != wf &&
      !(List.range 16).any (fun e => s.welMap e == w)) then 2 else 1)
  | some sp =>
    let s := match (List.range 16).find? (fun e => s.welMap e == wf) with
      | none => s
      | some e => s.setReg .WELQ_MAP (e / 4) (withBits (s.reg .WELQ_MAP (e / 4)) (8 * (e % 4)) 5 sp) |>.qSettleOf e
    let s := (s.fsetB F.WEL_CTRL_SERVICE sp true).welRefresh sp
    let s := s.fsetB F.WEL_CTRL_SERVICE wf false
    let s := if s.welState wf = 3 then s.setWel wf { s.wel1 wf with retire := true } else s.csInvalidateNow wf
    let s := s.fsetBit F.DARN_RETIRED_ENGINES 0 wf true
    let s := { s with darn := { s.darn with engines := s.darn.engines.filter (fun (x : Nat × Nat) => x.1 != wf) ++ [(wf, sp)] } }
    s.darnDone 3 0 wf sp

/-- A confirmed BANK darn begins its copy (R454). -/
def State.darnBank (s : State) (d b : Nat) : State :=
  match s.freeBank d with
  | none => s.darnRefuse 1
  | some p => { s with darn := { s.darn with copy := some (d, b, p) } }.darnShow

/-- The domain of the target of a confirmed darn (kind, target). -/
def darnDomain (x : Nat × Nat) : Domain := if x.1 = 3 then .ana else sramDomain (x.2 / 2 ^ 30)

/-- The strobe of SG(42 + f) reaches the domains that `reach` names, and the confirmed darns there. -/
def State.darnSeam (s : State) (f : Nat) (reach : Domain → Bool) : State :=
  if s.fget F.DARN_CTRL_FSEL ≠ f || s.darnStands then s
  else
    let todo := s.darn.confirmed.filter (fun x => reach (darnDomain x))
    let s := { s with darn := { s.darn with confirmed := s.darn.confirmed.filter (fun x => !reach (darnDomain x)) } }
    forEach todo (fun (x : Nat × Nat) s =>
      let dom := darnDomain x
      let wait (s : State) : State :=
        { s with darn := { s.darn with confirmed := s.darn.confirmed ++ [x] } }.faddSat F.DARN_STATUS_DEFER 0 1
      if !s.domLive dom then wait s
      else if x.1 = 3 then s.darnEngine x.2
      else if s.darn.copy.isSome then wait s
      else s.darnBank (x.2 / 2 ^ 30) (x.2 % 512)) s

/-- The seams held during Afternoon reach D_ANA, with the darns confirmed for it (R195, R453). -/
def State.frameRestart (s : State) : State :=
  let held := s.wel.heldSeams
  let s := { s with wel := { s.wel with heldSeams := [] } }
  forEach held (fun x s =>
    let s := if x.2.2 then (s.fsetB F.WELQ_STATUS_SEAM_MISSED 0 true).irq 0x52 4 else s
    (s.darnSeam x.1 (fun d => d == .ana)).frameStrobe x.1 x.2.1) s

/-- CONFIRM of the head proposal (R453). -/
def State.darnConfirm (s : State) : State :=
  match s.darn.props with
  | [] => s
  | x :: _ =>
    let s := s.popProp
    let s := { s with darn := { s.darn with confirmed := s.darn.confirmed ++ [x] } }
    if s.seamOn (42 + s.fget F.DARN_CTRL_FSEL) then s else s.faddSat F.DARN_STATUS_DEFER 0 1

/-- DECLINE of the head proposal: its trigger may raise it again (R453). -/
def State.darnDecline (s : State) : State :=
  match s.darn.props with
  | [] => s
  | x :: _ =>
    let s := s.popProp
    if x.1 = 5 then
      { s with darn := { s.darn with proposed := s.darn.proposed.filter (fun (y : Nat × Nat) =>
          bankTarget y.1 y.2 != x.2) } }
    else s

/-- The copy of a BANK darn ends: it has read the bank through the old remap (R484) and written the correctable words corrected (R452),
and the logical bank lies on the spare (R454). -/
def State.bankCopyDone (s : State) : State :=
  match s.darn.copy with
  | none => s
  | some (d, b, p) =>
    if !s.domLive (sramDomain d) || s.darnStands then s
    else
      let a := sramBase d + 65536 * b
      let s := (s.sramRead a 65536).1
      let s := { s with ecc := s.ecc.filter (fun x => x.2 || !(a ≤ x.1 && x.1 < a + 65536)) }
      let s := s.mapBank d b p
      let s := { s with darn := { s.darn with
        copy := none, proposed := s.darn.proposed.filter (fun (x : Nat × Nat) => x != (d, b)) } }
      s.darnDone 5 0 (bankTarget d b) p

end Sys2Proof.Machine
end

