-- ==== Sys2Proof/Machine/Link.lean ====
section
/-!
DEFINITION. The Polzin link ports: packets, sequence, retry and credits, port states and lanes, the mangle units, and the
pair state that the state of P1 moves (R354–R373, R380–R391, R398–R400).
-/

namespace Sys2Proof.Machine

/-! ### Packets (R359, R360) -/

/-- A packet that is neither numbered nor held (table "Packet types"). -/
def Packet.unsequenced (p : Packet) : Bool :=
  p.typ == 6 || p.typ == 8 || p.typ == 9 || p.typ == 11 || (p.typ == 10 && !p.resp)

/-- Receive units that a sequenced packet costs (R364). -/
def Packet.units (p : Packet) : Nat := (20 + 8 * p.len + 63) / 64

/-- Header and payload of a packet (R359). -/
def Packet.body (p : Packet) : List Byte :=
  leBytes 1 (p.typ + (if p.resp then 16 else 0) + (if p.last then 32 else 0)) ++ leBytes 1 p.tag ++ leBytes 1 p.src ++
    leBytes 1 p.dst ++ leBytes 2 (p.seq % 4096 + p.hops * 4096) ++ leBytes 1 p.len ++ leBytes 1 p.sub ++ leBytes 6 p.addr ++
    leBytes 2 p.aux ++ p.payload

/-- A packet as it travels, with its CRC. -/
def Packet.bytes (p : Packet) : List Byte := p.body ++ leBytes 4 (crc32c p.body)

/-- The number in `n` bytes from byte `o` of a list. -/
def numAt (bs : List Byte) (o n : Nat) : Nat := ofLeBytes ((bs.drop o).take n)

/-- The CRC of a received packet fails. -/
def crcFails (bs : List Byte) : Bool :=
  bs.length < 20 || numAt bs (bs.length - 4) 4 != crc32c (bs.take (bs.length - 4))

/-- The header and the payload that received bytes spell. -/
def Packet.read (bs : List Byte) : Packet where
  typ := numAt bs 0 1 % 16
  resp := numAt bs 0 1 / 16 % 2 == 1
  last := numAt bs 0 1 / 32 % 2 == 1
  tag := numAt bs 1 1
  src := numAt bs 2 1
  dst := numAt bs 3 1
  seq := numAt bs 4 2 % 4096
  hops := numAt bs 4 2 / 4096
  len := numAt bs 6 1
  sub := numAt bs 7 1
  addr := numAt bs 8 6
  aux := numAt bs 14 2
  payload := (bs.drop 16).take (bs.length - 20)

/-- All of these bytes of a payload are zero. -/
def zeroBytes (bs : List Byte) (os : List Nat) : Bool := os.all (fun o => bs.getD o 0#8 == 0#8)

/-- The bytes `a` to `b` as offsets. -/
def upTo (a b : Nat) : List Nat := (List.range (b + 1)).filter (fun i => a ≤ i)

/-- Offsets that are not listed in a MIRROR or BASKET payload, and so must be zero (R392, R393). -/
def Packet.pairZeros (p : Packet) : List Nat :=
  if p.typ = 7 then
    match p.sub with
    | 0 => upTo 2 7
    | 1 => upTo 2 7
    | 2 => (List.range (p.len / 4)).flatMap (fun k => [32 * k + 2, 32 * k + 3])
    | 3 => upTo 16 23
    | 4 => upTo 3 7
    | _ => []
  else
    match p.sub / 8 with
    | 0 => (List.range (p.len / 2)).flatMap (fun k => upTo (16 * k + 12) (16 * k + 15))
    | 1 => upTo 12 15
    | _ => []

/-- The length that a MIRROR packet must have (R392). -/
def Packet.mirrorLength (p : Packet) : Bool :=
  match p.sub with
  | 0 => p.len == 1
  | 1 => p.len == 2
  | 2 => p.len != 0 && p.len % 4 == 0
  | 3 => p.len == 3
  | 4 => p.len == 2
  | 5 => p.len == 0
  | _ => false

/-- The zero fields of a packet are zero (R359, R360, R372). -/
def Packet.zerosOk (p : Packet) : Bool :=
  if p.typ = 8 then p.len == 0 && p.sub == 0 && p.addr == 0 && p.aux == 0
  else if p.typ = 6 && p.sub = 0 then zeroBytes p.payload [29, 30, 31]
  else if p.typ = 7 then p.mirrorLength && zeroBytes p.payload p.pairZeros
  else if p.typ = 4 then zeroBytes p.payload p.pairZeros
  else true

/-- The packet that received bytes spell, or nothing when R360 discards it. -/
def packetOf (bs : List Byte) : Option Packet :=
  let p := Packet.read bs
  if crcFails bs || 11 < p.typ || !(p.src ≤ 23 || p.src == 0x3E) || !(p.dst ≤ 23 || p.dst == 0x3E || p.dst == 0xFF) ||
      128 < p.len || bs.length != 20 + 8 * p.len || 64 ≤ numAt bs 0 1 || !p.zerosOk then none
  else some p

/-! ### The port and its registers -/

/-- What port `p` keeps. -/
def State.port (s : State) (p : Nat) : Port := s.links.ports.getD p Port.reset

/-- Replace what port `p` keeps. -/
def State.setPort (s : State) (p : Nat) (x : Port) : State := { s with links := { s.links with ports := setAt Port.reset s.links.ports p x } }

/-- PZL_STATUS.STATE of port `p`. -/
def State.pzl (s : State) (p : Nat) : Nat := s.fget F.PZL_STATUS_STATE p

/-- Port `p` is UP. -/
def State.portUp (s : State) (p : Nat) : Bool := s.domLive .lnk && s.pzl p == 3

/-- Physical lanes in service, in the order of PZL_LANE. -/
def State.lanesIn (s : State) (p : Nat) : List Nat :=
  [s.fget F.PZL_LANE_IN0 p, s.fget F.PZL_LANE_IN1 p].filter (fun l => l != 3)

/-- The lower-numbered lane in service. -/
def State.lowLane (s : State) (p : Nat) : Nat := (s.lanesIn p).foldl min 3

/-- The lanes that carry traffic: in Evening only the lower-numbered one (R358). -/
def State.carriers (s : State) (p : Nat) : List Nat :=
  if s.fget F.PZL_STATUS_LANES p = 1 then [s.lowLane p] else s.lanesIn p

/-- The device's own DEVID. -/
def State.devid (s : State) : Nat := s.fget F.SYS_STRAPS_DEVID

/-- The twin's DEVID. -/
def State.twinId (s : State) : Nat := s.devid ^^^ 1

/-- N of the ring. -/
def State.ringN (s : State) : Nat := s.fget F.PAIR_RING_CFG_N

/-- The ring link on which P2 (its own number) and P3 (one below) lie. -/
def State.ringLink (s : State) (p : Nat) : Nat := if p = 2 then s.devid else (s.devid + s.ringN - 1) % s.ringN

/-- The device at the far end of port `p` (R398). -/
def State.farId (s : State) (p : Nat) : Nat :=
  if p = 0 then 0x3E
  else if p = 1 then s.twinId
  else if s.flag F.PAIR_RING_CFG_GW_EN && s.fget F.PAIR_RING_CFG_GWLINK == s.ringLink p then 0x3E
  else if p = 2 then (s.devid + 1) % s.ringN else (s.devid + s.ringN - 1) % s.ringN

/-- P0 refuses requests other than REG_RD (R386). -/
def State.p0Closed (s : State) (p : Nat) : Bool :=
  p == 0 && (s.fget F.PAIR_STATUS_STATE == 1 || s.fget F.PAIR_STATUS_STATE == 3)

/-- DEST is the device's own on port `p` (R361, R385, R386). -/
def State.ownDest (s : State) (p dst : Nat) : Bool :=
  if p = 0 && s.flag F.SYS_STRAPS_DEVID_BAD then dst ≤ 23
  else
    let st := s.fget F.PAIR_STATUS_STATE
    dst == s.devid || (p == 0 && (st == 2 || st == 4) && dst == s.twinId)

/-- System time in 1/16 ns at `ofs` sixteenths after now. -/
def State.time16 (s : State) (ofs : Nat) : Nat := ((s.sysTime16 s.now + ofs) % (2 ^ 68 : Nat)).toNat

/-! ### Queues of a port -/

/-- A packet joins the packets that wait on port `p`. -/
def State.enqueue (s : State) (p : Nat) (pk : Packet) (stamp : Option Nat) : State :=
  s.setPort p { s.port p with out := (s.port p).out ++ [(pk, stamp)] }

/-- A packet without payload from this device. -/
def State.barePacket (s : State) (typ dst : Nat) : Packet where
  typ := typ
  resp := false
  last := false
  tag := 0
  src := s.devid
  dst := dst
  seq := 0
  hops := 0
  len := 0
  sub := 0
  addr := 0
  aux := 0
  payload := []

/-- An ACK, a link NAK or a CREDIT is due on port `p`; its cumulative value is that of its departure, so a later one stands
for an earlier one that still waits. -/
def State.ctl (s : State) (p typ : Nat) : State :=
  let x := s.port p
  let rest := x.out.filter (fun y => !(y.1.typ == typ && y.1.unsequenced))
  s.setPort p { x with out := rest ++ [(s.barePacket typ (s.farId p), none)] }

/-- A link NAK is sent (R363). -/
def State.linkNak (s : State) (p : Nat) : State := (s.ctl p 10).faddSat F.PZL_NAKS_LINK p 1

/-- The receiver has consumed a packet and returns its units (R364). -/
def State.consume (s : State) (p : Nat) (pk : Packet) : State :=
  let x := s.port p
  (s.setPort p { x with returned := (x.returned + pk.units) % 65536 }).ctl p 11

/-- The response to a request (R367–R370, R386). -/
def State.respond (s : State) (p : Nat) (q : Packet) (typ sub addr aux : Nat) (payload : List Byte) : State :=
  let pay := payload ++ List.replicate ((8 - payload.length % 8) % 8) 0#8
  s.enqueue p { s.barePacket typ q.src with
    resp := true, tag := q.tag, src := if q.dst = 0xFF then s.devid else q.dst, len := pay.length / 8, sub := sub,
    addr := addr, aux := aux, payload := pay } none

/-- A request is refused (R370). -/
def State.transNak (s : State) (p : Nat) (q : Packet) (reason addr idx : Nat) : State :=
  (s.respond p q 10 reason addr idx []).faddSat F.PZL_NAKS_TRANS p 1

/-! ### The pair state (R387–R391) -/

/-- A MIRROR or BASKET message to the twin, while the PAIR page runs. -/
def State.toTwin (s : State) (typ sub aux : Nat) (payload : List Byte) : State :=
  if !(s.portUp 1 && s.pageEn 0x5E) then s
  else s.enqueue 1 { s.barePacket typ s.twinId with len := payload.length / 8, sub := sub, aux := aux, payload := payload } none

/-- HELLO (R392). -/
def State.sendHello (s : State) : State :=
  s.toTwin 7 0 0 (leBytes 1 (s.fget F.PAIR_STATUS_STATE) ++ leBytes 1 s.devid ++ leBytes 6 0)

/-- The pair logic. -/
def State.pairL (s : State) : Pair := s.links.pair

/-- Replace the pair logic. -/
def State.setPair (s : State) (x : Pair) : State := { s with links := { s.links with pair := x } }

/-- The pair goes from its state to `st`; the move from SECONDARY to SOLO is a takeover, which sets TOOK_OVER. -/
def State.pairTo (s : State) (st : Nat) : State :=
  let old := s.fget F.PAIR_STATUS_STATE
  if old = st then s
  else
    let s := (s.fset F.PAIR_STATUS_STATE 0 st).irq 0x5E 0
    let x := s.pairL
    let s := s.setPair (if st = 1 then { x with twin := none, fromSec := old == 3, bindOver := false, hbLost := false, handing := false }
      else if st = 2 || st = 3 then { x with hbLost := false, handing := false }
      else { x with handing := false })
    let s := if st = 2 || st = 3 then s else s.setPair { s.pairL with ownOut := [], theirOut := [] }
    if old = 3 && st = 4 then
      ((s.fsetB F.PAIR_STATUS_TOOK_OVER 0 true).fadd F.PAIR_STATUS_TAKEOVERS 0 1).irq 0x5E 2
    else if st = 1 then s.sendHello
    else s

/-- The state to which the conditions of table "Pair states" that hold at this moment lead, the higher row first. -/
def State.pairNext (s : State) : Nat :=
  let st := s.fget F.PAIR_STATUS_STATE
  let x := s.pairL
  let up := s.portUp 1
  let live := s.flag F.PAIR_STATUS_TOKEN_LIVE
  let even := s.devid % 2 == 0
  if !(s.flag F.PAIR_CTRL_EN && s.domLive .lnk) || s.flag F.SYS_STRAPS_DEVID_BAD then 0
  else if st = 0 then 1
  else if st = 1 then
    match (if up then x.twin else none) with
    | some 3 => 2
    | some 1 => if even then 2 else 3
    | some 2 => 3
    | some 4 => 3
    | _ => if !live && (x.fromSec || x.bindOver) then 4 else 1
  else if st = 2 then (if x.hbLost || !up then 4 else 2)
  else if st = 3 then (if x.hbLost || !up then (if live then 1 else 4) else 3)
  else st

/-- Move the pair state until its conditions leave it where it is; from UNBOUND it passes through BINDING. While the PAIR page
does not run the state stands (R16, R324). -/
def State.pairEval (s : State) : State :=
  if !s.pageEn 0x5E then s
  else
    let s := s.pairTo s.pairNext
    if s.fget F.PAIR_STATUS_STATE = 1 then s.pairTo s.pairNext else s

/-! ### Port states (R355–R358, R365) -/

/-- The break bits of the device's own links follow the ports (R400). -/
def State.ownBreak (s : State) (p : Nat) : State :=
  if p < 2 || s.ringN ≤ s.ringLink p then s
  else
    let k := s.ringLink p
    let b := s.pzl p != 3
    if s.fbit F.PAIR_RING_BREAK_BREAK 0 k = b then s
    else (s.fsetBit F.PAIR_RING_BREAK_BREAK 0 k b).irq 0x5E 3

/-- Every lane of port `p` has been retired. -/
def State.noLane (s : State) (p : Nat) : Bool := s.fget F.PZL_LANE_BAD p == 7

/-- Port `p` moves to state `st`. -/
def State.portMove (s : State) (p st : Nat) : State :=
  if s.pzl p = st then s
  else
    let s := (s.fset F.PZL_STATUS_STATE p st).irq (0x58 + p) 0
    let s := if st = 3 then s else (s.fset F.PZL_STATUS_GEN p 0).fset F.PZL_STATUS_LANES p 0
    let s := s.setBusy (0x58 + p) (st == 2 || st == 4)
    let s := if st = 4 then s.faddSat F.PZL_RETRY_RETRAINS p 1 else s
    let s := if st = 6 then (s.setPort p { s.port p with fresh := true }).irq (0x58 + p) 2 else s
    let s := s.ownBreak p
    if p = 1 then
      let s := if st = 3 then s.setPair { s.pairL with hbLost := false } else s.setPair { s.pairL with twin := none }
      (if st = 3 && s.flag F.PAIR_CTRL_EN then s.sendHello else s).pairEval
    else s

/-- Port `p` goes to state `st`; from DETECT and TRAIN it fails at once when every lane has been retired (R355). -/
def State.portTo (s : State) (p st : Nat) : State :=
  let t := s.portMove p st
  if (st = 1 || st = 2) && t.noLane p then t.portMove p 6 else t

/-- IDLE takes an UP port to IDLE once its retry buffer is empty; 0 takes it back (R355). -/
def State.portIdle (s : State) (p : Nat) : State :=
  let on := s.flag F.PZL_CTRL_IDLE p
  if s.pzl p = 3 && on && (s.port p).retry.isEmpty then s.portTo p 5
  else if s.pzl p = 5 && !on then s.portTo p 1
  else s

/-- Port `p` starts afresh (R365). -/
def State.startAfresh (s : State) (p : Nat) : State :=
  let x := s.port p
  let s := s.setPort p { x with retry := [], ahead := [], cursor := 0, paid := 0, txNext := 0, rxNext := 0, fresh := true }
  (s.fsetB F.PZL_STATUS_SEQ_RESET p true).irq (0x58 + p) 4

/-- What port `p` needs to leave OFF: its page enabled, LNKREF and its PLL READY, and a sound DEVID for P1–P3. -/
def State.portAble (s : State) (p : Nat) : Bool :=
  s.domLive .lnk && s.flag F.PAGE_CTRL_EN (0x58 + p) && s.fbit F.CLK_READY_READY 0 12 && s.fbit F.CLK_READY_READY 0 (13 + p) &&
    !(p != 0 && s.flag F.SYS_STRAPS_DEVID_BAD)

/-- The first two rows of the state table: OFF, and DETECT from OFF. -/
def State.portRefresh (s : State) (p : Nat) : State :=
  if !s.domLive .lnk then s
  else if s.portAble p then (if s.pzl p = 0 then s.portTo p 1 else s)
  else s.portTo p 0

/-- PAGE_CTRL.EN of the page of port `p` is 0, or its soft reset ends: the port is OFF and has to start afresh. -/
def State.portDisable (s : State) (p : Nat) : State :=
  let s := if s.port p = Port.reset then s else ((s.setPort p Port.reset).startAfresh p).govForget (8 + p)
  s.portRefresh p

/-- Lane `l` of port `p` is retired, an automatic darn (R357, R454). -/
def State.retireLane (s : State) (p l : Nat) : State :=
  if s.fbit F.PZL_LANE_BAD p l then s
  else
    let s := (s.fsetBit F.PZL_LANE_BAD p l true).irq (0x58 + p) 1
    let s := if s.domLive .acq then s.fsetBit F.DARN_LNK_BAD 0 (3 * p + l) true else s
    s.darnDone 6 2 (p + 256 * l) 0

/-- The lanes with which port `p` trains: each lane that has been retired is replaced by the spare while that is free, else the port
keeps the other lane (R357). -/
def State.assignLanes (s : State) (p : Nat) : State :=
  let bad (l : Nat) : Bool := l == 3 || s.fbit F.PZL_LANE_BAD p l
  let sp := s.fget F.PZL_LANE_SPARE p
  let sp := if bad sp then 3 else sp
  let i0 := s.fget F.PZL_LANE_IN0 p
  let i1 := s.fget F.PZL_LANE_IN1 p
  let (i0, sp) := if bad i0 then (sp, 3) else (i0, sp)
  let (i1, sp) := if bad i1 then (sp, 3) else (i1, sp)
  let (i0, i1) := if i0 = 3 then (i1, 3) else (i0, i1)
  ((s.fset F.PZL_LANE_IN0 p i0).fset F.PZL_LANE_IN1 p i1).fset F.PZL_LANE_SPARE p sp

/-- The lanes in service of port `p` after a training are those of them that trained and are not retired. -/
def State.keepLanes (s : State) (p trained : Nat) : State :=
  let ok (l : Nat) : Bool := l != 3 && trained.testBit l && !s.fbit F.PZL_LANE_BAD p l
  let i0 := s.fget F.PZL_LANE_IN0 p
  let i1 := s.fget F.PZL_LANE_IN1 p
  let (i0, i1) := if ok i0 then (i0, if ok i1 then i1 else 3) else (if ok i1 then i1 else 3, 3)
  (s.fset F.PZL_LANE_IN0 p i0).fset F.PZL_LANE_IN1 p i1

/-- Each UP port carries traffic on one lane (R358), or on all its lanes again. -/
def State.linkLanes (s : State) (one : Bool) : State :=
  if !s.domLive .lnk then s
  else forEach (indices 4 (fun p => s.pzl p == 3))
    (fun p s => s.fset F.PZL_STATUS_LANES p (if one then min 1 (s.lanesIn p).length else (s.lanesIn p).length)) s

/-- The packets still held after the far end has reported that it expects number `n`. -/
def heldFrom (retry : List Packet) (n : Nat) : List Packet :=
  match retry with
  | [] => []
  | pk :: _ =>
    let k := (n + 4096 - pk.seq) % 4096
    if k ≤ retry.length then retry.drop k else retry

/-- Evening holds one lane per port, from the steps that enter it on (R305, R307). -/
def State.oneLane (s : State) : Bool :=
  2 ≤ s.mode || s.power.step == some (1, 2) || s.power.step == some (3, 2)

/-- Training of port `p` ends (R356, R357, R365): the lanes that trained, the far end's highest generation, its BAD bits, and its
three reports. The lanes that either end had retired before are replaced in this training; a lane that fails in it is retired, and the
spare replaces it at the retrain that follows. -/
def State.linkTrained (s : State) (p trained gen farBad : Nat) (farFresh : Bool) (farExpects farFree : Nat) : State :=
  if !(s.domLive .lnk && (s.pzl p == 2 || s.pzl p == 4)) then s
  else
    let s := (forEach (indices 3 (fun l => farBad.testBit l)) (fun l s => s.retireLane p l) s).assignLanes p
    let some1 := (List.range 3).any (fun l => trained.testBit l && !s.fbit F.PZL_LANE_BAD p l)
    let s := if some1 then forEach (indices 3 (fun l => !trained.testBit l)) (fun l s => s.retireLane p l) s else s
    let inUse := (s.lanesIn p).filter (fun l => trained.testBit l && !s.fbit F.PZL_LANE_BAD p l)
    if inUse.isEmpty then s.portTo p 1
    else
      let s := s.keepLanes p trained
      let x := s.port p
      let s := if farFresh || x.fresh then s.startAfresh p
        else s.setPort p { x with retry := heldFrom x.retry farExpects, ahead := [] }
      let s := s.setPort p { s.port p with cursor := 0, paid := 0, creditSeen := 0, returned := 0, rounds := 0,
                                           laneErr := [0, 0, 0], fresh := false }
      let s := s.fset F.PZL_CREDIT_UNITS p (min 256 farFree)
      let s := { s with beacon := { s.beacon with ports := setAt ⟨none, 0, none, false⟩ s.beacon.ports p ⟨none, 0, none, false⟩ } }
      let s := s.portTo p 3
      let n := (s.lanesIn p).length
      let s := s.fset F.PZL_STATUS_GEN p (max 1 (min gen (s.fget F.PZL_CFG_MAX_GEN p)))
      (s.fset F.PZL_STATUS_LANES p (if s.oneLane then min 1 n else n)).portIdle p

/-- DETECT is retried (R355). -/
def State.detectRetry (s : State) (p : Nat) (answers : Bool) : State :=
  if s.domLive .lnk && s.pzl p == 1 && answers then s.portTo p 2 else s

/-- Training has not completed in time (R355). -/
def State.trainTimeout (s : State) (p : Nat) : State :=
  if s.domLive .lnk && (s.pzl p == 2 || s.pzl p == 4) then s.portTo p 1 else s

/-- A 1 has been written to RETRAIN. -/
def State.portRetrain (s : State) (p : Nat) : State :=
  if s.pzl p = 3 then s.portTo p 4 else if s.pzl p = 6 then s.portTo p 1 else s

/-- Activity on a lane of an IDLE port. -/
def State.portActivity (s : State) (p : Nat) : State := if s.domLive .lnk && s.pzl p == 5 then s.portTo p 1 else s

/-- A window of 1 ms ends (R357). -/
def State.laneWindow (s : State) (p : Nat) : State :=
  let x := s.port p
  let worn := if s.portUp p then
      (s.lanesIn p).filter (fun l => s.fget F.PZL_CFG_LANE_ERR_MAX p < x.laneErr.getD l 0)
    else []
  let s := s.setPort p { x with laneErr := [0, 0, 0] }
  let s := forEach worn (fun l s => s.retireLane p l) s
  if worn.isEmpty then s else s.portTo p 4

/-- A clock failure of LNKREF or a link PLL leaves the ports OFF with their buffers (R382). -/
def State.linksOff (s : State) : State :=
  forEach (List.range 4) (fun p s => if s.domPower .lnk = .on then s.portTo p 0 else s) s

/-! ### Receiving (R360–R364, R399) -/

/-- A packet for another device goes on round the ring (R399); a SYNC takes the delay of the receiving port with it
(R374). -/
def State.forward (s : State) (p : Nat) (pk : Packet) (stamp : Option Nat) : State :=
  if pk.dst ≤ 23 && s.ringN ≤ pk.dst then s.faddSat F.PZL_DROP_MISROUTE p 1
  else if pk.hops = 15 then s.faddSat F.PAIR_RING_STAT_DROPPED 0 1
  else
    let o := 5 - p
    let o := if s.portUp o then o else p
    let pk := { pk with hops := pk.hops + 1 }
    let pk := if pk.typ = 6 && pk.sub = 0 && pk.payload.length = 32 then
        let c := numAt pk.payload 16 8 + toField 64 (s.fgetI F.BEACON_DELAY_DELAY p + s.fgetI F.BEACON_ASYM_ASYM p)
        { pk with payload := pk.payload.take 16 ++ leBytes 8 (c % 2 ^ 64) ++ pk.payload.drop 24 }
      else pk
    (s.enqueue o pk stamp).faddSat F.PAIR_RING_STAT_FORWARDED 0 1

/-- The type has a row that serves it from the port's inbox. -/
def Packet.served (p : Packet) : Bool :=
  p.typ ≤ 3 || (p.typ == 7 && p.sub ≤ 5) || (p.typ == 4 && p.sub / 8 ≤ 5)

/-- A sequenced request to the pair address that P0 refuses although the DEVID is not its own now (R386): the host is answered. -/
def State.pairRefuses (s : State) (p : Nat) (pk : Packet) : Bool :=
  s.p0Closed p && pk.dst == s.twinId && !s.flag F.SYS_STRAPS_DEVID_BAD && !pk.resp && pk.served && pk.typ != 0

/-- A sequenced packet is delivered in order. -/
def State.deliver (s : State) (p : Nat) (pk : Packet) : State :=
  let s := s.ctl p 9
  if s.pairRefuses p pk then (s.transNak p pk 4 pk.addr 0).consume p pk
  else if pk.dst != 0xFF && !s.ownDest p pk.dst then
    (if p < 2 then s.faddSat F.PZL_DROP_MISROUTE p 1 else s.forward p pk none).consume p pk
  else if pk.served then s.setPort p { s.port p with inbox := (s.port p).inbox ++ [pk] }
  else if pk.dst = 0xFF || (pk.typ = 4 && !(p = 1 && pk.src = s.twinId)) then (s.transNak p pk 4 pk.addr 0).consume p pk
  else s.consume p pk

/-- The run that follows a filled gap. -/
def State.deliverRun (s : State) (p : Nat) : Nat → State
  | 0 => s
  | n + 1 =>
    let x := s.port p
    match x.ahead.find? (fun y => y.seq == x.rxNext) with
    | none => s
    | some pk =>
      let s := s.setPort p { x with rxNext := (x.rxNext + 1) % 4096, ahead := x.ahead.filter (fun y => y.seq != x.rxNext) }
      (s.deliver p pk).deliverRun p n

/-- A sequenced packet arrives (R363). -/
def State.receiveSeq (s : State) (p : Nat) (pk : Packet) : State :=
  let x := s.port p
  let d := (pk.seq + 4096 - x.rxNext) % 4096
  if d = 0 then
    ((s.setPort p { x with rxNext := (x.rxNext + 1) % 4096 }).deliver p pk).deliverRun p 32
  else if 2048 ≤ d || x.ahead.any (fun y => y.seq == pk.seq) then s
  else if 32 ≤ x.ahead.length then s.linkNak p
  else
    let s := s.setPort p { x with ahead := x.ahead ++ [pk] }
    if x.ahead.length = 31 then s.linkNak p else s

/-- An unsequenced packet arrives. -/
def State.receiveSide (s : State) (p : Nat) (pk : Packet) (stamp : Nat) : State :=
  let bcast := pk.dst == 0xFF
  let s := if bcast && 2 ≤ p && (pk.typ = 6 || pk.typ = 8) && pk.hops + 1 < s.ringN then s.forward p pk (some stamp) else s
  if bcast && !(pk.typ = 6 || pk.typ = 8) then s
  else if !bcast && !s.ownDest p pk.dst then
    (if p < 2 then s.faddSat F.PZL_DROP_MISROUTE p 1 else s.forward p pk (some stamp))
  else if pk.typ = 6 && 2 < pk.sub then s
  else s.setPort p { s.port p with side := (s.port p).side ++ [(pk, stamp)] }

/-- A packet has been received whole on a lane of port `p`, its start marker `ofs` sixteenths of a ns after now. -/
def State.packetReceive (s : State) (p lane : Nat) (bs : List Byte) (framed : Bool) (ofs : Nat) : State :=
  if !(s.portUp p && (s.carriers p).contains lane) then s
  else
    match (if framed then packetOf bs else none) with
    | none =>
      let s := s.faddSat F.PZL_DROP_MALFORMED p 1
      if framed && crcFails bs then
        let x := s.port p
        (s.setPort p { x with laneErr := setAt 0 x.laneErr lane (x.laneErr.getD lane 0 + 1) }).faddSat F.PZL_LERR_COUNT (3 * p + lane) 1
      else s
    | some pk => if pk.unsequenced then s.receiveSide p pk (s.time16 ofs) else s.receiveSeq p pk

/-- The first unsequenced packet on port `p` that `f` names, and the state without it. -/
def State.takeSide (s : State) (p : Nat) (f : Packet → Bool) : Option (Packet × Nat × State) :=
  let x := s.port p
  match x.side.find? (fun y => f y.1) with
  | none => none
  | some y => some (y.1, y.2, s.setPort p { x with side := x.side.erase y })

/-- A retry round (R363). -/
def State.retryRound (s : State) (p cursor : Nat) : State :=
  let x := s.port p
  let s := (s.setPort p { x with cursor := cursor, rounds := x.rounds + 1 }).faddSat F.PZL_RETRY_ROUNDS p 1
  if s.fget F.PZL_CFG_RETRY_MAX p ≤ x.rounds + 1 then s.portTo p 4 else s

/-- A received ACK frees the packets that it covers (R362). -/
def State.ackReceived (s : State) (p : Nat) : State :=
  match s.takeSide p (fun k => k.typ == 9) with
  | none => s
  | some (pk, _, s) =>
    let x := s.port p
    let left := heldFrom x.retry ((pk.seq + 1) % 4096)
    let k := x.retry.length - left.length
    if k = 0 then s
    else (s.setPort p { x with retry := left, cursor := x.cursor - k, paid := x.paid - k, rounds := 0 }).portIdle p

/-- A received link NAK (R363). -/
def State.nakReceived (s : State) (p : Nat) : State :=
  match s.takeSide p (fun k => k.typ == 10) with
  | none => s
  | some (pk, _, s) =>
    let x := s.port p
    match x.retry with
    | [] => s
    | h :: _ =>
      let k := (pk.seq + 4096 - h.seq) % 4096
      if x.retry.length ≤ k || !s.portUp p then s else s.retryRound p k

/-- A received CREDIT (R364). -/
def State.creditReceived (s : State) (p : Nat) : State :=
  match s.takeSide p (fun k => k.typ == 11) with
  | none => s
  | some (pk, _, s) =>
    let x := s.port p
    let new := (pk.aux + 65536 - x.creditSeen) % 65536
    (s.setPort p { x with creditSeen := pk.aux }).fset F.PZL_CREDIT_UNITS p (min 256 (s.fget F.PZL_CREDIT_UNITS p + new))

/-- No ACK has covered the oldest held packet in time (R363). -/
def State.ackTimeout (s : State) (p : Nat) : State :=
  if s.portUp p && !(s.port p).retry.isEmpty then s.retryRound p 0 else s

/-- A gap has stayed open (R363). -/
def State.gapTimeout (s : State) (p : Nat) : State :=
  if s.portUp p && !(s.port p).ahead.isEmpty then s.linkNak p else s

/-- An ACK (9) or a CREDIT (11) is due by its period. -/
def State.periodic (s : State) (p typ : Nat) : State := if s.portUp p then s.ctl p typ else s

/-! ### The mangle units (R380, R381) -/

/-- The next value of the shift register of R380. -/
def lfsrNext (x : BitVec 16) : BitVec 16 :=
  match Config.lfsrForm.val with
  | 0 => (x >>> 1) ||| ((x ^^^ (x >>> 2) ^^^ (x >>> 3) ^^^ (x >>> 5)) <<< 15)
  | 1 => (x <<< 1) ||| (((x >>> 15) ^^^ (x >>> 13) ^^^ (x >>> 12) ^^^ (x >>> 10)) &&& 1#16)
  | 2 => (x >>> 1) ^^^ (if x.getLsbD 0 then 0xB400#16 else 0#16)
  | _ => (x <<< 1) ^^^ (if x.getLsbD 15 then 0x6801#16 else 0#16)

/-- Mangle unit `u`. -/
def State.mangleUnit (s : State) (u : Nat) : Mangle := s.links.mangles.getD u ⟨false, none, []⟩

/-- Replace mangle unit `u`. -/
def State.setMangle (s : State) (u : Nat) (x : Mangle) : State :=
  { s with links := { s.links with mangles := setAt ⟨false, none, []⟩ s.links.mangles u x } }

/-- A pulse on the router channel of an EVENT unit arms it. -/
def State.mangleArm (s : State) (ch : Nat) : State :=
  if !s.pageEn 0x5C then s
  else forEach (indices 4 (fun u => s.flag F.MGL_CTRL_EN u && s.flag F.MGL_CTRL_TRIG u && s.fget F.MGL_CTRL_CH u == ch))
    (fun u s => s.setMangle u { s.mangleUnit u with armed := true }) s

/-- Bytes go out on a lane of port `p`. -/
def State.putLane (s : State) (p lane : Nat) (bs : List Byte) : State :=
  { s with links := { s.links with sent := s.links.sent ++ [(p, lane, bs)] } }

/-- Unit `u` has mangled a packet. -/
def State.mangled (s : State) (u : Nat) : State := (s.faddSat F.MGL_COUNT_COUNT u 1).irq 0x5C u

/-- XOR the mask into the packet's bytes; `none` when the target lies beyond the packet. -/
def State.corrupt (s : State) (u : Nat) (bs : List Byte) : Option (List Byte) :=
  let o := if s.flag F.MGL_CORR_TARGET u then bs.length - 4 else 16 + 4 * s.fget F.MGL_CORR_OFS u
  if !s.flag F.MGL_CORR_TARGET u && bs.length < o + 8 then none
  else some (bs.take o ++ leBytes 4 (numAt bs o 4 ^^^ s.fget F.MGL_XOR_XOR u) ++ bs.drop (o + 4))

/-- A packet of type `typ` leaves the retry buffer of port `u` for a lane, through the mangle unit. -/
def State.emit (s : State) (u typ lane : Nat) (bs : List Byte) : State :=
  if !(s.pageEn 0x5C && s.flag F.MGL_CTRL_EN u && s.fbit F.MGL_CTRL_TYPEMASK u typ) then s.putLane u lane bs
  else
    let m := s.mangleUnit u
    let (s, sel) := if s.flag F.MGL_CTRL_TRIG u then (s.setMangle u { m with armed := false }, m.armed)
      else
        let v := lfsrNext (BitVec.ofNat 16 (s.fget F.MGL_PROB_SEED u))
        (s.fset F.MGL_PROB_SEED u v.toNat, decide (v.toNat < s.fget F.MGL_PROB_PROB u))
    let m := s.mangleUnit u
    let mode := s.fget F.MGL_CTRL_MODE u
    let s := { s with links := { s.links with mangles := setAt ⟨false, none, []⟩ s.links.mangles u { m with reorder := none } } }
    let s := if !sel then s.putLane u lane bs
      else if mode = 0 then s.mangled u
      else if mode = 1 then
        match s.corrupt u bs with
        | some bs' => (s.putLane u lane bs').mangled u
        | none => s.putLane u lane bs
      else if mode = 2 then
        (if m.reorder.isSome then s.putLane u lane bs
         else (s.setMangle u { s.mangleUnit u with reorder := some (lane, bs) }).mangled u)
      else (s.setMangle u { s.mangleUnit u with delayed := (s.mangleUnit u).delayed ++ [(lane, bs)] }).mangled u
    match m.reorder with
    | some (l, b) => s.putLane u l b
    | none => s

/-- The hold of a delayed or reordered packet of unit `u` ends. -/
def State.mangleExpire (s : State) (u : Nat) : State :=
  let s := { s with links := { s.links with sent := [] } }
  let m := s.mangleUnit u
  match m.delayed, m.reorder with
  | (l, b) :: rest, _ => (s.setMangle u { m with delayed := rest }).putLane u l b
  | [], some (l, b) => (s.setMangle u { m with reorder := none }).putLane u l b
  | [], none => s

/-! ### Sending (R359, R362, R364, R371, R399) -/

/-- The port by which pushed tables leave (R371). -/
def State.pushPort (s : State) : Nat := s.fget F.PZL_PUSH_CFG_PORT

/-- The next EVENT packet of the pushed table at the front (R371), with the state after it has been taken. A table that stands in
the queue when EN falls waits there (log entry 59). -/
def State.nextPush (s : State) (p : Nat) : Option (Packet × State) :=
  match s.wel.pushes with
  | [] => none
  | (dst, len, done) :: rest =>
    if s.pushPort != p || !(s.pageEn 0x58 && s.flag F.PZL_PUSH_CFG_EN) then none
    else
      let n := min 1024 (len - done)
      let a := sramBase 2 + dst + done
      let (s, bs) := s.sramOwnRead (blockSource 0x58) a n
      let fin : Bool := decide (len ≤ done + n)
      let pay := bs ++ List.replicate ((8 - n % 8) % 8) 0#8
      let s := { s with wel := { s.wel with pushes := if fin then rest else (dst, len, done + n) :: rest } }
      let s := s.fset F.PZL_PUSH_STATUS_QUEUED 0 s.wel.pushes.length
      some ({ s.barePacket 5 (s.fget F.PZL_PUSH_CFG_DEST) with last := fin, len := pay.length / 8, addr := a, payload := pay }, s)

/-- The stamps and the cumulative values that a packet takes at its departure (R363, R364, R374, R375). -/
def State.stamped (s : State) (p : Nat) (pk : Packet) (arrival : Option Nat) (t : Nat) : State × Packet :=
  let x := s.port p
  let put (o : Nat) (v : Nat) (pay : List Byte) : List Byte := pay.take o ++ leBytes 8 (v % 2 ^ 64) ++ pay.drop (o + 8)
  if pk.typ = 9 then (s, { pk with seq := (x.rxNext + 4095) % 4096 })
  else if pk.typ = 10 then (s, { pk with seq := x.rxNext })
  else if pk.typ = 11 then (s, { pk with aux := x.returned })
  else if pk.typ = 6 && pk.sub = 0 then
    match arrival with
    | none => (s, { pk with payload := put 16 (t % 16) (put 8 (t / 16) pk.payload) })
    | some a => (s, { pk with payload := put 16 (numAt pk.payload 16 8 + (t + 2 ^ 68 - a) % 2 ^ 68) pk.payload })
  else if pk.typ = 6 && pk.sub = 1 && arrival.isNone then
    let b := s.beacon.ports.getD p ⟨none, 0, none, false⟩
    ({ s with beacon := { s.beacon with ports := setAt ⟨none, 0, none, false⟩ s.beacon.ports p { b with dreq := some (t % 2 ^ 64) } } },
      { pk with payload := put 0 t pk.payload })
  else if pk.typ = 6 && pk.sub = 2 && arrival.isNone then (s, { pk with payload := put 16 t pk.payload })
  else (s, pk)

/-- The first waiting packet that may go: a sequenced one only when no earlier sequenced one waits, the retry buffer has
room and the credit covers it. -/
def State.firstSendable (s : State) (p : Nat) : Option (Packet × Option Nat) :=
  let x := s.port p
  let seqd := x.out.filter (fun y => !y.1.unsequenced)
  let ok (y : Packet × Option Nat) : Bool :=
    y.1.unsequenced ||
      (some y == seqd.head? && x.retry.length < 64 && y.1.units ≤ s.fget F.PZL_CREDIT_UNITS p)
  x.out.find? ok

/-- Take `k` units of credit. -/
def State.spend (s : State) (p k : Nat) : State := s.fset F.PZL_CREDIT_UNITS p (s.fget F.PZL_CREDIT_UNITS p - k)

/-- A new sequenced packet takes its number and joins the retry buffer. -/
def State.sendNew (s : State) (p lane : Nat) (pk : Packet) : State :=
  let x := s.port p
  let pk := { pk with seq := x.txNext }
  let held := x.retry ++ [pk]
  let s := s.setPort p { x with retry := held, cursor := held.length, paid := held.length, txNext := (x.txNext + 1) % 4096 }
  (s.spend p pk.units).emit p pk.typ lane pk.bytes

/-- The waiting packet `y` of port `p`, which is unsequenced, goes out. -/
def State.sendSide (s : State) (p : Nat) (y : Packet × Option Nat) (ofs : Nat) : State :=
  let x := s.port p
  let s := s.setPort p { x with out := x.out.erase y }
  let (s, pk) := s.stamped p y.1 y.2 (s.time16 ofs)
  s.emit p pk.typ (s.lowLane p) pk.bytes

/-- Port `p` sends its next packet: held packets of a retry round first, then those that wait, then pushed tables. The lane
is the second in service when `second` holds and there is one; unsequenced packets take the lowest (R362) and need no credit (R364). -/
def State.packetSend (s : State) (p : Nat) (second : Bool) (ofs : Nat) : State :=
  let s := { s with links := { s.links with sent := [] } }
  if !s.portUp p then s
  else
    let x := s.port p
    let lanes := s.carriers p
    let lane := if second && 1 < lanes.length then lanes.getD 1 0 else lanes.headD 0
    match x.retry[x.cursor]? with
    | some pk =>
      let paid := decide (x.cursor < x.paid)
      if !paid && s.fget F.PZL_CREDIT_UNITS p < pk.units then
        match x.out.find? (fun y => y.1.unsequenced) with
        | some y => s.sendSide p y ofs
        | none => s
      else
        let s := s.setPort p { x with cursor := x.cursor + 1, paid := max x.paid (x.cursor + 1) }
        (if paid then s else s.spend p pk.units).emit p pk.typ lane pk.bytes
    | none =>
      match s.firstSendable p with
      | some y =>
        if y.1.unsequenced then s.sendSide p y ofs
        else (s.setPort p { x with out := x.out.erase y }).sendNew p lane y.1
      | none =>
        if x.out.any (fun y => !y.1.unsequenced) || 64 ≤ x.retry.length then s
        else
          match s.nextPush p with
          | none => s
          | some (pk, s') => if s.fget F.PZL_CREDIT_UNITS p < pk.units then s else s'.sendNew p lane pk

/-- The packet at the front of the inbox of port `p`, when `f` names it, and the state that has consumed it (R364). -/
def State.takeInbox (s : State) (p : Nat) (f : Packet → Bool) : Option (Packet × State) :=
  let x := s.port p
  match x.inbox with
  | pk :: rest => if f pk then some (pk, (s.setPort p { x with inbox := rest, run := none }).consume p pk) else none
  | [] => none

end Sys2Proof.Machine
end

