-- ==== Sys2Proof/Machine/Pair.lean ====
section
/-!
DEFINITION. Time beacons, the twin's messages and the comparisons of a pair (R374–R378, R387–R397, R401).
-/

namespace Sys2Proof.Machine

/-! ### System time (R374–R378) -/

/-- The slope of system time changes at this moment: the count is taken as the new base, and an error that was being removed
by rate is forgotten. -/
def State.timeRebase (s : State) : State :=
  { s with beacon := { s.beacon with base16 := s.sysTime16 s.now, baseTick := s.now, slew := 0, slewLen := 1 } }

/-- The count of system time runs while D_LNK and the BEACON page do, and stands else (R16, R324, R382). -/
def State.timeFollow (s : State) : State :=
  let still := !s.pageEn 0x5D
  if s.beacon.still = still then s
  else
    let s := s.timeRebase
    { s with beacon := { s.beacon with still := still } }

/-- D_LNK powers on with no port UP: the break bits of the device's own links stand, without an interrupt (R400, R402). -/
def State.ownBroken (s : State) : State :=
  forEach (([2, 3].map (fun p => s.ringLink p)).filter (fun k => k < s.ringN)) (fun k s => s.fsetBit F.PAIR_RING_BREAK_BREAK 0 k true) s

/-- D_LNK runs: PZL_LANE.BAD is loaded with the lanes darned (R357, R459), and system time and the ports follow (R355, R400). -/
def State.lnkOn (s : State) (load : Bool) : State :=
  let s := if load && s.domLive .acq then
      forEach (List.range 4) (fun p s => s.fset F.PZL_LANE_BAD p (s.fget F.DARN_LNK_BAD 0 / 2 ^ (3 * p) % 8)) s
    else s
  let s := (if load then s.ownBroken else s).timeFollow
  forEach (List.range 4) (fun p s => s.portRefresh p) s

/-- VALID falls (R377). -/
def State.timeInvalid (s : State) : State := s.fsetB F.BEACON_STATUS_VALID 0 false

/-- VALID rises. -/
def State.timeValid (s : State) : State :=
  if s.flag F.BEACON_STATUS_VALID then s else (s.fsetB F.BEACON_STATUS_VALID 0 true).irq 0x5D 4

/-- Beacon `n` has been applied, or sent by a master: the beacon generators whose 2^L divides it owe a seam (R378). -/
def State.beaconSeam (s : State) (n : Nat) : State :=
  if !s.flag F.BEACON_STATUS_VALID then s
  else
    let due := [46, 47].filter (fun g => n % 2 ^ (s.fget F.SEAM_CFG_SRCSEL g % 32) == 0 && s.seamOn g)
    { s with beacon := { s.beacon with seams := s.beacon.seams ++ due.map (fun g => (g, n, s.now)) } }

/-- The number of the next SYNC of a master at time `t16`: ceil(t / PERIOD). -/
def State.beaconNumber (s : State) (t16 : Int) : Nat :=
  let p : Int := 16 * (max 1 (s.fget F.BEACON_PERIOD_NS) : Nat)
  ((t16 + p - 1) / p).toNat

/-- BEACON_PERIOD has been written: a master's next SYNC is the first that the new period gives (R374, log entry 59). -/
def State.periodWritten (s : State) : State :=
  { s with beacon := { s.beacon with next := s.beaconNumber (s.sysTime16 s.now) } }

/-- A 1 has been written to SET: the count is loaded (R377). -/
def State.beaconSet (s : State) : State :=
  let t : Int := 16 * (s.get64 .BEACON_SET_LO .BEACON_SET_HI : Int)
  let s := { s with beacon := { s.beacon with base16 := t, baseTick := s.now, slew := 0, slewLen := 1,
                                              next := s.beaconNumber t } }
  s.timeValid.alignUpdate

/-- A master's system time reaches N × PERIOD (R374). -/
def State.syncSend (s : State) : State :=
  if !(s.pageEn 0x5D && s.flag F.BEACON_CFG_ROLE && s.flag F.BEACON_STATUS_VALID) then s
  else
    let n := s.beacon.next
    let pay := leBytes 8 n ++ leBytes 16 0 ++ leBytes 4 (s.fget F.BEACON_PERIOD_NS) ++ leBytes 1 s.devid ++ leBytes 3 0
    let s := forEach (indices 4 (fun p => s.fbit F.BEACON_CFG_TXMASK 0 p && s.portUp p))
      (fun p s => s.enqueue p { s.barePacket 6 0xFF with len := 4, payload := pay } none) s
    let s := { s with beacon := { s.beacon with next := n + 1 } }
    (s.set64 .BEACON_BNUM_LO .BEACON_BNUM_HI 0 n).beaconSeam n

/-- What the beacon logic keeps of port `p`. -/
def State.beaconPort (s : State) (p : Nat) : BeaconPort := s.beacon.ports.getD p ⟨none, 0, none, false⟩

/-- Replace what the beacon logic keeps of port `p`. -/
def State.setBeaconPort (s : State) (p : Nat) (x : BeaconPort) : State :=
  { s with beacon := { s.beacon with ports := setAt ⟨none, 0, none, false⟩ s.beacon.ports p x } }

/-- The port whose SYNC packets are applied (R376). -/
def State.syncPort (s : State) : Nat :=
  if !s.flag F.BEACON_CFG_AUTO then s.fget F.BEACON_CFG_RXPORT
  else
    let best := (List.range 4).foldl (fun (a : Nat × Nat) p =>
      match (s.beaconPort p).hops with
      | some h => if h < a.1 then (h, p) else a
      | none => a) (16, 0)
    best.2

/-- A follower applies a SYNC from port `p` that arrived at `ta` (R376). -/
def State.syncApply (s : State) (p : Nat) (pk : Packet) (ta : Int) : State :=
  if s.syncPort ≠ p then s
  else if !(s.beaconPort p).known then (s.fsetB F.BEACON_STATUS_NO_DELAY 0 true).irq 0x5D 5
  else
    let num := numAt pk.payload 0 8
    let period := numAt pk.payload 24 4
    let t : Int := 16 * (numAt pk.payload 8 8 : Int) + signed 64 (numAt pk.payload 16 8) + s.fgetI F.BEACON_DELAY_DELAY p +
      s.fgetI F.BEACON_ASYM_ASYM p
    let e := ta - t
    let s := s.timeRebase
    let big := decide (16 * s.fget F.BEACON_STEP_NS < e.natAbs)
    let s := if big then
        let s := { s with beacon := { s.beacon with base16 := s.beacon.base16 - e, stepped := true, lastSync := some t } }
        (s.fsetB F.BEACON_STATUS_STEPPED 0 true).irq 0x5D 1
      else
        let g := 2 ^ (40 - s.fget F.BEACON_CFG_RGAIN)
        let rate := match s.beacon.lastSync with
          | some l => if s.beacon.stepped || ta ≤ l then 0 else -(e * (g : Int)) / (ta - l)
          | none => 0
        let s := s.fset F.BEACON_RATE_RATE 0 (toField 32 (saturate 32 (s.fgetI F.BEACON_RATE_RATE + rate)))
        { s with beacon := { s.beacon with slew := -e, slewLen := max 1 (period * 16 / 25), stepped := false, lastSync := some ta } }
    let s := s.timeValid.fset F.BEACON_PERIOD_NS 0 period
    let s := s.fset F.BEACON_LAST_ERR_ERR 0 (toField 32 (saturate 32 e))
    let s := (s.fset F.BEACON_STATUS_MASTER 0 (numAt pk.payload 28 1)).fset F.BEACON_STATUS_HOPS 0 pk.hops
    let s := (s.set64 .BEACON_BNUM_LO .BEACON_BNUM_HI 0 num).irq 0x5D 0
    s.alignUpdate.beaconSeam num

/-- A received SYNC (R374–R376, R401). -/
def State.syncReceived (s : State) (p : Nat) : State :=
  match s.takeSide p (fun k => k.typ == 6 && k.sub == 0) with
  | none => s
  | some (pk, ta, s) =>
    let period := numAt pk.payload 24 4
    if pk.len ≠ 4 || period < 10000 || 10000000 < period || !s.pageEn 0x5D then s
    else
      let s := if s.flag F.BEACON_CFG_ROLE && numAt pk.payload 28 1 < s.devid then
          ((s.fsetB F.BEACON_CFG_ROLE 0 false).timeInvalid).irq 0x5E 4
        else s
      if s.flag F.BEACON_CFG_ROLE then s
      else
        let b := s.beaconPort p
        let ask := b.syncs % 2 ^ s.fget F.BEACON_CFG_DLOG2 == 0
        let s := s.setBeaconPort p { b with hops := some pk.hops, syncs := b.syncs + 1 }
        let s := if ask then
            s.enqueue p { s.barePacket 6 (s.farId p) with len := 1, sub := 1, payload := leBytes 8 0 } none
          else s
        s.syncApply p pk ta

/-- A received DREQ is answered (R374). -/
def State.dreqReceived (s : State) (p : Nat) : State :=
  match s.takeSide p (fun k => k.typ == 6 && k.sub == 1) with
  | none => s
  | some (pk, ta, s) =>
    if !s.pageEn 0x5D then s
    else s.enqueue p { s.barePacket 6 pk.src with
      len := 3, sub := 2, payload := leBytes 8 (numAt pk.payload 0 8) ++ leBytes 8 ta ++ leBytes 8 0 } none

/-- A received DRESP completes a delay measurement (R375). -/
def State.drespReceived (s : State) (p : Nat) : State :=
  match s.takeSide p (fun k => k.typ == 6 && k.sub == 2) with
  | none => s
  | some (pk, ta, s) =>
    let b := s.beaconPort p
    let t1 := numAt pk.payload 0 8
    if b.dreq ≠ some t1 || pk.len ≠ 3 || !s.pageEn 0x5D then s
    else
      let trip := signed 64 (ta + 2 ^ 64 - t1) - signed 64 (numAt pk.payload 16 8 + 2 ^ 64 - numAt pk.payload 8 8)
      let m := trip / 2
      let old := s.fgetI F.BEACON_DELAY_DELAY p
      let new := if b.known then old + (m - old) / 8 else m
      (s.setBeaconPort p { b with dreq := none, known := true }).fset F.BEACON_DELAY_DELAY p (toField 32 new)

/-- A DRESP has not arrived in time (R375). -/
def State.drespTimeout (s : State) (p : Nat) : State :=
  if s.pageEn 0x5D then s.setBeaconPort p { s.beaconPort p with dreq := none } else s

/-- A candidate follower has heard no SYNC for its election time (R401). -/
def State.beaconElect (s : State) : State :=
  if !(s.pageEn 0x5D && s.flag F.PAIR_CTRL_ELECT_EN && !s.flag F.BEACON_CFG_ROLE) then s
  else
    let s := ((s.fsetB F.BEACON_CFG_ROLE 0 true).fset F.BEACON_CFG_TXMASK 0 0b1110).irq 0x5E 4
    let t := s.sysTime16 s.now
    let s : State := { s.timeInvalid with beacon := { s.timeInvalid.beacon with next := s.beaconNumber t } }
    let s : State := s.timeValid
    if s.fget F.AIN_ALIGN_STATUS_STATE = 2 then s.alignUpdate else s

/-! ### Divergence (R394–R397) -/

/-- The twins diverge with a cause: 1 ANGLE, 2 DIGEST, 3 BASKET. -/
def State.diverge (s : State) (cause idx : Nat) : State :=
  if s.flag F.PAIR_STATUS_MIRROR_DIVERGE then s
  else
    let s := (s.fset F.PAIR_STATUS_DIV_CAUSE 0 cause).fset F.PAIR_DIV_INFO_INDEX 0 idx
    (s.fsetB F.PAIR_STATUS_MIRROR_DIVERGE 0 true).irq 0x5E 1

/-- A comparison is not made. -/
def State.notCompared (s : State) (k : Nat) : State := s.faddSat F.PAIR_MIRROR_STAT_SKIPPED 0 k

/-- Messages of the pair leave only while P1 is UP and the pair is not UNBOUND. -/
def State.pairSends (s : State) : Bool := s.portUp 1 && s.fget F.PAIR_STATUS_STATE != 0

/-- The own record and the twin's record of one seam are compared (R395). -/
def State.checkpointCmp (s : State) (a b : Checkpoint) : State :=
  let d := ((a.angle : Int) - (b.angle : Int)).natAbs
  let d := min d (2 ^ 64 - d)
  if a.st ≠ b.st ∨ s.fget F.PAIR_CFG_ANG_TOL * 2 ^ 16 < d then s.diverge 1 a.eng else s

/-- Records of engine `n` among `xs`, newest last. -/
def recordsOf (xs : List Checkpoint) (n : Nat) : List Checkpoint := xs.filter (fun x => x.eng == n)

/-- `xs` with record `x` appended and at most 16 records of its engine kept. -/
def keep16 (xs : List Checkpoint) (x : Checkpoint) : List Checkpoint :=
  let ys := xs ++ [x]
  if (recordsOf ys x.eng).length ≤ 16 then ys
  else
    match recordsOf ys x.eng with
    | old :: _ => ys.erase old
    | [] => ys

/-- The device's own record of a revolution seam, compared with the twin's when that has arrived. -/
def State.ownCheckpoint (s : State) (x : Checkpoint) : State :=
  let p := s.pairL
  let s := s.setPair { p with
    own := keep16 p.own x, theirs := p.theirs.filter (fun y => !(y.eng == x.eng && y.seam ≤ x.seam)) }
  let mine := recordsOf p.theirs x.eng
  let s := s.notCompared (mine.filter (fun y => y.seam < x.seam)).length
  match mine.find? (fun y => y.seam == x.seam) with
  | some y => s.checkpointCmp x y
  | none => s

/-- A record of the twin arrives (R395). -/
def State.twinCheckpoint (s : State) (y : Checkpoint) : State :=
  let p := s.pairL
  match p.own.find? (fun x => x.eng == y.eng && x.seam == y.seam) with
  | some x => s.checkpointCmp x y
  | none =>
    if (recordsOf p.own y.eng).any (fun x => y.seam < x.seam) then s.notCompared 1
    else
      let full := 16 ≤ (recordsOf p.theirs y.eng).length
      let s := s.setPair { p with theirs := keep16 p.theirs y }
      if full then s.notCompared 1 else s

/-- The engines whose revolution seams fell on this epoch edge send one CHECKPOINT (R395). `states` are the states of the engines
before the edge, which angle(n) and its seam follow (R40). -/
def State.sendCheckpoints (s : State) (states : List Nat) : State :=
  let engs := (s.seams.filter (fun g => g < 32)).eraseDups
  if engs.isEmpty || !s.pageEn 0x5E then s
  else
    let own (n : Nat) : Checkpoint :=
      ⟨n, s.get64 .SEAM_NUM_LO .SEAM_NUM_HI n, states.getD n 0, s.get64 .ANG_POS_LO .ANG_POS_HI n⟩
    let pay := engs.flatMap (fun n =>
      leBytes 1 n ++ leBytes 1 (own n).st ++ leBytes 2 0 ++ leBytes 4 (s.reg .ANG_SPEED n).toNat ++
        leBytes 8 (own n).seam ++ leBytes 8 (own n).angle ++ leBytes 8 (s.get64 .ANG_EPOCH_LO .ANG_EPOCH_HI n))
    let s := if s.pairSends then s.toTwin 7 2 0 pay else s
    forEach engs (fun n s => s.ownCheckpoint (own n)) s

/-- Own and twin's digest of one frame (R396). -/
def State.digestCmp (s : State) (a b : Nat × Nat × Nat × Bool) : State :=
  if a.2.2.2 || b.2.2.2 then s.notCompared 1
  else
    let s := s.faddSat F.PAIR_MIRROR_STAT_COMPARED 0 1
    if a.2.2.1 = b.2.2.1 then s else s.diverge 2 a.1

/-- The last eight digests of each generator; how many have been dropped. -/
def keep8 (xs : List (Nat × Nat × Nat × Bool)) (x : Nat × Nat × Nat × Bool) : List (Nat × Nat × Nat × Bool) × Nat :=
  let ys := xs ++ [x]
  if (ys.filter (fun y => y.1 == x.1)).length ≤ 8 then (ys, 0)
  else
    match ys.find? (fun y => y.1 == x.1) with
    | some y => (ys.erase y, 1)
    | none => (ys, 0)

/-- A digest of frame (generator, number) is known at this end. -/
def State.ownDigest (s : State) (x : Nat × Nat × Nat × Bool) : State :=
  let p := s.pairL
  match p.theirDig.find? (fun y => y.1 == x.1 && y.2.1 == x.2.1) with
  | some y => (s.setPair { p with theirDig := p.theirDig.erase y }).digestCmp x y
  | none =>
    let k := keep8 p.ownDig x
    (s.setPair { p with ownDig := k.1 }).notCompared k.2

/-- A digest of the twin arrives. -/
def State.twinDigest (s : State) (y : Nat × Nat × Nat × Bool) : State :=
  let p := s.pairL
  match p.ownDig.find? (fun x => x.1 == y.1 && x.2.1 == y.2.1) with
  | some x => (s.setPair { p with ownDig := p.ownDig.erase x }).digestCmp x y
  | none =>
    let k := keep8 p.theirDig y
    (s.setPair { p with theirDig := k.1 }).notCompared k.2

/-- The digests of the frames that have just closed are sent and compared (R396). -/
def State.sendDigests (s : State) : State :=
  let ds := s.wel.digests
  let s := { s with wel := { s.wel with digests := [] } }
  if !s.pageEn 0x5E || s.fget F.PAIR_STATUS_STATE = 0 then s
  else forEach ds (fun d s =>
    let (f, num, v, cnt, late) := d
    let s := if s.pairSends then
        s.toTwin 7 3 0 (leBytes 1 f ++ leBytes 1 (if late then 1 else 0) ++ leBytes 2 cnt ++ leBytes 4 v ++ leBytes 8 num ++ leBytes 8 0)
      else s
    s.ownDigest (f, num, v, late)) s

/-- Two outcomes of one slot differ in result or in seam number (R394). -/
def State.outcomeCmp (s : State) (a b : Nat × Nat × Nat) : State := if a.2 = b.2 then s else s.diverge 3 a.1

/-- A mirrored slot has pressed (`result` 0, at seam number `seam`) or aborted (R394). -/
def State.ownOutcome (s : State) (slot result reason seam : Nat) : State :=
  if !s.pageEn 0x5E then s
  else
    let s := if s.pairSends then
        s.toTwin 7 4 0 (leBytes 1 slot ++ leBytes 1 result ++ leBytes 1 reason ++ leBytes 5 0 ++ leBytes 8 seam)
      else s
    let p := s.pairL
    match p.theirOut.find? (fun y => y.1 == slot) with
    | some y => (s.setPair { p with theirOut := p.theirOut.erase y }).outcomeCmp (slot, result, seam) y
    | none => s.setPair { p with ownOut := p.ownOut ++ [(slot, result, seam)] }

/-- The twins have armed slot `n` anew: outcomes of earlier arms that found no partner are of no use (R394). -/
def State.outcomesOver (s : State) (n : Nat) : State :=
  let p := s.pairL
  s.setPair { p with ownOut := p.ownOut.filter (fun x => x.1 != n), theirOut := p.theirOut.filter (fun x => x.1 != n) }

/-- An outcome of the twin arrives. -/
def State.twinOutcome (s : State) (y : Nat × Nat × Nat) : State :=
  let p := s.pairL
  match p.ownOut.find? (fun x => x.1 == y.1) with
  | some x => (s.setPair { p with ownOut := p.ownOut.erase x }).outcomeCmp x y
  | none => s.setPair { p with theirOut := p.theirOut ++ [y] }

/-! ### Messages of the pair (R386–R392) -/

/-- Serve the message at the front of the inbox of port `p` if `f` names it: `g` on P1 from the twin, a refusal of reason
TYPE from anywhere else (R361, R366). While the PAIR page does not run a message is taken without effect (R16, R324). -/
def State.twinMessage (s : State) (p : Nat) (f : Packet → Bool) (g : Packet → State → State) : State :=
  if !s.domLive .lnk then s
  else
    match s.takeInbox p f with
    | none => s
    | some (pk, s) =>
      if p = 1 && pk.src = s.twinId && pk.dst ≠ 0xFF then (if s.pageEn 0x5E then g pk s else s) else s.transNak p pk 4 pk.addr 0

/-- A MIRROR message with this SUB. -/
def isMirror (sub : Nat) (pk : Packet) : Bool := pk.typ == 7 && pk.sub == sub

/-- A BASKET message with this operation. -/
def isBasket (op : Nat) (pk : Packet) : Bool := pk.typ == 4 && pk.sub / 8 == op

/-- HELLO arrives (R387). A HELLO from a BINDING twin is answered by a device that is not BINDING, so that HELLO is
exchanged. -/
def State.hello (s : State) (pk : Packet) : State :=
  let st := numAt pk.payload 0 1
  let s := s.setPair { s.pairL with twin := some st }
  let s := (if s.fget F.PAIR_STATUS_STATE = 4 && st = 1 then s.pairTo 2 else s).pairEval
  let own := s.fget F.PAIR_STATUS_STATE
  if st = 1 && own ≠ 1 && own ≠ 0 then s.sendHello else s

/-- HEARTBEAT arrives (R389, R391). -/
def State.heartbeat (s : State) (pk : Packet) : State :=
  let st := numAt pk.payload 0 1
  let x := s.pairL
  let s := s.setPair { x with hbLost := false, twin := x.twin.map (fun _ => st) }
  let s := s.fsetB F.PAIR_STATUS_HB_LIVE 0 true
  let s := if x.handing && st = 2 && s.fget F.PAIR_STATUS_STATE = 2 then s.pairTo 3 else s
  s.pairEval

/-- CHECKPOINT arrives. -/
def State.checkpoint (s : State) (pk : Packet) : State :=
  forEach (List.range (pk.len / 4)) (fun k s =>
    let o := 32 * k
    s.twinCheckpoint ⟨numAt pk.payload o 1, numAt pk.payload (o + 8) 8, numAt pk.payload (o + 1) 1, numAt pk.payload (o + 16) 8⟩) s

/-- DIGEST arrives. -/
def State.digest (s : State) (pk : Packet) : State :=
  s.twinDigest (numAt pk.payload 0 1, numAt pk.payload 8 8, numAt pk.payload 4 4, numAt pk.payload 1 1 % 2 == 1)

/-- OUTCOME arrives. -/
def State.outcome (s : State) (pk : Packet) : State :=
  s.twinOutcome (numAt pk.payload 0 1, numAt pk.payload 1 1, numAt pk.payload 8 8)

/-- HANDOVER arrives (R391). -/
def State.handover (s : State) : State := if s.fget F.PAIR_STATUS_STATE = 3 then s.pairTo 2 else s

/-- A 1 has been written to PAIR_CTRL.HANDOVER in PRIMARY (R391). -/
def State.pairHandover (s : State) : State :=
  let s := s.toTwin 7 5 0 []
  s.setPair { s.pairL with handing := true }

/-- 100 µs have passed with P1 UP (R389). -/
def State.heartbeatSend (s : State) : State :=
  s.toTwin 7 1 0 (leBytes 1 (s.fget F.PAIR_STATUS_STATE) ++ leBytes 1 s.devid ++ leBytes 6 0 ++
    leBytes 8 (s.epoch.edges.headD (0, 0)).1)

/-- 300 µs have passed without a HEARTBEAT (R389). -/
def State.heartbeatLoss (s : State) : State :=
  if !s.pageEn 0x5E then s
  else ((s.setPair { s.pairL with hbLost := true }).fsetB F.PAIR_STATUS_HB_LIVE 0 false).pairEval

/-- 250 µs have passed: PRIMARY and SOLO drive PTOKEN low for 1 µs (R388, R391). -/
def State.tokenPulse (s : State) : State :=
  let st := s.fget F.PAIR_STATUS_STATE
  if s.pageEn 0x5E && (st = 2 || st = 4) && !s.pairL.handing then s.setPair { s.pairL with tokens := s.pairL.tokens + 1 } else s

/-- A falling edge on PTOKEN, or none for TOKEN_TO (R388). -/
def State.tokenLive (s : State) (b : Bool) : State :=
  if !s.pageEn 0x5E then s else (s.fsetB F.PAIR_STATUS_TOKEN_LIVE 0 b).pairEval

/-- BINDING has lasted BIND_TO ms (R387). -/
def State.bindTimeout (s : State) : State :=
  if s.pageEn 0x5E && s.fget F.PAIR_STATUS_STATE = 1 then (s.setPair { s.pairL with bindOver := true }).pairEval else s

end Sys2Proof.Machine
end

