-- ==== Sys2Proof/Machine/Uart.lean ====
section
/-!
DEFINITION. The asynchronous serial ports (R403–R416).
-/

namespace Sys2Proof.Machine

/-- What serial port `n` keeps. -/
def State.uart (s : State) (n : Nat) : Uart := s.uarts.getD n Uart.reset

/-- Replace what serial port `n` keeps. -/
def State.setUart (s : State) (n : Nat) (u : Uart) : State := { s with uarts := setAt Uart.reset s.uarts n u }

/-- The page of serial port `n`. -/
def uartPage (n : Nat) : Nat := 0x60 + n

/-- The kernel clock of port `n` runs: XO or PLL_ADC (R404, R321). -/
def State.uartClock (s : State) (n : Nat) : Bool := s.fbit F.CLK_READY_READY 0 (if s.flag F.UART_BAUD_SRC n then 3 else 6)

/-- The sampling and the sending of port `n` go on: its page and its kernel clock run. -/
def State.uartRuns (s : State) (n : Nat) : Bool := s.pageEn (uartPage n) && s.uartClock n

/-- Data bits of a character. -/
def State.uartBits (s : State) (n : Nat) : Nat := 7 + s.fget F.UART_CFG_DBITS n

/-! ### The receive ring (R410–R412) -/

/-- Payload of a block. -/
def State.blockSize (s : State) (n : Nat) : Nat := 2 ^ s.fget F.UART_RXR_CFG_B n

/-- Fabric address of block `k`. -/
def State.blockAddr (s : State) (n k : Nat) : Nat :=
  sramBase 1 + 4 * s.fget F.UART_RXR_BASE_BASE n + k * (4 + s.blockSize n)

/-- The block after `k`. -/
def State.nextBlock (s : State) (n k : Nat) : Nat := (k + 1) % (s.fget F.UART_RXR_CFG_NBLK n + 1)

/-- The ring is full (R412). -/
def State.ringFull (s : State) (n : Nat) : Bool :=
  s.nextBlock n (s.fget F.UART_RXR_WR_INDEX n) == s.fget F.UART_RXR_RD_INDEX n

/-- Close the open block: its header, UART_RXR_WR and PAGE_IRQ bit 2 (R410). -/
def State.closeBlock (s : State) (n : Nat) (flushed : Bool) : State :=
  let u := s.uart n
  let k := s.fget F.UART_RXR_WR_INDEX n
  let h := u.pos + (if flushed then 2 ^ 16 else 0) + (if u.err then 2 ^ 17 else 0) + (if u.brk then 2 ^ 18 else 0) +
    (if u.ovr then 2 ^ 19 else 0) + u.seq * 2 ^ 24
  let s := s.sramOwnWrite (blockSource (uartPage n)) (s.blockAddr n k) (leBytes 4 h)
  let s := s.setUart n { u with blk := false, pos := 0, err := false, brk := false, ovr := false, seq := (u.seq + 1) % 256 }
  (s.fset F.UART_RXR_WR_INDEX n (s.nextBlock n k)).irq (uartPage n) 2

/-- Open the block at UART_RXR_WR unless the ring is full or disabled (R412). -/
def State.openBlock (s : State) (n : Nat) : State :=
  let u := s.uart n
  if u.blk || !s.flag F.UART_RXR_CFG_EN n || s.ringFull n then s
  else s.setUart n { u with blk := true, pos := 0, err := false, brk := false, ovr := u.lostOvr, lostOvr := false }

/-- A block opens if it may, and the character in the holding register goes into the open block (R410, R412). -/
def State.drainChar (s : State) (n : Nat) : State :=
  let s := s.openBlock n
  let u := s.uart n
  if !(u.blk && s.flag F.UART_RXDATA_NEW n) then s
  else
    let w := (s.reg .UART_RXDATA n).toNat % 2 ^ 12
    let wide := s.flag F.UART_RXR_CFG_WIDE n
    let bs := if wide then leBytes 2 w else leBytes 1 w
    let s := s.sramOwnWrite (blockSource (uartPage n)) (s.blockAddr n (s.fget F.UART_RXR_WR_INDEX n) + 4 + u.pos) bs
    let s := s.fsetB F.UART_RXDATA_NEW n false
    let u := { u with pos := u.pos + bs.length, err := u.err || 0 < w / 2 ^ 9 % 4, brk := u.brk || 0 < w / 2 ^ 11 }
    let s := s.setUart n u
    if s.blockSize n ≤ u.pos then (s.closeBlock n false).openBlock n else s

/-- UART_RXR_CFG.EN has been written; `old` is its value before. -/
def State.ringEnabled (s : State) (n : Nat) (old : Bool) : State :=
  let on := s.flag F.UART_RXR_CFG_EN n
  let u := s.uart n
  if on && !old then (s.setUart n { u with blk := false, pos := 0, seq := 0, lostOvr := false }).drainChar n
  else if !on then s.setUart n { u with blk := false, pos := 0 }
  else s

/-! ### Receiving (R405–R409) -/

/-- A complete character: data and its flags PE, FE, BRK in bits 9 to 11 (R408, R410). -/
def State.uartStore (s : State) (n w : Nat) : State :=
  let s := if s.flag F.UART_RXDATA_NEW n then
      let s := (s.fsetB F.UART_STATUS_OVERRUN n true).faddSat F.UART_STATUS_OVR_COUNT n 1
      let u := s.uart n
      (s.setUart n (if u.blk then { u with ovr := true } else { u with lostOvr := true })).irq (uartPage n) 3
    else s
  let s := if w.testBit 9 then s.fsetB F.UART_STATUS_PARITY n true else s
  let s := if w.testBit 10 then s.fsetB F.UART_STATUS_FRAME n true else s
  let s := if w.testBit 9 || w.testBit 10 then s.irq (uartPage n) 4 else s
  let s := s.setReg .UART_RXDATA n (BitVec.ofNat 32 (2 ^ 31 + w % 2 ^ 12))
  let s := s.drainChar n
  if s.flag F.UART_RXDATA_NEW n then s.irq (uartPage n) 0 else s

/-- The receiver of port `n` is armed. -/
def State.uartArmed (s : State) (n : Nat) : Bool :=
  s.uartRuns n && s.flag F.UART_CTRL_RX_EN n && !(s.uart n).stuck && !(s.flag F.UART_CFG_HDX n && (s.uart n).de)

/-- The data and parity bits have even parity. -/
def evenOnes (x : Nat) (par : Bool) : Bool := ((onesOf x) + (if par then 1 else 0)) % 2 == 0

/-- Samples of a bit, OS (R404). -/
def State.uartOs (s : State) (n : Nat) : Nat := if s.flag F.UART_CFG_OS8 n then 8 else 16

/-- Parity bits of a frame, P (R403). -/
def State.uartParity (s : State) (n : Nat) : Nat := if s.fget F.UART_CFG_PAR n = 0 then 0 else 1

/-- Length of a frame in bits, F = 1 + DBITS + P + S (R403). -/
def State.uartFrame (s : State) (n : Nat) : Nat :=
  1 + s.uartBits n + s.uartParity n + (if s.flag F.UART_CFG_STOP2 n then 2 else 1)

/-- Bit `k` of a frame whose samples are `xs`: the majority over samples 7 to 9 of `os` = 16, or 3 to 5 of 8 (R405). -/
def majorityBit (os : Nat) (xs : List Bool) (k : Nat) : Bool :=
  let at_ (m : Nat) : Nat := if xs.getD (k * os + m - 1) true then 1 else 0
  decide (2 ≤ at_ (os / 2 - 1) + at_ (os / 2) + at_ (os / 2 + 1))

/-- What the receiver makes of the samples since it took the first low one (R405, R409): a line low for more than a frame, a
start bit that is noise, too few samples, or a character, with its parity bit, whether its first stop bit reads high, and the
level at the sample from which the receiver re-arms. -/
inductive Heard where
  | brk | noise | wait
  | char (data : Nat) (par stop rearm : Bool)
deriving DecidableEq, Repr

/-- The samples up to the one from which the receiver re-arms: number 10 of the first stop bit, or 6 at 8× (R405). -/
def State.uartNeed (s : State) (n : Nat) : Nat :=
  (1 + s.uartBits n + s.uartParity n) * s.uartOs n + s.uartOs n / 2 + 2

/-- The receiver of port `n` judges the samples `xs`. A line that has been low since the start bit may be a break, so a frame of
lows waits for the line to rise. -/
def State.uartHear (s : State) (n : Nat) (xs : List Bool) : Heard :=
  let os := s.uartOs n
  let lows := (xs.takeWhile (fun x => !x)).length
  let bit := majorityBit os xs
  let d := s.uartBits n
  if s.uartFrame n * os < lows then .brk
  else if os / 2 + 1 ≤ xs.length && bit 0 then .noise
  else if xs.length < s.uartNeed n || lows == xs.length then .wait
  else .char (((List.range d).map (fun i => if bit (1 + i) then 2 ^ i else 0)).sum) (s.uartParity n == 1 && bit (1 + d))
    (bit (1 + d + s.uartParity n)) (xs.getD (s.uartNeed n - 1) true)

/-- What the line has brought with `new` samples more: whether it must still read high before it may start a character, and the
samples since the start of the character in progress (R405, R407). -/
def Uart.line (u : Uart) (new : List Bool) : Bool × List Bool :=
  if u.rx ≠ [] then (u.low, u.rx ++ new)
  else
    let rest := if u.low then new.dropWhile (fun x => !x) else new
    (u.low && rest.isEmpty, rest.dropWhile id)

/-- A character is being received, or is so no longer: RX_BUSY follows. -/
def State.rxHolds (s : State) (n : Nat) (low : Bool) (xs : List Bool) : State :=
  (s.setUart n { s.uart n with low := low, rx := xs }).fsetB F.UART_STATUS_RX_BUSY n (!xs.isEmpty)

/-- The samples `xs` that follow the end of a character or of noise. -/
def State.rxNext (s : State) (n : Nat) (low : Bool) (xs : List Bool) : State :=
  let l := Uart.line { s.uart n with low := low, rx := [] } xs
  s.rxHolds n l.1 l.2

/-- A frame has been received whole: data bits, parity bit, first stop bit and the level at the re-arming sample (R403–R407). -/
def State.uartTake (s : State) (n d : Nat) (par stop rearm : Bool) : State :=
  let mode := s.fget F.UART_CFG_PAR n
  let pe := mode != 0 && (evenOnes d par != (mode == 1))
  let fe := !stop || (s.uart n).fast
  let late := stop && !rearm
  let s := s.setUart n { s.uart n with fast := late }
  let s := s.uartStore n (d + (if pe then 2 ^ 9 else 0) + (if fe then 2 ^ 10 else 0))
  if late then (s.fsetB F.UART_STATUS_FAST_SENDER n true).irq (uartPage n) 7 else s

/-- A break character is stored; the line must read high before the next character (R409). -/
def State.breakStore (s : State) (n : Nat) : State :=
  let s := (s.rxHolds n true []).setUart n { (s.rxHolds n true []).uart n with fast := false }
  let s := s.uartStore n (2 ^ 10 + 2 ^ 11)
  (s.fsetB F.UART_STATUS_BREAK n true).irq (uartPage n) 5

/-- The next samples of RXD reach the receiver of port `n`. They complete at most one character; samples after it wait, and the
next ones go on from them (log entry 122). -/
def State.uartCharacter (s : State) (n : Nat) (samples : List Bool) : State :=
  if !s.uartArmed n then s
  else
    let (low, xs) := (s.uart n).line samples
    match s.uartHear n xs with
    | .brk => s.breakStore n
    | .noise => s.rxNext n low (xs.drop (s.uartOs n / 2 + 1))
    | .wait => s.rxHolds n low xs
    | .char d par stop rearm => (s.uartTake n d par stop rearm).rxNext n (stop && !rearm) (xs.drop (s.uartNeed n - 1))

/-- RXD has stayed low for more than a frame since a start bit, which a line that stays low does once (R409). -/
def State.uartBreak (s : State) (n : Nat) : State :=
  if !s.uartArmed n || (s.uart n).low || (s.uart n).rx.any id then s else s.breakStore n

/-- The line has stayed low for four frames (R409). -/
def State.uartStuck (s : State) (n : Nat) : State :=
  if !(s.uartArmed n && (s.uart n).low && !(s.uart n).fast) then s
  else ((s.setUart n { s.uart n with stuck := true }).fsetB F.UART_STATUS_STUCK_LOW n true).irq (uartPage n) 6

/-- RXD has read high for a bit time after STUCK_LOW (R409). -/
def State.uartBreakEnd (s : State) (n : Nat) : State :=
  if !((s.uart n).stuck && s.uartRuns n) then s
  else (s.setUart n { s.uart n with stuck := false, low := false }).fsetB F.UART_STATUS_BREAK_END n true

/-- The idle count reaches HALVES (R411). -/
def State.uartIdle (s : State) (n : Nat) : State :=
  if !s.uartRuns n || s.fget F.UART_RX_TO_HALVES n = 0 || (s.uart n).rx != [] then s
  else if !s.flag F.UART_RXR_CFG_EN n then s.fsetB F.UART_STATUS_RX_IDLE n true
  else if (s.uart n).blk && (s.uart n).pos != 0 then (s.closeBlock n true).openBlock n
  else s

/-- A start bit reads high by majority: it is noise, and the line is high (R405). -/
def State.uartNoise (s : State) (n : Nat) : State := if s.uartArmed n then s.rxHolds n false [] else s

/-- A receiver that is not enabled, or that must not hear its own port, drops the character in progress (R414). -/
def State.rxMute (s : State) (n : Nat) : State :=
  if (s.uart n).rx != [] && (!s.flag F.UART_CTRL_RX_EN n || (s.flag F.UART_CFG_HDX n && (s.uart n).de)) then
    s.rxHolds n (s.uart n).low []
  else s

/-! ### Sending (R403, R413, R414) -/

/-- The frame of character `c`: start bit, data bits from the least significant, parity bit and stop bits (R403). -/
def State.uartBitsOf (s : State) (n c : Nat) : List Bool :=
  let d := c % 2 ^ s.uartBits n
  let par := if s.uartParity n = 0 then [] else [evenOnes d false != (s.fget F.UART_CFG_PAR n == 1)]
  [false] ++ (List.range (s.uartBits n)).map (fun i => d.testBit i) ++ par ++
    List.replicate (if s.flag F.UART_CFG_STOP2 n then 2 else 1) true

/-- TX_BUSY and BUSY follow the transmitter; a port that must not hear itself drops what it was receiving. -/
def State.uartBusy (s : State) (n : Nat) : State :=
  let b := (s.uart n).shift.isSome || (s.uart n).xfer.isSome
  ((s.fsetB F.UART_STATUS_TX_BUSY n b).setBusy (uartPage n) b).rxMute n

/-- The next character goes onto the line when it is free: the holding register first, then the transfer. A break takes the
free line, low with DE, and gives it back high (R414). -/
def State.uartNext (s : State) (n : Nat) : State :=
  let u := s.uart n
  if u.shift.isSome || !s.pageEn (uartPage n) then s.uartBusy n
  else if s.flag F.UART_CTRL_SEND_BREAK n then (s.setUart n { u with txd := false, de := true }).uartBusy n
  else
    let u := { u with txd := true }
    if !s.uartRuns n || !s.flag F.UART_CTRL_TX_EN n then (s.setUart n u).uartBusy n
    else
      match u.hold, u.xfer with
      | some c, _ =>
        ((s.setUart n { u with hold := none, shift := some (s.uartBitsOf n c), de := true }).irq (uartPage n) 1).uartBusy n
      | none, some (a, k + 1) =>
        let w := if s.flag F.UART_TX_CTRL_WIDE n then 2 else 1
        let (s, bs) := s.sramOwnRead (blockSource (uartPage n)) (sramBase 1 + a % 2 ^ 22) w
        (s.setUart n { u with
          shift := some (s.uartBitsOf n (ofLeBytes bs)), xfer := some (a + w, k), de := true }).uartBusy n
      | none, _ => (s.setUart n u).uartBusy n

/-- A character is written to UART_TXDATA. -/
def State.uartTx (s : State) (n c : Nat) : State :=
  let u := s.uart n
  if u.xfer.isSome || u.hold.isSome then (s.fsetB F.UART_STATUS_TX_LOST n true).irq (uartPage n) 10
  else (s.setUart n { u with hold := some (c % 2 ^ s.uartBits n) }).uartNext n

/-- A 1 has been written to START. -/
def State.uartStart (s : State) (n : Nat) : State :=
  let u := s.uart n
  if u.xfer.isSome then s
  else (s.setUart n { u with xfer := some (s.fget F.UART_TX_ADDR_ADDR n, s.fget F.UART_TX_CTRL_LEN n) }).uartNext n

/-- The last stop bit of the character on the line has been sent. -/
def State.uartSent (s : State) (n : Nat) : State :=
  if (s.uart n).shift.isNone || !s.uartRuns n then s else (s.setUart n { s.uart n with shift := none }).uartNext n

/-- The last stop bit of a transfer has been sent (R413). -/
def State.uartTxDone (s : State) (n : Nat) : State :=
  let u := s.uart n
  match u.xfer with
  | some (_, 0) =>
    if u.shift.isSome || !s.uartRuns n then s
    else
      let s := s.setUart n { u with xfer := none }
      (((s.fsetB F.UART_TX_CTRL_START n false).fsetB F.UART_TX_CTRL_TX_DONE n true).irq (uartPage n) 8).uartNext n
  | _ => s

/-- The tail has passed with nothing ready (R414). -/
def State.uartTail (s : State) (n : Nat) : State :=
  let u := s.uart n
  if u.shift.isSome || s.flag F.UART_CTRL_SEND_BREAK n || !s.uartRuns n then s else s.setUart n { u with de := false }

/-- The acquisition clocks fail: DE falls and TXD sits high, and what was being sent or received is lost (R332, R414). -/
def State.uartClockFail (s : State) : State :=
  forEach (List.range 2) (fun n s =>
    let u := s.uart n
    let s := (s.setUart n { u with shift := none, xfer := none, txd := true, de := false }).rxHolds n u.low []
    let s := if u.xfer.isSome then
        ((s.fsetB F.UART_STATUS_TX_ABORT n true).fsetB F.UART_TX_CTRL_START n false).irq (uartPage n) 10
      else s
    s.uartBusy n) s

/-! ### Power (R415, R416) -/

/-- A falling edge on RXDn in Night; `rested` when the line has stayed high for four LF ticks since the detector fired. The
detector fires with an edge that it latches. -/
def State.uartWake (s : State) (n : Nat) (rested : Bool) : State :=
  let u := s.uart n
  if (u.fired && !rested) || !s.wakeTaken (9 + n) then s
  else (s.setUart n { u with fired := true }).wakeLatch (9 + n)

/-- D_ACQ powers on: the ports are at reset, the detectors of D_SEN keep their state. -/
def State.uartsReset (s : State) : State :=
  { s with uarts := s.uarts.map (fun u => { Uart.reset with fired := u.fired }) }

/-- D_ACQ leaves reset after a wake: FIRST_LOST of the ports that caused it (R416). -/
def State.uartFirstLost (s : State) : State :=
  let src := bits (s.reg .WAKE_LAST) 19 5
  let multi := (s.reg .WAKE_LAST).getLsbD 30
  if !s.power.woken then s
  else forEach (indices 2 (fun n => src == 9 + n || (multi && (s.reg .WAKE_PEND).getLsbD (9 + n))))
    (fun n s => (s.fsetB F.UART_STATUS_FIRST_LOST n true).irq (uartPage n) 9) s

end Sys2Proof.Machine
end

