-- ==== Sys2Proof/Machine/Router.lean ====
section
/-!
DEFINITION. The event router, the logic cells, the general timers and the GPIO taps (R282–R299, R481, R486).
-/

namespace Sys2Proof.Machine

/-! ### Timers (R298) -/

/-- A timer whose count has just become 0 and counts `r` ticks on: the count, whether it became CMP on the way, and whether it
wrapped again, after which a one-shot timer stands at 0. -/
def timerFromZero (top cmp r : Nat) (once : Bool) : Nat × Bool × Bool :=
  if r ≤ top then (r, decide (cmp ≤ r), false) else (if once then 0 else r % (top + 1), decide (cmp ≤ top), true)

/-- `n` ticks of a timer that counts from `count`: the count, whether it became CMP on the way, and whether the tick after TOP was
among them. A count above TOP meets none, and goes on to the end of its 32 bits (log entry 62). -/
def timerCount (count top cmp n : Nat) (once : Bool) : Nat × Bool × Bool :=
  let last := if count ≤ top then top else 2 ^ 32 - 1
  if count + n ≤ last then (count + n, decide (count < cmp ∧ cmp ≤ count + n), false)
  else if count ≤ top && once then (0, decide ((count < cmp ∧ cmp ≤ last) ∨ cmp = 0), true)
  else
    let z := timerFromZero top cmp (count + n - last - 1) once
    (z.1, decide (count < cmp ∧ cmp ≤ last) || z.2.1, decide (count ≤ top) || z.2.2)

/-- MATCH (0) or WRAP (1) of timer `t` has come about and is not yet raised: `State.timers` holds it as 8 + 8 × kind + t. -/
def State.timerDue (s : State) (kind t : Nat) : Bool := s.timers.contains (8 + 8 * kind + t)

/-- MATCH or WRAP of timer `t` is raised: its interrupt and its generator (R298). -/
def State.timerEvent (s : State) (kind t : Nat) : State :=
  if !s.timerDue kind t then s
  else
    ({ s with timers := s.timers.filter (fun x => x != 8 + 8 * kind + t) }.irq 0x66 (8 * kind + t)).pulse (0x1D0 + 2 * t + kind)

/-- Timer `t` has counted as `r` says. -/
def State.timerStore (s : State) (t : Nat) (r : Nat × Bool × Bool) : State :=
  let s := s.fset F.TIM_COUNT_COUNT t r.1
  let s := if r.2.2 && s.flag F.TIM_CTRL_ONESHOT t then s.fsetB F.TIM_CTRL_RUN t false else s
  { s with timers := s.timers ++ (if r.2.1 then [8 + t] else []) ++ (if r.2.2 then [16 + t] else []) }

/-- What `n` ticks make of the count of timer `t`. -/
def State.timerAhead (s : State) (t n : Nat) : Nat × Bool × Bool :=
  timerCount (s.fget F.TIM_COUNT_COUNT t) (s.fget F.TIM_TOP_TOP t) (s.fget F.TIM_CMP_CMP t) n (s.flag F.TIM_CTRL_ONESHOT t)

/-- `n` ticks of the clock of timer `t` pass: what earlier ticks brought is raised, and a START that waits is carried out at the
first of these. -/
def State.timerTicks (s : State) (t n : Nat) : State :=
  let s := (s.timerEvent 0 t).timerEvent 1 t
  if s.timers.contains t then
    let s := { s with timers := s.timers.filter (fun x => x != t) }.fsetB F.TIM_CTRL_RUN t true
    s.timerStore t (timerFromZero (s.fget F.TIM_TOP_TOP t) (s.fget F.TIM_CMP_CMP t) (n - 1) (s.flag F.TIM_CTRL_ONESHOT t))
  else if s.flag F.TIM_CTRL_RUN t then s.timerStore t (s.timerAhead t n)
  else s

/-- `n` ticks of clock source `c` (0 PLL_ADC, which must be READY, 1 epoch edges, 2 LF) reach the timers that count it; MATCH and
WRAP are events of their own. -/
def State.timersCount (s : State) (c n : Nat) : State :=
  if !s.pageEn 0x66 || n = 0 || (c = 0 && !s.adcClock) then s
  else forEach (indices 8 (fun t => s.fget F.TIM_CTRL_CLK t == c)) (fun t s => s.timerTicks t n) s

/-- Time passes: `dt` PLL_ADC ticks, ten of them to a sentinel clock of 64 MHz. -/
def State.elapse (s : State) (dt : Nat) : State := ({ s with now := s.now + dt }.checksAge (dt / 10)).timersCount 0 dt

/-- Timer `t` counts PLL_ADC ticks now. -/
def State.timerRuns (s : State) (t : Nat) : Bool :=
  s.pageEn 0x66 && s.adcClock && s.fget F.TIM_CTRL_CLK t == 0 && s.flag F.TIM_CTRL_RUN t

/-- Time passes until the count of timer `t`, on PLL_ADC, becomes CMP; the other clocks bring a match with their ticks. -/
def State.timerMatch (s : State) (t : Nat) : State :=
  let c := s.fget F.TIM_COUNT_COUNT t
  let cmp := s.fget F.TIM_CMP_CMP t
  let top := s.fget F.TIM_TOP_TOP t
  let n := if c < cmp ∧ (cmp ≤ top ∨ top < c) then cmp - c else (if c ≤ top then top else 2 ^ 32 - 1) - c + 1 + cmp
  let s := if !s.timerDue 0 t && s.timerRuns t && (s.timerAhead t n).2.1 then s.elapse n else s
  s.timerEvent 0 t

/-- The tick after the count of timer `t` equals TOP: for a timer on PLL_ADC, time passes until then. -/
def State.timerWrap (s : State) (t : Nat) : State :=
  let n := s.fget F.TIM_TOP_TOP t - s.fget F.TIM_COUNT_COUNT t + 1
  let s := if !s.timerDue 1 t && s.timerRuns t && (s.timerAhead t n).2.2 then s.elapse n else s
  s.timerEvent 1 t

/-- A trigger on START (`cap` false), which the next tick carries out, or CAPT of timer `t`. -/
def State.timerTrigger (s : State) (t : Nat) (cap : Bool) : State :=
  if !s.pageEn 0x66 then s
  else if cap then s.setReg .TIM_CAPT t (s.reg .TIM_COUNT t)
  else if s.timers.contains t then s
  else { s with timers := t :: s.timers }

/-! ### GPIO taps (R284, R288, R481) -/

/-- The cell of the boundary register of GPIO ball `pin`; the cells follow the order of table "Ball groups" (log entry 110). -/
def gpioCell (pin : Nat) : Nat := 68 + pin

/-- The I/O ring holds the D_ACQ pads: D_ACQ is off, or its safe state has not been released (R465, R481). -/
def State.padsHeld (s : State) : Bool := s.flag F.GPIO_CTRL_HELD 0 || !s.domLive .acq

/-- What ball `pin` drives, if it drives: its cell under EXTEST (R473); the safe state that the I/O ring holds, which is none
before the first D_ACQ power-on (R465); GPIO_OUT, with a pulse of an output tap, where the pad is released and GPIO_OE is 1
(R481). -/
def State.gpioDrive (s : State) (pin : Nat) : Option Bool :=
  let w := pin / 32
  let b := pin % 32
  let r := s.power.ring
  if r.ir = 0 then some (r.cells.getD (gpioCell pin) false)
  else if s.padsHeld then
    (if !r.por && (r.safeOe.getD w 0#32).getLsbD b then some ((r.safe.getD w 0#32).getLsbD b) else none)
  else if s.fbit F.GPIO_OE_OE w b then some (s.fbit F.GPIO_OUT_OUT w b || s.router.tapHigh.contains pin)
  else none

/-- The level at ball `pin`: what the device drives, or what the board gives. -/
def State.ballLevel (s : State) (pin : Nat) : Bool :=
  (s.gpioDrive pin).getD ((s.power.ring.ext.getD (pin / 32) 0#32).getLsbD (pin % 32))

/-- GPIO_IN follows the level at ball `pin`, and an edge there reaches the input taps (R284). -/
def State.ballSync (s : State) (pin : Nat) : State :=
  let level := s.ballLevel pin
  if level == s.fbit F.GPIO_IN_IN (pin / 32) (pin % 32) then s
  else
    let s := s.fsetBit F.GPIO_IN_IN (pin / 32) (pin % 32) level
    if !(s.pageEn 0x09 && s.domLive .acq) then s
    else
      let hit (g : Nat) : Bool := s.flag F.EVR_GIN_EN g && s.fget F.EVR_GIN_PIN g == pin &&
        (s.fget F.EVR_GIN_EDGE g).testBit (if level then 0 else 1)
      forEach (indices 8 hit) (fun g s => s.pulse (0x1E8 + g)) s

/-- What the device drives may have changed: every ball is looked at. -/
def State.gpioFollow (s : State) : State := forEach (List.range 48) (fun pin s => s.ballSync pin) s

/-- The board gives GPIO ball `pin` a level. -/
def State.gpioEdge (s : State) (pin : Nat) (level : Bool) : State :=
  let r := s.power.ring
  let w := pin / 32
  { s with power := { s.power with ring := { r with
    ext := setAt 0#32 r.ext w (withBits (r.ext.getD w 0#32) (pin % 32) 1 (if level then 1 else 0)) } } }.ballSync pin

/-- The safe state is forced: the ring latches GPIO_SAFE and GPIO_SAFE_OE, and holds them (R465, R481). -/
def State.ringHold (s : State) : State :=
  { s with power := { s.power with ring := { s.power.ring with
    safe := [s.reg .GPIO_SAFE 0, s.reg .GPIO_SAFE 1], safeOe := [s.reg .GPIO_SAFE_OE 0, s.reg .GPIO_SAFE_OE 1] } } }.fsetB
    F.GPIO_CTRL_HELD 0 true

/-- A ball that the chapter on the board interfaces gives a held state (R465). -/
inductive Ball where
  | uartTxd (n : Fin 2) | uartDe (n : Fin 2)
  | xspiCs (n : Fin 2) | xspiRst | xspiOther
  | idbus | tach | mpres
  | gpio (pin : Fin 48)
  | anaEn | stkEn | ptoken | pmbus | tdo
deriving DecidableEq, Repr

/-- What the device puts on a ball: a level, nothing (an input, a released line, high impedance), the bits of what a block
sends over it at the moment, or the boundary scan. -/
inductive Drive where
  | high | low | released | sending | scan
deriving DecidableEq, Repr

/-- A level. -/
def driveOf (b : Bool) : Drive := if b then .high else .low

/-- The cell of the boundary register of a ball that a block drives by itself. -/
def ballCell : Ball → Option Nat
  | .uartTxd n => some (49 + 3 * n.val)
  | .uartDe n => some (51 + 3 * n.val)
  | .xspiCs n => some (65 + n.val)
  | .xspiRst => some 67
  | .gpio pin => some (gpioCell pin.val)
  | .anaEn => some 124
  | .stkEn => some 126
  | _ => none

/-- The ball is an input whatever the device does. -/
def Ball.isInput : Ball → Bool
  | .tach => true
  | .mpres => true
  | _ => false

/-- What the blocks put on a ball (R388, R414, R437, R440, R465, R481). PTOKEN is released but for its pulses. -/
def State.blockDrive (s : State) : Ball → Drive
  | .uartTxd n =>
    let u := s.uart n.val
    if !s.domLive .acq then .high else if u.shift.isSome then .sending else driveOf u.txd
  | .uartDe n => driveOf (s.domLive .acq && (s.uart n.val).de)
  | .xspiCs n => driveOf (!(s.domLive .acq && s.xspi.run != 0 && (s.flag F.XSPI_CMD_CS == (n.val == 1))))
  | .xspiRst => if s.power.acq = .on && s.clkState .acq != 3 then driveOf (!s.flag F.XSPI_CTRL_FLASH_RST) else .released
  | .xspiOther => if s.domLive .acq && s.xspi.run != 0 then .sending else .released
  | .idbus => if s.domLive .acq && s.idb.any (fun b => b.run != 0) then .sending else .released
  | .tach => .released
  | .mpres => .released
  | .gpio pin => ((s.gpioDrive pin.val).map driveOf).getD .released
  | .anaEn => driveOf (s.power.senOn && s.power.anaEn)
  | .stkEn => driveOf (s.power.senOn && s.power.stkEn)
  | .ptoken => .released
  | .pmbus => if s.clocks.pmb then .sending else .released
  | .tdo => .released

/-- What the device puts on a ball: what its blocks do, or under EXTEST its cell of the boundary register (R473). -/
def State.ballDrive (s : State) (b : Ball) : Drive :=
  if s.power.ring.ir != 0 || b.isInput then s.blockDrive b
  else
    match ballCell b with
    | some c => driveOf (s.power.ring.cells.getD c false)
    | none => .scan

/-- The JTAG port takes instruction `ir`: EXTEST and SAMPLE/PRELOAD load the boundary register with `cells` (R473). -/
def State.jtagScan (s : State) (ir : Nat) (cells : List Bool) : State :=
  if !s.power.senOn then s
  else
    let r := s.power.ring
    let r := { r with ir := ir, cells := if ir ≤ 1 then (List.range 140).map (fun i => cells.getD i false) else r.cells }
    { s with power := { s.power with ring := r } }.gpioFollow

/-- A trigger on output tap `g`. -/
def State.gpioTap (s : State) (g : Nat) : State :=
  if !(s.pageEn 0x09 && s.flag F.EVR_GOUT_EN g && s.pageLive 0x65) then s
  else
    let pin := s.fget F.EVR_GOUT_PIN g
    let act := s.fget F.EVR_GOUT_ACTION g
    let old := s.fbit F.GPIO_OUT_OUT (pin / 32) (pin % 32)
    let s := if act = 3 then { s with router := { s.router with tapHigh := s.router.tapHigh ++ [pin] } }
      else s.fsetBit F.GPIO_OUT_OUT (pin / 32) (pin % 32) (if act = 0 then true else if act = 1 then false else !old)
    s.ballSync pin

/-! ### Logic cells (R290–R293) -/

/-- What input `i` of cell `j` selects. -/
def State.cellSel (s : State) (j i : Nat) : Nat := bits (s.reg .EVL_CELL_IN j) (8 * i) 8

/-- Cell `j` is purely combinational: MODE COMB and no filter. -/
def State.cellComb (s : State) (j : Nat) : Bool :=
  s.fget F.EVL_CELL_MODE_MODE j == 0 && s.fget F.EVL_CELL_MODE_FMODE j == 0

/-- The cells whose outputs cell `j` selects and that are purely combinational, when it is so itself. -/
def State.cellNext (s : State) (j : Nat) : List Nat :=
  if !s.cellComb j then []
  else ((List.range 4).map (s.cellSel j)).filterMap (fun v =>
    if 0x80 ≤ v ∧ v < 0xA0 ∧ s.cellComb (v - 0x80) then some (v - 0x80) else none)

/-- Cells reached from those of `xs` in at most `n` steps. -/
def reachCells (next : Nat → List Nat) : Nat → List Nat → List Nat
  | 0, xs => xs
  | n + 1, xs => reachCells next n (xs ++ (xs.flatMap next).filter (fun y => !xs.contains y)).eraseDups

/-- The lowest-numbered cell on a combinational loop (R293). -/
def State.cellLoop (s : State) : Option Nat :=
  (List.range 32).find? (fun j => (reachCells s.cellNext 32 (s.cellNext j)).contains j)

/-- The output `o` of a cell that does not depend on this cycle's inputs: filtered cells and flip-flop modes. -/
def State.cellHeld (s : State) (j : Nat) : Option Bool :=
  let c := s.router.cells.getD j ⟨false, false, false, false⟩
  if s.fget F.EVL_CELL_MODE_FMODE j ≠ 0 then some c.out
  else if s.fget F.EVL_CELL_MODE_MODE j ≠ 0 then some c.outReg
  else none

/-- The value of a cell input, given the channels at the task stage and the cell outputs. -/
def inputValue (task : List Nat) (outs : List Bool) (v : Nat) : Bool :=
  if v < 0x80 then task.contains v else if v < 0xA0 then outs.getD (v - 0x80) false else v == 0xA1

/-- The function value f of cell `j` (R290). -/
def State.cellF (s : State) (task : List Nat) (outs : List Bool) (j : Nat) : Bool :=
  let x := (List.range 4).foldl (fun a i => if inputValue task outs (s.cellSel j i) then a + 2 ^ i else a) 0
  (s.fget F.EVL_CELL_TT_TT j).testBit x

/-- Settle the combinational cells: a chain of them has at most 32 links (R293). -/
def State.settle (s : State) (task : List Nat) (held : List (Option Bool)) : Nat → List Bool → List Bool
  | 0, outs => outs
  | n + 1, outs => s.settle task held n ((List.range 32).map (fun j => (held.getD j none).getD (s.cellF task outs j)))

/-- Whether every cell is at its reset settings and state, so that all outputs are 0. -/
def State.cellsIdle (s : State) : Bool :=
  s.router.cells.all (fun c => c == ⟨false, false, false, false⟩) &&
    !s.regs.any (fun kv => 0x0A100 ≤ kv.1 && kv.1 < 0x0A300)

/-- One cycle of the cells: the outputs seen in this cycle, and the cells after it. With EN of EVL at 0 the outputs read 0
and the cells keep their state (R486). -/
def State.cellCycle (s : State) (task : List Nat) : State × List Bool :=
  if !s.pageEn 0x0A || s.cellsIdle then (s, List.replicate 32 false)
  else
    let held := (List.range 32).map s.cellHeld
    let outs := s.settle task held 32 (List.replicate 32 false)
    let cell (j : Nat) : Cell :=
      let c := s.router.cells.getD j ⟨false, false, false, false⟩
      let f := s.cellF task outs j
      let d := inputValue task outs (s.cellSel j 3)
      let mode := s.fget F.EVL_CELL_MODE_MODE j
      let q := if mode = 1 || mode = 3 then (if d then f else c.q) else if mode = 2 then c.q != f else c.q
      let raw := if mode = 0 then f else c.outReg
      ⟨q, c.q, raw, outs.getD j false⟩
    ({ s with router := { s.router with cells := (List.range 32).map cell } }, outs)

/-- The EVL registers of cell `j` have been written or pressed: Q and the output register start at INIT, the filter keeps
its output (R291). -/
def State.cellRestart (s : State) (j : Nat) : State :=
  let c := s.router.cells.getD j ⟨false, false, false, false⟩
  let i := s.flag F.EVL_CELL_MODE_INIT j
  { s with router := { s.router with cells := setAt ⟨false, false, false, false⟩ s.router.cells j { c with q := i, outReg := i } } }

/-- The unfiltered output of cell `j` has held for the filter's time (R292). -/
def State.cellAccept (s : State) (j : Nat) : State :=
  let c := s.router.cells.getD j ⟨false, false, false, false⟩
  if s.fget F.EVL_CELL_MODE_FMODE j = 0 || !s.pageEn 0x0A then s
  else { s with router := { s.router with cells := setAt ⟨false, false, false, false⟩ s.router.cells j { c with out := c.raw } } }

/-! ### Task inputs (R287, R288) -/

/-- A trigger of task input `t` is dropped. -/
def State.taskDrop (s : State) (t : Nat) : State :=
  ((s.fsetB F.EVR_TSTAT_EVT_OVERRUN t true).faddSat F.EVR_TSTAT_OVR_COUNT t 1).irq 0x08 1

/-- Domain of the core whose latches task inputs 0x40 + 32x name. -/
def latchDomain (x : Nat) : Domain := if x = 0 then .sen else if x = 1 then .acq else .ana

/-- A trigger on latch bit `i` of core `x` (R289). -/
def State.latchTrigger (s : State) (t x i : Nat) : State :=
  if s.fbit F.EVR_CIRQ_LATCH x i || !s.pageEn 0x09 || !s.domLive (latchDomain x) then
    ((s.taskDrop t).fsetBit F.EVR_CIRQ_OVR_OVR x i true).irq 0x09 1
  else (s.fsetBit F.EVR_CIRQ_LATCH x i true).irqWake

/-- A trigger reaches the consumer of task input `t` (table "Task inputs"). -/
def State.taskAct (s : State) (t : Nat) : State :=
  if 0x40 ≤ t then s.latchTrigger t ((t - 0x40) / 32) ((t - 0x40) % 32)
  else if 0x08 ≤ t && t < 0x18 then
    if !s.domLive .ana then s.taskDrop t
    else
      let u := t - 8
      let q := s.fget F.WELQ_TPL_CTRL_QUEUE u
      let going := (s.wel.copies.filter (fun (x : Nat × Nat × List Byte) => x.2.1 == q)).length
      let heard := s.pageEn 0x52 && s.flag F.WELQ_TPL_CTRL_EN u
      let busy := heard && (s.wel.copies.any (fun x => x.1 == u) || decide (s.qSlots q ≤ s.qCount q + going + 1))
      let s := if busy then s.taskDrop t else s
      s.launch u
  else if !s.domLive .acq then s.taskDrop t
  else if t < 8 then s.pegTrigger t
  else if t = 0x18 then s.scanTrigger 1
  else if t = 0x19 then s.softSeamRequest
  else if t < 0x2A then s.timerTrigger ((t - 0x1A) / 2) (t % 2 == 1)
  else s.gpioTap (t - 0x2A)

/-- The task stage: every connected task input that listens to a channel with a pulse (R287, R486). -/
def State.taskStage (s : State) : State :=
  let ch := s.router.task
  if ch.isEmpty || !s.pageEn 0x08 then s
  else
    let a (t : Nat) : Bool := ch.contains (s.fget F.EVR_TSEL_SELA t)
    let b (t : Nat) : Bool := s.flag F.EVR_TSEL_B_EN t && ch.contains (s.fget F.EVR_TSEL_SELB t)
    forEach (indices 224 (fun t => taskMapped t && s.flag F.EVR_TSEL_EN t && (a t || b t)))
      (fun t s => (if a t && b t then s.fsetB F.EVR_TSTAT_COALESCED t true else s).taskAct t) s

/-! ### Channels (R285, R286, R294) -/

/-- A cell output as EDGE shapes it. -/
def shaped (edge : Nat) (old new : Bool) : Bool :=
  if edge = 0 then new else if edge = 1 then !old && new else if edge = 2 then old && !new else old != new

/-- Channel `c` holds a pulse after this cycle; the guard admits it or trips. -/
def State.channelHold (s : State) (c : Nat) (gen fire : Bool) : State × Bool :=
  if !(gen || fire) || s.flag F.EVR_CSTAT_LOOP_TRIP c then (s, false)
  else
    let n := s.fget F.EVR_GUARD_N c
    let used := s.router.guard.getD c 0
    if n < 2 ^ s.fget F.EVR_GUARD_K c ∧ n ≤ used then
      ((s.fsetB F.EVR_CSTAT_LOOP_TRIP c true).irq (0x08 + c / 64) 0, false)
    else
      let s := { s with router := { s.router with guard := setAt 0 s.router.guard c (used + 1) } }
      let s := if gen && fire then s.fsetB F.EVR_CSTAT_FIRE_MERGED c true else s
      let s := s.fadd F.EVR_CCOUNT_COUNT c 1
      let s := if s.fget F.WAKE_CFG_CH = c then s.wakeLatch 15 else s
      (s.mangleArm c, true)

/-- The channel stage. -/
def State.channelStage (s : State) (outs : List Bool) : State :=
  let r := s.router
  let gen (c : Nat) : Bool :=
    let g := s.fget F.EVR_CFG_SRC c
    if 0x190 ≤ g ∧ g ≤ 0x1AF then
      shaped (s.fget F.EVR_CFG_EDGE c) (r.prevOut.getD (g - 0x190) false) (outs.getD (g - 0x190) false)
    else r.inp.contains g
  let quiet := r.inp.isEmpty && r.fires.isEmpty && !outs.any id && !r.prevOut.any id
  let on := if quiet then []
    else indices 128 (fun c => s.pageEn (0x08 + c / 64) && s.flag F.EVR_CFG_EN c && (gen c || r.fires.contains c))
  let s := { s with router := { s.router with inp := [], fires := [], chan := [] } }
  forEach on (fun c s =>
    let (s, held) := s.channelHold c (gen c) (r.fires.contains c)
    if held then { s with router := { s.router with chan := s.router.chan ++ [c] } } else s) s

/-- The guard window of channel `c` ends, or begins afresh (R294). -/
def State.guardWindow (s : State) (c : Nat) : State := { s with router := { s.router with guard := setAt 0 s.router.guard c 0 } }

/-! ### The cycle -/

/-- The slot has pressed or aborted, or 100 µs have passed (R316). -/
def State.pfwSlot (s : State) : State :=
  if !s.power.pfwWait then s
  else
    let slot := s.fget F.PWR_PFW_SLOT
    let s := { s with power := { s.power with pfwWait := false } }
    let s := if s.flag F.PWR_PFW_EN && s.fget F.BS_STATE_STATE slot == 4 && s.domLive .acq then
        s.fsetB F.PWR_STATUS_PFW_ABORT 0 true
      else s
    if s.power.thermal then s else s.setTarget 2

/-- The press window closes (R230 step 5): slots become PRESSED, interrupts are set, and the
generators pulse; the power-fail path goes on when its slot is among them (R316). -/
def State.windowClose (s : State) : State :=
  let done := s.basket.closing
  let s := { s with basket := { s.basket with window := 0, heldPages := [], closing := [] } }
  let pf := s.flag F.PWR_PFW_EN && done.any (fun x => x.1 == s.fget F.PWR_PFW_SLOT)
  let s := forEach done (fun (x : Nat × Bool) s =>
    if x.2 then
      let s := (s.fset F.BS_STATE_STATE x.1 3).fadd F.BASKET_STATUS_PRESSES 0 1
      let s := s.fsetBit F.BASKET_STATUS_ARMED 0 x.1 false
      (s.irq 0x0B x.1).pulse (0x1B0 + x.1)
    else (s.irq 0x0B (8 + x.1)).pulse (0x1B8 + x.1)) s
  if pf then s.pfwSlot else s

/-- One router cycle: the task stage acts on the channels that it sees, the cells form their outputs, and the channel stage
takes the pulses of this cycle (R282). The press window (R230) and the checks that hold a page count the same clock. -/
def State.routerCycle (s : State) : State :=
  if !s.power.senOn then s
  else
    let s := (if s.router.tapHigh = [] then s else { s with router := { s.router with tapHigh := [] } }.gpioFollow).checksAge 1
    let s := s.taskStage
    let (s, outs) := s.cellCycle s.router.task
    let s := { s with router := { s.router with task := s.router.chan } }
    let s := s.channelStage outs
    let s := { s with router := { s.router with prevOut := outs } }
    match s.basket.window with
    | 0 => s
    | 1 => s.windowClose
    | n + 2 => { s with basket := { s.basket with window := n + 1 } }

/-- `n` router cycles. -/
def State.routerCycles (s : State) : Nat → State
  | 0 => s
  | n + 1 => s.routerCycle.routerCycles n

/-- Router cycles until the window is closed and no pulse is on its way, at most `n`. -/
def State.routerDrain (s : State) : Nat → State
  | 0 => if s.basket.window = 0 then s else s.windowClose
  | n + 1 =>
    let r := s.router
    if s.basket.window = 0 && r.inp.isEmpty && r.fires.isEmpty && r.chan.isEmpty && r.task.isEmpty then s
    else s.routerCycle.routerDrain n

/-- A generator's pulse reaches the router input and passes the two stages (R282). -/
def State.generatorPulse (s : State) (g : Nat) : State :=
  let s := if s.router.inp.contains g then s else s.pulse g
  s.routerCycles 3

end Sys2Proof.Machine
end

