-- ==== Sys2Proof/Machine/Power.lean ====
section
/-!
DEFINITION. Power of the domains: what a domain loses when it is switched off and what it finds when it is switched on, the
kept banks with their canaries and seals, and the checks and actions of the mode steps (R21, R300–R319, R467–R469).
-/

namespace Sys2Proof.Machine

/-! ### Sources of clock while domains are off -/

/-- Clear the READY flags of the given sources; the clocks that select them automatically change over (R321, R323). -/
def State.notReady (s : State) (srcs : List Nat) : State :=
  let s := forEach srcs (fun i s => s.fsetBit F.CLK_READY_READY 0 i false) s
  let s := if srcs.contains 4 && s.flag F.CLK_SEL_ACQ_AUTO then s.fset F.CLK_SEL_ACQ_SEL 0 0 else s
  if srcs.contains 3 then
    match s.bkd.meas with
    | none => s
    | some m => { s with bkd := { s.bkd with meas := some { m with xo := false } } }
  else s

/-- Source `i` is READY. -/
def State.isReady (s : State) (i : Nat) : Bool := s.fbit F.CLK_READY_READY 0 i

/-! ### Memory of a domain -/

/-- Forget the bytes and check bits at the addresses that `p` names. -/
def State.forget (s : State) (p : Nat → Bool) : State :=
  { s with mem := s.mem.filter (fun c => !p c.1), ecc := s.ecc.filter (fun c => !p c.1) }

/-- Fabric address `a` lies in the private memory of core `i`. -/
def inPriv (i a : Nat) : Bool := decide (privBase i ≤ a ∧ a < privBase i + 0x40000)

/-- Fabric address `a` lies in a local memory of a Welut engine. -/
def inLmem (a : Nat) : Bool := decide (0x300000000000 ≤ a ∧ a < 0x301200000000)

/-- Fabric address `a` lies in HBM. -/
def inHbm (a : Nat) : Bool := decide (a < 0x2400000000)

/-- The logical bank of domain SRAM `d` that holds address `a`. -/
def bankOf (d a : Nat) : Option Nat :=
  match sramOf a with
  | some (d', o) => if d' = d then some (o / 65536) else none
  | none => none

/-- The latched masks keep bank `b` of domain SRAM `d` (R312). -/
def banked (masks : List Nat) (d b : Nat) : Bool :=
  Nat.testBit (masks.getD (retnBit d b).1 0) (retnBit d b).2

/-- Bank `b` of domain SRAM `d` is kept in this step. -/
def State.kept (s : State) (d b : Nat) : Bool := banked s.power.keep d b

/-- The banks of domain SRAM `d` that the step keeps. -/
def State.keptBanks (s : State) (d : Nat) : List Nat := indices (sramBanks d) (fun b => s.kept d b)

/-- First fabric address of a bank. -/
def bankBase (d b : Nat) : Nat := sramBase d + b * 65536

/-- The seal of a bank: the CRC-32C of its 64 KiB (R314). -/
def State.sealOf (s : State) (d b : Nat) : Nat := crc32c (s.bytes (bankBase d b) 65536)

/-- The seal unit reads the whole of a bank for its own purposes (R484): corrected errors count against their rows, and an
uncorrectable one is logged; the data is used as read. -/
def State.sealRead (s : State) (d b : Nat) : State :=
  let (s, bad) := s.sramRead (bankBase d b) 65536
  if bad then s.logBusErr (bankBase d b) false (blockSource 0x07) 6 else s

/-- Seals of the kept and sealed banks of domain SRAM `d` (R314); the page is busy until the step ends (R320). -/
def State.sealBanks (s : State) (d : Nat) : State :=
  let banks := (s.keptBanks d).filter (fun b => banked s.power.sealMask d b)
  let s := forEach banks (fun b s => s.sealRead d b) s
  let new := banks.map (fun b => (d * 256 + b, s.sealOf d b))
  { s with power := { s.power with seals := s.power.seals.filter (fun (x : Nat × Nat) => x.1 / 256 != d) ++ new } }.retnBusy

/-- The banks of domain SRAM `d` that are not kept lose their contents; what waits on them is dropped (R312). -/
def State.dropBanks (s : State) (d : Nat) : State :=
  let s := s.forget (fun a => match bankOf d a with
    | some b => !s.kept d b
    | none => false)
  forEach (List.range (sramBanks d)) (fun b s =>
    if s.fbit F.RETN_UNVER_UNVER (retnBit d b).1 (retnBit d b).2 then s.unverClear d b else s) s

/-- Word `k` of the RETN masks covers banks of domain SRAM `d` (R320). -/
def retnWord (d k : Nat) : Bool := if d = 0 then k == 0 else if d = 1 then k == 1 || k == 2 else decide (3 ≤ k)

/-- The whole of domain SRAM `d` is lost, and no mask keeps a bank of it (R312). -/
def State.dropSram (s : State) (d : Nat) : State :=
  { s.forget (fun a => (bankOf d a).isSome) with
    power := { s.power with
      seals := s.power.seals.filter (fun x => x.1 / 256 != d)
      keep := (List.range 11).map (fun k => if retnWord d k then 0 else s.power.keep.getD k 0) } }

/-- What a memory that is powered without its contents holds, at the addresses that `p` names (R312). -/
def State.fill (s : State) (found : Contents) (p : Nat → Bool) : State :=
  let s := s.forget p
  let s := forEach (found.cells.filter (fun c => p c.1)) (fun c s => s.putBytes c.1 [c.2]) s
  let new := (found.ecc.filter (fun c => p c.1 && c.1 % 8 == 0)).eraseDups
  { s with ecc := s.ecc ++ new }

/-- A bank is found LOST or BAD at a wake; the second wake in a row raises a darn proposal (R449). -/
def State.bankSuspect (s : State) (d b : Nat) : State :=
  let code := d * 256 + b
  let last := s.darn.lostLast
  let s := { s with darn := { s.darn with lostLast := if last.contains (1024 + code) then last else last ++ [1024 + code] } }
  if last.contains code then s.proposeBank d b else s

/-- The records of suspect banks of domain SRAM `d` move on by one wake. -/
def State.suspectAge (s : State) (d : Nat) : State :=
  let keep := s.darn.lostLast.filter (fun c => c % 1024 / 256 != d)
  let now := (s.darn.lostLast.filter (fun c => c % 1024 / 256 == d && 1024 ≤ c)).map (fun c => c - 1024)
  { s with darn := { s.darn with lostLast := keep ++ now } }

/-- The banks of domain SRAM `d` return to full voltage: what the others hold is `found`, the canaries of the kept ones are
checked (`flipped`: those with a flipped cell, numbered 256 × domain + bank), and the checks of the sealed ones begin
(R312–R314). -/
def State.banksReturn (s : State) (d : Nat) (flipped : List Nat) (found : Contents) : State :=
  let s := s.suspectAge d
  let s := s.fill found (fun a => match bankOf d a with
    | some b => !s.kept d b || flipped.contains (d * 256 + b)
    | none => false)
  let lost := (s.keptBanks d).filter (fun b => flipped.contains (d * 256 + b))
  let s := forEach lost (fun b s =>
    ((s.fsetBit F.RETN_LOST_LOST (retnBit d b).1 (retnBit d b).2 true).irq 0x07 0).bankSuspect d b) s
  let sealed := (s.keptBanks d).filter (fun b => s.power.seals.any (fun x => x.1 == d * 256 + b))
  let s := forEach sealed (fun b s => s.fsetBit F.RETN_UNVER_UNVER (retnBit d b).1 (retnBit d b).2 true) s
  if sealed = [] then s else s.setBusy 0x07 true

/-- The seal check of the next bank ends (R314). -/
def State.sealCheckDone (s : State) : State :=
  match s.unverified with
  | [] => s
  | (d, b) :: _ =>
    let (k, i) := retnBit d b
    let s := s.sealRead d b
    let good := s.power.seals.any (fun x => x.1 == d * 256 + b && x.2 == s.sealOf d b)
    let s := if good then s else ((s.fsetBit F.RETN_BAD_BAD k i true).irq 0x07 1).bankSuspect d b
    s.unverClear d b

/-! ### Switching a domain -/

/-- Power of a switched domain. -/
def State.setPower (s : State) (d : Domain) (p : DomPower) : State :=
  { s with power := match d with
      | .bk => s.power
      | .sen => { s.power with senOn := p == .on }
      | .acq => { s.power with acq := p }
      | .ana => { s.power with ana := p }
      | .mem => { s.power with mem := p }
      | .lnk => { s.power with lnk := p } }

/-- Number of a domain in CLKMON (R336). -/
def domIndex : Domain → Nat
  | .acq => 0
  | .ana => 1
  | .mem => 2
  | _ => 3

/-- The clock-failure state of domain number `d` (R333). -/
def State.setClkState (s : State) (d st : Nat) : State :=
  s.setReg .CLKMON_STATE 0 (withBits (s.reg .CLKMON_STATE) (2 * d) 2 st)

/-- The page of a register address belongs to domain `d`. -/
def addrIn (d : Domain) (a : Nat) : Bool :=
  match pageInfo (a / 0x1000) with
  | some (d', _) => d' == d
  | none => false

/-- The registers of domain `d` go to reset, with what is frozen, reset or to be swapped in its pages. -/
def State.resetPages (s : State) (d : Domain) : State :=
  let s := s.clearDomainRegs d
  { s with freeze := s.freeze.filter (fun c => !addrIn d c.group),
           softReset := s.softReset.filter (fun p => !addrIn d (p * 0x1000)),
           late := s.late.filter (fun x => !addrIn d x.1) }

/-- What the GPIO page keeps while D_ACQ is off or in reset: what the I/O ring keeps (R482), and the levels at the balls, which
GPIO_IN shows. -/
def gpioKept : List (Reg × Nat) :=
  [(.GPIO_IN, 0), (.GPIO_IN, 1), (.GPIO_SAFE, 0), (.GPIO_SAFE, 1), (.GPIO_SAFE_OE, 0), (.GPIO_SAFE_OE, 1)] ++
    (List.range 48).map (fun n => (Reg.GPIO_PAD, n))

/-- The registers of D_ACQ go to reset, but for what the I/O ring keeps. -/
def State.resetAcqPages (s : State) : State :=
  let old := s.ringHold
  forEach gpioKept (fun x s =>
    let v := old.reg x.1 x.2
    match x.1 with
    | .GPIO_PAD => s.setReg .GPIO_PAD x.2 (withBits (s.reg .GPIO_PAD x.2) 0 2 (bits v 0 2))
    | r => s.setReg r x.2 v) (old.resetPages .acq)

/-- The architectural state of core `i` goes to reset; the copies of CORE_IRQ_EN and of the windows follow the registers of
its page (R265). -/
def State.coreZero (s : State) (i : Nat) : State :=
  let n := coreReg i
  let c := { Core.reset with
    irqEn := [s.reg .CORE_IRQ_EN_LO n, s.reg .CORE_IRQ_EN_HI n],
    win := (List.range 8).map (fun k => s.reg .WIN (8 * n + k)) }
  { s.govForget i with cores := setAt Core.reset s.cores i c }

/-- The logic of D_ANA goes to reset (R194). -/
def State.resetAna (s : State) : State :=
  let s := s.resetPages .ana
  let w : WelPart := { WelPart.reset with
    engines := s.wel.engines.map (fun e => { Wel.reset with powered := e.powered + 1 }) }
  let s := forEach (List.range 18) (fun k s => s.govForget (16 + k)) s
  let s := { s with wel := { w with emits := s.wel.emits, counts := s.wel.counts, pushes := [] } }
  let s := { s with darn := { s.darn with copy := match s.darn.copy with
    | some (2, _, _) => none
    | c => c } }.darnShow
  ((s.coreZero 2).coreZero 3).coreZero 4

/-- The logic of D_MEM goes to reset: every stack is OFF (R171). -/
def State.resetMem (s : State) : State :=
  let s := s.resetPages .mem
  let s := { s with lines := { s.lines with
    used := 0, cls := Lines.reset.cls, waited := false, gov := Lines.reset.gov, owed := [], grants := [],
    hbm := s.lines.hbm.map (fun (h : HbmStack) => { HbmStack.reset with copy := h.copy }) } }
  s.writerState

/-- The logic of D_LNK goes to reset (R382). -/
def State.resetLnk (s : State) : State :=
  let s := forEach (List.range 4) (fun p s => s.govForget (8 + p)) s
  { s.resetPages .lnk with links := Links.reset, beacon := Beacon.reset, wel := { s.wel with pushes := [] } }

/-- The logic of D_ACQ goes to reset (R64, R95, R142, R171, R241). The pins keep their levels. -/
def State.resetAcq (s : State) : State :=
  let s := s.resetAcqPages
  let s := { s with
    timers := [],
    tach := s.tach.map (fun (t : Tach) => ⟨t.pin, none, none, 0⟩),
    engines := List.replicate 32 Engine.zero,
    epoch := Epoch.reset,
    seams := [],
    modules := s.modules.map (fun (m : Module) => ⟨m.pin, !m.pin, none⟩),
    idb := List.replicate 2 IdBus.idle,
    adc := Adc.reset,
    chains := Chains.reset,
    basket := Basket.reset,
    lines := { Lines.reset with
      hbm := s.lines.hbm, used := s.lines.used, cls := s.lines.cls, waited := s.lines.waited, gov := s.lines.gov,
      owed := (s.govForget 6).lines.owed, grants := (s.govForget 6).lines.grants, debug := s.lines.debug },
    darn := { s.darn with log := [], props := [], confirmed := [], engines := [], copy := none, hbmRows := [],
                          hbmLanes := [] },
    temps := ⟨[], [], true⟩,
    xspi := { s.xspi with run := 0, out := none },
    wdts := List.replicate 5 ⟨0, 0⟩,
    mend := Mend.reset,
    boot := { s.boot with running := false, step := 0 } }
  let s := { s with wel := { s.wel with emits := [], heldSeams := [], counts := WelPart.reset.counts } }
  let s := { s with crypto := { s.crypto with cmd := none }, fuses := { s.fuses with burn := none } }
  (s.uartsReset.coreZero 1).gpioFollow

/-- Domain `d` is switched off: its state is lost (R300); what the masks keep of its SRAM is left. -/
def State.switchOff (s : State) (d : Domain) : State :=
  let s := (s.setClkState (domIndex d) 0).stagedLost d
  let s := { s with clocks := { s.clocks with wait := setAt [] s.clocks.wait (domIndex d) [] } }
  match d with
  | .ana =>
    let s := ((s.setPower .ana .off).resetAna).forget (fun a => inLmem a || inPriv 2 a || inPriv 3 a || inPriv 4 a)
    { s with darn := { s.darn with tracker := s.darn.tracker.filter (fun t => t.dom != 2) },
             power := { s.power with anaEn := false, anaPg := false } }
  | .mem => ((s.notReady [8, 9, 10, 11]).setPower .mem .off).resetMem
  | .lnk => ((s.notReady [12, 13, 14, 15, 16]).setPower .lnk .off).resetLnk
  | .acq =>
    let s := ((s.setPower .acq .off).resetAcq).forget (fun a => inPriv 1 a)
    { s with darn := { s.darn with tracker := s.darn.tracker.filter (fun t => t.dom != 1) },
             crypto := { s.crypto with log := [], passed := none } }
  | _ => s

/-- HBM loses its contents: the stacks have lost their power or their refresh (R171, R335). -/
def State.hbmLost (s : State) : State :=
  let s := s.forget inHbm
  { s with lines := { s.lines with hbm := s.lines.hbm.map (fun (h : HbmStack) => { h with copy := none }) } }

/-- Move every stack in state `a` to state `b`. -/
def State.stacksMove (s : State) (a b : Nat) : State :=
  forEach (indices 4 (fun x => s.fget F.HBMC_STATE_STATE x == a)) (fun x s => s.stackState x b) s

/-- The settings of the stacks in self-refresh are saved for RESTORE (R164, R305). -/
def State.stacksSave (s : State) : State :=
  forEach (indices 4 (fun x => s.fget F.HBMC_STATE_STATE x == 3))
    (fun x s => s.setStack x { s.stack x with copy := some (s.fgetI F.HBMC_STATE_TEMP x) }) s

/-- The controller trains every stack, once STK_PG is high: RESTORE where it stayed powered, FULL elsewhere (R306, R307, R469). -/
def State.stacksRestore (s : State) : State :=
  forEach (List.range 4) (fun x s => s.trainAsk x (if (s.stack x).copy.isSome then 2 else 0)) s

/-- The point of D_ACQ or D_ANA in force and the voltage last sent (R327, R336). -/
def State.setPoint (s : State) (rail p : Nat) : State :=
  let s := s.fset F.PMB_AVS_SET_MV rail (s.fget F.DVFS_VOLT_MV p)
  if rail = 0 then s.fset F.DVFS_STATUS_ACQ_NOW 0 p else s.fset F.DVFS_STATUS_ANA_NOW 0 p

/-- Point at which D_ANA powers up: the held target, as far as CAP permits (R327). -/
def State.anaHeld (s : State) : Nat := min (s.fget F.DVFS_TARGET_ANA) (s.fget F.DVFS_CAP_CAP)

/-- ANA_EN is asserted and the voltage of the held point is sent: D_ANA will power up at that point (R306, R327). -/
def State.anaEnable (s : State) : State :=
  { s.fset F.PMB_AVS_SET_MV 1 (s.fget F.DVFS_VOLT_MV s.anaHeld) with
    power := { s.power with anaEn := true, anaPoint := s.anaHeld } }

/-- D_ANA is switched on at its held point (R194, R306). -/
def State.anaOn (s : State) (flipped : List Nat) (found : Contents) : State :=
  let s := s.setPower .ana .on
  let s := s.fset F.DVFS_STATUS_ANA_NOW 0 s.power.anaPoint
  let s := s.fill found (fun a => inLmem a || inPriv 2 a || inPriv 3 a || inPriv 4 a)
  s.banksReturn 2 flipped found

/-- D_ACQ is switched on at OP1, with C0 stopped while ROM_C is copied (R307, R418). -/
def State.acqOn (s : State) (flipped : List Nat) (found : Contents) : State :=
  let s := (s.setPower .acq .on).setPoint 0 1
  let s := s.fill found (fun a => inPriv 1 a)
  let s := s.banksReturn 1 flipped found
  let s := { s with
    boot := { s.boot with copying := s.boot.copying ++ [1] },
    power := { s.power with ring := { s.power.ring with por := false } } }
  s.darnShow.gpioFollow.tachThaw

/-! ### Mode steps -/

/-- A wake source armed for mode `m` (R309). -/
def State.wakeArmed (s : State) (m : Nat) : Bool :=
  (List.range 19).any (fun c => c != 0 && c != 17 && wakeIn c m && (s.reg .WAKE_EN).getLsbD c)

/-- A Midnight wake is enabled in the BKD page (R352). -/
def State.midArmed (s : State) : Bool :=
  s.flag F.BKD_MIDWAKE_PIN0 || s.flag F.BKD_MIDWAKE_PIN1 || s.flag F.BKD_MIDWAKE_ALARM

/-- The power-fail path is active (R317). -/
def State.pfw (s : State) : Bool := s.flag F.PWR_STATUS_PFW

/-- The reason for which the step from `a` to `b` is refused, 0 for none (R304). -/
def State.stepRefused (s : State) (a b : Nat) : Nat :=
  if a = 1 ∧ b = 2 then (if 48 < s.fget F.AIN_CHCOUNT_N && !s.pfw && !s.power.thermal then 1 else 0)
  else if a = 2 ∧ b = 3 then (if s.wakeArmed 3 || s.power.thermal then 0 else 4)
  else if a = 3 ∧ b = 4 then (if s.midArmed then 0 else 4)
  else if a = 2 ∧ b = 0 then (if s.clkState .acq != 0 then 2 else if s.pfw then 3 else 0)
  else if a = 3 ∧ b = 2 then (if s.clkState .acq != 0 then 2 else 0)
  else 0

/-- A step is refused (R304). -/
def State.refuse (s : State) (reason : Nat) : State :=
  let s := (s.fsetB F.PWR_STATUS_REFUSED 0 true).fset F.PWR_STATUS_REFUSE 0 reason
  (s.setTarget s.mode).irq 0x01 1

/-- The step from `a` to `b` may start now: the mode is `a`, no step is in progress and the mode sought lies that way; after
the thermal path Night is not left (R319), and Noon waits for XO, PLL_SYS, PLL_WEL and PLL_ADC (R307). -/
def State.canStep (s : State) (a b : Nat) : Bool :=
  let t := s.fget F.PWR_STATUS_TARGET
  s.power.senOn && s.power.step.isNone && s.mode == a && (if a < b then a < t else t < a) &&
    !(s.power.thermal && a == 3) && (!(a == 2 && b == 0) || [3, 4, 5, 6, 17].all (fun i => s.isReady i))

/-- A step begins: it latches PWR_CFG and the RETN masks (R305). -/
def State.stepBegin (s : State) (a b : Nat) : State :=
  { s with power := { s.power with
      step := some (a, b),
      opFail := false,
      sNight := s.flag F.PWR_CFG_S_NIGHT,
      nightSr := s.flag F.PWR_CFG_NIGHT_SR,
      keep := (List.range 11).map (fun k => (s.reg .RETN_KEEP k).toNat),
      sealMask := (List.range 11).map (fun k => (s.reg .RETN_SEAL k).toNat) } }.setBusy 0x01 true

/-- A step up begins: the banks that return are those that the step down kept (R312). -/
def State.stepUp (s : State) (a b : Nat) : State :=
  { s with power := { s.power with step := some (a, b) } }.setBusy 0x01 true

/-- The step in progress comes to nothing. -/
def State.stepDrop (s : State) : State := { s with power := { s.power with step := none } }.setBusy 0x01 false

/-- Run the step from `a` to `b` by `f` if it may start and is not refused. -/
def State.tryStep (s : State) (a b : Nat) (f : State → State) : State :=
  if !s.canStep a b then s
  else
    let r := s.stepRefused a b
    if r ≠ 0 then s.refuse r else f s

/-- Noon to Afternoon (R305). -/
def State.toAfternoon (s : State) : State :=
  let s := (s.stepBegin 0 1).stacksMove 2 3
  if s.power.ana = .on then s.setPower .ana .stopped else s

/-- AIN_CTRL.RUN is cleared for more than 48 channels on the power-fail and thermal paths (R317, R319). -/
def State.dropAcquisition (s : State) : State :=
  if !(48 < s.fget F.AIN_CHCOUNT_N && (s.pfw || s.power.thermal)) then s
  else
    let old := s.flag F.AIN_CTRL_RUN
    let s := if s.pfw then s.fsetB F.PWR_STATUS_PFW_NOACQ 0 true else s
    (s.fsetB F.AIN_CTRL_RUN 0 false).runWritten old

/-- Afternoon to Evening (R305). -/
def State.toEvening (s : State) : State :=
  let s := (s.stepBegin 1 2).dropAcquisition
  let s := ((s.sealBanks 2).dropBanks 2).switchOff .ana
  let s := (s.stacksSave).switchOff .mem
  s.adcEvening.linkLanes true

/-- Evening to Night (R305). -/
def State.toNight (s : State) : State :=
  let s := s.stepBegin 2 3
  let s := { s with power := { s.power with woken := false } }
  let s := (s.sealBanks 1).sealBanks 0
  let s := (((s.dropBanks 1).dropBanks 0).dropBanks 2).dropSram 2
  let s := (s.switchOff .acq).switchOff .lnk
  let s := if s.power.nightSr then s
    else { s.hbmLost with power := { s.power with stkEn := false, stkPg := false } }
  s.notReady [3, 4, 5, 6, 17]

/-- Evening to Noon up to ANA_EN (R306 step 1), with the RESTORE training of step 4. -/
def State.leaveEvening (s : State) : State :=
  let s := ((s.stepUp 2 0).setPower .mem .on).stacksRestore
  s.anaEnable

/-- Night to Evening (R307): the four sources start, and D_ACQ and D_LNK power on. -/
def State.leaveNight (s : State) (flipped : List Nat) (found : Contents) : State :=
  let s := s.stepUp 3 2
  let s := s.fset F.CLK_EN_EN 0 15
  let s := (s.acqOn flipped found).banksReturn 0 flipped found
  let s := (s.setPower .lnk .on).lnkOn true
  let s := { s with power := { s.power with stkEn := true, sStopped := false } }
  s.uartFirstLost

/-- A latched wake is delivered at the end of a step, on the thermal path only in Night (R310, R319). -/
def State.wakeReplay (s : State) : State :=
  match s.power.wake with
  | none => s
  | some w => if s.power.thermal && s.mode < 3 then s else s.wakeGo w s.power.replay

/-- Night is reached: S stops, and SENRC with it, unless S_NIGHT is 1 (R301, R305). -/
def State.nightReached (s : State) : State :=
  let s := { s with power := { s.power with sStopped := !s.power.sNight } }
  if s.power.sStopped then s.notReady [2] else s

/-- After a step a latched wake is delivered, and the thermal path holds the target at Night (R310, R319). -/
def State.stepTail (s : State) : State :=
  let s := s.wakeReplay
  if s.power.thermal && s.mode < 3 then s.setTarget 3 else s

/-- The step in progress ends at mode `b`: PWR_LAST and PAGE_IRQ (R305), then the actions that belong to its end. -/
def State.stepEnd (s : State) (a b clocks : Nat) : State :=
  let s := s.stepDrop.retnBusy
  let s := s.fset F.PWR_STATUS_MODE 0 b
  let s := ((s.fset F.PWR_LAST_FROM 0 a).fset F.PWR_LAST_TO 0 b).fset F.PWR_LAST_CLOCKS 0 (min clocks (2 ^ 26 - 1))
  let s := s.irq 0x01 0
  let s :=
    if a = 2 ∧ b = 0 then (s.linkLanes false).adcNoon
    else if a = 2 ∧ b = 3 then s.nightReached
    else if a = 3 ∧ b = 4 then
      s.fsetB F.BKD_MIDWAKE_MAIN_EN 0 s.bkd.wake.isSome
    else s
  s.stepTail

/-- Without ANA_PG the step from Evening to Noon comes to nothing: D_ANA and D_MEM stay off, and it is refused for DEPENDENCY
(R21, R304). -/
def State.noonRefused (s : State) : State :=
  let s := if s.power.ana = .off then s else ((s.sealBanks 2).dropBanks 2).switchOff .ana
  let s := ((s.stacksMove 2 3).stacksSave.switchOff .mem).stepDrop.retnBusy
  ({ s with power := { s.power with anaEn := false } }.refuse 2).stepTail

/-- A step ends after `clocks` sentinel clocks. Evening waits for D_ACQ to reach OP1, or for that transition to fail (R305,
R329, R330); Noon is refused for
DEPENDENCY when ANA_PG has not risen (R304). -/
def State.modeStepEnd (s : State) (clocks : Nat) : State :=
  match s.power.step with
  | none => s
  | some (a, b) =>
    if a = 2 ∧ b = 0 ∧ !s.power.anaPg then s.noonRefused
    else if a = 1 ∧ b = 2 ∧ (s.clocks.dvfs.isSome ∨ (s.fget F.DVFS_STATUS_ACQ_NOW ≠ 1 ∧ !s.power.opFail)) then s
    else s.stepEnd a b clocks

/-- S writes PWR_CTRL.TARGET (R303); until Night is reached, the thermal path holds the target (R319). -/
def State.modeWritten (s : State) (m : Nat) : State :=
  if s.power.thermal && !(s.mode == 3 && s.power.step.isNone) then s.setTarget (s.fget F.PWR_STATUS_TARGET)
  else s.setTarget m

/-! ### Power fail and temperature -/

/-- PFW has held for 1 µs (R316). -/
def State.pfwAccept (s : State) : State :=
  if !s.power.pfwPin || s.pfw || !s.power.senOn then s
  else
    let s := ((s.fsetB F.PWR_STATUS_PFW 0 true).irq 0x01 3).pulse 0x1E4
    let s := { s with power := { s.power with pfwWait := true } }
    if s.flag F.PWR_PFW_EN && s.domLive .acq then s.softSeamRequest else s

/-- PFW_N is released (R317). -/
def State.pfwRelease (s : State) : State :=
  if !s.power.pfwPin then s
  else
    let s := { s with power := { s.power with pfwPin := false } }
    if s.pfw then s.irq 0x01 4 else s

/-- PFW has stayed released for CLEAR_MS (R317). -/
def State.pfwClear (s : State) : State :=
  if s.power.pfwPin || !s.pfw then s
  else
    let s := (s.fsetB F.PWR_STATUS_PFW 0 false).wakeLatch 16
    { s with power := { s.power with pfwWait := false } }

/-- A comparator trips at 125 °C (R319). -/
def State.thermTrip (s : State) : State :=
  if !s.power.senOn then s
  else
    let s := ((s.fsetB F.PWR_STATUS_THERM_TRIP 0 true).irq 0x01 5).setTarget 3
    { s with power := { s.power with thermal := true } }

/-- Sensor `n` converts to `v`, in 1/16 °C (R318). -/
def State.tempConvert (s : State) (n : Nat) (v : BitVec 16) : State :=
  if !s.pageEn 0x6E then s
  else
    let t := v.toInt
    let old := signed 16 (s.fget F.TEMP_MAX_MAX)
    let s := s.setReg .TEMP_V n (BitVec.ofNat 32 (0x10000 + v.toNat))
    let s := if s.temps.fresh || old < t then s.fset F.TEMP_MAX_MAX 0 v.toNat else s
    let s := { s with temps := { s.temps with fresh := false } }
    let warn := 16 * s.fgetI F.TEMP_WARN_WARN
    let hot := 16 * s.fgetI F.TEMP_HOT_HOT
    let s := if t ≤ warn - 32 then { s with temps := { s.temps with warned := s.temps.warned.filter (· != n) } } else s
    let s := if t ≤ hot - 32 then { s with temps := { s.temps with hot := s.temps.hot.filter (· != n) } } else s
    let s := if warn < t && !s.temps.warned.contains n then
        { (s.fsetBit F.TEMP_STATUS_WARN 0 n true).irq 0x6E n with
          temps := { s.temps with warned := s.temps.warned ++ [n] } }
      else s
    if hot < t && !s.temps.hot.contains n then
      let s := { (s.fsetBit F.TEMP_STATUS_HOT 0 n true).irq 0x6E (8 + n) with
          temps := { s.temps with hot := s.temps.hot ++ [n] } }
      match s.fget F.TEMP_CTRL_HOT_ACT with
      | 1 => s.fset F.DVFS_CAP_CAP 0 0
      | 2 => if s.power.thermal then s else s.setTarget 1
      | _ => s
    else s

end Sys2Proof.Machine
end

