-- ==== Sys2Proof/Machine/Clock.lean ====
section
/-!
DEFINITION. The clock tree: sources and their READY flags, refused selections, the clock monitors with the safe states of the
domains, the operating points and the PMBus (R321–R336).
-/

namespace Sys2Proof.Machine

/-! ### Sources (R321–R325) -/

/-- CLK_EN enables PLL or oscillator `b` of the field EN: 0 XO, 1 PLL_SYS, 2 PLL_WEL, 3 PLL_ADC. -/
def clkOn (v : Word) (b : Nat) : Bool := v.getLsbD (3 + b)

/-- D_SEN keeps XO and the PLLs stopped in Night (R305, R307). -/
def State.nightClocks (s : State) : Bool :=
  s.power.step == some (2, 3) || (s.mode == 3 && s.power.step != some (3, 2)) || s.mode == 4

/-- Source `i` is enabled and its domain is on, so that it runs and can become READY (R321, R331). The LFXO runs in D_BK in every
mode (R340); SENRC stands in Night while S does (R301, R307). -/
def State.srcOn (s : State) (i : Nat) : Bool :=
  (i == 0 || s.power.senOn) && (match i with
    | 0 => s.flag F.BKD_CTRL_LFXO_EN
    | 1 => true
    | 2 => !s.power.sStopped
    | 3 => clkOn (s.reg .CLK_EN) 0 && !s.nightClocks
    | 4 => clkOn (s.reg .CLK_EN) 1 && !s.nightClocks
    | 17 => clkOn (s.reg .CLK_EN) 1 && !s.nightClocks
    | 5 => clkOn (s.reg .CLK_EN) 2 && !s.nightClocks
    | 6 => clkOn (s.reg .CLK_EN) 3 && !s.nightClocks
    | 7 => true
    | 12 => s.power.lnk != .off
    | i => if i < 12 then s.power.mem != .off else s.power.lnk != .off && s.flag F.PAGE_CTRL_EN (0x58 + (i - 13)))

/-- Source `i` runs from reference `r`. -/
def State.refOf (s : State) (i : Nat) : Option Nat :=
  if i = 4 ∨ i = 17 ∨ i = 5 ∨ (8 ≤ i ∧ i ≤ 11) then some 3
  else if i = 6 then some (if s.flag F.CLK_SEL_ADC_REF then 7 else 3)
  else if 13 ≤ i ∧ i ≤ 16 then some 12
  else none

/-- The sources that lose their READY flag with those given: the sources and the PLLs that run from them (R321). -/
def State.withPlls (s : State) (xs : List Nat) : List Nat :=
  xs ++ indices 18 (fun i => !xs.contains i && (match s.refOf i with
    | some r => xs.contains r
    | none => false))

/-- A selection field of CLK_SEL is changed so that it names a source that is not READY, or the reference of a running
PLL_ADC is changed (R322). -/
def State.selRefused (s : State) (old new : Word) : Bool :=
  let chg (b : Nat) : Bool := old.getLsbD b != new.getLsbD b
  let pick (b off on : Nat) : Bool := chg b && !s.isReady (if new.getLsbD b then on else off)
  pick 0 1 0 || pick 4 2 4 || pick 8 3 7 ||
    ((chg 8 || chg 9 || chg 10) && clkOn (s.reg .CLK_EN) 3)

/-- A write to CLK_EN disables a source that is selected or that is the reference of an enabled PLL (R322). -/
def State.enRefused (s : State) (old new : Word) : Bool :=
  let drops (b : Nat) : Bool := clkOn old b && !clkOn new b
  (drops 1 && s.flag F.CLK_SEL_ACQ_SEL) ||
    (drops 0 && (clkOn new 1 || clkOn new 2 || !s.flag F.CLK_SEL_ADC_REF || [8, 9, 10, 11].any (fun i => s.srcOn i)))

/-- A write of CLK_SEL or CLK_EN is refused. -/
def State.clkRefuse (s : State) : State := (s.fsetB F.CLK_STATUS_REFUSED 0 true).irq 0x03 0

/-- Sources that CLK_EN has just disabled lose their READY flags. -/
def State.clkEnWritten (s : State) : State :=
  s.notReady (s.withPlls (indices 18 (fun i => 3 ≤ i && (i ≤ 6 || i == 17) && !s.srcOn i && s.isReady i)))

/-- Bits of a CLK_PEN word that a write may not clear: pages with a staged shadow (R325). -/
def State.penStaged (s : State) (w : Nat) : Word :=
  (indices 32 (fun i => (pageInfo (32 * w + i)).isSome && s.slotMask (32 * w + i) != 0)).foldl
    (fun a i => a ||| maskOf i 1) 0#32

/-- Bits of a CLK_PEN word that read 1 and ignore writes (R324). -/
def penOnes (w : Nat) : Word := (indices 32 (fun i => penFixed (32 * w + i))).foldl (fun a i => a ||| maskOf i 1) 0#32

/-- Bits of a CLK_PEN word of mapped pages; the others read 0 and ignore writes (R324). -/
def penMapped (w : Nat) : Word := BitVec.ofNat 32 (penReset w)

/-- What a write of `v` leaves in CLK_PEN word `w`. -/
def State.penValue (s : State) (w : Nat) (v : Word) : Word :=
  ((v ||| penOnes w) &&& penMapped w) ||| (s.reg .CLK_PEN w &&& s.penStaged w)

/-! ### Safe states (R332) and resumption (R333, R335) -/

/-- An operation of the flash controller is abandoned (R439). -/
def State.xspiAbandon (s : State) : State :=
  if s.xspi.run = 0 then s
  else
    let s := { s with xspi := { s.xspi with run := 0 } }
    let s := (s.fsetB F.XSPI_CMD_START 0 false).fsetB F.XSPI_CMD_POLL 0 false
    let s := ((s.fsetB F.XSPI_STATUS_BUSY 0 false).setBusy 0x62 false)
    (s.fsetB F.XSPI_STATUS_ABANDONED 0 true).irq 0x62 1

/-- A transaction on an identity bus is abandoned (R94). -/
def State.idbAbandon (s : State) : State :=
  let s := forEach (indices 2 (fun b => (s.idb.getD b IdBus.idle).run != 0)) (fun b s =>
    let s := { s with idb := setAt IdBus.idle s.idb b IdBus.idle }
    let s := ((s.fsetB F.IDB_CMD_START b false).fsetB F.IDB_CMD_RECOVER b false).fsetB F.IDB_STATUS_BUSY b false
    (s.fsetB F.IDB_STATUS_ABANDONED b true).irq 0x63 (2 + b)) s
  s.idbBusy

/-- The safe states of D_ACQ: track, quiet serial ports and flash, held pins (R70, R94, R114, R142, R332, R481). -/
def State.acqSafe (s : State) : State :=
  let s := s.adcClockFail.uartClockFail
  let s := { s with epoch := { s.epoch with running := false, next := none } }
  let s := (s.xspiAbandon).idbAbandon
  let s := forEach (List.range 16) (fun l s => s.rlBreak l []) s
  s.ringHold.gpioFollow

/-- The safe state of D_MEM: the stacks are lost (R332, R335). -/
def State.memSafe (s : State) : State :=
  (forEach (List.range 4) (fun x s => s.trainEnd x 0) s).hbmLost

/-- The safe states of domain number `d`. -/
def State.safeState (s : State) (d : Nat) : State :=
  match d with
  | 0 => s.acqSafe
  | 2 => s.memSafe
  | 3 => s.linksOff
  | _ => s

/-- Domain of a CLKMON number. -/
def monDomain (d : Nat) : Domain := if d = 0 then .acq else if d = 1 then .ana else if d = 2 then .mem else .lnk

/-- What the fabric holds for the clocks of D_ANA to run again: held swaps and seams (R195, R234). -/
def State.laterSwaps (s : State) : State :=
  let ready (x : Nat × Word × Word) : Bool := (pageInfo (x.1 / 0x1000)).any (fun i => s.domLive i.1)
  let xs := s.basket.later.filter ready
  let s := { s with basket := { s.basket with later := s.basket.later.filter (fun x => !ready x) } }
  let s := forEach xs (fun (x : Nat × Word × Word) s =>
    match regAt x.1 with
    | some (r, n) => s.setReg r n ((s.reg r n &&& ~~~x.2.1) ||| (x.2.2 &&& x.2.1))
    | none => s) s
  forEach (List.range 18) (fun w s => s.welRefresh w) s

/-- D_ANA's clocks run again: held swaps and seams apply first (R195, R234). -/
def State.anaRestart (s : State) : State := if s.domLive .ana then s.laterSwaps.frameRestart else s

/-- Domain number `d` returns from HELD to RUN: safe states released, clocks restart (R333). -/
def State.domResume (s : State) (d : Nat) : State :=
  if s.clkState (monDomain d) ≠ 2 then s
  else
    let s := s.setClkState d 0
    match d with
    | 0 =>
      let s := (s.fsetB F.GPIO_CTRL_HELD 0 false).gpioFollow.adcResume
      let s := { s with chains := { s.chains with restart := true } }
      let s := if s.flag F.AIN_CTRL_RUN then s.startTimer true else s
      let s := s.tachThaw
      forEach (List.range 2) (fun n s => s.uartNext n) s
    | 1 => s.anaRestart
    | 2 => s.laterSwaps
    | 3 => s.laterSwaps.lnkOn false
    | _ => s

/-- The settings of the watchdogs that LOCK freezes until D_ACQ powers on (R448). -/
def State.wdFrozen (s : State) : List (Fld × Nat) :=
  (indices 5 (fun d => s.flag F.WD_CTRL_LOCK d)).flatMap (fun d =>
    [(F.WD_CTRL_LOCK, d), (F.WD_CTRL_ACTION, d), (F.WD_CTRL_EN, d), (F.WD_TIMEOUT_MS, d), (F.WD_WINDOW_MS, d)])

/-- Entry of domain number `d` to RESET: its logic and registers are reset, its SRAM is kept, and a reset of D_ACQ also
resets D_ANA (R333). The lock of the measurement log holds until D_ACQ powers off (R444), and a locked watchdog keeps its
settings and its count until D_ACQ powers on (R448). -/
def State.domReset (s : State) (d : Nat) : State :=
  let anaToo (s : State) : State :=
    if s.power.ana = .off then s else ((s.laterLost .ana).resetAna.setClkState 1 3).irq 0x04 2
  let s := (s.setClkState d 3).irq 0x04 2
  match d with
  | 0 =>
    let lock := s.flag F.BOOT_CTRL_MEAS_LOCK
    let old := s
    let s := (s.acqSafe.resetAcq).fsetB F.BOOT_CTRL_MEAS_LOCK 0 lock
    let s := { forEach old.wdFrozen (fun x s => s.fset x.1 x.2 (old.fget x.1 x.2)) s with
      wdts := old.wdts.zipIdx.map (fun (x : Watchdog × Nat) => if old.flag F.WD_CTRL_LOCK x.2 then x.1 else ⟨0, 0⟩) }
    anaToo (s.fset F.CRY_STATUS_NMEAS 0 s.crypto.log.length)
  | 1 => (s.laterLost .ana).resetAna
  | 2 => (s.laterLost .mem).memSafe.resetMem
  | _ => (s.laterLost .lnk).resetLnk

/-- The sources of domain number `d` (table "Clock monitors"); ADCREF_CLK counts for D_ACQ while it is selected, and a link PLL
while its port is enabled (DESIGN CHOICE, log entry 105). -/
def State.domSources (s : State) (d : Nat) : List Nat :=
  match d with
  | 0 => if s.flag F.CLK_SEL_ADC_REF then [3, 4, 6, 7] else [3, 4, 6]
  | 1 => [3, 17, 5]
  | 2 => [3, 8, 9, 10, 11]
  | _ => 12 :: [13, 14, 15, 16].filter (fun i => s.srcOn i)

/-- Every source of domain number `d` is READY again, with those whose failure it suffered (R333). -/
def State.waitOver (s : State) (d : Nat) : Bool :=
  (s.domSources d ++ s.clocks.wait.getD d []).all (fun i => s.isReady i)

/-- A domain whose sources are all READY again enters HELD, and resumes at once under AUTO_RESUME (R333). -/
def State.holdDomains (s : State) : State :=
  forEach (List.range 4) (fun d s =>
    if s.clkState (monDomain d) == 1 && s.waitOver d then
      let s := (s.setClkState d 2).irq 0x04 1
      if s.fbit F.CLKMON_CTRL_AUTO_RESUME 0 d then s.domResume d else s
    else s) s

/-- A source of domain number `d` fails (R332, R333): `lost` are the sources it must wait for. -/
def State.domFail (s : State) (d : Nat) (lost : List Nat) : State :=
  if s.domPower (monDomain d) = .off then s
  else
    let w := s.clocks.wait.getD d []
    let st := s.clkState (monDomain d)
    let w := (if st = 0 then [] else w) ++ lost
    let s := { s with clocks := { s.clocks with wait := setAt [] s.clocks.wait d w.eraseDups } }
    if st = 0 then ((s.safeState d).setClkState d 1).timeFollow
    else if st = 2 then s.setClkState d 1
    else s

/-- Domain numbers that a source feeds (table "Clock monitors"). -/
def srcDomains (i : Nat) : List Nat :=
  if i = 3 then [0, 1, 2]
  else if i = 4 ∨ i = 6 then [0]
  else if i = 7 then [0]
  else if i = 17 ∨ i = 5 then [1]
  else if 8 ≤ i ∧ i ≤ 11 then [2]
  else if 12 ≤ i ∧ i ≤ 16 then [3]
  else []

/-- A monitor declares source `i` failed (R331–R334), other than SENRC, whose failure restarts the device. -/
def State.clockFailed (s : State) (i : Nat) : State :=
  if !s.power.senOn || !s.srcOn i || i = 1 || i = 2 then s
  else
    let declared := if i = 3 then [3, 4, 17] else [i]
    let lost := s.withPlls declared
    let s := forEach declared (fun j s => s.fsetBit F.CLKMON_FAIL_FAIL 0 j true) s
    let s := (s.irq 0x04 0).notReady lost
    let s := if i = 0 then s.lfxoReady false else s
    forEach (srcDomains i) (fun d s => s.domFail d (lost.filter (fun j => (srcDomains j).contains d))) s

/-- Source `i` has produced its count (R321); automatic selections follow (R323). -/
def State.sourceReady (s : State) (i : Nat) : State :=
  let refOk := match s.refOf i with
    | some r => s.isReady r
    | none => true
  if !s.srcOn i || !refOk || (if i = 0 then s.bkd.lfxo else s.isReady i) then s
  else if i = 0 then s.lfxoReady true
  else
    let s := s.fsetBit F.CLK_READY_READY 0 i true
    let s := if i = 4 && s.flag F.CLK_SEL_ACQ_AUTO then s.fset F.CLK_SEL_ACQ_SEL 0 1 else s
    let s := s.holdDomains
    let s := if i = 6 then s.tachThaw.timerReady else s
    let s := if i = 3 || i = 6 then forEach (List.range 2) (fun n s => s.uartNext n) s else s
    if 12 ≤ i then forEach (List.range 4) (fun p s => s.portRefresh p) s else s

/-- RESUME bits written by S (R333). -/
def State.monResume (s : State) (m : Nat) : State :=
  forEach (indices 4 (fun d => Nat.testBit m d)) (fun d s => s.domResume d) s

/-- Domain number `d` leaves RESET (R333): a reset of D_ACQ holds D_ANA there too, and a D_ACQ start runs its partial start
(R426). -/
def State.domRelease (s : State) (d : Nat) : State :=
  if s.clkState (monDomain d) ≠ 3 || !s.waitOver d || (d = 1 && s.clkState .acq = 3) then s
  else
    let s := s.setClkState d 0
    match d with
    | 0 =>
      let s := { s with boot := { s.boot with running := true } }
      let old := s.reg .BKD_BK 1
      (s.bkPut 1 (withBits old 16 4 6)).tachThaw
    | 3 => s.lnkOn true
    | _ => s

/-- RELEASE bits written by S. -/
def State.monRelease (s : State) (m : Nat) : State :=
  forEach (indices 4 (fun d => Nat.testBit m d)) (fun d s => s.domRelease d) s

/-- CLK_FAIL_TIMEOUT has passed since the failure that moved domain number `d` out of RUN (R333). -/
def State.monTimeout (s : State) (d : Nat) : State :=
  let st := s.clkState (monDomain d)
  if st = 1 ∨ st = 2 then s.domReset d else s

/-- ANA_PG falls while ANA_EN is high: a clock-failure reset of D_ANA, recorded as a failure of SYS_B (R468, log entry 65). -/
def State.anaPgFall (s : State) : State :=
  if !s.power.anaPg then s
  else
    let s := { s with power := { s.power with anaPg := false } }
    if s.power.ana = .off || !s.power.anaEn then s
    else
      let s := { s with clocks := { s.clocks with wait := setAt [] s.clocks.wait 1 [17] } }
      ((s.fsetBit F.CLKMON_FAIL_FAIL 0 17 true).irq 0x04 0).domReset 1

/-- ANA_PG rises after ANA_EN: the switches of D_ANA close (R306, R468). -/
def State.anaPgRise (s : State) (flipped : List Nat) (found : Contents) : State :=
  if !s.power.anaEn || s.power.anaPg then s
  else
    let s := { s with power := { s.power with anaPg := true } }
    if s.power.ana = .off then s.anaOn flipped found else s

/-! ### CLKOUT (R326) -/

/-- The source, by number in CLK_READY, that CLKOUT_CFG.SRC names; none for the epoch clock. -/
def clkoutSource (sel : Nat) : Option Nat := if sel < 9 then some ([0, 1, 2, 3, 4, 17, 5, 6, 12].getD sel 0) else none

/-- The source that CLKOUT names is running: LFRC always (table "Clock sources"); another source once it is READY, and the epoch
clock while the epoch timer runs (DESIGN CHOICE, log entry 106). -/
def State.clkoutRuns (s : State) : Bool :=
  match clkoutSource (s.fget F.CLKOUT_CFG_SRC) with
  | some i => if i = 1 then s.power.senOn else s.isReady i
  | none => s.epoch.running

/-- What the CLKOUT pin carries: the value of SRC, the divisor N, and the source cycles of each output period for which the pin
is high; none while the pin is low (R326). -/
def State.clkoutPin (s : State) : Option (Nat × Nat × Nat) :=
  let n := s.fget F.CLKOUT_CFG_DIV + 1
  if s.flag F.CLKOUT_CFG_EN && s.clkoutRuns then some (s.fget F.CLKOUT_CFG_SRC, n, (n + 1) / 2) else none

/-! ### Operating points (R327–R330) -/

/-- The effective target of D_ACQ (rail 0) or D_ANA (rail 1) (R327). -/
def State.pointTarget (s : State) (rail : Nat) : Nat :=
  let cap := s.fget F.DVFS_CAP_CAP
  if rail = 1 then min (s.fget F.DVFS_TARGET_ANA) cap
  else if s.power.step = some (1, 2) ∨ s.power.step = some (3, 2) ∨ (s.mode = 2 ∧ s.power.step ≠ some (2, 0)) then 1
  else min (s.fget F.DVFS_TARGET_ACQ) cap

/-- The point in force. -/
def State.pointNow (s : State) (rail : Nat) : Nat :=
  if rail = 0 then s.fget F.DVFS_STATUS_ACQ_NOW else s.fget F.DVFS_STATUS_ANA_NOW

/-- The rail whose transition comes next: D_ACQ goes first, and the target of D_ANA is held while D_ANA is off (R327,
R328). -/
def State.pointDue (s : State) : Option Nat :=
  if s.power.acq ≠ .off ∧ s.pointTarget 0 ≠ s.pointNow 0 then some 0
  else if s.power.ana ≠ .off ∧ s.pointTarget 1 ≠ s.pointNow 1 then some 1
  else none

/-- The sequencer runs: its page is enabled and clocked, or a mode step moves D_ACQ to OP1 (R324, R330). -/
def State.dvfsRuns (s : State) : Bool := s.pageEn 0x05 || (s.power.step == some (1, 2) && s.pageClocked 0x05)

/-- The sequencer starts a transition: upward with the voltage, downward with the frequency (R328). -/
def State.dvfsStart (s : State) : State :=
  if s.clocks.dvfs.isSome || !s.dvfsRuns then s
  else
    match s.pointDue with
    | none => s
    | some rail =>
      let new := s.pointTarget rail
      let up : Bool := s.pointNow rail < new
      let s := s.fset F.PMB_AVS_SET_MV rail (s.fget F.DVFS_VOLT_MV new)
      let s := if up then s else if rail = 0 then s.fset F.DVFS_STATUS_ACQ_NOW 0 new else s.fset F.DVFS_STATUS_ANA_NOW 0 new
      { s with clocks := { s.clocks with dvfs := some (rail, new, up) } }.setBusy 0x05 true

/-- A transition ends: the read frame returned `mv`, or the regulator gave no answer or an alert (R328, R329). -/
def State.dvfsDone (s : State) (answers alert : Bool) (mv : Nat) : State :=
  match s.clocks.dvfs with
  | none => s
  | some (rail, new, up) =>
    if !(s.pageLive 0x05 || s.dvfsRuns) then s else
    let s := { s with clocks := { s.clocks with dvfs := none } }.setBusy 0x05 false
    let s := if answers then s.fset F.PMB_AVS_READ_MV rail mv else s
    let want := s.fget F.DVFS_VOLT_MV new
    let ok := answers && !alert && decide (mv ≤ want + 20 ∧ want ≤ mv + 20)
    let s :=
      if ok then
        if up then (if rail = 0 then s.fset F.DVFS_STATUS_ACQ_NOW 0 new else s.fset F.DVFS_STATUS_ANA_NOW 0 new) else s
      else
        let now := s.pointNow rail
        let s := { s with power := { s.power with
          opFail := s.power.opFail || (s.power.step == some (1, 2) && rail == 0 && new == 1) } }
        let s := ((s.fsetB F.DVFS_STATUS_FAULT 0 true).fset F.DVFS_STATUS_FAULT_RAIL 0 rail).irq 0x05 1
        let s := if rail = 0 then s.fset F.DVFS_TARGET_ACQ 0 now else s.fset F.DVFS_TARGET_ANA 0 now
        if up then s.fset F.PMB_AVS_SET_MV rail (s.fget F.DVFS_VOLT_MV now) else s
    s.irq 0x05 0

/-- DVFS_TARGET has been written: CAPPED when a written point exceeds CAP (R327). -/
def State.dvfsWritten (s : State) : State :=
  let cap := s.fget F.DVFS_CAP_CAP
  if cap < s.fget F.DVFS_TARGET_ACQ ∨ cap < s.fget F.DVFS_TARGET_ANA then
    (s.fsetB F.DVFS_STATUS_CAPPED 0 true).irq 0x05 2
  else s

/-! ### PMBus (R336) -/

/-- START has been written: a transaction runs. -/
def State.pmbBegin (s : State) : State := { s with clocks := { s.clocks with pmb := true } }.setBusy 0x64 true

/-- The transaction ends. A read leaves its data in PMB_DATA. -/
def State.pmbEnd (s : State) (data : BitVec 16) (nack pecErr : Bool) : State :=
  if !s.clocks.pmb then s
  else
    let s := { s with clocks := { s.clocks with pmb := false } }.setBusy 0x64 false
    let s := s.fsetB F.PMB_CMD_START 0 false
    let rd := s.flag F.PMB_CMD_READ
    let len := s.fget F.PMB_CMD_LEN
    let s := if nack then s.fsetB F.PMB_STATUS_NACK 0 true
      else
        let s := if rd && len != 0 then
            s.fset F.PMB_DATA_DATA 0 (if len = 1 then data.toNat % 256 else data.toNat)
          else s
        if rd && pecErr && s.flag F.PMB_CFG_PEC then s.fsetB F.PMB_STATUS_PEC_ERR 0 true else s
    (s.fsetB F.PMB_STATUS_DONE 0 true).irq 0x64 0

end Sys2Proof.Machine
end

