-- ==== Sys2Proof/Machine/Flash.lean ====
section
/-!
DEFINITION. The flash with its header and bundles, the flash controller, the crypto engine and the fuses (R427–R440,
R444, R445).
-/

namespace Sys2Proof.Machine

/-! ### The flash (R427–R430, R433, R457) -/

/-- A byte of the flash; erased bytes are 0xFF. -/
def State.flashByte (s : State) (a : Nat) : Byte := ~~~(memGet s.flash a)

/-- Bytes of the flash. -/
def State.flashBytes (s : State) (a n : Nat) : List Byte := (List.range n).map (fun i => s.flashByte (a + i))

/-- A little-endian number in the flash. -/
def State.flashNum (s : State) (a n : Nat) : Nat := ofLeBytes (s.flashBytes a n)

/-- Set bytes of the flash. -/
def State.flashPut (s : State) (a : Nat) (bs : List Byte) : State :=
  { s with flash := memPuts s.flash a (bs.map (fun b => ~~~b)) }

/-- A copy of the flash header is valid (R427). -/
def State.headerOk (s : State) (a : Nat) : Bool :=
  s.flashNum a 4 == 0x464B4C47 && s.flashNum (a + 4) 1 == 1 && crc32c (s.flashBytes a 0x3C) == s.flashNum (a + 0x3C) 4

/-- The copy that governs, if one is valid. -/
def State.header (s : State) : Option Nat :=
  let a := s.headerOk 0
  let b := s.headerOk 0x1000
  if a && b then some (if s.flashNum 0x1008 4 > s.flashNum 8 4 then 0x1000 else 0)
  else if a then some 0 else if b then some 0x1000 else none

/-- Write the header with the given fields (offset, bytes) changed, into the copy that does not govern (R428). -/
def State.headerWrite (s : State) (fields : List (Nat × List Byte)) : State :=
  match s.header with
  | none => s
  | some h =>
    let other := 0x1000 - h
    let put (bs : List Byte) (o : Nat) (x : List Byte) : List Byte := bs.take o ++ x ++ bs.drop (o + x.length)
    let bs := fields.foldl (fun bs f => put bs f.1 f.2) (s.flashBytes h 0x3C)
    let bs := put bs 8 (leBytes 4 (s.flashNum (h + 8) 4 + 1))
    s.flashPut other (bs ++ leBytes 4 (crc32c bs))

/-- Offset of slot 0 A or 1 B in the flash. -/
def State.slotBase (s : State) (h slot : Nat) : Nat := s.flashNum (h + 0x10 + 4 * slot) 4

/-- Number of sections of the manifest at `m`. -/
def State.sections (s : State) (m : Nat) : Nat := s.flashNum (m + 6) 2

/-- Section `i` of the manifest at `m`: TYPE, FLAGS, OFFSET, SIZE, LOAD. -/
def State.sect (s : State) (m i : Nat) : Nat × Nat × Nat × Nat × Nat :=
  let a := m + 0x18 + 48 * i
  (s.flashNum a 2, s.flashNum (a + 2) 2, s.flashNum (a + 4) 4, s.flashNum (a + 8) 4, s.flashNum (a + 12) 4)

/-- The stated digest of section `i`. -/
def State.sectDigest (s : State) (m i : Nat) : List Byte := s.flashBytes (m + 0x18 + 48 * i + 16) 32

/-- The bytes of section `i` of the bundle at `m`. -/
def State.sectBytes (s : State) (m i : Nat) : List Byte :=
  let x := s.sect m i
  s.flashBytes (m + x.2.2.1) x.2.2.2.1

/-- Length of the manifest before the public key. -/
def State.manifestHead (s : State) (m : Nat) : Nat := 0x18 + 48 * s.sections m

/-- Section TYPE `t` is allowed in FORMAT `f` (table "Section types"). -/
def typeAllowed (f t : Nat) : Bool := if t < 1 then false else if t ≤ 5 then true else if t ≤ 7 then 2 ≤ f else t == 8 && f == 3

/-- A number from big-endian bytes (R429). -/
def ofBeBytes (bs : List Byte) : Nat := ofLeBytes bs.reverse

/-- Number of bits of a number of at most `n` bits. -/
def bitLength : Nat → Nat → Nat
  | 0, _ => 0
  | n + 1, x => if Nat.testBit x n then n + 1 else bitLength n x

/-- `n` bytes of the mask generation function MGF1 with SHA-256. -/
def mgf1 (seed : List Byte) (n : Nat) : List Byte :=
  ((List.range ((n + 31) / 32)).flatMap (fun i => sha256 (seed ++ (leBytes 4 i).reverse))).take n

/-- RSASSA-PSS with SHA-256, MGF1 and a 32-byte salt, public exponent 65537 (R429): `hash` is the SHA-256 of the
message. -/
def pssVerify (hash modulus sig : List Byte) : Bool :=
  let n := ofBeBytes modulus
  let x := ofBeBytes sig
  let emBits := bitLength (8 * modulus.length) n - 1
  let emLen := (emBits + 7) / 8
  if n ≤ x ∨ emLen < 66 then false
  else
    let m := ((List.range 16).foldl (fun y _ => y * y % n) x) * x % n
    if 256 ^ emLen ≤ m then false
    else
      let em := (leBytes emLen m).reverse
      let db := em.take (emLen - 33)
      let h := (em.drop (emLen - 33)).take 32
      let spare := 8 * emLen - emBits
      let plain := List.zipWith (fun (a b : Byte) => a ^^^ b) db (mgf1 h (emLen - 33))
      let first := BitVec.ofNat 8 ((plain.headD 0#8).toNat % 2 ^ (8 - spare))
      let plain := first :: plain.drop 1
      let pad := plain.take (emLen - 66)
      let salt := plain.drop (emLen - 65)
      em.getD (emLen - 1) 0#8 == 0xBC#8 && decide ((db.headD 0#8).toNat < 2 ^ (8 - spare)) &&
        pad.all (fun b => b == 0#8) && plain.getD (emLen - 66) 0#8 == 1#8 &&
        sha256 (List.replicate 8 0#8 ++ hash ++ salt) == h

/-- A slot of key hashes is usable (R431). -/
def Fuses.usable (f : Fuses) (n : Nat) : Bool := n < 4 && Nat.testBit f.programmed n && !Nat.testBit f.revoked n

/-- The hash in a key slot, as bytes. -/
def Fuses.key (f : Fuses) (n : Nat) : List Byte := (f.keys.getD n []).flatMap (fun w => leBytes 4 w.toNat)

/-- The first check of R430 that the manifest at `m` fails, in a slot of `size` bytes; 0 when it passes. -/
def State.manifestCheck (s : State) (m size : Nat) : Nat :=
  let f := s.flashNum (m + 4) 1
  let n := s.sections m
  let zeros := s.flashNum (m + 9) 1 == 0 && s.flashNum (m + 12) 4 == 0 && (f == 3 || s.flashNum (m + 10) 2 == 0)
  let sects := (List.range n).all (fun i =>
    let x := s.sect m i
    typeAllowed f x.1 && decide (x.2.2.1 + x.2.2.2.1 ≤ size))
  let head := s.manifestHead m
  let modulus := s.flashBytes (m + head) 384
  let slot := s.flashNum (m + 5) 1
  if !(s.flashNum m 4 == 0x424B4C47 && 1 ≤ f && f ≤ 3 && zeros && 1 ≤ n && n ≤ 24 && sects) then 1
  else if !(s.fuses.usable slot && s.fuses.key slot == sha256 modulus) then 2
  else if !pssVerify (sha256 (s.flashBytes m (head + 384))) modulus (s.flashBytes (m + head + 384) 384) then 3
  else if s.flashNum (m + 8) 1 < s.fuses.rollback then 4
  else 0

/-- Every section of the bundle has the digest that the manifest states. -/
def State.digestsOk (s : State) (m : Nat) : Bool :=
  (List.range (s.sections m)).all (fun i => sha256 (s.sectBytes m i) == s.sectDigest m i)

/-! ### Reading and writing SRAM by a block of D_ACQ -/

/-- The addresses from `a` on that a block can reach without a bus error, at most `n`: all in one SRAM that is powered. -/
def State.sramReach (s : State) (a n : Nat) : Nat :=
  match sramOf a with
  | none => 0
  | some (d, o) => if s.domLive (sramDomain d) && !(d == 0 && s.senRests) then min n (sramBanks d * 65536 - o) else 0

/-- The crypto engine's access at `a` finds no live SRAM there: a bus error, logged as DOMAIN_OFF for an SRAM whose domain is off
or stopped and as UNMAPPED for any other address (R23, R24). -/
def State.blockErr (s : State) (a : Nat) (write : Bool) : State :=
  s.logBusErr a write (blockSource 0x68) (if (sramOf a).isSome then 2 else 1)

/-- `n` bytes at `a` for the crypto engine: 1 a bus error, which is logged in SYS; 2 a length that runs out of the memory. -/
def State.blockRead (s : State) (a n : Nat) : State × Except Nat (List Byte) :=
  if s.sramReach a 1 = 0 then (s.blockErr a false, .error 1)
  else if s.sramReach a n < n then (s, .error 2)
  else
    let (s, bad) := s.sramRead a n
    if bad then (s.logBusErr a false (blockSource 0x68) 6, .error 1) else (s, .ok (s.bytes a n))

/-! ### The flash controller (R437–R439) -/

/-- An operation or a poll ends. -/
def State.xspiEnd (s : State) : State :=
  let s := { s with xspi := { s.xspi with run := 0 } }
  let s := (s.fsetB F.XSPI_CMD_START 0 false).fsetB F.XSPI_CMD_POLL 0 false
  let s := (s.fsetB F.XSPI_STATUS_BUSY 0 false).setBusy 0x62 false
  (s.fsetB F.XSPI_STATUS_DONE 0 true).irq 0x62 0

/-- START (1) or POLL (2) has been written. -/
def State.xspiBegin (s : State) (run : Nat) : State :=
  let s := { s with xspi := { s.xspi with run := run } }
  let s := if run = 2 then s.fset F.XSPI_STATUS_POLLS 0 0 else s
  (s.fsetB F.XSPI_STATUS_BUSY 0 true).setBusy 0x62 true

/-- The data registers take the first bytes of a read. -/
def State.xspiData (s : State) (bs : List Byte) : State :=
  let put (s : State) (b : Nat) : State :=
    s.setReg .XSPI_DATA (b / 4) (withBits (s.reg .XSPI_DATA (b / 4)) (8 * (b % 4)) 8 (bs.getD b 0#8).toNat)
  forEach (List.range bs.length) (fun b s => put s b) s

/-- A DMA access of the XSPI unit gets a bus error: the command ends there (R439). -/
def State.xspiStop (s : State) : State := (s.fsetB F.XSPI_STATUS_BUS_ERR 0 true).irq 0x62 1

/-- What the flash controller moves at the end of an operation: to XSPI_DATA, from SRAM at `a`, or to SRAM, where `reach` of
`len` bytes lie before a bus error; nothing is logged in SYS (R437, R439). -/
def State.xspiMove (s : State) (bs : List Byte) (a len reach : Nat) : State :=
  if len = 0 then s
  else if s.flag F.XSPI_CMD_DATA_REG then (if s.flag F.XSPI_CMD_WRITE then s else s.xspiData bs)
  else if s.flag F.XSPI_CMD_WRITE then
    let r := s.sramRead a reach
    if r.2 || reach < len then r.1.xspiStop else r.1
  else
    let s := if reach = 0 then s else s.sramOwnWrite (blockSource 0x62) a (bs.take reach)
    if reach < len then s.xspiStop else s

/-- The bytes of the command phase: OPCODE, and in 8D-8D-8D its extension, which is its complement under EXT_INV (R437). -/
def State.xspiCommand (s : State) : List Byte :=
  let op := BitVec.ofNat 8 (s.fget F.XSPI_CMD_OPCODE)
  if s.fget F.XSPI_CFG_MODE = 3 then [op, if s.flag F.XSPI_CFG_EXT_INV then ~~~op else op] else [op]

/-- The bytes of the address phase, most significant first: four under ADDR4, else three; none without ADDR_EN (R437). -/
def State.xspiAddress (s : State) : List Byte :=
  if s.flag F.XSPI_CMD_ADDR_EN then
    (leBytes (if s.flag F.XSPI_CFG_ADDR4 then 4 else 3) (s.reg .XSPI_ADDR).toNat).reverse
  else []

/-- The bytes of XSPI_DATA0 and XSPI_DATA1. -/
def State.xspiDataBytes (s : State) : List Byte := (List.range 2).flatMap (fun k => leBytes 4 (s.reg .XSPI_DATA k).toNat)

/-- The bytes of the data phase of an operation of which `reach` bytes lie before a bus error: what the flash drove, `bs`, or what
the controller sends, from XSPI_DATA or from SRAM at `a` (R437, R439). -/
def State.xspiPhase (s : State) (bs : List Byte) (a len reach : Nat) : List Byte :=
  if s.flag F.XSPI_CMD_DATA_REG then (if s.flag F.XSPI_CMD_WRITE then s.xspiDataBytes else bs).take len
  else if s.flag F.XSPI_CMD_WRITE then s.bytes a reach else bs.take reach

/-- The phases of one operation pass over the bus (R437). -/
def State.xspiSend (s : State) (bs : List Byte) (a len reach : Nat) : State :=
  let op : XspiOp := ⟨s.flag F.XSPI_CMD_CS, s.fget F.XSPI_CFG_MODE, s.xspiCommand, s.xspiAddress, s.fget F.XSPI_CFG_DUMMY,
    s.flag F.XSPI_CMD_WRITE, s.xspiPhase bs a len reach⟩
  { s with xspi := { s.xspi with out := some op } }

/-- The controller runs, and a read has driven the bytes of its data phase. -/
def State.xspiRuns (s : State) (bs : List Byte) : Bool :=
  s.pageEn 0x62 && s.adcClock && (s.flag F.XSPI_CMD_WRITE || decide (s.fget F.XSPI_LEN_LEN ≤ bs.length))

/-- The chip select is deasserted: `bs` is what the flash drove in the data phase of a read, `changed` what the operation
changed in the flash on XSPI_CS0_N; what its opcodes do is the flash's own (log entry 67). -/
def State.xspiDone (s : State) (bs : List Byte) (changed : List (Nat × Byte)) : State :=
  if s.xspi.run ≠ 1 then s
  else
    let len := s.fget F.XSPI_LEN_LEN
    let a := s.get64 .XSPI_BUF_LO .XSPI_BUF_HI
    if !s.xspiRuns bs then s
    else
      let s := if s.flag F.XSPI_CMD_CS then s else forEach changed (fun c s => s.flashPut c.1 [c.2]) s
      let reach := s.sramReach a len
      ((s.xspiSend bs a len reach).xspiMove (bs.take len) a len reach).xspiEnd

/-- A read of a poll: `bs` is what the flash drove (R438). -/
def State.xspiPollRead (s : State) (bs : List Byte) : State :=
  if s.xspi.run ≠ 2 || !s.xspiRuns bs then s
  else
    let len := s.fget F.XSPI_LEN_LEN
    let a := s.get64 .XSPI_BUF_LO .XSPI_BUF_HI
    let reach := s.sramReach a len
    let stop := !s.flag F.XSPI_CMD_DATA_REG && decide (reach < len)
    let s := ((s.xspiSend bs a len reach).xspiMove (bs.take len) a len reach).faddSat F.XSPI_STATUS_POLLS 0 1
    match bs.take len with
    | [] => if stop then s.xspiEnd else s
    | b :: rest =>
      let s := s.fset F.XSPI_STATUS_LAST_POLL 0 (rest.getLastD b).toNat
      if stop || b.toNat &&& s.fget F.XSPI_POLL_MASK == s.fget F.XSPI_POLL_MATCH then s.xspiEnd else s

/-- The poll limit has passed (R438). -/
def State.xspiPollTimeout (s : State) : State :=
  if s.xspi.run ≠ 2 || !(s.pageEn 0x62 && s.adcClock) then s else ((s.xspiEnd).fsetB F.XSPI_STATUS_TIMEOUT 0 true).irq 0x62 1

/-! ### The crypto engine (R444, R445) -/

/-- CRY_DIGEST0–CRY_DIGEST7 as bytes. -/
def State.cryDigest (s : State) : List Byte := (List.range 8).flatMap (fun k => leBytes 4 (s.reg .CRY_DIGEST k).toNat)

/-- Put a digest into CRY_DIGEST. -/
def State.putDigest (s : State) (d : List Byte) : State :=
  forEach (List.range 8) (fun k s => s.setReg .CRY_DIGEST k (BitVec.ofNat 32 (ofLeBytes ((d.drop (4 * k)).take 4)))) s

/-- Append to the measurement log, or say that it may not be (R444). -/
def State.measure (s : State) (typ idx : Nat) (d : List Byte) : Option State :=
  if s.flag F.BOOT_CTRL_MEAS_LOCK || 32 ≤ s.crypto.log.length then none
  else
    let s := { s with crypto := { s.crypto with log := s.crypto.log ++ [(typ, idx, d)] } }
    some (s.fset F.CRY_STATUS_NMEAS 0 s.crypto.log.length)

/-- The device identifier as bytes. -/
def Fuses.uidBytes (f : Fuses) : List Byte := f.uid.flatMap (fun w => leBytes 4 w.toNat)

/-- The bytes of an attestation report that are signed (R445). -/
def State.report (s : State) (nonce : List Byte) : List Byte :=
  let b (f : Fld) (k : Nat) : Nat := if s.flag f then k else 0
  let flags := b F.BOOT_STATUS_SLOT 1 + b F.BOOT_STATUS_FELL_BACK 2 + b F.BOOT_STATUS_UNSIGNED 4 + b F.BOOT_STATUS_DEGRADED 8
  leBytes 4 0x414B4C47 ++ leBytes 1 1 ++ leBytes 1 s.fuses.life ++ leBytes 1 flags ++ leBytes 1 s.devid ++
    leBytes 1 s.fuses.rollback ++ leBytes 1 0 ++ leBytes 2 s.crypto.log.length ++ leBytes 4 0 ++ s.fuses.uidBytes ++
    nonce ++ leBytes 8 s.tick ++ leBytes 8 0 ++
    s.crypto.log.flatMap (fun x => leBytes 2 x.1 ++ leBytes 2 x.2.1 ++ x.2.2)

/-- A crypto command starts. -/
def State.cryBegin (s : State) (cmd : Nat) : State := { s with crypto := { s.crypto with cmd := some cmd } }.setBusy 0x68 true

/-- What command `cmd` does at its end: the machine and ERR. -/
def State.cryRun (s : State) (cmd : Nat) : State × Nat :=
  let src := s.get64 .CRY_SRC_LO .CRY_SRC_HI
  let dst := s.get64 .CRY_DST_LO .CRY_DST_HI
  if cmd = 1 then
    match s.blockRead src (s.fget F.CRY_LEN_LEN) with
    | (s, .ok bs) => (s.putDigest (sha256 bs), 0)
    | (s, .error e) => (s, e)
  else if cmd = 2 then
    match s.blockRead src 768 with
    | (s, .ok bs) =>
      let ok := pssVerify s.cryDigest (bs.take 384) (bs.drop 384)
      let s := { s with crypto := { s.crypto with passed := if ok then some (s.cryDigest, sha256 (bs.take 384)) else none } }
      (s.fsetB F.CRY_STATUS_OK 0 ok, 0)
    | (s, .error e) => ({ s with crypto := { s.crypto with passed := none } }.fsetB F.CRY_STATUS_OK 0 false, e)
  else if cmd = 3 then
    match s.measure (s.fget F.CRY_MTYPE_TYPE) (s.fget F.CRY_MTYPE_INDEX) s.cryDigest with
    | some s => (s, 0)
    | none => (s, 3)
  else
    if !s.flag F.BOOT_CTRL_MEAS_LOCK || s.fuses.life == 2 then (s, 4)
    else
      match s.blockRead src 32 with
      | (s, .error e) => (s, e)
      | (s, .ok nonce) =>
        let body := s.report nonce
        let sig := (List.range 384).map (fun i => Config.attestByte s.crypto.signed i)
        let n := body.length + 384
        if s.sramReach dst 1 = 0 then (s.blockErr dst true, 1)
        else if s.sramReach dst n < n then (s, 2)
        else
          let s := s.sramOwnWrite (blockSource 0x68) dst (body ++ sig)
          ({ s with crypto := { s.crypto with signed := s.crypto.signed + 1 } }, 0)

/-- The running crypto command ends. -/
def State.cryDone (s : State) : State :=
  match (if s.pageEn 0x68 then s.crypto.cmd else none) with
  | none => s
  | some cmd =>
    let (s, e) := { s with crypto := { s.crypto with cmd := none } }.cryRun cmd
    let s := (s.fset F.CRY_STATUS_ERR 0 e).setBusy 0x68 false
    (s.fsetB F.CRY_STATUS_DONE 0 true).irq 0x68 0

/-! ### The fuses (R431, R432) -/

/-- A burn starts with the data that stand in FUSE_PDATA. -/
def State.fuseBegin (s : State) (op slot : Nat) : State :=
  if s.fuses.burn.isSome then s
  else { s with fuses := { s.fuses with
      burn := some (op, slot, (List.range 8).map (fun k => s.reg .FUSE_PDATA k)) } }.setBusy 0x69 true

/-- The last VERIFY gives authority for RMA (R432). -/
def State.rmaAuthority (s : State) : Bool :=
  match s.crypto.passed with
  | none => false
  | some (d, k) =>
    d == sha256 ([0x52#8, 0x4D#8, 0x41#8] ++ s.fuses.uidBytes) &&
      (List.range 4).any (fun n => s.fuses.usable n && s.fuses.key n == k)

/-- Why the burn OP on SLOT is refused (FUSE_STATUS.REASON), 0 when it is not. -/
def State.burnRefused (s : State) (op slot : Nat) : Nat :=
  let f := s.fuses
  if op = 1 then (if Nat.testBit f.programmed slot then 4 else 0)
  else if op = 2 then (if (List.range 4).any (fun n => n != slot && f.usable n) then 0 else 1)
  else if op = 4 then (if f.life ≠ 0 then 4 else if (List.range 4).any (fun n => f.usable n) then 0 else 2)
  else if op = 5 then (if f.life = 2 then 4 else if f.life = 1 && s.rmaAuthority then 0 else 3)
  else 0

/-- The burn in progress ends: DONE, or REFUSED with its reason. -/
def State.fuseDone (s : State) : State :=
  match (if s.pageEn 0x69 then s.fuses.burn else none) with
  | none => s
  | some (op, slot, data) =>
    let s := { s with fuses := { s.fuses with burn := none } }.setBusy 0x69 false
    let why := s.burnRefused op slot
    let s := s.fset F.FUSE_STATUS_REASON 0 why
    if why ≠ 0 then s.fsetB F.FUSE_STATUS_REFUSED 0 true
    else
      let f := s.fuses
      let f := match op with
        | 1 => { f with keys := f.keys.set slot data, programmed := f.programmed ||| 2 ^ slot }
        | 2 => { f with revoked := f.revoked ||| 2 ^ slot }
        | 3 => { f with rollback := max f.rollback (min 64 ((data.headD 0#32).toNat % 128)) }
        | 4 => { f with life := 1 }
        | _ => { f with life := 2 }
      (({ s with fuses := f }).fsetB F.FUSE_STATUS_DONE 0 true).irq 0x69 0

end Sys2Proof.Machine
end

