-- ==== Sys2Proof/Machine/Boot.lean ====
section
/-!
DEFINITION. Start-up: the boot step record, the failure policy, the sixteen steps as the ROMs make them, device restarts, mend
mode and the watchdogs (R308, R418–R426, R433, R441–R443, R446, R447, R467).
-/

namespace Sys2Proof.Machine

/-! ### The boot step record (R422) -/

/-- Bits `[lo + w - 1 : lo]` of BKb, b = 0–7. -/
def State.recGet (s : State) (b lo w : Nat) : Nat := bits (s.reg .BKD_BK (b / 4)) (8 * (b % 4) + lo) w

/-- Write bits of BKb. -/
def State.recPut (s : State) (b lo w x : Nat) : State :=
  s.bkPut (b / 4) (withBits (s.reg .BKD_BK (b / 4)) (8 * (b % 4) + lo) w x)

/-- The record is all zero. -/
def State.recZero (s : State) : Bool := s.reg .BKD_BK 0 == 0#32 && s.reg .BKD_BK 1 == 0#32

/-- A flag makes the ROM treat the record as empty (R339). -/
def State.recDistrust (s : State) : Bool :=
  s.flag F.BKD_STATUS_TIME_LOST || s.flag F.BKD_STATUS_OSC_STOPPED || s.flag F.BKD_STATUS_BK_CRC_BAD

/-- The FAIL bit of step `st`. -/
def State.recFail (s : State) (st : Nat) : Bool := s.recGet (2 + (st - 1) / 8) ((st - 1) % 8) 1 == 1

/-- Write the FAIL bit of step `st`. -/
def State.recFailPut (s : State) (st : Nat) (b : Bool) : State :=
  s.recPut (2 + (st - 1) / 8) ((st - 1) % 8) 1 (if b then 1 else 0)

/-- Where the record holds the variant of step `st` (byte, bit, width), and the last variant. -/
def variantOf (st : Nat) : Option (Nat × Nat × Nat × Nat) :=
  if st = 7 then some (4, 0, 2, 3)
  else if st = 12 then some (4, 2, 2, 2)
  else if st = 13 then some (4, 4, 2, 2)
  else if st = 14 then some (4, 6, 2, 2)
  else if st = 10 then some (5, 0, 1, 1)
  else if st = 15 then some (5, 1, 1, 1)
  else none

/-- The variant of step `st` in the record. -/
def State.variant (s : State) (st : Nat) : Nat :=
  match variantOf st with
  | some (b, lo, w, last) => min last (s.recGet b lo w)
  | none => 0

/-- What the ROM does after a failed step (R421). -/
inductive AfterFail where
  | goOn | restart | hold | mend
deriving DecidableEq, Repr

/-- The other slot, or mend mode when that has been tried (R421, R425). -/
def State.fallback (s : State) : State × AfterFail :=
  if s.recGet 5 3 1 = 1 then (s, .mend)
  else ((s.recPut 5 2 1 (1 - s.recGet 5 2 1)).recPut 5 3 1 1, .restart)

/-- Step `st` is counted as failed: the record, and what follows (table "Failure policy"). Steps 3 to 5 hold when the step has
failed at its last attempt too and MISSES counts three starts before this one (DEDUCED, log entry 69). -/
def State.stepFail (s : State) (st : Nat) (integrity : Bool) : State × AfterFail :=
  let again := s.recFail st
  let s := s.recFailPut st true
  let spent : State × AfterFail :=
    if 3 ≤ st ∧ st ≤ 5 then
      (if again && s.recGet 7 4 2 == 3 then (s.recPut 7 0 4 (min 15 (s.recGet 7 0 4 + 1)), .hold) else (s, .restart))
    else if st = 6 ∨ st = 7 then (s, .mend)
    else if st = 8 ∨ st = 9 ∨ st = 11 ∨ st = 16 then s.fallback
    else if 12 ≤ st ∧ st ≤ 14 then (s.recPut 5 (4 + (st - 12)) 1 1, .restart)
    else if st = 10 ∨ st = 15 then (s, .goOn)
    else (s, .restart)
  if integrity ∧ st = 7 then (s, .mend)
  else if integrity ∧ st = 14 then s.fallback
  else
    match variantOf st with
    | some (b, lo, w, last) =>
      let v := s.variant st
      if v < last then (s.recPut b lo w (v + 1), .restart) else spent
    | none => spent

/-! ### Power-on and restart (R308, R419, R467) -/

/-- The logic of D_SEN is reset and every domain that it switches is off. -/
def State.senReset (s : State) : State :=
  let s := (((s.switchOff .ana).switchOff .lnk).switchOff .mem).switchOff .acq
  let s := (((s.dropSram 0).dropSram 1).dropSram 2).hbmLost.forget (fun a => inPriv 0 a)
  let s := (s.resetPages .sen).bkdThaw
  let s := { s with
    router := Router.reset, power := { Power.reset with pfwPin := s.power.pfwPin, ring := s.power.ring }, darn := Darn.reset,
    clocks := Clocks.reset, bkd := { s.bkd with meas := none }, boot := Boot.reset, held := [], checks := [],
    lines := { s.lines with hbm := List.replicate 4 HbmStack.reset } }
  let s := s.coreZero 0
  s.lfxoReady s.bkd.lfxo

/-- The registers of the measurement unit take their reset values at each D_SEN power-on (R345, R353). -/
def State.measReset (s : State) : State := { s with regs := s.regs.filter (fun kv => !measRegs.contains kv.1) }

/-- A device restart with its cause (R419): RST_CAUSE survives; the DEVID pins are sampled again with the levels that they have,
and the I/O ring is no part of D_SEN. -/
def State.restart (s : State) (cause : Nat) : State :=
  let straps := s.reg .SYS_STRAPS
  let s := (s.acqSafe).senReset.measReset
  (s.setReg .SYS_STRAPS 0 straps).fset F.RST_CAUSE_CAUSE 0 cause

/-- The record of a wake from Midnight, or of the return of main power (R308–R311, R352): MAIN_UP is always pending, and it is
the source when the supply had failed or nothing else was latched. -/
def State.powerOnWake (s : State) : State :=
  let (mask, tick, replayed) := s.bkd.wake.getD (0, s.tick, false)
  let codes := indices 32 (fun c => mask.testBit c)
  let src := if s.bkd.fell then 17 else codes.headD 17
  let multi := decide (1 < codes.length) || (s.bkd.fell && codes != [])
  let s := { s with bkd := { s.bkd with wake := none, fell := false } }
  let s := s.setReg .WAKE_PEND 0 (s.reg .WAKE_PEND ||| BitVec.ofNat 32 (mask ||| 2 ^ 17))
  s.wakeDeliver (wakeRecord replayed multi 4 0 src tick) tick replayed

/-- D_SEN powers on (R31, R467), with the straps `devid`: the banks of `vio` detect 3.3 V (R464), and the flash describes the
protocols of `modes` (R440). -/
def State.senPowerOn (s : State) (devid vio modes : Nat) : State :=
  let was := s.power.senOn
  let s := s.senReset.measReset
  let s := s.fset F.SYS_STRAPS_DEVID 0 devid
  let s := s.fsetB F.SYS_STRAPS_DEVID_BAD 0 (decide (24 ≤ devid))
  let s := forEach gpioKept (fun (x : Reg × Nat) s => s.setReg x.1 x.2 (x.1.reset x.2)) s
  let s := { s with
    power := { s.power with ring := { Ring.reset with vio := vio, ext := s.power.ring.ext } },
    xspi := { s.xspi with modes := modes } }
  let s := if was then s else s.powerOnWake
  (s.fsetB F.BKD_CTRL_CRC_CHECK 0 true).bkdBusy.gpioFollow

/-- Main power fails without the step into Midnight: everything outside D_BK is lost (R308, R345). -/
def State.senLost (s : State) : State :=
  if !s.power.senOn then s
  else
    let stepping : Bool := s.power.step == some (3, 4)
    let fell : Bool := s.bkd.fell || !(s.mode == 4 || stepping)
    let s := s.measAbort.senReset
    let s := { s with bkd := { s.bkd with fell := fell } }
    let s := if stepping then s.fsetB F.BKD_MIDWAKE_MAIN_EN 0 s.bkd.wake.isSome else s
    ({ s with power := { s.power with senOn := false }, boot := { s.boot with copying := [] } }).bkdSubst

/-! ### Mend mode (R441) -/

/-- Port `p` trains as in step 13: up to the generation of its variant (R420, R441). -/
def State.portTrain (s : State) (p : Nat) : State :=
  ((s.fsetB F.PAGE_CTRL_EN (0x58 + p) true).fset F.PZL_CFG_MAX_GEN p (3 - s.variant 13)).portRefresh p

/-- Mend mode begins. -/
def State.enterMend (s : State) : State :=
  let s := if s.power.ana = .off then s else (s.switchOff .ana).dropSram 2
  let s := if s.power.mem = .off then s else s.switchOff .mem
  let s := if s.power.lnk = .off then (s.setPower .lnk .on).lnkOn true else s
  let s := { s with mend := { Mend.reset with on := true }, boot := { s.boot with running := false } }
  let s := (s.recPut 1 6 1 1).fset F.BOOT_STATUS_STEP 0 0x1F
  let s := s.fsetB F.WD_CTRL_EN 0 false
  let s := s.fsetB F.PAGE_CTRL_EN 0x60 true
  let s := (s.setReg .UART_BAUD 0 (Reg.reset .UART_BAUD 0)).setReg .UART_CFG 0 0#32
  let s := s.fset F.UART_CFG_DBITS 0 1
  let s := (s.fsetB F.UART_CTRL_RX_EN 0 true).fsetB F.UART_CTRL_TX_EN 0 true
  s.portTrain 0

/-- S is parked with D_ACQ off (R421). -/
def State.parkS (s : State) : State :=
  let s := if s.power.acq = .off then s else (s.switchOff .acq).dropSram 1
  { s with boot := { s.boot with parked := true, copying := [] } }

/-- The ROM acts on a failed step. -/
def State.afterFail (s : State) : AfterFail → State
  | .goOn => s
  | .restart => s.restart 5
  | .hold => s.parkS
  | .mend => s.enterMend

/-! ### Steps 1 to 5, by S (R420, R422, R424) -/

/-- Step 2: the CRC check, and on a trusted or an empty record R424, MISSES, DONE, STARTS and START_CAUSE (R339, R350). What R421
asks for after a step that stopped follows the updates: a restart, or HOLD; mend mode is asked for with MEND_REQ, which step 8
reads. -/
def State.backupStep (s : State) : State × AfterFail :=
  let s := s.bkCheck
  let s := if s.recDistrust && !s.recZero then (s.bkPut 0 0#32).bkPut 1 0#32 else s
  let empty := s.recZero
  let cause := s.fget F.RST_CAUSE_CAUSE
  let st := s.recGet 1 0 5
  let stopped := !empty && s.recGet 1 5 1 == 0 && 1 ≤ st && st ≤ 16 && !s.recFail st
  let (s, act) := if stopped && cause != 0 then s.stepFail st (st == 16) else (s, AfterFail.goOn)
  let s := if act = .mend then s.recPut 5 7 1 1 else s
  let s :=
    if empty then s
    else if s.recGet 1 5 1 = 1 then s.recPut 7 4 2 0
    else if stopped && cause == 0 then s
    else s.recPut 7 4 2 (min 3 (s.recGet 7 4 2 + 1))
  let s := (s.recPut 1 5 1 0).recPut 0 0 8 (min 255 (s.recGet 0 0 8 + 1))
  (s.recPut 6 0 4 cause, if act = .mend then .goOn else act)

/-- The clocks of step 4. -/
def State.clocksStep (s : State) : State :=
  let s := s.setReg .CLK_EN 0 (s.reg .CLK_EN ||| maskOf 3 2 ||| maskOf 6 1)
  forEach [3, 4, 17, 6] (fun i s => s.sourceReady i) s

/-- Steps 1 to 5 of a full start; `failed` is the step of S that fails, as 3 + its value. D_ACQ finds `found`. -/
def State.romS (s : State) (failed : Option (Fin 3)) (found : Contents) : State :=
  let s := { s with boot := { s.boot with parked := false } }
  let (s, act) := s.backupStep
  if act ≠ .goOn then s.afterFail act
  else
    let fails (st : Nat) : Bool := match failed with
      | some f => f.val + 3 == st
      | none => false
    let stop (s : State) (st : Nat) : State :=
      let (s, act) := s.stepFail st false
      s.afterFail act
    let s := s.recPut 1 0 5 3
    if fails 3 then stop s 3
    else
      let s := ((s.setPoint 0 1).recFailPut 3 false).recPut 1 0 5 4
      if fails 4 then stop s 4
      else
        let s := (s.clocksStep.recFailPut 4 false).recPut 1 0 5 5
        if fails 5 then stop s 5
        else ((s.acqOn [] found).recFailPut 5 false).recPut 7 0 4 0

/-- Load a memory image that a ROM or a section gives at fabric address `a`. -/
def State.load (s : State) (a : Nat) (bs : List Byte) : State := (s.sramWritten a bs.length).putBytes a bs

/-- A ROM has been copied into the instruction memory of S (0) or C0 (1), and the core is released (R418, R426). The rest of S's
memory and sentinel SRAM, which a D_SEN power-on or a restart has lost, hold `found` (R419). -/
def State.romCopied (s : State) (core : Nat) (failed : Option (Fin 3)) (rom found : Contents) : State :=
  if !s.boot.copying.contains core then s
  else
    let s := { s with boot := { s.boot with copying := s.boot.copying.filter (· != core) } }
    let base := privBase core
    let inRom (a : Nat) : Bool := decide (base ≤ a ∧ a < base + 0x8000)
    let s := s.fill { rom with ecc := [] } inRom
    if core = 0 then (s.fill found (fun a => (bankOf 0 a).isSome || (inPriv 0 a && !inRom a))).romS failed found
    else
      let full := s.mode == 0 && s.power.step.isNone
      let s := { s with boot := { s.boot with running := true } }
      if full then
        (s.fsetB F.PAGE_CTRL_EN 0x70 true).fsetB F.CORE_CTRL_RUN 0 true
      else s.recPut 6 0 4 7

/-! ### The count of a watchdog (R446) -/

/-- Watchdog `d`. -/
def State.wdt (s : State) (d : Nat) : Watchdog := s.wdts.getD d ⟨0, 0⟩

/-- Replace watchdog `d`. -/
def State.setWdt (s : State) (d : Nat) (x : Watchdog) : State := { s with wdts := setAt ⟨0, 0⟩ s.wdts d x }

/-- Milliseconds as LF ticks. -/
def msTicks (ms : Nat) : Nat := (ms * 32768 + 999) / 1000

/-- The count is reloaded. -/
def State.wdReload (s : State) (d : Nat) : State := s.setWdt d ⟨msTicks (s.fget F.WD_TIMEOUT_MS d), 0⟩

/-! ### Steps 6 to 16, by C0 (R423, R425, R427–R434) -/

/-- Budget of a step of C0, in ms (table "Start-up steps"). -/
def stepBudget (st : Nat) : Nat := [10, 20, 50, 20, 20, 100, 1100, 200, 300, 100, 50].getD (st - 6) 50

/-- WD0 is set for `ms` milliseconds and reloaded (R447). -/
def State.wd0Run (s : State) (ms : Nat) : State :=
  let s := s.fsetB F.PAGE_CTRL_EN 0x67 true
  let s := (s.fset F.WD_TIMEOUT_MS 0 ms).fset F.WD_WINDOW_MS 0 0
  ((s.fset F.WD_CTRL_ACTION 0 2).fsetB F.WD_CTRL_EN 0 true).wdReload 0

/-- Measure a digest if the log still takes it (R444). -/
def State.measured (s : State) (typ idx : Nat) (d : List Byte) : State := (s.measure typ idx d).getD s

/-- The ROM finds that the step in progress fails, for INTEGRITY or for HARDWARE (R421). -/
def State.romFinds (s : State) (integrity : Bool) : State := { s with boot := { s.boot with bad := some integrity } }

/-- The sections of the bundle whose type satisfies `p`, in manifest order. -/
def State.sectionsOf (s : State) (p : Nat → Bool) : List Nat :=
  indices (s.sections s.boot.bundle) (fun i => p (s.sect s.boot.bundle i).1)

/-- Load and measure the sections whose type satisfies `p`, each by `f` (section number); a digest that differs from the manifest
is an INTEGRITY failure (R430). -/
def State.loadSections (s : State) (p : Nat → Bool) (f : Nat → State → State) : State :=
  forEach (s.sectionsOf p) (fun i s =>
    let d := sha256 (s.sectBytes s.boot.bundle i)
    let s := (f i s).measured (s.sect s.boot.bundle i).1 i d
    if d == s.sectDigest s.boot.bundle i then s else s.romFinds true) s

/-- Step 8 takes the slot that the record or the header `h` names; a trial start is counted in the header first (R425, R428). -/
def State.slotTaken (s : State) (h : Nat) : State :=
  let try_ := s.flashNum (h + 6) 1
  let left := s.flashNum (h + 7) 1
  let fell : Bool := s.recGet 5 3 1 == 1
  let slot := if fell then s.recGet 5 2 1 else if try_ ≠ 0 ∧ 0 < left then (try_ - 1) % 2 else s.flashNum (h + 5) 1 % 2
  let base := s.slotBase h slot
  let s := if !fell && try_ != 0 && decide (0 < left) then s.headerWrite [(7, leBytes 1 (left - 1))] else s
  let s := s.recPut 5 2 1 slot
  let s := { s with boot := { s.boot with bundle := base } }
  (s.fset F.BOOT_STATUS_SLOT 0 slot).fsetB F.BOOT_STATUS_FELL_BACK 0 fell

/-- The manifest of the slot taken, in a slot of `size` bytes, is checked and measured (R430, R444). -/
def State.manifestRead (s : State) (size : Nat) : State :=
  let base := s.boot.bundle
  let why := s.manifestCheck base size
  let s := if why = 0 then s
    else if 2 ≤ why && s.fuses.life == 0 then s.fsetB F.BOOT_STATUS_UNSIGNED 0 true
    else s.romFinds true
  s.measured 0x0100 0 (sha256 (s.flashBytes base (s.manifestHead base + 768)))

/-- Step 8: the slot is chosen, and the manifest is read (R425, R430). -/
def State.manifestStep (s : State) : State :=
  if s.recGet 5 7 1 = 1 ∨ s.flag F.BOOT_CTRL_MEND ∨ (s.flag F.SYS_STRAPS_DEVID_BAD ∧ 2 ≤ s.recGet 7 4 2) then s.enterMend
  else
    match s.header with
    | none => s.romFinds true
    | some h => (s.slotTaken h).manifestRead (s.flashNum (h + 0x18) 4)

/-- The bytes of the darn table at `a` that are not listed are zero (R457). -/
def State.darnZeros (s : State) (a n : Nat) : Bool :=
  zeroBytes (s.flashBytes a 32) (5 :: upTo 12 27) &&
    (List.range n).all (fun i => s.flashNum (a + 32 + 16 * i + 2) 2 == 0)

/-- The entry at flash offset `e` goes through DARN_IN with APPLY (R459). -/
def State.darnEntry (s : State) (e : Nat) : State :=
  let s := (forEach (List.range 4) (fun k (s : State) => s.setReg .DARN_IN k (BitVec.ofNat 32 (s.flashNum (e + 4 * k) 4))) s).darnIn
  let r := s.fget F.DARN_IN_CTRL_RESULT
  if r = 1 ∨ r = 3 then s.romFinds false else s

/-- Step 10: the darn table of the variant is read and reapplied; a bad table fails for INTEGRITY, an entry that answers FORMAT or
CONFLICT for HARDWARE, and then no darn of the table stands (R421, R457, R459). -/
def State.darnStep (s : State) : State :=
  let s := s.fsetB F.PAGE_CTRL_EN 0x6C true
  match s.header with
  | none => s.romFinds true
  | some h =>
    let a := s.flashNum (h + 0x24) 4 + 0x1000 * s.variant 10
    let n := s.flashNum (a + 6) 2
    let body := s.flashBytes a 0x1C ++ s.flashBytes (a + 32) (16 * n)
    if s.flashNum a 4 = 0x444B4C47 ∧ s.flashNum (a + 4) 1 = 1 ∧ n ≤ 254 ∧ s.darnZeros a n ∧ crc32c body = s.flashNum (a + 0x1C) 4 then
      let t := forEach (List.range n) (fun i (s : State) => s.darnEntry (a + 32 + 16 * i)) s
      if t.boot.bad.isSome then s.romFinds false else t.measured 0x0101 0 (sha256 (t.flashBytes a (32 + 16 * n)))
    else s.romFinds true

/-- The queued rows of stack `x` are repaired before it trains (R459); a row whose repair fails stays queued (R460). -/
def State.rowsRepaired (s : State) (x : Nat) : State :=
  forEach (s.darn.hbmRows.filter (fun t => t / 2 ^ 30 == x)) (fun t s =>
    if Config.pprFails t (s.fget F.HBMC_REPAIR_PPR_USED x) then s
    else
      let s := { s with darn := { s.darn with hbmRows := s.darn.hbmRows.filter (fun y => y != t) } }
      (s.faddSat F.HBMC_REPAIR_PPR_USED x 1).darnLog 8 2 t 0) s

/-- Step 12: D_MEM is powered and the stacks are trained (R434). -/
def State.memoryStep (s : State) : State :=
  let v := s.variant 12
  let s := s.setPower .mem .on
  let s := { s with power := { s.power with stkEn := true } }
  let s := s.fsetB F.PAGE_CTRL_EN 0x3E true
  let cache := match s.header with
    | some h => s.flashNum (h + 0x30) 4
    | none => 0
  forEach (List.range 4) (fun x s =>
    let s := s.fsetB F.PAGE_CTRL_EN (0x3A + x) true
    let s := s.fset F.HBMC_CFG_TRAIN x (if v = 0 then 1 else 0)
    let s := if v = 2 then s.fset F.HBMC_CFG_RATE x 0 else s
    let s := if v = 0 then
        s.setStack x { s.stack x with tdata := (List.range 256).foldl (fun t i =>
          tblPut t i (s.flashNum (cache + 1024 * x + 4 * i) 4)) (s.stack x).tdata }
      else s
    (((s.rowsRepaired x).fsetB F.HBMC_CTRL_TRAIN_START x true).trainAsk x (if v = 0 then 1 else 0))) s

/-- Step 13: D_LNK is powered and the ports train. -/
def State.linksStep (s : State) : State :=
  let s := if s.power.lnk = .off then (s.setPower .lnk .on).lnkOn true else s
  forEach (List.range 4) (fun p s => s.portTrain p) s

/-- Step 14 before VDD_ANA is good: PLL_WEL and ANA_EN, at the point of the variant. -/
def State.analysisStep (s : State) : State :=
  let p := if s.variant 14 = 0 then 5 else if s.variant 14 = 1 then 2 else 0
  let s := s.setReg .CLK_EN 0 (s.reg .CLK_EN ||| maskOf 5 1)
  let s := (s.fset F.DVFS_TARGET_ANA 0 p).dvfsWritten
  if s.power.ana = .off then s.anaEnable else s

/-- The bytes of a patch section that must be zero are zero (R217). -/
def patchZeros (bs : List Byte) : Bool :=
  (List.range ((bs.length - 32) / 32)).all (fun r =>
    let x := bs.drop (32 * r)
    ofLeBytes (x.take 2) < 2048 && ((x.drop 2).take 2 ++ (x.drop 0x1A).take 6).all (fun b => b == 0#8))

/-- The padding of the records of a base image is zero (R215). -/
def storeZeros (bs : List Byte) : Bool :=
  (List.range 2048).all (fun a => ((bs.drop (32 * a + 22)).take 10).all (fun b => b == 0#8))

/-- A base image is loaded into the control store of every engine, and its digest checked: VALID (R215, R217). Padding that is not
zero stops the load. -/
def State.loadStores (s : State) (bs : List Byte) : State :=
  if !storeZeros bs then s.romFinds true
  else
    let words := (List.range 2048).map (fun a => ofLeBytes ((bs.drop (32 * a)).take 22))
    let d := sha256 (words.flatMap (fun x => leBytes 22 x))
    forEach (List.range 18) (fun w s =>
      let e := s.wel1 w
      let s := s.setWel w { e with store := (List.range 2048).foldl (fun t a => tblPut t a (words.getD a 0)) e.store }
      let s := forEach (List.range 8) (fun k s =>
        s.setReg .CS_EXPECT (8 * w + k) (BitVec.ofNat 32 (ofLeBytes ((d.drop (4 * k)).take 4)))) s
      s.csSetValid w) s

/-- The records of a patch section are applied to engine `w`, once its base image is VALID, and its store is verified, by the
procedure of R217. -/
def State.patchEngine (s : State) (bs : List Byte) (w : Nat) : State :=
  if !s.flag F.CS_STATUS_VALID w then s
  else
  let n := (bs.length - 32) / 32
  let s := (s.fsetB F.CS_CTRL_PATCH w true).fsetB F.CS_CTRL_AUTOINC w true
  let s := forEach (List.range n) (fun r s =>
    let x := bs.drop (32 * r)
    let word (k : Nat) : Word := BitVec.ofNat 32 (ofLeBytes ((x.drop (4 + 4 * k)).take 4))
    let s := s.fset F.CS_ADDR_ADDR w (ofLeBytes (x.take 2))
    (s.setWel w { s.wel1 w with hold := (List.range 5).map word }).csCommit w (word 5)) s
  let s := forEach (List.range 8) (fun k s =>
    s.setReg .CS_EXPECT (8 * w + k) (BitVec.ofNat 32 (ofLeBytes ((bs.drop (32 * n + 4 * k)).take 4)))) s
  ((s.fsetB F.CS_CTRL_PATCH w false).csStart w 2).csDone w

/-- Section `i` goes into the memories of D_ANA or an SRAM (table "Section types"); patches follow every load (R217). -/
def State.loadSection (s : State) (i : Nat) : State :=
  let (t, flags, _, _, ld) := s.sect s.boot.bundle i
  let bs := s.sectBytes s.boot.bundle i
  if t = 3 then
    forEach (indices 3 (fun k => Nat.testBit flags k)) (fun k s => s.load (privBase (2 + k)) bs) s
  else if t = 4 then s.loadStores bs
  else if t = 5 then s.load (0x100000000000 + ld) bs
  else if t = 7 then forEach (List.range 18) (fun w s => s.load (lmemBase w + ld) bs) s
  else s

/-- Step 14 once D_ANA is on: images, control stores, patches and tables are loaded and measured, and the engines take their
roles: a logical engine whose own engine is retired takes the next spare that is not, and a retired engine is left OFF (R420, R455,
R459). -/
def State.analysisLoad (s : State) : State :=
  if s.power.ana ≠ .on then s
  else
    let s := forEach ((List.range 19).map (fun k => 0x40 + k)) (fun p s => s.fsetB F.PAGE_CTRL_EN p true) s
    let s := { s with ecc := s.ecc.filter (fun x => match bankOf 2 x.1 with
      | some b => s.kept 2 b
      | none => true) }
    let s := s.loadSections (fun t => 3 ≤ t && t ≤ 7) (fun i s => s.loadSection i)
    let s := forEach (s.sectionsOf (fun t => t == 6)) (fun i s =>
      let bs := s.sectBytes s.boot.bundle i
      if patchZeros bs then forEach (List.range 18) (fun w s => s.patchEngine bs w) s else s) s
    let retired (w : Nat) : Bool := s.fbit F.DARN_RETIRED_ENGINES 0 w
    let spares := [16, 17].filter (fun w => !retired w)
    let place := fun (l : Nat) => bif retired l then spares.getD (indices l retired).length l else l
    let s := forEach (List.range 4) (fun q s =>
      s.setReg .WELQ_MAP q (BitVec.ofNat 32 (place (4 * q) + place (4 * q + 1) * 2 ^ 8 + place (4 * q + 2) * 2 ^ 16 +
        place (4 * q + 3) * 2 ^ 24))) s
    forEach (List.range 18) (fun w s =>
      let s := if s.fbit F.DARN_RETIRED_ENGINES 0 w then s.fsetB F.CS_STATUS_VALID w false else s
      let s := s.fsetB F.WEL_CTRL_SERVICE w (!retired w && (List.range 16).any (fun l => place l == w))
      s.welRefresh w) s

/-- A patch section of the bundle is invalid, or an engine that it patched does not verify (R217). -/
def State.patchBad (s : State) : Bool :=
  s.power.ana == .on && (s.sectionsOf (fun t => t == 6)).any (fun i =>
    !patchZeros (s.sectBytes s.boot.bundle i) || !(List.range 18).all (fun w => s.flag F.CS_STATUS_VERIFY_OK w))

/-- A configuration copy at flash offset `a` is valid (R433). -/
def State.configOk (s : State) (a size : Nat) : Bool :=
  let n := s.flashNum (a + 8) 4
  decide (16 + n ≤ size) && s.flashNum (a + 2) 2 == 0 &&
    crc32c (s.flashBytes a 12 ++ s.flashBytes (a + 16) n) == s.flashNum (a + 12) 4

/-- Flash offset of the configuration copy that variant 0 of step 15 takes (R433). -/
def State.configCopy (s : State) : Option Nat :=
  match s.header with
  | none => none
  | some h =>
    let m := s.boot.bundle
    let a := s.flashNum (h + 0x1C) 4
    let size := s.flashNum (h + 0x20) 4
    let b := a + size
    let fits (x : Nat) : Bool := s.configOk x size &&
      (s.flashNum (m + 4) 1 != 3 || s.flashNum x 2 == s.flashNum (m + 10) 2)
    if fits a && fits b then some (if s.flashNum (a + 4) 4 < s.flashNum (b + 4) 4 then b else a)
    else if fits a then some a else if fits b then some b else none

/-- Step 15: the configuration copy is chosen and measured; without a valid one the step fails for INTEGRITY. Variant 1 takes and
measures the default configuration of the bundle, and a bundle without a sound one gives an empty configuration, which is measured
as 32 zero bytes (R421, R433, R444). -/
def State.configStep (s : State) : State :=
  if s.variant 15 = 0 then
    match s.configCopy with
    | some x => s.measured 0x0102 0 (sha256 (s.flashBytes x (16 + s.flashNum (x + 8) 4)))
    | none => s.romFinds true
  else
    let s := s.loadSections (fun t => t == 8) (fun _ s => s)
    if (s.sectionsOf (fun t => t == 8)).isEmpty || s.boot.bad.isSome then s.measured 0x0102 0 (List.replicate 32 0#8) else s

/-- Step 16: the S firmware is measured and handed over, and the measurement log is locked (R420, R444, R447). S is not
reloaded by a partial start (R426). -/
def State.handoffStep (s : State) (full : Bool) : State :=
  let s := if full then s.loadSections (fun t => t == 1) (fun i s => s.load (privBase 0) (s.sectBytes s.boot.bundle i)) else s
  s.fsetB F.BOOT_CTRL_MEAS_LOCK 0 true

/-- A start other than a full one runs (R426). -/
def State.partialStart (s : State) : Bool := 6 ≤ s.recGet 6 0 4

/-- The present start runs step `st` of C0 (tables "Start-up steps" and "Partial starts"), and no SKIP bit leaves it out (R421,
R426). -/
def State.stepRuns (s : State) (st : Nat) : Bool :=
  let cause := s.recGet 6 0 4
  !(cause == 7 && 12 ≤ st && st ≤ 14) && !(cause == 6 && 12 ≤ st && st ≤ 13) &&
    !(12 ≤ st && st ≤ 14 && s.recGet 5 (4 + (st - 12)) 1 == 1)

/-- The protocol (XSPI_CFG.MODE) and the divider of a variant of step 7 (table "Failure policy"). -/
def flashVariant (v : Nat) : Nat × Nat := if v = 0 then (3, 0) else if v = 1 then (3, 1) else if v = 2 then (2, 3) else (0, 7)

/-- The flash on XSPI_CS0_N can work in protocol `mode`: its JESD216 table describes it, and 8D-8D-8D finds VDDIO3 at 1.8 V (R440,
R464). -/
def State.flashSpeaks (s : State) (mode : Nat) : Bool :=
  s.xspi.modes.testBit mode && !(mode == 3 && s.power.ring.vio.testBit 3)

/-- Step 7: FLASH_RST is held and released, the protocol of the variant is enabled, and the header is read in it (R420, R427,
R440). -/
def State.flashStep (s : State) : State :=
  let s := (s.fsetB F.PAGE_CTRL_EN 0x62 true).fsetB F.XSPI_CTRL_FLASH_RST 0 true
  let s := s.fsetB F.XSPI_CTRL_FLASH_RST 0 false
  let (mode, div) := flashVariant (s.variant 7)
  if !s.flashSpeaks mode then s.romFinds false
  else
    let s := ((s.fset F.XSPI_CFG_MODE 0 mode).fset F.XSPI_CFG_DIV 0 div).fsetB F.XSPI_CFG_ADDR4 0 (mode == 3)
    if s.header.isNone then s.romFinds true else s

/-- Step `st` of C0 begins: what the ROM on C0 does in it. -/
def State.stepDo (s : State) (st : Nat) : State :=
  if !s.stepRuns st then s
  else if st = 7 then s.flashStep
  else if st = 8 then s.manifestStep
  else if st = 9 then s.loadSections (fun t => t == 2) (fun i s => s.load (privBase 1 + 0x8000) (s.sectBytes s.boot.bundle i))
  else if st = 10 then s.darnStep
  else if st = 11 then
    let s := { s with ecc := s.ecc.filter (fun x => match bankOf 1 x.1 with
      | some b => s.kept 1 b
      | none => true) }
    ((s.fsetB F.PAGE_CTRL_EN 0x63 true).fsetB F.PAGE_CTRL_EN 0x21 true).initStart
  else if st = 12 then s.memoryStep
  else if st = 13 then s.linksStep
  else if st = 14 then s.analysisStep
  else if st = 15 then s.configStep
  else if st = 16 then s.handoffStep (!s.partialStart)
  else s

/-- Step 16 is done: S starts its firmware, unless the start is a partial one, and C0 jumps to 0x0000_8000; WD0 is left
running (R420, R447). -/
def State.handoffDone (s : State) : State :=
  let s := s.wd0Run 2000
  let s := if s.fuses.life = 0 then s else s.fsetB F.WD_CTRL_LOCK 0 true
  let s := if s.partialStart then s else s.coreZero 0
  let s := s.coreZero 1
  let c := { s.cores.getD 1 Core.reset with next := 0x8000#32 }
  { s with cores := setAt Core.reset s.cores 1 c, boot := { s.boot with running := false } }

/-- Step `st` has failed, for INTEGRITY or for HARDWARE: the record, and what the ROM does (R421, R423). -/
def State.stepFailed (s : State) (st : Nat) (integrity : Bool) : State :=
  let (s, act) := s.stepFail st integrity
  let s := if act = .goOn then s.fsetB F.BOOT_STATUS_DEGRADED 0 (s.recGet 5 4 3 != 0) else s
  s.afterFail act

/-- What the ROM checks at the end of step `st`: the loads of step 14, once D_ANA is on, with the patches, and the stacks of step
12 (R217, R430, R469). -/
def State.stepCheck (s : State) (st : Nat) : State :=
  if st = 14 && s.stepRuns 14 then
    let s := s.analysisLoad
    if s.patchBad then s.romFinds true else s
  else if st = 12 && s.stepRuns 12 && (List.range 4).any (fun x => s.fget F.HBMC_STATE_STATE x == 4) then s.romFinds false
  else s

/-- The event that C0 has put into BOOT_MBOX goes into the record, and the ROM acts on it (R423). A step that the ROM has found to
fail fails, although the event says DONE. -/
def State.mailboxCopy (s : State) : State :=
  let st := s.fget F.BOOT_MBOX_STEP
  match s.fget F.BOOT_MBOX_EVENT with
  | 0 =>
    let s := (s.recPut 1 0 5 st).recPut 1 5 1 0
    let s := { s with boot := { s.boot with step := st, bad := none } }
    if 6 ≤ st then
      let s := (s.fset F.BOOT_STATUS_STEP 0 st).fsetB F.BOOT_STATUS_DEGRADED 0 (s.recGet 5 4 3 != 0)
      (s.wd0Run (stepBudget st)).stepDo st
    else s
  | 1 =>
    let s := if s.boot.step = st then s.stepCheck st else s
    match (if s.boot.step = st then s.boot.bad else none) with
    | some integrity => s.stepFailed st integrity
    | none =>
      let s := s.recFailPut st false
      if st = 16 then s.handoffDone else s
  | e => s.stepFailed st (e == 3)

/-- BOOT_MBOX has been written: PEND is set, and while the ROMs run a start S copies the event and clears it; a write at any other
time waits for S's firmware (R423, log entry 68). -/
def State.mailbox (s : State) : State :=
  let s := (s.fsetB F.BOOT_MBOX_PEND 0 true).irq 0x6A 0
  if s.boot.running then (s.fsetB F.BOOT_MBOX_PEND 0 false).mailboxCopy else s

/-- BOOT_CTRL.MEND has been set (R441). -/
def State.mendAsked (s : State) : State := s.irq 0x6A 1

/-! ### Mend frames (R442, R443) -/

/-- A reply frame. -/
def mendReply (cmd seq status : Nat) (data : List Byte) : List Byte :=
  let body := [0xA5#8] ++ leBytes 1 (cmd ||| 0x80) ++ leBytes 1 seq ++ [0#8] ++ leBytes 4 status ++
    leBytes 2 data.length ++ [0#8, 0#8] ++ data
  body ++ leBytes 4 (crc32c body)

/-- Send a reply the way its frame came: it stands in the window, or goes out on UART0. -/
def State.mendSend (s : State) (p0 : Bool) (bs : List Byte) : State :=
  if p0 then { s with mend := { s.mend with reply := bs, ready := true } }
  else { s with mend := { s.mend with reply := bs, sent := bs } }

/-- The frame whose command waits is answered. -/
def State.mendAnswer (s : State) (status : Nat) (data : List Byte) : State :=
  match s.mend.todo with
  | none => s
  | some (cmd, seq, _, _, p0) =>
    { s with mend := { s.mend with todo := none } }.mendSend p0 (mendReply cmd seq status data)

/-- The bytes of a frame: CMD, SEQ, ARG and data, if it is whole, and whether its CRC is good. -/
def mendParse (bs : List Byte) : Option (Nat × Nat × Nat × List Byte × Bool) :=
  let len := numAt bs 8 2
  if bs.length < 16 + len ∨ 1024 < len ∨ numAt bs 0 1 ≠ 0xA5 then none
  else
    let good := crc32c (bs.take (12 + len)) == numAt bs (12 + len) 4
    some (numAt bs 1 1, numAt bs 2 1, numAt bs 4 4, (bs.drop 12).take len, good)

/-- A mend frame has been received whole (R442, R443): through P0 or on UART0. -/
def State.mendFrame (s : State) (p0 : Bool) : State :=
  let bs := if p0 then s.mend.win else s.mend.rx
  if !s.mend.on || s.mend.todo.isSome then s
  else
    match mendParse bs with
    | none => s
    | some (cmd, seq, arg, data, good) =>
      let s := { s with mend := if p0 then { s.mend with win := [] } else { s.mend with rx := [] } }
      if !good then (if p0 then s else { s with mend := { s.mend with sent := mendReply cmd seq 1 [] } })
      else if s.mend.prev = some seq then s.mendSend p0 s.mend.reply
      else
        let s := { s with mend := { s.mend with prev := some seq, todo := some (cmd, seq, arg, data, p0) } }
        if 1 ≤ cmd ∧ cmd ≤ 6 then s else s.mendAnswer 2 []

/-- A gap of more than 10 ms drops the partial frame on UART0. -/
def State.mendGap (s : State) : State := { s with mend := { s.mend with rx := [] } }

/-- The waiting frame, if its command is `cmd`: ARG and data. -/
def State.mendTodo (s : State) (cmd : Nat) : Option (Nat × List Byte) :=
  match s.mend.todo with
  | some (c, _, arg, data, _) => if c = cmd then some (arg, data) else none
  | none => none

/-- The result of VERIFY of a slot. -/
def State.mendVerified (s : State) (slot r : Nat) : State :=
  { s with mend := { s.mend with verified := setAt 0 s.mend.verified slot r } }

/-- HELLO (R443). -/
def State.mendHello (s : State) : State :=
  match s.mendTodo 1 with
  | none => s
  | some _ => s.mendAnswer 0 (Config.mendHello ([s.devid, s.fuses.life, s.fuses.rollback,
      (s.reg .BOOT_ROMVER).toNat] ++ (s.bkBytes.take 8).map (·.toNat) ++ s.mend.verified))

/-- ERASE: `ok` says that the flash carried it out. -/
def State.mendErase (s : State) (ok : Bool) : State :=
  match s.mendTodo 2, s.header with
  | some (arg, _), some h =>
    if 1 < arg then s.mendAnswer 2 []
    else
      let a := s.slotBase h arg
      let size := s.flashNum (h + 0x18) 4
      let s := s.mendVerified arg 0
      if !ok then s.mendAnswer 4 []
      else ({ s with flash := s.flash.filter (fun c => !(a ≤ c.1 && c.1 < a + size)) }).mendAnswer 0 []
  | some _, none => s.mendAnswer 4 []
  | none, _ => s

/-- WRITE: a program operation clears bits. -/
def State.mendWrite (s : State) (ok : Bool) : State :=
  match s.mendTodo 3, s.header with
  | some (arg, data), some h =>
    let slot := arg / 2 ^ 31
    let off := arg % 2 ^ 25
    if off % 256 ≠ 0 ∨ s.flashNum (h + 0x18) 4 < off + data.length ∨ arg % 2 ^ 31 ≠ off then s.mendAnswer 2 []
    else
      let a := s.slotBase h slot + off
      let s := s.mendVerified slot 0
      if !ok then s.mendAnswer 4 []
      else (s.flashPut a (List.zipWith (fun (x y : Byte) => x &&& y) (s.flashBytes a data.length) data)).mendAnswer 0 []
  | some _, none => s.mendAnswer 4 []
  | none, _ => s

/-- VERIFY. -/
def State.mendVerify (s : State) : State :=
  match s.mendTodo 4, s.header with
  | some (arg, _), some h =>
    if 1 < arg then s.mendAnswer 2 []
    else
      let m := s.slotBase h arg
      let why := s.manifestCheck m (s.flashNum (h + 0x18) 4)
      let why := if why ≠ 0 then why else if s.digestsOk m then 0 else 5
      if why = 0 then (s.mendVerified arg 1).mendAnswer 0 [] else (s.mendVerified arg 2).mendAnswer 5 (leBytes 1 why)
  | some _, none => s.mendAnswer 4 []
  | none, _ => s

/-- SELECT. -/
def State.mendSelect (s : State) (ok : Bool) : State :=
  match s.mendTodo 5, s.header with
  | some (arg, _), some h =>
    if 1 < arg then s.mendAnswer 2 []
    else if s.fuses.life ≠ 0 ∧ s.mend.verified.getD arg 0 ≠ 1 then s.mendAnswer 3 []
    else if s.fuses.life = 0 ∧ s.flashNum (s.slotBase h arg) 4 ≠ 0x424B4C47 then s.mendAnswer 3 []
    else if !ok then s.mendAnswer 4 []
    else
      let s := s.headerWrite [(5, leBytes 1 arg), (6, [0#8]), (0x0C, leBytes 4 1)]
      let s := ((s.recPut 2 0 8 0).recPut 3 0 8 0).recPut 4 0 8 0
      let s := (((s.recPut 5 0 2 0).recPut 5 3 1 0).recPut 5 4 3 0).recPut 5 7 1 0
      s.mendAnswer 0 []
  | some _, none => s.mendAnswer 4 []
  | none, _ => s

/-- LEAVE: the reply, then a restart; a frame that came through P0 is answered in the window, and the restart waits until the host
has read the reply (DESIGN CHOICE, log entry 72). -/
def State.mendLeave (s : State) : State :=
  match s.mend.todo with
  | some (6, _, _, _, p0) =>
    let s := s.mendAnswer 0 []
    if p0 then s
    else
      let out := s.mend.sent
      let s := s.restart 4
      { s with mend := { s.mend with sent := out } }
  | _ => s

/-- Port `p` has sent a packet: once P0 has sent everything, a LEAVE whose reply has been read restarts the device. -/
def State.mendLeft (s : State) (p : Nat) : State :=
  if p == 0 && s.mend.on && s.mend.leaving && (s.port 0).out.isEmpty && (s.port 0).cursor == (s.port 0).retry.length then
    let out := s.links.sent
    let s := s.restart 4
    { s with links := { s.links with sent := out } }
  else s

/-! ### Watchdogs (R446) -/

/-- The core that watchdog `d` watches. -/
def wdCore (d : Nat) : Nat := if d = 4 then 0 else d + 1

/-- Watchdog `d` counts: EN is 1 and its core's domain is clocked. -/
def State.wdRuns (s : State) (d : Nat) : Bool :=
  s.pageEn 0x67 && s.flag F.WD_CTRL_EN d && s.domLive (coreDomain (wdCore d))

/-- Watchdog `d` expires. -/
def State.wdExpire (s : State) (d : Nat) : State :=
  let s := (s.fsetB F.WD_STATUS_EXPIRED d true).irq 0x67 d
  let s := s.wdReload d
  match s.fget F.WD_CTRL_ACTION d with
  | 1 =>
    let i := wdCore d
    (s.fsetB F.CORE_CTRL_RUN (coreReg i) false).coreZero i
  | 2 => s.restart 1
  | _ => s

/-- WD_KICK is written; a kick on the LF tick of an expiry ends in expiry, and a bad kick counts as one. -/
def State.wdKick (s : State) (d key : Nat) : State :=
  let x := s.wdt d
  if s.wdRuns d && x.left == 0 then s.wdExpire d
  else if key = 0x5AC3 ∧ msTicks (s.fget F.WD_WINDOW_MS d) ≤ x.since then s.wdReload d
  else (s.fsetB F.WD_STATUS_BAD_KICK d true).wdExpire d

/-- The watchdogs count one LF tick. -/
def State.wdTick (s : State) : State :=
  forEach (indices 5 (fun d => s.wdRuns d)) (fun d s =>
    let x := s.wdt d
    s.setWdt d ⟨x.left - 1, x.since + 1⟩) s

/-- The count of watchdog `d` has reached zero. -/
def State.wdExpiry (s : State) (d : Nat) : State :=
  if s.wdRuns d && (s.wdt d).left == 0 then s.wdExpire d else s

end Sys2Proof.Machine
end

