-- ==== Sys2Proof/Machine/Reserved.lean ====
section
/-!
DEFINITION. Reserved encodings (R3): of single fields, of combinations that a direct write would create, and of the
combinations and conditions that a pressed state is checked for (R225, R231).
-/

namespace Sys2Proof.Machine

/-! ### Single fields -/

/-- `x` lies in one of the ranges. -/
def inRanges (rs : List (Nat × Nat)) (x : Nat) : Bool := rs.any (fun r => r.1 ≤ x && x ≤ r.2)

/-- A write can carry a value into the field. -/
def Acc.writable : Acc → Bool
  | .rw => true
  | .wo => true
  | .st => true
  | .w1s => true
  | _ => false

/-- SRCSEL of SEAM generator `n` is reserved at `x` (R187, R378; zero elsewhere). -/
def srcselReserved (n x : Nat) : Bool :=
  if n < 42 then x != 0
  else if n < 46 then
    x / 64 == 3 || x.testBit 5 || (x / 64 == 1 && x / 8 % 4 != 0) || (x / 64 == 2 && x.testBit 4)
  else 20 < x % 32 || x / 32 != 0

/-- Field `f` of register `n` of array `r` is reserved at `x`, whatever the other fields hold. -/
def fieldReserved (r : Reg) (n : Nat) (f : FieldDesc) (x : Nat) : Bool :=
  inRanges f.rsv x ||
    (match r with
    | .EVR_CFG => f.lo == 0 && (genDomain x).isNone
    | .SEAM_CFG =>
      if f.lo = 2 then (if 32 ≤ n ∧ n ≤ 39 then 40 < x else x != 0) else f.lo == 8 && srcselReserved n x
    | .EVR_PTAP => f.lo == 0 && f.width == 8 && (pageInfo x).isNone
    | .PZL_PUSH_CFG => f.lo == 0 && !(x < 24 || x == 0x3E)
    | .CRY_MTYPE => f.lo == 0 && !((1 ≤ x && x ≤ 8) || (0x100 ≤ x && x ≤ 0x102))
    | .LINE_FETCH_DST_LO => x % 32 != 0
    | .PAIR_RING_CFG => f.lo == 0 && (x == 0 || x % 2 == 1 || 24 < x)
    | _ => false)

/-- A word written to register `n` of array `r` carries a reserved encoding of a single field. -/
def wordReserved (r : Reg) (n : Nat) (v : Word) : Bool :=
  r.fields.any (fun f => f.acc.writable && fieldReserved r n f (bits v f.lo f.width))

/-! ### Conditions on a direct write -/

/-- The line is named by an enabled stream (or lane) as its destination. -/
def State.lineNamed (s : State) (l : Nat) : Bool :=
  (List.range 64).any (fun i => s.flag F.STR_CTRL_EN i && s.flag F.STR_CTRL_DEST_LINE i && s.fget F.STR_CFG_LINE i == l) ||
  (List.range 16).any (fun i => s.flag F.RL_CTRL_EN i && s.fget F.RL_CTRL_DEST i == 0 && s.fget F.RL_CFG_LINE i == l)

/-- A write of `v` to LINE_CTRL of line `l` is reserved (R144, R152 and the register table). -/
def State.lineCtrlReserved (s : State) (l : Nat) (v : Word) : Bool :=
  let base := s.fget F.LINE_BASE_UNITS l
  let size := s.fget F.LINE_SIZE_UNITS l
  let en := s.flag F.LINE_CTRL_EN l
  (en && (bits v 16 12 != s.fget F.LINE_CTRL_HEM l || bits v 1 1 != s.fget F.LINE_CTRL_FRESH l)) ||
  (if bits v 0 1 = 1 then
    size == 0 || 0x12000 < base + size || s.lineB l ≤ s.fget F.LINE_WR_INDEX l ||
      (List.range 64).any (fun k => k != l && s.flag F.LINE_CTRL_EN k &&
        decide (base < s.fget F.LINE_BASE_UNITS k + s.fget F.LINE_SIZE_UNITS k ∧
          s.fget F.LINE_BASE_UNITS k < base + size))
  else
    s.lineNamed l || s.lines.pegs.any (fun p => p.state != 0 && p.line == l))

/-- The table halves of an engine with the given bases and size (64-byte vectors) overlap or pass 0x3_FFFF (R220). -/
def halvesBad (b0 b1 size : Nat) : Bool :=
  0x1000 < b0 + size || 0x1000 < b1 + size || decide (b0 < b1 + size ∧ b1 < b0 + size)

/-- A write of `v` to BS_CTRL of slot `n` is reserved (R223, R229 and the register table). -/
def State.bsCtrlReserved (s : State) (n : Nat) (v : Word) : Bool :=
  let st := s.fget F.BS_STATE_STATE n
  let arming := (s.slot n).arming
  let mirror := bits v 8 1
  (mirror != s.fget F.BS_CTRL_MIRROR n && (1 < st || arming)) ||
    (match bits v 0 3 with
    | 0 => false
    | 1 => st != 0
    | 2 => st != 1 || arming || (mirror == 1 && s.fget F.BS_SEAM_MODE n == 0)
    | 3 => (st != 1 && st != 2) || s.basket.closing.contains (n, true)
    | 4 => st != 3 && st != 4
    | _ => true)

/-- The bit rate of a serial port exceeds 12 Mbit/s (R404). -/
def rateTooHigh (src int frac os8 : Nat) : Bool :=
  let f := if src = 0 then 640 else 25
  let os := if os8 = 1 then 8 else 16
  decide (12 * os * (int * 256 + frac) < f * 256)

/-- The ring of serial port `n` with the given base, blocks and block size passes 4 MiB. -/
def rxRingBad (base nblk b : Nat) : Bool := decide (0x400000 < base * 4 + (nblk + 1) * (4 + 2 ^ b))

/-- XSPI_CFG holds a reserved combination (R436, R437). -/
def State.xspiCfgReserved (s : State) (v : Word) : Bool :=
  let div := bits v 16 8
  match bits v 0 3 with
  | 0 => div < 7
  | 3 => bits v 3 1 == 0 || (div == 0 && Nat.testBit s.power.ring.vio 3)
  | _ => div < 3

/-- A write of `v` to XSPI_CMD is reserved (R436–R438). -/
def State.xspiCmdReserved (s : State) (v : Word) : Bool :=
  let start := bits v 31 1 == 1
  let poll := bits v 30 1 == 1
  let len := s.fget F.XSPI_LEN_LEN
  (start && poll) ||
    ((start || poll) &&
      (!s.isReady 6 || (s.fget F.XSPI_CFG_MODE == 3 && len % 2 == 1) ||
        (if bits v 12 1 = 1 then decide (8 < len)
         else len != 0 && (sramOf (s.get64 .XSPI_BUF_LO .XSPI_BUF_HI)).isNone)))

/-- The map of logical to physical engines names sixteen distinct engines in service (R180). -/
def State.mapSound (s : State) : Bool :=
  let es := (List.range 16).map s.welMap
  decide es.Nodup && es.all (fun p => s.flag F.WEL_CTRL_SERVICE p)

/-- A write of `v` to register `n` of array `r` is reserved for what the machine holds now (R3). -/
def State.nowReserved (s : State) (r : Reg) (n : Nat) (v : Word) : Bool :=
  match r with
  | .PAGE_CTRL => n == 6 && (bits v 0 1 == 0 || bits v 1 1 == 1)
  | .CMP_CTRL => bits v 0 2 == 3 && s.reg .CMP_STEP n == 0#32
  | .CMP_STEP => v == 0#32 && s.fget F.CMP_CTRL_MODE n == 3
  | .AIN_GRP_PWR =>
    (List.range 12).any (fun g => s.fbit F.AIN_GRP_PWR_EN 0 g && bits v g 1 == 0 &&
      (s.flag F.AIN_SPARE_EN g || (List.range 16).any (fun i => s.chEnabled (16 * g + i))))
  | .ADC_CTRL => bits v 3 1 == 1 && s.flag F.AIN_CTRL_RUN
  | .RESULT_SEQ => bits v 8 2 != 0 && decide (bits v 0 8 > (if bits v 8 2 = 3 then 7 else 191))
  | .IDB_CFG => s.flag F.IDB_STATUS_BUSY n
  | .IDB_CMD => bits v 31 1 == 1 && (s.flag F.IDB_STATUS_BUSY n || bits v 30 1 == 1)
  | .LINE_CTRL => s.lineCtrlReserved n v
  | .LINE_BASE => s.flag F.LINE_CTRL_EN n
  | .LINE_SIZE => s.flag F.LINE_CTRL_EN n
  | .LINE_WR => s.flag F.LINE_CTRL_EN n
  | .LINE_SEQ_LO => s.flag F.LINE_CTRL_EN n
  | .LINE_SEQ_HI => s.flag F.LINE_CTRL_EN n
  | .LINE_SHORT =>
    decide (1024 < bits v 0 10 + bits v 16 11) || s.fget F.LINE_WSTATE_STATE != 0 || s.fget F.LINE_WSTATE_USED != 0
  | .PEG_LINE => (s.peg s.pegSel).state != 0
  | .PEG_FIRST => (s.peg s.pegSel).state != 0
  | .PEG_COUNT => (s.peg s.pegSel).state != 0
  | .PEG_BEFORE => (s.peg s.pegSel).state != 0
  | .PEG_AFTER => (s.peg s.pegSel).state != 0
  | .HBMC_CFG => s.fget F.HBMC_STATE_STATE n != 0 && s.fget F.HBMC_STATE_STATE n != 4
  | .HBMC_CTRL =>
    bits v 0 1 == 1 && s.fget F.HBMC_STATE_STATE n != 0 && s.fget F.HBMC_STATE_STATE n != 4
  | .WEL_CTRL =>
    if bits v 0 1 = 1 then !s.flag F.WEL_CTRL_SERVICE n && s.darn.engines.any (fun d => d.1 == n)
    else s.flag F.WEL_CTRL_SERVICE n && s.mapSound && (List.range 16).any (fun e => s.welMap e == n)
  | .WELQ_QCFG =>
    s.flag F.WELQ_QCFG_EN n && (bits v 24 4 != s.fget F.WELQ_QCFG_LOG2 n || bits v 6 18 != s.fget F.WELQ_QCFG_BASE n)
  | .WELQ_QTAIL => s.qTailReserved n (bits v 0 10)
  | .CS_CTRL =>
    let cmds := [(0, 0), (1, 1), (2, 2), (5, 3)].filter (fun c => bits v c.1 1 == 1)
    (bits v 3 1 == 1 && s.welState n == 3) || decide (1 < cmds.length) || cmds.any (fun c => !s.csAllowed n c.2)
  | .CS_DATA5 => !s.csOpen n
  | .CS_ADDR => s.flag F.CS_STATUS_ACTIVE n
  | .CS_EXPECT => s.flag F.CS_STATUS_ACTIVE (n / 8)
  | .CS_SRC => decide (0x1000000 < bits v 5 19 * 32 + 65536)
  | .WEL_TBL_CTRL => s.flag F.WEL_TBL_CTRL_SWAP n
  | .WEL_TBL_BASE =>
    s.welState (n / 2) == 3 ||
      halvesBad (bits v 6 12) (s.fget F.WEL_TBL_BASE_BASE (n / 2 * 2 + (1 - n % 2))) (s.fget F.WEL_TBL_SIZE_SIZE (n / 2))
  | .WEL_TBL_SIZE =>
    s.welState n == 3 ||
      halvesBad (s.fget F.WEL_TBL_BASE_BASE (2 * n)) (s.fget F.WEL_TBL_BASE_BASE (2 * n + 1)) (bits v 0 12)
  | .BS_CTRL => s.bsCtrlReserved n v
  | .BS_SEAM => decide (1 < s.fget F.BS_STATE_STATE n) || (s.slot n).arming
  | .BS_TARGET_LO => decide (1 < s.fget F.BS_STATE_STATE n) || (s.slot n).arming
  | .BS_TARGET_HI => decide (1 < s.fget F.BS_STATE_STATE n) || (s.slot n).arming
  | .BS_VALUE => s.fget F.BS_STATE_STATE n != 0
  | .TEMP_WARN => decide (s.fgetI F.TEMP_HOT_HOT < signed 8 (bits v 0 8))
  | .TEMP_HOT => decide (signed 8 (bits v 0 8) < s.fgetI F.TEMP_WARN_WARN)
  | .CLK_SEL =>
    (bits v 1 1 == 1 && bits v 0 1 != s.fget F.CLK_SEL_LF_SEL) ||
      (bits v 5 1 == 1 && bits v 4 1 != s.fget F.CLK_SEL_ACQ_SEL)
  | .CLKOUT_CFG =>
    let d := bits v 16 10 + 1
    let src := bits v 0 4
    if src = 4 ∨ src = 5 ∨ src = 7 then decide (d < 4) else src == 6 && decide (d < 5)
  | .DVFS_VOLT =>
    s.flag F.PAGE_STATUS_BUSY 5 || (n != 0 && decide (bits v 0 10 < s.fget F.DVFS_VOLT_MV (n - 1)))
  | .PMB_CFG => s.flag F.PAGE_STATUS_BUSY 5
  | .PMB_CMD => s.clocks.pmb
  | .BEACON_CTRL => bits v 0 1 == 1 && s.fget F.BEACON_CFG_ROLE == 0
  | .PAIR_CTRL => bits v 1 1 == 1 && s.fget F.PAIR_STATUS_STATE != 2
  | .PAIR_RING_CFG => decide (bits v 0 5 ≤ bits v 8 5)
  | .MGL_XOR => v == 0#32 && s.flag F.MGL_CTRL_EN n && s.fget F.MGL_CTRL_MODE n == 1
  | .MGL_CTRL => bits v 31 1 == 1 && bits v 0 2 == 1 && s.reg .MGL_XOR n == 0#32
  | .UART_BAUD =>
    (v &&& 0x1FFFFF#32 != s.reg .UART_BAUD n && (s.flag F.UART_STATUS_TX_BUSY n || s.flag F.UART_STATUS_RX_BUSY n)) ||
      rateTooHigh (bits v 20 1) (bits v 8 12) (bits v 0 8) (s.fget F.UART_CFG_OS8 n)
  | .UART_CFG =>
    (v &&& 0x7F#32 != s.reg .UART_CFG n && (s.flag F.UART_STATUS_TX_BUSY n || s.flag F.UART_STATUS_RX_BUSY n)) ||
      rateTooHigh (s.fget F.UART_BAUD_SRC n) (s.fget F.UART_BAUD_INT n) (s.fget F.UART_BAUD_FRAC n) (bits v 6 1) ||
      (bits v 0 2 == 2 && !s.flag F.UART_RXR_CFG_WIDE n)
  | .UART_RXR_BASE => rxRingBad (bits v 2 20) (s.fget F.UART_RXR_CFG_NBLK n) (s.fget F.UART_RXR_CFG_B n)
  | .UART_RXR_CFG =>
    (bits v 16 1 == 0 && s.fget F.UART_CFG_DBITS n == 2) ||
      (s.flag F.UART_RXR_CFG_EN n && bits v 0 4 != s.fget F.UART_RXR_CFG_B n) ||
      rxRingBad (s.fget F.UART_RXR_BASE_BASE n) (bits v 8 8) (bits v 0 4)
  | .UART_TX_CTRL => bits v 31 1 == 1 && bits v 0 16 == 0
  | .XSPI_CTRL => s.xspi.run != 0
  | .XSPI_CFG => s.xspi.run != 0 || s.xspiCfgReserved v
  | .XSPI_CMD => s.xspi.run != 0 || s.xspiCmdReserved v
  | .XSPI_ADDR => s.xspi.run != 0
  | .XSPI_LEN => s.xspi.run != 0
  | .XSPI_BUF_LO => s.xspi.run != 0
  | .XSPI_BUF_HI => s.xspi.run != 0
  | .XSPI_DATA => s.xspi.run != 0
  | .XSPI_POLL => s.xspi.run != 0
  | .XSPI_POLL_TO => s.xspi.run != 0
  | .BOOT_MBOX => s.flag F.BOOT_MBOX_PEND
  | .CRY_CMD => s.crypto.cmd.isSome
  | .CRY_DST_LO => bits v 0 6 != 0
  | .WD_TIMEOUT => decide (bits v 0 16 ≤ s.fget F.WD_WINDOW_MS n)
  | .WD_WINDOW => decide (s.fget F.WD_TIMEOUT_MS n ≤ bits v 0 16)
  | .DARN_CTRL => bits v 0 1 == 1 && bits v 1 1 == 1
  | .DARN_BANK_IDX => bits v 9 2 == 3 || decide (sramBanks (bits v 9 2) ≤ bits v 0 9)
  | .CORE_CTRL => bits v 1 1 == 1 && s.flag F.CORE_CTRL_RUN n
  | _ => false

/-! ### Conditions on the state that a write or a press would create -/

/-- A check that a state fails: the abort reason of the validation table, and the fields that the check reads, by register
address and mask. -/
structure Failure where
  reason : Nat
  reads : List (Nat × Word)
deriving DecidableEq, Repr

/-- A field as a check reads it. -/
def Fld.read (f : Fld) (n : Nat) : Nat × Word := (f.reg.addr n, maskOf f.lo f.width)

/-- A failure with `reason` when `bad` holds. -/
def failIf (bad : Bool) (reason : Nat) (reads : List (Nat × Word)) : List Failure := if bad then [⟨reason, reads⟩] else []

/-- Combinations of ANG_CFG of engine `n`. -/
def State.angFails (t : State) (n : Nat) : List Failure :=
  let ppr := t.fget F.ANG_CFG_PPR n
  let m := t.fget F.ANG_CFG_REF_MODE n
  failIf (t.flag F.ANG_CFG_TBL_EN n && decide (1024 < ppr)) 1 [F.ANG_CFG_TBL_EN.read n, F.ANG_CFG_PPR.read n] ++
  failIf (t.flag F.ANG_CFG_REF_REQ n && m == 0) 1 [F.ANG_CFG_REF_REQ.read n, F.ANG_CFG_REF_MODE.read n] ++
  failIf (m == 2 && (t.fget F.ANG_CFG_GAP_TEETH n == 0 || decide (ppr < 8))) 1
    [F.ANG_CFG_GAP_TEETH.read n, F.ANG_CFG_REF_MODE.read n, F.ANG_CFG_PPR.read n] ++
  failIf (m == 1 && t.fget F.ANG_CFG_RSEL n == t.fget F.ANG_CFG_TSEL n) 1
    [F.ANG_CFG_REF_MODE.read n, F.ANG_CFG_RSEL.read n, F.ANG_CFG_TSEL.read n]

/-- EDGE of channel `c` with a generator that is no cell output. -/
def State.evrFails (t : State) (c : Nat) : List Failure :=
  let g := t.fget F.EVR_CFG_SRC c
  failIf (t.fget F.EVR_CFG_EDGE c != 0 && !(0x190 ≤ g && g ≤ 0x1AF)) 1 [F.EVR_CFG_EDGE.read c, F.EVR_CFG_SRC.read c]

/-- The filter settings of cell `j`. -/
def State.cellFails (t : State) (j : Nat) : List Failure :=
  failIf (t.fget F.EVL_CELL_MODE_FMODE j == 2 && t.fget F.EVL_CELL_MODE_DEB j == 0) 1
    [F.EVL_CELL_MODE_FMODE.read j, F.EVL_CELL_MODE_DEB.read j] ++
  failIf (t.fget F.EVL_CELL_MODE_FMODE j == 1 && t.fget F.EVL_CELL_MODE_FILT j == 0) 1
    [F.EVL_CELL_MODE_FMODE.read j, F.EVL_CELL_MODE_FILT.read j]

/-- A spare cell in use in an unpowered group. -/
def State.spareFails (t : State) (g : Nat) : List Failure :=
  failIf (t.flag F.AIN_SPARE_EN g && !t.fbit F.AIN_GRP_PWR_EN 0 g) 1 [F.AIN_SPARE_EN.read g]

/-- Field of entry `e` of stream `i`. -/
def strEntry (i e : Nat) : Nat × Word := (Reg.addr .STR_CH (4 * i + e / 4), maskOf (8 * (e % 4)) 8)

/-- Entry `e` of stream `i`. -/
def State.strEntryOf (t : State) (i e : Nat) : Nat := bits (t.reg .STR_CH (4 * i + e / 4)) (8 * (e % 4)) 8

/-- The members of stream `i`: stream, entry and channel. -/
def State.strMembers (t : State) (i : Nat) : List (Nat × Nat × Nat) :=
  (List.range (t.fget F.STR_CFG_NCH i)).map (fun e => (i, e, t.strEntryOf i e))

/-- The members of the enabled streams. -/
def State.allMembers (t : State) : List (Nat × Nat × Nat) :=
  (indices 64 (fun i => t.flag F.STR_CTRL_EN i)).flatMap t.strMembers

/-- Every pair of a list, the earlier member first. -/
def pairsOf {α : Type} : List α → List (α × α)
  | [] => []
  | x :: xs => xs.map (fun y => (x, y)) ++ pairsOf xs

/-- The list checks of stream `i` (R126). -/
def State.strFails (t : State) (i : Nat) : List Failure :=
  (t.strMembers i).flatMap (fun m =>
    failIf (decide (192 ≤ m.2.2)) 1 [strEntry i m.2.1, F.STR_CFG_NCH.read i]) ++
  (pairsOf (t.strMembers i)).flatMap (fun p =>
    failIf (p.1.2.2 == p.2.2.2) 1 [strEntry i p.1.2.1, strEntry i p.2.2.1, F.STR_CFG_NCH.read i])

/-- A channel in two enabled streams (R126). -/
def State.sharedFails (t : State) : List Failure :=
  (pairsOf t.allMembers).flatMap (fun p =>
    failIf (p.1.1 != p.2.1 && p.1.2.2 == p.2.2.2) 1
      [strEntry p.1.1 p.1.2.1, strEntry p.2.1 p.2.2.1, F.STR_CTRL_EN.read p.1.1, F.STR_CTRL_EN.read p.2.1,
        F.STR_CFG_NCH.read p.1.1, F.STR_CFG_NCH.read p.2.1])

/-- The enabled writers of lines: line, and the fields that say so. -/
def State.writers (t : State) : List (Nat × List (Nat × Word)) :=
  (indices 64 (fun i => t.flag F.STR_CTRL_EN i && t.flag F.STR_CTRL_DEST_LINE i)).map
    (fun i => (t.fget F.STR_CFG_LINE i, [F.STR_CTRL_EN.read i, F.STR_CTRL_DEST_LINE.read i, F.STR_CFG_LINE.read i])) ++
  (indices 16 (fun l => t.flag F.RL_CTRL_EN l && t.fget F.RL_CTRL_DEST l == 0)).map
    (fun l => (t.fget F.RL_CFG_LINE l, [F.RL_CTRL_EN.read l, F.RL_CTRL_DEST.read l, F.RL_CFG_LINE.read l]))

/-- Two enabled writers name one line (R126). -/
def State.writerFails (t : State) : List Failure :=
  (pairsOf t.writers).flatMap (fun p => failIf (p.1.1 == p.2.1) 1 (p.1.2 ++ p.2.2))

/-- The checks of lane `l` (R126, and REC_LOG2 of RL_CFG). -/
def State.laneFails (t : State) (l : Nat) : List Failure :=
  let src := t.fget F.RL_CFG_SRC l
  let en := t.flag F.RL_CTRL_EN l
  let dest := t.fget F.RL_CTRL_DEST l
  let room := if dest = 1 then 0x1000000 else 0x400000
  let size := t.fget F.RL_RING_RECS_RECS l * (32 + 4 * t.fget F.STR_CFG_NCH src * 2 ^ t.fget F.RL_CFG_REC_LOG2 l)
  failIf (decide (t.fget F.RL_CFG_M l < t.fget F.RL_CFG_REC_LOG2 l)) 1 [F.RL_CFG_M.read l, F.RL_CFG_REC_LOG2.read l] ++
  failIf (en && !(t.flag F.STR_CTRL_EN src && t.flag F.STR_CFG_SHAFT src)) 1
    [F.RL_CTRL_EN.read l, F.RL_CFG_SRC.read l, F.STR_CTRL_EN.read src, F.STR_CFG_SHAFT.read src] ++
  failIf (en && dest != 0 && decide (room < 32 * t.fget F.RL_RING_BASE_BASE l + size)) 1
    [F.RL_CTRL_EN.read l, F.RL_CTRL_DEST.read l, F.RL_RING_BASE_BASE.read l, F.RL_RING_RECS_RECS.read l,
      F.RL_CFG_REC_LOG2.read l, F.RL_CFG_SRC.read l, F.STR_CFG_NCH.read src]

/-- The fields of WELQ_MAP. -/
def mapFields : List (Nat × Word) :=
  (List.range 4).map (fun k => (Reg.addr .WELQ_MAP k, 0x1F1F1F1F#32))

/-- The map of the engines breaks R180 where the live state `s` did not, or differently. -/
def State.mapFails (s t : State) : List Failure :=
  failIf (!t.mapSound && (s.mapSound || (List.range 4).any (fun k => s.reg .WELQ_MAP k != t.reg .WELQ_MAP k))) 1 mapFields

/-- A class limit above the ceiling of the governor (R169). -/
def State.govFails (t : State) : List Failure :=
  (List.range 4).flatMap (fun c =>
    failIf (decide (t.fget F.GOV_CEIL_CEIL < t.fget F.GOV_LIMIT_LIMIT c)) 1
      [F.GOV_CEIL_CEIL.read 0, F.GOV_LIMIT_LIMIT.read c])

/-- Channels that the new state enables and that are not bindable (R88); `s` is the live state. -/
def State.enableFails (s t : State) : List Failure :=
  (List.range 6).flatMap (fun r =>
    if s.reg .AIN_CHEN r = t.reg .AIN_CHEN r then []
    else
      (List.range 32).flatMap (fun i =>
        failIf (t.chEnabled (32 * r + i) && !s.chEnabled (32 * r + i) && !s.bindable (32 * r + i)) 4
          [(Reg.addr .AIN_CHEN r, maskOf i 1)]))

/-- The ABSENT checks of streams (R126). -/
def State.memberFails (s t : State) : List Failure :=
  let old := (s.allMembers).map (·.2.2)
  t.allMembers.flatMap (fun m =>
    let c := m.2.2
    let here := [strEntry m.1 m.2.1, F.STR_CTRL_EN.read m.1, F.STR_CFG_NCH.read m.1]
    failIf (!old.contains c && !s.bindable c) 4 here ++
    failIf (!t.chEnabled c) 4 ((Reg.addr .AIN_CHEN (c / 32), maskOf (c % 32) 1) :: here))

/-- A combinational loop of cells (R293). -/
def State.loopFails (t : State) : List Failure :=
  failIf t.cellLoop.isSome 5
    ((List.range 32).flatMap (fun j =>
      [(Reg.addr .EVL_CELL_IN j, 0xFFFFFFFF#32), F.EVL_CELL_MODE_MODE.read j, F.EVL_CELL_MODE_FMODE.read j]))

/-- The epoch budget (R73). -/
def State.budgetFails (t : State) : List Failure :=
  failIf (decide (t.fget F.AIN_EPOCH_DIV_DIV < t.chCount + 8)) 6
    (F.AIN_EPOCH_DIV_DIV.read 0 :: (List.range 6).map (fun r => (Reg.addr .AIN_CHEN r, 0xFFFFFFFF#32)))

/-- The failures of the second pass of R225 of the pressed state `t` against the live state `s`, in order: the reserved
combinations, ABSENT, LOOP and the epoch budget. -/
def State.pressFails (s t : State) : List Failure :=
  (List.range 32).flatMap t.angFails ++ (List.range 128).flatMap t.evrFails ++ (List.range 32).flatMap t.cellFails ++
  (List.range 12).flatMap t.spareFails ++ (List.range 64).flatMap t.strFails ++ t.sharedFails ++ t.writerFails ++
  (List.range 16).flatMap t.laneFails ++ s.mapFails t ++ t.govFails ++
  s.enableFails t ++ s.memberFails t ++ t.loopFails ++ t.budgetFails

/-- The failures that concern a direct write to register `n` of array `r`. -/
def State.writeFails (s t : State) (r : Reg) (n : Nat) : List Failure :=
  let streams := t.sharedFails ++ t.writerFails ++ (List.range 16).flatMap t.laneFails ++ s.memberFails t
  match r with
  | .ANG_CFG => t.angFails n
  | .EVR_CFG => t.evrFails n
  | .EVL_CELL_MODE => t.cellFails n ++ t.loopFails
  | .EVL_CELL_IN => t.loopFails
  | .AIN_SPARE => t.spareFails n
  | .AIN_EPOCH_DIV => t.budgetFails
  | .AIN_CHEN => s.enableFails t ++ s.memberFails t ++ t.budgetFails
  | .STR_CTRL => t.strFails n ++ streams
  | .STR_CFG => t.strFails n ++ streams
  | .STR_CH => t.strFails (n / 4) ++ streams
  | .RL_CTRL => streams
  | .RL_CFG => streams
  | .RL_RING_BASE => streams
  | .RL_RING_RECS => streams
  | .WELQ_MAP => s.mapFails t
  | .GOV_CEIL => t.govFails
  | .GOV_LIMIT => t.govFails
  | _ => []

end Sys2Proof.Machine
end

