-- ==== Sys2Proof/Machine/View.lean ====
section
/-!
DEFINITION. What a register reads as: who reads it, the owner check, the registers that show what a block holds, and the
freeze groups.
-/

namespace Sys2Proof.Machine

/-! ### Requesters -/

/-- What an access carries: the requester identifier (R12 gives 0 to the debug port), the security attribute, whether it
holds the rights of S (R14, R15), its code in FAB_ERR_INFO.SOURCE, and the number of its freeze captures (7 is the debug
port). -/
structure Who where
  id : Nat
  secure : Bool
  isS : Bool
  src : Nat
  cap : Nat
deriving DecidableEq, Repr

/-- Core `x` runs in supervisor level (R247). -/
def State.supervisor (s : State) (x : Nat) : Bool :=
  match s.cores[x]? with
  | some c => c.psw.getLsbD 0
  | none => false

/-- The attributes of a requester (tables "Requester identifiers" and SOURCE; R12, R15, R247). -/
def State.who (s : State) : Requester → Who
  | .core x => if x.val = 0 then ⟨0, true, true, 0, 0⟩ else ⟨x.val, s.supervisor x.val, false, x.val, x.val⟩
  | .host => ⟨5, false, false, 5, 5⟩
  | .ring => ⟨5, false, false, 7, 5⟩
  | .twin => ⟨6, s.fget F.PAIR_STATUS_STATE == 2 || s.fget F.PAIR_STATUS_STATE == 3, false, 6, 6⟩
  | .debug => ⟨0, s.fuses.life != 1, s.fuses.life != 1, 11, 7⟩

/-- The requester exists in this power state: a core whose domain is clocked, the links, the debug port in D_ACQ. -/
def State.canIssue (s : State) : Requester → Bool
  | .core x => s.domLive (coreDomain x.val)
  | .host => s.domLive .lnk
  | .ring => s.domLive .lnk
  | .twin => s.domLive .lnk
  | .debug => s.domLive .acq

/-- The owner check of page `p` (R13–R15). -/
def State.ownerPass (s : State) (w : Who) (p : Nat) : Bool :=
  w.isS ||
    ((s.fget F.PAGE_OWNER_OWNER p == w.id || s.fget F.PAGE_OWNER_OWNER p == 7) &&
      (!s.flag F.PAGE_OWNER_SEC p || w.secure))

/-! ### Registers that show what a block holds -/

/-- The word that BS_RIDX of slot `n` selects (R242). -/
def State.bsRead (s : State) (n : Nat) : Word :=
  match (s.slot n).entries[s.fget F.BS_RIDX_INDEX n]? with
  | none => 0#32
  | some e => [e.addr, e.mask, e.value].getD (s.fget F.BS_RIDX_WORD n) 0#32

/-- What register `n` of array `r` holds, as a requester that passes every check reads it now. -/
def State.regWord (s : State) (r : Reg) (n : Nat) : Word :=
  let raw := s.reg r n
  match r with
  | .PAGE_CTRL => if s.softReset.contains n then raw ||| 2#32 else raw
  | .PAGE_STATUS => if s.softReset.contains n || s.checks.any (fun x => x.1 == n) then raw ||| 8#32 else raw
  | .PAGE_SHADOW =>
    let m := s.slotMask n
    let low := ((List.range 8).find? (fun i => m.testBit i)).getD 0
    BitVec.ofNat 32 (256 * m + 2 * low + (if m = 0 then 0 else 1))
  | .CH_FLAGS => withBits raw 2 1 (if s.bindable n then 1 else 0)
  | .BS_RDATA => s.bsRead n
  | .BKD_STATUS => withBits raw 9 1 (if s.substActive then 1 else 0)
  | .EVL_CELL_STAT =>
    match s.router.cells[n]? with
    | some c =>
      BitVec.ofNat 32 ((if c.q then 2 else 0) + (if s.router.prevOut.getD n false then 1 else 0))
    | none => 0#32
  | .ANG_TBL_DATA =>
    BitVec.ofNat 32 (tblGet (s.eng n).table (1024 * s.fget F.ANG_TBL_IDX_RD_HALF n + s.fget F.ANG_TBL_IDX_INDEX n))
  | .RL_TBL_DATA => BitVec.ofNat 32 (s.rlEntry n (s.fget F.RL_TBL_IDX_RD_HALF n) (s.fget F.RL_TBL_IDX_INDEX n))
  | .PEG_LINE => BitVec.ofNat 32 (s.pegView r)
  | .PEG_FIRST => BitVec.ofNat 32 (s.pegView r)
  | .PEG_COUNT => BitVec.ofNat 32 (s.pegView r)
  | .PEG_BEFORE => BitVec.ofNat 32 (s.pegView r)
  | .PEG_AFTER => BitVec.ofNat 32 (s.pegView r)
  | .PEG_STATE => BitVec.ofNat 32 (s.pegView r)
  | .HBMC_TDATA => BitVec.ofNat 32 (tblGet (s.stack n).tdata (s.fget F.HBMC_TIDX_INDEX n))
  | .CS_DATA => s.csData (n / 5) (n % 5)
  | .CS_DATA5 => s.csData n 5
  | .WELQ_QSTAT => s.qStat n
  | .BEACON_TIME_LO => BitVec.ofInt 32 (s.sysTime16 s.now / 16)
  | .BEACON_TIME_HI => BitVec.ofInt 32 (s.sysTime16 s.now / 16 / 2 ^ 32)
  | .IDB_STATUS => withBits raw 8 2 (Config.idbLevel n s.draws).toNat
  | .WD_STATUS => withBits raw 16 16 (min 65535 (((s.wdt n).left * 1000 + 32767) / 32768))
  | .FUSE_LIFE => BitVec.ofNat 32 s.fuses.life
  | .FUSE_KEYSTAT => BitVec.ofNat 32 (256 * s.fuses.revoked + s.fuses.programmed)
  | .FUSE_ROLLBACK => BitVec.ofNat 32 s.fuses.rollback
  | .FUSE_KEY => (s.fuses.keys.getD (n / 8) []).getD (n % 8) 0#32
  | .FUSE_UID => s.fuses.uid.getD n 0#32
  | .DARN_BANK_INFO => s.bankInfo
  | .CORE_STATUS =>
    if s.coreStands n then 0#32
    else if s.coreWaits (coreOf n) then 2#32 else 1#32
  | .CORE_PC =>
    if !s.coreStands n then Config.runningPc (coreOf n) s.draws
    else ((s.cores[coreOf n]?).map (fun c => c.next)).getD 0#32
  | .CORE_IRQ_PEND_LO => s.irqWord (coreOf n) 0
  | .CORE_IRQ_PEND_HI => s.irqWord (coreOf n) 32
  | .CORE_IRQ_ID =>
    match s.irqOpen (coreOf n) with
    | [] => 0x40#32
    | i :: _ => BitVec.ofNat 32 i
  | _ => raw

/-! ### Freeze groups -/

/-- A freeze group: its members, the release register and the stale flag. -/
structure FreezeGroup where
  members : List (Reg × Nat)
  release : Reg × Nat
  stale : Fld × Nat
deriving DecidableEq, Repr

/-- Members of one index. -/
def groupOf (rs : List Reg) (last : Reg) (n : Nat) (stale : Fld) (k : Nat) : Option FreezeGroup :=
  some ⟨rs.map (fun r => (r, n)), (last, n), (stale, k)⟩

/-- The freeze group to which register `n` of array `r` belongs, if it is in one now (R63, R343, R347 and the register
tables). The line group exists while the line is enabled. -/
def State.freezeGroup (s : State) (r : Reg) (n : Nat) : Option FreezeGroup :=
  let ang := groupOf [.ANG_POS_LO, .ANG_POS_HI, .ANG_WRAP, .ANG_SPEED, .ANG_EPOCH_LO, .ANG_EPOCH_HI] .ANG_EPOCH_HI n
    F.ANG_STATUS_STALE n
  let tach := groupOf [.TACH_STAMP_LO, .TACH_STAMP_HI] .TACH_STAMP_HI n F.TACH_MISC_STALE 0
  let seam := groupOf [.SEAM_NUM_LO, .SEAM_NUM_HI, .SEAM_EPOCH_LO, .SEAM_EPOCH_HI] .SEAM_EPOCH_HI n F.SEAM_STATUS_STALE 0
  let epoch := groupOf [.AIN_EPOCH_LO, .AIN_EPOCH_HI] .AIN_EPOCH_HI n F.AIN_STATUS_STALE 0
  let str := groupOf [.STR_SEQ_LO, .STR_SEQ_HI] .STR_SEQ_HI n F.STR_STATUS_STALE n
  let rl := groupOf [.RL_SEQ_LO, .RL_SEQ_HI] .RL_SEQ_HI n F.RL_STATUS_STALE n
  let line :=
    if s.flag F.LINE_CTRL_EN n then groupOf [.LINE_WR, .LINE_SEQ_LO, .LINE_SEQ_HI] .LINE_SEQ_HI n F.LINE_STATUS_STALE n
    else none
  let dig := groupOf [.WELQ_DFRAME_LO, .WELQ_DFRAME_HI, .WELQ_DVALUE, .WELQ_DCOUNT] .WELQ_DCOUNT n F.WELQ_STATUS_DSTALE 0
  let stamp := groupOf [.WAKE_STAMP_LO, .WAKE_STAMP_HI] .WAKE_STAMP_HI n F.WAKE_STATUS_STALE 0
  let tick := groupOf [.BKD_TICK_LO, .BKD_TICK_HI] .BKD_TICK_HI n F.BKD_STATUS_STALE 0
  let raw := groupOf [.BKD_RAW_LO, .BKD_RAW_HI] .BKD_RAW_HI n F.BKD_STATUS_STALE 0
  let cal := groupOf [.BKD_CAL_TIME, .BKD_CAL_DATE] .BKD_CAL_DATE n F.BKD_STATUS_STALE 0
  let time := groupOf [.BEACON_TIME_LO, .BEACON_TIME_HI] .BEACON_TIME_HI n F.BEACON_STATUS_STALE 0
  let bnum := groupOf [.BEACON_BNUM_LO, .BEACON_BNUM_HI] .BEACON_BNUM_HI n F.BEACON_STATUS_STALE 0
  match r with
  | .ANG_POS_LO => ang
  | .ANG_POS_HI => ang
  | .ANG_WRAP => ang
  | .ANG_SPEED => ang
  | .ANG_EPOCH_LO => ang
  | .ANG_EPOCH_HI => ang
  | .TACH_STAMP_LO => tach
  | .TACH_STAMP_HI => tach
  | .SEAM_NUM_LO => seam
  | .SEAM_NUM_HI => seam
  | .SEAM_EPOCH_LO => seam
  | .SEAM_EPOCH_HI => seam
  | .AIN_EPOCH_LO => epoch
  | .AIN_EPOCH_HI => epoch
  | .STR_SEQ_LO => str
  | .STR_SEQ_HI => str
  | .RL_SEQ_LO => rl
  | .RL_SEQ_HI => rl
  | .LINE_WR => line
  | .LINE_SEQ_LO => line
  | .LINE_SEQ_HI => line
  | .WELQ_DFRAME_LO => dig
  | .WELQ_DFRAME_HI => dig
  | .WELQ_DVALUE => dig
  | .WELQ_DCOUNT => dig
  | .WAKE_STAMP_LO => stamp
  | .WAKE_STAMP_HI => stamp
  | .BKD_TICK_LO => tick
  | .BKD_TICK_HI => tick
  | .BKD_RAW_LO => raw
  | .BKD_RAW_HI => raw
  | .BKD_CAL_TIME => cal
  | .BKD_CAL_DATE => cal
  | .BEACON_TIME_LO => time
  | .BEACON_TIME_HI => time
  | .BEACON_BNUM_LO => bnum
  | .BEACON_BNUM_HI => bnum
  | _ => none

/-- The address that names a group: that of its release register. -/
def FreezeGroup.key (g : FreezeGroup) : Nat := g.release.1.addr g.release.2

/-- The value of a register at the capture point of its group (R63): a tach stamp is that of the most recent epoch edge
while an epoch runs. -/
def State.capWord (s : State) (r : Reg) (n : Nat) : Word :=
  let stamp := (s.tach.getD n ⟨false, none, none, 0⟩).shown
  match r with
  | .TACH_STAMP_LO => if s.epoch.running then BitVec.ofNat 32 stamp else s.regWord r n
  | .TACH_STAMP_HI => if s.epoch.running then BitVec.ofNat 32 (stamp / 2 ^ 32) else s.regWord r n
  | _ => s.regWord r n

/-- The frozen capture of a group for capture number `who`. -/
def State.frozen (s : State) (g : FreezeGroup) (who : Nat) : Option FreezeCapture :=
  s.freeze.find? (fun c => c.group == g.key && c.who == who)

/-- A read of a member captures and freezes, or reads the frozen capture; a read of the release register unfreezes
(R237). -/
def State.freezeRead (s : State) (g : FreezeGroup) (who : Nat) (r : Reg) (n : Nat) : State × Word :=
  let a := r.addr n
  let rel := decide (a = g.key)
  let rest := s.freeze.filter (fun c => !(c.group == g.key && c.who == who))
  match s.frozen g who with
  | some c => ({ s with freeze := if rel then rest else s.freeze }, ((c.words.find? (fun x => x.1 == a)).map (·.2)).getD 0#32)
  | none =>
    let v := s.capWord r n
    if rel then (s, v)
    else ({ s with freeze := s.freeze ++ [⟨g.key, who, g.members.map (fun m => (m.1.addr m.2, s.capWord m.1 m.2))⟩] }, v)

/-! ### Reading a page -/

/-- What a requester would read at register-space address `a` at this moment, with no effect (R6, R4, R13, R235). -/
def State.peek (s : State) (w : Who) (a : Nat) : Word :=
  if s.pageLive (a / 0x1000) && s.ownerPass w (a / 0x1000) then
    match regAt a with
    | some (r, n) => s.capWord r n
    | none => 0#32
  else 0#32

end Sys2Proof.Machine
end

