-- ==== Sys2Proof/Machine/Basket.lean ====
section
/-!
DEFINITION. Baskets: slots and their entries, validation, the press, and the mirrored arm (R221–R236, R393, R394).
-/

namespace Sys2Proof.Machine

/-! ### Entries -/

/-- What follows when ST fields of register `n` of array `r` have changed from what they held in `old` (R291, R294). -/
def State.stChanged (s old : State) (r : Reg) (n : Nat) : State :=
  match r with
  | .EVL_CELL_IN => s.cellRestart n
  | .EVL_CELL_TT => s.cellRestart n
  | .EVL_CELL_MODE => s.cellRestart n
  | .EVR_CFG => if s.flag F.EVR_CFG_EN n && !old.flag F.EVR_CFG_EN n then s.guardWindow n else s
  | .WELQ_MAP => forEach (List.range 4) (fun k s => s.qSettleOf (4 * n + k)) s
  | _ => s

/-- The swap of one WRITE entry into its register. -/
def State.swapEntry (s : State) (e : Entry) : State :=
  match regAt e.at with
  | some (r, n) =>
    let t := (s.setReg r n (swapWord (s.reg r n) e.mask e.value)).stChanged s r n
    if r = .ANG_CFG && e.mask &&& maskOf 16 5 != 0#32 then t.fsetB F.ANG_STATUS_ALT_ACTIVE n false else t
  | none => s

/-- The pressed state of slot `n`: the live state with its WRITE entries applied (R226). -/
def State.pressed (s : State) (n : Nat) : State :=
  forEach ((s.slot n).entries.filter (fun e => e.op == 0)) (fun e t =>
    match regAt e.at with
    | some (r, k) => t.setReg r k (swapWord (t.reg r k) e.mask e.value)
    | none => t) s

/-- The owner of slot `n` as a requester (R222). -/
def State.slotOwner (s : State) (n : Nat) : Who :=
  let id := s.fget F.BS_STATE_OWNER n
  let sec := s.flag F.BS_STATE_SEC n
  ⟨id, sec, id == 0 && sec, id, id⟩

/-! ### Validation (R225) -/

/-- The first check that entry `e` of slot `n` fails on its own, as a reason, 0 when it fails none; `t` is the pressed
state. -/
def State.entryFails (s t : State) (n : Nat) (e : Entry) : Nat :=
  let inPages := decide (0x40000000 ≤ e.addr.toNat ∧ e.addr.toNat ≤ 0x400FFFFF)
  let p := e.at / 0x1000
  if e.op = 3 || !inPages || (pageInfo p).isNone || p == 0x0B then 1
  else
    match regAt e.at with
    | none => 1
    | some (r, k) =>
      let bad (f : FieldDesc) : Bool :=
        f.acc.writable && e.mask &&& maskOf f.lo f.width != 0#32 && fieldReserved r k f (bits (t.reg r k) f.lo f.width)
      let taken (m : Nat) : Bool :=
        m != n && s.slotArmed m &&
          (s.slot m).entries.any (fun o => o.op == 0 && o.at == e.at && o.mask &&& e.mask != 0#32)
      if (e.op = 0 && e.mask == 0#32) || (e.op != 0 && e.mask != 0#32) then 1
      else if e.op = 0 && r.fields.any bad then 1
      else if !s.ownerPass (s.slotOwner n) p then 2
      else if e.mask &&& ~~~r.stMask != 0#32 || !s.pageLive p then 3
      else if e.op = 0 && (List.range 8).any taken then 6
      else 0

/-- The lowest WRITE entry of slot `n` that covers a bit that a failing check reads, or 0. -/
def State.failEntry (s : State) (n : Nat) (f : Failure) : Nat :=
  ((s.slot n).entries.findIdx? (fun e =>
    e.op == 0 && f.reads.any (fun x => x.1 == e.at && x.2 &&& e.mask != 0#32))).getD 0

/-- The second pass on slot `n`: reason and failing entry of the first failure. -/
def State.secondPass (s : State) (n : Nat) : Option (Nat × Nat) :=
  match s.pressFails (s.pressed n) with
  | [] => none
  | f :: _ => some (f.reason, s.failEntry n f)

/-- Both passes on slot `n`. -/
def State.validate (s : State) (n : Nat) : Option (Nat × Nat) :=
  let t := s.pressed n
  match ((s.slot n).entries.map (s.entryFails t n)).findIdx? (fun r => r != 0) with
  | some i => some (((s.slot n).entries.map (s.entryFails t n)).getD i 0, i)
  | none => s.secondPass n

/-! ### The slots -/

/-- BUSY of the BASKET page: an arm is being validated. -/
def State.bsBusy (s : State) : State := s.setBusy 0x0B ((List.range 8).any (fun n => (s.slot n).arming))

/-- A message of the mirrored arm to the twin (R393): operation, slot, AUX and payload. -/
def State.basketMsg (s : State) (op n aux : Nat) (payload : List Byte) : State := s.toTwin 4 (8 * op + n) aux payload

/-- Slot `n` is ABORTED with a reason, and `fail` as its failing entry; its interrupt and generator wait for the window
when it is the press that aborts it. -/
def State.bsAborted (s : State) (n reason : Nat) (fail : Option Nat) : State :=
  let s := (s.fset F.BS_STATE_STATE n 4).fset F.BS_STATE_REASON n reason
  let s := match fail with
    | some i => s.fset F.BS_INFO_FAIL_ENTRY n i
    | none => s
  let s := s.fsetBit F.BASKET_STATUS_ARMED 0 n false
  let s := (s.setSlot n { s.slot n with arming := false }).bsBusy
  if (s.slot n).twin = 0 then s else s.ownOutcome n 1 reason 0

/-- Slot `n` aborts outside a press window. -/
def State.bsAbort (s : State) (n reason : Nat) (fail : Option Nat) : State :=
  ((s.bsAborted n reason fail).irq 0x0B (8 + n)).pulse (0x1B8 + n)

/-- DEFER of slot `n` increments (R227, R228). -/
def State.bsDefer (s : State) (n : Nat) : State := (s.faddSat F.BS_INFO_DEFER n 1).irq 0x0B (16 + n)

/-- The target of slot `n`. -/
def State.bsTarget (s : State) (n : Nat) : Nat := s.get64 .BS_TARGET_LO .BS_TARGET_HI n

/-- The number of the last seam of the generator of slot `n`. -/
def State.bsSeamNum (s : State) (n : Nat) : Nat := s.get64 .SEAM_NUM_LO .SEAM_NUM_HI (s.fget F.BS_SEAM_GEN n)

/-- A value written to BS_VALUE of slot `n` by `w` appends an entry (R222). -/
def State.bsAppend (s : State) (n : Nat) (w : Who) (v : Word) : State :=
  let x := s.slot n
  if 512 ≤ x.entries.length then s.bsAbort n 6 none
  else
    let s := if x.entries.isEmpty then
        (s.fset F.BS_STATE_OWNER n w.id).fsetB F.BS_STATE_SEC n w.secure
      else s
    let s := s.setSlot n { x with entries := x.entries ++ [⟨s.reg .BS_ADDR n, s.reg .BS_MASK n, v⟩] }
    s.fset F.BS_STATE_COUNT n (x.entries.length + 1)

/-- CLOSE of an OPEN slot. -/
def State.bsClose (s : State) (n : Nat) : State := s.fset F.BS_STATE_STATE n 1

/-- ARM of a FILLED slot: its validation begins. -/
def State.bsArm (s : State) (n : Nat) : State := (s.setSlot n { s.slot n with arming := true, lost := none }).bsBusy

/-- CANCEL of a FILLED or ARMED slot; the twin is told of a mirrored one that was sent to it (R393). -/
def State.bsCancel (s : State) (n : Nat) : State :=
  let s := if (s.slot n).twin = 1 then s.basketMsg 5 n 0 [] else s
  s.bsAbort n 7 none

/-- CLEAR: the slot is OPEN, empty and without an owner, and its records are 0 (R223, R242). -/
def State.bsClear (s : State) (n : Nat) : State :=
  let s := s.setSlot n ⟨[], false, 0, 0, 0, none⟩
  let s := s.setReg .BS_STATE n (Reg.reset .BS_STATE n)
  let s := (s.set64 .BS_PNUM_LO .BS_PNUM_HI n 0).set64 .BS_PEPOCH_LO .BS_PEPOCH_HI n 0
  s.setReg .BS_INFO n 0#32

/-- The entries of slot `n` as they travel, 16 bytes each. -/
def entryBytes (e : Entry) : List Byte := leBytes 4 e.addr.toNat ++ leBytes 4 e.mask.toNat ++ leBytes 4 e.value.toNat ++ leBytes 4 0

/-- Send the entries of slot `n` from entry `i` on, 64 to a packet. -/
def State.sendEntries (s : State) (n : Nat) : Nat → Nat → State
  | 0, _ => s
  | fuel + 1, i =>
    let xs := ((s.slot n).entries.drop i).take 64
    if xs.isEmpty then s
    else (s.basketMsg 0 n i (xs.flatMap entryBytes)).sendEntries n fuel (i + 64)

/-- A mirrored arm of a PRIMARY goes to the twin (R229, R393). A SECONDARY arms no mirrored basket of its own (R390): its slot arms by
itself (log entry 59). -/
def State.mirrorArm (s : State) (n : Nat) : State :=
  let st := s.fget F.PAIR_STATUS_STATE
  if s.flag F.BS_CTRL_MIRROR n && st == 2 then
    let s := s.setSlot n { s.slot n with twin := 1 }
    let s := s.sendEntries n 8 0
    let own := s.fget F.BS_STATE_OWNER n + 8 * s.fget F.BS_STATE_SEC n
    s.basketMsg 1 n 0 (leBytes 8 (s.bsTarget n) ++ leBytes 1 (s.fget F.BS_SEAM_GEN n) ++ leBytes 1 own ++
      leBytes 2 (s.slot n).entries.length ++ leBytes 4 0)
  else s

/-- The validation of slot `n` ends (R223, R225, R227). -/
def State.armDone (s : State) (n : Nat) : State :=
  if !(s.slot n).arming then s
  else
    let fromTwin := (s.slot n).twin = 2
    let s := (s.setSlot n { s.slot n with arming := false }).bsBusy
    match s.validate n with
    | some (reason, i) =>
      let s := s.bsAbort n reason (some i)
      if fromTwin then s.basketMsg 4 n reason [] else s
    | none =>
      let s := (s.fset F.BS_STATE_STATE n 2).fsetBit F.BASKET_STATUS_ARMED 0 n true
      let s := s.setSlot n { s.slot n with armedAt := s.now, eligible := 0, lost := none }
      let s := if s.fget F.BS_SEAM_MODE n == 1 && decide (s.bsTarget n ≤ s.bsSeamNum n) then s.bsDefer n else s
      if fromTwin then s.basketMsg 2 n 0 [] else s.mirrorArm n

/-- A read of BS_RDATA of slot `n` moves WORD and INDEX on (R242). -/
def State.bsAdvance (s : State) (n : Nat) : State :=
  if s.fget F.BS_RIDX_WORD n < 2 then s.fadd F.BS_RIDX_WORD n 1
  else (s.fset F.BS_RIDX_WORD n 0).fadd F.BS_RIDX_INDEX n 1

/-! ### The press (R230–R235) -/

/-- Slot `n` meets its rule at a seam of its generator on the edge at tick `t` (R227). -/
def State.bsMeets (s : State) (n t : Nat) : Bool :=
  s.slotArmed n && s.seams.contains (s.fget F.BS_SEAM_GEN n) && decide ((s.slot n).armedAt + 64 ≤ t) &&
    (s.fget F.BS_SEAM_MODE n == 0 || decide (s.bsTarget n ≤ s.bsSeamNum n))

/-- A mirrored slot waits for its twin at epoch `num` (R228, R229, R394). -/
def State.bsWaits (s : State) (n num : Nat) : Bool :=
  (s.slot n).twin != 0 && s.fget F.PAIR_STATUS_STATE != 4 &&
    (!s.flag F.BS_STATE_TWIN_OK n || decide (num < (s.slot n).eligible))

/-- Replace the value of each SNAP entry of slot `n` whose operation is `op` by what its requester would read. -/
def State.bsSnap (s : State) (n op : Nat) : State :=
  let w := s.slotOwner n
  s.setSlot n { s.slot n with entries := (s.slot n).entries.map (fun (e : Entry) =>
    if e.op = op then { e with value := s.peek w e.at } else e) }

/-- The WRITE entries of slot `n` are swapped in; those of a clock-stopped domain wait for its clocks (R234). -/
def State.bsSwap (s : State) (n : Nat) : State :=
  forEach ((s.slot n).entries.filter (fun e => e.op == 0)) (fun e s =>
    if (pageInfo (e.at / 0x1000)).any (fun i => s.domLive i.1) then s.swapEntry e
    else { s with basket := { s.basket with later := s.basket.later ++ [(e.at, e.mask, e.value)] } }) s

/-- The press-time checks of slot `n` (R231): none, or the reason and the failing entry. -/
def State.pressCheck (s : State) (n : Nat) : Option (Nat × Nat) :=
  let off := (s.slot n).entries.findIdx? (fun e => (pageInfo (e.at / 0x1000)).any (fun i => s.domPower i.1 == .off))
  match lowerOf (s.slot n).lost off with
  | some i => some (3, i)
  | none => s.secondPass n

/-- The verdicts on the pressing slots in order (R230 step 2): each is checked against the state that the slots before it will
leave. -/
def State.pressVerdicts (s : State) : List Nat → List (Nat × Option (Nat × Nat))
  | [] => []
  | n :: rest =>
    let v := s.pressCheck n
    (n, v) :: (if v.isNone then s.pressed n else s).pressVerdicts rest

/-- Slot `n` fails its press (R230 step 3). -/
def State.pressFail (s : State) (n reason i : Nat) : State :=
  let s := s.bsAborted n reason (some i)
  { s with basket := { s.basket with closing := s.basket.closing ++ [(n, false)] } }

/-- Slot `n` has pressed at epoch `num`: its records (R230 step 4, R227). -/
def State.pressRecord (s : State) (num n : Nat) : State :=
  let k := s.bsSeamNum n
  let late := s.fget F.BS_SEAM_MODE n == 1 && decide (s.bsTarget n < k)
  let s := (s.set64 .BS_PNUM_LO .BS_PNUM_HI n k).set64 .BS_PEPOCH_LO .BS_PEPOCH_HI n num
  let s := if late then s.fsetB F.BS_STATE_LATE n true else s
  let s := if (s.slot n).twin = 0 then s else s.ownOutcome n 0 0 k
  { s with basket := { s.basket with closing := s.basket.closing ++ [(n, true)] } }

/-- An AT arm of slot `n` that counts as having completed after the edge at tick `t` (R223) finds its target reached by a seam of
that edge, whose number was `was` before (R227). -/
def State.bsPassed (s : State) (n t was : Nat) : Bool :=
  s.slotArmed n && decide (t < (s.slot n).armedAt + 64) && s.fget F.BS_SEAM_MODE n == 1 &&
    decide (was < s.bsTarget n ∧ s.bsTarget n ≤ s.bsSeamNum n)

/-- The seam of slot `n` has fallen and the window has not closed: the slot counts as PRESSED (log entry 104). -/
def State.bsPressing (s : State) (n : Nat) : Bool := s.basket.closing.contains (n, true)

/-- The slots at the epoch edge `num` at tick `t`: those that meet their rule press in one window, or wait (R228, R230). `old` is
the state before the seams of the edge. -/
def State.pressEdge (s old : State) (num t : Nat) : State :=
  let s := forEach (indices 8 (fun n => s.bsPassed n t (old.bsSeamNum n))) (fun n s => s.bsDefer n) s
  let met := indices 8 (fun n => s.bsMeets n t)
  let go := met.filter (fun n => !s.bsWaits n num)
  let s := forEach (met.filter (fun n => s.bsWaits n num)) (fun n s => s.bsDefer n) s
  if go.isEmpty then s
  else
    let pages := (go.flatMap (fun n => (s.slot n).entries.map (fun e => e.at / 0x1000))).eraseDups
    let s := { s with basket := { s.basket with window := 6, heldPages := pages } }
    let verdicts := s.pressVerdicts go
    let pass := (verdicts.filter (fun v => v.2.isNone)).map (fun v => v.1)
    let s := forEach pass (fun n s => s.bsSnap n 1) s
    let s := forEach verdicts (fun (v : Nat × Option (Nat × Nat)) s =>
      match v.2 with
      | some (reason, i) => s.pressFail v.1 reason i
      | none => s) s
    let s := forEach pass (fun n s => s.bsSwap n) s
    let s := forEach pass (fun n s => s.bsSnap n 2) s
    forEach pass (fun n s => s.pressRecord num n) s

/-! ### Messages of the mirrored arm (R393, R394) -/

/-- The entries that a payload carries. -/
def entriesOf (bs : List Byte) : List Entry :=
  (List.range (bs.length / 16)).map (fun i =>
    ⟨BitVec.ofNat 32 (numAt bs (16 * i) 4), BitVec.ofNat 32 (numAt bs (16 * i + 4) 4), BitVec.ofNat 32 (numAt bs (16 * i + 8) 4)⟩)

/-- ENTRIES arrives. -/
def State.entriesMsg (s : State) (pk : Packet) : State :=
  let n := pk.sub % 8
  let x := s.slot n
  let st := s.fget F.BS_STATE_STATE n
  if pk.aux = 0 && (st != 0 || !x.entries.isEmpty) then s.basketMsg 4 n 6 []
  else if pk.aux != 0 && (x.twin != 2 || st != 0 || x.entries.length != pk.aux) then s
  else
    let xs := x.entries ++ entriesOf pk.payload
    if 512 < xs.length then (s.bsAbort n 6 none).basketMsg 4 n 6 []
    else (s.setSlot n { x with entries := xs, twin := 2 }).fset F.BS_STATE_COUNT n xs.length

/-- ARM arrives: the slot takes the target, the generator and the owner, and is validated. -/
def State.armMsg (s : State) (pk : Packet) : State :=
  let n := pk.sub % 8
  let x := s.slot n
  let owner := numAt pk.payload 9 1
  if s.fget F.BS_STATE_STATE n != 0 || x.entries.length != numAt pk.payload 10 2 || (x.twin != 2 && !x.entries.isEmpty) then
    s.basketMsg 4 n 6 []
  else
    let s := s.set64 .BS_TARGET_LO .BS_TARGET_HI n (numAt pk.payload 0 8)
    let s := (s.fset F.BS_SEAM_GEN n (numAt pk.payload 8 1)).fset F.BS_SEAM_MODE n 1
    let s := (s.fset F.BS_STATE_OWNER n owner).fset F.BS_STATE_SEC n (owner / 8)
    let s := (s.fsetB F.BS_CTRL_MIRROR n true).bsClose n
    ((s.outcomesOver n).setSlot n { x with twin := 2 }).bsArm n

/-- ARMED arrives: TWIN_OK, and the COMMIT. -/
def State.armedMsg (s : State) (pk : Packet) : State :=
  let n := pk.sub % 8
  if s.slotArmed n && (s.slot n).twin == 1 then
    let e := s.get64 .AIN_EPOCH_LO .AIN_EPOCH_HI + s.fget F.PAIR_CFG_COMMIT_EP
    let s := ((s.outcomesOver n).fsetB F.BS_STATE_TWIN_OK n true).setSlot n { s.slot n with eligible := e }
    s.basketMsg 3 n 0 (leBytes 8 e)
  else s

/-- COMMIT arrives; less than 64 ticks before its edge it is too late. -/
def State.commitMsg (s : State) (pk : Packet) : State :=
  let n := pk.sub % 8
  let e := numAt pk.payload 0 8
  let cur := s.get64 .AIN_EPOCH_LO .AIN_EPOCH_HI
  let late := decide (e ≤ cur) || (e == cur + 1 && (s.epoch.next).any (fun t => decide (t < s.now + 64)))
  if s.slotArmed n && (s.slot n).twin == 2 && !s.bsPressing n then
    if late then (s.bsAbort n 8 none).basketMsg 4 n 8 []
    else (s.fsetB F.BS_STATE_TWIN_OK n true).setSlot n { s.slot n with eligible := e }
  else s

/-- ABORTED arrives: the slot aborts with reason TWIN, or the twins diverge when it has pressed. -/
def State.abortedMsg (s : State) (pk : Packet) : State :=
  let n := pk.sub % 8
  let st := s.fget F.BS_STATE_STATE n
  if (s.slot n).twin = 0 then s
  else if (st = 1 ∨ st = 2) ∧ !s.bsPressing n then s.bsAbort n 8 none
  else if st = 2 ∨ st = 3 then s.diverge 3 n
  else s

/-- CANCEL arrives. -/
def State.cancelMsg (s : State) (pk : Packet) : State :=
  let n := pk.sub % 8
  let st := s.fget F.BS_STATE_STATE n
  if (s.slot n).twin == 2 && (st == 1 || st == 2) && !s.bsPressing n then s.bsAbort n 7 none else s

end Sys2Proof.Machine
end

