-- ==== Sys2Proof/Machine/CoreOps.lean ====
section
/-!
DEFINITION. Pending writes of the Kiltur cores: how a write lands, how a core that stops or is reset loses none or all of
them, and the copies of CORE_IRQ_EN and of the windows that govern (R30, R248–R253, R262, R265).
-/

namespace Sys2Proof.Machine

/-- Core `x` (0 is S). -/
def State.core (s : State) (x : Nat) : Core := s.cores.getD x Core.reset

/-- Replace core `x`. -/
def State.setCore (s : State) (x : Nat) (c : Core) : State := { s with cores := setAt Core.reset s.cores x c }

/-- A write of control register `n`, as its reserved bits leave it, lands: it reaches the loop mechanism too (R253). -/
def Core.landCr (c : Core) (n : Nat) (v : Word) : Core :=
  match n with
  | 0 => { c with psw := v, loopA := [v.getLsbD 4, v.getLsbD 5, v.getLsbD 6] }
  | 1 => { c with vbase := v }
  | 2 => { c with epc := v }
  | 3 => { c with ecause := v }
  | 4 => { c with estate := v }
  | 8 => { c with ls := c.ls.set 0 v, loopS := c.loopS.set 0 v }
  | 9 => { c with ls := c.ls.set 1 v, loopS := c.loopS.set 1 v }
  | 10 => { c with ls := c.ls.set 2 v, loopS := c.loopS.set 2 v }
  | 12 => { c with le := c.le.set 0 v, loopE := c.loopE.set 0 v }
  | 13 => { c with le := c.le.set 1 v, loopE := c.loopE.set 1 v }
  | 14 => { c with le := c.le.set 2 v, loopE := c.loopE.set 2 v }
  | 16 => { c with lc := c.lc.set 0 v, loopC := c.loopC.set 0 v.toNat }
  | 17 => { c with lc := c.lc.set 1 v, loopC := c.loopC.set 1 v.toNat }
  | 18 => { c with lc := c.lc.set 2 v, loopC := c.loopC.set 2 v.toNat }
  | _ => c

/-- A pending write lands. -/
def Core.land (c : Core) (w : CoreWrite) : Core :=
  match w.dest with
  | .g n => if n = 0 then c else { c with g := c.g.set n w.value }
  | .cr n => c.landCr n w.value
  | .ls n => { c with ls := c.ls.set n w.value }
  | .le n => { c with le := c.le.set n w.value }
  | .lc n => { c with lc := c.lc.set n w.value }
  | .la n => { c with psw := withBits c.psw (4 + n) 1 w.value.toNat }
  | .dfc => { c with psw := withBits c.psw 3 1 1 }
  | .irqEn n => { c with irqEn := c.irqEn.set n w.value }
  | .win n => { c with win := c.win.set n w.value }

/-- Every pending write lands, the older first. -/
def Core.landAll (c : Core) : Core := c.writes.foldl Core.land { c with writes := [] }

/-- The writes that are due land in issue order. -/
def Core.landDue (c : Core) : Core :=
  (c.writes.filter (fun w => w.left == 0)).foldl Core.land { c with writes := c.writes.filter (fun w => w.left != 0) }

/-- A write of CORE_IRQ_EN or of a window of core `x` has been stored: it governs from the fourth instruction on, and at once
while the core is stopped (R30, R265). -/
def State.coreCopy (s : State) (x : Nat) (dest : CoreDest) (v : Word) : State :=
  let c := s.core x
  if s.flag F.CORE_CTRL_RUN (coreReg x) then s.setCore x { c with writes := c.writes ++ [⟨dest, v, 3⟩] }
  else s.setCore x (c.land ⟨dest, v, 0⟩)

/-- Core `x` stops at an instruction boundary after its pending writes (R265). -/
def State.coreStopped (s : State) (x : Nat) : State := (s.setCore x (s.core x).landAll).irq (corePage x) 0

end Sys2Proof.Machine
end

