-- ==== Sys2Proof/Machine/SoftReset.lean ====
section
/-!
DEFINITION. The soft reset of a page (R17): what its registers keep because they show the state of hardware that a soft
reset leaves alone, and what of the block goes to reset.
-/

namespace Sys2Proof.Machine

/-- Fields of page `p` that a soft reset leaves: they show straps, levels at pins, power and clock states and locks that the
reset of the block does not change (log entry 60). -/
def keptFields (s : State) (p : Nat) : List (Fld × Nat) :=
  match p with
  | 0x00 => [(F.SYS_STRAPS_DEVID_BAD, 0), (F.SYS_STRAPS_DEVID, 0)]
  | 0x01 => [(F.PWR_STATUS_MODE, 0), (F.PWR_STATUS_PFW, 0)]
  | 0x03 => [(F.CLK_READY_READY, 0)]
  | 0x04 => [(F.CLKMON_STATE_STATE0, 0), (F.CLKMON_STATE_STATE1, 0), (F.CLKMON_STATE_STATE2, 0), (F.CLKMON_STATE_STATE3, 0)]
  | 0x05 => [(F.DVFS_STATUS_ACQ_NOW, 0), (F.DVFS_STATUS_ANA_NOW, 0)]
  | 0x65 =>
    [(F.GPIO_IN_IN, 0), (F.GPIO_IN_IN, 1), (F.GPIO_SAFE_SAFE, 0), (F.GPIO_SAFE_SAFE, 1), (F.GPIO_SAFE_OE_SAFE_OE, 0),
      (F.GPIO_SAFE_OE_SAFE_OE, 1)] ++ (List.range 48).map (fun n => (F.GPIO_PAD_PULL, n))
  | 0x67 => s.wdFrozen
  | 0x68 => [(F.CRY_STATUS_NMEAS, 0)]
  | 0x6A => [(F.BOOT_CTRL_MEAS_LOCK, 0)]
  | _ => []

/-- The registers of page `p` go to reset, with its interrupt bits and errors; a capture of one of its freeze groups is
gone. -/
def State.softRegs (s : State) (p : Nat) : State :=
  let t := s.clearPage p
  let t := { t with freeze := t.freeze.filter (fun c => c.group / 0x1000 != p), late := t.late.filter (fun x => x.1 / 0x1000 != p) }
  forEach (keptFields s p) (fun x t => t.fset x.1 x.2 (s.fget x.1 x.2)) t

/-- The soft reset of the AIN page (R489): `old` is the state before it. -/
def State.softAin (s old : State) : State :=
  { s with
    epoch := { Epoch.reset with softReq := old.epoch.softReq, tickSeam := old.epoch.tickSeam, tachEdges := old.epoch.tachEdges,
                                seamCounts := old.epoch.seamCounts },
    chains := { s.chains with restart := true },
    modules := old.modules.map (fun (m : Module) => ⟨m.pin, !m.pin, none⟩) }

/-- What of the block of page `p` goes to reset beside its registers, which already are; `old` is the state before. -/
def State.softBlock (s old : State) (p : Nat) : State :=
  match pageInfo p with
  | none => s
  | some (_, first) =>
    let n := p - first
    match first with
    | 0x01 => s.setTarget 0
    | 0x03 => s.clkEnWritten.tachThaw
    | 0x05 => { s with clocks := { s.clocks with dvfs := none } }
    | 0x08 =>
      { s with router := { s.router with
        guard := s.router.guard.zipIdx.map (fun (x : Nat × Nat) => if x.2 / 64 = n then 0 else x.1)
        fires := s.router.fires.filter (fun c => c / 64 != n)
        chan := s.router.chan.filter (fun c => c / 64 != n) } }
    | 0x0A => { s with router := { s.router with cells := Router.reset.cells, prevOut := Router.reset.prevOut } }
    | 0x0B => { s with basket := { Basket.reset with later := s.basket.later } }
    | 0x0C => { s with epoch := { s.epoch with softReq := none }, wel := { s.wel with counts := WelPart.reset.counts } }
    | 0x10 => forEach (List.range 4) (fun k s => s.setEng (4 * n + k) Engine.zero) s
    | 0x18 => { s with tach := s.tach.map (fun (t : Tach) => ⟨t.pin, none, none, 0⟩) }.tachThaw
    | 0x20 => s.softAin old
    | 0x21 => s.adcSoftReset (indices 9 (fun q => old.sliceState q == 4))
    | 0x23 => { s with adc := { s.adc with scan := none } }.scanAbandon
    | 0x2C => (forEach (List.range 16) (fun k s =>
        (s.bindMembers (16 * n + k) ((s.str (16 * n + k)).cur.map (·.set)) false).setStr (16 * n + k) StreamSt.reset) s).lineWriters
    | 0x30 => (forEach (List.range 8) (fun k s => s.setLane (8 * n + k) Lane.reset) s).lineWriters
    | 0x38 =>
      { s.govForget 6 with lines := { s.lines with lines := Lines.reset.lines, waiting := [], short := [], slot := 0, fetch := none } }
    | 0x39 => forEach (List.range 64) (fun l s => s.lineShow l) { s with lines := { s.lines with pegs := Lines.reset.pegs } }
    | 0x3A => (s.setStack n HbmStack.reset).hbmUpdate
    | 0x3E =>
      { s with lines := { s.lines with used := 0, cls := Lines.reset.cls, waited := false, gov := Lines.reset.gov }
        }.fsetB F.GOV_STATUS_HBM_UP 0 s.hbmReady
    | 0x40 =>
      let e := old.wel1 n
      let s := (s.dropJob n).govForget (16 + n)
      ((s.setWel n { Wel.reset with store := e.store, vreg := e.vreg, powered := e.powered }).welRefresh n).allIdle
    | 0x52 =>
      { s with wel := { s.wel with queues := WelPart.reset.queues, copies := [], frames := [], digests := [] } }.allIdle
    | 0x58 => (if n = 0 then { s with wel := { s.wel with pushes := [] } } else s).portDisable n
    | 0x5C => { s with links := { s.links with mangles := Links.reset.mangles } }
    | 0x5D => State.timeFollow { s with beacon := Beacon.reset }
    | 0x5E => ((s.setPair Pair.reset).ownBreak 2).ownBreak 3
    | 0x60 => s.setUart n { Uart.reset with fired := (s.uart n).fired }
    | 0x62 => { s with xspi := { s.xspi with run := 0, out := none } }
    | 0x63 => { s with idb := List.replicate 2 IdBus.idle }
    | 0x64 => { s with clocks := { s.clocks with pmb := false } }
    | 0x65 => s.ringHold.gpioFollow
    | 0x66 => { s with timers := [] }
    | 0x67 => { s with wdts := s.wdts.zipIdx.map (fun (x : Watchdog × Nat) => if s.flag F.WD_CTRL_LOCK x.2 then x.1 else ⟨0, 0⟩) }
    | 0x68 => { s with crypto := { s.crypto with cmd := none, passed := none } }
    | 0x69 => { s with fuses := { s.fuses with burn := none } }
    | 0x6C =>
      { s with darn := { s.darn with log := [], props := [], confirmed := [], proposed := [], tracker := [] } }.darnShow
    | 0x6E => { s with temps := ⟨[], [], true⟩ }
    | 0x70 => s.coreZero (coreOf n)
    | _ => s

/-- A 1 written to SOFT_RST of page `p`: the block goes to reset, and the page stays busy until the reset completes (R17). -/
def State.softStart (s : State) (p : Nat) : State :=
  if s.softReset.contains p then s
  else
    let s := if p = 0x20 then s.epochClose else s
    { (s.softRegs p).softBlock s p with softReset := s.softReset ++ [p] }

end Sys2Proof.Machine
end

