-- ==== Sys2Proof/Machine/Write.lean ====
section
/-!
DEFINITION. What a write to a register does once the fabric performs it and it passes the owner check of its page: the
further rights (R20, R222, R295, R302, R333, R348, R431, R446), reserved encodings, the fields it changes, and what follows.
-/

namespace Sys2Proof.Machine

/-! ### Further rights -/

/-- The channel check of channel `c` (R295). -/
def State.chanPass (s : State) (w : Who) (c : Nat) : Bool :=
  w.isS || ((s.fget F.EVR_CFG_OWNER c == w.id || s.fget F.EVR_CFG_OWNER c == 7) && (!s.flag F.EVR_CFG_SEC c || w.secure))

/-- `w` is the owner of slot `n`, or the slot has none, or `w` holds the rights of S (R222). -/
def State.slotPass (s : State) (w : Who) (n : Nat) : Bool :=
  w.isS || s.fget F.BS_STATE_OWNER n == 7 ||
    (s.fget F.BS_STATE_OWNER n == w.id && s.flag F.BS_STATE_SEC n == w.secure)

/-- Requester `w` may make the write of `v` to register `n` of array `r`, beyond the owner check of the page. -/
def State.mayWrite (s : State) (w : Who) (r : Reg) (n : Nat) (v : Word) : Bool :=
  match r with
  | .PAGE_OWNER => !s.flag F.PAGE_OWNER_LOCK n && (w.isS || w.secure)
  | .PWR_CTRL => w.isS
  | .CLKMON_CMD => w.isS
  | .RESTART => w.isS && bits v 0 16 == 0x5E7A
  | .BKD_BK => if n < 3 then w.isS else n != 3 || w.isS || (w.id == 1 && w.secure)
  | .FUSE_PROG => w.isS || (w.id == 1 && w.secure)
  | .EVR_CFG =>
    s.chanPass w n &&
      ((bits v 28 3 == s.fget F.EVR_CFG_OWNER n && bits v 27 1 == s.fget F.EVR_CFG_SEC n) || w.secure || w.isS)
  | .EVR_GUARD => s.chanPass w n
  | .EVR_CSTAT => s.chanPass w n
  | .EVR_TSEL => s.chanPass w (bits v 0 7) && (bits v 23 1 == 0 || s.chanPass w (bits v 16 7))
  | .BS_CTRL => s.slotPass w n
  | .BS_VALUE => s.slotPass w n
  | .BS_SEAM => s.slotPass w n
  | .WD_CTRL => !s.flag F.WD_CTRL_LOCK n
  | .WD_TIMEOUT => !s.flag F.WD_CTRL_LOCK n
  | .WD_WINDOW => !s.flag F.WD_CTRL_LOCK n
  | _ => true

/-! ### Storing -/

/-- What a write of `v` leaves in a register that holds `old`, by the access codes of its fields (R2, R8). -/
def mergeWord (r : Reg) (old v : Word) : Word :=
  r.fields.foldl (fun x f =>
    match f.acc with
    | .rw => withBits x f.lo f.width (bits v f.lo f.width)
    | .st => withBits x f.lo f.width (bits v f.lo f.width)
    | .w1s => x ||| (v &&& maskOf f.lo f.width)
    | .w1c => x &&& ~~~(v &&& maskOf f.lo f.width)
    | _ => x) old

/-- The word that a write of `v` leaves in register `n` of array `r`. -/
def State.stored (s : State) (r : Reg) (n : Nat) (v : Word) : Word :=
  match r with
  | .CLK_PEN => s.penValue n v
  | .WAKE_EN => mergeWord r (s.reg r n) v ||| maskOf 17 1
  | .BOOT_STATUS => if s.flag F.BOOT_CTRL_MEAS_LOCK then s.reg r n else mergeWord r (s.reg r n) v
  | .PAIR_RING_BREAK =>
    [s.ringLink 2, s.ringLink 3].foldl (fun w k => withBits w k 1 (bits (s.reg r n) k 1)) (mergeWord r (s.reg r n) v)
  | _ => mergeWord r (s.reg r n) v &&& r.has n

/-- A write of `v` to register `n` of array `r` that the block turns away for a reason of its own, with the flag that says so
(R104, R322, R381). -/
def State.turnedAway (s : State) (r : Reg) (v : Word) : Option State :=
  match r with
  | .CLK_SEL => if s.selRefused (s.reg r) (mergeWord r (s.reg r) v) then some s.clkRefuse else none
  | .CLK_EN => if s.enRefused (s.reg r) (mergeWord r (s.reg r) v) then some s.clkRefuse else none
  | .BKD_CTRL => if bits v 0 1 = 0 && s.flag F.BKD_CTRL_LFXO_EN && s.flag F.CLK_SEL_LF_SEL then some s.clkRefuse else none
  | .MGL_CTRL =>
    if bits v 31 1 = 1 && s.fuses.life == 1 && !s.flag F.PAGE_OWNER_SEC 0x5C then
      some ((s.fsetB F.MANGLE_STATUS_BLOCKED 0 true).irq 0x5C 4)
    else none
  | _ => none

/-- A write to a correction table half that does not accept it (R104). -/
def State.calClosed (s : State) (r : Reg) (n : Nat) : Option State :=
  match r with
  | .ADCCAL_OFFSET => if s.calHalfOpen (n / 2) (n % 2) then none else some (s.wrIgnored (n / 2))
  | .ADCCAL_GAIN => if s.calHalfOpen (n / 2) (n % 2) then none else some (s.wrIgnored (n / 2))
  | .ADCCAL_LIN => if s.calHalfOpen (n / 32) (n / 16 % 2) then none else some (s.wrIgnored (n / 32))
  | _ => none

/-! ### Writes that store nothing in their register -/

/-- A write to the data port of the tooth table of engine `n` (R51, R52). -/
def State.angTblWrite (s : State) (n : Nat) (v : Word) : State :=
  let i := s.fget F.ANG_TBL_IDX_INDEX n
  let e := s.eng n
  let h := 1 - s.fget F.ANG_STATUS_TBL_HALF n
  let s := if s.flag F.ANG_STATUS_LEARN_BUSY n then s
    else s.setEng n { e with table := tblPut e.table (1024 * h + i) (bits v 0 16) }
  if s.flag F.ANG_TBL_IDX_AUTOINC n then s.fadd F.ANG_TBL_IDX_INDEX n 1 else s

/-- A write to EVR_FIRE word `n`: the bits of channels that fail the channel check are dropped (R286, R295). -/
def State.fireWrite (s : State) (w : Who) (n : Nat) (v : Word) : State :=
  let cs := (indices 32 (fun i => v.getLsbD i)).map (fun i => 32 * n + i)
  let ok := cs.filter (fun c => s.chanPass w c && !s.router.fires.contains c)
  let s := if cs.all (fun c => s.chanPass w c) then s else s.pageErr (0x08 + n / 2) 2
  { s with router := { s.router with fires := s.router.fires ++ ok } }

/-- The registers whose write is an order and leaves nothing in the register. -/
def State.portWrite (s : State) (w : Who) (r : Reg) (n : Nat) (v : Word) : Option State :=
  match r with
  | .PWR_CTRL => some (s.modeWritten (bits v 0 3))
  | .CLKMON_CMD => some ((s.monResume (bits v 0 4)).monRelease (bits v 8 4))
  | .BKD_BK => some (s.bkPut n v)
  | .EVR_FIRE => some (s.fireWrite w n v)
  | .BS_VALUE => some (s.bsAppend n w v)
  | .SEAM_SOFT => some (if bits v 0 1 = 1 then s.softSeamRequest else s)
  | .RESULT_START => some (if bits v 0 1 = 1 then s.scanTrigger 2 else s)
  | .AIN_IDCOMMIT => some (s.idCommit (bits v 0 4))
  | .ANG_TBL_DATA => some (s.angTblWrite n v)
  | .RL_TBL_DATA => some (s.rlWrite n v)
  | .PEG_LINE => some (s.pegWrite r v.toNat)
  | .PEG_FIRST => some (s.pegWrite r v.toNat)
  | .PEG_COUNT => some (s.pegWrite r v.toNat)
  | .PEG_BEFORE => some (s.pegWrite r v.toNat)
  | .PEG_AFTER => some (s.pegWrite r v.toNat)
  | .PEG_CMD => some (s.pegCommand (bits v 0 3))
  | .HBMC_TDATA =>
    let x := s.stack n
    some ((s.setStack n { x with tdata := tblPut x.tdata (s.fget F.HBMC_TIDX_INDEX n) v.toNat }).tidxNext n)
  | .CS_DATA =>
    let e := s.wel1 (n / 5)
    some (s.setWel (n / 5) { e with hold := e.hold.set (n % 5) v })
  | .CS_DATA5 => some (s.csCommit n v)
  | .UART_TXDATA => some (s.uartTx n (bits v 0 9))
  | .WD_KICK => some (s.wdKick n (bits v 0 16))
  | .CRY_CMD => some (s.cryBegin (bits v 0 3))
  | .FUSE_PROG => some (s.fuseBegin (bits v 4 4) (bits v 0 2))
  | .GPIO_SET => some (s.setReg .GPIO_OUT n (s.reg .GPIO_OUT n ||| v &&& Reg.has .GPIO_OUT n)).gpioFollow
  | .GPIO_CLR => some (s.setReg .GPIO_OUT n (s.reg .GPIO_OUT n &&& ~~~v)).gpioFollow
  | .RESTART => some (s.restart 3)
  | _ => none

/-! ### What follows a write -/

/-- EN of page `p` has changed from `old`. -/
def State.enChanged (s : State) (p : Nat) (old : Bool) : State :=
  let new := s.flag F.PAGE_CTRL_EN p
  if old = new then s
  else if p = 0x08 ∨ p = 0x09 then
    (if new then s else { s with router := { s.router with chan := s.router.chan.filter (fun c => c / 64 != p - 0x08) } })
  else if p = 0x20 then (if new then s else s.cellsTrack)
  else if p = 0x21 then (if new then s.initStart else s)
  else if p = 0x23 then (if new then s else s.scanAbandon)
  else if p = 0x30 ∨ p = 0x31 then (forEach (List.range 8) (fun j s => s.rlOff (8 * (p - 0x30) + j)) s).lineWriters
  else if 0x40 ≤ p ∧ p ≤ 0x51 then s.welRefresh (p - 0x40)
  else if p = 0x52 then forEach (List.range 64) (fun q s => s.qSettle q) s
  else if 0x58 ≤ p ∧ p ≤ 0x5B then (if new then s.portRefresh (p - 0x58) else (s.portDisable (p - 0x58)).notReady [13 + (p - 0x58)])
  else if p = 0x5E then s.pairEval
  else if p = 0x60 ∨ p = 0x61 then s.uartNext (p - 0x60)
  else if p = 0x6E then (if new then forEach (List.range 8) (fun k s => s.fsetB F.TEMP_V_VALID k false) s else s)
  else s

/-- LEARN of engine `n` (R52). -/
def State.learnStart (s : State) (n : Nat) : State :=
  let c := s.angSet n
  if s.fget F.ANG_STATUS_STATE n = 2 && s.flag F.ANG_STATUS_REF_SEEN n && decide (c.ppr ≤ 1024) &&
      s.fget F.ANG_CFG_REF_MODE n != 0 then
    (s.fsetB F.ANG_STATUS_LEARN_BUSY n true).setEng n { s.eng n with learnRevs := 0, learnTimes := [], learnSums := [] }
  else s.angFault n F.ANG_STATUS_LEARN_ABORT

/-- ANG_CTRL of engine `n` has been written with `v`. -/
def State.angCtrl (s : State) (n : Nat) (v : Word) : State :=
  let s := if bits v 3 1 = 1 then
      let s := s.setEng n { s.eng n with reacq := true }
      (s.fsetB F.ANG_CTRL_REACQ n false).fsetB F.ANG_STATUS_ALT_ACTIVE n false
    else s
  let s := if bits v 2 1 = 1 then (s.fsetB F.ANG_CTRL_LEARN n false).learnStart n else s
  s.angBusy (n / 4)

/-- BS_CTRL of slot `n` has been written: its command (R223). -/
def State.bsCommand (s : State) (n cmd : Nat) : State :=
  match cmd with
  | 1 => s.bsClose n
  | 2 => s.bsArm n
  | 3 => s.bsCancel n
  | 4 => s.bsClear n
  | _ => s

/-- CS_CTRL of engine `w` has been written with `v`: its command (R215). -/
def State.csCommand (s : State) (w : Nat) (v : Word) : State :=
  let s := forEach [F.CS_CTRL_LOAD, F.CS_CTRL_CHECK, F.CS_CTRL_VERIFY, F.CS_CTRL_INVALIDATE] (fun f s => s.fsetB f w false) s
  if bits v 0 1 = 1 then s.csStart w 0
  else if bits v 1 1 = 1 then s.csStart w 1
  else if bits v 2 1 = 1 then s.csStart w 2
  else if bits v 5 1 = 1 then s.csStart w 3
  else s

/-- CORE_CTRL of register index `n` has been written with `v`; `old` was RUN (R265). -/
def State.coreCtrl (s : State) (n : Nat) (v : Word) (old : Bool) : State :=
  let s := if bits v 1 1 = 1 then (s.fsetB F.CORE_CTRL_RESET n false).coreZero (coreOf n) else s
  if old && s.coreStands n then s.coreStopped (coreOf n) else s

/-- BKD_CTRL has been written. -/
def State.bkdCtrl (s : State) : State :=
  let s := if s.flag F.BKD_CTRL_LFXO_EN then s else s.lfxoReady false
  s.bkdBusy.bkdSubst

/-- The oldest entry of the darn log is removed (R456). -/
def State.darnPop (s : State) : State := { s with darn := { s.darn with log := s.darn.log.drop 1 } }.darnShow

/-- Clear a bit that orders something and reads 0. -/
def State.take (s : State) (f : Fld) (n : Nat) : State := s.fsetB f n false

/-- What follows the write of `v` by `w` to register `n` of array `r` of the SEN and BK pages; `old` is the state before. -/
def State.afterSen (s old : State) (w : Who) (r : Reg) (n : Nat) (v : Word) : State :=
  match r with
  | .PWR_ASK => (s.fset F.PWR_ASK_ASKER 0 w.id).irq 0x01 2
  | .CLK_EN => s.clkEnWritten
  | .CLK_PEN =>
    let s := if old.reg .CLK_PEN n &&& old.penStaged n &&& ~~~v = 0#32 then s
      else (s.fsetB F.CLK_STATUS_PEN_HELD 0 true).irq 0x03 1
    let s := if !old.pageClocked 0x18 && s.pageClocked 0x18 then s.tachThaw else s
    let s := if !old.pageClocked 0x5E && s.pageClocked 0x5E then s.pairEval else s
    let s := forEach (indices 2 (fun k => !old.pageClocked (0x60 + k) && s.pageClocked (0x60 + k))) (fun k s => s.uartNext k) s
    let e := s.epoch
    if old.pageClocked 0x20 && !s.pageClocked 0x20 then { s with epoch := { e with heldAt := some s.now } }
    else if !old.pageClocked 0x20 && s.pageClocked 0x20 then
      let dt := s.now - e.heldAt.getD s.now
      { s with epoch := { e with heldAt := none, next := e.next.map (fun t => t + dt),
                                 gates := match e.heldAt with
                                   | some h => (h, s.now) :: e.gates
                                   | none => e.gates } }
    else s
  | .CLKMON_CTRL =>
    forEach (indices 4 (fun d => s.fbit F.CLKMON_CTRL_AUTO_RESUME 0 d && s.clkState (monDomain d) == 2))
      (fun d s => s.domResume d) s
  | .DVFS_TARGET => s.dvfsWritten
  | .EVL_CELL_IN => s.checkBegin 0x0A 40
  | .EVL_CELL_MODE => s.checkBegin 0x0A 40
  | .BKD_CTRL => s.bkdCtrl
  | .BKD_MEAS_CTRL => if bits v 31 1 = 1 then s.measStart else s
  | .EVR_CSTAT => if bits v 0 1 = 1 && old.flag F.EVR_CSTAT_LOOP_TRIP n then s.guardWindow n else s
  | .PMB_CMD => if bits v 31 1 = 1 then s.pmbBegin else s
  | _ => s

/-- The same for the pages of D_ACQ. -/
def State.afterAcq (s old : State) (r : Reg) (n : Nat) (v : Word) : State :=
  match r with
  | .BS_CTRL => s.bsCommand n (bits v 0 3)
  | .ANG_CTRL => s.angCtrl n v
  | .ANG_CFG => s.fsetB F.ANG_STATUS_ALT_ACTIVE n false
  | .AIN_CTRL => s.runWritten (old.flag F.AIN_CTRL_RUN)
  | .AIN_ALIGN => s.alignModeWritten
  | .AIN_GRP_PWR => s.grpPowerWritten
  | .AIN_CHEN => if s.epoch.running then s else s.fset F.AIN_CHCOUNT_N 0 s.chCount
  | .ADC_CTRL => if bits v 3 1 = 1 then (s.take F.ADC_CTRL_INIT_CAL 0).initStart else s
  | .ADCCAL_CTRL => if bits v 0 1 = 1 then s.swapRequested n else s
  | .RL_CTRL =>
    let t := ((if s.epoch.running then s else s.rlOff n).rlSwapOff n).rsmpBusy (n / 8)
    if s.epoch.running then t else t.lineWriters
  | .RL_CFG => if s.epoch.running then s else s.lineWriters
  | .LINE_CTRL => (s.lineEnabled n (old.flag F.LINE_CTRL_EN n)).lineFlush n
  | .LINE_SHORT => { s with lines := { s.lines with slot := 0 } }
  | .LINE_FETCH_CTRL => if bits v 31 1 = 1 then s.fetchStart else s
  | .UART_CTRL => s.uartNext n
  | .UART_BAUD => s.uartNext n
  | .UART_RXR_CFG => s.ringEnabled n (old.flag F.UART_RXR_CFG_EN n)
  | .UART_RXR_RD => s.drainChar n
  | .UART_TX_CTRL => if bits v 31 1 = 1 then s.uartStart n else s
  | .XSPI_CMD => if bits v 31 1 = 1 then s.xspiBegin 1 else if bits v 30 1 = 1 then s.xspiBegin 2 else s
  | .IDB_CMD => if bits v 31 1 = 1 then s.idbGo n 1 else if bits v 30 1 = 1 then s.idbGo n 2 else s
  | .GPIO_CTRL =>
    if bits v 0 1 = 1 then ((s.take F.GPIO_CTRL_RELEASE 0).fsetB F.GPIO_CTRL_HELD 0 false).gpioFollow else s
  | .GPIO_OUT => s.gpioFollow
  | .GPIO_OE => s.gpioFollow
  | .WD_CTRL => if s.flag F.WD_CTRL_EN n && !old.flag F.WD_CTRL_EN n then s.wdReload n else s
  | .BOOT_MBOX => s.mailbox
  | .BOOT_CTRL => if bits v 4 1 = 1 && !old.flag F.BOOT_CTRL_MEND then s.mendAsked else s
  | .DARN_CTRL =>
    let s := (s.take F.DARN_CTRL_CONFIRM 0).take F.DARN_CTRL_DECLINE 0
    if bits v 0 1 = 1 then s.darnConfirm else if bits v 1 1 = 1 then s.darnDecline else s
  | .DARN_LOG_CTRL => if bits v 31 1 = 1 then (s.take F.DARN_LOG_CTRL_POP 0).darnPop else s
  | .DARN_IN_CTRL => if bits v 31 1 = 1 then s.darnIn else s
  | _ => s

/-- The same for the pages of D_ANA, D_MEM and D_LNK and for the core pages. -/
def State.afterFar (s old : State) (r : Reg) (n : Nat) (v : Word) : State :=
  match r with
  | .HBMC_CTRL => if bits v 0 1 = 1 then s.trainAsk n (s.fget F.HBMC_CFG_TRAIN n) else s
  | .WEL_CTRL =>
    let s := (s.take F.WEL_CTRL_HALT n).take F.WEL_CTRL_RESUME n
    let s := if bits v 2 1 = 1 then s.welHalt n else s
    let s := if bits v 1 1 = 1 then s.welResume n else s
    s.welRefresh n
  | .CS_CTRL => s.csCommand n v
  | .WELQ_QTAIL =>
    (if old.qCount n = 0 then s.setWq n { s.wq n with strobes := [] } else s).qSettle n
  | .WELQ_QCFG => s.qSettle n
  | .PZL_CTRL =>
    let s := if bits v 1 1 = 1 then (s.take F.PZL_CTRL_RETRAIN n).portRetrain n else s
    s.portIdle n
  | .BEACON_CTRL =>
    let s := (s.take F.BEACON_CTRL_SET 0).take F.BEACON_CTRL_INVALIDATE 0
    let s := if bits v 0 1 = 1 then s.beaconSet else s
    if bits v 1 1 = 1 then s.timeInvalid else s
  | .BEACON_CFG => if s.fget F.BEACON_CFG_ROLE = old.fget F.BEACON_CFG_ROLE then s else s.timeInvalid
  | .PAIR_CTRL =>
    let s := if bits v 1 1 = 1 then (s.take F.PAIR_CTRL_HANDOVER 0).pairHandover else s
    s.pairEval
  | .PAIR_RING_CFG => (s.ownBreak 2).ownBreak 3
  | .PAIR_STATUS => if s.flag F.PAIR_STATUS_MIRROR_DIVERGE then s else s.fset F.PAIR_STATUS_DIV_CAUSE 0 0
  | .BEACON_PERIOD => s.periodWritten
  | .CORE_CTRL => s.coreCtrl n v (old.flag F.CORE_CTRL_RUN n)
  | .CORE_IRQ_EN_LO => (s.coreCopy (coreOf n) (.irqEn 0) v).irqWake
  | .CORE_IRQ_EN_HI => (s.coreCopy (coreOf n) (.irqEn 1) v).irqWake
  | .WIN => s.coreCopy (coreOf (n / 8)) (.win (n % 8)) (s.reg .WIN n)
  | _ => s

/-- What follows a write to the head of page `n`. -/
def State.afterHead (s old : State) (r : Reg) (n : Nat) (v : Word) : State :=
  match r with
  | .PAGE_CTRL =>
    let s := s.take F.PAGE_CTRL_SOFT_RST n
    let s := s.enChanged n (old.flag F.PAGE_CTRL_EN n)
    if bits v 1 1 = 1 then s.softStart n else s
  | .PAGE_IRQ_EN => old.withTaps s n
  | .PAGE_OWNER =>
    if n = 0x5C && s.fuses.life == 1 && old.flag F.PAGE_OWNER_SEC n && !s.flag F.PAGE_OWNER_SEC n then
      forEach (List.range 4) (fun u s => s.fsetB F.MGL_CTRL_EN u false) s
    else s
  | _ => s

/-- The settings that take effect at an epoch edge and what they held, with the tick of the write (R236). -/
def State.noteStaged (s old : State) (r : Reg) (n : Nat) : State :=
  let a := r.addr n
  if r.stMask = 0#32 || old.reg r n = s.reg r n || !addrIn .acq a then s
  else { s with late := s.late ++ [(a, old.reg r n, s.now)] }

/-- A pending soft seam becomes due once SG41 can raise seams (R58, R59). -/
def State.softReady (s old : State) : State :=
  if !old.seamOn 41 && s.seamOn 41 && s.epoch.softReq.isSome then
    { s with epoch := { s.epoch with softReq := some s.now } }
  else s

/-- The stored write of `v` by `w` to register `n` of array `r`. A write that stops or starts the block of BEACON stops or starts
system time (log entry 59). -/
def State.landWrite (s : State) (w : Who) (r : Reg) (n : Nat) (v : Word) : State :=
  let t := if r = .BEACON_RATE then s.timeRebase else s
  let t := t.setReg r n (t.stored r n v)
  let t := (t.noteStaged s r n).stChanged s r n
  let t := t.afterHead s r n v
  let t := t.afterSen s w r n v
  let t := t.afterAcq s r n v
  let t := t.afterFar s r n v
  if r = .PAGE_CTRL ∨ r = .CLK_PEN then t.timeFollow else t

/-- The failing check of a direct write: an EVL write that makes a loop, or a reserved combination (R3, R73, R88, R126, R293). -/
def State.directFails (s : State) (r : Reg) (n : Nat) (v : Word) : Option Nat :=
  let t := s.setReg r n (s.stored r n v)
  let a := r.addr n
  ((s.writeFails t r n).find? (fun f => f.reads.any (fun x => x.1 == a))).map (fun f => f.reason)

/-- A write to EVL that would create a combinational loop is discarded; the check has taken its time (R293). -/
def State.evlRefuse (s : State) (r : Reg) (n : Nat) (v : Word) : State :=
  let t := s.setReg r n (s.stored r n v)
  let s := s.fset F.EVL_STATUS_LOOP_CELL 0 ((t.cellLoop).getD 0)
  ((s.fsetB F.EVL_STATUS_ERR_LOOP 0 true).irq 0x0A 0).checkBegin 0x0A 40

/-- A write of `v` by `w` to register `n` of array `r`, in page `p`, that passes the owner check of the page. -/
def State.regWrite (s : State) (w : Who) (p : Nat) (r : Reg) (n : Nat) (v : Word) : State :=
  if !s.mayWrite w r n v then s.pageErr p 2
  else
    match s.calClosed r n with
    | some t => t
    | none =>
      if wordReserved r n v || s.nowReserved r n v then s.pageErr p 0
      else
        match s.directFails r n v with
        | some 5 => s.evlRefuse r n v
        | some _ => s.pageErr p 0
        | none =>
          match s.turnedAway r v with
          | some t => t
          | none =>
            ((s.portWrite w r n v).getD (s.landWrite w r n v)).softReady s

end Sys2Proof.Machine
end

