-- ==== Sys2Proof/Machine/Fabric.lean ====
section
/-!
DEFINITION. An access to a register page as the fabric performs it: what it holds (R17, R230, R349, R350, R483), the
conditions in the order of R7, the read with its effects, and the release of a held access.
-/

namespace Sys2Proof.Machine

/-- The fabric holds every access to page `p` at this moment (R17, R230, R293, R349, R350). -/
def State.pageHeld (s : State) (p : Nat) : Bool :=
  s.checks.any (fun x => x.1 == p) || s.softReset.contains p || (decide (0 < s.basket.window) && s.basket.heldPages.contains p) ||
    (p == 6 && s.flag F.BKD_CTRL_CRC_CHECK)

/-- The fabric holds an access of `q` to page `p`: the page is held, or an earlier access of `q` to it is (R29). -/
def State.fabHolds (s : State) (q : Requester) (p : Nat) : Bool :=
  s.pageHeld p || s.held.any (fun h => h.q == q && h.addr / 0x1000 == p)

/-- A loop check or a backup word that alone keeps page `p` busy ends within its limit of clocks (R293, R349). -/
def State.checksOver (s : State) (p : Nat) : State := if (s.checksEnd p).pageHeld p then s else s.checksEnd p

/-! ### Reading -/

/-- The bits of a register that lie in RC fields. -/
def Reg.rcMask (r : Reg) : Word :=
  r.fields.foldl (fun m f => if f.acc = .rc then m ||| maskOf f.lo f.width else m) 0#32

/-- What a read of register `n` of array `r` by `w` changes: RC fields but for the debug port (R10), and the ports that move on. -/
def State.readEffects (s : State) (w : Who) (r : Reg) (n : Nat) : State :=
  let s := if w.cap = 7 || r.rcMask = 0#32 then s else s.setReg r n (s.reg r n &&& ~~~r.rcMask)
  match r with
  | .BS_RDATA => s.bsAdvance n
  | .CS_DATA5 => s.csNext n
  | .ANG_TBL_DATA => if s.flag F.ANG_TBL_IDX_AUTOINC n then s.fadd F.ANG_TBL_IDX_INDEX n 1 else s
  | .RL_TBL_DATA => s.rlAdvance n
  | .HBMC_TDATA => s.tidxNext n
  | .TEMP_MAX => if w.cap = 7 then s else { s with temps := { s.temps with fresh := true } }
  | .CORE_PC => { s with draws := s.draws + 1 }
  | .IDB_STATUS => { s with draws := s.draws + 1 }
  | _ => s

/-- A read of register `n` of array `r` that passes every check. -/
def State.regRead (s : State) (w : Who) (r : Reg) (n : Nat) : State × Word :=
  match s.freezeGroup r n with
  | some g => s.freezeRead g w.cap r n
  | none => (s.readEffects w r n, s.regWord r n)

/-! ### Performing an access -/

/-- A bus error of an access to the pages: it is logged and answered (R32). -/
def State.busErr (s : State) (w : Who) (wr : Bool) (log cause : Nat) : State × BusAnswer :=
  (s.logBusErr log wr w.src cause, .err cause)

/-- A read of `n` bytes at register-space address `a` performed for `w`; `log` is the address that a bus error logs (R7). -/
def State.performRead (s : State) (w : Who) (n a log : Nat) : State × BusAnswer :=
  let p := a / 0x1000
  if (pageInfo p).isNone then s.busErr w false log 1
  else if n ≠ 4 ∨ a % 4 ≠ 0 then s.busErr w false log 7
  else if !s.pageLive p then (s, .ok 0)
  else
    match regAt a with
    | none => (s.pageErr p 1, .ok 0)
    | some (r, k) =>
      if s.ownerPass w p then
        let (t, v) := s.regRead w r k
        (t, .ok v.toNat)
      else (s.pageErr p 2, .ok 0)

/-- A write of `v`, `n` bytes wide, at register-space address `a` performed for `w` (R7). -/
def State.performWrite (s : State) (w : Who) (n a log : Nat) (v : Word) : State × BusAnswer :=
  let p := a / 0x1000
  if (pageInfo p).isNone then s.busErr w true log 1
  else if n ≠ 4 ∨ a % 4 ≠ 0 then s.busErr w true log 7
  else if !s.pageLive p then (s, .ok 0)
  else
    match regAt a with
    | none => (s.pageErr p 1, .ok 0)
    | some (r, k) => if s.ownerPass w p then (s.regWrite w p r k v, .ok 0) else (s.pageErr p 2, .ok 0)

/-- A read or write performed, with its answer to the requester. -/
def State.perform (s : State) (w : Who) (wr : Bool) (n a log : Nat) (v : Word) : State :=
  let (t, x) := if wr then s.performWrite w n a log v else s.performRead w n a log
  { t with answer := x }

/-- Address that a bus error of an access to register-space address `a` logs: a core's own address, or the fabric's. -/
def logAddr (q : Requester) (a : Nat) : Nat :=
  match q with
  | .core _ => 0x40000000 + a
  | _ => 0x100040000000 + a

/-- An access of `q` to register-space address `a`: held with what it carries, or performed (R29, R483). -/
def State.access (s : State) (q : Requester) (wr : Bool) (size : AccessSize) (a : Nat) (v : Word) : State :=
  let p := a / 0x1000
  let w := s.who q
  if !s.canIssue q then s
  else if s.fabHolds q p then
    { s with held := s.held ++ [⟨q, w.secure, wr, size, a, v, logAddr q a⟩], answer := .none }
  else s.perform w wr size.bytes a (logAddr q a) v

/-- Split a list at its first member for which `p` holds. -/
def takeFirst {α : Type} (p : α → Bool) : List α → Option (α × List α)
  | [] => none
  | x :: xs => if p x then some (x, xs) else (takeFirst p xs).map (fun y => (y.1, x :: y.2))

/-- The held access `h` is performed with what it carries, against the state at this moment; `rest` stay held. -/
def State.performHeld (s : State) (h : HeldAccess) (rest : List HeldAccess) : State :=
  let w := s.who h.q
  let full := match h.q with
    | .debug => h.secure
    | _ => w.isS
  { s with held := rest }.perform { w with secure := h.secure, isS := full } h.write h.size.bytes h.addr h.log h.value

/-- The oldest held access whose page is free again is performed (R483). With none, the oldest whose page only a loop check or
a backup word keeps busy is: a check ends within its limit of clocks, and the row says that it has ended. -/
def State.heldRelease (s : State) : State :=
  let page (h : HeldAccess) : Nat := h.addr / 0x1000
  match takeFirst (fun (h : HeldAccess) => !s.pageHeld (page h)) s.held with
  | some (h, rest) => s.performHeld h rest
  | none =>
    match takeFirst (fun (h : HeldAccess) => !(s.checksEnd (page h)).pageHeld (page h)) s.held with
    | none => s
    | some (h, rest) => (s.checksEnd (page h)).performHeld h rest

/-! ### The rows of registers -/

/-- A word write to register `n` of array `r` by `q`. -/
def State.writeReg (s : State) (q : Requester) (r : Reg) (n : Nat) (v : Word) : State := s.access q true .b4 (r.addr n) v

/-- A word read of register `n` of array `r` by `q`. -/
def State.readReg (s : State) (q : Requester) (r : Reg) (n : Nat) : State := s.access q false .b4 (r.addr n) 0#32

/-- A soft reset completes (R17). -/
def State.softDone (s : State) (p : Nat) : State := { s with softReset := s.softReset.filter (fun x => x != p) }

/-- PAGE_IRQ bit of a stale flag. -/
def staleIrq (f : Fld) (n : Nat) : Nat :=
  match f.reg with
  | .ANG_STATUS => 4 * (n % 4) + 2
  | .TACH_MISC => 1
  | .SEAM_STATUS => 1
  | .AIN_STATUS => 3
  | .STR_STATUS => 16
  | .RL_STATUS => 24
  | .LINE_STATUS => 4
  | .WELQ_STATUS => 6
  | .WAKE_STATUS => 2
  | .BKD_STATUS => 5
  | _ => 3

/-- The capture of `q` of the group of register-space address `a` was not released in time (R238). -/
def State.freezeStale (s : State) (q : Requester) (a : Nat) : State :=
  match regAt a with
  | none => s
  | some (r, n) =>
    match s.freezeGroup r n with
    | none => s
    | some g =>
      let who := (s.who q).cap
      if (s.frozen g who).isNone then s
      else
        let s := { s with freeze := s.freeze.filter (fun c => !(c.group == g.key && c.who == who)) }
        (s.fsetB g.stale.1 g.stale.2 true).irq (g.key / 0x1000) (staleIrq g.stale.1 g.stale.2)

/-- The access `d` of the debug port to a memory is made. -/
def State.debugPerform (s : State) (d : DebugWait) : State :=
  let src := (s.who .debug).src
  let n := d.size.bytes
  if d.write then
    let (t, c) := s.fabWrite d.addr (leBytes n d.value.toNat) src d.secure
    { t with answer := if c = 0 then .ok 0 else .err c }
  else
    let (t, x) := s.fabRead d.addr n src 0 d.secure
    { t with answer := match x with
      | .ok bs => .ok (ofLeBytes bs)
      | .error c => .err c }

/-- The waiting accesses of the debug port to memories are made, oldest first, until one is held (R29, R169, R454). -/
def State.debugServe (s : State) : Nat → State
  | 0 => s
  | fuel + 1 =>
    match s.lines.debug with
    | [] => s
    | d :: rest =>
      let r := s.memAsk 5 2 d.addr d.size.bytes d.secure
      if !r.2 then r.1
      else ({ r.1 with lines := { r.1.lines with debug := rest } }.debugPerform d).debugServe fuel

/-! ### The mend window (R442) -/

/-- First address of the mend window. -/
def mendBase : Nat := 0xFFFFF000

/-- A run of `n` bytes at `a` lies in the mend window. -/
def inMendWindow (a n : Nat) : Bool := decide (mendBase ≤ a ∧ a + n ≤ mendBase + 0x800)

/-- The frame that the window shows while no reply is ready. -/
def mendNone : List Byte :=
  let body := [0xA5#8] ++ List.replicate 11 0#8
  body ++ leBytes 4 (crc32c body)

/-- What the window holds from offset `o` on. -/
def State.mendShown (s : State) (o n : Nat) : List Byte :=
  let bs := ((if s.mend.ready then s.mend.reply else mendNone).drop o).take n
  bs ++ List.replicate (n - bs.length) 0#8

/-- A read of the window reaches the end of the reply to a LEAVE: the restart may follow once the answer has gone (R443). -/
def State.mendRead (s : State) (o n : Nat) : State :=
  if s.mend.ready && (s.mend.reply.getD 1 0#8 == 0x86#8) && decide (s.mend.reply.length ≤ o + n) then
    { s with mend := { s.mend with leaving := true } }
  else s

/-- Bytes written into the mend window at offset `o` (R442). -/
def State.mendWindow (s : State) (o : Nat) (bs : List Byte) : State :=
  if o = 0 then { s with mend := { s.mend with win := bs, ready := false } }
  else if s.mend.win != [] && o = s.mend.win.length then { s with mend := { s.mend with win := s.mend.win ++ bs } }
  else s

/-- A debug access in mend mode: the window, and nothing else of the fabric (R442). -/
def State.debugMend (s : State) (wr : Bool) (n a : Nat) (v : BitVec 64) : State :=
  if !inMendWindow a n then { s.logBusErr a wr (s.who .debug).src 1 with answer := .err 1 }
  else if wr then { s.mendWindow (a - mendBase) (leBytes n v.toNat) with answer := .ok 0 }
  else { s.mendRead (a - mendBase) n with answer := .ok (ofLeBytes (s.mendShown (a - mendBase) n)) }

/-- A debug access (R12, R15, R488): a register page, or any other fabric address, where it may be held. -/
def State.debugAccess (s : State) (wr : Bool) (size : AccessSize) (a : Nat) (v : BitVec 64) : State :=
  if !s.canIssue .debug then s
  else if s.mend.on then s.debugMend wr size.bytes a v
  else
    let d : DebugWait := ⟨wr, size, a, v, (s.who .debug).secure⟩
    match fabTarget a with
    | .page o => s.access .debug wr size o (v.setWidth 32)
    | _ =>
      let t : State := { s with answer := .none, lines := { s.lines with debug := s.lines.debug ++ [d] } }
      t.debugServe (List.length t.lines.debug)

/-- The JTAG port takes instruction `ir`, which the debug access instruction turns into an access (R12, R473). -/
def State.jtagAccess (s : State) (ir : Nat) (cells : List Bool) (wr : Bool) (size : AccessSize) (a : Nat) (v : BitVec 64) : State :=
  let s := s.jtagScan ir cells
  if ir = 0x20 then s.debugAccess wr size a v else s

/-- The copy of a bank darn ends, and what it held for the debug port goes on (R454). -/
def State.bankFree (s : State) : State :=
  let t := s.bankCopyDone
  t.debugServe (List.length t.lines.debug)

/-- A window of the governor begins, and what waited at it for the debug port goes on. -/
def State.govTick (s : State) : State :=
  let t := s.govWindow
  t.debugServe (List.length t.lines.debug)

end Sys2Proof.Machine
end

