-- ==== Sys2Proof/Machine/ExecAccess.lean ====
section
/-!
DEFINITION. The commands of the register fabric: accesses, held accesses, soft resets, page owners and freeze groups.
-/

namespace Sys2Proof.Machine

/-- REGISTER_WRITE: the requester writes a register; the fabric judges the access in the order of R7. -/
def execRegisterWrite (q : Requester) (size : AccessSize) (addr : Nat) (value : Word)
    (s : State) : Host.Outcome State Fault Refusal :=
  .next (s.access q true size addr value)

/-- READ_CLEAR: the requester reads a register with an RC field (R10). -/
def execReadClear (q : Requester) (addr : Nat) (s : State) : Host.Outcome State Fault Refusal :=
  .next (s.access q false .b4 addr 0#32)

/-- HELD_ACCESS_RELEASE: the oldest held access whose page is free again is judged and performed (R483). -/
def execHeldAccessRelease (s : State) : Host.Outcome State Fault Refusal :=
  .next (s.heldRelease)

/-- DEBUG_ACCESS: the JTAG port takes the instruction and the cells of `scan` (R473); the debug access instruction makes the access,
a write of `write` or else a read, judged by the rules of R12, R15 and R488. -/
def execDebugAccess (scan : JtagScan) (size : AccessSize) (addr : Nat) (write : Option (BitVec 64)) (s : State) :
    Host.Outcome State Fault Refusal :=
  .next (s.jtagAccess scan.ir.val scan.cells write.isSome size addr (write.getD 0))

/-- SOFT_RST: a write of 1 to PAGE_CTRL.SOFT_RST of a page (R17). -/
def execSoftRst (q : Requester) (page : Fin 256) (value : Word) (s : State) : Host.Outcome State Fault Refusal :=
  .next (s.writeReg q .PAGE_CTRL page.val (value ||| maskOf 1 1))

/-- SOFT_RESET_COMPLETE: the soft reset of the page ends, and BUSY with it (R17). -/
def execSoftResetComplete (page : Fin 256) (s : State) : Host.Outcome State Fault Refusal :=
  .next (s.clocked page.val (fun s => s.softDone page.val))

/-- PAGE_OWNER_WRITE: a write to PAGE_OWNER of a page (R20). -/
def execPageOwnerWrite (q : Requester) (page : Fin 256) (value : Word)
    (s : State) : Host.Outcome State Fault Refusal :=
  .next (s.writeReg q .PAGE_OWNER page.val value)

/-- FREEZE_GROUP_READ: a read of a member captures the group for its requester (R237). -/
def execFreezeGroupRead (q : Requester) (addr : Nat) (s : State) : Host.Outcome State Fault Refusal :=
  .next (s.access q false .b4 addr 0#32)

/-- FREEZE_GROUP_RELEASE: a read of the release register frees the group (R237). -/
def execFreezeGroupRelease (q : Requester) (addr : Nat) (s : State) : Host.Outcome State Fault Refusal :=
  .next (s.access q false .b4 addr 0#32)

/-- FREEZE_STALE_TIMEOUT: a capture that was not released in time is dropped, and the stale flag rises (R238). -/
def execFreezeStaleTimeout (q : Requester) (addr : Nat) (s : State) : Host.Outcome State Fault Refusal :=
  .next (s.freezeStale q addr)

end Sys2Proof.Machine
end

