-- ==== Sys2Proof/Machine/EpochEdge.lean ====
section
/-!
DEFINITION. An epoch edge as a whole (R74, R60, R230): the conversions of the epoch that ends, the engines, the seams that fall on
it, the press window, and the epoch that begins, whose conversions take their effect when it ends (log entry 41).
-/

namespace Sys2Proof.Machine

/-- The bits of the register at `a` that the press in progress has written: a pressed value governs at once (R74). -/
def State.pressedBits (s : State) (a : Nat) : Word :=
  (s.basket.closing.filter (fun x => x.2)).foldl (fun m x =>
    ((s.slot x.1).entries.filter (fun e => e.op == 0 && e.at == a)).foldl (fun m e => m ||| e.mask) m) 0#32

/-- Generators SG32–SG39 on edge `num` (R56). -/
def State.epochSeams (s : State) (num : Nat) : State :=
  forEach (List.range 8) (fun j s =>
    let k := 2 ^ s.fget F.SEAM_CFG_K (32 + j)
    if num % k = 0 then s.raiseSeam (32 + j) (num / k) num else s) s

/-- SG40: the second boundary that lies at least 64 ticks back (R56). -/
def State.secondSeam (s : State) (num t : Nat) : State :=
  match s.epoch.tickSeam with
  | none => s
  | some (u, number) =>
    if t < u + 64 then s
    else { s with epoch := { s.epoch with tickSeam := none } }.raiseSeam 40 number num

/-- SG41: a request at least 64 ticks back gives one seam; one that finds SG41 unable to raise it is held (R56, R59). -/
def State.softSeam (s : State) (num t : Nat) : State :=
  match s.epoch.softReq with
  | none => s
  | some u =>
    if !s.seamOn 41 then { s with epoch := { s.epoch with softReq := some t } }
    else if t < u + 64 then s
    else
      let s := { s with epoch := { s.epoch with softReq := none } }.fsetB F.SEAM_SOFT_FIRE 0 false
      s.countSeam 41 1 num

/-- Beacon `n` of generator `g` has reached its moment at tick `t` (R378). -/
def State.beaconDue (s : State) (n t : Nat) : Bool :=
  decide (16 * ((n * s.fget F.BEACON_PERIOD_NS + s.fget F.BEACON_LAG_NS : Nat) : Int) ≤ s.sysTime16 t)

/-- SG46 and SG47 (R378), which are also events of the measurement unit (R345); `phase` is the phase of the edge against
the raw ticks. -/
def State.beaconSeams (s : State) (num t phase : Nat) : State :=
  let before := (s.epoch.edges.drop 1).head?
  let due := s.beacon.seams.filter (fun x => s.beaconDue x.2.1 t && decide (x.2.2 + 64 ≤ t))
  let s := { s with beacon := { s.beacon with
    seams := s.beacon.seams.filter (fun (x : Nat × Nat × Nat) => !due.contains x) } }
  if !s.flag F.BEACON_STATUS_VALID then s
  else forEach due (fun (x : Nat × Nat × Nat) s =>
    let late := match before with
      | some e => s.beaconDue x.2.1 e.2
      | none => false
    let s := if late then (s.fsetB F.BEACON_STATUS_SEAM_LATE 0 true).irq 0x5D 2 else s
    let on := s.seamOn x.1
    let s := s.raiseSeam x.1 (x.2.1 / 2 ^ (s.fget F.SEAM_CFG_SRCSEL x.1 % 32)) num
    if on then s.measEvent (x.1 - 44) phase else s) s

/-- The engines at the edge `num`: the tooth and reference edges that are at least 64 ticks old are counted (R39). An engine
whose page is gated keeps its state (R324). -/
def State.anglesStep (s : State) (num t : Nat) : State :=
  let edges := s.epoch.tachEdges.filter (fun (x : Nat × Nat) => decide (x.2 + 64 ≤ t))
  let s := { s with epoch := { s.epoch with
    tachEdges := s.epoch.tachEdges.filter (fun (x : Nat × Nat) => decide (t < x.2 + 64)) } }
  forEach (List.range 32) (fun n s => if s.pageClocked (0x10 + n / 4) then s.angStep t num n edges else s) s

/-- The epoch that begins at edge `num` takes its length; AIN_CHCOUNT and STEPPED follow (R75, R80). -/
def State.epochBegin (s : State) (t : Nat) : State :=
  let s := s.fset F.AIN_CHCOUNT_N 0 s.chCount
  let (e, len, stepped) := s.epochLength s.chCount
  let s := { s with epoch := { e with next := some (t + len), divs := (s.epochDiv :: e.divs).take 8 } }
  if stepped then (s.fsetB F.AIN_STATUS_STEPPED 0 true).irq 0x20 4 else s

/-- The conversions of the epoch that begins at edge `num` are under way (R70, R97, R324), and what of the moment the epoch needs is
kept with it. With EN of the AIN page at 0 no channel is converted; a
converter whose page is not clocked converts nothing. -/
def State.openEpoch (s : State) (num t : Nat) (x : Conversions) (quals : List Nat) (olds : List (Nat × Word)) : State :=
  if !s.pageLive 0x21 then { s with chains := { s.chains with restart := true } }
  else
    let s := if s.flag F.ADC_STATUS_INIT_DONE then s else s.fsetB F.ADC_STATUS_EARLY_RUN 0 true
    let on := s.pageEn 0x20
    let (s, scan) := s.scanBegin num t (if on then indices 192 (fun c => s.chEnabled c) else [])
    let lost := (indices 12 (fun g => s.fget F.AIN_MOD_STATE_STATE g != 2)).foldl (fun a g => a + 2 ^ g) 0
    let s := if on then s.strBegin num else { s with chains := { s.chains with restart := true } }
    { s with
      chains := { s.chains with moved := 0 }
      epoch := { s.epoch with work := some ⟨num, t, x, quals, lost, s.chains.moved, on, none, scan,
        olds.map (fun o => (o.1, s.pressedBits o.1))⟩ } }

/-- What an epoch that begins at edge `num` does at its edge: the converter, the lanes and the settings of the streams take what
the seams and presses have changed. The results of an initial calibration govern from here, before a rotation decided for this edge (R108,
R112). -/
def State.epochData (s : State) (num t : Nat) (x : Conversions) (quals : List Nat) (olds : List (Nat × Word)) : State :=
  let s := (if s.adc.initWait then s.initApply else s).adcSeam num
  let s := forEach (List.range 16) (fun l s => s.rlSeam l num) s
  let s := forEach ((s.seams.filter (fun g => 42 ≤ g && g ≤ 45))) (fun g s => s.darnSeam (g - 42) (fun _ => true)) s
  let s := s.openEpoch num t x quals olds
  forEach (List.range 16) (fun l s => s.rlEdge l) s

/-- Edge `num` at tick `t` is recorded: an epoch runs, no seam has fallen on it yet, and the stamps of the tach inputs are shown. -/
def State.edgeStart (s : State) (t num : Nat) : State :=
  let first := !s.epoch.running
  let s := s.timersCount 1 1
  let s := s.set64 .AIN_EPOCH_LO .AIN_EPOCH_HI 0 num
  { s with
    epoch := { s.epoch with running := true, firstNum := none, gates := [], first := if first then t else s.epoch.first,
                            edges := ((num, t) :: s.epoch.edges).take 8 }
    seams := []
    chains := { s.chains with restart := s.chains.restart || first }
    tach := (List.range 32).map (fun n =>
      { s.tach.getD n ⟨false, none, none, 0⟩ with shown := s.get64 .TACH_STAMP_LO .TACH_STAMP_HI n }) }

/-- The seams of edge `num` at tick `t` (R56), with the settings that were in force 64 ticks before it (R236). -/
def State.edgeSeams (s : State) (t num phase : Nat) : State :=
  let olds := s.lateOld t
  let live := s
  let s := s.withOld olds (fun _ => 0#32)
  let s := (((s.anglesStep num t).epochSeams num).secondSeam num t).softSeam num t
  ((s.frameSeams num t).beaconSeams num t phase).putBack live olds

/-- Epoch edge `num` falls at tick `t`: its seams, the presses that meet them, and the epoch that begins (R74, R230). -/
def State.edgeAt (s : State) (t num : Nat) (x : Conversions) (phase : Nat) : State :=
  let live := s.edgeStart t num
  let olds := live.lateOld t
  let quals := (List.range 32).map (fun n => live.qualifier n)
  let states := (List.range 32).map (fun n => live.fget F.ANG_STATUS_STATE n)
  let s := (live.edgeSeams t num phase).pressEdge live num t
  let live := s
  let s := s.withOld olds s.pressedBits
  let s := s.epochBegin t
  let s := s.epochData num t x quals olds
  let s := s.putBack live olds
  let s := { s with late := s.late.filter (fun x => decide (t < x.2.2 + 64)) }
  s.sendCheckpoints states

/-- The next epoch edge falls (R74, R76, R77). Time goes to its tick. With RUN at 0 the epoch in progress completes and no
edge falls; a gated AIN page keeps the timer where it is (R324). -/
def State.epochEdge (s : State) (x : Conversions) (phase : Nat) : State :=
  match s.epoch.next with
  | none => s
  | some due =>
    if !(s.domLive .acq && s.pageClocked 0x20 && s.adcClock) then s
    else
      let s := s.routerDrain 16
      let t := max due s.now
      let s := (s.elapse (t - s.now)).epochClose
      if s.epoch.running && !s.flag F.AIN_CTRL_RUN then
        { s with epoch := { s.epoch with running := false, next := none, firstNum := none } }
      else
        let num := if s.epoch.running then (s.epoch.edges.headD (0, 0)).1 + 1 else s.epoch.firstNum.getD 0
        s.edgeAt t (num % 2 ^ 64) x phase

end Sys2Proof.Machine
end

