-- ==== Sys2Proof/Machine/ExecAngle.lean ====
section
/-!
DEFINITION. The commands of the tach inputs, the angle engines, the seams and the epoch edge.
-/

namespace Sys2Proof.Machine

/-- The new level at input `n` has held for FILT ticks (R36): time goes to that tick, and the edge is stamped with the first
tick of the new level. -/
def State.tachFilter (s : State) (n : Nat) : State :=
  let x := s.tach.getD n ⟨false, none, none, 0⟩
  match x.since with
  | none => s
  | some t =>
    if !(s.pageLive 0x18 && s.adcClock) then s
    else
      let s := s.elapse (t + s.fget F.TACH_CFG_FILT n - s.now)
      ({ s with tach := setAt ⟨false, none, none, 0⟩ s.tach n { x with since := none } }).tachAccept n t x.pin

/-- The new level at input `n` has stood for FILT ticks now. -/
def State.tachDue (s : State) (n : Nat) : Bool :=
  match (s.tach.getD n ⟨false, none, none, 0⟩).since with
  | none => false
  | some t => decide (t + s.fget F.TACH_CFG_FILT n ≤ s.now)

/-- The level at tach input `n` becomes `level` (R36): the filter starts to count a new level, forgets one that has
returned, and passes it at once when FILT is 0. The filter stands while the TACH page is not clocked. -/
def State.tachPin (s : State) (n : Nat) (level : Bool) : State :=
  let s := if s.tachDue n then s.tachFilter n else s
  let x := s.tach.getD n ⟨false, none, none, 0⟩
  let live := s.pageLive 0x18 && s.adcClock
  let new := s.fbit F.TACH_LEVEL_LEVEL 0 n != level
  let since := if !live || !new then none else if x.pin = level then x.since else some s.now
  let s := { s with tach := setAt ⟨false, none, none, 0⟩ s.tach n { x with pin := level, since := since } }
  if live && new && s.fget F.TACH_CFG_FILT n = 0 then
    { s with tach := setAt ⟨false, none, none, 0⟩ s.tach n { x with pin := level, since := none } }.tachAccept n s.now level
  else s

/-- An engine in ACQUIRING that has seen no edge for 2^37 ticks starts as if it had just entered that state (R44). -/
def State.acqTimeout (s : State) (n : Nat) : State :=
  if s.fget F.ANG_STATUS_STATE n ≠ 1 || !(s.pageLive (0x10 + n / 4) && s.adcClock) then s
  else
    let e := s.eng n
    (s.setEng n (e.acquire e.angle e.jumped)).fsetB F.ANG_STATUS_REF_SEEN n false

/-- The mean of a learning run as a table entry (R52). -/
def learnMean (log2 : Nat) (sum : Int) : Nat := toField 16 (saturate 16 (roundShift log2 sum))

/-- The learning run of engine `n` has recorded its 2^LEARN_LOG2 revolutions: the means go into the inactive half and a swap
is requested (R52). The mean rounds to nearest, and an entry with no record, as those of the positions missing at a gap, stays as it
is (log entry 36). -/
def State.learnEnd (s : State) (n : Nat) : State :=
  let c := s.angSet n
  let e := s.eng n
  if !s.flag F.ANG_STATUS_LEARN_BUSY n || e.learnRevs < 2 ^ c.learnLog2 then s
  else
    let h := 1 - s.fget F.ANG_STATUS_TBL_HALF n
    let table := (e.learnSums.filter (fun y => y.1 < c.ppr)).foldl (fun t y =>
      tblPut t (1024 * h + y.1) (learnMean c.learnLog2 y.2)) e.table
    let s := s.setEng n { e with table := table, learnRevs := 0, learnTimes := [], learnSums := [], learnSwap := true }
    let s := (s.fsetB F.ANG_STATUS_LEARN_BUSY n false).fsetB F.ANG_TBL_CTRL_SWAP n true
    s.angBusy (n / 4)

/-- TACH_PIN_CHANGE: after `dt` ticks the level at tach input `n` becomes `level` (R36). -/
def execTachPinChange (n : Fin 32) (level : Bool) (dt : Nat) (s : State) : Host.Outcome State Fault Refusal :=
  .next ((s.elapse dt).tachPin n.val level)

/-- TACH_FILTER_ACCEPT: the filter of input `n` accepts the new level (R36–R38). -/
def execTachFilterAccept (n : Fin 32) (s : State) : Host.Outcome State Fault Refusal :=
  .next (s.tachFilter n.val)

/-- EPOCH_EDGE: the next epoch edge falls (R74). -/
def execEpochEdge (conv : Conversions) (phase : Fin 1024) (s : State) : Host.Outcome State Fault Refusal :=
  .next (s.epochEdge conv phase.val)

/-- ACQ_TIMEOUT: 2^37 ticks have passed without an edge, and engine `n` acquires afresh (R44). -/
def execAcqTimeout (n : Fin 32) (s : State) : Host.Outcome State Fault Refusal :=
  .next (s.acqTimeout n.val)

/-- REACQ: a write of 1 to ANG_CTRLn.REACQ (R43). -/
def execAngReacq (q : Requester) (n : Fin 32) (value : Word) (s : State) : Host.Outcome State Fault Refusal :=
  .next (s.writeReg q .ANG_CTRL n.val (value ||| maskOf 3 1))

/-- LEARN: a write of 1 to ANG_CTRLn.LEARN (R52). -/
def execAngLearn (q : Requester) (n : Fin 32) (value : Word) (s : State) : Host.Outcome State Fault Refusal :=
  .next (s.writeReg q .ANG_CTRL n.val (value ||| maskOf 2 1))

/-- LEARN_END: the learning run of engine `n` has its revolutions (R52). -/
def execLearnEnd (n : Fin 32) (s : State) : Host.Outcome State Fault Refusal :=
  .next (s.clocked (0x10 + n.val / 4) (fun s => s.learnEnd n.val))

/-- LOAD: a write of 1 to ANG_CTRLn.LOAD (R62). -/
def execAngLoad (q : Requester) (n : Fin 32) (value : Word) (s : State) : Host.Outcome State Fault Refusal :=
  .next (s.writeReg q .ANG_CTRL n.val (value ||| maskOf 1 1))

/-- ANG_CFG_WRITE: a direct write to ANG_CFGn (R48, R236). -/
def execAngCfgWrite (q : Requester) (n : Fin 32) (value : Word) (s : State) : Host.Outcome State Fault Refusal :=
  .next (s.writeReg q .ANG_CFG n.val value)

/-- ANG_TBL_DATA_WRITE: a write to the inactive half of the tooth table of engine `n` (R51). -/
def execAngTblDataWrite (q : Requester) (n : Fin 32) (value : Word) (s : State) : Host.Outcome State Fault Refusal :=
  .next (s.writeReg q .ANG_TBL_DATA n.val value)

/-- ANG_TBL_SWAP: a write of 1 to ANG_TBL_CTRLn.SWAP (R53). -/
def execAngTblSwap (q : Requester) (n : Fin 32) (s : State) : Host.Outcome State Fault Refusal :=
  .next (s.writeReg q .ANG_TBL_CTRL n.val 1#32)

/-- FIRE: a write of 1 to SEAM_SOFT.FIRE (R59). -/
def execSoftFire (q : Requester) (s : State) : Host.Outcome State Fault Refusal :=
  .next (s.writeReg q .SEAM_SOFT 0 1#32)

end Sys2Proof.Machine
end

