-- ==== Sys2Proof/Machine/ExecBackup.lean ====
section
/-!
DEFINITION. The commands of the backup domain, and the raw tick.
-/

namespace Sys2Proof.Machine

/-- A raw tick (R341): it is a tick of the timers on the LF clock and of the watchdogs too. -/
def State.rawTick (s : State) : State :=
  ((s.tickStep).timersCount 2 1).wdTick

/-- VBK_SWITCHOVER: VBK takes its supply from VBAT, or from the main-derived supply (R337). -/
def execVbkSwitchover (onVbat vbatLow : Bool) (s : State) : Host.Outcome State Fault Refusal :=
  .next ((s.fsetB F.BKD_STATUS_ON_VBAT 0 onVbat).vbatSample vbatLow)

/-- VBK_DIP: VBK dips to `mv` millivolts (R338, R339). -/
def execVbkDip (mv : Nat) (bytes : List (Fin 64 × Byte)) (s : State) : Host.Outcome State Fault Refusal :=
  .next (s.vbkDip mv (bytes.map (fun x => (x.1.val, x.2))))

/-- OSC_STOP_DETECT: the LFXO has stood for 1 ms (R340). -/
def execOscStopDetect (s : State) : Host.Outcome State Fault Refusal :=
  .next (s.oscStopped)

/-- SECOND_BOUNDARY: a trimmed second begins (R346). -/
def execSecondBoundary (vbatLow : Bool) (s : State) : Host.Outcome State Fault Refusal :=
  .next (s.secondBoundary vbatLow)

/-- ALARM_FIRE: the alarm fires (R344). -/
def execAlarmFire (s : State) : Host.Outcome State Fault Refusal :=
  .next (s.alarmFire)

/-- SET: a write of 1 to BKD_CTRL.SET (R342). -/
def execBkdSet (q : Requester) (value : Word) (s : State) : Host.Outcome State Fault Refusal :=
  .next (s.writeReg q .BKD_CTRL 0 (value ||| maskOf 4 1))

/-- TICK_SET_LOAD: the raw tick at which both counters take BKD_SET (R342). -/
def execTickSetLoad (s : State) : Host.Outcome State Fault Refusal :=
  .next (if s.flag F.BKD_CTRL_SET then s.rawTick else s)

/-- CAL_LOAD: a write of 1 to BKD_CTRL.CAL_LOAD (R347). -/
def execCalLoad (q : Requester) (value : Word) (s : State) : Host.Outcome State Fault Refusal :=
  .next (s.writeReg q .BKD_CTRL 0 (value ||| maskOf 5 1))

/-- MEAS_START: a write of 1 to BKD_MEAS_CTRL.START (R345). -/
def execMeasStart (q : Requester) (value : Word) (s : State) : Host.Outcome State Fault Refusal :=
  .next (s.writeReg q .BKD_MEAS_CTRL 0 (value ||| maskOf 31 1))

/-- BK_WRITE: a write to word `w` of the backup bytes (R349). -/
def execBkWrite (q : Requester) (w : Fin 16) (value : Word) (s : State) : Host.Outcome State Fault Refusal :=
  .next (s.writeReg q .BKD_BK w.val value)

/-- CRC_CHECK: a write of 1 to BKD_CTRL.CRC_CHECK (R350). -/
def execCrcCheck (q : Requester) (value : Word) (s : State) : Host.Outcome State Fault Refusal :=
  .next (s.writeReg q .BKD_CTRL 0 (value ||| maskOf 6 1))

/-- CRC_CHECK_DONE: the check of the backup bytes ends (R350). -/
def execCrcCheckDone (s : State) : Host.Outcome State Fault Refusal :=
  .next (if s.flag F.BKD_CTRL_CRC_CHECK then s.bkCheck else s)

/-- WKUP_EDGE: the level of `edge` has come to wake pin `p` (R351). -/
def execWkupEdge (p : Fin 2) (edge : PinLevel) (phase : Fin 1024) (s : State) : Host.Outcome State Fault Refusal :=
  .next (s.wkupEdge p.val edge.level edge.held phase.val)

/-- RAW_TICK: one tick of the low-frequency clock (R341): the counters, the timers that count it, and the watchdogs. -/
def execRawTick (s : State) : Host.Outcome State Fault Refusal :=
  .next (s.rawTick)

end Sys2Proof.Machine
end

