-- ==== Sys2Proof/Machine/ExecBasket.lean ====
section
/-!
DEFINITION. The commands of the basket slots.
-/

namespace Sys2Proof.Machine

/-- The word of BS_CTRL with a command and the MIRROR bit. -/
def bsWord (cmd : Nat) (mirror : Bool) : Word := BitVec.ofNat 32 (cmd + (if mirror then 256 else 0))

/-- BS_VALUE: a write to BS_VALUE appends an entry to a slot (R222). -/
def execBsValue (q : Requester) (slot : Fin 8) (value : Word) (s : State) : Host.Outcome State Fault Refusal :=
  .next (s.writeReg q .BS_VALUE slot.val value)

/-- CLOSE: command 1 to a slot (R223). -/
def execBsClose (q : Requester) (slot : Fin 8) (mirror : Bool) (s : State) : Host.Outcome State Fault Refusal :=
  .next (s.writeReg q .BS_CTRL slot.val (bsWord 1 mirror))

/-- ARM: command 2 to a slot (R223). -/
def execBsArm (q : Requester) (slot : Fin 8) (mirror : Bool) (s : State) : Host.Outcome State Fault Refusal :=
  .next (s.writeReg q .BS_CTRL slot.val (bsWord 2 mirror))

/-- ARM_VALIDATION_DONE: the validation of an arm ends (R225). -/
def execArmValidationDone (slot : Fin 8) (s : State) : Host.Outcome State Fault Refusal :=
  .next (s.clocked 0x0B (fun s => s.armDone slot.val))

/-- CANCEL: command 3 to a slot (R223). -/
def execBsCancel (q : Requester) (slot : Fin 8) (mirror : Bool) (s : State) : Host.Outcome State Fault Refusal :=
  .next (s.writeReg q .BS_CTRL slot.val (bsWord 3 mirror))

/-- CLEAR: command 4 to a slot (R223). -/
def execBsClear (q : Requester) (slot : Fin 8) (mirror : Bool) (s : State) : Host.Outcome State Fault Refusal :=
  .next (s.writeReg q .BS_CTRL slot.val (bsWord 4 mirror))

/-- BS_RDATA_READ: a read of BS_RDATA of a slot (R242). -/
def execBsRdataRead (q : Requester) (slot : Fin 8) (s : State) : Host.Outcome State Fault Refusal :=
  .next (s.readReg q .BS_RDATA slot.val)

end Sys2Proof.Machine
end

