-- ==== Sys2Proof/Machine/LinkServe.lean ====
section
/-!
DEFINITION. The requests that arrive over the links (R366–R370): register and memory runs, their refusals, and the mend
window (R442).
-/

namespace Sys2Proof.Machine

/-- The requester that port `p` stands for (table "Link requesters"). -/
def linkRequester (p : Nat) : Requester := if p = 0 then .host else if p = 1 then .twin else .ring

/-- A request on port `p` is refused with reason TYPE (R361, R366, R370, R386). -/
def State.linkRefused (s : State) (p : Nat) (pk : Packet) : Bool :=
  (if p = 1 then pk.src != s.twinId else pk.src != 0x3E) || pk.resp || pk.dst == 0xFF || (s.p0Closed p && pk.typ != 0)

/-- NAK reason of a bus error with a cause (R370). -/
def nakReason (cause : Nat) : Nat := if cause = 1 then 2 else 3

/-- First address of the register pages on the fabric. -/
def pageBase : Nat := 0x100040000000

/-- A register request of a wrong form (reason RANGE, R367). -/
def regRunBad (pk : Packet) (len : Nat) : Bool :=
  let count := pk.aux % 256 + 1
  pk.addr % 4 != 0 || pk.aux / 256 != 0 || pk.len != len || decide (pk.addr < pageBase) ||
    decide (pageBase + 0x100000 < pk.addr + 4 * count)

/-- What a run of accesses has come to: the data, the cause and index of the bus error that ended it, or the index of
an access that the fabric or the governor holds with the data so far. -/
inductive RegRun where
  | done (data : List Byte)
  | failed (cause index : Nat)
  | waits (index : Nat) (data : List Byte)
deriving DecidableEq, Repr

/-- Read `count` registers from register-space address `a` (R367) for requester `q`, until the fabric holds one of the accesses
(R483); `i` words have been read. -/
def State.readRun (s : State) (q : Requester) : Nat → Nat → Nat → List Byte → State × RegRun
  | 0, _, _, acc => (s, .done acc)
  | count + 1, a, i, acc =>
    let s := s.checksOver (a / 0x1000)
    if s.fabHolds q (a / 0x1000) then (s, .waits i acc)
    else
      match s.performRead (s.who q) 4 a (pageBase + a) with
      | (s, .ok v) => s.readRun q count (a + 4) (i + 1) (acc ++ leBytes 4 v)
      | (s, .err c) => (s, .failed c i)
      | (s, .none) => (s, .done acc)

/-- Write words to registers from register-space address `a` (R367), in the same way. -/
def State.writeRun (s : State) (q : Requester) : List Nat → Nat → Nat → State × RegRun
  | [], _, _ => (s, .done [])
  | v :: vs, a, i =>
    let s := s.checksOver (a / 0x1000)
    if s.fabHolds q (a / 0x1000) then (s, .waits i [])
    else
      match s.performWrite (s.who q) 4 a (pageBase + a) (BitVec.ofNat 32 v) with
      | (s, .err c) => (s, .failed c i)
      | (s, _) => s.writeRun q vs (a + 4) (i + 1)

/-- Read `count` units of 8 bytes at fabric address `a` (R368) for port `p`, until the governor holds one (R169); `i` units have
been read. -/
def State.readUnits (s : State) (p : Nat) (w : Who) : Nat → Nat → Nat → List Byte → State × RegRun
  | 0, _, _, acc => (s, .done acc)
  | count + 1, a, i, acc =>
    let r := s.memAsk (8 + p) 3 a 8 w.secure
    if !r.2 then (r.1, .waits i acc)
    else
      match r.1.fabRead a 8 w.src 0 w.secure with
      | (s, .ok bs) => s.readUnits p w count (a + 8) (i + 1) (acc ++ bs)
      | (s, .error c) => (s, .failed c i)

/-- Write units of 8 bytes at fabric address `a` (R368) in the same way: a whole 256-bit word of HBM at once (R165). `fuel` bounds
the steps. -/
def State.writeUnits (s : State) (p : Nat) (w : Who) : Nat → List Byte → Nat → Nat → State × RegRun
  | 0, _, _, _ => (s, .done [])
  | fuel + 1, bs, a, i =>
    if bs.isEmpty then (s, .done [])
    else
      let n := if fabTarget a = .hbm && a % 32 == 0 && decide (32 ≤ bs.length) then 32 else 8
      let r := s.memAsk (8 + p) 3 a n w.secure
      if !r.2 then (r.1, .waits i [])
      else
        match r.1.fabWrite a (bs.take n) w.src w.secure with
        | (s, 0) => s.writeUnits p w fuel (bs.drop n) (a + n) (i + n / 8)
        | (s, c) => (s, .failed c i)

/-- The answer to request `pk` whose run has ended. -/
def State.runAnswer (s : State) (p : Nat) (pk : Packet) (unit : Nat) (x : Except (Nat × Nat) (List Byte)) : State :=
  match x with
  | .ok bs => s.respond p pk pk.typ 0 pk.addr pk.aux bs
  | .error (c, i) => s.transNak p pk (nakReason c) (pk.addr + unit * i) i

/-- What the run of `pk`, the request at the front of the inbox of port `p`, has come to: it waits in its place, or it leaves the
inbox and is answered. A run that has emptied its own port, which a soft reset of the port's page does, leaves nothing behind. -/
def State.runEnd (s : State) (p : Nat) (pk : Packet) (unit : Nat) (x : RegRun) : State :=
  match s.takeInbox p (fun y => y == pk) with
  | none => s
  | some (_, t) =>
    match x with
    | .waits i acc => s.setPort p { s.port p with run := some (i, acc) }
    | .done bs => t.runAnswer p pk unit (.ok bs)
    | .failed c i => t.runAnswer p pk unit (.error (c, i))

/-- In mend mode the links have the mend window and nothing else (R442). -/
def State.mendOnly (s : State) : Bool := s.mend.on

/-- The whole fabric but the mend window is unmapped: the request fails at its first access. -/
def State.mendUnmapped (s : State) (p : Nat) (w : Who) (pk : Packet) (wr : Bool) : State :=
  (s.logBusErr pk.addr wr w.src 1).transNak p pk 2 pk.addr 0

/-- The request `pk` on port `p`, with its registers `count` from `pk.addr`, is served from where it stands: it waits in its
place while the fabric holds one of its accesses, and it is answered when the run has ended (R367, R369, R483). -/
def State.serveRegs (s : State) (p : Nat) (pk : Packet) : State :=
  let q := linkRequester p
  let count := pk.aux % 256 + 1
  let (i, acc) := (s.port p).run.getD (0, [])
  let a := pk.addr - pageBase + 4 * i
  let (u, x) := if pk.typ = 0 then s.readRun q (count - i) a i acc
    else s.writeRun q (((List.range count).map (fun k => numAt pk.payload (4 * k) 4)).drop i) a i
  u.runEnd p pk 4 x

/-- The request `pk` on port `p`, a run of memory of the right form, is served in the same way (R368, R169). -/
def State.serveMem (s : State) (p : Nat) (w : Who) (pk : Packet) : State :=
  let units := pk.aux % 128 + 1
  let (i, acc) := (s.port p).run.getD (0, [])
  let a := pk.addr + 8 * i
  let (u, x) := if pk.typ = 2 then s.readUnits p w (units - i) a i acc
    else s.writeUnits p w units (pk.payload.drop (8 * i)) a i
  u.runEnd p pk 8 x

/-- The request `pk` is a run of registers of the right form. -/
def State.isRegRun (s : State) (pk : Packet) : Bool :=
  decide (pk.typ < 2) && !regRunBad pk (if pk.typ = 0 then 0 else (pk.aux % 256 + 2) / 2) && !s.mendOnly

/-- A memory request of a wrong form (reason RANGE, R368). -/
def memRunBad (pk : Packet) (len : Nat) : Bool :=
  let units := pk.aux % 128 + 1
  pk.addr % 8 != 0 || pk.len != len || decide (pk.addr < pageBase + 0x100000 ∧ pageBase < pk.addr + 8 * units)

/-- The request `pk` is a run of memory of the right form. -/
def State.isMemRun (s : State) (pk : Packet) : Bool :=
  decide (2 ≤ pk.typ) && !memRunBad pk (if pk.typ = 2 then 0 else pk.aux % 128 + 1) && !s.mendOnly

/-- The request `pk` on port `p`, taken from the inbox, is served: a run of a wrong form, or one in mend mode. -/
def State.serveRun (s : State) (p : Nat) (w : Who) (pk : Packet) : State :=
  let units := pk.aux % 128 + 1
  match pk.typ with
  | 0 => if regRunBad pk 0 then s.transNak p pk 1 pk.addr 0 else s.mendUnmapped p w pk false
  | 1 => if regRunBad pk ((pk.aux % 256 + 2) / 2) then s.transNak p pk 1 pk.addr 0 else s.mendUnmapped p w pk true
  | 2 =>
    if memRunBad pk 0 then s.transNak p pk 1 pk.addr 0
    else if inMendWindow pk.addr (8 * units) then
      (s.mendRead (pk.addr - mendBase) (8 * units)).runAnswer p pk 8 (.ok (s.mendShown (pk.addr - mendBase) (8 * units)))
    else s.mendUnmapped p w pk false
  | _ =>
    if memRunBad pk units then s.transNak p pk 1 pk.addr 0
    else if inMendWindow pk.addr (8 * units) then (s.mendWindow (pk.addr - mendBase) pk.payload).runAnswer p pk 8 (.ok [])
    else s.mendUnmapped p w pk true

/-- Serve the request at the front of the inbox of port `p`, if it is of type `typ` (R366–R370). -/
def State.serveRequest (s : State) (p typ : Nat) : State :=
  let q := linkRequester p
  if !s.domLive .lnk then s
  else
    match s.takeInbox p (fun pk => pk.typ == typ) with
    | none => s
    | some (pk, t) =>
      if (s.port p).run.isNone && s.linkRefused p pk then t.transNak p pk 4 pk.addr 0
      else if s.isRegRun pk then s.serveRegs p pk
      else if s.isMemRun pk then s.serveMem p (s.who q) pk
      else t.serveRun p (t.who q) pk

end Sys2Proof.Machine
end

