-- ==== Sys2Proof/Machine/ExecBoot.lean ====
section
/-!
DEFINITION. The commands of the start-up, of mend mode and of the watchdogs.
-/

namespace Sys2Proof.Machine

/-- DSEN_POWER_ON: D_SEN powers on with straps `devid`; its banks and its flash are those of `board` (R418, R440,
R464, R467). -/
def execDsenPowerOn (devid : Fin 32) (board : BoardLevels) (s : State) : Host.Outcome State Fault Refusal :=
  .next (s.senPowerOn devid.val board.vio.val board.modes.val)

/-- ROM_COPY_DONE: the ROM `rom` of S (0) or C0 (1) has been copied; `failed` is the step of S that fails (R418). -/
def execRomCopyDone (core : Fin 2) (failed : Option (Fin 3)) (rom found : Contents)
    (s : State) : Host.Outcome State Fault Refusal :=
  .next (s.romCopied core.val failed rom found)

/-- DEVICE_RESTART: a device restart with a cause of table RST_CAUSE other than POWER_ON (R419). -/
def execDeviceRestart (cause : Fin 6) (s : State) : Host.Outcome State Fault Refusal :=
  .next (if s.power.senOn && cause.val != 0 then s.restart cause.val else s)

/-- RESTART: a write to CORE_S.RESTART (R448). -/
def execRestartWrite (q : Requester) (value : Word) (s : State) : Host.Outcome State Fault Refusal :=
  .next (s.writeReg q .RESTART 0 value)

/-- HOLD_RETRY: the wait of a HOLD is over, and S starts again at step 1 (R421). -/
def execHoldRetry (failed : Option (Fin 3)) (found : Contents) (s : State) : Host.Outcome State Fault Refusal :=
  .next (if s.boot.parked then s.romS failed found else s)

/-- BOOT_MBOX: a write to BOOT_MBOX (R423). -/
def execBootMbox (q : Requester) (value : Word) (s : State) : Host.Outcome State Fault Refusal :=
  .next (s.writeReg q .BOOT_MBOX 0 value)

/-- BOOT_MEND: a write of 1 to BOOT_CTRL.MEND (R441). -/
def execBootMend (q : Requester) (value : Word) (s : State) : Host.Outcome State Fault Refusal :=
  .next (s.writeReg q .BOOT_CTRL 0 (value ||| maskOf 4 1))

/-- MEAS_LOCK: a write of 1 to BOOT_CTRL.MEAS_LOCK (R444). -/
def execMeasLock (q : Requester) (value : Word) (s : State) : Host.Outcome State Fault Refusal :=
  .next (s.writeReg q .BOOT_CTRL 0 (value ||| maskOf 0 1))

/-- MEND_FRAME: a mend frame has been received whole (R442). -/
def execMendFrame (p0 : Bool) (s : State) : Host.Outcome State Fault Refusal :=
  .next (s.mendFrame p0)

/-- MEND_FRAME_GAP: a gap drops the partial frame on UART0 (R442). -/
def execMendFrameGap (s : State) : Host.Outcome State Fault Refusal :=
  .next (s.mendGap)

/-- HELLO of mend mode (R443). -/
def execHelloMend (s : State) : Host.Outcome State Fault Refusal :=
  .next (s.mendHello)

/-- ERASE of mend mode (R443). -/
def execMendErase (ok : Bool) (s : State) : Host.Outcome State Fault Refusal :=
  .next (s.mendErase ok)

/-- WRITE of mend mode (R443). -/
def execMendWrite (ok : Bool) (s : State) : Host.Outcome State Fault Refusal :=
  .next (s.mendWrite ok)

/-- VERIFY of mend mode (R443). -/
def execMendVerify (s : State) : Host.Outcome State Fault Refusal :=
  .next (s.mendVerify)

/-- SELECT of mend mode (R443). -/
def execMendSelect (ok : Bool) (s : State) : Host.Outcome State Fault Refusal :=
  .next (s.mendSelect ok)

/-- LEAVE of mend mode (R443). -/
def execMendLeave (s : State) : Host.Outcome State Fault Refusal :=
  .next (s.mendLeave)

/-- WD_KICK: a write to WD_KICK of watchdog `d` (R446). -/
def execWdKick (q : Requester) (d : Fin 5) (value : Word) (s : State) : Host.Outcome State Fault Refusal :=
  .next (s.writeReg q .WD_KICK d.val value)

/-- WD_EXPIRY: the count of watchdog `d` has reached zero (R446). -/
def execWdExpiry (d : Fin 5) (s : State) : Host.Outcome State Fault Refusal :=
  .next (s.wdExpiry d.val)

end Sys2Proof.Machine
end

