-- ==== Sys2Proof/Machine/ExecClock.lean ====
section
/-!
DEFINITION. The commands of the clock sources, the clock monitors and the operating points.
-/

namespace Sys2Proof.Machine

/-- SOURCE_READY: a source has produced its count (R321). -/
def execSourceReady (src : Fin 18) (s : State) : Host.Outcome State Fault Refusal :=
  .next (s.sourceReady src.val)

/-- CLK_SEL_WRITE: a write to CLK_SEL (R322). -/
def execClkSelWrite (q : Requester) (value : Word) (s : State) : Host.Outcome State Fault Refusal :=
  .next (s.writeReg q .CLK_SEL 0 value)

/-- CLK_EN_WRITE: a write to CLK_EN (R322). -/
def execClkEnWrite (q : Requester) (value : Word) (s : State) : Host.Outcome State Fault Refusal :=
  .next (s.writeReg q .CLK_EN 0 value)

/-- CLK_PEN_WRITE: a write to word `w` of CLK_PEN (R324, R325). -/
def execClkPenWrite (q : Requester) (w : Fin 8) (value : Word) (s : State) : Host.Outcome State Fault Refusal :=
  .next (s.writeReg q .CLK_PEN w.val value)

/-- CLOCK_FAIL: a monitor declares a source failed (R331–R334); a failure of SENRC restarts the device. -/
def execClockFail (src : Fin 18) (s : State) : Host.Outcome State Fault Refusal :=
  .next (if src.val = 2 then (if s.srcOn 2 then s.restart 2 else s) else s.clockFailed src.val)

/-- CLKMON_RESUME: a write of RESUME bits (R333). -/
def execClkmonResume (q : Requester) (value : Word) (s : State) : Host.Outcome State Fault Refusal :=
  .next (s.writeReg q .CLKMON_CMD 0 (value &&& ~~~maskOf 8 4))

/-- CLKMON_RELEASE: a write of RELEASE bits (R333). -/
def execClkmonRelease (q : Requester) (value : Word) (s : State) : Host.Outcome State Fault Refusal :=
  .next (s.writeReg q .CLKMON_CMD 0 (value &&& ~~~maskOf 0 4))

/-- CLKMON_TIMEOUT: the limit has passed since the failure of domain `d` (R333). -/
def execClkmonTimeout (d : Fin 4) (s : State) : Host.Outcome State Fault Refusal :=
  .next (s.monTimeout d.val)

/-- DVFS_TARGET_WRITE: a write to DVFS_TARGET, or to DVFS_CAP (R327). -/
def execDvfsTargetWrite (q : Requester) (cap : Bool) (value : Word) (s : State) : Host.Outcome State Fault Refusal :=
  .next (if cap then s.writeReg q .DVFS_CAP 0 value else s.writeReg q .DVFS_TARGET 0 value)

/-- DVFS_TRANSITION: the sequencer starts the transition that is due (R328). -/
def execDvfsTransition (s : State) : Host.Outcome State Fault Refusal :=
  .next (s.dvfsStart)

/-- DVFS_TRANSITION_DONE: the transition ends with the answer of the regulator (R328, R329). -/
def execDvfsTransitionDone (answers alert : Bool) (mv : BitVec 16) (s : State) : Host.Outcome State Fault Refusal :=
  .next (s.dvfsDone answers alert mv.toNat)

/-- PMB_START: a write of 1 to PMB_CMD.START (R336). -/
def execPmbStart (q : Requester) (value : Word) (s : State) : Host.Outcome State Fault Refusal :=
  .next (s.writeReg q .PMB_CMD 0 (value ||| maskOf 31 1))

/-- PMB_DONE: the transaction ends (R336). -/
def execPmbDone (data : BitVec 16) (nack pecErr : Bool) (s : State) : Host.Outcome State Fault Refusal :=
  .next (s.pmbEnd data nack pecErr)

/-- ANA_PG_FALL: ANA_PG falls (R468). -/
def execAnaPgFall (s : State) : Host.Outcome State Fault Refusal :=
  .next (s.anaPgFall)

/-- ANA_PG_RISE: ANA_PG rises, and D_ANA is switched on (R306, R468). -/
def execAnaPgRise (flipped : List Nat) (found : Contents) (s : State) : Host.Outcome State Fault Refusal :=
  .next (s.anaPgRise flipped found)

end Sys2Proof.Machine
end

