-- ==== Sys2Proof/Machine/ExecData.lean ====
section
/-!
DEFINITION. The commands of the streams, the resampler lanes, the HBM lines, the stacks and the governor.
-/

namespace Sys2Proof.Machine

/-- The open block of line `l` has been open for FLUSH_MS ms: it is flushed, as soon as the writer has room (R145). -/
def State.blockFlush (s : State) (l : Nat) : State :=
  if !s.lineOn l || s.fget F.LINE_CFG_FLUSH_MS l = 0 || (s.line l).payload == [] then s
  else if s.lineRoom then s.completeBlock l
  else s.setLine l { s.line l with flush := true }

/-- STK_PG falls (R469). -/
def State.stkPgFall (s : State) : State :=
  if !s.power.stkPg then s
  else
    let s := { s with power := { s.power with stkPg := false } }
    if s.power.stkEn then s.stacksFail else s

/-- The stacks that wait for STK_PG become FAILED (R469). -/
def State.stkPgTimeout (s : State) : State :=
  if s.power.stkPg || !s.power.stkEn then s
  else forEach (indices 4 (fun x => (s.stack x).waitPg.isSome)) (fun x s =>
    (s.setStack x { s.stack x with waitPg := none }).trainEnd x 4) s

/-- STK_PG rises while STK_EN is high (R469). -/
def State.stkPgRise (s : State) : State :=
  if s.power.stkPg || !s.power.stkEn then s
  else
    let s := { s with power := { s.power with stkPg := true } }
    forEach (indices 4 (fun x => (s.stack x).waitPg.isSome)) (fun x s =>
      (s.setStack x { s.stack x with waitPg := none }).trainBegin x ((s.stack x).waitPg.getD 0)) s

/-- HDR_NOW: a write of 1 to STR_CTRL.HDR_NOW of stream `st` (R131). -/
def execHdrNow (q : Requester) (st : Fin 64) (value : Word) (s : State) : Host.Outcome State Fault Refusal :=
  .next (s.writeReg q .STR_CTRL st.val (value ||| maskOf 31 1))

/-- LANE_FRAME: lane `l` takes the next frame of its FIFO (R136). -/
def execLaneFrame (l : Fin 16) (s : State) : Host.Outcome State Fault Refusal :=
  .next (if s.pageClocked (0x30 + l.val / 8) && s.adcClock then s.laneFrame l.val else s)

/-- COPY: a write of 1 to RL_CTRL.COPY of lane `l` (R137). -/
def execRlCopy (q : Requester) (l : Fin 16) (value : Word) (s : State) : Host.Outcome State Fault Refusal :=
  .next (s.writeReg q .RL_CTRL l.val (value ||| maskOf 9 1))

/-- COPY_DONE: the table copy of lane `l` completes (R137). -/
def execRlCopyDone (l : Fin 16) (s : State) : Host.Outcome State Fault Refusal :=
  .next (s.clocked (0x30 + l.val / 8) (fun s => s.rlCopyDone l.val))

/-- RL_TBL_DATA_WRITE: a write to the inactive table half of lane `l` (R137). -/
def execRlTblDataWrite (q : Requester) (l : Fin 16) (value : Word) (s : State) : Host.Outcome State Fault Refusal :=
  .next (s.writeReg q .RL_TBL_DATA l.val value)

/-- SWAP: a write of 1 to RL_CTRL.SWAP of lane `l` (R138). -/
def execRlSwap (q : Requester) (l : Fin 16) (value : Word) (s : State) : Host.Outcome State Fault Refusal :=
  .next (s.writeReg q .RL_CTRL l.val (value ||| maskOf 8 1))

/-- LINE_ITEM: the line writer takes the next item of source `src`, a stream or 64 + a lane (R145). -/
def execLineItem (src : Fin 80) (s : State) : Host.Outcome State Fault Refusal :=
  .next (s.clocked 0x38 (fun s => s.lineItem src.val))

/-- FLUSH: a write of 1 to LINE_CTRL.FLUSH of line `l` (R145). -/
def execLineFlush (q : Requester) (l : Fin 64) (value : Word) (s : State) : Host.Outcome State Fault Refusal :=
  .next (s.writeReg q .LINE_CTRL l.val (value ||| maskOf 2 1))

/-- BLOCK_FLUSH_TIMEOUT: the open block of line `l` has been open for FLUSH_MS ms (R145). -/
def execBlockFlushTimeout (l : Fin 64) (s : State) : Host.Outcome State Fault Refusal :=
  .next (s.clocked 0x38 (fun s => s.blockFlush l.val))

/-- LINE_ENABLE_WRITE: a write to LINE_CTRL of line `l` (R144, R148). -/
def execLineEnableWrite (q : Requester) (l : Fin 64) (value : Word) (s : State) : Host.Outcome State Fault Refusal :=
  .next (s.writeReg q .LINE_CTRL l.val value)

/-- GOV_WINDOW: a window of the bandwidth governor ends (R169). -/
def execGovWindow (s : State) : Host.Outcome State Fault Refusal :=
  .next (s.clocked 0x3E (fun s => s.govTick))

/-- DRAIN_BLOCK: the oldest block of the short line moves to HBM (R159). -/
def execDrainBlock (s : State) : Host.Outcome State Fault Refusal :=
  .next (s.clocked 0x38 (fun s => s.drainBlock))

/-- PEG_SET: command 1 to the selected peg (R153). -/
def execPegSet (q : Requester) (s : State) : Host.Outcome State Fault Refusal :=
  .next (s.writeReg q .PEG_CMD 0 1#32)

/-- PEG_ARM: command 2 to the selected peg (R153). -/
def execPegArm (q : Requester) (s : State) : Host.Outcome State Fault Refusal :=
  .next (s.writeReg q .PEG_CMD 0 2#32)

/-- PEG_FIRE: command 3 to the selected peg (R155). -/
def execPegFire (q : Requester) (s : State) : Host.Outcome State Fault Refusal :=
  .next (s.writeReg q .PEG_CMD 0 3#32)

/-- PEG_RELEASE: command 4 to the selected peg (R154). -/
def execPegRelease (q : Requester) (s : State) : Host.Outcome State Fault Refusal :=
  .next (s.writeReg q .PEG_CMD 0 4#32)

/-- LINE_FETCH_START: a write of 1 to LINE_FETCH_CTRL.START (R157). -/
def execLineFetchStart (q : Requester) (value : Word) (s : State) : Host.Outcome State Fault Refusal :=
  .next (s.writeReg q .LINE_FETCH_CTRL 0 (value ||| maskOf 31 1))

/-- LINE_FETCH_DONE: the fetch of blocks completes (R157). -/
def execLineFetchDone (s : State) : Host.Outcome State Fault Refusal :=
  .next (s.clocked 0x38 (fun s => s.fetchDone))

/-- TRAIN_START: a write of 1 to HBMC_CTRL.TRAIN_START of stack `x` (R164). -/
def execTrainStart (q : Requester) (x : Fin 4) (value : Word) (s : State) : Host.Outcome State Fault Refusal :=
  .next (s.writeReg q .HBMC_CTRL x.val (value ||| maskOf 0 1))

/-- TRAINING_DONE: a training attempt of stack `x` ends (R164). -/
def execTrainingDone (x : Fin 4) (ok : Bool) (settings : List Word) (lanes : List Nat)
    (s : State) : Host.Outcome State Fault Refusal :=
  .next (s.clocked (0x3A + x.val) (fun s => s.trainingDone x.val ok settings lanes))

/-- ECS_READ: the 10 s reading of the ECS counts and the temperature of stack `x` (R166). -/
def execEcsRead (x : Fin 4) (rows count temp : Nat) (s : State) : Host.Outcome State Fault Refusal :=
  .next (s.clocked (0x3A + x.val) (fun s => s.ecsRead x.val rows count temp))

/-- RINSE_READ: the rinse engine reads its next block (R167). -/
def execRinseRead (s : State) : Host.Outcome State Fault Refusal :=
  .next (s.rinseRead)

/-- STK_PG_FALL: STK_PG falls while STK_EN is high (R469). -/
def execStkPgFall (s : State) : Host.Outcome State Fault Refusal :=
  .next (s.stkPgFall)

/-- STK_PG_TIMEOUT: STK_PG has not risen 10 ms after STK_EN (R469). -/
def execStkPgTimeout (s : State) : Host.Outcome State Fault Refusal :=
  .next (s.stkPgTimeout)

/-- STK_PG_RISE: STK_PG rises, and the stacks that wait for it train (R469). -/
def execStkPgRise (s : State) : Host.Outcome State Fault Refusal :=
  .next (s.stkPgRise)

end Sys2Proof.Machine
end

