-- ==== Sys2Proof/Machine/ExecEvent.lean ====
section
/-!
DEFINITION. The commands of the core pages, the event router, the logic cells, the timers and the GPIO pins.
-/

namespace Sys2Proof.Machine

/-- CORE_RESET: a write of 1 to CORE_CTRL.RESET of core `x` (R265). -/
def execCoreReset (q : Requester) (x : Fin 5) (value : Word) (s : State) : Host.Outcome State Fault Refusal :=
  .next (s.writeReg q .CORE_CTRL (coreReg x.val) (value ||| maskOf 1 1))

/-- CORE_RUN_WRITE: a write of CORE_CTRL.RUN of core `x` (R265). -/
def execCoreRunWrite (q : Requester) (x : Fin 5) (value : Word) (s : State) : Host.Outcome State Fault Refusal :=
  .next (s.writeReg q .CORE_CTRL (coreReg x.val) value)

/-- GENERATOR_PULSE: a pulse of generator `gen` reaches the router and passes its stages (R282). -/
def execGeneratorPulse (gen : Fin 512) (s : State) : Host.Outcome State Fault Refusal :=
  .next (s.generatorPulse gen.val)

/-- EVR_FIRE: a write to EVR_FIRE fires channels by hand (R286). -/
def execEvrFire (q : Requester) (w : Fin 4) (value : Word) (s : State) : Host.Outcome State Fault Refusal :=
  .next (s.writeReg q .EVR_FIRE w.val value)

/-- GUARD_WINDOW_END: the guard window of channel `ch` ends (R294). -/
def execGuardWindowEnd (ch : Fin 128) (s : State) : Host.Outcome State Fault Refusal :=
  .next (s.clocked (0x08 + ch.val / 64) (fun s => s.guardWindow ch.val))

/-- CELL_FILTER_ACCEPT: the output of a cell has held for the time of its filter (R292). -/
def execCellFilterAccept (cell : Fin 32) (s : State) : Host.Outcome State Fault Refusal :=
  .next (s.cellAccept cell.val)

/-- EVL_WRITE: a direct write to a register of a cell: 0 inputs, 1 truth table, 2 mode (R293). -/
def execEvlWrite (q : Requester) (cell : Fin 32) (reg : Fin 3) (value : Word)
    (s : State) : Host.Outcome State Fault Refusal :=
  .next (if reg.val = 0 then s.writeReg q .EVL_CELL_IN cell.val value
    else if reg.val = 1 then s.writeReg q .EVL_CELL_TT cell.val value
    else s.writeReg q .EVL_CELL_MODE cell.val value)

/-- TIMER_MATCH: the count of a timer becomes CMP (R298). -/
def execTimerMatch (t : Fin 8) (s : State) : Host.Outcome State Fault Refusal :=
  .next (s.timerMatch t.val)

/-- TIMER_WRAP: a timer passes TOP (R298). -/
def execTimerWrap (t : Fin 8) (s : State) : Host.Outcome State Fault Refusal :=
  .next (s.timerWrap t.val)

/-- GPIO_INPUT_EDGE: the level at a GPIO ball changes (R284). -/
def execGpioInputEdge (pin : Fin 48) (level : Bool) (s : State) : Host.Outcome State Fault Refusal :=
  .next (s.gpioEdge pin.val level)

/-- ROUTER_CYCLE: one cycle of the router passes (R282, R291). -/
def execRouterCycle (s : State) : Host.Outcome State Fault Refusal :=
  .next (s.routerCycle)

end Sys2Proof.Machine
end

