-- ==== Sys2Proof/Machine/ExecInputs.lean ====
section
/-!
DEFINITION. The commands of the module positions, the identity buses, the epoch timer and the converter.
-/

namespace Sys2Proof.Machine

/-- Group `g`, still switched on, is ready (R69), and its darned cell is put on its spare (R459). -/
def State.groupReady (s : State) (g : Nat) : State :=
  if s.domLive .acq && s.fbit F.AIN_GRP_PWR_EN 0 g && !s.grpReady g then
    let s := s.fsetBit F.AIN_GRP_PWR_RDY 0 g true
    if s.flag F.DARN_CELL_EN g then s.setReg .AIN_SPARE g (s.reg .DARN_CELL g) else s
  else s

/-- ALIGNING and ALIGNED become HOLDOVER (R82). -/
def State.alignHoldover (s : State) : State :=
  let st := s.fget F.AIN_ALIGN_STATUS_STATE
  if s.domLive .acq && (st == 3 || st == 4) then s.setAlign 5 else s

/-- What controller `b` runs ends with an outcome that it can have: a transaction reads its RLEN bytes into the buffer or ends
early, a recovery ends with SDA high or stuck (R91–R93). What a read phase that ends early has read does not reach the buffer: R92 does
not say (DESIGN CHOICE, log entry 119). -/
def State.idbDone (s : State) (b : Nat) (outcome : IdbOutcome) : State :=
  let x := s.idb.getD b IdBus.idle
  if x.run = 1 then
    match outcome with
    | .done bytes => if bytes.length = x.rlen then (s.idbStore b bytes).idbEnd b none else s
    | .nackAddr => s.idbEnd b (some F.IDB_STATUS_NACK_ADDR)
    | .nackData i =>
      if i < x.wlen then (s.fset F.IDB_STATUS_INDEX b i).idbEnd b (some F.IDB_STATUS_NACK_DATA) else s
    | .arbLost => s.idbEnd b (some F.IDB_STATUS_ARB_LOST)
    | .stuck => s
  else if x.run = 2 then
    match outcome with
    | .done _ => s.idbEnd b none
    | .stuck => s.idbEnd b (some F.IDB_STATUS_STUCK)
    | _ => s
  else s

/-- A target has held SCL low for longer than STRETCH_MS, which is a limit unless it is 0 (R92). -/
def State.idbStretch (s : State) (b : Nat) : State :=
  if (s.idb.getD b IdBus.idle).run = 0 ∨ s.fget F.IDB_CFG_STRETCH_MS b = 0 then s
  else s.idbEnd b (some F.IDB_STATUS_TIMEOUT)

/-- RUN: a write to AIN_CTRL, which starts or stops the epoch timer (R76, R77). -/
def execAinRun (q : Requester) (value : Word) (s : State) : Host.Outcome State Fault Refusal :=
  .next (s.writeReg q .AIN_CTRL 0 value)

/-- GROUP_POWER_WRITE: a write to AIN_GRP_PWR (R69). -/
def execGroupPowerWrite (q : Requester) (value : Word) (s : State) : Host.Outcome State Fault Refusal :=
  .next (s.writeReg q .AIN_GRP_PWR 0 value)

/-- GROUP_READY: 2 µs after its EN bit was set, group `g` is ready (R69). -/
def execGroupReady (g : Fin 12) (s : State) : Host.Outcome State Fault Refusal :=
  .next (s.clocked 0x20 (fun s => s.groupReady g.val))

/-- ALIGN_HOLDOVER: no system-time update has come for HOLD_MS ms (R82). -/
def execAlignHoldover (s : State) : Host.Outcome State Fault Refusal :=
  .next (s.clocked 0x20 (fun s => s.alignHoldover))

/-- MPRES_CHANGE: the level of MPRESg changes (R84). -/
def execMpresChange (g : Fin 12) (level : Bool) (s : State) : Host.Outcome State Fault Refusal :=
  .next (s.mpres g.val level)

/-- PRESENCE_ACCEPT: the new presence level has held (R84, R85). -/
def execPresenceAccept (g : Fin 12) (s : State) : Host.Outcome State Fault Refusal :=
  .next (s.clocked 0x20 (fun s => s.presence g.val))

/-- AIN_IDCOMMIT: a write names the position whose record is checked (R87). -/
def execAinIdcommit (q : Requester) (value : Word) (s : State) : Host.Outcome State Fault Refusal :=
  .next (s.writeReg q .AIN_IDCOMMIT 0 value)

/-- COMMIT_CHECK_DONE: the check of the record of position `g` ends (R87). -/
def execCommitCheckDone (g : Fin 12) (s : State) : Host.Outcome State Fault Refusal :=
  .next (s.clocked 0x20 (fun s => s.commitDone g.val))

/-- IDB_START: a write of 1 to IDB_CMD.START of controller `b` (R91). -/
def execIdbStart (q : Requester) (b : Fin 2) (value : Word) (s : State) : Host.Outcome State Fault Refusal :=
  .next (s.writeReg q .IDB_CMD b.val ((value ||| maskOf 31 1) &&& ~~~maskOf 30 1))

/-- IDB_RECOVER: a write of 1 to IDB_CMD.RECOVER of controller `b` (R93). -/
def execIdbRecover (q : Requester) (b : Fin 2) (value : Word) (s : State) : Host.Outcome State Fault Refusal :=
  .next (s.writeReg q .IDB_CMD b.val ((value ||| maskOf 30 1) &&& ~~~maskOf 31 1))

/-- IDB_DONE: the transaction or the recovery of controller `b` ends with an outcome (R92, R93). -/
def execIdbDone (b : Fin 2) (outcome : IdbOutcome) (s : State) : Host.Outcome State Fault Refusal :=
  .next (s.clocked 0x63 (fun s => s.idbDone b.val outcome))

/-- IDB_STRETCH_TIMEOUT: a target has held SCL low for too long (R92). -/
def execIdbStretchTimeout (b : Fin 2) (s : State) : Host.Outcome State Fault Refusal :=
  .next (s.clocked 0x63 (fun s => s.idbStretch b.val))

/-- ROTATION_DECISION: the rotation for the coming candidate edge is decided (R108). -/
def execRotationDecision (s : State) : Host.Outcome State Fault Refusal :=
  .next (s.clocked 0x21 (fun s => s.rotationDecision))

/-- CAL_RUN_DONE: a calibration run of slice `p` ends with its fit (R106, R107). -/
def execCalRunDone (p : Fin 9) (fit : CalFit) (s : State) : Host.Outcome State Fault Refusal :=
  .next (s.clocked 0x21 (fun s => s.calRunDone p.val fit))

/-- INIT_CAL: a write of 1 to ADC_CTRL.INIT_CAL (R112). -/
def execInitCal (q : Requester) (value : Word) (s : State) : Host.Outcome State Fault Refusal :=
  .next (s.writeReg q .ADC_CTRL 0 (value ||| maskOf 3 1))

/-- INIT_CAL_DONE: initial calibration ends (R112). -/
def execInitCalDone (s : State) : Host.Outcome State Fault Refusal :=
  .next (s.clocked 0x21 (fun s => s.initDone))

/-- ROT_NOW: a write of 1 to ADC_CTRL.ROT_NOW (R109). -/
def execRotNow (q : Requester) (value : Word) (s : State) : Host.Outcome State Fault Refusal :=
  .next (s.writeReg q .ADC_CTRL 0 (value ||| maskOf 1 1))

/-- ADCCAL_SWAP: a write of 1 to ADCCAL_CTRLp.SWAP (R105). -/
def execAdccalSwap (q : Requester) (p : Fin 9) (value : Word) (s : State) : Host.Outcome State Fault Refusal :=
  .next (s.writeReg q .ADCCAL_CTRL p.val (value ||| maskOf 0 1))

/-- ADCCAL_TABLE_WRITE: a write to word `w` of half `h` of the table of slice `p`: 0 OFFSET, 1 GAIN, 2–17 LIN (R104). -/
def execAdccalTableWrite (q : Requester) (p : Fin 9) (h : Fin 2) (w : Fin 18) (value : Word)
    (s : State) : Host.Outcome State Fault Refusal :=
  .next (if w.val = 0 then s.writeReg q .ADCCAL_OFFSET (2 * p.val + h.val) value
    else if w.val = 1 then s.writeReg q .ADCCAL_GAIN (2 * p.val + h.val) value
    else s.writeReg q .ADCCAL_LIN (16 * (2 * p.val + h.val) + (w.val - 2)) value)

/-- RESULT_START: a write of 1 to RESULT_START.START (R116). -/
def execResultStart (q : Requester) (value : Word) (s : State) : Host.Outcome State Fault Refusal :=
  .next (s.writeReg q .RESULT_START 0 (value ||| maskOf 0 1))

/-- RESULT_READ: a read of RESULTi (R118). -/
def execResultRead (q : Requester) (i : Fin 32) (s : State) : Host.Outcome State Fault Refusal :=
  .next (s.readReg q .RESULT i.val)

end Sys2Proof.Machine
end

