-- ==== Sys2Proof/Machine/Kiltur.lean ====
section
/-!
DEFINITION. The Kiltur cores: fetch, what an instruction may end in, how it completes with its distances and the loop
mechanism, exceptions and interrupts, and the accesses of a core to its address map (R24, R30, R243–R269).
-/

namespace Sys2Proof.Machine

/-! ### Fields of an instruction word -/

/-- Major opcode. -/
def kMajor (w : Word) : Nat := bits w 26 6
/-- fn of forms A and S. -/
def kFn (w : Word) : Nat := bits w 5 6
/-- Register field [25:21]. -/
def kRd (w : Word) : Nat := bits w 21 5
/-- Register field [20:16]. -/
def kRa (w : Word) : Nat := bits w 16 5
/-- Register field [15:11]. -/
def kRb (w : Word) : Nat := bits w 11 5
/-- Immediate of form I, zero-extended. -/
def kZimm (w : Word) : Word := (w.extractLsb' 0 16).zeroExtend 32
/-- Immediate of form I, sign-extended. -/
def kSimm (w : Word) : Word := (w.extractLsb' 0 16).signExtend 32

/-- The fn values that the entry tables list for a major opcode of form A or S (R268). -/
def kFns (major : Nat) : List Nat :=
  match major with
  | 0x01 => [0, 1, 2, 3, 4, 5, 6, 7, 8, 9, 0xA, 0xC, 0xD, 0xE, 0xF, 0x10, 0x11]
  | 0x02 => [0, 1, 2]
  | 0x03 => [0, 1, 2, 8, 9, 0xA, 0xB]
  | 0x3C => [0, 1, 8, 9, 0x10, 0x11]
  | _ => []

/-- The major opcodes of table "Major opcode map". -/
def kMajors : List Nat :=
  [0x01, 0x02, 0x03, 0x07, 0x08, 0x09, 0x0A, 0x0B, 0x0C, 0x0D, 0x0E, 0x0F, 0x10, 0x11, 0x12, 0x13, 0x14, 0x18, 0x19, 0x1A,
    0x20, 0x21, 0x22, 0x23, 0x24, 0x25, 0x28, 0x29, 0x2A, 0x30, 0x31, 0x34, 0x3C]

/-- The word has an undefined major opcode or fn (DETAIL 0). -/
def kUndefined (w : Word) : Bool :=
  !kMajors.contains (kMajor w) || (!(kFns (kMajor w)).isEmpty && !(kFns (kMajor w)).contains (kFn w))

/-- The word is a branch or jump, a loop, an rpt, an exception return, a trap, a breakpoint or a wait (R257, R269). -/
def kControl (w : Word) : Bool :=
  (0x20 ≤ kMajor w && kMajor w ≤ 0x25) || [0x28, 0x29, 0x2A, 0x30, 0x31].contains (kMajor w) ||
    (kMajor w == 0x3C && [8, 9, 0x10, 0x11].contains (kFn w))

/-! ### The state of a core -/

/-- General register `n`; g0 reads zero. -/
def Core.gr (c : Core) (n : Nat) : Word := if n = 0 then 0#32 else c.g.getD n 0#32

/-- Accumulator `a`. -/
def Core.accum (c : Core) (a : Nat) : BitVec 72 := c.acc.getD a 0#72

/-- The core is in supervisor level. -/
def Core.sup (c : Core) : Bool := c.psw.getLsbD 0

/-- An active loop ends at address `a`. -/
def Core.atEnd (c : Core) (a : Word) : Bool :=
  (List.range 3).any (fun n => c.loopA.getD n false && c.loopE.getD n 0#32 == a)

/-- Address `a` of core `x` lies in its instruction memory (R243). -/
def inImem (x : Nat) (a : Word) : Bool := decide (a.toNat < if x = 0 then 0x8000 else 0x20000)

/-- The inputs of core `x` that are high and enabled in the copy that governs its decisions (R264, R265). -/
def State.irqTaken (s : State) (x : Nat) : Option Nat :=
  let c := s.core x
  let lo := s.irqWord x 0 &&& c.irqEn.getD 0 0#32
  let hi := s.irqWord x 32 &&& c.irqEn.getD 1 0#32
  (List.range 64).find? (fun i => if i < 32 then lo.getLsbD i else hi.getLsbD (i - 32))

/-- The core can go on: its domain and page are live and enabled, it is released, and no wait holds it. -/
def State.coreLive (s : State) (x : Nat) : Bool :=
  s.pageEn (corePage x) && !s.boot.copying.contains x && !(x == 0 && s.power.sStopped) && !s.coreWaits x

/-- The core runs: it can go on, and RUN is 1. -/
def State.coreRuns (s : State) (x : Nat) : Bool := s.coreLive x && s.flag F.CORE_CTRL_RUN (coreReg x)

/-- An interrupt is taken before the next instruction issues (R264): not while a data access holds that issue (R251). -/
def State.irqDue (s : State) (x : Nat) : Option Nat :=
  let c := s.core x
  let first := match c.rpt with
    | some (_, ran) => !ran
    | none => false
  if !c.psw.getLsbD 1 || c.slot.isSome || first || c.stall.isSome then none else s.irqTaken x

/-- The core issues an instruction now. -/
def State.coreIssues (s : State) (x : Nat) : Bool := s.coreRuns x && (s.irqDue x).isNone

/-- The core goes on now: it issues an instruction, or the one in progress makes its data access, which a RUN of 0 does not stop
(R251, R265). -/
def State.coreSteps (s : State) (x : Nat) : Bool := s.coreIssues x || (s.coreLive x && (s.core x).stall.isSome)

/-! ### Exceptions -/

/-- Entry to an exception (R262): CODE, DETAIL and INPUT. -/
def Core.enter (c : Core) (code detail input : Nat) : Core :=
  let c := c.landAll
  let rpt := match c.rpt with
    | some (k, _) => 2 ^ 6 + 2 ^ 8 * k
    | none => 0
  let bd := if c.slot.isSome then 2 ^ 5 else 0
  let est := bits c.psw 0 1 + 2 * bits c.psw 1 1 + 4 * bits c.psw 4 3 + bd + rpt
  { c with
    epc := match c.slot with
      | some (b, _) => b
      | none => c.next
    estate := BitVec.ofNat 32 est
    ecause := BitVec.ofNat 32 (code + 2 ^ 8 * detail + 2 ^ 16 * input)
    psw := withBits (withBits c.psw 0 2 1) 4 3 0
    loopA := [false, false, false]
    next := c.vbase + BitVec.ofNat 32 (0x40 * code)
    slot := none
    rpt := none
    waiting := false
    stall := none }

/-- Core `x` takes an exception. -/
def State.kRaise (s : State) (x code detail input : Nat) : State := s.setCore x ((s.core x).enter code detail input)

/-- Return from an exception (R263): every pending write has landed, and the return can be resumed. -/
def Core.leave (c : Core) : Core :=
  let la := bits c.estate 2 3
  let psw := withBits (withBits c.psw 0 2 (bits c.estate 0 2)) 4 3 la
  { c with
    psw := psw
    loopA := [la.testBit 0, la.testBit 1, la.testBit 2]
    next := c.epc
    slot := none
    waiting := false
    rpt := if bits c.estate 6 1 = 1 then some (bits c.estate 8 13, true) else none }

/-- ESTATE and EPC of core `x` cannot be resumed (R263). -/
def Core.unresumable (c : Core) (x : Nat) : Bool :=
  let rv := bits c.estate 6 1 == 1
  let left := bits c.estate 8 13
  (rv && bits c.estate 5 1 == 1) || (rv && (left == 0 || decide (4096 < left))) || !inImem x c.epc

/-! ### Completion -/

/-- Where control goes after an instruction. -/
inductive Flow where
  | seq
  | branch (target : Option Word)
  | skip (next : Word)
  | rpt (count : Nat)
  | wait
deriving DecidableEq, Repr

/-- A write of an instruction with its distance. -/
abbrev KWrite := CoreDest × Word × Nat

/-- The loop-end tests of R254 at address `a`, from loop `n - 1` down: the core, the writes that rdcr sees later, and the next
address. -/
def Core.loopTest (c : Core) (a : Word) : Nat → List KWrite → Core × List KWrite × Word
  | 0, ws => (c, ws, a + 4#32)
  | n + 1, ws =>
    if !(c.loopA.getD n false && c.loopE.getD n 0#32 == a) then c.loopTest a n ws
    else
      let k := c.loopC.getD n 0
      if 1 < k then
        ({ c with loopC := c.loopC.set n (k - 1) }, ws ++ [(CoreDest.lc n, BitVec.ofNat 32 (k - 1), 4)], c.loopS.getD n 0#32)
      else
        { c with loopC := c.loopC.set n 0, loopA := c.loopA.set n false }.loopTest a n
          (ws ++ [(CoreDest.lc n, 0#32, 4), (CoreDest.la n, 0#32, 4)])

/-- The next address after sequential flow or at the end of a repetition or a delay slot. -/
def Core.advance (c : Core) (flow : Flow) : Core × List KWrite :=
  let a := c.next
  match c.rpt, c.slot, flow with
  | some (k, _), _, _ =>
    if 1 < k then ({ c with rpt := some (k - 1, true) }, [])
    else
      let (c, ws, n) := { c with rpt := none }.loopTest a 3 []
      ({ c with next := n }, ws)
  | none, some (_, some t), _ => ({ c with slot := none, next := t }, [])
  | none, _, .branch t => ({ c with slot := some (a, t), next := a + 4#32 }, [])
  | none, _, .skip n => ({ c with slot := none, next := n }, [])
  | none, _, .rpt k =>
    if k = 0 then ({ c with slot := none, next := a + 8#32 }, [])
    else ({ c with slot := none, rpt := some (k, false), next := a + 4#32 }, [])
  | none, _, fl =>
    let (c, ws, n) := { c with slot := none }.loopTest a 3 []
    ({ c with next := n, waiting := fl == .wait }, ws)

/-- An instruction completes with its writes: those of older instructions come one nearer, the flow is decided with the loop
registers as they stood, and what is due lands (R248–R254). -/
def Core.finish (c : Core) (ws : List KWrite) (acc : Option (Nat × BitVec 72)) (flow : Flow) : Core :=
  let older := c.writes.map (fun (x : CoreWrite) => { x with left := x.left - 1 })
  let (c, lw) := { c with waiting := false, stall := none }.advance flow
  let fresh := (ws ++ lw).map (fun (x : KWrite) => (⟨x.1, x.2.1, x.2.2 - 1⟩ : CoreWrite))
  let c := { c with writes := older ++ fresh }.landDue
  match acc with
  | some (a, v) => { c with acc := c.acc.set a v }
  | none => c

/-! ### Private memory -/

/-- The ECC of the private memory of core `x` on its own fetch or load (R244): whether a word is uncorrectable. -/
def State.coreEcc (s : State) (x a n : Nat) : State × Bool :=
  let r := s.privRead x (privBase x + a) n
  if !r.2 || r.1.fget F.CORE_ECC_UE (coreReg x) = 65535 then r
  else ((r.1.faddSat F.CORE_ECC_UE (coreReg x) 1).irq (corePage x) 2, r.2)

/-- The instruction word at address `a` of core `x`. -/
def State.imemWord (s : State) (x : Nat) (a : Word) : Word := BitVec.ofNat 32 (s.memVal (privBase x + a.toNat) 4)

/-- A fetch of core `x`: the machine, and the word, or the exception code of a failing fetch. An instruction whose data access is in
progress has been fetched (R251). -/
def State.fetch (s : State) (x : Nat) : State × Except Nat Word :=
  match (s.core x).stall with
  | some w => (s, .ok w)
  | none =>
    let a := (s.core x).next
    if !inImem x a then (s, .error 5)
    else
      let r := s.coreEcc x a.toNat 4
      (r.1, if r.2 then .error 10 else .ok (r.1.imemWord x a))

/-! ### Data accesses -/

/-- Where a core address leads (table "Core address map"). -/
inductive CoreTarget where
  | priv (a : Nat)
  | page (a log : Nat)
  | fabric (a : Nat)
  | none (cause : Nat)
deriving DecidableEq, Repr

/-- The target of core address `a` for core `x` (R24, R30). -/
def State.coreTarget (s : State) (x a : Nat) : CoreTarget :=
  if a < 0x40000 then (if privMapped x a then .priv a else .none 1)
  else if 0x10000000 ≤ a ∧ a < 0x10080000 then .fabric (sramBase 0 + (a - 0x10000000))
  else if 0x20000000 ≤ a ∧ a < 0x20400000 then .fabric (sramBase 1 + (a - 0x20000000))
  else if 0x30000000 ≤ a ∧ a < 0x31000000 then .fabric (sramBase 2 + (a - 0x30000000))
  else if 0x40000000 ≤ a ∧ a < 0x40100000 then .page (a - 0x40000000) a
  else if 0x80000000 ≤ a then
    let w := (s.core x).win.getD ((a - 0x80000000) / 0x10000000) 0#32
    if bits w 31 1 = 0 then .none 4
    else
      let f := bits w 0 20 * 0x10000000 + a % 0x10000000
      match fabTarget f with
      | .page o => .page o f
      | _ => .fabric f
  else .none 1

/-- A fabric access of core `x` counts as secure: its level, or its own private memory (R243). -/
def State.coreSecure (s : State) (x a : Nat) : Bool :=
  (s.who (.core (Fin.ofNat 5 x))).secure || (match fabTarget a with
    | .priv i _ => i == x
    | _ => false)

/-- The fabric would hold an access of core `x` to page `p`. -/
def State.coreHeld (s : State) (x p : Nat) : Bool :=
  s.pageHeld p || s.held.any (fun h => h.q == .core (Fin.ofNat 5 x) && h.addr / 0x1000 == p)

/-- What a data access of a core comes to: data, an exception code, or the fabric holds it. -/
inductive KData where
  | ok (v : Nat)
  | raise (code : Nat)
  | hold
deriving DecidableEq, Repr

/-- What a core makes of the answer to a load from a page: data, or a bus error. -/
def KData.ofAnswer : BusAnswer → KData
  | .ok v => .ok v
  | _ => .raise 4

/-- What a core makes of the answer to a load from the fabric. -/
def KData.ofFabric : Except Nat (List Byte) → KData
  | .ok bs => .ok (ofLeBytes bs)
  | .error _ => .raise 4

/-- A load of `n` bytes by core `x` at core address `a`, which leads to `tgt`. -/
def State.loadFrom (s : State) (x a n : Nat) (tgt : CoreTarget) : State × KData :=
  let w := s.who (.core (Fin.ofNat 5 x))
  match tgt with
  | .priv o =>
    let r := s.coreEcc x o n
    (r.1, if r.2 then .raise 10 else .ok (r.1.memVal (privBase x + o) n))
  | .page o log =>
    if s.coreHeld x (o / 0x1000) then (s, .hold)
    else
      let r := s.performRead w n o log
      (r.1, KData.ofAnswer r.2)
  | .fabric f =>
    let g := s.memAsk x 2 f n (s.coreSecure x f)
    if !g.2 then (g.1, .hold)
    else
      let r := g.1.fabRead f n w.src 0 (s.coreSecure x f)
      (r.1, KData.ofFabric r.2)
  | .none c => (s.logBusErr a false w.src c, .raise 4)

/-- A load of `n` bytes by core `x` at core address `a`. -/
def State.coreLoad (s : State) (x a n : Nat) : State × KData := s.loadFrom x a n (s.coreTarget x a)

/-- A store of the low `n` bytes of `v` by core `x` at core address `a`, which leads to `tgt`, from state `t`; `s` is the
state before the instruction, whose rights and holds count. -/
def State.storeTo (s t : State) (x a n : Nat) (v : Word) (tgt : CoreTarget) : State × KData :=
  let w := s.who (.core (Fin.ofNat 5 x))
  match tgt with
  | .priv o => ((t.sramWritten (privBase x + o) n).putVal (privBase x + o) n v.toNat, .ok 0)
  | .page o log =>
    if s.coreHeld x (o / 0x1000) then (t, .hold)
    else
      let r := t.performWrite w n o log v
      (r.1, KData.ofAnswer r.2)
  | .fabric f =>
    let g := t.memAsk x 2 f n (s.coreSecure x f)
    if !g.2 then (g.1, .hold)
    else
      let r := g.1.fabWrite f (leBytes n v.toNat) w.src (s.coreSecure x f)
      (r.1, if r.2 = 0 then .ok 0 else .raise 4)
  | .none c => (t.logBusErr a true w.src c, .raise 4)

/-- A store of the `n` low bytes of `v` by core `x` at core address `a`, made in state `t`, in which the core has completed
the instruction; `s` is the state at its issue. -/
def State.coreStore (s t : State) (x a n : Nat) (v : Word) : State × KData :=
  s.storeTo t x a n v (s.coreTarget x a)

/-! ### Instructions -/

/-- What an instruction comes to. -/
inductive KEnd where
  | raise (code detail : Nat)
  | done (ws : List KWrite) (acc : Option (Nat × BitVec 72)) (flow : Flow)
  | store (ws : List KWrite) (addr size : Nat) (value : Word)
  | exret
  | hold
deriving DecidableEq, Repr

/-- A wait of core `x` begins: what its inputs did before does not end it (R264). -/
def State.waitBegin (s : State) (x : Nat) : State :=
  { s with router := { s.router with woken := s.router.woken.filter (· != x) } }

/-- The end `e` of the instruction `w` of core `x`, which was the core `c` at its issue: what the core becomes (R250–R264). A data
access that is held holds the issue of the next instruction (R251). -/
def State.kEnd (t : State) (x : Nat) (c : Core) (w : Word) (e : KEnd) : State :=
  match e with
  | .raise code detail => t.kRaise x code detail 0
  | .done ws acc flow => (if flow == .wait then t.waitBegin x else t).setCore x (c.finish ws acc flow)
  | .store ws a n v =>
    match t.coreStore (t.setCore x (c.finish ws none .seq)) x a n v with
    | (u, .ok _) => u
    | (u, .raise code) => (u.setCore x c).kRaise x code 0 0
    | (u, .hold) => u.setCore x { c with stall := some w }
  | .exret => t.setCore x c.landAll.leave
  | .hold => t.setCore x { c with stall := some w }

/-- Core `x`, whose RUN read `run` before the instruction, stops if it is 0 and its last access has completed (R265). -/
def State.kBoundary (s : State) (x : Nat) (run : Bool) : State :=
  if run || (s.core x).stall.isSome then s else s.coreStopped x

/-- Core `x` issues the instruction at its next address, if the word is one that `is` names: the DETAIL codes that apply to it
come first, then what `f` makes of it (R261, R268). -/
def State.kIssue (s : State) (x : Nat) (is : Word → Bool) (details : Core → Word → List Nat)
    (f : State → Core → Word → State × KEnd) : State :=
  if !s.coreSteps x then s
  else
    match s.fetch x with
    | (_, .error _) => s
    | (t, .ok w) =>
      let c := t.core x
      if !is w then s
      else
        match details c w with
        | d :: ds => t.kRaise x 1 ((d :: ds).getD (Config.detailPick (d :: ds) % (ds.length + 1)) d) 0
        | [] =>
          let r := f t c w
          (r.1.kEnd x c w r.2).kBoundary x (s.flag F.CORE_CTRL_RUN (coreReg x))

/-- DETAIL `d` when `b` holds. -/
def detailIf (b : Bool) (d : Nat) : List Nat := if b then [d] else []

/-- An instruction of form A with fn whose destination is a g register. -/
def State.kAform (s : State) (x major fn dist : Nat) (f : Word → Word → Word) : State :=
  s.kIssue x (fun w => kMajor w == major && kFn w == fn) (fun _ w => detailIf (bits w 0 5 != 0) 1)
    (fun s c w => (s, .done [(.g (kRd w), f (c.gr (kRa w)) (c.gr (kRb w)), dist)] none .seq))

/-- An instruction of the immediate group: `f` of ra and the word. -/
def State.kImm (s : State) (x major : Nat) (bad : Word → Bool) (f : Word → Word → Word) : State :=
  s.kIssue x (fun w => kMajor w == major) (fun _ w => detailIf (bad w) 1)
    (fun s c w => (s, .done [(.g (kRd w), f (c.gr (kRa w)) w, 1)] none .seq))

/-- A shift by an immediate of type `typ`. -/
def State.kShift (s : State) (x typ : Nat) (f : Word → Nat → Word) : State :=
  s.kIssue x (fun w => kMajor w == 0x0F && bits w 5 2 == typ) (fun _ w => detailIf (bits w 7 9 != 0) 1)
    (fun s c w => (s, .done [(.g (kRd w), f (c.gr (kRa w)) (bits w 0 5), 1)] none .seq))

/-- Address and update of ra of an M-form instruction (R273). -/
def kAddr (c : Core) (w : Word) : Word × List KWrite :=
  let o := (w.extractLsb' 0 14).signExtend 32
  let b := c.gr (kRa w)
  match bits w 14 2 with
  | 0 => (b, [])
  | 1 => (b, [(.g (kRa w), b + o, 1)])
  | _ => (b + o, [(.g (kRa w), b + o, 1)])

/-- A load of `n` bytes, extended by `ext`. -/
def State.kLoad (s : State) (x major n : Nat) (ext : Nat → Word) : State :=
  s.kIssue x (fun w => kMajor w == major) (fun _ w => detailIf (bits w 14 2 == 3) 1)
    (fun s c w =>
      let (a, up) := kAddr c w
      if a.toNat % n ≠ 0 then (s, .raise 3 0)
      else
        match s.coreLoad x a.toNat n with
        | (s, .ok v) => (s, .done (up ++ [(.g (kRd w), ext v, 3)]) none .seq)
        | (s, .raise code) => (s, .raise code 0)
        | (s, .hold) => (s, .hold))

/-- A store of `n` bytes. -/
def State.kStore (s : State) (x major n : Nat) : State :=
  s.kIssue x (fun w => kMajor w == major) (fun _ w => detailIf (bits w 14 2 == 3) 1)
    (fun s c w =>
      let (a, up) := kAddr c w
      if a.toNat % n ≠ 0 then (s, .raise 3 0) else (s, .store up a.toNat n (c.gr (kRd w))))

/-- DETAIL codes of control flow in a delay slot (3) and at the end of an active loop (4). -/
def kFlowDetails (c : Core) : List Nat := detailIf c.slot.isSome 3 ++ detailIf (c.atEnd c.next) 4

/-- A compare branch. -/
def State.kBranch (s : State) (x major : Nat) (taken : Word → Word → Bool) : State :=
  s.kIssue x (fun w => kMajor w == major) (fun c _ => kFlowDetails c)
    (fun s c w =>
      let t := c.next + ((w.extractLsb' 0 16).signExtend 32 <<< 2)
      (s, .done [] none (.branch (if taken (c.gr (kRd w)) (c.gr (kRa w)) then some t else none))))

/-- A long branch, which writes g30 when `link` holds. -/
def State.kLong (s : State) (x major : Nat) (link : Bool) : State :=
  s.kIssue x (fun w => kMajor w == major) (fun c _ => kFlowDetails c)
    (fun s c w =>
      let t := c.next + ((w.extractLsb' 0 26).signExtend 32 <<< 2)
      (s, .done (if link then [(.g 30, c.next + 8#32, 1)] else []) none (.branch (some t))))

/-- An instruction of the accumulator group on accumulator [25:21], with the fields that must be zero. -/
def State.kAcc (s : State) (x fn : Nat) (bad : Word → Bool) (f : Core → Word → BitVec 72 → BitVec 72) : State :=
  s.kIssue x (fun w => kMajor w == 3 && kFn w == fn)
    (fun _ w => detailIf (bits w 0 5 != 0 || decide (1 < kRd w) || bad w) 1)
    (fun s c w => (s, .done [] (some (kRd w, f c w (c.accum (kRd w)))) .seq))

/-- A signed product of 32-bit words in 72 bits. -/
def prod72 (a b : Word) : BitVec 72 := a.signExtend 72 * b.signExtend 72

/-- A move from accumulator [15] into rd. -/
def State.kFromAcc (s : State) (x fn : Nat) (bad : Word → Bool) (f : Word → BitVec 72 → Word) : State :=
  s.kIssue x (fun w => kMajor w == 3 && kFn w == fn) (fun _ w => detailIf (bits w 0 5 != 0 || bad w) 1)
    (fun s c w => (s, .done [(.g (kRd w), f w (c.accum (bits w 15 1)), 3)] none .seq))

/-- The bank of core address `a` on core `x`: 1 X, 2 Y, 0 neither (R260, R279). -/
def bankOfCore (x a : Nat) : Nat :=
  let size := if x = 0 then 0x4000 else 0x10000
  if 0x20000 ≤ a ∧ a < 0x20000 + size then 1 else if 0x30000 ≤ a ∧ a < 0x30000 + size then 2 else 0

/-- An operand of a dual fetch meets its check bits: nothing is read outside the banks or misaligned. -/
def State.dualEcc (s : State) (x a : Nat) (read : Bool) : State × Bool :=
  if read && bankOfCore x a != 0 && a % 4 == 0 then s.coreEcc x a 4 else (s, false)

/-- A dual-fetch MAC of operation `op` (R279). An operand outside banks X and Y raises Bus Error and logs nothing in SYS: R24 does
not say whether it is logged (DESIGN CHOICE, log entry 76). -/
def State.kDual (s : State) (x op : Nat) (f : BitVec 72 → BitVec 72 → BitVec 72) : State :=
  s.kIssue x (fun w => kMajor w == 0x34 && bits w 13 2 == op) (fun _ w => detailIf (bits w 0 11 != 0) 1)
    (fun s c w =>
      let rx := bits w 20 5
      let ry := bits w 15 5
      let ax := (c.gr rx).toNat
      let ay := (c.gr ry).toNat
      let same := bankOfCore x ax != 0 && bankOfCore x ax == bankOfCore x ay
      let (s, badX) := s.dualEcc x ax true
      let (s, badY) := s.dualEcc x ay (!same)
      if badX || badY then (s, .raise 10 0)
      else if ax % 4 ≠ 0 ∨ ay % 4 ≠ 0 then (s, .raise 3 0)
      else if same && c.psw.getLsbD 2 then (s, .raise 6 0)
      else if bankOfCore x ax = 0 ∨ bankOfCore x ay = 0 then (s, .raise 4 0)
      else
        let vx := BitVec.ofNat 32 (s.memVal (privBase x + ax) 4)
        let vy := if same then vx else BitVec.ofNat 32 (s.memVal (privBase x + ay) 4)
        let a := bits w 25 1
        let ws := (if bits w 12 1 = 1 then [(CoreDest.g rx, c.gr rx + 4#32, 1)] else []) ++
          (if bits w 11 1 = 1 then [(CoreDest.g ry, c.gr ry + 4#32, 1)] else []) ++
          (if same then [(CoreDest.dfc, 1#32, 4)] else [])
        (s, .done ws (some (a, f (c.accum a) (prod72 vx vy))) .seq))

/-- A system instruction, with the fields that must be zero and further DETAIL codes. -/
def State.kSys (s : State) (x fn : Nat) (bad : Word → Bool) (details : Core → Word → List Nat)
    (f : Core → Word → KEnd) : State :=
  s.kIssue x (fun w => kMajor w == 0x3C && kFn w == fn)
    (fun c w => detailIf (bits w 0 5 != 0 || bad w) 1 ++ details c w) (fun s c w => (s, f c w))

/-- The numbers of the control registers (R245). -/
def crNumbers : List Nat := [0, 1, 2, 3, 4, 8, 9, 10, 12, 13, 14, 16, 17, 18]

/-- A control register as rdcr sees it. -/
def Core.cr (c : Core) (n : Nat) : Word :=
  match n with
  | 0 => c.psw
  | 1 => c.vbase
  | 2 => c.epc
  | 3 => c.ecause
  | 4 => c.estate
  | 8 => c.ls.getD 0 0#32
  | 9 => c.ls.getD 1 0#32
  | 10 => c.ls.getD 2 0#32
  | 12 => c.le.getD 0 0#32
  | 13 => c.le.getD 1 0#32
  | 14 => c.le.getD 2 0#32
  | 16 => c.lc.getD 0 0#32
  | 17 => c.lc.getD 1 0#32
  | 18 => c.lc.getD 2 0#32
  | _ => 0#32

/-- The bits of a control register that are not reserved (R246). -/
def crMask (n : Nat) : Word :=
  if n = 0 then 0x7F#32
  else if n = 1 then 0xFFFFF000#32
  else if n = 3 then 0x003F0F0F#32
  else if n = 4 then 0x001FFF7F#32
  else if 16 ≤ n then 0xFFFF#32
  else 0xFFFFFFFC#32

/-! ### The events of a core -/

/-- The core takes an interrupt (R264). -/
def State.kInterrupt (s : State) (x : Nat) : State :=
  if !s.coreRuns x then s
  else
    match s.irqDue x with
    | some i => s.kRaise x 9 0 i
    | none => s

/-- The core issues a word that no entry table lists, or one whose form has a reserved operation (R268). -/
def State.kIllegal (s : State) (x : Nat) : State :=
  let reserved (w : Word) : Bool :=
    (kMajor w == 0x34 && bits w 13 2 == 3) || (kMajor w == 0x0F && bits w 5 2 == 3)
  s.kIssue x (fun w => kUndefined w || reserved w) (fun _ w => [if kUndefined w then 0 else 1])
    (fun s _ _ => (s, .hold))

/-- A fetch of the core fails: Fetch Error or Memory Error (R243, R244). -/
def State.kFetchError (s : State) (x : Nat) : State :=
  if !s.coreIssues x then s
  else
    match s.fetch x with
    | (t, .error code) => t.kRaise x code 0 0
    | (_, .ok _) => s

/-- The word after the rpt of core `x`, without an effect: a control-flow instruction may not be repeated (R257). -/
def State.rptForbidden (s : State) (x : Nat) : Bool :=
  let a := (s.core x).next + 4#32
  inImem x a && kControl (s.imemWord x a)

end Sys2Proof.Machine
end

