-- ==== Sys2Proof/Machine/ExecKiltur.lean ====
section
/-!
DEFINITION. The Kiltur instructions, one meaning for each entry of the instruction reference (R270–R281), with the
interrupts, the failing fetches and the illegal words of a core. A meaning acts when core `x` issues that instruction now.
-/

namespace Sys2Proof.Machine

/-! ### ALU register group (R270) -/

/-- A signed value saturated to 32 bits. -/
def sat32 (v : Int) : Word := BitVec.ofInt 32 (saturate 32 v)

/-- A Boolean as a word. -/
def flagWord (b : Bool) : Word := if b then 1#32 else 0#32

/-- add: rd = ra + rb (R270). -/
def execKAdd (x : Fin 5) (s : State) : Host.Outcome State Fault Refusal :=
  .next (s.kAform x 1 0 1 (fun a b => a + b))

/-- sub: rd = ra − rb (R270). -/
def execKSub (x : Fin 5) (s : State) : Host.Outcome State Fault Refusal :=
  .next (s.kAform x 1 1 1 (fun a b => a - b))

/-- and: rd = ra and rb (R270). -/
def execKAnd (x : Fin 5) (s : State) : Host.Outcome State Fault Refusal :=
  .next (s.kAform x 1 2 1 (fun a b => a &&& b))

/-- or: rd = ra or rb (R270). -/
def execKOr (x : Fin 5) (s : State) : Host.Outcome State Fault Refusal :=
  .next (s.kAform x 1 3 1 (fun a b => a ||| b))

/-- xor: rd = ra xor rb (R270). -/
def execKXor (x : Fin 5) (s : State) : Host.Outcome State Fault Refusal :=
  .next (s.kAform x 1 4 1 (fun a b => a ^^^ b))

/-- andn: rd = ra and not rb (R270). -/
def execKAndn (x : Fin 5) (s : State) : Host.Outcome State Fault Refusal :=
  .next (s.kAform x 1 5 1 (fun a b => a &&& ~~~b))

/-- clt: rd = 1 if ra < rb signed (R270). -/
def execKClt (x : Fin 5) (s : State) : Host.Outcome State Fault Refusal :=
  .next (s.kAform x 1 6 1 (fun a b => flagWord (a.slt b)))

/-- cltu: rd = 1 if ra < rb unsigned (R270). -/
def execKCltu (x : Fin 5) (s : State) : Host.Outcome State Fault Refusal :=
  .next (s.kAform x 1 7 1 (fun a b => flagWord (a.ult b)))

/-- shl: rd = ra << rb[4:0] (R270). -/
def execKShl (x : Fin 5) (s : State) : Host.Outcome State Fault Refusal :=
  .next (s.kAform x 1 8 1 (fun a b => a <<< (b.toNat % 32)))

/-- shr: rd = ra >> rb[4:0], logical (R270). -/
def execKShr (x : Fin 5) (s : State) : Host.Outcome State Fault Refusal :=
  .next (s.kAform x 1 9 1 (fun a b => a >>> (b.toNat % 32)))

/-- asr: rd = ra >> rb[4:0], arithmetic (R270). -/
def execKAsr (x : Fin 5) (s : State) : Host.Outcome State Fault Refusal :=
  .next (s.kAform x 1 10 1 (fun a b => a.sshiftRight (b.toNat % 32)))

/-- min, signed (R270). -/
def execKMin (x : Fin 5) (s : State) : Host.Outcome State Fault Refusal :=
  .next (s.kAform x 1 12 1 (fun a b => if a.slt b then a else b))

/-- max, signed (R270). -/
def execKMax (x : Fin 5) (s : State) : Host.Outcome State Fault Refusal :=
  .next (s.kAform x 1 13 1 (fun a b => if a.slt b then b else a))

/-- minu, unsigned (R270). -/
def execKMinu (x : Fin 5) (s : State) : Host.Outcome State Fault Refusal :=
  .next (s.kAform x 1 14 1 (fun a b => if a.ult b then a else b))

/-- maxu, unsigned (R270). -/
def execKMaxu (x : Fin 5) (s : State) : Host.Outcome State Fault Refusal :=
  .next (s.kAform x 1 15 1 (fun a b => if a.ult b then b else a))

/-- adds: signed sum, saturated (R270). -/
def execKAdds (x : Fin 5) (s : State) : Host.Outcome State Fault Refusal :=
  .next (s.kAform x 1 16 1 (fun a b => sat32 (a.toInt + b.toInt)))

/-- subs: signed difference, saturated (R270). -/
def execKSubs (x : Fin 5) (s : State) : Host.Outcome State Fault Refusal :=
  .next (s.kAform x 1 17 1 (fun a b => sat32 (a.toInt - b.toInt)))

/-! ### Multiply group (R271) -/

/-- mul: low half of the product (R271). -/
def execKMul (x : Fin 5) (s : State) : Host.Outcome State Fault Refusal :=
  .next (s.kAform x 2 0 2 (fun a b => a * b))

/-- mulx: high half of the signed product (R271). -/
def execKMulx (x : Fin 5) (s : State) : Host.Outcome State Fault Refusal :=
  .next (s.kAform x 2 1 2 (fun a b => ((a.signExtend 64 * b.signExtend 64).extractLsb' 32 32)))

/-- mulxu: high half of the unsigned product (R271). -/
def execKMulxu (x : Fin 5) (s : State) : Host.Outcome State Fault Refusal :=
  .next (s.kAform x 2 2 2 (fun a b => ((a.zeroExtend 64 * b.zeroExtend 64).extractLsb' 32 32)))

/-! ### Immediate group (R272) -/

/-- movl: rd = (ra and 0xFFFF_0000) or zext(imm) (R272). -/
def execKMovl (x : Fin 5) (s : State) : Host.Outcome State Fault Refusal :=
  .next (s.kImm x 7 (fun _ => false) (fun a w => (a &&& 0xFFFF0000#32) ||| kZimm w))

/-- addk: rd = ra + sext(imm) (R272). -/
def execKAddk (x : Fin 5) (s : State) : Host.Outcome State Fault Refusal :=
  .next (s.kImm x 8 (fun _ => false) (fun a w => a + kSimm w))

/-- andk: rd = ra and zext(imm) (R272). -/
def execKAndk (x : Fin 5) (s : State) : Host.Outcome State Fault Refusal :=
  .next (s.kImm x 9 (fun _ => false) (fun a w => a &&& kZimm w))

/-- ork: rd = ra or zext(imm) (R272). -/
def execKOrk (x : Fin 5) (s : State) : Host.Outcome State Fault Refusal :=
  .next (s.kImm x 10 (fun _ => false) (fun a w => a ||| kZimm w))

/-- xork: rd = ra xor zext(imm) (R272). -/
def execKXork (x : Fin 5) (s : State) : Host.Outcome State Fault Refusal :=
  .next (s.kImm x 11 (fun _ => false) (fun a w => a ^^^ kZimm w))

/-- movh: rd = imm << 16; ra is a reserved field (R272). -/
def execKMovh (x : Fin 5) (s : State) : Host.Outcome State Fault Refusal :=
  .next (s.kImm x 12 (fun w => kRa w != 0) (fun _ w => kZimm w <<< 16))

/-- cltk: rd = 1 if ra < sext(imm) signed (R272). -/
def execKCltk (x : Fin 5) (s : State) : Host.Outcome State Fault Refusal :=
  .next (s.kImm x 13 (fun _ => false) (fun a w => flagWord (a.slt (kSimm w))))

/-- cltku: rd = 1 if ra < sext(imm) unsigned (R272). -/
def execKCltku (x : Fin 5) (s : State) : Host.Outcome State Fault Refusal :=
  .next (s.kImm x 14 (fun _ => false) (fun a w => flagWord (a.ult (kSimm w))))

/-- shlk: shift of ra by sh, type 0 (R272). -/
def execKShlk (x : Fin 5) (s : State) : Host.Outcome State Fault Refusal :=
  .next (s.kShift x 0 (fun a k => a <<< k))

/-- shrk: shift of ra by sh, type 1 (R272). -/
def execKShrk (x : Fin 5) (s : State) : Host.Outcome State Fault Refusal :=
  .next (s.kShift x 1 (fun a k => a >>> k))

/-- asrk: shift of ra by sh, type 2 (R272). -/
def execKAsrk (x : Fin 5) (s : State) : Host.Outcome State Fault Refusal :=
  .next (s.kShift x 2 (fun a k => a.sshiftRight k))

/-! ### Memory group (R273) -/

/-- ldbs: load of 1 byte (R273). -/
def execKLdbs (x : Fin 5) (s : State) : Host.Outcome State Fault Refusal :=
  .next (s.kLoad x 16 1 (fun v => (BitVec.ofNat 8 v).signExtend 32))

/-- ldbz: load of 1 byte (R273). -/
def execKLdbz (x : Fin 5) (s : State) : Host.Outcome State Fault Refusal :=
  .next (s.kLoad x 17 1 (fun v => BitVec.ofNat 32 v))

/-- ldhs: load of 2 bytes (R273). -/
def execKLdhs (x : Fin 5) (s : State) : Host.Outcome State Fault Refusal :=
  .next (s.kLoad x 18 2 (fun v => (BitVec.ofNat 16 v).signExtend 32))

/-- ldhz: load of 2 bytes (R273). -/
def execKLdhz (x : Fin 5) (s : State) : Host.Outcome State Fault Refusal :=
  .next (s.kLoad x 19 2 (fun v => BitVec.ofNat 32 v))

/-- ldw: load of 4 bytes (R273). -/
def execKLdw (x : Fin 5) (s : State) : Host.Outcome State Fault Refusal :=
  .next (s.kLoad x 20 4 (fun v => BitVec.ofNat 32 v))

/-- stb: store of 1 byte (R273). -/
def execKStb (x : Fin 5) (s : State) : Host.Outcome State Fault Refusal :=
  .next (s.kStore x 24 1)

/-- sth: store of 2 bytes (R273). -/
def execKSth (x : Fin 5) (s : State) : Host.Outcome State Fault Refusal :=
  .next (s.kStore x 25 2)

/-- stw: store of 4 bytes (R273). -/
def execKStw (x : Fin 5) (s : State) : Host.Outcome State Fault Refusal :=
  .next (s.kStore x 26 4)

/-! ### Branch group (R274) -/

/-- breq (R274). -/
def execKBreq (x : Fin 5) (s : State) : Host.Outcome State Fault Refusal :=
  .next (s.kBranch x 32 (fun a b => a == b))

/-- brne (R274). -/
def execKBrne (x : Fin 5) (s : State) : Host.Outcome State Fault Refusal :=
  .next (s.kBranch x 33 (fun a b => a != b))

/-- brlt (R274). -/
def execKBrlt (x : Fin 5) (s : State) : Host.Outcome State Fault Refusal :=
  .next (s.kBranch x 34 (fun a b => a.slt b))

/-- brge (R274). -/
def execKBrge (x : Fin 5) (s : State) : Host.Outcome State Fault Refusal :=
  .next (s.kBranch x 35 (fun a b => !(a.slt b)))

/-- brltu (R274). -/
def execKBrltu (x : Fin 5) (s : State) : Host.Outcome State Fault Refusal :=
  .next (s.kBranch x 36 (fun a b => a.ult b))

/-- brgeu (R274). -/
def execKBrgeu (x : Fin 5) (s : State) : Host.Outcome State Fault Refusal :=
  .next (s.kBranch x 37 (fun a b => !(a.ult b)))

/-- bra (R274). -/
def execKBra (x : Fin 5) (s : State) : Host.Outcome State Fault Refusal :=
  .next (s.kLong x 0x28 false)

/-- call, which links in g30 (R274). -/
def execKCall (x : Fin 5) (s : State) : Host.Outcome State Fault Refusal :=
  .next (s.kLong x 0x29 true)

/-- callr, also written jmp: to ra, linking in rd; ra is not its own link register (R268, R274). -/
def execKCallr (x : Fin 5) (s : State) : Host.Outcome State Fault Refusal :=
  .next (s.kIssue x (fun w => kMajor w == 0x2A)
    (fun c w => detailIf (bits w 0 16 != 0 || (kRd w == kRa w && kRd w != 0)) 1 ++ kFlowDetails c)
    (fun s c w => (s, .done [(.g (kRd w), c.next + 8#32, 1)] none (.branch (some (c.gr (kRa w) &&& 0xFFFFFFFC#32))))))

/-! ### Loop and repeat (R276, R277) -/

/-- The loop instruction takes effect on the loop mechanism at once, and on what rdcr sees at distance 4 (R253, R276). -/
def State.kLoopDo (s : State) (c : Core) (w : Word) : State × KEnd :=
  let n := bits w 24 2
  let e := c.next + BitVec.ofNat 32 (4 * bits w 12 11)
  let k := if bits w 23 1 = 1 then bits (c.gr (bits w 0 5)) 0 16 else bits w 0 12
  let first := c.next + 4#32
  if k = 0 then (s, .done [(.le n, e, 4), (.lc n, 0#32, 4), (.la n, 0#32, 4)] none (.skip (e + 4#32)))
  else (s, .done [(.ls n, first, 4), (.le n, e, 4), (.lc n, BitVec.ofNat 32 k, 4), (.la n, 1#32, 4)] none (.skip first))

/-- The loop mechanism of core `x` after a loop instruction `w` that stood at the address of core `c`. -/
def Core.loopSet (c' c : Core) (w : Word) : Core :=
  let n := bits w 24 2
  let e := c.next + BitVec.ofNat 32 (4 * bits w 12 11)
  let k := if bits w 23 1 = 1 then bits (c.gr (bits w 0 5)) 0 16 else bits w 0 12
  let c' := { c' with loopE := c'.loopE.set n e, loopC := c'.loopC.set n k, loopA := c'.loopA.set n (k != 0) }
  if k = 0 then c' else { c' with loopS := c'.loopS.set n (c.next + 4#32) }

/-- The loop instruction: what the shared completion does, then the mechanism takes its values. -/
def State.kLoop (s : State) (x : Nat) : State :=
  let isLoop (w : Word) : Bool := kMajor w == 0x30
  let bad (w : Word) : Bool := bits w 24 2 == 3 || bits w 12 11 == 0 || (bits w 23 1 == 1 && bits w 5 7 != 0)
  let t := s.kIssue x isLoop (fun c w => detailIf (bad w) 1 ++ kFlowDetails c) (fun s c w => s.kLoopDo c w)
  match s.fetch x with
  | (u, .ok w) =>
    if s.coreIssues x && isLoop w && !bad w && (kFlowDetails (u.core x)).isEmpty then
      t.setCore x ((t.core x).loopSet (u.core x) w)
    else t
  | _ => t

/-- loop (R276). -/
def execKLoop (x : Fin 5) (s : State) : Host.Outcome State Fault Refusal :=
  .next (s.kLoop x)

/-- rpt: the count is latched; 0 skips the next instruction (R256, R257, R277). -/
def execKRpt (x : Fin 5) (s : State) : Host.Outcome State Fault Refusal :=
  .next (s.kIssue x (fun w => kMajor w == 0x31)
    (fun c w =>
      let src := bits w 23 1 == 1
      detailIf (bits w 24 2 != 0 || bits w 12 11 != 0 || (src && bits w 5 7 != 0)) 1 ++ detailIf (s.rptForbidden x) 2 ++
        kFlowDetails c ++ detailIf (src && decide (4096 < (c.gr (bits w 0 5)).toNat)) 5)
    (fun s c w =>
      (s, .done [] none (.rpt (if bits w 23 1 = 1 then (c.gr (bits w 0 5)).toNat else bits w 0 12 + 1)))))

/-! ### Accumulators (R278, R279) -/

/-- mac (R278). -/
def execKMac (x : Fin 5) (s : State) : Host.Outcome State Fault Refusal :=
  .next (s.kAcc x 0 (fun _ => false) (fun c w a => a + prod72 (c.gr (kRa w)) (c.gr (kRb w))))

/-- msu (R278). -/
def execKMsu (x : Fin 5) (s : State) : Host.Outcome State Fault Refusal :=
  .next (s.kAcc x 1 (fun _ => false) (fun c w a => a - prod72 (c.gr (kRa w)) (c.gr (kRb w))))

/-- mula (R278). -/
def execKMula (x : Fin 5) (s : State) : Host.Outcome State Fault Refusal :=
  .next (s.kAcc x 2 (fun _ => false) (fun c w _ => prod72 (c.gr (kRa w)) (c.gr (kRb w))))

/-- mfacc: rounding, arithmetic shift and saturation of a 73-bit value (R278). -/
def mfaccWord (w : Word) (a : BitVec 72) : Word :=
  let sh := bits w 16 5
  let t : Int := if bits w 14 1 = 1 ∧ 0 < sh then a.toInt + 2 ^ (sh - 1) else a.toInt
  let t := t / 2 ^ sh
  BitVec.ofInt 32 (if bits w 13 1 = 1 then saturate 32 t else t)

/-- mfacc (R278). -/
def execKMfacc (x : Fin 5) (s : State) : Host.Outcome State Fault Refusal :=
  .next (s.kFromAcc x 8 (fun w => bits w 11 2 != 0) mfaccWord)

/-- rdacc: part 0, 1 or 2 of an accumulator (R278). -/
def execKRdacc (x : Fin 5) (s : State) : Host.Outcome State Fault Refusal :=
  .next (s.kFromAcc x 9 (fun w => kRa w != 0 || bits w 13 2 != 0 || bits w 11 2 == 3)
    (fun w a =>
      if bits w 11 2 = 0 then a.extractLsb' 0 32
      else if bits w 11 2 = 1 then a.extractLsb' 32 32
      else (a.extractLsb' 64 8).signExtend 32))

/-- wracc: part 0, 1 or 2 of an accumulator (R278). -/
def execKWracc (x : Fin 5) (s : State) : Host.Outcome State Fault Refusal :=
  .next (s.kAcc x 0xA (fun w => bits w 13 3 != 0 || bits w 11 2 == 3)
    (fun c w a =>
      let v := c.gr (kRa w)
      if bits w 11 2 = 0 then a.extractLsb' 32 40 ++ v
      else if bits w 11 2 = 1 then a.extractLsb' 64 8 ++ v ++ a.extractLsb' 0 32
      else v.extractLsb' 0 8 ++ a.extractLsb' 0 64))

/-- clracc (R278). -/
def execKClracc (x : Fin 5) (s : State) : Host.Outcome State Fault Refusal :=
  .next (s.kAcc x 0xB (fun w => bits w 11 10 != 0) (fun _ _ _ => 0#72))

/-- mac.d (R260, R279). -/
def execKMacD (x : Fin 5) (s : State) : Host.Outcome State Fault Refusal :=
  .next (s.kDual x 0 (fun a p => a + p))

/-- msu.d (R260, R279). -/
def execKMsuD (x : Fin 5) (s : State) : Host.Outcome State Fault Refusal :=
  .next (s.kDual x 1 (fun a p => a - p))

/-- mula.d (R260, R279). -/
def execKMulaD (x : Fin 5) (s : State) : Host.Outcome State Fault Refusal :=
  .next (s.kDual x 2 (fun _ p => p))

/-! ### System group (R280, R281) -/

/-- rdcr (R245, R280). -/
def execKRdcr (x : Fin 5) (s : State) : Host.Outcome State Fault Refusal :=
  .next (s.kSys x 0 (fun w => kRa w != 0) (fun _ w => detailIf (!crNumbers.contains (kRb w)) 6)
    (fun c w =>
      if !c.sup && [1, 2, 3, 4].contains (kRb w) then .raise 2 0 else .done [(.g (kRd w), c.cr (kRb w), 1)] none .seq))

/-- wrcr (R245, R246, R280). -/
def execKWrcr (x : Fin 5) (s : State) : Host.Outcome State Fault Refusal :=
  .next (s.kSys x 1 (fun w => kRd w != 0) (fun _ w => detailIf (!crNumbers.contains (kRb w)) 6)
    (fun c w =>
      if !c.sup && decide (kRb w ≤ 4) then .raise 2 0
      else .done [(.cr (kRb w), c.gr (kRa w) &&& crMask (kRb w), 4)] none .seq))

/-- trap (R280, R281). -/
def execKTrap (x : Fin 5) (s : State) : Host.Outcome State Fault Refusal :=
  .next (s.kSys x 8 (fun _ => false) (fun c _ => detailIf c.slot.isSome 3) (fun _ _ => .raise 7 0))

/-- brk (R280, R281). -/
def execKBrk (x : Fin 5) (s : State) : Host.Outcome State Fault Refusal :=
  .next (s.kSys x 9 (fun _ => false) (fun c _ => detailIf c.slot.isSome 3) (fun _ _ => .raise 8 0))

/-- exret (R263): a return that cannot be resumed is illegal, and user level may not return. -/
def execKExret (x : Fin 5) (s : State) : Host.Outcome State Fault Refusal :=
  .next (s.kSys x 0x10 (fun w => bits w 11 15 != 0)
    (fun c _ => kFlowDetails c ++ detailIf (c.landAll.unresumable x) 7)
    (fun c _ => if !c.landAll.sup then .raise 2 0 else .exret))

/-- wait (R264): an enabled input that is already high lets the core go on at once. -/
def execKWait (x : Fin 5) (s : State) : Host.Outcome State Fault Refusal :=
  .next (s.kSys x 0x11 (fun w => bits w 11 15 != 0) (fun c _ => detailIf c.slot.isSome 3)
    (fun c _ => if !c.sup then .raise 2 0 else .done [] none (if (s.irqTaken x).isSome then .seq else .wait)))

/-! ### Events of a core -/

/-- An enabled input is high and the core takes the interrupt (R264). -/
def execCoreInterrupt (x : Fin 5) (s : State) : Host.Outcome State Fault Refusal :=
  .next (s.kInterrupt x)

/-- A word that no entry lists: Illegal Instruction, DETAIL 0 (R268). -/
def execCoreIllegal (x : Fin 5) (s : State) : Host.Outcome State Fault Refusal :=
  .next (s.kIllegal x)

/-- A fetch outside instruction memory, or with an uncorrectable error (R243, R244). -/
def execCoreFetchError (x : Fin 5) (s : State) : Host.Outcome State Fault Refusal :=
  .next (s.kFetchError x)

end Sys2Proof.Machine
end

