-- ==== Sys2Proof/Machine/ExecLink.lean ====
section
/-!
DEFINITION. The commands of the link ports, the mangle units and the time beacons.
-/

namespace Sys2Proof.Machine

/-- A WAKE packet that waits on port `p` is taken and latches WAKE_PKT, when that source is armed (R372). -/
def State.wakePacket (s : State) (p : Nat) : State :=
  match s.takeSide p (fun pk => pk.typ == 8) with
  | none => s
  | some (_, _, s) => s.wakeLatch 18

/-- A port has an idle lane that D_SEN watches: a port that is UP has none, but for its second lane in Evening (R373). -/
def State.idleLane (s : State) (p : Nat) : Bool :=
  !s.portUp p || (s.mode == 2 && decide (2 ≤ (s.lanesIn p).length))

/-- Activity, or a Dawn pattern, on an idle lane of port `p` is wake source `c`, and takes an IDLE port out of IDLE (R355,
R373). -/
def State.linkActivity (s : State) (p c : Nat) : State :=
  if s.idleLane p then (s.wakeLatch c).portActivity p else s

/-- DETECT_RETRY: detection of a far end is tried again (R355). -/
def execDetectRetry (p : Fin 4) (answers : Bool) (s : State) : Host.Outcome State Fault Refusal :=
  .next (s.clocked (0x58 + p.val) (fun s => s.detectRetry p.val answers))

/-- LINK_TRAINING_DONE: training of port `p` ends (R356, R365): lanes trained, far generation and BAD bits, and the three reports of the far end. -/
def execLinkTrainingDone (p : Fin 4) (trained : Fin 8) (gen : Fin 4) (farBad : Fin 8) (farFresh : Bool) (farExpects : Fin 4096) (farFree : Nat)
    (s : State) : Host.Outcome State Fault Refusal :=
  .next (s.clocked (0x58 + p.val) (fun s => s.linkTrained p.val trained.val gen.val farBad.val farFresh farExpects.val farFree))

/-- TRAIN_TIMEOUT: training has not ended in time (R355). -/
def execTrainTimeout (p : Fin 4) (s : State) : Host.Outcome State Fault Refusal :=
  .next (s.clocked (0x58 + p.val) (fun s => s.trainTimeout p.val))

/-- RETRAIN: a write of 1 to PZL_CTRL.RETRAIN (R355). -/
def execPzlRetrain (q : Requester) (p : Fin 4) (value : Word) (s : State) : Host.Outcome State Fault Refusal :=
  .next (s.writeReg q .PZL_CTRL p.val (value ||| maskOf 1 1))

/-- IDLE: a write of PZL_CTRL.IDLE (R355). -/
def execPzlIdle (q : Requester) (p : Fin 4) (value : Word) (s : State) : Host.Outcome State Fault Refusal :=
  .next (s.writeReg q .PZL_CTRL p.val value)

/-- LANE_ERROR_WINDOW: a window of 1 ms ends (R357). -/
def execLaneErrorWindow (p : Fin 4) (s : State) : Host.Outcome State Fault Refusal :=
  .next (s.clocked (0x58 + p.val) (fun s => s.laneWindow p.val))

/-- PACKET_RECEIVE: a packet has arrived whole (R359–R363). -/
def execPacketReceive (p : Fin 4) (lane : Fin 3) (bytes : List Byte) (framed : Bool) (ofs : Nat)
    (s : State) : Host.Outcome State Fault Refusal :=
  .next (s.clocked (0x58 + p.val) (fun s => s.packetReceive p.val lane.val bytes framed ofs))

/-- REG_RD: the request at the front of the inbox of port `p` is served (R367). -/
def execLinkRegRd (p : Fin 4) (s : State) : Host.Outcome State Fault Refusal :=
  .next (s.clocked (0x58 + p.val) (fun s => s.serveRequest p.val 0))

/-- REG_WR: the request at the front of the inbox of port `p` is served (R367). -/
def execLinkRegWr (p : Fin 4) (s : State) : Host.Outcome State Fault Refusal :=
  .next (s.clocked (0x58 + p.val) (fun s => s.serveRequest p.val 1))

/-- MEM_RD: the request at the front of the inbox of port `p` is served (R368). -/
def execLinkMemRd (p : Fin 4) (s : State) : Host.Outcome State Fault Refusal :=
  .next (s.clocked (0x58 + p.val) (fun s => s.serveRequest p.val 2))

/-- MEM_WR: the request at the front of the inbox of port `p` is served (R368). -/
def execLinkMemWr (p : Fin 4) (s : State) : Host.Outcome State Fault Refusal :=
  .next (s.clocked (0x58 + p.val) (fun s => s.serveRequest p.val 3))

/-- ACK: a received ACK frees held packets (R363). -/
def execLinkAck (p : Fin 4) (s : State) : Host.Outcome State Fault Refusal :=
  .next (s.clocked (0x58 + p.val) (fun s => s.ackReceived p.val))

/-- NAK: a received link NAK starts a retry round (R363). -/
def execLinkNak (p : Fin 4) (s : State) : Host.Outcome State Fault Refusal :=
  .next (s.clocked (0x58 + p.val) (fun s => s.nakReceived p.val))

/-- CREDIT: a received CREDIT (R364). -/
def execLinkCredit (p : Fin 4) (s : State) : Host.Outcome State Fault Refusal :=
  .next (s.clocked (0x58 + p.val) (fun s => s.creditReceived p.val))

/-- WAKE: a received WAKE packet (R372). -/
def execLinkWake (p : Fin 4) (s : State) : Host.Outcome State Fault Refusal :=
  .next (s.clocked (0x58 + p.val) (fun s => s.wakePacket p.val))

/-- PACKET_SEND: port `p` sends its next packet (R364). -/
def execPacketSend (p : Fin 4) (second : Bool) (ofs : Nat) (s : State) : Host.Outcome State Fault Refusal :=
  .next (s.clocked (0x58 + p.val) (fun s => (s.packetSend p.val second ofs).mendLeft p.val))

/-- MANGLE_HOLD_EXPIRE: the hold of mangle unit `u` ends (R380). -/
def execMangleHoldExpire (u : Fin 4) (s : State) : Host.Outcome State Fault Refusal :=
  .next (s.clocked 0x5C (fun s => s.mangleExpire u.val))

/-- MGL_CTRL_WRITE: a write to MGL_CTRL of unit `u` (R381). -/
def execMglCtrlWrite (q : Requester) (u : Fin 4) (value : Word) (s : State) : Host.Outcome State Fault Refusal :=
  .next (s.writeReg q .MGL_CTRL u.val value)

/-- GAP_TIMEOUT: a gap in the sequence has stayed open (R363). -/
def execGapTimeout (p : Fin 4) (s : State) : Host.Outcome State Fault Refusal :=
  .next (s.clocked (0x58 + p.val) (fun s => s.gapTimeout p.val))

/-- ACK_TIMEOUT: no ACK has covered the oldest held packet in time (R363). -/
def execAckTimeout (p : Fin 4) (s : State) : Host.Outcome State Fault Refusal :=
  .next (s.clocked (0x58 + p.val) (fun s => s.ackTimeout p.val))

/-- PERIODIC_ACK: an ACK is due (R363). -/
def execPeriodicAck (p : Fin 4) (s : State) : Host.Outcome State Fault Refusal :=
  .next (s.clocked (0x58 + p.val) (fun s => s.periodic p.val 9))

/-- PERIODIC_CREDIT: a CREDIT is due (R364). -/
def execPeriodicCredit (p : Fin 4) (s : State) : Host.Outcome State Fault Refusal :=
  .next (s.clocked (0x58 + p.val) (fun s => s.periodic p.val 11))

/-- LINK_ACT: activity on an idle lane of port `p` (R355, R373). -/
def execLinkAct (p : Fin 4) (s : State) : Host.Outcome State Fault Refusal :=
  .next (s.linkActivity p.val (1 + p.val))

/-- DAWN: a Dawn pattern on an idle lane of port `p` (R373). -/
def execLinkDawn (p : Fin 4) (s : State) : Host.Outcome State Fault Refusal :=
  .next (s.linkActivity p.val (5 + p.val))

/-- SYNC_SEND: a master's system time reaches its next beacon (R374). -/
def execSyncSend (s : State) : Host.Outcome State Fault Refusal :=
  .next (s.syncSend)

/-- SYNC: a received SYNC (R374–R376). -/
def execLinkSync (p : Fin 4) (s : State) : Host.Outcome State Fault Refusal :=
  .next (s.syncReceived p.val)

/-- DREQ: a received DREQ is answered (R374). -/
def execLinkDreq (p : Fin 4) (s : State) : Host.Outcome State Fault Refusal :=
  .next (s.dreqReceived p.val)

/-- DRESP: a received DRESP ends a delay measurement (R375). -/
def execLinkDresp (p : Fin 4) (s : State) : Host.Outcome State Fault Refusal :=
  .next (s.drespReceived p.val)

/-- DRESP_TIMEOUT: a DRESP has not arrived in time (R375). -/
def execDrespTimeout (p : Fin 4) (s : State) : Host.Outcome State Fault Refusal :=
  .next (s.drespTimeout p.val)

/-- BEACON_SET: a write of 1 to BEACON_CTRL.SET (R377). -/
def execBeaconSet (q : Requester) (value : Word) (s : State) : Host.Outcome State Fault Refusal :=
  .next (s.writeReg q .BEACON_CTRL 0 (value ||| maskOf 0 1))

/-- INVALIDATE: a write of 1 to BEACON_CTRL.INVALIDATE (R377). -/
def execBeaconInvalidate (q : Requester) (value : Word) (s : State) : Host.Outcome State Fault Refusal :=
  .next (s.writeReg q .BEACON_CTRL 0 (value ||| maskOf 1 1))

/-- BEACON_ELECTION: a candidate has heard no SYNC for its time (R401). -/
def execBeaconElection (s : State) : Host.Outcome State Fault Refusal :=
  .next (s.beaconElect)

end Sys2Proof.Machine
end

