-- ==== Sys2Proof/Machine/ExecPair.lean ====
section
/-!
DEFINITION. The commands of the pair logic and of the mirrored baskets.
-/

namespace Sys2Proof.Machine

/-- PAIR_ENABLE_WRITE: a write to PAIR_CTRL (R387). -/
def execPairEnableWrite (q : Requester) (value : Word) (s : State) : Host.Outcome State Fault Refusal :=
  .next (s.writeReg q .PAIR_CTRL 0 value)

/-- HELLO: a HELLO message (R387). -/
def execPairHello (p : Fin 4) (s : State) : Host.Outcome State Fault Refusal :=
  .next (s.twinMessage p.val (isMirror 0) (fun pk s => s.hello pk))

/-- HEARTBEAT: a HEARTBEAT message (R389, R391). -/
def execPairHeartbeat (p : Fin 4) (s : State) : Host.Outcome State Fault Refusal :=
  .next (s.twinMessage p.val (isMirror 1) (fun pk s => s.heartbeat pk))

/-- CHECKPOINT: a CHECKPOINT message (R395). -/
def execPairCheckpoint (p : Fin 4) (s : State) : Host.Outcome State Fault Refusal :=
  .next (s.twinMessage p.val (isMirror 2) (fun pk s => s.checkpoint pk))

/-- DIGEST: a DIGEST message (R396). -/
def execPairDigest (p : Fin 4) (s : State) : Host.Outcome State Fault Refusal :=
  .next (s.twinMessage p.val (isMirror 3) (fun pk s => s.digest pk))

/-- OUTCOME: an OUTCOME message (R394). -/
def execPairOutcome (p : Fin 4) (s : State) : Host.Outcome State Fault Refusal :=
  .next (s.twinMessage p.val (isMirror 4) (fun pk s => s.outcome pk))

/-- HANDOVER: a HANDOVER message (R391). -/
def execPairHandoverMsg (p : Fin 4) (s : State) : Host.Outcome State Fault Refusal :=
  .next (s.twinMessage p.val (isMirror 5) (fun _ s => s.handover))

/-- ENTRIES: entries of a mirrored slot (R393). -/
def execBasketEntries (p : Fin 4) (s : State) : Host.Outcome State Fault Refusal :=
  .next (s.twinMessage p.val (isBasket 0) (fun pk s => s.entriesMsg pk))

/-- BASKET_ARM_MSG: the arm of a mirrored slot (R393). -/
def execBasketArmMsg (p : Fin 4) (s : State) : Host.Outcome State Fault Refusal :=
  .next (s.twinMessage p.val (isBasket 1) (fun pk s => s.armMsg pk))

/-- ARMED: the twin has armed a mirrored slot (R394). -/
def execBasketArmed (p : Fin 4) (s : State) : Host.Outcome State Fault Refusal :=
  .next (s.twinMessage p.val (isBasket 2) (fun pk s => s.armedMsg pk))

/-- COMMIT: a mirrored slot may press from an epoch on (R394). -/
def execBasketCommit (p : Fin 4) (s : State) : Host.Outcome State Fault Refusal :=
  .next (s.twinMessage p.val (isBasket 3) (fun pk s => s.commitMsg pk))

/-- ABORTED: the twin has aborted a mirrored slot (R393, R394). -/
def execBasketAborted (p : Fin 4) (s : State) : Host.Outcome State Fault Refusal :=
  .next (s.twinMessage p.val (isBasket 4) (fun pk s => s.abortedMsg pk))

/-- BASKET_CANCEL_MSG: the twin has cancelled a mirrored slot (R393). -/
def execBasketCancelMsg (p : Fin 4) (s : State) : Host.Outcome State Fault Refusal :=
  .next (s.twinMessage p.val (isBasket 5) (fun pk s => s.cancelMsg pk))

/-- PAIR_HANDOVER: a write of 1 to PAIR_CTRL.HANDOVER (R391). -/
def execPairHandover (q : Requester) (value : Word) (s : State) : Host.Outcome State Fault Refusal :=
  .next (s.writeReg q .PAIR_CTRL 0 (value ||| maskOf 1 1))

/-- HEARTBEAT_SEND: 100 µs have passed (R389). -/
def execHeartbeatSend (s : State) : Host.Outcome State Fault Refusal :=
  .next (s.heartbeatSend)

/-- HEARTBEAT_LOSS: 300 µs have passed without a HEARTBEAT (R389). -/
def execHeartbeatLoss (s : State) : Host.Outcome State Fault Refusal :=
  .next (s.heartbeatLoss)

/-- TOKEN_PULSE: 250 µs have passed; a PRIMARY or SOLO device pulses PTOKEN (R388). -/
def execTokenPulse (s : State) : Host.Outcome State Fault Refusal :=
  .next (s.tokenPulse)

/-- TOKEN_EDGE: a falling edge on PTOKEN (R388). -/
def execTokenEdge (s : State) : Host.Outcome State Fault Refusal :=
  .next (s.tokenLive true)

/-- TOKEN_TIMEOUT: no pulse for TOKEN_TO (R388). -/
def execTokenTimeout (s : State) : Host.Outcome State Fault Refusal :=
  .next (s.tokenLive false)

/-- BIND_TIMEOUT: BINDING has lasted BIND_TO ms (R387). -/
def execBindTimeout (s : State) : Host.Outcome State Fault Refusal :=
  .next (s.bindTimeout)

end Sys2Proof.Machine
end

