-- ==== Sys2Proof/Machine/ExecPower.lean ====
section
/-!
DEFINITION. The commands of the power-mode controller, the wake sources, the power-fail path and the sensors.
-/

namespace Sys2Proof.Machine

/-- Afternoon to Noon (R306): the clocks of D_ANA start, what the fabric held for it applies, and the stacks leave
self-refresh. -/
def State.leaveAfternoon (s : State) : State :=
  let s := (s.stepUp 1 0).stacksMove 3 2
  let s := if s.power.ana = .stopped then s.setPower .ana .on else s
  s.anaRestart

/-- MODE_REQUEST: a write to PWR_CTRL.TARGET (R302, R303). -/
def execModeRequest (q : Requester) (value : Word) (s : State) : Host.Outcome State Fault Refusal :=
  .next (s.writeReg q .PWR_CTRL 0 value)

/-- PWR_ASK: a write to PWR_ASK (R302). -/
def execPwrAsk (q : Requester) (value : Word) (s : State) : Host.Outcome State Fault Refusal :=
  .next (s.writeReg q .PWR_ASK 0 value)

/-- NOON_TO_AFTERNOON: the step begins, if it may (R304, R305). -/
def execNoonToAfternoon (s : State) : Host.Outcome State Fault Refusal :=
  .next (s.tryStep 0 1 State.toAfternoon)

/-- AFTERNOON_TO_EVENING: the step begins, if it may (R304, R305). -/
def execAfternoonToEvening (s : State) : Host.Outcome State Fault Refusal :=
  .next (s.tryStep 1 2 State.toEvening)

/-- EVENING_TO_NIGHT: the step begins, if it may (R304, R305). -/
def execEveningToNight (s : State) : Host.Outcome State Fault Refusal :=
  .next (s.tryStep 2 3 State.toNight)

/-- NIGHT_TO_MIDNIGHT: the step begins, if it may (R304, R305). -/
def execNightToMidnight (s : State) : Host.Outcome State Fault Refusal :=
  .next (s.tryStep 3 4 (fun s => s.stepBegin 3 4))

/-- AFTERNOON_TO_NOON: the step begins, if it may: D_ANA is clocked again, and the stacks leave self-refresh (R304, R305). -/
def execAfternoonToNoon (s : State) : Host.Outcome State Fault Refusal :=
  .next (s.tryStep 1 0 State.leaveAfternoon)

/-- EVENING_TO_NOON: the step begins, if it may (R304, R306). -/
def execEveningToNoon (s : State) : Host.Outcome State Fault Refusal :=
  .next (s.tryStep 2 0 State.leaveEvening)

/-- NIGHT_TO_EVENING: the step begins, if it may; `flipped` are the canaries that failed, `found` what the other banks hold (R307, R313). -/
def execNightToEvening (flipped : List Nat) (found : Contents) (s : State) : Host.Outcome State Fault Refusal :=
  .next (s.tryStep 3 2 (fun s => s.leaveNight flipped found))

/-- MODE_STEP_END: the step in progress ends after `clocks` sentinel clocks (R305). -/
def execModeStepEnd (clocks : Nat) (s : State) : Host.Outcome State Fault Refusal :=
  .next (s.modeStepEnd clocks)

/-- SEAL_CHECK_DONE: the seal check of the next bank ends (R314). -/
def execSealCheckDone (s : State) : Host.Outcome State Fault Refusal :=
  .next (s.sealCheckDone)

/-- TACH_WAKE_EDGE: a rising edge at tach input `n`, which WAKE_TACH may arm (R309). -/
def execTachWakeEdge (n : Fin 32) (s : State) : Host.Outcome State Fault Refusal :=
  .next (if s.fbit F.WAKE_TACH_ARM 0 n.val then s.wakeLatch 11 else s)

/-- PFW_ASSERT: PFW_N is asserted (R316). -/
def execPfwAssert (s : State) : Host.Outcome State Fault Refusal :=
  .next ({ s with power := { s.power with pfwPin := true } })

/-- PFW_ACCEPT: PFW_N has stayed asserted for 1 µs (R316). -/
def execPfwAccept (s : State) : Host.Outcome State Fault Refusal :=
  .next (s.pfwAccept)

/-- PFW_SLOT_TIMEOUT: 100 µs have passed since PFW was accepted (R316). -/
def execPfwSlotTimeout (s : State) : Host.Outcome State Fault Refusal :=
  .next (s.pfwSlot)

/-- PFW_RELEASE: PFW_N is released (R317). -/
def execPfwRelease (s : State) : Host.Outcome State Fault Refusal :=
  .next (s.pfwRelease)

/-- PFW_CLEAR: PFW has stayed released for CLEAR_MS (R317). -/
def execPfwClear (s : State) : Host.Outcome State Fault Refusal :=
  .next (s.pfwClear)

/-- MAIN_SUPPLY_FAIL: the main supply fails without the step into Midnight (R308). -/
def execMainSupplyFail (s : State) : Host.Outcome State Fault Refusal :=
  .next (s.senLost)

/-- TEMP_CONVERSION: a temperature sensor converts (R318). -/
def execTempConversion (sensor : Fin 8) (value : BitVec 16) (s : State) : Host.Outcome State Fault Refusal :=
  .next (s.tempConvert sensor.val value)

/-- THERM_TRIP: a comparator trips (R319). -/
def execThermTrip (s : State) : Host.Outcome State Fault Refusal :=
  .next (s.thermTrip)

end Sys2Proof.Machine
end

