-- ==== Sys2Proof/Machine/ExecSecurity.lean ====
section
/-!
DEFINITION. The commands of the crypto unit, the fuses, the flash controller, the darn controller and the GPIO hold.
-/

namespace Sys2Proof.Machine

/-- The word of CRY_CMD with a command. -/
def cryWord (v : Word) (cmd : Nat) : Word := withBits v 0 3 cmd

/-- The word of FUSE_PROG with an operation. -/
def fuseWord (v : Word) (op : Nat) : Word := withBits v 4 4 op

/-- HASH: command 1 of the crypto unit (R445). -/
def execCryHash (q : Requester) (value : Word) (s : State) : Host.Outcome State Fault Refusal :=
  .next (s.writeReg q .CRY_CMD 0 (cryWord value 1))

/-- CRYPTO_VERIFY: command 2 of the crypto unit (R445). -/
def execCryVerify (q : Requester) (value : Word) (s : State) : Host.Outcome State Fault Refusal :=
  .next (s.writeReg q .CRY_CMD 0 (cryWord value 2))

/-- MEASURE: command 3 of the crypto unit (R444). -/
def execCryMeasure (q : Requester) (value : Word) (s : State) : Host.Outcome State Fault Refusal :=
  .next (s.writeReg q .CRY_CMD 0 (cryWord value 3))

/-- ATTEST: command 4 of the crypto unit (R445). -/
def execCryAttest (q : Requester) (value : Word) (s : State) : Host.Outcome State Fault Refusal :=
  .next (s.writeReg q .CRY_CMD 0 (cryWord value 4))

/-- CRYPTO_DONE: the running command ends (R445). -/
def execCryDone (s : State) : Host.Outcome State Fault Refusal :=
  .next (s.cryDone)

/-- FUSE_KEY_HASH: a burn of operation 1 (R431). -/
def execFuseKeyHash (q : Requester) (value : Word) (s : State) : Host.Outcome State Fault Refusal :=
  .next (s.writeReg q .FUSE_PROG 0 (fuseWord value 1))

/-- FUSE_REVOKE: a burn of operation 2 (R431). -/
def execFuseRevoke (q : Requester) (value : Word) (s : State) : Host.Outcome State Fault Refusal :=
  .next (s.writeReg q .FUSE_PROG 0 (fuseWord value 2))

/-- FUSE_ROLLBACK: a burn of operation 3 (R431). -/
def execFuseRollback (q : Requester) (value : Word) (s : State) : Host.Outcome State Fault Refusal :=
  .next (s.writeReg q .FUSE_PROG 0 (fuseWord value 3))

/-- SECURE: a burn of operation 4 (R432). -/
def execFuseSecure (q : Requester) (value : Word) (s : State) : Host.Outcome State Fault Refusal :=
  .next (s.writeReg q .FUSE_PROG 0 (fuseWord value 4))

/-- RMA: a burn of operation 5 (R432). -/
def execFuseRma (q : Requester) (value : Word) (s : State) : Host.Outcome State Fault Refusal :=
  .next (s.writeReg q .FUSE_PROG 0 (fuseWord value 5))

/-- FUSE_BURN_DONE: the burn in progress ends (R431). -/
def execFuseBurnDone (s : State) : Host.Outcome State Fault Refusal :=
  .next (s.fuseDone)

/-- XSPI_START: a write of 1 to XSPI_CMD.START (R437). -/
def execXspiStart (q : Requester) (value : Word) (s : State) : Host.Outcome State Fault Refusal :=
  .next (s.writeReg q .XSPI_CMD 0 ((value ||| maskOf 31 1) &&& ~~~maskOf 30 1))

/-- XSPI_POLL: a write of 1 to XSPI_CMD.POLL (R438). -/
def execXspiPoll (q : Requester) (value : Word) (s : State) : Host.Outcome State Fault Refusal :=
  .next (s.writeReg q .XSPI_CMD 0 ((value ||| maskOf 30 1) &&& ~~~maskOf 31 1))

/-- XSPI_POLL_READ: a read of the poll (R438). -/
def execXspiPollRead (bytes : List Byte) (s : State) : Host.Outcome State Fault Refusal :=
  .next (s.xspiPollRead bytes)

/-- XSPI_POLL_TIMEOUT: the limit of the poll has passed (R438). -/
def execXspiPollTimeout (s : State) : Host.Outcome State Fault Refusal :=
  .next (s.xspiPollTimeout)

/-- XSPI_DONE: the operation ends: what the flash drove, and what it changed (R436, R437). -/
def execXspiDone (bytes : List Byte) (changed : List (Nat × Byte)) (s : State) : Host.Outcome State Fault Refusal :=
  .next (s.xspiDone bytes changed)

/-- TRACKER_AGE_EXPIRE: entry `i` of a row tracker has aged (R451). -/
def execTrackerAgeExpire (dom : Fin 3) (i : Fin 16) (s : State) : Host.Outcome State Fault Refusal :=
  .next (s.trackerExpire dom.val i.val)

/-- CONFIRM: a write of 1 to DARN_CTRL.CONFIRM (R453). -/
def execDarnConfirm (q : Requester) (value : Word) (s : State) : Host.Outcome State Fault Refusal :=
  .next (s.writeReg q .DARN_CTRL 0 (value ||| maskOf 0 1))

/-- DECLINE: a write of 1 to DARN_CTRL.DECLINE (R453). -/
def execDarnDecline (q : Requester) (value : Word) (s : State) : Host.Outcome State Fault Refusal :=
  .next (s.writeReg q .DARN_CTRL 0 (value ||| maskOf 1 1))

/-- BANK_COPY_DONE: the copy of a BANK darn ends (R454). -/
def execBankCopyDone (s : State) : Host.Outcome State Fault Refusal :=
  .next (s.bankFree)

/-- POP: a write of 1 to DARN_LOG_CTRL.POP (R456). -/
def execDarnPop (q : Requester) (value : Word) (s : State) : Host.Outcome State Fault Refusal :=
  .next (s.writeReg q .DARN_LOG_CTRL 0 (value ||| maskOf 31 1))

/-- APPLY: a write of 1 to DARN_IN_CTRL.APPLY (R459). -/
def execDarnApply (q : Requester) (value : Word) (s : State) : Host.Outcome State Fault Refusal :=
  .next (s.writeReg q .DARN_IN_CTRL 0 (value ||| maskOf 31 1))

/-- RELEASE: a write of 1 to GPIO_CTRL.RELEASE (R481). -/
def execGpioRelease (q : Requester) (value : Word) (s : State) : Host.Outcome State Fault Refusal :=
  .next (s.writeReg q .GPIO_CTRL 0 (value ||| maskOf 0 1))

end Sys2Proof.Machine
end

