-- ==== Sys2Proof/Machine/ExecUart.lean ====
section
/-!
DEFINITION. The commands of the serial ports.
-/

namespace Sys2Proof.Machine

/-- The byte that the samples complete on UART0 while mend mode listens there joins the frame that is being received; a frame
starts at a byte 0xA5 (R442). -/
def State.mendByte (s : State) (samples : List Bool) : State :=
  if !(s.mend.on && s.uartArmed 0) then s
  else
    match s.uartHear 0 ((s.uart 0).line samples).2 with
    | .char d _ true _ =>
      if s.mend.rx != [] || d % 256 == 0xA5 then { s with mend := { s.mend with rx := s.mend.rx ++ [BitVec.ofNat 8 d] } } else s
    | _ => s

/-- Samples of RXD reach serial port `n`; in mend mode a character of UART0 is a byte of a mend frame (R442). -/
def State.uartChar (s : State) (n : Nat) (samples : List Bool) : State :=
  let s := if n = 0 then s.mendByte samples else s
  s.uartCharacter n samples

/-- UART_CHARACTER: with the samples of RXD that the four lists hold one after the other, a character frame has been received whole
(R405–R408); in mend mode its byte is one of a mend frame (R442). -/
def execUartCharacter (n : Fin 2) (start data parity stop : List Bool) (s : State) : Host.Outcome State Fault Refusal :=
  .next (s.uartChar n.val (start ++ data ++ parity ++ stop))

/-- UART_BREAK: RXD has stayed low for more than a frame (R409). -/
def execUartBreak (n : Fin 2) (s : State) : Host.Outcome State Fault Refusal :=
  .next (s.uartBreak n.val)

/-- UART_STUCK_LOW: RXD has stayed low for four frames (R409). -/
def execUartStuckLow (n : Fin 2) (s : State) : Host.Outcome State Fault Refusal :=
  .next (s.uartStuck n.val)

/-- BREAK_END: RXD has read high for a bit time after a stuck line (R409). -/
def execUartBreakEnd (n : Fin 2) (s : State) : Host.Outcome State Fault Refusal :=
  .next (s.uartBreakEnd n.val)

/-- UART_RX_TIMEOUT: the idle count is reached (R411). -/
def execUartRxTimeout (n : Fin 2) (s : State) : Host.Outcome State Fault Refusal :=
  .next (s.uartIdle n.val)

/-- UART_RXDATA_READ: a read of UART_RXDATA (R408). -/
def execUartRxdataRead (q : Requester) (n : Fin 2) (s : State) : Host.Outcome State Fault Refusal :=
  .next (s.readReg q .UART_RXDATA n.val)

/-- UART_RXR_RD_WRITE: a write to UART_RXR_RD (R412). -/
def execUartRxrRdWrite (q : Requester) (n : Fin 2) (value : Word) (s : State) : Host.Outcome State Fault Refusal :=
  .next (s.writeReg q .UART_RXR_RD n.val value)

/-- UART_TXDATA: a write to UART_TXDATA (R413). -/
def execUartTxdata (q : Requester) (n : Fin 2) (value : Word) (s : State) : Host.Outcome State Fault Refusal :=
  .next (s.writeReg q .UART_TXDATA n.val value)

/-- UART_TX_START: a write of 1 to UART_TX_CTRL.START (R413). -/
def execUartTxStart (q : Requester) (n : Fin 2) (value : Word) (s : State) : Host.Outcome State Fault Refusal :=
  .next (s.writeReg q .UART_TX_CTRL n.val (value ||| maskOf 31 1))

/-- UART_CHAR_SENT: the last stop bit of a character has been sent (R403). -/
def execUartCharSent (n : Fin 2) (s : State) : Host.Outcome State Fault Refusal :=
  .next (s.uartSent n.val)

/-- TX_DONE: the last stop bit of a transfer has been sent (R413). -/
def execUartTxDone (n : Fin 2) (s : State) : Host.Outcome State Fault Refusal :=
  .next (s.uartTxDone n.val)

/-- UART_DE_TAIL: the tail of DE has passed (R414). -/
def execUartDeTail (n : Fin 2) (s : State) : Host.Outcome State Fault Refusal :=
  .next (s.uartTail n.val)

/-- UART_START_EDGE_WAKE: a falling edge on RXD in Night (R415). -/
def execUartStartEdgeWake (n : Fin 2) (rested : Bool) (s : State) : Host.Outcome State Fault Refusal :=
  .next (s.uartWake n.val rested)

/-- START_BIT_NOISE: a start bit reads high by majority (R405). -/
def execStartBitNoise (n : Fin 2) (s : State) : Host.Outcome State Fault Refusal :=
  .next (s.uartNoise n.val)

end Sys2Proof.Machine
end

