-- ==== Sys2Proof/Machine/ExecWelut.lean ====
section
/-!
DEFINITION. The commands of the Welut engines, their queues, control stores and tables.
-/

namespace Sys2Proof.Machine

/-- JOB_DISPATCH: idle engine `w` looks for a job (R183). -/
def execJobDispatch (w : Fin 18) (s : State) : Host.Outcome State Fault Refusal :=
  .next (s.jobDispatch w.val)

/-- MICROWORD: engine `w` issues its next word after `waits` clocks of waiting (R199). -/
def execMicroword (w : Fin 18) (waits : Nat) (s : State) : Host.Outcome State Fault Refusal :=
  .next (s.microword w.val waits)

/-- DMA_COMPLETE: transfer `i` of engine `w` completes (R210). -/
def execDmaComplete (w : Fin 18) (i : Fin 4) (s : State) : Host.Outcome State Fault Refusal :=
  .next (s.dmaComplete w.val i.val)

/-- JOB_COMPLETE: the job of engine `w` completes (R189). -/
def execJobComplete (w : Fin 18) (clocks : Nat) (s : State) : Host.Outcome State Fault Refusal :=
  .next (s.jobComplete w.val clocks)

/-- JOB_TIMEOUT: the job of engine `w` has reached its run limit (R186). -/
def execJobTimeout (w : Fin 18) (s : State) : Host.Outcome State Fault Refusal :=
  .next (s.jobTimeout w.val)

/-- WEL_HALT: a write of 1 to WEL_CTRL.HALT of engine `w` (R178). -/
def execWelHalt (q : Requester) (w : Fin 18) (value : Word) (s : State) : Host.Outcome State Fault Refusal :=
  .next (s.writeReg q .WEL_CTRL w.val (value ||| maskOf 2 1))

/-- RESUME: a write of 1 to WEL_CTRL.RESUME of engine `w` (R179). -/
def execWelResume (q : Requester) (w : Fin 18) (value : Word) (s : State) : Host.Outcome State Fault Refusal :=
  .next (s.writeReg q .WEL_CTRL w.val (value ||| maskOf 1 1))

/-- SERVICE_WRITE: a write of WEL_CTRL.SERVICE of engine `w` (R178). -/
def execServiceWrite (q : Requester) (w : Fin 18) (value : Word) (s : State) : Host.Outcome State Fault Refusal :=
  .next (s.writeReg q .WEL_CTRL w.val value)

/-- WELQ_QTAIL_WRITE: a write to WELQ_QTAIL of queue `n` (R181). -/
def execWelqTailWrite (q : Requester) (n : Fin 64) (value : Word) (s : State) : Host.Outcome State Fault Refusal :=
  .next (s.writeReg q .WELQ_QTAIL n.val value)

/-- TEMPLATE_COPY_DONE: the descriptor copy of template `t` completes (R188). -/
def execTemplateCopyDone (t : Fin 16) (s : State) : Host.Outcome State Fault Refusal :=
  .next (s.templateDone t.val)

/-- FRAME_DIGEST_CLOSE: the oldest closed frame of generator `f` is published (R193). -/
def execFrameDigestClose (f : Fin 4) (s : State) : Host.Outcome State Fault Refusal :=
  .next (s.frameClose f.val).sendDigests

/-- CS_COMMIT: a write to CS_DATA5 of engine `w` commits a word to its control store (R214). -/
def execCsCommit (q : Requester) (w : Fin 18) (value : Word) (s : State) : Host.Outcome State Fault Refusal :=
  .next (s.writeReg q .CS_DATA5 w.val value)

/-- CS_DATA5_READ: a read of CS_DATA5 of engine `w` (R214). -/
def execCsData5Read (q : Requester) (w : Fin 18) (s : State) : Host.Outcome State Fault Refusal :=
  .next (s.readReg q .CS_DATA5 w.val)

/-- CS_LOAD: a write of 1 to CS_CTRL.LOAD of engine `w` (R215). -/
def execCsLoad (q : Requester) (w : Fin 18) (value : Word) (s : State) : Host.Outcome State Fault Refusal :=
  .next (s.writeReg q .CS_CTRL w.val (value ||| maskOf 0 1))

/-- CS_CHECK: a write of 1 to CS_CTRL.CHECK of engine `w` (R215). -/
def execCsCheck (q : Requester) (w : Fin 18) (value : Word) (s : State) : Host.Outcome State Fault Refusal :=
  .next (s.writeReg q .CS_CTRL w.val (value ||| maskOf 1 1))

/-- CS_VERIFY: a write of 1 to CS_CTRL.VERIFY of engine `w` (R215). -/
def execCsVerify (q : Requester) (w : Fin 18) (value : Word) (s : State) : Host.Outcome State Fault Refusal :=
  .next (s.writeReg q .CS_CTRL w.val (value ||| maskOf 2 1))

/-- CS_INVALIDATE: a write of 1 to CS_CTRL.INVALIDATE of engine `w` (R215). -/
def execCsInvalidate (q : Requester) (w : Fin 18) (value : Word) (s : State) : Host.Outcome State Fault Refusal :=
  .next (s.writeReg q .CS_CTRL w.val (value ||| maskOf 5 1))

/-- CS_COMMAND_DONE: the running store command of engine `w` ends (R215). -/
def execCsCommandDone (w : Fin 18) (s : State) : Host.Outcome State Fault Refusal :=
  .next (s.csDone w.val)

/-- WEL_TBL_SWAP_REQUEST: a write of 1 to WEL_TBL_CTRL.SWAP of engine `w` (R219). -/
def execWelTblSwapRequest (q : Requester) (w : Fin 18) (value : Word)
    (s : State) : Host.Outcome State Fault Refusal :=
  .next (s.writeReg q .WEL_TBL_CTRL w.val (value ||| maskOf 0 1))

end Sys2Proof.Machine
end

