-- ==== Sys2Proof/Machine/Dispatch.lean ====
section
/-!
DEFINITION. The dispatch of the commands: one arm for each constructor of `Instr`, in the order of the table.
-/

namespace Sys2Proof.Machine

/-- The effect of a command on everything but the queue. -/
def exec (i : Instr) (s : State) : Host.Outcome State Fault Refusal :=
  match i with
  | .registerWrite q size addr value => Sys2Proof.Machine.execRegisterWrite q size addr value s
  | .readClear q addr => Sys2Proof.Machine.execReadClear q addr s
  | .heldAccessRelease => Sys2Proof.Machine.execHeldAccessRelease s
  | .debugAccess scan size addr write => Sys2Proof.Machine.execDebugAccess scan size addr write s
  | .softRst q page value => Sys2Proof.Machine.execSoftRst q page value s
  | .softResetComplete page => Sys2Proof.Machine.execSoftResetComplete page s
  | .pageOwnerWrite q page value => Sys2Proof.Machine.execPageOwnerWrite q page value s
  | .freezeGroupRead q addr => Sys2Proof.Machine.execFreezeGroupRead q addr s
  | .freezeGroupRelease q addr => Sys2Proof.Machine.execFreezeGroupRelease q addr s
  | .freezeStaleTimeout q addr => Sys2Proof.Machine.execFreezeStaleTimeout q addr s
  | .tachPinChange n level dt => Sys2Proof.Machine.execTachPinChange n level dt s
  | .tachFilterAccept n => Sys2Proof.Machine.execTachFilterAccept n s
  | .epochEdge conv phase => Sys2Proof.Machine.execEpochEdge conv phase s
  | .acqTimeout n => Sys2Proof.Machine.execAcqTimeout n s
  | .angReacq q n value => Sys2Proof.Machine.execAngReacq q n value s
  | .angLearn q n value => Sys2Proof.Machine.execAngLearn q n value s
  | .learnEnd n => Sys2Proof.Machine.execLearnEnd n s
  | .angLoad q n value => Sys2Proof.Machine.execAngLoad q n value s
  | .angCfgWrite q n value => Sys2Proof.Machine.execAngCfgWrite q n value s
  | .angTblDataWrite q n value => Sys2Proof.Machine.execAngTblDataWrite q n value s
  | .angTblSwap q n => Sys2Proof.Machine.execAngTblSwap q n s
  | .softFire q => Sys2Proof.Machine.execSoftFire q s
  | .ainRun q value => Sys2Proof.Machine.execAinRun q value s
  | .groupPowerWrite q value => Sys2Proof.Machine.execGroupPowerWrite q value s
  | .groupReady g => Sys2Proof.Machine.execGroupReady g s
  | .alignHoldover => Sys2Proof.Machine.execAlignHoldover s
  | .mpresChange g level => Sys2Proof.Machine.execMpresChange g level s
  | .presenceAccept g => Sys2Proof.Machine.execPresenceAccept g s
  | .ainIdcommit q value => Sys2Proof.Machine.execAinIdcommit q value s
  | .commitCheckDone g => Sys2Proof.Machine.execCommitCheckDone g s
  | .idbStart q b value => Sys2Proof.Machine.execIdbStart q b value s
  | .idbRecover q b value => Sys2Proof.Machine.execIdbRecover q b value s
  | .idbDone b outcome => Sys2Proof.Machine.execIdbDone b outcome s
  | .idbStretchTimeout b => Sys2Proof.Machine.execIdbStretchTimeout b s
  | .rotationDecision => Sys2Proof.Machine.execRotationDecision s
  | .calRunDone p fit => Sys2Proof.Machine.execCalRunDone p fit s
  | .initCal q value => Sys2Proof.Machine.execInitCal q value s
  | .initCalDone => Sys2Proof.Machine.execInitCalDone s
  | .rotNow q value => Sys2Proof.Machine.execRotNow q value s
  | .adccalSwap q p value => Sys2Proof.Machine.execAdccalSwap q p value s
  | .adccalTableWrite q p h w value => Sys2Proof.Machine.execAdccalTableWrite q p h w value s
  | .resultStart q value => Sys2Proof.Machine.execResultStart q value s
  | .resultRead q k => Sys2Proof.Machine.execResultRead q k s
  | .hdrNow q st value => Sys2Proof.Machine.execHdrNow q st value s
  | .laneFrame l => Sys2Proof.Machine.execLaneFrame l s
  | .rlCopy q l value => Sys2Proof.Machine.execRlCopy q l value s
  | .rlCopyDone l => Sys2Proof.Machine.execRlCopyDone l s
  | .rlTblDataWrite q l value => Sys2Proof.Machine.execRlTblDataWrite q l value s
  | .rlSwap q l value => Sys2Proof.Machine.execRlSwap q l value s
  | .lineItem src => Sys2Proof.Machine.execLineItem src s
  | .lineFlush q l value => Sys2Proof.Machine.execLineFlush q l value s
  | .blockFlushTimeout l => Sys2Proof.Machine.execBlockFlushTimeout l s
  | .lineEnableWrite q l value => Sys2Proof.Machine.execLineEnableWrite q l value s
  | .govWindow => Sys2Proof.Machine.execGovWindow s
  | .drainBlock => Sys2Proof.Machine.execDrainBlock s
  | .pegSet q => Sys2Proof.Machine.execPegSet q s
  | .pegArm q => Sys2Proof.Machine.execPegArm q s
  | .pegFire q => Sys2Proof.Machine.execPegFire q s
  | .pegRelease q => Sys2Proof.Machine.execPegRelease q s
  | .lineFetchStart q value => Sys2Proof.Machine.execLineFetchStart q value s
  | .lineFetchDone => Sys2Proof.Machine.execLineFetchDone s
  | .trainStart q x value => Sys2Proof.Machine.execTrainStart q x value s
  | .trainingDone x ok settings lanes => Sys2Proof.Machine.execTrainingDone x ok settings lanes s
  | .ecsRead x rows count temp => Sys2Proof.Machine.execEcsRead x rows count temp s
  | .rinseRead => Sys2Proof.Machine.execRinseRead s
  | .stkPgFall => Sys2Proof.Machine.execStkPgFall s
  | .stkPgTimeout => Sys2Proof.Machine.execStkPgTimeout s
  | .jobDispatch w => Sys2Proof.Machine.execJobDispatch w s
  | .microword w waits => Sys2Proof.Machine.execMicroword w waits s
  | .dmaComplete w k => Sys2Proof.Machine.execDmaComplete w k s
  | .jobComplete w clocks => Sys2Proof.Machine.execJobComplete w clocks s
  | .jobTimeout w => Sys2Proof.Machine.execJobTimeout w s
  | .welHalt q w value => Sys2Proof.Machine.execWelHalt q w value s
  | .welResume q w value => Sys2Proof.Machine.execWelResume q w value s
  | .serviceWrite q w value => Sys2Proof.Machine.execServiceWrite q w value s
  | .welqTailWrite q n value => Sys2Proof.Machine.execWelqTailWrite q n value s
  | .templateCopyDone t => Sys2Proof.Machine.execTemplateCopyDone t s
  | .frameDigestClose f => Sys2Proof.Machine.execFrameDigestClose f s
  | .csCommit q w value => Sys2Proof.Machine.execCsCommit q w value s
  | .csData5Read q w => Sys2Proof.Machine.execCsData5Read q w s
  | .csLoad q w value => Sys2Proof.Machine.execCsLoad q w value s
  | .csCheck q w value => Sys2Proof.Machine.execCsCheck q w value s
  | .csVerify q w value => Sys2Proof.Machine.execCsVerify q w value s
  | .csInvalidate q w value => Sys2Proof.Machine.execCsInvalidate q w value s
  | .csCommandDone w => Sys2Proof.Machine.execCsCommandDone w s
  | .welTblSwapRequest q w value => Sys2Proof.Machine.execWelTblSwapRequest q w value s
  | .bsValue q slot value => Sys2Proof.Machine.execBsValue q slot value s
  | .bsClose q slot mirror => Sys2Proof.Machine.execBsClose q slot mirror s
  | .bsArm q slot mirror => Sys2Proof.Machine.execBsArm q slot mirror s
  | .armValidationDone slot => Sys2Proof.Machine.execArmValidationDone slot s
  | .bsCancel q slot mirror => Sys2Proof.Machine.execBsCancel q slot mirror s
  | .bsClear q slot mirror => Sys2Proof.Machine.execBsClear q slot mirror s
  | .bsRdataRead q slot => Sys2Proof.Machine.execBsRdataRead q slot s
  | .kAdd x => Sys2Proof.Machine.execKAdd x s
  | .kSub x => Sys2Proof.Machine.execKSub x s
  | .kAnd x => Sys2Proof.Machine.execKAnd x s
  | .kOr x => Sys2Proof.Machine.execKOr x s
  | .kXor x => Sys2Proof.Machine.execKXor x s
  | .kAndn x => Sys2Proof.Machine.execKAndn x s
  | .kClt x => Sys2Proof.Machine.execKClt x s
  | .kCltu x => Sys2Proof.Machine.execKCltu x s
  | .kShl x => Sys2Proof.Machine.execKShl x s
  | .kShr x => Sys2Proof.Machine.execKShr x s
  | .kAsr x => Sys2Proof.Machine.execKAsr x s
  | .kMin x => Sys2Proof.Machine.execKMin x s
  | .kMax x => Sys2Proof.Machine.execKMax x s
  | .kMinu x => Sys2Proof.Machine.execKMinu x s
  | .kMaxu x => Sys2Proof.Machine.execKMaxu x s
  | .kAdds x => Sys2Proof.Machine.execKAdds x s
  | .kSubs x => Sys2Proof.Machine.execKSubs x s
  | .kMul x => Sys2Proof.Machine.execKMul x s
  | .kMulx x => Sys2Proof.Machine.execKMulx x s
  | .kMulxu x => Sys2Proof.Machine.execKMulxu x s
  | .kMovl x => Sys2Proof.Machine.execKMovl x s
  | .kAddk x => Sys2Proof.Machine.execKAddk x s
  | .kAndk x => Sys2Proof.Machine.execKAndk x s
  | .kOrk x => Sys2Proof.Machine.execKOrk x s
  | .kXork x => Sys2Proof.Machine.execKXork x s
  | .kMovh x => Sys2Proof.Machine.execKMovh x s
  | .kCltk x => Sys2Proof.Machine.execKCltk x s
  | .kCltku x => Sys2Proof.Machine.execKCltku x s
  | .kShlk x => Sys2Proof.Machine.execKShlk x s
  | .kShrk x => Sys2Proof.Machine.execKShrk x s
  | .kAsrk x => Sys2Proof.Machine.execKAsrk x s
  | .kLdbs x => Sys2Proof.Machine.execKLdbs x s
  | .kLdbz x => Sys2Proof.Machine.execKLdbz x s
  | .kLdhs x => Sys2Proof.Machine.execKLdhs x s
  | .kLdhz x => Sys2Proof.Machine.execKLdhz x s
  | .kLdw x => Sys2Proof.Machine.execKLdw x s
  | .kStb x => Sys2Proof.Machine.execKStb x s
  | .kSth x => Sys2Proof.Machine.execKSth x s
  | .kStw x => Sys2Proof.Machine.execKStw x s
  | .kBreq x => Sys2Proof.Machine.execKBreq x s
  | .kBrne x => Sys2Proof.Machine.execKBrne x s
  | .kBrlt x => Sys2Proof.Machine.execKBrlt x s
  | .kBrge x => Sys2Proof.Machine.execKBrge x s
  | .kBrltu x => Sys2Proof.Machine.execKBrltu x s
  | .kBrgeu x => Sys2Proof.Machine.execKBrgeu x s
  | .kBra x => Sys2Proof.Machine.execKBra x s
  | .kCall x => Sys2Proof.Machine.execKCall x s
  | .kCallr x => Sys2Proof.Machine.execKCallr x s
  | .kLoop x => Sys2Proof.Machine.execKLoop x s
  | .kRpt x => Sys2Proof.Machine.execKRpt x s
  | .kMac x => Sys2Proof.Machine.execKMac x s
  | .kMsu x => Sys2Proof.Machine.execKMsu x s
  | .kMula x => Sys2Proof.Machine.execKMula x s
  | .kMfacc x => Sys2Proof.Machine.execKMfacc x s
  | .kRdacc x => Sys2Proof.Machine.execKRdacc x s
  | .kWracc x => Sys2Proof.Machine.execKWracc x s
  | .kClracc x => Sys2Proof.Machine.execKClracc x s
  | .kMacD x => Sys2Proof.Machine.execKMacD x s
  | .kMsuD x => Sys2Proof.Machine.execKMsuD x s
  | .kMulaD x => Sys2Proof.Machine.execKMulaD x s
  | .kRdcr x => Sys2Proof.Machine.execKRdcr x s
  | .kWrcr x => Sys2Proof.Machine.execKWrcr x s
  | .kTrap x => Sys2Proof.Machine.execKTrap x s
  | .kBrk x => Sys2Proof.Machine.execKBrk x s
  | .kExret x => Sys2Proof.Machine.execKExret x s
  | .kWait x => Sys2Proof.Machine.execKWait x s
  | .coreInterrupt x => Sys2Proof.Machine.execCoreInterrupt x s
  | .coreReset q x value => Sys2Proof.Machine.execCoreReset q x value s
  | .coreRunWrite q x value => Sys2Proof.Machine.execCoreRunWrite q x value s
  | .generatorPulse gen => Sys2Proof.Machine.execGeneratorPulse gen s
  | .evrFire q w value => Sys2Proof.Machine.execEvrFire q w value s
  | .guardWindowEnd ch => Sys2Proof.Machine.execGuardWindowEnd ch s
  | .cellFilterAccept cell => Sys2Proof.Machine.execCellFilterAccept cell s
  | .evlWrite q cell reg value => Sys2Proof.Machine.execEvlWrite q cell reg value s
  | .timerMatch t => Sys2Proof.Machine.execTimerMatch t s
  | .timerWrap t => Sys2Proof.Machine.execTimerWrap t s
  | .gpioInputEdge pin level => Sys2Proof.Machine.execGpioInputEdge pin level s
  | .modeRequest q value => Sys2Proof.Machine.execModeRequest q value s
  | .pwrAsk q value => Sys2Proof.Machine.execPwrAsk q value s
  | .noonToAfternoon => Sys2Proof.Machine.execNoonToAfternoon s
  | .afternoonToEvening => Sys2Proof.Machine.execAfternoonToEvening s
  | .eveningToNight => Sys2Proof.Machine.execEveningToNight s
  | .nightToMidnight => Sys2Proof.Machine.execNightToMidnight s
  | .afternoonToNoon => Sys2Proof.Machine.execAfternoonToNoon s
  | .eveningToNoon => Sys2Proof.Machine.execEveningToNoon s
  | .nightToEvening flipped found => Sys2Proof.Machine.execNightToEvening flipped found s
  | .modeStepEnd clocks => Sys2Proof.Machine.execModeStepEnd clocks s
  | .sealCheckDone => Sys2Proof.Machine.execSealCheckDone s
  | .tachWakeEdge n => Sys2Proof.Machine.execTachWakeEdge n s
  | .pfwAssert => Sys2Proof.Machine.execPfwAssert s
  | .pfwAccept => Sys2Proof.Machine.execPfwAccept s
  | .pfwSlotTimeout => Sys2Proof.Machine.execPfwSlotTimeout s
  | .pfwRelease => Sys2Proof.Machine.execPfwRelease s
  | .pfwClear => Sys2Proof.Machine.execPfwClear s
  | .mainSupplyFail => Sys2Proof.Machine.execMainSupplyFail s
  | .tempConversion sensor value => Sys2Proof.Machine.execTempConversion sensor value s
  | .thermTrip => Sys2Proof.Machine.execThermTrip s
  | .sourceReady src => Sys2Proof.Machine.execSourceReady src s
  | .clkSelWrite q value => Sys2Proof.Machine.execClkSelWrite q value s
  | .clkEnWrite q value => Sys2Proof.Machine.execClkEnWrite q value s
  | .clkPenWrite q w value => Sys2Proof.Machine.execClkPenWrite q w value s
  | .clockFail src => Sys2Proof.Machine.execClockFail src s
  | .clkmonResume q value => Sys2Proof.Machine.execClkmonResume q value s
  | .clkmonRelease q value => Sys2Proof.Machine.execClkmonRelease q value s
  | .clkmonTimeout d => Sys2Proof.Machine.execClkmonTimeout d s
  | .dvfsTargetWrite q cap value => Sys2Proof.Machine.execDvfsTargetWrite q cap value s
  | .dvfsTransition => Sys2Proof.Machine.execDvfsTransition s
  | .dvfsTransitionDone answers alert mv => Sys2Proof.Machine.execDvfsTransitionDone answers alert mv s
  | .pmbStart q value => Sys2Proof.Machine.execPmbStart q value s
  | .pmbDone data nack pecErr => Sys2Proof.Machine.execPmbDone data nack pecErr s
  | .vbkSwitchover onVbat vbatLow => Sys2Proof.Machine.execVbkSwitchover onVbat vbatLow s
  | .vbkDip mv bytes => Sys2Proof.Machine.execVbkDip mv bytes s
  | .oscStopDetect => Sys2Proof.Machine.execOscStopDetect s
  | .secondBoundary vbatLow => Sys2Proof.Machine.execSecondBoundary vbatLow s
  | .alarmFire => Sys2Proof.Machine.execAlarmFire s
  | .bkdSet q value => Sys2Proof.Machine.execBkdSet q value s
  | .tickSetLoad => Sys2Proof.Machine.execTickSetLoad s
  | .calLoad q value => Sys2Proof.Machine.execCalLoad q value s
  | .measStart q value => Sys2Proof.Machine.execMeasStart q value s
  | .bkWrite q w value => Sys2Proof.Machine.execBkWrite q w value s
  | .crcCheck q value => Sys2Proof.Machine.execCrcCheck q value s
  | .crcCheckDone => Sys2Proof.Machine.execCrcCheckDone s
  | .wkupEdge p edge phase => Sys2Proof.Machine.execWkupEdge p edge phase s
  | .detectRetry p answers => Sys2Proof.Machine.execDetectRetry p answers s
  | .linkTrainingDone p trained gen farBad farFresh farExpects farFree => Sys2Proof.Machine.execLinkTrainingDone p trained gen farBad farFresh farExpects farFree s
  | .trainTimeout p => Sys2Proof.Machine.execTrainTimeout p s
  | .pzlRetrain q p value => Sys2Proof.Machine.execPzlRetrain q p value s
  | .pzlIdle q p value => Sys2Proof.Machine.execPzlIdle q p value s
  | .laneErrorWindow p => Sys2Proof.Machine.execLaneErrorWindow p s
  | .packetReceive p lane bytes framed ofs => Sys2Proof.Machine.execPacketReceive p lane bytes framed ofs s
  | .linkRegRd p => Sys2Proof.Machine.execLinkRegRd p s
  | .linkRegWr p => Sys2Proof.Machine.execLinkRegWr p s
  | .linkMemRd p => Sys2Proof.Machine.execLinkMemRd p s
  | .linkMemWr p => Sys2Proof.Machine.execLinkMemWr p s
  | .linkAck p => Sys2Proof.Machine.execLinkAck p s
  | .linkNak p => Sys2Proof.Machine.execLinkNak p s
  | .linkCredit p => Sys2Proof.Machine.execLinkCredit p s
  | .linkWake p => Sys2Proof.Machine.execLinkWake p s
  | .packetSend p second ofs => Sys2Proof.Machine.execPacketSend p second ofs s
  | .mangleHoldExpire u => Sys2Proof.Machine.execMangleHoldExpire u s
  | .mglCtrlWrite q u value => Sys2Proof.Machine.execMglCtrlWrite q u value s
  | .gapTimeout p => Sys2Proof.Machine.execGapTimeout p s
  | .ackTimeout p => Sys2Proof.Machine.execAckTimeout p s
  | .periodicAck p => Sys2Proof.Machine.execPeriodicAck p s
  | .periodicCredit p => Sys2Proof.Machine.execPeriodicCredit p s
  | .linkAct p => Sys2Proof.Machine.execLinkAct p s
  | .linkDawn p => Sys2Proof.Machine.execLinkDawn p s
  | .syncSend => Sys2Proof.Machine.execSyncSend s
  | .linkSync p => Sys2Proof.Machine.execLinkSync p s
  | .linkDreq p => Sys2Proof.Machine.execLinkDreq p s
  | .linkDresp p => Sys2Proof.Machine.execLinkDresp p s
  | .drespTimeout p => Sys2Proof.Machine.execDrespTimeout p s
  | .beaconSet q value => Sys2Proof.Machine.execBeaconSet q value s
  | .beaconInvalidate q value => Sys2Proof.Machine.execBeaconInvalidate q value s
  | .beaconElection => Sys2Proof.Machine.execBeaconElection s
  | .pairEnableWrite q value => Sys2Proof.Machine.execPairEnableWrite q value s
  | .pairHello p => Sys2Proof.Machine.execPairHello p s
  | .pairHeartbeat p => Sys2Proof.Machine.execPairHeartbeat p s
  | .pairCheckpoint p => Sys2Proof.Machine.execPairCheckpoint p s
  | .pairDigest p => Sys2Proof.Machine.execPairDigest p s
  | .pairOutcome p => Sys2Proof.Machine.execPairOutcome p s
  | .pairHandoverMsg p => Sys2Proof.Machine.execPairHandoverMsg p s
  | .basketEntries p => Sys2Proof.Machine.execBasketEntries p s
  | .basketArmMsg p => Sys2Proof.Machine.execBasketArmMsg p s
  | .basketArmed p => Sys2Proof.Machine.execBasketArmed p s
  | .basketCommit p => Sys2Proof.Machine.execBasketCommit p s
  | .basketAborted p => Sys2Proof.Machine.execBasketAborted p s
  | .basketCancelMsg p => Sys2Proof.Machine.execBasketCancelMsg p s
  | .pairHandover q value => Sys2Proof.Machine.execPairHandover q value s
  | .heartbeatSend => Sys2Proof.Machine.execHeartbeatSend s
  | .heartbeatLoss => Sys2Proof.Machine.execHeartbeatLoss s
  | .tokenPulse => Sys2Proof.Machine.execTokenPulse s
  | .tokenEdge => Sys2Proof.Machine.execTokenEdge s
  | .tokenTimeout => Sys2Proof.Machine.execTokenTimeout s
  | .bindTimeout => Sys2Proof.Machine.execBindTimeout s
  | .uartCharacter n start data parity stop => Sys2Proof.Machine.execUartCharacter n start data parity stop s
  | .uartBreak n => Sys2Proof.Machine.execUartBreak n s
  | .uartStuckLow n => Sys2Proof.Machine.execUartStuckLow n s
  | .uartBreakEnd n => Sys2Proof.Machine.execUartBreakEnd n s
  | .uartRxTimeout n => Sys2Proof.Machine.execUartRxTimeout n s
  | .uartRxdataRead q n => Sys2Proof.Machine.execUartRxdataRead q n s
  | .uartRxrRdWrite q n value => Sys2Proof.Machine.execUartRxrRdWrite q n value s
  | .uartTxdata q n value => Sys2Proof.Machine.execUartTxdata q n value s
  | .uartTxStart q n value => Sys2Proof.Machine.execUartTxStart q n value s
  | .uartCharSent n => Sys2Proof.Machine.execUartCharSent n s
  | .uartTxDone n => Sys2Proof.Machine.execUartTxDone n s
  | .uartDeTail n => Sys2Proof.Machine.execUartDeTail n s
  | .uartStartEdgeWake n rested => Sys2Proof.Machine.execUartStartEdgeWake n rested s
  | .dsenPowerOn devid board => Sys2Proof.Machine.execDsenPowerOn devid board s
  | .romCopyDone core failed rom found => Sys2Proof.Machine.execRomCopyDone core failed rom found s
  | .deviceRestart cause => Sys2Proof.Machine.execDeviceRestart cause s
  | .restartWrite q value => Sys2Proof.Machine.execRestartWrite q value s
  | .holdRetry failed found => Sys2Proof.Machine.execHoldRetry failed found s
  | .bootMbox q value => Sys2Proof.Machine.execBootMbox q value s
  | .bootMend q value => Sys2Proof.Machine.execBootMend q value s
  | .measLock q value => Sys2Proof.Machine.execMeasLock q value s
  | .mendFrame p0 => Sys2Proof.Machine.execMendFrame p0 s
  | .mendFrameGap => Sys2Proof.Machine.execMendFrameGap s
  | .helloMend => Sys2Proof.Machine.execHelloMend s
  | .mendErase ok => Sys2Proof.Machine.execMendErase ok s
  | .mendWrite ok => Sys2Proof.Machine.execMendWrite ok s
  | .mendVerify => Sys2Proof.Machine.execMendVerify s
  | .mendSelect ok => Sys2Proof.Machine.execMendSelect ok s
  | .mendLeave => Sys2Proof.Machine.execMendLeave s
  | .cryHash q value => Sys2Proof.Machine.execCryHash q value s
  | .cryVerify q value => Sys2Proof.Machine.execCryVerify q value s
  | .cryMeasure q value => Sys2Proof.Machine.execCryMeasure q value s
  | .cryAttest q value => Sys2Proof.Machine.execCryAttest q value s
  | .cryDone => Sys2Proof.Machine.execCryDone s
  | .fuseKeyHash q value => Sys2Proof.Machine.execFuseKeyHash q value s
  | .fuseRevoke q value => Sys2Proof.Machine.execFuseRevoke q value s
  | .fuseRollback q value => Sys2Proof.Machine.execFuseRollback q value s
  | .fuseSecure q value => Sys2Proof.Machine.execFuseSecure q value s
  | .fuseRma q value => Sys2Proof.Machine.execFuseRma q value s
  | .fuseBurnDone => Sys2Proof.Machine.execFuseBurnDone s
  | .wdKick q d value => Sys2Proof.Machine.execWdKick q d value s
  | .wdExpiry d => Sys2Proof.Machine.execWdExpiry d s
  | .xspiStart q value => Sys2Proof.Machine.execXspiStart q value s
  | .xspiPoll q value => Sys2Proof.Machine.execXspiPoll q value s
  | .xspiPollRead bytes => Sys2Proof.Machine.execXspiPollRead bytes s
  | .xspiPollTimeout => Sys2Proof.Machine.execXspiPollTimeout s
  | .xspiDone bytes changed => Sys2Proof.Machine.execXspiDone bytes changed s
  | .trackerAgeExpire dom k => Sys2Proof.Machine.execTrackerAgeExpire dom k s
  | .darnConfirm q value => Sys2Proof.Machine.execDarnConfirm q value s
  | .darnDecline q value => Sys2Proof.Machine.execDarnDecline q value s
  | .bankCopyDone => Sys2Proof.Machine.execBankCopyDone s
  | .darnPop q value => Sys2Proof.Machine.execDarnPop q value s
  | .darnApply q value => Sys2Proof.Machine.execDarnApply q value s
  | .anaPgFall => Sys2Proof.Machine.execAnaPgFall s
  | .gpioRelease q value => Sys2Proof.Machine.execGpioRelease q value s
  | .rawTick => Sys2Proof.Machine.execRawTick s
  | .routerCycle => Sys2Proof.Machine.execRouterCycle s
  | .coreIllegal x => Sys2Proof.Machine.execCoreIllegal x s
  | .coreFetchError x => Sys2Proof.Machine.execCoreFetchError x s
  | .startBitNoise n => Sys2Proof.Machine.execStartBitNoise n s
  | .stkPgRise => Sys2Proof.Machine.execStkPgRise s
  | .anaPgRise flipped found => Sys2Proof.Machine.execAnaPgRise flipped found s

end Sys2Proof.Machine
end

