-- ==== Sys2Proof/WellFormed.lean ====
section
/-!
DEFINITION. Well-formed commands. Most operands are bounded by their types; what is checked here is the range of the
operands that are plain numbers or lists, from the widths that the spec gives.
-/

namespace Sys2Proof

/-- A distance from the first register page: 256 pages of 4 KiB (R4). -/
def pageAddrOk (a : Nat) : Bool := decide (a < 0x100000)

/-- A 48-bit fabric address (R21). -/
def fabricAddrOk (a : Nat) : Bool := decide (a < 2 ^ 48)

/-- A signed 16-bit code (R97). -/
def codeOk (x : Int) : Bool := decide (-32768 ≤ x ∧ x ≤ 32767)

/-- One epoch's conversions: a code for at most 192 channels, a reference code for at most 8 logical positions, and mid-scale
conversions of positions 0–7, all signed 16-bit codes (R97–R100). -/
def Conversions.wf (x : Conversions) : Bool :=
  decide (x.chan.length ≤ 192) && x.chan.all codeOk && decide (x.refs.length ≤ 8) && x.refs.all codeOk &&
    x.mids.all (fun m => decide (8 ≤ m.1) && decide (m.1 < 65536) && codeOk m.2)

/-- A fit: 16 LIN words (R104, R107). -/
def CalFit.wf (f : CalFit) : Bool := f.lin.length == 16

/-- What a memory holds at power-up lies in the fabric's address space, and check bits belong to 64-bit words. -/
def Contents.wf (c : Contents) : Bool :=
  c.cells.all (fun x => fabricAddrOk x.1) && c.ecc.all (fun x => fabricAddrOk x.1 && decide (x.1 % 8 = 0))

/-- A transaction reads at most 256 bytes, and a data byte that is not acknowledged is one of at most 257 (R91, R92). -/
def IdbOutcome.wf : IdbOutcome → Bool
  | .done bytes => decide (bytes.length ≤ 256)
  | .nackAddr => true
  | .nackData i => decide (i < 512)
  | .arbLost => true
  | .stuck => true

/-- A flash transfer of one operation: XSPI_LEN has 24 bits (R437). -/
def flashBytesOk (n : Nat) : Bool := decide (n < 2 ^ 24)

/-- A burst on a link: a 16-byte header, at most 255 units of 8 bytes and a 4-byte trailer (R359). -/
def packetBytesOk (n : Nat) : Bool := decide (n ≤ 2060)

/-- Operands that are numbers or lists lie in the ranges of the spec. -/
def Instr.wf : Instr → Bool
  | .registerWrite _ _ a _ => pageAddrOk a
  | .readClear _ a => pageAddrOk a
  | .debugAccess scan _ a _ => fabricAddrOk a && decide (scan.cells.length ≤ 140)
  | .freezeGroupRead _ a => pageAddrOk a
  | .freezeGroupRelease _ a => pageAddrOk a
  | .freezeStaleTimeout _ a => pageAddrOk a
  | .epochEdge x _ => x.wf
  | .calRunDone _ f => f.wf
  | .idbDone _ o => o.wf
  | .packetReceive _ _ bytes _ _ => packetBytesOk bytes.length
  | .xspiPollRead bytes => flashBytesOk bytes.length
  | .xspiDone bytes changed => flashBytesOk bytes.length && changed.all (fun x => decide (x.1 < 2 ^ 32))
  | .nightToEvening _ found => found.wf
  | .anaPgRise _ found => found.wf
  | .romCopyDone _ _ rom found => rom.wf && found.wf
  | .holdRetry _ found => found.wf
  | _ => true

end Sys2Proof
end

