-- ==== Sys2Proof/Safety.lean ====
section
/-!
DEFINITION. The terms that claims use: the canonical form of the register file and of the memories, when the fabric performs
an access and a page takes a write, the response of the decimation chain, and what one state may differ in from another.
-/

namespace Sys2Proof.Machine

/-! ### Canonical form -/

/-- Addresses strictly rising. -/
def risingFrom {α : Type} : Nat → List (Nat × α) → Bool
  | _, [] => true
  | n, (k, _) :: rest => decide (n ≤ k) && risingFrom (k + 1) rest

/-- The canonical form of the register file: addresses strictly rising, each that of a register, and no entry equal to the
register's reset value. -/
def Regs.wf (l : List (Nat × Word)) : Bool :=
  risingFrom 0 l &&
    l.all (fun kv => match regAt kv.1 with
      | some (r, n) => kv.2 != r.reset n
      | none => false)

/-- Register file, memory and flash have their canonical form. -/
def State.wf (s : State) : Bool := Regs.wf s.regs && Memory.wf s.mem && Memory.wf s.flash

/-! ### The response of the decimation chain -/

/-- `g` is the gain of the chain for decimation by 2^k at `x` radians per epoch. -/
def ChainGain (k : Nat) (x g : ℝ) : Prop :=
  let gain (taps : Nat → Int) (c : Nat) (x : ℝ) : ℝ :=
    ((taps 0 : ℝ) + 2 * ((List.range c).map (fun d => (taps (d + 1) : ℝ) * Real.cos ((d + 1 : ℝ) * x))).sum) / (tapUnit : ℝ)
  g = ((List.range (k - 1)).map (fun i => gain halfTaps 9 (2 ^ i * x))).prod * gain lastTaps 47 (2 ^ (k - 1) * x)

/-- The free taps give the passband of R122: the gain lies within 0.005 dB of 1 from 0 to 0.40 of the output rate. A claim about the
response assumes it (log entry 20); gain at DC, phase and delay hold of every choice of the taps. -/
def ChainPassbandMeets : Prop :=
  ∀ (k : Nat) (x g : ℝ), 1 ≤ k → k ≤ 10 → 0 ≤ x → x ≤ 0.8 * Real.pi / 2 ^ k → ChainGain k x g →
    (10 : ℝ) ^ (-0.005 / 20 : ℝ) ≤ g ∧ g ≤ (10 : ℝ) ^ (0.005 / 20 : ℝ)

/-- The free taps give the stopband of R122: at least 120 dB from half the output rate to half the epoch rate. -/
def ChainStopbandMeets : Prop :=
  ∀ (k : Nat) (x g : ℝ), 1 ≤ k → k ≤ 10 → Real.pi / 2 ^ k ≤ x → x ≤ Real.pi → ChainGain k x g → |g| ≤ (10 : ℝ) ^ (-120 / 20 : ℝ)

/-! ### Accesses -/

/-- The page of register `n` of array `r`. -/
def Reg.page (r : Reg) (n : Nat) : Nat := r.addr n / 0x1000

/-- The fabric performs an access of `q` to page `p` at its arrival: the requester is live and nothing holds the access
(R17, R483). -/
def State.reaches (s : State) (q : Requester) (p : Nat) : Bool :=
  s.canIssue q && !s.pageHeld p && !(s.held.any (fun h => h.q == q && h.addr / 0x1000 == p))

/-- The fabric performs an access of `q` to page `p` now, and the page answers it: the requester and the page are live, nothing
holds the access, and it passes the owner check (R6, R7, R14, R17, R483). -/
def State.performs (s : State) (q : Requester) (p : Nat) : Bool :=
  s.canIssue q && !s.fabHolds q p && s.pageLive p && s.ownerPass (s.who q) p

/-- The page takes the word write of `v` by `q` to register `n` of array `r`: it is performed, `q` has every right that the
register asks for, the word holds no reserved encoding, and no rule of the block turns it away (R3, R7). -/
def State.admits (s : State) (q : Requester) (r : Reg) (n : Nat) (v : Word) : Bool :=
  s.performs q (r.page n) && s.mayWrite (s.who q) r n v && (s.calClosed r n).isNone && !wordReserved r n v &&
    !s.nowReserved r n v && (s.directFails r n v).isNone && (s.turnedAway r v).isNone

/-- `s` after the page has taken a word write whose effect leaves `t`: a pending soft seam may have become due (R58, R59), and
the requester has its answer. -/
def State.taken (s t : State) : State := { t.softReady s with answer := .ok 0 }

/-- The write of `v` stands in register `n` of array `r`, with what its access codes leave; a staged setting waits for its
epoch edge (R2, R8, R236). -/
def State.landed (s : State) (r : Reg) (n : Nat) (v : Word) : State :=
  ((s.setReg r n (s.stored r n v)).noteStaged s r n).stChanged s r n

/-! ### Frames -/

/-- The parts of the state beside the register file. -/
inductive Part where
  | pending | now | mem | ecc | held | freeze | softReset | draws | answer | router | basket | power | seams
  | tach | engines | epoch | modules | beacon | idb | darn | adc | chains | lines | wel | bkd | links
  | uarts | cores | clocks | temps | fuses | crypto | xspi | flash | wdts | mend | boot | late
  | checks | timers
deriving DecidableEq, Repr

/-- Part `p` is the same in two states. -/
def State.samePart (s t : State) : Part → Prop
  | .pending => t.pending = s.pending
  | .now => t.now = s.now
  | .mem => t.mem = s.mem
  | .ecc => t.ecc = s.ecc
  | .held => t.held = s.held
  | .freeze => t.freeze = s.freeze
  | .softReset => t.softReset = s.softReset
  | .draws => t.draws = s.draws
  | .answer => t.answer = s.answer
  | .router => t.router = s.router
  | .basket => t.basket = s.basket
  | .power => t.power = s.power
  | .seams => t.seams = s.seams
  | .tach => t.tach = s.tach
  | .engines => t.engines = s.engines
  | .epoch => t.epoch = s.epoch
  | .modules => t.modules = s.modules
  | .beacon => t.beacon = s.beacon
  | .idb => t.idb = s.idb
  | .darn => t.darn = s.darn
  | .adc => t.adc = s.adc
  | .chains => t.chains = s.chains
  | .lines => t.lines = s.lines
  | .wel => t.wel = s.wel
  | .bkd => t.bkd = s.bkd
  | .links => t.links = s.links
  | .uarts => t.uarts = s.uarts
  | .cores => t.cores = s.cores
  | .clocks => t.clocks = s.clocks
  | .temps => t.temps = s.temps
  | .fuses => t.fuses = s.fuses
  | .crypto => t.crypto = s.crypto
  | .xspi => t.xspi = s.xspi
  | .flash => t.flash = s.flash
  | .wdts => t.wdts = s.wdts
  | .mend => t.mend = s.mend
  | .boot => t.boot = s.boot
  | .late => t.late = s.late
  | .checks => t.checks = s.checks
  | .timers => t.timers = s.timers

/-- Every part outside the list is the same. -/
def State.samePartsBut (s t : State) (L : List Part) : Prop := ∀ p : Part, p ∉ L → s.samePart t p

/-- Every register of `t` outside the list holds what it holds in `s`. -/
def State.sameRegsBut (s t : State) (L : List (Reg × Nat)) : Prop :=
  ∀ (r : Reg) (n : Nat), r.ok n = true → (r, n) ∉ L → t.reg r n = s.reg r n

/-- Every register outside the arrays of the list holds what it holds in `s`. -/
def State.sameArraysBut (s t : State) (L : List Reg) : Prop :=
  ∀ (r : Reg) (n : Nat), r.ok n = true → r ∉ L → t.reg r n = s.reg r n

/-- `t` is `s` with error bit `b` of PAGE_STATUS of page `p` set (0 ERR_RSVD, 1 ERR_ADDR, 2 ERR_OWNER), with its interrupt,
and nothing else but the router's input and the answer: no other error bit of the page, no register of the page but
PAGE_STATUS and PAGE_IRQ, and of the router only EVR_STATUS and its PAGE_IRQ, which a page tap may set. -/
def State.onlyFlags (s t : State) (p b : Nat) : Prop :=
  bits (t.reg .PAGE_STATUS p) b 1 = 1 ∧
  (∀ c, c < 32 → c ≠ b → bits (t.reg .PAGE_STATUS p) c 1 = bits (s.reg .PAGE_STATUS p) c 1) ∧
  s.sameRegsBut t [(.PAGE_STATUS, p), (.PAGE_IRQ, p), (.PAGE_IRQ, 0x08), (.EVR_STATUS, 0)] ∧
  s.samePartsBut t [.router, .answer]

end Sys2Proof.Machine
end

