-- ==== Sys2Proof/Certificates/Slice0/Obligations.lean ====
section
/-!
DEFINITION. The statements about the block: what its commands do, by the rules of the spec, what they leave, and what every
step keeps.
-/

open Sys2Proof Sys2Proof.Machine

/-- A step carries out the command at the front of the queue. For every command and state, a step of the state with
the command put at the front of its queue is the command carried out with the queue's rest. (The queue is the model's
own, log entry 1.) -/
def Obligations.StepRunsFront : Prop :=
  ∀ (c : Instr) (s : State), step { s with pending := c :: s.pending } = exec c s

/-- The block idles on an empty queue. A step of a state whose queue is empty answers the same state. This is the
model's choice, log entry 1: every effect of time has a row of its own. -/
def Obligations.EmptyQueueIdles : Prop :=
  ∀ s : State, s.pending = [] → step s = .next s

/-- The state after reset has the canonical forms and an empty queue. Register file, memory and flash of State.reset
are in canonical form, and no command waits: the invariant of StepKeepsForm holds at reset. -/
def Obligations.ResetCanonical : Prop :=
  State.reset.wf = true ∧ State.reset.pending = []

/-- PAGE_CTRL.EN after reset. After reset PAGE_CTRL.EN is 1 on SYS, PWR, WAKE, CLK, CLKMON, BKD, RETN, PMB, FUSE, BOOT
and CORE_S and 0 on every other page. A page whose EN is 0 still has its registers: EN is not part of what makes a
page live. -/
def Obligations.ResetHeads : Prop :=
  (∀ p : Nat, p < 256 → (pageInfo p).isSome = true →
    State.reset.flag F.PAGE_CTRL_EN p =
      [0x00, 0x01, 0x02, 0x03, 0x04, 0x06, 0x07, 0x64, 0x69, 0x6A, 0x74].contains p) ∧
  ∀ (s : State) (p q : Nat) (b : Bool), (s.fsetB F.PAGE_CTRL_EN p b).pageLive q = s.pageLive q

/-- Every step keeps the canonical forms. If register file, memory and flash are in canonical form before a step, they
are after it: every register entry is that of a register that exists and differs from its reset value, addresses rise,
and no memory entry equals what an unlisted byte reads as. -/
def Obligations.StepKeepsForm : Prop :=
  ∀ s t : State, s.wf = true → step s = .next t → t.wf = true

/-- Every step completes and takes the front command, if there is one, off the queue. For every state a step answers a
next state, whose queue is the queue without its front, and empty if it was empty: no command faults, is refused, adds
a command or removes another. That no command faults or is refused is the model's choice, log entry 7, and so is that
the block idles on an empty queue, log entry 1. -/
def Obligations.StepTakesOne : Prop :=
  ∀ s : State, ∃ t : State, step s = .next t ∧ t.pending = s.pending.tail

/-- A write to an unmapped page is a bus error. A write to a page that is not mapped answers a bus error with cause
UNMAPPED (1); the SYS page logs it, and no page's PAGE_STATUS changes, nor any register beside the log, PAGE_IRQ of
SYS and what a page tap sets in the router. -/
def Obligations.UnmappedPage : Prop :=
  ∀ (s : State) (q : Requester) (sz : AccessSize) (a : Nat) (v : Word),
    s.wf = true → s.reaches q (a / 0x1000) = true → pageInfo (a / 0x1000) = none →
    ∃ t, exec (.registerWrite q sz a v) s = .next t ∧ t.answer = .err 1 ∧
      s.samePartsBut t [.router, .answer] ∧
      s.sameRegsBut t [(.FAB_ERR_ADDR_LO, 0), (.FAB_ERR_ADDR_HI, 0), (.FAB_ERR_INFO, 0), (.PAGE_IRQ, 0x00),
        (.PAGE_IRQ, 0x08), (.EVR_STATUS, 0)] ∧
      (s.flag F.FAB_ERR_INFO_VALID = false →
        t.flag F.FAB_ERR_INFO_VALID = true ∧ t.fget F.FAB_ERR_INFO_CAUSE = 1 ∧ t.flag F.FAB_ERR_INFO_WRITE = true) ∧
      (s.flag F.FAB_ERR_INFO_VALID = true → t.flag F.FAB_ERR_INFO_OVF = true ∧
        t.fget F.FAB_ERR_INFO_CAUSE = s.fget F.FAB_ERR_INFO_CAUSE)

/-- A write that is not an aligned word is a bus error. A write to a mapped page that is not an aligned 32-bit write
answers a bus error with cause ACCESS_SIZE (7), is logged in SYS, and changes no register beside the log, PAGE_IRQ of
SYS and what a page tap sets in the router. -/
def Obligations.AccessSizeError : Prop :=
  ∀ (s : State) (q : Requester) (sz : AccessSize) (a : Nat) (v : Word),
    s.wf = true → s.reaches q (a / 0x1000) = true → (pageInfo (a / 0x1000)).isSome = true → (sz ≠ .b4 ∨ a % 4 ≠ 0) →
    ∃ t, exec (.registerWrite q sz a v) s = .next t ∧ t.answer = .err 7 ∧
      s.samePartsBut t [.router, .answer] ∧
      s.sameRegsBut t [(.FAB_ERR_ADDR_LO, 0), (.FAB_ERR_ADDR_HI, 0), (.FAB_ERR_INFO, 0), (.PAGE_IRQ, 0x00),
        (.PAGE_IRQ, 0x08), (.EVR_STATUS, 0)] ∧
      (s.flag F.FAB_ERR_INFO_VALID = false →
        t.flag F.FAB_ERR_INFO_VALID = true ∧ t.fget F.FAB_ERR_INFO_CAUSE = 7)

/-- A page that is gated or off reads zero and ignores writes. An aligned word access to a mapped page whose clock is
gated or whose domain is off changes nothing: a read answers 0 and a write is ignored, and no flag is set anywhere. -/
def Obligations.GatedPage : Prop :=
  ∀ (s : State) (q : Requester) (a : Nat) (v : Word),
    s.reaches q (a / 0x1000) = true → (pageInfo (a / 0x1000)).isSome = true → s.pageLive (a / 0x1000) = false →
    a % 4 = 0 →
    exec (.registerWrite q .b4 a v) s = .next { s with answer := .ok 0 } ∧
    exec (.readClear q a) s = .next { s with answer := .ok 0 }

/-- An offset that holds no register reads zero, ignores writes and sets ERR_ADDR. An aligned word access to an offset
of a live page that holds no register sets ERR_ADDR of the page and changes no register; a read answers 0. -/
def Obligations.UnmappedOffset : Prop :=
  ∀ (s : State) (q : Requester) (a : Nat) (v : Word),
    s.wf = true → s.reaches q (a / 0x1000) = true → s.pageLive (a / 0x1000) = true → a % 4 = 0 → regAt a = none →
    (∃ t, exec (.registerWrite q .b4 a v) s = .next t ∧ t.answer = .ok 0 ∧ s.onlyFlags t (a / 0x1000) 1) ∧
    (∃ t, exec (.readClear q a) s = .next t ∧ t.answer = .ok 0 ∧ s.onlyFlags t (a / 0x1000) 1)

/-- An access that fails the owner check is discarded and sets ERR_OWNER. A requester that is not the core S (R14),
nor a debug access outside the secure lifecycle, which counts as S (R15), passes when OWNER is its identifier or 7 and
SEC is 0 or the access is secure. A write that fails is discarded, a read that fails answers 0, and either sets
ERR_OWNER of the page and no other error flag. S passes on every page. -/
def Obligations.OwnerCheck : Prop :=
  (∀ (s : State) (p : Nat), s.ownerPass (s.who (.core 0)) p = true) ∧
  (∀ (s : State), ∃ w : Who, s.who .debug = w ∧ (s.fuses.life ≠ 1 → w.isS = true ∧ w.secure = true) ∧
    (s.fuses.life = 1 → w.isS = false ∧ w.secure = false ∧ w.id = 0)) ∧
  (∀ (s : State) (q : Requester) (p : Nat), (s.who q).isS = false →
    (s.ownerPass (s.who q) p = true ↔
      (s.fget F.PAGE_OWNER_OWNER p = (s.who q).id ∨ s.fget F.PAGE_OWNER_OWNER p = 7) ∧
      (s.flag F.PAGE_OWNER_SEC p = false ∨ (s.who q).secure = true))) ∧
  ∀ (s : State) (q : Requester) (r : Reg) (n : Nat) (v : Word), s.wf = true → r.ok n = true →
    s.reaches q (r.page n) = true → s.pageLive (r.page n) = true → s.ownerPass (s.who q) (r.page n) = false →
    (∃ t, exec (.registerWrite q .b4 (r.addr n) v) s = .next t ∧ t.answer = .ok 0 ∧ s.onlyFlags t (r.page n) 2) ∧
    (∃ t, exec (.readClear q (r.addr n)) s = .next t ∧ t.answer = .ok 0 ∧ s.onlyFlags t (r.page n) 2)

/-- A write that carries a reserved encoding is discarded and sets ERR_RSVD. A word write that the page performs, that
its further rights allow and that carries a reserved encoding in a field (and is not turned away by the
correction-table rule R104 first) changes no register and sets ERR_RSVD of the page and no other error flag. -/
def Obligations.ReservedEncoding : Prop :=
  ∀ (s : State) (q : Requester) (r : Reg) (n : Nat) (v : Word), s.wf = true → r.ok n = true →
    s.performs q (r.page n) = true → s.mayWrite (s.who q) r n v = true → s.calClosed r n = none →
    (wordReserved r n v = true ∨ s.nowReserved r n v = true) →
    ∃ t, exec (.registerWrite q .b4 (r.addr n) v) s = .next t ∧ t.answer = .ok 0 ∧ s.onlyFlags t (r.page n) 0

/-- An access to a page that the fabric holds is decided only at its release. A read or write of a page that is in a
soft reset, a press window, a loop check of its cells or a check or write of its backup words waits at the end of the
held accesses and changes nothing else, whatever the page, its owner and the value are. Accesses of the same requester
to the same page wait behind it (R29). Its release performs the oldest held access whose page is free, with the
attribute that it carries, against the state at the release; a debug access keeps the rights it came with. That the
oldest goes first and carries its secure attribute is the model's choice, log entry 124. -/
def Obligations.AccessHeld : Prop :=
  (∀ (s : State) (q : Requester) (sz : AccessSize) (a : Nat) (v : Word), s.canIssue q = true →
    (s.pageHeld (a / 0x1000) = true ∨ s.held.any (fun h => h.q == q && h.addr / 0x1000 == a / 0x1000) = true) →
    exec (.registerWrite q sz a v) s =
      .next { s with held := s.held ++ [⟨q, (s.who q).secure, true, sz, a, v, logAddr q a⟩], answer := .none } ∧
    exec (.readClear q a) s =
      .next { s with held := s.held ++ [⟨q, (s.who q).secure, false, .b4, a, 0, logAddr q a⟩], answer := .none }) ∧
  ∀ (s : State) (h : HeldAccess) (rest : List HeldAccess),
    takeFirst (fun (h : HeldAccess) => !s.pageHeld (h.addr / 0x1000)) s.held = some (h, rest) →
    exec .heldAccessRelease s =
      .next ({ s with held := rest }.perform
        { s.who h.q with secure := h.secure, isS := if h.q = Requester.debug then h.secure else (s.who h.q).isS } h.write h.size.bytes
        h.addr h.log h.value)

/-- What a write leaves in each field by its access code. A word write leaves in an RW or ST field what it carries,
leaves an RO, WO or RC field, sets the bits of a W1S field where it carries 1, clears the bits of a W1C field where it
carries 1, and leaves every bit that lies in no field. -/
def Obligations.FieldAccess : Prop :=
  ∀ (r : Reg) (old v : Word),
    (∀ f ∈ r.fields, ∀ i, f.lo ≤ i → i < f.lo + f.width →
      (mergeWord r old v).getLsbD i =
        match f.acc with
        | .rw => v.getLsbD i
        | .st => v.getLsbD i
        | .w1s => old.getLsbD i || v.getLsbD i
        | .w1c => old.getLsbD i && !v.getLsbD i
        | _ => old.getLsbD i) ∧
    (∀ i, (∀ f ∈ r.fields, ¬(f.lo ≤ i ∧ i < f.lo + f.width)) → (mergeWord r old v).getLsbD i = old.getLsbD i)

/-- A read clears RC fields, except a read through the debug port. A read of a register with RC fields answers the
word that it shows; afterwards the RC fields hold 0, and every other bit of the register is as before. A read through
the debug port clears nothing. (A member of a freeze group is read through its capture, R237.) -/
def Obligations.ReadClears : Prop :=
  ∀ (s : State) (q : Requester) (r : Reg) (n : Nat), s.wf = true → r.ok n = true → r.rcMask ≠ 0#32 →
    s.performs q (r.page n) = true → s.freezeGroup r n = none →
    ∃ t, exec (.readClear q (r.addr n)) s = .next t ∧ t.answer = .ok (s.regWord r n).toNat ∧
      t.reg r n = (if (s.who q).cap = 7 then s.reg r n else s.reg r n &&& ~~~r.rcMask) ∧
      s.sameRegsBut t [(r, n)]

/-- Who may write PAGE_OWNER. A word write to PAGE_OWNER of a page by a requester that passes its owner check leaves
OWNER and SEC as written when LOCK is 0 and the write is secure or comes from S; LOCK becomes 1 when it is written as
1. While LOCK is 1, or when the write is neither secure nor from S, it is discarded and sets ERR_OWNER, also when it
comes from S. -/
def Obligations.PageOwnerWrite : Prop :=
  ∀ (s : State) (q : Requester) (p : Fin 256) (v : Word), s.wf = true → (pageInfo p.val).isSome = true →
    s.performs q p.val = true →
    (s.flag F.PAGE_OWNER_LOCK p.val = false → ((s.who q).isS = true ∨ (s.who q).secure = true) →
      ∃ t, exec (.pageOwnerWrite q p v) s = .next t ∧ t.answer = .ok 0 ∧
        t.fget F.PAGE_OWNER_OWNER p.val = bits v 0 3 ∧ t.fget F.PAGE_OWNER_SEC p.val = bits v 3 1 ∧
        t.fget F.PAGE_OWNER_LOCK p.val = bits v 4 1) ∧
    ((s.flag F.PAGE_OWNER_LOCK p.val = true ∨ ((s.who q).isS = false ∧ (s.who q).secure = false)) →
      ∃ t, exec (.pageOwnerWrite q p v) s = .next t ∧ t.answer = .ok 0 ∧ s.onlyFlags t p.val 2)

/-- The ALU register group and the multiply group. When core x issues a word of the ALU register group or of the
multiply group whose reserved field is zero, the next state is that of the fetch with the core having completed the
one write of rd that the entry gives, at the entry's distance (1, and 2 for the multiply group). Nothing else changes
and no exception is raised. -/
def Obligations.KAlu : Prop :=
  ∀ (s u : State) (x : Fin 5) (w : Word), s.coreIssues x.val = true → s.fetch x.val = (u, .ok w) → bits w 0 5 = 0 →
    let c := u.core x.val
    let a := c.gr (kRa w)
    let b := c.gr (kRb w)
    let rd (d : Nat) (v : Word) : Host.Outcome State Fault Refusal :=
      .next (u.setCore x.val (c.finish [(.g (kRd w), v, d)] none .seq))
    let clamp (v : Int) : Word := BitVec.ofInt 32 (max (-2 ^ 31) (min (2 ^ 31 - 1) v))
    (kMajor w = 0x01 →
      (kFn w = 0x00 → exec (.kAdd x) s = rd 1 (a + b)) ∧
      (kFn w = 0x01 → exec (.kSub x) s = rd 1 (a - b)) ∧
      (kFn w = 0x02 → exec (.kAnd x) s = rd 1 (a &&& b)) ∧
      (kFn w = 0x03 → exec (.kOr x) s = rd 1 (a ||| b)) ∧
      (kFn w = 0x04 → exec (.kXor x) s = rd 1 (a ^^^ b)) ∧
      (kFn w = 0x05 → exec (.kAndn x) s = rd 1 (a &&& ~~~b)) ∧
      (kFn w = 0x06 → exec (.kClt x) s = rd 1 (if a.toInt < b.toInt then 1 else 0)) ∧
      (kFn w = 0x07 → exec (.kCltu x) s = rd 1 (if a.toNat < b.toNat then 1 else 0)) ∧
      (kFn w = 0x08 → exec (.kShl x) s = rd 1 (a <<< bits b 0 5)) ∧
      (kFn w = 0x09 → exec (.kShr x) s = rd 1 (a >>> bits b 0 5)) ∧
      (kFn w = 0x0A → exec (.kAsr x) s = rd 1 (a.sshiftRight (bits b 0 5))) ∧
      (kFn w = 0x0C → exec (.kMin x) s = rd 1 (BitVec.ofInt 32 (min a.toInt b.toInt))) ∧
      (kFn w = 0x0D → exec (.kMax x) s = rd 1 (BitVec.ofInt 32 (max a.toInt b.toInt))) ∧
      (kFn w = 0x0E → exec (.kMinu x) s = rd 1 (BitVec.ofNat 32 (min a.toNat b.toNat))) ∧
      (kFn w = 0x0F → exec (.kMaxu x) s = rd 1 (BitVec.ofNat 32 (max a.toNat b.toNat))) ∧
      (kFn w = 0x10 → exec (.kAdds x) s = rd 1 (clamp (a.toInt + b.toInt))) ∧
      (kFn w = 0x11 → exec (.kSubs x) s = rd 1 (clamp (a.toInt - b.toInt)))) ∧
    (kMajor w = 0x02 →
      (kFn w = 0x00 → exec (.kMul x) s = rd 2 (BitVec.ofNat 32 (a.toNat * b.toNat))) ∧
      (kFn w = 0x01 → exec (.kMulx x) s = rd 2 (BitVec.ofInt 32 (a.toInt * b.toInt / 2 ^ 32))) ∧
      (kFn w = 0x02 → exec (.kMulxu x) s = rd 2 (BitVec.ofNat 32 (a.toNat * b.toNat / 2 ^ 32))))

/-- The immediate group. When core x issues a word of the immediate group, rd takes at distance 1 what the entry
gives, and nothing else changes but the core's step. A movh whose ra is not g0 and a shift whose imm[15:7] is not zero
raise Illegal Instruction, DETAIL 1, and so does a shift of type 3. -/
def Obligations.KImmediate : Prop :=
  ∀ (s u : State) (x : Fin 5) (w : Word), s.coreIssues x.val = true → s.fetch x.val = (u, .ok w) →
    let c := u.core x.val
    let a := c.gr (kRa w)
    let imm := w.extractLsb' 0 16
    let rd (v : Word) : Host.Outcome State Fault Refusal :=
      .next (u.setCore x.val (c.finish [(.g (kRd w), v, 1)] none .seq))
    let illegal : Host.Outcome State Fault Refusal := .next (u.setCore x.val (c.enter 1 1 0))
    (kMajor w = 0x07 → exec (.kMovl x) s = rd (a.extractLsb' 16 16 ++ imm)) ∧
    (kMajor w = 0x08 → exec (.kAddk x) s = rd (a + imm.signExtend 32)) ∧
    (kMajor w = 0x09 → exec (.kAndk x) s = rd (a &&& imm.zeroExtend 32)) ∧
    (kMajor w = 0x0A → exec (.kOrk x) s = rd (a ||| imm.zeroExtend 32)) ∧
    (kMajor w = 0x0B → exec (.kXork x) s = rd (a ^^^ imm.zeroExtend 32)) ∧
    (kMajor w = 0x0C → exec (.kMovh x) s = if kRa w = 0 then rd (imm ++ 0#16) else illegal) ∧
    (kMajor w = 0x0D → exec (.kCltk x) s = rd (if a.toInt < imm.toInt then 1 else 0)) ∧
    (kMajor w = 0x0E → exec (.kCltku x) s = rd (if a.toNat < (imm.signExtend 32).toNat then 1 else 0)) ∧
    (kMajor w = 0x0F →
      (bits w 5 2 = 0 → exec (.kShlk x) s = if bits w 7 9 = 0 then rd (a <<< bits w 0 5) else illegal) ∧
      (bits w 5 2 = 1 → exec (.kShrk x) s = if bits w 7 9 = 0 then rd (a >>> bits w 0 5) else illegal) ∧
      (bits w 5 2 = 2 → exec (.kAsrk x) s = if bits w 7 9 = 0 then rd (a.sshiftRight (bits w 0 5)) else illegal) ∧
      (bits w 5 2 = 3 → exec (.coreIllegal x) s = illegal))

/-- The loads of the memory group. A load at an address aligned to its size whose access answers v (u.coreLoad, the
state after the access being t) writes rd with the extended value at distance 3 and, in modes 1 and 2, ra + sext(ofs)
at distance 1; memory is as it was. A misaligned load raises Misaligned, and one whose access fails with an exception
raises that exception, with neither access nor update. A load from the core's own private memory, of bytes whose check
bits show no error, answers the little-endian value there and changes nothing. -/
def Obligations.KLoads : Prop :=
  ∀ (s u : State) (x : Fin 5) (w : Word), s.coreIssues x.val = true → s.fetch x.val = (u, .ok w) → bits w 14 2 ≠ 3 →
    let c := u.core x.val
    let o : Word := (w.extractLsb' 0 14).signExtend 32
    let b := c.gr (kRa w)
    let a := (if bits w 14 2 = 2 then b + o else b).toNat
    let up : List KWrite := if bits w 14 2 = 0 then [] else [(.g (kRa w), b + o, 1)]
    let load (n : Nat) (ext : Nat → Word) (i : Instr) : Prop :=
      (a % n = 0 → ∀ (t : State) (v : Nat), u.coreLoad x.val a n = (t, .ok v) →
        exec i s = .next (t.setCore x.val (c.finish (up ++ [(.g (kRd w), ext v, 3)]) none .seq)) ∧ t.mem = s.mem) ∧
      (a % n = 0 → ∀ (t : State) (code : Nat), u.coreLoad x.val a n = (t, .raise code) →
        exec i s = .next (t.setCore x.val ((t.core x.val).enter code 0 0))) ∧
      (a % n ≠ 0 → exec i s = .next (u.setCore x.val (c.enter 3 0 0)))
    (kMajor w = 0x10 → load 1 (fun v => (BitVec.ofNat 8 v).signExtend 32) (.kLdbs x)) ∧
    (kMajor w = 0x11 → load 1 (fun v => BitVec.ofNat 32 v) (.kLdbz x)) ∧
    (kMajor w = 0x12 → load 2 (fun v => (BitVec.ofNat 16 v).signExtend 32) (.kLdhs x)) ∧
    (kMajor w = 0x13 → load 2 (fun v => BitVec.ofNat 32 v) (.kLdhz x)) ∧
    (kMajor w = 0x14 → load 4 (fun v => BitVec.ofNat 32 v) (.kLdw x)) ∧
    ∀ n, privMapped x.val a = true →
      (∀ e ∈ u.ecc, e.1 + 8 ≤ privBase x.val + a ∨ privBase x.val + a + n ≤ e.1) →
      u.coreLoad x.val a n = (u, .ok (u.memVal (privBase x.val + a) n))

/-- The stores of the memory group. A store at an aligned address of the core's own private memory writes the low
bytes of rs there, lowest first, leaves every other byte of memory, updates ra in modes 1 and 2 at distance 1, and
raises nothing. Elsewhere the next state is what the access (coreStore) leaves when it is answered, and the exception
that it names when it fails. A misaligned store raises Misaligned, with neither access nor update. -/
def Obligations.KStores : Prop :=
  ∀ (s u : State) (x : Fin 5) (w : Word), s.wf = true → s.coreIssues x.val = true → s.fetch x.val = (u, .ok w) →
    bits w 14 2 ≠ 3 →
    let c := u.core x.val
    let o : Word := (w.extractLsb' 0 14).signExtend 32
    let b := c.gr (kRa w)
    let a := (if bits w 14 2 = 2 then b + o else b).toNat
    let up : List KWrite := if bits w 14 2 = 0 then [] else [(.g (kRa w), b + o, 1)]
    let rs := c.gr (kRd w)
    let done := u.setCore x.val (c.finish up none .seq)
    let store (n : Nat) (i : Instr) : Prop :=
      (a % n = 0 → privMapped x.val a = true →
        ∃ t, exec i s = .next t ∧ t.cores = done.cores ∧
          (∀ k, k < n → t.byte (privBase x.val + a + k) = rs.extractLsb' (8 * k) 8) ∧
          (∀ m, m < privBase x.val + a ∨ privBase x.val + a + n ≤ m → t.byte m = s.byte m) ∧
          u.samePartsBut t [.mem, .ecc, .cores] ∧ t.regs = u.regs) ∧
      (a % n = 0 → ∀ (t : State) (v : Nat), u.coreStore done x.val a n rs = (t, .ok v) → exec i s = .next t) ∧
      (a % n = 0 → ∀ (t : State) (code : Nat), u.coreStore done x.val a n rs = (t, .raise code) →
        exec i s = .next ((t.setCore x.val c).kRaise x.val code 0 0)) ∧
      (a % n ≠ 0 → exec i s = .next (u.setCore x.val (c.enter 3 0 0)))
    (kMajor w = 0x18 → store 1 (.kStb x)) ∧ (kMajor w = 0x19 → store 2 (.kSth x)) ∧ (kMajor w = 0x1A → store 4 (.kStw x))

/-- Branches, loop and rpt. Outside a delay slot and not at the end of an active loop: a compare branch is followed by
its delay slot and goes to A + 4 times sext(disp) when its condition holds and on after the slot otherwise; bra, call
and callr always go to their target, and call writes g30, callr writes rd, with A + 8 at distance 1. A loop
instruction with a count sets the loop mechanism at once and rdcr sees it at distance 4; with count 0 it skips the
body. An rpt latches its count, and a register count above 4,096 raises Illegal Instruction, DETAIL 5. -/
def Obligations.KControlFlow : Prop :=
  ∀ (s u : State) (x : Fin 5) (w : Word), s.coreIssues x.val = true → s.fetch x.val = (u, .ok w) →
    (u.core x.val).slot = none → (u.core x.val).atEnd (u.core x.val).next = false →
    let c := u.core x.val
    let ra := c.gr (kRd w)
    let rb := c.gr (kRa w)
    let near := c.next + ((w.extractLsb' 0 16).signExtend 32 <<< 2)
    let far := c.next + ((w.extractLsb' 0 26).signExtend 32 <<< 2)
    let goes (ws : List KWrite) (f : Flow) : Host.Outcome State Fault Refusal := .next (u.setCore x.val (c.finish ws none f))
    let branch (p : Prop) [Decidable p] := goes [] (.branch (if p then some near else none))
    let illegal (d : Nat) : Host.Outcome State Fault Refusal := .next (u.setCore x.val (c.enter 1 d 0))
    let n := bits w 24 2
    let e := c.next + BitVec.ofNat 32 (4 * bits w 12 11)
    let k := if bits w 23 1 = 1 then (c.gr (bits w 0 5)).toNat % 65536 else bits w 0 12
    let r := if bits w 23 1 = 1 then (c.gr (bits w 0 5)).toNat else bits w 0 12 + 1
    (kMajor w = 0x20 → exec (.kBreq x) s = branch (ra = rb)) ∧
    (kMajor w = 0x21 → exec (.kBrne x) s = branch (ra ≠ rb)) ∧
    (kMajor w = 0x22 → exec (.kBrlt x) s = branch (ra.toInt < rb.toInt)) ∧
    (kMajor w = 0x23 → exec (.kBrge x) s = branch (rb.toInt ≤ ra.toInt)) ∧
    (kMajor w = 0x24 → exec (.kBrltu x) s = branch (ra.toNat < rb.toNat)) ∧
    (kMajor w = 0x25 → exec (.kBrgeu x) s = branch (rb.toNat ≤ ra.toNat)) ∧
    (kMajor w = 0x28 → exec (.kBra x) s = goes [] (.branch (some far))) ∧
    (kMajor w = 0x29 → exec (.kCall x) s = goes [(.g 30, c.next + 8, 1)] (.branch (some far))) ∧
    (kMajor w = 0x2A → bits w 0 16 = 0 → (kRd w ≠ kRa w ∨ kRd w = 0) →
      exec (.kCallr x) s = goes [(.g (kRd w), c.next + 8, 1)] (.branch (some (rb &&& 0xFFFFFFFC)))) ∧
    (kMajor w = 0x30 → n ≠ 3 → bits w 12 11 ≠ 0 → (bits w 23 1 = 1 → bits w 5 7 = 0) →
      (k = 0 →
        let c' := c.finish [(.le n, e, 4), (.lc n, 0, 4), (.la n, 0, 4)] none (.skip (e + 4))
        exec (.kLoop x) s = .next (u.setCore x.val
          { c' with loopE := c'.loopE.set n e, loopC := c'.loopC.set n 0, loopA := c'.loopA.set n false })) ∧
      (k ≠ 0 →
        let c' := c.finish [(.ls n, c.next + 4, 4), (.le n, e, 4), (.lc n, BitVec.ofNat 32 k, 4), (.la n, 1, 4)] none
          (.skip (c.next + 4))
        exec (.kLoop x) s = .next (u.setCore x.val
          { c' with
            loopS := c'.loopS.set n (c.next + 4)
            loopE := c'.loopE.set n e
            loopC := c'.loopC.set n k
            loopA := c'.loopA.set n true }))) ∧
    (kMajor w = 0x31 → bits w 24 2 = 0 → bits w 12 11 = 0 → (bits w 23 1 = 1 → bits w 5 7 = 0) →
      s.rptForbidden x.val = false →
      (r ≤ 4096 → exec (.kRpt x) s = goes [] (.rpt r)) ∧ (4096 < r → exec (.kRpt x) s = illegal 5))

/-- The accumulator group. mac, msu and mula add, subtract or set the signed product of ra and rb in the accumulator
that [25:21] names, modulo 2^72; mfacc rounds, shifts and saturates as its steps say; rdacc and wracc move part 0, 1
or 2; clracc clears. Accumulators take their value at the next instruction and g registers at distance 3; no exception
is raised for a word without reserved fields or values, and Illegal Instruction, DETAIL 1, for an accumulator index
above 1. -/
def Obligations.KAccumulators : Prop :=
  ∀ (s u : State) (x : Fin 5) (w : Word), s.coreIssues x.val = true → s.fetch x.val = (u, .ok w) → kMajor w = 0x03 →
    bits w 0 5 = 0 →
    let c := u.core x.val
    let p := (c.gr (kRa w)).toInt * (c.gr (kRb w)).toInt
    let a := kRd w
    let into (v : BitVec 72) : Host.Outcome State Fault Refusal := .next (u.setCore x.val (c.finish [] (some (a, v)) .seq))
    let src := c.accum (bits w 15 1)
    let rd (v : Word) : Host.Outcome State Fault Refusal :=
      .next (u.setCore x.val (c.finish [(.g (kRd w), v, 3)] none .seq))
    let sh := bits w 16 5
    let t := (src.toInt + (if bits w 14 1 = 1 ∧ 0 < sh then 2 ^ (sh - 1) else 0)) / 2 ^ sh
    let part := bits w 11 2
    let illegal : Host.Outcome State Fault Refusal := .next (u.setCore x.val (c.enter 1 1 0))
    (a ≤ 1 →
      (kFn w = 0x00 → exec (.kMac x) s = into (BitVec.ofInt 72 ((c.accum a).toInt + p))) ∧
      (kFn w = 0x01 → exec (.kMsu x) s = into (BitVec.ofInt 72 ((c.accum a).toInt - p))) ∧
      (kFn w = 0x02 → exec (.kMula x) s = into (BitVec.ofInt 72 p)) ∧
      (kFn w = 0x0A → bits w 13 3 = 0 →
        (part = 0 → exec (.kWracc x) s = into ((c.accum a).extractLsb' 32 40 ++ c.gr (kRa w))) ∧
        (part = 1 → exec (.kWracc x) s = into ((c.accum a).extractLsb' 64 8 ++ c.gr (kRa w) ++ (c.accum a).extractLsb' 0 32)) ∧
        (part = 2 → exec (.kWracc x) s = into ((c.gr (kRa w)).extractLsb' 0 8 ++ (c.accum a).extractLsb' 0 64))) ∧
      (kFn w = 0x0B → bits w 11 10 = 0 → exec (.kClracc x) s = into 0)) ∧
    (1 < a →
      (kFn w = 0x00 → exec (.kMac x) s = illegal) ∧ (kFn w = 0x01 → exec (.kMsu x) s = illegal) ∧
      (kFn w = 0x02 → exec (.kMula x) s = illegal) ∧ (kFn w = 0x0A → exec (.kWracc x) s = illegal) ∧
      (kFn w = 0x0B → exec (.kClracc x) s = illegal)) ∧
    (kFn w = 0x08 → bits w 11 2 = 0 →
      exec (.kMfacc x) s =
        rd (BitVec.ofInt 32 (if bits w 13 1 = 1 then max (-2 ^ 31) (min (2 ^ 31 - 1) t) else t))) ∧
    (kFn w = 0x09 → kRa w = 0 → bits w 13 2 = 0 →
      (part = 0 → exec (.kRdacc x) s = rd (BitVec.ofInt 32 src.toInt)) ∧
      (part = 1 → exec (.kRdacc x) s = rd (BitVec.ofInt 32 (src.toInt / 2 ^ 32))) ∧
      (part = 2 → exec (.kRdacc x) s = rd (BitVec.ofInt 32 (src.toInt / 2 ^ 64))))

/-- The dual-fetch multiply-accumulate. mac.d, msu.d and mula.d with operands in banks X and Y, or both in one bank,
whose check bits show no error: misaligned operands raise Misaligned; two operands of one bank take the first one's
data and set DFC at distance 4, or raise Dual-Fetch Conflict under DFX; an operand outside both banks raises Bus Error
and logs nothing (the model's choice, log entry 76); the product goes into the accumulator that bit 25 names, and px
and py advance their registers by 4 at distance 1. -/
def Obligations.KDualFetch : Prop :=
  ∀ (s u : State) (x : Fin 5) (w : Word), s.coreIssues x.val = true → s.fetch x.val = (u, .ok w) → kMajor w = 0x34 →
    bits w 0 11 = 0 → (∀ e ∈ u.ecc, e.1 < privBase x.val ∨ privBase x.val + 0x40000 ≤ e.1) →
    let c := u.core x.val
    let rx := bits w 20 5
    let ry := bits w 15 5
    let ax := (c.gr rx).toNat
    let ay := (c.gr ry).toNat
    let size := if x.val = 0 then 0x4000 else 0x10000
    let inX (a : Nat) : Prop := 0x20000 ≤ a ∧ a < 0x20000 + size
    let inY (a : Nat) : Prop := 0x30000 ≤ a ∧ a < 0x30000 + size
    let same : Prop := (inX ax ∧ inX ay) ∨ (inY ax ∧ inY ay)
    let word (a : Nat) : Int := (BitVec.ofNat 32 (u.memVal (privBase x.val + a) 4)).toInt
    let raise (code : Nat) : Host.Outcome State Fault Refusal := .next (u.setCore x.val (c.enter code 0 0))
    let acc := (c.accum (bits w 25 1)).toInt
    let ws (dfc : List KWrite) : List KWrite := (if bits w 12 1 = 1 then [(.g rx, c.gr rx + 4, 1)] else []) ++
      (if bits w 11 1 = 1 then [(.g ry, c.gr ry + 4, 1)] else []) ++ dfc
    let done (dfc : List KWrite) (v : Int) : Host.Outcome State Fault Refusal :=
      .next (u.setCore x.val (c.finish (ws dfc) (some (bits w 25 1, BitVec.ofInt 72 v)) .seq))
    let ends (i : Instr) (f : Int → Int) : Prop :=
      ((ax % 4 ≠ 0 ∨ ay % 4 ≠ 0) → exec i s = raise 3) ∧
      (ax % 4 = 0 → ay % 4 = 0 →
        (same → c.psw.getLsbD 2 = true → exec i s = raise 6) ∧
        (same → c.psw.getLsbD 2 = false → exec i s = done [(.dfc, 1, 4)] (f (word ax * word ax))) ∧
        (((inX ax ∧ inY ay) ∨ (inY ax ∧ inX ay)) → exec i s = done [] (f (word ax * word ay))) ∧
        ((¬inX ax ∧ ¬inY ax) ∨ (¬inX ay ∧ ¬inY ay) → exec i s = raise 4))
    (bits w 13 2 = 0 → ends (.kMacD x) (fun p => acc + p)) ∧
    (bits w 13 2 = 1 → ends (.kMsuD x) (fun p => acc - p)) ∧
    (bits w 13 2 = 2 → ends (.kMulaD x) (fun p => p))

/-- The system group. rdcr reads a control register at distance 1, wrcr writes its unreserved bits at distance 4; user
level may read PSW and the loop registers and write the loop registers only, and the rest, with exret and wait, raises
Privilege; an unlisted number raises Illegal Instruction, DETAIL 6. trap and brk, outside a delay slot, enter
exception 7 or 8 from their own address. exret checks its level, and acts, with every pending write landed: with a
state that can be resumed it restores SUP, IE and LA and goes on at EPC. wait stops issue until an enabled input is
high, and does not stop it when one is high already. -/
def Obligations.KSystem : Prop :=
  ∀ (s u : State) (x : Fin 5) (w : Word), s.coreIssues x.val = true → s.fetch x.val = (u, .ok w) → kMajor w = 0x3C →
    bits w 0 5 = 0 →
    let c := u.core x.val
    let n := kRb w
    let done (ws : List KWrite) (f : Flow) : Host.Outcome State Fault Refusal := .next (u.setCore x.val (c.finish ws none f))
    let raise (code detail : Nat) : Host.Outcome State Fault Refusal := .next (u.setCore x.val (c.enter code detail 0))
    let listed := [0, 1, 2, 3, 4, 8, 9, 10, 12, 13, 14, 16, 17, 18]
    let kept : Word := if n = 0 then 0x7F else if n = 1 then 0xFFFFF000 else if n = 3 then 0x003F0F0F
      else if n = 4 then 0x001FFF7F else if n ≤ 14 then 0xFFFFFFFC else 0xFFFF
    let value : Word := if n = 0 then c.psw else if n = 1 then c.vbase else if n = 2 then c.epc else if n = 3 then c.ecause
      else if n = 4 then c.estate else if n < 12 then c.ls.getD (n - 8) 0 else if n < 16 then c.le.getD (n - 12) 0
      else c.lc.getD (n - 16) 0
    (kFn w = 0x00 → kRa w = 0 →
      (n ∉ listed → exec (.kRdcr x) s = raise 1 6) ∧
      (n ∈ listed → c.sup = false → 1 ≤ n → n ≤ 4 → exec (.kRdcr x) s = raise 2 0) ∧
      (n ∈ listed → (c.sup = true ∨ n = 0 ∨ 8 ≤ n) → exec (.kRdcr x) s = done [(.g (kRd w), value, 1)] .seq)) ∧
    (kFn w = 0x01 → kRd w = 0 →
      (n ∉ listed → exec (.kWrcr x) s = raise 1 6) ∧
      (n ∈ listed → c.sup = false → n ≤ 4 → exec (.kWrcr x) s = raise 2 0) ∧
      (n ∈ listed → (c.sup = true ∨ 8 ≤ n) →
        exec (.kWrcr x) s = done [(.cr n, c.gr (kRa w) &&& kept, 4)] .seq)) ∧
    (c.slot = none →
      (kFn w = 0x08 → exec (.kTrap x) s = raise 7 0) ∧
      (kFn w = 0x09 → exec (.kBrk x) s = raise 8 0) ∧
      (kFn w = 0x10 → bits w 11 15 = 0 → c.atEnd c.next = false → c.landAll.unresumable x.val = false →
        (c.landAll.sup = false → exec (.kExret x) s = raise 2 0) ∧
        (c.landAll.sup = true → ∃ t, exec (.kExret x) s = .next t ∧
          let d := c.landAll
          t = u.setCore x.val { d with
            psw := withBits (withBits d.psw 0 2 (bits d.estate 0 2)) 4 3 (bits d.estate 2 3)
            loopA := [bits d.estate 2 1 == 1, bits d.estate 3 1 == 1, bits d.estate 4 1 == 1]
            next := d.epc
            slot := none
            waiting := false
            rpt := if bits d.estate 6 1 = 1 then some (bits d.estate 8 13, true) else none })) ∧
      (kFn w = 0x11 → bits w 11 15 = 0 →
        (c.sup = false → exec (.kWait x) s = raise 2 0) ∧
        (c.sup = true → s.irqTaken x.val = none → exec (.kWait x) s =
          .next ((u.waitBegin x.val).setCore x.val (c.finish [] none .wait))) ∧
        (∀ i, c.sup = true → s.irqTaken x.val = some i → exec (.kWait x) s =
          .next (u.setCore x.val (c.finish [] none .seq)))))

/-- Interrupts, failing fetches and illegal words of a core. A core that runs, has IE set, stands neither in a delay
slot nor before a first iteration and waits for no data access of its own takes its lowest enabled input that is high:
exception 9. A fetch outside instruction memory raises Fetch Error (5), one of a word whose check bits show an
uncorrectable error Memory Error (10). A word with an undefined major opcode or fn raises Illegal Instruction, DETAIL
0. -/
def Obligations.KEvents : Prop :=
  ∀ (s : State) (x : Fin 5),
    let c := s.core x.val
    let enabled (i : Nat) : Bool :=
      if i < 32 then (s.irqWord x.val 0 &&& c.irqEn.getD 0 0#32).getLsbD i
      else (s.irqWord x.val 32 &&& c.irqEn.getD 1 0#32).getLsbD (i - 32)
    (∀ i, s.coreRuns x.val = true → c.psw.getLsbD 1 = true → c.slot = none → (∀ k, c.rpt ≠ some (k, false)) → c.stall = none → i < 64 →
      enabled i = true → (∀ j, j < i → enabled j = false) →
      exec (.coreInterrupt x) s = .next (s.setCore x.val (c.enter 9 0 i))) ∧
    (s.coreIssues x.val = true → c.stall = none →
      ((if x.val = 0 then 0x8000 else 0x20000) ≤ c.next.toNat →
        exec (.coreFetchError x) s = .next (s.setCore x.val (c.enter 5 0 0))) ∧
      (c.next.toNat < (if x.val = 0 then 0x8000 else 0x20000) →
        (s.ecc.find? (fun e => e.1 == privBase x.val + c.next.toNat / 8 * 8)) =
          some (privBase x.val + c.next.toNat / 8 * 8, true) → c.next.toNat % 4 = 0 →
        ∃ t, exec (.coreFetchError x) s = .next t ∧ t.cores = setAt Core.reset s.cores x.val (c.enter 10 0 0) ∧
          s.samePartsBut t [.cores, .router]) ∧
      ∀ (u : State) (w : Word), s.fetch x.val = (u, .ok w) → kUndefined w = true →
        exec (.coreIllegal x) s = .next (u.setCore x.val ((u.core x.val).enter 1 0 0)))

/-- What entry to an exception saves and sets. Entry completes every pending write. EPC is the next address, or that
of the branch when a delay slot raised it, with BD set; ESTATE keeps SUP, IE and LA and, in a repetition, RV and the
iterations left; ECAUSE holds CODE, DETAIL and INPUT; SUP becomes 1, IE and LA 0, and the handler starts at VBASE +
0x40 times CODE. General registers and accumulators are what the pending writes leave. -/
def Obligations.KEntry : Prop :=
  ∀ (c : Core) (code detail input : Nat), code < 16 → detail < 16 → input < 64 →
    (∀ k b, c.rpt = some (k, b) → k ≤ 4096) →
    let d := c.landAll
    let e := c.enter code detail input
    e.writes = [] ∧ e.g = d.g ∧ e.acc = d.acc ∧ e.vbase = d.vbase ∧
    e.epc = (match c.slot with | some (b, _) => b | none => c.next) ∧
    bits e.estate 0 1 = bits d.psw 0 1 ∧ bits e.estate 1 1 = bits d.psw 1 1 ∧ bits e.estate 2 3 = bits d.psw 4 3 ∧
    bits e.estate 5 1 = (if c.slot.isSome then 1 else 0) ∧
    (∀ k b, c.rpt = some (k, b) → bits e.estate 6 1 = 1 ∧ bits e.estate 8 13 = k) ∧
    (c.rpt = none → bits e.estate 6 1 = 0 ∧ bits e.estate 8 13 = 0) ∧ bits e.estate 7 1 = 0 ∧ bits e.estate 21 11 = 0 ∧
    bits e.ecause 0 4 = code ∧ bits e.ecause 8 4 = detail ∧ bits e.ecause 16 6 = input ∧
    bits e.psw 0 1 = 1 ∧ bits e.psw 1 1 = 0 ∧ bits e.psw 4 3 = 0 ∧ bits e.psw 2 2 = bits d.psw 2 2 ∧
    e.loopA = [false, false, false] ∧ e.next = d.vbase + BitVec.ofNat 32 (0x40 * code) ∧ e.slot = none ∧ e.rpt = none

/-- How an instruction of a core completes. A write to a g register at distance 1 is there for the next instruction
and stands over older writes that land with it; one at distance d lands d instructions later; a write to g0 is
discarded. Sequential flow goes on at A + 4; after a branch the slot at A + 4 executes and then the target; the end of
an active loop whose count is above 1 decrements the count and goes to its start, and with count 1 or less the loop
ends; a repetition stays on its instruction until its last iteration. -/
def Obligations.KPipeline : Prop :=
  (∀ (c : Core) (n : Nat) (v : Word) (f : Flow), n ≠ 0 →
    (c.finish [(.g n, v, 1)] none f).g = (c.finish [] none f).g.set n v ∧
    (c.finish [(.g 0, v, 1)] none f).g = (c.finish [] none f).g) ∧
  (∀ (c : Core) (n d : Nat) (v : Word) (f : Flow), 2 ≤ d →
    (c.finish [(.g n, v, d)] none f).g = (c.finish [] none f).g ∧
    (⟨.g n, v, d - 1⟩ : CoreWrite) ∈ (c.finish [(.g n, v, d)] none f).writes) ∧
  (∀ (c : Core), c.writes = [] → c.rpt = none →
    (c.slot = none → c.atEnd c.next = false → (c.finish [] none .seq).next = c.next + 4) ∧
    (∀ t, c.slot = none → (c.finish [] none (.branch t)).next = c.next + 4 ∧
      (c.finish [] none (.branch t)).slot = some (c.next, t)) ∧
    (∀ b t, c.slot = some (b, some t) → (c.finish [] none .seq).next = t ∧ (c.finish [] none .seq).slot = none) ∧
    (∀ n, c.slot = none → n < 3 → c.loopA.getD n false = true → c.loopE.getD n 0#32 = c.next → 1 < c.loopC.getD n 0 →
      (∀ m, n < m → m < 3 → ¬(c.loopA.getD m false = true ∧ c.loopE.getD m 0#32 = c.next)) →
      (c.finish [] none .seq).next = c.loopS.getD n 0#32 ∧
      (c.finish [] none .seq).loopC = c.loopC.set n (c.loopC.getD n 0 - 1)) ∧
    (∀ n, c.slot = none → n < 3 → c.loopA.getD n false = true → c.loopE.getD n 0#32 = c.next → c.loopC.getD n 0 ≤ 1 →
      (∀ m, m ≠ n → m < 3 → ¬(c.loopA.getD m false = true ∧ c.loopE.getD m 0#32 = c.next)) →
      (c.finish [] none .seq).next = c.next + 4 ∧ (c.finish [] none .seq).loopC = c.loopC.set n 0 ∧
      (c.finish [] none .seq).loopA = c.loopA.set n false)) ∧
  ∀ (c : Core) (k : Nat) (b : Bool), c.writes = [] → c.rpt = some (k, b) → 1 < k →
    (c.finish [] none .seq).next = c.next ∧ (c.finish [] none .seq).rpt = some (k - 1, true) ∧
    (c.finish [] none .seq).loopC = c.loopC

/-- What an instruction that accesses no data leaves. An instruction of the ALU, multiply, immediate or accumulator
group, a branch, loop, rpt or a system instruction changes no memory byte, no register but CORE_ECC (and what its
interrupt raises: PAGE_IRQ and EVR_STATUS), and of the block beside its registers only the core and the router. -/
def Obligations.KFrame : Prop :=
  ∀ (s t : State) (x : Fin 5) (i : Instr), s.wf = true →
    i ∈ [.kAdd x, .kSub x, .kAnd x, .kOr x, .kXor x, .kAndn x, .kClt x, .kCltu x, .kShl x, .kShr x, .kAsr x, .kMin x, .kMax x,
      .kMinu x, .kMaxu x, .kAdds x, .kSubs x, .kMul x, .kMulx x, .kMulxu x, .kMovl x, .kAddk x, .kAndk x, .kOrk x, .kXork x,
      .kMovh x, .kCltk x, .kCltku x, .kShlk x, .kShrk x, .kAsrk x, .kBreq x, .kBrne x, .kBrlt x, .kBrge x, .kBrltu x,
      .kBrgeu x, .kBra x, .kCall x, .kCallr x, .kLoop x, .kRpt x, .kMac x, .kMsu x, .kMula x, .kMfacc x, .kRdacc x, .kWracc x,
      .kClracc x, .kRdcr x, .kWrcr x, .kTrap x, .kBrk x, .kExret x, .kWait x] →
    exec i s = .next t →
    s.samePartsBut t [.router, .cores] ∧ s.sameArraysBut t [.CORE_ECC, .PAGE_IRQ, .EVR_STATUS] ∧
    ∀ a, t.byte a = s.byte a

/-- An admitted word write of a plain setting. A word write that the page takes to a register whose write orders
nothing (every array but those of the list: heads of pages, command and control registers, ports, and settings that a
block follows at once) answers without an error, leaves in that register what the access codes of its fields give in
the bits that the register has, and leaves every other register and, beside the answer, the epoch timer's pending soft
seam and the note of staged settings, every part of the block. A write of GPIO_OUT or GPIO_OE leaves the same in its
register; the balls follow, in GPIO_IN and through the router. -/
def Obligations.WriteLands : Prop :=
  ∀ (s : State) (q : Requester) (r : Reg) (n : Nat) (v : Word), s.wf = true → r.ok n = true → s.admits q r n v = true →
    (r ∉ [.PAGE_CTRL, .PAGE_IRQ_EN, .PAGE_OWNER, .PWR_CTRL, .PWR_ASK, .WAKE_EN, .CLK_EN, .CLK_PEN, .CLKMON_CMD, .CLKMON_CTRL,
        .DVFS_TARGET, .BKD_CTRL, .BKD_BK, .BKD_MEAS_CTRL, .PMB_CMD, .EVR_FIRE, .EVR_CFG, .EVR_CSTAT, .EVL_CELL_IN, .EVL_CELL_TT,
        .EVL_CELL_MODE, .BS_CTRL, .BS_VALUE, .SEAM_SOFT, .ANG_CTRL, .ANG_CFG, .ANG_TBL_DATA, .AIN_CTRL, .AIN_ALIGN, .AIN_GRP_PWR,
        .AIN_CHEN, .AIN_IDCOMMIT, .ADC_CTRL, .ADCCAL_CTRL, .RESULT_START, .RL_CTRL, .RL_CFG, .RL_TBL_DATA, .LINE_CTRL,
        .LINE_SHORT, .LINE_FETCH_CTRL, .PEG_LINE, .PEG_FIRST, .PEG_COUNT, .PEG_BEFORE, .PEG_AFTER, .PEG_CMD, .HBMC_CTRL,
        .HBMC_TDATA, .WEL_CTRL, .CS_CTRL, .CS_DATA, .CS_DATA5, .WELQ_QTAIL, .WELQ_QCFG, .WELQ_MAP, .PZL_CTRL, .MGL_CTRL,
        .BEACON_CTRL, .BEACON_CFG, .BEACON_RATE, .BEACON_PERIOD, .PAIR_CTRL, .PAIR_RING_CFG, .PAIR_STATUS, .PAIR_RING_BREAK,
        .UART_CTRL, .UART_BAUD, .UART_RXR_CFG, .UART_RXR_RD, .UART_TX_CTRL, .UART_TXDATA, .XSPI_CMD, .IDB_CMD, .GPIO_CTRL,
        .GPIO_OUT, .GPIO_OE, .GPIO_SET, .GPIO_CLR, .WD_CTRL, .WD_KICK, .CRY_CMD, .FUSE_PROG, .BOOT_CTRL, .BOOT_STATUS,
        .BOOT_MBOX, .DARN_CTRL, .DARN_LOG_CTRL, .DARN_IN_CTRL, .CORE_CTRL, .CORE_IRQ_EN_LO, .CORE_IRQ_EN_HI, .WIN, .RESTART] →
      ∃ t, exec (.registerWrite q .b4 (r.addr n) v) s = .next t ∧ t.answer = .ok 0 ∧
        t.reg r n = mergeWord r (s.reg r n) v &&& r.has n ∧
        s.sameRegsBut t [(r, n)] ∧ s.samePartsBut t [.answer, .epoch, .late] ∧
        { t.epoch with softReq := s.epoch.softReq } = s.epoch) ∧
    (r ∈ [.GPIO_OUT, .GPIO_OE] →
      ∃ t, exec (.registerWrite q .b4 (r.addr n) v) s = .next t ∧ t.answer = .ok 0 ∧
        t.reg r n = mergeWord r (s.reg r n) v &&& (if n = 1 then 0xFFFF#32 else 0xFFFFFFFF#32) ∧
        (∀ (r' : Reg) (n' : Nat), r'.ok n' = true → (r', n') ≠ (r, n) → r' ∉ [.GPIO_IN, .PAGE_IRQ, .EVR_STATUS] →
          t.reg r' n' = s.reg r' n') ∧
        s.samePartsBut t [.answer, .epoch, .late, .router])

/-- A soft reset of a page. A write of 1 to SOFT_RST that the page takes puts the page among those in soft reset, so
that SOFT_RST and BUSY read 1 and the fabric holds further accesses to it; its registers at offset 0x040 and above are
at reset on every page, but for those that show levels, power and clock states and locks, which keep their fields (log
entry 60), and those of the list, which show what the block then does; on the listed pages its error flags and
interrupt bits are at reset too, its owner stands, and EN holds what was written. It ends at its completion, which
touches nothing else. A second SOFT_RST cannot start one that is in progress. -/
def Obligations.SoftReset : Prop :=
  (∀ (s : State) (q : Requester) (p : Fin 256) (v : Word), s.wf = true → (pageInfo p.val).isSome = true →
    s.admits q .PAGE_CTRL p.val (v ||| 2#32) = true →
    ∃ t, exec (.softRst q p v) s = .next t ∧ t.answer = .ok 0 ∧ t.softReset = s.softReset ++ [p.val] ∧
      t.pageHeld p.val = true ∧ bits (t.regWord .PAGE_CTRL p.val) 1 1 = 1 ∧ bits (t.regWord .PAGE_STATUS p.val) 3 1 = 1 ∧
      (∀ (r : Reg) (n : Nat), r.ok n = true → r.page n = p.val → 0x40 ≤ r.addr n % 0x1000 →
        (∀ x ∈ keptFields s p.val, (x.1.reg, x.2) ≠ (r, n)) →
        r ∉ [.PWR_CTRL, .CLK_SEL, .TACH_LEVEL, .ADC_SLICE, .RESULT_START, .LINE_STATUS, .LINE_AVAIL, .LINE_WSTATE, .GOV_STATUS,
          .WEL_STATUS, .WELQ_STATUS, .PZL_STATUS, .PZL_RETRY, .PAIR_STATUS, .PAIR_RING_BREAK, .GPIO_CTRL, .DARN_STATUS,
          .DARN_PROP, .DARN_PROP_TGT, .DARN_LOG, .DARN_LOG_CTRL, .DARN_SPARES] → t.reg r n = r.reset n) ∧
      (p.val ∈ [0x00, 0x01, 0x04, 0x05, 0x67, 0x68, 0x6A] → ∀ x ∈ keptFields s p.val, t.fget x.1 x.2 = s.fget x.1 x.2) ∧
      (p.val ∈ [0x02, 0x07, 0x09, 0x0A, 0x0B, 0x0C, 0x10, 0x11, 0x12, 0x13, 0x14, 0x15, 0x16, 0x17, 0x22, 0x24, 0x25, 0x26,
          0x27, 0x28, 0x29, 0x2A, 0x2B, 0x5C, 0x62, 0x63, 0x64, 0x66] →
        (∀ (r : Reg) (n : Nat), r.ok n = true → r.page n = p.val → 0x40 ≤ r.addr n % 0x1000 → t.reg r n = r.reset n) ∧
        t.reg .PAGE_STATUS p.val = 0 ∧ t.reg .PAGE_IRQ p.val = 0 ∧ t.reg .PAGE_IRQ_EN p.val = 0 ∧
        t.reg .PAGE_OWNER p.val = s.reg .PAGE_OWNER p.val ∧ t.fget F.PAGE_CTRL_EN p.val = bits v 0 1)) ∧
  ∀ (s : State) (p : Fin 256),
    exec (.softResetComplete p) s = .next { s with softReset := s.softReset.filter (fun x => x != p.val) }

/-- Freeze groups. A read of a member of a freeze group by a requester without a capture answers the member and,
unless it is the release register, captures every member for that requester; as long as the capture stands, a read of
any member by that requester answers what the member held at the capture, whatever has changed since. A read of the
release register drops the capture. A capture that is not released in time is dropped, with the stale flag of the
group and its interrupt. -/
def Obligations.FreezeGroups : Prop :=
  (∀ (s : State) (q : Requester) (g : FreezeGroup) (r : Reg) (n : Nat),
    r.ok n = true → s.freezeGroup r n = some g → (r, n) ≠ g.release → s.performs q (r.page n) = true →
    s.frozen g (s.who q).cap = none →
    ∃ t, exec (.freezeGroupRead q (r.addr n)) s = .next t ∧ t.answer = .ok (s.capWord r n).toNat ∧ t.regs = s.regs ∧
      s.samePartsBut t [.freeze, .answer] ∧
      ∀ (u : State) (r' : Reg) (n' : Nat), u.freeze = t.freeze → r'.ok n' = true → u.performs q (r'.page n') = true →
        u.freezeGroup r' n' = some g → (r', n') ∈ g.members → (u.who q).cap = (s.who q).cap →
        (∃ x, exec (.freezeGroupRead q (r'.addr n')) u = .next x ∧ x.answer = .ok (s.capWord r' n').toNat) ∧
        ((r', n') = g.release → ∃ x, exec (.freezeGroupRelease q (r'.addr n')) u = .next x ∧
          x.answer = .ok (s.capWord r' n').toNat ∧ x.frozen g (s.who q).cap = none)) ∧
  ∀ (s : State) (q : Requester) (g : FreezeGroup) (r : Reg) (n : Nat), s.wf = true → r.ok n = true →
    s.freezeGroup r n = some g → (s.frozen g (s.who q).cap).isSome = true →
    ∃ t, exec (.freezeStaleTimeout q (r.addr n)) s = .next t ∧ t.frozen g (s.who q).cap = none ∧
      t.flag g.stale.1 g.stale.2 = true ∧ t.fbit F.PAGE_IRQ_SOURCES (g.key / 0x1000) (staleIrq g.stale.1 g.stale.2) = true

/-- Accesses of the debug port. An instruction of the JTAG port is loaded; EXTEST (0) and SAMPLE/PRELOAD (1) load the
boundary register, and under EXTEST the balls that its cells drive follow them; every other instruction but 0x20 moves
nothing else. Under 0x20, outside mend mode, a debug access to a register page is an access of the debug port to that
register. Outside the secure lifecycle it holds the rights of S. A write to an aligned domain SRAM address that is
live stores its bytes, lowest first, and no other; a read there of bytes without an error answers them; an access to a
bank that a darn copies waits. In mend mode an access outside the mend window is a bus error with cause UNMAPPED. -/
def Obligations.DebugPort : Prop :=
  (∀ (s : State) (ir : Fin 256) (cells : List Bool) (sz : AccessSize) (a : Nat) (wr : Option (BitVec 64)),
    s.power.senOn = true → ir.val ≠ 0x20 →
    ∃ t, exec (.debugAccess ⟨ir, cells⟩ sz a wr) s = .next t ∧ t.power.ring.ir = ir.val ∧
      (ir.val ≤ 1 → t.power.ring.cells.length = 140 ∧ ∀ i, i < 140 → t.power.ring.cells.getD i false = cells.getD i false) ∧
      (1 < ir.val → t.power.ring.cells = s.power.ring.cells) ∧
      (ir.val = 0 → ∀ (b : Ball) (c : Nat), ballCell b = some c → c < 140 →
        t.ballDrive b = if cells.getD c false then .high else .low) ∧
      s.sameArraysBut t [.PAGE_IRQ, .EVR_STATUS, .GPIO_IN] ∧ s.samePartsBut t [.power, .router]) ∧
  (∀ s : State, (s.who .debug).isS = (s.fuses.life != 1) ∧ (s.who .debug).secure = (s.fuses.life != 1)) ∧
  ∀ (s : State) (cells : List Bool),
    let j := s.jtagScan 0x20 cells
    j.canIssue .debug = true →
    (j.mend.on = false → ∀ (sz : AccessSize) (a o : Nat) (v : BitVec 64), fabTarget a = .page o →
      exec (.debugAccess ⟨0x20, cells⟩ sz a (some v)) s = exec (.registerWrite .debug sz o (v.setWidth 32)) j ∧
      exec (.debugAccess ⟨0x20, cells⟩ .b4 a none) s = exec (.readClear .debug o) j) ∧
    (j.mend.on = false → s.wf = true → j.lines.debug = [] → ∀ (sz : AccessSize) (a d o : Nat) (v : BitVec 64),
      fabTarget a = .sram d o → j.fabCause a sz.bytes (j.who .debug).secure = 0 →
      ((∀ x ∈ j.darn.copy, ¬(x.1 = d ∧ x.2.1 = o / 65536)) →
        (∃ t, exec (.debugAccess ⟨0x20, cells⟩ sz a (some v)) s = .next t ∧ t.answer = .ok 0 ∧
          (∀ k, k < sz.bytes → t.byte (a + k) = v.extractLsb' (8 * k) 8) ∧
          (∀ b, b < a ∨ a + sz.bytes ≤ b → t.byte b = j.byte b) ∧ j.samePartsBut t [.mem, .ecc, .answer]) ∧
        ((∀ e ∈ j.ecc, e.1 + 8 ≤ a ∨ a + sz.bytes ≤ e.1) →
          exec (.debugAccess ⟨0x20, cells⟩ sz a none) s = .next { j with answer := .ok (j.memVal a sz.bytes) })) ∧
      (∀ wr : Option (BitVec 64), (∃ x ∈ j.darn.copy, x.1 = d ∧ x.2.1 = o / 65536) →
        exec (.debugAccess ⟨0x20, cells⟩ sz a wr) s = .next
          { j with answer := .none, lines := { j.lines with debug := [⟨wr.isSome, sz, a, wr.getD 0#64, (j.who .debug).secure⟩] } })) ∧
    (j.mend.on = true → ∀ (sz : AccessSize) (a : Nat) (wr : Option (BitVec 64)), a < mendBase →
      ∃ t, exec (.debugAccess ⟨0x20, cells⟩ sz a wr) s = .next t ∧ t.answer = .err 1 ∧ t.mend = j.mend ∧ t.mem = j.mem)

/-- The commands of a basket slot. A value appends an entry with the address and mask that stand, the first one making
its requester the owner, and a 513th aborts the slot with reason 6. CLOSE makes it FILLED; ARM starts its validation,
with BUSY of the page; the validation ends in ARMED, or in ABORTED with the reason and the failing entry; CANCEL
aborts it with reason 7; CLEAR leaves it OPEN, empty, without an owner and with its records 0. An abort raises the
slot's interrupt bit. A read of BS_RDATA answers the selected word of the selected entry and moves on. -/
def Obligations.BasketCommands : Prop :=
  ∀ (s : State) (q : Requester) (slot : Fin 8) (v : Word) (m : Bool), s.wf = true →
    let n := slot.val
    let x := s.slot n
    let aborted (t : State) (reason : Nat) : Prop :=
      t.fget F.BS_STATE_STATE n = 4 ∧ t.fget F.BS_STATE_REASON n = reason ∧ t.fbit F.BASKET_STATUS_ARMED 0 n = false ∧
      t.fbit F.PAGE_IRQ_SOURCES 0x0B (8 + n) = true
    let busy (t : State) : State := t.fsetB F.PAGE_STATUS_BUSY 0x0B ((List.range 8).any (fun k => (t.slot k).arming))
    (s.admits q .BS_VALUE n v = true →
      (x.entries.length < 512 →
        let t := if x.entries = [] then (s.fset F.BS_STATE_OWNER n (s.who q).id).fsetB F.BS_STATE_SEC n (s.who q).secure else s
        exec (.bsValue q slot v) s = .next (s.taken
          ((t.setSlot n { x with entries := x.entries ++ [⟨s.reg .BS_ADDR n, s.reg .BS_MASK n, v⟩] }).fset F.BS_STATE_COUNT n
            (x.entries.length + 1)))) ∧
      (512 ≤ x.entries.length → ∃ t, exec (.bsValue q slot v) s = .next t ∧ aborted t 6)) ∧
    (s.admits q .BS_CTRL n (bsWord 1 m) = true →
      exec (.bsClose q slot m) s = .next (s.taken ((s.landed .BS_CTRL n (bsWord 1 m)).fset F.BS_STATE_STATE n 1))) ∧
    (s.admits q .BS_CTRL n (bsWord 2 m) = true →
      let t := s.landed .BS_CTRL n (bsWord 2 m)
      exec (.bsArm q slot m) s = .next (s.taken (busy (t.setSlot n { t.slot n with arming := true, lost := none })))) ∧
    (s.admits q .BS_CTRL n (bsWord 3 m) = true → ∃ t, exec (.bsCancel q slot m) s = .next t ∧ aborted t 7) ∧
    (s.admits q .BS_CTRL n (bsWord 4 m) = true → ∃ t, exec (.bsClear q slot m) s = .next t ∧
      t.basket.slots = setAt ⟨[], false, 0, 0, 0, none⟩ s.basket.slots n ⟨[], false, 0, 0, 0, none⟩ ∧ t.reg .BS_STATE n = Reg.reset .BS_STATE n ∧
      t.reg .BS_INFO n = 0 ∧ t.get64 .BS_PNUM_LO .BS_PNUM_HI n = 0 ∧ t.get64 .BS_PEPOCH_LO .BS_PEPOCH_HI n = 0) ∧
    (s.pageLive 0x0B = true → x.arming = true →
      let u := busy (s.setSlot n { x with arming := false })
      (u.validate n = none → ∃ t, exec (.armValidationDone slot) s = .next t ∧ t.fget F.BS_STATE_STATE n = 2 ∧
        t.fbit F.BASKET_STATUS_ARMED 0 n = true) ∧
      (∀ r i, u.validate n = some (r, i) → r < 16 → i < 512 → ∃ t, exec (.armValidationDone slot) s = .next t ∧
        aborted t r ∧ t.fget F.BS_INFO_FAIL_ENTRY n = i)) ∧
    (s.performs q 0x0B = true →
      let t := if s.fget F.BS_RIDX_WORD n < 2 then s.fset F.BS_RIDX_WORD n (s.fget F.BS_RIDX_WORD n + 1)
        else (s.fset F.BS_RIDX_WORD n 0).fset F.BS_RIDX_INDEX n (s.fget F.BS_RIDX_INDEX n + 1)
      let w := match x.entries[s.fget F.BS_RIDX_INDEX n]? with
        | none => 0#32
        | some e => [e.addr, e.mask, e.value].getD (s.fget F.BS_RIDX_WORD n) 0#32
      exec (.bsRdataRead q slot) s = .next { t with answer := .ok w.toNat })

/-- What a press swaps. An epoch edge runs the presses: after its seams, the slots that meet their rule press, and
what the epoch that begins does leaves the basket alone. A slot that alone meets its rule opens the window; if its
check fails it is ABORTED, and if it passes, its WRITE entry stands in its register and the epoch is recorded. The
swap of a WRITE entry into its register gives the bits of its mask its value and leaves the others, and every other
register (but ANG_STATUS, whose alternate mark a swap in ANG_CFG takes back; a new WELQ_MAP may let queues go on). The
press check of a slot that has lost a shadow since its arm fails with reason 3 and names the entry, or a lower one
whose domain is off; the slot is then ABORTED with that reason and entry, nothing is swapped, and its interrupt waits
for the end of the window. -/
def Obligations.BasketPress : Prop :=
  (∀ (s : State) (conv : Conversions) (phase : Fin 1024) (due : Nat), s.epoch.next = some due →
    s.domLive .acq = true → s.pageClocked 0x20 = true → s.adcClock = true →
    let d := s.routerDrain 16
    let t := max due d.now
    let u := (d.elapse (t - d.now)).epochClose
    (u.epoch.running = false ∨ u.flag F.AIN_CTRL_RUN = true) →
    let num := (if u.epoch.running then (u.epoch.edges.headD (0, 0)).1 + 1 else u.epoch.firstNum.getD 0) % 2 ^ 64
    let a := u.edgeStart t num
    ∃ x, exec (.epochEdge conv phase) s = .next x ∧
      x.basket = ((a.edgeSeams t num phase.val).pressEdge a num t).basket) ∧
  (∀ (s old : State) (n num t : Nat), s.wf = true → n < 8 → (∀ k, k < 8 → s.bsPassed k t (old.bsSeamNum k) = false) →
    (∀ k, k < 8 → (s.bsMeets k t = true ↔ k = n)) → s.bsWaits n num = false → (s.slot n).twin = 0 →
    let p := s.pressEdge old num t
    p.basket.window = 6 ∧
    (∀ reason i, s.pressCheck n = some (reason, i) → reason < 16 → i < 512 →
      p.basket.closing = s.basket.closing ++ [(n, false)] ∧ p.fget F.BS_STATE_STATE n = 4 ∧
      p.fget F.BS_STATE_REASON n = reason ∧ p.fget F.BS_INFO_FAIL_ENTRY n = i) ∧
    (s.pressCheck n = none → p.basket.closing = s.basket.closing ++ [(n, true)] ∧
      p.get64 .BS_PEPOCH_LO .BS_PEPOCH_HI n = num % 2 ^ 64 ∧
      ∀ (e : Entry) (r : Reg) (k : Nat), (s.slot n).entries = [e] → e.op = 0 → regAt e.at = some (r, k) → r.ok k = true →
        (pageInfo (e.at / 0x1000)).any (fun i => s.domLive i.1) = true →
        r ∉ [.BS_STATE, .BS_PNUM_LO, .BS_PNUM_HI, .BS_PEPOCH_LO, .BS_PEPOCH_HI] →
        p.reg r k = (s.reg r k &&& ~~~e.mask) ||| (e.value &&& e.mask) ∧ p.basket.heldPages = [e.at / 0x1000])) ∧
  (∀ (s : State) (e : Entry) (r : Reg) (n : Nat), s.wf = true → regAt e.at = some (r, n) → r.ok n = true →
    (s.swapEntry e).reg r n = (s.reg r n &&& ~~~e.mask) ||| (e.value &&& e.mask) ∧
    ∀ (r' : Reg) (n' : Nat), r'.ok n' = true → (r', n') ≠ (r, n) →
      r' ≠ .ANG_STATUS → r ≠ .WELQ_MAP →
      (s.swapEntry e).reg r' n' = s.reg r' n') ∧
  ∀ (s : State) (n i : Nat), s.wf = true → n < 8 → i < 512 → (s.slot n).lost = some i →
    ∃ j, j ≤ i ∧ s.pressCheck n = some (3, j) ∧
      (j < i → ∃ e, (s.slot n).entries[j]? = some e ∧
        (pageInfo (e.at / 0x1000)).any (fun x => s.domPower x.1 == .off) = true) ∧
      ((s.slot n).twin = 0 →
        let t := s.pressFail n 3 j
        t.fget F.BS_STATE_STATE n = 4 ∧ t.fget F.BS_STATE_REASON n = 3 ∧ t.fget F.BS_INFO_FAIL_ENTRY n = j ∧
        t.fbit F.BASKET_STATUS_ARMED 0 n = false ∧
        s.sameArraysBut t [.BS_STATE, .BS_INFO, .BASKET_STATUS, .PAGE_STATUS])

/-- The filters and the stamps of the tach inputs. A new level that has stood for FILT ticks is accepted (time goes to
that tick): TACH_LEVEL shows it. If that is the active edge of an enabled input, at least 24 ticks after the last
accepted one, TACH_COUNT counts it and TACH_STAMP takes the epoch number and offset of the first tick of the new
level; less than 24 ticks after it, OVR is set and nothing is counted. A pin that takes a new level starts the filter;
with FILT 0 the level passes at once. -/
def Obligations.TachInputs : Prop :=
  ∀ (s : State) (n : Fin 32), s.wf = true → s.pageLive 0x18 = true → s.adcClock = true →
    let x := s.tach.getD n.val ⟨false, none, none, 0⟩
    let passes (u : State) (level : Bool) (t : Nat) : Prop :=
      u.fbit F.TACH_LEVEL_LEVEL 0 n.val = level ∧
      (s.fbit F.TACH_LEVEL_LEVEL 0 n.val ≠ level → level ≠ s.flag F.TACH_CFG_POL n.val →
        s.flag F.TACH_CFG_EN n.val = true → s.pageEn 0x18 = true →
        ((∀ l, x.last = some l → l + 24 ≤ t) →
          u.fget F.TACH_COUNT_COUNT n.val = (s.fget F.TACH_COUNT_COUNT n.val + 1) % 2 ^ 32 ∧
          u.get64 .TACH_STAMP_LO .TACH_STAMP_HI n.val =
            ((s.stampOf t).1 % 2 ^ 48 * 2 ^ 16 + (s.stampOf t).2) % 2 ^ 64) ∧
        (∀ l, x.last = some l → t < l + 24 →
          u.fbit F.TACH_OVR_OVR 0 n.val = true ∧ u.reg .TACH_COUNT n.val = s.reg .TACH_COUNT n.val ∧
          u.reg .TACH_STAMP_LO n.val = s.reg .TACH_STAMP_LO n.val))
    (∀ t, x.since = some t → ∃ u, exec (.tachFilterAccept n) s = .next u ∧ passes u x.pin t ∧
      u.now = max s.now (t + s.fget F.TACH_CFG_FILT n.val)) ∧
    (∀ (level : Bool) (dt : Nat), x.since = none →
      (s.fget F.TACH_CFG_FILT n.val = 0 → s.fbit F.TACH_LEVEL_LEVEL 0 n.val ≠ level →
        ∃ u, exec (.tachPinChange n level dt) s = .next u ∧ passes u level (s.now + dt) ∧ u.now = s.now + dt) ∧
      (s.fget F.TACH_CFG_FILT n.val ≠ 0 → s.fbit F.TACH_LEVEL_LEVEL 0 n.val ≠ level → x.pin ≠ level →
        ∃ u, exec (.tachPinChange n level dt) s = .next u ∧ u.now = s.now + dt ∧
          u.tach = setAt ⟨false, none, none, 0⟩ s.tach n.val { x with pin := level, since := some (s.now + dt) } ∧
          u.fbit F.TACH_LEVEL_LEVEL 0 n.val = s.fbit F.TACH_LEVEL_LEVEL 0 n.val))

/-- The commands of an angle engine. REACQ makes the engine acquire afresh at the next edge and takes the alternate
shaft back (at the write, the model's choice, log entry 37); LEARN starts a run when the engine is TRACKING with a
reference and a table that can be learned, and sets LEARN_ABORT otherwise; a run that has its revolutions puts the
mean of each tooth that it recorded in the inactive half, rounded to nearest, leaves the entries of the others (both
the model's choice, log entry 36) and asks for the swap; LOAD and SWAP wait for the edge; ANG_CFG takes its word and
ends the use of the alternate input; a table write goes into the inactive half, but not while a run is in progress; an
engine in ACQUIRING that has seen no edge for 2^37 ticks acquires afresh. -/
def Obligations.AngleCommands : Prop :=
  ∀ (s : State) (q : Requester) (k : Fin 32) (v : Word), s.wf = true →
    let n := k.val
    let e := s.eng n
    let ppr := max 1 (s.fget F.ANG_CFG_PPR n)
    let half := 1 - s.fget F.ANG_STATUS_TBL_HALF n
    (bits v 2 1 = 0 → s.admits q .ANG_CTRL n (v ||| 8#32) = true →
      ∃ t, exec (.angReacq q k v) s = .next t ∧ t.engines = setAt Engine.zero s.engines n { e with reacq := true } ∧
        t.flag F.ANG_CTRL_REACQ n = false ∧ t.flag F.ANG_STATUS_ALT_ACTIVE n = false) ∧
    (bits v 3 1 = 0 → s.admits q .ANG_CTRL n (v ||| 4#32) = true →
      let may : Prop := s.fget F.ANG_STATUS_STATE n = 2 ∧ s.flag F.ANG_STATUS_REF_SEEN n = true ∧ ppr ≤ 1024 ∧
        s.fget F.ANG_CFG_REF_MODE n ≠ 0
      (may → ∃ t, exec (.angLearn q k v) s = .next t ∧ t.flag F.ANG_STATUS_LEARN_BUSY n = true ∧
        t.engines = setAt Engine.zero s.engines n { e with learnRevs := 0, learnTimes := [], learnSums := [] } ∧
        t.flag F.PAGE_STATUS_BUSY (0x10 + n / 4) = true) ∧
      (¬may → ∃ t, exec (.angLearn q k v) s = .next t ∧ t.flag F.ANG_STATUS_LEARN_ABORT n = true ∧
        t.engines = s.engines ∧ t.flag F.ANG_STATUS_LEARN_BUSY n = s.flag F.ANG_STATUS_LEARN_BUSY n)) ∧
    (s.pageLive (0x10 + n / 4) = true → s.flag F.ANG_STATUS_LEARN_BUSY n = true → 2 ^ s.fget F.ANG_LOOP_LEARN_LOG2 n ≤ e.learnRevs →
      ∃ t, exec (.learnEnd k) s = .next t ∧ t.flag F.ANG_STATUS_LEARN_BUSY n = false ∧
        t.flag F.ANG_TBL_CTRL_SWAP n = true ∧ t.fget F.ANG_STATUS_TBL_HALF n = s.fget F.ANG_STATUS_TBL_HALF n ∧
        t.engines = setAt Engine.zero s.engines n { e with
          table := (e.learnSums.filter (fun y => y.1 < ppr)).foldl (fun t y => tblPut t (1024 * half + y.1)
            (toField 16 (saturate 16 (roundShift (s.fget F.ANG_LOOP_LEARN_LOG2 n) y.2)))) e.table
          learnRevs := 0, learnTimes := [], learnSums := [], learnSwap := true }) ∧
    (bits v 2 2 = 0 → s.admits q .ANG_CTRL n (v ||| 2#32) = true →
      ∃ t, exec (.angLoad q k v) s = .next t ∧ t.flag F.ANG_CTRL_LOAD n = true ∧ t.engines = s.engines ∧
        t.flag F.PAGE_STATUS_BUSY (0x10 + n / 4) = true) ∧
    (s.admits q .ANG_CFG n v = true →
      ∃ t, exec (.angCfgWrite q k v) s = .next t ∧ t.reg .ANG_CFG n = v ∧ t.flag F.ANG_STATUS_ALT_ACTIVE n = false ∧
        s.sameRegsBut t [(.ANG_CFG, n), (.ANG_STATUS, n)] ∧ s.samePartsBut t [.epoch, .late, .answer]) ∧
    (s.admits q .ANG_TBL_DATA n v = true →
      ∃ t, exec (.angTblDataWrite q k v) s = .next t ∧
        t.engines = (if s.flag F.ANG_STATUS_LEARN_BUSY n then s.engines else setAt Engine.zero s.engines n { e with
          table := tblPut e.table (1024 * half + s.fget F.ANG_TBL_IDX_INDEX n) (bits v 0 16) }) ∧
        t.fget F.ANG_TBL_IDX_INDEX n =
          (s.fget F.ANG_TBL_IDX_INDEX n + (if s.flag F.ANG_TBL_IDX_AUTOINC n then 1 else 0)) % 1024) ∧
    (s.admits q .ANG_TBL_CTRL n 1#32 = true →
      ∃ t, exec (.angTblSwap q k) s = .next t ∧ t.flag F.ANG_TBL_CTRL_SWAP n = true ∧ s.sameRegsBut t [(.ANG_TBL_CTRL, n)]) ∧
    (s.fget F.ANG_STATUS_STATE n = 1 → s.pageLive (0x10 + n / 4) = true → s.adcClock = true →
      ∃ t, exec (.acqTimeout k) s = .next t ∧ t.engines = setAt Engine.zero s.engines n (e.acquire e.angle e.jumped) ∧
        t.flag F.ANG_STATUS_REF_SEEN n = false)

/-- An epoch edge, and the soft seam. At an epoch edge, once the router has passed what came before it, time goes to
the edge's tick; with RUN at 0 the epoch in progress completes and no further edge is due; otherwise an epoch runs,
the edge is recorded with the next number, and the next edge has a tick. A gated AIN page, or PLL_ADC without a clock,
keeps the edge waiting (log entries 39 and 40). FIRE asks for one soft seam; a second request before it has fallen
sets SOFT_MERGED and asks for nothing. -/
def Obligations.EpochEdges : Prop :=
  (∀ (s : State) (conv : Conversions) (phase : Fin 1024) (due : Nat), s.epoch.next = some due →
    (s.domLive .acq = true → s.pageClocked 0x20 = true → s.adcClock = true →
      let u := s.routerDrain 16
      let t := max due u.now
      let num := if u.epoch.running then (u.epoch.edges.headD (0, 0)).1 + 1 else u.epoch.firstNum.getD 0
      (u.epoch.running = true → u.flag F.AIN_CTRL_RUN = false →
        ∃ x, exec (.epochEdge conv phase) s = .next x ∧ x.now = t ∧ x.epoch.running = false ∧ x.epoch.next = none ∧
          x.seams = s.seams) ∧
      ((u.epoch.running = false ∨ u.flag F.AIN_CTRL_RUN = true) →
        ∃ x, exec (.epochEdge conv phase) s = .next x ∧ x.now = t ∧ x.epoch.running = true ∧ x.epoch.firstNum = none ∧
          x.epoch.edges = ((num % 2 ^ 64, t) :: u.epoch.edges).take 8 ∧ x.epoch.next.isSome = true)) ∧
    ((s.pageClocked 0x20 = false ∨ s.adcClock = false) → exec (.epochEdge conv phase) s = .next s)) ∧
  ∀ (s : State) (q : Requester), s.wf = true → s.admits q .SEAM_SOFT 0 1#32 = true →
    (s.flag F.SEAM_SOFT_FIRE = false → ∃ t, exec (.softFire q) s = .next t ∧ t.flag F.SEAM_SOFT_FIRE = true ∧
      t.epoch = { s.epoch with softReq := some s.now } ∧ s.sameRegsBut t [(.SEAM_SOFT, 0)]) ∧
    (s.flag F.SEAM_SOFT_FIRE = true → ∃ t, exec (.softFire q) s = .next t ∧ t.flag F.SEAM_STATUS_SOFT_MERGED = true ∧
      t.epoch = s.epoch)

/-- The tick counters, the calendar and the alarm. At a raw tick the raw counter advances by one and the trimmed
counter by the steps of R341; when a SET is asked for both take its value and the fraction is 0. At a second boundary
the calendar advances as R346 gives, or takes the value of CAL_SET when a load is asked for. The alarm clears
ALARM_ARM and sets ALARM with its interrupt bit. VBAT_LOW is sampled at a second boundary while D_SEN is on. SET,
CAL_LOAD and CRC_CHECK, once written, read 1 with BUSY. -/
def Obligations.BackupTime : Prop :=
  ∀ (s : State) (q : Requester) (v : Word), s.wf = true →
    let tick := s.get64 .BKD_TICK_LO .BKD_TICK_HI
    let raw := s.get64 .BKD_RAW_LO .BKD_RAW_HI
    let frac : Int := (s.bkd.frac : Int) + s.fgetI F.BKD_TRIM_TRIM
    let held : Bool := decide (2 ^ 32 ≤ frac) && (tick + 1) % 2 ^ 15 == 0
    let ticks (i : Instr) : Prop := ∃ t, exec i s = .next t ∧
      (s.flag F.BKD_CTRL_SET = false →
        t.get64 .BKD_RAW_LO .BKD_RAW_HI = (raw + 1) % 2 ^ 48 ∧
        (frac < 0 → t.get64 .BKD_TICK_LO .BKD_TICK_HI = tick ∧ (t.bkd.frac : Int) = frac + 2 ^ 32) ∧
        (0 ≤ frac → frac < 2 ^ 32 ∨ held = true →
          t.get64 .BKD_TICK_LO .BKD_TICK_HI = (tick + 1) % 2 ^ 48 ∧ (t.bkd.frac : Int) = frac) ∧
        (2 ^ 32 ≤ frac → held = false →
          t.get64 .BKD_TICK_LO .BKD_TICK_HI = (tick + 2) % 2 ^ 48 ∧ (t.bkd.frac : Int) = frac - 2 ^ 32)) ∧
      (s.flag F.BKD_CTRL_SET = true →
        t.get64 .BKD_TICK_LO .BKD_TICK_HI = s.get64 .BKD_SET_LO .BKD_SET_HI ∧
        t.get64 .BKD_RAW_LO .BKD_RAW_HI = s.get64 .BKD_SET_LO .BKD_SET_HI ∧ t.bkd.frac = 0 ∧
        t.flag F.BKD_CTRL_SET = false ∧ t.reg .BKD_CAL_TIME = s.reg .BKD_CAL_TIME ∧ t.bkd.second = s.bkd.second)
    (tick < 2 ^ 48 → (s.bkd.lfxo = true ∨ (s.flag F.BKD_CTRL_SUBST = true ∧ s.power.senOn = true)) → s.bkd.second = false → s.bkd.alarm = false →
      ticks .rawTick ∧ (s.flag F.BKD_CTRL_SET = true → ticks .tickSetLoad)) ∧
    (s.bkd.second = true → ∀ low : Bool,
      (∃ t, exec (.secondBoundary low) s = .next t ∧
        t.flag F.BKD_STATUS_VBAT_LOW = (if s.power.senOn then low else s.flag F.BKD_STATUS_VBAT_LOW)) ∧
      (s.flag F.BKD_CTRL_CAL_LOAD = true → ∃ t, exec (.secondBoundary low) s = .next t ∧ t.bkd.second = false ∧
        t.reg .BKD_CAL_TIME = s.reg .BKD_CAL_SET_TIME ∧ t.reg .BKD_CAL_DATE = s.reg .BKD_CAL_SET_DATE ∧
        t.flag F.BKD_CTRL_CAL_LOAD = false) ∧
      (s.flag F.BKD_CTRL_CAL_LOAD = false → ∃ t, exec (.secondBoundary low) s = .next t ∧ t.bkd.second = false ∧
        let sec := s.fget F.BKD_CAL_TIME_SEC
        let min := s.fget F.BKD_CAL_TIME_MIN
        let hour := s.fget F.BKD_CAL_TIME_HOUR
        let day := s.fget F.BKD_CAL_DATE_DAY
        let month := s.fget F.BKD_CAL_DATE_MONTH
        let year := s.fget F.BKD_CAL_DATE_YEAR
        let c1 := sec == 59 || sec == 63
        let c2 := c1 && (min == 59 || min == 63)
        let c3 := c2 && (hour == 23 || hour == 31)
        let c4 := c3 && (day == monthLen month year || day == 31)
        let c5 := c4 && decide (12 ≤ month)
        t.fget F.BKD_CAL_TIME_SEC = (if c1 then 0 else sec + 1) ∧
        t.fget F.BKD_CAL_TIME_MIN = (if c2 then 0 else if c1 then min + 1 else min) ∧
        t.fget F.BKD_CAL_TIME_HOUR = (if c3 then 0 else if c2 then hour + 1 else hour) ∧
        t.fget F.BKD_CAL_DATE_WDAY =
          (if c3 then (if 6 ≤ s.fget F.BKD_CAL_DATE_WDAY then 0 else s.fget F.BKD_CAL_DATE_WDAY + 1)
            else s.fget F.BKD_CAL_DATE_WDAY) ∧
        t.fget F.BKD_CAL_DATE_DAY = (if c4 then 1 else if c3 then day + 1 else day) ∧
        t.fget F.BKD_CAL_DATE_MONTH = (if c5 then 1 else if c4 then month + 1 else month) ∧
        (year < 200 → t.fget F.BKD_CAL_DATE_YEAR = (if c5 then (if year = 199 then 0 else year + 1) else year)))) ∧
    (s.bkd.alarm = true → s.flag F.BKD_CTRL_ALARM_ARM = true → ∃ t, exec .alarmFire s = .next t ∧ t.bkd.alarm = false ∧
      t.flag F.BKD_CTRL_ALARM_ARM = false ∧ t.flag F.BKD_STATUS_ALARM = true ∧ t.fbit F.PAGE_IRQ_SOURCES 0x06 0 = true) ∧
    (s.admits q .BKD_CTRL 0 (v ||| 16#32) = true → ∃ t, exec (.bkdSet q v) s = .next t ∧ t.flag F.BKD_CTRL_SET = true ∧
      t.flag F.PAGE_STATUS_BUSY 0x06 = true ∧ t.get64 .BKD_TICK_LO .BKD_TICK_HI = tick) ∧
    (s.admits q .BKD_CTRL 0 (v ||| 32#32) = true → ∃ t, exec (.calLoad q v) s = .next t ∧
      t.flag F.BKD_CTRL_CAL_LOAD = true ∧ t.flag F.PAGE_STATUS_BUSY 0x06 = true ∧
      t.reg .BKD_CAL_TIME = s.reg .BKD_CAL_TIME) ∧
    (s.admits q .BKD_CTRL 0 (v ||| 64#32) = true → ∃ t, exec (.crcCheck q v) s = .next t ∧
      t.flag F.BKD_CTRL_CRC_CHECK = true ∧ t.flag F.PAGE_STATUS_BUSY 0x06 = true)

/-- The supply, the oscillator, the backup bytes and the wake pins. A switchover shows in ON_VBAT; its row also
carries a sample of VBAT_LOW, taken while D_SEN is on (the model's choice, log entry 125: R337 gives one sample in
each trimmed second). A dip of VBK above 1.4 V does nothing; between 1.2 V and 1.4 V the oscillator has stopped; below
it every backup register but the measurement unit's is at reset, BKD_STATUS with TIME_LOST at 1 among them, and so is
every bit of PAGE_IRQ but that of an abandoned measurement. A stopped oscillator sets OSC_STOPPED and its interrupt
bit, and the LFXO is no longer READY. START of the measurement begins a new one. A written backup word is stored with
the CRC over all bytes; a check compares them and sets BK_CRC_BAD on a difference, or when a dip has changed a byte
since the last check (log entry 107). A new level at a wake pin is accepted once it has held for the pin's FILT, and
at once while the LFXO is not READY: LEVEL shows it, and the active one sets its flag and its interrupt bit; a level
that is not accepted changes nothing. -/
def Obligations.BackupSupply : Prop :=
  ∀ (s : State) (q : Requester) (v : Word), s.wf = true →
    (∀ on low : Bool, ∃ t, exec (.vbkSwitchover on low) s = .next t ∧ t.flag F.BKD_STATUS_ON_VBAT = on ∧
      t.flag F.BKD_STATUS_VBAT_LOW = (if s.power.senOn then low else s.flag F.BKD_STATUS_VBAT_LOW)) ∧
    (∀ (mv : Nat) (bytes : List (Fin 64 × Byte)),
      (1400 ≤ mv → exec (.vbkDip mv bytes) s = .next s) ∧
      (1200 ≤ mv → mv < 1400 → ∃ t, exec (.vbkDip mv bytes) s = .next t ∧ t.flag F.BKD_STATUS_OSC_STOPPED = true ∧
        t.bkd.lfxo = false ∧ t.get64 .BKD_TICK_LO .BKD_TICK_HI = s.get64 .BKD_TICK_LO .BKD_TICK_HI) ∧
      (mv < 1200 → ∃ t, exec (.vbkDip mv bytes) s = .next t ∧ t.bkd = { Bkd.reset with meas := t.bkd.meas, lfxo := false } ∧
        ∀ (r : Reg) (n : Nat), r.ok n = true → r.page n = 0x06 →
          r ∉ [.BKD_MEAS_CTRL, .BKD_MEAS_TICKS, .BKD_MEAS_STATUS, .PAGE_IRQ] → t.reg r n = r.reset n) ∧
      (mv < 1200 → ∃ t, exec (.vbkDip mv bytes) s = .next t ∧ t.flag F.BKD_STATUS_TIME_LOST = true ∧
        (∀ b, b < 32 → b ≠ 6 → t.fbit F.PAGE_IRQ_SOURCES 0x06 b = false) ∧
        ∀ c ∈ t.freeze, c.group / 0x1000 ≠ 6)) ∧
    (∃ t, exec .oscStopDetect s = .next t ∧ t.flag F.BKD_STATUS_OSC_STOPPED = true ∧ t.bkd.lfxo = false ∧
      t.fbit F.PAGE_IRQ_SOURCES 0x06 3 = true ∧ (s.power.senOn = true → t.fbit F.CLK_READY_READY 0 0 = false)) ∧
    (s.admits q .BKD_MEAS_CTRL 0 (v ||| 0x80000000#32) = true → ∃ t, exec (.measStart q v) s = .next t ∧
      t.bkd.meas = some ⟨false, 0, 0, 0, true⟩ ∧ t.flag F.BKD_MEAS_CTRL_START = true) ∧
    (∀ w : Fin 16, s.admits q .BKD_BK w.val v = true → ∃ t, exec (.bkWrite q w v) s = .next t ∧ t.reg .BKD_BK w.val = v ∧
      t.fget F.BKD_BKCRC_CRC = (crc16 t.bkBytes) % 65536 ∧ s.sameRegsBut t [(.BKD_BK, w.val), (.BKD_BKCRC, 0)]) ∧
    (s.admits q .BKD_CTRL 0 (v ||| 64#32) = true → ∃ t, exec (.crcCheck q v) s = .next t ∧
      t.flag F.BKD_CTRL_CRC_CHECK = true ∧ t.flag F.PAGE_STATUS_BUSY 0x06 = true ∧ t.pageHeld 0x06 = true) ∧
    (s.flag F.BKD_CTRL_CRC_CHECK = true → ∃ t, exec .crcCheckDone s = .next t ∧ t.flag F.BKD_CTRL_CRC_CHECK = false ∧
      (crc16 s.bkBytes ≠ s.fget F.BKD_BKCRC_CRC ∨ s.bkd.changed = true → t.flag F.BKD_STATUS_BK_CRC_BAD = true) ∧
      (crc16 s.bkBytes = s.fget F.BKD_BKCRC_CRC → s.bkd.changed = false →
        t.flag F.BKD_STATUS_BK_CRC_BAD = s.flag F.BKD_STATUS_BK_CRC_BAD)) ∧
    (∀ (p : Fin 2) (level : Bool) (held : Nat) (phase : Fin 1024),
      let taken : Prop := level ≠ s.fbit F.BKD_WKPIN_LEVEL 0 p.val ∧
        (s.bkd.lfxo = false ∨ s.fget (if p.val = 0 then F.BKD_WKPIN_FILT0 else F.BKD_WKPIN_FILT1) ≤ held)
      (¬taken → exec (.wkupEdge p ⟨level, held⟩ phase) s = .next s) ∧
      (taken → ∃ t, exec (.wkupEdge p ⟨level, held⟩ phase) s = .next t ∧
        t.fbit F.BKD_WKPIN_LEVEL 0 p.val = level ∧
        (level = s.flag (if p.val = 0 then F.BKD_WKPIN_POL0 else F.BKD_WKPIN_POL1) →
          t.flag (if p.val = 0 then F.BKD_STATUS_PIN0 else F.BKD_STATUS_PIN1) = true ∧
          t.fbit F.PAGE_IRQ_SOURCES 0x06 (1 + p.val) = true)))

/-- Sources and selections of clocks. A source that is enabled, whose reference is READY and that is not READY becomes
READY, and the automatic selections follow. An admitted write of CLK_SEL or CLK_EN takes effect, and a source that
CLK_EN leaves off is not READY; a selection of a source that is not READY is refused with REFUSED and its interrupt
bit. A write to CLK_PEN leaves the bits of unmapped pages 0, those of the fixed pages 1, and those of pages with a
staged shadow as they were, with PEN_HELD when that keeps one. A failure that a monitor declares sets FAIL, clears
READY, and a domain that runs on the source waits; a failure of SENRC restarts the device. -/
def Obligations.ClockSources : Prop :=
  ∀ (s : State) (q : Requester) (v : Word), s.wf = true →
    (∀ i : Fin 18, s.srcOn i.val = true → (∀ r, s.refOf i.val = some r → s.isReady r = true) → s.isReady i.val = false →
      (i.val = 0 → s.power.senOn = true ∧ s.bkd.lfxo = false) →
      (∀ d, d < 4 → s.clkState (monDomain d) ≠ 1) →
      ∃ t, exec (.sourceReady i) s = .next t ∧ t.isReady i.val = true ∧
        (i.val = 0 → s.flag F.CLK_SEL_LF_AUTO = true → t.fget F.CLK_SEL_LF_SEL = 1) ∧
        (i.val = 4 → s.flag F.CLK_SEL_ACQ_AUTO = true → t.fget F.CLK_SEL_ACQ_SEL = 1) ∧
        ∀ j, j < 18 → j ≠ i.val → t.isReady j = s.isReady j) ∧
    (s.admits q .CLK_SEL 0 v = true → ∃ t, exec (.clkSelWrite q v) s = .next t ∧
      t.reg .CLK_SEL = mergeWord .CLK_SEL (s.reg .CLK_SEL) v ∧ s.sameRegsBut t [(.CLK_SEL, 0)]) ∧
    (s.performs q 0x03 = true → wordReserved .CLK_SEL 0 v = false → s.nowReserved .CLK_SEL 0 v = false →
      bits v 0 1 ≠ s.fget F.CLK_SEL_LF_SEL → s.isReady (if bits v 0 1 = 1 then 0 else 1) = false →
      ∃ t, exec (.clkSelWrite q v) s = .next t ∧ t.flag F.CLK_STATUS_REFUSED = true ∧ t.reg .CLK_SEL = s.reg .CLK_SEL ∧
        t.fbit F.PAGE_IRQ_SOURCES 0x03 0 = true) ∧
    (s.admits q .CLK_EN 0 v = true → ∃ t, exec (.clkEnWrite q v) s = .next t ∧
      t.reg .CLK_EN = mergeWord .CLK_EN (s.reg .CLK_EN) v ∧
      ∀ i, i ∈ [3, 4, 5, 6, 17] → t.srcOn i = false → t.isReady i = false) ∧
    (∀ w : Fin 8, s.admits q .CLK_PEN w.val v = true → ∃ t, exec (.clkPenWrite q w v) s = .next t ∧
      (∀ i, i < 32 →
        let p := 32 * w.val + i
        let old := (s.reg .CLK_PEN w.val).getLsbD i
        (t.reg .CLK_PEN w.val).getLsbD i = ((pageInfo p).isSome &&
          (penFixed p || v.getLsbD i || (old && s.slotMask p != 0))) ∧
        ((pageInfo p).isSome = true → old = true → s.slotMask p ≠ 0 → v.getLsbD i = false →
          t.flag F.CLK_STATUS_PEN_HELD = true))) ∧
    (∀ i : Fin 18, s.power.senOn = true → s.srcOn i.val = true → i.val ≠ 1 → i.val ≠ 2 →
      ∃ t, exec (.clockFail i) s = .next t ∧ t.fbit F.CLKMON_FAIL_FAIL 0 i.val = true ∧ t.isReady i.val = false ∧
        t.fbit F.PAGE_IRQ_SOURCES 0x04 0 = true ∧
        ∀ d, d ∈ srcDomains i.val → s.domPower (monDomain d) ≠ .off → s.clkState (monDomain d) = 0 →
          t.clkState (monDomain d) = 1) ∧
    (s.srcOn 2 = true → ∃ t, exec (.clockFail 2) s = .next t ∧ t.fget F.RST_CAUSE_CAUSE = 2 ∧
      t.reg .SYS_STRAPS = s.reg .SYS_STRAPS)

/-- What follows a clock failure. RESUME takes a HELD domain to RUN (with no swap held for it); RELEASE takes a domain
in RESET whose sources (log entry 105) are all READY to RUN, D_ANA only while D_ACQ is out of RESET; the timeout takes
one that is WAITING or HELD to RESET, with its interrupt bit, and does nothing to another. ANA_PG that falls while
ANA_EN is high puts D_ANA in RESET; when it rises after ANA_EN, D_ANA is switched on. -/
def Obligations.ClockMonitors : Prop :=
  ∀ (s : State) (q : Requester) (v : Word), s.wf = true →
    (s.basket.later = [] → s.admits q .CLKMON_CMD 0 (v &&& 0xFFFFF0FF#32) = true →
      ∃ t, exec (.clkmonResume q v) s = .next t ∧
        ∀ d, d < 4 → bits v d 1 = 1 → s.clkState (monDomain d) = 2 → t.clkState (monDomain d) = 0) ∧
    (s.admits q .CLKMON_CMD 0 (v &&& 0xFFFFFFF0#32) = true →
      ∃ t, exec (.clkmonRelease q v) s = .next t ∧
        ∀ d, d < 4 → bits v (8 + d) 1 = 1 → s.clkState (monDomain d) = 3 →
          (∀ i, i ∈ s.domSources d ++ s.clocks.wait.getD d [] → s.isReady i = true) → (d = 1 → s.clkState .acq ≠ 3) →
          t.clkState (monDomain d) = 0) ∧
    (∀ d : Fin 4,
      (s.clkState (monDomain d.val) = 1 ∨ s.clkState (monDomain d.val) = 2 → ∃ t, exec (.clkmonTimeout d) s = .next t ∧
        t.clkState (monDomain d.val) = 3 ∧ t.fbit F.PAGE_IRQ_SOURCES 0x04 2 = true) ∧
      (s.clkState (monDomain d.val) = 0 ∨ s.clkState (monDomain d.val) = 3 → exec (.clkmonTimeout d) s = .next s)) ∧
    (s.power.anaPg = true → ∃ t, exec .anaPgFall s = .next t ∧ t.power = { s.power with anaPg := false } ∧
      (s.power.ana ≠ .off → s.power.anaEn = true → t.clkState .ana = 3)) ∧
    (∀ (flipped : List Nat) (found : Contents), s.power.anaEn = true → s.power.anaPg = false →
      ∃ t, exec (.anaPgRise flipped found) s = .next t ∧ t.power.anaPg = true ∧
        t.power.ana = (if s.power.ana = .off then .on else s.power.ana))

/-- The operating points and the PMBus. DVFS_TARGET and DVFS_CAP take their word, and a write of a target above the
cap sets CAPPED. A transition sends the voltage of its target first and, downward, has the frequency changed already;
it ends when the regulator answers within 20 mV without an alert, and otherwise sets FAULT with its rail and takes the
target back to the point in force. A PMBus transaction runs with BUSY and ends with DONE; NACK, or the data of a read,
are kept. -/
def Obligations.OperatingPoints : Prop :=
  ∀ (s : State) (q : Requester) (v : Word), s.wf = true →
    let now (t : State) (rail : Nat) : Nat := if rail = 0 then t.fget F.DVFS_STATUS_ACQ_NOW else t.fget F.DVFS_STATUS_ANA_NOW
    (∀ cap : Bool,
      let r : Reg := if cap then .DVFS_CAP else .DVFS_TARGET
      s.admits q r 0 v = true → ∃ t, exec (.dvfsTargetWrite q cap v) s = .next t ∧ t.reg r = mergeWord r (s.reg r) v ∧
        (cap = true → t.reg .DVFS_STATUS = s.reg .DVFS_STATUS) ∧
        (cap = false →
          (s.fget F.DVFS_CAP_CAP < t.fget F.DVFS_TARGET_ACQ ∨ s.fget F.DVFS_CAP_CAP < t.fget F.DVFS_TARGET_ANA) →
          t.flag F.DVFS_STATUS_CAPPED = true ∧ t.fbit F.PAGE_IRQ_SOURCES 0x05 2 = true)) ∧
    (s.clocks.dvfs = none → s.pageEn 0x05 = true → ∀ rail, s.pointDue = some rail →
      ∃ t, exec .dvfsTransition s = .next t ∧
        t.clocks.dvfs = some (rail, s.pointTarget rail, decide (s.pointNow rail < s.pointTarget rail)) ∧
        t.flag F.PAGE_STATUS_BUSY 0x05 = true ∧
        t.fget F.PMB_AVS_SET_MV rail = s.fget F.DVFS_VOLT_MV (s.pointTarget rail) ∧
        now t rail = (if s.pointNow rail < s.pointTarget rail then s.pointNow rail else s.pointTarget rail)) ∧
    (∀ (answers alert : Bool) (mv : BitVec 16) (rail new : Nat) (up : Bool), rail < 2 → new < 6 →
      s.clocks.dvfs = some (rail, new, up) → s.pageLive 0x05 = true →
      let want := s.fget F.DVFS_VOLT_MV new
      let ok : Prop := answers = true ∧ alert = false ∧ mv.toNat ≤ want + 20 ∧ want ≤ mv.toNat + 20
      ∃ t, exec (.dvfsTransitionDone answers alert mv) s = .next t ∧ t.clocks.dvfs = none ∧
        t.flag F.PAGE_STATUS_BUSY 0x05 = false ∧ t.fbit F.PAGE_IRQ_SOURCES 0x05 0 = true ∧
        (ok → now t rail = if up then new else now s rail) ∧
        (¬ok → t.flag F.DVFS_STATUS_FAULT = true ∧ t.fget F.DVFS_STATUS_FAULT_RAIL = rail ∧ now t rail = now s rail ∧
          (if rail = 0 then t.fget F.DVFS_TARGET_ACQ else t.fget F.DVFS_TARGET_ANA) = now s rail)) ∧
    (s.admits q .PMB_CMD 0 (v ||| 0x80000000#32) = true → ∃ t, exec (.pmbStart q v) s = .next t ∧ t.clocks.pmb = true ∧
      t.flag F.PMB_CMD_START = true ∧ t.flag F.PAGE_STATUS_BUSY 0x64 = true) ∧
    (∀ (data : BitVec 16) (nack pec : Bool), s.clocks.pmb = true → ∃ t, exec (.pmbDone data nack pec) s = .next t ∧
      t.clocks.pmb = false ∧ t.flag F.PMB_STATUS_DONE = true ∧ t.flag F.PMB_CMD_START = false ∧
      (nack = true → t.flag F.PMB_STATUS_NACK = true ∧ t.reg .PMB_DATA = s.reg .PMB_DATA) ∧
      (nack = false → s.flag F.PMB_CMD_READ = true → s.fget F.PMB_CMD_LEN = 2 →
        t.fget F.PMB_DATA_DATA = data.toNat))

/-- The steps between the power modes. A step that may start and that a rule refuses leaves the mode and sets REFUSED
with its reason and its interrupt; otherwise it begins, with BUSY. A step down latches the RETN masks, of which those
of the analysis SRAM end with Night. Afternoon stops a running D_ANA, Evening switches D_ANA and D_MEM off, Night
switches D_ACQ and D_LNK off with their sources; the steps up switch them on again. At its end the mode is the new one
and PWR_LAST describes the step; the step to Noon is refused for DEPENDENCY when ANA_PG has not risen (log entry 65).
What a step keeps beside the rules, as the EN bits of the sources at the step to Evening, follows log entries 65 and
66. -/
def Obligations.PowerSteps : Prop :=
  ∀ (s : State) (flipped : List Nat) (found : Contents) (clocks : Nat), s.wf = true →
    let runs (i : Instr) (a b : Nat) (P : State → Prop) : Prop := s.canStep a b = true →
      (s.stepRefused a b ≠ 0 → ∃ t, exec i s = .next t ∧ t.flag F.PWR_STATUS_REFUSED = true ∧
        t.fget F.PWR_STATUS_REFUSE = s.stepRefused a b ∧ t.fget F.PWR_STATUS_TARGET = s.mode ∧ t.mode = s.mode ∧
        t.power = s.power ∧ t.fbit F.PAGE_IRQ_SOURCES 0x01 1 = true) ∧
      (s.stepRefused a b = 0 → ∃ t, exec i s = .next t ∧ t.power.step = some (a, b) ∧ t.mode = s.mode ∧
        t.flag F.PAGE_STATUS_BUSY 0x01 = true ∧
        (a < b → t.power.keep = (List.range 11).map (fun k => if b = 3 ∧ 3 ≤ k then 0 else (s.reg .RETN_KEEP k).toNat)) ∧ P t)
    runs .noonToAfternoon 0 1 (fun t => t.power.ana = (if s.power.ana = .on then .stopped else s.power.ana) ∧
      ∀ x, x < 4 → s.fget F.HBMC_STATE_STATE x = 2 → t.fget F.HBMC_STATE_STATE x = 3) ∧
    runs .afternoonToEvening 1 2 (fun t => t.power.ana = .off ∧ t.power.mem = .off ∧ t.power.anaEn = false ∧
      t.power.acq = s.power.acq) ∧
    runs .eveningToNight 2 3 (fun t => t.power.acq = .off ∧ t.power.lnk = .off ∧
      (∀ i, i ∈ [3, 4, 5, 6, 12, 13, 14, 15, 16, 17] → t.isReady i = false) ∧
      (s.flag F.PWR_CFG_NIGHT_SR = false → t.power.stkEn = false)) ∧
    runs .nightToMidnight 3 4 (fun t => t.mem = s.mem) ∧
    (s.basket.later = [] → runs .afternoonToNoon 1 0 (fun t =>
      t.power.ana = (if s.power.ana = .stopped then .on else s.power.ana) ∧
      ∀ x, x < 4 → s.fget F.HBMC_STATE_STATE x = 3 → t.fget F.HBMC_STATE_STATE x = 2)) ∧
    runs .eveningToNoon 2 0 (fun t => t.power.mem = .on ∧ t.power.anaEn = true) ∧
    runs (.nightToEvening flipped found) 3 2 (fun t => t.power.acq = .on ∧ t.power.lnk = .on ∧ t.power.stkEn = true ∧
      t.fget F.CLK_EN_EN = 15 ∧ t.fget F.DVFS_STATUS_ACQ_NOW = 1) ∧
    (∀ a b, a < 5 → b < 5 → s.power.step = some (a, b) → s.power.wake = none → s.power.thermal = false →
      (a = 2 ∧ b = 0 → s.power.anaPg = true) →
      (a = 1 ∧ b = 2 → s.clocks.dvfs = none ∧ s.fget F.DVFS_STATUS_ACQ_NOW = 1) →
      ∃ t, exec (.modeStepEnd clocks) s = .next t ∧ t.power.step = none ∧ t.mode = b ∧
        t.flag F.PAGE_STATUS_BUSY 0x01 = false ∧ t.fget F.PWR_LAST_FROM = a ∧ t.fget F.PWR_LAST_TO = b ∧
        t.fget F.PWR_LAST_CLOCKS = min clocks (2 ^ 26 - 1) ∧ t.fbit F.PAGE_IRQ_SOURCES 0x01 0 = true ∧
        t.fget F.PWR_STATUS_TARGET = s.fget F.PWR_STATUS_TARGET) ∧
    (s.power.step = some (2, 0) → s.power.anaPg = false → ∃ t, exec (.modeStepEnd clocks) s = .next t ∧
      t.power.step = none ∧ t.mode = s.mode ∧ t.power.mem = .off ∧ t.power.anaEn = false ∧
      t.flag F.PWR_STATUS_REFUSED = true ∧ t.fget F.PWR_STATUS_REFUSE = 2)

/-- Requests, wakes, power fail and temperature. A write to TARGET that S may make becomes the mode sought; a write to
PWR_ASK keeps the mode, the asker and its interrupt. An accepted power fail sets PFW and, with EN, asks for a soft
seam; at the end of its slot the mode sought is Evening, unless a thermal trip holds it. A failed main supply takes
everything off. A conversion shows its value, and above a threshold the flag of its sensor, with the action of HOT_ACT
above HOT. A thermal trip seeks Night. TARGET reads alike in both registers (log entry 9); when the power-fail slot,
HOT_ACT and a thermal trip set it, and when bit 4 is set, follows log entry 64. -/
def Obligations.PowerEvents : Prop :=
  ∀ (s : State) (q : Requester) (v : Word), s.wf = true →
    (s.admits q .PWR_CTRL 0 v = true → s.power.thermal = false → ∃ t, exec (.modeRequest q v) s = .next t ∧
      t.answer = .ok 0 ∧ t.fget F.PWR_CTRL_TARGET = bits v 0 3 ∧ t.fget F.PWR_STATUS_TARGET = bits v 0 3 ∧
      s.sameRegsBut t [(.PWR_CTRL, 0), (.PWR_STATUS, 0)]) ∧
    (s.admits q .PWR_ASK 0 v = true → ∃ t, exec (.pwrAsk q v) s = .next t ∧ t.answer = .ok 0 ∧
      t.fget F.PWR_ASK_MODE = bits v 0 3 ∧ t.fget F.PWR_ASK_ASKER = (s.who q).id % 8 ∧
      t.fbit F.PAGE_IRQ_SOURCES 0x01 2 = true ∧ t.fget F.PWR_STATUS_TARGET = s.fget F.PWR_STATUS_TARGET) ∧
    (∀ d b rest, s.unverified = (d, b) :: rest → ∃ t, exec .sealCheckDone s = .next t ∧
      t.fbit F.RETN_UNVER_UNVER (retnBit d b).1 (retnBit d b).2 = false ∧
      ((d * 256 + b, s.sealOf d b) ∉ s.power.seals →
        t.fbit F.RETN_BAD_BAD (retnBit d b).1 (retnBit d b).2 = true ∧ t.fbit F.PAGE_IRQ_SOURCES 0x07 1 = true) ∧
      (rest = [] → t.fbit F.PAGE_IRQ_SOURCES 0x07 2 = true ∧ (s.power.step = none → t.flag F.PAGE_STATUS_BUSY 0x07 = false))) ∧
    (∀ n : Fin 32,
      (s.fbit F.WAKE_TACH_ARM 0 n.val = false → exec (.tachWakeEdge n) s = .next s) ∧
      (s.fbit F.WAKE_TACH_ARM 0 n.val = true → s.power.senOn = true → s.power.step = none → s.mode = 3 →
        (s.reg .WAKE_EN).getLsbD 11 = true → ∃ t, exec (.tachWakeEdge n) s = .next t ∧
        (t.reg .WAKE_PEND).getLsbD 11 = true ∧ t.fbit F.PAGE_IRQ_SOURCES 0x02 0 = true ∧
        t.fget F.PWR_STATUS_TARGET = min (s.fget F.WAKE_CFG_TO) 3 ∧ t.power.thermal = false)) ∧
    exec .pfwAssert s = .next { s with power := { s.power with pfwPin := true } } ∧
    (s.power.pfwPin = true → s.pfw = false → s.power.senOn = true → ∃ t, exec .pfwAccept s = .next t ∧ t.pfw = true ∧
      t.power = { s.power with pfwWait := true } ∧ t.fbit F.PAGE_IRQ_SOURCES 0x01 3 = true ∧
      (s.flag F.PWR_PFW_EN = true → s.domLive .acq = true → t.flag F.SEAM_SOFT_FIRE = true)) ∧
    (s.power.pfwWait = true → ∃ t, exec .pfwSlotTimeout s = .next t ∧ t.power = { s.power with pfwWait := false } ∧
      t.fget F.PWR_STATUS_TARGET = (if s.power.thermal then s.fget F.PWR_STATUS_TARGET
        else 2) ∧
      (s.flag F.PWR_PFW_EN = true → s.fget F.BS_STATE_STATE (s.fget F.PWR_PFW_SLOT) = 4 → s.domLive .acq = true →
        t.flag F.PWR_STATUS_PFW_ABORT = true)) ∧
    (s.power.pfwPin = true → ∃ t, exec .pfwRelease s = .next t ∧ t.power = { s.power with pfwPin := false } ∧
      t.pfw = s.pfw ∧ (s.pfw = true → t.fbit F.PAGE_IRQ_SOURCES 0x01 4 = true)) ∧
    (s.power.pfwPin = false → s.pfw = true → ∃ t, exec .pfwClear s = .next t ∧ t.pfw = false ∧ t.power.pfwWait = false) ∧
    (s.power.senOn = true → ∃ t, exec .mainSupplyFail s = .next t ∧
      t.power = { Power.reset with pfwPin := s.power.pfwPin, senOn := false, ring := t.power.ring } ∧
      t.reg .BKD_TICK_LO = s.reg .BKD_TICK_LO ∧ t.reg .BKD_TICK_HI = s.reg .BKD_TICK_HI) ∧
    (∀ (n : Fin 8) (c : BitVec 16), s.pageEn 0x6E = true → ∃ t, exec (.tempConversion n c) s = .next t ∧
      t.reg .TEMP_V n.val = BitVec.ofNat 32 (0x10000 + c.toNat) ∧
      (16 * s.fgetI F.TEMP_WARN_WARN < c.toInt → s.temps.warned.contains n.val = false →
        t.fbit F.TEMP_STATUS_WARN 0 n.val = true ∧ t.fbit F.PAGE_IRQ_SOURCES 0x6E n.val = true) ∧
      (16 * s.fgetI F.TEMP_HOT_HOT < c.toInt → s.temps.hot.contains n.val = false →
        t.fbit F.TEMP_STATUS_HOT 0 n.val = true ∧ t.fbit F.PAGE_IRQ_SOURCES 0x6E (8 + n.val) = true ∧
        (s.fget F.TEMP_CTRL_HOT_ACT = 1 → t.fget F.DVFS_CAP_CAP = 0) ∧
        (s.fget F.TEMP_CTRL_HOT_ACT = 2 → s.power.thermal = false → t.fget F.PWR_STATUS_TARGET = 1))) ∧
    (s.power.senOn = true → ∃ t, exec .thermTrip s = .next t ∧ t.flag F.PWR_STATUS_THERM_TRIP = true ∧
      t.fget F.PWR_CTRL_TARGET = 3 ∧ t.fget F.PWR_STATUS_TARGET = 3 ∧ t.power = { s.power with thermal := true } ∧
      t.fbit F.PAGE_IRQ_SOURCES 0x01 5 = true)

/-- Power-on, restarts, the ROM copies and the boot mailbox. D_SEN powers on with the straps, the level of each bank
and the protocols of the flash, every switched domain off, and a wake from Midnight recorded (log entry 66). A device
restart keeps the straps and records its cause; a write of the key to RESTART is one with cause 3. When ROM_S is
copied and the boot record is empty, its steps up to 5 switch D_ACQ on at OP1 and record the start; when ROM_C is
copied, C0 runs and, in a full start, so does its page. A parked S tries again at a retry. A write to the mailbox sets
PEND and its interrupt; while the ROMs run, its BEGIN, DONE or failure goes into the record at once and PEND is clear
again, and otherwise it waits (log entry 68). MEND and MEAS_LOCK set. -/
def Obligations.BootStart : Prop :=
  ∀ (s : State) (q : Requester) (v : Word) (found rom : Contents) (vio : Fin 64) (modes : Fin 16), s.wf = true →
    let offed (t : State) : Prop := t.power.acq = .off ∧ t.power.ana = .off ∧ t.power.mem = .off ∧ t.power.lnk = .off ∧
      t.power.senOn = true ∧ t.mode = 0 ∧ t.boot = Boot.reset
    let fresh (i : Instr) : Prop := ∃ t, exec i s = .next t ∧ t.power.acq = .on ∧ t.boot.parked = false ∧
      t.recGet 1 0 5 = 5 ∧ t.recGet 1 5 1 = 0 ∧ t.recGet 0 0 8 = 1 ∧ t.recGet 6 0 4 = s.fget F.RST_CAUSE_CAUSE ∧
      t.fget F.DVFS_STATUS_ACQ_NOW = 1
    (∀ d : Fin 32, ∃ t, exec (.dsenPowerOn d ⟨vio, modes⟩) s = .next t ∧ offed t ∧ t.power.ring.vio = vio.val ∧ t.xspi.modes = modes.val ∧
      t.fget F.SYS_STRAPS_DEVID = d.val ∧
      t.flag F.SYS_STRAPS_DEVID_BAD = decide (24 ≤ d.val) ∧ t.fget F.RST_CAUSE_CAUSE = 0 ∧
      (s.power.senOn = false → (t.reg .WAKE_PEND).getLsbD 17 = true ∧ bits (t.reg .WAKE_LAST) 27 3 = 4 ∧
        t.bkd.wake = none ∧ t.bkd.fell = false ∧
        (s.bkd.wake = none ∨ s.bkd.fell = true → bits (t.reg .WAKE_LAST) 19 5 = 17) ∧
        ∀ mask k r, s.bkd.wake = some (mask, k, r) →
          (∀ c, c < 32 → Nat.testBit mask c = true → (t.reg .WAKE_PEND).getLsbD c = true) ∧
          (s.bkd.fell = false → ∀ c, c < 32 → Nat.testBit mask c = true → (∀ e, e < c → Nat.testBit mask e = false) →
            bits (t.reg .WAKE_LAST) 19 5 = c))) ∧
    (∀ c : Fin 6, s.power.senOn = true → c.val ≠ 0 → ∃ t, exec (.deviceRestart c) s = .next t ∧ offed t ∧
      t.fget F.RST_CAUSE_CAUSE = c.val ∧ t.reg .SYS_STRAPS = s.reg .SYS_STRAPS ∧ t.reg .BKD_BK = s.reg .BKD_BK) ∧
    (s.admits q .RESTART 0 v = true → ∃ t, exec (.restartWrite q v) s = .next t ∧ offed t ∧
      t.fget F.RST_CAUSE_CAUSE = 3 ∧ t.reg .SYS_STRAPS = s.reg .SYS_STRAPS ∧ t.answer = .ok 0) ∧
    (s.recZero = true → s.basket.later = [] →
      (s.boot.copying.contains 0 = true → fresh (.romCopyDone 0 none rom found)) ∧
      (s.boot.parked = true → fresh (.holdRetry none found))) ∧
    (s.boot.copying.contains 1 = true → ∃ t, exec (.romCopyDone 1 none rom found) s = .next t ∧ t.boot.running = true ∧
      t.boot.copying.contains 1 = false ∧
      (s.mode = 0 → s.power.step = none → t.flag F.CORE_CTRL_RUN 0 = true ∧ t.flag F.PAGE_CTRL_EN 0x70 = true) ∧
      (s.mode ≠ 0 → t.recGet 6 0 4 = 7)) ∧
    (s.admits q .BOOT_MBOX 0 v = true →
      let st := bits v 0 5
      ∃ t, exec (.bootMbox q v) s = .next t ∧
        (s.boot.running = false → t.flag F.BOOT_MBOX_PEND = true ∧ t.fbit F.PAGE_IRQ_SOURCES 0x6A 0 = true ∧
          t.boot = s.boot ∧ t.reg .BKD_BK = s.reg .BKD_BK) ∧
        (s.boot.running = true →
          (bits v 5 3 = 0 → st < 6 → t.flag F.BOOT_MBOX_PEND = false ∧ t.fbit F.PAGE_IRQ_SOURCES 0x6A 0 = true ∧
            t.recGet 1 0 5 = st ∧ t.recGet 1 5 1 = 0 ∧ t.boot = { s.boot with step := st, bad := none }) ∧
          (bits v 5 3 = 0 → 6 ≤ st → st ≠ 8 → t.fget F.BOOT_STATUS_STEP = st ∧
            t.fget F.WD_TIMEOUT_MS 0 = stepBudget st ∧ t.flag F.WD_CTRL_EN 0 = true) ∧
          (bits v 5 3 = 1 → 1 ≤ st → st < 16 → s.boot.step ≠ st → t.flag F.BOOT_MBOX_PEND = false ∧
            t.recFail st = false ∧ t.boot = s.boot) ∧
          (2 ≤ bits v 5 3 → 1 ≤ st → st ≤ 16 → t.recFail st = true))) ∧
    (s.admits q .BOOT_CTRL 0 (v ||| maskOf 4 1) = true → ∃ t, exec (.bootMend q v) s = .next t ∧
      t.flag F.BOOT_CTRL_MEND = true ∧ (s.flag F.BOOT_CTRL_MEND = false → t.fbit F.PAGE_IRQ_SOURCES 0x6A 1 = true)) ∧
    (s.admits q .BOOT_CTRL 0 (v ||| maskOf 0 1) = true → ∃ t, exec (.measLock q v) s = .next t ∧
      t.flag F.BOOT_CTRL_MEAS_LOCK = true)

/-- Mend frames and the watchdogs. A whole frame with a good CRC and a new sequence number waits as a command; one
with a bad CRC on UART0 is answered with status 1 and a repeated one with the reply before, which stays. Each command,
when carried out, answers with its status in the reply and leaves no frame waiting, with the effect that R443 gives.
LEAVE restarts the device; after a frame through P0 it waits for the host to read the reply (log entry 72). A good
kick within the window reloads the count; a bad one sets BAD_KICK and expires the watchdog, whether it runs or not; a
kick on the LF tick of an expiry ends in expiry (log entry 71). An expiry sets EXPIRED and its interrupt and acts as
ACTION says. -/
def Obligations.MendAndWatchdogs : Prop :=
  ∀ (s : State) (q : Requester) (v : Word) (cmd seq arg : Nat) (data : List Byte) (p0 ok : Bool), s.wf = true →
    let waits (c : Nat) : Prop := s.mend.todo = some (c, seq, arg, data, p0)
    let answered (t : State) (c st : Nat) (d : List Byte) : Prop := t.mend.todo = none ∧
      t.mend.reply = mendReply c seq st d ∧ (if p0 then t.mend.ready = true else t.mend.sent = t.mend.reply)
    (s.mend.on = true → s.mend.todo = none → s.mend.prev ≠ some seq → 1 ≤ cmd → cmd ≤ 6 →
      mendParse (if p0 then s.mend.win else s.mend.rx) = some (cmd, seq, arg, data, true) →
      ∃ t, exec (.mendFrame p0) s = .next t ∧ t.mend.todo = some (cmd, seq, arg, data, p0) ∧ t.mend.prev = some seq ∧
        (if p0 then t.mend.win = [] else t.mend.rx = []) ∧ t.regs = s.regs ∧ s.samePartsBut t [.mend]) ∧
    (s.mend.on = true → s.mend.todo = none → p0 = false → mendParse s.mend.rx = some (cmd, seq, arg, data, false) →
      ∃ t, exec (.mendFrame p0) s = .next t ∧ t.mend = { s.mend with rx := [], sent := mendReply cmd seq 1 [] } ∧
        t.regs = s.regs ∧ s.samePartsBut t [.mend]) ∧
    (s.mend.on = true → s.mend.todo = none → p0 = false → s.mend.prev = some seq →
      mendParse s.mend.rx = some (cmd, seq, arg, data, true) →
      ∃ t, exec (.mendFrame p0) s = .next t ∧ t.mend = { s.mend with rx := [], sent := s.mend.reply } ∧
        t.regs = s.regs ∧ s.samePartsBut t [.mend]) ∧
    exec .mendFrameGap s = .next { s with mend := { s.mend with rx := [] } } ∧
    (waits 1 → ∃ t d, exec .helloMend s = .next t ∧ answered t 1 0 d) ∧
    (waits 6 → p0 = false → ∃ t, exec .mendLeave s = .next t ∧ t.fget F.RST_CAUSE_CAUSE = 4 ∧
      t.mend = { Mend.reset with sent := mendReply 6 seq 0 [] }) ∧
    (waits 6 → p0 = true → ∃ t, exec .mendLeave s = .next t ∧ answered t 6 0 [] ∧ t.regs = s.regs ∧
      s.samePartsBut t [.mend]) ∧
    (∀ h, s.header = some h →
      let base (slot : Nat) := s.slotBase h slot
      let size := s.flashNum (h + 0x18) 4
      (waits 2 → arg ≤ 1 → ∃ t, exec (.mendErase ok) s = .next t ∧ answered t 2 (if ok then 0 else 4) [] ∧
        t.mend.verified = setAt 0 s.mend.verified arg 0 ∧
        ∀ a, t.flashByte a = if ok = true ∧ base arg ≤ a ∧ a < base arg + size then 0xFF#8 else s.flashByte a) ∧
      (waits 3 → arg % 2 ^ 31 = arg % 2 ^ 25 → arg % 256 = 0 → arg % 2 ^ 25 + data.length ≤ size →
        let a := base (arg / 2 ^ 31) + arg % 2 ^ 25
        ∃ t, exec (.mendWrite ok) s = .next t ∧ answered t 3 (if ok then 0 else 4) [] ∧
          (∀ k, k < data.length → t.flashByte (a + k) =
            if ok = true then s.flashByte (a + k) &&& data.getD k 0 else s.flashByte (a + k)) ∧
          ∀ x, x < a ∨ a + data.length ≤ x → t.flashByte x = s.flashByte x) ∧
      (waits 4 → arg ≤ 1 → ∃ t, exec .mendVerify s = .next t ∧ t.flash = s.flash ∧
        (s.manifestCheck (base arg) size = 0 → s.digestsOk (base arg) = true →
          answered t 4 0 [] ∧ t.mend.verified = setAt 0 s.mend.verified arg 1) ∧
        (s.manifestCheck (base arg) size ≠ 0 → answered t 4 5 (leBytes 1 (s.manifestCheck (base arg) size)) ∧
          t.mend.verified = setAt 0 s.mend.verified arg 2) ∧
        (s.manifestCheck (base arg) size = 0 → s.digestsOk (base arg) = false → answered t 4 5 (leBytes 1 5))) ∧
      (waits 5 → arg ≤ 1 → s.fuses.life ≠ 0 → ∃ t, exec (.mendSelect ok) s = .next t ∧
        (s.mend.verified.getD arg 0 ≠ 1 → answered t 5 3 [] ∧ t.flash = s.flash) ∧
        (s.mend.verified.getD arg 0 = 1 → ok = false → answered t 5 4 [] ∧ t.flash = s.flash) ∧
        (s.mend.verified.getD arg 0 = 1 → ok = true → answered t 5 0 [] ∧ t.recGet 5 3 1 = 0 ∧ t.recGet 5 7 1 = 0 ∧
          t.flash = (s.headerWrite [(5, leBytes 1 arg), (6, [0#8]), (0x0C, leBytes 4 1)]).flash))) ∧
    (∀ d : Fin 5,
      (s.admits q .WD_KICK d.val v = true → ∃ t, exec (.wdKick q d v) s = .next t ∧ t.answer = .ok 0 ∧
        let due : Bool := s.wdRuns d.val && (s.wdt d.val).left == 0
        let good : Bool := !due && bits v 0 16 == 0x5AC3 &&
          decide (msTicks (s.fget F.WD_WINDOW_MS d.val) ≤ (s.wdt d.val).since)
        (good = true → t.wdts = setAt ⟨0, 0⟩ s.wdts d.val ⟨msTicks (s.fget F.WD_TIMEOUT_MS d.val), 0⟩ ∧
          t.reg .WD_STATUS d.val = s.reg .WD_STATUS d.val) ∧
        (good = false → s.fget F.WD_CTRL_ACTION d.val ≠ 2 → t.flag F.WD_STATUS_EXPIRED d.val = true ∧
          (due = false → t.flag F.WD_STATUS_BAD_KICK d.val = true) ∧ t.fbit F.PAGE_IRQ_SOURCES 0x67 d.val = true ∧
          t.wdts = setAt ⟨0, 0⟩ s.wdts d.val ⟨msTicks (s.fget F.WD_TIMEOUT_MS d.val), 0⟩) ∧
        (good = false → s.fget F.WD_CTRL_ACTION d.val = 1 → t.flag F.CORE_CTRL_RUN (coreReg (wdCore d.val)) = false) ∧
        (good = false → s.fget F.WD_CTRL_ACTION d.val = 2 → t.fget F.RST_CAUSE_CAUSE = 1)) ∧
      (s.wdRuns d.val = true → (s.wdt d.val).left = 0 → ∃ t, exec (.wdExpiry d) s = .next t ∧
        (s.fget F.WD_CTRL_ACTION d.val ≠ 2 → t.flag F.WD_STATUS_EXPIRED d.val = true ∧
          t.fbit F.PAGE_IRQ_SOURCES 0x67 d.val = true ∧
          t.wdts = setAt ⟨0, 0⟩ s.wdts d.val ⟨msTicks (s.fget F.WD_TIMEOUT_MS d.val), 0⟩) ∧
        (s.fget F.WD_CTRL_ACTION d.val = 1 → t.flag F.CORE_CTRL_RUN (coreReg (wdCore d.val)) = false) ∧
        (s.fget F.WD_CTRL_ACTION d.val = 2 → t.fget F.RST_CAUSE_CAUSE = 1)) ∧
      (s.wdRuns d.val = false → exec (.wdExpiry d) s = .next s))

/-- Stream headers on demand, the resampler lanes and the HBM controllers. HDR_NOW asks for a stream header. A lane
takes a frame: one with a bad qualifier or a gap in the numbers is a break, and a first frame opens its window. A COPY
runs with BUSY and leaves the inactive half equal to the active one; a table word goes into the inactive half; a SWAP
is carried out at once in a lane that is OFF and whose half is full. TRAIN_START begins a training attempt, or waits
for STK_PG; its end gives UP or, after two full attempts, FAILED. The rinse moves on by a block that the governor
admits (log entry 47). When STK_PG falls every stack fails, and what waits for it fails after the timeout. -/
def Obligations.LanesAndStacks : Prop :=
  ∀ (s : State) (q : Requester) (v : Word), s.wf = true →
    (∀ i : Fin 64, s.admits q .STR_CTRL i.val (v ||| maskOf 31 1) = true → ∃ t, exec (.hdrNow q i v) s = .next t ∧
      t.answer = .ok 0 ∧ t.flag F.STR_CTRL_HDR_NOW i.val = true) ∧
    (∀ l : Fin 16,
      let x := s.lane l.val
      let putsLane (t : State) (y : Lane) : Prop := t.chains.lanes = setAt Lane.reset s.chains.lanes l.val y
      let half := 1 - s.fget F.RL_STATUS_HALF l.val
      let calm : Prop := s.flag F.RL_CTRL_SWAP l.val = false ∨ s.fget F.RL_STATUS_STATE l.val ≠ 0
      (∀ f rest, x.fifo = f :: rest → x.out = [] → s.pageClocked (0x30 + l.val / 8) = true → s.adcClock = true →
        s.flag F.RL_CTRL_EN l.val = true → s.pageEn (0x30 + l.val / 8) = true → s.fget F.RL_STATUS_STATE l.val = 1 →
        x.grid = (s.fget F.RL_CFG_M l.val, s.fget F.RL_CFG_REC_LOG2 l.val) →
        ∃ t, exec (.laneFrame l) s = .next t ∧
          (f.qual = 2 → t.fget F.RL_STATUS_STATE l.val = 1 ∧
            putsLane t { x with fifo := rest, frames := [], point := none, part := none }) ∧
          (f.qual ≠ 2 → s.rlDestOk l.val = false → t.flag F.RL_STATUS_DEST_OFF l.val = true ∧
            t.fget F.RL_STATUS_STATE l.val = 1) ∧
          (f.qual ≠ 2 → s.rlDestOk l.val = true → ∀ p, x.frames.getLast? = some p → f.seq ≠ p.seq + 1 →
            t.fget F.RL_STATUS_STATE l.val = 1 ∧
            putsLane t { x with fifo := rest, frames := [f], point := none, part := none }) ∧
          (f.qual ≠ 2 → s.rlDestOk l.val = true → x.frames = [] → putsLane t { x with fifo := rest, frames := [f] })) ∧
      (s.admits q .RL_CTRL l.val (v ||| maskOf 9 1) = true → ∃ t, exec (.rlCopy q l v) s = .next t ∧
        t.flag F.RL_CTRL_COPY l.val = true ∧ t.flag F.PAGE_STATUS_BUSY (0x30 + l.val / 8) = true) ∧
      (s.flag F.RL_CTRL_COPY l.val = true → s.pageLive (0x30 + l.val / 8) = true → calm → ∃ t tbl, exec (.rlCopyDone l) s = .next t ∧
        t.flag F.RL_CTRL_COPY l.val = false ∧ putsLane t { x with table := tbl, written := List.range 83 } ∧
        tbl = (List.range 83).foldl (fun a e => tblPut a (128 * half + e)
          (tblGet x.table (128 * s.fget F.RL_STATUS_HALF l.val + e))) x.table) ∧
      (s.admits q .RL_TBL_DATA l.val v = true → s.flag F.RL_CTRL_COPY l.val = false → calm →
        let i := s.fget F.RL_TBL_IDX_INDEX l.val
        ∃ t, exec (.rlTblDataWrite q l v) s = .next t ∧ t.answer = .ok 0 ∧
          putsLane t { x with table := tblPut x.table (128 * half + i) v.toNat,
                              written := if x.written.contains i then x.written else x.written ++ [i] } ∧
          t.fget F.RL_TBL_IDX_INDEX l.val = (if s.flag F.RL_TBL_IDX_AUTOINC l.val then (if 82 ≤ i then 0 else i + 1) else i)) ∧
      (s.admits q .RL_CTRL l.val (v ||| maskOf 8 1) = true → s.epoch.running = true ∨ s.fget F.RL_STATUS_STATE l.val = 0 →
        ∃ t, exec (.rlSwap q l v) s = .next t ∧
        let now : Bool := s.fget F.RL_STATUS_STATE l.val == 0 && s.fget F.RL_FILL_FILL l.val == 83
        t.flag F.RL_CTRL_SWAP l.val = !now ∧
        t.fget F.RL_STATUS_HALF l.val = (if now then half else s.fget F.RL_STATUS_HALF l.val) ∧
        (now = true → t.fbit F.PAGE_IRQ_SOURCES (0x30 + l.val / 8) (8 + l.val % 8) = true))) ∧
    (∀ x : Fin 4,
      let k := s.stack x.val
      let putsStack (t : State) (y : HbmStack) : Prop := t.lines.hbm = setAt HbmStack.reset s.lines.hbm x.val y
      (s.admits q .HBMC_CTRL x.val (v ||| maskOf 0 1) = true → ∃ t, exec (.trainStart q x v) s = .next t ∧
        (s.power.stkPg = true → t.fget F.HBMC_STATE_STATE x.val = 1 ∧ t.flag F.PAGE_STATUS_BUSY (0x3A + x.val) = true ∧
          putsStack t { k with
            fulls := 0, mode := some (s.fget F.HBMC_CFG_TRAIN x.val),
            lanes := s.darn.hbmLanes.filter (fun e => e % 4 == x.val) }) ∧
        (s.power.stkPg = false → t.fget F.HBMC_STATE_STATE x.val = s.fget F.HBMC_STATE_STATE x.val ∧
          putsStack t { k with waitPg := some (s.fget F.HBMC_CFG_TRAIN x.val) })) ∧
      (∀ (settings : List Word) (lanes : List Nat) (m : Nat), m < 3 → k.mode = some m → s.pageLive (0x3A + x.val) = true →
        (m < 2 → ∃ t, exec (.trainingDone x true settings lanes) s = .next t ∧ t.fget F.HBMC_STATE_STATE x.val = 2 ∧
          t.fget F.HBMC_STATE_HOW x.val = m + 1 ∧ t.flag F.PAGE_STATUS_BUSY (0x3A + x.val) = false) ∧
        (m = 0 → k.fulls = 0 → ∃ t, exec (.trainingDone x false settings lanes) s = .next t ∧
          putsStack t { k with fulls := 1 }) ∧
        (m = 0 → k.fulls ≠ 0 → ∃ t, exec (.trainingDone x false settings lanes) s = .next t ∧
          t.fget F.HBMC_STATE_STATE x.val = 4 ∧ putsStack t { k with mode := none, copy := none }) ∧
        (m = 1 → ∃ t, exec (.trainingDone x false settings lanes) s = .next t ∧ putsStack t { k with mode := some 0 } ∧
          t.fbit F.PAGE_IRQ_SOURCES (0x3A + x.val) 2 = true)) ∧
      (∀ rows count temp : Nat, rows < 65536 → count < 65536 → temp < 256 → s.fget F.HBMC_STATE_STATE x.val = 2 →
        s.pageLive (0x3A + x.val) = true →
        ∃ t, exec (.ecsRead x rows count temp) s = .next t ∧ t.fget F.HBMC_ECS_ROWS x.val = rows ∧
          t.fget F.HBMC_ECS_COUNT x.val = count ∧ t.fget F.HBMC_STATE_TEMP x.val = temp ∧
          s.sameRegsBut t [(.HBMC_ECS, x.val), (.HBMC_STATE, x.val)])) ∧
    (let l := s.fget F.RINSE_POS_LINE
     let b := s.fget F.RINSE_POS_BLOCK
     s.flag F.RINSE_CTRL_EN = true → s.pageEn 0x3E = true → s.hbmUp = true → s.lineOn l = true → b + 1 < s.lineB l → l < 64 →
      s.lines.grants.contains 7 = true ∨ s.lines.owed = [] ∧
        s.govFits 4 (4096 + 32 * s.rinseFixes (s.fget F.LINE_BASE_UNITS l * 2 ^ 21 + 4096 * b)) = true →
      ∃ t, exec .rinseRead s = .next t ∧ t.fget F.RINSE_POS_LINE = l ∧ t.fget F.RINSE_POS_BLOCK = b + 1 ∧
        ∀ e, e ∈ t.ecc → s.fget F.LINE_BASE_UNITS l * 2 ^ 21 + 4096 * b ≤ e.1 →
          e.1 < s.fget F.LINE_BASE_UNITS l * 2 ^ 21 + 4096 * b + 4096 → e.2 = true) ∧
    (s.power.stkPg = true → ∃ t, exec .stkPgFall s = .next t ∧ t.power = { s.power with stkPg := false } ∧
      (s.power.stkEn = true → ∀ x, x < 4 → t.fget F.HBMC_STATE_STATE x = 4)) ∧
    (s.power.stkPg = false → s.power.stkEn = true →
      (∃ t, exec .stkPgTimeout s = .next t ∧ ∀ x, x < 4 → (s.stack x).waitPg.isSome = true →
        t.fget F.HBMC_STATE_STATE x = 4 ∧ (t.stack x).waitPg = none) ∧
      (∃ t, exec .stkPgRise s = .next t ∧ t.power = { s.power with stkPg := true } ∧ ∀ x m, x < 4 →
        (s.stack x).waitPg = some m → t.fget F.HBMC_STATE_STATE x = 1 ∧ (t.stack x).waitPg = none ∧ (t.stack x).mode = some m))

/-- Lines, pegs and fetches. The writer takes an item into the open block of its line, and discards one whose line is
off with DISCARD. A flush that has room completes the open block, whose sequence number advances. A line that is
switched on starts with an empty open block. A window of the governor starts from nothing used. The short line gives
up its oldest block while it drains. SET, ARM, FIRE and RELEASE change the state of the selected peg as R154 gives, or
leave a reason with REFUSED. A fetch begins with BUSY and ends with DONE, once the governor has admitted each of its
blocks (log entry 47). -/
def Obligations.LinesAndPegs : Prop :=
  ∀ (s : State) (q : Requester) (v : Word), s.wf = true →
    let seq (t : State) (l : Nat) := t.get64 .LINE_SEQ_LO .LINE_SEQ_HI l
    (∀ (src : Fin 80) (it : LineItem) (rest : List LineItem), s.lineFifo src.val = it :: rest → it.line < 64 →
      s.pageLive 0x38 = true →
      (s.lineOn it.line = false → ∃ t, exec (.lineItem src) s = .next t ∧ t.lineFifo src.val = rest ∧
        t.flag F.LINE_STATUS_DISCARD it.line = true ∧ t.fbit F.PAGE_IRQ_SOURCES 0x38 5 = true) ∧
      (s.lineOn it.line = true → s.lineRoom = false → exec (.lineItem src) s = .next s) ∧
      (s.lineOn it.line = true → s.lineRoom = true → s.flag F.LINE_CTRL_FLUSH it.line = false →
        (s.line it.line).flush = false → (s.line it.line).payload.length + it.bytes.length < 4064 → it.bytes ≠ [] →
        ∃ t x, exec (.lineItem src) s = .next t ∧ t.lineFifo src.val = rest ∧
          t.lines.lines = setAt Line.reset s.lines.lines it.line x ∧ x.payload = (s.line it.line).payload ++ it.bytes ∧
          x.written = (s.line it.line).written ∧ t.regs = s.regs)) ∧
    (∀ l : Fin 64,
      (s.admits q .LINE_CTRL l.val (v ||| maskOf 2 1) = true → ∃ t, exec (.lineFlush q l v) s = .next t ∧
        t.flag F.LINE_CTRL_FLUSH l.val = !s.lineRoom ∧
        (s.lineRoom = true → bits v 0 1 = s.fget F.LINE_CTRL_EN l.val → (s.line l.val).payload ≠ [] →
          seq t l.val = (seq s l.val + 1) % 2 ^ 48)) ∧
      (s.lineOn l.val = true → s.fget F.LINE_CFG_FLUSH_MS l.val ≠ 0 → (s.line l.val).payload ≠ [] →
        ∃ t, exec (.blockFlushTimeout l) s = .next t ∧
          (s.lineRoom = true → seq t l.val = (seq s l.val + 1) % 2 ^ 48) ∧
          (s.lineRoom = false → t.regs = s.regs ∧
            t.lines.lines = setAt Line.reset s.lines.lines l.val { s.line l.val with flush := true })) ∧
      (s.admits q .LINE_CTRL l.val v = true → bits v 2 1 = 0 → s.flag F.LINE_CTRL_FLUSH l.val = false →
        bits v 0 1 = 1 → s.flag F.LINE_CTRL_EN l.val = false → ∃ t, exec (.lineEnableWrite q l v) s = .next t ∧
        t.flag F.LINE_CTRL_EN l.val = true ∧
        t.lines.lines = setAt Line.reset s.lines.lines l.val { Line.reset with
          written := if t.flag F.LINE_CTRL_FRESH l.val then [] else [(0, s.lineB l.val)], bound := (s.line l.val).bound })) ∧
    (s.pageLive 0x3E = true → s.lines.waiting = [] → s.lines.owed = [] → s.lines.debug = [] →
      (∀ l, l < 64 → s.flag F.LINE_CTRL_FLUSH l = false ∧ (s.line l).flush = false) →
      ∃ t, exec .govWindow s = .next t ∧ t.lines.used = 0 ∧ t.lines.cls = [0, 0, 0, 0, 0] ∧ t.lines.waited = false ∧
      t.lines.gov = s.fget F.GOV_CEIL_CEIL :: (List.range 4).map (fun c => s.fget F.GOV_LIMIT_LIMIT c) ∧
      t.fget F.GOV_PEAK_PEAK = max (s.fget F.GOV_PEAK_PEAK) (min 511 ((s.lines.used + 999) / 1000))) ∧
    (∀ l slot rest, s.lines.short = (l, slot) :: rest → s.fget F.LINE_WSTATE_STATE = 2 → s.lines.waiting.length < 32 →
      s.pageLive 0x38 = true → ∃ t, exec .drainBlock s = .next t ∧ t.lines.short = rest ∧
        (s.lineOn l = true → t.lines.waiting.length =
          s.lines.waiting.length + (if s.hbmUp = true ∧ s.govFits 0 4096 = true then 0 else 1)) ∧
        (s.lineOn l = false → t.lines.waiting = s.lines.waiting ∧ t.fbit F.PAGE_IRQ_SOURCES 0x38 3 = true)) ∧
    (let i := s.pegSel
     let p := s.peg i
     let b := s.lineB p.line
     let hem := s.fget F.LINE_CTRL_HEM p.line
     let run := ivAddRun b (s.protectedOf p.line) p.first p.count
     let becomes (c : Instr) (y : Peg) : Prop := ∃ t, exec c s = .next t ∧ t.answer = .ok 0 ∧
       t.lines.pegs = setAt Peg.reset s.lines.pegs i y ∧ t.fbit F.PEG_BUSY_BUSY (i / 32) (i % 32) = (y.state != 0)
     let refused (c : Instr) (reason : Nat) : Prop := ∃ t, exec c s = .next t ∧ t.answer = .ok 0 ∧
       t.lines.pegs = setAt Peg.reset s.lines.pegs i { p with reason := reason } ∧ t.flag F.PEG_STATUS_REFUSED = true ∧
       t.fbit F.PAGE_IRQ_SOURCES 0x39 1 = true
     (s.admits q .PEG_CMD 0 1#32 = true →
       (s.growing p.line = [] → s.lineOn p.line = true → p.first < b → p.count ≠ 0 → p.count ≤ b →
         ivCountRun b (s.line p.line).written p.first p.count = p.count → ivCount run 0 b + hem + 2 ≤ b → p.state = 0 →
         becomes (.pegSet q) { p with state := 1, clipped := false, shortened := false }) ∧
       (s.lineOn p.line = false → refused (.pegSet q) 1) ∧
       (s.lineOn p.line = true → b ≤ p.first ∨ p.count = 0 ∨ b < p.count → refused (.pegSet q) 2)) ∧
     (s.admits q .PEG_CMD 0 2#32 = true →
       (s.lineOn p.line = true → p.before + p.after + hem + 2 ≤ b → p.state = 0 →
         becomes (.pegArm q) { p with state := 2, clipped := false, shortened := false }) ∧
       (s.lineOn p.line = false → refused (.pegArm q) 1) ∧
       (s.lineOn p.line = true → b < p.before + p.after + hem + 2 → refused (.pegArm q) 2)) ∧
     (s.admits q .PEG_CMD 0 3#32 = true →
       (p.state = 2 → s.growing p.line = [] →
         let k := s.beforeMax i 27 0 p.before
         let y : Peg := { p with first := (s.fget F.LINE_WR_INDEX p.line + b - k) % max 1 b, count := k, base := k,
                                 clipped := decide (k < p.before), state := if p.after = 0 then 1 else 3 }
         let tight := { s with lines := { s.lines with pegs := setAt Peg.reset s.lines.pegs i y } }.pegTight i
         k ≤ p.before ∧ becomes (.pegFire q) (if p.after ≠ 0 ∧ tight = true then { y with state := 1, shortened := true } else y)) ∧
       (p.state ≠ 2 → refused (.pegFire q) 5)) ∧
     (s.admits q .PEG_CMD 0 4#32 = true →
       (p.state ≠ 0 → becomes (.pegRelease q) { p with state := 0 }) ∧ (p.state = 0 → refused (.pegRelease q) 5))) ∧
    (s.admits q .LINE_FETCH_CTRL 0 (v ||| maskOf 31 1) = true → ∃ t, exec (.lineFetchStart q v) s = .next t ∧
      let l := bits v 0 6
      let count := if bits v 8 8 = 0 then 256 else bits v 8 8
      let idx := s.fget F.LINE_FETCH_IDX_INDEX
      let dst := s.get64 .LINE_FETCH_DST_LO .LINE_FETCH_DST_HI
      (s.lines.fetch.isSome = true → t.flag F.LINE_FETCH_STATUS_IGNORED = true ∧ t.lines.fetch = s.lines.fetch) ∧
      (s.lines.fetch = none → s.lineOn l = true → idx < s.lineB l → dst % 32 = 0 → inSram dst (4096 * count) = true →
        t.lines.fetch = some ⟨l, idx, count, dst,
          (List.range count).filter (fun k => s.inHem l ((idx + k) % s.lineB l)), 0⟩ ∧
        t.flag F.LINE_FETCH_CTRL_START = true ∧ t.flag F.PAGE_STATUS_BUSY 0x38 = true) ∧
      (s.lines.fetch = none → s.lineOn l = false → t.lines.fetch = none ∧ t.fget F.LINE_FETCH_STATUS_REASON = 1 ∧
        t.flag F.LINE_FETCH_STATUS_DONE = true)) ∧
    (∀ f, s.lines.fetch = some f → s.hbmUp = true → s.pageLive 0x38 = true →
      let limit := s.lines.gov.getD 3 0
      let free (n : Nat) : Prop := s.lines.owed = [] ∧ s.lines.used + 4096 * n ≤ s.lines.gov.getD 0 0 * 1000 ∧
        (limit = 0 ∨ s.lines.cls.getD 2 0 + 4096 * n ≤ limit * 1000)
      (free (f.count - f.pos) → ∃ t, exec .lineFetchDone s = .next t ∧ t.lines.fetch = none ∧
        t.flag F.LINE_FETCH_CTRL_START = false ∧ t.flag F.LINE_FETCH_STATUS_DONE = true ∧
        t.flag F.PAGE_STATUS_BUSY 0x38 = false ∧ t.fbit F.PAGE_IRQ_SOURCES 0x38 0 = true) ∧
      (∀ i, i = (f.idx + f.pos) % max 1 (s.lineB f.line) → ivCount (s.line f.line).written i (i + 1) ≠ 0 →
        f.pos < f.count → s.lines.owed = [] → s.lines.grants = [] → s.govFits 2 4096 = false →
        exec .lineFetchDone s = .next { s with lines := { s.lines with owed := [⟨2, 4096, 6⟩], waited := true } }))

/-- Cores' pages, the event router, the cells, the timers and the pins. RESET puts a stopped core to its reset state;
RUN takes the bit written. A pulse of a generator, or a bit of EVR_FIRE that passes the channel check, is counted by
the channel that takes it. A task input that listens to a channel with a pulse acts: a latch is set, a scan or a soft
seam is asked for, an armed peg fires, a timer is started or captured, an output tap changes its pin; where its domain
does not run, the trigger is dropped with EVT_OVERRUN. A write of a cell's settings restarts the cell (log entry 61);
its filter takes the unfiltered output. A match puts a count below CMP at CMP, a wrap puts one not above TOP at 0,
each after the ticks that this takes and with its interrupt bit (log entry 62); one that the ticks of another clock
have brought is raised. A change at a pin shows in GPIO_IN unless the device drives the pin. -/
def Obligations.RouterAndCells : Prop :=
  ∀ (s : State) (q : Requester) (v : Word), s.wf = true →
    (∀ x : Fin 5,
      let n := coreReg x.val
      (s.admits q .CORE_CTRL n (v ||| maskOf 1 1) = true → s.flag F.CORE_CTRL_RUN n = false →
        ∃ t, exec (.coreReset q x v) s = .next t ∧ t.flag F.CORE_CTRL_RESET n = false ∧
          t.cores = setAt Core.reset s.cores x.val { Core.reset with
            irqEn := [s.reg .CORE_IRQ_EN_LO n, s.reg .CORE_IRQ_EN_HI n],
            win := (List.range 8).map (fun k => s.reg .WIN (8 * n + k)) }) ∧
      (s.admits q .CORE_CTRL n v = true → bits v 1 1 = 0 → ∃ t, exec (.coreRunWrite q x v) s = .next t ∧
        t.fget F.CORE_CTRL_RUN n = bits v 0 1 ∧ (bits v 0 1 = 1 → t.cores = s.cores) ∧
        (bits v 0 1 = 0 → s.flag F.CORE_CTRL_RUN n = true → (s.core x.val).stall = none →
          t.fbit F.PAGE_IRQ_SOURCES (0x70 + n) 0 = true))) ∧
    (∀ (g : Fin 512) (c : Nat) (d : Domain), c < 128 → genDomain g.val = some d → s.domLive d = true → s.power.senOn = true →
      ¬(0x190 ≤ g.val ∧ g.val ≤ 0x1AF) → s.router.inp = [] → s.router.fires = [] → s.router.chan = [] → s.router.task = [] →
      s.basket.window = 0 → s.cellsIdle = true → (∀ u, u < 128 → (s.flag F.EVR_CFG_EN u = true ↔ u = c)) →
      s.pageEn (0x08 + c / 64) = true → s.fget F.EVR_CFG_SRC c = g.val → s.flag F.EVR_CSTAT_LOOP_TRIP c = false →
      s.router.guard.getD c 0 < s.fget F.EVR_GUARD_N c → s.fget F.WAKE_CFG_CH ≠ c →
      (∀ u, u < 224 → s.flag F.EVR_TSEL_EN u = false) →
      ∃ t, exec (.generatorPulse g) s = .next t ∧ t.fget F.EVR_CCOUNT_COUNT c = (s.fget F.EVR_CCOUNT_COUNT c + 1) % 2 ^ 32 ∧
        t.router.inp = [] ∧ t.router.chan = []) ∧
    (∀ c x i, x < 5 → i < 32 → c ∈ s.router.task → s.power.senOn = true → s.pageEn 0x08 = true → s.pageEn 0x09 = true →
      s.domLive (latchDomain x) = true → s.flag F.EVR_TSEL_EN (0x40 + 32 * x + i) = true →
      s.fget F.EVR_TSEL_SELA (0x40 + 32 * x + i) = c → s.basket.window = 0 →
      ∃ t, exec .routerCycle s = .next t ∧ t.fbit F.EVR_CIRQ_LATCH x i = true) ∧
    (∀ w : Fin 4, s.admits q .EVR_FIRE w.val v = true →
      (∀ i, i < 32 → v.getLsbD i = true → s.chanPass (s.who q) (32 * w.val + i) = true) →
      ∃ t, exec (.evrFire q w v) s = .next t ∧ t.answer = .ok 0 ∧ t.regs = s.regs ∧
        ∀ i, i < 32 → v.getLsbD i = true → 32 * w.val + i ∈ t.router.fires) ∧
    (∀ c, c < 128 → c ∈ s.router.fires → s.power.senOn = true → s.basket.window = 0 → s.router.task = [] →
      s.router.tapHigh = [] → s.pageEn (0x08 + c / 64) = true → (∀ u, u < 128 → (s.flag F.EVR_CFG_EN u = true ↔ u = c)) →
      s.flag F.EVR_CSTAT_LOOP_TRIP c = false → s.router.guard.getD c 0 < s.fget F.EVR_GUARD_N c → s.fget F.WAKE_CFG_CH ≠ c →
      ∃ t, exec .routerCycle s = .next t ∧ t.fget F.EVR_CCOUNT_COUNT c = (s.fget F.EVR_CCOUNT_COUNT c + 1) % 2 ^ 32 ∧
        t.router.fires = [] ∧ t.router.chan = [c]) ∧
    (∀ k c, k < 224 → c ∈ s.router.task → s.fget F.EVR_TSEL_SELA k = c → s.power.senOn = true → s.pageEn 0x08 = true →
      (∀ u, u < 224 → (s.flag F.EVR_TSEL_EN u = true ↔ u = k)) → (∀ u, u < 128 → s.flag F.EVR_CFG_EN u = false) →
      s.basket.window = 0 → s.router.tapHigh = [] → s.cellsIdle = true →
      let acts (P : State → Prop) : Prop := ∃ t, exec .routerCycle s = .next t ∧ t.router.task = s.router.chan ∧ P t
      (k < 0x08 ∨ 0x18 ≤ k ∧ k < 0x32 → s.domLive .acq = false → acts (fun t => t.flag F.EVR_TSTAT_EVT_OVERRUN k = true ∧
        t.fbit F.PAGE_IRQ_SOURCES 0x08 1 = true)) ∧
      (0x08 ≤ k → k < 0x18 → s.domLive .ana = false → acts (fun t => t.flag F.EVR_TSTAT_EVT_OVERRUN k = true ∧
        t.fbit F.PAGE_IRQ_SOURCES 0x08 1 = true)) ∧
      (0x08 ≤ k → k < 0x18 → s.pageEn 0x52 = true → s.flag F.WELQ_TPL_CTRL_EN (k - 8) = true → s.wel.copies = [] →
        s.qCount (s.fget F.WELQ_TPL_CTRL_QUEUE (k - 8)) + 1 < s.qSlots (s.fget F.WELQ_TPL_CTRL_QUEUE (k - 8)) →
        acts (fun t => ∃ d, t.wel.copies = [(k - 8, s.fget F.WELQ_TPL_CTRL_QUEUE (k - 8), d)])) ∧
      (s.domLive .acq = true →
        (∀ p, k < 0x08 → p = s.fget F.PEG_TRIG_PEG k → s.flag F.PEG_TRIG_EN k = true → s.pageEn 0x39 = true →
          (s.peg p).state = 2 → acts (fun t => (t.peg p).state = 3 ∨ (t.peg p).state = 1)) ∧
        (k = 0x18 → s.pageEn 0x23 = true → s.fget F.RESULT_CTRL_TRIG = 1 → s.adc.scan = none →
          acts (fun t => t.adc.scan = some s.now)) ∧
        (k = 0x19 → acts (fun t => t.flag F.SEAM_SOFT_FIRE = true ∧
          (s.flag F.SEAM_SOFT_FIRE = true → t.flag F.SEAM_STATUS_SOFT_MERGED = true))) ∧
        (∀ n, n < 8 → s.pageEn 0x66 = true → (k = 0x1A + 2 * n → acts (fun t => n ∈ t.timers)) ∧
          (k = 0x1B + 2 * n → acts (fun t => t.reg .TIM_CAPT n = s.reg .TIM_COUNT n))) ∧
        (∀ g, k = 0x2A + g → g < 8 → s.pageEn 0x09 = true → s.pageLive 0x65 = true → s.flag F.EVR_GOUT_EN g = true →
          let pin := s.fget F.EVR_GOUT_PIN g
          pin < 48 → s.fget F.EVR_GOUT_ACTION g < 3 → acts (fun t => t.fbit F.GPIO_OUT_OUT (pin / 32) (pin % 32) =
            if s.fget F.EVR_GOUT_ACTION g = 0 then true else if s.fget F.EVR_GOUT_ACTION g = 1 then false
            else !s.fbit F.GPIO_OUT_OUT (pin / 32) (pin % 32))))) ∧
    (∀ c : Fin 128, s.pageLive (0x08 + c.val / 64) = true → exec (.guardWindowEnd c) s =
      .next { s with router := { s.router with guard := setAt 0 s.router.guard c.val 0 } }) ∧
    (∀ j : Fin 32,
      let cell := s.router.cells.getD j.val ⟨false, false, false, false⟩
      (s.fget F.EVL_CELL_MODE_FMODE j.val ≠ 0 → s.pageEn 0x0A = true → exec (.cellFilterAccept j) s =
        .next { s with router := { s.router with cells := setAt ⟨false, false, false, false⟩ s.router.cells j.val { cell with out := cell.raw } } }) ∧
      (∀ k : Fin 3,
        let r : Reg := if k.val = 0 then .EVL_CELL_IN else if k.val = 1 then .EVL_CELL_TT else .EVL_CELL_MODE
        s.admits q r j.val v = true → ∃ t, exec (.evlWrite q j k v) s = .next t ∧
          t.reg r j.val = mergeWord r (s.reg r j.val) v ∧
          let i := t.flag F.EVL_CELL_MODE_INIT j.val
          t.router = { s.router with cells := setAt ⟨false, false, false, false⟩ s.router.cells j.val { cell with q := i, outReg := i } })) ∧
    (∀ n : Fin 8,
      let count := s.fget F.TIM_COUNT_COUNT n.val
      let cmp := s.fget F.TIM_CMP_CMP n.val
      let top := s.fget F.TIM_TOP_TOP n.val
      (8 + n.val ∈ s.timers → ∃ t, exec (.timerMatch n) s = .next t ∧ 8 + n.val ∉ t.timers ∧ t.now = s.now ∧
        t.fget F.TIM_COUNT_COUNT n.val = count ∧ t.fbit F.PAGE_IRQ_SOURCES 0x66 n.val = true) ∧
      (16 + n.val ∈ s.timers → ∃ t, exec (.timerWrap n) s = .next t ∧ 16 + n.val ∉ t.timers ∧ t.now = s.now ∧
        t.fget F.TIM_COUNT_COUNT n.val = count ∧ t.fbit F.PAGE_IRQ_SOURCES 0x66 (8 + n.val) = true) ∧
      (s.pageEn 0x66 = true → s.adcClock = true → s.fget F.TIM_CTRL_CLK n.val = 0 → s.flag F.TIM_CTRL_RUN n.val = true →
        s.timers = [] →
        (count < cmp → cmp ≤ top → ∃ t, exec (.timerMatch n) s = .next t ∧ t.now = s.now + (cmp - count) ∧
          t.fget F.TIM_COUNT_COUNT n.val = cmp ∧ t.fbit F.PAGE_IRQ_SOURCES 0x66 n.val = true ∧
          t.flag F.TIM_CTRL_RUN n.val = true) ∧
        (count ≤ top → ∃ t, exec (.timerWrap n) s = .next t ∧ t.now = s.now + (top - count + 1) ∧
          t.fget F.TIM_COUNT_COUNT n.val = 0 ∧ t.fbit F.PAGE_IRQ_SOURCES 0x66 (8 + n.val) = true ∧
          t.flag F.TIM_CTRL_RUN n.val = !s.flag F.TIM_CTRL_ONESHOT n.val))) ∧
    (∀ (pin : Fin 48) (level : Bool), ∃ t, exec (.gpioInputEdge pin level) s = .next t ∧
      t.fbit F.GPIO_IN_IN (pin.val / 32) (pin.val % 32) = (s.gpioDrive pin.val).getD level)

/-- The input array, the module positions and the identity buses. RUN that rises without alignment puts the first edge
64 ticks ahead, with the preset number; RUN that falls stops alignment. Groups are ready only while they are powered.
A presence level that has held is accepted, with the position EMPTY or present; a commit is taken unless the position
is empty, and its check ends with VALID and the module's identity, or with a reason (log entry 120). RUN written 0 and
1 within an epoch follows log entry 98, RECOVER on a busy bus log entry 101, the bytes of a read phase that ends early
log entry 119. A transaction on an identity bus runs with BUSY and ends with DONE and the flag of its outcome. -/
def Obligations.InputArray : Prop :=
  ∀ (s : State) (q : Requester) (v : Word), s.wf = true →
    (s.admits q .AIN_CTRL 0 v = true → ∃ t, exec (.ainRun q v) s = .next t ∧ t.fget F.AIN_CTRL_RUN = bits v 0 1 ∧
      (s.flag F.AIN_CTRL_RUN = false → bits v 0 1 = 1 → s.adcClock = true → s.fget F.AIN_ALIGN_MODE = 0 →
        t.epoch.next = some (s.now + 64) ∧ t.epoch.firstNum = some (s.get64 .AIN_PRESET_LO .AIN_PRESET_HI) ∧
        t.epoch.running = false ∧ t.fget F.AIN_ALIGN_STATUS_STATE = 1) ∧
      (s.flag F.AIN_CTRL_RUN = true → bits v 0 1 = 0 → t.fget F.AIN_ALIGN_STATUS_STATE = 0 ∧
        (s.epoch.running = false → t.epoch.next = none))) ∧
    (s.admits q .AIN_GRP_PWR 0 v = true → ∃ t, exec (.groupPowerWrite q v) s = .next t ∧
      t.fget F.AIN_GRP_PWR_EN = bits v 0 12 ∧
      t.fget F.AIN_GRP_PWR_RDY = s.fget F.AIN_GRP_PWR_RDY &&& bits v 0 12) ∧
    (s.pageLive 0x20 = true →
      (s.fget F.AIN_ALIGN_STATUS_STATE = 3 ∨ s.fget F.AIN_ALIGN_STATUS_STATE = 4 → ∃ t, exec .alignHoldover s = .next t ∧
        t.fget F.AIN_ALIGN_STATUS_STATE = 5 ∧ t.fbit F.PAGE_IRQ_SOURCES 0x20 2 = true) ∧
      ∀ g : Fin 12, s.fbit F.AIN_GRP_PWR_EN 0 g.val = true → ∃ t, exec (.groupReady g) s = .next t ∧
        t.grpReady g.val = true ∧ s.sameRegsBut t [(.AIN_GRP_PWR, 0), (.AIN_SPARE, g.val)]) ∧
    (∀ g : Fin 12,
      let m := s.modules.getD g.val ⟨true, false, none⟩
      let modules (t : State) (x : Module) : Prop := t.modules = setAt ⟨true, false, none⟩ s.modules g.val x
      (∀ level : Bool, ∃ t, exec (.mpresChange g level) s = .next t ∧ t.regs = s.regs ∧
        modules t { m with pin := level, counting := !level != s.fbit F.AIN_MOD_PRES_PRES 0 g.val }) ∧
      (s.pageLive 0x20 = true → m.counting = true → ∃ t, exec (.presenceAccept g) s = .next t ∧
        t.fbit F.AIN_MOD_PRES_PRES 0 g.val = !m.pin ∧ t.fbit F.AIN_MOD_CHG_PRES_CHG 0 g.val = true ∧
        t.fget F.AIN_MOD_STATE_STATE g.val = (if m.pin then 0 else 1) ∧ t.fbit F.PAGE_IRQ_SOURCES 0x20 0 = true ∧
        modules t { m with counting := false, commit := if m.pin then none else m.commit }) ∧
      (s.admits q .AIN_IDCOMMIT 0 v = true → bits v 0 4 = g.val → ∃ t, exec (.ainIdcommit q v) s = .next t ∧
        (s.fget F.AIN_MOD_STATE_STATE g.val = 0 → t.flag F.AIN_STATUS_COMMIT_REFUSED = true ∧ t.modules = s.modules ∧
          t.fbit F.PAGE_IRQ_SOURCES 0x20 5 = true) ∧
        (s.fget F.AIN_MOD_STATE_STATE g.val ≠ 0 → modules t { m with commit := some s.idBuf } ∧
          t.flag F.PAGE_STATUS_BUSY 0x20 = true)) ∧
      (∀ r, s.pageLive 0x20 = true → m.commit = some r → s.fget F.AIN_MOD_STATE_STATE g.val ≠ 0 → ∃ t, exec (.commitCheckDone g) s = .next t ∧
        modules t { m with commit := none } ∧
        (commitReason r = 0 → t.fget F.AIN_MOD_STATE_STATE g.val = 2 ∧ t.fget F.AIN_MOD_STATE_FORMAT g.val = recByte r 0 ∧
          t.reg .MOD_ID g.val = BitVec.ofNat 32 (recU16 r 4 * 65536 + recU16 r 2)) ∧
        (commitReason r ≠ 0 → t.fget F.AIN_MOD_STATE_STATE g.val = 3 ∧
          t.fget F.AIN_MOD_STATE_REASON g.val = commitReason r ∧ t.reg .MOD_ID g.val = 0#32))) ∧
    (∀ b : Fin 2,
      let x := s.idb.getD b.val IdBus.idle
      let went (t : State) (run : Nat) : Prop := t.idb = setAt IdBus.idle s.idb b.val ⟨run, t.fget F.IDB_CMD_WLEN b.val,
          t.fget F.IDB_CMD_RLEN b.val, if run = 1 then t.idbSends b.val else []⟩ ∧ t.flag F.IDB_STATUS_BUSY b.val = true ∧
        t.flag F.PAGE_STATUS_BUSY 0x63 = true
      let ended (t : State) : Prop := t.idb = setAt IdBus.idle s.idb b.val { x with run := 0 } ∧ t.flag F.IDB_STATUS_BUSY b.val = false ∧
        t.flag F.IDB_CMD_START b.val = false ∧ t.flag F.IDB_CMD_RECOVER b.val = false ∧
        t.flag F.IDB_STATUS_DONE b.val = true ∧ t.fbit F.PAGE_IRQ_SOURCES 0x63 b.val = true
      (s.admits q .IDB_CMD b.val ((v ||| maskOf 31 1) &&& ~~~maskOf 30 1) = true →
        ∃ t, exec (.idbStart q b v) s = .next t ∧ went t 1) ∧
      (s.admits q .IDB_CMD b.val ((v ||| maskOf 30 1) &&& ~~~maskOf 31 1) = true →
        ∃ t, exec (.idbRecover q b v) s = .next t ∧ went t 2) ∧
      (s.pageLive 0x63 = true → x.run = 1 →
        (∀ bytes : List Byte, bytes.length = x.rlen → ∃ t, exec (.idbDone b (.done bytes)) s = .next t ∧ ended t ∧
          ∀ k, k < bytes.length → k < 256 →
            bits (t.reg .IDB_BUF (64 * b.val + k / 4)) (8 * (k % 4)) 8 = (bytes.getD k 0).toNat) ∧
        (∃ t, exec (.idbDone b .nackAddr) s = .next t ∧ ended t ∧ t.flag F.IDB_STATUS_NACK_ADDR b.val = true) ∧
        (∃ t, exec (.idbDone b .arbLost) s = .next t ∧ ended t ∧ t.flag F.IDB_STATUS_ARB_LOST b.val = true) ∧
        (∀ i, i < 512 → i < x.wlen → ∃ t, exec (.idbDone b (.nackData i)) s = .next t ∧ ended t ∧
          t.flag F.IDB_STATUS_NACK_DATA b.val = true ∧ t.fget F.IDB_STATUS_INDEX b.val = i)) ∧
      (s.pageLive 0x63 = true → x.run = 2 →
        (∀ bytes : List Byte, ∃ t, exec (.idbDone b (.done bytes)) s = .next t ∧ ended t) ∧
        (∃ t, exec (.idbDone b .stuck) s = .next t ∧ ended t ∧ t.flag F.IDB_STATUS_STUCK b.val = true)) ∧
      (s.pageLive 0x63 = true → x.run ≠ 0 → s.fget F.IDB_CFG_STRETCH_MS b.val ≠ 0 →
        ∃ t, exec (.idbStretchTimeout b) s = .next t ∧ ended t ∧ t.flag F.IDB_STATUS_TIMEOUT b.val = true))

/-- Calibration, rotation, correction tables and result registers. A run that passes makes its slice READY with the
fit in the half that is not used; one that fails twice makes it FAILED. Initial calibration begins with BUSY and ends
with INIT_DONE. A decision for a candidate edge names the rotation that will fall on it. A SWAP waits for its seam, or
is ignored while the slice calibrates; a table word lands in an open half. A soft trigger starts a scan or, when one
is pending, sets TRIG_MERGED. A read of a result clears NEW. -/
def Obligations.Converter : Prop :=
  ∀ (s : State) (q : Requester) (v : Word), s.wf = true →
    (let n := match s.epoch.edges with
       | (num, _) :: _ => if s.epoch.running then num + 1 else s.epoch.firstNum.getD 0
       | [] => s.epoch.firstNum.getD 0
     let g := if s.flag F.ADC_CTRL_ROT_NOW then 32 else 32 + s.fget F.ADC_CFG_ROT_SG
     n % 2 ^ s.fget F.SEAM_CFG_K g = 0 →
     (s.mode ≠ 2 ∧ ∀ a, s.power.step ≠ some (a, 2)) ∨ s.flag F.ADC_CTRL_EVE_CAL = true → s.pageLive 0x21 = true → s.epoch.next.isSome = true →
     ∃ t d, exec .rotationDecision s = .next t ∧ t.regs = s.regs ∧ t.adc.decision = some d ∧ d.edge = n ∧ d.gen = g ∧
      (s.flag F.ADC_CTRL_ROT_EN = false → d.rot = none ∧ d.noReady = false) ∧
      (s.flag F.ADC_CTRL_ROT_EN = true → (∀ p, p < 9 → s.sliceState p ≠ 3) → d.rot = none ∧ d.noReady = true) ∧
      (s.flag F.ADC_CTRL_ROT_EN = true → s.pageEn 0x21 = true → ∀ p, p < 9 → s.sliceState p = 3 → s.sliceMapped p = false →
        (∀ k, k < p → s.sliceState k ≠ 3) → ∃ l, d.rot = some (l, p) ∧
          ((∀ k, k < 8 → s.flag F.ADC_SLICE_DRIFT_NOW (s.slicePos k) = false) → l = 8) ∧
          (s.adc.initWait = true → l = 8))) ∧
    (∀ (p : Fin 9) (f : CalFit),
      let x := s.slice p.val
      let half := 1 - s.fget F.ADC_SLICE_HALF p.val
      x.running = true → s.sliceState p.val = 2 ∨ s.sliceState p.val = 3 → s.adcClock = true →
      s.pageLive 0x21 = true → ∃ t, exec (.calRunDone p f) s = .next t ∧
        (s.fitPasses f = true → s.adc.init = false → t.sliceState p.val = 3 ∧
          t.reg .ADCCAL_OFFSET (2 * p.val + half) = BitVec.ofNat 32 (toField 24 f.offset) ∧
          t.reg .ADCCAL_GAIN (2 * p.val + half) = BitVec.ofNat 32 (f.gain % 2 ^ 24) ∧
          t.fget F.ADC_SLICE_HALF p.val = s.fget F.ADC_SLICE_HALF p.val) ∧
        (s.fitPasses f = true → s.adc.init = true → t.adc.slices =
          setAt Slice.reset s.adc.slices p.val { x with fails := 0, running := false, passed := some f }) ∧
        (s.fitPasses f = false → t.flag F.ADC_SLICE_CAL_FAIL p.val = true ∧ t.fbit F.PAGE_IRQ_SOURCES 0x21 3 = true ∧
          (x.fails = 0 → t.adc.slices = setAt Slice.reset s.adc.slices p.val { x with fails := 1 }) ∧
          (x.fails ≠ 0 → t.sliceState p.val = 4 ∧ t.fbit F.PAGE_IRQ_SOURCES 0x21 4 = true))) ∧
    (s.admits q .ADC_CTRL 0 (v ||| maskOf 3 1) = true → ∃ t, exec (.initCal q v) s = .next t ∧ t.adc.init = true ∧
      t.flag F.ADC_STATUS_INIT_DONE = false ∧ t.flag F.ADC_CTRL_INIT_CAL = false ∧ t.flag F.PAGE_STATUS_BUSY 0x21 = true ∧
      ∀ p, p < 9 → s.sliceState p ≠ 4 → t.sliceState p = if s.fbit F.DARN_RETIRED_SLICES 0 p then 4 else 2) ∧
    (s.adc.init = true → s.adcClock = true → s.pageLive 0x21 = true → (∀ p, p < 9 → s.sliceState p = 2 → (s.slice p).passed.isSome = true) →
      ∃ t, exec .initCalDone s = .next t ∧ t.adc.init = false ∧ t.flag F.ADC_STATUS_INIT_DONE = true ∧
        t.flag F.PAGE_STATUS_BUSY 0x21 = false ∧ t.fbit F.PAGE_IRQ_SOURCES 0x21 7 = true ∧
        t.adc.initWait = s.epoch.running) ∧
    (s.admits q .ADC_CTRL 0 (v ||| maskOf 1 1) = true → ∃ t, exec (.rotNow q v) s = .next t ∧
      t.flag F.ADC_CTRL_ROT_NOW = true) ∧
    (∀ p : Fin 9, s.admits q .ADCCAL_CTRL p.val (v ||| maskOf 0 1) = true → ∃ t, exec (.adccalSwap q p v) s = .next t ∧
      (s.sliceState p.val = 2 ∨ s.sliceState p.val = 3 → t.flag F.ADCCAL_CTRL_SWAP p.val = false ∧
        t.flag F.ADCCAL_STATUS_WR_IGNORED p.val = true ∧ t.fbit F.PAGE_IRQ_SOURCES 0x22 1 = true) ∧
      (s.sliceState p.val ≠ 2 → s.sliceState p.val ≠ 3 → t.flag F.ADCCAL_CTRL_SWAP p.val = true)) ∧
    (∀ (p : Fin 9) (h : Fin 2) (w : Fin 18),
      let r : Reg := if w.val = 0 then .ADCCAL_OFFSET else if w.val = 1 then .ADCCAL_GAIN else .ADCCAL_LIN
      let n := if w.val ≤ 1 then 2 * p.val + h.val else 16 * (2 * p.val + h.val) + (w.val - 2)
      (s.admits q r n v = true → ∃ t, exec (.adccalTableWrite q p h w v) s = .next t ∧ t.answer = .ok 0 ∧
        t.reg r n = mergeWord r (s.reg r n) v ∧ s.sameRegsBut t [(r, n)]) ∧
      (s.performs q 0x22 = true → s.mayWrite (s.who q) r n v = true → s.calHalfOpen p.val h.val = false →
        ∃ t, exec (.adccalTableWrite q p h w v) s = .next t ∧ t.reg r n = s.reg r n ∧
          t.flag F.ADCCAL_STATUS_WR_IGNORED p.val = true)) ∧
    (s.admits q .RESULT_START 0 (v ||| maskOf 0 1) = true → ∃ t, exec (.resultStart q v) s = .next t ∧
      (s.pageEn 0x23 = true → s.fget F.RESULT_CTRL_TRIG = 2 → s.adc.scan = none → t.adc.scan = some s.now ∧
        t.flag F.RESULT_START_START = true ∧ t.flag F.PAGE_STATUS_BUSY 0x23 = true) ∧
      (s.pageEn 0x23 = true → s.fget F.RESULT_CTRL_TRIG = 2 → s.adc.scan.isSome = true → t.adc = s.adc ∧
        t.flag F.RESULT_STATUS_TRIG_MERGED = true ∧ t.fbit F.PAGE_IRQ_SOURCES 0x23 3 = true) ∧
      (s.fget F.RESULT_CTRL_TRIG ≠ 2 → t.adc = s.adc)) ∧
    (∀ i : Fin 32, s.performs q 0x23 = true → ∃ t, exec (.resultRead q i) s = .next t ∧
      t.answer = .ok (s.regWord .RESULT i.val).toNat ∧
      t.reg .RESULT i.val = (if (s.who q).cap = 7 then s.reg .RESULT i.val
        else s.reg .RESULT i.val &&& ~~~(0x80000000#32)) ∧ s.sameRegsBut t [(.RESULT, i.val)])

/-- The asynchronous serial ports. The samples of a frame, of which each bit is the majority of the middle three, make
a character: on an armed port whose ring is off it stands in UART_RXDATA with its parity and framing marks, and sets
OVERRUN over one that was not read. A start bit that reads high is noise, and fewer samples keep RX_BUSY (log entry
122). A break, a stuck line and its end set their flags. The idle count sets RX_IDLE, or closes the open block. A
write of UART_RXR_RD that makes room opens a block, into which a waiting character goes. A character written goes onto
a free line as start bit, data bits from the least significant, parity and stop bits, or waits; one too many sets
TX_LOST. A transfer begins, ends with TX_DONE, and the driver's enable drops after the tail. In Night a start edge
wakes. -/
def Obligations.SerialPorts : Prop :=
  ∀ (s : State) (q : Requester) (v : Word) (n : Fin 2), s.wf = true →
    let u := s.uart n.val
    let puts (t : State) (y : Uart) : Prop := t.uarts = setAt Uart.reset s.uarts n.val y
    let word (d : Nat) (pe fe brk : Bool) : Word := BitVec.ofNat 32 (2 ^ 31 +
      (d + (if pe then 2 ^ 9 else 0) + (if fe then 2 ^ 10 else 0) + (if brk then 2 ^ 11 else 0)) % 2 ^ 12)
    let free : Prop := s.uartRuns n.val = true ∧ s.flag F.UART_CTRL_TX_EN n.val = true ∧
      s.flag F.UART_CTRL_SEND_BREAK n.val = false
    let wide := 7 + s.fget F.UART_CFG_DBITS n.val
    let os := if s.flag F.UART_CFG_OS8 n.val = true then 8 else 16
    let pars := if s.fget F.UART_CFG_PAR n.val = 0 then 0 else 1
    let frame (c : Nat) : List Bool := [false] ++ (List.range wide).map (fun i => c.testBit i) ++
      (if pars = 0 then [] else [(((List.range wide).filter (fun i => c.testBit i)).length +
        (if s.fget F.UART_CFG_PAR n.val = 1 then 0 else 1)) % 2 == 1]) ++
      List.replicate (if s.flag F.UART_CFG_STOP2 n.val = true then 2 else 1) true
    (∀ first second third fourth : List Bool, let xs := first ++ second ++ third ++ fourth; s.uartArmed n.val = true → u.blk = false → s.flag F.UART_RXR_CFG_EN n.val = false →
      u.low = false → u.rx = [] → s.fget F.UART_CFG_DBITS n.val < 3 → xs.head? = some false →
      let at_ (k : Nat) : Bool := xs.getD k true
      let bit (k : Nat) : Bool :=
        let m := k * os + os / 2 - 1
        (at_ (m - 1) && at_ m) || (at_ (m - 1) && at_ (m + 1)) || (at_ m && at_ (m + 1))
      let need := (1 + wide + pars) * os + os / 2 + 2
      (bit 0 = false → xs.any id = true → xs.length = need → ∀ d, d < 2 ^ wide → (∀ i, i < wide → bit (1 + i) = d.testBit i) →
        let stop := bit (1 + wide + pars)
        let rearm := at_ (need - 1)
        let odd : Bool := (((List.range wide).filter (fun i => d.testBit i)).length + (if bit (1 + wide) then 1 else 0)) % 2 == 1
        let pe : Bool := s.fget F.UART_CFG_PAR n.val != 0 && (odd == (s.fget F.UART_CFG_PAR n.val == 1))
        ∃ t, exec (.uartCharacter n first second third fourth) s = .next t ∧
          t.reg .UART_RXDATA n.val = word d pe (!stop || u.fast) false ∧
          (s.flag F.UART_RXDATA_NEW n.val = true → t.flag F.UART_STATUS_OVERRUN n.val = true) ∧
          (pe = true → t.flag F.UART_STATUS_PARITY n.val = true) ∧
          (stop = false → t.flag F.UART_STATUS_FRAME n.val = true) ∧
          (stop = true → t.flag F.UART_STATUS_RX_BUSY n.val = false ∧ (t.uart n.val).rx = [] ∧
            (t.uart n.val).low = !rearm) ∧
          (stop = true → rearm = false → t.flag F.UART_STATUS_FAST_SENDER n.val = true ∧
            t.fbit F.PAGE_IRQ_SOURCES (uartPage n.val) 7 = true) ∧
          t.fbit F.PAGE_IRQ_SOURCES (uartPage n.val) 0 = true) ∧
      (bit 0 = false → os / 2 < xs.length → xs.length < need → ∃ t, exec (.uartCharacter n first second third fourth) s = .next t ∧
        puts t { u with rx := xs } ∧ t.flag F.UART_STATUS_RX_BUSY n.val = true ∧ s.sameRegsBut t [(.UART_STATUS, n.val)]) ∧
      (bit 0 = true → xs.length = os / 2 + 1 → ∃ t, exec (.uartCharacter n first second third fourth) s = .next t ∧
        puts t { u with rx := [] } ∧ t.flag F.UART_STATUS_RX_BUSY n.val = false ∧ s.sameRegsBut t [(.UART_STATUS, n.val)])) ∧
    (s.uartArmed n.val = true → u.blk = false → u.low = false → u.rx.any id = false → s.flag F.UART_RXR_CFG_EN n.val = false →
      ∃ t, exec (.uartBreak n) s = .next t ∧ t.reg .UART_RXDATA n.val = word 0 false true true ∧
        t.flag F.UART_STATUS_BREAK n.val = true ∧ t.fbit F.PAGE_IRQ_SOURCES (uartPage n.val) 5 = true) ∧
    (s.uartArmed n.val = true → u.low = true → u.fast = false → ∃ t, exec (.uartStuckLow n) s = .next t ∧ puts t { u with stuck := true } ∧
      t.flag F.UART_STATUS_STUCK_LOW n.val = true ∧ t.fbit F.PAGE_IRQ_SOURCES (uartPage n.val) 6 = true) ∧
    (u.stuck = true → s.uartRuns n.val = true → ∃ t, exec (.uartBreakEnd n) s = .next t ∧ puts t { u with stuck := false, low := false } ∧
      t.flag F.UART_STATUS_BREAK_END n.val = true) ∧
    (s.uartRuns n.val = true → s.fget F.UART_RX_TO_HALVES n.val ≠ 0 → u.rx = [] →
      ∃ t, exec (.uartRxTimeout n) s = .next t ∧
        (s.flag F.UART_RXR_CFG_EN n.val = false → t.flag F.UART_STATUS_RX_IDLE n.val = true) ∧
        (s.flag F.UART_RXR_CFG_EN n.val = true → u.blk = true → u.pos ≠ 0 →
          t.fget F.UART_RXR_WR_INDEX n.val = s.nextBlock n.val (s.fget F.UART_RXR_WR_INDEX n.val) ∧
          t.fbit F.PAGE_IRQ_SOURCES (uartPage n.val) 2 = true)) ∧
    (s.performs q (uartPage n.val) = true → ∃ t, exec (.uartRxdataRead q n) s = .next t ∧
      t.answer = .ok (s.regWord .UART_RXDATA n.val).toNat ∧
      ((s.who q).cap ≠ 7 → t.flag F.UART_RXDATA_NEW n.val = false) ∧ s.sameRegsBut t [(.UART_RXDATA, n.val)]) ∧
    (s.admits q .UART_RXR_RD n.val v = true → ∃ t, exec (.uartRxrRdWrite q n v) s = .next t ∧
      t.fget F.UART_RXR_RD_INDEX n.val = bits v 0 8 ∧
      (s.flag F.UART_RXR_CFG_EN n.val = true → u.blk = false →
        s.nextBlock n.val (s.fget F.UART_RXR_WR_INDEX n.val) ≠ bits v 0 8 →
        (s.flag F.UART_RXDATA_NEW n.val = false →
          puts t { u with blk := true, pos := 0, err := false, brk := false, ovr := u.lostOvr, lostOvr := false }) ∧
        (s.flag F.UART_RXDATA_NEW n.val = true → 2 < s.blockSize n.val →
          t.flag F.UART_RXDATA_NEW n.val = false ∧ (t.uart n.val).blk = true ∧
          (t.uart n.val).pos = if s.flag F.UART_RXR_CFG_WIDE n.val = true then 2 else 1))) ∧
    (s.admits q .UART_TXDATA n.val v = true → u.rx = [] → ∃ t, exec (.uartTxdata q n v) s = .next t ∧ t.answer = .ok 0 ∧
      let c := bits v 0 9 % 2 ^ s.uartBits n.val
      (u.xfer = none → u.hold = none → u.shift = none → free →
        puts t { u with shift := some (frame c), txd := true, de := true }) ∧
      (u.xfer = none → u.hold = none → u.shift.isSome = true → puts t { u with hold := some c }) ∧
      (u.hold.isSome = true ∨ u.xfer.isSome = true → t.uarts = s.uarts ∧ t.flag F.UART_STATUS_TX_LOST n.val = true ∧
        t.fbit F.PAGE_IRQ_SOURCES (uartPage n.val) 10 = true)) ∧
    (s.admits q .UART_TX_CTRL n.val (v ||| maskOf 31 1) = true → u.xfer = none → u.rx = [] →
      ∃ t, exec (.uartTxStart q n v) s = .next t ∧
        (u.shift.isSome = true → puts t { u with xfer := some (s.fget F.UART_TX_ADDR_ADDR n.val, bits v 0 16) }) ∧
        (u.shift = none → u.hold = none → free → ∃ c, puts t { u with
          shift := some (frame c), txd := true, xfer := some (s.fget F.UART_TX_ADDR_ADDR n.val + (if bits v 29 1 = 1 then 2 else 1), bits v 0 16 - 1),
          de := true })) ∧
    (s.uartRuns n.val = true → u.shift.isSome = true → u.hold = none → u.xfer = none → u.rx = [] →
      ∃ t, exec (.uartCharSent n) s = .next t ∧
        (s.flag F.UART_CTRL_SEND_BREAK n.val = false → puts t { u with shift := none, txd := true }) ∧
        (s.flag F.UART_CTRL_SEND_BREAK n.val = true → puts t { u with shift := none, txd := false, de := true }) ∧
        t.flag F.UART_STATUS_TX_BUSY n.val = false ∧ t.flag F.PAGE_STATUS_BUSY (uartPage n.val) = false) ∧
    (∀ a, s.uartRuns n.val = true → u.xfer = some (a, 0) → u.shift = none → u.hold = none → u.rx = [] →
      s.flag F.UART_CTRL_SEND_BREAK n.val = false → ∃ t, exec (.uartTxDone n) s = .next t ∧
      puts t { u with xfer := none, txd := true } ∧ t.flag F.UART_TX_CTRL_TX_DONE n.val = true ∧
      t.flag F.UART_TX_CTRL_START n.val = false ∧ t.fbit F.PAGE_IRQ_SOURCES (uartPage n.val) 8 = true) ∧
    (s.uartRuns n.val = true → u.shift = none → s.flag F.UART_CTRL_SEND_BREAK n.val = false → exec (.uartDeTail n) s =
      .next { s with uarts := setAt Uart.reset s.uarts n.val { u with de := false } }) ∧
    (∀ rested : Bool, s.mode = 3 → s.power.step = none → s.power.senOn = true →
      (s.reg .WAKE_EN).getLsbD (9 + n.val) = true → u.fired = false ∨ rested = true →
      ∃ t, exec (.uartStartEdgeWake n rested) s = .next t ∧ puts t { u with fired := true } ∧
        (t.reg .WAKE_PEND).getLsbD (9 + n.val) = true ∧ t.fbit F.PAGE_IRQ_SOURCES 0x02 0 = true) ∧
    (s.uartArmed n.val = true → ∃ t, exec (.startBitNoise n) s = .next t ∧ puts t { u with low := false, rx := [] } ∧
      t.flag F.UART_STATUS_RX_BUSY n.val = false ∧ s.sameRegsBut t [(.UART_STATUS, n.val)])

/-- The Welut engines: jobs, microwords and transfers. An idle engine takes the head of its first eligible queue and
is RUN, with the job's fields and the program counter from the descriptor; with no logical engine mapped to it nothing
happens. A word that orders nothing moves to its NEXT address in 1 clock and what it waited, and the loads of the word
before it land. A faulty word stops the engine with MICRO_FAULT, once the transfers in flight are over, and names its
first faulty field; a word that must wait does nothing yet; any other moves to the address that SEQOP and COND give,
steps the counters, the return stack, the pointers and strides, writes the scalar result and flags, the vector result
or the mask, and the user and result flags, stores, loads for the word after the next, and orders its transfer, or
stops with DMA_FAULT on a bad one. A transfer that ends is taken off the list and sets its token, or stops the engine;
one behind another to its memory waits for that, and one that the governor holds keeps its place (log entry 47). A job
that ends leaves the engine IDLE, or SPARE out of SERVICE, and counts. The run limit and HALT stop the engine with
their causes, RESUME makes it ready again. A write of TAIL stands, a template's copy moves TAIL on by one slot, and a
closed frame is published, and its digest sent and compared. -/
def Obligations.WelutJobs : Prop :=
  ∀ (s : State) (q : Requester) (v : Word), s.wf = true →
    (∀ w : Fin 18,
      let e := s.wel1 w.val
      let st := s.welState w.val
      let ready : Prop := s.flag F.PAGE_CTRL_EN (0x40 + w.val) = true ∧ s.flag F.CS_STATUS_VALID w.val = true
      let home : Nat := if s.flag F.WEL_CTRL_SERVICE w.val then 2 else 1
      let stopped (t : State) (cause : Nat) : Prop := e.retire = false → t.welState w.val = 4 ∧ t.fget F.WEL_STATUS_CAUSE w.val = cause ∧
        (t.wel1 w.val).job = none ∧ t.fbit F.PAGE_IRQ_SOURCES (0x40 + w.val) 0 = true
      (∀ le p, le < 16 → p < 4 → s.pageEn 0x52 = true → s.pageLive (0x40 + w.val) = true → st = 2 →
        s.flag F.CS_STATUS_ACTIVE w.val = false → s.flag F.CS_CTRL_PATCH w.val = false →
        s.welMap le = w.val → (∀ k, k < le → s.welMap k ≠ w.val) →
        s.qEligible (4 * le + p) = true → (∀ k, k < p → s.qEligible (4 * le + k) = false) →
        let d := s.qHead (4 * le + p)
        ∃ t frame taken seq, exec (.jobDispatch w) s = .next t ∧ t.welState w.val = 3 ∧
          t.fget F.WEL_STATUS_LOGICAL w.val = le ∧ t.fget F.WEL_STATUS_PRIO w.val = p ∧
          t.flag F.PAGE_STATUS_BUSY (0x40 + w.val) = true ∧ (t.wel1 w.val).pc = descNum d 0 2 ∧
          (t.wel1 w.val).job = some ⟨le, p, descNum d 2 1, descNum d 4 4, descNum d 8 8, descNum d 0x20 4, descNum d 0x24 4,
            frame, taken, seq, 0, 0⟩) ∧
      ((∀ k, k < 16 → s.welMap k ≠ w.val) → exec (.jobDispatch w) s = .next s) ∧
      (∀ (j : Job) (n c waits : Nat), s.pageLive (0x40 + w.val) = true → st = 3 → e.job = some j →
        e.halting = false → e.fence = false → e.stopping = none → n < 2048 → c < 2 →
        tblGet e.store e.pc = n * 2 ^ 165 + c * 2 ^ 159 →
        ∃ t x, exec (.microword w waits) s = .next t ∧ t.wel.engines = setAt Wel.reset s.wel.engines w.val x ∧
          x.pc = n / 2 * 2 + (n + c) % 2 ∧ x.job = some { j with cycles := j.cycles + (1 + waits) } ∧ x.loads = [] ∧
          x.sc = e.sc ∧ x.f = e.f ∧ x.lc = e.lc ∧ x.ret = e.ret ∧ x.tok = e.tok ∧ x.dma = e.dma ∧
          x.vreg = (e.loads.foldl (fun e y => e.setVec y.1 y.2) e).vreg ∧ t.mem = s.mem) ∧
      (∀ (j : Job) (waits : Nat), s.pageLive (0x40 + w.val) = true → st = 3 → e.job = some j → e.halting = false → e.fence = false →
        e.stopping = none →
        let m := microOf (tblGet e.store e.pc)
        let n (b : Bool) : Nat := if b then 1 else 0
        let fl (i : Nat) : Bool := e.flags.testBit i
        let tables : List Bool := [false, fl 0, fl 1, fl 2, fl 3, fl 1 != fl 3, fl 0 || (fl 1 != fl 3), e.f != 0, e.f == 0xFFFF] ++
          (List.range 4).map (fun i => e.lc.getD i 0 == 0) ++ (List.range 4).map (fun i => e.tok.testBit i) ++ [e.dma.isEmpty] ++
          (List.range 4).map (fun i => e.uf.testBit i)
        let c : Bool := tables.getD m.cond (s.fget F.WEL_TBL_STATUS_HALF w.val == 1) != (m.cinv == 1)
        let li := m.cond % 4
        let left := e.lc.getD li 0 - 1
        let plus : Bool := (m.seqop == 1 && !c) || (m.seqop == 3 && left == 0)
        let target := if plus then e.pc + 1 else if m.seqop = 0 then m.next / 2 * 2 + (m.next + n c) % 2
          else if m.seqop = 2 ∧ c = true then e.ret.headD 0
          else if m.seqop = 4 then m.next / 16 * 16 + (e.scal (m.cond % 16)).toNat % 16 else m.next
        let dop := nbits m.dma 5 3
        let tok := nbits m.dma 3 2
        let sync := nbits m.dma 0 3
        let waiting : Bool := (sync == 2 && !e.tok.testBit tok) || (sync == 3 && dop == 0 && e.dma.any (fun x => x.kind == 2)) ||
          (dop != 0 && decide (4 ≤ e.dma.length))
        let faults := microFaults m (s.fget F.WEL_TBL_SIZE_SIZE w.val) ++ (if waiting then [] else
          [(15, m.seqop == 1 && c && decide (8 ≤ e.ret.length)), (16, m.seqop == 2 && c && e.ret.isEmpty),
           (17, plus && e.pc == 2047)])
        (∀ y, faults.find? (fun x => x.2) = some y → ∃ t, exec (.microword w waits) s = .next t ∧
          t.fget F.WEL_MFAULT_FIELD w.val = y.1 ∧
          (e.dma = [] → stopped t 1 ∧ t.fget F.WEL_FAULT_PC_ADDR w.val = e.pc % 2048) ∧
          (e.dma ≠ [] → t.wel.engines = setAt Wel.reset s.wel.engines w.val { e with stopping := some (1, e.pc) } ∧ t.mem = s.mem)) ∧
        (faults.find? (fun x => x.2) = none → waiting = true → exec (.microword w waits) s = .next s) ∧
        (faults.find? (fun x => x.2) = none → waiting = false → (∀ y ∈ s.ecc, y.2 = false) →
          let a := e.scal (nbits m.sop 4 4)
          let b := e.scal (nbits m.sop 0 4)
          let imm : Word := BitVec.ofNat 32 m.imm
          let op := nbits m.sop 12 4
          let sd := nbits m.sop 8 4
          let sum := (a.toNat + b.toNat) % 2 ^ 18
          let result : Option Word := if op = 1 then some (a + b) else if op = 2 then some (a - b) else if op = 3 then some (a + imm)
            else if op = 4 then some (a &&& b) else if op = 5 then some (a ||| b) else if op = 6 then some (a ^^^ b)
            else if op = 7 then some (a <<< (b.toNat % 32)) else if op = 8 then some (a >>> (b.toNat % 32))
            else if op = 12 then some ((e.vec w.val m.va).at (nbits m.sop 0 4)) else if op = 13 then some imm
            else if op = 14 then some (BitVec.ofNat 32 e.f) else none
          let zn (r : Word) : Nat := n (r == 0#32) + 2 * n r.msb
          let sumFlags (x : Word) : Nat := zn (a + x) + 4 * n (decide (2 ^ 32 ≤ a.toNat + x.toNat)) +
            8 * n (decide ((a + x).toInt ≠ a.toInt + x.toInt))
          let subFlags : Nat := zn (a - b) + 4 * n (decide (b.toNat ≤ a.toNat)) + 8 * n (decide ((a - b).toInt ≠ a.toInt - b.toInt))
          let u0 := aguOf m.agu0
          let u1 := aguOf m.agu1
          let ptr0 := e.ptr.set u0.k (aguNext u0.mode (e.ptr.getD u0.k 0) (e.stride.getD u0.k 0))
          let ptr1 := ptr0.set (4 + u1.k) (aguNext u1.mode (ptr0.getD (4 + u1.k) 0) (e.stride.getD (4 + u1.k) 0))
          let lc1 := if m.seqop = 3 then e.lc.set li left else e.lc
          let load := nbits m.cnt 4 2
          let work := s.portWork w.val e m
          let landed := e.loads.foldl (fun e y => e.setVec y.1 y.2) e
          let isCmp : Bool := m.vop == 0x10 || m.vop == 0x11 || m.vop == 0x12
          let vec := (vecOp m.vop m.vfmt e.f m.imm (e.vec w.val m.va) (e.vec w.val m.vb) (e.vec w.val m.vc)).1
          let computed := if (vopInfo m.vop).any (fun x => x.d) then landed.setVec m.vd vec else landed
          let gathered := match work.gather with
            | some xs => computed.setVec 63 (xs.map (fun y => (BitVec.ofNat 32 (s.memVal (lmemBase w.val + y) 4) : Word)))
            | none => computed
          let loads := work.loads.map (fun y => (y.1, s.lmemVec w.val y.2))
          let halts : Bool := m.seqop == 5 && c
          let clocks := max ((vopInfo m.vop).elim 1 (fun x => x.clocks)) work.clocks + waits
          let sc (k : Nat) : Nat := (e.scal k).toNat
          let line := sc 13 % 64
          let d : Dma := ⟨dop, tok, sc 12, if dop = 3 then line * 2 ^ 32 + sc 14 else sc 13 + sc 14 % 65536 * 2 ^ 32, sc 15, sync == 3,
            if dop = 3 then (List.range (min 64 (sc 15))).filter (fun k => s.inHem line ((sc 14 + k) % max 1 (s.lineB line))) else [], 0⟩
          (dop ≠ 0 → s.dmaCheck d ≠ none → ∃ t, exec (.microword w waits) s = .next t ∧ stopped t 3 ∧
            (e.retire = false → t.fget F.WEL_FAULT_PC_ADDR w.val = e.pc % 2048)) ∧
          (dop = 0 ∨ s.dmaCheck d = none → ∃ t x, exec (.microword w waits) s = .next t ∧
            t.wel.engines = setAt Wel.reset s.wel.engines w.val x ∧ x.pc = target % 2048 ∧ x.halting = halts ∧ x.stopping = none ∧
            x.ret = (if m.seqop = 1 ∧ c = true then (e.pc + 1) % 2048 :: e.ret
              else if m.seqop = 2 ∧ c = true then e.ret.tail else e.ret) ∧
            x.lc = (if nbits m.cnt 6 2 = 1 then lc1.set load ((e.scal (m.cnt % 16)).toNat % 65536)
              else if nbits m.cnt 6 2 = 2 then lc1.set load (m.imm % 65536) else lc1) ∧
            x.sc = result.elim e.sc (fun r => e.sc.set sd r) ∧
            x.flags = (if op = 1 then sumFlags b else if op = 3 then sumFlags imm else if op = 2 ∨ op = 9 then subFlags
              else if 4 ≤ op ∧ op ≤ 8 then e.flags / 4 * 4 + result.elim 0 zn else e.flags) ∧
            x.ptr = (if op = 10 then ptr1.set (sd % 8) sum else ptr1) ∧
            x.stride = (if op = 11 then e.stride.set (sd % 8) sum else e.stride) ∧
            x.f = (if isCmp = true then cmpMask m.vop m.vfmt (e.vec w.val m.va) (e.vec w.val m.vb) else e.f) ∧
            (halts = false → x.loads = loads ∧ x.vreg = gathered.vreg) ∧
            (halts = true → x.loads = [] ∧ x.vreg = (loads.foldl (fun e y => e.setVec y.1 y.2) gathered).vreg) ∧
            x.uf = (if nbits m.fe 6 2 = 1 then e.uf ||| 2 ^ nbits m.fe 4 2
              else if nbits m.fe 6 2 = 2 then e.uf &&& (15 - 2 ^ nbits m.fe 4 2) else e.uf) ∧
            x.job = some { j with cycles := j.cycles + clocks,
                                  rflags := j.rflags ||| (nbits m.fe 8 7 + 2 ^ 11 * n (m.fe.testBit 15)) } ∧
            x.tok = (if sync = 1 ∨ dop ≠ 0 then e.tok &&& (15 - 2 ^ tok) else e.tok) ∧
            x.dma = e.dma ++ (if dop = 0 then [] else [d]) ∧ x.fence = (dop != 0 && sync == 3) ∧
            (∀ y ∈ work.stores, work.scatter = none → s.inActive w.val y.1 = false →
              (∀ z ∈ work.stores, z ≠ y → z.1 + 64 ≤ y.1 ∨ y.1 + 64 ≤ z.1) →
              ∀ i, i < 16 → t.memVal (lmemBase w.val + y.1 + 4 * i) 4 = (y.2.at i).toNat) ∧
            (∀ lanes, work.scatter = some lanes → work.stores = [] → ∀ i, i < 16 → s.inActive w.val (lanes.getD i 0) = false →
              (∀ k, k < 16 → k ≠ i → lanes.getD k 0 ≠ lanes.getD i 0) →
              t.memVal (lmemBase w.val + lanes.getD i 0) 4 = ((e.vec w.val 63).at i).toNat) ∧
            ∀ z, (∀ y ∈ work.stores, z < lmemBase w.val + y.1 ∨ lmemBase w.val + y.1 + 64 ≤ z) →
              (∀ y ∈ work.scatter.getD [], z < lmemBase w.val + y ∨ lmemBase w.val + y + 4 ≤ z) → t.byte z = s.byte z))) ∧
      (∀ (i : Fin 4) (d : Dma), e.dma[i.val]? = some d → e.dmaBehind i.val d = true → exec (.dmaComplete w i) s = .next s) ∧
      (∀ (i : Fin 4) (d : Dma) (k : Nat), s.pageLive (0x40 + w.val) = true → e.dma[i.val]? = some d → e.dmaBehind i.val d = false →
        (s.dmaMove w.val d).waits = some k → ∃ t, exec (.dmaComplete w i) s = .next t ∧ t.welState w.val = st ∧
          (t.wel1 w.val).dma = e.dma.set i.val { d with pos := k } ∧ (t.wel1 w.val).tok = e.tok) ∧
      (∀ (i : Fin 4) (d : Dma), s.pageLive (0x40 + w.val) = true → e.dma[i.val]? = some d → st = 3 → e.stopping = none →
        e.dmaBehind i.val d = false → (s.dmaMove w.val d).waits = none →
        (d.kind = 3 → s.hbmUp = true → ∃ t, exec (.dmaComplete w i) s = .next t ∧ t.welState w.val = 3 ∧
          (t.wel1 w.val).dma = e.dma.eraseIdx i.val ∧ (t.wel1 w.val).tok = (e.tok ||| 2 ^ d.tok)) ∧
        (d.kind = 3 → s.hbmUp = false → ∃ t, exec (.dmaComplete w i) s = .next t ∧ stopped t 3) ∧
        (d.kind ≠ 3 → (s.dmaMove w.val d).bad = false → (s.dmaMove w.val d).ue = false →
          ∃ t, exec (.dmaComplete w i) s = .next t ∧ t.welState w.val = 3 ∧
            (t.wel1 w.val).dma = e.dma.eraseIdx i.val ∧ (t.wel1 w.val).tok = (e.tok ||| 2 ^ d.tok))) ∧
      (∀ (j : Job) (clocks : Nat), s.pageLive (0x40 + w.val) = true → st = 3 → e.job = some j → e.halting = true →
        e.fence = false → e.dma.any (fun x => x.kind == 2) = false → e.retire = false →
        ∃ t, exec (.jobComplete w clocks) s = .next t ∧ t.welState w.val = home ∧ (t.wel1 w.val).job = none ∧
          t.fget F.WEL_JOBS_COUNT w.val = (s.fget F.WEL_JOBS_COUNT w.val + 1) % 2 ^ 32 ∧
          t.fget F.WEL_CYCLES_COUNT w.val = min (2 ^ 32 - 1) (s.fget F.WEL_CYCLES_COUNT w.val + clocks)) ∧
      (∀ j : Job, s.pageLive (0x40 + w.val) = true → st = 3 → e.job = some j → j.limit ≠ 0 → e.stopping = none →
        ∃ t, exec (.jobTimeout w) s = .next t ∧ stopped t 2) ∧
      (s.admits q .WEL_CTRL w.val (v ||| maskOf 2 1) = true → bits v 1 1 = 0 → ready →
        st = 3 → e.stopping = none → ∃ t, exec (.welHalt q w v) s = .next t ∧ stopped t 5) ∧
      (s.admits q .WEL_CTRL w.val (v ||| maskOf 1 1) = true → bits v 2 1 = 0 → ready →
        st = 4 → ∃ t, exec (.welResume q w v) s = .next t ∧ t.welState w.val = 1 + bits v 0 1) ∧
      (s.admits q .WEL_CTRL w.val v = true → bits v 2 1 = 0 → bits v 1 1 = 0 → ∃ t,
        exec (.serviceWrite q w v) s = .next t ∧ t.fget F.WEL_CTRL_SERVICE w.val = bits v 0 1 ∧
        (ready → st ≤ 2 → t.welState w.val = 1 + bits v 0 1) ∧ (ready → st = 3 → t.welState w.val = 3))) ∧
    (∀ n : Fin 64, s.admits q .WELQ_QTAIL n.val v = true → ∃ t, exec (.welqTailWrite q n v) s = .next t ∧ t.answer = .ok 0 ∧
      t.fget F.WELQ_QTAIL_TAIL n.val = bits v 0 10) ∧
    (∀ tpl : Fin 16,
      (∀ x, s.wel.copies.find? (fun x => x.1 == tpl.val) = some x → s.pageLive 0x52 = true → x.2.1 < 64 →
        s.qSlots x.2.1 ≤ 1024 → ∃ t, exec (.templateCopyDone tpl) s = .next t ∧
          t.wel.copies = s.wel.copies.filter (fun y => y.1 != tpl.val) ∧
          t.fget F.WELQ_QTAIL_TAIL x.2.1 = (s.fget F.WELQ_QTAIL_TAIL x.2.1 + 1) % s.qSlots x.2.1) ∧
      (s.wel.copies.find? (fun x => x.1 == tpl.val) = none → exec (.templateCopyDone tpl) s = .next s)) ∧
    (∀ (f : Fin 4) (x : OpenFrame), s.wel.frames.find? (fun x => x.gen == f.val) = some x → x.shut = true →
      s.pageLive 0x52 = true → ∃ t, exec (.frameDigestClose f) s = .next t ∧
        t.reg .WELQ_DVALUE f.val = BitVec.ofNat 32 x.xor ∧ t.fget F.WELQ_DCOUNT_COUNT f.val = min 65535 x.count ∧
        t.flag F.WELQ_DCOUNT_LATE f.val = x.late ∧ t.fbit F.PAGE_IRQ_SOURCES 0x52 2 = true ∧
        t.wel.frames = s.wel.frames.filter (fun y => !(y.gen == f.val && y.num == x.num)) ∧ t.wel.digests = [])

/-- The control stores and the table halves. A write to CS_DATA5 commits the held words and its own at CS_ADDR, counts
as a patch when PATCH is 1, and moves CS_ADDR on with AUTOINC; a read of it gives the word's last part and moves on as
well. LOAD, CHECK and VERIFY make the store ACTIVE with the command; INVALIDATE clears VALID at once, and the engine
is OFF. The command ends with ACTIVE 0 and its interrupt: a CHECK sets VALID when the digest is the expected one, a
VERIFY sets VERIFY_OK or VERIFY_BAD, a LOAD that meets a bad record stops there with its reason. SWAP stands until its
seam. -/
def Obligations.WelutStores : Prop :=
  ∀ (s : State) (q : Requester) (v : Word) (w : Fin 18), s.wf = true →
    let e := s.wel1 w.val
    let addr := s.fget F.CS_ADDR_ADDR w.val
    let moved := if s.flag F.CS_CTRL_AUTOINC w.val then (addr + 1) % 2048 else addr
    let word := e.hold.foldr (fun d acc => d.toNat + 2 ^ 32 * acc) 0 + (v.toNat % 65536) * 2 ^ 160
    let begun (t : State) (k : Nat) : Prop := t.wel.engines = setAt Wel.reset s.wel.engines w.val { e with cmd := some k } ∧
      t.flag F.CS_STATUS_ACTIVE w.val = true ∧ t.fget F.CS_STATUS_REASON w.val = 0
    let ended (t : State) : Prop := (t.wel1 w.val).cmd = none ∧ t.flag F.CS_STATUS_ACTIVE w.val = false ∧
      t.fbit F.PAGE_IRQ_SOURCES (0x40 + w.val) 3 = true
    let good : Bool := decide (sha256 e.storeBytes = s.csExpect w.val)
    (s.admits q .CS_DATA5 w.val v = true → ∃ t, exec (.csCommit q w v) s = .next t ∧ t.answer = .ok 0 ∧
      t.wel.engines = setAt Wel.reset s.wel.engines w.val { e with store := tblPut e.store addr word } ∧
      t.fget F.CS_ADDR_ADDR w.val = moved ∧
      t.fget F.CS_PATCHES_COUNT w.val =
        (if s.flag F.CS_CTRL_PATCH w.val then min 4095 (s.fget F.CS_PATCHES_COUNT w.val + 1) else s.fget F.CS_PATCHES_COUNT w.val)) ∧
    (s.performs q (0x40 + w.val) = true → ∃ t, exec (.csData5Read q w) s = .next t ∧
      t.answer = .ok (s.regWord .CS_DATA5 w.val).toNat ∧ t.fget F.CS_ADDR_ADDR w.val = moved ∧ t.wel = s.wel ∧
      s.sameRegsBut t [(.CS_ADDR, w.val)]) ∧
    (s.admits q .CS_CTRL w.val (v ||| maskOf 0 1) = true → ∃ t, exec (.csLoad q w v) s = .next t ∧ begun t 0) ∧
    (s.admits q .CS_CTRL w.val (v ||| maskOf 1 1) = true → ∃ t, exec (.csCheck q w v) s = .next t ∧ begun t 1) ∧
    (s.admits q .CS_CTRL w.val (v ||| maskOf 2 1) = true → ∃ t, exec (.csVerify q w v) s = .next t ∧ begun t 2 ∧
      t.flag F.CS_STATUS_VERIFY_OK w.val = false) ∧
    (s.admits q .CS_CTRL w.val (v ||| maskOf 5 1) = true → ∃ t, exec (.csInvalidate q w v) s = .next t ∧
      t.flag F.CS_STATUS_VALID w.val = false ∧ t.welState w.val = 0 ∧ t.flag F.CS_CTRL_INVALIDATE w.val = false) ∧
    (s.pageLive (0x40 + w.val) = true →
      (e.cmd = some 1 → ∃ t, exec (.csCommandDone w) s = .next t ∧ ended t ∧
        t.flag F.CS_STATUS_VALID w.val = (s.flag F.CS_STATUS_VALID w.val || good) ∧
        (good = false → t.fget F.CS_STATUS_REASON w.val = 1)) ∧
      (e.cmd = some 2 → ∃ t, exec (.csCommandDone w) s = .next t ∧ ended t ∧
        t.flag F.CS_STATUS_VERIFY_OK w.val = (s.flag F.CS_STATUS_VERIFY_OK w.val || good) ∧
        t.flag F.CS_STATUS_VERIFY_BAD w.val = (s.flag F.CS_STATUS_VERIFY_BAD w.val || !good)) ∧
      (∀ i r, e.cmd = some 0 → s.csBadRecord (sramBase 2 + s.fget F.CS_SRC_OFFSET w.val * 32) 2048 0 = some (i, r) →
        ∃ t, exec (.csCommandDone w) s = .next t ∧ ended t ∧ t.fget F.CS_ADDR_ADDR w.val = i ∧
          t.fget F.CS_STATUS_REASON w.val = r ∧ t.flag F.CS_STATUS_VALID w.val = s.flag F.CS_STATUS_VALID w.val)) ∧
    (s.admits q .WEL_TBL_CTRL w.val (v ||| maskOf 0 1) = true → ∃ t, exec (.welTblSwapRequest q w v) s = .next t ∧
      t.flag F.WEL_TBL_CTRL_SWAP w.val = true ∧ t.fget F.WEL_TBL_STATUS_HALF w.val = s.fget F.WEL_TBL_STATUS_HALF w.val ∧
      t.fget F.WEL_TBL_CTRL_FSEL w.val = bits v 1 2)

/-- The states of the link ports, their lanes, activity and the mangle units. A far end that answers takes a port from
DETECT to TRAIN. Training whose lanes in service have all trained makes the port UP with the generation and the
credit; training with no lane ends in DETECT, and a timeout as well, or in FAILED when every lane is retired. RETRAIN
and IDLE move the port as R355 gives. A window of errors within the limit only clears the counts; one beyond it
retrains. Activity or a Dawn on an idle lane is its wake source and takes an IDLE port to DETECT. MGL_CTRL takes what
is written; the packet that a mangle unit holds goes out at the end of its hold. -/
def Obligations.LinkPorts : Prop :=
  ∀ (s : State) (q : Requester) (v : Word), s.wf = true →
    (∀ p : Fin 4,
      let x := s.port p.val
      let st := s.pzl p.val
      let down : Nat := if s.fget F.PZL_LANE_BAD p.val = 7 then 6 else 1
      let seen (t : State) (c : Nat) : Prop := s.power.senOn = true → s.power.step = none → 1 ≤ s.mode → s.mode ≤ 3 →
        (s.reg .WAKE_EN).getLsbD c = true → (t.reg .WAKE_PEND).getLsbD c = true
      (s.pageLive (0x58 + p.val) = true →
        (st = 1 → ∃ t, exec (.detectRetry p true) s = .next t ∧
          t.pzl p.val = (if s.fget F.PZL_LANE_BAD p.val = 7 then 6 else 2)) ∧
        exec (.detectRetry p false) s = .next s ∧
        (st = 2 ∨ st = 4 →
          (∀ (trained : Fin 8) (gen : Fin 4) (fresh : Bool) (expects : Fin 4096) (free : Nat),
            s.flag F.PZL_CTRL_IDLE p.val = false → s.fget F.PZL_LANE_IN0 p.val ≠ 3 →
            (∀ l, l ∈ s.lanesIn p.val → Nat.testBit trained.val l = true ∧ s.fbit F.PZL_LANE_BAD p.val l = false) →
            ∃ t, exec (.linkTrainingDone p trained gen 0 fresh expects free) s = .next t ∧ t.pzl p.val = 3 ∧
              t.fget F.PZL_STATUS_GEN p.val = max 1 (min gen.val (s.fget F.PZL_CFG_MAX_GEN p.val)) ∧
              t.fget F.PZL_CREDIT_UNITS p.val = min 256 free ∧ t.flag F.PAGE_STATUS_BUSY (0x58 + p.val) = false ∧
              (fresh = true ∨ x.fresh = true → (t.port p.val).retry = [] ∧ (t.port p.val).txNext = 0)) ∧
          (∀ (gen : Fin 4) (fresh : Bool) (expects : Fin 4096) (free : Nat),
            ∃ t, exec (.linkTrainingDone p 0 gen 0 fresh expects free) s = .next t ∧ t.pzl p.val = down) ∧
          (∃ t, exec (.trainTimeout p) s = .next t ∧ t.pzl p.val = down)) ∧
        ((∀ l, l ∈ s.lanesIn p.val → x.laneErr.getD l 0 ≤ s.fget F.PZL_CFG_LANE_ERR_MAX p.val) →
          exec (.laneErrorWindow p) s = .next (s.setPort p.val { x with laneErr := [0, 0, 0] })) ∧
        (∀ l, st = 3 → l ∈ s.lanesIn p.val → s.fget F.PZL_CFG_LANE_ERR_MAX p.val < x.laneErr.getD l 0 →
          ∃ t, exec (.laneErrorWindow p) s = .next t ∧ t.pzl p.val = 4 ∧ t.fbit F.PZL_LANE_BAD p.val l = true)) ∧
      (s.admits q .PZL_CTRL p.val (v ||| maskOf 1 1) = true → ∃ t, exec (.pzlRetrain q p v) s = .next t ∧
        t.flag F.PZL_CTRL_RETRAIN p.val = false ∧ (st = 3 → t.pzl p.val = 4) ∧ (st = 6 → t.pzl p.val = down)) ∧
      (s.admits q .PZL_CTRL p.val v = true → bits v 1 1 = 0 → ∃ t, exec (.pzlIdle q p v) s = .next t ∧
        t.fget F.PZL_CTRL_IDLE p.val = bits v 0 1 ∧
        (st = 3 → bits v 0 1 = 1 → x.retry = [] → t.pzl p.val = 5) ∧ (st = 3 → x.retry ≠ [] → t.pzl p.val = 3) ∧
        (st = 5 → bits v 0 1 = 0 → t.pzl p.val = down)) ∧
      (s.idleLane p.val = true →
        (∃ t, exec (.linkAct p) s = .next t ∧ seen t (1 + p.val) ∧
          (s.domLive .lnk = true → st = 5 → t.pzl p.val = down)) ∧
        (∃ t, exec (.linkDawn p) s = .next t ∧ seen t (5 + p.val) ∧
          (s.domLive .lnk = true → st = 5 → t.pzl p.val = down))) ∧
      (s.idleLane p.val = false → exec (.linkAct p) s = .next s ∧ exec (.linkDawn p) s = .next s)) ∧
    (∀ u : Fin 4,
      let m := s.mangleUnit u.val
      let sends (t : State) (l : Nat) (b : List Byte) (y : Mangle) : Prop := t.regs = s.regs ∧
        t.links.sent = [(u.val, l, b)] ∧ t.mangleUnit u.val = y ∧ t.links.ports = s.links.ports ∧
        ∀ k : Fin 4, k ≠ u → t.mangleUnit k.val = s.mangleUnit k.val
      (s.admits q .MGL_CTRL u.val v = true → ∃ t, exec (.mglCtrlWrite q u v) s = .next t ∧ t.answer = .ok 0 ∧
        t.reg .MGL_CTRL u.val = mergeWord .MGL_CTRL (s.reg .MGL_CTRL u.val) v ∧ s.sameRegsBut t [(.MGL_CTRL, u.val)]) ∧
      (∀ l b rest, s.pageLive 0x5C = true → m.delayed = (l, b) :: rest → ∃ t, exec (.mangleHoldExpire u) s = .next t ∧
        sends t l b { m with delayed := rest }) ∧
      (∀ l b, s.pageLive 0x5C = true → m.delayed = [] → m.reorder = some (l, b) →
        ∃ t, exec (.mangleHoldExpire u) s = .next t ∧ sends t l b { m with reorder := none }))

/-- Packets of the links: arrival, the requests, the retry buffer and the sending. Bytes that are no packet are
dropped and counted; a packet in sequence joins the inbox and the number expected moves on; one out of order is kept,
an old one is ignored. A request is refused with reason TYPE, or its run of registers or units of memory is performed:
it is answered with the data, or with the reason and place of a bus error, or it waits in its place while an access is
held. An ACK frees what it covers, a NAK starts a round from the packet it names, a CREDIT adds its units, a WAKE is a
wake source. A port sends a held packet of its round, else a new one, numbered and held; an ACK travels with the last
number in sequence and goes ahead of a held packet that the credit does not cover. Gaps, missing ACKs and the periods
cause a NAK, a round, an ACK and a CREDIT. -/
def Obligations.LinkPackets : Prop :=
  ∀ (s : State) (p : Fin 4), s.wf = true → s.pageLive (0x58 + p.val) = true →
    let x := s.port p.val
    let sat (f : Fld) : Nat := min 65535 (s.fget f p.val + 1)
    let answered (t : State) (pk : Packet) (typ sub : Nat) (bs : List Byte) : Prop := ∃ y, y ∈ (t.port p.val).out ∧
      y.1.typ = typ ∧ y.1.resp = true ∧ y.1.tag = pk.tag ∧ y.1.dst = pk.src ∧ y.1.sub = sub ∧ y.1.payload.take bs.length = bs
    let request (i : Instr) (k : Nat) (pk : Packet) (u : State) : Prop := s.takeInbox p.val (fun y => y.typ == k) = some (pk, u) ∧
      x.run = none ∧ i = (if k = 0 then .linkRegRd p else if k = 1 then .linkRegWr p else if k = 2 then .linkMemRd p else .linkMemWr p)
    let plain : Prop := s.pageEn 0x5C = false ∨ s.flag F.MGL_CTRL_EN p.val = false
    let owes (t : State) (typ : Nat) : Prop := ∃ y, (t.port p.val).out.getLast? = some (y, none) ∧ y.typ = typ ∧ y.resp = false
    (∀ (lane : Fin 3) (bytes : List Byte) (ofs : Nat),
      (s.portUp p.val = true → (s.carriers p.val).contains lane.val = true →
        (∃ t, exec (.packetReceive p lane bytes false ofs) s = .next t ∧ t.fget F.PZL_DROP_MALFORMED p.val = sat F.PZL_DROP_MALFORMED ∧
          s.sameRegsBut t [(.PZL_DROP, p.val)] ∧ t.links = s.links) ∧
        (∀ pk, packetOf bytes = some pk → pk.unsequenced = false →
          (pk.seq = x.rxNext → pk.dst = 0xFF ∨ s.ownDest p.val pk.dst = true → pk.served = true → x.ahead = [] →
            ∃ t, exec (.packetReceive p lane bytes true ofs) s = .next t ∧ t.regs = s.regs ∧
              (t.port p.val).inbox = x.inbox ++ [pk] ∧ (t.port p.val).rxNext = (x.rxNext + 1) % 4096) ∧
          (2048 ≤ (pk.seq + 4096 - x.rxNext) % 4096 → exec (.packetReceive p lane bytes true ofs) s = .next s) ∧
          (0 < (pk.seq + 4096 - x.rxNext) % 4096 → (pk.seq + 4096 - x.rxNext) % 4096 < 2048 →
            x.ahead.any (fun y => y.seq == pk.seq) = false → x.ahead.length < 31 →
            exec (.packetReceive p lane bytes true ofs) s = .next (s.setPort p.val { x with ahead := x.ahead ++ [pk] })))) ∧
      (s.portUp p.val = false → exec (.packetReceive p lane bytes true ofs) s = .next s)) ∧
    (∀ (i : Instr) (k : Nat) (pk : Packet) (u : State), k < 4 → request i k pk u → s.linkRefused p.val pk = true →
      ∃ t, exec i s = .next t ∧ answered t pk 10 4 [] ∧ t.fget F.PZL_NAKS_TRANS p.val = sat F.PZL_NAKS_TRANS ∧
        (t.port p.val).inbox = (u.port p.val).inbox) ∧
    (∀ (pk : Packet) (u : State), s.linkRefused p.val pk = false →
      let ends (i : Instr) (typ : Nat) (r : State) (run : RegRun) : Prop := ∃ t, exec i s = .next t ∧ t.mem = r.mem ∧
        (match run with
         | .done bs => answered t pk typ 0 (if typ % 2 = 0 then bs else [])
         | .failed cause _ => answered t pk 10 (if cause = 1 then 2 else 3) []
         | .waits k bs => (t.port p.val).inbox = x.inbox ∧ (t.port p.val).run = some (k, bs))
      (s.isRegRun pk = true →
        (∀ r run, request (.linkRegRd p) 0 pk u →
          s.readRun (linkRequester p.val) (pk.aux % 256 + 1) (pk.addr - pageBase) 0 [] = (r, run) → ends (.linkRegRd p) 0 r run) ∧
        (∀ r run, request (.linkRegWr p) 1 pk u → (r.port p.val).inbox = x.inbox →
          s.writeRun (linkRequester p.val) ((List.range (pk.aux % 256 + 1)).map (fun k => numAt pk.payload (4 * k) 4))
            (pk.addr - pageBase) 0 = (r, run) → ends (.linkRegWr p) 1 r run)) ∧
      (s.isMemRun pk = true →
        (∀ r run, request (.linkMemRd p) 2 pk u →
          s.readUnits p.val (s.who (linkRequester p.val)) (pk.aux % 128 + 1) pk.addr 0 [] = (r, run) →
          ends (.linkMemRd p) 2 r run) ∧
        (∀ r run, request (.linkMemWr p) 3 pk u →
          s.writeUnits p.val (s.who (linkRequester p.val)) (pk.aux % 128 + 1) pk.payload pk.addr 0 = (r, run) →
          ends (.linkMemWr p) 3 r run))) ∧
    (∀ (pk : Packet) (stamp : Nat) (u : State),
      (s.takeSide p.val (fun k => k.typ == 9) = some (pk, stamp, u) → ∃ t, exec (.linkAck p) s = .next t ∧
        (t.port p.val).retry = heldFrom x.retry ((pk.seq + 1) % 4096)) ∧
      (s.takeSide p.val (fun k => k.typ == 10) = some (pk, stamp, u) → ∀ h rest, x.retry = h :: rest →
        (pk.seq + 4096 - h.seq) % 4096 < x.retry.length → s.portUp p.val = true → ∃ t, exec (.linkNak p) s = .next t ∧
        (t.port p.val).cursor = (pk.seq + 4096 - h.seq) % 4096 ∧ t.fget F.PZL_RETRY_ROUNDS p.val = sat F.PZL_RETRY_ROUNDS ∧
        t.pzl p.val = (if s.fget F.PZL_CFG_RETRY_MAX p.val ≤ x.rounds + 1 then 4 else 3)) ∧
      (s.takeSide p.val (fun k => k.typ == 11) = some (pk, stamp, u) → ∃ t, exec (.linkCredit p) s = .next t ∧
        t.fget F.PZL_CREDIT_UNITS p.val =
          min 256 (s.fget F.PZL_CREDIT_UNITS p.val + (pk.aux + 65536 - x.creditSeen) % 65536) ∧
        (t.port p.val).creditSeen = pk.aux) ∧
      (s.takeSide p.val (fun k => k.typ == 8) = some (pk, stamp, u) → s.power.senOn = true → s.power.step = none →
        s.mode = 1 ∨ s.mode = 2 → (s.reg .WAKE_EN).getLsbD 18 = true → ∃ t, exec (.linkWake p) s = .next t ∧
        (t.reg .WAKE_PEND).getLsbD 18 = true ∧ t.links = u.links)) ∧
    (∀ (second : Bool) (ofs : Nat), s.portUp p.val = true → plain → s.mend.leaving = false →
      let lane := if second = true ∧ 1 < (s.carriers p.val).length then (s.carriers p.val).getD 1 0 else (s.carriers p.val).headD 0
      let credit := s.fget F.PZL_CREDIT_UNITS p.val
      (∀ pk, x.retry[x.cursor]? = some pk → x.cursor < x.paid → ∃ t, exec (.packetSend p second ofs) s = .next t ∧
        t.regs = s.regs ∧ t.links.sent = [(p.val, lane, pk.bytes)] ∧ (t.port p.val).cursor = x.cursor + 1) ∧
      (∀ pk y, x.retry[x.cursor]? = some pk → x.paid ≤ x.cursor → credit < pk.units →
        x.out.find? (fun z => z.1.unsequenced) = some y → y.1.typ = 9 → ∃ t, exec (.packetSend p second ofs) s = .next t ∧
        t.regs = s.regs ∧ t.links.sent = [(p.val, s.lowLane p.val, { y.1 with seq := (x.rxNext + 4095) % 4096 }.bytes)] ∧
        (t.port p.val).cursor = x.cursor) ∧
      (∀ y, x.retry[x.cursor]? = none → s.firstSendable p.val = some y →
        (y.1.unsequenced = false → ∃ t, exec (.packetSend p second ofs) s = .next t ∧
          t.links.sent = [(p.val, lane, { y.1 with seq := x.txNext }.bytes)] ∧
          (t.port p.val).retry = x.retry ++ [{ y.1 with seq := x.txNext }] ∧
          (t.port p.val).txNext = (x.txNext + 1) % 4096 ∧ (t.port p.val).out = x.out.erase y ∧
          t.fget F.PZL_CREDIT_UNITS p.val = credit - y.1.units) ∧
        (y.1.typ = 9 → ∃ t, exec (.packetSend p second ofs) s = .next t ∧ t.regs = s.regs ∧
          t.links.sent = [(p.val, s.lowLane p.val, { y.1 with seq := (x.rxNext + 4095) % 4096 }.bytes)] ∧
          (t.port p.val).out = x.out.erase y))) ∧
    (s.portUp p.val = true →
      (x.ahead ≠ [] → ∃ t, exec (.gapTimeout p) s = .next t ∧ owes t 10 ∧ t.fget F.PZL_NAKS_LINK p.val = sat F.PZL_NAKS_LINK) ∧
      (x.retry ≠ [] → ∃ t, exec (.ackTimeout p) s = .next t ∧ (t.port p.val).cursor = 0 ∧
        t.fget F.PZL_RETRY_ROUNDS p.val = sat F.PZL_RETRY_ROUNDS) ∧
      (∃ t, exec (.periodicAck p) s = .next t ∧ owes t 9 ∧ t.regs = s.regs) ∧
      (∃ t, exec (.periodicCredit p) s = .next t ∧ owes t 11 ∧ t.regs = s.regs))

/-- System time and the beacons. A valid master sends SYNC N on each of its ports that is UP and goes on to N + 1. A
follower that does not know its delay sets NO_DELAY; one that does shows the error and the beacon's number and is
valid; a SYNC of a wrong form has no effect. A DREQ is answered with its stamps, a DRESP gives the delay, and a
missing DRESP gives the measurement up. SET loads the count and makes it valid, INVALIDATE ends that. A candidate that
hears no SYNC becomes a master on P1 to P3. -/
def Obligations.TimeBeacons : Prop :=
  ∀ (s : State) (q : Requester) (v : Word), s.wf = true →
    let n := s.beacon.next
    (s.pageEn 0x5D = true → s.flag F.BEACON_CFG_ROLE = true → s.flag F.BEACON_STATUS_VALID = true →
      ∃ t, exec .syncSend s = .next t ∧ t.beacon.next = n + 1 ∧ t.reg .BEACON_BNUM_LO = BitVec.ofNat 32 n ∧
        ∀ p, p < 4 → s.fbit F.BEACON_CFG_TXMASK 0 p = true → s.portUp p = true → ∃ y,
          (t.port p).out = (s.port p).out ++ [(y, none)] ∧ y.typ = 6 ∧ y.sub = 0 ∧ y.dst = 0xFF ∧
          numAt y.payload 0 8 = n % 2 ^ 64) ∧
    (s.flag F.BEACON_CFG_ROLE = false → exec .syncSend s = .next s) ∧
    (∀ (p : Fin 4) (pk : Packet) (ta : Nat) (u : State),
      let b := s.beaconPort p.val
      (s.takeSide p.val (fun k => k.typ == 6 && k.sub == 0) = some (pk, ta, u) →
        let period := numAt pk.payload 24 4
        (pk.len ≠ 4 ∨ period < 10000 ∨ 10000000 < period → exec (.linkSync p) s = .next u) ∧
        (pk.len = 4 → 10000 ≤ period → period ≤ 10000000 → s.pageEn 0x5D = true → s.flag F.BEACON_CFG_ROLE = false →
          s.flag F.BEACON_CFG_AUTO = false → ∃ t, exec (.linkSync p) s = .next t ∧
          (t.beaconPort p.val).syncs = b.syncs + 1 ∧ (t.beaconPort p.val).hops = some pk.hops ∧
          (s.fget F.BEACON_CFG_RXPORT = p.val → b.known = false → t.flag F.BEACON_STATUS_NO_DELAY = true ∧
            t.fbit F.PAGE_IRQ_SOURCES 0x5D 5 = true ∧ t.flag F.BEACON_STATUS_VALID = s.flag F.BEACON_STATUS_VALID) ∧
          (s.fget F.BEACON_CFG_RXPORT = p.val → b.known = true → t.flag F.BEACON_STATUS_VALID = true ∧
            t.fbit F.PAGE_IRQ_SOURCES 0x5D 0 = true ∧ t.fget F.BEACON_PERIOD_NS = period ∧
            t.reg .BEACON_BNUM_LO = BitVec.ofNat 32 (numAt pk.payload 0 8) ∧
            t.fget F.BEACON_LAST_ERR_ERR = toField 32 (saturate 32 ((ta : Int) - (16 * (numAt pk.payload 8 8 : Int) +
              signed 64 (numAt pk.payload 16 8) + s.fgetI F.BEACON_DELAY_DELAY p.val + s.fgetI F.BEACON_ASYM_ASYM p.val)))))) ∧
      (s.takeSide p.val (fun k => k.typ == 6 && k.sub == 1) = some (pk, ta, u) → s.pageEn 0x5D = true →
        ∃ t y, exec (.linkDreq p) s = .next t ∧ t.regs = s.regs ∧ (t.port p.val).out = (s.port p.val).out ++ [(y, none)] ∧
          y.typ = 6 ∧ y.sub = 2 ∧ y.dst = pk.src ∧ numAt y.payload 0 8 = numAt pk.payload 0 8 ∧ numAt y.payload 8 8 = ta % 2 ^ 64) ∧
      (s.takeSide p.val (fun k => k.typ == 6 && k.sub == 2) = some (pk, ta, u) → s.pageEn 0x5D = true → pk.len = 3 →
        b.dreq = some (numAt pk.payload 0 8) →
        let m := (signed 64 (ta + 2 ^ 64 - numAt pk.payload 0 8) -
          signed 64 (numAt pk.payload 16 8 + 2 ^ 64 - numAt pk.payload 8 8)) / 2
        let old := s.fgetI F.BEACON_DELAY_DELAY p.val
        ∃ t, exec (.linkDresp p) s = .next t ∧ (t.beaconPort p.val).dreq = none ∧ (t.beaconPort p.val).known = true ∧
          t.fget F.BEACON_DELAY_DELAY p.val = toField 32 (if b.known then old + (m - old) / 8 else m)) ∧
      (s.pageEn 0x5D = true → exec (.drespTimeout p) s = .next (s.setBeaconPort p.val { b with dreq := none }))) ∧
    (s.admits q .BEACON_CTRL 0 (v ||| maskOf 0 1) = true → bits v 1 1 = 0 → ∃ t, exec (.beaconSet q v) s = .next t ∧
      t.beacon.base16 = 16 * (s.get64 .BEACON_SET_LO .BEACON_SET_HI : Int) ∧ t.beacon.baseTick = s.now ∧
      t.flag F.BEACON_STATUS_VALID = true ∧ t.flag F.BEACON_CTRL_SET = false) ∧
    (s.admits q .BEACON_CTRL 0 (v ||| maskOf 1 1) = true → ∃ t, exec (.beaconInvalidate q v) s = .next t ∧
      t.flag F.BEACON_STATUS_VALID = false ∧ t.flag F.BEACON_CTRL_INVALIDATE = false) ∧
    (s.pageEn 0x5D = true → s.flag F.PAIR_CTRL_ELECT_EN = true → s.flag F.BEACON_CFG_ROLE = false →
      ∃ t, exec .beaconElection s = .next t ∧ t.flag F.BEACON_CFG_ROLE = true ∧ t.fget F.BEACON_CFG_TXMASK = 14 ∧
        t.flag F.BEACON_STATUS_VALID = true ∧ t.fbit F.PAGE_IRQ_SOURCES 0x5E 4 = true)

/-- The pair states, the twin's messages and the mirrored baskets. (Where R386 to R396 leave it open, the choices are
log entries 56, 59 and 82.) A message that does not come from the twin on P1 is refused. HELLO, HEARTBEAT and HANDOVER
move the pair state as R387 to R391 give; a record, a digest or an outcome that the device has as well is compared,
and a difference sets MIRROR_DIVERGE. ENTRIES join the slot, ARM begins its validation and ends the outcomes of
earlier arms, ARMED and COMMIT set TWIN_OK with the epoch, ABORTED and CANCEL abort it. PAIR_CTRL takes EN; HANDOVER
and the 100 µs send their messages; the token and the timeouts show in the registers. -/
def Obligations.PairAndMirror : Prop :=
  ∀ (s : State) (q : Requester) (v : Word), s.wf = true →
    let st := s.fget F.PAIR_STATUS_STATE
    let x := s.pairL
    let tells (t : State) (typ sub : Nat) : Prop := s.portUp 1 = true → s.pageEn 0x5E = true →
      ∃ y, (t.port 1).out = (s.port 1).out ++ [(y, none)] ∧ y.typ = typ ∧ y.sub = sub ∧ y.dst = s.twinId
    let bound : Prop := s.pageEn 0x5E = true ∧ s.flag F.PAIR_CTRL_EN = true ∧ s.flag F.SYS_STRAPS_DEVID_BAD = false ∧ s.portUp 1 = true
    (s.domLive .lnk = true → ∀ (pk : Packet) (u : State) (p : Fin 4),
      let n := pk.sub % 8
      let slot := s.slot n
      let slotSt := s.fget F.BS_STATE_STATE n
      let twin (f : Packet → Bool) : Prop := s.takeInbox 1 f = some (pk, u) ∧ pk.src = s.twinId ∧ pk.dst ≠ 0xFF ∧ s.pageEn 0x5E = true
      let refused (i : Instr) (f : Packet → Bool) : Prop := s.takeInbox p.val f = some (pk, u) → p.val ≠ 1 ∨ pk.src ≠ s.twinId →
        ∃ t y, exec i s = .next t ∧ y ∈ (t.port p.val).out ∧ y.1.typ = 10 ∧ y.1.resp = true ∧ y.1.sub = 4 ∧
          (t.port p.val).inbox = (u.port p.val).inbox
      refused (.pairHello p) (isMirror 0) ∧ refused (.pairHeartbeat p) (isMirror 1) ∧ refused (.pairCheckpoint p) (isMirror 2) ∧
      refused (.pairDigest p) (isMirror 3) ∧ refused (.pairOutcome p) (isMirror 4) ∧ refused (.pairHandoverMsg p) (isMirror 5) ∧
      refused (.basketEntries p) (isBasket 0) ∧ refused (.basketArmMsg p) (isBasket 1) ∧ refused (.basketArmed p) (isBasket 2) ∧
      refused (.basketCommit p) (isBasket 3) ∧ refused (.basketAborted p) (isBasket 4) ∧ refused (.basketCancelMsg p) (isBasket 5) ∧
      (twin (isMirror 0) → bound → (st = 1 → 1 ≤ numAt pk.payload 0 1 → numAt pk.payload 0 1 ≤ 4 →
        ∃ t, exec (.pairHello 1) s = .next t ∧ t.fget F.PAIR_STATUS_STATE =
          (if numAt pk.payload 0 1 = 3 ∨ (numAt pk.payload 0 1 = 1 ∧ s.devid % 2 = 0) then 2 else 3)) ∧
        (st = 4 → numAt pk.payload 0 1 = 1 → ∃ t, exec (.pairHello 1) s = .next t ∧ t.fget F.PAIR_STATUS_STATE = 2)) ∧
      (twin (isMirror 1) → ∃ t, exec (.pairHeartbeat 1) s = .next t ∧ t.flag F.PAIR_STATUS_HB_LIVE = true ∧
        (bound → st = 2 → x.handing = true → numAt pk.payload 0 1 = 2 → t.fget F.PAIR_STATUS_STATE = 3) ∧
        (bound → st = 2 → x.handing = false → t.fget F.PAIR_STATUS_STATE = 2)) ∧
      (∀ c, twin (isMirror 2) → pk.len = 4 →
        x.own.find? (fun y => y.eng == numAt pk.payload 0 1 && y.seam == numAt pk.payload 8 8) = some c →
        let d := ((c.angle : Int) - (numAt pk.payload 16 8 : Int)).natAbs
        ∃ t, exec (.pairCheckpoint 1) s = .next t ∧ t.flag F.PAIR_STATUS_MIRROR_DIVERGE = (s.flag F.PAIR_STATUS_MIRROR_DIVERGE ||
          decide (c.st ≠ numAt pk.payload 1 1 ∨ s.fget F.PAIR_CFG_ANG_TOL * 2 ^ 16 < min d (2 ^ 64 - d)))) ∧
      (∀ c, twin (isMirror 3) → x.ownDig.find? (fun y => y.1 == numAt pk.payload 0 1 && y.2.1 == numAt pk.payload 8 8) = some c →
        c.2.2.2 = false → numAt pk.payload 1 1 % 2 = 0 → ∃ t, exec (.pairDigest 1) s = .next t ∧
        t.fget F.PAIR_MIRROR_STAT_COMPARED = min 65535 (s.fget F.PAIR_MIRROR_STAT_COMPARED + 1) ∧
        t.flag F.PAIR_STATUS_MIRROR_DIVERGE = (s.flag F.PAIR_STATUS_MIRROR_DIVERGE || decide (c.2.2.1 ≠ numAt pk.payload 4 4))) ∧
      (twin (isMirror 4) → ∃ t, exec (.pairOutcome 1) s = .next t ∧
        (∀ c, x.ownOut.find? (fun y => y.1 == numAt pk.payload 0 1) = some c →
          t.flag F.PAIR_STATUS_MIRROR_DIVERGE = (s.flag F.PAIR_STATUS_MIRROR_DIVERGE ||
            decide (c.2 ≠ (numAt pk.payload 1 1, numAt pk.payload 8 8)))) ∧
        (x.ownOut.find? (fun y => y.1 == numAt pk.payload 0 1) = none →
          t.pairL.theirOut = x.theirOut ++ [(numAt pk.payload 0 1, numAt pk.payload 1 1, numAt pk.payload 8 8)])) ∧
      (twin (isMirror 5) → ∃ t, exec (.pairHandoverMsg 1) s = .next t ∧
        t.fget F.PAIR_STATUS_STATE = (if st = 3 then 2 else st)) ∧
      (twin (isBasket 0) → pk.aux = 0 → slotSt = 0 → slot.entries = [] → (entriesOf pk.payload).length ≤ 512 →
        ∃ t, exec (.basketEntries 1) s = .next t ∧
          t.basket = (s.setSlot n { slot with entries := entriesOf pk.payload, twin := 2 }).basket ∧
          t.fget F.BS_STATE_COUNT n = (entriesOf pk.payload).length) ∧
      (twin (isBasket 1) → slotSt = 0 → slot.entries.length = numAt pk.payload 10 2 → slot.twin = 2 →
        ∃ t, exec (.basketArmMsg 1) s = .next t ∧ t.fget F.BS_STATE_STATE n = 1 ∧ t.flag F.BS_CTRL_MIRROR n = true ∧
          t.bsTarget n = numAt pk.payload 0 8 ∧ t.fget F.BS_SEAM_MODE n = 1 ∧
          t.basket.slots = (s.setSlot n { slot with twin := 2, arming := true, lost := none }).basket.slots ∧
          t.pairL.ownOut = x.ownOut.filter (fun y => y.1 != n) ∧ t.pairL.theirOut = x.theirOut.filter (fun y => y.1 != n)) ∧
      (twin (isBasket 2) → slotSt = 2 → slot.twin = 1 → ∃ t, exec (.basketArmed 1) s = .next t ∧
        t.flag F.BS_STATE_TWIN_OK n = true ∧ t.basket.slots = (s.setSlot n { slot with
          eligible := s.get64 .AIN_EPOCH_LO .AIN_EPOCH_HI + s.fget F.PAIR_CFG_COMMIT_EP }).basket.slots ∧
        (∀ y, y ∈ t.pairL.ownOut ++ t.pairL.theirOut → y.1 ≠ n)) ∧
      (twin (isBasket 3) → slotSt = 2 → slot.twin = 2 → s.bsPressing n = false →
        let cur := s.get64 .AIN_EPOCH_LO .AIN_EPOCH_HI
        let e := numAt pk.payload 0 8
        ∃ t, exec (.basketCommit 1) s = .next t ∧
          (cur + 1 < e → t.flag F.BS_STATE_TWIN_OK n = true ∧
            t.basket.slots = (s.setSlot n { slot with eligible := e }).basket.slots) ∧
          (e ≤ cur → t.fget F.BS_STATE_STATE n = 4 ∧ t.fget F.BS_STATE_REASON n = 8)) ∧
      (twin (isBasket 4) → slot.twin ≠ 0 → s.bsPressing n = false → ∃ t, exec (.basketAborted 1) s = .next t ∧
        (slotSt = 1 ∨ slotSt = 2 → t.fget F.BS_STATE_STATE n = 4 ∧ t.fget F.BS_STATE_REASON n = 8) ∧
        (slotSt = 3 → t.flag F.PAIR_STATUS_MIRROR_DIVERGE = true)) ∧
      (twin (isBasket 5) → slot.twin = 2 → slotSt = 1 ∨ slotSt = 2 → s.bsPressing n = false →
        ∃ t, exec (.basketCancelMsg 1) s = .next t ∧ t.fget F.BS_STATE_STATE n = 4 ∧ t.fget F.BS_STATE_REASON n = 7)) ∧
    (s.admits q .PAIR_CTRL 0 v = true → bits v 1 1 = 0 → ∃ t, exec (.pairEnableWrite q v) s = .next t ∧
      t.fget F.PAIR_CTRL_EN = bits v 0 1 ∧ (s.pageEn 0x5E = true → bits v 0 1 = 0 → t.fget F.PAIR_STATUS_STATE = 0) ∧
      (s.pageEn 0x5E = true → bits v 0 1 = 1 → st = 0 → s.flag F.SYS_STRAPS_DEVID_BAD = false → s.portUp 1 = false →
        t.fget F.PAIR_STATUS_STATE = 1)) ∧
    (s.admits q .PAIR_CTRL 0 (v ||| maskOf 1 1) = true → s.pageEn 0x5E = true → s.portUp 1 = true → bits v 0 1 = 1 →
      s.flag F.SYS_STRAPS_DEVID_BAD = false → x.hbLost = false → ∃ t, exec (.pairHandover q v) s = .next t ∧ tells t 7 5 ∧
        t.pairL = { x with handing := true } ∧ t.flag F.PAIR_CTRL_HANDOVER = false) ∧
    (∃ t, exec .heartbeatSend s = .next t ∧ tells t 7 1 ∧ t.regs = s.regs) ∧
    (s.pageEn 0x5E = true → ∃ t, exec .heartbeatLoss s = .next t ∧ t.flag F.PAIR_STATUS_HB_LIVE = false ∧
      (s.flag F.PAIR_CTRL_EN = true → s.flag F.SYS_STRAPS_DEVID_BAD = false → st = 2 → t.fget F.PAIR_STATUS_STATE = 4) ∧
      (s.flag F.PAIR_CTRL_EN = true → s.flag F.SYS_STRAPS_DEVID_BAD = false → st = 3 →
        s.flag F.PAIR_STATUS_TOKEN_LIVE = false → t.fget F.PAIR_STATUS_STATE = 4 ∧ t.flag F.PAIR_STATUS_TOOK_OVER = true)) ∧
    (s.pageEn 0x5E = true → st = 2 ∨ st = 4 → x.handing = false →
      exec .tokenPulse s = .next (s.setPair { x with tokens := x.tokens + 1 })) ∧
    (s.pageEn 0x5E = true → (∃ t, exec .tokenEdge s = .next t ∧ t.flag F.PAIR_STATUS_TOKEN_LIVE = true) ∧
      ∃ t, exec .tokenTimeout s = .next t ∧ t.flag F.PAIR_STATUS_TOKEN_LIVE = false) ∧
    (s.pageEn 0x5E = true → s.flag F.PAIR_CTRL_EN = true → s.flag F.SYS_STRAPS_DEVID_BAD = false → st = 1 → s.portUp 1 = false →
      ∃ t, exec .bindTimeout s = .next t ∧
        t.fget F.PAIR_STATUS_STATE = (if s.flag F.PAIR_STATUS_TOKEN_LIVE then 1 else 4))

/-- The crypto unit and the fuses. (What R444 and R445 leave open of the fuses is the model's choice, log entry 73.) A
command begins with BUSY and ends with DONE and its ERR: HASH leaves the digest of the bytes in CRY_DIGEST, VERIFY
says in OK whether the signature is good, MEASURE appends to the log while it is open, ATTEST needs the locked log. A
burn begins with the data of FUSE_PDATA and ends in DONE with the fuses changed as its operation says, or in REFUSED
with the reason and the fuses as they were. -/
def Obligations.CryptoAndFuses : Prop :=
  ∀ (s : State) (q : Requester) (v : Word), s.wf = true →
    let begun (t : State) (k : Nat) : Prop := t.crypto = { s.crypto with cmd := some k } ∧ t.answer = .ok 0 ∧
      t.flag F.PAGE_STATUS_BUSY 0x68 = true
    let idle : State := { s with crypto := { s.crypto with cmd := none } }
    let ended (t : State) (err : Nat) : Prop := t.crypto.cmd = none ∧ t.flag F.CRY_STATUS_DONE = true ∧
      t.fget F.CRY_STATUS_ERR = err ∧ t.flag F.PAGE_STATUS_BUSY 0x68 = false ∧ t.fbit F.PAGE_IRQ_SOURCES 0x68 0 = true
    let src := s.get64 .CRY_SRC_LO .CRY_SRC_HI
    let burns (t : State) (op : Nat) : Prop := t.fuses = { s.fuses with
      burn := some (op, bits v 0 2, (List.range 8).map (fun k => s.reg .FUSE_PDATA k)) } ∧ t.flag F.PAGE_STATUS_BUSY 0x69 = true
    (s.admits q .CRY_CMD 0 (cryWord v 1) = true → ∃ t, exec (.cryHash q v) s = .next t ∧ begun t 1) ∧
    (s.admits q .CRY_CMD 0 (cryWord v 2) = true → ∃ t, exec (.cryVerify q v) s = .next t ∧ begun t 2) ∧
    (s.admits q .CRY_CMD 0 (cryWord v 3) = true → ∃ t, exec (.cryMeasure q v) s = .next t ∧ begun t 3) ∧
    (s.admits q .CRY_CMD 0 (cryWord v 4) = true → ∃ t, exec (.cryAttest q v) s = .next t ∧ begun t 4) ∧
    (s.pageEn 0x68 = true →
      (∀ u bs, s.crypto.cmd = some 1 → idle.blockRead src (s.fget F.CRY_LEN_LEN) = (u, .ok bs) →
        ∃ t, exec .cryDone s = .next t ∧ ended t 0 ∧ t.cryDigest = sha256 bs) ∧
      (∀ u e, s.crypto.cmd = some 1 → idle.blockRead src (s.fget F.CRY_LEN_LEN) = (u, .error e) →
        ∃ t, exec .cryDone s = .next t ∧ ended t e ∧ t.cryDigest = s.cryDigest) ∧
      (∀ u bs, s.crypto.cmd = some 2 → idle.blockRead src 768 = (u, .ok bs) → ∃ t, exec .cryDone s = .next t ∧ ended t 0 ∧
        t.flag F.CRY_STATUS_OK = pssVerify s.cryDigest (bs.take 384) (bs.drop 384)) ∧
      (∀ u e, s.crypto.cmd = some 2 → idle.blockRead src 768 = (u, .error e) → ∃ t, exec .cryDone s = .next t ∧ ended t e ∧
        t.flag F.CRY_STATUS_OK = false ∧ t.crypto.passed = none) ∧
      (s.crypto.cmd = some 3 → ∃ t, exec .cryDone s = .next t ∧
        (s.flag F.BOOT_CTRL_MEAS_LOCK = false → s.crypto.log.length < 32 → ended t 0 ∧
          t.crypto.log = s.crypto.log ++ [(s.fget F.CRY_MTYPE_TYPE, s.fget F.CRY_MTYPE_INDEX, s.cryDigest)] ∧
          t.fget F.CRY_STATUS_NMEAS = s.crypto.log.length + 1) ∧
        (s.flag F.BOOT_CTRL_MEAS_LOCK = true ∨ 32 ≤ s.crypto.log.length → ended t 3 ∧ t.crypto.log = s.crypto.log)) ∧
      (s.crypto.cmd = some 4 → s.flag F.BOOT_CTRL_MEAS_LOCK = false ∨ s.fuses.life = 2 →
        ∃ t, exec .cryDone s = .next t ∧ ended t 4 ∧ t.crypto = { s.crypto with cmd := none })) ∧
    (s.fuses.burn = none →
      (s.admits q .FUSE_PROG 0 (fuseWord v 1) = true → ∃ t, exec (.fuseKeyHash q v) s = .next t ∧ burns t 1) ∧
      (s.admits q .FUSE_PROG 0 (fuseWord v 2) = true → ∃ t, exec (.fuseRevoke q v) s = .next t ∧ burns t 2) ∧
      (s.admits q .FUSE_PROG 0 (fuseWord v 3) = true → ∃ t, exec (.fuseRollback q v) s = .next t ∧ burns t 3) ∧
      (s.admits q .FUSE_PROG 0 (fuseWord v 4) = true → ∃ t, exec (.fuseSecure q v) s = .next t ∧ burns t 4) ∧
      (s.admits q .FUSE_PROG 0 (fuseWord v 5) = true → ∃ t, exec (.fuseRma q v) s = .next t ∧ burns t 5)) ∧
    (∀ op slot data, s.pageEn 0x69 = true → s.fuses.burn = some (op, slot, data) →
      let f : Fuses := { s.fuses with burn := none }
      ∃ t, exec .fuseBurnDone s = .next t ∧ t.fget F.FUSE_STATUS_REASON = s.burnRefused op slot ∧
        t.flag F.PAGE_STATUS_BUSY 0x69 = false ∧
        (s.burnRefused op slot ≠ 0 → t.flag F.FUSE_STATUS_REFUSED = true ∧ t.fuses = f) ∧
        (s.burnRefused op slot = 0 → t.flag F.FUSE_STATUS_DONE = true ∧
          (op = 1 → t.fuses = { f with keys := f.keys.set slot data, programmed := f.programmed ||| 2 ^ slot }) ∧
          (op = 2 → t.fuses = { f with revoked := f.revoked ||| 2 ^ slot }) ∧
          (op = 3 → t.fuses = { f with rollback := max f.rollback (min 64 ((data.headD 0#32).toNat % 128)) }) ∧
          (op = 4 → t.fuses = { f with life := 1 }) ∧ (op = 5 → t.fuses = { f with life := 2 })))

/-- The flash controller, the darn controller and the hold of the GPIO pads. (What the flash changes is an operand,
log entry 67.) START and POLL make the controller busy; an operation ends with DONE, with its command, address and
data phases on the bus, the bytes of the flash that it changed and, for a short read, the data registers; a poll ends
when the byte read matches, or at its limit with TIMEOUT. An aged entry leaves its row tracker. CONFIRM and DECLINE
take the head proposal off the queue; a bank copy that ends puts the bank on its spare, and a spare that held it is
retired; POP takes the oldest log entry off; APPLY answers with its result. RELEASE ends the hold of the pads. -/
def Obligations.FlashDarnsAndHold : Prop :=
  ∀ (s : State) (q : Requester) (v : Word), s.wf = true →
    let len := s.fget F.XSPI_LEN_LEN
    let began (t : State) (k : Nat) : Prop := t.xspi = { s.xspi with run := k } ∧ t.flag F.XSPI_STATUS_BUSY = true ∧ t.flag F.PAGE_STATUS_BUSY 0x62 = true
    let finished (t : State) : Prop := t.xspi.run = 0 ∧ t.flag F.XSPI_STATUS_DONE = true ∧ t.flag F.XSPI_STATUS_BUSY = false ∧
      t.flag F.XSPI_CMD_START = false ∧ t.flag F.XSPI_CMD_POLL = false ∧ t.fbit F.PAGE_IRQ_SOURCES 0x62 0 = true
    (s.admits q .XSPI_CMD 0 ((v ||| maskOf 31 1) &&& ~~~maskOf 30 1) = true →
      ∃ t, exec (.xspiStart q v) s = .next t ∧ began t 1) ∧
    (s.admits q .XSPI_CMD 0 ((v ||| maskOf 30 1) &&& ~~~maskOf 31 1) = true →
      ∃ t, exec (.xspiPoll q v) s = .next t ∧ began t 2 ∧ t.fget F.XSPI_STATUS_POLLS = 0) ∧
    (∀ bytes : List Byte, s.xspiRuns bytes = true →
      (∀ a b, s.xspi.run = 1 → ∃ t, exec (.xspiDone bytes [(a, b)]) s = .next t ∧ finished t ∧
        (∃ x, t.xspi.out = some x ∧ x.cs = s.flag F.XSPI_CMD_CS ∧ x.mode = s.fget F.XSPI_CFG_MODE ∧
          x.dummy = s.fget F.XSPI_CFG_DUMMY ∧ x.write = s.flag F.XSPI_CMD_WRITE ∧
          (s.fget F.XSPI_CFG_MODE ≠ 3 → x.command = [BitVec.ofNat 8 (s.fget F.XSPI_CMD_OPCODE)]) ∧
          (s.fget F.XSPI_CFG_MODE = 3 → s.flag F.XSPI_CFG_EXT_INV = true →
            x.command = [BitVec.ofNat 8 (s.fget F.XSPI_CMD_OPCODE), ~~~BitVec.ofNat 8 (s.fget F.XSPI_CMD_OPCODE)]) ∧
          (s.flag F.XSPI_CMD_ADDR_EN = false → x.address = []) ∧
          (s.flag F.XSPI_CMD_ADDR_EN = true → x.address.length = (if s.flag F.XSPI_CFG_ADDR4 then 4 else 3) ∧
            ofLeBytes x.address.reverse = (s.reg .XSPI_ADDR).toNat % 256 ^ x.address.length) ∧
          (s.flag F.XSPI_CMD_DATA_REG = true → s.flag F.XSPI_CMD_WRITE = false → x.data = bytes.take len) ∧
          (s.flag F.XSPI_CMD_DATA_REG = true → s.flag F.XSPI_CMD_WRITE = true → len ≤ 8 → x.data.length = len ∧ ∀ k, k < len →
            (x.data.getD k 0#8).toNat = bits (s.reg .XSPI_DATA (k / 4)) (8 * (k % 4)) 8)) ∧
        (s.flag F.XSPI_CMD_CS = false → t.flashByte a = b ∧ ∀ x, x ≠ a → t.flashByte x = s.flashByte x) ∧
        (s.flag F.XSPI_CMD_CS = true → t.flash = s.flash) ∧
        (s.flag F.XSPI_CMD_DATA_REG = true → s.flag F.XSPI_CMD_WRITE = false → len ≤ 8 → ∀ k, k < len →
          bits (t.reg .XSPI_DATA (k / 4)) (8 * (k % 4)) 8 = (bytes.getD k 0#8).toNat)) ∧
      (∀ b rest, s.xspi.run = 2 → s.flag F.XSPI_CMD_DATA_REG = true → s.flag F.XSPI_CMD_WRITE = false → len = 1 → bytes = b :: rest →
        ∃ t, exec (.xspiPollRead bytes) s = .next t ∧ t.fget F.XSPI_STATUS_LAST_POLL = b.toNat ∧
          t.fget F.XSPI_STATUS_POLLS = min 65535 (s.fget F.XSPI_STATUS_POLLS + 1) ∧
          (b.toNat &&& s.fget F.XSPI_POLL_MASK = s.fget F.XSPI_POLL_MATCH → finished t) ∧
          (b.toNat &&& s.fget F.XSPI_POLL_MASK ≠ s.fget F.XSPI_POLL_MATCH → t.xspi.run = 2))) ∧
    (s.xspi.run = 2 → s.pageEn 0x62 = true → s.adcClock = true → ∃ t, exec .xspiPollTimeout s = .next t ∧ finished t ∧
      t.flag F.XSPI_STATUS_TIMEOUT = true ∧ t.fbit F.PAGE_IRQ_SOURCES 0x62 1 = true) ∧
    (∀ (d : Fin 3) (i : Fin 16) (x : TrackRow), (s.darn.tracker.filter (fun y => y.dom == d.val))[i.val]? = some x →
      s.darnStands = false → exec (.trackerAgeExpire d i) s =
        .next { s with darn := { s.darn with tracker := s.darn.tracker.filter (fun y => y != x) } }) ∧
    (∀ k g rest, s.darn.props = (k, g) :: rest →
      (s.admits q .DARN_CTRL 0 (v ||| maskOf 0 1) = true → ∃ t, exec (.darnConfirm q v) s = .next t ∧
        t.darn = { s.darn with props := rest, confirmed := s.darn.confirmed ++ [(k, g)] } ∧
        t.flag F.DARN_CTRL_CONFIRM = false) ∧
      (s.admits q .DARN_CTRL 0 (v ||| maskOf 1 1) = true → ∃ t, exec (.darnDecline q v) s = .next t ∧
        (k ≠ 5 → t.darn = { s.darn with props := rest }) ∧ 
        (k = 5 → t.darn.props = rest ∧ t.darn = { s.darn with props := rest, proposed := t.darn.proposed } ∧
          t.darn.proposed = s.darn.proposed.filter (fun y => bankTarget y.1 y.2 != g)))) ∧
    (∀ d b p, s.darn.copy = some (d, b, p) → s.domLive (sramDomain d) = true → s.darnStands = false → ∃ t, exec .bankCopyDone s = .next t ∧
      t.darn.copy = none ∧ t.physBank d b = p ∧
      (∀ y, y ∈ s.darn.banks → y.1 = d → y.2.1 = b → y ∈ t.darn.spent) ∧
      (s.lines.debug = [] → (d, b) ∉ t.darn.proposed)) ∧
    (s.admits q .DARN_LOG_CTRL 0 (v ||| maskOf 31 1) = true → ∃ t, exec (.darnPop q v) s = .next t ∧
      t.darn = { s.darn with log := s.darn.log.drop 1 } ∧ t.flag F.DARN_LOG_CTRL_POP = false) ∧
    (s.admits q .DARN_IN_CTRL 0 (v ||| maskOf 31 1) = true → ∃ t, exec (.darnApply q v) s = .next t ∧
      t.flag F.DARN_IN_CTRL_APPLY = false ∧
      (65536 ≤ (s.reg .DARN_IN 0).toNat → t.fget F.DARN_IN_CTRL_RESULT = 1 ∧ t.darn = s.darn) ∧
      (∀ d b r, (s.reg .DARN_IN 0).toNat = 5 → (s.reg .DARN_IN 1).toNat = bankTarget d b → (s.reg .DARN_IN 2).toNat = r →
        d < 3 → b < sramBanks d → sramBanks d ≤ r → r < sramBanks d + 2 → (∀ x, x ∈ s.darn.banks ++ s.darn.spent → x.1 ≠ d) →
        t.fget F.DARN_IN_CTRL_RESULT = 0 ∧ t.physBank d b = r)) ∧
    (s.admits q .GPIO_CTRL 0 (v ||| maskOf 0 1) = true → ∃ t, exec (.gpioRelease q v) s = .next t ∧
      t.flag F.GPIO_CTRL_HELD = false ∧ t.flag F.GPIO_CTRL_RELEASE = false)
end

