-- ==== Sys2Proof/Laws/Address.lean ====
section
/-!
SUPPORT. The address map gives every register back: the address of a register decodes to that register and to no other.
-/

namespace Sys2Proof.Machine

/-! ### One array -/

/-- The elements of nested dimensions. -/
def dimsCount (ds : List (Nat × Nat)) : Nat := ds.foldl (fun a d => a * d.1) 1

/-- One more than the largest distance of an element. -/
def dimsSpan : List (Nat × Nat) → Nat
  | [] => 1
  | (c, st) :: ds => (c - 1) * st + dimsSpan ds

/-- The inner dimensions lie inside one step of the outer one. -/
def dimsOk : List (Nat × Nat) → Bool
  | [] => true
  | (_, st) :: ds => decide (dimsSpan ds ≤ st) && dimsOk ds

theorem foldl_count (ds : List (Nat × Nat)) (k : Nat) : ds.foldl (fun a d => a * d.1) k = k * dimsCount ds := by
  induction ds generalizing k with
  | nil => simp [dimsCount]
  | cons d ds ih =>
    have h : dimsCount (d :: ds) = d.1 * dimsCount ds := by simp only [dimsCount, List.foldl_cons, Nat.one_mul]; exact ih _
    simp only [List.foldl_cons]
    rw [ih, h, Nat.mul_assoc]

theorem dimsCount_cons (d : Nat × Nat) (ds : List (Nat × Nat)) : dimsCount (d :: ds) = d.1 * dimsCount ds := by
  simp only [dimsCount, List.foldl_cons, Nat.one_mul]; exact foldl_count _ _

theorem dimsOffset_cons (c st : Nat) (ds : List (Nat × Nat)) (n : Nat) :
    dimsOffset ((c, st) :: ds) n = (n / dimsCount ds) * st + dimsOffset ds (n % dimsCount ds) := rfl

/-- An index that the map finds is an element, and lies where the map looked. -/
theorem dimsIndex_sound (ds : List (Nat × Nat)) (acc d m : Nat) (h : dimsIndex ds acc d = some m) :
    ∃ n < dimsCount ds, m = acc * dimsCount ds + n ∧ d = dimsOffset ds n := by
  induction ds generalizing acc d m with
  | nil =>
    simp only [dimsIndex, Option.ite_none_right_eq_some, Option.some.injEq] at h
    exact ⟨0, by simp [dimsCount], by simp [dimsCount, h.2], by simp [dimsOffset, h.1]⟩
  | cons x ds ih =>
    obtain ⟨c, st⟩ := x
    simp only [dimsIndex, Option.ite_none_right_eq_some] at h
    obtain ⟨hq, h⟩ := h
    obtain ⟨n, hn, hm, hd⟩ := ih _ _ _ h
    refine ⟨d / st * dimsCount ds + n, ?_, ?_, ?_⟩
    · rw [dimsCount_cons]; simp only
      calc d / st * dimsCount ds + n < d / st * dimsCount ds + dimsCount ds := by omega
        _ = (d / st + 1) * dimsCount ds := by rw [Nat.add_mul, Nat.one_mul]
        _ ≤ c * dimsCount ds := Nat.mul_le_mul_right _ hq
    · rw [dimsCount_cons, hm]; simp only; ring
    · have hp : 0 < dimsCount ds := by omega
      rw [dimsOffset_cons, Nat.add_comm (d / st * _), Nat.add_mul_div_right _ _ hp, Nat.add_mul_mod_self_right,
        Nat.div_eq_of_lt hn, Nat.mod_eq_of_lt hn, Nat.zero_add, ← hd]
      exact (Nat.div_add_mod' d st).symm

theorem dimsOffset_lt (ds : List (Nat × Nat)) (n : Nat) (h : n < dimsCount ds) : dimsOffset ds n < dimsSpan ds := by
  induction ds generalizing n with
  | nil => simp [dimsOffset, dimsSpan]
  | cons x ds ih =>
    obtain ⟨c, st⟩ := x
    rw [dimsCount_cons] at h
    simp only at h
    have hp : 0 < dimsCount ds := Nat.pos_of_ne_zero (fun e => by simp [e] at h)
    have h1 : n / dimsCount ds ≤ c - 1 := by
      have := (Nat.div_lt_iff_lt_mul hp).mpr h
      omega
    have h2 := ih _ (Nat.mod_lt n hp)
    have h3 := Nat.mul_le_mul_right st h1
    rw [dimsOffset_cons]
    simp only [dimsSpan]
    omega

/-- The map finds every element. -/
theorem dimsIndex_offset (ds : List (Nat × Nat)) (acc n : Nat) (ok : dimsOk ds = true) (h : n < dimsCount ds) :
    dimsIndex ds acc (dimsOffset ds n) = some (acc * dimsCount ds + n) := by
  induction ds generalizing acc n with
  | nil =>
    have : n = 0 := by simp [dimsCount] at h; omega
    simp [dimsIndex, dimsOffset, dimsCount, this]
  | cons x ds ih =>
    obtain ⟨c, st⟩ := x
    rw [dimsCount_cons] at h ⊢
    simp only at h ⊢
    simp only [dimsOk, Bool.and_eq_true, decide_eq_true_eq] at ok
    have hp : 0 < dimsCount ds := Nat.pos_of_ne_zero (fun e => by simp [e] at h)
    have hr := Nat.mod_lt n hp
    have hs := dimsOffset_lt ds _ hr
    have hst : 0 < st := by omega
    have e1 : ((n / dimsCount ds) * st + dimsOffset ds (n % dimsCount ds)) / st = n / dimsCount ds := by
      rw [Nat.add_comm, Nat.add_mul_div_right _ _ hst, Nat.div_eq_of_lt (by omega), Nat.zero_add]
    have e2 : ((n / dimsCount ds) * st + dimsOffset ds (n % dimsCount ds)) % st = dimsOffset ds (n % dimsCount ds) := by
      rw [Nat.add_comm, Nat.add_mul_mod_self_right, Nat.mod_eq_of_lt (by omega)]
    rw [dimsOffset_cons]
    simp only [dimsIndex, e1, e2]
    rw [if_pos ((Nat.div_lt_iff_lt_mul hp).mpr h), ih _ _ ok.2 hr]
    congr 1
    have := Nat.div_add_mod' n (dimsCount ds)
    rw [Nat.add_mul, Nat.mul_assoc]
    omega

theorem Reg.count_eq (r : Reg) : r.count = dimsCount r.layout.dims := rfl

/-! ### All arrays -/

theorem Reg.ctorIdx_lt (r : Reg) : r.ctorIdx < 444 := by cases r <;> exact Nat.le_of_ble_eq_true rfl

/-- What holds of the registers by number holds of every register. -/
theorem Reg.all_of_nat {p : Reg → Bool} (h : (List.range 444).all (fun i => p (Reg.ofNat i)) = true) (r : Reg) :
    p r = true := by
  have := List.all_eq_true.mp h r.ctorIdx (List.mem_range.mpr r.ctorIdx_lt)
  rwa [Reg.ofNat_ctorIdx] at this

theorem Reg.dimsOk_all (r : Reg) : dimsOk r.layout.dims = true :=
  Reg.all_of_nat (p := fun r => dimsOk r.layout.dims) (by decide +kernel) r

/-- The arrays of the page head, by number. -/
def headIdx : List Nat := headRegs.map Reg.ctorIdx

/-- Every element of an array lies in the page head exactly if the array is one of the page head. -/
def Reg.headOk (r : Reg) : Bool :=
  (List.range r.count).all (fun n => decide (r.addr n % 0x1000 < 0x40) == decide (headIdx.contains r.ctorIdx))

theorem Reg.headOk_all (r : Reg) : r.headOk = true :=
  Reg.all_of_nat (p := Reg.headOk) (by decide +kernel) r

/-- An array of the list of page registers or of page heads. -/
def Reg.listed (r : Reg) : Bool := (if headIdx.contains r.ctorIdx then headRegs else Reg.all).any (fun x => x.ctorIdx == r.ctorIdx)

theorem Reg.listed_all (r : Reg) : r.listed = true :=
  Reg.all_of_nat (p := Reg.listed) (by decide +kernel) r

/-- Mark each address of a list in the bits of a number; none if an address is marked already. -/
def markBits : List Nat → Nat → Option Nat
  | [], acc => some acc
  | a :: as, acc => if acc.testBit a then none else markBits as (acc ||| 2 ^ a)

/-- The addresses of all elements of an array. -/
def Reg.addrs (r : Reg) : List Nat := (List.range r.count).map r.addr

/-- Mark the addresses of the arrays with given numbers. -/
def markRegs : List Nat → Nat → Option Nat
  | [], acc => some acc
  | i :: is, acc => (markBits (Reg.ofNat i).addrs acc).bind (markRegs is)

theorem markBits_spec (l : List Nat) (acc m : Nat) (h : markBits l acc = some m) :
    l.Nodup ∧ (∀ a ∈ l, acc.testBit a = false) ∧ ∀ a, m.testBit a = (acc.testBit a || decide (a ∈ l)) := by
  induction l generalizing acc with
  | nil => simp [markBits] at h; simp [h]
  | cons x xs ih =>
    simp only [markBits] at h
    split at h
    · cases h
    · rename_i hx
      obtain ⟨i1, i2, i3⟩ := ih _ h
      have hb : ∀ a, (acc ||| 2 ^ x).testBit a = (acc.testBit a || decide (a = x)) := fun a => by
        simp [Nat.testBit_or, Nat.testBit_two_pow, eq_comm]
      refine ⟨List.nodup_cons.mpr ⟨fun hm => ?_, i1⟩, fun a ha => ?_, fun a => ?_⟩
      · have := i2 _ hm; simp [hb] at this
      · rcases List.mem_cons.mp ha with rfl | ha
        · simpa using hx
        · have := i2 _ ha; simp [hb] at this; exact this.1
      · rw [i3, hb]; simp [Bool.or_assoc]

theorem markRegs_spec (is : List Nat) (acc m : Nat) (h : markRegs is acc = some m) :
    (∀ i ∈ is, (Reg.ofNat i).addrs.Nodup ∧ ∀ a ∈ (Reg.ofNat i).addrs, acc.testBit a = false) ∧
      is.Pairwise (fun i j => ∀ a ∈ (Reg.ofNat i).addrs, a ∉ (Reg.ofNat j).addrs) := by
  induction is generalizing acc with
  | nil => simp
  | cons i is ih =>
    simp only [markRegs] at h
    obtain ⟨k, hk, h⟩ := Option.bind_eq_some_iff.mp h
    obtain ⟨b1, b2, b3⟩ := markBits_spec _ _ _ hk
    obtain ⟨i1, i2⟩ := ih _ h
    refine ⟨fun j hj => ?_, List.pairwise_cons.mpr ⟨fun j hj a ha hb => ?_, i2⟩⟩
    · rcases List.mem_cons.mp hj with rfl | hj
      · exact ⟨b1, b2⟩
      · refine ⟨(i1 j hj).1, fun a ha => ?_⟩
        have := (i1 j hj).2 a ha
        rw [b3] at this; simp at this; exact this.1
    · have := (i1 j hj).2 a hb
      rw [b3] at this; simp [ha] at this

theorem markRegs_all : (markRegs (List.range 444) 0).isSome = true := by decide +kernel

theorem Reg.mem_addrs {r : Reg} {n : Nat} (h : n < r.count) : r.addr n ∈ r.addrs :=
  List.mem_map.mpr ⟨n, List.mem_range.mpr h, rfl⟩

/-- Two registers at one address are one register. -/
theorem addr_inj {r r' : Reg} {n n' : Nat} (h : n < r.count) (h' : n' < r'.count) (e : r.addr n = r'.addr n') :
    r = r' ∧ n = n' := by
  obtain ⟨m, hm⟩ := Option.isSome_iff_exists.mp markRegs_all
  obtain ⟨h1, h2⟩ := markRegs_spec _ _ _ hm
  have hr : r = r' := by
    by_contra hne
    have hi : r.ctorIdx ≠ r'.ctorIdx := fun x => hne (by rw [← Reg.ofNat_ctorIdx r, x, Reg.ofNat_ctorIdx])
    have a1 := Reg.mem_addrs h
    have a2 := Reg.mem_addrs h'
    have key : ∀ i j : Nat, i < 444 → j < 444 → i < j → ∀ a ∈ (Reg.ofNat i).addrs, a ∉ (Reg.ofNat j).addrs := fun i j hi hj hij => by
      have := List.pairwise_iff_getElem.mp h2 i j (by simpa using hi) (by simpa using hj) hij
      simpa using this
    rcases Nat.lt_or_gt_of_ne hi with hlt | hlt
    · have := key _ _ r.ctorIdx_lt r'.ctorIdx_lt hlt (r.addr n)
      simp only [Reg.ofNat_ctorIdx] at this
      exact this a1 (e ▸ a2)
    · have := key _ _ r'.ctorIdx_lt r.ctorIdx_lt hlt (r.addr n)
      simp only [Reg.ofNat_ctorIdx] at this
      exact this (e ▸ a2) a1
  subst hr
  refine ⟨rfl, ?_⟩
  have hn := (h1 r.ctorIdx (List.mem_range.mpr r.ctorIdx_lt)).1
  rw [Reg.ofNat_ctorIdx] at hn
  have := List.inj_on_of_nodup_map hn (List.mem_range.mpr h) (List.mem_range.mpr h') e
  exact this

theorem Reg.ok_lt {r : Reg} {n : Nat} (h : r.ok n = true) : n < r.count := by
  simp only [Reg.ok, Bool.and_eq_true, decide_eq_true_eq] at h; exact h.1

theorem indexAt_sound (r : Reg) (a n : Nat) (h : r.indexAt a = some n) : n < r.count ∧ a = r.addr n := by
  unfold Reg.indexAt at h
  split at h
  · cases h
  · split at h
    · cases h
    · rename_i hb _ m hm
      have hmn : m = n := by
        split at h
        · split at h <;> simp_all
        · split at h <;> simp_all
        · simp_all
      subst hmn
      obtain ⟨k, hk, e1, e2⟩ := dimsIndex_sound _ _ _ _ hm
      simp only [Nat.zero_mul, Nat.zero_add] at e1
      subst e1
      exact ⟨hk, by unfold Reg.addr; omega⟩

theorem indexAt_addr {r : Reg} {n : Nat} (h : r.ok n = true) : r.indexAt (r.addr n) = some n := by
  have hl := Reg.ok_lt h
  have hd : dimsIndex r.layout.dims 0 (r.addr n - r.layout.base) = some n := by
    have := dimsIndex_offset r.layout.dims 0 n (Reg.dimsOk_all r) hl
    simpa [Reg.addr] using this
  have hb : ¬ r.addr n < r.layout.base := by simp [Reg.addr]
  have ht : (r = .EVR_TSEL ∨ r = .EVR_TSTAT) → taskMapped n = true := fun e => by
    simp only [Reg.ok, e, if_true, Bool.and_eq_true] at h; exact h.2
  unfold Reg.indexAt
  rw [if_neg hb, hd]
  simp only
  split
  · simp [ht (Or.inl rfl)]
  · simp [ht (Or.inr rfl)]
  · rfl

theorem findReg_some {l : List Reg} {r : Reg} {a n : Nat} (hr : r ∈ l) (h : r.indexAt a = some n) :
    ∃ r' n', findReg l a = some (r', n') ∧ r'.indexAt a = some n' := by
  induction l with
  | nil => cases hr
  | cons x xs ih =>
    simp only [findReg]
    cases hx : x.indexAt a with
    | some m => exact ⟨x, m, by simp, hx⟩
    | none =>
      rcases List.mem_cons.mp hr with rfl | hr
      · rw [h] at hx; cases hx
      · obtain ⟨r', n', e, f⟩ := ih hr
        exact ⟨r', n', by simpa using e, f⟩

/-- Decoding the address of a register gives the register (R4, R5). -/
theorem regAt_addr {r : Reg} {n : Nat} (h : r.ok n = true) : regAt (r.addr n) = some (r, n) := by
  have hl := Reg.ok_lt h
  have hh := List.all_eq_true.mp (Reg.headOk_all r) n (List.mem_range.mpr hl)
  have hm : r ∈ (if headIdx.contains r.ctorIdx then headRegs else Reg.all) := by
    obtain ⟨x, hx, e⟩ := List.any_eq_true.mp (Reg.listed_all r)
    have : x = r := by
      rw [← Reg.ofNat_ctorIdx x, ← Reg.ofNat_ctorIdx r]; congr 1; simpa using e
    exact this ▸ hx
  have key : ∀ l : List Reg, r ∈ l → findReg l (r.addr n) = some (r, n) := fun l hl' => by
    obtain ⟨r', n', e, f⟩ := findReg_some hl' (indexAt_addr h)
    obtain ⟨g1, g2⟩ := indexAt_sound _ _ _ f
    obtain ⟨rfl, rfl⟩ := addr_inj hl g1 g2
    exact e
  simp only [beq_iff_eq, decide_eq_decide] at hh
  unfold regAt
  by_cases hc : r.addr n % 0x1000 < 0x40
  · rw [if_pos hc]; rw [if_pos (hh.mp hc)] at hm; exact key _ hm
  · rw [if_neg hc]; rw [if_neg (fun x => hc (hh.mpr x))] at hm; exact key _ hm

end Sys2Proof.Machine
end

