-- ==== Sys2Proof/Laws/RegFile.lean ====
section
/-!
SUPPORT. Laws of the sparse register file: what a store changes, and that it keeps the canonical form.
-/

namespace Sys2Proof.Machine

/-! ### Sorted lists -/

theorem risingFrom_mono {α : Type} {m n : Nat} (h : m ≤ n) (l : List (Nat × α)) (w : risingFrom n l = true) :
    risingFrom m l = true := by
  cases l with
  | nil => rfl
  | cons x xs => obtain ⟨k, v⟩ := x; simp [risingFrom] at w ⊢; exact ⟨by omega, w.2⟩

theorem rfGet_lt {n a : Nat} (l : List (Nat × Word)) (w : risingFrom n l = true) (h : a < n) : rfGet l a = none := by
  cases l with
  | nil => rfl
  | cons x xs =>
    obtain ⟨k, v⟩ := x
    simp [risingFrom] at w
    simp only [rfGet]
    rw [if_neg (by omega), if_pos (by omega)]

theorem rfPut_rising {n a : Nat} (x : Word) (l : List (Nat × Word)) (w : risingFrom n l = true) (h : n ≤ a) :
    risingFrom n (rfPut l a x) = true := by
  induction l generalizing n with
  | nil => simp [rfPut, risingFrom, h]
  | cons y ys ih =>
    obtain ⟨k, v⟩ := y
    simp only [risingFrom, Bool.and_eq_true, decide_eq_true_eq] at w
    simp only [rfPut]
    split
    · simp_all [risingFrom]
    · split
      · simp only [risingFrom, Bool.and_eq_true, decide_eq_true_eq]
        exact ⟨h, by omega, w.2⟩
      · simp only [risingFrom, Bool.and_eq_true, decide_eq_true_eq]
        exact ⟨w.1, ih w.2 (by omega)⟩

theorem rfDel_rising {n a : Nat} (l : List (Nat × Word)) (w : risingFrom n l = true) :
    risingFrom n (rfDel l a) = true := by
  induction l generalizing n with
  | nil => rfl
  | cons y ys ih =>
    obtain ⟨k, v⟩ := y
    simp only [risingFrom, Bool.and_eq_true, decide_eq_true_eq] at w
    simp only [rfDel]
    split
    · exact risingFrom_mono (by omega) _ w.2
    · split
      · simp [risingFrom, w.1, w.2]
      · simp only [risingFrom, Bool.and_eq_true, decide_eq_true_eq]
        exact ⟨w.1, ih w.2⟩

theorem risingFrom_filter {α : Type} {n : Nat} (p : Nat × α → Bool) (l : List (Nat × α)) (w : risingFrom n l = true) :
    risingFrom n (l.filter p) = true := by
  induction l generalizing n with
  | nil => rfl
  | cons y ys ih =>
    obtain ⟨k, v⟩ := y
    simp only [risingFrom, Bool.and_eq_true, decide_eq_true_eq] at w
    simp only [List.filter]
    split
    · simp only [risingFrom, Bool.and_eq_true, decide_eq_true_eq]
      exact ⟨w.1, ih w.2⟩
    · exact risingFrom_mono (by omega) _ (ih w.2)

theorem rfGet_rfPut (l : List (Nat × Word)) (a b : Nat) (x : Word) :
    rfGet (rfPut l a x) b = if b = a then some x else rfGet l b := by
  induction l with
  | nil =>
    simp only [rfPut, rfGet]
    by_cases h : b = a
    · simp [h]
    · rw [if_neg (Ne.symm h), if_neg h]; split <;> rfl
  | cons y ys ih =>
    obtain ⟨k, v⟩ := y
    simp only [rfPut]
    split
    · rename_i e
      subst e
      simp only [rfGet]
      by_cases h : b = k
      · simp [h]
      · simp [h, Ne.symm h]
    · split
      · simp only [rfGet]
        by_cases h : b = a
        · simp [h]
        · rw [if_neg (Ne.symm h), if_neg h]
          by_cases h2 : b < a
          · rw [if_pos h2, if_neg (by omega), if_pos (by omega)]
          · rw [if_neg h2]
      · simp only [rfGet]
        by_cases h : b = a
        · subst h
          rename_i e1 e2
          rw [if_neg e1, if_neg e2, ih]; simp
        · rw [ih, if_neg h, if_neg h]

theorem rfGet_rfDel {n : Nat} (l : List (Nat × Word)) (a b : Nat) (w : risingFrom n l = true) :
    rfGet (rfDel l a) b = if b = a then none else rfGet l b := by
  induction l generalizing n with
  | nil => simp [rfDel, rfGet]
  | cons y ys ih =>
    obtain ⟨k, v⟩ := y
    simp only [risingFrom, Bool.and_eq_true, decide_eq_true_eq] at w
    simp only [rfDel]
    split
    · rename_i e
      subst e
      by_cases h : b = k
      · subst h; simp only [if_true]; exact rfGet_lt _ w.2 (by omega)
      · rw [if_neg h]
        simp only [rfGet]
        rw [if_neg (Ne.symm h)]
        split
        · exact rfGet_lt _ w.2 (by omega)
        · rfl
    · split
      · by_cases h : b = a
        · subst h; rename_i e1 e2; simp [rfGet, e2]; exact e1
        · rw [if_neg h]
      · simp only [rfGet]
        by_cases h : b = a
        · subst h; rename_i e1 e2; rw [if_neg e1, if_neg e2, ih w.2]; simp
        · rw [ih w.2, if_neg h, if_neg h]

/-! ### The canonical form -/

/-- An entry of the register file that the canonical form admits. -/
def entryOk (kv : Nat × Word) : Bool :=
  match regAt kv.1 with
  | some (r, n) => kv.2 != r.reset n
  | none => false

theorem Regs.wf_eq (l : List (Nat × Word)) : Regs.wf l = (risingFrom 0 l && l.all entryOk) := rfl

theorem Regs.wf_rising {l : List (Nat × Word)} (w : Regs.wf l = true) : risingFrom 0 l = true := by
  rw [Regs.wf_eq, Bool.and_eq_true] at w; exact w.1

theorem rfPut_all {p : Nat × Word → Bool} (l : List (Nat × Word)) (a : Nat) (x : Word) (w : l.all p = true) (h : p (a, x) = true) :
    (rfPut l a x).all p = true := by
  induction l with
  | nil => simp [rfPut, h]
  | cons y ys ih =>
    obtain ⟨k, v⟩ := y
    simp only [List.all_cons, Bool.and_eq_true] at w
    simp only [rfPut]
    split
    · simp [h, w.2]
    · split
      · simp only [List.all_cons, Bool.and_eq_true]; exact ⟨h, w⟩
      · simp only [List.all_cons, Bool.and_eq_true]; exact ⟨w.1, ih w.2⟩

theorem rfDel_all {p : Nat × Word → Bool} (l : List (Nat × Word)) (a : Nat) (w : l.all p = true) : (rfDel l a).all p = true := by
  induction l with
  | nil => rfl
  | cons y ys ih =>
    obtain ⟨k, v⟩ := y
    simp only [List.all_cons, Bool.and_eq_true] at w
    simp only [rfDel]
    split
    · exact w.2
    · split
      · simp only [List.all_cons, Bool.and_eq_true]; exact w
      · simp only [List.all_cons, Bool.and_eq_true]; exact ⟨w.1, ih w.2⟩

/-- A filter keeps the canonical form. -/
theorem Regs.wf_filter (p : Nat × Word → Bool) (l : List (Nat × Word)) (w : Regs.wf l = true) : Regs.wf (l.filter p) = true := by
  rw [Regs.wf_eq, Bool.and_eq_true] at w ⊢
  refine ⟨risingFrom_filter p l w.1, List.all_eq_true.mpr (fun x hx => ?_)⟩
  exact List.all_eq_true.mp w.2 x (List.mem_filter.mp hx).1

/-! ### Reading after a store -/

theorem setReg_regs (s : State) (r : Reg) (n : Nat) (v : Word) (ok : r.ok n = true) :
    (s.setReg r n v).regs = if v = r.reset n then rfDel s.regs (r.addr n) else rfPut s.regs (r.addr n) v := by
  simp [State.setReg, ok]

/-- A store touches the register file alone. -/
theorem setReg_eq (s : State) (r : Reg) (n : Nat) (v : Word) : s.setReg r n v = { s with regs := (s.setReg r n v).regs } := by
  unfold State.setReg; split <;> rfl

/-- A store keeps the canonical form. -/
theorem setReg_wf (s : State) (r : Reg) (n : Nat) (v : Word) (w : Regs.wf s.regs = true) :
    Regs.wf (s.setReg r n v).regs = true := by
  by_cases ok : r.ok n = true
  · rw [setReg_regs _ _ _ _ ok]
    rw [Regs.wf_eq, Bool.and_eq_true] at w
    split
    · rw [Regs.wf_eq, rfDel_rising _ w.1, rfDel_all _ _ w.2]; rfl
    · rename_i h
      rw [Regs.wf_eq, rfPut_rising _ _ w.1 (Nat.zero_le _), rfPut_all _ _ _ w.2]; rfl
      simp [entryOk, regAt_addr ok, h]
  · have : s.setReg r n v = s := by simp [State.setReg, ok]
    rw [this]; exact w

/-- A register reads as the word stored last. -/
theorem reg_setReg_same (s : State) (r : Reg) (n : Nat) (v : Word) (w : Regs.wf s.regs = true) (ok : r.ok n = true) :
    (s.setReg r n v).reg r n = v := by
  by_cases h : v = r.reset n
  · unfold State.reg; rw [setReg_regs _ _ _ _ ok, if_pos h, rfGet_rfDel _ _ _ (Regs.wf_rising w)]; simp [h]
  · unfold State.reg; rw [setReg_regs _ _ _ _ ok, if_neg h, rfGet_rfPut]; simp

/-- A store leaves every other register. -/
theorem reg_setReg_ne (s : State) {r r' : Reg} {n n' : Nat} (v : Word) (w : Regs.wf s.regs = true)
    (ok' : r'.ok n' = true) (h : r' ≠ r ∨ n' ≠ n) : (s.setReg r n v).reg r' n' = s.reg r' n' := by
  by_cases ok : r.ok n = true
  · have ha : r'.addr n' ≠ r.addr n := fun e => by
      have := addr_inj (Reg.ok_lt ok') (Reg.ok_lt ok) e
      rcases h with h | h
      · exact h this.1
      · exact h this.2
    have e : rfGet (s.setReg r n v).regs (r'.addr n') = rfGet s.regs (r'.addr n') := by
      rw [setReg_regs _ _ _ _ ok]
      by_cases hv : v = r.reset n
      · rw [if_pos hv, rfGet_rfDel _ _ _ (Regs.wf_rising w), if_neg ha]
      · rw [if_neg hv, rfGet_rfPut, if_neg ha]
    unfold State.reg
    rw [e]
  · have : s.setReg r n v = s := by simp [State.setReg, ok]
    rw [this]

/-! ### Fields of a word -/

theorem bits_eq (v : Word) (lo w : Nat) : bits v lo w = (v.toNat / 2 ^ lo) % 2 ^ w := by
  rw [bits, Nat.shiftRight_eq_div_pow]

theorem testBit_bits (v : Word) (lo w i : Nat) : (bits v lo w).testBit i = (decide (i < w) && v.getLsbD (lo + i)) := by
  rw [bits, Nat.testBit_mod_two_pow, Nat.testBit_shiftRight]; rfl

theorem maskOf_getLsbD (lo w i : Nat) : (maskOf lo w).getLsbD i = (decide (i < 32) && decide (lo ≤ i) && decide (i < lo + w)) := by
  rw [maskOf, BitVec.getLsbD_ofNat, Nat.testBit_shiftLeft, Nat.testBit_two_pow_sub_one]
  by_cases h1 : i < 32 <;> by_cases h2 : lo ≤ i <;> simp [h1, h2] ; omega

theorem withBits_getLsbD (v : Word) (lo w x i : Nat) :
    (withBits v lo w x).getLsbD i =
      if lo ≤ i ∧ i < lo + w ∧ i < 32 then x.testBit (i - lo) else v.getLsbD i := by
  simp only [withBits, BitVec.getLsbD_or, BitVec.getLsbD_and, BitVec.getLsbD_not, maskOf_getLsbD, BitVec.getLsbD_ofNat,
    Nat.testBit_shiftLeft, Nat.testBit_mod_two_pow]
  by_cases h3 : i < 32
  · by_cases h1 : lo ≤ i <;> by_cases h2 : i < lo + w <;> simp [h1, h2, h3]
    · omega
    · omega
  · have : v.getLsbD i = false := BitVec.getLsbD_of_ge v i (by omega)
    simp [h3, this]

/-- A field that has just been written reads as what was written. -/
theorem bits_withBits_same (v : Word) (lo w x : Nat) (h : lo + w ≤ 32) : bits (withBits v lo w x) lo w = x % 2 ^ w := by
  apply Nat.eq_of_testBit_eq
  intro i
  rw [testBit_bits, withBits_getLsbD, Nat.testBit_mod_two_pow]
  by_cases hi : i < w
  · rw [if_pos (by omega)]; simp [hi]
  · simp [hi]

/-- A field apart from the one written keeps its value. -/
theorem bits_withBits_other (v : Word) (lo w x lo' w' : Nat) (h : lo' + w' ≤ lo ∨ lo + w ≤ lo') :
    bits (withBits v lo w x) lo' w' = bits v lo' w' := by
  apply Nat.eq_of_testBit_eq
  intro i
  rw [testBit_bits, testBit_bits, withBits_getLsbD]
  by_cases hi : i < w'
  · rw [if_neg (by omega)]
  · simp [hi]

/-- A write of a field leaves the word's bits outside it. -/
theorem withBits_outside (v : Word) (lo w x i : Nat) (h : i < lo ∨ lo + w ≤ i) :
    (withBits v lo w x).getLsbD i = v.getLsbD i := by
  rw [withBits_getLsbD, if_neg (by omega)]

/-! ### Fields of registers -/

theorem reg_fset_same (s : State) (f : Fld) (n x : Nat) (w : Regs.wf s.regs = true) (ok : f.reg.ok n = true) :
    (s.fset f n x).reg f.reg n = withBits (s.reg f.reg n) f.lo f.width x := reg_setReg_same _ _ _ _ w ok

theorem reg_fset_ne (s : State) (f : Fld) (n x : Nat) {r : Reg} {n' : Nat} (w : Regs.wf s.regs = true)
    (ok' : r.ok n' = true) (h : r ≠ f.reg ∨ n' ≠ n) : (s.fset f n x).reg r n' = s.reg r n' :=
  reg_setReg_ne _ _ w ok' h

/-- A field reads as what was written last. -/
theorem fget_fset_same (s : State) (f : Fld) (n x : Nat) (w : Regs.wf s.regs = true) (ok : f.reg.ok n = true)
    (h : f.lo + f.width ≤ 32) : (s.fset f n x).fget f n = x % 2 ^ f.width := by
  rw [State.fget, reg_fset_same _ _ _ _ w ok, bits_withBits_same _ _ _ _ h]

/-- Another field of the same register keeps its value. -/
theorem fget_fset_field (s : State) (f g : Fld) (n x : Nat) (w : Regs.wf s.regs = true) (ok : f.reg.ok n = true)
    (e : g.reg = f.reg) (h : g.lo + g.width ≤ f.lo ∨ f.lo + f.width ≤ g.lo) : (s.fset f n x).fget g n = s.fget g n := by
  rw [State.fget, e, reg_fset_same _ _ _ _ w ok, bits_withBits_other _ _ _ _ _ _ h, State.fget, e]

/-- A field of another register keeps its value. -/
theorem fget_fset_ne (s : State) (f g : Fld) (n n' x : Nat) (w : Regs.wf s.regs = true)
    (ok' : g.reg.ok n' = true) (h : g.reg ≠ f.reg ∨ n' ≠ n) : (s.fset f n x).fget g n' = s.fget g n' := by
  rw [State.fget, reg_fset_ne _ _ _ _ w ok' h, State.fget]

theorem fset_wf (s : State) (f : Fld) (n x : Nat) (w : Regs.wf s.regs = true) : Regs.wf (s.fset f n x).regs = true :=
  setReg_wf _ _ _ _ w

theorem fsetB_wf (s : State) (f : Fld) (n : Nat) (b : Bool) (w : Regs.wf s.regs = true) :
    Regs.wf (s.fsetB f n b).regs = true := setReg_wf _ _ _ _ w

theorem fsetBit_wf (s : State) (f : Fld) (n i : Nat) (b : Bool) (w : Regs.wf s.regs = true) :
    Regs.wf (s.fsetBit f n i b).regs = true := setReg_wf _ _ _ _ w

end Sys2Proof.Machine
end

