-- ==== Sys2Proof/Laws/Memory.lean ====
section
/-!
SUPPORT. Laws of the sparse memories: a read after a write, and that every memory operation keeps the canonical form.
-/

namespace Sys2Proof.Machine

/-- The canonical form from an address on. -/
def memFrom : Nat → List Host.Cell → Bool
  | _, [] => true
  | n, (k, v) :: rest => decide (n ≤ k) && v != memDefault && memFrom (k + 1) rest

theorem memFrom_wf (l : List Host.Cell) : Memory.wf l = memFrom 0 l := by
  have key : ∀ (k : Nat) (v : Byte) (l : List Host.Cell), Memory.wf ((k, v) :: l) = (v != memDefault && memFrom (k + 1) l) := by
    intro k v l
    induction l generalizing k v with
    | nil => simp [Memory.wf, memFrom]
    | cons y ys ih =>
      obtain ⟨k', v'⟩ := y
      simp only [Memory.wf, memFrom]
      rw [ih]
      have e : decide (k < k') = decide (k + 1 ≤ k') := rfl
      rw [e]
      cases (v != memDefault) <;> cases decide (k + 1 ≤ k') <;> simp
  cases l with
  | nil => rfl
  | cons y ys => obtain ⟨k, v⟩ := y; rw [key]; simp [memFrom]

theorem memFrom_mono {m n : Nat} (h : m ≤ n) (l : List Host.Cell) (w : memFrom n l = true) : memFrom m l = true := by
  cases l with
  | nil => rfl
  | cons y ys =>
    obtain ⟨k, v⟩ := y
    simp only [memFrom, Bool.and_eq_true, decide_eq_true_eq] at w ⊢
    exact ⟨⟨by omega, w.1.2⟩, w.2⟩

theorem memGet_lt {n a : Nat} (l : List Host.Cell) (w : memFrom n l = true) (h : a < n) : memGet l a = memDefault := by
  cases l with
  | nil => rfl
  | cons y ys =>
    obtain ⟨k, v⟩ := y
    simp only [memFrom, Bool.and_eq_true, decide_eq_true_eq] at w
    simp only [memGet]
    rw [if_neg (by omega), if_pos (by omega)]

theorem memPut_from {n a : Nat} (x : Byte) (l : List Host.Cell) (w : memFrom n l = true) (h : n ≤ a) :
    memFrom n (memPut l a x) = true := by
  induction l generalizing n with
  | nil =>
    simp only [memPut]
    split
    · rfl
    · rename_i hx; simp [memFrom, h, hx]
  | cons y ys ih =>
    obtain ⟨k, v⟩ := y
    simp only [memFrom, Bool.and_eq_true, decide_eq_true_eq] at w
    simp only [memPut]
    split
    · rename_i e
      split
      · exact memFrom_mono (by omega) _ w.2
      · rename_i hx; subst e; simp [memFrom, h, hx, w.2]
    · split
      · split
        · simp [memFrom, w.1.1, w.1.2, w.2]
        · rename_i e hx
          simp only [memFrom, Bool.and_eq_true, decide_eq_true_eq]
          exact ⟨⟨h, by simpa using hx⟩, ⟨by omega, w.1.2⟩, w.2⟩
      · simp only [memFrom, Bool.and_eq_true, decide_eq_true_eq]
        exact ⟨w.1, ih w.2 (by omega)⟩

/-- A byte reads as what was stored last, every other byte as before. -/
theorem memGet_memPut {n : Nat} (l : List Host.Cell) (a b : Nat) (x : Byte) (w : memFrom n l = true) :
    memGet (memPut l a x) b = if b = a then x else memGet l b := by
  induction l generalizing n with
  | nil =>
    simp only [memPut]
    by_cases hx : x = memDefault
    · simp [hx, memGet]
    · by_cases h : b = a
      · simp [hx, memGet, h]
      · simp only [hx, if_false, memGet, h]
        rw [if_neg (Ne.symm h)]; split <;> rfl
  | cons y ys ih =>
    obtain ⟨k, v⟩ := y
    simp only [memFrom, Bool.and_eq_true, decide_eq_true_eq] at w
    simp only [memPut]
    split
    · rename_i e
      subst e
      by_cases hx : x = memDefault
      · rw [if_pos hx]
        by_cases h : b = k
        · subst h; rw [if_pos rfl, memGet_lt _ w.2 (by omega), hx]
        · rw [if_neg h]; simp only [memGet]; rw [if_neg (Ne.symm h)]
          split
          · exact memGet_lt _ w.2 (by omega)
          · rfl
      · rw [if_neg hx]; simp only [memGet]
        by_cases h : b = k
        · simp [h]
        · simp [h, Ne.symm h]
    · split
      · rename_i e1 e2
        by_cases hx : x = memDefault
        · rw [if_pos hx]
          by_cases h : b = a
          · subst h; rw [if_pos rfl]; simp only [memGet]; rw [if_neg e1, if_pos e2, hx]
          · rw [if_neg h]
        · rw [if_neg hx]
          by_cases h : b = a
          · simp [memGet, h]
          · rw [if_neg h]; simp only [memGet]; rw [if_neg (Ne.symm h)]
            by_cases h2 : b < a
            · rw [if_pos h2, if_neg (by omega), if_pos (by omega)]
            · rw [if_neg h2]
      · rename_i e1 e2
        simp only [memGet]
        by_cases h : b = a
        · subst h; rw [if_neg e1, if_neg e2, ih w.2]; simp
        · rw [ih w.2, if_neg h, if_neg h]

/-- A store of one byte keeps the canonical form. -/
theorem memPut_wf (l : List Host.Cell) (a : Nat) (x : Byte) (w : Memory.wf l = true) : Memory.wf (memPut l a x) = true := by
  rw [memFrom_wf] at w ⊢; exact memPut_from x l w (Nat.zero_le _)

/-- A store of bytes keeps the canonical form. -/
theorem memPuts_wf (l : List Host.Cell) (a : Nat) (bs : List Byte) (w : Memory.wf l = true) :
    Memory.wf (memPuts l a bs) = true := by
  induction bs generalizing l a with
  | nil => exact w
  | cons b bs ih => exact ih _ _ (memPut_wf _ _ _ w)

/-- After a store of bytes, a byte outside them reads as before, and byte `i` of them as what was stored. -/
theorem memGet_memPuts (l : List Host.Cell) (a b : Nat) (bs : List Byte) (w : Memory.wf l = true) :
    memGet (memPuts l a bs) b = if a ≤ b ∧ b < a + bs.length then bs.getD (b - a) memDefault else memGet l b := by
  induction bs generalizing l a with
  | nil => simp only [memPuts, List.length_nil, Nat.add_zero]; rw [if_neg (by omega)]
  | cons x xs ih =>
    simp only [memPuts]
    rw [ih _ _ (memPut_wf _ _ _ w), memGet_memPut l a b x ((memFrom_wf l) ▸ w)]
    by_cases h1 : b = a
    · subst h1
      rw [if_neg (by omega), if_pos rfl, if_pos (by simp)]; simp
    · rw [if_neg h1]
      by_cases h2 : a + 1 ≤ b ∧ b < a + 1 + xs.length
      · rw [if_pos h2, if_pos (by simp only [List.length_cons]; omega)]
        obtain ⟨d, rfl⟩ : ∃ d, b = a + 1 + d := ⟨b - (a + 1), by omega⟩
        rw [show a + 1 + d - (a + 1) = d by omega, show a + 1 + d - a = d + 1 by omega]; rfl
      · rw [if_neg h2, if_neg (by simp only [List.length_cons]; omega)]

/-- `putBytes` keeps the canonical form of memory. -/
theorem putBytes_wf (s : State) (a : Nat) (bs : List Byte) (w : Memory.wf s.mem = true) :
    Memory.wf (s.putBytes a bs).mem = true := memPuts_wf _ _ _ w

/-- `putVal` keeps the canonical form of memory. -/
theorem putVal_wf (s : State) (a n x : Nat) (w : Memory.wf s.mem = true) : Memory.wf (s.putVal a n x).mem = true :=
  memPuts_wf _ _ _ w

/-- Filtering a memory keeps its canonical form. -/
theorem Memory.wf_filter (p : Host.Cell → Bool) (l : List Host.Cell) (w : Memory.wf l = true) :
    Memory.wf (l.filter p) = true := by
  rw [memFrom_wf] at w ⊢
  suffices ∀ n, memFrom n l = true → memFrom n (l.filter p) = true from this 0 w
  intro n w
  induction l generalizing n with
  | nil => rfl
  | cons y ys ih =>
    obtain ⟨k, v⟩ := y
    simp only [memFrom, Bool.and_eq_true, decide_eq_true_eq] at w
    rw [List.filter_cons]
    split
    · simp only [memFrom, Bool.and_eq_true, decide_eq_true_eq]
      exact ⟨w.1, ih (memFrom_mono (Nat.zero_le _) _ w.2) _ w.2⟩
    · exact memFrom_mono (by omega) _ (ih (memFrom_mono (Nat.zero_le _) _ w.2) _ w.2)

end Sys2Proof.Machine
end

