-- ==== Sys2Proof/Laws/Access.lean ====
section
/-!
SUPPORT. Laws of an access to a register page: what a word write that the page takes does, and what a word read does.
-/

namespace Sys2Proof.Machine

/-- Every register lies on a word boundary. -/
def Reg.aligned (r : Reg) : Bool := (List.range r.count).all (fun n => r.addr n % 4 == 0)

theorem Reg.aligned_all (r : Reg) : r.aligned = true := Reg.all_of_nat (p := Reg.aligned) (by decide +kernel) r

theorem addr_mod4 {r : Reg} {n : Nat} (h : r.ok n = true) : r.addr n % 4 = 0 := by
  have := List.all_eq_true.mp (Reg.aligned_all r) n (List.mem_range.mpr (Reg.ok_lt h))
  simpa using this

theorem pageInfo_of_live {s : State} {p : Nat} (h : s.pageLive p = true) : (pageInfo p).isNone = false := by
  unfold State.pageLive at h
  cases hp : pageInfo p with
  | none => simp [hp] at h
  | some x => rfl

/-- An access that is performed is not held. -/
theorem access_performs (s : State) (q : Requester) (wr : Bool) (sz : AccessSize) (a : Nat) (v : Word)
    (h : s.performs q (a / 0x1000) = true) : s.access q wr sz a v = s.perform (s.who q) wr sz.bytes a (logAddr q a) v := by
  simp only [State.performs, Bool.and_eq_true, Bool.not_eq_true'] at h
  unfold State.access
  simp [h.1.1.1, h.1.1.2]

theorem performs_live {s : State} {q : Requester} {p : Nat} (h : s.performs q p = true) :
    s.pageLive p = true ∧ s.ownerPass (s.who q) p = true := by
  simp only [State.performs, Bool.and_eq_true] at h
  exact ⟨h.1.2, h.2⟩

/-- What a word write that passes the fabric's conditions does (R7). -/
theorem writeReg_performs (s : State) (q : Requester) (r : Reg) (n : Nat) (v : Word) (ok : r.ok n = true)
    (h : s.performs q (r.page n) = true) :
    s.writeReg q r n v = { s.regWrite (s.who q) (r.page n) r n v with answer := .ok 0 } := by
  obtain ⟨hl, ho⟩ := performs_live h
  unfold State.writeReg
  rw [access_performs _ _ _ _ _ _ h]
  have e : s.performWrite (s.who q) 4 (r.addr n) (logAddr q (r.addr n)) v =
      (s.regWrite (s.who q) (r.page n) r n v, .ok 0) := by
    unfold Reg.page at hl ho ⊢
    simp only [State.performWrite, pageInfo_of_live hl, addr_mod4 ok, regAt_addr ok, hl, ho, ne_eq, not_true_eq_false,
      or_self, if_false, Bool.not_true, Bool.false_eq_true, if_true]
  simp only [State.perform, AccessSize.bytes, if_true, e]

/-- What a word write that the page takes does. -/
theorem writeReg_admits (s : State) (q : Requester) (r : Reg) (n : Nat) (v : Word) (ok : r.ok n = true)
    (h : s.admits q r n v = true) :
    s.writeReg q r n v =
      { ((s.portWrite (s.who q) r n v).getD (s.landWrite (s.who q) r n v)).softReady s with answer := .ok 0 } := by
  simp only [State.admits, Bool.and_eq_true, Bool.not_eq_true', Option.isNone_iff_eq_none] at h
  obtain ⟨⟨⟨⟨⟨⟨h1, h2⟩, h3⟩, h4⟩, h5⟩, h6⟩, h7⟩ := h
  rw [writeReg_performs s q r n v ok h1]
  simp only [State.regWrite, h2, h3, h4, h5, h6, h7, Bool.not_true, Bool.or_self, if_false, Bool.false_eq_true]

/-- What a word read that passes the fabric's conditions does (R7). -/
theorem readReg_performs (s : State) (q : Requester) (r : Reg) (n : Nat) (ok : r.ok n = true)
    (h : s.performs q (r.page n) = true) :
    s.readReg q r n =
      { (s.regRead (s.who q) r n).1 with answer := .ok (s.regRead (s.who q) r n).2.toNat } := by
  obtain ⟨hl, ho⟩ := performs_live h
  unfold State.readReg
  rw [access_performs _ _ _ _ _ _ h]
  have e : s.performRead (s.who q) 4 (r.addr n) (logAddr q (r.addr n)) =
      ((s.regRead (s.who q) r n).1, .ok (s.regRead (s.who q) r n).2.toNat) := by
    unfold Reg.page at hl ho
    simp only [State.performRead, pageInfo_of_live hl, addr_mod4 ok, regAt_addr ok, hl, ho, ne_eq, not_true_eq_false,
      or_self, if_false, Bool.not_true, Bool.false_eq_true, if_true]
  simp only [State.perform, AccessSize.bytes, Bool.false_eq_true, if_false, e]

/-- A pending soft seam may become due, and nothing else changes. -/
theorem softReady_eq (t s : State) :
    t.softReady s = { t with epoch := { t.epoch with softReq := (t.softReady s).epoch.softReq } } := by
  unfold State.softReady
  split <;> rfl

end Sys2Proof.Machine
end

