-- ==== Sys2Proof/Laws/Agree.lean ====
section
/-!
SUPPORT. What a function of the machine can touch. `Agree M s t` says that `t` keeps the canonical forms of `s`, that every
part whose bit of `M` is 0 is the same, and that every register array whose bit of `M` is 0 reads the same. Bit i of `M` is
part i, bit 64 + i is array i. One lemma per function of the machine follows in the files of this folder named after it.
-/

namespace Sys2Proof.Machine

/-- `t` differs from `s` in what the bits of `M` name only, and keeps the canonical forms. -/
structure Agree (M : Nat) (s t : State) : Prop where
  regsWf : Regs.wf s.regs = true → Regs.wf t.regs = true
  memWf : Memory.wf s.mem = true → Memory.wf t.mem = true
  flashWf : Memory.wf s.flash = true → Memory.wf t.flash = true
  regs : Regs.wf s.regs = true → ∀ (r : Reg) (n : Nat), r.ok n = true → M.testBit (64 + r.ctorIdx) = false → t.reg r n = s.reg r n
  pending_same : M.testBit 0 = false → t.pending = s.pending
  now_same : M.testBit 1 = false → t.now = s.now
  mem_same : M.testBit 2 = false → t.mem = s.mem
  ecc_same : M.testBit 3 = false → t.ecc = s.ecc
  held_same : M.testBit 4 = false → t.held = s.held
  freeze_same : M.testBit 5 = false → t.freeze = s.freeze
  softReset_same : M.testBit 6 = false → t.softReset = s.softReset
  draws_same : M.testBit 7 = false → t.draws = s.draws
  answer_same : M.testBit 8 = false → t.answer = s.answer
  router_same : M.testBit 9 = false → t.router = s.router
  basket_same : M.testBit 10 = false → t.basket = s.basket
  power_same : M.testBit 11 = false → t.power = s.power
  seams_same : M.testBit 12 = false → t.seams = s.seams
  tach_same : M.testBit 13 = false → t.tach = s.tach
  engines_same : M.testBit 14 = false → t.engines = s.engines
  epoch_same : M.testBit 15 = false → t.epoch = s.epoch
  modules_same : M.testBit 16 = false → t.modules = s.modules
  beacon_same : M.testBit 17 = false → t.beacon = s.beacon
  idb_same : M.testBit 18 = false → t.idb = s.idb
  darn_same : M.testBit 19 = false → t.darn = s.darn
  adc_same : M.testBit 20 = false → t.adc = s.adc
  chains_same : M.testBit 21 = false → t.chains = s.chains
  lines_same : M.testBit 22 = false → t.lines = s.lines
  wel_same : M.testBit 23 = false → t.wel = s.wel
  bkd_same : M.testBit 24 = false → t.bkd = s.bkd
  links_same : M.testBit 25 = false → t.links = s.links
  uarts_same : M.testBit 26 = false → t.uarts = s.uarts
  cores_same : M.testBit 27 = false → t.cores = s.cores
  clocks_same : M.testBit 28 = false → t.clocks = s.clocks
  temps_same : M.testBit 29 = false → t.temps = s.temps
  fuses_same : M.testBit 30 = false → t.fuses = s.fuses
  crypto_same : M.testBit 31 = false → t.crypto = s.crypto
  xspi_same : M.testBit 32 = false → t.xspi = s.xspi
  flash_same : M.testBit 33 = false → t.flash = s.flash
  wdts_same : M.testBit 34 = false → t.wdts = s.wdts
  mend_same : M.testBit 35 = false → t.mend = s.mend
  boot_same : M.testBit 36 = false → t.boot = s.boot
  late_same : M.testBit 37 = false → t.late = s.late
  checks_same : M.testBit 38 = false → t.checks = s.checks
  timers_same : M.testBit 39 = false → t.timers = s.timers

/-- Every bit of `m` is a bit of `M`. -/
def sub (m M : Nat) : Bool := m &&& M == m

theorem sub_trans {a b c : Nat} (h : sub a b = true) (k : sub b c = true) : sub a c = true := by
  simp only [sub, beq_iff_eq] at *
  calc a &&& c = (a &&& b) &&& c := by rw [h]
    _ = a &&& (b &&& c) := Nat.land_assoc ..
    _ = a &&& b := by rw [k]
    _ = a := h

theorem sub_bit {m M i : Nat} (h : sub m M = true) (hb : m.testBit i = true) : M.testBit i = true := by
  simp only [sub, beq_iff_eq] at h
  have : (m &&& M).testBit i = true := by rw [h]; exact hb
  rw [Nat.testBit_and, Bool.and_eq_true] at this
  exact this.2

theorem sub_bit_false {m M i : Nat} (h : sub m M = true) (hb : M.testBit i = false) : m.testBit i = false := by
  cases hm : m.testBit i with
  | false => rfl
  | true => rw [sub_bit h hm] at hb; cases hb

theorem Agree.refl (M : Nat) (s : State) : Agree M s s where
  regsWf := id
  memWf := id
  flashWf := id
  regs := fun _ _ _ _ _ => rfl
  pending_same := fun _ => rfl
  now_same := fun _ => rfl
  mem_same := fun _ => rfl
  ecc_same := fun _ => rfl
  held_same := fun _ => rfl
  freeze_same := fun _ => rfl
  softReset_same := fun _ => rfl
  draws_same := fun _ => rfl
  answer_same := fun _ => rfl
  router_same := fun _ => rfl
  basket_same := fun _ => rfl
  power_same := fun _ => rfl
  seams_same := fun _ => rfl
  tach_same := fun _ => rfl
  engines_same := fun _ => rfl
  epoch_same := fun _ => rfl
  modules_same := fun _ => rfl
  beacon_same := fun _ => rfl
  idb_same := fun _ => rfl
  darn_same := fun _ => rfl
  adc_same := fun _ => rfl
  chains_same := fun _ => rfl
  lines_same := fun _ => rfl
  wel_same := fun _ => rfl
  bkd_same := fun _ => rfl
  links_same := fun _ => rfl
  uarts_same := fun _ => rfl
  cores_same := fun _ => rfl
  clocks_same := fun _ => rfl
  temps_same := fun _ => rfl
  fuses_same := fun _ => rfl
  crypto_same := fun _ => rfl
  xspi_same := fun _ => rfl
  flash_same := fun _ => rfl
  wdts_same := fun _ => rfl
  mend_same := fun _ => rfl
  boot_same := fun _ => rfl
  late_same := fun _ => rfl
  checks_same := fun _ => rfl
  timers_same := fun _ => rfl

theorem Agree.trans {M : Nat} {s t u : State} (h : Agree M s t) (k : Agree M t u) : Agree M s u where
  regsWf := fun w => k.regsWf (h.regsWf w)
  memWf := fun w => k.memWf (h.memWf w)
  flashWf := fun w => k.flashWf (h.flashWf w)
  regs := fun w r n ok hb => (k.regs (h.regsWf w) r n ok hb).trans (h.regs w r n ok hb)
  pending_same := fun hb => (k.pending_same hb).trans (h.pending_same hb)
  now_same := fun hb => (k.now_same hb).trans (h.now_same hb)
  mem_same := fun hb => (k.mem_same hb).trans (h.mem_same hb)
  ecc_same := fun hb => (k.ecc_same hb).trans (h.ecc_same hb)
  held_same := fun hb => (k.held_same hb).trans (h.held_same hb)
  freeze_same := fun hb => (k.freeze_same hb).trans (h.freeze_same hb)
  softReset_same := fun hb => (k.softReset_same hb).trans (h.softReset_same hb)
  draws_same := fun hb => (k.draws_same hb).trans (h.draws_same hb)
  answer_same := fun hb => (k.answer_same hb).trans (h.answer_same hb)
  router_same := fun hb => (k.router_same hb).trans (h.router_same hb)
  basket_same := fun hb => (k.basket_same hb).trans (h.basket_same hb)
  power_same := fun hb => (k.power_same hb).trans (h.power_same hb)
  seams_same := fun hb => (k.seams_same hb).trans (h.seams_same hb)
  tach_same := fun hb => (k.tach_same hb).trans (h.tach_same hb)
  engines_same := fun hb => (k.engines_same hb).trans (h.engines_same hb)
  epoch_same := fun hb => (k.epoch_same hb).trans (h.epoch_same hb)
  modules_same := fun hb => (k.modules_same hb).trans (h.modules_same hb)
  beacon_same := fun hb => (k.beacon_same hb).trans (h.beacon_same hb)
  idb_same := fun hb => (k.idb_same hb).trans (h.idb_same hb)
  darn_same := fun hb => (k.darn_same hb).trans (h.darn_same hb)
  adc_same := fun hb => (k.adc_same hb).trans (h.adc_same hb)
  chains_same := fun hb => (k.chains_same hb).trans (h.chains_same hb)
  lines_same := fun hb => (k.lines_same hb).trans (h.lines_same hb)
  wel_same := fun hb => (k.wel_same hb).trans (h.wel_same hb)
  bkd_same := fun hb => (k.bkd_same hb).trans (h.bkd_same hb)
  links_same := fun hb => (k.links_same hb).trans (h.links_same hb)
  uarts_same := fun hb => (k.uarts_same hb).trans (h.uarts_same hb)
  cores_same := fun hb => (k.cores_same hb).trans (h.cores_same hb)
  clocks_same := fun hb => (k.clocks_same hb).trans (h.clocks_same hb)
  temps_same := fun hb => (k.temps_same hb).trans (h.temps_same hb)
  fuses_same := fun hb => (k.fuses_same hb).trans (h.fuses_same hb)
  crypto_same := fun hb => (k.crypto_same hb).trans (h.crypto_same hb)
  xspi_same := fun hb => (k.xspi_same hb).trans (h.xspi_same hb)
  flash_same := fun hb => (k.flash_same hb).trans (h.flash_same hb)
  wdts_same := fun hb => (k.wdts_same hb).trans (h.wdts_same hb)
  mend_same := fun hb => (k.mend_same hb).trans (h.mend_same hb)
  boot_same := fun hb => (k.boot_same hb).trans (h.boot_same hb)
  late_same := fun hb => (k.late_same hb).trans (h.late_same hb)
  checks_same := fun hb => (k.checks_same hb).trans (h.checks_same hb)
  timers_same := fun hb => (k.timers_same hb).trans (h.timers_same hb)

theorem Agree.mono {m M : Nat} {s t : State} (h : Agree m s t) (hm : sub m M = true) : Agree M s t where
  regsWf := h.regsWf
  memWf := h.memWf
  flashWf := h.flashWf
  regs := fun w r n ok hb => h.regs w r n ok (sub_bit_false hm hb)
  pending_same := fun hb => h.pending_same (sub_bit_false hm hb)
  now_same := fun hb => h.now_same (sub_bit_false hm hb)
  mem_same := fun hb => h.mem_same (sub_bit_false hm hb)
  ecc_same := fun hb => h.ecc_same (sub_bit_false hm hb)
  held_same := fun hb => h.held_same (sub_bit_false hm hb)
  freeze_same := fun hb => h.freeze_same (sub_bit_false hm hb)
  softReset_same := fun hb => h.softReset_same (sub_bit_false hm hb)
  draws_same := fun hb => h.draws_same (sub_bit_false hm hb)
  answer_same := fun hb => h.answer_same (sub_bit_false hm hb)
  router_same := fun hb => h.router_same (sub_bit_false hm hb)
  basket_same := fun hb => h.basket_same (sub_bit_false hm hb)
  power_same := fun hb => h.power_same (sub_bit_false hm hb)
  seams_same := fun hb => h.seams_same (sub_bit_false hm hb)
  tach_same := fun hb => h.tach_same (sub_bit_false hm hb)
  engines_same := fun hb => h.engines_same (sub_bit_false hm hb)
  epoch_same := fun hb => h.epoch_same (sub_bit_false hm hb)
  modules_same := fun hb => h.modules_same (sub_bit_false hm hb)
  beacon_same := fun hb => h.beacon_same (sub_bit_false hm hb)
  idb_same := fun hb => h.idb_same (sub_bit_false hm hb)
  darn_same := fun hb => h.darn_same (sub_bit_false hm hb)
  adc_same := fun hb => h.adc_same (sub_bit_false hm hb)
  chains_same := fun hb => h.chains_same (sub_bit_false hm hb)
  lines_same := fun hb => h.lines_same (sub_bit_false hm hb)
  wel_same := fun hb => h.wel_same (sub_bit_false hm hb)
  bkd_same := fun hb => h.bkd_same (sub_bit_false hm hb)
  links_same := fun hb => h.links_same (sub_bit_false hm hb)
  uarts_same := fun hb => h.uarts_same (sub_bit_false hm hb)
  cores_same := fun hb => h.cores_same (sub_bit_false hm hb)
  clocks_same := fun hb => h.clocks_same (sub_bit_false hm hb)
  temps_same := fun hb => h.temps_same (sub_bit_false hm hb)
  fuses_same := fun hb => h.fuses_same (sub_bit_false hm hb)
  crypto_same := fun hb => h.crypto_same (sub_bit_false hm hb)
  xspi_same := fun hb => h.xspi_same (sub_bit_false hm hb)
  flash_same := fun hb => h.flash_same (sub_bit_false hm hb)
  wdts_same := fun hb => h.wdts_same (sub_bit_false hm hb)
  mend_same := fun hb => h.mend_same (sub_bit_false hm hb)
  boot_same := fun hb => h.boot_same (sub_bit_false hm hb)
  late_same := fun hb => h.late_same (sub_bit_false hm hb)
  checks_same := fun hb => h.checks_same (sub_bit_false hm hb)
  timers_same := fun hb => h.timers_same (sub_bit_false hm hb)

/-! ### Changes of one part -/

theorem Agree.set_pending {M : Nat} {s0 s : State} (h : Agree M s0 s) (hb : M.testBit 0 = true) (x) :
    Agree M s0 { s with pending := x } :=
  h.trans { Agree.refl M s with pending_same := fun e => by rw [hb] at e; cases e }

theorem Agree.set_now {M : Nat} {s0 s : State} (h : Agree M s0 s) (hb : M.testBit 1 = true) (x) :
    Agree M s0 { s with now := x } :=
  h.trans { Agree.refl M s with now_same := fun e => by rw [hb] at e; cases e }

theorem Agree.set_mem {M : Nat} {s0 s : State} (h : Agree M s0 s) (hb : M.testBit 2 = true) (x : List Host.Cell)
    (w : Memory.wf s.mem = true → Memory.wf x = true) : Agree M s0 { s with mem := x } :=
  h.trans { Agree.refl M s with memWf := w, mem_same := fun e => by rw [hb] at e; cases e }

theorem Agree.set_ecc {M : Nat} {s0 s : State} (h : Agree M s0 s) (hb : M.testBit 3 = true) (x) :
    Agree M s0 { s with ecc := x } :=
  h.trans { Agree.refl M s with ecc_same := fun e => by rw [hb] at e; cases e }

theorem Agree.set_held {M : Nat} {s0 s : State} (h : Agree M s0 s) (hb : M.testBit 4 = true) (x) :
    Agree M s0 { s with held := x } :=
  h.trans { Agree.refl M s with held_same := fun e => by rw [hb] at e; cases e }

theorem Agree.set_freeze {M : Nat} {s0 s : State} (h : Agree M s0 s) (hb : M.testBit 5 = true) (x) :
    Agree M s0 { s with freeze := x } :=
  h.trans { Agree.refl M s with freeze_same := fun e => by rw [hb] at e; cases e }

theorem Agree.set_softReset {M : Nat} {s0 s : State} (h : Agree M s0 s) (hb : M.testBit 6 = true) (x) :
    Agree M s0 { s with softReset := x } :=
  h.trans { Agree.refl M s with softReset_same := fun e => by rw [hb] at e; cases e }

theorem Agree.set_draws {M : Nat} {s0 s : State} (h : Agree M s0 s) (hb : M.testBit 7 = true) (x) :
    Agree M s0 { s with draws := x } :=
  h.trans { Agree.refl M s with draws_same := fun e => by rw [hb] at e; cases e }

theorem Agree.set_answer {M : Nat} {s0 s : State} (h : Agree M s0 s) (hb : M.testBit 8 = true) (x) :
    Agree M s0 { s with answer := x } :=
  h.trans { Agree.refl M s with answer_same := fun e => by rw [hb] at e; cases e }

theorem Agree.set_router {M : Nat} {s0 s : State} (h : Agree M s0 s) (hb : M.testBit 9 = true) (x) :
    Agree M s0 { s with router := x } :=
  h.trans { Agree.refl M s with router_same := fun e => by rw [hb] at e; cases e }

theorem Agree.set_basket {M : Nat} {s0 s : State} (h : Agree M s0 s) (hb : M.testBit 10 = true) (x) :
    Agree M s0 { s with basket := x } :=
  h.trans { Agree.refl M s with basket_same := fun e => by rw [hb] at e; cases e }

theorem Agree.set_power {M : Nat} {s0 s : State} (h : Agree M s0 s) (hb : M.testBit 11 = true) (x) :
    Agree M s0 { s with power := x } :=
  h.trans { Agree.refl M s with power_same := fun e => by rw [hb] at e; cases e }

theorem Agree.set_seams {M : Nat} {s0 s : State} (h : Agree M s0 s) (hb : M.testBit 12 = true) (x) :
    Agree M s0 { s with seams := x } :=
  h.trans { Agree.refl M s with seams_same := fun e => by rw [hb] at e; cases e }

theorem Agree.set_tach {M : Nat} {s0 s : State} (h : Agree M s0 s) (hb : M.testBit 13 = true) (x) :
    Agree M s0 { s with tach := x } :=
  h.trans { Agree.refl M s with tach_same := fun e => by rw [hb] at e; cases e }

theorem Agree.set_engines {M : Nat} {s0 s : State} (h : Agree M s0 s) (hb : M.testBit 14 = true) (x) :
    Agree M s0 { s with engines := x } :=
  h.trans { Agree.refl M s with engines_same := fun e => by rw [hb] at e; cases e }

theorem Agree.set_epoch {M : Nat} {s0 s : State} (h : Agree M s0 s) (hb : M.testBit 15 = true) (x) :
    Agree M s0 { s with epoch := x } :=
  h.trans { Agree.refl M s with epoch_same := fun e => by rw [hb] at e; cases e }

theorem Agree.set_modules {M : Nat} {s0 s : State} (h : Agree M s0 s) (hb : M.testBit 16 = true) (x) :
    Agree M s0 { s with modules := x } :=
  h.trans { Agree.refl M s with modules_same := fun e => by rw [hb] at e; cases e }

theorem Agree.set_beacon {M : Nat} {s0 s : State} (h : Agree M s0 s) (hb : M.testBit 17 = true) (x) :
    Agree M s0 { s with beacon := x } :=
  h.trans { Agree.refl M s with beacon_same := fun e => by rw [hb] at e; cases e }

theorem Agree.set_idb {M : Nat} {s0 s : State} (h : Agree M s0 s) (hb : M.testBit 18 = true) (x) :
    Agree M s0 { s with idb := x } :=
  h.trans { Agree.refl M s with idb_same := fun e => by rw [hb] at e; cases e }

theorem Agree.set_darn {M : Nat} {s0 s : State} (h : Agree M s0 s) (hb : M.testBit 19 = true) (x) :
    Agree M s0 { s with darn := x } :=
  h.trans { Agree.refl M s with darn_same := fun e => by rw [hb] at e; cases e }

theorem Agree.set_adc {M : Nat} {s0 s : State} (h : Agree M s0 s) (hb : M.testBit 20 = true) (x) :
    Agree M s0 { s with adc := x } :=
  h.trans { Agree.refl M s with adc_same := fun e => by rw [hb] at e; cases e }

theorem Agree.set_chains {M : Nat} {s0 s : State} (h : Agree M s0 s) (hb : M.testBit 21 = true) (x) :
    Agree M s0 { s with chains := x } :=
  h.trans { Agree.refl M s with chains_same := fun e => by rw [hb] at e; cases e }

theorem Agree.set_lines {M : Nat} {s0 s : State} (h : Agree M s0 s) (hb : M.testBit 22 = true) (x) :
    Agree M s0 { s with lines := x } :=
  h.trans { Agree.refl M s with lines_same := fun e => by rw [hb] at e; cases e }

theorem Agree.set_wel {M : Nat} {s0 s : State} (h : Agree M s0 s) (hb : M.testBit 23 = true) (x) :
    Agree M s0 { s with wel := x } :=
  h.trans { Agree.refl M s with wel_same := fun e => by rw [hb] at e; cases e }

theorem Agree.set_bkd {M : Nat} {s0 s : State} (h : Agree M s0 s) (hb : M.testBit 24 = true) (x) :
    Agree M s0 { s with bkd := x } :=
  h.trans { Agree.refl M s with bkd_same := fun e => by rw [hb] at e; cases e }

theorem Agree.set_links {M : Nat} {s0 s : State} (h : Agree M s0 s) (hb : M.testBit 25 = true) (x) :
    Agree M s0 { s with links := x } :=
  h.trans { Agree.refl M s with links_same := fun e => by rw [hb] at e; cases e }

theorem Agree.set_uarts {M : Nat} {s0 s : State} (h : Agree M s0 s) (hb : M.testBit 26 = true) (x) :
    Agree M s0 { s with uarts := x } :=
  h.trans { Agree.refl M s with uarts_same := fun e => by rw [hb] at e; cases e }

theorem Agree.set_cores {M : Nat} {s0 s : State} (h : Agree M s0 s) (hb : M.testBit 27 = true) (x) :
    Agree M s0 { s with cores := x } :=
  h.trans { Agree.refl M s with cores_same := fun e => by rw [hb] at e; cases e }

theorem Agree.set_clocks {M : Nat} {s0 s : State} (h : Agree M s0 s) (hb : M.testBit 28 = true) (x) :
    Agree M s0 { s with clocks := x } :=
  h.trans { Agree.refl M s with clocks_same := fun e => by rw [hb] at e; cases e }

theorem Agree.set_temps {M : Nat} {s0 s : State} (h : Agree M s0 s) (hb : M.testBit 29 = true) (x) :
    Agree M s0 { s with temps := x } :=
  h.trans { Agree.refl M s with temps_same := fun e => by rw [hb] at e; cases e }

theorem Agree.set_fuses {M : Nat} {s0 s : State} (h : Agree M s0 s) (hb : M.testBit 30 = true) (x) :
    Agree M s0 { s with fuses := x } :=
  h.trans { Agree.refl M s with fuses_same := fun e => by rw [hb] at e; cases e }

theorem Agree.set_crypto {M : Nat} {s0 s : State} (h : Agree M s0 s) (hb : M.testBit 31 = true) (x) :
    Agree M s0 { s with crypto := x } :=
  h.trans { Agree.refl M s with crypto_same := fun e => by rw [hb] at e; cases e }

theorem Agree.set_xspi {M : Nat} {s0 s : State} (h : Agree M s0 s) (hb : M.testBit 32 = true) (x) :
    Agree M s0 { s with xspi := x } :=
  h.trans { Agree.refl M s with xspi_same := fun e => by rw [hb] at e; cases e }

theorem Agree.set_flash {M : Nat} {s0 s : State} (h : Agree M s0 s) (hb : M.testBit 33 = true) (x : List Host.Cell)
    (w : Memory.wf s.flash = true → Memory.wf x = true) : Agree M s0 { s with flash := x } :=
  h.trans { Agree.refl M s with flashWf := w, flash_same := fun e => by rw [hb] at e; cases e }

theorem Agree.set_wdts {M : Nat} {s0 s : State} (h : Agree M s0 s) (hb : M.testBit 34 = true) (x) :
    Agree M s0 { s with wdts := x } :=
  h.trans { Agree.refl M s with wdts_same := fun e => by rw [hb] at e; cases e }

theorem Agree.set_mend {M : Nat} {s0 s : State} (h : Agree M s0 s) (hb : M.testBit 35 = true) (x) :
    Agree M s0 { s with mend := x } :=
  h.trans { Agree.refl M s with mend_same := fun e => by rw [hb] at e; cases e }

theorem Agree.set_boot {M : Nat} {s0 s : State} (h : Agree M s0 s) (hb : M.testBit 36 = true) (x) :
    Agree M s0 { s with boot := x } :=
  h.trans { Agree.refl M s with boot_same := fun e => by rw [hb] at e; cases e }

theorem Agree.set_late {M : Nat} {s0 s : State} (h : Agree M s0 s) (hb : M.testBit 37 = true) (x) :
    Agree M s0 { s with late := x } :=
  h.trans { Agree.refl M s with late_same := fun e => by rw [hb] at e; cases e }

theorem Agree.set_checks {M : Nat} {s0 s : State} (h : Agree M s0 s) (hb : M.testBit 38 = true) (x) :
    Agree M s0 { s with checks := x } :=
  h.trans { Agree.refl M s with checks_same := fun e => by rw [hb] at e; cases e }

theorem Agree.set_timers {M : Nat} {s0 s : State} (h : Agree M s0 s) (hb : M.testBit 39 = true) (x) :
    Agree M s0 { s with timers := x } :=
  h.trans { Agree.refl M s with timers_same := fun e => by rw [hb] at e; cases e }

/-! ### Stores to registers -/

theorem Agree.setReg {M : Nat} {s0 s : State} (h : Agree M s0 s) {r : Reg} (hb : M.testBit (64 + r.ctorIdx) = true) (n : Nat)
    (v : Word) : Agree M s0 (s.setReg r n v) := by
  refine h.trans ?_
  rw [setReg_eq]
  exact { Agree.refl M s with
    regsWf := fun w => setReg_wf s r n v w
    regs := fun w r' n' ok' e => by
      have hne : r' ≠ r := fun x => by rw [x, hb] at e; cases e
      have := reg_setReg_ne s v w ok' (Or.inl hne) (n := n)
      exact this }

theorem Agree.fset {M : Nat} {s0 s : State} (h : Agree M s0 s) {f : Fld} (hb : M.testBit (64 + f.reg.ctorIdx) = true) (n x : Nat) :
    Agree M s0 (s.fset f n x) := h.setReg hb _ _

theorem Agree.fsetB {M : Nat} {s0 s : State} (h : Agree M s0 s) {f : Fld} (hb : M.testBit (64 + f.reg.ctorIdx) = true) (n : Nat)
    (b : Bool) : Agree M s0 (s.fsetB f n b) := h.setReg hb _ _

theorem Agree.fsetBit {M : Nat} {s0 s : State} (h : Agree M s0 s) {f : Fld} (hb : M.testBit (64 + f.reg.ctorIdx) = true)
    (n i : Nat) (b : Bool) : Agree M s0 (s.fsetBit f n i b) := h.setReg hb _ _

theorem Agree.fadd {M : Nat} {s0 s : State} (h : Agree M s0 s) {f : Fld} (hb : M.testBit (64 + f.reg.ctorIdx) = true) (n k : Nat) :
    Agree M s0 (s.fadd f n k) := h.setReg hb _ _

theorem Agree.faddSat {M : Nat} {s0 s : State} (h : Agree M s0 s) {f : Fld} (hb : M.testBit (64 + f.reg.ctorIdx) = true)
    (n k : Nat) : Agree M s0 (s.faddSat f n k) := h.setReg hb _ _

theorem Agree.set64 {M : Nat} {s0 s : State} (h : Agree M s0 s) {lo hi : Reg} (hl : M.testBit (64 + lo.ctorIdx) = true)
    (hh : M.testBit (64 + hi.ctorIdx) = true) (n x : Nat) : Agree M s0 (s.set64 lo hi n x) := (h.setReg hl _ _).setReg hh _ _

/-! ### Control -/

theorem Agree.ite {M : Nat} {s0 a b : State} {c : Prop} [Decidable c] (ha : Agree M s0 a) (hb : Agree M s0 b) :
    Agree M s0 (if c then a else b) := by
  split
  · exact ha
  · exact hb

theorem Agree.forEach {M : Nat} {s0 s : State} {α : Type} {f : α → State → State} (h : Agree M s0 s)
    (hf : ∀ (x : α) (t : State), Agree M s0 t → Agree M s0 (f x t)) (xs : List α) : Agree M s0 (forEach xs f s) := by
  unfold Sys2Proof.Machine.forEach
  induction xs generalizing s with
  | nil => exact h
  | cons x xs ih => exact ih (hf x s h)

/-- A mask with every array has the bit of each. -/
theorem allBit {M : Nat} (hb : sub (0xfffffffffffffffffffffffffffffffffffffffffffffffffffffffffffffffffffffffffffffffffffffffffffffffffffffffffffffff <<< 64) M = true) (r : Reg) : M.testBit (64 + r.ctorIdx) = true := sub_bit hb (by
  rw [Nat.testBit_shiftLeft]
  simp only [ge_iff_le, Nat.le_add_right, decide_true, Bool.true_and, Nat.add_sub_cancel_left]
  have ones : (List.range 444).all (fun i => Nat.testBit 0xfffffffffffffffffffffffffffffffffffffffffffffffffffffffffffffffffffffffffffffffffffffffffffffffffffffffffffffff i) = true := by decide +kernel
  exact List.all_eq_true.mp ones _ (List.mem_range.mpr r.ctorIdx_lt))

/-- The filters of the register file that clear pages. -/
theorem Agree.filterRegs {M : Nat} {s0 s : State} (h : Agree M s0 s) (hb : sub (0xfffffffffffffffffffffffffffffffffffffffffffffffffffffffffffffffffffffffffffffffffffffffffffffffffffffffffffffff <<< 64) M = true)
    (p : Nat × Word → Bool) : Agree M s0 { s with regs := s.regs.filter p } :=
  h.trans { Agree.refl M s with
    regsWf := fun w => Regs.wf_filter p _ w
    regs := fun _ r n _ e => by rw [allBit hb r] at e; cases e }

/-- Bytes written to memory. -/
theorem Agree.putMem {M : Nat} {s0 s : State} (h : Agree M s0 s) (hb : M.testBit 2 = true) (a : Nat) (bs : List Byte) :
    Agree M s0 { s with mem := memPuts s.mem a bs } :=
  h.trans { Agree.refl M s with
    memWf := fun w => memPuts_wf _ a bs w
    mem_same := fun e => by rw [hb] at e; cases e }

/-- Memory that loses its contents. -/
theorem Agree.filterMem {M : Nat} {s0 s : State} (h : Agree M s0 s) (hb : M.testBit 2 = true) (hc : M.testBit 3 = true)
    (p : Host.Cell → Bool) (x : List (Nat × Bool)) : Agree M s0 { s with mem := s.mem.filter p, ecc := x } :=
  h.trans { Agree.refl M s with
    memWf := fun w => Memory.wf_filter p _ w
    mem_same := fun e => by rw [hb] at e; cases e
    ecc_same := fun e => by rw [hc] at e; cases e }

/-- Bytes written to flash. -/
theorem Agree.putFlash {M : Nat} {s0 s : State} (h : Agree M s0 s) (hb : M.testBit 33 = true) (a : Nat) (bs : List Byte) :
    Agree M s0 { s with flash := memPuts s.flash a bs } :=
  h.trans { Agree.refl M s with
    flashWf := fun w => memPuts_wf _ a bs w
    flash_same := fun e => by rw [hb] at e; cases e }

/-- Flash that is erased. -/
theorem Agree.filterFlash {M : Nat} {s0 s : State} (h : Agree M s0 s) (hb : M.testBit 33 = true) (p : Host.Cell → Bool) :
    Agree M s0 { s with flash := s.flash.filter p } :=
  h.trans { Agree.refl M s with
    flashWf := fun w => Memory.wf_filter p _ w
    flash_same := fun e => by rw [hb] at e; cases e }

/-! ### Changes of several parts, and pairs -/

theorem Agree.set_power_boot {M : Nat} {s0 s : State} (h : Agree M s0 s)
    (hb0 : M.testBit 11 = true) (hb1 : M.testBit 36 = true)
    (x0 : Power) (x1 : Boot) :
    Agree M s0 { s with power := x0, boot := x1 } :=
  h.trans { Agree.refl M s with
    power_same := fun e => by rw [hb0] at e; cases e
    boot_same := fun e => by rw [hb1] at e; cases e }

theorem Agree.set_seams_tach_epoch_chains {M : Nat} {s0 s : State} (h : Agree M s0 s)
    (hb0 : M.testBit 12 = true) (hb1 : M.testBit 13 = true) (hb2 : M.testBit 15 = true) (hb3 : M.testBit 21 = true)
    (x0 : List Nat) (x1 : List Tach) (x2 : Epoch) (x3 : Chains) :
    Agree M s0 { s with seams := x0, tach := x1, epoch := x2, chains := x3 } :=
  h.trans { Agree.refl M s with
    seams_same := fun e => by rw [hb0] at e; cases e
    tach_same := fun e => by rw [hb1] at e; cases e
    epoch_same := fun e => by rw [hb2] at e; cases e
    chains_same := fun e => by rw [hb3] at e; cases e }

theorem Agree.set_held_answer {M : Nat} {s0 s : State} (h : Agree M s0 s)
    (hb0 : M.testBit 4 = true) (hb1 : M.testBit 8 = true)
    (x0 : List HeldAccess) (x1 : BusAnswer) :
    Agree M s0 { s with held := x0, answer := x1 } :=
  h.trans { Agree.refl M s with
    held_same := fun e => by rw [hb0] at e; cases e
    answer_same := fun e => by rw [hb1] at e; cases e }

theorem Agree.set_cores_boot {M : Nat} {s0 s : State} (h : Agree M s0 s)
    (hb0 : M.testBit 27 = true) (hb1 : M.testBit 36 = true)
    (x0 : List Core) (x1 : Boot) :
    Agree M s0 { s with cores := x0, boot := x1 } :=
  h.trans { Agree.refl M s with
    cores_same := fun e => by rw [hb0] at e; cases e
    boot_same := fun e => by rw [hb1] at e; cases e }

theorem Agree.set_mend_boot {M : Nat} {s0 s : State} (h : Agree M s0 s)
    (hb0 : M.testBit 35 = true) (hb1 : M.testBit 36 = true)
    (x0 : Mend) (x1 : Boot) :
    Agree M s0 { s with mend := x0, boot := x1 } :=
  h.trans { Agree.refl M s with
    mend_same := fun e => by rw [hb0] at e; cases e
    boot_same := fun e => by rw [hb1] at e; cases e }

theorem Agree.set_freeze_late {M : Nat} {s0 s : State} (h : Agree M s0 s)
    (hb0 : M.testBit 5 = true) (hb1 : M.testBit 37 = true)
    (x0 : List FreezeCapture) (x1 : List (Nat × Word × Nat)) :
    Agree M s0 { s with freeze := x0, late := x1 } :=
  h.trans { Agree.refl M s with
    freeze_same := fun e => by rw [hb0] at e; cases e
    late_same := fun e => by rw [hb1] at e; cases e }

theorem Agree.set_epoch_wel {M : Nat} {s0 s : State} (h : Agree M s0 s)
    (hb0 : M.testBit 15 = true) (hb1 : M.testBit 23 = true)
    (x0 : Epoch) (x1 : WelPart) :
    Agree M s0 { s with epoch := x0, wel := x1 } :=
  h.trans { Agree.refl M s with
    epoch_same := fun e => by rw [hb0] at e; cases e
    wel_same := fun e => by rw [hb1] at e; cases e }

theorem Agree.set_epoch_modules_chains {M : Nat} {s0 s : State} (h : Agree M s0 s)
    (hb0 : M.testBit 15 = true) (hb1 : M.testBit 16 = true) (hb2 : M.testBit 21 = true)
    (x0 : Epoch) (x1 : List Module) (x2 : Chains) :
    Agree M s0 { s with epoch := x0, modules := x1, chains := x2 } :=
  h.trans { Agree.refl M s with
    epoch_same := fun e => by rw [hb0] at e; cases e
    modules_same := fun e => by rw [hb1] at e; cases e
    chains_same := fun e => by rw [hb2] at e; cases e }

theorem Agree.set_darn_crypto {M : Nat} {s0 s : State} (h : Agree M s0 s)
    (hb0 : M.testBit 19 = true) (hb1 : M.testBit 31 = true)
    (x0 : Darn) (x1 : Crypto) :
    Agree M s0 { s with darn := x0, crypto := x1 } :=
  h.trans { Agree.refl M s with
    darn_same := fun e => by rw [hb0] at e; cases e
    crypto_same := fun e => by rw [hb1] at e; cases e }

theorem Agree.set_power_darn {M : Nat} {s0 s : State} (h : Agree M s0 s)
    (hb0 : M.testBit 11 = true) (hb1 : M.testBit 19 = true)
    (x0 : Power) (x1 : Darn) :
    Agree M s0 { s with power := x0, darn := x1 } :=
  h.trans { Agree.refl M s with
    power_same := fun e => by rw [hb0] at e; cases e
    darn_same := fun e => by rw [hb1] at e; cases e }

theorem Agree.set_fuses_crypto {M : Nat} {s0 s : State} (h : Agree M s0 s)
    (hb0 : M.testBit 30 = true) (hb1 : M.testBit 31 = true)
    (x0 : Fuses) (x1 : Crypto) :
    Agree M s0 { s with fuses := x0, crypto := x1 } :=
  h.trans { Agree.refl M s with
    fuses_same := fun e => by rw [hb0] at e; cases e
    crypto_same := fun e => by rw [hb1] at e; cases e }

theorem Agree.set_epoch_chains {M : Nat} {s0 s : State} (h : Agree M s0 s)
    (hb0 : M.testBit 15 = true) (hb1 : M.testBit 21 = true)
    (x0 : Epoch) (x1 : Chains) :
    Agree M s0 { s with epoch := x0, chains := x1 } :=
  h.trans { Agree.refl M s with
    epoch_same := fun e => by rw [hb0] at e; cases e
    chains_same := fun e => by rw [hb1] at e; cases e }

theorem Agree.set_epoch_adc {M : Nat} {s0 s : State} (h : Agree M s0 s)
    (hb0 : M.testBit 15 = true) (hb1 : M.testBit 20 = true)
    (x0 : Epoch) (x1 : Adc) :
    Agree M s0 { s with epoch := x0, adc := x1 } :=
  h.trans { Agree.refl M s with
    epoch_same := fun e => by rw [hb0] at e; cases e
    adc_same := fun e => by rw [hb1] at e; cases e }

theorem Agree.set_held_router_power_darn_lines_bkd_clocks_boot_checks {M : Nat} {s0 s : State} (h : Agree M s0 s)
    (hb0 : M.testBit 4 = true) (hb1 : M.testBit 9 = true) (hb2 : M.testBit 11 = true) (hb3 : M.testBit 19 = true) (hb4 : M.testBit 22 = true) (hb5 : M.testBit 24 = true) (hb6 : M.testBit 28 = true) (hb7 : M.testBit 36 = true) (hb8 : M.testBit 38 = true)
    (x0 : List HeldAccess) (x1 : Router) (x2 : Power) (x3 : Darn) (x4 : Lines) (x5 : Bkd) (x6 : Clocks) (x7 : Boot) (x8 : List (Nat × Nat)) :
    Agree M s0 { s with held := x0, router := x1, power := x2, darn := x3, lines := x4, bkd := x5, clocks := x6, boot := x7, checks := x8 } :=
  h.trans { Agree.refl M s with
    held_same := fun e => by rw [hb0] at e; cases e
    router_same := fun e => by rw [hb1] at e; cases e
    power_same := fun e => by rw [hb2] at e; cases e
    darn_same := fun e => by rw [hb3] at e; cases e
    lines_same := fun e => by rw [hb4] at e; cases e
    bkd_same := fun e => by rw [hb5] at e; cases e
    clocks_same := fun e => by rw [hb6] at e; cases e
    boot_same := fun e => by rw [hb7] at e; cases e
    checks_same := fun e => by rw [hb8] at e; cases e }

theorem Agree.set_basket_seams_tach_engines_epoch_modules_idb_darn_adc_chains_lines_temps_xspi_wdts_mend_boot_timers {M : Nat} {s0 s : State} (h : Agree M s0 s)
    (hb0 : M.testBit 10 = true) (hb1 : M.testBit 12 = true) (hb2 : M.testBit 13 = true) (hb3 : M.testBit 14 = true) (hb4 : M.testBit 15 = true) (hb5 : M.testBit 16 = true) (hb6 : M.testBit 18 = true) (hb7 : M.testBit 19 = true) (hb8 : M.testBit 20 = true) (hb9 : M.testBit 21 = true) (hb10 : M.testBit 22 = true) (hb11 : M.testBit 29 = true) (hb12 : M.testBit 32 = true) (hb13 : M.testBit 34 = true) (hb14 : M.testBit 35 = true) (hb15 : M.testBit 36 = true) (hb16 : M.testBit 39 = true)
    (x0 : Basket) (x1 : List Nat) (x2 : List Tach) (x3 : List Engine) (x4 : Epoch) (x5 : List Module) (x6 : List IdBus) (x7 : Darn) (x8 : Adc) (x9 : Chains) (x10 : Lines) (x11 : Temps) (x12 : Xspi) (x13 : List Watchdog) (x14 : Mend) (x15 : Boot) (x16 : List Nat) :
    Agree M s0 { s with basket := x0, seams := x1, tach := x2, engines := x3, epoch := x4, modules := x5, idb := x6, darn := x7, adc := x8, chains := x9, lines := x10, temps := x11, xspi := x12, wdts := x13, mend := x14, boot := x15, timers := x16 } :=
  h.trans { Agree.refl M s with
    basket_same := fun e => by rw [hb0] at e; cases e
    seams_same := fun e => by rw [hb1] at e; cases e
    tach_same := fun e => by rw [hb2] at e; cases e
    engines_same := fun e => by rw [hb3] at e; cases e
    epoch_same := fun e => by rw [hb4] at e; cases e
    modules_same := fun e => by rw [hb5] at e; cases e
    idb_same := fun e => by rw [hb6] at e; cases e
    darn_same := fun e => by rw [hb7] at e; cases e
    adc_same := fun e => by rw [hb8] at e; cases e
    chains_same := fun e => by rw [hb9] at e; cases e
    lines_same := fun e => by rw [hb10] at e; cases e
    temps_same := fun e => by rw [hb11] at e; cases e
    xspi_same := fun e => by rw [hb12] at e; cases e
    wdts_same := fun e => by rw [hb13] at e; cases e
    mend_same := fun e => by rw [hb14] at e; cases e
    boot_same := fun e => by rw [hb15] at e; cases e
    timers_same := fun e => by rw [hb16] at e; cases e }

theorem Agree.set_power_xspi {M : Nat} {s0 s : State} (h : Agree M s0 s)
    (hb0 : M.testBit 11 = true) (hb1 : M.testBit 32 = true)
    (x0 : Power) (x1 : Xspi) :
    Agree M s0 { s with power := x0, xspi := x1 } :=
  h.trans { Agree.refl M s with
    power_same := fun e => by rw [hb0] at e; cases e
    xspi_same := fun e => by rw [hb1] at e; cases e }

theorem Agree.set_answer_lines {M : Nat} {s0 s : State} (h : Agree M s0 s)
    (hb0 : M.testBit 8 = true) (hb1 : M.testBit 22 = true)
    (x0 : BusAnswer) (x1 : Lines) :
    Agree M s0 { s with answer := x0, lines := x1 } :=
  h.trans { Agree.refl M s with
    answer_same := fun e => by rw [hb0] at e; cases e
    lines_same := fun e => by rw [hb1] at e; cases e }

theorem Agree.set_beacon_wel_links {M : Nat} {s0 s : State} (h : Agree M s0 s)
    (hb0 : M.testBit 17 = true) (hb1 : M.testBit 23 = true) (hb2 : M.testBit 25 = true)
    (x0 : Beacon) (x1 : WelPart) (x2 : Links) :
    Agree M s0 { s with beacon := x0, wel := x1, links := x2 } :=
  h.trans { Agree.refl M s with
    beacon_same := fun e => by rw [hb0] at e; cases e
    wel_same := fun e => by rw [hb1] at e; cases e
    links_same := fun e => by rw [hb2] at e; cases e }

theorem Agree.set_freeze_softReset_late {M : Nat} {s0 s : State} (h : Agree M s0 s)
    (hb0 : M.testBit 5 = true) (hb1 : M.testBit 6 = true) (hb2 : M.testBit 37 = true)
    (x0 : List FreezeCapture) (x1 : List Nat) (x2 : List (Nat × Word × Nat)) :
    Agree M s0 { s with freeze := x0, softReset := x1, late := x2 } :=
  h.trans { Agree.refl M s with
    freeze_same := fun e => by rw [hb0] at e; cases e
    softReset_same := fun e => by rw [hb1] at e; cases e
    late_same := fun e => by rw [hb2] at e; cases e }

/-- `Agree` of the state of a pair. -/
def AgreeP {α : Type} (M : Nat) (s0 : State) (p : State × α) : Prop := Agree M s0 p.1

theorem AgreeP.fst {M : Nat} {s0 : State} {α : Type} {p : State × α} (h : AgreeP M s0 p) : Agree M s0 p.1 := h

theorem AgreeP.mk {M : Nat} {s0 a : State} {α : Type} {b : α} (h : Agree M s0 a) : AgreeP M s0 (a, b) := h

theorem AgreeP.ite {M : Nat} {s0 : State} {α : Type} {a b : State × α} {c : Prop} [Decidable c] (ha : AgreeP M s0 a)
    (hb : AgreeP M s0 b) : AgreeP M s0 (if c then a else b) := by
  split
  · exact ha
  · exact hb

theorem AgreeP.of_eq {M : Nat} {s0 : State} {α : Type} {p : State × α} {a : State} {b : α} (e : p = (a, b))
    (h : AgreeP M s0 p) : Agree M s0 a := by rw [e] at h; exact h

theorem AgreeP.foldl {M : Nat} {s0 : State} {α β : Type} {p : State × β} {f : State × β → α → State × β}
    (h : AgreeP M s0 p) (hf : ∀ (q : State × β) (x : α), AgreeP M s0 q → AgreeP M s0 (f q x)) (xs : List α) :
    AgreeP M s0 (xs.foldl f p) := by
  induction xs generalizing p with
  | nil => exact h
  | cons x xs ih => exact ih (hf p x h)

/-- `Agree` of a state that may be there. -/
def AgreeO (M : Nat) (s0 : State) (o : Option State) : Prop := ∀ t, o = some t → Agree M s0 t

theorem AgreeO.none {M : Nat} {s0 : State} : AgreeO M s0 none := fun _ e => nomatch e

theorem AgreeO.some {M : Nat} {s0 s : State} (h : Agree M s0 s) : AgreeO M s0 (some s) := fun t e => by
  cases e; exact h

theorem AgreeO.ite {M : Nat} {s0 : State} {a b : Option State} {c : Prop} [Decidable c] (ha : AgreeO M s0 a)
    (hb : AgreeO M s0 b) : AgreeO M s0 (if c then a else b) := by
  split
  · exact ha
  · exact hb

theorem Agree.getD {M : Nat} {s0 d : State} {o : Option State} (ho : AgreeO M s0 o) (hd : Agree M s0 d) :
    Agree M s0 (o.getD d) := by
  cases h : o with
  | none => exact hd
  | some t => exact ho t h

end Sys2Proof.Machine
end

