-- ==== Sys2Proof/Laws/Lists.lean ====
section
/-!
SUPPORT. What a read of one of several like things gives after one of them was replaced: the one written at its own place,
what was there before at every other, whatever the list that holds them.
-/

namespace Sys2Proof.Machine

/-- The one law of `setAt`: a read with the same default gives what was written there and is unchanged elsewhere. -/
@[simp] theorem getD_setAt {α : Type} (d : α) (l : List α) (n : Nat) (x : α) (i : Nat) :
    (setAt d l n x).getD i d = if i = n then x else l.getD i d := by
  induction n generalizing l i with
  | zero => cases l <;> cases i <;> simp [setAt]
  | succ n ih =>
    cases l <;> cases i <;> simp only [setAt, List.getD_cons_zero, List.getD_cons_succ, ih] <;> simp

/-- Within the list it is the library's replacement. -/
theorem setAt_eq_set {α : Type} (d : α) (l : List α) (n : Nat) (x : α) (h : n < l.length) : setAt d l n x = l.set n x := by
  induction n generalizing l with
  | zero => cases l <;> simp_all [setAt]
  | succ n ih => cases l <;> simp_all [setAt]

/-- Of two replacements at one place the later one stands. -/
@[simp] theorem setAt_setAt {α : Type} (d : α) (l : List α) (n : Nat) (x y : α) :
    setAt d (setAt d l n x) n y = setAt d l n y := by
  induction n generalizing l with
  | zero => cases l <;> rfl
  | succ n ih => cases l <;> simp [setAt, ih]

/-- A replacement within the list keeps its length. -/
@[simp] theorem length_setAt {α : Type} (d : α) (l : List α) (n : Nat) (x : α) :
    (setAt d l n x).length = max l.length (n + 1) := by
  induction n generalizing l with
  | zero => cases l <;> simp [setAt]
  | succ n ih => cases l <;> simp [setAt, ih]

@[simp] theorem setSlot_slot (s : State) (n i : Nat) (x : Slot) : (s.setSlot n x).slot i = if i = n then x else s.slot i := by
  simp only [State.setSlot, State.slot, getD_setAt]

@[simp] theorem setEng_eng (s : State) (n i : Nat) (x : Engine) : (s.setEng n x).eng i = if i = n then x else s.eng i := by
  simp only [State.setEng, State.eng, getD_setAt]

@[simp] theorem setSlice_slice (s : State) (n i : Nat) (x : Slice) : (s.setSlice n x).slice i = if i = n then x else s.slice i := by
  simp only [State.setSlice, State.slice, getD_setAt]

@[simp] theorem setStr_str (s : State) (n i : Nat) (x : StreamSt) : (s.setStr n x).str i = if i = n then x else s.str i := by
  simp only [State.setStr, State.str, getD_setAt]

@[simp] theorem setLane_lane (s : State) (n i : Nat) (x : Lane) : (s.setLane n x).lane i = if i = n then x else s.lane i := by
  simp only [State.setLane, State.lane, getD_setAt]

@[simp] theorem setLine_line (s : State) (n i : Nat) (x : Line) : (s.setLine n x).line i = if i = n then x else s.line i := by
  simp only [State.setLine, State.line, getD_setAt]

@[simp] theorem setWel_wel1 (s : State) (n i : Nat) (x : Wel) : (s.setWel n x).wel1 i = if i = n then x else s.wel1 i := by
  simp only [State.setWel, State.wel1, getD_setAt]

@[simp] theorem setWq_wq (s : State) (n i : Nat) (x : WelQueue) : (s.setWq n x).wq i = if i = n then x else s.wq i := by
  simp only [State.setWq, State.wq, getD_setAt]

@[simp] theorem setPort_port (s : State) (n i : Nat) (x : Port) : (s.setPort n x).port i = if i = n then x else s.port i := by
  simp only [State.setPort, State.port, getD_setAt]

@[simp] theorem setBeaconPort_beaconPort (s : State) (n i : Nat) (x : BeaconPort) : (s.setBeaconPort n x).beaconPort i = if i = n then x else s.beaconPort i := by
  simp only [State.setBeaconPort, State.beaconPort, getD_setAt]

@[simp] theorem setMangle_mangleUnit (s : State) (n i : Nat) (x : Mangle) : (s.setMangle n x).mangleUnit i = if i = n then x else s.mangleUnit i := by
  simp only [State.setMangle, State.mangleUnit, getD_setAt]

@[simp] theorem setStack_stack (s : State) (n i : Nat) (x : HbmStack) : (s.setStack n x).stack i = if i = n then x else s.stack i := by
  simp only [State.setStack, State.stack, getD_setAt]

@[simp] theorem setUart_uart (s : State) (n i : Nat) (x : Uart) : (s.setUart n x).uart i = if i = n then x else s.uart i := by
  simp only [State.setUart, State.uart, getD_setAt]

@[simp] theorem setWdt_wdt (s : State) (n i : Nat) (x : Watchdog) : (s.setWdt n x).wdt i = if i = n then x else s.wdt i := by
  simp only [State.setWdt, State.wdt, getD_setAt]

@[simp] theorem setCore_core (s : State) (n i : Nat) (x : Core) : (s.setCore n x).core i = if i = n then x else s.core i := by
  simp only [State.setCore, State.core, getD_setAt]

end Sys2Proof.Machine
end

