-- ==== Sys2Proof/Laws/State.lean ====
section
/-!
SUPPORT. The small lemmas of State: what a write of a register, of a field, of memory and of a basket slot leaves, one lemma
per part of State and per update, so that no later proof unfolds an update.
-/

namespace Sys2Proof.Machine

/-! ### A write of a register leaves every part of State but `regs` -/

@[simp] theorem setReg_pending (s : State) (r : Reg) (n : Nat) (v : Word) : (s.setReg r n v).pending = s.pending :=
  by unfold State.setReg; split <;> rfl

@[simp] theorem setReg_now (s : State) (r : Reg) (n : Nat) (v : Word) : (s.setReg r n v).now = s.now :=
  by unfold State.setReg; split <;> rfl

@[simp] theorem setReg_mem (s : State) (r : Reg) (n : Nat) (v : Word) : (s.setReg r n v).mem = s.mem :=
  by unfold State.setReg; split <;> rfl

@[simp] theorem setReg_ecc (s : State) (r : Reg) (n : Nat) (v : Word) : (s.setReg r n v).ecc = s.ecc :=
  by unfold State.setReg; split <;> rfl

@[simp] theorem setReg_held (s : State) (r : Reg) (n : Nat) (v : Word) : (s.setReg r n v).held = s.held :=
  by unfold State.setReg; split <;> rfl

@[simp] theorem setReg_freeze (s : State) (r : Reg) (n : Nat) (v : Word) : (s.setReg r n v).freeze = s.freeze :=
  by unfold State.setReg; split <;> rfl

@[simp] theorem setReg_softReset (s : State) (r : Reg) (n : Nat) (v : Word) : (s.setReg r n v).softReset = s.softReset :=
  by unfold State.setReg; split <;> rfl

@[simp] theorem setReg_draws (s : State) (r : Reg) (n : Nat) (v : Word) : (s.setReg r n v).draws = s.draws :=
  by unfold State.setReg; split <;> rfl

@[simp] theorem setReg_answer (s : State) (r : Reg) (n : Nat) (v : Word) : (s.setReg r n v).answer = s.answer :=
  by unfold State.setReg; split <;> rfl

@[simp] theorem setReg_router (s : State) (r : Reg) (n : Nat) (v : Word) : (s.setReg r n v).router = s.router :=
  by unfold State.setReg; split <;> rfl

@[simp] theorem setReg_basket (s : State) (r : Reg) (n : Nat) (v : Word) : (s.setReg r n v).basket = s.basket :=
  by unfold State.setReg; split <;> rfl

@[simp] theorem setReg_power (s : State) (r : Reg) (n : Nat) (v : Word) : (s.setReg r n v).power = s.power :=
  by unfold State.setReg; split <;> rfl

@[simp] theorem setReg_seams (s : State) (r : Reg) (n : Nat) (v : Word) : (s.setReg r n v).seams = s.seams :=
  by unfold State.setReg; split <;> rfl

@[simp] theorem setReg_tach (s : State) (r : Reg) (n : Nat) (v : Word) : (s.setReg r n v).tach = s.tach :=
  by unfold State.setReg; split <;> rfl

@[simp] theorem setReg_engines (s : State) (r : Reg) (n : Nat) (v : Word) : (s.setReg r n v).engines = s.engines :=
  by unfold State.setReg; split <;> rfl

@[simp] theorem setReg_epoch (s : State) (r : Reg) (n : Nat) (v : Word) : (s.setReg r n v).epoch = s.epoch :=
  by unfold State.setReg; split <;> rfl

@[simp] theorem setReg_modules (s : State) (r : Reg) (n : Nat) (v : Word) : (s.setReg r n v).modules = s.modules :=
  by unfold State.setReg; split <;> rfl

@[simp] theorem setReg_beacon (s : State) (r : Reg) (n : Nat) (v : Word) : (s.setReg r n v).beacon = s.beacon :=
  by unfold State.setReg; split <;> rfl

@[simp] theorem setReg_idb (s : State) (r : Reg) (n : Nat) (v : Word) : (s.setReg r n v).idb = s.idb :=
  by unfold State.setReg; split <;> rfl

@[simp] theorem setReg_darn (s : State) (r : Reg) (n : Nat) (v : Word) : (s.setReg r n v).darn = s.darn :=
  by unfold State.setReg; split <;> rfl

@[simp] theorem setReg_adc (s : State) (r : Reg) (n : Nat) (v : Word) : (s.setReg r n v).adc = s.adc :=
  by unfold State.setReg; split <;> rfl

@[simp] theorem setReg_chains (s : State) (r : Reg) (n : Nat) (v : Word) : (s.setReg r n v).chains = s.chains :=
  by unfold State.setReg; split <;> rfl

@[simp] theorem setReg_lines (s : State) (r : Reg) (n : Nat) (v : Word) : (s.setReg r n v).lines = s.lines :=
  by unfold State.setReg; split <;> rfl

@[simp] theorem setReg_wel (s : State) (r : Reg) (n : Nat) (v : Word) : (s.setReg r n v).wel = s.wel :=
  by unfold State.setReg; split <;> rfl

@[simp] theorem setReg_bkd (s : State) (r : Reg) (n : Nat) (v : Word) : (s.setReg r n v).bkd = s.bkd :=
  by unfold State.setReg; split <;> rfl

@[simp] theorem setReg_links (s : State) (r : Reg) (n : Nat) (v : Word) : (s.setReg r n v).links = s.links :=
  by unfold State.setReg; split <;> rfl

@[simp] theorem setReg_uarts (s : State) (r : Reg) (n : Nat) (v : Word) : (s.setReg r n v).uarts = s.uarts :=
  by unfold State.setReg; split <;> rfl

@[simp] theorem setReg_cores (s : State) (r : Reg) (n : Nat) (v : Word) : (s.setReg r n v).cores = s.cores :=
  by unfold State.setReg; split <;> rfl

@[simp] theorem setReg_clocks (s : State) (r : Reg) (n : Nat) (v : Word) : (s.setReg r n v).clocks = s.clocks :=
  by unfold State.setReg; split <;> rfl

@[simp] theorem setReg_temps (s : State) (r : Reg) (n : Nat) (v : Word) : (s.setReg r n v).temps = s.temps :=
  by unfold State.setReg; split <;> rfl

@[simp] theorem setReg_fuses (s : State) (r : Reg) (n : Nat) (v : Word) : (s.setReg r n v).fuses = s.fuses :=
  by unfold State.setReg; split <;> rfl

@[simp] theorem setReg_crypto (s : State) (r : Reg) (n : Nat) (v : Word) : (s.setReg r n v).crypto = s.crypto :=
  by unfold State.setReg; split <;> rfl

@[simp] theorem setReg_xspi (s : State) (r : Reg) (n : Nat) (v : Word) : (s.setReg r n v).xspi = s.xspi :=
  by unfold State.setReg; split <;> rfl

@[simp] theorem setReg_flash (s : State) (r : Reg) (n : Nat) (v : Word) : (s.setReg r n v).flash = s.flash :=
  by unfold State.setReg; split <;> rfl

@[simp] theorem setReg_wdts (s : State) (r : Reg) (n : Nat) (v : Word) : (s.setReg r n v).wdts = s.wdts :=
  by unfold State.setReg; split <;> rfl

@[simp] theorem setReg_mend (s : State) (r : Reg) (n : Nat) (v : Word) : (s.setReg r n v).mend = s.mend :=
  by unfold State.setReg; split <;> rfl

@[simp] theorem setReg_boot (s : State) (r : Reg) (n : Nat) (v : Word) : (s.setReg r n v).boot = s.boot :=
  by unfold State.setReg; split <;> rfl

@[simp] theorem setReg_late (s : State) (r : Reg) (n : Nat) (v : Word) : (s.setReg r n v).late = s.late :=
  by unfold State.setReg; split <;> rfl

@[simp] theorem setReg_timers (s : State) (r : Reg) (n : Nat) (v : Word) : (s.setReg r n v).timers = s.timers :=
  by unfold State.setReg; split <;> rfl

/-! ### A write of a field leaves every part of State but `regs` -/

@[simp] theorem fset_pending (s : State) (f : Fld) (n x : Nat) : (s.fset f n x).pending = s.pending :=
  setReg_pending ..

@[simp] theorem fset_now (s : State) (f : Fld) (n x : Nat) : (s.fset f n x).now = s.now :=
  setReg_now ..

@[simp] theorem fset_mem (s : State) (f : Fld) (n x : Nat) : (s.fset f n x).mem = s.mem :=
  setReg_mem ..

@[simp] theorem fset_ecc (s : State) (f : Fld) (n x : Nat) : (s.fset f n x).ecc = s.ecc :=
  setReg_ecc ..

@[simp] theorem fset_held (s : State) (f : Fld) (n x : Nat) : (s.fset f n x).held = s.held :=
  setReg_held ..

@[simp] theorem fset_freeze (s : State) (f : Fld) (n x : Nat) : (s.fset f n x).freeze = s.freeze :=
  setReg_freeze ..

@[simp] theorem fset_softReset (s : State) (f : Fld) (n x : Nat) : (s.fset f n x).softReset = s.softReset :=
  setReg_softReset ..

@[simp] theorem fset_draws (s : State) (f : Fld) (n x : Nat) : (s.fset f n x).draws = s.draws :=
  setReg_draws ..

@[simp] theorem fset_answer (s : State) (f : Fld) (n x : Nat) : (s.fset f n x).answer = s.answer :=
  setReg_answer ..

@[simp] theorem fset_router (s : State) (f : Fld) (n x : Nat) : (s.fset f n x).router = s.router :=
  setReg_router ..

@[simp] theorem fset_basket (s : State) (f : Fld) (n x : Nat) : (s.fset f n x).basket = s.basket :=
  setReg_basket ..

@[simp] theorem fset_power (s : State) (f : Fld) (n x : Nat) : (s.fset f n x).power = s.power :=
  setReg_power ..

@[simp] theorem fset_seams (s : State) (f : Fld) (n x : Nat) : (s.fset f n x).seams = s.seams :=
  setReg_seams ..

@[simp] theorem fset_tach (s : State) (f : Fld) (n x : Nat) : (s.fset f n x).tach = s.tach :=
  setReg_tach ..

@[simp] theorem fset_engines (s : State) (f : Fld) (n x : Nat) : (s.fset f n x).engines = s.engines :=
  setReg_engines ..

@[simp] theorem fset_epoch (s : State) (f : Fld) (n x : Nat) : (s.fset f n x).epoch = s.epoch :=
  setReg_epoch ..

@[simp] theorem fset_modules (s : State) (f : Fld) (n x : Nat) : (s.fset f n x).modules = s.modules :=
  setReg_modules ..

@[simp] theorem fset_beacon (s : State) (f : Fld) (n x : Nat) : (s.fset f n x).beacon = s.beacon :=
  setReg_beacon ..

@[simp] theorem fset_idb (s : State) (f : Fld) (n x : Nat) : (s.fset f n x).idb = s.idb :=
  setReg_idb ..

@[simp] theorem fset_darn (s : State) (f : Fld) (n x : Nat) : (s.fset f n x).darn = s.darn :=
  setReg_darn ..

@[simp] theorem fset_adc (s : State) (f : Fld) (n x : Nat) : (s.fset f n x).adc = s.adc :=
  setReg_adc ..

@[simp] theorem fset_chains (s : State) (f : Fld) (n x : Nat) : (s.fset f n x).chains = s.chains :=
  setReg_chains ..

@[simp] theorem fset_lines (s : State) (f : Fld) (n x : Nat) : (s.fset f n x).lines = s.lines :=
  setReg_lines ..

@[simp] theorem fset_wel (s : State) (f : Fld) (n x : Nat) : (s.fset f n x).wel = s.wel :=
  setReg_wel ..

@[simp] theorem fset_bkd (s : State) (f : Fld) (n x : Nat) : (s.fset f n x).bkd = s.bkd :=
  setReg_bkd ..

@[simp] theorem fset_links (s : State) (f : Fld) (n x : Nat) : (s.fset f n x).links = s.links :=
  setReg_links ..

@[simp] theorem fset_uarts (s : State) (f : Fld) (n x : Nat) : (s.fset f n x).uarts = s.uarts :=
  setReg_uarts ..

@[simp] theorem fset_cores (s : State) (f : Fld) (n x : Nat) : (s.fset f n x).cores = s.cores :=
  setReg_cores ..

@[simp] theorem fset_clocks (s : State) (f : Fld) (n x : Nat) : (s.fset f n x).clocks = s.clocks :=
  setReg_clocks ..

@[simp] theorem fset_temps (s : State) (f : Fld) (n x : Nat) : (s.fset f n x).temps = s.temps :=
  setReg_temps ..

@[simp] theorem fset_fuses (s : State) (f : Fld) (n x : Nat) : (s.fset f n x).fuses = s.fuses :=
  setReg_fuses ..

@[simp] theorem fset_crypto (s : State) (f : Fld) (n x : Nat) : (s.fset f n x).crypto = s.crypto :=
  setReg_crypto ..

@[simp] theorem fset_xspi (s : State) (f : Fld) (n x : Nat) : (s.fset f n x).xspi = s.xspi :=
  setReg_xspi ..

@[simp] theorem fset_flash (s : State) (f : Fld) (n x : Nat) : (s.fset f n x).flash = s.flash :=
  setReg_flash ..

@[simp] theorem fset_wdts (s : State) (f : Fld) (n x : Nat) : (s.fset f n x).wdts = s.wdts :=
  setReg_wdts ..

@[simp] theorem fset_mend (s : State) (f : Fld) (n x : Nat) : (s.fset f n x).mend = s.mend :=
  setReg_mend ..

@[simp] theorem fset_boot (s : State) (f : Fld) (n x : Nat) : (s.fset f n x).boot = s.boot :=
  setReg_boot ..

@[simp] theorem fset_late (s : State) (f : Fld) (n x : Nat) : (s.fset f n x).late = s.late :=
  setReg_late ..

@[simp] theorem fset_timers (s : State) (f : Fld) (n x : Nat) : (s.fset f n x).timers = s.timers :=
  setReg_timers ..

/-! ### A write of a one-bit field leaves every part of State but `regs` -/

@[simp] theorem fsetB_pending (s : State) (f : Fld) (n : Nat) (b : Bool) : (s.fsetB f n b).pending = s.pending :=
  fset_pending ..

@[simp] theorem fsetB_now (s : State) (f : Fld) (n : Nat) (b : Bool) : (s.fsetB f n b).now = s.now :=
  fset_now ..

@[simp] theorem fsetB_mem (s : State) (f : Fld) (n : Nat) (b : Bool) : (s.fsetB f n b).mem = s.mem :=
  fset_mem ..

@[simp] theorem fsetB_ecc (s : State) (f : Fld) (n : Nat) (b : Bool) : (s.fsetB f n b).ecc = s.ecc :=
  fset_ecc ..

@[simp] theorem fsetB_held (s : State) (f : Fld) (n : Nat) (b : Bool) : (s.fsetB f n b).held = s.held :=
  fset_held ..

@[simp] theorem fsetB_freeze (s : State) (f : Fld) (n : Nat) (b : Bool) : (s.fsetB f n b).freeze = s.freeze :=
  fset_freeze ..

@[simp] theorem fsetB_softReset (s : State) (f : Fld) (n : Nat) (b : Bool) : (s.fsetB f n b).softReset = s.softReset :=
  fset_softReset ..

@[simp] theorem fsetB_draws (s : State) (f : Fld) (n : Nat) (b : Bool) : (s.fsetB f n b).draws = s.draws :=
  fset_draws ..

@[simp] theorem fsetB_answer (s : State) (f : Fld) (n : Nat) (b : Bool) : (s.fsetB f n b).answer = s.answer :=
  fset_answer ..

@[simp] theorem fsetB_router (s : State) (f : Fld) (n : Nat) (b : Bool) : (s.fsetB f n b).router = s.router :=
  fset_router ..

@[simp] theorem fsetB_basket (s : State) (f : Fld) (n : Nat) (b : Bool) : (s.fsetB f n b).basket = s.basket :=
  fset_basket ..

@[simp] theorem fsetB_power (s : State) (f : Fld) (n : Nat) (b : Bool) : (s.fsetB f n b).power = s.power :=
  fset_power ..

@[simp] theorem fsetB_seams (s : State) (f : Fld) (n : Nat) (b : Bool) : (s.fsetB f n b).seams = s.seams :=
  fset_seams ..

@[simp] theorem fsetB_tach (s : State) (f : Fld) (n : Nat) (b : Bool) : (s.fsetB f n b).tach = s.tach :=
  fset_tach ..

@[simp] theorem fsetB_engines (s : State) (f : Fld) (n : Nat) (b : Bool) : (s.fsetB f n b).engines = s.engines :=
  fset_engines ..

@[simp] theorem fsetB_epoch (s : State) (f : Fld) (n : Nat) (b : Bool) : (s.fsetB f n b).epoch = s.epoch :=
  fset_epoch ..

@[simp] theorem fsetB_modules (s : State) (f : Fld) (n : Nat) (b : Bool) : (s.fsetB f n b).modules = s.modules :=
  fset_modules ..

@[simp] theorem fsetB_beacon (s : State) (f : Fld) (n : Nat) (b : Bool) : (s.fsetB f n b).beacon = s.beacon :=
  fset_beacon ..

@[simp] theorem fsetB_idb (s : State) (f : Fld) (n : Nat) (b : Bool) : (s.fsetB f n b).idb = s.idb :=
  fset_idb ..

@[simp] theorem fsetB_darn (s : State) (f : Fld) (n : Nat) (b : Bool) : (s.fsetB f n b).darn = s.darn :=
  fset_darn ..

@[simp] theorem fsetB_adc (s : State) (f : Fld) (n : Nat) (b : Bool) : (s.fsetB f n b).adc = s.adc :=
  fset_adc ..

@[simp] theorem fsetB_chains (s : State) (f : Fld) (n : Nat) (b : Bool) : (s.fsetB f n b).chains = s.chains :=
  fset_chains ..

@[simp] theorem fsetB_lines (s : State) (f : Fld) (n : Nat) (b : Bool) : (s.fsetB f n b).lines = s.lines :=
  fset_lines ..

@[simp] theorem fsetB_wel (s : State) (f : Fld) (n : Nat) (b : Bool) : (s.fsetB f n b).wel = s.wel :=
  fset_wel ..

@[simp] theorem fsetB_bkd (s : State) (f : Fld) (n : Nat) (b : Bool) : (s.fsetB f n b).bkd = s.bkd :=
  fset_bkd ..

@[simp] theorem fsetB_links (s : State) (f : Fld) (n : Nat) (b : Bool) : (s.fsetB f n b).links = s.links :=
  fset_links ..

@[simp] theorem fsetB_uarts (s : State) (f : Fld) (n : Nat) (b : Bool) : (s.fsetB f n b).uarts = s.uarts :=
  fset_uarts ..

@[simp] theorem fsetB_cores (s : State) (f : Fld) (n : Nat) (b : Bool) : (s.fsetB f n b).cores = s.cores :=
  fset_cores ..

@[simp] theorem fsetB_clocks (s : State) (f : Fld) (n : Nat) (b : Bool) : (s.fsetB f n b).clocks = s.clocks :=
  fset_clocks ..

@[simp] theorem fsetB_temps (s : State) (f : Fld) (n : Nat) (b : Bool) : (s.fsetB f n b).temps = s.temps :=
  fset_temps ..

@[simp] theorem fsetB_fuses (s : State) (f : Fld) (n : Nat) (b : Bool) : (s.fsetB f n b).fuses = s.fuses :=
  fset_fuses ..

@[simp] theorem fsetB_crypto (s : State) (f : Fld) (n : Nat) (b : Bool) : (s.fsetB f n b).crypto = s.crypto :=
  fset_crypto ..

@[simp] theorem fsetB_xspi (s : State) (f : Fld) (n : Nat) (b : Bool) : (s.fsetB f n b).xspi = s.xspi :=
  fset_xspi ..

@[simp] theorem fsetB_flash (s : State) (f : Fld) (n : Nat) (b : Bool) : (s.fsetB f n b).flash = s.flash :=
  fset_flash ..

@[simp] theorem fsetB_wdts (s : State) (f : Fld) (n : Nat) (b : Bool) : (s.fsetB f n b).wdts = s.wdts :=
  fset_wdts ..

@[simp] theorem fsetB_mend (s : State) (f : Fld) (n : Nat) (b : Bool) : (s.fsetB f n b).mend = s.mend :=
  fset_mend ..

@[simp] theorem fsetB_boot (s : State) (f : Fld) (n : Nat) (b : Bool) : (s.fsetB f n b).boot = s.boot :=
  fset_boot ..

@[simp] theorem fsetB_late (s : State) (f : Fld) (n : Nat) (b : Bool) : (s.fsetB f n b).late = s.late :=
  fset_late ..

@[simp] theorem fsetB_timers (s : State) (f : Fld) (n : Nat) (b : Bool) : (s.fsetB f n b).timers = s.timers :=
  fset_timers ..

/-! ### A write of one bit of a field leaves every part of State but `regs` -/

@[simp] theorem fsetBit_pending (s : State) (f : Fld) (n i : Nat) (b : Bool) : (s.fsetBit f n i b).pending = s.pending :=
  setReg_pending ..

@[simp] theorem fsetBit_now (s : State) (f : Fld) (n i : Nat) (b : Bool) : (s.fsetBit f n i b).now = s.now :=
  setReg_now ..

@[simp] theorem fsetBit_mem (s : State) (f : Fld) (n i : Nat) (b : Bool) : (s.fsetBit f n i b).mem = s.mem :=
  setReg_mem ..

@[simp] theorem fsetBit_ecc (s : State) (f : Fld) (n i : Nat) (b : Bool) : (s.fsetBit f n i b).ecc = s.ecc :=
  setReg_ecc ..

@[simp] theorem fsetBit_held (s : State) (f : Fld) (n i : Nat) (b : Bool) : (s.fsetBit f n i b).held = s.held :=
  setReg_held ..

@[simp] theorem fsetBit_freeze (s : State) (f : Fld) (n i : Nat) (b : Bool) : (s.fsetBit f n i b).freeze = s.freeze :=
  setReg_freeze ..

@[simp] theorem fsetBit_softReset (s : State) (f : Fld) (n i : Nat) (b : Bool) : (s.fsetBit f n i b).softReset = s.softReset :=
  setReg_softReset ..

@[simp] theorem fsetBit_draws (s : State) (f : Fld) (n i : Nat) (b : Bool) : (s.fsetBit f n i b).draws = s.draws :=
  setReg_draws ..

@[simp] theorem fsetBit_answer (s : State) (f : Fld) (n i : Nat) (b : Bool) : (s.fsetBit f n i b).answer = s.answer :=
  setReg_answer ..

@[simp] theorem fsetBit_router (s : State) (f : Fld) (n i : Nat) (b : Bool) : (s.fsetBit f n i b).router = s.router :=
  setReg_router ..

@[simp] theorem fsetBit_basket (s : State) (f : Fld) (n i : Nat) (b : Bool) : (s.fsetBit f n i b).basket = s.basket :=
  setReg_basket ..

@[simp] theorem fsetBit_power (s : State) (f : Fld) (n i : Nat) (b : Bool) : (s.fsetBit f n i b).power = s.power :=
  setReg_power ..

@[simp] theorem fsetBit_seams (s : State) (f : Fld) (n i : Nat) (b : Bool) : (s.fsetBit f n i b).seams = s.seams :=
  setReg_seams ..

@[simp] theorem fsetBit_tach (s : State) (f : Fld) (n i : Nat) (b : Bool) : (s.fsetBit f n i b).tach = s.tach :=
  setReg_tach ..

@[simp] theorem fsetBit_engines (s : State) (f : Fld) (n i : Nat) (b : Bool) : (s.fsetBit f n i b).engines = s.engines :=
  setReg_engines ..

@[simp] theorem fsetBit_epoch (s : State) (f : Fld) (n i : Nat) (b : Bool) : (s.fsetBit f n i b).epoch = s.epoch :=
  setReg_epoch ..

@[simp] theorem fsetBit_modules (s : State) (f : Fld) (n i : Nat) (b : Bool) : (s.fsetBit f n i b).modules = s.modules :=
  setReg_modules ..

@[simp] theorem fsetBit_beacon (s : State) (f : Fld) (n i : Nat) (b : Bool) : (s.fsetBit f n i b).beacon = s.beacon :=
  setReg_beacon ..

@[simp] theorem fsetBit_idb (s : State) (f : Fld) (n i : Nat) (b : Bool) : (s.fsetBit f n i b).idb = s.idb :=
  setReg_idb ..

@[simp] theorem fsetBit_darn (s : State) (f : Fld) (n i : Nat) (b : Bool) : (s.fsetBit f n i b).darn = s.darn :=
  setReg_darn ..

@[simp] theorem fsetBit_adc (s : State) (f : Fld) (n i : Nat) (b : Bool) : (s.fsetBit f n i b).adc = s.adc :=
  setReg_adc ..

@[simp] theorem fsetBit_chains (s : State) (f : Fld) (n i : Nat) (b : Bool) : (s.fsetBit f n i b).chains = s.chains :=
  setReg_chains ..

@[simp] theorem fsetBit_lines (s : State) (f : Fld) (n i : Nat) (b : Bool) : (s.fsetBit f n i b).lines = s.lines :=
  setReg_lines ..

@[simp] theorem fsetBit_wel (s : State) (f : Fld) (n i : Nat) (b : Bool) : (s.fsetBit f n i b).wel = s.wel :=
  setReg_wel ..

@[simp] theorem fsetBit_bkd (s : State) (f : Fld) (n i : Nat) (b : Bool) : (s.fsetBit f n i b).bkd = s.bkd :=
  setReg_bkd ..

@[simp] theorem fsetBit_links (s : State) (f : Fld) (n i : Nat) (b : Bool) : (s.fsetBit f n i b).links = s.links :=
  setReg_links ..

@[simp] theorem fsetBit_uarts (s : State) (f : Fld) (n i : Nat) (b : Bool) : (s.fsetBit f n i b).uarts = s.uarts :=
  setReg_uarts ..

@[simp] theorem fsetBit_cores (s : State) (f : Fld) (n i : Nat) (b : Bool) : (s.fsetBit f n i b).cores = s.cores :=
  setReg_cores ..

@[simp] theorem fsetBit_clocks (s : State) (f : Fld) (n i : Nat) (b : Bool) : (s.fsetBit f n i b).clocks = s.clocks :=
  setReg_clocks ..

@[simp] theorem fsetBit_temps (s : State) (f : Fld) (n i : Nat) (b : Bool) : (s.fsetBit f n i b).temps = s.temps :=
  setReg_temps ..

@[simp] theorem fsetBit_fuses (s : State) (f : Fld) (n i : Nat) (b : Bool) : (s.fsetBit f n i b).fuses = s.fuses :=
  setReg_fuses ..

@[simp] theorem fsetBit_crypto (s : State) (f : Fld) (n i : Nat) (b : Bool) : (s.fsetBit f n i b).crypto = s.crypto :=
  setReg_crypto ..

@[simp] theorem fsetBit_xspi (s : State) (f : Fld) (n i : Nat) (b : Bool) : (s.fsetBit f n i b).xspi = s.xspi :=
  setReg_xspi ..

@[simp] theorem fsetBit_flash (s : State) (f : Fld) (n i : Nat) (b : Bool) : (s.fsetBit f n i b).flash = s.flash :=
  setReg_flash ..

@[simp] theorem fsetBit_wdts (s : State) (f : Fld) (n i : Nat) (b : Bool) : (s.fsetBit f n i b).wdts = s.wdts :=
  setReg_wdts ..

@[simp] theorem fsetBit_mend (s : State) (f : Fld) (n i : Nat) (b : Bool) : (s.fsetBit f n i b).mend = s.mend :=
  setReg_mend ..

@[simp] theorem fsetBit_boot (s : State) (f : Fld) (n i : Nat) (b : Bool) : (s.fsetBit f n i b).boot = s.boot :=
  setReg_boot ..

@[simp] theorem fsetBit_late (s : State) (f : Fld) (n i : Nat) (b : Bool) : (s.fsetBit f n i b).late = s.late :=
  setReg_late ..

@[simp] theorem fsetBit_timers (s : State) (f : Fld) (n i : Nat) (b : Bool) : (s.fsetBit f n i b).timers = s.timers :=
  setReg_timers ..

/-! ### An addition to a field that wraps leaves every part of State but `regs` -/

@[simp] theorem fadd_pending (s : State) (f : Fld) (n k : Nat) : (s.fadd f n k).pending = s.pending :=
  fset_pending ..

@[simp] theorem fadd_now (s : State) (f : Fld) (n k : Nat) : (s.fadd f n k).now = s.now :=
  fset_now ..

@[simp] theorem fadd_mem (s : State) (f : Fld) (n k : Nat) : (s.fadd f n k).mem = s.mem :=
  fset_mem ..

@[simp] theorem fadd_ecc (s : State) (f : Fld) (n k : Nat) : (s.fadd f n k).ecc = s.ecc :=
  fset_ecc ..

@[simp] theorem fadd_held (s : State) (f : Fld) (n k : Nat) : (s.fadd f n k).held = s.held :=
  fset_held ..

@[simp] theorem fadd_freeze (s : State) (f : Fld) (n k : Nat) : (s.fadd f n k).freeze = s.freeze :=
  fset_freeze ..

@[simp] theorem fadd_softReset (s : State) (f : Fld) (n k : Nat) : (s.fadd f n k).softReset = s.softReset :=
  fset_softReset ..

@[simp] theorem fadd_draws (s : State) (f : Fld) (n k : Nat) : (s.fadd f n k).draws = s.draws :=
  fset_draws ..

@[simp] theorem fadd_answer (s : State) (f : Fld) (n k : Nat) : (s.fadd f n k).answer = s.answer :=
  fset_answer ..

@[simp] theorem fadd_router (s : State) (f : Fld) (n k : Nat) : (s.fadd f n k).router = s.router :=
  fset_router ..

@[simp] theorem fadd_basket (s : State) (f : Fld) (n k : Nat) : (s.fadd f n k).basket = s.basket :=
  fset_basket ..

@[simp] theorem fadd_power (s : State) (f : Fld) (n k : Nat) : (s.fadd f n k).power = s.power :=
  fset_power ..

@[simp] theorem fadd_seams (s : State) (f : Fld) (n k : Nat) : (s.fadd f n k).seams = s.seams :=
  fset_seams ..

@[simp] theorem fadd_tach (s : State) (f : Fld) (n k : Nat) : (s.fadd f n k).tach = s.tach :=
  fset_tach ..

@[simp] theorem fadd_engines (s : State) (f : Fld) (n k : Nat) : (s.fadd f n k).engines = s.engines :=
  fset_engines ..

@[simp] theorem fadd_epoch (s : State) (f : Fld) (n k : Nat) : (s.fadd f n k).epoch = s.epoch :=
  fset_epoch ..

@[simp] theorem fadd_modules (s : State) (f : Fld) (n k : Nat) : (s.fadd f n k).modules = s.modules :=
  fset_modules ..

@[simp] theorem fadd_beacon (s : State) (f : Fld) (n k : Nat) : (s.fadd f n k).beacon = s.beacon :=
  fset_beacon ..

@[simp] theorem fadd_idb (s : State) (f : Fld) (n k : Nat) : (s.fadd f n k).idb = s.idb :=
  fset_idb ..

@[simp] theorem fadd_darn (s : State) (f : Fld) (n k : Nat) : (s.fadd f n k).darn = s.darn :=
  fset_darn ..

@[simp] theorem fadd_adc (s : State) (f : Fld) (n k : Nat) : (s.fadd f n k).adc = s.adc :=
  fset_adc ..

@[simp] theorem fadd_chains (s : State) (f : Fld) (n k : Nat) : (s.fadd f n k).chains = s.chains :=
  fset_chains ..

@[simp] theorem fadd_lines (s : State) (f : Fld) (n k : Nat) : (s.fadd f n k).lines = s.lines :=
  fset_lines ..

@[simp] theorem fadd_wel (s : State) (f : Fld) (n k : Nat) : (s.fadd f n k).wel = s.wel :=
  fset_wel ..

@[simp] theorem fadd_bkd (s : State) (f : Fld) (n k : Nat) : (s.fadd f n k).bkd = s.bkd :=
  fset_bkd ..

@[simp] theorem fadd_links (s : State) (f : Fld) (n k : Nat) : (s.fadd f n k).links = s.links :=
  fset_links ..

@[simp] theorem fadd_uarts (s : State) (f : Fld) (n k : Nat) : (s.fadd f n k).uarts = s.uarts :=
  fset_uarts ..

@[simp] theorem fadd_cores (s : State) (f : Fld) (n k : Nat) : (s.fadd f n k).cores = s.cores :=
  fset_cores ..

@[simp] theorem fadd_clocks (s : State) (f : Fld) (n k : Nat) : (s.fadd f n k).clocks = s.clocks :=
  fset_clocks ..

@[simp] theorem fadd_temps (s : State) (f : Fld) (n k : Nat) : (s.fadd f n k).temps = s.temps :=
  fset_temps ..

@[simp] theorem fadd_fuses (s : State) (f : Fld) (n k : Nat) : (s.fadd f n k).fuses = s.fuses :=
  fset_fuses ..

@[simp] theorem fadd_crypto (s : State) (f : Fld) (n k : Nat) : (s.fadd f n k).crypto = s.crypto :=
  fset_crypto ..

@[simp] theorem fadd_xspi (s : State) (f : Fld) (n k : Nat) : (s.fadd f n k).xspi = s.xspi :=
  fset_xspi ..

@[simp] theorem fadd_flash (s : State) (f : Fld) (n k : Nat) : (s.fadd f n k).flash = s.flash :=
  fset_flash ..

@[simp] theorem fadd_wdts (s : State) (f : Fld) (n k : Nat) : (s.fadd f n k).wdts = s.wdts :=
  fset_wdts ..

@[simp] theorem fadd_mend (s : State) (f : Fld) (n k : Nat) : (s.fadd f n k).mend = s.mend :=
  fset_mend ..

@[simp] theorem fadd_boot (s : State) (f : Fld) (n k : Nat) : (s.fadd f n k).boot = s.boot :=
  fset_boot ..

@[simp] theorem fadd_late (s : State) (f : Fld) (n k : Nat) : (s.fadd f n k).late = s.late :=
  fset_late ..

@[simp] theorem fadd_timers (s : State) (f : Fld) (n k : Nat) : (s.fadd f n k).timers = s.timers :=
  fset_timers ..

/-! ### An addition to a field that saturates leaves every part of State but `regs` -/

@[simp] theorem faddSat_pending (s : State) (f : Fld) (n k : Nat) : (s.faddSat f n k).pending = s.pending :=
  fset_pending ..

@[simp] theorem faddSat_now (s : State) (f : Fld) (n k : Nat) : (s.faddSat f n k).now = s.now :=
  fset_now ..

@[simp] theorem faddSat_mem (s : State) (f : Fld) (n k : Nat) : (s.faddSat f n k).mem = s.mem :=
  fset_mem ..

@[simp] theorem faddSat_ecc (s : State) (f : Fld) (n k : Nat) : (s.faddSat f n k).ecc = s.ecc :=
  fset_ecc ..

@[simp] theorem faddSat_held (s : State) (f : Fld) (n k : Nat) : (s.faddSat f n k).held = s.held :=
  fset_held ..

@[simp] theorem faddSat_freeze (s : State) (f : Fld) (n k : Nat) : (s.faddSat f n k).freeze = s.freeze :=
  fset_freeze ..

@[simp] theorem faddSat_softReset (s : State) (f : Fld) (n k : Nat) : (s.faddSat f n k).softReset = s.softReset :=
  fset_softReset ..

@[simp] theorem faddSat_draws (s : State) (f : Fld) (n k : Nat) : (s.faddSat f n k).draws = s.draws :=
  fset_draws ..

@[simp] theorem faddSat_answer (s : State) (f : Fld) (n k : Nat) : (s.faddSat f n k).answer = s.answer :=
  fset_answer ..

@[simp] theorem faddSat_router (s : State) (f : Fld) (n k : Nat) : (s.faddSat f n k).router = s.router :=
  fset_router ..

@[simp] theorem faddSat_basket (s : State) (f : Fld) (n k : Nat) : (s.faddSat f n k).basket = s.basket :=
  fset_basket ..

@[simp] theorem faddSat_power (s : State) (f : Fld) (n k : Nat) : (s.faddSat f n k).power = s.power :=
  fset_power ..

@[simp] theorem faddSat_seams (s : State) (f : Fld) (n k : Nat) : (s.faddSat f n k).seams = s.seams :=
  fset_seams ..

@[simp] theorem faddSat_tach (s : State) (f : Fld) (n k : Nat) : (s.faddSat f n k).tach = s.tach :=
  fset_tach ..

@[simp] theorem faddSat_engines (s : State) (f : Fld) (n k : Nat) : (s.faddSat f n k).engines = s.engines :=
  fset_engines ..

@[simp] theorem faddSat_epoch (s : State) (f : Fld) (n k : Nat) : (s.faddSat f n k).epoch = s.epoch :=
  fset_epoch ..

@[simp] theorem faddSat_modules (s : State) (f : Fld) (n k : Nat) : (s.faddSat f n k).modules = s.modules :=
  fset_modules ..

@[simp] theorem faddSat_beacon (s : State) (f : Fld) (n k : Nat) : (s.faddSat f n k).beacon = s.beacon :=
  fset_beacon ..

@[simp] theorem faddSat_idb (s : State) (f : Fld) (n k : Nat) : (s.faddSat f n k).idb = s.idb :=
  fset_idb ..

@[simp] theorem faddSat_darn (s : State) (f : Fld) (n k : Nat) : (s.faddSat f n k).darn = s.darn :=
  fset_darn ..

@[simp] theorem faddSat_adc (s : State) (f : Fld) (n k : Nat) : (s.faddSat f n k).adc = s.adc :=
  fset_adc ..

@[simp] theorem faddSat_chains (s : State) (f : Fld) (n k : Nat) : (s.faddSat f n k).chains = s.chains :=
  fset_chains ..

@[simp] theorem faddSat_lines (s : State) (f : Fld) (n k : Nat) : (s.faddSat f n k).lines = s.lines :=
  fset_lines ..

@[simp] theorem faddSat_wel (s : State) (f : Fld) (n k : Nat) : (s.faddSat f n k).wel = s.wel :=
  fset_wel ..

@[simp] theorem faddSat_bkd (s : State) (f : Fld) (n k : Nat) : (s.faddSat f n k).bkd = s.bkd :=
  fset_bkd ..

@[simp] theorem faddSat_links (s : State) (f : Fld) (n k : Nat) : (s.faddSat f n k).links = s.links :=
  fset_links ..

@[simp] theorem faddSat_uarts (s : State) (f : Fld) (n k : Nat) : (s.faddSat f n k).uarts = s.uarts :=
  fset_uarts ..

@[simp] theorem faddSat_cores (s : State) (f : Fld) (n k : Nat) : (s.faddSat f n k).cores = s.cores :=
  fset_cores ..

@[simp] theorem faddSat_clocks (s : State) (f : Fld) (n k : Nat) : (s.faddSat f n k).clocks = s.clocks :=
  fset_clocks ..

@[simp] theorem faddSat_temps (s : State) (f : Fld) (n k : Nat) : (s.faddSat f n k).temps = s.temps :=
  fset_temps ..

@[simp] theorem faddSat_fuses (s : State) (f : Fld) (n k : Nat) : (s.faddSat f n k).fuses = s.fuses :=
  fset_fuses ..

@[simp] theorem faddSat_crypto (s : State) (f : Fld) (n k : Nat) : (s.faddSat f n k).crypto = s.crypto :=
  fset_crypto ..

@[simp] theorem faddSat_xspi (s : State) (f : Fld) (n k : Nat) : (s.faddSat f n k).xspi = s.xspi :=
  fset_xspi ..

@[simp] theorem faddSat_flash (s : State) (f : Fld) (n k : Nat) : (s.faddSat f n k).flash = s.flash :=
  fset_flash ..

@[simp] theorem faddSat_wdts (s : State) (f : Fld) (n k : Nat) : (s.faddSat f n k).wdts = s.wdts :=
  fset_wdts ..

@[simp] theorem faddSat_mend (s : State) (f : Fld) (n k : Nat) : (s.faddSat f n k).mend = s.mend :=
  fset_mend ..

@[simp] theorem faddSat_boot (s : State) (f : Fld) (n k : Nat) : (s.faddSat f n k).boot = s.boot :=
  fset_boot ..

@[simp] theorem faddSat_late (s : State) (f : Fld) (n k : Nat) : (s.faddSat f n k).late = s.late :=
  fset_late ..

@[simp] theorem faddSat_timers (s : State) (f : Fld) (n k : Nat) : (s.faddSat f n k).timers = s.timers :=
  fset_timers ..

/-! ### A write of a 64-bit value leaves every part of State but `regs` -/

@[simp] theorem set64_pending (s : State) (lo hi : Reg) (n x : Nat) : (s.set64 lo hi n x).pending = s.pending :=
  (setReg_pending ..).trans (setReg_pending ..)

@[simp] theorem set64_now (s : State) (lo hi : Reg) (n x : Nat) : (s.set64 lo hi n x).now = s.now :=
  (setReg_now ..).trans (setReg_now ..)

@[simp] theorem set64_mem (s : State) (lo hi : Reg) (n x : Nat) : (s.set64 lo hi n x).mem = s.mem :=
  (setReg_mem ..).trans (setReg_mem ..)

@[simp] theorem set64_ecc (s : State) (lo hi : Reg) (n x : Nat) : (s.set64 lo hi n x).ecc = s.ecc :=
  (setReg_ecc ..).trans (setReg_ecc ..)

@[simp] theorem set64_held (s : State) (lo hi : Reg) (n x : Nat) : (s.set64 lo hi n x).held = s.held :=
  (setReg_held ..).trans (setReg_held ..)

@[simp] theorem set64_freeze (s : State) (lo hi : Reg) (n x : Nat) : (s.set64 lo hi n x).freeze = s.freeze :=
  (setReg_freeze ..).trans (setReg_freeze ..)

@[simp] theorem set64_softReset (s : State) (lo hi : Reg) (n x : Nat) : (s.set64 lo hi n x).softReset = s.softReset :=
  (setReg_softReset ..).trans (setReg_softReset ..)

@[simp] theorem set64_draws (s : State) (lo hi : Reg) (n x : Nat) : (s.set64 lo hi n x).draws = s.draws :=
  (setReg_draws ..).trans (setReg_draws ..)

@[simp] theorem set64_answer (s : State) (lo hi : Reg) (n x : Nat) : (s.set64 lo hi n x).answer = s.answer :=
  (setReg_answer ..).trans (setReg_answer ..)

@[simp] theorem set64_router (s : State) (lo hi : Reg) (n x : Nat) : (s.set64 lo hi n x).router = s.router :=
  (setReg_router ..).trans (setReg_router ..)

@[simp] theorem set64_basket (s : State) (lo hi : Reg) (n x : Nat) : (s.set64 lo hi n x).basket = s.basket :=
  (setReg_basket ..).trans (setReg_basket ..)

@[simp] theorem set64_power (s : State) (lo hi : Reg) (n x : Nat) : (s.set64 lo hi n x).power = s.power :=
  (setReg_power ..).trans (setReg_power ..)

@[simp] theorem set64_seams (s : State) (lo hi : Reg) (n x : Nat) : (s.set64 lo hi n x).seams = s.seams :=
  (setReg_seams ..).trans (setReg_seams ..)

@[simp] theorem set64_tach (s : State) (lo hi : Reg) (n x : Nat) : (s.set64 lo hi n x).tach = s.tach :=
  (setReg_tach ..).trans (setReg_tach ..)

@[simp] theorem set64_engines (s : State) (lo hi : Reg) (n x : Nat) : (s.set64 lo hi n x).engines = s.engines :=
  (setReg_engines ..).trans (setReg_engines ..)

@[simp] theorem set64_epoch (s : State) (lo hi : Reg) (n x : Nat) : (s.set64 lo hi n x).epoch = s.epoch :=
  (setReg_epoch ..).trans (setReg_epoch ..)

@[simp] theorem set64_modules (s : State) (lo hi : Reg) (n x : Nat) : (s.set64 lo hi n x).modules = s.modules :=
  (setReg_modules ..).trans (setReg_modules ..)

@[simp] theorem set64_beacon (s : State) (lo hi : Reg) (n x : Nat) : (s.set64 lo hi n x).beacon = s.beacon :=
  (setReg_beacon ..).trans (setReg_beacon ..)

@[simp] theorem set64_idb (s : State) (lo hi : Reg) (n x : Nat) : (s.set64 lo hi n x).idb = s.idb :=
  (setReg_idb ..).trans (setReg_idb ..)

@[simp] theorem set64_darn (s : State) (lo hi : Reg) (n x : Nat) : (s.set64 lo hi n x).darn = s.darn :=
  (setReg_darn ..).trans (setReg_darn ..)

@[simp] theorem set64_adc (s : State) (lo hi : Reg) (n x : Nat) : (s.set64 lo hi n x).adc = s.adc :=
  (setReg_adc ..).trans (setReg_adc ..)

@[simp] theorem set64_chains (s : State) (lo hi : Reg) (n x : Nat) : (s.set64 lo hi n x).chains = s.chains :=
  (setReg_chains ..).trans (setReg_chains ..)

@[simp] theorem set64_lines (s : State) (lo hi : Reg) (n x : Nat) : (s.set64 lo hi n x).lines = s.lines :=
  (setReg_lines ..).trans (setReg_lines ..)

@[simp] theorem set64_wel (s : State) (lo hi : Reg) (n x : Nat) : (s.set64 lo hi n x).wel = s.wel :=
  (setReg_wel ..).trans (setReg_wel ..)

@[simp] theorem set64_bkd (s : State) (lo hi : Reg) (n x : Nat) : (s.set64 lo hi n x).bkd = s.bkd :=
  (setReg_bkd ..).trans (setReg_bkd ..)

@[simp] theorem set64_links (s : State) (lo hi : Reg) (n x : Nat) : (s.set64 lo hi n x).links = s.links :=
  (setReg_links ..).trans (setReg_links ..)

@[simp] theorem set64_uarts (s : State) (lo hi : Reg) (n x : Nat) : (s.set64 lo hi n x).uarts = s.uarts :=
  (setReg_uarts ..).trans (setReg_uarts ..)

@[simp] theorem set64_cores (s : State) (lo hi : Reg) (n x : Nat) : (s.set64 lo hi n x).cores = s.cores :=
  (setReg_cores ..).trans (setReg_cores ..)

@[simp] theorem set64_clocks (s : State) (lo hi : Reg) (n x : Nat) : (s.set64 lo hi n x).clocks = s.clocks :=
  (setReg_clocks ..).trans (setReg_clocks ..)

@[simp] theorem set64_temps (s : State) (lo hi : Reg) (n x : Nat) : (s.set64 lo hi n x).temps = s.temps :=
  (setReg_temps ..).trans (setReg_temps ..)

@[simp] theorem set64_fuses (s : State) (lo hi : Reg) (n x : Nat) : (s.set64 lo hi n x).fuses = s.fuses :=
  (setReg_fuses ..).trans (setReg_fuses ..)

@[simp] theorem set64_crypto (s : State) (lo hi : Reg) (n x : Nat) : (s.set64 lo hi n x).crypto = s.crypto :=
  (setReg_crypto ..).trans (setReg_crypto ..)

@[simp] theorem set64_xspi (s : State) (lo hi : Reg) (n x : Nat) : (s.set64 lo hi n x).xspi = s.xspi :=
  (setReg_xspi ..).trans (setReg_xspi ..)

@[simp] theorem set64_flash (s : State) (lo hi : Reg) (n x : Nat) : (s.set64 lo hi n x).flash = s.flash :=
  (setReg_flash ..).trans (setReg_flash ..)

@[simp] theorem set64_wdts (s : State) (lo hi : Reg) (n x : Nat) : (s.set64 lo hi n x).wdts = s.wdts :=
  (setReg_wdts ..).trans (setReg_wdts ..)

@[simp] theorem set64_mend (s : State) (lo hi : Reg) (n x : Nat) : (s.set64 lo hi n x).mend = s.mend :=
  (setReg_mend ..).trans (setReg_mend ..)

@[simp] theorem set64_boot (s : State) (lo hi : Reg) (n x : Nat) : (s.set64 lo hi n x).boot = s.boot :=
  (setReg_boot ..).trans (setReg_boot ..)

@[simp] theorem set64_late (s : State) (lo hi : Reg) (n x : Nat) : (s.set64 lo hi n x).late = s.late :=
  (setReg_late ..).trans (setReg_late ..)

@[simp] theorem set64_timers (s : State) (lo hi : Reg) (n x : Nat) : (s.set64 lo hi n x).timers = s.timers :=
  (setReg_timers ..).trans (setReg_timers ..)

/-! ### A store of bytes leaves every part of State but `mem` -/

@[simp] theorem putBytes_pending (s : State) (a : Nat) (bs : List Byte) : (s.putBytes a bs).pending = s.pending :=
  rfl

@[simp] theorem putBytes_now (s : State) (a : Nat) (bs : List Byte) : (s.putBytes a bs).now = s.now :=
  rfl

@[simp] theorem putBytes_regs (s : State) (a : Nat) (bs : List Byte) : (s.putBytes a bs).regs = s.regs :=
  rfl

@[simp] theorem putBytes_ecc (s : State) (a : Nat) (bs : List Byte) : (s.putBytes a bs).ecc = s.ecc :=
  rfl

@[simp] theorem putBytes_held (s : State) (a : Nat) (bs : List Byte) : (s.putBytes a bs).held = s.held :=
  rfl

@[simp] theorem putBytes_freeze (s : State) (a : Nat) (bs : List Byte) : (s.putBytes a bs).freeze = s.freeze :=
  rfl

@[simp] theorem putBytes_softReset (s : State) (a : Nat) (bs : List Byte) : (s.putBytes a bs).softReset = s.softReset :=
  rfl

@[simp] theorem putBytes_draws (s : State) (a : Nat) (bs : List Byte) : (s.putBytes a bs).draws = s.draws :=
  rfl

@[simp] theorem putBytes_answer (s : State) (a : Nat) (bs : List Byte) : (s.putBytes a bs).answer = s.answer :=
  rfl

@[simp] theorem putBytes_router (s : State) (a : Nat) (bs : List Byte) : (s.putBytes a bs).router = s.router :=
  rfl

@[simp] theorem putBytes_basket (s : State) (a : Nat) (bs : List Byte) : (s.putBytes a bs).basket = s.basket :=
  rfl

@[simp] theorem putBytes_power (s : State) (a : Nat) (bs : List Byte) : (s.putBytes a bs).power = s.power :=
  rfl

@[simp] theorem putBytes_seams (s : State) (a : Nat) (bs : List Byte) : (s.putBytes a bs).seams = s.seams :=
  rfl

@[simp] theorem putBytes_tach (s : State) (a : Nat) (bs : List Byte) : (s.putBytes a bs).tach = s.tach :=
  rfl

@[simp] theorem putBytes_engines (s : State) (a : Nat) (bs : List Byte) : (s.putBytes a bs).engines = s.engines :=
  rfl

@[simp] theorem putBytes_epoch (s : State) (a : Nat) (bs : List Byte) : (s.putBytes a bs).epoch = s.epoch :=
  rfl

@[simp] theorem putBytes_modules (s : State) (a : Nat) (bs : List Byte) : (s.putBytes a bs).modules = s.modules :=
  rfl

@[simp] theorem putBytes_beacon (s : State) (a : Nat) (bs : List Byte) : (s.putBytes a bs).beacon = s.beacon :=
  rfl

@[simp] theorem putBytes_idb (s : State) (a : Nat) (bs : List Byte) : (s.putBytes a bs).idb = s.idb :=
  rfl

@[simp] theorem putBytes_darn (s : State) (a : Nat) (bs : List Byte) : (s.putBytes a bs).darn = s.darn :=
  rfl

@[simp] theorem putBytes_adc (s : State) (a : Nat) (bs : List Byte) : (s.putBytes a bs).adc = s.adc :=
  rfl

@[simp] theorem putBytes_chains (s : State) (a : Nat) (bs : List Byte) : (s.putBytes a bs).chains = s.chains :=
  rfl

@[simp] theorem putBytes_lines (s : State) (a : Nat) (bs : List Byte) : (s.putBytes a bs).lines = s.lines :=
  rfl

@[simp] theorem putBytes_wel (s : State) (a : Nat) (bs : List Byte) : (s.putBytes a bs).wel = s.wel :=
  rfl

@[simp] theorem putBytes_bkd (s : State) (a : Nat) (bs : List Byte) : (s.putBytes a bs).bkd = s.bkd :=
  rfl

@[simp] theorem putBytes_links (s : State) (a : Nat) (bs : List Byte) : (s.putBytes a bs).links = s.links :=
  rfl

@[simp] theorem putBytes_uarts (s : State) (a : Nat) (bs : List Byte) : (s.putBytes a bs).uarts = s.uarts :=
  rfl

@[simp] theorem putBytes_cores (s : State) (a : Nat) (bs : List Byte) : (s.putBytes a bs).cores = s.cores :=
  rfl

@[simp] theorem putBytes_clocks (s : State) (a : Nat) (bs : List Byte) : (s.putBytes a bs).clocks = s.clocks :=
  rfl

@[simp] theorem putBytes_temps (s : State) (a : Nat) (bs : List Byte) : (s.putBytes a bs).temps = s.temps :=
  rfl

@[simp] theorem putBytes_fuses (s : State) (a : Nat) (bs : List Byte) : (s.putBytes a bs).fuses = s.fuses :=
  rfl

@[simp] theorem putBytes_crypto (s : State) (a : Nat) (bs : List Byte) : (s.putBytes a bs).crypto = s.crypto :=
  rfl

@[simp] theorem putBytes_xspi (s : State) (a : Nat) (bs : List Byte) : (s.putBytes a bs).xspi = s.xspi :=
  rfl

@[simp] theorem putBytes_flash (s : State) (a : Nat) (bs : List Byte) : (s.putBytes a bs).flash = s.flash :=
  rfl

@[simp] theorem putBytes_wdts (s : State) (a : Nat) (bs : List Byte) : (s.putBytes a bs).wdts = s.wdts :=
  rfl

@[simp] theorem putBytes_mend (s : State) (a : Nat) (bs : List Byte) : (s.putBytes a bs).mend = s.mend :=
  rfl

@[simp] theorem putBytes_boot (s : State) (a : Nat) (bs : List Byte) : (s.putBytes a bs).boot = s.boot :=
  rfl

@[simp] theorem putBytes_late (s : State) (a : Nat) (bs : List Byte) : (s.putBytes a bs).late = s.late :=
  rfl

@[simp] theorem putBytes_timers (s : State) (a : Nat) (bs : List Byte) : (s.putBytes a bs).timers = s.timers :=
  rfl

/-! ### A store of a number leaves every part of State but `mem` -/

@[simp] theorem putVal_pending (s : State) (a n x : Nat) : (s.putVal a n x).pending = s.pending :=
  rfl

@[simp] theorem putVal_now (s : State) (a n x : Nat) : (s.putVal a n x).now = s.now :=
  rfl

@[simp] theorem putVal_regs (s : State) (a n x : Nat) : (s.putVal a n x).regs = s.regs :=
  rfl

@[simp] theorem putVal_ecc (s : State) (a n x : Nat) : (s.putVal a n x).ecc = s.ecc :=
  rfl

@[simp] theorem putVal_held (s : State) (a n x : Nat) : (s.putVal a n x).held = s.held :=
  rfl

@[simp] theorem putVal_freeze (s : State) (a n x : Nat) : (s.putVal a n x).freeze = s.freeze :=
  rfl

@[simp] theorem putVal_softReset (s : State) (a n x : Nat) : (s.putVal a n x).softReset = s.softReset :=
  rfl

@[simp] theorem putVal_draws (s : State) (a n x : Nat) : (s.putVal a n x).draws = s.draws :=
  rfl

@[simp] theorem putVal_answer (s : State) (a n x : Nat) : (s.putVal a n x).answer = s.answer :=
  rfl

@[simp] theorem putVal_router (s : State) (a n x : Nat) : (s.putVal a n x).router = s.router :=
  rfl

@[simp] theorem putVal_basket (s : State) (a n x : Nat) : (s.putVal a n x).basket = s.basket :=
  rfl

@[simp] theorem putVal_power (s : State) (a n x : Nat) : (s.putVal a n x).power = s.power :=
  rfl

@[simp] theorem putVal_seams (s : State) (a n x : Nat) : (s.putVal a n x).seams = s.seams :=
  rfl

@[simp] theorem putVal_tach (s : State) (a n x : Nat) : (s.putVal a n x).tach = s.tach :=
  rfl

@[simp] theorem putVal_engines (s : State) (a n x : Nat) : (s.putVal a n x).engines = s.engines :=
  rfl

@[simp] theorem putVal_epoch (s : State) (a n x : Nat) : (s.putVal a n x).epoch = s.epoch :=
  rfl

@[simp] theorem putVal_modules (s : State) (a n x : Nat) : (s.putVal a n x).modules = s.modules :=
  rfl

@[simp] theorem putVal_beacon (s : State) (a n x : Nat) : (s.putVal a n x).beacon = s.beacon :=
  rfl

@[simp] theorem putVal_idb (s : State) (a n x : Nat) : (s.putVal a n x).idb = s.idb :=
  rfl

@[simp] theorem putVal_darn (s : State) (a n x : Nat) : (s.putVal a n x).darn = s.darn :=
  rfl

@[simp] theorem putVal_adc (s : State) (a n x : Nat) : (s.putVal a n x).adc = s.adc :=
  rfl

@[simp] theorem putVal_chains (s : State) (a n x : Nat) : (s.putVal a n x).chains = s.chains :=
  rfl

@[simp] theorem putVal_lines (s : State) (a n x : Nat) : (s.putVal a n x).lines = s.lines :=
  rfl

@[simp] theorem putVal_wel (s : State) (a n x : Nat) : (s.putVal a n x).wel = s.wel :=
  rfl

@[simp] theorem putVal_bkd (s : State) (a n x : Nat) : (s.putVal a n x).bkd = s.bkd :=
  rfl

@[simp] theorem putVal_links (s : State) (a n x : Nat) : (s.putVal a n x).links = s.links :=
  rfl

@[simp] theorem putVal_uarts (s : State) (a n x : Nat) : (s.putVal a n x).uarts = s.uarts :=
  rfl

@[simp] theorem putVal_cores (s : State) (a n x : Nat) : (s.putVal a n x).cores = s.cores :=
  rfl

@[simp] theorem putVal_clocks (s : State) (a n x : Nat) : (s.putVal a n x).clocks = s.clocks :=
  rfl

@[simp] theorem putVal_temps (s : State) (a n x : Nat) : (s.putVal a n x).temps = s.temps :=
  rfl

@[simp] theorem putVal_fuses (s : State) (a n x : Nat) : (s.putVal a n x).fuses = s.fuses :=
  rfl

@[simp] theorem putVal_crypto (s : State) (a n x : Nat) : (s.putVal a n x).crypto = s.crypto :=
  rfl

@[simp] theorem putVal_xspi (s : State) (a n x : Nat) : (s.putVal a n x).xspi = s.xspi :=
  rfl

@[simp] theorem putVal_flash (s : State) (a n x : Nat) : (s.putVal a n x).flash = s.flash :=
  rfl

@[simp] theorem putVal_wdts (s : State) (a n x : Nat) : (s.putVal a n x).wdts = s.wdts :=
  rfl

@[simp] theorem putVal_mend (s : State) (a n x : Nat) : (s.putVal a n x).mend = s.mend :=
  rfl

@[simp] theorem putVal_boot (s : State) (a n x : Nat) : (s.putVal a n x).boot = s.boot :=
  rfl

@[simp] theorem putVal_late (s : State) (a n x : Nat) : (s.putVal a n x).late = s.late :=
  rfl

@[simp] theorem putVal_timers (s : State) (a n x : Nat) : (s.putVal a n x).timers = s.timers :=
  rfl

/-! ### A write of a basket slot leaves every part of State but `basket` -/

@[simp] theorem setSlot_pending (s : State) (n : Nat) (x : Slot) : (s.setSlot n x).pending = s.pending :=
  rfl

@[simp] theorem setSlot_now (s : State) (n : Nat) (x : Slot) : (s.setSlot n x).now = s.now :=
  rfl

@[simp] theorem setSlot_regs (s : State) (n : Nat) (x : Slot) : (s.setSlot n x).regs = s.regs :=
  rfl

@[simp] theorem setSlot_mem (s : State) (n : Nat) (x : Slot) : (s.setSlot n x).mem = s.mem :=
  rfl

@[simp] theorem setSlot_ecc (s : State) (n : Nat) (x : Slot) : (s.setSlot n x).ecc = s.ecc :=
  rfl

@[simp] theorem setSlot_held (s : State) (n : Nat) (x : Slot) : (s.setSlot n x).held = s.held :=
  rfl

@[simp] theorem setSlot_freeze (s : State) (n : Nat) (x : Slot) : (s.setSlot n x).freeze = s.freeze :=
  rfl

@[simp] theorem setSlot_softReset (s : State) (n : Nat) (x : Slot) : (s.setSlot n x).softReset = s.softReset :=
  rfl

@[simp] theorem setSlot_draws (s : State) (n : Nat) (x : Slot) : (s.setSlot n x).draws = s.draws :=
  rfl

@[simp] theorem setSlot_answer (s : State) (n : Nat) (x : Slot) : (s.setSlot n x).answer = s.answer :=
  rfl

@[simp] theorem setSlot_router (s : State) (n : Nat) (x : Slot) : (s.setSlot n x).router = s.router :=
  rfl

@[simp] theorem setSlot_power (s : State) (n : Nat) (x : Slot) : (s.setSlot n x).power = s.power :=
  rfl

@[simp] theorem setSlot_seams (s : State) (n : Nat) (x : Slot) : (s.setSlot n x).seams = s.seams :=
  rfl

@[simp] theorem setSlot_tach (s : State) (n : Nat) (x : Slot) : (s.setSlot n x).tach = s.tach :=
  rfl

@[simp] theorem setSlot_engines (s : State) (n : Nat) (x : Slot) : (s.setSlot n x).engines = s.engines :=
  rfl

@[simp] theorem setSlot_epoch (s : State) (n : Nat) (x : Slot) : (s.setSlot n x).epoch = s.epoch :=
  rfl

@[simp] theorem setSlot_modules (s : State) (n : Nat) (x : Slot) : (s.setSlot n x).modules = s.modules :=
  rfl

@[simp] theorem setSlot_beacon (s : State) (n : Nat) (x : Slot) : (s.setSlot n x).beacon = s.beacon :=
  rfl

@[simp] theorem setSlot_idb (s : State) (n : Nat) (x : Slot) : (s.setSlot n x).idb = s.idb :=
  rfl

@[simp] theorem setSlot_darn (s : State) (n : Nat) (x : Slot) : (s.setSlot n x).darn = s.darn :=
  rfl

@[simp] theorem setSlot_adc (s : State) (n : Nat) (x : Slot) : (s.setSlot n x).adc = s.adc :=
  rfl

@[simp] theorem setSlot_chains (s : State) (n : Nat) (x : Slot) : (s.setSlot n x).chains = s.chains :=
  rfl

@[simp] theorem setSlot_lines (s : State) (n : Nat) (x : Slot) : (s.setSlot n x).lines = s.lines :=
  rfl

@[simp] theorem setSlot_wel (s : State) (n : Nat) (x : Slot) : (s.setSlot n x).wel = s.wel :=
  rfl

@[simp] theorem setSlot_bkd (s : State) (n : Nat) (x : Slot) : (s.setSlot n x).bkd = s.bkd :=
  rfl

@[simp] theorem setSlot_links (s : State) (n : Nat) (x : Slot) : (s.setSlot n x).links = s.links :=
  rfl

@[simp] theorem setSlot_uarts (s : State) (n : Nat) (x : Slot) : (s.setSlot n x).uarts = s.uarts :=
  rfl

@[simp] theorem setSlot_cores (s : State) (n : Nat) (x : Slot) : (s.setSlot n x).cores = s.cores :=
  rfl

@[simp] theorem setSlot_clocks (s : State) (n : Nat) (x : Slot) : (s.setSlot n x).clocks = s.clocks :=
  rfl

@[simp] theorem setSlot_temps (s : State) (n : Nat) (x : Slot) : (s.setSlot n x).temps = s.temps :=
  rfl

@[simp] theorem setSlot_fuses (s : State) (n : Nat) (x : Slot) : (s.setSlot n x).fuses = s.fuses :=
  rfl

@[simp] theorem setSlot_crypto (s : State) (n : Nat) (x : Slot) : (s.setSlot n x).crypto = s.crypto :=
  rfl

@[simp] theorem setSlot_xspi (s : State) (n : Nat) (x : Slot) : (s.setSlot n x).xspi = s.xspi :=
  rfl

@[simp] theorem setSlot_flash (s : State) (n : Nat) (x : Slot) : (s.setSlot n x).flash = s.flash :=
  rfl

@[simp] theorem setSlot_wdts (s : State) (n : Nat) (x : Slot) : (s.setSlot n x).wdts = s.wdts :=
  rfl

@[simp] theorem setSlot_mend (s : State) (n : Nat) (x : Slot) : (s.setSlot n x).mend = s.mend :=
  rfl

@[simp] theorem setSlot_boot (s : State) (n : Nat) (x : Slot) : (s.setSlot n x).boot = s.boot :=
  rfl

@[simp] theorem setSlot_late (s : State) (n : Nat) (x : Slot) : (s.setSlot n x).late = s.late :=
  rfl

@[simp] theorem setSlot_timers (s : State) (n : Nat) (x : Slot) : (s.setSlot n x).timers = s.timers :=
  rfl

end Sys2Proof.Machine
end

