-- ==== Sys2Proof/Laws/Touch/Ops.lean ====
section
/-!
SUPPORT. What the functions of Machine/Ops.lean can touch: one lemma per function, its mask after `sub`.
-/

namespace Sys2Proof.Machine

theorem State.pulseWith_touch {MM : Nat} {so : State} {s : Sys2Proof.Machine.State} {g : ℕ} {merged : Sys2Proof.Machine.State → Sys2Proof.Machine.State}
    (hmm : Machine.sub 0x200 MM = true) (hf2 : ∀ tt, Agree MM so tt → Agree MM so (merged tt)) (hag : Agree MM so s) :
    Agree MM so (@State.pulseWith s g merged) := by
  unfold State.pulseWith
  split
  · exact hag
  · refine Agree.ite ?_ ?_
    · exact hag
    · refine Agree.ite ?_ ?_
      · refine hf2 _ ?_
        exact hag
      · refine Agree.set_router ?_ (sub_bit hmm (by decide)) _
        exact hag

theorem State.genMerged_touch {MM : Nat} {so : State} {s : Sys2Proof.Machine.State}
    (hmm : Machine.sub 0x10000000000000000100000000000000000 MM = true) (hag : Agree MM so s) :
    Agree MM so (@State.genMerged s) := by
  unfold State.genMerged
  refine Agree.fsetBit ?_ (sub_bit hmm (by decide)) _ _ _
  refine Agree.fsetB ?_ (sub_bit hmm (by decide)) _ _
  exact hag

theorem State.irqWake_touch {MM : Nat} {so : State} {s : Sys2Proof.Machine.State}
    (hmm : Machine.sub 0x200 MM = true) (hag : Agree MM so s) :
    Agree MM so (@State.irqWake s) := by
  unfold State.irqWake
  extract_lets +onlyGivenNames -merge -useContext -underBinder x0
  try clear_value x0
  refine Agree.ite ?_ ?_
  · exact hag
  · refine Agree.set_router ?_ (sub_bit hmm (by decide)) _
    exact hag

theorem State.genMergedTaps_touch {MM : Nat} {so : State} {s : Sys2Proof.Machine.State}
    (hmm : Machine.sub 0x10000000000000000100000000000000200 MM = true) (hag : Agree MM so s) :
    Agree MM so (@State.genMergedTaps s) := by
  unfold State.genMergedTaps
  extract_lets +onlyGivenNames -merge -useContext -underBinder x1
  have h2 : Agree MM so x1 := by
    subst x1
    refine State.genMerged_touch (sub_trans (by decide) hmm) ?_
    exact hag
  try clear_value x1
  refine Agree.ite ?_ ?_
  · refine Agree.forEach ?_ (fun y3 t4 h5 => ?_) _
    · refine State.irqWake_touch (sub_trans (by decide) hmm) ?_
      exact h2
    · refine State.pulseWith_touch (sub_trans (by decide) hmm) (fun t6 h7 => ?_) ?_
      · refine State.genMerged_touch (sub_trans (by decide) hmm) ?_
        exact h7
      · exact h5
  · exact h2

theorem State.pulse_touch {MM : Nat} {so : State} {s : Sys2Proof.Machine.State} {g : ℕ}
    (hmm : Machine.sub 0x10000000000000000100000000000000200 MM = true) (hag : Agree MM so s) :
    Agree MM so (@State.pulse s g) := by
  unfold State.pulse
  refine State.pulseWith_touch (sub_trans (by decide) hmm) (fun t8 h9 => ?_) ?_
  · refine State.genMergedTaps_touch (sub_trans (by decide) hmm) ?_
    exact h9
  · exact hag

theorem State.tapRise_touch {MM : Nat} {so : State} {s : Sys2Proof.Machine.State} {p : ℕ}
    (hmm : Machine.sub 0x10000000000000000100000000000000200 MM = true) (hag : Agree MM so s) :
    Agree MM so (@State.tapRise s p) := by
  unfold State.tapRise
  refine Agree.forEach ?_ (fun y10 t11 h12 => ?_) _
  · exact hag
  · refine State.pulse_touch (sub_trans (by decide) hmm) ?_
    exact h12

theorem State.withTaps_touch {MM : Nat} {so : State} {s : Sys2Proof.Machine.State} {s' : Sys2Proof.Machine.State} {p : ℕ}
    (hmm : Machine.sub 0x10000000000000000100000000000000200 MM = true) (hag : Agree MM so s') :
    Agree MM so (@State.withTaps s s' p) := by
  unfold State.withTaps
  refine Agree.ite ?_ ?_
  · refine State.tapRise_touch (sub_trans (by decide) hmm) ?_
    refine State.irqWake_touch (sub_trans (by decide) hmm) ?_
    exact hag
  · exact hag

theorem State.irq_touch {MM : Nat} {so : State} {s : Sys2Proof.Machine.State} {p : ℕ} {b : ℕ}
    (hmm : Machine.sub 0x10000000000000000100000000000000200 MM = true) (hag : Agree MM so s) :
    Agree MM so (@State.irq s p b) := by
  unfold State.irq
  refine State.withTaps_touch (sub_trans (by decide) hmm) ?_
  refine Agree.setReg ?_ (sub_bit hmm (by decide)) _ _
  exact hag

theorem State.setBusy_touch {MM : Nat} {so : State} {s : Sys2Proof.Machine.State} {p : ℕ} {b : Bool}
    (hmm : Machine.sub 0x80000000000000000 MM = true) (hag : Agree MM so s) :
    Agree MM so (@State.setBusy s p b) := by
  unfold State.setBusy
  refine Agree.fsetB ?_ (sub_bit hmm (by decide)) _ _
  exact hag

theorem State.setSlot_touch {MM : Nat} {so : State} {s : Sys2Proof.Machine.State} {n : ℕ} {x : Sys2Proof.Machine.Slot}
    (hmm : Machine.sub 0x400 MM = true) (hag : Agree MM so s) :
    Agree MM so (@State.setSlot s n x) := by
  unfold State.setSlot
  refine Agree.set_basket ?_ (sub_bit hmm (by decide)) _
  exact hag

theorem State.logBusErr_touch {MM : Nat} {so : State} {s : Sys2Proof.Machine.State} {addr : ℕ} {write : Bool} {src : ℕ} {cause : ℕ}
    (hmm : Machine.sub 0x1000000000000001c100000000000000200 MM = true) (hag : Agree MM so s) :
    Agree MM so (@State.logBusErr s addr write src cause) := by
  unfold State.logBusErr
  refine Agree.ite ?_ ?_
  · refine Agree.fsetB ?_ (sub_bit hmm (by decide)) _ _
    exact hag
  · extract_lets +onlyGivenNames -merge -useContext -underBinder x29
    have h30 : Agree MM so x29 := by
      subst x29
      refine Agree.setReg ?_ (sub_bit hmm (by decide)) _ _
      exact hag
    try clear_value x29
    extract_lets +onlyGivenNames -merge -useContext -underBinder x31
    have h32 : Agree MM so x31 := by
      subst x31
      refine Agree.setReg ?_ (sub_bit hmm (by decide)) _ _
      exact h30
    try clear_value x31
    extract_lets +onlyGivenNames -merge -useContext -underBinder x33
    have h34 : Agree MM so x33 := by
      subst x33
      refine Agree.fset ?_ (sub_bit hmm (by decide)) _ _
      exact h32
    try clear_value x33
    extract_lets +onlyGivenNames -merge -useContext -underBinder x35
    have h36 : Agree MM so x35 := by
      subst x35
      refine Agree.fsetB ?_ (sub_bit hmm (by decide)) _ _
      exact h34
    try clear_value x35
    extract_lets +onlyGivenNames -merge -useContext -underBinder x37
    have h38 : Agree MM so x37 := by
      subst x37
      refine Agree.fset ?_ (sub_bit hmm (by decide)) _ _
      exact h36
    try clear_value x37
    refine State.irq_touch (sub_trans (by decide) hmm) ?_
    refine Agree.fsetB ?_ (sub_bit hmm (by decide)) _ _
    exact h38

theorem State.pageErr_touch {MM : Nat} {so : State} {s : Sys2Proof.Machine.State} {p : ℕ} {b : ℕ}
    (hmm : Machine.sub 0x10000000000000000180000000000000200 MM = true) (hag : Agree MM so s) :
    Agree MM so (@State.pageErr s p b) := by
  unfold State.pageErr
  refine Agree.ite ?_ ?_
  · exact hag
  · refine State.irq_touch (sub_trans (by decide) hmm) ?_
    refine Agree.setReg ?_ (sub_bit hmm (by decide)) _ _
    exact hag

theorem State.checkBegin_touch {MM : Nat} {so : State} {s : Sys2Proof.Machine.State} {p : ℕ} {n : ℕ}
    (hmm : Machine.sub 0x4000000000 MM = true) (hag : Agree MM so s) :
    Agree MM so (@State.checkBegin s p n) := by
  unfold State.checkBegin
  refine Agree.set_checks ?_ (sub_bit hmm (by decide)) _
  exact hag

theorem State.laterLost_touch {MM : Nat} {so : State} {s : Sys2Proof.Machine.State} {d : Sys2Proof.Machine.Domain}
    (hmm : Machine.sub 0x400 MM = true) (hag : Agree MM so s) :
    Agree MM so (@State.laterLost s d) := by
  unfold State.laterLost
  refine Agree.set_basket ?_ (sub_bit hmm (by decide)) _
  exact hag

theorem State.stagedLost_touch {MM : Nat} {so : State} {s : Sys2Proof.Machine.State} {d : Sys2Proof.Machine.Domain}
    (hmm : Machine.sub 0x400 MM = true) (hag : Agree MM so s) :
    Agree MM so (@State.stagedLost s d) := by
  unfold State.stagedLost
  extract_lets +onlyGivenNames -merge -useContext -underBinder x397
  try clear_value x397
  refine State.laterLost_touch (sub_trans (by decide) hmm) ?_
  refine Agree.set_basket ?_ (sub_bit hmm (by decide)) _
  exact hag

theorem State.clearDomainRegs_touch {MM : Nat} {so : State} {s : Sys2Proof.Machine.State} {d : Sys2Proof.Machine.Domain}
    (hmm : Machine.sub 0xfffffffffffffffffffffffffffffffffffffffffffffffffffffffffffffffffffffffffffffffffffffffffffffffffffffffffffffff0000000000000000 MM = true) (hag : Agree MM so s) :
    Agree MM so (@State.clearDomainRegs s d) := by
  exact Agree.filterRegs hag hmm _

theorem State.putBytes_touch {MM : Nat} {so : State} {s : Sys2Proof.Machine.State} {a : ℕ} {bs : List Sys2Proof.Byte}
    (hmm : Machine.sub 0x4 MM = true) (hag : Agree MM so s) :
    Agree MM so (@State.putBytes s a bs) := by
  exact Agree.putMem hag (sub_bit hmm (by decide)) _ _

theorem State.clearPage_touch {MM : Nat} {so : State} {s : Sys2Proof.Machine.State} {p : ℕ}
    (hmm : Machine.sub 0xfffffffffffffffffffffffffffffffffffffffffffffffffffffffffffffffffffffffffffffffffffffffffffffffffffffffffffffff0000000000000000 MM = true) (hag : Agree MM so s) :
    Agree MM so (@State.clearPage s p) := by
  exact Agree.filterRegs hag hmm _

theorem State.checksAge_touch {MM : Nat} {so : State} {s : Sys2Proof.Machine.State} {n : ℕ}
    (hmm : Machine.sub 0x4000000000 MM = true) (hag : Agree MM so s) :
    Agree MM so (@State.checksAge s n) := by
  unfold State.checksAge
  refine Agree.set_checks ?_ (sub_bit hmm (by decide)) _
  exact hag

theorem State.checksEnd_touch {MM : Nat} {so : State} {s : Sys2Proof.Machine.State} {p : ℕ}
    (hmm : Machine.sub 0x4000000000 MM = true) (hag : Agree MM so s) :
    Agree MM so (@State.checksEnd s p) := by
  unfold State.checksEnd
  refine Agree.set_checks ?_ (sub_bit hmm (by decide)) _
  exact hag

theorem State.clocked_touch {MM : Nat} {so : State} {s : Sys2Proof.Machine.State} {p : ℕ} {f : Sys2Proof.Machine.State → Sys2Proof.Machine.State}
    (hmm : Machine.sub 0x0 MM = true) (hf2 : ∀ tt, Agree MM so tt → Agree MM so (f tt)) (hag : Agree MM so s) :
    Agree MM so (@State.clocked s p f) := by
  unfold State.clocked
  refine Agree.ite ?_ ?_
  · refine hf2 _ ?_
    exact hag
  · exact hag

theorem State.putVal_touch {MM : Nat} {so : State} {s : Sys2Proof.Machine.State} {a : ℕ} {n : ℕ} {x : ℕ}
    (hmm : Machine.sub 0x4 MM = true) (hag : Agree MM so s) :
    Agree MM so (@State.putVal s a n x) := by
  unfold State.putVal
  refine State.putBytes_touch (sub_trans (by decide) hmm) ?_
  exact hag

theorem State.irqMask_touch {MM : Nat} {so : State} {s : Sys2Proof.Machine.State} {p : ℕ} {m : Sys2Proof.Word}
    (hmm : Machine.sub 0x10000000000000000100000000000000200 MM = true) (hag : Agree MM so s) :
    Agree MM so (@State.irqMask s p m) := by
  unfold State.irqMask
  refine State.withTaps_touch (sub_trans (by decide) hmm) ?_
  refine Agree.setReg ?_ (sub_bit hmm (by decide)) _ _
  exact hag

end Sys2Proof.Machine
end

