-- ==== Sys2Proof/Laws/Touch/Angle.lean ====
section
/-!
SUPPORT. What the functions of Machine/Angle.lean can touch: one lemma per function, its mask after `sub`.
-/

namespace Sys2Proof.Machine

theorem State.tachThaw_touch {MM : Nat} {so : State} {s : Sys2Proof.Machine.State}
    (hmm : Machine.sub 0x200000000000000000000000000000000000000000000002000 MM = true) (hag : Agree MM so s) :
    Agree MM so (@State.tachThaw s) := by
  unfold State.tachThaw
  extract_lets +onlyGivenNames -merge -useContext -underBinder x43
  have h44 : Agree MM so x43 := by
    subst x43
    refine Agree.set_tach ?_ (sub_bit hmm (by decide)) _
    exact hag
  try clear_value x43
  refine Agree.forEach ?_ (fun y45 t46 h47 => ?_) _
  · exact h44
  · refine Agree.fsetBit ?_ (sub_bit hmm (by decide)) _ _ _
    exact h47

theorem State.softSeamRequest_touch {MM : Nat} {so : State} {s : Sys2Proof.Machine.State}
    (hmm : Machine.sub 0x180000000010000000000000000100000000000008200 MM = true) (hag : Agree MM so s) :
    Agree MM so (@State.softSeamRequest s) := by
  unfold State.softSeamRequest
  refine Agree.ite ?_ ?_
  · refine State.irq_touch (sub_trans (by decide) hmm) ?_
    refine Agree.fsetB ?_ (sub_bit hmm (by decide)) _ _
    exact hag
  · extract_lets +onlyGivenNames -merge -useContext -underBinder x335
    have h336 : Agree MM so x335 := by
      subst x335
      refine Agree.fsetB ?_ (sub_bit hmm (by decide)) _ _
      exact hag
    try clear_value x335
    refine Agree.set_epoch ?_ (sub_bit hmm (by decide)) _
    exact h336

theorem State.setEng_touch {MM : Nat} {so : State} {s : Sys2Proof.Machine.State} {n : ℕ} {e : Sys2Proof.Machine.Engine}
    (hmm : Machine.sub 0x4000 MM = true) (hag : Agree MM so s) :
    Agree MM so (@State.setEng s n e) := by
  unfold State.setEng
  refine Agree.set_engines ?_ (sub_bit hmm (by decide)) _
  exact hag

theorem State.angFault_touch {MM : Nat} {so : State} {s : Sys2Proof.Machine.State} {n : ℕ} {f : Sys2Proof.Machine.Fld}
    (hmm : Machine.sub 0x10000000000000000100000000000000200 MM = true) (hp2 : MM.testBit (64 + f.reg.ctorIdx) = true) (hag : Agree MM so s) :
    Agree MM so (@State.angFault s n f) := by
  unfold State.angFault
  refine State.irq_touch (sub_trans (by decide) hmm) ?_
  refine Agree.fsetB ?_ hp2 _ _
  exact hag

theorem State.angBusy_touch {MM : Nat} {so : State} {s : Sys2Proof.Machine.State} {p : ℕ}
    (hmm : Machine.sub 0x80000000000000000 MM = true) (hag : Agree MM so s) :
    Agree MM so (@State.angBusy s p) := by
  unfold State.angBusy
  refine State.setBusy_touch (sub_trans (by decide) hmm) ?_
  exact hag

theorem State.angEnter_touch {MM : Nat} {so : State} {s : Sys2Proof.Machine.State} {n : ℕ} {c : Sys2Proof.Machine.AngSet} {a : ℕ} {b : ℕ}
    (hmm : Machine.sub 0x2000000000010000000000000000100000000000004200 MM = true) (hag : Agree MM so s) :
    Agree MM so (@State.angEnter s n c a b) := by
  unfold State.angEnter
  extract_lets +onlyGivenNames -merge -useContext -underBinder x1518
  try clear_value x1518
  refine Agree.ite ?_ ?_
  · refine State.setEng_touch (sub_trans (by decide) hmm) ?_
    exact hag
  · extract_lets +onlyGivenNames -merge -useContext -underBinder x1519
    have h1520 : Agree MM so x1519 := by
      subst x1519
      refine Agree.fset ?_ (sub_bit hmm (by decide)) _ _
      exact hag
    try clear_value x1519
    extract_lets +onlyGivenNames -merge -useContext -underBinder x1521
    have h1522 : Agree MM so x1521 := by
      subst x1521
      refine Agree.ite ?_ ?_
      · refine State.angFault_touch (sub_trans (by decide) hmm) (sub_bit hmm (by decide)) ?_
        refine Agree.fsetB ?_ (sub_bit hmm (by decide)) _ _
        exact h1520
      · exact h1520
    try clear_value x1521
    extract_lets +onlyGivenNames -merge -useContext -underBinder x1523
    try clear_value x1523
    extract_lets +onlyGivenNames -merge -useContext -underBinder x1524
    try clear_value x1524
    extract_lets +onlyGivenNames -merge -useContext -underBinder x1525
    try clear_value x1525
    extract_lets +onlyGivenNames -merge -useContext -underBinder x1526
    try clear_value x1526
    extract_lets +onlyGivenNames -merge -useContext -underBinder x1527
    try clear_value x1527
    extract_lets +onlyGivenNames -merge -useContext -underBinder x1528
    have h1529 : Agree MM so x1528 := by
      subst x1528
      refine Agree.fsetB ?_ (sub_bit hmm (by decide)) _ _
      exact h1522
    try clear_value x1528
    extract_lets +onlyGivenNames -merge -useContext -underBinder x1530
    have h1531 : Agree MM so x1530 := by
      subst x1530
      refine Agree.ite ?_ ?_
      · refine Agree.fsetB ?_ (sub_bit hmm (by decide)) _ _
        exact h1529
      · exact h1529
    try clear_value x1530
    extract_lets +onlyGivenNames -merge -useContext -underBinder x1532
    have h1533 : Agree MM so x1532 := by
      subst x1532
      refine Agree.ite ?_ ?_
      · refine Agree.fsetB ?_ (sub_bit hmm (by decide)) _ _
        exact h1522
      · exact h1522
    try clear_value x1532
    extract_lets +onlyGivenNames -merge -useContext -underBinder x1534
    have h1535 : Agree MM so x1534 := by
      subst x1534
      refine Agree.ite ?_ ?_
      · refine Agree.fsetB ?_ (sub_bit hmm (by decide)) _ _
        exact h1522
      · exact h1522
    try clear_value x1534
    extract_lets +onlyGivenNames -merge -useContext -underBinder x1536
    have h1537 : Agree MM so x1536 := by
      subst x1536
      refine Agree.ite ?_ ?_
      · refine State.setEng_touch (sub_trans (by decide) hmm) ?_
        exact h1531
      · refine Agree.ite ?_ ?_
        · refine Agree.ite ?_ ?_
          · refine State.setEng_touch (sub_trans (by decide) hmm) ?_
            exact h1533
          · refine State.setEng_touch (sub_trans (by decide) hmm) ?_
            exact h1522
        · refine Agree.ite ?_ ?_
          · refine State.setEng_touch (sub_trans (by decide) hmm) ?_
            exact h1535
          · refine Agree.ite ?_ ?_
            · refine State.setEng_touch (sub_trans (by decide) hmm) ?_
              exact h1522
            · refine State.setEng_touch (sub_trans (by decide) hmm) ?_
              exact h1522
    try clear_value x1536
    extract_lets +onlyGivenNames -merge -useContext -underBinder x1538
    try clear_value x1538
    extract_lets +onlyGivenNames -merge -useContext -underBinder x1539
    have h1540 : Agree MM so x1539 := by
      subst x1539
      refine State.setEng_touch (sub_trans (by decide) hmm) ?_
      exact h1537
    try clear_value x1539
    refine State.irq_touch (sub_trans (by decide) hmm) ?_
    exact h1540

theorem State.angLoad_touch {MM : Nat} {so : State} {s : Sys2Proof.Machine.State} {n : ℕ} {state : ℕ}
    (hmm : Machine.sub 0x2200000000010000000000000000100000000000004200 MM = true) (hag : Agree MM so s) :
    Agree MM so (@State.angLoad s n state) := by
  unfold State.angLoad
  refine Agree.ite ?_ ?_
  · exact hag
  · extract_lets +onlyGivenNames -merge -useContext -underBinder x1541
    have h1542 : Agree MM so x1541 := by
      subst x1541
      refine Agree.fsetB ?_ (sub_bit hmm (by decide)) _ _
      exact hag
    try clear_value x1541
    refine Agree.ite ?_ ?_
    · refine State.angFault_touch (sub_trans (by decide) hmm) (sub_bit hmm (by decide)) ?_
      exact h1542
    · extract_lets +onlyGivenNames -merge -useContext -underBinder x1543
      try clear_value x1543
      extract_lets +onlyGivenNames -merge -useContext -underBinder x1544
      try clear_value x1544
      refine State.setEng_touch (sub_trans (by decide) hmm) ?_
      exact h1542

theorem State.publishAngle_touch {MM : Nat} {so : State} {s : Sys2Proof.Machine.State} {n : ℕ} {e : Sys2Proof.Machine.Engine} {state : ℕ} {num : ℕ}
    (hmm : Machine.sub 0xfc000000000000000000000000000000000000000000000 MM = true) (hag : Agree MM so s) :
    Agree MM so (@State.publishAngle s n e state num) := by
  unfold State.publishAngle
  extract_lets +onlyGivenNames -merge -useContext -underBinder x1545
  try clear_value x1545
  extract_lets +onlyGivenNames -merge -useContext -underBinder x1546
  have h1547 : Agree MM so x1546 := by
    subst x1546
    refine Agree.set64 ?_ (sub_bit hmm (by decide)) (sub_bit hmm (by decide)) _ _
    exact hag
  try clear_value x1546
  extract_lets +onlyGivenNames -merge -useContext -underBinder x1548
  have h1549 : Agree MM so x1548 := by
    subst x1548
    refine Agree.setReg ?_ (sub_bit hmm (by decide)) _ _
    exact h1547
  try clear_value x1548
  extract_lets +onlyGivenNames -merge -useContext -underBinder x1550
  try clear_value x1550
  extract_lets +onlyGivenNames -merge -useContext -underBinder x1551
  have h1552 : Agree MM so x1551 := by
    subst x1551
    refine Agree.setReg ?_ (sub_bit hmm (by decide)) _ _
    exact h1549
  try clear_value x1551
  refine Agree.set64 ?_ (sub_bit hmm (by decide)) (sub_bit hmm (by decide)) _ _
  exact h1552

theorem State.toothSwap_touch {MM : Nat} {so : State} {s : Sys2Proof.Machine.State} {n : ℕ}
    (hmm : Machine.sub 0x1002000000000010000000000000000100000000000004200 MM = true) (hag : Agree MM so s) :
    Agree MM so (@State.toothSwap s n) := by
  unfold State.toothSwap
  refine Agree.ite ?_ ?_
  · exact hag
  · refine Agree.ite ?_ ?_
    · refine Agree.faddSat ?_ (sub_bit hmm (by decide)) _ _
      exact hag
    · extract_lets +onlyGivenNames -merge -useContext -underBinder x1553
      try clear_value x1553
      extract_lets +onlyGivenNames -merge -useContext -underBinder x1554
      have h1555 : Agree MM so x1554 := by
        subst x1554
        refine Agree.fset ?_ (sub_bit hmm (by decide)) _ _
        exact hag
      try clear_value x1554
      extract_lets +onlyGivenNames -merge -useContext -underBinder x1556
      have h1557 : Agree MM so x1556 := by
        subst x1556
        refine Agree.fsetB ?_ (sub_bit hmm (by decide)) _ _
        exact h1555
      try clear_value x1556
      extract_lets +onlyGivenNames -merge -useContext -underBinder x1558
      have h1559 : Agree MM so x1558 := by
        subst x1558
        refine State.setEng_touch (sub_trans (by decide) hmm) ?_
        exact h1557
      try clear_value x1558
      refine Agree.ite ?_ ?_
      · refine State.irq_touch (sub_trans (by decide) hmm) ?_
        exact h1559
      · exact h1559

theorem State.raiseSeam_touch {MM : Nat} {so : State} {s : Sys2Proof.Machine.State} {g : ℕ} {number : ℕ} {num : ℕ}
    (hmm : Machine.sub 0x78000000010000000000000000100000000000001200 MM = true) (hag : Agree MM so s) :
    Agree MM so (@State.raiseSeam s g number num) := by
  unfold State.raiseSeam
  refine Agree.ite ?_ ?_
  · exact hag
  · extract_lets +onlyGivenNames -merge -useContext -underBinder x1560
    have h1561 : Agree MM so x1560 := by
      subst x1560
      refine Agree.set64 ?_ (sub_bit hmm (by decide)) (sub_bit hmm (by decide)) _ _
      exact hag
    try clear_value x1560
    extract_lets +onlyGivenNames -merge -useContext -underBinder x1562
    have h1563 : Agree MM so x1562 := by
      subst x1562
      refine Agree.set64 ?_ (sub_bit hmm (by decide)) (sub_bit hmm (by decide)) _ _
      exact h1561
    try clear_value x1562
    extract_lets +onlyGivenNames -merge -useContext -underBinder x1564
    have h1565 : Agree MM so x1564 := by
      subst x1564
      refine Agree.set_seams ?_ (sub_bit hmm (by decide)) _
      exact h1563
    try clear_value x1564
    refine Agree.ite ?_ ?_
    · refine State.pulse_touch (sub_trans (by decide) hmm) ?_
      exact h1565
    · exact h1565

theorem State.cmpFire_touch {MM : Nat} {so : State} {s : Sys2Proof.Machine.State} {n : ℕ} {k : ℕ} {several : Bool}
    (hmm : Machine.sub 0x2002000000000010000000000000000100000000000000200 MM = true) (hag : Agree MM so s) :
    Agree MM so (@State.cmpFire s n k several) := by
  unfold State.cmpFire
  extract_lets +onlyGivenNames -merge -useContext -underBinder x1566
  try clear_value x1566
  extract_lets +onlyGivenNames -merge -useContext -underBinder x1567
  have h1568 : Agree MM so x1567 := by
    subst x1567
    refine Agree.fsetB ?_ (sub_bit hmm (by decide)) _ _
    exact hag
  try clear_value x1567
  extract_lets +onlyGivenNames -merge -useContext -underBinder x1569
  have h1570 : Agree MM so x1569 := by
    subst x1569
    refine Agree.ite ?_ ?_
    · refine State.angFault_touch (sub_trans (by decide) hmm) (sub_bit hmm (by decide)) ?_
      refine Agree.fsetB ?_ (sub_bit hmm (by decide)) _ _
      exact h1568
    · exact h1568
  try clear_value x1569
  refine State.pulse_touch (sub_trans (by decide) hmm) ?_
  refine State.irq_touch (sub_trans (by decide) hmm) ?_
  exact h1570

theorem State.cmpEval_touch {MM : Nat} {so : State} {s : Sys2Proof.Machine.State} {n : ℕ} {k : ℕ} {prev : ℤ} {a : ℤ}
    (hmm : Machine.sub 0xe002000000000010000000000000000100000000000000200 MM = true) (hag : Agree MM so s) :
    Agree MM so (@State.cmpEval s n k prev a) := by
  unfold State.cmpEval
  extract_lets +onlyGivenNames -merge -useContext -underBinder x1571
  try clear_value x1571
  extract_lets +onlyGivenNames -merge -useContext -underBinder x1572
  try clear_value x1572
  extract_lets +onlyGivenNames -merge -useContext -underBinder x1573
  try clear_value x1573
  extract_lets +onlyGivenNames -merge -useContext -underBinder x1574
  try clear_value x1574
  refine Agree.ite ?_ ?_
  · refine Agree.ite ?_ ?_
    · refine Agree.fset ?_ (sub_bit hmm (by decide)) _ _
      refine State.cmpFire_touch (sub_trans (by decide) hmm) ?_
      exact hag
    · exact hag
  · refine Agree.ite ?_ ?_
    · extract_lets +onlyGivenNames -merge -useContext -underBinder x1575
      try clear_value x1575
      extract_lets +onlyGivenNames -merge -useContext -underBinder x1576
      try clear_value x1576
      refine Agree.ite ?_ ?_
      · refine State.cmpFire_touch (sub_trans (by decide) hmm) ?_
        exact hag
      · exact hag
    · refine Agree.ite ?_ ?_
      · extract_lets +onlyGivenNames -merge -useContext -underBinder x1577
        try clear_value x1577
        refine Agree.ite ?_ ?_
        · extract_lets +onlyGivenNames -merge -useContext -underBinder x1578
          try clear_value x1578
          extract_lets +onlyGivenNames -merge -useContext -underBinder x1579
          have h1580 : Agree MM so x1579 := by
            subst x1579
            refine Agree.set64 ?_ (sub_bit hmm (by decide)) (sub_bit hmm (by decide)) _ _
            exact hag
          try clear_value x1579
          refine State.cmpFire_touch (sub_trans (by decide) hmm) ?_
          exact h1580
        · exact hag
      · exact hag

theorem State.angStep_touch {MM : Nat} {so : State} {s : Sys2Proof.Machine.State} {t : ℕ} {num : ℕ} {n : ℕ} {edges : List (ℕ × ℕ)}
    (hmm : Machine.sub 0xf0fe278000000010000000000000000180000000000005200 MM = true) (hag : Agree MM so s) :
    Agree MM so (@State.angStep s t num n edges) := by
  unfold State.angStep
  extract_lets +onlyGivenNames -merge -useContext -underBinder x1581
  try clear_value x1581
  extract_lets +onlyGivenNames -merge -useContext -underBinder x1582
  try clear_value x1582
  refine Agree.ite ?_ ?_
  · refine State.publishAngle_touch (sub_trans (by decide) hmm) ?_
    exact hag
  · extract_lets +onlyGivenNames -merge -useContext -underBinder x1583
    try clear_value x1583
    extract_lets +onlyGivenNames -merge -useContext -underBinder x1584
    try clear_value x1584
    extract_lets +onlyGivenNames -merge -useContext -underBinder x1585
    try clear_value x1585
    extract_lets +onlyGivenNames -merge -useContext -underBinder x1586
    try clear_value x1586
    split
    · extract_lets +onlyGivenNames -merge -useContext -underBinder x1587
      try clear_value x1587
      extract_lets +onlyGivenNames -merge -useContext -underBinder x1588
      try clear_value x1588
      extract_lets +onlyGivenNames -merge -useContext -underBinder x1589
      have h1590 : Agree MM so x1589 := by
        subst x1589
        refine State.setEng_touch (sub_trans (by decide) hmm) ?_
        exact hag
      try clear_value x1589
      extract_lets +onlyGivenNames -merge -useContext -underBinder x1591
      have h1592 : Agree MM so x1591 := by
        subst x1591
        refine Agree.ite ?_ ?_
        · refine Agree.fsetB ?_ (sub_bit hmm (by decide)) _ _
          exact h1590
        · exact h1590
      try clear_value x1591
      extract_lets +onlyGivenNames -merge -useContext -underBinder x1593
      have h1594 : Agree MM so x1593 := by
        subst x1593
        refine Agree.ite ?_ ?_
        · refine State.angFault_touch (sub_trans (by decide) hmm) (sub_bit hmm (by decide)) ?_
          exact h1592
        · exact h1592
      try clear_value x1593
      extract_lets +onlyGivenNames -merge -useContext -underBinder x1595
      have h1596 : Agree MM so x1595 := by
        subst x1595
        refine Agree.ite ?_ ?_
        · refine Agree.fsetB ?_ (sub_bit hmm (by decide)) _ _
          exact h1594
        · exact h1594
      try clear_value x1595
      extract_lets +onlyGivenNames -merge -useContext -underBinder x1597
      have h1598 : Agree MM so x1597 := by
        subst x1597
        refine State.publishAngle_touch (sub_trans (by decide) hmm) ?_
        exact h1596
      try clear_value x1597
      extract_lets +onlyGivenNames -merge -useContext -underBinder x1599
      try clear_value x1599
      extract_lets +onlyGivenNames -merge -useContext -underBinder x1600
      try clear_value x1600
      extract_lets +onlyGivenNames -merge -useContext -underBinder x1601
      have h1602 : Agree MM so x1601 := by
        subst x1601
        refine State.setEng_touch (sub_trans (by decide) hmm) ?_
        exact h1598
      try clear_value x1601
      extract_lets +onlyGivenNames -merge -useContext -underBinder x1603
      have h1604 : Agree MM so x1603 := by
        subst x1603
        refine Agree.ite ?_ ?_
        · refine State.toothSwap_touch (sub_trans (by decide) hmm) ?_
          refine State.raiseSeam_touch (sub_trans (by decide) hmm) ?_
          exact h1602
        · exact h1598
      try clear_value x1603
      extract_lets +onlyGivenNames -merge -useContext -underBinder x1605
      have h1606 : Agree MM so x1605 := by
        subst x1605
        refine Agree.ite ?_ ?_
        · refine Agree.forEach ?_ (fun y1607 t1608 h1609 => ?_) _
          · exact h1604
          · refine State.cmpEval_touch (sub_trans (by decide) hmm) ?_
            exact h1609
        · exact h1604
      try clear_value x1605
      extract_lets +onlyGivenNames -merge -useContext -underBinder x1610
      try clear_value x1610
      extract_lets +onlyGivenNames -merge -useContext -underBinder x1611
      try clear_value x1611
      extract_lets +onlyGivenNames -merge -useContext -underBinder x1612
      try clear_value x1612
      refine State.angBusy_touch (sub_trans (by decide) hmm) ?_
      refine State.angEnter_touch (sub_trans (by decide) hmm) ?_
      refine State.angLoad_touch (sub_trans (by decide) hmm) ?_
      exact h1606

theorem State.countSeam_touch {MM : Nat} {so : State} {s : Sys2Proof.Machine.State} {g : ℕ} {k : ℕ} {num : ℕ}
    (hmm : Machine.sub 0x78000000010000000000000000100000000000009200 MM = true) (hag : Agree MM so s) :
    Agree MM so (@State.countSeam s g k num) := by
  unfold State.countSeam
  refine Agree.ite ?_ ?_
  · exact hag
  · extract_lets +onlyGivenNames -merge -useContext -underBinder x1977
    try clear_value x1977
    refine State.raiseSeam_touch (sub_trans (by decide) hmm) ?_
    refine Agree.set_epoch ?_ (sub_bit hmm (by decide)) _
    exact hag

theorem State.tachAccept_touch {MM : Nat} {so : State} {s : Sys2Proof.Machine.State} {n : ℕ} {t : ℕ} {level : Bool}
    (hmm : Machine.sub 0x7c000000000000001000000000000000010000000000000a200 MM = true) (hag : Agree MM so s) :
    Agree MM so (@State.tachAccept s n t level) := by
  unfold State.tachAccept
  extract_lets +onlyGivenNames -merge -useContext -underBinder x3281
  try clear_value x3281
  refine Agree.ite ?_ ?_
  · exact hag
  · extract_lets +onlyGivenNames -merge -useContext -underBinder x3282
    have h3283 : Agree MM so x3282 := by
      subst x3282
      refine Agree.fsetBit ?_ (sub_bit hmm (by decide)) _ _ _
      exact hag
    try clear_value x3282
    extract_lets +onlyGivenNames -merge -useContext -underBinder x3284
    try clear_value x3284
    refine Agree.ite ?_ ?_
    · exact h3283
    · extract_lets +onlyGivenNames -merge -useContext -underBinder x3285
      try clear_value x3285
      extract_lets +onlyGivenNames -merge -useContext -underBinder x3286
      try clear_value x3286
      refine Agree.ite ?_ ?_
      · refine State.irq_touch (sub_trans (by decide) hmm) ?_
        refine Agree.fsetBit ?_ (sub_bit hmm (by decide)) _ _ _
        exact h3283
      · split
        · extract_lets +onlyGivenNames -merge -useContext -underBinder x3287
          have h3288 : Agree MM so x3287 := by
            subst x3287
            refine Agree.set_tach ?_ (sub_bit hmm (by decide)) _
            exact h3283
          try clear_value x3287
          extract_lets +onlyGivenNames -merge -useContext -underBinder x3289
          have h3290 : Agree MM so x3289 := by
            subst x3289
            refine Agree.set64 ?_ (sub_bit hmm (by decide)) (sub_bit hmm (by decide)) _ _
            exact h3288
          try clear_value x3289
          extract_lets +onlyGivenNames -merge -useContext -underBinder x3291
          have h3292 : Agree MM so x3291 := by
            subst x3291
            refine Agree.fadd ?_ (sub_bit hmm (by decide)) _ _
            exact h3290
          try clear_value x3291
          extract_lets +onlyGivenNames -merge -useContext -underBinder x3293
          try clear_value x3293
          extract_lets +onlyGivenNames -merge -useContext -underBinder x3294
          have h3295 : Agree MM so x3294 := by
            subst x3294
            refine Agree.ite ?_ ?_
            · exact h3292
            · refine Agree.set_epoch ?_ (sub_bit hmm (by decide)) _
              exact h3292
          try clear_value x3294
          refine State.pulse_touch (sub_trans (by decide) hmm) ?_
          exact h3295

end Sys2Proof.Machine
end

