-- ==== Sys2Proof/Laws/Touch/Ain.lean ====
section
/-!
SUPPORT. What the functions of Machine/Ain.lean can touch: one lemma per function, its mask after `sub`.
-/

namespace Sys2Proof.Machine

theorem State.setAlign_touch {MM : Nat} {so : State} {s : Sys2Proof.Machine.State} {x : ℕ}
    (hmm : Machine.sub 0x100000000000000000010000000000000000100000000000000200 MM = true) (hag : Agree MM so s) :
    Agree MM so (@State.setAlign s x) := by
  unfold State.setAlign
  refine Agree.ite ?_ ?_
  · exact hag
  · refine State.irq_touch (sub_trans (by decide) hmm) ?_
    refine Agree.fset ?_ (sub_bit hmm (by decide)) _ _
    exact hag

theorem State.placeOnGrid_touch {MM : Nat} {so : State} {s : Sys2Proof.Machine.State} {above : ℤ}
    (hmm : Machine.sub 0x100000000000000000010000000000000000100000000000008200 MM = true) (hag : Agree MM so s) :
    Agree MM so (@State.placeOnGrid s above) := by
  unfold State.placeOnGrid
  extract_lets +onlyGivenNames -merge -useContext -underBinder x175
  try clear_value x175
  extract_lets +onlyGivenNames -merge -useContext -underBinder x176
  try clear_value x176
  extract_lets +onlyGivenNames -merge -useContext -underBinder x177
  try clear_value x177
  extract_lets +onlyGivenNames -merge -useContext -underBinder x178
  try clear_value x178
  extract_lets +onlyGivenNames -merge -useContext -underBinder x179
  try clear_value x179
  extract_lets +onlyGivenNames -merge -useContext -underBinder x180
  have h181 : Agree MM so x180 := by
    subst x180
    refine Agree.set_epoch ?_ (sub_bit hmm (by decide)) _
    exact hag
  try clear_value x180
  refine State.setAlign_touch (sub_trans (by decide) hmm) ?_
  exact h181

theorem State.startTimer_touch {MM : Nat} {so : State} {s : Sys2Proof.Machine.State} {resume : Bool}
    (hmm : Machine.sub 0x100000000000000000010000000000000000100000000000008200 MM = true) (hag : Agree MM so s) :
    Agree MM so (@State.startTimer s resume) := by
  unfold State.startTimer
  extract_lets +onlyGivenNames -merge -useContext -underBinder x182
  try clear_value x182
  extract_lets +onlyGivenNames -merge -useContext -underBinder x183
  try clear_value x183
  extract_lets +onlyGivenNames -merge -useContext -underBinder x184
  try clear_value x184
  extract_lets +onlyGivenNames -merge -useContext -underBinder x185
  try clear_value x185
  extract_lets +onlyGivenNames -merge -useContext -underBinder x186
  have h187 : Agree MM so x186 := by
    subst x186
    refine Agree.set_epoch ?_ (sub_bit hmm (by decide)) _
    exact hag
  try clear_value x186
  refine Agree.ite ?_ ?_
  · extract_lets +onlyGivenNames -merge -useContext -underBinder x188
    have h189 : Agree MM so x188 := by
      subst x188
      refine State.setAlign_touch (sub_trans (by decide) hmm) ?_
      exact h187
    try clear_value x188
    refine Agree.ite ?_ ?_
    · refine State.placeOnGrid_touch (sub_trans (by decide) hmm) ?_
      exact h189
    · exact h189
  · extract_lets +onlyGivenNames -merge -useContext -underBinder x190
    try clear_value x190
    extract_lets +onlyGivenNames -merge -useContext -underBinder x191
    try clear_value x191
    extract_lets +onlyGivenNames -merge -useContext -underBinder x192
    have h193 : Agree MM so x192 := by
      subst x192
      refine Agree.set_epoch ?_ (sub_bit hmm (by decide)) _
      exact h187
    try clear_value x192
    refine State.setAlign_touch (sub_trans (by decide) hmm) ?_
    exact h193

theorem State.idCommit_touch {MM : Nat} {so : State} {s : Sys2Proof.Machine.State} {g : ℕ}
    (hmm : Machine.sub 0x400000000000000000010000000000000000180000000000010200 MM = true) (hag : Agree MM so s) :
    Agree MM so (@State.idCommit s g) := by
  unfold State.idCommit
  refine Agree.ite ?_ ?_
  · refine State.irq_touch (sub_trans (by decide) hmm) ?_
    refine Agree.fsetB ?_ (sub_bit hmm (by decide)) _ _
    exact hag
  · extract_lets +onlyGivenNames -merge -useContext -underBinder x339
    try clear_value x339
    refine State.setBusy_touch (sub_trans (by decide) hmm) ?_
    refine Agree.set_modules ?_ (sub_bit hmm (by decide)) _
    exact hag

theorem State.idbBusy_touch {MM : Nat} {so : State} {s : Sys2Proof.Machine.State}
    (hmm : Machine.sub 0x80000000000000000 MM = true) (hag : Agree MM so s) :
    Agree MM so (@State.idbBusy s) := by
  unfold State.idbBusy
  refine State.setBusy_touch (sub_trans (by decide) hmm) ?_
  exact hag

theorem State.runWritten_touch {MM : Nat} {so : State} {s : Sys2Proof.Machine.State} {old : Bool}
    (hmm : Machine.sub 0x300000000000000000010000000000000000100000000000008200 MM = true) (hag : Agree MM so s) :
    Agree MM so (@State.runWritten s old) := by
  unfold State.runWritten
  extract_lets +onlyGivenNames -merge -useContext -underBinder x905
  try clear_value x905
  refine Agree.ite ?_ ?_
  · extract_lets +onlyGivenNames -merge -useContext -underBinder x906
    have h907 : Agree MM so x906 := by
      subst x906
      refine Agree.setReg ?_ (sub_bit hmm (by decide)) _ _
      exact hag
    try clear_value x906
    refine Agree.ite ?_ ?_
    · refine State.startTimer_touch (sub_trans (by decide) hmm) ?_
      exact h907
    · exact h907
  · refine Agree.ite ?_ ?_
    · extract_lets +onlyGivenNames -merge -useContext -underBinder x908
      try clear_value x908
      extract_lets +onlyGivenNames -merge -useContext -underBinder x909
      have h910 : Agree MM so x909 := by
        subst x909
        refine Agree.ite ?_ ?_
        · exact hag
        · refine Agree.set_epoch ?_ (sub_bit hmm (by decide)) _
          exact hag
      try clear_value x909
      refine State.setAlign_touch (sub_trans (by decide) hmm) ?_
      exact h910
    · exact hag

theorem State.alignModeWritten_touch {MM : Nat} {so : State} {s : Sys2Proof.Machine.State}
    (hmm : Machine.sub 0x100000000000000000010000000000000000100000000000008200 MM = true) (hag : Agree MM so s) :
    Agree MM so (@State.alignModeWritten s) := by
  unfold State.alignModeWritten
  extract_lets +onlyGivenNames -merge -useContext -underBinder x911
  try clear_value x911
  extract_lets +onlyGivenNames -merge -useContext -underBinder x912
  try clear_value x912
  refine Agree.ite ?_ ?_
  · refine State.setAlign_touch (sub_trans (by decide) hmm) ?_
    exact hag
  · refine Agree.ite ?_ ?_
    · refine State.setAlign_touch (sub_trans (by decide) hmm) ?_
      refine Agree.set_epoch ?_ (sub_bit hmm (by decide)) _
      exact hag
    · exact hag

theorem State.grpPowerWritten_touch {MM : Nat} {so : State} {s : Sys2Proof.Machine.State}
    (hmm : Machine.sub 0x2000000000000000000000000000000000000000000000000000000 MM = true) (hag : Agree MM so s) :
    Agree MM so (@State.grpPowerWritten s) := by
  unfold State.grpPowerWritten
  extract_lets +onlyGivenNames -merge -useContext -underBinder x913
  try clear_value x913
  refine Agree.fset ?_ (sub_bit hmm (by decide)) _ _
  exact hag

theorem State.idbGo_touch {MM : Nat} {so : State} {s : Sys2Proof.Machine.State} {b : ℕ} {run : ℕ}
    (hmm : Machine.sub 0x100000000000000000000000000000000000000000000000000000000000000000000000000000000000000000080000000000040000 MM = true) (hag : Agree MM so s) :
    Agree MM so (@State.idbGo s b run) := by
  unfold State.idbGo
  refine State.idbBusy_touch (sub_trans (by decide) hmm) ?_
  refine Agree.fsetB ?_ (sub_bit hmm (by decide)) _ _
  refine Agree.set_idb ?_ (sub_bit hmm (by decide)) _
  exact hag

theorem State.alignUpdate_touch {MM : Nat} {so : State} {s : Sys2Proof.Machine.State}
    (hmm : Machine.sub 0x300000000000000000010000000000000000100000000000008200 MM = true) (hag : Agree MM so s) :
    Agree MM so (@State.alignUpdate s) := by
  unfold State.alignUpdate
  extract_lets +onlyGivenNames -merge -useContext -underBinder x1277
  try clear_value x1277
  extract_lets +onlyGivenNames -merge -useContext -underBinder x1278
  try clear_value x1278
  extract_lets +onlyGivenNames -merge -useContext -underBinder x1279
  try clear_value x1279
  extract_lets +onlyGivenNames -merge -useContext -underBinder x1280
  have h1281 : Agree MM so x1280 := by
    subst x1280
    refine Agree.set_epoch ?_ (sub_bit hmm (by decide)) _
    exact hag
  try clear_value x1280
  refine Agree.ite ?_ ?_
  · refine Agree.ite ?_ ?_
    · refine State.placeOnGrid_touch (sub_trans (by decide) hmm) ?_
      exact h1281
    · exact h1281
  · refine Agree.ite ?_ ?_
    · exact h1281
    · split
      · exact h1281
      · extract_lets +onlyGivenNames -merge -useContext -underBinder x1282
        try clear_value x1282
        extract_lets +onlyGivenNames -merge -useContext -underBinder x1283
        try clear_value x1283
        extract_lets +onlyGivenNames -merge -useContext -underBinder x1284
        try clear_value x1284
        extract_lets +onlyGivenNames -merge -useContext -underBinder x1285
        try clear_value x1285
        extract_lets +onlyGivenNames -merge -useContext -underBinder x1286
        have h1287 : Agree MM so x1286 := by
          subst x1286
          refine Agree.fset ?_ (sub_bit hmm (by decide)) _ _
          exact h1281
        try clear_value x1286
        extract_lets +onlyGivenNames -merge -useContext -underBinder x1288
        have h1289 : Agree MM so x1288 := by
          subst x1288
          refine Agree.ite ?_ ?_
          · split
            · extract_lets +onlyGivenNames -merge -useContext -underBinder x1290
              try clear_value x1290
              refine Agree.ite ?_ ?_
              · exact h1287
              · extract_lets +onlyGivenNames -merge -useContext -underBinder x1291
                try clear_value x1291
                refine Agree.fset ?_ (sub_bit hmm (by decide)) _ _
                exact h1287
            · exact h1287
          · exact h1287
        try clear_value x1288
        refine Agree.ite ?_ ?_
        · exact h1289
        · refine Agree.ite ?_ ?_
          · refine State.setAlign_touch (sub_trans (by decide) hmm) ?_
            refine Agree.set_epoch ?_ (sub_bit hmm (by decide)) _
            exact h1289
          · refine State.setAlign_touch (sub_trans (by decide) hmm) ?_
            refine Agree.set_epoch ?_ (sub_bit hmm (by decide)) _
            exact h1289

theorem State.clearModInfo_touch {MM : Nat} {so : State} {s : Sys2Proof.Machine.State} {g : ℕ}
    (hmm : Machine.sub 0xff00000000000000000000000000000000000000000000000000000000 MM = true) (hag : Agree MM so s) :
    Agree MM so (@State.clearModInfo s g) := by
  unfold State.clearModInfo
  extract_lets +onlyGivenNames -merge -useContext -underBinder x1861
  have h1862 : Agree MM so x1861 := by
    subst x1861
    refine Agree.setReg ?_ (sub_bit hmm (by decide)) _ _
    refine Agree.setReg ?_ (sub_bit hmm (by decide)) _ _
    refine Agree.setReg ?_ (sub_bit hmm (by decide)) _ _
    refine Agree.setReg ?_ (sub_bit hmm (by decide)) _ _
    exact hag
  try clear_value x1861
  refine Agree.forEach ?_ (fun y1863 t1864 h1865 => ?_) _
  · exact h1862
  · extract_lets +onlyGivenNames -merge -useContext -underBinder x1866
    try clear_value x1866
    refine Agree.setReg ?_ (sub_bit hmm (by decide)) _ _
    refine Agree.setReg ?_ (sub_bit hmm (by decide)) _ _
    refine Agree.setReg ?_ (sub_bit hmm (by decide)) _ _
    refine Agree.setReg ?_ (sub_bit hmm (by decide)) _ _
    exact h1865

theorem State.timerReady_touch {MM : Nat} {so : State} {s : Sys2Proof.Machine.State}
    (hmm : Machine.sub 0x100000000000000000010000000000000000100000000000008200 MM = true) (hag : Agree MM so s) :
    Agree MM so (@State.timerReady s) := by
  unfold State.timerReady
  refine Agree.ite ?_ ?_
  · refine State.startTimer_touch (sub_trans (by decide) hmm) ?_
    exact hag
  · exact hag

theorem State.setModState_touch {MM : Nat} {so : State} {s : Sys2Proof.Machine.State} {g : ℕ} {st : ℕ} {reason : ℕ} {format : ℕ}
    (hmm : Machine.sub 0xff30000000000000000000010000000000000000100000000000200200 MM = true) (hag : Agree MM so s) :
    Agree MM so (@State.setModState s g st reason format) := by
  unfold State.setModState
  extract_lets +onlyGivenNames -merge -useContext -underBinder x1917
  try clear_value x1917
  extract_lets +onlyGivenNames -merge -useContext -underBinder x1918
  have h1919 : Agree MM so x1918 := by
    subst x1918
    refine Agree.setReg ?_ (sub_bit hmm (by decide)) _ _
    exact hag
  try clear_value x1918
  extract_lets +onlyGivenNames -merge -useContext -underBinder x1920
  have h1921 : Agree MM so x1920 := by
    subst x1920
    refine Agree.ite ?_ ?_
    · exact h1919
    · refine State.clearModInfo_touch (sub_trans (by decide) hmm) ?_
      exact h1919
  try clear_value x1920
  extract_lets +onlyGivenNames -merge -useContext -underBinder x1922
  try clear_value x1922
  extract_lets +onlyGivenNames -merge -useContext -underBinder x1923
  have h1924 : Agree MM so x1923 := by
    subst x1923
    refine Agree.ite ?_ ?_
    · exact h1921
    · refine Agree.set_chains ?_ (sub_bit hmm (by decide)) _
      exact h1921
  try clear_value x1923
  refine Agree.ite ?_ ?_
  · exact h1924
  · refine State.irq_touch (sub_trans (by decide) hmm) ?_
    refine Agree.fsetBit ?_ (sub_bit hmm (by decide)) _ _ _
    exact h1924

theorem State.writeModInfo_touch {MM : Nat} {so : State} {s : Sys2Proof.Machine.State} {g : ℕ} {r : List Sys2Proof.Byte}
    (hmm : Machine.sub 0xff00000000000000000000000000000000000000000000000000000000 MM = true) (hag : Agree MM so s) :
    Agree MM so (@State.writeModInfo s g r) := by
  unfold State.writeModInfo
  extract_lets +onlyGivenNames -merge -useContext -underBinder x1925
  try clear_value x1925
  extract_lets +onlyGivenNames -merge -useContext -underBinder x1926
  try clear_value x1926
  extract_lets +onlyGivenNames -merge -useContext -underBinder x1927
  have h1928 : Agree MM so x1927 := by
    subst x1927
    refine Agree.setReg ?_ (sub_bit hmm (by decide)) _ _
    exact hag
  try clear_value x1927
  extract_lets +onlyGivenNames -merge -useContext -underBinder x1929
  have h1930 : Agree MM so x1929 := by
    subst x1929
    refine Agree.setReg ?_ (sub_bit hmm (by decide)) _ _
    exact h1928
  try clear_value x1929
  extract_lets +onlyGivenNames -merge -useContext -underBinder x1931
  have h1932 : Agree MM so x1931 := by
    subst x1931
    refine Agree.setReg ?_ (sub_bit hmm (by decide)) _ _
    exact h1930
  try clear_value x1931
  extract_lets +onlyGivenNames -merge -useContext -underBinder x1933
  have h1934 : Agree MM so x1933 := by
    subst x1933
    refine Agree.setReg ?_ (sub_bit hmm (by decide)) _ _
    exact h1932
  try clear_value x1933
  refine Agree.forEach ?_ (fun y1935 t1936 h1937 => ?_) _
  · exact h1934
  · extract_lets +onlyGivenNames -merge -useContext -underBinder x1938
    try clear_value x1938
    extract_lets +onlyGivenNames -merge -useContext -underBinder x1939
    try clear_value x1939
    extract_lets +onlyGivenNames -merge -useContext -underBinder x1940
    have h1941 : Agree MM so x1940 := by
      subst x1940
      refine Agree.setReg ?_ (sub_bit hmm (by decide)) _ _
      exact h1937
    try clear_value x1940
    extract_lets +onlyGivenNames -merge -useContext -underBinder x1942
    have h1943 : Agree MM so x1942 := by
      subst x1942
      refine Agree.setReg ?_ (sub_bit hmm (by decide)) _ _
      exact h1941
    try clear_value x1942
    extract_lets +onlyGivenNames -merge -useContext -underBinder x1944
    have h1945 : Agree MM so x1944 := by
      subst x1944
      refine Agree.setReg ?_ (sub_bit hmm (by decide)) _ _
      exact h1943
    try clear_value x1944
    refine Agree.setReg ?_ (sub_bit hmm (by decide)) _ _
    exact h1945

theorem State.commitDone_touch {MM : Nat} {so : State} {s : Sys2Proof.Machine.State} {g : ℕ}
    (hmm : Machine.sub 0xff30000000000000000000010000000000000000180000000000210200 MM = true) (hag : Agree MM so s) :
    Agree MM so (@State.commitDone s g) := by
  unfold State.commitDone
  extract_lets +onlyGivenNames -merge -useContext -underBinder x1946
  try clear_value x1946
  split
  · exact hag
  · extract_lets +onlyGivenNames -merge -useContext -underBinder x1947
    have h1948 : Agree MM so x1947 := by
      subst x1947
      refine Agree.set_modules ?_ (sub_bit hmm (by decide)) _
      exact hag
    try clear_value x1947
    extract_lets +onlyGivenNames -merge -useContext -underBinder x1949
    have h1950 : Agree MM so x1949 := by
      subst x1949
      refine State.setBusy_touch (sub_trans (by decide) hmm) ?_
      exact h1948
    try clear_value x1949
    refine Agree.ite ?_ ?_
    · exact h1950
    · extract_lets +onlyGivenNames -merge -useContext -underBinder x1951
      try clear_value x1951
      refine Agree.ite ?_ ?_
      · refine State.setModState_touch (sub_trans (by decide) hmm) ?_
        refine State.writeModInfo_touch (sub_trans (by decide) hmm) ?_
        exact h1950
      · refine State.setModState_touch (sub_trans (by decide) hmm) ?_
        exact h1950

theorem State.idbEnd_touch {MM : Nat} {so : State} {s : Sys2Proof.Machine.State} {b : ℕ} {f : Option Sys2Proof.Machine.Fld}
    (hmm : Machine.sub 0xfffffffffffffffffffffffffffffffffffffffffffffffffffffffffffffffffffffffffffffffffffffffffffffffffffffffffffffff0000000000040200 MM = true) (hag : Agree MM so s) :
    Agree MM so (@State.idbEnd s b f) := by
  unfold State.idbEnd
  extract_lets +onlyGivenNames -merge -useContext -underBinder x2504
  try clear_value x2504
  extract_lets +onlyGivenNames -merge -useContext -underBinder x2505
  have h2506 : Agree MM so x2505 := by
    subst x2505
    refine Agree.set_idb ?_ (sub_bit hmm (by decide)) _
    exact hag
  try clear_value x2505
  extract_lets +onlyGivenNames -merge -useContext -underBinder x2507
  have h2508 : Agree MM so x2507 := by
    subst x2507
    refine Agree.fsetB ?_ (sub_bit hmm (by decide)) _ _
    refine Agree.fsetB ?_ (sub_bit hmm (by decide)) _ _
    refine Agree.fsetB ?_ (sub_bit hmm (by decide)) _ _
    exact h2506
  try clear_value x2507
  extract_lets +onlyGivenNames -merge -useContext -underBinder x2509
  have h2510 : Agree MM so x2509 := by
    subst x2509
    refine State.idbBusy_touch (sub_trans (by decide) hmm) ?_
    exact h2508
  try clear_value x2509
  extract_lets +onlyGivenNames -merge -useContext -underBinder x2511
  have h2512 : Agree MM so x2511 := by
    subst x2511
    split
    · refine State.irq_touch (sub_trans (by decide) hmm) ?_
      refine Agree.fsetB ?_ (allBit (sub_trans (by decide) hmm) _) _ _
      exact h2510
    · exact h2510
  try clear_value x2511
  refine State.irq_touch (sub_trans (by decide) hmm) ?_
  refine Agree.fsetB ?_ (sub_bit hmm (by decide)) _ _
  exact h2512

theorem State.idbStore_touch {MM : Nat} {so : State} {s : Sys2Proof.Machine.State} {b : ℕ} {bs : List Sys2Proof.Byte}
    (hmm : Machine.sub 0x200000000000000000000000000000000000000000000000000000000000000000000000000000000000000000000000000000000000 MM = true) (hag : Agree MM so s) :
    Agree MM so (@State.idbStore s b bs) := by
  unfold State.idbStore
  refine Agree.forEach ?_ (fun y2513 t2514 h2515 => ?_) _
  · exact hag
  · refine Agree.setReg ?_ (sub_bit hmm (by decide)) _ _
    exact h2515

theorem State.mpres_touch {MM : Nat} {so : State} {s : Sys2Proof.Machine.State} {g : ℕ} {level : Bool}
    (hmm : Machine.sub 0x10000 MM = true) (hag : Agree MM so s) :
    Agree MM so (@State.mpres s g level) := by
  unfold State.mpres
  extract_lets +onlyGivenNames -merge -useContext -underBinder x2979
  try clear_value x2979
  extract_lets +onlyGivenNames -merge -useContext -underBinder x2980
  try clear_value x2980
  refine Agree.set_modules ?_ (sub_bit hmm (by decide)) _
  exact hag

theorem State.presence_touch {MM : Nat} {so : State} {s : Sys2Proof.Machine.State} {g : ℕ}
    (hmm : Machine.sub 0xff38000000000000000000010000000000000000180000000000210200 MM = true) (hag : Agree MM so s) :
    Agree MM so (@State.presence s g) := by
  unfold State.presence
  extract_lets +onlyGivenNames -merge -useContext -underBinder x3052
  try clear_value x3052
  refine Agree.ite ?_ ?_
  · exact hag
  · extract_lets +onlyGivenNames -merge -useContext -underBinder x3053
    try clear_value x3053
    extract_lets +onlyGivenNames -merge -useContext -underBinder x3054
    have h3055 : Agree MM so x3054 := by
      subst x3054
      refine Agree.set_modules ?_ (sub_bit hmm (by decide)) _
      exact hag
    try clear_value x3054
    extract_lets +onlyGivenNames -merge -useContext -underBinder x3056
    have h3057 : Agree MM so x3056 := by
      subst x3056
      refine State.setBusy_touch (sub_trans (by decide) hmm) ?_
      exact h3055
    try clear_value x3056
    extract_lets +onlyGivenNames -merge -useContext -underBinder x3058
    have h3059 : Agree MM so x3058 := by
      subst x3058
      refine Agree.fsetBit ?_ (sub_bit hmm (by decide)) _ _ _
      exact h3057
    try clear_value x3058
    extract_lets +onlyGivenNames -merge -useContext -underBinder x3060
    have h3061 : Agree MM so x3060 := by
      subst x3060
      refine State.irq_touch (sub_trans (by decide) hmm) ?_
      refine Agree.fsetBit ?_ (sub_bit hmm (by decide)) _ _ _
      exact h3059
    try clear_value x3060
    extract_lets +onlyGivenNames -merge -useContext -underBinder x3062
    have h3063 : Agree MM so x3062 := by
      subst x3062
      refine State.pulse_touch (sub_trans (by decide) hmm) ?_
      exact h3061
    try clear_value x3062
    refine State.setModState_touch (sub_trans (by decide) hmm) ?_
    exact h3063

end Sys2Proof.Machine
end

