-- ==== Sys2Proof/Laws/Touch/Bkd.lean ====
section
/-!
SUPPORT. What the functions of Machine/Bkd.lean can touch: one lemma per function, its mask after `sub`.
-/

namespace Sys2Proof.Machine

theorem State.setTarget_touch {MM : Nat} {so : State} {s : Sys2Proof.Machine.State} {m : ℕ}
    (hmm : Machine.sub 0x60000000000000000000 MM = true) (hag : Agree MM so s) :
    Agree MM so (@State.setTarget s m) := by
  unfold State.setTarget
  refine Agree.fset ?_ (sub_bit hmm (by decide)) _ _
  refine Agree.fset ?_ (sub_bit hmm (by decide)) _ _
  exact hag

theorem State.bkPut_touch {MM : Nat} {so : State} {s : Sys2Proof.Machine.State} {w : ℕ} {v : Sys2Proof.Word}
    (hmm : Machine.sub 0x300000000000000000000004000000000 MM = true) (hag : Agree MM so s) :
    Agree MM so (@State.bkPut s w v) := by
  unfold State.bkPut
  extract_lets +onlyGivenNames -merge -useContext -underBinder x48
  have h49 : Agree MM so x48 := by
    subst x48
    refine State.checkBegin_touch (sub_trans (by decide) hmm) ?_
    refine Agree.setReg ?_ (sub_bit hmm (by decide)) _ _
    exact hag
  try clear_value x48
  refine Agree.fset ?_ (sub_bit hmm (by decide)) _ _
  exact h49

theorem State.bkdThaw_touch {MM : Nat} {so : State} {s : Sys2Proof.Machine.State}
    (hmm : Machine.sub 0x20 MM = true) (hag : Agree MM so s) :
    Agree MM so (@State.bkdThaw s) := by
  unfold State.bkdThaw
  refine Agree.set_freeze ?_ (sub_bit hmm (by decide)) _
  exact hag

theorem State.measAbort_touch {MM : Nat} {so : State} {s : Sys2Proof.Machine.State}
    (hmm : Machine.sub 0x10002800000000000100000000001000200 MM = true) (hag : Agree MM so s) :
    Agree MM so (@State.measAbort s) := by
  unfold State.measAbort
  refine Agree.ite ?_ ?_
  · exact hag
  · extract_lets +onlyGivenNames -merge -useContext -underBinder x467
    try clear_value x467
    extract_lets +onlyGivenNames -merge -useContext -underBinder x468
    have h469 : Agree MM so x468 := by
      subst x468
      refine Agree.set_bkd ?_ (sub_bit hmm (by decide)) _
      exact hag
    try clear_value x468
    refine State.irq_touch (sub_trans (by decide) hmm) ?_
    refine Agree.fsetB ?_ (sub_bit hmm (by decide)) _ _
    refine Agree.fsetB ?_ (sub_bit hmm (by decide)) _ _
    exact h469

theorem State.measBreak_touch {MM : Nat} {so : State} {s : Sys2Proof.Machine.State}
    (hmm : Machine.sub 0x10002800000000000100000000001000200 MM = true) (hag : Agree MM so s) :
    Agree MM so (@State.measBreak s) := by
  unfold State.measBreak
  refine Agree.ite ?_ ?_
  · refine State.measAbort_touch (sub_trans (by decide) hmm) ?_
    exact hag
  · exact hag

theorem State.bkdSubst_touch {MM : Nat} {so : State} {s : Sys2Proof.Machine.State}
    (hmm : Machine.sub 0x10002800000000000100000000001000200 MM = true) (hag : Agree MM so s) :
    Agree MM so (@State.bkdSubst s) := by
  unfold State.bkdSubst
  refine Agree.ite ?_ ?_
  · refine State.measBreak_touch (sub_trans (by decide) hmm) ?_
    exact hag
  · exact hag

theorem State.lfxoReady_touch {MM : Nat} {so : State} {s : Sys2Proof.Machine.State} {b : Bool}
    (hmm : Machine.sub 0x10002800000600000100000000001000200 MM = true) (hag : Agree MM so s) :
    Agree MM so (@State.lfxoReady s b) := by
  unfold State.lfxoReady
  extract_lets +onlyGivenNames -merge -useContext -underBinder x470
  try clear_value x470
  extract_lets +onlyGivenNames -merge -useContext -underBinder x471
  have h472 : Agree MM so x471 := by
    subst x471
    refine Agree.set_bkd ?_ (sub_bit hmm (by decide)) _
    exact hag
  try clear_value x471
  extract_lets +onlyGivenNames -merge -useContext -underBinder x473
  have h474 : Agree MM so x473 := by
    subst x473
    refine Agree.fsetBit ?_ (sub_bit hmm (by decide)) _ _ _
    exact h472
  try clear_value x473
  extract_lets +onlyGivenNames -merge -useContext -underBinder x475
  have h476 : Agree MM so x475 := by
    subst x475
    refine Agree.ite ?_ ?_
    · refine Agree.ite ?_ ?_
      · refine Agree.fset ?_ (sub_bit hmm (by decide)) _ _
        exact h474
      · exact h474
    · exact h472
  try clear_value x475
  refine State.bkdSubst_touch (sub_trans (by decide) hmm) ?_
  exact h476

theorem State.bkdBusy_touch {MM : Nat} {so : State} {s : Sys2Proof.Machine.State}
    (hmm : Machine.sub 0x80000000000000000 MM = true) (hag : Agree MM so s) :
    Agree MM so (@State.bkdBusy s) := by
  unfold State.bkdBusy
  refine State.setBusy_touch (sub_trans (by decide) hmm) ?_
  exact hag

theorem State.measStart_touch {MM : Nat} {so : State} {s : Sys2Proof.Machine.State}
    (hmm : Machine.sub 0x800000000000000000000001000000 MM = true) (hag : Agree MM so s) :
    Agree MM so (@State.measStart s) := by
  unfold State.measStart
  refine Agree.fsetB ?_ (sub_bit hmm (by decide)) _ _
  refine Agree.set_bkd ?_ (sub_bit hmm (by decide)) _
  exact hag

theorem State.midnightWake_touch {MM : Nat} {so : State} {s : Sys2Proof.Machine.State} {c : ℕ}
    (hmm : Machine.sub 0x80000000000000000000000001000000 MM = true) (hag : Agree MM so s) :
    Agree MM so (@State.midnightWake s c) := by
  unfold State.midnightWake
  extract_lets +onlyGivenNames -merge -useContext -underBinder x1446
  try clear_value x1446
  extract_lets +onlyGivenNames -merge -useContext -underBinder x1447
  try clear_value x1447
  extract_lets +onlyGivenNames -merge -useContext -underBinder x1448
  try clear_value x1448
  refine Agree.ite ?_ ?_
  · exact hag
  · extract_lets +onlyGivenNames -merge -useContext -underBinder x1449
    try clear_value x1449
    extract_lets +onlyGivenNames -merge -useContext -underBinder x1450
    try clear_value x1450
    extract_lets +onlyGivenNames -merge -useContext -underBinder x1451
    have h1452 : Agree MM so x1451 := by
      subst x1451
      refine Agree.set_bkd ?_ (sub_bit hmm (by decide)) _
      exact hag
    try clear_value x1451
    refine Agree.ite ?_ ?_
    · refine Agree.fsetB ?_ (sub_bit hmm (by decide)) _ _
      exact h1452
    · exact h1452

theorem State.wakeDeliver_touch {MM : Nat} {so : State} {s : Sys2Proof.Machine.State} {rec0 : Sys2Proof.Word} {tick : ℕ} {replayed : Bool}
    (hmm : Machine.sub 0x10300000000078000100000004000000a00 MM = true) (hag : Agree MM so s) :
    Agree MM so (@State.wakeDeliver s rec0 tick replayed) := by
  unfold State.wakeDeliver
  extract_lets +onlyGivenNames -merge -useContext -underBinder x1453
  have h1454 : Agree MM so x1453 := by
    subst x1453
    refine Agree.setReg ?_ (sub_bit hmm (by decide)) _ _
    exact hag
  try clear_value x1453
  extract_lets +onlyGivenNames -merge -useContext -underBinder x1455
  have h1456 : Agree MM so x1455 := by
    subst x1455
    refine Agree.set64 ?_ (sub_bit hmm (by decide)) (sub_bit hmm (by decide)) _ _
    exact h1454
  try clear_value x1455
  extract_lets +onlyGivenNames -merge -useContext -underBinder x1457
  have h1458 : Agree MM so x1457 := by
    subst x1457
    refine State.bkPut_touch (sub_trans (by decide) hmm) ?_
    refine Agree.fadd ?_ (sub_bit hmm (by decide)) _ _
    exact h1456
  try clear_value x1457
  extract_lets +onlyGivenNames -merge -useContext -underBinder x1459
  have h1460 : Agree MM so x1459 := by
    subst x1459
    refine State.irq_touch (sub_trans (by decide) hmm) ?_
    exact h1458
  try clear_value x1459
  extract_lets +onlyGivenNames -merge -useContext -underBinder x1461
  have h1462 : Agree MM so x1461 := by
    subst x1461
    refine Agree.ite ?_ ?_
    · refine State.irq_touch (sub_trans (by decide) hmm) ?_
      exact h1460
    · exact h1460
  try clear_value x1461
  refine Agree.set_power ?_ (sub_bit hmm (by decide)) _
  exact h1462

theorem State.wakeGo_touch {MM : Nat} {so : State} {s : Sys2Proof.Machine.State} {w : ℕ × ℕ × ℕ} {replayed : Bool}
    (hmm : Machine.sub 0x10300000000078060100000004000000a00 MM = true) (hag : Agree MM so s) :
    Agree MM so (@State.wakeGo s w replayed) := by
  unfold State.wakeGo
  extract_lets +onlyGivenNames -merge -useContext -underBinder x1463
  try clear_value x1463
  extract_lets +onlyGivenNames -merge -useContext -underBinder x1464
  try clear_value x1464
  extract_lets +onlyGivenNames -merge -useContext -underBinder x1465
  have h1466 : Agree MM so x1465 := by
    subst x1465
    refine State.wakeDeliver_touch (sub_trans (by decide) hmm) ?_
    exact hag
  try clear_value x1465
  extract_lets +onlyGivenNames -merge -useContext -underBinder x1467
  try clear_value x1467
  extract_lets +onlyGivenNames -merge -useContext -underBinder x1468
  have h1469 : Agree MM so x1468 := by
    subst x1468
    refine Agree.set_power ?_ (sub_bit hmm (by decide)) _
    exact h1466
  try clear_value x1468
  refine State.setTarget_touch (sub_trans (by decide) hmm) ?_
  exact h1469

theorem State.wakeLatch_touch {MM : Nat} {so : State} {s : Sys2Proof.Machine.State} {c : ℕ}
    (hmm : Machine.sub 0x10300000000079060100000004000000a00 MM = true) (hag : Agree MM so s) :
    Agree MM so (@State.wakeLatch s c) := by
  unfold State.wakeLatch
  refine Agree.ite ?_ ?_
  · exact hag
  · extract_lets +onlyGivenNames -merge -useContext -underBinder x1470
    have h1471 : Agree MM so x1470 := by
      subst x1470
      refine Agree.setReg ?_ (sub_bit hmm (by decide)) _ _
      exact hag
    try clear_value x1470
    extract_lets +onlyGivenNames -merge -useContext -underBinder x1472
    try clear_value x1472
    extract_lets +onlyGivenNames -merge -useContext -underBinder x1473
    try clear_value x1473
    refine Agree.ite ?_ ?_
    · split
      · exact h1471
      · refine Agree.set_power ?_ (sub_bit hmm (by decide)) _
        exact h1471
    · refine State.wakeGo_touch (sub_trans (by decide) hmm) ?_
      exact h1471

theorem State.alarmFire_touch {MM : Nat} {so : State} {s : Sys2Proof.Machine.State}
    (hmm : Machine.sub 0x10380003000079060100000004001000a00 MM = true) (hag : Agree MM so s) :
    Agree MM so (@State.alarmFire s) := by
  unfold State.alarmFire
  refine Agree.ite ?_ ?_
  · exact hag
  · extract_lets +onlyGivenNames -merge -useContext -underBinder x1474
    try clear_value x1474
    extract_lets +onlyGivenNames -merge -useContext -underBinder x1475
    have h1476 : Agree MM so x1475 := by
      subst x1475
      refine Agree.set_bkd ?_ (sub_bit hmm (by decide)) _
      exact hag
    try clear_value x1475
    refine Agree.ite ?_ ?_
    · exact h1476
    · extract_lets +onlyGivenNames -merge -useContext -underBinder x1477
      have h1478 : Agree MM so x1477 := by
        subst x1477
        refine Agree.fsetB ?_ (sub_bit hmm (by decide)) _ _
        exact h1476
      try clear_value x1477
      extract_lets +onlyGivenNames -merge -useContext -underBinder x1479
      have h1480 : Agree MM so x1479 := by
        subst x1479
        refine State.irq_touch (sub_trans (by decide) hmm) ?_
        refine Agree.fsetB ?_ (sub_bit hmm (by decide)) _ _
        exact h1478
      try clear_value x1479
      refine State.midnightWake_touch (sub_trans (by decide) hmm) ?_
      refine State.wakeLatch_touch (sub_trans (by decide) hmm) ?_
      exact h1480

theorem State.bkCheck_touch {MM : Nat} {so : State} {s : Sys2Proof.Machine.State}
    (hmm : Machine.sub 0x10000003000000000180000000001000200 MM = true) (hag : Agree MM so s) :
    Agree MM so (@State.bkCheck s) := by
  unfold State.bkCheck
  extract_lets +onlyGivenNames -merge -useContext -underBinder x1665
  try clear_value x1665
  extract_lets +onlyGivenNames -merge -useContext -underBinder x1666
  try clear_value x1666
  extract_lets +onlyGivenNames -merge -useContext -underBinder x1667
  have h1668 : Agree MM so x1667 := by
    subst x1667
    refine Agree.set_bkd ?_ (sub_bit hmm (by decide)) _
    exact hag
  try clear_value x1667
  extract_lets +onlyGivenNames -merge -useContext -underBinder x1669
  have h1670 : Agree MM so x1669 := by
    subst x1669
    refine Agree.ite ?_ ?_
    · refine State.irq_touch (sub_trans (by decide) hmm) ?_
      refine Agree.fsetB ?_ (sub_bit hmm (by decide)) _ _
      exact h1668
    · exact h1668
  try clear_value x1669
  refine State.bkdBusy_touch (sub_trans (by decide) hmm) ?_
  refine Agree.fsetB ?_ (sub_bit hmm (by decide)) _ _
  exact h1670

theorem State.measEvent_touch {MM : Nat} {so : State} {s : Sys2Proof.Machine.State} {src : ℕ} {phase : ℕ}
    (hmm : Machine.sub 0x10003800000000000100000000001000200 MM = true) (hag : Agree MM so s) :
    Agree MM so (@State.measEvent s src phase) := by
  unfold State.measEvent
  split
  · exact hag
  · refine Agree.ite ?_ ?_
    · exact hag
    · extract_lets +onlyGivenNames -merge -useContext -underBinder x1747
      try clear_value x1747
      refine Agree.ite ?_ ?_
      · extract_lets +onlyGivenNames -merge -useContext -underBinder x1748
        try clear_value x1748
        extract_lets +onlyGivenNames -merge -useContext -underBinder x1749
        have h1750 : Agree MM so x1749 := by
          subst x1749
          refine Agree.set_bkd ?_ (sub_bit hmm (by decide)) _
          exact hag
        try clear_value x1749
        refine State.bkdSubst_touch (sub_trans (by decide) hmm) ?_
        exact h1750
      · refine Agree.ite ?_ ?_
        · refine Agree.set_bkd ?_ (sub_bit hmm (by decide)) _
          exact hag
        · extract_lets +onlyGivenNames -merge -useContext -underBinder x1751
          try clear_value x1751
          extract_lets +onlyGivenNames -merge -useContext -underBinder x1752
          try clear_value x1752
          extract_lets +onlyGivenNames -merge -useContext -underBinder x1753
          try clear_value x1753
          extract_lets +onlyGivenNames -merge -useContext -underBinder x1754
          try clear_value x1754
          extract_lets +onlyGivenNames -merge -useContext -underBinder x1755
          try clear_value x1755
          extract_lets +onlyGivenNames -merge -useContext -underBinder x1756
          have h1757 : Agree MM so x1756 := by
            subst x1756
            refine Agree.set_bkd ?_ (sub_bit hmm (by decide)) _
            exact hag
          try clear_value x1756
          extract_lets +onlyGivenNames -merge -useContext -underBinder x1758
          have h1759 : Agree MM so x1758 := by
            subst x1758
            refine Agree.fset ?_ (sub_bit hmm (by decide)) _ _
            refine Agree.setReg ?_ (sub_bit hmm (by decide)) _ _
            exact h1757
          try clear_value x1758
          extract_lets +onlyGivenNames -merge -useContext -underBinder x1760
          have h1761 : Agree MM so x1760 := by
            subst x1760
            refine Agree.fsetB ?_ (sub_bit hmm (by decide)) _ _
            refine Agree.fsetB ?_ (sub_bit hmm (by decide)) _ _
            exact h1759
          try clear_value x1760
          refine State.irq_touch (sub_trans (by decide) hmm) ?_
          refine Agree.fsetB ?_ (sub_bit hmm (by decide)) _ _
          exact h1761

theorem State.measTick_touch {MM : Nat} {so : State} {s : Sys2Proof.Machine.State}
    (hmm : Machine.sub 0x1000000 MM = true) (hag : Agree MM so s) :
    Agree MM so (@State.measTick s) := by
  unfold State.measTick
  refine Agree.set_bkd ?_ (sub_bit hmm (by decide)) _
  exact hag

theorem State.oscStopped_touch {MM : Nat} {so : State} {s : Sys2Proof.Machine.State}
    (hmm : Machine.sub 0x10002802000600000100000000001000200 MM = true) (hag : Agree MM so s) :
    Agree MM so (@State.oscStopped s) := by
  unfold State.oscStopped
  extract_lets +onlyGivenNames -merge -useContext -underBinder x2984
  have h2985 : Agree MM so x2984 := by
    subst x2984
    refine State.measBreak_touch (sub_trans (by decide) hmm) ?_
    exact hag
  try clear_value x2984
  extract_lets +onlyGivenNames -merge -useContext -underBinder x2986
  have h2987 : Agree MM so x2986 := by
    subst x2986
    refine State.irq_touch (sub_trans (by decide) hmm) ?_
    refine Agree.fsetB ?_ (sub_bit hmm (by decide)) _ _
    exact h2985
  try clear_value x2986
  refine State.lfxoReady_touch (sub_trans (by decide) hmm) ?_
  exact h2987

theorem State.vbatSample_touch {MM : Nat} {so : State} {s : Sys2Proof.Machine.State} {low : Bool}
    (hmm : Machine.sub 0x10000002000000000100000000000000200 MM = true) (hag : Agree MM so s) :
    Agree MM so (@State.vbatSample s low) := by
  unfold State.vbatSample
  refine Agree.ite ?_ ?_
  · exact hag
  · extract_lets +onlyGivenNames -merge -useContext -underBinder x3068
    try clear_value x3068
    extract_lets +onlyGivenNames -merge -useContext -underBinder x3069
    have h3070 : Agree MM so x3069 := by
      subst x3069
      refine Agree.fsetB ?_ (sub_bit hmm (by decide)) _ _
      exact hag
    try clear_value x3069
    refine Agree.ite ?_ ?_
    · refine State.irq_touch (sub_trans (by decide) hmm) ?_
      exact h3070
    · exact h3070

theorem State.secondBoundary_touch {MM : Nat} {so : State} {s : Sys2Proof.Machine.State} {low : Bool}
    (hmm : Machine.sub 0x1000c003000000000180000000001008200 MM = true) (hag : Agree MM so s) :
    Agree MM so (@State.secondBoundary s low) := by
  unfold State.secondBoundary
  refine Agree.ite ?_ ?_
  · exact hag
  · extract_lets +onlyGivenNames -merge -useContext -underBinder x3071
    try clear_value x3071
    extract_lets +onlyGivenNames -merge -useContext -underBinder x3072
    have h3073 : Agree MM so x3072 := by
      subst x3072
      refine Agree.set_bkd ?_ (sub_bit hmm (by decide)) _
      exact hag
    try clear_value x3072
    extract_lets +onlyGivenNames -merge -useContext -underBinder x3074
    have h3075 : Agree MM so x3074 := by
      subst x3074
      refine Agree.setReg ?_ (sub_bit hmm (by decide)) _ _
      exact h3073
    try clear_value x3074
    extract_lets +onlyGivenNames -merge -useContext -underBinder x3076
    have h3077 : Agree MM so x3076 := by
      subst x3076
      refine Agree.setReg ?_ (sub_bit hmm (by decide)) _ _
      exact h3075
    try clear_value x3076
    extract_lets +onlyGivenNames -merge -useContext -underBinder x3078
    have h3079 : Agree MM so x3078 := by
      subst x3078
      refine Agree.ite ?_ ?_
      · refine State.bkdBusy_touch (sub_trans (by decide) hmm) ?_
        refine Agree.fsetB ?_ (sub_bit hmm (by decide)) _ _
        exact h3077
      · split
        · extract_lets +onlyGivenNames -merge -useContext -underBinder x3080
          have h3081 : Agree MM so x3080 := by
            subst x3080
            refine Agree.fset ?_ (sub_bit hmm (by decide)) _ _
            refine Agree.fset ?_ (sub_bit hmm (by decide)) _ _
            refine Agree.fset ?_ (sub_bit hmm (by decide)) _ _
            exact h3073
          try clear_value x3080
          extract_lets +onlyGivenNames -merge -useContext -underBinder x3082
          have h3083 : Agree MM so x3082 := by
            subst x3082
            refine Agree.fset ?_ (sub_bit hmm (by decide)) _ _
            refine Agree.fset ?_ (sub_bit hmm (by decide)) _ _
            refine Agree.fset ?_ (sub_bit hmm (by decide)) _ _
            exact h3081
          try clear_value x3082
          refine Agree.fset ?_ (sub_bit hmm (by decide)) _ _
          exact h3083
    try clear_value x3078
    extract_lets +onlyGivenNames -merge -useContext -underBinder x3084
    have h3085 : Agree MM so x3084 := by
      subst x3084
      refine State.vbatSample_touch (sub_trans (by decide) hmm) ?_
      exact h3079
    try clear_value x3084
    refine Agree.ite ?_ ?_
    · refine Agree.set_epoch ?_ (sub_bit hmm (by decide)) _
      exact h3085
    · exact h3085

theorem State.tickSettle_touch {MM : Nat} {so : State} {s : Sys2Proof.Machine.State}
    (hmm : Machine.sub 0x1038c003000079060180000004001008a00 MM = true) (hag : Agree MM so s) :
    Agree MM so (@State.tickSettle s) := by
  unfold State.tickSettle
  refine State.alarmFire_touch (sub_trans (by decide) hmm) ?_
  refine State.secondBoundary_touch (sub_trans (by decide) hmm) ?_
  exact hag

theorem State.tickLoad_touch {MM : Nat} {so : State} {s : Sys2Proof.Machine.State}
    (hmm : Machine.sub 0x3d000000000080000000001000000 MM = true) (hag : Agree MM so s) :
    Agree MM so (@State.tickLoad s) := by
  unfold State.tickLoad
  extract_lets +onlyGivenNames -merge -useContext -underBinder x3086
  try clear_value x3086
  extract_lets +onlyGivenNames -merge -useContext -underBinder x3087
  have h3088 : Agree MM so x3087 := by
    subst x3087
    refine Agree.set64 ?_ (sub_bit hmm (by decide)) (sub_bit hmm (by decide)) _ _
    refine Agree.set64 ?_ (sub_bit hmm (by decide)) (sub_bit hmm (by decide)) _ _
    exact hag
  try clear_value x3087
  extract_lets +onlyGivenNames -merge -useContext -underBinder x3089
  try clear_value x3089
  extract_lets +onlyGivenNames -merge -useContext -underBinder x3090
  have h3091 : Agree MM so x3090 := by
    subst x3090
    refine Agree.set_bkd ?_ (sub_bit hmm (by decide)) _
    exact h3088
  try clear_value x3090
  refine State.bkdBusy_touch (sub_trans (by decide) hmm) ?_
  refine Agree.fsetB ?_ (sub_bit hmm (by decide)) _ _
  exact h3091

theorem State.tickCount_touch {MM : Nat} {so : State} {s : Sys2Proof.Machine.State}
    (hmm : Machine.sub 0x3c000000000000000000001000000 MM = true) (hag : Agree MM so s) :
    Agree MM so (@State.tickCount s) := by
  unfold State.tickCount
  extract_lets +onlyGivenNames -merge -useContext -underBinder x3092
  try clear_value x3092
  extract_lets +onlyGivenNames -merge -useContext -underBinder x3093
  try clear_value x3093
  split
  · extract_lets +onlyGivenNames -merge -useContext -underBinder x3094
    have h3095 : Agree MM so x3094 := by
      subst x3094
      refine Agree.set64 ?_ (sub_bit hmm (by decide)) (sub_bit hmm (by decide)) _ _
      exact hag
    try clear_value x3094
    extract_lets +onlyGivenNames -merge -useContext -underBinder x3096
    have h3097 : Agree MM so x3096 := by
      subst x3096
      refine Agree.set64 ?_ (sub_bit hmm (by decide)) (sub_bit hmm (by decide)) _ _
      exact h3095
    try clear_value x3096
    refine Agree.set_bkd ?_ (sub_bit hmm (by decide)) _
    exact h3097

theorem State.tickStep_touch {MM : Nat} {so : State} {s : Sys2Proof.Machine.State}
    (hmm : Machine.sub 0x1038c03f000079060180000004001008a00 MM = true) (hag : Agree MM so s) :
    Agree MM so (@State.tickStep s) := by
  unfold State.tickStep
  refine Agree.ite ?_ ?_
  · exact hag
  · extract_lets +onlyGivenNames -merge -useContext -underBinder x3098
    have h3099 : Agree MM so x3098 := by
      subst x3098
      refine State.tickSettle_touch (sub_trans (by decide) hmm) ?_
      exact hag
    try clear_value x3098
    extract_lets +onlyGivenNames -merge -useContext -underBinder x3100
    have h3101 : Agree MM so x3100 := by
      subst x3100
      refine Agree.ite ?_ ?_
      · refine State.tickLoad_touch (sub_trans (by decide) hmm) ?_
        exact h3099
      · refine State.tickCount_touch (sub_trans (by decide) hmm) ?_
        exact h3099
    try clear_value x3100
    extract_lets +onlyGivenNames -merge -useContext -underBinder x3102
    have h3103 : Agree MM so x3102 := by
      subst x3102
      refine State.measTick_touch (sub_trans (by decide) hmm) ?_
      exact h3101
    try clear_value x3102
    refine Agree.ite ?_ ?_
    · refine Agree.set_bkd ?_ (sub_bit hmm (by decide)) _
      exact h3103
    · exact h3103

theorem State.vbkDip_touch {MM : Nat} {so : State} {s : Sys2Proof.Machine.State} {mv : ℕ} {bytes : List (ℕ × Sys2Proof.Byte)}
    (hmm : Machine.sub 0xfffffffffffffffffffffffffffffffffffffffffffffffffffffffffffffffffffffffffffffffffffffffffffffffffffffffffffffff0000000001000220 MM = true) (hag : Agree MM so s) :
    Agree MM so (@State.vbkDip s mv bytes) := by
  unfold State.vbkDip
  refine Agree.ite hag (Agree.ite ?_ ?_)
  · extract_lets a b
    have h1 : Agree MM so a := State.oscStopped_touch (sub_trans (by decide) hmm) hag
    clear_value a
    exact Agree.forEach (Agree.set_bkd h1 (sub_bit hmm (by decide)) _)
      (fun x t ht => Agree.setReg ht (sub_bit hmm (by decide)) _ _) _
  · extract_lets b u
    have h1 : Agree MM so u := by
      subst u
      exact State.bkdThaw_touch (sub_trans (by decide) hmm)
        (Agree.set_bkd (Agree.filterRegs hag (sub_trans (by decide) hmm) _) (sub_bit hmm (by decide)) _)
    clear_value u
    exact State.lfxoReady_touch (sub_trans (by decide) hmm) h1

theorem State.wkupEdge_touch {MM : Nat} {so : State} {s : Sys2Proof.Machine.State} {p : ℕ} {level : Bool} {held : ℕ} {phase : ℕ}
    (hmm : Machine.sub 0xfffffffffffffffffffffffffffffffffffffffffffffffffffffffffffffffffffffffffffffffffffffffffffffffffffffffffffffff0000004001000a00 MM = true) (hag : Agree MM so s) :
    Agree MM so (@State.wkupEdge s p level held phase) := by
  unfold State.wkupEdge
  extract_lets +onlyGivenNames -merge -useContext -underBinder x3430
  try clear_value x3430
  refine Agree.ite ?_ ?_
  · exact hag
  · refine Agree.ite ?_ ?_
    · refine Agree.fsetBit ?_ (sub_bit hmm (by decide)) _ _ _
      exact hag
    · extract_lets +onlyGivenNames -merge -useContext -underBinder x3431
      have h3432 : Agree MM so x3431 := by
        subst x3431
        refine Agree.fsetBit ?_ (sub_bit hmm (by decide)) _ _ _
        exact hag
      try clear_value x3431
      extract_lets +onlyGivenNames -merge -useContext -underBinder x3433
      have h3434 : Agree MM so x3433 := by
        subst x3433
        refine State.irq_touch (sub_trans (by decide) hmm) ?_
        refine Agree.fsetB ?_ (allBit (sub_trans (by decide) hmm) _) _ _
        exact h3432
      try clear_value x3433
      extract_lets +onlyGivenNames -merge -useContext -underBinder x3435
      have h3436 : Agree MM so x3435 := by
        subst x3435
        refine State.midnightWake_touch (sub_trans (by decide) hmm) ?_
        refine State.wakeLatch_touch (sub_trans (by decide) hmm) ?_
        exact h3434
      try clear_value x3435
      extract_lets +onlyGivenNames -merge -useContext -underBinder x3437
      have h3438 : Agree MM so x3437 := by
        subst x3437
        refine State.pulse_touch (sub_trans (by decide) hmm) ?_
        exact h3436
      try clear_value x3437
      refine State.measEvent_touch (sub_trans (by decide) hmm) ?_
      exact h3438

end Sys2Proof.Machine
end

