-- ==== Sys2Proof/Laws/Touch/Darn.lean ====
section
/-!
SUPPORT. What the functions of Machine/Darn.lean can touch: one lemma per function, its mask after `sub`.
-/

namespace Sys2Proof.Machine

theorem State.darnShow_touch {MM : Nat} {so : State} {s : Sys2Proof.Machine.State}
    (hmm : Machine.sub 0x43e00000000000000000000000000000000000000000000000000000000000000000000000000000000000000000000000000000080000000000000000 MM = true) (hag : Agree MM so s) :
    Agree MM so (@State.darnShow s) := by
  unfold State.darnShow
  refine Agree.ite ?_ ?_
  · exact hag
  · extract_lets +onlyGivenNames -merge -useContext -underBinder x113
    try clear_value x113
    extract_lets +onlyGivenNames -merge -useContext -underBinder x114
    try clear_value x114
    extract_lets +onlyGivenNames -merge -useContext -underBinder x115
    have h116 : Agree MM so x115 := by
      subst x115
      refine Agree.forEach ?_ (fun y117 t118 h119 => ?_) _
      · exact hag
      · refine Agree.setReg ?_ (sub_bit hmm (by decide)) _ _
        exact h119
    try clear_value x115
    extract_lets +onlyGivenNames -merge -useContext -underBinder x120
    have h121 : Agree MM so x120 := by
      subst x120
      refine Agree.fset ?_ (sub_bit hmm (by decide)) _ _
      exact h116
    try clear_value x120
    extract_lets +onlyGivenNames -merge -useContext -underBinder x122
    have h123 : Agree MM so x122 := by
      subst x122
      refine Agree.fsetB ?_ (sub_bit hmm (by decide)) _ _
      exact h121
    try clear_value x122
    extract_lets +onlyGivenNames -merge -useContext -underBinder x124
    try clear_value x124
    extract_lets +onlyGivenNames -merge -useContext -underBinder x125
    have h126 : Agree MM so x125 := by
      subst x125
      refine Agree.setReg ?_ (sub_bit hmm (by decide)) _ _
      exact h123
    try clear_value x125
    extract_lets +onlyGivenNames -merge -useContext -underBinder x127
    have h128 : Agree MM so x127 := by
      subst x127
      refine Agree.setReg ?_ (sub_bit hmm (by decide)) _ _
      exact h126
    try clear_value x127
    extract_lets +onlyGivenNames -merge -useContext -underBinder x129
    have h130 : Agree MM so x129 := by
      subst x129
      refine Agree.fset ?_ (sub_bit hmm (by decide)) _ _
      exact h128
    try clear_value x129
    extract_lets +onlyGivenNames -merge -useContext -underBinder x131
    have h132 : Agree MM so x131 := by
      subst x131
      refine Agree.fset ?_ (sub_bit hmm (by decide)) _ _
      exact h130
    try clear_value x131
    extract_lets +onlyGivenNames -merge -useContext -underBinder x133
    have h134 : Agree MM so x133 := by
      subst x133
      refine Agree.fset ?_ (sub_bit hmm (by decide)) _ _
      exact h132
    try clear_value x133
    extract_lets +onlyGivenNames -merge -useContext -underBinder x135
    have h136 : Agree MM so x135 := by
      subst x135
      refine Agree.fset ?_ (sub_bit hmm (by decide)) _ _
      exact h134
    try clear_value x135
    extract_lets +onlyGivenNames -merge -useContext -underBinder x137
    have h138 : Agree MM so x137 := by
      subst x137
      refine Agree.fset ?_ (sub_bit hmm (by decide)) _ _
      exact h136
    try clear_value x137
    refine State.setBusy_touch (sub_trans (by decide) hmm) ?_
    exact h138

theorem State.darnLog_touch {MM : Nat} {so : State} {s : Sys2Proof.Machine.State} {kind : ℕ} {flags : ℕ} {target : ℕ} {repl : ℕ}
    (hmm : Machine.sub 0x43e00000000000000000000000000000000000000000000000000000000000000000000000000000000000010000000000000000180000000000080200 MM = true) (hag : Agree MM so s) :
    Agree MM so (@State.darnLog s kind flags target repl) := by
  unfold State.darnLog
  refine Agree.ite ?_ ?_
  · exact hag
  · refine Agree.ite ?_ ?_
    · refine State.irq_touch (sub_trans (by decide) hmm) ?_
      refine Agree.fsetB ?_ (sub_bit hmm (by decide)) _ _
      exact hag
    · refine State.darnShow_touch (sub_trans (by decide) hmm) ?_
      refine Agree.set_darn ?_ (sub_bit hmm (by decide)) _
      exact hag

theorem State.darnDone_touch {MM : Nat} {so : State} {s : Sys2Proof.Machine.State} {kind : ℕ} {flags : ℕ} {target : ℕ} {repl : ℕ}
    (hmm : Machine.sub 0x43e00000000000000000000000000000000000000000000000000000000000000000000000000000000000010000000000000000180000000000080200 MM = true) (hag : Agree MM so s) :
    Agree MM so (@State.darnDone s kind flags target repl) := by
  unfold State.darnDone
  refine State.darnShow_touch (sub_trans (by decide) hmm) ?_
  refine State.irq_touch (sub_trans (by decide) hmm) ?_
  refine State.darnLog_touch (sub_trans (by decide) hmm) ?_
  exact hag

theorem State.propose_touch {MM : Nat} {so : State} {s : Sys2Proof.Machine.State} {kind : ℕ} {target : ℕ}
    (hmm : Machine.sub 0x43e00000000000000000000000000000000000000000000000000000000000000000000000000000000000010000000000000000180000000000080200 MM = true) (hag : Agree MM so s) :
    Agree MM so (@State.propose s kind target) := by
  unfold State.propose
  refine Agree.ite ?_ ?_
  · exact hag
  · refine Agree.ite ?_ ?_
    · exact hag
    · refine Agree.ite ?_ ?_
      · refine State.irq_touch (sub_trans (by decide) hmm) ?_
        refine Agree.fsetB ?_ (sub_bit hmm (by decide)) _ _
        exact hag
      · extract_lets +onlyGivenNames -merge -useContext -underBinder x195
        try clear_value x195
        extract_lets +onlyGivenNames -merge -useContext -underBinder x196
        try clear_value x196
        extract_lets +onlyGivenNames -merge -useContext -underBinder x197
        have h198 : Agree MM so x197 := by
          subst x197
          refine State.darnShow_touch (sub_trans (by decide) hmm) ?_
          refine Agree.set_darn ?_ (sub_bit hmm (by decide)) _
          exact hag
        try clear_value x197
        refine Agree.ite ?_ ?_
        · refine State.irq_touch (sub_trans (by decide) hmm) ?_
          exact h198
        · exact h198

theorem State.proposeBank_touch {MM : Nat} {so : State} {s : Sys2Proof.Machine.State} {d : ℕ} {b : ℕ}
    (hmm : Machine.sub 0x43e00000000000000000000000000000000000000000000000000000000000000000000000000000000000010000000000000000180000000000080200 MM = true) (hag : Agree MM so s) :
    Agree MM so (@State.proposeBank s d b) := by
  unfold State.proposeBank
  refine Agree.ite ?_ ?_
  · exact hag
  · extract_lets +onlyGivenNames -merge -useContext -underBinder x199
    have h200 : Agree MM so x199 := by
      subst x199
      refine State.propose_touch (sub_trans (by decide) hmm) ?_
      exact hag
    try clear_value x199
    refine Agree.ite ?_ ?_
    · refine Agree.set_darn ?_ (sub_bit hmm (by decide)) _
      exact h200
    · exact h200

theorem State.scrubRow_touch {MM : Nat} {so : State} {s : Sys2Proof.Machine.State} {a : ℕ}
    (hmm : Machine.sub 0x8 MM = true) (hag : Agree MM so s) :
    Agree MM so (@State.scrubRow s a) := by
  unfold State.scrubRow
  refine Agree.set_ecc ?_ (sub_bit hmm (by decide)) _
  exact hag

theorem State.rowTrigger_touch {MM : Nat} {so : State} {s : Sys2Proof.Machine.State} {a : ℕ}
    (hmm : Machine.sub 0x43e00000000000000000000000000000000000000000000000000000000000000000000000000000000000010000000000000000180000000000080208 MM = true) (hag : Agree MM so s) :
    Agree MM so (@State.rowTrigger s a) := by
  unfold State.rowTrigger
  split
  · exact hag
  · refine Agree.ite ?_ ?_
    · exact hag
    · extract_lets +onlyGivenNames -merge -useContext -underBinder x201
      try clear_value x201
      extract_lets +onlyGivenNames -merge -useContext -underBinder x202
      try clear_value x202
      extract_lets +onlyGivenNames -merge -useContext -underBinder x203
      try clear_value x203
      extract_lets +onlyGivenNames -merge -useContext -underBinder x204
      try clear_value x204
      extract_lets +onlyGivenNames -merge -useContext -underBinder x205
      try clear_value x205
      extract_lets +onlyGivenNames -merge -useContext -underBinder x206
      have h207 : Agree MM so x206 := by
        subst x206
        refine Agree.set_darn ?_ (sub_bit hmm (by decide)) _
        exact hag
      try clear_value x206
      refine Agree.ite ?_ ?_
      · refine State.darnLog_touch (sub_trans (by decide) hmm) ?_
        exact h207
      · split
        · refine State.proposeBank_touch (sub_trans (by decide) hmm) ?_
          exact h207
        · extract_lets +onlyGivenNames -merge -useContext -underBinder x208
          try clear_value x208
          extract_lets +onlyGivenNames -merge -useContext -underBinder x209
          have h210 : Agree MM so x209 := by
            subst x209
            refine Agree.set_darn ?_ (sub_bit hmm (by decide)) _
            exact h207
          try clear_value x209
          refine State.darnDone_touch (sub_trans (by decide) hmm) ?_
          refine State.scrubRow_touch (sub_trans (by decide) hmm) ?_
          exact h210

theorem State.rowCorrected_touch {MM : Nat} {so : State} {s : Sys2Proof.Machine.State} {a : ℕ}
    (hmm : Machine.sub 0x43e00000000000000000000000000000000000000000000000000000000000000000000000000000000000010000000000000000180000000000080208 MM = true) (hag : Agree MM so s) :
    Agree MM so (@State.rowCorrected s a) := by
  unfold State.rowCorrected
  split
  · exact hag
  · refine Agree.ite ?_ ?_
    · exact hag
    · extract_lets +onlyGivenNames -merge -useContext -underBinder x211
      try clear_value x211
      extract_lets +onlyGivenNames -merge -useContext -underBinder x212
      try clear_value x212
      extract_lets +onlyGivenNames -merge -useContext -underBinder x213
      try clear_value x213
      extract_lets +onlyGivenNames -merge -useContext -underBinder x214
      try clear_value x214
      extract_lets +onlyGivenNames -merge -useContext -underBinder x215
      try clear_value x215
      extract_lets +onlyGivenNames -merge -useContext -underBinder x216
      try clear_value x216
      extract_lets +onlyGivenNames -merge -useContext -underBinder x217
      try clear_value x217
      extract_lets +onlyGivenNames -merge -useContext -underBinder x218
      try clear_value x218
      extract_lets +onlyGivenNames -merge -useContext -underBinder x219
      have h220 : Agree MM so x219 := by
        subst x219
        refine Agree.set_darn ?_ (sub_bit hmm (by decide)) _
        exact hag
      try clear_value x219
      refine Agree.ite ?_ ?_
      · refine State.rowTrigger_touch (sub_trans (by decide) hmm) ?_
        exact h220
      · exact h220

theorem State.sramRead_touch {MM : Nat} {so : State} {s : Sys2Proof.Machine.State} {a : ℕ} {n : ℕ}
    (hmm : Machine.sub 0x43e00000000000000000000000000000000000000000000000000000000000000000000000000000000000010000000000000000180000000000080208 MM = true) (hag : Agree MM so s) :
    AgreeP MM so (@State.sramRead s a n) := by
  unfold State.sramRead
  refine AgreeP.foldl ?_ (fun q222 y221 h223 => ?_) _
  · refine AgreeP.mk ?_
    exact hag
  · refine AgreeP.ite ?_ ?_
    · exact h223
    · refine AgreeP.ite ?_ ?_
      · refine AgreeP.mk ?_
        refine State.rowTrigger_touch (sub_trans (by decide) hmm) ?_
        refine AgreeP.fst ?_
        exact h223
      · refine AgreeP.mk ?_
        refine State.rowCorrected_touch (sub_trans (by decide) hmm) ?_
        refine AgreeP.fst ?_
        exact h223

theorem State.sramOwnRead_touch {MM : Nat} {so : State} {s : Sys2Proof.Machine.State} {src : ℕ} {a : ℕ} {n : ℕ}
    (hmm : Machine.sub 0x43e0000000000000000000000000000000000000000000000000000000000000000000000000000000000001000000000000001c180000000000080208 MM = true) (hag : Agree MM so s) :
    AgreeP MM so (@State.sramOwnRead s src a n) := by
  unfold State.sramOwnRead
  extract_lets +onlyGivenNames -merge -useContext -underBinder x224
  try clear_value x224
  refine AgreeP.ite ?_ ?_
  · refine AgreeP.mk ?_
    refine State.logBusErr_touch (sub_trans (by decide) hmm) ?_
    exact hag
  · split
    · rename_i heq
      have h225 := AgreeP.of_eq (M := MM) (s0 := so) heq (by
        refine State.sramRead_touch (sub_trans (by decide) hmm) ?_
        exact hag
        )
      refine AgreeP.mk ?_
      refine Agree.ite ?_ ?_
      · refine State.logBusErr_touch (sub_trans (by decide) hmm) ?_
        exact h225
      · exact h225

theorem State.sramWritten_touch {MM : Nat} {so : State} {s : Sys2Proof.Machine.State} {a : ℕ} {n : ℕ}
    (hmm : Machine.sub 0x8 MM = true) (hag : Agree MM so s) :
    Agree MM so (@State.sramWritten s a n) := by
  unfold State.sramWritten
  refine Agree.set_ecc ?_ (sub_bit hmm (by decide)) _
  exact hag

theorem State.retnBusy_touch {MM : Nat} {so : State} {s : Sys2Proof.Machine.State}
    (hmm : Machine.sub 0x80000000000000000 MM = true) (hag : Agree MM so s) :
    Agree MM so (@State.retnBusy s) := by
  unfold State.retnBusy
  refine State.setBusy_touch (sub_trans (by decide) hmm) ?_
  exact hag

theorem State.unverClear_touch {MM : Nat} {so : State} {s : Sys2Proof.Machine.State} {d : ℕ} {b : ℕ}
    (hmm : Machine.sub 0x18000000000000000180000000000000200 MM = true) (hag : Agree MM so s) :
    Agree MM so (@State.unverClear s d b) := by
  unfold State.unverClear
  extract_lets +onlyGivenNames -merge -useContext -underBinder x656
  have h657 : Agree MM so x656 := by
    subst x656
    refine Agree.fsetBit ?_ (sub_bit hmm (by decide)) _ _ _
    exact hag
  try clear_value x656
  refine Agree.ite ?_ ?_
  · refine State.irq_touch (sub_trans (by decide) hmm) ?_
    refine State.retnBusy_touch (sub_trans (by decide) hmm) ?_
    exact h657
  · exact h657

theorem State.unverWrite_touch {MM : Nat} {so : State} {s : Sys2Proof.Machine.State} {d : ℕ} {off : ℕ} {n : ℕ}
    (hmm : Machine.sub 0x18400000000000000180000000000000200 MM = true) (hag : Agree MM so s) :
    Agree MM so (@State.unverWrite s d off n) := by
  unfold State.unverWrite
  refine Agree.forEach ?_ (fun y658 t659 h660 => ?_) _
  · exact hag
  · extract_lets +onlyGivenNames -merge -useContext -underBinder x661
    try clear_value x661
    refine Agree.ite ?_ ?_
    · refine Agree.fsetB ?_ (sub_bit hmm (by decide)) _ _
      refine State.unverClear_touch (sub_trans (by decide) hmm) ?_
      exact h660
    · exact h660

theorem State.sramOwnWrite_touch {MM : Nat} {so : State} {s : Sys2Proof.Machine.State} {src : ℕ} {a : ℕ} {bs : List Sys2Proof.Byte}
    (hmm : Machine.sub 0x1840000000000001c18000000000000020c MM = true) (hag : Agree MM so s) :
    Agree MM so (@State.sramOwnWrite s src a bs) := by
  unfold State.sramOwnWrite
  split
  · exact hag
  · refine Agree.ite ?_ ?_
    · refine State.putBytes_touch (sub_trans (by decide) hmm) ?_
      refine State.sramWritten_touch (sub_trans (by decide) hmm) ?_
      refine State.unverWrite_touch (sub_trans (by decide) hmm) ?_
      exact hag
    · refine State.logBusErr_touch (sub_trans (by decide) hmm) ?_
      exact hag

theorem State.mapBank_touch {MM : Nat} {so : State} {s : Sys2Proof.Machine.State} {d : ℕ} {b : ℕ} {p : ℕ}
    (hmm : Machine.sub 0x80000 MM = true) (hag : Agree MM so s) :
    Agree MM so (@State.mapBank s d b p) := by
  unfold State.mapBank
  extract_lets +onlyGivenNames -merge -useContext -underBinder x1014
  try clear_value x1014
  refine Agree.set_darn ?_ (sub_bit hmm (by decide)) _
  exact hag

theorem State.darnApply_touch {MM : Nat} {so : State} {s : Sys2Proof.Machine.State}
    (hmm : Machine.sub 0x273e00000000000000000000000000000000000000000000000000000000000000000000000000000000000010000000000000000180000000000080200 MM = true) (hag : Agree MM so s) :
    AgreeP MM so (@State.darnApply s) := by
  unfold State.darnApply
  extract_lets +onlyGivenNames -merge -useContext -underBinder x1015
  try clear_value x1015
  extract_lets +onlyGivenNames -merge -useContext -underBinder x1016
  try clear_value x1016
  extract_lets +onlyGivenNames -merge -useContext -underBinder x1017
  try clear_value x1017
  extract_lets +onlyGivenNames -merge -useContext -underBinder x1018
  try clear_value x1018
  extract_lets +onlyGivenNames -merge -useContext -underBinder x1019
  try clear_value x1019
  extract_lets +onlyGivenNames -merge -useContext -underBinder x1020
  try clear_value x1020
  refine AgreeP.ite ?_ ?_
  · refine AgreeP.mk ?_
    exact hag
  · refine AgreeP.ite ?_ ?_
    · refine AgreeP.ite ?_ ?_
      · refine AgreeP.mk ?_
        exact hag
      · refine AgreeP.ite ?_ ?_
        · refine AgreeP.mk ?_
          exact hag
        · refine AgreeP.ite ?_ ?_
          · refine AgreeP.mk ?_
            exact hag
          · refine AgreeP.mk ?_
            refine Agree.fsetBit ?_ (sub_bit hmm (by decide)) _ _ _
            exact hag
    · refine AgreeP.ite ?_ ?_
      · extract_lets +onlyGivenNames -merge -useContext -underBinder x1021
        try clear_value x1021
        extract_lets +onlyGivenNames -merge -useContext -underBinder x1022
        try clear_value x1022
        refine AgreeP.ite ?_ ?_
        · refine AgreeP.mk ?_
          exact hag
        · refine AgreeP.ite ?_ ?_
          · refine AgreeP.mk ?_
            exact hag
          · refine AgreeP.ite ?_ ?_
            · refine AgreeP.mk ?_
              exact hag
            · refine AgreeP.mk ?_
              refine State.darnDone_touch (sub_trans (by decide) hmm) ?_
              refine Agree.setReg ?_ (sub_bit hmm (by decide)) _ _
              exact hag
      · refine AgreeP.ite ?_ ?_
        · refine AgreeP.ite ?_ ?_
          · refine AgreeP.mk ?_
            exact hag
          · refine AgreeP.ite ?_ ?_
            · refine AgreeP.mk ?_
              exact hag
            · refine AgreeP.ite ?_ ?_
              · refine AgreeP.mk ?_
                exact hag
              · refine AgreeP.ite ?_ ?_
                · refine AgreeP.mk ?_
                  exact hag
                · refine AgreeP.mk ?_
                  refine Agree.fsetBit ?_ (sub_bit hmm (by decide)) _ _ _
                  refine Agree.set_darn ?_ (sub_bit hmm (by decide)) _
                  exact hag
        · refine AgreeP.ite ?_ ?_
          · extract_lets +onlyGivenNames -merge -useContext -underBinder x1023
            try clear_value x1023
            extract_lets +onlyGivenNames -merge -useContext -underBinder x1024
            try clear_value x1024
            refine AgreeP.ite ?_ ?_
            · refine AgreeP.mk ?_
              exact hag
            · refine AgreeP.ite ?_ ?_
              · refine AgreeP.mk ?_
                exact hag
              · refine AgreeP.ite ?_ ?_
                · refine AgreeP.mk ?_
                  exact hag
                · refine AgreeP.ite ?_ ?_
                  · refine AgreeP.mk ?_
                    exact hag
                  · refine AgreeP.mk ?_
                    refine Agree.set_darn ?_ (sub_bit hmm (by decide)) _
                    exact hag
          · refine AgreeP.ite ?_ ?_
            · extract_lets +onlyGivenNames -merge -useContext -underBinder x1025
              try clear_value x1025
              refine AgreeP.ite ?_ ?_
              · refine AgreeP.mk ?_
                exact hag
              · refine AgreeP.ite ?_ ?_
                · refine AgreeP.mk ?_
                  exact hag
                · refine AgreeP.ite ?_ ?_
                  · refine AgreeP.mk ?_
                    exact hag
                  · refine AgreeP.ite ?_ ?_
                    · refine AgreeP.mk ?_
                      exact hag
                    · refine AgreeP.mk ?_
                      refine State.mapBank_touch (sub_trans (by decide) hmm) ?_
                      exact hag
            · refine AgreeP.ite ?_ ?_
              · extract_lets +onlyGivenNames -merge -useContext -underBinder x1026
                try clear_value x1026
                extract_lets +onlyGivenNames -merge -useContext -underBinder x1027
                try clear_value x1027
                refine AgreeP.ite ?_ ?_
                · refine AgreeP.mk ?_
                  exact hag
                · refine AgreeP.ite ?_ ?_
                  · refine AgreeP.mk ?_
                    exact hag
                  · refine AgreeP.ite ?_ ?_
                    · refine AgreeP.mk ?_
                      exact hag
                    · refine AgreeP.mk ?_
                      refine Agree.fsetBit ?_ (sub_bit hmm (by decide)) _ _ _
                      exact hag
              · refine AgreeP.ite ?_ ?_
                · refine AgreeP.ite ?_ ?_
                  · refine AgreeP.mk ?_
                    exact hag
                  · refine AgreeP.mk ?_
                    refine Agree.set_darn ?_ (sub_bit hmm (by decide)) _
                    exact hag
                · refine AgreeP.ite ?_ ?_
                  · refine AgreeP.ite ?_ ?_
                    · refine AgreeP.mk ?_
                      exact hag
                    · refine AgreeP.ite ?_ ?_
                      · refine AgreeP.mk ?_
                        refine Agree.set_darn ?_ (sub_bit hmm (by decide)) _
                        exact hag
                      · refine AgreeP.mk ?_
                        exact hag
                  · refine AgreeP.mk ?_
                    exact hag

theorem State.darnIn_touch {MM : Nat} {so : State} {s : Sys2Proof.Machine.State}
    (hmm : Machine.sub 0x27be00000000000000000000000000000000000000000000000000000000000000000000000000000000000010000000000000000180000000000080200 MM = true) (hag : Agree MM so s) :
    Agree MM so (@State.darnIn s) := by
  unfold State.darnIn
  split
  · rename_i heq
    have h1028 := AgreeP.of_eq (M := MM) (s0 := so) heq (by
      refine State.darnApply_touch (sub_trans (by decide) hmm) ?_
      exact hag
      )
    refine State.darnShow_touch (sub_trans (by decide) hmm) ?_
    refine Agree.fsetB ?_ (sub_bit hmm (by decide)) _ _
    refine Agree.fset ?_ (sub_bit hmm (by decide)) _ _
    exact h1028

theorem State.popProp_touch {MM : Nat} {so : State} {s : Sys2Proof.Machine.State}
    (hmm : Machine.sub 0x43e00000000000000000000000000000000000000000000000000000000000000000000000000000000000010000000000000000180000000000080200 MM = true) (hag : Agree MM so s) :
    Agree MM so (@State.popProp s) := by
  unfold State.popProp
  extract_lets +onlyGivenNames -merge -useContext -underBinder x1241
  try clear_value x1241
  extract_lets +onlyGivenNames -merge -useContext -underBinder x1242
  have h1243 : Agree MM so x1242 := by
    subst x1242
    refine State.darnShow_touch (sub_trans (by decide) hmm) ?_
    refine Agree.set_darn ?_ (sub_bit hmm (by decide)) _
    exact hag
  try clear_value x1242
  refine Agree.ite ?_ ?_
  · exact h1243
  · refine State.irq_touch (sub_trans (by decide) hmm) ?_
    exact h1243

theorem State.trackerExpire_touch {MM : Nat} {so : State} {s : Sys2Proof.Machine.State} {d : ℕ} {i : ℕ}
    (hmm : Machine.sub 0x80000 MM = true) (hag : Agree MM so s) :
    Agree MM so (@State.trackerExpire s d i) := by
  unfold State.trackerExpire
  refine Agree.ite ?_ ?_
  · exact hag
  · split
    · refine Agree.set_darn ?_ (sub_bit hmm (by decide)) _
      exact hag
    · exact hag

end Sys2Proof.Machine
end

