-- ==== Sys2Proof/Laws/Touch/Adc.lean ====
section
/-!
SUPPORT. What the functions of Machine/Adc.lean can touch: one lemma per function, its mask after `sub`.
-/

namespace Sys2Proof.Machine

theorem State.wrIgnored_touch {MM : Nat} {so : State} {s : Sys2Proof.Machine.State} {p : ℕ}
    (hmm : Machine.sub 0x4000000000000000000000000010000000000000000100000000000000200 MM = true) (hag : Agree MM so s) :
    Agree MM so (@State.wrIgnored s p) := by
  unfold State.wrIgnored
  refine State.irq_touch (sub_trans (by decide) hmm) ?_
  refine Agree.fsetB ?_ (sub_bit hmm (by decide)) _ _
  exact hag

theorem State.scanDone_touch {MM : Nat} {so : State} {s : Sys2Proof.Machine.State}
    (hmm : Machine.sub 0x100000000000000000000000000010000000000000000100000000000000200 MM = true) (hag : Agree MM so s) :
    Agree MM so (@State.scanDone s) := by
  unfold State.scanDone
  refine State.pulse_touch (sub_trans (by decide) hmm) ?_
  refine State.irq_touch (sub_trans (by decide) hmm) ?_
  refine Agree.fsetB ?_ (sub_bit hmm (by decide)) _ _
  exact hag

theorem State.missResult_touch {MM : Nat} {so : State} {s : Sys2Proof.Machine.State} {i : ℕ}
    (hmm : Machine.sub 0x400000000000000000000000000010000000000000000100000000000000200 MM = true) (hag : Agree MM so s) :
    Agree MM so (@State.missResult s i) := by
  unfold State.missResult
  refine State.irq_touch (sub_trans (by decide) hmm) ?_
  refine Agree.fsetBit ?_ (sub_bit hmm (by decide)) _ _ _
  exact hag

theorem State.scanResume_touch {MM : Nat} {so : State} {s : Sys2Proof.Machine.State}
    (hmm : Machine.sub 0x500000000000000000000000000010000000000000000100000000000100200 MM = true) (hag : Agree MM so s) :
    Agree MM so (@State.scanResume s) := by
  unfold State.scanResume
  split
  · exact hag
  · refine State.scanDone_touch (sub_trans (by decide) hmm) ?_
    refine Agree.forEach ?_ (fun y110 t111 h112 => ?_) _
    · refine Agree.set_adc ?_ (sub_bit hmm (by decide)) _
      exact hag
    · refine State.missResult_touch (sub_trans (by decide) hmm) ?_
      exact h112

theorem State.setSlice_touch {MM : Nat} {so : State} {s : Sys2Proof.Machine.State} {p : ℕ} {x : Sys2Proof.Machine.Slice}
    (hmm : Machine.sub 0x100000 MM = true) (hag : Agree MM so s) :
    Agree MM so (@State.setSlice s p x) := by
  unfold State.setSlice
  refine Agree.set_adc ?_ (sub_bit hmm (by decide)) _
  exact hag

theorem State.failSlice_touch {MM : Nat} {so : State} {s : Sys2Proof.Machine.State} {p : ℕ} {darn : Bool}
    (hmm : Machine.sub 0x53e00000000000000000000000000000000000000000000000000000000000400000000000000000000000010000000000000000180000000000180200 MM = true) (hag : Agree MM so s) :
    Agree MM so (@State.failSlice s p darn) := by
  unfold State.failSlice
  extract_lets +onlyGivenNames -merge -useContext -underBinder x139
  have h140 : Agree MM so x139 := by
    subst x139
    refine State.irq_touch (sub_trans (by decide) hmm) ?_
    refine Agree.fset ?_ (sub_bit hmm (by decide)) _ _
    exact hag
  try clear_value x139
  extract_lets +onlyGivenNames -merge -useContext -underBinder x141
  try clear_value x141
  extract_lets +onlyGivenNames -merge -useContext -underBinder x142
  have h143 : Agree MM so x142 := by
    subst x142
    refine State.setSlice_touch (sub_trans (by decide) hmm) ?_
    exact h140
  try clear_value x142
  refine Agree.ite ?_ ?_
  · refine State.darnDone_touch (sub_trans (by decide) hmm) ?_
    refine Agree.fsetBit ?_ (sub_bit hmm (by decide)) _ _ _
    exact h143
  · exact h143

theorem State.swapIgnored_touch {MM : Nat} {so : State} {s : Sys2Proof.Machine.State} {p : ℕ}
    (hmm : Machine.sub 0x6000000000000000000000000010000000000000000100000000000000200 MM = true) (hag : Agree MM so s) :
    Agree MM so (@State.swapIgnored s p) := by
  unfold State.swapIgnored
  refine State.wrIgnored_touch (sub_trans (by decide) hmm) ?_
  refine Agree.fsetB ?_ (sub_bit hmm (by decide)) _ _
  exact hag

theorem State.startCal_touch {MM : Nat} {so : State} {s : Sys2Proof.Machine.State} {p : ℕ}
    (hmm : Machine.sub 0x6400000000000000000000000010000000000000000100000000000100200 MM = true) (hag : Agree MM so s) :
    Agree MM so (@State.startCal s p) := by
  unfold State.startCal
  extract_lets +onlyGivenNames -merge -useContext -underBinder x144
  have h145 : Agree MM so x144 := by
    subst x144
    refine Agree.ite ?_ ?_
    · refine State.swapIgnored_touch (sub_trans (by decide) hmm) ?_
      exact hag
    · exact hag
  try clear_value x144
  extract_lets +onlyGivenNames -merge -useContext -underBinder x146
  have h147 : Agree MM so x146 := by
    subst x146
    refine Agree.fset ?_ (sub_bit hmm (by decide)) _ _
    exact h145
  try clear_value x146
  refine State.setSlice_touch (sub_trans (by decide) hmm) ?_
  exact h147

theorem State.showSpare_touch {MM : Nat} {so : State} {s : Sys2Proof.Machine.State}
    (hmm : Machine.sub 0x280000000000000000000000000000000000000000000000000000000000 MM = true) (hag : Agree MM so s) :
    Agree MM so (@State.showSpare s) := by
  unfold State.showSpare
  extract_lets +onlyGivenNames -merge -useContext -underBinder x148
  try clear_value x148
  extract_lets +onlyGivenNames -merge -useContext -underBinder x149
  try clear_value x149
  refine Agree.fset ?_ (sub_bit hmm (by decide)) _ _
  refine Agree.fsetB ?_ (sub_bit hmm (by decide)) _ _
  exact hag

theorem State.initStart_touch {MM : Nat} {so : State} {s : Sys2Proof.Machine.State}
    (hmm : Machine.sub 0x53e00000000000000000000000000000000000000000000000000000000006680000000000000000000000010000000000000000180000000000180200 MM = true) (hag : Agree MM so s) :
    Agree MM so (@State.initStart s) := by
  unfold State.initStart
  extract_lets +onlyGivenNames -merge -useContext -underBinder x150
  try clear_value x150
  extract_lets +onlyGivenNames -merge -useContext -underBinder x151
  have h152 : Agree MM so x151 := by
    subst x151
    refine Agree.set_adc ?_ (sub_bit hmm (by decide)) _
    exact hag
  try clear_value x151
  extract_lets +onlyGivenNames -merge -useContext -underBinder x153
  have h154 : Agree MM so x153 := by
    subst x153
    refine State.setBusy_touch (sub_trans (by decide) hmm) ?_
    refine Agree.fsetB ?_ (sub_bit hmm (by decide)) _ _
    exact h152
  try clear_value x153
  extract_lets +onlyGivenNames -merge -useContext -underBinder x155
  have h156 : Agree MM so x155 := by
    subst x155
    refine Agree.forEach ?_ (fun y157 t158 h159 => ?_) _
    · exact h154
    · refine Agree.ite ?_ ?_
      · exact h159
      · refine Agree.ite ?_ ?_
        · refine State.failSlice_touch (sub_trans (by decide) hmm) ?_
          exact h159
        · refine State.startCal_touch (sub_trans (by decide) hmm) ?_
          refine Agree.ite ?_ ?_
          · refine Agree.fset ?_ (sub_bit hmm (by decide)) _ _
            exact h159
          · exact h159
  try clear_value x155
  refine State.showSpare_touch (sub_trans (by decide) hmm) ?_
  exact h156

theorem State.adcResume_touch {MM : Nat} {so : State} {s : Sys2Proof.Machine.State}
    (hmm : Machine.sub 0x53e00000000000000000000000000000000000000000000000000000000506680000000000000000000000010000000000000000180000000000180200 MM = true) (hag : Agree MM so s) :
    Agree MM so (@State.adcResume s) := by
  unfold State.adcResume
  extract_lets +onlyGivenNames -merge -useContext -underBinder x160
  have h161 : Agree MM so x160 := by
    subst x160
    refine State.scanResume_touch (sub_trans (by decide) hmm) ?_
    exact hag
  try clear_value x160
  refine Agree.ite ?_ ?_
  · refine State.initStart_touch (sub_trans (by decide) hmm) ?_
    exact h161
  · refine Agree.forEach ?_ (fun y162 t163 h164 => ?_) _
    · exact h161
    · refine State.setSlice_touch (sub_trans (by decide) hmm) ?_
      exact h164

theorem State.setScan_touch {MM : Nat} {so : State} {s : Sys2Proof.Machine.State} {t : Option ℕ}
    (hmm : Machine.sub 0x80000000000100000 MM = true) (hag : Agree MM so s) :
    Agree MM so (@State.setScan s t) := by
  unfold State.setScan
  refine State.setBusy_touch (sub_trans (by decide) hmm) ?_
  refine Agree.set_adc ?_ (sub_bit hmm (by decide)) _
  exact hag

theorem State.scanTrigger_touch {MM : Nat} {so : State} {s : Sys2Proof.Machine.State} {src : ℕ}
    (hmm : Machine.sub 0x180000000000000000000000000010000000000000000180000000000100200 MM = true) (hag : Agree MM so s) :
    Agree MM so (@State.scanTrigger s src) := by
  unfold State.scanTrigger
  refine Agree.ite ?_ ?_
  · exact hag
  · refine Agree.ite ?_ ?_
    · refine State.irq_touch (sub_trans (by decide) hmm) ?_
      refine Agree.fsetB ?_ (sub_bit hmm (by decide)) _ _
      exact hag
    · extract_lets +onlyGivenNames -merge -useContext -underBinder x337
      have h338 : Agree MM so x337 := by
        subst x337
        refine Agree.ite ?_ ?_
        · refine Agree.fsetB ?_ (sub_bit hmm (by decide)) _ _
          exact hag
        · exact hag
      try clear_value x337
      refine State.setScan_touch (sub_trans (by decide) hmm) ?_
      exact h338

theorem State.withOld_touch {MM : Nat} {so : State} {s : Sys2Proof.Machine.State} {olds : List (ℕ × Sys2Proof.Word)} {skip : ℕ → Sys2Proof.Word}
    (hmm : Machine.sub 0xfffffffffffffffffffffffffffffffffffffffffffffffffffffffffffffffffffffffffffffffffffffffffffffffffffffffffffffff0000000000000000 MM = true) (hag : Agree MM so s) :
    Agree MM so (@State.withOld s olds skip) := by
  unfold State.withOld
  refine Agree.forEach ?_ (fun y498 t499 h500 => ?_) _
  · exact hag
  · split
    · refine Agree.setReg ?_ (allBit (sub_trans (by decide) hmm) _) _ _
      exact h500
    · exact h500

theorem State.putBack_touch {MM : Nat} {so : State} {s : Sys2Proof.Machine.State} {live : Sys2Proof.Machine.State} {olds : List (ℕ × Sys2Proof.Word)}
    (hmm : Machine.sub 0xfffffffffffffffffffffffffffffffffffffffffffffffffffffffffffffffffffffffffffffffffffffffffffffffffffffffffffffff0000000000000000 MM = true) (hag : Agree MM so s) :
    Agree MM so (@State.putBack s live olds) := by
  unfold State.putBack
  refine State.withOld_touch (sub_trans (by decide) hmm) ?_
  exact hag

theorem State.driftSample_touch {MM : Nat} {so : State} {s : Sys2Proof.Machine.State} {p : ℕ} {lev : ℕ} {x : ℤ}
    (hmm : Machine.sub 0x1c00000000000000000000000010000000000000000100000000000100200 MM = true) (hag : Agree MM so s) :
    Agree MM so (@State.driftSample s p lev x) := by
  unfold State.driftSample
  extract_lets +onlyGivenNames -merge -useContext -underBinder x501
  try clear_value x501
  extract_lets +onlyGivenNames -merge -useContext -underBinder x502
  try clear_value x502
  split
  · extract_lets +onlyGivenNames -merge -useContext -underBinder x503
    try clear_value x503
    refine Agree.ite ?_ ?_
    · refine State.setSlice_touch (sub_trans (by decide) hmm) ?_
      exact hag
    · split
      · split
        · split
          · extract_lets +onlyGivenNames -merge -useContext -underBinder x504
            try clear_value x504
            extract_lets +onlyGivenNames -merge -useContext -underBinder x505
            try clear_value x505
            extract_lets +onlyGivenNames -merge -useContext -underBinder x506
            try clear_value x506
            extract_lets +onlyGivenNames -merge -useContext -underBinder x507
            try clear_value x507
            extract_lets +onlyGivenNames -merge -useContext -underBinder x508
            try clear_value x508
            extract_lets +onlyGivenNames -merge -useContext -underBinder x509
            try clear_value x509
            extract_lets +onlyGivenNames -merge -useContext -underBinder x510
            have h511 : Agree MM so x510 := by
              subst x510
              refine State.setSlice_touch (sub_trans (by decide) hmm) ?_
              exact hag
            try clear_value x510
            extract_lets +onlyGivenNames -merge -useContext -underBinder x512
            have h513 : Agree MM so x512 := by
              subst x512
              refine Agree.setReg ?_ (sub_bit hmm (by decide)) _ _
              exact h511
            try clear_value x512
            extract_lets +onlyGivenNames -merge -useContext -underBinder x514
            have h515 : Agree MM so x514 := by
              subst x514
              refine Agree.setReg ?_ (sub_bit hmm (by decide)) _ _
              exact h513
            try clear_value x514
            extract_lets +onlyGivenNames -merge -useContext -underBinder x516
            have h517 : Agree MM so x516 := by
              subst x516
              refine Agree.fsetB ?_ (sub_bit hmm (by decide)) _ _
              exact h515
            try clear_value x516
            refine Agree.ite ?_ ?_
            · refine State.irq_touch (sub_trans (by decide) hmm) ?_
              refine Agree.fsetB ?_ (sub_bit hmm (by decide)) _ _
              exact h517
            · exact h517

theorem State.fillers_touch {MM : Nat} {so : State} {s : Sys2Proof.Machine.State} {x : Sys2Proof.Conversions} {l : ℕ} {used : ℕ} {len : ℕ} {till : ℕ}
    (hmm : Machine.sub 0x200000000000000000000000010000000000000000100000000000100200 MM = true) (hag : Agree MM so s) :
    Agree MM so (@State.fillers s x l used len till) := by
  unfold State.fillers
  extract_lets +onlyGivenNames -merge -useContext -underBinder x518
  try clear_value x518
  extract_lets +onlyGivenNames -merge -useContext -underBinder x519
  try clear_value x519
  extract_lets +onlyGivenNames -merge -useContext -underBinder x520
  try clear_value x520
  extract_lets +onlyGivenNames -merge -useContext -underBinder x521
  try clear_value x521
  extract_lets +onlyGivenNames -merge -useContext -underBinder x522
  try clear_value x522
  extract_lets +onlyGivenNames -merge -useContext -underBinder x523
  have h524 : Agree MM so x523 := by
    subst x523
    refine Agree.forEach ?_ (fun y525 t526 h527 => ?_) _
    · exact hag
    · extract_lets +onlyGivenNames -merge -useContext -underBinder x528
      try clear_value x528
      extract_lets +onlyGivenNames -merge -useContext -underBinder x529
      try clear_value x529
      refine Agree.ite ?_ ?_
      · refine State.irq_touch (sub_trans (by decide) hmm) ?_
        refine Agree.fsetBit ?_ (sub_bit hmm (by decide)) _ _ _
        exact h527
      · exact h527
  try clear_value x523
  refine Agree.set_adc ?_ (sub_bit hmm (by decide)) _
  exact h524

theorem State.putResult_touch {MM : Nat} {so : State} {s : Sys2Proof.Machine.State} {i : ℕ} {num : ℕ} {v : ℤ}
    (hmm : Machine.sub 0x1200000000000000000000000000010000000000000000100000000000000200 MM = true) (hag : Agree MM so s) :
    Agree MM so (@State.putResult s i num v) := by
  unfold State.putResult
  extract_lets +onlyGivenNames -merge -useContext -underBinder x530
  have h531 : Agree MM so x530 := by
    subst x530
    refine Agree.ite ?_ ?_
    · refine State.irq_touch (sub_trans (by decide) hmm) ?_
      refine Agree.fsetBit ?_ (sub_bit hmm (by decide)) _ _ _
      exact hag
    · exact hag
  try clear_value x530
  refine Agree.setReg ?_ (sub_bit hmm (by decide)) _ _
  exact h531

theorem State.convert_touch {MM : Nat} {so : State} {s : Sys2Proof.Machine.State} {o : Sys2Proof.Machine.OpenEpoch} {till : ℕ}
    (hmm : Machine.sub 0x1701e00000000000000000000000010000000000000000100000000000100200 MM = true) (hag : Agree MM so s) :
    AgreeP MM so (@State.convert s o till) := by
  unfold State.convert
  extract_lets +onlyGivenNames -merge -useContext -underBinder x532
  try clear_value x532
  extract_lets +onlyGivenNames -merge -useContext -underBinder x533
  try clear_value x533
  extract_lets +onlyGivenNames -merge -useContext -underBinder x534
  try clear_value x534
  extract_lets +onlyGivenNames -merge -useContext -underBinder x535
  try clear_value x535
  extract_lets +onlyGivenNames -merge -useContext -underBinder x536
  try clear_value x536
  extract_lets +onlyGivenNames -merge -useContext -underBinder x537
  have h538 : Agree MM so x537 := by
    subst x537
    refine Agree.forEach ?_ (fun y539 t540 h541 => ?_) _
    · exact hag
    · refine Agree.ite ?_ ?_
      · refine State.irq_touch (sub_trans (by decide) hmm) ?_
        refine Agree.fsetB ?_ (sub_bit hmm (by decide)) _ _
        exact h541
      · exact h541
  try clear_value x537
  extract_lets +onlyGivenNames -merge -useContext -underBinder x542
  try clear_value x542
  extract_lets +onlyGivenNames -merge -useContext -underBinder x543
  try clear_value x543
  extract_lets +onlyGivenNames -merge -useContext -underBinder x544
  have h545 : Agree MM so x544 := by
    subst x544
    refine Agree.forEach ?_ (fun y546 t547 h548 => ?_) _
    · exact h538
    · extract_lets +onlyGivenNames -merge -useContext -underBinder x549
      try clear_value x549
      refine Agree.ite ?_ ?_
      · refine State.driftSample_touch (sub_trans (by decide) hmm) ?_
        exact h548
      · exact h548
  try clear_value x544
  extract_lets +onlyGivenNames -merge -useContext -underBinder x550
  try clear_value x550
  extract_lets +onlyGivenNames -merge -useContext -underBinder x551
  have h552 : Agree MM so x551 := by
    subst x551
    refine Agree.forEach ?_ (fun y553 t554 h555 => ?_) _
    · exact h545
    · refine State.fillers_touch (sub_trans (by decide) hmm) ?_
      exact h555
  try clear_value x551
  split
  · refine AgreeP.mk ?_
    exact h552
  · extract_lets +onlyGivenNames -merge -useContext -underBinder x556
    try clear_value x556
    extract_lets +onlyGivenNames -merge -useContext -underBinder x557
    have h558 : Agree MM so x557 := by
      subst x557
      refine Agree.forEach ?_ (fun y559 t560 h561 => ?_) _
      · exact h552
      · refine State.missResult_touch (sub_trans (by decide) hmm) ?_
        exact h561
    try clear_value x557
    extract_lets +onlyGivenNames -merge -useContext -underBinder x562
    try clear_value x562
    extract_lets +onlyGivenNames -merge -useContext -underBinder x563
    have h564 : Agree MM so x563 := by
      subst x563
      refine Agree.forEach ?_ (fun y565 t566 h567 => ?_) _
      · exact h558
      · refine State.putResult_touch (sub_trans (by decide) hmm) ?_
        exact h567
    try clear_value x563
    extract_lets +onlyGivenNames -merge -useContext -underBinder x568
    try clear_value x568
    refine AgreeP.ite ?_ ?_
    · refine AgreeP.mk ?_
      refine State.scanDone_touch (sub_trans (by decide) hmm) ?_
      exact h564
    · refine AgreeP.mk ?_
      refine Agree.set_adc ?_ (sub_bit hmm (by decide)) _
      exact h564

theorem State.epochCut_touch {MM : Nat} {so : State} {s : Sys2Proof.Machine.State}
    (hmm : Machine.sub 0xfffffffffffffffffffffffffffffffffffffffffffffffffffffffffffffffffffffffffffffffffffffffffffffffffffffffffffffff0000000000108200 MM = true) (hag : Agree MM so s) :
    Agree MM so (@State.epochCut s) := by
  unfold State.epochCut
  split
  · exact hag
  · extract_lets +onlyGivenNames -merge -useContext -underBinder x569
    try clear_value x569
    extract_lets +onlyGivenNames -merge -useContext -underBinder x570
    have h571 : Agree MM so x570 := by
      subst x570
      exact hag
    try clear_value x570
    extract_lets +onlyGivenNames -merge -useContext -underBinder x572
    have h573 : Agree MM so x572 := by
      subst x572
      refine State.withOld_touch (sub_trans (by decide) hmm) ?_
      exact hag
    try clear_value x572
    extract_lets +onlyGivenNames -merge -useContext -underBinder x574
    have h575 : Agree MM so x574 := by
      subst x574
      refine State.putBack_touch (sub_trans (by decide) hmm) ?_
      refine AgreeP.fst ?_
      refine State.convert_touch (sub_trans (by decide) hmm) ?_
      exact h573
    try clear_value x574
    refine Agree.set_epoch ?_ (sub_bit hmm (by decide)) _
    exact h575

theorem State.adcClockFail_touch {MM : Nat} {so : State} {s : Sys2Proof.Machine.State}
    (hmm : Machine.sub 0xfffffffffffffffffffffffffffffffffffffffffffffffffffffffffffffffffffffffffffffffffffffffffffffffffffffffffffffff0000000000108200 MM = true) (hag : Agree MM so s) :
    Agree MM so (@State.adcClockFail s) := by
  unfold State.adcClockFail
  extract_lets +onlyGivenNames -merge -useContext -underBinder x576
  have h577 : Agree MM so x576 := by
    subst x576
    refine State.epochCut_touch (sub_trans (by decide) hmm) ?_
    exact hag
  try clear_value x576
  refine Agree.set_adc ?_ (sub_bit hmm (by decide)) _
  exact h577

theorem State.cellsTrack_touch {MM : Nat} {so : State} {s : Sys2Proof.Machine.State}
    (hmm : Machine.sub 0x8000 MM = true) (hag : Agree MM so s) :
    Agree MM so (@State.cellsTrack s) := by
  unfold State.cellsTrack
  refine Agree.set_epoch ?_ (sub_bit hmm (by decide)) _
  exact hag

theorem State.scanAbandon_touch {MM : Nat} {so : State} {s : Sys2Proof.Machine.State}
    (hmm : Machine.sub 0x80000000000000000000000000000000000000000000080000000000108000 MM = true) (hag : Agree MM so s) :
    Agree MM so (@State.scanAbandon s) := by
  unfold State.scanAbandon
  extract_lets +onlyGivenNames -merge -useContext -underBinder x623
  have h624 : Agree MM so x623 := by
    subst x623
    refine State.setScan_touch (sub_trans (by decide) hmm) ?_
    refine Agree.fsetB ?_ (sub_bit hmm (by decide)) _ _
    exact hag
  try clear_value x623
  refine Agree.set_epoch_adc ?_ (sub_bit hmm (by decide)) (sub_bit hmm (by decide)) _ _
  exact h624

theorem State.chainResult_touch {MM : Nat} {so : State} {s : Sys2Proof.Machine.State} {c : ℕ} {num : ℕ} {v : ℤ}
    (hmm : Machine.sub 0x1200000000000000000000000000010000000000000000100000000000000200 MM = true) (hag : Agree MM so s) :
    Agree MM so (@State.chainResult s c num v) := by
  unfold State.chainResult
  refine Agree.ite ?_ ?_
  · exact hag
  · refine Agree.forEach ?_ (fun y742 t743 h744 => ?_) _
    · exact hag
    · refine State.putResult_touch (sub_trans (by decide) hmm) ?_
      exact h744

theorem State.adcSoftReset_touch {MM : Nat} {so : State} {s : Sys2Proof.Machine.State} {failed : List ℕ}
    (hmm : Machine.sub 0x400000000000000000000000000000000000000000000000000000100000 MM = true) (hag : Agree MM so s) :
    Agree MM so (@State.adcSoftReset s failed) := by
  unfold State.adcSoftReset
  extract_lets +onlyGivenNames -merge -useContext -underBinder x818
  try clear_value x818
  extract_lets +onlyGivenNames -merge -useContext -underBinder x819
  have h820 : Agree MM so x819 := by
    subst x819
    refine Agree.set_adc ?_ (sub_bit hmm (by decide)) _
    exact hag
  try clear_value x819
  refine Agree.forEach ?_ (fun y821 t822 h823 => ?_) _
  · exact h820
  · refine Agree.fset ?_ (sub_bit hmm (by decide)) _ _
    exact h823

theorem State.swapRequested_touch {MM : Nat} {so : State} {s : Sys2Proof.Machine.State} {p : ℕ}
    (hmm : Machine.sub 0x6000000000000000000000000010000000000000000100000000000000200 MM = true) (hag : Agree MM so s) :
    Agree MM so (@State.swapRequested s p) := by
  unfold State.swapRequested
  refine Agree.ite ?_ ?_
  · refine State.swapIgnored_touch (sub_trans (by decide) hmm) ?_
    exact hag
  · exact hag

theorem State.adcEvening_touch {MM : Nat} {so : State} {s : Sys2Proof.Machine.State}
    (hmm : Machine.sub 0x680000000000000000000000000000000000000000000000000000100000 MM = true) (hag : Agree MM so s) :
    Agree MM so (@State.adcEvening s) := by
  unfold State.adcEvening
  refine Agree.ite ?_ ?_
  · exact hag
  · refine State.showSpare_touch (sub_trans (by decide) hmm) ?_
    refine Agree.forEach ?_ (fun y1398 t1399 h1400 => ?_) _
    · exact hag
    · refine State.setSlice_touch (sub_trans (by decide) hmm) ?_
      refine Agree.fset ?_ (sub_bit hmm (by decide)) _ _
      exact h1400

theorem State.adcNoon_touch {MM : Nat} {so : State} {s : Sys2Proof.Machine.State}
    (hmm : Machine.sub 0x6680000000000000000000000010000000000000000100000000000100200 MM = true) (hag : Agree MM so s) :
    Agree MM so (@State.adcNoon s) := by
  unfold State.adcNoon
  refine Agree.ite ?_ ?_
  · exact hag
  · refine State.showSpare_touch (sub_trans (by decide) hmm) ?_
    refine Agree.forEach ?_ (fun y1404 t1405 h1406 => ?_) _
    · exact hag
    · refine State.startCal_touch (sub_trans (by decide) hmm) ?_
      exact h1406

theorem State.setSlicePos_touch {MM : Nat} {so : State} {s : Sys2Proof.Machine.State} {l : ℕ} {p : ℕ}
    (hmm : Machine.sub 0x40000000000000000000000000000000000000000000000000000000000 MM = true) (hag : Agree MM so s) :
    Agree MM so (@State.setSlicePos s l p) := by
  unfold State.setSlicePos
  refine Agree.setReg ?_ (sub_bit hmm (by decide)) _ _
  exact hag

theorem State.clearDrift_touch {MM : Nat} {so : State} {s : Sys2Proof.Machine.State} {p : ℕ}
    (hmm : Machine.sub 0x1c00000000000000000000000000000000000000000000000000000100000 MM = true) (hag : Agree MM so s) :
    Agree MM so (@State.clearDrift s p) := by
  unfold State.clearDrift
  extract_lets +onlyGivenNames -merge -useContext -underBinder x1407
  try clear_value x1407
  extract_lets +onlyGivenNames -merge -useContext -underBinder x1408
  have h1409 : Agree MM so x1408 := by
    subst x1408
    refine State.setSlice_touch (sub_trans (by decide) hmm) ?_
    exact hag
  try clear_value x1408
  extract_lets +onlyGivenNames -merge -useContext -underBinder x1410
  have h1411 : Agree MM so x1410 := by
    subst x1410
    refine Agree.setReg ?_ (sub_bit hmm (by decide)) _ _
    refine Agree.setReg ?_ (sub_bit hmm (by decide)) _ _
    exact h1409
  try clear_value x1410
  refine Agree.fsetB ?_ (sub_bit hmm (by decide)) _ _
  exact h1411

theorem State.rotate_touch {MM : Nat} {so : State} {s : Sys2Proof.Machine.State} {l : ℕ} {p : ℕ}
    (hmm : Machine.sub 0x7ec0000000000000000000000010000000000000000100000000000100200 MM = true) (hag : Agree MM so s) :
    Agree MM so (@State.rotate s l p) := by
  unfold State.rotate
  extract_lets +onlyGivenNames -merge -useContext -underBinder x1412
  try clear_value x1412
  extract_lets +onlyGivenNames -merge -useContext -underBinder x1413
  have h1414 : Agree MM so x1413 := by
    subst x1413
    refine Agree.ite ?_ ?_
    · refine Agree.fset ?_ (sub_bit hmm (by decide)) _ _
      exact hag
    · exact hag
  try clear_value x1413
  extract_lets +onlyGivenNames -merge -useContext -underBinder x1415
  try clear_value x1415
  extract_lets +onlyGivenNames -merge -useContext -underBinder x1416
  try clear_value x1416
  extract_lets +onlyGivenNames -merge -useContext -underBinder x1417
  have h1418 : Agree MM so x1417 := by
    subst x1417
    refine State.setSlicePos_touch (sub_trans (by decide) hmm) ?_
    exact h1414
  try clear_value x1417
  extract_lets +onlyGivenNames -merge -useContext -underBinder x1419
  have h1420 : Agree MM so x1419 := by
    subst x1419
    refine Agree.fset ?_ (sub_bit hmm (by decide)) _ _
    exact h1418
  try clear_value x1419
  extract_lets +onlyGivenNames -merge -useContext -underBinder x1421
  have h1422 : Agree MM so x1421 := by
    subst x1421
    refine State.clearDrift_touch (sub_trans (by decide) hmm) ?_
    refine Agree.fset ?_ (sub_bit hmm (by decide)) _ _
    exact h1420
  try clear_value x1421
  extract_lets +onlyGivenNames -merge -useContext -underBinder x1423
  have h1424 : Agree MM so x1423 := by
    subst x1423
    refine State.clearDrift_touch (sub_trans (by decide) hmm) ?_
    refine Agree.fset ?_ (sub_bit hmm (by decide)) _ _
    exact h1422
  try clear_value x1423
  extract_lets +onlyGivenNames -merge -useContext -underBinder x1425
  have h1426 : Agree MM so x1425 := by
    subst x1425
    refine Agree.ite ?_ ?_
    · exact h1424
    · refine State.startCal_touch (sub_trans (by decide) hmm) ?_
      exact h1424
  try clear_value x1425
  extract_lets +onlyGivenNames -merge -useContext -underBinder x1427
  have h1428 : Agree MM so x1427 := by
    subst x1427
    refine Agree.fadd ?_ (sub_bit hmm (by decide)) _ _
    exact h1426
  try clear_value x1427
  refine State.irq_touch (sub_trans (by decide) hmm) ?_
  refine State.showSpare_touch (sub_trans (by decide) hmm) ?_
  exact h1428

theorem State.adcSeam_touch {MM : Nat} {so : State} {s : Sys2Proof.Machine.State} {n : ℕ}
    (hmm : Machine.sub 0x7ed0000000000000000000000010000000000000000100000000000100200 MM = true) (hag : Agree MM so s) :
    Agree MM so (@State.adcSeam s n) := by
  unfold State.adcSeam
  extract_lets +onlyGivenNames -merge -useContext -underBinder x1429
  have h1430 : Agree MM so x1429 := by
    subst x1429
    split
    · exact hag
    · extract_lets +onlyGivenNames -merge -useContext -underBinder x1431
      try clear_value x1431
      extract_lets +onlyGivenNames -merge -useContext -underBinder x1432
      have h1433 : Agree MM so x1432 := by
        subst x1432
        refine Agree.set_adc ?_ (sub_bit hmm (by decide)) _
        exact hag
      try clear_value x1432
      extract_lets +onlyGivenNames -merge -useContext -underBinder x1434
      try clear_value x1434
      extract_lets +onlyGivenNames -merge -useContext -underBinder x1435
      have h1436 : Agree MM so x1435 := by
        subst x1435
        refine Agree.ite ?_ ?_
        · refine Agree.fsetB ?_ (sub_bit hmm (by decide)) _ _
          exact h1433
        · exact h1433
      try clear_value x1435
      extract_lets +onlyGivenNames -merge -useContext -underBinder x1437
      have h1438 : Agree MM so x1437 := by
        subst x1437
        split
        · refine Agree.ite ?_ ?_
          · refine State.rotate_touch (sub_trans (by decide) hmm) ?_
            exact h1436
          · exact h1436
        · refine Agree.ite ?_ ?_
          · refine State.irq_touch (sub_trans (by decide) hmm) ?_
            refine Agree.faddSat ?_ (sub_bit hmm (by decide)) _ _
            exact h1436
          · exact h1436
      try clear_value x1437
      refine Agree.forEach ?_ (fun y1439 t1440 h1441 => ?_) _
      · exact h1438
      · refine State.setSlice_touch (sub_trans (by decide) hmm) ?_
        exact h1441
  try clear_value x1429
  refine Agree.ite ?_ ?_
  · refine Agree.forEach ?_ (fun y1442 t1443 h1444 => ?_) _
    · exact h1430
    · extract_lets +onlyGivenNames -merge -useContext -underBinder x1445
      try clear_value x1445
      refine Agree.ite ?_ ?_
      · refine State.irq_touch (sub_trans (by decide) hmm) ?_
        refine Agree.fsetB ?_ (sub_bit hmm (by decide)) _ _
        refine Agree.fset ?_ (sub_bit hmm (by decide)) _ _
        exact h1444
      · exact h1444
  · exact h1430

theorem State.putFit_touch {MM : Nat} {so : State} {s : Sys2Proof.Machine.State} {p : ℕ} {h : ℕ} {f : Sys2Proof.CalFit}
    (hmm : Machine.sub 0x38000000000000000000000000000000000000000000000000000000000000 MM = true) (hag : Agree MM so s) :
    Agree MM so (@State.putFit s p h f) := by
  unfold State.putFit
  extract_lets +onlyGivenNames -merge -useContext -underBinder x1803
  have h1804 : Agree MM so x1803 := by
    subst x1803
    refine Agree.setReg ?_ (sub_bit hmm (by decide)) _ _
    exact hag
  try clear_value x1803
  extract_lets +onlyGivenNames -merge -useContext -underBinder x1805
  have h1806 : Agree MM so x1805 := by
    subst x1805
    refine Agree.setReg ?_ (sub_bit hmm (by decide)) _ _
    exact h1804
  try clear_value x1805
  refine Agree.forEach ?_ (fun y1807 t1808 h1809 => ?_) _
  · exact h1806
  · refine Agree.setReg ?_ (sub_bit hmm (by decide)) _ _
    exact h1809

theorem State.calRunDone_touch {MM : Nat} {so : State} {s : Sys2Proof.Machine.State} {p : ℕ} {f : Sys2Proof.CalFit}
    (hmm : Machine.sub 0x53e00000000000000000000000000000000000000000000000000000000038680000000000000000000000010000000000000000180000000000180200 MM = true) (hag : Agree MM so s) :
    Agree MM so (@State.calRunDone s p f) := by
  unfold State.calRunDone
  extract_lets +onlyGivenNames -merge -useContext -underBinder x1810
  try clear_value x1810
  extract_lets +onlyGivenNames -merge -useContext -underBinder x1811
  try clear_value x1811
  refine Agree.ite ?_ ?_
  · exact hag
  · refine Agree.ite ?_ ?_
    · extract_lets +onlyGivenNames -merge -useContext -underBinder x1812
      have h1813 : Agree MM so x1812 := by
        subst x1812
        refine Agree.faddSat ?_ (sub_bit hmm (by decide)) _ _
        exact hag
      try clear_value x1812
      refine Agree.ite ?_ ?_
      · refine State.putFit_touch (sub_trans (by decide) hmm) ?_
        refine State.setSlice_touch (sub_trans (by decide) hmm) ?_
        exact h1813
      · extract_lets +onlyGivenNames -merge -useContext -underBinder x1814
        have h1815 : Agree MM so x1814 := by
          subst x1814
          refine State.setSlice_touch (sub_trans (by decide) hmm) ?_
          exact h1813
        try clear_value x1814
        extract_lets +onlyGivenNames -merge -useContext -underBinder x1816
        have h1817 : Agree MM so x1816 := by
          subst x1816
          refine State.putFit_touch (sub_trans (by decide) hmm) ?_
          exact h1815
        try clear_value x1816
        refine State.showSpare_touch (sub_trans (by decide) hmm) ?_
        refine Agree.fset ?_ (sub_bit hmm (by decide)) _ _
        exact h1817
    · extract_lets +onlyGivenNames -merge -useContext -underBinder x1818
      have h1819 : Agree MM so x1818 := by
        subst x1818
        refine State.irq_touch (sub_trans (by decide) hmm) ?_
        refine Agree.fsetB ?_ (sub_bit hmm (by decide)) _ _
        exact hag
      try clear_value x1818
      refine Agree.ite ?_ ?_
      · refine State.showSpare_touch (sub_trans (by decide) hmm) ?_
        refine State.failSlice_touch (sub_trans (by decide) hmm) ?_
        exact h1819
      · refine State.setSlice_touch (sub_trans (by decide) hmm) ?_
        exact h1819

theorem State.initApply_touch {MM : Nat} {so : State} {s : Sys2Proof.Machine.State}
    (hmm : Machine.sub 0x39ec0000000000000000000000000000000000000000000000000000100000 MM = true) (hag : Agree MM so s) :
    Agree MM so (@State.initApply s) := by
  unfold State.initApply
  extract_lets +onlyGivenNames -merge -useContext -underBinder x2209
  try clear_value x2209
  extract_lets +onlyGivenNames -merge -useContext -underBinder x2210
  have h2211 : Agree MM so x2210 := by
    subst x2210
    refine Agree.forEach ?_ (fun y2212 t2213 h2214 => ?_) _
    · exact hag
    · split
      · refine State.setSlice_touch (sub_trans (by decide) hmm) ?_
        refine State.putFit_touch (sub_trans (by decide) hmm) ?_
        refine State.putFit_touch (sub_trans (by decide) hmm) ?_
        exact h2214
      · exact h2214
  try clear_value x2210
  extract_lets +onlyGivenNames -merge -useContext -underBinder x2215
  try clear_value x2215
  extract_lets +onlyGivenNames -merge -useContext -underBinder x2216
  have h2217 : Agree MM so x2216 := by
    subst x2216
    refine Agree.forEach ?_ (fun y2218 t2219 h2220 => ?_) _
    · exact h2211
    · refine State.setSlicePos_touch (sub_trans (by decide) hmm) ?_
      exact h2220
  try clear_value x2216
  extract_lets +onlyGivenNames -merge -useContext -underBinder x2221
  have h2222 : Agree MM so x2221 := by
    subst x2221
    refine Agree.forEach ?_ (fun y2223 t2224 h2225 => ?_) _
    · exact h2217
    · refine State.clearDrift_touch (sub_trans (by decide) hmm) ?_
      exact h2225
  try clear_value x2221
  refine State.showSpare_touch (sub_trans (by decide) hmm) ?_
  refine Agree.set_adc ?_ (sub_bit hmm (by decide)) _
  exact h2222

theorem State.scanBegin_touch {MM : Nat} {so : State} {s : Sys2Proof.Machine.State} {num : ℕ} {t : ℕ} {on : List ℕ}
    (hmm : Machine.sub 0x580000000000000000000000000010000000000000000180000000000100200 MM = true) (hag : Agree MM so s) :
    AgreeP MM so (@State.scanBegin s num t on) := by
  unfold State.scanBegin
  extract_lets +onlyGivenNames -merge -useContext -underBinder x2228
  try clear_value x2228
  refine AgreeP.ite ?_ ?_
  · refine AgreeP.mk ?_
    exact hag
  · extract_lets +onlyGivenNames -merge -useContext -underBinder x2229
    try clear_value x2229
    extract_lets +onlyGivenNames -merge -useContext -underBinder x2230
    try clear_value x2230
    extract_lets +onlyGivenNames -merge -useContext -underBinder x2231
    try clear_value x2231
    extract_lets +onlyGivenNames -merge -useContext -underBinder x2232
    try clear_value x2232
    extract_lets +onlyGivenNames -merge -useContext -underBinder x2233
    try clear_value x2233
    extract_lets +onlyGivenNames -merge -useContext -underBinder x2234
    have h2235 : Agree MM so x2234 := by
      subst x2234
      refine State.setScan_touch (sub_trans (by decide) hmm) ?_
      refine Agree.fsetB ?_ (sub_bit hmm (by decide)) _ _
      exact hag
    try clear_value x2234
    extract_lets +onlyGivenNames -merge -useContext -underBinder x2236
    have h2237 : Agree MM so x2236 := by
      subst x2236
      refine Agree.forEach ?_ (fun y2238 t2239 h2240 => ?_) _
      · exact h2235
      · refine State.missResult_touch (sub_trans (by decide) hmm) ?_
        exact h2240
    try clear_value x2236
    refine AgreeP.ite ?_ ?_
    · refine AgreeP.mk ?_
      refine State.scanDone_touch (sub_trans (by decide) hmm) ?_
      exact h2237
    · refine AgreeP.mk ?_
      exact h2237

theorem State.initDone_touch {MM : Nat} {so : State} {s : Sys2Proof.Machine.State}
    (hmm : Machine.sub 0x39ec0000000000000000000000010000000000000000180000000000100200 MM = true) (hag : Agree MM so s) :
    Agree MM so (@State.initDone s) := by
  unfold State.initDone
  extract_lets +onlyGivenNames -merge -useContext -underBinder x2517
  try clear_value x2517
  refine Agree.ite ?_ ?_
  · exact hag
  · extract_lets +onlyGivenNames -merge -useContext -underBinder x2518
    try clear_value x2518
    extract_lets +onlyGivenNames -merge -useContext -underBinder x2519
    try clear_value x2519
    extract_lets +onlyGivenNames -merge -useContext -underBinder x2520
    have h2521 : Agree MM so x2520 := by
      subst x2520
      refine Agree.set_adc ?_ (sub_bit hmm (by decide)) _
      exact hag
    try clear_value x2520
    extract_lets +onlyGivenNames -merge -useContext -underBinder x2522
    have h2523 : Agree MM so x2522 := by
      subst x2522
      refine State.irq_touch (sub_trans (by decide) hmm) ?_
      refine State.setBusy_touch (sub_trans (by decide) hmm) ?_
      refine Agree.fsetB ?_ (sub_bit hmm (by decide)) _ _
      exact h2521
    try clear_value x2522
    extract_lets +onlyGivenNames -merge -useContext -underBinder x2524
    have h2525 : Agree MM so x2524 := by
      subst x2524
      refine Agree.forEach ?_ (fun y2526 t2527 h2528 => ?_) _
      · exact h2523
      · refine State.setSlice_touch (sub_trans (by decide) hmm) ?_
        refine Agree.fset ?_ (sub_bit hmm (by decide)) _ _
        exact h2528
    try clear_value x2524
    extract_lets +onlyGivenNames -merge -useContext -underBinder x2529
    have h2530 : Agree MM so x2529 := by
      subst x2529
      refine Agree.forEach ?_ (fun y2531 t2532 h2533 => ?_) _
      · exact h2525
      · refine State.setSlice_touch (sub_trans (by decide) hmm) ?_
        refine Agree.fset ?_ (sub_bit hmm (by decide)) _ _
        exact h2533
    try clear_value x2529
    extract_lets +onlyGivenNames -merge -useContext -underBinder x2534
    have h2535 : Agree MM so x2534 := by
      subst x2534
      refine Agree.fsetB ?_ (sub_bit hmm (by decide)) _ _
      exact h2530
    try clear_value x2534
    extract_lets +onlyGivenNames -merge -useContext -underBinder x2536
    have h2537 : Agree MM so x2536 := by
      subst x2536
      refine State.showSpare_touch (sub_trans (by decide) hmm) ?_
      exact h2535
    try clear_value x2536
    refine Agree.ite ?_ ?_
    · refine Agree.set_adc ?_ (sub_bit hmm (by decide)) _
      exact h2537
    · refine State.initApply_touch (sub_trans (by decide) hmm) ?_
      exact h2537

theorem State.rotationDecision_touch {MM : Nat} {so : State} {s : Sys2Proof.Machine.State}
    (hmm : Machine.sub 0x100000 MM = true) (hag : Agree MM so s) :
    Agree MM so (@State.rotationDecision s) := by
  unfold State.rotationDecision
  extract_lets +onlyGivenNames -merge -useContext -underBinder x3154
  try clear_value x3154
  extract_lets +onlyGivenNames -merge -useContext -underBinder x3155
  try clear_value x3155
  extract_lets +onlyGivenNames -merge -useContext -underBinder x3156
  try clear_value x3156
  extract_lets +onlyGivenNames -merge -useContext -underBinder x3157
  try clear_value x3157
  extract_lets +onlyGivenNames -merge -useContext -underBinder x3158
  try clear_value x3158
  refine Agree.ite ?_ ?_
  · exact hag
  · extract_lets +onlyGivenNames -merge -useContext -underBinder x3159
    try clear_value x3159
    extract_lets +onlyGivenNames -merge -useContext -underBinder x3160
    try clear_value x3160
    extract_lets +onlyGivenNames -merge -useContext -underBinder x3161
    try clear_value x3161
    extract_lets +onlyGivenNames -merge -useContext -underBinder x3162
    try clear_value x3162
    extract_lets +onlyGivenNames -merge -useContext -underBinder x3163
    have h3164 : Agree MM so x3163 := by
      subst x3163
      split
      · refine State.setSlice_touch (sub_trans (by decide) hmm) ?_
        exact hag
      · exact hag
    try clear_value x3163
    refine Agree.set_adc ?_ (sub_bit hmm (by decide)) _
    exact h3164

end Sys2Proof.Machine
end

