-- ==== Sys2Proof/Laws/Touch/Chain.lean ====
section
/-!
SUPPORT. What the functions of Machine/Chain.lean can touch: one lemma per function, its mask after `sub`.
-/

namespace Sys2Proof.Machine

theorem State.setLane_touch {MM : Nat} {so : State} {s : Sys2Proof.Machine.State} {l : ℕ} {x : Sys2Proof.Machine.Lane}
    (hmm : Machine.sub 0x200000 MM = true) (hag : Agree MM so s) :
    Agree MM so (@State.setLane s l x) := by
  unfold State.setLane
  refine Agree.set_chains ?_ (sub_bit hmm (by decide)) _
  exact hag

theorem State.recordEpoch_touch {MM : Nat} {so : State} {s : Sys2Proof.Machine.State} {o : Sys2Proof.Machine.OpenEpoch} {samples : List (ℤ × Bool)}
    (hmm : Machine.sub 0x200000 MM = true) (hag : Agree MM so s) :
    Agree MM so (@State.recordEpoch s o samples) := by
  unfold State.recordEpoch
  extract_lets +onlyGivenNames -merge -useContext -underBinder x738
  try clear_value x738
  extract_lets +onlyGivenNames -merge -useContext -underBinder x739
  try clear_value x739
  extract_lets +onlyGivenNames -merge -useContext -underBinder x740
  try clear_value x740
  extract_lets +onlyGivenNames -merge -useContext -underBinder x741
  try clear_value x741
  refine Agree.set_chains ?_ (sub_bit hmm (by decide)) _
  exact hag

theorem State.setStr_touch {MM : Nat} {so : State} {s : Sys2Proof.Machine.State} {i : ℕ} {x : Sys2Proof.Machine.StreamSt}
    (hmm : Machine.sub 0x200000 MM = true) (hag : Agree MM so s) :
    Agree MM so (@State.setStr s i x) := by
  unfold State.setStr
  refine Agree.set_chains ?_ (sub_bit hmm (by decide)) _
  exact hag

theorem State.frameToLanes_touch {MM : Nat} {so : State} {s : Sys2Proof.Machine.State} {i : ℕ} {f : Sys2Proof.Machine.LaneFrame}
    (hmm : Machine.sub 0x10000000000000000000000000000000010000000000000000100000000000200200 MM = true) (hag : Agree MM so s) :
    Agree MM so (@State.frameToLanes s i f) := by
  unfold State.frameToLanes
  refine Agree.forEach ?_ (fun y745 t746 h747 => ?_) _
  · exact hag
  · extract_lets +onlyGivenNames -merge -useContext -underBinder x748
    try clear_value x748
    refine Agree.ite ?_ ?_
    · refine State.irq_touch (sub_trans (by decide) hmm) ?_
      refine Agree.fset ?_ (sub_bit hmm (by decide)) _ _
      refine Agree.fsetB ?_ (sub_bit hmm (by decide)) _ _
      refine State.setLane_touch (sub_trans (by decide) hmm) ?_
      exact h747
    · refine State.setLane_touch (sub_trans (by decide) hmm) ?_
      exact h747

theorem State.dropFrame_touch {MM : Nat} {so : State} {s : Sys2Proof.Machine.State} {i : ℕ}
    (hmm : Machine.sub 0x80000000000000000000000000000010000000000000000100000000000200200 MM = true) (hag : Agree MM so s) :
    Agree MM so (@State.dropFrame s i) := by
  unfold State.dropFrame
  extract_lets +onlyGivenNames -merge -useContext -underBinder x749
  try clear_value x749
  extract_lets +onlyGivenNames -merge -useContext -underBinder x750
  have h751 : Agree MM so x750 := by
    subst x750
    refine State.setStr_touch (sub_trans (by decide) hmm) ?_
    exact hag
  try clear_value x750
  extract_lets +onlyGivenNames -merge -useContext -underBinder x752
  have h753 : Agree MM so x752 := by
    subst x752
    refine Agree.faddSat ?_ (sub_bit hmm (by decide)) _ _
    exact h751
  try clear_value x752
  refine State.irq_touch (sub_trans (by decide) hmm) ?_
  refine Agree.fsetB ?_ (sub_bit hmm (by decide)) _ _
  exact h753

theorem State.frameToLine_touch {MM : Nat} {so : State} {s : Sys2Proof.Machine.State} {i : ℕ} {set : Sys2Proof.Machine.StrSet} {div : ℕ} {seq : ℕ} {ns : ℕ} {angle : ℕ} {words : List ℕ}
    (hmm : Machine.sub 0x490000000000000000000000000000010000000000000000100000000000200200 MM = true) (hag : Agree MM so s) :
    Agree MM so (@State.frameToLine s i set div seq ns angle words) := by
  unfold State.frameToLine
  extract_lets +onlyGivenNames -merge -useContext -underBinder x754
  try clear_value x754
  extract_lets +onlyGivenNames -merge -useContext -underBinder x755
  try clear_value x755
  extract_lets +onlyGivenNames -merge -useContext -underBinder x756
  try clear_value x756
  extract_lets +onlyGivenNames -merge -useContext -underBinder x757
  try clear_value x757
  extract_lets +onlyGivenNames -merge -useContext -underBinder x758
  try clear_value x758
  extract_lets +onlyGivenNames -merge -useContext -underBinder x759
  try clear_value x759
  extract_lets +onlyGivenNames -merge -useContext -underBinder x760
  try clear_value x760
  refine Agree.ite ?_ ?_
  · refine State.dropFrame_touch (sub_trans (by decide) hmm) ?_
    exact hag
  · extract_lets +onlyGivenNames -merge -useContext -underBinder x761
    have h762 : Agree MM so x761 := by
      subst x761
      refine State.setStr_touch (sub_trans (by decide) hmm) ?_
      exact hag
    try clear_value x761
    refine Agree.ite ?_ ?_
    · exact h762
    · refine Agree.fsetB ?_ (sub_bit hmm (by decide)) _ _
      refine Agree.fadd ?_ (sub_bit hmm (by decide)) _ _
      exact h762

theorem State.strFrame_touch {MM : Nat} {so : State} {s : Sys2Proof.Machine.State} {i : ℕ} {run : Sys2Proof.Machine.StrRun} {ns : ℕ}
    (hmm : Machine.sub 0x10495200000000000000000000000000010000000000000000100000000000200200 MM = true) (hag : Agree MM so s) :
    Agree MM so (@State.strFrame s i run ns) := by
  unfold State.strFrame
  extract_lets +onlyGivenNames -merge -useContext -underBinder x763
  try clear_value x763
  extract_lets +onlyGivenNames -merge -useContext -underBinder x764
  try clear_value x764
  extract_lets +onlyGivenNames -merge -useContext -underBinder x765
  have h766 : Agree MM so x765 := by
    subst x765
    refine State.setStr_touch (sub_trans (by decide) hmm) ?_
    exact hag
  try clear_value x765
  extract_lets +onlyGivenNames -merge -useContext -underBinder x767
  try clear_value x767
  split
  · refine State.setStr_touch (sub_trans (by decide) hmm) ?_
    exact h766
  · refine Agree.ite ?_ ?_
    · refine State.setStr_touch (sub_trans (by decide) hmm) ?_
      exact h766
    · extract_lets +onlyGivenNames -merge -useContext -underBinder x768
      try clear_value x768
      extract_lets +onlyGivenNames -merge -useContext -underBinder x769
      try clear_value x769
      split
      · extract_lets +onlyGivenNames -merge -useContext -underBinder x770
        try clear_value x770
        extract_lets +onlyGivenNames -merge -useContext -underBinder x771
        try clear_value x771
        extract_lets +onlyGivenNames -merge -useContext -underBinder x772
        try clear_value x772
        extract_lets +onlyGivenNames -merge -useContext -underBinder x773
        have h774 : Agree MM so x773 := by
          subst x773
          refine State.setStr_touch (sub_trans (by decide) hmm) ?_
          exact h766
        try clear_value x773
        extract_lets +onlyGivenNames -merge -useContext -underBinder x775
        have h776 : Agree MM so x775 := by
          subst x775
          refine Agree.forEach ?_ (fun y777 t778 h779 => ?_) _
          · exact h774
          · extract_lets +onlyGivenNames -merge -useContext -underBinder x780
            try clear_value x780
            extract_lets +onlyGivenNames -merge -useContext -underBinder x781
            try clear_value x781
            extract_lets +onlyGivenNames -merge -useContext -underBinder x782
            have h783 : Agree MM so x782 := by
              subst x782
              refine Agree.ite ?_ ?_
              · refine State.irq_touch (sub_trans (by decide) hmm) ?_
                refine Agree.fsetB ?_ (sub_bit hmm (by decide)) _ _
                exact h779
              · exact h779
            try clear_value x782
            refine Agree.ite ?_ ?_
            · refine State.chainResult_touch (sub_trans (by decide) hmm) ?_
              exact h783
            · exact h783
        try clear_value x775
        extract_lets +onlyGivenNames -merge -useContext -underBinder x784
        try clear_value x784
        extract_lets +onlyGivenNames -merge -useContext -underBinder x785
        have h786 : Agree MM so x785 := by
          subst x785
          refine Agree.ite ?_ ?_
          · refine State.frameToLanes_touch (sub_trans (by decide) hmm) ?_
            exact h776
          · exact h776
        try clear_value x785
        refine Agree.ite ?_ ?_
        · refine State.frameToLine_touch (sub_trans (by decide) hmm) ?_
          exact h786
        · refine State.setStr_touch (sub_trans (by decide) hmm) ?_
          exact h786

theorem State.runFrames_touch {MM : Nat} {so : State} {s : Sys2Proof.Machine.State} {i : ℕ} {num : ℕ} {u3 : ℕ} {u4 : Sys2Proof.Machine.StrRun}
    (hmm : Machine.sub 0x10495200000000000000000000000000010000000000000000100000000000200200 MM = true) (hag : Agree MM so s) :
    AgreeP MM so (@State.runFrames s i num u3 u4) := by
  induction u3 generalizing s u4 with
  | zero => exact hag
  | succ k ih =>
    rw [State.runFrames]
    refine AgreeP.ite hag ?_
    exact ih (State.strFrame_touch (sub_trans (by decide) hmm) hag)

theorem State.strFrames_touch {MM : Nat} {so : State} {s : Sys2Proof.Machine.State} {num : ℕ} {i : ℕ}
    (hmm : Machine.sub 0x10495200000000000000000000000000010000000000000000100000000000200200 MM = true) (hag : Agree MM so s) :
    Agree MM so (@State.strFrames s num i) := by
  unfold State.strFrames
  extract_lets +onlyGivenNames -merge -useContext -underBinder x787
  try clear_value x787
  extract_lets +onlyGivenNames -merge -useContext -underBinder x788
  have h789 : Agree MM so x788 := by
    subst x788
    split
    · exact hag
    · split
      · rename_i heq
        have h790 := AgreeP.of_eq (M := MM) (s0 := so) heq (by
          refine State.runFrames_touch (sub_trans (by decide) hmm) ?_
          exact hag
          )
        extract_lets +onlyGivenNames -merge -useContext -underBinder x791
        try clear_value x791
        extract_lets +onlyGivenNames -merge -useContext -underBinder x792
        try clear_value x792
        extract_lets +onlyGivenNames -merge -useContext -underBinder x793
        try clear_value x793
        refine Agree.fsetB ?_ (sub_bit hmm (by decide)) _ _
        refine State.setStr_touch (sub_trans (by decide) hmm) ?_
        exact h790
  try clear_value x788
  extract_lets +onlyGivenNames -merge -useContext -underBinder x794
  try clear_value x794
  split
  · split
    · rename_i heq
      have h795 := AgreeP.of_eq (M := MM) (s0 := so) heq (by
        refine State.runFrames_touch (sub_trans (by decide) hmm) ?_
        exact h789
        )
      extract_lets +onlyGivenNames -merge -useContext -underBinder x796
      try clear_value x796
      extract_lets +onlyGivenNames -merge -useContext -underBinder x797
      have h798 : Agree MM so x797 := by
        subst x797
        refine State.setStr_touch (sub_trans (by decide) hmm) ?_
        exact h795
      try clear_value x797
      refine Agree.forEach ?_ (fun y799 t800 h801 => ?_) _
      · exact h798
      · refine Agree.fsetB ?_ (sub_bit hmm (by decide)) _ _
        exact h801
  · exact h789

theorem State.strEnd_touch {MM : Nat} {so : State} {s : Sys2Proof.Machine.State} {o : Sys2Proof.Machine.OpenEpoch} {samples : List (ℤ × Bool)}
    (hmm : Machine.sub 0x10495200000000000000000000000000010000000000000000100000000000200200 MM = true) (hag : Agree MM so s) :
    Agree MM so (@State.strEnd s o samples) := by
  unfold State.strEnd
  extract_lets +onlyGivenNames -merge -useContext -underBinder x802
  have h803 : Agree MM so x802 := by
    subst x802
    refine State.recordEpoch_touch (sub_trans (by decide) hmm) ?_
    exact hag
  try clear_value x802
  refine Agree.forEach ?_ (fun y804 t805 h806 => ?_) _
  · exact h803
  · refine Agree.ite ?_ ?_
    · refine State.strFrames_touch (sub_trans (by decide) hmm) ?_
      exact h806
    · exact h806

theorem State.bindMembers_touch {MM : Nat} {so : State} {s : Sys2Proof.Machine.State} {i : ℕ} {set : Option Sys2Proof.Machine.StrSet} {on : Bool}
    (hmm : Machine.sub 0x4000000000000000000000000000000000000000000000000000000000000000 MM = true) (hag : Agree MM so s) :
    Agree MM so (@State.bindMembers s i set on) := by
  unfold State.bindMembers
  split
  · exact hag
  · refine Agree.forEach ?_ (fun y824 t825 h826 => ?_) _
    · exact hag
    · refine Agree.ite ?_ ?_
      · refine Agree.fsetB ?_ (sub_bit hmm (by decide)) _ _
        refine Agree.fset ?_ (sub_bit hmm (by decide)) _ _
        exact h826
      · refine Agree.fsetB ?_ (sub_bit hmm (by decide)) _ _
        refine Agree.fsetB ?_ (sub_bit hmm (by decide)) _ _
        exact h826

theorem State.cutRun_touch {MM : Nat} {so : State} {s : Sys2Proof.Machine.State} {i : ℕ} {r : Sys2Proof.Machine.StrRun} {upto : ℕ}
    (hmm : Machine.sub 0x200000 MM = true) (hag : Agree MM so s) :
    Agree MM so (@State.cutRun s i r upto) := by
  unfold State.cutRun
  extract_lets +onlyGivenNames -merge -useContext -underBinder x2005
  try clear_value x2005
  refine State.setStr_touch (sub_trans (by decide) hmm) ?_
  exact hag

theorem State.strSettings_touch {MM : Nat} {so : State} {s : Sys2Proof.Machine.State} {num : ℕ} {i : ℕ}
    (hmm : Machine.sub 0x84000000000000000000000000000010000000000000000100000000000200200 MM = true) (hag : Agree MM so s) :
    Agree MM so (@State.strSettings s num i) := by
  unfold State.strSettings
  extract_lets +onlyGivenNames -merge -useContext -underBinder x2241
  try clear_value x2241
  extract_lets +onlyGivenNames -merge -useContext -underBinder x2242
  try clear_value x2242
  refine Agree.ite ?_ ?_
  · exact hag
  · extract_lets +onlyGivenNames -merge -useContext -underBinder x2243
    have h2244 : Agree MM so x2243 := by
      subst x2243
      split
      · extract_lets +onlyGivenNames -merge -useContext -underBinder x2245
        have h2246 : Agree MM so x2245 := by
          subst x2245
          refine State.cutRun_touch (sub_trans (by decide) hmm) ?_
          exact hag
        try clear_value x2245
        refine Agree.ite ?_ ?_
        · exact h2246
        · refine State.irq_touch (sub_trans (by decide) hmm) ?_
          refine Agree.fsetB ?_ (sub_bit hmm (by decide)) _ _
          exact h2246
      · exact hag
    try clear_value x2243
    extract_lets +onlyGivenNames -merge -useContext -underBinder x2247
    try clear_value x2247
    extract_lets +onlyGivenNames -merge -useContext -underBinder x2248
    try clear_value x2248
    extract_lets +onlyGivenNames -merge -useContext -underBinder x2249
    have h2250 : Agree MM so x2249 := by
      subst x2249
      split
      · refine Agree.ite ?_ ?_
        · refine State.cutRun_touch (sub_trans (by decide) hmm) ?_
          exact h2244
        · exact h2244
      · exact h2244
    try clear_value x2249
    extract_lets +onlyGivenNames -merge -useContext -underBinder x2251
    try clear_value x2251
    extract_lets +onlyGivenNames -merge -useContext -underBinder x2252
    try clear_value x2252
    extract_lets +onlyGivenNames -merge -useContext -underBinder x2253
    try clear_value x2253
    extract_lets +onlyGivenNames -merge -useContext -underBinder x2254
    have h2255 : Agree MM so x2254 := by
      subst x2254
      refine State.bindMembers_touch (sub_trans (by decide) hmm) ?_
      exact h2250
    try clear_value x2254
    extract_lets +onlyGivenNames -merge -useContext -underBinder x2256
    try clear_value x2256
    extract_lets +onlyGivenNames -merge -useContext -underBinder x2257
    try clear_value x2257
    extract_lets +onlyGivenNames -merge -useContext -underBinder x2258
    have h2259 : Agree MM so x2258 := by
      subst x2258
      refine State.setStr_touch (sub_trans (by decide) hmm) ?_
      exact h2255
    try clear_value x2258
    refine Agree.fsetB ?_ (sub_bit hmm (by decide)) _ _
    refine Agree.fsetB ?_ (sub_bit hmm (by decide)) _ _
    exact h2259

theorem State.strBegin_touch {MM : Nat} {so : State} {s : Sys2Proof.Machine.State} {num : ℕ}
    (hmm : Machine.sub 0x384000000000000000000000000000010000000000000000100000000000200200 MM = true) (hag : Agree MM so s) :
    Agree MM so (@State.strBegin s num) := by
  unfold State.strBegin
  extract_lets +onlyGivenNames -merge -useContext -underBinder x2260
  have h2261 : Agree MM so x2260 := by
    subst x2260
    refine Agree.forEach ?_ (fun y2262 t2263 h2264 => ?_) _
    · exact hag
    · refine Agree.ite ?_ ?_
      · refine State.strSettings_touch (sub_trans (by decide) hmm) ?_
        exact h2264
      · exact h2264
  try clear_value x2260
  extract_lets +onlyGivenNames -merge -useContext -underBinder x2265
  have h2266 : Agree MM so x2265 := by
    subst x2265
    refine Agree.forEach ?_ (fun y2267 t2268 h2269 => ?_) _
    · exact h2261
    · refine State.bindMembers_touch (sub_trans (by decide) hmm) ?_
      exact h2269
  try clear_value x2265
  extract_lets +onlyGivenNames -merge -useContext -underBinder x2270
  try clear_value x2270
  extract_lets +onlyGivenNames -merge -useContext -underBinder x2271
  have h2272 : Agree MM so x2271 := by
    subst x2271
    refine Agree.set_chains ?_ (sub_bit hmm (by decide)) _
    exact h2266
  try clear_value x2271
  refine Agree.forEach ?_ (fun y2273 t2274 h2275 => ?_) _
  · exact h2272
  · refine Agree.set64 ?_ (sub_bit hmm (by decide)) (sub_bit hmm (by decide)) _ _
    exact h2275

end Sys2Proof.Machine
end

