-- ==== Sys2Proof/Laws/Touch/Lane.lean ====
section
/-!
SUPPORT. What the functions of Machine/Lane.lean can touch: one lemma per function, its mask after `sub`.
-/

namespace Sys2Proof.Machine

theorem State.showFill_touch {MM : Nat} {so : State} {s : Sys2Proof.Machine.State} {l : ℕ}
    (hmm : Machine.sub 0x200000000000000000000000000000000000000000000000000000000000000000000 MM = true) (hag : Agree MM so s) :
    Agree MM so (@State.showFill s l) := by
  unfold State.showFill
  refine Agree.fset ?_ (sub_bit hmm (by decide)) _ _
  exact hag

theorem State.rlSwapNow_touch {MM : Nat} {so : State} {s : Sys2Proof.Machine.State} {l : ℕ} {rev : Option (ℕ × ℕ)}
    (hmm : Machine.sub 0x210800000000000000000000000000000010000000000000000100000000000200200 MM = true) (hag : Agree MM so s) :
    Agree MM so (@State.rlSwapNow s l rev) := by
  unfold State.rlSwapNow
  extract_lets +onlyGivenNames -merge -useContext -underBinder x345
  try clear_value x345
  extract_lets +onlyGivenNames -merge -useContext -underBinder x346
  try clear_value x346
  extract_lets +onlyGivenNames -merge -useContext -underBinder x347
  try clear_value x347
  extract_lets +onlyGivenNames -merge -useContext -underBinder x348
  have h349 : Agree MM so x348 := by
    subst x348
    refine State.setLane_touch (sub_trans (by decide) hmm) ?_
    exact hag
  try clear_value x348
  extract_lets +onlyGivenNames -merge -useContext -underBinder x350
  have h351 : Agree MM so x350 := by
    subst x350
    refine Agree.fsetB ?_ (sub_bit hmm (by decide)) _ _
    refine Agree.fset ?_ (sub_bit hmm (by decide)) _ _
    exact h349
  try clear_value x350
  refine State.irq_touch (sub_trans (by decide) hmm) ?_
  refine State.showFill_touch (sub_trans (by decide) hmm) ?_
  exact h351

theorem State.rlSwapOff_touch {MM : Nat} {so : State} {s : Sys2Proof.Machine.State} {l : ℕ}
    (hmm : Machine.sub 0x210800000000000000000000000000000010000000000000000100000000000200200 MM = true) (hag : Agree MM so s) :
    Agree MM so (@State.rlSwapOff s l) := by
  unfold State.rlSwapOff
  refine Agree.ite ?_ ?_
  · refine State.rlSwapNow_touch (sub_trans (by decide) hmm) ?_
    exact hag
  · exact hag

theorem State.rlAdvance_touch {MM : Nat} {so : State} {s : Sys2Proof.Machine.State} {l : ℕ}
    (hmm : Machine.sub 0x80000000000000000000000000000000000000000000000000000000000000000000 MM = true) (hag : Agree MM so s) :
    Agree MM so (@State.rlAdvance s l) := by
  unfold State.rlAdvance
  refine Agree.ite ?_ ?_
  · extract_lets +onlyGivenNames -merge -useContext -underBinder x352
    try clear_value x352
    refine Agree.fset ?_ (sub_bit hmm (by decide)) _ _
    exact hag
  · exact hag

theorem State.rlWrite_touch {MM : Nat} {so : State} {s : Sys2Proof.Machine.State} {l : ℕ} {v : Sys2Proof.Word}
    (hmm : Machine.sub 0x290800000000000000000000000000000010000000000000000100000000000200200 MM = true) (hag : Agree MM so s) :
    Agree MM so (@State.rlWrite s l v) := by
  unfold State.rlWrite
  refine Agree.ite ?_ ?_
  · exact hag
  · extract_lets +onlyGivenNames -merge -useContext -underBinder x353
    try clear_value x353
    extract_lets +onlyGivenNames -merge -useContext -underBinder x354
    try clear_value x354
    extract_lets +onlyGivenNames -merge -useContext -underBinder x355
    try clear_value x355
    extract_lets +onlyGivenNames -merge -useContext -underBinder x356
    have h357 : Agree MM so x356 := by
      subst x356
      refine State.setLane_touch (sub_trans (by decide) hmm) ?_
      exact hag
    try clear_value x356
    refine State.rlSwapOff_touch (sub_trans (by decide) hmm) ?_
    refine State.rlAdvance_touch (sub_trans (by decide) hmm) ?_
    refine State.showFill_touch (sub_trans (by decide) hmm) ?_
    exact h357

theorem State.rlBreak_touch {MM : Nat} {so : State} {s : Sys2Proof.Machine.State} {l : ℕ} {frames : List Sys2Proof.Machine.LaneFrame}
    (hmm : Machine.sub 0x10000000000000000000000000000000000000000000000000000000000000200000 MM = true) (hag : Agree MM so s) :
    Agree MM so (@State.rlBreak s l frames) := by
  unfold State.rlBreak
  refine Agree.ite ?_ ?_
  · exact hag
  · refine Agree.fset ?_ (sub_bit hmm (by decide)) _ _
    refine State.setLane_touch (sub_trans (by decide) hmm) ?_
    exact hag

theorem State.rlOff_touch {MM : Nat} {so : State} {s : Sys2Proof.Machine.State} {l : ℕ}
    (hmm : Machine.sub 0x210800000000000000000000000000000010000000000000000100000000000200200 MM = true) (hag : Agree MM so s) :
    Agree MM so (@State.rlOff s l) := by
  unfold State.rlOff
  refine Agree.ite ?_ ?_
  · exact hag
  · refine State.rlSwapOff_touch (sub_trans (by decide) hmm) ?_
    refine Agree.fset ?_ (sub_bit hmm (by decide)) _ _
    refine State.setLane_touch (sub_trans (by decide) hmm) ?_
    exact hag

theorem State.rsmpBusy_touch {MM : Nat} {so : State} {s : Sys2Proof.Machine.State} {p : ℕ}
    (hmm : Machine.sub 0x80000000000000000 MM = true) (hag : Agree MM so s) :
    Agree MM so (@State.rsmpBusy s p) := by
  unfold State.rsmpBusy
  refine State.setBusy_touch (sub_trans (by decide) hmm) ?_
  exact hag

theorem State.rlSeam_touch {MM : Nat} {so : State} {s : Sys2Proof.Machine.State} {l : ℕ} {num : ℕ}
    (hmm : Machine.sub 0x210800000000000000000000000000000010000000000000000100000000000200200 MM = true) (hag : Agree MM so s) :
    Agree MM so (@State.rlSeam s l num) := by
  unfold State.rlSeam
  extract_lets +onlyGivenNames -merge -useContext -underBinder x2226
  try clear_value x2226
  extract_lets +onlyGivenNames -merge -useContext -underBinder x2227
  try clear_value x2227
  refine Agree.ite ?_ ?_
  · refine Agree.ite ?_ ?_
    · refine State.rlSwapNow_touch (sub_trans (by decide) hmm) ?_
      exact hag
    · refine Agree.faddSat ?_ (sub_bit hmm (by decide)) _ _
      exact hag
  · exact hag

theorem State.rlEdge_touch {MM : Nat} {so : State} {s : Sys2Proof.Machine.State} {l : ℕ}
    (hmm : Machine.sub 0x270800000000000000000000000000000010000000000000000100000000000200200 MM = true) (hag : Agree MM so s) :
    Agree MM so (@State.rlEdge s l) := by
  unfold State.rlEdge
  extract_lets +onlyGivenNames -merge -useContext -underBinder x2284
  have h2285 : Agree MM so x2284 := by
    subst x2284
    refine Agree.set64 ?_ (sub_bit hmm (by decide)) (sub_bit hmm (by decide)) _ _
    exact hag
  try clear_value x2284
  refine Agree.ite ?_ ?_
  · exact h2285
  · extract_lets +onlyGivenNames -merge -useContext -underBinder x2286
    have h2287 : Agree MM so x2286 := by
      subst x2286
      refine State.rlOff_touch (sub_trans (by decide) hmm) ?_
      exact h2285
    try clear_value x2286
    refine Agree.ite ?_ ?_
    · refine Agree.fset ?_ (sub_bit hmm (by decide)) _ _
      refine State.setLane_touch (sub_trans (by decide) hmm) ?_
      exact h2287
    · exact h2287

theorem State.rlGrid_touch {MM : Nat} {so : State} {s : Sys2Proof.Machine.State} {l : ℕ}
    (hmm : Machine.sub 0x200000 MM = true) (hag : Agree MM so s) :
    Agree MM so (@State.rlGrid s l) := by
  unfold State.rlGrid
  extract_lets +onlyGivenNames -merge -useContext -underBinder x2664
  try clear_value x2664
  extract_lets +onlyGivenNames -merge -useContext -underBinder x2665
  try clear_value x2665
  refine Agree.ite ?_ ?_
  · exact hag
  · refine State.setLane_touch (sub_trans (by decide) hmm) ?_
    exact hag

theorem State.rlForget_touch {MM : Nat} {so : State} {s : Sys2Proof.Machine.State} {l : ℕ} {a : ℕ}
    (hmm : Machine.sub 0x200000 MM = true) (hag : Agree MM so s) :
    Agree MM so (@State.rlForget s l a) := by
  unfold State.rlForget
  extract_lets +onlyGivenNames -merge -useContext -underBinder x2666
  try clear_value x2666
  refine State.setLane_touch (sub_trans (by decide) hmm) ?_
  exact hag

theorem State.rlEmit_touch {MM : Nat} {so : State} {s : Sys2Proof.Machine.State} {l : ℕ} {r : Sys2Proof.Machine.LaneRec} {ang : ℕ}
    (hmm : Machine.sub 0x1800000000000000000000000000000001840000000000001c18000000000020020c MM = true) (hag : Agree MM so s) :
    Agree MM so (@State.rlEmit s l r ang) := by
  unfold State.rlEmit
  extract_lets +onlyGivenNames -merge -useContext -underBinder x2667
  try clear_value x2667
  split
  · extract_lets +onlyGivenNames -merge -useContext -underBinder x2668
    try clear_value x2668
    extract_lets +onlyGivenNames -merge -useContext -underBinder x2669
    try clear_value x2669
    refine Agree.ite ?_ ?_
    · refine State.irq_touch (sub_trans (by decide) hmm) ?_
      refine Agree.fsetB ?_ (sub_bit hmm (by decide)) _ _
      refine State.rlBreak_touch (sub_trans (by decide) hmm) ?_
      exact hag
    · extract_lets +onlyGivenNames -merge -useContext -underBinder x2670
      try clear_value x2670
      extract_lets +onlyGivenNames -merge -useContext -underBinder x2671
      try clear_value x2671
      extract_lets +onlyGivenNames -merge -useContext -underBinder x2672
      try clear_value x2672
      extract_lets +onlyGivenNames -merge -useContext -underBinder x2673
      try clear_value x2673
      extract_lets +onlyGivenNames -merge -useContext -underBinder x2674
      try clear_value x2674
      extract_lets +onlyGivenNames -merge -useContext -underBinder x2675
      try clear_value x2675
      extract_lets +onlyGivenNames -merge -useContext -underBinder x2676
      have h2677 : Agree MM so x2676 := by
        subst x2676
        refine State.setLane_touch (sub_trans (by decide) hmm) ?_
        exact hag
      try clear_value x2676
      extract_lets +onlyGivenNames -merge -useContext -underBinder x2678
      try clear_value x2678
      extract_lets +onlyGivenNames -merge -useContext -underBinder x2679
      try clear_value x2679
      extract_lets +onlyGivenNames -merge -useContext -underBinder x2680
      try clear_value x2680
      extract_lets +onlyGivenNames -merge -useContext -underBinder x2681
      have h2682 : Agree MM so x2681 := by
        subst x2681
        refine State.sramOwnWrite_touch (sub_trans (by decide) hmm) ?_
        exact h2677
      try clear_value x2681
      extract_lets +onlyGivenNames -merge -useContext -underBinder x2683
      have h2684 : Agree MM so x2683 := by
        subst x2683
        refine Agree.ite ?_ ?_
        · refine State.setLane_touch (sub_trans (by decide) hmm) ?_
          exact hag
        · refine Agree.fset ?_ (sub_bit hmm (by decide)) _ _
          exact h2682
      try clear_value x2683
      refine State.pulse_touch (sub_trans (by decide) hmm) ?_
      exact h2684

theorem State.rlOnePoint_touch {MM : Nat} {so : State} {s : Sys2Proof.Machine.State} {l : ℕ} {j : ℕ}
    (hmm : Machine.sub 0x1800000000000000000000000000000001840000000000001c18000000000020020c MM = true) (hag : Agree MM so s) :
    Agree MM so (@State.rlOnePoint s l j) := by
  unfold State.rlOnePoint
  refine Agree.ite ?_ ?_
  · exact hag
  · extract_lets +onlyGivenNames -merge -useContext -underBinder x2685
    try clear_value x2685
    extract_lets +onlyGivenNames -merge -useContext -underBinder x2686
    try clear_value x2686
    split
    · extract_lets +onlyGivenNames -merge -useContext -underBinder x2687
      try clear_value x2687
      extract_lets +onlyGivenNames -merge -useContext -underBinder x2688
      try clear_value x2688
      extract_lets +onlyGivenNames -merge -useContext -underBinder x2689
      try clear_value x2689
      extract_lets +onlyGivenNames -merge -useContext -underBinder x2690
      try clear_value x2690
      extract_lets +onlyGivenNames -merge -useContext -underBinder x2691
      try clear_value x2691
      extract_lets +onlyGivenNames -merge -useContext -underBinder x2692
      try clear_value x2692
      extract_lets +onlyGivenNames -merge -useContext -underBinder x2693
      try clear_value x2693
      extract_lets +onlyGivenNames -merge -useContext -underBinder x2694
      try clear_value x2694
      extract_lets +onlyGivenNames -merge -useContext -underBinder x2695
      try clear_value x2695
      extract_lets +onlyGivenNames -merge -useContext -underBinder x2696
      try clear_value x2696
      extract_lets +onlyGivenNames -merge -useContext -underBinder x2697
      try clear_value x2697
      extract_lets +onlyGivenNames -merge -useContext -underBinder x2698
      try clear_value x2698
      extract_lets +onlyGivenNames -merge -useContext -underBinder x2699
      try clear_value x2699
      extract_lets +onlyGivenNames -merge -useContext -underBinder x2700
      try clear_value x2700
      extract_lets +onlyGivenNames -merge -useContext -underBinder x2701
      have h2702 : Agree MM so x2701 := by
        subst x2701
        refine Agree.fsetB ?_ (sub_bit hmm (by decide)) _ _
        exact hag
      try clear_value x2701
      extract_lets +onlyGivenNames -merge -useContext -underBinder x2703
      have h2704 : Agree MM so x2703 := by
        subst x2703
        refine Agree.ite ?_ ?_
        · refine State.irq_touch (sub_trans (by decide) hmm) ?_
          refine Agree.fsetB ?_ (sub_bit hmm (by decide)) _ _
          exact h2702
        · exact h2702
      try clear_value x2703
      extract_lets +onlyGivenNames -merge -useContext -underBinder x2705
      try clear_value x2705
      extract_lets +onlyGivenNames -merge -useContext -underBinder x2706
      try clear_value x2706
      extract_lets +onlyGivenNames -merge -useContext -underBinder x2707
      try clear_value x2707
      extract_lets +onlyGivenNames -merge -useContext -underBinder x2708
      have h2709 : Agree MM so x2708 := by
        subst x2708
        refine State.setLane_touch (sub_trans (by decide) hmm) ?_
        exact h2704
      try clear_value x2708
      split
      · exact h2709
      · extract_lets +onlyGivenNames -merge -useContext -underBinder x2710
        try clear_value x2710
        refine Agree.ite ?_ ?_
        · refine State.rlEmit_touch (sub_trans (by decide) hmm) ?_
          exact h2709
        · refine State.setLane_touch (sub_trans (by decide) hmm) ?_
          exact h2709

theorem State.laneFrame_touch {MM : Nat} {so : State} {s : Sys2Proof.Machine.State} {l : ℕ}
    (hmm : Machine.sub 0x1800000000000000000000000000000001840000000000001c18000000000020020c MM = true) (hag : Agree MM so s) :
    Agree MM so (@State.laneFrame s l) := by
  unfold State.laneFrame
  extract_lets +onlyGivenNames -merge -useContext -underBinder x2711
  have h2712 : Agree MM so x2711 := by
    subst x2711
    refine State.rlGrid_touch (sub_trans (by decide) hmm) ?_
    exact hag
  try clear_value x2711
  extract_lets +onlyGivenNames -merge -useContext -underBinder x2713
  try clear_value x2713
  extract_lets +onlyGivenNames -merge -useContext -underBinder x2714
  try clear_value x2714
  split
  · exact h2712
  · refine Agree.ite ?_ ?_
    · exact h2712
    · extract_lets +onlyGivenNames -merge -useContext -underBinder x2715
      have h2716 : Agree MM so x2715 := by
        subst x2715
        refine State.setLane_touch (sub_trans (by decide) hmm) ?_
        exact h2712
      try clear_value x2715
      extract_lets +onlyGivenNames -merge -useContext -underBinder x2717
      try clear_value x2717
      extract_lets +onlyGivenNames -merge -useContext -underBinder x2718
      try clear_value x2718
      extract_lets +onlyGivenNames -merge -useContext -underBinder x2719
      try clear_value x2719
      refine Agree.ite ?_ ?_
      · refine State.rlBreak_touch (sub_trans (by decide) hmm) ?_
        exact h2716
      · refine Agree.ite ?_ ?_
        · refine State.irq_touch (sub_trans (by decide) hmm) ?_
          refine Agree.fsetB ?_ (sub_bit hmm (by decide)) _ _
          refine State.rlBreak_touch (sub_trans (by decide) hmm) ?_
          exact h2716
        · refine Agree.ite ?_ ?_
          · refine State.rlBreak_touch (sub_trans (by decide) hmm) ?_
            exact h2716
          · extract_lets +onlyGivenNames -merge -useContext -underBinder x2720
            try clear_value x2720
            extract_lets +onlyGivenNames -merge -useContext -underBinder x2721
            try clear_value x2721
            extract_lets +onlyGivenNames -merge -useContext -underBinder x2722
            try clear_value x2722
            extract_lets +onlyGivenNames -merge -useContext -underBinder x2723
            have h2724 : Agree MM so x2723 := by
              subst x2723
              refine State.setLane_touch (sub_trans (by decide) hmm) ?_
              exact h2716
            try clear_value x2723
            extract_lets +onlyGivenNames -merge -useContext -underBinder x2725
            try clear_value x2725
            extract_lets +onlyGivenNames -merge -useContext -underBinder x2726
            try clear_value x2726
            extract_lets +onlyGivenNames -merge -useContext -underBinder x2727
            have h2728 : Agree MM so x2727 := by
              subst x2727
              refine Agree.ite ?_ ?_
              · refine Agree.fset ?_ (sub_bit hmm (by decide)) _ _
                refine State.setLane_touch (sub_trans (by decide) hmm) ?_
                exact h2724
              · exact h2724
            try clear_value x2727
            refine Agree.ite ?_ ?_
            · refine State.rlForget_touch (sub_trans (by decide) hmm) ?_
              refine Agree.forEach ?_ (fun y2732 t2733 h2734 => ?_) _
              · exact h2728
              · refine State.rlOnePoint_touch (sub_trans (by decide) hmm) ?_
                exact h2734
            · exact h2728

theorem State.rlCopyDone_touch {MM : Nat} {so : State} {s : Sys2Proof.Machine.State} {l : ℕ}
    (hmm : Machine.sub 0x210800000000000000000000000000000010000000000000000180000000000200200 MM = true) (hag : Agree MM so s) :
    Agree MM so (@State.rlCopyDone s l) := by
  unfold State.rlCopyDone
  refine Agree.ite ?_ ?_
  · exact hag
  · extract_lets +onlyGivenNames -merge -useContext -underBinder x3123
    try clear_value x3123
    extract_lets +onlyGivenNames -merge -useContext -underBinder x3124
    try clear_value x3124
    extract_lets +onlyGivenNames -merge -useContext -underBinder x3125
    try clear_value x3125
    extract_lets +onlyGivenNames -merge -useContext -underBinder x3126
    have h3127 : Agree MM so x3126 := by
      subst x3126
      refine State.setLane_touch (sub_trans (by decide) hmm) ?_
      exact hag
    try clear_value x3126
    refine State.rlSwapOff_touch (sub_trans (by decide) hmm) ?_
    refine State.rsmpBusy_touch (sub_trans (by decide) hmm) ?_
    refine Agree.fsetB ?_ (sub_bit hmm (by decide)) _ _
    refine State.showFill_touch (sub_trans (by decide) hmm) ?_
    exact h3127

end Sys2Proof.Machine
end

