-- ==== Sys2Proof/Laws/Touch/Line.lean ====
section
/-!
SUPPORT. What the functions of Machine/Line.lean can touch: one lemma per function, its mask after `sub`.
-/

namespace Sys2Proof.Machine

theorem State.pegWrite_touch {MM : Nat} {so : State} {s : Sys2Proof.Machine.State} {r : Sys2Proof.Machine.Reg} {v : ℕ}
    (hmm : Machine.sub 0x400000 MM = true) (hp1 : MM.testBit (64 + r.ctorIdx) = true) (hag : Agree MM so s) :
    Agree MM so (@State.pegWrite s r v) := by
  unfold State.pegWrite
  extract_lets +onlyGivenNames -merge -useContext -underBinder x358
  try clear_value x358
  extract_lets +onlyGivenNames -merge -useContext -underBinder x359
  try clear_value x359
  extract_lets +onlyGivenNames -merge -useContext -underBinder x360
  try clear_value x360
  refine Agree.set_lines ?_ (sub_bit hmm (by decide)) _
  exact hag

theorem State.pegRefuse_touch {MM : Nat} {so : State} {s : Sys2Proof.Machine.State} {i : ℕ} {reason : ℕ}
    (hmm : Machine.sub 0x1000000000000000000000000000000000000000010000000000000000100000000000400200 MM = true) (hag : Agree MM so s) :
    Agree MM so (@State.pegRefuse s i reason) := by
  unfold State.pegRefuse
  extract_lets +onlyGivenNames -merge -useContext -underBinder x361
  try clear_value x361
  extract_lets +onlyGivenNames -merge -useContext -underBinder x362
  try clear_value x362
  extract_lets +onlyGivenNames -merge -useContext -underBinder x363
  have h364 : Agree MM so x363 := by
    subst x363
    refine Agree.set_lines ?_ (sub_bit hmm (by decide)) _
    exact hag
  try clear_value x363
  refine State.irq_touch (sub_trans (by decide) hmm) ?_
  refine Agree.fsetB ?_ (sub_bit hmm (by decide)) _ _
  exact h364

theorem State.pegHold_touch {MM : Nat} {so : State} {s : Sys2Proof.Machine.State} {i : ℕ} {short : Bool}
    (hmm : Machine.sub 0x10000000000000000100000000000400200 MM = true) (hag : Agree MM so s) :
    Agree MM so (@State.pegHold s i short) := by
  unfold State.pegHold
  refine State.irq_touch (sub_trans (by decide) hmm) ?_
  refine Agree.set_lines ?_ (sub_bit hmm (by decide)) _
  exact hag

theorem State.pegSettle_touch {MM : Nat} {so : State} {s : Sys2Proof.Machine.State} {l : ℕ}
    (hmm : Machine.sub 0x10000000000000000100000000000400200 MM = true) (hag : Agree MM so s) :
    Agree MM so (@State.pegSettle s l) := by
  unfold State.pegSettle
  refine Agree.forEach ?_ (fun y365 t366 h367 => ?_) _
  · exact hag
  · refine Agree.ite ?_ ?_
    · refine State.pegHold_touch (sub_trans (by decide) hmm) ?_
      exact h367
    · exact h367

theorem State.lineShow_touch {MM : Nat} {so : State} {s : Sys2Proof.Machine.State} {l : ℕ}
    (hmm : Machine.sub 0xc000000000000000000000000000000000000000000000000000000000000000000000000 MM = true) (hag : Agree MM so s) :
    Agree MM so (@State.lineShow s l) := by
  unfold State.lineShow
  extract_lets +onlyGivenNames -merge -useContext -underBinder x368
  try clear_value x368
  extract_lets +onlyGivenNames -merge -useContext -underBinder x369
  try clear_value x369
  extract_lets +onlyGivenNames -merge -useContext -underBinder x370
  try clear_value x370
  extract_lets +onlyGivenNames -merge -useContext -underBinder x371
  have h372 : Agree MM so x371 := by
    subst x371
    refine Agree.fset ?_ (sub_bit hmm (by decide)) _ _
    exact hag
  try clear_value x371
  refine Agree.fsetB ?_ (sub_bit hmm (by decide)) _ _
  exact h372

theorem State.putPeg_touch {MM : Nat} {so : State} {s : Sys2Proof.Machine.State} {i : ℕ} {p : Sys2Proof.Machine.Peg}
    (hmm : Machine.sub 0x400c000000000000000000000000000000000000000000000000000000000000000000400000 MM = true) (hag : Agree MM so s) :
    Agree MM so (@State.putPeg s i p) := by
  unfold State.putPeg
  extract_lets +onlyGivenNames -merge -useContext -underBinder x373
  try clear_value x373
  extract_lets +onlyGivenNames -merge -useContext -underBinder x374
  have h375 : Agree MM so x374 := by
    subst x374
    refine Agree.set_lines ?_ (sub_bit hmm (by decide)) _
    exact hag
  try clear_value x374
  refine State.lineShow_touch (sub_trans (by decide) hmm) ?_
  refine Agree.fsetBit ?_ (sub_bit hmm (by decide)) _ _ _
  exact h375

theorem State.pegSet_touch {MM : Nat} {so : State} {s : Sys2Proof.Machine.State} {i : ℕ}
    (hmm : Machine.sub 0x500c000000000000000000000000000000000000010000000000000000100000000000400200 MM = true) (hag : Agree MM so s) :
    Agree MM so (@State.pegSet s i) := by
  unfold State.pegSet
  extract_lets +onlyGivenNames -merge -useContext -underBinder x376
  try clear_value x376
  extract_lets +onlyGivenNames -merge -useContext -underBinder x377
  try clear_value x377
  extract_lets +onlyGivenNames -merge -useContext -underBinder x378
  try clear_value x378
  refine Agree.ite ?_ ?_
  · refine State.pegRefuse_touch (sub_trans (by decide) hmm) ?_
    exact hag
  · refine Agree.ite ?_ ?_
    · refine State.pegRefuse_touch (sub_trans (by decide) hmm) ?_
      exact hag
    · refine Agree.ite ?_ ?_
      · refine State.pegRefuse_touch (sub_trans (by decide) hmm) ?_
        exact hag
      · refine Agree.ite ?_ ?_
        · refine State.pegRefuse_touch (sub_trans (by decide) hmm) ?_
          exact hag
        · refine Agree.ite ?_ ?_
          · refine State.pegRefuse_touch (sub_trans (by decide) hmm) ?_
            exact hag
          · refine State.pegSettle_touch (sub_trans (by decide) hmm) ?_
            refine State.putPeg_touch (sub_trans (by decide) hmm) ?_
            exact hag

theorem State.pegArm_touch {MM : Nat} {so : State} {s : Sys2Proof.Machine.State} {i : ℕ}
    (hmm : Machine.sub 0x500c000000000000000000000000000000000000010000000000000000100000000000400200 MM = true) (hag : Agree MM so s) :
    Agree MM so (@State.pegArm s i) := by
  unfold State.pegArm
  extract_lets +onlyGivenNames -merge -useContext -underBinder x379
  try clear_value x379
  refine Agree.ite ?_ ?_
  · refine State.pegRefuse_touch (sub_trans (by decide) hmm) ?_
    exact hag
  · refine Agree.ite ?_ ?_
    · refine State.pegRefuse_touch (sub_trans (by decide) hmm) ?_
      exact hag
    · refine Agree.ite ?_ ?_
      · refine State.pegRefuse_touch (sub_trans (by decide) hmm) ?_
        exact hag
      · refine State.putPeg_touch (sub_trans (by decide) hmm) ?_
        exact hag

theorem State.pegStart_touch {MM : Nat} {so : State} {s : Sys2Proof.Machine.State} {i : ℕ}
    (hmm : Machine.sub 0x400c000000000000000000000000000000000000010000000000000000100000000000400200 MM = true) (hag : Agree MM so s) :
    Agree MM so (@State.pegStart s i) := by
  unfold State.pegStart
  extract_lets +onlyGivenNames -merge -useContext -underBinder x380
  try clear_value x380
  extract_lets +onlyGivenNames -merge -useContext -underBinder x381
  try clear_value x381
  extract_lets +onlyGivenNames -merge -useContext -underBinder x382
  try clear_value x382
  extract_lets +onlyGivenNames -merge -useContext -underBinder x383
  try clear_value x383
  refine State.pegSettle_touch (sub_trans (by decide) hmm) ?_
  refine State.putPeg_touch (sub_trans (by decide) hmm) ?_
  exact hag

theorem State.pegFire_touch {MM : Nat} {so : State} {s : Sys2Proof.Machine.State} {i : ℕ}
    (hmm : Machine.sub 0x500c000000000000000000000000000000000000010000000000000000100000000000400200 MM = true) (hag : Agree MM so s) :
    Agree MM so (@State.pegFire s i) := by
  unfold State.pegFire
  refine Agree.ite ?_ ?_
  · refine State.pegStart_touch (sub_trans (by decide) hmm) ?_
    exact hag
  · refine State.pegRefuse_touch (sub_trans (by decide) hmm) ?_
    exact hag

theorem State.pegRelease_touch {MM : Nat} {so : State} {s : Sys2Proof.Machine.State} {i : ℕ}
    (hmm : Machine.sub 0x500c000000000000000000000000000000000000010000000000000000100000000000400200 MM = true) (hag : Agree MM so s) :
    Agree MM so (@State.pegRelease s i) := by
  unfold State.pegRelease
  refine Agree.ite ?_ ?_
  · refine State.pegRefuse_touch (sub_trans (by decide) hmm) ?_
    exact hag
  · refine State.putPeg_touch (sub_trans (by decide) hmm) ?_
    exact hag

theorem State.pegCommand_touch {MM : Nat} {so : State} {s : Sys2Proof.Machine.State} {cmd : ℕ}
    (hmm : Machine.sub 0x500c000000000000000000000000000000000000010000000000000000100000000000400200 MM = true) (hag : Agree MM so s) :
    Agree MM so (@State.pegCommand s cmd) := by
  unfold State.pegCommand
  extract_lets +onlyGivenNames -merge -useContext -underBinder x384
  try clear_value x384
  refine Agree.ite ?_ ?_
  · refine State.pegSet_touch (sub_trans (by decide) hmm) ?_
    exact hag
  · refine Agree.ite ?_ ?_
    · refine State.pegArm_touch (sub_trans (by decide) hmm) ?_
      exact hag
    · refine Agree.ite ?_ ?_
      · refine State.pegFire_touch (sub_trans (by decide) hmm) ?_
        exact hag
      · refine Agree.ite ?_ ?_
        · refine State.pegRelease_touch (sub_trans (by decide) hmm) ?_
          exact hag
        · exact hag

theorem State.tidxNext_touch {MM : Nat} {so : State} {s : Sys2Proof.Machine.State} {x : ℕ}
    (hmm : Machine.sub 0x2000000000000000000000000000000000000000000000000000000000000000000000000000000 MM = true) (hag : Agree MM so s) :
    Agree MM so (@State.tidxNext s x) := by
  unfold State.tidxNext
  refine Agree.fadd ?_ (sub_bit hmm (by decide)) _ _
  exact hag

theorem State.setStack_touch {MM : Nat} {so : State} {s : Sys2Proof.Machine.State} {x : ℕ} {v : Sys2Proof.Machine.HbmStack}
    (hmm : Machine.sub 0x400000 MM = true) (hag : Agree MM so s) :
    Agree MM so (@State.setStack s x v) := by
  unfold State.setStack
  refine Agree.set_lines ?_ (sub_bit hmm (by decide)) _
  exact hag

theorem State.govForget_touch {MM : Nat} {so : State} {s : Sys2Proof.Machine.State} {owner : ℕ}
    (hmm : Machine.sub 0x400000 MM = true) (hag : Agree MM so s) :
    Agree MM so (@State.govForget s owner) := by
  unfold State.govForget
  refine Agree.set_lines ?_ (sub_bit hmm (by decide)) _
  exact hag

theorem State.writerState_touch {MM : Nat} {so : State} {s : Sys2Proof.Machine.State}
    (hmm : Machine.sub 0x2000000000000000000000000000000000010000000000000000100000000000000200 MM = true) (hag : Agree MM so s) :
    Agree MM so (@State.writerState s) := by
  unfold State.writerState
  refine Agree.ite ?_ ?_
  · exact hag
  · refine State.irq_touch (sub_trans (by decide) hmm) ?_
    refine Agree.fset ?_ (sub_bit hmm (by decide)) _ _
    exact hag

theorem State.setLine_touch {MM : Nat} {so : State} {s : Sys2Proof.Machine.State} {l : ℕ} {x : Sys2Proof.Machine.Line}
    (hmm : Machine.sub 0x400000 MM = true) (hag : Agree MM so s) :
    Agree MM so (@State.setLine s l x) := by
  unfold State.setLine
  refine Agree.set_lines ?_ (sub_bit hmm (by decide)) _
  exact hag

theorem State.pegGrow_touch {MM : Nat} {so : State} {s : Sys2Proof.Machine.State} {l : ℕ} {b : ℕ}
    (hmm : Machine.sub 0x10000000000000000100000000000400200 MM = true) (hag : Agree MM so s) :
    Agree MM so (@State.pegGrow s l b) := by
  unfold State.pegGrow
  refine Agree.forEach ?_ (fun y625 t626 h627 => ?_) _
  · exact hag
  · extract_lets +onlyGivenNames -merge -useContext -underBinder x628
    try clear_value x628
    refine Agree.ite ?_ ?_
    · exact h627
    · refine Agree.ite ?_ ?_
      · refine State.pegHold_touch (sub_trans (by decide) hmm) ?_
        exact h627
      · refine Agree.set_lines ?_ (sub_bit hmm (by decide)) _
        exact h627

theorem State.pegStop_touch {MM : Nat} {so : State} {s : Sys2Proof.Machine.State} {l : ℕ} {next : ℕ}
    (hmm : Machine.sub 0x10000000000000000100000000000400200 MM = true) (hag : Agree MM so s) :
    Agree MM so (@State.pegStop s l next) := by
  unfold State.pegStop
  extract_lets +onlyGivenNames -merge -useContext -underBinder x629
  have h630 : Agree MM so x629 := by
    subst x629
    refine Agree.forEach ?_ (fun y631 t632 h633 => ?_) _
    · exact hag
    · extract_lets +onlyGivenNames -merge -useContext -underBinder x634
      try clear_value x634
      refine Agree.ite ?_ ?_
      · refine State.pegHold_touch (sub_trans (by decide) hmm) ?_
        exact h633
      · refine Agree.ite ?_ ?_
        · refine State.pegHold_touch (sub_trans (by decide) hmm) ?_
          exact h633
        · exact h633
  try clear_value x629
  refine State.pegSettle_touch (sub_trans (by decide) hmm) ?_
  exact h630

theorem State.hbmWritten_touch {MM : Nat} {so : State} {s : Sys2Proof.Machine.State} {a : ℕ} {n : ℕ}
    (hmm : Machine.sub 0x8 MM = true) (hag : Agree MM so s) :
    Agree MM so (@State.hbmWritten s a n) := by
  unfold State.hbmWritten
  refine Agree.set_ecc ?_ (sub_bit hmm (by decide)) _
  exact hag

theorem State.govTake_touch {MM : Nat} {so : State} {s : Sys2Proof.Machine.State} {c : ℕ} {n : ℕ}
    (hmm : Machine.sub 0x400000 MM = true) (hag : Agree MM so s) :
    Agree MM so (@State.govTake s c n) := by
  unfold State.govTake
  refine Agree.set_lines ?_ (sub_bit hmm (by decide)) _
  exact hag

theorem State.govAdmit_touch {MM : Nat} {so : State} {s : Sys2Proof.Machine.State} {u1 : ℕ}
    (hmm : Machine.sub 0x40000c MM = true) (hag : Agree MM so s) :
    Agree MM so (@State.govAdmit s u1) := by
  induction u1 generalizing s with
  | zero => exact hag
  | succ k ih =>
    rw [State.govAdmit]
    split
    · exact hag
    · refine Agree.ite ?_ (Agree.set_lines hag (sub_bit hmm (by decide)) _)
      extract_lets u
      have h1 : Agree MM so u := by
        subst u
        exact State.putBytes_touch (sub_trans (by decide) hmm) (State.hbmWritten_touch (sub_trans (by decide) hmm)
          (State.govTake_touch (sub_trans (by decide) hmm) hag))
      clear_value u
      exact ih (Agree.set_lines h1 (sub_bit hmm (by decide)) _)

theorem State.lineWShow_touch {MM : Nat} {so : State} {s : Sys2Proof.Machine.State}
    (hmm : Machine.sub 0x2000000000000000000000000000000000000000000000000000000000000000000000 MM = true) (hag : Agree MM so s) :
    Agree MM so (@State.lineWShow s) := by
  unfold State.lineWShow
  extract_lets +onlyGivenNames -merge -useContext -underBinder x635
  have h636 : Agree MM so x635 := by
    subst x635
    refine Agree.fset ?_ (sub_bit hmm (by decide)) _ _
    exact hag
  try clear_value x635
  refine Agree.fset ?_ (sub_bit hmm (by decide)) _ _
  exact h636

theorem State.placeBlock_touch {MM : Nat} {so : State} {s : Sys2Proof.Machine.State} {l : ℕ} {bytes : List Sys2Proof.Byte}
    (hmm : Machine.sub 0xc80200000000000000000000000000000000001000000000000000010000000000040020c MM = true) (hag : Agree MM so s) :
    Agree MM so (@State.placeBlock s l bytes) := by
  unfold State.placeBlock
  extract_lets +onlyGivenNames -merge -useContext -underBinder x637
  try clear_value x637
  extract_lets +onlyGivenNames -merge -useContext -underBinder x638
  try clear_value x638
  extract_lets +onlyGivenNames -merge -useContext -underBinder x639
  try clear_value x639
  extract_lets +onlyGivenNames -merge -useContext -underBinder x640
  have h641 : Agree MM so x640 := by
    subst x640
    refine State.setLine_touch (sub_trans (by decide) hmm) ?_
    exact hag
  try clear_value x640
  extract_lets +onlyGivenNames -merge -useContext -underBinder x642
  have h643 : Agree MM so x642 := by
    subst x642
    refine Agree.ite ?_ ?_
    · refine Agree.fadd ?_ (sub_bit hmm (by decide)) _ _
      exact h641
    · exact h641
  try clear_value x642
  extract_lets +onlyGivenNames -merge -useContext -underBinder x644
  try clear_value x644
  extract_lets +onlyGivenNames -merge -useContext -underBinder x645
  have h646 : Agree MM so x645 := by
    subst x645
    refine Agree.set_lines ?_ (sub_bit hmm (by decide)) _
    exact h643
  try clear_value x645
  extract_lets +onlyGivenNames -merge -useContext -underBinder x647
  have h648 : Agree MM so x647 := by
    subst x647
    refine State.pegGrow_touch (sub_trans (by decide) hmm) ?_
    exact h646
  try clear_value x647
  split
  · extract_lets +onlyGivenNames -merge -useContext -underBinder x649
    have h650 : Agree MM so x649 := by
      subst x649
      refine State.pegStop_touch (sub_trans (by decide) hmm) ?_
      exact h648
    try clear_value x649
    extract_lets +onlyGivenNames -merge -useContext -underBinder x651
    try clear_value x651
    extract_lets +onlyGivenNames -merge -useContext -underBinder x652
    have h653 : Agree MM so x652 := by
      subst x652
      refine State.setLine_touch (sub_trans (by decide) hmm) ?_
      refine Agree.fset ?_ (sub_bit hmm (by decide)) _ _
      exact h650
    try clear_value x652
    extract_lets +onlyGivenNames -merge -useContext -underBinder x654
    have h655 : Agree MM so x654 := by
      subst x654
      refine Agree.ite ?_ ?_
      · refine State.govAdmit_touch (sub_trans (by decide) hmm) ?_
        exact h653
      · exact h653
    try clear_value x654
    refine State.lineWShow_touch (sub_trans (by decide) hmm) ?_
    refine State.lineShow_touch (sub_trans (by decide) hmm) ?_
    exact h655

theorem State.toShort_touch {MM : Nat} {so : State} {s : Sys2Proof.Machine.State} {l : ℕ} {bytes : List Sys2Proof.Byte}
    (hmm : Machine.sub 0x600000000000000000000000000000000001840000000000001c18000000000040020c MM = true) (hag : Agree MM so s) :
    Agree MM so (@State.toShort s l bytes) := by
  unfold State.toShort
  extract_lets +onlyGivenNames -merge -useContext -underBinder x662
  try clear_value x662
  extract_lets +onlyGivenNames -merge -useContext -underBinder x663
  subst x663
  beta_reduce
  extract_lets +onlyGivenNames -merge -useContext -underBinder x664
  subst x664
  beta_reduce
  refine Agree.ite ?_ ?_
  · refine State.irq_touch (sub_trans (by decide) hmm) ?_
    refine Agree.faddSat ?_ (sub_bit hmm (by decide)) _ _
    exact hag
  · refine Agree.ite ?_ ?_
    · refine Agree.ite ?_ ?_
      · refine State.irq_touch (sub_trans (by decide) hmm) ?_
        refine Agree.faddSat ?_ (sub_bit hmm (by decide)) _ _
        extract_lets +onlyGivenNames -merge -useContext -underBinder x672
        try clear_value x672
        extract_lets +onlyGivenNames -merge -useContext -underBinder x673
        try clear_value x673
        extract_lets +onlyGivenNames -merge -useContext -underBinder x674
        try clear_value x674
        extract_lets +onlyGivenNames -merge -useContext -underBinder x675
        try clear_value x675
        extract_lets +onlyGivenNames -merge -useContext -underBinder x676
        try clear_value x676
        extract_lets +onlyGivenNames -merge -useContext -underBinder x677
        have h678 : Agree MM so x677 := by
          subst x677
          refine State.sramOwnWrite_touch (sub_trans (by decide) hmm) ?_
          refine Agree.set_lines ?_ (sub_bit hmm (by decide)) _
          exact hag
        try clear_value x677
        refine Agree.set_lines ?_ (sub_bit hmm (by decide)) _
        exact h678
      · refine State.irq_touch (sub_trans (by decide) hmm) ?_
        refine Agree.faddSat ?_ (sub_bit hmm (by decide)) _ _
        exact hag
    · extract_lets +onlyGivenNames -merge -useContext -underBinder x679
      try clear_value x679
      extract_lets +onlyGivenNames -merge -useContext -underBinder x680
      try clear_value x680
      extract_lets +onlyGivenNames -merge -useContext -underBinder x681
      have h682 : Agree MM so x681 := by
        subst x681
        refine State.sramOwnWrite_touch (sub_trans (by decide) hmm) ?_
        exact hag
      try clear_value x681
      extract_lets +onlyGivenNames -merge -useContext -underBinder x683
      try clear_value x683
      extract_lets +onlyGivenNames -merge -useContext -underBinder x684
      have h685 : Agree MM so x684 := by
        subst x684
        refine Agree.set_lines ?_ (sub_bit hmm (by decide)) _
        exact h682
      try clear_value x684
      extract_lets +onlyGivenNames -merge -useContext -underBinder x686
      try clear_value x686
      extract_lets +onlyGivenNames -merge -useContext -underBinder x687
      have h688 : Agree MM so x687 := by
        subst x687
        refine State.lineWShow_touch (sub_trans (by decide) hmm) ?_
        exact h685
      try clear_value x687
      refine Agree.ite ?_ ?_
      · refine State.pulse_touch (sub_trans (by decide) hmm) ?_
        refine State.irq_touch (sub_trans (by decide) hmm) ?_
        exact h688
      · exact h688

theorem State.completeBlock_touch {MM : Nat} {so : State} {s : Sys2Proof.Machine.State} {l : ℕ}
    (hmm : Machine.sub 0xf80600000000000000000000000000000000001840000000000001c18000000000040020c MM = true) (hag : Agree MM so s) :
    Agree MM so (@State.completeBlock s l) := by
  unfold State.completeBlock
  extract_lets +onlyGivenNames -merge -useContext -underBinder x689
  try clear_value x689
  extract_lets +onlyGivenNames -merge -useContext -underBinder x690
  have h691 : Agree MM so x690 := by
    subst x690
    refine State.writerState_touch (sub_trans (by decide) hmm) ?_
    exact hag
  try clear_value x690
  extract_lets +onlyGivenNames -merge -useContext -underBinder x692
  try clear_value x692
  extract_lets +onlyGivenNames -merge -useContext -underBinder x693
  try clear_value x693
  split
  · split
    · extract_lets +onlyGivenNames -merge -useContext -underBinder x694
      try clear_value x694
      extract_lets +onlyGivenNames -merge -useContext -underBinder x695
      try clear_value x695
      extract_lets +onlyGivenNames -merge -useContext -underBinder x696
      have h697 : Agree MM so x696 := by
        subst x696
        refine Agree.set64 ?_ (sub_bit hmm (by decide)) (sub_bit hmm (by decide)) _ _
        exact h691
      try clear_value x696
      extract_lets +onlyGivenNames -merge -useContext -underBinder x698
      have h699 : Agree MM so x698 := by
        subst x698
        refine State.setLine_touch (sub_trans (by decide) hmm) ?_
        exact h697
      try clear_value x698
      extract_lets +onlyGivenNames -merge -useContext -underBinder x700
      have h701 : Agree MM so x700 := by
        subst x700
        refine Agree.ite ?_ ?_
        · refine State.placeBlock_touch (sub_trans (by decide) hmm) ?_
          exact h699
        · refine State.toShort_touch (sub_trans (by decide) hmm) ?_
          exact h699
      try clear_value x700
      refine State.lineWShow_touch (sub_trans (by decide) hmm) ?_
      exact h701

theorem State.lineFlush_touch {MM : Nat} {so : State} {s : Sys2Proof.Machine.State} {l : ℕ}
    (hmm : Machine.sub 0xf90600000000000000000000000000000000001840000000000001c18000000000040020c MM = true) (hag : Agree MM so s) :
    Agree MM so (@State.lineFlush s l) := by
  unfold State.lineFlush
  extract_lets +onlyGivenNames -merge -useContext -underBinder x702
  try clear_value x702
  extract_lets +onlyGivenNames -merge -useContext -underBinder x703
  try clear_value x703
  refine Agree.ite ?_ ?_
  · exact hag
  · extract_lets +onlyGivenNames -merge -useContext -underBinder x704
    have h705 : Agree MM so x704 := by
      subst x704
      refine Agree.ite ?_ ?_
      · exact hag
      · refine State.completeBlock_touch (sub_trans (by decide) hmm) ?_
        exact hag
    try clear_value x704
    refine Agree.fsetB ?_ (sub_bit hmm (by decide)) _ _
    refine State.setLine_touch (sub_trans (by decide) hmm) ?_
    exact h705

theorem State.lineWriters_touch {MM : Nat} {so : State} {s : Sys2Proof.Machine.State}
    (hmm : Machine.sub 0xf90600000000000000000000000000000000001840000000000001c18000000000040020c MM = true) (hag : Agree MM so s) :
    Agree MM so (@State.lineWriters s) := by
  unfold State.lineWriters
  extract_lets +onlyGivenNames -merge -useContext -underBinder x706
  try clear_value x706
  extract_lets +onlyGivenNames -merge -useContext -underBinder x707
  try clear_value x707
  extract_lets +onlyGivenNames -merge -useContext -underBinder x708
  try clear_value x708
  extract_lets +onlyGivenNames -merge -useContext -underBinder x709
  try clear_value x709
  extract_lets +onlyGivenNames -merge -useContext -underBinder x710
  try clear_value x710
  extract_lets +onlyGivenNames -merge -useContext -underBinder x711
  try clear_value x711
  refine Agree.forEach ?_ (fun y712 t713 h714 => ?_) _
  · exact hag
  · extract_lets +onlyGivenNames -merge -useContext -underBinder x715
    try clear_value x715
    extract_lets +onlyGivenNames -merge -useContext -underBinder x716
    try clear_value x716
    refine Agree.ite ?_ ?_
    · exact h714
    · extract_lets +onlyGivenNames -merge -useContext -underBinder x717
      have h718 : Agree MM so x717 := by
        subst x717
        refine State.lineFlush_touch (sub_trans (by decide) hmm) ?_
        refine State.setLine_touch (sub_trans (by decide) hmm) ?_
        exact h714
      try clear_value x717
      extract_lets +onlyGivenNames -merge -useContext -underBinder x719
      try clear_value x719
      refine Agree.ite ?_ ?_
      · refine State.setLine_touch (sub_trans (by decide) hmm) ?_
        exact h718
      · exact h718

theorem State.epochClose_touch {MM : Nat} {so : State} {s : Sys2Proof.Machine.State}
    (hmm : Machine.sub 0xfffffffffffffffffffffffffffffffffffffffffffffffffffffffffffffffffffffffffffffffffffffffffffffffffffffffffffffff000000000070820c MM = true) (hag : Agree MM so s) :
    Agree MM so (@State.epochClose s) := by
  unfold State.epochClose
  split
  · exact hag
  · extract_lets +onlyGivenNames -merge -useContext -underBinder x807
    try clear_value x807
    extract_lets +onlyGivenNames -merge -useContext -underBinder x808
    have h809 : Agree MM so x808 := by
      subst x808
      exact hag
    try clear_value x808
    extract_lets +onlyGivenNames -merge -useContext -underBinder x810
    have h811 : Agree MM so x810 := by
      subst x810
      refine State.withOld_touch (sub_trans (by decide) hmm) ?_
      exact hag
    try clear_value x810
    split
    · rename_i heq
      have h812 := AgreeP.of_eq (M := MM) (s0 := so) heq (by
        refine State.convert_touch (sub_trans (by decide) hmm) ?_
        exact h811
        )
      extract_lets +onlyGivenNames -merge -useContext -underBinder x813
      try clear_value x813
      extract_lets +onlyGivenNames -merge -useContext -underBinder x814
      have h815 : Agree MM so x814 := by
        subst x814
        refine Agree.ite ?_ ?_
        · refine State.strEnd_touch (sub_trans (by decide) hmm) ?_
          exact h812
        · refine Agree.set_chains ?_ (sub_bit hmm (by decide)) _
          exact h812
      try clear_value x814
      extract_lets +onlyGivenNames -merge -useContext -underBinder x816
      have h817 : Agree MM so x816 := by
        subst x816
        refine State.putBack_touch (sub_trans (by decide) hmm) ?_
        exact h815
      try clear_value x816
      refine State.lineWriters_touch (sub_trans (by decide) hmm) ?_
      refine Agree.set_epoch ?_ (sub_bit hmm (by decide)) _
      exact h817

theorem State.hbmUpdate_touch {MM : Nat} {so : State} {s : Sys2Proof.Machine.State}
    (hmm : Machine.sub 0x20000000002000000000000000000000000000000000010000000000000000100000000000000200 MM = true) (hag : Agree MM so s) :
    Agree MM so (@State.hbmUpdate s) := by
  unfold State.hbmUpdate
  extract_lets +onlyGivenNames -merge -useContext -underBinder x827
  try clear_value x827
  refine Agree.ite ?_ ?_
  · exact hag
  · refine State.writerState_touch (sub_trans (by decide) hmm) ?_
    refine State.irq_touch (sub_trans (by decide) hmm) ?_
    refine Agree.fsetB ?_ (sub_bit hmm (by decide)) _ _
    exact hag

theorem State.lineEnabled_touch {MM : Nat} {so : State} {s : Sys2Proof.Machine.State} {l : ℕ} {old : Bool}
    (hmm : Machine.sub 0xc000000000000000000000000000000000000000000000000000000000000000000400000 MM = true) (hag : Agree MM so s) :
    Agree MM so (@State.lineEnabled s l old) := by
  unfold State.lineEnabled
  extract_lets +onlyGivenNames -merge -useContext -underBinder x914
  try clear_value x914
  refine Agree.ite ?_ ?_
  · extract_lets +onlyGivenNames -merge -useContext -underBinder x915
    try clear_value x915
    refine State.lineShow_touch (sub_trans (by decide) hmm) ?_
    refine State.setLine_touch (sub_trans (by decide) hmm) ?_
    exact hag
  · refine Agree.ite ?_ ?_
    · refine State.lineShow_touch (sub_trans (by decide) hmm) ?_
      refine State.setLine_touch (sub_trans (by decide) hmm) ?_
      exact hag
    · exact hag

theorem State.fetchStart_touch {MM : Nat} {so : State} {s : Sys2Proof.Machine.State}
    (hmm : Machine.sub 0x88000000000000000000000000000000000010000000000000000180000000000400200 MM = true) (hag : Agree MM so s) :
    Agree MM so (@State.fetchStart s) := by
  unfold State.fetchStart
  refine Agree.ite ?_ ?_
  · refine Agree.fsetB ?_ (sub_bit hmm (by decide)) _ _
    exact hag
  · extract_lets +onlyGivenNames -merge -useContext -underBinder x916
    try clear_value x916
    extract_lets +onlyGivenNames -merge -useContext -underBinder x917
    try clear_value x917
    extract_lets +onlyGivenNames -merge -useContext -underBinder x918
    try clear_value x918
    extract_lets +onlyGivenNames -merge -useContext -underBinder x919
    try clear_value x919
    extract_lets +onlyGivenNames -merge -useContext -underBinder x920
    try clear_value x920
    extract_lets +onlyGivenNames -merge -useContext -underBinder x921
    try clear_value x921
    extract_lets +onlyGivenNames -merge -useContext -underBinder x922
    try clear_value x922
    extract_lets +onlyGivenNames -merge -useContext -underBinder x923
    have h924 : Agree MM so x923 := by
      subst x923
      refine Agree.fset ?_ (sub_bit hmm (by decide)) _ _
      refine Agree.fset ?_ (sub_bit hmm (by decide)) _ _
      refine Agree.fset ?_ (sub_bit hmm (by decide)) _ _
      exact hag
    try clear_value x923
    extract_lets +onlyGivenNames -merge -useContext -underBinder x925
    have h926 : Agree MM so x925 := by
      subst x925
      refine Agree.fset ?_ (sub_bit hmm (by decide)) _ _
      exact h924
    try clear_value x925
    refine Agree.ite ?_ ?_
    · refine State.irq_touch (sub_trans (by decide) hmm) ?_
      refine Agree.fsetB ?_ (sub_bit hmm (by decide)) _ _
      refine Agree.fsetB ?_ (sub_bit hmm (by decide)) _ _
      exact h926
    · extract_lets +onlyGivenNames -merge -useContext -underBinder x927
      try clear_value x927
      refine State.setBusy_touch (sub_trans (by decide) hmm) ?_
      refine Agree.fsetB ?_ (sub_bit hmm (by decide)) _ _
      refine Agree.set_lines ?_ (sub_bit hmm (by decide)) _
      exact h926

theorem State.trainAttempt_touch {MM : Nat} {so : State} {s : Sys2Proof.Machine.State} {x : ℕ} {mode : ℕ}
    (hmm : Machine.sub 0x20000000000000000000000000000000000000000000000000000000000000000000000400000 MM = true) (hag : Agree MM so s) :
    Agree MM so (@State.trainAttempt s x mode) := by
  unfold State.trainAttempt
  refine Agree.faddSat ?_ (sub_bit hmm (by decide)) _ _
  refine State.setStack_touch (sub_trans (by decide) hmm) ?_
  exact hag

theorem State.stackState_touch {MM : Nat} {so : State} {s : Sys2Proof.Machine.State} {x : ℕ} {st : ℕ}
    (hmm : Machine.sub 0x20020000002000000000000000000000000000000000010000000000000000100000000000000200 MM = true) (hag : Agree MM so s) :
    Agree MM so (@State.stackState s x st) := by
  unfold State.stackState
  refine Agree.ite ?_ ?_
  · exact hag
  · refine State.hbmUpdate_touch (sub_trans (by decide) hmm) ?_
    refine State.irq_touch (sub_trans (by decide) hmm) ?_
    refine Agree.fset ?_ (sub_bit hmm (by decide)) _ _
    exact hag

theorem State.trainBegin_touch {MM : Nat} {so : State} {s : Sys2Proof.Machine.State} {x : ℕ} {mode : ℕ}
    (hmm : Machine.sub 0x20020000002000000000000000000000000000000000010000000000000000180000000000400200 MM = true) (hag : Agree MM so s) :
    Agree MM so (@State.trainBegin s x mode) := by
  unfold State.trainBegin
  extract_lets +onlyGivenNames -merge -useContext -underBinder x1048
  try clear_value x1048
  extract_lets +onlyGivenNames -merge -useContext -underBinder x1049
  have h1050 : Agree MM so x1049 := by
    subst x1049
    refine State.setStack_touch (sub_trans (by decide) hmm) ?_
    exact hag
  try clear_value x1049
  refine State.trainAttempt_touch (sub_trans (by decide) hmm) ?_
  refine State.setBusy_touch (sub_trans (by decide) hmm) ?_
  refine State.stackState_touch (sub_trans (by decide) hmm) ?_
  exact h1050

theorem State.trainAsk_touch {MM : Nat} {so : State} {s : Sys2Proof.Machine.State} {x : ℕ} {mode : ℕ}
    (hmm : Machine.sub 0x20020000002000000000000000000000000000000000010000000000000000180000000000400200 MM = true) (hag : Agree MM so s) :
    Agree MM so (@State.trainAsk s x mode) := by
  unfold State.trainAsk
  refine Agree.ite ?_ ?_
  · refine State.trainBegin_touch (sub_trans (by decide) hmm) ?_
    exact hag
  · refine State.setStack_touch (sub_trans (by decide) hmm) ?_
    exact hag

theorem State.trainEnd_touch {MM : Nat} {so : State} {s : Sys2Proof.Machine.State} {x : ℕ} {st : ℕ}
    (hmm : Machine.sub 0x20030000002000000000000000000000000000000000010000000000000000180000000000400200 MM = true) (hag : Agree MM so s) :
    Agree MM so (@State.trainEnd s x st) := by
  unfold State.trainEnd
  refine State.stackState_touch (sub_trans (by decide) hmm) ?_
  refine Agree.fsetB ?_ (sub_bit hmm (by decide)) _ _
  refine State.setBusy_touch (sub_trans (by decide) hmm) ?_
  refine State.setStack_touch (sub_trans (by decide) hmm) ?_
  exact hag

theorem State.govAsk_touch {MM : Nat} {so : State} {s : Sys2Proof.Machine.State} {c : ℕ} {n : ℕ} {owner : ℕ}
    (hmm : Machine.sub 0x400000 MM = true) (hag : Agree MM so s) :
    AgreeP MM so (@State.govAsk s c n owner) := by
  unfold State.govAsk
  refine AgreeP.ite ?_ ?_
  · refine AgreeP.mk ?_
    refine Agree.set_lines ?_ (sub_bit hmm (by decide)) _
    exact hag
  · refine AgreeP.ite ?_ ?_
    · refine AgreeP.mk ?_
      exact hag
    · refine AgreeP.ite ?_ ?_
      · refine AgreeP.mk ?_
        refine State.govTake_touch (sub_trans (by decide) hmm) ?_
        exact hag
      · refine AgreeP.mk ?_
        refine Agree.set_lines ?_ (sub_bit hmm (by decide)) _
        exact hag

theorem State.hbmUncorr_touch {MM : Nat} {so : State} {s : Sys2Proof.Machine.State} {a : ℕ} {src : ℕ}
    (hmm : Machine.sub 0x43e00000000000000000000000000000000000000000780000000000000000000000000000000000000000010000000000000000180000000000080200 MM = true) (hag : Agree MM so s) :
    Agree MM so (@State.hbmUncorr s a src) := by
  unfold State.hbmUncorr
  extract_lets +onlyGivenNames -merge -useContext -underBinder x1697
  try clear_value x1697
  extract_lets +onlyGivenNames -merge -useContext -underBinder x1698
  have h1699 : Agree MM so x1698 := by
    subst x1698
    refine Agree.faddSat ?_ (sub_bit hmm (by decide)) _ _
    exact hag
  try clear_value x1698
  extract_lets +onlyGivenNames -merge -useContext -underBinder x1700
  have h1701 : Agree MM so x1700 := by
    subst x1700
    refine Agree.setReg ?_ (sub_bit hmm (by decide)) _ _
    exact h1699
  try clear_value x1700
  extract_lets +onlyGivenNames -merge -useContext -underBinder x1702
  have h1703 : Agree MM so x1702 := by
    subst x1702
    refine Agree.setReg ?_ (sub_bit hmm (by decide)) _ _
    exact h1701
  try clear_value x1702
  extract_lets +onlyGivenNames -merge -useContext -underBinder x1704
  have h1705 : Agree MM so x1704 := by
    subst x1704
    refine Agree.ite ?_ ?_
    · refine Agree.fsetB ?_ (sub_bit hmm (by decide)) _ _
      exact h1699
    · refine State.irq_touch (sub_trans (by decide) hmm) ?_
      refine Agree.fsetB ?_ (sub_bit hmm (by decide)) _ _
      refine Agree.fset ?_ (sub_bit hmm (by decide)) _ _
      exact h1703
  try clear_value x1704
  extract_lets +onlyGivenNames -merge -useContext -underBinder x1706
  try clear_value x1706
  refine Agree.ite ?_ ?_
  · exact h1705
  · refine State.darnLog_touch (sub_trans (by decide) hmm) ?_
    refine Agree.set_darn ?_ (sub_bit hmm (by decide)) _
    exact h1705

theorem State.hbmRead_touch {MM : Nat} {so : State} {s : Sys2Proof.Machine.State} {a : ℕ} {n : ℕ} {src : ℕ}
    (hmm : Machine.sub 0x43e000000000000000000000000000000000000000007c0000000000000000000000000000000000000000010000000000000000180000000000080200 MM = true) (hag : Agree MM so s) :
    AgreeP MM so (@State.hbmRead s a n src) := by
  unfold State.hbmRead
  extract_lets +onlyGivenNames -merge -useContext -underBinder x1707
  try clear_value x1707
  refine AgreeP.foldl ?_ (fun q1709 y1708 h1710 => ?_) _
  · refine AgreeP.mk ?_
    exact hag
  · split
    · exact h1710
    · refine AgreeP.mk ?_
      refine State.hbmUncorr_touch (sub_trans (by decide) hmm) ?_
      refine AgreeP.fst ?_
      exact h1710
    · refine AgreeP.mk ?_
      refine Agree.faddSat ?_ (sub_bit hmm (by decide)) _ _
      refine AgreeP.fst ?_
      exact h1710

theorem State.drainBlock_touch {MM : Nat} {so : State} {s : Sys2Proof.Machine.State}
    (hmm : Machine.sub 0x43e0000000000000000000000000000000000000000000000c80600000000000000000000000000000000001000000000000001c18000000000048020c MM = true) (hag : Agree MM so s) :
    Agree MM so (@State.drainBlock s) := by
  unfold State.drainBlock
  split
  · exact hag
  · refine Agree.ite ?_ ?_
    · exact hag
    · extract_lets +onlyGivenNames -merge -useContext -underBinder x2053
      try clear_value x2053
      extract_lets +onlyGivenNames -merge -useContext -underBinder x2054
      have h2055 : Agree MM so x2054 := by
        subst x2054
        refine Agree.set_lines ?_ (sub_bit hmm (by decide)) _
        exact hag
      try clear_value x2054
      extract_lets +onlyGivenNames -merge -useContext -underBinder x2056
      try clear_value x2056
      extract_lets +onlyGivenNames -merge -useContext -underBinder x2057
      have h2058 : Agree MM so x2057 := by
        subst x2057
        refine Agree.ite ?_ ?_
        · split
          · rename_i heq
            have h2059 := AgreeP.of_eq (M := MM) (s0 := so) heq (by
              refine State.sramOwnRead_touch (sub_trans (by decide) hmm) ?_
              exact h2055
              )
            extract_lets +onlyGivenNames -merge -useContext -underBinder x2060
            try clear_value x2060
            extract_lets +onlyGivenNames -merge -useContext -underBinder x2061
            try clear_value x2061
            extract_lets +onlyGivenNames -merge -useContext -underBinder x2062
            try clear_value x2062
            refine State.placeBlock_touch (sub_trans (by decide) hmm) ?_
            exact h2059
        · refine State.irq_touch (sub_trans (by decide) hmm) ?_
          refine Agree.faddSat ?_ (sub_bit hmm (by decide)) _ _
          exact h2055
      try clear_value x2057
      refine State.lineWShow_touch (sub_trans (by decide) hmm) ?_
      exact h2058

theorem State.ecsRead_touch {MM : Nat} {so : State} {s : Sys2Proof.Machine.State} {x : ℕ} {rows : ℕ} {count : ℕ} {temp : ℕ}
    (hmm : Machine.sub 0x820000000000000000000000000000000000000000000000000000000000000000000000000000 MM = true) (hag : Agree MM so s) :
    Agree MM so (@State.ecsRead s x rows count temp) := by
  unfold State.ecsRead
  refine Agree.ite ?_ ?_
  · exact hag
  · extract_lets +onlyGivenNames -merge -useContext -underBinder x2102
    have h2103 : Agree MM so x2102 := by
      subst x2102
      refine Agree.fset ?_ (sub_bit hmm (by decide)) _ _
      refine Agree.fset ?_ (sub_bit hmm (by decide)) _ _
      exact hag
    try clear_value x2102
    refine Agree.fset ?_ (sub_bit hmm (by decide)) _ _
    exact h2103

theorem State.pegTrigger_touch {MM : Nat} {so : State} {s : Sys2Proof.Machine.State} {t : ℕ}
    (hmm : Machine.sub 0x500c000000000000000000000000000000000000010000000000000000100000000000400200 MM = true) (hag : Agree MM so s) :
    Agree MM so (@State.pegTrigger s t) := by
  unfold State.pegTrigger
  extract_lets +onlyGivenNames -merge -useContext -underBinder x2377
  try clear_value x2377
  refine Agree.ite ?_ ?_
  · refine State.pegStart_touch (sub_trans (by decide) hmm) ?_
    exact hag
  · refine State.irq_touch (sub_trans (by decide) hmm) ?_
    refine Agree.fsetB ?_ (sub_bit hmm (by decide)) _ _
    exact hag

theorem State.fetchBlock_touch {MM : Nat} {so : State} {s : Sys2Proof.Machine.State} {f : Sys2Proof.Machine.Fetch} {k : ℕ}
    (hmm : Machine.sub 0x43e000000000000000000000000000000000000000007c000008000000000000000000000000000000000001840000000000001c18000000000008020c MM = true) (hag : Agree MM so s) :
    Agree MM so (@State.fetchBlock s f k) := by
  unfold State.fetchBlock
  extract_lets +onlyGivenNames -merge -useContext -underBinder x2420
  try clear_value x2420
  extract_lets +onlyGivenNames -merge -useContext -underBinder x2421
  try clear_value x2421
  extract_lets +onlyGivenNames -merge -useContext -underBinder x2422
  try clear_value x2422
  refine Agree.ite ?_ ?_
  · refine Agree.fadd ?_ (sub_bit hmm (by decide)) _ _
    exact hag
  · extract_lets +onlyGivenNames -merge -useContext -underBinder x2423
    try clear_value x2423
    extract_lets +onlyGivenNames -merge -useContext -underBinder x2424
    try clear_value x2424
    split
    · rename_i heq
      have h2425 := AgreeP.of_eq (M := MM) (s0 := so) heq (by
        refine State.hbmRead_touch (sub_trans (by decide) hmm) ?_
        exact hag
        )
      extract_lets +onlyGivenNames -merge -useContext -underBinder x2426
      have h2427 : Agree MM so x2426 := by
        subst x2426
        refine Agree.ite ?_ ?_
        · refine Agree.fadd ?_ (sub_bit hmm (by decide)) _ _
          exact h2425
        · exact h2425
      try clear_value x2426
      extract_lets +onlyGivenNames -merge -useContext -underBinder x2428
      have h2429 : Agree MM so x2428 := by
        subst x2428
        refine Agree.ite ?_ ?_
        · refine Agree.fadd ?_ (sub_bit hmm (by decide)) _ _
          exact h2427
        · exact h2427
      try clear_value x2428
      extract_lets +onlyGivenNames -merge -useContext -underBinder x2430
      try clear_value x2430
      extract_lets +onlyGivenNames -merge -useContext -underBinder x2431
      try clear_value x2431
      extract_lets +onlyGivenNames -merge -useContext -underBinder x2432
      try clear_value x2432
      extract_lets +onlyGivenNames -merge -useContext -underBinder x2433
      try clear_value x2433
      refine State.sramOwnWrite_touch (sub_trans (by decide) hmm) ?_
      exact h2429

theorem State.fetchRun_touch {MM : Nat} {so : State} {s : Sys2Proof.Machine.State} {f : Sys2Proof.Machine.Fetch} {u2 : ℕ} {u3 : ℕ}
    (hmm : Machine.sub 0x43e000000000000000000000000000000000000000007c000008000000000000000000000000000000000001840000000000001c18000000000048020c MM = true) (hag : Agree MM so s) :
    AgreeP MM so (@State.fetchRun s f u2 u3) := by
  induction u2 generalizing s u3 with
  | zero => exact hag
  | succ n ih =>
    rw [State.fetchRun]
    generalize (f.idx + u3) % max 1 (s.lineB f.line) = i
    have h0 : AgreeP MM so (if ivCount (s.line f.line).written i (i + 1) = 0 then (s, true) else s.govAsk 2 4096 6) :=
      AgreeP.ite hag (State.govAsk_touch (sub_trans (by decide) hmm) hag)
    generalize (if ivCount (s.line f.line).written i (i + 1) = 0 then (s, true) else s.govAsk 2 4096 6) = r at h0 ⊢
    refine AgreeP.ite (ih ?_) ?_
    · exact State.fetchBlock_touch (sub_trans (by decide) hmm) h0
    · exact Agree.set_lines h0 (sub_bit hmm (by decide)) _

theorem State.fetchDone_touch {MM : Nat} {so : State} {s : Sys2Proof.Machine.State}
    (hmm : Machine.sub 0x43e000000000000000000000000000000000000000007c000008800000000000000000000000000000000001840000000000001c18000000000048020c MM = true) (hag : Agree MM so s) :
    Agree MM so (@State.fetchDone s) := by
  unfold State.fetchDone
  split
  · exact hag
  · extract_lets +onlyGivenNames -merge -useContext -underBinder x2434
    have h2435 : AgreeP MM so (x2434) := by
      subst x2434
      refine AgreeP.ite ?_ ?_
      · refine State.fetchRun_touch (sub_trans (by decide) hmm) ?_
        exact hag
      · refine AgreeP.mk ?_
        exact hag
    try clear_value x2434
    extract_lets +onlyGivenNames -merge -useContext -underBinder x2436
    have h2437 : Agree MM so x2436 := by
      subst x2436
      refine AgreeP.fst ?_
      exact h2435
    try clear_value x2436
    refine Agree.ite ?_ ?_
    · exact h2437
    · extract_lets +onlyGivenNames -merge -useContext -underBinder x2438
      try clear_value x2438
      extract_lets +onlyGivenNames -merge -useContext -underBinder x2439
      have h2440 : Agree MM so x2439 := by
        subst x2439
        refine Agree.set_lines ?_ (sub_bit hmm (by decide)) _
        exact h2437
      try clear_value x2439
      extract_lets +onlyGivenNames -merge -useContext -underBinder x2441
      have h2442 : Agree MM so x2441 := by
        subst x2441
        refine State.setBusy_touch (sub_trans (by decide) hmm) ?_
        refine Agree.fsetB ?_ (sub_bit hmm (by decide)) _ _
        exact h2440
      try clear_value x2441
      refine State.pulse_touch (sub_trans (by decide) hmm) ?_
      refine State.irq_touch (sub_trans (by decide) hmm) ?_
      refine Agree.fsetB ?_ (sub_bit hmm (by decide)) _ _
      exact h2442

theorem State.govCount_touch {MM : Nat} {so : State} {s : Sys2Proof.Machine.State}
    (hmm : Machine.sub 0xc0000000000000000000000000000000000000000000000000000000000000000000000000000000 MM = true) (hag : Agree MM so s) :
    Agree MM so (@State.govCount s) := by
  unfold State.govCount
  extract_lets +onlyGivenNames -merge -useContext -underBinder x2465
  try clear_value x2465
  extract_lets +onlyGivenNames -merge -useContext -underBinder x2466
  have h2467 : Agree MM so x2466 := by
    subst x2466
    refine Agree.ite ?_ ?_
    · refine Agree.fset ?_ (sub_bit hmm (by decide)) _ _
      exact hag
    · exact hag
  try clear_value x2466
  refine Agree.ite ?_ ?_
  · refine Agree.faddSat ?_ (sub_bit hmm (by decide)) _ _
    exact h2467
  · exact h2467

theorem State.govOpen_touch {MM : Nat} {so : State} {s : Sys2Proof.Machine.State}
    (hmm : Machine.sub 0x400000 MM = true) (hag : Agree MM so s) :
    Agree MM so (@State.govOpen s) := by
  unfold State.govOpen
  refine Agree.set_lines ?_ (sub_bit hmm (by decide)) _
  exact hag

theorem State.govOwed_touch {MM : Nat} {so : State} {s : Sys2Proof.Machine.State} {c : ℕ} {u2 : ℕ}
    (hmm : Machine.sub 0x400000 MM = true) (hag : Agree MM so s) :
    Agree MM so (@State.govOwed s c u2) := by
  induction u2 generalizing s with
  | zero => exact hag
  | succ k ih =>
    rw [State.govOwed]
    split
    · exact hag
    · exact Agree.ite (ih (Agree.set_lines (State.govTake_touch (sub_trans (by decide) hmm) hag)
        (sub_bit hmm (by decide)) _)) hag

theorem State.govServe_touch {MM : Nat} {so : State} {s : Sys2Proof.Machine.State}
    (hmm : Machine.sub 0x40000c MM = true) (hag : Agree MM so s) :
    Agree MM so (@State.govServe s) := by
  unfold State.govServe
  extract_lets +onlyGivenNames -merge -useContext -underBinder x2468
  have h2469 : Agree MM so x2468 := by
    subst x2468
    refine Agree.ite ?_ ?_
    · refine State.govAdmit_touch (sub_trans (by decide) hmm) ?_
      exact hag
    · exact hag
  try clear_value x2468
  extract_lets +onlyGivenNames -merge -useContext -underBinder x2470
  have h2471 : Agree MM so x2470 := by
    subst x2470
    refine Agree.forEach ?_ (fun y2472 t2473 h2474 => ?_) _
    · exact h2469
    · refine State.govOwed_touch (sub_trans (by decide) hmm) ?_
      exact h2474
  try clear_value x2470
  refine Agree.set_lines ?_ (sub_bit hmm (by decide)) _
  exact h2471

theorem State.govWindow_touch {MM : Nat} {so : State} {s : Sys2Proof.Machine.State}
    (hmm : Machine.sub 0xc000000f90600000000000000000000000000000000001840000000000001c18000000000040020c MM = true) (hag : Agree MM so s) :
    Agree MM so (@State.govWindow s) := by
  unfold State.govWindow
  refine Agree.ite ?_ ?_
  · exact hag
  · extract_lets +onlyGivenNames -merge -useContext -underBinder x2475
    have h2476 : Agree MM so x2475 := by
      subst x2475
      refine State.govServe_touch (sub_trans (by decide) hmm) ?_
      refine State.govOpen_touch (sub_trans (by decide) hmm) ?_
      refine State.govCount_touch (sub_trans (by decide) hmm) ?_
      exact hag
    try clear_value x2475
    refine Agree.forEach ?_ (fun y2477 t2478 h2479 => ?_) _
    · refine State.lineWShow_touch (sub_trans (by decide) hmm) ?_
      exact h2476
    · refine State.lineFlush_touch (sub_trans (by decide) hmm) ?_
      exact h2479

theorem State.setLineFifo_touch {MM : Nat} {so : State} {s : Sys2Proof.Machine.State} {src : ℕ} {xs : List Sys2Proof.Machine.LineItem}
    (hmm : Machine.sub 0x200000 MM = true) (hag : Agree MM so s) :
    Agree MM so (@State.setLineFifo s src xs) := by
  unfold State.setLineFifo
  refine Agree.ite ?_ ?_
  · refine State.setStr_touch (sub_trans (by decide) hmm) ?_
    exact hag
  · refine State.setLane_touch (sub_trans (by decide) hmm) ?_
    exact hag

theorem State.placeBytes_touch {MM : Nat} {so : State} {s : Sys2Proof.Machine.State} {it : Sys2Proof.Machine.LineItem} {u2 : ℕ} {u3 : List Sys2Proof.Byte}
    (hmm : Machine.sub 0xf80600000000000000000000000000000000001840000000000001c18000000000040020c MM = true) (hag : Agree MM so s) :
    AgreeP MM so (@State.placeBytes s it u2 u3) := by
  induction u2 generalizing s u3 with
  | zero => exact hag
  | succ k ih =>
    cases u3 with
    | nil => exact hag
    | cons b bs =>
      rw [State.placeBytes]
      · refine AgreeP.ite hag ?_
        extract_lets +onlyGivenNames l x mask y room u v
        have h1 : Agree MM so u := by
          subst u
          exact State.setLine_touch (sub_trans (by decide) hmm) hag
        clear_value u
        have h2 : Agree MM so v := by
          subst v
          exact Agree.ite (State.completeBlock_touch (sub_trans (by decide) hmm) h1) h1
        clear_value v
        exact ih h2
      · intro e; cases e

theorem State.lineItem_touch {MM : Nat} {so : State} {s : Sys2Proof.Machine.State} {src : ℕ}
    (hmm : Machine.sub 0xf90600000000000000000000000000000000001840000000000001c18000000000060020c MM = true) (hag : Agree MM so s) :
    Agree MM so (@State.lineItem s src) := by
  unfold State.lineItem
  split
  · exact hag
  · extract_lets +onlyGivenNames -merge -useContext -underBinder x2784
    try clear_value x2784
    refine Agree.ite ?_ ?_
    · refine State.irq_touch (sub_trans (by decide) hmm) ?_
      refine Agree.fsetB ?_ (sub_bit hmm (by decide)) _ _
      refine State.setLineFifo_touch (sub_trans (by decide) hmm) ?_
      exact hag
    · refine Agree.ite ?_ ?_
      · exact hag
      · extract_lets +onlyGivenNames -merge -useContext -underBinder x2785
        try clear_value x2785
        extract_lets +onlyGivenNames -merge -useContext -underBinder x2786
        try clear_value x2786
        extract_lets +onlyGivenNames -merge -useContext -underBinder x2787
        try clear_value x2787
        extract_lets +onlyGivenNames -merge -useContext -underBinder x2788
        have h2789 : Agree MM so x2788 := by
          subst x2788
          refine Agree.ite ?_ ?_
          · exact hag
          · refine State.setLine_touch (sub_trans (by decide) hmm) ?_
            exact hag
        try clear_value x2788
        split
        · rename_i heq
          have h2790 := AgreeP.of_eq (M := MM) (s0 := so) heq (by
            refine State.placeBytes_touch (sub_trans (by decide) hmm) ?_
            exact h2789
            )
          extract_lets +onlyGivenNames -merge -useContext -underBinder x2791
          have h2792 : Agree MM so x2791 := by
            subst x2791
            refine State.setLineFifo_touch (sub_trans (by decide) hmm) ?_
            exact h2790
          try clear_value x2791
          refine State.lineFlush_touch (sub_trans (by decide) hmm) ?_
          exact h2792

theorem State.rinseBlock_touch {MM : Nat} {so : State} {s : Sys2Proof.Machine.State} {lines : List ℕ} {l : ℕ} {b : ℕ} {a : ℕ}
    (hmm : Machine.sub 0x43e00000000000000000000000000000000000000e007c0000000000000000000000000000000000000000010000000000000000180000000000080208 MM = true) (hag : Agree MM so s) :
    Agree MM so (@State.rinseBlock s lines l b a) := by
  unfold State.rinseBlock
  extract_lets +onlyGivenNames -merge -useContext -underBinder x3104
  have h3105 : AgreeP MM so (x3104) := by
    subst x3104
    refine State.hbmRead_touch (sub_trans (by decide) hmm) ?_
    exact hag
  try clear_value x3104
  extract_lets +onlyGivenNames -merge -useContext -underBinder x3106
  try clear_value x3106
  extract_lets +onlyGivenNames -merge -useContext -underBinder x3107
  have h3108 : Agree MM so x3107 := by
    subst x3107
    refine AgreeP.fst ?_
    exact h3105
  try clear_value x3107
  extract_lets +onlyGivenNames -merge -useContext -underBinder x3109
  have h3110 : Agree MM so x3109 := by
    subst x3109
    refine Agree.set_ecc ?_ (sub_bit hmm (by decide)) _
    exact h3108
  try clear_value x3109
  extract_lets +onlyGivenNames -merge -useContext -underBinder x3111
  have h3112 : Agree MM so x3111 := by
    subst x3111
    refine Agree.faddSat ?_ (sub_bit hmm (by decide)) _ _
    exact h3110
  try clear_value x3111
  extract_lets +onlyGivenNames -merge -useContext -underBinder x3113
  have h3114 : Agree MM so x3113 := by
    subst x3113
    refine Agree.ite ?_ ?_
    · refine State.irq_touch (sub_trans (by decide) hmm) ?_
      exact h3112
    · exact h3112
  try clear_value x3113
  refine Agree.ite ?_ ?_
  · refine Agree.fset ?_ (sub_bit hmm (by decide)) _ _
    refine Agree.fset ?_ (sub_bit hmm (by decide)) _ _
    exact h3114
  · split
    · refine Agree.fset ?_ (sub_bit hmm (by decide)) _ _
      refine Agree.fset ?_ (sub_bit hmm (by decide)) _ _
      exact h3114
    · extract_lets +onlyGivenNames -merge -useContext -underBinder x3115
      have h3116 : Agree MM so x3115 := by
        subst x3115
        refine Agree.fset ?_ (sub_bit hmm (by decide)) _ _
        refine Agree.fset ?_ (sub_bit hmm (by decide)) _ _
        exact h3114
      try clear_value x3115
      refine State.irq_touch (sub_trans (by decide) hmm) ?_
      refine Agree.fadd ?_ (sub_bit hmm (by decide)) _ _
      exact h3116

theorem State.rinseRead_touch {MM : Nat} {so : State} {s : Sys2Proof.Machine.State}
    (hmm : Machine.sub 0x43e00000000000000000000000000000000000000e007c0000000000000000000000000000000000000000010000000000000000180000000000480208 MM = true) (hag : Agree MM so s) :
    Agree MM so (@State.rinseRead s) := by
  unfold State.rinseRead
  extract_lets +onlyGivenNames -merge -useContext -underBinder x3117
  try clear_value x3117
  refine Agree.ite ?_ ?_
  · exact hag
  · extract_lets +onlyGivenNames -merge -useContext -underBinder x3118
    try clear_value x3118
    extract_lets +onlyGivenNames -merge -useContext -underBinder x3119
    try clear_value x3119
    extract_lets +onlyGivenNames -merge -useContext -underBinder x3120
    try clear_value x3120
    extract_lets +onlyGivenNames -merge -useContext -underBinder x3121
    have h3122 : AgreeP MM so (x3121) := by
      subst x3121
      refine State.govAsk_touch (sub_trans (by decide) hmm) ?_
      exact hag
    try clear_value x3121
    refine Agree.ite ?_ ?_
    · refine State.rinseBlock_touch (sub_trans (by decide) hmm) ?_
      refine AgreeP.fst ?_
      exact h3122
    · refine AgreeP.fst ?_
      exact h3122

theorem State.stacksFail_touch {MM : Nat} {so : State} {s : Sys2Proof.Machine.State}
    (hmm : Machine.sub 0x20030000002000000000000000000000000000000000010000000000000000180000000000400200 MM = true) (hag : Agree MM so s) :
    Agree MM so (@State.stacksFail s) := by
  unfold State.stacksFail
  refine Agree.forEach ?_ (fun y3220 t3221 h3222 => ?_) _
  · exact hag
  · refine State.trainEnd_touch (sub_trans (by decide) hmm) ?_
    refine State.setStack_touch (sub_trans (by decide) hmm) ?_
    exact h3222

theorem State.trainingDone_touch {MM : Nat} {so : State} {s : Sys2Proof.Machine.State} {x : ℕ} {ok : Bool} {settings : List Sys2Proof.Word} {lanes : List ℕ}
    (hmm : Machine.sub 0x43e00000000000000000000000000000000000000021030000002000000000000000000000000000000000010000000000000000180000000000480200 MM = true) (hag : Agree MM so s) :
    Agree MM so (@State.trainingDone s x ok settings lanes) := by
  unfold State.trainingDone
  extract_lets +onlyGivenNames -merge -useContext -underBinder x3381
  try clear_value x3381
  split
  · exact hag
  · extract_lets +onlyGivenNames -merge -useContext -underBinder x3382
    try clear_value x3382
    extract_lets +onlyGivenNames -merge -useContext -underBinder x3383
    try clear_value x3383
    refine Agree.ite ?_ ?_
    · extract_lets +onlyGivenNames -merge -useContext -underBinder x3384
      have h3385 : Agree MM so x3384 := by
        subst x3384
        refine State.setStack_touch (sub_trans (by decide) hmm) ?_
        exact hag
      try clear_value x3384
      extract_lets +onlyGivenNames -merge -useContext -underBinder x3386
      try clear_value x3386
      extract_lets +onlyGivenNames -merge -useContext -underBinder x3387
      try clear_value x3387
      extract_lets +onlyGivenNames -merge -useContext -underBinder x3388
      have h3389 : Agree MM so x3388 := by
        subst x3388
        refine State.setStack_touch (sub_trans (by decide) hmm) ?_
        exact h3385
      try clear_value x3388
      extract_lets +onlyGivenNames -merge -useContext -underBinder x3390
      try clear_value x3390
      extract_lets +onlyGivenNames -merge -useContext -underBinder x3391
      have h3392 : Agree MM so x3391 := by
        subst x3391
        refine Agree.set_darn ?_ (sub_bit hmm (by decide)) _
        exact h3389
      try clear_value x3391
      extract_lets +onlyGivenNames -merge -useContext -underBinder x3393
      have h3394 : Agree MM so x3393 := by
        subst x3393
        refine Agree.ite ?_ ?_
        · refine Agree.forEach ?_ (fun y3395 t3396 h3397 => ?_) _
          · exact h3392
          · refine State.darnDone_touch (sub_trans (by decide) hmm) ?_
            exact h3397
        · exact hag
      try clear_value x3393
      extract_lets +onlyGivenNames -merge -useContext -underBinder x3398
      have h3399 : Agree MM so x3398 := by
        subst x3398
        refine Agree.fset ?_ (sub_bit hmm (by decide)) _ _
        exact h3394
      try clear_value x3398
      refine State.trainEnd_touch (sub_trans (by decide) hmm) ?_
      refine Agree.fset ?_ (sub_bit hmm (by decide)) _ _
      exact h3399
    · refine Agree.ite ?_ ?_
      · refine State.trainAttempt_touch (sub_trans (by decide) hmm) ?_
        refine State.irq_touch (sub_trans (by decide) hmm) ?_
        exact hag
      · refine Agree.ite ?_ ?_
        · refine State.trainAttempt_touch (sub_trans (by decide) hmm) ?_
          refine State.irq_touch (sub_trans (by decide) hmm) ?_
          exact hag
        · refine Agree.ite ?_ ?_
          · refine State.trainAttempt_touch (sub_trans (by decide) hmm) ?_
            refine State.setStack_touch (sub_trans (by decide) hmm) ?_
            exact hag
          · refine State.trainEnd_touch (sub_trans (by decide) hmm) ?_
            exact hag

end Sys2Proof.Machine
end

