-- ==== Sys2Proof/Laws/Touch/Mem.lean ====
section
/-!
SUPPORT. What the functions of Machine/Mem.lean can touch: one lemma per function, its mask after `sub`.
-/

namespace Sys2Proof.Machine

theorem State.memAsk_touch {MM : Nat} {so : State} {s : Sys2Proof.Machine.State} {owner : ℕ} {c : ℕ} {a : ℕ} {n : ℕ} {secure : Bool}
    (hmm : Machine.sub 0x400000 MM = true) (hag : Agree MM so s) :
    AgreeP MM so (@State.memAsk s owner c a n secure) := by
  unfold State.memAsk
  extract_lets +onlyGivenNames -merge -useContext -underBinder x1696
  try clear_value x1696
  split
  · refine AgreeP.ite ?_ ?_
    · refine AgreeP.mk ?_
      refine State.govForget_touch (sub_trans (by decide) hmm) ?_
      exact hag
    · refine State.govAsk_touch (sub_trans (by decide) hmm) ?_
      exact hag
  · refine AgreeP.mk ?_
    exact hag
  · refine AgreeP.mk ?_
    exact hag

theorem State.lmemWrite_touch {MM : Nat} {so : State} {s : Sys2Proof.Machine.State} {w : ℕ} {a : ℕ} {bs : List Sys2Proof.Byte}
    (hmm : Machine.sub 0x4000000000000000000000000000000000000000000000000001000000000000000010000000000000020c MM = true) (hag : Agree MM so s) :
    Agree MM so (@State.lmemWrite s w a bs) := by
  unfold State.lmemWrite
  refine Agree.ite ?_ ?_
  · refine Agree.ite ?_ ?_
    · exact hag
    · refine State.irq_touch (sub_trans (by decide) hmm) ?_
      refine Agree.fsetB ?_ (sub_bit hmm (by decide)) _ _
      exact hag
  · refine State.putBytes_touch (sub_trans (by decide) hmm) ?_
    refine State.sramWritten_touch (sub_trans (by decide) hmm) ?_
    exact hag

theorem State.fabWrite_touch {MM : Nat} {so : State} {s : Sys2Proof.Machine.State} {a : ℕ} {bs : List Sys2Proof.Byte} {src : ℕ} {secure : Bool}
    (hmm : Machine.sub 0x43e000000000000000000000000000000000400000007c000000000000000000000000000000000000000001840000000000001c18000000000008020c MM = true) (hag : Agree MM so s) :
    AgreeP MM so (@State.fabWrite s a bs src secure) := by
  unfold State.fabWrite
  extract_lets +onlyGivenNames -merge -useContext -underBinder x1711
  try clear_value x1711
  extract_lets +onlyGivenNames -merge -useContext -underBinder x1712
  try clear_value x1712
  refine AgreeP.ite ?_ ?_
  · refine AgreeP.mk ?_
    refine State.logBusErr_touch (sub_trans (by decide) hmm) ?_
    exact hag
  · split
    · refine AgreeP.ite ?_ ?_
      · refine AgreeP.mk ?_
        refine State.putBytes_touch (sub_trans (by decide) hmm) ?_
        refine State.hbmWritten_touch (sub_trans (by decide) hmm) ?_
        exact hag
      · split
        · rename_i heq
          have h1713 := AgreeP.of_eq (M := MM) (s0 := so) heq (by
            refine State.hbmRead_touch (sub_trans (by decide) hmm) ?_
            exact hag
            )
          refine AgreeP.ite ?_ ?_
          · refine AgreeP.mk ?_
            refine State.logBusErr_touch (sub_trans (by decide) hmm) ?_
            exact h1713
          · refine AgreeP.mk ?_
            refine State.putBytes_touch (sub_trans (by decide) hmm) ?_
            refine State.hbmWritten_touch (sub_trans (by decide) hmm) ?_
            exact h1713
    · refine AgreeP.mk ?_
      refine State.putBytes_touch (sub_trans (by decide) hmm) ?_
      refine State.sramWritten_touch (sub_trans (by decide) hmm) ?_
      refine State.unverWrite_touch (sub_trans (by decide) hmm) ?_
      exact hag
    · refine AgreeP.mk ?_
      refine State.putBytes_touch (sub_trans (by decide) hmm) ?_
      refine State.sramWritten_touch (sub_trans (by decide) hmm) ?_
      exact hag
    · refine AgreeP.mk ?_
      refine State.lmemWrite_touch (sub_trans (by decide) hmm) ?_
      exact hag
    · refine AgreeP.mk ?_
      exact hag

theorem State.privRead_touch {MM : Nat} {so : State} {s : Sys2Proof.Machine.State} {i : ℕ} {a : ℕ} {n : ℕ}
    (hmm : Machine.sub 0x80000000000000000000000000000000000000000000000000000000000000000000000000000000000000000010000000000000000100000000000000200 MM = true) (hag : Agree MM so s) :
    AgreeP MM so (@State.privRead s i a n) := by
  unfold State.privRead
  extract_lets +onlyGivenNames -merge -useContext -underBinder x1714
  try clear_value x1714
  refine AgreeP.foldl ?_ (fun q1716 y1715 h1717 => ?_) _
  · refine AgreeP.mk ?_
    exact hag
  · split
    · exact h1717
    · refine AgreeP.mk ?_
      refine AgreeP.fst ?_
      exact h1717
    · refine AgreeP.ite ?_ ?_
      · exact h1717
      · refine AgreeP.mk ?_
        refine State.irq_touch (sub_trans (by decide) hmm) ?_
        refine Agree.faddSat ?_ (sub_bit hmm (by decide)) _ _
        refine AgreeP.fst ?_
        exact h1717

theorem State.lmemCorrected_touch {MM : Nat} {so : State} {s : Sys2Proof.Machine.State} {w : ℕ} {k : ℕ}
    (hmm : Machine.sub 0x43e00000000000000000000000000000000000080000000000000000000000000000000000000000000000010000000000000000180000000000080200 MM = true) (hag : Agree MM so s) :
    Agree MM so (@State.lmemCorrected s w k) := by
  unfold State.lmemCorrected
  refine Agree.ite ?_ ?_
  · exact hag
  · extract_lets +onlyGivenNames -merge -useContext -underBinder x1718
    try clear_value x1718
    extract_lets +onlyGivenNames -merge -useContext -underBinder x1719
    have h1720 : Agree MM so x1719 := by
      subst x1719
      refine Agree.faddSat ?_ (sub_bit hmm (by decide)) _ _
      exact hag
    try clear_value x1719
    extract_lets +onlyGivenNames -merge -useContext -underBinder x1721
    have h1722 : Agree MM so x1721 := by
      subst x1721
      refine Agree.ite ?_ ?_
      · exact h1720
      · refine State.irq_touch (sub_trans (by decide) hmm) ?_
        exact h1720
    try clear_value x1721
    extract_lets +onlyGivenNames -merge -useContext -underBinder x1723
    try clear_value x1723
    refine Agree.ite ?_ ?_
    · refine State.propose_touch (sub_trans (by decide) hmm) ?_
      exact h1722
    · exact h1722

theorem State.lmemRead_touch {MM : Nat} {so : State} {s : Sys2Proof.Machine.State} {w : ℕ} {a : ℕ} {n : ℕ}
    (hmm : Machine.sub 0x43e00000000000000000000000000000000000080000000000000000000000000000000000000000000000010000000000000000180000000000080200 MM = true) (hag : Agree MM so s) :
    AgreeP MM so (@State.lmemRead s w a n) := by
  unfold State.lmemRead
  extract_lets +onlyGivenNames -merge -useContext -underBinder x1724
  try clear_value x1724
  refine AgreeP.mk ?_
  refine State.lmemCorrected_touch (sub_trans (by decide) hmm) ?_
  exact hag

theorem State.fabRead_touch {MM : Nat} {so : State} {s : Sys2Proof.Machine.State} {a : ℕ} {n : ℕ} {src : ℕ} {usrc : ℕ} {secure : Bool}
    (hmm : Machine.sub 0x80043e000000000000000000000000000000000000800007c000000000000000000000000000000000000000001000000000000001c180000000000080208 MM = true) (hag : Agree MM so s) :
    AgreeP MM so (@State.fabRead s a n src usrc secure) := by
  unfold State.fabRead
  extract_lets +onlyGivenNames -merge -useContext -underBinder x1725
  try clear_value x1725
  refine AgreeP.ite ?_ ?_
  · refine AgreeP.mk ?_
    refine State.logBusErr_touch (sub_trans (by decide) hmm) ?_
    exact hag
  · split
    · split
      · rename_i heq
        have h1726 := AgreeP.of_eq (M := MM) (s0 := so) heq (by
          refine State.hbmRead_touch (sub_trans (by decide) hmm) ?_
          exact hag
          )
        refine AgreeP.ite ?_ ?_
        · refine AgreeP.mk ?_
          refine State.logBusErr_touch (sub_trans (by decide) hmm) ?_
          exact h1726
        · refine AgreeP.mk ?_
          exact h1726
    · split
      · rename_i heq
        have h1727 := AgreeP.of_eq (M := MM) (s0 := so) heq (by
          refine State.sramRead_touch (sub_trans (by decide) hmm) ?_
          exact hag
          )
        refine AgreeP.ite ?_ ?_
        · refine AgreeP.mk ?_
          refine State.logBusErr_touch (sub_trans (by decide) hmm) ?_
          exact h1727
        · refine AgreeP.mk ?_
          exact h1727
    · split
      · rename_i heq
        have h1728 := AgreeP.of_eq (M := MM) (s0 := so) heq (by
          refine State.privRead_touch (sub_trans (by decide) hmm) ?_
          exact hag
          )
        refine AgreeP.ite ?_ ?_
        · refine AgreeP.mk ?_
          refine State.logBusErr_touch (sub_trans (by decide) hmm) ?_
          exact h1728
        · refine AgreeP.mk ?_
          exact h1728
    · split
      · rename_i heq
        have h1729 := AgreeP.of_eq (M := MM) (s0 := so) heq (by
          refine State.lmemRead_touch (sub_trans (by decide) hmm) ?_
          exact hag
          )
        refine AgreeP.ite ?_ ?_
        · refine AgreeP.mk ?_
          refine State.logBusErr_touch (sub_trans (by decide) hmm) ?_
          refine Agree.faddSat ?_ (sub_bit hmm (by decide)) _ _
          exact h1729
        · refine AgreeP.mk ?_
          exact h1729
    · refine AgreeP.mk ?_
      exact hag

end Sys2Proof.Machine
end

