-- ==== Sys2Proof/Laws/Touch/Welut.lean ====
section
/-!
SUPPORT. What the functions of Machine/Welut.lean can touch: one lemma per function, its mask after `sub`.
-/

namespace Sys2Proof.Machine

theorem State.setWel_touch {MM : Nat} {so : State} {s : Sys2Proof.Machine.State} {w : ℕ} {e : Sys2Proof.Machine.Wel}
    (hmm : Machine.sub 0x800000 MM = true) (hag : Agree MM so s) :
    Agree MM so (@State.setWel s w e) := by
  unfold State.setWel
  refine Agree.set_wel ?_ (sub_bit hmm (by decide)) _
  exact hag

theorem State.allIdle_touch {MM : Nat} {so : State} {s : Sys2Proof.Machine.State}
    (hmm : Machine.sub 0x400000000000000000000000000000000000000000000000000010000000000000000100000000000000200 MM = true) (hag : Agree MM so s) :
    Agree MM so (@State.allIdle s) := by
  unfold State.allIdle
  extract_lets +onlyGivenNames -merge -useContext -underBinder x251
  try clear_value x251
  refine Agree.ite ?_ ?_
  · exact hag
  · extract_lets +onlyGivenNames -merge -useContext -underBinder x252
    have h253 : Agree MM so x252 := by
      subst x252
      refine Agree.fsetB ?_ (sub_bit hmm (by decide)) _ _
      exact hag
    try clear_value x252
    refine Agree.ite ?_ ?_
    · refine State.irq_touch (sub_trans (by decide) hmm) ?_
      exact h253
    · exact h253

theorem State.welTo_touch {MM : Nat} {so : State} {s : Sys2Proof.Machine.State} {w : ℕ} {st : ℕ}
    (hmm : Machine.sub 0x400002000000000000000000000000000000000000000000000010000000000000000180000000000800200 MM = true) (hag : Agree MM so s) :
    Agree MM so (@State.welTo s w st) := by
  unfold State.welTo
  extract_lets +onlyGivenNames -merge -useContext -underBinder x254
  try clear_value x254
  refine Agree.ite ?_ ?_
  · exact hag
  · extract_lets +onlyGivenNames -merge -useContext -underBinder x255
    have h256 : Agree MM so x255 := by
      subst x255
      refine State.setBusy_touch (sub_trans (by decide) hmm) ?_
      refine Agree.fset ?_ (sub_bit hmm (by decide)) _ _
      exact hag
    try clear_value x255
    extract_lets +onlyGivenNames -merge -useContext -underBinder x257
    try clear_value x257
    extract_lets +onlyGivenNames -merge -useContext -underBinder x258
    have h259 : Agree MM so x258 := by
      subst x258
      refine Agree.ite ?_ ?_
      · refine State.setWel_touch (sub_trans (by decide) hmm) ?_
        exact h256
      · exact h256
    try clear_value x258
    refine State.allIdle_touch (sub_trans (by decide) hmm) ?_
    exact h259

theorem State.frameLeft_touch {MM : Nat} {so : State} {s : Sys2Proof.Machine.State} {j : Sys2Proof.Machine.Job}
    (hmm : Machine.sub 0x800000 MM = true) (hag : Agree MM so s) :
    Agree MM so (@State.frameLeft s j) := by
  unfold State.frameLeft
  split
  · exact hag
  · refine Agree.ite ?_ ?_
    · exact hag
    · refine Agree.set_wel ?_ (sub_bit hmm (by decide)) _
      exact hag

theorem State.dropJob_touch {MM : Nat} {so : State} {s : Sys2Proof.Machine.State} {w : ℕ}
    (hmm : Machine.sub 0x800000 MM = true) (hag : Agree MM so s) :
    Agree MM so (@State.dropJob s w) := by
  unfold State.dropJob
  extract_lets +onlyGivenNames -merge -useContext -underBinder x260
  try clear_value x260
  split
  · exact hag
  · refine State.frameLeft_touch (sub_trans (by decide) hmm) ?_
    refine State.setWel_touch (sub_trans (by decide) hmm) ?_
    exact hag

theorem State.welRefresh_touch {MM : Nat} {so : State} {s : Sys2Proof.Machine.State} {w : ℕ}
    (hmm : Machine.sub 0x400002000000000000000000000000000000000000000000000010000000000000000180000000000800200 MM = true) (hag : Agree MM so s) :
    Agree MM so (@State.welRefresh s w) := by
  unfold State.welRefresh
  extract_lets +onlyGivenNames -merge -useContext -underBinder x261
  try clear_value x261
  extract_lets +onlyGivenNames -merge -useContext -underBinder x262
  try clear_value x262
  refine Agree.ite ?_ ?_
  · exact hag
  · refine Agree.ite ?_ ?_
    · refine State.welTo_touch (sub_trans (by decide) hmm) ?_
      refine State.dropJob_touch (sub_trans (by decide) hmm) ?_
      exact hag
    · refine Agree.ite ?_ ?_
      · refine State.welTo_touch (sub_trans (by decide) hmm) ?_
        exact hag
      · exact hag

theorem State.csInvalidateNow_touch {MM : Nat} {so : State} {s : Sys2Proof.Machine.State} {w : ℕ}
    (hmm : Machine.sub 0x400402000000000000000000000000000000000000000000000010000000000000000180000000000800200 MM = true) (hag : Agree MM so s) :
    Agree MM so (@State.csInvalidateNow s w) := by
  unfold State.csInvalidateNow
  refine State.welRefresh_touch (sub_trans (by decide) hmm) ?_
  refine Agree.fsetB ?_ (sub_bit hmm (by decide)) _ _
  exact hag

theorem State.welRetire_touch {MM : Nat} {so : State} {s : Sys2Proof.Machine.State} {w : ℕ}
    (hmm : Machine.sub 0x400402000000000000000000000000000000000000000000000010000000000000000180000000000800200 MM = true) (hag : Agree MM so s) :
    Agree MM so (@State.welRetire s w) := by
  unfold State.welRetire
  refine Agree.ite ?_ ?_
  · refine State.csInvalidateNow_touch (sub_trans (by decide) hmm) ?_
    refine State.setWel_touch (sub_trans (by decide) hmm) ?_
    exact hag
  · exact hag

theorem State.welStop_touch {MM : Nat} {so : State} {s : Sys2Proof.Machine.State} {w : ℕ} {cause : ℕ} {pc : ℕ}
    (hmm : Machine.sub 0x40040600000000000000000000000000000000000000000000001840000000000001c18000000000080020c MM = true) (hag : Agree MM so s) :
    Agree MM so (@State.welStop s w cause pc) := by
  unfold State.welStop
  extract_lets +onlyGivenNames -merge -useContext -underBinder x1255
  try clear_value x1255
  extract_lets +onlyGivenNames -merge -useContext -underBinder x1256
  try clear_value x1256
  extract_lets +onlyGivenNames -merge -useContext -underBinder x1257
  have h1258 : Agree MM so x1257 := by
    subst x1257
    refine State.setWel_touch (sub_trans (by decide) hmm) ?_
    exact hag
  try clear_value x1257
  extract_lets +onlyGivenNames -merge -useContext -underBinder x1259
  have h1260 : Agree MM so x1259 := by
    subst x1259
    split
    · exact h1258
    · extract_lets +onlyGivenNames -merge -useContext -underBinder x1261
      try clear_value x1261
      refine State.sramOwnWrite_touch (sub_trans (by decide) hmm) ?_
      refine State.sramOwnWrite_touch (sub_trans (by decide) hmm) ?_
      exact h1258
  try clear_value x1259
  extract_lets +onlyGivenNames -merge -useContext -underBinder x1262
  have h1263 : Agree MM so x1262 := by
    subst x1262
    refine State.dropJob_touch (sub_trans (by decide) hmm) ?_
    exact h1260
  try clear_value x1262
  extract_lets +onlyGivenNames -merge -useContext -underBinder x1264
  have h1265 : Agree MM so x1264 := by
    subst x1264
    refine Agree.fset ?_ (sub_bit hmm (by decide)) _ _
    refine Agree.fset ?_ (sub_bit hmm (by decide)) _ _
    exact h1263
  try clear_value x1264
  refine State.welRetire_touch (sub_trans (by decide) hmm) ?_
  refine State.irq_touch (sub_trans (by decide) hmm) ?_
  refine State.welTo_touch (sub_trans (by decide) hmm) ?_
  exact h1265

theorem State.dmaBeat_touch {MM : Nat} {so : State} {s : Sys2Proof.Machine.State} {w : ℕ} {d : Sys2Proof.Machine.Dma} {i : ℕ}
    (hmm : Machine.sub 0x80043e000000000000000000000000000000000400800007c000000000000000000000000000000000000000001840000000000001c18000000000008020c MM = true) (hag : Agree MM so s) :
    Agree MM so (@State.dmaBeat s w d i).s := by
  unfold State.dmaBeat
  extract_lets a l
  clear_value a l
  split
  · have h1 : AgreeP MM so (s.fabRead a 64 8 2 true) := State.fabRead_touch (sub_trans (by decide) hmm) hag
    generalize s.fabRead a 64 8 2 true = q at h1 ⊢
    obtain ⟨u, r⟩ := q
    cases r with
    | error _ => exact h1
    | ok bs => exact State.lmemWrite_touch (sub_trans (by decide) hmm) h1
  · have h1 : AgreeP MM so (s.lmemRead w (lmemBase w + l) 64) := State.lmemRead_touch (sub_trans (by decide) hmm) hag
    generalize s.lmemRead w (lmemBase w + l) 64 = q at h1 ⊢
    obtain ⟨u, ue⟩ := q
    cases ue with
    | true => exact h1
    | false =>
      have h2 : AgreeP MM so (u.fabWrite a (u.bytes (lmemBase w + l) 64) 8 true) :=
        State.fabWrite_touch (sub_trans (by decide) hmm) h1
      exact h2

theorem State.jobFlags_touch {MM : Nat} {so : State} {s : Sys2Proof.Machine.State} {w : ℕ} {m : ℕ}
    (hmm : Machine.sub 0x800000 MM = true) (hag : Agree MM so s) :
    Agree MM so (@State.jobFlags s w m) := by
  unfold State.jobFlags
  extract_lets +onlyGivenNames -merge -useContext -underBinder x2028
  try clear_value x2028
  split
  · exact hag
  · refine State.setWel_touch (sub_trans (by decide) hmm) ?_
    exact hag

theorem State.dmaBlock_touch {MM : Nat} {so : State} {s : Sys2Proof.Machine.State} {w : ℕ} {d : Sys2Proof.Machine.Dma} {k : ℕ}
    (hmm : Machine.sub 0x43e000000000000000000000000000000000400000007c000000000000000000000000000000000000000001000000000000000018000000000088020c MM = true) (hag : Agree MM so s) :
    Agree MM so (@State.dmaBlock s w d k) := by
  unfold State.dmaBlock
  extract_lets +onlyGivenNames -merge -useContext -underBinder x2029
  try clear_value x2029
  extract_lets +onlyGivenNames -merge -useContext -underBinder x2030
  try clear_value x2030
  extract_lets +onlyGivenNames -merge -useContext -underBinder x2031
  try clear_value x2031
  extract_lets +onlyGivenNames -merge -useContext -underBinder x2032
  try clear_value x2032
  refine Agree.ite ?_ ?_
  · refine State.jobFlags_touch (sub_trans (by decide) hmm) ?_
    exact hag
  · extract_lets +onlyGivenNames -merge -useContext -underBinder x2033
    try clear_value x2033
    extract_lets +onlyGivenNames -merge -useContext -underBinder x2034
    try clear_value x2034
    split
    · rename_i heq
      have h2035 := AgreeP.of_eq (M := MM) (s0 := so) heq (by
        refine State.hbmRead_touch (sub_trans (by decide) hmm) ?_
        exact hag
        )
      extract_lets +onlyGivenNames -merge -useContext -underBinder x2036
      have h2037 : Agree MM so x2036 := by
        subst x2036
        refine State.jobFlags_touch (sub_trans (by decide) hmm) ?_
        exact h2035
      try clear_value x2036
      extract_lets +onlyGivenNames -merge -useContext -underBinder x2038
      try clear_value x2038
      extract_lets +onlyGivenNames -merge -useContext -underBinder x2039
      try clear_value x2039
      extract_lets +onlyGivenNames -merge -useContext -underBinder x2040
      try clear_value x2040
      extract_lets +onlyGivenNames -merge -useContext -underBinder x2041
      try clear_value x2041
      refine Agree.forEach ?_ (fun y2042 t2043 h2044 => ?_) _
      · exact h2037
      · refine State.lmemWrite_touch (sub_trans (by decide) hmm) ?_
        exact h2044

theorem State.dmaRun_touch {MM : Nat} {so : State} {s : Sys2Proof.Machine.State} {w : ℕ} {d : Sys2Proof.Machine.Dma} {u3 : ℕ} {u4 : ℕ}
    (hmm : Machine.sub 0x80043e000000000000000000000000000000000400800007c000000000000000000000000000000000000000001840000000000001c18000000000048020c MM = true) (hag : Agree MM so s) :
    Agree MM so (@State.dmaRun s w d u3 u4).s := by
  induction u3 generalizing s u4 with
  | zero => exact hag
  | succ k ih =>
    rw [State.dmaRun]
    have h0 : AgreeP MM so (s.memAsk (16 + w) 1 (d.fab + 64 * u4) 64 true) := State.memAsk_touch (sub_trans (by decide) hmm) hag
    generalize s.memAsk (16 + w) 1 (d.fab + 64 * u4) 64 true = a at h0 ⊢
    obtain ⟨u, ok⟩ := a
    cases ok with
    | false => exact h0
    | true =>
      have h1 : Agree MM so (u.dmaBeat w d u4).s := State.dmaBeat_touch (sub_trans (by decide) hmm) h0
      change Agree MM so (if ((u.dmaBeat w d u4).bad || (u.dmaBeat w d u4).ue) = true then u.dmaBeat w d u4
        else (u.dmaBeat w d u4).s.dmaRun w d k (u4 + 1)).s
      generalize u.dmaBeat w d u4 = r at h1 ⊢
      split
      · exact h1
      · exact ih h1

theorem State.dmaLine_touch {MM : Nat} {so : State} {s : Sys2Proof.Machine.State} {w : ℕ} {d : Sys2Proof.Machine.Dma} {u3 : ℕ} {u4 : ℕ}
    (hmm : Machine.sub 0x43e000000000000000000000000000000000400000007c0000000000000000000000000000000000000000010000000000000000180000000000c8020c MM = true) (hag : Agree MM so s) :
    Agree MM so (@State.dmaLine s w d u3 u4).s := by
  induction u3 generalizing s u4 with
  | zero => exact hag
  | succ n ih =>
    rw [State.dmaLine]
    generalize d.fab / 2 ^ 32 = l
    generalize (d.fab % 2 ^ 32 + u4) % max 1 (s.lineB l) = i
    have h0 : AgreeP MM so (if ivCount (s.line l).written i (i + 1) = 0 then (s, true) else s.govAsk 1 4096 (16 + w)) :=
      AgreeP.ite hag (State.govAsk_touch (sub_trans (by decide) hmm) hag)
    generalize (if ivCount (s.line l).written i (i + 1) = 0 then (s, true) else s.govAsk 1 4096 (16 + w)) = a at h0 ⊢
    split
    · exact ih (State.dmaBlock_touch (sub_trans (by decide) hmm) h0)
    · exact h0

theorem State.dmaMove_touch {MM : Nat} {so : State} {s : Sys2Proof.Machine.State} {w : ℕ} {d : Sys2Proof.Machine.Dma}
    (hmm : Machine.sub 0x80043e000000000000000000000000000000000400800007c000000000000000000000000000000000000000001840000000000001c180000000000c8020c MM = true) (hag : Agree MM so s) :
    Agree MM so (@State.dmaMove s w d).s := by
  unfold State.dmaMove
  split
  · exact State.dmaRun_touch (sub_trans (by decide) hmm) hag
  · split
    · exact State.logBusErr_touch (sub_trans (by decide) hmm) (State.govForget_touch (sub_trans (by decide) hmm) hag)
    · exact State.dmaLine_touch (sub_trans (by decide) hmm) hag

theorem State.welLmemUe_touch {MM : Nat} {so : State} {s : Sys2Proof.Machine.State} {w : ℕ} {pc : ℕ}
    (hmm : Machine.sub 0x43e0000000000000000000000000000000040048600000000000000000000000000000000000000000000001840000000000001c18000000000088020c MM = true) (hag : Agree MM so s) :
    Agree MM so (@State.welLmemUe s w pc) := by
  unfold State.welLmemUe
  refine State.propose_touch (sub_trans (by decide) hmm) ?_
  refine State.welStop_touch (sub_trans (by decide) hmm) ?_
  refine Agree.faddSat ?_ (sub_bit hmm (by decide)) _ _
  exact hag

theorem State.dmaComplete_touch {MM : Nat} {so : State} {s : Sys2Proof.Machine.State} {w : ℕ} {i : ℕ}
    (hmm : Machine.sub 0x80043e000000000000000000000000000000004404860007c000000000000000000000000000000000000000001840000000000001c180000000000c8020c MM = true) (hag : Agree MM so s) :
    Agree MM so (@State.dmaComplete s w i) := by
  unfold State.dmaComplete
  extract_lets e
  split
  · exact hag
  · rename_i d _
    refine Agree.ite hag ?_
    have h1 : Agree MM so (s.dmaMove w d).s := State.dmaMove_touch (sub_trans (by decide) hmm) hag
    generalize s.dmaMove w d = r at h1 ⊢
    obtain ⟨u, bad, ue, waits⟩ := r
    replace h1 : Agree MM so u := h1
    dsimp only
    cases waits with
    | some k => exact State.setWel_touch (sub_trans (by decide) hmm) h1
    | none =>
    have h2 : ∀ e', Agree MM so (u.setWel w e') := fun e' => State.setWel_touch (sub_trans (by decide) hmm) h1
    refine Agree.ite (h2 _) ?_
    split
    · exact Agree.ite (State.welStop_touch (sub_trans (by decide) hmm) (h2 _)) (h2 _)
    · exact Agree.ite (State.welLmemUe_touch (sub_trans (by decide) hmm) (h2 _))
        (Agree.ite (State.welStop_touch (sub_trans (by decide) hmm) (h2 _)) (h2 _))

theorem State.welFault_touch {MM : Nat} {so : State} {s : Sys2Proof.Machine.State} {w : ℕ} {pc : ℕ}
    (hmm : Machine.sub 0x40040600000000000000000000000000000000000000000000001840000000000001c18000000000080020c MM = true) (hag : Agree MM so s) :
    Agree MM so (@State.welFault s w pc) := by
  unfold State.welFault
  extract_lets +onlyGivenNames -merge -useContext -underBinder x2867
  try clear_value x2867
  refine Agree.ite ?_ ?_
  · refine State.welStop_touch (sub_trans (by decide) hmm) ?_
    exact hag
  · refine State.setWel_touch (sub_trans (by decide) hmm) ?_
    exact hag

theorem State.microIssue_touch {MM : Nat} {so : State} {s : Sys2Proof.Machine.State} {w : ℕ} {waits : ℕ}
    (hmm : Machine.sub 0x43e000000000000000000000000000000004405d600000000000000000000000000000000000000000000001840000000000001c18000000000088020c MM = true) (hag : Agree MM so s) :
    Agree MM so (@State.microIssue s w waits) := by
  unfold State.microIssue
  extract_lets +onlyGivenNames -merge -useContext -underBinder x2868
  try clear_value x2868
  extract_lets +onlyGivenNames -merge -useContext -underBinder x2869
  try clear_value x2869
  extract_lets +onlyGivenNames -merge -useContext -underBinder x2870
  try clear_value x2870
  extract_lets +onlyGivenNames -merge -useContext -underBinder x2871
  try clear_value x2871
  extract_lets +onlyGivenNames -merge -useContext -underBinder x2872
  try clear_value x2872
  extract_lets +onlyGivenNames -merge -useContext -underBinder x2873
  try clear_value x2873
  extract_lets +onlyGivenNames -merge -useContext -underBinder x2874
  try clear_value x2874
  extract_lets +onlyGivenNames -merge -useContext -underBinder x2875
  try clear_value x2875
  extract_lets +onlyGivenNames -merge -useContext -underBinder x2876
  try clear_value x2876
  extract_lets +onlyGivenNames -merge -useContext -underBinder x2877
  try clear_value x2877
  extract_lets +onlyGivenNames -merge -useContext -underBinder x2878
  try clear_value x2878
  extract_lets +onlyGivenNames -merge -useContext -underBinder x2879
  try clear_value x2879
  extract_lets +onlyGivenNames -merge -useContext -underBinder x2880
  try clear_value x2880
  split
  · refine State.welFault_touch (sub_trans (by decide) hmm) ?_
    refine Agree.fset ?_ (sub_bit hmm (by decide)) _ _
    exact hag
  · refine Agree.ite ?_ ?_
    · exact hag
    · extract_lets +onlyGivenNames -merge -useContext -underBinder x2881
      try clear_value x2881
      extract_lets +onlyGivenNames -merge -useContext -underBinder x2882
      try clear_value x2882
      split
      · rename_i heq
        have h2883 := AgreeP.of_eq (M := MM) (s0 := so) heq (by
          refine AgreeP.foldl ?_ (fun q2885 y2884 h2886 => ?_) _
          · refine AgreeP.mk ?_
            exact hag
          · extract_lets +onlyGivenNames -merge -useContext -underBinder x2887
            have h2888 : AgreeP MM so (x2887) := by
              subst x2887
              refine State.lmemRead_touch (sub_trans (by decide) hmm) ?_
              refine AgreeP.fst ?_
              exact h2886
            try clear_value x2887
            refine AgreeP.mk ?_
            refine AgreeP.fst ?_
            exact h2888
          )
        refine Agree.ite ?_ ?_
        · refine State.welLmemUe_touch (sub_trans (by decide) hmm) ?_
          exact h2883
        · extract_lets +onlyGivenNames -merge -useContext -underBinder x2889
          try clear_value x2889
          extract_lets +onlyGivenNames -merge -useContext -underBinder x2890
          try clear_value x2890
          extract_lets +onlyGivenNames -merge -useContext -underBinder x2891
          try clear_value x2891
          extract_lets +onlyGivenNames -merge -useContext -underBinder x2892
          try clear_value x2892
          extract_lets +onlyGivenNames -merge -useContext -underBinder x2893
          try clear_value x2893
          split
          · extract_lets +onlyGivenNames -merge -useContext -underBinder x2894
            try clear_value x2894
            extract_lets +onlyGivenNames -merge -useContext -underBinder x2895
            try clear_value x2895
            split
            · extract_lets +onlyGivenNames -merge -useContext -underBinder x2896
              try clear_value x2896
              extract_lets +onlyGivenNames -merge -useContext -underBinder x2897
              try clear_value x2897
              extract_lets +onlyGivenNames -merge -useContext -underBinder x2898
              try clear_value x2898
              extract_lets +onlyGivenNames -merge -useContext -underBinder x2899
              try clear_value x2899
              extract_lets +onlyGivenNames -merge -useContext -underBinder x2900
              try clear_value x2900
              extract_lets +onlyGivenNames -merge -useContext -underBinder x2901
              try clear_value x2901
              extract_lets +onlyGivenNames -merge -useContext -underBinder x2902
              try clear_value x2902
              extract_lets +onlyGivenNames -merge -useContext -underBinder x2903
              try clear_value x2903
              extract_lets +onlyGivenNames -merge -useContext -underBinder x2904
              try clear_value x2904
              extract_lets +onlyGivenNames -merge -useContext -underBinder x2905
              try clear_value x2905
              extract_lets +onlyGivenNames -merge -useContext -underBinder x2906
              try clear_value x2906
              extract_lets +onlyGivenNames -merge -useContext -underBinder x2907
              try clear_value x2907
              extract_lets +onlyGivenNames -merge -useContext -underBinder x2908
              try clear_value x2908
              extract_lets +onlyGivenNames -merge -useContext -underBinder x2909
              try clear_value x2909
              extract_lets +onlyGivenNames -merge -useContext -underBinder x2910
              try clear_value x2910
              extract_lets +onlyGivenNames -merge -useContext -underBinder x2911
              try clear_value x2911
              extract_lets +onlyGivenNames -merge -useContext -underBinder x2912
              try clear_value x2912
              extract_lets +onlyGivenNames -merge -useContext -underBinder x2913
              try clear_value x2913
              extract_lets +onlyGivenNames -merge -useContext -underBinder x2914
              try clear_value x2914
              extract_lets +onlyGivenNames -merge -useContext -underBinder x2915
              try clear_value x2915
              extract_lets +onlyGivenNames -merge -useContext -underBinder x2916
              try clear_value x2916
              extract_lets +onlyGivenNames -merge -useContext -underBinder x2917
              try clear_value x2917
              extract_lets +onlyGivenNames -merge -useContext -underBinder x2918
              try clear_value x2918
              extract_lets +onlyGivenNames -merge -useContext -underBinder x2919
              try clear_value x2919
              extract_lets +onlyGivenNames -merge -useContext -underBinder x2920
              try clear_value x2920
              extract_lets +onlyGivenNames -merge -useContext -underBinder x2921
              try clear_value x2921
              extract_lets +onlyGivenNames -merge -useContext -underBinder x2922
              have h2923 : Agree MM so x2922 := by
                subst x2922
                refine Agree.faddSat ?_ (sub_bit hmm (by decide)) _ _
                refine State.setWel_touch (sub_trans (by decide) hmm) ?_
                exact h2883
              try clear_value x2922
              extract_lets +onlyGivenNames -merge -useContext -underBinder x2924
              have h2925 : Agree MM so x2924 := by
                subst x2924
                refine Agree.ite ?_ ?_
                · refine State.irq_touch (sub_trans (by decide) hmm) ?_
                  refine Agree.setReg ?_ (sub_bit hmm (by decide)) _ _
                  exact h2923
                · exact h2923
              try clear_value x2924
              extract_lets +onlyGivenNames -merge -useContext -underBinder x2926
              have h2927 : Agree MM so x2926 := by
                subst x2926
                refine Agree.forEach ?_ (fun y2928 t2929 h2930 => ?_) _
                · exact h2925
                · refine State.lmemWrite_touch (sub_trans (by decide) hmm) ?_
                  exact h2930
              try clear_value x2926
              extract_lets +onlyGivenNames -merge -useContext -underBinder x2931
              have h2932 : Agree MM so x2931 := by
                subst x2931
                split
                · exact h2927
                · refine Agree.forEach ?_ (fun y2933 t2934 h2935 => ?_) _
                  · exact h2927
                  · refine State.lmemWrite_touch (sub_trans (by decide) hmm) ?_
                    exact h2935
              try clear_value x2931
              extract_lets +onlyGivenNames -merge -useContext -underBinder x2936
              have h2937 : Agree MM so x2936 := by
                subst x2936
                refine Agree.ite ?_ ?_
                · refine State.pulse_touch (sub_trans (by decide) hmm) ?_
                  exact h2932
                · exact h2932
              try clear_value x2936
              extract_lets +onlyGivenNames -merge -useContext -underBinder x2938
              have h2939 : Agree MM so x2938 := by
                subst x2938
                refine Agree.ite ?_ ?_
                · exact h2937
                · split
                  · extract_lets +onlyGivenNames -merge -useContext -underBinder x2940
                    try clear_value x2940
                    refine State.setWel_touch (sub_trans (by decide) hmm) ?_
                    exact h2937
                  · extract_lets +onlyGivenNames -merge -useContext -underBinder x2941
                    have h2942 : Agree MM so x2941 := by
                      subst x2941
                      refine Agree.ite ?_ ?_
                      · exact h2937
                      · refine State.logBusErr_touch (sub_trans (by decide) hmm) ?_
                        exact h2937
                    try clear_value x2941
                    refine State.welStop_touch (sub_trans (by decide) hmm) ?_
                    exact h2942
              try clear_value x2938
              refine Agree.ite ?_ ?_
              · extract_lets +onlyGivenNames -merge -useContext -underBinder x2943
                try clear_value x2943
                extract_lets +onlyGivenNames -merge -useContext -underBinder x2944
                try clear_value x2944
                refine State.setWel_touch (sub_trans (by decide) hmm) ?_
                exact h2939
              · exact h2939

theorem State.microword_touch {MM : Nat} {so : State} {s : Sys2Proof.Machine.State} {w : ℕ} {waits : ℕ}
    (hmm : Machine.sub 0x43e000000000000000000000000000000004405d600000000000000000000000000000000000000000000001840000000000001c18000000000088020c MM = true) (hag : Agree MM so s) :
    Agree MM so (@State.microword s w waits) := by
  unfold State.microword
  extract_lets +onlyGivenNames -merge -useContext -underBinder x2945
  try clear_value x2945
  refine Agree.ite ?_ ?_
  · refine State.microIssue_touch (sub_trans (by decide) hmm) ?_
    exact hag
  · exact hag

end Sys2Proof.Machine
end

