-- ==== Sys2Proof/Laws/Touch/Welq.lean ====
section
/-!
SUPPORT. What the functions of Machine/Welq.lean can touch: one lemma per function, its mask after `sub`.
-/

namespace Sys2Proof.Machine

theorem State.setWq_touch {MM : Nat} {so : State} {s : Sys2Proof.Machine.State} {q : ℕ} {x : Sys2Proof.Machine.WelQueue}
    (hmm : Machine.sub 0x800000 MM = true) (hag : Agree MM so s) :
    Agree MM so (@State.setWq s q x) := by
  unfold State.setWq
  refine Agree.set_wel ?_ (sub_bit hmm (by decide)) _
  exact hag

theorem State.frameStrobe_touch {MM : Nat} {so : State} {s : Sys2Proof.Machine.State} {f : ℕ} {n : ℕ}
    (hmm : Machine.sub 0x60000000000000000000000000000000000000000000000000010000000000000000100000000000800200 MM = true) (hag : Agree MM so s) :
    Agree MM so (@State.frameStrobe s f n) := by
  unfold State.frameStrobe
  extract_lets +onlyGivenNames -merge -useContext -underBinder x230
  try clear_value x230
  extract_lets +onlyGivenNames -merge -useContext -underBinder x231
  try clear_value x231
  extract_lets +onlyGivenNames -merge -useContext -underBinder x232
  try clear_value x232
  extract_lets +onlyGivenNames -merge -useContext -underBinder x233
  have h234 : Agree MM so x233 := by
    subst x233
    refine Agree.ite ?_ ?_
    · refine Agree.set_wel ?_ (sub_bit hmm (by decide)) _
      exact hag
    · exact hag
  try clear_value x233
  extract_lets +onlyGivenNames -merge -useContext -underBinder x235
  have h236 : Agree MM so x235 := by
    subst x235
    refine Agree.forEach ?_ (fun y237 t238 h239 => ?_) _
    · exact h234
    · refine Agree.ite ?_ ?_
      · refine Agree.faddSat ?_ (sub_bit hmm (by decide)) _ _
        exact h239
      · refine State.irq_touch (sub_trans (by decide) hmm) ?_
        refine Agree.fsetB ?_ (sub_bit hmm (by decide)) _ _
        refine Agree.fset ?_ (sub_bit hmm (by decide)) _ _
        exact h239
  try clear_value x235
  refine Agree.forEach ?_ (fun y240 t241 h242 => ?_) _
  · exact h236
  · extract_lets +onlyGivenNames -merge -useContext -underBinder x243
    try clear_value x243
    refine Agree.ite ?_ ?_
    · exact h242
    · extract_lets +onlyGivenNames -merge -useContext -underBinder x244
      have h245 : Agree MM so x244 := by
        subst x244
        refine State.setWq_touch (sub_trans (by decide) hmm) ?_
        exact h242
      try clear_value x244
      refine Agree.ite ?_ ?_
      · exact h245
      · refine Agree.set_wel ?_ (sub_bit hmm (by decide)) _
        exact h245

theorem State.darnRefuse_touch {MM : Nat} {so : State} {s : Sys2Proof.Machine.State} {why : ℕ}
    (hmm : Machine.sub 0x200000000000000000000000000000000000000000000000000000000000000000000000000000000000010000000000000000100000000000000200 MM = true) (hag : Agree MM so s) :
    Agree MM so (@State.darnRefuse s why) := by
  unfold State.darnRefuse
  refine State.irq_touch (sub_trans (by decide) hmm) ?_
  refine Agree.fset ?_ (sub_bit hmm (by decide)) _ _
  exact hag

theorem State.qNext_touch {MM : Nat} {so : State} {s : Sys2Proof.Machine.State} {q : ℕ}
    (hmm : Machine.sub 0x100000000000000000000000000000000000000000000000000000000000000000000000000000000000800000 MM = true) (hag : Agree MM so s) :
    Agree MM so (@State.qNext s q) := by
  unfold State.qNext
  extract_lets +onlyGivenNames -merge -useContext -underBinder x246
  have h247 : Agree MM so x246 := by
    subst x246
    refine Agree.fset ?_ (sub_bit hmm (by decide)) _ _
    exact hag
  try clear_value x246
  refine State.setWq_touch (sub_trans (by decide) hmm) ?_
  exact h247

theorem State.qSkip_touch {MM : Nat} {so : State} {s : Sys2Proof.Machine.State} {q : ℕ} {u2 : ℕ}
    (hmm : Machine.sub 0x43e0000000000000000000000000000010040000000000000000000000000000000000000000000000000001000000000000001c180000000000880208 MM = true) (hag : Agree MM so s) :
    Agree MM so (@State.qSkip s q u2) := by
  induction u2 generalizing s with
  | zero => exact hag
  | succ k ih =>
    rw [State.qSkip]
    refine Agree.ite hag ?_
    have h1 : AgreeP MM so (s.sramOwnRead (blockSource 0x52) (s.qSlot q (s.fget F.WELQ_QHEAD_HEAD q)) 64) :=
      State.sramOwnRead_touch (sub_trans (by decide) hmm) hag
    generalize s.sramOwnRead (blockSource 0x52) (s.qSlot q (s.fget F.WELQ_QHEAD_HEAD q)) 64 = r at h1 ⊢
    obtain ⟨u, d⟩ := r
    refine Agree.ite (ih ?_) h1
    exact State.irq_touch (sub_trans (by decide) hmm)
      (Agree.fsetB (State.qNext_touch (sub_trans (by decide) hmm) h1) (sub_bit hmm (by decide)) _ _)

theorem State.qSettle_touch {MM : Nat} {so : State} {s : Sys2Proof.Machine.State} {q : ℕ}
    (hmm : Machine.sub 0x43e0000000000000000000000000000010040000000000000000000000000000000000000000000000000001000000000000001c180000000000880208 MM = true) (hag : Agree MM so s) :
    Agree MM so (@State.qSettle s q) := by
  unfold State.qSettle
  refine Agree.ite ?_ ?_
  · refine State.qSkip_touch (sub_trans (by decide) hmm) ?_
    exact hag
  · exact hag

theorem State.qSettleOf_touch {MM : Nat} {so : State} {s : Sys2Proof.Machine.State} {e : ℕ}
    (hmm : Machine.sub 0x43e0000000000000000000000000000010040000000000000000000000000000000000000000000000000001000000000000001c180000000000880208 MM = true) (hag : Agree MM so s) :
    Agree MM so (@State.qSettleOf s e) := by
  unfold State.qSettleOf
  refine Agree.forEach ?_ (fun y248 t249 h250 => ?_) _
  · exact hag
  · refine State.qSettle_touch (sub_trans (by decide) hmm) ?_
    exact h250

theorem State.darnEngine_touch {MM : Nat} {so : State} {s : Sys2Proof.Machine.State} {wf : ℕ}
    (hmm : Machine.sub 0x53e00000000000000000000000000000100c0040300000000000000000000000000000000000000000000001000000000000001c180000000000880208 MM = true) (hag : Agree MM so s) :
    Agree MM so (@State.darnEngine s wf) := by
  unfold State.darnEngine
  extract_lets +onlyGivenNames -merge -useContext -underBinder x263
  try clear_value x263
  split
  · refine State.darnRefuse_touch (sub_trans (by decide) hmm) ?_
    exact hag
  · extract_lets +onlyGivenNames -merge -useContext -underBinder x264
    have h265 : Agree MM so x264 := by
      subst x264
      split
      · exact hag
      · refine State.qSettleOf_touch (sub_trans (by decide) hmm) ?_
        refine Agree.setReg ?_ (sub_bit hmm (by decide)) _ _
        exact hag
    try clear_value x264
    extract_lets +onlyGivenNames -merge -useContext -underBinder x266
    have h267 : Agree MM so x266 := by
      subst x266
      refine State.welRefresh_touch (sub_trans (by decide) hmm) ?_
      refine Agree.fsetB ?_ (sub_bit hmm (by decide)) _ _
      exact h265
    try clear_value x266
    extract_lets +onlyGivenNames -merge -useContext -underBinder x268
    have h269 : Agree MM so x268 := by
      subst x268
      refine Agree.fsetB ?_ (sub_bit hmm (by decide)) _ _
      exact h267
    try clear_value x268
    extract_lets +onlyGivenNames -merge -useContext -underBinder x270
    try clear_value x270
    extract_lets +onlyGivenNames -merge -useContext -underBinder x271
    have h272 : Agree MM so x271 := by
      subst x271
      refine Agree.ite ?_ ?_
      · refine State.setWel_touch (sub_trans (by decide) hmm) ?_
        exact h269
      · refine State.csInvalidateNow_touch (sub_trans (by decide) hmm) ?_
        exact h269
    try clear_value x271
    extract_lets +onlyGivenNames -merge -useContext -underBinder x273
    have h274 : Agree MM so x273 := by
      subst x273
      refine Agree.fsetBit ?_ (sub_bit hmm (by decide)) _ _ _
      exact h272
    try clear_value x273
    extract_lets +onlyGivenNames -merge -useContext -underBinder x275
    try clear_value x275
    extract_lets +onlyGivenNames -merge -useContext -underBinder x276
    have h277 : Agree MM so x276 := by
      subst x276
      refine Agree.set_darn ?_ (sub_bit hmm (by decide)) _
      exact h274
    try clear_value x276
    refine State.darnDone_touch (sub_trans (by decide) hmm) ?_
    exact h277

theorem State.darnBank_touch {MM : Nat} {so : State} {s : Sys2Proof.Machine.State} {d : ℕ} {b : ℕ}
    (hmm : Machine.sub 0x43e00000000000000000000000000000000000000000000000000000000000000000000000000000000000010000000000000000180000000000080200 MM = true) (hag : Agree MM so s) :
    Agree MM so (@State.darnBank s d b) := by
  unfold State.darnBank
  split
  · refine State.darnRefuse_touch (sub_trans (by decide) hmm) ?_
    exact hag
  · refine State.darnShow_touch (sub_trans (by decide) hmm) ?_
    refine Agree.set_darn ?_ (sub_bit hmm (by decide)) _
    exact hag

theorem State.darnSeam_touch {MM : Nat} {so : State} {s : Sys2Proof.Machine.State} {f : ℕ} {reach : Sys2Proof.Machine.Domain → Bool}
    (hmm : Machine.sub 0x53e00000000000000000000000000000100c0040300000000000000000000000000000000000000000000001000000000000001c180000000000880208 MM = true) (hag : Agree MM so s) :
    Agree MM so (@State.darnSeam s f reach) := by
  unfold State.darnSeam
  refine Agree.ite ?_ ?_
  · exact hag
  · extract_lets +onlyGivenNames -merge -useContext -underBinder x278
    try clear_value x278
    extract_lets +onlyGivenNames -merge -useContext -underBinder x279
    try clear_value x279
    extract_lets +onlyGivenNames -merge -useContext -underBinder x280
    have h281 : Agree MM so x280 := by
      subst x280
      refine Agree.set_darn ?_ (sub_bit hmm (by decide)) _
      exact hag
    try clear_value x280
    refine Agree.forEach ?_ (fun y282 t283 h284 => ?_) _
    · exact h281
    · extract_lets +onlyGivenNames -merge -useContext -underBinder x285
      try clear_value x285
      extract_lets +onlyGivenNames -merge -useContext -underBinder x286
      subst x286
      beta_reduce
      refine Agree.ite ?_ ?_
      · refine Agree.faddSat ?_ (sub_bit hmm (by decide)) _ _
        refine Agree.set_darn ?_ (sub_bit hmm (by decide)) _
        exact h284
      · refine Agree.ite ?_ ?_
        · refine State.darnEngine_touch (sub_trans (by decide) hmm) ?_
          exact h284
        · refine Agree.ite ?_ ?_
          · refine Agree.faddSat ?_ (sub_bit hmm (by decide)) _ _
            refine Agree.set_darn ?_ (sub_bit hmm (by decide)) _
            exact h284
          · refine State.darnBank_touch (sub_trans (by decide) hmm) ?_
            exact h284

theorem State.frameRestart_touch {MM : Nat} {so : State} {s : Sys2Proof.Machine.State}
    (hmm : Machine.sub 0x53e00000000000000000000000000000100c6040300000000000000000000000000000000000000000000001000000000000001c180000000000880208 MM = true) (hag : Agree MM so s) :
    Agree MM so (@State.frameRestart s) := by
  unfold State.frameRestart
  extract_lets +onlyGivenNames -merge -useContext -underBinder x287
  try clear_value x287
  extract_lets +onlyGivenNames -merge -useContext -underBinder x288
  try clear_value x288
  extract_lets +onlyGivenNames -merge -useContext -underBinder x289
  have h290 : Agree MM so x289 := by
    subst x289
    refine Agree.set_wel ?_ (sub_bit hmm (by decide)) _
    exact hag
  try clear_value x289
  refine Agree.forEach ?_ (fun y291 t292 h293 => ?_) _
  · exact h290
  · extract_lets +onlyGivenNames -merge -useContext -underBinder x294
    have h295 : Agree MM so x294 := by
      subst x294
      refine Agree.ite ?_ ?_
      · refine State.irq_touch (sub_trans (by decide) hmm) ?_
        refine Agree.fsetB ?_ (sub_bit hmm (by decide)) _ _
        exact h293
      · exact h293
    try clear_value x294
    refine State.frameStrobe_touch (sub_trans (by decide) hmm) ?_
    refine State.darnSeam_touch (sub_trans (by decide) hmm) ?_
    exact h295

theorem State.csNext_touch {MM : Nat} {so : State} {s : Sys2Proof.Machine.State} {w : ℕ}
    (hmm : Machine.sub 0x800000000000000000000000000000000000000000000000000000000000000000000000000000000000 MM = true) (hag : Agree MM so s) :
    Agree MM so (@State.csNext s w) := by
  unfold State.csNext
  refine Agree.ite ?_ ?_
  · refine Agree.fadd ?_ (sub_bit hmm (by decide)) _ _
    exact hag
  · exact hag

theorem State.csCommit_touch {MM : Nat} {so : State} {s : Sys2Proof.Machine.State} {w : ℕ} {v : Sys2Proof.Word}
    (hmm : Machine.sub 0x8800000000000000000000000000000000000000000000000000000000000000000000000000000800000 MM = true) (hag : Agree MM so s) :
    Agree MM so (@State.csCommit s w v) := by
  unfold State.csCommit
  extract_lets +onlyGivenNames -merge -useContext -underBinder x385
  try clear_value x385
  extract_lets +onlyGivenNames -merge -useContext -underBinder x386
  try clear_value x386
  extract_lets +onlyGivenNames -merge -useContext -underBinder x387
  have h388 : Agree MM so x387 := by
    subst x387
    refine State.setWel_touch (sub_trans (by decide) hmm) ?_
    exact hag
  try clear_value x387
  extract_lets +onlyGivenNames -merge -useContext -underBinder x389
  have h390 : Agree MM so x389 := by
    subst x389
    refine Agree.ite ?_ ?_
    · refine Agree.faddSat ?_ (sub_bit hmm (by decide)) _ _
      exact h388
    · exact h388
  try clear_value x389
  refine State.csNext_touch (sub_trans (by decide) hmm) ?_
  exact h390

theorem State.csSetValid_touch {MM : Nat} {so : State} {s : Sys2Proof.Machine.State} {w : ℕ}
    (hmm : Machine.sub 0x408402000000000000000000000000000000000000000000000010000000000000000180000000000800200 MM = true) (hag : Agree MM so s) :
    Agree MM so (@State.csSetValid s w) := by
  unfold State.csSetValid
  refine State.welRefresh_touch (sub_trans (by decide) hmm) ?_
  refine Agree.fset ?_ (sub_bit hmm (by decide)) _ _
  refine Agree.fset ?_ (sub_bit hmm (by decide)) _ _
  refine Agree.fsetB ?_ (sub_bit hmm (by decide)) _ _
  exact hag

theorem State.csChecked_touch {MM : Nat} {so : State} {s : Sys2Proof.Machine.State} {w : ℕ}
    (hmm : Machine.sub 0x408402000000000000000000000000000000000000000000000010000000000000000180000000000800200 MM = true) (hag : Agree MM so s) :
    Agree MM so (@State.csChecked s w) := by
  unfold State.csChecked
  refine Agree.ite ?_ ?_
  · refine State.csSetValid_touch (sub_trans (by decide) hmm) ?_
    exact hag
  · refine Agree.fset ?_ (sub_bit hmm (by decide)) _ _
    exact hag

theorem State.csDone_touch {MM : Nat} {so : State} {s : Sys2Proof.Machine.State} {w : ℕ}
    (hmm : Machine.sub 0x43e00000000000000000000000000000000408c0200000000000000000000000000000000000000000000001000000000000001c180000000000880208 MM = true) (hag : Agree MM so s) :
    Agree MM so (@State.csDone s w) := by
  unfold State.csDone
  extract_lets +onlyGivenNames -merge -useContext -underBinder x1126
  try clear_value x1126
  split
  · exact hag
  · refine Agree.ite ?_ ?_
    · exact hag
    · extract_lets +onlyGivenNames -merge -useContext -underBinder x1127
      have h1128 : Agree MM so x1127 := by
        subst x1127
        refine State.setWel_touch (sub_trans (by decide) hmm) ?_
        exact hag
      try clear_value x1127
      extract_lets +onlyGivenNames -merge -useContext -underBinder x1129
      have h1130 : Agree MM so x1129 := by
        subst x1129
        refine Agree.fsetB ?_ (sub_bit hmm (by decide)) _ _
        exact h1128
      try clear_value x1129
      extract_lets +onlyGivenNames -merge -useContext -underBinder x1131
      try clear_value x1131
      extract_lets +onlyGivenNames -merge -useContext -underBinder x1132
      try clear_value x1132
      extract_lets +onlyGivenNames -merge -useContext -underBinder x1133
      try clear_value x1133
      extract_lets +onlyGivenNames -merge -useContext -underBinder x1134
      try clear_value x1134
      extract_lets +onlyGivenNames -merge -useContext -underBinder x1135
      have h1136 : Agree MM so x1135 := by
        subst x1135
        refine Agree.fsetB ?_ (sub_bit hmm (by decide)) _ _
        refine State.setWel_touch (sub_trans (by decide) hmm) ?_
        exact h1130
      try clear_value x1135
      extract_lets +onlyGivenNames -merge -useContext -underBinder x1137
      have h1138 : Agree MM so x1137 := by
        subst x1137
        refine State.irq_touch (sub_trans (by decide) hmm) ?_
        exact h1136
      try clear_value x1137
      extract_lets +onlyGivenNames -merge -useContext -underBinder x1139
      have h1140 : Agree MM so x1139 := by
        subst x1139
        refine Agree.ite ?_ ?_
        · split
          · rename_i heq
            have h1141 := AgreeP.of_eq (M := MM) (s0 := so) heq (by
              refine State.sramOwnRead_touch (sub_trans (by decide) hmm) ?_
              exact h1130
              )
            extract_lets +onlyGivenNames -merge -useContext -underBinder x1142
            try clear_value x1142
            extract_lets +onlyGivenNames -merge -useContext -underBinder x1143
            have h1144 : Agree MM so x1143 := by
              subst x1143
              refine State.setWel_touch (sub_trans (by decide) hmm) ?_
              exact h1141
            try clear_value x1143
            split
            · refine Agree.fset ?_ (sub_bit hmm (by decide)) _ _
              refine Agree.fset ?_ (sub_bit hmm (by decide)) _ _
              exact h1144
            · refine State.csChecked_touch (sub_trans (by decide) hmm) ?_
              exact h1144
        · refine Agree.ite ?_ ?_
          · refine State.csChecked_touch (sub_trans (by decide) hmm) ?_
            exact h1130
          · refine Agree.ite ?_ ?_
            · refine Agree.fsetB ?_ (sub_bit hmm (by decide)) _ _
              refine State.setWel_touch (sub_trans (by decide) hmm) ?_
              exact h1130
            · refine Agree.ite ?_ ?_
              · refine State.propose_touch (sub_trans (by decide) hmm) ?_
                exact h1138
              · exact h1138
      try clear_value x1139
      refine State.irq_touch (sub_trans (by decide) hmm) ?_
      exact h1140

theorem State.csStart_touch {MM : Nat} {so : State} {s : Sys2Proof.Machine.State} {w : ℕ} {k : ℕ}
    (hmm : Machine.sub 0x400402000000000000000000000000000000000000000000000010000000000000000180000000000800200 MM = true) (hag : Agree MM so s) :
    Agree MM so (@State.csStart s w k) := by
  unfold State.csStart
  refine Agree.ite ?_ ?_
  · refine State.csInvalidateNow_touch (sub_trans (by decide) hmm) ?_
    exact hag
  · extract_lets +onlyGivenNames -merge -useContext -underBinder x1145
    try clear_value x1145
    extract_lets +onlyGivenNames -merge -useContext -underBinder x1146
    have h1147 : Agree MM so x1146 := by
      subst x1146
      refine State.setWel_touch (sub_trans (by decide) hmm) ?_
      exact hag
    try clear_value x1146
    extract_lets +onlyGivenNames -merge -useContext -underBinder x1148
    have h1149 : Agree MM so x1148 := by
      subst x1148
      refine Agree.fsetB ?_ (sub_bit hmm (by decide)) _ _
      exact h1147
    try clear_value x1148
    extract_lets +onlyGivenNames -merge -useContext -underBinder x1150
    have h1151 : Agree MM so x1150 := by
      subst x1150
      refine Agree.fset ?_ (sub_bit hmm (by decide)) _ _
      exact h1149
    try clear_value x1150
    refine Agree.ite ?_ ?_
    · refine Agree.fsetB ?_ (sub_bit hmm (by decide)) _ _
      exact h1151
    · exact h1151

theorem State.darnConfirm_touch {MM : Nat} {so : State} {s : Sys2Proof.Machine.State}
    (hmm : Machine.sub 0x43e00000000000000000000000000000000000000000000000000000000000000000000000000000000000010000000000000000180000000000080200 MM = true) (hag : Agree MM so s) :
    Agree MM so (@State.darnConfirm s) := by
  unfold State.darnConfirm
  split
  · exact hag
  · extract_lets +onlyGivenNames -merge -useContext -underBinder x1244
    have h1245 : Agree MM so x1244 := by
      subst x1244
      refine State.popProp_touch (sub_trans (by decide) hmm) ?_
      exact hag
    try clear_value x1244
    extract_lets +onlyGivenNames -merge -useContext -underBinder x1246
    try clear_value x1246
    extract_lets +onlyGivenNames -merge -useContext -underBinder x1247
    have h1248 : Agree MM so x1247 := by
      subst x1247
      refine Agree.set_darn ?_ (sub_bit hmm (by decide)) _
      exact h1245
    try clear_value x1247
    refine Agree.ite ?_ ?_
    · exact h1248
    · refine Agree.faddSat ?_ (sub_bit hmm (by decide)) _ _
      exact h1248

theorem State.darnDecline_touch {MM : Nat} {so : State} {s : Sys2Proof.Machine.State}
    (hmm : Machine.sub 0x43e00000000000000000000000000000000000000000000000000000000000000000000000000000000000010000000000000000180000000000080200 MM = true) (hag : Agree MM so s) :
    Agree MM so (@State.darnDecline s) := by
  unfold State.darnDecline
  split
  · exact hag
  · extract_lets +onlyGivenNames -merge -useContext -underBinder x1249
    have h1250 : Agree MM so x1249 := by
      subst x1249
      refine State.popProp_touch (sub_trans (by decide) hmm) ?_
      exact hag
    try clear_value x1249
    refine Agree.ite ?_ ?_
    · refine Agree.set_darn ?_ (sub_bit hmm (by decide)) _
      exact h1250
    · exact h1250

theorem State.welHalt_touch {MM : Nat} {so : State} {s : Sys2Proof.Machine.State} {w : ℕ}
    (hmm : Machine.sub 0x40040600000000000000000000000000000000000000000000001840000000000001c18000000000080020c MM = true) (hag : Agree MM so s) :
    Agree MM so (@State.welHalt s w) := by
  unfold State.welHalt
  refine Agree.ite ?_ ?_
  · refine State.welStop_touch (sub_trans (by decide) hmm) ?_
    exact hag
  · exact hag

theorem State.welResume_touch {MM : Nat} {so : State} {s : Sys2Proof.Machine.State} {w : ℕ}
    (hmm : Machine.sub 0x43e0000000000000000000000000000010040000200000000000000000000000000000000000000000000001000000000000001c180000000000880208 MM = true) (hag : Agree MM so s) :
    Agree MM so (@State.welResume s w) := by
  unfold State.welResume
  refine Agree.ite ?_ ?_
  · extract_lets +onlyGivenNames -merge -useContext -underBinder x1266
    have h1267 : Agree MM so x1266 := by
      subst x1266
      refine State.welTo_touch (sub_trans (by decide) hmm) ?_
      exact hag
    try clear_value x1266
    refine Agree.forEach ?_ (fun y1268 t1269 h1270 => ?_) _
    · exact h1267
    · refine State.qSettleOf_touch (sub_trans (by decide) hmm) ?_
      exact h1270
  · exact hag

theorem State.bankCopyDone_touch {MM : Nat} {so : State} {s : Sys2Proof.Machine.State}
    (hmm : Machine.sub 0x43e00000000000000000000000000000000000000000000000000000000000000000000000000000000000010000000000000000180000000000080208 MM = true) (hag : Agree MM so s) :
    Agree MM so (@State.bankCopyDone s) := by
  unfold State.bankCopyDone
  split
  · exact hag
  · refine Agree.ite ?_ ?_
    · exact hag
    · extract_lets +onlyGivenNames -merge -useContext -underBinder x1686
      try clear_value x1686
      extract_lets +onlyGivenNames -merge -useContext -underBinder x1687
      have h1688 : Agree MM so x1687 := by
        subst x1687
        refine AgreeP.fst ?_
        refine State.sramRead_touch (sub_trans (by decide) hmm) ?_
        exact hag
      try clear_value x1687
      extract_lets +onlyGivenNames -merge -useContext -underBinder x1689
      have h1690 : Agree MM so x1689 := by
        subst x1689
        refine Agree.set_ecc ?_ (sub_bit hmm (by decide)) _
        exact h1688
      try clear_value x1689
      extract_lets +onlyGivenNames -merge -useContext -underBinder x1691
      have h1692 : Agree MM so x1691 := by
        subst x1691
        refine State.mapBank_touch (sub_trans (by decide) hmm) ?_
        exact h1690
      try clear_value x1691
      extract_lets +onlyGivenNames -merge -useContext -underBinder x1693
      try clear_value x1693
      extract_lets +onlyGivenNames -merge -useContext -underBinder x1694
      have h1695 : Agree MM so x1694 := by
        subst x1694
        refine Agree.set_darn ?_ (sub_bit hmm (by decide)) _
        exact h1692
      try clear_value x1694
      refine State.darnDone_touch (sub_trans (by decide) hmm) ?_
      exact h1695

theorem State.frameCount_touch {MM : Nat} {so : State} {s : Sys2Proof.Machine.State} {f : ℕ} {num : ℕ} {t : ℕ}
    (hmm : Machine.sub 0x60000000000000000000000000000000000000000078000000010000000000000000100000000000809200 MM = true) (hag : Agree MM so s) :
    Agree MM so (@State.frameCount s f num t) := by
  unfold State.frameCount
  extract_lets +onlyGivenNames -merge -useContext -underBinder x2178
  try clear_value x2178
  extract_lets +onlyGivenNames -merge -useContext -underBinder x2179
  try clear_value x2179
  extract_lets +onlyGivenNames -merge -useContext -underBinder x2180
  try clear_value x2180
  extract_lets +onlyGivenNames -merge -useContext -underBinder x2181
  try clear_value x2181
  extract_lets +onlyGivenNames -merge -useContext -underBinder x2182
  try clear_value x2182
  extract_lets +onlyGivenNames -merge -useContext -underBinder x2183
  subst x2183
  beta_reduce
  refine Agree.ite ?_ ?_
  · refine Agree.set_wel ?_ (sub_bit hmm (by decide)) _
    exact hag
  · extract_lets +onlyGivenNames -merge -useContext -underBinder x2184
    try clear_value x2184
    extract_lets +onlyGivenNames -merge -useContext -underBinder x2185
    try clear_value x2185
    extract_lets +onlyGivenNames -merge -useContext -underBinder x2186
    try clear_value x2186
    extract_lets +onlyGivenNames -merge -useContext -underBinder x2187
    have h2188 : Agree MM so x2187 := by
      subst x2187
      refine Agree.set_wel ?_ (sub_bit hmm (by decide)) _
      exact hag
    try clear_value x2187
    refine Agree.ite ?_ ?_
    · exact h2188
    · extract_lets +onlyGivenNames -merge -useContext -underBinder x2189
      try clear_value x2189
      extract_lets +onlyGivenNames -merge -useContext -underBinder x2190
      have h2191 : Agree MM so x2190 := by
        subst x2190
        refine State.countSeam_touch (sub_trans (by decide) hmm) ?_
        exact h2188
      try clear_value x2190
      refine Agree.ite ?_ ?_
      · refine State.frameStrobe_touch (sub_trans (by decide) hmm) ?_
        exact h2191
      · refine Agree.ite ?_ ?_
        · exact h2191
        · extract_lets +onlyGivenNames -merge -useContext -underBinder x2192
          try clear_value x2192
          refine Agree.set_wel ?_ (sub_bit hmm (by decide)) _
          exact h2191

theorem State.frameSeams_touch {MM : Nat} {so : State} {s : Sys2Proof.Machine.State} {num : ℕ} {t : ℕ}
    (hmm : Machine.sub 0x60000000000000000000000000000000000000000078000000010000000000000000100000000000809200 MM = true) (hag : Agree MM so s) :
    Agree MM so (@State.frameSeams s num t) := by
  unfold State.frameSeams
  extract_lets +onlyGivenNames -merge -useContext -underBinder x2193
  have h2194 : Agree MM so x2193 := by
    subst x2193
    refine Agree.forEach ?_ (fun y2195 t2196 h2197 => ?_) _
    · exact hag
    · refine State.frameCount_touch (sub_trans (by decide) hmm) ?_
      exact h2197
  try clear_value x2193
  refine Agree.set_wel ?_ (sub_bit hmm (by decide)) _
  exact h2194

theorem State.launchDropped_touch {MM : Nat} {so : State} {s : Sys2Proof.Machine.State}
    (hmm : Machine.sub 0x400000000000000000000000000000000000000000000000000010000000000000000100000000000000200 MM = true) (hag : Agree MM so s) :
    Agree MM so (@State.launchDropped s) := by
  unfold State.launchDropped
  refine State.irq_touch (sub_trans (by decide) hmm) ?_
  refine Agree.faddSat ?_ (sub_bit hmm (by decide)) _ _
  refine Agree.fsetB ?_ (sub_bit hmm (by decide)) _ _
  exact hag

theorem State.launch_touch {MM : Nat} {so : State} {s : Sys2Proof.Machine.State} {t : ℕ}
    (hmm : Machine.sub 0x43e0000000000000000000000000000000040000000000000000000000000000000000000000000000000001000000000000001c180000000000880208 MM = true) (hag : Agree MM so s) :
    Agree MM so (@State.launch s t) := by
  unfold State.launch
  refine Agree.ite ?_ ?_
  · exact hag
  · extract_lets +onlyGivenNames -merge -useContext -underBinder x2374
    try clear_value x2374
    extract_lets +onlyGivenNames -merge -useContext -underBinder x2375
    try clear_value x2375
    refine Agree.ite ?_ ?_
    · refine State.launchDropped_touch (sub_trans (by decide) hmm) ?_
      exact hag
    · split
      · rename_i heq
        have h2376 := AgreeP.of_eq (M := MM) (s0 := so) heq (by
          refine State.sramOwnRead_touch (sub_trans (by decide) hmm) ?_
          exact hag
          )
        refine Agree.set_wel ?_ (sub_bit hmm (by decide)) _
        exact h2376

theorem State.frameClose_touch {MM : Nat} {so : State} {s : Sys2Proof.Machine.State} {f : ℕ}
    (hmm : Machine.sub 0x1e000000000000000000000000000000000000000000000000000010000000000000000100000000000800200 MM = true) (hag : Agree MM so s) :
    Agree MM so (@State.frameClose s f) := by
  unfold State.frameClose
  split
  · exact hag
  · refine Agree.ite ?_ ?_
    · exact hag
    · extract_lets +onlyGivenNames -merge -useContext -underBinder x2443
      try clear_value x2443
      extract_lets +onlyGivenNames -merge -useContext -underBinder x2444
      have h2445 : Agree MM so x2444 := by
        subst x2444
        refine Agree.set_wel ?_ (sub_bit hmm (by decide)) _
        exact hag
      try clear_value x2444
      extract_lets +onlyGivenNames -merge -useContext -underBinder x2446
      have h2447 : Agree MM so x2446 := by
        subst x2446
        refine Agree.set64 ?_ (sub_bit hmm (by decide)) (sub_bit hmm (by decide)) _ _
        exact h2445
      try clear_value x2446
      extract_lets +onlyGivenNames -merge -useContext -underBinder x2448
      have h2449 : Agree MM so x2448 := by
        subst x2448
        refine Agree.setReg ?_ (sub_bit hmm (by decide)) _ _
        exact h2447
      try clear_value x2448
      extract_lets +onlyGivenNames -merge -useContext -underBinder x2450
      have h2451 : Agree MM so x2450 := by
        subst x2450
        refine Agree.fsetB ?_ (sub_bit hmm (by decide)) _ _
        refine Agree.fset ?_ (sub_bit hmm (by decide)) _ _
        exact h2449
      try clear_value x2450
      refine State.irq_touch (sub_trans (by decide) hmm) ?_
      exact h2451

theorem State.pushTable_touch {MM : Nat} {so : State} {s : Sys2Proof.Machine.State} {dst : ℕ} {len : ℕ}
    (hmm : Machine.sub 0x200000000000000000000000000000000000000000000000000000000010000000000000000100000000000800200 MM = true) (hag : Agree MM so s) :
    Agree MM so (@State.pushTable s dst len) := by
  unfold State.pushTable
  extract_lets +onlyGivenNames -merge -useContext -underBinder x2538
  try clear_value x2538
  refine Agree.ite ?_ ?_
  · exact hag
  · refine Agree.ite ?_ ?_
    · refine State.irq_touch (sub_trans (by decide) hmm) ?_
      refine Agree.faddSat ?_ (sub_bit hmm (by decide)) _ _
      refine Agree.fsetB ?_ (sub_bit hmm (by decide)) _ _
      exact hag
    · extract_lets +onlyGivenNames -merge -useContext -underBinder x2539
      try clear_value x2539
      extract_lets +onlyGivenNames -merge -useContext -underBinder x2540
      have h2541 : Agree MM so x2540 := by
        subst x2540
        refine Agree.set_wel ?_ (sub_bit hmm (by decide)) _
        exact hag
      try clear_value x2540
      refine Agree.fset ?_ (sub_bit hmm (by decide)) _ _
      exact h2541

theorem State.jobComplete_touch {MM : Nat} {so : State} {s : Sys2Proof.Machine.State} {w : ℕ} {clocks : ℕ}
    (hmm : Machine.sub 0x43e0000000000000000000000000020000040043200000000000000000000000000000000000000000000001840000000000001c18000000000088020c MM = true) (hag : Agree MM so s) :
    Agree MM so (@State.jobComplete s w clocks) := by
  unfold State.jobComplete
  extract_lets +onlyGivenNames -merge -useContext -underBinder x2542
  try clear_value x2542
  split
  · exact hag
  · refine Agree.ite ?_ ?_
    · exact hag
    · extract_lets +onlyGivenNames -merge -useContext -underBinder x2543
      try clear_value x2543
      extract_lets +onlyGivenNames -merge -useContext -underBinder x2544
      try clear_value x2544
      extract_lets +onlyGivenNames -merge -useContext -underBinder x2545
      try clear_value x2545
      split
      · rename_i heq
        have h2546 := AgreeP.of_eq (M := MM) (s0 := so) heq (by
          refine State.sramOwnRead_touch (sub_trans (by decide) hmm) ?_
          exact hag
          )
        extract_lets +onlyGivenNames -merge -useContext -underBinder x2547
        try clear_value x2547
        extract_lets +onlyGivenNames -merge -useContext -underBinder x2548
        try clear_value x2548
        extract_lets +onlyGivenNames -merge -useContext -underBinder x2549
        try clear_value x2549
        extract_lets +onlyGivenNames -merge -useContext -underBinder x2550
        try clear_value x2550
        extract_lets +onlyGivenNames -merge -useContext -underBinder x2551
        try clear_value x2551
        extract_lets +onlyGivenNames -merge -useContext -underBinder x2552
        try clear_value x2552
        extract_lets +onlyGivenNames -merge -useContext -underBinder x2553
        try clear_value x2553
        extract_lets +onlyGivenNames -merge -useContext -underBinder x2554
        try clear_value x2554
        extract_lets +onlyGivenNames -merge -useContext -underBinder x2555
        try clear_value x2555
        extract_lets +onlyGivenNames -merge -useContext -underBinder x2556
        have h2557 : Agree MM so x2556 := by
          subst x2556
          refine State.sramOwnWrite_touch (sub_trans (by decide) hmm) ?_
          exact h2546
        try clear_value x2556
        extract_lets +onlyGivenNames -merge -useContext -underBinder x2558
        have h2559 : Agree MM so x2558 := by
          subst x2558
          refine Agree.faddSat ?_ (sub_bit hmm (by decide)) _ _
          exact h2557
        try clear_value x2558
        extract_lets +onlyGivenNames -merge -useContext -underBinder x2560
        try clear_value x2560
        extract_lets +onlyGivenNames -merge -useContext -underBinder x2561
        try clear_value x2561
        extract_lets +onlyGivenNames -merge -useContext -underBinder x2562
        have h2563 : Agree MM so x2562 := by
          subst x2562
          refine Agree.ite ?_ ?_
          · refine State.irq_touch (sub_trans (by decide) hmm) ?_
            refine Agree.fsetB ?_ (sub_bit hmm (by decide)) _ _
            exact h2559
          · refine Agree.ite ?_ ?_
            · exact h2559
            · refine Agree.set_wel ?_ (sub_bit hmm (by decide)) _
              exact h2559
        try clear_value x2562
        extract_lets +onlyGivenNames -merge -useContext -underBinder x2564
        have h2565 : Agree MM so x2564 := by
          subst x2564
          refine Agree.ite ?_ ?_
          · refine State.pulse_touch (sub_trans (by decide) hmm) ?_
            exact h2563
          · exact h2563
        try clear_value x2564
        extract_lets +onlyGivenNames -merge -useContext -underBinder x2566
        have h2567 : Agree MM so x2566 := by
          subst x2566
          refine Agree.ite ?_ ?_
          · refine State.pushTable_touch (sub_trans (by decide) hmm) ?_
            exact h2565
          · exact h2565
        try clear_value x2566
        extract_lets +onlyGivenNames -merge -useContext -underBinder x2568
        have h2569 : Agree MM so x2568 := by
          subst x2568
          refine Agree.fadd ?_ (sub_bit hmm (by decide)) _ _
          exact h2567
        try clear_value x2568
        refine State.welRetire_touch (sub_trans (by decide) hmm) ?_
        refine State.welTo_touch (sub_trans (by decide) hmm) ?_
        refine State.dropJob_touch (sub_trans (by decide) hmm) ?_
        exact h2569

theorem State.jobStart_touch {MM : Nat} {so : State} {s : Sys2Proof.Machine.State} {w : ℕ} {q : ℕ}
    (hmm : Machine.sub 0x43e0000000000000000000000000000010040000a00000000000000000000000000000000000000000000001840000000000001c18000000000088020c MM = true) (hag : Agree MM so s) :
    Agree MM so (@State.jobStart s w q) := by
  unfold State.jobStart
  split
  · rename_i heq
    have h2570 := AgreeP.of_eq (M := MM) (s0 := so) heq (by
      refine State.sramOwnRead_touch (sub_trans (by decide) hmm) ?_
      exact hag
      )
    extract_lets +onlyGivenNames -merge -useContext -underBinder x2571
    try clear_value x2571
    extract_lets +onlyGivenNames -merge -useContext -underBinder x2572
    try clear_value x2572
    extract_lets +onlyGivenNames -merge -useContext -underBinder x2573
    try clear_value x2573
    extract_lets +onlyGivenNames -merge -useContext -underBinder x2574
    try clear_value x2574
    extract_lets +onlyGivenNames -merge -useContext -underBinder x2575
    try clear_value x2575
    extract_lets +onlyGivenNames -merge -useContext -underBinder x2576
    have h2577 : Agree MM so x2576 := by
      subst x2576
      refine State.setWq_touch (sub_trans (by decide) hmm) ?_
      exact h2570
    try clear_value x2576
    extract_lets +onlyGivenNames -merge -useContext -underBinder x2578
    have h2579 : Agree MM so x2578 := by
      subst x2578
      refine State.qNext_touch (sub_trans (by decide) hmm) ?_
      exact h2577
    try clear_value x2578
    extract_lets +onlyGivenNames -merge -useContext -underBinder x2580
    try clear_value x2580
    split
    · rename_i heq
      have h2581 := AgreeP.of_eq (M := MM) (s0 := so) heq (by
        refine State.sramOwnRead_touch (sub_trans (by decide) hmm) ?_
        exact h2579
        )
      extract_lets +onlyGivenNames -merge -useContext -underBinder x2582
      try clear_value x2582
      extract_lets +onlyGivenNames -merge -useContext -underBinder x2583
      try clear_value x2583
      extract_lets +onlyGivenNames -merge -useContext -underBinder x2584
      have h2585 : Agree MM so x2584 := by
        subst x2584
        refine State.sramOwnWrite_touch (sub_trans (by decide) hmm) ?_
        exact h2581
      try clear_value x2584
      extract_lets +onlyGivenNames -merge -useContext -underBinder x2586
      try clear_value x2586
      extract_lets +onlyGivenNames -merge -useContext -underBinder x2587
      try clear_value x2587
      extract_lets +onlyGivenNames -merge -useContext -underBinder x2588
      try clear_value x2588
      extract_lets +onlyGivenNames -merge -useContext -underBinder x2589
      have h2590 : Agree MM so x2589 := by
        subst x2589
        refine State.setWel_touch (sub_trans (by decide) hmm) ?_
        exact h2585
      try clear_value x2589
      extract_lets +onlyGivenNames -merge -useContext -underBinder x2591
      have h2592 : Agree MM so x2591 := by
        subst x2591
        refine Agree.fset ?_ (sub_bit hmm (by decide)) _ _
        refine Agree.fset ?_ (sub_bit hmm (by decide)) _ _
        exact h2590
      try clear_value x2591
      refine State.qSettle_touch (sub_trans (by decide) hmm) ?_
      refine State.welTo_touch (sub_trans (by decide) hmm) ?_
      refine Agree.fset ?_ (sub_bit hmm (by decide)) _ _
      exact h2592

theorem State.jobDispatch_touch {MM : Nat} {so : State} {s : Sys2Proof.Machine.State} {w : ℕ}
    (hmm : Machine.sub 0x43e0000000000000000000000000000010040000a00000000000000000000000000000000000000000000001840000000000001c18000000000088020c MM = true) (hag : Agree MM so s) :
    Agree MM so (@State.jobDispatch s w) := by
  unfold State.jobDispatch
  extract_lets +onlyGivenNames -merge -useContext -underBinder x2593
  try clear_value x2593
  split
  · exact hag
  · refine Agree.ite ?_ ?_
    · exact hag
    · split
      · exact hag
      · refine State.jobStart_touch (sub_trans (by decide) hmm) ?_
        exact hag

theorem State.jobTimeout_touch {MM : Nat} {so : State} {s : Sys2Proof.Machine.State} {w : ℕ}
    (hmm : Machine.sub 0x40041600000000000000000000000000000000000000000000001840000000000001c18000000000080020c MM = true) (hag : Agree MM so s) :
    Agree MM so (@State.jobTimeout s w) := by
  unfold State.jobTimeout
  extract_lets +onlyGivenNames -merge -useContext -underBinder x2594
  try clear_value x2594
  split
  · exact hag
  · refine Agree.ite ?_ ?_
    · extract_lets +onlyGivenNames -merge -useContext -underBinder x2595
      have h2596 : Agree MM so x2595 := by
        subst x2595
        refine Agree.faddSat ?_ (sub_bit hmm (by decide)) _ _
        exact hag
      try clear_value x2595
      refine State.welStop_touch (sub_trans (by decide) hmm) ?_
      refine State.setWel_touch (sub_trans (by decide) hmm) ?_
      exact h2596
    · exact hag

theorem State.templateDone_touch {MM : Nat} {so : State} {s : Sys2Proof.Machine.State} {t : ℕ}
    (hmm : Machine.sub 0x43e0000000000000000000000000000030040000000000000000000000000000000000000000000000000001840000000000001c18000000000088020c MM = true) (hag : Agree MM so s) :
    Agree MM so (@State.templateDone s t) := by
  unfold State.templateDone
  split
  · exact hag
  · refine Agree.ite hag ?_
    extract_lets tail a u v b z
    have h1 : Agree MM so u := Agree.set_wel hag (sub_bit hmm (by decide)) _
    have h2 : Agree MM so v := State.sramOwnWrite_touch (sub_trans (by decide) hmm) h1
    have h3 : Agree MM so z := Agree.ite (State.setWq_touch (sub_trans (by decide) hmm) h2) h2
    clear_value z
    exact State.qSettle_touch (sub_trans (by decide) hmm) (Agree.fset h3 (sub_bit hmm (by decide)) _ _)

end Sys2Proof.Machine
end

