-- ==== Sys2Proof/Laws/Touch/Link.lean ====
section
/-!
SUPPORT. What the functions of Machine/Link.lean can touch: one lemma per function, its mask after `sub`.
-/

namespace Sys2Proof.Machine

theorem State.setPort_touch {MM : Nat} {so : State} {s : Sys2Proof.Machine.State} {p : ℕ} {x : Sys2Proof.Machine.Port}
    (hmm : Machine.sub 0x2000000 MM = true) (hag : Agree MM so s) :
    Agree MM so (@State.setPort s p x) := by
  unfold State.setPort
  refine Agree.set_links ?_ (sub_bit hmm (by decide)) _
  exact hag

theorem State.enqueue_touch {MM : Nat} {so : State} {s : Sys2Proof.Machine.State} {p : ℕ} {pk : Sys2Proof.Machine.Packet} {stamp : Option ℕ}
    (hmm : Machine.sub 0x2000000 MM = true) (hag : Agree MM so s) :
    Agree MM so (@State.enqueue s p pk stamp) := by
  unfold State.enqueue
  refine State.setPort_touch (sub_trans (by decide) hmm) ?_
  exact hag

theorem State.toTwin_touch {MM : Nat} {so : State} {s : Sys2Proof.Machine.State} {typ : ℕ} {sub : ℕ} {aux : ℕ} {payload : List Sys2Proof.Byte}
    (hmm : Machine.sub 0x2000000 MM = true) (hag : Agree MM so s) :
    Agree MM so (@State.toTwin s typ sub aux payload) := by
  unfold State.toTwin
  refine Agree.ite ?_ ?_
  · exact hag
  · refine State.enqueue_touch (sub_trans (by decide) hmm) ?_
    exact hag

theorem State.setPair_touch {MM : Nat} {so : State} {s : Sys2Proof.Machine.State} {x : Sys2Proof.Machine.Pair}
    (hmm : Machine.sub 0x2000000 MM = true) (hag : Agree MM so s) :
    Agree MM so (@State.setPair s x) := by
  unfold State.setPair
  refine Agree.set_links ?_ (sub_bit hmm (by decide)) _
  exact hag

theorem State.ownBreak_touch {MM : Nat} {so : State} {s : Sys2Proof.Machine.State} {p : ℕ}
    (hmm : Machine.sub 0x8000000000000000000000000000000000000000000000000000000000000000010000000000000000100000000000000200 MM = true) (hag : Agree MM so s) :
    Agree MM so (@State.ownBreak s p) := by
  unfold State.ownBreak
  refine Agree.ite ?_ ?_
  · exact hag
  · extract_lets +onlyGivenNames -merge -useContext -underBinder x56
    try clear_value x56
    extract_lets +onlyGivenNames -merge -useContext -underBinder x57
    try clear_value x57
    refine Agree.ite ?_ ?_
    · exact hag
    · refine State.irq_touch (sub_trans (by decide) hmm) ?_
      refine Agree.fsetBit ?_ (sub_bit hmm (by decide)) _ _ _
      exact hag

theorem State.sendHello_touch {MM : Nat} {so : State} {s : Sys2Proof.Machine.State}
    (hmm : Machine.sub 0x2000000 MM = true) (hag : Agree MM so s) :
    Agree MM so (@State.sendHello s) := by
  unfold State.sendHello
  refine State.toTwin_touch (sub_trans (by decide) hmm) ?_
  exact hag

theorem State.pairTo_touch {MM : Nat} {so : State} {s : Sys2Proof.Machine.State} {st : ℕ}
    (hmm : Machine.sub 0x800000000000000000000000000000000000000000000000000000000000000010000000000000000100000000002000200 MM = true) (hag : Agree MM so s) :
    Agree MM so (@State.pairTo s st) := by
  unfold State.pairTo
  extract_lets +onlyGivenNames -merge -useContext -underBinder x58
  try clear_value x58
  refine Agree.ite ?_ ?_
  · exact hag
  · extract_lets +onlyGivenNames -merge -useContext -underBinder x59
    have h60 : Agree MM so x59 := by
      subst x59
      refine State.irq_touch (sub_trans (by decide) hmm) ?_
      refine Agree.fset ?_ (sub_bit hmm (by decide)) _ _
      exact hag
    try clear_value x59
    extract_lets +onlyGivenNames -merge -useContext -underBinder x61
    try clear_value x61
    extract_lets +onlyGivenNames -merge -useContext -underBinder x62
    have h63 : Agree MM so x62 := by
      subst x62
      refine State.setPair_touch (sub_trans (by decide) hmm) ?_
      exact h60
    try clear_value x62
    extract_lets +onlyGivenNames -merge -useContext -underBinder x64
    try clear_value x64
    extract_lets +onlyGivenNames -merge -useContext -underBinder x65
    have h66 : Agree MM so x65 := by
      subst x65
      refine Agree.ite ?_ ?_
      · exact h63
      · refine State.setPair_touch (sub_trans (by decide) hmm) ?_
        exact h63
    try clear_value x65
    refine Agree.ite ?_ ?_
    · refine State.irq_touch (sub_trans (by decide) hmm) ?_
      refine Agree.fadd ?_ (sub_bit hmm (by decide)) _ _
      refine Agree.fsetB ?_ (sub_bit hmm (by decide)) _ _
      exact h66
    · refine Agree.ite ?_ ?_
      · refine State.sendHello_touch (sub_trans (by decide) hmm) ?_
        exact h66
      · exact h66

theorem State.pairEval_touch {MM : Nat} {so : State} {s : Sys2Proof.Machine.State}
    (hmm : Machine.sub 0x800000000000000000000000000000000000000000000000000000000000000010000000000000000100000000002000200 MM = true) (hag : Agree MM so s) :
    Agree MM so (@State.pairEval s) := by
  unfold State.pairEval
  refine Agree.ite ?_ ?_
  · exact hag
  · extract_lets +onlyGivenNames -merge -useContext -underBinder x67
    have h68 : Agree MM so x67 := by
      subst x67
      refine State.pairTo_touch (sub_trans (by decide) hmm) ?_
      exact hag
    try clear_value x67
    refine Agree.ite ?_ ?_
    · refine State.pairTo_touch (sub_trans (by decide) hmm) ?_
      exact h68
    · exact h68

theorem State.portMove_touch {MM : Nat} {so : State} {s : Sys2Proof.Machine.State} {p : ℕ} {st : ℕ}
    (hmm : Machine.sub 0x8800000012000000000000000000000000000000000000000000000000000000010000000000000000180000000002000200 MM = true) (hag : Agree MM so s) :
    Agree MM so (@State.portMove s p st) := by
  unfold State.portMove
  refine Agree.ite ?_ ?_
  · exact hag
  · extract_lets +onlyGivenNames -merge -useContext -underBinder x69
    have h70 : Agree MM so x69 := by
      subst x69
      refine State.irq_touch (sub_trans (by decide) hmm) ?_
      refine Agree.fset ?_ (sub_bit hmm (by decide)) _ _
      exact hag
    try clear_value x69
    extract_lets +onlyGivenNames -merge -useContext -underBinder x71
    have h72 : Agree MM so x71 := by
      subst x71
      refine Agree.ite ?_ ?_
      · exact h70
      · refine Agree.fset ?_ (sub_bit hmm (by decide)) _ _
        refine Agree.fset ?_ (sub_bit hmm (by decide)) _ _
        exact h70
    try clear_value x71
    extract_lets +onlyGivenNames -merge -useContext -underBinder x73
    have h74 : Agree MM so x73 := by
      subst x73
      refine State.setBusy_touch (sub_trans (by decide) hmm) ?_
      exact h72
    try clear_value x73
    extract_lets +onlyGivenNames -merge -useContext -underBinder x75
    have h76 : Agree MM so x75 := by
      subst x75
      refine Agree.ite ?_ ?_
      · refine Agree.faddSat ?_ (sub_bit hmm (by decide)) _ _
        exact h74
      · exact h74
    try clear_value x75
    extract_lets +onlyGivenNames -merge -useContext -underBinder x77
    try clear_value x77
    extract_lets +onlyGivenNames -merge -useContext -underBinder x78
    have h79 : Agree MM so x78 := by
      subst x78
      refine Agree.ite ?_ ?_
      · refine State.irq_touch (sub_trans (by decide) hmm) ?_
        refine State.setPort_touch (sub_trans (by decide) hmm) ?_
        exact h76
      · exact h76
    try clear_value x78
    extract_lets +onlyGivenNames -merge -useContext -underBinder x80
    have h81 : Agree MM so x80 := by
      subst x80
      refine State.ownBreak_touch (sub_trans (by decide) hmm) ?_
      exact h79
    try clear_value x80
    refine Agree.ite ?_ ?_
    · extract_lets +onlyGivenNames -merge -useContext -underBinder x82
      try clear_value x82
      extract_lets +onlyGivenNames -merge -useContext -underBinder x83
      try clear_value x83
      extract_lets +onlyGivenNames -merge -useContext -underBinder x84
      have h85 : Agree MM so x84 := by
        subst x84
        refine Agree.ite ?_ ?_
        · refine State.setPair_touch (sub_trans (by decide) hmm) ?_
          exact h81
        · refine State.setPair_touch (sub_trans (by decide) hmm) ?_
          exact h81
      try clear_value x84
      refine State.pairEval_touch (sub_trans (by decide) hmm) ?_
      refine Agree.ite ?_ ?_
      · refine State.sendHello_touch (sub_trans (by decide) hmm) ?_
        exact h85
      · exact h85
    · exact h81

theorem State.portTo_touch {MM : Nat} {so : State} {s : Sys2Proof.Machine.State} {p : ℕ} {st : ℕ}
    (hmm : Machine.sub 0x8800000012000000000000000000000000000000000000000000000000000000010000000000000000180000000002000200 MM = true) (hag : Agree MM so s) :
    Agree MM so (@State.portTo s p st) := by
  unfold State.portTo
  extract_lets +onlyGivenNames -merge -useContext -underBinder x86
  have h87 : Agree MM so x86 := by
    subst x86
    refine State.portMove_touch (sub_trans (by decide) hmm) ?_
    exact hag
  try clear_value x86
  refine Agree.ite ?_ ?_
  · refine State.portMove_touch (sub_trans (by decide) hmm) ?_
    exact h87
  · exact h87

theorem State.portRefresh_touch {MM : Nat} {so : State} {s : Sys2Proof.Machine.State} {p : ℕ}
    (hmm : Machine.sub 0x8800000012000000000000000000000000000000000000000000000000000000010000000000000000180000000002000200 MM = true) (hag : Agree MM so s) :
    Agree MM so (@State.portRefresh s p) := by
  unfold State.portRefresh
  refine Agree.ite ?_ ?_
  · exact hag
  · refine Agree.ite ?_ ?_
    · refine Agree.ite ?_ ?_
      · refine State.portTo_touch (sub_trans (by decide) hmm) ?_
        exact hag
      · exact hag
    · refine State.portTo_touch (sub_trans (by decide) hmm) ?_
      exact hag

theorem State.startAfresh_touch {MM : Nat} {so : State} {s : Sys2Proof.Machine.State} {p : ℕ}
    (hmm : Machine.sub 0x2000000000000000000000000000000000000000000000000000000010000000000000000100000000002000200 MM = true) (hag : Agree MM so s) :
    Agree MM so (@State.startAfresh s p) := by
  unfold State.startAfresh
  extract_lets +onlyGivenNames -merge -useContext -underBinder x720
  try clear_value x720
  extract_lets +onlyGivenNames -merge -useContext -underBinder x721
  have h722 : Agree MM so x721 := by
    subst x721
    refine State.setPort_touch (sub_trans (by decide) hmm) ?_
    exact hag
  try clear_value x721
  refine State.irq_touch (sub_trans (by decide) hmm) ?_
  refine Agree.fsetB ?_ (sub_bit hmm (by decide)) _ _
  exact h722

theorem State.portDisable_touch {MM : Nat} {so : State} {s : Sys2Proof.Machine.State} {p : ℕ}
    (hmm : Machine.sub 0x8800000012000000000000000000000000000000000000000000000000000000010000000000000000180000000002400200 MM = true) (hag : Agree MM so s) :
    Agree MM so (@State.portDisable s p) := by
  unfold State.portDisable
  extract_lets +onlyGivenNames -merge -useContext -underBinder x723
  have h724 : Agree MM so x723 := by
    subst x723
    refine Agree.ite ?_ ?_
    · exact hag
    · refine State.govForget_touch (sub_trans (by decide) hmm) ?_
      refine State.startAfresh_touch (sub_trans (by decide) hmm) ?_
      refine State.setPort_touch (sub_trans (by decide) hmm) ?_
      exact hag
  try clear_value x723
  refine State.portRefresh_touch (sub_trans (by decide) hmm) ?_
  exact h724

theorem State.portRetrain_touch {MM : Nat} {so : State} {s : Sys2Proof.Machine.State} {p : ℕ}
    (hmm : Machine.sub 0x8800000012000000000000000000000000000000000000000000000000000000010000000000000000180000000002000200 MM = true) (hag : Agree MM so s) :
    Agree MM so (@State.portRetrain s p) := by
  unfold State.portRetrain
  refine Agree.ite ?_ ?_
  · refine State.portTo_touch (sub_trans (by decide) hmm) ?_
    exact hag
  · refine Agree.ite ?_ ?_
    · refine State.portTo_touch (sub_trans (by decide) hmm) ?_
      exact hag
    · exact hag

theorem State.portIdle_touch {MM : Nat} {so : State} {s : Sys2Proof.Machine.State} {p : ℕ}
    (hmm : Machine.sub 0x8800000012000000000000000000000000000000000000000000000000000000010000000000000000180000000002000200 MM = true) (hag : Agree MM so s) :
    Agree MM so (@State.portIdle s p) := by
  unfold State.portIdle
  extract_lets +onlyGivenNames -merge -useContext -underBinder x1276
  try clear_value x1276
  refine Agree.ite ?_ ?_
  · refine State.portTo_touch (sub_trans (by decide) hmm) ?_
    exact hag
  · refine Agree.ite ?_ ?_
    · refine State.portTo_touch (sub_trans (by decide) hmm) ?_
      exact hag
    · exact hag

theorem State.takeSide_touch {MM : Nat} {so : State} {s : Sys2Proof.Machine.State} {p : ℕ} {f : Sys2Proof.Machine.Packet → Bool}
    (hmm : Machine.sub 0x2000000 MM = true) (hag : Agree MM so s) :
    ∀ a b t, (@State.takeSide s p f) = some (a, b, t) → Agree MM so t := by
  intro a b t e
  unfold State.takeSide at e
  extract_lets x at e
  split at e
  · cases e
  · cases e
    exact State.setPort_touch (sub_trans (by decide) hmm) hag

theorem State.ackReceived_touch {MM : Nat} {so : State} {s : Sys2Proof.Machine.State} {p : ℕ}
    (hmm : Machine.sub 0x8800000012000000000000000000000000000000000000000000000000000000010000000000000000180000000002000200 MM = true) (hag : Agree MM so s) :
    Agree MM so (@State.ackReceived s p) := by
  unfold State.ackReceived
  split
  · exact hag
  · rename_i heq
    have h1343 := State.takeSide_touch (MM := MM) (so := so) (sub_trans (by decide) hmm) (by
      exact hag
      ) _ _ _ heq
    extract_lets +onlyGivenNames -merge -useContext -underBinder x1344
    try clear_value x1344
    extract_lets +onlyGivenNames -merge -useContext -underBinder x1345
    try clear_value x1345
    extract_lets +onlyGivenNames -merge -useContext -underBinder x1346
    try clear_value x1346
    refine Agree.ite ?_ ?_
    · exact h1343
    · refine State.portIdle_touch (sub_trans (by decide) hmm) ?_
      refine State.setPort_touch (sub_trans (by decide) hmm) ?_
      exact h1343

theorem State.retryRound_touch {MM : Nat} {so : State} {s : Sys2Proof.Machine.State} {p : ℕ} {cursor : ℕ}
    (hmm : Machine.sub 0x8800000012000000000000000000000000000000000000000000000000000000010000000000000000180000000002000200 MM = true) (hag : Agree MM so s) :
    Agree MM so (@State.retryRound s p cursor) := by
  unfold State.retryRound
  extract_lets +onlyGivenNames -merge -useContext -underBinder x1347
  try clear_value x1347
  extract_lets +onlyGivenNames -merge -useContext -underBinder x1348
  have h1349 : Agree MM so x1348 := by
    subst x1348
    refine Agree.faddSat ?_ (sub_bit hmm (by decide)) _ _
    refine State.setPort_touch (sub_trans (by decide) hmm) ?_
    exact hag
  try clear_value x1348
  refine Agree.ite ?_ ?_
  · refine State.portTo_touch (sub_trans (by decide) hmm) ?_
    exact h1349
  · exact h1349

theorem State.ackTimeout_touch {MM : Nat} {so : State} {s : Sys2Proof.Machine.State} {p : ℕ}
    (hmm : Machine.sub 0x8800000012000000000000000000000000000000000000000000000000000000010000000000000000180000000002000200 MM = true) (hag : Agree MM so s) :
    Agree MM so (@State.ackTimeout s p) := by
  unfold State.ackTimeout
  refine Agree.ite ?_ ?_
  · refine State.retryRound_touch (sub_trans (by decide) hmm) ?_
    exact hag
  · exact hag

theorem State.assignLanes_touch {MM : Nat} {so : State} {s : Sys2Proof.Machine.State} {p : ℕ}
    (hmm : Machine.sub 0x4000000000000000000000000000000000000000000000000000000000000000000000000000000000000000000 MM = true) (hag : Agree MM so s) :
    Agree MM so (@State.assignLanes s p) := by
  unfold State.assignLanes
  extract_lets +onlyGivenNames -merge -useContext -underBinder x1660
  try clear_value x1660
  extract_lets +onlyGivenNames -merge -useContext -underBinder x1661
  try clear_value x1661
  extract_lets +onlyGivenNames -merge -useContext -underBinder x1662
  try clear_value x1662
  extract_lets +onlyGivenNames -merge -useContext -underBinder x1663
  try clear_value x1663
  extract_lets +onlyGivenNames -merge -useContext -underBinder x1664
  try clear_value x1664
  split
  · split
    · split
      · refine Agree.fset ?_ (sub_bit hmm (by decide)) _ _
        refine Agree.fset ?_ (sub_bit hmm (by decide)) _ _
        refine Agree.fset ?_ (sub_bit hmm (by decide)) _ _
        exact hag

theorem State.setMangle_touch {MM : Nat} {so : State} {s : Sys2Proof.Machine.State} {u : ℕ} {x : Sys2Proof.Machine.Mangle}
    (hmm : Machine.sub 0x2000000 MM = true) (hag : Agree MM so s) :
    Agree MM so (@State.setMangle s u x) := by
  unfold State.setMangle
  refine Agree.set_links ?_ (sub_bit hmm (by decide)) _
  exact hag

theorem State.mangleArm_touch {MM : Nat} {so : State} {s : Sys2Proof.Machine.State} {ch : ℕ}
    (hmm : Machine.sub 0x2000000 MM = true) (hag : Agree MM so s) :
    Agree MM so (@State.mangleArm s ch) := by
  unfold State.mangleArm
  refine Agree.ite ?_ ?_
  · exact hag
  · refine Agree.forEach ?_ (fun y1826 t1827 h1828 => ?_) _
    · exact hag
    · refine State.setMangle_touch (sub_trans (by decide) hmm) ?_
      exact h1828

theorem State.linksOff_touch {MM : Nat} {so : State} {s : Sys2Proof.Machine.State}
    (hmm : Machine.sub 0x8800000012000000000000000000000000000000000000000000000000000000010000000000000000180000000002000200 MM = true) (hag : Agree MM so s) :
    Agree MM so (@State.linksOff s) := by
  unfold State.linksOff
  refine Agree.forEach ?_ (fun y1867 t1868 h1869 => ?_) _
  · exact hag
  · refine Agree.ite ?_ ?_
    · refine State.portTo_touch (sub_trans (by decide) hmm) ?_
      exact h1869
    · exact h1869

theorem State.ctl_touch {MM : Nat} {so : State} {s : Sys2Proof.Machine.State} {p : ℕ} {typ : ℕ}
    (hmm : Machine.sub 0x2000000 MM = true) (hag : Agree MM so s) :
    Agree MM so (@State.ctl s p typ) := by
  unfold State.ctl
  extract_lets +onlyGivenNames -merge -useContext -underBinder x1956
  try clear_value x1956
  extract_lets +onlyGivenNames -merge -useContext -underBinder x1957
  try clear_value x1957
  refine State.setPort_touch (sub_trans (by decide) hmm) ?_
  exact hag

theorem State.consume_touch {MM : Nat} {so : State} {s : Sys2Proof.Machine.State} {p : ℕ} {pk : Sys2Proof.Machine.Packet}
    (hmm : Machine.sub 0x2000000 MM = true) (hag : Agree MM so s) :
    Agree MM so (@State.consume s p pk) := by
  unfold State.consume
  extract_lets +onlyGivenNames -merge -useContext -underBinder x1958
  try clear_value x1958
  refine State.ctl_touch (sub_trans (by decide) hmm) ?_
  refine State.setPort_touch (sub_trans (by decide) hmm) ?_
  exact hag

theorem State.creditReceived_touch {MM : Nat} {so : State} {s : Sys2Proof.Machine.State} {p : ℕ}
    (hmm : Machine.sub 0x40000000000000000000000000000000000000000000000000000000000000000000000000000000000002000000 MM = true) (hag : Agree MM so s) :
    Agree MM so (@State.creditReceived s p) := by
  unfold State.creditReceived
  split
  · exact hag
  · rename_i heq
    have h1978 := State.takeSide_touch (MM := MM) (so := so) (sub_trans (by decide) hmm) (by
      exact hag
      ) _ _ _ heq
    extract_lets +onlyGivenNames -merge -useContext -underBinder x1979
    try clear_value x1979
    extract_lets +onlyGivenNames -merge -useContext -underBinder x1980
    try clear_value x1980
    refine Agree.fset ?_ (sub_bit hmm (by decide)) _ _
    refine State.setPort_touch (sub_trans (by decide) hmm) ?_
    exact h1978

theorem State.respond_touch {MM : Nat} {so : State} {s : Sys2Proof.Machine.State} {p : ℕ} {q : Sys2Proof.Machine.Packet} {typ : ℕ} {sub : ℕ} {addr : ℕ} {aux : ℕ} {payload : List Sys2Proof.Byte}
    (hmm : Machine.sub 0x2000000 MM = true) (hag : Agree MM so s) :
    Agree MM so (@State.respond s p q typ sub addr aux payload) := by
  unfold State.respond
  extract_lets +onlyGivenNames -merge -useContext -underBinder x2016
  try clear_value x2016
  refine State.enqueue_touch (sub_trans (by decide) hmm) ?_
  exact hag

theorem State.transNak_touch {MM : Nat} {so : State} {s : Sys2Proof.Machine.State} {p : ℕ} {q : Sys2Proof.Machine.Packet} {reason : ℕ} {addr : ℕ} {idx : ℕ}
    (hmm : Machine.sub 0x80000000000000000000000000000000000000000000000000000000000000000000000000000000000002000000 MM = true) (hag : Agree MM so s) :
    Agree MM so (@State.transNak s p q reason addr idx) := by
  unfold State.transNak
  refine Agree.faddSat ?_ (sub_bit hmm (by decide)) _ _
  refine State.respond_touch (sub_trans (by decide) hmm) ?_
  exact hag

theorem State.forward_touch {MM : Nat} {so : State} {s : Sys2Proof.Machine.State} {p : ℕ} {pk : Sys2Proof.Machine.Packet} {stamp : Option ℕ}
    (hmm : Machine.sub 0x10000000020000000000000000000000000000000000000000000000000000000000000000000000000000000000002000000 MM = true) (hag : Agree MM so s) :
    Agree MM so (@State.forward s p pk stamp) := by
  unfold State.forward
  refine Agree.ite ?_ ?_
  · refine Agree.faddSat ?_ (sub_bit hmm (by decide)) _ _
    exact hag
  · refine Agree.ite ?_ ?_
    · refine Agree.faddSat ?_ (sub_bit hmm (by decide)) _ _
      exact hag
    · extract_lets +onlyGivenNames -merge -useContext -underBinder x2017
      try clear_value x2017
      extract_lets +onlyGivenNames -merge -useContext -underBinder x2018
      try clear_value x2018
      extract_lets +onlyGivenNames -merge -useContext -underBinder x2019
      try clear_value x2019
      extract_lets +onlyGivenNames -merge -useContext -underBinder x2020
      try clear_value x2020
      extract_lets +onlyGivenNames -merge -useContext -underBinder x2021
      try clear_value x2021
      refine Agree.faddSat ?_ (sub_bit hmm (by decide)) _ _
      refine State.enqueue_touch (sub_trans (by decide) hmm) ?_
      exact hag

theorem State.deliver_touch {MM : Nat} {so : State} {s : Sys2Proof.Machine.State} {p : ℕ} {pk : Sys2Proof.Machine.Packet}
    (hmm : Machine.sub 0x100000000a0000000000000000000000000000000000000000000000000000000000000000000000000000000000002000000 MM = true) (hag : Agree MM so s) :
    Agree MM so (@State.deliver s p pk) := by
  unfold State.deliver
  extract_lets +onlyGivenNames -merge -useContext -underBinder x2022
  have h2023 : Agree MM so x2022 := by
    subst x2022
    refine State.ctl_touch (sub_trans (by decide) hmm) ?_
    exact hag
  try clear_value x2022
  refine Agree.ite ?_ ?_
  · refine State.consume_touch (sub_trans (by decide) hmm) ?_
    refine State.transNak_touch (sub_trans (by decide) hmm) ?_
    exact h2023
  · refine Agree.ite ?_ ?_
    · refine State.consume_touch (sub_trans (by decide) hmm) ?_
      refine Agree.ite ?_ ?_
      · refine Agree.faddSat ?_ (sub_bit hmm (by decide)) _ _
        exact h2023
      · refine State.forward_touch (sub_trans (by decide) hmm) ?_
        exact h2023
    · refine Agree.ite ?_ ?_
      · refine State.setPort_touch (sub_trans (by decide) hmm) ?_
        exact h2023
      · refine Agree.ite ?_ ?_
        · refine State.consume_touch (sub_trans (by decide) hmm) ?_
          refine State.transNak_touch (sub_trans (by decide) hmm) ?_
          exact h2023
        · refine State.consume_touch (sub_trans (by decide) hmm) ?_
          exact h2023

theorem State.deliverRun_touch {MM : Nat} {so : State} {s : Sys2Proof.Machine.State} {p : ℕ} {u2 : ℕ}
    (hmm : Machine.sub 0x100000000a0000000000000000000000000000000000000000000000000000000000000000000000000000000000002000000 MM = true) (hag : Agree MM so s) :
    Agree MM so (@State.deliverRun s p u2) := by
  induction u2 generalizing s with
  | zero => exact hag
  | succ k ih =>
    rw [State.deliverRun]
    extract_lets x
    split
    · exact hag
    · exact ih (State.deliver_touch (sub_trans (by decide) hmm) (State.setPort_touch (sub_trans (by decide) hmm) hag))

theorem State.detectRetry_touch {MM : Nat} {so : State} {s : Sys2Proof.Machine.State} {p : ℕ} {answers : Bool}
    (hmm : Machine.sub 0x8800000012000000000000000000000000000000000000000000000000000000010000000000000000180000000002000200 MM = true) (hag : Agree MM so s) :
    Agree MM so (@State.detectRetry s p answers) := by
  unfold State.detectRetry
  refine Agree.ite ?_ ?_
  · refine State.portTo_touch (sub_trans (by decide) hmm) ?_
    exact hag
  · exact hag

theorem State.putLane_touch {MM : Nat} {so : State} {s : Sys2Proof.Machine.State} {p : ℕ} {lane : ℕ} {bs : List Sys2Proof.Byte}
    (hmm : Machine.sub 0x2000000 MM = true) (hag : Agree MM so s) :
    Agree MM so (@State.putLane s p lane bs) := by
  unfold State.putLane
  refine Agree.set_links ?_ (sub_bit hmm (by decide)) _
  exact hag

theorem State.mangled_touch {MM : Nat} {so : State} {s : Sys2Proof.Machine.State} {u : ℕ}
    (hmm : Machine.sub 0x10000000000000000000000000000000000000000000000000000000000010000000000000000100000000000000200 MM = true) (hag : Agree MM so s) :
    Agree MM so (@State.mangled s u) := by
  unfold State.mangled
  refine State.irq_touch (sub_trans (by decide) hmm) ?_
  refine Agree.faddSat ?_ (sub_bit hmm (by decide)) _ _
  exact hag

theorem State.emit_touch {MM : Nat} {so : State} {s : Sys2Proof.Machine.State} {u : ℕ} {typ : ℕ} {lane : ℕ} {bs : List Sys2Proof.Byte}
    (hmm : Machine.sub 0x11000000000000000000000000000000000000000000000000000000000010000000000000000100000000002000200 MM = true) (hag : Agree MM so s) :
    Agree MM so (@State.emit s u typ lane bs) := by
  unfold State.emit
  refine Agree.ite ?_ ?_
  · refine State.putLane_touch (sub_trans (by decide) hmm) ?_
    exact hag
  · extract_lets +onlyGivenNames -merge -useContext -underBinder x2338
    try clear_value x2338
    split
    · rename_i heq
      have h2339 := AgreeP.of_eq (M := MM) (s0 := so) heq (by
        refine AgreeP.ite ?_ ?_
        · refine AgreeP.mk ?_
          refine State.setMangle_touch (sub_trans (by decide) hmm) ?_
          exact hag
        · extract_lets +onlyGivenNames -merge -useContext -underBinder x2340
          try clear_value x2340
          refine AgreeP.mk ?_
          refine Agree.fset ?_ (sub_bit hmm (by decide)) _ _
          exact hag
        )
      extract_lets +onlyGivenNames -merge -useContext -underBinder x2341
      try clear_value x2341
      extract_lets +onlyGivenNames -merge -useContext -underBinder x2342
      try clear_value x2342
      extract_lets +onlyGivenNames -merge -useContext -underBinder x2343
      try clear_value x2343
      extract_lets +onlyGivenNames -merge -useContext -underBinder x2344
      have h2345 : Agree MM so x2344 := by
        subst x2344
        refine Agree.set_links ?_ (sub_bit hmm (by decide)) _
        exact h2339
      try clear_value x2344
      extract_lets +onlyGivenNames -merge -useContext -underBinder x2346
      try clear_value x2346
      extract_lets +onlyGivenNames -merge -useContext -underBinder x2347
      try clear_value x2347
      extract_lets +onlyGivenNames -merge -useContext -underBinder x2348
      have h2349 : Agree MM so x2348 := by
        subst x2348
        refine Agree.ite ?_ ?_
        · refine State.putLane_touch (sub_trans (by decide) hmm) ?_
          exact h2345
        · refine Agree.ite ?_ ?_
          · refine State.mangled_touch (sub_trans (by decide) hmm) ?_
            exact h2345
          · refine Agree.ite ?_ ?_
            · split
              · refine State.mangled_touch (sub_trans (by decide) hmm) ?_
                refine State.putLane_touch (sub_trans (by decide) hmm) ?_
                exact h2345
              · refine State.putLane_touch (sub_trans (by decide) hmm) ?_
                exact h2345
            · refine Agree.ite ?_ ?_
              · refine Agree.ite ?_ ?_
                · refine State.putLane_touch (sub_trans (by decide) hmm) ?_
                  exact h2345
                · refine State.mangled_touch (sub_trans (by decide) hmm) ?_
                  refine State.setMangle_touch (sub_trans (by decide) hmm) ?_
                  exact h2345
              · refine State.mangled_touch (sub_trans (by decide) hmm) ?_
                refine State.setMangle_touch (sub_trans (by decide) hmm) ?_
                exact h2345
      try clear_value x2348
      split
      · refine State.putLane_touch (sub_trans (by decide) hmm) ?_
        exact h2349
      · exact h2349

theorem State.linkNak_touch {MM : Nat} {so : State} {s : Sys2Proof.Machine.State} {p : ℕ}
    (hmm : Machine.sub 0x80000000000000000000000000000000000000000000000000000000000000000000000000000000000002000000 MM = true) (hag : Agree MM so s) :
    Agree MM so (@State.linkNak s p) := by
  unfold State.linkNak
  refine Agree.faddSat ?_ (sub_bit hmm (by decide)) _ _
  refine State.ctl_touch (sub_trans (by decide) hmm) ?_
  exact hag

theorem State.gapTimeout_touch {MM : Nat} {so : State} {s : Sys2Proof.Machine.State} {p : ℕ}
    (hmm : Machine.sub 0x80000000000000000000000000000000000000000000000000000000000000000000000000000000000002000000 MM = true) (hag : Agree MM so s) :
    Agree MM so (@State.gapTimeout s p) := by
  unfold State.gapTimeout
  refine Agree.ite ?_ ?_
  · refine State.linkNak_touch (sub_trans (by decide) hmm) ?_
    exact hag
  · exact hag

theorem State.keepLanes_touch {MM : Nat} {so : State} {s : Sys2Proof.Machine.State} {p : ℕ} {trained : ℕ}
    (hmm : Machine.sub 0x4000000000000000000000000000000000000000000000000000000000000000000000000000000000000000000 MM = true) (hag : Agree MM so s) :
    Agree MM so (@State.keepLanes s p trained) := by
  unfold State.keepLanes
  extract_lets +onlyGivenNames -merge -useContext -underBinder x2661
  try clear_value x2661
  extract_lets +onlyGivenNames -merge -useContext -underBinder x2662
  try clear_value x2662
  extract_lets +onlyGivenNames -merge -useContext -underBinder x2663
  try clear_value x2663
  split
  · refine Agree.fset ?_ (sub_bit hmm (by decide)) _ _
    refine Agree.fset ?_ (sub_bit hmm (by decide)) _ _
    exact hag

theorem State.retireLane_touch {MM : Nat} {so : State} {s : Sys2Proof.Machine.State} {p : ℕ} {l : ℕ}
    (hmm : Machine.sub 0x63e00000000000000000000000000004000000000000000000000000000000000000000000000000000000010000000000000000180000000000080200 MM = true) (hag : Agree MM so s) :
    Agree MM so (@State.retireLane s p l) := by
  unfold State.retireLane
  refine Agree.ite ?_ ?_
  · exact hag
  · extract_lets +onlyGivenNames -merge -useContext -underBinder x2735
    have h2736 : Agree MM so x2735 := by
      subst x2735
      refine State.irq_touch (sub_trans (by decide) hmm) ?_
      refine Agree.fsetBit ?_ (sub_bit hmm (by decide)) _ _ _
      exact hag
    try clear_value x2735
    extract_lets +onlyGivenNames -merge -useContext -underBinder x2737
    have h2738 : Agree MM so x2737 := by
      subst x2737
      refine Agree.ite ?_ ?_
      · refine Agree.fsetBit ?_ (sub_bit hmm (by decide)) _ _ _
        exact h2736
      · exact h2736
    try clear_value x2737
    refine State.darnDone_touch (sub_trans (by decide) hmm) ?_
    exact h2738

theorem State.laneWindow_touch {MM : Nat} {so : State} {s : Sys2Proof.Machine.State} {p : ℕ}
    (hmm : Machine.sub 0x63e00000000000000000008800000016000000000000000000000000000000000000000000000000000000010000000000000000180000000002080200 MM = true) (hag : Agree MM so s) :
    Agree MM so (@State.laneWindow s p) := by
  unfold State.laneWindow
  extract_lets +onlyGivenNames -merge -useContext -underBinder x2739
  try clear_value x2739
  extract_lets +onlyGivenNames -merge -useContext -underBinder x2740
  try clear_value x2740
  extract_lets +onlyGivenNames -merge -useContext -underBinder x2741
  have h2742 : Agree MM so x2741 := by
    subst x2741
    refine State.setPort_touch (sub_trans (by decide) hmm) ?_
    exact hag
  try clear_value x2741
  extract_lets +onlyGivenNames -merge -useContext -underBinder x2743
  have h2744 : Agree MM so x2743 := by
    subst x2743
    refine Agree.forEach ?_ (fun y2745 t2746 h2747 => ?_) _
    · exact h2742
    · refine State.retireLane_touch (sub_trans (by decide) hmm) ?_
      exact h2747
  try clear_value x2743
  refine Agree.ite ?_ ?_
  · exact h2744
  · refine State.portTo_touch (sub_trans (by decide) hmm) ?_
    exact h2744

theorem State.portActivity_touch {MM : Nat} {so : State} {s : Sys2Proof.Machine.State} {p : ℕ}
    (hmm : Machine.sub 0x8800000012000000000000000000000000000000000000000000000000000000010000000000000000180000000002000200 MM = true) (hag : Agree MM so s) :
    Agree MM so (@State.portActivity s p) := by
  unfold State.portActivity
  refine Agree.ite ?_ ?_
  · refine State.portTo_touch (sub_trans (by decide) hmm) ?_
    exact hag
  · exact hag

theorem State.linkLanes_touch {MM : Nat} {so : State} {s : Sys2Proof.Machine.State} {one : Bool}
    (hmm : Machine.sub 0x2000000000000000000000000000000000000000000000000000000000000000000000000000000000000000000 MM = true) (hag : Agree MM so s) :
    Agree MM so (@State.linkLanes s one) := by
  unfold State.linkLanes
  refine Agree.ite ?_ ?_
  · exact hag
  · refine Agree.forEach ?_ (fun y2793 t2794 h2795 => ?_) _
    · exact hag
    · refine Agree.fset ?_ (sub_bit hmm (by decide)) _ _
      exact h2795

theorem State.linkTrained_touch {MM : Nat} {so : State} {s : Sys2Proof.Machine.State} {p : ℕ} {trained : ℕ} {gen : ℕ} {farBad : ℕ} {farFresh : Bool} {farExpects : ℕ} {farFree : ℕ}
    (hmm : Machine.sub 0x63e000000000000000000088000000560000000000000000000000000000000000000000000000000000000100000000000000001800000000020a0200 MM = true) (hag : Agree MM so s) :
    Agree MM so (@State.linkTrained s p trained gen farBad farFresh farExpects farFree) := by
  unfold State.linkTrained
  refine Agree.ite ?_ ?_
  · exact hag
  · extract_lets +onlyGivenNames -merge -useContext -underBinder x2796
    have h2797 : Agree MM so x2796 := by
      subst x2796
      refine State.assignLanes_touch (sub_trans (by decide) hmm) ?_
      refine Agree.forEach ?_ (fun y2801 t2802 h2803 => ?_) _
      · exact hag
      · refine State.retireLane_touch (sub_trans (by decide) hmm) ?_
        exact h2803
    try clear_value x2796
    extract_lets +onlyGivenNames -merge -useContext -underBinder x2804
    try clear_value x2804
    extract_lets +onlyGivenNames -merge -useContext -underBinder x2805
    have h2806 : Agree MM so x2805 := by
      subst x2805
      refine Agree.ite ?_ ?_
      · refine Agree.forEach ?_ (fun y2807 t2808 h2809 => ?_) _
        · exact h2797
        · refine State.retireLane_touch (sub_trans (by decide) hmm) ?_
          exact h2809
      · exact h2797
    try clear_value x2805
    extract_lets +onlyGivenNames -merge -useContext -underBinder x2810
    try clear_value x2810
    refine Agree.ite ?_ ?_
    · refine State.portTo_touch (sub_trans (by decide) hmm) ?_
      exact h2806
    · extract_lets +onlyGivenNames -merge -useContext -underBinder x2811
      have h2812 : Agree MM so x2811 := by
        subst x2811
        refine State.keepLanes_touch (sub_trans (by decide) hmm) ?_
        exact h2806
      try clear_value x2811
      extract_lets +onlyGivenNames -merge -useContext -underBinder x2813
      try clear_value x2813
      extract_lets +onlyGivenNames -merge -useContext -underBinder x2814
      have h2815 : Agree MM so x2814 := by
        subst x2814
        refine Agree.ite ?_ ?_
        · refine State.startAfresh_touch (sub_trans (by decide) hmm) ?_
          exact h2812
        · refine State.setPort_touch (sub_trans (by decide) hmm) ?_
          exact h2812
      try clear_value x2814
      extract_lets +onlyGivenNames -merge -useContext -underBinder x2816
      try clear_value x2816
      extract_lets +onlyGivenNames -merge -useContext -underBinder x2817
      have h2818 : Agree MM so x2817 := by
        subst x2817
        refine State.setPort_touch (sub_trans (by decide) hmm) ?_
        exact h2815
      try clear_value x2817
      extract_lets +onlyGivenNames -merge -useContext -underBinder x2819
      have h2820 : Agree MM so x2819 := by
        subst x2819
        refine Agree.fset ?_ (sub_bit hmm (by decide)) _ _
        exact h2818
      try clear_value x2819
      extract_lets +onlyGivenNames -merge -useContext -underBinder x2821
      try clear_value x2821
      extract_lets +onlyGivenNames -merge -useContext -underBinder x2822
      have h2823 : Agree MM so x2822 := by
        subst x2822
        refine Agree.set_beacon ?_ (sub_bit hmm (by decide)) _
        exact h2820
      try clear_value x2822
      extract_lets +onlyGivenNames -merge -useContext -underBinder x2824
      have h2825 : Agree MM so x2824 := by
        subst x2824
        refine State.portTo_touch (sub_trans (by decide) hmm) ?_
        exact h2823
      try clear_value x2824
      extract_lets +onlyGivenNames -merge -useContext -underBinder x2826
      try clear_value x2826
      extract_lets +onlyGivenNames -merge -useContext -underBinder x2827
      have h2828 : Agree MM so x2827 := by
        subst x2827
        refine Agree.fset ?_ (sub_bit hmm (by decide)) _ _
        exact h2825
      try clear_value x2827
      refine State.portIdle_touch (sub_trans (by decide) hmm) ?_
      refine Agree.fset ?_ (sub_bit hmm (by decide)) _ _
      exact h2828

theorem State.mangleExpire_touch {MM : Nat} {so : State} {s : Sys2Proof.Machine.State} {u : ℕ}
    (hmm : Machine.sub 0x2000000 MM = true) (hag : Agree MM so s) :
    Agree MM so (@State.mangleExpire s u) := by
  unfold State.mangleExpire
  extract_lets +onlyGivenNames -merge -useContext -underBinder x2829
  try clear_value x2829
  extract_lets +onlyGivenNames -merge -useContext -underBinder x2830
  have h2831 : Agree MM so x2830 := by
    subst x2830
    refine Agree.set_links ?_ (sub_bit hmm (by decide)) _
    exact hag
  try clear_value x2830
  extract_lets +onlyGivenNames -merge -useContext -underBinder x2832
  try clear_value x2832
  split
  · refine State.putLane_touch (sub_trans (by decide) hmm) ?_
    refine State.setMangle_touch (sub_trans (by decide) hmm) ?_
    exact h2831
  · refine State.putLane_touch (sub_trans (by decide) hmm) ?_
    refine State.setMangle_touch (sub_trans (by decide) hmm) ?_
    exact h2831
  · exact h2831

theorem State.nakReceived_touch {MM : Nat} {so : State} {s : Sys2Proof.Machine.State} {p : ℕ}
    (hmm : Machine.sub 0x8800000012000000000000000000000000000000000000000000000000000000010000000000000000180000000002000200 MM = true) (hag : Agree MM so s) :
    Agree MM so (@State.nakReceived s p) := by
  unfold State.nakReceived
  split
  · exact hag
  · rename_i heq
    have h2981 := State.takeSide_touch (MM := MM) (so := so) (sub_trans (by decide) hmm) (by
      exact hag
      ) _ _ _ heq
    extract_lets +onlyGivenNames -merge -useContext -underBinder x2982
    try clear_value x2982
    split
    · exact h2981
    · extract_lets +onlyGivenNames -merge -useContext -underBinder x2983
      try clear_value x2983
      refine Agree.ite ?_ ?_
      · exact h2981
      · refine State.retryRound_touch (sub_trans (by decide) hmm) ?_
        exact h2981

theorem State.nextPush_touch {MM : Nat} {so : State} {s : Sys2Proof.Machine.State} {p : ℕ}
    (hmm : Machine.sub 0x43e0000000000000000000000000020000000000000000000000000000000000000000000000000000000001000000000000001c180000000000880208 MM = true) (hag : Agree MM so s) :
    ∀ a t, (@State.nextPush s p) = some (a, t) → Agree MM so t := by
  intro a t e
  unfold State.nextPush at e
  split at e
  · cases e
  · split at e
    · cases e
    · extract_lets n x at e
      clear_value x
      have h1 : AgreeP MM so (s.sramOwnRead (blockSource 0x58) x n) := State.sramOwnRead_touch (sub_trans (by decide) hmm) hag
      generalize s.sramOwnRead (blockSource 0x58) x n = q at h1 e
      obtain ⟨u, bs⟩ := q
      simp only [Option.some.injEq, Prod.mk.injEq] at e
      rw [← e.2]
      refine Agree.fset ?_ (sub_bit hmm (by decide)) _ _
      exact Agree.set_wel h1 (sub_bit hmm (by decide)) _

theorem State.receiveSide_touch {MM : Nat} {so : State} {s : Sys2Proof.Machine.State} {p : ℕ} {pk : Sys2Proof.Machine.Packet} {stamp : ℕ}
    (hmm : Machine.sub 0x10000000020000000000000000000000000000000000000000000000000000000000000000000000000000000000002000000 MM = true) (hag : Agree MM so s) :
    Agree MM so (@State.receiveSide s p pk stamp) := by
  unfold State.receiveSide
  extract_lets +onlyGivenNames -merge -useContext -underBinder x2991
  try clear_value x2991
  extract_lets +onlyGivenNames -merge -useContext -underBinder x2992
  have h2993 : Agree MM so x2992 := by
    subst x2992
    refine Agree.ite ?_ ?_
    · refine State.forward_touch (sub_trans (by decide) hmm) ?_
      exact hag
    · exact hag
  try clear_value x2992
  refine Agree.ite ?_ ?_
  · exact h2993
  · refine Agree.ite ?_ ?_
    · refine Agree.ite ?_ ?_
      · refine Agree.faddSat ?_ (sub_bit hmm (by decide)) _ _
        exact h2993
      · refine State.forward_touch (sub_trans (by decide) hmm) ?_
        exact h2993
    · refine Agree.ite ?_ ?_
      · exact h2993
      · refine State.setPort_touch (sub_trans (by decide) hmm) ?_
        exact h2993

theorem State.receiveSeq_touch {MM : Nat} {so : State} {s : Sys2Proof.Machine.State} {p : ℕ} {pk : Sys2Proof.Machine.Packet}
    (hmm : Machine.sub 0x100000000a0000000000000000000000000000000000000000000000000000000000000000000000000000000000002000000 MM = true) (hag : Agree MM so s) :
    Agree MM so (@State.receiveSeq s p pk) := by
  unfold State.receiveSeq
  extract_lets +onlyGivenNames -merge -useContext -underBinder x2994
  try clear_value x2994
  extract_lets +onlyGivenNames -merge -useContext -underBinder x2995
  try clear_value x2995
  refine Agree.ite ?_ ?_
  · refine State.deliverRun_touch (sub_trans (by decide) hmm) ?_
    refine State.deliver_touch (sub_trans (by decide) hmm) ?_
    refine State.setPort_touch (sub_trans (by decide) hmm) ?_
    exact hag
  · refine Agree.ite ?_ ?_
    · exact hag
    · refine Agree.ite ?_ ?_
      · refine State.linkNak_touch (sub_trans (by decide) hmm) ?_
        exact hag
      · extract_lets +onlyGivenNames -merge -useContext -underBinder x2996
        have h2997 : Agree MM so x2996 := by
          subst x2996
          refine State.setPort_touch (sub_trans (by decide) hmm) ?_
          exact hag
        try clear_value x2996
        refine Agree.ite ?_ ?_
        · refine State.linkNak_touch (sub_trans (by decide) hmm) ?_
          exact h2997
        · exact h2997

theorem State.packetReceive_touch {MM : Nat} {so : State} {s : Sys2Proof.Machine.State} {p : ℕ} {lane : ℕ} {bs : List Sys2Proof.Byte} {framed : Bool} {ofs : ℕ}
    (hmm : Machine.sub 0x100000000a8000000000000000000000000000000000000000000000000000000000000000000000000000000000002000000 MM = true) (hag : Agree MM so s) :
    Agree MM so (@State.packetReceive s p lane bs framed ofs) := by
  unfold State.packetReceive
  refine Agree.ite ?_ ?_
  · exact hag
  · split
    · extract_lets +onlyGivenNames -merge -useContext -underBinder x2998
      have h2999 : Agree MM so x2998 := by
        subst x2998
        refine Agree.faddSat ?_ (sub_bit hmm (by decide)) _ _
        exact hag
      try clear_value x2998
      refine Agree.ite ?_ ?_
      · extract_lets +onlyGivenNames -merge -useContext -underBinder x3000
        try clear_value x3000
        refine Agree.faddSat ?_ (sub_bit hmm (by decide)) _ _
        refine State.setPort_touch (sub_trans (by decide) hmm) ?_
        exact h2999
      · exact h2999
    · refine Agree.ite ?_ ?_
      · refine State.receiveSide_touch (sub_trans (by decide) hmm) ?_
        exact hag
      · refine State.receiveSeq_touch (sub_trans (by decide) hmm) ?_
        exact hag

theorem State.stamped_touch {MM : Nat} {so : State} {s : Sys2Proof.Machine.State} {p : ℕ} {pk : Sys2Proof.Machine.Packet} {arrival : Option ℕ} {t : ℕ}
    (hmm : Machine.sub 0x20000 MM = true) (hag : Agree MM so s) :
    AgreeP MM so (@State.stamped s p pk arrival t) := by
  unfold State.stamped
  extract_lets +onlyGivenNames -merge -useContext -underBinder x3001
  try clear_value x3001
  extract_lets +onlyGivenNames -merge -useContext -underBinder x3002
  try clear_value x3002
  refine AgreeP.ite ?_ ?_
  · refine AgreeP.mk ?_
    exact hag
  · refine AgreeP.ite ?_ ?_
    · refine AgreeP.mk ?_
      exact hag
    · refine AgreeP.ite ?_ ?_
      · refine AgreeP.mk ?_
        exact hag
      · refine AgreeP.ite ?_ ?_
        · split
          · refine AgreeP.mk ?_
            exact hag
          · refine AgreeP.mk ?_
            exact hag
        · refine AgreeP.ite ?_ ?_
          · extract_lets +onlyGivenNames -merge -useContext -underBinder x3003
            try clear_value x3003
            refine AgreeP.mk ?_
            refine Agree.set_beacon ?_ (sub_bit hmm (by decide)) _
            exact hag
          · refine AgreeP.ite ?_ ?_
            · refine AgreeP.mk ?_
              exact hag
            · refine AgreeP.mk ?_
              exact hag

theorem State.sendSide_touch {MM : Nat} {so : State} {s : Sys2Proof.Machine.State} {p : ℕ} {y : Sys2Proof.Machine.Packet × Option ℕ} {ofs : ℕ}
    (hmm : Machine.sub 0x11000000000000000000000000000000000000000000000000000000000010000000000000000100000000002020200 MM = true) (hag : Agree MM so s) :
    Agree MM so (@State.sendSide s p y ofs) := by
  unfold State.sendSide
  extract_lets +onlyGivenNames -merge -useContext -underBinder x3004
  try clear_value x3004
  extract_lets +onlyGivenNames -merge -useContext -underBinder x3005
  have h3006 : Agree MM so x3005 := by
    subst x3005
    refine State.setPort_touch (sub_trans (by decide) hmm) ?_
    exact hag
  try clear_value x3005
  split
  · rename_i heq
    have h3007 := AgreeP.of_eq (M := MM) (s0 := so) heq (by
      refine State.stamped_touch (sub_trans (by decide) hmm) ?_
      exact h3006
      )
    refine State.emit_touch (sub_trans (by decide) hmm) ?_
    exact h3007

theorem State.spend_touch {MM : Nat} {so : State} {s : Sys2Proof.Machine.State} {p : ℕ} {k : ℕ}
    (hmm : Machine.sub 0x40000000000000000000000000000000000000000000000000000000000000000000000000000000000000000000 MM = true) (hag : Agree MM so s) :
    Agree MM so (@State.spend s p k) := by
  unfold State.spend
  refine Agree.fset ?_ (sub_bit hmm (by decide)) _ _
  exact hag

theorem State.sendNew_touch {MM : Nat} {so : State} {s : Sys2Proof.Machine.State} {p : ℕ} {lane : ℕ} {pk : Sys2Proof.Machine.Packet}
    (hmm : Machine.sub 0x11040000000000000000000000000000000000000000000000000000000010000000000000000100000000002000200 MM = true) (hag : Agree MM so s) :
    Agree MM so (@State.sendNew s p lane pk) := by
  unfold State.sendNew
  extract_lets +onlyGivenNames -merge -useContext -underBinder x3008
  try clear_value x3008
  extract_lets +onlyGivenNames -merge -useContext -underBinder x3009
  try clear_value x3009
  extract_lets +onlyGivenNames -merge -useContext -underBinder x3010
  try clear_value x3010
  extract_lets +onlyGivenNames -merge -useContext -underBinder x3011
  have h3012 : Agree MM so x3011 := by
    subst x3011
    refine State.setPort_touch (sub_trans (by decide) hmm) ?_
    exact hag
  try clear_value x3011
  refine State.emit_touch (sub_trans (by decide) hmm) ?_
  refine State.spend_touch (sub_trans (by decide) hmm) ?_
  exact h3012

theorem State.packetSend_touch {MM : Nat} {so : State} {s : Sys2Proof.Machine.State} {p : ℕ} {second : Bool} {ofs : ℕ}
    (hmm : Machine.sub 0x43e0000000000000000000000001124000000000000000000000000000000000000000000000000000000001000000000000001c1800000000028a0208 MM = true) (hag : Agree MM so s) :
    Agree MM so (@State.packetSend s p second ofs) := by
  unfold State.packetSend
  extract_lets +onlyGivenNames -merge -useContext -underBinder x3013
  try clear_value x3013
  extract_lets +onlyGivenNames -merge -useContext -underBinder x3014
  have h3015 : Agree MM so x3014 := by
    subst x3014
    refine Agree.set_links ?_ (sub_bit hmm (by decide)) _
    exact hag
  try clear_value x3014
  refine Agree.ite ?_ ?_
  · exact h3015
  · extract_lets +onlyGivenNames -merge -useContext -underBinder x3016
    try clear_value x3016
    extract_lets +onlyGivenNames -merge -useContext -underBinder x3017
    try clear_value x3017
    extract_lets +onlyGivenNames -merge -useContext -underBinder x3018
    try clear_value x3018
    split
    · extract_lets +onlyGivenNames -merge -useContext -underBinder x3019
      try clear_value x3019
      refine Agree.ite ?_ ?_
      · split
        · refine State.sendSide_touch (sub_trans (by decide) hmm) ?_
          exact h3015
        · exact h3015
      · extract_lets +onlyGivenNames -merge -useContext -underBinder x3020
        have h3021 : Agree MM so x3020 := by
          subst x3020
          refine State.setPort_touch (sub_trans (by decide) hmm) ?_
          exact h3015
        try clear_value x3020
        refine State.emit_touch (sub_trans (by decide) hmm) ?_
        refine Agree.ite ?_ ?_
        · exact h3021
        · refine State.spend_touch (sub_trans (by decide) hmm) ?_
          exact h3021
    · split
      · refine Agree.ite ?_ ?_
        · refine State.sendSide_touch (sub_trans (by decide) hmm) ?_
          exact h3015
        · refine State.sendNew_touch (sub_trans (by decide) hmm) ?_
          refine State.setPort_touch (sub_trans (by decide) hmm) ?_
          exact h3015
      · refine Agree.ite ?_ ?_
        · exact h3015
        · split
          · exact h3015
          · rename_i heq
            have h3022 := State.nextPush_touch (MM := MM) (so := so) (sub_trans (by decide) hmm) (by
              exact h3015
              ) _ _ heq
            refine Agree.ite ?_ ?_
            · exact h3015
            · refine State.sendNew_touch (sub_trans (by decide) hmm) ?_
              exact h3022

theorem State.periodic_touch {MM : Nat} {so : State} {s : Sys2Proof.Machine.State} {p : ℕ} {typ : ℕ}
    (hmm : Machine.sub 0x2000000 MM = true) (hag : Agree MM so s) :
    Agree MM so (@State.periodic s p typ) := by
  unfold State.periodic
  refine Agree.ite ?_ ?_
  · refine State.ctl_touch (sub_trans (by decide) hmm) ?_
    exact hag
  · exact hag

theorem State.takeInbox_touch {MM : Nat} {so : State} {s : Sys2Proof.Machine.State} {p : ℕ} {f : Sys2Proof.Machine.Packet → Bool}
    (hmm : Machine.sub 0x2000000 MM = true) (hag : Agree MM so s) :
    ∀ a t, (@State.takeInbox s p f) = some (a, t) → Agree MM so t := by
  intro a t e
  unfold State.takeInbox at e
  extract_lets x at e
  split at e
  · split at e
    · cases e
      exact State.consume_touch (sub_trans (by decide) hmm) (State.setPort_touch (sub_trans (by decide) hmm) hag)
    · cases e
  · cases e

theorem State.trainTimeout_touch {MM : Nat} {so : State} {s : Sys2Proof.Machine.State} {p : ℕ}
    (hmm : Machine.sub 0x8800000012000000000000000000000000000000000000000000000000000000010000000000000000180000000002000200 MM = true) (hag : Agree MM so s) :
    Agree MM so (@State.trainTimeout s p) := by
  unfold State.trainTimeout
  refine Agree.ite ?_ ?_
  · refine State.portTo_touch (sub_trans (by decide) hmm) ?_
    exact hag
  · exact hag

end Sys2Proof.Machine
end

