-- ==== Sys2Proof/Laws/Touch/Pair.lean ====
section
/-!
SUPPORT. What the functions of Machine/Pair.lean can touch: one lemma per function, its mask after `sub`.
-/

namespace Sys2Proof.Machine

theorem State.diverge_touch {MM : Nat} {so : State} {s : Sys2Proof.Machine.State} {cause : ℕ} {idx : ℕ}
    (hmm : Machine.sub 0x1800000000000000000000000000000000000000000000000000000000000000010000000000000000100000000000000200 MM = true) (hag : Agree MM so s) :
    Agree MM so (@State.diverge s cause idx) := by
  unfold State.diverge
  refine Agree.ite ?_ ?_
  · exact hag
  · extract_lets +onlyGivenNames -merge -useContext -underBinder x13
    have h14 : Agree MM so x13 := by
      subst x13
      refine Agree.fset ?_ (sub_bit hmm (by decide)) _ _
      refine Agree.fset ?_ (sub_bit hmm (by decide)) _ _
      exact hag
    try clear_value x13
    refine State.irq_touch (sub_trans (by decide) hmm) ?_
    refine Agree.fsetB ?_ (sub_bit hmm (by decide)) _ _
    exact h14

theorem State.outcomeCmp_touch {MM : Nat} {so : State} {s : Sys2Proof.Machine.State} {a : ℕ × ℕ × ℕ} {b : ℕ × ℕ × ℕ}
    (hmm : Machine.sub 0x1800000000000000000000000000000000000000000000000000000000000000010000000000000000100000000000000200 MM = true) (hag : Agree MM so s) :
    Agree MM so (@State.outcomeCmp s a b) := by
  unfold State.outcomeCmp
  refine Agree.ite ?_ ?_
  · exact hag
  · refine State.diverge_touch (sub_trans (by decide) hmm) ?_
    exact hag

theorem State.ownOutcome_touch {MM : Nat} {so : State} {s : Sys2Proof.Machine.State} {slot : ℕ} {result : ℕ} {reason : ℕ} {seam : ℕ}
    (hmm : Machine.sub 0x1800000000000000000000000000000000000000000000000000000000000000010000000000000000100000000002000200 MM = true) (hag : Agree MM so s) :
    Agree MM so (@State.ownOutcome s slot result reason seam) := by
  unfold State.ownOutcome
  refine Agree.ite ?_ ?_
  · exact hag
  · extract_lets +onlyGivenNames -merge -useContext -underBinder x15
    have h16 : Agree MM so x15 := by
      subst x15
      refine Agree.ite ?_ ?_
      · refine State.toTwin_touch (sub_trans (by decide) hmm) ?_
        exact hag
      · exact hag
    try clear_value x15
    extract_lets +onlyGivenNames -merge -useContext -underBinder x17
    try clear_value x17
    split
    · refine State.outcomeCmp_touch (sub_trans (by decide) hmm) ?_
      refine State.setPair_touch (sub_trans (by decide) hmm) ?_
      exact h16
    · refine State.setPair_touch (sub_trans (by decide) hmm) ?_
      exact h16

theorem State.timeRebase_touch {MM : Nat} {so : State} {s : Sys2Proof.Machine.State}
    (hmm : Machine.sub 0x20000 MM = true) (hag : Agree MM so s) :
    Agree MM so (@State.timeRebase s) := by
  unfold State.timeRebase
  refine Agree.set_beacon ?_ (sub_bit hmm (by decide)) _
  exact hag

theorem State.timeFollow_touch {MM : Nat} {so : State} {s : Sys2Proof.Machine.State}
    (hmm : Machine.sub 0x20000 MM = true) (hag : Agree MM so s) :
    Agree MM so (@State.timeFollow s) := by
  unfold State.timeFollow
  extract_lets +onlyGivenNames -merge -useContext -underBinder x50
  try clear_value x50
  refine Agree.ite ?_ ?_
  · exact hag
  · extract_lets +onlyGivenNames -merge -useContext -underBinder x51
    have h52 : Agree MM so x51 := by
      subst x51
      refine State.timeRebase_touch (sub_trans (by decide) hmm) ?_
      exact hag
    try clear_value x51
    refine Agree.set_beacon ?_ (sub_bit hmm (by decide)) _
    exact h52

theorem State.ownBroken_touch {MM : Nat} {so : State} {s : Sys2Proof.Machine.State}
    (hmm : Machine.sub 0x8000000000000000000000000000000000000000000000000000000000000000000000000000000000000000000000000000 MM = true) (hag : Agree MM so s) :
    Agree MM so (@State.ownBroken s) := by
  unfold State.ownBroken
  refine Agree.forEach ?_ (fun y53 t54 h55 => ?_) _
  · exact hag
  · refine Agree.fsetBit ?_ (sub_bit hmm (by decide)) _ _ _
    exact h55

theorem State.lnkOn_touch {MM : Nat} {so : State} {s : Sys2Proof.Machine.State} {load : Bool}
    (hmm : Machine.sub 0x8800000016000000000000000000000000000000000000000000000000000000010000000000000000180000000002020200 MM = true) (hag : Agree MM so s) :
    Agree MM so (@State.lnkOn s load) := by
  unfold State.lnkOn
  extract_lets +onlyGivenNames -merge -useContext -underBinder x88
  have h89 : Agree MM so x88 := by
    subst x88
    refine Agree.ite ?_ ?_
    · refine Agree.forEach ?_ (fun y90 t91 h92 => ?_) _
      · exact hag
      · refine Agree.fset ?_ (sub_bit hmm (by decide)) _ _
        exact h92
    · exact hag
  try clear_value x88
  extract_lets +onlyGivenNames -merge -useContext -underBinder x93
  have h94 : Agree MM so x93 := by
    subst x93
    refine State.timeFollow_touch (sub_trans (by decide) hmm) ?_
    refine Agree.ite ?_ ?_
    · refine State.ownBroken_touch (sub_trans (by decide) hmm) ?_
      exact h89
    · exact h89
  try clear_value x93
  refine Agree.forEach ?_ (fun y95 t96 h97 => ?_) _
  · exact h94
  · refine State.portRefresh_touch (sub_trans (by decide) hmm) ?_
    exact h97

theorem State.timeValid_touch {MM : Nat} {so : State} {s : Sys2Proof.Machine.State}
    (hmm : Machine.sub 0x400000000000000000000000000000000000000000000000000000000000010000000000000000100000000000000200 MM = true) (hag : Agree MM so s) :
    Agree MM so (@State.timeValid s) := by
  unfold State.timeValid
  refine Agree.ite ?_ ?_
  · exact hag
  · refine State.irq_touch (sub_trans (by decide) hmm) ?_
    refine Agree.fsetB ?_ (sub_bit hmm (by decide)) _ _
    exact hag

theorem State.beaconSet_touch {MM : Nat} {so : State} {s : Sys2Proof.Machine.State}
    (hmm : Machine.sub 0x400000000000000000000000000000000000000000300000000000000000010000000000000000100000000000028200 MM = true) (hag : Agree MM so s) :
    Agree MM so (@State.beaconSet s) := by
  unfold State.beaconSet
  extract_lets +onlyGivenNames -merge -useContext -underBinder x1292
  try clear_value x1292
  extract_lets +onlyGivenNames -merge -useContext -underBinder x1293
  try clear_value x1293
  extract_lets +onlyGivenNames -merge -useContext -underBinder x1294
  have h1295 : Agree MM so x1294 := by
    subst x1294
    refine Agree.set_beacon ?_ (sub_bit hmm (by decide)) _
    exact hag
  try clear_value x1294
  refine State.alignUpdate_touch (sub_trans (by decide) hmm) ?_
  refine State.timeValid_touch (sub_trans (by decide) hmm) ?_
  exact h1295

theorem State.timeInvalid_touch {MM : Nat} {so : State} {s : Sys2Proof.Machine.State}
    (hmm : Machine.sub 0x400000000000000000000000000000000000000000000000000000000000000000000000000000000000000000000000 MM = true) (hag : Agree MM so s) :
    Agree MM so (@State.timeInvalid s) := by
  unfold State.timeInvalid
  refine Agree.fsetB ?_ (sub_bit hmm (by decide)) _ _
  exact hag

theorem State.pairHandover_touch {MM : Nat} {so : State} {s : Sys2Proof.Machine.State}
    (hmm : Machine.sub 0x2000000 MM = true) (hag : Agree MM so s) :
    Agree MM so (@State.pairHandover s) := by
  unfold State.pairHandover
  extract_lets +onlyGivenNames -merge -useContext -underBinder x1296
  have h1297 : Agree MM so x1296 := by
    subst x1296
    refine State.toTwin_touch (sub_trans (by decide) hmm) ?_
    exact hag
  try clear_value x1296
  refine State.setPair_touch (sub_trans (by decide) hmm) ?_
  exact h1297

theorem State.periodWritten_touch {MM : Nat} {so : State} {s : Sys2Proof.Machine.State}
    (hmm : Machine.sub 0x20000 MM = true) (hag : Agree MM so s) :
    Agree MM so (@State.periodWritten s) := by
  unfold State.periodWritten
  refine Agree.set_beacon ?_ (sub_bit hmm (by decide)) _
  exact hag

theorem State.outcomesOver_touch {MM : Nat} {so : State} {s : Sys2Proof.Machine.State} {n : ℕ}
    (hmm : Machine.sub 0x2000000 MM = true) (hag : Agree MM so s) :
    Agree MM so (@State.outcomesOver s n) := by
  unfold State.outcomesOver
  extract_lets +onlyGivenNames -merge -useContext -underBinder x1643
  try clear_value x1643
  refine State.setPair_touch (sub_trans (by decide) hmm) ?_
  exact hag

theorem State.beaconElect_touch {MM : Nat} {so : State} {s : Sys2Proof.Machine.State}
    (hmm : Machine.sub 0x440000000000000000000000000000000000000000300000000000000000010000000000000000100000000000028200 MM = true) (hag : Agree MM so s) :
    Agree MM so (@State.beaconElect s) := by
  unfold State.beaconElect
  refine Agree.ite ?_ ?_
  · exact hag
  · extract_lets +onlyGivenNames -merge -useContext -underBinder x1736
    have h1737 : Agree MM so x1736 := by
      subst x1736
      refine State.irq_touch (sub_trans (by decide) hmm) ?_
      refine Agree.fset ?_ (sub_bit hmm (by decide)) _ _
      refine Agree.fsetB ?_ (sub_bit hmm (by decide)) _ _
      exact hag
    try clear_value x1736
    extract_lets +onlyGivenNames -merge -useContext -underBinder x1738
    try clear_value x1738
    extract_lets +onlyGivenNames -merge -useContext -underBinder x1739
    have h1740 : Agree MM so x1739 := by
      subst x1739
      refine State.timeInvalid_touch (sub_trans (by decide) hmm) ?_
      exact h1737
    try clear_value x1739
    extract_lets +onlyGivenNames -merge -useContext -underBinder x1741
    try clear_value x1741
    extract_lets +onlyGivenNames -merge -useContext -underBinder x1742
    have h1743 : Agree MM so x1742 := by
      subst x1742
      refine Agree.set_beacon ?_ (sub_bit hmm (by decide)) _
      exact h1740
    try clear_value x1742
    extract_lets +onlyGivenNames -merge -useContext -underBinder x1744
    have h1745 : Agree MM so x1744 := by
      subst x1744
      refine State.timeValid_touch (sub_trans (by decide) hmm) ?_
      exact h1743
    try clear_value x1744
    refine Agree.ite ?_ ?_
    · refine State.alignUpdate_touch (sub_trans (by decide) hmm) ?_
      exact h1745
    · exact h1745

theorem State.beaconSeam_touch {MM : Nat} {so : State} {s : Sys2Proof.Machine.State} {n : ℕ}
    (hmm : Machine.sub 0x20000 MM = true) (hag : Agree MM so s) :
    Agree MM so (@State.beaconSeam s n) := by
  unfold State.beaconSeam
  refine Agree.ite ?_ ?_
  · exact hag
  · extract_lets +onlyGivenNames -merge -useContext -underBinder x1746
    try clear_value x1746
    refine Agree.set_beacon ?_ (sub_bit hmm (by decide)) _
    exact hag

theorem State.bindTimeout_touch {MM : Nat} {so : State} {s : Sys2Proof.Machine.State}
    (hmm : Machine.sub 0x800000000000000000000000000000000000000000000000000000000000000010000000000000000100000000002000200 MM = true) (hag : Agree MM so s) :
    Agree MM so (@State.bindTimeout s) := by
  unfold State.bindTimeout
  refine Agree.ite ?_ ?_
  · refine State.pairEval_touch (sub_trans (by decide) hmm) ?_
    refine State.setPair_touch (sub_trans (by decide) hmm) ?_
    exact hag
  · exact hag

theorem State.checkpointCmp_touch {MM : Nat} {so : State} {s : Sys2Proof.Machine.State} {a : Sys2Proof.Machine.Checkpoint} {b : Sys2Proof.Machine.Checkpoint}
    (hmm : Machine.sub 0x1800000000000000000000000000000000000000000000000000000000000000010000000000000000100000000000000200 MM = true) (hag : Agree MM so s) :
    Agree MM so (@State.checkpointCmp s a b) := by
  unfold State.checkpointCmp
  extract_lets +onlyGivenNames -merge -useContext -underBinder x1851
  try clear_value x1851
  extract_lets +onlyGivenNames -merge -useContext -underBinder x1852
  try clear_value x1852
  refine Agree.ite ?_ ?_
  · refine State.diverge_touch (sub_trans (by decide) hmm) ?_
    exact hag
  · exact hag

theorem State.notCompared_touch {MM : Nat} {so : State} {s : Sys2Proof.Machine.State} {k : ℕ}
    (hmm : Machine.sub 0x2000000000000000000000000000000000000000000000000000000000000000000000000000000000000000000000000000 MM = true) (hag : Agree MM so s) :
    Agree MM so (@State.notCompared s k) := by
  unfold State.notCompared
  refine Agree.faddSat ?_ (sub_bit hmm (by decide)) _ _
  exact hag

theorem State.twinCheckpoint_touch {MM : Nat} {so : State} {s : Sys2Proof.Machine.State} {y : Sys2Proof.Machine.Checkpoint}
    (hmm : Machine.sub 0x3800000000000000000000000000000000000000000000000000000000000000010000000000000000100000000002000200 MM = true) (hag : Agree MM so s) :
    Agree MM so (@State.twinCheckpoint s y) := by
  unfold State.twinCheckpoint
  extract_lets +onlyGivenNames -merge -useContext -underBinder x1853
  try clear_value x1853
  split
  · refine State.checkpointCmp_touch (sub_trans (by decide) hmm) ?_
    exact hag
  · refine Agree.ite ?_ ?_
    · refine State.notCompared_touch (sub_trans (by decide) hmm) ?_
      exact hag
    · extract_lets +onlyGivenNames -merge -useContext -underBinder x1854
      try clear_value x1854
      extract_lets +onlyGivenNames -merge -useContext -underBinder x1855
      have h1856 : Agree MM so x1855 := by
        subst x1855
        refine State.setPair_touch (sub_trans (by decide) hmm) ?_
        exact hag
      try clear_value x1855
      refine Agree.ite ?_ ?_
      · refine State.notCompared_touch (sub_trans (by decide) hmm) ?_
        exact h1856
      · exact h1856

theorem State.checkpoint_touch {MM : Nat} {so : State} {s : Sys2Proof.Machine.State} {pk : Sys2Proof.Machine.Packet}
    (hmm : Machine.sub 0x3800000000000000000000000000000000000000000000000000000000000000010000000000000000100000000002000200 MM = true) (hag : Agree MM so s) :
    Agree MM so (@State.checkpoint s pk) := by
  unfold State.checkpoint
  refine Agree.forEach ?_ (fun y1857 t1858 h1859 => ?_) _
  · exact hag
  · extract_lets +onlyGivenNames -merge -useContext -underBinder x1860
    try clear_value x1860
    refine State.twinCheckpoint_touch (sub_trans (by decide) hmm) ?_
    exact h1859

theorem State.digestCmp_touch {MM : Nat} {so : State} {s : Sys2Proof.Machine.State} {a : ℕ × ℕ × ℕ × Bool} {b : ℕ × ℕ × ℕ × Bool}
    (hmm : Machine.sub 0x3800000000000000000000000000000000000000000000000000000000000000010000000000000000100000000000000200 MM = true) (hag : Agree MM so s) :
    Agree MM so (@State.digestCmp s a b) := by
  unfold State.digestCmp
  refine Agree.ite ?_ ?_
  · refine State.notCompared_touch (sub_trans (by decide) hmm) ?_
    exact hag
  · extract_lets +onlyGivenNames -merge -useContext -underBinder x2024
    have h2025 : Agree MM so x2024 := by
      subst x2024
      refine Agree.faddSat ?_ (sub_bit hmm (by decide)) _ _
      exact hag
    try clear_value x2024
    refine Agree.ite ?_ ?_
    · exact h2025
    · refine State.diverge_touch (sub_trans (by decide) hmm) ?_
      exact h2025

theorem State.twinDigest_touch {MM : Nat} {so : State} {s : Sys2Proof.Machine.State} {y : ℕ × ℕ × ℕ × Bool}
    (hmm : Machine.sub 0x3800000000000000000000000000000000000000000000000000000000000000010000000000000000100000000002000200 MM = true) (hag : Agree MM so s) :
    Agree MM so (@State.twinDigest s y) := by
  unfold State.twinDigest
  extract_lets +onlyGivenNames -merge -useContext -underBinder x2026
  try clear_value x2026
  split
  · refine State.digestCmp_touch (sub_trans (by decide) hmm) ?_
    refine State.setPair_touch (sub_trans (by decide) hmm) ?_
    exact hag
  · extract_lets +onlyGivenNames -merge -useContext -underBinder x2027
    try clear_value x2027
    refine State.notCompared_touch (sub_trans (by decide) hmm) ?_
    refine State.setPair_touch (sub_trans (by decide) hmm) ?_
    exact hag

theorem State.digest_touch {MM : Nat} {so : State} {s : Sys2Proof.Machine.State} {pk : Sys2Proof.Machine.Packet}
    (hmm : Machine.sub 0x3800000000000000000000000000000000000000000000000000000000000000010000000000000000100000000002000200 MM = true) (hag : Agree MM so s) :
    Agree MM so (@State.digest s pk) := by
  unfold State.digest
  refine State.twinDigest_touch (sub_trans (by decide) hmm) ?_
  exact hag

theorem State.dreqReceived_touch {MM : Nat} {so : State} {s : Sys2Proof.Machine.State} {p : ℕ}
    (hmm : Machine.sub 0x2000000 MM = true) (hag : Agree MM so s) :
    Agree MM so (@State.dreqReceived s p) := by
  unfold State.dreqReceived
  split
  · exact hag
  · rename_i heq
    have h2063 := State.takeSide_touch (MM := MM) (so := so) (sub_trans (by decide) hmm) (by
      exact hag
      ) _ _ _ heq
    refine Agree.ite ?_ ?_
    · exact h2063
    · refine State.enqueue_touch (sub_trans (by decide) hmm) ?_
      exact h2063

theorem State.setBeaconPort_touch {MM : Nat} {so : State} {s : Sys2Proof.Machine.State} {p : ℕ} {x : Sys2Proof.Machine.BeaconPort}
    (hmm : Machine.sub 0x20000 MM = true) (hag : Agree MM so s) :
    Agree MM so (@State.setBeaconPort s p x) := by
  unfold State.setBeaconPort
  refine Agree.set_beacon ?_ (sub_bit hmm (by decide)) _
  exact hag

theorem State.drespReceived_touch {MM : Nat} {so : State} {s : Sys2Proof.Machine.State} {p : ℕ}
    (hmm : Machine.sub 0x80000000000000000000000000000000000000000000000000000000000000000000000000000000000000000002020000 MM = true) (hag : Agree MM so s) :
    Agree MM so (@State.drespReceived s p) := by
  unfold State.drespReceived
  split
  · exact hag
  · rename_i heq
    have h2064 := State.takeSide_touch (MM := MM) (so := so) (sub_trans (by decide) hmm) (by
      exact hag
      ) _ _ _ heq
    extract_lets +onlyGivenNames -merge -useContext -underBinder x2065
    try clear_value x2065
    extract_lets +onlyGivenNames -merge -useContext -underBinder x2066
    try clear_value x2066
    refine Agree.ite ?_ ?_
    · exact h2064
    · extract_lets +onlyGivenNames -merge -useContext -underBinder x2067
      try clear_value x2067
      extract_lets +onlyGivenNames -merge -useContext -underBinder x2068
      try clear_value x2068
      extract_lets +onlyGivenNames -merge -useContext -underBinder x2069
      try clear_value x2069
      extract_lets +onlyGivenNames -merge -useContext -underBinder x2070
      try clear_value x2070
      refine Agree.fset ?_ (sub_bit hmm (by decide)) _ _
      refine State.setBeaconPort_touch (sub_trans (by decide) hmm) ?_
      exact h2064

theorem State.drespTimeout_touch {MM : Nat} {so : State} {s : Sys2Proof.Machine.State} {p : ℕ}
    (hmm : Machine.sub 0x20000 MM = true) (hag : Agree MM so s) :
    Agree MM so (@State.drespTimeout s p) := by
  unfold State.drespTimeout
  refine Agree.ite ?_ ?_
  · refine State.setBeaconPort_touch (sub_trans (by decide) hmm) ?_
    exact hag
  · exact hag

theorem State.ownCheckpoint_touch {MM : Nat} {so : State} {s : Sys2Proof.Machine.State} {x : Sys2Proof.Machine.Checkpoint}
    (hmm : Machine.sub 0x3800000000000000000000000000000000000000000000000000000000000000010000000000000000100000000002000200 MM = true) (hag : Agree MM so s) :
    Agree MM so (@State.ownCheckpoint s x) := by
  unfold State.ownCheckpoint
  extract_lets +onlyGivenNames -merge -useContext -underBinder x2305
  try clear_value x2305
  extract_lets +onlyGivenNames -merge -useContext -underBinder x2306
  have h2307 : Agree MM so x2306 := by
    subst x2306
    refine State.setPair_touch (sub_trans (by decide) hmm) ?_
    exact hag
  try clear_value x2306
  extract_lets +onlyGivenNames -merge -useContext -underBinder x2308
  try clear_value x2308
  extract_lets +onlyGivenNames -merge -useContext -underBinder x2309
  have h2310 : Agree MM so x2309 := by
    subst x2309
    refine State.notCompared_touch (sub_trans (by decide) hmm) ?_
    exact h2307
  try clear_value x2309
  split
  · refine State.checkpointCmp_touch (sub_trans (by decide) hmm) ?_
    exact h2310
  · exact h2310

theorem State.sendCheckpoints_touch {MM : Nat} {so : State} {s : Sys2Proof.Machine.State} {states : List ℕ}
    (hmm : Machine.sub 0x3800000000000000000000000000000000000000000000000000000000000000010000000000000000100000000002000200 MM = true) (hag : Agree MM so s) :
    Agree MM so (@State.sendCheckpoints s states) := by
  unfold State.sendCheckpoints
  extract_lets +onlyGivenNames -merge -useContext -underBinder x2311
  try clear_value x2311
  refine Agree.ite ?_ ?_
  · exact hag
  · extract_lets +onlyGivenNames -merge -useContext -underBinder x2312
    try clear_value x2312
    extract_lets +onlyGivenNames -merge -useContext -underBinder x2313
    try clear_value x2313
    extract_lets +onlyGivenNames -merge -useContext -underBinder x2314
    have h2315 : Agree MM so x2314 := by
      subst x2314
      refine Agree.ite ?_ ?_
      · refine State.toTwin_touch (sub_trans (by decide) hmm) ?_
        exact hag
      · exact hag
    try clear_value x2314
    refine Agree.forEach ?_ (fun y2316 t2317 h2318 => ?_) _
    · exact h2315
    · refine State.ownCheckpoint_touch (sub_trans (by decide) hmm) ?_
      exact h2318

theorem State.handover_touch {MM : Nat} {so : State} {s : Sys2Proof.Machine.State}
    (hmm : Machine.sub 0x800000000000000000000000000000000000000000000000000000000000000010000000000000000100000000002000200 MM = true) (hag : Agree MM so s) :
    Agree MM so (@State.handover s) := by
  unfold State.handover
  refine Agree.ite ?_ ?_
  · refine State.pairTo_touch (sub_trans (by decide) hmm) ?_
    exact hag
  · exact hag

theorem State.heartbeat_touch {MM : Nat} {so : State} {s : Sys2Proof.Machine.State} {pk : Sys2Proof.Machine.Packet}
    (hmm : Machine.sub 0x800000000000000000000000000000000000000000000000000000000000000010000000000000000100000000002000200 MM = true) (hag : Agree MM so s) :
    Agree MM so (@State.heartbeat s pk) := by
  unfold State.heartbeat
  extract_lets +onlyGivenNames -merge -useContext -underBinder x2486
  try clear_value x2486
  extract_lets +onlyGivenNames -merge -useContext -underBinder x2487
  try clear_value x2487
  extract_lets +onlyGivenNames -merge -useContext -underBinder x2488
  have h2489 : Agree MM so x2488 := by
    subst x2488
    refine State.setPair_touch (sub_trans (by decide) hmm) ?_
    exact hag
  try clear_value x2488
  extract_lets +onlyGivenNames -merge -useContext -underBinder x2490
  have h2491 : Agree MM so x2490 := by
    subst x2490
    refine Agree.fsetB ?_ (sub_bit hmm (by decide)) _ _
    exact h2489
  try clear_value x2490
  extract_lets +onlyGivenNames -merge -useContext -underBinder x2492
  have h2493 : Agree MM so x2492 := by
    subst x2492
    refine Agree.ite ?_ ?_
    · refine State.pairTo_touch (sub_trans (by decide) hmm) ?_
      exact h2491
    · exact h2491
  try clear_value x2492
  refine State.pairEval_touch (sub_trans (by decide) hmm) ?_
  exact h2493

theorem State.heartbeatLoss_touch {MM : Nat} {so : State} {s : Sys2Proof.Machine.State}
    (hmm : Machine.sub 0x800000000000000000000000000000000000000000000000000000000000000010000000000000000100000000002000200 MM = true) (hag : Agree MM so s) :
    Agree MM so (@State.heartbeatLoss s) := by
  unfold State.heartbeatLoss
  refine Agree.ite ?_ ?_
  · exact hag
  · refine State.pairEval_touch (sub_trans (by decide) hmm) ?_
    refine Agree.fsetB ?_ (sub_bit hmm (by decide)) _ _
    refine State.setPair_touch (sub_trans (by decide) hmm) ?_
    exact hag

theorem State.heartbeatSend_touch {MM : Nat} {so : State} {s : Sys2Proof.Machine.State}
    (hmm : Machine.sub 0x2000000 MM = true) (hag : Agree MM so s) :
    Agree MM so (@State.heartbeatSend s) := by
  unfold State.heartbeatSend
  refine State.toTwin_touch (sub_trans (by decide) hmm) ?_
  exact hag

theorem State.hello_touch {MM : Nat} {so : State} {s : Sys2Proof.Machine.State} {pk : Sys2Proof.Machine.Packet}
    (hmm : Machine.sub 0x800000000000000000000000000000000000000000000000000000000000000010000000000000000100000000002000200 MM = true) (hag : Agree MM so s) :
    Agree MM so (@State.hello s pk) := by
  unfold State.hello
  extract_lets +onlyGivenNames -merge -useContext -underBinder x2497
  try clear_value x2497
  extract_lets +onlyGivenNames -merge -useContext -underBinder x2498
  try clear_value x2498
  extract_lets +onlyGivenNames -merge -useContext -underBinder x2499
  have h2500 : Agree MM so x2499 := by
    subst x2499
    refine State.setPair_touch (sub_trans (by decide) hmm) ?_
    exact hag
  try clear_value x2499
  extract_lets +onlyGivenNames -merge -useContext -underBinder x2501
  have h2502 : Agree MM so x2501 := by
    subst x2501
    refine State.pairEval_touch (sub_trans (by decide) hmm) ?_
    refine Agree.ite ?_ ?_
    · refine State.pairTo_touch (sub_trans (by decide) hmm) ?_
      exact h2500
    · exact h2500
  try clear_value x2501
  extract_lets +onlyGivenNames -merge -useContext -underBinder x2503
  try clear_value x2503
  refine Agree.ite ?_ ?_
  · refine State.sendHello_touch (sub_trans (by decide) hmm) ?_
    exact h2502
  · exact h2502

theorem State.twinOutcome_touch {MM : Nat} {so : State} {s : Sys2Proof.Machine.State} {y : ℕ × ℕ × ℕ}
    (hmm : Machine.sub 0x1800000000000000000000000000000000000000000000000000000000000000010000000000000000100000000002000200 MM = true) (hag : Agree MM so s) :
    Agree MM so (@State.twinOutcome s y) := by
  unfold State.twinOutcome
  extract_lets +onlyGivenNames -merge -useContext -underBinder x2988
  try clear_value x2988
  split
  · refine State.outcomeCmp_touch (sub_trans (by decide) hmm) ?_
    refine State.setPair_touch (sub_trans (by decide) hmm) ?_
    exact hag
  · refine State.setPair_touch (sub_trans (by decide) hmm) ?_
    exact hag

theorem State.outcome_touch {MM : Nat} {so : State} {s : Sys2Proof.Machine.State} {pk : Sys2Proof.Machine.Packet}
    (hmm : Machine.sub 0x1800000000000000000000000000000000000000000000000000000000000000010000000000000000100000000002000200 MM = true) (hag : Agree MM so s) :
    Agree MM so (@State.outcome s pk) := by
  unfold State.outcome
  refine State.twinOutcome_touch (sub_trans (by decide) hmm) ?_
  exact hag

theorem State.ownDigest_touch {MM : Nat} {so : State} {s : Sys2Proof.Machine.State} {x : ℕ × ℕ × ℕ × Bool}
    (hmm : Machine.sub 0x3800000000000000000000000000000000000000000000000000000000000000010000000000000000100000000002000200 MM = true) (hag : Agree MM so s) :
    Agree MM so (@State.ownDigest s x) := by
  unfold State.ownDigest
  extract_lets +onlyGivenNames -merge -useContext -underBinder x2989
  try clear_value x2989
  split
  · refine State.digestCmp_touch (sub_trans (by decide) hmm) ?_
    refine State.setPair_touch (sub_trans (by decide) hmm) ?_
    exact hag
  · extract_lets +onlyGivenNames -merge -useContext -underBinder x2990
    try clear_value x2990
    refine State.notCompared_touch (sub_trans (by decide) hmm) ?_
    refine State.setPair_touch (sub_trans (by decide) hmm) ?_
    exact hag

theorem State.sendDigests_touch {MM : Nat} {so : State} {s : Sys2Proof.Machine.State}
    (hmm : Machine.sub 0x3800000000000000000000000000000000000000000000000000000000000000010000000000000000100000000002800200 MM = true) (hag : Agree MM so s) :
    Agree MM so (@State.sendDigests s) := by
  unfold State.sendDigests
  extract_lets +onlyGivenNames -merge -useContext -underBinder x3201
  try clear_value x3201
  extract_lets +onlyGivenNames -merge -useContext -underBinder x3202
  try clear_value x3202
  extract_lets +onlyGivenNames -merge -useContext -underBinder x3203
  have h3204 : Agree MM so x3203 := by
    subst x3203
    refine Agree.set_wel ?_ (sub_bit hmm (by decide)) _
    exact hag
  try clear_value x3203
  refine Agree.ite ?_ ?_
  · exact h3204
  · refine Agree.forEach ?_ (fun y3205 t3206 h3207 => ?_) _
    · exact h3204
    · split
      · extract_lets +onlyGivenNames -merge -useContext -underBinder x3208
        have h3209 : Agree MM so x3208 := by
          subst x3208
          refine Agree.ite ?_ ?_
          · refine State.toTwin_touch (sub_trans (by decide) hmm) ?_
            exact h3207
          · exact h3207
        try clear_value x3208
        refine State.ownDigest_touch (sub_trans (by decide) hmm) ?_
        exact h3209

theorem State.syncApply_touch {MM : Nat} {so : State} {s : Sys2Proof.Machine.State} {p : ℕ} {pk : Sys2Proof.Machine.Packet} {ta : ℤ}
    (hmm : Machine.sub 0x66480000000000000000000000000000000000000000300000000000000000010000000000000000100000000000028200 MM = true) (hag : Agree MM so s) :
    Agree MM so (@State.syncApply s p pk ta) := by
  unfold State.syncApply
  refine Agree.ite ?_ ?_
  · exact hag
  · refine Agree.ite ?_ ?_
    · refine State.irq_touch (sub_trans (by decide) hmm) ?_
      refine Agree.fsetB ?_ (sub_bit hmm (by decide)) _ _
      exact hag
    · extract_lets +onlyGivenNames -merge -useContext -underBinder x3235
      try clear_value x3235
      extract_lets +onlyGivenNames -merge -useContext -underBinder x3236
      try clear_value x3236
      extract_lets +onlyGivenNames -merge -useContext -underBinder x3237
      try clear_value x3237
      extract_lets +onlyGivenNames -merge -useContext -underBinder x3238
      try clear_value x3238
      extract_lets +onlyGivenNames -merge -useContext -underBinder x3239
      have h3240 : Agree MM so x3239 := by
        subst x3239
        refine State.timeRebase_touch (sub_trans (by decide) hmm) ?_
        exact hag
      try clear_value x3239
      extract_lets +onlyGivenNames -merge -useContext -underBinder x3241
      try clear_value x3241
      extract_lets +onlyGivenNames -merge -useContext -underBinder x3242
      try clear_value x3242
      extract_lets +onlyGivenNames -merge -useContext -underBinder x3243
      have h3244 : Agree MM so x3243 := by
        subst x3243
        refine Agree.set_beacon ?_ (sub_bit hmm (by decide)) _
        exact h3240
      try clear_value x3243
      extract_lets +onlyGivenNames -merge -useContext -underBinder x3245
      try clear_value x3245
      extract_lets +onlyGivenNames -merge -useContext -underBinder x3246
      try clear_value x3246
      extract_lets +onlyGivenNames -merge -useContext -underBinder x3247
      have h3248 : Agree MM so x3247 := by
        subst x3247
        refine Agree.fset ?_ (sub_bit hmm (by decide)) _ _
        exact h3240
      try clear_value x3247
      extract_lets +onlyGivenNames -merge -useContext -underBinder x3249
      try clear_value x3249
      extract_lets +onlyGivenNames -merge -useContext -underBinder x3250
      have h3251 : Agree MM so x3250 := by
        subst x3250
        refine Agree.ite ?_ ?_
        · refine State.irq_touch (sub_trans (by decide) hmm) ?_
          refine Agree.fsetB ?_ (sub_bit hmm (by decide)) _ _
          exact h3244
        · refine Agree.set_beacon ?_ (sub_bit hmm (by decide)) _
          exact h3248
      try clear_value x3250
      extract_lets +onlyGivenNames -merge -useContext -underBinder x3252
      have h3253 : Agree MM so x3252 := by
        subst x3252
        refine Agree.fset ?_ (sub_bit hmm (by decide)) _ _
        refine State.timeValid_touch (sub_trans (by decide) hmm) ?_
        exact h3251
      try clear_value x3252
      extract_lets +onlyGivenNames -merge -useContext -underBinder x3254
      have h3255 : Agree MM so x3254 := by
        subst x3254
        refine Agree.fset ?_ (sub_bit hmm (by decide)) _ _
        exact h3253
      try clear_value x3254
      extract_lets +onlyGivenNames -merge -useContext -underBinder x3256
      have h3257 : Agree MM so x3256 := by
        subst x3256
        refine Agree.fset ?_ (sub_bit hmm (by decide)) _ _
        refine Agree.fset ?_ (sub_bit hmm (by decide)) _ _
        exact h3255
      try clear_value x3256
      extract_lets +onlyGivenNames -merge -useContext -underBinder x3258
      have h3259 : Agree MM so x3258 := by
        subst x3258
        refine State.irq_touch (sub_trans (by decide) hmm) ?_
        refine Agree.set64 ?_ (sub_bit hmm (by decide)) (sub_bit hmm (by decide)) _ _
        exact h3257
      try clear_value x3258
      refine State.beaconSeam_touch (sub_trans (by decide) hmm) ?_
      refine State.alignUpdate_touch (sub_trans (by decide) hmm) ?_
      exact h3259

theorem State.syncReceived_touch {MM : Nat} {so : State} {s : Sys2Proof.Machine.State} {p : ℕ}
    (hmm : Machine.sub 0x664c0000000000000000000000000000000000000000300000000000000000010000000000000000100000000002028200 MM = true) (hag : Agree MM so s) :
    Agree MM so (@State.syncReceived s p) := by
  unfold State.syncReceived
  split
  · exact hag
  · rename_i heq
    have h3260 := State.takeSide_touch (MM := MM) (so := so) (sub_trans (by decide) hmm) (by
      exact hag
      ) _ _ _ heq
    extract_lets +onlyGivenNames -merge -useContext -underBinder x3261
    try clear_value x3261
    refine Agree.ite ?_ ?_
    · exact h3260
    · extract_lets +onlyGivenNames -merge -useContext -underBinder x3262
      have h3263 : Agree MM so x3262 := by
        subst x3262
        refine Agree.ite ?_ ?_
        · refine State.irq_touch (sub_trans (by decide) hmm) ?_
          refine State.timeInvalid_touch (sub_trans (by decide) hmm) ?_
          refine Agree.fsetB ?_ (sub_bit hmm (by decide)) _ _
          exact h3260
        · exact h3260
      try clear_value x3262
      refine Agree.ite ?_ ?_
      · exact h3263
      · extract_lets +onlyGivenNames -merge -useContext -underBinder x3264
        try clear_value x3264
        extract_lets +onlyGivenNames -merge -useContext -underBinder x3265
        try clear_value x3265
        extract_lets +onlyGivenNames -merge -useContext -underBinder x3266
        have h3267 : Agree MM so x3266 := by
          subst x3266
          refine State.setBeaconPort_touch (sub_trans (by decide) hmm) ?_
          exact h3263
        try clear_value x3266
        extract_lets +onlyGivenNames -merge -useContext -underBinder x3268
        try clear_value x3268
        extract_lets +onlyGivenNames -merge -useContext -underBinder x3269
        have h3270 : Agree MM so x3269 := by
          subst x3269
          refine Agree.ite ?_ ?_
          · refine State.enqueue_touch (sub_trans (by decide) hmm) ?_
            exact h3267
          · exact h3267
        try clear_value x3269
        refine State.syncApply_touch (sub_trans (by decide) hmm) ?_
        exact h3270

theorem State.syncSend_touch {MM : Nat} {so : State} {s : Sys2Proof.Machine.State}
    (hmm : Machine.sub 0x6000000000000000000000000000000000000000000000000000000000000000000000000000000000000000002020000 MM = true) (hag : Agree MM so s) :
    Agree MM so (@State.syncSend s) := by
  unfold State.syncSend
  refine Agree.ite ?_ ?_
  · exact hag
  · extract_lets +onlyGivenNames -merge -useContext -underBinder x3271
    try clear_value x3271
    extract_lets +onlyGivenNames -merge -useContext -underBinder x3272
    try clear_value x3272
    extract_lets +onlyGivenNames -merge -useContext -underBinder x3273
    have h3274 : Agree MM so x3273 := by
      subst x3273
      refine Agree.forEach ?_ (fun y3275 t3276 h3277 => ?_) _
      · exact hag
      · refine State.enqueue_touch (sub_trans (by decide) hmm) ?_
        exact h3277
    try clear_value x3273
    extract_lets +onlyGivenNames -merge -useContext -underBinder x3278
    try clear_value x3278
    extract_lets +onlyGivenNames -merge -useContext -underBinder x3279
    have h3280 : Agree MM so x3279 := by
      subst x3279
      refine Agree.set_beacon ?_ (sub_bit hmm (by decide)) _
      exact h3274
    try clear_value x3279
    refine State.beaconSeam_touch (sub_trans (by decide) hmm) ?_
    refine Agree.set64 ?_ (sub_bit hmm (by decide)) (sub_bit hmm (by decide)) _ _
    exact h3280

theorem State.tokenLive_touch {MM : Nat} {so : State} {s : Sys2Proof.Machine.State} {b : Bool}
    (hmm : Machine.sub 0x800000000000000000000000000000000000000000000000000000000000000010000000000000000100000000002000200 MM = true) (hag : Agree MM so s) :
    Agree MM so (@State.tokenLive s b) := by
  unfold State.tokenLive
  refine Agree.ite ?_ ?_
  · exact hag
  · refine State.pairEval_touch (sub_trans (by decide) hmm) ?_
    refine Agree.fsetB ?_ (sub_bit hmm (by decide)) _ _
    exact hag

theorem State.tokenPulse_touch {MM : Nat} {so : State} {s : Sys2Proof.Machine.State}
    (hmm : Machine.sub 0x2000000 MM = true) (hag : Agree MM so s) :
    Agree MM so (@State.tokenPulse s) := by
  unfold State.tokenPulse
  extract_lets +onlyGivenNames -merge -useContext -underBinder x3380
  try clear_value x3380
  refine Agree.ite ?_ ?_
  · refine State.setPair_touch (sub_trans (by decide) hmm) ?_
    exact hag
  · exact hag

theorem State.twinMessage_touch {MM : Nat} {so : State} {s : Sys2Proof.Machine.State} {p : ℕ} {f : Sys2Proof.Machine.Packet → Bool} {g : Sys2Proof.Machine.Packet → Sys2Proof.Machine.State → Sys2Proof.Machine.State}
    (hmm : Machine.sub 0x80000000000000000000000000000000000000000000000000000000000000000000000000000000000002000000 MM = true) (hf3 : ∀ v0 tt, Agree MM so tt → Agree MM so (g v0 tt)) (hag : Agree MM so s) :
    Agree MM so (@State.twinMessage s p f g) := by
  unfold State.twinMessage
  refine Agree.ite ?_ ?_
  · exact hag
  · split
    · exact hag
    · rename_i heq
      have h3401 := State.takeInbox_touch (MM := MM) (so := so) (sub_trans (by decide) hmm) (by
        exact hag
        ) _ _ heq
      refine Agree.ite ?_ ?_
      · refine Agree.ite ?_ ?_
        · refine hf3 _ _ ?_
          exact h3401
        · exact h3401
      · refine State.transNak_touch (sub_trans (by decide) hmm) ?_
        exact h3401

end Sys2Proof.Machine
end

