-- ==== Sys2Proof/Laws/Touch/Uart.lean ====
section
/-!
SUPPORT. What the functions of Machine/Uart.lean can touch: one lemma per function, its mask after `sub`.
-/

namespace Sys2Proof.Machine

theorem State.setUart_touch {MM : Nat} {so : State} {s : Sys2Proof.Machine.State} {n : ℕ} {u : Sys2Proof.Machine.Uart}
    (hmm : Machine.sub 0x4000000 MM = true) (hag : Agree MM so s) :
    Agree MM so (@State.setUart s n u) := by
  unfold State.setUart
  refine Agree.set_uarts ?_ (sub_bit hmm (by decide)) _
  exact hag

theorem State.rxHolds_touch {MM : Nat} {so : State} {s : Sys2Proof.Machine.State} {n : ℕ} {low : Bool} {xs : List Bool}
    (hmm : Machine.sub 0x200000000000000000000000000000000000000000000000000000000000000000000000000000000000000000000004000000 MM = true) (hag : Agree MM so s) :
    Agree MM so (@State.rxHolds s n low xs) := by
  unfold State.rxHolds
  refine Agree.fsetB ?_ (sub_bit hmm (by decide)) _ _
  refine State.setUart_touch (sub_trans (by decide) hmm) ?_
  exact hag

theorem State.rxMute_touch {MM : Nat} {so : State} {s : Sys2Proof.Machine.State} {n : ℕ}
    (hmm : Machine.sub 0x200000000000000000000000000000000000000000000000000000000000000000000000000000000000000000000004000000 MM = true) (hag : Agree MM so s) :
    Agree MM so (@State.rxMute s n) := by
  unfold State.rxMute
  refine Agree.ite ?_ ?_
  · refine State.rxHolds_touch (sub_trans (by decide) hmm) ?_
    exact hag
  · exact hag

theorem State.uartBusy_touch {MM : Nat} {so : State} {s : Sys2Proof.Machine.State} {n : ℕ}
    (hmm : Machine.sub 0x200000000000000000000000000000000000000000000000000000000000000000000000000000000000080000000004000000 MM = true) (hag : Agree MM so s) :
    Agree MM so (@State.uartBusy s n) := by
  unfold State.uartBusy
  extract_lets +onlyGivenNames -merge -useContext -underBinder x194
  try clear_value x194
  refine State.rxMute_touch (sub_trans (by decide) hmm) ?_
  refine State.setBusy_touch (sub_trans (by decide) hmm) ?_
  refine Agree.fsetB ?_ (sub_bit hmm (by decide)) _ _
  exact hag

theorem State.uartNext_touch {MM : Nat} {so : State} {s : Sys2Proof.Machine.State} {n : ℕ}
    (hmm : Machine.sub 0x43e0000000000000000020000000000000000000000000000000000000000000000000000000000000000001000000000000001c180000000004080208 MM = true) (hag : Agree MM so s) :
    Agree MM so (@State.uartNext s n) := by
  unfold State.uartNext
  extract_lets +onlyGivenNames -merge -useContext -underBinder x226
  try clear_value x226
  refine Agree.ite ?_ ?_
  · refine State.uartBusy_touch (sub_trans (by decide) hmm) ?_
    exact hag
  · refine Agree.ite ?_ ?_
    · refine State.uartBusy_touch (sub_trans (by decide) hmm) ?_
      refine State.setUart_touch (sub_trans (by decide) hmm) ?_
      exact hag
    · extract_lets +onlyGivenNames -merge -useContext -underBinder x227
      try clear_value x227
      refine Agree.ite ?_ ?_
      · refine State.uartBusy_touch (sub_trans (by decide) hmm) ?_
        refine State.setUart_touch (sub_trans (by decide) hmm) ?_
        exact hag
      · split
        · refine State.uartBusy_touch (sub_trans (by decide) hmm) ?_
          refine State.irq_touch (sub_trans (by decide) hmm) ?_
          refine State.setUart_touch (sub_trans (by decide) hmm) ?_
          exact hag
        · extract_lets +onlyGivenNames -merge -useContext -underBinder x228
          try clear_value x228
          split
          · rename_i heq
            have h229 := AgreeP.of_eq (M := MM) (s0 := so) heq (by
              refine State.sramOwnRead_touch (sub_trans (by decide) hmm) ?_
              exact hag
              )
            refine State.uartBusy_touch (sub_trans (by decide) hmm) ?_
            refine State.setUart_touch (sub_trans (by decide) hmm) ?_
            exact h229
        · refine State.uartBusy_touch (sub_trans (by decide) hmm) ?_
          refine State.setUart_touch (sub_trans (by decide) hmm) ?_
          exact hag

theorem State.uartTx_touch {MM : Nat} {so : State} {s : Sys2Proof.Machine.State} {n : ℕ} {c : ℕ}
    (hmm : Machine.sub 0x43e0000000000000000020000000000000000000000000000000000000000000000000000000000000000001000000000000001c180000000004080208 MM = true) (hag : Agree MM so s) :
    Agree MM so (@State.uartTx s n c) := by
  unfold State.uartTx
  extract_lets +onlyGivenNames -merge -useContext -underBinder x391
  try clear_value x391
  refine Agree.ite ?_ ?_
  · refine State.irq_touch (sub_trans (by decide) hmm) ?_
    refine Agree.fsetB ?_ (sub_bit hmm (by decide)) _ _
    exact hag
  · refine State.uartNext_touch (sub_trans (by decide) hmm) ?_
    refine State.setUart_touch (sub_trans (by decide) hmm) ?_
    exact hag

theorem State.uartsReset_touch {MM : Nat} {so : State} {s : Sys2Proof.Machine.State}
    (hmm : Machine.sub 0x4000000 MM = true) (hag : Agree MM so s) :
    Agree MM so (@State.uartsReset s) := by
  unfold State.uartsReset
  refine Agree.set_uarts ?_ (sub_bit hmm (by decide)) _
  exact hag

theorem State.uartClockFail_touch {MM : Nat} {so : State} {s : Sys2Proof.Machine.State}
    (hmm : Machine.sub 0x20200000000000000000000000000000000000000000000000000000000000000000010000000000000000180000000004000200 MM = true) (hag : Agree MM so s) :
    Agree MM so (@State.uartClockFail s) := by
  unfold State.uartClockFail
  refine Agree.forEach ?_ (fun y490 t491 h492 => ?_) _
  · exact hag
  · extract_lets +onlyGivenNames -merge -useContext -underBinder x493
    try clear_value x493
    extract_lets +onlyGivenNames -merge -useContext -underBinder x494
    have h495 : Agree MM so x494 := by
      subst x494
      refine State.rxHolds_touch (sub_trans (by decide) hmm) ?_
      refine State.setUart_touch (sub_trans (by decide) hmm) ?_
      exact h492
    try clear_value x494
    extract_lets +onlyGivenNames -merge -useContext -underBinder x496
    have h497 : Agree MM so x496 := by
      subst x496
      refine Agree.ite ?_ ?_
      · refine State.irq_touch (sub_trans (by decide) hmm) ?_
        refine Agree.fsetB ?_ (sub_bit hmm (by decide)) _ _
        refine Agree.fsetB ?_ (sub_bit hmm (by decide)) _ _
        exact h495
      · exact h495
    try clear_value x496
    refine State.uartBusy_touch (sub_trans (by decide) hmm) ?_
    exact h497

theorem State.openBlock_touch {MM : Nat} {so : State} {s : Sys2Proof.Machine.State} {n : ℕ}
    (hmm : Machine.sub 0x4000000 MM = true) (hag : Agree MM so s) :
    Agree MM so (@State.openBlock s n) := by
  unfold State.openBlock
  extract_lets +onlyGivenNames -merge -useContext -underBinder x928
  try clear_value x928
  refine Agree.ite ?_ ?_
  · exact hag
  · refine State.setUart_touch (sub_trans (by decide) hmm) ?_
    exact hag

theorem State.closeBlock_touch {MM : Nat} {so : State} {s : Sys2Proof.Machine.State} {n : ℕ} {flushed : Bool}
    (hmm : Machine.sub 0x800000000000000000000000000000000000000000000000000000000000000000001840000000000001c18000000000400020c MM = true) (hag : Agree MM so s) :
    Agree MM so (@State.closeBlock s n flushed) := by
  unfold State.closeBlock
  extract_lets +onlyGivenNames -merge -useContext -underBinder x929
  try clear_value x929
  extract_lets +onlyGivenNames -merge -useContext -underBinder x930
  try clear_value x930
  extract_lets +onlyGivenNames -merge -useContext -underBinder x931
  try clear_value x931
  extract_lets +onlyGivenNames -merge -useContext -underBinder x932
  have h933 : Agree MM so x932 := by
    subst x932
    refine State.sramOwnWrite_touch (sub_trans (by decide) hmm) ?_
    exact hag
  try clear_value x932
  extract_lets +onlyGivenNames -merge -useContext -underBinder x934
  have h935 : Agree MM so x934 := by
    subst x934
    refine State.setUart_touch (sub_trans (by decide) hmm) ?_
    exact h933
  try clear_value x934
  refine State.irq_touch (sub_trans (by decide) hmm) ?_
  refine Agree.fset ?_ (sub_bit hmm (by decide)) _ _
  exact h935

theorem State.drainChar_touch {MM : Nat} {so : State} {s : Sys2Proof.Machine.State} {n : ℕ}
    (hmm : Machine.sub 0x840000000000000000000000000000000000000000000000000000000000000000001840000000000001c18000000000400020c MM = true) (hag : Agree MM so s) :
    Agree MM so (@State.drainChar s n) := by
  unfold State.drainChar
  extract_lets +onlyGivenNames -merge -useContext -underBinder x936
  have h937 : Agree MM so x936 := by
    subst x936
    refine State.openBlock_touch (sub_trans (by decide) hmm) ?_
    exact hag
  try clear_value x936
  extract_lets +onlyGivenNames -merge -useContext -underBinder x938
  try clear_value x938
  refine Agree.ite ?_ ?_
  · exact h937
  · extract_lets +onlyGivenNames -merge -useContext -underBinder x939
    try clear_value x939
    extract_lets +onlyGivenNames -merge -useContext -underBinder x940
    try clear_value x940
    extract_lets +onlyGivenNames -merge -useContext -underBinder x941
    try clear_value x941
    extract_lets +onlyGivenNames -merge -useContext -underBinder x942
    have h943 : Agree MM so x942 := by
      subst x942
      refine State.sramOwnWrite_touch (sub_trans (by decide) hmm) ?_
      exact h937
    try clear_value x942
    extract_lets +onlyGivenNames -merge -useContext -underBinder x944
    have h945 : Agree MM so x944 := by
      subst x944
      refine Agree.fsetB ?_ (sub_bit hmm (by decide)) _ _
      exact h943
    try clear_value x944
    extract_lets +onlyGivenNames -merge -useContext -underBinder x946
    try clear_value x946
    extract_lets +onlyGivenNames -merge -useContext -underBinder x947
    have h948 : Agree MM so x947 := by
      subst x947
      refine State.setUart_touch (sub_trans (by decide) hmm) ?_
      exact h945
    try clear_value x947
    refine Agree.ite ?_ ?_
    · refine State.openBlock_touch (sub_trans (by decide) hmm) ?_
      refine State.closeBlock_touch (sub_trans (by decide) hmm) ?_
      exact h948
    · exact h948

theorem State.ringEnabled_touch {MM : Nat} {so : State} {s : Sys2Proof.Machine.State} {n : ℕ} {old : Bool}
    (hmm : Machine.sub 0x840000000000000000000000000000000000000000000000000000000000000000001840000000000001c18000000000400020c MM = true) (hag : Agree MM so s) :
    Agree MM so (@State.ringEnabled s n old) := by
  unfold State.ringEnabled
  extract_lets +onlyGivenNames -merge -useContext -underBinder x949
  try clear_value x949
  extract_lets +onlyGivenNames -merge -useContext -underBinder x950
  try clear_value x950
  refine Agree.ite ?_ ?_
  · refine State.drainChar_touch (sub_trans (by decide) hmm) ?_
    refine State.setUart_touch (sub_trans (by decide) hmm) ?_
    exact hag
  · refine Agree.ite ?_ ?_
    · refine State.setUart_touch (sub_trans (by decide) hmm) ?_
      exact hag
    · exact hag

theorem State.uartStart_touch {MM : Nat} {so : State} {s : Sys2Proof.Machine.State} {n : ℕ}
    (hmm : Machine.sub 0x43e0000000000000000020000000000000000000000000000000000000000000000000000000000000000001000000000000001c180000000004080208 MM = true) (hag : Agree MM so s) :
    Agree MM so (@State.uartStart s n) := by
  unfold State.uartStart
  extract_lets +onlyGivenNames -merge -useContext -underBinder x951
  try clear_value x951
  refine Agree.ite ?_ ?_
  · exact hag
  · refine State.uartNext_touch (sub_trans (by decide) hmm) ?_
    refine State.setUart_touch (sub_trans (by decide) hmm) ?_
    exact hag

theorem State.uartStore_touch {MM : Nat} {so : State} {s : Sys2Proof.Machine.State} {n : ℕ} {w : ℕ}
    (hmm : Machine.sub 0x860000000000000000000000000000000000000000000000000000000000000000001840000000000001c18000000000400020c MM = true) (hag : Agree MM so s) :
    Agree MM so (@State.uartStore s n w) := by
  unfold State.uartStore
  extract_lets +onlyGivenNames -merge -useContext -underBinder x1777
  have h1778 : Agree MM so x1777 := by
    subst x1777
    refine Agree.faddSat ?_ (sub_bit hmm (by decide)) _ _
    refine Agree.fsetB ?_ (sub_bit hmm (by decide)) _ _
    exact hag
  try clear_value x1777
  extract_lets +onlyGivenNames -merge -useContext -underBinder x1779
  try clear_value x1779
  extract_lets +onlyGivenNames -merge -useContext -underBinder x1780
  have h1781 : Agree MM so x1780 := by
    subst x1780
    refine Agree.ite ?_ ?_
    · refine State.irq_touch (sub_trans (by decide) hmm) ?_
      refine State.setUart_touch (sub_trans (by decide) hmm) ?_
      exact h1778
    · exact hag
  try clear_value x1780
  extract_lets +onlyGivenNames -merge -useContext -underBinder x1782
  have h1783 : Agree MM so x1782 := by
    subst x1782
    refine Agree.ite ?_ ?_
    · refine Agree.fsetB ?_ (sub_bit hmm (by decide)) _ _
      exact h1781
    · exact h1781
  try clear_value x1782
  extract_lets +onlyGivenNames -merge -useContext -underBinder x1784
  have h1785 : Agree MM so x1784 := by
    subst x1784
    refine Agree.ite ?_ ?_
    · refine Agree.fsetB ?_ (sub_bit hmm (by decide)) _ _
      exact h1783
    · exact h1783
  try clear_value x1784
  extract_lets +onlyGivenNames -merge -useContext -underBinder x1786
  have h1787 : Agree MM so x1786 := by
    subst x1786
    refine Agree.ite ?_ ?_
    · refine State.irq_touch (sub_trans (by decide) hmm) ?_
      exact h1785
    · exact h1785
  try clear_value x1786
  extract_lets +onlyGivenNames -merge -useContext -underBinder x1788
  have h1789 : Agree MM so x1788 := by
    subst x1788
    refine Agree.setReg ?_ (sub_bit hmm (by decide)) _ _
    exact h1787
  try clear_value x1788
  extract_lets +onlyGivenNames -merge -useContext -underBinder x1790
  have h1791 : Agree MM so x1790 := by
    subst x1790
    refine State.drainChar_touch (sub_trans (by decide) hmm) ?_
    exact h1789
  try clear_value x1790
  refine Agree.ite ?_ ?_
  · refine State.irq_touch (sub_trans (by decide) hmm) ?_
    exact h1791
  · exact h1791

theorem State.breakStore_touch {MM : Nat} {so : State} {s : Sys2Proof.Machine.State} {n : ℕ}
    (hmm : Machine.sub 0x860000000000000000000000000000000000000000000000000000000000000000001840000000000001c18000000000400020c MM = true) (hag : Agree MM so s) :
    Agree MM so (@State.breakStore s n) := by
  unfold State.breakStore
  extract_lets +onlyGivenNames -merge -useContext -underBinder x1792
  try clear_value x1792
  extract_lets +onlyGivenNames -merge -useContext -underBinder x1793
  have h1794 : Agree MM so x1793 := by
    subst x1793
    refine State.setUart_touch (sub_trans (by decide) hmm) ?_
    refine State.rxHolds_touch (sub_trans (by decide) hmm) ?_
    exact hag
  try clear_value x1793
  extract_lets +onlyGivenNames -merge -useContext -underBinder x1795
  have h1796 : Agree MM so x1795 := by
    subst x1795
    refine State.uartStore_touch (sub_trans (by decide) hmm) ?_
    exact h1794
  try clear_value x1795
  refine State.irq_touch (sub_trans (by decide) hmm) ?_
  refine Agree.fsetB ?_ (sub_bit hmm (by decide)) _ _
  exact h1796

theorem State.uartFirstLost_touch {MM : Nat} {so : State} {s : Sys2Proof.Machine.State}
    (hmm : Machine.sub 0x200000000000000000000000000000000000000000000000000000000000000000010000000000000000100000000000000200 MM = true) (hag : Agree MM so s) :
    Agree MM so (@State.uartFirstLost s) := by
  unfold State.uartFirstLost
  extract_lets +onlyGivenNames -merge -useContext -underBinder x2768
  try clear_value x2768
  extract_lets +onlyGivenNames -merge -useContext -underBinder x2769
  try clear_value x2769
  refine Agree.ite ?_ ?_
  · exact hag
  · refine Agree.forEach ?_ (fun y2770 t2771 h2772 => ?_) _
    · exact hag
    · refine State.irq_touch (sub_trans (by decide) hmm) ?_
      refine Agree.fsetB ?_ (sub_bit hmm (by decide)) _ _
      exact h2772

theorem State.rxNext_touch {MM : Nat} {so : State} {s : Sys2Proof.Machine.State} {n : ℕ} {low : Bool} {xs : List Bool}
    (hmm : Machine.sub 0x200000000000000000000000000000000000000000000000000000000000000000000000000000000000000000000004000000 MM = true) (hag : Agree MM so s) :
    Agree MM so (@State.rxNext s n low xs) := by
  unfold State.rxNext
  extract_lets +onlyGivenNames -merge -useContext -underBinder x3166
  try clear_value x3166
  extract_lets +onlyGivenNames -merge -useContext -underBinder x3167
  try clear_value x3167
  refine State.rxHolds_touch (sub_trans (by decide) hmm) ?_
  exact hag

theorem State.uartBreak_touch {MM : Nat} {so : State} {s : Sys2Proof.Machine.State} {n : ℕ}
    (hmm : Machine.sub 0x860000000000000000000000000000000000000000000000000000000000000000001840000000000001c18000000000400020c MM = true) (hag : Agree MM so s) :
    Agree MM so (@State.uartBreak s n) := by
  unfold State.uartBreak
  refine Agree.ite ?_ ?_
  · exact hag
  · refine State.breakStore_touch (sub_trans (by decide) hmm) ?_
    exact hag

theorem State.uartBreakEnd_touch {MM : Nat} {so : State} {s : Sys2Proof.Machine.State} {n : ℕ}
    (hmm : Machine.sub 0x200000000000000000000000000000000000000000000000000000000000000000000000000000000000000000000004000000 MM = true) (hag : Agree MM so s) :
    Agree MM so (@State.uartBreakEnd s n) := by
  unfold State.uartBreakEnd
  refine Agree.ite ?_ ?_
  · exact hag
  · refine Agree.fsetB ?_ (sub_bit hmm (by decide)) _ _
    refine State.setUart_touch (sub_trans (by decide) hmm) ?_
    exact hag

theorem State.uartTake_touch {MM : Nat} {so : State} {s : Sys2Proof.Machine.State} {n : ℕ} {d : ℕ} {par : Bool} {stop : Bool} {rearm : Bool}
    (hmm : Machine.sub 0x860000000000000000000000000000000000000000000000000000000000000000001840000000000001c18000000000400020c MM = true) (hag : Agree MM so s) :
    Agree MM so (@State.uartTake s n d par stop rearm) := by
  unfold State.uartTake
  extract_lets +onlyGivenNames -merge -useContext -underBinder x3402
  try clear_value x3402
  extract_lets +onlyGivenNames -merge -useContext -underBinder x3403
  try clear_value x3403
  extract_lets +onlyGivenNames -merge -useContext -underBinder x3404
  try clear_value x3404
  extract_lets +onlyGivenNames -merge -useContext -underBinder x3405
  try clear_value x3405
  extract_lets +onlyGivenNames -merge -useContext -underBinder x3406
  try clear_value x3406
  extract_lets +onlyGivenNames -merge -useContext -underBinder x3407
  have h3408 : Agree MM so x3407 := by
    subst x3407
    refine State.setUart_touch (sub_trans (by decide) hmm) ?_
    exact hag
  try clear_value x3407
  extract_lets +onlyGivenNames -merge -useContext -underBinder x3409
  have h3410 : Agree MM so x3409 := by
    subst x3409
    refine State.uartStore_touch (sub_trans (by decide) hmm) ?_
    exact h3408
  try clear_value x3409
  refine Agree.ite ?_ ?_
  · refine State.irq_touch (sub_trans (by decide) hmm) ?_
    refine Agree.fsetB ?_ (sub_bit hmm (by decide)) _ _
    exact h3410
  · exact h3410

theorem State.uartCharacter_touch {MM : Nat} {so : State} {s : Sys2Proof.Machine.State} {n : ℕ} {samples : List Bool}
    (hmm : Machine.sub 0x860000000000000000000000000000000000000000000000000000000000000000001840000000000001c18000000000400020c MM = true) (hag : Agree MM so s) :
    Agree MM so (@State.uartCharacter s n samples) := by
  unfold State.uartCharacter
  refine Agree.ite ?_ ?_
  · exact hag
  · split
    · split
      · refine State.breakStore_touch (sub_trans (by decide) hmm) ?_
        exact hag
      · refine State.rxNext_touch (sub_trans (by decide) hmm) ?_
        exact hag
      · refine State.rxHolds_touch (sub_trans (by decide) hmm) ?_
        exact hag
      · refine State.rxNext_touch (sub_trans (by decide) hmm) ?_
        refine State.uartTake_touch (sub_trans (by decide) hmm) ?_
        exact hag

theorem State.uartIdle_touch {MM : Nat} {so : State} {s : Sys2Proof.Machine.State} {n : ℕ}
    (hmm : Machine.sub 0x820000000000000000000000000000000000000000000000000000000000000000001840000000000001c18000000000400020c MM = true) (hag : Agree MM so s) :
    Agree MM so (@State.uartIdle s n) := by
  unfold State.uartIdle
  refine Agree.ite ?_ ?_
  · exact hag
  · refine Agree.ite ?_ ?_
    · refine Agree.fsetB ?_ (sub_bit hmm (by decide)) _ _
      exact hag
    · refine Agree.ite ?_ ?_
      · refine State.openBlock_touch (sub_trans (by decide) hmm) ?_
        refine State.closeBlock_touch (sub_trans (by decide) hmm) ?_
        exact hag
      · exact hag

theorem State.uartNoise_touch {MM : Nat} {so : State} {s : Sys2Proof.Machine.State} {n : ℕ}
    (hmm : Machine.sub 0x200000000000000000000000000000000000000000000000000000000000000000000000000000000000000000000004000000 MM = true) (hag : Agree MM so s) :
    Agree MM so (@State.uartNoise s n) := by
  unfold State.uartNoise
  refine Agree.ite ?_ ?_
  · refine State.rxHolds_touch (sub_trans (by decide) hmm) ?_
    exact hag
  · exact hag

theorem State.uartSent_touch {MM : Nat} {so : State} {s : Sys2Proof.Machine.State} {n : ℕ}
    (hmm : Machine.sub 0x43e0000000000000000020000000000000000000000000000000000000000000000000000000000000000001000000000000001c180000000004080208 MM = true) (hag : Agree MM so s) :
    Agree MM so (@State.uartSent s n) := by
  unfold State.uartSent
  refine Agree.ite ?_ ?_
  · exact hag
  · refine State.uartNext_touch (sub_trans (by decide) hmm) ?_
    refine State.setUart_touch (sub_trans (by decide) hmm) ?_
    exact hag

theorem State.uartStuck_touch {MM : Nat} {so : State} {s : Sys2Proof.Machine.State} {n : ℕ}
    (hmm : Machine.sub 0x200000000000000000000000000000000000000000000000000000000000000000010000000000000000100000000004000200 MM = true) (hag : Agree MM so s) :
    Agree MM so (@State.uartStuck s n) := by
  unfold State.uartStuck
  refine Agree.ite ?_ ?_
  · exact hag
  · refine State.irq_touch (sub_trans (by decide) hmm) ?_
    refine Agree.fsetB ?_ (sub_bit hmm (by decide)) _ _
    refine State.setUart_touch (sub_trans (by decide) hmm) ?_
    exact hag

theorem State.uartTail_touch {MM : Nat} {so : State} {s : Sys2Proof.Machine.State} {n : ℕ}
    (hmm : Machine.sub 0x4000000 MM = true) (hag : Agree MM so s) :
    Agree MM so (@State.uartTail s n) := by
  unfold State.uartTail
  extract_lets +onlyGivenNames -merge -useContext -underBinder x3413
  try clear_value x3413
  refine Agree.ite ?_ ?_
  · exact hag
  · refine State.setUart_touch (sub_trans (by decide) hmm) ?_
    exact hag

theorem State.uartTxDone_touch {MM : Nat} {so : State} {s : Sys2Proof.Machine.State} {n : ℕ}
    (hmm : Machine.sub 0x43e0000000000000002020000000000000000000000000000000000000000000000000000000000000000001000000000000001c180000000004080208 MM = true) (hag : Agree MM so s) :
    Agree MM so (@State.uartTxDone s n) := by
  unfold State.uartTxDone
  extract_lets +onlyGivenNames -merge -useContext -underBinder x3414
  try clear_value x3414
  split
  · refine Agree.ite ?_ ?_
    · exact hag
    · extract_lets +onlyGivenNames -merge -useContext -underBinder x3415
      have h3416 : Agree MM so x3415 := by
        subst x3415
        refine State.setUart_touch (sub_trans (by decide) hmm) ?_
        exact hag
      try clear_value x3415
      refine State.uartNext_touch (sub_trans (by decide) hmm) ?_
      refine State.irq_touch (sub_trans (by decide) hmm) ?_
      refine Agree.fsetB ?_ (sub_bit hmm (by decide)) _ _
      refine Agree.fsetB ?_ (sub_bit hmm (by decide)) _ _
      exact h3416
  · exact hag

theorem State.uartWake_touch {MM : Nat} {so : State} {s : Sys2Proof.Machine.State} {n : ℕ} {rested : Bool}
    (hmm : Machine.sub 0x10300000000079060100000004004000a00 MM = true) (hag : Agree MM so s) :
    Agree MM so (@State.uartWake s n rested) := by
  unfold State.uartWake
  extract_lets +onlyGivenNames -merge -useContext -underBinder x3417
  try clear_value x3417
  refine Agree.ite ?_ ?_
  · exact hag
  · refine State.wakeLatch_touch (sub_trans (by decide) hmm) ?_
    refine State.setUart_touch (sub_trans (by decide) hmm) ?_
    exact hag

end Sys2Proof.Machine
end

