-- ==== Sys2Proof/Laws/Touch/Router.lean ====
section
/-!
SUPPORT. What the functions of Machine/Router.lean can touch: one lemma per function, its mask after `sub`.
-/

namespace Sys2Proof.Machine

theorem State.ballSync_touch {MM : Nat} {so : State} {s : Sys2Proof.Machine.State} {pin : ℕ}
    (hmm : Machine.sub 0x40000000000000000000000000000000000000000000000000000000000000000000000000010000000000000000100000000000000200 MM = true) (hag : Agree MM so s) :
    Agree MM so (@State.ballSync s pin) := by
  unfold State.ballSync
  extract_lets +onlyGivenNames -merge -useContext -underBinder x165
  try clear_value x165
  refine Agree.ite ?_ ?_
  · exact hag
  · extract_lets +onlyGivenNames -merge -useContext -underBinder x166
    have h167 : Agree MM so x166 := by
      subst x166
      refine Agree.fsetBit ?_ (sub_bit hmm (by decide)) _ _ _
      exact hag
    try clear_value x166
    refine Agree.ite ?_ ?_
    · exact h167
    · extract_lets +onlyGivenNames -merge -useContext -underBinder x168
      try clear_value x168
      refine Agree.forEach ?_ (fun y169 t170 h171 => ?_) _
      · exact h167
      · refine State.pulse_touch (sub_trans (by decide) hmm) ?_
        exact h171

theorem State.gpioFollow_touch {MM : Nat} {so : State} {s : Sys2Proof.Machine.State}
    (hmm : Machine.sub 0x40000000000000000000000000000000000000000000000000000000000000000000000000010000000000000000100000000000000200 MM = true) (hag : Agree MM so s) :
    Agree MM so (@State.gpioFollow s) := by
  unfold State.gpioFollow
  refine Agree.forEach ?_ (fun y172 t173 h174 => ?_) _
  · exact hag
  · refine State.ballSync_touch (sub_trans (by decide) hmm) ?_
    exact h174

theorem State.ringHold_touch {MM : Nat} {so : State} {s : Sys2Proof.Machine.State}
    (hmm : Machine.sub 0x8000000000000000000000000000000000000000000000000000000000000000000000000000000000000000000000000000000000800 MM = true) (hag : Agree MM so s) :
    Agree MM so (@State.ringHold s) := by
  unfold State.ringHold
  refine Agree.fsetB ?_ (sub_bit hmm (by decide)) _ _
  refine Agree.set_power ?_ (sub_bit hmm (by decide)) _
  exact hag

theorem State.cellRestart_touch {MM : Nat} {so : State} {s : Sys2Proof.Machine.State} {j : ℕ}
    (hmm : Machine.sub 0x200 MM = true) (hag : Agree MM so s) :
    Agree MM so (@State.cellRestart s j) := by
  unfold State.cellRestart
  extract_lets +onlyGivenNames -merge -useContext -underBinder x617
  try clear_value x617
  extract_lets +onlyGivenNames -merge -useContext -underBinder x618
  try clear_value x618
  refine Agree.set_router ?_ (sub_bit hmm (by decide)) _
  exact hag

theorem State.guardWindow_touch {MM : Nat} {so : State} {s : Sys2Proof.Machine.State} {c : ℕ}
    (hmm : Machine.sub 0x200 MM = true) (hag : Agree MM so s) :
    Agree MM so (@State.guardWindow s c) := by
  unfold State.guardWindow
  refine Agree.set_router ?_ (sub_bit hmm (by decide)) _
  exact hag

theorem State.cellAccept_touch {MM : Nat} {so : State} {s : Sys2Proof.Machine.State} {j : ℕ}
    (hmm : Machine.sub 0x200 MM = true) (hag : Agree MM so s) :
    Agree MM so (@State.cellAccept s j) := by
  unfold State.cellAccept
  extract_lets +onlyGivenNames -merge -useContext -underBinder x1822
  try clear_value x1822
  refine Agree.ite ?_ ?_
  · exact hag
  · refine Agree.set_router ?_ (sub_bit hmm (by decide)) _
    exact hag

theorem State.cellCycle_touch {MM : Nat} {so : State} {s : Sys2Proof.Machine.State} {task : List ℕ}
    (hmm : Machine.sub 0x200 MM = true) (hag : Agree MM so s) :
    AgreeP MM so (@State.cellCycle s task) := by
  unfold State.cellCycle
  refine AgreeP.ite ?_ ?_
  · refine AgreeP.mk ?_
    exact hag
  · extract_lets +onlyGivenNames -merge -useContext -underBinder x1823
    try clear_value x1823
    extract_lets +onlyGivenNames -merge -useContext -underBinder x1824
    try clear_value x1824
    extract_lets +onlyGivenNames -merge -useContext -underBinder x1825
    try clear_value x1825
    refine AgreeP.mk ?_
    refine Agree.set_router ?_ (sub_bit hmm (by decide)) _
    exact hag

theorem State.channelHold_touch {MM : Nat} {so : State} {s : Sys2Proof.Machine.State} {c : ℕ} {gen : Bool} {fire : Bool}
    (hmm : Machine.sub 0x310300000000079060100000004002000a00 MM = true) (hag : Agree MM so s) :
    AgreeP MM so (@State.channelHold s c gen fire) := by
  unfold State.channelHold
  refine AgreeP.ite ?_ ?_
  · refine AgreeP.mk ?_
    exact hag
  · extract_lets +onlyGivenNames -merge -useContext -underBinder x1829
    try clear_value x1829
    extract_lets +onlyGivenNames -merge -useContext -underBinder x1830
    try clear_value x1830
    refine AgreeP.ite ?_ ?_
    · refine AgreeP.mk ?_
      refine State.irq_touch (sub_trans (by decide) hmm) ?_
      refine Agree.fsetB ?_ (sub_bit hmm (by decide)) _ _
      exact hag
    · extract_lets +onlyGivenNames -merge -useContext -underBinder x1831
      try clear_value x1831
      extract_lets +onlyGivenNames -merge -useContext -underBinder x1832
      have h1833 : Agree MM so x1832 := by
        subst x1832
        refine Agree.set_router ?_ (sub_bit hmm (by decide)) _
        exact hag
      try clear_value x1832
      extract_lets +onlyGivenNames -merge -useContext -underBinder x1834
      have h1835 : Agree MM so x1834 := by
        subst x1834
        refine Agree.ite ?_ ?_
        · refine Agree.fsetB ?_ (sub_bit hmm (by decide)) _ _
          exact h1833
        · exact h1833
      try clear_value x1834
      extract_lets +onlyGivenNames -merge -useContext -underBinder x1836
      have h1837 : Agree MM so x1836 := by
        subst x1836
        refine Agree.fadd ?_ (sub_bit hmm (by decide)) _ _
        exact h1835
      try clear_value x1836
      extract_lets +onlyGivenNames -merge -useContext -underBinder x1838
      have h1839 : Agree MM so x1838 := by
        subst x1838
        refine Agree.ite ?_ ?_
        · refine State.wakeLatch_touch (sub_trans (by decide) hmm) ?_
          exact h1837
        · exact h1837
      try clear_value x1838
      refine AgreeP.mk ?_
      refine State.mangleArm_touch (sub_trans (by decide) hmm) ?_
      exact h1839

theorem State.channelStage_touch {MM : Nat} {so : State} {s : Sys2Proof.Machine.State} {outs : List Bool}
    (hmm : Machine.sub 0x310300000000079060100000004002000a00 MM = true) (hag : Agree MM so s) :
    Agree MM so (@State.channelStage s outs) := by
  unfold State.channelStage
  extract_lets +onlyGivenNames -merge -useContext -underBinder x1840
  try clear_value x1840
  extract_lets +onlyGivenNames -merge -useContext -underBinder x1841
  try clear_value x1841
  extract_lets +onlyGivenNames -merge -useContext -underBinder x1842
  try clear_value x1842
  extract_lets +onlyGivenNames -merge -useContext -underBinder x1843
  try clear_value x1843
  extract_lets +onlyGivenNames -merge -useContext -underBinder x1844
  try clear_value x1844
  extract_lets +onlyGivenNames -merge -useContext -underBinder x1845
  have h1846 : Agree MM so x1845 := by
    subst x1845
    refine Agree.set_router ?_ (sub_bit hmm (by decide)) _
    exact hag
  try clear_value x1845
  refine Agree.forEach ?_ (fun y1847 t1848 h1849 => ?_) _
  · exact h1846
  · split
    · rename_i heq
      have h1850 := AgreeP.of_eq (M := MM) (s0 := so) heq (by
        refine State.channelHold_touch (sub_trans (by decide) hmm) ?_
        exact h1849
        )
      refine Agree.ite ?_ ?_
      · refine Agree.set_router ?_ (sub_bit hmm (by decide)) _
        exact h1850
      · exact h1850

theorem State.timerEvent_touch {MM : Nat} {so : State} {s : Sys2Proof.Machine.State} {kind : ℕ} {t : ℕ}
    (hmm : Machine.sub 0x10000000000000000100000008000000200 MM = true) (hag : Agree MM so s) :
    Agree MM so (@State.timerEvent s kind t) := by
  unfold State.timerEvent
  refine Agree.ite ?_ ?_
  · exact hag
  · refine State.pulse_touch (sub_trans (by decide) hmm) ?_
    refine State.irq_touch (sub_trans (by decide) hmm) ?_
    refine Agree.set_timers ?_ (sub_bit hmm (by decide)) _
    exact hag

theorem State.timerStore_touch {MM : Nat} {so : State} {s : Sys2Proof.Machine.State} {t : ℕ} {r : ℕ × Bool × Bool}
    (hmm : Machine.sub 0x9000000000000000000000000000000000000000000000000000000000000000000000000000000000000000000000000000008000000000 MM = true) (hag : Agree MM so s) :
    Agree MM so (@State.timerStore s t r) := by
  unfold State.timerStore
  extract_lets +onlyGivenNames -merge -useContext -underBinder x2104
  have h2105 : Agree MM so x2104 := by
    subst x2104
    refine Agree.fset ?_ (sub_bit hmm (by decide)) _ _
    exact hag
  try clear_value x2104
  extract_lets +onlyGivenNames -merge -useContext -underBinder x2106
  have h2107 : Agree MM so x2106 := by
    subst x2106
    refine Agree.ite ?_ ?_
    · refine Agree.fsetB ?_ (sub_bit hmm (by decide)) _ _
      exact h2105
    · exact h2105
  try clear_value x2106
  refine Agree.set_timers ?_ (sub_bit hmm (by decide)) _
  exact h2107

theorem State.timerTicks_touch {MM : Nat} {so : State} {s : Sys2Proof.Machine.State} {t : ℕ} {n : ℕ}
    (hmm : Machine.sub 0x9000000000000000000000000000000000000000000000000000000000000000000000000000010000000000000000100000008000000200 MM = true) (hag : Agree MM so s) :
    Agree MM so (@State.timerTicks s t n) := by
  unfold State.timerTicks
  extract_lets +onlyGivenNames -merge -useContext -underBinder x2108
  have h2109 : Agree MM so x2108 := by
    subst x2108
    refine State.timerEvent_touch (sub_trans (by decide) hmm) ?_
    refine State.timerEvent_touch (sub_trans (by decide) hmm) ?_
    exact hag
  try clear_value x2108
  refine Agree.ite ?_ ?_
  · extract_lets +onlyGivenNames -merge -useContext -underBinder x2110
    have h2111 : Agree MM so x2110 := by
      subst x2110
      refine Agree.fsetB ?_ (sub_bit hmm (by decide)) _ _
      refine Agree.set_timers ?_ (sub_bit hmm (by decide)) _
      exact h2109
    try clear_value x2110
    refine State.timerStore_touch (sub_trans (by decide) hmm) ?_
    exact h2111
  · refine Agree.ite ?_ ?_
    · refine State.timerStore_touch (sub_trans (by decide) hmm) ?_
      exact h2109
    · exact h2109

theorem State.timersCount_touch {MM : Nat} {so : State} {s : Sys2Proof.Machine.State} {c : ℕ} {n : ℕ}
    (hmm : Machine.sub 0x9000000000000000000000000000000000000000000000000000000000000000000000000000010000000000000000100000008000000200 MM = true) (hag : Agree MM so s) :
    Agree MM so (@State.timersCount s c n) := by
  unfold State.timersCount
  refine Agree.ite ?_ ?_
  · exact hag
  · refine Agree.forEach ?_ (fun y2112 t2113 h2114 => ?_) _
    · exact hag
    · refine State.timerTicks_touch (sub_trans (by decide) hmm) ?_
      exact h2114

theorem State.elapse_touch {MM : Nat} {so : State} {s : Sys2Proof.Machine.State} {dt : ℕ}
    (hmm : Machine.sub 0x900000000000000000000000000000000000000000000000000000000000000000000000000001000000000000000010000000c000000202 MM = true) (hag : Agree MM so s) :
    Agree MM so (@State.elapse s dt) := by
  unfold State.elapse
  refine State.timersCount_touch (sub_trans (by decide) hmm) ?_
  refine State.checksAge_touch (sub_trans (by decide) hmm) ?_
  refine Agree.set_now ?_ (sub_bit hmm (by decide)) _
  exact hag

theorem State.pfwSlot_touch {MM : Nat} {so : State} {s : Sys2Proof.Machine.State}
    (hmm : Machine.sub 0x60000000000000000800 MM = true) (hag : Agree MM so s) :
    Agree MM so (@State.pfwSlot s) := by
  unfold State.pfwSlot
  refine Agree.ite ?_ ?_
  · exact hag
  · extract_lets +onlyGivenNames -merge -useContext -underBinder x2354
    try clear_value x2354
    extract_lets +onlyGivenNames -merge -useContext -underBinder x2355
    try clear_value x2355
    extract_lets +onlyGivenNames -merge -useContext -underBinder x2356
    have h2357 : Agree MM so x2356 := by
      subst x2356
      refine Agree.set_power ?_ (sub_bit hmm (by decide)) _
      exact hag
    try clear_value x2356
    extract_lets +onlyGivenNames -merge -useContext -underBinder x2358
    have h2359 : Agree MM so x2358 := by
      subst x2358
      refine Agree.ite ?_ ?_
      · refine Agree.fsetB ?_ (sub_bit hmm (by decide)) _ _
        exact h2357
      · exact h2357
    try clear_value x2358
    refine Agree.ite ?_ ?_
    · exact h2359
    · refine State.setTarget_touch (sub_trans (by decide) hmm) ?_
      exact h2359

theorem State.windowClose_touch {MM : Nat} {so : State} {s : Sys2Proof.Machine.State}
    (hmm : Machine.sub 0x1400010000000000000060100000000000000e00 MM = true) (hag : Agree MM so s) :
    Agree MM so (@State.windowClose s) := by
  unfold State.windowClose
  extract_lets +onlyGivenNames -merge -useContext -underBinder x2360
  try clear_value x2360
  extract_lets +onlyGivenNames -merge -useContext -underBinder x2361
  try clear_value x2361
  extract_lets +onlyGivenNames -merge -useContext -underBinder x2362
  have h2363 : Agree MM so x2362 := by
    subst x2362
    refine Agree.set_basket ?_ (sub_bit hmm (by decide)) _
    exact hag
  try clear_value x2362
  extract_lets +onlyGivenNames -merge -useContext -underBinder x2364
  try clear_value x2364
  extract_lets +onlyGivenNames -merge -useContext -underBinder x2365
  have h2366 : Agree MM so x2365 := by
    subst x2365
    refine Agree.forEach ?_ (fun y2367 t2368 h2369 => ?_) _
    · exact h2363
    · refine Agree.ite ?_ ?_
      · extract_lets +onlyGivenNames -merge -useContext -underBinder x2370
        have h2371 : Agree MM so x2370 := by
          subst x2370
          refine Agree.fadd ?_ (sub_bit hmm (by decide)) _ _
          refine Agree.fset ?_ (sub_bit hmm (by decide)) _ _
          exact h2369
        try clear_value x2370
        extract_lets +onlyGivenNames -merge -useContext -underBinder x2372
        have h2373 : Agree MM so x2372 := by
          subst x2372
          refine Agree.fsetBit ?_ (sub_bit hmm (by decide)) _ _ _
          exact h2371
        try clear_value x2372
        refine State.pulse_touch (sub_trans (by decide) hmm) ?_
        refine State.irq_touch (sub_trans (by decide) hmm) ?_
        exact h2373
      · refine State.pulse_touch (sub_trans (by decide) hmm) ?_
        refine State.irq_touch (sub_trans (by decide) hmm) ?_
        exact h2369
  try clear_value x2365
  refine Agree.ite ?_ ?_
  · refine State.pfwSlot_touch (sub_trans (by decide) hmm) ?_
    exact h2366
  · exact h2366

theorem State.taskDrop_touch {MM : Nat} {so : State} {s : Sys2Proof.Machine.State} {t : ℕ}
    (hmm : Machine.sub 0x810000000000000000100000000000000200 MM = true) (hag : Agree MM so s) :
    Agree MM so (@State.taskDrop s t) := by
  unfold State.taskDrop
  refine State.irq_touch (sub_trans (by decide) hmm) ?_
  refine Agree.faddSat ?_ (sub_bit hmm (by decide)) _ _
  refine Agree.fsetB ?_ (sub_bit hmm (by decide)) _ _
  exact hag

theorem State.latchTrigger_touch {MM : Nat} {so : State} {s : Sys2Proof.Machine.State} {t : ℕ} {x : ℕ} {i : ℕ}
    (hmm : Machine.sub 0x18810000000000000000100000000000000200 MM = true) (hag : Agree MM so s) :
    Agree MM so (@State.latchTrigger s t x i) := by
  unfold State.latchTrigger
  refine Agree.ite ?_ ?_
  · refine State.irq_touch (sub_trans (by decide) hmm) ?_
    refine Agree.fsetBit ?_ (sub_bit hmm (by decide)) _ _ _
    refine State.taskDrop_touch (sub_trans (by decide) hmm) ?_
    exact hag
  · refine State.irqWake_touch (sub_trans (by decide) hmm) ?_
    refine Agree.fsetBit ?_ (sub_bit hmm (by decide)) _ _ _
    exact hag

theorem State.timerTrigger_touch {MM : Nat} {so : State} {s : Sys2Proof.Machine.State} {t : ℕ} {cap : Bool}
    (hmm : Machine.sub 0x10000000000000000000000000000000000000000000000000000000000000000000000000000000000000000000000000000008000000000 MM = true) (hag : Agree MM so s) :
    Agree MM so (@State.timerTrigger s t cap) := by
  unfold State.timerTrigger
  refine Agree.ite ?_ ?_
  · exact hag
  · refine Agree.ite ?_ ?_
    · refine Agree.setReg ?_ (sub_bit hmm (by decide)) _ _
      exact hag
    · refine Agree.ite ?_ ?_
      · exact hag
      · refine Agree.set_timers ?_ (sub_bit hmm (by decide)) _
        exact hag

theorem State.gpioTap_touch {MM : Nat} {so : State} {s : Sys2Proof.Machine.State} {g : ℕ}
    (hmm : Machine.sub 0x50000000000000000000000000000000000000000000000000000000000000000000000000010000000000000000100000000000000200 MM = true) (hag : Agree MM so s) :
    Agree MM so (@State.gpioTap s g) := by
  unfold State.gpioTap
  refine Agree.ite ?_ ?_
  · exact hag
  · extract_lets +onlyGivenNames -merge -useContext -underBinder x2378
    try clear_value x2378
    extract_lets +onlyGivenNames -merge -useContext -underBinder x2379
    try clear_value x2379
    extract_lets +onlyGivenNames -merge -useContext -underBinder x2380
    try clear_value x2380
    extract_lets +onlyGivenNames -merge -useContext -underBinder x2381
    try clear_value x2381
    extract_lets +onlyGivenNames -merge -useContext -underBinder x2382
    have h2383 : Agree MM so x2382 := by
      subst x2382
      refine Agree.ite ?_ ?_
      · refine Agree.set_router ?_ (sub_bit hmm (by decide)) _
        exact hag
      · refine Agree.fsetBit ?_ (sub_bit hmm (by decide)) _ _ _
        exact hag
    try clear_value x2382
    refine State.ballSync_touch (sub_trans (by decide) hmm) ?_
    exact h2383

theorem State.taskAct_touch {MM : Nat} {so : State} {s : Sys2Proof.Machine.State} {t : ℕ}
    (hmm : Machine.sub 0x43e0000001005000000000000000000000040000000000500c00000000018000000000000000018000001881000000000000001c180000008000d88208 MM = true) (hag : Agree MM so s) :
    Agree MM so (@State.taskAct s t) := by
  unfold State.taskAct
  refine Agree.ite ?_ ?_
  · refine State.latchTrigger_touch (sub_trans (by decide) hmm) ?_
    exact hag
  · refine Agree.ite ?_ ?_
    · refine Agree.ite ?_ ?_
      · refine State.taskDrop_touch (sub_trans (by decide) hmm) ?_
        exact hag
      · extract_lets +onlyGivenNames -merge -useContext -underBinder x2384
        try clear_value x2384
        extract_lets +onlyGivenNames -merge -useContext -underBinder x2385
        try clear_value x2385
        extract_lets +onlyGivenNames -merge -useContext -underBinder x2386
        try clear_value x2386
        extract_lets +onlyGivenNames -merge -useContext -underBinder x2387
        try clear_value x2387
        extract_lets +onlyGivenNames -merge -useContext -underBinder x2388
        try clear_value x2388
        extract_lets +onlyGivenNames -merge -useContext -underBinder x2389
        have h2390 : Agree MM so x2389 := by
          subst x2389
          refine Agree.ite ?_ ?_
          · refine State.taskDrop_touch (sub_trans (by decide) hmm) ?_
            exact hag
          · exact hag
        try clear_value x2389
        refine State.launch_touch (sub_trans (by decide) hmm) ?_
        exact h2390
    · refine Agree.ite ?_ ?_
      · refine State.taskDrop_touch (sub_trans (by decide) hmm) ?_
        exact hag
      · refine Agree.ite ?_ ?_
        · refine State.pegTrigger_touch (sub_trans (by decide) hmm) ?_
          exact hag
        · refine Agree.ite ?_ ?_
          · refine State.scanTrigger_touch (sub_trans (by decide) hmm) ?_
            exact hag
          · refine Agree.ite ?_ ?_
            · refine State.softSeamRequest_touch (sub_trans (by decide) hmm) ?_
              exact hag
            · refine Agree.ite ?_ ?_
              · refine State.timerTrigger_touch (sub_trans (by decide) hmm) ?_
                exact hag
              · refine State.gpioTap_touch (sub_trans (by decide) hmm) ?_
                exact hag

theorem State.taskStage_touch {MM : Nat} {so : State} {s : Sys2Proof.Machine.State}
    (hmm : Machine.sub 0x43e0000001005000000000000000000000040000000000500c00000000018000000000000000018000001881000000000000001c180000008000d88208 MM = true) (hag : Agree MM so s) :
    Agree MM so (@State.taskStage s) := by
  unfold State.taskStage
  extract_lets +onlyGivenNames -merge -useContext -underBinder x2391
  try clear_value x2391
  refine Agree.ite ?_ ?_
  · exact hag
  · extract_lets +onlyGivenNames -merge -useContext -underBinder x2392
    try clear_value x2392
    extract_lets +onlyGivenNames -merge -useContext -underBinder x2393
    try clear_value x2393
    refine Agree.forEach ?_ (fun y2394 t2395 h2396 => ?_) _
    · exact hag
    · refine State.taskAct_touch (sub_trans (by decide) hmm) ?_
      refine Agree.ite ?_ ?_
      · refine Agree.fsetB ?_ (sub_bit hmm (by decide)) _ _
        exact h2396
      · exact h2396

theorem State.routerCycle_touch {MM : Nat} {so : State} {s : Sys2Proof.Machine.State}
    (hmm : Machine.sub 0x43e0000001005000000000000000000000040000000000500c000000000180000000000000000180001418b1030000000007907c18000000c002d88e08 MM = true) (hag : Agree MM so s) :
    Agree MM so (@State.routerCycle s) := by
  unfold State.routerCycle
  refine Agree.ite ?_ ?_
  · exact hag
  · extract_lets +onlyGivenNames -merge -useContext -underBinder x2397
    try clear_value x2397
    extract_lets +onlyGivenNames -merge -useContext -underBinder x2398
    have h2399 : Agree MM so x2398 := by
      subst x2398
      refine State.checksAge_touch (sub_trans (by decide) hmm) ?_
      refine Agree.ite ?_ ?_
      · exact hag
      · refine State.gpioFollow_touch (sub_trans (by decide) hmm) ?_
        refine Agree.set_router ?_ (sub_bit hmm (by decide)) _
        exact hag
    try clear_value x2398
    extract_lets +onlyGivenNames -merge -useContext -underBinder x2400
    have h2401 : Agree MM so x2400 := by
      subst x2400
      refine State.taskStage_touch (sub_trans (by decide) hmm) ?_
      exact h2399
    try clear_value x2400
    split
    · rename_i heq
      have h2402 := AgreeP.of_eq (M := MM) (s0 := so) heq (by
        refine State.cellCycle_touch (sub_trans (by decide) hmm) ?_
        exact h2401
        )
      extract_lets +onlyGivenNames -merge -useContext -underBinder x2403
      try clear_value x2403
      extract_lets +onlyGivenNames -merge -useContext -underBinder x2404
      have h2405 : Agree MM so x2404 := by
        subst x2404
        refine Agree.set_router ?_ (sub_bit hmm (by decide)) _
        exact h2402
      try clear_value x2404
      extract_lets +onlyGivenNames -merge -useContext -underBinder x2406
      have h2407 : Agree MM so x2406 := by
        subst x2406
        refine State.channelStage_touch (sub_trans (by decide) hmm) ?_
        exact h2405
      try clear_value x2406
      extract_lets +onlyGivenNames -merge -useContext -underBinder x2408
      try clear_value x2408
      extract_lets +onlyGivenNames -merge -useContext -underBinder x2409
      have h2410 : Agree MM so x2409 := by
        subst x2409
        refine Agree.set_router ?_ (sub_bit hmm (by decide)) _
        exact h2407
      try clear_value x2409
      split
      · exact h2410
      · refine State.windowClose_touch (sub_trans (by decide) hmm) ?_
        exact h2410
      · refine Agree.set_basket ?_ (sub_bit hmm (by decide)) _
        exact h2410

theorem State.routerDrain_touch {MM : Nat} {so : State} {s : Sys2Proof.Machine.State} {u1 : ℕ}
    (hmm : Machine.sub 0x43e0000001005000000000000000000000040000000000500c000000000180000000000000000180001418b1030000000007907c18000000c002d88e08 MM = true) (hag : Agree MM so s) :
    Agree MM so (@State.routerDrain s u1) := by
  induction u1 generalizing s with
  | zero => exact Agree.ite hag (State.windowClose_touch (sub_trans (by decide) hmm) hag)
  | succ k ih =>
    rw [State.routerDrain]
    exact Agree.ite hag (ih (State.routerCycle_touch (sub_trans (by decide) hmm) hag))

theorem State.routerCycles_touch {MM : Nat} {so : State} {s : Sys2Proof.Machine.State} {u1 : ℕ}
    (hmm : Machine.sub 0x43e0000001005000000000000000000000040000000000500c000000000180000000000000000180001418b1030000000007907c18000000c002d88e08 MM = true) (hag : Agree MM so s) :
    Agree MM so (@State.routerCycles s u1) := by
  induction u1 generalizing s with
  | zero => exact hag
  | succ k ih => exact ih (State.routerCycle_touch (sub_trans (by decide) hmm) hag)

theorem State.generatorPulse_touch {MM : Nat} {so : State} {s : Sys2Proof.Machine.State} {g : ℕ}
    (hmm : Machine.sub 0x43e0000001005000000000000000000000040000000000500c000000000180000000000000000180001418b1030000000007907c18000000c002d88e08 MM = true) (hag : Agree MM so s) :
    Agree MM so (@State.generatorPulse s g) := by
  unfold State.generatorPulse
  extract_lets +onlyGivenNames -merge -useContext -underBinder x2463
  have h2464 : Agree MM so x2463 := by
    subst x2463
    refine Agree.ite ?_ ?_
    · exact hag
    · refine State.pulse_touch (sub_trans (by decide) hmm) ?_
      exact hag
  try clear_value x2463
  refine State.routerCycles_touch (sub_trans (by decide) hmm) ?_
  exact h2464

theorem State.gpioEdge_touch {MM : Nat} {so : State} {s : Sys2Proof.Machine.State} {pin : ℕ} {level : Bool}
    (hmm : Machine.sub 0x40000000000000000000000000000000000000000000000000000000000000000000000000010000000000000000100000000000000a00 MM = true) (hag : Agree MM so s) :
    Agree MM so (@State.gpioEdge s pin level) := by
  unfold State.gpioEdge
  extract_lets +onlyGivenNames -merge -useContext -underBinder x2482
  try clear_value x2482
  extract_lets +onlyGivenNames -merge -useContext -underBinder x2483
  try clear_value x2483
  refine State.ballSync_touch (sub_trans (by decide) hmm) ?_
  refine Agree.set_power ?_ (sub_bit hmm (by decide)) _
  exact hag

theorem State.jtagScan_touch {MM : Nat} {so : State} {s : Sys2Proof.Machine.State} {ir : ℕ} {cells : List Bool}
    (hmm : Machine.sub 0x40000000000000000000000000000000000000000000000000000000000000000000000000010000000000000000100000000000000a00 MM = true) (hag : Agree MM so s) :
    Agree MM so (@State.jtagScan s ir cells) := by
  unfold State.jtagScan
  refine Agree.ite ?_ ?_
  · exact hag
  · extract_lets +onlyGivenNames -merge -useContext -underBinder x2597
    try clear_value x2597
    extract_lets +onlyGivenNames -merge -useContext -underBinder x2598
    try clear_value x2598
    refine State.gpioFollow_touch (sub_trans (by decide) hmm) ?_
    refine Agree.set_power ?_ (sub_bit hmm (by decide)) _
    exact hag

theorem State.timerMatch_touch {MM : Nat} {so : State} {s : Sys2Proof.Machine.State} {t : ℕ}
    (hmm : Machine.sub 0x900000000000000000000000000000000000000000000000000000000000000000000000000001000000000000000010000000c000000202 MM = true) (hag : Agree MM so s) :
    Agree MM so (@State.timerMatch s t) := by
  unfold State.timerMatch
  extract_lets +onlyGivenNames -merge -useContext -underBinder x3347
  try clear_value x3347
  extract_lets +onlyGivenNames -merge -useContext -underBinder x3348
  try clear_value x3348
  extract_lets +onlyGivenNames -merge -useContext -underBinder x3349
  try clear_value x3349
  extract_lets +onlyGivenNames -merge -useContext -underBinder x3350
  try clear_value x3350
  extract_lets +onlyGivenNames -merge -useContext -underBinder x3351
  have h3352 : Agree MM so x3351 := by
    subst x3351
    refine Agree.ite ?_ ?_
    · refine State.elapse_touch (sub_trans (by decide) hmm) ?_
      exact hag
    · exact hag
  try clear_value x3351
  refine State.timerEvent_touch (sub_trans (by decide) hmm) ?_
  exact h3352

theorem State.timerWrap_touch {MM : Nat} {so : State} {s : Sys2Proof.Machine.State} {t : ℕ}
    (hmm : Machine.sub 0x900000000000000000000000000000000000000000000000000000000000000000000000000001000000000000000010000000c000000202 MM = true) (hag : Agree MM so s) :
    Agree MM so (@State.timerWrap s t) := by
  unfold State.timerWrap
  extract_lets +onlyGivenNames -merge -useContext -underBinder x3353
  try clear_value x3353
  extract_lets +onlyGivenNames -merge -useContext -underBinder x3354
  have h3355 : Agree MM so x3354 := by
    subst x3354
    refine Agree.ite ?_ ?_
    · refine State.elapse_touch (sub_trans (by decide) hmm) ?_
      exact hag
    · exact hag
  try clear_value x3354
  refine State.timerEvent_touch (sub_trans (by decide) hmm) ?_
  exact h3355

end Sys2Proof.Machine
end

