-- ==== Sys2Proof/Laws/Touch/Power.lean ====
section
/-!
SUPPORT. What the functions of Machine/Power.lean can touch: one lemma per function, its mask after `sub`.
-/

namespace Sys2Proof.Machine

theorem State.modeWritten_touch {MM : Nat} {so : State} {s : Sys2Proof.Machine.State} {m : ℕ}
    (hmm : Machine.sub 0x60000000000000000000 MM = true) (hag : Agree MM so s) :
    Agree MM so (@State.modeWritten s m) := by
  unfold State.modeWritten
  refine Agree.ite ?_ ?_
  · refine State.setTarget_touch (sub_trans (by decide) hmm) ?_
    exact hag
  · refine State.setTarget_touch (sub_trans (by decide) hmm) ?_
    exact hag

theorem State.setClkState_touch {MM : Nat} {so : State} {s : Sys2Proof.Machine.State} {d : ℕ} {st : ℕ}
    (hmm : Machine.sub 0x10000000000000000000000000 MM = true) (hag : Agree MM so s) :
    Agree MM so (@State.setClkState s d st) := by
  unfold State.setClkState
  refine Agree.setReg ?_ (sub_bit hmm (by decide)) _ _
  exact hag

theorem State.coreZero_touch {MM : Nat} {so : State} {s : Sys2Proof.Machine.State} {i : ℕ}
    (hmm : Machine.sub 0x8400000 MM = true) (hag : Agree MM so s) :
    Agree MM so (@State.coreZero s i) := by
  unfold State.coreZero
  extract_lets +onlyGivenNames -merge -useContext -underBinder x392
  try clear_value x392
  extract_lets +onlyGivenNames -merge -useContext -underBinder x393
  try clear_value x393
  extract_lets +onlyGivenNames -merge -useContext -underBinder x394
  try clear_value x394
  extract_lets +onlyGivenNames -merge -useContext -underBinder x395
  have h396 : Agree MM so x395 := by
    subst x395
    refine State.govForget_touch (sub_trans (by decide) hmm) ?_
    exact hag
  try clear_value x395
  refine Agree.set_cores ?_ (sub_bit hmm (by decide)) _
  exact h396

theorem State.forget_touch {MM : Nat} {so : State} {s : Sys2Proof.Machine.State} {p : ℕ → Bool}
    (hmm : Machine.sub 0xc MM = true) (hag : Agree MM so s) :
    Agree MM so (@State.forget s p) := by
  exact Agree.filterMem hag (sub_bit hmm (by decide)) (sub_bit hmm (by decide)) _ _

theorem State.resetPages_touch {MM : Nat} {so : State} {s : Sys2Proof.Machine.State} {d : Sys2Proof.Machine.Domain}
    (hmm : Machine.sub 0xfffffffffffffffffffffffffffffffffffffffffffffffffffffffffffffffffffffffffffffffffffffffffffffffffffffffffffffff0000002000000060 MM = true) (hag : Agree MM so s) :
    Agree MM so (@State.resetPages s d) := by
  unfold State.resetPages
  extract_lets +onlyGivenNames -merge -useContext -underBinder x398
  have h399 : Agree MM so x398 := by
    subst x398
    refine State.clearDomainRegs_touch (sub_trans (by decide) hmm) ?_
    exact hag
  try clear_value x398
  refine Agree.set_freeze_softReset_late ?_ (sub_bit hmm (by decide)) (sub_bit hmm (by decide)) (sub_bit hmm (by decide)) _ _ _
  exact h399

theorem State.resetAna_touch {MM : Nat} {so : State} {s : Sys2Proof.Machine.State}
    (hmm : Machine.sub 0xfffffffffffffffffffffffffffffffffffffffffffffffffffffffffffffffffffffffffffffffffffffffffffffffffffffffffffffff0000002008c80060 MM = true) (hag : Agree MM so s) :
    Agree MM so (@State.resetAna s) := by
  unfold State.resetAna
  extract_lets +onlyGivenNames -merge -useContext -underBinder x400
  have h401 : Agree MM so x400 := by
    subst x400
    refine State.resetPages_touch (sub_trans (by decide) hmm) ?_
    exact hag
  try clear_value x400
  extract_lets +onlyGivenNames -merge -useContext -underBinder x402
  try clear_value x402
  extract_lets +onlyGivenNames -merge -useContext -underBinder x403
  try clear_value x403
  extract_lets +onlyGivenNames -merge -useContext -underBinder x404
  have h405 : Agree MM so x404 := by
    subst x404
    refine Agree.forEach ?_ (fun y406 t407 h408 => ?_) _
    · exact h401
    · refine State.govForget_touch (sub_trans (by decide) hmm) ?_
      exact h408
  try clear_value x404
  extract_lets +onlyGivenNames -merge -useContext -underBinder x409
  have h410 : Agree MM so x409 := by
    subst x409
    refine Agree.set_wel ?_ (sub_bit hmm (by decide)) _
    exact h405
  try clear_value x409
  extract_lets +onlyGivenNames -merge -useContext -underBinder x411
  try clear_value x411
  extract_lets +onlyGivenNames -merge -useContext -underBinder x412
  have h413 : Agree MM so x412 := by
    subst x412
    refine State.darnShow_touch (sub_trans (by decide) hmm) ?_
    refine Agree.set_darn ?_ (sub_bit hmm (by decide)) _
    exact h410
  try clear_value x412
  refine State.coreZero_touch (sub_trans (by decide) hmm) ?_
  refine State.coreZero_touch (sub_trans (by decide) hmm) ?_
  refine State.coreZero_touch (sub_trans (by decide) hmm) ?_
  exact h413

theorem State.setPower_touch {MM : Nat} {so : State} {s : Sys2Proof.Machine.State} {d : Sys2Proof.Machine.Domain} {p : Sys2Proof.Machine.DomPower}
    (hmm : Machine.sub 0x800 MM = true) (hag : Agree MM so s) :
    Agree MM so (@State.setPower s d p) := by
  unfold State.setPower
  refine Agree.set_power ?_ (sub_bit hmm (by decide)) _
  exact hag

theorem State.resetMem_touch {MM : Nat} {so : State} {s : Sys2Proof.Machine.State}
    (hmm : Machine.sub 0xfffffffffffffffffffffffffffffffffffffffffffffffffffffffffffffffffffffffffffffffffffffffffffffffffffffffffffffff0000002000400260 MM = true) (hag : Agree MM so s) :
    Agree MM so (@State.resetMem s) := by
  unfold State.resetMem
  extract_lets +onlyGivenNames -merge -useContext -underBinder x414
  have h415 : Agree MM so x414 := by
    subst x414
    refine State.resetPages_touch (sub_trans (by decide) hmm) ?_
    exact hag
  try clear_value x414
  extract_lets +onlyGivenNames -merge -useContext -underBinder x416
  try clear_value x416
  extract_lets +onlyGivenNames -merge -useContext -underBinder x417
  have h418 : Agree MM so x417 := by
    subst x417
    refine Agree.set_lines ?_ (sub_bit hmm (by decide)) _
    exact h415
  try clear_value x417
  refine State.writerState_touch (sub_trans (by decide) hmm) ?_
  exact h418

theorem State.notReady_touch {MM : Nat} {so : State} {s : Sys2Proof.Machine.State} {srcs : List ℕ}
    (hmm : Machine.sub 0x600000000000000001000000 MM = true) (hag : Agree MM so s) :
    Agree MM so (@State.notReady s srcs) := by
  unfold State.notReady
  extract_lets +onlyGivenNames -merge -useContext -underBinder x419
  have h420 : Agree MM so x419 := by
    subst x419
    refine Agree.forEach ?_ (fun y421 t422 h423 => ?_) _
    · exact hag
    · refine Agree.fsetBit ?_ (sub_bit hmm (by decide)) _ _ _
      exact h423
  try clear_value x419
  extract_lets +onlyGivenNames -merge -useContext -underBinder x424
  have h425 : Agree MM so x424 := by
    subst x424
    refine Agree.ite ?_ ?_
    · refine Agree.fset ?_ (sub_bit hmm (by decide)) _ _
      exact h420
    · exact h420
  try clear_value x424
  refine Agree.ite ?_ ?_
  · split
    · exact h425
    · refine Agree.set_bkd ?_ (sub_bit hmm (by decide)) _
      exact h425
  · exact h425

theorem State.resetLnk_touch {MM : Nat} {so : State} {s : Sys2Proof.Machine.State}
    (hmm : Machine.sub 0xfffffffffffffffffffffffffffffffffffffffffffffffffffffffffffffffffffffffffffffffffffffffffffffffffffffffffffffff0000002002c20060 MM = true) (hag : Agree MM so s) :
    Agree MM so (@State.resetLnk s) := by
  unfold State.resetLnk
  extract_lets +onlyGivenNames -merge -useContext -underBinder x426
  have h427 : Agree MM so x426 := by
    subst x426
    refine Agree.forEach ?_ (fun y428 t429 h430 => ?_) _
    · exact hag
    · refine State.govForget_touch (sub_trans (by decide) hmm) ?_
      exact h430
  try clear_value x426
  extract_lets +onlyGivenNames -merge -useContext -underBinder x431
  have h432 : Agree MM so x431 := by
    subst x431
    refine State.resetPages_touch (sub_trans (by decide) hmm) ?_
    exact h427
  try clear_value x431
  refine Agree.set_beacon_wel_links ?_ (sub_bit hmm (by decide)) (sub_bit hmm (by decide)) (sub_bit hmm (by decide)) _ _ _
  exact h432

theorem State.resetAcqPages_touch {MM : Nat} {so : State} {s : Sys2Proof.Machine.State}
    (hmm : Machine.sub 0xfffffffffffffffffffffffffffffffffffffffffffffffffffffffffffffffffffffffffffffffffffffffffffffffffffffffffffffff0000002000000860 MM = true) (hag : Agree MM so s) :
    Agree MM so (@State.resetAcqPages s) := by
  unfold State.resetAcqPages
  extract_lets +onlyGivenNames -merge -useContext -underBinder x433
  have h434 : Agree MM so x433 := by
    subst x433
    refine State.ringHold_touch (sub_trans (by decide) hmm) ?_
    exact hag
  try clear_value x433
  refine Agree.forEach ?_ (fun y435 t436 h437 => ?_) _
  · refine State.resetPages_touch (sub_trans (by decide) hmm) ?_
    exact h434
  · extract_lets +onlyGivenNames -merge -useContext -underBinder x438
    try clear_value x438
    split
    · refine Agree.setReg ?_ (sub_bit hmm (by decide)) _ _
      exact h437
    · refine Agree.setReg ?_ (allBit (sub_trans (by decide) hmm) _) _ _
      exact h437

theorem State.resetAcq_touch {MM : Nat} {so : State} {s : Sys2Proof.Machine.State}
    (hmm : Machine.sub 0xfffffffffffffffffffffffffffffffffffffffffffffffffffffffffffffffffffffffffffffffffffffffffffffffffffffffffffffff000000bdecfdfe60 MM = true) (hag : Agree MM so s) :
    Agree MM so (@State.resetAcq s) := by
  unfold State.resetAcq
  extract_lets +onlyGivenNames -merge -useContext -underBinder x439
  have h440 : Agree MM so x439 := by
    subst x439
    refine State.resetAcqPages_touch (sub_trans (by decide) hmm) ?_
    exact hag
  try clear_value x439
  extract_lets +onlyGivenNames -merge -useContext -underBinder x441
  try clear_value x441
  extract_lets +onlyGivenNames -merge -useContext -underBinder x442
  try clear_value x442
  extract_lets +onlyGivenNames -merge -useContext -underBinder x443
  try clear_value x443
  extract_lets +onlyGivenNames -merge -useContext -underBinder x444
  try clear_value x444
  extract_lets +onlyGivenNames -merge -useContext -underBinder x445
  have h446 : Agree MM so x445 := by
    subst x445
    refine Agree.set_basket_seams_tach_engines_epoch_modules_idb_darn_adc_chains_lines_temps_xspi_wdts_mend_boot_timers ?_ (sub_bit hmm (by decide)) (sub_bit hmm (by decide)) (sub_bit hmm (by decide)) (sub_bit hmm (by decide)) (sub_bit hmm (by decide)) (sub_bit hmm (by decide)) (sub_bit hmm (by decide)) (sub_bit hmm (by decide)) (sub_bit hmm (by decide)) (sub_bit hmm (by decide)) (sub_bit hmm (by decide)) (sub_bit hmm (by decide)) (sub_bit hmm (by decide)) (sub_bit hmm (by decide)) (sub_bit hmm (by decide)) (sub_bit hmm (by decide)) (sub_bit hmm (by decide)) _ _ _ _ _ _ _ _ _ _ _ _ _ _ _ _ _
    exact h440
  try clear_value x445
  extract_lets +onlyGivenNames -merge -useContext -underBinder x447
  try clear_value x447
  extract_lets +onlyGivenNames -merge -useContext -underBinder x448
  have h449 : Agree MM so x448 := by
    subst x448
    refine Agree.set_wel ?_ (sub_bit hmm (by decide)) _
    exact h446
  try clear_value x448
  extract_lets +onlyGivenNames -merge -useContext -underBinder x450
  try clear_value x450
  extract_lets +onlyGivenNames -merge -useContext -underBinder x451
  try clear_value x451
  extract_lets +onlyGivenNames -merge -useContext -underBinder x452
  have h453 : Agree MM so x452 := by
    subst x452
    refine Agree.set_fuses_crypto ?_ (sub_bit hmm (by decide)) (sub_bit hmm (by decide)) _ _
    exact h449
  try clear_value x452
  refine State.gpioFollow_touch (sub_trans (by decide) hmm) ?_
  refine State.coreZero_touch (sub_trans (by decide) hmm) ?_
  refine State.uartsReset_touch (sub_trans (by decide) hmm) ?_
  exact h453

theorem State.switchOff_touch {MM : Nat} {so : State} {s : Sys2Proof.Machine.State} {d : Sys2Proof.Machine.Domain}
    (hmm : Machine.sub 0xfffffffffffffffffffffffffffffffffffffffffffffffffffffffffffffffffffffffffffffffffffffffffffffffffffffffffffffff000000bdfffffe6c MM = true) (hag : Agree MM so s) :
    Agree MM so (@State.switchOff s d) := by
  unfold State.switchOff
  extract_lets +onlyGivenNames -merge -useContext -underBinder x454
  have h455 : Agree MM so x454 := by
    subst x454
    refine State.stagedLost_touch (sub_trans (by decide) hmm) ?_
    refine State.setClkState_touch (sub_trans (by decide) hmm) ?_
    exact hag
  try clear_value x454
  extract_lets +onlyGivenNames -merge -useContext -underBinder x456
  try clear_value x456
  extract_lets +onlyGivenNames -merge -useContext -underBinder x457
  have h458 : Agree MM so x457 := by
    subst x457
    refine Agree.set_clocks ?_ (sub_bit hmm (by decide)) _
    exact h455
  try clear_value x457
  split
  · extract_lets +onlyGivenNames -merge -useContext -underBinder x459
    have h460 : Agree MM so x459 := by
      subst x459
      refine State.forget_touch (sub_trans (by decide) hmm) ?_
      refine State.resetAna_touch (sub_trans (by decide) hmm) ?_
      refine State.setPower_touch (sub_trans (by decide) hmm) ?_
      exact h458
    try clear_value x459
    refine Agree.set_power_darn ?_ (sub_bit hmm (by decide)) (sub_bit hmm (by decide)) _ _
    exact h460
  · refine State.resetMem_touch (sub_trans (by decide) hmm) ?_
    refine State.setPower_touch (sub_trans (by decide) hmm) ?_
    refine State.notReady_touch (sub_trans (by decide) hmm) ?_
    exact h458
  · refine State.resetLnk_touch (sub_trans (by decide) hmm) ?_
    refine State.setPower_touch (sub_trans (by decide) hmm) ?_
    refine State.notReady_touch (sub_trans (by decide) hmm) ?_
    exact h458
  · extract_lets +onlyGivenNames -merge -useContext -underBinder x461
    have h462 : Agree MM so x461 := by
      subst x461
      refine State.forget_touch (sub_trans (by decide) hmm) ?_
      refine State.resetAcq_touch (sub_trans (by decide) hmm) ?_
      refine State.setPower_touch (sub_trans (by decide) hmm) ?_
      exact h458
    try clear_value x461
    refine Agree.set_darn_crypto ?_ (sub_bit hmm (by decide)) (sub_bit hmm (by decide)) _ _
    exact h462
  · exact h458

theorem State.hbmLost_touch {MM : Nat} {so : State} {s : Sys2Proof.Machine.State}
    (hmm : Machine.sub 0x40000c MM = true) (hag : Agree MM so s) :
    Agree MM so (@State.hbmLost s) := by
  unfold State.hbmLost
  extract_lets +onlyGivenNames -merge -useContext -underBinder x463
  have h464 : Agree MM so x463 := by
    subst x463
    refine State.forget_touch (sub_trans (by decide) hmm) ?_
    exact hag
  try clear_value x463
  refine Agree.set_lines ?_ (sub_bit hmm (by decide)) _
  exact h464

theorem State.dropSram_touch {MM : Nat} {so : State} {s : Sys2Proof.Machine.State} {d : ℕ}
    (hmm : Machine.sub 0x80c MM = true) (hag : Agree MM so s) :
    Agree MM so (@State.dropSram s d) := by
  unfold State.dropSram
  extract_lets +onlyGivenNames -merge -useContext -underBinder x465
  have h466 : Agree MM so x465 := by
    subst x465
    refine State.forget_touch (sub_trans (by decide) hmm) ?_
    exact hag
  try clear_value x465
  refine Agree.set_power ?_ (sub_bit hmm (by decide)) _
  exact h466

theorem State.anaEnable_touch {MM : Nat} {so : State} {s : Sys2Proof.Machine.State}
    (hmm : Machine.sub 0x4000000000000000000000000000000000000000000000000000000000000000000000000000000000000000000000000000000000800 MM = true) (hag : Agree MM so s) :
    Agree MM so (@State.anaEnable s) := by
  unfold State.anaEnable
  extract_lets +onlyGivenNames -merge -useContext -underBinder x1083
  have h1084 : Agree MM so x1083 := by
    subst x1083
    refine Agree.fset ?_ (sub_bit hmm (by decide)) _ _
    exact hag
  try clear_value x1083
  refine Agree.set_power ?_ (sub_bit hmm (by decide)) _
  exact h1084

theorem State.setPoint_touch {MM : Nat} {so : State} {s : Sys2Proof.Machine.State} {rail : ℕ} {p : ℕ}
    (hmm : Machine.sub 0x4000000000000000000000000000000000000000000000000000000000000000000000000000000000100000000000000000000000000 MM = true) (hag : Agree MM so s) :
    Agree MM so (@State.setPoint s rail p) := by
  unfold State.setPoint
  extract_lets +onlyGivenNames -merge -useContext -underBinder x1350
  have h1351 : Agree MM so x1350 := by
    subst x1350
    refine Agree.fset ?_ (sub_bit hmm (by decide)) _ _
    exact hag
  try clear_value x1350
  refine Agree.ite ?_ ?_
  · refine Agree.fset ?_ (sub_bit hmm (by decide)) _ _
    exact h1351
  · refine Agree.fset ?_ (sub_bit hmm (by decide)) _ _
    exact h1351

theorem State.fill_touch {MM : Nat} {so : State} {s : Sys2Proof.Machine.State} {found : Sys2Proof.Contents} {p : ℕ → Bool}
    (hmm : Machine.sub 0xc MM = true) (hag : Agree MM so s) :
    Agree MM so (@State.fill s found p) := by
  unfold State.fill
  extract_lets +onlyGivenNames -merge -useContext -underBinder x1352
  have h1353 : Agree MM so x1352 := by
    subst x1352
    refine State.forget_touch (sub_trans (by decide) hmm) ?_
    exact hag
  try clear_value x1352
  extract_lets +onlyGivenNames -merge -useContext -underBinder x1354
  have h1355 : Agree MM so x1354 := by
    subst x1354
    refine Agree.forEach ?_ (fun y1356 t1357 h1358 => ?_) _
    · exact h1353
    · refine State.putBytes_touch (sub_trans (by decide) hmm) ?_
      exact h1358
  try clear_value x1354
  extract_lets +onlyGivenNames -merge -useContext -underBinder x1359
  try clear_value x1359
  refine Agree.set_ecc ?_ (sub_bit hmm (by decide)) _
  exact h1355

theorem State.suspectAge_touch {MM : Nat} {so : State} {s : Sys2Proof.Machine.State} {d : ℕ}
    (hmm : Machine.sub 0x80000 MM = true) (hag : Agree MM so s) :
    Agree MM so (@State.suspectAge s d) := by
  unfold State.suspectAge
  extract_lets +onlyGivenNames -merge -useContext -underBinder x1360
  try clear_value x1360
  extract_lets +onlyGivenNames -merge -useContext -underBinder x1361
  try clear_value x1361
  refine Agree.set_darn ?_ (sub_bit hmm (by decide)) _
  exact hag

theorem State.bankSuspect_touch {MM : Nat} {so : State} {s : Sys2Proof.Machine.State} {d : ℕ} {b : ℕ}
    (hmm : Machine.sub 0x43e00000000000000000000000000000000000000000000000000000000000000000000000000000000000010000000000000000180000000000080200 MM = true) (hag : Agree MM so s) :
    Agree MM so (@State.bankSuspect s d b) := by
  unfold State.bankSuspect
  extract_lets +onlyGivenNames -merge -useContext -underBinder x1362
  try clear_value x1362
  extract_lets +onlyGivenNames -merge -useContext -underBinder x1363
  try clear_value x1363
  extract_lets +onlyGivenNames -merge -useContext -underBinder x1364
  try clear_value x1364
  extract_lets +onlyGivenNames -merge -useContext -underBinder x1365
  have h1366 : Agree MM so x1365 := by
    subst x1365
    refine Agree.set_darn ?_ (sub_bit hmm (by decide)) _
    exact hag
  try clear_value x1365
  refine Agree.ite ?_ ?_
  · refine State.proposeBank_touch (sub_trans (by decide) hmm) ?_
    exact h1366
  · exact h1366

theorem State.banksReturn_touch {MM : Nat} {so : State} {s : Sys2Proof.Machine.State} {d : ℕ} {flipped : List ℕ} {found : Sys2Proof.Contents}
    (hmm : Machine.sub 0x43e0000000000000000000000000000000000000000000000000000000000000000000000000000000000001a00000000000000018000000000008020c MM = true) (hag : Agree MM so s) :
    Agree MM so (@State.banksReturn s d flipped found) := by
  unfold State.banksReturn
  extract_lets +onlyGivenNames -merge -useContext -underBinder x1367
  have h1368 : Agree MM so x1367 := by
    subst x1367
    refine State.suspectAge_touch (sub_trans (by decide) hmm) ?_
    exact hag
  try clear_value x1367
  extract_lets +onlyGivenNames -merge -useContext -underBinder x1369
  have h1370 : Agree MM so x1369 := by
    subst x1369
    refine State.fill_touch (sub_trans (by decide) hmm) ?_
    exact h1368
  try clear_value x1369
  extract_lets +onlyGivenNames -merge -useContext -underBinder x1371
  try clear_value x1371
  extract_lets +onlyGivenNames -merge -useContext -underBinder x1372
  have h1373 : Agree MM so x1372 := by
    subst x1372
    refine Agree.forEach ?_ (fun y1374 t1375 h1376 => ?_) _
    · exact h1370
    · refine State.bankSuspect_touch (sub_trans (by decide) hmm) ?_
      refine State.irq_touch (sub_trans (by decide) hmm) ?_
      refine Agree.fsetBit ?_ (sub_bit hmm (by decide)) _ _ _
      exact h1376
  try clear_value x1372
  extract_lets +onlyGivenNames -merge -useContext -underBinder x1377
  try clear_value x1377
  extract_lets +onlyGivenNames -merge -useContext -underBinder x1378
  have h1379 : Agree MM so x1378 := by
    subst x1378
    refine Agree.forEach ?_ (fun y1380 t1381 h1382 => ?_) _
    · exact h1373
    · refine Agree.fsetBit ?_ (sub_bit hmm (by decide)) _ _ _
      exact h1382
  try clear_value x1378
  refine Agree.ite ?_ ?_
  · exact h1379
  · refine State.setBusy_touch (sub_trans (by decide) hmm) ?_
    exact h1379

theorem State.acqOn_touch {MM : Nat} {so : State} {s : Sys2Proof.Machine.State} {flipped : List ℕ} {found : Sys2Proof.Contents}
    (hmm : Machine.sub 0x43e0000000004400000000000000000000000000000000000000000000000000000000020000000000000001a000000100000000180000001000082a0c MM = true) (hag : Agree MM so s) :
    Agree MM so (@State.acqOn s flipped found) := by
  unfold State.acqOn
  extract_lets +onlyGivenNames -merge -useContext -underBinder x1383
  have h1384 : Agree MM so x1383 := by
    subst x1383
    refine State.setPoint_touch (sub_trans (by decide) hmm) ?_
    refine State.setPower_touch (sub_trans (by decide) hmm) ?_
    exact hag
  try clear_value x1383
  extract_lets +onlyGivenNames -merge -useContext -underBinder x1385
  have h1386 : Agree MM so x1385 := by
    subst x1385
    refine State.fill_touch (sub_trans (by decide) hmm) ?_
    exact h1384
  try clear_value x1385
  extract_lets +onlyGivenNames -merge -useContext -underBinder x1387
  have h1388 : Agree MM so x1387 := by
    subst x1387
    refine State.banksReturn_touch (sub_trans (by decide) hmm) ?_
    exact h1386
  try clear_value x1387
  extract_lets +onlyGivenNames -merge -useContext -underBinder x1389
  try clear_value x1389
  extract_lets +onlyGivenNames -merge -useContext -underBinder x1390
  try clear_value x1390
  extract_lets +onlyGivenNames -merge -useContext -underBinder x1391
  try clear_value x1391
  extract_lets +onlyGivenNames -merge -useContext -underBinder x1392
  have h1393 : Agree MM so x1392 := by
    subst x1392
    refine Agree.set_power_boot ?_ (sub_bit hmm (by decide)) (sub_bit hmm (by decide)) _ _
    exact h1388
  try clear_value x1392
  refine State.tachThaw_touch (sub_trans (by decide) hmm) ?_
  refine State.gpioFollow_touch (sub_trans (by decide) hmm) ?_
  refine State.darnShow_touch (sub_trans (by decide) hmm) ?_
  exact h1393

theorem State.anaOn_touch {MM : Nat} {so : State} {s : Sys2Proof.Machine.State} {flipped : List ℕ} {found : Sys2Proof.Contents}
    (hmm : Machine.sub 0x43e0000000000000000000000000000000000000000000000000000000000000000000000000000000000001a000000100000000180000000000080a0c MM = true) (hag : Agree MM so s) :
    Agree MM so (@State.anaOn s flipped found) := by
  unfold State.anaOn
  extract_lets +onlyGivenNames -merge -useContext -underBinder x1482
  have h1483 : Agree MM so x1482 := by
    subst x1482
    refine State.setPower_touch (sub_trans (by decide) hmm) ?_
    exact hag
  try clear_value x1482
  extract_lets +onlyGivenNames -merge -useContext -underBinder x1484
  have h1485 : Agree MM so x1484 := by
    subst x1484
    refine Agree.fset ?_ (sub_bit hmm (by decide)) _ _
    exact h1483
  try clear_value x1484
  extract_lets +onlyGivenNames -merge -useContext -underBinder x1486
  have h1487 : Agree MM so x1486 := by
    subst x1486
    refine State.fill_touch (sub_trans (by decide) hmm) ?_
    exact h1485
  try clear_value x1486
  refine State.banksReturn_touch (sub_trans (by decide) hmm) ?_
  exact h1487

theorem State.dropAcquisition_touch {MM : Nat} {so : State} {s : Sys2Proof.Machine.State}
    (hmm : Machine.sub 0x301000000000000000010000000000000040100000000000008200 MM = true) (hag : Agree MM so s) :
    Agree MM so (@State.dropAcquisition s) := by
  unfold State.dropAcquisition
  refine Agree.ite ?_ ?_
  · exact hag
  · extract_lets +onlyGivenNames -merge -useContext -underBinder x2071
    try clear_value x2071
    extract_lets +onlyGivenNames -merge -useContext -underBinder x2072
    have h2073 : Agree MM so x2072 := by
      subst x2072
      refine Agree.ite ?_ ?_
      · refine Agree.fsetB ?_ (sub_bit hmm (by decide)) _ _
        exact hag
      · exact hag
    try clear_value x2072
    refine State.runWritten_touch (sub_trans (by decide) hmm) ?_
    refine Agree.fsetB ?_ (sub_bit hmm (by decide)) _ _
    exact h2073

theorem State.dropBanks_touch {MM : Nat} {so : State} {s : Sys2Proof.Machine.State} {d : ℕ}
    (hmm : Machine.sub 0x1800000000000000018000000000000020c MM = true) (hag : Agree MM so s) :
    Agree MM so (@State.dropBanks s d) := by
  unfold State.dropBanks
  extract_lets +onlyGivenNames -merge -useContext -underBinder x2074
  have h2075 : Agree MM so x2074 := by
    subst x2074
    refine State.forget_touch (sub_trans (by decide) hmm) ?_
    exact hag
  try clear_value x2074
  refine Agree.forEach ?_ (fun y2076 t2077 h2078 => ?_) _
  · exact h2075
  · refine Agree.ite ?_ ?_
    · refine State.unverClear_touch (sub_trans (by decide) hmm) ?_
      exact h2078
    · exact h2078

theorem State.stacksMove_touch {MM : Nat} {so : State} {s : Sys2Proof.Machine.State} {a : ℕ} {b : ℕ}
    (hmm : Machine.sub 0x20020000002000000000000000000000000000000000010000000000000000100000000000000200 MM = true) (hag : Agree MM so s) :
    Agree MM so (@State.stacksMove s a b) := by
  unfold State.stacksMove
  refine Agree.forEach ?_ (fun y2756 t2757 h2758 => ?_) _
  · exact hag
  · refine State.stackState_touch (sub_trans (by decide) hmm) ?_
    exact h2758

theorem State.stepUp_touch {MM : Nat} {so : State} {s : Sys2Proof.Machine.State} {a : ℕ} {b : ℕ}
    (hmm : Machine.sub 0x80000000000000800 MM = true) (hag : Agree MM so s) :
    Agree MM so (@State.stepUp s a b) := by
  unfold State.stepUp
  refine State.setBusy_touch (sub_trans (by decide) hmm) ?_
  refine Agree.set_power ?_ (sub_bit hmm (by decide)) _
  exact hag

theorem State.stacksRestore_touch {MM : Nat} {so : State} {s : Sys2Proof.Machine.State}
    (hmm : Machine.sub 0x20020000002000000000000000000000000000000000010000000000000000180000000000400200 MM = true) (hag : Agree MM so s) :
    Agree MM so (@State.stacksRestore s) := by
  unfold State.stacksRestore
  refine Agree.forEach ?_ (fun y2763 t2764 h2765 => ?_) _
  · exact hag
  · refine State.trainAsk_touch (sub_trans (by decide) hmm) ?_
    exact h2765

theorem State.leaveEvening_touch {MM : Nat} {so : State} {s : Sys2Proof.Machine.State}
    (hmm : Machine.sub 0x4000000000000000000000000000020020000002000000000000000000000000000000000010000000000000000180000000000400a00 MM = true) (hag : Agree MM so s) :
    Agree MM so (@State.leaveEvening s) := by
  unfold State.leaveEvening
  extract_lets +onlyGivenNames -merge -useContext -underBinder x2766
  have h2767 : Agree MM so x2766 := by
    subst x2766
    refine State.stacksRestore_touch (sub_trans (by decide) hmm) ?_
    refine State.setPower_touch (sub_trans (by decide) hmm) ?_
    refine State.stepUp_touch (sub_trans (by decide) hmm) ?_
    exact hag
  try clear_value x2766
  refine State.anaEnable_touch (sub_trans (by decide) hmm) ?_
  exact h2767

theorem State.leaveNight_touch {MM : Nat} {so : State} {s : Sys2Proof.Machine.State} {flipped : List ℕ} {found : Sys2Proof.Contents}
    (hmm : Machine.sub 0x43e0000000004400000020880000001600000000000000000000000000000000000000020000000000000001a0000001001000001800000010020a2a0c MM = true) (hag : Agree MM so s) :
    Agree MM so (@State.leaveNight s flipped found) := by
  unfold State.leaveNight
  extract_lets +onlyGivenNames -merge -useContext -underBinder x2773
  have h2774 : Agree MM so x2773 := by
    subst x2773
    refine State.stepUp_touch (sub_trans (by decide) hmm) ?_
    exact hag
  try clear_value x2773
  extract_lets +onlyGivenNames -merge -useContext -underBinder x2775
  have h2776 : Agree MM so x2775 := by
    subst x2775
    refine Agree.fset ?_ (sub_bit hmm (by decide)) _ _
    exact h2774
  try clear_value x2775
  extract_lets +onlyGivenNames -merge -useContext -underBinder x2777
  have h2778 : Agree MM so x2777 := by
    subst x2777
    refine State.banksReturn_touch (sub_trans (by decide) hmm) ?_
    refine State.acqOn_touch (sub_trans (by decide) hmm) ?_
    exact h2776
  try clear_value x2777
  extract_lets +onlyGivenNames -merge -useContext -underBinder x2779
  have h2780 : Agree MM so x2779 := by
    subst x2779
    refine State.lnkOn_touch (sub_trans (by decide) hmm) ?_
    refine State.setPower_touch (sub_trans (by decide) hmm) ?_
    exact h2778
  try clear_value x2779
  extract_lets +onlyGivenNames -merge -useContext -underBinder x2781
  try clear_value x2781
  extract_lets +onlyGivenNames -merge -useContext -underBinder x2782
  have h2783 : Agree MM so x2782 := by
    subst x2782
    refine Agree.set_power ?_ (sub_bit hmm (by decide)) _
    exact h2780
  try clear_value x2782
  refine State.uartFirstLost_touch (sub_trans (by decide) hmm) ?_
  exact h2783

theorem State.sealRead_touch {MM : Nat} {so : State} {s : Sys2Proof.Machine.State} {d : ℕ} {b : ℕ}
    (hmm : Machine.sub 0x43e0000000000000000000000000000000000000000000000000000000000000000000000000000000000001000000000000001c180000000000080208 MM = true) (hag : Agree MM so s) :
    Agree MM so (@State.sealRead s d b) := by
  unfold State.sealRead
  split
  · rename_i heq
    have h2946 := AgreeP.of_eq (M := MM) (s0 := so) heq (by
      refine State.sramRead_touch (sub_trans (by decide) hmm) ?_
      exact hag
      )
    refine Agree.ite ?_ ?_
    · refine State.logBusErr_touch (sub_trans (by decide) hmm) ?_
      exact h2946
    · exact h2946

theorem State.sealBanks_touch {MM : Nat} {so : State} {s : Sys2Proof.Machine.State} {d : ℕ}
    (hmm : Machine.sub 0x43e0000000000000000000000000000000000000000000000000000000000000000000000000000000000001000000000000001c180000000000080a08 MM = true) (hag : Agree MM so s) :
    Agree MM so (@State.sealBanks s d) := by
  unfold State.sealBanks
  extract_lets +onlyGivenNames -merge -useContext -underBinder x2947
  try clear_value x2947
  extract_lets +onlyGivenNames -merge -useContext -underBinder x2948
  have h2949 : Agree MM so x2948 := by
    subst x2948
    refine Agree.forEach ?_ (fun y2950 t2951 h2952 => ?_) _
    · exact hag
    · refine State.sealRead_touch (sub_trans (by decide) hmm) ?_
      exact h2952
  try clear_value x2948
  extract_lets +onlyGivenNames -merge -useContext -underBinder x2953
  try clear_value x2953
  refine State.retnBusy_touch (sub_trans (by decide) hmm) ?_
  refine Agree.set_power ?_ (sub_bit hmm (by decide)) _
  exact h2949

theorem State.stepDrop_touch {MM : Nat} {so : State} {s : Sys2Proof.Machine.State}
    (hmm : Machine.sub 0x80000000000000800 MM = true) (hag : Agree MM so s) :
    Agree MM so (@State.stepDrop s) := by
  unfold State.stepDrop
  refine State.setBusy_touch (sub_trans (by decide) hmm) ?_
  refine Agree.set_power ?_ (sub_bit hmm (by decide)) _
  exact hag

theorem State.stacksSave_touch {MM : Nat} {so : State} {s : Sys2Proof.Machine.State}
    (hmm : Machine.sub 0x400000 MM = true) (hag : Agree MM so s) :
    Agree MM so (@State.stacksSave s) := by
  unfold State.stacksSave
  refine Agree.forEach ?_ (fun y2954 t2955 h2956 => ?_) _
  · exact hag
  · refine State.setStack_touch (sub_trans (by decide) hmm) ?_
    exact h2956

theorem State.wakeReplay_touch {MM : Nat} {so : State} {s : Sys2Proof.Machine.State}
    (hmm : Machine.sub 0x10300000000078060100000004000000a00 MM = true) (hag : Agree MM so s) :
    Agree MM so (@State.wakeReplay s) := by
  unfold State.wakeReplay
  split
  · exact hag
  · refine Agree.ite ?_ ?_
    · exact hag
    · refine State.wakeGo_touch (sub_trans (by decide) hmm) ?_
      exact hag

theorem State.stepTail_touch {MM : Nat} {so : State} {s : Sys2Proof.Machine.State}
    (hmm : Machine.sub 0x10300000000078060100000004000000a00 MM = true) (hag : Agree MM so s) :
    Agree MM so (@State.stepTail s) := by
  unfold State.stepTail
  extract_lets +onlyGivenNames -merge -useContext -underBinder x2957
  have h2958 : Agree MM so x2957 := by
    subst x2957
    refine State.wakeReplay_touch (sub_trans (by decide) hmm) ?_
    exact hag
  try clear_value x2957
  refine Agree.ite ?_ ?_
  · refine State.setTarget_touch (sub_trans (by decide) hmm) ?_
    exact h2958
  · exact h2958

theorem State.refuse_touch {MM : Nat} {so : State} {s : Sys2Proof.Machine.State} {reason : ℕ}
    (hmm : Machine.sub 0x10000000000000060100000000000000200 MM = true) (hag : Agree MM so s) :
    Agree MM so (@State.refuse s reason) := by
  unfold State.refuse
  extract_lets +onlyGivenNames -merge -useContext -underBinder x2959
  have h2960 : Agree MM so x2959 := by
    subst x2959
    refine Agree.fset ?_ (sub_bit hmm (by decide)) _ _
    refine Agree.fsetB ?_ (sub_bit hmm (by decide)) _ _
    exact hag
  try clear_value x2959
  refine State.irq_touch (sub_trans (by decide) hmm) ?_
  refine State.setTarget_touch (sub_trans (by decide) hmm) ?_
  exact h2960

theorem State.noonRefused_touch {MM : Nat} {so : State} {s : Sys2Proof.Machine.State}
    (hmm : Machine.sub 0xfffffffffffffffffffffffffffffffffffffffffffffffffffffffffffffffffffffffffffffffffffffffffffffffffffffffffffffff000000fdfffffe6c MM = true) (hag : Agree MM so s) :
    Agree MM so (@State.noonRefused s) := by
  unfold State.noonRefused
  extract_lets +onlyGivenNames -merge -useContext -underBinder x2961
  have h2962 : Agree MM so x2961 := by
    subst x2961
    refine Agree.ite ?_ ?_
    · exact hag
    · refine State.switchOff_touch (sub_trans (by decide) hmm) ?_
      refine State.dropBanks_touch (sub_trans (by decide) hmm) ?_
      refine State.sealBanks_touch (sub_trans (by decide) hmm) ?_
      exact hag
  try clear_value x2961
  extract_lets +onlyGivenNames -merge -useContext -underBinder x2963
  have h2964 : Agree MM so x2963 := by
    subst x2963
    refine State.retnBusy_touch (sub_trans (by decide) hmm) ?_
    refine State.stepDrop_touch (sub_trans (by decide) hmm) ?_
    refine State.switchOff_touch (sub_trans (by decide) hmm) ?_
    refine State.stacksSave_touch (sub_trans (by decide) hmm) ?_
    refine State.stacksMove_touch (sub_trans (by decide) hmm) ?_
    exact h2962
  try clear_value x2963
  refine State.stepTail_touch (sub_trans (by decide) hmm) ?_
  refine State.refuse_touch (sub_trans (by decide) hmm) ?_
  refine Agree.set_power ?_ (sub_bit hmm (by decide)) _
  exact h2964

theorem State.nightReached_touch {MM : Nat} {so : State} {s : Sys2Proof.Machine.State}
    (hmm : Machine.sub 0x600000000000000001000800 MM = true) (hag : Agree MM so s) :
    Agree MM so (@State.nightReached s) := by
  unfold State.nightReached
  extract_lets +onlyGivenNames -merge -useContext -underBinder x2965
  try clear_value x2965
  extract_lets +onlyGivenNames -merge -useContext -underBinder x2966
  have h2967 : Agree MM so x2966 := by
    subst x2966
    refine Agree.set_power ?_ (sub_bit hmm (by decide)) _
    exact hag
  try clear_value x2966
  refine Agree.ite ?_ ?_
  · refine State.notReady_touch (sub_trans (by decide) hmm) ?_
    exact h2967
  · exact h2967

theorem State.stepEnd_touch {MM : Nat} {so : State} {s : Sys2Proof.Machine.State} {a : ℕ} {b : ℕ} {clocks : ℕ}
    (hmm : Machine.sub 0x2000000000000000000000000000006680000000000000000000000010380000000678460180000004001100a00 MM = true) (hag : Agree MM so s) :
    Agree MM so (@State.stepEnd s a b clocks) := by
  unfold State.stepEnd
  extract_lets +onlyGivenNames -merge -useContext -underBinder x2968
  have h2969 : Agree MM so x2968 := by
    subst x2968
    refine State.retnBusy_touch (sub_trans (by decide) hmm) ?_
    refine State.stepDrop_touch (sub_trans (by decide) hmm) ?_
    exact hag
  try clear_value x2968
  extract_lets +onlyGivenNames -merge -useContext -underBinder x2970
  have h2971 : Agree MM so x2970 := by
    subst x2970
    refine Agree.fset ?_ (sub_bit hmm (by decide)) _ _
    exact h2969
  try clear_value x2970
  extract_lets +onlyGivenNames -merge -useContext -underBinder x2972
  have h2973 : Agree MM so x2972 := by
    subst x2972
    refine Agree.fset ?_ (sub_bit hmm (by decide)) _ _
    refine Agree.fset ?_ (sub_bit hmm (by decide)) _ _
    refine Agree.fset ?_ (sub_bit hmm (by decide)) _ _
    exact h2971
  try clear_value x2972
  extract_lets +onlyGivenNames -merge -useContext -underBinder x2974
  have h2975 : Agree MM so x2974 := by
    subst x2974
    refine State.irq_touch (sub_trans (by decide) hmm) ?_
    exact h2973
  try clear_value x2974
  extract_lets +onlyGivenNames -merge -useContext -underBinder x2976
  have h2977 : Agree MM so x2976 := by
    subst x2976
    refine Agree.ite ?_ ?_
    · refine State.adcNoon_touch (sub_trans (by decide) hmm) ?_
      refine State.linkLanes_touch (sub_trans (by decide) hmm) ?_
      exact h2975
    · refine Agree.ite ?_ ?_
      · refine State.nightReached_touch (sub_trans (by decide) hmm) ?_
        exact h2975
      · refine Agree.ite ?_ ?_
        · refine Agree.fsetB ?_ (sub_bit hmm (by decide)) _ _
          exact h2975
        · exact h2975
  try clear_value x2976
  refine State.stepTail_touch (sub_trans (by decide) hmm) ?_
  exact h2977

theorem State.modeStepEnd_touch {MM : Nat} {so : State} {s : Sys2Proof.Machine.State} {clocks : ℕ}
    (hmm : Machine.sub 0xfffffffffffffffffffffffffffffffffffffffffffffffffffffffffffffffffffffffffffffffffffffffffffffffffffffffffffffff000000fdfffffe6c MM = true) (hag : Agree MM so s) :
    Agree MM so (@State.modeStepEnd s clocks) := by
  unfold State.modeStepEnd
  split
  · exact hag
  · refine Agree.ite ?_ ?_
    · refine State.noonRefused_touch (sub_trans (by decide) hmm) ?_
      exact hag
    · refine Agree.ite ?_ ?_
      · exact hag
      · refine State.stepEnd_touch (sub_trans (by decide) hmm) ?_
        exact hag

theorem State.pfwAccept_touch {MM : Nat} {so : State} {s : Sys2Proof.Machine.State}
    (hmm : Machine.sub 0x180000000010000000000000040100000000000008a00 MM = true) (hag : Agree MM so s) :
    Agree MM so (@State.pfwAccept s) := by
  unfold State.pfwAccept
  refine Agree.ite ?_ ?_
  · exact hag
  · extract_lets +onlyGivenNames -merge -useContext -underBinder x3023
    have h3024 : Agree MM so x3023 := by
      subst x3023
      refine State.pulse_touch (sub_trans (by decide) hmm) ?_
      refine State.irq_touch (sub_trans (by decide) hmm) ?_
      refine Agree.fsetB ?_ (sub_bit hmm (by decide)) _ _
      exact hag
    try clear_value x3023
    extract_lets +onlyGivenNames -merge -useContext -underBinder x3025
    try clear_value x3025
    extract_lets +onlyGivenNames -merge -useContext -underBinder x3026
    have h3027 : Agree MM so x3026 := by
      subst x3026
      refine Agree.set_power ?_ (sub_bit hmm (by decide)) _
      exact h3024
    try clear_value x3026
    refine Agree.ite ?_ ?_
    · refine State.softSeamRequest_touch (sub_trans (by decide) hmm) ?_
      exact h3027
    · exact h3027

theorem State.pfwClear_touch {MM : Nat} {so : State} {s : Sys2Proof.Machine.State}
    (hmm : Machine.sub 0x10300000000079060100000004000000a00 MM = true) (hag : Agree MM so s) :
    Agree MM so (@State.pfwClear s) := by
  unfold State.pfwClear
  refine Agree.ite ?_ ?_
  · exact hag
  · extract_lets +onlyGivenNames -merge -useContext -underBinder x3028
    have h3029 : Agree MM so x3028 := by
      subst x3028
      refine State.wakeLatch_touch (sub_trans (by decide) hmm) ?_
      refine Agree.fsetB ?_ (sub_bit hmm (by decide)) _ _
      exact hag
    try clear_value x3028
    refine Agree.set_power ?_ (sub_bit hmm (by decide)) _
    exact h3029

theorem State.pfwRelease_touch {MM : Nat} {so : State} {s : Sys2Proof.Machine.State}
    (hmm : Machine.sub 0x10000000000000000100000000000000a00 MM = true) (hag : Agree MM so s) :
    Agree MM so (@State.pfwRelease s) := by
  unfold State.pfwRelease
  refine Agree.ite ?_ ?_
  · exact hag
  · extract_lets +onlyGivenNames -merge -useContext -underBinder x3030
    try clear_value x3030
    extract_lets +onlyGivenNames -merge -useContext -underBinder x3031
    have h3032 : Agree MM so x3031 := by
      subst x3031
      refine Agree.set_power ?_ (sub_bit hmm (by decide)) _
      exact hag
    try clear_value x3031
    refine Agree.ite ?_ ?_
    · refine State.irq_touch (sub_trans (by decide) hmm) ?_
      exact h3032
    · exact h3032

theorem State.sealCheckDone_touch {MM : Nat} {so : State} {s : Sys2Proof.Machine.State}
    (hmm : Machine.sub 0x43e0000000000000000000000000000000000000000000000000000000000000000000000000000000000001c00000000000001c180000000000080208 MM = true) (hag : Agree MM so s) :
    Agree MM so (@State.sealCheckDone s) := by
  unfold State.sealCheckDone
  split
  · exact hag
  · split
    · extract_lets +onlyGivenNames -merge -useContext -underBinder x3168
      have h3169 : Agree MM so x3168 := by
        subst x3168
        refine State.sealRead_touch (sub_trans (by decide) hmm) ?_
        exact hag
      try clear_value x3168
      extract_lets +onlyGivenNames -merge -useContext -underBinder x3170
      try clear_value x3170
      extract_lets +onlyGivenNames -merge -useContext -underBinder x3171
      have h3172 : Agree MM so x3171 := by
        subst x3171
        refine Agree.ite ?_ ?_
        · exact h3169
        · refine State.bankSuspect_touch (sub_trans (by decide) hmm) ?_
          refine State.irq_touch (sub_trans (by decide) hmm) ?_
          refine Agree.fsetBit ?_ (sub_bit hmm (by decide)) _ _ _
          exact h3169
      try clear_value x3171
      refine State.unverClear_touch (sub_trans (by decide) hmm) ?_
      exact h3172

theorem State.stepBegin_touch {MM : Nat} {so : State} {s : Sys2Proof.Machine.State} {a : ℕ} {b : ℕ}
    (hmm : Machine.sub 0x80000000000000800 MM = true) (hag : Agree MM so s) :
    Agree MM so (@State.stepBegin s a b) := by
  unfold State.stepBegin
  refine State.setBusy_touch (sub_trans (by decide) hmm) ?_
  refine Agree.set_power ?_ (sub_bit hmm (by decide)) _
  exact hag

theorem State.tempConvert_touch {MM : Nat} {so : State} {s : Sys2Proof.Machine.State} {n : ℕ} {v : BitVec 16}
    (hmm : Machine.sub 0xe000000000000000000000000000000000000000000000000000000000000000000000000000000000000000010000000200000060100000000020000200 MM = true) (hag : Agree MM so s) :
    Agree MM so (@State.tempConvert s n v) := by
  unfold State.tempConvert
  refine Agree.ite ?_ ?_
  · exact hag
  · extract_lets +onlyGivenNames -merge -useContext -underBinder x3309
    try clear_value x3309
    extract_lets +onlyGivenNames -merge -useContext -underBinder x3310
    try clear_value x3310
    extract_lets +onlyGivenNames -merge -useContext -underBinder x3311
    have h3312 : Agree MM so x3311 := by
      subst x3311
      refine Agree.setReg ?_ (sub_bit hmm (by decide)) _ _
      exact hag
    try clear_value x3311
    extract_lets +onlyGivenNames -merge -useContext -underBinder x3313
    have h3314 : Agree MM so x3313 := by
      subst x3313
      refine Agree.ite ?_ ?_
      · refine Agree.fset ?_ (sub_bit hmm (by decide)) _ _
        exact h3312
      · exact h3312
    try clear_value x3313
    extract_lets +onlyGivenNames -merge -useContext -underBinder x3315
    try clear_value x3315
    extract_lets +onlyGivenNames -merge -useContext -underBinder x3316
    have h3317 : Agree MM so x3316 := by
      subst x3316
      refine Agree.set_temps ?_ (sub_bit hmm (by decide)) _
      exact h3314
    try clear_value x3316
    extract_lets +onlyGivenNames -merge -useContext -underBinder x3318
    try clear_value x3318
    extract_lets +onlyGivenNames -merge -useContext -underBinder x3319
    try clear_value x3319
    extract_lets +onlyGivenNames -merge -useContext -underBinder x3320
    try clear_value x3320
    extract_lets +onlyGivenNames -merge -useContext -underBinder x3321
    have h3322 : Agree MM so x3321 := by
      subst x3321
      refine Agree.ite ?_ ?_
      · refine Agree.set_temps ?_ (sub_bit hmm (by decide)) _
        exact h3317
      · exact h3317
    try clear_value x3321
    extract_lets +onlyGivenNames -merge -useContext -underBinder x3323
    try clear_value x3323
    extract_lets +onlyGivenNames -merge -useContext -underBinder x3324
    have h3325 : Agree MM so x3324 := by
      subst x3324
      refine Agree.ite ?_ ?_
      · refine Agree.set_temps ?_ (sub_bit hmm (by decide)) _
        exact h3322
      · exact h3322
    try clear_value x3324
    extract_lets +onlyGivenNames -merge -useContext -underBinder x3326
    have h3327 : Agree MM so x3326 := by
      subst x3326
      refine State.irq_touch (sub_trans (by decide) hmm) ?_
      refine Agree.fsetBit ?_ (sub_bit hmm (by decide)) _ _ _
      exact h3325
    try clear_value x3326
    extract_lets +onlyGivenNames -merge -useContext -underBinder x3328
    try clear_value x3328
    extract_lets +onlyGivenNames -merge -useContext -underBinder x3329
    have h3330 : Agree MM so x3329 := by
      subst x3329
      refine Agree.ite ?_ ?_
      · refine Agree.set_temps ?_ (sub_bit hmm (by decide)) _
        exact h3327
      · exact h3325
    try clear_value x3329
    refine Agree.ite ?_ ?_
    · extract_lets +onlyGivenNames -merge -useContext -underBinder x3331
      have h3332 : Agree MM so x3331 := by
        subst x3331
        refine State.irq_touch (sub_trans (by decide) hmm) ?_
        refine Agree.fsetBit ?_ (sub_bit hmm (by decide)) _ _ _
        exact h3330
      try clear_value x3331
      extract_lets +onlyGivenNames -merge -useContext -underBinder x3333
      try clear_value x3333
      extract_lets +onlyGivenNames -merge -useContext -underBinder x3334
      have h3335 : Agree MM so x3334 := by
        subst x3334
        refine Agree.set_temps ?_ (sub_bit hmm (by decide)) _
        exact h3332
      try clear_value x3334
      split
      · refine Agree.fset ?_ (sub_bit hmm (by decide)) _ _
        exact h3335
      · refine Agree.ite ?_ ?_
        · exact h3335
        · refine State.setTarget_touch (sub_trans (by decide) hmm) ?_
          exact h3335
      · exact h3335
    · exact h3330

theorem State.thermTrip_touch {MM : Nat} {so : State} {s : Sys2Proof.Machine.State}
    (hmm : Machine.sub 0x10000000000000060100000000000000a00 MM = true) (hag : Agree MM so s) :
    Agree MM so (@State.thermTrip s) := by
  unfold State.thermTrip
  refine Agree.ite ?_ ?_
  · exact hag
  · extract_lets +onlyGivenNames -merge -useContext -underBinder x3345
    have h3346 : Agree MM so x3345 := by
      subst x3345
      refine State.setTarget_touch (sub_trans (by decide) hmm) ?_
      refine State.irq_touch (sub_trans (by decide) hmm) ?_
      refine Agree.fsetB ?_ (sub_bit hmm (by decide)) _ _
      exact hag
    try clear_value x3345
    refine Agree.set_power ?_ (sub_bit hmm (by decide)) _
    exact h3346

theorem State.toAfternoon_touch {MM : Nat} {so : State} {s : Sys2Proof.Machine.State}
    (hmm : Machine.sub 0x20020000002000000000000000000000000000000000010000000000000000180000000000000a00 MM = true) (hag : Agree MM so s) :
    Agree MM so (@State.toAfternoon s) := by
  unfold State.toAfternoon
  extract_lets +onlyGivenNames -merge -useContext -underBinder x3356
  have h3357 : Agree MM so x3356 := by
    subst x3356
    refine State.stacksMove_touch (sub_trans (by decide) hmm) ?_
    refine State.stepBegin_touch (sub_trans (by decide) hmm) ?_
    exact hag
  try clear_value x3356
  refine Agree.ite ?_ ?_
  · refine State.setPower_touch (sub_trans (by decide) hmm) ?_
    exact h3357
  · exact h3357

theorem State.toEvening_touch {MM : Nat} {so : State} {s : Sys2Proof.Machine.State}
    (hmm : Machine.sub 0xfffffffffffffffffffffffffffffffffffffffffffffffffffffffffffffffffffffffffffffffffffffffffffffffffffffffffffffff000000bdfffffe6c MM = true) (hag : Agree MM so s) :
    Agree MM so (@State.toEvening s) := by
  unfold State.toEvening
  extract_lets +onlyGivenNames -merge -useContext -underBinder x3358
  have h3359 : Agree MM so x3358 := by
    subst x3358
    refine State.dropAcquisition_touch (sub_trans (by decide) hmm) ?_
    refine State.stepBegin_touch (sub_trans (by decide) hmm) ?_
    exact hag
  try clear_value x3358
  extract_lets +onlyGivenNames -merge -useContext -underBinder x3360
  have h3361 : Agree MM so x3360 := by
    subst x3360
    refine State.switchOff_touch (sub_trans (by decide) hmm) ?_
    refine State.dropBanks_touch (sub_trans (by decide) hmm) ?_
    refine State.sealBanks_touch (sub_trans (by decide) hmm) ?_
    exact h3359
  try clear_value x3360
  extract_lets +onlyGivenNames -merge -useContext -underBinder x3362
  have h3363 : Agree MM so x3362 := by
    subst x3362
    refine State.switchOff_touch (sub_trans (by decide) hmm) ?_
    refine State.stacksSave_touch (sub_trans (by decide) hmm) ?_
    exact h3361
  try clear_value x3362
  refine State.linkLanes_touch (sub_trans (by decide) hmm) ?_
  refine State.adcEvening_touch (sub_trans (by decide) hmm) ?_
  exact h3363

theorem State.toNight_touch {MM : Nat} {so : State} {s : Sys2Proof.Machine.State}
    (hmm : Machine.sub 0xfffffffffffffffffffffffffffffffffffffffffffffffffffffffffffffffffffffffffffffffffffffffffffffffffffffffffffffff000000bdfffffe6c MM = true) (hag : Agree MM so s) :
    Agree MM so (@State.toNight s) := by
  unfold State.toNight
  extract_lets +onlyGivenNames -merge -useContext -underBinder x3364
  have h3365 : Agree MM so x3364 := by
    subst x3364
    refine State.stepBegin_touch (sub_trans (by decide) hmm) ?_
    exact hag
  try clear_value x3364
  extract_lets +onlyGivenNames -merge -useContext -underBinder x3366
  try clear_value x3366
  extract_lets +onlyGivenNames -merge -useContext -underBinder x3367
  have h3368 : Agree MM so x3367 := by
    subst x3367
    refine Agree.set_power ?_ (sub_bit hmm (by decide)) _
    exact h3365
  try clear_value x3367
  extract_lets +onlyGivenNames -merge -useContext -underBinder x3369
  have h3370 : Agree MM so x3369 := by
    subst x3369
    refine State.sealBanks_touch (sub_trans (by decide) hmm) ?_
    refine State.sealBanks_touch (sub_trans (by decide) hmm) ?_
    exact h3368
  try clear_value x3369
  extract_lets +onlyGivenNames -merge -useContext -underBinder x3371
  have h3372 : Agree MM so x3371 := by
    subst x3371
    refine State.dropSram_touch (sub_trans (by decide) hmm) ?_
    refine State.dropBanks_touch (sub_trans (by decide) hmm) ?_
    refine State.dropBanks_touch (sub_trans (by decide) hmm) ?_
    refine State.dropBanks_touch (sub_trans (by decide) hmm) ?_
    exact h3370
  try clear_value x3371
  extract_lets +onlyGivenNames -merge -useContext -underBinder x3373
  have h3374 : Agree MM so x3373 := by
    subst x3373
    refine State.switchOff_touch (sub_trans (by decide) hmm) ?_
    refine State.switchOff_touch (sub_trans (by decide) hmm) ?_
    exact h3372
  try clear_value x3373
  extract_lets +onlyGivenNames -merge -useContext -underBinder x3375
  have h3376 : Agree MM so x3375 := by
    subst x3375
    refine State.hbmLost_touch (sub_trans (by decide) hmm) ?_
    exact h3374
  try clear_value x3375
  extract_lets +onlyGivenNames -merge -useContext -underBinder x3377
  try clear_value x3377
  extract_lets +onlyGivenNames -merge -useContext -underBinder x3378
  have h3379 : Agree MM so x3378 := by
    subst x3378
    refine Agree.ite ?_ ?_
    · exact h3374
    · refine Agree.set_power ?_ (sub_bit hmm (by decide)) _
      exact h3376
  try clear_value x3378
  refine State.notReady_touch (sub_trans (by decide) hmm) ?_
  exact h3379

theorem State.tryStep_touch {MM : Nat} {so : State} {s : Sys2Proof.Machine.State} {a : ℕ} {b : ℕ} {f : Sys2Proof.Machine.State → Sys2Proof.Machine.State}
    (hmm : Machine.sub 0x10000000000000060100000000000000200 MM = true) (hf3 : ∀ tt, Agree MM so tt → Agree MM so (f tt)) (hag : Agree MM so s) :
    Agree MM so (@State.tryStep s a b f) := by
  unfold State.tryStep
  refine Agree.ite ?_ ?_
  · exact hag
  · extract_lets +onlyGivenNames -merge -useContext -underBinder x3400
    try clear_value x3400
    refine Agree.ite ?_ ?_
    · refine State.refuse_touch (sub_trans (by decide) hmm) ?_
      exact hag
    · refine hf3 _ ?_
      exact hag

end Sys2Proof.Machine
end

