-- ==== Sys2Proof/Laws/Touch/Clock.lean ====
section
/-!
SUPPORT. What the functions of Machine/Clock.lean can touch: one lemma per function, its mask after `sub`.
-/

namespace Sys2Proof.Machine

theorem State.clkRefuse_touch {MM : Nat} {so : State} {s : Sys2Proof.Machine.State}
    (hmm : Machine.sub 0x10000000000800000100000000000000200 MM = true) (hag : Agree MM so s) :
    Agree MM so (@State.clkRefuse s) := by
  unfold State.clkRefuse
  refine State.irq_touch (sub_trans (by decide) hmm) ?_
  refine Agree.fsetB ?_ (sub_bit hmm (by decide)) _ _
  exact hag

theorem State.domRelease_touch {MM : Nat} {so : State} {s : Sys2Proof.Machine.State} {d : ℕ}
    (hmm : Machine.sub 0x8800000016000000000000000000000000000000000000000200000000000000010300000010000000180000005002022200 MM = true) (hag : Agree MM so s) :
    Agree MM so (@State.domRelease s d) := by
  unfold State.domRelease
  refine Agree.ite ?_ ?_
  · exact hag
  · extract_lets +onlyGivenNames -merge -useContext -underBinder x98
    have h99 : Agree MM so x98 := by
      subst x98
      refine State.setClkState_touch (sub_trans (by decide) hmm) ?_
      exact hag
    try clear_value x98
    split
    · extract_lets +onlyGivenNames -merge -useContext -underBinder x100
      try clear_value x100
      extract_lets +onlyGivenNames -merge -useContext -underBinder x101
      have h102 : Agree MM so x101 := by
        subst x101
        refine Agree.set_boot ?_ (sub_bit hmm (by decide)) _
        exact h99
      try clear_value x101
      extract_lets +onlyGivenNames -merge -useContext -underBinder x103
      try clear_value x103
      refine State.tachThaw_touch (sub_trans (by decide) hmm) ?_
      refine State.bkPut_touch (sub_trans (by decide) hmm) ?_
      exact h102
    · refine State.lnkOn_touch (sub_trans (by decide) hmm) ?_
      exact h99
    · exact h99

theorem State.monRelease_touch {MM : Nat} {so : State} {s : Sys2Proof.Machine.State} {m : ℕ}
    (hmm : Machine.sub 0x8800000016000000000000000000000000000000000000000200000000000000010300000010000000180000005002022200 MM = true) (hag : Agree MM so s) :
    Agree MM so (@State.monRelease s m) := by
  unfold State.monRelease
  refine Agree.forEach ?_ (fun y104 t105 h106 => ?_) _
  · exact hag
  · refine State.domRelease_touch (sub_trans (by decide) hmm) ?_
    exact h106

theorem State.laterSwaps_touch {MM : Nat} {so : State} {s : Sys2Proof.Machine.State}
    (hmm : Machine.sub 0xfffffffffffffffffffffffffffffffffffffffffffffffffffffffffffffffffffffffffffffffffffffffffffffffffffffffffffffff0000000000800600 MM = true) (hag : Agree MM so s) :
    Agree MM so (@State.laterSwaps s) := by
  unfold State.laterSwaps
  extract_lets +onlyGivenNames -merge -useContext -underBinder x296
  try clear_value x296
  extract_lets +onlyGivenNames -merge -useContext -underBinder x297
  try clear_value x297
  extract_lets +onlyGivenNames -merge -useContext -underBinder x298
  try clear_value x298
  extract_lets +onlyGivenNames -merge -useContext -underBinder x299
  have h300 : Agree MM so x299 := by
    subst x299
    refine Agree.set_basket ?_ (sub_bit hmm (by decide)) _
    exact hag
  try clear_value x299
  extract_lets +onlyGivenNames -merge -useContext -underBinder x301
  have h302 : Agree MM so x301 := by
    subst x301
    refine Agree.forEach ?_ (fun y303 t304 h305 => ?_) _
    · exact h300
    · split
      · refine Agree.setReg ?_ (allBit (sub_trans (by decide) hmm) _) _ _
        exact h305
      · exact h305
  try clear_value x301
  refine Agree.forEach ?_ (fun y306 t307 h308 => ?_) _
  · exact h302
  · refine State.welRefresh_touch (sub_trans (by decide) hmm) ?_
    exact h308

theorem State.anaRestart_touch {MM : Nat} {so : State} {s : Sys2Proof.Machine.State}
    (hmm : Machine.sub 0xfffffffffffffffffffffffffffffffffffffffffffffffffffffffffffffffffffffffffffffffffffffffffffffffffffffffffffffff0000000000880608 MM = true) (hag : Agree MM so s) :
    Agree MM so (@State.anaRestart s) := by
  unfold State.anaRestart
  refine Agree.ite ?_ ?_
  · refine State.frameRestart_touch (sub_trans (by decide) hmm) ?_
    refine State.laterSwaps_touch (sub_trans (by decide) hmm) ?_
    exact hag
  · exact hag

theorem State.domResume_touch {MM : Nat} {so : State} {s : Sys2Proof.Machine.State} {d : ℕ}
    (hmm : Machine.sub 0xfffffffffffffffffffffffffffffffffffffffffffffffffffffffffffffffffffffffffffffffffffffffffffffffffffffffffffffff0000000006baa608 MM = true) (hag : Agree MM so s) :
    Agree MM so (@State.domResume s d) := by
  unfold State.domResume
  refine Agree.ite ?_ ?_
  · exact hag
  · extract_lets +onlyGivenNames -merge -useContext -underBinder x309
    have h310 : Agree MM so x309 := by
      subst x309
      refine State.setClkState_touch (sub_trans (by decide) hmm) ?_
      exact hag
    try clear_value x309
    split
    · extract_lets +onlyGivenNames -merge -useContext -underBinder x311
      have h312 : Agree MM so x311 := by
        subst x311
        refine State.adcResume_touch (sub_trans (by decide) hmm) ?_
        refine State.gpioFollow_touch (sub_trans (by decide) hmm) ?_
        refine Agree.fsetB ?_ (sub_bit hmm (by decide)) _ _
        exact h310
      try clear_value x311
      extract_lets +onlyGivenNames -merge -useContext -underBinder x313
      try clear_value x313
      extract_lets +onlyGivenNames -merge -useContext -underBinder x314
      have h315 : Agree MM so x314 := by
        subst x314
        refine Agree.set_chains ?_ (sub_bit hmm (by decide)) _
        exact h312
      try clear_value x314
      extract_lets +onlyGivenNames -merge -useContext -underBinder x316
      have h317 : Agree MM so x316 := by
        subst x316
        refine Agree.ite ?_ ?_
        · refine State.startTimer_touch (sub_trans (by decide) hmm) ?_
          exact h315
        · exact h315
      try clear_value x316
      extract_lets +onlyGivenNames -merge -useContext -underBinder x318
      have h319 : Agree MM so x318 := by
        subst x318
        refine State.tachThaw_touch (sub_trans (by decide) hmm) ?_
        exact h317
      try clear_value x318
      refine Agree.forEach ?_ (fun y320 t321 h322 => ?_) _
      · exact h319
      · refine State.uartNext_touch (sub_trans (by decide) hmm) ?_
        exact h322
    · refine State.anaRestart_touch (sub_trans (by decide) hmm) ?_
      exact h310
    · refine State.laterSwaps_touch (sub_trans (by decide) hmm) ?_
      exact h310
    · refine State.lnkOn_touch (sub_trans (by decide) hmm) ?_
      refine State.laterSwaps_touch (sub_trans (by decide) hmm) ?_
      exact h310
    · exact h310

theorem State.monResume_touch {MM : Nat} {so : State} {s : Sys2Proof.Machine.State} {m : ℕ}
    (hmm : Machine.sub 0xfffffffffffffffffffffffffffffffffffffffffffffffffffffffffffffffffffffffffffffffffffffffffffffffffffffffffffffff0000000006baa608 MM = true) (hag : Agree MM so s) :
    Agree MM so (@State.monResume s m) := by
  unfold State.monResume
  refine Agree.forEach ?_ (fun y323 t324 h325 => ?_) _
  · exact hag
  · refine State.domResume_touch (sub_trans (by decide) hmm) ?_
    exact h325

theorem State.idbAbandon_touch {MM : Nat} {so : State} {s : Sys2Proof.Machine.State}
    (hmm : Machine.sub 0x180000000000000000000000000000000000000000000000000000000000000000000000010000000000000000180000000000040200 MM = true) (hag : Agree MM so s) :
    Agree MM so (@State.idbAbandon s) := by
  unfold State.idbAbandon
  extract_lets +onlyGivenNames -merge -useContext -underBinder x578
  have h579 : Agree MM so x578 := by
    subst x578
    refine Agree.forEach ?_ (fun y580 t581 h582 => ?_) _
    · exact hag
    · extract_lets +onlyGivenNames -merge -useContext -underBinder x583
      have h584 : Agree MM so x583 := by
        subst x583
        refine Agree.set_idb ?_ (sub_bit hmm (by decide)) _
        exact h582
      try clear_value x583
      extract_lets +onlyGivenNames -merge -useContext -underBinder x585
      have h586 : Agree MM so x585 := by
        subst x585
        refine Agree.fsetB ?_ (sub_bit hmm (by decide)) _ _
        refine Agree.fsetB ?_ (sub_bit hmm (by decide)) _ _
        refine Agree.fsetB ?_ (sub_bit hmm (by decide)) _ _
        exact h584
      try clear_value x585
      refine State.irq_touch (sub_trans (by decide) hmm) ?_
      refine Agree.fsetB ?_ (sub_bit hmm (by decide)) _ _
      exact h586
  try clear_value x578
  refine State.idbBusy_touch (sub_trans (by decide) hmm) ?_
  exact h579

theorem State.xspiAbandon_touch {MM : Nat} {so : State} {s : Sys2Proof.Machine.State}
    (hmm : Machine.sub 0x20200000000000000000000000000000000000000000000000000000000000000000000010000000000000000180000000100000200 MM = true) (hag : Agree MM so s) :
    Agree MM so (@State.xspiAbandon s) := by
  unfold State.xspiAbandon
  refine Agree.ite ?_ ?_
  · exact hag
  · extract_lets +onlyGivenNames -merge -useContext -underBinder x587
    try clear_value x587
    extract_lets +onlyGivenNames -merge -useContext -underBinder x588
    have h589 : Agree MM so x588 := by
      subst x588
      refine Agree.set_xspi ?_ (sub_bit hmm (by decide)) _
      exact hag
    try clear_value x588
    extract_lets +onlyGivenNames -merge -useContext -underBinder x590
    have h591 : Agree MM so x590 := by
      subst x590
      refine Agree.fsetB ?_ (sub_bit hmm (by decide)) _ _
      refine Agree.fsetB ?_ (sub_bit hmm (by decide)) _ _
      exact h589
    try clear_value x590
    extract_lets +onlyGivenNames -merge -useContext -underBinder x592
    have h593 : Agree MM so x592 := by
      subst x592
      refine State.setBusy_touch (sub_trans (by decide) hmm) ?_
      refine Agree.fsetB ?_ (sub_bit hmm (by decide)) _ _
      exact h591
    try clear_value x592
    refine State.irq_touch (sub_trans (by decide) hmm) ?_
    refine Agree.fsetB ?_ (sub_bit hmm (by decide)) _ _
    exact h593

theorem State.acqSafe_touch {MM : Nat} {so : State} {s : Sys2Proof.Machine.State}
    (hmm : Machine.sub 0xfffffffffffffffffffffffffffffffffffffffffffffffffffffffffffffffffffffffffffffffffffffffffffffffffffffffffffffff0000000104348a00 MM = true) (hag : Agree MM so s) :
    Agree MM so (@State.acqSafe s) := by
  unfold State.acqSafe
  extract_lets +onlyGivenNames -merge -useContext -underBinder x594
  have h595 : Agree MM so x594 := by
    subst x594
    refine State.uartClockFail_touch (sub_trans (by decide) hmm) ?_
    refine State.adcClockFail_touch (sub_trans (by decide) hmm) ?_
    exact hag
  try clear_value x594
  extract_lets +onlyGivenNames -merge -useContext -underBinder x596
  try clear_value x596
  extract_lets +onlyGivenNames -merge -useContext -underBinder x597
  have h598 : Agree MM so x597 := by
    subst x597
    refine Agree.set_epoch ?_ (sub_bit hmm (by decide)) _
    exact h595
  try clear_value x597
  extract_lets +onlyGivenNames -merge -useContext -underBinder x599
  have h600 : Agree MM so x599 := by
    subst x599
    refine State.idbAbandon_touch (sub_trans (by decide) hmm) ?_
    refine State.xspiAbandon_touch (sub_trans (by decide) hmm) ?_
    exact h598
  try clear_value x599
  extract_lets +onlyGivenNames -merge -useContext -underBinder x601
  have h602 : Agree MM so x601 := by
    subst x601
    refine Agree.forEach ?_ (fun y603 t604 h605 => ?_) _
    · exact h600
    · refine State.rlBreak_touch (sub_trans (by decide) hmm) ?_
      exact h605
  try clear_value x601
  refine State.gpioFollow_touch (sub_trans (by decide) hmm) ?_
  refine State.ringHold_touch (sub_trans (by decide) hmm) ?_
  exact h602

theorem State.clkEnWritten_touch {MM : Nat} {so : State} {s : Sys2Proof.Machine.State}
    (hmm : Machine.sub 0x600000000000000001000000 MM = true) (hag : Agree MM so s) :
    Agree MM so (@State.clkEnWritten s) := by
  unfold State.clkEnWritten
  refine State.notReady_touch (sub_trans (by decide) hmm) ?_
  exact hag

theorem State.dvfsWritten_touch {MM : Nat} {so : State} {s : Sys2Proof.Machine.State}
    (hmm : Machine.sub 0x10000000100000000100000000000000200 MM = true) (hag : Agree MM so s) :
    Agree MM so (@State.dvfsWritten s) := by
  unfold State.dvfsWritten
  extract_lets +onlyGivenNames -merge -useContext -underBinder x870
  try clear_value x870
  refine Agree.ite ?_ ?_
  · refine State.irq_touch (sub_trans (by decide) hmm) ?_
    refine Agree.fsetB ?_ (sub_bit hmm (by decide)) _ _
    exact hag
  · exact hag

theorem State.pmbBegin_touch {MM : Nat} {so : State} {s : Sys2Proof.Machine.State}
    (hmm : Machine.sub 0x80000000010000000 MM = true) (hag : Agree MM so s) :
    Agree MM so (@State.pmbBegin s) := by
  unfold State.pmbBegin
  refine State.setBusy_touch (sub_trans (by decide) hmm) ?_
  refine Agree.set_clocks ?_ (sub_bit hmm (by decide)) _
  exact hag

theorem State.memSafe_touch {MM : Nat} {so : State} {s : Sys2Proof.Machine.State}
    (hmm : Machine.sub 0x2003000000200000000000000000000000000000000001000000000000000018000000000040020c MM = true) (hag : Agree MM so s) :
    Agree MM so (@State.memSafe s) := by
  unfold State.memSafe
  refine State.hbmLost_touch (sub_trans (by decide) hmm) ?_
  refine Agree.forEach ?_ (fun y1491 t1492 h1493 => ?_) _
  · exact hag
  · refine State.trainEnd_touch (sub_trans (by decide) hmm) ?_
    exact h1493

theorem State.domReset_touch {MM : Nat} {so : State} {s : Sys2Proof.Machine.State} {d : ℕ}
    (hmm : Machine.sub 0xfffffffffffffffffffffffffffffffffffffffffffffffffffffffffffffffffffffffffffffffffffffffffffffffffffffffffffffff000000bdeefffe6c MM = true) (hag : Agree MM so s) :
    Agree MM so (@State.domReset s d) := by
  unfold State.domReset
  extract_lets +onlyGivenNames -merge -useContext -underBinder x1494
  subst x1494
  beta_reduce
  extract_lets +onlyGivenNames -merge -useContext -underBinder x1495
  have h1496 : Agree MM so x1495 := by
    subst x1495
    refine State.irq_touch (sub_trans (by decide) hmm) ?_
    refine State.setClkState_touch (sub_trans (by decide) hmm) ?_
    exact hag
  try clear_value x1495
  split
  · extract_lets +onlyGivenNames -merge -useContext -underBinder x1497
    try clear_value x1497
    extract_lets +onlyGivenNames -merge -useContext -underBinder x1498
    have h1499 : Agree MM so x1498 := by
      subst x1498
      exact h1496
    try clear_value x1498
    extract_lets +onlyGivenNames -merge -useContext -underBinder x1500
    have h1501 : Agree MM so x1500 := by
      subst x1500
      refine Agree.fsetB ?_ (sub_bit hmm (by decide)) _ _
      refine State.resetAcq_touch (sub_trans (by decide) hmm) ?_
      refine State.acqSafe_touch (sub_trans (by decide) hmm) ?_
      exact h1496
    try clear_value x1500
    extract_lets +onlyGivenNames -merge -useContext -underBinder x1502
    have h1503 : Agree MM so x1502 := by
      subst x1502
      refine Agree.forEach ?_ (fun y1504 t1505 h1506 => ?_) _
      · exact h1501
      · refine Agree.fset ?_ (allBit (sub_trans (by decide) hmm) _) _ _
        exact h1506
    try clear_value x1502
    extract_lets +onlyGivenNames -merge -useContext -underBinder x1507
    have h1508 : Agree MM so x1507 := by
      subst x1507
      refine Agree.set_wdts ?_ (sub_bit hmm (by decide)) _
      exact h1503
    try clear_value x1507
    refine Agree.ite ?_ ?_
    · refine Agree.fset ?_ (sub_bit hmm (by decide)) _ _
      exact h1508
    · refine State.irq_touch (sub_trans (by decide) hmm) ?_
      refine State.setClkState_touch (sub_trans (by decide) hmm) ?_
      refine State.resetAna_touch (sub_trans (by decide) hmm) ?_
      refine State.laterLost_touch (sub_trans (by decide) hmm) ?_
      refine Agree.fset ?_ (sub_bit hmm (by decide)) _ _
      exact h1508
  · refine State.resetAna_touch (sub_trans (by decide) hmm) ?_
    refine State.laterLost_touch (sub_trans (by decide) hmm) ?_
    exact h1496
  · refine State.resetMem_touch (sub_trans (by decide) hmm) ?_
    refine State.memSafe_touch (sub_trans (by decide) hmm) ?_
    refine State.laterLost_touch (sub_trans (by decide) hmm) ?_
    exact h1496
  · refine State.resetLnk_touch (sub_trans (by decide) hmm) ?_
    refine State.laterLost_touch (sub_trans (by decide) hmm) ?_
    exact h1496

theorem State.anaPgFall_touch {MM : Nat} {so : State} {s : Sys2Proof.Machine.State}
    (hmm : Machine.sub 0xfffffffffffffffffffffffffffffffffffffffffffffffffffffffffffffffffffffffffffffffffffffffffffffffffffffffffffffff000000bdfefffe6c MM = true) (hag : Agree MM so s) :
    Agree MM so (@State.anaPgFall s) := by
  unfold State.anaPgFall
  refine Agree.ite ?_ ?_
  · exact hag
  · extract_lets +onlyGivenNames -merge -useContext -underBinder x1509
    try clear_value x1509
    extract_lets +onlyGivenNames -merge -useContext -underBinder x1510
    have h1511 : Agree MM so x1510 := by
      subst x1510
      refine Agree.set_power ?_ (sub_bit hmm (by decide)) _
      exact hag
    try clear_value x1510
    refine Agree.ite ?_ ?_
    · exact h1511
    · extract_lets +onlyGivenNames -merge -useContext -underBinder x1512
      try clear_value x1512
      extract_lets +onlyGivenNames -merge -useContext -underBinder x1513
      have h1514 : Agree MM so x1513 := by
        subst x1513
        refine Agree.set_clocks ?_ (sub_bit hmm (by decide)) _
        exact h1511
      try clear_value x1513
      refine State.domReset_touch (sub_trans (by decide) hmm) ?_
      refine State.irq_touch (sub_trans (by decide) hmm) ?_
      refine Agree.fsetBit ?_ (sub_bit hmm (by decide)) _ _ _
      exact h1514

theorem State.anaPgRise_touch {MM : Nat} {so : State} {s : Sys2Proof.Machine.State} {flipped : List ℕ} {found : Sys2Proof.Contents}
    (hmm : Machine.sub 0x43e0000000000000000000000000000000000000000000000000000000000000000000000000000000000001a000000100000000180000000000080a0c MM = true) (hag : Agree MM so s) :
    Agree MM so (@State.anaPgRise s flipped found) := by
  unfold State.anaPgRise
  refine Agree.ite ?_ ?_
  · exact hag
  · extract_lets +onlyGivenNames -merge -useContext -underBinder x1515
    try clear_value x1515
    extract_lets +onlyGivenNames -merge -useContext -underBinder x1516
    have h1517 : Agree MM so x1516 := by
      subst x1516
      refine Agree.set_power ?_ (sub_bit hmm (by decide)) _
      exact hag
    try clear_value x1516
    refine Agree.ite ?_ ?_
    · refine State.anaOn_touch (sub_trans (by decide) hmm) ?_
      exact h1517
    · exact h1517

theorem State.safeState_touch {MM : Nat} {so : State} {s : Sys2Proof.Machine.State} {d : ℕ}
    (hmm : Machine.sub 0xfffffffffffffffffffffffffffffffffffffffffffffffffffffffffffffffffffffffffffffffffffffffffffffffffffffffffffffff0000000106748a0c MM = true) (hag : Agree MM so s) :
    Agree MM so (@State.safeState s d) := by
  unfold State.safeState
  split
  · refine State.acqSafe_touch (sub_trans (by decide) hmm) ?_
    exact hag
  · refine State.memSafe_touch (sub_trans (by decide) hmm) ?_
    exact hag
  · refine State.linksOff_touch (sub_trans (by decide) hmm) ?_
    exact hag
  · exact hag

theorem State.domFail_touch {MM : Nat} {so : State} {s : Sys2Proof.Machine.State} {d : ℕ} {lost : List ℕ}
    (hmm : Machine.sub 0xfffffffffffffffffffffffffffffffffffffffffffffffffffffffffffffffffffffffffffffffffffffffffffffffffffffffffffffff0000000116768a0c MM = true) (hag : Agree MM so s) :
    Agree MM so (@State.domFail s d lost) := by
  unfold State.domFail
  refine Agree.ite ?_ ?_
  · exact hag
  · extract_lets +onlyGivenNames -merge -useContext -underBinder x1870
    try clear_value x1870
    extract_lets +onlyGivenNames -merge -useContext -underBinder x1871
    try clear_value x1871
    extract_lets +onlyGivenNames -merge -useContext -underBinder x1872
    try clear_value x1872
    extract_lets +onlyGivenNames -merge -useContext -underBinder x1873
    try clear_value x1873
    extract_lets +onlyGivenNames -merge -useContext -underBinder x1874
    have h1875 : Agree MM so x1874 := by
      subst x1874
      refine Agree.set_clocks ?_ (sub_bit hmm (by decide)) _
      exact hag
    try clear_value x1874
    refine Agree.ite ?_ ?_
    · refine State.timeFollow_touch (sub_trans (by decide) hmm) ?_
      refine State.setClkState_touch (sub_trans (by decide) hmm) ?_
      refine State.safeState_touch (sub_trans (by decide) hmm) ?_
      exact h1875
    · refine Agree.ite ?_ ?_
      · refine State.setClkState_touch (sub_trans (by decide) hmm) ?_
        exact h1875
      · exact h1875

theorem State.clockFailed_touch {MM : Nat} {so : State} {s : Sys2Proof.Machine.State} {i : ℕ}
    (hmm : Machine.sub 0xfffffffffffffffffffffffffffffffffffffffffffffffffffffffffffffffffffffffffffffffffffffffffffffffffffffffffffffff0000000117768a0c MM = true) (hag : Agree MM so s) :
    Agree MM so (@State.clockFailed s i) := by
  unfold State.clockFailed
  refine Agree.ite ?_ ?_
  · exact hag
  · extract_lets +onlyGivenNames -merge -useContext -underBinder x1876
    try clear_value x1876
    extract_lets +onlyGivenNames -merge -useContext -underBinder x1877
    try clear_value x1877
    extract_lets +onlyGivenNames -merge -useContext -underBinder x1878
    have h1879 : Agree MM so x1878 := by
      subst x1878
      refine Agree.forEach ?_ (fun y1880 t1881 h1882 => ?_) _
      · exact hag
      · refine Agree.fsetBit ?_ (sub_bit hmm (by decide)) _ _ _
        exact h1882
    try clear_value x1878
    extract_lets +onlyGivenNames -merge -useContext -underBinder x1883
    have h1884 : Agree MM so x1883 := by
      subst x1883
      refine State.notReady_touch (sub_trans (by decide) hmm) ?_
      refine State.irq_touch (sub_trans (by decide) hmm) ?_
      exact h1879
    try clear_value x1883
    extract_lets +onlyGivenNames -merge -useContext -underBinder x1885
    have h1886 : Agree MM so x1885 := by
      subst x1885
      refine Agree.ite ?_ ?_
      · refine State.lfxoReady_touch (sub_trans (by decide) hmm) ?_
        exact h1884
      · exact h1884
    try clear_value x1885
    refine Agree.forEach ?_ (fun y1887 t1888 h1889 => ?_) _
    · exact h1886
    · refine State.domFail_touch (sub_trans (by decide) hmm) ?_
      exact h1889

theorem State.holdDomains_touch {MM : Nat} {so : State} {s : Sys2Proof.Machine.State}
    (hmm : Machine.sub 0xfffffffffffffffffffffffffffffffffffffffffffffffffffffffffffffffffffffffffffffffffffffffffffffffffffffffffffffff0000000006baa608 MM = true) (hag : Agree MM so s) :
    Agree MM so (@State.holdDomains s) := by
  unfold State.holdDomains
  refine Agree.forEach ?_ (fun y1890 t1891 h1892 => ?_) _
  · exact hag
  · refine Agree.ite ?_ ?_
    · extract_lets +onlyGivenNames -merge -useContext -underBinder x1893
      have h1894 : Agree MM so x1893 := by
        subst x1893
        refine State.irq_touch (sub_trans (by decide) hmm) ?_
        refine State.setClkState_touch (sub_trans (by decide) hmm) ?_
        exact h1892
      try clear_value x1893
      refine Agree.ite ?_ ?_
      · refine State.domResume_touch (sub_trans (by decide) hmm) ?_
        exact h1894
      · exact h1894
    · exact h1892

theorem State.sourceReady_touch {MM : Nat} {so : State} {s : Sys2Proof.Machine.State} {i : ℕ}
    (hmm : Machine.sub 0xfffffffffffffffffffffffffffffffffffffffffffffffffffffffffffffffffffffffffffffffffffffffffffffffffffffffffffffff0000000007baa608 MM = true) (hag : Agree MM so s) :
    Agree MM so (@State.sourceReady s i) := by
  unfold State.sourceReady
  extract_lets +onlyGivenNames -merge -useContext -underBinder x1895
  try clear_value x1895
  refine Agree.ite ?_ ?_
  · exact hag
  · refine Agree.ite ?_ ?_
    · refine State.lfxoReady_touch (sub_trans (by decide) hmm) ?_
      exact hag
    · extract_lets +onlyGivenNames -merge -useContext -underBinder x1896
      have h1897 : Agree MM so x1896 := by
        subst x1896
        refine Agree.fsetBit ?_ (sub_bit hmm (by decide)) _ _ _
        exact hag
      try clear_value x1896
      extract_lets +onlyGivenNames -merge -useContext -underBinder x1898
      have h1899 : Agree MM so x1898 := by
        subst x1898
        refine Agree.ite ?_ ?_
        · refine Agree.fset ?_ (sub_bit hmm (by decide)) _ _
          exact h1897
        · exact h1897
      try clear_value x1898
      extract_lets +onlyGivenNames -merge -useContext -underBinder x1900
      have h1901 : Agree MM so x1900 := by
        subst x1900
        refine State.holdDomains_touch (sub_trans (by decide) hmm) ?_
        exact h1899
      try clear_value x1900
      extract_lets +onlyGivenNames -merge -useContext -underBinder x1902
      have h1903 : Agree MM so x1902 := by
        subst x1902
        refine Agree.ite ?_ ?_
        · refine State.timerReady_touch (sub_trans (by decide) hmm) ?_
          refine State.tachThaw_touch (sub_trans (by decide) hmm) ?_
          exact h1901
        · exact h1901
      try clear_value x1902
      extract_lets +onlyGivenNames -merge -useContext -underBinder x1904
      have h1905 : Agree MM so x1904 := by
        subst x1904
        refine Agree.ite ?_ ?_
        · refine Agree.forEach ?_ (fun y1906 t1907 h1908 => ?_) _
          · exact h1903
          · refine State.uartNext_touch (sub_trans (by decide) hmm) ?_
            exact h1908
        · exact h1903
      try clear_value x1904
      refine Agree.ite ?_ ?_
      · refine Agree.forEach ?_ (fun y1909 t1910 h1911 => ?_) _
        · exact h1905
        · refine State.portRefresh_touch (sub_trans (by decide) hmm) ?_
          exact h1911
      · exact h1905

theorem State.dvfsDone_touch {MM : Nat} {so : State} {s : Sys2Proof.Machine.State} {answers : Bool} {alert : Bool} {mv : ℕ}
    (hmm : Machine.sub 0x4000000000000000000000000000000000000000000000000000000000000000000000000010000000180000000180000000010000a00 MM = true) (hag : Agree MM so s) :
    Agree MM so (@State.dvfsDone s answers alert mv) := by
  unfold State.dvfsDone
  split
  · exact hag
  · refine Agree.ite ?_ ?_
    · exact hag
    · extract_lets +onlyGivenNames -merge -useContext -underBinder x2079
      try clear_value x2079
      extract_lets +onlyGivenNames -merge -useContext -underBinder x2080
      have h2081 : Agree MM so x2080 := by
        subst x2080
        refine State.setBusy_touch (sub_trans (by decide) hmm) ?_
        refine Agree.set_clocks ?_ (sub_bit hmm (by decide)) _
        exact hag
      try clear_value x2080
      extract_lets +onlyGivenNames -merge -useContext -underBinder x2082
      have h2083 : Agree MM so x2082 := by
        subst x2082
        refine Agree.ite ?_ ?_
        · refine Agree.fset ?_ (sub_bit hmm (by decide)) _ _
          exact h2081
        · exact h2081
      try clear_value x2082
      extract_lets +onlyGivenNames -merge -useContext -underBinder x2084
      try clear_value x2084
      extract_lets +onlyGivenNames -merge -useContext -underBinder x2085
      try clear_value x2085
      extract_lets +onlyGivenNames -merge -useContext -underBinder x2086
      try clear_value x2086
      extract_lets +onlyGivenNames -merge -useContext -underBinder x2087
      try clear_value x2087
      extract_lets +onlyGivenNames -merge -useContext -underBinder x2088
      have h2089 : Agree MM so x2088 := by
        subst x2088
        refine Agree.set_power ?_ (sub_bit hmm (by decide)) _
        exact h2083
      try clear_value x2088
      extract_lets +onlyGivenNames -merge -useContext -underBinder x2090
      have h2091 : Agree MM so x2090 := by
        subst x2090
        refine State.irq_touch (sub_trans (by decide) hmm) ?_
        refine Agree.fset ?_ (sub_bit hmm (by decide)) _ _
        refine Agree.fsetB ?_ (sub_bit hmm (by decide)) _ _
        exact h2089
      try clear_value x2090
      extract_lets +onlyGivenNames -merge -useContext -underBinder x2092
      have h2093 : Agree MM so x2092 := by
        subst x2092
        refine Agree.ite ?_ ?_
        · refine Agree.fset ?_ (sub_bit hmm (by decide)) _ _
          exact h2091
        · refine Agree.fset ?_ (sub_bit hmm (by decide)) _ _
          exact h2091
      try clear_value x2092
      extract_lets +onlyGivenNames -merge -useContext -underBinder x2094
      have h2095 : Agree MM so x2094 := by
        subst x2094
        refine Agree.ite ?_ ?_
        · refine Agree.ite ?_ ?_
          · refine Agree.ite ?_ ?_
            · refine Agree.fset ?_ (sub_bit hmm (by decide)) _ _
              exact h2083
            · refine Agree.fset ?_ (sub_bit hmm (by decide)) _ _
              exact h2083
          · exact h2083
        · refine Agree.ite ?_ ?_
          · refine Agree.fset ?_ (sub_bit hmm (by decide)) _ _
            exact h2093
          · exact h2093
      try clear_value x2094
      refine State.irq_touch (sub_trans (by decide) hmm) ?_
      exact h2095

theorem State.dvfsStart_touch {MM : Nat} {so : State} {s : Sys2Proof.Machine.State}
    (hmm : Machine.sub 0x4000000000000000000000000000000000000000000000000000000000000000000000000000000000100000000080000000010000000 MM = true) (hag : Agree MM so s) :
    Agree MM so (@State.dvfsStart s) := by
  unfold State.dvfsStart
  refine Agree.ite ?_ ?_
  · exact hag
  · split
    · exact hag
    · extract_lets +onlyGivenNames -merge -useContext -underBinder x2096
      try clear_value x2096
      extract_lets +onlyGivenNames -merge -useContext -underBinder x2097
      try clear_value x2097
      extract_lets +onlyGivenNames -merge -useContext -underBinder x2098
      have h2099 : Agree MM so x2098 := by
        subst x2098
        refine Agree.fset ?_ (sub_bit hmm (by decide)) _ _
        exact hag
      try clear_value x2098
      extract_lets +onlyGivenNames -merge -useContext -underBinder x2100
      have h2101 : Agree MM so x2100 := by
        subst x2100
        refine Agree.ite ?_ ?_
        · exact h2099
        · refine Agree.ite ?_ ?_
          · refine Agree.fset ?_ (sub_bit hmm (by decide)) _ _
            exact h2099
          · refine Agree.fset ?_ (sub_bit hmm (by decide)) _ _
            exact h2099
      try clear_value x2100
      refine State.setBusy_touch (sub_trans (by decide) hmm) ?_
      refine Agree.set_clocks ?_ (sub_bit hmm (by decide)) _
      exact h2101

theorem State.monTimeout_touch {MM : Nat} {so : State} {s : Sys2Proof.Machine.State} {d : ℕ}
    (hmm : Machine.sub 0xfffffffffffffffffffffffffffffffffffffffffffffffffffffffffffffffffffffffffffffffffffffffffffffffffffffffffffffff000000bdeefffe6c MM = true) (hag : Agree MM so s) :
    Agree MM so (@State.monTimeout s d) := by
  unfold State.monTimeout
  extract_lets +onlyGivenNames -merge -useContext -underBinder x2978
  try clear_value x2978
  refine Agree.ite ?_ ?_
  · refine State.domReset_touch (sub_trans (by decide) hmm) ?_
    exact hag
  · exact hag

theorem State.pmbEnd_touch {MM : Nat} {so : State} {s : Sys2Proof.Machine.State} {data : BitVec 16} {nack : Bool} {pecErr : Bool}
    (hmm : Machine.sub 0x3800000000000000000000000000000000000000000000000000000000000000000000000010000000000000000180000000010000200 MM = true) (hag : Agree MM so s) :
    Agree MM so (@State.pmbEnd s data nack pecErr) := by
  unfold State.pmbEnd
  refine Agree.ite ?_ ?_
  · exact hag
  · extract_lets +onlyGivenNames -merge -useContext -underBinder x3033
    try clear_value x3033
    extract_lets +onlyGivenNames -merge -useContext -underBinder x3034
    have h3035 : Agree MM so x3034 := by
      subst x3034
      refine State.setBusy_touch (sub_trans (by decide) hmm) ?_
      refine Agree.set_clocks ?_ (sub_bit hmm (by decide)) _
      exact hag
    try clear_value x3034
    extract_lets +onlyGivenNames -merge -useContext -underBinder x3036
    have h3037 : Agree MM so x3036 := by
      subst x3036
      refine Agree.fsetB ?_ (sub_bit hmm (by decide)) _ _
      exact h3035
    try clear_value x3036
    extract_lets +onlyGivenNames -merge -useContext -underBinder x3038
    try clear_value x3038
    extract_lets +onlyGivenNames -merge -useContext -underBinder x3039
    try clear_value x3039
    extract_lets +onlyGivenNames -merge -useContext -underBinder x3040
    have h3041 : Agree MM so x3040 := by
      subst x3040
      refine Agree.ite ?_ ?_
      · refine Agree.fset ?_ (sub_bit hmm (by decide)) _ _
        exact h3037
      · exact h3037
    try clear_value x3040
    extract_lets +onlyGivenNames -merge -useContext -underBinder x3042
    have h3043 : Agree MM so x3042 := by
      subst x3042
      refine Agree.ite ?_ ?_
      · refine Agree.fsetB ?_ (sub_bit hmm (by decide)) _ _
        exact h3037
      · refine Agree.ite ?_ ?_
        · refine Agree.fsetB ?_ (sub_bit hmm (by decide)) _ _
          exact h3041
        · exact h3041
    try clear_value x3042
    refine State.irq_touch (sub_trans (by decide) hmm) ?_
    refine Agree.fsetB ?_ (sub_bit hmm (by decide)) _ _
    exact h3043

end Sys2Proof.Machine
end

