-- ==== Sys2Proof/Laws/Touch/Flash.lean ====
section
/-!
SUPPORT. What the functions of Machine/Flash.lean can touch: one lemma per function, its mask after `sub`.
-/

namespace Sys2Proof.Machine

theorem State.cryBegin_touch {MM : Nat} {so : State} {s : Sys2Proof.Machine.State} {cmd : ℕ}
    (hmm : Machine.sub 0x80000000080000000 MM = true) (hag : Agree MM so s) :
    Agree MM so (@State.cryBegin s cmd) := by
  unfold State.cryBegin
  refine State.setBusy_touch (sub_trans (by decide) hmm) ?_
  refine Agree.set_crypto ?_ (sub_bit hmm (by decide)) _
  exact hag

theorem State.fuseBegin_touch {MM : Nat} {so : State} {s : Sys2Proof.Machine.State} {op : ℕ} {slot : ℕ}
    (hmm : Machine.sub 0x80000000040000000 MM = true) (hag : Agree MM so s) :
    Agree MM so (@State.fuseBegin s op slot) := by
  unfold State.fuseBegin
  refine Agree.ite ?_ ?_
  · exact hag
  · refine State.setBusy_touch (sub_trans (by decide) hmm) ?_
    refine Agree.set_fuses ?_ (sub_bit hmm (by decide)) _
    exact hag

theorem State.xspiBegin_touch {MM : Nat} {so : State} {s : Sys2Proof.Machine.State} {run : ℕ}
    (hmm : Machine.sub 0x20000000000000000000000000000000000000000000000000000000000000000000000000000000000000000080000000100000000 MM = true) (hag : Agree MM so s) :
    Agree MM so (@State.xspiBegin s run) := by
  unfold State.xspiBegin
  extract_lets +onlyGivenNames -merge -useContext -underBinder x952
  try clear_value x952
  extract_lets +onlyGivenNames -merge -useContext -underBinder x953
  have h954 : Agree MM so x953 := by
    subst x953
    refine Agree.set_xspi ?_ (sub_bit hmm (by decide)) _
    exact hag
  try clear_value x953
  extract_lets +onlyGivenNames -merge -useContext -underBinder x955
  have h956 : Agree MM so x955 := by
    subst x955
    refine Agree.ite ?_ ?_
    · refine Agree.fset ?_ (sub_bit hmm (by decide)) _ _
      exact h954
    · exact h954
  try clear_value x955
  refine State.setBusy_touch (sub_trans (by decide) hmm) ?_
  refine Agree.fsetB ?_ (sub_bit hmm (by decide)) _ _
  exact h956

theorem State.measure_touch {MM : Nat} {so : State} {s : Sys2Proof.Machine.State} {typ : ℕ} {idx : ℕ} {d : List Sys2Proof.Byte}
    (hmm : Machine.sub 0x800000000000000000000000000000000000000000000000000000000000000000000000000000000000000000000000000000000080000000 MM = true) (hag : Agree MM so s) :
    AgreeO MM so (@State.measure s typ idx d) := by
  unfold State.measure
  refine AgreeO.ite ?_ ?_
  · exact AgreeO.none
  · extract_lets +onlyGivenNames -merge -useContext -underBinder x985
    try clear_value x985
    extract_lets +onlyGivenNames -merge -useContext -underBinder x986
    have h987 : Agree MM so x986 := by
      subst x986
      refine Agree.set_crypto ?_ (sub_bit hmm (by decide)) _
      exact hag
    try clear_value x986
    refine AgreeO.some ?_
    refine Agree.fset ?_ (sub_bit hmm (by decide)) _ _
    exact h987

theorem State.flashPut_touch {MM : Nat} {so : State} {s : Sys2Proof.Machine.State} {a : ℕ} {bs : List Sys2Proof.Byte}
    (hmm : Machine.sub 0x200000000 MM = true) (hag : Agree MM so s) :
    Agree MM so (@State.flashPut s a bs) := by
  exact Agree.putFlash hag (sub_bit hmm (by decide)) _ _

theorem State.headerWrite_touch {MM : Nat} {so : State} {s : Sys2Proof.Machine.State} {fields : List (ℕ × List Sys2Proof.Byte)}
    (hmm : Machine.sub 0x200000000 MM = true) (hag : Agree MM so s) :
    Agree MM so (@State.headerWrite s fields) := by
  unfold State.headerWrite
  split
  · exact hag
  · extract_lets +onlyGivenNames -merge -useContext -underBinder x992
    try clear_value x992
    extract_lets +onlyGivenNames -merge -useContext -underBinder x993
    try clear_value x993
    extract_lets +onlyGivenNames -merge -useContext -underBinder x994
    try clear_value x994
    extract_lets +onlyGivenNames -merge -useContext -underBinder x995
    try clear_value x995
    refine State.flashPut_touch (sub_trans (by decide) hmm) ?_
    exact hag

theorem State.blockErr_touch {MM : Nat} {so : State} {s : Sys2Proof.Machine.State} {a : ℕ} {write : Bool}
    (hmm : Machine.sub 0x1000000000000001c100000000000000200 MM = true) (hag : Agree MM so s) :
    Agree MM so (@State.blockErr s a write) := by
  unfold State.blockErr
  refine State.logBusErr_touch (sub_trans (by decide) hmm) ?_
  exact hag

theorem State.blockRead_touch {MM : Nat} {so : State} {s : Sys2Proof.Machine.State} {a : ℕ} {n : ℕ}
    (hmm : Machine.sub 0x43e0000000000000000000000000000000000000000000000000000000000000000000000000000000000001000000000000001c180000000000080208 MM = true) (hag : Agree MM so s) :
    AgreeP MM so (@State.blockRead s a n) := by
  unfold State.blockRead
  refine AgreeP.ite ?_ ?_
  · refine AgreeP.mk ?_
    refine State.blockErr_touch (sub_trans (by decide) hmm) ?_
    exact hag
  · refine AgreeP.ite ?_ ?_
    · refine AgreeP.mk ?_
      exact hag
    · split
      · rename_i heq
        have h1776 := AgreeP.of_eq (M := MM) (s0 := so) heq (by
          refine State.sramRead_touch (sub_trans (by decide) hmm) ?_
          exact hag
          )
        refine AgreeP.ite ?_ ?_
        · refine AgreeP.mk ?_
          refine State.logBusErr_touch (sub_trans (by decide) hmm) ?_
          exact h1776
        · refine AgreeP.mk ?_
          exact h1776

theorem State.putDigest_touch {MM : Nat} {so : State} {s : Sys2Proof.Machine.State} {d : List Sys2Proof.Byte}
    (hmm : Machine.sub 0x40000000000000000000000000000000000000000000000000000000000000000000000000000000000000000000000000000000000000000000 MM = true) (hag : Agree MM so s) :
    Agree MM so (@State.putDigest s d) := by
  unfold State.putDigest
  refine Agree.forEach ?_ (fun y1981 t1982 h1983 => ?_) _
  · exact hag
  · refine Agree.setReg ?_ (sub_bit hmm (by decide)) _ _
    exact h1983

theorem State.cryRun_touch {MM : Nat} {so : State} {s : Sys2Proof.Machine.State} {cmd : ℕ}
    (hmm : Machine.sub 0x43e0004080000000000000000000000000000000000000000000000000000000000000000000000000000001840000000000001c18000000008008020c MM = true) (hag : Agree MM so s) :
    AgreeP MM so (@State.cryRun s cmd) := by
  unfold State.cryRun
  extract_lets +onlyGivenNames -merge -useContext -underBinder x1984
  try clear_value x1984
  extract_lets +onlyGivenNames -merge -useContext -underBinder x1985
  try clear_value x1985
  refine AgreeP.ite ?_ ?_
  · split
    · rename_i heq
      have h1986 := AgreeP.of_eq (M := MM) (s0 := so) heq (by
        refine State.blockRead_touch (sub_trans (by decide) hmm) ?_
        exact hag
        )
      refine AgreeP.mk ?_
      refine State.putDigest_touch (sub_trans (by decide) hmm) ?_
      exact h1986
    · rename_i heq
      have h1987 := AgreeP.of_eq (M := MM) (s0 := so) heq (by
        refine State.blockRead_touch (sub_trans (by decide) hmm) ?_
        exact hag
        )
      refine AgreeP.mk ?_
      exact h1987
  · refine AgreeP.ite ?_ ?_
    · split
      · rename_i heq
        have h1988 := AgreeP.of_eq (M := MM) (s0 := so) heq (by
          refine State.blockRead_touch (sub_trans (by decide) hmm) ?_
          exact hag
          )
        extract_lets +onlyGivenNames -merge -useContext -underBinder x1989
        try clear_value x1989
        extract_lets +onlyGivenNames -merge -useContext -underBinder x1990
        try clear_value x1990
        extract_lets +onlyGivenNames -merge -useContext -underBinder x1991
        have h1992 : Agree MM so x1991 := by
          subst x1991
          refine Agree.set_crypto ?_ (sub_bit hmm (by decide)) _
          exact h1988
        try clear_value x1991
        refine AgreeP.mk ?_
        refine Agree.fsetB ?_ (sub_bit hmm (by decide)) _ _
        exact h1992
      · rename_i heq
        have h1993 := AgreeP.of_eq (M := MM) (s0 := so) heq (by
          refine State.blockRead_touch (sub_trans (by decide) hmm) ?_
          exact hag
          )
        refine AgreeP.mk ?_
        refine Agree.fsetB ?_ (sub_bit hmm (by decide)) _ _
        refine Agree.set_crypto ?_ (sub_bit hmm (by decide)) _
        exact h1993
    · refine AgreeP.ite ?_ ?_
      · split
        · rename_i heq
          have h1994 := State.measure_touch (MM := MM) (so := so) (sub_trans (by decide) hmm) (by
            exact hag
            ) _ heq
          refine AgreeP.mk ?_
          exact h1994
        · refine AgreeP.mk ?_
          exact hag
      · refine AgreeP.ite ?_ ?_
        · refine AgreeP.mk ?_
          exact hag
        · split
          · rename_i heq
            have h1995 := AgreeP.of_eq (M := MM) (s0 := so) heq (by
              refine State.blockRead_touch (sub_trans (by decide) hmm) ?_
              exact hag
              )
            refine AgreeP.mk ?_
            exact h1995
          · rename_i heq
            have h1996 := AgreeP.of_eq (M := MM) (s0 := so) heq (by
              refine State.blockRead_touch (sub_trans (by decide) hmm) ?_
              exact hag
              )
            extract_lets +onlyGivenNames -merge -useContext -underBinder x1997
            try clear_value x1997
            extract_lets +onlyGivenNames -merge -useContext -underBinder x1998
            try clear_value x1998
            extract_lets +onlyGivenNames -merge -useContext -underBinder x1999
            try clear_value x1999
            refine AgreeP.ite ?_ ?_
            · refine AgreeP.mk ?_
              refine State.blockErr_touch (sub_trans (by decide) hmm) ?_
              exact h1996
            · refine AgreeP.ite ?_ ?_
              · refine AgreeP.mk ?_
                exact h1996
              · extract_lets +onlyGivenNames -merge -useContext -underBinder x2000
                have h2001 : Agree MM so x2000 := by
                  subst x2000
                  refine State.sramOwnWrite_touch (sub_trans (by decide) hmm) ?_
                  exact h1996
                try clear_value x2000
                refine AgreeP.mk ?_
                refine Agree.set_crypto ?_ (sub_bit hmm (by decide)) _
                exact h2001

theorem State.cryDone_touch {MM : Nat} {so : State} {s : Sys2Proof.Machine.State}
    (hmm : Machine.sub 0x43e0004080000000000000000000000000000000000000000000000000000000000000000000000000000001840000000000001c18000000008008020c MM = true) (hag : Agree MM so s) :
    Agree MM so (@State.cryDone s) := by
  unfold State.cryDone
  split
  · exact hag
  · split
    · rename_i heq
      have h2002 := AgreeP.of_eq (M := MM) (s0 := so) heq (by
        refine State.cryRun_touch (sub_trans (by decide) hmm) ?_
        refine Agree.set_crypto ?_ (sub_bit hmm (by decide)) _
        exact hag
        )
      extract_lets +onlyGivenNames -merge -useContext -underBinder x2003
      have h2004 : Agree MM so x2003 := by
        subst x2003
        refine State.setBusy_touch (sub_trans (by decide) hmm) ?_
        refine Agree.fset ?_ (sub_bit hmm (by decide)) _ _
        exact h2002
      try clear_value x2003
      refine State.irq_touch (sub_trans (by decide) hmm) ?_
      refine Agree.fsetB ?_ (sub_bit hmm (by decide)) _ _
      exact h2004

theorem State.fuseDone_touch {MM : Nat} {so : State} {s : Sys2Proof.Machine.State}
    (hmm : Machine.sub 0x800000000000000000000000000000000000000000000000000000000000000000000000000000000010000000000000000180000000040000200 MM = true) (hag : Agree MM so s) :
    Agree MM so (@State.fuseDone s) := by
  unfold State.fuseDone
  split
  · exact hag
  · extract_lets +onlyGivenNames -merge -useContext -underBinder x2455
    try clear_value x2455
    extract_lets +onlyGivenNames -merge -useContext -underBinder x2456
    have h2457 : Agree MM so x2456 := by
      subst x2456
      refine State.setBusy_touch (sub_trans (by decide) hmm) ?_
      refine Agree.set_fuses ?_ (sub_bit hmm (by decide)) _
      exact hag
    try clear_value x2456
    extract_lets +onlyGivenNames -merge -useContext -underBinder x2458
    try clear_value x2458
    extract_lets +onlyGivenNames -merge -useContext -underBinder x2459
    have h2460 : Agree MM so x2459 := by
      subst x2459
      refine Agree.fset ?_ (sub_bit hmm (by decide)) _ _
      exact h2457
    try clear_value x2459
    refine Agree.ite ?_ ?_
    · refine Agree.fsetB ?_ (sub_bit hmm (by decide)) _ _
      exact h2460
    · extract_lets +onlyGivenNames -merge -useContext -underBinder x2461
      try clear_value x2461
      extract_lets +onlyGivenNames -merge -useContext -underBinder x2462
      try clear_value x2462
      refine State.irq_touch (sub_trans (by decide) hmm) ?_
      refine Agree.fsetB ?_ (sub_bit hmm (by decide)) _ _
      refine Agree.set_fuses ?_ (sub_bit hmm (by decide)) _
      exact h2460

theorem State.xspiData_touch {MM : Nat} {so : State} {s : Sys2Proof.Machine.State} {bs : List Sys2Proof.Byte}
    (hmm : Machine.sub 0x4000000000000000000000000000000000000000000000000000000000000000000000000000000000000000000000000000000000 MM = true) (hag : Agree MM so s) :
    Agree MM so (@State.xspiData s bs) := by
  unfold State.xspiData
  extract_lets +onlyGivenNames -merge -useContext -underBinder x3439
  subst x3439
  beta_reduce
  refine Agree.forEach ?_ (fun y3440 t3441 h3442 => ?_) _
  · exact hag
  · refine Agree.setReg ?_ (sub_bit hmm (by decide)) _ _
    exact h3442

theorem State.xspiEnd_touch {MM : Nat} {so : State} {s : Sys2Proof.Machine.State}
    (hmm : Machine.sub 0x20200000000000000000000000000000000000000000000000000000000000000000000010000000000000000180000000100000200 MM = true) (hag : Agree MM so s) :
    Agree MM so (@State.xspiEnd s) := by
  unfold State.xspiEnd
  extract_lets +onlyGivenNames -merge -useContext -underBinder x3443
  try clear_value x3443
  extract_lets +onlyGivenNames -merge -useContext -underBinder x3444
  have h3445 : Agree MM so x3444 := by
    subst x3444
    refine Agree.set_xspi ?_ (sub_bit hmm (by decide)) _
    exact hag
  try clear_value x3444
  extract_lets +onlyGivenNames -merge -useContext -underBinder x3446
  have h3447 : Agree MM so x3446 := by
    subst x3446
    refine Agree.fsetB ?_ (sub_bit hmm (by decide)) _ _
    refine Agree.fsetB ?_ (sub_bit hmm (by decide)) _ _
    exact h3445
  try clear_value x3446
  extract_lets +onlyGivenNames -merge -useContext -underBinder x3448
  have h3449 : Agree MM so x3448 := by
    subst x3448
    refine State.setBusy_touch (sub_trans (by decide) hmm) ?_
    refine Agree.fsetB ?_ (sub_bit hmm (by decide)) _ _
    exact h3447
  try clear_value x3448
  refine State.irq_touch (sub_trans (by decide) hmm) ?_
  refine Agree.fsetB ?_ (sub_bit hmm (by decide)) _ _
  exact h3449

theorem State.xspiStop_touch {MM : Nat} {so : State} {s : Sys2Proof.Machine.State}
    (hmm : Machine.sub 0x20000000000000000000000000000000000000000000000000000000000000000000000010000000000000000100000000000000200 MM = true) (hag : Agree MM so s) :
    Agree MM so (@State.xspiStop s) := by
  unfold State.xspiStop
  refine State.irq_touch (sub_trans (by decide) hmm) ?_
  refine Agree.fsetB ?_ (sub_bit hmm (by decide)) _ _
  exact hag

theorem State.xspiMove_touch {MM : Nat} {so : State} {s : Sys2Proof.Machine.State} {bs : List Sys2Proof.Byte} {a : ℕ} {len : ℕ} {reach : ℕ}
    (hmm : Machine.sub 0x43e0000000000002400000000000000000000000000000000000000000000000000000000000000000000001840000000000001c18000000000008020c MM = true) (hag : Agree MM so s) :
    Agree MM so (@State.xspiMove s bs a len reach) := by
  unfold State.xspiMove
  refine Agree.ite ?_ ?_
  · exact hag
  · refine Agree.ite ?_ ?_
    · refine Agree.ite ?_ ?_
      · exact hag
      · refine State.xspiData_touch (sub_trans (by decide) hmm) ?_
        exact hag
    · refine Agree.ite ?_ ?_
      · extract_lets +onlyGivenNames -merge -useContext -underBinder x3450
        have h3451 : AgreeP MM so (x3450) := by
          subst x3450
          refine State.sramRead_touch (sub_trans (by decide) hmm) ?_
          exact hag
        try clear_value x3450
        refine Agree.ite ?_ ?_
        · refine State.xspiStop_touch (sub_trans (by decide) hmm) ?_
          refine AgreeP.fst ?_
          exact h3451
        · refine AgreeP.fst ?_
          exact h3451
      · extract_lets +onlyGivenNames -merge -useContext -underBinder x3452
        have h3453 : Agree MM so x3452 := by
          subst x3452
          refine Agree.ite ?_ ?_
          · exact hag
          · refine State.sramOwnWrite_touch (sub_trans (by decide) hmm) ?_
            exact hag
        try clear_value x3452
        refine Agree.ite ?_ ?_
        · refine State.xspiStop_touch (sub_trans (by decide) hmm) ?_
          exact h3453
        · exact h3453

theorem State.xspiSend_touch {MM : Nat} {so : State} {s : Sys2Proof.Machine.State} {bs : List Sys2Proof.Byte} {a : ℕ} {len : ℕ} {reach : ℕ}
    (hmm : Machine.sub 0x100000000 MM = true) (hag : Agree MM so s) :
    Agree MM so (@State.xspiSend s bs a len reach) := by
  unfold State.xspiSend
  extract_lets +onlyGivenNames -merge -useContext -underBinder x3454
  try clear_value x3454
  refine Agree.set_xspi ?_ (sub_bit hmm (by decide)) _
  exact hag

theorem State.xspiDone_touch {MM : Nat} {so : State} {s : Sys2Proof.Machine.State} {bs : List Sys2Proof.Byte} {changed : List (ℕ × Sys2Proof.Byte)}
    (hmm : Machine.sub 0x43e0000000000002420000000000000000000000000000000000000000000000000000000000000000000001840000000000001c18000000030008020c MM = true) (hag : Agree MM so s) :
    Agree MM so (@State.xspiDone s bs changed) := by
  unfold State.xspiDone
  refine Agree.ite ?_ ?_
  · exact hag
  · extract_lets +onlyGivenNames -merge -useContext -underBinder x3455
    try clear_value x3455
    extract_lets +onlyGivenNames -merge -useContext -underBinder x3456
    try clear_value x3456
    refine Agree.ite ?_ ?_
    · exact hag
    · extract_lets +onlyGivenNames -merge -useContext -underBinder x3457
      have h3458 : Agree MM so x3457 := by
        subst x3457
        refine Agree.ite ?_ ?_
        · exact hag
        · refine Agree.forEach ?_ (fun y3459 t3460 h3461 => ?_) _
          · exact hag
          · refine State.flashPut_touch (sub_trans (by decide) hmm) ?_
            exact h3461
      try clear_value x3457
      extract_lets +onlyGivenNames -merge -useContext -underBinder x3462
      try clear_value x3462
      refine State.xspiEnd_touch (sub_trans (by decide) hmm) ?_
      refine State.xspiMove_touch (sub_trans (by decide) hmm) ?_
      refine State.xspiSend_touch (sub_trans (by decide) hmm) ?_
      exact h3458

theorem State.xspiPollRead_touch {MM : Nat} {so : State} {s : Sys2Proof.Machine.State} {bs : List Sys2Proof.Byte}
    (hmm : Machine.sub 0x43e0000000000002420000000000000000000000000000000000000000000000000000000000000000000001840000000000001c18000000010008020c MM = true) (hag : Agree MM so s) :
    Agree MM so (@State.xspiPollRead s bs) := by
  unfold State.xspiPollRead
  refine Agree.ite ?_ ?_
  · exact hag
  · extract_lets +onlyGivenNames -merge -useContext -underBinder x3463
    try clear_value x3463
    extract_lets +onlyGivenNames -merge -useContext -underBinder x3464
    try clear_value x3464
    extract_lets +onlyGivenNames -merge -useContext -underBinder x3465
    try clear_value x3465
    extract_lets +onlyGivenNames -merge -useContext -underBinder x3466
    try clear_value x3466
    extract_lets +onlyGivenNames -merge -useContext -underBinder x3467
    have h3468 : Agree MM so x3467 := by
      subst x3467
      refine Agree.faddSat ?_ (sub_bit hmm (by decide)) _ _
      refine State.xspiMove_touch (sub_trans (by decide) hmm) ?_
      refine State.xspiSend_touch (sub_trans (by decide) hmm) ?_
      exact hag
    try clear_value x3467
    split
    · refine Agree.ite ?_ ?_
      · refine State.xspiEnd_touch (sub_trans (by decide) hmm) ?_
        exact h3468
      · exact h3468
    · extract_lets +onlyGivenNames -merge -useContext -underBinder x3469
      have h3470 : Agree MM so x3469 := by
        subst x3469
        refine Agree.fset ?_ (sub_bit hmm (by decide)) _ _
        exact h3468
      try clear_value x3469
      refine Agree.ite ?_ ?_
      · refine State.xspiEnd_touch (sub_trans (by decide) hmm) ?_
        exact h3470
      · exact h3470

theorem State.xspiPollTimeout_touch {MM : Nat} {so : State} {s : Sys2Proof.Machine.State}
    (hmm : Machine.sub 0x20200000000000000000000000000000000000000000000000000000000000000000000010000000000000000180000000100000200 MM = true) (hag : Agree MM so s) :
    Agree MM so (@State.xspiPollTimeout s) := by
  unfold State.xspiPollTimeout
  refine Agree.ite ?_ ?_
  · exact hag
  · refine State.irq_touch (sub_trans (by decide) hmm) ?_
    refine Agree.fsetB ?_ (sub_bit hmm (by decide)) _ _
    refine State.xspiEnd_touch (sub_trans (by decide) hmm) ?_
    exact hag

end Sys2Proof.Machine
end

