-- ==== Sys2Proof/Laws/Touch/Boot.lean ====
section
/-!
SUPPORT. What the functions of Machine/Boot.lean can touch: one lemma per function, its mask after `sub`.
-/

namespace Sys2Proof.Machine

theorem State.setWdt_touch {MM : Nat} {so : State} {s : Sys2Proof.Machine.State} {d : ℕ} {x : Sys2Proof.Machine.Watchdog}
    (hmm : Machine.sub 0x400000000 MM = true) (hag : Agree MM so s) :
    Agree MM so (@State.setWdt s d x) := by
  unfold State.setWdt
  refine Agree.set_wdts ?_ (sub_bit hmm (by decide)) _
  exact hag

theorem State.wdReload_touch {MM : Nat} {so : State} {s : Sys2Proof.Machine.State} {d : ℕ}
    (hmm : Machine.sub 0x400000000 MM = true) (hag : Agree MM so s) :
    Agree MM so (@State.wdReload s d) := by
  unfold State.wdReload
  refine State.setWdt_touch (sub_trans (by decide) hmm) ?_
  exact hag

theorem State.measReset_touch {MM : Nat} {so : State} {s : Sys2Proof.Machine.State}
    (hmm : Machine.sub 0xfffffffffffffffffffffffffffffffffffffffffffffffffffffffffffffffffffffffffffffffffffffffffffffffffffffffffffffff0000000000000000 MM = true) (hag : Agree MM so s) :
    Agree MM so (@State.measReset s) := by
  exact Agree.filterRegs hag hmm _

theorem State.senReset_touch {MM : Nat} {so : State} {s : Sys2Proof.Machine.State}
    (hmm : Machine.sub 0xfffffffffffffffffffffffffffffffffffffffffffffffffffffffffffffffffffffffffffffffffffffffffffffffffffffffffffffff000000fdfffffe7c MM = true) (hag : Agree MM so s) :
    Agree MM so (@State.senReset s) := by
  unfold State.senReset
  extract_lets +onlyGivenNames -merge -useContext -underBinder x477
  have h478 : Agree MM so x477 := by
    subst x477
    refine State.switchOff_touch (sub_trans (by decide) hmm) ?_
    refine State.switchOff_touch (sub_trans (by decide) hmm) ?_
    refine State.switchOff_touch (sub_trans (by decide) hmm) ?_
    refine State.switchOff_touch (sub_trans (by decide) hmm) ?_
    exact hag
  try clear_value x477
  extract_lets +onlyGivenNames -merge -useContext -underBinder x479
  have h480 : Agree MM so x479 := by
    subst x479
    refine State.forget_touch (sub_trans (by decide) hmm) ?_
    refine State.hbmLost_touch (sub_trans (by decide) hmm) ?_
    refine State.dropSram_touch (sub_trans (by decide) hmm) ?_
    refine State.dropSram_touch (sub_trans (by decide) hmm) ?_
    refine State.dropSram_touch (sub_trans (by decide) hmm) ?_
    exact h478
  try clear_value x479
  extract_lets +onlyGivenNames -merge -useContext -underBinder x481
  have h482 : Agree MM so x481 := by
    subst x481
    refine State.bkdThaw_touch (sub_trans (by decide) hmm) ?_
    refine State.resetPages_touch (sub_trans (by decide) hmm) ?_
    exact h480
  try clear_value x481
  extract_lets +onlyGivenNames -merge -useContext -underBinder x483
  try clear_value x483
  extract_lets +onlyGivenNames -merge -useContext -underBinder x484
  try clear_value x484
  extract_lets +onlyGivenNames -merge -useContext -underBinder x485
  try clear_value x485
  extract_lets +onlyGivenNames -merge -useContext -underBinder x486
  have h487 : Agree MM so x486 := by
    subst x486
    refine Agree.set_held_router_power_darn_lines_bkd_clocks_boot_checks ?_ (sub_bit hmm (by decide)) (sub_bit hmm (by decide)) (sub_bit hmm (by decide)) (sub_bit hmm (by decide)) (sub_bit hmm (by decide)) (sub_bit hmm (by decide)) (sub_bit hmm (by decide)) (sub_bit hmm (by decide)) (sub_bit hmm (by decide)) _ _ _ _ _ _ _ _ _
    exact h482
  try clear_value x486
  extract_lets +onlyGivenNames -merge -useContext -underBinder x488
  have h489 : Agree MM so x488 := by
    subst x488
    refine State.coreZero_touch (sub_trans (by decide) hmm) ?_
    exact h487
  try clear_value x488
  refine State.lfxoReady_touch (sub_trans (by decide) hmm) ?_
  exact h489

theorem State.restart_touch {MM : Nat} {so : State} {s : Sys2Proof.Machine.State} {cause : ℕ}
    (hmm : Machine.sub 0xfffffffffffffffffffffffffffffffffffffffffffffffffffffffffffffffffffffffffffffffffffffffffffffffffffffffffffffff000000fdfffffe7c MM = true) (hag : Agree MM so s) :
    Agree MM so (@State.restart s cause) := by
  unfold State.restart
  extract_lets +onlyGivenNames -merge -useContext -underBinder x606
  try clear_value x606
  extract_lets +onlyGivenNames -merge -useContext -underBinder x607
  have h608 : Agree MM so x607 := by
    subst x607
    refine State.measReset_touch (sub_trans (by decide) hmm) ?_
    refine State.senReset_touch (sub_trans (by decide) hmm) ?_
    refine State.acqSafe_touch (sub_trans (by decide) hmm) ?_
    exact hag
  try clear_value x607
  refine Agree.fset ?_ (sub_bit hmm (by decide)) _ _
  refine Agree.setReg ?_ (sub_bit hmm (by decide)) _ _
  exact h608

theorem State.wdExpire_touch {MM : Nat} {so : State} {s : Sys2Proof.Machine.State} {d : ℕ}
    (hmm : Machine.sub 0xfffffffffffffffffffffffffffffffffffffffffffffffffffffffffffffffffffffffffffffffffffffffffffffffffffffffffffffff000000fdfffffe7c MM = true) (hag : Agree MM so s) :
    Agree MM so (@State.wdExpire s d) := by
  unfold State.wdExpire
  extract_lets +onlyGivenNames -merge -useContext -underBinder x609
  have h610 : Agree MM so x609 := by
    subst x609
    refine State.irq_touch (sub_trans (by decide) hmm) ?_
    refine Agree.fsetB ?_ (sub_bit hmm (by decide)) _ _
    exact hag
  try clear_value x609
  extract_lets +onlyGivenNames -merge -useContext -underBinder x611
  have h612 : Agree MM so x611 := by
    subst x611
    refine State.wdReload_touch (sub_trans (by decide) hmm) ?_
    exact h610
  try clear_value x611
  split
  · extract_lets +onlyGivenNames -merge -useContext -underBinder x613
    try clear_value x613
    refine State.coreZero_touch (sub_trans (by decide) hmm) ?_
    refine Agree.fsetB ?_ (sub_bit hmm (by decide)) _ _
    exact h612
  · refine State.restart_touch (sub_trans (by decide) hmm) ?_
    exact h612
  · exact h612

theorem State.wdKick_touch {MM : Nat} {so : State} {s : Sys2Proof.Machine.State} {d : ℕ} {key : ℕ}
    (hmm : Machine.sub 0xfffffffffffffffffffffffffffffffffffffffffffffffffffffffffffffffffffffffffffffffffffffffffffffffffffffffffffffff000000fdfffffe7c MM = true) (hag : Agree MM so s) :
    Agree MM so (@State.wdKick s d key) := by
  unfold State.wdKick
  extract_lets +onlyGivenNames -merge -useContext -underBinder x614
  try clear_value x614
  refine Agree.ite ?_ ?_
  · refine State.wdExpire_touch (sub_trans (by decide) hmm) ?_
    exact hag
  · refine Agree.ite ?_ ?_
    · refine State.wdReload_touch (sub_trans (by decide) hmm) ?_
      exact hag
    · refine State.wdExpire_touch (sub_trans (by decide) hmm) ?_
      refine Agree.fsetB ?_ (sub_bit hmm (by decide)) _ _
      exact hag

theorem State.recPut_touch {MM : Nat} {so : State} {s : Sys2Proof.Machine.State} {b : ℕ} {lo : ℕ} {w : ℕ} {x : ℕ}
    (hmm : Machine.sub 0x300000000000000000000004000000000 MM = true) (hag : Agree MM so s) :
    Agree MM so (@State.recPut s b lo w x) := by
  unfold State.recPut
  refine State.bkPut_touch (sub_trans (by decide) hmm) ?_
  exact hag

theorem State.romFinds_touch {MM : Nat} {so : State} {s : Sys2Proof.Machine.State} {integrity : Bool}
    (hmm : Machine.sub 0x1000000000 MM = true) (hag : Agree MM so s) :
    Agree MM so (@State.romFinds s integrity) := by
  unfold State.romFinds
  refine Agree.set_boot ?_ (sub_bit hmm (by decide)) _
  exact hag

theorem State.flashStep_touch {MM : Nat} {so : State} {s : Sys2Proof.Machine.State}
    (hmm : Machine.sub 0x180000000000000000000000000000000000000000000000000000000000000000000000000000000000000040000001000000000 MM = true) (hag : Agree MM so s) :
    Agree MM so (@State.flashStep s) := by
  unfold State.flashStep
  extract_lets +onlyGivenNames -merge -useContext -underBinder x957
  have h958 : Agree MM so x957 := by
    subst x957
    refine Agree.fsetB ?_ (sub_bit hmm (by decide)) _ _
    refine Agree.fsetB ?_ (sub_bit hmm (by decide)) _ _
    exact hag
  try clear_value x957
  extract_lets +onlyGivenNames -merge -useContext -underBinder x959
  have h960 : Agree MM so x959 := by
    subst x959
    refine Agree.fsetB ?_ (sub_bit hmm (by decide)) _ _
    exact h958
  try clear_value x959
  split
  · refine Agree.ite ?_ ?_
    · refine State.romFinds_touch (sub_trans (by decide) hmm) ?_
      exact h960
    · extract_lets +onlyGivenNames -merge -useContext -underBinder x961
      have h962 : Agree MM so x961 := by
        subst x961
        refine Agree.fsetB ?_ (sub_bit hmm (by decide)) _ _
        refine Agree.fset ?_ (sub_bit hmm (by decide)) _ _
        refine Agree.fset ?_ (sub_bit hmm (by decide)) _ _
        exact h960
      try clear_value x961
      refine Agree.ite ?_ ?_
      · refine State.romFinds_touch (sub_trans (by decide) hmm) ?_
        exact h962
      · exact h962

theorem State.portTrain_touch {MM : Nat} {so : State} {s : Sys2Proof.Machine.State} {p : ℕ}
    (hmm : Machine.sub 0x88000000130000000000000000000000000000000000000000000000000000000100000000000000001c0000000002000200 MM = true) (hag : Agree MM so s) :
    Agree MM so (@State.portTrain s p) := by
  unfold State.portTrain
  refine State.portRefresh_touch (sub_trans (by decide) hmm) ?_
  refine Agree.fset ?_ (sub_bit hmm (by decide)) _ _
  refine Agree.fsetB ?_ (sub_bit hmm (by decide)) _ _
  exact hag

theorem State.enterMend_touch {MM : Nat} {so : State} {s : Sys2Proof.Machine.State}
    (hmm : Machine.sub 0xfffffffffffffffffffffffffffffffffffffffffffffffffffffffffffffffffffffffffffffffffffffffffffffffffffffffffffffff000000fdfffffe6c MM = true) (hag : Agree MM so s) :
    Agree MM so (@State.enterMend s) := by
  unfold State.enterMend
  extract_lets +onlyGivenNames -merge -useContext -underBinder x963
  have h964 : Agree MM so x963 := by
    subst x963
    refine Agree.ite ?_ ?_
    · exact hag
    · refine State.dropSram_touch (sub_trans (by decide) hmm) ?_
      refine State.switchOff_touch (sub_trans (by decide) hmm) ?_
      exact hag
  try clear_value x963
  extract_lets +onlyGivenNames -merge -useContext -underBinder x965
  have h966 : Agree MM so x965 := by
    subst x965
    refine Agree.ite ?_ ?_
    · exact h964
    · refine State.switchOff_touch (sub_trans (by decide) hmm) ?_
      exact h964
  try clear_value x965
  extract_lets +onlyGivenNames -merge -useContext -underBinder x967
  have h968 : Agree MM so x967 := by
    subst x967
    refine Agree.ite ?_ ?_
    · refine State.lnkOn_touch (sub_trans (by decide) hmm) ?_
      refine State.setPower_touch (sub_trans (by decide) hmm) ?_
      exact h966
    · exact h966
  try clear_value x967
  extract_lets +onlyGivenNames -merge -useContext -underBinder x969
  try clear_value x969
  extract_lets +onlyGivenNames -merge -useContext -underBinder x970
  try clear_value x970
  extract_lets +onlyGivenNames -merge -useContext -underBinder x971
  have h972 : Agree MM so x971 := by
    subst x971
    refine Agree.set_mend_boot ?_ (sub_bit hmm (by decide)) (sub_bit hmm (by decide)) _ _
    exact h968
  try clear_value x971
  extract_lets +onlyGivenNames -merge -useContext -underBinder x973
  have h974 : Agree MM so x973 := by
    subst x973
    refine Agree.fset ?_ (sub_bit hmm (by decide)) _ _
    refine State.recPut_touch (sub_trans (by decide) hmm) ?_
    exact h972
  try clear_value x973
  extract_lets +onlyGivenNames -merge -useContext -underBinder x975
  have h976 : Agree MM so x975 := by
    subst x975
    refine Agree.fsetB ?_ (sub_bit hmm (by decide)) _ _
    exact h974
  try clear_value x975
  extract_lets +onlyGivenNames -merge -useContext -underBinder x977
  have h978 : Agree MM so x977 := by
    subst x977
    refine Agree.fsetB ?_ (sub_bit hmm (by decide)) _ _
    exact h976
  try clear_value x977
  extract_lets +onlyGivenNames -merge -useContext -underBinder x979
  have h980 : Agree MM so x979 := by
    subst x979
    refine Agree.setReg ?_ (sub_bit hmm (by decide)) _ _
    refine Agree.setReg ?_ (sub_bit hmm (by decide)) _ _
    exact h978
  try clear_value x979
  extract_lets +onlyGivenNames -merge -useContext -underBinder x981
  have h982 : Agree MM so x981 := by
    subst x981
    refine Agree.fset ?_ (sub_bit hmm (by decide)) _ _
    exact h980
  try clear_value x981
  extract_lets +onlyGivenNames -merge -useContext -underBinder x983
  have h984 : Agree MM so x983 := by
    subst x983
    refine Agree.fsetB ?_ (sub_bit hmm (by decide)) _ _
    refine Agree.fsetB ?_ (sub_bit hmm (by decide)) _ _
    exact h982
  try clear_value x983
  refine State.portTrain_touch (sub_trans (by decide) hmm) ?_
  exact h984

theorem State.measured_touch {MM : Nat} {so : State} {s : Sys2Proof.Machine.State} {typ : ℕ} {idx : ℕ} {d : List Sys2Proof.Byte}
    (hmm : Machine.sub 0x800000000000000000000000000000000000000000000000000000000000000000000000000000000000000000000000000000000080000000 MM = true) (hag : Agree MM so s) :
    Agree MM so (@State.measured s typ idx d) := by
  unfold State.measured
  refine Agree.getD ?_ ?_
  · refine State.measure_touch (sub_trans (by decide) hmm) ?_
    exact hag
  · exact hag

theorem State.manifestRead_touch {MM : Nat} {so : State} {s : Sys2Proof.Machine.State} {size : ℕ}
    (hmm : Machine.sub 0x10000800000000000000000000000000000000000000000000000000000000000000000000000000000000000000000000000000000001080000000 MM = true) (hag : Agree MM so s) :
    Agree MM so (@State.manifestRead s size) := by
  unfold State.manifestRead
  extract_lets +onlyGivenNames -merge -useContext -underBinder x988
  try clear_value x988
  extract_lets +onlyGivenNames -merge -useContext -underBinder x989
  try clear_value x989
  extract_lets +onlyGivenNames -merge -useContext -underBinder x990
  have h991 : Agree MM so x990 := by
    subst x990
    refine Agree.ite ?_ ?_
    · exact hag
    · refine Agree.ite ?_ ?_
      · refine Agree.fsetB ?_ (sub_bit hmm (by decide)) _ _
        exact hag
      · refine State.romFinds_touch (sub_trans (by decide) hmm) ?_
        exact hag
  try clear_value x990
  refine State.measured_touch (sub_trans (by decide) hmm) ?_
  exact h991

theorem State.slotTaken_touch {MM : Nat} {so : State} {s : Sys2Proof.Machine.State} {h : ℕ}
    (hmm : Machine.sub 0x10000000000000000000000000000000000000000000000000000000000000000000000000000000000000300000000000000000000005200000000 MM = true) (hag : Agree MM so s) :
    Agree MM so (@State.slotTaken s h) := by
  unfold State.slotTaken
  extract_lets +onlyGivenNames -merge -useContext -underBinder x996
  try clear_value x996
  extract_lets +onlyGivenNames -merge -useContext -underBinder x997
  try clear_value x997
  extract_lets +onlyGivenNames -merge -useContext -underBinder x998
  try clear_value x998
  extract_lets +onlyGivenNames -merge -useContext -underBinder x999
  try clear_value x999
  extract_lets +onlyGivenNames -merge -useContext -underBinder x1000
  try clear_value x1000
  extract_lets +onlyGivenNames -merge -useContext -underBinder x1001
  have h1002 : Agree MM so x1001 := by
    subst x1001
    refine Agree.ite ?_ ?_
    · refine State.headerWrite_touch (sub_trans (by decide) hmm) ?_
      exact hag
    · exact hag
  try clear_value x1001
  extract_lets +onlyGivenNames -merge -useContext -underBinder x1003
  have h1004 : Agree MM so x1003 := by
    subst x1003
    refine State.recPut_touch (sub_trans (by decide) hmm) ?_
    exact h1002
  try clear_value x1003
  extract_lets +onlyGivenNames -merge -useContext -underBinder x1005
  try clear_value x1005
  extract_lets +onlyGivenNames -merge -useContext -underBinder x1006
  have h1007 : Agree MM so x1006 := by
    subst x1006
    refine Agree.set_boot ?_ (sub_bit hmm (by decide)) _
    exact h1004
  try clear_value x1006
  refine Agree.fsetB ?_ (sub_bit hmm (by decide)) _ _
  refine Agree.fset ?_ (sub_bit hmm (by decide)) _ _
  exact h1007

theorem State.manifestStep_touch {MM : Nat} {so : State} {s : Sys2Proof.Machine.State}
    (hmm : Machine.sub 0xfffffffffffffffffffffffffffffffffffffffffffffffffffffffffffffffffffffffffffffffffffffffffffffffffffffffffffffff000000fffffffe6c MM = true) (hag : Agree MM so s) :
    Agree MM so (@State.manifestStep s) := by
  unfold State.manifestStep
  refine Agree.ite ?_ ?_
  · refine State.enterMend_touch (sub_trans (by decide) hmm) ?_
    exact hag
  · split
    · refine State.romFinds_touch (sub_trans (by decide) hmm) ?_
      exact hag
    · refine State.manifestRead_touch (sub_trans (by decide) hmm) ?_
      refine State.slotTaken_touch (sub_trans (by decide) hmm) ?_
      exact hag

theorem State.loadSections_touch {MM : Nat} {so : State} {s : Sys2Proof.Machine.State} {p : ℕ → Bool} {f : ℕ → Sys2Proof.Machine.State → Sys2Proof.Machine.State}
    (hmm : Machine.sub 0x800000000000000000000000000000000000000000000000000000000000000000000000000000000000000000000000000000001080000000 MM = true) (hf2 : ∀ v0 tt, Agree MM so tt → Agree MM so (f v0 tt)) (hag : Agree MM so s) :
    Agree MM so (@State.loadSections s p f) := by
  unfold State.loadSections
  refine Agree.forEach ?_ (fun y1008 t1009 h1010 => ?_) _
  · exact hag
  · extract_lets +onlyGivenNames -merge -useContext -underBinder x1011
    try clear_value x1011
    extract_lets +onlyGivenNames -merge -useContext -underBinder x1012
    have h1013 : Agree MM so x1012 := by
      subst x1012
      refine State.measured_touch (sub_trans (by decide) hmm) ?_
      refine hf2 _ _ ?_
      exact h1010
    try clear_value x1012
    refine Agree.ite ?_ ?_
    · exact h1013
    · refine State.romFinds_touch (sub_trans (by decide) hmm) ?_
      exact h1013

theorem State.load_touch {MM : Nat} {so : State} {s : Sys2Proof.Machine.State} {a : ℕ} {bs : List Sys2Proof.Byte}
    (hmm : Machine.sub 0xc MM = true) (hag : Agree MM so s) :
    Agree MM so (@State.load s a bs) := by
  unfold State.load
  refine State.putBytes_touch (sub_trans (by decide) hmm) ?_
  refine State.sramWritten_touch (sub_trans (by decide) hmm) ?_
  exact hag

theorem State.darnEntry_touch {MM : Nat} {so : State} {s : Sys2Proof.Machine.State} {e : ℕ}
    (hmm : Machine.sub 0x27fe00000000000000000000000000000000000000000000000000000000000000000000000000000000000010000000000000000180000001000080200 MM = true) (hag : Agree MM so s) :
    Agree MM so (@State.darnEntry s e) := by
  unfold State.darnEntry
  extract_lets +onlyGivenNames -merge -useContext -underBinder x1029
  have h1030 : Agree MM so x1029 := by
    subst x1029
    refine State.darnIn_touch (sub_trans (by decide) hmm) ?_
    refine Agree.forEach ?_ (fun y1034 t1035 h1036 => ?_) _
    · exact hag
    · refine Agree.setReg ?_ (sub_bit hmm (by decide)) _ _
      exact h1036
  try clear_value x1029
  extract_lets +onlyGivenNames -merge -useContext -underBinder x1037
  try clear_value x1037
  refine Agree.ite ?_ ?_
  · refine State.romFinds_touch (sub_trans (by decide) hmm) ?_
    exact h1030
  · exact h1030

theorem State.darnStep_touch {MM : Nat} {so : State} {s : Sys2Proof.Machine.State}
    (hmm : Machine.sub 0x27fe000008000000000000000000000000000000000000000000000000000000000000000000000000000000100000000000000001c0000001080080200 MM = true) (hag : Agree MM so s) :
    Agree MM so (@State.darnStep s) := by
  unfold State.darnStep
  extract_lets +onlyGivenNames -merge -useContext -underBinder x1038
  have h1039 : Agree MM so x1038 := by
    subst x1038
    refine Agree.fsetB ?_ (sub_bit hmm (by decide)) _ _
    exact hag
  try clear_value x1038
  split
  · refine State.romFinds_touch (sub_trans (by decide) hmm) ?_
    exact h1039
  · extract_lets +onlyGivenNames -merge -useContext -underBinder x1040
    try clear_value x1040
    extract_lets +onlyGivenNames -merge -useContext -underBinder x1041
    try clear_value x1041
    extract_lets +onlyGivenNames -merge -useContext -underBinder x1042
    try clear_value x1042
    refine Agree.ite ?_ ?_
    · extract_lets +onlyGivenNames -merge -useContext -underBinder x1043
      have h1044 : Agree MM so x1043 := by
        subst x1043
        refine Agree.forEach ?_ (fun y1045 t1046 h1047 => ?_) _
        · exact h1039
        · refine State.darnEntry_touch (sub_trans (by decide) hmm) ?_
          exact h1047
      try clear_value x1043
      refine Agree.ite ?_ ?_
      · refine State.romFinds_touch (sub_trans (by decide) hmm) ?_
        exact h1039
      · refine State.measured_touch (sub_trans (by decide) hmm) ?_
        exact h1044
    · refine State.romFinds_touch (sub_trans (by decide) hmm) ?_
      exact h1039

theorem State.rowsRepaired_touch {MM : Nat} {so : State} {s : Sys2Proof.Machine.State} {x : ℕ}
    (hmm : Machine.sub 0x43e00000000000000000000000000000000000000001000000000000000000000000000000000000000000010000000000000000180000000000080200 MM = true) (hag : Agree MM so s) :
    Agree MM so (@State.rowsRepaired s x) := by
  unfold State.rowsRepaired
  refine Agree.forEach ?_ (fun y1051 t1052 h1053 => ?_) _
  · exact hag
  · refine Agree.ite ?_ ?_
    · exact h1053
    · extract_lets +onlyGivenNames -merge -useContext -underBinder x1054
      try clear_value x1054
      extract_lets +onlyGivenNames -merge -useContext -underBinder x1055
      have h1056 : Agree MM so x1055 := by
        subst x1055
        refine Agree.set_darn ?_ (sub_bit hmm (by decide)) _
        exact h1053
      try clear_value x1055
      refine State.darnLog_touch (sub_trans (by decide) hmm) ?_
      refine Agree.faddSat ?_ (sub_bit hmm (by decide)) _ _
      exact h1056

theorem State.memoryStep_touch {MM : Nat} {so : State} {s : Sys2Proof.Machine.State}
    (hmm : Machine.sub 0x43e000000000000000000000000000000000000000210380000020000000000000000000000000000000000100000000000000001c0000000000480a00 MM = true) (hag : Agree MM so s) :
    Agree MM so (@State.memoryStep s) := by
  unfold State.memoryStep
  extract_lets +onlyGivenNames -merge -useContext -underBinder x1057
  try clear_value x1057
  extract_lets +onlyGivenNames -merge -useContext -underBinder x1058
  have h1059 : Agree MM so x1058 := by
    subst x1058
    refine State.setPower_touch (sub_trans (by decide) hmm) ?_
    exact hag
  try clear_value x1058
  extract_lets +onlyGivenNames -merge -useContext -underBinder x1060
  try clear_value x1060
  extract_lets +onlyGivenNames -merge -useContext -underBinder x1061
  have h1062 : Agree MM so x1061 := by
    subst x1061
    refine Agree.set_power ?_ (sub_bit hmm (by decide)) _
    exact h1059
  try clear_value x1061
  extract_lets +onlyGivenNames -merge -useContext -underBinder x1063
  have h1064 : Agree MM so x1063 := by
    subst x1063
    refine Agree.fsetB ?_ (sub_bit hmm (by decide)) _ _
    exact h1062
  try clear_value x1063
  extract_lets +onlyGivenNames -merge -useContext -underBinder x1065
  try clear_value x1065
  refine Agree.forEach ?_ (fun y1066 t1067 h1068 => ?_) _
  · exact h1064
  · extract_lets +onlyGivenNames -merge -useContext -underBinder x1069
    have h1070 : Agree MM so x1069 := by
      subst x1069
      refine Agree.fsetB ?_ (sub_bit hmm (by decide)) _ _
      exact h1068
    try clear_value x1069
    extract_lets +onlyGivenNames -merge -useContext -underBinder x1071
    have h1072 : Agree MM so x1071 := by
      subst x1071
      refine Agree.fset ?_ (sub_bit hmm (by decide)) _ _
      exact h1070
    try clear_value x1071
    extract_lets +onlyGivenNames -merge -useContext -underBinder x1073
    have h1074 : Agree MM so x1073 := by
      subst x1073
      refine Agree.ite ?_ ?_
      · refine Agree.fset ?_ (sub_bit hmm (by decide)) _ _
        exact h1072
      · exact h1072
    try clear_value x1073
    extract_lets +onlyGivenNames -merge -useContext -underBinder x1075
    try clear_value x1075
    extract_lets +onlyGivenNames -merge -useContext -underBinder x1076
    have h1077 : Agree MM so x1076 := by
      subst x1076
      refine Agree.ite ?_ ?_
      · refine State.setStack_touch (sub_trans (by decide) hmm) ?_
        exact h1074
      · exact h1074
    try clear_value x1076
    refine State.trainAsk_touch (sub_trans (by decide) hmm) ?_
    refine Agree.fsetB ?_ (sub_bit hmm (by decide)) _ _
    refine State.rowsRepaired_touch (sub_trans (by decide) hmm) ?_
    exact h1077

theorem State.linksStep_touch {MM : Nat} {so : State} {s : Sys2Proof.Machine.State}
    (hmm : Machine.sub 0x88000000170000000000000000000000000000000000000000000000000000000100000000000000001c0000000002020a00 MM = true) (hag : Agree MM so s) :
    Agree MM so (@State.linksStep s) := by
  unfold State.linksStep
  extract_lets +onlyGivenNames -merge -useContext -underBinder x1078
  have h1079 : Agree MM so x1078 := by
    subst x1078
    refine Agree.ite ?_ ?_
    · refine State.lnkOn_touch (sub_trans (by decide) hmm) ?_
      refine State.setPower_touch (sub_trans (by decide) hmm) ?_
      exact hag
    · exact hag
  try clear_value x1078
  refine Agree.forEach ?_ (fun y1080 t1081 h1082 => ?_) _
  · exact h1079
  · refine State.portTrain_touch (sub_trans (by decide) hmm) ?_
    exact h1082

theorem State.analysisStep_touch {MM : Nat} {so : State} {s : Sys2Proof.Machine.State}
    (hmm : Machine.sub 0x4000000000000000000000000000000000000000000000000000000000000000000000000010000000180100000100000000000000a00 MM = true) (hag : Agree MM so s) :
    Agree MM so (@State.analysisStep s) := by
  unfold State.analysisStep
  extract_lets +onlyGivenNames -merge -useContext -underBinder x1085
  try clear_value x1085
  extract_lets +onlyGivenNames -merge -useContext -underBinder x1086
  have h1087 : Agree MM so x1086 := by
    subst x1086
    refine Agree.setReg ?_ (sub_bit hmm (by decide)) _ _
    exact hag
  try clear_value x1086
  extract_lets +onlyGivenNames -merge -useContext -underBinder x1088
  have h1089 : Agree MM so x1088 := by
    subst x1088
    refine State.dvfsWritten_touch (sub_trans (by decide) hmm) ?_
    refine Agree.fset ?_ (sub_bit hmm (by decide)) _ _
    exact h1087
  try clear_value x1088
  refine Agree.ite ?_ ?_
  · refine State.anaEnable_touch (sub_trans (by decide) hmm) ?_
    exact h1089
  · exact h1089

theorem State.configStep_touch {MM : Nat} {so : State} {s : Sys2Proof.Machine.State}
    (hmm : Machine.sub 0x800000000000000000000000000000000000000000000000000000000000000000000000000000000000000000000000000000001080000000 MM = true) (hag : Agree MM so s) :
    Agree MM so (@State.configStep s) := by
  unfold State.configStep
  refine Agree.ite ?_ ?_
  · split
    · refine State.measured_touch (sub_trans (by decide) hmm) ?_
      exact hag
    · refine State.romFinds_touch (sub_trans (by decide) hmm) ?_
      exact hag
  · extract_lets +onlyGivenNames -merge -useContext -underBinder x1090
    have h1091 : Agree MM so x1090 := by
      subst x1090
      refine State.loadSections_touch (sub_trans (by decide) hmm) (fun _ t1092 h1093 => ?_) ?_
      · exact h1093
      · exact hag
    try clear_value x1090
    refine Agree.ite ?_ ?_
    · refine State.measured_touch (sub_trans (by decide) hmm) ?_
      exact h1091
    · exact h1091

theorem State.handoffStep_touch {MM : Nat} {so : State} {s : Sys2Proof.Machine.State} {full : Bool}
    (hmm : Machine.sub 0x800080000000000000000000000000000000000000000000000000000000000000000000000000000000000000000000000000000000108000000c MM = true) (hag : Agree MM so s) :
    Agree MM so (@State.handoffStep s full) := by
  unfold State.handoffStep
  extract_lets +onlyGivenNames -merge -useContext -underBinder x1094
  have h1095 : Agree MM so x1094 := by
    subst x1094
    refine Agree.ite ?_ ?_
    · refine State.loadSections_touch (sub_trans (by decide) hmm) (fun _ t1096 h1097 => ?_) ?_
      · refine State.load_touch (sub_trans (by decide) hmm) ?_
        exact h1097
      · exact hag
    · exact hag
  try clear_value x1094
  refine Agree.fsetB ?_ (sub_bit hmm (by decide)) _ _
  exact h1095

theorem State.stepDo_touch {MM : Nat} {so : State} {s : Sys2Proof.Machine.State} {st : ℕ}
    (hmm : Machine.sub 0xfffffffffffffffffffffffffffffffffffffffffffffffffffffffffffffffffffffffffffffffffffffffffffffffffffffffffffffff000000fffffffe6c MM = true) (hag : Agree MM so s) :
    Agree MM so (@State.stepDo s st) := by
  unfold State.stepDo
  refine Agree.ite ?_ ?_
  · exact hag
  · refine Agree.ite ?_ ?_
    · refine State.flashStep_touch (sub_trans (by decide) hmm) ?_
      exact hag
    · refine Agree.ite ?_ ?_
      · refine State.manifestStep_touch (sub_trans (by decide) hmm) ?_
        exact hag
      · refine Agree.ite ?_ ?_
        · refine State.loadSections_touch (sub_trans (by decide) hmm) (fun _ t1098 h1099 => ?_) ?_
          · refine State.load_touch (sub_trans (by decide) hmm) ?_
            exact h1099
          · exact hag
        · refine Agree.ite ?_ ?_
          · refine State.darnStep_touch (sub_trans (by decide) hmm) ?_
            exact hag
          · refine Agree.ite ?_ ?_
            · extract_lets +onlyGivenNames -merge -useContext -underBinder x1100
              have h1101 : Agree MM so x1100 := by
                subst x1100
                refine Agree.set_ecc ?_ (sub_bit hmm (by decide)) _
                exact hag
              try clear_value x1100
              refine State.initStart_touch (sub_trans (by decide) hmm) ?_
              refine Agree.fsetB ?_ (sub_bit hmm (by decide)) _ _
              refine Agree.fsetB ?_ (sub_bit hmm (by decide)) _ _
              exact h1101
            · refine Agree.ite ?_ ?_
              · refine State.memoryStep_touch (sub_trans (by decide) hmm) ?_
                exact hag
              · refine Agree.ite ?_ ?_
                · refine State.linksStep_touch (sub_trans (by decide) hmm) ?_
                  exact hag
                · refine Agree.ite ?_ ?_
                  · refine State.analysisStep_touch (sub_trans (by decide) hmm) ?_
                    exact hag
                  · refine Agree.ite ?_ ?_
                    · refine State.configStep_touch (sub_trans (by decide) hmm) ?_
                      exact hag
                    · refine Agree.ite ?_ ?_
                      · refine State.handoffStep_touch (sub_trans (by decide) hmm) ?_
                        exact hag
                      · exact hag

theorem State.wd0Run_touch {MM : Nat} {so : State} {s : Sys2Proof.Machine.State} {ms : ℕ}
    (hmm : Machine.sub 0xe0000000000000000000000000000000000000000000000000000000000000000000000000000000000000000000000040000000400000000 MM = true) (hag : Agree MM so s) :
    Agree MM so (@State.wd0Run s ms) := by
  unfold State.wd0Run
  extract_lets +onlyGivenNames -merge -useContext -underBinder x1102
  have h1103 : Agree MM so x1102 := by
    subst x1102
    refine Agree.fsetB ?_ (sub_bit hmm (by decide)) _ _
    exact hag
  try clear_value x1102
  extract_lets +onlyGivenNames -merge -useContext -underBinder x1104
  have h1105 : Agree MM so x1104 := by
    subst x1104
    refine Agree.fset ?_ (sub_bit hmm (by decide)) _ _
    refine Agree.fset ?_ (sub_bit hmm (by decide)) _ _
    exact h1103
  try clear_value x1104
  refine State.wdReload_touch (sub_trans (by decide) hmm) ?_
  refine Agree.fsetB ?_ (sub_bit hmm (by decide)) _ _
  refine Agree.fset ?_ (sub_bit hmm (by decide)) _ _
  exact h1105

theorem State.loadStores_touch {MM : Nat} {so : State} {s : Sys2Proof.Machine.State} {bs : List Sys2Proof.Byte}
    (hmm : Machine.sub 0x418402000000000000000000000000000000000000000000000010000000000000000180000001000800200 MM = true) (hag : Agree MM so s) :
    Agree MM so (@State.loadStores s bs) := by
  unfold State.loadStores
  refine Agree.ite ?_ ?_
  · refine State.romFinds_touch (sub_trans (by decide) hmm) ?_
    exact hag
  · extract_lets +onlyGivenNames -merge -useContext -underBinder x1106
    try clear_value x1106
    extract_lets +onlyGivenNames -merge -useContext -underBinder x1107
    try clear_value x1107
    refine Agree.forEach ?_ (fun y1108 t1109 h1110 => ?_) _
    · exact hag
    · extract_lets +onlyGivenNames -merge -useContext -underBinder x1111
      try clear_value x1111
      extract_lets +onlyGivenNames -merge -useContext -underBinder x1112
      have h1113 : Agree MM so x1112 := by
        subst x1112
        refine State.setWel_touch (sub_trans (by decide) hmm) ?_
        exact h1110
      try clear_value x1112
      extract_lets +onlyGivenNames -merge -useContext -underBinder x1114
      have h1115 : Agree MM so x1114 := by
        subst x1114
        refine Agree.forEach ?_ (fun y1116 t1117 h1118 => ?_) _
        · exact h1113
        · refine Agree.setReg ?_ (sub_bit hmm (by decide)) _ _
          exact h1118
      try clear_value x1114
      refine State.csSetValid_touch (sub_trans (by decide) hmm) ?_
      exact h1115

theorem State.loadSection_touch {MM : Nat} {so : State} {s : Sys2Proof.Machine.State} {i : ℕ}
    (hmm : Machine.sub 0x41840200000000000000000000000000000000000000000000001000000000000000018000000100080020c MM = true) (hag : Agree MM so s) :
    Agree MM so (@State.loadSection s i) := by
  unfold State.loadSection
  split
  · extract_lets +onlyGivenNames -merge -useContext -underBinder x1119
    try clear_value x1119
    refine Agree.ite ?_ ?_
    · refine Agree.forEach ?_ (fun y1120 t1121 h1122 => ?_) _
      · exact hag
      · refine State.load_touch (sub_trans (by decide) hmm) ?_
        exact h1122
    · refine Agree.ite ?_ ?_
      · refine State.loadStores_touch (sub_trans (by decide) hmm) ?_
        exact hag
      · refine Agree.ite ?_ ?_
        · refine State.load_touch (sub_trans (by decide) hmm) ?_
          exact hag
        · refine Agree.ite ?_ ?_
          · refine Agree.forEach ?_ (fun y1123 t1124 h1125 => ?_) _
            · exact hag
            · refine State.load_touch (sub_trans (by decide) hmm) ?_
              exact h1125
          · exact hag

theorem State.patchEngine_touch {MM : Nat} {so : State} {s : Sys2Proof.Machine.State} {bs : List Sys2Proof.Byte} {w : ℕ}
    (hmm : Machine.sub 0x43e00000000000000000000000000000000418e0200000000000000000000000000000000000000000000001000000000000001c180000000000880208 MM = true) (hag : Agree MM so s) :
    Agree MM so (@State.patchEngine s bs w) := by
  unfold State.patchEngine
  refine Agree.ite ?_ ?_
  · exact hag
  · extract_lets +onlyGivenNames -merge -useContext -underBinder x1152
    try clear_value x1152
    extract_lets +onlyGivenNames -merge -useContext -underBinder x1153
    have h1154 : Agree MM so x1153 := by
      subst x1153
      refine Agree.fsetB ?_ (sub_bit hmm (by decide)) _ _
      refine Agree.fsetB ?_ (sub_bit hmm (by decide)) _ _
      exact hag
    try clear_value x1153
    extract_lets +onlyGivenNames -merge -useContext -underBinder x1155
    have h1156 : Agree MM so x1155 := by
      subst x1155
      refine Agree.forEach ?_ (fun y1157 t1158 h1159 => ?_) _
      · exact h1154
      · extract_lets +onlyGivenNames -merge -useContext -underBinder x1160
        try clear_value x1160
        extract_lets +onlyGivenNames -merge -useContext -underBinder x1161
        try clear_value x1161
        extract_lets +onlyGivenNames -merge -useContext -underBinder x1162
        have h1163 : Agree MM so x1162 := by
          subst x1162
          refine Agree.fset ?_ (sub_bit hmm (by decide)) _ _
          exact h1159
        try clear_value x1162
        refine State.csCommit_touch (sub_trans (by decide) hmm) ?_
        refine State.setWel_touch (sub_trans (by decide) hmm) ?_
        exact h1163
    try clear_value x1155
    extract_lets +onlyGivenNames -merge -useContext -underBinder x1164
    have h1165 : Agree MM so x1164 := by
      subst x1164
      refine Agree.forEach ?_ (fun y1166 t1167 h1168 => ?_) _
      · exact h1156
      · refine Agree.setReg ?_ (sub_bit hmm (by decide)) _ _
        exact h1168
    try clear_value x1164
    refine State.csDone_touch (sub_trans (by decide) hmm) ?_
    refine State.csStart_touch (sub_trans (by decide) hmm) ?_
    refine Agree.fsetB ?_ (sub_bit hmm (by decide)) _ _
    exact h1165

theorem State.analysisLoad_touch {MM : Nat} {so : State} {s : Sys2Proof.Machine.State}
    (hmm : Machine.sub 0x43e00000800000000000000000000000000c18e0300000000000000000000000000000000000000000000001000000000000001c1c000000108088020c MM = true) (hag : Agree MM so s) :
    Agree MM so (@State.analysisLoad s) := by
  unfold State.analysisLoad
  refine Agree.ite ?_ ?_
  · exact hag
  · extract_lets +onlyGivenNames -merge -useContext -underBinder x1169
    have h1170 : Agree MM so x1169 := by
      subst x1169
      refine Agree.forEach ?_ (fun y1171 t1172 h1173 => ?_) _
      · exact hag
      · refine Agree.fsetB ?_ (sub_bit hmm (by decide)) _ _
        exact h1173
    try clear_value x1169
    extract_lets +onlyGivenNames -merge -useContext -underBinder x1174
    have h1175 : Agree MM so x1174 := by
      subst x1174
      refine Agree.set_ecc ?_ (sub_bit hmm (by decide)) _
      exact h1170
    try clear_value x1174
    extract_lets +onlyGivenNames -merge -useContext -underBinder x1176
    have h1177 : Agree MM so x1176 := by
      subst x1176
      refine State.loadSections_touch (sub_trans (by decide) hmm) (fun _ t1178 h1179 => ?_) ?_
      · refine State.loadSection_touch (sub_trans (by decide) hmm) ?_
        exact h1179
      · exact h1175
    try clear_value x1176
    extract_lets +onlyGivenNames -merge -useContext -underBinder x1180
    have h1181 : Agree MM so x1180 := by
      subst x1180
      refine Agree.forEach ?_ (fun y1182 t1183 h1184 => ?_) _
      · exact h1177
      · extract_lets +onlyGivenNames -merge -useContext -underBinder x1185
        try clear_value x1185
        refine Agree.ite ?_ ?_
        · refine Agree.forEach ?_ (fun y1186 t1187 h1188 => ?_) _
          · exact h1184
          · refine State.patchEngine_touch (sub_trans (by decide) hmm) ?_
            exact h1188
        · exact h1184
    try clear_value x1180
    extract_lets +onlyGivenNames -merge -useContext -underBinder x1189
    try clear_value x1189
    extract_lets +onlyGivenNames -merge -useContext -underBinder x1190
    try clear_value x1190
    extract_lets +onlyGivenNames -merge -useContext -underBinder x1191
    try clear_value x1191
    extract_lets +onlyGivenNames -merge -useContext -underBinder x1192
    have h1193 : Agree MM so x1192 := by
      subst x1192
      refine Agree.forEach ?_ (fun y1194 t1195 h1196 => ?_) _
      · exact h1181
      · refine Agree.setReg ?_ (sub_bit hmm (by decide)) _ _
        exact h1196
    try clear_value x1192
    refine Agree.forEach ?_ (fun y1197 t1198 h1199 => ?_) _
    · exact h1193
    · extract_lets +onlyGivenNames -merge -useContext -underBinder x1200
      have h1201 : Agree MM so x1200 := by
        subst x1200
        refine Agree.ite ?_ ?_
        · refine Agree.fsetB ?_ (sub_bit hmm (by decide)) _ _
          exact h1199
        · exact h1199
      try clear_value x1200
      extract_lets +onlyGivenNames -merge -useContext -underBinder x1202
      have h1203 : Agree MM so x1202 := by
        subst x1202
        refine Agree.fsetB ?_ (sub_bit hmm (by decide)) _ _
        exact h1201
      try clear_value x1202
      refine State.welRefresh_touch (sub_trans (by decide) hmm) ?_
      exact h1203

theorem State.stepCheck_touch {MM : Nat} {so : State} {s : Sys2Proof.Machine.State} {st : ℕ}
    (hmm : Machine.sub 0x43e00000800000000000000000000000000c18e0300000000000000000000000000000000000000000000001000000000000001c1c000000108088020c MM = true) (hag : Agree MM so s) :
    Agree MM so (@State.stepCheck s st) := by
  unfold State.stepCheck
  refine Agree.ite ?_ ?_
  · extract_lets +onlyGivenNames -merge -useContext -underBinder x1204
    have h1205 : Agree MM so x1204 := by
      subst x1204
      refine State.analysisLoad_touch (sub_trans (by decide) hmm) ?_
      exact hag
    try clear_value x1204
    refine Agree.ite ?_ ?_
    · refine State.romFinds_touch (sub_trans (by decide) hmm) ?_
      exact h1205
    · exact h1205
  · refine Agree.ite ?_ ?_
    · refine State.romFinds_touch (sub_trans (by decide) hmm) ?_
      exact hag
    · exact hag

theorem State.recFailPut_touch {MM : Nat} {so : State} {s : Sys2Proof.Machine.State} {st : ℕ} {b : Bool}
    (hmm : Machine.sub 0x300000000000000000000004000000000 MM = true) (hag : Agree MM so s) :
    Agree MM so (@State.recFailPut s st b) := by
  unfold State.recFailPut
  refine State.recPut_touch (sub_trans (by decide) hmm) ?_
  exact hag

theorem State.fallback_touch {MM : Nat} {so : State} {s : Sys2Proof.Machine.State}
    (hmm : Machine.sub 0x300000000000000000000004000000000 MM = true) (hag : Agree MM so s) :
    AgreeP MM so (@State.fallback s) := by
  unfold State.fallback
  refine AgreeP.ite ?_ ?_
  · refine AgreeP.mk ?_
    exact hag
  · refine AgreeP.mk ?_
    refine State.recPut_touch (sub_trans (by decide) hmm) ?_
    refine State.recPut_touch (sub_trans (by decide) hmm) ?_
    exact hag

theorem State.stepFail_touch {MM : Nat} {so : State} {s : Sys2Proof.Machine.State} {st : ℕ} {integrity : Bool}
    (hmm : Machine.sub 0x300000000000000000000004000000000 MM = true) (hag : Agree MM so s) :
    AgreeP MM so (@State.stepFail s st integrity) := by
  unfold State.stepFail
  extract_lets +onlyGivenNames -merge -useContext -underBinder x1206
  try clear_value x1206
  extract_lets +onlyGivenNames -merge -useContext -underBinder x1207
  have h1208 : Agree MM so x1207 := by
    subst x1207
    refine State.recFailPut_touch (sub_trans (by decide) hmm) ?_
    exact hag
  try clear_value x1207
  extract_lets +onlyGivenNames -merge -useContext -underBinder x1209
  have h1210 : AgreeP MM so (x1209) := by
    subst x1209
    refine AgreeP.ite ?_ ?_
    · refine AgreeP.ite ?_ ?_
      · refine AgreeP.mk ?_
        refine State.recPut_touch (sub_trans (by decide) hmm) ?_
        exact h1208
      · refine AgreeP.mk ?_
        exact h1208
    · refine AgreeP.ite ?_ ?_
      · refine AgreeP.mk ?_
        exact h1208
      · refine AgreeP.ite ?_ ?_
        · refine State.fallback_touch (sub_trans (by decide) hmm) ?_
          exact h1208
        · refine AgreeP.ite ?_ ?_
          · refine AgreeP.mk ?_
            refine State.recPut_touch (sub_trans (by decide) hmm) ?_
            exact h1208
          · refine AgreeP.ite ?_ ?_
            · refine AgreeP.mk ?_
              exact h1208
            · refine AgreeP.mk ?_
              exact h1208
  try clear_value x1209
  refine AgreeP.ite ?_ ?_
  · refine AgreeP.mk ?_
    exact h1208
  · refine AgreeP.ite ?_ ?_
    · refine State.fallback_touch (sub_trans (by decide) hmm) ?_
      exact h1208
    · split
      · extract_lets +onlyGivenNames -merge -useContext -underBinder x1211
        try clear_value x1211
        refine AgreeP.ite ?_ ?_
        · refine AgreeP.mk ?_
          refine State.recPut_touch (sub_trans (by decide) hmm) ?_
          exact h1208
        · exact h1210
      · exact h1210

theorem State.parkS_touch {MM : Nat} {so : State} {s : Sys2Proof.Machine.State}
    (hmm : Machine.sub 0xfffffffffffffffffffffffffffffffffffffffffffffffffffffffffffffffffffffffffffffffffffffffffffffffffffffffffffffff000000bdfffffe6c MM = true) (hag : Agree MM so s) :
    Agree MM so (@State.parkS s) := by
  unfold State.parkS
  extract_lets +onlyGivenNames -merge -useContext -underBinder x1212
  have h1213 : Agree MM so x1212 := by
    subst x1212
    refine Agree.ite ?_ ?_
    · exact hag
    · refine State.dropSram_touch (sub_trans (by decide) hmm) ?_
      refine State.switchOff_touch (sub_trans (by decide) hmm) ?_
      exact hag
  try clear_value x1212
  refine Agree.set_boot ?_ (sub_bit hmm (by decide)) _
  exact h1213

theorem State.afterFail_touch {MM : Nat} {so : State} {s : Sys2Proof.Machine.State} {u1 : Sys2Proof.Machine.AfterFail}
    (hmm : Machine.sub 0xfffffffffffffffffffffffffffffffffffffffffffffffffffffffffffffffffffffffffffffffffffffffffffffffffffffffffffffff000000fdfffffe7c MM = true) (hag : Agree MM so s) :
    Agree MM so (@State.afterFail s u1) := by
  unfold State.afterFail
  split
  · exact hag
  · refine State.restart_touch (sub_trans (by decide) hmm) ?_
    exact hag
  · refine State.parkS_touch (sub_trans (by decide) hmm) ?_
    exact hag
  · refine State.enterMend_touch (sub_trans (by decide) hmm) ?_
    exact hag

theorem State.stepFailed_touch {MM : Nat} {so : State} {s : Sys2Proof.Machine.State} {st : ℕ} {integrity : Bool}
    (hmm : Machine.sub 0xfffffffffffffffffffffffffffffffffffffffffffffffffffffffffffffffffffffffffffffffffffffffffffffffffffffffffffffff000000fdfffffe7c MM = true) (hag : Agree MM so s) :
    Agree MM so (@State.stepFailed s st integrity) := by
  unfold State.stepFailed
  split
  · rename_i heq
    have h1214 := AgreeP.of_eq (M := MM) (s0 := so) heq (by
      refine State.stepFail_touch (sub_trans (by decide) hmm) ?_
      exact hag
      )
    extract_lets +onlyGivenNames -merge -useContext -underBinder x1215
    have h1216 : Agree MM so x1215 := by
      subst x1215
      refine Agree.ite ?_ ?_
      · refine Agree.fsetB ?_ (sub_bit hmm (by decide)) _ _
        exact h1214
      · exact h1214
    try clear_value x1215
    refine State.afterFail_touch (sub_trans (by decide) hmm) ?_
    exact h1216

theorem State.handoffDone_touch {MM : Nat} {so : State} {s : Sys2Proof.Machine.State}
    (hmm : Machine.sub 0xe0000000000000000000000000000000000000000000000000000000000000000000000000000000000000000000000040000001408400000 MM = true) (hag : Agree MM so s) :
    Agree MM so (@State.handoffDone s) := by
  unfold State.handoffDone
  extract_lets +onlyGivenNames -merge -useContext -underBinder x1217
  have h1218 : Agree MM so x1217 := by
    subst x1217
    refine State.wd0Run_touch (sub_trans (by decide) hmm) ?_
    exact hag
  try clear_value x1217
  extract_lets +onlyGivenNames -merge -useContext -underBinder x1219
  have h1220 : Agree MM so x1219 := by
    subst x1219
    refine Agree.ite ?_ ?_
    · exact h1218
    · refine Agree.fsetB ?_ (sub_bit hmm (by decide)) _ _
      exact h1218
  try clear_value x1219
  extract_lets +onlyGivenNames -merge -useContext -underBinder x1221
  have h1222 : Agree MM so x1221 := by
    subst x1221
    refine Agree.ite ?_ ?_
    · exact h1220
    · refine State.coreZero_touch (sub_trans (by decide) hmm) ?_
      exact h1220
  try clear_value x1221
  extract_lets +onlyGivenNames -merge -useContext -underBinder x1223
  have h1224 : Agree MM so x1223 := by
    subst x1223
    refine State.coreZero_touch (sub_trans (by decide) hmm) ?_
    exact h1222
  try clear_value x1223
  extract_lets +onlyGivenNames -merge -useContext -underBinder x1225
  try clear_value x1225
  extract_lets +onlyGivenNames -merge -useContext -underBinder x1226
  try clear_value x1226
  refine Agree.set_cores_boot ?_ (sub_bit hmm (by decide)) (sub_bit hmm (by decide)) _ _
  exact h1224

theorem State.mailboxCopy_touch {MM : Nat} {so : State} {s : Sys2Proof.Machine.State}
    (hmm : Machine.sub 0xfffffffffffffffffffffffffffffffffffffffffffffffffffffffffffffffffffffffffffffffffffffffffffffffffffffffffffffff000000fffffffe7c MM = true) (hag : Agree MM so s) :
    Agree MM so (@State.mailboxCopy s) := by
  unfold State.mailboxCopy
  extract_lets +onlyGivenNames -merge -useContext -underBinder x1227
  try clear_value x1227
  split
  · extract_lets +onlyGivenNames -merge -useContext -underBinder x1228
    have h1229 : Agree MM so x1228 := by
      subst x1228
      refine State.recPut_touch (sub_trans (by decide) hmm) ?_
      refine State.recPut_touch (sub_trans (by decide) hmm) ?_
      exact hag
    try clear_value x1228
    extract_lets +onlyGivenNames -merge -useContext -underBinder x1230
    try clear_value x1230
    extract_lets +onlyGivenNames -merge -useContext -underBinder x1231
    have h1232 : Agree MM so x1231 := by
      subst x1231
      refine Agree.set_boot ?_ (sub_bit hmm (by decide)) _
      exact h1229
    try clear_value x1231
    refine Agree.ite ?_ ?_
    · extract_lets +onlyGivenNames -merge -useContext -underBinder x1233
      have h1234 : Agree MM so x1233 := by
        subst x1233
        refine Agree.fsetB ?_ (sub_bit hmm (by decide)) _ _
        refine Agree.fset ?_ (sub_bit hmm (by decide)) _ _
        exact h1232
      try clear_value x1233
      refine State.stepDo_touch (sub_trans (by decide) hmm) ?_
      refine State.wd0Run_touch (sub_trans (by decide) hmm) ?_
      exact h1234
    · exact h1232
  · extract_lets +onlyGivenNames -merge -useContext -underBinder x1235
    have h1236 : Agree MM so x1235 := by
      subst x1235
      refine Agree.ite ?_ ?_
      · refine State.stepCheck_touch (sub_trans (by decide) hmm) ?_
        exact hag
      · exact hag
    try clear_value x1235
    split
    · refine State.stepFailed_touch (sub_trans (by decide) hmm) ?_
      exact h1236
    · extract_lets +onlyGivenNames -merge -useContext -underBinder x1237
      have h1238 : Agree MM so x1237 := by
        subst x1237
        refine State.recFailPut_touch (sub_trans (by decide) hmm) ?_
        exact h1236
      try clear_value x1237
      refine Agree.ite ?_ ?_
      · refine State.handoffDone_touch (sub_trans (by decide) hmm) ?_
        exact h1238
      · exact h1238
  · refine State.stepFailed_touch (sub_trans (by decide) hmm) ?_
    exact hag

theorem State.mailbox_touch {MM : Nat} {so : State} {s : Sys2Proof.Machine.State}
    (hmm : Machine.sub 0xfffffffffffffffffffffffffffffffffffffffffffffffffffffffffffffffffffffffffffffffffffffffffffffffffffffffffffffff000000fffffffe7c MM = true) (hag : Agree MM so s) :
    Agree MM so (@State.mailbox s) := by
  unfold State.mailbox
  extract_lets +onlyGivenNames -merge -useContext -underBinder x1239
  have h1240 : Agree MM so x1239 := by
    subst x1239
    refine State.irq_touch (sub_trans (by decide) hmm) ?_
    refine Agree.fsetB ?_ (sub_bit hmm (by decide)) _ _
    exact hag
  try clear_value x1239
  refine Agree.ite ?_ ?_
  · refine State.mailboxCopy_touch (sub_trans (by decide) hmm) ?_
    refine Agree.fsetB ?_ (sub_bit hmm (by decide)) _ _
    exact h1240
  · exact h1240

theorem State.mendAsked_touch {MM : Nat} {so : State} {s : Sys2Proof.Machine.State}
    (hmm : Machine.sub 0x10000000000000000100000000000000200 MM = true) (hag : Agree MM so s) :
    Agree MM so (@State.mendAsked s) := by
  unfold State.mendAsked
  refine State.irq_touch (sub_trans (by decide) hmm) ?_
  exact hag

theorem State.backupStep_touch {MM : Nat} {so : State} {s : Sys2Proof.Machine.State}
    (hmm : Machine.sub 0x10300003000000000180000004001000200 MM = true) (hag : Agree MM so s) :
    AgreeP MM so (@State.backupStep s) := by
  unfold State.backupStep
  extract_lets +onlyGivenNames -merge -useContext -underBinder x1671
  have h1672 : Agree MM so x1671 := by
    subst x1671
    refine State.bkCheck_touch (sub_trans (by decide) hmm) ?_
    exact hag
  try clear_value x1671
  extract_lets +onlyGivenNames -merge -useContext -underBinder x1673
  have h1674 : Agree MM so x1673 := by
    subst x1673
    refine Agree.ite ?_ ?_
    · refine State.bkPut_touch (sub_trans (by decide) hmm) ?_
      refine State.bkPut_touch (sub_trans (by decide) hmm) ?_
      exact h1672
    · exact h1672
  try clear_value x1673
  extract_lets +onlyGivenNames -merge -useContext -underBinder x1675
  try clear_value x1675
  extract_lets +onlyGivenNames -merge -useContext -underBinder x1676
  try clear_value x1676
  extract_lets +onlyGivenNames -merge -useContext -underBinder x1677
  try clear_value x1677
  extract_lets +onlyGivenNames -merge -useContext -underBinder x1678
  try clear_value x1678
  split
  · rename_i heq
    have h1679 := AgreeP.of_eq (M := MM) (s0 := so) heq (by
      refine AgreeP.ite ?_ ?_
      · refine State.stepFail_touch (sub_trans (by decide) hmm) ?_
        exact h1674
      · refine AgreeP.mk ?_
        exact h1674
      )
    extract_lets +onlyGivenNames -merge -useContext -underBinder x1680
    have h1681 : Agree MM so x1680 := by
      subst x1680
      refine Agree.ite ?_ ?_
      · refine State.recPut_touch (sub_trans (by decide) hmm) ?_
        exact h1679
      · exact h1679
    try clear_value x1680
    extract_lets +onlyGivenNames -merge -useContext -underBinder x1682
    have h1683 : Agree MM so x1682 := by
      subst x1682
      refine Agree.ite ?_ ?_
      · exact h1681
      · refine Agree.ite ?_ ?_
        · refine State.recPut_touch (sub_trans (by decide) hmm) ?_
          exact h1681
        · refine Agree.ite ?_ ?_
          · exact h1681
          · refine State.recPut_touch (sub_trans (by decide) hmm) ?_
            exact h1681
    try clear_value x1682
    extract_lets +onlyGivenNames -merge -useContext -underBinder x1684
    have h1685 : Agree MM so x1684 := by
      subst x1684
      refine State.recPut_touch (sub_trans (by decide) hmm) ?_
      refine State.recPut_touch (sub_trans (by decide) hmm) ?_
      exact h1683
    try clear_value x1684
    refine AgreeP.mk ?_
    refine State.recPut_touch (sub_trans (by decide) hmm) ?_
    exact h1685

theorem State.clocksStep_touch {MM : Nat} {so : State} {s : Sys2Proof.Machine.State}
    (hmm : Machine.sub 0xfffffffffffffffffffffffffffffffffffffffffffffffffffffffffffffffffffffffffffffffffffffffffffffffffffffffffffffff0000000007baa608 MM = true) (hag : Agree MM so s) :
    Agree MM so (@State.clocksStep s) := by
  unfold State.clocksStep
  extract_lets +onlyGivenNames -merge -useContext -underBinder x1912
  have h1913 : Agree MM so x1912 := by
    subst x1912
    refine Agree.setReg ?_ (sub_bit hmm (by decide)) _ _
    exact hag
  try clear_value x1912
  refine Agree.forEach ?_ (fun y1914 t1915 h1916 => ?_) _
  · exact h1913
  · refine State.sourceReady_touch (sub_trans (by decide) hmm) ?_
    exact h1916

theorem State.mendSend_touch {MM : Nat} {so : State} {s : Sys2Proof.Machine.State} {p0 : Bool} {bs : List Sys2Proof.Byte}
    (hmm : Machine.sub 0x800000000 MM = true) (hag : Agree MM so s) :
    Agree MM so (@State.mendSend s p0 bs) := by
  unfold State.mendSend
  refine Agree.ite ?_ ?_
  · refine Agree.set_mend ?_ (sub_bit hmm (by decide)) _
    exact hag
  · refine Agree.set_mend ?_ (sub_bit hmm (by decide)) _
    exact hag

theorem State.mendAnswer_touch {MM : Nat} {so : State} {s : Sys2Proof.Machine.State} {status : ℕ} {data : List Sys2Proof.Byte}
    (hmm : Machine.sub 0x800000000 MM = true) (hag : Agree MM so s) :
    Agree MM so (@State.mendAnswer s status data) := by
  unfold State.mendAnswer
  split
  · exact hag
  · refine State.mendSend_touch (sub_trans (by decide) hmm) ?_
    refine Agree.set_mend ?_ (sub_bit hmm (by decide)) _
    exact hag

theorem State.mendVerified_touch {MM : Nat} {so : State} {s : Sys2Proof.Machine.State} {slot : ℕ} {r : ℕ}
    (hmm : Machine.sub 0x800000000 MM = true) (hag : Agree MM so s) :
    Agree MM so (@State.mendVerified s slot r) := by
  unfold State.mendVerified
  refine Agree.set_mend ?_ (sub_bit hmm (by decide)) _
  exact hag

theorem State.mendErase_touch {MM : Nat} {so : State} {s : Sys2Proof.Machine.State} {ok : Bool}
    (hmm : Machine.sub 0xa00000000 MM = true) (hag : Agree MM so s) :
    Agree MM so (@State.mendErase s ok) := by
  unfold State.mendErase
  split
  · refine Agree.ite (State.mendAnswer_touch (sub_trans (by decide) hmm) hag) ?_
    extract_lets a size u
    clear_value a size
    have h1 : Agree MM so u := by
      subst u
      exact State.mendVerified_touch (sub_trans (by decide) hmm) hag
    clear_value u
    refine Agree.ite (State.mendAnswer_touch (sub_trans (by decide) hmm) h1) ?_
    exact State.mendAnswer_touch (sub_trans (by decide) hmm) (Agree.filterFlash h1 (sub_bit hmm (by decide)) _)
  · exact State.mendAnswer_touch (sub_trans (by decide) hmm) hag
  · exact hag

theorem State.mendFrame_touch {MM : Nat} {so : State} {s : Sys2Proof.Machine.State} {p0 : Bool}
    (hmm : Machine.sub 0x800000000 MM = true) (hag : Agree MM so s) :
    Agree MM so (@State.mendFrame s p0) := by
  unfold State.mendFrame
  extract_lets +onlyGivenNames -merge -useContext -underBinder x2837
  try clear_value x2837
  refine Agree.ite ?_ ?_
  · exact hag
  · split
    · exact hag
    · extract_lets +onlyGivenNames -merge -useContext -underBinder x2838
      try clear_value x2838
      extract_lets +onlyGivenNames -merge -useContext -underBinder x2839
      try clear_value x2839
      extract_lets +onlyGivenNames -merge -useContext -underBinder x2840
      have h2841 : Agree MM so x2840 := by
        subst x2840
        refine Agree.set_mend ?_ (sub_bit hmm (by decide)) _
        exact hag
      try clear_value x2840
      refine Agree.ite ?_ ?_
      · refine Agree.ite ?_ ?_
        · exact h2841
        · refine Agree.set_mend ?_ (sub_bit hmm (by decide)) _
          exact h2841
      · refine Agree.ite ?_ ?_
        · refine State.mendSend_touch (sub_trans (by decide) hmm) ?_
          exact h2841
        · extract_lets +onlyGivenNames -merge -useContext -underBinder x2842
          try clear_value x2842
          extract_lets +onlyGivenNames -merge -useContext -underBinder x2843
          have h2844 : Agree MM so x2843 := by
            subst x2843
            refine Agree.set_mend ?_ (sub_bit hmm (by decide)) _
            exact h2841
          try clear_value x2843
          refine Agree.ite ?_ ?_
          · exact h2844
          · refine State.mendAnswer_touch (sub_trans (by decide) hmm) ?_
            exact h2844

theorem State.mendGap_touch {MM : Nat} {so : State} {s : Sys2Proof.Machine.State}
    (hmm : Machine.sub 0x800000000 MM = true) (hag : Agree MM so s) :
    Agree MM so (@State.mendGap s) := by
  unfold State.mendGap
  refine Agree.set_mend ?_ (sub_bit hmm (by decide)) _
  exact hag

theorem State.mendHello_touch {MM : Nat} {so : State} {s : Sys2Proof.Machine.State}
    (hmm : Machine.sub 0x800000000 MM = true) (hag : Agree MM so s) :
    Agree MM so (@State.mendHello s) := by
  unfold State.mendHello
  split
  · exact hag
  · refine State.mendAnswer_touch (sub_trans (by decide) hmm) ?_
    exact hag

theorem State.mendLeave_touch {MM : Nat} {so : State} {s : Sys2Proof.Machine.State}
    (hmm : Machine.sub 0xfffffffffffffffffffffffffffffffffffffffffffffffffffffffffffffffffffffffffffffffffffffffffffffffffffffffffffffff000000fdfffffe7c MM = true) (hag : Agree MM so s) :
    Agree MM so (@State.mendLeave s) := by
  unfold State.mendLeave
  split
  · extract_lets +onlyGivenNames -merge -useContext -underBinder x2845
    have h2846 : Agree MM so x2845 := by
      subst x2845
      refine State.mendAnswer_touch (sub_trans (by decide) hmm) ?_
      exact hag
    try clear_value x2845
    refine Agree.ite ?_ ?_
    · exact h2846
    · extract_lets +onlyGivenNames -merge -useContext -underBinder x2847
      try clear_value x2847
      extract_lets +onlyGivenNames -merge -useContext -underBinder x2848
      have h2849 : Agree MM so x2848 := by
        subst x2848
        refine State.restart_touch (sub_trans (by decide) hmm) ?_
        exact h2846
      try clear_value x2848
      refine Agree.set_mend ?_ (sub_bit hmm (by decide)) _
      exact h2849
  · exact hag

theorem State.mendLeft_touch {MM : Nat} {so : State} {s : Sys2Proof.Machine.State} {p : ℕ}
    (hmm : Machine.sub 0xfffffffffffffffffffffffffffffffffffffffffffffffffffffffffffffffffffffffffffffffffffffffffffffffffffffffffffffff000000fdfffffe7c MM = true) (hag : Agree MM so s) :
    Agree MM so (@State.mendLeft s p) := by
  unfold State.mendLeft
  refine Agree.ite ?_ ?_
  · extract_lets +onlyGivenNames -merge -useContext -underBinder x2850
    try clear_value x2850
    extract_lets +onlyGivenNames -merge -useContext -underBinder x2851
    have h2852 : Agree MM so x2851 := by
      subst x2851
      refine State.restart_touch (sub_trans (by decide) hmm) ?_
      exact hag
    try clear_value x2851
    refine Agree.set_links ?_ (sub_bit hmm (by decide)) _
    exact h2852
  · exact hag

theorem State.mendSelect_touch {MM : Nat} {so : State} {s : Sys2Proof.Machine.State} {ok : Bool}
    (hmm : Machine.sub 0x300000000000000000000004a00000000 MM = true) (hag : Agree MM so s) :
    Agree MM so (@State.mendSelect s ok) := by
  unfold State.mendSelect
  split
  · refine Agree.ite ?_ ?_
    · refine State.mendAnswer_touch (sub_trans (by decide) hmm) ?_
      exact hag
    · refine Agree.ite ?_ ?_
      · refine State.mendAnswer_touch (sub_trans (by decide) hmm) ?_
        exact hag
      · refine Agree.ite ?_ ?_
        · refine State.mendAnswer_touch (sub_trans (by decide) hmm) ?_
          exact hag
        · refine Agree.ite ?_ ?_
          · refine State.mendAnswer_touch (sub_trans (by decide) hmm) ?_
            exact hag
          · extract_lets +onlyGivenNames -merge -useContext -underBinder x2853
            have h2854 : Agree MM so x2853 := by
              subst x2853
              refine State.headerWrite_touch (sub_trans (by decide) hmm) ?_
              exact hag
            try clear_value x2853
            extract_lets +onlyGivenNames -merge -useContext -underBinder x2855
            have h2856 : Agree MM so x2855 := by
              subst x2855
              refine State.recPut_touch (sub_trans (by decide) hmm) ?_
              refine State.recPut_touch (sub_trans (by decide) hmm) ?_
              refine State.recPut_touch (sub_trans (by decide) hmm) ?_
              exact h2854
            try clear_value x2855
            extract_lets +onlyGivenNames -merge -useContext -underBinder x2857
            have h2858 : Agree MM so x2857 := by
              subst x2857
              refine State.recPut_touch (sub_trans (by decide) hmm) ?_
              refine State.recPut_touch (sub_trans (by decide) hmm) ?_
              refine State.recPut_touch (sub_trans (by decide) hmm) ?_
              refine State.recPut_touch (sub_trans (by decide) hmm) ?_
              exact h2856
            try clear_value x2857
            refine State.mendAnswer_touch (sub_trans (by decide) hmm) ?_
            exact h2858
  · refine State.mendAnswer_touch (sub_trans (by decide) hmm) ?_
    exact hag
  · exact hag

theorem State.mendVerify_touch {MM : Nat} {so : State} {s : Sys2Proof.Machine.State}
    (hmm : Machine.sub 0x800000000 MM = true) (hag : Agree MM so s) :
    Agree MM so (@State.mendVerify s) := by
  unfold State.mendVerify
  split
  · refine Agree.ite ?_ ?_
    · refine State.mendAnswer_touch (sub_trans (by decide) hmm) ?_
      exact hag
    · extract_lets +onlyGivenNames -merge -useContext -underBinder x2859
      try clear_value x2859
      extract_lets +onlyGivenNames -merge -useContext -underBinder x2860
      try clear_value x2860
      extract_lets +onlyGivenNames -merge -useContext -underBinder x2861
      try clear_value x2861
      refine Agree.ite ?_ ?_
      · refine State.mendAnswer_touch (sub_trans (by decide) hmm) ?_
        refine State.mendVerified_touch (sub_trans (by decide) hmm) ?_
        exact hag
      · refine State.mendAnswer_touch (sub_trans (by decide) hmm) ?_
        refine State.mendVerified_touch (sub_trans (by decide) hmm) ?_
        exact hag
  · refine State.mendAnswer_touch (sub_trans (by decide) hmm) ?_
    exact hag
  · exact hag

theorem State.mendWrite_touch {MM : Nat} {so : State} {s : Sys2Proof.Machine.State} {ok : Bool}
    (hmm : Machine.sub 0xa00000000 MM = true) (hag : Agree MM so s) :
    Agree MM so (@State.mendWrite s ok) := by
  unfold State.mendWrite
  split
  · extract_lets +onlyGivenNames -merge -useContext -underBinder x2862
    try clear_value x2862
    extract_lets +onlyGivenNames -merge -useContext -underBinder x2863
    try clear_value x2863
    refine Agree.ite ?_ ?_
    · refine State.mendAnswer_touch (sub_trans (by decide) hmm) ?_
      exact hag
    · extract_lets +onlyGivenNames -merge -useContext -underBinder x2864
      try clear_value x2864
      extract_lets +onlyGivenNames -merge -useContext -underBinder x2865
      have h2866 : Agree MM so x2865 := by
        subst x2865
        refine State.mendVerified_touch (sub_trans (by decide) hmm) ?_
        exact hag
      try clear_value x2865
      refine Agree.ite ?_ ?_
      · refine State.mendAnswer_touch (sub_trans (by decide) hmm) ?_
        exact h2866
      · refine State.mendAnswer_touch (sub_trans (by decide) hmm) ?_
        refine State.flashPut_touch (sub_trans (by decide) hmm) ?_
        exact h2866
  · refine State.mendAnswer_touch (sub_trans (by decide) hmm) ?_
    exact hag
  · exact hag

theorem State.powerOnWake_touch {MM : Nat} {so : State} {s : Sys2Proof.Machine.State}
    (hmm : Machine.sub 0x10300000000079000100000004001000a00 MM = true) (hag : Agree MM so s) :
    Agree MM so (@State.powerOnWake s) := by
  unfold State.powerOnWake
  split
  · extract_lets +onlyGivenNames -merge -useContext -underBinder x3044
    try clear_value x3044
    extract_lets +onlyGivenNames -merge -useContext -underBinder x3045
    try clear_value x3045
    extract_lets +onlyGivenNames -merge -useContext -underBinder x3046
    try clear_value x3046
    extract_lets +onlyGivenNames -merge -useContext -underBinder x3047
    try clear_value x3047
    extract_lets +onlyGivenNames -merge -useContext -underBinder x3048
    have h3049 : Agree MM so x3048 := by
      subst x3048
      refine Agree.set_bkd ?_ (sub_bit hmm (by decide)) _
      exact hag
    try clear_value x3048
    extract_lets +onlyGivenNames -merge -useContext -underBinder x3050
    have h3051 : Agree MM so x3050 := by
      subst x3050
      refine Agree.setReg ?_ (sub_bit hmm (by decide)) _ _
      exact h3049
    try clear_value x3050
    refine State.wakeDeliver_touch (sub_trans (by decide) hmm) ?_
    exact h3051

theorem State.wdTick_touch {MM : Nat} {so : State} {s : Sys2Proof.Machine.State}
    (hmm : Machine.sub 0x400000000 MM = true) (hag : Agree MM so s) :
    Agree MM so (@State.wdTick s) := by
  unfold State.wdTick
  refine Agree.forEach ?_ (fun y3064 t3065 h3066 => ?_) _
  · exact hag
  · extract_lets +onlyGivenNames -merge -useContext -underBinder x3067
    try clear_value x3067
    refine State.setWdt_touch (sub_trans (by decide) hmm) ?_
    exact h3066

theorem State.romS_touch {MM : Nat} {so : State} {s : Sys2Proof.Machine.State} {failed : Option (Fin 3)} {found : Sys2Proof.Contents}
    (hmm : Machine.sub 0xfffffffffffffffffffffffffffffffffffffffffffffffffffffffffffffffffffffffffffffffffffffffffffffffffffffffffffffff000000fdfffffe7c MM = true) (hag : Agree MM so s) :
    Agree MM so (@State.romS s failed found) := by
  unfold State.romS
  extract_lets +onlyGivenNames -merge -useContext -underBinder x3128
  try clear_value x3128
  extract_lets +onlyGivenNames -merge -useContext -underBinder x3129
  have h3130 : Agree MM so x3129 := by
    subst x3129
    refine Agree.set_boot ?_ (sub_bit hmm (by decide)) _
    exact hag
  try clear_value x3129
  split
  · rename_i heq
    have h3131 := AgreeP.of_eq (M := MM) (s0 := so) heq (by
      refine State.backupStep_touch (sub_trans (by decide) hmm) ?_
      exact h3130
      )
    refine Agree.ite ?_ ?_
    · refine State.afterFail_touch (sub_trans (by decide) hmm) ?_
      exact h3131
    · extract_lets +onlyGivenNames -merge -useContext -underBinder x3132
      try clear_value x3132
      extract_lets +onlyGivenNames -merge -useContext -underBinder x3133
      subst x3133
      beta_reduce
      extract_lets +onlyGivenNames -merge -useContext -underBinder x3134
      have h3135 : Agree MM so x3134 := by
        subst x3134
        refine State.recPut_touch (sub_trans (by decide) hmm) ?_
        exact h3131
      try clear_value x3134
      refine Agree.ite ?_ ?_
      · split
        · rename_i heq
          have h3136 := AgreeP.of_eq (M := MM) (s0 := so) heq (by
            refine State.stepFail_touch (sub_trans (by decide) hmm) ?_
            exact h3135
            )
          refine State.afterFail_touch (sub_trans (by decide) hmm) ?_
          exact h3136
      · extract_lets +onlyGivenNames -merge -useContext -underBinder x3137
        have h3138 : Agree MM so x3137 := by
          subst x3137
          refine State.recPut_touch (sub_trans (by decide) hmm) ?_
          refine State.recFailPut_touch (sub_trans (by decide) hmm) ?_
          refine State.setPoint_touch (sub_trans (by decide) hmm) ?_
          exact h3135
        try clear_value x3137
        refine Agree.ite ?_ ?_
        · split
          · rename_i heq
            have h3139 := AgreeP.of_eq (M := MM) (s0 := so) heq (by
              refine State.stepFail_touch (sub_trans (by decide) hmm) ?_
              exact h3138
              )
            refine State.afterFail_touch (sub_trans (by decide) hmm) ?_
            exact h3139
        · extract_lets +onlyGivenNames -merge -useContext -underBinder x3140
          have h3141 : Agree MM so x3140 := by
            subst x3140
            refine State.recPut_touch (sub_trans (by decide) hmm) ?_
            refine State.recFailPut_touch (sub_trans (by decide) hmm) ?_
            refine State.clocksStep_touch (sub_trans (by decide) hmm) ?_
            exact h3138
          try clear_value x3140
          refine Agree.ite ?_ ?_
          · split
            · rename_i heq
              have h3142 := AgreeP.of_eq (M := MM) (s0 := so) heq (by
                refine State.stepFail_touch (sub_trans (by decide) hmm) ?_
                exact h3141
                )
              refine State.afterFail_touch (sub_trans (by decide) hmm) ?_
              exact h3142
          · refine State.recPut_touch (sub_trans (by decide) hmm) ?_
            refine State.recFailPut_touch (sub_trans (by decide) hmm) ?_
            refine State.acqOn_touch (sub_trans (by decide) hmm) ?_
            exact h3141

theorem State.romCopied_touch {MM : Nat} {so : State} {s : Sys2Proof.Machine.State} {core : ℕ} {failed : Option (Fin 3)} {rom : Sys2Proof.Contents} {found : Sys2Proof.Contents}
    (hmm : Machine.sub 0xfffffffffffffffffffffffffffffffffffffffffffffffffffffffffffffffffffffffffffffffffffffffffffffffffffffffffffffff000000fdfffffe7c MM = true) (hag : Agree MM so s) :
    Agree MM so (@State.romCopied s core failed rom found) := by
  unfold State.romCopied
  refine Agree.ite ?_ ?_
  · exact hag
  · extract_lets +onlyGivenNames -merge -useContext -underBinder x3143
    try clear_value x3143
    extract_lets +onlyGivenNames -merge -useContext -underBinder x3144
    have h3145 : Agree MM so x3144 := by
      subst x3144
      refine Agree.set_boot ?_ (sub_bit hmm (by decide)) _
      exact hag
    try clear_value x3144
    extract_lets +onlyGivenNames -merge -useContext -underBinder x3146
    try clear_value x3146
    extract_lets +onlyGivenNames -merge -useContext -underBinder x3147
    try clear_value x3147
    extract_lets +onlyGivenNames -merge -useContext -underBinder x3148
    have h3149 : Agree MM so x3148 := by
      subst x3148
      refine State.fill_touch (sub_trans (by decide) hmm) ?_
      exact h3145
    try clear_value x3148
    refine Agree.ite ?_ ?_
    · refine State.romS_touch (sub_trans (by decide) hmm) ?_
      refine State.fill_touch (sub_trans (by decide) hmm) ?_
      exact h3149
    · extract_lets +onlyGivenNames -merge -useContext -underBinder x3150
      try clear_value x3150
      extract_lets +onlyGivenNames -merge -useContext -underBinder x3151
      try clear_value x3151
      extract_lets +onlyGivenNames -merge -useContext -underBinder x3152
      have h3153 : Agree MM so x3152 := by
        subst x3152
        refine Agree.set_boot ?_ (sub_bit hmm (by decide)) _
        exact h3149
      try clear_value x3152
      refine Agree.ite ?_ ?_
      · refine Agree.fsetB ?_ (sub_bit hmm (by decide)) _ _
        refine Agree.fsetB ?_ (sub_bit hmm (by decide)) _ _
        exact h3153
      · refine State.recPut_touch (sub_trans (by decide) hmm) ?_
        exact h3153

theorem State.senLost_touch {MM : Nat} {so : State} {s : Sys2Proof.Machine.State}
    (hmm : Machine.sub 0xfffffffffffffffffffffffffffffffffffffffffffffffffffffffffffffffffffffffffffffffffffffffffffffffffffffffffffffff000000fdfffffe7c MM = true) (hag : Agree MM so s) :
    Agree MM so (@State.senLost s) := by
  unfold State.senLost
  refine Agree.ite ?_ ?_
  · exact hag
  · extract_lets +onlyGivenNames -merge -useContext -underBinder x3173
    try clear_value x3173
    extract_lets +onlyGivenNames -merge -useContext -underBinder x3174
    try clear_value x3174
    extract_lets +onlyGivenNames -merge -useContext -underBinder x3175
    have h3176 : Agree MM so x3175 := by
      subst x3175
      refine State.senReset_touch (sub_trans (by decide) hmm) ?_
      refine State.measAbort_touch (sub_trans (by decide) hmm) ?_
      exact hag
    try clear_value x3175
    extract_lets +onlyGivenNames -merge -useContext -underBinder x3177
    try clear_value x3177
    extract_lets +onlyGivenNames -merge -useContext -underBinder x3178
    have h3179 : Agree MM so x3178 := by
      subst x3178
      refine Agree.set_bkd ?_ (sub_bit hmm (by decide)) _
      exact h3176
    try clear_value x3178
    extract_lets +onlyGivenNames -merge -useContext -underBinder x3180
    have h3181 : Agree MM so x3180 := by
      subst x3180
      refine Agree.ite ?_ ?_
      · refine Agree.fsetB ?_ (sub_bit hmm (by decide)) _ _
        exact h3179
      · exact h3179
    try clear_value x3180
    refine State.bkdSubst_touch (sub_trans (by decide) hmm) ?_
    refine Agree.set_power_boot ?_ (sub_bit hmm (by decide)) (sub_bit hmm (by decide)) _ _
    exact h3181

theorem State.senPowerOn_touch {MM : Nat} {so : State} {s : Sys2Proof.Machine.State} {devid : ℕ} {vio : ℕ} {modes : ℕ}
    (hmm : Machine.sub 0xfffffffffffffffffffffffffffffffffffffffffffffffffffffffffffffffffffffffffffffffffffffffffffffffffffffffffffffff000000fdfffffe7c MM = true) (hag : Agree MM so s) :
    Agree MM so (@State.senPowerOn s devid vio modes) := by
  unfold State.senPowerOn
  extract_lets +onlyGivenNames -merge -useContext -underBinder x3182
  try clear_value x3182
  extract_lets +onlyGivenNames -merge -useContext -underBinder x3183
  have h3184 : Agree MM so x3183 := by
    subst x3183
    refine State.measReset_touch (sub_trans (by decide) hmm) ?_
    refine State.senReset_touch (sub_trans (by decide) hmm) ?_
    exact hag
  try clear_value x3183
  extract_lets +onlyGivenNames -merge -useContext -underBinder x3185
  have h3186 : Agree MM so x3185 := by
    subst x3185
    refine Agree.fset ?_ (sub_bit hmm (by decide)) _ _
    exact h3184
  try clear_value x3185
  extract_lets +onlyGivenNames -merge -useContext -underBinder x3187
  have h3188 : Agree MM so x3187 := by
    subst x3187
    refine Agree.fsetB ?_ (sub_bit hmm (by decide)) _ _
    exact h3186
  try clear_value x3187
  extract_lets +onlyGivenNames -merge -useContext -underBinder x3189
  have h3190 : Agree MM so x3189 := by
    subst x3189
    refine Agree.forEach ?_ (fun y3191 t3192 h3193 => ?_) _
    · exact h3188
    · refine Agree.setReg ?_ (allBit (sub_trans (by decide) hmm) _) _ _
      exact h3193
  try clear_value x3189
  extract_lets +onlyGivenNames -merge -useContext -underBinder x3194
  try clear_value x3194
  extract_lets +onlyGivenNames -merge -useContext -underBinder x3195
  try clear_value x3195
  extract_lets +onlyGivenNames -merge -useContext -underBinder x3196
  try clear_value x3196
  extract_lets +onlyGivenNames -merge -useContext -underBinder x3197
  have h3198 : Agree MM so x3197 := by
    subst x3197
    refine Agree.set_power_xspi ?_ (sub_bit hmm (by decide)) (sub_bit hmm (by decide)) _ _
    exact h3190
  try clear_value x3197
  extract_lets +onlyGivenNames -merge -useContext -underBinder x3199
  have h3200 : Agree MM so x3199 := by
    subst x3199
    refine Agree.ite ?_ ?_
    · exact h3198
    · refine State.powerOnWake_touch (sub_trans (by decide) hmm) ?_
      exact h3198
  try clear_value x3199
  refine State.gpioFollow_touch (sub_trans (by decide) hmm) ?_
  refine State.bkdBusy_touch (sub_trans (by decide) hmm) ?_
  refine Agree.fsetB ?_ (sub_bit hmm (by decide)) _ _
  exact h3200

theorem State.wdExpiry_touch {MM : Nat} {so : State} {s : Sys2Proof.Machine.State} {d : ℕ}
    (hmm : Machine.sub 0xfffffffffffffffffffffffffffffffffffffffffffffffffffffffffffffffffffffffffffffffffffffffffffffffffffffffffffffff000000fdfffffe7c MM = true) (hag : Agree MM so s) :
    Agree MM so (@State.wdExpiry s d) := by
  unfold State.wdExpiry
  refine Agree.ite ?_ ?_
  · refine State.wdExpire_touch (sub_trans (by decide) hmm) ?_
    exact hag
  · exact hag

end Sys2Proof.Machine
end

