-- ==== Sys2Proof/Laws/Touch/View.lean ====
section
/-!
SUPPORT. What the functions of Machine/View.lean can touch: one lemma per function, its mask after `sub`.
-/

namespace Sys2Proof.Machine

theorem State.freezeRead_touch {MM : Nat} {so : State} {s : Sys2Proof.Machine.State} {g : Sys2Proof.Machine.FreezeGroup} {who : ℕ} {r : Sys2Proof.Machine.Reg} {n : ℕ}
    (hmm : Machine.sub 0x20 MM = true) (hp3 : MM.testBit (64 + r.ctorIdx) = true) (hag : Agree MM so s) :
    AgreeP MM so (@State.freezeRead s g who r n) := by
  unfold State.freezeRead
  extract_lets +onlyGivenNames -merge -useContext -underBinder x1332
  try clear_value x1332
  extract_lets +onlyGivenNames -merge -useContext -underBinder x1333
  try clear_value x1333
  extract_lets +onlyGivenNames -merge -useContext -underBinder x1334
  try clear_value x1334
  split
  · refine AgreeP.mk ?_
    refine Agree.set_freeze ?_ (sub_bit hmm (by decide)) _
    exact hag
  · extract_lets +onlyGivenNames -merge -useContext -underBinder x1335
    try clear_value x1335
    refine AgreeP.ite ?_ ?_
    · refine AgreeP.mk ?_
      exact hag
    · refine AgreeP.mk ?_
      refine Agree.set_freeze ?_ (sub_bit hmm (by decide)) _
      exact hag

end Sys2Proof.Machine
end

