-- ==== Sys2Proof/Laws/Touch/Basket.lean ====
section
/-!
SUPPORT. What the functions of Machine/Basket.lean can touch: one lemma per function, its mask after `sub`.
-/

namespace Sys2Proof.Machine

theorem State.bsBusy_touch {MM : Nat} {so : State} {s : Sys2Proof.Machine.State}
    (hmm : Machine.sub 0x80000000000000000 MM = true) (hag : Agree MM so s) :
    Agree MM so (@State.bsBusy s) := by
  unfold State.bsBusy
  refine State.setBusy_touch (sub_trans (by decide) hmm) ?_
  exact hag

theorem State.bsAborted_touch {MM : Nat} {so : State} {s : Sys2Proof.Machine.State} {n : ℕ} {reason : ℕ} {fail : Option ℕ}
    (hmm : Machine.sub 0x1800000000000000000000000000000000000000000000000000000000101400010000000000000000180000000002000600 MM = true) (hag : Agree MM so s) :
    Agree MM so (@State.bsAborted s n reason fail) := by
  unfold State.bsAborted
  extract_lets +onlyGivenNames -merge -useContext -underBinder x18
  have h19 : Agree MM so x18 := by
    subst x18
    refine Agree.fset ?_ (sub_bit hmm (by decide)) _ _
    refine Agree.fset ?_ (sub_bit hmm (by decide)) _ _
    exact hag
  try clear_value x18
  extract_lets +onlyGivenNames -merge -useContext -underBinder x20
  have h21 : Agree MM so x20 := by
    subst x20
    split
    · refine Agree.fset ?_ (sub_bit hmm (by decide)) _ _
      exact h19
    · exact h19
  try clear_value x20
  extract_lets +onlyGivenNames -merge -useContext -underBinder x22
  have h23 : Agree MM so x22 := by
    subst x22
    refine Agree.fsetBit ?_ (sub_bit hmm (by decide)) _ _ _
    exact h21
  try clear_value x22
  extract_lets +onlyGivenNames -merge -useContext -underBinder x24
  extract_lets +onlyGivenNames -merge -useContext -underBinder x25
  have h26 : Agree MM so x25 := by
    subst x25
    refine State.bsBusy_touch (sub_trans (by decide) hmm) ?_
    refine State.setSlot_touch (sub_trans (by decide) hmm) ?_
    exact h23
  try clear_value x25
  refine Agree.ite ?_ ?_
  · exact h26
  · refine State.ownOutcome_touch (sub_trans (by decide) hmm) ?_
    exact h26

theorem State.bsAbort_touch {MM : Nat} {so : State} {s : Sys2Proof.Machine.State} {n : ℕ} {reason : ℕ} {fail : Option ℕ}
    (hmm : Machine.sub 0x1800000000000000000000000000000000000000000000000000000000101400010000000000000000180000000002000600 MM = true) (hag : Agree MM so s) :
    Agree MM so (@State.bsAbort s n reason fail) := by
  unfold State.bsAbort
  refine State.pulse_touch (sub_trans (by decide) hmm) ?_
  refine State.irq_touch (sub_trans (by decide) hmm) ?_
  refine State.bsAborted_touch (sub_trans (by decide) hmm) ?_
  exact hag

theorem State.abortedMsg_touch {MM : Nat} {so : State} {s : Sys2Proof.Machine.State} {pk : Sys2Proof.Machine.Packet}
    (hmm : Machine.sub 0x1800000000000000000000000000000000000000000000000000000000101400010000000000000000180000000002000600 MM = true) (hag : Agree MM so s) :
    Agree MM so (@State.abortedMsg s pk) := by
  unfold State.abortedMsg
  extract_lets +onlyGivenNames -merge -useContext -underBinder x27
  try clear_value x27
  extract_lets +onlyGivenNames -merge -useContext -underBinder x28
  try clear_value x28
  refine Agree.ite ?_ ?_
  · exact hag
  · refine Agree.ite ?_ ?_
    · refine State.bsAbort_touch (sub_trans (by decide) hmm) ?_
      exact hag
    · refine Agree.ite ?_ ?_
      · refine State.diverge_touch (sub_trans (by decide) hmm) ?_
        exact hag
      · exact hag

theorem State.bsAppend_touch {MM : Nat} {so : State} {s : Sys2Proof.Machine.State} {n : ℕ} {w : Sys2Proof.Machine.Who} {v : Sys2Proof.Word}
    (hmm : Machine.sub 0x1800000000000000000000000000000000000000000000000000000000101400010000000000000000180000000002000600 MM = true) (hag : Agree MM so s) :
    Agree MM so (@State.bsAppend s n w v) := by
  unfold State.bsAppend
  extract_lets +onlyGivenNames -merge -useContext -underBinder x330
  refine Agree.ite ?_ ?_
  · refine State.bsAbort_touch (sub_trans (by decide) hmm) ?_
    exact hag
  · extract_lets +onlyGivenNames -merge -useContext -underBinder x331
    have h332 : Agree MM so x331 := by
      subst x331
      refine Agree.ite ?_ ?_
      · refine Agree.fsetB ?_ (sub_bit hmm (by decide)) _ _
        refine Agree.fset ?_ (sub_bit hmm (by decide)) _ _
        exact hag
      · exact hag
    try clear_value x331
    extract_lets +onlyGivenNames -merge -useContext -underBinder x333
    have h334 : Agree MM so x333 := by
      subst x333
      refine State.setSlot_touch (sub_trans (by decide) hmm) ?_
      exact h332
    try clear_value x333
    refine Agree.fset ?_ (sub_bit hmm (by decide)) _ _
    exact h334

theorem State.stChanged_touch {MM : Nat} {so : State} {s : Sys2Proof.Machine.State} {old : Sys2Proof.Machine.State} {r : Sys2Proof.Machine.Reg} {n : ℕ}
    (hmm : Machine.sub 0x43e0000000000000000000000000000010040000000000000000000000000000000000000000000000000001000000000000001c180000000000880208 MM = true) (hp2 : MM.testBit (64 + r.ctorIdx) = true) (hag : Agree MM so s) :
    Agree MM so (@State.stChanged s old r n) := by
  unfold State.stChanged
  split
  · refine State.cellRestart_touch (sub_trans (by decide) hmm) ?_
    exact hag
  · refine State.cellRestart_touch (sub_trans (by decide) hmm) ?_
    exact hag
  · refine State.cellRestart_touch (sub_trans (by decide) hmm) ?_
    exact hag
  · refine Agree.ite ?_ ?_
    · refine State.guardWindow_touch (sub_trans (by decide) hmm) ?_
      exact hag
    · exact hag
  · refine Agree.forEach ?_ (fun y619 t620 h621 => ?_) _
    · exact hag
    · refine State.qSettleOf_touch (sub_trans (by decide) hmm) ?_
      exact h621
  · exact hag

theorem State.bsClose_touch {MM : Nat} {so : State} {s : Sys2Proof.Machine.State} {n : ℕ}
    (hmm : Machine.sub 0x1000000000000000000000000000000000000000 MM = true) (hag : Agree MM so s) :
    Agree MM so (@State.bsClose s n) := by
  unfold State.bsClose
  refine Agree.fset ?_ (sub_bit hmm (by decide)) _ _
  exact hag

theorem State.bsArm_touch {MM : Nat} {so : State} {s : Sys2Proof.Machine.State} {n : ℕ}
    (hmm : Machine.sub 0x80000000000000400 MM = true) (hag : Agree MM so s) :
    Agree MM so (@State.bsArm s n) := by
  unfold State.bsArm
  refine State.bsBusy_touch (sub_trans (by decide) hmm) ?_
  refine State.setSlot_touch (sub_trans (by decide) hmm) ?_
  exact hag

theorem State.basketMsg_touch {MM : Nat} {so : State} {s : Sys2Proof.Machine.State} {op : ℕ} {n : ℕ} {aux : ℕ} {payload : List Sys2Proof.Byte}
    (hmm : Machine.sub 0x2000000 MM = true) (hag : Agree MM so s) :
    Agree MM so (@State.basketMsg s op n aux payload) := by
  unfold State.basketMsg
  refine State.toTwin_touch (sub_trans (by decide) hmm) ?_
  exact hag

theorem State.bsCancel_touch {MM : Nat} {so : State} {s : Sys2Proof.Machine.State} {n : ℕ}
    (hmm : Machine.sub 0x1800000000000000000000000000000000000000000000000000000000101400010000000000000000180000000002000600 MM = true) (hag : Agree MM so s) :
    Agree MM so (@State.bsCancel s n) := by
  unfold State.bsCancel
  extract_lets +onlyGivenNames -merge -useContext -underBinder x889
  have h890 : Agree MM so x889 := by
    subst x889
    refine Agree.ite ?_ ?_
    · refine State.basketMsg_touch (sub_trans (by decide) hmm) ?_
      exact hag
    · exact hag
  try clear_value x889
  refine State.bsAbort_touch (sub_trans (by decide) hmm) ?_
  exact h890

theorem State.bsClear_touch {MM : Nat} {so : State} {s : Sys2Proof.Machine.State} {n : ℕ}
    (hmm : Machine.sub 0x1f1000000000000000000000000000000000000400 MM = true) (hag : Agree MM so s) :
    Agree MM so (@State.bsClear s n) := by
  unfold State.bsClear
  extract_lets +onlyGivenNames -merge -useContext -underBinder x891
  have h892 : Agree MM so x891 := by
    subst x891
    refine State.setSlot_touch (sub_trans (by decide) hmm) ?_
    exact hag
  try clear_value x891
  extract_lets +onlyGivenNames -merge -useContext -underBinder x893
  have h894 : Agree MM so x893 := by
    subst x893
    refine Agree.setReg ?_ (sub_bit hmm (by decide)) _ _
    exact h892
  try clear_value x893
  extract_lets +onlyGivenNames -merge -useContext -underBinder x895
  have h896 : Agree MM so x895 := by
    subst x895
    refine Agree.set64 ?_ (sub_bit hmm (by decide)) (sub_bit hmm (by decide)) _ _
    refine Agree.set64 ?_ (sub_bit hmm (by decide)) (sub_bit hmm (by decide)) _ _
    exact h894
  try clear_value x895
  refine Agree.setReg ?_ (sub_bit hmm (by decide)) _ _
  exact h896

theorem State.bsAdvance_touch {MM : Nat} {so : State} {s : Sys2Proof.Machine.State} {n : ℕ}
    (hmm : Machine.sub 0x1000000000000000000000000000000000000000000 MM = true) (hag : Agree MM so s) :
    Agree MM so (@State.bsAdvance s n) := by
  unfold State.bsAdvance
  refine Agree.ite ?_ ?_
  · refine Agree.fadd ?_ (sub_bit hmm (by decide)) _ _
    exact hag
  · refine Agree.fadd ?_ (sub_bit hmm (by decide)) _ _
    refine Agree.fset ?_ (sub_bit hmm (by decide)) _ _
    exact hag

theorem State.pressed_touch {MM : Nat} {so : State} {s : Sys2Proof.Machine.State} {n : ℕ}
    (hmm : Machine.sub 0xfffffffffffffffffffffffffffffffffffffffffffffffffffffffffffffffffffffffffffffffffffffffffffffffffffffffffffffff0000000000000000 MM = true) (hag : Agree MM so s) :
    Agree MM so (@State.pressed s n) := by
  unfold State.pressed
  refine Agree.forEach ?_ (fun y1620 t1621 h1622 => ?_) _
  · exact hag
  · split
    · refine Agree.setReg ?_ (allBit (sub_trans (by decide) hmm) _) _ _
      exact h1622
    · exact h1622

theorem State.bsDefer_touch {MM : Nat} {so : State} {s : Sys2Proof.Machine.State} {n : ℕ}
    (hmm : Machine.sub 0x100000010000000000000000100000000000000200 MM = true) (hag : Agree MM so s) :
    Agree MM so (@State.bsDefer s n) := by
  unfold State.bsDefer
  refine State.irq_touch (sub_trans (by decide) hmm) ?_
  refine Agree.faddSat ?_ (sub_bit hmm (by decide)) _ _
  exact hag

theorem State.sendEntries_touch {MM : Nat} {so : State} {s : Sys2Proof.Machine.State} {n : ℕ} {u2 : ℕ} {u3 : ℕ}
    (hmm : Machine.sub 0x2000000 MM = true) (hag : Agree MM so s) :
    Agree MM so (@State.sendEntries s n u2 u3) := by
  induction u2 generalizing s u3 with
  | zero => exact hag
  | succ k ih =>
    rw [State.sendEntries]
    exact Agree.ite hag (ih (State.basketMsg_touch (sub_trans (by decide) hmm) hag))

theorem State.mirrorArm_touch {MM : Nat} {so : State} {s : Sys2Proof.Machine.State} {n : ℕ}
    (hmm : Machine.sub 0x2000400 MM = true) (hag : Agree MM so s) :
    Agree MM so (@State.mirrorArm s n) := by
  unfold State.mirrorArm
  extract_lets +onlyGivenNames -merge -useContext -underBinder x1623
  try clear_value x1623
  refine Agree.ite ?_ ?_
  · extract_lets +onlyGivenNames -merge -useContext -underBinder x1624
    extract_lets +onlyGivenNames -merge -useContext -underBinder x1625
    have h1626 : Agree MM so x1625 := by
      subst x1625
      refine State.setSlot_touch (sub_trans (by decide) hmm) ?_
      exact hag
    try clear_value x1625
    extract_lets +onlyGivenNames -merge -useContext -underBinder x1627
    have h1628 : Agree MM so x1627 := by
      subst x1627
      refine State.sendEntries_touch (sub_trans (by decide) hmm) ?_
      exact h1626
    try clear_value x1627
    extract_lets +onlyGivenNames -merge -useContext -underBinder x1629
    try clear_value x1629
    refine State.basketMsg_touch (sub_trans (by decide) hmm) ?_
    exact h1628
  · exact hag

theorem State.armDone_touch {MM : Nat} {so : State} {s : Sys2Proof.Machine.State} {n : ℕ}
    (hmm : Machine.sub 0x1800000000000000000000000000000000000000000000000000000000101400010000000000000000180000000002000600 MM = true) (hag : Agree MM so s) :
    Agree MM so (@State.armDone s n) := by
  unfold State.armDone
  refine Agree.ite ?_ ?_
  · exact hag
  · extract_lets +onlyGivenNames -merge -useContext -underBinder x1630
    try clear_value x1630
    extract_lets +onlyGivenNames -merge -useContext -underBinder x1631
    extract_lets +onlyGivenNames -merge -useContext -underBinder x1632
    have h1633 : Agree MM so x1632 := by
      subst x1632
      refine State.bsBusy_touch (sub_trans (by decide) hmm) ?_
      refine State.setSlot_touch (sub_trans (by decide) hmm) ?_
      exact hag
    try clear_value x1632
    split
    · extract_lets +onlyGivenNames -merge -useContext -underBinder x1634
      have h1635 : Agree MM so x1634 := by
        subst x1634
        refine State.bsAbort_touch (sub_trans (by decide) hmm) ?_
        exact h1633
      try clear_value x1634
      refine Agree.ite ?_ ?_
      · refine State.basketMsg_touch (sub_trans (by decide) hmm) ?_
        exact h1635
      · exact h1635
    · extract_lets +onlyGivenNames -merge -useContext -underBinder x1636
      have h1637 : Agree MM so x1636 := by
        subst x1636
        refine Agree.fsetBit ?_ (sub_bit hmm (by decide)) _ _ _
        refine Agree.fset ?_ (sub_bit hmm (by decide)) _ _
        exact h1633
      try clear_value x1636
      extract_lets +onlyGivenNames -merge -useContext -underBinder x1638
      extract_lets +onlyGivenNames -merge -useContext -underBinder x1639
      have h1640 : Agree MM so x1639 := by
        subst x1639
        refine State.setSlot_touch (sub_trans (by decide) hmm) ?_
        exact h1637
      try clear_value x1639
      extract_lets +onlyGivenNames -merge -useContext -underBinder x1641
      have h1642 : Agree MM so x1641 := by
        subst x1641
        refine Agree.ite ?_ ?_
        · refine State.bsDefer_touch (sub_trans (by decide) hmm) ?_
          exact h1640
        · exact h1640
      try clear_value x1641
      refine Agree.ite ?_ ?_
      · refine State.basketMsg_touch (sub_trans (by decide) hmm) ?_
        exact h1642
      · refine State.mirrorArm_touch (sub_trans (by decide) hmm) ?_
        exact h1642

theorem State.armMsg_touch {MM : Nat} {so : State} {s : Sys2Proof.Machine.State} {pk : Sys2Proof.Machine.Packet}
    (hmm : Machine.sub 0xf800000000000000000000080000000002000400 MM = true) (hag : Agree MM so s) :
    Agree MM so (@State.armMsg s pk) := by
  unfold State.armMsg
  extract_lets +onlyGivenNames -merge -useContext -underBinder x1644
  try clear_value x1644
  extract_lets +onlyGivenNames -merge -useContext -underBinder x1645
  extract_lets +onlyGivenNames -merge -useContext -underBinder x1646
  try clear_value x1646
  refine Agree.ite ?_ ?_
  · refine State.basketMsg_touch (sub_trans (by decide) hmm) ?_
    exact hag
  · extract_lets +onlyGivenNames -merge -useContext -underBinder x1647
    have h1648 : Agree MM so x1647 := by
      subst x1647
      refine Agree.set64 ?_ (sub_bit hmm (by decide)) (sub_bit hmm (by decide)) _ _
      exact hag
    try clear_value x1647
    extract_lets +onlyGivenNames -merge -useContext -underBinder x1649
    have h1650 : Agree MM so x1649 := by
      subst x1649
      refine Agree.fset ?_ (sub_bit hmm (by decide)) _ _
      refine Agree.fset ?_ (sub_bit hmm (by decide)) _ _
      exact h1648
    try clear_value x1649
    extract_lets +onlyGivenNames -merge -useContext -underBinder x1651
    have h1652 : Agree MM so x1651 := by
      subst x1651
      refine Agree.fset ?_ (sub_bit hmm (by decide)) _ _
      refine Agree.fset ?_ (sub_bit hmm (by decide)) _ _
      exact h1650
    try clear_value x1651
    extract_lets +onlyGivenNames -merge -useContext -underBinder x1653
    have h1654 : Agree MM so x1653 := by
      subst x1653
      refine State.bsClose_touch (sub_trans (by decide) hmm) ?_
      refine Agree.fsetB ?_ (sub_bit hmm (by decide)) _ _
      exact h1652
    try clear_value x1653
    refine State.bsArm_touch (sub_trans (by decide) hmm) ?_
    refine State.setSlot_touch (sub_trans (by decide) hmm) ?_
    refine State.outcomesOver_touch (sub_trans (by decide) hmm) ?_
    exact h1654

theorem State.armedMsg_touch {MM : Nat} {so : State} {s : Sys2Proof.Machine.State} {pk : Sys2Proof.Machine.Packet}
    (hmm : Machine.sub 0x1000000000000000000000000000000002000400 MM = true) (hag : Agree MM so s) :
    Agree MM so (@State.armedMsg s pk) := by
  unfold State.armedMsg
  extract_lets +onlyGivenNames -merge -useContext -underBinder x1655
  try clear_value x1655
  refine Agree.ite ?_ ?_
  · extract_lets +onlyGivenNames -merge -useContext -underBinder x1656
    try clear_value x1656
    extract_lets +onlyGivenNames -merge -useContext -underBinder x1657
    extract_lets +onlyGivenNames -merge -useContext -underBinder x1658
    have h1659 : Agree MM so x1658 := by
      subst x1658
      refine State.setSlot_touch (sub_trans (by decide) hmm) ?_
      refine Agree.fsetB ?_ (sub_bit hmm (by decide)) _ _
      refine State.outcomesOver_touch (sub_trans (by decide) hmm) ?_
      exact hag
    try clear_value x1658
    refine State.basketMsg_touch (sub_trans (by decide) hmm) ?_
    exact h1659
  · exact hag

theorem State.bsSnap_touch {MM : Nat} {so : State} {s : Sys2Proof.Machine.State} {n : ℕ} {op : ℕ}
    (hmm : Machine.sub 0x400 MM = true) (hag : Agree MM so s) :
    Agree MM so (@State.bsSnap s n op) := by
  unfold State.bsSnap
  extract_lets +onlyGivenNames -merge -useContext -underBinder x1797
  try clear_value x1797
  refine State.setSlot_touch (sub_trans (by decide) hmm) ?_
  exact hag

theorem State.swapEntry_touch {MM : Nat} {so : State} {s : Sys2Proof.Machine.State} {e : Sys2Proof.Machine.Entry}
    (hmm : Machine.sub 0xfffffffffffffffffffffffffffffffffffffffffffffffffffffffffffffffffffffffffffffffffffffffffffffffffffffffffffffff0000000000880208 MM = true) (hag : Agree MM so s) :
    Agree MM so (@State.swapEntry s e) := by
  unfold State.swapEntry
  split
  · extract_lets +onlyGivenNames -merge -useContext -underBinder x1798
    have h1799 : Agree MM so x1798 := by
      subst x1798
      refine State.stChanged_touch (sub_trans (by decide) hmm) (allBit (sub_trans (by decide) hmm) _) ?_
      refine Agree.setReg ?_ (allBit (sub_trans (by decide) hmm) _) _ _
      exact hag
    try clear_value x1798
    refine Agree.ite ?_ ?_
    · refine Agree.fsetB ?_ (sub_bit hmm (by decide)) _ _
      exact h1799
    · exact h1799
  · exact hag

theorem State.bsSwap_touch {MM : Nat} {so : State} {s : Sys2Proof.Machine.State} {n : ℕ}
    (hmm : Machine.sub 0xfffffffffffffffffffffffffffffffffffffffffffffffffffffffffffffffffffffffffffffffffffffffffffffffffffffffffffffff0000000000880608 MM = true) (hag : Agree MM so s) :
    Agree MM so (@State.bsSwap s n) := by
  unfold State.bsSwap
  refine Agree.forEach ?_ (fun y1800 t1801 h1802 => ?_) _
  · exact hag
  · refine Agree.ite ?_ ?_
    · refine State.swapEntry_touch (sub_trans (by decide) hmm) ?_
      exact h1802
    · refine Agree.set_basket ?_ (sub_bit hmm (by decide)) _
      exact h1802

theorem State.cancelMsg_touch {MM : Nat} {so : State} {s : Sys2Proof.Machine.State} {pk : Sys2Proof.Machine.Packet}
    (hmm : Machine.sub 0x1800000000000000000000000000000000000000000000000000000000101400010000000000000000180000000002000600 MM = true) (hag : Agree MM so s) :
    Agree MM so (@State.cancelMsg s pk) := by
  unfold State.cancelMsg
  extract_lets +onlyGivenNames -merge -useContext -underBinder x1820
  try clear_value x1820
  extract_lets +onlyGivenNames -merge -useContext -underBinder x1821
  try clear_value x1821
  refine Agree.ite ?_ ?_
  · refine State.bsAbort_touch (sub_trans (by decide) hmm) ?_
    exact hag
  · exact hag

theorem State.commitMsg_touch {MM : Nat} {so : State} {s : Sys2Proof.Machine.State} {pk : Sys2Proof.Machine.Packet}
    (hmm : Machine.sub 0x1800000000000000000000000000000000000000000000000000000000101400010000000000000000180000000002000600 MM = true) (hag : Agree MM so s) :
    Agree MM so (@State.commitMsg s pk) := by
  unfold State.commitMsg
  extract_lets +onlyGivenNames -merge -useContext -underBinder x1952
  try clear_value x1952
  extract_lets +onlyGivenNames -merge -useContext -underBinder x1953
  try clear_value x1953
  extract_lets +onlyGivenNames -merge -useContext -underBinder x1954
  try clear_value x1954
  extract_lets +onlyGivenNames -merge -useContext -underBinder x1955
  try clear_value x1955
  refine Agree.ite ?_ ?_
  · refine Agree.ite ?_ ?_
    · refine State.basketMsg_touch (sub_trans (by decide) hmm) ?_
      refine State.bsAbort_touch (sub_trans (by decide) hmm) ?_
      exact hag
    · refine State.setSlot_touch (sub_trans (by decide) hmm) ?_
      refine Agree.fsetB ?_ (sub_bit hmm (by decide)) _ _
      exact hag
  · exact hag

theorem State.pressFail_touch {MM : Nat} {so : State} {s : Sys2Proof.Machine.State} {n : ℕ} {reason : ℕ} {i : ℕ}
    (hmm : Machine.sub 0x1800000000000000000000000000000000000000000000000000000000101400010000000000000000180000000002000600 MM = true) (hag : Agree MM so s) :
    Agree MM so (@State.pressFail s n reason i) := by
  unfold State.pressFail
  extract_lets +onlyGivenNames -merge -useContext -underBinder x2120
  have h2121 : Agree MM so x2120 := by
    subst x2120
    refine State.bsAborted_touch (sub_trans (by decide) hmm) ?_
    exact hag
  try clear_value x2120
  refine Agree.set_basket ?_ (sub_bit hmm (by decide)) _
  exact h2121

theorem State.pressRecord_touch {MM : Nat} {so : State} {s : Sys2Proof.Machine.State} {num : ℕ} {n : ℕ}
    (hmm : Machine.sub 0x18000000000000000000000000000000000000000000000000000000000f1000010000000000000000100000000002000600 MM = true) (hag : Agree MM so s) :
    Agree MM so (@State.pressRecord s num n) := by
  unfold State.pressRecord
  extract_lets +onlyGivenNames -merge -useContext -underBinder x2122
  try clear_value x2122
  extract_lets +onlyGivenNames -merge -useContext -underBinder x2123
  try clear_value x2123
  extract_lets +onlyGivenNames -merge -useContext -underBinder x2124
  have h2125 : Agree MM so x2124 := by
    subst x2124
    refine Agree.set64 ?_ (sub_bit hmm (by decide)) (sub_bit hmm (by decide)) _ _
    refine Agree.set64 ?_ (sub_bit hmm (by decide)) (sub_bit hmm (by decide)) _ _
    exact hag
  try clear_value x2124
  extract_lets +onlyGivenNames -merge -useContext -underBinder x2126
  have h2127 : Agree MM so x2126 := by
    subst x2126
    refine Agree.ite ?_ ?_
    · refine Agree.fsetB ?_ (sub_bit hmm (by decide)) _ _
      exact h2125
    · exact h2125
  try clear_value x2126
  extract_lets +onlyGivenNames -merge -useContext -underBinder x2128
  have h2129 : Agree MM so x2128 := by
    subst x2128
    refine Agree.ite ?_ ?_
    · exact h2127
    · refine State.ownOutcome_touch (sub_trans (by decide) hmm) ?_
      exact h2127
  try clear_value x2128
  refine Agree.set_basket ?_ (sub_bit hmm (by decide)) _
  exact h2129

theorem State.pressEdge_touch {MM : Nat} {so : State} {s : Sys2Proof.Machine.State} {old : Sys2Proof.Machine.State} {num : ℕ} {t : ℕ}
    (hmm : Machine.sub 0xfffffffffffffffffffffffffffffffffffffffffffffffffffffffffffffffffffffffffffffffffffffffffffffffffffffffffffffff0000000002880608 MM = true) (hag : Agree MM so s) :
    Agree MM so (@State.pressEdge s old num t) := by
  unfold State.pressEdge
  extract_lets +onlyGivenNames -merge -useContext -underBinder x2130
  have h2131 : Agree MM so x2130 := by
    subst x2130
    refine Agree.forEach ?_ (fun y2132 t2133 h2134 => ?_) _
    · exact hag
    · refine State.bsDefer_touch (sub_trans (by decide) hmm) ?_
      exact h2134
  try clear_value x2130
  extract_lets +onlyGivenNames -merge -useContext -underBinder x2135
  try clear_value x2135
  extract_lets +onlyGivenNames -merge -useContext -underBinder x2136
  try clear_value x2136
  extract_lets +onlyGivenNames -merge -useContext -underBinder x2137
  have h2138 : Agree MM so x2137 := by
    subst x2137
    refine Agree.forEach ?_ (fun y2139 t2140 h2141 => ?_) _
    · exact h2131
    · refine State.bsDefer_touch (sub_trans (by decide) hmm) ?_
      exact h2141
  try clear_value x2137
  refine Agree.ite ?_ ?_
  · exact h2138
  · extract_lets +onlyGivenNames -merge -useContext -underBinder x2142
    try clear_value x2142
    extract_lets +onlyGivenNames -merge -useContext -underBinder x2143
    try clear_value x2143
    extract_lets +onlyGivenNames -merge -useContext -underBinder x2144
    have h2145 : Agree MM so x2144 := by
      subst x2144
      refine Agree.set_basket ?_ (sub_bit hmm (by decide)) _
      exact h2138
    try clear_value x2144
    extract_lets +onlyGivenNames -merge -useContext -underBinder x2146
    try clear_value x2146
    extract_lets +onlyGivenNames -merge -useContext -underBinder x2147
    try clear_value x2147
    extract_lets +onlyGivenNames -merge -useContext -underBinder x2148
    have h2149 : Agree MM so x2148 := by
      subst x2148
      refine Agree.forEach ?_ (fun y2150 t2151 h2152 => ?_) _
      · exact h2145
      · refine State.bsSnap_touch (sub_trans (by decide) hmm) ?_
        exact h2152
    try clear_value x2148
    extract_lets +onlyGivenNames -merge -useContext -underBinder x2153
    have h2154 : Agree MM so x2153 := by
      subst x2153
      refine Agree.forEach ?_ (fun y2155 t2156 h2157 => ?_) _
      · exact h2149
      · split
        · refine State.pressFail_touch (sub_trans (by decide) hmm) ?_
          exact h2157
        · exact h2157
    try clear_value x2153
    extract_lets +onlyGivenNames -merge -useContext -underBinder x2158
    have h2159 : Agree MM so x2158 := by
      subst x2158
      refine Agree.forEach ?_ (fun y2160 t2161 h2162 => ?_) _
      · exact h2154
      · refine State.bsSwap_touch (sub_trans (by decide) hmm) ?_
        exact h2162
    try clear_value x2158
    extract_lets +onlyGivenNames -merge -useContext -underBinder x2163
    have h2164 : Agree MM so x2163 := by
      subst x2163
      refine Agree.forEach ?_ (fun y2165 t2166 h2167 => ?_) _
      · exact h2159
      · refine State.bsSnap_touch (sub_trans (by decide) hmm) ?_
        exact h2167
    try clear_value x2163
    refine Agree.forEach ?_ (fun y2168 t2169 h2170 => ?_) _
    · exact h2164
    · refine State.pressRecord_touch (sub_trans (by decide) hmm) ?_
      exact h2170

theorem State.entriesMsg_touch {MM : Nat} {so : State} {s : Sys2Proof.Machine.State} {pk : Sys2Proof.Machine.Packet}
    (hmm : Machine.sub 0x1800000000000000000000000000000000000000000000000000000000101400010000000000000000180000000002000600 MM = true) (hag : Agree MM so s) :
    Agree MM so (@State.entriesMsg s pk) := by
  unfold State.entriesMsg
  extract_lets +onlyGivenNames -merge -useContext -underBinder x2350
  try clear_value x2350
  extract_lets +onlyGivenNames -merge -useContext -underBinder x2351
  extract_lets +onlyGivenNames -merge -useContext -underBinder x2352
  try clear_value x2352
  refine Agree.ite ?_ ?_
  · refine State.basketMsg_touch (sub_trans (by decide) hmm) ?_
    exact hag
  · refine Agree.ite ?_ ?_
    · exact hag
    · extract_lets +onlyGivenNames -merge -useContext -underBinder x2353
      try clear_value x2353
      refine Agree.ite ?_ ?_
      · refine State.basketMsg_touch (sub_trans (by decide) hmm) ?_
        refine State.bsAbort_touch (sub_trans (by decide) hmm) ?_
        exact hag
      · refine Agree.fset ?_ (sub_bit hmm (by decide)) _ _
        refine State.setSlot_touch (sub_trans (by decide) hmm) ?_
        exact hag

end Sys2Proof.Machine
end

