-- ==== Sys2Proof/Laws/Touch/CoreOps.lean ====
section
/-!
SUPPORT. What the functions of Machine/CoreOps.lean can touch: one lemma per function, its mask after `sub`.
-/

namespace Sys2Proof.Machine

theorem State.setCore_touch {MM : Nat} {so : State} {s : Sys2Proof.Machine.State} {x : ℕ} {c : Sys2Proof.Machine.Core}
    (hmm : Machine.sub 0x8000000 MM = true) (hag : Agree MM so s) :
    Agree MM so (@State.setCore s x c) := by
  unfold State.setCore
  refine Agree.set_cores ?_ (sub_bit hmm (by decide)) _
  exact hag

theorem State.coreStopped_touch {MM : Nat} {so : State} {s : Sys2Proof.Machine.State} {x : ℕ}
    (hmm : Machine.sub 0x10000000000000000100000000008000200 MM = true) (hag : Agree MM so s) :
    Agree MM so (@State.coreStopped s x) := by
  unfold State.coreStopped
  refine State.irq_touch (sub_trans (by decide) hmm) ?_
  refine State.setCore_touch (sub_trans (by decide) hmm) ?_
  exact hag

theorem State.coreCopy_touch {MM : Nat} {so : State} {s : Sys2Proof.Machine.State} {x : ℕ} {dest : Sys2Proof.Machine.CoreDest} {v : Sys2Proof.Word}
    (hmm : Machine.sub 0x8000000 MM = true) (hag : Agree MM so s) :
    Agree MM so (@State.coreCopy s x dest v) := by
  unfold State.coreCopy
  extract_lets +onlyGivenNames -merge -useContext -underBinder x1300
  try clear_value x1300
  refine Agree.ite ?_ ?_
  · refine State.setCore_touch (sub_trans (by decide) hmm) ?_
    exact hag
  · refine State.setCore_touch (sub_trans (by decide) hmm) ?_
    exact hag

end Sys2Proof.Machine
end

