-- ==== Sys2Proof/Laws/Touch/SoftReset.lean ====
section
/-!
SUPPORT. What the functions of Machine/SoftReset.lean can touch: one lemma per function, its mask after `sub`.
-/

namespace Sys2Proof.Machine

theorem State.softAin_touch {MM : Nat} {so : State} {s : Sys2Proof.Machine.State} {old : Sys2Proof.Machine.State}
    (hmm : Machine.sub 0x218000 MM = true) (hag : Agree MM so s) :
    Agree MM so (@State.softAin s old) := by
  unfold State.softAin
  refine Agree.set_epoch_modules_chains ?_ (sub_bit hmm (by decide)) (sub_bit hmm (by decide)) (sub_bit hmm (by decide)) _ _ _
  exact hag

theorem State.softBlock_touch {MM : Nat} {so : State} {s : Sys2Proof.Machine.State} {old : Sys2Proof.Machine.State} {p : ℕ}
    (hmm : Machine.sub 0x43e0000000004800000000880000001200040000202000000f90600000408040000000020000000000000001840000000060007c1800000085ffffee0c MM = true) (hag : Agree MM so s) :
    Agree MM so (@State.softBlock s old p) := by
  unfold State.softBlock
  split
  · exact hag
  · extract_lets +onlyGivenNames -merge -useContext -underBinder x828
    try clear_value x828
    split
    · refine State.setTarget_touch (sub_trans (by decide) hmm) ?_
      exact hag
    · refine State.tachThaw_touch (sub_trans (by decide) hmm) ?_
      refine State.clkEnWritten_touch (sub_trans (by decide) hmm) ?_
      exact hag
    · refine Agree.set_clocks ?_ (sub_bit hmm (by decide)) _
      exact hag
    · refine Agree.set_router ?_ (sub_bit hmm (by decide)) _
      exact hag
    · refine Agree.set_router ?_ (sub_bit hmm (by decide)) _
      exact hag
    · refine Agree.set_basket ?_ (sub_bit hmm (by decide)) _
      exact hag
    · refine Agree.set_epoch_wel ?_ (sub_bit hmm (by decide)) (sub_bit hmm (by decide)) _ _
      exact hag
    · refine Agree.forEach ?_ (fun y829 t830 h831 => ?_) _
      · exact hag
      · refine State.setEng_touch (sub_trans (by decide) hmm) ?_
        exact h831
    · refine State.tachThaw_touch (sub_trans (by decide) hmm) ?_
      refine Agree.set_tach ?_ (sub_bit hmm (by decide)) _
      exact hag
    · refine State.softAin_touch (sub_trans (by decide) hmm) ?_
      exact hag
    · refine State.adcSoftReset_touch (sub_trans (by decide) hmm) ?_
      exact hag
    · refine State.scanAbandon_touch (sub_trans (by decide) hmm) ?_
      refine Agree.set_adc ?_ (sub_bit hmm (by decide)) _
      exact hag
    · refine State.lineWriters_touch (sub_trans (by decide) hmm) ?_
      refine Agree.forEach ?_ (fun y835 t836 h837 => ?_) _
      · exact hag
      · refine State.setStr_touch (sub_trans (by decide) hmm) ?_
        refine State.bindMembers_touch (sub_trans (by decide) hmm) ?_
        exact h837
    · refine State.lineWriters_touch (sub_trans (by decide) hmm) ?_
      refine Agree.forEach ?_ (fun y841 t842 h843 => ?_) _
      · exact hag
      · refine State.setLane_touch (sub_trans (by decide) hmm) ?_
        exact h843
    · extract_lets +onlyGivenNames -merge -useContext -underBinder x844
      have h845 : Agree MM so x844 := by
        subst x844
        refine State.govForget_touch (sub_trans (by decide) hmm) ?_
        exact hag
      try clear_value x844
      refine Agree.set_lines ?_ (sub_bit hmm (by decide)) _
      exact h845
    · refine Agree.forEach ?_ (fun y846 t847 h848 => ?_) _
      · refine Agree.set_lines ?_ (sub_bit hmm (by decide)) _
        exact hag
      · refine State.lineShow_touch (sub_trans (by decide) hmm) ?_
        exact h848
    · refine State.hbmUpdate_touch (sub_trans (by decide) hmm) ?_
      refine State.setStack_touch (sub_trans (by decide) hmm) ?_
      exact hag
    · refine Agree.fsetB ?_ (sub_bit hmm (by decide)) _ _
      refine Agree.set_lines ?_ (sub_bit hmm (by decide)) _
      exact hag
    · extract_lets +onlyGivenNames -merge -useContext -underBinder x849
      try clear_value x849
      extract_lets +onlyGivenNames -merge -useContext -underBinder x850
      have h851 : Agree MM so x850 := by
        subst x850
        refine State.govForget_touch (sub_trans (by decide) hmm) ?_
        refine State.dropJob_touch (sub_trans (by decide) hmm) ?_
        exact hag
      try clear_value x850
      refine State.allIdle_touch (sub_trans (by decide) hmm) ?_
      refine State.welRefresh_touch (sub_trans (by decide) hmm) ?_
      refine State.setWel_touch (sub_trans (by decide) hmm) ?_
      exact h851
    · refine State.allIdle_touch (sub_trans (by decide) hmm) ?_
      refine Agree.set_wel ?_ (sub_bit hmm (by decide)) _
      exact hag
    · refine State.portDisable_touch (sub_trans (by decide) hmm) ?_
      refine Agree.ite ?_ ?_
      · refine Agree.set_wel ?_ (sub_bit hmm (by decide)) _
        exact hag
      · exact hag
    · refine Agree.set_links ?_ (sub_bit hmm (by decide)) _
      exact hag
    · refine State.timeFollow_touch (sub_trans (by decide) hmm) ?_
      refine Agree.set_beacon ?_ (sub_bit hmm (by decide)) _
      exact hag
    · refine State.ownBreak_touch (sub_trans (by decide) hmm) ?_
      refine State.ownBreak_touch (sub_trans (by decide) hmm) ?_
      refine State.setPair_touch (sub_trans (by decide) hmm) ?_
      exact hag
    · refine State.setUart_touch (sub_trans (by decide) hmm) ?_
      exact hag
    · refine Agree.set_xspi ?_ (sub_bit hmm (by decide)) _
      exact hag
    · refine Agree.set_idb ?_ (sub_bit hmm (by decide)) _
      exact hag
    · refine Agree.set_clocks ?_ (sub_bit hmm (by decide)) _
      exact hag
    · refine State.gpioFollow_touch (sub_trans (by decide) hmm) ?_
      refine State.ringHold_touch (sub_trans (by decide) hmm) ?_
      exact hag
    · refine Agree.set_timers ?_ (sub_bit hmm (by decide)) _
      exact hag
    · refine Agree.set_wdts ?_ (sub_bit hmm (by decide)) _
      exact hag
    · refine Agree.set_crypto ?_ (sub_bit hmm (by decide)) _
      exact hag
    · refine Agree.set_fuses ?_ (sub_bit hmm (by decide)) _
      exact hag
    · refine State.darnShow_touch (sub_trans (by decide) hmm) ?_
      refine Agree.set_darn ?_ (sub_bit hmm (by decide)) _
      exact hag
    · refine Agree.set_temps ?_ (sub_bit hmm (by decide)) _
      exact hag
    · refine State.coreZero_touch (sub_trans (by decide) hmm) ?_
      exact hag
    · exact hag

theorem State.softRegs_touch {MM : Nat} {so : State} {s : Sys2Proof.Machine.State} {p : ℕ}
    (hmm : Machine.sub 0xfffffffffffffffffffffffffffffffffffffffffffffffffffffffffffffffffffffffffffffffffffffffffffffffffffffffffffffff0000002000000020 MM = true) (hag : Agree MM so s) :
    Agree MM so (@State.softRegs s p) := by
  unfold State.softRegs
  extract_lets +onlyGivenNames -merge -useContext -underBinder x852
  have h853 : Agree MM so x852 := by
    subst x852
    refine State.clearPage_touch (sub_trans (by decide) hmm) ?_
    exact hag
  try clear_value x852
  extract_lets +onlyGivenNames -merge -useContext -underBinder x854
  have h855 : Agree MM so x854 := by
    subst x854
    refine Agree.set_freeze_late ?_ (sub_bit hmm (by decide)) (sub_bit hmm (by decide)) _ _
    exact h853
  try clear_value x854
  refine Agree.forEach ?_ (fun y856 t857 h858 => ?_) _
  · exact h855
  · refine Agree.fset ?_ (allBit (sub_trans (by decide) hmm) _) _ _
    exact h858

theorem State.softStart_touch {MM : Nat} {so : State} {s : Sys2Proof.Machine.State} {p : ℕ}
    (hmm : Machine.sub 0xfffffffffffffffffffffffffffffffffffffffffffffffffffffffffffffffffffffffffffffffffffffffffffffffffffffffffffffff000000a5ffffee6c MM = true) (hag : Agree MM so s) :
    Agree MM so (@State.softStart s p) := by
  unfold State.softStart
  refine Agree.ite ?_ ?_
  · exact hag
  · extract_lets +onlyGivenNames -merge -useContext -underBinder x859
    have h860 : Agree MM so x859 := by
      subst x859
      refine Agree.ite ?_ ?_
      · refine State.epochClose_touch (sub_trans (by decide) hmm) ?_
        exact hag
      · exact hag
    try clear_value x859
    extract_lets +onlyGivenNames -merge -useContext -underBinder x861
    have h862 : Agree MM so x861 := by
      subst x861
      refine State.softBlock_touch (sub_trans (by decide) hmm) ?_
      refine State.softRegs_touch (sub_trans (by decide) hmm) ?_
      exact h860
    try clear_value x861
    refine Agree.set_softReset ?_ (sub_bit hmm (by decide)) _
    exact h862

end Sys2Proof.Machine
end

