-- ==== Sys2Proof/Laws/Touch/Write.lean ====
section
/-!
SUPPORT. What the functions of Machine/Write.lean can touch: one lemma per function, its mask after `sub`.
-/

namespace Sys2Proof.Machine

theorem State.calClosed_touch {MM : Nat} {so : State} {s : Sys2Proof.Machine.State} {r : Sys2Proof.Machine.Reg} {n : ℕ}
    (hmm : Machine.sub 0x4000000000000000000000000010000000000000000100000000000000200 MM = true) (hp1 : MM.testBit (64 + r.ctorIdx) = true) (hag : Agree MM so s) :
    AgreeO MM so (@State.calClosed s r n) := by
  unfold State.calClosed
  split
  · refine AgreeO.ite ?_ ?_
    · exact AgreeO.none
    · refine AgreeO.some ?_
      refine State.wrIgnored_touch (sub_trans (by decide) hmm) ?_
      exact hag
  · refine AgreeO.ite ?_ ?_
    · exact AgreeO.none
    · refine AgreeO.some ?_
      refine State.wrIgnored_touch (sub_trans (by decide) hmm) ?_
      exact hag
  · refine AgreeO.ite ?_ ?_
    · exact AgreeO.none
    · refine AgreeO.some ?_
      refine State.wrIgnored_touch (sub_trans (by decide) hmm) ?_
      exact hag
  · exact AgreeO.none

theorem State.evlRefuse_touch {MM : Nat} {so : State} {s : Sys2Proof.Machine.State} {r : Sys2Proof.Machine.Reg} {n : ℕ} {v : Sys2Proof.Word}
    (hmm : Machine.sub 0x20010000000000000000100000004000000200 MM = true) (hp1 : MM.testBit (64 + r.ctorIdx) = true) (hag : Agree MM so s) :
    Agree MM so (@State.evlRefuse s r n v) := by
  unfold State.evlRefuse
  extract_lets +onlyGivenNames -merge -useContext -underBinder x39
  have h40 : Agree MM so x39 := by
    subst x39
    refine Agree.setReg ?_ hp1 _ _
    exact hag
  try clear_value x39
  extract_lets +onlyGivenNames -merge -useContext -underBinder x41
  have h42 : Agree MM so x41 := by
    subst x41
    refine Agree.fset ?_ (sub_bit hmm (by decide)) _ _
    exact hag
  try clear_value x41
  refine State.checkBegin_touch (sub_trans (by decide) hmm) ?_
  refine State.irq_touch (sub_trans (by decide) hmm) ?_
  refine Agree.fsetB ?_ (sub_bit hmm (by decide)) _ _
  exact h42

theorem State.turnedAway_touch {MM : Nat} {so : State} {s : Sys2Proof.Machine.State} {r : Sys2Proof.Machine.Reg} {v : Sys2Proof.Word}
    (hmm : Machine.sub 0x400000000000000000000000000000000000000000000000000000000010000000000800000100000000000000200 MM = true) (hp1 : MM.testBit (64 + r.ctorIdx) = true) (hag : Agree MM so s) :
    AgreeO MM so (@State.turnedAway s r v) := by
  unfold State.turnedAway
  split
  · refine AgreeO.ite ?_ ?_
    · refine AgreeO.some ?_
      refine State.clkRefuse_touch (sub_trans (by decide) hmm) ?_
      exact hag
    · exact AgreeO.none
  · refine AgreeO.ite ?_ ?_
    · refine AgreeO.some ?_
      refine State.clkRefuse_touch (sub_trans (by decide) hmm) ?_
      exact hag
    · exact AgreeO.none
  · refine AgreeO.ite ?_ ?_
    · refine AgreeO.some ?_
      refine State.clkRefuse_touch (sub_trans (by decide) hmm) ?_
      exact hag
    · exact AgreeO.none
  · refine AgreeO.ite ?_ ?_
    · refine AgreeO.some ?_
      refine State.irq_touch (sub_trans (by decide) hmm) ?_
      refine Agree.fsetB ?_ (sub_bit hmm (by decide)) _ _
      exact hag
    · exact AgreeO.none
  · exact AgreeO.none

theorem State.softReady_touch {MM : Nat} {so : State} {s : Sys2Proof.Machine.State} {old : Sys2Proof.Machine.State}
    (hmm : Machine.sub 0x8000 MM = true) (hag : Agree MM so s) :
    Agree MM so (@State.softReady s old) := by
  unfold State.softReady
  refine Agree.ite ?_ ?_
  · refine Agree.set_epoch ?_ (sub_bit hmm (by decide)) _
    exact hag
  · exact hag

theorem State.fireWrite_touch {MM : Nat} {so : State} {s : Sys2Proof.Machine.State} {w : Sys2Proof.Machine.Who} {n : ℕ} {v : Sys2Proof.Word}
    (hmm : Machine.sub 0x10000000000000000180000000000000200 MM = true) (hag : Agree MM so s) :
    Agree MM so (@State.fireWrite s w n v) := by
  unfold State.fireWrite
  extract_lets +onlyGivenNames -merge -useContext -underBinder x326
  try clear_value x326
  extract_lets +onlyGivenNames -merge -useContext -underBinder x327
  try clear_value x327
  extract_lets +onlyGivenNames -merge -useContext -underBinder x328
  have h329 : Agree MM so x328 := by
    subst x328
    refine Agree.ite ?_ ?_
    · exact hag
    · refine State.pageErr_touch (sub_trans (by decide) hmm) ?_
      exact hag
  try clear_value x328
  refine Agree.set_router ?_ (sub_bit hmm (by decide)) _
  exact h329

theorem State.angTblWrite_touch {MM : Nat} {so : State} {s : Sys2Proof.Machine.State} {n : ℕ} {v : Sys2Proof.Word}
    (hmm : Machine.sub 0x400000000000000000000000000000000000000000004000 MM = true) (hag : Agree MM so s) :
    Agree MM so (@State.angTblWrite s n v) := by
  unfold State.angTblWrite
  extract_lets +onlyGivenNames -merge -useContext -underBinder x340
  try clear_value x340
  extract_lets +onlyGivenNames -merge -useContext -underBinder x341
  try clear_value x341
  extract_lets +onlyGivenNames -merge -useContext -underBinder x342
  try clear_value x342
  extract_lets +onlyGivenNames -merge -useContext -underBinder x343
  have h344 : Agree MM so x343 := by
    subst x343
    refine Agree.ite ?_ ?_
    · exact hag
    · refine State.setEng_touch (sub_trans (by decide) hmm) ?_
      exact hag
  try clear_value x343
  refine Agree.ite ?_ ?_
  · refine Agree.fadd ?_ (sub_bit hmm (by decide)) _ _
    exact h344
  · exact h344

theorem State.portWrite_touch {MM : Nat} {so : State} {s : Sys2Proof.Machine.State} {w : Sys2Proof.Machine.Who} {r : Sys2Proof.Machine.Reg} {n : ℕ} {v : Sys2Proof.Word}
    (hmm : Machine.sub 0xfffffffffffffffffffffffffffffffffffffffffffffffffffffffffffffffffffffffffffffffffffffffffffffffffffffffffffffff000000fdfffffe7c MM = true) (hp2 : MM.testBit (64 + r.ctorIdx) = true) (hag : Agree MM so s) :
    AgreeO MM so (@State.portWrite s w r n v) := by
  unfold State.portWrite
  split
  · refine AgreeO.some ?_
    refine State.modeWritten_touch (sub_trans (by decide) hmm) ?_
    exact hag
  · refine AgreeO.some ?_
    refine State.monRelease_touch (sub_trans (by decide) hmm) ?_
    refine State.monResume_touch (sub_trans (by decide) hmm) ?_
    exact hag
  · refine AgreeO.some ?_
    refine State.bkPut_touch (sub_trans (by decide) hmm) ?_
    exact hag
  · refine AgreeO.some ?_
    refine State.fireWrite_touch (sub_trans (by decide) hmm) ?_
    exact hag
  · refine AgreeO.some ?_
    refine State.bsAppend_touch (sub_trans (by decide) hmm) ?_
    exact hag
  · refine AgreeO.some ?_
    refine Agree.ite ?_ ?_
    · refine State.softSeamRequest_touch (sub_trans (by decide) hmm) ?_
      exact hag
    · exact hag
  · refine AgreeO.some ?_
    refine Agree.ite ?_ ?_
    · refine State.scanTrigger_touch (sub_trans (by decide) hmm) ?_
      exact hag
    · exact hag
  · refine AgreeO.some ?_
    refine State.idCommit_touch (sub_trans (by decide) hmm) ?_
    exact hag
  · refine AgreeO.some ?_
    refine State.angTblWrite_touch (sub_trans (by decide) hmm) ?_
    exact hag
  · refine AgreeO.some ?_
    refine State.rlWrite_touch (sub_trans (by decide) hmm) ?_
    exact hag
  · refine AgreeO.some ?_
    refine State.pegWrite_touch (sub_trans (by decide) hmm) hp2 ?_
    exact hag
  · refine AgreeO.some ?_
    refine State.pegWrite_touch (sub_trans (by decide) hmm) hp2 ?_
    exact hag
  · refine AgreeO.some ?_
    refine State.pegWrite_touch (sub_trans (by decide) hmm) hp2 ?_
    exact hag
  · refine AgreeO.some ?_
    refine State.pegWrite_touch (sub_trans (by decide) hmm) hp2 ?_
    exact hag
  · refine AgreeO.some ?_
    refine State.pegWrite_touch (sub_trans (by decide) hmm) hp2 ?_
    exact hag
  · refine AgreeO.some ?_
    refine State.pegCommand_touch (sub_trans (by decide) hmm) ?_
    exact hag
  · extract_lets +onlyGivenNames -merge -useContext -underBinder x615
    try clear_value x615
    refine AgreeO.some ?_
    refine State.tidxNext_touch (sub_trans (by decide) hmm) ?_
    refine State.setStack_touch (sub_trans (by decide) hmm) ?_
    exact hag
  · extract_lets +onlyGivenNames -merge -useContext -underBinder x616
    try clear_value x616
    refine AgreeO.some ?_
    refine State.setWel_touch (sub_trans (by decide) hmm) ?_
    exact hag
  · refine AgreeO.some ?_
    refine State.csCommit_touch (sub_trans (by decide) hmm) ?_
    exact hag
  · refine AgreeO.some ?_
    refine State.uartTx_touch (sub_trans (by decide) hmm) ?_
    exact hag
  · refine AgreeO.some ?_
    refine State.wdKick_touch (sub_trans (by decide) hmm) ?_
    exact hag
  · refine AgreeO.some ?_
    refine State.cryBegin_touch (sub_trans (by decide) hmm) ?_
    exact hag
  · refine AgreeO.some ?_
    refine State.fuseBegin_touch (sub_trans (by decide) hmm) ?_
    exact hag
  · refine AgreeO.some ?_
    refine State.gpioFollow_touch (sub_trans (by decide) hmm) ?_
    refine Agree.setReg ?_ (sub_bit hmm (by decide)) _ _
    exact hag
  · refine AgreeO.some ?_
    refine State.gpioFollow_touch (sub_trans (by decide) hmm) ?_
    refine Agree.setReg ?_ (sub_bit hmm (by decide)) _ _
    exact hag
  · refine AgreeO.some ?_
    refine State.restart_touch (sub_trans (by decide) hmm) ?_
    exact hag
  · exact AgreeO.none

theorem State.noteStaged_touch {MM : Nat} {so : State} {s : Sys2Proof.Machine.State} {old : Sys2Proof.Machine.State} {r : Sys2Proof.Machine.Reg} {n : ℕ}
    (hmm : Machine.sub 0x2000000000 MM = true) (hp2 : MM.testBit (64 + r.ctorIdx) = true) (hag : Agree MM so s) :
    Agree MM so (@State.noteStaged s old r n) := by
  unfold State.noteStaged
  extract_lets +onlyGivenNames -merge -useContext -underBinder x622
  try clear_value x622
  refine Agree.ite ?_ ?_
  · exact hag
  · refine Agree.set_late ?_ (sub_bit hmm (by decide)) _
    exact hag

theorem State.take_touch {MM : Nat} {so : State} {s : Sys2Proof.Machine.State} {f : Sys2Proof.Machine.Fld} {n : ℕ}
    (hmm : Machine.sub 0x0 MM = true) (hp1 : MM.testBit (64 + f.reg.ctorIdx) = true) (hag : Agree MM so s) :
    Agree MM so (@State.take s f n) := by
  unfold State.take
  refine Agree.fsetB ?_ hp1 _ _
  exact hag

theorem State.enChanged_touch {MM : Nat} {so : State} {s : Sys2Proof.Machine.State} {p : ℕ} {old : Bool}
    (hmm : Machine.sub 0x8053e0000000000000000020880000001210040000200000000f90621080008668000000000000000000000001840000000060001c180000000007f8820c MM = true) (hag : Agree MM so s) :
    Agree MM so (@State.enChanged s p old) := by
  unfold State.enChanged
  extract_lets +onlyGivenNames -merge -useContext -underBinder x725
  try clear_value x725
  refine Agree.ite ?_ ?_
  · exact hag
  · refine Agree.ite ?_ ?_
    · refine Agree.ite ?_ ?_
      · exact hag
      · refine Agree.set_router ?_ (sub_bit hmm (by decide)) _
        exact hag
    · refine Agree.ite ?_ ?_
      · refine Agree.ite ?_ ?_
        · exact hag
        · refine State.cellsTrack_touch (sub_trans (by decide) hmm) ?_
          exact hag
      · refine Agree.ite ?_ ?_
        · refine Agree.ite ?_ ?_
          · refine State.initStart_touch (sub_trans (by decide) hmm) ?_
            exact hag
          · exact hag
        · refine Agree.ite ?_ ?_
          · refine Agree.ite ?_ ?_
            · exact hag
            · refine State.scanAbandon_touch (sub_trans (by decide) hmm) ?_
              exact hag
          · refine Agree.ite ?_ ?_
            · refine State.lineWriters_touch (sub_trans (by decide) hmm) ?_
              refine Agree.forEach ?_ (fun y729 t730 h731 => ?_) _
              · exact hag
              · refine State.rlOff_touch (sub_trans (by decide) hmm) ?_
                exact h731
            · refine Agree.ite ?_ ?_
              · refine State.welRefresh_touch (sub_trans (by decide) hmm) ?_
                exact hag
              · refine Agree.ite ?_ ?_
                · refine Agree.forEach ?_ (fun y732 t733 h734 => ?_) _
                  · exact hag
                  · refine State.qSettle_touch (sub_trans (by decide) hmm) ?_
                    exact h734
                · refine Agree.ite ?_ ?_
                  · refine Agree.ite ?_ ?_
                    · refine State.portRefresh_touch (sub_trans (by decide) hmm) ?_
                      exact hag
                    · refine State.notReady_touch (sub_trans (by decide) hmm) ?_
                      refine State.portDisable_touch (sub_trans (by decide) hmm) ?_
                      exact hag
                  · refine Agree.ite ?_ ?_
                    · refine State.pairEval_touch (sub_trans (by decide) hmm) ?_
                      exact hag
                    · refine Agree.ite ?_ ?_
                      · refine State.uartNext_touch (sub_trans (by decide) hmm) ?_
                        exact hag
                      · refine Agree.ite ?_ ?_
                        · refine Agree.ite ?_ ?_
                          · refine Agree.forEach ?_ (fun y735 t736 h737 => ?_) _
                            · exact hag
                            · refine Agree.fsetB ?_ (sub_bit hmm (by decide)) _ _
                              exact h737
                          · exact hag
                        · exact hag

theorem State.afterHead_touch {MM : Nat} {so : State} {s : Sys2Proof.Machine.State} {old : Sys2Proof.Machine.State} {r : Sys2Proof.Machine.Reg} {n : ℕ} {v : Sys2Proof.Word}
    (hmm : Machine.sub 0xfffffffffffffffffffffffffffffffffffffffffffffffffffffffffffffffffffffffffffffffffffffffffffffffffffffffffffffff000000a5ffffee6c MM = true) (hp2 : MM.testBit (64 + r.ctorIdx) = true) (hag : Agree MM so s) :
    Agree MM so (@State.afterHead s old r n v) := by
  unfold State.afterHead
  split
  · extract_lets +onlyGivenNames -merge -useContext -underBinder x863
    have h864 : Agree MM so x863 := by
      subst x863
      refine State.take_touch (sub_trans (by decide) hmm) (sub_bit hmm (by decide)) ?_
      exact hag
    try clear_value x863
    extract_lets +onlyGivenNames -merge -useContext -underBinder x865
    have h866 : Agree MM so x865 := by
      subst x865
      refine State.enChanged_touch (sub_trans (by decide) hmm) ?_
      exact h864
    try clear_value x865
    refine Agree.ite ?_ ?_
    · refine State.softStart_touch (sub_trans (by decide) hmm) ?_
      exact h866
    · exact h866
  · refine State.withTaps_touch (sub_trans (by decide) hmm) ?_
    exact hag
  · refine Agree.ite ?_ ?_
    · refine Agree.forEach ?_ (fun y867 t868 h869 => ?_) _
      · exact hag
      · refine Agree.fsetB ?_ (sub_bit hmm (by decide)) _ _
        exact h869
    · exact hag
  · exact hag

theorem State.bkdCtrl_touch {MM : Nat} {so : State} {s : Sys2Proof.Machine.State}
    (hmm : Machine.sub 0x10002800000600000180000000001000200 MM = true) (hag : Agree MM so s) :
    Agree MM so (@State.bkdCtrl s) := by
  unfold State.bkdCtrl
  extract_lets +onlyGivenNames -merge -useContext -underBinder x871
  have h872 : Agree MM so x871 := by
    subst x871
    refine Agree.ite ?_ ?_
    · exact hag
    · refine State.lfxoReady_touch (sub_trans (by decide) hmm) ?_
      exact hag
  try clear_value x871
  refine State.bkdSubst_touch (sub_trans (by decide) hmm) ?_
  refine State.bkdBusy_touch (sub_trans (by decide) hmm) ?_
  exact h872

theorem State.afterSen_touch {MM : Nat} {so : State} {s : Sys2Proof.Machine.State} {old : Sys2Proof.Machine.State} {w : Sys2Proof.Machine.Who} {r : Sys2Proof.Machine.Reg} {n : ℕ} {v : Sys2Proof.Word}
    (hmm : Machine.sub 0xfffffffffffffffffffffffffffffffffffffffffffffffffffffffffffffffffffffffffffffffffffffffffffffffffffffffffffffff0000004017baa608 MM = true) (hp3 : MM.testBit (64 + r.ctorIdx) = true) (hag : Agree MM so s) :
    Agree MM so (@State.afterSen s old w r n v) := by
  unfold State.afterSen
  split
  · refine State.irq_touch (sub_trans (by decide) hmm) ?_
    refine Agree.fset ?_ (sub_bit hmm (by decide)) _ _
    exact hag
  · refine State.clkEnWritten_touch (sub_trans (by decide) hmm) ?_
    exact hag
  · extract_lets +onlyGivenNames -merge -useContext -underBinder x873
    have h874 : Agree MM so x873 := by
      subst x873
      refine Agree.ite ?_ ?_
      · exact hag
      · refine State.irq_touch (sub_trans (by decide) hmm) ?_
        refine Agree.fsetB ?_ (sub_bit hmm (by decide)) _ _
        exact hag
    try clear_value x873
    extract_lets +onlyGivenNames -merge -useContext -underBinder x875
    have h876 : Agree MM so x875 := by
      subst x875
      refine Agree.ite ?_ ?_
      · refine State.tachThaw_touch (sub_trans (by decide) hmm) ?_
        exact h874
      · exact h874
    try clear_value x875
    extract_lets +onlyGivenNames -merge -useContext -underBinder x877
    have h878 : Agree MM so x877 := by
      subst x877
      refine Agree.ite ?_ ?_
      · refine State.pairEval_touch (sub_trans (by decide) hmm) ?_
        exact h876
      · exact h876
    try clear_value x877
    extract_lets +onlyGivenNames -merge -useContext -underBinder x879
    have h880 : Agree MM so x879 := by
      subst x879
      refine Agree.forEach ?_ (fun y881 t882 h883 => ?_) _
      · exact h878
      · refine State.uartNext_touch (sub_trans (by decide) hmm) ?_
        exact h883
    try clear_value x879
    extract_lets +onlyGivenNames -merge -useContext -underBinder x884
    try clear_value x884
    refine Agree.ite ?_ ?_
    · refine Agree.set_epoch ?_ (sub_bit hmm (by decide)) _
      exact h880
    · refine Agree.ite ?_ ?_
      · extract_lets +onlyGivenNames -merge -useContext -underBinder x885
        try clear_value x885
        refine Agree.set_epoch ?_ (sub_bit hmm (by decide)) _
        exact h880
      · exact h880
  · refine Agree.forEach ?_ (fun y886 t887 h888 => ?_) _
    · exact hag
    · refine State.domResume_touch (sub_trans (by decide) hmm) ?_
      exact h888
  · refine State.dvfsWritten_touch (sub_trans (by decide) hmm) ?_
    exact hag
  · refine State.checkBegin_touch (sub_trans (by decide) hmm) ?_
    exact hag
  · refine State.checkBegin_touch (sub_trans (by decide) hmm) ?_
    exact hag
  · refine State.bkdCtrl_touch (sub_trans (by decide) hmm) ?_
    exact hag
  · refine Agree.ite ?_ ?_
    · refine State.measStart_touch (sub_trans (by decide) hmm) ?_
      exact hag
    · exact hag
  · refine Agree.ite ?_ ?_
    · refine State.guardWindow_touch (sub_trans (by decide) hmm) ?_
      exact hag
    · exact hag
  · refine Agree.ite ?_ ?_
    · refine State.pmbBegin_touch (sub_trans (by decide) hmm) ?_
      exact hag
    · exact hag
  · exact hag

theorem State.bsCommand_touch {MM : Nat} {so : State} {s : Sys2Proof.Machine.State} {n : ℕ} {cmd : ℕ}
    (hmm : Machine.sub 0x18000000000000000000000000000000000000000000000000000000001f1400010000000000000000180000000002000600 MM = true) (hag : Agree MM so s) :
    Agree MM so (@State.bsCommand s n cmd) := by
  unfold State.bsCommand
  split
  · refine State.bsClose_touch (sub_trans (by decide) hmm) ?_
    exact hag
  · refine State.bsArm_touch (sub_trans (by decide) hmm) ?_
    exact hag
  · refine State.bsCancel_touch (sub_trans (by decide) hmm) ?_
    exact hag
  · refine State.bsClear_touch (sub_trans (by decide) hmm) ?_
    exact hag
  · exact hag

theorem State.learnStart_touch {MM : Nat} {so : State} {s : Sys2Proof.Machine.State} {n : ℕ}
    (hmm : Machine.sub 0x2000000000010000000000000000100000000000004200 MM = true) (hag : Agree MM so s) :
    Agree MM so (@State.learnStart s n) := by
  unfold State.learnStart
  extract_lets +onlyGivenNames -merge -useContext -underBinder x897
  try clear_value x897
  refine Agree.ite ?_ ?_
  · refine State.setEng_touch (sub_trans (by decide) hmm) ?_
    refine Agree.fsetB ?_ (sub_bit hmm (by decide)) _ _
    exact hag
  · refine State.angFault_touch (sub_trans (by decide) hmm) (sub_bit hmm (by decide)) ?_
    exact hag

theorem State.angCtrl_touch {MM : Nat} {so : State} {s : Sys2Proof.Machine.State} {n : ℕ} {v : Sys2Proof.Word}
    (hmm : Machine.sub 0x2200000000010000000000000000180000000000004200 MM = true) (hag : Agree MM so s) :
    Agree MM so (@State.angCtrl s n v) := by
  unfold State.angCtrl
  extract_lets +onlyGivenNames -merge -useContext -underBinder x898
  try clear_value x898
  extract_lets +onlyGivenNames -merge -useContext -underBinder x899
  have h900 : Agree MM so x899 := by
    subst x899
    refine State.setEng_touch (sub_trans (by decide) hmm) ?_
    exact hag
  try clear_value x899
  extract_lets +onlyGivenNames -merge -useContext -underBinder x901
  have h902 : Agree MM so x901 := by
    subst x901
    refine Agree.ite ?_ ?_
    · refine Agree.fsetB ?_ (sub_bit hmm (by decide)) _ _
      refine Agree.fsetB ?_ (sub_bit hmm (by decide)) _ _
      exact h900
    · exact hag
  try clear_value x901
  extract_lets +onlyGivenNames -merge -useContext -underBinder x903
  have h904 : Agree MM so x903 := by
    subst x903
    refine Agree.ite ?_ ?_
    · refine State.learnStart_touch (sub_trans (by decide) hmm) ?_
      refine Agree.fsetB ?_ (sub_bit hmm (by decide)) _ _
      exact h902
    · exact h902
  try clear_value x903
  refine State.angBusy_touch (sub_trans (by decide) hmm) ?_
  exact h904

theorem State.darnPop_touch {MM : Nat} {so : State} {s : Sys2Proof.Machine.State}
    (hmm : Machine.sub 0x43e00000000000000000000000000000000000000000000000000000000000000000000000000000000000000000000000000000080000000000080000 MM = true) (hag : Agree MM so s) :
    Agree MM so (@State.darnPop s) := by
  unfold State.darnPop
  refine State.darnShow_touch (sub_trans (by decide) hmm) ?_
  refine Agree.set_darn ?_ (sub_bit hmm (by decide)) _
  exact hag

theorem State.afterAcq_touch {MM : Nat} {so : State} {s : Sys2Proof.Machine.State} {old : Sys2Proof.Machine.State} {r : Sys2Proof.Machine.Reg} {n : ℕ} {v : Sys2Proof.Word}
    (hmm : Machine.sub 0xfffffffffffffffffffffffffffffffffffffffffffffffffffffffffffffffffffffffffffffffffffffffffffffffffffffffffffffff000000fffffffe7c MM = true) (hp2 : MM.testBit (64 + r.ctorIdx) = true) (hag : Agree MM so s) :
    Agree MM so (@State.afterAcq s old r n v) := by
  unfold State.afterAcq
  split
  · refine State.bsCommand_touch (sub_trans (by decide) hmm) ?_
    exact hag
  · refine State.angCtrl_touch (sub_trans (by decide) hmm) ?_
    exact hag
  · refine Agree.fsetB ?_ (sub_bit hmm (by decide)) _ _
    exact hag
  · refine State.runWritten_touch (sub_trans (by decide) hmm) ?_
    exact hag
  · refine State.alignModeWritten_touch (sub_trans (by decide) hmm) ?_
    exact hag
  · refine State.grpPowerWritten_touch (sub_trans (by decide) hmm) ?_
    exact hag
  · refine Agree.ite ?_ ?_
    · exact hag
    · refine Agree.fset ?_ (sub_bit hmm (by decide)) _ _
      exact hag
  · refine Agree.ite ?_ ?_
    · refine State.initStart_touch (sub_trans (by decide) hmm) ?_
      refine State.take_touch (sub_trans (by decide) hmm) (sub_bit hmm (by decide)) ?_
      exact hag
    · exact hag
  · refine Agree.ite ?_ ?_
    · refine State.swapRequested_touch (sub_trans (by decide) hmm) ?_
      exact hag
    · exact hag
  · extract_lets +onlyGivenNames -merge -useContext -underBinder x1251
    have h1252 : Agree MM so x1251 := by
      subst x1251
      refine State.rsmpBusy_touch (sub_trans (by decide) hmm) ?_
      refine State.rlSwapOff_touch (sub_trans (by decide) hmm) ?_
      refine Agree.ite ?_ ?_
      · exact hag
      · refine State.rlOff_touch (sub_trans (by decide) hmm) ?_
        exact hag
    try clear_value x1251
    refine Agree.ite ?_ ?_
    · exact h1252
    · refine State.lineWriters_touch (sub_trans (by decide) hmm) ?_
      exact h1252
  · refine Agree.ite ?_ ?_
    · exact hag
    · refine State.lineWriters_touch (sub_trans (by decide) hmm) ?_
      exact hag
  · refine State.lineFlush_touch (sub_trans (by decide) hmm) ?_
    refine State.lineEnabled_touch (sub_trans (by decide) hmm) ?_
    exact hag
  · refine Agree.set_lines ?_ (sub_bit hmm (by decide)) _
    exact hag
  · refine Agree.ite ?_ ?_
    · refine State.fetchStart_touch (sub_trans (by decide) hmm) ?_
      exact hag
    · exact hag
  · refine State.uartNext_touch (sub_trans (by decide) hmm) ?_
    exact hag
  · refine State.uartNext_touch (sub_trans (by decide) hmm) ?_
    exact hag
  · refine State.ringEnabled_touch (sub_trans (by decide) hmm) ?_
    exact hag
  · refine State.drainChar_touch (sub_trans (by decide) hmm) ?_
    exact hag
  · refine Agree.ite ?_ ?_
    · refine State.uartStart_touch (sub_trans (by decide) hmm) ?_
      exact hag
    · exact hag
  · refine Agree.ite ?_ ?_
    · refine State.xspiBegin_touch (sub_trans (by decide) hmm) ?_
      exact hag
    · refine Agree.ite ?_ ?_
      · refine State.xspiBegin_touch (sub_trans (by decide) hmm) ?_
        exact hag
      · exact hag
  · refine Agree.ite ?_ ?_
    · refine State.idbGo_touch (sub_trans (by decide) hmm) ?_
      exact hag
    · refine Agree.ite ?_ ?_
      · refine State.idbGo_touch (sub_trans (by decide) hmm) ?_
        exact hag
      · exact hag
  · refine Agree.ite ?_ ?_
    · refine State.gpioFollow_touch (sub_trans (by decide) hmm) ?_
      refine Agree.fsetB ?_ (sub_bit hmm (by decide)) _ _
      refine State.take_touch (sub_trans (by decide) hmm) (sub_bit hmm (by decide)) ?_
      exact hag
    · exact hag
  · refine State.gpioFollow_touch (sub_trans (by decide) hmm) ?_
    exact hag
  · refine State.gpioFollow_touch (sub_trans (by decide) hmm) ?_
    exact hag
  · refine Agree.ite ?_ ?_
    · refine State.wdReload_touch (sub_trans (by decide) hmm) ?_
      exact hag
    · exact hag
  · refine State.mailbox_touch (sub_trans (by decide) hmm) ?_
    exact hag
  · refine Agree.ite ?_ ?_
    · refine State.mendAsked_touch (sub_trans (by decide) hmm) ?_
      exact hag
    · exact hag
  · extract_lets +onlyGivenNames -merge -useContext -underBinder x1253
    have h1254 : Agree MM so x1253 := by
      subst x1253
      refine State.take_touch (sub_trans (by decide) hmm) (sub_bit hmm (by decide)) ?_
      refine State.take_touch (sub_trans (by decide) hmm) (sub_bit hmm (by decide)) ?_
      exact hag
    try clear_value x1253
    refine Agree.ite ?_ ?_
    · refine State.darnConfirm_touch (sub_trans (by decide) hmm) ?_
      exact h1254
    · refine Agree.ite ?_ ?_
      · refine State.darnDecline_touch (sub_trans (by decide) hmm) ?_
        exact h1254
      · exact h1254
  · refine Agree.ite ?_ ?_
    · refine State.darnPop_touch (sub_trans (by decide) hmm) ?_
      refine State.take_touch (sub_trans (by decide) hmm) (sub_bit hmm (by decide)) ?_
      exact hag
    · exact hag
  · refine Agree.ite ?_ ?_
    · refine State.darnIn_touch (sub_trans (by decide) hmm) ?_
      exact hag
    · exact hag
  · exact hag

theorem State.csCommand_touch {MM : Nat} {so : State} {s : Sys2Proof.Machine.State} {w : ℕ} {v : Sys2Proof.Word}
    (hmm : Machine.sub 0xfffffffffffffffffffffffffffffffffffffffffffffffffffffffffffffffffffffffffffffffffffffffffffffffffffffffffffffff0000000000800200 MM = true) (hag : Agree MM so s) :
    Agree MM so (@State.csCommand s w v) := by
  unfold State.csCommand
  extract_lets +onlyGivenNames -merge -useContext -underBinder x1271
  have h1272 : Agree MM so x1271 := by
    subst x1271
    refine Agree.forEach ?_ (fun y1273 t1274 h1275 => ?_) _
    · exact hag
    · refine Agree.fsetB ?_ (allBit (sub_trans (by decide) hmm) _) _ _
      exact h1275
  try clear_value x1271
  refine Agree.ite ?_ ?_
  · refine State.csStart_touch (sub_trans (by decide) hmm) ?_
    exact h1272
  · refine Agree.ite ?_ ?_
    · refine State.csStart_touch (sub_trans (by decide) hmm) ?_
      exact h1272
    · refine Agree.ite ?_ ?_
      · refine State.csStart_touch (sub_trans (by decide) hmm) ?_
        exact h1272
      · refine Agree.ite ?_ ?_
        · refine State.csStart_touch (sub_trans (by decide) hmm) ?_
          exact h1272
        · exact h1272

theorem State.coreCtrl_touch {MM : Nat} {so : State} {s : Sys2Proof.Machine.State} {n : ℕ} {v : Sys2Proof.Word} {old : Bool}
    (hmm : Machine.sub 0x10000000000000000000000000000000000000000000000000000000000000000000000000000000000000000010000000000000000100000000008400200 MM = true) (hag : Agree MM so s) :
    Agree MM so (@State.coreCtrl s n v old) := by
  unfold State.coreCtrl
  extract_lets +onlyGivenNames -merge -useContext -underBinder x1298
  have h1299 : Agree MM so x1298 := by
    subst x1298
    refine Agree.ite ?_ ?_
    · refine State.coreZero_touch (sub_trans (by decide) hmm) ?_
      refine Agree.fsetB ?_ (sub_bit hmm (by decide)) _ _
      exact hag
    · exact hag
  try clear_value x1298
  refine Agree.ite ?_ ?_
  · refine State.coreStopped_touch (sub_trans (by decide) hmm) ?_
    exact h1299
  · exact h1299

theorem State.afterFar_touch {MM : Nat} {so : State} {s : Sys2Proof.Machine.State} {old : Sys2Proof.Machine.State} {r : Sys2Proof.Machine.Reg} {n : ℕ} {v : Sys2Proof.Word}
    (hmm : Machine.sub 0xfffffffffffffffffffffffffffffffffffffffffffffffffffffffffffffffffffffffffffffffffffffffffffffffffffffffffffffff000000000aca820c MM = true) (hp2 : MM.testBit (64 + r.ctorIdx) = true) (hag : Agree MM so s) :
    Agree MM so (@State.afterFar s old r n v) := by
  unfold State.afterFar
  split
  · refine Agree.ite ?_ ?_
    · refine State.trainAsk_touch (sub_trans (by decide) hmm) ?_
      exact hag
    · exact hag
  · extract_lets +onlyGivenNames -merge -useContext -underBinder x1301
    have h1302 : Agree MM so x1301 := by
      subst x1301
      refine State.take_touch (sub_trans (by decide) hmm) (sub_bit hmm (by decide)) ?_
      refine State.take_touch (sub_trans (by decide) hmm) (sub_bit hmm (by decide)) ?_
      exact hag
    try clear_value x1301
    extract_lets +onlyGivenNames -merge -useContext -underBinder x1303
    have h1304 : Agree MM so x1303 := by
      subst x1303
      refine Agree.ite ?_ ?_
      · refine State.welHalt_touch (sub_trans (by decide) hmm) ?_
        exact h1302
      · exact h1302
    try clear_value x1303
    extract_lets +onlyGivenNames -merge -useContext -underBinder x1305
    have h1306 : Agree MM so x1305 := by
      subst x1305
      refine Agree.ite ?_ ?_
      · refine State.welResume_touch (sub_trans (by decide) hmm) ?_
        exact h1304
      · exact h1304
    try clear_value x1305
    refine State.welRefresh_touch (sub_trans (by decide) hmm) ?_
    exact h1306
  · refine State.csCommand_touch (sub_trans (by decide) hmm) ?_
    exact hag
  · refine State.qSettle_touch (sub_trans (by decide) hmm) ?_
    refine Agree.ite ?_ ?_
    · refine State.setWq_touch (sub_trans (by decide) hmm) ?_
      exact hag
    · exact hag
  · refine State.qSettle_touch (sub_trans (by decide) hmm) ?_
    exact hag
  · extract_lets +onlyGivenNames -merge -useContext -underBinder x1307
    have h1308 : Agree MM so x1307 := by
      subst x1307
      refine Agree.ite ?_ ?_
      · refine State.portRetrain_touch (sub_trans (by decide) hmm) ?_
        refine State.take_touch (sub_trans (by decide) hmm) (sub_bit hmm (by decide)) ?_
        exact hag
      · exact hag
    try clear_value x1307
    refine State.portIdle_touch (sub_trans (by decide) hmm) ?_
    exact h1308
  · extract_lets +onlyGivenNames -merge -useContext -underBinder x1309
    have h1310 : Agree MM so x1309 := by
      subst x1309
      refine State.take_touch (sub_trans (by decide) hmm) (sub_bit hmm (by decide)) ?_
      refine State.take_touch (sub_trans (by decide) hmm) (sub_bit hmm (by decide)) ?_
      exact hag
    try clear_value x1309
    extract_lets +onlyGivenNames -merge -useContext -underBinder x1311
    have h1312 : Agree MM so x1311 := by
      subst x1311
      refine Agree.ite ?_ ?_
      · refine State.beaconSet_touch (sub_trans (by decide) hmm) ?_
        exact h1310
      · exact h1310
    try clear_value x1311
    refine Agree.ite ?_ ?_
    · refine State.timeInvalid_touch (sub_trans (by decide) hmm) ?_
      exact h1312
    · exact h1312
  · refine Agree.ite ?_ ?_
    · exact hag
    · refine State.timeInvalid_touch (sub_trans (by decide) hmm) ?_
      exact hag
  · extract_lets +onlyGivenNames -merge -useContext -underBinder x1313
    have h1314 : Agree MM so x1313 := by
      subst x1313
      refine Agree.ite ?_ ?_
      · refine State.pairHandover_touch (sub_trans (by decide) hmm) ?_
        refine State.take_touch (sub_trans (by decide) hmm) (sub_bit hmm (by decide)) ?_
        exact hag
      · exact hag
    try clear_value x1313
    refine State.pairEval_touch (sub_trans (by decide) hmm) ?_
    exact h1314
  · refine State.ownBreak_touch (sub_trans (by decide) hmm) ?_
    refine State.ownBreak_touch (sub_trans (by decide) hmm) ?_
    exact hag
  · refine Agree.ite ?_ ?_
    · exact hag
    · refine Agree.fset ?_ (sub_bit hmm (by decide)) _ _
      exact hag
  · refine State.periodWritten_touch (sub_trans (by decide) hmm) ?_
    exact hag
  · refine State.coreCtrl_touch (sub_trans (by decide) hmm) ?_
    exact hag
  · refine State.irqWake_touch (sub_trans (by decide) hmm) ?_
    refine State.coreCopy_touch (sub_trans (by decide) hmm) ?_
    exact hag
  · refine State.irqWake_touch (sub_trans (by decide) hmm) ?_
    refine State.coreCopy_touch (sub_trans (by decide) hmm) ?_
    exact hag
  · refine State.coreCopy_touch (sub_trans (by decide) hmm) ?_
    exact hag
  · exact hag

theorem State.landWrite_touch {MM : Nat} {so : State} {s : Sys2Proof.Machine.State} {w : Sys2Proof.Machine.Who} {r : Sys2Proof.Machine.Reg} {n : ℕ} {v : Sys2Proof.Word}
    (hmm : Machine.sub 0xfffffffffffffffffffffffffffffffffffffffffffffffffffffffffffffffffffffffffffffffffffffffffffffffffffffffffffffff000000fffffffe7c MM = true) (hp2 : MM.testBit (64 + r.ctorIdx) = true) (hag : Agree MM so s) :
    Agree MM so (@State.landWrite s w r n v) := by
  unfold State.landWrite
  extract_lets +onlyGivenNames -merge -useContext -underBinder x1315
  have h1316 : Agree MM so x1315 := by
    subst x1315
    refine Agree.ite ?_ ?_
    · refine State.timeRebase_touch (sub_trans (by decide) hmm) ?_
      exact hag
    · exact hag
  try clear_value x1315
  extract_lets +onlyGivenNames -merge -useContext -underBinder x1317
  have h1318 : Agree MM so x1317 := by
    subst x1317
    refine Agree.setReg ?_ hp2 _ _
    exact h1316
  try clear_value x1317
  extract_lets +onlyGivenNames -merge -useContext -underBinder x1319
  have h1320 : Agree MM so x1319 := by
    subst x1319
    refine State.stChanged_touch (sub_trans (by decide) hmm) hp2 ?_
    refine State.noteStaged_touch (sub_trans (by decide) hmm) hp2 ?_
    exact h1318
  try clear_value x1319
  extract_lets +onlyGivenNames -merge -useContext -underBinder x1321
  have h1322 : Agree MM so x1321 := by
    subst x1321
    refine State.afterHead_touch (sub_trans (by decide) hmm) hp2 ?_
    exact h1320
  try clear_value x1321
  extract_lets +onlyGivenNames -merge -useContext -underBinder x1323
  have h1324 : Agree MM so x1323 := by
    subst x1323
    refine State.afterSen_touch (sub_trans (by decide) hmm) hp2 ?_
    exact h1322
  try clear_value x1323
  extract_lets +onlyGivenNames -merge -useContext -underBinder x1325
  have h1326 : Agree MM so x1325 := by
    subst x1325
    refine State.afterAcq_touch (sub_trans (by decide) hmm) hp2 ?_
    exact h1324
  try clear_value x1325
  extract_lets +onlyGivenNames -merge -useContext -underBinder x1327
  have h1328 : Agree MM so x1327 := by
    subst x1327
    refine State.afterFar_touch (sub_trans (by decide) hmm) hp2 ?_
    exact h1326
  try clear_value x1327
  refine Agree.ite ?_ ?_
  · refine State.timeFollow_touch (sub_trans (by decide) hmm) ?_
    exact h1328
  · exact h1328

theorem State.regWrite_touch {MM : Nat} {so : State} {s : Sys2Proof.Machine.State} {w : Sys2Proof.Machine.Who} {p : ℕ} {r : Sys2Proof.Machine.Reg} {n : ℕ} {v : Sys2Proof.Word}
    (hmm : Machine.sub 0xfffffffffffffffffffffffffffffffffffffffffffffffffffffffffffffffffffffffffffffffffffffffffffffffffffffffffffffff000000fffffffe7c MM = true) (hp3 : MM.testBit (64 + r.ctorIdx) = true) (hag : Agree MM so s) :
    Agree MM so (@State.regWrite s w p r n v) := by
  unfold State.regWrite
  refine Agree.ite ?_ ?_
  · refine State.pageErr_touch (sub_trans (by decide) hmm) ?_
    exact hag
  · split
    · rename_i heq
      have h1329 := State.calClosed_touch (MM := MM) (so := so) (sub_trans (by decide) hmm) hp3 (by
        exact hag
        ) _ heq
      exact h1329
    · refine Agree.ite ?_ ?_
      · refine State.pageErr_touch (sub_trans (by decide) hmm) ?_
        exact hag
      · split
        · refine State.evlRefuse_touch (sub_trans (by decide) hmm) hp3 ?_
          exact hag
        · refine State.pageErr_touch (sub_trans (by decide) hmm) ?_
          exact hag
        · split
          · rename_i heq
            have h1330 := State.turnedAway_touch (MM := MM) (so := so) (sub_trans (by decide) hmm) hp3 (by
              exact hag
              ) _ heq
            exact h1330
          · refine State.softReady_touch (sub_trans (by decide) hmm) ?_
            refine Agree.getD ?_ ?_
            · refine State.portWrite_touch (sub_trans (by decide) hmm) hp3 ?_
              exact hag
            · refine State.landWrite_touch (sub_trans (by decide) hmm) hp3 ?_
              exact hag

end Sys2Proof.Machine
end

