-- ==== Sys2Proof/Laws/Touch/Fabric.lean ====
section
/-!
SUPPORT. What the functions of Machine/Fabric.lean can touch: one lemma per function, its mask after `sub`.
-/

namespace Sys2Proof.Machine

theorem State.busErr_touch {MM : Nat} {so : State} {s : Sys2Proof.Machine.State} {w : Sys2Proof.Machine.Who} {wr : Bool} {log : ℕ} {cause : ℕ}
    (hmm : Machine.sub 0x1000000000000001c100000000000000200 MM = true) (hag : Agree MM so s) :
    AgreeP MM so (@State.busErr s w wr log cause) := by
  unfold State.busErr
  refine AgreeP.mk ?_
  refine State.logBusErr_touch (sub_trans (by decide) hmm) ?_
  exact hag

theorem State.performWrite_touch {MM : Nat} {so : State} {s : Sys2Proof.Machine.State} {w : Sys2Proof.Machine.Who} {n : ℕ} {a : ℕ} {log : ℕ} {v : Sys2Proof.Word}
    (hmm : Machine.sub 0xfffffffffffffffffffffffffffffffffffffffffffffffffffffffffffffffffffffffffffffffffffffffffffffffffffffffffffffff000000fffffffe7c MM = true) (hag : Agree MM so s) :
    AgreeP MM so (@State.performWrite s w n a log v) := by
  unfold State.performWrite
  extract_lets +onlyGivenNames -merge -useContext -underBinder x1331
  try clear_value x1331
  refine AgreeP.ite ?_ ?_
  · refine State.busErr_touch (sub_trans (by decide) hmm) ?_
    exact hag
  · refine AgreeP.ite ?_ ?_
    · refine State.busErr_touch (sub_trans (by decide) hmm) ?_
      exact hag
    · refine AgreeP.ite ?_ ?_
      · refine AgreeP.mk ?_
        exact hag
      · split
        · refine AgreeP.mk ?_
          refine State.pageErr_touch (sub_trans (by decide) hmm) ?_
          exact hag
        · refine AgreeP.ite ?_ ?_
          · refine AgreeP.mk ?_
            refine State.regWrite_touch (sub_trans (by decide) hmm) (allBit (sub_trans (by decide) hmm) _) ?_
            exact hag
          · refine AgreeP.mk ?_
            refine State.pageErr_touch (sub_trans (by decide) hmm) ?_
            exact hag

theorem State.readEffects_touch {MM : Nat} {so : State} {s : Sys2Proof.Machine.State} {w : Sys2Proof.Machine.Who} {r : Sys2Proof.Machine.Reg} {n : ℕ}
    (hmm : Machine.sub 0x800002000000000080000000000000000000400001000000000000000000000000000000000020000080 MM = true) (hp2 : MM.testBit (64 + r.ctorIdx) = true) (hag : Agree MM so s) :
    Agree MM so (@State.readEffects s w r n) := by
  unfold State.readEffects
  extract_lets +onlyGivenNames -merge -useContext -underBinder x1336
  have h1337 : Agree MM so x1336 := by
    subst x1336
    refine Agree.ite ?_ ?_
    · exact hag
    · refine Agree.setReg ?_ hp2 _ _
      exact hag
  try clear_value x1336
  split
  · refine State.bsAdvance_touch (sub_trans (by decide) hmm) ?_
    exact h1337
  · refine State.csNext_touch (sub_trans (by decide) hmm) ?_
    exact h1337
  · refine Agree.ite ?_ ?_
    · refine Agree.fadd ?_ (sub_bit hmm (by decide)) _ _
      exact h1337
    · exact h1337
  · refine State.rlAdvance_touch (sub_trans (by decide) hmm) ?_
    exact h1337
  · refine State.tidxNext_touch (sub_trans (by decide) hmm) ?_
    exact h1337
  · refine Agree.ite ?_ ?_
    · exact h1337
    · refine Agree.set_temps ?_ (sub_bit hmm (by decide)) _
      exact h1337
  · refine Agree.set_draws ?_ (sub_bit hmm (by decide)) _
    exact h1337
  · refine Agree.set_draws ?_ (sub_bit hmm (by decide)) _
    exact h1337
  · exact h1337

theorem State.regRead_touch {MM : Nat} {so : State} {s : Sys2Proof.Machine.State} {w : Sys2Proof.Machine.Who} {r : Sys2Proof.Machine.Reg} {n : ℕ}
    (hmm : Machine.sub 0x8000020000000000800000000000000000004000010000000000000000000000000000000000200000a0 MM = true) (hp2 : MM.testBit (64 + r.ctorIdx) = true) (hag : Agree MM so s) :
    AgreeP MM so (@State.regRead s w r n) := by
  unfold State.regRead
  split
  · refine State.freezeRead_touch (sub_trans (by decide) hmm) hp2 ?_
    exact hag
  · refine AgreeP.mk ?_
    refine State.readEffects_touch (sub_trans (by decide) hmm) hp2 ?_
    exact hag

theorem State.performRead_touch {MM : Nat} {so : State} {s : Sys2Proof.Machine.State} {w : Sys2Proof.Machine.Who} {n : ℕ} {a : ℕ} {log : ℕ}
    (hmm : Machine.sub 0xfffffffffffffffffffffffffffffffffffffffffffffffffffffffffffffffffffffffffffffffffffffffffffffffffffffffffffffff00000000200002a0 MM = true) (hag : Agree MM so s) :
    AgreeP MM so (@State.performRead s w n a log) := by
  unfold State.performRead
  extract_lets +onlyGivenNames -merge -useContext -underBinder x1338
  try clear_value x1338
  refine AgreeP.ite ?_ ?_
  · refine State.busErr_touch (sub_trans (by decide) hmm) ?_
    exact hag
  · refine AgreeP.ite ?_ ?_
    · refine State.busErr_touch (sub_trans (by decide) hmm) ?_
      exact hag
    · refine AgreeP.ite ?_ ?_
      · refine AgreeP.mk ?_
        exact hag
      · split
        · refine AgreeP.mk ?_
          refine State.pageErr_touch (sub_trans (by decide) hmm) ?_
          exact hag
        · refine AgreeP.ite ?_ ?_
          · split
            · rename_i heq
              have h1339 := AgreeP.of_eq (M := MM) (s0 := so) heq (by
                refine State.regRead_touch (sub_trans (by decide) hmm) (allBit (sub_trans (by decide) hmm) _) ?_
                exact hag
                )
              refine AgreeP.mk ?_
              exact h1339
          · refine AgreeP.mk ?_
            refine State.pageErr_touch (sub_trans (by decide) hmm) ?_
            exact hag

theorem State.perform_touch {MM : Nat} {so : State} {s : Sys2Proof.Machine.State} {w : Sys2Proof.Machine.Who} {wr : Bool} {n : ℕ} {a : ℕ} {log : ℕ} {v : Sys2Proof.Word}
    (hmm : Machine.sub 0xfffffffffffffffffffffffffffffffffffffffffffffffffffffffffffffffffffffffffffffffffffffffffffffffffffffffffffffff000000fffffffffc MM = true) (hag : Agree MM so s) :
    Agree MM so (@State.perform s w wr n a log v) := by
  unfold State.perform
  split
  · rename_i heq
    have h1340 := AgreeP.of_eq (M := MM) (s0 := so) heq (by
      refine AgreeP.ite ?_ ?_
      · refine State.performWrite_touch (sub_trans (by decide) hmm) ?_
        exact hag
      · refine State.performRead_touch (sub_trans (by decide) hmm) ?_
        exact hag
      )
    refine Agree.set_answer ?_ (sub_bit hmm (by decide)) _
    exact h1340

theorem State.access_touch {MM : Nat} {so : State} {s : Sys2Proof.Machine.State} {q : Sys2Proof.Requester} {wr : Bool} {size : Sys2Proof.AccessSize} {a : ℕ} {v : Sys2Proof.Word}
    (hmm : Machine.sub 0xfffffffffffffffffffffffffffffffffffffffffffffffffffffffffffffffffffffffffffffffffffffffffffffffffffffffffffffff000000fffffffffc MM = true) (hag : Agree MM so s) :
    Agree MM so (@State.access s q wr size a v) := by
  unfold State.access
  extract_lets +onlyGivenNames -merge -useContext -underBinder x1341
  try clear_value x1341
  extract_lets +onlyGivenNames -merge -useContext -underBinder x1342
  try clear_value x1342
  refine Agree.ite ?_ ?_
  · exact hag
  · refine Agree.ite ?_ ?_
    · refine Agree.set_held_answer ?_ (sub_bit hmm (by decide)) (sub_bit hmm (by decide)) _ _
      exact hag
    · refine State.perform_touch (sub_trans (by decide) hmm) ?_
      exact hag

theorem State.debugPerform_touch {MM : Nat} {so : State} {s : Sys2Proof.Machine.State} {d : Sys2Proof.Machine.DebugWait}
    (hmm : Machine.sub 0x80043e000000000000000000000000000000000400800007c000000000000000000000000000000000000000001840000000000001c18000000000008030c MM = true) (hag : Agree MM so s) :
    Agree MM so (@State.debugPerform s d) := by
  unfold State.debugPerform
  extract_lets +onlyGivenNames -merge -useContext -underBinder x1730
  try clear_value x1730
  extract_lets +onlyGivenNames -merge -useContext -underBinder x1731
  try clear_value x1731
  refine Agree.ite ?_ ?_
  · split
    · rename_i heq
      have h1732 := AgreeP.of_eq (M := MM) (s0 := so) heq (by
        refine State.fabWrite_touch (sub_trans (by decide) hmm) ?_
        exact hag
        )
      refine Agree.set_answer ?_ (sub_bit hmm (by decide)) _
      exact h1732
  · split
    · rename_i heq
      have h1733 := AgreeP.of_eq (M := MM) (s0 := so) heq (by
        refine State.fabRead_touch (sub_trans (by decide) hmm) ?_
        exact hag
        )
      refine Agree.set_answer ?_ (sub_bit hmm (by decide)) _
      exact h1733

theorem State.debugServe_touch {MM : Nat} {so : State} {s : Sys2Proof.Machine.State} {u1 : ℕ}
    (hmm : Machine.sub 0x80043e000000000000000000000000000000000400800007c000000000000000000000000000000000000000001840000000000001c18000000000048030c MM = true) (hag : Agree MM so s) :
    Agree MM so (@State.debugServe s u1) := by
  induction u1 generalizing s with
  | zero => exact hag
  | succ k ih =>
    rw [State.debugServe]
    split
    · exact hag
    · rename_i d rest _
      have h0 : AgreeP MM so (s.memAsk 5 2 d.addr d.size.bytes d.secure) := State.memAsk_touch (sub_trans (by decide) hmm) hag
      generalize s.memAsk 5 2 d.addr d.size.bytes d.secure = r at h0 ⊢
      refine Agree.ite h0 (ih ?_)
      exact State.debugPerform_touch (sub_trans (by decide) hmm) (Agree.set_lines h0 (sub_bit hmm (by decide)) _)

theorem State.bankFree_touch {MM : Nat} {so : State} {s : Sys2Proof.Machine.State}
    (hmm : Machine.sub 0x80043e000000000000000000000000000000000400800007c000000000000000000000000000000000000000001840000000000001c18000000000048030c MM = true) (hag : Agree MM so s) :
    Agree MM so (@State.bankFree s) := by
  unfold State.bankFree
  extract_lets +onlyGivenNames -merge -useContext -underBinder x1734
  have h1735 : Agree MM so x1734 := by
    subst x1734
    refine State.bankCopyDone_touch (sub_trans (by decide) hmm) ?_
    exact hag
  try clear_value x1734
  refine State.debugServe_touch (sub_trans (by decide) hmm) ?_
  exact h1735

theorem State.checksOver_touch {MM : Nat} {so : State} {s : Sys2Proof.Machine.State} {p : ℕ}
    (hmm : Machine.sub 0x4000000000 MM = true) (hag : Agree MM so s) :
    Agree MM so (@State.checksOver s p) := by
  unfold State.checksOver
  refine Agree.ite ?_ ?_
  · exact hag
  · refine State.checksEnd_touch (sub_trans (by decide) hmm) ?_
    exact hag

theorem State.mendWindow_touch {MM : Nat} {so : State} {s : Sys2Proof.Machine.State} {o : ℕ} {bs : List Sys2Proof.Byte}
    (hmm : Machine.sub 0x800000000 MM = true) (hag : Agree MM so s) :
    Agree MM so (@State.mendWindow s o bs) := by
  unfold State.mendWindow
  refine Agree.ite ?_ ?_
  · refine Agree.set_mend ?_ (sub_bit hmm (by decide)) _
    exact hag
  · refine Agree.ite ?_ ?_
    · refine Agree.set_mend ?_ (sub_bit hmm (by decide)) _
      exact hag
    · exact hag

theorem State.mendRead_touch {MM : Nat} {so : State} {s : Sys2Proof.Machine.State} {o : ℕ} {n : ℕ}
    (hmm : Machine.sub 0x800000000 MM = true) (hag : Agree MM so s) :
    Agree MM so (@State.mendRead s o n) := by
  unfold State.mendRead
  refine Agree.ite ?_ ?_
  · refine Agree.set_mend ?_ (sub_bit hmm (by decide)) _
    exact hag
  · exact hag

theorem State.debugMend_touch {MM : Nat} {so : State} {s : Sys2Proof.Machine.State} {wr : Bool} {n : ℕ} {a : ℕ} {v : BitVec 64}
    (hmm : Machine.sub 0x1000000000000001c100000000800000300 MM = true) (hag : Agree MM so s) :
    Agree MM so (@State.debugMend s wr n a v) := by
  unfold State.debugMend
  refine Agree.ite ?_ ?_
  · extract_lets +onlyGivenNames -merge -useContext -underBinder x2006
    have h2007 : Agree MM so x2006 := by
      subst x2006
      refine State.logBusErr_touch (sub_trans (by decide) hmm) ?_
      exact hag
    try clear_value x2006
    refine Agree.set_answer ?_ (sub_bit hmm (by decide)) _
    exact h2007
  · refine Agree.ite ?_ ?_
    · extract_lets +onlyGivenNames -merge -useContext -underBinder x2008
      have h2009 : Agree MM so x2008 := by
        subst x2008
        refine State.mendWindow_touch (sub_trans (by decide) hmm) ?_
        exact hag
      try clear_value x2008
      refine Agree.set_answer ?_ (sub_bit hmm (by decide)) _
      exact h2009
    · extract_lets +onlyGivenNames -merge -useContext -underBinder x2010
      have h2011 : Agree MM so x2010 := by
        subst x2010
        refine State.mendRead_touch (sub_trans (by decide) hmm) ?_
        exact hag
      try clear_value x2010
      refine Agree.set_answer ?_ (sub_bit hmm (by decide)) _
      exact h2011

theorem State.debugAccess_touch {MM : Nat} {so : State} {s : Sys2Proof.Machine.State} {wr : Bool} {size : Sys2Proof.AccessSize} {a : ℕ} {v : BitVec 64}
    (hmm : Machine.sub 0xfffffffffffffffffffffffffffffffffffffffffffffffffffffffffffffffffffffffffffffffffffffffffffffffffffffffffffffff000000fffffffffc MM = true) (hag : Agree MM so s) :
    Agree MM so (@State.debugAccess s wr size a v) := by
  unfold State.debugAccess
  refine Agree.ite ?_ ?_
  · exact hag
  · refine Agree.ite ?_ ?_
    · refine State.debugMend_touch (sub_trans (by decide) hmm) ?_
      exact hag
    · extract_lets +onlyGivenNames -merge -useContext -underBinder x2012
      try clear_value x2012
      split
      · refine State.access_touch (sub_trans (by decide) hmm) ?_
        exact hag
      · extract_lets +onlyGivenNames -merge -useContext -underBinder x2013
        try clear_value x2013
        extract_lets +onlyGivenNames -merge -useContext -underBinder x2014
        have h2015 : Agree MM so x2014 := by
          subst x2014
          refine Agree.set_answer_lines ?_ (sub_bit hmm (by decide)) (sub_bit hmm (by decide)) _ _
          exact hag
        try clear_value x2014
        refine State.debugServe_touch (sub_trans (by decide) hmm) ?_
        exact h2015

theorem State.freezeStale_touch {MM : Nat} {so : State} {s : Sys2Proof.Machine.State} {q : Sys2Proof.Requester} {a : ℕ}
    (hmm : Machine.sub 0xfffffffffffffffffffffffffffffffffffffffffffffffffffffffffffffffffffffffffffffffffffffffffffffffffffffffffffffff0000000000000220 MM = true) (hag : Agree MM so s) :
    Agree MM so (@State.freezeStale s q a) := by
  unfold State.freezeStale
  split
  · exact hag
  · split
    · exact hag
    · extract_lets +onlyGivenNames -merge -useContext -underBinder x2452
      try clear_value x2452
      refine Agree.ite ?_ ?_
      · exact hag
      · extract_lets +onlyGivenNames -merge -useContext -underBinder x2453
        have h2454 : Agree MM so x2453 := by
          subst x2453
          refine Agree.set_freeze ?_ (sub_bit hmm (by decide)) _
          exact hag
        try clear_value x2453
        refine State.irq_touch (sub_trans (by decide) hmm) ?_
        refine Agree.fsetB ?_ (allBit (sub_trans (by decide) hmm) _) _ _
        exact h2454

theorem State.govTick_touch {MM : Nat} {so : State} {s : Sys2Proof.Machine.State}
    (hmm : Machine.sub 0x80043e000000000000000000000000000000000400800c07c000f90600000000000000000000000000000000001840000000000001c18000000000048030c MM = true) (hag : Agree MM so s) :
    Agree MM so (@State.govTick s) := by
  unfold State.govTick
  extract_lets +onlyGivenNames -merge -useContext -underBinder x2480
  have h2481 : Agree MM so x2480 := by
    subst x2480
    refine State.govWindow_touch (sub_trans (by decide) hmm) ?_
    exact hag
  try clear_value x2480
  refine State.debugServe_touch (sub_trans (by decide) hmm) ?_
  exact h2481

theorem State.performHeld_touch {MM : Nat} {so : State} {s : Sys2Proof.Machine.State} {h : Sys2Proof.Machine.HeldAccess} {rest : List Sys2Proof.Machine.HeldAccess}
    (hmm : Machine.sub 0xfffffffffffffffffffffffffffffffffffffffffffffffffffffffffffffffffffffffffffffffffffffffffffffffffffffffffffffff000000fffffffffc MM = true) (hag : Agree MM so s) :
    Agree MM so (@State.performHeld s h rest) := by
  unfold State.performHeld
  extract_lets +onlyGivenNames -merge -useContext -underBinder x2494
  try clear_value x2494
  extract_lets +onlyGivenNames -merge -useContext -underBinder x2495
  try clear_value x2495
  refine State.perform_touch (sub_trans (by decide) hmm) ?_
  refine Agree.set_held ?_ (sub_bit hmm (by decide)) _
  exact hag

theorem State.heldRelease_touch {MM : Nat} {so : State} {s : Sys2Proof.Machine.State}
    (hmm : Machine.sub 0xfffffffffffffffffffffffffffffffffffffffffffffffffffffffffffffffffffffffffffffffffffffffffffffffffffffffffffffff000000fffffffffc MM = true) (hag : Agree MM so s) :
    Agree MM so (@State.heldRelease s) := by
  unfold State.heldRelease
  extract_lets +onlyGivenNames -merge -useContext -underBinder x2496
  try clear_value x2496
  split
  · refine State.performHeld_touch (sub_trans (by decide) hmm) ?_
    exact hag
  · split
    · exact hag
    · refine State.performHeld_touch (sub_trans (by decide) hmm) ?_
      refine State.checksEnd_touch (sub_trans (by decide) hmm) ?_
      exact hag

theorem State.jtagAccess_touch {MM : Nat} {so : State} {s : Sys2Proof.Machine.State} {ir : ℕ} {cells : List Bool} {wr : Bool} {size : Sys2Proof.AccessSize} {a : ℕ} {v : BitVec 64}
    (hmm : Machine.sub 0xfffffffffffffffffffffffffffffffffffffffffffffffffffffffffffffffffffffffffffffffffffffffffffffffffffffffffffffff000000fffffffffc MM = true) (hag : Agree MM so s) :
    Agree MM so (@State.jtagAccess s ir cells wr size a v) := by
  unfold State.jtagAccess
  extract_lets +onlyGivenNames -merge -useContext -underBinder x2599
  have h2600 : Agree MM so x2599 := by
    subst x2599
    refine State.jtagScan_touch (sub_trans (by decide) hmm) ?_
    exact hag
  try clear_value x2599
  refine Agree.ite ?_ ?_
  · refine State.debugAccess_touch (sub_trans (by decide) hmm) ?_
    exact h2600
  · exact h2600

theorem State.readReg_touch {MM : Nat} {so : State} {s : Sys2Proof.Machine.State} {q : Sys2Proof.Requester} {r : Sys2Proof.Machine.Reg} {n : ℕ}
    (hmm : Machine.sub 0xfffffffffffffffffffffffffffffffffffffffffffffffffffffffffffffffffffffffffffffffffffffffffffffffffffffffffffffff000000fffffffffc MM = true) (hp2 : MM.testBit (64 + r.ctorIdx) = true) (hag : Agree MM so s) :
    Agree MM so (@State.readReg s q r n) := by
  unfold State.readReg
  refine State.access_touch (sub_trans (by decide) hmm) ?_
  exact hag

theorem State.softDone_touch {MM : Nat} {so : State} {s : Sys2Proof.Machine.State} {p : ℕ}
    (hmm : Machine.sub 0x40 MM = true) (hag : Agree MM so s) :
    Agree MM so (@State.softDone s p) := by
  unfold State.softDone
  refine Agree.set_softReset ?_ (sub_bit hmm (by decide)) _
  exact hag

theorem State.writeReg_touch {MM : Nat} {so : State} {s : Sys2Proof.Machine.State} {q : Sys2Proof.Requester} {r : Sys2Proof.Machine.Reg} {n : ℕ} {v : Sys2Proof.Word}
    (hmm : Machine.sub 0xfffffffffffffffffffffffffffffffffffffffffffffffffffffffffffffffffffffffffffffffffffffffffffffffffffffffffffffff000000fffffffffc MM = true) (hp2 : MM.testBit (64 + r.ctorIdx) = true) (hag : Agree MM so s) :
    Agree MM so (@State.writeReg s q r n v) := by
  unfold State.writeReg
  refine State.access_touch (sub_trans (by decide) hmm) ?_
  exact hag

end Sys2Proof.Machine
end

