-- ==== Sys2Proof/Laws/Touch/LinkServe.lean ====
section
/-!
SUPPORT. What the functions of Machine/LinkServe.lean can touch: one lemma per function, its mask after `sub`.
-/

namespace Sys2Proof.Machine

theorem State.mendUnmapped_touch {MM : Nat} {so : State} {s : Sys2Proof.Machine.State} {p : ℕ} {w : Sys2Proof.Machine.Who} {pk : Sys2Proof.Machine.Packet} {wr : Bool}
    (hmm : Machine.sub 0x8000000000000000000000000000000000000000000000000000000001000000000000001c100000000002000200 MM = true) (hag : Agree MM so s) :
    Agree MM so (@State.mendUnmapped s p w pk wr) := by
  unfold State.mendUnmapped
  refine State.transNak_touch (sub_trans (by decide) hmm) ?_
  refine State.logBusErr_touch (sub_trans (by decide) hmm) ?_
  exact hag

theorem State.readRun_touch {MM : Nat} {so : State} {s : Sys2Proof.Machine.State} {q : Sys2Proof.Requester} {u2 : ℕ} {u3 : ℕ} {u4 : ℕ} {u5 : List Sys2Proof.Byte}
    (hmm : Machine.sub 0xfffffffffffffffffffffffffffffffffffffffffffffffffffffffffffffffffffffffffffffffffffffffffffffffffffffffffffffff00000040200002a0 MM = true) (hag : Agree MM so s) :
    AgreeP MM so (@State.readRun s q u2 u3 u4 u5) := by
  induction u2 generalizing s u3 u4 u5 with
  | zero => exact hag
  | succ k ih =>
    rw [State.readRun]
    have h0 : Agree MM so (s.checksOver (u3 / 0x1000)) := State.checksOver_touch (sub_trans (by decide) hmm) hag
    generalize s.checksOver (u3 / 0x1000) = t at h0 ⊢
    refine AgreeP.ite h0 ?_
    have h1 : AgreeP MM so (t.performRead (t.who q) 4 u3 (pageBase + u3)) :=
      State.performRead_touch (sub_trans (by decide) hmm) h0
    generalize t.performRead (t.who q) 4 u3 (pageBase + u3) = x at h1 ⊢
    obtain ⟨u, r⟩ := x
    cases r with
    | none => exact h1
    | ok v => exact ih h1
    | err c => exact h1

theorem State.readUnits_touch {MM : Nat} {so : State} {s : Sys2Proof.Machine.State} {p : ℕ} {w : Sys2Proof.Machine.Who} {u3 : ℕ} {u4 : ℕ} {u5 : ℕ} {u6 : List Sys2Proof.Byte}
    (hmm : Machine.sub 0x80043e000000000000000000000000000000000000800007c000000000000000000000000000000000000000001000000000000001c180000000000480208 MM = true) (hag : Agree MM so s) :
    AgreeP MM so (@State.readUnits s p w u3 u4 u5 u6) := by
  induction u3 generalizing s u4 u5 u6 with
  | zero => exact hag
  | succ k ih =>
    rw [State.readUnits]
    have h0 : AgreeP MM so (s.memAsk (8 + p) 3 u4 8 w.secure) := State.memAsk_touch (sub_trans (by decide) hmm) hag
    generalize s.memAsk (8 + p) 3 u4 8 w.secure = r at h0 ⊢
    refine AgreeP.ite h0 ?_
    have h1 : AgreeP MM so (r.1.fabRead u4 8 w.src 0 w.secure) := State.fabRead_touch (sub_trans (by decide) hmm) h0
    generalize r.1.fabRead u4 8 w.src 0 w.secure = q at h1 ⊢
    obtain ⟨u, x⟩ := q
    cases x with
    | error c => exact h1
    | ok bs => exact ih h1

theorem State.runAnswer_touch {MM : Nat} {so : State} {s : Sys2Proof.Machine.State} {p : ℕ} {pk : Sys2Proof.Machine.Packet} {unit : ℕ} {x : Except (ℕ × ℕ) (List Sys2Proof.Byte)}
    (hmm : Machine.sub 0x80000000000000000000000000000000000000000000000000000000000000000000000000000000000002000000 MM = true) (hag : Agree MM so s) :
    Agree MM so (@State.runAnswer s p pk unit x) := by
  unfold State.runAnswer
  split
  · refine State.respond_touch (sub_trans (by decide) hmm) ?_
    exact hag
  · refine State.transNak_touch (sub_trans (by decide) hmm) ?_
    exact hag

theorem State.runEnd_touch {MM : Nat} {so : State} {s : Sys2Proof.Machine.State} {p : ℕ} {pk : Sys2Proof.Machine.Packet} {unit : ℕ} {x : Sys2Proof.Machine.RegRun}
    (hmm : Machine.sub 0x80000000000000000000000000000000000000000000000000000000000000000000000000000000000002000000 MM = true) (hag : Agree MM so s) :
    Agree MM so (@State.runEnd s p pk unit x) := by
  unfold State.runEnd
  split
  · exact hag
  · rename_i heq
    have h3165 := State.takeInbox_touch (MM := MM) (so := so) (sub_trans (by decide) hmm) (by
      exact hag
      ) _ _ heq
    split
    · refine State.setPort_touch (sub_trans (by decide) hmm) ?_
      exact hag
    · refine State.runAnswer_touch (sub_trans (by decide) hmm) ?_
      exact h3165
    · refine State.runAnswer_touch (sub_trans (by decide) hmm) ?_
      exact h3165

theorem State.writeUnits_touch {MM : Nat} {so : State} {s : Sys2Proof.Machine.State} {p : ℕ} {w : Sys2Proof.Machine.Who} {u3 : ℕ} {u4 : List Sys2Proof.Byte} {u5 : ℕ} {u6 : ℕ}
    (hmm : Machine.sub 0x43e000000000000000000000000000000000400000007c000000000000000000000000000000000000000001840000000000001c18000000000048020c MM = true) (hag : Agree MM so s) :
    AgreeP MM so (@State.writeUnits s p w u3 u4 u5 u6) := by
  induction u3 generalizing s u4 u5 u6 with
  | zero => exact hag
  | succ k ih =>
    rw [State.writeUnits]
    refine AgreeP.ite hag ?_
    extract_lets +onlyGivenNames -merge -useContext -underBinder n r
    clear_value n
    have h0 : AgreeP MM so r := State.memAsk_touch (sub_trans (by decide) hmm) hag
    clear_value r
    refine AgreeP.ite h0 ?_
    have h1 : AgreeP MM so (r.1.fabWrite u5 (u4.take n) w.src w.secure) :=
      State.fabWrite_touch (sub_trans (by decide) hmm) h0
    generalize r.1.fabWrite u5 (u4.take n) w.src w.secure = q at h1 ⊢
    obtain ⟨u, x⟩ := q
    cases x with
    | zero => exact ih h1
    | succ c => exact h1

theorem State.serveMem_touch {MM : Nat} {so : State} {s : Sys2Proof.Machine.State} {p : ℕ} {w : Sys2Proof.Machine.Who} {pk : Sys2Proof.Machine.Packet}
    (hmm : Machine.sub 0x80043e000000000000000000000000000800000400800007c000000000000000000000000000000000000000001840000000000001c18000000000248020c MM = true) (hag : Agree MM so s) :
    Agree MM so (@State.serveMem s p w pk) := by
  unfold State.serveMem
  extract_lets +onlyGivenNames -merge -useContext -underBinder x3210
  try clear_value x3210
  split
  · extract_lets +onlyGivenNames -merge -useContext -underBinder x3211
    try clear_value x3211
    split
    · rename_i heq
      have h3212 := AgreeP.of_eq (M := MM) (s0 := so) heq (by
        refine AgreeP.ite ?_ ?_
        · refine State.readUnits_touch (sub_trans (by decide) hmm) ?_
          exact hag
        · refine State.writeUnits_touch (sub_trans (by decide) hmm) ?_
          exact hag
        )
      refine State.runEnd_touch (sub_trans (by decide) hmm) ?_
      exact h3212

theorem State.writeRun_touch {MM : Nat} {so : State} {s : Sys2Proof.Machine.State} {q : Sys2Proof.Requester} {u2 : List ℕ} {u3 : ℕ} {u4 : ℕ}
    (hmm : Machine.sub 0xfffffffffffffffffffffffffffffffffffffffffffffffffffffffffffffffffffffffffffffffffffffffffffffffffffffffffffffff000000fffffffe7c MM = true) (hag : Agree MM so s) :
    AgreeP MM so (@State.writeRun s q u2 u3 u4) := by
  induction u2 generalizing s u3 u4 with
  | nil => exact hag
  | cons v vs ih =>
    rw [State.writeRun]
    have h0 : Agree MM so (s.checksOver (u3 / 0x1000)) := State.checksOver_touch (sub_trans (by decide) hmm) hag
    generalize s.checksOver (u3 / 0x1000) = t at h0 ⊢
    refine AgreeP.ite h0 ?_
    have h1 : AgreeP MM so (t.performWrite (t.who q) 4 u3 (pageBase + u3) (BitVec.ofNat 32 v)) :=
      State.performWrite_touch (sub_trans (by decide) hmm) h0
    generalize t.performWrite (t.who q) 4 u3 (pageBase + u3) (BitVec.ofNat 32 v) = x at h1 ⊢
    obtain ⟨u, r⟩ := x
    cases r with
    | none => exact ih h1
    | ok v => exact ih h1
    | err c => exact h1

theorem State.serveRegs_touch {MM : Nat} {so : State} {s : Sys2Proof.Machine.State} {p : ℕ} {pk : Sys2Proof.Machine.Packet}
    (hmm : Machine.sub 0xfffffffffffffffffffffffffffffffffffffffffffffffffffffffffffffffffffffffffffffffffffffffffffffffffffffffffffffff000000fffffffefc MM = true) (hag : Agree MM so s) :
    Agree MM so (@State.serveRegs s p pk) := by
  unfold State.serveRegs
  extract_lets +onlyGivenNames -merge -useContext -underBinder x3213
  try clear_value x3213
  extract_lets +onlyGivenNames -merge -useContext -underBinder x3214
  try clear_value x3214
  split
  · extract_lets +onlyGivenNames -merge -useContext -underBinder x3215
    try clear_value x3215
    split
    · rename_i heq
      have h3216 := AgreeP.of_eq (M := MM) (s0 := so) heq (by
        refine AgreeP.ite ?_ ?_
        · refine State.readRun_touch (sub_trans (by decide) hmm) ?_
          exact hag
        · refine State.writeRun_touch (sub_trans (by decide) hmm) ?_
          exact hag
        )
      refine State.runEnd_touch (sub_trans (by decide) hmm) ?_
      exact h3216

theorem State.serveRun_touch {MM : Nat} {so : State} {s : Sys2Proof.Machine.State} {p : ℕ} {w : Sys2Proof.Machine.Who} {pk : Sys2Proof.Machine.Packet}
    (hmm : Machine.sub 0x8000000000000000000000000000000000000000000000000000000001000000000000001c100000000802000200 MM = true) (hag : Agree MM so s) :
    Agree MM so (@State.serveRun s p w pk) := by
  unfold State.serveRun
  extract_lets +onlyGivenNames -merge -useContext -underBinder x3217
  try clear_value x3217
  split
  · refine Agree.ite ?_ ?_
    · refine State.transNak_touch (sub_trans (by decide) hmm) ?_
      exact hag
    · refine State.mendUnmapped_touch (sub_trans (by decide) hmm) ?_
      exact hag
  · refine Agree.ite ?_ ?_
    · refine State.transNak_touch (sub_trans (by decide) hmm) ?_
      exact hag
    · refine State.mendUnmapped_touch (sub_trans (by decide) hmm) ?_
      exact hag
  · refine Agree.ite ?_ ?_
    · refine State.transNak_touch (sub_trans (by decide) hmm) ?_
      exact hag
    · refine Agree.ite ?_ ?_
      · refine State.runAnswer_touch (sub_trans (by decide) hmm) ?_
        refine State.mendRead_touch (sub_trans (by decide) hmm) ?_
        exact hag
      · refine State.mendUnmapped_touch (sub_trans (by decide) hmm) ?_
        exact hag
  · refine Agree.ite ?_ ?_
    · refine State.transNak_touch (sub_trans (by decide) hmm) ?_
      exact hag
    · refine Agree.ite ?_ ?_
      · refine State.runAnswer_touch (sub_trans (by decide) hmm) ?_
        refine State.mendWindow_touch (sub_trans (by decide) hmm) ?_
        exact hag
      · refine State.mendUnmapped_touch (sub_trans (by decide) hmm) ?_
        exact hag

theorem State.serveRequest_touch {MM : Nat} {so : State} {s : Sys2Proof.Machine.State} {p : ℕ} {typ : ℕ}
    (hmm : Machine.sub 0xfffffffffffffffffffffffffffffffffffffffffffffffffffffffffffffffffffffffffffffffffffffffffffffffffffffffffffffff000000fffffffefc MM = true) (hag : Agree MM so s) :
    Agree MM so (@State.serveRequest s p typ) := by
  unfold State.serveRequest
  extract_lets +onlyGivenNames -merge -useContext -underBinder x3218
  try clear_value x3218
  refine Agree.ite ?_ ?_
  · exact hag
  · split
    · exact hag
    · rename_i heq
      have h3219 := State.takeInbox_touch (MM := MM) (so := so) (sub_trans (by decide) hmm) (by
        exact hag
        ) _ _ heq
      refine Agree.ite ?_ ?_
      · refine State.transNak_touch (sub_trans (by decide) hmm) ?_
        exact h3219
      · refine Agree.ite ?_ ?_
        · refine State.serveRegs_touch (sub_trans (by decide) hmm) ?_
          exact hag
        · refine Agree.ite ?_ ?_
          · refine State.serveMem_touch (sub_trans (by decide) hmm) ?_
            exact hag
          · refine State.serveRun_touch (sub_trans (by decide) hmm) ?_
            exact h3219

end Sys2Proof.Machine
end

