-- ==== Sys2Proof/Laws/Touch/Kiltur.lean ====
section
/-!
SUPPORT. What the functions of Machine/Kiltur.lean can touch: one lemma per function, its mask after `sub`.
-/

namespace Sys2Proof.Machine

theorem State.coreEcc_touch {MM : Nat} {so : State} {s : Sys2Proof.Machine.State} {x : ℕ} {a : ℕ} {n : ℕ}
    (hmm : Machine.sub 0x80000000000000000000000000000000000000000000000000000000000000000000000000000000000000000010000000000000000100000000000000200 MM = true) (hag : Agree MM so s) :
    AgreeP MM so (@State.coreEcc s x a n) := by
  unfold State.coreEcc
  extract_lets +onlyGivenNames -merge -useContext -underBinder x1959
  have h1960 : AgreeP MM so (x1959) := by
    subst x1959
    refine State.privRead_touch (sub_trans (by decide) hmm) ?_
    exact hag
  try clear_value x1959
  refine AgreeP.ite ?_ ?_
  · exact h1960
  · refine AgreeP.mk ?_
    refine State.irq_touch (sub_trans (by decide) hmm) ?_
    refine Agree.faddSat ?_ (sub_bit hmm (by decide)) _ _
    refine AgreeP.fst ?_
    exact h1960

theorem State.loadFrom_touch {MM : Nat} {so : State} {s : Sys2Proof.Machine.State} {x : ℕ} {a : ℕ} {n : ℕ} {tgt : Sys2Proof.Machine.CoreTarget}
    (hmm : Machine.sub 0xfffffffffffffffffffffffffffffffffffffffffffffffffffffffffffffffffffffffffffffffffffffffffffffffffffffffffffffff00000000204802a8 MM = true) (hag : Agree MM so s) :
    AgreeP MM so (@State.loadFrom s x a n tgt) := by
  unfold State.loadFrom
  extract_lets +onlyGivenNames -merge -useContext -underBinder x1961
  try clear_value x1961
  split
  · extract_lets +onlyGivenNames -merge -useContext -underBinder x1962
    have h1963 : AgreeP MM so (x1962) := by
      subst x1962
      refine State.coreEcc_touch (sub_trans (by decide) hmm) ?_
      exact hag
    try clear_value x1962
    refine AgreeP.mk ?_
    refine AgreeP.fst ?_
    exact h1963
  · refine AgreeP.ite ?_ ?_
    · refine AgreeP.mk ?_
      exact hag
    · extract_lets +onlyGivenNames -merge -useContext -underBinder x1964
      have h1965 : AgreeP MM so (x1964) := by
        subst x1964
        refine State.performRead_touch (sub_trans (by decide) hmm) ?_
        exact hag
      try clear_value x1964
      refine AgreeP.mk ?_
      refine AgreeP.fst ?_
      exact h1965
  · extract_lets +onlyGivenNames -merge -useContext -underBinder x1966
    have h1967 : AgreeP MM so (x1966) := by
      subst x1966
      refine State.memAsk_touch (sub_trans (by decide) hmm) ?_
      exact hag
    try clear_value x1966
    refine AgreeP.ite ?_ ?_
    · refine AgreeP.mk ?_
      refine AgreeP.fst ?_
      exact h1967
    · extract_lets +onlyGivenNames -merge -useContext -underBinder x1968
      have h1969 : AgreeP MM so (x1968) := by
        subst x1968
        refine State.fabRead_touch (sub_trans (by decide) hmm) ?_
        refine AgreeP.fst ?_
        exact h1967
      try clear_value x1968
      refine AgreeP.mk ?_
      refine AgreeP.fst ?_
      exact h1969
  · refine AgreeP.mk ?_
    refine State.logBusErr_touch (sub_trans (by decide) hmm) ?_
    exact hag

theorem State.coreLoad_touch {MM : Nat} {so : State} {s : Sys2Proof.Machine.State} {x : ℕ} {a : ℕ} {n : ℕ}
    (hmm : Machine.sub 0xfffffffffffffffffffffffffffffffffffffffffffffffffffffffffffffffffffffffffffffffffffffffffffffffffffffffffffffff00000000204802a8 MM = true) (hag : Agree MM so s) :
    AgreeP MM so (@State.coreLoad s x a n) := by
  unfold State.coreLoad
  refine State.loadFrom_touch (sub_trans (by decide) hmm) ?_
  exact hag

theorem State.storeTo_touch {MM : Nat} {so : State} {s : Sys2Proof.Machine.State} {t : Sys2Proof.Machine.State} {x : ℕ} {a : ℕ} {n : ℕ} {v : Sys2Proof.Word} {tgt : Sys2Proof.Machine.CoreTarget}
    (hmm : Machine.sub 0xfffffffffffffffffffffffffffffffffffffffffffffffffffffffffffffffffffffffffffffffffffffffffffffffffffffffffffffff000000fffffffe7c MM = true) (hag : Agree MM so t) :
    AgreeP MM so (@State.storeTo s t x a n v tgt) := by
  unfold State.storeTo
  extract_lets +onlyGivenNames -merge -useContext -underBinder x1970
  try clear_value x1970
  split
  · refine AgreeP.mk ?_
    refine State.putVal_touch (sub_trans (by decide) hmm) ?_
    refine State.sramWritten_touch (sub_trans (by decide) hmm) ?_
    exact hag
  · refine AgreeP.ite ?_ ?_
    · refine AgreeP.mk ?_
      exact hag
    · extract_lets +onlyGivenNames -merge -useContext -underBinder x1971
      have h1972 : AgreeP MM so (x1971) := by
        subst x1971
        refine State.performWrite_touch (sub_trans (by decide) hmm) ?_
        exact hag
      try clear_value x1971
      refine AgreeP.mk ?_
      refine AgreeP.fst ?_
      exact h1972
  · extract_lets +onlyGivenNames -merge -useContext -underBinder x1973
    have h1974 : AgreeP MM so (x1973) := by
      subst x1973
      refine State.memAsk_touch (sub_trans (by decide) hmm) ?_
      exact hag
    try clear_value x1973
    refine AgreeP.ite ?_ ?_
    · refine AgreeP.mk ?_
      refine AgreeP.fst ?_
      exact h1974
    · extract_lets +onlyGivenNames -merge -useContext -underBinder x1975
      have h1976 : AgreeP MM so (x1975) := by
        subst x1975
        refine State.fabWrite_touch (sub_trans (by decide) hmm) ?_
        refine AgreeP.fst ?_
        exact h1974
      try clear_value x1975
      refine AgreeP.mk ?_
      refine AgreeP.fst ?_
      exact h1976
  · refine AgreeP.mk ?_
    refine State.logBusErr_touch (sub_trans (by decide) hmm) ?_
    exact hag

theorem State.coreStore_touch {MM : Nat} {so : State} {s : Sys2Proof.Machine.State} {t : Sys2Proof.Machine.State} {x : ℕ} {a : ℕ} {n : ℕ} {v : Sys2Proof.Word}
    (hmm : Machine.sub 0xfffffffffffffffffffffffffffffffffffffffffffffffffffffffffffffffffffffffffffffffffffffffffffffffffffffffffffffff000000fffffffe7c MM = true) (hag : Agree MM so t) :
    AgreeP MM so (@State.coreStore s t x a n v) := by
  unfold State.coreStore
  refine State.storeTo_touch (sub_trans (by decide) hmm) ?_
  exact hag

theorem State.dualEcc_touch {MM : Nat} {so : State} {s : Sys2Proof.Machine.State} {x : ℕ} {a : ℕ} {read : Bool}
    (hmm : Machine.sub 0x80000000000000000000000000000000000000000000000000000000000000000000000000000000000000000010000000000000000100000000000000200 MM = true) (hag : Agree MM so s) :
    AgreeP MM so (@State.dualEcc s x a read) := by
  unfold State.dualEcc
  refine AgreeP.ite ?_ ?_
  · refine State.coreEcc_touch (sub_trans (by decide) hmm) ?_
    exact hag
  · refine AgreeP.mk ?_
    exact hag

theorem State.fetch_touch {MM : Nat} {so : State} {s : Sys2Proof.Machine.State} {x : ℕ}
    (hmm : Machine.sub 0x80000000000000000000000000000000000000000000000000000000000000000000000000000000000000000010000000000000000100000000000000200 MM = true) (hag : Agree MM so s) :
    AgreeP MM so (@State.fetch s x) := by
  unfold State.fetch
  split
  · refine AgreeP.mk ?_
    exact hag
  · extract_lets +onlyGivenNames -merge -useContext -underBinder x2417
    try clear_value x2417
    refine AgreeP.ite ?_ ?_
    · refine AgreeP.mk ?_
      exact hag
    · extract_lets +onlyGivenNames -merge -useContext -underBinder x2418
      have h2419 : AgreeP MM so (x2418) := by
        subst x2418
        refine State.coreEcc_touch (sub_trans (by decide) hmm) ?_
        exact hag
      try clear_value x2418
      refine AgreeP.mk ?_
      refine AgreeP.fst ?_
      exact h2419

theorem State.kRaise_touch {MM : Nat} {so : State} {s : Sys2Proof.Machine.State} {x : ℕ} {code : ℕ} {detail : ℕ} {input : ℕ}
    (hmm : Machine.sub 0x8000000 MM = true) (hag : Agree MM so s) :
    Agree MM so (@State.kRaise s x code detail input) := by
  unfold State.kRaise
  refine State.setCore_touch (sub_trans (by decide) hmm) ?_
  exact hag

theorem State.kBoundary_touch {MM : Nat} {so : State} {s : Sys2Proof.Machine.State} {x : ℕ} {run : Bool}
    (hmm : Machine.sub 0x10000000000000000100000000008000200 MM = true) (hag : Agree MM so s) :
    Agree MM so (@State.kBoundary s x run) := by
  unfold State.kBoundary
  refine Agree.ite ?_ ?_
  · exact hag
  · refine State.coreStopped_touch (sub_trans (by decide) hmm) ?_
    exact hag

theorem State.waitBegin_touch {MM : Nat} {so : State} {s : Sys2Proof.Machine.State} {x : ℕ}
    (hmm : Machine.sub 0x200 MM = true) (hag : Agree MM so s) :
    Agree MM so (@State.waitBegin s x) := by
  unfold State.waitBegin
  refine Agree.set_router ?_ (sub_bit hmm (by decide)) _
  exact hag

theorem State.kEnd_touch {MM : Nat} {so : State} {t : Sys2Proof.Machine.State} {x : ℕ} {c : Sys2Proof.Machine.Core} {w : Sys2Proof.Word} {e : Sys2Proof.Machine.KEnd}
    (hmm : Machine.sub 0xfffffffffffffffffffffffffffffffffffffffffffffffffffffffffffffffffffffffffffffffffffffffffffffffffffffffffffffff000000fffffffe7c MM = true) (hag : Agree MM so t) :
    Agree MM so (@State.kEnd t x c w e) := by
  unfold State.kEnd
  split
  · refine State.kRaise_touch (sub_trans (by decide) hmm) ?_
    exact hag
  · refine State.setCore_touch (sub_trans (by decide) hmm) ?_
    refine Agree.ite ?_ ?_
    · refine State.waitBegin_touch (sub_trans (by decide) hmm) ?_
      exact hag
    · exact hag
  · split
    · rename_i heq
      have h2601 := AgreeP.of_eq (M := MM) (s0 := so) heq (by
        refine State.coreStore_touch (sub_trans (by decide) hmm) ?_
        refine State.setCore_touch (sub_trans (by decide) hmm) ?_
        exact hag
        )
      exact h2601
    · rename_i heq
      have h2602 := AgreeP.of_eq (M := MM) (s0 := so) heq (by
        refine State.coreStore_touch (sub_trans (by decide) hmm) ?_
        refine State.setCore_touch (sub_trans (by decide) hmm) ?_
        exact hag
        )
      refine State.kRaise_touch (sub_trans (by decide) hmm) ?_
      refine State.setCore_touch (sub_trans (by decide) hmm) ?_
      exact h2602
    · rename_i heq
      have h2603 := AgreeP.of_eq (M := MM) (s0 := so) heq (by
        refine State.coreStore_touch (sub_trans (by decide) hmm) ?_
        refine State.setCore_touch (sub_trans (by decide) hmm) ?_
        exact hag
        )
      refine State.setCore_touch (sub_trans (by decide) hmm) ?_
      exact h2603
  · refine State.setCore_touch (sub_trans (by decide) hmm) ?_
    exact hag
  · refine State.setCore_touch (sub_trans (by decide) hmm) ?_
    exact hag

theorem State.kIssue_touch {MM : Nat} {so : State} {s : Sys2Proof.Machine.State} {x : ℕ} {is : Sys2Proof.Word → Bool} {details : Sys2Proof.Machine.Core → Sys2Proof.Word → List ℕ} {f : Sys2Proof.Machine.State → Sys2Proof.Machine.Core → Sys2Proof.Word → Sys2Proof.Machine.State × Sys2Proof.Machine.KEnd}
    (hmm : Machine.sub 0xfffffffffffffffffffffffffffffffffffffffffffffffffffffffffffffffffffffffffffffffffffffffffffffffffffffffffffffff000000fffffffe7c MM = true) (hf4 : ∀ tt v1 v2, Agree MM so tt → AgreeP MM so (f tt v1 v2)) (hag : Agree MM so s) :
    Agree MM so (@State.kIssue s x is details f) := by
  unfold State.kIssue
  refine Agree.ite ?_ ?_
  · exact hag
  · split
    · exact hag
    · rename_i heq
      have h2604 := AgreeP.of_eq (M := MM) (s0 := so) heq (by
        refine State.fetch_touch (sub_trans (by decide) hmm) ?_
        exact hag
        )
      extract_lets +onlyGivenNames -merge -useContext -underBinder x2605
      try clear_value x2605
      refine Agree.ite ?_ ?_
      · exact hag
      · split
        · refine State.kRaise_touch (sub_trans (by decide) hmm) ?_
          exact h2604
        · extract_lets +onlyGivenNames -merge -useContext -underBinder x2606
          have h2607 : AgreeP MM so (x2606) := by
            subst x2606
            refine hf4 _ _ _ ?_
            exact h2604
          try clear_value x2606
          refine State.kBoundary_touch (sub_trans (by decide) hmm) ?_
          refine State.kEnd_touch (sub_trans (by decide) hmm) ?_
          refine AgreeP.fst ?_
          exact h2607

theorem State.kAcc_touch {MM : Nat} {so : State} {s : Sys2Proof.Machine.State} {x : ℕ} {fn : ℕ} {bad : Sys2Proof.Word → Bool} {f : Sys2Proof.Machine.Core → Sys2Proof.Word → BitVec 72 → BitVec 72}
    (hmm : Machine.sub 0xfffffffffffffffffffffffffffffffffffffffffffffffffffffffffffffffffffffffffffffffffffffffffffffffffffffffffffffff000000fffffffe7c MM = true) (hag : Agree MM so s) :
    Agree MM so (@State.kAcc s x fn bad f) := by
  unfold State.kAcc
  refine State.kIssue_touch (sub_trans (by decide) hmm) (fun t2608 _ _ h2609 => ?_) ?_
  · refine AgreeP.mk ?_
    exact h2609
  · exact hag

theorem State.kAform_touch {MM : Nat} {so : State} {s : Sys2Proof.Machine.State} {x : ℕ} {major : ℕ} {fn : ℕ} {dist : ℕ} {f : Sys2Proof.Word → Sys2Proof.Word → Sys2Proof.Word}
    (hmm : Machine.sub 0xfffffffffffffffffffffffffffffffffffffffffffffffffffffffffffffffffffffffffffffffffffffffffffffffffffffffffffffff000000fffffffe7c MM = true) (hag : Agree MM so s) :
    Agree MM so (@State.kAform s x major fn dist f) := by
  unfold State.kAform
  refine State.kIssue_touch (sub_trans (by decide) hmm) (fun t2610 _ _ h2611 => ?_) ?_
  · refine AgreeP.mk ?_
    exact h2611
  · exact hag

theorem State.kBranch_touch {MM : Nat} {so : State} {s : Sys2Proof.Machine.State} {x : ℕ} {major : ℕ} {taken : Sys2Proof.Word → Sys2Proof.Word → Bool}
    (hmm : Machine.sub 0xfffffffffffffffffffffffffffffffffffffffffffffffffffffffffffffffffffffffffffffffffffffffffffffffffffffffffffffff000000fffffffe7c MM = true) (hag : Agree MM so s) :
    Agree MM so (@State.kBranch s x major taken) := by
  unfold State.kBranch
  refine State.kIssue_touch (sub_trans (by decide) hmm) (fun t2612 _ _ h2613 => ?_) ?_
  · extract_lets +onlyGivenNames -merge -useContext -underBinder x2614
    try clear_value x2614
    refine AgreeP.mk ?_
    exact h2613
  · exact hag

theorem State.kDual_touch {MM : Nat} {so : State} {s : Sys2Proof.Machine.State} {x : ℕ} {op : ℕ} {f : BitVec 72 → BitVec 72 → BitVec 72}
    (hmm : Machine.sub 0xfffffffffffffffffffffffffffffffffffffffffffffffffffffffffffffffffffffffffffffffffffffffffffffffffffffffffffffff000000fffffffe7c MM = true) (hag : Agree MM so s) :
    Agree MM so (@State.kDual s x op f) := by
  unfold State.kDual
  refine State.kIssue_touch (sub_trans (by decide) hmm) (fun t2615 _ _ h2616 => ?_) ?_
  · extract_lets +onlyGivenNames -merge -useContext -underBinder x2617
    try clear_value x2617
    extract_lets +onlyGivenNames -merge -useContext -underBinder x2618
    try clear_value x2618
    extract_lets +onlyGivenNames -merge -useContext -underBinder x2619
    try clear_value x2619
    extract_lets +onlyGivenNames -merge -useContext -underBinder x2620
    try clear_value x2620
    extract_lets +onlyGivenNames -merge -useContext -underBinder x2621
    try clear_value x2621
    split
    · rename_i heq
      have h2622 := AgreeP.of_eq (M := MM) (s0 := so) heq (by
        refine State.dualEcc_touch (sub_trans (by decide) hmm) ?_
        exact h2616
        )
      split
      · rename_i heq
        have h2623 := AgreeP.of_eq (M := MM) (s0 := so) heq (by
          refine State.dualEcc_touch (sub_trans (by decide) hmm) ?_
          exact h2622
          )
        refine AgreeP.ite ?_ ?_
        · refine AgreeP.mk ?_
          exact h2623
        · refine AgreeP.ite ?_ ?_
          · refine AgreeP.mk ?_
            exact h2623
          · refine AgreeP.ite ?_ ?_
            · refine AgreeP.mk ?_
              exact h2623
            · refine AgreeP.ite ?_ ?_
              · refine AgreeP.mk ?_
                exact h2623
              · extract_lets +onlyGivenNames -merge -useContext -underBinder x2624
                try clear_value x2624
                extract_lets +onlyGivenNames -merge -useContext -underBinder x2625
                try clear_value x2625
                extract_lets +onlyGivenNames -merge -useContext -underBinder x2626
                try clear_value x2626
                extract_lets +onlyGivenNames -merge -useContext -underBinder x2627
                try clear_value x2627
                refine AgreeP.mk ?_
                exact h2623
  · exact hag

theorem State.kFetchError_touch {MM : Nat} {so : State} {s : Sys2Proof.Machine.State} {x : ℕ}
    (hmm : Machine.sub 0x80000000000000000000000000000000000000000000000000000000000000000000000000000000000000000010000000000000000100000000008000200 MM = true) (hag : Agree MM so s) :
    Agree MM so (@State.kFetchError s x) := by
  unfold State.kFetchError
  refine Agree.ite ?_ ?_
  · exact hag
  · split
    · rename_i heq
      have h2628 := AgreeP.of_eq (M := MM) (s0 := so) heq (by
        refine State.fetch_touch (sub_trans (by decide) hmm) ?_
        exact hag
        )
      refine State.kRaise_touch (sub_trans (by decide) hmm) ?_
      exact h2628
    · exact hag

theorem State.kFromAcc_touch {MM : Nat} {so : State} {s : Sys2Proof.Machine.State} {x : ℕ} {fn : ℕ} {bad : Sys2Proof.Word → Bool} {f : Sys2Proof.Word → BitVec 72 → Sys2Proof.Word}
    (hmm : Machine.sub 0xfffffffffffffffffffffffffffffffffffffffffffffffffffffffffffffffffffffffffffffffffffffffffffffffffffffffffffffff000000fffffffe7c MM = true) (hag : Agree MM so s) :
    Agree MM so (@State.kFromAcc s x fn bad f) := by
  unfold State.kFromAcc
  refine State.kIssue_touch (sub_trans (by decide) hmm) (fun t2629 _ _ h2630 => ?_) ?_
  · refine AgreeP.mk ?_
    exact h2630
  · exact hag

theorem State.kIllegal_touch {MM : Nat} {so : State} {s : Sys2Proof.Machine.State} {x : ℕ}
    (hmm : Machine.sub 0xfffffffffffffffffffffffffffffffffffffffffffffffffffffffffffffffffffffffffffffffffffffffffffffffffffffffffffffff000000fffffffe7c MM = true) (hag : Agree MM so s) :
    Agree MM so (@State.kIllegal s x) := by
  unfold State.kIllegal
  extract_lets +onlyGivenNames -merge -useContext -underBinder x2631
  try clear_value x2631
  refine State.kIssue_touch (sub_trans (by decide) hmm) (fun t2632 _ _ h2633 => ?_) ?_
  · refine AgreeP.mk ?_
    exact h2633
  · exact hag

theorem State.kImm_touch {MM : Nat} {so : State} {s : Sys2Proof.Machine.State} {x : ℕ} {major : ℕ} {bad : Sys2Proof.Word → Bool} {f : Sys2Proof.Word → Sys2Proof.Word → Sys2Proof.Word}
    (hmm : Machine.sub 0xfffffffffffffffffffffffffffffffffffffffffffffffffffffffffffffffffffffffffffffffffffffffffffffffffffffffffffffff000000fffffffe7c MM = true) (hag : Agree MM so s) :
    Agree MM so (@State.kImm s x major bad f) := by
  unfold State.kImm
  refine State.kIssue_touch (sub_trans (by decide) hmm) (fun t2634 _ _ h2635 => ?_) ?_
  · refine AgreeP.mk ?_
    exact h2635
  · exact hag

theorem State.kInterrupt_touch {MM : Nat} {so : State} {s : Sys2Proof.Machine.State} {x : ℕ}
    (hmm : Machine.sub 0x8000000 MM = true) (hag : Agree MM so s) :
    Agree MM so (@State.kInterrupt s x) := by
  unfold State.kInterrupt
  refine Agree.ite ?_ ?_
  · exact hag
  · split
    · refine State.kRaise_touch (sub_trans (by decide) hmm) ?_
      exact hag
    · exact hag

theorem State.kLoad_touch {MM : Nat} {so : State} {s : Sys2Proof.Machine.State} {x : ℕ} {major : ℕ} {n : ℕ} {ext : ℕ → Sys2Proof.Word}
    (hmm : Machine.sub 0xfffffffffffffffffffffffffffffffffffffffffffffffffffffffffffffffffffffffffffffffffffffffffffffffffffffffffffffff000000fffffffefc MM = true) (hag : Agree MM so s) :
    Agree MM so (@State.kLoad s x major n ext) := by
  unfold State.kLoad
  refine State.kIssue_touch (sub_trans (by decide) hmm) (fun t2636 _ _ h2637 => ?_) ?_
  · split
    · refine AgreeP.ite ?_ ?_
      · refine AgreeP.mk ?_
        exact h2637
      · split
        · rename_i heq
          have h2638 := AgreeP.of_eq (M := MM) (s0 := so) heq (by
            refine State.coreLoad_touch (sub_trans (by decide) hmm) ?_
            exact h2637
            )
          refine AgreeP.mk ?_
          exact h2638
        · rename_i heq
          have h2639 := AgreeP.of_eq (M := MM) (s0 := so) heq (by
            refine State.coreLoad_touch (sub_trans (by decide) hmm) ?_
            exact h2637
            )
          refine AgreeP.mk ?_
          exact h2639
        · rename_i heq
          have h2640 := AgreeP.of_eq (M := MM) (s0 := so) heq (by
            refine State.coreLoad_touch (sub_trans (by decide) hmm) ?_
            exact h2637
            )
          refine AgreeP.mk ?_
          exact h2640
  · exact hag

theorem State.kLong_touch {MM : Nat} {so : State} {s : Sys2Proof.Machine.State} {x : ℕ} {major : ℕ} {link : Bool}
    (hmm : Machine.sub 0xfffffffffffffffffffffffffffffffffffffffffffffffffffffffffffffffffffffffffffffffffffffffffffffffffffffffffffffff000000fffffffe7c MM = true) (hag : Agree MM so s) :
    Agree MM so (@State.kLong s x major link) := by
  unfold State.kLong
  refine State.kIssue_touch (sub_trans (by decide) hmm) (fun t2641 _ _ h2642 => ?_) ?_
  · extract_lets +onlyGivenNames -merge -useContext -underBinder x2643
    try clear_value x2643
    refine AgreeP.mk ?_
    exact h2642
  · exact hag

theorem State.kShift_touch {MM : Nat} {so : State} {s : Sys2Proof.Machine.State} {x : ℕ} {typ : ℕ} {f : Sys2Proof.Word → ℕ → Sys2Proof.Word}
    (hmm : Machine.sub 0xfffffffffffffffffffffffffffffffffffffffffffffffffffffffffffffffffffffffffffffffffffffffffffffffffffffffffffffff000000fffffffe7c MM = true) (hag : Agree MM so s) :
    Agree MM so (@State.kShift s x typ f) := by
  unfold State.kShift
  refine State.kIssue_touch (sub_trans (by decide) hmm) (fun t2655 _ _ h2656 => ?_) ?_
  · refine AgreeP.mk ?_
    exact h2656
  · exact hag

theorem State.kStore_touch {MM : Nat} {so : State} {s : Sys2Proof.Machine.State} {x : ℕ} {major : ℕ} {n : ℕ}
    (hmm : Machine.sub 0xfffffffffffffffffffffffffffffffffffffffffffffffffffffffffffffffffffffffffffffffffffffffffffffffffffffffffffffff000000fffffffe7c MM = true) (hag : Agree MM so s) :
    Agree MM so (@State.kStore s x major n) := by
  unfold State.kStore
  refine State.kIssue_touch (sub_trans (by decide) hmm) (fun t2657 _ _ h2658 => ?_) ?_
  · split
    · refine AgreeP.ite ?_ ?_
      · refine AgreeP.mk ?_
        exact h2658
      · refine AgreeP.mk ?_
        exact h2658
  · exact hag

theorem State.kSys_touch {MM : Nat} {so : State} {s : Sys2Proof.Machine.State} {x : ℕ} {fn : ℕ} {bad : Sys2Proof.Word → Bool} {details : Sys2Proof.Machine.Core → Sys2Proof.Word → List ℕ} {f : Sys2Proof.Machine.Core → Sys2Proof.Word → Sys2Proof.Machine.KEnd}
    (hmm : Machine.sub 0xfffffffffffffffffffffffffffffffffffffffffffffffffffffffffffffffffffffffffffffffffffffffffffffffffffffffffffffff000000fffffffe7c MM = true) (hag : Agree MM so s) :
    Agree MM so (@State.kSys s x fn bad details f) := by
  unfold State.kSys
  refine State.kIssue_touch (sub_trans (by decide) hmm) (fun t2659 _ _ h2660 => ?_) ?_
  · refine AgreeP.mk ?_
    exact h2660
  · exact hag

end Sys2Proof.Machine
end

