-- ==== Sys2Proof/Laws/Touch/EpochEdge.lean ====
section
/-!
SUPPORT. What the functions of Machine/EpochEdge.lean can touch: one lemma per function, its mask after `sub`.
-/

namespace Sys2Proof.Machine

theorem State.anglesStep_touch {MM : Nat} {so : State} {s : Sys2Proof.Machine.State} {num : ℕ} {t : ℕ}
    (hmm : Machine.sub 0xf0fe27800000001000000000000000018000000000000d200 MM = true) (hag : Agree MM so s) :
    Agree MM so (@State.anglesStep s num t) := by
  unfold State.anglesStep
  extract_lets +onlyGivenNames -merge -useContext -underBinder x1613
  try clear_value x1613
  extract_lets +onlyGivenNames -merge -useContext -underBinder x1614
  try clear_value x1614
  extract_lets +onlyGivenNames -merge -useContext -underBinder x1615
  have h1616 : Agree MM so x1615 := by
    subst x1615
    refine Agree.set_epoch ?_ (sub_bit hmm (by decide)) _
    exact hag
  try clear_value x1615
  refine Agree.forEach ?_ (fun y1617 t1618 h1619 => ?_) _
  · exact h1616
  · refine Agree.ite ?_ ?_
    · refine State.angStep_touch (sub_trans (by decide) hmm) ?_
      exact h1619
    · exact h1619

theorem State.beaconSeams_touch {MM : Nat} {so : State} {s : Sys2Proof.Machine.State} {num : ℕ} {t : ℕ} {phase : ℕ}
    (hmm : Machine.sub 0x400000000000000000000000000000000000000000000000000078000000010003800000000000100000000001021200 MM = true) (hag : Agree MM so s) :
    Agree MM so (@State.beaconSeams s num t phase) := by
  unfold State.beaconSeams
  extract_lets +onlyGivenNames -merge -useContext -underBinder x1762
  try clear_value x1762
  extract_lets +onlyGivenNames -merge -useContext -underBinder x1763
  try clear_value x1763
  extract_lets +onlyGivenNames -merge -useContext -underBinder x1764
  try clear_value x1764
  extract_lets +onlyGivenNames -merge -useContext -underBinder x1765
  have h1766 : Agree MM so x1765 := by
    subst x1765
    refine Agree.set_beacon ?_ (sub_bit hmm (by decide)) _
    exact hag
  try clear_value x1765
  refine Agree.ite ?_ ?_
  · exact h1766
  · refine Agree.forEach ?_ (fun y1767 t1768 h1769 => ?_) _
    · exact h1766
    · extract_lets +onlyGivenNames -merge -useContext -underBinder x1770
      try clear_value x1770
      extract_lets +onlyGivenNames -merge -useContext -underBinder x1771
      have h1772 : Agree MM so x1771 := by
        subst x1771
        refine Agree.ite ?_ ?_
        · refine State.irq_touch (sub_trans (by decide) hmm) ?_
          refine Agree.fsetB ?_ (sub_bit hmm (by decide)) _ _
          exact h1769
        · exact h1769
      try clear_value x1771
      extract_lets +onlyGivenNames -merge -useContext -underBinder x1773
      try clear_value x1773
      extract_lets +onlyGivenNames -merge -useContext -underBinder x1774
      have h1775 : Agree MM so x1774 := by
        subst x1774
        refine State.raiseSeam_touch (sub_trans (by decide) hmm) ?_
        exact h1772
      try clear_value x1774
      refine Agree.ite ?_ ?_
      · refine State.measEvent_touch (sub_trans (by decide) hmm) ?_
        exact h1775
      · exact h1775

theorem State.edgeStart_touch {MM : Nat} {so : State} {s : Sys2Proof.Machine.State} {t : ℕ} {num : ℕ}
    (hmm : Machine.sub 0x900000000000000000000000000000000000000000000000000000000003000000000000000001000000000000000010000000800020b200 MM = true) (hag : Agree MM so s) :
    Agree MM so (@State.edgeStart s t num) := by
  unfold State.edgeStart
  extract_lets +onlyGivenNames -merge -useContext -underBinder x2115
  try clear_value x2115
  extract_lets +onlyGivenNames -merge -useContext -underBinder x2116
  have h2117 : Agree MM so x2116 := by
    subst x2116
    refine State.timersCount_touch (sub_trans (by decide) hmm) ?_
    exact hag
  try clear_value x2116
  extract_lets +onlyGivenNames -merge -useContext -underBinder x2118
  have h2119 : Agree MM so x2118 := by
    subst x2118
    refine Agree.set64 ?_ (sub_bit hmm (by decide)) (sub_bit hmm (by decide)) _ _
    exact h2117
  try clear_value x2118
  refine Agree.set_seams_tach_epoch_chains ?_ (sub_bit hmm (by decide)) (sub_bit hmm (by decide)) (sub_bit hmm (by decide)) (sub_bit hmm (by decide)) _ _ _ _
  exact h2119

theorem State.softSeam_touch {MM : Nat} {so : State} {s : Sys2Proof.Machine.State} {num : ℕ} {t : ℕ}
    (hmm : Machine.sub 0xf8000000010000000000000000100000000000009200 MM = true) (hag : Agree MM so s) :
    Agree MM so (@State.softSeam s num t) := by
  unfold State.softSeam
  split
  · exact hag
  · refine Agree.ite ?_ ?_
    · refine Agree.set_epoch ?_ (sub_bit hmm (by decide)) _
      exact hag
    · refine Agree.ite ?_ ?_
      · exact hag
      · extract_lets +onlyGivenNames -merge -useContext -underBinder x2171
        try clear_value x2171
        extract_lets +onlyGivenNames -merge -useContext -underBinder x2172
        have h2173 : Agree MM so x2172 := by
          subst x2172
          refine Agree.fsetB ?_ (sub_bit hmm (by decide)) _ _
          refine Agree.set_epoch ?_ (sub_bit hmm (by decide)) _
          exact hag
        try clear_value x2172
        refine State.countSeam_touch (sub_trans (by decide) hmm) ?_
        exact h2173

theorem State.secondSeam_touch {MM : Nat} {so : State} {s : Sys2Proof.Machine.State} {num : ℕ} {t : ℕ}
    (hmm : Machine.sub 0x78000000010000000000000000100000000000009200 MM = true) (hag : Agree MM so s) :
    Agree MM so (@State.secondSeam s num t) := by
  unfold State.secondSeam
  split
  · exact hag
  · refine Agree.ite ?_ ?_
    · exact hag
    · refine State.raiseSeam_touch (sub_trans (by decide) hmm) ?_
      refine Agree.set_epoch ?_ (sub_bit hmm (by decide)) _
      exact hag

theorem State.epochSeams_touch {MM : Nat} {so : State} {s : Sys2Proof.Machine.State} {num : ℕ}
    (hmm : Machine.sub 0x78000000010000000000000000100000000000001200 MM = true) (hag : Agree MM so s) :
    Agree MM so (@State.epochSeams s num) := by
  unfold State.epochSeams
  refine Agree.forEach ?_ (fun y2174 t2175 h2176 => ?_) _
  · exact hag
  · extract_lets +onlyGivenNames -merge -useContext -underBinder x2177
    try clear_value x2177
    refine Agree.ite ?_ ?_
    · refine State.raiseSeam_touch (sub_trans (by decide) hmm) ?_
      exact h2176
    · exact h2176

theorem State.edgeSeams_touch {MM : Nat} {so : State} {s : Sys2Proof.Machine.State} {t : ℕ} {num : ℕ} {phase : ℕ}
    (hmm : Machine.sub 0xfffffffffffffffffffffffffffffffffffffffffffffffffffffffffffffffffffffffffffffffffffffffffffffffffffffffffffffff000000000182d200 MM = true) (hag : Agree MM so s) :
    Agree MM so (@State.edgeSeams s t num phase) := by
  unfold State.edgeSeams
  extract_lets +onlyGivenNames -merge -useContext -underBinder x2198
  try clear_value x2198
  extract_lets +onlyGivenNames -merge -useContext -underBinder x2199
  have h2200 : Agree MM so x2199 := by
    subst x2199
    exact hag
  try clear_value x2199
  extract_lets +onlyGivenNames -merge -useContext -underBinder x2201
  have h2202 : Agree MM so x2201 := by
    subst x2201
    refine State.withOld_touch (sub_trans (by decide) hmm) ?_
    exact hag
  try clear_value x2201
  extract_lets +onlyGivenNames -merge -useContext -underBinder x2203
  have h2204 : Agree MM so x2203 := by
    subst x2203
    refine State.softSeam_touch (sub_trans (by decide) hmm) ?_
    refine State.secondSeam_touch (sub_trans (by decide) hmm) ?_
    refine State.epochSeams_touch (sub_trans (by decide) hmm) ?_
    refine State.anglesStep_touch (sub_trans (by decide) hmm) ?_
    exact h2202
  try clear_value x2203
  refine State.putBack_touch (sub_trans (by decide) hmm) ?_
  refine State.beaconSeams_touch (sub_trans (by decide) hmm) ?_
  refine State.frameSeams_touch (sub_trans (by decide) hmm) ?_
  exact h2204

theorem State.epochBegin_touch {MM : Nat} {so : State} {s : Sys2Proof.Machine.State} {t : ℕ}
    (hmm : Machine.sub 0x1400000000000000000010000000000000000100000000000008200 MM = true) (hag : Agree MM so s) :
    Agree MM so (@State.epochBegin s t) := by
  unfold State.epochBegin
  extract_lets +onlyGivenNames -merge -useContext -underBinder x2205
  have h2206 : Agree MM so x2205 := by
    subst x2205
    refine Agree.fset ?_ (sub_bit hmm (by decide)) _ _
    exact hag
  try clear_value x2205
  split
  · extract_lets +onlyGivenNames -merge -useContext -underBinder x2207
    have h2208 : Agree MM so x2207 := by
      subst x2207
      refine Agree.set_epoch ?_ (sub_bit hmm (by decide)) _
      exact h2206
    try clear_value x2207
    refine Agree.ite ?_ ?_
    · refine State.irq_touch (sub_trans (by decide) hmm) ?_
      refine Agree.fsetB ?_ (sub_bit hmm (by decide)) _ _
      exact h2208
    · exact h2208

theorem State.openEpoch_touch {MM : Nat} {so : State} {s : Sys2Proof.Machine.State} {num : ℕ} {t : ℕ} {x : Sys2Proof.Conversions} {quals : List ℕ} {olds : List (ℕ × Sys2Proof.Word)}
    (hmm : Machine.sub 0x384580200000000000000000000000010000000000000000180000000000308200 MM = true) (hag : Agree MM so s) :
    Agree MM so (@State.openEpoch s num t x quals olds) := by
  unfold State.openEpoch
  refine Agree.ite ?_ ?_
  · refine Agree.set_chains ?_ (sub_bit hmm (by decide)) _
    exact hag
  · extract_lets +onlyGivenNames -merge -useContext -underBinder x2276
    have h2277 : Agree MM so x2276 := by
      subst x2276
      refine Agree.ite ?_ ?_
      · exact hag
      · refine Agree.fsetB ?_ (sub_bit hmm (by decide)) _ _
        exact hag
    try clear_value x2276
    extract_lets +onlyGivenNames -merge -useContext -underBinder x2278
    try clear_value x2278
    split
    · rename_i heq
      have h2279 := AgreeP.of_eq (M := MM) (s0 := so) heq (by
        refine State.scanBegin_touch (sub_trans (by decide) hmm) ?_
        exact h2277
        )
      extract_lets +onlyGivenNames -merge -useContext -underBinder x2280
      try clear_value x2280
      extract_lets +onlyGivenNames -merge -useContext -underBinder x2281
      try clear_value x2281
      extract_lets +onlyGivenNames -merge -useContext -underBinder x2282
      have h2283 : Agree MM so x2282 := by
        subst x2282
        refine Agree.ite ?_ ?_
        · refine State.strBegin_touch (sub_trans (by decide) hmm) ?_
          exact h2279
        · refine Agree.set_chains ?_ (sub_bit hmm (by decide)) _
          exact h2279
      try clear_value x2282
      refine Agree.set_epoch_chains ?_ (sub_bit hmm (by decide)) (sub_bit hmm (by decide)) _ _
      exact h2283

theorem State.epochData_touch {MM : Nat} {so : State} {s : Sys2Proof.Machine.State} {num : ℕ} {t : ℕ} {x : Sys2Proof.Conversions} {quals : List ℕ} {olds : List (ℕ × Sys2Proof.Word)}
    (hmm : Machine.sub 0x53e00000000000000000000000000000100c00403000000000000270b845bfed000000000000000000000001000000000000001c180000000000b88208 MM = true) (hag : Agree MM so s) :
    Agree MM so (@State.epochData s num t x quals olds) := by
  unfold State.epochData
  extract_lets +onlyGivenNames -merge -useContext -underBinder x2288
  have h2289 : Agree MM so x2288 := by
    subst x2288
    refine State.adcSeam_touch (sub_trans (by decide) hmm) ?_
    refine Agree.ite ?_ ?_
    · refine State.initApply_touch (sub_trans (by decide) hmm) ?_
      exact hag
    · exact hag
  try clear_value x2288
  extract_lets +onlyGivenNames -merge -useContext -underBinder x2290
  have h2291 : Agree MM so x2290 := by
    subst x2290
    refine Agree.forEach ?_ (fun y2292 t2293 h2294 => ?_) _
    · exact h2289
    · refine State.rlSeam_touch (sub_trans (by decide) hmm) ?_
      exact h2294
  try clear_value x2290
  extract_lets +onlyGivenNames -merge -useContext -underBinder x2295
  have h2296 : Agree MM so x2295 := by
    subst x2295
    refine Agree.forEach ?_ (fun y2297 t2298 h2299 => ?_) _
    · exact h2291
    · refine State.darnSeam_touch (sub_trans (by decide) hmm) ?_
      exact h2299
  try clear_value x2295
  extract_lets +onlyGivenNames -merge -useContext -underBinder x2300
  have h2301 : Agree MM so x2300 := by
    subst x2300
    refine State.openEpoch_touch (sub_trans (by decide) hmm) ?_
    exact h2296
  try clear_value x2300
  refine Agree.forEach ?_ (fun y2302 t2303 h2304 => ?_) _
  · exact h2301
  · refine State.rlEdge_touch (sub_trans (by decide) hmm) ?_
    exact h2304

theorem State.edgeAt_touch {MM : Nat} {so : State} {s : Sys2Proof.Machine.State} {t : ℕ} {num : ℕ} {x : Sys2Proof.Conversions} {phase : ℕ}
    (hmm : Machine.sub 0xfffffffffffffffffffffffffffffffffffffffffffffffffffffffffffffffffffffffffffffffffffffffffffffffffffffffffffffff000000a003baf608 MM = true) (hag : Agree MM so s) :
    Agree MM so (@State.edgeAt s t num x phase) := by
  unfold State.edgeAt
  extract_lets +onlyGivenNames -merge -useContext -underBinder x2319
  have h2320 : Agree MM so x2319 := by
    subst x2319
    refine State.edgeStart_touch (sub_trans (by decide) hmm) ?_
    exact hag
  try clear_value x2319
  extract_lets +onlyGivenNames -merge -useContext -underBinder x2321
  try clear_value x2321
  extract_lets +onlyGivenNames -merge -useContext -underBinder x2322
  try clear_value x2322
  extract_lets +onlyGivenNames -merge -useContext -underBinder x2323
  try clear_value x2323
  extract_lets +onlyGivenNames -merge -useContext -underBinder x2324
  have h2325 : Agree MM so x2324 := by
    subst x2324
    refine State.pressEdge_touch (sub_trans (by decide) hmm) ?_
    refine State.edgeSeams_touch (sub_trans (by decide) hmm) ?_
    exact h2320
  try clear_value x2324
  extract_lets +onlyGivenNames -merge -useContext -underBinder x2326
  have h2327 : Agree MM so x2326 := by
    subst x2326
    exact h2325
  try clear_value x2326
  extract_lets +onlyGivenNames -merge -useContext -underBinder x2328
  have h2329 : Agree MM so x2328 := by
    subst x2328
    refine State.withOld_touch (sub_trans (by decide) hmm) ?_
    exact h2325
  try clear_value x2328
  extract_lets +onlyGivenNames -merge -useContext -underBinder x2330
  have h2331 : Agree MM so x2330 := by
    subst x2330
    refine State.epochBegin_touch (sub_trans (by decide) hmm) ?_
    exact h2329
  try clear_value x2330
  extract_lets +onlyGivenNames -merge -useContext -underBinder x2332
  have h2333 : Agree MM so x2332 := by
    subst x2332
    refine State.epochData_touch (sub_trans (by decide) hmm) ?_
    exact h2331
  try clear_value x2332
  extract_lets +onlyGivenNames -merge -useContext -underBinder x2334
  have h2335 : Agree MM so x2334 := by
    subst x2334
    refine State.putBack_touch (sub_trans (by decide) hmm) ?_
    exact h2333
  try clear_value x2334
  extract_lets +onlyGivenNames -merge -useContext -underBinder x2336
  have h2337 : Agree MM so x2336 := by
    subst x2336
    refine Agree.set_late ?_ (sub_bit hmm (by decide)) _
    exact h2335
  try clear_value x2336
  refine State.sendCheckpoints_touch (sub_trans (by decide) hmm) ?_
  exact h2337

theorem State.epochEdge_touch {MM : Nat} {so : State} {s : Sys2Proof.Machine.State} {x : Sys2Proof.Conversions} {phase : ℕ}
    (hmm : Machine.sub 0xfffffffffffffffffffffffffffffffffffffffffffffffffffffffffffffffffffffffffffffffffffffffffffffffffffffffffffffff000000e003fafe0e MM = true) (hag : Agree MM so s) :
    Agree MM so (@State.epochEdge s x phase) := by
  unfold State.epochEdge
  split
  · exact hag
  · refine Agree.ite ?_ ?_
    · exact hag
    · extract_lets +onlyGivenNames -merge -useContext -underBinder x2411
      have h2412 : Agree MM so x2411 := by
        subst x2411
        refine State.routerDrain_touch (sub_trans (by decide) hmm) ?_
        exact hag
      try clear_value x2411
      extract_lets +onlyGivenNames -merge -useContext -underBinder x2413
      try clear_value x2413
      extract_lets +onlyGivenNames -merge -useContext -underBinder x2414
      have h2415 : Agree MM so x2414 := by
        subst x2414
        refine State.epochClose_touch (sub_trans (by decide) hmm) ?_
        refine State.elapse_touch (sub_trans (by decide) hmm) ?_
        exact h2412
      try clear_value x2414
      refine Agree.ite ?_ ?_
      · refine Agree.set_epoch ?_ (sub_bit hmm (by decide)) _
        exact h2415
      · extract_lets +onlyGivenNames -merge -useContext -underBinder x2416
        try clear_value x2416
        refine State.edgeAt_touch (sub_trans (by decide) hmm) ?_
        exact h2415

end Sys2Proof.Machine
end

