-- ==== Sys2Proof/Laws/Touch/ExecKiltur.lean ====
section
/-!
SUPPORT. What the functions of Machine/ExecKiltur.lean can touch: one lemma per function, its mask after `sub`.
-/

namespace Sys2Proof.Machine

theorem State.kLoopDo_touch {MM : Nat} {so : State} {s : Sys2Proof.Machine.State} {c : Sys2Proof.Machine.Core} {w : Sys2Proof.Word}
    (hmm : Machine.sub 0x0 MM = true) (hag : Agree MM so s) :
    AgreeP MM so (@State.kLoopDo s c w) := by
  unfold State.kLoopDo
  extract_lets +onlyGivenNames -merge -useContext -underBinder x2644
  try clear_value x2644
  extract_lets +onlyGivenNames -merge -useContext -underBinder x2645
  try clear_value x2645
  extract_lets +onlyGivenNames -merge -useContext -underBinder x2646
  try clear_value x2646
  extract_lets +onlyGivenNames -merge -useContext -underBinder x2647
  try clear_value x2647
  refine AgreeP.ite ?_ ?_
  · refine AgreeP.mk ?_
    exact hag
  · refine AgreeP.mk ?_
    exact hag

theorem State.kLoop_touch {MM : Nat} {so : State} {s : Sys2Proof.Machine.State} {x : ℕ}
    (hmm : Machine.sub 0xfffffffffffffffffffffffffffffffffffffffffffffffffffffffffffffffffffffffffffffffffffffffffffffffffffffffffffffff000000fffffffe7c MM = true) (hag : Agree MM so s) :
    Agree MM so (@State.kLoop s x) := by
  unfold State.kLoop
  extract_lets +onlyGivenNames -merge -useContext -underBinder x2648
  try clear_value x2648
  extract_lets +onlyGivenNames -merge -useContext -underBinder x2649
  try clear_value x2649
  extract_lets +onlyGivenNames -merge -useContext -underBinder x2650
  have h2651 : Agree MM so x2650 := by
    subst x2650
    refine State.kIssue_touch (sub_trans (by decide) hmm) (fun t2652 _ _ h2653 => ?_) ?_
    · refine State.kLoopDo_touch (sub_trans (by decide) hmm) ?_
      exact h2653
    · exact hag
  try clear_value x2650
  split
  · rename_i heq
    have h2654 := AgreeP.of_eq (M := MM) (s0 := so) heq (by
      refine State.fetch_touch (sub_trans (by decide) hmm) ?_
      exact hag
      )
    refine Agree.ite ?_ ?_
    · refine State.setCore_touch (sub_trans (by decide) hmm) ?_
      exact h2651
    · exact h2651
  · exact h2651

end Sys2Proof.Machine
end

