-- ==== Sys2Proof/Laws/Touch/ExecAngle.lean ====
section
/-!
SUPPORT. What the functions of Machine/ExecAngle.lean can touch: one lemma per function, its mask after `sub`.
-/

namespace Sys2Proof.Machine

theorem State.acqTimeout_touch {MM : Nat} {so : State} {s : Sys2Proof.Machine.State} {n : ℕ}
    (hmm : Machine.sub 0x2000000000000000000000000000000000000000004000 MM = true) (hag : Agree MM so s) :
    Agree MM so (@State.acqTimeout s n) := by
  unfold State.acqTimeout
  refine Agree.ite ?_ ?_
  · exact hag
  · extract_lets +onlyGivenNames -merge -useContext -underBinder x1394
    try clear_value x1394
    refine Agree.fsetB ?_ (sub_bit hmm (by decide)) _ _
    refine State.setEng_touch (sub_trans (by decide) hmm) ?_
    exact hag

theorem State.learnEnd_touch {MM : Nat} {so : State} {s : Sys2Proof.Machine.State} {n : ℕ}
    (hmm : Machine.sub 0x1002000000000000000000000000000080000000000004000 MM = true) (hag : Agree MM so s) :
    Agree MM so (@State.learnEnd s n) := by
  unfold State.learnEnd
  extract_lets +onlyGivenNames -merge -useContext -underBinder x2748
  try clear_value x2748
  extract_lets +onlyGivenNames -merge -useContext -underBinder x2749
  try clear_value x2749
  refine Agree.ite ?_ ?_
  · exact hag
  · extract_lets +onlyGivenNames -merge -useContext -underBinder x2750
    try clear_value x2750
    extract_lets +onlyGivenNames -merge -useContext -underBinder x2751
    try clear_value x2751
    extract_lets +onlyGivenNames -merge -useContext -underBinder x2752
    have h2753 : Agree MM so x2752 := by
      subst x2752
      refine State.setEng_touch (sub_trans (by decide) hmm) ?_
      exact hag
    try clear_value x2752
    extract_lets +onlyGivenNames -merge -useContext -underBinder x2754
    have h2755 : Agree MM so x2754 := by
      subst x2754
      refine Agree.fsetB ?_ (sub_bit hmm (by decide)) _ _
      refine Agree.fsetB ?_ (sub_bit hmm (by decide)) _ _
      exact h2753
    try clear_value x2754
    refine State.angBusy_touch (sub_trans (by decide) hmm) ?_
    exact h2755

theorem State.tachFilter_touch {MM : Nat} {so : State} {s : Sys2Proof.Machine.State} {n : ℕ}
    (hmm : Machine.sub 0x90000000000000000000000000000000000000000000000000000000000007c000000000000001000000000000000010000000c00000a202 MM = true) (hag : Agree MM so s) :
    Agree MM so (@State.tachFilter s n) := by
  unfold State.tachFilter
  extract_lets +onlyGivenNames -merge -useContext -underBinder x3296
  try clear_value x3296
  split
  · exact hag
  · refine Agree.ite ?_ ?_
    · exact hag
    · extract_lets +onlyGivenNames -merge -useContext -underBinder x3297
      have h3298 : Agree MM so x3297 := by
        subst x3297
        refine State.elapse_touch (sub_trans (by decide) hmm) ?_
        exact hag
      try clear_value x3297
      refine State.tachAccept_touch (sub_trans (by decide) hmm) ?_
      refine Agree.set_tach ?_ (sub_bit hmm (by decide)) _
      exact h3298

theorem State.tachPin_touch {MM : Nat} {so : State} {s : Sys2Proof.Machine.State} {n : ℕ} {level : Bool}
    (hmm : Machine.sub 0x90000000000000000000000000000000000000000000000000000000000007c000000000000001000000000000000010000000c00000a202 MM = true) (hag : Agree MM so s) :
    Agree MM so (@State.tachPin s n level) := by
  unfold State.tachPin
  extract_lets +onlyGivenNames -merge -useContext -underBinder x3299
  have h3300 : Agree MM so x3299 := by
    subst x3299
    refine Agree.ite ?_ ?_
    · refine State.tachFilter_touch (sub_trans (by decide) hmm) ?_
      exact hag
    · exact hag
  try clear_value x3299
  extract_lets +onlyGivenNames -merge -useContext -underBinder x3301
  try clear_value x3301
  extract_lets +onlyGivenNames -merge -useContext -underBinder x3302
  try clear_value x3302
  extract_lets +onlyGivenNames -merge -useContext -underBinder x3303
  try clear_value x3303
  extract_lets +onlyGivenNames -merge -useContext -underBinder x3304
  try clear_value x3304
  extract_lets +onlyGivenNames -merge -useContext -underBinder x3305
  have h3306 : Agree MM so x3305 := by
    subst x3305
    refine Agree.set_tach ?_ (sub_bit hmm (by decide)) _
    exact h3300
  try clear_value x3305
  refine Agree.ite ?_ ?_
  · refine State.tachAccept_touch (sub_trans (by decide) hmm) ?_
    refine Agree.set_tach ?_ (sub_bit hmm (by decide)) _
    exact h3306
  · exact h3306

end Sys2Proof.Machine
end

