-- ==== Sys2Proof/Laws/Touch/ExecInputs.lean ====
section
/-!
SUPPORT. What the functions of Machine/ExecInputs.lean can touch: one lemma per function, its mask after `sub`.
-/

namespace Sys2Proof.Machine

theorem State.alignHoldover_touch {MM : Nat} {so : State} {s : Sys2Proof.Machine.State}
    (hmm : Machine.sub 0x100000000000000000010000000000000000100000000000000200 MM = true) (hag : Agree MM so s) :
    Agree MM so (@State.alignHoldover s) := by
  unfold State.alignHoldover
  extract_lets +onlyGivenNames -merge -useContext -underBinder x1481
  try clear_value x1481
  refine Agree.ite ?_ ?_
  · refine State.setAlign_touch (sub_trans (by decide) hmm) ?_
    exact hag
  · exact hag

theorem State.groupReady_touch {MM : Nat} {so : State} {s : Sys2Proof.Machine.State} {g : ℕ}
    (hmm : Machine.sub 0x6000000000000000000000000000000000000000000000000000000 MM = true) (hag : Agree MM so s) :
    Agree MM so (@State.groupReady s g) := by
  unfold State.groupReady
  refine Agree.ite ?_ ?_
  · extract_lets +onlyGivenNames -merge -useContext -underBinder x2484
    have h2485 : Agree MM so x2484 := by
      subst x2484
      refine Agree.fsetBit ?_ (sub_bit hmm (by decide)) _ _ _
      exact hag
    try clear_value x2484
    refine Agree.ite ?_ ?_
    · refine Agree.setReg ?_ (sub_bit hmm (by decide)) _ _
      exact h2485
    · exact h2485
  · exact hag

theorem State.idbDone_touch {MM : Nat} {so : State} {s : Sys2Proof.Machine.State} {b : ℕ} {outcome : Sys2Proof.IdbOutcome}
    (hmm : Machine.sub 0xfffffffffffffffffffffffffffffffffffffffffffffffffffffffffffffffffffffffffffffffffffffffffffffffffffffffffffffff0000000000040200 MM = true) (hag : Agree MM so s) :
    Agree MM so (@State.idbDone s b outcome) := by
  unfold State.idbDone
  extract_lets +onlyGivenNames -merge -useContext -underBinder x2516
  try clear_value x2516
  refine Agree.ite ?_ ?_
  · split
    · refine Agree.ite ?_ ?_
      · refine State.idbEnd_touch (sub_trans (by decide) hmm) ?_
        refine State.idbStore_touch (sub_trans (by decide) hmm) ?_
        exact hag
      · exact hag
    · refine State.idbEnd_touch (sub_trans (by decide) hmm) ?_
      exact hag
    · refine Agree.ite ?_ ?_
      · refine State.idbEnd_touch (sub_trans (by decide) hmm) ?_
        refine Agree.fset ?_ (sub_bit hmm (by decide)) _ _
        exact hag
      · exact hag
    · refine State.idbEnd_touch (sub_trans (by decide) hmm) ?_
      exact hag
    · exact hag
  · refine Agree.ite ?_ ?_
    · split
      · refine State.idbEnd_touch (sub_trans (by decide) hmm) ?_
        exact hag
      · refine State.idbEnd_touch (sub_trans (by decide) hmm) ?_
        exact hag
      · exact hag
    · exact hag

theorem State.idbStretch_touch {MM : Nat} {so : State} {s : Sys2Proof.Machine.State} {b : ℕ}
    (hmm : Machine.sub 0xfffffffffffffffffffffffffffffffffffffffffffffffffffffffffffffffffffffffffffffffffffffffffffffffffffffffffffffff0000000000040200 MM = true) (hag : Agree MM so s) :
    Agree MM so (@State.idbStretch s b) := by
  unfold State.idbStretch
  refine Agree.ite ?_ ?_
  · exact hag
  · refine State.idbEnd_touch (sub_trans (by decide) hmm) ?_
    exact hag

end Sys2Proof.Machine
end

