-- ==== Sys2Proof/Laws/Touch/ExecData.lean ====
section
/-!
SUPPORT. What the functions of Machine/ExecData.lean can touch: one lemma per function, its mask after `sub`.
-/

namespace Sys2Proof.Machine

theorem State.blockFlush_touch {MM : Nat} {so : State} {s : Sys2Proof.Machine.State} {l : ℕ}
    (hmm : Machine.sub 0xf80600000000000000000000000000000000001840000000000001c18000000000040020c MM = true) (hag : Agree MM so s) :
    Agree MM so (@State.blockFlush s l) := by
  unfold State.blockFlush
  refine Agree.ite ?_ ?_
  · exact hag
  · refine Agree.ite ?_ ?_
    · refine State.completeBlock_touch (sub_trans (by decide) hmm) ?_
      exact hag
    · refine State.setLine_touch (sub_trans (by decide) hmm) ?_
      exact hag

theorem State.stkPgFall_touch {MM : Nat} {so : State} {s : Sys2Proof.Machine.State}
    (hmm : Machine.sub 0x20030000002000000000000000000000000000000000010000000000000000180000000000400a00 MM = true) (hag : Agree MM so s) :
    Agree MM so (@State.stkPgFall s) := by
  unfold State.stkPgFall
  refine Agree.ite ?_ ?_
  · exact hag
  · extract_lets +onlyGivenNames -merge -useContext -underBinder x3223
    try clear_value x3223
    extract_lets +onlyGivenNames -merge -useContext -underBinder x3224
    have h3225 : Agree MM so x3224 := by
      subst x3224
      refine Agree.set_power ?_ (sub_bit hmm (by decide)) _
      exact hag
    try clear_value x3224
    refine Agree.ite ?_ ?_
    · refine State.stacksFail_touch (sub_trans (by decide) hmm) ?_
      exact h3225
    · exact h3225

theorem State.stkPgRise_touch {MM : Nat} {so : State} {s : Sys2Proof.Machine.State}
    (hmm : Machine.sub 0x20020000002000000000000000000000000000000000010000000000000000180000000000400a00 MM = true) (hag : Agree MM so s) :
    Agree MM so (@State.stkPgRise s) := by
  unfold State.stkPgRise
  refine Agree.ite ?_ ?_
  · exact hag
  · extract_lets +onlyGivenNames -merge -useContext -underBinder x3226
    try clear_value x3226
    extract_lets +onlyGivenNames -merge -useContext -underBinder x3227
    have h3228 : Agree MM so x3227 := by
      subst x3227
      refine Agree.set_power ?_ (sub_bit hmm (by decide)) _
      exact hag
    try clear_value x3227
    refine Agree.forEach ?_ (fun y3229 t3230 h3231 => ?_) _
    · exact h3228
    · refine State.trainBegin_touch (sub_trans (by decide) hmm) ?_
      refine State.setStack_touch (sub_trans (by decide) hmm) ?_
      exact h3231

theorem State.stkPgTimeout_touch {MM : Nat} {so : State} {s : Sys2Proof.Machine.State}
    (hmm : Machine.sub 0x20030000002000000000000000000000000000000000010000000000000000180000000000400200 MM = true) (hag : Agree MM so s) :
    Agree MM so (@State.stkPgTimeout s) := by
  unfold State.stkPgTimeout
  refine Agree.ite ?_ ?_
  · exact hag
  · refine Agree.forEach ?_ (fun y3232 t3233 h3234 => ?_) _
    · exact hag
    · refine State.trainEnd_touch (sub_trans (by decide) hmm) ?_
      refine State.setStack_touch (sub_trans (by decide) hmm) ?_
      exact h3234

end Sys2Proof.Machine
end

