-- ==== Sys2Proof/Laws/Touch/ExecPower.lean ====
section
/-!
SUPPORT. What the functions of Machine/ExecPower.lean can touch: one lemma per function, its mask after `sub`.
-/

namespace Sys2Proof.Machine

theorem State.leaveAfternoon_touch {MM : Nat} {so : State} {s : Sys2Proof.Machine.State}
    (hmm : Machine.sub 0xfffffffffffffffffffffffffffffffffffffffffffffffffffffffffffffffffffffffffffffffffffffffffffffffffffffffffffffff0000000000880e08 MM = true) (hag : Agree MM so s) :
    Agree MM so (@State.leaveAfternoon s) := by
  unfold State.leaveAfternoon
  extract_lets +onlyGivenNames -merge -useContext -underBinder x2759
  have h2760 : Agree MM so x2759 := by
    subst x2759
    refine State.stacksMove_touch (sub_trans (by decide) hmm) ?_
    refine State.stepUp_touch (sub_trans (by decide) hmm) ?_
    exact hag
  try clear_value x2759
  extract_lets +onlyGivenNames -merge -useContext -underBinder x2761
  have h2762 : Agree MM so x2761 := by
    subst x2761
    refine Agree.ite ?_ ?_
    · refine State.setPower_touch (sub_trans (by decide) hmm) ?_
      exact h2760
    · exact h2760
  try clear_value x2761
  refine State.anaRestart_touch (sub_trans (by decide) hmm) ?_
  exact h2762

end Sys2Proof.Machine
end

