-- ==== Sys2Proof/Laws/Touch/ExecBackup.lean ====
section
/-!
SUPPORT. What the functions of Machine/ExecBackup.lean can touch: one lemma per function, its mask after `sub`.
-/

namespace Sys2Proof.Machine

theorem State.rawTick_touch {MM : Nat} {so : State} {s : Sys2Proof.Machine.State}
    (hmm : Machine.sub 0x900000000000000000000000000000000000000000000000000000000000000000000000000001038c03f00007906018000000c401008a00 MM = true) (hag : Agree MM so s) :
    Agree MM so (@State.rawTick s) := by
  unfold State.rawTick
  refine State.wdTick_touch (sub_trans (by decide) hmm) ?_
  refine State.timersCount_touch (sub_trans (by decide) hmm) ?_
  refine State.tickStep_touch (sub_trans (by decide) hmm) ?_
  exact hag

end Sys2Proof.Machine
end

