-- ==== Sys2Proof/Laws/Touch/ExecLink.lean ====
section
/-!
SUPPORT. What the functions of Machine/ExecLink.lean can touch: one lemma per function, its mask after `sub`.
-/

namespace Sys2Proof.Machine

theorem State.linkActivity_touch {MM : Nat} {so : State} {s : Sys2Proof.Machine.State} {p : ℕ} {c : ℕ}
    (hmm : Machine.sub 0x8800000012000000000000000000000000000000000000000000000000000000010300000000079060180000004002000a00 MM = true) (hag : Agree MM so s) :
    Agree MM so (@State.linkActivity s p c) := by
  unfold State.linkActivity
  refine Agree.ite ?_ ?_
  · refine State.portActivity_touch (sub_trans (by decide) hmm) ?_
    refine State.wakeLatch_touch (sub_trans (by decide) hmm) ?_
    exact hag
  · exact hag

theorem State.wakePacket_touch {MM : Nat} {so : State} {s : Sys2Proof.Machine.State} {p : ℕ}
    (hmm : Machine.sub 0x10300000000079060100000004002000a00 MM = true) (hag : Agree MM so s) :
    Agree MM so (@State.wakePacket s p) := by
  unfold State.wakePacket
  split
  · exact hag
  · rename_i heq
    have h3429 := State.takeSide_touch (MM := MM) (so := so) (sub_trans (by decide) hmm) (by
      exact hag
      ) _ _ _ heq
    refine State.wakeLatch_touch (sub_trans (by decide) hmm) ?_
    exact h3429

end Sys2Proof.Machine
end

