-- ==== Sys2Proof/Laws/Touch/ExecUart.lean ====
section
/-!
SUPPORT. What the functions of Machine/ExecUart.lean can touch: one lemma per function, its mask after `sub`.
-/

namespace Sys2Proof.Machine

theorem State.mendByte_touch {MM : Nat} {so : State} {s : Sys2Proof.Machine.State} {samples : List Bool}
    (hmm : Machine.sub 0x800000000 MM = true) (hag : Agree MM so s) :
    Agree MM so (@State.mendByte s samples) := by
  unfold State.mendByte
  refine Agree.ite ?_ ?_
  · exact hag
  · split
    · refine Agree.ite ?_ ?_
      · refine Agree.set_mend ?_ (sub_bit hmm (by decide)) _
        exact hag
      · exact hag
    · exact hag

theorem State.uartChar_touch {MM : Nat} {so : State} {s : Sys2Proof.Machine.State} {n : ℕ} {samples : List Bool}
    (hmm : Machine.sub 0x860000000000000000000000000000000000000000000000000000000000000000001840000000000001c18000000080400020c MM = true) (hag : Agree MM so s) :
    Agree MM so (@State.uartChar s n samples) := by
  unfold State.uartChar
  extract_lets +onlyGivenNames -merge -useContext -underBinder x3411
  have h3412 : Agree MM so x3411 := by
    subst x3411
    refine Agree.ite ?_ ?_
    · refine State.mendByte_touch (sub_trans (by decide) hmm) ?_
      exact hag
    · exact hag
  try clear_value x3411
  refine State.uartCharacter_touch (sub_trans (by decide) hmm) ?_
  exact h3412

end Sys2Proof.Machine
end

