-- ==== Sys2Proof/Laws/WriteReg.lean ====
section
/-!
SUPPORT. What a word write to a named register can touch, from what each step of the write can touch.
-/

namespace Sys2Proof.Machine

/-- No failure of the list is a loop of cells. -/
def noLoop (l : List Failure) : Prop := ∀ f ∈ l, f.reason ≠ 5

theorem noLoop_nil : noLoop [] := fun _ h => nomatch h

theorem noLoop_append {a b : List Failure} (ha : noLoop a) (hb : noLoop b) : noLoop (a ++ b) := fun f h => by
  rcases List.mem_append.mp h with h | h
  · exact ha f h
  · exact hb f h

theorem noLoop_failIf {b : Bool} {n : Nat} {l : List (Nat × Word)} (h : n ≠ 5) : noLoop (failIf b n l) := fun f hf => by
  unfold failIf at hf
  split at hf
  · rw [List.mem_singleton] at hf; rw [hf]; exact h
  · cases hf

theorem noLoop_flatMap {α : Type} {l : List α} {g : α → List Failure} (h : ∀ a, noLoop (g a)) : noLoop (l.flatMap g) :=
  fun f hf => by
    obtain ⟨a, _, ha⟩ := List.mem_flatMap.mp hf
    exact h a f ha

theorem noLoop_ite {c : Prop} [Decidable c] {a b : List Failure} (ha : noLoop a) (hb : noLoop b) :
    noLoop (if c then a else b) := by
  split
  · exact ha
  · exact hb

theorem noLoop_strFails (t : State) (i : Nat) : noLoop (t.strFails i) :=
  noLoop_append (noLoop_flatMap fun _ => noLoop_failIf (by decide)) (noLoop_flatMap fun _ => noLoop_failIf (by decide))

theorem noLoop_memberFails (s t : State) : noLoop (s.memberFails t) :=
  noLoop_flatMap fun _ => noLoop_append (noLoop_failIf (by decide)) (noLoop_failIf (by decide))

theorem noLoop_laneFails (t : State) (l : Nat) : noLoop (t.laneFails l) :=
  noLoop_append (noLoop_append (noLoop_failIf (by decide)) (noLoop_failIf (by decide))) (noLoop_failIf (by decide))

theorem noLoop_streams (s t : State) :
    noLoop (t.sharedFails ++ t.writerFails ++ (List.range 16).flatMap t.laneFails ++ s.memberFails t) :=
  noLoop_append (noLoop_append (noLoop_append (noLoop_flatMap fun _ => noLoop_failIf (by decide))
    (noLoop_flatMap fun _ => noLoop_failIf (by decide))) (noLoop_flatMap (noLoop_laneFails t))) (noLoop_memberFails s t)

theorem noLoop_angFails (t : State) (n : Nat) : noLoop (t.angFails n) :=
  noLoop_append (noLoop_append (noLoop_append (noLoop_failIf (by decide)) (noLoop_failIf (by decide)))
    (noLoop_failIf (by decide))) (noLoop_failIf (by decide))

theorem noLoop_enableFails (s t : State) : noLoop (s.enableFails t) :=
  noLoop_flatMap fun _ => noLoop_ite noLoop_nil (noLoop_flatMap fun _ => noLoop_failIf (by decide))

/-- Only the settings of a logic cell can make a loop of cells. -/
theorem noLoop_writeFails (s t : State) (r : Reg) (n : Nat) (h1 : r ≠ .EVL_CELL_MODE) (h2 : r ≠ .EVL_CELL_IN) :
    noLoop (s.writeFails t r n) := by
  have streams := noLoop_streams s t
  unfold State.writeFails
  extract_lets st
  split
  · exact noLoop_angFails t n
  · exact noLoop_failIf (by decide)
  · exact absurd rfl h1
  · exact absurd rfl h2
  · exact noLoop_failIf (by decide)
  · exact noLoop_failIf (by decide)
  · exact noLoop_append (noLoop_append (noLoop_enableFails s t) (noLoop_memberFails s t)) (noLoop_failIf (by decide))
  · exact noLoop_append (noLoop_strFails t n) streams
  · exact noLoop_append (noLoop_strFails t n) streams
  · exact noLoop_append (noLoop_strFails t (n / 4)) streams
  · exact streams
  · exact streams
  · exact streams
  · exact streams
  · exact noLoop_failIf (by decide)
  · exact noLoop_flatMap fun _ => noLoop_failIf (by decide)
  · exact noLoop_flatMap fun _ => noLoop_failIf (by decide)
  · exact noLoop_nil

theorem directFails_ne_loop (s : State) (r : Reg) (n : Nat) (v : Word) (h1 : r ≠ .EVL_CELL_MODE) (h2 : r ≠ .EVL_CELL_IN) :
    s.directFails r n v ≠ some 5 := by
  intro e
  unfold State.directFails at e
  extract_lets t a at e
  rw [Option.map_eq_some_iff] at e
  obtain ⟨f, hf, hr⟩ := e
  exact noLoop_writeFails s t r n h1 h2 f (List.mem_of_find?_eq_some hf) hr

/-- What a write that passes the owner check can touch: the flags of the page, the timers of staged settings and of a soft
seam, the register itself, and what follows the write of this register and the change of its settings. -/
theorem State.regWrite_lit {MM : Nat} {so s : State} {w : Who} {p : Nat} {r : Reg} {n : Nat} {v : Word}
    (hmm : sub 0x10000000000000000180000002000008200 MM = true) (hr : MM.testBit (64 + r.ctorIdx) = true)
    (hloop : s.directFails r n v = some 5 → Agree MM so (s.evlRefuse r n v))
    (hcal : AgreeO MM so (s.calClosed r n)) (hturn : AgreeO MM so (s.turnedAway r v))
    (hport : AgreeO MM so (s.portWrite w r n v))
    (hrate : r = .BEACON_RATE → Agree MM so s.timeRebase)
    (hstill : r = .PAGE_CTRL ∨ r = .CLK_PEN → sub 0x20000 MM = true)
    (hset : ∀ t, Agree MM so t → Agree MM so (t.stChanged s r n))
    (hhead : ∀ t, Agree MM so t → Agree MM so (t.afterHead s r n v))
    (hsen : ∀ t, Agree MM so t → Agree MM so (t.afterSen s w r n v))
    (hacq : ∀ t, Agree MM so t → Agree MM so (t.afterAcq s r n v))
    (hfar : ∀ t, Agree MM so t → Agree MM so (t.afterFar s r n v))
    (hag : Agree MM so s) : Agree MM so (s.regWrite w p r n v) := by
  unfold State.regWrite
  refine Agree.ite (State.pageErr_touch (sub_trans (by decide) hmm) hag) ?_
  split
  · exact hcal _ ‹_›
  · refine Agree.ite (State.pageErr_touch (sub_trans (by decide) hmm) hag) ?_
    split
    · exact hloop ‹_›
    · exact State.pageErr_touch (sub_trans (by decide) hmm) hag
    · split
      · exact hturn _ ‹_›
      · refine State.softReady_touch (sub_trans (by decide) hmm) (Agree.getD hport ?_)
        unfold State.landWrite
        extract_lets t1 t2 t3 t4 t5 t6 t7
        have h7 : Agree MM so t7 := hfar _ (hacq _ (hsen _ (hhead _ ?_)))
        · clear_value t7
          split
          · exact State.timeFollow_touch (hstill ‹_›) h7
          · exact h7
        refine hset _ (State.noteStaged_touch (sub_trans (by decide) hmm) hr ?_)
        refine Agree.setReg ?_ hr _ _
        subst t1
        split
        · exact hrate ‹_›
        · exact hag

/-- What a word write of `q` to a register can touch beside what the write itself does: the held accesses, the answer, the
log of bus errors and the error flags. -/
theorem State.writeReg_lit {MM : Nat} {so s : State} {q : Requester} {r : Reg} {n : Nat} {v : Word}
    (hmm : sub 0x1000000000000001c180000000000000310 MM = true) (ok : r.ok n = true)
    (hw : ∀ w p, Agree MM so (s.regWrite w p r n v)) (hag : Agree MM so s) : Agree MM so (s.writeReg q r n v) := by
  unfold State.writeReg State.access
  extract_lets p w
  refine Agree.ite hag (Agree.ite ?_ ?_)
  · exact Agree.set_held_answer hag (sub_bit hmm (by decide)) (sub_bit hmm (by decide)) _ _
  · unfold State.perform
    have h : AgreeP MM so (s.performWrite w AccessSize.b4.bytes (r.addr n) (logAddr q (r.addr n)) v) := by
      unfold State.performWrite
      extract_lets p
      refine AgreeP.ite (State.busErr_touch (sub_trans (by decide) hmm) hag) (AgreeP.ite
        (State.busErr_touch (sub_trans (by decide) hmm) hag) (AgreeP.ite (AgreeP.mk hag) ?_))
      rw [regAt_addr ok]
      exact AgreeP.ite (AgreeP.mk (hw _ _)) (AgreeP.mk (State.pageErr_touch (sub_trans (by decide) hmm) hag))
    simp only [if_true]
    generalize s.performWrite w AccessSize.b4.bytes (r.addr n) (logAddr q (r.addr n)) v = x at h ⊢
    obtain ⟨t, y⟩ := x
    exact Agree.set_answer h (sub_bit hmm (by decide)) _

end Sys2Proof.Machine
end

