-- ==== Sys2Proof/Tests/Slice0.lean ====
section
/-!
SUPPORT. Tests of the model: the checks of WellFormed refuse ill-formed commands, and for every statement that has
hypotheses a state and operands that meet them. No expected value here comes from a run of the model.
-/

namespace Sys2Proof.Machine.Tests

set_option Elab.async false

/-- Every domain powered, every source enabled and READY. -/
def base : State :=
  (({ State.reset with power := { Power.reset with acq := .on, ana := .on, mem := .on, lnk := .on } }).setReg
    .CLK_EN 0 0x7F#32).setReg .CLK_READY 0 0x3FFFF#32

/-- `base` with EN of page `p` set. -/
def baseEn (p : Nat) : State := base.fsetB F.PAGE_CTRL_EN p true

/-- The next state that a command answers. -/
def after? (i : Instr) (s : State) : Option State :=
  match exec i s with
  | .next t => some t
  | _ => none

/-! ### Well-formed commands -/

theorem test_wf_register_write : Instr.wf (.registerWrite .host .b4 0x100000 0#32) = false := by decide

theorem test_wf_read_clear : Instr.wf (.readClear .host 0x100000) = false := by decide

theorem test_wf_debug_access : Instr.wf (.debugAccess ⟨0x20, []⟩ .b8 (2 ^ 48) none) = false := by decide

theorem test_wf_boundary_cells : Instr.wf (.debugAccess ⟨0, List.replicate 141 false⟩ .b8 0 none) = false := by decide +kernel

theorem test_wf_freeze_read : Instr.wf (.freezeGroupRead .host 0x100000) = false := by decide

theorem test_wf_freeze_release : Instr.wf (.freezeGroupRelease .host 0x100000) = false := by decide

theorem test_wf_freeze_stale : Instr.wf (.freezeStaleTimeout .host 0x100000) = false := by decide

theorem test_wf_epoch_code : Instr.wf (.epochEdge ⟨[32768], [], []⟩ 0) = false := by decide

theorem test_wf_epoch_position : Instr.wf (.epochEdge ⟨[], [], [(7, 0)]⟩ 0) = false := by decide

theorem test_wf_fit : Instr.wf (.calRunDone 0 ⟨0, 0x4000, [], 0⟩) = false := by decide

theorem test_wf_idb : Instr.wf (.idbDone 0 (.nackData 512)) = false := by decide

theorem test_wf_packet : Instr.wf (.packetReceive 0 0 (List.replicate 2061 0#8) true 0) = false := by decide +kernel

theorem test_wf_flash_place : Instr.wf (.xspiDone [] [(2 ^ 32, 0#8)]) = false := by decide

theorem test_wf_contents : Instr.wf (.nightToEvening [] ⟨[(2 ^ 48, 0#8)], []⟩) = false := by decide

theorem test_wf_contents_word : Instr.wf (.holdRetry none ⟨[], [(4, false)]⟩) = false := by decide

theorem test_wf_flash_length : flashBytesOk (2 ^ 24) = false := by decide

theorem test_wf_ok : Instr.wf (.registerWrite .host .b4 0x01040 0#32) = true := by decide

/-! ### Hypotheses of the general statements -/

theorem test_EmptyQueueIdles : State.reset.pending = [] := by decide

theorem test_StepKeepsForm : State.reset.wf = true ∧ step State.reset = .next State.reset := ⟨by decide, rfl⟩

theorem test_UnmappedPage : base.wf = true ∧ base.reaches (.core 0) (0x7F000 / 0x1000) = true ∧
    pageInfo (0x7F000 / 0x1000) = none ∧ base.flag F.FAB_ERR_INFO_VALID = false ∧
    (base.fsetB F.FAB_ERR_INFO_VALID 0 true).flag F.FAB_ERR_INFO_VALID = true := by decide +kernel

theorem test_AccessSizeError : base.wf = true ∧ base.reaches (.core 0) (0x01041 / 0x1000) = true ∧
    (pageInfo (0x01041 / 0x1000)).isSome = true ∧ 0x01041 % 4 ≠ 0 := by decide +kernel

theorem test_GatedPage : State.reset.reaches (.core 0) (0x10040 / 0x1000) = true ∧
    (pageInfo (0x10040 / 0x1000)).isSome = true ∧ State.reset.pageLive (0x10040 / 0x1000) = false := by decide +kernel

theorem test_UnmappedOffset : base.wf = true ∧ base.reaches (.core 0) (0x00020 / 0x1000) = true ∧
    base.pageLive (0x00020 / 0x1000) = true ∧ regAt 0x00020 = none := by decide +kernel

theorem test_OwnerCheck : base.wf = true ∧ Reg.ok .PWR_CFG 0 = true ∧ base.reaches .host (Reg.page .PWR_CFG 0) = true ∧
    base.pageLive (Reg.page .PWR_CFG 0) = true ∧ base.ownerPass (base.who .host) (Reg.page .PWR_CFG 0) = false ∧
    (base.who .host).isS = false := by decide +kernel

theorem test_ReservedEncoding : base.wf = true ∧ Reg.ok .PWR_CTRL 0 = true ∧
    base.performs (.core 0) (Reg.page .PWR_CTRL 0) = true ∧ base.mayWrite (base.who (.core 0)) .PWR_CTRL 0 5#32 = true ∧
    base.calClosed .PWR_CTRL 0 = none ∧ wordReserved .PWR_CTRL 0 5#32 = true := by decide +kernel

theorem test_AccessHeld : ({ base with softReset := [0x10] }).canIssue (.core 0) = true ∧
    ({ base with softReset := [0x10] }).pageHeld (0x10040 / 0x1000) = true := by decide +kernel

theorem test_AccessHeld_release :
    takeFirst (fun (h : HeldAccess) => !base.pageHeld (h.addr / 0x1000))
      [⟨.core 0, true, true, .b4, 0x10040, 0#32, 0x40010040⟩] =
      some (⟨.core 0, true, true, .b4, 0x10040, 0#32, 0x40010040⟩, []) := by decide +kernel

theorem test_ReadClears : base.wf = true ∧ Reg.ok .TEMP_MAX 0 = true ∧ Reg.rcMask .TEMP_MAX ≠ 0#32 ∧
    base.performs (.core 0) (Reg.page .TEMP_MAX 0) = true ∧ (base.freezeGroup .TEMP_MAX 0).isNone = true := by decide +kernel

theorem test_PageOwnerWrite : base.wf = true ∧ (pageInfo 0x10).isSome = true ∧ base.performs (.core 0) 0x10 = true ∧
    base.flag F.PAGE_OWNER_LOCK 0x10 = false ∧ (base.who (.core 0)).isS = true := by decide +kernel

theorem test_PageOwnerWrite_locked : (base.fsetB F.PAGE_OWNER_LOCK 0x10 true).flag F.PAGE_OWNER_LOCK 0x10 = true ∧
    (base.fsetB F.PAGE_OWNER_LOCK 0x10 true).performs (.core 0) 0x10 = true := by decide +kernel

theorem test_AccessHeld_debug :
    takeFirst (fun (h : HeldAccess) => !base.pageHeld (h.addr / 0x1000))
      [⟨.debug, true, false, .b4, 0x10040, 0#32, 0x40010040⟩] =
      some (⟨.debug, true, false, .b4, 0x10040, 0#32, 0x40010040⟩, []) ∧
    ({ base with softReset := [0x10] }).canIssue .debug = true := by decide +kernel
/-! ### Hypotheses of the core statements -/

/-- The bytes of the words `ws`, lowest first. -/
def wordBytes (ws : List Word) : List Byte := ws.flatMap fun w => (List.range 4).map fun i => w.extractLsb' (8 * i) 8

/-- `base` with core `x` running and the words `ws` at the start of its instruction memory. -/
def coreAt (x : Nat) (ws : List Word) : State :=
  let s := (base.fsetB F.PAGE_CTRL_EN (corePage x) true).fsetB F.CORE_CTRL_RUN (coreReg x) true
  { s with
    mem := memPuts [] (privBase x) (wordBytes ws)
    boot := { s.boot with copying := [] } }

/-- `coreAt x [w]` with core `x` changed by `f`. -/
def coreWith (x : Nat) (w : Word) (f : Core → Core) : State := (coreAt x [w]).setCore x (f ((coreAt x [w]).core x))

/-- Core `x` of `s` issues the word `w`, and its fetch changes nothing. -/
def issuesWord (s : State) (x : Nat) (w : Word) : Bool :=
  s.wf && s.coreIssues x && decide ((s.fetch x).1 = s) && (s.fetch x).2.toOption == some w

/-- The word of major opcode `m` and fn `n` with rd = 1, ra = 2 and rb = 3. -/
def kForm (m n : Nat) : Word := BitVec.ofNat 32 (m * 2 ^ 26 + 2 ^ 21 + 2 * 2 ^ 16 + 3 * 2 ^ 11 + n * 2 ^ 5)

theorem test_KAlu : ((kFns 1).map (kForm 1) ++ [0, 1, 2].map (kForm 2)).all (fun w =>
    issuesWord (coreAt 0 [w]) 0 w && bits w 0 5 == 0) = true := by decide +kernel

theorem test_KImmediate : [7, 8, 9, 0xA, 0xB, 0xC, 0xD, 0xE].all (fun m =>
    issuesWord (coreAt 4 [BitVec.ofNat 32 (m * 2 ^ 26 + 0x8000)]) 4 (BitVec.ofNat 32 (m * 2 ^ 26 + 0x8000))) = true ∧
    [0, 1, 2, 3].all (fun k => issuesWord (coreAt 1 [BitVec.ofNat 32 (0xF * 2 ^ 26 + k * 2 ^ 5)]) 1
      (BitVec.ofNat 32 (0xF * 2 ^ 26 + k * 2 ^ 5))) = true := by decide +kernel

/-- g2 of a core set to `v`. -/
def withG2 (v : Word) (c : Core) : Core := { c with g := c.g.set 2 v }

/-- A word of the memory group: major opcode `m`, rd = 1, ra = 2, mode 1, offset 0. -/
def kMem (m : Nat) : Word := BitVec.ofNat 32 (m * 2 ^ 26 + 2 ^ 21 + 2 * 2 ^ 16 + 2 ^ 14)

theorem test_KLoads_private : [0x10, 0x11, 0x12, 0x13, 0x14].all (fun m =>
    issuesWord (coreWith 0 (kMem m) (withG2 0x20000#32)) 0 (kMem m) && bits (kMem m) 14 2 == 1 &&
    (coreWith 0 (kMem m) (withG2 0x20000#32)).ecc == [] && privMapped 0 0x20000) = true := by decide +kernel

theorem test_KLoads_access :
    ((coreAt 0 []).coreLoad 0 0x20000 4).2 = .ok 0 ∧ ((coreAt 0 []).coreLoad 0 0x50000 4).2 = .raise 4 ∧
    issuesWord (coreWith 0 (kMem 0x14) (withG2 0x20002#32)) 0 (kMem 0x14) = true := by decide +kernel

theorem test_KStores_private : [0x18, 0x19, 0x1A].all (fun m =>
    issuesWord (coreWith 2 (kMem m) (withG2 0x30000#32)) 2 (kMem m) && privMapped 2 0x30000) = true := by decide +kernel

theorem test_KStores_access :
    ((coreAt 0 []).coreStore (coreAt 0 []) 0 0x10000000 4 5#32).2 = .ok 0 ∧
    ((coreAt 0 []).coreStore (coreAt 0 []) 0 0x50000 4 5#32).2 = .raise 4 ∧
    issuesWord (coreWith 0 (kMem 0x1A) (withG2 0x20001#32)) 0 (kMem 0x1A) = true := by decide +kernel

theorem test_KControlFlow : [0x20, 0x21, 0x22, 0x23, 0x24, 0x25, 0x28, 0x29, 0x2A].all (fun m =>
    let w := BitVec.ofNat 32 (m * 2 ^ 26 + 2 ^ 21 + 2 * 2 ^ 16)
    issuesWord (coreAt 0 [w]) 0 w && ((coreAt 0 [w]).core 0).slot.isNone && !((coreAt 0 [w]).core 0).atEnd 0 &&
    bits w 0 16 == 0) = true := by decide +kernel

theorem test_KControlFlow_loop : [0#32, 5#32].all (fun k =>
    let w := BitVec.ofNat 32 (0x30 * 2 ^ 26 + 2 ^ 12) ||| k
    issuesWord (coreAt 0 [w]) 0 w && bits w 24 2 == 0 && bits w 12 11 == 1 && bits w 23 1 == 0) = true := by decide +kernel

theorem test_KControlFlow_rpt : [4096#32, 4097#32].all (fun v =>
    let w := BitVec.ofNat 32 (0x31 * 2 ^ 26 + 2 ^ 23 + 2)
    let s := coreWith 0 w (withG2 v)
    issuesWord s 0 w && !s.rptForbidden 0 && bits w 24 2 == 0 && bits w 12 11 == 0 && bits w 5 7 == 0 &&
      ((s.core 0).gr (bits w 0 5) == v)) = true := by decide +kernel

theorem test_KAccumulators : [(0x20, 0), (0x3F, 0), (0x20, 8), (0x20, 9), (0x20, 0xA), (0x3F, 0xA), (0x20, 0xB)].all (fun p =>
    let w := BitVec.ofNat 32 (3 * 2 ^ 26 + (p.1 % 2 ^ 5) * 2 ^ 21 + p.2 * 2 ^ 5)
    issuesWord (coreAt 0 [w]) 0 w && bits w 0 5 == 0 && kMajor w == 3) = true := by decide +kernel

/-- g1 and g2 of a core set to `a` and `b`. -/
def withG12 (a b : Word) (c : Core) : Core := { c with g := (c.g.set 1 a).set 2 b }

/-- mac.d with rx = 1, ry = 2, px and py. -/
def kDualWord : Word := BitVec.ofNat 32 (0x34 * 2 ^ 26 + 2 ^ 20 + 2 * 2 ^ 15 + 3 * 2 ^ 11)

theorem test_KDualFetch : [(0x20000#32, 0x30000#32), (0x20000#32, 0x20004#32), (0x20001#32, 0x30000#32),
      (0x23FFC#32, 0x34000#32), (0x30000#32, 0x23FFC#32)].all (fun p =>
    let s := coreWith 0 kDualWord (withG12 p.1 p.2)
    issuesWord s 0 kDualWord && bits kDualWord 0 11 == 0 && s.ecc == [] && kMajor kDualWord == 0x34) = true := by
  decide +kernel

theorem test_KSystem : [(0, 0), (0, 5), (1, 0), (1, 18), (8, 0), (9, 0), (0x10, 0), (0x11, 0)].all (fun p =>
    let w := BitVec.ofNat 32 (0x3C * 2 ^ 26 + p.2 * 2 ^ 11 + p.1 * 2 ^ 5)
    let s := coreAt 0 [w]
    issuesWord s 0 w && bits w 0 5 == 0 && (s.core 0).slot.isNone && (s.core 0).sup &&
      !((s.core 0).landAll.unresumable 0) && !(s.core 0).atEnd (s.core 0).next) = true := by decide +kernel

theorem test_KSystem_user : [0#32, 1#32, 0x10#32].all (fun n =>
    let w := BitVec.ofNat 32 (0x3C * 2 ^ 26 + 2 ^ 11) ||| (n <<< 5)
    let s := coreWith 0 w (fun c => { c with psw := 0#32 })
    issuesWord s 0 w && !(s.core 0).sup) = true := by decide +kernel

theorem test_KEvents_interrupt :
    let s := (coreWith 0 0#32 (fun c => { c with psw := 3#32, irqEn := [2#32, 0#32] })).setReg .EVR_CIRQ 0 3#32
    s.coreRuns 0 = true ∧ (s.core 0).slot = none ∧ (s.core 0).rpt = none ∧ s.irqWord 0 0 = 3#32 ∧
      s.irqTaken 0 = some 1 := by decide +kernel

theorem test_KEvents_fetch :
    (coreWith 0 0#32 (fun c => { c with next := 0x8000#32 })).coreIssues 0 = true ∧
    ({ coreAt 0 [] with ecc := [(privBase 0, true)] }).coreIssues 0 = true ∧
    issuesWord (coreAt 0 [0#32]) 0 0#32 = true ∧ kUndefined 0#32 = true := by decide +kernel

theorem test_KEntry : (15 : Nat) < 16 ∧ (63 : Nat) < 64 ∧ Core.reset.rpt = none ∧
    ({ Core.reset with rpt := some (4096, true) } : Core).rpt = some (4096, true) := by decide

theorem test_KPipeline : Core.reset.writes = [] ∧ Core.reset.rpt = none ∧ Core.reset.slot = none ∧
    Core.reset.atEnd Core.reset.next = false ∧
    ({ Core.reset with loopA := [false, true, false], loopC := [0, 2, 0] } : Core).atEnd 0 = true := by decide

theorem test_KFrame : (coreAt 0 [kForm 1 0]).wf = true ∧ after? (.kAdd 0) (coreAt 0 [kForm 1 0]) =
    some ((coreAt 0 [kForm 1 0]).setCore 0 { (coreAt 0 [kForm 1 0]).core 0 with next := 4#32 }) := by decide +kernel

theorem test_KSystem_wait :
    let w := BitVec.ofNat 32 (0x3C * 2 ^ 26 + 0x11 * 2 ^ 5)
    let s := (coreWith 0 w (fun c => { c with irqEn := [2#32, 0#32] })).setReg .EVR_CIRQ 0 3#32
    issuesWord s 0 w && (s.core 0).sup && s.irqTaken 0 == some 1 && (coreAt 0 [w]).irqTaken 0 == none &&
      (s.core 0).stall.isNone = true := by decide +kernel
/-! ### Hypotheses of the statements about the fabric and the baskets -/

/-- `base` with every bit of CLK_PEN 1 and core S as the writer: an admitted write of `v` to register `r`, index `n`. -/
def takes (s : State) (r : Reg) (n : Nat) (v : Word) : Bool := s.wf && r.ok n && s.admits (.core 0) r n v

theorem test_WriteLands :
    takes base .BKD_SET_LO 0 1#32 && takes base .BKD_SET_HI 0 5#32 && takes (baseEn 0x65) .GPIO_OUT 1 0xFFFFFFFF#32 &&
      takes (baseEn 0x0B) .BS_TARGET_LO 7 9#32 = true := by decide +kernel

theorem test_SoftReset : base.wf = true ∧ (pageInfo 0x63).isSome = true ∧
    base.admits (.core 0) .PAGE_CTRL 0x63 (1#32 ||| 2#32) = true ∧ base.softReset = [] := by decide +kernel

theorem test_FreezeGroups :
    let s := baseEn 0x06
    (s.freezeGroup .BKD_TICK_LO 0).any (fun g => decide ((Reg.BKD_TICK_LO, 0) ≠ g.release) && s.performs (.core 0) 0x06 &&
      (s.frozen g (s.who (.core 0)).cap).isNone &&
      decide ((Reg.BKD_TICK_LO, 0) ∈ g.members) && decide (g.release ∈ g.members)) = true := by decide +kernel

theorem test_FreezeGroups_stale :
    let s := match after? (.freezeGroupRead (.core 0) (Reg.addr .BKD_TICK_LO 0)) base with
      | some t => t
      | none => base
    s.wf = true ∧ (s.freezeGroup .BKD_TICK_LO 0).any (fun g => (s.frozen g (s.who (.core 0)).cap).isSome) = true := by
  decide +kernel

theorem test_DebugPort : base.canIssue .debug = true ∧ fabTarget 0x100040010040 = .page 0x10040 ∧
    fabTarget (sramBase 0 + 8) = .sram 0 8 ∧ base.fabCause (sramBase 0 + 8) 8 (base.who .debug).secure = 0 ∧
    base.ecc = [] := by decide +kernel

/-- `base` with EN of the basket page, and slot 0 as `x` with its state register `w`. -/
def slotAs (x : Slot) (w : Word) : State := ((baseEn 0x0B).setSlot 0 x).setReg .BS_STATE 0 w

theorem test_BasketCommands :
    takes (slotAs ⟨[], false, 0, 0, 0, none⟩ 0#32) .BS_VALUE 0 0#32 &&
      takes (slotAs ⟨List.replicate 512 ⟨0#32, 0#32, 0#32⟩, false, 0, 0, 0, none⟩ 0#32) .BS_VALUE 0 0#32 &&
      takes (slotAs ⟨[], false, 0, 0, 0, none⟩ 0#32) .BS_CTRL 0 (bsWord 1 false) &&
      takes (slotAs ⟨[], false, 0, 0, 0, none⟩ 1#32) .BS_CTRL 0 (bsWord 2 false) &&
      takes (slotAs ⟨[], false, 0, 0, 0, none⟩ 2#32) .BS_CTRL 0 (bsWord 3 false) &&
      takes (slotAs ⟨[], false, 0, 0, 0, none⟩ 3#32) .BS_CTRL 0 (bsWord 4 false) = true := by decide +kernel

theorem test_BasketCommands_arm :
    let s := slotAs ⟨[], true, 0, 0, 0, none⟩ 1#32
    let u := slotAs ⟨[⟨0x7F000#32, 0#32, 0#32⟩], true, 0, 0, 0, none⟩ 1#32
    s.pageLive 0x0B = true ∧ (s.slot 0).arming = true ∧ s.validate 0 = none ∧
      (u.validate 0).any (fun p => decide (p.1 < 16) && decide (p.2 < 512)) = true ∧ u.performs (.core 0) 0x0B = true := by
  decide +kernel

theorem test_BasketPress :
    let s := slotAs ⟨[⟨0x40000000#32 + BitVec.ofNat 32 (Reg.addr .AIN_PRESET_LO 0), 0xFF#32, 3#32⟩], false, 0, 0, 0, some 0⟩ 2#32
    s.wf = true ∧ (s.slot 0).lost = some 0 ∧ (s.slot 0).twin = 0 ∧
      (s.slot 0).entries.all (fun e => regAt e.at == some (Reg.AIN_PRESET_LO, 0) && Reg.ok .AIN_PRESET_LO 0) = true := by
  decide +kernel

theorem test_WriteLands_rest :
    takes (baseEn 0x65) .GPIO_OE 1 0xFFFF#32 && takes (baseEn 0x18) .TACH_CFG 31 0x15#32 && takes base .BKD_SET_HI 0 1#32 &&
      takes (baseEn 0x5E) .PAIR_CFG 0 ((baseEn 0x5E).reg .PAIR_CFG 0) = true := by decide +kernel

theorem test_DebugPort_copy :
    let s := { base with darn := { base.darn with copy := some (0, 0, 8) } }
    s.mend.on = false ∧ s.lines.debug = [] ∧ s.power.senOn = true ∧ s.wf = true ∧
      s.darn.copy.any (fun x => x.1 == 0 && x.2.1 == 8 / 65536) = true ∧
      s.fabCause (sramBase 0 + 8) 8 (s.who .debug).secure = 0 := by decide +kernel

theorem test_DebugPort_mend :
    ({ base with mend := { base.mend with on := true } }).power.senOn = true ∧ (0x10000000 : Nat) < mendBase := by decide

/-- Slot 7 of `base` armed for a seam of generator 5, which has fallen, with one entry for AIN_PRESET_LO; `l` is a lost entry. -/
def pressing (l : Option Nat) : State :=
  let x : Slot := ⟨[⟨0x40000000#32 + BitVec.ofNat 32 (Reg.addr .AIN_PRESET_LO 0), 0xFF#32, 3#32⟩], false, 0, 0, 0, l⟩
  let s := ((baseEn 0x0B).setSlot 7 x).fset F.BS_STATE_STATE 7 2
  { s.fset F.BS_SEAM_GEN 7 5 with seams := [5] }

theorem test_BasketPress_window :
    [none, some 0].all (fun l =>
      (pressing l).wf && (List.range 8).all (fun k => (pressing l).bsMeets k 640 == decide (k = 7)) &&
        (List.range 8).all (fun k => !(pressing l).bsPassed k 640 ((pressing l).bsSeamNum k)) && !(pressing l).bsWaits 7 9 &&
        ((pressing l).slot 7).twin == 0) = true ∧
      (pressing none).pressCheck 7 = none ∧ (pressing (some 0)).pressCheck 7 = some (3, 0) ∧
      (pageInfo (Reg.addr .AIN_PRESET_LO 0 / 0x1000)).any (fun i => base.domLive i.1) = true := by decide +kernel
/-! ### Hypotheses of the statements about tach inputs, angle engines and the epoch timer -/

/-- Tach input 31 enabled, FILT as `filt`, and as `x`. -/
def tachOn (filt : Nat) (x : Tach) : State :=
  let s := (baseEn 0x18).setReg .TACH_CFG 31 (BitVec.ofNat 32 (1 + 4 * filt))
  { s with tach := setAt ⟨false, none, none, 0⟩ s.tach 31 x }

theorem test_TachInputs_filter :
    let s := tachOn 5 ⟨true, some 24, some 0, 0⟩
    let u := tachOn 5 ⟨true, some 23, some 0, 0⟩
    s.wf = true ∧ s.pageLive 0x18 = true ∧ s.adcClock = true ∧ s.fbit F.TACH_LEVEL_LEVEL 0 31 = false ∧
      s.flag F.TACH_CFG_EN 31 = true ∧ s.pageEn 0x18 = true ∧ (0 + 24 ≤ 24 ∧ 23 < 0 + 24) ∧ u.wf = true := by
  decide +kernel

theorem test_TachInputs_pin :
    let s := tachOn 0 ⟨false, none, none, 0⟩
    let u := tachOn 255 ⟨false, none, none, 0⟩
    s.wf = true ∧ s.adcClock = true ∧ s.fget F.TACH_CFG_FILT 31 = 0 ∧ u.fget F.TACH_CFG_FILT 31 ≠ 0 ∧ u.wf = true ∧
      u.fbit F.TACH_LEVEL_LEVEL 0 31 = false ∧ u.pageEn 0x18 = true := by decide +kernel

/-- Engine 31 in state `st` with REF_SEEN, a reference of mode 1, 60 teeth and LEARN_BUSY as `busy`. -/
def angAs (st busy : Nat) : State :=
  ((baseEn 0x17).setReg .ANG_STATUS 31 (BitVec.ofNat 32 (st + 8 + 32 * busy))).setReg .ANG_CFG 31 (BitVec.ofNat 32 (60 + 2 ^ 26))

theorem test_AngleCommands :
    takes (angAs 2 0) .ANG_CTRL 31 8#32 && takes (angAs 2 0) .ANG_CTRL 31 4#32 && takes (angAs 2 0) .ANG_CTRL 31 2#32 &&
      takes (angAs 2 0) .ANG_CFG 31 60#32 && takes (angAs 2 0) .ANG_TBL_DATA 31 0xFFFF#32 &&
      takes (angAs 2 1) .ANG_TBL_DATA 31 0#32 && takes (angAs 2 0) .ANG_TBL_CTRL 31 1#32 = true := by decide +kernel

theorem test_AngleCommands_learn :
    let s := angAs 2 0
    s.fget F.ANG_STATUS_STATE 31 = 2 ∧ s.flag F.ANG_STATUS_REF_SEEN 31 = true ∧ s.fget F.ANG_CFG_PPR 31 ≤ 1024 ∧
      s.fget F.ANG_CFG_REF_MODE 31 ≠ 0 ∧ (angAs 1 0).fget F.ANG_STATUS_STATE 31 ≠ 2 ∧ takes (angAs 1 0) .ANG_CTRL 31 4#32 = true := by
  decide +kernel

theorem test_AngleCommands_end :
    let s := angAs 2 1
    let u := { s with engines := setAt Engine.zero s.engines 31 { s.eng 31 with learnRevs := 2 ^ s.fget F.ANG_LOOP_LEARN_LOG2 31 } }
    u.wf = true ∧ u.pageLive (0x10 + 31 / 4) = true ∧ u.flag F.ANG_STATUS_LEARN_BUSY 31 = true ∧
      2 ^ u.fget F.ANG_LOOP_LEARN_LOG2 31 ≤ (u.eng 31).learnRevs := by decide +kernel

theorem test_AngleCommands_timeout :
    (angAs 1 0).fget F.ANG_STATUS_STATE 31 = 1 ∧ (angAs 1 0).pageLive (0x10 + 31 / 4) = true ∧
      (angAs 1 0).adcClock = true := by decide +kernel

/-- The epoch timer with RUN as `run`, an epoch in progress as `now`, and an edge due at tick 640. -/
def edgeDue (run now : Bool) : State :=
  let s := (baseEn 0x20).fsetB F.AIN_CTRL_RUN 0 run
  { s with epoch := { s.epoch with running := now, next := some 640, firstNum := some 7 } }

theorem test_EpochEdges :
    let s := edgeDue true false
    let u := edgeDue false true
    s.epoch.next = some 640 ∧ s.domLive .acq = true ∧ s.pageClocked 0x20 = true ∧ s.adcClock = true ∧
      (s.routerDrain 16).epoch.running = false ∧ (u.routerDrain 16).epoch.running = true ∧
      (u.routerDrain 16).flag F.AIN_CTRL_RUN = false ∧ (State.reset.adcClock = false ∨ State.reset.pageClocked 0x20 = false) := by
  decide +kernel

theorem test_EpochEdges_soft :
    takes (baseEn 0x19) .SEAM_SOFT 0 1#32 && takes ((baseEn 0x19).setReg .SEAM_SOFT 0 1#32) .SEAM_SOFT 0 1#32 = true := by
  decide +kernel
/-! ### Hypotheses of the statements about D_BK and the clocks -/

/-- `base` with the 32.768 kHz crystal running, TICK at its last value and BKD_CTRL as `ctrl`. -/
def bkdAs (ctrl : Nat) (second alarm : Bool) : State :=
  let s := ((base.setReg .BKD_CTRL 0 (BitVec.ofNat 32 ctrl)).setReg .BKD_TICK_LO 0 0xFFFFFFFF#32).setReg .BKD_TICK_HI 0 0xFFFF#32
  { s with bkd := { s.bkd with lfxo := true, second := second, alarm := alarm } }

theorem test_BackupTime :
    let s := bkdAs 17 false false
    s.wf = true ∧ s.get64 .BKD_TICK_LO .BKD_TICK_HI < 2 ^ 48 ∧ s.bkd.lfxo = true ∧ s.bkd.second = false ∧
      s.bkd.alarm = false ∧ s.flag F.BKD_CTRL_SET = true ∧ (bkdAs 1 false false).flag F.BKD_CTRL_SET = false ∧
      takes (bkdAs 1 false false) .BKD_CTRL 0 17#32 = true ∧ takes (bkdAs 1 false false) .BKD_CTRL 0 33#32 = true := by
  decide +kernel

theorem test_BackupTime_second :
    (bkdAs 33 true false).bkd.second = true ∧ (bkdAs 33 true false).flag F.BKD_CTRL_CAL_LOAD = true ∧
      (bkdAs 1 true false).flag F.BKD_CTRL_CAL_LOAD = false ∧ (bkdAs 9 false true).bkd.alarm = true ∧
      (bkdAs 9 false true).flag F.BKD_CTRL_ALARM_ARM = true := by decide +kernel

theorem test_BackupSupply :
    takes base .BKD_MEAS_CTRL 0 0x80000001#32 && takes base .BKD_BK 15 0xFFFFFFFF#32 && takes base .BKD_CTRL 0 65#32 &&
      (bkdAs 65 false false).flag F.BKD_CTRL_CRC_CHECK = true := by decide +kernel

theorem test_ClockSources_ready :
    let s := (base.setReg .CLK_READY 0 0#32).setReg .CLK_EN 0 0x7F#32
    let i := (List.range 18).find? fun i => s.srcOn i && (s.refOf i).all s.isReady && !s.isReady i && i != 0
    s.wf = true ∧ i.isSome = true ∧ s.power.senOn = true ∧ s.bkd.lfxo = false ∧
      (List.range 4).all (fun d => s.clkState (monDomain d) != 1) = true := by decide +kernel

theorem test_ClockSources_writes :
    takes base .CLK_SEL 0 0x222#32 && takes base .CLK_EN 0 0x7F#32 && takes base .CLK_PEN 7 0#32 = true := by decide +kernel

theorem test_ClockSources_refused :
    let s := base.setReg .CLK_READY 0 0#32
    s.performs (.core 0) 0x03 = true ∧ wordReserved .CLK_SEL 0 1#32 = false ∧ s.nowReserved .CLK_SEL 0 1#32 = false ∧
      bits 1#32 0 1 ≠ s.fget F.CLK_SEL_LF_SEL ∧ s.isReady 0 = false := by decide +kernel

theorem test_ClockSources_fail : base.srcOn 3 = true ∧ base.srcOn 2 = true ∧ base.power.senOn = true ∧
    (srcDomains 3).any (fun d => base.domPower (monDomain d) != .off && base.clkState (monDomain d) == 0) = true := by
  decide +kernel

/-- `base` with the clock states of the four switched domains as `w`. -/
def clkAs (w : Word) : State := base.setReg .CLKMON_STATE 0 w

theorem test_ClockMonitors :
    takes (clkAs 0xAA#32) .CLKMON_CMD 0 0xF#32 && takes (clkAs 0xFF#32) .CLKMON_CMD 0 0xF00#32 = true := by decide +kernel

theorem test_ClockMonitors_states :
    (clkAs 0xAA#32).clkState .acq = 2 ∧ (clkAs 0xFF#32).clkState .acq = 3 ∧ (clkAs 0x55#32).clkState .lnk = 1 ∧
      (clkAs 0xF3#32).basket.later = [] ∧
      ((clkAs 0xF3#32).domSources 0 ++ (clkAs 0xF3#32).clocks.wait.getD 0 []).all (clkAs 0xF3#32).isReady = true := by
  decide +kernel

theorem test_ClockMonitors_supply :
    let s := { base with power := { base.power with anaEn := true, anaPg := true } }
    let u := { base with power := { base.power with anaEn := true, ana := .off } }
    s.power.anaPg = true ∧ s.power.ana ≠ .off ∧ u.power.anaPg = false ∧ u.wf = true := by decide +kernel

theorem test_BackupTime_substitute :
    let s := { bkdAs 3 false false with bkd := { (bkdAs 3 false false).bkd with lfxo := false } }
    s.flag F.BKD_CTRL_SUBST = true ∧ s.power.senOn = true ∧ s.bkd.lfxo = false ∧ takes (bkdAs 1 false false) .BKD_CTRL 0 65#32 = true := by
  decide +kernel

theorem test_BackupSupply_pins :
    base.fbit F.BKD_WKPIN_LEVEL 0 1 = false ∧ base.bkd.lfxo = false ∧ (bkdAs 1 false false).bkd.lfxo = true ∧
      (bkdAs 1 false false).fget F.BKD_WKPIN_FILT1 ≤ 255 := by decide +kernel
/-! ### Hypotheses of the statements about operating points, modes and start-up -/

/-- `base` in mode `m`, with the mode `t` sought and a wake source armed for Night. -/
def modeAs (m t : Nat) : State :=
  ((base.setReg .PWR_STATUS 0 (BitVec.ofNat 32 (m + 256 * t))).setReg .WAKE_EN 0 0xFFFFFFFF#32).setReg .BKD_MIDWAKE 0 7#32

theorem test_OperatingPoints :
    let s := (baseEn 0x05).setReg .DVFS_TARGET 0 0x33#32
    let u := { s with clocks := { s.clocks with dvfs := some (1, 5, true), pmb := true } }
    takes s .DVFS_CAP 0 5#32 && takes s .DVFS_TARGET 0 0x11#32 && s.clocks.dvfs.isNone && s.pageEn 0x05 &&
      s.pointDue.isSome && u.clocks.dvfs.isSome && u.pageLive 0x05 && u.clocks.pmb && u.wf &&
      takes (baseEn 0x64) .PMB_CMD 0 0x80000000#32 = true := by decide +kernel

theorem test_PowerSteps :
    [(0, 1), (1, 2), (2, 3), (3, 4), (1, 0), (2, 0), (3, 2)].all (fun p =>
      (modeAs p.1 p.2).wf && (modeAs p.1 p.2).canStep p.1 p.2 && (modeAs p.1 p.2).stepRefused p.1 p.2 == 0 &&
      (modeAs p.1 p.2).basket.later.isEmpty) = true := by decide +kernel

theorem test_PowerSteps_refused :
    let s := (modeAs 2 3).setReg .WAKE_EN 0 0#32
    let u := (modeAs 2 0).setReg .CLKMON_STATE 0 1#32
    s.canStep 2 3 = true ∧ s.stepRefused 2 3 = 4 ∧ u.canStep 2 0 = true ∧ u.stepRefused 2 0 = 2 := by decide +kernel

theorem test_PowerSteps_end :
    let s := { base with power := { base.power with step := some (2, 0), anaPg := true } }
    let u := { base with power := { base.power with step := some (2, 0), anaPg := false } }
    let v := (base.setReg .DVFS_STATUS 0 1#32)
    let v := { v with power := { v.power with step := some (1, 2) } }
    s.wf = true ∧ s.power.wake = none ∧ s.power.thermal = false ∧ u.power.anaPg = false ∧ v.clocks.dvfs = none ∧
      v.fget F.DVFS_STATUS_ACQ_NOW = 1 := by decide +kernel

theorem test_PowerEvents :
    let s := { base with power := { base.power with pfwPin := true, pfwWait := true } }
    takes base .PWR_CTRL 0 4#32 && takes base .PWR_ASK 0 1#32 && !base.power.thermal && s.wf && s.power.pfwPin &&
      !s.pfw && s.power.senOn && s.power.pfwWait && base.pageEn 0x6E == false && (baseEn 0x6E).pageEn 0x6E &&
      !(baseEn 0x6E).temps.warned.contains 7 && (base.setReg .PWR_STATUS 0 (maskOf 11 1)).pfw = true := by decide +kernel

theorem test_PowerEvents_seal :
    (base.setReg .RETN_UNVER 2 1#32).unverified.length = 1 ∧
    ((modeAs 3 3).setReg .WAKE_TACH 0 0x80000000#32).fbit F.WAKE_TACH_ARM 0 31 = true ∧
    (modeAs 3 3).mode = 3 ∧ ((modeAs 3 3).reg .WAKE_EN).getLsbD 11 = true ∧ (modeAs 3 3).fbit F.WAKE_TACH_ARM 0 31 = false := by
  decide +kernel

/-- `base` with the ROM copies of `l` in progress. -/
def bootAs (l : List Nat) (parked running : Bool) : State :=
  { base with boot := { base.boot with copying := l, parked := parked, running := running } }

theorem test_BootStart :
    let off := { base with power := { base.power with senOn := false }, bkd := { base.bkd with wake := some (8, 3, true) } }
    off.wf && !off.power.senOn && off.bkd.wake.isSome && !off.bkd.fell && takes base .RESTART 0 0x5E7A#32 &&
      (bootAs [0] true true).recZero && (bootAs [0] true true).basket.later.isEmpty && (bootAs [1] false true).boot.copying.contains 1 &&
      (bootAs [1] false true).mode == 0 && takes (bootAs [] false true) .BOOT_MBOX 0 6#32 &&
      takes (bootAs [] false false) .BOOT_MBOX 0 0x46#32 && takes (bootAs [] false false) .BOOT_CTRL 0 0x11#32 = true := by
  decide +kernel

/-- A flash whose first header copy is valid: slot A at 0x10000, slot B at 0x20000, each of 64 KiB. -/
def flashHeader : List Byte :=
  let h := leBytes 4 0x464B4C47 ++ [1#8] ++ List.replicate 11 0#8 ++ leBytes 4 0x10000 ++ leBytes 4 0x20000 ++ leBytes 4 0x10000 ++
    List.replicate 0x20 0#8
  h ++ leBytes 4 (crc32c h)

/-- The mend responder with the frame `todo` waiting. -/
def mendAs (todo : Option (Nat × Nat × Nat × List Byte × Bool)) (verified : List Nat) : State :=
  let s := base.flashPut 0 flashHeader
  { s with mend := { s.mend with on := true, todo := todo, verified := verified }, fuses := { s.fuses with life := 1 } }

theorem test_MendAndWatchdogs :
    ([1, 2, 3, 4, 5, 6].all (fun c => (mendAs (some (c, 9, 0, [], false)) [1, 0]).wf) &&
      (mendAs none [1, 0]).header == some 0 && (mendAs none [1, 0]).flashNum 0x18 4 == 0x10000 &&
      (mendAs none [1, 0]).slotBase 0 1 == 0x20000 && (mendAs none [1, 0]).manifestCheck 0x10000 0x10000 == 1) = true := by
  decide +kernel

theorem test_MendAndWatchdogs_frame :
    let f := [0xA5#8, 1#8, 7#8, 0#8] ++ leBytes 4 5 ++ leBytes 2 1 ++ leBytes 2 0 ++ [0x5A#8]
    mendParse (f ++ leBytes 4 (crc32c f)) = some (1, 7, 5, [0x5A#8], true) := by decide +kernel

/-- Watchdog 4 of `base` enabled, with ACTION `a`, `left` to go and `since` its last kick. -/
def wdAs (a left since : Nat) : State :=
  let s := (baseEn 0x67).setReg .WD_CTRL 4 (BitVec.ofNat 32 (1 + 2 * a))
  { s with wdts := setAt ⟨0, 0⟩ s.wdts 4 ⟨left, since⟩ }

theorem test_MendAndWatchdogs_wd :
    takes (wdAs 2 5 0) .WD_KICK 4 0x5AC3#32 && takes (wdAs 2 5 0) .WD_KICK 4 0#32 && (wdAs 2 5 0).wdRuns 4 &&
      (wdAs 2 0 0).wdt 4 == ⟨0, 0⟩ && (wdAs 2 0 0).fget F.WD_CTRL_ACTION 4 == 2 && !base.wdRuns 4 &&
      takes (baseEn 0x67) .WD_KICK 4 0#32 = true := by decide +kernel

theorem test_BootStart_mailbox :
    let s := { bootAs [] false true with boot := { (bootAs [] false true).boot with step := 3 } }
    takes s .BOOT_MBOX 0 0x24#32 && takes s .BOOT_MBOX 0 0x43#32 && takes s .BOOT_MBOX 0 4#32 && s.boot.running && s.boot.step != 4 &&
      !(bootAs [] false false).boot.running = true := by decide +kernel

theorem test_MendAndWatchdogs_replies :
    let f := [0xA5#8, 1#8, 7#8, 0#8] ++ leBytes 4 5 ++ leBytes 2 1 ++ leBytes 2 0 ++ [0x5A#8]
    mendParse (f ++ leBytes 4 (crc32c f + 1)) = some (1, 7, 5, [0x5A#8], false) ∧ (mendAs none []).mend.on = true ∧
      (mendAs none []).mend.todo = none := by decide +kernel
/-! ### Hypotheses of the statements about streams, lanes, stacks, lines and pegs -/

/-- `base` with EN of page 0x31 set, lane 15 as `x`, in state `st`, with RL_CTRL as `ctrl`. -/
def laneAs (x : Lane) (st ctrl : Nat) : State :=
  let s := ((baseEn 0x31).setReg .RL_CTRL 15 (BitVec.ofNat 32 ctrl)).setReg .RL_STATUS 15 (BitVec.ofNat 32 st)
  { s with chains := { s.chains with lanes := setAt Lane.reset s.chains.lanes 15 x } }

/-- A frame of a lane with sequence number `seq` and qualifier `qual`. -/
def frameOf (seq qual : Nat) : LaneFrame := ⟨seq, 0, 0, qual, 0, [], [], ⟨0, 0, []⟩⟩

/-- Lane 15 with the frame `f` next and `l` in its window, on the grid of its settings. -/
def laneWith (f : LaneFrame) (l : List LaneFrame) : Lane :=
  { Lane.reset with fifo := [f], frames := l, grid := (base.fget F.RL_CFG_M 15, base.fget F.RL_CFG_REC_LOG2 15) }

theorem test_LanesAndStacks_lane :
    let s := laneAs (laneWith (frameOf 7 0) [frameOf 5 0]) 1 1
    s.wf = true ∧ (s.lane 15).fifo = [frameOf 7 0] ∧ (s.lane 15).out = [] ∧ s.pageClocked 0x31 = true ∧ s.adcClock = true ∧
      s.flag F.RL_CTRL_EN 15 = true ∧ s.pageEn 0x31 = true ∧ s.fget F.RL_STATUS_STATE 15 = 1 ∧
      (s.lane 15).grid = (s.fget F.RL_CFG_M 15, s.fget F.RL_CFG_REC_LOG2 15) := by decide +kernel

theorem test_LanesAndStacks_table :
    takes (laneAs Lane.reset 0 0) .RL_CTRL 15 512#32 && takes (laneAs Lane.reset 0 0) .RL_CTRL 15 256#32 &&
      takes (laneAs Lane.reset 0 0) .RL_TBL_DATA 15 0xFFFF#32 && takes (baseEn 0x2B) .STR_CTRL 63 0x80100F00#32 &&
      (laneAs Lane.reset 1 512).flag F.RL_CTRL_COPY 15 && (laneAs Lane.reset 1 512).pageLive 0x31 &&
      !(laneAs Lane.reset 1 512).flag F.RL_CTRL_SWAP 15 = true := by decide +kernel

/-- Stack 3 of `base` in state `st`, as `k`, with STK_EN and STK_PG. -/
def stackAs (st : Nat) (k : HbmStack) (pg : Bool) : State :=
  let s := (baseEn 0x3D).setReg .HBMC_STATE 3 (BitVec.ofNat 32 st)
  { s with lines := { s.lines with hbm := setAt HbmStack.reset s.lines.hbm 3 k }, power := { s.power with stkEn := true, stkPg := pg } }

theorem test_LanesAndStacks_stack :
    takes (stackAs 0 HbmStack.reset true) .HBMC_CTRL 3 1#32 && takes (stackAs 0 HbmStack.reset false) .HBMC_CTRL 3 1#32 &&
      (stackAs 1 { HbmStack.reset with mode := some 1 } true).pageLive 0x3D &&
      (stackAs 2 HbmStack.reset true).fget F.HBMC_STATE_STATE 3 == 2 &&
      ((stackAs 0 { HbmStack.reset with waitPg := some 1 } false).stack 3).waitPg.isSome = true := by decide +kernel

/-- `base` with HBM up and line 63 on with a size of one unit of 512 blocks, a FLUSH_MS of 100 and a HEM of 64; the line as
`x`, and `l` what else the lines hold. -/
def lineAs (x : Line) (l : Lines → Lines) : State :=
  let s := (((baseEn 0x38).fsetB F.PAGE_CTRL_EN 0x39 true).fsetB F.PAGE_CTRL_EN 0x3E true).setReg .LINE_CTRL 63 0x00400003#32
  let s := ((s.setReg .LINE_SIZE 63 1#32).setReg .LINE_SIZE 62 1#32).setReg .LINE_BASE 62 1#32
  let s := s.fsetB F.GOV_STATUS_HBM_UP 0 true
  { s with
    lines := l { s.lines with lines := setAt Line.reset s.lines.lines 63 x }
    power := { s.power with stkEn := true, stkPg := true } }

/-- An item of stream 2 for line `l`. -/
def itemFor (l : Nat) : LineItem := ⟨l, 2, 0, [0], 0, 0, true, [1#8, 2#8]⟩

/-- `s` with the item `it` at the head of what stream 2 has for the lines. -/
def withItem (it : LineItem) (s : State) : State :=
  { s with chains := { s.chains with streams := s.chains.streams.set 2 { StreamSt.reset with fifo := [it] } } }

theorem test_LinesAndPegs_item :
    let s := withItem (itemFor 63) (lineAs Line.reset id)
    s.wf = true ∧ s.lineFifo 2 = [itemFor 63] ∧ s.pageLive 0x38 = true ∧ s.lineOn 63 = true ∧ s.lineRoom = true ∧
      s.flag F.LINE_CTRL_FLUSH 63 = false ∧ (s.line 63).flush = false ∧ s.lineOn 62 = false ∧
      (withItem (itemFor 62) s).lineFifo 2 = [itemFor 62] := by decide +kernel

theorem test_LinesAndPegs_line :
    let s := lineAs { Line.reset with payload := [1#8] } id
    let full := { s with lines := { s.lines with waiting := List.replicate 32 (63, []) } }
    takes s .LINE_CTRL 63 0x00400007#32 && takes s .LINE_CTRL 62 0x00400003#32 && s.lineOn 63 && s.lineRoom &&
      s.fget F.LINE_CFG_FLUSH_MS 63 != 0 && (s.line 63).payload == [1#8] && full.lineRoom == false &&
      s.fget F.LINE_CTRL_EN 62 == 0 = true := by decide +kernel

theorem test_LinesAndPegs_window :
    let s := lineAs Line.reset id
    let u := (lineAs Line.reset (fun l => { l with short := [(63, 0)] })).setReg .LINE_WSTATE 0 2#32
    s.pageLive 0x3E = true ∧ s.lines.waiting = [] ∧ s.lines.owed = [] ∧ s.lines.debug = [] ∧
      (List.range 64).all (fun l => !s.flag F.LINE_CTRL_FLUSH l && !(s.line l).flush) = true ∧
      u.lines.short = [(63, 0)] ∧ u.fget F.LINE_WSTATE_STATE = 2 ∧ u.lines.waiting.length < 32 ∧ u.pageLive 0x38 = true := by
  decide +kernel

/-- Peg 0 of line 63 as `p`. -/
def pegAs (p : Peg) : State :=
  lineAs { Line.reset with written := [(0, 512)] } (fun l => { l with pegs := l.pegs.set 0 { p with line := 63 } })

theorem test_LinesAndPegs_set :
    let s := pegAs { Peg.reset with first := 500, count := 446 }
    takes s .PEG_CMD 0 1#32 && s.pegSel == 0 && (s.growing 63).isEmpty && s.lineB 63 == 512 &&
      ivCountRun 512 (s.line 63).written 500 446 == 446 &&
      decide (ivCount (ivAddRun 512 (s.protectedOf 63) 500 446) 0 512 + 64 + 2 ≤ 512) &&
      takes (pegAs { Peg.reset with first := 512, count := 1 }) .PEG_CMD 0 1#32 = true := by decide +kernel

theorem test_LinesAndPegs_arm :
    takes (pegAs { Peg.reset with before := 446 }) .PEG_CMD 0 2#32 && takes (pegAs { Peg.reset with before := 447 }) .PEG_CMD 0 2#32 &&
      takes (pegAs { Peg.reset with state := 2, before := 10, after := 5 }) .PEG_CMD 0 3#32 &&
      takes (pegAs { Peg.reset with state := 1, count := 9 }) .PEG_CMD 0 4#32 &&
      ((pegAs { Peg.reset with state := 2 }).growing 63).isEmpty = true := by decide +kernel

theorem test_LinesAndPegs_fetch :
    let s := (lineAs Line.reset id).setReg .LINE_FETCH_DST_LO 0 (BitVec.ofNat 32 (sramBase 0))
    let s := s.setReg .LINE_FETCH_DST_HI 0 (BitVec.ofNat 32 (sramBase 0 / 2 ^ 32))
    let u := lineAs Line.reset (fun l => { l with fetch := some ⟨63, 0, 1, sramBase 0, [], 0⟩ })
    takes s .LINE_FETCH_CTRL 0 0x8000013F#32 && takes s .LINE_FETCH_CTRL 0 0x8000013E#32 && s.lines.fetch.isNone && s.lineOn 63 &&
      inSram (s.get64 .LINE_FETCH_DST_LO .LINE_FETCH_DST_HI 0) 4096 && u.lines.fetch.isSome && u.hbmUp && u.pageLive 0x38 &&
      takes u .LINE_FETCH_CTRL 0 0x8000013F#32 = true := by decide +kernel

theorem test_LanesAndStacks_rinse :
    let s := (lineAs Line.reset (fun l => { l with gov := [1000, 0, 0, 0, 0] })).fsetB F.RINSE_CTRL_EN 0 true
    let s := s.fset F.RINSE_POS_LINE 0 63
    let a := s.fget F.LINE_BASE_UNITS 63 * 2 ^ 21 + 4096 * s.fget F.RINSE_POS_BLOCK
    s.wf && s.flag F.RINSE_CTRL_EN && s.pageEn 0x3E && s.hbmUp && s.lineOn (s.fget F.RINSE_POS_LINE) && s.lines.owed.isEmpty &&
      decide (s.fget F.RINSE_POS_BLOCK + 1 < s.lineB 63) && s.govFits 4 (4096 + 32 * s.rinseFixes a) = true := by decide +kernel

theorem test_LinesAndPegs_governed :
    let f : Fetch := ⟨63, 0, 1, sramBase 0, [], 0⟩
    let s := lineAs Line.reset (fun l => { l with fetch := some f, gov := [1000, 0, 0, 0, 0] })
    let u := lineAs { Line.reset with written := [(0, 512)] } (fun l => { l with fetch := some f, gov := [0, 0, 0, 0, 0] })
    s.lines.used + 4096 * (f.count - f.pos) ≤ s.lines.gov.getD 0 0 * 1000 ∧ s.hbmUp = true ∧ s.pageLive 0x38 = true ∧
      ivCount (u.line 63).written 0 1 ≠ 0 ∧ u.lines.owed = [] ∧ u.lines.grants = [] ∧ u.govFits 2 4096 = false := by decide +kernel
/-! ### Hypotheses of the statements about the router, the cells and the inputs -/

/-- `base` with both router pages on. -/
def routed : State := (baseEn 0x08).fsetB F.PAGE_CTRL_EN 0x09 true

theorem test_RouterAndCells_cores :
    takes (baseEn 0x71) .CORE_CTRL (coreReg 2) 2#32 && !(baseEn 0x71).flag F.CORE_CTRL_RUN (coreReg 2) && takes (coreAt 2 []) .CORE_CTRL (coreReg 2) 0#32 &&
      (coreAt 2 []).flag F.CORE_CTRL_RUN (coreReg 2) && takes (baseEn 0x71) .CORE_CTRL (coreReg 2) 1#32 = true := by decide +kernel

/-- `routed` with channel 127 listening to generator 0x80. -/
def channelled : State := (routed.fsetB F.EVR_CFG_EN 127 true).fset F.EVR_CFG_SRC 127 0x80

theorem test_RouterAndCells_pulse :
    (genDomain 0x80).any (fun d => channelled.domLive d) && channelled.power.senOn && channelled.router.inp.isEmpty &&
      channelled.router.fires.isEmpty && channelled.router.chan.isEmpty && channelled.router.task.isEmpty &&
      channelled.basket.window == 0 && channelled.cellsIdle &&
      (List.range 128).all (fun u => channelled.flag F.EVR_CFG_EN u == decide (u = 127)) && channelled.pageEn 0x09 &&
      channelled.fget F.EVR_CFG_SRC 127 == 0x80 && !channelled.flag F.EVR_CSTAT_LOOP_TRIP 127 &&
      decide (channelled.router.guard.getD 127 0 < channelled.fget F.EVR_GUARD_N 127) && channelled.fget F.WAKE_CFG_CH != 127 &&
      (List.range 224).all (fun u => !channelled.flag F.EVR_TSEL_EN u) = true := by decide +kernel

theorem test_RouterAndCells_latch :
    let s := (routed.fsetB F.EVR_TSEL_EN 0xDF true).fset F.EVR_TSEL_SELA 0xDF 127
    let s := { s with router := { s.router with task := [127] } }
    s.wf = true ∧ 127 ∈ s.router.task ∧ s.pageEn 0x08 = true ∧ s.pageEn 0x09 = true ∧ s.domLive (latchDomain 4) = true ∧
      s.flag F.EVR_TSEL_EN (0x40 + 32 * 4 + 31) = true ∧ s.fget F.EVR_TSEL_SELA (0x40 + 32 * 4 + 31) = 127 ∧
      s.basket.window = 0 := by decide +kernel

theorem test_RouterAndCells_writes :
    takes routed .EVR_FIRE 3 0xFFFFFFFF#32 &&
      (List.range 32).all (fun i => routed.chanPass (routed.who (.core 0)) (96 + i)) && routed.pageLive 0x09 &&
      takes (baseEn 0x0A) .EVL_CELL_TT 31 0xCAFE#32 && takes (baseEn 0x0A) .EVL_CELL_MODE 31 0#32 &&
      takes (baseEn 0x0A) .EVL_CELL_IN 31 0#32 && ((baseEn 0x0A).fset F.EVL_CELL_MODE_FMODE 31 1).fget F.EVL_CELL_MODE_FMODE 31 == 1 &&
      (baseEn 0x0A).pageEn 0x0A = true := by decide +kernel

theorem test_RouterAndCells_timers :
    let s := (baseEn 0x66).setReg .TIM_CTRL 7 (BitVec.ofNat 32 (2 ^ F.TIM_CTRL_RUN.lo))
    s.pageEn 0x66 = true ∧ s.flag F.TIM_CTRL_RUN 7 = true ∧ s.fget F.TIM_COUNT_COUNT 7 ≤ s.fget F.TIM_TOP_TOP 7 ∧
      s.domLive .acq = true := by decide +kernel

/-- `base` with EN of AIN, RUN as `run` and the alignment in state `st`. -/
def ainAs (run : Bool) (st : Nat) : State :=
  ((baseEn 0x20).fsetB F.AIN_CTRL_RUN 0 run).fset F.AIN_ALIGN_STATUS_STATE 0 st

theorem test_InputArray_run :
    takes (ainAs false 0) .AIN_CTRL 0 1#32 && takes (ainAs true 1) .AIN_CTRL 0 0#32 && (ainAs false 0).adcClock &&
      (ainAs false 0).fget F.AIN_ALIGN_MODE == 0 && !(ainAs true 1).epoch.running && takes (ainAs false 0) .AIN_GRP_PWR 0 0xFFF#32 &&
      (ainAs true 3).pageLive 0x20 && (ainAs true 4).fget F.AIN_ALIGN_STATUS_STATE == 4 &&
      ((ainAs false 0).setReg .AIN_GRP_PWR 0 0x800#32).fbit F.AIN_GRP_PWR_EN 0 11 = true := by decide +kernel

/-- Module position 11 of `ainAs` as `m`, in state `st`. -/
def moduleAs (m : Module) (st : Nat) : State :=
  let s := (ainAs false 0).fset F.AIN_MOD_STATE_STATE 11 st
  { s with modules := setAt ⟨true, false, none⟩ s.modules 11 m }

theorem test_InputArray_module :
    takes (moduleAs ⟨false, false, none⟩ 0) .AIN_IDCOMMIT 0 11#32 && takes (moduleAs ⟨false, false, none⟩ 1) .AIN_IDCOMMIT 0 11#32 &&
      ((moduleAs ⟨false, true, none⟩ 0).modules.getD 11 ⟨true, false, none⟩).counting &&
      commitReason (List.replicate 256 0#8) != 0 &&
      (moduleAs ⟨false, false, some (List.replicate 256 0#8)⟩ 1).flag F.AIN_MOD_STATE_STATE 11 = true := by decide +kernel

/-- Identity bus 1 of `base` as `x`, with STRETCH_MS 1. -/
def idbAs (x : IdBus) : State :=
  let s := (baseEn 0x63).fset F.IDB_CFG_STRETCH_MS 1 1
  { s with idb := setAt IdBus.idle s.idb 1 x }

theorem test_InputArray_bus :
    takes (idbAs IdBus.idle) .IDB_CMD 1 0x80000450#32 && takes (idbAs IdBus.idle) .IDB_CMD 1 0x40000450#32 &&
      (idbAs ⟨1, 4, 256, []⟩).pageLive 0x63 && (idbAs ⟨1, 4, 256, []⟩).idb.getD 1 IdBus.idle == ⟨1, 4, 256, []⟩ &&
      (idbAs ⟨1, 4, 256, []⟩).flag F.IDB_CFG_STRETCH_MS 1 = true := by decide +kernel

theorem test_RouterAndCells_fire :
    let s := { channelled with router := { channelled.router with fires := [127] } }
    s.wf && s.power.senOn && s.basket.window == 0 && s.router.task.isEmpty && s.router.tapHigh.isEmpty && s.pageEn (0x08 + 127 / 64) &&
      (List.range 128).all (fun u => s.flag F.EVR_CFG_EN u == decide (u = 127)) && !s.flag F.EVR_CSTAT_LOOP_TRIP 127 &&
      decide (s.router.guard.getD 127 0 < s.fget F.EVR_GUARD_N 127) && s.fget F.WAKE_CFG_CH != 127 = true := by decide +kernel

/-- Task input `k` listening to channel 127, which has a pulse, with further pages on. -/
def tasked (k : Nat) : State :=
  let s := forEach [0x23, 0x39, 0x52, 0x65, 0x66] (fun p s => State.fsetB s F.PAGE_CTRL_EN p true) routed
  let s := (s.fsetB F.EVR_TSEL_EN k true).fset F.EVR_TSEL_SELA k 127
  { s with router := { s.router with task := [127] } }

theorem test_RouterAndCells_tasks :
    [0, 8, 0x17, 0x18, 0x19, 0x1A, 0x29, 0x2A, 0x31].all (fun k =>
      (tasked k).wf && (tasked k).power.senOn && (tasked k).pageEn 0x08 && (tasked k).fget F.EVR_TSEL_SELA k == 127 &&
        (List.range 224).all (fun u => (tasked k).flag F.EVR_TSEL_EN u == decide (u = k)) &&
        (List.range 128).all (fun u => !(tasked k).flag F.EVR_CFG_EN u) && (tasked k).basket.window == 0 &&
        (tasked k).router.tapHigh.isEmpty && (tasked k).cellsIdle && (tasked k).domLive .acq && (tasked k).pageEn 0x66 &&
        (tasked k).pageEn 0x23 && (tasked k).adc.scan.isNone && (tasked k).wel.copies.isEmpty) = true := by decide +kernel

theorem test_RouterAndCells_tasks_act :
    let p := (tasked 7).fsetB F.PEG_TRIG_EN 7 true
    let p := { p with lines := { p.lines with pegs := setAt Peg.reset p.lines.pegs (p.fget F.PEG_TRIG_PEG 7) { Peg.reset with state := 2 } } }
    let t := ((tasked 0x17).fsetB F.WELQ_TPL_CTRL_EN 15 true).fset F.WELQ_QCFG_LOG2 (State.reset.fget F.WELQ_TPL_CTRL_QUEUE 15) 2
    let g := (tasked 0x31).fsetB F.EVR_GOUT_EN 7 true
    let off := { tasked 0x17 with power := { (tasked 0x17).power with ana := .off } }
    p.flag F.PEG_TRIG_EN 7 = true ∧ (p.peg (p.fget F.PEG_TRIG_PEG 7)).state = 2 ∧ p.pageEn 0x39 = true ∧
      t.pageEn 0x52 = true ∧ t.qCount (t.fget F.WELQ_TPL_CTRL_QUEUE 15) + 1 < t.qSlots (t.fget F.WELQ_TPL_CTRL_QUEUE 15) ∧
      ((tasked 0x18).fset F.RESULT_CTRL_TRIG 0 1).fget F.RESULT_CTRL_TRIG = 1 ∧
      g.fget F.EVR_GOUT_PIN 7 < 48 ∧ g.fget F.EVR_GOUT_ACTION 7 < 3 ∧ g.pageLive 0x65 = true ∧ g.flag F.EVR_GOUT_EN 7 = true ∧
      off.domLive .ana = false ∧ (State.reset.setReg .PAGE_CTRL 0 0#32).domLive .acq = false := by decide +kernel

theorem test_RouterAndCells_timers_due :
    let s := ((baseEn 0x66).fsetB F.TIM_CTRL_RUN 7 true).fset F.TIM_CMP_CMP 7 5
    s.adcClock = true ∧ s.fget F.TIM_CTRL_CLK 7 = 0 ∧ s.timers = [] ∧ s.fget F.TIM_COUNT_COUNT 7 < s.fget F.TIM_CMP_CMP 7 ∧
      (s.fset F.TIM_TOP_TOP 7 9).fget F.TIM_CMP_CMP 7 ≤ (s.fset F.TIM_TOP_TOP 7 9).fget F.TIM_TOP_TOP 7 ∧
      15 ∈ ({ s with timers := [15, 23] }).timers ∧ 23 ∈ ({ s with timers := [15, 23] }).timers := by decide +kernel
/-! ### Hypotheses of the statements about the converter and the serial ports -/

/-- The converter running: slice 8 in state `st` and as `x`, an edge due, INIT as `init`. -/
def adcAs (st : Nat) (x : Slice) (init : Bool) : State :=
  let s := (((baseEn 0x21).fsetB F.PAGE_CTRL_EN 0x22 true).fsetB F.PAGE_CTRL_EN 0x23 true).fset F.ADC_SLICE_STATE 8 st
  { s with
    adc := { s.adc with slices := setAt Slice.reset s.adc.slices 8 x, init := init }
    epoch := { s.epoch with next := some 640, firstNum := some 0 } }

/-- A slice with nothing measured; `r` whether its run is in progress. -/
def sliceOf (fails : Nat) (r : Bool) : Slice := ⟨fails, r, [], none⟩

/-- A fit without error. -/
def goodFit : CalFit := ⟨0, 0x400000, List.replicate 16 0#32, 0⟩

/-- A fit whose gain is 0. -/
def badFit : CalFit := ⟨0, 0, List.replicate 16 0#32, 0⟩

theorem test_Converter_rotation :
    let s := adcAs 3 (sliceOf 0 false) false
    let r := s.fsetB F.ADC_CTRL_ROT_EN 0 true
    let n := (adcAs 2 (sliceOf 0 false) false).fsetB F.ADC_CTRL_ROT_EN 0 true
    s.wf && s.epoch.edges.isEmpty && s.epoch.firstNum == some 0 && s.mode == 0 && s.pageLive 0x21 && s.epoch.next.isSome &&
      !(s.fsetB F.ADC_CTRL_ROT_EN 0 false).flag F.ADC_CTRL_ROT_EN && r.flag F.ADC_CTRL_ROT_EN && r.pageEn 0x21 && r.sliceState 8 == 3 && !r.sliceMapped 8 &&
      (List.range 8).all (fun k => r.sliceState k != 3 && !r.flag F.ADC_SLICE_DRIFT_NOW (r.slicePos k)) &&
      (List.range 9).all (fun k => n.sliceState k != 3) = true := by decide +kernel

theorem test_Converter_run :
    (adcAs 2 (sliceOf 0 true) false).fitPasses goodFit && (adcAs 2 (sliceOf 0 true) true).fitPasses goodFit &&
      !(adcAs 3 (sliceOf 1 true) false).fitPasses badFit && ((adcAs 3 (sliceOf 1 true) false).slice 8).running &&
      (adcAs 3 (sliceOf 1 true) false).sliceState 8 == 3 && (adcAs 3 (sliceOf 1 true) false).adcClock &&
      (adcAs 3 (sliceOf 1 true) false).pageLive 0x21 = true := by decide +kernel

theorem test_Converter_commands :
    takes (adcAs 3 (sliceOf 0 false) false) .ADC_CTRL 0 8#32 && takes (adcAs 3 (sliceOf 0 false) false) .ADC_CTRL 0 2#32 &&
      takes (adcAs 3 (sliceOf 0 false) false) .ADCCAL_CTRL 8 1#32 && takes (adcAs 1 (sliceOf 0 false) false) .ADCCAL_CTRL 8 1#32 &&
      (adcAs 2 { sliceOf 0 false with passed := some goodFit } true).adc.init &&
      (List.range 8).all (fun p => (adcAs 2 (sliceOf 0 false) true).sliceState p != 2) = true := by decide +kernel

theorem test_Converter_tables :
    let s := adcAs 1 (sliceOf 0 false) false
    takes s .ADCCAL_LIN 287 0x1234#32 && takes s .ADCCAL_OFFSET 17 0#32 && takes s .ADCCAL_GAIN 17 0x400000#32 &&
      s.performs (.core 0) 0x22 && s.mayWrite (s.who (.core 0)) .ADCCAL_LIN 256 0#32 && !s.calHalfOpen 8 0 = true := by
  decide +kernel

theorem test_Converter_results :
    let s := (adcAs 1 (sliceOf 0 false) false).setReg .RESULT_CTRL 0 0x2002#32
    takes s .RESULT_START 0 1#32 && s.pageEn 0x23 && s.fget F.RESULT_CTRL_TRIG == 2 && s.adc.scan.isNone &&
      takes { s with adc := { s.adc with scan := some 0 } } .RESULT_START 0 1#32 && s.performs (.core 0) 0x23 &&
      takes (adcAs 1 (sliceOf 0 false) false) .RESULT_START 0 1#32 = true := by decide +kernel

/-- Serial port 1 enabled in both directions, as `u`. -/
def uartAs (u : Uart) : State :=
  let s := (baseEn 0x61).setReg .UART_CTRL 1 3#32
  { s with uarts := setAt Uart.reset s.uarts 1 u }

theorem test_SerialPorts_receive :
    let s := uartAs { Uart.reset with low := true }
    s.wf && s.uartArmed 1 && !(s.uart 1).blk && !s.flag F.UART_RXR_CFG_EN 1 && s.uartRuns 1 && (s.uart 1).low &&
      (uartAs { Uart.reset with stuck := true }).uartRuns 1 && !(uartAs Uart.reset).flag F.UART_RXR_CFG_EN 1 &&
      (s.setReg .UART_RX_TO 1 5#32).flag F.UART_RX_TO_HALVES 1 && s.performs (.core 0) 0x61 = true := by decide +kernel

theorem test_SerialPorts_ring :
    let s := (uartAs { Uart.reset with blk := true, pos := 3 }).setReg .UART_RXR_CFG 1 0x80000204#32
    let u := (uartAs Uart.reset).setReg .UART_RXR_CFG 1 0x80000204#32
    s.flag F.UART_RXR_CFG_EN 1 && (s.uart 1).blk && (s.uart 1).pos == 3 && takes u .UART_RXR_RD 1 2#32 &&
      u.nextBlock 1 (u.fget F.UART_RXR_WR_INDEX 1) != 2 = true := by decide +kernel

theorem test_SerialPorts_send :
    takes (uartAs Uart.reset) .UART_TXDATA 1 0x41#32 && (uartAs Uart.reset).uartRuns 1 &&
      (uartAs Uart.reset).flag F.UART_CTRL_TX_EN 1 && !(uartAs Uart.reset).flag F.UART_CTRL_SEND_BREAK 1 &&
      takes (uartAs { Uart.reset with shift := some [true] }) .UART_TXDATA 1 0x41#32 &&
      takes (uartAs { Uart.reset with shift := some [true], hold := some 2 }) .UART_TXDATA 1 0x41#32 &&
      takes (uartAs Uart.reset) .UART_TX_CTRL 1 0x80000001#32 &&
      takes (uartAs { Uart.reset with shift := some [true] }) .UART_TX_CTRL 1 0xA0000010#32 &&
      ((uartAs { Uart.reset with xfer := some (4, 0) }).uart 1).xfer.isSome = true := by decide +kernel

theorem test_SerialPorts_wake :
    (modeAs 3 3).mode = 3 ∧ (modeAs 3 3).power.step = none ∧ ((modeAs 3 3).reg .WAKE_EN).getLsbD 10 = true ∧
      ((modeAs 3 3).uart 1).fired = false := by decide +kernel

theorem test_Converter_rotation_evening :
    let s := adcAs 3 (sliceOf 0 false) false
    let r := { s with power := { s.power with step := some (1, 2) } }
    r.wf = true ∧ (r.fsetB F.ADC_CTRL_EVE_CAL 0 true).flag F.ADC_CTRL_EVE_CAL = true ∧ s.power.step = none ∧ s.mode = 0 := by
  decide +kernel

/-- The samples of a frame of the bits `bs`, 16 to a bit, as far as the first stop bit's sample 10. -/
def sampled (bs : List Bool) : List Bool := (bs.flatMap (fun b => List.replicate 16 b)).take (9 * 16 + 10)

theorem test_SerialPorts_frame :
    let s := (uartAs Uart.reset).fset F.UART_CFG_DBITS 1 1
    let xs := sampled ([false] ++ (List.range 8).map (fun i => Nat.testBit 0x41 i) ++ [true])
    let late := sampled ([false] ++ (List.range 8).map (fun i => Nat.testBit 0x41 i) ++ [true, false])
    s.wf && s.uartArmed 1 && !(s.uart 1).blk && !s.flag F.UART_RXR_CFG_EN 1 && !(s.uart 1).low && (s.uart 1).rx.isEmpty &&
      s.fget F.UART_CFG_DBITS 1 == 1 && s.fget F.UART_CFG_PAR 1 == 0 && !s.flag F.UART_CFG_OS8 1 && xs.head? == some false &&
      xs.any id && xs.length == (1 + 8) * 16 + 10 && late.length == xs.length &&
      (List.range 8).all (fun i => xs.getD ((1 + i) * 16 + 7) true == Nat.testBit 0x41 i) &&
      (List.replicate 9 true).length == 16 / 2 + 1 = true := by decide +kernel

theorem test_SerialPorts_moves :
    let s := ((uartAs Uart.reset).setReg .UART_RXR_CFG 1 0x80000204#32).fsetB F.UART_RXDATA_NEW 1 true
    let b := (uartAs { Uart.reset with shift := some [true] }).fsetB F.UART_CTRL_SEND_BREAK 1 true
    takes s .UART_RXR_RD 1 2#32 && s.flag F.UART_RXDATA_NEW 1 && decide (2 < s.blockSize 1) && b.uartRuns 1 &&
      b.flag F.UART_CTRL_SEND_BREAK 1 && ((uartAs { Uart.reset with low := true }).uart 1).low = true := by decide +kernel
/-! ### Hypotheses of the statements about the Welut engines -/

/-- Engine 17 of `base` in state `st` as `e`, its store valid, its page and the queue page on. -/
def welAs (st : Nat) (e : Wel) : State :=
  let s := (((baseEn 0x51).fsetB F.PAGE_CTRL_EN 0x52 true).fset F.WEL_STATUS_STATE 17 st).fsetB F.CS_STATUS_VALID 17 true
  { s with wel := { s.wel with engines := setAt Wel.reset s.wel.engines 17 e } }

/-- A job of logical engine 3, priority 2, with a run limit of 9 clocks. -/
def someJob : Job := ⟨3, 2, 0, 9, 77, 0, 64, none, false, 5, 0, 0⟩

/-- An engine that runs `someJob`. -/
def running : Wel := { Wel.reset with job := some someJob }

/-- `welAs 2` with engine 17 mapped to logical engine 3 alone, whose queue of priority 2 holds one descriptor of zeros. -/
def queued : State :=
  let s := forEach [0, 1, 2, 3] (fun k s => State.setReg s .WELQ_MAP k 0#32) (welAs 2 Wel.reset)
  let s := (s.setReg .WELQ_MAP 0 0x11000000#32).fset F.WELQ_QCFG_LOG2 14 2
  ((s.fsetB F.WELQ_QCFG_EN 14 true).fset F.WELQ_QTAIL_TAIL 14 1).fsetB F.WELQ_CTRL_HOLD 0 false

theorem test_WelutJobs_dispatch :
    queued.wf && queued.pageEn 0x52 && queued.pageLive 0x51 && queued.welState 17 == 2 && !queued.flag F.CS_STATUS_ACTIVE 17 &&
      !queued.flag F.CS_CTRL_PATCH 17 && queued.welMap 3 == 17 && (List.range 3).all (fun k => queued.welMap k != 17) &&
      queued.qEligible 14 && (List.range 2).all (fun k => !queued.qEligible (12 + k)) &&
      (List.range 16).all (fun k => queued.welMap k != 16) = true := by decide +kernel

/-- An engine that runs `someJob` with the one transfer `d`. -/
def moving (d : Dma) : Wel := { running with dma := [d] }

theorem test_WelutJobs_run :
    let s := welAs 3 { running with store := [(0, 6 * 2 ^ 165 + 2 ^ 159)] }
    s.wf = true ∧ s.pageLive 0x51 = true ∧ s.welState 17 = 3 ∧ (s.wel1 17).job = some someJob ∧ (s.wel1 17).stopping = none ∧
      (s.wel1 17).halting = false ∧ (s.wel1 17).fence = false ∧ tblGet (s.wel1 17).store (s.wel1 17).pc = 6 * 2 ^ 165 + 2 ^ 159 ∧
      someJob.limit ≠ 0 := by decide +kernel

theorem test_WelutJobs_transfer :
    let s := welAs 3 (moving ⟨3, 1, 0, 0, 64, false, [], 0⟩)
    let u := welAs 3 (moving ⟨2, 2, 0, sramBase 2, 64, false, [], 0⟩)
    s.wf = true ∧ (s.wel1 17).dma[0]? = some ⟨3, 1, 0, 0, 64, false, [], 0⟩ ∧ s.hbmUp = false ∧
      (s.fsetB F.GOV_STATUS_HBM_UP 0 true).hbmUp = true ∧ (u.wel1 17).dmaBehind 0 ⟨2, 2, 0, sramBase 2, 64, false, [], 0⟩ = false ∧
      (u.dmaMove 17 ⟨2, 2, 0, sramBase 2, 64, false, [], 0⟩).bad = false ∧ (u.dmaMove 17 ⟨2, 2, 0, sramBase 2, 64, false, [], 0⟩).ue = false ∧
      (u.dmaMove 17 ⟨2, 2, 0, sramBase 2, 64, false, [], 0⟩).waits = none := by decide +kernel

theorem test_WelutJobs_end :
    let s := welAs 3 { running with halting := true }
    s.wf = true ∧ (s.wel1 17).halting = true ∧ (s.wel1 17).dma = [] ∧ (s.wel1 17).retire = false ∧ s.welState 17 = 3 := by
  decide +kernel

theorem test_WelutJobs_control :
    takes (welAs 3 running) .WEL_CTRL 17 4#32 && (welAs 3 running).flag F.PAGE_CTRL_EN 0x51 &&
      (welAs 3 running).flag F.CS_STATUS_VALID 17 && takes (welAs 4 Wel.reset) .WEL_CTRL 17 3#32 &&
      takes (welAs 2 Wel.reset) .WEL_CTRL 17 0#32 && takes queued .WELQ_QTAIL 14 3#32 = true := by decide +kernel

theorem test_WelutJobs_template :
    let s := { queued with wel := { queued.wel with copies := [(15, 14, [])] } }
    s.wf = true ∧ s.wel.copies.find? (fun x => x.1 == 15) = some (15, 14, []) ∧ s.pageLive 0x52 = true ∧ s.qSlots 14 ≤ 1024 ∧
      s.wel.copies.find? (fun x => x.1 == 14) = none := by decide +kernel

theorem test_WelutJobs_digest :
    let s := { queued with wel := { queued.wel with frames := [⟨3, 9, 5, 70000, 0, 0, true, true⟩] } }
    s.wf = true ∧ s.wel.frames.find? (fun x => x.gen == 3) = some ⟨3, 9, 5, 70000, 0, 0, true, true⟩ ∧ s.pageLive 0x52 = true := by
  decide +kernel

/-- `welAs 0` with the store not valid and the command `k` in progress. -/
def storeAs (k : Option Nat) : State := (welAs 0 { Wel.reset with cmd := k }).fsetB F.CS_STATUS_VALID 17 false

theorem test_WelutStores :
    takes (storeAs none) .CS_DATA5 17 0xFFFF#32 && (storeAs none).performs (.core 0) 0x51 && takes (storeAs none) .CS_CTRL 17 1#32 &&
      takes (storeAs none) .CS_CTRL 17 2#32 && takes (welAs 1 Wel.reset) .CS_CTRL 17 4#32 && takes (welAs 1 Wel.reset) .CS_CTRL 17 32#32 &&
      takes (welAs 1 Wel.reset) .WEL_TBL_CTRL 17 1#32 && (storeAs (some 1)).pageLive 0x51 &&
      ((storeAs (some 2)).wel1 17).cmd.isSome = true := by decide +kernel

theorem test_WelutStores_record :
    let s := { storeAs (some 0) with mem := memPuts [] (sramBase 2 + 22) [1#8, 0#8] }
    s.csBadRecord (sramBase 2 + s.fget F.CS_SRC_OFFSET 17 * 32) 2048 0 = some (0, 2) := by decide +kernel

/-- Engine 17 running `someJob` on the microword `x`. -/
def runsWord (x : Nat) : State := welAs 3 { running with store := [(0, x)], tok := 0 }

/-- The first fault of the microword `x` of `s`. -/
def faultOf (s : State) (x : Nat) : Option (Nat × Bool) := (microFaults (microOf x) (s.fget F.WEL_TBL_SIZE_SIZE 17)).find? (fun y => y.2)

theorem test_WelutJobs_words :
    let add := 1 * 2 ^ 60 + 3 * 2 ^ 56
    let wait := 2 * 2 ^ 64
    let read := 1 * 2 ^ 69
    let odd := 6 * 2 ^ 156
    [add, wait, read, odd].all (fun x => (runsWord x).wf && tblGet ((runsWord x).wel1 17).store ((runsWord x).wel1 17).pc == x) &&
      faultOf (runsWord odd) odd == some (1, true) && faultOf (runsWord add) add == none && faultOf (runsWord wait) wait == none &&
      faultOf (runsWord read) read == none && nbits (microOf wait).dma 0 3 == 2 && !((runsWord wait).wel1 17).tok.testBit 0 &&
      (runsWord add).ecc.isEmpty && ((runsWord add).portWork 17 ((runsWord add).wel1 17) (microOf add)).stores.isEmpty &&
      nbits (microOf read).dma 5 3 == 1 && ((runsWord read).dmaCheck ⟨1, 0, 0, 0, 0, false, [], 0⟩).isSome &&
      ((runsWord read).dmaCheck ⟨1, 0, 0, sramBase 2, 64, false, [], 0⟩).isNone = true := by decide +kernel

theorem test_WelutJobs_transfers :
    let r : Dma := ⟨1, 1, 0, 0, 64, false, [], 0⟩
    let w : Dma := ⟨2, 0, 0, 0, 64, false, [], 0⟩
    let s := (welAs 3 { running with dma := [w, r] }).fsetB F.GOV_STATUS_HBM_UP 0 true
    let u := forEach (List.range 4) (fun k s => State.fset s F.HBMC_STATE_STATE k 2) ((welAs 3 (moving r)).fsetB F.GOV_STATUS_HBM_UP 0 true)
    let u := { u with power := { u.power with stkEn := true, stkPg := true }, lines := { u.lines with gov := [0, 0, 0, 0, 0] } }
    (s.wel1 17).dma[1]? = some r ∧ (s.wel1 17).dmaBehind 1 r = true ∧ (u.wel1 17).dmaBehind 0 r = false ∧
      (u.dmaMove 17 r).waits = some 0 := by decide +kernel

theorem test_WelutJobs_frames :
    let s := { queued with wel := { queued.wel with frames := [⟨3, 9, 5, 70000, 0, 0, true, true⟩] } }
    s.pageEn 0x52 = true ∧ s.pairSends = false := by decide +kernel
/-! ### Hypotheses of the statements about the links, the beacons and the pair -/

/-- Port `p` of `base` in state `st` as `x`, with all link pages on, DEVID 4 and lanes 0 and 1 in service. -/
def portAs (p st : Nat) (x : Port) : State :=
  let s := forEach [0x58, 0x59, 0x5A, 0x5B, 0x5C, 0x5D, 0x5E] (fun k s => State.fsetB s F.PAGE_CTRL_EN k true) base
  let s := (s.fset F.PZL_STATUS_STATE p st).fset F.SYS_STRAPS_DEVID 0 4
  { s with links := { s.links with ports := s.links.ports.set p x } }

/-- A packet of type `typ` with sub-type `sub` and the payload `bs`, from device 5 to device 4. -/
def pkt (typ sub seq : Nat) (bs : List Byte) : Packet := ⟨typ, false, false, 9, 5, 4, seq, 0, bs.length / 8, sub, 0, 0, bs⟩

theorem test_LinkPorts :
    let s := portAs 1 2 Port.reset
    s.wf && s.pageLive 0x59 && s.pzl 1 == 2 && !s.flag F.PZL_CTRL_IDLE 1 && s.fget F.PZL_LANE_IN0 1 != 3 &&
      (s.lanesIn 1).all (fun l => Nat.testBit 3 l && !s.fbit F.PZL_LANE_BAD 1 l) && (portAs 1 1 Port.reset).pzl 1 == 1 &&
      takes (portAs 1 3 Port.reset) .PZL_CTRL 1 2#32 && takes (portAs 1 5 Port.reset) .PZL_CTRL 1 0#32 &&
      takes (portAs 1 3 Port.reset) .PZL_CTRL 1 1#32 && (portAs 1 5 Port.reset).idleLane 1 && !(portAs 1 3 Port.reset).idleLane 1 &&
      takes s .MGL_CTRL 1 1#32 && s.pageLive 0x5C = true := by decide +kernel

theorem test_LinkPorts_errors :
    let s := portAs 1 3 { Port.reset with laneErr := [17, 16, 0] }
    let u := portAs 1 3 { Port.reset with laneErr := [16, 16, 0] }
    s.pzl 1 = 3 ∧ 0 ∈ s.lanesIn 1 ∧ s.fget F.PZL_CFG_LANE_ERR_MAX 1 < (s.port 1).laneErr.getD 0 0 ∧
      (u.lanesIn 1).all (fun l => decide ((u.port 1).laneErr.getD l 0 ≤ u.fget F.PZL_CFG_LANE_ERR_MAX 1)) = true := by
  decide +kernel

theorem test_LinkPorts_mangle :
    let s := portAs 1 3 Port.reset
    let held (m : Mangle) : State := { s with links := { s.links with mangles := s.links.mangles.set 3 m } }
    (held ⟨false, none, [(1, [2#8])]⟩).mangleUnit 3 = ⟨false, none, [(1, [2#8])]⟩ ∧
      (held ⟨false, some (0, [2#8]), []⟩).mangleUnit 3 = ⟨false, some (0, [2#8]), []⟩ := by decide +kernel

theorem test_LinkPackets_arrival :
    let s := portAs 1 3 Port.reset
    s.wf && s.pageLive 0x59 && s.portUp 1 && (s.carriers 1).contains 1 && packetOf (pkt 0 0 0 []).bytes == some (pkt 0 0 0 []) &&
      !(pkt 0 0 0 []).unsequenced && s.ownDest 1 4 && (pkt 0 0 0 []).served && (s.port 1).ahead.isEmpty &&
      packetOf (pkt 0 0 2047 []).bytes == some (pkt 0 0 2047 []) && packetOf (pkt 0 0 2048 []).bytes == some (pkt 0 0 2048 []) &&
      !(portAs 1 1 Port.reset).portUp 1 = true := by decide +kernel

/-- A request of type `typ` for `a` with AUX `aux` and the payload `bs`. -/
def reqst (typ a aux : Nat) (bs : List Byte) : Packet := { pkt typ 0 0 bs with addr := a, aux := aux }

/-- Port 1 UP with `pk` in its inbox. -/
def inboxAs (pk : Packet) : State := portAs 1 3 { Port.reset with inbox := [pk] }

/-- Request `pk` waits on port 1 and is not refused. -/
def waits (pk : Packet) : Bool :=
  ((inboxAs pk).takeInbox 1 (fun y => y.typ == pk.typ)).any (fun r => r.1 == pk) && ((inboxAs pk).port 1).run.isNone &&
    !(inboxAs pk).linkRefused 1 pk && !(inboxAs pk).mendOnly

theorem test_LinkPackets_requests :
    let rd := reqst 0 (pageBase + 0x2000) 0 []
    let wr := reqst 1 (pageBase + 0x6018) 0 (leBytes 8 7)
    waits rd && waits wr && waits (reqst 2 (sramBase 0) 1 []) && waits (reqst 3 (sramBase 0) 0 (leBytes 8 7)) &&
      (inboxAs rd).isRegRun rd && (inboxAs wr).isRegRun wr &&
      (inboxAs (reqst 2 (sramBase 0) 1 [])).isMemRun (reqst 2 (sramBase 0) 1 []) &&
      (inboxAs (reqst 3 (sramBase 0) 0 (leBytes 8 7))).isMemRun (reqst 3 (sramBase 0) 0 (leBytes 8 7)) &&
      (inboxAs { rd with src := 6 }).linkRefused 1 { rd with src := 6 } && sramBase 0 % 8 == 0 &&
      decide (sramBase 0 + 16 ≤ pageBase) = true := by decide +kernel

theorem test_LinkPackets_runs :
    let rd := reqst 0 (pageBase + 0x2000) 0 []
    let wr := reqst 1 (pageBase + 0x6018) 0 (leBytes 8 7)
    ((inboxAs rd).readRun (linkRequester 1) 1 0x2000 0 []).2 = .done [0#8, 0#8, 0#8, 0#8] ∧
    ((inboxAs wr).writeRun (linkRequester 1) [7] 0x6018 0).2 = .done [] ∧
    (((inboxAs wr).writeRun (linkRequester 1) [7] 0x6018 0).1.port 1).inbox = [wr] := by decide +kernel

/-- Port 1 UP with `pk` at its side and the packets `r` held for a retry. -/
def sideAs (pk : Packet) (r : List Packet) : State := portAs 1 3 { Port.reset with side := [(pk, 0)], retry := r }

theorem test_LinkPackets_side :
    [8, 9, 10, 11].all (fun k => ((sideAs (pkt k 0 8 []) [pkt 0 0 7 [], pkt 0 0 8 []]).takeSide 1 (fun y => y.typ == k)).isSome) &&
      (sideAs (pkt 10 0 8 []) [pkt 0 0 7 [], pkt 0 0 8 []]).portUp 1 && decide ((8 + 4096 - 7) % 4096 < 2) = true := by decide +kernel

theorem test_LinkPackets_send :
    let s := (portAs 1 3 { Port.reset with out := [(pkt 0 0 0 [], none)] }).setReg .PZL_CREDIT 1 1#32
    let u := portAs 1 3 { Port.reset with out := [(pkt 9 0 0 [], none)] }
    s.portUp 1 = true ∧ s.flag F.MGL_CTRL_EN 1 = false ∧ (s.port 1).retry[(s.port 1).cursor]? = none ∧
      s.firstSendable 1 = some (pkt 0 0 0 [], none) ∧ u.firstSendable 1 = some (pkt 9 0 0 [], none) ∧
      (portAs 1 3 { Port.reset with retry := [pkt 0 0 7 []], paid := 1 }).portUp 1 = true := by decide +kernel

/-- `portAs 1 3` with `pk` at the side and RXPORT 1, of which the delay is `known`. -/
def beaconAs (pk : Packet) (known : Bool) : State :=
  let s := (portAs 1 3 { Port.reset with side := [(pk, 100)] }).fset F.BEACON_CFG_RXPORT 0 1
  ((s.fsetB F.BEACON_CFG_ROLE 0 false).fsetB F.BEACON_CFG_AUTO 0 false).setBeaconPort 1 ⟨none, 0, some 0, known⟩

/-- The payload of a SYNC with a period of `ns`. -/
def syncOf (ns : Nat) : List Byte := leBytes 8 6 ++ leBytes 8 1000 ++ leBytes 8 0 ++ leBytes 4 ns ++ leBytes 4 0

theorem test_TimeBeacons_sync :
    [10000, 10000000, 9999].all (fun ns => ((beaconAs (pkt 6 0 0 (syncOf ns)) true).takeSide 1
      (fun k => k.typ == 6 && k.sub == 0)).isSome && numAt (syncOf ns) 24 4 == ns) &&
      (beaconAs (pkt 6 0 0 (syncOf 10000)) false).pageEn 0x5D && !(beaconAs (pkt 6 0 0 []) false).flag F.BEACON_CFG_ROLE &&
      !(beaconAs (pkt 6 0 0 []) false).flag F.BEACON_CFG_AUTO && (beaconAs (pkt 6 0 0 []) false).fget F.BEACON_CFG_RXPORT == 1 &&
      ((beaconAs (pkt 6 1 0 []) true).takeSide 1 (fun k => k.typ == 6 && k.sub == 1)).isSome &&
      ((beaconAs (pkt 6 2 0 (List.replicate 24 0#8)) true).takeSide 1 (fun k => k.typ == 6 && k.sub == 2)).isSome = true := by
  decide +kernel

theorem test_TimeBeacons_master :
    let s := (portAs 1 3 Port.reset).fsetB F.BEACON_CFG_ROLE 0 true
    let m := (s.fsetB F.BEACON_STATUS_VALID 0 true).fset F.BEACON_CFG_TXMASK 0 2
    let e := (portAs 1 3 Port.reset).fsetB F.PAIR_CTRL_ELECT_EN 0 true
    m.wf && m.pageEn 0x5D && m.flag F.BEACON_CFG_ROLE && m.flag F.BEACON_STATUS_VALID && m.fbit F.BEACON_CFG_TXMASK 0 1 && m.portUp 1 &&
      e.flag F.PAIR_CTRL_ELECT_EN && !e.flag F.BEACON_CFG_ROLE && takes m .BEACON_CTRL 0 1#32 && takes e .BEACON_CTRL 0 2#32 = true := by
  decide +kernel

theorem test_LinkPackets_units :
    let rd := reqst 2 (sramBase 1) 1 []
    let wr := reqst 3 (sramBase 1) 0 (leBytes 8 7)
    ((inboxAs rd).readUnits 1 ((inboxAs rd).who (linkRequester 1)) 2 (sramBase 1) 0 []).2 = .done (List.replicate 16 0#8) ∧
    ((inboxAs wr).writeUnits 1 ((inboxAs wr).who (linkRequester 1)) 1 (leBytes 8 7) (sramBase 1) 0).2 = .done [] := by decide +kernel

theorem test_LinkPackets_unpaid :
    let s := portAs 1 3 { Port.reset with retry := [pkt 0 0 7 []], out := [(pkt 9 0 0 [], none)] }
    s.portUp 1 = true ∧ (s.port 1).retry[(s.port 1).cursor]? = some (pkt 0 0 7 []) ∧ (s.port 1).paid ≤ (s.port 1).cursor ∧
      (s.setReg .PZL_CREDIT 1 0#32).fget F.PZL_CREDIT_UNITS 1 < (pkt 0 0 7 []).units ∧ s.mend.leaving = false ∧
      (s.port 1).out.find? (fun z => z.1.unsequenced) = some (pkt 9 0 0 [], none) := by decide +kernel
/-- The pair enabled in state `st` as `x`, with P1 UP, the message `pk` in its inbox, and the basket page on. -/
def pairAs (st : Nat) (x : Pair) (pk : Packet) : State :=
  let s := ((portAs 1 3 { Port.reset with inbox := [pk] }).fset F.PAIR_STATUS_STATE 0 st).fsetB F.PAIR_CTRL_EN 0 true
  { s.fsetB F.PAGE_CTRL_EN 0x0B true with links := { s.links with pair := x } }

/-- A message of the twin is the next in the inbox of P1, and the pair may act on it. -/
def fromTwin (s : State) (f : Packet → Bool) : Bool :=
  (s.takeInbox 1 f).any (fun r => r.1.src == s.twinId && r.1.dst != 0xFF) && s.pageEn 0x5E && s.flag F.PAIR_CTRL_EN &&
    !s.flag F.SYS_STRAPS_DEVID_BAD && s.portUp 1 && s.domLive .lnk && s.wf

theorem test_PairAndMirror_states :
    fromTwin (pairAs 1 Pair.reset (pkt 7 0 0 [1#8])) (isMirror 0) && fromTwin (pairAs 4 Pair.reset (pkt 7 0 0 [1#8])) (isMirror 0) &&
      fromTwin (pairAs 2 { Pair.reset with handing := true } (pkt 7 1 0 [2#8])) (isMirror 1) &&
      fromTwin (pairAs 3 Pair.reset (pkt 7 5 0 [])) (isMirror 5) &&
      ((pairAs 1 Pair.reset { pkt 7 0 0 [1#8] with src := 6 }).takeInbox 1 (isMirror 0)).isSome = true := by decide +kernel

/-- A checkpoint record: engine, state, seam number and angle. -/
def recordOf (eng st seam angle : Nat) : List Byte := leBytes 1 eng ++ leBytes 1 st ++ leBytes 6 0 ++ leBytes 8 seam ++ leBytes 16 angle

theorem test_PairAndMirror_compare :
    let s := pairAs 2 { Pair.reset with own := [⟨31, 9, 2, 5⟩] } { pkt 7 2 0 (recordOf 31 2 9 5) with len := 4 }
    let d := pairAs 2 { Pair.reset with ownDig := [(3, 9, 5, false)] } (pkt 7 3 0 (leBytes 1 3 ++ leBytes 3 0 ++ leBytes 4 5 ++ leBytes 8 9))
    let o := pairAs 2 { Pair.reset with ownOut := [(7, 3, 9)] } (pkt 7 4 0 (leBytes 1 7 ++ leBytes 7 3 ++ leBytes 8 9))
    fromTwin s (isMirror 2) && fromTwin d (isMirror 3) && fromTwin o (isMirror 4) && numAt (recordOf 31 2 9 5) 8 8 == 9 = true := by
  decide +kernel

/-- `pairAs 2` with slot 7 in state `st` as `x`. -/
def mirrorAs (st : Nat) (x : Slot) (pk : Packet) : State :=
  ((pairAs 2 Pair.reset pk).fset F.BS_STATE_STATE 7 st).setSlot 7 x

/-- A slot of the twin's: `t` is 1 where this device arms it, 2 where the twin does. -/
def twinSlot (t : Nat) : Slot := ⟨[], false, 0, 0, t, none⟩

theorem test_PairAndMirror_basket :
    fromTwin (mirrorAs 0 (twinSlot 0) (pkt 4 7 0 (List.replicate 16 0#8))) (isBasket 0) &&
      fromTwin (mirrorAs 0 (twinSlot 2) (pkt 4 15 0 (List.replicate 16 0#8))) (isBasket 1) &&
      fromTwin (mirrorAs 2 (twinSlot 1) (pkt 4 23 0 [])) (isBasket 2) &&
      fromTwin (mirrorAs 2 (twinSlot 2) (pkt 4 31 0 (leBytes 8 2))) (isBasket 3) &&
      fromTwin (mirrorAs 2 (twinSlot 2) (pkt 4 31 0 (leBytes 8 0))) (isBasket 3) &&
      fromTwin (mirrorAs 3 (twinSlot 1) (pkt 4 39 0 [])) (isBasket 4) && fromTwin (mirrorAs 1 (twinSlot 2) (pkt 4 47 0 [])) (isBasket 5) &&
      !(mirrorAs 2 (twinSlot 2) (pkt 4 31 0 [])).bsPressing 7 = true := by decide +kernel

theorem test_PairAndMirror_commands :
    takes (pairAs 2 Pair.reset (pkt 7 0 0 [])) .PAIR_CTRL 0 1#32 && takes (pairAs 2 Pair.reset (pkt 7 0 0 [])) .PAIR_CTRL 0 3#32 &&
      takes ((pairAs 0 Pair.reset (pkt 7 0 0 [])).fset F.PZL_STATUS_STATE 1 1) .PAIR_CTRL 0 1#32 &&
      !((pairAs 1 Pair.reset (pkt 7 0 0 [])).fset F.PZL_STATUS_STATE 1 1).portUp 1 &&
      !(pairAs 3 Pair.reset (pkt 7 0 0 [])).flag F.PAIR_STATUS_TOKEN_LIVE = true := by decide +kernel
/-! ### Hypotheses of the statements about the crypto unit, the fuses, the flash, the darns and the pads -/

/-- `base` with the crypto and fuse pages on, the source of the crypto unit at the start of acquisition SRAM, a length of 3
bytes, and the command `k` in progress. -/
def cryAs (k : Option Nat) (len : Nat) : State :=
  let s := (baseEn 0x68).setReg .CRY_SRC_LO 0 (BitVec.ofNat 32 (sramBase 1))
  let s := (s.setReg .CRY_SRC_HI 0 (BitVec.ofNat 32 (sramBase 1 / 2 ^ 32))).fset F.CRY_LEN_LEN 0 len
  { s with crypto := { s.crypto with cmd := k } }

theorem test_CryptoAndFuses_commands :
    [1, 2, 3, 4].all (fun k => takes (cryAs none 3) .CRY_CMD 0 (cryWord 0#32 k)) &&
      [1, 2, 3, 4, 5].all (fun k => takes base .FUSE_PROG 0 (fuseWord 0x55000000#32 k)) && base.fuses.burn.isNone = true := by
  decide +kernel

theorem test_CryptoAndFuses_done :
    let s := cryAs (some 1) 3
    let r := ({ s with crypto := { s.crypto with cmd := none } }).blockRead (s.get64 .CRY_SRC_LO .CRY_SRC_HI) 3
    s.wf = true ∧ s.pageEn 0x68 = true ∧ r.2.toOption = some [0#8, 0#8, 0#8] ∧
      ((cryAs none 3).blockRead (s.get64 .CRY_SRC_LO .CRY_SRC_HI) (2 ^ 30)).2.toOption = none ∧
      ((cryAs none 3).blockRead (s.get64 .CRY_SRC_LO .CRY_SRC_HI) 768).2.toOption.isSome = true ∧
      s.flag F.BOOT_CTRL_MEAS_LOCK = false ∧ s.crypto.log.length < 32 := by decide +kernel

/-- `base` with the burn of operation `op` into slot 1 in progress, in lifecycle `life`. -/
def burnAs (op life : Nat) : State :=
  { base with fuses := { base.fuses with burn := some (op, 1, List.replicate 8 5#32), life := life } }

theorem test_CryptoAndFuses_burn :
    (burnAs 1 0).pageEn 0x69 && (burnAs 1 0).burnRefused 1 1 == 0 && [2, 3, 4, 5].all (fun op => (burnAs op 0).wf) = true := by
  decide +kernel

/-- The flash controller busy with operation `k`, an operation of type `cmd` and length `len`. -/
def xspiAs (k : Nat) (cmd : Word) (len : Nat) : State :=
  { ((baseEn 0x62).setReg .XSPI_CMD 0 cmd).fset F.XSPI_LEN_LEN 0 len with xspi := ⟨k, none, 0⟩ }

theorem test_FlashDarnsAndHold_flash :
    takes (xspiAs 0 0#32 3) .XSPI_CMD 0 0x80001803#32 && takes (xspiAs 0 0#32 1) .XSPI_CMD 0 0x40001005#32 &&
      (xspiAs 1 0x80001003#32 3).xspiRuns [1#8, 2#8, 3#8] && (xspiAs 1 0x80001003#32 3).flag F.XSPI_CMD_DATA_REG &&
      !(xspiAs 1 0x80001003#32 3).flag F.XSPI_CMD_WRITE && !(xspiAs 1 0x80001003#32 3).flag F.XSPI_CMD_CS &&
      (xspiAs 2 0x40001005#32 1).xspiRuns [0#8] && (xspiAs 2 0x40001005#32 1).pageEn 0x62 &&
      (xspiAs 2 0x40001005#32 1).flag F.XSPI_CMD_DATA_REG && (xspiAs 2 0x40001005#32 1).adcClock = true := by decide +kernel

/-- `base` with the darn page on and what the darn controller holds changed by `f`. -/
def darnAs (f : Darn → Darn) : State := { baseEn 0x6C with darn := f base.darn }

/-- A row tracker entry of SRAM 2. -/
def aged : TrackRow := ⟨2, 0, 5, 3⟩

theorem test_FlashDarnsAndHold_darn :
    let s := darnAs (fun d => { d with props := [(5, bankTarget 1 2), (0, 3)], proposed := [(1, 2)], log := [⟨1, 0, 2, 3, 4⟩] })
    s.wf && takes s .DARN_CTRL 0 1#32 && takes s .DARN_CTRL 0 2#32 && takes s .DARN_LOG_CTRL 0 0x80000000#32 &&
      ((darnAs (fun d => { d with tracker := [aged] })).darn.tracker.filter (fun y => y.dom == 2))[0]? == some aged &&
      (darnAs (fun d => { d with copy := some (1, 2, 64) })).domLive (sramDomain 1) = true := by decide +kernel

/-- `darnAs id` with the entry `a`, `b`, `c` in DARN_IN. -/
def applying (a b c : Nat) : State :=
  (((darnAs id).setReg .DARN_IN 0 (BitVec.ofNat 32 a)).setReg .DARN_IN 1 (BitVec.ofNat 32 b)).setReg .DARN_IN 2 (BitVec.ofNat 32 c)

theorem test_FlashDarnsAndHold_apply :
    takes (applying 5 (bankTarget 1 63) 64) .DARN_IN_CTRL 0 0x80000000#32 && (applying 5 0 0).darn.banks.isEmpty && (applying 5 0 0).darn.spent.isEmpty && !(applying 5 0 0).darnStands && sramBanks 1 == 64 &&
      takes (applying 65536 0 0) .DARN_IN_CTRL 0 0x80000000#32 && takes (baseEn 0x65) .GPIO_CTRL 0 1#32 = true := by decide +kernel

end Sys2Proof.Machine.Tests
end

section
/-!
PROOF. Every command completes, leaves the queue to the step and keeps the canonical forms: the lemmas of Laws/Touch, put
together over the commands, and what follows for a step.
-/

namespace Sys2Proof.Machine

/-- What a command may touch: every part of the state and every register array, but not the queue. -/
def offQueue : Nat :=
  0xffffffffffffffffffffffffffffffffffffffffffffffffffffffffffffffffffffffffffffffffffffffffffffffffffffffffffffffffffffffffffffffe

/-- The outcome `o` is a next state with the queue of `s` and, if `s` has them, the canonical forms. -/
def Completes (s : State) (o : Host.Outcome State Fault Refusal) : Prop := ∃ t, o = .next t ∧ Agree offQueue s t

theorem Completes.next {s t : State} (h : Agree offQueue s t) : Completes s (.next t) := ⟨t, rfl, h⟩

/-- What a block does while its page is clocked completes. -/
theorem Completes.clocked {s : State} {p : Nat} {f : State → State} (hf : ∀ t, Agree offQueue s t → Agree offQueue s (f t)) :
    Completes s (.next (s.clocked p f)) := .next (State.clocked_touch (by decide) hf (.refl _ _))

/-- What a message of the twin orders completes. -/
theorem Completes.twin {s : State} {p : Nat} {f : Packet → Bool} {g : Packet → State → State}
    (hg : ∀ pk t, Agree offQueue s t → Agree offQueue s (g pk t)) : Completes s (.next (s.twinMessage p f g)) :=
  .next (State.twinMessage_touch (by decide) hg (.refl _ _))

/-- A step between power modes completes. -/
theorem Completes.modeStep {s : State} {a b : Nat} {f : State → State}
    (hf : ∀ t, Agree offQueue s t → Agree offQueue s (f t)) : Completes s (.next (s.tryStep a b f)) :=
  .next (State.tryStep_touch (by decide) hf (.refl _ _))

/-- Every command completes, leaves the queue and keeps the canonical forms: one arm for each function of the machine that
carries commands out. -/
theorem exec_completes (c : Instr) (s : State) : Completes s (exec c s) := by
  have h : Agree offQueue s s := .refl _ _
  have write (q : Requester) (r : Reg) (n : Nat) (v : Word) : Agree offQueue s (s.writeReg q r n v) :=
    State.writeReg_touch (by decide) (allBit (by decide) r) h
  cases c with
  | registerWrite | readClear | freezeGroupRead | freezeGroupRelease => exact .next (State.access_touch (by decide) h)
  | heldAccessRelease => exact .next (State.heldRelease_touch (by decide) h)
  | debugAccess => exact .next (State.jtagAccess_touch (by decide) h)
  | softRst | pageOwnerWrite | angReacq | angLearn | angLoad | angCfgWrite | angTblDataWrite | angTblSwap | softFire
    | ainRun | groupPowerWrite | ainIdcommit | idbStart | idbRecover | initCal | rotNow | adccalSwap | resultStart
    | hdrNow | rlCopy | rlTblDataWrite | rlSwap | lineFlush | lineEnableWrite | pegSet | pegArm | pegFire | pegRelease
    | lineFetchStart | trainStart | welHalt | welResume | serviceWrite | welqTailWrite | csCommit | csLoad | csCheck
    | csVerify | csInvalidate | welTblSwapRequest | bsValue | bsClose | bsArm | bsCancel | bsClear | coreReset
    | coreRunWrite | evrFire | modeRequest | pwrAsk | clkSelWrite | clkEnWrite | clkPenWrite | clkmonResume
    | clkmonRelease | pmbStart | bkdSet | calLoad | measStart | bkWrite | crcCheck | pzlRetrain | pzlIdle
    | mglCtrlWrite | beaconSet | beaconInvalidate | pairEnableWrite | pairHandover | uartRxrRdWrite | uartTxdata
    | uartTxStart | restartWrite | bootMbox | bootMend | measLock | cryHash | cryVerify | cryMeasure | cryAttest
    | fuseKeyHash | fuseRevoke | fuseRollback | fuseSecure | fuseRma | wdKick | xspiStart | xspiPoll | darnConfirm
    | darnDecline | darnPop | darnApply | gpioRelease =>
    exact .next (write _ _ _ _)
  | softResetComplete => exact .clocked (fun _ ht => State.softDone_touch (by decide) ht)
  | freezeStaleTimeout => exact .next (State.freezeStale_touch (by decide) h)
  | tachFilterAccept => exact .next (State.tachFilter_touch (by decide) h)
  | epochEdge => exact .next (State.epochEdge_touch (by decide) h)
  | acqTimeout => exact .next (State.acqTimeout_touch (by decide) h)
  | learnEnd => exact .clocked (fun _ ht => State.learnEnd_touch (by decide) ht)
  | groupReady => exact .clocked (fun _ ht => State.groupReady_touch (by decide) ht)
  | alignHoldover => exact .clocked (fun _ ht => State.alignHoldover_touch (by decide) ht)
  | mpresChange => exact .next (State.mpres_touch (by decide) h)
  | presenceAccept => exact .clocked (fun _ ht => State.presence_touch (by decide) ht)
  | commitCheckDone => exact .clocked (fun _ ht => State.commitDone_touch (by decide) ht)
  | idbDone => exact .clocked (fun _ ht => State.idbDone_touch (by decide) ht)
  | idbStretchTimeout => exact .clocked (fun _ ht => State.idbStretch_touch (by decide) ht)
  | rotationDecision => exact .clocked (fun _ ht => State.rotationDecision_touch (by decide) ht)
  | calRunDone => exact .clocked (fun _ ht => State.calRunDone_touch (by decide) ht)
  | initCalDone => exact .clocked (fun _ ht => State.initDone_touch (by decide) ht)
  | resultRead | csData5Read | bsRdataRead | uartRxdataRead =>
    exact .next (State.readReg_touch (by decide) (allBit (by decide) _) h)
  | rlCopyDone => exact .clocked (fun _ ht => State.rlCopyDone_touch (by decide) ht)
  | lineItem => exact .clocked (fun _ ht => State.lineItem_touch (by decide) ht)
  | blockFlushTimeout => exact .clocked (fun _ ht => State.blockFlush_touch (by decide) ht)
  | govWindow => exact .clocked (fun _ ht => State.govTick_touch (by decide) ht)
  | drainBlock => exact .clocked (fun _ ht => State.drainBlock_touch (by decide) ht)
  | lineFetchDone => exact .clocked (fun _ ht => State.fetchDone_touch (by decide) ht)
  | trainingDone => exact .clocked (fun _ ht => State.trainingDone_touch (by decide) ht)
  | ecsRead => exact .clocked (fun _ ht => State.ecsRead_touch (by decide) ht)
  | rinseRead => exact .next (State.rinseRead_touch (by decide) h)
  | stkPgFall => exact .next (State.stkPgFall_touch (by decide) h)
  | stkPgTimeout => exact .next (State.stkPgTimeout_touch (by decide) h)
  | jobDispatch => exact .next (State.jobDispatch_touch (by decide) h)
  | microword => exact .next (State.microword_touch (by decide) h)
  | dmaComplete => exact .next (State.dmaComplete_touch (by decide) h)
  | jobComplete => exact .next (State.jobComplete_touch (by decide) h)
  | jobTimeout => exact .next (State.jobTimeout_touch (by decide) h)
  | templateCopyDone => exact .next (State.templateDone_touch (by decide) h)
  | csCommandDone => exact .next (State.csDone_touch (by decide) h)
  | armValidationDone => exact .clocked (fun _ ht => State.armDone_touch (by decide) ht)
  | kAdd | kSub | kAnd | kOr | kXor | kAndn | kClt | kCltu | kShl | kShr | kAsr | kMin | kMax | kMinu | kMaxu | kAdds
    | kSubs | kMul | kMulx | kMulxu => exact .next (State.kAform_touch (by decide) h)
  | kMovl | kAddk | kAndk | kOrk | kXork | kMovh | kCltk | kCltku => exact .next (State.kImm_touch (by decide) h)
  | kShlk | kShrk | kAsrk => exact .next (State.kShift_touch (by decide) h)
  | kLdbs | kLdbz | kLdhs | kLdhz | kLdw => exact .next (State.kLoad_touch (by decide) h)
  | kStb | kSth | kStw => exact .next (State.kStore_touch (by decide) h)
  | kBreq | kBrne | kBrlt | kBrge | kBrltu | kBrgeu => exact .next (State.kBranch_touch (by decide) h)
  | kBra | kCall => exact .next (State.kLong_touch (by decide) h)
  | kCallr | kRpt => exact .next (State.kIssue_touch (by decide) (fun _ _ _ ht => ht) h)
  | kLoop => exact .next (State.kLoop_touch (by decide) h)
  | kMac | kMsu | kMula | kWracc | kClracc => exact .next (State.kAcc_touch (by decide) h)
  | kMfacc | kRdacc => exact .next (State.kFromAcc_touch (by decide) h)
  | kMacD | kMsuD | kMulaD => exact .next (State.kDual_touch (by decide) h)
  | kRdcr | kWrcr | kTrap | kBrk | kExret | kWait => exact .next (State.kSys_touch (by decide) h)
  | coreInterrupt => exact .next (State.kInterrupt_touch (by decide) h)
  | generatorPulse => exact .next (State.generatorPulse_touch (by decide) h)
  | guardWindowEnd => exact .clocked (fun _ ht => State.guardWindow_touch (by decide) ht)
  | cellFilterAccept => exact .next (State.cellAccept_touch (by decide) h)
  | timerMatch => exact .next (State.timerMatch_touch (by decide) h)
  | timerWrap => exact .next (State.timerWrap_touch (by decide) h)
  | gpioInputEdge => exact .next (State.gpioEdge_touch (by decide) h)
  | noonToAfternoon => exact .modeStep (fun _ ht => State.toAfternoon_touch (by decide) ht)
  | afternoonToEvening => exact .modeStep (fun _ ht => State.toEvening_touch (by decide) ht)
  | eveningToNight => exact .modeStep (fun _ ht => State.toNight_touch (by decide) ht)
  | nightToMidnight => exact .modeStep (fun _ ht => State.stepBegin_touch (by decide) ht)
  | afternoonToNoon => exact .modeStep (fun _ ht => State.leaveAfternoon_touch (by decide) ht)
  | eveningToNoon => exact .modeStep (fun _ ht => State.leaveEvening_touch (by decide) ht)
  | nightToEvening => exact .modeStep (fun _ ht => State.leaveNight_touch (by decide) ht)
  | modeStepEnd => exact .next (State.modeStepEnd_touch (by decide) h)
  | sealCheckDone => exact .next (State.sealCheckDone_touch (by decide) h)
  | pfwAccept => exact .next (State.pfwAccept_touch (by decide) h)
  | pfwSlotTimeout => exact .next (State.pfwSlot_touch (by decide) h)
  | pfwRelease => exact .next (State.pfwRelease_touch (by decide) h)
  | pfwClear => exact .next (State.pfwClear_touch (by decide) h)
  | mainSupplyFail => exact .next (State.senLost_touch (by decide) h)
  | tempConversion => exact .next (State.tempConvert_touch (by decide) h)
  | thermTrip => exact .next (State.thermTrip_touch (by decide) h)
  | sourceReady => exact .next (State.sourceReady_touch (by decide) h)
  | clkmonTimeout => exact .next (State.monTimeout_touch (by decide) h)
  | dvfsTransition => exact .next (State.dvfsStart_touch (by decide) h)
  | dvfsTransitionDone => exact .next (State.dvfsDone_touch (by decide) h)
  | pmbDone => exact .next (State.pmbEnd_touch (by decide) h)
  | vbkDip => exact .next (State.vbkDip_touch (by decide) h)
  | oscStopDetect => exact .next (State.oscStopped_touch (by decide) h)
  | secondBoundary => exact .next (State.secondBoundary_touch (by decide) h)
  | alarmFire => exact .next (State.alarmFire_touch (by decide) h)
  | wkupEdge => exact .next (State.wkupEdge_touch (by decide) h)
  | detectRetry => exact .clocked (fun _ ht => State.detectRetry_touch (by decide) ht)
  | linkTrainingDone => exact .clocked (fun _ ht => State.linkTrained_touch (by decide) ht)
  | trainTimeout => exact .clocked (fun _ ht => State.trainTimeout_touch (by decide) ht)
  | laneErrorWindow => exact .clocked (fun _ ht => State.laneWindow_touch (by decide) ht)
  | packetReceive => exact .clocked (fun _ ht => State.packetReceive_touch (by decide) ht)
  | linkRegRd | linkRegWr | linkMemRd | linkMemWr => exact .clocked (fun _ ht => State.serveRequest_touch (by decide) ht)
  | linkAck => exact .clocked (fun _ ht => State.ackReceived_touch (by decide) ht)
  | linkNak => exact .clocked (fun _ ht => State.nakReceived_touch (by decide) ht)
  | linkCredit => exact .clocked (fun _ ht => State.creditReceived_touch (by decide) ht)
  | linkWake => exact .clocked (fun _ ht => State.wakePacket_touch (by decide) ht)
  | mangleHoldExpire => exact .clocked (fun _ ht => State.mangleExpire_touch (by decide) ht)
  | gapTimeout => exact .clocked (fun _ ht => State.gapTimeout_touch (by decide) ht)
  | ackTimeout => exact .clocked (fun _ ht => State.ackTimeout_touch (by decide) ht)
  | periodicAck | periodicCredit => exact .clocked (fun _ ht => State.periodic_touch (by decide) ht)
  | linkAct | linkDawn => exact .next (State.linkActivity_touch (by decide) h)
  | syncSend => exact .next (State.syncSend_touch (by decide) h)
  | linkSync => exact .next (State.syncReceived_touch (by decide) h)
  | linkDreq => exact .next (State.dreqReceived_touch (by decide) h)
  | linkDresp => exact .next (State.drespReceived_touch (by decide) h)
  | drespTimeout => exact .next (State.drespTimeout_touch (by decide) h)
  | beaconElection => exact .next (State.beaconElect_touch (by decide) h)
  | pairHello => exact .twin (fun _ _ ht => State.hello_touch (by decide) ht)
  | pairHeartbeat => exact .twin (fun _ _ ht => State.heartbeat_touch (by decide) ht)
  | pairCheckpoint => exact .twin (fun _ _ ht => State.checkpoint_touch (by decide) ht)
  | pairDigest => exact .twin (fun _ _ ht => State.digest_touch (by decide) ht)
  | pairOutcome => exact .twin (fun _ _ ht => State.outcome_touch (by decide) ht)
  | pairHandoverMsg => exact .twin (fun _ _ ht => State.handover_touch (by decide) ht)
  | basketEntries => exact .twin (fun _ _ ht => State.entriesMsg_touch (by decide) ht)
  | basketArmMsg => exact .twin (fun _ _ ht => State.armMsg_touch (by decide) ht)
  | basketArmed => exact .twin (fun _ _ ht => State.armedMsg_touch (by decide) ht)
  | basketCommit => exact .twin (fun _ _ ht => State.commitMsg_touch (by decide) ht)
  | basketAborted => exact .twin (fun _ _ ht => State.abortedMsg_touch (by decide) ht)
  | basketCancelMsg => exact .twin (fun _ _ ht => State.cancelMsg_touch (by decide) ht)
  | heartbeatSend => exact .next (State.heartbeatSend_touch (by decide) h)
  | heartbeatLoss => exact .next (State.heartbeatLoss_touch (by decide) h)
  | tokenPulse => exact .next (State.tokenPulse_touch (by decide) h)
  | tokenEdge | tokenTimeout => exact .next (State.tokenLive_touch (by decide) h)
  | bindTimeout => exact .next (State.bindTimeout_touch (by decide) h)
  | uartCharacter => exact .next (State.uartChar_touch (by decide) h)
  | uartBreak => exact .next (State.uartBreak_touch (by decide) h)
  | uartStuckLow => exact .next (State.uartStuck_touch (by decide) h)
  | uartBreakEnd => exact .next (State.uartBreakEnd_touch (by decide) h)
  | uartRxTimeout => exact .next (State.uartIdle_touch (by decide) h)
  | uartCharSent => exact .next (State.uartSent_touch (by decide) h)
  | uartTxDone => exact .next (State.uartTxDone_touch (by decide) h)
  | uartDeTail => exact .next (State.uartTail_touch (by decide) h)
  | uartStartEdgeWake => exact .next (State.uartWake_touch (by decide) h)
  | dsenPowerOn => exact .next (State.senPowerOn_touch (by decide) h)
  | romCopyDone => exact .next (State.romCopied_touch (by decide) h)
  | mendFrame => exact .next (State.mendFrame_touch (by decide) h)
  | mendFrameGap => exact .next (State.mendGap_touch (by decide) h)
  | helloMend => exact .next (State.mendHello_touch (by decide) h)
  | mendErase => exact .next (State.mendErase_touch (by decide) h)
  | mendWrite => exact .next (State.mendWrite_touch (by decide) h)
  | mendVerify => exact .next (State.mendVerify_touch (by decide) h)
  | mendSelect => exact .next (State.mendSelect_touch (by decide) h)
  | mendLeave => exact .next (State.mendLeave_touch (by decide) h)
  | cryDone => exact .next (State.cryDone_touch (by decide) h)
  | fuseBurnDone => exact .next (State.fuseDone_touch (by decide) h)
  | wdExpiry => exact .next (State.wdExpiry_touch (by decide) h)
  | xspiPollRead => exact .next (State.xspiPollRead_touch (by decide) h)
  | xspiPollTimeout => exact .next (State.xspiPollTimeout_touch (by decide) h)
  | xspiDone => exact .next (State.xspiDone_touch (by decide) h)
  | trackerAgeExpire => exact .next (State.trackerExpire_touch (by decide) h)
  | bankCopyDone => exact .next (State.bankFree_touch (by decide) h)
  | anaPgFall => exact .next (State.anaPgFall_touch (by decide) h)
  | rawTick => exact .next (State.rawTick_touch (by decide) h)
  | routerCycle => exact .next (State.routerCycle_touch (by decide) h)
  | coreIllegal => exact .next (State.kIllegal_touch (by decide) h)
  | coreFetchError => exact .next (State.kFetchError_touch (by decide) h)
  | startBitNoise => exact .next (State.uartNoise_touch (by decide) h)
  | stkPgRise => exact .next (State.stkPgRise_touch (by decide) h)
  | anaPgRise => exact .next (State.anaPgRise_touch (by decide) h)
  | tachPinChange => exact .next (State.tachPin_touch (by decide) (State.elapse_touch (by decide) h))
  | adccalTableWrite => exact .next (.ite (write _ _ _ _) (.ite (write _ _ _ _) (write _ _ _ _)))
  | laneFrame => exact .next (.ite (State.laneFrame_touch (by decide) h) h)
  | frameDigestClose => exact .next (State.sendDigests_touch (by decide) (State.frameClose_touch (by decide) h))
  | evlWrite => exact .next (.ite (write _ _ _ _) (.ite (write _ _ _ _) (write _ _ _ _)))
  | tachWakeEdge => exact .next (.ite (State.wakeLatch_touch (by decide) h) h)
  | pfwAssert => exact .next (h.set_power (by decide) _)
  | clockFail => exact .next (.ite (.ite (State.restart_touch (by decide) h) h) (State.clockFailed_touch (by decide) h))
  | dvfsTargetWrite => exact .next (.ite (write _ _ _ _) (write _ _ _ _))
  | vbkSwitchover => exact .next (State.vbatSample_touch (by decide) (h.fsetB (by decide) _ _))
  | tickSetLoad => exact .next (.ite (State.rawTick_touch (by decide) h) h)
  | crcCheckDone => exact .next (.ite (State.bkCheck_touch (by decide) h) h)
  | deviceRestart => exact .next (.ite (State.restart_touch (by decide) h) h)
  | holdRetry => exact .next (.ite (State.romS_touch (by decide) h) h)
  | packetSend => exact .clocked (fun _ ht => State.mendLeft_touch (by decide) (State.packetSend_touch (by decide) ht))

/-- What keeps the canonical forms of the register file, of memory and of flash keeps that of the state. -/
theorem Agree.wf {M : Nat} {s t : State} (h : Agree M s t) (w : s.wf = true) : t.wf = true := by
  simp only [State.wf, Bool.and_eq_true] at w ⊢
  obtain ⟨⟨hregs, hmem⟩, hflash⟩ := w
  exact ⟨⟨h.regsWf hregs, h.memWf hmem⟩, h.flashWf hflash⟩

/-- A step completes with the queue's rest and keeps the canonical forms; on an empty queue it idles. -/
theorem step_completes (s : State) :
    ∃ t, step s = .next t ∧ t.pending = s.pending.tail ∧ (s.wf = true → t.wf = true) := by
  unfold step
  split
  case h_1 hq => exact ⟨s, rfl, by simp [hq], id⟩
  case h_2 c rest hq =>
    obtain ⟨t, ht, ha⟩ := exec_completes c { s with pending := rest }
    exact ⟨t, ht, by simpa [hq] using ha.pending_same (by decide), fun w => ha.wf w⟩

/-- Settles O5: by the step lemma over every command. -/
theorem stepKeepsForm : Obligations.StepKeepsForm := by
  unfold Obligations.StepKeepsForm
  intro s t w h
  obtain ⟨u, hu, -, hw⟩ := step_completes s
  rw [hu] at h
  cases h
  exact hw w

/-- Settles O6: by the step lemma over every command. -/
theorem stepTakesOne : Obligations.StepTakesOne := by
  unfold Obligations.StepTakesOne
  intro s
  obtain ⟨t, ht, hq, -⟩ := step_completes s
  exact ⟨t, ht, hq⟩

/-- Settles O3: the state after reset lists no register, byte or command. -/
theorem resetCanonical : Obligations.ResetCanonical := by
  unfold Obligations.ResetCanonical
  exact ⟨by decide, rfl⟩

end Sys2Proof.Machine
end

section
/-!
PROOF. Rules of the error flags, the interrupt bits and the log of bus errors: which registers, by index, each of them
leaves.
-/

namespace Sys2Proof.Machine

/-! ### Frames by register -/

/-- From a canonical register file, `t` has one too, and every register outside `L` holds in it what it holds in `s`. -/
def RegFrame (L : List (Reg × Nat)) (s t : State) : Prop :=
  Regs.wf s.regs = true → Regs.wf t.regs = true ∧ s.sameRegsBut t L

theorem RegFrame.of_regs {L : List (Reg × Nat)} {s t : State} (h : t.regs = s.regs) : RegFrame L s t := fun w =>
  ⟨by rwa [h], fun _ _ _ _ => by rw [State.reg, State.reg, h]⟩

theorem RegFrame.refl (L : List (Reg × Nat)) (s : State) : RegFrame L s s := .of_regs rfl

theorem RegFrame.trans {L : List (Reg × Nat)} {s t u : State} (h : RegFrame L s t) (k : RegFrame L t u) :
    RegFrame L s u := fun w => by
  obtain ⟨wt, ht⟩ := h w
  obtain ⟨wu, hu⟩ := k wt
  exact ⟨wu, fun r n ok hn => (hu r n ok hn).trans (ht r n ok hn)⟩

theorem RegFrame.mono {L L' : List (Reg × Nat)} {s t : State} (h : RegFrame L s t) (hL : L ⊆ L') : RegFrame L' s t :=
  fun w => by
    obtain ⟨wt, ht⟩ := h w
    exact ⟨wt, fun r n ok hn => ht r n ok (fun hm => hn (hL hm))⟩

/-- A register outside the list keeps its word. -/
theorem RegFrame.reg {L : List (Reg × Nat)} {s t : State} (h : RegFrame L s t) (w : Regs.wf s.regs = true) {r : Reg}
    {n : Nat} (ok : r.ok n = true) (hn : (r, n) ∉ L) : t.reg r n = s.reg r n := (h w).2 r n ok hn

theorem RegFrame.setReg {L : List (Reg × Nat)} (s : State) {r : Reg} {n : Nat} (v : Word) (hm : (r, n) ∈ L) :
    RegFrame L s (s.setReg r n v) := fun w =>
  ⟨setReg_wf _ _ _ _ w, fun r' n' ok' hn' => reg_setReg_ne _ _ w ok' (by
    by_contra hc
    push Not at hc
    obtain ⟨rfl, rfl⟩ := hc
    exact hn' hm)⟩

theorem RegFrame.ite {L : List (Reg × Nat)} {s t u : State} {c : Prop} [Decidable c] (h : RegFrame L s t)
    (k : RegFrame L s u) : RegFrame L s (if c then t else u) := by
  split
  · exact h
  · exact k

theorem RegFrame.forEach {L : List (Reg × Nat)} {α : Type} {f : α → State → State} (hf : ∀ x t, RegFrame L t (f x t))
    (xs : List α) (s : State) : RegFrame L s (forEach xs f s) := by
  unfold Sys2Proof.Machine.forEach
  induction xs generalizing s with
  | nil => exact .refl L s
  | cons x xs ih => exact (hf x s).trans (ih (f x s))

/-! ### Frames by part and by array, from a mask -/

theorem Agree.samePart {M : Nat} {s t : State} (h : Agree M s t) (p : Part) (hb : M.testBit p.ctorIdx = false) :
    s.samePart t p := by
  cases p with
  | pending => exact h.pending_same hb
  | now => exact h.now_same hb
  | mem => exact h.mem_same hb
  | ecc => exact h.ecc_same hb
  | held => exact h.held_same hb
  | freeze => exact h.freeze_same hb
  | softReset => exact h.softReset_same hb
  | draws => exact h.draws_same hb
  | answer => exact h.answer_same hb
  | router => exact h.router_same hb
  | basket => exact h.basket_same hb
  | power => exact h.power_same hb
  | seams => exact h.seams_same hb
  | tach => exact h.tach_same hb
  | engines => exact h.engines_same hb
  | epoch => exact h.epoch_same hb
  | modules => exact h.modules_same hb
  | beacon => exact h.beacon_same hb
  | idb => exact h.idb_same hb
  | darn => exact h.darn_same hb
  | adc => exact h.adc_same hb
  | chains => exact h.chains_same hb
  | lines => exact h.lines_same hb
  | wel => exact h.wel_same hb
  | bkd => exact h.bkd_same hb
  | links => exact h.links_same hb
  | uarts => exact h.uarts_same hb
  | cores => exact h.cores_same hb
  | clocks => exact h.clocks_same hb
  | temps => exact h.temps_same hb
  | fuses => exact h.fuses_same hb
  | crypto => exact h.crypto_same hb
  | xspi => exact h.xspi_same hb
  | flash => exact h.flash_same hb
  | wdts => exact h.wdts_same hb
  | mend => exact h.mend_same hb
  | boot => exact h.boot_same hb
  | late => exact h.late_same hb
  | checks => exact h.checks_same hb
  | timers => exact h.timers_same hb

/-- Every part outside `L` has bit 0 in the mask `M`. -/
def partsWithin (M : Nat) (L : List Part) : Bool :=
  (List.range 40).all (fun i => L.any (fun p => p.ctorIdx == i) || !M.testBit i)

theorem Part.ctorIdx_inj {p q : Part} (h : p.ctorIdx = q.ctorIdx) : p = q := by
  rw [← Part.ofNat_ctorIdx p, h, Part.ofNat_ctorIdx]

theorem Part.ctorIdx_lt (p : Part) : p.ctorIdx < 40 := by cases p <;> decide

theorem Agree.samePartsBut {M : Nat} {L : List Part} {s t : State} (h : Agree M s t) (hM : partsWithin M L = true) :
    s.samePartsBut t L := fun p hp => by
  refine h.samePart p ?_
  have hi := List.all_eq_true.mp hM p.ctorIdx (List.mem_range.mpr p.ctorIdx_lt)
  simp only [Bool.or_eq_true, List.any_eq_true, beq_iff_eq, Bool.not_eq_true'] at hi
  rcases hi with ⟨q, hq, hqp⟩ | hi
  · exact absurd (Part.ctorIdx_inj hqp ▸ hq) hp
  · exact hi

theorem State.samePartsBut.trans {L : List Part} {s t u : State} (h : s.samePartsBut t L) (k : t.samePartsBut u L) :
    s.samePartsBut u L := fun p hp => by
  have h1 := h p hp
  have h2 := k p hp
  cases p <;> exact Eq.trans h2 h1

/-- The answer to a requester is the one part that it changes. -/
theorem State.samePartsBut.answered {L : List Part} {s t : State} (h : s.samePartsBut t L) (x : BusAnswer)
    (ha : Part.answer ∈ L) : s.samePartsBut { t with answer := x } L := fun p hp => by
  have h1 := h p hp
  cases p with
  | answer => exact absurd ha hp
  | _ => exact h1

/-! ### Page taps and interrupt bits -/

/-- The registers that a rising interrupt output may change through a page tap (R283, R284). -/
def tapRegs : List (Reg × Nat) := [(.PAGE_IRQ, 0x08), (.EVR_STATUS, 0)]

theorem irqWake_regs (s : State) : s.irqWake.regs = s.regs := by
  unfold State.irqWake
  extract_lets up
  split <;> rfl

theorem genMerged_frame (s : State) : RegFrame tapRegs s s.genMerged :=
  (RegFrame.setReg (r := .EVR_STATUS) s _ (by decide)).trans (RegFrame.setReg (r := .PAGE_IRQ) _ _ (by decide))

theorem pulseWith_frame {L : List (Reg × Nat)} (s : State) (g : Nat) {merged : State → State}
    (hm : ∀ t, RegFrame L t (merged t)) : RegFrame L s (s.pulseWith g merged) := by
  unfold State.pulseWith
  split
  · exact .refl _ _
  · exact .ite (.refl _ _) (.ite (hm s) (.of_regs rfl))

theorem genMergedTaps_frame (s : State) : RegFrame tapRegs s s.genMergedTaps := by
  unfold State.genMergedTaps
  extract_lets t
  refine .ite ((genMerged_frame s).trans (.trans (.of_regs (irqWake_regs t)) ?_)) (genMerged_frame s)
  exact .forEach (fun _ u => pulseWith_frame u _ genMerged_frame) _ _

theorem tapRise_frame (s : State) (p : Nat) : RegFrame tapRegs s (s.tapRise p) :=
  .forEach (fun _ t => pulseWith_frame t _ genMergedTaps_frame) _ _

theorem withTaps_frame (s t : State) (p : Nat) : RegFrame tapRegs t (s.withTaps t p) := by
  unfold State.withTaps
  exact .ite (.trans (.of_regs (irqWake_regs t)) (tapRise_frame _ p)) (.refl _ _)

theorem irq_frame (s : State) (p b : Nat) : RegFrame ((.PAGE_IRQ, p) :: tapRegs) s (s.irq p b) :=
  (RegFrame.setReg s _ List.mem_cons_self).trans ((withTaps_frame _ _ _).mono (List.subset_cons_self _ _))

/-! ### The error flags of a page -/

theorem pageErr_frame (s : State) (p b : Nat) :
    RegFrame ((.PAGE_STATUS, p) :: (.PAGE_IRQ, p) :: tapRegs) s (s.pageErr p b) := by
  unfold State.pageErr
  exact .ite (.refl _ _) ((RegFrame.setReg s _ List.mem_cons_self).trans
    ((irq_frame _ _ _).mono (List.subset_cons_self _ _)))

/-- An array with a register for each of the 256 pages. -/
theorem ok_of_pageHead {r : Reg} {p : Nat} (hc : r.count = 256) (hr : r ≠ .EVR_TSEL ∧ r ≠ .EVR_TSTAT) (hp : p < 256) :
    r.ok p = true := by
  simp [Reg.ok, hc, hp, hr]

theorem pageStatus_ok {p : Nat} (hp : p < 256) : Reg.PAGE_STATUS.ok p = true := ok_of_pageHead (by decide) (by decide) hp

/-- An error sets its bit of PAGE_STATUS and no other. -/
theorem bits_pageErr (s : State) {p b c : Nat} (w : Regs.wf s.regs = true) (hp : p < 256) (hb : b < 32) :
    bits ((s.pageErr p b).reg .PAGE_STATUS p) c 1 = if c = b then 1 else bits (s.reg .PAGE_STATUS p) c 1 := by
  have ok := pageStatus_ok hp
  unfold State.pageErr
  split
  next h => split <;> simp_all
  next h =>
    rw [(irq_frame _ p 31).reg (setReg_wf _ _ _ _ w) ok (by simp [tapRegs]), reg_setReg_same _ _ _ _ w ok]
    split
    next hc => rw [hc]; exact bits_withBits_same _ _ _ _ (by omega)
    next hc => exact bits_withBits_other _ _ _ _ _ _ (by omega)

/-- An error flag of a page, with the answer to the requester, is all that changes. -/
theorem pageErr_onlyFlags (s : State) {p b : Nat} (x : BusAnswer) (w : Regs.wf s.regs = true) (hp : p < 256) (hb : b < 32) :
    s.onlyFlags { s.pageErr p b with answer := x } p b := by
  refine ⟨?_, fun c _ hc => ?_, ?_, ?_⟩
  · exact (bits_pageErr s w hp hb).trans (if_pos rfl)
  · exact (bits_pageErr s w hp hb).trans (if_neg hc)
  · obtain ⟨-, h⟩ := (pageErr_frame s p b) w
    exact h
  · have h : Agree 0x10000000000000000180000000000000200 s (s.pageErr p b) := State.pageErr_touch (by decide) (.refl _ _)
    exact State.samePartsBut.answered (h.samePartsBut (by decide)) x (by decide)

/-! ### The log of bus errors -/

/-- The log of bus errors (R32), with the interrupt bit of SYS. -/
def logRegs : List (Reg × Nat) :=
  [(.FAB_ERR_ADDR_LO, 0), (.FAB_ERR_ADDR_HI, 0), (.FAB_ERR_INFO, 0), (.PAGE_IRQ, 0x00), (.PAGE_IRQ, 0x08), (.EVR_STATUS, 0)]

theorem irq_sys_frame (s : State) (b : Nat) : RegFrame [(.PAGE_IRQ, 0x00), (.PAGE_IRQ, 0x08), (.EVR_STATUS, 0)] s (s.irq 0x00 b) :=
  irq_frame s 0x00 b

theorem logBusErr_frame (s : State) (a : Nat) (wr : Bool) (src cause : Nat) :
    RegFrame logRegs s (s.logBusErr a wr src cause) := by
  unfold State.logBusErr
  refine .ite (.setReg (r := .FAB_ERR_INFO) s _ (by decide)) ?_
  extract_lets s1 s2 s3 s4 s5
  have hi (t : State) (v : Word) : RegFrame logRegs t (t.setReg .FAB_ERR_INFO 0 v) := .setReg t v (by decide)
  have h3 : RegFrame logRegs s s3 :=
    ((RegFrame.setReg s _ (by decide)).trans (.setReg s1 _ (by decide))).trans (hi s2 _)
  exact (((h3.trans (hi s3 _)).trans (hi s4 _)).trans (hi s5 _)).trans ((irq_sys_frame _ 0).mono (by decide))

end Sys2Proof.Machine
end

section
/-!
PROOF. What an access to a register page does that the fabric performs and that the page does not take: the conditions of
R7 in their order, and the statements about them.
-/

namespace Sys2Proof.Machine

/-! ### What the log of bus errors holds -/

theorem RegFrame.fget {L : List (Reg × Nat)} {s t : State} (h : RegFrame L s t) (w : Regs.wf s.regs = true) {f : Fld}
    {n : Nat} (ok : f.reg.ok n = true) (hn : (f.reg, n) ∉ L) : t.fget f n = s.fget f n := by
  rw [State.fget, State.fget, h.reg w ok hn]

theorem State.wf_regs {s : State} (w : s.wf = true) : Regs.wf s.regs = true := by
  simp only [State.wf, Bool.and_eq_true] at w
  obtain ⟨⟨hr, -⟩, -⟩ := w
  exact hr

/-- A bus error that finds the log empty fills it. -/
theorem logBusErr_first {s : State} (a : Nat) (wr : Bool) (src cause : Nat) (w : Regs.wf s.regs = true)
    (h : s.flag F.FAB_ERR_INFO_VALID = false) :
    (s.logBusErr a wr src cause).flag F.FAB_ERR_INFO_VALID = true ∧
      (s.logBusErr a wr src cause).fget F.FAB_ERR_INFO_CAUSE = cause % 16 ∧
      (s.logBusErr a wr src cause).flag F.FAB_ERR_INFO_WRITE = wr := by
  unfold State.logBusErr
  rw [if_neg (by simp [h])]
  extract_lets s1 s2 s3 s4 s5
  have w3 : Regs.wf s3.regs = true := fset_wf _ _ _ _ (setReg_wf _ _ _ _ (setReg_wf _ _ _ _ w))
  have w4 : Regs.wf s4.regs = true := fsetB_wf s3 _ _ _ w3
  have w5 : Regs.wf s5.regs = true := fset_wf s4 _ _ _ w4
  have hirq {f : Fld} (hf : f.reg = .FAB_ERR_INFO) :
      ((s5.fsetB F.FAB_ERR_INFO_VALID 0 true).irq 0x00 0).fget f = (s5.fsetB F.FAB_ERR_INFO_VALID 0 true).fget f :=
    (irq_sys_frame _ 0).fget (fsetB_wf _ _ _ _ w5) (by rw [hf]; decide) (by rw [hf]; decide)
  have hcause : (s5.fsetB F.FAB_ERR_INFO_VALID 0 true).fget F.FAB_ERR_INFO_CAUSE = cause % 16 :=
    (fget_fset_field s5 F.FAB_ERR_INFO_VALID F.FAB_ERR_INFO_CAUSE 0 1 w5 (by decide) rfl (by decide)).trans
      (fget_fset_same s4 F.FAB_ERR_INFO_CAUSE 0 cause w4 (by decide) (by decide))
  have hwrite : (s5.fsetB F.FAB_ERR_INFO_VALID 0 true).fget F.FAB_ERR_INFO_WRITE = (if wr then 1 else 0) % 2 :=
    ((fget_fset_field s5 F.FAB_ERR_INFO_VALID F.FAB_ERR_INFO_WRITE 0 1 w5 (by decide) rfl (by decide)).trans
      (fget_fset_field s4 F.FAB_ERR_INFO_CAUSE F.FAB_ERR_INFO_WRITE 0 cause w4 (by decide) rfl (by decide))).trans
      (fget_fset_same s3 F.FAB_ERR_INFO_WRITE 0 (if wr then 1 else 0) w3 (by decide) (by decide))
  have hvalid : (s5.fsetB F.FAB_ERR_INFO_VALID 0 true).fget F.FAB_ERR_INFO_VALID = 1 :=
    fget_fset_same s5 F.FAB_ERR_INFO_VALID 0 1 w5 (by decide) (by decide)
  refine ⟨?_, (hirq rfl).trans hcause, ?_⟩
  · rw [State.flag, hirq rfl, hvalid]; rfl
  · rw [State.flag, hirq rfl, hwrite]; cases wr <;> rfl

/-- A bus error that finds the log filled sets OVF and leaves the cause. -/
theorem logBusErr_second {s : State} (a : Nat) (wr : Bool) (src cause : Nat) (w : Regs.wf s.regs = true)
    (h : s.flag F.FAB_ERR_INFO_VALID = true) :
    (s.logBusErr a wr src cause).flag F.FAB_ERR_INFO_OVF = true ∧
      (s.logBusErr a wr src cause).fget F.FAB_ERR_INFO_CAUSE = s.fget F.FAB_ERR_INFO_CAUSE := by
  unfold State.logBusErr
  rw [if_pos h]
  have hovf : (s.fsetB F.FAB_ERR_INFO_OVF 0 true).fget F.FAB_ERR_INFO_OVF = 1 :=
    fget_fset_same s F.FAB_ERR_INFO_OVF 0 1 w (by decide) (by decide)
  exact ⟨by rw [State.flag, hovf]; rfl, fget_fset_field s F.FAB_ERR_INFO_OVF F.FAB_ERR_INFO_CAUSE 0 1 w (by decide) rfl (by decide)⟩

/-- What a logged bus error, answered with its cause, leaves. -/
theorem logBusErr_frames (s : State) (a : Nat) (wr : Bool) (src cause : Nat) (x : BusAnswer) (w : Regs.wf s.regs = true) :
    s.samePartsBut { s.logBusErr a wr src cause with answer := x } [.router, .answer] ∧
      s.sameRegsBut { s.logBusErr a wr src cause with answer := x } logRegs := by
  have h : Agree 0x1000000000000001c100000000000000200 s (s.logBusErr a wr src cause) :=
    State.logBusErr_touch (by decide) (.refl _ _)
  obtain ⟨-, hregs⟩ := logBusErr_frame s a wr src cause w
  exact ⟨State.samePartsBut.answered (h.samePartsBut (by decide)) x (by decide), hregs⟩

/-! ### The conditions of R7 -/

/-- An access that reaches its page is performed. -/
theorem access_reaches {s : State} {q : Requester} {a : Nat} (wr : Bool) (sz : AccessSize) (v : Word)
    (h : s.reaches q (a / 0x1000) = true) :
    s.access q wr sz a v = s.perform (s.who q) wr sz.bytes a (logAddr q a) v := by
  simp only [State.reaches, Bool.and_eq_true, Bool.not_eq_true'] at h
  obtain ⟨⟨hq, hp⟩, hh⟩ := h
  simp [State.access, State.fabHolds, hq, hp, hh]

theorem reaches_of_performs {s : State} {q : Requester} {p : Nat} (h : s.performs q p = true) : s.reaches q p = true := by
  simp only [State.performs, State.fabHolds, Bool.and_eq_true, Bool.not_eq_true', Bool.or_eq_false_iff] at h
  obtain ⟨⟨⟨hq, hp, hh⟩, -⟩, -⟩ := h
  simp [State.reaches, hq, hp, hh]

/-- A mapped page is one of the 256 of the register space. -/
theorem page_lt {p : Nat} (h : (pageInfo p).isSome = true) : p < 256 := by
  by_contra hp
  have : pageInfo p = none := by
    unfold pageInfo
    repeat rw [if_neg (by omega)]
  simp [this] at h

theorem mapped_of_live {s : State} {p : Nat} (h : s.pageLive p = true) : (pageInfo p).isSome = true := by
  have := pageInfo_of_live h
  rwa [Option.isNone_eq_false_iff] at this

theorem AccessSize.bytes_eq_four {sz : AccessSize} : sz.bytes = 4 ↔ sz = .b4 := by cases sz <;> decide

/-- A write to an unmapped page (R5). -/
theorem perform_unmapped {s : State} (w : Who) (n : Nat) {a : Nat} (log : Nat) (v : Word) (h : pageInfo (a / 0x1000) = none) :
    s.perform w true n a log v = { s.logBusErr log true w.src 1 with answer := .err 1 } := by
  simp [State.perform, State.performWrite, State.busErr, h]

/-- A write to a mapped page that is not an aligned word (R1). -/
theorem perform_size {s : State} (w : Who) {n a : Nat} (log : Nat) (v : Word) (h : (pageInfo (a / 0x1000)).isSome = true)
    (hn : n ≠ 4 ∨ a % 4 ≠ 0) : s.perform w true n a log v = { s.logBusErr log true w.src 7 with answer := .err 7 } := by
  rw [← Option.isNone_eq_false_iff] at h
  simp [State.perform, State.performWrite, State.busErr, h, hn]

section
variable {s : State} {a : Nat} (w : Who) (wr : Bool) (log : Nat) (v : Word)

/-- A word access to a page that is gated or off (R6). -/
theorem perform_gated (h : (pageInfo (a / 0x1000)).isSome = true) (hl : s.pageLive (a / 0x1000) = false) (ha : a % 4 = 0) :
    s.perform w wr 4 a log v = { s with answer := .ok 0 } := by
  rw [← Option.isNone_eq_false_iff] at h
  cases wr <;> simp [State.perform, State.performWrite, State.performRead, h, hl, ha]

/-- A word access to an offset without a register (R4). -/
theorem perform_offset (hl : s.pageLive (a / 0x1000) = true) (ha : a % 4 = 0) (hr : regAt a = none) :
    s.perform w wr 4 a log v = { s.pageErr (a / 0x1000) 1 with answer := .ok 0 } := by
  have h := pageInfo_of_live hl
  cases wr <;> simp [State.perform, State.performWrite, State.performRead, h, hl, ha, hr]

/-- A word access that fails the owner check (R13). -/
theorem perform_owner {r : Reg} {n : Nat} (ok : r.ok n = true) (hl : s.pageLive (r.page n) = true)
    (ho : s.ownerPass w (r.page n) = false) :
    s.perform w wr 4 (r.addr n) log v = { s.pageErr (r.page n) 2 with answer := .ok 0 } := by
  unfold Reg.page at *
  have h := pageInfo_of_live hl
  cases wr <;> simp [State.perform, State.performWrite, State.performRead, h, hl, addr_mod4 ok, regAt_addr ok, ho]

end

/-! ### The statements -/

/-- Settles O7: the fabric logs the write and performs nothing. -/
theorem unmappedPage : Obligations.UnmappedPage := by
  unfold Obligations.UnmappedPage
  intro s q sz a v w hq hp
  have wr := State.wf_regs w
  obtain ⟨hparts, hregs⟩ := logBusErr_frames s (logAddr q a) true (s.who q).src 1 (.err 1) wr
  refine ⟨{ s.logBusErr (logAddr q a) true (s.who q).src 1 with answer := .err 1 }, ?_, rfl, hparts, hregs, ?_, ?_⟩
  · exact congrArg Host.Outcome.next ((access_reaches true sz v hq).trans (perform_unmapped _ _ _ _ hp))
  · exact logBusErr_first _ true _ 1 wr
  · exact logBusErr_second _ true _ 1 wr

/-- Settles O8: the fabric logs the write and performs nothing. -/
theorem accessSizeError : Obligations.AccessSizeError := by
  unfold Obligations.AccessSizeError
  intro s q sz a v w hq hp hsz
  have wr := State.wf_regs w
  obtain ⟨hparts, hregs⟩ := logBusErr_frames s (logAddr q a) true (s.who q).src 7 (.err 7) wr
  refine ⟨{ s.logBusErr (logAddr q a) true (s.who q).src 7 with answer := .err 7 }, ?_, rfl, hparts, hregs, fun hv => ?_⟩
  · have hn : sz.bytes ≠ 4 ∨ a % 4 ≠ 0 := hsz.imp_left (mt AccessSize.bytes_eq_four.mp)
    exact congrArg Host.Outcome.next ((access_reaches true sz v hq).trans (perform_size _ _ _ hp hn))
  · obtain ⟨hvalid, hcause, -⟩ := logBusErr_first (logAddr q a) true (s.who q).src 7 wr hv
    exact ⟨hvalid, hcause⟩

/-- Settles O9: the page gives no answer of its own. -/
theorem gatedPage : Obligations.GatedPage := by
  unfold Obligations.GatedPage
  intro s q a v hq hp hl ha
  have h (wr : Bool) (v : Word) : s.access q wr .b4 a v = { s with answer := .ok 0 } :=
    (access_reaches wr .b4 v hq).trans (perform_gated _ wr _ v hp hl ha)
  exact ⟨congrArg Host.Outcome.next (h true v), congrArg Host.Outcome.next (h false 0#32)⟩

/-- Settles O10: the flag is all that the access leaves. -/
theorem unmappedOffset : Obligations.UnmappedOffset := by
  unfold Obligations.UnmappedOffset
  intro s q a v w hq hl ha hr
  have h (wr : Bool) (v : Word) : s.access q wr .b4 a v = { s.pageErr (a / 0x1000) 1 with answer := .ok 0 } :=
    (access_reaches wr .b4 v hq).trans (perform_offset _ wr _ v hl ha hr)
  have hf := pageErr_onlyFlags s (.ok 0) (b := 1) (State.wf_regs w) (page_lt (mapped_of_live hl)) (by decide)
  exact ⟨⟨_, congrArg Host.Outcome.next (h true v), rfl, hf⟩, ⟨_, congrArg Host.Outcome.next (h false 0#32), rfl, hf⟩⟩

/-- The owner check of a requester without the rights of S (R13). -/
theorem ownerPass_iff (s : State) {w : Who} (p : Nat) (h : w.isS = false) :
    s.ownerPass w p = true ↔ (s.fget F.PAGE_OWNER_OWNER p = w.id ∨ s.fget F.PAGE_OWNER_OWNER p = 7) ∧
      (s.flag F.PAGE_OWNER_SEC p = false ∨ w.secure = true) := by
  simp [State.ownerPass, h]

/-- Settles O11: R14 and R15 by the attributes of the requesters, the rest by the order of R7. -/
theorem ownerCheck : Obligations.OwnerCheck := by
  unfold Obligations.OwnerCheck
  refine ⟨fun s p => rfl, fun s => ⟨_, rfl, fun hlife => ?_, fun hlife => ?_⟩, fun s q p h => ownerPass_iff s p h, ?_⟩
  · simp [State.who, hlife]
  · simp [State.who, hlife]
  · intro s q r n v w ok hq hl ho
    have h (wr : Bool) (v : Word) : s.access q wr .b4 (r.addr n) v = { s.pageErr (r.page n) 2 with answer := .ok 0 } :=
      (access_reaches wr .b4 v hq).trans (perform_owner _ wr _ v ok hl ho)
    have hf := pageErr_onlyFlags s (.ok 0) (b := 2) (State.wf_regs w) (page_lt (mapped_of_live hl)) (by decide)
    exact ⟨⟨_, congrArg Host.Outcome.next (h true v), rfl, hf⟩, ⟨_, congrArg Host.Outcome.next (h false 0#32), rfl, hf⟩⟩

/-- A write without the further rights of its register (R7). -/
theorem regWrite_refused {s : State} {w : Who} (p : Nat) {r : Reg} {n : Nat} {v : Word} (h : s.mayWrite w r n v = false) :
    s.regWrite w p r n v = s.pageErr p 2 := by
  simp [State.regWrite, h]

/-- A write that carries a reserved encoding (R3). -/
theorem regWrite_reserved {s : State} {w : Who} (p : Nat) {r : Reg} {n : Nat} {v : Word} (hm : s.mayWrite w r n v = true)
    (hc : s.calClosed r n = none) (hv : wordReserved r n v = true ∨ s.nowReserved r n v = true) :
    s.regWrite w p r n v = s.pageErr p 0 := by
  simp [State.regWrite, hm, hc, hv]

/-- Settles O12: the flag is all that the write leaves. -/
theorem reservedEncoding : Obligations.ReservedEncoding := by
  unfold Obligations.ReservedEncoding
  intro s q r n v w ok hq hm hc hv
  obtain ⟨hl, -⟩ := performs_live hq
  have h := (writeReg_performs s q r n v ok hq).trans (by rw [regWrite_reserved _ hm hc hv])
  exact ⟨_, congrArg Host.Outcome.next h, rfl,
    pageErr_onlyFlags s (.ok 0) (State.wf_regs w) (page_lt (mapped_of_live hl)) (by decide)⟩

end Sys2Proof.Machine
end

section
/-!
PROOF. Fields of a register word: what a write leaves in each by its access code, and what a read that clears leaves.
-/

namespace Sys2Proof.Machine

/-! ### What a write leaves, bit by bit -/

/-- The bit that a write of `v` leaves where the field's bit was `old` (R2, R8). -/
def Acc.bitAfter (acc : Acc) (old v : Bool) : Bool :=
  match acc with
  | .rw => v
  | .st => v
  | .w1s => old || v
  | .w1c => old && !v
  | _ => old

/-- The word `x` after a write of `v` has taken its effect on field `f`. -/
def FieldDesc.merge (v x : Word) (f : FieldDesc) : Word :=
  match f.acc with
  | .rw => withBits x f.lo f.width (bits v f.lo f.width)
  | .st => withBits x f.lo f.width (bits v f.lo f.width)
  | .w1s => x ||| (v &&& maskOf f.lo f.width)
  | .w1c => x &&& ~~~(v &&& maskOf f.lo f.width)
  | _ => x

theorem mergeWord_eq_foldl (r : Reg) (old v : Word) : mergeWord r old v = r.fields.foldl (FieldDesc.merge v) old := rfl

/-- Bit `i` lies in the field. -/
def FieldDesc.covers (f : FieldDesc) (i : Nat) : Prop := f.lo ≤ i ∧ i < f.lo + f.width

theorem merge_getLsbD_of_not_covers (v x : Word) {f : FieldDesc} {i : Nat} (h : ¬ f.covers i) :
    (FieldDesc.merge v x f).getLsbD i = x.getLsbD i := by
  unfold FieldDesc.covers at h
  have hb (y : Nat) : (withBits x f.lo f.width y).getLsbD i = x.getLsbD i := withBits_outside _ _ _ _ _ (by omega)
  have hm : (maskOf f.lo f.width).getLsbD i = false := by
    rw [maskOf_getLsbD]; simp only [Bool.and_eq_false_iff, decide_eq_false_iff_not]; omega
  unfold FieldDesc.merge
  split
  · exact hb _
  · exact hb _
  · simp [hm]
  · by_cases hi : i < 32
    · simp only [BitVec.getLsbD_and, BitVec.getLsbD_not, hm, hi, Bool.and_false, Bool.not_false, decide_true, Bool.and_true]
    · simp only [BitVec.getLsbD_of_ge _ _ (Nat.not_lt.mp hi)]
  · rfl

theorem merge_getLsbD_of_covers (v x : Word) {f : FieldDesc} {i : Nat} (hf : f.lo + f.width ≤ 32) (h : f.covers i) :
    (FieldDesc.merge v x f).getLsbD i = f.acc.bitAfter (x.getLsbD i) (v.getLsbD i) := by
  unfold FieldDesc.covers at h
  have hi : i < 32 := by omega
  have hb : (withBits x f.lo f.width (bits v f.lo f.width)).getLsbD i = v.getLsbD i := by
    rw [withBits_getLsbD, if_pos ⟨h.1, h.2, hi⟩, testBit_bits, show f.lo + (i - f.lo) = i by omega]
    simp only [Bool.and_eq_right_iff_imp, decide_eq_true_eq]
    omega
  have hm : (maskOf f.lo f.width).getLsbD i = true := by
    rw [maskOf_getLsbD]; simp [hi, h]
  unfold FieldDesc.merge Acc.bitAfter
  split
  · exact hb
  · exact hb
  · simp [hm]
  · simp only [BitVec.getLsbD_and, BitVec.getLsbD_not, hm, hi, Bool.and_true, decide_true, Bool.true_and]
  · rfl

/-- No bit lies in two fields. -/
def FieldDesc.apart (f g : FieldDesc) : Prop := f.lo + f.width ≤ g.lo ∨ g.lo + g.width ≤ f.lo

theorem FieldDesc.apart.not_covers {f g : FieldDesc} (h : f.apart g) {i : Nat} (hf : f.covers i) : ¬ g.covers i := by
  unfold FieldDesc.apart FieldDesc.covers at *
  omega

theorem foldl_merge_outside (v x : Word) (fs : List FieldDesc) {i : Nat} (h : ∀ f ∈ fs, ¬ f.covers i) :
    (fs.foldl (FieldDesc.merge v) x).getLsbD i = x.getLsbD i := by
  induction fs generalizing x with
  | nil => rfl
  | cons f fs ih =>
    rw [List.foldl_cons, ih _ (fun g hg => h g (List.mem_cons_of_mem f hg)),
      merge_getLsbD_of_not_covers v x (h f List.mem_cons_self)]

theorem foldl_merge_inside (v x : Word) (fs : List FieldDesc) (hp : fs.Pairwise FieldDesc.apart) {f : FieldDesc} {i : Nat}
    (hm : f ∈ fs) (hf : f.lo + f.width ≤ 32) (hi : f.covers i) :
    (fs.foldl (FieldDesc.merge v) x).getLsbD i = f.acc.bitAfter (x.getLsbD i) (v.getLsbD i) := by
  induction fs generalizing x with
  | nil => cases hm
  | cons g fs ih =>
    rw [List.pairwise_cons] at hp
    obtain ⟨hg, hp⟩ := hp
    rw [List.foldl_cons]
    rcases List.mem_cons.mp hm with rfl | hm
    · rw [foldl_merge_outside v _ fs (fun k hk => (hg k hk).not_covers hi), merge_getLsbD_of_covers v x hf hi]
    · have hgi : ¬ g.covers i := fun hgi => (hg f hm).not_covers hgi hi
      rw [ih _ hp hm, merge_getLsbD_of_not_covers v x hgi]

/-- The fields of a register lie in its 32 bits. -/
def Reg.fieldsFit (r : Reg) : Bool := r.fields.all (fun f => decide (f.lo + f.width ≤ 32))

theorem Reg.fieldsFit_all (r : Reg) : r.fieldsFit = true := Reg.all_of_nat (p := Reg.fieldsFit) (by decide +kernel) r

/-- Of the fields of a list no two have a bit in common. -/
def fieldsApart : List FieldDesc → Bool
  | [] => true
  | f :: fs => fs.all (fun g => decide (f.lo + f.width ≤ g.lo ∨ g.lo + g.width ≤ f.lo)) && fieldsApart fs

theorem pairwise_of_fieldsApart {fs : List FieldDesc} (h : fieldsApart fs = true) : fs.Pairwise FieldDesc.apart := by
  induction fs with
  | nil => exact .nil
  | cons f fs ih =>
    simp only [fieldsApart, Bool.and_eq_true, List.all_eq_true, decide_eq_true_eq] at h
    obtain ⟨hf, hfs⟩ := h
    exact .cons hf (ih hfs)

theorem Reg.fieldsApart_all (r : Reg) : fieldsApart r.fields = true :=
  Reg.all_of_nat (p := fun r => fieldsApart r.fields) (by decide +kernel) r

theorem Reg.field_fits {r : Reg} {f : FieldDesc} (hf : f ∈ r.fields) : f.lo + f.width ≤ 32 := by
  have := List.all_eq_true.mp r.fieldsFit_all f hf
  rwa [decide_eq_true_eq] at this

/-- What a write leaves in a bit of a field. -/
theorem mergeWord_getLsbD {r : Reg} (old v : Word) {f : FieldDesc} {i : Nat} (hf : f ∈ r.fields) (hi : f.covers i) :
    (mergeWord r old v).getLsbD i = f.acc.bitAfter (old.getLsbD i) (v.getLsbD i) :=
  foldl_merge_inside v old r.fields (pairwise_of_fieldsApart r.fieldsApart_all) hf (Reg.field_fits hf) hi

/-- Settles O14: the fields of a register have no bit in common, so each bit meets one field of the write at most. -/
theorem fieldAccess : Obligations.FieldAccess := by
  unfold Obligations.FieldAccess
  intro r old v
  refine ⟨fun f hf i hlo hhi => ?_, fun i h => foldl_merge_outside v old r.fields h⟩
  have h := mergeWord_getLsbD old v hf ⟨hlo, hhi⟩
  unfold Acc.bitAfter at h
  exact h

/-! ### A read that clears -/

/-- A register with RC fields is no port that moves on with a read. -/
theorem readEffects_regs (s : State) (w : Who) {r : Reg} (n : Nat) (h : r.rcMask ≠ 0#32) :
    (s.readEffects w r n).regs = (if w.cap = 7 then s else s.setReg r n (s.reg r n &&& ~~~r.rcMask)).regs := by
  have hne {r' : Reg} (hr : r'.rcMask = 0#32) : r ≠ r' := fun e => h (e ▸ hr)
  unfold State.readEffects
  simp only [h, decide_false, Bool.or_false, decide_eq_true_eq]
  split
  · exact absurd rfl (hne (by decide))
  · exact absurd rfl (hne (by decide))
  · exact absurd rfl (hne (by decide))
  · exact absurd rfl (hne (by decide))
  · exact absurd rfl (hne (by decide))
  · split <;> rfl
  · exact absurd rfl (hne (by decide))
  · exact absurd rfl (hne (by decide))
  · rfl

theorem reg_of_regs {s t : State} (h : t.regs = s.regs) (r : Reg) (n : Nat) : t.reg r n = s.reg r n := by
  rw [State.reg, State.reg, h]

/-- Settles O15: the read stores the register without its RC fields, unless the debug port reads. -/
theorem readClears : Obligations.ReadClears := by
  unfold Obligations.ReadClears
  intro s q r n w ok hrc hq hg
  have wr := State.wf_regs w
  have hregs := readEffects_regs s (s.who q) n hrc
  have hread : s.regRead (s.who q) r n = (s.readEffects (s.who q) r n, s.regWord r n) := by
    simp only [State.regRead, hg]
  have h := readReg_performs s q r n ok hq
  rw [hread] at h
  refine ⟨_, congrArg Host.Outcome.next h, rfl, ?_, fun r' n' ok' hn' => ?_⟩
  · refine (reg_of_regs hregs r n).trans ?_
    split
    · rfl
    · exact reg_setReg_same _ _ _ _ wr ok
  · refine (reg_of_regs hregs r' n').trans ?_
    split
    · rfl
    · exact (RegFrame.setReg s _ List.mem_cons_self).reg wr ok' hn'

end Sys2Proof.Machine
end

section
/-!
PROOF. A word write that the page takes: what lands in a register whose write orders nothing, in the GPIO outputs and in the
owner of a page.
-/

namespace Sys2Proof.Machine

/-! ### Registers whose write orders nothing -/

/-- The arrays whose write orders something, or that a block follows at once: heads of pages, command and control registers,
ports and such settings. -/
def orderRegs : List Reg :=
  [.PAGE_CTRL, .PAGE_IRQ_EN, .PAGE_OWNER, .PWR_CTRL, .PWR_ASK, .WAKE_EN, .CLK_EN, .CLK_PEN, .CLKMON_CMD, .CLKMON_CTRL,
    .DVFS_TARGET, .BKD_CTRL, .BKD_BK, .BKD_MEAS_CTRL, .PMB_CMD, .EVR_FIRE, .EVR_CFG, .EVR_CSTAT, .EVL_CELL_IN, .EVL_CELL_TT,
    .EVL_CELL_MODE, .BS_CTRL, .BS_VALUE, .SEAM_SOFT, .ANG_CTRL, .ANG_CFG, .ANG_TBL_DATA, .AIN_CTRL, .AIN_ALIGN, .AIN_GRP_PWR,
    .AIN_CHEN, .AIN_IDCOMMIT, .ADC_CTRL, .ADCCAL_CTRL, .RESULT_START, .RL_CTRL, .RL_CFG, .RL_TBL_DATA, .LINE_CTRL,
    .LINE_SHORT, .LINE_FETCH_CTRL, .PEG_LINE, .PEG_FIRST, .PEG_COUNT, .PEG_BEFORE, .PEG_AFTER, .PEG_CMD, .HBMC_CTRL,
    .HBMC_TDATA, .WEL_CTRL, .CS_CTRL, .CS_DATA, .CS_DATA5, .WELQ_QTAIL, .WELQ_QCFG, .WELQ_MAP, .PZL_CTRL, .MGL_CTRL,
    .BEACON_CTRL, .BEACON_CFG, .BEACON_RATE, .BEACON_PERIOD, .PAIR_CTRL, .PAIR_RING_CFG, .PAIR_STATUS, .PAIR_RING_BREAK,
    .UART_CTRL, .UART_BAUD, .UART_RXR_CFG, .UART_RXR_RD, .UART_TX_CTRL, .UART_TXDATA, .XSPI_CMD, .IDB_CMD, .GPIO_CTRL,
    .GPIO_OUT, .GPIO_OE, .GPIO_SET, .GPIO_CLR, .WD_CTRL, .WD_KICK, .CRY_CMD, .FUSE_PROG, .BOOT_CTRL, .BOOT_STATUS,
    .BOOT_MBOX, .DARN_CTRL, .DARN_LOG_CTRL, .DARN_IN_CTRL, .CORE_CTRL, .CORE_IRQ_EN_LO, .CORE_IRQ_EN_HI, .WIN, .RESTART]

section plain
variable {r : Reg} (hr : r ∉ orderRegs) (s old : State) (w : Who) (n : Nat) (v : Word)
include hr

theorem portWrite_plain : s.portWrite w r n v = none := by
  unfold State.portWrite
  split
  case h_27 => rfl
  all_goals exact absurd (by decide) hr

theorem stored_plain : s.stored r n v = mergeWord r (s.reg r n) v &&& r.has n := by
  unfold State.stored
  split
  case h_5 => rfl
  all_goals exact absurd (by decide) hr

theorem stChanged_plain : s.stChanged old r n = s := by
  unfold State.stChanged
  split
  case h_6 => rfl
  all_goals exact absurd (by decide) hr

theorem afterHead_plain : s.afterHead old r n v = s := by
  unfold State.afterHead
  split
  case h_4 => rfl
  all_goals exact absurd (by decide) hr

theorem afterSen_plain : s.afterSen old w r n v = s := by
  unfold State.afterSen
  split
  case h_12 => rfl
  all_goals exact absurd (by decide) hr

theorem afterAcq_plain : s.afterAcq old r n v = s := by
  unfold State.afterAcq
  split
  case h_31 => rfl
  all_goals exact absurd (by decide) hr

theorem afterFar_plain : s.afterFar old r n v = s := by
  unfold State.afterFar
  split
  case h_17 => rfl
  all_goals exact absurd (by decide) hr

end plain

theorem ne_of_not_order {r r' : Reg} (hr : r ∉ orderRegs) (h' : r' ∈ orderRegs) : r ≠ r' := fun e => hr (e ▸ h')

/-- The write lands in its register and, if the setting is staged, is noted. -/
theorem landWrite_plain {r : Reg} (hr : r ∉ orderRegs) (s : State) (w : Who) (n : Nat) (v : Word) :
    s.landWrite w r n v = (s.setReg r n (mergeWord r (s.reg r n) v &&& r.has n)).noteStaged s r n := by
  have hrate : r ≠ .BEACON_RATE := ne_of_not_order hr (by decide)
  have hctrl : r ≠ .PAGE_CTRL := ne_of_not_order hr (by decide)
  have hpen : r ≠ .CLK_PEN := ne_of_not_order hr (by decide)
  unfold State.landWrite
  simp only [hrate, hctrl, hpen, if_false, or_self, stored_plain hr, stChanged_plain hr, afterHead_plain hr,
    afterSen_plain hr, afterAcq_plain hr, afterFar_plain hr]

/-- The balls follow a write of the GPIO outputs. -/
theorem landWrite_gpio {r : Reg} (hr : r ∈ [Reg.GPIO_OUT, Reg.GPIO_OE]) (s : State) (w : Who) (n : Nat) (v : Word) :
    s.landWrite w r n v =
      ((s.setReg r n (mergeWord r (s.reg r n) v &&& r.has n)).noteStaged s r n).gpioFollow := by
  simp only [List.mem_cons, List.not_mem_nil, or_false] at hr
  rcases hr with rfl | rfl <;> rfl

/-- A change of the owner of MANGLE may stop its units; of the owner of another page nothing follows. -/
theorem landWrite_owner (s : State) (w : Who) (n : Nat) (v : Word) :
    s.landWrite w .PAGE_OWNER n v =
      ((s.setReg .PAGE_OWNER n (mergeWord .PAGE_OWNER (s.reg .PAGE_OWNER n) v &&& 0xFFFFFFFF#32)).noteStaged s
        .PAGE_OWNER n).afterHead s .PAGE_OWNER n v := rfl

/-! ### Frames of a write that is taken -/

/-- Every array outside `L` has bit 0 in the mask `M`. -/
def arraysWithin (M : Nat) (L : List Reg) : Bool :=
  (List.range 444).all (fun i => L.any (fun r => r.ctorIdx == i) || !M.testBit (64 + i))

theorem Agree.sameArraysBut {M : Nat} {L : List Reg} {s t : State} (h : Agree M s t) (w : Regs.wf s.regs = true)
    (hM : arraysWithin M L = true) : s.sameArraysBut t L := fun r n ok hr => by
  refine h.regs w r n ok ?_
  have hi := List.all_eq_true.mp hM r.ctorIdx (List.mem_range.mpr r.ctorIdx_lt)
  simp only [Bool.or_eq_true, List.any_eq_true, beq_iff_eq, Bool.not_eq_true'] at hi
  rcases hi with ⟨x, hx, hxr⟩ | hi
  · have e : x = r := by rw [← Reg.ofNat_ctorIdx x, hxr, Reg.ofNat_ctorIdx]
    exact absurd (e ▸ hx) hr
  · exact hi

theorem noteStaged_regs (s old : State) (r : Reg) (n : Nat) : (s.noteStaged old r n).regs = s.regs := by
  unfold State.noteStaged
  extract_lets a
  split <;> rfl

theorem noteStaged_epoch (s old : State) (r : Reg) (n : Nat) : (s.noteStaged old r n).epoch = s.epoch := by
  unfold State.noteStaged
  extract_lets a
  split <;> rfl

theorem taken_regs (s t : State) : (s.taken t).regs = t.regs := by
  rw [State.taken, softReady_eq]

/-- Of the epoch timer only the pending soft seam may become due. -/
theorem taken_epoch (s t : State) (x : Option Nat) :
    { (s.taken t).epoch with softReq := x } = { t.epoch with softReq := x } := by
  rw [State.taken, softReady_eq]

theorem taken_parts {L : List Part} {s t : State} (h : s.samePartsBut t L) (ha : Part.answer ∈ L) (he : Part.epoch ∈ L) :
    s.samePartsBut (s.taken t) L := by
  rw [State.taken, softReady_eq]
  refine State.samePartsBut.answered (fun p hp => ?_) (.ok 0) ha
  have h1 := h p hp
  cases p with
  | epoch => exact absurd he hp
  | _ => exact h1

/-- The parts that a write of a setting can touch. -/
def landMask : Nat :=
  0xfffffffffffffffffffffffffffffffffffffffffffffffffffffffffffffffffffffffffffffffffffffffffffffffffffffffffffffff0000002000000000

theorem noteStaged_agree (s : State) (r : Reg) (n : Nat) (x : Word) :
    Agree landMask s ((s.setReg r n x).noteStaged s r n) :=
  State.noteStaged_touch (by decide) (allBit (by decide) r) ((Agree.refl _ s).setReg (allBit (by decide) r) n x)

theorem noteStaged_frame (s : State) (r : Reg) (n : Nat) (x : Word) :
    RegFrame [(r, n)] s ((s.setReg r n x).noteStaged s r n) :=
  (RegFrame.setReg s x List.mem_cons_self).trans (.of_regs (noteStaged_regs _ _ _ _))

/-- A write that the page takes to a register that is no port. -/
theorem writeReg_taken {s : State} {q : Requester} {r : Reg} {n : Nat} {v : Word} (ok : r.ok n = true)
    (h : s.admits q r n v = true) (hp : s.portWrite (s.who q) r n v = none) :
    s.writeReg q r n v = s.taken (s.landWrite (s.who q) r n v) := by
  rw [writeReg_admits s q r n v ok h, hp]
  rfl

theorem writeLands_plain {s : State} {q : Requester} {r : Reg} {n : Nat} {v : Word} (w : Regs.wf s.regs = true)
    (ok : r.ok n = true) (h : s.admits q r n v = true) (hr : r ∉ orderRegs) :
    ∃ t, exec (.registerWrite q .b4 (r.addr n) v) s = .next t ∧ t.answer = .ok 0 ∧
      t.reg r n = mergeWord r (s.reg r n) v &&& r.has n ∧
      s.sameRegsBut t [(r, n)] ∧ s.samePartsBut t [.answer, .epoch, .late] ∧
      { t.epoch with softReq := s.epoch.softReq } = s.epoch := by
  have ht := writeReg_taken ok h (portWrite_plain hr s (s.who q) n v)
  rw [landWrite_plain hr] at ht
  generalize hx : mergeWord r (s.reg r n) v &&& r.has n = x at ht
  refine ⟨_, congrArg Host.Outcome.next ht, rfl, ?_, ?_, ?_, ?_⟩
  · rw [reg_of_regs (taken_regs _ _), reg_of_regs (noteStaged_regs _ _ _ _), reg_setReg_same _ _ _ _ w ok]
  · obtain ⟨-, hregs⟩ := (noteStaged_frame s r n x).trans (.of_regs (taken_regs s _)) w
    exact hregs
  · exact taken_parts ((noteStaged_agree s r n x).samePartsBut (by decide)) (by decide) (by decide)
  · rw [taken_epoch, noteStaged_epoch, setReg_epoch]

/-- What the GPIO outputs have of a word. -/
theorem has_gpio {r : Reg} {n : Nat} (hr : r ∈ [Reg.GPIO_OUT, Reg.GPIO_OE]) (ok : r.ok n = true) :
    r.has n = if n = 1 then 0xFFFF#32 else 0xFFFFFFFF#32 := by
  simp only [List.mem_cons, List.not_mem_nil, or_false] at hr
  have hn : n < 2 := by rcases hr with rfl | rfl <;> exact Reg.ok_lt ok
  obtain rfl | rfl : n = 0 ∨ n = 1 := by omega
  · rcases hr with rfl | rfl <;> rfl
  · rcases hr with rfl | rfl <;> rfl

/-- The parts and arrays that the balls can touch. -/
def gpioMask : Nat :=
  0x40000000000000000000000000000000000000000000000000000000000000000000000000010000000000000000100000000000000200

theorem gpioFollow_agree (s : State) : Agree gpioMask s s.gpioFollow := State.gpioFollow_touch (by decide) (.refl _ s)

theorem gpioFollow_arrays (s : State) (w : Regs.wf s.regs = true) :
    s.sameArraysBut s.gpioFollow [.GPIO_IN, .PAGE_IRQ, .EVR_STATUS] :=
  (gpioFollow_agree s).sameArraysBut w (by decide +kernel)

theorem writeLands_gpio {s : State} {q : Requester} {r : Reg} {n : Nat} {v : Word} (w : Regs.wf s.regs = true)
    (ok : r.ok n = true) (h : s.admits q r n v = true) (hr : r ∈ [Reg.GPIO_OUT, Reg.GPIO_OE]) :
    ∃ t, exec (.registerWrite q .b4 (r.addr n) v) s = .next t ∧ t.answer = .ok 0 ∧
      t.reg r n = mergeWord r (s.reg r n) v &&& (if n = 1 then 0xFFFF#32 else 0xFFFFFFFF#32) ∧
      (∀ (r' : Reg) (n' : Nat), r'.ok n' = true → (r', n') ≠ (r, n) → r' ∉ [Reg.GPIO_IN, Reg.PAGE_IRQ, Reg.EVR_STATUS] →
        t.reg r' n' = s.reg r' n') ∧
      s.samePartsBut t [.answer, .epoch, .late, .router] := by
  have hport : s.portWrite (s.who q) r n v = none := by
    simp only [List.mem_cons, List.not_mem_nil, or_false] at hr
    rcases hr with rfl | rfl <;> rfl
  have ht := writeReg_taken ok h hport
  rw [landWrite_gpio hr, has_gpio hr ok] at ht
  generalize hx : mergeWord r (s.reg r n) v &&& (if n = 1 then 0xFFFF#32 else 0xFFFFFFFF#32) = x at ht
  have hframe := noteStaged_frame s r n x
  obtain ⟨wu, -⟩ := hframe w
  have hballs := gpioFollow_arrays _ wu
  have hr' : r ∉ [Reg.GPIO_IN, Reg.PAGE_IRQ, Reg.EVR_STATUS] := by
    simp only [List.mem_cons, List.not_mem_nil, or_false] at hr
    rcases hr with rfl | rfl <;> decide
  refine ⟨_, congrArg Host.Outcome.next ht, rfl, ?_, fun r' n' ok' hne hr'' => ?_, ?_⟩
  · rw [reg_of_regs (taken_regs _ _), hballs r n ok hr', reg_of_regs (noteStaged_regs _ _ _ _),
      reg_setReg_same _ _ _ _ w ok]
  · rw [reg_of_regs (taken_regs _ _), hballs r' n' ok' hr'']
    exact hframe.reg w ok' (by simpa using hne)
  · have h1 := (noteStaged_agree s r n x).samePartsBut (L := [.answer, .epoch, .late, .router]) (by decide)
    have h2 := (gpioFollow_agree ((s.setReg r n x).noteStaged s r n)).samePartsBut (L := [.answer, .epoch, .late, .router])
      (by decide)
    exact taken_parts (h1.trans h2) (by decide) (by decide)

/-- Settles O29: by the landing of a plain write and of a write of the GPIO outputs. -/
theorem writeLands : Obligations.WriteLands := by
  unfold Obligations.WriteLands
  intro s q r n v w ok h
  exact ⟨writeLands_plain (State.wf_regs w) ok h, writeLands_gpio (State.wf_regs w) ok h⟩

/-! ### The owner of a page -/

/-- What a write leaves in a field that takes the bits that it carries. -/
theorem bits_mergeWord {r : Reg} (old v : Word) {f : FieldDesc} (hf : f ∈ r.fields)
    (hacc : ∀ i, f.covers i → f.acc.bitAfter (old.getLsbD i) (v.getLsbD i) = v.getLsbD i) :
    bits (mergeWord r old v) f.lo f.width = bits v f.lo f.width := by
  apply Nat.eq_of_testBit_eq
  intro i
  rw [testBit_bits, testBit_bits]
  by_cases hi : i < f.width
  · have hc : f.covers (f.lo + i) := ⟨by omega, by omega⟩
    rw [mergeWord_getLsbD old v hf hc, hacc _ hc]
  · simp [hi]

theorem pageOwner_ok {p : Nat} (hp : p < 256) : Reg.PAGE_OWNER.ok p = true := ok_of_pageHead (by decide) (by decide) hp

theorem pageOwner_page (p : Nat) : Reg.PAGE_OWNER.page p = p := by
  have : Reg.PAGE_OWNER.addr p = 0x18 + (p / 1 * 0x1000 + 0) := rfl
  rw [Reg.page, this]
  omega

/-- A write that its rights allow is turned away from PAGE_OWNER for no other reason. -/
theorem admits_owner {s : State} {q : Requester} {p : Nat} (v : Word) (hq : s.performs q p = true)
    (hm : s.mayWrite (s.who q) .PAGE_OWNER p v = true) : s.admits q .PAGE_OWNER p v = true := by
  have hpage := pageOwner_page p
  have hres : wordReserved .PAGE_OWNER p v = false := rfl
  have hnow : s.nowReserved .PAGE_OWNER p v = false := rfl
  have hcal : s.calClosed .PAGE_OWNER p = none := rfl
  have hfails : s.directFails .PAGE_OWNER p v = none := rfl
  have hturn : s.turnedAway .PAGE_OWNER v = none := rfl
  simp [State.admits, hpage, hq, hm, hres, hnow, hcal, hfails, hturn]

/-- What follows a change of a page's owner leaves the owners. -/
theorem afterHead_owner_reg (s old : State) {n p : Nat} (v : Word) (w : Regs.wf s.regs = true) (hp : p < 256) :
    (s.afterHead old .PAGE_OWNER n v).reg .PAGE_OWNER p = s.reg .PAGE_OWNER p := by
  have h : Agree (1 <<< (64 + Reg.MGL_CTRL.ctorIdx)) s (s.afterHead old .PAGE_OWNER n v) :=
    .ite (.forEach (.refl _ s) (fun u t ht => ht.fsetB (by decide) u false) _) (.refl _ s)
  exact h.regs w .PAGE_OWNER p (pageOwner_ok hp) (by decide)

/-- A write to PAGE_OWNER that its rights allow stores its word, by the access codes of the fields. -/
theorem writeReg_owner {s : State} {q : Requester} {p : Nat} (v : Word) (w : Regs.wf s.regs = true) (hp : p < 256)
    (hq : s.performs q p = true) (hm : s.mayWrite (s.who q) .PAGE_OWNER p v = true) :
    (s.writeReg q .PAGE_OWNER p v).answer = .ok 0 ∧
      (s.writeReg q .PAGE_OWNER p v).reg .PAGE_OWNER p = mergeWord .PAGE_OWNER (s.reg .PAGE_OWNER p) v := by
  have ok := pageOwner_ok hp
  rw [writeReg_taken ok (admits_owner v hq hm) rfl, landWrite_owner]
  refine ⟨rfl, ?_⟩
  obtain ⟨wu, -⟩ := noteStaged_frame s .PAGE_OWNER p
    (mergeWord .PAGE_OWNER (s.reg .PAGE_OWNER p) v &&& 0xFFFFFFFF#32) w
  rw [reg_of_regs (taken_regs _ _), afterHead_owner_reg _ _ _ wu hp, reg_of_regs (noteStaged_regs _ _ _ _),
    reg_setReg_same _ _ _ _ w ok]
  exact BitVec.and_allOnes

/-- Settles O16: by the access codes of the three fields, and by the further right that the register asks for. -/
theorem pageOwnerWrite : Obligations.PageOwnerWrite := by
  unfold Obligations.PageOwnerWrite
  intro s q p v w _ hq
  have wr := State.wf_regs w
  constructor
  · intro hlock hright
    have hm : s.mayWrite (s.who q) .PAGE_OWNER p.val v = true := by simpa [State.mayWrite, hlock] using hright
    obtain ⟨hanswer, hreg⟩ := writeReg_owner v wr p.isLt hq hm
    refine ⟨_, rfl, hanswer, ?_, ?_, ?_⟩
    · rw [State.fget]
      exact (congrArg (bits · 0 3) hreg).trans
        (bits_mergeWord (f := ⟨"OWNER", 0, 3, .rw, 7, []⟩) _ v (by decide) (fun _ _ => rfl))
    · rw [State.fget]
      exact (congrArg (bits · 3 1) hreg).trans
        (bits_mergeWord (f := ⟨"SEC", 3, 1, .rw, 1, []⟩) _ v (by decide) (fun _ _ => rfl))
    · rw [State.fget]
      refine (congrArg (bits · 4 1) hreg).trans
        (bits_mergeWord (f := ⟨"LOCK", 4, 1, .w1s, 0, []⟩) _ v (by decide) (fun i hi => ?_))
      obtain rfl : i = 4 := by obtain ⟨hlo, hhi⟩ := hi; simp only at hlo hhi; omega
      have hzero : bits (s.reg .PAGE_OWNER p.val) 4 1 = 0 := bne_eq_false_iff_eq.mp hlock
      have hbit : (s.reg .PAGE_OWNER p.val).getLsbD 4 = false := by
        rw [← Bool.true_and (BitVec.getLsbD _ 4)]
        exact (testBit_bits _ 4 1 0).symm.trans (by rw [hzero]; rfl)
      rw [hbit]
      rfl
  · intro hright
    have hm : s.mayWrite (s.who q) .PAGE_OWNER p.val v = false := by
      rcases hright with hlock | ⟨hS, hsec⟩
      · simp [State.mayWrite, hlock]
      · simp [State.mayWrite, hS, hsec]
    have hpage : Reg.PAGE_OWNER.page p.val = p.val := pageOwner_page p.val
    have h := writeReg_performs s q .PAGE_OWNER p.val v (pageOwner_ok p.isLt) (hpage.symm ▸ hq)
    rw [hpage, regWrite_refused _ hm] at h
    exact ⟨_, congrArg Host.Outcome.next h, rfl, pageErr_onlyFlags s (.ok 0) wr p.isLt (by decide)⟩

end Sys2Proof.Machine
end

section
/-!
PROOF. Statements that fail: a state that the model evaluates to the refuting outcome, for each.
-/

namespace Sys2Proof.Machine

/-! ### Register files that are not canonical

An entry that stands behind one of a higher address is not found until that one is removed, which a store of the reset value
does: such a store changes what another register reads as. -/

/-- State after reset but for its register file: behind EN of DVFS stands an entry that gates SYS. -/
def gateBehindEn : State := { State.reset with regs := [(Reg.PAGE_CTRL.addr 5, 1#32), (Reg.CLK_PEN.addr 0, 0#32)] }

/-- Refutes O4: that EN is no part of what makes a page live is claimed of every register file, canonical or not. EN of DVFS
goes to its reset value in `gateBehindEn`, and SYS is no longer live. -/
theorem not_resetHeads : ¬ Obligations.ResetHeads := by
  unfold Obligations.ResetHeads
  rintro ⟨-, h⟩
  have before : gateBehindEn.pageLive 0 = true := by decide +kernel
  have after : (gateBehindEn.fsetB F.PAGE_CTRL_EN 5 false).pageLive 0 = false := by decide +kernel
  have same := h gateBehindEn 5 0 false
  rw [before, after] at same
  cases same

/-- State after reset but for its register file: behind a high level of GPIO ball 0 stands an entry of SYS_STRAPS. -/
def strapsBehindBall : State := { State.reset with regs := [(Reg.GPIO_IN.addr 0, 1#32), (Reg.SYS_STRAPS.addr 0, 1#32)] }

/-- Refutes O32: the frame of EXTEST is claimed of every register file, canonical or not. In `strapsBehindBall` the cells drive
ball 0 low, GPIO_IN goes to its reset value, and SYS_STRAPS reads otherwise than before. -/
theorem not_debugPort : ¬ Obligations.DebugPort := by
  unfold Obligations.DebugPort
  rintro ⟨h, -, -⟩
  obtain ⟨t, ht, -, -, -, -, hregs, -⟩ := h strapsBehindBall 0 [] .b4 0 none (by decide) (by decide)
  have hscan : t = strapsBehindBall.jtagScan 0 [] := (Host.Outcome.next.inj ht).symm
  have before : strapsBehindBall.reg .SYS_STRAPS 0 = 0#32 := by decide +kernel
  have after : (strapsBehindBall.jtagScan 0 []).reg .SYS_STRAPS 0 = 1#32 := by decide +kernel
  have same := hregs .SYS_STRAPS 0 (by decide) (by decide)
  rw [hscan, before, after] at same
  cases same

/-! ### A soft reset of a page that is not clocked -/

/-- State after reset with a soft reset of DVFS in progress, when its clock is gated. -/
def gatedInReset : State := { State.reset with softReset := [5] }.fsetBit F.CLK_PEN_PEN 0 5 false

/-- Refutes O30: a soft reset does not end while its page is not clocked (R324). In `gatedInReset` the row of its end changes
nothing, and the page stays among those in soft reset. -/
theorem not_softReset : ¬ Obligations.SoftReset := by
  unfold Obligations.SoftReset
  rintro ⟨-, h⟩
  have ends := congrArg State.softReset (Host.Outcome.next.inj (h gatedInReset 5))
  have stays : (gatedInReset.clocked 5 (fun s => s.softDone 5)).softReset = [5] := by decide +kernel
  have none : gatedInReset.softReset.filter (fun x => x != 5) = [] := by decide +kernel
  cases stays.symm.trans (ends.trans none)

end Sys2Proof.Machine
end

section
/-!
PROOF. The accesses that the fabric holds: what an access leaves that has to wait, and what a release performs.
-/

namespace Sys2Proof.Machine

/-- The fabric holds an access for one of two reasons: its page (R483), or an earlier access of the requester (R29). -/
theorem State.fabHolds_iff (s : State) (q : Requester) (p : Nat) :
    s.fabHolds q p = true ↔
      s.pageHeld p = true ∨ s.held.any (fun h => h.q == q && h.addr / 0x1000 == p) = true := by
  rw [State.fabHolds, Bool.or_eq_true]

/-- An access that the fabric holds waits behind those held already, and nothing else of it happens. -/
theorem access_held {s : State} {q : Requester} {a : Nat} (wr : Bool) (sz : AccessSize) (v : Word)
    (hq : s.canIssue q = true) (hh : s.fabHolds q (a / 0x1000) = true) :
    s.access q wr sz a v =
      { s with held := s.held ++ [⟨q, (s.who q).secure, wr, sz, a, v, logAddr q a⟩], answer := .none } := by
  simp [State.access, hq, hh]

/-- A held access is performed with the secure attribute that it carries. The rights of S are those of the requester at this
moment, but for the debug port, which has them exactly where its access came as a secure one (R15). -/
theorem performHeld_eq (s : State) (h : HeldAccess) (rest : List HeldAccess) :
    s.performHeld h rest =
      { s with held := rest }.perform
        { s.who h.q with secure := h.secure, isS := if h.q = Requester.debug then h.secure else (s.who h.q).isS }
        h.write h.size.bytes h.addr h.log h.value := by
  obtain ⟨q, secure, write, size, addr, value, log⟩ := h
  cases q <;> rfl

/-- While a held access has a free page, the release performs the oldest of those. -/
theorem heldRelease_free {s : State} {h : HeldAccess} {rest : List HeldAccess}
    (hfree : takeFirst (fun (h : HeldAccess) => !s.pageHeld (h.addr / 0x1000)) s.held = some (h, rest)) :
    s.heldRelease = s.performHeld h rest := by
  simp only [State.heldRelease, hfree]

/-- Settles O13: an arrival ends in the hold of the fabric, and a release in the oldest held access with a free page. -/
theorem accessHeld : Obligations.AccessHeld := by
  unfold Obligations.AccessHeld
  refine ⟨fun s q sz a v hq hheld => ?_, fun s h rest hfree => ?_⟩
  · have hh := (s.fabHolds_iff q (a / 0x1000)).mpr hheld
    exact ⟨congrArg Host.Outcome.next (access_held true sz v hq hh),
      congrArg Host.Outcome.next (access_held false .b4 0#32 hq hh)⟩
  · exact congrArg Host.Outcome.next ((heldRelease_free hfree).trans (performHeld_eq s h rest))

end Sys2Proof.Machine
end

section
/-!
PROOF. Fields, bits and pages between two states: what a store leaves in a field, and what two states that agree show alike.
-/

namespace Sys2Proof.Machine

/-- A register of an array with `m` elements, but for the arrays that have gaps (R288). -/
theorem ok_of_lt {r : Reg} {n m : Nat} (hn : n < m) (hc : r.count = m) (hr : r ≠ .EVR_TSEL ∧ r ≠ .EVR_TSTAT) :
    r.ok n = true := by
  simp [Reg.ok, hc, hn, hr]

/-! ### What a store leaves -/

theorem flag_fsetB_same {s : State} {f : Fld} {n : Nat} (b : Bool) (w : Regs.wf s.regs = true) (ok : f.reg.ok n = true)
    (hf : f.lo + f.width ≤ 32 ∧ f.width ≠ 0) : (s.fsetB f n b).flag f n = b := by
  obtain ⟨hlo, hw⟩ := hf
  have h : (s.fsetB f n b).fget f n = (if b then 1 else 0) % 2 ^ f.width := fget_fset_same s f n _ w ok hlo
  rw [State.flag, h]
  cases b
  · simp
  · simp [Nat.mod_eq_of_lt (Nat.one_lt_two_pow hw)]

theorem flag_fsetB_field {s : State} {f g : Fld} {n : Nat} (b : Bool) (w : Regs.wf s.regs = true) (ok : f.reg.ok n = true)
    (e : g.reg = f.reg) (h : g.lo + g.width ≤ f.lo ∨ f.lo + f.width ≤ g.lo) : (s.fsetB f n b).flag g n = s.flag g n :=
  congrArg (· != 0) (fget_fset_field s f g n _ w ok e h)

theorem fbit_fsetBit_same {s : State} {f : Fld} {n i : Nat} (b : Bool) (w : Regs.wf s.regs = true) (ok : f.reg.ok n = true)
    (hi : f.lo + i < 32) : (s.fsetBit f n i b).fbit f n i = b := by
  have h : (s.fsetBit f n i b).reg f.reg n = withBits (s.reg f.reg n) (f.lo + i) 1 (if b then 1 else 0) :=
    reg_setReg_same _ _ _ _ w ok
  rw [State.fbit, h, bits_withBits_same _ _ _ _ (by omega)]
  cases b <;> rfl

theorem fget_lt (s : State) (f : Fld) (n : Nat) : s.fget f n < 2 ^ f.width := Nat.mod_lt _ (Nat.two_pow_pos _)

theorem get64_set64_same {s : State} {lo hi : Reg} {n : Nat} (x : Nat) (w : Regs.wf s.regs = true) (okl : lo.ok n = true)
    (okh : hi.ok n = true) (hne : lo ≠ hi) : (s.set64 lo hi n x).get64 lo hi n = x % 2 ^ 64 := by
  have wl := setReg_wf s lo n (BitVec.ofNat 32 x) w
  have hlo : (s.set64 lo hi n x).reg lo n = BitVec.ofNat 32 x :=
    (reg_setReg_ne _ _ wl okl (Or.inl hne)).trans (reg_setReg_same _ _ _ _ w okl)
  have hhi : (s.set64 lo hi n x).reg hi n = BitVec.ofNat 32 (x / 2 ^ 32) := reg_setReg_same _ _ _ _ wl okh
  rw [State.get64, hlo, hhi, BitVec.toNat_ofNat, BitVec.toNat_ofNat]
  omega

/-! ### What agreeing states show alike -/

section agree
variable {M : Nat} {s t : State} (h : Agree M s t) (w : Regs.wf s.regs = true)
include h w

theorem Agree.fget_same {f : Fld} {n : Nat} (ok : f.reg.ok n = true) (hb : M.testBit (64 + f.reg.ctorIdx) = false) :
    t.fget f n = s.fget f n := by
  rw [State.fget, State.fget, h.regs w _ _ ok hb]

theorem Agree.flag_same {f : Fld} {n : Nat} (ok : f.reg.ok n = true) (hb : M.testBit (64 + f.reg.ctorIdx) = false) :
    t.flag f n = s.flag f n := by
  rw [State.flag, State.flag, h.fget_same w ok hb]

theorem Agree.fbit_same {f : Fld} {n i : Nat} (ok : f.reg.ok n = true) (hb : M.testBit (64 + f.reg.ctorIdx) = false) :
    t.fbit f n i = s.fbit f n i := by
  rw [State.fbit, State.fbit, h.regs w _ _ ok hb]

theorem Agree.get64_same {lo hi : Reg} {n : Nat} (okl : lo.ok n = true) (okh : hi.ok n = true)
    (hl : M.testBit (64 + lo.ctorIdx) = false) (hh : M.testBit (64 + hi.ctorIdx) = false) :
    t.get64 lo hi n = s.get64 lo hi n := by
  rw [State.get64, State.get64, h.regs w _ _ okl hl, h.regs w _ _ okh hh]

end agree

/-! ### Whether a page is live -/

/-- The power part and the registers that say whether a page is live and its block enabled: CLKMON_STATE, CLK_PEN, PAGE_CTRL. -/
def liveMask : Nat :=
  1 <<< 11 ||| 1 <<< (64 + Reg.CLKMON_STATE.ctorIdx) ||| 1 <<< (64 + Reg.CLK_PEN.ctorIdx) ||| 1 <<< (64 + Reg.PAGE_CTRL.ctorIdx)

theorem testBit_of_apart {M m i : Nat} (h : M &&& m = 0) (hi : m.testBit i = true) : M.testBit i = false := by
  have := congrArg (Nat.testBit · i) h
  simpa [hi] using this

section live
variable {M : Nat} {s t : State} (h : Agree M s t) (w : Regs.wf s.regs = true) (hM : M &&& liveMask = 0)
include h w hM

theorem Agree.domLive_same (d : Domain) : t.domLive d = s.domLive d := by
  have hmon {f : Fld} (hf : f.reg = .CLKMON_STATE) : t.fget f = s.fget f :=
    h.fget_same w (by rw [hf]; decide) (testBit_of_apart hM (by rw [hf]; decide))
  have hpower : t.domPower d = s.domPower d := by
    have := h.power_same (testBit_of_apart hM (by decide))
    cases d <;> simp [State.domPower, this]
  have hclk : t.clkState d = s.clkState d := by
    cases d
    · rfl
    · rfl
    · exact hmon rfl
    · exact hmon rfl
    · exact hmon rfl
    · exact hmon rfl
  rw [State.domLive, State.domLive, hpower, hclk]

theorem Agree.pageLive_same {p : Nat} (hp : p < 256) : t.pageLive p = s.pageLive p := by
  have hpen : t.pageClocked p = s.pageClocked p :=
    h.fbit_same (f := F.CLK_PEN_PEN) w (ok_of_lt (by omega : p / 32 < 8) (by decide) (by decide)) (testBit_of_apart hM (by decide))
  have hdom := h.domLive_same w hM
  unfold State.pageLive
  split <;> simp only [hdom, hpen]

theorem Agree.pageEn_same {p : Nat} (hp : p < 256) : t.pageEn p = s.pageEn p := by
  have hen : t.flag F.PAGE_CTRL_EN p = s.flag F.PAGE_CTRL_EN p :=
    h.flag_same w (ok_of_pageHead (by decide) (by decide) hp) (testBit_of_apart hM (by decide))
  rw [State.pageEn, State.pageEn, h.pageLive_same w hM hp, hen]

end live

end Sys2Proof.Machine
end

section
/-!
PROOF. The filters and the stamps of the tach inputs: what an accepted level does, and the tick at which a level is accepted.
-/

namespace Sys2Proof.Machine

/-! ### What an interrupt, a pulse and the passing of time can touch -/

/-- The router, and the registers that a pulse or an interrupt bit may change: PAGE_IRQ and EVR_STATUS. -/
def pulseMask : Nat := 1 <<< 9 ||| 1 <<< (64 + Reg.PAGE_IRQ.ctorIdx) ||| 1 <<< (64 + Reg.EVR_STATUS.ctorIdx)

theorem irq_agree (s : State) (p b : Nat) : Agree pulseMask s (s.irq p b) := State.irq_touch (by decide) (.refl _ s)

/-- Beside that, what the counting of the timers changes. -/
def timersMask : Nat :=
  pulseMask ||| 1 <<< 39 ||| 1 <<< (64 + Reg.TIM_CTRL.ctorIdx) ||| 1 <<< (64 + Reg.TIM_COUNT.ctorIdx)

/-- Beside that, the tick and the checks that hold a page. -/
def elapseMask : Nat := timersMask ||| 1 <<< 1 ||| 1 <<< 38

theorem elapse_agree (s : State) (dt : Nat) : Agree elapseMask s (s.elapse dt) := State.elapse_touch (by decide) (.refl _ s)

theorem elapse_now (s : State) (dt : Nat) : (s.elapse dt).now = s.now + dt := by
  have h (t : State) : Agree timersMask t (t.timersCount 0 dt) := State.timersCount_touch (by decide) (.refl _ t)
  exact (h _).now_same (by decide)

/-! ### An accepted level -/

/-- The filter and the stamps of input `n`. -/
def State.tachOf (s : State) (n : Nat) : Tach := s.tach.getD n ⟨false, none, none, 0⟩

/-- Replace them. -/
def State.setTach (s : State) (n : Nat) (x : Tach) : State := { s with tach := setAt ⟨false, none, none, 0⟩ s.tach n x }

@[simp] theorem setTach_tachOf (s : State) (n i : Nat) (x : Tach) :
    (s.setTach n x).tachOf i = if i = n then x else s.tachOf i := getD_setAt _ _ _ _ _

theorem Agree.setTach {M : Nat} {s0 s : State} (h : Agree M s0 s) (hb : M.testBit 13 = true) (n : Nat) (x : Tach) :
    Agree M s0 (s.setTach n x) := h.set_tach hb _

/-- The edge of tick `t` at input `n` has its stamp and is counted (R38). -/
def State.tachStamped (s : State) (n t : Nat) : State :=
  ((s.setTach n { s.tachOf n with last := some t }).set64 .TACH_STAMP_LO .TACH_STAMP_HI n
    ((s.stampOf t).1 % 2 ^ 48 * 2 ^ 16 + (s.stampOf t).2)).fadd F.TACH_COUNT_COUNT n 1

/-- It waits for its epoch edge, if an epoch has begun, and its event is raised (R38, R39). -/
def State.tachCounted (s : State) (n t : Nat) : State :=
  let u := s.tachStamped n t
  State.pulse (if (s.stampOf t).2 = 0xFFFF then u
    else { u with epoch := { u.epoch with tachEdges := u.epoch.tachEdges ++ [(n, t)] } }) (0x130 + n)

/-- The edge at input `n` came too soon after the last one (R37). -/
def State.tachOverrun (s : State) (n : Nat) : State := (s.fsetBit F.TACH_OVR_OVR 0 n true).irq 0x18 0

/-- The block counts the edge of input `n` to `level`: it is the active one, and the input and the page are enabled. -/
def State.tachHears (s : State) (n : Nat) (level : Bool) : Bool :=
  level != s.flag F.TACH_CFG_POL n && s.flag F.TACH_CFG_EN n && s.pageEn 0x18

/-- The last edge counted at input `n` lies less than 24 ticks before `t`. -/
def State.tachClose (s : State) (n t : Nat) : Bool :=
  match (s.tachOf n).last with
  | some l => decide (t < l + 24)
  | none => false

theorem tachAccept_eq (s : State) (n t : Nat) (level : Bool) :
    s.tachAccept n t level =
      if s.fbit F.TACH_LEVEL_LEVEL 0 n = level then s
      else
        let u := s.fsetBit F.TACH_LEVEL_LEVEL 0 n level
        if !u.tachHears n level then u else if u.tachClose n t then u.tachOverrun n else u.tachCounted n t := rfl

/-- The parts and registers that an accepted level may change once TACH_LEVEL shows it. -/
def tachMask : Nat :=
  pulseMask ||| 1 <<< 13 ||| 1 <<< 15 ||| 1 <<< (64 + Reg.TACH_STAMP_LO.ctorIdx) ||| 1 <<< (64 + Reg.TACH_STAMP_HI.ctorIdx) |||
    1 <<< (64 + Reg.TACH_COUNT.ctorIdx) ||| 1 <<< (64 + Reg.TACH_OVR.ctorIdx)

theorem levelShown_agree (s : State) (n : Nat) (level : Bool) :
    Agree (1 <<< (64 + Reg.TACH_LEVEL.ctorIdx)) s (s.fsetBit F.TACH_LEVEL_LEVEL 0 n level) :=
  (Agree.refl _ s).fsetBit (by decide) _ _ _

theorem tachOverrun_agree (s : State) (n : Nat) :
    Agree (pulseMask ||| 1 <<< (64 + Reg.TACH_OVR.ctorIdx)) s (s.tachOverrun n) :=
  State.irq_touch (by decide) ((Agree.refl _ s).fsetBit (by decide) _ _ _)

/-- An edge that comes too soon is marked (R37). -/
theorem tachOverrun_flag {s : State} {n : Nat} (w : Regs.wf s.regs = true) (hn : n < 32) :
    (s.tachOverrun n).fbit F.TACH_OVR_OVR 0 n = true :=
  ((irq_agree _ _ _).fbit_same (fsetBit_wf _ _ _ _ _ w) (by decide) (by decide)).trans
    (fbit_fsetBit_same true w (by decide) (by simpa [F.TACH_OVR_OVR] using hn))

theorem tachStamped_agree (s : State) (n t : Nat) : Agree tachMask s (s.tachStamped n t) :=
  (((Agree.refl _ s).setTach (by decide) _ _).set64 (by decide) (by decide) _ _).fadd (by decide) _ _

theorem tachCounted_agree_stamped (s : State) (n t : Nat) :
    Agree (pulseMask ||| 1 <<< 15) (s.tachStamped n t) (s.tachCounted n t) :=
  State.pulse_touch (by decide) (.ite (.refl _ _) ((Agree.refl _ _).set_epoch (by decide) _))

theorem tachCounted_agree (s : State) (n t : Nat) : Agree tachMask s (s.tachCounted n t) :=
  (tachStamped_agree s n t).trans ((tachCounted_agree_stamped s n t).mono (by decide))

/-- What TACH_LEVEL shows when input `n` has accepted a level. -/
theorem tachAccept_level {s : State} {n : Nat} (t : Nat) (level : Bool) (w : Regs.wf s.regs = true) (hn : n < 32) :
    (s.tachAccept n t level).fbit F.TACH_LEVEL_LEVEL 0 n = level := by
  rw [tachAccept_eq]
  split
  next h => exact h
  next =>
    extract_lets u
    have wu : Regs.wf u.regs = true := fsetBit_wf _ _ _ _ _ w
    have hu : u.fbit F.TACH_LEVEL_LEVEL 0 n = level := fbit_fsetBit_same level w (by decide) (by simpa [F.TACH_LEVEL_LEVEL] using hn)
    split
    · exact hu
    · split
      · exact ((tachOverrun_agree u n).fbit_same wu (by decide) (by decide)).trans hu
      · exact ((tachCounted_agree u n t).fbit_same wu (by decide) (by decide)).trans hu

section counted
variable {s : State} {n : Nat} (t : Nat) (w : Regs.wf s.regs = true) (hn : n < 32)
include w hn

/-- The count of a counted edge (R38). -/
theorem tachCounted_count : (s.tachCounted n t).fget F.TACH_COUNT_COUNT n = (s.fget F.TACH_COUNT_COUNT n + 1) % 2 ^ 32 := by
  have ok : Reg.TACH_COUNT.ok n = true := ok_of_lt hn (by decide) (by decide)
  have h := tachCounted_agree_stamped s n t
  have ws := (tachStamped_agree s n t).regsWf w
  rw [h.fget_same (f := F.TACH_COUNT_COUNT) ws ok (by decide), State.tachStamped]
  generalize hv : State.set64 _ _ _ _ _ = v
  have hag : Agree (1 <<< 13 ||| 1 <<< (64 + Reg.TACH_STAMP_LO.ctorIdx) ||| 1 <<< (64 + Reg.TACH_STAMP_HI.ctorIdx)) s v :=
    hv ▸ ((Agree.refl _ s).setTach (by decide) _ _).set64 (by decide) (by decide) _ _
  rw [← hag.fget_same (f := F.TACH_COUNT_COUNT) w ok (by decide)]
  exact fget_fset_same v F.TACH_COUNT_COUNT n _ (hag.regsWf w) ok (by decide)

/-- The stamp of a counted edge: the number of its epoch above its offset (R38). -/
theorem tachCounted_stamp : (s.tachCounted n t).get64 .TACH_STAMP_LO .TACH_STAMP_HI n =
    ((s.stampOf t).1 % 2 ^ 48 * 2 ^ 16 + (s.stampOf t).2) % 2 ^ 64 := by
  have okl : Reg.TACH_STAMP_LO.ok n = true := ok_of_lt hn (by decide) (by decide)
  have okh : Reg.TACH_STAMP_HI.ok n = true := ok_of_lt hn (by decide) (by decide)
  have ws := (tachStamped_agree s n t).regsWf w
  rw [(tachCounted_agree_stamped s n t).get64_same ws okl okh (by decide) (by decide), State.tachStamped]
  generalize hu : s.setTach n _ = u
  have wu : Regs.wf u.regs = true := by rw [← hu]; exact w
  generalize hv : u.set64 _ _ _ _ = v
  have wv : Regs.wf v.regs = true := by rw [← hv]; exact setReg_wf _ _ _ _ (setReg_wf _ _ _ _ wu)
  have hcount : Agree (1 <<< (64 + Reg.TACH_COUNT.ctorIdx)) v (v.fadd F.TACH_COUNT_COUNT n 1) := (Agree.refl _ v).fadd (by decide) _ _
  rw [hcount.get64_same wv okl okh (by decide) (by decide), ← hv]
  exact get64_set64_same _ wu okl okh (by decide)

end counted

/-- In `u` input `n` has accepted `level`, whose first tick is `t`: `s` is the state before, and `last` the tick of the last edge
that it counted. -/
def State.tachPasses (s u : State) (n : Nat) (last : Option Nat) (level : Bool) (t : Nat) : Prop :=
  u.fbit F.TACH_LEVEL_LEVEL 0 n = level ∧
  (s.fbit F.TACH_LEVEL_LEVEL 0 n ≠ level → level ≠ s.flag F.TACH_CFG_POL n → s.flag F.TACH_CFG_EN n = true →
    s.pageEn 0x18 = true →
    ((∀ l, last = some l → l + 24 ≤ t) →
      u.fget F.TACH_COUNT_COUNT n = (s.fget F.TACH_COUNT_COUNT n + 1) % 2 ^ 32 ∧
      u.get64 .TACH_STAMP_LO .TACH_STAMP_HI n = ((s.stampOf t).1 % 2 ^ 48 * 2 ^ 16 + (s.stampOf t).2) % 2 ^ 64) ∧
    (∀ l, last = some l → t < l + 24 →
      u.fbit F.TACH_OVR_OVR 0 n = true ∧ u.reg .TACH_COUNT n = s.reg .TACH_COUNT n ∧
      u.reg .TACH_STAMP_LO n = s.reg .TACH_STAMP_LO n))

theorem stampOf_congr {s u : State} (h : u.epoch = s.epoch) (t : Nat) : u.stampOf t = s.stampOf t := by
  rw [State.stampOf, State.stampOf, h]

theorem tachClose_iff (s : State) (n t : Nat) :
    s.tachClose n t = true ↔ ∃ l, (s.tachOf n).last = some l ∧ t < l + 24 := by
  unfold State.tachClose
  generalize (s.tachOf n).last = last
  cases last with
  | none => simp
  | some l => simp

section heard
variable {s : State} {n t : Nat} {level : Bool} (hnew : s.fbit F.TACH_LEVEL_LEVEL 0 n ≠ level)
  (hears : s.tachHears n level = true) (w : Regs.wf s.regs = true) (hn : n < 32)
include hnew hears w hn

/-- An edge that the block counts, or marks as too close to the last one, as TACH_LEVEL already shows it (R37, R38). -/
theorem tachAccept_heard : s.tachAccept n t level =
    let u := s.fsetBit F.TACH_LEVEL_LEVEL 0 n level
    if s.tachClose n t then u.tachOverrun n else u.tachCounted n t := by
  have hu := levelShown_agree s n level
  have hears' : (s.fsetBit F.TACH_LEVEL_LEVEL 0 n level).tachHears n level = true := by
    have okcfg : Reg.TACH_CFG.ok n = true := ok_of_lt hn (by decide) (by decide)
    have hpol := hu.flag_same (f := F.TACH_CFG_POL) w okcfg (by decide)
    have hen := hu.flag_same (f := F.TACH_CFG_EN) w okcfg (by decide)
    have hpage := hu.pageEn_same w (by decide) (p := 0x18) (by decide)
    rw [← hears, State.tachHears, State.tachHears, hpol, hen, hpage]
  have hclose : (s.fsetBit F.TACH_LEVEL_LEVEL 0 n level).tachClose n t = s.tachClose n t := by
    rw [State.tachClose, State.tachClose, State.tachOf, State.tachOf, hu.tach_same (by decide)]
  rw [tachAccept_eq, if_neg hnew]
  simp only [hears', hclose, Bool.not_true, Bool.false_eq_true, if_false]

theorem tachAccept_counts (hfar : s.tachClose n t = false) :
    (s.tachAccept n t level).fget F.TACH_COUNT_COUNT n = (s.fget F.TACH_COUNT_COUNT n + 1) % 2 ^ 32 ∧
      (s.tachAccept n t level).get64 .TACH_STAMP_LO .TACH_STAMP_HI n =
        ((s.stampOf t).1 % 2 ^ 48 * 2 ^ 16 + (s.stampOf t).2) % 2 ^ 64 := by
  have hu := levelShown_agree s n level
  have okcount : Reg.TACH_COUNT.ok n = true := ok_of_lt hn (by decide) (by decide)
  simp only [tachAccept_heard hnew hears w hn, hfar, Bool.false_eq_true, if_false]
  refine ⟨(tachCounted_count t (hu.regsWf w) hn).trans ?_, (tachCounted_stamp t (hu.regsWf w) hn).trans ?_⟩
  · rw [hu.fget_same (f := F.TACH_COUNT_COUNT) w okcount (by decide)]
  · rw [stampOf_congr (hu.epoch_same (by decide))]

theorem tachAccept_overruns (hnear : s.tachClose n t = true) :
    (s.tachAccept n t level).fbit F.TACH_OVR_OVR 0 n = true ∧
      (s.tachAccept n t level).reg .TACH_COUNT n = s.reg .TACH_COUNT n ∧
      (s.tachAccept n t level).reg .TACH_STAMP_LO n = s.reg .TACH_STAMP_LO n := by
  have hu := levelShown_agree s n level
  have ho := tachOverrun_agree (s.fsetBit F.TACH_LEVEL_LEVEL 0 n level) n
  have okcount : Reg.TACH_COUNT.ok n = true := ok_of_lt hn (by decide) (by decide)
  have okstamp : Reg.TACH_STAMP_LO.ok n = true := ok_of_lt hn (by decide) (by decide)
  simp only [tachAccept_heard hnew hears w hn, hnear, if_true]
  exact ⟨tachOverrun_flag (hu.regsWf w) hn,
    (ho.regs (hu.regsWf w) _ _ okcount (by decide)).trans (hu.regs w _ _ okcount (by decide)),
    (ho.regs (hu.regsWf w) _ _ okstamp (by decide)).trans (hu.regs w _ _ okstamp (by decide))⟩

end heard

theorem tachAccept_passes {s : State} {n : Nat} (t : Nat) (level : Bool) (w : Regs.wf s.regs = true) (hn : n < 32) :
    s.tachPasses (s.tachAccept n t level) n (s.tachOf n).last level t := by
  refine ⟨tachAccept_level t level w hn, fun hnew hpol hen hpage => ?_⟩
  have hears : s.tachHears n level = true := by
    rw [State.tachHears, bne_iff_ne.mpr hpol, hen, hpage]
    rfl
  refine ⟨fun hfar => ?_, fun l hl hnear => ?_⟩
  · refine tachAccept_counts hnew hears w hn (Bool.eq_false_iff.mpr fun hclose => ?_)
    obtain ⟨l, hl, hlt⟩ := (tachClose_iff s n t).mp hclose
    exact absurd (hfar l hl) (Nat.not_le.mpr hlt)
  · exact tachAccept_overruns hnew hears w hn ((tachClose_iff s n t).mpr ⟨l, hl, hnear⟩)

/-! ### The tick of the acceptance -/

/-- What an accepted level does is the same seen from before the wait for it. -/
theorem State.tachPasses.of_agree {s v u : State} {n t : Nat} {last : Option Nat} {level : Bool}
    (hag : Agree (elapseMask ||| 1 <<< 13) s v) (w : Regs.wf s.regs = true) (hn : n < 32)
    (h : v.tachPasses u n last level t) : s.tachPasses u n last level t := by
  have okcfg : Reg.TACH_CFG.ok n = true := ok_of_lt hn (by decide) (by decide)
  have okcount : Reg.TACH_COUNT.ok n = true := ok_of_lt hn (by decide) (by decide)
  have okstamp : Reg.TACH_STAMP_LO.ok n = true := ok_of_lt hn (by decide) (by decide)
  have hlevel := hag.fbit_same (f := F.TACH_LEVEL_LEVEL) (n := 0) (i := n) w (by decide) (by decide)
  have hpol := hag.flag_same (f := F.TACH_CFG_POL) w okcfg (by decide)
  have hen := hag.flag_same (f := F.TACH_CFG_EN) w okcfg (by decide)
  have hpage := hag.pageEn_same w (by decide) (p := 0x18) (by decide)
  have hcount := hag.regs w _ _ okcount (by decide)
  have hcount' := hag.fget_same (f := F.TACH_COUNT_COUNT) w okcount (by decide)
  have hlo := hag.regs w _ _ okstamp (by decide)
  have hstamp := stampOf_congr (hag.epoch_same (by decide)) t
  unfold State.tachPasses at h ⊢
  rwa [hlevel, hpol, hen, hpage, hcount, hcount', hlo, hstamp] at h

theorem tachAccept_now (s : State) (n t : Nat) (level : Bool) : (s.tachAccept n t level).now = s.now := by
  have h : Agree (tachMask ||| 1 <<< (64 + Reg.TACH_LEVEL.ctorIdx)) s (s.tachAccept n t level) :=
    State.tachAccept_touch (by decide) (.refl _ s)
  exact h.now_same (by decide)

/-- The level at input `n` is accepted `dt` ticks from now. -/
theorem tachAccept_later {s : State} {n t : Nat} {level : Bool} (dt : Nat) (x : Tach) (w : Regs.wf s.regs = true) (hn : n < 32) :
    let u := ((s.elapse dt).setTach n x).tachAccept n t level
    s.tachPasses u n x.last level t ∧ u.now = s.now + dt := by
  have hag : Agree (elapseMask ||| 1 <<< 13) s ((s.elapse dt).setTach n x) :=
    ((elapse_agree s dt).mono (by decide)).setTach (by decide) _ _
  have h := tachAccept_passes t level (hag.regsWf w) hn
  rw [setTach_tachOf, if_pos rfl] at h
  exact ⟨h.of_agree hag w hn, (tachAccept_now _ _ _ _).trans (elapse_now s dt)⟩

section clock
variable {s : State} {n : Nat} (hlive : s.pageLive 0x18 = true) (hclock : s.adcClock = true)
include hlive hclock

/-- The filter of an input that counts a new level accepts it, and time goes to that tick (R36). -/
theorem tachFilter_counting {t : Nat} (ht : (s.tachOf n).since = some t) :
    s.tachFilter n =
      ((s.elapse (t + s.fget F.TACH_CFG_FILT n - s.now)).setTach n { s.tachOf n with since := none }).tachAccept n t
        (s.tachOf n).pin := by
  unfold State.tachOf at ht
  unfold State.tachFilter
  simp only [ht, hlive, hclock, Bool.and_self, Bool.not_true, Bool.false_eq_true, if_false]
  rfl

/-- A new level at the pin of an input that counts none (R36): with FILT 0 it passes at once, else the filter starts, unless the
pin showed it before. -/
theorem tachPin_new {level : Bool} (hx : (s.tachOf n).since = none) (hnew : s.fbit F.TACH_LEVEL_LEVEL 0 n ≠ level) :
    s.tachPin n level =
      if s.fget F.TACH_CFG_FILT n = 0 then
        (s.setTach n { s.tachOf n with pin := level, since := none }).tachAccept n s.now level
      else s.setTach n { s.tachOf n with pin := level, since := if (s.tachOf n).pin = level then none else some s.now } := by
  unfold State.tachOf at hx
  have hdue : s.tachDue n = false := by simp only [State.tachDue, hx]
  unfold State.tachPin
  simp only [hdue, hx, hlive, hclock, bne_iff_ne.mpr hnew, Bool.and_self, Bool.not_true, Bool.or_self, Bool.false_eq_true,
    if_false, Bool.true_and, decide_eq_true_eq, setAt_setAt]
  rfl

end clock

section pin
variable {s : State} {n : Nat} {level : Bool} (dt : Nat) (w : Regs.wf s.regs = true) (hn : n < 32)
  (hlive : s.pageLive 0x18 = true) (hclock : s.adcClock = true)
  (hx : (s.tachOf n).since = none) (hnew : s.fbit F.TACH_LEVEL_LEVEL 0 n ≠ level)
include w hn hlive hclock hx hnew

/-- A new level that comes after `dt` ticks. -/
theorem tachPin_later :
    (s.elapse dt).tachPin n level =
      if s.fget F.TACH_CFG_FILT n = 0 then
        ((s.elapse dt).setTach n { s.tachOf n with pin := level, since := none }).tachAccept n (s.now + dt) level
      else (s.elapse dt).setTach n
        { s.tachOf n with pin := level, since := if (s.tachOf n).pin = level then none else some (s.now + dt) } := by
  have he := elapse_agree s dt
  have htach : (s.elapse dt).tachOf n = s.tachOf n := by rw [State.tachOf, State.tachOf, he.tach_same (by decide)]
  have hlevel := he.fbit_same (f := F.TACH_LEVEL_LEVEL) (n := 0) (i := n) w (by decide) (by decide)
  have hfilt := he.fget_same (f := F.TACH_CFG_FILT) w (ok_of_lt hn (by decide) (by decide)) (by decide)
  have hlive' := (he.pageLive_same w (by decide) (by decide)).trans hlive
  have hclock' : (s.elapse dt).adcClock = true := (he.fbit_same (f := F.CLK_READY_READY) w (by decide) (by decide)).trans hclock
  rw [tachPin_new hlive' hclock' (htach ▸ hx) (hlevel ▸ hnew), hfilt, htach, elapse_now]

/-- With FILT 0 it passes at once (R36). -/
theorem tachPin_passes (hfilt : s.fget F.TACH_CFG_FILT n = 0) :
    let u := (s.elapse dt).tachPin n level
    s.tachPasses u n (s.tachOf n).last level (s.now + dt) ∧ u.now = s.now + dt := by
  rw [tachPin_later dt w hn hlive hclock hx hnew, if_pos hfilt]
  exact tachAccept_later dt _ w hn

/-- Else the filter starts with it (R36). -/
theorem tachPin_starts (hfilt : s.fget F.TACH_CFG_FILT n ≠ 0) (hpin : (s.tachOf n).pin ≠ level) :
    (s.elapse dt).tachPin n level =
      (s.elapse dt).setTach n { s.tachOf n with pin := level, since := some (s.now + dt) } := by
  rw [tachPin_later dt w hn hlive hclock hx hnew, if_neg hfilt, if_neg hpin]

end pin

/-- Settles O35: by what an accepted level does, and by the tick at which a level is accepted. -/
theorem tachInputs : Obligations.TachInputs := by
  unfold Obligations.TachInputs
  intro s n w hlive hclock x passes
  have wr := State.wf_regs w
  refine ⟨fun t ht => ?_, fun level dt hx => ⟨fun hfilt hnew => ?_, fun hfilt hnew hpin => ?_⟩⟩
  · obtain ⟨hpass, hnow⟩ := tachAccept_later (t := t) (level := x.pin) (t + s.fget F.TACH_CFG_FILT n.val - s.now)
      { x with since := none } wr n.isLt
    refine ⟨_, congrArg Host.Outcome.next (tachFilter_counting hlive hclock ht), hpass, hnow.trans ?_⟩
    omega
  · exact ⟨_, rfl, tachPin_passes dt wr n.isLt hlive hclock hx hnew hfilt⟩
  · have h := tachPin_starts dt wr n.isLt hlive hclock hx hnew hfilt hpin
    have he := elapse_agree s dt
    refine ⟨_, congrArg Host.Outcome.next h, elapse_now s dt, ?_, he.fbit_same wr (by decide) (by decide)⟩
    exact congrArg (setAt _ · _ _) (he.tach_same (by decide))

end Sys2Proof.Machine
end

section
/-!
PROOF. The commands of the angle engines: what a write to a register of an engine leaves, and what the events of an engine do.
-/

namespace Sys2Proof.Machine

/-! ### Bits of a word that a row sets -/

theorem bits_or (v m : Word) (lo w : Nat) : bits (v ||| m) lo w = bits v lo w ||| bits m lo w := by
  apply Nat.eq_of_testBit_eq
  intro i
  simp only [Nat.testBit_or, testBit_bits, BitVec.getLsbD_or, Bool.and_or_distrib_left]

theorem bits_or_set (v : Word) {m : Word} {i : Nat} (h : bits m i 1 = 1) : bits (v ||| m) i 1 = 1 := by
  have hv : bits v i 1 < 2 := Nat.mod_lt _ (by decide)
  rw [bits_or, h]
  interval_cases bits v i 1 <;> rfl

theorem bits_or_clear (v : Word) {m : Word} {lo w : Nat} (h : bits m lo w = 0) : bits (v ||| m) lo w = bits v lo w := by
  rw [bits_or, h, Nat.or_zero]

/-- Two bits that are 0 are 0 each. -/
theorem bits_pair_zero {v : Word} {i : Nat} (h : bits v i 2 = 0) : bits v i 1 = 0 ∧ bits v (i + 1) 1 = 0 := by
  simp only [bits_eq, Nat.pow_succ, ← Nat.div_div_eq_div_mul] at h ⊢
  omega

/-- A bit that is set by writing 1 is set (R2). -/
theorem bits_mergeWord_set {r : Reg} (old : Word) {v : Word} {f : FieldDesc} (hf : f ∈ r.fields)
    (hacc : f.acc = .w1s ∧ f.width = 1) (hv : bits v f.lo 1 = 1) : bits (mergeWord r old v) f.lo 1 = 1 := by
  obtain ⟨hset, hone⟩ := hacc
  have hbit : v.getLsbD f.lo = true := by simpa [hv] using (testBit_bits v f.lo 1 0).symm
  have h := bits_mergeWord old v hf (fun i hi => by
    obtain ⟨hlo, hhi⟩ := hi
    obtain rfl : i = f.lo := by omega
    rw [hbit, hset, Acc.bitAfter, Bool.or_true])
  rw [hone] at h
  exact h.trans hv

theorem flag_of_written {t : State} {f : Fld} {n : Nat} {old v : Word} (hreg : t.reg f.reg n = mergeWord f.reg old v)
    {d : FieldDesc} (hd : d ∈ f.reg.fields) (hacc : d.acc = .w1s ∧ d.width = 1) (hf : f.lo = d.lo ∧ f.width = 1)
    (hv : bits v d.lo 1 = 1) : t.flag f n = true := by
  obtain ⟨hlo, hone⟩ := hf
  rw [State.flag, State.fget, hreg, hlo, hone, bits_mergeWord_set old hd hacc hv]
  rfl

/-- Every bit of the register is one that a write replaces. -/
def Reg.takesWord (r : Reg) : Bool :=
  (List.range 32).all (fun i => r.fields.any (fun f => (f.acc == .rw || f.acc == .st) && decide (f.lo ≤ i ∧ i < f.lo + f.width)))

theorem mergeWord_of_takesWord {r : Reg} (h : r.takesWord = true) (old v : Word) : mergeWord r old v = v := by
  apply BitVec.eq_of_getLsbD_eq
  intro i hi
  obtain ⟨f, hf, hcov⟩ := List.any_eq_true.mp (List.all_eq_true.mp h i (List.mem_range.mpr hi))
  simp only [Bool.and_eq_true, Bool.or_eq_true, beq_iff_eq, decide_eq_true_eq] at hcov
  obtain ⟨hacc, hrange⟩ := hcov
  rw [mergeWord_getLsbD old v hf hrange]
  rcases hacc with e | e
  · rw [e]; rfl
  · rw [e]; rfl

/-! ### What a write that is taken leaves beside its effect -/

theorem taken_agree (s t : State) : Agree (1 <<< 8 ||| 1 <<< 15) t (s.taken t) :=
  (State.softReady_touch (by decide) (.refl _ t)).set_answer (by decide) _

/-- A write to a port of a block that the page takes. -/
theorem writeReg_port {s t : State} {q : Requester} {r : Reg} {n : Nat} {v : Word} (ok : r.ok n = true)
    (h : s.admits q r n v = true) (hp : s.portWrite (s.who q) r n v = some t) : s.writeReg q r n v = s.taken t := by
  rw [writeReg_admits s q r n v ok h, hp]
  rfl

theorem angBusy_agree (s : State) (p : Nat) : Agree (1 <<< (64 + Reg.PAGE_STATUS.ctorIdx)) s (s.angBusy p) :=
  State.angBusy_touch (by decide) (.refl _ s)

/-- A page with a LOAD or a learning run under way is busy. -/
theorem angBusy_set {s : State} {n : Nat} (w : Regs.wf s.regs = true) (hn : n < 32)
    (h : s.flag F.ANG_CTRL_LOAD n = true ∨ s.flag F.ANG_STATUS_LEARN_BUSY n = true) :
    (s.angBusy (n / 4)).flag F.PAGE_STATUS_BUSY (0x10 + n / 4) = true := by
  have hany : (List.range 4).any (fun j =>
      s.flag F.ANG_CTRL_LOAD (4 * (n / 4) + j) || s.flag F.ANG_STATUS_LEARN_BUSY (4 * (n / 4) + j)) = true :=
    List.any_eq_true.mpr ⟨n % 4, List.mem_range.mpr (Nat.mod_lt n (by decide)), by
      rw [Nat.div_add_mod]; exact Bool.or_eq_true_iff.mpr h⟩
  rw [State.angBusy, State.setBusy, hany]
  exact flag_fsetB_same true w (pageStatus_ok (by omega)) (by decide)

/-! ### A write to ANG_CTRL -/

/-- The word of a write to ANG_CTRL of engine `n` is stored. -/
def State.angWritten (s : State) (n : Nat) (v : Word) : State :=
  s.setReg .ANG_CTRL n (mergeWord .ANG_CTRL (s.reg .ANG_CTRL n) v)

theorem angWritten_agree (s : State) (n : Nat) (v : Word) :
    Agree (1 <<< (64 + Reg.ANG_CTRL.ctorIdx)) s (s.angWritten n v) := (Agree.refl _ s).setReg (by decide) _ _

theorem angWritten_load {s : State} {n : Nat} {v : Word} (w : Regs.wf s.regs = true) (hn : n < 32) (hv : bits v 1 1 = 1) :
    (s.angWritten n v).flag F.ANG_CTRL_LOAD n = true := by
  have hreg : (s.angWritten n v).reg .ANG_CTRL n = mergeWord .ANG_CTRL (s.reg .ANG_CTRL n) v :=
    reg_setReg_same _ _ _ _ w (ok_of_lt hn (by decide) (by decide))
  exact flag_of_written (f := F.ANG_CTRL_LOAD) hreg (d := ⟨"LOAD", 1, 1, .w1s, 0, []⟩) (by decide) ⟨rfl, rfl⟩ ⟨rfl, rfl⟩ hv

theorem writeReg_angCtrl {s : State} {q : Requester} {n : Nat} {v : Word} (hn : n < 32)
    (h : s.admits q .ANG_CTRL n v = true) :
    s.writeReg q .ANG_CTRL n v = s.taken ((s.angWritten n v).angCtrl n v) := by
  have hland : s.landWrite (s.who q) .ANG_CTRL n v =
      ((s.setReg .ANG_CTRL n (mergeWord .ANG_CTRL (s.reg .ANG_CTRL n) v &&& 0xFFFFFFFF#32)).noteStaged s .ANG_CTRL n).angCtrl n
        v := rfl
  have hstaged (t : State) : t.noteStaged s .ANG_CTRL n = t := by
    have hmask : Reg.stMask .ANG_CTRL = 0#32 := by decide
    simp [State.noteStaged, hmask]
  have hword (x : Word) : x &&& 0xFFFFFFFF#32 = x := BitVec.and_allOnes
  rw [writeReg_taken (ok_of_lt hn (by decide) (by decide)) h rfl, hland, hstaged, hword]
  rfl

/-- REACQ is noted, and the alternate shaft given back (R43, R48). -/
def State.angReacquired (s : State) (n : Nat) : State :=
  ((s.setEng n { s.eng n with reacq := true }).fsetB F.ANG_CTRL_REACQ n false).fsetB F.ANG_STATUS_ALT_ACTIVE n false

theorem angCtrl_eq (s : State) (n : Nat) (v : Word) :
    s.angCtrl n v =
      (let u := if bits v 3 1 = 1 then s.angReacquired n else s
       if bits v 2 1 = 1 then (u.fsetB F.ANG_CTRL_LEARN n false).learnStart n else u).angBusy (n / 4) := rfl

/-- The registers that a command of an engine may change beside ANG_STATUS, and the parts that every write may. -/
theorem taken_angBusy_agree (s t : State) (p : Nat) :
    Agree (1 <<< 8 ||| 1 <<< 15 ||| 1 <<< (64 + Reg.PAGE_STATUS.ctorIdx)) t (s.taken (t.angBusy p)) :=
  ((angBusy_agree t p).mono (by decide)).trans ((taken_agree s _).mono (by decide))

/-- The page of an engine with a LOAD or a learning run under way is busy once the write is taken. -/
theorem writeReg_busy_of {s t : State} {n : Nat} (w : Regs.wf t.regs = true) (hn : n < 32)
    (h : t.flag F.ANG_CTRL_LOAD n = true ∨ t.flag F.ANG_STATUS_LEARN_BUSY n = true) :
    (s.taken (t.angBusy (n / 4))).flag F.PAGE_STATUS_BUSY (0x10 + n / 4) = true := by
  rw [(taken_agree s _).flag_same (f := F.PAGE_STATUS_BUSY) ((angBusy_agree t _).regsWf w) (pageStatus_ok (by omega)) (by decide),
    angBusy_set w hn h]

section order
variable {s : State} {q : Requester} {n : Nat} {v : Word} (hn : n < 32) (h : s.admits q .ANG_CTRL n v = true)
include hn h

theorem writeReg_reacq_eq (hreacq : bits v 3 1 = 1) (hlearn : bits v 2 1 = 0) :
    s.writeReg q .ANG_CTRL n v = s.taken (((s.angWritten n v).angReacquired n).angBusy (n / 4)) := by
  rw [writeReg_angCtrl hn h, angCtrl_eq, hreacq, hlearn]
  rfl

theorem writeReg_load_eq (hreacq : bits v 3 1 = 0) (hlearn : bits v 2 1 = 0) :
    s.writeReg q .ANG_CTRL n v = s.taken ((s.angWritten n v).angBusy (n / 4)) := by
  rw [writeReg_angCtrl hn h, angCtrl_eq, hreacq, hlearn]
  rfl

end order

section ctrl
variable {s : State} {q : Requester} {n : Nat} {v : Word} (w : Regs.wf s.regs = true) (hn : n < 32)
  (h : s.admits q .ANG_CTRL n v = true)
include w hn h

/-- REACQ without LEARN (R43, R48). -/
theorem writeReg_reacq (hreacq : bits v 3 1 = 1) (hlearn : bits v 2 1 = 0) :
    (s.writeReg q .ANG_CTRL n v).engines = setAt Engine.zero s.engines n { s.eng n with reacq := true } ∧
      (s.writeReg q .ANG_CTRL n v).flag F.ANG_CTRL_REACQ n = false ∧
      (s.writeReg q .ANG_CTRL n v).flag F.ANG_STATUS_ALT_ACTIVE n = false := by
  have okctrl : Reg.ANG_CTRL.ok n = true := ok_of_lt hn (by decide) (by decide)
  have okstatus : Reg.ANG_STATUS.ok n = true := ok_of_lt hn (by decide) (by decide)
  rw [writeReg_reacq_eq hn h hreacq hlearn]
  generalize hu : s.angWritten n v = u
  have hs : Agree (1 <<< (64 + Reg.ANG_CTRL.ctorIdx)) s u := hu ▸ angWritten_agree s n v
  have heng : u.engines = s.engines := hs.engines_same (by decide)
  generalize ha : (u.setEng n { u.eng n with reacq := true }).fsetB F.ANG_CTRL_REACQ n false = a
  have wu : Regs.wf (u.setEng n { u.eng n with reacq := true }).regs = true := hs.regsWf w
  have wa : Regs.wf a.regs = true := ha ▸ fsetB_wf _ _ _ _ wu
  have hb : Agree (1 <<< (64 + Reg.ANG_STATUS.ctorIdx)) a (u.angReacquired n) :=
    ha ▸ (Agree.refl _ _).fsetB (by decide) _ _
  have ht := taken_angBusy_agree s (u.angReacquired n) (n / 4)
  refine ⟨?_, ?_, ?_⟩
  · rw [ht.engines_same (by decide), hb.engines_same (by decide), ← ha, fsetB_engines, State.setEng, State.eng, State.eng, heng]
  · rw [ht.flag_same (f := F.ANG_CTRL_REACQ) (hb.regsWf wa) okctrl (by decide),
      hb.flag_same (f := F.ANG_CTRL_REACQ) wa okctrl (by decide), ← ha]
    exact flag_fsetB_same false wu okctrl (by decide)
  · rw [ht.flag_same (f := F.ANG_STATUS_ALT_ACTIVE) (hb.regsWf wa) okstatus (by decide), State.angReacquired, ha]
    exact flag_fsetB_same false wa okstatus (by decide)

/-- LOAD alone waits for the edge (R62). -/
theorem writeReg_load (hreacq : bits v 3 1 = 0) (hlearn : bits v 2 1 = 0) (hload : bits v 1 1 = 1) :
    (s.writeReg q .ANG_CTRL n v).flag F.ANG_CTRL_LOAD n = true ∧ (s.writeReg q .ANG_CTRL n v).engines = s.engines ∧
      (s.writeReg q .ANG_CTRL n v).flag F.PAGE_STATUS_BUSY (0x10 + n / 4) = true := by
  have hs := angWritten_agree s n v
  have hset := angWritten_load w hn hload
  rw [writeReg_load_eq hn h hreacq hlearn]
  have ht := taken_angBusy_agree s (s.angWritten n v) (n / 4)
  refine ⟨?_, ?_, writeReg_busy_of (hs.regsWf w) hn (Or.inl hset)⟩
  · rw [ht.flag_same (f := F.ANG_CTRL_LOAD) (hs.regsWf w) (ok_of_lt hn (by decide) (by decide)) (by decide), hset]
  · rw [ht.engines_same (by decide), hs.engines_same (by decide)]

end ctrl

/-! ### LEARN (R52) -/

/-- A learning run may start: the engine is TRACKING with a reference, and its table can be learned. -/
def State.mayLearn (s : State) (n : Nat) : Prop :=
  s.fget F.ANG_STATUS_STATE n = 2 ∧ s.flag F.ANG_STATUS_REF_SEEN n = true ∧ max 1 (s.fget F.ANG_CFG_PPR n) ≤ 1024 ∧
    s.fget F.ANG_CFG_REF_MODE n ≠ 0

/-- An engine whose learning run starts. -/
def Engine.learning (e : Engine) : Engine := { e with learnRevs := 0, learnTimes := [], learnSums := [] }

theorem learnStart_of_mayLearn {s : State} {n : Nat} (h : s.mayLearn n) :
    s.learnStart n = (s.fsetB F.ANG_STATUS_LEARN_BUSY n true).setEng n (s.eng n).learning := by
  obtain ⟨hstate, href, hppr, hmode⟩ := h
  unfold State.learnStart State.angSet
  exact if_pos (by simp [hstate, href, hppr, hmode])

theorem learnStart_of_not_mayLearn {s : State} {n : Nat} (h : ¬ s.mayLearn n) :
    s.learnStart n = s.angFault n F.ANG_STATUS_LEARN_ABORT := by
  unfold State.learnStart State.angSet
  refine if_neg fun hc => h ?_
  simpa [State.mayLearn, and_assoc] using hc

/-- A store to ANG_CTRL does not matter to it. -/
theorem mayLearn_congr {s t : State} {n : Nat} (h : Agree (1 <<< (64 + Reg.ANG_CTRL.ctorIdx)) s t) (w : Regs.wf s.regs = true)
    (hn : n < 32) : t.mayLearn n ↔ s.mayLearn n := by
  have okstatus : Reg.ANG_STATUS.ok n = true := ok_of_lt hn (by decide) (by decide)
  have okcfg : Reg.ANG_CFG.ok n = true := ok_of_lt hn (by decide) (by decide)
  have hstate := h.fget_same (f := F.ANG_STATUS_STATE) w okstatus (by decide)
  have href := h.flag_same (f := F.ANG_STATUS_REF_SEEN) w okstatus (by decide)
  have hppr := h.fget_same (f := F.ANG_CFG_PPR) w okcfg (by decide)
  have hmode := h.fget_same (f := F.ANG_CFG_REF_MODE) w okcfg (by decide)
  rw [State.mayLearn, State.mayLearn, hstate, href, hppr, hmode]

/-- A fault of an engine sets its bit of ANG_STATUS, and no other there. -/
theorem angFault_flag {s : State} {n : Nat} {f : Fld} (w : Regs.wf s.regs = true) (hn : n < 32) (hr : f.reg = .ANG_STATUS)
    (hf : f.lo + f.width ≤ 32 ∧ f.width ≠ 0) : (s.angFault n f).flag f n = true := by
  have ok : f.reg.ok n = true := by rw [hr]; exact ok_of_lt hn (by decide) (by decide)
  exact ((irq_agree _ _ _).flag_same (fsetB_wf _ _ _ _ w) ok (by rw [hr]; decide)).trans (flag_fsetB_same true w ok hf)

theorem angFault_flag_other {s : State} {n : Nat} {f g : Fld} (w : Regs.wf s.regs = true) (hn : n < 32)
    (hr : f.reg = .ANG_STATUS ∧ g.reg = .ANG_STATUS) (hf : g.lo + g.width ≤ f.lo ∨ f.lo + f.width ≤ g.lo) :
    (s.angFault n f).flag g n = s.flag g n := by
  obtain ⟨hf', hg'⟩ := hr
  have ok : Reg.ANG_STATUS.ok n = true := ok_of_lt hn (by decide) (by decide)
  exact ((irq_agree _ _ _).flag_same (fsetB_wf _ _ _ _ w) (hg' ▸ ok) (by rw [hg']; decide)).trans
    (flag_fsetB_field true w (hf' ▸ ok) (hg'.trans hf'.symm) hf)

/-- ANG_CTRL of engine `n` with the word of a LEARN, whose bit reads 0 again. -/
def State.learnWritten (s : State) (n : Nat) (v : Word) : State := (s.angWritten n v).fsetB F.ANG_CTRL_LEARN n false

theorem learnWritten_agree (s : State) (n : Nat) (v : Word) :
    Agree (1 <<< (64 + Reg.ANG_CTRL.ctorIdx)) s (s.learnWritten n v) := (angWritten_agree s n v).fsetB (by decide) _ _

theorem writeReg_learn_eq {s : State} {q : Requester} {n : Nat} {v : Word} (hn : n < 32)
    (h : s.admits q .ANG_CTRL n v = true) (hreacq : bits v 3 1 = 0) (hlearn : bits v 2 1 = 1) :
    s.writeReg q .ANG_CTRL n v = s.taken (((s.learnWritten n v).learnStart n).angBusy (n / 4)) := by
  rw [writeReg_angCtrl hn h, angCtrl_eq, hreacq, hlearn]
  rfl

theorem learnStart_wf {s : State} {n : Nat} (w : Regs.wf s.regs = true) : Regs.wf (s.learnStart n).regs = true := by
  have h : Agree (pulseMask ||| 1 <<< 14 ||| 1 <<< (64 + Reg.ANG_STATUS.ctorIdx)) s (s.learnStart n) :=
    State.learnStart_touch (by decide) (.refl _ s)
  exact h.regsWf w

section start
variable {s : State} {n : Nat} (w : Regs.wf s.regs = true) (hn : n < 32)
include w hn

/-- A run that starts. -/
theorem learnStart_starts (h : s.mayLearn n) :
    (s.learnStart n).flag F.ANG_STATUS_LEARN_BUSY n = true ∧
      (s.learnStart n).engines = setAt Engine.zero s.engines n (s.eng n).learning := by
  rw [learnStart_of_mayLearn h]
  refine ⟨flag_fsetB_same (f := F.ANG_STATUS_LEARN_BUSY) true w (ok_of_lt hn (by decide) (by decide)) (by decide), ?_⟩
  rw [State.setEng, fsetB_engines]

/-- A run that is refused. -/
theorem learnStart_refuses (h : ¬ s.mayLearn n) :
    (s.learnStart n).flag F.ANG_STATUS_LEARN_ABORT n = true ∧ (s.learnStart n).engines = s.engines ∧
      (s.learnStart n).flag F.ANG_STATUS_LEARN_BUSY n = s.flag F.ANG_STATUS_LEARN_BUSY n := by
  have hf : Agree (pulseMask ||| 1 <<< (64 + Reg.ANG_STATUS.ctorIdx)) s (s.angFault n F.ANG_STATUS_LEARN_ABORT) :=
    State.angFault_touch (by decide) (by decide) (.refl _ _)
  rw [learnStart_of_not_mayLearn h]
  exact ⟨angFault_flag w hn rfl (by decide), hf.engines_same (by decide), angFault_flag_other w hn ⟨rfl, rfl⟩ (by decide)⟩

end start

section learn
variable {s : State} {q : Requester} {n : Nat} {v : Word} (w : Regs.wf s.regs = true) (hn : n < 32)
  (h : s.admits q .ANG_CTRL n v = true) (hreacq : bits v 3 1 = 0) (hlearn : bits v 2 1 = 1)
include w hn h hreacq hlearn

/-- A LEARN that starts a run. -/
theorem writeReg_learn (hmay : s.mayLearn n) :
    (s.writeReg q .ANG_CTRL n v).flag F.ANG_STATUS_LEARN_BUSY n = true ∧
      (s.writeReg q .ANG_CTRL n v).engines = setAt Engine.zero s.engines n (s.eng n).learning ∧
      (s.writeReg q .ANG_CTRL n v).flag F.PAGE_STATUS_BUSY (0x10 + n / 4) = true := by
  have okstatus : Reg.ANG_STATUS.ok n = true := ok_of_lt hn (by decide) (by decide)
  have hs := learnWritten_agree s n v
  have heng : (s.learnWritten n v).engines = s.engines := hs.engines_same (by decide)
  have wl := learnStart_wf (n := n) (hs.regsWf w)
  obtain ⟨hbusy, hrun⟩ := learnStart_starts (hs.regsWf w) hn ((mayLearn_congr hs w hn).mpr hmay)
  rw [writeReg_learn_eq hn h hreacq hlearn]
  have ht := taken_angBusy_agree s ((s.learnWritten n v).learnStart n) (n / 4)
  refine ⟨?_, ?_, writeReg_busy_of wl hn (Or.inr hbusy)⟩
  · rw [ht.flag_same (f := F.ANG_STATUS_LEARN_BUSY) wl okstatus (by decide), hbusy]
  · rw [ht.engines_same (by decide), hrun, State.eng, State.eng, heng]

/-- A LEARN that is refused. -/
theorem writeReg_learn_refused (hmay : ¬ s.mayLearn n) :
    (s.writeReg q .ANG_CTRL n v).flag F.ANG_STATUS_LEARN_ABORT n = true ∧ (s.writeReg q .ANG_CTRL n v).engines = s.engines ∧
      (s.writeReg q .ANG_CTRL n v).flag F.ANG_STATUS_LEARN_BUSY n = s.flag F.ANG_STATUS_LEARN_BUSY n := by
  have okstatus : Reg.ANG_STATUS.ok n = true := ok_of_lt hn (by decide) (by decide)
  have hs := learnWritten_agree s n v
  have wl := learnStart_wf (n := n) (hs.regsWf w)
  obtain ⟨habort, heng, hbusy⟩ := learnStart_refuses (hs.regsWf w) hn (mt (mayLearn_congr hs w hn).mp hmay)
  rw [writeReg_learn_eq hn h hreacq hlearn]
  have ht := taken_angBusy_agree s ((s.learnWritten n v).learnStart n) (n / 4)
  refine ⟨?_, ?_, ?_⟩
  · rw [ht.flag_same (f := F.ANG_STATUS_LEARN_ABORT) wl okstatus (by decide), habort]
  · rw [ht.engines_same (by decide), heng, hs.engines_same (by decide)]
  · rw [ht.flag_same (f := F.ANG_STATUS_LEARN_BUSY) wl okstatus (by decide), hbusy,
      hs.flag_same (f := F.ANG_STATUS_LEARN_BUSY) w okstatus (by decide)]

end learn

/-! ### The end of a learning run, and the limit of ACQUIRING -/

/-- The engine after a run: the means of the teeth that it recorded stand in half `half` of its table (R52). -/
def Engine.learned (e : Engine) (ppr half log2 : Nat) : Engine :=
  { e with
    table := (e.learnSums.filter (fun y => y.1 < ppr)).foldl
      (fun t y => tblPut t (1024 * half + y.1) (toField 16 (saturate 16 (roundShift log2 y.2)))) e.table
    learnRevs := 0, learnTimes := [], learnSums := [], learnSwap := true }

theorem learnEnd_done {s : State} {n : Nat} (hbusy : s.flag F.ANG_STATUS_LEARN_BUSY n = true)
    (hrevs : 2 ^ s.fget F.ANG_LOOP_LEARN_LOG2 n ≤ (s.eng n).learnRevs) :
    s.learnEnd n =
      (((s.setEng n ((s.eng n).learned (max 1 (s.fget F.ANG_CFG_PPR n)) (1 - s.fget F.ANG_STATUS_TBL_HALF n)
        (s.fget F.ANG_LOOP_LEARN_LOG2 n))).fsetB F.ANG_STATUS_LEARN_BUSY n false).fsetB F.ANG_TBL_CTRL_SWAP n true).angBusy
        (n / 4) := by
  unfold State.learnEnd
  exact if_neg (by simp [hbusy, State.angSet, Nat.not_lt.mpr hrevs])

theorem learnEnd_effect {s : State} {n : Nat} (w : Regs.wf s.regs = true) (hn : n < 32)
    (hbusy : s.flag F.ANG_STATUS_LEARN_BUSY n = true)
    (hrevs : 2 ^ s.fget F.ANG_LOOP_LEARN_LOG2 n ≤ (s.eng n).learnRevs) :
    (s.learnEnd n).flag F.ANG_STATUS_LEARN_BUSY n = false ∧ (s.learnEnd n).flag F.ANG_TBL_CTRL_SWAP n = true ∧
      (s.learnEnd n).fget F.ANG_STATUS_TBL_HALF n = s.fget F.ANG_STATUS_TBL_HALF n ∧
      (s.learnEnd n).engines = setAt Engine.zero s.engines n ((s.eng n).learned (max 1 (s.fget F.ANG_CFG_PPR n))
        (1 - s.fget F.ANG_STATUS_TBL_HALF n) (s.fget F.ANG_LOOP_LEARN_LOG2 n)) := by
  have okstatus : Reg.ANG_STATUS.ok n = true := ok_of_lt hn (by decide) (by decide)
  have oktbl : Reg.ANG_TBL_CTRL.ok n = true := ok_of_lt hn (by decide) (by decide)
  rw [learnEnd_done hbusy hrevs]
  generalize hu : s.setEng n _ = u
  have wu : Regs.wf u.regs = true := by rw [← hu]; exact w
  have ha := (Agree.refl (1 <<< (64 + Reg.ANG_TBL_CTRL.ctorIdx)) (u.fsetB F.ANG_STATUS_LEARN_BUSY n false)).fsetB
    (f := F.ANG_TBL_CTRL_SWAP) (by decide) n true
  have wa := fsetB_wf u F.ANG_STATUS_LEARN_BUSY n false wu
  have hb := angBusy_agree ((u.fsetB F.ANG_STATUS_LEARN_BUSY n false).fsetB F.ANG_TBL_CTRL_SWAP n true) (n / 4)
  have wb := ha.regsWf wa
  refine ⟨?_, ?_, ?_, ?_⟩
  · rw [hb.flag_same (f := F.ANG_STATUS_LEARN_BUSY) wb okstatus (by decide),
      ha.flag_same (f := F.ANG_STATUS_LEARN_BUSY) wa okstatus (by decide)]
    exact flag_fsetB_same false wu okstatus (by decide)
  · rw [hb.flag_same (f := F.ANG_TBL_CTRL_SWAP) wb oktbl (by decide)]
    exact flag_fsetB_same true wa oktbl (by decide)
  · rw [hb.fget_same (f := F.ANG_STATUS_TBL_HALF) wb okstatus (by decide),
      ha.fget_same (f := F.ANG_STATUS_TBL_HALF) wa okstatus (by decide), State.fsetB,
      fget_fset_field u F.ANG_STATUS_LEARN_BUSY F.ANG_STATUS_TBL_HALF n _ wu okstatus rfl (by decide), ← hu]
    rfl
  · rw [hb.engines_same (by decide), fsetB_engines, fsetB_engines, ← hu]
    rfl

theorem acqTimeout_acquires {s : State} {n : Nat} (w : Regs.wf s.regs = true) (hn : n < 32)
    (hstate : s.fget F.ANG_STATUS_STATE n = 1) (hlive : s.pageLive (0x10 + n / 4) = true) (hclock : s.adcClock = true) :
    (s.acqTimeout n).engines = setAt Engine.zero s.engines n ((s.eng n).acquire (s.eng n).angle (s.eng n).jumped) ∧
      (s.acqTimeout n).flag F.ANG_STATUS_REF_SEEN n = false := by
  have h : s.acqTimeout n =
      (s.setEng n ((s.eng n).acquire (s.eng n).angle (s.eng n).jumped)).fsetB F.ANG_STATUS_REF_SEEN n false := by
    unfold State.acqTimeout
    exact if_neg (by simp [hstate, hlive, hclock])
  rw [h]
  refine ⟨fsetB_engines _ _ _ _, flag_fsetB_same false ?_ (ok_of_lt hn (by decide) (by decide)) (by decide)⟩
  exact w

/-! ### ANG_CFG and the tooth table -/

/-- The word of a write to the tooth table stands in the inactive half of the table, but not while a run is in progress. -/
def State.angTblStored (s : State) (n : Nat) (v : Word) : State :=
  if s.flag F.ANG_STATUS_LEARN_BUSY n then s else s.setEng n { s.eng n with
    table := tblPut (s.eng n).table (1024 * (1 - s.fget F.ANG_STATUS_TBL_HALF n) + s.fget F.ANG_TBL_IDX_INDEX n)
      (bits v 0 16) }

theorem angTblStored_regs (s : State) (n : Nat) (v : Word) : (s.angTblStored n v).regs = s.regs := by
  unfold State.angTblStored
  split <;> rfl

theorem angTblWrite_eq (s : State) (n : Nat) (v : Word) :
    s.angTblWrite n v =
      if s.flag F.ANG_TBL_IDX_AUTOINC n then
        (s.angTblStored n v).fset F.ANG_TBL_IDX_INDEX n (s.fget F.ANG_TBL_IDX_INDEX n + 1)
      else s.angTblStored n v := by
  have hauto : (s.angTblStored n v).flag F.ANG_TBL_IDX_AUTOINC n = s.flag F.ANG_TBL_IDX_AUTOINC n := by
    rw [State.flag, State.fget, reg_of_regs (angTblStored_regs s n v)]
    rfl
  have hidx : (s.angTblStored n v).fget F.ANG_TBL_IDX_INDEX n = s.fget F.ANG_TBL_IDX_INDEX n := by
    rw [State.fget, reg_of_regs (angTblStored_regs s n v)]
    rfl
  rw [← hauto, ← hidx]
  rfl

theorem angTblWrite_engines (s : State) (n : Nat) (v : Word) : (s.angTblWrite n v).engines = (s.angTblStored n v).engines := by
  rw [angTblWrite_eq]
  split
  · exact fset_engines _ _ _ _
  · rfl

theorem angTblWrite_index {s : State} {n : Nat} (v : Word) (w : Regs.wf s.regs = true) (hn : n < 32) :
    (s.angTblWrite n v).fget F.ANG_TBL_IDX_INDEX n =
      (s.fget F.ANG_TBL_IDX_INDEX n + (if s.flag F.ANG_TBL_IDX_AUTOINC n then 1 else 0)) % 1024 := by
  have hregs := angTblStored_regs s n v
  rw [angTblWrite_eq]
  split
  · exact fget_fset_same _ F.ANG_TBL_IDX_INDEX n _ (by rw [hregs]; exact w) (ok_of_lt hn (by decide) (by decide)) (by decide)
  · rw [State.fget, reg_of_regs hregs]
    exact (Nat.mod_eq_of_lt (fget_lt s F.ANG_TBL_IDX_INDEX n)).symm

section table
variable {s : State} {q : Requester} {n : Nat} {v : Word} (w : Regs.wf s.regs = true) (hn : n < 32)
include w hn

/-- A write to ANG_CFG takes its whole word and ends the use of the alternate input (R48). -/
theorem writeReg_angCfg (h : s.admits q .ANG_CFG n v = true) :
    (s.writeReg q .ANG_CFG n v).reg .ANG_CFG n = v ∧ (s.writeReg q .ANG_CFG n v).flag F.ANG_STATUS_ALT_ACTIVE n = false ∧
      s.sameRegsBut (s.writeReg q .ANG_CFG n v) [(.ANG_CFG, n), (.ANG_STATUS, n)] ∧
      s.samePartsBut (s.writeReg q .ANG_CFG n v) [.epoch, .late, .answer] := by
  have okcfg : Reg.ANG_CFG.ok n = true := ok_of_lt hn (by decide) (by decide)
  have okstatus : Reg.ANG_STATUS.ok n = true := ok_of_lt hn (by decide) (by decide)
  have hland : s.landWrite (s.who q) .ANG_CFG n v =
      ((s.setReg .ANG_CFG n (mergeWord .ANG_CFG (s.reg .ANG_CFG n) v &&& 0xFFFFFFFF#32)).noteStaged s .ANG_CFG n).fsetB
        F.ANG_STATUS_ALT_ACTIVE n false := rfl
  have hword (x : Word) : x &&& 0xFFFFFFFF#32 = x := BitVec.and_allOnes
  rw [writeReg_taken okcfg h rfl, hland, hword, mergeWord_of_takesWord (by decide)]
  have hnoted := noteStaged_frame s .ANG_CFG n v
  obtain ⟨wu, -⟩ := hnoted w
  have halt : RegFrame [(.ANG_STATUS, n)] ((s.setReg .ANG_CFG n v).noteStaged s .ANG_CFG n)
      (((s.setReg .ANG_CFG n v).noteStaged s .ANG_CFG n).fsetB F.ANG_STATUS_ALT_ACTIVE n false) :=
    .setReg _ _ List.mem_cons_self
  have hregs {t : State} : (s.taken t).regs = t.regs := taken_regs s t
  refine ⟨?_, ?_, ?_, taken_parts ?_ (by decide) (by decide)⟩
  · rw [reg_of_regs hregs, halt.reg wu okcfg (by simp), reg_of_regs (noteStaged_regs _ _ _ _), reg_setReg_same _ _ _ _ w okcfg]
  · rw [State.flag, State.fget, reg_of_regs hregs]
    exact flag_fsetB_same false wu okstatus (by decide)
  · obtain ⟨-, h⟩ := ((hnoted.mono (L' := [(.ANG_CFG, n), (.ANG_STATUS, n)]) (by simp)).trans (halt.mono (by simp))).trans
      (.of_regs hregs) w
    exact h
  · exact ((noteStaged_agree s .ANG_CFG n v).fsetB (by decide) _ _).samePartsBut (by decide)

/-- A write to the port of the tooth table goes into the inactive half, but not while a run is in progress (R51, R52). -/
theorem writeReg_angTbl (h : s.admits q .ANG_TBL_DATA n v = true) :
    (s.writeReg q .ANG_TBL_DATA n v).engines =
        (if s.flag F.ANG_STATUS_LEARN_BUSY n then s.engines else setAt Engine.zero s.engines n { s.eng n with
          table := tblPut (s.eng n).table (1024 * (1 - s.fget F.ANG_STATUS_TBL_HALF n) + s.fget F.ANG_TBL_IDX_INDEX n)
            (bits v 0 16) }) ∧
      (s.writeReg q .ANG_TBL_DATA n v).fget F.ANG_TBL_IDX_INDEX n =
        (s.fget F.ANG_TBL_IDX_INDEX n + (if s.flag F.ANG_TBL_IDX_AUTOINC n then 1 else 0)) % 1024 := by
  have okidx : Reg.ANG_TBL_IDX.ok n = true := ok_of_lt hn (by decide) (by decide)
  rw [writeReg_port (ok_of_lt hn (by decide) (by decide)) h rfl]
  have ha : Agree (1 <<< 14 ||| 1 <<< (64 + Reg.ANG_TBL_IDX.ctorIdx)) s (s.angTblWrite n v) :=
    State.angTblWrite_touch (by decide) (.refl _ s)
  have ht := taken_agree s (s.angTblWrite n v)
  rw [ht.engines_same (by decide), angTblWrite_engines,
    ht.fget_same (f := F.ANG_TBL_IDX_INDEX) (ha.regsWf w) okidx (by decide), angTblWrite_index v w hn]
  refine ⟨?_, rfl⟩
  unfold State.angTblStored
  split <;> rfl

/-- A SWAP waits for the edge (R53). -/
theorem writeReg_angSwap (h : s.admits q .ANG_TBL_CTRL n 1#32 = true) :
    (s.writeReg q .ANG_TBL_CTRL n 1#32).flag F.ANG_TBL_CTRL_SWAP n = true ∧
      s.sameRegsBut (s.writeReg q .ANG_TBL_CTRL n 1#32) [(.ANG_TBL_CTRL, n)] := by
  have ok : Reg.ANG_TBL_CTRL.ok n = true := ok_of_lt hn (by decide) (by decide)
  obtain ⟨t, ht, -, hreg, hregs, -⟩ := writeLands_plain w ok h (by decide)
  obtain rfl : s.writeReg q .ANG_TBL_CTRL n 1#32 = t := Host.Outcome.next.inj ht
  have hword (x : Word) : x &&& 0xFFFFFFFF#32 = x := BitVec.and_allOnes
  exact ⟨flag_of_written (f := F.ANG_TBL_CTRL_SWAP) (hreg.trans (hword _)) (d := ⟨"SWAP", 0, 1, .w1s, 0, []⟩) (by decide)
    ⟨rfl, rfl⟩ ⟨rfl, rfl⟩ (by decide), hregs⟩

end table

/-- Settles O36: each command is a write whose row does its effect at once, or an event of the engine. -/
theorem angleCommands : Obligations.AngleCommands := by
  unfold Obligations.AngleCommands
  intro s q k v hwf n e ppr half
  have w : Regs.wf s.regs = true := State.wf_regs hwf
  have hn : n < 32 := k.isLt
  refine ⟨fun hv h => ?_, fun hv h => ⟨fun hmay => ?_, fun hmay => ?_⟩, fun hlive hbusy hrevs => ?_, fun hv h => ?_,
    fun h => ?_, fun h => ?_, fun h => ?_, fun hstate hlive hclock => ?_⟩
  · exact ⟨_, rfl, writeReg_reacq w hn h (bits_or_set v (by decide)) ((bits_or_clear v (by decide)).trans hv)⟩
  · exact ⟨_, rfl, writeReg_learn w hn h ((bits_or_clear v (by decide)).trans hv) (bits_or_set v (by decide)) hmay⟩
  · exact ⟨_, rfl, writeReg_learn_refused w hn h ((bits_or_clear v (by decide)).trans hv) (bits_or_set v (by decide)) hmay⟩
  · exact ⟨s.learnEnd n, congrArg Host.Outcome.next (if_pos hlive), learnEnd_effect w hn hbusy hrevs⟩
  · obtain ⟨hlearn, hreacq⟩ := bits_pair_zero hv
    exact ⟨_, rfl, writeReg_load w hn h ((bits_or_clear v (by decide)).trans hreacq)
      ((bits_or_clear v (by decide)).trans hlearn) (bits_or_set v (by decide))⟩
  · exact ⟨_, rfl, writeReg_angCfg w hn h⟩
  · exact ⟨_, rfl, writeReg_angTbl w hn h⟩
  · exact ⟨_, rfl, writeReg_angSwap w hn h⟩
  · exact ⟨_, rfl, acqTimeout_acquires w hn hstate hlive hclock⟩

end Sys2Proof.Machine
end

section
/-!
PROOF. The statement about epoch edges fails: a state that the model evaluates to the refuting outcome.
-/

namespace Sys2Proof.Machine

/-! ### RUN behind the setting of a late write

`epochEdge` looks at RUN after it has closed the epoch that ends, and the statement before that. Closing it stores registers:
the epoch's settings were those of its edge (R236), so a late write is taken back for a moment and then put in place again. In a
canonical register file that leaves RUN alone. -/

/-- State after reset but for D_ACQ on, PLL_ADC READY and an epoch in progress, whose work is open and whose end is due at tick 640.
AIN_EPOCH_DIV was written after its edge, from its reset value, and behind the entry of that write stands RUN with 1. -/
def runBehindDiv : State :=
  { State.reset with
    power := { Power.reset with acq := .on }
    regs := [(Reg.CLK_READY.addr 0, 0x40#32), (Reg.AIN_EPOCH_DIV.addr 0, 5000#32), (Reg.AIN_CTRL.addr 0, 1#32)]
    late := [(Reg.AIN_EPOCH_DIV.addr 0, 0xC35#32, 0)]
    epoch := { Epoch.reset with
      running := true, next := some 640, work := some ⟨0, 0, ⟨[], [], []⟩, [], 0, 0, false, none, none, []⟩ } }

/-- Refutes O37: that the edge ends the run is claimed of every register file, canonical or not. In `runBehindDiv` RUN reads 0 when
the edge falls due; closing the epoch gives AIN_EPOCH_DIV its reset value and puts it back behind RUN, which reads 1 from there on,
so another epoch runs. -/
theorem not_epochEdges : ¬ Obligations.EpochEdges := by
  unfold Obligations.EpochEdges
  rintro ⟨h, -⟩
  have live : runBehindDiv.domLive .acq = true ∧ runBehindDiv.pageClocked 0x20 = true ∧ runBehindDiv.adcClock = true := by
    decide +kernel
  have before : (runBehindDiv.routerDrain 16).epoch.running = true ∧
      (runBehindDiv.routerDrain 16).flag F.AIN_CTRL_RUN = false := by decide +kernel
  have after : (runBehindDiv.epochEdge ⟨[], [], []⟩ 0).epoch.running = true := by decide +kernel
  obtain ⟨hdom, hpage, hclock⟩ := live
  obtain ⟨hrunning, hrun⟩ := before
  obtain ⟨hedge, -⟩ := h runBehindDiv ⟨[], [], []⟩ 0 640 rfl
  obtain ⟨hstop, -⟩ := hedge hdom hpage hclock
  obtain ⟨x, hx, -, hends, -⟩ := hstop hrunning hrun
  have hx : runBehindDiv.epochEdge ⟨[], [], []⟩ 0 = x := Host.Outcome.next.inj hx
  rw [hx, hends] at after
  cases after

end Sys2Proof.Machine
end

section
/-!
PROOF. Rules that the input array and the identity buses share: the bits that stand in PAGE_IRQ of their pages, bits of a stored
word, and a write to a register that stages nothing.
-/

namespace Sys2Proof.Machine

/-! ### Bits of a register -/

theorem fbit_fsetBit_other {s : State} {f g : Fld} {n i j : Nat} (b : Bool) (w : Regs.wf s.regs = true) (ok : f.reg.ok n = true)
    (e : g.reg = f.reg) (h : g.lo + j ≠ f.lo + i) : (s.fsetBit f n i b).fbit g n j = s.fbit g n j := by
  have hreg : (s.fsetBit f n i b).reg f.reg n = withBits (s.reg f.reg n) (f.lo + i) 1 (if b then 1 else 0) :=
    reg_setReg_same _ _ _ _ w ok
  rw [State.fbit, State.fbit, e, hreg, bits_withBits_other _ _ _ _ _ _ (by omega)]

/-- A field that a write cannot change keeps its value (R2). -/
theorem bits_mergeWord_kept {r : Reg} (old v : Word) {f : FieldDesc} (hf : f ∈ r.fields) (hacc : f.acc = .ro) :
    bits (mergeWord r old v) f.lo f.width = bits old f.lo f.width := by
  apply Nat.eq_of_testBit_eq
  intro i
  rw [testBit_bits, testBit_bits]
  by_cases hi : i < f.width
  · rw [mergeWord_getLsbD old v hf ⟨by omega, by omega⟩, hacc]
    rfl
  · simp [hi]

theorem bits_one (v : Word) (i : Nat) : bits v i 1 = (v.getLsbD i).toNat := by
  rw [bits_eq, BitVec.getLsbD, Nat.toNat_testBit, Nat.pow_one]

theorem maskOf_one_getLsbD {i k : Nat} (hk : k < 32) : (maskOf i 1).getLsbD k = decide (k = i) := by
  rw [maskOf_getLsbD, Bool.eq_iff_iff]
  simp only [Bool.and_eq_true, decide_eq_true_eq]
  omega

/-- A row that sets bit `i` of the word and clears bit `j`. -/
theorem bits_set_clear (v : Word) {i j : Nat} (hi : i < 32) (hj : j < 32) (hij : i ≠ j) :
    bits ((v ||| maskOf i 1) &&& ~~~maskOf j 1) i 1 = 1 ∧ bits ((v ||| maskOf i 1) &&& ~~~maskOf j 1) j 1 = 0 := by
  simp only [bits_one, BitVec.getLsbD_and, BitVec.getLsbD_or, BitVec.getLsbD_not, maskOf_one_getLsbD hi, maskOf_one_getLsbD hj]
  simp [hi, hij]

/-! ### Bits of PAGE_IRQ -/

theorem pageIrq_ok {p : Nat} (hp : p < 256) : Reg.PAGE_IRQ.ok p = true := ok_of_pageHead (by decide) (by decide) hp

/-- No page tap touches PAGE_IRQ of a page other than EVR0. -/
theorem pageIrq_not_tapped {p : Nat} (h8 : p ≠ 0x08) : (Reg.PAGE_IRQ, p) ∉ tapRegs := by simp [tapRegs, h8]

section irq
variable {s : State} {p : Nat} (w : Regs.wf s.regs = true) (hp : p < 256) (h8 : p ≠ 0x08)
include w hp h8

theorem irq_reg (b : Nat) : (s.irq p b).reg .PAGE_IRQ p = withBits (s.reg .PAGE_IRQ p) b 1 1 :=
  ((withTaps_frame _ _ _).reg (setReg_wf _ _ _ _ w) (pageIrq_ok hp) (pageIrq_not_tapped h8)).trans
    (reg_setReg_same _ _ _ _ w (pageIrq_ok hp))

/-- An interrupt sets its bit. -/
theorem irq_sets {b : Nat} (hb : b < 31) : (s.irq p b).fbit F.PAGE_IRQ_SOURCES p b = true := by
  rw [State.fbit, show F.PAGE_IRQ_SOURCES.reg = .PAGE_IRQ from rfl, irq_reg w hp h8,
    show F.PAGE_IRQ_SOURCES.lo + b = b from Nat.zero_add b, bits_withBits_same _ _ _ _ (by omega)]
  rfl

/-- An interrupt clears no bit. -/
theorem irq_keeps {b c : Nat} (hb : b < 31) (hc : s.fbit F.PAGE_IRQ_SOURCES p c = true) :
    (s.irq p b).fbit F.PAGE_IRQ_SOURCES p c = true := by
  by_cases h : c = b
  · rw [h]
    exact irq_sets w hp h8 hb
  · rw [← hc, State.fbit, State.fbit, show F.PAGE_IRQ_SOURCES.reg = .PAGE_IRQ from rfl, irq_reg w hp h8,
      show F.PAGE_IRQ_SOURCES.lo + c = c from Nat.zero_add c, bits_withBits_other _ _ _ _ _ _ (by omega)]

theorem pulse_pageIrq (g : Nat) : (s.pulse g).reg .PAGE_IRQ p = s.reg .PAGE_IRQ p :=
  (pulseWith_frame s g genMergedTaps_frame).reg w (pageIrq_ok hp) (pageIrq_not_tapped h8)

end irq

theorem fbit_of_reg {s t : State} {f : Fld} {n : Nat} (h : t.reg f.reg n = s.reg f.reg n) (i : Nat) :
    t.fbit f n i = s.fbit f n i := by
  rw [State.fbit, State.fbit, h]

/-! ### A write that stages nothing -/

/-- The word of a write of `v` stands in register `n` of array `r`. -/
def State.merged (s : State) (r : Reg) (n : Nat) (v : Word) : State := s.setReg r n (mergeWord r (s.reg r n) v)

theorem merged_agree {M : Nat} (s : State) {r : Reg} (hb : M.testBit (64 + r.ctorIdx) = true) (n : Nat) (v : Word) :
    Agree M s (s.merged r n v) := (Agree.refl M s).setReg hb _ _

theorem merged_wf {s : State} (r : Reg) (n : Nat) (v : Word) (w : Regs.wf s.regs = true) : Regs.wf (s.merged r n v).regs = true :=
  setReg_wf _ _ _ _ w

theorem merged_reg {s : State} {r : Reg} {n : Nat} (v : Word) (w : Regs.wf s.regs = true) (ok : r.ok n = true) :
    (s.merged r n v).reg r n = mergeWord r (s.reg r n) v := reg_setReg_same _ _ _ _ w ok

theorem noteStaged_unstaged {s old : State} {r : Reg} {n : Nat} (h : r.stMask = 0#32) : s.noteStaged old r n = s := by
  simp [State.noteStaged, h]

/-- A write to a register without staged fields is the stored word and what follows it. -/
theorem writeReg_unstaged {s : State} {q : Requester} {r : Reg} {n : Nat} {v : Word} {f : State → State} (ok : r.ok n = true)
    (h : s.admits q r n v = true) (hp : s.portWrite (s.who q) r n v = none) (hst : r.stMask = 0#32)
    (hland : s.landWrite (s.who q) r n v =
      f ((s.setReg r n (mergeWord r (s.reg r n) v &&& 0xFFFFFFFF#32)).noteStaged s r n)) :
    s.writeReg q r n v = s.taken (f (s.merged r n v)) := by
  have hword (x : Word) : x &&& 0xFFFFFFFF#32 = x := BitVec.and_allOnes
  rw [writeReg_taken ok h hp, hland, noteStaged_unstaged hst, hword]
  rfl

/-- Of the epoch timer a write that is taken keeps the edge to come, its number and whether epochs run. -/
theorem taken_timer (s t : State) : (s.taken t).epoch.next = t.epoch.next ∧ (s.taken t).epoch.firstNum = t.epoch.firstNum ∧
    (s.taken t).epoch.running = t.epoch.running := by
  have h := taken_epoch s t none
  exact ⟨(congrArg Epoch.next h :), (congrArg Epoch.firstNum h :), (congrArg Epoch.running h :)⟩

end Sys2Proof.Machine
end

section
/-!
PROOF. The epoch timer, its alignment and the groups: what a write to AIN_CTRL or AIN_GRP_PWR leaves, and what follows when no
system time comes or a group is ready.
-/

namespace Sys2Proof.Machine

/-! ### The state of the alignment -/

/-- What a change of the alignment state may touch. -/
def alignMask : Nat := pulseMask ||| 1 <<< (64 + Reg.AIN_ALIGN_STATUS.ctorIdx)

theorem setAlign_agree (s : State) (x : Nat) : Agree alignMask s (s.setAlign x) := State.setAlign_touch (by decide) (.refl _ s)

theorem setAlign_state {s : State} {x : Nat} (w : Regs.wf s.regs = true) (hx : x < 8) :
    (s.setAlign x).fget F.AIN_ALIGN_STATUS_STATE = x := by
  unfold State.setAlign
  split
  next h => exact h
  next =>
    rw [(irq_agree _ _ _).fget_same (f := F.AIN_ALIGN_STATUS_STATE) (fset_wf _ _ _ _ w) (by decide) (by decide)]
    exact (fget_fset_same s F.AIN_ALIGN_STATUS_STATE 0 x w (by decide) (by decide)).trans (Nat.mod_eq_of_lt hx)

/-- A change of the alignment state raises its interrupt. -/
theorem setAlign_irq {s : State} {x : Nat} (w : Regs.wf s.regs = true) (h : s.fget F.AIN_ALIGN_STATUS_STATE ≠ x) :
    (s.setAlign x).fbit F.PAGE_IRQ_SOURCES 0x20 2 = true := by
  unfold State.setAlign
  rw [if_neg h]
  exact irq_sets (fset_wf _ _ _ _ w) (by decide) (by decide) (by decide)

theorem domLive_acq_of_pageLive {s : State} (h : s.pageLive 0x20 = true) : s.domLive .acq = true := by
  simp only [State.pageLive, pageInfo] at h
  exact (Bool.and_eq_true_iff.mp h).1

/-- ALIGNING and ALIGNED go over to HOLDOVER (R82). -/
theorem alignHoldover_eq {s : State} (hlive : s.pageLive 0x20 = true)
    (h : s.fget F.AIN_ALIGN_STATUS_STATE = 3 ∨ s.fget F.AIN_ALIGN_STATUS_STATE = 4) : s.alignHoldover = s.setAlign 5 := by
  unfold State.alignHoldover
  refine if_pos ?_
  rcases h with h | h <;> simp [domLive_acq_of_pageLive hlive, h]

/-! ### RUN -/

/-- What a change of RUN may touch. -/
def runMask : Nat := alignMask ||| 1 <<< 15 ||| 1 <<< (64 + Reg.AIN_ALIGN_RATE.ctorIdx)

theorem runWritten_agree (s : State) (old : Bool) : Agree runMask s (s.runWritten old) :=
  State.runWritten_touch (by decide) (.refl _ s)

/-- The timer starts without alignment (R76). -/
def State.timerFree (s : State) : State :=
  let e := { s.epoch with running := false, next := none, firstNum := none, slips := 0, step := 0, acc := 0, above := -1 }
  { s with epoch := { e with next := some (s.now + 64), firstNum := some (s.get64 .AIN_PRESET_LO .AIN_PRESET_HI) } }

theorem startTimer_free {s : State} (hmode : s.fget F.AIN_ALIGN_MODE = 0) :
    s.startTimer false = s.timerFree.setAlign 1 := by
  simp only [State.startTimer, hmode]
  rfl

theorem runWritten_rises {s : State} (hrun : s.flag F.AIN_CTRL_RUN = true)
    (hclock : (s.setReg .AIN_ALIGN_RATE 0 0#32).adcClock = true) :
    s.runWritten false = (s.setReg .AIN_ALIGN_RATE 0 0#32).startTimer false := by
  simp only [State.runWritten, hrun, hclock]
  rfl

theorem runWritten_falls {s : State} (hrun : s.flag F.AIN_CTRL_RUN = false) :
    s.runWritten true =
      (if s.epoch.running then s else { s with epoch := { s.epoch with next := none, firstNum := none } }).setAlign 0 := by
  simp only [State.runWritten, hrun]
  rfl

section run
variable {s : State} {q : Requester} {v : Word} (w : Regs.wf s.regs = true) (h : s.admits q .AIN_CTRL 0 v = true)
include w h

omit w in
theorem writeReg_ainCtrl :
    s.writeReg q .AIN_CTRL 0 v = s.taken ((s.merged .AIN_CTRL 0 v).runWritten (s.flag F.AIN_CTRL_RUN)) :=
  writeReg_unstaged (f := fun t => t.runWritten (s.flag F.AIN_CTRL_RUN)) (by decide) h rfl (by decide) rfl

omit h in
/-- RUN of the stored word is the bit written. -/
theorem merged_run : (s.merged .AIN_CTRL 0 v).fget F.AIN_CTRL_RUN = bits v 0 1 :=
  (congrArg (bits · 0 1) (merged_reg v w (by decide))).trans
    (bits_mergeWord (f := ⟨"RUN", 0, 1, .rw, 0, []⟩) _ v (by decide) (fun _ _ => rfl))

theorem writeReg_run : (s.writeReg q .AIN_CTRL 0 v).fget F.AIN_CTRL_RUN = bits v 0 1 := by
  have wm := merged_wf .AIN_CTRL 0 v w
  have hr := runWritten_agree (s.merged .AIN_CTRL 0 v) (s.flag F.AIN_CTRL_RUN)
  rw [writeReg_ainCtrl h, (taken_agree s _).fget_same (f := F.AIN_CTRL_RUN) (hr.regsWf wm) (by decide) (by decide),
    hr.fget_same (f := F.AIN_CTRL_RUN) wm (by decide) (by decide), merged_run w]

/-- RUN rises without alignment (R76). -/
theorem writeReg_run_rises (hold : s.flag F.AIN_CTRL_RUN = false) (hv : bits v 0 1 = 1) (hclock : s.adcClock = true)
    (hmode : s.fget F.AIN_ALIGN_MODE = 0) :
    (s.writeReg q .AIN_CTRL 0 v).epoch.next = some (s.now + 64) ∧
      (s.writeReg q .AIN_CTRL 0 v).epoch.firstNum = some (s.get64 .AIN_PRESET_LO .AIN_PRESET_HI) ∧
      (s.writeReg q .AIN_CTRL 0 v).epoch.running = false ∧ (s.writeReg q .AIN_CTRL 0 v).fget F.AIN_ALIGN_STATUS_STATE = 1 := by
  generalize hu : (s.merged .AIN_CTRL 0 v).setReg .AIN_ALIGN_RATE 0 0#32 = u
  have hs : Agree (1 <<< (64 + Reg.AIN_CTRL.ctorIdx) ||| 1 <<< (64 + Reg.AIN_ALIGN_RATE.ctorIdx)) s u :=
    hu ▸ (merged_agree s (by decide) 0 v).setReg (by decide) 0 _
  have wu := hs.regsWf w
  have hrun : (s.merged .AIN_CTRL 0 v).flag F.AIN_CTRL_RUN = true := by rw [State.flag, merged_run w, hv]; rfl
  have hclock' : u.adcClock = true := (hs.fbit_same (f := F.CLK_READY_READY) w (by decide) (by decide)).trans hclock
  have hmode' := (hs.fget_same (f := F.AIN_ALIGN_MODE) w (by decide) (by decide)).trans hmode
  have hpreset := hs.get64_same (lo := .AIN_PRESET_LO) (hi := .AIN_PRESET_HI) (n := 0) w (by decide) (by decide)
    (by decide) (by decide)
  have hw : s.writeReg q .AIN_CTRL 0 v = s.taken (u.timerFree.setAlign 1) := by
    rw [writeReg_ainCtrl h, hold, runWritten_rises hrun (hu ▸ hclock'), hu, startTimer_free hmode']
  have halign := setAlign_agree u.timerFree 1
  obtain ⟨hnext, hnum, hrunning⟩ := taken_timer s (u.timerFree.setAlign 1)
  have hepoch : (u.timerFree.setAlign 1).epoch = u.timerFree.epoch := halign.epoch_same (by decide)
  rw [hw, hnext, hnum, hrunning, hepoch]
  refine ⟨?_, congrArg some hpreset, rfl, ?_⟩
  · rw [← hs.now_same (by decide)]
    rfl
  · rw [(taken_agree s _).fget_same (f := F.AIN_ALIGN_STATUS_STATE) (halign.regsWf wu) (by decide) (by decide)]
    exact setAlign_state wu (by decide)

/-- RUN falls (R77). -/
theorem writeReg_run_falls (hold : s.flag F.AIN_CTRL_RUN = true) (hv : bits v 0 1 = 0) :
    (s.writeReg q .AIN_CTRL 0 v).fget F.AIN_ALIGN_STATUS_STATE = 0 ∧
      (s.epoch.running = false → (s.writeReg q .AIN_CTRL 0 v).epoch.next = none) := by
  generalize hm : s.merged .AIN_CTRL 0 v = m
  have hrun : m.flag F.AIN_CTRL_RUN = false := by rw [← hm, State.flag, merged_run w, hv]; rfl
  have hepoch : m.epoch = s.epoch := hm ▸ setReg_epoch _ _ _ _
  generalize hu : (if m.epoch.running then m else { m with epoch := { m.epoch with next := none, firstNum := none } }) = u
  have wu : Regs.wf u.regs = true := by
    have wm : Regs.wf m.regs = true := hm ▸ merged_wf _ _ _ w
    rw [← hu]
    split <;> exact wm
  have hw : s.writeReg q .AIN_CTRL 0 v = s.taken (u.setAlign 0) := by
    rw [writeReg_ainCtrl h, hold, hm, runWritten_falls hrun, hu]
  have halign := setAlign_agree u 0
  rw [hw]
  refine ⟨?_, fun hrunning => ?_⟩
  · rw [(taken_agree s _).fget_same (f := F.AIN_ALIGN_STATUS_STATE) (halign.regsWf wu) (by decide) (by decide)]
    exact setAlign_state wu (by decide)
  · obtain ⟨hnext, -⟩ := taken_timer s (u.setAlign 0)
    rw [hnext, halign.epoch_same (by decide), ← hu, hepoch, hrunning]
    rfl

end run

/-! ### The groups -/

theorem writeReg_grpPower {s : State} {q : Requester} {v : Word} (w : Regs.wf s.regs = true)
    (h : s.admits q .AIN_GRP_PWR 0 v = true) :
    (s.writeReg q .AIN_GRP_PWR 0 v).fget F.AIN_GRP_PWR_EN = bits v 0 12 ∧
      (s.writeReg q .AIN_GRP_PWR 0 v).fget F.AIN_GRP_PWR_RDY = s.fget F.AIN_GRP_PWR_RDY &&& bits v 0 12 := by
  have ok : Reg.AIN_GRP_PWR.ok 0 = true := by decide
  rw [writeReg_unstaged (f := State.grpPowerWritten) ok h rfl (by decide) rfl]
  generalize hm : s.merged .AIN_GRP_PWR 0 v = m
  have wm : Regs.wf m.regs = true := hm ▸ merged_wf _ _ _ w
  have hreg : m.reg .AIN_GRP_PWR 0 = mergeWord .AIN_GRP_PWR (s.reg .AIN_GRP_PWR) v := hm ▸ merged_reg v w ok
  have hen : m.fget F.AIN_GRP_PWR_EN = bits v 0 12 :=
    (congrArg (bits · 0 12) hreg).trans
      (bits_mergeWord (f := ⟨"EN", 0, 12, .rw, 0, []⟩) _ v (by decide) (fun _ _ => rfl))
  have hrdy : m.fget F.AIN_GRP_PWR_RDY = s.fget F.AIN_GRP_PWR_RDY :=
    (congrArg (bits · 16 12) hreg).trans (bits_mergeWord_kept (f := ⟨"RDY", 16, 12, .ro, 0, []⟩) _ v (by decide) rfl)
  have wp : Regs.wf m.grpPowerWritten.regs = true := fset_wf _ _ _ _ wm
  have ht := taken_agree s m.grpPowerWritten
  rw [ht.fget_same (f := F.AIN_GRP_PWR_EN) wp ok (by decide), ht.fget_same (f := F.AIN_GRP_PWR_RDY) wp ok (by decide),
    State.grpPowerWritten]
  refine ⟨(fget_fset_field m F.AIN_GRP_PWR_RDY F.AIN_GRP_PWR_EN 0 _ wm ok rfl (by decide)).trans hen, ?_⟩
  refine (fget_fset_same m F.AIN_GRP_PWR_RDY 0 _ wm ok (by decide)).trans ?_
  rw [hrdy, hen]
  exact Nat.mod_eq_of_lt (Nat.lt_of_le_of_lt Nat.and_le_left (fget_lt s F.AIN_GRP_PWR_RDY 0))

/-- The registers of group `g` that change when it is ready. -/
theorem groupReady_frame (s : State) (g : Nat) : RegFrame [(.AIN_GRP_PWR, 0), (.AIN_SPARE, g)] s (s.groupReady g) := by
  have hrdy : RegFrame [(.AIN_GRP_PWR, 0), (.AIN_SPARE, g)] s (s.fsetBit F.AIN_GRP_PWR_RDY 0 g true) :=
    .setReg (r := .AIN_GRP_PWR) s _ (by simp)
  unfold State.groupReady
  exact .ite (.ite (hrdy.trans (.setReg _ _ (by simp))) hrdy) (.refl _ s)

/-- A group that is switched on is ready in the end, and stays so (R69). -/
theorem groupReady_ready {s : State} {g : Nat} (w : Regs.wf s.regs = true) (hg : g < 12) (hlive : s.pageLive 0x20 = true)
    (hen : s.fbit F.AIN_GRP_PWR_EN 0 g = true) : (s.groupReady g).grpReady g = true := by
  unfold State.groupReady
  rw [domLive_acq_of_pageLive hlive, hen]
  split
  next =>
    generalize hu : s.fsetBit F.AIN_GRP_PWR_RDY 0 g true = u
    have wu : Regs.wf u.regs = true := hu ▸ fsetBit_wf _ _ _ _ _ w
    have hready : u.grpReady g = true := hu ▸ fbit_fsetBit_same true w (by decide) (by simp only [F.AIN_GRP_PWR_RDY]; omega)
    dsimp only
    split
    · exact (fbit_of_reg (f := F.AIN_GRP_PWR_RDY) (reg_setReg_ne _ _ wu (by decide) (Or.inl (by decide))) g).trans hready
    · exact hready
  next h => simpa using h

end Sys2Proof.Machine
end

section
/-!
PROOF. The module positions: what a presence level that has held, a commit and the end of its check leave.
-/

namespace Sys2Proof.Machine

/-- The position of a module beside its registers. -/
def State.modAt (s : State) (g : Nat) : Module := s.modules.getD g ⟨true, false, none⟩

/-- Replace it. -/
def State.setMod (s : State) (g : Nat) (x : Module) : State := { s with modules := setAt ⟨true, false, none⟩ s.modules g x }

theorem setBusy_agree (s : State) (p : Nat) (b : Bool) : Agree (1 <<< (64 + Reg.PAGE_STATUS.ctorIdx)) s (s.setBusy p b) :=
  State.setBusy_touch (by decide) (.refl _ s)

/-! ### The information registers -/

/-- The registers of the channels of a position. -/
def channelMask : Nat :=
  1 <<< (64 + Reg.CH_GAIN.ctorIdx) ||| 1 <<< (64 + Reg.CH_OFFSET.ctorIdx) ||| 1 <<< (64 + Reg.CH_CORNER.ctorIdx) |||
    1 <<< (64 + Reg.CH_FLAGS.ctorIdx)

/-- The information registers of a position and of its channels, beside MOD_ID. -/
def modRestMask : Nat :=
  channelMask ||| 1 <<< (64 + Reg.MOD_BIAS.ctorIdx) ||| 1 <<< (64 + Reg.MOD_SER_LO.ctorIdx) ||| 1 <<< (64 + Reg.MOD_SER_HI.ctorIdx)

/-- The information registers of a position and of its channels. -/
def modInfoMask : Nat := modRestMask ||| 1 <<< (64 + Reg.MOD_ID.ctorIdx)

theorem clearModInfo_agree (s : State) (g : Nat) : Agree modInfoMask s (s.clearModInfo g) :=
  State.clearModInfo_touch (by decide) (.refl _ s)

theorem writeModInfo_agree (s : State) (g : Nat) (r : List Byte) : Agree modInfoMask s (s.writeModInfo g r) :=
  State.writeModInfo_touch (by decide) (.refl _ s)

/-- Once MOD_ID is cleared, the rest of the information follows. -/
theorem clearModInfo_agree_id (s : State) (g : Nat) : Agree modRestMask (s.setReg .MOD_ID g 0#32) (s.clearModInfo g) := by
  have h := (((Agree.refl modRestMask (s.setReg .MOD_ID g 0#32)).setReg (r := .MOD_BIAS) (by decide) g 0#32).setReg
    (r := .MOD_SER_LO) (by decide) g 0#32).setReg (r := .MOD_SER_HI) (by decide) g 0#32
  exact h.forEach (fun i t ht => (((ht.setReg (by decide) _ _).setReg (by decide) _ _).setReg (by decide) _ _).setReg
    (by decide) _ _) _

/-- Once MOD_ID is written, the rest of the information follows. -/
theorem writeModInfo_agree_id (s : State) (g : Nat) (r : List Byte) :
    Agree modRestMask (s.setReg .MOD_ID g (BitVec.ofNat 32 (recU16 r 4 * 65536 + recU16 r 2))) (s.writeModInfo g r) := by
  have h := (((Agree.refl modRestMask (s.setReg .MOD_ID g (BitVec.ofNat 32 (recU16 r 4 * 65536 + recU16 r 2)))).setReg
    (r := .MOD_BIAS) (by decide) g (BitVec.ofNat 32 (recU16 r 6))).setReg (r := .MOD_SER_LO) (by decide) g
    (BitVec.ofNat 32 (recU32 r 8))).setReg (r := .MOD_SER_HI) (by decide) g
    (BitVec.ofNat 32 (if recByte r 0 = 3 then recU32 r 12 else 0))
  exact h.forEach (fun i t ht => (((ht.setReg (by decide) _ _).setReg (by decide) _ _).setReg (by decide) _ _).setReg
    (by decide) _ _) _

section info
variable {s : State} {g : Nat} (w : Regs.wf s.regs = true) (hg : g < 12)
include w hg

theorem clearModInfo_id : (s.clearModInfo g).reg .MOD_ID g = 0#32 :=
  have ok : Reg.MOD_ID.ok g = true := ok_of_lt hg (by decide) (by decide)
  ((clearModInfo_agree_id s g).regs (setReg_wf _ _ _ _ w) _ _ ok (by decide)).trans (reg_setReg_same _ _ _ _ w ok)

theorem writeModInfo_id (r : List Byte) :
    (s.writeModInfo g r).reg .MOD_ID g = BitVec.ofNat 32 (recU16 r 4 * 65536 + recU16 r 2) :=
  have ok : Reg.MOD_ID.ok g = true := ok_of_lt hg (by decide) (by decide)
  ((writeModInfo_agree_id s g r).regs (setReg_wf _ _ _ _ w) _ _ ok (by decide)).trans (reg_setReg_same _ _ _ _ w ok)

end info

/-! ### The state of a position (R85) -/

/-- The word of AIN_MOD_STATE. -/
def modWord (st reason format : Nat) : Word := BitVec.ofNat 32 (reason * 256 + format * 16 + st)

theorem bits_modWord {st reason format : Nat} (hst : st < 4) (hreason : reason < 16) (hformat : format < 8) :
    bits (modWord st reason format) 0 2 = st ∧ bits (modWord st reason format) 4 3 = format ∧
      bits (modWord st reason format) 8 4 = reason := by
  simp only [bits_eq, modWord, BitVec.toNat_ofNat]
  omega

/-- AIN_MOD_STATE of position `g` is written, and a position that is not VALID shows no information. -/
def State.modPut (s : State) (g st reason format : Nat) : State :=
  let t := s.setReg .AIN_MOD_STATE g (modWord st reason format)
  if st = 2 then t else t.clearModInfo g

theorem modPut_agree (s : State) (g st reason format : Nat) :
    Agree (modInfoMask ||| 1 <<< (64 + Reg.AIN_MOD_STATE.ctorIdx)) s (s.modPut g st reason format) := by
  have h := (Agree.refl (modInfoMask ||| 1 <<< (64 + Reg.AIN_MOD_STATE.ctorIdx)) s).setReg (r := .AIN_MOD_STATE) (by decide) g
    (modWord st reason format)
  exact .ite h (State.clearModInfo_touch (by decide) h)

/-- What the change is noted in: STATE_CHG with its interrupt, and the chains. -/
def modNoteMask : Nat := pulseMask ||| 1 <<< 21 ||| 1 <<< (64 + Reg.AIN_MOD_CHG.ctorIdx)

/-- The change of position `g` from state `old` is noted for the chains, whose channels it binds or frees. -/
def State.modMoved (s : State) (g old st : Nat) : State :=
  if (old = 2) = (st = 2) then s else { s with chains := { s.chains with moved := s.chains.moved ||| 2 ^ g } }

theorem setModState_eq (s : State) (g st reason format : Nat) :
    s.setModState g st reason format =
      let old := s.fget F.AIN_MOD_STATE_STATE g
      let t := (s.modPut g st reason format).modMoved g old st
      if old = st then t else (t.fsetBit F.AIN_MOD_CHG_STATE_CHG 0 g true).irq 0x20 1 := rfl

theorem modMoved_agree (s : State) (g old st : Nat) : Agree (1 <<< 21) s (s.modMoved g old st) :=
  .ite (.refl _ s) ((Agree.refl _ s).set_chains (by decide) _)

theorem modPut_moved_agree (s : State) (g old st reason format : Nat) :
    Agree (modInfoMask ||| 1 <<< (64 + Reg.AIN_MOD_STATE.ctorIdx) ||| 1 <<< 21) s
      ((s.modPut g st reason format).modMoved g old st) :=
  ((modPut_agree s g st reason format).mono (by decide)).trans ((modMoved_agree _ g old st).mono (by decide))

theorem setModState_agree (s : State) (g st reason format : Nat) :
    Agree modNoteMask (s.modPut g st reason format) (s.setModState g st reason format) := by
  have h := (modMoved_agree (s.modPut g st reason format) g (s.fget F.AIN_MOD_STATE_STATE g) st).mono (M := modNoteMask) (by decide)
  rw [setModState_eq]
  exact .ite h (State.irq_touch (by decide) (h.fsetBit (by decide) _ _ _))

section state
variable {s : State} {g : Nat} (w : Regs.wf s.regs = true) (hg : g < 12) (st reason format : Nat)
include w hg

theorem modPut_reg : (s.modPut g st reason format).reg .AIN_MOD_STATE g = modWord st reason format := by
  have ok : Reg.AIN_MOD_STATE.ok g = true := ok_of_lt hg (by decide) (by decide)
  have hset := reg_setReg_same s .AIN_MOD_STATE g (modWord st reason format) w ok
  unfold State.modPut
  dsimp only
  split
  · exact hset
  · exact ((clearModInfo_agree _ g).regs (setReg_wf _ _ _ _ w) _ _ ok (by decide)).trans hset

theorem setModState_reg : (s.setModState g st reason format).reg .AIN_MOD_STATE g = modWord st reason format :=
  ((setModState_agree s g st reason format).regs ((modPut_agree s g st reason format).regsWf w) _ _
    (ok_of_lt hg (by decide) (by decide)) (by decide)).trans (modPut_reg w hg st reason format)

/-- A position that is VALID keeps the information written, any other shows none. -/
theorem setModState_id : (s.setModState g st reason format).reg .MOD_ID g = if st = 2 then s.reg .MOD_ID g else 0#32 := by
  have ok : Reg.MOD_ID.ok g = true := ok_of_lt hg (by decide) (by decide)
  rw [(setModState_agree s g st reason format).regs ((modPut_agree s g st reason format).regsWf w) _ _ ok (by decide)]
  unfold State.modPut
  dsimp only
  split
  · exact reg_setReg_ne _ _ w ok (Or.inl (by decide))
  · exact clearModInfo_id (setReg_wf _ _ _ _ w) hg

/-- A change of state leaves what AIN_MOD_CHG says of presence. -/
theorem setModState_presChg (i : Nat) (hi : i < 12) :
    (s.setModState g st reason format).fbit F.AIN_MOD_CHG_PRES_CHG 0 i = s.fbit F.AIN_MOD_CHG_PRES_CHG 0 i := by
  have hmoved := modPut_moved_agree s g (s.fget F.AIN_MOD_STATE_STATE g) st reason format
  have hkept := hmoved.fbit_same (f := F.AIN_MOD_CHG_PRES_CHG) (n := 0) (i := i) w (by decide) (by decide)
  have wm := hmoved.regsWf w
  rw [setModState_eq]
  dsimp only
  split
  · exact hkept
  · rw [(irq_agree _ _ _).fbit_same (f := F.AIN_MOD_CHG_PRES_CHG) (fsetBit_wf _ _ _ _ _ wm) (by decide) (by decide),
      fbit_fsetBit_other (f := F.AIN_MOD_CHG_STATE_CHG) (g := F.AIN_MOD_CHG_PRES_CHG) true wm (by decide) rfl
        (by simp only [F.AIN_MOD_CHG_PRES_CHG, F.AIN_MOD_CHG_STATE_CHG]; omega)]
    exact hkept

omit hg in
/-- A change of state clears no interrupt bit of AIN. -/
theorem setModState_keeps_irq {c : Nat} (hc : s.fbit F.PAGE_IRQ_SOURCES 0x20 c = true) :
    (s.setModState g st reason format).fbit F.PAGE_IRQ_SOURCES 0x20 c = true := by
  have hmoved := modPut_moved_agree s g (s.fget F.AIN_MOD_STATE_STATE g) st reason format
  have wm := hmoved.regsWf w
  have hkept := (hmoved.fbit_same (f := F.PAGE_IRQ_SOURCES) (n := 0x20) (i := c) w (by decide) (by decide)).trans hc
  rw [setModState_eq]
  dsimp only
  split
  · exact hkept
  · refine irq_keeps (fsetBit_wf _ _ _ _ _ wm) (by decide) (by decide) (by decide) ?_
    exact (fbit_of_reg (f := F.PAGE_IRQ_SOURCES) (reg_setReg_ne _ _ wm (by decide) (Or.inl (by decide))) c).trans hkept

end state

/-! ### Presence (R84, R85) -/

/-- BUSY of AIN shows whether a check is in progress. -/
def State.modBusy (s : State) : State := s.setBusy 0x20 (s.modules.any (fun m => m.commit.isSome))

/-- A position that holds `level` no longer counts it; an empty one has no check. -/
def Module.accepted (m : Module) : Module := { m with counting := false, commit := if m.pin then none else m.commit }

/-- Presence of position `g`, with the change and its interrupt. -/
def State.presShown (s : State) (g : Nat) (here : Bool) : State :=
  ((s.fsetBit F.AIN_MOD_PRES_PRES 0 g here).fsetBit F.AIN_MOD_CHG_PRES_CHG 0 g true).irq 0x20 0

theorem presence_counting {s : State} {g : Nat} (h : (s.modAt g).counting = true) :
    s.presence g = ((((s.setMod g (s.modAt g).accepted).modBusy).presShown g (!(s.modAt g).pin)).pulse 0x1E0).setModState g
      (if (s.modAt g).pin then 0 else 1) 0 0 := by
  unfold State.modAt at h
  simp only [State.presence, h]
  unfold State.modAt Module.accepted
  cases (s.modules.getD g ⟨true, false, none⟩).pin <;> rfl

section presence
variable {s : State} {g : Nat} (w : Regs.wf s.regs = true) (hg : g < 12)
include w hg

/-- What shows the presence of a position, up to its pulse. -/
theorem presShown_pulse (here : Bool) :
    ((s.presShown g here).pulse 0x1E0).fbit F.AIN_MOD_PRES_PRES 0 g = here ∧
      ((s.presShown g here).pulse 0x1E0).fbit F.AIN_MOD_CHG_PRES_CHG 0 g = true ∧
      ((s.presShown g here).pulse 0x1E0).fbit F.PAGE_IRQ_SOURCES 0x20 0 = true := by
  generalize hu : s.fsetBit F.AIN_MOD_PRES_PRES 0 g here = u
  have wu : Regs.wf u.regs = true := hu ▸ fsetBit_wf _ _ _ _ _ w
  generalize hx : u.fsetBit F.AIN_MOD_CHG_PRES_CHG 0 g true = x
  have hc : Agree (1 <<< (64 + Reg.AIN_MOD_CHG.ctorIdx)) u x := hx ▸ (Agree.refl _ u).fsetBit (by decide) _ _ _
  have wx := hc.regsWf wu
  have he : s.presShown g here = x.irq 0x20 0 := by rw [State.presShown, hu, hx]
  have hp : Agree pulseMask x ((x.irq 0x20 0).pulse 0x1E0) := State.pulse_touch (by decide) (irq_agree x _ _)
  rw [he]
  refine ⟨?_, ?_, ?_⟩
  · rw [hp.fbit_same (f := F.AIN_MOD_PRES_PRES) wx (by decide) (by decide),
      hc.fbit_same (f := F.AIN_MOD_PRES_PRES) wu (by decide) (by decide), ← hu]
    exact fbit_fsetBit_same here w (by decide) (by simp only [F.AIN_MOD_PRES_PRES]; omega)
  · rw [hp.fbit_same (f := F.AIN_MOD_CHG_PRES_CHG) wx (by decide) (by decide), ← hx]
    exact fbit_fsetBit_same true wu (by decide) (by simp only [F.AIN_MOD_CHG_PRES_CHG]; omega)
  · have wi := (irq_agree x 0x20 0).regsWf wx
    rw [fbit_of_reg (f := F.PAGE_IRQ_SOURCES) (pulse_pageIrq wi (by decide) (by decide) _)]
    exact irq_sets wx (by decide) (by decide) (by decide)

/-- The level that has held is accepted. -/
theorem presence_effect (hcount : (s.modAt g).counting = true) :
    (s.presence g).fbit F.AIN_MOD_PRES_PRES 0 g = !(s.modAt g).pin ∧
      (s.presence g).fbit F.AIN_MOD_CHG_PRES_CHG 0 g = true ∧
      (s.presence g).fget F.AIN_MOD_STATE_STATE g = (if (s.modAt g).pin then 0 else 1) ∧
      (s.presence g).fbit F.PAGE_IRQ_SOURCES 0x20 0 = true ∧
      (s.presence g).modules = setAt ⟨true, false, none⟩ s.modules g (s.modAt g).accepted := by
  have hst : (if (s.modAt g).pin then 0 else 1) < 4 := by split <;> decide
  rw [presence_counting hcount]
  generalize (if (s.modAt g).pin then 0 else 1) = st at hst ⊢
  generalize hb : (s.setMod g (s.modAt g).accepted).modBusy = b
  have hbusy : Agree (1 <<< (64 + Reg.PAGE_STATUS.ctorIdx)) (s.setMod g (s.modAt g).accepted) b := hb ▸ setBusy_agree _ _ _
  have wb : Regs.wf b.regs = true := hbusy.regsWf w
  obtain ⟨hpres, hchg, hirq⟩ := presShown_pulse wb hg (!(s.modAt g).pin)
  have hshown : Agree (pulseMask ||| 1 <<< (64 + Reg.AIN_MOD_PRES.ctorIdx) ||| 1 <<< (64 + Reg.AIN_MOD_CHG.ctorIdx)) b
      ((b.presShown g (!(s.modAt g).pin)).pulse 0x1E0) :=
    State.pulse_touch (by decide) (State.irq_touch (by decide)
      (((Agree.refl _ b).fsetBit (by decide) _ _ _).fsetBit (by decide) _ _ _))
  generalize (b.presShown g (!(s.modAt g).pin)).pulse 0x1E0 = x at hpres hchg hirq hshown ⊢
  have wx := hshown.regsWf wb
  have hput := modPut_agree x g st 0 0
  have hset := setModState_agree x g st 0 0
  refine ⟨?_, ?_, ?_, setModState_keeps_irq wx st 0 0 hirq, ?_⟩
  · rw [hset.fbit_same (f := F.AIN_MOD_PRES_PRES) (hput.regsWf wx) (by decide) (by decide),
      hput.fbit_same (f := F.AIN_MOD_PRES_PRES) wx (by decide) (by decide), hpres]
  · rw [setModState_presChg wx hg st 0 0 g hg, hchg]
  · obtain ⟨hstate, -⟩ := bits_modWord hst (reason := 0) (format := 0) (by decide) (by decide)
    exact (congrArg (bits · 0 2) (setModState_reg wx hg st 0 0)).trans hstate
  · rw [hset.modules_same (by decide), hput.modules_same (by decide), hshown.modules_same (by decide),
      hbusy.modules_same (by decide), State.setMod]

end presence

/-! ### Commits (R87) -/

section commit
variable {s : State} {q : Requester} {v : Word} {g : Nat} (w : Regs.wf s.regs = true)
  (h : s.admits q .AIN_IDCOMMIT 0 v = true) (hv : bits v 0 4 = g)
include h hv

theorem writeReg_idCommit : s.writeReg q .AIN_IDCOMMIT 0 v = s.taken (s.idCommit g) := by
  rw [writeReg_port (t := s.idCommit (bits v 0 4)) (by decide) h rfl, hv]

include w

/-- A commit to an empty position is refused. -/
theorem idCommit_refuses (hst : s.fget F.AIN_MOD_STATE_STATE g = 0) :
    (s.writeReg q .AIN_IDCOMMIT 0 v).flag F.AIN_STATUS_COMMIT_REFUSED = true ∧
      (s.writeReg q .AIN_IDCOMMIT 0 v).modules = s.modules ∧
      (s.writeReg q .AIN_IDCOMMIT 0 v).fbit F.PAGE_IRQ_SOURCES 0x20 5 = true := by
  have he : s.idCommit g = (s.fsetB F.AIN_STATUS_COMMIT_REFUSED 0 true).irq 0x20 5 := if_pos hst
  rw [writeReg_idCommit h hv, he]
  have wf := fsetB_wf s F.AIN_STATUS_COMMIT_REFUSED 0 true w
  have hi := irq_agree (s.fsetB F.AIN_STATUS_COMMIT_REFUSED 0 true) 0x20 5
  have ht := taken_agree s ((s.fsetB F.AIN_STATUS_COMMIT_REFUSED 0 true).irq 0x20 5)
  refine ⟨?_, ?_, ?_⟩
  · rw [ht.flag_same (f := F.AIN_STATUS_COMMIT_REFUSED) (hi.regsWf wf) (by decide) (by decide),
      hi.flag_same (f := F.AIN_STATUS_COMMIT_REFUSED) wf (by decide) (by decide)]
    exact flag_fsetB_same true w (by decide) (by decide)
  · rw [ht.modules_same (by decide), hi.modules_same (by decide), fsetB_modules]
  · rw [ht.fbit_same (f := F.PAGE_IRQ_SOURCES) (hi.regsWf wf) (by decide) (by decide)]
    exact irq_sets wf (by decide) (by decide) (by decide)

/-- A commit to any other is taken, and its check begins. -/
theorem idCommit_takes (hst : s.fget F.AIN_MOD_STATE_STATE g ≠ 0) :
    (s.writeReg q .AIN_IDCOMMIT 0 v).modules =
        setAt ⟨true, false, none⟩ s.modules g { s.modAt g with commit := some s.idBuf } ∧
      (s.writeReg q .AIN_IDCOMMIT 0 v).flag F.PAGE_STATUS_BUSY 0x20 = true := by
  have he : s.idCommit g = (s.setMod g { s.modAt g with commit := some s.idBuf }).setBusy 0x20 true := if_neg hst
  rw [writeReg_idCommit h hv, he]
  generalize hu : s.setMod g { s.modAt g with commit := some s.idBuf } = u
  have wu : Regs.wf u.regs = true := by rw [← hu]; exact w
  have hb := setBusy_agree u 0x20 true
  have ht := taken_agree s (u.setBusy 0x20 true)
  refine ⟨?_, ?_⟩
  · rw [ht.modules_same (by decide), hb.modules_same (by decide), ← hu, State.setMod]
  · rw [ht.flag_same (f := F.PAGE_STATUS_BUSY) (hb.regsWf wu) (by decide) (by decide)]
    exact flag_fsetB_same (f := F.PAGE_STATUS_BUSY) true wu (by decide) (by decide)

end commit

/-! ### The end of a check -/

theorem commitReason_lt (r : List Byte) : commitReason r < 16 := by
  unfold commitReason
  dsimp only
  repeat' split
  all_goals decide

/-- A record that passes has one of the three formats. -/
theorem format_of_passes {r : List Byte} (h : commitReason r = 0) : recByte r 0 < 8 := by
  by_contra hf
  have hreason : commitReason r = 1 := if_pos (by simp only [Bool.not_eq_true', decide_eq_false_iff_not]; omega)
  omega

/-- The check of a position that is not empty ends (R87). -/
theorem commitDone_some {s : State} {g : Nat} {r : List Byte} (w : Regs.wf s.regs = true) (hg : g < 12)
    (hr : (s.modAt g).commit = some r) (hst : s.fget F.AIN_MOD_STATE_STATE g ≠ 0) :
    s.commitDone g =
      let t := (s.setMod g { s.modAt g with commit := none }).modBusy
      if commitReason r = 0 then (t.writeModInfo g r).setModState g 2 0 (recByte r 0)
      else t.setModState g 3 (commitReason r) 0 := by
  have hbusy : Agree (1 <<< (64 + Reg.PAGE_STATUS.ctorIdx)) (s.setMod g { s.modAt g with commit := none })
    (s.setMod g { s.modAt g with commit := none }).modBusy := setBusy_agree _ _ _
  have hst' := (hbusy.fget_same (f := F.AIN_MOD_STATE_STATE) w (ok_of_lt hg (by decide) (by decide)) (by decide)).trans_ne hst
  unfold State.modAt at hr
  unfold State.commitDone
  simp only [hr]
  exact if_neg hst'

section done
variable {s : State} {g : Nat} {r : List Byte} (w : Regs.wf s.regs = true) (hg : g < 12)
  (hr : (s.modAt g).commit = some r) (hst : s.fget F.AIN_MOD_STATE_STATE g ≠ 0)
include w hg hr hst

theorem commitDone_modules :
    (s.commitDone g).modules = setAt ⟨true, false, none⟩ s.modules g { s.modAt g with commit := none } := by
  rw [commitDone_some w hg hr hst]
  generalize hb : (s.setMod g { s.modAt g with commit := none }).modBusy = b
  have hmod : b.modules = setAt ⟨true, false, none⟩ s.modules g { s.modAt g with commit := none } :=
    hb ▸ (setBusy_agree (s.setMod g { s.modAt g with commit := none }) _ _).modules_same (by decide)
  dsimp only
  split
  · rw [(setModState_agree _ _ _ _ _).modules_same (by decide), (modPut_agree _ _ _ _ _).modules_same (by decide),
      (writeModInfo_agree _ _ _).modules_same (by decide), hmod]
  · rw [(setModState_agree _ _ _ _ _).modules_same (by decide), (modPut_agree _ _ _ _ _).modules_same (by decide), hmod]

/-- The record passes. -/
theorem commitDone_passes (hpass : commitReason r = 0) :
    (s.commitDone g).fget F.AIN_MOD_STATE_STATE g = 2 ∧ (s.commitDone g).fget F.AIN_MOD_STATE_FORMAT g = recByte r 0 ∧
      (s.commitDone g).reg .MOD_ID g = BitVec.ofNat 32 (recU16 r 4 * 65536 + recU16 r 2) := by
  rw [commitDone_some w hg hr hst]
  simp only [hpass, if_true]
  generalize hb : (s.setMod g { s.modAt g with commit := none }).modBusy = b
  have wb : Regs.wf b.regs = true := hb ▸ (setBusy_agree (s.setMod g { s.modAt g with commit := none }) _ _).regsWf w
  have wi := (writeModInfo_agree b g r).regsWf wb
  have hreg := setModState_reg wi hg 2 0 (recByte r 0)
  obtain ⟨hstate, hformat, -⟩ := bits_modWord (st := 2) (reason := 0) (by decide) (by decide) (format_of_passes hpass)
  exact ⟨(congrArg (bits · 0 2) hreg).trans hstate, (congrArg (bits · 4 3) hreg).trans hformat,
    (setModState_id wi hg 2 0 (recByte r 0)).trans (writeModInfo_id wb hg r)⟩

/-- The record fails a check. -/
theorem commitDone_fails (hfail : commitReason r ≠ 0) :
    (s.commitDone g).fget F.AIN_MOD_STATE_STATE g = 3 ∧ (s.commitDone g).fget F.AIN_MOD_STATE_REASON g = commitReason r ∧
      (s.commitDone g).reg .MOD_ID g = 0#32 := by
  rw [commitDone_some w hg hr hst]
  simp only [hfail, if_false]
  generalize hb : (s.setMod g { s.modAt g with commit := none }).modBusy = b
  have wb : Regs.wf b.regs = true := hb ▸ (setBusy_agree (s.setMod g { s.modAt g with commit := none }) _ _).regsWf w
  have hreg := setModState_reg wb hg 3 (commitReason r) 0
  obtain ⟨hstate, -, hreason⟩ := bits_modWord (st := 3) (format := 0) (by decide) (commitReason_lt r) (by decide)
  exact ⟨(congrArg (bits · 0 2) hreg).trans hstate, (congrArg (bits · 8 4) hreg).trans hreason,
    setModState_id wb hg 3 (commitReason r) 0⟩

end done

end Sys2Proof.Machine
end

section
/-!
PROOF. The identity buses: what a transaction or a recovery leaves when it begins and when it ends, and the statement about the
input array.
-/

namespace Sys2Proof.Machine

/-- Identity-bus controller `b` beside its registers. -/
def State.idbAt (s : State) (b : Nat) : IdBus := s.idb.getD b IdBus.idle

theorem idbStatus_ok {b : Nat} (hb : b < 2) : Reg.IDB_STATUS.ok b = true := ok_of_lt hb (by decide) (by decide)

theorem idbCmd_ok {b : Nat} (hb : b < 2) : Reg.IDB_CMD.ok b = true := ok_of_lt hb (by decide) (by decide)

theorem idbBuf_ok {b k : Nat} (hb : b < 2) (hk : k < 256) : Reg.IDB_BUF.ok (64 * b + k / 4) = true :=
  ok_of_lt (m := 128) (by omega) (by decide) (by decide)

theorem idbBusy_agree (s : State) : Agree (1 <<< (64 + Reg.PAGE_STATUS.ctorIdx)) s s.idbBusy :=
  State.idbBusy_touch (by decide) (.refl _ s)

/-! ### The beginning (R91, R93) -/

/-- What controller `b` runs when it is told to by IDB_CMD: 1 a transaction, 2 a recovery. -/
def State.idbOrder (s : State) (b run : Nat) : IdBus :=
  ⟨run, s.fget F.IDB_CMD_WLEN b, s.fget F.IDB_CMD_RLEN b, if run = 1 then s.idbSends b else []⟩

/-- Controller `b` runs what IDB_CMD orders. -/
def State.idbStarted (s : State) (b run : Nat) : State := { s with idb := setAt IdBus.idle s.idb b (s.idbOrder b run) }

theorem idbGo_eq (s : State) (b run : Nat) :
    s.idbGo b run = ((s.idbStarted b run).fsetB F.IDB_STATUS_BUSY b true).idbBusy := rfl

/-- What a beginning touches of the registers. -/
def idbGoMask : Nat := 1 <<< (64 + Reg.IDB_STATUS.ctorIdx) ||| 1 <<< (64 + Reg.PAGE_STATUS.ctorIdx)

theorem idbGo_agree (s : State) (b run : Nat) : Agree idbGoMask (s.idbStarted b run) (s.idbGo b run) :=
  State.idbBusy_touch (by decide) ((Agree.refl _ (s.idbStarted b run)).fsetB (f := F.IDB_STATUS_BUSY) (by decide) _ _)

/-- The page of a controller that is busy is busy. -/
theorem idbBusy_set {s : State} {b : Nat} (w : Regs.wf s.regs = true) (hb : b < 2) (h : s.flag F.IDB_STATUS_BUSY b = true) :
    s.idbBusy.flag F.PAGE_STATUS_BUSY 0x63 = true := by
  have hany : (s.flag F.IDB_STATUS_BUSY 0 || s.flag F.IDB_STATUS_BUSY 1) = true := by
    obtain rfl | rfl : b = 0 ∨ b = 1 := by omega
    · rw [h, Bool.true_or]
    · rw [h, Bool.or_true]
  rw [State.idbBusy, hany]
  exact flag_fsetB_same (f := F.PAGE_STATUS_BUSY) true w (by decide) (by decide)

theorem idbGo_busy {s : State} {b : Nat} (run : Nat) (w : Regs.wf s.regs = true) (hb : b < 2) :
    (s.idbGo b run).flag F.IDB_STATUS_BUSY b = true ∧ (s.idbGo b run).flag F.PAGE_STATUS_BUSY 0x63 = true := by
  have ws : Regs.wf ((s.idbStarted b run).fsetB F.IDB_STATUS_BUSY b true).regs = true := fsetB_wf _ _ _ _ w
  have hbusy : ((s.idbStarted b run).fsetB F.IDB_STATUS_BUSY b true).flag F.IDB_STATUS_BUSY b = true :=
    flag_fsetB_same true w (idbStatus_ok hb) (by decide)
  rw [idbGo_eq]
  exact ⟨((idbBusy_agree _).flag_same (f := F.IDB_STATUS_BUSY) ws (idbStatus_ok hb) (by decide)).trans hbusy,
    idbBusy_set ws hb hbusy⟩

/-- What an order gives depends on its command and on the buffer alone. -/
theorem idbOrder_congr {M : Nat} {s t : State} {b : Nat} (run : Nat) (h : Agree M s t) (w : Regs.wf s.regs = true) (hb : b < 2)
    (hlen : s.fget F.IDB_CMD_WLEN b ≤ 256) (hcmd : M.testBit (64 + Reg.IDB_CMD.ctorIdx) = false)
    (hbuf : M.testBit (64 + Reg.IDB_BUF.ctorIdx) = false) : t.idbOrder b run = s.idbOrder b run := by
  have hfld {f : Fld} (hf : f.reg = .IDB_CMD) : t.fget f b = s.fget f b :=
    h.fget_same w (hf ▸ idbCmd_ok hb) (hf ▸ hcmd)
  have hbytes : (List.range (s.fget F.IDB_CMD_WLEN b)).map (t.idbByte b) =
      (List.range (s.fget F.IDB_CMD_WLEN b)).map (s.idbByte b) := List.map_congr_left fun i hi => by
    have hi : i < 256 := (List.mem_range.mp hi).trans_le hlen
    rw [State.idbByte, State.idbByte, h.regs w _ _ (idbBuf_ok hb hi) hbuf]
  simp only [State.idbOrder, State.idbSends, hfld (f := F.IDB_CMD_ADDR) rfl, hfld (f := F.IDB_CMD_WLEN) rfl,
    hfld (f := F.IDB_CMD_RLEN) rfl, hbytes]

section begin
variable {s : State} {q : Requester} {b : Nat} {v : Word} (w : Regs.wf s.regs = true) (hb : b < 2)
  (h : s.admits q .IDB_CMD b v = true)
include h hb

/-- A command that starts a transaction, or else a recovery. -/
theorem writeReg_idbCmd {run : Nat} (hv : (run = 1 ∧ bits v 31 1 = 1) ∨ (run = 2 ∧ bits v 31 1 = 0 ∧ bits v 30 1 = 1)) :
    s.writeReg q .IDB_CMD b v = s.taken ((s.merged .IDB_CMD b v).idbGo b run) := by
  refine (writeReg_unstaged (f := fun t => if bits v 31 1 = 1 then t.idbGo b 1 else if bits v 30 1 = 1 then t.idbGo b 2 else t)
    (idbCmd_ok hb) h rfl (by decide) rfl).trans ?_
  rcases hv with ⟨rfl, hstart⟩ | ⟨rfl, hno, hrec⟩
  · simp only [hstart, if_true]
  · simp only [hno, hrec, if_true]
    rfl

include w

/-- A command that the page takes writes at most 256 bytes. -/
theorem merged_wlen : (s.merged .IDB_CMD b v).fget F.IDB_CMD_WLEN b ≤ 256 := by
  have hlen : bits v 7 9 ≤ 256 := by
    have hres : wordReserved .IDB_CMD b v = false := by
      simp only [State.admits, Bool.and_eq_true, Bool.not_eq_true'] at h
      obtain ⟨⟨⟨⟨-, hres⟩, -⟩, -⟩, -⟩ := h
      exact hres
    have hfield := List.any_eq_false.mp hres ⟨"WLEN", 7, 9, .rw, 0, [(257, 511)]⟩ (by decide)
    have hlt : bits v 7 9 < 2 ^ 9 := Nat.mod_lt _ (by decide)
    simp [Acc.writable, fieldReserved, inRanges] at hfield
    omega
  refine le_of_eq_of_le ?_ hlen
  exact (congrArg (bits · 7 9) (merged_reg v w (idbCmd_ok hb))).trans
    (bits_mergeWord (f := ⟨"WLEN", 7, 9, .rw, 0, [(257, 511)]⟩) _ v (by decide) (fun _ _ => rfl))

/-- Controller `b` runs what the command orders, and is busy. -/
theorem writeReg_idbGo {run : Nat} (hv : (run = 1 ∧ bits v 31 1 = 1) ∨ (run = 2 ∧ bits v 31 1 = 0 ∧ bits v 30 1 = 1)) :
    (s.writeReg q .IDB_CMD b v).idb = setAt IdBus.idle s.idb b ((s.writeReg q .IDB_CMD b v).idbOrder b run) ∧
      (s.writeReg q .IDB_CMD b v).flag F.IDB_STATUS_BUSY b = true ∧
      (s.writeReg q .IDB_CMD b v).flag F.PAGE_STATUS_BUSY 0x63 = true := by
  have hlen := merged_wlen w hb h
  have hidb : (s.merged .IDB_CMD b v).idb = s.idb := setReg_idb _ _ _ _
  rw [writeReg_idbCmd hb h hv]
  have wm := merged_wf .IDB_CMD b v w
  generalize s.merged .IDB_CMD b v = m at hlen hidb wm ⊢
  have hgo := idbGo_agree m b run
  have wg := hgo.regsWf wm
  have ht := taken_agree s (m.idbGo b run)
  obtain ⟨hbusy, hpage⟩ := idbGo_busy run wm hb
  have hgoLen : (m.idbGo b run).fget F.IDB_CMD_WLEN b ≤ 256 := by
    rwa [hgo.fget_same (f := F.IDB_CMD_WLEN) wm (idbCmd_ok hb) (by decide)]
  have hbegun : (m.idbGo b run).idbOrder b run = (m.idbStarted b run).idbOrder b run :=
    idbOrder_congr run hgo wm hb hlen (by decide) (by decide)
  have horder : (s.taken (m.idbGo b run)).idbOrder b run = m.idbOrder b run :=
    (idbOrder_congr run ht wg hb hgoLen (by decide) (by decide)).trans hbegun
  refine ⟨?_, (ht.flag_same (f := F.IDB_STATUS_BUSY) wg (idbStatus_ok hb) (by decide)).trans hbusy,
    (ht.flag_same (f := F.PAGE_STATUS_BUSY) wg (pageStatus_ok (by decide)) (by decide)).trans hpage⟩
  rw [horder, ht.idb_same (by decide), hgo.idb_same (by decide), State.idbStarted, hidb]

end begin

/-! ### The end (R92, R93) -/

/-- The controller runs nothing more, and its commands read 0. -/
def State.idbQuiet (s : State) (b : Nat) : State :=
  (State.fsetB { s with idb := setAt IdBus.idle s.idb b { s.idbAt b with run := 0 } } F.IDB_CMD_START b false).fsetB
    F.IDB_CMD_RECOVER b false

/-- Neither it nor, on its account, its page is busy. -/
def State.idbStopped (s : State) (b : Nat) : State := ((s.idbQuiet b).fsetB F.IDB_STATUS_BUSY b false).idbBusy

/-- The flag of the outcome, if there is one, with its interrupt. -/
def State.idbFlagged (s : State) (b : Nat) (o : Option Fld) : State :=
  match o with
  | some f => (s.fsetB f b true).irq 0x63 (2 + b)
  | none => s

/-- DONE, with its interrupt. -/
def State.idbFinished (s : State) (b : Nat) : State := (s.fsetB F.IDB_STATUS_DONE b true).irq 0x63 b

theorem idbEnd_eq (s : State) (b : Nat) (o : Option Fld) :
    s.idbEnd b o = ((s.idbStopped b).idbFlagged b o).idbFinished b := rfl

/-- A flag of IDB_STATUS that an outcome sets beside DONE. -/
def Fld.isOutcome (f : Fld) : Prop := f.reg = .IDB_STATUS ∧ f.width = 1 ∧ 1 ≤ f.lo ∧ f.lo ≤ 6

/-- What a controller and its commands touch. -/
def idbQuietMask : Nat := 1 <<< 18 ||| 1 <<< (64 + Reg.IDB_CMD.ctorIdx)

/-- What the flags of an outcome touch. -/
def idbFlagMask : Nat := pulseMask ||| 1 <<< (64 + Reg.IDB_STATUS.ctorIdx)

theorem idbQuiet_agree (s : State) (b : Nat) : Agree idbQuietMask s (s.idbQuiet b) :=
  (((Agree.refl _ s).set_idb (by decide) _).fsetB (f := F.IDB_CMD_START) (by decide) _ _).fsetB (f := F.IDB_CMD_RECOVER)
    (by decide) _ _

theorem idbStopped_agree (s : State) (b : Nat) : Agree idbGoMask (s.idbQuiet b) (s.idbStopped b) :=
  State.idbBusy_touch (by decide) ((Agree.refl _ (s.idbQuiet b)).fsetB (f := F.IDB_STATUS_BUSY) (by decide) _ _)

theorem idbStopped_wf {s : State} (b : Nat) (w : Regs.wf s.regs = true) : Regs.wf (s.idbStopped b).regs = true :=
  (idbStopped_agree s b).regsWf ((idbQuiet_agree s b).regsWf w)

theorem idbFlagged_agree (s : State) (b : Nat) {o : Option Fld} (ho : ∀ f ∈ o, f.isOutcome) :
    Agree idbFlagMask s (s.idbFlagged b o) := by
  cases o with
  | none => exact .refl _ s
  | some f =>
    obtain ⟨hreg, -⟩ := ho f rfl
    exact State.irq_touch (by decide) ((Agree.refl _ s).fsetB (f := f) (by rw [hreg]; decide) _ _)

theorem idbFinished_agree (s : State) (b : Nat) : Agree idbFlagMask s (s.idbFinished b) :=
  State.irq_touch (by decide) ((Agree.refl _ s).fsetB (f := F.IDB_STATUS_DONE) (by decide) _ _)

/-- The flags of an outcome, after the stop. -/
theorem idbEnd_agree (s : State) (b : Nat) {o : Option Fld} (ho : ∀ f ∈ o, f.isOutcome) :
    Agree idbFlagMask (s.idbStopped b) (s.idbEnd b o) :=
  (idbFlagged_agree _ b ho).trans (idbFinished_agree _ b)

section stop
variable {s : State} {b : Nat} (w : Regs.wf s.regs = true) (hb : b < 2)
include w hb

theorem idbQuiet_flags :
    (s.idbQuiet b).flag F.IDB_CMD_START b = false ∧ (s.idbQuiet b).flag F.IDB_CMD_RECOVER b = false := by
  have ok := idbCmd_ok hb
  unfold State.idbQuiet
  generalize hu : ({ s with idb := setAt IdBus.idle s.idb b { s.idbAt b with run := 0 } } : State) = u
  have wu : Regs.wf u.regs = true := by rw [← hu]; exact w
  have wa := fsetB_wf u F.IDB_CMD_START b false wu
  refine ⟨?_, flag_fsetB_same false wa ok (by decide)⟩
  rw [flag_fsetB_field (f := F.IDB_CMD_RECOVER) (g := F.IDB_CMD_START) false wa ok rfl (by decide)]
  exact flag_fsetB_same false wu ok (by decide)

theorem idbStopped_busy : (s.idbStopped b).flag F.IDB_STATUS_BUSY b = false := by
  have wq := (idbQuiet_agree s b).regsWf w
  rw [State.idbStopped, (idbBusy_agree _).flag_same (f := F.IDB_STATUS_BUSY) (fsetB_wf _ _ _ _ wq) (idbStatus_ok hb) (by decide)]
  exact flag_fsetB_same false wq (idbStatus_ok hb) (by decide)

/-- A stop leaves the fields of IDB_STATUS above BUSY. -/
theorem idbStopped_field {g : Fld} (hreg : g.reg = .IDB_STATUS) (hlo : 8 ≤ g.lo) :
    (s.idbStopped b).fget g b = s.fget g b := by
  have ok := idbStatus_ok hb
  have hquiet := idbQuiet_agree s b
  have wq := hquiet.regsWf w
  rw [State.idbStopped, (idbBusy_agree _).fget_same (fsetB_wf _ _ _ _ wq) (hreg ▸ ok) (by rw [hreg]; decide)]
  exact (fget_fset_field _ F.IDB_STATUS_BUSY g b _ wq ok hreg (Or.inr hlo)).trans
    (hquiet.fget_same w (hreg ▸ ok) (by rw [hreg]; decide))

end stop

section flags
variable {s : State} {b : Nat} (w : Regs.wf s.regs = true) (hb : b < 2)
include w hb

/-- DONE with its interrupt leaves the other fields of IDB_STATUS. -/
theorem idbFinished_field {g : Fld} (hreg : g.reg = .IDB_STATUS) (hlo : 1 ≤ g.lo) :
    (s.idbFinished b).fget g b = s.fget g b := by
  have ok := idbStatus_ok hb
  rw [State.idbFinished, (irq_agree _ _ _).fget_same (fsetB_wf _ _ _ _ w) (hreg ▸ ok) (by rw [hreg]; decide)]
  exact fget_fset_field s F.IDB_STATUS_DONE g b _ w ok hreg (Or.inr hlo)

theorem idbFinished_sets :
    (s.idbFinished b).flag F.IDB_STATUS_DONE b = true ∧ (s.idbFinished b).fbit F.PAGE_IRQ_SOURCES 0x63 b = true := by
  have ok := idbStatus_ok hb
  have wd := fsetB_wf s F.IDB_STATUS_DONE b true w
  refine ⟨?_, irq_sets wd (by decide) (by decide) (by omega)⟩
  rw [State.idbFinished, (irq_agree _ _ _).flag_same (f := F.IDB_STATUS_DONE) wd ok (by decide)]
  exact flag_fsetB_same true w ok (by decide)

theorem idbFlagged_sets {f : Fld} (hf : f.isOutcome) : (s.idbFlagged b (some f)).flag f b = true := by
  obtain ⟨hreg, hwidth, -, hhi⟩ := hf
  have ok : f.reg.ok b = true := hreg ▸ idbStatus_ok hb
  exact ((irq_agree _ _ _).flag_same (fsetB_wf _ _ _ _ w) ok (by rw [hreg]; decide)).trans
    (flag_fsetB_same true w ok (by omega))

/-- The flag of an outcome leaves the fields of IDB_STATUS above the flags. -/
theorem idbFlagged_field {o : Option Fld} (ho : ∀ f ∈ o, f.isOutcome) {g : Fld} (hreg : g.reg = .IDB_STATUS) (hlo : 7 ≤ g.lo) :
    (s.idbFlagged b o).fget g b = s.fget g b := by
  cases o with
  | none => rfl
  | some f =>
    obtain ⟨hf, hwidth, -, hhi⟩ := ho f rfl
    exact ((irq_agree _ _ _).fget_same (fsetB_wf _ _ _ _ w) (hreg ▸ idbStatus_ok hb) (by rw [hreg]; decide)).trans
      (fget_fset_field s f g b _ w (hf ▸ idbStatus_ok hb) (hreg.trans hf.symm) (by omega))

end flags

/-- In `t` what controller `b` ran in `s` has ended, with DONE and its interrupt. -/
def State.idbEnded (s t : State) (b : Nat) : Prop :=
  t.idb = setAt IdBus.idle s.idb b { s.idbAt b with run := 0 } ∧ t.flag F.IDB_STATUS_BUSY b = false ∧
    t.flag F.IDB_CMD_START b = false ∧ t.flag F.IDB_CMD_RECOVER b = false ∧ t.flag F.IDB_STATUS_DONE b = true ∧
    t.fbit F.PAGE_IRQ_SOURCES 0x63 b = true

/-- What has ended since `u` has ended since a state whose controllers run the same. -/
theorem State.idbEnded.of_idb {s t u : State} {b : Nat} (h : u.idbEnded t b) (hidb : u.idb = s.idb) : s.idbEnded t b := by
  rwa [State.idbEnded, State.idbAt, hidb] at h

section ends
variable {s : State} {b : Nat} (w : Regs.wf s.regs = true) (hb : b < 2)
include w hb

theorem idbEnd_ended {o : Option Fld} (ho : ∀ f ∈ o, f.isOutcome) : s.idbEnded (s.idbEnd b o) b := by
  have wq := (idbQuiet_agree s b).regsWf w
  have ws := idbStopped_wf b w
  have hend := idbEnd_agree s b ho
  have wf := (idbFlagged_agree (s.idbStopped b) b ho).regsWf ws
  have hstop := idbStopped_agree s b
  obtain ⟨hstart, hrec⟩ := idbQuiet_flags w hb
  obtain ⟨hdone, hirq⟩ := idbFinished_sets wf hb
  have hcmd {f : Fld} (hf : f.reg = .IDB_CMD) : (s.idbEnd b o).flag f b = (s.idbQuiet b).flag f b :=
    (hend.flag_same ws (hf ▸ idbCmd_ok hb) (by rw [hf]; decide)).trans
      (hstop.flag_same wq (hf ▸ idbCmd_ok hb) (by rw [hf]; decide))
  refine ⟨?_, ?_, (hcmd rfl).trans hstart, (hcmd rfl).trans hrec, hdone, hirq⟩
  · rw [hend.idb_same (by decide), hstop.idb_same (by decide), State.idbQuiet, fsetB_idb, fsetB_idb]
  · rw [State.flag, idbEnd_eq, idbFinished_field wf hb rfl (by decide), idbFlagged_field ws hb ho rfl (by decide)]
    exact idbStopped_busy w hb

/-- An outcome sets its flag. -/
theorem idbEnd_flag {f : Fld} (hf : f.isOutcome) : (s.idbEnd b (some f)).flag f b = true := by
  have ho : ∀ x ∈ some f, x.isOutcome := fun x hx => Option.mem_some.mp hx ▸ hf
  have ws := idbStopped_wf b w
  have wf := (idbFlagged_agree (s.idbStopped b) b ho).regsWf ws
  have hset := idbFlagged_sets ws hb hf
  obtain ⟨hreg, -, hlo, -⟩ := hf
  rwa [State.flag, idbEnd_eq, idbFinished_field wf hb hreg hlo]

/-- The end of a run leaves the fields of IDB_STATUS above BUSY. -/
theorem idbEnd_field {o : Option Fld} (ho : ∀ f ∈ o, f.isOutcome) {g : Fld} (hreg : g.reg = .IDB_STATUS) (hlo : 8 ≤ g.lo) :
    (s.idbEnd b o).fget g b = s.fget g b := by
  have ws := idbStopped_wf b w
  have wf := (idbFlagged_agree (s.idbStopped b) b ho).regsWf ws
  rw [idbEnd_eq, idbFinished_field wf hb hreg (by omega), idbFlagged_field ws hb ho hreg (by omega), idbStopped_field w hb hreg hlo]

/-- The end of a run leaves the buffer. -/
theorem idbEnd_byte {o : Option Fld} (ho : ∀ f ∈ o, f.isOutcome) {k : Nat} (hk : k < 256) :
    (s.idbEnd b o).idbByte b k = s.idbByte b k := by
  have ok := idbBuf_ok hb hk
  rw [State.idbByte, State.idbByte, (idbEnd_agree s b ho).regs (idbStopped_wf b w) _ _ ok (by decide),
    (idbStopped_agree s b).regs ((idbQuiet_agree s b).regsWf w) _ _ ok (by decide),
    (idbQuiet_agree s b).regs w _ _ ok (by decide)]

end ends

/-! ### The bytes read -/

/-- Byte `x` stands at `i` in the buffer of controller `b`. -/
def State.idbPut (s : State) (b i : Nat) (x : Byte) : State :=
  s.setReg .IDB_BUF (64 * b + i / 4) (withBits (s.reg .IDB_BUF (64 * b + i / 4)) (8 * (i % 4)) 8 x.toNat)

theorem idbByte_idbPut {s : State} {b k : Nat} (i : Nat) (x : Byte) (w : Regs.wf s.regs = true) (hb : b < 2) (hk : k < 256) :
    (s.idbPut b i x).idbByte b k = if k = i then x else s.idbByte b k := by
  have ok := idbBuf_ok hb hk
  unfold State.idbByte State.idbPut
  by_cases hword : k / 4 = i / 4
  · rw [← hword, reg_setReg_same _ _ _ _ w ok]
    split
    next h =>
      rw [← h, bits_withBits_same _ _ _ _ (by omega), Nat.mod_eq_of_lt x.isLt]
      exact BitVec.ofNat_toNat ..
    next h => rw [bits_withBits_other _ _ _ _ _ _ (by omega)]
  · rw [reg_setReg_ne _ _ w ok (Or.inr (by omega)), if_neg (fun h => hword (congrArg (· / 4) h))]

/-- Bytes stored one after the other from `i` on. -/
def State.idbStoreFrom (s : State) (b i : Nat) (bs : List Byte) : State :=
  forEach ((List.range' i bs.length).zip bs) (fun x s => s.idbPut b x.1 x.2) s

theorem idbStore_eq (s : State) (b : Nat) (bs : List Byte) : s.idbStore b bs = s.idbStoreFrom b 0 bs := by
  rw [State.idbStore, State.idbStoreFrom, List.range_eq_range']
  rfl

theorem idbStoreFrom_cons (s : State) (b i : Nat) (x : Byte) (bs : List Byte) :
    s.idbStoreFrom b i (x :: bs) = (s.idbPut b i x).idbStoreFrom b (i + 1) bs := rfl

theorem idbStore_agree (s : State) (b : Nat) (bs : List Byte) :
    Agree (1 <<< (64 + Reg.IDB_BUF.ctorIdx)) s (s.idbStore b bs) := State.idbStore_touch (by decide) (.refl _ s)

theorem idbByte_idbStoreFrom {s : State} {b k : Nat} (i : Nat) (bs : List Byte) (w : Regs.wf s.regs = true) (hb : b < 2)
    (hk : k < 256) :
    (s.idbStoreFrom b i bs).idbByte b k = if i ≤ k ∧ k < i + bs.length then bs.getD (k - i) 0 else s.idbByte b k := by
  induction bs generalizing s i with
  | nil => exact (if_neg (by simp only [List.length_nil]; omega)).symm
  | cons x bs ih =>
    have wp : Regs.wf (s.idbPut b i x).regs = true := setReg_wf _ _ _ _ w
    rw [idbStoreFrom_cons, ih (i + 1) wp, idbByte_idbPut i x w hb hk, List.length_cons]
    by_cases hki : k = i
    · rw [hki, if_neg (by omega), if_pos rfl, if_pos (by omega), Nat.sub_self, List.getD_cons_zero]
    · rw [if_neg hki]
      by_cases hin : i + 1 ≤ k ∧ k < i + 1 + bs.length
      · rw [if_pos hin, if_pos (by omega), show k - i = k - (i + 1) + 1 by omega, List.getD_cons_succ]
      · rw [if_neg hin, if_neg (by omega)]

/-- The bytes of a read phase stand in the buffer, in order. -/
theorem idbByte_idbStore {s : State} {b k : Nat} {bs : List Byte} (w : Regs.wf s.regs = true) (hb : b < 2) (hk : k < 256)
    (hlen : k < bs.length) : (s.idbStore b bs).idbByte b k = bs.getD k 0 := by
  rw [idbStore_eq, idbByte_idbStoreFrom 0 bs w hb hk, if_pos (by omega), Nat.sub_zero]

theorem bits_of_idbByte {s : State} {b k : Nat} {x : Byte} (h : s.idbByte b k = x) :
    bits (s.reg .IDB_BUF (64 * b + k / 4)) (8 * (k % 4)) 8 = x.toNat := by
  rw [← h, State.idbByte, BitVec.toNat_ofNat]
  exact (Nat.mod_eq_of_lt (Nat.mod_lt _ (by decide))).symm

/-! ### The outcomes -/

section outcome
variable {s : State} {b : Nat}

theorem idbDone_reads {bytes : List Byte} (hrun : (s.idbAt b).run = 1) (hlen : bytes.length = (s.idbAt b).rlen) :
    s.idbDone b (.done bytes) = (s.idbStore b bytes).idbEnd b none := by
  unfold State.idbAt at hrun hlen
  simp only [State.idbDone, hrun, hlen, if_true]

theorem idbDone_nackAddr (hrun : (s.idbAt b).run = 1) : s.idbDone b .nackAddr = s.idbEnd b (some F.IDB_STATUS_NACK_ADDR) := by
  unfold State.idbAt at hrun
  simp only [State.idbDone, hrun, if_true]

theorem idbDone_arbLost (hrun : (s.idbAt b).run = 1) : s.idbDone b .arbLost = s.idbEnd b (some F.IDB_STATUS_ARB_LOST) := by
  unfold State.idbAt at hrun
  simp only [State.idbDone, hrun, if_true]

theorem idbDone_nackData {i : Nat} (hrun : (s.idbAt b).run = 1) (hi : i < (s.idbAt b).wlen) :
    s.idbDone b (.nackData i) = (s.fset F.IDB_STATUS_INDEX b i).idbEnd b (some F.IDB_STATUS_NACK_DATA) := by
  unfold State.idbAt at hrun hi
  simp only [State.idbDone, hrun, hi, if_true]

theorem idbDone_recovers (bytes : List Byte) (hrun : (s.idbAt b).run = 2) : s.idbDone b (.done bytes) = s.idbEnd b none := by
  unfold State.idbAt at hrun
  simp only [State.idbDone, hrun, if_true]
  rfl

theorem idbDone_stuck (hrun : (s.idbAt b).run = 2) : s.idbDone b .stuck = s.idbEnd b (some F.IDB_STATUS_STUCK) := by
  unfold State.idbAt at hrun
  simp only [State.idbDone, hrun, if_true]
  rfl

theorem idbStretch_ends (hrun : (s.idbAt b).run ≠ 0) (hlimit : s.fget F.IDB_CFG_STRETCH_MS b ≠ 0) :
    s.idbStretch b = s.idbEnd b (some F.IDB_STATUS_TIMEOUT) := if_neg (not_or.mpr ⟨hrun, hlimit⟩)

variable (w : Regs.wf s.regs = true) (hb : b < 2)
include w hb

/-- A run that ends without an error. -/
theorem idbEnd_quiet : s.idbEnded (s.idbEnd b none) b := idbEnd_ended w hb (by simp)

/-- A run that ends with one. -/
theorem idbEnd_with {f : Fld} (hf : f.isOutcome) :
    s.idbEnded (s.idbEnd b (some f)) b ∧ (s.idbEnd b (some f)).flag f b = true :=
  ⟨idbEnd_ended w hb (fun _ hx => Option.mem_some.mp hx ▸ hf), idbEnd_flag w hb hf⟩

/-- The transaction completes with the bytes of its read phase. -/
theorem idbEnd_stored (bytes : List Byte) :
    s.idbEnded ((s.idbStore b bytes).idbEnd b none) b ∧ ∀ k, k < bytes.length → k < 256 →
      bits (((s.idbStore b bytes).idbEnd b none).reg .IDB_BUF (64 * b + k / 4)) (8 * (k % 4)) 8 = (bytes.getD k 0).toNat := by
  have hstore := idbStore_agree s b bytes
  have ws := hstore.regsWf w
  refine ⟨(idbEnd_quiet ws hb).of_idb (hstore.idb_same (by decide)), fun k hlen hk => bits_of_idbByte ?_⟩
  rw [idbEnd_byte ws hb (by simp) hk, idbByte_idbStore w hb hk hlen]

/-- The transaction ends at byte `i` of its write phase. -/
theorem idbEnd_at {i : Nat} (hi : i < 512) :
    let t := (s.fset F.IDB_STATUS_INDEX b i).idbEnd b (some F.IDB_STATUS_NACK_DATA)
    s.idbEnded t b ∧ t.flag F.IDB_STATUS_NACK_DATA b = true ∧ t.fget F.IDB_STATUS_INDEX b = i := by
  have wi := fset_wf s F.IDB_STATUS_INDEX b i w
  have hf : F.IDB_STATUS_NACK_DATA.isOutcome := ⟨rfl, rfl, by decide, by decide⟩
  obtain ⟨hended, hflag⟩ := idbEnd_with wi hb hf
  refine ⟨hended.of_idb (fset_idb _ _ _ _), hflag, ?_⟩
  rw [idbEnd_field wi hb (fun _ hx => Option.mem_some.mp hx ▸ hf) rfl (by decide)]
  exact (fget_fset_same s F.IDB_STATUS_INDEX b i w (idbStatus_ok hb) (by decide)).trans (Nat.mod_eq_of_lt hi)

end outcome

/-! ### The statement -/

/-- What a block does while its page is clocked. -/
theorem next_clocked {s t : State} {p : Nat} {f : State → State} (hlive : s.pageLive p = true) (ht : f s = t) :
    (.next (s.clocked p f) : Host.Outcome State Fault Refusal) = .next t := congrArg Host.Outcome.next ((if_pos hlive).trans ht)

/-- Settles O50: each command is a write whose effect is that of its register, or an event of its block that runs. -/
theorem inputArray : Obligations.InputArray := by
  unfold Obligations.InputArray
  intro s q v hwf
  have w : Regs.wf s.regs = true := State.wf_regs hwf
  refine ⟨fun h => ?_, fun h => ⟨_, rfl, writeReg_grpPower w h⟩, fun hlive => ⟨fun hst => ?_, fun g hen => ?_⟩,
    fun g => ?_, fun b => ?_⟩
  · refine ⟨_, rfl, writeReg_run w h, ?_, ?_⟩
    · exact fun hold hv hclock hmode => writeReg_run_rises w h hold hv hclock hmode
    · exact fun hold hv => writeReg_run_falls w h hold hv
  · exact ⟨_, next_clocked hlive (alignHoldover_eq hlive hst), setAlign_state w (by decide), setAlign_irq w (by omega)⟩
  · obtain ⟨-, hframe⟩ := groupReady_frame s g w
    exact ⟨_, next_clocked hlive rfl, groupReady_ready w g.isLt hlive hen, hframe⟩
  · refine ⟨fun level => ⟨_, rfl, rfl, rfl⟩, fun hlive hcount => ?_, fun h hv => ?_, fun r hlive hr hst => ?_⟩
    · exact ⟨_, next_clocked hlive rfl, presence_effect w g.isLt hcount⟩
    · exact ⟨_, rfl, fun hst => idCommit_refuses w h hv hst, fun hst => idCommit_takes w h hv hst⟩
    · exact ⟨_, next_clocked hlive rfl, commitDone_modules w g.isLt hr hst,
        commitDone_passes w g.isLt hr hst, commitDone_fails w g.isLt hr hst⟩
  · have hb : b.val < 2 := b.isLt
    refine ⟨fun h => ?_, fun h => ?_, fun hlive hrun => ⟨fun bytes hlen => ?_, ?_, ?_, fun i hi hw => ?_⟩,
      fun hlive hrun => ⟨fun bytes => ?_, ?_⟩, fun hlive hrun hlimit => ?_⟩
    · obtain ⟨hstart, -⟩ := bits_set_clear v (i := 31) (j := 30) (by decide) (by decide) (by decide)
      exact ⟨_, rfl, writeReg_idbGo w hb h (Or.inl ⟨rfl, hstart⟩)⟩
    · obtain ⟨hrec, hstart⟩ := bits_set_clear v (i := 30) (j := 31) (by decide) (by decide) (by decide)
      exact ⟨_, rfl, writeReg_idbGo w hb h (Or.inr ⟨rfl, hstart, hrec⟩)⟩
    · exact ⟨_, next_clocked hlive (idbDone_reads hrun hlen), idbEnd_stored w hb bytes⟩
    · exact ⟨_, next_clocked hlive (idbDone_nackAddr hrun), idbEnd_with w hb ⟨rfl, rfl, by decide, by decide⟩⟩
    · exact ⟨_, next_clocked hlive (idbDone_arbLost hrun), idbEnd_with w hb ⟨rfl, rfl, by decide, by decide⟩⟩
    · exact ⟨_, next_clocked hlive (idbDone_nackData hrun hw), idbEnd_at w hb hi⟩
    · exact ⟨_, next_clocked hlive (idbDone_recovers bytes hrun), idbEnd_quiet w hb⟩
    · exact ⟨_, next_clocked hlive (idbDone_stuck hrun), idbEnd_with w hb ⟨rfl, rfl, by decide, by decide⟩⟩
    · exact ⟨_, next_clocked hlive (idbStretch_ends hrun hlimit), idbEnd_with w hb ⟨rfl, rfl, by decide, by decide⟩⟩

end Sys2Proof.Machine
end

section
/-!
PROOF. Rules of the slices of the converter: what a slice that fails, a slice that calibrates and a fit that is stored leave, and
what of the converter the operations on its slices keep.
-/

namespace Sys2Proof.Machine

/-! ### Operations that reach the converter through its slices -/

/-- Within the mask `M`, and of the converter beside its registers in the slices alone, `t` differs from `s`. -/
structure SliceFrame (M : Nat) (s t : State) : Prop where
  agree : Agree M s t
  adc : t.adc = { s.adc with slices := t.adc.slices }

namespace SliceFrame
variable {M : Nat} {s t u : State}

theorem refl (M : Nat) (s : State) : SliceFrame M s s := ⟨.refl M s, rfl⟩

/-- A further change that leaves the converter beside its registers. -/
theorem step (h : SliceFrame M s t) (k : Agree M t u) (e : u.adc = t.adc) : SliceFrame M s u :=
  ⟨h.agree.trans k, by rw [e]; exact h.adc⟩

theorem setReg (h : SliceFrame M s t) {r : Reg} (hb : M.testBit (64 + r.ctorIdx) = true) (n : Nat) (v : Word) :
    SliceFrame M s (t.setReg r n v) := h.step ((Agree.refl M t).setReg hb n v) (setReg_adc _ _ _ _)

theorem irq (h : SliceFrame M s t) (hM : sub pulseMask M = true) (p b : Nat) : SliceFrame M s (t.irq p b) :=
  h.step ((irq_agree t p b).mono hM) ((irq_agree t p b).adc_same (by decide))

theorem setSlice (h : SliceFrame M s t) (hb : M.testBit 20 = true) (p : Nat) (x : Slice) : SliceFrame M s (t.setSlice p x) :=
  ⟨h.agree.set_adc hb _, by rw [State.setSlice, h.adc]⟩

theorem trans (h : SliceFrame M s t) (k : SliceFrame M t u) : SliceFrame M s u :=
  ⟨h.agree.trans k.agree, by rw [k.adc, h.adc]⟩

theorem ite {c : Prop} [Decidable c] (h : SliceFrame M s t) (k : SliceFrame M s u) : SliceFrame M s (if c then t else u) := by
  split
  · exact h
  · exact k

theorem forEach {α : Type} {f : α → State → State} (hf : ∀ x t, SliceFrame M t (f x t)) (xs : List α) (s : State) :
    SliceFrame M s (forEach xs f s) := by
  unfold Sys2Proof.Machine.forEach
  induction xs generalizing s with
  | nil => exact .refl M s
  | cons x xs ih => exact (hf x s).trans (ih (f x s))

end SliceFrame

/-! ### The registers of a slice -/

theorem adcSlice_ok {p : Nat} (hp : p < 9) : Reg.ADC_SLICE.ok p = true := ok_of_lt hp (by decide) (by decide)

theorem adccalCtrl_ok {p : Nat} (hp : p < 9) : Reg.ADCCAL_CTRL.ok p = true := ok_of_lt hp (by decide) (by decide)

theorem adccalStatus_ok {p : Nat} (hp : p < 9) : Reg.ADCCAL_STATUS.ok p = true := ok_of_lt hp (by decide) (by decide)

theorem adccalOffset_ok {n : Nat} (hn : n < 18) : Reg.ADCCAL_OFFSET.ok n = true := ok_of_lt hn (by decide) (by decide)

theorem adccalGain_ok {n : Nat} (hn : n < 18) : Reg.ADCCAL_GAIN.ok n = true := ok_of_lt hn (by decide) (by decide)

/-- A state stored is the state of its slice and of no other. -/
theorem sliceState_fset {s : State} {p q x : Nat} (w : Regs.wf s.regs = true) (hp : p < 9) (hq : q < 9) (hx : x < 8) :
    (s.fset F.ADC_SLICE_STATE p x).sliceState q = if q = p then x else s.sliceState q := by
  split
  next e => rw [e]; exact (fget_fset_same s F.ADC_SLICE_STATE p x w (adcSlice_ok hp) (by decide)).trans (Nat.mod_eq_of_lt hx)
  next e => exact fget_fset_ne s F.ADC_SLICE_STATE F.ADC_SLICE_STATE p q x w (adcSlice_ok hq) (Or.inr e)

theorem Agree.sliceState_same {M : Nat} {s t : State} (h : Agree M s t) (w : Regs.wf s.regs = true)
    (hb : M.testBit (64 + Reg.ADC_SLICE.ctorIdx) = false) {p : Nat} (hp : p < 9) : t.sliceState p = s.sliceState p :=
  h.fget_same (f := F.ADC_SLICE_STATE) w (adcSlice_ok hp) hb

/-! ### The spare slice (R111) -/

/-- What the marks of the spare slice may touch. -/
def spareMask : Nat := 1 <<< (64 + Reg.ADC_STATUS.ctorIdx) ||| 1 <<< (64 + Reg.ADC_ROT.ctorIdx)

theorem showSpare_agree (s : State) : Agree spareMask s s.showSpare := State.showSpare_touch (by decide) (.refl _ s)

/-- INIT_DONE stands beside the marks of the spare slice. -/
theorem showSpare_initDone {s : State} (w : Regs.wf s.regs = true) :
    s.showSpare.flag F.ADC_STATUS_INIT_DONE = s.flag F.ADC_STATUS_INIT_DONE := by
  unfold State.showSpare
  extract_lets out spare
  have ws := fsetB_wf s F.ADC_STATUS_NO_SPARE 0 (out == []) w
  exact (congrArg (· != 0) (fget_fset_ne _ F.ADC_ROT_SPARE F.ADC_STATUS_INIT_DONE 0 0 _ ws (by decide) (Or.inl (by decide)))).trans
    (flag_fsetB_field (g := F.ADC_STATUS_INIT_DONE) _ w (by decide) rfl (by decide))

/-! ### Ignored writes and swaps (R104, R105) -/

/-- What an ignored table write may touch. -/
def ignoredMask : Nat := pulseMask ||| 1 <<< (64 + Reg.ADCCAL_STATUS.ctorIdx)

theorem wrIgnored_agree (s : State) (p : Nat) : Agree ignoredMask s (s.wrIgnored p) := State.wrIgnored_touch (by decide) (.refl _ s)

theorem wrIgnored_flag {s : State} {p : Nat} (w : Regs.wf s.regs = true) (hp : p < 9) :
    (s.wrIgnored p).flag F.ADCCAL_STATUS_WR_IGNORED p = true := by
  rw [State.wrIgnored, (irq_agree _ _ _).flag_same (f := F.ADCCAL_STATUS_WR_IGNORED) (fsetB_wf _ _ _ _ w) (adccalStatus_ok hp)
    (by decide)]
  exact flag_fsetB_same true w (adccalStatus_ok hp) (by decide)

theorem wrIgnored_irq {s : State} (p : Nat) (w : Regs.wf s.regs = true) :
    (s.wrIgnored p).fbit F.PAGE_IRQ_SOURCES 0x22 1 = true :=
  irq_sets (fsetB_wf _ _ _ _ w) (by decide) (by decide) (by decide)

theorem swapIgnored_flag {s : State} {p : Nat} (w : Regs.wf s.regs = true) (hp : p < 9) :
    (s.swapIgnored p).flag F.ADCCAL_CTRL_SWAP p = false := by
  rw [State.swapIgnored, (wrIgnored_agree _ p).flag_same (f := F.ADCCAL_CTRL_SWAP) (fsetB_wf _ _ _ _ w) (adccalCtrl_ok hp)
    (by decide)]
  exact flag_fsetB_same false w (adccalCtrl_ok hp) (by decide)

/-! ### A slice that calibrates -/

/-- What the beginning of calibration may touch, and the failure of a slice that is retired. -/
def calMask : Nat :=
  ignoredMask ||| 1 <<< 20 ||| 1 <<< (64 + Reg.ADC_SLICE.ctorIdx) ||| 1 <<< (64 + Reg.ADCCAL_CTRL.ctorIdx)

/-- The slice with a pending SWAP dropped. -/
def State.swapDropped (s : State) (p : Nat) : State := if s.flag F.ADCCAL_CTRL_SWAP p then s.swapIgnored p else s

theorem swapDropped_agree (s : State) (p : Nat) :
    Agree (ignoredMask ||| 1 <<< (64 + Reg.ADCCAL_CTRL.ctorIdx)) s (s.swapDropped p) :=
  .ite (State.swapIgnored_touch (by decide) (.refl _ s)) (.refl _ s)

theorem startCal_eq (s : State) (p : Nat) :
    s.startCal p = ((s.swapDropped p).fset F.ADC_SLICE_STATE p 2).setSlice p
      { ((s.swapDropped p).fset F.ADC_SLICE_STATE p 2).slice p with fails := 0, running := true, passed := none } := rfl

theorem startCal_frame (s : State) (p : Nat) : SliceFrame calMask s (s.startCal p) := by
  have hdrop := swapDropped_agree s p
  have h : SliceFrame calMask s (s.swapDropped p) :=
    (SliceFrame.refl _ s).step (hdrop.mono (by decide)) (hdrop.adc_same (by decide))
  rw [startCal_eq]
  exact (h.setReg (r := .ADC_SLICE) (by decide) p _).setSlice (by decide) p _

theorem startCal_state {s : State} {p q : Nat} (w : Regs.wf s.regs = true) (hp : p < 9) (hq : q < 9) :
    (s.startCal p).sliceState q = if q = p then 2 else s.sliceState q := by
  have hdrop := swapDropped_agree s p
  rw [← hdrop.sliceState_same w (by decide) hq]
  exact sliceState_fset (hdrop.regsWf w) hp hq (by decide)

/-! ### A slice that fails (R107) -/

/-- The slice stands FAILED, with its interrupt, and runs no more. -/
def State.sliceFailed (s : State) (p : Nat) : State :=
  let t := (s.fset F.ADC_SLICE_STATE p 4).irq 0x21 4
  t.setSlice p { t.slice p with running := false, passed := none }

theorem failSlice_retired (s : State) (p : Nat) : s.failSlice p false = s.sliceFailed p := rfl

theorem failSlice_darned (s : State) (p : Nat) :
    s.failSlice p true = ((s.sliceFailed p).fsetBit F.DARN_RETIRED_SLICES 0 p true).darnDone 1 2 p 0 := rfl

theorem sliceFailed_frame (s : State) (p : Nat) : SliceFrame calMask s (s.sliceFailed p) :=
  (((SliceFrame.refl calMask s).setReg (r := .ADC_SLICE) (by decide) p _).irq (by decide) 0x21 4).setSlice (by decide) p _

theorem sliceFailed_reg {s : State} {p n : Nat} {r : Reg} (w : Regs.wf s.regs = true) (ok : r.ok n = true)
    (hr : pulseMask.testBit (64 + r.ctorIdx) = false) :
    (s.sliceFailed p).reg r n = (s.fset F.ADC_SLICE_STATE p 4).reg r n :=
  (irq_agree (s.fset F.ADC_SLICE_STATE p 4) 0x21 4).regs (fset_wf _ _ _ _ w) r n ok hr

theorem sliceFailed_state {s : State} {p q : Nat} (w : Regs.wf s.regs = true) (hp : p < 9) (hq : q < 9) :
    (s.sliceFailed p).sliceState q = if q = p then 4 else s.sliceState q :=
  (congrArg (bits · 0 3) (sliceFailed_reg w (adcSlice_ok hq) (by decide))).trans (sliceState_fset w hp hq (by decide))

/-! ### The darn of a slice (R449) -/

/-- The registers that show what the darn controller holds. -/
def darnShowMask : Nat :=
  0x43e00000000000000000000000000000000000000000000000000000000000000000000000000000000000000000000000000000080000000000000000

/-- What a darn that takes effect may touch. -/
def darnDoneMask : Nat := pulseMask ||| darnShowMask ||| 1 <<< 19 ||| 1 <<< (64 + Reg.DARN_STATUS.ctorIdx)

theorem darnShow_agree (s : State) : Agree darnShowMask s s.darnShow := State.darnShow_touch (by decide) (.refl _ s)

theorem darnShow_agree_of_darn (s : State) (x : Darn) : Agree (darnShowMask ||| 1 <<< 19) s { s with darn := x }.darnShow :=
  State.darnShow_touch (by decide) ((Agree.refl _ s).set_darn (by decide) x)

theorem darnLog_agree (s : State) (kind flags target repl : Nat) : Agree darnDoneMask s (s.darnLog kind flags target repl) :=
  State.darnLog_touch (by decide) (.refl _ s)

theorem darnDone_agree (s : State) (kind flags target repl : Nat) : Agree darnDoneMask s (s.darnDone kind flags target repl) :=
  State.darnDone_touch (by decide) (.refl _ s)

section darn
variable {s : State} {p : Nat} (w : Regs.wf s.regs = true) (hp : p < 256) (h8 : p ≠ 0x08) (hd : p ≠ 0x6C)
include w hp h8 hd

/-- The darn controller raises the interrupts of its own page. -/
theorem irq_darn_pageIrq (b : Nat) : (s.irq 0x6C b).reg .PAGE_IRQ p = s.reg .PAGE_IRQ p :=
  (irq_frame s 0x6C b).reg w (pageIrq_ok hp) (by simp [tapRegs, h8, hd])

theorem darnLog_pageIrq (kind flags target repl : Nat) :
    (s.darnLog kind flags target repl).reg .PAGE_IRQ p = s.reg .PAGE_IRQ p := by
  unfold State.darnLog
  split
  · rfl
  · split
    · exact (irq_darn_pageIrq (fsetB_wf _ _ _ _ w) hp h8 hd 3).trans
        (reg_setReg_ne (r := .DARN_STATUS) _ _ w (pageIrq_ok hp) (Or.inl (by decide)))
    · exact (darnShow_agree_of_darn s _).regs w _ _ (pageIrq_ok hp) (by decide)

theorem darnDone_pageIrq (kind flags target repl : Nat) :
    (s.darnDone kind flags target repl).reg .PAGE_IRQ p = s.reg .PAGE_IRQ p := by
  have wl : Regs.wf (s.darnLog kind flags target repl).regs = true := (darnLog_agree s _ _ _ _).regsWf w
  have wi := (irq_agree (s.darnLog kind flags target repl) 0x6C 1).regsWf wl
  rw [State.darnDone, (darnShow_agree _).regs wi _ _ (pageIrq_ok hp) (by decide), irq_darn_pageIrq wl hp h8 hd,
    darnLog_pageIrq w hp h8 hd]

end darn

/-! ### A fit that is stored (R106) -/

/-- The tables of the slices. -/
def tableMask : Nat :=
  1 <<< (64 + Reg.ADCCAL_OFFSET.ctorIdx) ||| 1 <<< (64 + Reg.ADCCAL_GAIN.ctorIdx) ||| 1 <<< (64 + Reg.ADCCAL_LIN.ctorIdx)

theorem putFit_agree (s : State) (p h : Nat) (f : CalFit) : Agree tableMask s (s.putFit p h f) :=
  State.putFit_touch (by decide) (.refl _ s)

/-- The offset and the gain of a fit stand in half `h` of slice `p`. -/
def State.fitStored (s : State) (p h : Nat) (f : CalFit) : State :=
  (s.setReg .ADCCAL_OFFSET (2 * p + h) (BitVec.ofNat 32 (toField 24 f.offset))).setReg .ADCCAL_GAIN (2 * p + h)
    (BitVec.ofNat 32 (f.gain % 2 ^ 24))

theorem putFit_agree_stored (s : State) (p h : Nat) (f : CalFit) :
    Agree (1 <<< (64 + Reg.ADCCAL_LIN.ctorIdx)) (s.fitStored p h f) (s.putFit p h f) :=
  (Agree.refl _ _).forEach (fun _ _ ht => ht.setReg (by decide) _ _) _

section fit
variable {s : State} {p h : Nat} (f : CalFit) (w : Regs.wf s.regs = true) (hn : 2 * p + h < 18)
include w hn

theorem putFit_offset : (s.putFit p h f).reg .ADCCAL_OFFSET (2 * p + h) = BitVec.ofNat 32 (toField 24 f.offset) := by
  have wo := setReg_wf s .ADCCAL_OFFSET (2 * p + h) (BitVec.ofNat 32 (toField 24 f.offset)) w
  have ok := adccalOffset_ok hn
  rw [(putFit_agree_stored s p h f).regs (setReg_wf _ _ _ _ wo) _ _ ok (by decide), State.fitStored,
    reg_setReg_ne _ _ wo ok (Or.inl (by decide)), reg_setReg_same _ _ _ _ w ok]

theorem putFit_gain : (s.putFit p h f).reg .ADCCAL_GAIN (2 * p + h) = BitVec.ofNat 32 (f.gain % 2 ^ 24) := by
  have wo := setReg_wf s .ADCCAL_OFFSET (2 * p + h) (BitVec.ofNat 32 (toField 24 f.offset)) w
  have ok := adccalGain_ok hn
  rw [(putFit_agree_stored s p h f).regs (setReg_wf _ _ _ _ wo) _ _ ok (by decide), State.fitStored,
    reg_setReg_same _ _ _ _ wo ok]

end fit

end Sys2Proof.Machine
end

section
/-!
PROOF. The runs of calibration and the decision of a rotation: what the end of a run leaves, and what the decision for a candidate
edge names.
-/

namespace Sys2Proof.Machine

/-! ### The end of a run (R106, R107) -/

/-- A run of slice `p` is under way and can end. -/
def State.calRuns (s : State) (p : Nat) : Prop :=
  (s.slice p).running = true ∧ (s.sliceState p = 2 ∨ s.sliceState p = 3) ∧ s.adcClock = true

/-- The run of slice `p` is counted. -/
def State.runCounted (s : State) (p : Nat) : State := s.faddSat F.ADC_SLICE_CAL_RUNS p 1

/-- The half of the table that slice `p` does not use. -/
def State.idleHalf (s : State) (p : Nat) : Nat := 1 - s.fget F.ADC_SLICE_HALF p

/-- A passing run of slice `p` has left its fit. -/
def State.runPassed (s : State) (p : Nat) (f : CalFit) : State :=
  ((s.runCounted p).setSlice p { s.slice p with fails := 0 }).putFit p ((s.runCounted p).idleHalf p) f

/-- A failing run of slice `p` is marked. -/
def State.runFailed (s : State) (p : Nat) : State := (s.fsetB F.ADC_SLICE_CAL_FAIL p true).irq 0x21 3

theorem idleHalf_le (s : State) (p : Nat) : s.idleHalf p ≤ 1 := Nat.sub_le _ _

theorem runPassed_agree (s : State) (p : Nat) (f : CalFit) : Agree (1 <<< 20 ||| tableMask) (s.runCounted p) (s.runPassed p f) :=
  State.putFit_touch (by decide) ((Agree.refl _ _).set_adc (by decide) _)

theorem runFailed_adc (s : State) (p : Nat) : (s.runFailed p).adc = s.adc :=
  ((irq_agree _ 0x21 3).adc_same (by decide)).trans (setReg_adc _ _ _ _)

section run
variable {s : State} {p : Nat} (w : Regs.wf s.regs = true) (hp : p < 9)
include w

theorem runCounted_wf : Regs.wf (s.runCounted p).regs = true := fset_wf _ _ _ _ w

theorem runPassed_wf (f : CalFit) : Regs.wf (s.runPassed p f).regs = true := (runPassed_agree s p f).regsWf (runCounted_wf w)

theorem runFailed_wf : Regs.wf (s.runFailed p).regs = true := (irq_agree _ 0x21 3).regsWf (fsetB_wf _ _ _ _ w)

theorem runFailed_irq : (s.runFailed p).fbit F.PAGE_IRQ_SOURCES 0x21 3 = true :=
  irq_sets (fsetB_wf _ _ _ _ w) (by decide) (by decide) (by decide)

include hp

/-- The count of the runs stands beside the half in use. -/
theorem runCounted_half : (s.runCounted p).fget F.ADC_SLICE_HALF p = s.fget F.ADC_SLICE_HALF p :=
  fget_fset_field s F.ADC_SLICE_CAL_RUNS F.ADC_SLICE_HALF p _ w (adcSlice_ok hp) rfl (by decide)

theorem runCounted_idleHalf : (s.runCounted p).idleHalf p = s.idleHalf p := congrArg (1 - ·) (runCounted_half w hp)

theorem runPassed_half (f : CalFit) : (s.runPassed p f).fget F.ADC_SLICE_HALF p = s.fget F.ADC_SLICE_HALF p :=
  ((runPassed_agree s p f).fget_same (f := F.ADC_SLICE_HALF) (runCounted_wf w) (adcSlice_ok hp) (by decide)).trans
    (runCounted_half w hp)

omit w in
theorem idleHalf_index : 2 * p + (s.runCounted p).idleHalf p < 18 := by
  have := idleHalf_le (s.runCounted p) p
  omega

theorem runPassed_offset (f : CalFit) :
    (s.runPassed p f).reg .ADCCAL_OFFSET (2 * p + s.idleHalf p) = BitVec.ofNat 32 (toField 24 f.offset) := by
  rw [← runCounted_idleHalf w hp]
  exact putFit_offset f (runCounted_wf w) (idleHalf_index hp)

theorem runPassed_gain (f : CalFit) :
    (s.runPassed p f).reg .ADCCAL_GAIN (2 * p + s.idleHalf p) = BitVec.ofNat 32 (f.gain % 2 ^ 24) := by
  rw [← runCounted_idleHalf w hp]
  exact putFit_gain f (runCounted_wf w) (idleHalf_index hp)

theorem runFailed_flag : (s.runFailed p).flag F.ADC_SLICE_CAL_FAIL p = true := by
  rw [State.runFailed, (irq_agree _ 0x21 3).flag_same (f := F.ADC_SLICE_CAL_FAIL) (fsetB_wf _ _ _ _ w) (adcSlice_ok hp) (by decide)]
  exact flag_fsetB_same true w (adcSlice_ok hp) (by decide)

end run

section darned
variable {s : State} {p : Nat} (w : Regs.wf s.regs = true) (hp : p < 9)
include w

theorem sliceFailed_wf : Regs.wf (s.sliceFailed p).regs = true := (sliceFailed_frame s p).agree.regsWf w

theorem failSlice_wf : Regs.wf (s.failSlice p true).regs = true := by
  rw [failSlice_darned]
  exact (darnDone_agree _ _ _ _ _).regsWf (fsetBit_wf _ _ _ _ _ (sliceFailed_wf w))

/-- The darn that a slice makes leaves the interrupts of the converter. -/
theorem failSlice_pageIrq : (s.failSlice p true).reg .PAGE_IRQ 0x21 = (s.sliceFailed p).reg .PAGE_IRQ 0x21 := by
  have wf := sliceFailed_wf (p := p) w
  rw [failSlice_darned, darnDone_pageIrq (fsetBit_wf _ _ _ _ _ wf) (by decide) (by decide) (by decide)]
  exact reg_setReg_ne (r := .DARN_RETIRED) _ _ wf (by decide) (Or.inl (by decide))

theorem failSlice_irq : (s.failSlice p true).fbit F.PAGE_IRQ_SOURCES 0x21 4 = true := by
  rw [fbit_of_reg (f := F.PAGE_IRQ_SOURCES) (failSlice_pageIrq w)]
  exact irq_sets (fset_wf _ _ _ _ w) (by decide) (by decide) (by decide)

theorem failSlice_keeps_irq {c : Nat} (hc : s.fbit F.PAGE_IRQ_SOURCES 0x21 c = true) :
    (s.failSlice p true).fbit F.PAGE_IRQ_SOURCES 0x21 c = true := by
  rw [fbit_of_reg (f := F.PAGE_IRQ_SOURCES) (failSlice_pageIrq w)]
  refine irq_keeps (fset_wf _ F.ADC_SLICE_STATE p 4 w) (by decide) (by decide) (by decide) (hc ▸ fbit_of_reg ?_ c)
  exact reg_fset_ne s F.ADC_SLICE_STATE p 4 w (pageIrq_ok (by decide)) (Or.inl (by decide))

include hp

theorem failSlice_reg : (s.failSlice p true).reg .ADC_SLICE p = (s.fset F.ADC_SLICE_STATE p 4).reg .ADC_SLICE p := by
  have wf := sliceFailed_wf (p := p) w
  have ok := adcSlice_ok hp
  rw [failSlice_darned, (darnDone_agree _ _ _ _ _).regs (fsetBit_wf _ _ _ _ _ wf) _ _ ok (by decide),
    ← sliceFailed_reg w ok (by decide)]
  exact reg_setReg_ne (r := .DARN_RETIRED) _ _ wf ok (Or.inl (by decide))

theorem failSlice_state : (s.failSlice p true).sliceState p = 4 :=
  (congrArg (bits · 0 3) (failSlice_reg w hp)).trans ((sliceState_fset w hp hp (by decide)).trans (if_pos rfl))

theorem failSlice_calFail : (s.failSlice p true).flag F.ADC_SLICE_CAL_FAIL p = s.flag F.ADC_SLICE_CAL_FAIL p :=
  (congrArg (fun v => bits v 19 1 != 0) (failSlice_reg w hp)).trans
    (congrArg (· != 0) (fget_fset_field s F.ADC_SLICE_STATE F.ADC_SLICE_CAL_FAIL p 4 w (adcSlice_ok hp) rfl (by decide)))

end darned

section ends
variable {s : State} {p : Nat} (f : CalFit) (w : Regs.wf s.regs = true) (hp : p < 9) (hrun : s.calRuns p)

include hrun in
theorem calRunDone_eq : s.calRunDone p f =
    if s.fitPasses f then
      if (s.runCounted p).adc.init then
        ((s.runCounted p).setSlice p { s.slice p with fails := 0, running := false, passed := some f }).putFit p
          ((s.runCounted p).idleHalf p) f
      else ((s.runPassed p f).fset F.ADC_SLICE_STATE p 3).showSpare
    else if 1 ≤ (s.slice p).fails then ((s.runFailed p).failSlice p true).showSpare
      else (s.runFailed p).setSlice p { s.slice p with fails := (s.slice p).fails + 1 } := by
  obtain ⟨hrunning, hstate, hclock⟩ := hrun
  have hgo : (!(s.slice p).running || !(decide (s.sliceState p = 2) || decide (s.sliceState p = 3)) || !s.adcClock) = false := by
    rw [hrunning, hclock, ← Bool.decide_or, decide_eq_true hstate]
    rfl
  unfold State.calRunDone
  extract_lets st x
  rw [if_neg (by rw [hgo]; decide)]
  rfl

section passes
variable (hpass : s.fitPasses f = true)

include hrun hpass in
theorem calRunDone_ready (hinit : s.adc.init = false) :
    s.calRunDone p f = ((s.runPassed p f).fset F.ADC_SLICE_STATE p 3).showSpare := by
  have hadc : (s.runCounted p).adc.init = false := (congrArg Adc.init (setReg_adc _ _ _ _)).trans hinit
  rw [calRunDone_eq f hrun, hpass, hadc]
  rfl

include w hp hrun hpass in
/-- A passing run outside initial calibration makes its slice READY, with the fit in the half that is not used (R107). -/
theorem calRunDone_passes (hinit : s.adc.init = false) :
    (s.calRunDone p f).sliceState p = 3 ∧
      (s.calRunDone p f).reg .ADCCAL_OFFSET (2 * p + s.idleHalf p) = BitVec.ofNat 32 (toField 24 f.offset) ∧
      (s.calRunDone p f).reg .ADCCAL_GAIN (2 * p + s.idleHalf p) = BitVec.ofNat 32 (f.gain % 2 ^ 24) ∧
      (s.calRunDone p f).fget F.ADC_SLICE_HALF p = s.fget F.ADC_SLICE_HALF p := by
  rw [calRunDone_ready f hrun hpass hinit]
  have wp := runPassed_wf (p := p) w f
  have ws := fset_wf _ F.ADC_SLICE_STATE p 3 wp
  have hhalf := idleHalf_le s p
  have hspare := showSpare_agree ((s.runPassed p f).fset F.ADC_SLICE_STATE p 3)
  have oko : Reg.ADCCAL_OFFSET.ok (2 * p + s.idleHalf p) = true := adccalOffset_ok (by omega)
  have okg : Reg.ADCCAL_GAIN.ok (2 * p + s.idleHalf p) = true := adccalGain_ok (by omega)
  refine ⟨?_, ?_, ?_, ?_⟩
  · rw [hspare.sliceState_same ws (by decide) hp, sliceState_fset wp hp hp (by decide), if_pos rfl]
  · rw [hspare.regs ws _ _ oko (by decide), reg_fset_ne _ _ _ _ wp oko (Or.inl (by decide)), runPassed_offset w hp]
  · rw [hspare.regs ws _ _ okg (by decide), reg_fset_ne _ _ _ _ wp okg (Or.inl (by decide)), runPassed_gain w hp]
  · rw [hspare.fget_same (f := F.ADC_SLICE_HALF) ws (adcSlice_ok hp) (by decide),
      fget_fset_field _ F.ADC_SLICE_STATE F.ADC_SLICE_HALF _ _ wp (adcSlice_ok hp) rfl (by decide), runPassed_half w hp]

include hrun hpass in
/-- A passing run of initial calibration waits for the end of it (R112). -/
theorem calRunDone_init (hinit : s.adc.init = true) :
    (s.calRunDone p f).adc.slices = setAt Slice.reset s.adc.slices p
      { s.slice p with fails := 0, running := false, passed := some f } := by
  have hadc : (s.runCounted p).adc = s.adc := setReg_adc _ _ _ _
  rw [calRunDone_eq f hrun, if_pos hpass, if_pos (by rw [hadc]; exact hinit), (putFit_agree _ _ _ _).adc_same (by decide),
    State.setSlice, hadc]

end passes

section fails
variable (hfail : s.fitPasses f = false)

include hrun hfail

theorem calRunDone_again (hfirst : (s.slice p).fails = 0) :
    s.calRunDone p f = (s.runFailed p).setSlice p { s.slice p with fails := 1 } := by
  rw [calRunDone_eq f hrun, if_neg (by rw [hfail]; decide), if_neg (by omega), hfirst]

theorem calRunDone_failed (hagain : (s.slice p).fails ≠ 0) :
    s.calRunDone p f = ((s.runFailed p).failSlice p true).showSpare := by
  rw [calRunDone_eq f hrun, if_neg (by rw [hfail]; decide), if_pos (by omega)]

/-- The first run that fails is followed by another (R107). -/
theorem calRunDone_fails_once (hfirst : (s.slice p).fails = 0) :
    (s.calRunDone p f).adc.slices = setAt Slice.reset s.adc.slices p { s.slice p with fails := 1 } := by
  rw [calRunDone_again f hrun hfail hfirst, State.setSlice, runFailed_adc]

include w hp

/-- The second makes the slice FAILED (R107). -/
theorem calRunDone_fails_twice (hagain : (s.slice p).fails ≠ 0) :
    (s.calRunDone p f).sliceState p = 4 ∧ (s.calRunDone p f).fbit F.PAGE_IRQ_SOURCES 0x21 4 = true := by
  have wr := runFailed_wf (p := p) w
  have wf := failSlice_wf (p := p) wr
  have hspare := showSpare_agree ((s.runFailed p).failSlice p true)
  rw [calRunDone_failed f hrun hfail hagain, hspare.sliceState_same wf (by decide) hp,
    hspare.fbit_same (f := F.PAGE_IRQ_SOURCES) wf (pageIrq_ok (by decide)) (by decide)]
  exact ⟨failSlice_state wr hp, failSlice_irq wr⟩

/-- A run that fails is marked (R107). -/
theorem calRunDone_fails : (s.calRunDone p f).flag F.ADC_SLICE_CAL_FAIL p = true ∧
    (s.calRunDone p f).fbit F.PAGE_IRQ_SOURCES 0x21 3 = true := by
  have wr := runFailed_wf (p := p) w
  have hirq := runFailed_irq (p := p) w
  by_cases hfirst : (s.slice p).fails = 0
  · rw [calRunDone_again f hrun hfail hfirst]
    exact ⟨runFailed_flag w hp, hirq⟩
  · have wf := failSlice_wf (p := p) wr
    have hspare := showSpare_agree ((s.runFailed p).failSlice p true)
    rw [calRunDone_failed f hrun hfail hfirst, hspare.flag_same (f := F.ADC_SLICE_CAL_FAIL) wf (adcSlice_ok hp) (by decide),
      hspare.fbit_same (f := F.PAGE_IRQ_SOURCES) wf (pageIrq_ok (by decide)) (by decide)]
    exact ⟨(failSlice_calFail wr hp).trans (runFailed_flag w hp), failSlice_keeps_irq wr hirq⟩

end fails
end ends

/-! ### The decision of a rotation (R108, R109) -/

/-- The number of the edge that falls next. -/
def State.rotEdge (s : State) : Nat :=
  match s.epoch.edges with
  | (num, _) :: _ => if s.epoch.running then num + 1 else s.epoch.firstNum.getD 0
  | [] => s.epoch.firstNum.getD 0

/-- The seam generator whose candidate edges rotate. -/
def State.rotGen (s : State) : Nat := if s.flag F.ADC_CTRL_ROT_NOW then 32 else 32 + s.fget F.ADC_CFG_ROT_SG

/-- The first READY slice. -/
def State.readySlice (s : State) : Option Nat := (indices 9 (fun p => s.sliceState p == 3)).head?

/-- The position that rotates: the first whose slice has drifted, or else the round-robin position. -/
def State.rotPlace (s : State) : Nat :=
  (if s.adc.initWait then none else (indices 8 (fun l => s.flag F.ADC_SLICE_DRIFT_NOW (s.slicePos l))).head?).getD 8

/-- The rotation that the decision names. -/
def State.rotChoice (s : State) : Option (Nat × Nat) :=
  match s.readySlice with
  | some p => if s.flag F.ADC_CTRL_ROT_EN && s.flag F.PAGE_CTRL_EN 0x21 then some (s.rotPlace, p) else none
  | none => none

/-- The decision for the edge that falls next. -/
def State.rotDecided (s : State) : RotDecision :=
  ⟨s.rotEdge, s.rotGen, s.flag F.ADC_CTRL_ROT_NOW, s.rotChoice, s.flag F.ADC_CTRL_ROT_EN && s.readySlice.isNone⟩

/-- A decision falls due: the next edge is a candidate edge, the converter works, and the edge has its tick (R108, R113). -/
def State.rotDue (s : State) : Prop :=
  s.rotEdge % 2 ^ s.fget F.SEAM_CFG_K s.rotGen = 0 ∧
    ((s.mode ≠ 2 ∧ ∀ a, s.power.step ≠ some (a, 2)) ∨ s.flag F.ADC_CTRL_EVE_CAL = true) ∧
    s.domLive .acq = true ∧ s.epoch.next.isSome = true

theorem head?_indices_none {n : Nat} {f : Nat → Bool} (h : ∀ i, i < n → f i = false) : (indices n f).head? = none := by
  rw [indices, List.head?_filter, List.find?_range_eq_none]
  simpa using h

theorem head?_indices_some {n i : Nat} {f : Nat → Bool} (hi : i < n) (h : f i = true) (hbefore : ∀ k, k < i → f k = false) :
    (indices n f).head? = some i := by
  rw [indices, List.head?_filter, List.find?_range_eq_some]
  exact ⟨h, List.mem_range.mpr hi, by simpa using hbefore⟩

theorem domLive_acq_of_adcLive {s : State} (h : s.pageLive 0x21 = true) : s.domLive .acq = true := by
  simp only [State.pageLive, pageInfo] at h
  exact (Bool.and_eq_true_iff.mp h).1

/-- Rotation goes on outside Evening and the step into it, and there while EVE_CAL is 1 (R113). -/
theorem evening_open {s : State} (h : (s.mode ≠ 2 ∧ ∀ a, s.power.step ≠ some (a, 2)) ∨ s.flag F.ADC_CTRL_EVE_CAL = true) :
    ((s.fget F.PWR_STATUS_MODE == 2 || s.power.step.any (fun x => x.2 == 2)) && !s.flag F.ADC_CTRL_EVE_CAL) = false := by
  rcases h with ⟨hmode, hstep⟩ | heve
  · have hno : s.power.step.any (fun x => x.2 == 2) = false := by
      cases hx : s.power.step with
      | none => rfl
      | some x =>
        obtain ⟨a, b⟩ := x
        simp only [Option.any_some, beq_eq_false_iff_ne, ne_eq]
        rintro rfl
        exact hstep a hx
    rw [hno, Bool.or_false, (beq_eq_false_iff_ne.mpr hmode : (s.fget F.PWR_STATUS_MODE == 2) = false), Bool.false_and]
  · rw [heve, Bool.not_true, Bool.and_false]

/-- The READY slice that a rotation takes runs no more. -/
def State.rotHeld (s : State) : State :=
  match s.rotChoice with
  | some (_, p) => s.setSlice p { s.slice p with running := false }
  | none => s

theorem rotHeld_regs (s : State) : s.rotHeld.regs = s.regs := by
  unfold State.rotHeld
  split <;> rfl

theorem rotationDecision_eq {s : State} (h : s.rotDue) :
    s.rotationDecision = { s.rotHeld with adc := { s.rotHeld.adc with decision := some s.rotDecided } } := by
  obtain ⟨hedge, hopen, hlive, hnext⟩ := h
  have hgo : (s.rotEdge % 2 ^ s.fget F.SEAM_CFG_K s.rotGen != 0 ||
      ((s.fget F.PWR_STATUS_MODE == 2 || s.power.step.any (fun x => x.2 == 2)) && !s.flag F.ADC_CTRL_EVE_CAL) ||
      !s.domLive .acq || s.epoch.next.isNone) = false := by
    rw [evening_open hopen, hedge, hlive, Option.isNone_eq_false_iff.mpr hnext]
    rfl
  exact if_neg (ne_true_of_eq_false hgo)

theorem rotPlace_initWait {s : State} (h : s.adc.initWait = true) : s.rotPlace = 8 := by rw [State.rotPlace, h]; rfl

theorem rotPlace_steady {s : State} (h : ∀ k, k < 8 → s.flag F.ADC_SLICE_DRIFT_NOW (s.slicePos k) = false) :
    s.rotPlace = 8 := by
  rw [State.rotPlace, head?_indices_none h, ite_self]
  rfl

theorem rotDecided_off {s : State} (hen : s.flag F.ADC_CTRL_ROT_EN = false) :
    s.rotDecided.rot = none ∧ s.rotDecided.noReady = false := by
  simp only [State.rotDecided, State.rotChoice, hen, Bool.false_and]
  exact ⟨by split <;> rfl, trivial⟩

theorem rotDecided_noReady {s : State} (hen : s.flag F.ADC_CTRL_ROT_EN = true) (h : ∀ p, p < 9 → s.sliceState p ≠ 3) :
    s.rotDecided.rot = none ∧ s.rotDecided.noReady = true := by
  have hready : s.readySlice = none := head?_indices_none (fun p hp => beq_eq_false_iff_ne.mpr (h p hp))
  simp only [State.rotDecided, State.rotChoice, hready, hen]
  exact ⟨trivial, rfl⟩

theorem rotDecided_ready {s : State} {p : Nat} (hen : s.flag F.ADC_CTRL_ROT_EN = true) (hpage : s.pageEn 0x21 = true) (hp : p < 9)
    (hstate : s.sliceState p = 3) (hfirst : ∀ k, k < p → s.sliceState k ≠ 3) : s.rotDecided.rot = some (s.rotPlace, p) := by
  have hready : s.readySlice = some p :=
    head?_indices_some hp (beq_iff_eq.mpr hstate) (fun k hk => beq_eq_false_iff_ne.mpr (hfirst k hk))
  obtain ⟨-, hctrl⟩ := Bool.and_eq_true_iff.mp hpage
  simp only [State.rotDecided, State.rotChoice, hready, hen, hctrl]
  rfl

theorem rotDecided_rotates {s : State} (hen : s.flag F.ADC_CTRL_ROT_EN = true) (hpage : s.pageEn 0x21 = true) {p : Nat} (hp : p < 9)
    (hstate : s.sliceState p = 3) (hfirst : ∀ k, k < p → s.sliceState k ≠ 3) :
    ∃ l, s.rotDecided.rot = some (l, p) ∧
      ((∀ k, k < 8 → s.flag F.ADC_SLICE_DRIFT_NOW (s.slicePos k) = false) → l = 8) ∧ (s.adc.initWait = true → l = 8) :=
  ⟨s.rotPlace, rotDecided_ready hen hpage hp hstate hfirst, rotPlace_steady, rotPlace_initWait⟩

/-- The decision of a rotation touches no register (R108). -/
theorem rotationDecision_decides {s : State} (h : s.rotDue) :
    s.rotationDecision.regs = s.regs ∧ s.rotationDecision.adc.decision = some s.rotDecided := by
  rw [rotationDecision_eq h]
  exact ⟨rotHeld_regs s, rfl⟩

end Sys2Proof.Machine
end

section
/-!
PROOF. Initial calibration: what its beginning and its end leave.
-/

namespace Sys2Proof.Machine

/-! ### The beginning (R112) -/

/-- Initial calibration is under way, and no slice has begun. -/
def State.initBegun (s : State) : State :=
  ({ s with adc := { s.adc with init := true, initWait := false, decision := none } }.fsetB F.ADC_STATUS_INIT_DONE 0 false).setBusy
    0x21 true

/-- The runs of a slice in service are counted afresh. -/
def State.runsCleared (s : State) (p : Nat) : State := if s.sliceState p = 1 then s.fset F.ADC_SLICE_CAL_RUNS p 0 else s

/-- Slice `p` begins to calibrate, unless it is FAILED or retired. -/
def State.calBegun (s : State) (p : Nat) : State :=
  if s.sliceState p = 4 then s
  else if s.fbit F.DARN_RETIRED_SLICES 0 p then s.failSlice p false
  else (s.runsCleared p).startCal p

/-- The state of slice `p` when initial calibration has begun. -/
def State.calEntry (s : State) (p : Nat) : Nat := if s.sliceState p = 4 ∨ s.fbit F.DARN_RETIRED_SLICES 0 p = true then 4 else 2

/-- Every slice has begun. -/
def State.slicesBegun (s : State) : State := forEach (List.range 9) (fun p t => t.calBegun p) s

theorem initStart_eq (s : State) : s.initStart = s.initBegun.slicesBegun.showSpare := rfl

/-- What the beginning marks beside the slices. -/
def initBegunMask : Nat := 1 <<< 20 ||| 1 <<< (64 + Reg.ADC_STATUS.ctorIdx) ||| 1 <<< (64 + Reg.PAGE_STATUS.ctorIdx)

theorem initBegun_agree (s : State) : Agree initBegunMask s s.initBegun :=
  (((Agree.refl _ s).set_adc (by decide) _).fsetB (f := F.ADC_STATUS_INIT_DONE) (by decide) 0 false).trans
    ((setBusy_agree _ 0x21 true).mono (by decide))

theorem initBegun_init (s : State) : s.initBegun.adc.init = true :=
  congrArg Adc.init ((setReg_adc _ .PAGE_STATUS _ _).trans (setReg_adc _ .ADC_STATUS _ _))

theorem runsCleared_frame (s : State) (p : Nat) : SliceFrame calMask s (s.runsCleared p) :=
  .ite ((SliceFrame.refl _ s).setReg (r := .ADC_SLICE) (by decide) p _) (.refl _ s)

theorem calBegun_frame (s : State) (p : Nat) : SliceFrame calMask s (s.calBegun p) :=
  .ite (.refl _ s) (.ite (sliceFailed_frame s p) ((runsCleared_frame s p).trans (startCal_frame _ p)))

theorem slicesBegun_frame (s : State) : SliceFrame calMask s s.slicesBegun := .forEach (fun p t => calBegun_frame t p) _ s

section begin
variable {s : State} (w : Regs.wf s.regs = true)
include w

theorem runsCleared_state {p q : Nat} (hp : p < 9) (hq : q < 9) : (s.runsCleared p).sliceState q = s.sliceState q := by
  unfold State.runsCleared
  split
  · by_cases h : q = p
    · rw [h]
      exact fget_fset_field s F.ADC_SLICE_CAL_RUNS F.ADC_SLICE_STATE p 0 w (adcSlice_ok hp) rfl (by decide)
    · exact fget_fset_ne s F.ADC_SLICE_CAL_RUNS F.ADC_SLICE_STATE p q 0 w (adcSlice_ok hq) (Or.inr h)
  · rfl

theorem calBegun_state {p q : Nat} (hp : p < 9) (hq : q < 9) :
    (s.calBegun p).sliceState q = if q = p then s.calEntry p else s.sliceState q := by
  unfold State.calBegun State.calEntry
  by_cases hfailed : s.sliceState p = 4
  · rw [if_pos hfailed, if_pos (Or.inl hfailed)]
    split
    next h => rw [h, hfailed]
    next => rfl
  · by_cases hretired : s.fbit F.DARN_RETIRED_SLICES 0 p = true
    · rw [if_neg hfailed, if_pos hretired, if_pos (Or.inr hretired), failSlice_retired, sliceFailed_state w hp hq]
    · rw [if_neg hfailed, if_neg hretired, if_neg (not_or.mpr ⟨hfailed, hretired⟩), ← runsCleared_state w hp hq]
      exact startCal_state ((runsCleared_frame s p).agree.regsWf w) hp hq

/-- A slice that has begun would begin alike again. -/
theorem calEntry_calBegun {p q : Nat} (hp : p < 9) (hq : q < 9) : (s.calBegun p).calEntry q = s.calEntry q := by
  have hretired := (calBegun_frame s p).agree.fbit_same (f := F.DARN_RETIRED_SLICES) (n := 0) (i := q) w (by decide) (by decide)
  rw [State.calEntry, calBegun_state w hp hq, hretired]
  by_cases h : q = p
  · rw [if_pos h, h, State.calEntry]
    split <;> simp_all
  · rw [if_neg h, State.calEntry]

theorem forEach_calBegun_state {q : Nat} (ps : List Nat) (hps : ∀ p ∈ ps, p < 9) (hq : q < 9) :
    (forEach ps (fun p t => t.calBegun p) s).sliceState q = if q ∈ ps then s.calEntry q else s.sliceState q := by
  induction ps generalizing s with
  | nil => rfl
  | cons p ps ih =>
    obtain ⟨hp, hps⟩ := List.forall_mem_cons.mp hps
    have h := ih ((calBegun_frame s p).agree.regsWf w) hps
    rw [calEntry_calBegun w hp hq, calBegun_state w hp hq] at h
    refine h.trans ?_
    by_cases hqp : q = p
    · subst hqp
      simp
    · simp [hqp]

theorem slicesBegun_state {q : Nat} (hq : q < 9) : s.slicesBegun.sliceState q = s.calEntry q :=
  (forEach_calBegun_state w (List.range 9) (fun _ h => List.mem_range.mp h) hq).trans (if_pos (List.mem_range.mpr hq))

omit w in
theorem initStart_agree : Agree (initBegunMask ||| calMask ||| spareMask) s s.initStart :=
  (((initBegun_agree s).mono (by decide)).trans ((slicesBegun_frame _).agree.mono (by decide))).trans
    ((showSpare_agree _).mono (by decide))

/-- Initial calibration is in progress (R112). -/
theorem initStart_flags : s.initStart.adc.init = true ∧ s.initStart.flag F.ADC_STATUS_INIT_DONE = false ∧
    s.initStart.flag F.PAGE_STATUS_BUSY 0x21 = true := by
  have wd := fsetB_wf { s with adc := { s.adc with init := true, initWait := false, decision := none } }
    F.ADC_STATUS_INIT_DONE 0 false w
  have wb : Regs.wf s.initBegun.regs = true := (initBegun_agree s).regsWf w
  obtain ⟨hslices, hadc⟩ := slicesBegun_frame s.initBegun
  have ws := hslices.regsWf wb
  have hspare := showSpare_agree s.initBegun.slicesBegun
  rw [initStart_eq]
  refine ⟨?_, ?_, ?_⟩
  · rw [hspare.adc_same (by decide), hadc]
    exact initBegun_init s
  · rw [showSpare_initDone ws, hslices.flag_same (f := F.ADC_STATUS_INIT_DONE) wb (by decide) (by decide), State.initBegun,
      (setBusy_agree _ 0x21 true).flag_same (f := F.ADC_STATUS_INIT_DONE) wd (by decide) (by decide)]
    exact flag_fsetB_same false w (by decide) (by decide)
  · rw [hspare.flag_same (f := F.PAGE_STATUS_BUSY) ws (pageStatus_ok (by decide)) (by decide),
      hslices.flag_same (f := F.PAGE_STATUS_BUSY) wb (pageStatus_ok (by decide)) (by decide)]
    exact flag_fsetB_same true wd (pageStatus_ok (by decide)) (by decide)

/-- Every slice calibrates that is neither FAILED nor retired (R112). -/
theorem initStart_state {p : Nat} (hp : p < 9) : s.initStart.sliceState p = s.calEntry p := by
  have hbegun := initBegun_agree s
  have wb : Regs.wf s.initBegun.regs = true := hbegun.regsWf w
  rw [initStart_eq, (showSpare_agree _).sliceState_same ((slicesBegun_frame _).agree.regsWf wb) (by decide) hp,
    slicesBegun_state wb hp, State.calEntry, hbegun.sliceState_same w (by decide) hp,
    hbegun.fbit_same (f := F.DARN_RETIRED_SLICES) w (by decide) (by decide), State.calEntry]

end begin

/-! ### Writes to ADC_CTRL (R109, R112) -/

/-- What follows a write of `v` to ADC_CTRL. -/
def State.adcOrdered (s : State) (v : Word) : State :=
  if bits v 3 1 = 1 then (s.take F.ADC_CTRL_INIT_CAL 0).initStart else s

section ctrl
variable {s : State} {q : Requester} {v : Word} (w : Regs.wf s.regs = true) (h : s.admits q .ADC_CTRL 0 v = true)

include h in
theorem writeReg_adcCtrl : s.writeReg q .ADC_CTRL 0 v = s.taken ((s.merged .ADC_CTRL 0 v).adcOrdered v) :=
  writeReg_unstaged (f := fun t => t.adcOrdered v) (by decide) h rfl (by decide) rfl

include w

/-- A write of 1 to INIT_CAL begins an initial calibration (R112). -/
theorem adcOrdered_init (hv : bits v 3 1 = 1) :
    let t := s.taken ((s.merged .ADC_CTRL 0 v).adcOrdered v)
    t.adc.init = true ∧ t.flag F.ADC_STATUS_INIT_DONE = false ∧ t.flag F.ADC_CTRL_INIT_CAL = false ∧
      t.flag F.PAGE_STATUS_BUSY 0x21 = true ∧
      ∀ p, p < 9 → s.sliceState p ≠ 4 → t.sliceState p = if s.fbit F.DARN_RETIRED_SLICES 0 p then 4 else 2 := by
  generalize hm : (s.merged .ADC_CTRL 0 v).take F.ADC_CTRL_INIT_CAL 0 = m
  have wg := merged_wf .ADC_CTRL 0 v w
  have hs : Agree (1 <<< (64 + Reg.ADC_CTRL.ctorIdx)) s m :=
    hm ▸ (merged_agree s (by decide) 0 v).fsetB (f := F.ADC_CTRL_INIT_CAL) (by decide) 0 false
  have wm := hs.regsWf w
  have wi : Regs.wf m.initStart.regs = true := (initStart_agree (s := m)).regsWf wm
  have ht := taken_agree s m.initStart
  have hord : (s.merged .ADC_CTRL 0 v).adcOrdered v = m.initStart := by rw [State.adcOrdered, if_pos hv, hm]
  obtain ⟨hinit, hdone, hbusy⟩ := initStart_flags wm
  have htake : m.flag F.ADC_CTRL_INIT_CAL = false := hm ▸ flag_fsetB_same false wg (by decide) (by decide)
  simp only [hord]
  refine ⟨?_, ?_, ?_, ?_, fun p hp hstate => ?_⟩
  · rw [ht.adc_same (by decide), hinit]
  · rw [ht.flag_same (f := F.ADC_STATUS_INIT_DONE) wi (by decide) (by decide), hdone]
  · rw [ht.flag_same (f := F.ADC_CTRL_INIT_CAL) wi (by decide) (by decide),
      initStart_agree.flag_same (f := F.ADC_CTRL_INIT_CAL) wm (by decide) (by decide), htake]
  · rw [ht.flag_same (f := F.PAGE_STATUS_BUSY) wi (pageStatus_ok (by decide)) (by decide), hbusy]
  · rw [ht.sliceState_same wi (by decide) hp, initStart_state wm hp, State.calEntry, hs.sliceState_same w (by decide) hp,
      hs.fbit_same (f := F.DARN_RETIRED_SLICES) w (by decide) (by decide)]
    simp only [hstate, false_or]

/-- A write of 1 to ROT_NOW leaves it set (R109). -/
theorem adcOrdered_rotNow (hv : bits v 1 1 = 1) :
    (s.taken ((s.merged .ADC_CTRL 0 v).adcOrdered v)).flag F.ADC_CTRL_ROT_NOW = true := by
  have wm := merged_wf .ADC_CTRL 0 v w
  have hset : (s.merged .ADC_CTRL 0 v).flag F.ADC_CTRL_ROT_NOW = true :=
    flag_of_written (f := F.ADC_CTRL_ROT_NOW) (merged_reg v w (by decide)) (d := ⟨"ROT_NOW", 1, 1, .w1s, 0, []⟩) (by decide)
      ⟨rfl, rfl⟩ ⟨rfl, rfl⟩ hv
  unfold State.adcOrdered
  split
  · have wt : Regs.wf ((s.merged .ADC_CTRL 0 v).take F.ADC_CTRL_INIT_CAL 0).regs = true := fsetB_wf _ _ _ _ wm
    rw [(taken_agree s _).flag_same (f := F.ADC_CTRL_ROT_NOW) (initStart_agree.regsWf wt) (by decide) (by decide),
      initStart_agree.flag_same (f := F.ADC_CTRL_ROT_NOW) wt (by decide) (by decide), State.take,
      flag_fsetB_field (f := F.ADC_CTRL_INIT_CAL) (g := F.ADC_CTRL_ROT_NOW) _ wm (by decide) rfl (by decide), hset]
  · rw [(taken_agree s _).flag_same (f := F.ADC_CTRL_ROT_NOW) wm (by decide) (by decide), hset]

end ctrl

/-! ### The end (R112) -/

/-- Initial calibration has ended, and no slice has its state yet. -/
def State.initEnded (s : State) : State :=
  (({ s with adc := { s.adc with init := false } }.fsetB F.ADC_STATUS_INIT_DONE 0 true).setBusy 0x21 false).irq 0x21 7

/-- The slices that have passed. -/
def State.passedSlices (s : State) : List Nat := indices 9 (fun p => (s.slice p).passed.isSome)

/-- Slice `p` takes state `x`; `run` says whether it goes on calibrating. -/
def State.sliceServes (s : State) (p x : Nat) (run : Bool) : State :=
  (s.fset F.ADC_SLICE_STATE p x).setSlice p { s.slice p with running := run }

/-- The slices of `ps` have their states: eight in service, the rest READY. -/
def State.slicesServe (s : State) (ps : List Nat) : State :=
  forEach (ps.drop 8) (fun p t => t.sliceServes p 3 true) (forEach (ps.take 8) (fun p t => t.sliceServes p 1 false) s)

/-- And the marks of the converter follow. -/
def State.initServed (s : State) (ps : List Nat) : State :=
  ((s.slicesServe ps).fsetB F.ADC_STATUS_SHORT 0 (decide (ps.length < 8))).showSpare

/-- The result of slice `p` stands in both halves of its table. -/
def State.fitGoverns (s : State) (p : Nat) : State :=
  match (s.slice p).passed with
  | some f => ((s.putFit p 0 f).putFit p 1 f).setSlice p { s.slice p with passed := none }
  | none => s

/-- The tables and the map of initial calibration are in place. -/
def State.initPlaced (s : State) : State :=
  let ps := s.passedSlices
  let t := forEach ps (fun p t => t.fitGoverns p) s
  let failed := (indices 9 (fun p => t.sliceState p == 4)).headD 0
  forEach (ps.take 8) (fun p t => t.clearDrift p) (forEach (List.range 8) (fun l t => t.setSlicePos l (ps.getD l failed)) t)

theorem initApply_eq (s : State) :
    s.initApply = { s.initPlaced with adc := { s.initPlaced.adc with initWait := false } }.showSpare := rfl

/-- Every slice of an initial calibration has ended its run, and none that takes part is without a passing one. -/
def State.initEnds (s : State) : Prop :=
  s.adc.init = true ∧ s.adcClock = true ∧ ∀ p, p < 9 → s.sliceState p = 2 → (s.slice p).passed.isSome = true

theorem initDone_eq {s : State} (h : s.initEnds) :
    s.initDone = if (s.initEnded.initServed s.passedSlices).epoch.running then
        { s.initEnded.initServed s.passedSlices with adc := { (s.initEnded.initServed s.passedSlices).adc with initWait := true } }
      else (s.initEnded.initServed s.passedSlices).initApply := by
  obtain ⟨hinit, hclock, hpassed⟩ := h
  have hopen : (List.range 9).any (fun p => s.sliceState p == 2 && (s.slice p).passed.isNone) = false := by
    rw [List.any_eq_false]
    intro p hp
    simp only [Bool.and_eq_true, beq_iff_eq, Option.isNone_iff_eq_none, not_and]
    exact fun hstate => Option.isSome_iff_ne_none.mp (hpassed p (List.mem_range.mp hp) hstate)
  have hgo : (!s.adc.init || (List.range 9).any (fun p => s.sliceState p == 2 && (s.slice p).passed.isNone) ||
      !s.adcClock) = false := by
    rw [hinit, hopen, hclock]
    rfl
  exact if_neg (ne_true_of_eq_false hgo)

/-- What the states, the tables and the map of the slices may touch. -/
def serveMask : Nat :=
  1 <<< 20 ||| 1 <<< (64 + Reg.ADC_SLICE.ctorIdx) ||| 1 <<< (64 + Reg.ADC_SLICE_MAP.ctorIdx) |||
    1 <<< (64 + Reg.ADC_DRIFT_OFS.ctorIdx) ||| 1 <<< (64 + Reg.ADC_DRIFT_GAIN.ctorIdx) ||| tableMask

theorem sliceServes_frame (s : State) (p x : Nat) (run : Bool) : SliceFrame serveMask s (s.sliceServes p x run) :=
  ((SliceFrame.refl _ s).setReg (r := .ADC_SLICE) (by decide) p _).setSlice (by decide) p _

theorem slicesServe_frame (s : State) (ps : List Nat) : SliceFrame serveMask s (s.slicesServe ps) :=
  (SliceFrame.forEach (fun p t => sliceServes_frame t p 1 false) _ s).trans (.forEach (fun p t => sliceServes_frame t p 3 true) _ _)

theorem SliceFrame.putFit {s t : State} (h : SliceFrame serveMask s t) (p half : Nat) (f : CalFit) :
    SliceFrame serveMask s (t.putFit p half f) :=
  h.step ((putFit_agree t p half f).mono (by decide)) ((putFit_agree t p half f).adc_same (by decide))

theorem fitGoverns_frame (s : State) (p : Nat) : SliceFrame serveMask s (s.fitGoverns p) := by
  unfold State.fitGoverns
  split
  next f _ => exact (((SliceFrame.refl _ s).putFit p 0 f).putFit p 1 f).setSlice (by decide) p _
  next => exact .refl _ s

theorem clearDrift_frame (s : State) (p : Nat) : SliceFrame serveMask s (s.clearDrift p) :=
  ((((SliceFrame.refl _ s).setSlice (by decide) p _).setReg (r := .ADC_DRIFT_OFS) (by decide) p _).setReg (r := .ADC_DRIFT_GAIN)
    (by decide) p _).setReg (r := .ADC_SLICE) (by decide) p _

theorem initPlaced_frame (s : State) : SliceFrame serveMask s s.initPlaced :=
  ((SliceFrame.forEach (fun p t => fitGoverns_frame t p) _ s).trans
    (.forEach (fun l t => (SliceFrame.refl _ t).setReg (r := .ADC_SLICE_MAP) (by decide) 0 _) _ _)).trans
    (.forEach (fun p t => clearDrift_frame t p) _ _)

/-- What the end may touch beside its own marks. -/
def initEndMask : Nat := serveMask ||| spareMask

/-- The marks of the end. -/
def initEndedMask : Nat :=
  pulseMask ||| 1 <<< 20 ||| 1 <<< (64 + Reg.ADC_STATUS.ctorIdx) ||| 1 <<< (64 + Reg.PAGE_STATUS.ctorIdx)

theorem initEnded_agree (s : State) : Agree initEndedMask s s.initEnded :=
  ((((Agree.refl _ s).set_adc (by decide) _).fsetB (f := F.ADC_STATUS_INIT_DONE) (by decide) 0 true).trans
    ((setBusy_agree _ 0x21 false).mono (by decide))).trans ((irq_agree _ 0x21 7).mono (by decide))

theorem initEnded_init (s : State) : s.initEnded.adc.init = false :=
  congrArg Adc.init (((irq_agree _ 0x21 7).adc_same (by decide)).trans
    ((setReg_adc _ .PAGE_STATUS _ _).trans (setReg_adc _ .ADC_STATUS _ _)))

theorem initServed_agree (s : State) (ps : List Nat) : Agree initEndMask s (s.initServed ps) :=
  (((slicesServe_frame s ps).agree.mono (by decide)).fsetB (f := F.ADC_STATUS_SHORT) (by decide) 0 _).trans
    ((showSpare_agree _).mono (by decide))

theorem initApply_agree (s : State) : Agree initEndMask s s.initApply :=
  (((initPlaced_frame s).agree.mono (by decide)).set_adc (by decide) _).trans ((showSpare_agree _).mono (by decide))

theorem initServed_init (s : State) (ps : List Nat) : (s.initServed ps).adc.init = s.adc.init := by
  obtain ⟨-, hadc⟩ := slicesServe_frame s ps
  rw [State.initServed, (showSpare_agree _).adc_same (by decide), State.fsetB, State.fset, setReg_adc, hadc]

theorem initApply_adc (s : State) : s.initApply.adc.init = s.adc.init ∧ s.initApply.adc.initWait = false := by
  obtain ⟨-, hadc⟩ := initPlaced_frame s
  rw [initApply_eq, (showSpare_agree _).adc_same (by decide)]
  exact ⟨by rw [hadc], rfl⟩

section ends
variable {s : State} (w : Regs.wf s.regs = true)
include w

theorem initServed_initDone (ps : List Nat) :
    (s.initServed ps).flag F.ADC_STATUS_INIT_DONE = s.flag F.ADC_STATUS_INIT_DONE := by
  have hslices := (slicesServe_frame s ps).agree
  have ws := hslices.regsWf w
  rw [State.initServed, showSpare_initDone (fsetB_wf _ _ _ _ ws),
    flag_fsetB_field (f := F.ADC_STATUS_SHORT) (g := F.ADC_STATUS_INIT_DONE) _ ws (by decide) rfl (by decide),
    hslices.flag_same (f := F.ADC_STATUS_INIT_DONE) w (by decide) (by decide)]

theorem initApply_initDone : s.initApply.flag F.ADC_STATUS_INIT_DONE = s.flag F.ADC_STATUS_INIT_DONE := by
  have hplaced := (initPlaced_frame s).agree
  have wp : Regs.wf { s.initPlaced with adc := { s.initPlaced.adc with initWait := false } }.regs = true := hplaced.regsWf w
  rw [initApply_eq, showSpare_initDone wp]
  exact hplaced.flag_same (f := F.ADC_STATUS_INIT_DONE) w (by decide) (by decide)

theorem initEnded_flags : s.initEnded.flag F.ADC_STATUS_INIT_DONE = true ∧ s.initEnded.flag F.PAGE_STATUS_BUSY 0x21 = false ∧
    s.initEnded.fbit F.PAGE_IRQ_SOURCES 0x21 7 = true := by
  have wd := fsetB_wf { s with adc := { s.adc with init := false } } F.ADC_STATUS_INIT_DONE 0 true w
  have wb := (setBusy_agree _ 0x21 false).regsWf wd
  have hirq := irq_agree (({ s with adc := { s.adc with init := false } }.fsetB F.ADC_STATUS_INIT_DONE 0 true).setBusy 0x21
    false) 0x21 7
  refine ⟨?_, ?_, irq_sets wb (by decide) (by decide) (by decide)⟩
  · rw [State.initEnded, hirq.flag_same (f := F.ADC_STATUS_INIT_DONE) wb (by decide) (by decide),
      (setBusy_agree _ 0x21 false).flag_same (f := F.ADC_STATUS_INIT_DONE) wd (by decide) (by decide)]
    exact flag_fsetB_same true w (by decide) (by decide)
  · rw [State.initEnded, hirq.flag_same (f := F.PAGE_STATUS_BUSY) wb (pageStatus_ok (by decide)) (by decide)]
    exact flag_fsetB_same false wd (pageStatus_ok (by decide)) (by decide)

/-- The tables and the map follow at once, or wait for the next edge when the epoch timer runs (R112). -/
theorem initDone_marks (h : s.initEnds) : Agree initEndMask s.initEnded s.initDone ∧ s.initDone.adc.init = false ∧
    s.initDone.adc.initWait = s.epoch.running ∧ s.initDone.flag F.ADC_STATUS_INIT_DONE = true := by
  have hended := initEnded_agree s
  have we : Regs.wf s.initEnded.regs = true := hended.regsWf w
  obtain ⟨hdone, -⟩ := initEnded_flags w
  have hserved := initServed_agree s.initEnded s.passedSlices
  have ws := hserved.regsWf we
  have hinit := (initServed_init s.initEnded s.passedSlices).trans (initEnded_init s)
  have hflag := (initServed_initDone we s.passedSlices).trans hdone
  have hrun : (s.initEnded.initServed s.passedSlices).epoch.running = s.epoch.running := by
    rw [hserved.epoch_same (by decide), hended.epoch_same (by decide)]
  rw [initDone_eq h, hrun]
  cases s.epoch.running with
  | true => exact ⟨hserved.set_adc (by decide) _, hinit, rfl, hflag⟩
  | false =>
    obtain ⟨hkeeps, hwait⟩ := initApply_adc (s.initEnded.initServed s.passedSlices)
    exact ⟨hserved.trans (initApply_agree _), hkeeps.trans hinit, hwait, (initApply_initDone ws).trans hflag⟩

/-- The end of initial calibration (R112). -/
theorem initDone_ends (h : s.initEnds) : s.initDone.adc.init = false ∧ s.initDone.flag F.ADC_STATUS_INIT_DONE = true ∧
    s.initDone.flag F.PAGE_STATUS_BUSY 0x21 = false ∧ s.initDone.fbit F.PAGE_IRQ_SOURCES 0x21 7 = true ∧
    s.initDone.adc.initWait = s.epoch.running := by
  have we : Regs.wf s.initEnded.regs = true := (initEnded_agree s).regsWf w
  obtain ⟨-, hbusy, hirq⟩ := initEnded_flags w
  obtain ⟨hagree, hinit, hwait, hdone⟩ := initDone_marks w h
  refine ⟨hinit, hdone, ?_, ?_, hwait⟩
  · rw [hagree.flag_same (f := F.PAGE_STATUS_BUSY) we (pageStatus_ok (by decide)) (by decide), hbusy]
  · rw [hagree.fbit_same (f := F.PAGE_IRQ_SOURCES) we (pageIrq_ok (by decide)) (by decide), hirq]

end ends

end Sys2Proof.Machine
end

section
/-!
PROOF. The correction tables and the result registers, and the statement about the converter.
-/

namespace Sys2Proof.Machine

/-! ### Swaps (R105) -/

section swap
variable {s : State} {q : Requester} {p : Nat} {v : Word}

theorem writeReg_swap (hp : p < 9) (h : s.admits q .ADCCAL_CTRL p v = true) (hv : bits v 0 1 = 1) :
    s.writeReg q .ADCCAL_CTRL p v = s.taken ((s.merged .ADCCAL_CTRL p v).swapRequested p) := by
  rw [writeReg_unstaged (f := fun t => if bits v 0 1 = 1 then t.swapRequested p else t) (adccalCtrl_ok hp) h rfl (by decide) rfl,
    if_pos hv]

variable (w : Regs.wf s.regs = true) (hp : p < 9)
include w hp

theorem merged_sliceState : (s.merged .ADCCAL_CTRL p v).sliceState p = s.sliceState p :=
  (merged_agree (M := 1 <<< (64 + Reg.ADCCAL_CTRL.ctorIdx)) s (by decide) p v).sliceState_same w (by decide) hp

/-- A SWAP of a slice that calibrates is dropped. -/
theorem swapRequested_drops (hstate : s.sliceState p = 2 ∨ s.sliceState p = 3) :
    let t := s.taken ((s.merged .ADCCAL_CTRL p v).swapRequested p)
    t.flag F.ADCCAL_CTRL_SWAP p = false ∧ t.flag F.ADCCAL_STATUS_WR_IGNORED p = true ∧
      t.fbit F.PAGE_IRQ_SOURCES 0x22 1 = true := by
  have wm := merged_wf .ADCCAL_CTRL p v w
  have wc := fsetB_wf (s.merged .ADCCAL_CTRL p v) F.ADCCAL_CTRL_SWAP p false wm
  have wi : Regs.wf ((s.merged .ADCCAL_CTRL p v).swapIgnored p).regs = true := (wrIgnored_agree _ p).regsWf wc
  have hdrop : (s.merged .ADCCAL_CTRL p v).swapRequested p = (s.merged .ADCCAL_CTRL p v).swapIgnored p := by
    rw [State.swapRequested, merged_sliceState w hp, if_pos (by simpa using hstate)]
  have ht := taken_agree s ((s.merged .ADCCAL_CTRL p v).swapIgnored p)
  simp only [hdrop]
  rw [ht.flag_same (f := F.ADCCAL_CTRL_SWAP) wi (adccalCtrl_ok hp) (by decide),
    ht.flag_same (f := F.ADCCAL_STATUS_WR_IGNORED) wi (adccalStatus_ok hp) (by decide),
    ht.fbit_same (f := F.PAGE_IRQ_SOURCES) wi (pageIrq_ok (by decide)) (by decide)]
  exact ⟨swapIgnored_flag wm hp, wrIgnored_flag wc hp, wrIgnored_irq p wc⟩

/-- Any other SWAP waits for its seam. -/
theorem swapRequested_waits (hv : bits v 0 1 = 1) (h2 : s.sliceState p ≠ 2) (h3 : s.sliceState p ≠ 3) :
    (s.taken ((s.merged .ADCCAL_CTRL p v).swapRequested p)).flag F.ADCCAL_CTRL_SWAP p = true := by
  have wm := merged_wf .ADCCAL_CTRL p v w
  have hwait : (s.merged .ADCCAL_CTRL p v).swapRequested p = s.merged .ADCCAL_CTRL p v := by
    rw [State.swapRequested, merged_sliceState w hp, if_neg (by simp [h2, h3])]
  rw [hwait, (taken_agree s _).flag_same (f := F.ADCCAL_CTRL_SWAP) wm (adccalCtrl_ok hp) (by decide)]
  exact flag_of_written (f := F.ADCCAL_CTRL_SWAP) (merged_reg v w (adccalCtrl_ok hp))
    (d := ⟨"SWAP", 0, 1, .w1s, 0, []⟩) (by decide) ⟨rfl, rfl⟩ ⟨rfl, rfl⟩ hv

end swap

/-! ### Words of a correction table (R104) -/

/-- The array of word `k` of a half. -/
def calReg (k : Nat) : Reg := if k = 0 then .ADCCAL_OFFSET else if k = 1 then .ADCCAL_GAIN else .ADCCAL_LIN

/-- The number of word `k` of half `h` of slice `p` in its array. -/
def calIndex (p h k : Nat) : Nat := if k ≤ 1 then 2 * p + h else 16 * (2 * p + h) + (k - 2)

/-- A word is the offset, the gain, or one of the sixteen linear words. -/
theorem calWord_cases {k : Nat} (hk : k < 18) : k = 0 ∨ k = 1 ∨ (2 ≤ k ∧ k - 2 < 16) := by omega

theorem calReg_lin {k : Nat} (hk : 2 ≤ k) : calReg k = .ADCCAL_LIN := by
  rw [calReg, if_neg (by omega), if_neg (by omega)]

theorem calIndex_lin (p h : Nat) {k : Nat} (hk : 2 ≤ k) : calIndex p h k = 16 * (2 * p + h) + (k - 2) := if_neg (by omega)

/-- The array stays clear of orders, and has every bit of a word. -/
theorem calReg_plain (k : Nat) : calReg k ∉ orderRegs ∧ ∀ n, (calReg k).has n = 0xFFFFFFFF#32 := by
  unfold calReg
  split
  · exact ⟨by decide, fun _ => rfl⟩
  · split
    · exact ⟨by decide, fun _ => rfl⟩
    · exact ⟨by decide, fun _ => rfl⟩

/-- An array that lies in one page. -/
theorem page_of_array {r : Reg} {g n : Nat} (h : (List.range r.count).all (fun n => r.page n == g) = true) (hn : n < r.count) :
    r.page n = g := beq_iff_eq.mp (List.all_eq_true.mp h n (List.mem_range.mpr hn))

section table
variable {s : State} {q : Requester} {p h k : Nat} {v : Word} (hp : p < 9) (hh : h < 2) (hk : k < 18)
include hp hh hk

theorem cal_ok : (calReg k).ok (calIndex p h k) = true := by
  rcases calWord_cases hk with rfl | rfl | ⟨hlin, hq⟩
  · exact adccalOffset_ok (n := 2 * p + h) (by omega)
  · exact adccalGain_ok (n := 2 * p + h) (by omega)
  · rw [calReg_lin hlin, calIndex_lin p h hlin]
    exact ok_of_lt (m := 288) (by omega) (by decide) (by decide)

theorem cal_page : (calReg k).page (calIndex p h k) = 0x22 := by
  have hn := Reg.ok_lt (cal_ok hp hh hk)
  refine page_of_array ?_ hn
  rcases calWord_cases hk with rfl | rfl | ⟨hlin, -⟩
  · decide +kernel
  · decide +kernel
  · rw [calReg_lin hlin]
    decide +kernel

omit hp in
/-- A half that is closed to writes turns each of its words away. -/
theorem calClosed_word (hclosed : s.calHalfOpen p h = false) :
    s.calClosed (calReg k) (calIndex p h k) = some (s.wrIgnored p) := by
  have hslice : (2 * p + h) / 2 = p ∧ (2 * p + h) % 2 = h := by omega
  obtain ⟨hdiv, hmod⟩ := hslice
  have hclosed' : (if s.calHalfOpen ((2 * p + h) / 2) ((2 * p + h) % 2) then none else some (s.wrIgnored ((2 * p + h) / 2))) =
      some (s.wrIgnored p) := by rw [hdiv, hmod, hclosed]; rfl
  rcases calWord_cases hk with rfl | rfl | ⟨hlin, hq⟩
  · exact hclosed'
  · exact hclosed'
  · have hn : (16 * (2 * p + h) + (k - 2)) / 32 = p ∧ (16 * (2 * p + h) + (k - 2)) / 16 % 2 = h := by omega
    obtain ⟨hdiv, hmod⟩ := hn
    rw [calReg_lin hlin, calIndex_lin p h hlin, State.calClosed, hdiv, hmod, hclosed]
    rfl

end table

/-- The row writes the word. -/
theorem exec_adccalTableWrite (q : Requester) (p : Fin 9) (h : Fin 2) (k : Fin 18) (v : Word) (s : State) :
    exec (.adccalTableWrite q p h k v) s = .next (s.writeReg q (calReg k.val) (calIndex p.val h.val k.val) v) := by
  have hexec : exec (.adccalTableWrite q p h k v) s = execAdccalTableWrite q p h k v s := rfl
  rw [hexec, execAdccalTableWrite]
  rcases calWord_cases k.isLt with h0 | h1 | ⟨hlin, -⟩
  · rw [if_pos h0, h0]
    rfl
  · rw [if_neg (by omega), if_pos h1, h1]
    rfl
  · rw [if_neg (by omega), if_neg (by omega), calReg_lin hlin, calIndex_lin _ _ hlin]

theorem regWrite_calClosed {s t : State} {w : Who} (p : Nat) {r : Reg} {n : Nat} {v : Word} (hm : s.mayWrite w r n v = true)
    (hc : s.calClosed r n = some t) : s.regWrite w p r n v = t := by
  rw [State.regWrite, hm, hc]
  rfl

section words
variable {s : State} {q : Requester} {p h k : Nat} {v : Word} (w : Regs.wf s.regs = true) (hp : p < 9) (hh : h < 2) (hk : k < 18)
include w hp hh hk

/-- A word lands in an open half. -/
theorem calWord_lands (hadm : s.admits q (calReg k) (calIndex p h k) v = true) :
    ∃ t, s.writeReg q (calReg k) (calIndex p h k) v = t ∧ t.answer = .ok 0 ∧
      t.reg (calReg k) (calIndex p h k) = mergeWord (calReg k) (s.reg (calReg k) (calIndex p h k)) v ∧
      s.sameRegsBut t [(calReg k, calIndex p h k)] := by
  obtain ⟨hplain, hhas⟩ := calReg_plain k
  obtain ⟨t, ht, hans, hreg, hrest, -⟩ := writeLands_plain w (cal_ok hp hh hk) hadm hplain
  have hword (x : Word) : x &&& 0xFFFFFFFF#32 = x := BitVec.and_allOnes
  rw [hhas, hword] at hreg
  exact ⟨t, Host.Outcome.next.inj ht, hans, hreg, hrest⟩

/-- A word for a closed half is ignored. -/
theorem calWord_ignored (hq : s.performs q 0x22 = true)
    (hm : s.mayWrite (s.who q) (calReg k) (calIndex p h k) v = true) (hclosed : s.calHalfOpen p h = false) :
    ∃ t, s.writeReg q (calReg k) (calIndex p h k) v = t ∧
      t.reg (calReg k) (calIndex p h k) = s.reg (calReg k) (calIndex p h k) ∧ t.flag F.ADCCAL_STATUS_WR_IGNORED p = true := by
  have ok := cal_ok hp hh hk
  have hwrite := writeReg_performs s q _ _ v ok (by rw [cal_page hp hh hk]; exact hq)
  rw [regWrite_calClosed _ hm (calClosed_word hh hk hclosed)] at hwrite
  refine ⟨_, hwrite, ?_, wrIgnored_flag w hp⟩
  refine (wrIgnored_agree s p).regs w _ _ ok ?_
  rcases calWord_cases hk with rfl | rfl | ⟨hlin, -⟩
  · decide
  · decide
  · rw [calReg_lin hlin]
    decide

end words

/-! ### Scans and results (R115-R118) -/

section scan
variable {s : State} (w : Regs.wf s.regs = true)

theorem scanTrigger_other {src : Nat} (h : s.fget F.RESULT_CTRL_TRIG ≠ src) : s.scanTrigger src = s := by
  rw [State.scanTrigger, bne_iff_ne.mpr h, Bool.or_true]
  rfl

section soft
variable (hen : s.pageEn 0x23 = true) (htrig : s.fget F.RESULT_CTRL_TRIG = 2)
include hen htrig

theorem scanTrigger_merges (hscan : s.adc.scan.isSome = true) :
    s.scanTrigger 2 = (s.fsetB F.RESULT_STATUS_TRIG_MERGED 0 true).irq 0x23 3 := by
  rw [State.scanTrigger, hen, htrig, if_neg (by decide), if_pos hscan]

theorem scanTrigger_starts (hscan : s.adc.scan = none) :
    s.scanTrigger 2 = (s.fsetB F.RESULT_START_START 0 true).setScan (some s.now) := by
  rw [State.scanTrigger, hen, htrig, hscan, if_neg (by decide), if_neg (by decide), if_pos rfl]
  exact congrArg (fun x => (s.fsetB F.RESULT_START_START 0 true).setScan (some x)) (setReg_now _ _ _ _)

include w

/-- A soft trigger starts a scan (R116). -/
theorem taken_scan_starts (hscan : s.adc.scan = none) :
    let t := s.taken (s.scanTrigger 2)
    t.adc.scan = some s.now ∧ t.flag F.RESULT_START_START = true ∧ t.flag F.PAGE_STATUS_BUSY 0x23 = true := by
  have ws := fsetB_wf s F.RESULT_START_START 0 true w
  generalize hu : { s.fsetB F.RESULT_START_START 0 true with
    adc := { (s.fsetB F.RESULT_START_START 0 true).adc with scan := some s.now } } = u
  have wu : Regs.wf u.regs = true := hu ▸ ws
  have hstart : u.flag F.RESULT_START_START = true := hu ▸ flag_fsetB_same true w (by decide) (by decide)
  have hbusy := setBusy_agree u 0x23 true
  have wb := hbusy.regsWf wu
  have ht := taken_agree s (u.setBusy 0x23 true)
  have heq : s.scanTrigger 2 = u.setBusy 0x23 true := (scanTrigger_starts hen htrig hscan).trans (hu ▸ rfl)
  simp only [heq]
  refine ⟨?_, ?_, ?_⟩
  · rw [ht.adc_same (by decide), hbusy.adc_same (by decide), ← hu]
  · rw [ht.flag_same (f := F.RESULT_START_START) wb (by decide) (by decide),
      hbusy.flag_same (f := F.RESULT_START_START) wu (by decide) (by decide), hstart]
  · rw [ht.flag_same (f := F.PAGE_STATUS_BUSY) wb (pageStatus_ok (by decide)) (by decide)]
    exact flag_fsetB_same true wu (pageStatus_ok (by decide)) (by decide)

/-- A soft trigger while a scan is pending is merged with it (R116). -/
theorem taken_scan_merges (hscan : s.adc.scan.isSome = true) :
    let t := s.taken (s.scanTrigger 2)
    t.adc = s.adc ∧ t.flag F.RESULT_STATUS_TRIG_MERGED = true ∧ t.fbit F.PAGE_IRQ_SOURCES 0x23 3 = true := by
  have ws := fsetB_wf s F.RESULT_STATUS_TRIG_MERGED 0 true w
  have hirq := irq_agree (s.fsetB F.RESULT_STATUS_TRIG_MERGED 0 true) 0x23 3
  have wi := hirq.regsWf ws
  have ht := taken_agree s ((s.fsetB F.RESULT_STATUS_TRIG_MERGED 0 true).irq 0x23 3)
  simp only [scanTrigger_merges hen htrig hscan]
  refine ⟨?_, ?_, ?_⟩
  · rw [ht.adc_same (by decide), hirq.adc_same (by decide), fsetB_adc]
  · rw [ht.flag_same (f := F.RESULT_STATUS_TRIG_MERGED) wi (by decide) (by decide),
      hirq.flag_same (f := F.RESULT_STATUS_TRIG_MERGED) ws (by decide) (by decide)]
    exact flag_fsetB_same true w (by decide) (by decide)
  · rw [ht.fbit_same (f := F.PAGE_IRQ_SOURCES) wi (pageIrq_ok (by decide)) (by decide)]
    exact irq_sets ws (by decide) (by decide) (by decide)

end soft
end scan

theorem writeReg_resultStart {s : State} {q : Requester} {v : Word} (h : s.admits q .RESULT_START 0 v = true)
    (hv : bits v 0 1 = 1) :
    s.writeReg q .RESULT_START 0 v = s.taken (s.scanTrigger 2) :=
  writeReg_port (by decide) h (congrArg some (if_pos hv))

/-- A read of a result clears NEW, unless the debug port reads (R10, R118). -/
theorem resultRead_clears {s : State} (hwf : s.wf = true) (q : Requester) (i : Fin 32) (hq : s.performs q 0x23 = true) :
    ∃ t, exec (.resultRead q i) s = .next t ∧ t.answer = .ok (s.regWord .RESULT i.val).toNat ∧
      t.reg .RESULT i.val = (if (s.who q).cap = 7 then s.reg .RESULT i.val else s.reg .RESULT i.val &&& ~~~(0x80000000#32)) ∧
      s.sameRegsBut t [(.RESULT, i.val)] := by
  have ok : Reg.RESULT.ok i.val = true := ok_of_lt i.isLt (by decide) (by decide)
  have hpage : Reg.RESULT.page i.val = 0x23 := page_of_array (by decide +kernel) (Reg.ok_lt ok)
  have hmask : Reg.RESULT.rcMask = 0x80000000#32 := by decide
  have h := readClears s q .RESULT i.val hwf ok (by decide) (by rw [hpage]; exact hq) rfl
  rw [hmask] at h
  exact h

/-! ### The statement -/

/-- Settles O51: each command is a write whose effect is that of its register, or an event of the converter that can happen. -/
theorem converter : Obligations.Converter := by
  unfold Obligations.Converter
  intro s q v hwf
  have w : Regs.wf s.regs = true := State.wf_regs hwf
  have hset (i : Nat) (hi : bits (maskOf i 1) i 1 = 1) : bits (v ||| maskOf i 1) i 1 = 1 := bits_or_set v hi
  refine ⟨fun hedge hopen hlive hnext => ?_, fun p f hrunning hstate hclock hlive => ?_, fun h => ?_,
    fun hinit hclock hlive hpassed => ?_, fun h => ?_, fun p h => ?_, fun p h k => ⟨fun hadm => ?_, fun hq hm hclosed => ?_⟩, fun h => ?_,
    fun i hq => resultRead_clears hwf q i hq⟩
  · obtain ⟨hregs, hdecision⟩ := rotationDecision_decides ⟨hedge, hopen, domLive_acq_of_adcLive hlive, hnext⟩
    exact ⟨_, s.rotDecided, next_clocked hlive rfl, hregs, hdecision, rfl, rfl, rotDecided_off, rotDecided_noReady,
      fun hen hpage p hp hstate _ hfirst => rotDecided_rotates hen hpage hp hstate hfirst⟩
  · have hrun : s.calRuns p := ⟨hrunning, hstate, hclock⟩
    refine ⟨_, next_clocked hlive rfl, calRunDone_passes f w p.isLt hrun, calRunDone_init f hrun, fun hfail => ?_⟩
    obtain ⟨hflag, hirq⟩ := calRunDone_fails f w p.isLt hrun hfail
    exact ⟨hflag, hirq, calRunDone_fails_once f hrun hfail, calRunDone_fails_twice f w p.isLt hrun hfail⟩
  · exact ⟨_, congrArg Host.Outcome.next (writeReg_adcCtrl h), adcOrdered_init w (hset 3 (by decide))⟩
  · exact ⟨_, next_clocked hlive rfl, initDone_ends w ⟨hinit, hclock, hpassed⟩⟩
  · exact ⟨_, congrArg Host.Outcome.next (writeReg_adcCtrl h), adcOrdered_rotNow w (hset 1 (by decide))⟩
  · have hv := hset 0 (by decide)
    exact ⟨_, congrArg Host.Outcome.next (writeReg_swap p.isLt h hv), swapRequested_drops w p.isLt,
      swapRequested_waits w p.isLt hv⟩
  · obtain ⟨t, ht, heffect⟩ := calWord_lands w p.isLt h.isLt k.isLt hadm
    exact ⟨t, (exec_adccalTableWrite q p h k v s).trans (congrArg _ ht), heffect⟩
  · obtain ⟨t, ht, heffect⟩ := calWord_ignored w p.isLt h.isLt k.isLt hq hm hclosed
    exact ⟨t, (exec_adccalTableWrite q p h k v s).trans (congrArg _ ht), heffect⟩
  · refine ⟨_, congrArg Host.Outcome.next (writeReg_resultStart h (hset 0 (by decide))), taken_scan_starts w,
      taken_scan_merges w, fun htrig => ?_⟩
    rw [scanTrigger_other htrig, (taken_agree s s).adc_same (by decide)]

end Sys2Proof.Machine
end

section
/-!
PROOF. Rules of the resampler lanes: what a lane that breaks, a half that is filled and a swap leave, and the frame that a lane
takes.
-/

namespace Sys2Proof.Machine

/-! ### The registers and the parts of a lane -/

theorem rlCtrl_ok {l : Nat} (hl : l < 16) : Reg.RL_CTRL.ok l = true := ok_of_lt hl (by decide) (by decide)

theorem rlStatus_ok {l : Nat} (hl : l < 16) : Reg.RL_STATUS.ok l = true := ok_of_lt hl (by decide) (by decide)

theorem rlFill_ok {l : Nat} (hl : l < 16) : Reg.RL_FILL.ok l = true := ok_of_lt hl (by decide) (by decide)

theorem rlTblIdx_ok {l : Nat} (hl : l < 16) : Reg.RL_TBL_IDX.ok l = true := ok_of_lt hl (by decide) (by decide)

theorem fget_fsetB_ne {s : State} {f g : Fld} {n n' : Nat} (b : Bool) (w : Regs.wf s.regs = true) (ok' : g.reg.ok n' = true)
    (h : g.reg ≠ f.reg ∨ n' ≠ n) : (s.fsetB f n b).fget g n' = s.fget g n' := fget_fset_ne s f g n n' _ w ok' h

@[simp] theorem setLane_fget (s : State) (l : Nat) (x : Lane) (f : Fld) (n : Nat) : (s.setLane l x).fget f n = s.fget f n := rfl

@[simp] theorem setLane_rlDestOk (s : State) (l : Nat) (x : Lane) (k : Nat) : (s.setLane l x).rlDestOk k = s.rlDestOk k := rfl

theorem setLane_setLane (s : State) (l : Nat) (x y : Lane) : (s.setLane l x).setLane l y = s.setLane l y := by
  simp only [State.setLane, setAt_setAt]

/-! ### The next frame of a lane (R136) -/

/-- Lane `l`, which waits, runs on the grid of its settings and has no record on its way out, has the frame `f` next and `rest`
behind it. -/
structure State.laneNext (s : State) (l : Nat) (f : LaneFrame) (rest : List LaneFrame) : Prop where
  fifo : (s.lane l).fifo = f :: rest
  out : (s.lane l).out = []
  en : s.flag F.RL_CTRL_EN l = true
  page : s.pageEn (0x30 + l / 8) = true
  waits : s.fget F.RL_STATUS_STATE l = 1
  grid : (s.lane l).grid = (s.fget F.RL_CFG_M l, s.fget F.RL_CFG_REC_LOG2 l)

/-- Lane `l` with the frames `rest` in its FIFO, no point and no record in progress, and `frames` as its window. -/
def State.laneBroken (s : State) (l : Nat) (rest frames : List LaneFrame) : State :=
  s.setLane l { s.lane l with fifo := rest, frames := frames, point := none, part := none }

/-- A break of a lane that is not OFF (R135, R136). -/
theorem rlBreak_taken {s : State} {l : Nat} (rest frames : List LaneFrame) (h : s.fget F.RL_STATUS_STATE l ≠ 0) :
    (s.setLane l { s.lane l with fifo := rest }).rlBreak l frames =
      (s.laneBroken l rest frames).fset F.RL_STATUS_STATE l 1 := by
  have hstate : (s.setLane l { s.lane l with fifo := rest }).fget F.RL_STATUS_STATE l ≠ 0 := h
  rw [State.rlBreak, if_neg hstate, setLane_lane, if_pos rfl, setLane_setLane]
  rfl

section next
variable {s : State} {l : Nat} {f : LaneFrame} {rest : List LaneFrame} (h : s.laneNext l f rest)
include h

theorem rlGrid_of_next : s.rlGrid l = s := by
  rw [State.rlGrid]
  exact if_pos h.grid

/-- Nothing keeps the lane from taking its frame. -/
theorem laneRuns_of_next : (!(s.flag F.RL_CTRL_EN l && s.pageEn (0x30 + l / 8)) || (s.lane l).out != []) = false := by
  simp [h.en, h.page, h.out]

/-- A frame with a bad qualifier breaks. -/
theorem laneFrame_unqualified (hq : f.qual = 2) :
    s.laneFrame l = (s.laneBroken l rest []).fset F.RL_STATUS_STATE l 1 := by
  rw [State.laneFrame, rlGrid_of_next h, ← rlBreak_taken rest [] (by rw [h.waits]; decide)]
  simp only [h.fifo, laneRuns_of_next h, hq, Bool.false_eq_true, if_false, if_true]

/-- A frame for a destination that does not answer breaks, with DEST_OFF (R141). -/
theorem laneFrame_destOff (hq : f.qual ≠ 2) (hd : s.rlDestOk l = false) :
    s.laneFrame l = (((s.laneBroken l rest []).fset F.RL_STATUS_STATE l 1).fsetB F.RL_STATUS_DEST_OFF l true).irq
      (0x30 + l / 8) (16 + l % 8) := by
  rw [State.laneFrame, rlGrid_of_next h, ← rlBreak_taken rest [] (by rw [h.waits]; decide)]
  simp only [h.fifo, laneRuns_of_next h, hq, setLane_rlDestOk, hd, Bool.false_eq_true, if_false, Bool.not_false, if_true]

/-- A frame whose number does not follow breaks, and opens the next window. -/
theorem laneFrame_gap (hq : f.qual ≠ 2) (hd : s.rlDestOk l = true) {p : LaneFrame} (hp : (s.lane l).frames.getLast? = some p)
    (hgap : f.seq ≠ p.seq + 1) : s.laneFrame l = (s.laneBroken l rest [f]).fset F.RL_STATUS_STATE l 1 := by
  have hseq : (p.seq + 1 != f.seq) = true := bne_iff_ne.mpr (Ne.symm hgap)
  rw [State.laneFrame, rlGrid_of_next h, ← rlBreak_taken rest [f] (by rw [h.waits]; decide)]
  simp only [h.fifo, laneRuns_of_next h, hq, setLane_rlDestOk, hd, hp, hseq, Bool.true_or, Bool.not_true, Bool.false_eq_true,
    if_false, if_true]

/-- A first frame opens the window. -/
theorem laneFrame_first (hq : f.qual ≠ 2) (hd : s.rlDestOk l = true) (hframes : (s.lane l).frames = []) :
    s.laneFrame l = s.setLane l { s.lane l with fifo := rest, frames := [f] } := by
  rw [State.laneFrame, rlGrid_of_next h]
  simp only [h.fifo, laneRuns_of_next h, hq, setLane_rlDestOk, hd, hframes, List.getLast?_nil, Bool.not_true, Bool.false_eq_true,
    if_false]
  simp [setLane_setLane, h.waits]

end next

/-- What a break leaves. -/
theorem laneBroken_effect {s : State} {l : Nat} (rest frames : List LaneFrame) (w : Regs.wf s.regs = true) (hl : l < 16) :
    ((s.laneBroken l rest frames).fset F.RL_STATUS_STATE l 1).fget F.RL_STATUS_STATE l = 1 ∧
      ((s.laneBroken l rest frames).fset F.RL_STATUS_STATE l 1).chains.lanes = setAt Lane.reset s.chains.lanes l
        { s.lane l with fifo := rest, frames := frames, point := none, part := none } :=
  ⟨fget_fset_same (s.laneBroken l rest frames) F.RL_STATUS_STATE l 1 w (rlStatus_ok hl) (by decide),
    congrArg Chains.lanes (setReg_chains _ _ _ _)⟩

/-- DEST_OFF stands after the break that sets it, and the lane waits. -/
theorem laneBroken_destOff {s : State} {l : Nat} (rest : List LaneFrame) (w : Regs.wf s.regs = true) (hl : l < 16) :
    let t := (((s.laneBroken l rest []).fset F.RL_STATUS_STATE l 1).fsetB F.RL_STATUS_DEST_OFF l true).irq (0x30 + l / 8)
      (16 + l % 8)
    t.flag F.RL_STATUS_DEST_OFF l = true ∧ t.fget F.RL_STATUS_STATE l = 1 := by
  intro t
  have ok := rlStatus_ok hl
  have wb : Regs.wf ((s.laneBroken l rest []).fset F.RL_STATUS_STATE l 1).regs = true :=
    fset_wf (s.laneBroken l rest []) _ _ _ w
  have wd := fsetB_wf _ F.RL_STATUS_DEST_OFF l true wb
  obtain ⟨hstate, -⟩ := laneBroken_effect (s := s) rest [] w hl
  constructor
  · exact ((irq_agree _ _ _).flag_same (f := F.RL_STATUS_DEST_OFF) wd ok (by decide)).trans
      (flag_fsetB_same true wb ok (by decide))
  · exact ((irq_agree _ _ _).fget_same (f := F.RL_STATUS_STATE) wd ok (by decide)).trans
      ((fget_fset_field _ F.RL_STATUS_DEST_OFF F.RL_STATUS_STATE l 1 wb ok rfl (by decide)).trans hstate)

/-! ### The table halves (R137) -/

/-- No swap of lane `l` is carried out when its half is full: none waits, or the lane is not OFF. -/
def State.laneCalm (s : State) (l : Nat) : Prop := s.flag F.RL_CTRL_SWAP l = false ∨ s.fget F.RL_STATUS_STATE l ≠ 0

theorem rlSwapOff_of_calm {s : State} {l : Nat} (h : s.laneCalm l) : s.rlSwapOff l = s := by
  unfold State.rlSwapOff
  refine if_neg ?_
  rcases h with h | h <;> simp [h]

theorem Agree.laneCalm {M : Nat} {s t : State} (h : Agree M s t) (w : Regs.wf s.regs = true) {l : Nat} (hl : l < 16)
    (hc : M.testBit (64 + Reg.RL_CTRL.ctorIdx) = false) (hs : M.testBit (64 + Reg.RL_STATUS.ctorIdx) = false)
    (hcalm : s.laneCalm l) : t.laneCalm l := by
  rwa [State.laneCalm, h.flag_same (f := F.RL_CTRL_SWAP) w (rlCtrl_ok hl) hc,
    h.fget_same (f := F.RL_STATUS_STATE) w (rlStatus_ok hl) hs]

theorem showFill_agree (s : State) (l : Nat) : Agree (1 <<< (64 + Reg.RL_FILL.ctorIdx)) s (s.showFill l) :=
  State.showFill_touch (by decide) (.refl _ s)

theorem rlAdvance_agree (s : State) (l : Nat) : Agree (1 <<< (64 + Reg.RL_TBL_IDX.ctorIdx)) s (s.rlAdvance l) :=
  State.rlAdvance_touch (by decide) (.refl _ s)

theorem rsmpBusy_agree (s : State) (p : Nat) : Agree (1 <<< (64 + Reg.PAGE_STATUS.ctorIdx)) s (s.rsmpBusy p) :=
  State.rsmpBusy_touch (by decide) (.refl _ s)

/-- INDEX after an access to the data port: the next entry, or the first after the last. -/
theorem rlAdvance_index {s : State} {l : Nat} (w : Regs.wf s.regs = true) (hl : l < 16) :
    (s.rlAdvance l).fget F.RL_TBL_IDX_INDEX l =
      (if s.flag F.RL_TBL_IDX_AUTOINC l then (if 82 ≤ s.fget F.RL_TBL_IDX_INDEX l then 0 else s.fget F.RL_TBL_IDX_INDEX l + 1)
        else s.fget F.RL_TBL_IDX_INDEX l) := by
  unfold State.rlAdvance
  split
  · refine (fget_fset_same s F.RL_TBL_IDX_INDEX l _ w (rlTblIdx_ok hl) (by decide)).trans (Nat.mod_eq_of_lt ?_)
    rw [show F.RL_TBL_IDX_INDEX.width = 7 from rfl]
    split <;> omega
  · rfl

/-- Lane `l` with the word `v` in the entry of its inactive half that INDEX names. -/
def State.laneWritten (s : State) (l : Nat) (v : Word) : Lane :=
  let i := s.fget F.RL_TBL_IDX_INDEX l
  { s.lane l with table := tblPut (s.lane l).table (128 * (1 - s.fget F.RL_STATUS_HALF l) + i) v.toNat,
                  written := if (s.lane l).written.contains i then (s.lane l).written else (s.lane l).written ++ [i] }

theorem rlWrite_calm {s : State} {l : Nat} (v : Word) (w : Regs.wf s.regs = true) (hl : l < 16)
    (hcopy : s.flag F.RL_CTRL_COPY l = false) (hcalm : s.laneCalm l) :
    s.rlWrite l v = ((s.setLane l (s.laneWritten l v)).showFill l).rlAdvance l := by
  have hfill := showFill_agree (s.setLane l (s.laneWritten l v)) l
  have hcalm' : (((s.setLane l (s.laneWritten l v)).showFill l).rlAdvance l).laneCalm l :=
    (rlAdvance_agree _ l).laneCalm (hfill.regsWf w) hl (by decide) (by decide)
      (hfill.laneCalm w hl (by decide) (by decide) hcalm)
  unfold State.rlWrite
  rw [if_neg (by rw [hcopy]; decide)]
  exact rlSwapOff_of_calm hcalm'

/-- A write to the data port of a lane that takes it. -/
theorem writeReg_tblData {s : State} {q : Requester} {l : Nat} {v : Word} (w : Regs.wf s.regs = true) (hl : l < 16)
    (h : s.admits q .RL_TBL_DATA l v = true) (hcopy : s.flag F.RL_CTRL_COPY l = false) (hcalm : s.laneCalm l) :
    (s.writeReg q .RL_TBL_DATA l v).answer = .ok 0 ∧
      (s.writeReg q .RL_TBL_DATA l v).chains.lanes = setAt Lane.reset s.chains.lanes l (s.laneWritten l v) ∧
      (s.writeReg q .RL_TBL_DATA l v).fget F.RL_TBL_IDX_INDEX l =
        (if s.flag F.RL_TBL_IDX_AUTOINC l then (if 82 ≤ s.fget F.RL_TBL_IDX_INDEX l then 0 else s.fget F.RL_TBL_IDX_INDEX l + 1)
          else s.fget F.RL_TBL_IDX_INDEX l) := by
  have okidx := rlTblIdx_ok hl
  rw [writeReg_port (ok_of_lt hl (by decide) (by decide)) h rfl, rlWrite_calm v w hl hcopy hcalm]
  have hfill := showFill_agree (s.setLane l (s.laneWritten l v)) l
  have wf := hfill.regsWf w
  have hadv := rlAdvance_agree ((s.setLane l (s.laneWritten l v)).showFill l) l
  have ht := taken_agree s (((s.setLane l (s.laneWritten l v)).showFill l).rlAdvance l)
  refine ⟨rfl, ?_, ?_⟩
  · rw [ht.chains_same (by decide), hadv.chains_same (by decide), hfill.chains_same (by decide)]
    rfl
  · rw [ht.fget_same (f := F.RL_TBL_IDX_INDEX) (hadv.regsWf wf) okidx (by decide), rlAdvance_index wf hl,
      hfill.fget_same (f := F.RL_TBL_IDX_INDEX) w okidx (by decide),
      hfill.flag_same (f := F.RL_TBL_IDX_AUTOINC) w okidx (by decide)]
    rfl

/-- The tables of lane `l` with the inactive half equal to the active one. -/
def State.tableCopied (s : State) (l : Nat) : List (Nat × Nat) :=
  (List.range 83).foldl (fun t e => tblPut t (128 * (1 - s.fget F.RL_STATUS_HALF l) + e)
    (tblGet (s.lane l).table (128 * s.fget F.RL_STATUS_HALF l + e))) (s.lane l).table

/-- Lane `l` with its inactive half equal to the active one. -/
def State.laneCopied (s : State) (l : Nat) : Lane := { s.lane l with table := s.tableCopied l, written := List.range 83 }

theorem rlCopyDone_calm {s : State} {l : Nat} (w : Regs.wf s.regs = true) (hl : l < 16)
    (hcopy : s.flag F.RL_CTRL_COPY l = true) (hcalm : s.laneCalm l) :
    s.rlCopyDone l = (((s.setLane l (s.laneCopied l)).showFill l).fsetB F.RL_CTRL_COPY l false).rsmpBusy (l / 8) := by
  have hfill := showFill_agree (s.setLane l (s.laneCopied l)) l
  have wf := hfill.regsWf w
  have hclear : (((s.setLane l (s.laneCopied l)).showFill l).fsetB F.RL_CTRL_COPY l false).laneCalm l := by
    have h := hfill.laneCalm w hl (by decide) (by decide) hcalm
    rwa [State.laneCalm, flag_fsetB_field (f := F.RL_CTRL_COPY) (g := F.RL_CTRL_SWAP) false wf (rlCtrl_ok hl) rfl (by decide),
      fget_fsetB_ne (f := F.RL_CTRL_COPY) (g := F.RL_STATUS_STATE) false wf (rlStatus_ok hl) (Or.inl (by decide))]
  unfold State.rlCopyDone
  rw [if_neg (by rw [hcopy]; decide)]
  exact rlSwapOff_of_calm ((rsmpBusy_agree _ _).laneCalm (fsetB_wf _ _ _ _ wf) hl (by decide) (by decide) hclear)

/-- What the end of a COPY leaves. -/
theorem rlCopyDone_effect {s : State} {l : Nat} (w : Regs.wf s.regs = true) (hl : l < 16)
    (hcopy : s.flag F.RL_CTRL_COPY l = true) (hcalm : s.laneCalm l) :
    (s.rlCopyDone l).flag F.RL_CTRL_COPY l = false ∧
      (s.rlCopyDone l).chains.lanes = setAt Lane.reset s.chains.lanes l (s.laneCopied l) := by
  have hfill := showFill_agree (s.setLane l (s.laneCopied l)) l
  have wf := hfill.regsWf w
  rw [rlCopyDone_calm w hl hcopy hcalm]
  have hbusy := rsmpBusy_agree (((s.setLane l (s.laneCopied l)).showFill l).fsetB F.RL_CTRL_COPY l false) (l / 8)
  constructor
  · rw [hbusy.flag_same (f := F.RL_CTRL_COPY) (fsetB_wf _ _ _ _ wf) (rlCtrl_ok hl) (by decide)]
    exact flag_fsetB_same false wf (rlCtrl_ok hl) (by decide)
  · rw [hbusy.chains_same (by decide), fsetB_chains, hfill.chains_same (by decide)]
    rfl

/-! ### Swaps (R138) -/

/-- What a swap may touch. -/
def swapMask : Nat :=
  pulseMask ||| 1 <<< 21 ||| 1 <<< (64 + Reg.RL_CTRL.ctorIdx) ||| 1 <<< (64 + Reg.RL_STATUS.ctorIdx) |||
    1 <<< (64 + Reg.RL_FILL.ctorIdx)

theorem rlSwapOff_agree (s : State) (l : Nat) : Agree swapMask s (s.rlSwapOff l) := State.rlSwapOff_touch (by decide) (.refl _ s)

theorem rlOff_agree (s : State) (l : Nat) : Agree swapMask s (s.rlOff l) := State.rlOff_touch (by decide) (.refl _ s)

/-- Lane `l` with its halves swapped, before its registers show it. -/
def State.laneSwapped (s : State) (l : Nat) : State :=
  ((s.setLane l { s.lane l with written := [], swaps := [] }).fset F.RL_STATUS_HALF l
    (1 - s.fget F.RL_STATUS_HALF l)).fsetB F.RL_CTRL_SWAP l false

theorem rlSwapNow_off (s : State) (l : Nat) :
    s.rlSwapNow l none = ((s.laneSwapped l).showFill l).irq (0x30 + l / 8) (8 + l % 8) := rfl

section swap
variable {s : State} {l : Nat} (w : Regs.wf s.regs = true) (hl : l < 16)
include w hl

/-- A swap ends the request, and swaps the halves. -/
theorem laneSwapped_effect : (s.laneSwapped l).flag F.RL_CTRL_SWAP l = false ∧
    (s.laneSwapped l).flag F.RL_CTRL_COPY l = s.flag F.RL_CTRL_COPY l ∧
    (s.laneSwapped l).fget F.RL_STATUS_HALF l = 1 - s.fget F.RL_STATUS_HALF l := by
  have okc := rlCtrl_ok hl
  have oks := rlStatus_ok hl
  generalize hu : (s.setLane l { s.lane l with written := [], swaps := [] }).fset F.RL_STATUS_HALF l
    (1 - s.fget F.RL_STATUS_HALF l) = u
  have wu : Regs.wf u.regs = true := hu ▸ fset_wf _ _ _ _ w
  have hcopy : u.flag F.RL_CTRL_COPY l = s.flag F.RL_CTRL_COPY l := hu ▸
    congrArg (· != 0) (fget_fset_ne (s.setLane l { s.lane l with written := [], swaps := [] }) F.RL_STATUS_HALF F.RL_CTRL_COPY l l
      _ w okc (Or.inl (by decide)))
  have hhalf : u.fget F.RL_STATUS_HALF l = 1 - s.fget F.RL_STATUS_HALF l := by
    rw [← hu]
    refine (fget_fset_same (s.setLane l { s.lane l with written := [], swaps := [] }) F.RL_STATUS_HALF l _ w oks (by decide)).trans
      (Nat.mod_eq_of_lt ?_)
    rw [show F.RL_STATUS_HALF.width = 1 from rfl]
    omega
  rw [State.laneSwapped, hu]
  exact ⟨flag_fsetB_same false wu okc (by decide),
    (flag_fsetB_field (f := F.RL_CTRL_SWAP) (g := F.RL_CTRL_COPY) false wu okc rfl (by decide)).trans hcopy,
    (fget_fsetB_ne (g := F.RL_STATUS_HALF) false wu oks (Or.inl (by decide))).trans hhalf⟩

/-- A swap of a lane that is OFF, as its registers show it. -/
theorem rlSwapNow_off_effect : (s.rlSwapNow l none).flag F.RL_CTRL_SWAP l = false ∧
    (s.rlSwapNow l none).flag F.RL_CTRL_COPY l = s.flag F.RL_CTRL_COPY l ∧
    (s.rlSwapNow l none).fget F.RL_STATUS_HALF l = 1 - s.fget F.RL_STATUS_HALF l ∧
    (s.rlSwapNow l none).fbit F.PAGE_IRQ_SOURCES (0x30 + l / 8) (8 + l % 8) = true := by
  have okc := rlCtrl_ok hl
  obtain ⟨hswap, hcopy, hhalf⟩ := laneSwapped_effect w hl
  have wx : Regs.wf (s.laneSwapped l).regs = true := fsetB_wf _ _ _ _ (fset_wf _ _ _ _ w)
  have hfill := showFill_agree (s.laneSwapped l) l
  have wf := hfill.regsWf wx
  rw [rlSwapNow_off]
  have hirq := irq_agree ((s.laneSwapped l).showFill l) (0x30 + l / 8) (8 + l % 8)
  refine ⟨?_, ?_, ?_, irq_sets wf (by omega) (by omega) (by omega)⟩
  · rw [hirq.flag_same (f := F.RL_CTRL_SWAP) wf okc (by decide), hfill.flag_same (f := F.RL_CTRL_SWAP) wx okc (by decide), hswap]
  · rw [hirq.flag_same (f := F.RL_CTRL_COPY) wf okc (by decide), hfill.flag_same (f := F.RL_CTRL_COPY) wx okc (by decide), hcopy]
  · rw [hirq.fget_same (f := F.RL_STATUS_HALF) wf (rlStatus_ok hl) (by decide),
      hfill.fget_same (f := F.RL_STATUS_HALF) wx (rlStatus_ok hl) (by decide), hhalf]

/-- A swap of a lane that is OFF leaves a COPY under way. -/
theorem rlSwapOff_copy : (s.rlSwapOff l).flag F.RL_CTRL_COPY l = s.flag F.RL_CTRL_COPY l := by
  unfold State.rlSwapOff
  split
  · obtain ⟨-, hcopy, -⟩ := rlSwapNow_off_effect w hl
    exact hcopy
  · rfl

/-- So does a lane that goes OFF. -/
theorem rlOff_copy : (s.rlOff l).flag F.RL_CTRL_COPY l = s.flag F.RL_CTRL_COPY l := by
  have hstop (x : Lane) : ((s.setLane l x).fset F.RL_STATUS_STATE l 0).flag F.RL_CTRL_COPY l = s.flag F.RL_CTRL_COPY l :=
    congrArg (· != 0) (fget_fset_ne (s.setLane l x) F.RL_STATUS_STATE F.RL_CTRL_COPY l l 0 w (rlCtrl_ok hl) (Or.inl (by decide)))
  have hwf (x : Lane) : Regs.wf ((s.setLane l x).fset F.RL_STATUS_STATE l 0).regs = true := fset_wf (s.setLane l x) _ _ _ w
  unfold State.rlOff
  split
  · rfl
  · exact (rlSwapOff_copy (hwf _) hl).trans (hstop _)

/-- A page in which a COPY runs is busy. -/
theorem rsmpBusy_set (h : s.flag F.RL_CTRL_COPY l = true) : (s.rsmpBusy (l / 8)).flag F.PAGE_STATUS_BUSY (0x30 + l / 8) = true := by
  have hany : (List.range 8).any (fun j => s.flag F.RL_CTRL_COPY (8 * (l / 8) + j)) = true :=
    List.any_eq_true.mpr ⟨l % 8, List.mem_range.mpr (Nat.mod_lt l (by decide)), by rw [Nat.div_add_mod]; exact h⟩
  rw [State.rsmpBusy, State.setBusy, hany]
  exact flag_fsetB_same true w (pageStatus_ok (by omega)) (by decide)

end swap

end Sys2Proof.Machine
end

section
/-!
PROOF. What the line writers leave: no head of a page but those of their own pages, of the retention and of the log of bus errors.
-/

namespace Sys2Proof.Machine

/-- From a canonical register file, `t` has one too, and PAGE_STATUS and PAGE_IRQ of page `p` stand. -/
def HeadKept (p : Nat) (s t : State) : Prop :=
  Regs.wf s.regs = true →
    Regs.wf t.regs = true ∧ t.reg .PAGE_STATUS p = s.reg .PAGE_STATUS p ∧ t.reg .PAGE_IRQ p = s.reg .PAGE_IRQ p

/-- The pages whose heads the line writers may change: SYS, RETN, EVR0, LINE and PEG. -/
def writerPages : List Nat := [0x00, 0x07, 0x08, 0x38, 0x39]

/-- Page `p` is none of them. -/
def writersLeave (p : Nat) : Prop := p < 256 ∧ p ∉ writerPages

theorem writersLeave.ne {p q : Nat} (h : writersLeave p) (hq : q ∈ writerPages) : p ≠ q := fun e => h.2 (e ▸ hq)

namespace HeadKept
variable {p : Nat} {s t u : State}

theorem of_regs (h : t.regs = s.regs) : HeadKept p s t := fun w =>
  ⟨by rwa [h], reg_of_regs h _ _, reg_of_regs h _ _⟩

theorem refl (p : Nat) (s : State) : HeadKept p s s := .of_regs rfl

theorem trans (h : HeadKept p s t) (k : HeadKept p t u) : HeadKept p s u := fun w => by
  obtain ⟨wt, hs, hi⟩ := h w
  obtain ⟨wu, ks, ki⟩ := k wt
  exact ⟨wu, ks.trans hs, ki.trans hi⟩

/-- A change that begins with one outside the register file. -/
theorem of_same (k : HeadKept p t u) (h : t.regs = s.regs) : HeadKept p s u := (HeadKept.of_regs h).trans k

theorem ite {c : Prop} [Decidable c] (h : HeadKept p s t) (k : HeadKept p s u) : HeadKept p s (if c then t else u) := by
  split
  · exact h
  · exact k

theorem forEach {α : Type} {f : α → State → State} (hf : ∀ x t, HeadKept p t (f x t)) (xs : List α) (s : State) :
    HeadKept p s (forEach xs f s) := by
  unfold Sys2Proof.Machine.forEach
  induction xs generalizing s with
  | nil => exact .refl p s
  | cons x xs ih => exact (hf x s).trans (ih (f x s))

theorem of_frame {L : List (Reg × Nat)} (h : RegFrame L s t) (hp : p < 256) (hs : (Reg.PAGE_STATUS, p) ∉ L)
    (hi : (Reg.PAGE_IRQ, p) ∉ L) : HeadKept p s t := fun w =>
  ⟨(h w).1, h.reg w (pageStatus_ok hp) hs, h.reg w (pageIrq_ok hp) hi⟩

theorem of_agree {M : Nat} (h : Agree M s t) (hp : p < 256) (hs : M.testBit (64 + Reg.PAGE_STATUS.ctorIdx) = false)
    (hi : M.testBit (64 + Reg.PAGE_IRQ.ctorIdx) = false) : HeadKept p s t := fun w =>
  ⟨h.regsWf w, h.regs w _ _ (pageStatus_ok hp) hs, h.regs w _ _ (pageIrq_ok hp) hi⟩

end HeadKept

section heads
variable {p : Nat} (hp : writersLeave p)
include hp

/-- A store to a register that heads no page, or that heads another. -/
theorem setReg_heads (s : State) {r : Reg} {n : Nat} (v : Word) (h : r ≠ .PAGE_STATUS ∧ r ≠ .PAGE_IRQ ∨ n ≠ p) :
    HeadKept p s (s.setReg r n v) := fun w => by
  obtain ⟨hp, -⟩ := hp
  refine ⟨setReg_wf _ _ _ _ w, reg_setReg_ne _ _ w (pageStatus_ok hp) ?_, reg_setReg_ne _ _ w (pageIrq_ok hp) ?_⟩
  · exact h.imp (fun h => (h.1).symm) Ne.symm
  · exact h.imp (fun h => (h.2).symm) Ne.symm

/-- An interrupt of another page. -/
theorem irq_heads (s : State) {q : Nat} (b : Nat) (hq : q ∈ writerPages) : HeadKept p s (s.irq q b) :=
  .of_frame (irq_frame s q b) hp.1 (by simp [tapRegs]) (by simp [tapRegs, hp.ne hq, hp.ne (q := 0x08) (by decide)])

theorem pulse_heads (s : State) (g : Nat) : HeadKept p s (s.pulse g) :=
  .of_frame (pulseWith_frame s g genMergedTaps_frame) hp.1 (by simp [tapRegs]) (pageIrq_not_tapped (hp.ne (by decide)))

/-! ### The writer, its pegs and the short line -/

theorem writerState_heads (s : State) : HeadKept p s s.writerState :=
  .ite (.refl p s) ((setReg_heads hp (r := .LINE_WSTATE) s _ (.inl (by decide))).trans (irq_heads hp _ 1 (by decide)))

theorem lineWShow_heads (s : State) : HeadKept p s s.lineWShow :=
  .of_agree (M := 1 <<< (64 + Reg.LINE_WSTATE.ctorIdx)) (State.lineWShow_touch (by decide) (.refl _ s)) hp.1 (by decide) (by decide)

theorem pegHold_heads (s : State) (i : Nat) (short : Bool) : HeadKept p s (s.pegHold i short) := by
  unfold State.pegHold
  exact (irq_heads hp (q := 0x39) _ 0 (by decide)).of_same rfl

theorem pegSettle_heads (s : State) (l : Nat) : HeadKept p s (s.pegSettle l) :=
  .forEach (fun _ t => .ite (pegHold_heads hp t _ _) (.refl p t)) _ s

theorem pegGrow_heads (s : State) (l b : Nat) : HeadKept p s (s.pegGrow l b) := by
  refine .forEach (fun i t => .ite (.refl p t) (.ite (pegHold_heads hp t i true) ?_)) _ s
  exact .of_regs rfl

theorem pegStop_heads (s : State) (l next : Nat) : HeadKept p s (s.pegStop l next) :=
  HeadKept.trans (.forEach (fun _ t => .ite (pegHold_heads hp t _ _) (.ite (pegHold_heads hp t _ _) (.refl p t))) _ s)
    (pegSettle_heads hp _ l)

theorem govAdmit_heads (s : State) (fuel : Nat) : HeadKept p s (s.govAdmit fuel) :=
  .of_agree (M := 0x40000c) (State.govAdmit_touch (by decide) (.refl _ s)) hp.1 (by decide) (by decide)

theorem lineShow_heads (s : State) (l : Nat) : HeadKept p s (s.lineShow l) :=
  .of_agree (M := 1 <<< (64 + Reg.LINE_AVAIL.ctorIdx) ||| 1 <<< (64 + Reg.LINE_STATUS.ctorIdx))
    (State.lineShow_touch (by decide) (.refl _ s)) hp.1 (by decide) (by decide)

theorem placeBlock_heads (s : State) (l : Nat) (bytes : List Byte) : HeadKept p s (s.placeBlock l bytes) := by
  unfold State.placeBlock
  extract_lets +onlyGivenNames n b x s1 s2 lines s3 s4
  have h2 : HeadKept p s s2 :=
    HeadKept.of_same (t := s1) (.ite (setReg_heads hp _ _ (.inl (by decide))) (.refl p s1)) rfl
  have h4 : HeadKept p s s4 := (h2.trans (.of_regs rfl)).trans (pegGrow_heads hp s3 l b)
  split
  extract_lets +onlyGivenNames s5 y s6 s7
  have h6 : HeadKept p s s6 := 
    ((h4.trans (pegStop_heads hp s4 l _)).trans (setReg_heads hp (r := .LINE_WR) s5 _ (.inl (by decide)))).trans (.of_regs rfl)
  have h7 : HeadKept p s s7 := h6.trans (.ite (govAdmit_heads hp s6 1) (.refl p s6))
  exact (h7.trans (lineShow_heads hp s7 l)).trans (lineWShow_heads hp _)

/-! ### A write to an SRAM by the line writer -/

theorem setBusy_heads (s : State) {q : Nat} (b : Bool) (hq : q ∈ writerPages) : HeadKept p s (s.setBusy q b) :=
  setReg_heads hp (r := .PAGE_STATUS) s _ (.inr (hp.ne hq).symm)

theorem unverClear_heads (s : State) (d b : Nat) : HeadKept p s (s.unverClear d b) := by
  have hset := setReg_heads hp (r := .RETN_UNVER) s (n := (retnBit d b).1) (withBits (s.reg .RETN_UNVER (retnBit d b).1)
    (F.RETN_UNVER_UNVER.lo + (retnBit d b).2) 1 0) (.inl (by decide))
  exact hset.trans (.ite ((setBusy_heads hp (q := 0x07) _ _ (by decide)).trans (irq_heads hp _ 2 (by decide))) (.refl p _))

theorem unverWrite_heads (s : State) (d off n : Nat) : HeadKept p s (s.unverWrite d off n) := by
  refine .forEach (fun k t => .ite ((unverClear_heads hp t d (off / 65536 + k)).trans ?_) (.refl p t)) _ s
  exact setReg_heads hp (r := .RETN_STATUS) _ _ (.inl (by decide))

theorem logBusErr_heads (s : State) (a : Nat) (wr : Bool) (src cause : Nat) : HeadKept p s (s.logBusErr a wr src cause) :=
  .of_frame (logBusErr_frame s a wr src cause) hp.1 (by simp [logRegs])
    (by simp [logRegs, hp.ne (q := 0x00) (by decide), hp.ne (q := 0x08) (by decide)])

theorem sramOwnWrite_heads (s : State) (src a : Nat) (bs : List Byte) : HeadKept p s (s.sramOwnWrite src a bs) := by
  unfold State.sramOwnWrite
  split
  · exact .refl p s
  · exact .ite ((unverWrite_heads hp s _ _ _).trans (.of_regs rfl)) (logBusErr_heads hp s _ _ _ _)

/-! ### Blocks and flushes -/

theorem toShort_heads (s : State) (l : Nat) (bytes : List Byte) : HeadKept p s (s.toShort l bytes) := by
  have hdrop (t : State) : HeadKept p t ((t.faddSat F.LINE_SHORT_DROP_COUNT 0 1).irq 0x38 3) :=
    (setReg_heads hp (r := .LINE_SHORT_DROP) t _ (.inl (by decide))).trans (irq_heads hp _ 3 (by decide))
  unfold State.toShort
  extract_lets +onlyGivenNames count drop put
  have hput (t : State) : HeadKept p t (put t) := (sramOwnWrite_heads hp t 9 _ bytes).trans (.of_regs rfl)
  refine .ite (hdrop s) (.ite (.ite ?_ (hdrop s)) ?_)
  · refine HeadKept.trans ?_ (hdrop _)
    exact (hput _).of_same rfl
  · extract_lets +onlyGivenNames s1 wm s2
    have h2 : HeadKept p s s2 := (hput s).trans (lineWShow_heads hp s1)
    exact h2.trans (.ite ((irq_heads hp s2 2 (by decide)).trans (pulse_heads hp _ _)) (.refl p s2))

theorem completeBlock_heads (s : State) (l : Nat) : HeadKept p s (s.completeBlock l) := by
  unfold State.completeBlock
  extract_lets +onlyGivenNames x s1 st seq
  have hseq (t : State) (k : Nat) : HeadKept p t (t.set64 .LINE_SEQ_LO .LINE_SEQ_HI l k) :=
    (setReg_heads hp t _ (.inl (by decide))).trans (setReg_heads hp _ _ (.inl (by decide)))
  split
  split
  extract_lets +onlyGivenNames word0 bytes s2 s3 s4
  have h3 : HeadKept p s s3 := ((writerState_heads hp s).trans (hseq s1 _)).trans (.of_regs rfl)
  have h4 : HeadKept p s s4 := h3.trans (.ite (placeBlock_heads hp s3 l bytes) (toShort_heads hp s3 l bytes))
  exact h4.trans (lineWShow_heads hp s4)

theorem lineFlush_heads (s : State) (l : Nat) : HeadKept p s (s.lineFlush l) := by
  unfold State.lineFlush
  extract_lets +onlyGivenNames x waits
  refine .ite (.refl p s) ?_
  extract_lets +onlyGivenNames s1
  have h1 : HeadKept p s s1 := .ite (.refl p s) (completeBlock_heads hp s l)
  exact h1.trans ((setReg_heads hp (r := .LINE_CTRL) _ _ (.inl (by decide))).of_same rfl)

/-- The line writers leave the head of a page that is not theirs. -/
theorem lineWriters_heads (s : State) : HeadKept p s s.lineWriters := by
  unfold State.lineWriters
  extract_lets +onlyGivenNames strLine strOld rl strs rls all
  refine .forEach (fun l t => ?_) _ s
  extract_lets +onlyGivenNames w x
  refine .ite (.refl p t) ?_
  extract_lets +onlyGivenNames t1 x1
  have h1 : HeadKept p t t1 := (lineFlush_heads hp _ l).of_same rfl
  exact h1.trans (.ite (.of_regs rfl) (.refl p t1))

end heads

end Sys2Proof.Machine
end

section
/-!
PROOF. The writes to STR_CTRL and RL_CTRL: HDR_NOW, COPY and SWAP.
-/

namespace Sys2Proof.Machine

/-! ### A write to a register with staged fields -/

/-- The word of a write of `v` stands in register `n` of array `r`, and a staged setting waits for its edge (R236). -/
def State.mergedStaged (s : State) (r : Reg) (n : Nat) (v : Word) : State := (s.merged r n v).noteStaged s r n

theorem mergedStaged_agree {M : Nat} (s : State) {r : Reg} (hb : M.testBit (64 + r.ctorIdx) = true)
    (hM : sub 0x2000000000 M = true) (n : Nat) (v : Word) : Agree M s (s.mergedStaged r n v) :=
  State.noteStaged_touch hM hb (merged_agree s hb n v)

theorem mergedStaged_reg {s : State} {r : Reg} {n : Nat} (v : Word) (w : Regs.wf s.regs = true) (ok : r.ok n = true) :
    (s.mergedStaged r n v).reg r n = mergeWord r (s.reg r n) v :=
  (reg_of_regs (noteStaged_regs _ _ _ _) r n).trans (merged_reg v w ok)

/-- A write to a register that has all its bits is the stored word and what follows it. -/
theorem writeReg_staged {s : State} {q : Requester} {r : Reg} {n : Nat} {v : Word} {f : State → State} (ok : r.ok n = true)
    (h : s.admits q r n v = true) (hp : s.portWrite (s.who q) r n v = none)
    (hland : s.landWrite (s.who q) r n v =
      f ((s.setReg r n (mergeWord r (s.reg r n) v &&& 0xFFFFFFFF#32)).noteStaged s r n)) :
    s.writeReg q r n v = s.taken (f (s.mergedStaged r n v)) := by
  have hword (x : Word) : x &&& 0xFFFFFFFF#32 = x := BitVec.and_allOnes
  rw [writeReg_taken ok h hp, hland, hword]
  rfl

/-- HDR_NOW asks for a header (R131). -/
theorem writeReg_hdrNow {s : State} {q : Requester} {i : Nat} {v : Word} (w : Regs.wf s.regs = true) (hi : i < 64)
    (h : s.admits q .STR_CTRL i v = true) (hv : bits v 31 1 = 1) :
    (s.writeReg q .STR_CTRL i v).answer = .ok 0 ∧ (s.writeReg q .STR_CTRL i v).flag F.STR_CTRL_HDR_NOW i = true := by
  have ok : Reg.STR_CTRL.ok i = true := ok_of_lt hi (by decide) (by decide)
  have hu := mergedStaged_agree (M := landMask) s (r := .STR_CTRL) (by decide) (by decide) i v
  rw [writeReg_staged (f := id) ok h rfl rfl]
  refine ⟨rfl, ((taken_agree s _).flag_same (f := F.STR_CTRL_HDR_NOW) (hu.regsWf w) ok (by decide)).trans ?_⟩
  exact flag_of_written (f := F.STR_CTRL_HDR_NOW) (mergedStaged_reg v w ok) (d := ⟨"HDR_NOW", 31, 1, .w1s, 0, []⟩) (by decide)
    ⟨rfl, rfl⟩ ⟨rfl, rfl⟩ hv

/-! ### What follows a write to RL_CTRL -/

/-- Lane `l` after a write to RL_CTRL: it may go OFF while no epochs run, and a swap that waits may be carried out. -/
def State.rlSettled (s : State) (l : Nat) : State := (if s.epoch.running then s else s.rlOff l).rlSwapOff l

/-- BUSY of the page follows, and while no epochs run the line writers do. -/
def State.rlOrdered (s : State) (l : Nat) : State :=
  if s.epoch.running then (s.rlSettled l).rsmpBusy (l / 8) else ((s.rlSettled l).rsmpBusy (l / 8)).lineWriters

theorem writeReg_rlCtrl {s : State} {q : Requester} {l : Nat} {v : Word} (hl : l < 16) (h : s.admits q .RL_CTRL l v = true) :
    s.writeReg q .RL_CTRL l v = s.taken ((s.mergedStaged .RL_CTRL l v).rlOrdered l) :=
  writeReg_staged (f := fun t => t.rlOrdered l) (rlCtrl_ok hl) h rfl rfl

/-- What the line writers may touch. -/
def lineWritersMask : Nat := 0xf90600000000000000000000000000000000001840000000000001c18000000000040020c

theorem lineWriters_agree (s : State) : Agree lineWritersMask s s.lineWriters := State.lineWriters_touch (by decide) (.refl _ s)

theorem rlSettled_agree (s : State) (l : Nat) : Agree swapMask s (s.rlSettled l) :=
  (Agree.ite (.refl _ s) (rlOff_agree s l)).trans (rlSwapOff_agree _ l)

theorem rlOrdered_agree (s : State) (l : Nat) :
    Agree (swapMask ||| lineWritersMask ||| 1 <<< (64 + Reg.PAGE_STATUS.ctorIdx)) s (s.rlOrdered l) := by
  have hbusy : Agree (swapMask ||| lineWritersMask ||| 1 <<< (64 + Reg.PAGE_STATUS.ctorIdx)) s ((s.rlSettled l).rsmpBusy (l / 8)) :=
    ((rlSettled_agree s l).mono (by decide)).trans ((rsmpBusy_agree _ _).mono (by decide))
  exact .ite hbusy (hbusy.trans ((lineWriters_agree _).mono (by decide)))

section ordered
variable {u : State} {l : Nat} (w : Regs.wf u.regs = true) (hl : l < 16)
include w hl

/-- The registers of the lane show it as it has settled. -/
theorem rlOrdered_fget {f : Fld} (hf : f.reg = .RL_CTRL ∨ f.reg = .RL_STATUS) :
    (u.rlOrdered l).fget f l = (u.rlSettled l).fget f l := by
  have ok : f.reg.ok l = true := by
    rcases hf with e | e
    · rw [e]; exact rlCtrl_ok hl
    · rw [e]; exact rlStatus_ok hl
  have ws := (rlSettled_agree u l).regsWf w
  have hbusy := rsmpBusy_agree (u.rlSettled l) (l / 8)
  have hb : ((u.rlSettled l).rsmpBusy (l / 8)).fget f l = (u.rlSettled l).fget f l :=
    hbusy.fget_same ws ok (by rcases hf with e | e <;> rw [e] <;> decide)
  unfold State.rlOrdered
  split
  · exact hb
  · exact ((lineWriters_agree _).fget_same (hbusy.regsWf ws) ok (by rcases hf with e | e <;> rw [e] <;> decide)).trans hb

omit w in
/-- The head of the lane's page shows it as it has settled. -/
theorem rlOrdered_head : HeadKept (0x30 + l / 8) ((u.rlSettled l).rsmpBusy (l / 8)) (u.rlOrdered l) := by
  have hp : writersLeave (0x30 + l / 8) := by
    refine ⟨by omega, fun hm => ?_⟩
    simp only [writerPages, List.mem_cons, List.not_mem_nil, or_false] at hm
    omega
  exact .ite (.refl _ _) (lineWriters_heads hp _)

/-- A COPY that is ordered runs, with BUSY (R137). -/
theorem rlOrdered_copy (h : u.flag F.RL_CTRL_COPY l = true) :
    (u.rlOrdered l).flag F.RL_CTRL_COPY l = true ∧ (u.rlOrdered l).flag F.PAGE_STATUS_BUSY (0x30 + l / 8) = true := by
  have hstop : (if u.epoch.running then u else u.rlOff l).flag F.RL_CTRL_COPY l = true := by
    split
    · exact h
    · exact (rlOff_copy w hl).trans h
  have hcopy : (u.rlSettled l).flag F.RL_CTRL_COPY l = true :=
    (rlSwapOff_copy ((Agree.ite (.refl _ u) (rlOff_agree u l)).regsWf w) hl).trans hstop
  have ws := (rlSettled_agree u l).regsWf w
  obtain ⟨-, hstatus, -⟩ := rlOrdered_head (u := u) hl ((rsmpBusy_agree _ _).regsWf ws)
  refine ⟨(congrArg (· != 0) (rlOrdered_fget (f := F.RL_CTRL_COPY) w hl (.inl rfl))).trans hcopy, ?_⟩
  have hbusy := rsmpBusy_set ws hl hcopy
  rwa [State.flag, State.fget, show F.PAGE_STATUS_BUSY.reg = .PAGE_STATUS from rfl, ← hstatus] at hbusy

/-- A swap that waits is carried out at once in a lane that is OFF and whose half is full (R138). -/
theorem rlOrdered_swap (h : u.flag F.RL_CTRL_SWAP l = true) (hrun : u.epoch.running = true ∨ u.fget F.RL_STATUS_STATE l = 0) :
    let now : Bool := u.fget F.RL_STATUS_STATE l == 0 && u.fget F.RL_FILL_FILL l == 83
    (u.rlOrdered l).flag F.RL_CTRL_SWAP l = !now ∧
      (u.rlOrdered l).fget F.RL_STATUS_HALF l =
        (if now then 1 - u.fget F.RL_STATUS_HALF l else u.fget F.RL_STATUS_HALF l) ∧
      (now = true → (u.rlOrdered l).fbit F.PAGE_IRQ_SOURCES (0x30 + l / 8) (8 + l % 8) = true) := by
  intro now
  have hstay : (if u.epoch.running then u else u.rlOff l) = u := by
    rcases hrun with h | h
    · exact if_pos h
    · refine (ite_eq_left_iff.mpr fun _ => ?_)
      exact if_pos (by simp [h])
  have hsettled : u.rlSettled l = if now then u.rlSwapNow l none else u := by
    rw [State.rlSettled, hstay, State.rlSwapOff, h, Bool.true_and]
  have ws := (rlSettled_agree u l).regsWf w
  have hbusy := rsmpBusy_agree (u.rlSettled l) (l / 8)
  obtain ⟨-, -, hirq⟩ := rlOrdered_head (u := u) hl (hbusy.regsWf ws)
  rw [hbusy.regs ws _ _ (pageIrq_ok (by omega)) (by decide)] at hirq
  rw [State.flag, rlOrdered_fget (f := F.RL_CTRL_SWAP) w hl (.inl rfl), ← State.flag,
    rlOrdered_fget (f := F.RL_STATUS_HALF) w hl (.inr rfl), fbit_of_reg (f := F.PAGE_IRQ_SOURCES) hirq, hsettled]
  cases now with
  | false => exact ⟨h, rfl, nofun⟩
  | true =>
    obtain ⟨hswap, -, hhalf, hbit⟩ := rlSwapNow_off_effect w hl
    exact ⟨hswap, hhalf, fun _ => hbit⟩

end ordered

section orders
variable {s : State} {q : Requester} {l : Nat} {v : Word} (w : Regs.wf s.regs = true) (hl : l < 16)
  (h : s.admits q .RL_CTRL l v = true)
include w hl h

/-- A write of 1 to COPY (R137). -/
theorem writeReg_rlCopy (hv : bits v 9 1 = 1) : (s.writeReg q .RL_CTRL l v).flag F.RL_CTRL_COPY l = true ∧
    (s.writeReg q .RL_CTRL l v).flag F.PAGE_STATUS_BUSY (0x30 + l / 8) = true := by
  rw [writeReg_rlCtrl hl h]
  generalize hm : s.mergedStaged .RL_CTRL l v = u
  have wu : Regs.wf u.regs = true := hm ▸ (mergedStaged_agree (M := landMask) s (by decide) (by decide) l v).regsWf w
  have hset : u.flag F.RL_CTRL_COPY l = true := hm ▸
    flag_of_written (f := F.RL_CTRL_COPY) (mergedStaged_reg v w (rlCtrl_ok hl)) (d := ⟨"COPY", 9, 1, .w1s, 0, []⟩) (by decide)
      ⟨rfl, rfl⟩ ⟨rfl, rfl⟩ hv
  obtain ⟨hcopy, hbusy⟩ := rlOrdered_copy wu hl hset
  have wo := (rlOrdered_agree u l).regsWf wu
  have ht := taken_agree s (u.rlOrdered l)
  exact ⟨(ht.flag_same (f := F.RL_CTRL_COPY) wo (rlCtrl_ok hl) (by decide)).trans hcopy,
    (ht.flag_same (f := F.PAGE_STATUS_BUSY) wo (pageStatus_ok (by omega)) (by decide)).trans hbusy⟩

/-- A write of 1 to SWAP (R138). -/
theorem writeReg_rlSwap (hv : bits v 8 1 = 1) (hrun : s.epoch.running = true ∨ s.fget F.RL_STATUS_STATE l = 0) :
    let now : Bool := s.fget F.RL_STATUS_STATE l == 0 && s.fget F.RL_FILL_FILL l == 83
    (s.writeReg q .RL_CTRL l v).flag F.RL_CTRL_SWAP l = !now ∧
      (s.writeReg q .RL_CTRL l v).fget F.RL_STATUS_HALF l =
        (if now then 1 - s.fget F.RL_STATUS_HALF l else s.fget F.RL_STATUS_HALF l) ∧
      (now = true → (s.writeReg q .RL_CTRL l v).fbit F.PAGE_IRQ_SOURCES (0x30 + l / 8) (8 + l % 8) = true) := by
  have oks := rlStatus_ok hl
  rw [writeReg_rlCtrl hl h]
  have hu := mergedStaged_agree (M := 0x2000000000 ||| 1 <<< (64 + Reg.RL_CTRL.ctorIdx)) s (r := .RL_CTRL) (by decide) (by decide)
    l v
  have hset : (s.mergedStaged .RL_CTRL l v).flag F.RL_CTRL_SWAP l = true :=
    flag_of_written (f := F.RL_CTRL_SWAP) (mergedStaged_reg v w (rlCtrl_ok hl)) (d := ⟨"SWAP", 8, 1, .w1s, 0, []⟩) (by decide)
      ⟨rfl, rfl⟩ ⟨rfl, rfl⟩ hv
  generalize s.mergedStaged .RL_CTRL l v = u at hu hset ⊢
  have wu := hu.regsWf w
  rw [← hu.epoch_same (by decide)] at hrun
  rw [← hu.fget_same (f := F.RL_STATUS_STATE) w oks (by decide)] at hrun ⊢
  rw [← hu.fget_same (f := F.RL_STATUS_HALF) w oks (by decide),
    ← hu.fget_same (f := F.RL_FILL_FILL) w (rlFill_ok hl) (by decide)]
  obtain ⟨hswap, hhalf, hirq⟩ := rlOrdered_swap wu hl hset hrun
  have wo := (rlOrdered_agree u l).regsWf wu
  have ht := taken_agree s (u.rlOrdered l)
  exact ⟨(ht.flag_same (f := F.RL_CTRL_SWAP) wo (rlCtrl_ok hl) (by decide)).trans hswap,
    (ht.fget_same (f := F.RL_STATUS_HALF) wo oks (by decide)).trans hhalf,
    fun hnow => (ht.fbit_same (f := F.PAGE_IRQ_SOURCES) wo (pageIrq_ok (by omega)) (by decide)).trans (hirq hnow)⟩

end orders

end Sys2Proof.Machine
end

section
/-!
PROOF. The HBM controllers: training that begins and ends, STK_PG and the readings of a stack.
-/

namespace Sys2Proof.Machine

/-! ### The state of a stack -/

theorem hbmcState_ok {x : Nat} (hx : x < 4) : Reg.HBMC_STATE.ok x = true := ok_of_lt hx (by decide) (by decide)

/-- What HBM_UP and the line writer behind it may touch. -/
def hbmUpMask : Nat := pulseMask ||| 1 <<< (64 + Reg.GOV_STATUS.ctorIdx) ||| 1 <<< (64 + Reg.LINE_WSTATE.ctorIdx)

theorem hbmUpdate_agree (s : State) : Agree hbmUpMask s s.hbmUpdate := State.hbmUpdate_touch (by decide) (.refl _ s)

theorem stackState_agree (s : State) (x st : Nat) :
    Agree (hbmUpMask ||| 1 <<< (64 + Reg.HBMC_STATE.ctorIdx)) s (s.stackState x st) :=
  State.stackState_touch (by decide) (.refl _ s)

/-- Of the registers of the stacks a change of state changes STATE of its own stack alone. -/
theorem stackState_reg (s : State) {x y st : Nat} (w : Regs.wf s.regs = true) (hy : y < 4) :
    (s.stackState x st).reg .HBMC_STATE y = (if s.fget F.HBMC_STATE_STATE x = st then s else s.fset F.HBMC_STATE_STATE x st).reg
      .HBMC_STATE y := by
  unfold State.stackState
  split
  · rfl
  · have wf := fset_wf s F.HBMC_STATE_STATE x st w
    have hirq := irq_agree (s.fset F.HBMC_STATE_STATE x st) (0x3A + x) 1
    rw [(hbmUpdate_agree _).regs (hirq.regsWf wf) _ _ (hbmcState_ok hy) (by decide), hirq.regs wf _ _ (hbmcState_ok hy) (by decide)]

section state
variable {s : State} {x st : Nat} (w : Regs.wf s.regs = true)
include w

theorem stackState_same (hx : x < 4) (hst : st < 8) : (s.stackState x st).fget F.HBMC_STATE_STATE x = st := by
  rw [State.fget, show F.HBMC_STATE_STATE.reg = .HBMC_STATE from rfl, stackState_reg s w hx]
  split
  next h => exact h
  next => exact (fget_fset_same s F.HBMC_STATE_STATE x st w (hbmcState_ok hx) (by decide)).trans (Nat.mod_eq_of_lt hst)

theorem stackState_field {g : Fld} (hx : x < 4) (hg : g.reg = .HBMC_STATE)
    (ha : g.lo + g.width ≤ F.HBMC_STATE_STATE.lo ∨ F.HBMC_STATE_STATE.lo + F.HBMC_STATE_STATE.width ≤ g.lo) :
    (s.stackState x st).fget g x = s.fget g x := by
  rw [State.fget, hg, stackState_reg s w hx, ← hg]
  split
  · rfl
  · exact fget_fset_field s F.HBMC_STATE_STATE g x st w (hbmcState_ok hx) hg ha

theorem stackState_other {y : Nat} (hy : y < 4) (hne : y ≠ x) : (s.stackState x st).reg .HBMC_STATE y = s.reg .HBMC_STATE y := by
  rw [stackState_reg s w hy]
  split
  · rfl
  · exact reg_fset_ne s F.HBMC_STATE_STATE x st w (hbmcState_ok hy) (Or.inr hne)

end state

/-! ### Training ends and begins (R164) -/

/-- What the end and the beginning of training may touch. -/
def trainMask : Nat :=
  hbmUpMask ||| 1 <<< 22 ||| 1 <<< (64 + Reg.HBMC_STATE.ctorIdx) ||| 1 <<< (64 + Reg.HBMC_CTRL.ctorIdx) |||
    1 <<< (64 + Reg.PAGE_STATUS.ctorIdx)

theorem trainEnd_agree (s : State) (x st : Nat) : Agree trainMask s (s.trainEnd x st) :=
  State.trainEnd_touch (by decide) (.refl _ s)

theorem trainBegin_agree (s : State) (x mode : Nat) : Agree trainMask s (s.trainBegin x mode) :=
  State.trainBegin_touch (by decide) (.refl _ s)

/-- Stack `x` as training leaves it, its page idle, before it takes its state. -/
def State.trainStopped (s : State) (x : Nat) : State :=
  ((s.setStack x { s.stack x with mode := none, copy := none }).setBusy (0x3A + x) false).fsetB F.HBMC_CTRL_TRAIN_START x false

theorem trainEnd_eq (s : State) (x st : Nat) : s.trainEnd x st = (s.trainStopped x).stackState x st := rfl

theorem trainStopped_agree (s : State) (x : Nat) :
    Agree (1 <<< (64 + Reg.PAGE_STATUS.ctorIdx) ||| 1 <<< (64 + Reg.HBMC_CTRL.ctorIdx))
      (s.setStack x { s.stack x with mode := none, copy := none }) (s.trainStopped x) :=
  ((setBusy_agree _ _ _).mono (by decide)).fsetB (by decide) _ _

/-- The stacks after training of one of them has ended. -/
theorem trainEnd_hbm (s : State) (x st : Nat) :
    (s.trainEnd x st).lines.hbm = setAt HbmStack.reset s.lines.hbm x { s.stack x with mode := none, copy := none } := by
  rw [trainEnd_eq, (stackState_agree _ x st).lines_same (by decide), (trainStopped_agree s x).lines_same (by decide)]
  rfl

section ends
variable {s : State} {x st : Nat} (w : Regs.wf s.regs = true) (hx : x < 4)
include w hx

omit hx in
theorem trainStopped_wf : Regs.wf (s.trainStopped x).regs = true := (trainStopped_agree s x).regsWf w

theorem trainEnd_state (hst : st < 8) : (s.trainEnd x st).fget F.HBMC_STATE_STATE x = st := by
  rw [trainEnd_eq, stackState_same (trainStopped_wf w) hx hst]

theorem trainEnd_how : (s.trainEnd x st).fget F.HBMC_STATE_HOW x = s.fget F.HBMC_STATE_HOW x := by
  rw [trainEnd_eq, stackState_field (g := F.HBMC_STATE_HOW) (trainStopped_wf w) hx rfl (by decide)]
  exact (trainStopped_agree s x).fget_same (f := F.HBMC_STATE_HOW) w (hbmcState_ok hx) (by decide)

theorem trainEnd_busy : (s.trainEnd x st).flag F.PAGE_STATUS_BUSY (0x3A + x) = false := by
  have ok := pageStatus_ok (p := 0x3A + x) (by omega)
  rw [trainEnd_eq, (stackState_agree _ x st).flag_same (f := F.PAGE_STATUS_BUSY) (trainStopped_wf w) ok (by decide)]
  have wb := (setBusy_agree (s.setStack x { s.stack x with mode := none, copy := none }) (0x3A + x) false).regsWf w
  have hstart := (Agree.refl (1 <<< (64 + Reg.HBMC_CTRL.ctorIdx))
    ((s.setStack x { s.stack x with mode := none, copy := none }).setBusy (0x3A + x) false)).fsetB
    (f := F.HBMC_CTRL_TRAIN_START) (by decide) x false
  exact (hstart.flag_same (f := F.PAGE_STATUS_BUSY) wb ok (by decide)).trans
    (flag_fsetB_same (s := s.setStack x { s.stack x with mode := none, copy := none }) false w ok (by decide))

end ends

theorem trainAttempt_agree (s : State) (x mode : Nat) :
    Agree (1 <<< 22 ||| 1 <<< (64 + Reg.HBMC_STATE.ctorIdx)) s (s.trainAttempt x mode) :=
  State.trainAttempt_touch (by decide) (.refl _ s)

theorem trainAttempt_hbm (s : State) (x mode : Nat) :
    (s.trainAttempt x mode).lines.hbm = setAt HbmStack.reset s.lines.hbm x { s.stack x with mode := some mode } :=
  congrArg Lines.hbm (setReg_lines _ _ _ _)

/-- Of HBMC_STATE an attempt counts TRIES alone. -/
theorem trainAttempt_state {s : State} {x : Nat} (mode : Nat) (w : Regs.wf s.regs = true) (hx : x < 4) :
    (s.trainAttempt x mode).fget F.HBMC_STATE_STATE x = s.fget F.HBMC_STATE_STATE x :=
  fget_fset_field (s.setStack x _) F.HBMC_STATE_TRIES F.HBMC_STATE_STATE x _ w (hbmcState_ok hx) rfl (by decide)

theorem trainAttempt_other {s : State} {x y : Nat} (mode : Nat) (w : Regs.wf s.regs = true) (hy : y < 4) (hne : y ≠ x) :
    (s.trainAttempt x mode).reg .HBMC_STATE y = s.reg .HBMC_STATE y :=
  reg_fset_ne (s.setStack x _) F.HBMC_STATE_TRIES x _ w (hbmcState_ok hy) (Or.inr hne)

/-- Stack `x` when training of it in `mode` starts: with the lanes that the darn controller has recorded (R164, R459). -/
def State.stackTraining (s : State) (x mode : Nat) : HbmStack :=
  { s.stack x with fulls := 0, mode := some mode, lanes := s.darn.hbmLanes.filter (fun t => t % 4 == x) }

/-- Stack `x` before the first attempt of its training. -/
def State.stackFresh (s : State) (x : Nat) : HbmStack :=
  { s.stack x with fulls := 0, lanes := s.darn.hbmLanes.filter (fun t => t % 4 == x) }

/-- Stack `x` in TRAINING, its page busy, before its first attempt. -/
def State.trainStarted (s : State) (x : Nat) : State :=
  ((s.setStack x (s.stackFresh x)).stackState x 1).setBusy (0x3A + x) true

theorem trainBegin_eq (s : State) (x mode : Nat) : s.trainBegin x mode = (s.trainStarted x).trainAttempt x mode := rfl

theorem trainStarted_lines (s : State) (x : Nat) : (s.trainStarted x).lines = (s.setStack x (s.stackFresh x)).lines := by
  rw [State.trainStarted, (setBusy_agree _ _ _).lines_same (by decide), (stackState_agree _ x 1).lines_same (by decide)]

/-- The stacks after training of one of them has begun. -/
theorem trainBegin_hbm (s : State) (x mode : Nat) :
    (s.trainBegin x mode).lines.hbm = setAt HbmStack.reset s.lines.hbm x (s.stackTraining x mode) := by
  rw [trainBegin_eq, trainAttempt_hbm, State.stack, trainStarted_lines]
  simp only [State.setStack, setAt_setAt, getD_setAt, if_true, State.stackTraining, State.stackFresh]

section begins
variable {s : State} {x : Nat} (w : Regs.wf s.regs = true)
include w

theorem trainStarted_wf : Regs.wf (s.trainStarted x).regs = true :=
  (setBusy_agree _ _ _).regsWf ((stackState_agree (s.setStack x _) x 1).regsWf w)

theorem trainBegin_state (mode : Nat) (hx : x < 4) : (s.trainBegin x mode).fget F.HBMC_STATE_STATE x = 1 := by
  have wk := (stackState_agree (s.setStack x (s.stackFresh x)) x 1).regsWf w
  rw [trainBegin_eq, trainAttempt_state mode (trainStarted_wf w) hx, State.trainStarted,
    (setBusy_agree _ _ _).fget_same (f := F.HBMC_STATE_STATE) wk (hbmcState_ok hx) (by decide)]
  exact stackState_same (s := s.setStack x _) w hx (by decide)

theorem trainBegin_busy (mode : Nat) (hx : x < 4) : (s.trainBegin x mode).flag F.PAGE_STATUS_BUSY (0x3A + x) = true := by
  have ok := pageStatus_ok (p := 0x3A + x) (by omega)
  rw [trainBegin_eq, (trainAttempt_agree _ x mode).flag_same (f := F.PAGE_STATUS_BUSY) (trainStarted_wf w) ok (by decide)]
  exact flag_fsetB_same true ((stackState_agree (s.setStack x _) x 1).regsWf w) ok (by decide)

end begins

/-! ### Stack by stack -/

/-- What stack `x` is beside its settings: its inside, and its state. -/
def State.stackView (s : State) (x : Nat) : HbmStack × Nat := (s.stack x, s.fget F.HBMC_STATE_STATE x)

theorem stack_of_hbm {s t : State} {x : Nat} {k : HbmStack} (h : t.lines.hbm = setAt HbmStack.reset s.lines.hbm x k) (y : Nat) :
    t.stack y = if y = x then k else s.stack y := by
  rw [State.stack, h, getD_setAt]
  rfl

/-- What two states with the same stack `y` and the same register of it show of it. -/
theorem stackView_of {s t : State} {x y : Nat} {k : HbmStack} (h : t.lines.hbm = setAt HbmStack.reset s.lines.hbm x k)
    (hne : y ≠ x) (hreg : t.reg .HBMC_STATE y = s.reg .HBMC_STATE y) : t.stackView y = s.stackView y := by
  rw [State.stackView, State.stackView, stack_of_hbm h, if_neg hne, State.fget, State.fget,
    show F.HBMC_STATE_STATE.reg = .HBMC_STATE from rfl, hreg]

theorem setStack_view {s : State} {x y : Nat} (k : HbmStack) (hne : y ≠ x) : (s.setStack x k).stackView y = s.stackView y :=
  stackView_of (x := x) (k := k) rfl hne rfl

theorem trainEnd_view {s : State} {x y : Nat} (st : Nat) (w : Regs.wf s.regs = true) (hy : y < 4) (hne : y ≠ x) :
    (s.trainEnd x st).stackView y = s.stackView y := by
  refine stackView_of (trainEnd_hbm s x st) hne ?_
  rw [trainEnd_eq, stackState_other (trainStopped_wf w) hy hne]
  exact (trainStopped_agree s x).regs w _ _ (hbmcState_ok hy) (by decide)

theorem trainBegin_view {s : State} {x y : Nat} (mode : Nat) (w : Regs.wf s.regs = true) (hy : y < 4) (hne : y ≠ x) :
    (s.trainBegin x mode).stackView y = s.stackView y := by
  refine stackView_of (trainBegin_hbm s x mode) hne ?_
  have wk := (stackState_agree (s.setStack x (s.stackFresh x)) x 1).regsWf w
  rw [trainBegin_eq, trainAttempt_other mode (trainStarted_wf w) hy hne, State.trainStarted,
    (setBusy_agree _ _ _).regs wk _ _ (hbmcState_ok hy) (by decide)]
  exact stackState_other (s := s.setStack x _) w hy hne

section each
variable {f : Nat → State → State} (hwf : ∀ x t, Regs.wf t.regs = true → Regs.wf (f x t).regs = true)
  (hother : ∀ x y t, Regs.wf t.regs = true → y < 4 → y ≠ x → (f x t).stackView y = t.stackView y)
include hwf hother

/-- A stack that is not served stays as it is. -/
theorem forEach_unserved {xs : List Nat} {s : State} {y : Nat} (w : Regs.wf s.regs = true) (hy : y < 4) (hn : y ∉ xs) :
    (forEach xs f s).stackView y = s.stackView y := by
  unfold forEach
  induction xs generalizing s with
  | nil => rfl
  | cons x xs ih =>
    obtain ⟨hne, hn⟩ := not_or.mp (List.mem_cons.not.mp hn)
    exact (ih (hwf x s w) hn).trans (hother x y s w hy hne)

/-- A stack that is served is as its own step leaves it, from a state in which it was as at the beginning. -/
theorem forEach_served {xs : List Nat} (hd : xs.Nodup) {s : State} {y : Nat} (w : Regs.wf s.regs = true) (hy : y < 4)
    (hm : y ∈ xs) : ∃ u, Regs.wf u.regs = true ∧ u.stackView y = s.stackView y ∧
      (forEach xs f s).stackView y = (f y u).stackView y := by
  induction xs generalizing s with
  | nil => cases hm
  | cons x xs ih =>
    obtain ⟨hx, hd⟩ := List.nodup_cons.mp hd
    by_cases e : y = x
    · subst e
      exact ⟨s, w, rfl, forEach_unserved hwf hother (hwf y s w) hy hx⟩
    · obtain ⟨u, wu, hu, hlast⟩ := ih hd (hwf x s w) ((List.mem_cons.mp hm).resolve_left e)
      exact ⟨u, wu, hu.trans (hother x y s w hy e), hlast⟩

end each

theorem indices_nodup (n : Nat) (p : Nat → Bool) : (indices n p).Nodup := List.nodup_range.filter p

theorem mem_indices {n : Nat} {p : Nat → Bool} {i : Nat} (hi : i < n) (h : p i = true) : i ∈ indices n p :=
  List.mem_filter.mpr ⟨List.mem_range.mpr hi, h⟩

end Sys2Proof.Machine
end

section
/-!
PROOF. Training that is asked for and that ends, and the readings of a stack.
-/

namespace Sys2Proof.Machine

/-! ### Training is asked for (R164, R469) -/

/-- A write of 1 to TRAIN_START asks for training in the configured mode. -/
theorem writeReg_trainStart {s : State} {q : Requester} {x : Nat} {v : Word} (w : Regs.wf s.regs = true) (hx : x < 4)
    (h : s.admits q .HBMC_CTRL x v = true) (hv : bits v 0 1 = 1) :
    s.writeReg q .HBMC_CTRL x v = s.taken ((s.merged .HBMC_CTRL x v).trainAsk x (s.fget F.HBMC_CFG_TRAIN x)) := by
  have hcfg : (s.merged .HBMC_CTRL x v).fget F.HBMC_CFG_TRAIN x = s.fget F.HBMC_CFG_TRAIN x :=
    (merged_agree (M := 1 <<< (64 + Reg.HBMC_CTRL.ctorIdx)) s (by decide) x v).fget_same (f := F.HBMC_CFG_TRAIN) w
      (ok_of_lt hx (by decide) (by decide)) (by decide)
  rw [writeReg_unstaged (f := fun t => if bits v 0 1 = 1 then t.trainAsk x (t.fget F.HBMC_CFG_TRAIN x) else t)
    (ok_of_lt hx (by decide) (by decide)) h rfl (by decide) rfl]
  exact congrArg s.taken ((if_pos hv).trans (congrArg _ hcfg))

section start
variable {s : State} {q : Requester} {x : Nat} {v : Word} (w : Regs.wf s.regs = true) (hx : x < 4)
  (h : s.admits q .HBMC_CTRL x v = true) (hv : bits v 0 1 = 1)
include w hx h hv

/-- With STK_PG high an attempt begins. -/
theorem trainStart_begins (hp : s.power.stkPg = true) :
    (s.writeReg q .HBMC_CTRL x v).fget F.HBMC_STATE_STATE x = 1 ∧
      (s.writeReg q .HBMC_CTRL x v).flag F.PAGE_STATUS_BUSY (0x3A + x) = true ∧
      (s.writeReg q .HBMC_CTRL x v).lines.hbm =
        setAt HbmStack.reset s.lines.hbm x (s.stackTraining x (s.fget F.HBMC_CFG_TRAIN x)) := by
  have wm := merged_wf .HBMC_CTRL x v w
  have hlines : (s.merged .HBMC_CTRL x v).lines = s.lines := setReg_lines _ _ _ _
  have hdarn : (s.merged .HBMC_CTRL x v).darn = s.darn := setReg_darn _ _ _ _
  have hbm := trainBegin_hbm (s.merged .HBMC_CTRL x v) x (s.fget F.HBMC_CFG_TRAIN x)
  rw [State.stackTraining, State.stack, hlines, hdarn] at hbm
  have hask : (s.merged .HBMC_CTRL x v).trainAsk x (s.fget F.HBMC_CFG_TRAIN x) =
      (s.merged .HBMC_CTRL x v).trainBegin x (s.fget F.HBMC_CFG_TRAIN x) :=
    if_pos ((congrArg Power.stkPg (setReg_power _ _ _ _)).trans hp)
  have wb := (trainBegin_agree (s.merged .HBMC_CTRL x v) x (s.fget F.HBMC_CFG_TRAIN x)).regsWf wm
  have ht := taken_agree s ((s.merged .HBMC_CTRL x v).trainBegin x (s.fget F.HBMC_CFG_TRAIN x))
  rw [writeReg_trainStart w hx h hv, hask]
  exact ⟨(ht.fget_same (f := F.HBMC_STATE_STATE) wb (hbmcState_ok hx) (by decide)).trans (trainBegin_state wm _ hx),
    (ht.flag_same (f := F.PAGE_STATUS_BUSY) wb (pageStatus_ok (by omega)) (by decide)).trans (trainBegin_busy wm _ hx),
    (congrArg Lines.hbm (ht.lines_same (by decide))).trans hbm⟩

/-- With STK_PG low it waits. -/
theorem trainStart_waits (hp : s.power.stkPg = false) :
    (s.writeReg q .HBMC_CTRL x v).fget F.HBMC_STATE_STATE x = s.fget F.HBMC_STATE_STATE x ∧
      (s.writeReg q .HBMC_CTRL x v).lines.hbm =
        setAt HbmStack.reset s.lines.hbm x { s.stack x with waitPg := some (s.fget F.HBMC_CFG_TRAIN x) } := by
  have wm := merged_wf .HBMC_CTRL x v w
  have hlines : (s.merged .HBMC_CTRL x v).lines = s.lines := setReg_lines _ _ _ _
  have hlow : ¬ (s.merged .HBMC_CTRL x v).power.stkPg = true := by
    rw [show (s.merged .HBMC_CTRL x v).power = s.power from setReg_power _ _ _ _, hp]
    decide
  have hm : Agree (1 <<< (64 + Reg.HBMC_CTRL.ctorIdx)) s (s.merged .HBMC_CTRL x v) := merged_agree s (by decide) x v
  have ht := taken_agree s ((s.merged .HBMC_CTRL x v).trainAsk x (s.fget F.HBMC_CFG_TRAIN x))
  rw [State.trainAsk, if_neg hlow] at ht
  rw [writeReg_trainStart w hx h hv, State.trainAsk, if_neg hlow]
  refine ⟨(ht.fget_same (f := F.HBMC_STATE_STATE) wm (hbmcState_ok hx) (by decide)).trans
      (hm.fget_same (f := F.HBMC_STATE_STATE) w (hbmcState_ok hx) (by decide)),
    (congrArg Lines.hbm (ht.lines_same (by decide))).trans ?_⟩
  rw [State.setStack, State.stack, hlines]
  rfl

end start

/-! ### A training attempt ends (R164) -/

section done
variable {s : State} {x m : Nat} (settings : List Word) (lanes : List Nat) (hm : (s.stack x).mode = some m)
include hm

/-- An attempt that passes, full or quick, ends training in the state READY. -/
theorem trainingDone_passed (w : Regs.wf s.regs = true) (h2 : m < 2) : ∃ u : State, Regs.wf u.regs = true ∧
    s.trainingDone x true settings lanes = (u.fset F.HBMC_STATE_HOW x (m + 1)).trainEnd x 2 := by
  have hne : (m != 2) = true := by simpa using h2.ne
  unfold State.trainingDone
  simp only [hm, hne, Bool.true_or, Bool.and_self, if_true]
  refine ⟨_, fset_wf _ _ _ _ ?_, rfl⟩
  split
  · exact (Agree.forEach (M := darnDoneMask) (.refl _ _) (fun _ _ h => h.trans (darnDone_agree ..)) _).regsWf w
  · exact w

/-- A full attempt that fails is tried once more. -/
theorem trainingDone_again (h0 : m = 0) (hf : (s.stack x).fulls = 0) :
    s.trainingDone x false settings lanes = (s.setStack x { s.stack x with fulls := 1 }).trainAttempt x 0 := by
  subst h0
  unfold State.trainingDone
  simp [hm, hf]

/-- A second full attempt that fails ends training in the state FAILED. -/
theorem trainingDone_failed (h0 : m = 0) (hf : (s.stack x).fulls ≠ 0) :
    s.trainingDone x false settings lanes = s.trainEnd x 4 := by
  subst h0
  unfold State.trainingDone
  simp [hm, hf]

/-- A quick attempt that fails is followed by a full one. -/
theorem trainingDone_fallback (h1 : m = 1) :
    s.trainingDone x false settings lanes = (s.irq (0x3A + x) 2).trainAttempt x 0 := by
  subst h1
  unfold State.trainingDone
  simp [hm]

end done

section ended
variable {s : State} {x m : Nat} (settings : List Word) (lanes : List Nat) (hm : (s.stack x).mode = some m)
  (w : Regs.wf s.regs = true) (hx : x < 4)
include hm w hx

theorem trainingDone_up (h2 : m < 2) : (s.trainingDone x true settings lanes).fget F.HBMC_STATE_STATE x = 2 ∧
    (s.trainingDone x true settings lanes).fget F.HBMC_STATE_HOW x = m + 1 ∧
    (s.trainingDone x true settings lanes).flag F.PAGE_STATUS_BUSY (0x3A + x) = false := by
  obtain ⟨u, wu, hu⟩ := trainingDone_passed settings lanes hm w h2
  have wh := fset_wf u F.HBMC_STATE_HOW x (m + 1) wu
  have hhow : (u.fset F.HBMC_STATE_HOW x (m + 1)).fget F.HBMC_STATE_HOW x = m + 1 :=
    (fget_fset_same u F.HBMC_STATE_HOW x _ wu (hbmcState_ok hx) (by decide)).trans
      (Nat.mod_eq_of_lt (show m + 1 < 2 ^ 2 by omega))
  rw [hu]
  exact ⟨trainEnd_state wh hx (by decide), (trainEnd_how wh hx).trans hhow, trainEnd_busy wh hx⟩

omit w hx in
theorem trainingDone_counts (h0 : m = 0) (hf : (s.stack x).fulls = 0) : (s.trainingDone x false settings lanes).lines.hbm =
    setAt HbmStack.reset s.lines.hbm x { s.stack x with fulls := 1 } := by
  subst h0
  rw [trainingDone_again settings lanes hm rfl hf, trainAttempt_hbm]
  simp only [State.setStack, setAt_setAt, State.stack, getD_setAt, if_true]
  rw [show some 0 = (s.lines.hbm.getD x HbmStack.reset).mode from hm.symm]

theorem trainingDone_falls (h1 : m = 1) : (s.trainingDone x false settings lanes).lines.hbm =
      setAt HbmStack.reset s.lines.hbm x { s.stack x with mode := some 0 } ∧
    (s.trainingDone x false settings lanes).fbit F.PAGE_IRQ_SOURCES (0x3A + x) 2 = true := by
  have hirq := irq_agree s (0x3A + x) 2
  have hlines := hirq.lines_same (by decide)
  rw [trainingDone_fallback settings lanes hm h1, trainAttempt_hbm, State.stack, hlines,
    (trainAttempt_agree _ x 0).fbit_same (f := F.PAGE_IRQ_SOURCES) (hirq.regsWf w) (pageIrq_ok (by omega)) (by decide)]
  exact ⟨rfl, irq_sets w (by omega) (by omega) (by decide)⟩

end ended

/-! ### The reading of the counts and the temperature (R166) -/

theorem ecsRead_effect {s : State} {x rows count temp : Nat} (w : Regs.wf s.regs = true) (hx : x < 4) (hrows : rows < 65536)
    (hcount : count < 65536) (htemp : temp < 256) (hup : s.fget F.HBMC_STATE_STATE x = 2) :
    (s.ecsRead x rows count temp).fget F.HBMC_ECS_ROWS x = rows ∧
      (s.ecsRead x rows count temp).fget F.HBMC_ECS_COUNT x = count ∧
      (s.ecsRead x rows count temp).fget F.HBMC_STATE_TEMP x = temp ∧
      s.sameRegsBut (s.ecsRead x rows count temp) [(.HBMC_ECS, x), (.HBMC_STATE, x)] := by
  have ok : Reg.HBMC_ECS.ok x = true := ok_of_lt hx (by decide) (by decide)
  have hread : s.ecsRead x rows count temp =
      ((s.fset F.HBMC_ECS_ROWS x rows).fset F.HBMC_ECS_COUNT x count).fset F.HBMC_STATE_TEMP x temp := by
    unfold State.ecsRead
    exact if_neg (by simp [hup])
  have wr := fset_wf s F.HBMC_ECS_ROWS x rows w
  have wc := fset_wf _ F.HBMC_ECS_COUNT x count wr
  have hkeep (f : Fld) (hf : f.reg = .HBMC_ECS) : (s.ecsRead x rows count temp).fget f x =
      ((s.fset F.HBMC_ECS_ROWS x rows).fset F.HBMC_ECS_COUNT x count).fget f x := by
    rw [hread]
    exact fget_fset_ne _ F.HBMC_STATE_TEMP f x x temp wc (by rw [hf]; exact ok) (Or.inl (by rw [hf]; decide))
  refine ⟨?_, ?_, ?_, ?_⟩
  · rw [hkeep _ rfl, fget_fset_field _ F.HBMC_ECS_COUNT F.HBMC_ECS_ROWS x count wr ok rfl (by decide),
      fget_fset_same s F.HBMC_ECS_ROWS x rows w ok (by decide)]
    exact Nat.mod_eq_of_lt hrows
  · rw [hkeep _ rfl, fget_fset_same _ F.HBMC_ECS_COUNT x count wr ok (by decide)]
    exact Nat.mod_eq_of_lt hcount
  · rw [hread, fget_fset_same _ F.HBMC_STATE_TEMP x temp wc (hbmcState_ok hx) (by decide)]
    exact Nat.mod_eq_of_lt htemp
  · have hframe : RegFrame [(.HBMC_ECS, x), (.HBMC_STATE, x)] s (s.ecsRead x rows count temp) := by
      rw [hread]
      exact ((RegFrame.setReg s _ (List.mem_cons_self ..)).trans (.setReg _ _ (List.mem_cons_self ..))).trans
        (.setReg _ _ (List.mem_cons_of_mem _ (List.mem_cons_self ..)))
    obtain ⟨-, hsame⟩ := hframe w
    exact hsame

end Sys2Proof.Machine
end

section
/-!
PROOF. The rinse, and the fall and the rise of STK_PG.
-/

namespace Sys2Proof.Machine

/-! ### The rinse moves on (R167, R169) -/

/-- A request that was admitted while it waited is admitted, and so is one that fits while nothing waits (R169). -/
theorem govAsk_admitted {s : State} {c n owner : Nat}
    (h : s.lines.grants.contains owner = true ∨ s.lines.owed = [] ∧ s.govFits c n = true) : (s.govAsk c n owner).2 = true := by
  unfold State.govAsk
  split
  next => rfl
  next hgrant =>
    obtain ⟨howed, hfits⟩ := h.resolve_left hgrant
    simp [howed, hfits]

theorem govAsk_agree (s : State) (c n owner : Nat) : Agree (1 <<< 22) s (s.govAsk c n owner).1 :=
  (State.govAsk_touch (by decide) (.refl _ s)).fst

/-- The word of HBM at `x` lies in the block at `a` and holds an error that the rinse corrects. -/
def rinses (a : Nat) (x : Nat × Bool) : Bool := a ≤ x.1 && x.1 < a + 4096 && !x.2

/-- The state in which the rinse has read the block at HBM address `a` and corrected its words, before its position moves. -/
def State.rinseCorrected (s : State) (a : Nat) : State :=
  let r := s.hbmRead a 4096 1
  let u := { r.1 with ecc := r.1.ecc.filter (fun x => !rinses a x) }.faddSat F.RINSE_FIX_COUNT 0 (s.rinseFixes a)
  if r.2 then u.irq 0x3E 2 else u

/-- What reading and correcting a block may touch. -/
def rinseMask : Nat :=
  darnDoneMask ||| 1 <<< 3 ||| 1 <<< (64 + Reg.HBMC_ECC_CE.ctorIdx) ||| 1 <<< (64 + Reg.HBMC_ECC_UE.ctorIdx) |||
    1 <<< (64 + Reg.HBMC_UE_ADDR_LO.ctorIdx) ||| 1 <<< (64 + Reg.HBMC_UE_ADDR_HI.ctorIdx) |||
    1 <<< (64 + Reg.HBMC_UE_INFO.ctorIdx) ||| 1 <<< (64 + Reg.RINSE_FIX.ctorIdx)

theorem rinseCorrected_agree (s : State) (a : Nat) : Agree rinseMask s (s.rinseCorrected a) := by
  have hread : Agree rinseMask s (s.hbmRead a 4096 1).1 := (State.hbmRead_touch (by decide) (.refl _ s)).fst
  have hcount := (hread.set_ecc (by decide) ((s.hbmRead a 4096 1).1.ecc.filter (fun x => !rinses a x))).faddSat
    (f := F.RINSE_FIX_COUNT) (by decide) 0 (s.rinseFixes a)
  exact .ite (hcount.trans ((irq_agree _ _ _).mono (by decide))) hcount

/-- No word of the block holds an error that the rinse corrects any more. -/
theorem rinseCorrected_ecc {s : State} {a : Nat} {e : Nat × Bool} (he : e ∈ (s.rinseCorrected a).ecc) : rinses a e = false := by
  have hecc : (s.rinseCorrected a).ecc = (s.hbmRead a 4096 1).1.ecc.filter (fun x => !rinses a x) := by
    unfold State.rinseCorrected
    dsimp only
    split
    · exact ((irq_agree _ _ _).ecc_same (by decide)).trans (setReg_ecc _ _ _ _)
    · exact setReg_ecc _ _ _ _
  rw [hecc] at he
  simpa using (List.mem_filter.mp he).2

/-- Within a line the position moves on by a block. -/
theorem rinseBlock_within {s : State} {lines : List Nat} {l b a : Nat} (w : Regs.wf s.regs = true) (hl : l < 64)
    (hb : b + 1 < s.lineB l) : s.rinseBlock lines l b a =
      ((s.rinseCorrected a).fset F.RINSE_POS_LINE 0 l).fset F.RINSE_POS_BLOCK 0 (b + 1) := by
  have hsize : (s.rinseCorrected a).lineB l = s.lineB l := congrArg (· * 512)
    ((rinseCorrected_agree s a).fget_same (f := F.LINE_SIZE_UNITS) w (ok_of_lt hl (by decide) (by decide)) (by decide))
  exact if_pos (hb.trans_eq hsize.symm)

/-- The position that the rinse takes is that of its registers while their line is on. -/
theorem rinseLine_on {s : State} {l : Nat} (hl : l < 64) (hon : s.lineOn l = true) :
    (indices 64 (fun l => s.lineOn l)).find? (fun k => l ≤ k) = some l := by
  rw [indices, List.find?_filter, List.find?_range_eq_some]
  refine ⟨by simpa using hon, List.mem_range.mpr hl, fun j hj => ?_⟩
  simp [hj]

/-- The rinse with its position in a line that is on, its request admitted. -/
theorem rinseRead_admitted {s : State} (hen : s.flag F.RINSE_CTRL_EN = true) (hpage : s.pageEn 0x3E = true)
    (hup : s.hbmUp = true) (hl : s.fget F.RINSE_POS_LINE < 64) (hon : s.lineOn (s.fget F.RINSE_POS_LINE) = true) {a : Nat}
    (ha : a = s.fget F.LINE_BASE_UNITS (s.fget F.RINSE_POS_LINE) * 2 ^ 21 + 4096 * s.fget F.RINSE_POS_BLOCK)
    (hask : (s.govAsk 4 (4096 + 32 * s.rinseFixes a) 7).2 = true) :
    s.rinseRead = (s.govAsk 4 (4096 + 32 * s.rinseFixes a) 7).1.rinseBlock (indices 64 (fun l => s.lineOn l))
      (s.fget F.RINSE_POS_LINE) (s.fget F.RINSE_POS_BLOCK) a := by
  have hsome : (indices 64 (fun l => s.lineOn l)).isEmpty = false :=
    List.isEmpty_eq_false_iff.mpr (List.ne_nil_of_mem (mem_indices hl hon))
  subst ha
  unfold State.rinseRead
  simp only [hen, hpage, hup, hsome, rinseLine_on hl hon, Bool.and_self, Bool.not_true, Bool.or_self, Bool.false_eq_true, if_false,
    if_true, hask]

section rinsed
variable {s : State} {l b a : Nat} (w : Regs.wf s.regs = true) (hl : l < 64)
include w hl

/-- What the rinse of a block within a line leaves. -/
theorem rinseBlock_effect {lines : List Nat} (hb : b + 1 < s.lineB l) :
    (s.rinseBlock lines l b a).fget F.RINSE_POS_LINE = l ∧ (s.rinseBlock lines l b a).fget F.RINSE_POS_BLOCK = b + 1 ∧
      ∀ e, e ∈ (s.rinseBlock lines l b a).ecc → a ≤ e.1 → e.1 < a + 4096 → e.2 = true := by
  have hunits : s.fget F.LINE_SIZE_UNITS l < 2 ^ 17 := fget_lt s F.LINE_SIZE_UNITS l
  have hblock : b + 1 < 2 ^ 26 := by rw [State.lineB] at hb; omega
  have wc := (rinseCorrected_agree s a).regsWf w
  have wl := fset_wf _ F.RINSE_POS_LINE 0 l wc
  have ok : Reg.RINSE_POS.ok 0 = true := by decide
  rw [rinseBlock_within w hl hb]
  refine ⟨?_, ?_, fun e he hlo hhi => ?_⟩
  · rw [fget_fset_field _ F.RINSE_POS_BLOCK F.RINSE_POS_LINE 0 _ wl ok rfl (by decide),
      fget_fset_same _ F.RINSE_POS_LINE 0 l wc ok (by decide)]
    exact Nat.mod_eq_of_lt hl
  · rw [fget_fset_same _ F.RINSE_POS_BLOCK 0 _ wl ok (by decide)]
    exact Nat.mod_eq_of_lt hblock
  · rw [State.fset, setReg_ecc, State.fset, setReg_ecc] at he
    have hclean := rinseCorrected_ecc he
    simpa [rinses, hlo, hhi] using hclean

end rinsed

/-- A rinse whose request is admitted moves on by a block within its line. -/
theorem rinseRead_effect {s : State} {l b a : Nat} (w : Regs.wf s.regs = true) (hline : l = s.fget F.RINSE_POS_LINE)
    (hblock : b = s.fget F.RINSE_POS_BLOCK) (ha : a = s.fget F.LINE_BASE_UNITS l * 2 ^ 21 + 4096 * b)
    (hen : s.flag F.RINSE_CTRL_EN = true) (hpage : s.pageEn 0x3E = true) (hup : s.hbmUp = true) (hon : s.lineOn l = true)
    (hb : b + 1 < s.lineB l) (hl : l < 64)
    (hgov : s.lines.grants.contains 7 = true ∨ s.lines.owed = [] ∧ s.govFits 4 (4096 + 32 * s.rinseFixes a) = true) :
    s.rinseRead.fget F.RINSE_POS_LINE = l ∧ s.rinseRead.fget F.RINSE_POS_BLOCK = b + 1 ∧
      ∀ e, e ∈ s.rinseRead.ecc → a ≤ e.1 → e.1 < a + 4096 → e.2 = true := by
  subst hline hblock
  have hask := govAsk_agree s 4 (4096 + 32 * s.rinseFixes a) 7
  have hsize : (s.govAsk 4 (4096 + 32 * s.rinseFixes a) 7).1.lineB (s.fget F.RINSE_POS_LINE) = s.lineB (s.fget F.RINSE_POS_LINE) :=
    congrArg (· * 512) (hask.fget_same (f := F.LINE_SIZE_UNITS) w (ok_of_lt hl (by decide) (by decide)) (by decide))
  rw [rinseRead_admitted hen hpage hup hl hon ha (govAsk_admitted hgov)]
  exact rinseBlock_effect (hask.regsWf w) hl (hb.trans_eq hsize.symm)

/-! ### STK_PG (R469) -/

/-- Stack `x` fails: it waits for STK_PG no longer. -/
def State.stackFails (x : Nat) (s : State) : State :=
  (s.setStack x { s.stack x with copy := none, waitPg := none }).trainEnd x 4

/-- Stack `x` has waited for STK_PG too long. -/
def State.stackTimesOut (x : Nat) (s : State) : State := (s.setStack x { s.stack x with waitPg := none }).trainEnd x 4

/-- Stack `x` has waited for STK_PG, which is high. -/
def State.stackStarts (x : Nat) (s : State) : State :=
  (s.setStack x { s.stack x with waitPg := none }).trainBegin x ((s.stack x).waitPg.getD 0)

section fails
variable {s : State} {x : Nat} (k : HbmStack) (w : Regs.wf s.regs = true)
include w

/-- Training of stack `x`, set to `k`, that ends in the state FAILED. -/
theorem setStack_trainEnd_wf : Regs.wf ((s.setStack x k).trainEnd x 4).regs = true :=
  (trainEnd_agree (s.setStack x k) x 4).regsWf w

theorem setStack_trainEnd_view {y : Nat} (hy : y < 4) (hne : y ≠ x) :
    ((s.setStack x k).trainEnd x 4).stackView y = s.stackView y :=
  (trainEnd_view (s := s.setStack x k) 4 w hy hne).trans (setStack_view k hne)

theorem setStack_trainEnd_failed (hx : x < 4) :
    ((s.setStack x k).trainEnd x 4).stackView x = ({ k with mode := none, copy := none }, 4) := by
  refine Prod.ext ?_ (trainEnd_state (s := s.setStack x k) w hx (by decide))
  have h := stack_of_hbm (trainEnd_hbm (s.setStack x k) x 4) x
  rw [if_pos rfl, setStack_stack, if_pos rfl] at h
  exact h

theorem setStack_trainBegin_view (mode : Nat) {y : Nat} (hy : y < 4) (hne : y ≠ x) :
    ((s.setStack x k).trainBegin x mode).stackView y = s.stackView y :=
  (trainBegin_view (s := s.setStack x k) mode w hy hne).trans (setStack_view k hne)

end fails

section falls
variable {s : State} (w : Regs.wf s.regs = true)
include w

/-- When STK_PG falls every stack fails. -/
theorem stacksFail_state {x : Nat} (hx : x < 4) : s.stacksFail.fget F.HBMC_STATE_STATE x = 4 := by
  obtain ⟨u, wu, -, hlast⟩ := forEach_served (f := State.stackFails) (fun _ _ wt => setStack_trainEnd_wf _ wt)
    (fun _ _ _ wt hy hne => setStack_trainEnd_view _ wt hy hne) List.nodup_range w hx (List.mem_range.mpr hx)
  exact congrArg Prod.snd (hlast.trans (setStack_trainEnd_failed _ wu hx))

/-- A stack that waits for STK_PG fails after the timeout. -/
theorem stkPgTimeout_fails (hpg : s.power.stkPg = false) (hen : s.power.stkEn = true) {x : Nat} (hx : x < 4)
    (hwait : (s.stack x).waitPg.isSome = true) :
    s.stkPgTimeout.fget F.HBMC_STATE_STATE x = 4 ∧ (s.stkPgTimeout.stack x).waitPg = none := by
  obtain ⟨u, wu, -, hlast⟩ := forEach_served (f := State.stackTimesOut) (fun _ _ wt => setStack_trainEnd_wf _ wt)
    (fun _ _ _ wt hy hne => setStack_trainEnd_view _ wt hy hne) (indices_nodup 4 fun x => (s.stack x).waitPg.isSome) w hx
    (mem_indices hx hwait)
  have hserved : s.stkPgTimeout = forEach (indices 4 fun x => (s.stack x).waitPg.isSome) State.stackTimesOut s :=
    if_neg (by simp [hpg, hen])
  have hview := hlast.trans (setStack_trainEnd_failed _ wu hx)
  rw [hserved]
  exact ⟨congrArg Prod.snd hview, congrArg (fun p => p.1.waitPg) hview⟩

/-- A stack that waits for STK_PG is trained once it is high. -/
theorem stkPgRise_trains (hpg : s.power.stkPg = false) (hen : s.power.stkEn = true) {x m : Nat} (hx : x < 4)
    (hwait : (s.stack x).waitPg = some m) : s.stkPgRise.fget F.HBMC_STATE_STATE x = 1 ∧
      (s.stkPgRise.stack x).waitPg = none ∧ (s.stkPgRise.stack x).mode = some m := by
  obtain ⟨u, wu, hu, hlast⟩ := forEach_served (f := State.stackStarts)
    (fun _ t wt => (trainBegin_agree (t.setStack _ _) _ _).regsWf wt)
    (fun _ _ _ wt hy hne => setStack_trainBegin_view _ wt _ hy hne) (indices_nodup 4 fun x => (s.stack x).waitPg.isSome)
    (s := { s with power := { s.power with stkPg := true } }) w hx (mem_indices hx (by rw [hwait]; rfl))
  have hserved : s.stkPgRise = forEach (indices 4 fun x => (s.stack x).waitPg.isSome) State.stackStarts
      { s with power := { s.power with stkPg := true } } := if_neg (by simp [hpg, hen])
  have hmode : (u.stack x).waitPg = some m := (congrArg (fun p => p.1.waitPg) hu).trans hwait
  have hstack : (u.stackStarts x).stack x = _ :=
    (stack_of_hbm (trainBegin_hbm (u.setStack x { u.stack x with waitPg := none }) x ((u.stack x).waitPg.getD 0)) x).trans
      (if_pos rfl)
  have hview : (s.stkPgRise.stack x, s.stkPgRise.fget F.HBMC_STATE_STATE x) = (u.stackStarts x).stackView x := hserved ▸ hlast
  have hstate := (congrArg Prod.snd hview).trans (trainBegin_state (s := u.setStack x { u.stack x with waitPg := none }) wu _ hx)
  have hk : s.stkPgRise.stack x = _ := (congrArg Prod.fst hview).trans hstack
  refine ⟨hstate, ?_, ?_⟩
  · rw [hk, State.stackTraining, setStack_stack, if_pos rfl]
  · rw [hk, State.stackTraining, hmode]
    rfl

end falls

theorem stkPgFall_power {s : State} (hpg : s.power.stkPg = true) : s.stkPgFall.power = { s.power with stkPg := false } := by
  have hfail (t : State) : Agree trainMask t t.stacksFail := State.stacksFail_touch (by decide) (.refl _ t)
  unfold State.stkPgFall
  rw [if_neg (by rw [hpg]; decide)]
  dsimp only
  split
  · rw [(hfail _).power_same (by decide)]
  · rfl

theorem stkPgRise_power {s : State} (hpg : s.power.stkPg = false) (hen : s.power.stkEn = true) :
    s.stkPgRise.power = { s.power with stkPg := true } := by
  have hserve := Agree.forEach (M := trainMask) (f := State.stackStarts)
    (.refl _ { s with power := { s.power with stkPg := true } })
    (fun x t h => h.trans (State.trainBegin_touch (by decide) (State.setStack_touch (by decide) (.refl _ t))))
    (indices 4 fun x => (s.stack x).waitPg.isSome)
  unfold State.stkPgRise
  rw [if_neg (by simp [hpg, hen])]
  exact hserve.power_same (by decide)

/-- When STK_PG falls while STK_EN is high every stack fails. -/
theorem stkPgFall_fails {s : State} (w : Regs.wf s.regs = true) (hpg : s.power.stkPg = true) (hen : s.power.stkEn = true) {x : Nat}
    (hx : x < 4) : s.stkPgFall.fget F.HBMC_STATE_STATE x = 4 := by
  unfold State.stkPgFall
  rw [if_neg (by rw [hpg]; decide)]
  dsimp only
  rw [if_pos hen]
  exact stacksFail_state (s := { s with power := { s.power with stkPg := false } }) w hx

end Sys2Proof.Machine
end

section
/-!
PROOF. The streams, the resampler lanes and the HBM controllers.
-/

namespace Sys2Proof.Machine

section lane
variable {s : State} {l : Nat} {f : LaneFrame} {rest : List LaneFrame} (w : Regs.wf s.regs = true) (hl : l < 16)
  (h : s.laneNext l f rest)
include w hl h

/-- A lane takes its next frame. -/
theorem laneFrame_effect :
    (f.qual = 2 → (s.laneFrame l).fget F.RL_STATUS_STATE l = 1 ∧ (s.laneFrame l).chains.lanes =
      setAt Lane.reset s.chains.lanes l { s.lane l with fifo := rest, frames := [], point := none, part := none }) ∧
    (f.qual ≠ 2 → s.rlDestOk l = false → (s.laneFrame l).flag F.RL_STATUS_DEST_OFF l = true ∧
      (s.laneFrame l).fget F.RL_STATUS_STATE l = 1) ∧
    (f.qual ≠ 2 → s.rlDestOk l = true → ∀ p, (s.lane l).frames.getLast? = some p → f.seq ≠ p.seq + 1 →
      (s.laneFrame l).fget F.RL_STATUS_STATE l = 1 ∧ (s.laneFrame l).chains.lanes =
        setAt Lane.reset s.chains.lanes l { s.lane l with fifo := rest, frames := [f], point := none, part := none }) ∧
    (f.qual ≠ 2 → s.rlDestOk l = true → (s.lane l).frames = [] → (s.laneFrame l).chains.lanes =
      setAt Lane.reset s.chains.lanes l { s.lane l with fifo := rest, frames := [f] }) := by
  refine ⟨fun hq => ?_, fun hq hd => ?_, fun hq hd p hp hgap => ?_, fun hq hd hframes => ?_⟩
  · rw [laneFrame_unqualified h hq]
    exact laneBroken_effect rest [] w hl
  · rw [laneFrame_destOff h hq hd]
    exact laneBroken_destOff rest w hl
  · rw [laneFrame_gap h hq hd hp hgap]
    exact laneBroken_effect rest [f] w hl
  · rw [laneFrame_first h hq hd hframes]
    rfl

end lane

/-- A frame reaches a lane whose page and converter are clocked. -/
theorem exec_laneFrame {s : State} {l : Fin 16} (hpage : s.pageClocked (0x30 + l.val / 8) = true) (hadc : s.adcClock = true) :
    exec (.laneFrame l) s = .next (s.laneFrame l.val) :=
  congrArg Host.Outcome.next (if_pos (by rw [hpage, hadc]; rfl))

/-- Settles O47: each command is a write whose effect is that of its register, or an event of its block that runs. -/
theorem lanesAndStacks : Obligations.LanesAndStacks := by
  unfold Obligations.LanesAndStacks
  intro s q v hwf
  have w : Regs.wf s.regs = true := State.wf_regs hwf
  have hset (i : Nat) (hi : bits (maskOf i 1) i 1 = 1) : bits (v ||| maskOf i 1) i 1 = 1 := bits_or_set v hi
  refine ⟨fun i h => ⟨_, rfl, writeReg_hdrNow w i.isLt h (hset 31 (by decide))⟩, fun l => ?_, fun x => ?_, ?_, fun hpg => ?_,
    fun hpg hen => ?_⟩
  · refine ⟨fun f rest hfifo hout hpage hadc hen hblock hwaits hgrid => ?_, fun h => ?_, fun hcopy hlive hcalm => ?_,
      fun h hcopy hcalm => ?_, fun h hrun => ?_⟩
    · exact ⟨_, exec_laneFrame hpage hadc, laneFrame_effect w l.isLt ⟨hfifo, hout, hen, hblock, hwaits, hgrid⟩⟩
    · exact ⟨_, rfl, writeReg_rlCopy w l.isLt h (hset 9 (by decide))⟩
    · obtain ⟨hdone, hlanes⟩ := rlCopyDone_effect w l.isLt hcopy hcalm
      exact ⟨_, s.tableCopied l.val, next_clocked hlive rfl, hdone, hlanes, rfl⟩
    · exact ⟨_, rfl, writeReg_tblData w l.isLt h hcopy hcalm⟩
    · exact ⟨_, rfl, writeReg_rlSwap w l.isLt h (hset 8 (by decide)) hrun⟩
  · refine ⟨fun h => ?_, fun settings lanes m _ hm hlive => ⟨fun h2 => ?_, fun h0 hf => ?_, fun h0 hf => ?_, fun h1 => ?_⟩,
      fun rows count temp hrows hcount htemp hup hlive => ?_⟩
    · have hv := hset 0 (by decide)
      exact ⟨_, rfl, trainStart_begins w x.isLt h hv, trainStart_waits w x.isLt h hv⟩
    · exact ⟨_, next_clocked hlive rfl, trainingDone_up settings lanes hm w x.isLt h2⟩
    · exact ⟨_, next_clocked hlive rfl, trainingDone_counts settings lanes hm h0 hf⟩
    · exact ⟨_, next_clocked hlive (trainingDone_failed settings lanes hm h0 hf), trainEnd_state w x.isLt (by decide),
        trainEnd_hbm s x.val 4⟩
    · exact ⟨_, next_clocked hlive rfl, trainingDone_falls settings lanes hm w x.isLt h1⟩
    · exact ⟨_, next_clocked hlive rfl, ecsRead_effect w x.isLt hrows hcount htemp hup⟩
  · intro l b hen hpage hup hon hb hl hgov
    exact ⟨_, rfl, rinseRead_effect w rfl rfl rfl hen hpage hup hon hb hl hgov⟩
  · exact ⟨_, rfl, stkPgFall_power hpg, fun hen x hx => stkPgFall_fails w hpg hen hx⟩
  · exact ⟨⟨_, rfl, fun x hx hwait => stkPgTimeout_fails w hpg hen hx hwait⟩,
      _, rfl, stkPgRise_power hpg hen, fun x m hx hwait => stkPgRise_trains w hpg hen hx hwait⟩

end Sys2Proof.Machine
end

section
/-!
PROOF. The statement about lines and pegs fails: a state that the model evaluates to the refuting outcome.
-/

namespace Sys2Proof.Machine

/-! ### The open block of a line that is switched on

CHMASK of a block's header shows the positions that were VALID when the block opened (R145). A line that is switched on opens a
block, so the model takes the VALID positions of that moment down in the line. The statement lets the line differ from
`Line.reset`, which has none, only in its written blocks and its writer. -/

/-- A line that has been replaced by `x` is `x`. -/
theorem line_of_lines {s t : State} {l : Nat} {x : Line} (h : t.lines.lines = setAt Line.reset s.lines.lines l x) :
    t.line l = x := by
  rw [State.line, h, getD_setAt, if_pos rfl]

/-- State after reset but for D_ACQ on, a size of one unit for line 0, and module position 0, which is VALID. -/
def validBeforeOpen : State :=
  ({ State.reset with power := { Power.reset with acq := .on } }.setReg .LINE_SIZE 0 1#32).fset F.AIN_MOD_STATE_STATE 0 2

/-- The word for LINE_CTRL with a HEM of 64, FRESH and EN. -/
def lineOnWord : Word := 0x00400003#32

/-- The write that switches line 0 on meets what the statement asks of it. -/
theorem validBeforeOpen_admits : validBeforeOpen.wf = true ∧
    validBeforeOpen.admits (.core 0) .LINE_CTRL 0 lineOnWord = true ∧ bits lineOnWord 2 1 = 0 ∧
    validBeforeOpen.flag F.LINE_CTRL_FLUSH 0 = false ∧ bits lineOnWord 0 1 = 1 ∧
    validBeforeOpen.flag F.LINE_CTRL_EN 0 = false := by decide +kernel

/-- The block that line 0 then opens has position 0 in its mask. -/
theorem validBeforeOpen_opens :
    ((validBeforeOpen.writeReg (.core 0) .LINE_CTRL 0 lineOnWord).line 0).valid = 1 := by decide +kernel

/-- Refutes O48: a line that is switched on is claimed to have no VALID position in the mask of its open block. In
`validBeforeOpen` position 0 is VALID when line 0 is switched on, and the block that opens has it in its mask. -/
theorem not_linesAndPegs : ¬ Obligations.LinesAndPegs := by
  unfold Obligations.LinesAndPegs
  intro h
  obtain ⟨hwf, hadmits, hflush, hpending, hen, hoff⟩ := validBeforeOpen_admits
  obtain ⟨-, hlines, -⟩ := h validBeforeOpen (.core 0) lineOnWord hwf
  obtain ⟨-, -, henable⟩ := hlines 0
  obtain ⟨t, ht, -, hline⟩ := henable hadmits hflush hpending hen hoff
  have ht : validBeforeOpen.writeReg (.core 0) .LINE_CTRL 0 lineOnWord = t := Host.Outcome.next.inj ht
  have opens : (t.line 0).valid = 1 := ht ▸ validBeforeOpen_opens
  have none : (t.line 0).valid = 0 := congrArg Line.valid (line_of_lines hline)
  cases none.symm.trans opens

end Sys2Proof.Machine
end

section
/-!
PROOF. The states of the Welut engines: what an engine that takes a state, a job that ends and a stop leave.
-/

namespace Sys2Proof.Machine

/-! ### Registers and parts of an engine -/

theorem welStatus_ok {w : Nat} (hw : w < 18) : Reg.WEL_STATUS.ok w = true := ok_of_lt hw (by decide) (by decide)

theorem welPage_lt {w : Nat} (hw : w < 18) : 0x40 + w < 256 := by omega

theorem welPage_ne {w : Nat} (hw : w < 18) : 0x40 + w ≠ 0x08 := by omega

@[simp] theorem setWel_regs (s : State) (w : Nat) (e : Wel) : (s.setWel w e).regs = s.regs := rfl

theorem setWel_agree (s : State) (w : Nat) (e : Wel) : Agree (1 <<< 23) s (s.setWel w e) :=
  State.setWel_touch (by decide) (.refl _ s)

theorem wel1_of_wel {s t : State} (h : t.wel = s.wel) (w : Nat) : t.wel1 w = s.wel1 w := by rw [State.wel1, State.wel1, h]

/-- An engine that has been replaced by `x` is `x`. -/
theorem wel1_of_engines {s t : State} {w : Nat} {x : Wel} (h : t.wel.engines = setAt Wel.reset s.wel.engines w x) :
    t.wel1 w = x := by
  rw [State.wel1, h, getD_setAt, if_pos rfl]

/-- Loads that land change the vector registers alone. -/
theorem foldl_setVec (ls : List (Nat × List Word)) (e : Wel) :
    ls.foldl (fun e y => e.setVec y.1 y.2) e = { e with vreg := (ls.foldl (fun e y => e.setVec y.1 y.2) e).vreg } := by
  induction ls generalizing e with
  | nil => rfl
  | cons y ys ih => exact ih (e.setVec y.1 y.2)

/-- The loads of the word before land. -/
def Wel.landed (e : Wel) : Wel := e.loads.foldl (fun e y => e.setVec y.1 y.2) e

theorem landed_eq (e : Wel) : e.landed = { e with vreg := e.landed.vreg } := foldl_setVec e.loads e

theorem landed_retire (e : Wel) : e.landed.retire = e.retire := by rw [landed_eq]

/-! ### The state of an engine (R178) -/

/-- What ALL_IDLE and its interrupt may touch. -/
def idleMask : Nat := pulseMask ||| 1 <<< (64 + Reg.WELQ_STATUS.ctorIdx)

/-- What an engine that takes a state may touch. -/
def welToMask : Nat :=
  idleMask ||| 1 <<< 23 ||| 1 <<< (64 + Reg.WEL_STATUS.ctorIdx) ||| 1 <<< (64 + Reg.PAGE_STATUS.ctorIdx)

theorem allIdle_agree (s : State) : Agree idleMask s s.allIdle := State.allIdle_touch (by decide) (.refl _ s)

theorem welTo_agree (s : State) (w st : Nat) : Agree welToMask s (s.welTo w st) := State.welTo_touch (by decide) (.refl _ s)

/-- STATE and BUSY of an engine that takes state `st`. -/
def State.welMarked (s : State) (w st : Nat) : State := (s.fset F.WEL_STATUS_STATE w st).setBusy (0x40 + w) (st == 3)

/-- The register files of an engine in SPARE have lost power. -/
def Wel.unpowered (e : Wel) : Wel := { e with vreg := [], powered := e.powered + 1 }

/-- What an engine that has taken state `st` is beside its registers. -/
def State.welRested (s : State) (w st : Nat) : State := if st = 1 then s.setWel w (s.wel1 w).unpowered else s

theorem welRested_regs (s : State) (w st : Nat) : (s.welRested w st).regs = s.regs := by
  unfold State.welRested
  split <;> rfl

theorem welRested_wel1 (s : State) (w st : Nat) :
    (s.welRested w st).wel1 w = if st = 1 then (s.wel1 w).unpowered else s.wel1 w := by
  unfold State.welRested
  split
  · rw [setWel_wel1, if_pos rfl]
  · rfl

theorem welMarked_wel1 (s : State) (w st v : Nat) : (s.welMarked w st).wel1 v = s.wel1 v :=
  wel1_of_wel ((fsetB_wel _ _ _ _).trans (fset_wel _ _ _ _)) v

theorem welTo_eq {s : State} {w st : Nat} (h : s.welState w ≠ st) :
    s.welTo w st = ((s.welMarked w st).welRested w st).allIdle := by
  unfold State.welTo
  rw [if_neg h]
  rfl

theorem welTo_same {s : State} {w st : Nat} (h : s.welState w = st) : s.welTo w st = s := if_pos h

theorem welTo_wel1 (s : State) (w st : Nat) :
    (s.welTo w st).wel1 w = s.wel1 w ∨ (s.welTo w st).wel1 w = (s.wel1 w).unpowered ∧ st = 1 := by
  by_cases h : s.welState w = st
  · exact Or.inl (congrArg (State.wel1 · w) (welTo_same h))
  · rw [welTo_eq h, wel1_of_wel ((allIdle_agree _).wel_same (by decide)), welRested_wel1, welMarked_wel1]
    split
    next hst => exact Or.inr ⟨rfl, hst⟩
    next => exact Or.inl rfl

theorem welTo_job (s : State) (w st : Nat) : ((s.welTo w st).wel1 w).job = (s.wel1 w).job := by
  rcases welTo_wel1 s w st with h | ⟨h, -⟩
  · exact congrArg Wel.job h
  · exact (congrArg Wel.job h).trans rfl

theorem welTo_retire (s : State) (w st : Nat) : ((s.welTo w st).wel1 w).retire = (s.wel1 w).retire := by
  rcases welTo_wel1 s w st with h | ⟨h, -⟩
  · exact congrArg Wel.retire h
  · exact (congrArg Wel.retire h).trans rfl

section state
variable {s : State} {w st : Nat} (wr : Regs.wf s.regs = true) (hw : w < 18)
include wr

theorem welRested_wf : Regs.wf ((s.welMarked w st).welRested w st).regs = true := by
  rw [welRested_regs]
  exact fsetB_wf _ _ _ _ (fset_wf _ _ _ _ wr)

theorem welTo_wf : Regs.wf (s.welTo w st).regs = true := (welTo_agree s w st).regsWf wr

include hw

/-- The word of WEL_STATUS, in which the engine that takes a state changes STATE alone. -/
theorem welTo_status (h : s.welState w ≠ st) :
    (s.welTo w st).reg .WEL_STATUS w = (s.fset F.WEL_STATUS_STATE w st).reg .WEL_STATUS w := by
  rw [welTo_eq h, (allIdle_agree _).regs (welRested_wf wr) _ _ (welStatus_ok hw) (by decide), reg_of_regs (welRested_regs _ _ _)]
  exact reg_setReg_ne _ _ (fset_wf _ _ _ _ wr) (welStatus_ok hw) (Or.inl (by decide))

/-- An engine that takes state `st` is in it. -/
theorem welTo_state (hst : st < 8) : (s.welTo w st).welState w = st := by
  by_cases h : s.welState w = st
  · rw [welTo_same h, h]
  · have hstate : (s.welTo w st).welState w = (s.fset F.WEL_STATUS_STATE w st).welState w :=
      congrArg (bits · 0 3) (welTo_status wr hw h)
    rw [hstate]
    exact (fget_fset_same s F.WEL_STATUS_STATE w st wr (welStatus_ok hw) (by decide)).trans (Nat.mod_eq_of_lt hst)

/-- The other fields of WEL_STATUS stand. -/
theorem welTo_field {g : Fld} (hreg : g.reg = .WEL_STATUS) (hlo : 3 ≤ g.lo) : (s.welTo w st).fget g w = s.fget g w := by
  by_cases h : s.welState w = st
  · rw [welTo_same h]
  · rw [← fget_fset_field s F.WEL_STATUS_STATE g w st wr (welStatus_ok hw) hreg (Or.inr hlo), State.fget, State.fget, hreg,
      welTo_status wr hw h]

/-- BUSY of the page of an engine that has begun to run. -/
theorem welTo_run_busy (h : s.welState w ≠ 3) : (s.welTo w 3).flag F.PAGE_STATUS_BUSY (0x40 + w) = true := by
  have ok : Reg.PAGE_STATUS.ok (0x40 + w) = true := pageStatus_ok (welPage_lt hw)
  rw [welTo_eq h, (allIdle_agree _).flag_same (f := F.PAGE_STATUS_BUSY) (welRested_wf wr) ok (by decide)]
  exact flag_fsetB_same true (fset_wf _ _ _ _ wr) ok (by decide)

end state

/-! ### A job that ends (R189, R193) -/

theorem frameLeft_wel1 (s : State) (j : Job) (w : Nat) : (s.frameLeft j).wel1 w = s.wel1 w := by
  unfold State.frameLeft
  split
  · rfl
  · split <;> rfl

theorem dropJob_agree (s : State) (w : Nat) : Agree (1 <<< 23) s (s.dropJob w) := State.dropJob_touch (by decide) (.refl _ s)

theorem dropJob_some {s : State} {w : Nat} {j : Job} (h : (s.wel1 w).job = some j) :
    s.dropJob w = (s.setWel w { s.wel1 w with job := none, halting := false, fence := false, stopping := none }).frameLeft j := by
  unfold State.dropJob
  simp only [h]

theorem dropJob_none {s : State} {w : Nat} (h : (s.wel1 w).job = none) : s.dropJob w = s := by
  unfold State.dropJob
  simp only [h]

theorem dropJob_job (s : State) (w : Nat) : ((s.dropJob w).wel1 w).job = none := by
  cases h : (s.wel1 w).job with
  | none => rwa [dropJob_none h]
  | some j => rw [dropJob_some h, frameLeft_wel1, setWel_wel1, if_pos rfl]

theorem dropJob_retire (s : State) (w : Nat) : ((s.dropJob w).wel1 w).retire = (s.wel1 w).retire := by
  cases h : (s.wel1 w).job with
  | none => rw [dropJob_none h]
  | some j => rw [dropJob_some h, frameLeft_wel1, setWel_wel1, if_pos rfl]

/-! ### A stop (R179) -/

/-- `t` is what a stop with `cause` leaves of engine `w`, unless a darn has retired the engine. -/
def State.welStopped (s t : State) (w cause : Nat) : Prop :=
  (s.wel1 w).retire = false → t.welState w = 4 ∧ t.fget F.WEL_STATUS_CAUSE w = cause ∧ (t.wel1 w).job = none ∧
    t.fbit F.PAGE_IRQ_SOURCES (0x40 + w) 0 = true

theorem welRetire_kept {s : State} {w : Nat} (h : (s.wel1 w).retire = false) : s.welRetire w = s := if_neg (by simp [h])

/-- The loads of earlier words have landed. -/
def State.welLanded (s : State) (w : Nat) : State := s.setWel w { (s.wel1 w).landed with loads := [] }

/-- The header of the result of the job of engine `w` says that it was stopped. -/
def State.headerStopped (s : State) (w : Nat) : State :=
  match (s.wel1 w).landed.job with
  | none => s.welLanded w
  | some j =>
    ((s.welLanded w).sramOwnWrite (blockSource 0x52) (sramBase 2 + j.dst + 1) [2#8]).sramOwnWrite (blockSource 0x52)
      (sramBase 2 + j.dst + 0x34) (leBytes 4 j.cycles)

/-- Cause and address of the stop are noted. -/
def State.stopNoted (s : State) (w cause pc : Nat) : State :=
  (((s.headerStopped w).dropJob w).fset F.WEL_STATUS_CAUSE w cause).fset F.WEL_FAULT_PC_ADDR w pc

theorem welStop_eq (s : State) (w cause pc : Nat) :
    s.welStop w cause pc = (((s.stopNoted w cause pc).welTo w 4).irq (0x40 + w) 0).welRetire w := rfl

/-- What a write to a domain SRAM may touch. -/
def ownWriteMask : Nat := 0x1840000000000001c18000000000000020c

theorem sramOwnWrite_agree (s : State) (src a : Nat) (bs : List Byte) : Agree ownWriteMask s (s.sramOwnWrite src a bs) :=
  State.sramOwnWrite_touch (by decide) (.refl _ s)

theorem headerStopped_agree (s : State) (w : Nat) : Agree ownWriteMask (s.welLanded w) (s.headerStopped w) := by
  unfold State.headerStopped
  split
  · exact .refl _ _
  · exact (sramOwnWrite_agree _ _ _ _).trans (sramOwnWrite_agree _ _ _ _)

theorem headerStopped_wel1 (s : State) (w : Nat) : (s.headerStopped w).wel1 w = { (s.wel1 w).landed with loads := [] } := by
  rw [wel1_of_wel ((headerStopped_agree s w).wel_same (by decide)), State.welLanded, setWel_wel1, if_pos rfl]

theorem stopNoted_wel1 (s : State) (w cause pc : Nat) :
    (s.stopNoted w cause pc).wel1 w = ((s.headerStopped w).dropJob w).wel1 w :=
  wel1_of_wel ((fset_wel _ _ _ _).trans (fset_wel _ _ _ _)) w

section stop
variable {s : State} {w cause : Nat} (wr : Regs.wf s.regs = true) (hw : w < 18)
include wr

theorem headerStopped_wf : Regs.wf (s.headerStopped w).regs = true := (headerStopped_agree s w).regsWf wr

theorem stopNoted_wf (pc : Nat) : Regs.wf (s.stopNoted w cause pc).regs = true :=
  fset_wf _ _ _ _ (fset_wf _ _ _ _ ((dropJob_agree _ w).regsWf (headerStopped_wf wr)))

include hw

theorem stopNoted_cause (pc : Nat) (hc : cause < 16) : (s.stopNoted w cause pc).fget F.WEL_STATUS_CAUSE w = cause := by
  have wd := (dropJob_agree _ w).regsWf (headerStopped_wf (w := w) wr)
  rw [State.stopNoted, fget_fset_ne _ _ _ _ _ _ (fset_wf _ _ _ _ wd) (welStatus_ok hw) (Or.inl (by decide))]
  exact (fget_fset_same _ F.WEL_STATUS_CAUSE w cause wd (welStatus_ok hw) (by decide)).trans (Nat.mod_eq_of_lt hc)

/-- A stop leaves the engine STOPPED with its cause, without a job and with its interrupt. -/
theorem welStop_stopped (pc : Nat) (hc : cause < 16) : s.welStopped (s.welStop w cause pc) w cause := by
  intro hretire
  have wn : Regs.wf (s.stopNoted w cause pc).regs = true := stopNoted_wf wr pc
  have wt : Regs.wf ((s.stopNoted w cause pc).welTo w 4).regs = true := welTo_wf wn
  have hirq := irq_agree ((s.stopNoted w cause pc).welTo w 4) (0x40 + w) 0
  have hwel := wel1_of_wel (hirq.wel_same (by decide)) w
  have hkept : (((s.stopNoted w cause pc).welTo w 4).wel1 w).retire = false := by
    rw [welTo_retire, stopNoted_wel1, dropJob_retire, headerStopped_wel1, ← hretire]
    exact landed_retire _
  rw [welStop_eq, welRetire_kept (by rw [hwel, hkept])]
  refine ⟨?_, ?_, ?_, irq_sets wt (welPage_lt hw) (welPage_ne hw) (by decide)⟩
  · exact (hirq.fget_same (f := F.WEL_STATUS_STATE) wt (welStatus_ok hw) (by decide)).trans (welTo_state wn hw (by decide))
  · exact (hirq.fget_same (f := F.WEL_STATUS_CAUSE) wt (welStatus_ok hw) (by decide)).trans
      ((welTo_field wn hw rfl (by decide)).trans (stopNoted_cause wr hw pc hc))
  · rw [hwel, welTo_job, stopNoted_wel1, dropJob_job]

/-- The address of the stop stands in WEL_FAULT_PC, also of an engine that a darn then retires. -/
theorem welStop_faultPc (pc : Nat) : (s.welStop w cause pc).fget F.WEL_FAULT_PC_ADDR w = pc % 2048 := by
  have ok : Reg.WEL_FAULT_PC.ok w = true := ok_of_lt hw (by decide) (by decide)
  have wd := (dropJob_agree _ w).regsWf (headerStopped_wf (w := w) wr)
  have wn : Regs.wf (s.stopNoted w cause pc).regs = true := stopNoted_wf wr pc
  have hend : Agree (welToMask ||| 1 <<< (64 + Reg.CS_STATUS.ctorIdx)) (s.stopNoted w cause pc) (s.welStop w cause pc) := by
    rw [welStop_eq]
    exact State.welRetire_touch (by decide) (State.irq_touch (by decide) (State.welTo_touch (by decide) (.refl _ _)))
  rw [hend.fget_same (f := F.WEL_FAULT_PC_ADDR) wn ok (by decide)]
  exact fget_fset_same _ F.WEL_FAULT_PC_ADDR w pc (fset_wf _ _ _ _ wd) ok (by decide)

end stop

/-- What a stop may touch of an engine that no darn retires. -/
def welStopMask : Nat :=
  welToMask ||| ownWriteMask ||| 1 <<< (64 + Reg.WEL_FAULT_PC.ctorIdx)

theorem welStop_agree {s : State} {w cause pc : Nat} (hretire : (s.wel1 w).retire = false) :
    Agree welStopMask s (s.welStop w cause pc) := by
  have hirq := irq_agree ((s.stopNoted w cause pc).welTo w 4) (0x40 + w) 0
  have hnoted : Agree welStopMask s (s.stopNoted w cause pc) :=
    ((((setWel_agree s w _).mono (by decide)).trans (((headerStopped_agree s w).mono (by decide)).trans
      ((dropJob_agree _ w).mono (by decide)))).fset (by decide) _ _).fset (by decide) _ _
  have hkept : ((((s.stopNoted w cause pc).welTo w 4).irq (0x40 + w) 0).wel1 w).retire = false := by
    rw [wel1_of_wel (hirq.wel_same (by decide)), welTo_retire, stopNoted_wel1, dropJob_retire, headerStopped_wel1, ← hretire]
    exact landed_retire _
  rw [welStop_eq, welRetire_kept hkept]
  exact hnoted.trans (((welTo_agree _ w 4).mono (by decide)).trans (hirq.mono (by decide)))

end Sys2Proof.Machine
end

section
/-!
PROOF. What a block's read of an SRAM and the checks of a queue's head leave: the heads of the pages but those of the darn
controller, of the bus errors and of the queues, and all the engines.
-/

namespace Sys2Proof.Machine

/-! ### Heads of pages -/

section pages
variable {p : Nat} (hp : writersLeave p)
include hp

theorem fset_heads (s : State) {f : Fld} (n x : Nat) (h : f.reg ≠ .PAGE_STATUS ∧ f.reg ≠ .PAGE_IRQ) :
    HeadKept p s (s.fset f n x) :=
  setReg_heads hp s _ (.inl h)

theorem fsetB_heads (s : State) {f : Fld} (n : Nat) (b : Bool) (h : f.reg ≠ .PAGE_STATUS ∧ f.reg ≠ .PAGE_IRQ) :
    HeadKept p s (s.fsetB f n b) := setReg_heads hp s _ (.inl h)

theorem faddSat_heads (s : State) {f : Fld} (n k : Nat) (h : f.reg ≠ .PAGE_STATUS ∧ f.reg ≠ .PAGE_IRQ) :
    HeadKept p s (s.faddSat f n k) := setReg_heads hp s _ (.inl h)

theorem irq_heads_of_ne (s : State) {q : Nat} (b : Nat) (hq : p ≠ q) : HeadKept p s (s.irq q b) :=
  .of_frame (irq_frame s q b) hp.1 (by simp [tapRegs]) (by simp [tapRegs, hq, hp.ne (q := 0x08) (by decide)])

end pages

/-- Page `p` is none of those whose heads a read of an SRAM or a queue may change. -/
def readsLeave (p : Nat) : Prop := writersLeave p ∧ p ≠ 0x6C ∧ p ≠ 0x52

section heads
variable {p : Nat} (hp : readsLeave p)
include hp

theorem darnShow_heads (s : State) : HeadKept p s s.darnShow := by
  unfold State.darnShow
  refine .ite (.refl p s) ?_
  extract_lets +onlyGivenNames d hd s1 s2 s3 r s4 s5 s6 s7 s8 s9 s10
  have h1 : HeadKept p s s1 := .forEach (fun _ t => setReg_heads hp.1 (r := .DARN_LOG) t _ (.inl (by decide))) _ s
  clear_value s1 d hd
  have h3 : HeadKept p s s3 := (h1.trans (fset_heads hp.1 s1 _ _ (by decide))).trans (fsetB_heads hp.1 s2 _ _ (by decide))
  clear_value s3 r
  have h5 : HeadKept p s s5 :=
    (h3.trans (setReg_heads hp.1 s3 _ (.inl (by decide)))).trans (setReg_heads hp.1 s4 _ (.inl (by decide)))
  clear_value s5
  have h7 : HeadKept p s s7 := (h5.trans (fset_heads hp.1 s5 _ _ (by decide))).trans (fset_heads hp.1 s6 _ _ (by decide))
  clear_value s7
  have h9 : HeadKept p s s9 := (h7.trans (fset_heads hp.1 s7 _ _ (by decide))).trans (fset_heads hp.1 s8 _ _ (by decide))
  clear_value s9
  have h10 : HeadKept p s s10 := h9.trans (fset_heads hp.1 s9 _ _ (by decide))
  exact h10.trans (setReg_heads hp.1 (r := .PAGE_STATUS) s10 _ (.inr hp.2.1.symm))

theorem darnShow_heads_of_regs {s t : State} (h : t.regs = s.regs) : HeadKept p s t.darnShow := (darnShow_heads hp t).of_same h

theorem darnLog_heads (s : State) (kind flags target repl : Nat) : HeadKept p s (s.darnLog kind flags target repl) := by
  refine .ite (.refl p s) (.ite ?_ (darnShow_heads_of_regs hp rfl))
  exact (setReg_heads hp.1 (r := .DARN_STATUS) s _ (.inl (by decide))).trans (irq_heads_of_ne hp.1 _ 3 hp.2.1)

theorem darnDone_heads (s : State) (kind flags target repl : Nat) : HeadKept p s (s.darnDone kind flags target repl) :=
  ((darnLog_heads hp s _ _ _ _).trans (irq_heads_of_ne hp.1 _ 1 hp.2.1)).trans (darnShow_heads hp _)

theorem propose_heads (s : State) (kind target : Nat) : HeadKept p s (s.propose kind target) := by
  refine .ite (.refl p s) (.ite (.refl p s) (.ite ?_ ?_))
  · exact (setReg_heads hp.1 (r := .DARN_STATUS) s _ (.inl (by decide))).trans (irq_heads_of_ne hp.1 _ 3 hp.2.1)
  · have hshow := darnShow_heads_of_regs hp (s := s)
      (t := { s with darn := { s.darn with props := s.darn.props ++ [(kind, target)] } }) rfl
    exact .ite (hshow.trans (irq_heads_of_ne hp.1 _ 0 hp.2.1)) hshow

theorem proposeBank_heads (s : State) (d b : Nat) : HeadKept p s (s.proposeBank d b) := by
  have h := propose_heads hp s 5 (bankTarget d b)
  exact .ite (.refl p s) (.ite (h.trans (.of_regs rfl)) h)

theorem rowTrigger_heads (s : State) (a : Nat) : HeadKept p s (s.rowTrigger a) := by
  unfold State.rowTrigger
  split
  · exact .refl p s
  · refine .ite (.refl p s) (.ite ((darnLog_heads hp _ _ _ _ _).of_same rfl) ?_)
    split
    · exact (proposeBank_heads hp _ _ _).of_same rfl
    · exact (darnDone_heads hp _ _ _ _ _).of_same rfl

theorem rowCorrected_heads (s : State) (a : Nat) : HeadKept p s (s.rowCorrected a) := by
  unfold State.rowCorrected
  split
  · exact .refl p s
  · exact .ite (.refl p s) (.ite ((rowTrigger_heads hp _ a).of_same rfl) (.of_regs rfl))

theorem sramRead_heads (s : State) (a n : Nat) : HeadKept p s (s.sramRead a n).1 := by
  unfold State.sramRead
  generalize s.ecc.filter (fun x => a / 8 * 8 ≤ x.1 && x.1 < a + n) = xs
  suffices h : ∀ acc : State × Bool, HeadKept p s acc.1 → HeadKept p s (xs.foldl (fun acc x =>
      if !acc.1.ecc.contains x then acc
      else if x.2 then (acc.1.rowTrigger x.1, true)
      else (acc.1.rowCorrected x.1, acc.2)) acc).1 from h (s, false) (.refl p s)
  induction xs with
  | nil => exact fun _ h => h
  | cons x xs ih =>
    refine fun acc h => ih _ ?_
    dsimp only
    split
    · exact h
    · split
      · exact h.trans (rowTrigger_heads hp _ _)
      · exact h.trans (rowCorrected_heads hp _ _)

theorem sramOwnRead_heads (s : State) (src a n : Nat) : HeadKept p s (s.sramOwnRead src a n).1 := by
  unfold State.sramOwnRead
  extract_lets dead
  cases dead
  · exact .ite ((sramRead_heads hp s a n).trans (logBusErr_heads hp.1 _ _ _ _ _)) (sramRead_heads hp s a n)
  · exact logBusErr_heads hp.1 _ _ _ _ _

theorem qNext_heads (s : State) (q : Nat) : HeadKept p s (s.qNext q) :=
  (setReg_heads hp.1 (r := .WELQ_QHEAD) s _ (.inl (by decide))).trans (.of_regs rfl)

theorem qSkip_heads (s : State) (q n : Nat) : HeadKept p s (s.qSkip q n) := by
  induction n generalizing s with
  | zero => exact .refl p s
  | succ n ih =>
    have hread := sramOwnRead_heads hp s (blockSource 0x52) (s.qSlot q (s.fget F.WELQ_QHEAD_HEAD q)) 64
    refine .ite (.refl p s) (.ite ?_ hread)
    exact (((hread.trans (qNext_heads hp _ q)).trans (setReg_heads hp.1 (r := .WELQ_STATUS) _ _ (.inl (by decide)))).trans
      (irq_heads_of_ne hp.1 _ 0 hp.2.2)).trans (ih _)

theorem qSettle_heads (s : State) (q : Nat) : HeadKept p s (s.qSettle q) := .ite (qSkip_heads hp s q 1024) (.refl p s)

end heads

/-! ### A read of an SRAM that is powered -/

/-- What a block's own read of a domain SRAM may touch. -/
def ownReadMask : Nat :=
  0x43e0000000000000000000000000000000000000000000000000000000000000000000000000000000000001000000000000001c180000000000080208

theorem sramOwnRead_agree (s : State) (src a n : Nat) : Agree ownReadMask s (s.sramOwnRead src a n).1 :=
  State.sramOwnRead_touch (by decide) (.refl _ s)

theorem bytes_of_mem {s t : State} (h : t.mem = s.mem) (a n : Nat) : t.bytes a n = s.bytes a n := by
  rw [State.bytes, State.bytes]
  simp only [State.byte, h]

theorem sramOf_ana {a : Nat} (lo : sramBase 2 ≤ a) (hi : a < sramBase 2 + 2 ^ 24) : sramOf a = some (2, a - sramBase 2) := by
  have e : sramBase 2 = 0x100030000000 := rfl
  unfold sramOf
  rw [if_neg (by omega), if_neg (by omega), if_pos (by omega), e]

/-- A read of analysis SRAM while its domain lives gives the bytes that stand there. -/
theorem sramOwnRead_ana {s : State} {a : Nat} (src n : Nat) (hl : s.domLive .ana = true) (lo : sramBase 2 ≤ a)
    (hi : a < sramBase 2 + 2 ^ 24) : (s.sramOwnRead src a n).2 = s.bytes a n := by
  have hm : (s.sramRead a n).1.mem = s.mem :=
    Agree.mem_same (M := ownReadMask) (State.sramRead_touch (by decide) (.refl _ s)) (by decide)
  have hlog (t : State) : (t.logBusErr a false src 6).mem = t.mem :=
    Agree.mem_same (M := ownReadMask) (State.logBusErr_touch (by decide) (.refl _ t)) (by decide)
  have hdom : sramDomain 2 = .ana := rfl
  simp only [State.sramOwnRead, sramOf_ana lo hi, hdom, hl, Bool.not_true, Bool.false_eq_true, if_false]
  exact (bytes_of_mem hm a n)

/-! ### The head of a queue -/

/-- Of the parts beside the registers, HEAD moves with its queue's strobes alone. -/
theorem qNext_wel (s : State) (q : Nat) : (s.qNext q).wel = { s.wel with queues := (s.qNext q).wel.queues } := by
  have h := fset_wel s F.WELQ_QHEAD_HEAD q ((s.fget F.WELQ_QHEAD_HEAD q + 1) % s.qSlots q)
  simp only [State.qNext, State.setWq, h]

theorem qSkip_wel (s : State) (q n : Nat) : (s.qSkip q n).wel = { s.wel with queues := (s.qSkip q n).wel.queues } := by
  induction n generalizing s with
  | zero => rfl
  | succ n ih =>
    have hread := (sramOwnRead_agree s (blockSource 0x52) (s.qSlot q (s.fget F.WELQ_QHEAD_HEAD q)) 64).wel_same (by decide)
    have hirq (t : State) := (irq_agree t 0x52 0).wel_same (by decide)
    rw [State.qSkip]
    split
    · rfl
    · simp only
      split
      · rw [ih, hirq, fsetB_wel, qNext_wel, hread]
      · rw [hread]

/-- Of the parts beside the registers, the check of a queue's head changes the queues alone. -/
theorem qSettle_wel (s : State) (q : Nat) : (s.qSettle q).wel = { s.wel with queues := (s.qSettle q).wel.queues } := by
  unfold State.qSettle
  split
  · exact qSkip_wel s q 1024
  · rfl

theorem qSettle_wel1 (s : State) (q w : Nat) : (s.qSettle q).wel1 w = s.wel1 w := by
  rw [State.wel1, qSettle_wel, State.wel1]

/-- What the check of a queue's head may touch. -/
def qSettleMask : Nat :=
  0x43e0000000000000000000000000000010040000000000000000000000000000000000000000000000000001000000000000001c180000000000880208

theorem qSettle_agree (s : State) (q : Nat) : Agree qSettleMask s (s.qSettle q) := State.qSettle_touch (by decide) (.refl _ s)

end Sys2Proof.Machine
end

section
/-!
PROOF. Jobs of the Welut engines: their start at the head of a queue, their end and their run limit.
-/

namespace Sys2Proof.Machine

/-! ### Pages of the analysis domain -/

theorem domLive_ana_of_pageLive {s : State} {p : Nat} {x : Nat} (hp : pageInfo p = some (.ana, x)) (h : s.pageLive p = true) :
    s.domLive .ana = true := by
  rw [State.pageLive, hp, Bool.and_eq_true] at h
  exact h.1

theorem welPage_readsLeave {w : Nat} (hw : w < 18) : readsLeave (0x40 + w) := by
  refine ⟨⟨welPage_lt hw, ?_⟩, by omega, by omega⟩
  simp only [writerPages, List.mem_cons, List.not_mem_nil, or_false, not_or]
  omega

theorem qSlot_bounds (s : State) (q i : Nat) : sramBase 2 ≤ s.qSlot q i ∧ s.qSlot q i < sramBase 2 + 2 ^ 24 :=
  ⟨Nat.le_add_right _ _, Nat.add_lt_add_left (Nat.mod_lt _ (by decide)) _⟩

/-! ### The start of a job (R182, R183) -/

/-- Engine `w` has become `x`, and its registers name a job of priority `p` of logical engine `le`. -/
def State.jobNoted (s : State) (w le p dst : Nat) (x : Wel) : State :=
  (((s.setWel w x).fset F.WEL_STATUS_LOGICAL w le).fset F.WEL_STATUS_PRIO w p).fset F.WEL_JOB_DST_DST w dst

/-- Engine `w` has begun that job. -/
def State.jobBegun (s : State) (w le p dst : Nat) (x : Wel) : State := (s.jobNoted w le p dst x).welTo w 3

/-- What the reads and writes of a block in the domain SRAMs may touch, with what a queue has beside its registers and its HEAD. -/
def jobReadMask : Nat := ownReadMask ||| ownWriteMask ||| 1 <<< 23 ||| 1 <<< (64 + Reg.WELQ_QHEAD.ctorIdx)

/-- The head of a queue becomes a job: the engine takes its program counter and fields from the descriptor. -/
theorem jobStart_eq {s : State} {w q : Nat} (hlive : s.domLive .ana = true) :
    ∃ u x frame taken seq, s.jobStart w q =
        (u.jobBegun w (q / 4) (q % 4) (descNum (s.qHead q) 0x20 4) x).qSettle q ∧
      Agree jobReadMask s u ∧ x.pc = descNum (s.qHead q) 0 2 ∧
      x.job = some ⟨q / 4, q % 4, descNum (s.qHead q) 2 1, descNum (s.qHead q) 4 4, descNum (s.qHead q) 8 8,
        descNum (s.qHead q) 0x20 4, descNum (s.qHead q) 0x24 4, frame, taken, seq, 0, 0⟩ := by
  obtain ⟨lo, hi⟩ := qSlot_bounds s q (s.fget F.WELQ_QHEAD_HEAD q)
  have hread := sramOwnRead_agree s (blockSource 0x52) (s.qSlot q (s.fget F.WELQ_QHEAD_HEAD q)) 64
  have hd : (s.sramOwnRead (blockSource 0x52) (s.qSlot q (s.fget F.WELQ_QHEAD_HEAD q)) 64).2 = s.qHead q :=
    sramOwnRead_ana (blockSource 0x52) 64 hlive lo hi
  rw [← hd]
  unfold State.jobStart
  generalize s.sramOwnRead (blockSource 0x52) (s.qSlot q (s.fget F.WELQ_QHEAD_HEAD q)) 64 = r at hread
  refine ⟨_, _, _, _, _, rfl, ?_, rfl, rfl⟩
  refine State.sramOwnWrite_touch (by decide) (State.sramOwnRead_touch (by decide) ?_)
  refine State.qNext_touch (by decide) (State.setWq_touch (by decide) (hread.mono (by decide)))

section begun
variable {s : State} {w le p dst : Nat} {x : Wel} (wr : Regs.wf s.regs = true) (hw : w < 18) (hidle : s.welState w ≠ 3)
include wr hw

/-- The registers of the engine before it begins to run. -/
theorem jobNoted_fields (hle : le < 16) (hp : p < 4) :
    let u := s.jobNoted w le p dst x
    Regs.wf u.regs = true ∧ u.welState w = s.welState w ∧ u.fget F.WEL_STATUS_LOGICAL w = le ∧
      u.fget F.WEL_STATUS_PRIO w = p := by
  intro u
  have ok := welStatus_ok hw
  have w1 : Regs.wf ((s.setWel w x).fset F.WEL_STATUS_LOGICAL w le).regs = true := fset_wf _ _ _ _ wr
  have w2 := fset_wf _ F.WEL_STATUS_PRIO w p w1
  have w0 : Regs.wf (s.setWel w x).regs = true := wr
  have hdst (g : Fld) (hg : g.reg = .WEL_STATUS) : u.fget g w =
      (((s.setWel w x).fset F.WEL_STATUS_LOGICAL w le).fset F.WEL_STATUS_PRIO w p).fget g w :=
    fget_fset_ne _ _ _ _ _ _ w2 (by rw [hg]; exact ok) (Or.inl (by rw [hg]; decide))
  have hstate : u.fget F.WEL_STATUS_STATE w = s.fget F.WEL_STATUS_STATE w := by
    rw [hdst _ rfl, fget_fset_field _ F.WEL_STATUS_PRIO F.WEL_STATUS_STATE w p w1 ok rfl (by decide),
      fget_fset_field _ F.WEL_STATUS_LOGICAL F.WEL_STATUS_STATE w le w0 ok rfl (by decide)]
    rfl
  refine ⟨fset_wf _ _ _ _ w2, hstate, ?_, ?_⟩
  · rw [hdst _ rfl, fget_fset_field _ F.WEL_STATUS_PRIO F.WEL_STATUS_LOGICAL w p w1 ok rfl (by decide),
      fget_fset_same _ F.WEL_STATUS_LOGICAL w le w0 ok (by decide)]
    exact Nat.mod_eq_of_lt hle
  · rw [hdst _ rfl, fget_fset_same _ F.WEL_STATUS_PRIO w p w1 ok (by decide)]
    exact Nat.mod_eq_of_lt hp

omit wr hw in
theorem jobBegun_wel1 : (s.jobBegun w le p dst x).wel1 w = x := by
  rcases welTo_wel1 (s.jobNoted w le p dst x) w 3 with h | ⟨-, h⟩
  · refine Eq.trans h ?_
    rw [State.jobNoted, wel1_of_wel (fset_wel _ _ _ _), wel1_of_wel (fset_wel _ _ _ _), wel1_of_wel (fset_wel _ _ _ _), setWel_wel1, if_pos rfl]
  · exact absurd h (by decide)

include hidle

/-- An engine that has begun a job is RUN, with the logical engine and the priority of its queue, and its page is busy. -/
theorem jobBegun_status (hle : le < 16) (hp : p < 4) :
    let t := s.jobBegun w le p dst x
    Regs.wf t.regs = true ∧ t.welState w = 3 ∧ t.fget F.WEL_STATUS_LOGICAL w = le ∧ t.fget F.WEL_STATUS_PRIO w = p ∧
      t.flag F.PAGE_STATUS_BUSY (0x40 + w) = true := by
  obtain ⟨wu, hstate, hlog, hprio⟩ := jobNoted_fields (dst := dst) (x := x) wr hw hle hp
  refine ⟨welTo_wf wu, welTo_state wu hw (by decide), ?_, ?_, welTo_run_busy wu hw (hstate ▸ hidle)⟩
  · exact (welTo_field wu hw rfl (by decide)).trans hlog
  · exact (welTo_field wu hw rfl (by decide)).trans hprio

end begun

/-- The queue that an engine serves then checks its next head; the engine stays as it is. -/
theorem qSettle_keeps_engine {s : State} {w : Nat} (q : Nat) (wr : Regs.wf s.regs = true) (hw : w < 18) :
    let t := s.qSettle q
    (∀ g : Fld, g.reg = .WEL_STATUS → t.fget g w = s.fget g w) ∧
      t.flag F.PAGE_STATUS_BUSY (0x40 + w) = s.flag F.PAGE_STATUS_BUSY (0x40 + w) ∧ t.wel1 w = s.wel1 w := by
  refine ⟨fun g hg => (qSettle_agree s q).fget_same wr (hg ▸ welStatus_ok hw) (by rw [hg]; decide), ?_, qSettle_wel1 s q w⟩
  obtain ⟨-, hst, -⟩ := qSettle_heads (welPage_readsLeave hw) s q wr
  exact congrArg (fun v => bits v F.PAGE_STATUS_BUSY.lo F.PAGE_STATUS_BUSY.width != 0) hst

/-! ### Which job an engine takes -/

theorem find?_range {n k : Nat} {f : Nat → Bool} (hk : k < n) (h : f k = true) (hlt : ∀ i, i < k → f i = false) :
    (List.range n).find? f = some k :=
  List.find?_range_eq_some.2 ⟨h, List.mem_range.2 hk, fun i hi => by simp [hlt i hi]⟩

/-- An engine to which no logical engine is mapped takes no job. -/
theorem jobDispatch_unmapped {s : State} {w : Nat} (h : ∀ k, k < 16 → s.welMap k ≠ w) : s.jobDispatch w = s := by
  have hnone : (List.range 16).find? (fun e => s.welMap e == w) = none := by
    rw [List.find?_eq_none]
    intro k hk
    simpa using h k (List.mem_range.1 hk)
  simp only [State.jobDispatch, hnone]

/-- An idle engine takes the head of the first eligible queue of the first logical engine that is mapped to it. -/
theorem jobDispatch_takes {s : State} {w le p : Nat} (hle : le < 16) (hp : p < 4) (hq : s.pageEn 0x52 = true)
    (hpage : s.pageLive (0x40 + w) = true) (hst : s.welState w = 2) (hact : s.flag F.CS_STATUS_ACTIVE w = false)
    (hpatch : s.flag F.CS_CTRL_PATCH w = false) (hmap : s.welMap le = w) (hfirst : ∀ k, k < le → s.welMap k ≠ w)
    (helig : s.qEligible (4 * le + p) = true) (hbefore : ∀ k, k < p → s.qEligible (4 * le + k) = false) :
    s.jobDispatch w = s.jobStart w (4 * le + p) := by
  have hfind : (List.range 16).find? (fun e => s.welMap e == w) = some le :=
    find?_range hle (by simp [hmap]) (fun k hk => by simpa using hfirst k hk)
  have hqueue : (List.range 4).find? (fun p => s.qEligible (4 * le + p)) = some p := find?_range hp helig hbefore
  have hstate : (s.welState w == 2) = true := by simp [hst]
  simp only [State.jobDispatch, hfind, hq, hpage, hstate, hact, hpatch, Bool.not_false, Bool.and_self, Bool.not_true,
    Bool.false_eq_true, if_false, hqueue]

/-! ### The end of a job (R189) -/

/-- What the news of the end of a job may touch: the closed frames, the pulses, the push of the table. -/
def jobToldMask : Nat :=
  pulseMask ||| 1 <<< 23 ||| 1 <<< (64 + Reg.WELQ_STATUS.ctorIdx) ||| 1 <<< (64 + Reg.PZL_PUSH_STATUS.ctorIdx)

theorem pushTable_engines (s : State) (dst len : Nat) : (s.pushTable dst len).wel.engines = s.wel.engines := by
  unfold State.pushTable
  extract_lets pair
  split
  · rfl
  · split
    · have hirq (t : State) := congrArg WelPart.engines ((irq_agree t 0x58 3).wel_same (by decide))
      rw [hirq, faddSat_wel, fsetB_wel]
    · rw [fset_wel]

theorem pushTable_agree (s : State) (dst len : Nat) : Agree jobToldMask s (s.pushTable dst len) :=
  State.pushTable_touch (by decide) (.refl _ s)

theorem pulse_told (s : State) (g : Nat) : Agree jobToldMask s (s.pulse g) := State.pulse_touch (by decide) (.refl _ s)

/-- The news of the end of job `j`: its contribution `c` to its frame, or that it is late; its pulse; its table of `len` bytes. -/
def State.jobTold (s : State) (j : Job) (late dgst : Bool) (c len : Nat) : State :=
  let s := if late then (s.fsetB F.WELQ_STATUS_LATE 0 true).irq 0x52 3
    else if !dgst then s
    else { s with wel := { s.wel with frames := s.wel.frames.map (fun (x : OpenFrame) =>
        if some (x.gen, x.num) == j.frame then { x with xor := x.xor ^^^ c, count := x.count + 1 } else x) } }
  let s := if j.dflags.testBit 2 then s.pulse (0x160 + j.le) else s
  if j.dflags.testBit 1 then s.pushTable j.dst len else s

theorem jobTold_agree (s : State) (j : Job) (late dgst : Bool) (c len : Nat) :
    Agree jobToldMask s (s.jobTold j late dgst c len) := by
  unfold State.jobTold
  extract_lets x s1 s2
  have h1 : Agree jobToldMask s s1 := by
    refine .ite ?_ (.ite (.refl _ s) ((Agree.refl _ s).set_wel (by decide) _))
    exact ((Agree.refl jobToldMask s).fsetB (by decide) _ _).trans ((irq_agree _ 0x52 3).mono (by decide))
  have h2 : Agree jobToldMask s s2 := .ite (h1.trans (pulse_told s1 _)) h1
  exact .ite (h2.trans (pushTable_agree s2 _ _)) h2

theorem jobTold_engines (s : State) (j : Job) (late dgst : Bool) (c len : Nat) :
    (s.jobTold j late dgst c len).wel.engines = s.wel.engines := by
  unfold State.jobTold
  extract_lets x s1 s2
  have h1 : s1.wel.engines = s.wel.engines := by
    unfold s1
    split
    · rw [(irq_agree _ 0x52 3).wel_same (by decide), fsetB_wel]
    · split <;> rfl
  have h2 : s2.wel.engines = s.wel.engines := by
    unfold s2
    split
    · have hp : Agree pulseMask s1 (s1.pulse (0x160 + j.le)) := State.pulse_touch (by decide) (.refl _ s1)
      rw [hp.wel_same (by decide), h1]
    · exact h1
  split
  · rw [pushTable_engines, h2]
  · exact h2

/-- The job of an engine whose HALT has been issued completes: the table has been written and told of, then the job counts
and the engine is free again. -/
theorem jobComplete_eq {s : State} {w clocks : Nat} {j : Job} (hpage : s.pageLive (0x40 + w) = true) (hst : s.welState w = 3)
    (hj : (s.wel1 w).job = some j) (hhalt : (s.wel1 w).halting = true) (hfence : (s.wel1 w).fence = false)
    (hdma : (s.wel1 w).dma.any (fun x => x.kind == 2) = false) :
    ∃ u late dgst c len,
      let v := (State.jobTold (u.faddSat F.WEL_CYCLES_COUNT w clocks) j late dgst c len).fadd F.WEL_JOBS_COUNT w 1
      s.jobComplete w clocks = ((v.dropJob w).welTo w (if v.flag F.WEL_CTRL_SERVICE w then 2 else 1)).welRetire w ∧
        Agree (ownReadMask ||| ownWriteMask) s u := by
  have hstate : (s.welState w == 3) = true := by simp [hst]
  simp only [State.jobComplete, hj, hpage, hstate, hhalt, hfence, hdma, Bool.and_self, Bool.not_true, Bool.or_self,
    Bool.false_eq_true, if_false]
  have hread (len : Nat) := sramOwnRead_agree s (blockSource 0x52) (sramBase 2 + j.dst + 64) len
  exact ⟨_, _, _, _, _, rfl, State.sramOwnWrite_touch (by decide) ((hread _).mono (by decide))⟩

section ends
variable {s : State} {w : Nat} (wr : Regs.wf s.regs = true) (hw : w < 18)
include wr hw

/-- An engine that no darn retires, and that drops its job and takes state `st`, is in that state without a job; the other
registers stand. -/
theorem jobFreed {st : Nat} (hst : st < 8) (hretire : (s.wel1 w).retire = false) :
    let t := ((s.dropJob w).welTo w st).welRetire w
    t.welState w = st ∧ (t.wel1 w).job = none ∧
      ∀ g : Fld, g.reg.ok w = true → (1 <<< 23 ||| welToMask).testBit (64 + g.reg.ctorIdx) = false → t.fget g w = s.fget g w := by
  intro t
  have wd : Regs.wf (s.dropJob w).regs = true := (dropJob_agree s w).regsWf wr
  have ht : t = (s.dropJob w).welTo w st := welRetire_kept (by rw [welTo_retire, dropJob_retire, hretire])
  have hagree : Agree (1 <<< 23 ||| welToMask) s t := by
    rw [ht]
    exact ((dropJob_agree s w).mono (by decide)).trans ((welTo_agree _ w st).mono (by decide))
  refine ⟨by rw [ht, welTo_state wd hw hst], by rw [ht, welTo_job, dropJob_job], fun g ok hg => hagree.fget_same wr ok hg⟩

/-- A dispatch that takes a job: the engine is RUN with the fields of the descriptor. -/
theorem jobStart_runs {le p : Nat} (hle : le < 16) (hp : p < 4) (hlive : s.domLive .ana = true) (hidle : s.welState w ≠ 3) :
    let d := s.qHead (4 * le + p)
    let t := s.jobStart w (4 * le + p)
    ∃ frame taken seq, t.welState w = 3 ∧ t.fget F.WEL_STATUS_LOGICAL w = le ∧ t.fget F.WEL_STATUS_PRIO w = p ∧
      t.flag F.PAGE_STATUS_BUSY (0x40 + w) = true ∧ (t.wel1 w).pc = descNum d 0 2 ∧
      (t.wel1 w).job = some ⟨le, p, descNum d 2 1, descNum d 4 4, descNum d 8 8, descNum d 0x20 4, descNum d 0x24 4,
        frame, taken, seq, 0, 0⟩ := by
  intro d t
  have hdiv : (4 * le + p) / 4 = le := by omega
  have hmod : (4 * le + p) % 4 = p := by omega
  obtain ⟨u, x, frame, taken, seq, ht, hu, hpc, hjob⟩ := jobStart_eq (w := w) (q := 4 * le + p) hlive
  rw [hdiv, hmod] at ht
  rw [hdiv, hmod] at hjob
  have wu : Regs.wf u.regs = true := hu.regsWf wr
  have hst : u.welState w = s.welState w := hu.fget_same (f := F.WEL_STATUS_STATE) wr (welStatus_ok hw) (by decide)
  obtain ⟨wb, hrun, hlog, hprio, hbusy⟩ := jobBegun_status (dst := descNum d 0x20 4) (x := x) wu hw (hst ▸ hidle) hle hp
  obtain ⟨hfld, hbusy', hwel⟩ := qSettle_keeps_engine (4 * le + p) wb hw
  rw [← ht] at hfld hbusy' hwel
  rw [jobBegun_wel1] at hwel
  refine ⟨frame, taken, seq, (hfld F.WEL_STATUS_STATE rfl).trans hrun, (hfld _ rfl).trans hlog, (hfld _ rfl).trans hprio,
    hbusy'.trans hbusy, ?_, ?_⟩
  · rw [hwel, hpc]
  · rw [hwel, hjob]

/-- A job that completes leaves the engine IDLE, or SPARE out of SERVICE, and counts. -/
theorem jobComplete_ends {j : Job} {clocks : Nat} (hpage : s.pageLive (0x40 + w) = true) (hst : s.welState w = 3)
    (hj : (s.wel1 w).job = some j) (hhalt : (s.wel1 w).halting = true) (hfence : (s.wel1 w).fence = false)
    (hdma : (s.wel1 w).dma.any (fun x => x.kind == 2) = false) (hretire : (s.wel1 w).retire = false) :
    let t := s.jobComplete w clocks
    t.welState w = (if s.flag F.WEL_CTRL_SERVICE w then 2 else 1) ∧ (t.wel1 w).job = none ∧
      t.fget F.WEL_JOBS_COUNT w = (s.fget F.WEL_JOBS_COUNT w + 1) % 2 ^ 32 ∧
      t.fget F.WEL_CYCLES_COUNT w = min (2 ^ 32 - 1) (s.fget F.WEL_CYCLES_COUNT w + clocks) := by
  intro t
  obtain ⟨u, late, dgst, c, len, ht, hu⟩ := jobComplete_eq (clocks := clocks) hpage hst hj hhalt hfence hdma
  have hwel : u.wel = s.wel := hu.wel_same (by decide)
  have wu : Regs.wf u.regs = true := hu.regsWf wr
  have wc : Regs.wf (u.faddSat F.WEL_CYCLES_COUNT w clocks).regs = true := fset_wf _ _ _ _ wu
  have htold := jobTold_agree (u.faddSat F.WEL_CYCLES_COUNT w clocks) j late dgst c len
  have heng := jobTold_engines (u.faddSat F.WEL_CYCLES_COUNT w clocks) j late dgst c len
  generalize State.jobTold (u.faddSat F.WEL_CYCLES_COUNT w clocks) j late dgst c len = v at ht htold heng
  have wv : Regs.wf v.regs = true := htold.regsWf wc
  have okj : Reg.WEL_JOBS.ok w = true := ok_of_lt hw (by decide) (by decide)
  have okc : Reg.WEL_CYCLES.ok w = true := ok_of_lt hw (by decide) (by decide)
  have oks : Reg.WEL_CTRL.ok w = true := ok_of_lt hw (by decide) (by decide)
  have hv : (v.fadd F.WEL_JOBS_COUNT w 1).wel1 w = s.wel1 w := by
    rw [State.fadd, wel1_of_wel (fset_wel _ _ _ _), State.wel1, heng, faddSat_wel, hwel, State.wel1]
  have wj : Regs.wf (v.fadd F.WEL_JOBS_COUNT w 1).regs = true := fset_wf _ _ _ _ wv
  have hhome : (v.fadd F.WEL_JOBS_COUNT w 1).flag F.WEL_CTRL_SERVICE w = s.flag F.WEL_CTRL_SERVICE w := by
    rw [State.flag, State.fadd, fget_fset_ne _ _ F.WEL_CTRL_SERVICE _ _ _ wv oks (Or.inl (by decide)),
      htold.fget_same (f := F.WEL_CTRL_SERVICE) wc oks (by decide), State.faddSat,
      fget_fset_ne _ _ F.WEL_CTRL_SERVICE _ _ _ wu oks (Or.inl (by decide)),
      hu.fget_same (f := F.WEL_CTRL_SERVICE) wr oks (by decide), State.flag]
  have hst' : (if (v.fadd F.WEL_JOBS_COUNT w 1).flag F.WEL_CTRL_SERVICE w then 2 else 1) < 8 := by split <;> decide
  obtain ⟨hfree, hjob, hregs⟩ := jobFreed wj hw hst' (by rw [hv, hretire])
  rw [← ht] at hfree hjob hregs
  refine ⟨by rw [hfree, hhome], hjob, ?_, ?_⟩
  · rw [hregs F.WEL_JOBS_COUNT okj (by decide), State.fadd, fget_fset_same _ F.WEL_JOBS_COUNT w _ wv okj (by decide),
      htold.fget_same (f := F.WEL_JOBS_COUNT) wc okj (by decide), State.faddSat,
      fget_fset_ne _ _ F.WEL_JOBS_COUNT _ _ _ wu okj (Or.inl (by decide)),
      hu.fget_same (f := F.WEL_JOBS_COUNT) wr okj (by decide)]
    rfl
  · rw [hregs F.WEL_CYCLES_COUNT okc (by decide), State.fadd,
      fget_fset_ne _ _ F.WEL_CYCLES_COUNT _ _ _ wv okc (Or.inl (by decide)),
      htold.fget_same (f := F.WEL_CYCLES_COUNT) wc okc (by decide), State.faddSat,
      fget_fset_same _ F.WEL_CYCLES_COUNT w _ wu okc (by decide),
      hu.fget_same (f := F.WEL_CYCLES_COUNT) wr okc (by decide)]
    exact Nat.mod_eq_of_lt (lt_of_le_of_lt (Nat.min_le_left _ _) (by decide))

/-- The run limit stops the engine. -/
theorem jobTimeout_stops {j : Job} (hpage : s.pageLive (0x40 + w) = true) (hst : s.welState w = 3) (hj : (s.wel1 w).job = some j)
    (hlimit : j.limit ≠ 0) (hstop : (s.wel1 w).stopping = none) : s.welStopped (s.jobTimeout w) w 2 := by
  intro hretire
  have hstate : (s.welState w == 3) = true := by simp [hst]
  have hlim : (j.limit != 0) = true := by simp [hlimit]
  simp only [State.jobTimeout, hj, hpage, hstate, hlim, hstop, Option.isNone_none, Bool.and_self, if_true]
  generalize hu : State.setWel _ w _ = u
  have wu : Regs.wf u.regs = true := by
    rw [← hu, setWel_regs]
    exact fset_wf _ _ _ _ wr
  have hkept : (u.wel1 w).retire = false := by
    rw [← hu, setWel_wel1, if_pos rfl]
    exact hretire
  exact welStop_stopped wu hw _ (by decide) hkept

end ends

end Sys2Proof.Machine
end

section
/-!
PROOF. Writes to the control of an engine and to the tail of a queue, the copy of a template, and the frame digests.
-/

namespace Sys2Proof.Machine

/-! ### Registers of the engine's page -/

theorem welCtrl_ok {w : Nat} (hw : w < 18) : Reg.WEL_CTRL.ok w = true := ok_of_lt hw (by decide) (by decide)

theorem csStatus_ok {w : Nat} (hw : w < 18) : Reg.CS_STATUS.ok w = true := ok_of_lt hw (by decide) (by decide)

theorem pageCtrl_ok {p : Nat} (hp : p < 256) : Reg.PAGE_CTRL.ok p = true := ok_of_pageHead (by decide) (by decide) hp

theorem welCtrl_page (w : Nat) : Reg.WEL_CTRL.page w = 0x40 + w := by
  have : Reg.WEL_CTRL.addr w = 0x40040 + (w / 1 * 0x1000 + 0) := rfl
  rw [Reg.page, this]
  omega

theorem pageInfo_wel {w : Nat} (hw : w < 18) : ∃ x, pageInfo (0x40 + w) = some (.ana, x) := by
  have h : (List.range 18).all (fun w => (pageInfo (0x40 + w)).map Prod.fst == some .ana) = true := by decide
  obtain ⟨⟨d, x⟩, hx, rfl⟩ := Option.map_eq_some_iff.mp (eq_of_beq (List.all_eq_true.mp h w (List.mem_range.mpr hw)))
  exact ⟨x, hx⟩

/-- The engine's page lives in the analysis domain. -/
theorem domLive_of_welPage {s : State} {w : Nat} (hw : w < 18) (h : s.pageLive (0x40 + w) = true) : s.domLive .ana = true := by
  obtain ⟨x, hx⟩ := pageInfo_wel hw
  exact domLive_ana_of_pageLive hx h

/-! ### A write to WEL_CTRL (R178, R179) -/

/-- The page of engine `w` is enabled and its control store valid. -/
def State.welReady (s : State) (w : Nat) : Prop := s.flag F.PAGE_CTRL_EN (0x40 + w) = true ∧ s.flag F.CS_STATUS_VALID w = true

/-- State that an engine without a job takes. -/
def State.welHome (s : State) (w : Nat) : Nat := if s.flag F.WEL_CTRL_SERVICE w then 2 else 1

/-- The word of a write of `v` stands in WEL_CTRL, without HALT and RESUME. -/
def State.welCommanded (s : State) (w : Nat) (v : Word) : State :=
  ((s.merged .WEL_CTRL w v).take F.WEL_CTRL_HALT w).take F.WEL_CTRL_RESUME w

/-- What a write to WEL_CTRL does at once. -/
def State.welObeys (s : State) (w : Nat) (v : Word) : State :=
  let s := if bits v 2 1 = 1 then s.welHalt w else s
  if bits v 1 1 = 1 then s.welResume w else s

theorem writeReg_welCtrl {s : State} {q : Requester} {w : Nat} {v : Word} (hw : w < 18) (h : s.admits q .WEL_CTRL w v = true) :
    s.writeReg q .WEL_CTRL w v = s.taken (((s.welCommanded w v).welObeys w v).welRefresh w) :=
  writeReg_unstaged
    (f := fun t => ((((t.take F.WEL_CTRL_HALT w).take F.WEL_CTRL_RESUME w).welObeys w v).welRefresh w))
    (welCtrl_ok hw) h rfl (by decide) rfl

theorem domLive_of_admits_welCtrl {s : State} {q : Requester} {w : Nat} {v : Word} (hw : w < 18)
    (h : s.admits q .WEL_CTRL w v = true) : s.domLive .ana = true := by
  simp only [State.admits, Bool.and_eq_true] at h
  obtain ⟨⟨⟨⟨⟨⟨hperf, -⟩, -⟩, -⟩, -⟩, -⟩, -⟩ := h
  rw [welCtrl_page w] at hperf
  exact domLive_of_welPage hw (performs_live hperf).1

/-- The rows of WEL_CTRL alone change under the write. -/
theorem welCommanded_agree (s : State) (w : Nat) (v : Word) :
    Agree (1 <<< (64 + Reg.WEL_CTRL.ctorIdx)) s (s.welCommanded w v) :=
  ((merged_agree s (by decide) w v).fsetB (by decide) _ _).fsetB (by decide) _ _

theorem welCommanded_wel1 (s : State) (w : Nat) (v : Word) : (s.welCommanded w v).wel1 w = s.wel1 w :=
  wel1_of_wel ((welCommanded_agree s w v).wel_same (by decide)) w

section write
variable {s : State} {w : Nat} {v : Word} (wr : Regs.wf s.regs = true) (hw : w < 18)
include wr hw

/-- SERVICE of the stored word is the bit written. -/
theorem welCommanded_service : (s.welCommanded w v).fget F.WEL_CTRL_SERVICE w = bits v 0 1 := by
  have ok := welCtrl_ok hw
  have wm := merged_wf .WEL_CTRL w v wr
  have wt : Regs.wf ((s.merged .WEL_CTRL w v).take F.WEL_CTRL_HALT w).regs = true := fsetB_wf _ _ _ _ wm
  rw [State.welCommanded, State.take, State.fsetB,
    fget_fset_field _ F.WEL_CTRL_RESUME F.WEL_CTRL_SERVICE w _ wt ok rfl (by decide),
    State.take, State.fsetB, fget_fset_field _ F.WEL_CTRL_HALT F.WEL_CTRL_SERVICE w _ wm ok rfl (by decide),
    State.fget]
  exact (congrArg (bits · 0 1) (merged_reg v wr ok)).trans
    (bits_mergeWord (f := ⟨"SERVICE", 0, 1, .rw, 0, []⟩) _ v (by decide) (fun _ _ => rfl))

theorem welCommanded_state : (s.welCommanded w v).welState w = s.welState w :=
  (welCommanded_agree s w v).fget_same (f := F.WEL_STATUS_STATE) wr (welStatus_ok hw) (by decide)

end write

/-- An engine that is RUN or STOPPED, enabled and with a valid store stays so. -/
theorem welRefresh_kept {s : State} {w : Nat} (hready : s.welReady w) (hst : 2 < s.welState w) : s.welRefresh w = s := by
  obtain ⟨hen, hvalid⟩ := hready
  simp [State.welRefresh, hen, hvalid, Nat.not_le.mpr hst]

/-- An engine without a job, enabled and with a valid store, is IDLE or SPARE. -/
theorem welRefresh_home {s : State} {w : Nat} (hlive : s.domLive .ana = true) (hready : s.welReady w) (hst : s.welState w ≤ 2) :
    s.welRefresh w = s.welTo w (s.welHome w) := by
  obtain ⟨hen, hvalid⟩ := hready
  simp [State.welRefresh, hlive, hen, hvalid, hst, State.welHome]

/-- What leaves an engine as ready as it was. -/
theorem welReady_of_agree {M : Nat} {s t : State} {w : Nat} (h : Agree M s t) (wr : Regs.wf s.regs = true) (hw : w < 18)
    (hen : M.testBit (64 + Reg.PAGE_CTRL.ctorIdx) = false) (hvalid : M.testBit (64 + Reg.CS_STATUS.ctorIdx) = false)
    (hready : s.welReady w) : t.welReady w :=
  ⟨(h.flag_same (f := F.PAGE_CTRL_EN) wr (pageCtrl_ok (welPage_lt hw)) hen).trans hready.1,
    (h.flag_same (f := F.CS_STATUS_VALID) wr (csStatus_ok hw) hvalid).trans hready.2⟩

theorem taken_fget (s t : State) (f : Fld) (n : Nat) : (s.taken t).fget f n = t.fget f n :=
  congrArg (fun v => bits v f.lo f.width) (reg_of_regs (taken_regs s t) f.reg n)

theorem welHome_le (s : State) (w : Nat) : s.welHome w ≤ 2 := by
  unfold State.welHome
  split <;> decide

theorem welHome_of_service {s : State} {w : Nat} {v : Word} (h : s.fget F.WEL_CTRL_SERVICE w = bits v 0 1) :
    s.welHome w = 1 + bits v 0 1 := by
  have hlt : bits v 0 1 < 2 := Nat.mod_lt _ (by decide)
  rw [State.welHome, State.flag, h]
  interval_cases bits v 0 1 <;> rfl

/-- What the rows of the engine's states that need no event may touch. -/
def welRefreshMask : Nat := welToMask ||| 1 <<< 23

theorem welRefresh_agree (s : State) (w : Nat) : Agree welRefreshMask s (s.welRefresh w) :=
  State.welRefresh_touch (by decide) (.refl _ s)

section commands
variable {s : State} {q : Requester} {w : Nat} {v : Word} (wr : Regs.wf s.regs = true) (hw : w < 18)
include wr hw

/-- HALT stops a running engine. -/
theorem writeReg_halt (h : s.admits q .WEL_CTRL w v = true) (hhalt : bits v 2 1 = 1) (hresume : bits v 1 1 = 0)
    (hready : s.welReady w) (hst : s.welState w = 3) (hstop : (s.wel1 w).stopping = none) :
    s.welStopped (s.writeReg q .WEL_CTRL w v) w 5 := by
  intro hretire
  rw [writeReg_welCtrl hw h]
  have hagree := welCommanded_agree s w v
  have hwel := welCommanded_wel1 s w v
  have hstate : (s.welCommanded w v).welState w = 3 := (welCommanded_state wr hw).trans hst
  generalize s.welCommanded w v = u at hagree hwel hstate ⊢
  have wu : Regs.wf u.regs = true := hagree.regsWf wr
  have hret : (u.wel1 w).retire = false := by rw [hwel, hretire]
  have hobeys : u.welObeys w v = u.welStop w 5 (u.wel1 w).pc := by
    simp [State.welObeys, hhalt, hresume, State.welHalt, hstate, hwel, hstop]
  have hstop := welStop_agree (cause := 5) (pc := (u.wel1 w).pc) hret
  have hkept := welReady_of_agree hstop wu hw (by decide) (by decide)
    (welReady_of_agree hagree wr hw (by decide) (by decide) hready)
  obtain ⟨hstopped, hcause, hjob, hirq⟩ := welStop_stopped (cause := 5) wu hw (u.wel1 w).pc (by decide) hret
  rw [hobeys, welRefresh_kept hkept (by rw [hstopped]; decide)]
  refine ⟨(taken_fget s _ F.WEL_STATUS_STATE w).trans hstopped, (taken_fget s _ _ w).trans hcause, ?_,
    (fbit_of_reg (reg_of_regs (taken_regs s _) _ _) 0).trans hirq⟩
  rw [wel1_of_wel ((taken_agree s _).wel_same (by decide)), hjob]

/-- RESUME makes a stopped engine ready again. -/
theorem writeReg_resume (h : s.admits q .WEL_CTRL w v = true) (hhalt : bits v 2 1 = 0) (hresume : bits v 1 1 = 1)
    (hready : s.welReady w) (hst : s.welState w = 4) : (s.writeReg q .WEL_CTRL w v).welState w = 1 + bits v 0 1 := by
  have hlive := domLive_of_admits_welCtrl hw h
  rw [writeReg_welCtrl hw h]
  have hagree := welCommanded_agree s w v
  have hhome : (s.welCommanded w v).welHome w = 1 + bits v 0 1 := welHome_of_service (welCommanded_service wr hw)
  have hstate : (s.welCommanded w v).welState w = 4 := (welCommanded_state wr hw).trans hst
  generalize s.welCommanded w v = u at hagree hhome hstate ⊢
  have wu : Regs.wf u.regs = true := hagree.regsWf wr
  have hlt : u.welHome w < 8 := lt_of_le_of_lt (welHome_le u w) (by decide)
  have hobeys : u.welObeys w v =
      forEach (indices 16 (fun e => (u.welTo w (u.welHome w)).welMap e == w)) (fun e s => s.qSettleOf e)
        (u.welTo w (u.welHome w)) := by
    simp [State.welObeys, hhalt, hresume, State.welResume, hstate, State.welHome]
  have hto := welTo_agree u w (u.welHome w)
  have hstate' : (u.welTo w (u.welHome w)).welState w = u.welHome w := welTo_state wu hw hlt
  have hsettle : Agree qSettleMask (u.welTo w (u.welHome w)) (u.welObeys w v) := by
    rw [hobeys]
    refine Agree.forEach (.refl qSettleMask _) (fun _ _ h => ?_) _
    exact State.qSettleOf_touch (by decide) h
  have wt : Regs.wf (u.welTo w (u.welHome w)).regs = true := hto.regsWf wu
  generalize u.welTo w (u.welHome w) = x at hto hstate' hsettle wt
  generalize u.welObeys w v = y at hsettle ⊢
  have hidle : y.welState w = u.welHome w :=
    (hsettle.fget_same (f := F.WEL_STATUS_STATE) wt (welStatus_ok hw) (by decide)).trans hstate'
  have hready' : y.welReady w := welReady_of_agree hsettle wt hw (by decide) (by decide)
    (welReady_of_agree hto wu hw (by decide) (by decide) (welReady_of_agree hagree wr hw (by decide) (by decide) hready))
  have hlive' : y.domLive .ana = true := by
    rw [hsettle.domLive_same wt (by decide), hto.domLive_same wu (by decide), hagree.domLive_same wr (by decide), hlive]
  have hsame : y.welHome w = u.welHome w := by
    rw [State.welHome, hsettle.flag_same (f := F.WEL_CTRL_SERVICE) wt (welCtrl_ok hw) (by decide),
      hto.flag_same (f := F.WEL_CTRL_SERVICE) wu (welCtrl_ok hw) (by decide), State.welHome]
  rw [welRefresh_home hlive' hready' (by rw [hidle]; exact welHome_le u w), hsame, welTo_same hidle]
  exact (taken_fget s _ F.WEL_STATUS_STATE w).trans (hidle.trans hhome)

/-- SERVICE holds the bit written, and an engine without a job follows it. -/
theorem writeReg_service (h : s.admits q .WEL_CTRL w v = true) (hhalt : bits v 2 1 = 0) (hresume : bits v 1 1 = 0) :
    let t := s.writeReg q .WEL_CTRL w v
    t.fget F.WEL_CTRL_SERVICE w = bits v 0 1 ∧ (s.welReady w → s.welState w ≤ 2 → t.welState w = 1 + bits v 0 1) ∧
      (s.welReady w → s.welState w = 3 → t.welState w = 3) := by
  intro t
  have hlive := domLive_of_admits_welCtrl hw h
  have hagree := welCommanded_agree s w v
  have hservice := welCommanded_service (v := v) wr hw
  have hhome : (s.welCommanded w v).welHome w = 1 + bits v 0 1 := welHome_of_service hservice
  have hstate : (s.welCommanded w v).welState w = s.welState w := welCommanded_state wr hw
  have hobeys : (s.welCommanded w v).welObeys w v = s.welCommanded w v := by simp [State.welObeys, hhalt, hresume]
  have ht : t = s.taken ((s.welCommanded w v).welRefresh w) := by rw [← hobeys, ← writeReg_welCtrl hw h]
  rw [ht]
  generalize s.welCommanded w v = u at hagree hhome hstate hservice ⊢
  have wu : Regs.wf u.regs = true := hagree.regsWf wr
  have hready (h : s.welReady w) : u.welReady w := welReady_of_agree hagree wr hw (by decide) (by decide) h
  refine ⟨?_, fun hr hst => ?_, fun hr hst => ?_⟩
  · rw [taken_fget, (welRefresh_agree u w).fget_same (f := F.WEL_CTRL_SERVICE) wu (welCtrl_ok hw) (by decide), hservice]
  · have hlive' : u.domLive .ana = true := by rw [hagree.domLive_same wr (by decide), hlive]
    refine (taken_fget s _ F.WEL_STATUS_STATE w).trans ?_
    rw [welRefresh_home hlive' (hready hr) (by rwa [hstate]), hhome]
    exact welTo_state wu hw (by rw [← hhome]; exact lt_of_le_of_lt (welHome_le u w) (by decide))
  · refine (taken_fget s _ F.WEL_STATUS_STATE w).trans ?_
    rw [welRefresh_kept (hready hr) (by rw [hstate, hst]; decide)]
    exact hstate.trans hst

end commands

/-! ### The tail of a queue and the copy of a template (R181, R188) -/

theorem qTail_ok {n : Nat} (hn : n < 64) : Reg.WELQ_QTAIL.ok n = true := ok_of_lt hn (by decide) (by decide)

theorem qSettle_tail {s : State} {n : Nat} (q : Nat) (wr : Regs.wf s.regs = true) (hn : n < 64) :
    (s.qSettle q).fget F.WELQ_QTAIL_TAIL n = s.fget F.WELQ_QTAIL_TAIL n :=
  (qSettle_agree s q).fget_same wr (qTail_ok hn) (by decide)

/-- A queue that held `count` descriptors forgets the strobes of its head when it held none. -/
def State.qForgets (s : State) (n count : Nat) : State := if count = 0 then s.setWq n { s.wq n with strobes := [] } else s

theorem qForgets_regs (s : State) (n count : Nat) : (s.qForgets n count).regs = s.regs := by
  unfold State.qForgets
  split <;> rfl

/-- A write of TAIL that the page takes stands. -/
theorem writeReg_tail {s : State} {q : Requester} {n : Nat} {v : Word} (wr : Regs.wf s.regs = true) (hn : n < 64)
    (h : s.admits q .WELQ_QTAIL n v = true) :
    (s.writeReg q .WELQ_QTAIL n v).answer = .ok 0 ∧ (s.writeReg q .WELQ_QTAIL n v).fget F.WELQ_QTAIL_TAIL n = bits v 0 10 := by
  have ok := qTail_ok hn
  have hwrite : s.writeReg q .WELQ_QTAIL n v = s.taken (((s.merged .WELQ_QTAIL n v).qForgets n (s.qCount n)).qSettle n) :=
    writeReg_unstaged (f := fun t => (t.qForgets n (s.qCount n)).qSettle n) ok h rfl (by decide) rfl
  rw [hwrite]
  refine ⟨rfl, ?_⟩
  have wm := merged_wf .WELQ_QTAIL n v wr
  have hregs := qForgets_regs (s.merged .WELQ_QTAIL n v) n (s.qCount n)
  rw [taken_fget, qSettle_tail n (by rw [hregs]; exact wm) hn, State.fget, reg_of_regs hregs]
  exact (congrArg (bits · 0 10) (merged_reg v wr ok)).trans
    (bits_mergeWord (f := ⟨"TAIL", 0, 10, .rw, 0, []⟩) _ v (by decide) (fun _ _ => rfl))

theorem templateDone_none {s : State} {i : Nat} (h : s.wel.copies.find? (fun x => x.1 == i) = none) : s.templateDone i = s := by
  unfold State.templateDone
  rw [h]

/-- What the copy of a template may touch before TAIL moves. -/
def templateMask : Nat := ownWriteMask ||| 1 <<< 23

/-- The copy for a template that completes is a slot that has been written, a TAIL that moves on, and a new head to check. -/
theorem templateDone_eq {s : State} {i : Nat} {x : Nat × Nat × List Byte} (h : s.wel.copies.find? (fun x => x.1 == i) = some x)
    (hpage : s.pageLive 0x52 = true) :
    ∃ u, s.templateDone i =
        (u.fset F.WELQ_QTAIL_TAIL x.2.1 ((s.fget F.WELQ_QTAIL_TAIL x.2.1 + 1) % u.qSlots x.2.1)).qSettle x.2.1 ∧
      Agree templateMask s u ∧ u.wel.copies = s.wel.copies.filter (fun y => y.1 != i) := by
  obtain ⟨j, q, d⟩ := x
  simp only [State.templateDone, h, hpage, Bool.not_true, Bool.false_eq_true, if_false]
  refine ⟨_, rfl, ?_, ?_⟩
  · have hwrite (a : Nat) (t : State) (ht : Agree templateMask s t) :
        Agree templateMask s (t.sramOwnWrite (blockSource 0x52) a d) :=
      State.sramOwnWrite_touch (by decide) ht
    have hcopied := hwrite (s.qSlot q (s.fget F.WELQ_QTAIL_TAIL q)) _ ((Agree.refl _ s).set_wel (by decide)
      { s.wel with copies := s.wel.copies.filter (fun y => y.1 != i) })
    exact .ite (hcopied.set_wel (by decide) _) hcopied
  · have hcopies (a : Nat) (t : State) : (t.sramOwnWrite (blockSource 0x52) a d).wel.copies = t.wel.copies :=
      congrArg WelPart.copies ((sramOwnWrite_agree t _ a d).wel_same (by decide))
    split
    · exact hcopies _ _
    · exact hcopies _ _

/-- A template's copy moves TAIL of its queue on by one slot. -/
theorem templateDone_advances {s : State} {i : Nat} {x : Nat × Nat × List Byte} (wr : Regs.wf s.regs = true)
    (h : s.wel.copies.find? (fun x => x.1 == i) = some x) (hpage : s.pageLive 0x52 = true) (hq : x.2.1 < 64)
    (hslots : s.qSlots x.2.1 ≤ 1024) :
    (s.templateDone i).wel.copies = s.wel.copies.filter (fun y => y.1 != i) ∧
      (s.templateDone i).fget F.WELQ_QTAIL_TAIL x.2.1 = (s.fget F.WELQ_QTAIL_TAIL x.2.1 + 1) % s.qSlots x.2.1 := by
  obtain ⟨u, hdone, hu, hcopies⟩ := templateDone_eq h hpage
  have wu : Regs.wf u.regs = true := hu.regsWf wr
  have hsame : u.qSlots x.2.1 = s.qSlots x.2.1 :=
    congrArg (2 ^ ·) (hu.fget_same (f := F.WELQ_QCFG_LOG2) wr (ok_of_lt hq (by decide) (by decide)) (by decide))
  have hpos : 0 < s.qSlots x.2.1 := Nat.two_pow_pos _
  have hlt := Nat.mod_lt (s.fget F.WELQ_QTAIL_TAIL x.2.1 + 1) hpos
  rw [hdone]
  refine ⟨?_, ?_⟩
  · rw [qSettle_wel, fset_wel, hcopies]
  · rw [qSettle_tail _ (fset_wf _ _ _ _ wu) hq, fget_fset_same u F.WELQ_QTAIL_TAIL x.2.1 _ wu (qTail_ok hq) (by decide), hsame]
    exact Nat.mod_eq_of_lt (lt_of_lt_of_le hlt hslots)

/-! ### Frame digests (R193, R396) -/

/-- What a digest that is sent and compared may touch. -/
def digestMask : Nat := 0x3800000000000000000000000000000000000000000000000000000000000000010000000000000000100000000002000200

theorem ownDigest_heads {p : Nat} (hp : writersLeave p) (hpair : p ≠ 0x5E) (s : State) (x : Nat × Nat × Nat × Bool) :
    HeadKept p s (s.ownDigest x) := by
  have hskip (t : State) (k : Nat) : HeadKept p t (t.notCompared k) := faddSat_heads hp t _ _ (by decide)
  have hdiverge (t : State) (c k : Nat) : HeadKept p t (t.diverge c k) :=
    .ite (.refl p t) ((((fset_heads hp t _ _ (by decide)).trans (fset_heads hp _ _ _ (by decide))).trans
      (fsetB_heads hp _ _ _ (by decide))).trans (irq_heads_of_ne hp _ 1 hpair))
  have hcmp (t : State) (a b : Nat × Nat × Nat × Bool) : HeadKept p t (t.digestCmp a b) := by
    have hcount : HeadKept p t (t.faddSat F.PAIR_MIRROR_STAT_COMPARED 0 1) := faddSat_heads hp t _ _ (by decide)
    exact .ite (hskip t 1) (.ite hcount (hcount.trans (hdiverge _ _ _)))
  unfold State.ownDigest
  extract_lets pair
  split
  · exact (hcmp _ _ _).of_same rfl
  · exact (hskip _ _).of_same rfl

/-- The digests that wait are dealt with one by one, after the list is empty. -/
def State.digestSent (s : State) (d : Nat × Nat × Nat × Nat × Bool) : State :=
  let (f, num, v, cnt, late) := d
  let s := if s.pairSends then
      s.toTwin 7 3 0
        (leBytes 1 f ++ leBytes 1 (if late then 1 else 0) ++ leBytes 2 cnt ++ leBytes 4 v ++ leBytes 8 num ++ leBytes 8 0)
    else s
  s.ownDigest (f, num, v, late)

theorem digestSent_agree (s : State) (d : Nat × Nat × Nat × Nat × Bool) : Agree digestMask s (s.digestSent d) :=
  State.ownDigest_touch (by decide) (.ite (State.toTwin_touch (by decide) (.refl _ s)) (.refl _ s))

theorem digestSent_heads {p : Nat} (hp : writersLeave p) (hpair : p ≠ 0x5E) (s : State) (d : Nat × Nat × Nat × Nat × Bool) :
    HeadKept p s (s.digestSent d) := by
  have htwin (pay : List Byte) : HeadKept p s (s.toTwin 7 3 0 pay) :=
    .of_agree (M := 0x2000000) (State.toTwin_touch (by decide) (.refl _ s)) hp.1 (by decide) (by decide)
  exact HeadKept.trans (.ite (htwin _) (.refl p s)) (ownDigest_heads hp hpair _ _)

/-- The state whose digests no longer wait. -/
def State.digestsTaken (s : State) : State := { s with wel := { s.wel with digests := [] } }

theorem sendDigests_eq (s : State) : s.sendDigests =
    if !s.digestsTaken.pageEn 0x5E || s.digestsTaken.fget F.PAIR_STATUS_STATE = 0 then s.digestsTaken
    else forEach s.wel.digests (fun d s => s.digestSent d) s.digestsTaken := rfl

theorem sendDigests_agree (s : State) : Agree digestMask s.digestsTaken s.sendDigests := by
  rw [sendDigests_eq]
  exact .ite (.refl _ _) (Agree.forEach (.refl _ _) (fun d t h => h.trans (digestSent_agree t d)) _)

theorem sendDigests_heads {p : Nat} (hp : writersLeave p) (hpair : p ≠ 0x5E) (s : State) : HeadKept p s s.sendDigests := by
  rw [sendDigests_eq]
  exact .ite (.of_regs rfl) ((HeadKept.forEach (fun d t => digestSent_heads hp hpair t d) _ _).of_same rfl)

/-- The digest of frame `x` of generator `i` stands in the registers. -/
def State.digestShown (s : State) (i : Nat) (x : OpenFrame) : State :=
  (((s.set64 .WELQ_DFRAME_LO .WELQ_DFRAME_HI i x.num).setReg .WELQ_DVALUE i (BitVec.ofNat 32 x.xor)).fset F.WELQ_DCOUNT_COUNT i
    (min 65535 x.count)).fsetB F.WELQ_DCOUNT_LATE i x.late

/-- Frame `x` is no longer open; its digest waits to be sent. -/
def State.frameTaken (s : State) (i : Nat) (x : OpenFrame) : State :=
  { s with wel := { s.wel with
      frames := s.wel.frames.filter (fun (y : OpenFrame) => !(y.gen == x.gen && y.num == x.num)),
      digests := s.wel.digests ++ [(i, x.num, x.xor, min 65535 x.count, x.late)] } }

theorem frameClose_eq {s : State} {i : Nat} {x : OpenFrame} (h : s.wel.frames.find? (fun x => x.gen == i) = some x)
    (hshut : x.shut = true) (hpage : s.pageLive 0x52 = true) :
    s.frameClose i = (((s.frameTaken i x).digestShown i x).irq 0x52 2) := by
  simp only [State.frameClose, h, hshut, hpage, Bool.and_self, Bool.not_true, Bool.false_eq_true, if_false]
  rfl

theorem digestShown_wel (s : State) (i : Nat) (x : OpenFrame) : (s.digestShown i x).wel = s.wel := by
  rw [State.digestShown, fsetB_wel, fset_wel, setReg_wel, set64_wel]

theorem digestShown_regs {s : State} {i : Nat} (x : OpenFrame) (wr : Regs.wf s.regs = true) (hi : i < 4) :
    let t := s.digestShown i x
    Regs.wf t.regs = true ∧ t.reg .WELQ_DVALUE i = BitVec.ofNat 32 x.xor ∧ t.fget F.WELQ_DCOUNT_COUNT i = min 65535 x.count ∧
      t.flag F.WELQ_DCOUNT_LATE i = x.late := by
  have okv : Reg.WELQ_DVALUE.ok i = true := ok_of_lt hi (by decide) (by decide)
  have okc : Reg.WELQ_DCOUNT.ok i = true := ok_of_lt hi (by decide) (by decide)
  have w0 : Regs.wf (s.set64 .WELQ_DFRAME_LO .WELQ_DFRAME_HI i x.num).regs = true := setReg_wf _ _ _ _ (setReg_wf _ _ _ _ wr)
  unfold State.digestShown
  generalize s.set64 .WELQ_DFRAME_LO .WELQ_DFRAME_HI i x.num = u at w0
  have w1 := setReg_wf u .WELQ_DVALUE i (BitVec.ofNat 32 x.xor) w0
  have w2 := fset_wf _ F.WELQ_DCOUNT_COUNT i (min 65535 x.count) w1
  refine ⟨fsetB_wf _ _ _ _ w2, ?_, ?_, flag_fsetB_same x.late w2 okc (by decide)⟩
  · rw [State.fsetB, reg_fset_ne _ _ _ _ w2 okv (Or.inl (by decide)), reg_fset_ne _ _ _ _ w1 okv (Or.inl (by decide)),
      reg_setReg_same _ _ _ _ w0 okv]
  · rw [State.fsetB, fget_fset_field _ F.WELQ_DCOUNT_LATE F.WELQ_DCOUNT_COUNT i _ w2 okc rfl (by decide),
      fget_fset_same _ F.WELQ_DCOUNT_COUNT i _ w1 okc (by decide)]
    exact Nat.mod_eq_of_lt (lt_of_le_of_lt (Nat.min_le_left _ _) (by decide))

/-- The oldest closed frame of a generator is published, and its digest sent and compared. -/
theorem frameClose_publishes {s : State} {i : Nat} {x : OpenFrame} (wr : Regs.wf s.regs = true) (hi : i < 4)
    (h : s.wel.frames.find? (fun x => x.gen == i) = some x) (hshut : x.shut = true) (hpage : s.pageLive 0x52 = true) :
    let t := (s.frameClose i).sendDigests
    t.reg .WELQ_DVALUE i = BitVec.ofNat 32 x.xor ∧ t.fget F.WELQ_DCOUNT_COUNT i = min 65535 x.count ∧
      t.flag F.WELQ_DCOUNT_LATE i = x.late ∧ t.fbit F.PAGE_IRQ_SOURCES 0x52 2 = true ∧
      t.wel.frames = s.wel.frames.filter (fun y => !(y.gen == i && y.num == x.num)) ∧ t.wel.digests = [] := by
  intro t
  have okv : Reg.WELQ_DVALUE.ok i = true := ok_of_lt hi (by decide) (by decide)
  have okc : Reg.WELQ_DCOUNT.ok i = true := ok_of_lt hi (by decide) (by decide)
  have hgen : x.gen = i := by simpa using List.find?_some h
  have wf0 : Regs.wf (s.frameTaken i x).regs = true := wr
  obtain ⟨wd, hvalue, hcount, hlate⟩ := digestShown_regs x wf0 hi
  have hwel := digestShown_wel (s.frameTaken i x) i x
  have ht : t = (((s.frameTaken i x).digestShown i x).irq 0x52 2).sendDigests :=
    congrArg State.sendDigests (frameClose_eq h hshut hpage)
  generalize (s.frameTaken i x).digestShown i x = u at wd hvalue hcount hlate hwel ht
  have hirq := irq_agree u 0x52 2
  have wi : Regs.wf (u.irq 0x52 2).regs = true := hirq.regsWf wd
  have hbit : (u.irq 0x52 2).fbit F.PAGE_IRQ_SOURCES 0x52 2 = true := irq_sets wd (by decide) (by decide) (by decide)
  have hsent := sendDigests_agree (u.irq 0x52 2)
  obtain ⟨-, -, hhead⟩ := sendDigests_heads (p := 0x52) ⟨by decide, by decide⟩ (by decide) (u.irq 0x52 2) wi
  have hwelt : t.wel = (u.irq 0x52 2).digestsTaken.wel := by rw [ht]; exact hsent.wel_same (by decide)
  have wk : Regs.wf (u.irq 0x52 2).digestsTaken.regs = true := wi
  refine ⟨?_, ?_, ?_, ?_, ?_, ?_⟩
  · rw [ht, hsent.regs wk _ _ okv (by decide)]
    exact (hirq.regs wd _ _ okv (by decide)).trans hvalue
  · rw [ht, hsent.fget_same (f := F.WELQ_DCOUNT_COUNT) wk okc (by decide)]
    exact (hirq.fget_same (f := F.WELQ_DCOUNT_COUNT) wd okc (by decide)).trans hcount
  · rw [ht, hsent.flag_same (f := F.WELQ_DCOUNT_LATE) wk okc (by decide)]
    exact (hirq.flag_same (f := F.WELQ_DCOUNT_LATE) wd okc (by decide)).trans hlate
  · rw [ht]
    exact (fbit_of_reg hhead 2).trans hbit
  · rw [hwelt, State.digestsTaken, hirq.wel_same (by decide), hwel, ← hgen]
    rfl
  · rw [hwelt]
    rfl

end Sys2Proof.Machine
end

section
/-!
PROOF. The local memories of the Welut engines: what a list of writes leaves of the bytes and of the table half that stands.
-/

namespace Sys2Proof.Machine

/-! ### Little-endian words -/

theorem length_leBytes (n x : Nat) : (leBytes n x).length = n := by
  induction n generalizing x with
  | zero => rfl
  | succ n ih => rw [leBytes, List.length_cons, ih]

theorem ofLeBytes_leBytes (n x : Nat) : ofLeBytes (leBytes n x) = x % 256 ^ n := by
  induction n generalizing x with
  | zero => rw [Nat.pow_zero, Nat.mod_one]; rfl
  | succ n ih =>
    have h256 : (2 : Nat) ^ 8 = 256 := rfl
    rw [leBytes, ofLeBytes, ih, BitVec.toNat_ofNat, h256, Nat.pow_succ', Nat.mod_mul]

/-- The bytes of a vector register. -/
def vecBytes (v : Vec) : List Byte := v.flatMap (fun x => leBytes 4 x.toNat)

theorem length_vecBytes (v : Vec) : (vecBytes v).length = 4 * v.length := by
  induction v with
  | nil => rfl
  | cons x xs ih =>
    have h : vecBytes (x :: xs) = leBytes 4 x.toNat ++ vecBytes xs := List.flatMap_cons
    rw [h, List.length_append, ih, length_leBytes, List.length_cons]
    omega

/-- Byte `j` of lane `i`. -/
theorem getD_vecBytes (v : Vec) {i j : Nat} (hi : i < v.length) (hj : j < 4) (d : Byte) :
    (vecBytes v).getD (4 * i + j) d = (leBytes 4 (v.at i).toNat).getD j d := by
  induction v generalizing i with
  | nil => exact absurd hi (Nat.not_lt_zero _)
  | cons x xs ih =>
    have h : vecBytes (x :: xs) = leBytes 4 x.toNat ++ vecBytes xs := List.flatMap_cons
    have hlen : (leBytes 4 x.toNat).length = 4 := length_leBytes _ _
    rw [h]
    cases i with
    | zero =>
      rw [List.getD_append _ _ _ _ (by omega)]
      simp only [Nat.mul_zero, Nat.zero_add]
      rfl
    | succ i =>
      have e : 4 * (i + 1) + j - (leBytes 4 x.toNat).length = 4 * i + j := by omega
      rw [List.getD_append_right _ _ _ _ (by omega), e, ih (Nat.lt_of_succ_lt_succ hi)]
      rfl

/-- A word whose bytes stand in memory is read back. -/
theorem memVal_of_byte {s : State} {a : Nat} {x : Word}
    (h : ∀ j, j < 4 → s.byte (a + j) = (leBytes 4 x.toNat).getD j memDefault) :
    s.memVal a 4 = x.toNat := by
  have hbytes : s.bytes a 4 = leBytes 4 x.toNat := by
    refine List.ext_getElem (by simp [State.bytes, length_leBytes]) (fun j h1 h2 => ?_)
    have hj : j < 4 := by rwa [length_leBytes] at h2
    simp only [State.bytes, List.getElem_map, List.getElem_range]
    rw [h j hj, List.getD_eq_getElem _ _ h2]
  rw [State.memVal, hbytes, ofLeBytes_leBytes]
  exact Nat.mod_eq_of_lt x.isLt

/-! ### One write (R218) -/

/-- What a write to a local memory may touch. -/
def lmemWriteMask : Nat := 0x4000000000000000000000000000000000000000000000000001000000000000000010000000000000020c

theorem lmemWrite_agree (s : State) (w a : Nat) (bs : List Byte) : Agree lmemWriteMask s (s.lmemWrite w a bs) :=
  State.lmemWrite_touch (by decide) (.refl _ s)

theorem lmemWrite_mem (s : State) (w a : Nat) (bs : List Byte) :
    (s.lmemWrite w a bs).mem = if s.inActive w a then s.mem else memPuts s.mem (lmemBase w + a) bs := by
  unfold State.lmemWrite
  split
  · split
    · rfl
    · rw [(irq_agree _ _ _).mem_same (by decide), State.fsetB, State.fset, setReg_mem]
  · rfl

/-- Outside the bytes that it names a write changes nothing. -/
theorem lmemWrite_byte_outside {s : State} {w a z : Nat} {bs : List Byte} (wm : Memory.wf s.mem = true)
    (hz : z < lmemBase w + a ∨ lmemBase w + a + bs.length ≤ z) : (s.lmemWrite w a bs).byte z = s.byte z := by
  rw [State.byte, lmemWrite_mem]
  split
  · rfl
  · rw [memGet_memPuts _ _ _ _ wm, if_neg (by omega)]
    rfl

/-- Outside the active half the bytes of a write stand. -/
theorem lmemWrite_byte_inside {s : State} {w a k : Nat} {bs : List Byte} (wm : Memory.wf s.mem = true)
    (ha : s.inActive w a = false) (hk : k < bs.length) :
    (s.lmemWrite w a bs).byte (lmemBase w + a + k) = bs.getD k memDefault := by
  rw [State.byte, lmemWrite_mem, ha, if_neg Bool.false_ne_true, memGet_memPuts _ _ _ _ wm, if_pos (by omega)]
  congr 1
  omega

/-- `t` has the table halves of `s`. -/
theorem inActive_congr {s t : State} {w : Nat} (hhalf : t.fget F.WEL_TBL_STATUS_HALF w = s.fget F.WEL_TBL_STATUS_HALF w)
    (hsize : t.fget F.WEL_TBL_SIZE_SIZE w = s.fget F.WEL_TBL_SIZE_SIZE w)
    (hbase : ∀ h, h < 2 → t.fget F.WEL_TBL_BASE_BASE (2 * w + h) = s.fget F.WEL_TBL_BASE_BASE (2 * w + h)) (a : Nat) :
    t.inActive w a = s.inActive w a := by
  have hlt : s.fget F.WEL_TBL_STATUS_HALF w < 2 := fget_lt _ _ _
  rw [State.inActive, State.inActive, hhalf, hsize, hbase _ hlt]

section half
variable {s t : State} {w : Nat} (wr : Regs.wf s.regs = true) (hw : w < 18)
include wr hw

omit wr in
theorem welTblStatus_ok : Reg.WEL_TBL_STATUS.ok w = true := ok_of_lt hw (by decide) (by decide)

omit wr in
theorem welTblSize_ok : Reg.WEL_TBL_SIZE.ok w = true := ok_of_lt hw (by decide) (by decide)

omit wr in
theorem welTblBase_ok {h : Nat} (hh : h < 2) : Reg.WEL_TBL_BASE.ok (2 * w + h) = true :=
  ok_of_lt (m := 36) (by omega) (by decide) (by decide)

/-- HALF and WR_ACTIVE share a register, so the half is asked for by itself. -/
theorem Agree.inActive_of_half {M : Nat} (h : Agree M s t) (hsize : M.testBit (64 + Reg.WEL_TBL_SIZE.ctorIdx) = false)
    (hbase : M.testBit (64 + Reg.WEL_TBL_BASE.ctorIdx) = false)
    (hhalf : t.fget F.WEL_TBL_STATUS_HALF w = s.fget F.WEL_TBL_STATUS_HALF w) (a : Nat) : t.inActive w a = s.inActive w a :=
  inActive_congr hhalf (h.fget_same (f := F.WEL_TBL_SIZE_SIZE) wr (welTblSize_ok hw) hsize)
    (fun _ hk => h.fget_same (f := F.WEL_TBL_BASE_BASE) wr (welTblBase_ok hw hk) hbase) a

/-- A write leaves the table half that stands. -/
theorem lmemWrite_half (a : Nat) (bs : List Byte) :
    (s.lmemWrite w a bs).fget F.WEL_TBL_STATUS_HALF w = s.fget F.WEL_TBL_STATUS_HALF w := by
  have ok := welTblStatus_ok hw
  unfold State.lmemWrite
  split
  · split
    · rfl
    · rw [(irq_agree _ _ _).fget_same (f := F.WEL_TBL_STATUS_HALF) (fsetB_wf _ _ _ _ wr) ok (by decide)]
      exact fget_fset_field s F.WEL_TBL_STATUS_WR_ACTIVE F.WEL_TBL_STATUS_HALF w _ wr ok rfl (by decide)
  · rfl

theorem lmemWrite_inActive (a : Nat) (bs : List Byte) (b : Nat) : (s.lmemWrite w a bs).inActive w b = s.inActive w b :=
  (lmemWrite_agree s w a bs).inActive_of_half wr hw (by decide) (by decide) (lmemWrite_half wr hw a bs) b

end half

/-! ### A list of writes -/

/-- What every step keeps stands at the end. -/
theorem forEach_keeps {α σ : Type} {P : σ → Prop} {f : α → σ → σ} (xs : List α) {s : σ} (hs : P s)
    (h : ∀ x ∈ xs, ∀ t, P t → P (f x t)) : P (forEach xs f s) := by
  induction xs generalizing s with
  | nil => exact hs
  | cons x xs ih =>
    exact ih (h x List.mem_cons_self s hs) (fun y hy => h y (List.mem_cons_of_mem x hy))

/-- What one step establishes and every step keeps stands at the end. -/
theorem forEach_establishes {α σ : Type} {P Q : σ → Prop} {f : α → σ → σ} {xs : List α} {x : α} {s : σ} (hx : x ∈ xs) (hs : Q s)
    (hQ : ∀ y ∈ xs, ∀ t, Q t → Q (f y t)) (hset : ∀ t, Q t → P (f x t)) (hkeep : ∀ y ∈ xs, ∀ t, Q t → P t → P (f y t)) :
    P (forEach xs f s) := by
  obtain ⟨as, bs, rfl⟩ := List.append_of_mem hx
  have hsplit : forEach (as ++ x :: bs) f s = forEach bs f (f x (forEach as f s)) := List.foldl_append
  have hmem (y : α) (hy : y ∈ bs) : y ∈ as ++ x :: bs := List.mem_append_right _ (List.mem_cons_of_mem _ hy)
  have hbefore : Q (forEach as f s) := forEach_keeps as hs (fun y hy => hQ y (List.mem_append_left _ hy))
  have hat : Q (f x (forEach as f s)) ∧ P (f x (forEach as f s)) := ⟨hQ x hx _ hbefore, hset _ hbefore⟩
  rw [hsplit]
  exact (forEach_keeps (P := fun t => Q t ∧ P t) bs hat
    (fun y hy t ht => ⟨hQ y (hmem y hy) t ht.1, hkeep y (hmem y hy) t ht.1 ht.2⟩)).2

section writes
variable {α : Type} {s : State} {w : Nat} {xs : List α} {loc : α → Nat} {bs : α → List Byte}

/-- The writes `xs` to the local memory of engine `w`, in order. -/
def State.lmemWrites (s : State) (w : Nat) (xs : List α) (loc : α → Nat) (bs : α → List Byte) : State :=
  forEach xs (fun x s => s.lmemWrite w (loc x) (bs x)) s

theorem lmemWrites_agree : Agree lmemWriteMask s (s.lmemWrites w xs loc bs) :=
  Agree.forEach (.refl _ s) (fun _ _ h => h.trans (lmemWrite_agree _ _ _ _)) xs

/-- Outside the bytes that they name the writes change nothing. -/
theorem lmemWrites_byte_outside {z : Nat} (wm : Memory.wf s.mem = true)
    (hz : ∀ x ∈ xs, z < lmemBase w + loc x ∨ lmemBase w + loc x + (bs x).length ≤ z) :
    (s.lmemWrites w xs loc bs).byte z = s.byte z := by
  refine (forEach_keeps (P := fun t : State => Memory.wf t.mem = true ∧ t.byte z = s.byte z) xs ⟨wm, rfl⟩ (fun x hx t ht => ?_)).2
  obtain ⟨wt, hb⟩ := ht
  exact ⟨(lmemWrite_agree t w _ _).memWf wt, (lmemWrite_byte_outside wt (hz x hx)).trans hb⟩

variable (wr : Regs.wf s.regs = true) (wm : Memory.wf s.mem = true) (hw : w < 18)
include wr hw

include wm

/-- The bytes of a write outside the active half stand, when every other write names the same bytes at the same place or
none of them. -/
theorem lmemWrites_byte_inside {x : α} {k : Nat} (hx : x ∈ xs) (ha : s.inActive w (loc x) = false) (hk : k < (bs x).length)
    (hother : ∀ y ∈ xs, loc y = loc x ∧ bs y = bs x ∨ loc y + (bs y).length ≤ loc x + k ∨ loc x + k < loc y) :
    (s.lmemWrites w xs loc bs).byte (lmemBase w + loc x + k) = (bs x).getD k memDefault := by
  refine forEach_establishes (P := fun t : State => t.byte (lmemBase w + loc x + k) = (bs x).getD k memDefault)
    (Q := fun t : State => Regs.wf t.regs = true ∧ Memory.wf t.mem = true ∧ t.inActive w (loc x) = false) hx ⟨wr, wm, ha⟩
    (fun y _ t ht => ?_) (fun t ht => ?_) (fun y hy t ht hbyte => ?_)
  · obtain ⟨wt, wmt, hat⟩ := ht
    exact ⟨(lmemWrite_agree t w _ _).regsWf wt, (lmemWrite_agree t w _ _).memWf wmt, (lmemWrite_inActive wt hw _ _ _).trans hat⟩
  · obtain ⟨-, wmt, hat⟩ := ht
    exact lmemWrite_byte_inside wmt hat hk
  · obtain ⟨-, wmt, hat⟩ := ht
    rcases hother y hy with ⟨hloc, hbs⟩ | hapart
    · rw [hloc, hbs]
      exact lmemWrite_byte_inside wmt hat hk
    · exact (lmemWrite_byte_outside wmt (by omega)).trans hbyte

end writes

end Sys2Proof.Machine
end

section
/-!
PROOF. The transfers of the Welut engines: what a transfer that moves leaves of its engine, and what follows when it ends.
-/

namespace Sys2Proof.Machine

/-! ### A transfer that moves -/

/-- Of engine `w` the job alone may differ. -/
def State.sameButJob (s t : State) (w : Nat) : Prop := t.wel1 w = { s.wel1 w with job := (t.wel1 w).job }

namespace State.sameButJob
variable {s t u : State} {w : Nat}

theorem of_wel (h : t.wel = s.wel) : s.sameButJob t w := by
  rw [State.sameButJob, wel1_of_wel h]

theorem trans (h : s.sameButJob t w) (k : t.sameButJob u w) : s.sameButJob u w := by
  rw [State.sameButJob] at h k ⊢
  rw [k, h]

end State.sameButJob

/-- What a transfer may touch. -/
def dmaMask : Nat :=
  0x80043e000000000000000000000000000000000400800007c000000000000000000000000000000000000000001840000000000001c180000000000c8020c

theorem dmaMove_agree (s : State) (w : Nat) (d : Dma) : Agree dmaMask s (s.dmaMove w d).s :=
  State.dmaMove_touch (by decide) (.refl _ s)

theorem jobFlags_sameButJob (s : State) (w m : Nat) : s.sameButJob (s.jobFlags w m) w := by
  unfold State.jobFlags
  extract_lets e
  split
  · exact .of_wel rfl
  · rw [State.sameButJob, setWel_wel1, if_pos rfl]

/-- Block `k` of a LINE transfer is asked of the governor unless nothing has been written there. -/
def State.dmaAsk (s : State) (w : Nat) (d : Dma) (k : Nat) : State × Bool :=
  let i := (d.fab % 2 ^ 32 + k) % max 1 (s.lineB (d.fab / 2 ^ 32))
  if ivCount (s.line (d.fab / 2 ^ 32)).written i (i + 1) = 0 then (s, true) else s.govAsk 1 4096 (16 + w)

theorem dmaLine_succ (s : State) (w : Nat) (d : Dma) (n k : Nat) : s.dmaLine w d (n + 1) k =
    if (s.dmaAsk w d k).2 then ((s.dmaAsk w d k).1.dmaBlock w d k).dmaLine w d n (k + 1)
    else ⟨(s.dmaAsk w d k).1, false, false, some k⟩ := rfl

theorem dmaAsk_wel (s : State) (w : Nat) (d : Dma) (k : Nat) : (s.dmaAsk w d k).1.wel = s.wel := by
  unfold State.dmaAsk
  extract_lets i
  split
  · rfl
  · exact Agree.wel_same (M := dmaMask ^^^ 1 <<< 23) (State.govAsk_touch (by decide) (.refl _ s)) (by decide)

theorem dmaBlock_sameButJob (s : State) (w : Nat) (d : Dma) (k : Nat) : s.sameButJob (s.dmaBlock w d k) w := by
  unfold State.dmaBlock
  extract_lets l b i a
  split
  · exact jobFlags_sameButJob s w _
  · have hread : (s.hbmRead a 4096 2).1.wel = s.wel :=
      Agree.wel_same (M := dmaMask ^^^ 1 <<< 23) (State.hbmRead_touch (by decide) (.refl _ s)) (by decide)
    generalize s.hbmRead a 4096 2 = r at hread
    obtain ⟨t, bad⟩ := r
    dsimp only
    exact ((State.sameButJob.of_wel hread).trans (jobFlags_sameButJob t w _)).trans
      (.of_wel ((lmemWrites_agree (w := w)).wel_same (by decide)))

theorem dmaLine_sameButJob (s : State) (w : Nat) (d : Dma) (n k : Nat) : s.sameButJob (s.dmaLine w d n k).s w := by
  induction n generalizing s k with
  | zero => exact .of_wel rfl
  | succ n ih =>
    have ha := State.sameButJob.of_wel (w := w) (dmaAsk_wel s w d k)
    rw [dmaLine_succ]
    split
    · exact (ha.trans (dmaBlock_sameButJob _ w d k)).trans (ih _ _)
    · exact ha

theorem dmaLine_ok (s : State) (w : Nat) (d : Dma) (n k : Nat) :
    (s.dmaLine w d n k).bad = false ∧ (s.dmaLine w d n k).ue = false := by
  induction n generalizing s k with
  | zero => exact ⟨rfl, rfl⟩
  | succ n ih =>
    rw [dmaLine_succ]
    split
    · exact ih _ _
    · exact ⟨rfl, rfl⟩

theorem dmaMove_sameButJob (s : State) (w : Nat) (d : Dma) : s.sameButJob (s.dmaMove w d).s w := by
  unfold State.dmaMove
  split
  · exact .of_wel (Agree.wel_same (M := dmaMask ^^^ 1 <<< 23) (State.dmaRun_touch (by decide) (.refl _ s)) (by decide))
  · split
    · refine .of_wel (Agree.wel_same (M := dmaMask ^^^ 1 <<< 23) ?_ (by decide))
      exact State.logBusErr_touch (by decide) (State.govForget_touch (by decide) (.refl _ s))
    · exact dmaLine_sameButJob s w d _ _

/-- A LINE transfer of a memory that is up meets no error; of one that is down it ends with a bus error. -/
theorem dmaMove_line {s : State} {w : Nat} {d : Dma} (hk : d.kind = 3) :
    (s.dmaMove w d).ue = false ∧ (s.dmaMove w d).bad = !s.hbmUp := by
  have hne : ¬ d.kind ≠ 3 := fun h => h hk
  unfold State.dmaMove
  rw [if_neg hne]
  cases s.hbmUp
  · exact ⟨rfl, rfl⟩
  · obtain ⟨hbad, hue⟩ := dmaLine_ok s w d (d.len - d.pos) d.pos
    exact ⟨hue, hbad⟩

/-! ### A transfer that ends (R210) -/

/-- A transfer behind another to its memory waits. -/
theorem dmaComplete_behind {s : State} {w i : Nat} {d : Dma} (hd : (s.wel1 w).dma[i]? = some d)
    (hb : (s.wel1 w).dmaBehind i d = true) : s.dmaComplete w i = s := by
  simp only [State.dmaComplete, hd, hb, Bool.or_true, if_true]

/-- Transfer `i` of the engine has been taken off the list; it sets its token unless it has failed. -/
def Wel.dmaEnded (e : Wel) (i : Nat) (d : Dma) (failed : Bool) : Wel :=
  { e with
    dma := e.dma.eraseIdx i, tok := if failed then e.tok else e.tok ||| 2 ^ d.tok,
    fence := e.fence && (e.dma.eraseIdx i).any (fun x => x.kind == 2 || x.own) }

/-- Transfer `i` of engine `w`, which has moved, ends. -/
def State.dmaEnds (s : State) (w i : Nat) (d : Dma) (bad ue : Bool) : State :=
  let t := s.setWel w ((s.wel1 w).dmaEnded i d (bad || ue))
  if t.welState w ≠ 3 then t
  else
    match (s.wel1 w).stopping with
    | some (cause, pc) => if (s.wel1 w).dma.eraseIdx i = [] then t.welStop w cause pc else t
    | none => if ue then t.welLmemUe w (s.wel1 w).pc else if bad then t.welStop w 3 (s.wel1 w).pc else t

theorem dmaEnds_good {s : State} {w : Nat} (i : Nat) (d : Dma) (hstop : (s.wel1 w).stopping = none) :
    s.dmaEnds w i d false false = s.setWel w ((s.wel1 w).dmaEnded i d false) := by
  simp only [State.dmaEnds, hstop, Bool.or_self, Bool.false_eq_true, if_false, ite_self]

theorem dmaEnds_bad {s : State} {w : Nat} (i : Nat) (d : Dma) (hstop : (s.wel1 w).stopping = none) (hst : s.welState w = 3) :
    s.dmaEnds w i d true false = (s.setWel w ((s.wel1 w).dmaEnded i d true)).welStop w 3 (s.wel1 w).pc := by
  have hst' (e : Wel) : (s.setWel w e).welState w = 3 := hst
  simp only [State.dmaEnds, hstop, hst', Bool.or_false, ne_eq, not_true_eq_false, Bool.false_eq_true, if_false, if_true]

section ends
variable {s : State} {w i : Nat} {d : Dma} (hpage : s.pageLive (0x40 + w) = true) (hd : (s.wel1 w).dma[i]? = some d)
  (hb : (s.wel1 w).dmaBehind i d = false)
include hpage hd hb

theorem dmaComplete_held {k : Nat} (hwait : (s.dmaMove w d).waits = some k) :
    s.dmaComplete w i = (s.dmaMove w d).s.setWel w
      { (s.dmaMove w d).s.wel1 w with dma := ((s.dmaMove w d).s.wel1 w).dma.set i { d with pos := k } } := by
  simp only [State.dmaComplete, hd, hpage, hb, Bool.not_true, Bool.or_self, Bool.false_eq_true, if_false, hwait]

theorem dmaComplete_moved (hwait : (s.dmaMove w d).waits = none) :
    s.dmaComplete w i = (s.dmaMove w d).s.dmaEnds w i d (s.dmaMove w d).bad (s.dmaMove w d).ue := by
  simp only [State.dmaComplete, hd, hpage, hb, Bool.not_true, Bool.or_self, Bool.false_eq_true, if_false, hwait]
  rfl

variable (wr : Regs.wf s.regs = true) (hw : w < 18)
include wr hw

omit hpage hd hb in
theorem dmaMove_state : (s.dmaMove w d).s.welState w = s.welState w :=
  (dmaMove_agree s w d).fget_same (f := F.WEL_STATUS_STATE) wr (welStatus_ok hw) (by decide)

/-- A transfer that the governor holds keeps its place, at the beat or block where it waits. -/
theorem dmaComplete_waits {k : Nat} (hwait : (s.dmaMove w d).waits = some k) :
    (s.dmaComplete w i).welState w = s.welState w ∧
      ((s.dmaComplete w i).wel1 w).dma = (s.wel1 w).dma.set i { d with pos := k } ∧
      ((s.dmaComplete w i).wel1 w).tok = (s.wel1 w).tok := by
  have hwel := dmaMove_sameButJob s w d
  rw [dmaComplete_held hpage hd hb hwait]
  refine ⟨dmaMove_state wr hw, ?_, ?_⟩
  · rw [setWel_wel1, if_pos rfl, hwel]
  · rw [setWel_wel1, if_pos rfl, hwel]

variable (hwait : (s.dmaMove w d).waits = none) (hue : (s.dmaMove w d).ue = false) (hst : s.welState w = 3)
  (hstop : (s.wel1 w).stopping = none)
include hwait hue hst hstop

/-- A transfer of a running engine that has not failed ends: it leaves the list and sets its token. -/
theorem dmaComplete_good (hbad : (s.dmaMove w d).bad = false) :
    (s.dmaComplete w i).welState w = 3 ∧ ((s.dmaComplete w i).wel1 w).dma = (s.wel1 w).dma.eraseIdx i ∧
      ((s.dmaComplete w i).wel1 w).tok = (s.wel1 w).tok ||| 2 ^ d.tok := by
  have hwel := dmaMove_sameButJob s w d
  have hstop' : ((s.dmaMove w d).s.wel1 w).stopping = none := by rw [hwel, hstop]
  rw [dmaComplete_moved hpage hd hb hwait, hbad, hue, dmaEnds_good i d hstop']
  refine ⟨(dmaMove_state wr hw).trans hst, ?_, ?_⟩
  · rw [setWel_wel1, if_pos rfl, hwel]
    rfl
  · rw [setWel_wel1, if_pos rfl, hwel]
    rfl

/-- A bus error of a transfer stops a running engine. -/
theorem dmaComplete_bad (hbad : (s.dmaMove w d).bad = true) : s.welStopped (s.dmaComplete w i) w 3 := by
  intro hretire
  have hwel := dmaMove_sameButJob s w d
  have hstop' : ((s.dmaMove w d).s.wel1 w).stopping = none := by rw [hwel, hstop]
  have wm : Regs.wf (s.dmaMove w d).s.regs = true := (dmaMove_agree s w d).regsWf wr
  rw [dmaComplete_moved hpage hd hb hwait, hbad, hue, dmaEnds_bad i d hstop' ((dmaMove_state wr hw).trans hst)]
  refine welStop_stopped (s := (s.dmaMove w d).s.setWel w (((s.dmaMove w d).s.wel1 w).dmaEnded i d true)) wm hw _ (by decide) ?_
  rw [setWel_wel1, if_pos rfl, hwel]
  exact hretire

end ends

end Sys2Proof.Machine
end

section
/-!
PROOF. What a microword makes of its engine: the address that follows, the faults and the waiting, the scalar unit.
-/

namespace Sys2Proof.Machine

/-- A truth value as a number. -/
def bitOf (b : Bool) : Nat := if b then 1 else 0

/-! ### Sequencing (R200–R203) -/

/-- The counter that COND names, one less. -/
def Wel.countLeft (e : Wel) (m : Micro) : Nat := e.lc.getD (m.cond % 4) 0 - 1

/-- The address that a word with condition `c` gives; none when the next word follows. -/
def Wel.jump (e : Wel) (m : Micro) (c : Bool) : Option Nat :=
  if m.seqop = 0 then some (m.next / 2 * 2 + (m.next + (if c then 1 else 0)) % 2)
  else if m.seqop = 1 then (if c then some m.next else none)
  else if m.seqop = 2 then (if c then some (e.ret.headD 0) else some m.next)
  else if m.seqop = 3 then (if e.countLeft m ≠ 0 then some m.next else none)
  else if m.seqop = 4 then some (m.next / 16 * 16 + (e.scal (m.cond % 16)).toNat % 16)
  else some m.next

/-- The next word follows: a CALL whose condition fails, or a LOOP whose counter has run out. -/
def Wel.falls (e : Wel) (m : Micro) (c : Bool) : Bool := (m.seqop == 1 && !c) || (m.seqop == 3 && e.countLeft m == 0)

/-- The address that SEQOP and the condition give when the next word does not follow. -/
def Wel.target (e : Wel) (m : Micro) (c : Bool) : Nat :=
  if m.seqop = 0 then m.next / 2 * 2 + (m.next + bitOf c) % 2
  else if m.seqop = 2 ∧ c = true then e.ret.headD 0
  else if m.seqop = 4 then m.next / 16 * 16 + (e.scal (m.cond % 16)).toNat % 16 else m.next

theorem jump_eq (e : Wel) (m : Micro) (c : Bool) : e.jump m c = if e.falls m c then none else some (e.target m c) := by
  have hop : m.seqop = 0 ∨ m.seqop = 1 ∨ m.seqop = 2 ∨ m.seqop = 3 ∨ m.seqop = 4 ∨ 5 ≤ m.seqop := by omega
  rcases hop with h | h | h | h | h | h
  · cases c <;> simp [Wel.jump, Wel.falls, Wel.target, bitOf, h]
  · cases c <;> simp [Wel.jump, Wel.falls, Wel.target, h]
  · cases c <;> simp [Wel.jump, Wel.falls, Wel.target, h]
  · by_cases hl : e.countLeft m = 0 <;> simp [Wel.jump, Wel.falls, Wel.target, h, hl]
  · simp [Wel.jump, Wel.falls, Wel.target, h]
  · have hne (k : Nat) (hk : k < 5) : m.seqop ≠ k := by omega
    simp [Wel.jump, Wel.falls, Wel.target, hne]

theorem jump_isNone (e : Wel) (m : Micro) (c : Bool) : (e.jump m c).isNone = e.falls m c := by
  rw [jump_eq]
  cases e.falls m c <;> rfl

theorem jump_getD (e : Wel) (m : Micro) (c : Bool) (k : Nat) : (e.jump m c).getD k = if e.falls m c then k else e.target m c := by
  rw [jump_eq]
  cases e.falls m c <;> rfl

/-! ### Conditions (R201) -/

/-- What COND may select, in the order of its codes; the codes after these select the table half. -/
def Wel.conditions (e : Wel) : List Bool :=
  let fl (i : Nat) : Bool := e.flags.testBit i
  [false, fl 0, fl 1, fl 2, fl 3, fl 1 != fl 3, fl 0 || (fl 1 != fl 3), e.f != 0, e.f == 0xFFFF] ++
    (List.range 4).map (fun i => e.lc.getD i 0 == 0) ++ (List.range 4).map (fun i => e.tok.testBit i) ++ [e.dma.isEmpty] ++
    (List.range 4).map (fun i => e.uf.testBit i)

theorem welCond_eq (s : State) (w : Nat) (e : Wel) (m : Micro) :
    s.welCond w e m = (e.conditions.getD m.cond (s.fget F.WEL_TBL_STATUS_HALF w == 1) != (m.cinv == 1)) := by
  unfold State.welCond
  generalize m.cond = k
  by_cases hk : k < 22
  · interval_cases k <;> rfl
  · have hlen : e.conditions.length = 22 := rfl
    rw [List.getD_eq_default _ _ (by omega)]
    have hle (j : Nat) (hj : j < 22) : ¬ k ≤ j := by omega
    have hne (j : Nat) (hj : j < 22) : k ≠ j := by omega
    simp [hle, hne]

/-! ### Faults and waiting (R198, R210) -/

/-- The word waits for its token, for the memory or for room in the list of transfers. -/
def Wel.holds (e : Wel) (m : Micro) : Bool :=
  (nbits m.dma 0 3 == 2 && !e.tok.testBit (nbits m.dma 3 2)) ||
    (nbits m.dma 0 3 == 3 && nbits m.dma 5 3 == 0 && e.dma.any (fun x => x.kind == 2)) ||
    (nbits m.dma 5 3 != 0 && decide (4 ≤ e.dma.length))

/-- The faults of a word with condition `c`, each with whether it is present. -/
def State.wordFaults (s : State) (w : Nat) (e : Wel) (m : Micro) (c : Bool) : List (Nat × Bool) :=
  microFaults m (s.fget F.WEL_TBL_SIZE_SIZE w) ++ (if e.holds m then [] else
    [(15, m.seqop == 1 && c && decide (8 ≤ e.ret.length)), (16, m.seqop == 2 && c && e.ret.isEmpty),
      (17, e.falls m c && e.pc == 2047)])

/-- The codes of FIELD fit into it. -/
theorem wordFaults_lt {s : State} {w : Nat} {e : Wel} {m : Micro} {c : Bool} {y : Nat × Bool} (hy : y ∈ s.wordFaults w e m c) :
    y.1 < 32 := by
  have hcodes : (microFaults m (s.fget F.WEL_TBL_SIZE_SIZE w)).map Prod.fst =
      [1, 2, 3, 4, 5, 6, 7, 8, 9, 10, 11, 12, 13, 14] := rfl
  rcases List.mem_append.mp hy with hy | hy
  · have hcode : y.1 ∈ [1, 2, 3, 4, 5, 6, 7, 8, 9, 10, 11, 12, 13, 14] := hcodes ▸ List.mem_map_of_mem hy
    exact (by decide : ∀ k ∈ [1, 2, 3, 4, 5, 6, 7, 8, 9, 10, 11, 12, 13, 14], k < 32) _ hcode
  · split at hy
    · exact absurd hy List.not_mem_nil
    · simp only [List.mem_cons, List.not_mem_nil, or_false] at hy
      rcases hy with rfl | rfl | rfl
      · exact (by decide : 15 < 32)
      · exact (by decide : 16 < 32)
      · exact (by decide : 17 < 32)

/-! ### The scalar unit (R209) -/

/-- Z and N of a result. -/
def zeroNeg (r : Word) : Nat := bitOf (r == 0#32) + 2 * bitOf r.msb

theorem zeroNeg_eq (r : Word) : (if r = 0#32 then 1 else 0) + (if r.msb then 2 else 0) = zeroNeg r := by
  unfold zeroNeg bitOf
  by_cases hr : r = 0#32 <;> cases r.msb <;> simp [hr]

/-- Two numbers of one sign overflow when their sum has the other sign. -/
theorem overflow_add (x y : Word) :
    (x.msb == y.msb && (x + y).msb != x.msb) = decide ((x + y).toInt ≠ x.toInt + y.toInt) := by
  have hx := x.isLt
  have hy := y.isLt
  rw [Bool.eq_iff_iff]
  simp only [Bool.and_eq_true, beq_iff_eq, bne_iff_ne, decide_eq_true_iff, BitVec.msb_eq_decide, BitVec.toInt_eq_toNat_cond,
    BitVec.toNat_add, ne_eq, decide_eq_decide]
  omega

theorem overflow_sub (x y : Word) :
    (x.msb == (~~~y).msb && (x - y).msb != x.msb) = decide ((x - y).toInt ≠ x.toInt - y.toInt) := by
  have hx := x.isLt
  have hy := y.isLt
  rw [Bool.eq_iff_iff]
  simp only [Bool.and_eq_true, beq_iff_eq, bne_iff_ne, decide_eq_true_iff, BitVec.msb_eq_decide, BitVec.toInt_eq_toNat_cond,
    BitVec.toNat_sub, BitVec.toNat_not, ne_eq, decide_eq_decide]
  omega

/-- Z N C V of a sum. -/
def sumFlags (x y : Word) : Nat :=
  zeroNeg (x + y) + 4 * bitOf (decide (2 ^ 32 ≤ x.toNat + y.toNat)) + 8 * bitOf (decide ((x + y).toInt ≠ x.toInt + y.toInt))

/-- Z N C V of a difference; C says that there is no borrow. -/
def subFlags (x y : Word) : Nat :=
  zeroNeg (x - y) + 4 * bitOf (decide (y.toNat ≤ x.toNat)) + 8 * bitOf (decide ((x - y).toInt ≠ x.toInt - y.toInt))

theorem ite_bitOf (k : Nat) (b : Bool) : (if b then k else 0) = k * bitOf b := by
  cases b
  · rfl
  · exact (Nat.mul_one k).symm

/-- The flags of a sum with carry-in, by their four parts. -/
theorem scalarAdd_eq {x y r : Word} {c : Nat} (hr : BitVec.ofNat 32 (x.toNat + y.toNat + c) = r) :
    scalarAdd x y c = (r, zeroNeg r + 4 * bitOf (decide (2 ^ 32 ≤ x.toNat + y.toNat + c)) +
      8 * bitOf (x.msb == y.msb && r.msb != x.msb)) := by
  simp only [scalarAdd, hr, zeroNeg_eq, ite_bitOf 8]
  rw [← ite_bitOf 4]
  simp only [decide_eq_true_eq]

theorem scalarAdd_sum (x y : Word) : scalarAdd x y 0 = (x + y, sumFlags x y) := by
  have hr : BitVec.ofNat 32 (x.toNat + y.toNat + 0) = x + y := by
    rw [Nat.add_zero, BitVec.ofNat_add, BitVec.ofNat_toNat, BitVec.ofNat_toNat, BitVec.setWidth_eq, BitVec.setWidth_eq]
  rw [scalarAdd_eq hr, overflow_add, Nat.add_zero, sumFlags]

theorem scalarAdd_diff (x y : Word) : scalarAdd x (~~~y) 1 = (x - y, subFlags x y) := by
  have hx := x.isLt
  have hy := y.isLt
  have hr : BitVec.ofNat 32 (x.toNat + (~~~y).toNat + 1) = x - y := by
    apply BitVec.eq_of_toNat_eq
    rw [BitVec.toNat_ofNat, BitVec.toNat_sub, BitVec.toNat_not]
    congr 1
    omega
  have hcarry : 2 ^ 32 ≤ x.toNat + (~~~y).toNat + 1 ↔ y.toNat ≤ x.toNat := by
    rw [BitVec.toNat_not]
    omega
  rw [scalarAdd_eq hr, overflow_sub, subFlags]
  simp only [hcarry]

/-- The value that a scalar operation with code `op` gives for A, B, the immediate, a lane and F. -/
def scalarResult (op : Nat) (a b imm lane : Word) (f : Nat) : Option Word :=
  if op = 1 then some (a + b) else if op = 2 then some (a - b) else if op = 3 then some (a + imm)
  else if op = 4 then some (a &&& b) else if op = 5 then some (a ||| b) else if op = 6 then some (a ^^^ b)
  else if op = 7 then some (a <<< (b.toNat % 32)) else if op = 8 then some (a >>> (b.toNat % 32))
  else if op = 12 then some lane else if op = 13 then some imm
  else if op = 14 then some (BitVec.ofNat 32 f) else none

/-- The flags that it leaves. -/
def scalarFlags (op : Nat) (a b imm lane : Word) (f flags : Nat) : Nat :=
  if op = 1 then sumFlags a b else if op = 3 then sumFlags a imm else if op = 2 ∨ op = 9 then subFlags a b
  else if 4 ≤ op ∧ op ≤ 8 then flags / 4 * 4 + (scalarResult op a b imm lane f).elim 0 zeroNeg else flags

theorem scalarOp_eq (e : Wel) (w : Nat) (m : Micro) :
    let op := nbits m.sop 12 4
    let a := e.scal (nbits m.sop 4 4)
    let b := e.scal (nbits m.sop 0 4)
    let imm : Word := BitVec.ofNat 32 m.imm
    let lane := (e.vec w m.va).at (nbits m.sop 0 4)
    e.scalarOp w m = (scalarResult op a b imm lane e.f, scalarFlags op a b imm lane e.f e.flags) := by
  have hop : nbits m.sop 12 4 < 16 := Nat.mod_lt _ (by decide)
  simp only [Wel.scalarOp, scalarAdd_sum, scalarAdd_diff, Nat.add_assoc, zeroNeg_eq]
  generalize nbits m.sop 12 4 = op at hop
  interval_cases op <;> rfl

end Sys2Proof.Machine
end

section
/-!
PROOF. The issue of a microword in steps: the words that the ports read, the engine that it leaves, its stores, its transfer.
-/

namespace Sys2Proof.Machine

/-! ### The steps of an issue (R199) -/

/-- The words that the ports read, as places in local memory and lengths (R177). -/
def PortWork.reads (p : PortWork) : List (Nat × Nat) :=
  p.loads.map (fun x => (x.2, 64)) ++ (p.gather.getD []).eraseDups.map (fun x => (x, 4))

/-- The ports read local memory; whether a word was uncorrectable. -/
def State.portReads (s : State) (w : Nat) (p : PortWork) : State × Bool :=
  p.reads.foldl (fun (acc : State × Bool) x =>
    let r := acc.1.lmemRead w (lmemBase w + x.1) x.2
    (r.1, acc.2 || r.2)) (s, false)

/-- The loads of the word. -/
def State.portLoads (s : State) (w : Nat) (p : PortWork) : List (Nat × List Word) := p.loads.map (fun x => (x.1, s.lmemVec w x.2))

/-- The vector that the word gathers. -/
def State.portGather (s : State) (w : Nat) (p : PortWork) : Option Vec :=
  p.gather.map (fun xs => xs.map (fun x => (BitVec.ofNat 32 (s.memVal (lmemBase w + x) 4) : Word)))

/-- The word compares lanes. -/
def Micro.compares (m : Micro) : Bool := m.vop == 0x10 || m.vop == 0x11 || m.vop == 0x12

/-- The word writes VD. -/
def Micro.writesVec (m : Micro) : Bool :=
  match vopInfo m.vop with
  | some x => x.d
  | none => false

/-- The vector operation of the word. -/
def Wel.vecResult (e : Wel) (w : Nat) (m : Micro) : Vec × Nat :=
  vecOp m.vop m.vfmt e.f m.imm (e.vec w m.va) (e.vec w m.vb) (e.vec w m.vc)

/-- The clocks of the word. -/
def PortWork.takes (p : PortWork) (m : Micro) (waits : Nat) : Nat :=
  max (match vopInfo m.vop with
    | some x => x.clocks
    | none => 1) p.clocks + waits

theorem writesVec_eq (m : Micro) : m.writesVec = (vopInfo m.vop).any (fun x => x.d) := by
  unfold Micro.writesVec
  cases vopInfo m.vop <;> rfl

theorem takes_eq (p : PortWork) (m : Micro) (waits : Nat) :
    p.takes m waits = max ((vopInfo m.vop).elim 1 (fun x => x.clocks)) p.clocks + waits := by
  unfold PortWork.takes
  cases vopInfo m.vop <;> rfl

/-- The vector registers that the word leaves: the loads of the last word, then its results (R208). -/
def Wel.results (e : Wel) (w : Nat) (m : Micro) (g : Option Vec) : Wel :=
  let y := if m.writesVec then e.landed.setVec m.vd (e.vecResult w m).1 else e.landed
  match g with
  | some v => y.setVec 63 v
  | none => y

/-- The pointers after the accesses of the word (R206). -/
def Wel.stepPtr (e : Wel) (m : Micro) : List Nat :=
  let a0 := aguOf m.agu0
  let a1 := aguOf m.agu1
  let ptr := e.ptr.set a0.k (aguNext a0.mode (e.ptr.getD a0.k 0) (e.stride.getD a0.k 0))
  ptr.set (4 + a1.k) (aguNext a1.mode (ptr.getD (4 + a1.k) 0) (e.stride.getD (4 + a1.k) 0))

/-- The sum that a word may write to a pointer or a stride. -/
def Wel.ptrSum (e : Wel) (m : Micro) : Nat :=
  ((e.scal (nbits m.sop 4 4)).toNat + (e.scal (nbits m.sop 0 4)).toNat) % 2 ^ 18

/-- The loop counters after the word (R203). -/
def Wel.stepLc (e : Wel) (m : Micro) : List Nat :=
  let lc := if m.seqop = 3 then e.lc.set (m.cond % 4) (e.countLeft m) else e.lc
  if nbits m.cnt 6 2 = 1 then lc.set (nbits m.cnt 4 2) ((e.scal (m.cnt % 16)).toNat % 65536)
  else if nbits m.cnt 6 2 = 2 then lc.set (nbits m.cnt 4 2) (m.imm % 65536) else lc

/-- The scalar registers after a word that may write register `k`. -/
def putScalar (sc : List Word) (k : Nat) : Option Word → List Word
  | some x => sc.set k x
  | none => sc

theorem putScalar_eq (sc : List Word) (k : Nat) (r : Option Word) : putScalar sc k r = r.elim sc (fun x => sc.set k x) := by
  cases r <;> rfl

/-- The engine after the word, before its transfer is ordered. -/
def Wel.stepped (e : Wel) (w : Nat) (m : Micro) (c : Bool) (clocks : Nat) (loads : List (Nat × List Word))
    (g : Option Vec) : Wel :=
  let y := e.results w m g
  { y with
    loads := loads, f := if m.compares then cmpMask m.vop m.vfmt (e.vec w m.va) (e.vec w m.vb) else e.f,
    flags := (e.scalarOp w m).2,
    ptr := if nbits m.sop 12 4 = 10 then (e.stepPtr m).set (nbits m.sop 8 4 % 8) (e.ptrSum m) else e.stepPtr m,
    stride := if nbits m.sop 12 4 = 11 then e.stride.set (nbits m.sop 8 4 % 8) (e.ptrSum m) else e.stride,
    lc := e.stepLc m,
    ret := if m.seqop = 1 && c then ((e.pc + 1) % 2048) :: e.ret else if m.seqop = 2 && c then e.ret.tail else e.ret,
    uf := if nbits m.fe 6 2 = 1 then e.uf ||| 2 ^ nbits m.fe 4 2
      else if nbits m.fe 6 2 = 2 then e.uf &&& (15 - 2 ^ nbits m.fe 4 2) else e.uf,
    tok := if nbits m.dma 0 3 = 1 ∨ nbits m.dma 5 3 ≠ 0 then e.tok &&& (15 - 2 ^ nbits m.dma 3 2) else e.tok,
    sc := putScalar y.sc (nbits m.sop 8 4) (e.scalarOp w m).1,
    pc := ((e.jump m c).getD (e.pc + 1)) % 2048, halting := m.seqop == 5 && c,
    job := y.job.map (fun j => { j with
      cycles := j.cycles + clocks, rflags := j.rflags ||| (nbits m.fe 8 7 + (if m.fe.testBit 15 then 2 ^ 11 else 0)) }) }

/-- The transfer that the word orders (R190, R191). -/
def State.portDma (s : State) (e : Wel) (m : Micro) : Dma :=
  ⟨nbits m.dma 5 3, nbits m.dma 3 2, (e.scal 12).toNat,
    if nbits m.dma 5 3 = 3 then (e.scal 13).toNat % 64 * 2 ^ 32 + (e.scal 14).toNat
    else (e.scal 13).toNat + (e.scal 14).toNat % 65536 * 2 ^ 32,
    (e.scal 15).toNat, nbits m.dma 0 3 == 3,
    if nbits m.dma 5 3 = 3 then
      (List.range (min 64 (e.scal 15).toNat)).filter (fun k =>
        s.inHem ((e.scal 13).toNat % 64) (((e.scal 14).toNat + k) % max 1 (s.lineB ((e.scal 13).toNat % 64))))
    else [], 0⟩

/-- Engine `w` has become `x`, with its clocks and the flags of its arithmetic counted. -/
def State.wordCounted (s : State) (w : Nat) (m : Micro) (x : Wel) (clocks vf : Nat) : State :=
  let s := (s.setWel w x).faddSat F.WEL_CYCLES_COUNT w clocks
  if !m.compares && m.writesVec && vf != 0 then
    (s.setReg .WEL_ARITH w (s.reg .WEL_ARITH w ||| BitVec.ofNat 32 vf)).irq (0x40 + w) 1
  else s

/-- The stores and the scatter of the word. -/
def State.wordStored (s : State) (w : Nat) (p : PortWork) (v63 : Vec) : State :=
  let s := s.lmemWrites w p.stores (fun x => x.1) (fun x => vecBytes x.2)
  match p.scatter with
  | none => s
  | some lanes =>
    s.lmemWrites w (List.range 16) (fun i => lanes.getD i 0) (fun i => leBytes 4 (v63.at (scatterFrom lanes i)).toNat)

/-- The word raises its pulse. -/
def State.wordPulsed (s : State) (w : Nat) (m : Micro) : State := if m.fe.testBit 3 then s.pulse (0x170 + w) else s

/-- The word orders transfer `d`, or stops on a bad one. -/
def State.wordOrders (s : State) (w : Nat) (m : Micro) (d : Dma) (pc : Nat) : State :=
  if nbits m.dma 5 3 = 0 then s
  else
    match s.dmaCheck d with
    | none => s.setWel w { s.wel1 w with dma := (s.wel1 w).dma ++ [d], fence := nbits m.dma 0 3 == 3 }
    | some cause => (if cause = 0 then s else s.logBusErr d.fab (nbits m.dma 5 3 == 2) 8 cause).welStop w 3 pc

/-- At a HALT the loads of the word land as well. -/
def State.wordHalts (s : State) (w : Nat) (halt : Bool) : State := if halt && s.welState w == 3 then s.welLanded w else s

/-- What the word does once the ports have read local memory, which is then `s`. -/
def State.wordRuns (s : State) (w : Nat) (e : Wel) (m : Micro) (c : Bool) (p : PortWork) (waits : Nat) : State :=
  let x := e.stepped w m c (p.takes m waits) (s.portLoads w p) (s.portGather w p)
  let u := ((s.wordCounted w m x (p.takes m waits) (e.vecResult w m).2).wordStored w p (e.vec w 63)).wordPulsed w m
  (u.wordOrders w m (s.portDma e m) e.pc).wordHalts w (m.seqop == 5 && c)

/-- The issue of a word, in steps. -/
def State.wordIssued (s : State) (w waits : Nat) (e : Wel) (m : Micro) (c : Bool) : State :=
  match (s.wordFaults w e m c).find? (fun x => x.2) with
  | some (code, _) => (s.fset F.WEL_MFAULT_FIELD w code).welFault w e.pc
  | none =>
    if e.holds m then s
    else
      let p := s.portWork w e m
      let r := s.portReads w p
      if r.2 then r.1.welLmemUe w e.pc else r.1.wordRuns w e m c p waits

theorem microIssue_eq (s : State) (w waits : Nat) :
    let e := s.wel1 w
    let m := microOf (tblGet e.store e.pc)
    s.microIssue w waits = s.wordIssued w waits e m (s.welCond w e m) := by
  intro e m
  unfold State.wordIssued State.wordFaults
  simp only [← jump_isNone]
  rfl

/-! ### What the lines show alike -/

/-- The parts and registers that say what a line holds. -/
def lineMask : Nat :=
  1 <<< 22 ||| 1 <<< (64 + Reg.LINE_SIZE.ctorIdx) ||| 1 <<< (64 + Reg.LINE_WR.ctorIdx) ||| 1 <<< (64 + Reg.LINE_CTRL.ctorIdx)

section line
variable {M : Nat} {s t : State} (h : Agree M s t) (wr : Regs.wf s.regs = true) (hM : M &&& lineMask = 0)
include h wr hM

theorem Agree.lineB_same {l : Nat} (hl : l < 64) : t.lineB l = s.lineB l :=
  congrArg (· * 512) (h.fget_same (f := F.LINE_SIZE_UNITS) wr
    (ok_of_lt hl (by decide) (by decide)) (testBit_of_apart hM (by decide)))

theorem Agree.inHem_same {l : Nat} (hl : l < 64) (i : Nat) : t.inHem l i = s.inHem l i := by
  have hlines : t.lines = s.lines := h.lines_same (testBit_of_apart hM (by decide))
  have hb := h.lineB_same wr hM hl
  have hwr : t.fget F.LINE_WR_INDEX l = s.fget F.LINE_WR_INDEX l :=
    h.fget_same wr (ok_of_lt hl (by decide) (by decide)) (testBit_of_apart hM (by decide))
  have hhem : t.fget F.LINE_CTRL_HEM l = s.fget F.LINE_CTRL_HEM l :=
    h.fget_same wr (ok_of_lt hl (by decide) (by decide)) (testBit_of_apart hM (by decide))
  have hprot : t.protectedOf l = s.protectedOf l := by
    have hpeg : t.peg = s.peg := funext fun i => by rw [State.peg, State.peg, hlines]
    rw [State.protectedOf, State.protectedOf, State.protectedBut, State.protectedBut, hpeg, hb]
  rw [State.inHem, State.inHem, State.hemSpan, State.hemSpan, hb, hwr, hhem, hprot]

theorem Agree.lineOn_same {l : Nat} (hl : l < 64) (hlive : M &&& liveMask = 0) : t.lineOn l = s.lineOn l := by
  have hen : t.flag F.LINE_CTRL_EN l = s.flag F.LINE_CTRL_EN l :=
    h.flag_same wr (ok_of_lt hl (by decide) (by decide)) (testBit_of_apart hM (by decide))
  rw [State.lineOn, State.lineOn, hen, h.pageEn_same wr hlive (by decide)]

/-- Whether a transfer is good does not depend on more. -/
theorem Agree.dmaCheck_same {d : Dma} (hl : d.kind = 3 → d.fab / 2 ^ 32 < 64) (hlive : M &&& liveMask = 0) :
    t.dmaCheck d = s.dmaCheck d := by
  unfold State.dmaCheck
  by_cases hk : d.kind = 3
  · simp only [hk, if_true, h.lineOn_same wr hM (hl hk) hlive, h.lineB_same wr hM (hl hk)]
  · simp only [hk, if_false]

/-- The transfer that a word orders does not depend on more. -/
theorem Agree.portDma_same (e : Wel) (m : Micro) : t.portDma e m = s.portDma e m := by
  have hl : (e.scal 13).toNat % 64 < 64 := Nat.mod_lt _ (by decide)
  simp only [State.portDma, h.lineB_same wr hM hl, h.inHem_same wr hM hl]

end line

/-- The line of a LINE transfer that a word orders. -/
theorem portDma_line (s : State) (e : Wel) (m : Micro) (hk : (s.portDma e m).kind = 3) : (s.portDma e m).fab / 2 ^ 32 < 64 := by
  have hk' : nbits m.dma 5 3 = 3 := hk
  have hlt := (e.scal 14).isLt
  simp only [State.portDma, hk', if_true]
  omega

/-! ### The words that the ports read -/

/-- What a read of local memory may touch. -/
def lmemReadMask : Nat :=
  0x43e00000000000000000000000000000000000080000000000000000000000000000000000000000000000010000000000000000180000000000080200

/-- Reads leave the memory, and in a memory without uncorrectable words they meet none. -/
theorem portReads_agree (s : State) (w : Nat) (p : PortWork) :
    Agree lmemReadMask s (s.portReads w p).1 ∧ ((∀ y ∈ s.ecc, y.2 = false) → (s.portReads w p).2 = false) := by
  unfold State.portReads
  generalize p.reads = xs
  suffices hacc : ∀ acc : State × Bool, Agree lmemReadMask s acc.1 → ((∀ y ∈ s.ecc, y.2 = false) → acc.2 = false) →
      Agree lmemReadMask s (xs.foldl (fun (acc : State × Bool) x =>
        ((acc.1.lmemRead w (lmemBase w + x.1) x.2).1, acc.2 || (acc.1.lmemRead w (lmemBase w + x.1) x.2).2)) acc).1 ∧
      ((∀ y ∈ s.ecc, y.2 = false) → (xs.foldl (fun (acc : State × Bool) x =>
        ((acc.1.lmemRead w (lmemBase w + x.1) x.2).1, acc.2 || (acc.1.lmemRead w (lmemBase w + x.1) x.2).2)) acc).2 = false) from
    hacc (s, false) (.refl _ s) (fun _ => rfl)
  induction xs with
  | nil => exact fun acc h hue => ⟨h, hue⟩
  | cons x xs ih =>
    intro acc h hue
    refine ih _ (State.lmemRead_touch (by decide) h) (fun hecc => ?_)
    have hsame : acc.1.ecc = s.ecc := h.ecc_same (by decide)
    have hread : (acc.1.lmemRead w (lmemBase w + x.1) x.2).2 = false := by
      simp only [State.lmemRead, hsame]
      refine List.any_eq_false.2 (fun y hy => ?_)
      rw [hecc y (List.mem_of_mem_filter hy)]
      exact Bool.false_ne_true
    exact Bool.or_eq_false_iff.2 ⟨hue hecc, hread⟩

theorem portLoads_of_mem {s t : State} (h : t.mem = s.mem) (w : Nat) (p : PortWork) : t.portLoads w p = s.portLoads w p := by
  simp only [State.portLoads, State.lmemVec, State.memVal, bytes_of_mem h]

theorem portGather_of_mem {s t : State} (h : t.mem = s.mem) (w : Nat) (p : PortWork) : t.portGather w p = s.portGather w p := by
  simp only [State.portGather, State.memVal, bytes_of_mem h]

/-! ### What the word does before its transfer -/

/-- What the counts of a word may touch. -/
def countedMask : Nat := pulseMask ||| 1 <<< (64 + Reg.WEL_CYCLES.ctorIdx) ||| 1 <<< (64 + Reg.WEL_ARITH.ctorIdx)

/-- What a word may touch beside its engine. -/
def wordMask : Nat := lmemWriteMask ||| countedMask

theorem wordCounted_agree (s : State) (w : Nat) (m : Micro) (x : Wel) (clocks vf : Nat) :
    Agree countedMask (s.setWel w x) (s.wordCounted w m x clocks vf) := by
  have hcount : Agree countedMask (s.setWel w x) ((s.setWel w x).faddSat F.WEL_CYCLES_COUNT w clocks) :=
    (Agree.refl _ _).faddSat (by decide) _ _
  exact .ite ((hcount.setReg (by decide) _ _).trans ((irq_agree _ _ _).mono (by decide))) hcount

theorem wordStored_agree (s : State) (w : Nat) (p : PortWork) (v63 : Vec) : Agree lmemWriteMask s (s.wordStored w p v63) := by
  unfold State.wordStored
  extract_lets t
  have ht : Agree lmemWriteMask s t := lmemWrites_agree
  split
  · exact ht
  · exact ht.trans lmemWrites_agree

theorem wordPulsed_agree (s : State) (w : Nat) (m : Micro) : Agree pulseMask s (s.wordPulsed w m) :=
  .ite (State.pulse_touch (by decide) (.refl _ s)) (.refl _ s)

/-- The word before its transfer: engine `w` has become `x`. -/
def State.wordDone (s : State) (w : Nat) (m : Micro) (x : Wel) (clocks vf : Nat) (p : PortWork) (v63 : Vec) : State :=
  ((s.wordCounted w m x clocks vf).wordStored w p v63).wordPulsed w m

theorem wordDone_agree (s : State) (w : Nat) (m : Micro) (x : Wel) (clocks vf : Nat) (p : PortWork) (v63 : Vec) :
    Agree wordMask (s.setWel w x) (s.wordDone w m x clocks vf p v63) :=
  ((wordCounted_agree s w m x clocks vf).mono (by decide)).trans
    (((wordStored_agree _ w p v63).mono (by decide)).trans ((wordPulsed_agree _ w m).mono (by decide)))

/-! ### The transfer and the halt -/

/-- The engine once its transfer is on the list. -/
def Wel.ordered (x : Wel) (m : Micro) (d : Dma) : Wel :=
  if nbits m.dma 5 3 = 0 then x else { x with dma := x.dma ++ [d], fence := nbits m.dma 0 3 == 3 }

/-- The engine once the loads of its last word have landed. -/
def Wel.settled (x : Wel) (halt : Bool) : Wel := if halt then { x.landed with loads := [] } else x

theorem wordOrders_good {u : State} {w : Nat} {m : Micro} {d : Dma} (pc : Nat) (h : nbits m.dma 5 3 = 0 ∨ u.dmaCheck d = none) :
    u.wordOrders w m d pc = if nbits m.dma 5 3 = 0 then u else u.setWel w ((u.wel1 w).ordered m d) := by
  unfold State.wordOrders
  by_cases hd : nbits m.dma 5 3 = 0
  · rw [if_pos hd, if_pos hd]
  · rw [if_neg hd, if_neg hd, h.resolve_left hd, Wel.ordered, if_neg hd]

theorem wordOrders_bad {u : State} {w : Nat} {m : Micro} {d : Dma} {cause : Nat} (pc : Nat) (hd : nbits m.dma 5 3 ≠ 0)
    (h : u.dmaCheck d = some cause) :
    u.wordOrders w m d pc = (if cause = 0 then u else u.logBusErr d.fab (nbits m.dma 5 3 == 2) 8 cause).welStop w 3 pc := by
  rw [State.wordOrders, if_neg hd, h]

/-- Engine `w` alone differs, and is `x`. -/
def State.onlyEngine (s t : State) (w : Nat) (x : Wel) : Prop := t.wel.engines = setAt Wel.reset s.wel.engines w x

theorem State.onlyEngine.wel1 {s t : State} {w : Nat} {x : Wel} (h : s.onlyEngine t w x) : t.wel1 w = x := wel1_of_engines h

theorem State.onlyEngine.setWel {s t : State} {w : Nat} {x : Wel} (h : s.onlyEngine t w x) (y : Wel) :
    s.onlyEngine (t.setWel w y) w y := by
  rw [State.onlyEngine, State.setWel, h, setAt_setAt]

section after
variable {s u : State} {w : Nat} {x : Wel} (hx : s.onlyEngine u w x) (hst : u.welState w = 3)
include hx hst

omit hst in
theorem wordOrders_engine {m : Micro} {d : Dma} (pc : Nat) (h : nbits m.dma 5 3 = 0 ∨ u.dmaCheck d = none) :
    s.onlyEngine (u.wordOrders w m d pc) w (x.ordered m d) ∧ (u.wordOrders w m d pc).mem = u.mem ∧
      (u.wordOrders w m d pc).welState w = u.welState w := by
  rw [wordOrders_good pc h, hx.wel1]
  by_cases hd : nbits m.dma 5 3 = 0
  · rw [if_pos hd, Wel.ordered, if_pos hd]
    exact ⟨hx, rfl, rfl⟩
  · rw [if_neg hd]
    exact ⟨hx.setWel _, rfl, rfl⟩

theorem wordHalts_engine (halt : Bool) :
    s.onlyEngine (u.wordHalts w halt) w (x.settled halt) ∧ (u.wordHalts w halt).mem = u.mem := by
  have hst' : (u.welState w == 3) = true := by simp [hst]
  rw [State.wordHalts, hst', Bool.and_true]
  cases halt
  · exact ⟨hx, rfl⟩
  · refine ⟨?_, rfl⟩
    rw [if_pos rfl, State.welLanded, hx.wel1]
    exact hx.setWel _

end after

/-- What the log of a bus error may touch. -/
def busErrMask : Nat := 0x1000000000000001c100000000000000200

/-- The transfer of a word is bad: the engine stops with DMA_FAULT at the word. -/
theorem wordOrders_stops {u : State} {w pc : Nat} {m : Micro} {d : Dma} (wu : Regs.wf u.regs = true) (hw : w < 18)
    (hd : nbits m.dma 5 3 ≠ 0) (h : u.dmaCheck d ≠ none) (halt : Bool) (hretire : (u.wel1 w).retire = false) :
    let t := (u.wordOrders w m d pc).wordHalts w halt
    u.welStopped t w 3 ∧ t.fget F.WEL_FAULT_PC_ADDR w = pc % 2048 := by
  obtain ⟨cause, hcause⟩ := Option.ne_none_iff_exists'.mp h
  have hlog : Agree busErrMask u (if cause = 0 then u else u.logBusErr d.fab (nbits m.dma 5 3 == 2) 8 cause) :=
    .ite (.refl _ u) (State.logBusErr_touch (by decide) (.refl _ u))
  rw [wordOrders_bad pc hd hcause]
  generalize (if cause = 0 then u else u.logBusErr d.fab (nbits m.dma 5 3 == 2) 8 cause) = v at hlog
  have wv : Regs.wf v.regs = true := hlog.regsWf wu
  have hkept : (v.wel1 w).retire = false := by rw [wel1_of_wel (hlog.wel_same (by decide)), hretire]
  have hstopped := welStop_stopped (cause := 3) wv hw pc (by decide) hkept
  have hst : ((v.welStop w 3 pc).welState w == 3) = false := by rw [hstopped.1]; rfl
  rw [State.wordHalts, hst, Bool.and_false, if_neg Bool.false_ne_true]
  exact ⟨fun _ => hstopped, welStop_faultPc wv hw pc⟩

end Sys2Proof.Machine
end

section
/-!
PROOF. A microword: what stops it, what holds it, and the engine and memory that it leaves.
-/

namespace Sys2Proof.Machine

/-! ### The engine that a word leaves (R200–R213) -/

/-- The engine that a word with condition `c` and transfer `d` leaves, but for its vector registers and port loads. -/
def Wel.after (e : Wel) (w : Nat) (m : Micro) (c : Bool) (clocks : Nat) (d : Dma) (vreg : List (Nat × Word))
    (loads : List (Nat × List Word)) : Wel :=
  { e with
    vreg := vreg, loads := loads,
    f := if m.compares = true then cmpMask m.vop m.vfmt (e.vec w m.va) (e.vec w m.vb) else e.f,
    flags := scalarFlags (nbits m.sop 12 4) (e.scal (nbits m.sop 4 4)) (e.scal (nbits m.sop 0 4)) (BitVec.ofNat 32 m.imm)
      ((e.vec w m.va).at (nbits m.sop 0 4)) e.f e.flags,
    sc := (scalarResult (nbits m.sop 12 4) (e.scal (nbits m.sop 4 4)) (e.scal (nbits m.sop 0 4)) (BitVec.ofNat 32 m.imm)
      ((e.vec w m.va).at (nbits m.sop 0 4)) e.f).elim e.sc (fun r => e.sc.set (nbits m.sop 8 4) r),
    ptr := if nbits m.sop 12 4 = 10 then (e.stepPtr m).set (nbits m.sop 8 4 % 8) (e.ptrSum m) else e.stepPtr m,
    stride := if nbits m.sop 12 4 = 11 then e.stride.set (nbits m.sop 8 4 % 8) (e.ptrSum m) else e.stride,
    lc := e.stepLc m,
    ret := if m.seqop = 1 ∧ c = true then (e.pc + 1) % 2048 :: e.ret else if m.seqop = 2 ∧ c = true then e.ret.tail else e.ret,
    uf := if nbits m.fe 6 2 = 1 then e.uf ||| 2 ^ nbits m.fe 4 2
      else if nbits m.fe 6 2 = 2 then e.uf &&& (15 - 2 ^ nbits m.fe 4 2) else e.uf,
    tok := if nbits m.dma 0 3 = 1 ∨ nbits m.dma 5 3 ≠ 0 then e.tok &&& (15 - 2 ^ nbits m.dma 3 2) else e.tok,
    pc := (if e.falls m c = true then e.pc + 1 else e.target m c) % 2048,
    halting := m.seqop == 5 && c,
    job := e.job.map (fun j => { j with
      cycles := j.cycles + clocks, rflags := j.rflags ||| (nbits m.fe 8 7 + 2 ^ 11 * bitOf (m.fe.testBit 15)) }),
    dma := e.dma ++ (if nbits m.dma 5 3 = 0 then [] else [d]),
    fence := if nbits m.dma 5 3 = 0 then e.fence else nbits m.dma 0 3 == 3 }

theorem setVec_eq (e : Wel) (r : Nat) (v : Vec) : e.setVec r v = { e with vreg := (e.setVec r v).vreg } := by rw [Wel.setVec]

theorem results_eq (e : Wel) (w : Nat) (m : Micro) (g : Option Vec) :
    e.results w m g = { e with vreg := (e.results w m g).vreg } := by
  have hland := landed_eq e
  unfold Wel.results
  extract_lets y
  have hy : y = { e with vreg := y.vreg } := by
    unfold y
    split
    · rw [setVec_eq, hland]
    · exact hland
  cases g with
  | none => exact hy
  | some v =>
    change y.setVec 63 v = _
    rw [setVec_eq, hy]

/-- What the vector unit and a gather leave on the loads that have landed. -/
theorem results_gather (s : State) (e : Wel) (w : Nat) (m : Micro) (p : PortWork) :
    let y := if (vopInfo m.vop).any (fun x => x.d) = true then e.landed.setVec m.vd (e.vecResult w m).1 else e.landed
    e.results w m (s.portGather w p) =
      p.gather.elim y (fun xs => y.setVec 63 (xs.map (fun x => (BitVec.ofNat 32 (s.memVal (lmemBase w + x) 4) : Word)))) := by
  unfold Wel.results State.portGather
  rw [writesVec_eq]
  cases p.gather <;> rfl

/-- The vector registers after loads have landed depend on the vector registers before alone. -/
theorem foldl_setVec_vreg (ls : List (Nat × List Word)) {e x : Wel} (h : e.vreg = x.vreg) :
    (ls.foldl (fun e y => e.setVec y.1 y.2) e).vreg = (ls.foldl (fun e y => e.setVec y.1 y.2) x).vreg := by
  induction ls generalizing e x with
  | nil => exact h
  | cons y ys ih =>
    refine ih ?_
    simp only [Wel.setVec, h]

theorem stepped_ordered (e : Wel) (w : Nat) (m : Micro) (c : Bool) (clocks : Nat) (ls : List (Nat × List Word)) (g : Option Vec)
    (d : Dma) : (e.stepped w m c clocks ls g).ordered m d = e.after w m c clocks d (e.results w m g).vreg ls := by
  have hres := results_eq e w m g
  generalize (e.results w m g).vreg = vr at hres ⊢
  simp only [Wel.stepped, hres, scalarOp_eq, jump_getD, ite_bitOf (2 ^ 11), Bool.and_eq_true, decide_eq_true_eq, putScalar_eq]
  unfold Wel.ordered Wel.after
  by_cases hd : nbits m.dma 5 3 = 0
  · simp only [hd, if_true, List.append_nil]
  · simp only [hd, if_false]

/-- At a HALT the loads of the word land on what it has left in the vector registers. -/
theorem after_settled {e x : Wel} {vreg : List (Nat × Word)} (w : Nat) (m : Micro) (c : Bool) (clocks : Nat) (d : Dma)
    (ls : List (Nat × List Word)) (halt : Bool) (hx : x.vreg = vreg) : (e.after w m c clocks d vreg ls).settled halt =
      e.after w m c clocks d (if halt then (ls.foldl (fun e y => e.setVec y.1 y.2) x).vreg else vreg)
        (if halt then [] else ls) := by
  cases halt
  · rfl
  · have hvreg : (e.after w m c clocks d vreg ls).landed.vreg = (ls.foldl (fun e y => e.setVec y.1 y.2) x).vreg :=
      foldl_setVec_vreg ls hx.symm
    rw [Wel.settled, if_pos rfl, if_pos rfl, if_pos rfl, landed_eq, hvreg, Wel.after, Wel.after]

/-! ### A word that is issued -/

/-- The word at the address of engine `w`. -/
def State.word (s : State) (w : Nat) : Micro := microOf (tblGet (s.wel1 w).store (s.wel1 w).pc)

/-- Its condition. -/
def State.wordCond (s : State) (w : Nat) : Bool := s.welCond w (s.wel1 w) (s.word w)

/-- Its first fault. -/
def State.wordFault (s : State) (w : Nat) : Option (Nat × Bool) :=
  (s.wordFaults w (s.wel1 w) (s.word w) (s.wordCond w)).find? (fun x => x.2)

/-- What its memory ports do. -/
def State.wordWork (s : State) (w : Nat) : PortWork := s.portWork w (s.wel1 w) (s.word w)

/-- Engine `w` runs job `j`, and neither a HALT nor a fence nor a stop is under way. -/
def State.welIssues (s : State) (w : Nat) (j : Job) : Prop :=
  s.pageLive (0x40 + w) = true ∧ s.welState w = 3 ∧ (s.wel1 w).job = some j ∧ (s.wel1 w).halting = false ∧
    (s.wel1 w).fence = false ∧ (s.wel1 w).stopping = none

section issue
variable {s : State} {w waits : Nat} {j : Job} (hrun : s.welIssues w j)
include hrun

theorem microword_eq : s.microword w waits = s.wordIssued w waits (s.wel1 w) (s.word w) (s.wordCond w) := by
  obtain ⟨hpage, hst, hj, hhalt, hfence, hstop⟩ := hrun
  rw [State.microword, hpage, hst, hj, hhalt, hfence, hstop]
  exact microIssue_eq s w waits

theorem microword_faulty {y : Nat × Bool} (hf : s.wordFault w = some y) :
    s.microword w waits = (s.fset F.WEL_MFAULT_FIELD w y.1).welFault w (s.wel1 w).pc := by
  rw [State.wordFault] at hf
  rw [microword_eq hrun, State.wordIssued, hf]

/-- A word that must wait does nothing yet. -/
theorem microword_waits (hf : s.wordFault w = none) (hholds : (s.wel1 w).holds (s.word w) = true) : s.microword w waits = s := by
  rw [State.wordFault] at hf
  rw [microword_eq hrun, State.wordIssued, hf]
  exact if_pos hholds

theorem microword_good (hf : s.wordFault w = none) (hholds : (s.wel1 w).holds (s.word w) = false)
    (hue : (s.portReads w (s.wordWork w)).2 = false) :
    s.microword w waits =
      (s.portReads w (s.wordWork w)).1.wordRuns w (s.wel1 w) (s.word w) (s.wordCond w) (s.wordWork w) waits := by
  rw [State.wordFault] at hf
  rw [State.wordWork] at hue ⊢
  rw [microword_eq hrun, State.wordIssued, hf]
  simp only [hholds, Bool.false_eq_true, if_false, hue]

end issue

/-- A faulty word stops the engine with MICRO_FAULT, once its transfers are over, and names its first faulty field. -/
theorem welFault_stops {s : State} {w pc code : Nat} (wr : Regs.wf s.regs = true) (hw : w < 18) (hcode : code < 32) :
    let t := (s.fset F.WEL_MFAULT_FIELD w code).welFault w pc
    t.fget F.WEL_MFAULT_FIELD w = code ∧
      ((s.wel1 w).dma = [] → s.welStopped t w 1 ∧ t.fget F.WEL_FAULT_PC_ADDR w = pc % 2048) ∧
      ((s.wel1 w).dma ≠ [] → s.onlyEngine t w { s.wel1 w with stopping := some (1, pc) } ∧ t.mem = s.mem) := by
  intro t
  have ok : Reg.WEL_MFAULT.ok w = true := ok_of_lt hw (by decide) (by decide)
  have hfield : (s.fset F.WEL_MFAULT_FIELD w code).fget F.WEL_MFAULT_FIELD w = code :=
    (fget_fset_same s F.WEL_MFAULT_FIELD w code wr ok (by decide)).trans (Nat.mod_eq_of_lt hcode)
  have hwel : (s.fset F.WEL_MFAULT_FIELD w code).wel1 w = s.wel1 w := wel1_of_wel (fset_wel _ _ _ _) w
  have heng : (s.fset F.WEL_MFAULT_FIELD w code).wel.engines = s.wel.engines := congrArg WelPart.engines (fset_wel _ _ _ _)
  have hmem : (s.fset F.WEL_MFAULT_FIELD w code).mem = s.mem := setReg_mem _ _ _ _
  have wu : Regs.wf (s.fset F.WEL_MFAULT_FIELD w code).regs = true := fset_wf _ _ _ _ wr
  unfold t
  generalize s.fset F.WEL_MFAULT_FIELD w code = u at hfield hwel heng hmem wu
  have hstop : Agree (welStopMask ||| 1 <<< (64 + Reg.CS_STATUS.ctorIdx)) u (u.welStop w 1 pc) :=
    State.welStop_touch (by decide) (.refl _ u)
  by_cases hd : (s.wel1 w).dma = []
  · have ht : u.welFault w pc = u.welStop w 1 pc := by
      rw [State.welFault, hwel]
      exact if_pos hd
    rw [ht]
    refine ⟨(hstop.fget_same (f := F.WEL_MFAULT_FIELD) wu ok (by decide)).trans hfield,
      fun _ => ⟨fun hretire => ?_, ?_⟩, fun h => absurd hd h⟩
    · exact welStop_stopped wu hw pc (by decide) (by rw [hwel, hretire])
    · exact welStop_faultPc wu hw pc
  · have ht : u.welFault w pc = u.setWel w { s.wel1 w with stopping := some (1, pc) } := by
      rw [State.welFault, hwel]
      exact if_neg hd
    rw [ht]
    refine ⟨hfield, fun h => absurd h hd, fun _ => ⟨?_, hmem⟩⟩
    rw [State.onlyEngine, State.setWel, heng]

/-! ### A word that is good -/

/-- What a word may touch before its transfer is ordered. -/
def issueMask : Nat := lmemReadMask ||| wordMask ||| 1 <<< 23

/-- What it may touch before its stores. -/
def takenMask : Nat := lmemReadMask ||| 1 <<< 23 ||| countedMask

/-- The clocks of the word of engine `w`. -/
def State.wordClocks (s : State) (w waits : Nat) : Nat := (s.wordWork w).takes (s.word w) waits

/-- Engine `w` after its word, before its transfer is ordered. -/
def State.wordEngine (s : State) (w waits : Nat) : Wel :=
  (s.wel1 w).stepped w (s.word w) (s.wordCond w) (s.wordClocks w waits) (s.portLoads w (s.wordWork w))
    (s.portGather w (s.wordWork w))

/-- The ports have read, and engine `w` has taken its word. -/
def State.wordTaken (s : State) (w waits : Nat) : State :=
  (s.portReads w (s.wordWork w)).1.wordCounted w (s.word w) (s.wordEngine w waits) (s.wordClocks w waits)
    ((s.wel1 w).vecResult w (s.word w)).2

/-- Engine `w` has done its word but for the transfer. -/
def State.wordFinished (s : State) (w waits : Nat) : State :=
  ((s.wordTaken w waits).wordStored w (s.wordWork w) ((s.wel1 w).vec w 63)).wordPulsed w (s.word w)

/-- The transfer that the word of engine `w` orders. -/
def State.wordDma (s : State) (w : Nat) : Dma := s.portDma (s.wel1 w) (s.word w)

section good
variable {s : State} {w waits : Nat} {j : Job} (wr : Regs.wf s.regs = true)
include wr

omit wr in
theorem wordTaken_agree : Agree takenMask s (s.wordTaken w waits) :=
  ((portReads_agree s w _).1.mono (by decide)).trans (((setWel_agree _ w _).mono (by decide)).trans
    ((wordCounted_agree _ w _ _ _ _).mono (by decide)))

omit wr in
theorem wordFinished_agree : Agree issueMask s (s.wordFinished w waits) :=
  ((portReads_agree s w _).1.mono (by decide)).trans (((setWel_agree _ w _).mono (by decide)).trans
    ((wordDone_agree _ w _ _ _ _ _ _).mono (by decide)))

omit wr in
theorem wordFinished_engine : s.onlyEngine (s.wordFinished w waits) w (s.wordEngine w waits) := by
  have hread : (s.portReads w (s.wordWork w)).1.wel = s.wel := (portReads_agree s w _).1.wel_same (by decide)
  have hdone : (s.wordFinished w waits).wel = ((s.portReads w (s.wordWork w)).1.setWel w (s.wordEngine w waits)).wel :=
    (wordDone_agree _ w _ _ _ _ _ _).wel_same (by decide)
  rw [State.onlyEngine, hdone, State.setWel, hread]

omit wr in
theorem wordFinished_mem :
    (s.wordFinished w waits).mem = ((s.wordTaken w waits).wordStored w (s.wordWork w) ((s.wel1 w).vec w 63)).mem :=
  (wordPulsed_agree _ w _).mem_same (by decide)

omit wr in
theorem wordTaken_memWf (wm : Memory.wf s.mem = true) : Memory.wf (s.wordTaken w waits).mem = true := wordTaken_agree.memWf wm

omit wr in
theorem wordTaken_mem : (s.wordTaken w waits).mem = s.mem := wordTaken_agree.mem_same (by decide)

theorem wordTaken_inActive (hw : w < 18) (a : Nat) : (s.wordTaken w waits).inActive w a = s.inActive w a :=
  wordTaken_agree.inActive_of_half wr hw (by decide) (by decide)
    (wordTaken_agree.fget_same (f := F.WEL_TBL_STATUS_HALF) wr (welTblStatus_ok hw) (by decide)) a

/-- A word that is neither faulty nor held is done, then orders its transfer, then halts. -/
theorem microword_finishes (hrun : s.welIssues w j) (hf : s.wordFault w = none) (hholds : (s.wel1 w).holds (s.word w) = false)
    (hue : (s.portReads w (s.wordWork w)).2 = false) :
    s.microword w waits = ((s.wordFinished w waits).wordOrders w (s.word w) (s.wordDma w) (s.wel1 w).pc).wordHalts w
      ((s.word w).seqop == 5 && s.wordCond w) := by
  obtain ⟨hread, -⟩ := portReads_agree s w (s.wordWork w)
  have hmem : (s.portReads w (s.wordWork w)).1.mem = s.mem := hread.mem_same (by decide)
  have hdma : (s.portReads w (s.wordWork w)).1.portDma (s.wel1 w) (s.word w) = s.wordDma w :=
    hread.portDma_same wr (by decide) _ _
  rw [microword_good hrun hf hholds hue, State.wordRuns, hdma, portLoads_of_mem hmem, portGather_of_mem hmem]
  rfl

theorem wordFinished_dmaCheck : (s.wordFinished w waits).dmaCheck (s.wordDma w) = s.dmaCheck (s.wordDma w) :=
  wordFinished_agree.dmaCheck_same wr (by decide) (portDma_line s _ _) (by decide)

variable (hw : w < 18) (hrun : s.welIssues w j) (hf : s.wordFault w = none) (hholds : (s.wel1 w).holds (s.word w) = false)
  (hue : (s.portReads w (s.wordWork w)).2 = false)
include hw hrun hf hholds hue

omit hf hholds hue in
theorem wordFinished_state : (s.wordFinished w waits).welState w = 3 :=
  (wordFinished_agree.fget_same (f := F.WEL_STATUS_STATE) wr (welStatus_ok hw) (by decide)).trans hrun.2.1

/-- A good word leaves its engine and the memory as its stores did. -/
theorem microword_engine (hdma : nbits (s.word w).dma 5 3 = 0 ∨ s.dmaCheck (s.wordDma w) = none) :
    s.onlyEngine (s.microword w waits) w
        (((s.wordEngine w waits).ordered (s.word w) (s.wordDma w)).settled ((s.word w).seqop == 5 && s.wordCond w)) ∧
      (s.microword w waits).mem = ((s.wordTaken w waits).wordStored w (s.wordWork w) ((s.wel1 w).vec w 63)).mem := by
  have hgood : nbits (s.word w).dma 5 3 = 0 ∨ (s.wordFinished w waits).dmaCheck (s.wordDma w) = none := by
    rwa [wordFinished_dmaCheck wr]
  obtain ⟨heng, hmem, hst⟩ := wordOrders_engine wordFinished_engine (s.wel1 w).pc hgood
  obtain ⟨hend, hmem'⟩ := wordHalts_engine heng (hst.trans (wordFinished_state wr hw hrun))
    ((s.word w).seqop == 5 && s.wordCond w)
  rw [microword_finishes wr hrun hf hholds hue]
  exact ⟨hend, hmem'.trans (hmem.trans wordFinished_mem)⟩

/-- A word that orders a bad transfer stops the engine with DMA_FAULT. -/
theorem microword_stops (hd : nbits (s.word w).dma 5 3 ≠ 0) (hdma : s.dmaCheck (s.wordDma w) ≠ none) :
    s.welStopped (s.microword w waits) w 3 ∧
      ((s.wel1 w).retire = false → (s.microword w waits).fget F.WEL_FAULT_PC_ADDR w = (s.wel1 w).pc % 2048) := by
  have hstop (hretire : (s.wel1 w).retire = false) := wordOrders_stops (pc := (s.wel1 w).pc) (m := s.word w) (d := s.wordDma w)
    (u := s.wordFinished w waits) (wordFinished_agree.regsWf wr) hw hd (by rwa [wordFinished_dmaCheck wr])
    ((s.word w).seqop == 5 && s.wordCond w) (by
      rw [wordFinished_engine.wel1]
      exact (congrArg Wel.retire (results_eq _ _ _ _)).trans hretire)
  rw [microword_finishes wr hrun hf hholds hue]
  refine ⟨fun hretire => (hstop hretire).1 ?_, fun hretire => (hstop hretire).2⟩
  rw [wordFinished_engine.wel1]
  exact (congrArg Wel.retire (results_eq _ _ _ _)).trans hretire

end good

end Sys2Proof.Machine
end

section
/-!
PROOF. The stores and the scatter of a microword in the local memory of its engine.
-/

namespace Sys2Proof.Machine

/-! ### What the ports name (R206) -/

theorem length_vec (e : Wel) (w r : Nat) : (e.vec w r).length = 16 := by
  rw [Wel.vec, List.length_map, List.length_range]

theorem portWork_stores_length {s : State} {w : Nat} {e : Wel} {m : Micro} {y : Nat × Vec} (hy : y ∈ (s.portWork w e m).stores) :
    y.2.length = 16 := by
  have hone {c : Prop} [Decidable c] {a r : Nat} (h : y ∈ if c then [(a, e.vec w r)] else []) : y.2.length = 16 := by
    split at h
    · rw [List.mem_singleton.mp h]
      exact length_vec e w r
    · exact absurd h List.not_mem_nil
  rcases List.mem_append.mp hy with h | h
  · exact hone h
  · exact hone h

theorem portWork_scatter {s : State} {w : Nat} {e : Wel} {m : Micro} {lanes : List Nat}
    (h : (s.portWork w e m).scatter = some lanes) :
    lanes.length = 16 ∧ ∀ i, lanes.getD i 0 % 4 = 0 := by
  have hlanes (f : Nat → Nat) : ((List.range 16).map (fun i => f i / 4 * 4)).length = 16 ∧
      ∀ i, ((List.range 16).map (fun i => f i / 4 * 4)).getD i 0 % 4 = 0 := by
    refine ⟨by rw [List.length_map, List.length_range], fun i => ?_⟩
    by_cases hi : i < 16
    · rw [List.getD_eq_getElem _ _ (by simpa using hi), List.getElem_map]
      exact Nat.mul_mod_left _ _
    · rw [List.getD_eq_default _ _ (by simpa using hi)]
  simp only [State.portWork] at h
  split at h
  · obtain rfl := Option.some.inj h
    exact hlanes _
  · exact absurd h nofun

/-! ### The writes of the word -/

/-- The lane whose word a scatter leaves at an address that no other lane names. -/
theorem scatterFrom_alone {lanes : List Nat} {i : Nat} (hi : i < 16)
    (h : ∀ k, k < 16 → k ≠ i → lanes.getD k 0 ≠ lanes.getD i 0) : scatterFrom lanes i = i := by
  have hsame : (List.range 16).filter (fun j => lanes.getD j 0 == lanes.getD i 0) = [i] := by
    have hiff : ∀ j ∈ List.range 16, (lanes.getD j 0 == lanes.getD i 0) = (j == i) := by
      intro j hj
      by_cases hji : j = i
      · simp [hji]
      · rw [beq_eq_false_iff_ne.2 (h j (List.mem_range.1 hj) hji), beq_eq_false_iff_ne.2 hji]
    rw [List.filter_congr hiff]
    interval_cases i <;> rfl
  simp only [scatterFrom, hsame, List.length_singleton, Nat.max_self, Nat.mod_one]
  rfl

section stored
variable {v : State} {w : Nat} {p : PortWork} {x : Vec} (wm : Memory.wf v.mem = true)
include wm

/-- Outside the words that the stores and the scatter name nothing changes. -/
theorem wordStored_byte_outside {z : Nat} (hlen : ∀ y ∈ p.stores, y.2.length = 16)
    (hlanes : ∀ lanes, p.scatter = some lanes → lanes.length = 16)
    (hst : ∀ y ∈ p.stores, z < lmemBase w + y.1 ∨ lmemBase w + y.1 + 64 ≤ z)
    (hsc : ∀ y ∈ p.scatter.getD [], z < lmemBase w + y ∨ lmemBase w + y + 4 ≤ z) : (v.wordStored w p x).byte z = v.byte z := by
  have hstores : (v.lmemWrites w p.stores (fun x => x.1) (fun x => vecBytes x.2)).byte z = v.byte z := by
    refine lmemWrites_byte_outside wm (fun y hy => ?_)
    rw [length_vecBytes, hlen y hy]
    exact hst y hy
  unfold State.wordStored
  extract_lets u
  split
  · exact hstores
  next lanes hl =>
    rw [hl] at hsc
    refine (lmemWrites_byte_outside (lmemWrites_agree.memWf wm) (fun i hi => ?_)).trans hstores
    rw [length_leBytes]
    have hi' : i < lanes.length := by rw [hlanes lanes hl]; exact List.mem_range.1 hi
    rw [List.getD_eq_getElem _ _ hi']
    exact hsc _ (List.getElem_mem hi')

variable (wr : Regs.wf v.regs = true) (hw : w < 18)
include wr hw

/-- A store outside the active half that no other store meets stands, lane by lane. -/
theorem wordStored_store {y : Nat × Vec} (hlen : ∀ y ∈ p.stores, y.2.length = 16) (hy : y ∈ p.stores) (hnone : p.scatter = none)
    (ha : v.inActive w y.1 = false) (hother : ∀ z ∈ p.stores, z ≠ y → z.1 + 64 ≤ y.1 ∨ y.1 + 64 ≤ z.1) {i : Nat} (hi : i < 16) :
    (v.wordStored w p x).memVal (lmemBase w + y.1 + 4 * i) 4 = (y.2.at i).toNat := by
  have hbytes (z : Nat × Vec) (hz : z ∈ p.stores) : (vecBytes z.2).length = 64 := by rw [length_vecBytes, hlen z hz]
  refine memVal_of_byte (fun k hk => ?_)
  rw [State.wordStored, hnone, ← getD_vecBytes y.2 (by rw [hlen y hy]; exact hi) hk, Nat.add_assoc]
  refine lmemWrites_byte_inside (loc := fun x : Nat × Vec => x.1) (bs := fun x => vecBytes x.2) wr wm hw hy ha
    (by rw [hbytes y hy]; omega) (fun z hz => ?_)
  by_cases hzy : z = y
  · exact Or.inl ⟨congrArg Prod.fst hzy, congrArg (fun x => vecBytes x.2) hzy⟩
  · have hapart := hother z hz hzy
    rw [hbytes z hz]
    omega

/-- A lane of a scatter outside the active half, at an address that no other lane names, stands. -/
theorem wordStored_scatter {lanes : List Nat} (hsc : p.scatter = some lanes) (hnone : p.stores = [])
    (halign : ∀ i, lanes.getD i 0 % 4 = 0) {i : Nat} (hi : i < 16) (ha : v.inActive w (lanes.getD i 0) = false)
    (hother : ∀ k, k < 16 → k ≠ i → lanes.getD k 0 ≠ lanes.getD i 0) :
    (v.wordStored w p x).memVal (lmemBase w + lanes.getD i 0) 4 = (x.at i).toNat := by
  refine memVal_of_byte (fun k hk => ?_)
  have hbyte := lmemWrites_byte_inside (k := k) (loc := fun i => lanes.getD i 0)
    (bs := fun i => leBytes 4 (x.at (scatterFrom lanes i)).toNat) wr wm hw (List.mem_range.2 hi) ha
    (by rw [length_leBytes]; exact hk) (fun z hz => ?_)
  · rw [State.wordStored, hsc, hnone]
    rw [scatterFrom_alone hi hother] at hbyte
    exact hbyte
  · by_cases hzi : z = i
    · exact Or.inl ⟨by rw [hzi], by rw [hzi]⟩
    · have hne := hother z (List.mem_range.1 hz) hzi
      have h1 := halign z
      have h2 := halign i
      rw [length_leBytes]
      omega

end stored

/-! ### The memory that a good word leaves -/

theorem memVal_of_mem {s t : State} (h : t.mem = s.mem) (a n : Nat) : t.memVal a n = s.memVal a n := by
  rw [State.memVal, State.memVal, bytes_of_mem h]

section left
variable {s t : State} {w waits : Nat} (wr : Regs.wf s.regs = true) (wm : Memory.wf s.mem = true) (hw : w < 18)
  (ht : t.mem = ((s.wordTaken w waits).wordStored w (s.wordWork w) ((s.wel1 w).vec w 63)).mem)
include wm ht

/-- Outside the words that its ports store a good word changes no byte. -/
theorem word_byte_outside {z : Nat} (hst : ∀ y ∈ (s.wordWork w).stores, z < lmemBase w + y.1 ∨ lmemBase w + y.1 + 64 ≤ z)
    (hsc : ∀ y ∈ (s.wordWork w).scatter.getD [], z < lmemBase w + y ∨ lmemBase w + y + 4 ≤ z) : t.byte z = s.byte z := by
  have hbyte : t.byte z = ((s.wordTaken w waits).wordStored w (s.wordWork w) ((s.wel1 w).vec w 63)).byte z :=
    congrArg (memGet · z) ht
  have hbefore : (s.wordTaken w waits).byte z = s.byte z := congrArg (memGet · z) wordTaken_mem
  rw [hbyte, ← hbefore]
  exact wordStored_byte_outside (wordTaken_memWf wm) (fun _ => portWork_stores_length) (fun _ h => (portWork_scatter h).1) hst hsc

include wr hw

/-- A store of a good word is read back. -/
theorem word_store {y : Nat × Vec} (hy : y ∈ (s.wordWork w).stores) (hnone : (s.wordWork w).scatter = none)
    (ha : s.inActive w y.1 = false) (hother : ∀ z ∈ (s.wordWork w).stores, z ≠ y → z.1 + 64 ≤ y.1 ∨ y.1 + 64 ≤ z.1) {i : Nat}
    (hi : i < 16) : t.memVal (lmemBase w + y.1 + 4 * i) 4 = (y.2.at i).toNat := by
  rw [memVal_of_mem ht]
  exact wordStored_store (wordTaken_memWf wm) (wordTaken_agree.regsWf wr) hw (fun _ => portWork_stores_length) hy hnone
    ((wordTaken_inActive wr hw _).trans ha) hother hi

/-- A lane of a scatter of a good word is read back. -/
theorem word_scatter {lanes : List Nat} (hsc : (s.wordWork w).scatter = some lanes) (hnone : (s.wordWork w).stores = []) {i : Nat}
    (hi : i < 16) (ha : s.inActive w (lanes.getD i 0) = false)
    (hother : ∀ k, k < 16 → k ≠ i → lanes.getD k 0 ≠ lanes.getD i 0) :
    t.memVal (lmemBase w + lanes.getD i 0) 4 = (((s.wel1 w).vec w 63).at i).toNat := by
  rw [memVal_of_mem ht]
  exact wordStored_scatter (wordTaken_memWf wm) (wordTaken_agree.regsWf wr) hw hsc hnone (portWork_scatter hsc).2 hi
    ((wordTaken_inActive wr hw _).trans ha) hother

end left

end Sys2Proof.Machine
end

section
/-!
PROOF. The Welut engines: jobs, microwords and transfers.
-/

namespace Sys2Proof.Machine

theorem State.wf_mem {s : State} (h : s.wf = true) : Memory.wf s.mem = true := by
  simp only [State.wf, Bool.and_eq_true] at h
  exact h.1.2

/-- The vector registers that a good word leaves. -/
def State.wordVreg (s : State) (w : Nat) (halt : Bool) : List (Nat × Word) :=
  if halt then ((s.portLoads w (s.wordWork w)).foldl (fun e y => e.setVec y.1 y.2)
      ((s.wel1 w).results w (s.word w) (s.portGather w (s.wordWork w)))).vreg
  else ((s.wel1 w).results w (s.word w) (s.portGather w (s.wordWork w))).vreg

/-- The engine that a good word leaves. -/
def State.wordAfter (s : State) (w waits : Nat) : Wel :=
  (s.wel1 w).after w (s.word w) (s.wordCond w) (s.wordClocks w waits) (s.wordDma w)
    (s.wordVreg w ((s.word w).seqop == 5 && s.wordCond w))
    (if (s.word w).seqop == 5 && s.wordCond w then [] else s.portLoads w (s.wordWork w))

theorem wordEngine_after (s : State) (w waits : Nat) :
    ((s.wordEngine w waits).ordered (s.word w) (s.wordDma w)).settled ((s.word w).seqop == 5 && s.wordCond w) =
      s.wordAfter w waits := by
  rw [State.wordEngine, stepped_ordered]
  exact after_settled w _ _ _ _ _ _ rfl

/-! ### A word that orders nothing -/

/-- The word that moves on to `next`, with CINV `c`, and orders nothing. -/
def plainWord (next c : Nat) : Micro := ⟨next, 0, c, 0, 0, 0, 0, 0, 0, 0, 0, 0, 0, 0, 0, 0, 0, 0⟩

theorem microOf_plain {n c : Nat} (hn : n < 2048) (hc : c < 2) : microOf (n * 2 ^ 165 + c * 2 ^ 159) = plainWord n c := by
  simp only [microOf, plainWord, nbits, Micro.mk.injEq]
  refine ⟨?_, ?_, ?_, ?_, ?_, ?_, ?_, ?_, ?_, ?_, ?_, ?_, ?_, ?_, ?_, ?_, ?_, ?_⟩ <;> omega

@[simp] theorem nbits_zero (lo k : Nat) : nbits 0 lo k = 0 := by rw [nbits, Nat.zero_div, Nat.zero_mod]

theorem portWork_plain (s : State) (w : Nat) (e : Wel) (n c : Nat) : s.portWork w e (plainWord n c) = ⟨[], [], none, none⟩ := by
  simp [State.portWork, plainWord]

theorem holds_plain (e : Wel) (n c : Nat) : e.holds (plainWord n c) = false := by simp [Wel.holds, plainWord]

theorem microFaults_plain (n c size : Nat) : (microFaults (plainWord n c) size).find? (fun x => x.2) = none := by
  simp [microFaults, plainWord, vopInfo, aguOf]

theorem wordFaults_plain (s : State) (w : Nat) (e : Wel) (n c : Nat) (b : Bool) :
    (s.wordFaults w e (plainWord n c) b).find? (fun x => x.2) = none := by
  rw [State.wordFaults, holds_plain, List.find?_append, microFaults_plain]
  simp [plainWord, Wel.falls]

theorem set_getD_self (xs : List Nat) (i : Nat) : xs.set i (xs.getD i 0) = xs := by
  by_cases h : i < xs.length
  · rw [List.getD_eq_getElem _ _ h, List.set_getElem_self]
  · rw [List.set_eq_of_length_le (by omega)]

theorem stepPtr_plain (e : Wel) (n c : Nat) : e.stepPtr (plainWord n c) = e.ptr := by
  have hagu : aguOf 0 = ⟨0, false, 0, 0, 0⟩ := by simp [aguOf, signed]
  have hnext (p st : Nat) : aguNext 0 p st = p := rfl
  simp only [Wel.stepPtr, plainWord, hagu, hnext, set_getD_self]

/-- Such a word leaves its engine at its NEXT address with its clocks counted. -/
theorem after_plain (e : Wel) (w n c clocks : Nat) (b : Bool) (d : Dma) (vreg : List (Nat × Word)) (ls : List (Nat × List Word)) :
    e.after w (plainWord n c) b clocks d vreg ls = { e with
      pc := (n / 2 * 2 + (n + bitOf b) % 2) % 2048, loads := ls, vreg := vreg, halting := false,
      job := e.job.map (fun j => { j with cycles := j.cycles + clocks }) } := by
  rw [Wel.after, stepPtr_plain]
  simp [plainWord, Micro.compares, scalarFlags, scalarResult, Wel.stepLc, Wel.falls, Wel.target, bitOf]

section plain
variable {s : State} {w waits n c : Nat} {j : Job} (hword : s.word w = plainWord n c)
include hword

theorem wordCond_plain : s.wordCond w = (c == 1) := by
  rw [State.wordCond, hword, welCond_eq]
  simp [plainWord, Wel.conditions]

/-- The engine that it leaves: the loads of the word before it have landed. -/
theorem wordAfter_plain : ∃ d, s.wordAfter w waits =
    (s.wel1 w).after w (plainWord n c) (c == 1) (1 + waits) d (s.wel1 w).landed.vreg [] := by
  have hwork : s.wordWork w = ⟨[], [], none, none⟩ := by rw [State.wordWork, hword, portWork_plain]
  have hhalt : ((plainWord n c).seqop == 5 && s.wordCond w) = false := rfl
  have hclocks : s.wordClocks w waits = 1 + waits := by
    rw [State.wordClocks, hwork, hword, takes_eq]
    rfl
  have hvreg : s.wordVreg w false = (s.wel1 w).landed.vreg := by
    rw [State.wordVreg, if_neg Bool.false_ne_true, hwork, hword, results_gather]
    rfl
  refine ⟨s.wordDma w, ?_⟩
  rw [State.wordAfter, hclocks, hword, hhalt, hvreg, wordCond_plain hword, hwork]
  rfl

/-- It moves to its NEXT address in one clock and what it waited. -/
theorem microword_plain (wr : Regs.wf s.regs = true) (hw : w < 18) (hrun : s.welIssues w j) (hn : n < 2048) (hc : c < 2) :
    let t := s.microword w waits
    let e := s.wel1 w
    ∃ x, s.onlyEngine t w x ∧ x.pc = n / 2 * 2 + (n + c) % 2 ∧ x.job = some { j with cycles := j.cycles + (1 + waits) } ∧
      x.loads = [] ∧ x.sc = e.sc ∧ x.f = e.f ∧ x.lc = e.lc ∧ x.ret = e.ret ∧ x.tok = e.tok ∧ x.dma = e.dma ∧
      x.vreg = e.landed.vreg ∧ t.mem = s.mem := by
  have hwork : s.wordWork w = ⟨[], [], none, none⟩ := by rw [State.wordWork, hword, portWork_plain]
  have hf : s.wordFault w = none := by rw [State.wordFault, hword, wordFaults_plain]
  have hholds : (s.wel1 w).holds (s.word w) = false := by rw [hword, holds_plain]
  have hue : (s.portReads w (s.wordWork w)).2 = false := by rw [hwork]; rfl
  have hdop : nbits (s.word w).dma 5 3 = 0 := by rw [hword]; exact nbits_zero 5 3
  obtain ⟨heng, hmem⟩ := microword_engine (waits := waits) wr hw hrun hf hholds hue (Or.inl hdop)
  obtain ⟨d, hx⟩ := wordAfter_plain (waits := waits) hword
  rw [wordEngine_after, hx, after_plain] at heng
  rw [hwork] at hmem
  obtain ⟨-, -, hj, -⟩ := hrun
  refine ⟨_, heng, ?_, ?_, rfl, rfl, rfl, rfl, rfl, rfl, rfl, rfl, hmem.trans wordTaken_mem⟩
  · have hbit : bitOf (c == 1) = c := by
      interval_cases c <;> rfl
    dsimp only
    rw [hbit]
    omega
  · dsimp only
    rw [hj]
    rfl

end plain

/-- Settles O53: each clause by the rule of its event; a word's clauses by the issue in steps, `microIssue_eq`, and by the memory
that its stores leave. -/
theorem welutJobs : Obligations.WelutJobs := by
  unfold Obligations.WelutJobs
  intro s q v hwf
  have wr := State.wf_regs hwf
  have wm := State.wf_mem hwf
  refine ⟨fun w => ?_, fun n h => ?_, fun tpl => ⟨fun x h hpage hq hslots => ?_, fun h => ?_⟩, fun f x h hshut hpage => ?_⟩
  · have hw := w.isLt
    intro e st ready home stopped
    refine ⟨?_, ?_, ?_, ?_, ?_, ?_, ?_, ?_, ?_, ?_, ?_, ?_⟩
    · intro le p hle hp hq hpage hst hact hpatch hmap hfirst helig hbefore d
      have hlive := domLive_of_welPage hw hpage
      obtain ⟨frame, taken, seq, hstart⟩ := jobStart_runs wr hw hle hp hlive (ne_of_eq_of_ne hst (by decide))
      have htakes := jobDispatch_takes hle hp hq hpage hst hact hpatch hmap hfirst helig hbefore
      exact ⟨_, frame, taken, seq, congrArg Host.Outcome.next htakes, hstart⟩
    · exact fun h => congrArg Host.Outcome.next (jobDispatch_unmapped h)
    · intro j n c waits hpage hst hj hhalt hfence hstop hn hc hword
      obtain ⟨x, hx⟩ := microword_plain (waits := waits) ((congrArg microOf hword).trans (microOf_plain hn hc)) wr hw
        ⟨hpage, hst, hj, hhalt, hfence, hstop⟩ hn hc
      exact ⟨_, x, rfl, hx⟩
    · intro j waits hpage hst hj hhalt hfence hstop m n fl tables c li left plus target dop tok sync waiting faults
      have hrun : s.welIssues w j := ⟨hpage, hst, hj, hhalt, hfence, hstop⟩
      have hc : s.wordCond w = c := welCond_eq s w e m
      have hfaults : s.wordFault w = faults.find? (fun x => x.2) := by
        rw [State.wordFault, hc]
        rfl
      refine ⟨fun y hy => ?_, fun hnone hwait => ?_, fun hnone hwait hecc => ?_⟩
      · have hfault : s.wordFault w = some y := hfaults.trans hy
        have hcode : y.1 < 32 := wordFaults_lt (List.mem_of_find?_eq_some hfault)
        exact ⟨_, congrArg Host.Outcome.next (microword_faulty hrun hfault), welFault_stops wr hw hcode⟩
      · exact congrArg Host.Outcome.next (microword_waits hrun (hfaults.trans hnone) hwait)
      · intro a b imm op sd sum result zn sumFlags subFlags u0 u1 ptr0 ptr1 lc1 load work landed isCmp vec computed gathered loads
          halts clocks sc line d
        have hf : s.wordFault w = none := hfaults.trans hnone
        have hue := (portReads_agree s w (s.wordWork w)).2 hecc
        refine ⟨fun hd hcheck => ⟨_, rfl, microword_stops wr hw hrun hf hwait hue hd hcheck⟩, fun hgood => ?_⟩
        obtain ⟨heng, hmem⟩ := microword_engine (waits := waits) wr hw hrun hf hwait hue hgood
        have hclocks : s.wordClocks w waits = clocks := takes_eq work m waits
        have hres : e.results w m (s.portGather w work) = gathered := by
          have hgather : gathered = work.gather.elim computed (fun xs =>
              computed.setVec 63 (xs.map (fun y => (BitVec.ofNat 32 (s.memVal (lmemBase w.val + y) 4) : Word)))) := by
            unfold gathered
            cases work.gather <;> rfl
          rw [hgather]
          exact results_gather s e w m work
        have hx : s.wordAfter w waits = e.after w m c clocks d (s.wordVreg w halts) (if halts then [] else loads) := by
          rw [State.wordAfter, hc, hclocks]
          rfl
        rw [wordEngine_after, hx] at heng
        refine ⟨_, _, rfl, heng, rfl, rfl, hstop, rfl, rfl, rfl, rfl, rfl, rfl, rfl, ?_, ?_, rfl, ?_, rfl, rfl, ?_, ?_, ?_, ?_⟩
        · exact fun hh => ⟨congrArg (fun h : Bool => if h then [] else loads) hh,
            (congrArg (s.wordVreg w) hh).trans (congrArg Wel.vreg hres)⟩
        · exact fun hh => ⟨congrArg (fun h : Bool => if h then [] else loads) hh,
            (congrArg (s.wordVreg w) hh).trans (congrArg (fun x => (loads.foldl (fun e y => e.setVec y.1 y.2) x).vreg) hres)⟩
        · change Option.map _ e.job = _
          rw [hj]
          rfl
        · change (if dop = 0 then e.fence else sync == 3) = _
          by_cases hd : dop = 0
          · rw [if_pos hd, hfence, hd]
            rfl
          · rw [if_neg hd, bne_iff_ne.2 hd, Bool.true_and]
        · exact fun y hy hsc ha hother i hi => word_store wr wm hw hmem hy hsc ha hother hi
        · exact fun lanes hsc hst i hi ha hother => word_scatter wr wm hw hmem hsc hst hi ha hother
        · exact fun z hst hsc => word_byte_outside wm hmem hst hsc
    · exact fun i d hd hb => congrArg Host.Outcome.next (dmaComplete_behind hd hb)
    · exact fun i d k hpage hd hb hwait => ⟨_, rfl, dmaComplete_waits hpage hd hb wr hw hwait⟩
    · intro i d hpage hd hst hstop hb hwait
      refine ⟨fun hk hup => ?_, fun hk hup => ?_, fun _ hbad hue => ?_⟩
      · obtain ⟨hue, hbad⟩ := dmaMove_line (s := s) (w := w) hk
        exact ⟨_, rfl, dmaComplete_good hpage hd hb wr hw hwait hue hst hstop (by rw [hbad, hup]; rfl)⟩
      · obtain ⟨hue, hbad⟩ := dmaMove_line (s := s) (w := w) hk
        exact ⟨_, rfl, dmaComplete_bad hpage hd hb wr hw hwait hue hst hstop (by rw [hbad, hup]; rfl)⟩
      · exact ⟨_, rfl, dmaComplete_good hpage hd hb wr hw hwait hue hst hstop hbad⟩
    · exact fun j clocks hpage hst hj hhalt hfence hdma hretire =>
        ⟨_, rfl, jobComplete_ends wr hw hpage hst hj hhalt hfence hdma hretire⟩
    · exact fun j hpage hst hj hlimit hstop => ⟨_, rfl, jobTimeout_stops wr hw hpage hst hj hlimit hstop⟩
    · exact fun h hresume hready hst hstop => ⟨_, rfl, writeReg_halt wr hw h (bits_or_set v (by decide))
        ((bits_or_clear v (by decide)).trans hresume) hready hst hstop⟩
    · intro h hhalt hready hst
      refine ⟨_, rfl, ?_⟩
      have hstate := writeReg_resume wr hw h ((bits_or_clear v (by decide)).trans hhalt) (bits_or_set v (by decide)) hready hst
      rwa [bits_or_clear v (by decide)] at hstate
    · exact fun h hhalt hresume => ⟨_, rfl, writeReg_service wr hw h hhalt hresume⟩
  · exact ⟨_, rfl, writeReg_tail wr n.isLt h⟩
  · exact ⟨_, rfl, templateDone_advances wr h hpage hq hslots⟩
  · exact congrArg Host.Outcome.next (templateDone_none h)
  · exact ⟨_, rfl, frameClose_publishes wr f.isLt h hshut hpage⟩

end Sys2Proof.Machine
end

section
/-!
PROOF. The control stores of the Welut engines: a commit to a store and a read of its word, and the start of a store command.
-/

namespace Sys2Proof.Machine

/-! ### Registers of a control store -/

theorem csCtrl_ok {w : Nat} (hw : w < 18) : Reg.CS_CTRL.ok w = true := ok_of_lt hw (by decide) (by decide)

theorem csAddr_ok {w : Nat} (hw : w < 18) : Reg.CS_ADDR.ok w = true := ok_of_lt hw (by decide) (by decide)

theorem csData5_ok {w : Nat} (hw : w < 18) : Reg.CS_DATA5.ok w = true := ok_of_lt hw (by decide) (by decide)

theorem csPatches_ok {w : Nat} (hw : w < 18) : Reg.CS_PATCHES.ok w = true := ok_of_lt hw (by decide) (by decide)

theorem csCtrl_page (w : Nat) : Reg.CS_CTRL.page w = 0x40 + w := by
  have : Reg.CS_CTRL.addr w = 0x40104 + (w / 1 * 0x1000 + 0) := rfl
  rw [Reg.page, this]
  omega

theorem csData5_page (w : Nat) : Reg.CS_DATA5.page w = 0x40 + w := by
  have : Reg.CS_DATA5.addr w = 0x40124 + (w / 1 * 0x1000 + 0) := rfl
  rw [Reg.page, this]
  omega

theorem performs_of_admits {s : State} {q : Requester} {r : Reg} {n : Nat} {v : Word} (h : s.admits q r n v = true) :
    s.performs q (r.page n) = true := by
  simp only [State.admits, Bool.and_eq_true] at h
  obtain ⟨⟨⟨⟨⟨⟨hperf, -⟩, -⟩, -⟩, -⟩, -⟩, -⟩ := h
  exact hperf

theorem not_nowReserved_of_admits {s : State} {q : Requester} {r : Reg} {n : Nat} {v : Word} (h : s.admits q r n v = true) :
    s.nowReserved r n v = false := by
  simp only [State.admits, Bool.and_eq_true, Bool.not_eq_true'] at h
  obtain ⟨⟨⟨-, hnow⟩, -⟩, -⟩ := h
  exact hnow

/-! ### CS_ADDR moves on (R214) -/

/-- CS_ADDR of engine `w` after an access to CS_DATA5. -/
def State.csMoved (s : State) (w : Nat) : Nat :=
  if s.flag F.CS_CTRL_AUTOINC w then (s.fget F.CS_ADDR_ADDR w + 1) % 2048 else s.fget F.CS_ADDR_ADDR w

theorem csNext_agree (s : State) (w : Nat) : Agree (1 <<< (64 + Reg.CS_ADDR.ctorIdx)) s (s.csNext w) :=
  State.csNext_touch (by decide) (.refl _ s)

theorem csNext_frame (s : State) (w : Nat) : RegFrame [(.CS_ADDR, w)] s (s.csNext w) :=
  .ite (.setReg s _ List.mem_cons_self) (.refl _ s)

theorem csNext_addr {s : State} {w : Nat} (wr : Regs.wf s.regs = true) (hw : w < 18) :
    (s.csNext w).fget F.CS_ADDR_ADDR w = s.csMoved w := by
  unfold State.csNext State.csMoved
  split
  · exact fget_fset_same s F.CS_ADDR_ADDR w _ wr (csAddr_ok hw) (by decide)
  · rfl

/-! ### A commit (R214) -/

/-- The word that a write of `v` to CS_DATA5 commits: the held parts and the one that is written. -/
def Wel.csWord (e : Wel) (v : Word) : Nat := e.hold.foldr (fun d acc => d.toNat + 2 ^ 32 * acc) 0 + (v.toNat % 65536) * 2 ^ 160

/-- The word stands in the store at CS_ADDR. -/
def State.csStored (s : State) (w : Nat) (v : Word) : State :=
  s.setWel w { s.wel1 w with store := tblPut (s.wel1 w).store (s.fget F.CS_ADDR_ADDR w) ((s.wel1 w).csWord v) }

/-- A commit with PATCH counts. -/
def State.csCounted (s : State) (w : Nat) : State := if s.flag F.CS_CTRL_PATCH w then s.faddSat F.CS_PATCHES_COUNT w 1 else s

theorem csCommit_eq (s : State) (w : Nat) (v : Word) : s.csCommit w v = ((s.csStored w v).csCounted w).csNext w := rfl

theorem csCounted_agree (s : State) (w : Nat) : Agree (1 <<< (64 + Reg.CS_PATCHES.ctorIdx)) s (s.csCounted w) :=
  .ite ((Agree.refl _ s).faddSat (by decide) _ _) (.refl _ s)

theorem csCounted_patches {s : State} {w : Nat} (wr : Regs.wf s.regs = true) (hw : w < 18) :
    (s.csCounted w).fget F.CS_PATCHES_COUNT w =
      if s.flag F.CS_CTRL_PATCH w then min 4095 (s.fget F.CS_PATCHES_COUNT w + 1) else s.fget F.CS_PATCHES_COUNT w := by
  unfold State.csCounted
  split
  · rw [State.faddSat, fget_fset_same s F.CS_PATCHES_COUNT w _ wr (csPatches_ok hw) (by decide)]
    exact Nat.mod_eq_of_lt (lt_of_le_of_lt (Nat.min_le_left _ _) (by decide))
  · rfl

section access
variable {s : State} {q : Requester} {w : Nat} (wr : Regs.wf s.regs = true) (hw : w < 18)
include wr hw

/-- A commit stores its word, counts as a patch and moves CS_ADDR on. -/
theorem writeReg_csData5 {v : Word} (h : s.admits q .CS_DATA5 w v = true) :
    let t := s.writeReg q .CS_DATA5 w v
    t.answer = .ok 0 ∧ t.wel.engines = (s.csStored w v).wel.engines ∧ t.fget F.CS_ADDR_ADDR w = s.csMoved w ∧
      t.fget F.CS_PATCHES_COUNT w =
        (if s.flag F.CS_CTRL_PATCH w then min 4095 (s.fget F.CS_PATCHES_COUNT w + 1) else s.fget F.CS_PATCHES_COUNT w) := by
  intro t
  have ht : t = s.taken (((s.csStored w v).csCounted w).csNext w) := writeReg_port (csData5_ok hw) h rfl
  have ws : Regs.wf (s.csStored w v).regs = true := wr
  have hcount := csCounted_agree (s.csStored w v) w
  have hnext := csNext_agree ((s.csStored w v).csCounted w) w
  have wc := hcount.regsWf ws
  rw [ht]
  refine ⟨rfl, ?_, ?_, ?_⟩
  · rw [(taken_agree s _).wel_same (by decide), hnext.wel_same (by decide), hcount.wel_same (by decide)]
  · rw [taken_fget, csNext_addr wc hw, State.csMoved, hcount.flag_same (f := F.CS_CTRL_AUTOINC) ws (csCtrl_ok hw) (by decide),
      hcount.fget_same (f := F.CS_ADDR_ADDR) ws (csAddr_ok hw) (by decide)]
    rfl
  · rw [taken_fget, hnext.fget_same (f := F.CS_PATCHES_COUNT) wc (csPatches_ok hw) (by decide)]
    exact csCounted_patches ws hw

/-- A read of CS_DATA5 answers the last part of the word and moves CS_ADDR on. -/
theorem readReg_csData5 (h : s.performs q (0x40 + w) = true) :
    let t := s.readReg q .CS_DATA5 w
    t.answer = .ok (s.regWord .CS_DATA5 w).toNat ∧ t.fget F.CS_ADDR_ADDR w = s.csMoved w ∧ t.wel = s.wel ∧
      s.sameRegsBut t [(.CS_ADDR, w)] := by
  intro t
  have heffects : s.readEffects (s.who q) .CS_DATA5 w = s.csNext w := by
    have hrc : Reg.rcMask .CS_DATA5 = 0#32 := by decide
    simp [State.readEffects, hrc]
  have hread : s.regRead (s.who q) .CS_DATA5 w = (s.csNext w, s.regWord .CS_DATA5 w) := by rw [← heffects]; rfl
  have ht : t = { s.csNext w with answer := .ok (s.regWord .CS_DATA5 w).toNat } := by
    refine (readReg_performs s q .CS_DATA5 w (csData5_ok hw) (by rwa [csData5_page])).trans ?_
    rw [hread]
  rw [ht]
  obtain ⟨-, hregs⟩ := csNext_frame s w wr
  exact ⟨rfl, csNext_addr wr hw, (csNext_agree s w).wel_same (by decide), hregs⟩

end access

/-! ### A write to CS_CTRL (R215) -/

/-- The word of a write of `v` stands in CS_CTRL, without the bits that order a command. -/
def State.csCommanded (s : State) (w : Nat) (v : Word) : State :=
  ((((s.merged .CS_CTRL w v).take F.CS_CTRL_LOAD w).take F.CS_CTRL_CHECK w).take F.CS_CTRL_VERIFY w).take F.CS_CTRL_INVALIDATE w

/-- The command that a write of `v` to CS_CTRL orders starts. -/
def State.csObeys (s : State) (w : Nat) (v : Word) : State :=
  if bits v 0 1 = 1 then s.csStart w 0
  else if bits v 1 1 = 1 then s.csStart w 1
  else if bits v 2 1 = 1 then s.csStart w 2
  else if bits v 5 1 = 1 then s.csStart w 3
  else s

/-- The bits of CS_CTRL that order a command, each with the command. -/
def csCommands : List (Nat × Nat) := [(0, 0), (1, 1), (2, 2), (5, 3)]

/-- A write to CS_CTRL orders one command at most. -/
def csSingle (v : Word) : Prop := (csCommands.filter (fun c => bits v c.1 1 == 1)).length ≤ 1

theorem csSingle_of_admits {s : State} {q : Requester} {w : Nat} {v : Word} (h : s.admits q .CS_CTRL w v = true) :
    csSingle v := by
  have hnow : s.nowReserved .CS_CTRL w v = false := not_nowReserved_of_admits h
  simp only [State.nowReserved, Bool.or_eq_false_iff, decide_eq_false_iff_not, not_lt] at hnow
  obtain ⟨⟨-, hone⟩, -⟩ := hnow
  exact hone

/-- The one command that is ordered starts. -/
theorem csObeys_single {s : State} {w : Nat} {v : Word} {i k : Nat} (hone : csSingle v) (hc : (i, k) ∈ csCommands)
    (hi : bits v i 1 = 1) : s.csObeys w v = s.csStart w k := by
  have hmem : (i, k) ∈ csCommands.filter (fun c => bits v c.1 1 == 1) := List.mem_filter.mpr ⟨hc, by simp [hi]⟩
  obtain ⟨c, hfilter⟩ := List.length_eq_one_iff.mp (le_antisymm hone (List.length_pos_of_mem hmem))
  have honly {x : Nat × Nat} (hx : x ∈ csCommands) (hb : bits v x.1 1 = 1) : x = (i, k) := by
    have hx' : x ∈ csCommands.filter (fun c => bits v c.1 1 == 1) := List.mem_filter.mpr ⟨hx, by simp [hb]⟩
    rw [hfilter, List.mem_singleton] at hmem hx'
    rw [hx', hmem]
  unfold State.csObeys
  split
  next hb => cases honly (x := (0, 0)) (by decide) hb; rfl
  split
  next hb => cases honly (x := (1, 1)) (by decide) hb; rfl
  split
  next hb => cases honly (x := (2, 2)) (by decide) hb; rfl
  split
  next hb => cases honly (x := (5, 3)) (by decide) hb; rfl
  next h0 h1 h2 h5 =>
    simp only [csCommands, List.mem_cons, List.not_mem_nil, or_false, Prod.mk.injEq] at hc
    rcases hc with ⟨rfl, -⟩ | ⟨rfl, -⟩ | ⟨rfl, -⟩ | ⟨rfl, -⟩
    · exact absurd hi h0
    · exact absurd hi h1
    · exact absurd hi h2
    · exact absurd hi h5

/-- A write to CS_CTRL with one command is the stored word and the start of the command. -/
theorem writeReg_csCtrl {s : State} {q : Requester} {w : Nat} {v : Word} {i k : Nat} (hw : w < 18)
    (h : s.admits q .CS_CTRL w v = true) (hc : (i, k) ∈ csCommands) (hi : bits v i 1 = 1) :
    s.writeReg q .CS_CTRL w v = s.taken ((s.csCommanded w v).csStart w k) := by
  rw [← csObeys_single (csSingle_of_admits h) hc hi]
  exact writeReg_unstaged (f := fun t => t.csCommand w v) (csCtrl_ok hw) h rfl (by decide) rfl

theorem csCommanded_agree (s : State) (w : Nat) (v : Word) :
    Agree (1 <<< (64 + Reg.CS_CTRL.ctorIdx)) s (s.csCommanded w v) :=
  ((((merged_agree s (by decide) w v).fsetB (by decide) _ _).fsetB (by decide) _ _).fsetB (by decide) _ _).fsetB (by decide) _ _

theorem csCommanded_invalidate {s : State} {w : Nat} (v : Word) (wr : Regs.wf s.regs = true) (hw : w < 18) :
    (s.csCommanded w v).flag F.CS_CTRL_INVALIDATE w = false :=
  flag_fsetB_same false (fsetB_wf _ _ _ _ (fsetB_wf _ _ _ _ (fsetB_wf _ _ _ _ (merged_wf _ _ _ wr)))) (csCtrl_ok hw) (by decide)

/-! ### LOAD, CHECK and VERIFY start (R215) -/

/-- Command `k` runs on engine `w` in `t`, and nothing else of the engines differs from `s`. -/
def State.csBegins (s t : State) (w k : Nat) : Prop :=
  t.wel.engines = setAt Wel.reset s.wel.engines w { s.wel1 w with cmd := some k } ∧ t.flag F.CS_STATUS_ACTIVE w = true ∧
    t.fget F.CS_STATUS_REASON w = 0

/-- The command is noted, with ACTIVE and without a reason. -/
def State.csNoted (s : State) (w k : Nat) : State :=
  ((s.setWel w { s.wel1 w with cmd := some k }).fsetB F.CS_STATUS_ACTIVE w true).fset F.CS_STATUS_REASON w 0

theorem csStart_eq (s : State) (w : Nat) {k : Nat} (hk : k ≠ 3) :
    s.csStart w k = if k = 2 then (s.csNoted w k).fsetB F.CS_STATUS_VERIFY_OK w false else s.csNoted w k := if_neg hk

theorem csNoted_wf {s : State} {w : Nat} (k : Nat) (wr : Regs.wf s.regs = true) : Regs.wf (s.csNoted w k).regs = true :=
  fset_wf _ _ _ _ (fsetB_wf (s.setWel w _) _ _ _ wr)

section start
variable {s : State} {w : Nat} (wr : Regs.wf s.regs = true) (hw : w < 18)
include wr hw

theorem csNoted_begins (k : Nat) : s.csBegins (s.csNoted w k) w k := by
  have ok := csStatus_ok hw
  have wa : Regs.wf ((s.setWel w { s.wel1 w with cmd := some k }).fsetB F.CS_STATUS_ACTIVE w true).regs = true :=
    fsetB_wf (s.setWel w _) _ _ _ wr
  refine ⟨?_, ?_, ?_⟩
  · rw [State.csNoted, fset_wel, fsetB_wel]
    rfl
  · refine (congrArg (· != 0) (fget_fset_field _ F.CS_STATUS_REASON F.CS_STATUS_ACTIVE w 0 wa ok rfl (by decide))).trans ?_
    exact flag_fsetB_same (s := s.setWel w _) true wr ok (by decide)
  · exact fget_fset_same _ F.CS_STATUS_REASON w 0 wa ok (by decide)

theorem csStart_begins {k : Nat} (hk : k ≠ 3) : s.csBegins (s.csStart w k) w k := by
  obtain ⟨hengines, hactive, hreason⟩ := csNoted_begins wr hw k
  have ok := csStatus_ok hw
  have wn := csNoted_wf (w := w) k wr
  rw [csStart_eq s w hk]
  split
  · exact ⟨(congrArg WelPart.engines (fsetB_wel _ _ _ _)).trans hengines,
      (flag_fsetB_field (f := F.CS_STATUS_VERIFY_OK) (g := F.CS_STATUS_ACTIVE) false wn ok rfl (by decide)).trans hactive,
      (fget_fset_field _ F.CS_STATUS_VERIFY_OK F.CS_STATUS_REASON w _ wn ok rfl (by decide)).trans hreason⟩
  · exact ⟨hengines, hactive, hreason⟩

theorem csStart_verify : (s.csStart w 2).flag F.CS_STATUS_VERIFY_OK w = false := by
  rw [csStart_eq s w (by decide), if_pos rfl]
  exact flag_fsetB_same false (csNoted_wf 2 wr) (csStatus_ok hw) (by decide)

variable {q : Requester} {v : Word} (h : s.admits q .CS_CTRL w v = true)
include h

/-- A write of 1 to LOAD, CHECK or VERIFY. -/
theorem writeReg_csStart {i k : Nat} (hc : (i, k) ∈ csCommands) (hi : bits v i 1 = 1) (hk : k ≠ 3) :
    s.csBegins (s.writeReg q .CS_CTRL w v) w k := by
  have hu := csCommanded_agree s w v
  obtain ⟨hengines, hactive, hreason⟩ := csStart_begins (hu.regsWf wr) hw hk
  rw [writeReg_csCtrl hw h hc hi]
  rw [wel1_of_wel (hu.wel_same (by decide)), hu.wel_same (by decide)] at hengines
  exact ⟨(congrArg WelPart.engines ((taken_agree s _).wel_same (by decide))).trans hengines,
    (congrArg (· != 0) (taken_fget s _ _ w)).trans hactive, (taken_fget s _ _ w).trans hreason⟩

/-- A VERIFY that starts takes VERIFY_OK back. -/
theorem writeReg_csVerify (hi : bits v 2 1 = 1) : (s.writeReg q .CS_CTRL w v).flag F.CS_STATUS_VERIFY_OK w = false := by
  rw [writeReg_csCtrl (i := 2) (k := 2) hw h (by decide) hi]
  exact (congrArg (· != 0) (taken_fget s _ _ w)).trans (csStart_verify ((csCommanded_agree s w v).regsWf wr) hw)

end start

end Sys2Proof.Machine
end

section
/-!
PROOF. The store commands of the Welut engines that end, INVALIDATE, a swap of the table halves that is asked for, and the
statement about them.
-/

namespace Sys2Proof.Machine

/-! ### INVALIDATE (R215) -/

/-- An engine whose store is not valid drops its job and is OFF. -/
theorem welRefresh_invalid {s : State} {w : Nat} (hlive : s.domLive .ana = true) (h : s.flag F.CS_STATUS_VALID w = false) :
    s.welRefresh w = (s.dropJob w).welTo w 0 := by
  simp only [State.welRefresh, hlive, h, Bool.not_true, Bool.not_false, Bool.or_true, Bool.false_eq_true, if_false, if_true]

theorem csInvalidateNow_off {s : State} {w : Nat} (wr : Regs.wf s.regs = true) (hw : w < 18) (hlive : s.domLive .ana = true) :
    (s.csInvalidateNow w).flag F.CS_STATUS_VALID w = false ∧ (s.csInvalidateNow w).welState w = 0 := by
  have wi : Regs.wf (s.fsetB F.CS_STATUS_VALID w false).regs = true := fsetB_wf _ _ _ _ wr
  have hset : Agree (1 <<< (64 + Reg.CS_STATUS.ctorIdx)) s (s.fsetB F.CS_STATUS_VALID w false) :=
    (Agree.refl _ s).fsetB (by decide) _ _
  have hinvalid : (s.fsetB F.CS_STATUS_VALID w false).flag F.CS_STATUS_VALID w = false :=
    flag_fsetB_same false wr (csStatus_ok hw) (by decide)
  have hlive' : (s.fsetB F.CS_STATUS_VALID w false).domLive .ana = true := (hset.domLive_same wr (by decide) _).trans hlive
  refine ⟨((welRefresh_agree _ w).flag_same (f := F.CS_STATUS_VALID) wi (csStatus_ok hw) (by decide)).trans hinvalid, ?_⟩
  rw [State.csInvalidateNow, welRefresh_invalid hlive' hinvalid]
  exact welTo_state ((dropJob_agree _ w).regsWf wi) hw (by decide)

/-- A write of 1 to INVALIDATE. -/
theorem writeReg_csInvalidate {s : State} {q : Requester} {w : Nat} {v : Word} (wr : Regs.wf s.regs = true) (hw : w < 18)
    (h : s.admits q .CS_CTRL w v = true) (hi : bits v 5 1 = 1) :
    let t := s.writeReg q .CS_CTRL w v
    t.flag F.CS_STATUS_VALID w = false ∧ t.welState w = 0 ∧ t.flag F.CS_CTRL_INVALIDATE w = false := by
  intro t
  have hpage : s.pageLive (0x40 + w) = true := by
    obtain ⟨hlive, -⟩ := performs_live (performs_of_admits h)
    rwa [csCtrl_page] at hlive
  have hu := csCommanded_agree s w v
  have wu := hu.regsWf wr
  have hlive : (s.csCommanded w v).domLive .ana = true :=
    (hu.domLive_same wr (by decide) _).trans (domLive_of_welPage hw hpage)
  obtain ⟨hvalid, hoff⟩ := csInvalidateNow_off wu hw hlive
  have hnow : Agree (welRefreshMask ||| 1 <<< (64 + Reg.CS_STATUS.ctorIdx)) (s.csCommanded w v)
      ((s.csCommanded w v).csInvalidateNow w) := State.csInvalidateNow_touch (by decide) (.refl _ _)
  have ht : t = s.taken ((s.csCommanded w v).csInvalidateNow w) := writeReg_csCtrl (i := 5) (k := 3) hw h (by decide) hi
  rw [ht]
  exact ⟨(congrArg (· != 0) (taken_fget s _ _ w)).trans hvalid, (taken_fget s _ _ w).trans hoff,
    (congrArg (· != 0) (taken_fget s _ _ w)).trans
      ((hnow.flag_same (f := F.CS_CTRL_INVALIDATE) wu (csCtrl_ok hw) (by decide)).trans (csCommanded_invalidate v wr hw))⟩

/-! ### A command ends (R215) -/

/-- The command of engine `w` has ended in `t`, with its interrupt. -/
def State.csEnds (t : State) (w : Nat) : Prop :=
  (t.wel1 w).cmd = none ∧ t.flag F.CS_STATUS_ACTIVE w = false ∧ t.fbit F.PAGE_IRQ_SOURCES (0x40 + w) 3 = true

/-- No command runs on engine `w`. -/
def State.csIdle (s : State) (w : Nat) : Prop := (s.wel1 w).cmd = none ∧ s.flag F.CS_STATUS_ACTIVE w = false

/-- The digest of the store of engine `w` is the expected one. -/
def State.csGood (s : State) (w : Nat) : Bool := decide (sha256 (s.wel1 w).storeBytes = s.csExpect w)

/-- The command is noted no more. -/
def State.csEnded (s : State) (w : Nat) : State := (s.setWel w { s.wel1 w with cmd := none }).fsetB F.CS_STATUS_ACTIVE w false

theorem welTo_cmd (s : State) (w st : Nat) : ((s.welTo w st).wel1 w).cmd = (s.wel1 w).cmd := by
  rcases welTo_wel1 s w st with h | ⟨h, -⟩
  · exact congrArg Wel.cmd h
  · exact (congrArg Wel.cmd h).trans rfl

theorem dropJob_cmd (s : State) (w : Nat) : ((s.dropJob w).wel1 w).cmd = (s.wel1 w).cmd := by
  cases h : (s.wel1 w).job with
  | none => rw [dropJob_none h]
  | some j => rw [dropJob_some h, frameLeft_wel1, setWel_wel1, if_pos rfl]

theorem welRefresh_cmd (s : State) (w : Nat) : ((s.welRefresh w).wel1 w).cmd = (s.wel1 w).cmd := by
  unfold State.welRefresh
  extract_lets st home
  split
  · rfl
  split
  · rw [welTo_cmd, dropJob_cmd]
  split
  · exact welTo_cmd _ _ _
  · rfl

theorem csEnded_wel1 (s : State) (w : Nat) : (s.csEnded w).wel1 w = { s.wel1 w with cmd := none } := by
  rw [State.csEnded, wel1_of_wel (fsetB_wel _ _ _ _), setWel_wel1, if_pos rfl]

theorem csEnded_agree (s : State) (w : Nat) : Agree (1 <<< 23 ||| 1 <<< (64 + Reg.CS_STATUS.ctorIdx)) s (s.csEnded w) :=
  ((setWel_agree s w _).mono (by decide)).fsetB (by decide) _ _

theorem Agree.csExpect_same {M : Nat} {s t : State} {w : Nat} (h : Agree M s t) (wr : Regs.wf s.regs = true) (hw : w < 18)
    (hb : M.testBit (64 + Reg.CS_EXPECT.ctorIdx) = false) : t.csExpect w = s.csExpect w := by
  have hreg (k : Nat) (hk : k ∈ List.range 8) : t.reg .CS_EXPECT (8 * w + k) = s.reg .CS_EXPECT (8 * w + k) := by
    have := List.mem_range.mp hk
    exact h.regs wr _ _ (ok_of_lt (by omega : 8 * w + k < 144) (by decide) (by decide)) hb
  unfold State.csExpect
  exact List.flatMap_congr fun k hk => by rw [hreg k hk]

section ended
variable {s : State} {w : Nat} (wr : Regs.wf s.regs = true) (hw : w < 18)
include wr hw

theorem csEnded_idle : (s.csEnded w).csIdle w :=
  ⟨congrArg Wel.cmd (csEnded_wel1 s w), flag_fsetB_same (s := s.setWel w _) false wr (csStatus_ok hw) (by decide)⟩

theorem csEnded_good : (s.csEnded w).csGood w = s.csGood w := by
  rw [State.csGood, State.csGood, (csEnded_agree s w).csExpect_same wr hw (by decide), csEnded_wel1]
  rfl

/-- The other fields of CS_STATUS stand. -/
theorem csEnded_flag {g : Fld} (hreg : g.reg = .CS_STATUS) (h : g.lo + g.width ≤ 1 ∨ 2 ≤ g.lo) :
    (s.csEnded w).flag g w = s.flag g w :=
  flag_fsetB_field (s := s.setWel w _) (f := F.CS_STATUS_ACTIVE) false wr (csStatus_ok hw) hreg h

/-- The interrupt is the last thing that a command does. -/
theorem irq_csEnds (h : s.csIdle w) : (s.irq (0x40 + w) 3).csEnds w := by
  obtain ⟨hcmd, hactive⟩ := h
  have hirq := irq_agree s (0x40 + w) 3
  refine ⟨?_, ?_, irq_sets wr (welPage_lt hw) (welPage_ne hw) (by decide)⟩
  · rw [wel1_of_wel (hirq.wel_same (by decide)), hcmd]
  · exact (hirq.flag_same (f := F.CS_STATUS_ACTIVE) wr (csStatus_ok hw) (by decide)).trans hactive

theorem irq_csField (b : Nat) {g : Fld} (hg : g.reg = .CS_STATUS ∨ g.reg = .CS_ADDR) :
    (s.irq (0x40 + w) b).fget g w = s.fget g w := by
  rcases hg with e | e
  · exact (irq_agree s _ b).fget_same wr (by rw [e]; exact csStatus_ok hw) (by rw [e]; decide)
  · exact (irq_agree s _ b).fget_same wr (by rw [e]; exact csAddr_ok hw) (by rw [e]; decide)

theorem irq_csFlag (b : Nat) {g : Fld} (hg : g.reg = .CS_STATUS) : (s.irq (0x40 + w) b).flag g w = s.flag g w :=
  congrArg (· != 0) (irq_csField wr hw b (.inl hg))

end ended

/-! ### CHECK -/

/-- VALID is set, without a reason and with no patches. -/
def State.csValidated (s : State) (w : Nat) : State :=
  ((s.fsetB F.CS_STATUS_VALID w true).fset F.CS_STATUS_REASON w 0).fset F.CS_PATCHES_COUNT w 0

theorem csChecked_good {s : State} {w : Nat} (h : s.csGood w = true) : s.csChecked w = (s.csValidated w).welRefresh w :=
  if_pos (of_decide_eq_true h)

theorem csChecked_bad {s : State} {w : Nat} (h : s.csGood w = false) : s.csChecked w = s.fset F.CS_STATUS_REASON w 1 :=
  if_neg (of_decide_eq_false h)

theorem csDone_check {s : State} {w : Nat} (hpage : s.pageLive (0x40 + w) = true) (h : (s.wel1 w).cmd = some 1) :
    s.csDone w = ((s.csEnded w).csChecked w).irq (0x40 + w) 3 := by
  simp only [State.csDone, h, hpage, Bool.not_true, Bool.false_eq_true, if_false, if_true, one_ne_zero]
  rfl

section check
variable {s : State} {w : Nat} (wr : Regs.wf s.regs = true) (hw : w < 18)
include wr hw

theorem csValidated_flag {g : Fld} (hreg : g.reg = .CS_STATUS) (h : g.lo + g.width ≤ 4 ∨ 7 ≤ g.lo) :
    (s.csValidated w).flag g w = (s.fsetB F.CS_STATUS_VALID w true).flag g w := by
  have wv := fsetB_wf _ F.CS_STATUS_VALID w true wr
  refine congrArg (· != 0) ?_
  rw [State.csValidated, fget_fset_ne _ F.CS_PATCHES_COUNT g w w 0 (fset_wf _ _ _ _ wv)
    (by rw [hreg]; exact csStatus_ok hw) (Or.inl (by rw [hreg]; decide))]
  exact fget_fset_field _ F.CS_STATUS_REASON g w 0 wv (csStatus_ok hw) hreg h

/-- A digest that is the expected one makes the store valid. -/
theorem csChecked_valid (hidle : s.csIdle w) (h : s.csGood w = true) :
    Regs.wf (s.csChecked w).regs = true ∧ (s.csChecked w).csIdle w ∧ (s.csChecked w).flag F.CS_STATUS_VALID w = true := by
  obtain ⟨hcmd, hactive⟩ := hidle
  have ok := csStatus_ok hw
  have wv : Regs.wf (s.csValidated w).regs = true := fset_wf _ _ _ _ (fset_wf _ _ _ _ (fsetB_wf _ _ _ _ wr))
  have hwel : (s.csValidated w).wel = s.wel := by rw [State.csValidated, fset_wel, fset_wel, fsetB_wel]
  have hrefresh := welRefresh_agree (s.csValidated w) w
  rw [csChecked_good h]
  refine ⟨hrefresh.regsWf wv, ⟨?_, ?_⟩, ?_⟩
  · rw [welRefresh_cmd, wel1_of_wel hwel, hcmd]
  · rw [hrefresh.flag_same (f := F.CS_STATUS_ACTIVE) wv ok (by decide), csValidated_flag wr hw rfl (by decide)]
    exact (flag_fsetB_field (f := F.CS_STATUS_VALID) (g := F.CS_STATUS_ACTIVE) true wr ok rfl (by decide)).trans hactive
  · rw [hrefresh.flag_same (f := F.CS_STATUS_VALID) wv ok (by decide), csValidated_flag wr hw rfl (by decide)]
    exact flag_fsetB_same true wr ok (by decide)

/-- A digest that is not the expected one leaves its reason. -/
theorem csChecked_reason (hidle : s.csIdle w) (h : s.csGood w = false) :
    Regs.wf (s.csChecked w).regs = true ∧ (s.csChecked w).csIdle w ∧
      (s.csChecked w).flag F.CS_STATUS_VALID w = s.flag F.CS_STATUS_VALID w ∧
      (s.csChecked w).fget F.CS_STATUS_REASON w = 1 := by
  obtain ⟨hcmd, hactive⟩ := hidle
  have ok := csStatus_ok hw
  have hfield {g : Fld} (hreg : g.reg = .CS_STATUS) (hg : g.lo + g.width ≤ 4 ∨ 7 ≤ g.lo) :
      (s.fset F.CS_STATUS_REASON w 1).flag g w = s.flag g w :=
    congrArg (· != 0) (fget_fset_field s F.CS_STATUS_REASON g w 1 wr ok hreg hg)
  rw [csChecked_bad h]
  exact ⟨fset_wf _ _ _ _ wr, ⟨(congrArg Wel.cmd (wel1_of_wel (fset_wel _ _ _ _) w)).trans hcmd,
    (hfield rfl (by decide)).trans hactive⟩, hfield rfl (by decide),
    fget_fset_same s F.CS_STATUS_REASON w 1 wr ok (by decide)⟩

/-- A CHECK ends. -/
theorem csDone_check_effect (hpage : s.pageLive (0x40 + w) = true) (h : (s.wel1 w).cmd = some 1) :
    (s.csDone w).csEnds w ∧
      (s.csDone w).flag F.CS_STATUS_VALID w = (s.flag F.CS_STATUS_VALID w || s.csGood w) ∧
      (s.csGood w = false → (s.csDone w).fget F.CS_STATUS_REASON w = 1) := by
  have we := (csEnded_agree s w).regsWf wr
  have hidle := csEnded_idle wr hw
  have hsame := csEnded_good wr hw
  rw [csDone_check hpage h]
  cases hgood : s.csGood w with
  | true =>
    obtain ⟨wc, hidle', hvalid⟩ := csChecked_valid we hw hidle (hsame.trans hgood)
    exact ⟨irq_csEnds wc hw hidle', (irq_csFlag wc hw 3 rfl).trans (hvalid.trans (Bool.or_true _).symm), nofun⟩
  | false =>
    obtain ⟨wc, hidle', hvalid, hreason⟩ := csChecked_reason we hw hidle (hsame.trans hgood)
    refine ⟨irq_csEnds wc hw hidle', ?_, fun _ => (irq_csField wc hw 3 (.inl rfl)).trans hreason⟩
    rw [Bool.or_false, irq_csFlag wc hw 3 rfl]
    exact hvalid.trans (csEnded_flag wr hw rfl (by decide))

end check

/-! ### VERIFY -/

/-- A VERIFY with the expected digest. -/
def State.csMatched (s : State) (w : Nat) : State :=
  (s.setWel w { s.wel1 w with bad := 0 }).fsetB F.CS_STATUS_VERIFY_OK w true

/-- A VERIFY with another digest. -/
def State.csMismatched (s : State) (w : Nat) : State :=
  (s.setWel w { s.wel1 w with bad := (s.wel1 w).bad + 1 }).fsetB F.CS_STATUS_VERIFY_BAD w true

/-- The interrupt of a VERIFY with another digest, and the darn that the second in a row proposes (R453). -/
def State.csMismatchTold (s : State) (w bad : Nat) : State :=
  if 2 ≤ bad then (s.irq (0x40 + w) 4).propose 3 w else s.irq (0x40 + w) 4

theorem csDone_verify_good {s : State} {w : Nat} (hpage : s.pageLive (0x40 + w) = true) (h : (s.wel1 w).cmd = some 2)
    (hgood : (s.csEnded w).csGood w = true) : s.csDone w = ((s.csEnded w).csMatched w).irq (0x40 + w) 3 := by
  have hdigest : sha256 ((s.csEnded w).wel1 w).storeBytes = (s.csEnded w).csExpect w := of_decide_eq_true hgood
  unfold State.csEnded at hdigest
  simp only [State.csDone, h, hpage, Bool.not_true, Bool.false_eq_true, if_false, OfNat.ofNat_ne_zero, OfNat.ofNat_ne_one]
  rw [if_pos hdigest]
  rfl

theorem csDone_verify_bad {s : State} {w : Nat} (hpage : s.pageLive (0x40 + w) = true) (h : (s.wel1 w).cmd = some 2)
    (hgood : (s.csEnded w).csGood w = false) :
    s.csDone w = (((s.csEnded w).csMismatched w).csMismatchTold w (((s.csEnded w).wel1 w).bad + 1)).irq (0x40 + w) 3 := by
  have hdigest : ¬ sha256 ((s.csEnded w).wel1 w).storeBytes = (s.csEnded w).csExpect w := of_decide_eq_false hgood
  unfold State.csEnded at hdigest
  simp only [State.csDone, h, hpage, Bool.not_true, Bool.false_eq_true, if_false, OfNat.ofNat_ne_zero, OfNat.ofNat_ne_one]
  rw [if_neg hdigest]
  rfl

/-- What a proposal may touch. -/
def proposeMask : Nat :=
  0x43e00000000000000000000000000000000000000000000000000000000000000000000000000000000000010000000000000000180000000000080200

theorem csMismatchTold_agree (s : State) (w bad : Nat) : Agree proposeMask s (s.csMismatchTold w bad) := by
  have hirq : Agree proposeMask s (s.irq (0x40 + w) 4) := (irq_agree s _ 4).mono (by decide)
  exact .ite (State.propose_touch (by decide) hirq) hirq

section verify
variable {s : State} {w : Nat} (wr : Regs.wf s.regs = true) (hw : w < 18)
include wr hw

theorem csMatched_effect (hidle : s.csIdle w) :
    Regs.wf (s.csMatched w).regs = true ∧ (s.csMatched w).csIdle w ∧ (s.csMatched w).flag F.CS_STATUS_VERIFY_OK w = true ∧
      (s.csMatched w).flag F.CS_STATUS_VERIFY_BAD w = s.flag F.CS_STATUS_VERIFY_BAD w := by
  obtain ⟨hcmd, hactive⟩ := hidle
  have ok := csStatus_ok hw
  have wm : Regs.wf (s.setWel w { s.wel1 w with bad := 0 }).regs = true := wr
  refine ⟨fsetB_wf _ _ _ _ wm, ⟨?_, ?_⟩, flag_fsetB_same true wm ok (by decide), ?_⟩
  · rw [State.csMatched, wel1_of_wel (fsetB_wel _ _ _ _), setWel_wel1, if_pos rfl, hcmd]
  · exact (flag_fsetB_field (f := F.CS_STATUS_VERIFY_OK) (g := F.CS_STATUS_ACTIVE) true wm ok rfl (by decide)).trans hactive
  · exact flag_fsetB_field (f := F.CS_STATUS_VERIFY_OK) (g := F.CS_STATUS_VERIFY_BAD) true wm ok rfl (by decide)

theorem csMismatched_effect (hidle : s.csIdle w) :
    Regs.wf (s.csMismatched w).regs = true ∧ (s.csMismatched w).csIdle w ∧
      (s.csMismatched w).flag F.CS_STATUS_VERIFY_OK w = s.flag F.CS_STATUS_VERIFY_OK w ∧
      (s.csMismatched w).flag F.CS_STATUS_VERIFY_BAD w = true := by
  obtain ⟨hcmd, hactive⟩ := hidle
  have ok := csStatus_ok hw
  have wm : Regs.wf (s.setWel w { s.wel1 w with bad := (s.wel1 w).bad + 1 }).regs = true := wr
  refine ⟨fsetB_wf _ _ _ _ wm, ⟨?_, ?_⟩, ?_, flag_fsetB_same true wm ok (by decide)⟩
  · rw [State.csMismatched, wel1_of_wel (fsetB_wel _ _ _ _), setWel_wel1, if_pos rfl, hcmd]
  · exact (flag_fsetB_field (f := F.CS_STATUS_VERIFY_BAD) (g := F.CS_STATUS_ACTIVE) true wm ok rfl (by decide)).trans hactive
  · exact flag_fsetB_field (f := F.CS_STATUS_VERIFY_BAD) (g := F.CS_STATUS_VERIFY_OK) true wm ok rfl (by decide)

/-- A VERIFY ends. -/
theorem csDone_verify_effect (hpage : s.pageLive (0x40 + w) = true) (h : (s.wel1 w).cmd = some 2) :
    (s.csDone w).csEnds w ∧
      (s.csDone w).flag F.CS_STATUS_VERIFY_OK w = (s.flag F.CS_STATUS_VERIFY_OK w || s.csGood w) ∧
      (s.csDone w).flag F.CS_STATUS_VERIFY_BAD w = (s.flag F.CS_STATUS_VERIFY_BAD w || !s.csGood w) := by
  have ok := csStatus_ok hw
  have we := (csEnded_agree s w).regsWf wr
  have hidle := csEnded_idle wr hw
  have hsame := csEnded_good wr hw
  cases hgood : s.csGood w with
  | true =>
    obtain ⟨wm, hidle', hok, hbad⟩ := csMatched_effect we hw hidle
    rw [csDone_verify_good hpage h (hsame.trans hgood), Bool.or_true, Bool.not_true, Bool.or_false,
      irq_csFlag wm hw 3 rfl, irq_csFlag wm hw 3 rfl]
    exact ⟨irq_csEnds wm hw hidle', hok, hbad.trans (csEnded_flag wr hw rfl (by decide))⟩
  | false =>
    obtain ⟨wm, ⟨hcmd, hactive⟩, hok, hbad⟩ := csMismatched_effect we hw hidle
    have htold := csMismatchTold_agree ((s.csEnded w).csMismatched w) w (((s.csEnded w).wel1 w).bad + 1)
    have hidle' : State.csIdle _ w := ⟨(congrArg Wel.cmd (wel1_of_wel (htold.wel_same (by decide)) w)).trans hcmd,
      (htold.flag_same (f := F.CS_STATUS_ACTIVE) wm ok (by decide)).trans hactive⟩
    have wt := htold.regsWf wm
    rw [csDone_verify_bad hpage h (hsame.trans hgood), Bool.or_false, Bool.not_false, Bool.or_true,
      irq_csFlag wt hw 3 rfl, irq_csFlag wt hw 3 rfl]
    exact ⟨irq_csEnds wt hw hidle',
      ((htold.flag_same (f := F.CS_STATUS_VERIFY_OK) wm ok (by decide)).trans hok).trans (csEnded_flag wr hw rfl (by decide)),
      (htold.flag_same (f := F.CS_STATUS_VERIFY_BAD) wm ok (by decide)).trans hbad⟩

end verify

/-! ### LOAD that meets a bad record (R217) -/

theorem csBadRecord_congr {s t : State} (he : t.ecc = s.ecc) (hm : t.mem = s.mem) (a n i : Nat) :
    t.csBadRecord a n i = s.csBadRecord a n i := by
  induction n generalizing i with
  | zero => rfl
  | succ n ih => simp only [State.csBadRecord, he, bytes_of_mem hm, ih]

/-- A bad record is one of the image, and its reason is 2 or 3. -/
theorem csBadRecord_bounds {s : State} {a n i j r : Nat} (h : s.csBadRecord a n i = some (j, r)) : j < i + n ∧ r < 8 := by
  induction n generalizing i with
  | zero => cases h
  | succ n ih =>
    unfold State.csBadRecord at h
    extract_lets at h
    split at h
    · cases h
      omega
    split at h
    · cases h
      omega
    · obtain ⟨hj, hr⟩ := ih h
      omega

/-- A LOAD that meets a bad record has read and stored those before it; then it shows where it has stopped, and why. -/
theorem csDone_load {s : State} {w i r : Nat} (wr : Regs.wf s.regs = true) (hw : w < 18) (hpage : s.pageLive (0x40 + w) = true)
    (h : (s.wel1 w).cmd = some 0)
    (hbad : s.csBadRecord (sramBase 2 + s.fget F.CS_SRC_OFFSET w * 32) 2048 0 = some (i, r)) :
    ∃ u, s.csDone w = ((u.fset F.CS_ADDR_ADDR w i).fset F.CS_STATUS_REASON w r).irq (0x40 + w) 3 ∧
      Agree (ownReadMask ||| 1 <<< 23) (s.csEnded w) u ∧ (u.wel1 w).cmd = none := by
  have hended := csEnded_agree s w
  have hsrc : (s.csEnded w).fget F.CS_SRC_OFFSET w = s.fget F.CS_SRC_OFFSET w :=
    hended.fget_same wr (ok_of_lt hw (by decide) (by decide)) (by decide)
  have hstop : (s.csEnded w).csBadRecord (sramBase 2 + (s.csEnded w).fget F.CS_SRC_OFFSET w * 32) 2048 0 = some (i, r) := by
    rw [csBadRecord_congr (hended.ecc_same (by decide)) (hended.mem_same (by decide)), hsrc, hbad]
  unfold State.csEnded at hstop
  simp only [State.csDone, h, hpage, Bool.not_true, Bool.false_eq_true, if_false, if_true, hstop]
  have hread (a n : Nat) := sramOwnRead_agree (s.csEnded w) (blockSource (0x40 + w)) a n
  refine ⟨_, rfl, ?_, ?_⟩
  · exact State.setWel_touch (by decide) ((hread _ _).mono (by decide))
  · rw [setWel_wel1, if_pos rfl]
    refine (congrArg Wel.cmd (wel1_of_wel ((hread _ _).wel_same (by decide)) w)).trans ?_
    rw [csEnded_wel1]

/-- A LOAD that meets a bad record ends there. -/
theorem csDone_load_effect {s : State} {w i r : Nat} (wr : Regs.wf s.regs = true) (hw : w < 18)
    (hpage : s.pageLive (0x40 + w) = true) (h : (s.wel1 w).cmd = some 0)
    (hbad : s.csBadRecord (sramBase 2 + s.fget F.CS_SRC_OFFSET w * 32) 2048 0 = some (i, r)) :
    (s.csDone w).csEnds w ∧ (s.csDone w).fget F.CS_ADDR_ADDR w = i ∧ (s.csDone w).fget F.CS_STATUS_REASON w = r ∧
      (s.csDone w).flag F.CS_STATUS_VALID w = s.flag F.CS_STATUS_VALID w := by
  obtain ⟨hi, hr⟩ := csBadRecord_bounds hbad
  obtain ⟨u, hdone, hu, hcmd⟩ := csDone_load wr hw hpage h hbad
  have ok := csStatus_ok hw
  have we := (csEnded_agree s w).regsWf wr
  have wu := hu.regsWf we
  have wa := fset_wf u F.CS_ADDR_ADDR w i wu
  have wx := fset_wf _ F.CS_STATUS_REASON w r wa
  have hfield {g : Fld} (hreg : g.reg = .CS_STATUS) (hg : g.lo + g.width ≤ 4 ∨ 7 ≤ g.lo) :
      ((u.fset F.CS_ADDR_ADDR w i).fset F.CS_STATUS_REASON w r).flag g w = (s.csEnded w).flag g w := by
    refine congrArg (· != 0) ?_
    rw [fget_fset_field _ F.CS_STATUS_REASON g w r wa ok hreg hg, fget_fset_ne _ F.CS_ADDR_ADDR g w w i wu (by rwa [hreg])
      (Or.inl (by rw [hreg]; decide)), hu.fget_same we (by rwa [hreg]) (by rw [hreg]; decide)]
  obtain ⟨-, hactive⟩ := csEnded_idle wr hw
  rw [hdone, irq_csField wx hw 3 (.inr rfl), irq_csField wx hw 3 (.inl rfl), irq_csFlag wx hw 3 rfl]
  refine ⟨irq_csEnds wx hw ⟨?_, (hfield rfl (by decide)).trans hactive⟩, ?_, ?_,
    (hfield (g := F.CS_STATUS_VALID) rfl (by decide)).trans (csEnded_flag wr hw rfl (by decide))⟩
  · rw [wel1_of_wel ((fset_wel _ _ _ _).trans (fset_wel _ _ _ _)), hcmd]
  · rw [fget_fset_ne _ F.CS_STATUS_REASON F.CS_ADDR_ADDR w w r wa (csAddr_ok hw) (Or.inl (by decide)),
      fget_fset_same u F.CS_ADDR_ADDR w i wu (csAddr_ok hw) (by decide)]
    exact Nat.mod_eq_of_lt (lt_of_lt_of_le hi (by decide))
  · rw [fget_fset_same _ F.CS_STATUS_REASON w r wa ok (by decide)]
    exact Nat.mod_eq_of_lt hr

/-! ### A swap is asked for (R219) -/

/-- A write of 1 to SWAP stands; the active half stays. -/
theorem writeReg_tblSwap {s : State} {q : Requester} {w : Nat} {v : Word} (wr : Regs.wf s.regs = true) (hw : w < 18)
    (h : s.admits q .WEL_TBL_CTRL w v = true) (hv : bits v 0 1 = 1) :
    let t := s.writeReg q .WEL_TBL_CTRL w v
    t.flag F.WEL_TBL_CTRL_SWAP w = true ∧ t.fget F.WEL_TBL_STATUS_HALF w = s.fget F.WEL_TBL_STATUS_HALF w ∧
      t.fget F.WEL_TBL_CTRL_FSEL w = bits v 1 2 := by
  intro t
  have ok : Reg.WEL_TBL_CTRL.ok w = true := ok_of_lt hw (by decide) (by decide)
  have ht : t = s.taken (s.merged .WEL_TBL_CTRL w v) := writeReg_unstaged (f := id) ok h rfl (by decide) rfl
  have hreg : t.reg .WEL_TBL_CTRL w = mergeWord .WEL_TBL_CTRL (s.reg .WEL_TBL_CTRL w) v := by
    rw [ht, reg_of_regs (taken_regs _ _), merged_reg v wr ok]
  refine ⟨?_, ?_, ?_⟩
  · exact flag_of_written (f := F.WEL_TBL_CTRL_SWAP) hreg (d := ⟨"SWAP", 0, 1, .w1s, 0, []⟩) (by decide) ⟨rfl, rfl⟩
      ⟨rfl, rfl⟩ hv
  · rw [ht, taken_fget]
    exact (merged_agree (M := 1 <<< (64 + Reg.WEL_TBL_CTRL.ctorIdx)) s (by decide) w v).fget_same wr
      (ok_of_lt hw (by decide) (by decide)) (by decide)
  · exact (congrArg (bits · 1 2) hreg).trans
      (bits_mergeWord (f := ⟨"FSEL", 1, 2, .rw, 0, []⟩) _ v (by decide) (fun _ _ => rfl))

/-! ### The statement -/

/-- Settles O54: each row is a write whose effect is that of its register, or the end of the command that runs. -/
theorem welutStores : Obligations.WelutStores := by
  unfold Obligations.WelutStores
  intro s q v w hwf e addr moved word begun ended good
  have wr : Regs.wf s.regs = true := State.wf_regs hwf
  have hw := w.isLt
  have hset (i : Nat) (hi : bits (maskOf i 1) i 1 = 1) : bits (v ||| maskOf i 1) i 1 = 1 := bits_or_set v hi
  refine ⟨fun h => ⟨_, rfl, writeReg_csData5 wr hw h⟩, fun h => ⟨_, rfl, readReg_csData5 wr hw h⟩, fun h => ?_, fun h => ?_,
    fun h => ?_, fun h => ⟨_, rfl, writeReg_csInvalidate wr hw h (hset 5 (by decide))⟩, fun hpage => ⟨fun hcmd => ?_,
    fun hcmd => ?_, fun i r hcmd hbad => ?_⟩, fun h => ?_⟩
  · exact ⟨_, rfl, writeReg_csStart (k := 0) wr hw h (by decide) (hset 0 (by decide)) (by decide)⟩
  · exact ⟨_, rfl, writeReg_csStart (k := 1) wr hw h (by decide) (hset 1 (by decide)) (by decide)⟩
  · exact ⟨_, rfl, writeReg_csStart (k := 2) wr hw h (by decide) (hset 2 (by decide)) (by decide),
      writeReg_csVerify wr hw h (hset 2 (by decide))⟩
  · exact ⟨_, rfl, csDone_check_effect wr hw hpage hcmd⟩
  · exact ⟨_, rfl, csDone_verify_effect wr hw hpage hcmd⟩
  · exact ⟨_, rfl, csDone_load_effect wr hw hpage hcmd hbad⟩
  · refine ⟨_, rfl, ?_⟩
    rw [← bits_or_clear (lo := 1) (w := 2) v (m := maskOf 0 1) (by decide)]
    exact writeReg_tblSwap wr hw h (hset 0 (by decide))

end Sys2Proof.Machine
end

section
/-!
PROOF. The freeze groups: that a read captures, what a frozen capture answers, and how a capture ends (R237, R238).
-/

namespace Sys2Proof.Machine

/-! ### The groups -/

/-- The members and the release register of a group exist, its stale flag is a field that no pulse touches, and its
interrupt bit lies in a page other than EVR0. -/
def FreezeGroup.sound (g : FreezeGroup) : Bool :=
  let f := g.stale.1
  g.members.all (fun m => m.1.ok m.2) && g.release.1.ok g.release.2 && f.reg.ok g.stale.2 &&
    decide (f.lo + f.width ≤ 32 ∧ f.width ≠ 0) && !pulseMask.testBit (64 + f.reg.ctorIdx) &&
    decide (g.key / 0x1000 < 256 ∧ g.key / 0x1000 ≠ 0x08 ∧ staleIrq f g.stale.2 < 31)

/-- The groups of one kind, of index 0 to `c - 1`, are sound; a stale flag of its own has each where its array has several
registers. -/
def groupsSound (rs : List Reg) (last : Reg) (stale : Fld) (c : Nat) : Bool :=
  (List.range c).all (fun n => (groupOf rs last n stale (if stale.reg.count = 1 then 0 else n)).all FreezeGroup.sound)

theorem sound_of_groupOf {rs : List Reg} {last : Reg} {stale : Fld} {c k n : Nat} {g : FreezeGroup} (hn : n < c)
    (hk : k = if stale.reg.count = 1 then 0 else n) (h : groupsSound rs last stale c = true)
    (hg : groupOf rs last n stale k = some g) : g.sound = true := by
  have hall := List.all_eq_true.mp h n (List.mem_range.mpr hn)
  rw [← hk, hg] at hall
  exact hall

/-- The group of a register that exists is sound. -/
theorem freezeGroup_sound {s : State} {r : Reg} {n : Nat} {g : FreezeGroup} (ok : r.ok n = true)
    (h : s.freezeGroup r n = some g) : g.sound = true := by
  have hn := Reg.ok_lt ok
  unfold State.freezeGroup at h
  extract_lets ang tach seam epoch str rl line dig stamp tick raw cal time bnum at h
  split at h
  case h_19 => exact sound_of_groupOf hn rfl (by decide +kernel) (Option.ite_none_right_eq_some.mp h).2
  case h_20 => exact sound_of_groupOf hn rfl (by decide +kernel) (Option.ite_none_right_eq_some.mp h).2
  case h_21 => exact sound_of_groupOf hn rfl (by decide +kernel) (Option.ite_none_right_eq_some.mp h).2
  case h_38 => cases h
  all_goals exact sound_of_groupOf hn rfl (by decide +kernel) h

theorem sound_iff (g : FreezeGroup) : g.sound = true ↔
    (∀ m ∈ g.members, m.1.ok m.2 = true) ∧ g.release.1.ok g.release.2 = true ∧ g.stale.1.reg.ok g.stale.2 = true ∧
      (g.stale.1.lo + g.stale.1.width ≤ 32 ∧ g.stale.1.width ≠ 0) ∧
      pulseMask.testBit (64 + g.stale.1.reg.ctorIdx) = false ∧
      g.key / 0x1000 < 256 ∧ g.key / 0x1000 ≠ 0x08 ∧ staleIrq g.stale.1 g.stale.2 < 31 := by
  simp only [FreezeGroup.sound, Bool.and_eq_true, List.all_eq_true, decide_eq_true_eq, Bool.not_eq_true', and_assoc]

/-! ### Captures -/

/-- The capture of group `g` for requester number `who` at this moment. -/
def State.captured (s : State) (g : FreezeGroup) (who : Nat) : FreezeCapture :=
  ⟨g.key, who, g.members.map (fun m => (m.1.addr m.2, s.capWord m.1 m.2))⟩

/-- The word that a capture holds for address `a`. -/
def FreezeCapture.word (c : FreezeCapture) (a : Nat) : Word := ((c.words.find? (fun x => x.1 == a)).map (·.2)).getD 0#32

/-- The capture of group `g` for requester number `who` is dropped. -/
def State.thawed (s : State) (g : FreezeGroup) (who : Nat) : State :=
  { s with freeze := s.freeze.filter (fun c => !(c.group == g.key && c.who == who)) }

/-- A capture holds for each member what it held. -/
theorem captured_word {s : State} {g : FreezeGroup} (hs : g.sound = true) (who : Nat) {r : Reg} {n : Nat}
    (hm : (r, n) ∈ g.members) : (s.captured g who).word (r.addr n) = s.capWord r n := by
  obtain ⟨hmember, -⟩ := (sound_iff g).mp hs
  obtain ⟨m, hfind⟩ : ∃ m, g.members.find? (fun m => m.1.addr m.2 == r.addr n) = some m :=
    Option.isSome_iff_exists.mp (List.find?_isSome.mpr ⟨(r, n), hm, beq_self_eq_true _⟩)
  have haddr : m.1.addr m.2 = r.addr n := by simpa using List.find?_some hfind
  obtain ⟨hr, hn⟩ := addr_inj (Reg.ok_lt (hmember m (List.mem_of_find?_eq_some hfind))) (Reg.ok_lt (hmember _ hm)) haddr
  simp only [FreezeCapture.word, State.captured, List.find?_map, Function.comp_def, hfind, Option.map_some, Option.getD_some, hr, hn]

theorem frozen_thawed (s : State) (g : FreezeGroup) (who : Nat) : (s.thawed g who).frozen g who = none := by
  simp only [State.frozen, State.thawed, List.find?_eq_none, List.mem_filter]
  rintro c ⟨-, hc⟩ hwho
  rw [hwho] at hc
  cases hc

theorem frozen_append {s u : State} {g : FreezeGroup} {who : Nat} (hfree : s.frozen g who = none)
    (hu : u.freeze = s.freeze ++ [s.captured g who]) : u.frozen g who = some (s.captured g who) := by
  rw [State.frozen] at hfree ⊢
  rw [hu, List.find?_append, hfree]
  simp [State.captured]

/-! ### Reads of members (R237) -/

/-- A member that is not the release register does not lie at the address that names the group. -/
theorem addr_ne_key {g : FreezeGroup} (hs : g.sound = true) {r : Reg} {n : Nat} (ok : r.ok n = true)
    (hne : (r, n) ≠ g.release) : r.addr n ≠ g.key := fun h => by
  obtain ⟨-, hrelease, -⟩ := (sound_iff g).mp hs
  obtain ⟨hr, hn⟩ := addr_inj (Reg.ok_lt ok) (Reg.ok_lt hrelease) h
  exact hne (Prod.ext hr hn)

section read
variable {s : State} {g : FreezeGroup} {who n : Nat} {r : Reg}

/-- A read without a frozen capture captures the group. -/
theorem freezeRead_captures (hfree : s.frozen g who = none) (hne : r.addr n ≠ g.key) :
    s.freezeRead g who r n = ({ s with freeze := s.freeze ++ [s.captured g who] }, s.capWord r n) := by
  simp only [State.freezeRead, hfree, hne, decide_false]
  rfl

/-- A read with a frozen capture answers from it, and that of the release register drops it. -/
theorem freezeRead_frozen {c : FreezeCapture} (hc : s.frozen g who = some c) :
    s.freezeRead g who r n = (if r.addr n = g.key then s.thawed g who else s, c.word (r.addr n)) := by
  simp only [State.freezeRead, hc, decide_eq_true_eq]
  split <;> rfl

end read

/-- A read of a member of a group is a read of its capture. -/
theorem readReg_freeze {s : State} {q : Requester} {g : FreezeGroup} {r : Reg} {n : Nat} (ok : r.ok n = true)
    (hg : s.freezeGroup r n = some g) (hq : s.performs q (r.page n) = true) :
    s.readReg q r n = { (s.freezeRead g (s.who q).cap r n).1 with
      answer := .ok (s.freezeRead g (s.who q).cap r n).2.toNat } := by
  rw [readReg_performs s q r n ok hq]
  simp only [State.regRead, hg]

/-! ### A capture that is not released in time (R238) -/

theorem freezeStale_eq {s : State} {q : Requester} {g : FreezeGroup} {r : Reg} {n : Nat} (ok : r.ok n = true)
    (hg : s.freezeGroup r n = some g) (hc : (s.frozen g (s.who q).cap).isSome = true) :
    s.freezeStale q (r.addr n) =
      ((s.thawed g (s.who q).cap).fsetB g.stale.1 g.stale.2 true).irq (g.key / 0x1000) (staleIrq g.stale.1 g.stale.2) := by
  have hnone : (s.frozen g (s.who q).cap).isNone = false := by rwa [Option.isNone_eq_false_iff]
  simp only [State.freezeStale, regAt_addr ok, hg, hnone, Bool.false_eq_true, if_false]
  rfl

/-- Settles O31: a read without a capture appends one, which every later read of a member finds, and which the read of the
release register and the limit of time drop. -/
theorem freezeGroups : Obligations.FreezeGroups := by
  unfold Obligations.FreezeGroups
  refine ⟨fun s q g r n ok hg hne hq hfree => ?_, fun s q g r n hwf ok hg hc => ?_⟩
  · have hs := freezeGroup_sound ok hg
    have hread := readReg_freeze ok hg hq
    rw [freezeRead_captures hfree (addr_ne_key hs ok hne)] at hread
    refine ⟨_, congrArg Host.Outcome.next hread, rfl, rfl, fun p hp => ?_, fun u r' n' hu ok' hq' hg' hm hcap => ?_⟩
    · cases p with
      | freeze | answer => exact absurd (by decide) hp
      | _ => rfl
    · have hread' := readReg_freeze ok' hg' hq'
      rw [hcap, freezeRead_frozen (frozen_append hfree hu), captured_word hs _ hm] at hread'
      refine ⟨⟨_, congrArg Host.Outcome.next hread', rfl⟩, fun hrel => ⟨_, congrArg Host.Outcome.next hread', rfl, ?_⟩⟩
      have hkey : r'.addr n' = g.key := by rw [FreezeGroup.key, ← hrel]
      rw [if_pos hkey]
      exact frozen_thawed u g (s.who q).cap
  · obtain ⟨-, -, okf, hwidth, hpulse, hpage, h8, hirq⟩ := (sound_iff g).mp (freezeGroup_sound ok hg)
    have w : Regs.wf (s.thawed g (s.who q).cap).regs = true := State.wf_regs hwf
    have wf := fsetB_wf _ g.stale.1 g.stale.2 true w
    refine ⟨_, congrArg Host.Outcome.next (freezeStale_eq ok hg hc), ?_, ?_, irq_sets wf hpage h8 hirq⟩
    · rw [State.frozen, (irq_agree _ _ _).freeze_same (by decide), fsetB_freeze]
      exact frozen_thawed s g (s.who q).cap
    · rw [(irq_agree _ _ _).flag_same wf okf hpulse]
      exact flag_fsetB_same true w okf hwidth

end Sys2Proof.Machine
end

section
/-!
PROOF. The commands of a basket slot (R222, R223, R225, R242): what an abort shows, what a write to BS_CTRL or BS_VALUE leaves, how
a validation ends, and how BS_RDATA moves on.
-/

namespace Sys2Proof.Machine

/-! ### An abort -/

theorem bsState_ok {n : Nat} (hn : n < 8) : Reg.BS_STATE.ok n = true := ok_of_lt hn (by decide) (by decide)

theorem bsInfo_ok {n : Nat} (hn : n < 8) : Reg.BS_INFO.ok n = true := ok_of_lt hn (by decide) (by decide)

/-- FAIL_ENTRY of slot `n` shows the failing entry, if there is one. -/
def State.failShown (s : State) (n : Nat) : Option Nat → State
  | some i => s.fset F.BS_INFO_FAIL_ENTRY n i
  | none => s

/-- STATE and REASON of slot `n` show that it is ABORTED. -/
def State.reasonShown (s : State) (n reason : Nat) : State := (s.fset F.BS_STATE_STATE n 4).fset F.BS_STATE_REASON n reason

/-- The registers show that slot `n` is ABORTED. -/
def State.abortShown (s : State) (n reason : Nat) (fail : Option Nat) : State :=
  ((s.reasonShown n reason).failShown n fail).fsetBit F.BASKET_STATUS_ARMED 0 n false

/-- The validation of slot `n` is over. -/
def State.armingOver (s : State) (n : Nat) : State := (s.setSlot n { s.slot n with arming := false }).bsBusy

/-- The slots, and BUSY of a page. -/
def busyMask : Nat := 1 <<< 10 ||| 1 <<< (64 + Reg.PAGE_STATUS.ctorIdx)

/-- What an outcome that the twins compare may touch. -/
def outcomeMask : Nat :=
  pulseMask ||| 1 <<< 25 ||| 1 <<< (64 + Reg.PAIR_STATUS.ctorIdx) ||| 1 <<< (64 + Reg.PAIR_DIV_INFO.ctorIdx)

/-- The registers that show an abort: BS_STATE, BS_INFO, BASKET_STATUS. -/
def abortMask : Nat :=
  1 <<< (64 + Reg.BS_STATE.ctorIdx) ||| 1 <<< (64 + Reg.BS_INFO.ctorIdx) ||| 1 <<< (64 + Reg.BASKET_STATUS.ctorIdx)

theorem bsAborted_eq (s : State) (n reason : Nat) (fail : Option Nat) :
    s.bsAborted n reason fail =
      let u := (s.abortShown n reason fail).armingOver n
      if (u.slot n).twin = 0 then u else u.ownOutcome n 1 reason 0 := by
  cases fail <;> rfl

theorem armingOver_agree (s : State) (n : Nat) : Agree busyMask s (s.armingOver n) :=
  State.bsBusy_touch (by decide) (State.setSlot_touch (by decide) (.refl _ s))

theorem failShown_agree (s : State) (n : Nat) (fail : Option Nat) :
    Agree (1 <<< (64 + Reg.BS_INFO.ctorIdx)) s (s.failShown n fail) := by
  cases fail with
  | none => exact .refl _ s
  | some i => exact (Agree.refl _ s).fset (by decide) _ _

theorem reasonShown_agree (s : State) (n reason : Nat) : Agree (1 <<< (64 + Reg.BS_STATE.ctorIdx)) s (s.reasonShown n reason) :=
  ((Agree.refl _ s).fset (by decide) _ _).fset (by decide) _ _

theorem abortShown_agree (s : State) (n reason : Nat) (fail : Option Nat) : Agree abortMask s (s.abortShown n reason fail) :=
  (((reasonShown_agree s n reason).mono (by decide)).trans
    ((failShown_agree _ n fail).mono (by decide))).fsetBit (by decide) _ _ _

theorem bsAborted_agree_shown (s : State) (n reason : Nat) (fail : Option Nat) :
    Agree (busyMask ||| outcomeMask) (s.abortShown n reason fail) (s.bsAborted n reason fail) := by
  have hover := (armingOver_agree (s.abortShown n reason fail) n).mono (M := busyMask ||| outcomeMask) (by decide)
  rw [bsAborted_eq]
  exact .ite hover (State.ownOutcome_touch (by decide) hover)

theorem bsAbort_agree_aborted (s : State) (n reason : Nat) (fail : Option Nat) :
    Agree pulseMask (s.bsAborted n reason fail) (s.bsAbort n reason fail) :=
  State.pulse_touch (by decide) (irq_agree _ _ _)

/-- Slot `n` shows that it is ABORTED with `reason`. -/
def State.showsAbort (t : State) (n reason : Nat) : Prop :=
  t.fget F.BS_STATE_STATE n = 4 ∧ t.fget F.BS_STATE_REASON n = reason ∧ t.fbit F.BASKET_STATUS_ARMED 0 n = false

/-- It shows so in every state with the same registers of the slot. -/
theorem State.showsAbort.of_agree {M n reason : Nat} {t u : State} (ht : t.showsAbort n reason) (h : Agree M t u)
    (w : Regs.wf t.regs = true) (hn : n < 8) (hM : M &&& abortMask = 0) : u.showsAbort n reason := by
  obtain ⟨hstate, hreason, harmed⟩ := ht
  have hbit : M.testBit (64 + Reg.BS_STATE.ctorIdx) = false := testBit_of_apart hM (by decide)
  exact ⟨(h.fget_same (f := F.BS_STATE_STATE) w (bsState_ok hn) hbit).trans hstate,
    (h.fget_same (f := F.BS_STATE_REASON) w (bsState_ok hn) hbit).trans hreason,
    (h.fbit_same (f := F.BASKET_STATUS_ARMED) w (by decide) (testBit_of_apart hM (by decide))).trans harmed⟩

theorem bsAborted_wf {s : State} {n reason : Nat} (fail : Option Nat) (w : Regs.wf s.regs = true) :
    Regs.wf (s.bsAborted n reason fail).regs = true :=
  (bsAborted_agree_shown s n reason fail).regsWf ((abortShown_agree s n reason fail).regsWf w)

theorem bsAbort_wf {s : State} {n reason : Nat} (fail : Option Nat) (w : Regs.wf s.regs = true) :
    Regs.wf (s.bsAbort n reason fail).regs = true :=
  (bsAbort_agree_aborted s n reason fail).regsWf (bsAborted_wf fail w)

section abort
variable {s : State} {n reason : Nat} (w : Regs.wf s.regs = true) (hn : n < 8)
include w hn

theorem abortShown_shows (fail : Option Nat) (hr : reason < 16) : (s.abortShown n reason fail).showsAbort n reason := by
  have ok := bsState_ok hn
  have w1 : Regs.wf (s.fset F.BS_STATE_STATE n 4).regs = true := fset_wf _ _ _ _ w
  have w2 : Regs.wf (s.reasonShown n reason).regs = true := fset_wf _ _ _ _ w1
  have h : Agree (1 <<< (64 + Reg.BS_INFO.ctorIdx) ||| 1 <<< (64 + Reg.BASKET_STATUS.ctorIdx)) (s.reasonShown n reason)
      (s.abortShown n reason fail) := ((failShown_agree _ n fail).mono (by decide)).fsetBit (by decide) _ _ _
  refine ⟨?_, ?_, ?_⟩
  · rw [h.fget_same (f := F.BS_STATE_STATE) w2 ok (by decide), State.reasonShown,
      fget_fset_field _ F.BS_STATE_REASON F.BS_STATE_STATE n _ w1 ok rfl (by decide)]
    exact fget_fset_same s F.BS_STATE_STATE n 4 w ok (by decide)
  · rw [h.fget_same (f := F.BS_STATE_REASON) w2 ok (by decide), State.reasonShown,
      fget_fset_same _ F.BS_STATE_REASON n _ w1 ok (by decide)]
    exact Nat.mod_eq_of_lt hr
  · exact fbit_fsetBit_same false ((failShown_agree _ n fail).regsWf w2) (by decide) (by simpa [F.BASKET_STATUS_ARMED] using by omega)

theorem abortShown_failEntry {i : Nat} (hi : i < 1024) : (s.abortShown n reason (some i)).fget F.BS_INFO_FAIL_ENTRY n = i := by
  have w2 := (reasonShown_agree s n reason).regsWf w
  have h : Agree (1 <<< (64 + Reg.BASKET_STATUS.ctorIdx)) ((s.reasonShown n reason).fset F.BS_INFO_FAIL_ENTRY n i)
      (s.abortShown n reason (some i)) := (Agree.refl _ _).fsetBit (by decide) _ _ _
  rw [h.fget_same (f := F.BS_INFO_FAIL_ENTRY) (fset_wf _ _ _ _ w2) (bsInfo_ok hn) (by decide),
    fget_fset_same _ F.BS_INFO_FAIL_ENTRY n _ w2 (bsInfo_ok hn) (by decide)]
  exact Nat.mod_eq_of_lt hi

theorem bsAborted_shows (fail : Option Nat) (hr : reason < 16) : (s.bsAborted n reason fail).showsAbort n reason :=
  (abortShown_shows w hn fail hr).of_agree (bsAborted_agree_shown s n reason fail) ((abortShown_agree s n reason fail).regsWf w)
    hn (by decide)

theorem bsAborted_failEntry {i : Nat} (hi : i < 1024) : (s.bsAborted n reason (some i)).fget F.BS_INFO_FAIL_ENTRY n = i :=
  ((bsAborted_agree_shown s n reason (some i)).fget_same (f := F.BS_INFO_FAIL_ENTRY)
    ((abortShown_agree s n reason (some i)).regsWf w) (bsInfo_ok hn) (by decide)).trans (abortShown_failEntry w hn hi)

end abort

/-- Slot `n` is ABORTED with `reason`, and its interrupt bit is set. -/
def State.slotAborted (t : State) (n reason : Nat) : Prop :=
  t.fget F.BS_STATE_STATE n = 4 ∧ t.fget F.BS_STATE_REASON n = reason ∧ t.fbit F.BASKET_STATUS_ARMED 0 n = false ∧
    t.fbit F.PAGE_IRQ_SOURCES 0x0B (8 + n) = true

/-- An abort outside a press window shows in the registers and raises the interrupt. -/
theorem bsAbort_slotAborted {s : State} {n reason : Nat} (w : Regs.wf s.regs = true) (hn : n < 8) (fail : Option Nat)
    (hr : reason < 16) : (s.bsAbort n reason fail).slotAborted n reason := by
  have wa := bsAborted_wf (n := n) (reason := reason) fail w
  obtain ⟨hstate, hreason, harmed⟩ :=
    (bsAborted_shows w hn fail hr).of_agree (bsAbort_agree_aborted s n reason fail) wa hn (by decide)
  refine ⟨hstate, hreason, harmed, ?_⟩
  have wi : Regs.wf ((s.bsAborted n reason fail).irq 0x0B (8 + n)).regs = true := (irq_agree _ _ _).regsWf wa
  exact (fbit_of_reg (f := F.PAGE_IRQ_SOURCES) (pulse_pageIrq wi (by decide) (by decide) _) _).trans
    (irq_sets wa (by decide) (by decide) (by omega))

theorem bsAbort_failEntry {s : State} {n reason i : Nat} (w : Regs.wf s.regs = true) (hn : n < 8) (hi : i < 1024) :
    (s.bsAbort n reason (some i)).fget F.BS_INFO_FAIL_ENTRY n = i :=
  ((bsAbort_agree_aborted s n reason (some i)).fget_same (f := F.BS_INFO_FAIL_ENTRY) (bsAborted_wf _ w) (bsInfo_ok hn)
    (by decide)).trans (bsAborted_failEntry w hn hi)

/-- It shows so in every state with the same registers of the slot and interrupt bits. -/
theorem State.slotAborted.of_agree {M n reason : Nat} {t u : State} (ht : t.slotAborted n reason) (h : Agree M t u)
    (w : Regs.wf t.regs = true) (hn : n < 8) (hM : M &&& (abortMask ||| 1 <<< (64 + Reg.PAGE_IRQ.ctorIdx)) = 0) :
    u.slotAborted n reason := by
  obtain ⟨hstate, hreason, harmed, hirq⟩ := ht
  have hM' : M &&& abortMask = 0 := by
    rw [Nat.and_or_distrib_left] at hM
    exact (Nat.or_eq_zero_iff.mp hM).1
  have hshows : u.showsAbort n reason := State.showsAbort.of_agree ⟨hstate, hreason, harmed⟩ h w hn hM'
  obtain ⟨hstate', hreason', harmed'⟩ := hshows
  exact ⟨hstate', hreason', harmed', (h.fbit_same (f := F.PAGE_IRQ_SOURCES) w (pageIrq_ok (by decide))
    (testBit_of_apart hM (by decide))).trans hirq⟩

/-- It is still so once the write that aborted it is taken. -/
theorem State.slotAborted.taken {n reason : Nat} {s t : State} (ht : t.slotAborted n reason) (w : Regs.wf t.regs = true)
    (hn : n < 8) : (s.taken t).slotAborted n reason := ht.of_agree (taken_agree s t) w hn (by decide)

/-! ### A write to BS_VALUE (R222) -/

theorem writeReg_bsValue {s : State} {q : Requester} {n : Nat} {v : Word} (hn : n < 8) (h : s.admits q .BS_VALUE n v = true) :
    s.writeReg q .BS_VALUE n v = s.taken (s.bsAppend n (s.who q) v) :=
  writeReg_port (ok_of_lt hn (by decide) (by decide)) h rfl

theorem bsAppend_full {s : State} {n : Nat} (w : Who) (v : Word) (h : 512 ≤ (s.slot n).entries.length) :
    s.bsAppend n w v = s.bsAbort n 6 none := if_pos h

/-- The first value makes `w` the owner of slot `n`. -/
def State.ownerTaken (s : State) (n : Nat) (w : Who) : State :=
  if (s.slot n).entries = [] then (s.fset F.BS_STATE_OWNER n w.id).fsetB F.BS_STATE_SEC n w.secure else s

theorem ownerTaken_agree (s : State) (n : Nat) (w : Who) :
    Agree (1 <<< (64 + Reg.BS_STATE.ctorIdx)) s (s.ownerTaken n w) :=
  .ite (((Agree.refl _ s).fset (by decide) _ _).fsetB (by decide) _ _) (.refl _ s)

/-- A value appends an entry with the address and mask that stand. -/
theorem bsAppend_room {s : State} {n : Nat} (w : Who) (v : Word) (wr : Regs.wf s.regs = true) (hn : n < 8)
    (h : (s.slot n).entries.length < 512) :
    s.bsAppend n w v =
      ((s.ownerTaken n w).setSlot n
        { s.slot n with entries := (s.slot n).entries ++ [⟨s.reg .BS_ADDR n, s.reg .BS_MASK n, v⟩] }).fset F.BS_STATE_COUNT n
          ((s.slot n).entries.length + 1) := by
  have hagree := ownerTaken_agree s n w
  have haddr := hagree.regs wr .BS_ADDR n (ok_of_lt hn (by decide) (by decide)) (by decide)
  have hmask := hagree.regs wr .BS_MASK n (ok_of_lt hn (by decide) (by decide)) (by decide)
  rw [← haddr, ← hmask, State.bsAppend, if_neg (Nat.not_le.mpr h)]
  simp only [List.isEmpty_iff]
  rfl

/-! ### A write to BS_CTRL (R223) -/

/-- The write is stored, and then its command is carried out. -/
theorem writeReg_bsCtrl {s : State} {q : Requester} {n : Nat} {v : Word} (hn : n < 8) (h : s.admits q .BS_CTRL n v = true) :
    s.writeReg q .BS_CTRL n v = s.taken ((s.landed .BS_CTRL n v).bsCommand n (bits v 0 3)) :=
  writeReg_taken (ok_of_lt hn (by decide) (by decide)) h rfl

theorem landed_bsCtrl_agree (s : State) (n : Nat) (v : Word) : Agree landMask s (s.landed .BS_CTRL n v) :=
  noteStaged_agree s .BS_CTRL n _

/-- The word of a command carries it in CMD. -/
theorem bits_bsWord {c : Nat} (hc : c < 8) (m : Bool) : bits (bsWord c m) 0 3 = c := by
  interval_cases c <;> cases m <;> rfl

theorem bsCancel_agree (s : State) (n : Nat) :
    Agree (1 <<< 25) s (if (s.slot n).twin = 1 then s.basketMsg 5 n 0 [] else s) :=
  .ite (State.basketMsg_touch (by decide) (.refl _ s)) (.refl _ s)

theorem bsCancel_slotAborted {s : State} {n : Nat} (w : Regs.wf s.regs = true) (hn : n < 8) :
    (s.bsCancel n).slotAborted n 7 ∧ Regs.wf (s.bsCancel n).regs = true :=
  have wm := (bsCancel_agree s n).regsWf w
  ⟨bsAbort_slotAborted wm hn none (by decide), bsAbort_wf none wm⟩

/-- Slot `n` is OPEN, empty and without an owner. -/
def State.slotEmptied (s : State) (n : Nat) : State :=
  (s.setSlot n ⟨[], false, 0, 0, 0, none⟩).setReg .BS_STATE n (Reg.reset .BS_STATE n)

/-- Besides, the number of the seam that pressed it is 0. -/
def State.numForgotten (s : State) (n : Nat) : State := (s.slotEmptied n).set64 .BS_PNUM_LO .BS_PNUM_HI n 0

/-- Besides, the epoch of that seam is 0. -/
def State.epochForgotten (s : State) (n : Nat) : State := (s.numForgotten n).set64 .BS_PEPOCH_LO .BS_PEPOCH_HI n 0

theorem numForgotten_agree (s : State) (n : Nat) :
    Agree (1 <<< (64 + Reg.BS_PNUM_LO.ctorIdx) ||| 1 <<< (64 + Reg.BS_PNUM_HI.ctorIdx)) (s.slotEmptied n) (s.numForgotten n) :=
  (Agree.refl _ _).set64 (by decide) (by decide) _ _

theorem epochForgotten_agree (s : State) (n : Nat) :
    Agree (1 <<< (64 + Reg.BS_PEPOCH_LO.ctorIdx) ||| 1 <<< (64 + Reg.BS_PEPOCH_HI.ctorIdx)) (s.numForgotten n)
      (s.epochForgotten n) :=
  (Agree.refl _ _).set64 (by decide) (by decide) _ _

theorem bsClear_agree (s : State) (n : Nat) : Agree (1 <<< (64 + Reg.BS_INFO.ctorIdx)) (s.epochForgotten n) (s.bsClear n) :=
  (Agree.refl _ _).setReg (by decide) _ _

/-- CLEAR empties the slot. -/
theorem bsClear_slots (s : State) (n : Nat) : (s.bsClear n).basket.slots =
    setAt ⟨[], false, 0, 0, 0, none⟩ s.basket.slots n ⟨[], false, 0, 0, 0, none⟩ := by
  rw [(bsClear_agree s n).basket_same (by decide), (epochForgotten_agree s n).basket_same (by decide),
    (numForgotten_agree s n).basket_same (by decide), State.slotEmptied, setReg_basket]
  rfl

/-- The registers of a slot after CLEAR (R223, R242). -/
theorem bsClear_regs {s : State} {n : Nat} (w : Regs.wf s.regs = true) (hn : n < 8) :
    let t := s.bsClear n
    t.reg .BS_STATE n = Reg.reset .BS_STATE n ∧ t.reg .BS_INFO n = 0#32 ∧ t.get64 .BS_PNUM_LO .BS_PNUM_HI n = 0 ∧
      t.get64 .BS_PEPOCH_LO .BS_PEPOCH_HI n = 0 := by
  intro t
  have ok {r : Reg} (hc : r.count = 8) (hr : r ≠ .EVR_TSEL ∧ r ≠ .EVR_TSTAT) : r.ok n = true := ok_of_lt hn hc hr
  have okstate := bsState_ok hn
  have oknl : Reg.BS_PNUM_LO.ok n = true := ok (by decide) (by decide)
  have oknh : Reg.BS_PNUM_HI.ok n = true := ok (by decide) (by decide)
  have okel : Reg.BS_PEPOCH_LO.ok n = true := ok (by decide) (by decide)
  have okeh : Reg.BS_PEPOCH_HI.ok n = true := ok (by decide) (by decide)
  have hnum := numForgotten_agree s n
  have hepoch := epochForgotten_agree s n
  have ht : Agree _ (s.epochForgotten n) t := bsClear_agree s n
  have w0 : Regs.wf (s.slotEmptied n).regs = true := setReg_wf _ _ _ _ w
  have w1 := hnum.regsWf w0
  have w2 := hepoch.regsWf w1
  refine ⟨?_, reg_setReg_same _ _ _ _ w2 (bsInfo_ok hn), ?_, ?_⟩
  · rw [ht.regs w2 _ _ okstate (by decide), hepoch.regs w1 _ _ okstate (by decide), hnum.regs w0 _ _ okstate (by decide)]
    exact reg_setReg_same _ _ _ _ w okstate
  · rw [ht.get64_same w2 oknl oknh (by decide) (by decide), hepoch.get64_same w1 oknl oknh (by decide) (by decide)]
    exact get64_set64_same 0 w0 oknl oknh (by decide)
  · rw [ht.get64_same w2 okel okeh (by decide) (by decide)]
    exact get64_set64_same 0 w1 okel okeh (by decide)

/-! ### The end of a validation (R223, R225) -/

/-- Slot `n` shows that it is ARMED. -/
def State.armShown (s : State) (n : Nat) : State := (s.fset F.BS_STATE_STATE n 2).fsetBit F.BASKET_STATUS_ARMED 0 n true

section arm
variable {s : State} {n : Nat} (harming : (s.slot n).arming = true)
include harming

theorem armDone_fails {reason i : Nat} (hv : (s.armingOver n).validate n = some (reason, i)) :
    s.armDone n =
      if (s.slot n).twin = 2 then ((s.armingOver n).bsAbort n reason (some i)).basketMsg 4 n reason []
      else (s.armingOver n).bsAbort n reason (some i) := by
  unfold State.armingOver at *
  simp only [State.armDone, harming, hv, Bool.not_true, Bool.false_eq_true, if_false]

/-- After a validation that passes, what the slot shows stands. -/
theorem armDone_agree_shown (hv : (s.armingOver n).validate n = none) :
    Agree (pulseMask ||| 1 <<< 10 ||| 1 <<< 25 ||| 1 <<< (64 + Reg.BS_INFO.ctorIdx)) ((s.armingOver n).armShown n) (s.armDone n) := by
  unfold State.armingOver at *
  simp only [State.armDone, harming, hv, Bool.not_true, Bool.false_eq_true, if_false]
  have hdefer {t u : State} {c : Bool} (h : Agree (pulseMask ||| 1 <<< 10 ||| 1 <<< 25 ||| 1 <<< (64 + Reg.BS_INFO.ctorIdx)) t u) :
      Agree (pulseMask ||| 1 <<< 10 ||| 1 <<< 25 ||| 1 <<< (64 + Reg.BS_INFO.ctorIdx)) t (if c then u.bsDefer n else u) :=
    .ite (State.bsDefer_touch (by decide) h) h
  refine .ite (State.basketMsg_touch (by decide) (hdefer ?_)) (State.mirrorArm_touch (by decide) (hdefer ?_))
  · exact State.setSlot_touch (by decide) (.refl _ _)
  · exact State.setSlot_touch (by decide) (.refl _ _)

end arm

/-- A validation that finds a failure aborts the slot. -/
theorem armDone_aborts {s : State} {n reason i : Nat} (w : Regs.wf s.regs = true) (hn : n < 8)
    (harming : (s.slot n).arming = true) (hv : (s.armingOver n).validate n = some (reason, i)) (hr : reason < 16) (hi : i < 512) :
    (s.armDone n).slotAborted n reason ∧ (s.armDone n).fget F.BS_INFO_FAIL_ENTRY n = i := by
  have wu := (armingOver_agree s n).regsWf w
  have wa := bsAbort_wf (n := n) (reason := reason) (some i) wu
  have h : Agree (1 <<< 25) ((s.armingOver n).bsAbort n reason (some i)) (s.armDone n) := by
    rw [armDone_fails harming hv]
    exact .ite (State.basketMsg_touch (by decide) (.refl _ _)) (.refl _ _)
  refine ⟨(bsAbort_slotAborted wu hn _ hr).of_agree h wa hn (by decide), ?_⟩
  rw [h.fget_same (f := F.BS_INFO_FAIL_ENTRY) wa (bsInfo_ok hn) (by decide)]
  exact bsAbort_failEntry wu hn (by omega)

/-- A validation that passes leaves the slot ARMED. -/
theorem armDone_arms {s : State} {n : Nat} (w : Regs.wf s.regs = true) (hn : n < 8) (harming : (s.slot n).arming = true)
    (hv : (s.armingOver n).validate n = none) :
    (s.armDone n).fget F.BS_STATE_STATE n = 2 ∧ (s.armDone n).fbit F.BASKET_STATUS_ARMED 0 n = true := by
  have wu := (armingOver_agree s n).regsWf w
  have ws : Regs.wf ((s.armingOver n).fset F.BS_STATE_STATE n 2).regs = true := fset_wf _ _ _ _ wu
  have h := armDone_agree_shown harming hv
  have wt : Regs.wf ((s.armingOver n).armShown n).regs = true := fsetBit_wf _ _ _ _ _ ws
  have hstate : Agree (1 <<< (64 + Reg.BASKET_STATUS.ctorIdx)) ((s.armingOver n).fset F.BS_STATE_STATE n 2)
      ((s.armingOver n).armShown n) := (Agree.refl _ _).fsetBit (by decide) _ _ _
  refine ⟨?_, ?_⟩
  · rw [h.fget_same (f := F.BS_STATE_STATE) wt (bsState_ok hn) (by decide),
      hstate.fget_same (f := F.BS_STATE_STATE) ws (bsState_ok hn) (by decide)]
    exact fget_fset_same _ F.BS_STATE_STATE n 2 wu (bsState_ok hn) (by decide)
  · rw [h.fbit_same (f := F.BASKET_STATUS_ARMED) wt (by decide) (by decide)]
    exact fbit_fsetBit_same true ws (by decide) (by simpa [F.BASKET_STATUS_ARMED] using by omega)

/-! ### A read of BS_RDATA (R242) -/

/-- WORD and INDEX after a read. -/
theorem bsAdvance_eq {s : State} {n : Nat} (w : Regs.wf s.regs = true) (hn : n < 8) :
    s.bsAdvance n =
      if s.fget F.BS_RIDX_WORD n < 2 then s.fset F.BS_RIDX_WORD n (s.fget F.BS_RIDX_WORD n + 1)
      else (s.fset F.BS_RIDX_WORD n 0).fset F.BS_RIDX_INDEX n (s.fget F.BS_RIDX_INDEX n + 1) := by
  have ok : Reg.BS_RIDX.ok n = true := ok_of_lt hn (by decide) (by decide)
  have hindex : (s.fset F.BS_RIDX_WORD n 0).fget F.BS_RIDX_INDEX n = s.fget F.BS_RIDX_INDEX n :=
    fget_fset_field s F.BS_RIDX_WORD F.BS_RIDX_INDEX n 0 w ok rfl (by decide)
  rw [← hindex]
  rfl

theorem readReg_bsRdata {s : State} {q : Requester} {n : Nat} (hn : n < 8) (h : s.performs q 0x0B = true) :
    s.readReg q .BS_RDATA n = { s.bsAdvance n with answer := .ok (s.bsRead n).toNat } := by
  have hpage : Reg.BS_RDATA.page n = 0x0B := by interval_cases n <;> decide
  have hrc : Reg.rcMask .BS_RDATA = 0#32 := by decide
  rw [readReg_performs s q .BS_RDATA n (ok_of_lt hn (by decide) (by decide)) (hpage.symm ▸ h)]
  have hread : s.regRead (s.who q) .BS_RDATA n = (s.readEffects (s.who q) .BS_RDATA n, s.bsRead n) := rfl
  rw [hread]
  simp only [State.readEffects, hrc, decide_true, Bool.or_true, if_true]

/-! ### The statement -/

/-- Settles O33: each command is a write whose row does its effect at once, the end of a validation, or a read that moves on. -/
theorem basketCommands : Obligations.BasketCommands := by
  unfold Obligations.BasketCommands
  intro s q slot v m hwf n x aborted busy
  have w : Regs.wf s.regs = true := State.wf_regs hwf
  have hn : n < 8 := slot.isLt
  have wl (u : Word) : Regs.wf (s.landed .BS_CTRL n u).regs = true := (landed_bsCtrl_agree s n u).regsWf w
  have hctrl {c : Nat} (hc : c < 8) (h : s.admits q .BS_CTRL n (bsWord c m) = true) :
      s.writeReg q .BS_CTRL n (bsWord c m) = s.taken ((s.landed .BS_CTRL n (bsWord c m)).bsCommand n c) := by
    rw [writeReg_bsCtrl hn h, bits_bsWord hc]
  refine ⟨fun h => ⟨fun hroom => ?_, fun hfull => ?_⟩, fun h => ?_, fun h => ?_, fun h => ?_, fun h => ?_, fun hlive harming => ?_,
    fun h => ?_⟩
  · exact congrArg Host.Outcome.next
      ((writeReg_bsValue hn h).trans (congrArg s.taken (bsAppend_room (s.who q) v w hn hroom)))
  · refine ⟨_, congrArg Host.Outcome.next
      ((writeReg_bsValue hn h).trans (congrArg s.taken (bsAppend_full (s.who q) v hfull))), ?_⟩
    exact (bsAbort_slotAborted w hn none (by decide)).taken (bsAbort_wf none w) hn
  · exact congrArg Host.Outcome.next (hctrl (by decide) h)
  · exact congrArg Host.Outcome.next (hctrl (by decide) h)
  · obtain ⟨haborted, wc⟩ := bsCancel_slotAborted (wl (bsWord 3 m)) hn
    exact ⟨_, congrArg Host.Outcome.next (hctrl (by decide) h), haborted.taken wc hn⟩
  · obtain ⟨hstate, hinfo, hnum, hepoch⟩ := bsClear_regs (wl (bsWord 4 m)) hn
    have hslots := bsClear_slots (s.landed .BS_CTRL n (bsWord 4 m)) n
    rw [(landed_bsCtrl_agree s n (bsWord 4 m)).basket_same (by decide)] at hslots
    refine ⟨_, congrArg Host.Outcome.next (hctrl (by decide) h), ?_, ?_, ?_, ?_, ?_⟩
    · rw [(taken_agree _ _).basket_same (by decide)]
      exact hslots
    · exact (reg_of_regs (taken_regs _ _) _ _).trans hstate
    · exact (reg_of_regs (taken_regs _ _) _ _).trans hinfo
    · rw [State.get64, reg_of_regs (taken_regs _ _), reg_of_regs (taken_regs _ _)]
      exact hnum
    · rw [State.get64, reg_of_regs (taken_regs _ _), reg_of_regs (taken_regs _ _)]
      exact hepoch
  · intro u
    refine ⟨fun hv => ⟨_, next_clocked hlive rfl, armDone_arms w hn harming hv⟩, fun r i hv hr hi => ?_⟩
    obtain ⟨haborted, hentry⟩ := armDone_aborts w hn harming hv hr hi
    exact ⟨_, next_clocked hlive rfl, haborted, hentry⟩
  · exact congrArg Host.Outcome.next ((readReg_bsRdata hn h).trans (by rw [bsAdvance_eq w hn]; rfl))

end Sys2Proof.Machine
end

section
/-!
PROOF. The press (R226, R230, R231, R232, R234): what the swap of an entry leaves, the check of a slot, and what an epoch edge
does to the basket.
-/

namespace Sys2Proof.Machine

/-! ### The swap of an entry -/

/-- What follows a change of settings leaves the registers, but for the map of the engines. -/
theorem stChanged_regs (s old : State) {r : Reg} (n : Nat) (hr : r ≠ .WELQ_MAP) : (s.stChanged old r n).regs = s.regs := by
  unfold State.stChanged
  split
  case h_4 => split <;> rfl
  case h_5 => exact absurd rfl hr
  all_goals rfl

/-- A new map of the engines lets their queues go on. -/
theorem stChanged_map_agree (s old : State) (n : Nat) : Agree qSettleMask s (s.stChanged old .WELQ_MAP n) :=
  .forEach (.refl _ s) (fun _ _ h => State.qSettleOf_touch (by decide) h) _

/-- What follows a change of settings leaves the register itself. -/
theorem stChanged_reg_same (s old : State) {r : Reg} {n : Nat} (w : Regs.wf s.regs = true) (ok : r.ok n = true) :
    (s.stChanged old r n).reg r n = s.reg r n := by
  by_cases hr : r = .WELQ_MAP
  · subst hr
    exact (stChanged_map_agree s old n).regs w _ _ ok (by decide)
  · exact reg_of_regs (stChanged_regs s old n hr) r n

/-- Register `n` of array `r` has taken its bits of the entry, and its block has followed. -/
def State.entrySwapped (s : State) (e : Entry) (r : Reg) (n : Nat) : State :=
  (s.setReg r n (swapWord (s.reg r n) e.mask e.value)).stChanged s r n

/-- What the swap of an entry may touch. -/
def entryMask : Nat := landMask ||| qSettleMask

theorem swapEntry_agree (s : State) (e : Entry) : Agree entryMask s (s.swapEntry e) :=
  State.swapEntry_touch (by decide) (.refl _ s)

theorem swapEntry_eq {s : State} {e : Entry} {r : Reg} {n : Nat} (hat : regAt e.at = some (r, n)) :
    s.swapEntry e = if r = .ANG_CFG && e.mask &&& maskOf 16 5 != 0#32
      then (s.entrySwapped e r n).fsetB F.ANG_STATUS_ALT_ACTIVE n false else s.entrySwapped e r n := by
  simp only [State.swapEntry, hat]
  rfl

/-- But for ANG_STATUS, the swap of an entry leaves what the register and its block leave. -/
theorem swapEntry_agree_swapped {s : State} {e : Entry} {r : Reg} {n : Nat} (hat : regAt e.at = some (r, n)) :
    Agree (1 <<< (64 + Reg.ANG_STATUS.ctorIdx)) (s.entrySwapped e r n) (s.swapEntry e) := by
  rw [swapEntry_eq hat]
  exact .ite ((Agree.refl _ _).fsetB (by decide) _ _) (.refl _ _)

section swap
variable {s : State} {e : Entry} {r : Reg} {n : Nat} (w : Regs.wf s.regs = true) (hat : regAt e.at = some (r, n))
  (ok : r.ok n = true)
include w

theorem entrySwapped_wf : Regs.wf (s.entrySwapped e r n).regs = true := by
  have hset := setReg_wf s r n (swapWord (s.reg r n) e.mask e.value) w
  by_cases hr : r = .WELQ_MAP
  · subst hr
    exact (stChanged_map_agree _ s n).regsWf hset
  · exact (congrArg Regs.wf (stChanged_regs _ s n hr)).trans hset

include ok hat

/-- The swap gives the bits of the mask their value (R221). -/
theorem swapEntry_reg_same : (s.swapEntry e).reg r n = (s.reg r n &&& ~~~e.mask) ||| (e.value &&& e.mask) := by
  have hset := setReg_wf s r n (swapWord (s.reg r n) e.mask e.value) w
  have hswapped : (s.entrySwapped e r n).reg r n = (s.reg r n &&& ~~~e.mask) ||| (e.value &&& e.mask) :=
    (stChanged_reg_same _ s hset ok).trans (reg_setReg_same _ _ _ _ w ok)
  by_cases hr : r = .ANG_CFG
  · subst hr
    exact ((swapEntry_agree_swapped hat).regs (entrySwapped_wf w) _ _ ok (by decide)).trans hswapped
  · rw [swapEntry_eq hat]
    simpa only [hr, decide_false, Bool.false_and, Bool.false_eq_true, if_false] using hswapped

omit ok in
/-- The swap leaves every other register. -/
theorem swapEntry_reg_other {r' : Reg} {n' : Nat} (ok' : r'.ok n' = true) (hne : (r', n') ≠ (r, n)) (hstatus : r' ≠ .ANG_STATUS)
    (hmap : r ≠ .WELQ_MAP) : (s.swapEntry e).reg r' n' = s.reg r' n' := by
  rw [(swapEntry_agree_swapped hat).sameArraysBut (L := [.ANG_STATUS]) (entrySwapped_wf w) (by decide +kernel) r' n' ok'
    (by simpa using hstatus)]
  refine (reg_of_regs (stChanged_regs _ s n hmap) r' n').trans ?_
  exact (RegFrame.setReg (L := [(r, n)]) s _ List.mem_cons_self).reg w ok' (by simpa using hne)

end swap

/-! ### The check of a slot -/

/-- `s` with another basket. -/
def State.withBasket (s : State) (b : Basket) : State := { s with basket := b }

theorem setReg_withBasket (s : State) (b : Basket) (r : Reg) (n : Nat) (v : Word) :
    (s.withBasket b).setReg r n v = (s.setReg r n v).withBasket b := by
  unfold State.setReg
  split <;> rfl

/-- The second pass does not look at the basket beyond the entries that it applies. -/
theorem pressFails_withBasket (s t : State) (b c : Basket) : (s.withBasket b).pressFails (t.withBasket c) = s.pressFails t := rfl

theorem forEach_withBasket {α : Type} {f : α → State → State} {b : Basket} (hf : ∀ x t, f x (t.withBasket b) = (f x t).withBasket b)
    (xs : List α) (s : State) : forEach xs f (s.withBasket b) = (forEach xs f s).withBasket b := by
  induction xs generalizing s with
  | nil => rfl
  | cons x xs ih => exact (congrArg (forEach xs f) (hf x s)).trans (ih (f x s))

section slots
variable {s : State} {b : Basket} (hb : b.slots = s.basket.slots) (n : Nat)
include hb

theorem slot_withBasket : (s.withBasket b).slot n = s.slot n := congrArg (List.getD · n _) hb

theorem pressed_withBasket : (s.withBasket b).pressed n = (s.pressed n).withBasket b := by
  rw [State.pressed, State.pressed, slot_withBasket hb]
  refine forEach_withBasket (fun e t => ?_) _ s
  split
  · exact setReg_withBasket t b _ _ _
  · rfl

/-- The check of a slot looks at the slots, and at nothing else of the basket. -/
theorem pressCheck_withBasket : (s.withBasket b).pressCheck n = s.pressCheck n := by
  have hpass : (s.withBasket b).secondPass n = s.secondPass n := by
    simp only [State.secondPass, State.failEntry, pressed_withBasket hb, pressFails_withBasket, slot_withBasket hb]
  simp only [State.pressCheck, hpass, slot_withBasket hb]
  rfl

end slots

/-- A slot that has lost a shadow fails its check, with the entry that it has lost or a lower one whose domain is off (R231). -/
theorem pressCheck_lost {s : State} {n i : Nat} (h : (s.slot n).lost = some i) :
    ∃ j, j ≤ i ∧ s.pressCheck n = some (3, j) ∧
      (j < i → ∃ e, (s.slot n).entries[j]? = some e ∧
        (pageInfo (e.at / 0x1000)).any (fun x => s.domPower x.1 == .off) = true) := by
  rw [State.pressCheck, h]
  cases hoff : (s.slot n).entries.findIdx? (fun e => (pageInfo (e.at / 0x1000)).any (fun i => s.domPower i.1 == .off)) with
  | none => exact ⟨i, le_refl i, rfl, fun hlt => absurd hlt (lt_irrefl i)⟩
  | some k =>
    refine ⟨min i k, Nat.min_le_left i k, rfl, fun hlt => ?_⟩
    have hk : min i k = k := by omega
    obtain ⟨hlen, hdom, -⟩ := List.findIdx?_eq_some_iff_getElem.mp hoff
    exact ⟨(s.slot n).entries[k], by rw [hk]; exact List.getElem?_eq_getElem hlen, hdom⟩

/-! ### A slot that fails its press -/

theorem armingOver_basket (s : State) (n : Nat) :
    (s.armingOver n).basket = (s.setSlot n { s.slot n with arming := false }).basket := fsetB_basket _ _ _ _

theorem abortShown_basket (s : State) (n reason : Nat) (fail : Option Nat) : (s.abortShown n reason fail).basket = s.basket :=
  (abortShown_agree s n reason fail).basket_same (by decide)

section fail
variable {s : State} {n reason i : Nat} (htwin : (s.slot n).twin = 0)
include htwin

/-- The abort of a slot that is not mirrored is no outcome that the twins compare. -/
theorem bsAborted_unmirrored (fail : Option Nat) : s.bsAborted n reason fail = (s.abortShown n reason fail).armingOver n := by
  have hslot : (s.abortShown n reason fail).slot n = s.slot n := by rw [State.slot, abortShown_basket, State.slot]
  have htwin' : (((s.abortShown n reason fail).armingOver n).slot n).twin = 0 := by
    rw [State.slot, armingOver_basket, ← State.slot, setSlot_slot, if_pos rfl, hslot]
    exact htwin
  rw [bsAborted_eq]
  exact if_pos htwin'

/-- Nothing is swapped, and no interrupt is raised. -/
theorem pressFail_agree : Agree (abortMask ||| busyMask) s (s.pressFail n reason i) := by
  rw [State.pressFail, bsAborted_unmirrored htwin]
  exact (((abortShown_agree _ _ _ _).mono (by decide)).trans ((armingOver_agree _ n).mono (by decide))).set_basket (by decide) _

/-- The slot waits for the end of the window. -/
theorem pressFail_closing : (s.pressFail n reason i).basket.window = s.basket.window ∧
    (s.pressFail n reason i).basket.closing = s.basket.closing ++ [(n, false)] := by
  have h : (s.bsAborted n reason (some i)).basket =
      ((s.abortShown n reason (some i)).setSlot n { (s.abortShown n reason (some i)).slot n with arming := false }).basket := by
    rw [bsAborted_unmirrored htwin, armingOver_basket]
  have hwindow := congrArg Basket.window (abortShown_basket s n reason (some i))
  have hclosing := congrArg Basket.closing (abortShown_basket s n reason (some i))
  exact ⟨(congrArg Basket.window h).trans hwindow, congrArg (· ++ [(n, false)]) ((congrArg Basket.closing h).trans hclosing)⟩

end fail

/-- The registers of a slot that has failed its press. -/
theorem pressFail_shows {s : State} {n reason i : Nat} (w : Regs.wf s.regs = true) (hn : n < 8) (hr : reason < 16)
    (hi : i < 1024) :
    (s.pressFail n reason i).showsAbort n reason ∧ (s.pressFail n reason i).fget F.BS_INFO_FAIL_ENTRY n = i := by
  have wa := bsAborted_wf (n := n) (reason := reason) (some i) w
  have h : Agree (1 <<< 10) (s.bsAborted n reason (some i)) (s.pressFail n reason i) := (Agree.refl _ _).set_basket (by decide) _
  refine ⟨(bsAborted_shows w hn (some i) hr).of_agree h wa hn (by decide), ?_⟩
  exact (h.fget_same (f := F.BS_INFO_FAIL_ENTRY) wa (bsInfo_ok hn) (by decide)).trans (bsAborted_failEntry w hn hi)

/-! ### A slot that presses -/

/-- Until its records, a press of slot `n` takes its snapshots and swaps its entries. -/
def State.slotSwapped (s : State) (n : Nat) : State := ((s.bsSnap n 1).bsSwap n).bsSnap n 2

theorem bsSnap_slot (s : State) (n op : Nat) : (s.bsSnap n op).slot n =
    { s.slot n with entries := (s.slot n).entries.map (fun (e : Entry) =>
      if e.op = op then { e with value := s.peek (s.slotOwner n) e.at } else e) } := by
  rw [State.bsSnap, setSlot_slot, if_pos rfl]

/-- A swap leaves the basket, but for what waits for the clocks of its domain. -/
theorem bsSwap_basket (s : State) (n : Nat) : ∃ l, (s.bsSwap n).basket = { s.basket with later := l } := by
  refine forEach_keeps (P := fun (t : State) => ∃ l, t.basket = { s.basket with later := l }) _ ⟨s.basket.later, rfl⟩
    (fun e _ t ht => ?_)
  obtain ⟨l, hl⟩ := ht
  split
  · exact ⟨l, ((swapEntry_agree t e).basket_same (by decide)).trans hl⟩
  · exact ⟨t.basket.later ++ [(e.at, e.mask, e.value)], by rw [hl]⟩

/-- Of the basket a press leaves the window, the pages that it holds and the slots that it closes with, and the slot's part
in a mirrored arm. -/
theorem slotSwapped_basket (s : State) (n : Nat) :
    (s.slotSwapped n).basket.window = s.basket.window ∧ (s.slotSwapped n).basket.heldPages = s.basket.heldPages ∧
      (s.slotSwapped n).basket.closing = s.basket.closing ∧ ((s.slotSwapped n).slot n).twin = (s.slot n).twin := by
  obtain ⟨l, hl⟩ := bsSwap_basket (s.bsSnap n 1) n
  have hslot : ((s.bsSnap n 1).bsSwap n).slot n = (s.bsSnap n 1).slot n := by
    rw [State.slot, hl]
    rfl
  refine ⟨(congrArg Basket.window hl :), (congrArg Basket.heldPages hl :), (congrArg Basket.closing hl :), ?_⟩
  rw [State.slotSwapped, bsSnap_slot, hslot, bsSnap_slot]

/-- The window closes with slot `n` pressed. -/
def State.closesPressed (s : State) (n : Nat) : State :=
  { s with basket := { s.basket with closing := s.basket.closing ++ [(n, true)] } }

/-- The number and the epoch of the seam that presses slot `n`. -/
def State.seamNoted (s : State) (num n : Nat) : State :=
  (s.set64 .BS_PNUM_LO .BS_PNUM_HI n (s.bsSeamNum n)).set64 .BS_PEPOCH_LO .BS_PEPOCH_HI n num

/-- Besides, LATE where the seam lies above the target. -/
def State.pressNoted (s : State) (num n : Nat) : State :=
  if s.fget F.BS_SEAM_MODE n == 1 && decide (s.bsTarget n < s.bsSeamNum n) then (s.seamNoted num n).fsetB F.BS_STATE_LATE n true
  else s.seamNoted num n

/-- The registers of the records of a press. -/
def recordRegs : List Reg := [.BS_STATE, .BS_PNUM_LO, .BS_PNUM_HI, .BS_PEPOCH_LO, .BS_PEPOCH_HI]

/-- The same as a mask. -/
def recordMask : Nat := recordRegs.foldl (fun m r => m ||| 1 <<< (64 + r.ctorIdx)) 0

theorem seamNoted_agree (s : State) (num n : Nat) : Agree recordMask s (s.seamNoted num n) :=
  ((Agree.refl _ s).set64 (by decide) (by decide) _ _).set64 (by decide) (by decide) _ _

theorem pressNoted_agree_seam (s : State) (num n : Nat) :
    Agree (1 <<< (64 + Reg.BS_STATE.ctorIdx)) (s.seamNoted num n) (s.pressNoted num n) :=
  .ite ((Agree.refl _ _).fsetB (by decide) _ _) (.refl _ _)

theorem pressNoted_agree (s : State) (num n : Nat) : Agree recordMask s (s.pressNoted num n) :=
  (seamNoted_agree s num n).trans ((pressNoted_agree_seam s num n).mono (by decide))

/-- The epoch of a press is recorded (R230). -/
theorem pressNoted_epoch {s : State} (num : Nat) {n : Nat} (w : Regs.wf s.regs = true) (hn : n < 8) :
    (s.pressNoted num n).get64 .BS_PEPOCH_LO .BS_PEPOCH_HI n = num % 2 ^ 64 := by
  have okl : Reg.BS_PEPOCH_LO.ok n = true := ok_of_lt hn (by decide) (by decide)
  have okh : Reg.BS_PEPOCH_HI.ok n = true := ok_of_lt hn (by decide) (by decide)
  have wnum : Regs.wf (s.set64 .BS_PNUM_LO .BS_PNUM_HI n (s.bsSeamNum n)).regs = true :=
    setReg_wf _ _ _ _ (setReg_wf _ _ _ _ w)
  rw [(pressNoted_agree_seam s num n).get64_same ((seamNoted_agree s num n).regsWf w) okl okh (by decide) (by decide)]
  exact get64_set64_same num wnum okl okh (by decide)

/-- The records of a slot that is not mirrored. -/
theorem pressRecord_unmirrored {s : State} {n : Nat} (num : Nat) (htwin : (s.slot n).twin = 0) :
    s.pressRecord num n = (s.pressNoted num n).closesPressed n := by
  have hslot : (s.pressNoted num n).slot n = s.slot n := by
    rw [State.slot, (pressNoted_agree s num n).basket_same (by decide), State.slot]
  have h : s.pressRecord num n = State.closesPressed (if ((s.pressNoted num n).slot n).twin = 0 then s.pressNoted num n
      else (s.pressNoted num n).ownOutcome n 0 0 (s.bsSeamNum n)) n := rfl
  rw [h, hslot, if_pos htwin]

/-! ### The slots at an edge -/

theorem indices_none {m : Nat} {p : Nat → Bool} (h : ∀ k, k < m → p k = false) : indices m p = [] :=
  List.filter_eq_nil_iff.mpr (fun k hk => by rw [h k (List.mem_range.mp hk)]; decide)

theorem indices_one {m n : Nat} {p : Nat → Bool} (hn : n < m) (h : ∀ k, k < m → (p k = true ↔ k = n)) :
    indices m p = [n] := by
  have hp : indices m p = (List.range m).filter (· == n) :=
    List.filter_congr (fun k hk => by rw [Bool.eq_iff_iff, h k (List.mem_range.mp hk), beq_iff_eq])
  rw [hp, List.filter_beq, List.count_eq_one_of_mem List.nodup_range (List.mem_range.mpr hn)]
  rfl

/-- With the window open, the slots press or fail by their verdicts (R230, R231). -/
def State.pressJudged (s : State) (num : Nat) (verdicts : List (Nat × Option (Nat × Nat))) : State :=
  let pass := (verdicts.filter (fun v => v.2.isNone)).map (fun v => v.1)
  let s := forEach pass (fun n s => s.bsSnap n 1) s
  let s := forEach verdicts (fun (v : Nat × Option (Nat × Nat)) s =>
    match v.2 with
    | some (reason, i) => s.pressFail v.1 reason i
    | none => s) s
  let s := forEach pass (fun n s => s.bsSwap n) s
  let s := forEach pass (fun n s => s.bsSnap n 2) s
  forEach pass (fun n s => s.pressRecord num n) s

/-- The press window of the slots `go` opens. -/
def State.windowOpened (s : State) (go : List Nat) : State :=
  s.withBasket { s.basket with
    window := 6, heldPages := (go.flatMap (fun n => (s.slot n).entries.map (fun e => e.at / 0x1000))).eraseDups }

/-- The slots `go` press. -/
def State.pressGo (s : State) (num : Nat) (go : List Nat) : State :=
  if go.isEmpty then s else (s.windowOpened go).pressJudged num ((s.windowOpened go).pressVerdicts go)

theorem pressEdge_eq (s old : State) (num t : Nat) : s.pressEdge old num t =
    let d := forEach (indices 8 (fun n => s.bsPassed n t (old.bsSeamNum n))) (fun n s => s.bsDefer n) s
    let met := indices 8 (fun n => d.bsMeets n t)
    (forEach (met.filter (fun n => d.bsWaits n num)) (fun n s => s.bsDefer n) d).pressGo num
      (met.filter (fun n => !d.bsWaits n num)) := rfl

/-- A slot that presses alone opens the window, and its check decides. -/
theorem pressGo_one (s : State) (num n : Nat) : s.pressGo num [n] =
    match s.pressCheck n with
    | some (reason, i) => (s.windowOpened [n]).pressFail n reason i
    | none => ((s.windowOpened [n]).slotSwapped n).pressRecord num n := by
  have hcheck : (s.windowOpened [n]).pressCheck n = s.pressCheck n := by
    unfold State.windowOpened
    exact pressCheck_withBasket (by rfl) n
  have h : s.pressGo num [n] = (s.windowOpened [n]).pressJudged num [(n, (s.windowOpened [n]).pressCheck n)] := rfl
  rw [h, hcheck]
  cases s.pressCheck n with
  | none => rfl
  | some v => rfl

/-- Of the slots that meet their rule none defers its seam, and one alone presses. -/
theorem pressEdge_alone {s old : State} {n num t : Nat} (hn : n < 8)
    (hpassed : ∀ k, k < 8 → s.bsPassed k t (old.bsSeamNum k) = false)
    (hmeets : ∀ k, k < 8 → (s.bsMeets k t = true ↔ k = n)) (hwaits : s.bsWaits n num = false) :
    s.pressEdge old num t = s.pressGo num [n] := by
  have hnone (u : State) (f : Nat → State → State) : forEach [] f u = u := rfl
  have hfilter : [n].filter (fun k => !s.bsWaits k num) = [n] ∧ [n].filter (fun k => s.bsWaits k num) = [] := by simp [hwaits]
  obtain ⟨hgo, hwait⟩ := hfilter
  rw [pressEdge_eq, indices_none hpassed]
  simp only [hnone, indices_one hn hmeets, hgo, hwait]

/-! ### A slot that alone meets its rule -/

theorem pressGo_window {s : State} {n : Nat} (num : Nat) (htwin : (s.slot n).twin = 0) :
    (s.pressGo num [n]).basket.window = 6 := by
  rw [pressGo_one]
  cases s.pressCheck n with
  | some v => exact (pressFail_closing (s := s.windowOpened [n]) htwin).1
  | none =>
    obtain ⟨hwindow, -, -, htwin'⟩ := slotSwapped_basket (s.windowOpened [n]) n
    simp only [pressRecord_unmirrored num (htwin'.trans htwin), State.closesPressed,
      (pressNoted_agree _ num n).basket_same (by decide)]
    exact hwindow

/-- A slot whose check fails is ABORTED, and the window closes with that. -/
theorem pressGo_fails {s : State} {n reason i : Nat} (num : Nat) (w : Regs.wf s.regs = true) (hn : n < 8)
    (htwin : (s.slot n).twin = 0) (hcheck : s.pressCheck n = some (reason, i)) (hr : reason < 16) (hi : i < 1024) :
    (s.pressGo num [n]).basket.closing = s.basket.closing ++ [(n, false)] ∧ (s.pressGo num [n]).showsAbort n reason ∧
      (s.pressGo num [n]).fget F.BS_INFO_FAIL_ENTRY n = i := by
  rw [pressGo_one, hcheck]
  exact ⟨(pressFail_closing (s := s.windowOpened [n]) htwin).2, pressFail_shows (s := s.windowOpened [n]) w hn hr hi⟩

theorem slotSwapped_wf {s : State} (w : Regs.wf s.regs = true) (n : Nat) : Regs.wf (s.slotSwapped n).regs = true := by
  have h : Agree (entryMask ||| 1 <<< 10) s (s.slotSwapped n) :=
    State.bsSnap_touch (by decide) (State.bsSwap_touch (by decide) (State.bsSnap_touch (by decide) (.refl _ s)))
  exact h.regsWf w

section passes
variable {s : State} {n : Nat} (num : Nat) (htwin : (s.slot n).twin = 0)
  (hcheck : s.pressCheck n = none)
include htwin hcheck

theorem pressGo_passes : s.pressGo num [n] = (((s.windowOpened [n]).slotSwapped n).pressNoted num n).closesPressed n := by
  obtain ⟨-, -, -, htwin'⟩ := slotSwapped_basket (s.windowOpened [n]) n
  rw [pressGo_one, hcheck]
  exact pressRecord_unmirrored num (htwin'.trans htwin)

/-- The window closes with the slot PRESSED. -/
theorem pressGo_basket : (s.pressGo num [n]).basket.closing = s.basket.closing ++ [(n, true)] ∧
    (s.pressGo num [n]).basket.heldPages = ((s.slot n).entries.map (fun e => e.at / 0x1000)).eraseDups := by
  obtain ⟨-, hpages, hclosing, -⟩ := slotSwapped_basket (s.windowOpened [n]) n
  rw [pressGo_passes num htwin hcheck]
  simp only [State.closesPressed, (pressNoted_agree _ num n).basket_same (by decide), hpages, hclosing]
  refine ⟨rfl, ?_⟩
  rw [← List.flatMap_singleton (fun k => (s.slot k).entries.map (fun e => e.at / 0x1000)) n]
  rfl

/-- The records of the press stand. -/
theorem pressGo_agree_noted : Agree (1 <<< 10) (((s.windowOpened [n]).slotSwapped n).pressNoted num n) (s.pressGo num [n]) := by
  rw [pressGo_passes num htwin hcheck]
  exact (Agree.refl _ _).set_basket (by decide) _

/-- The epoch of the press is recorded (R230). -/
theorem pressGo_epoch (w : Regs.wf s.regs = true) (hn : n < 8) :
    (s.pressGo num [n]).get64 .BS_PEPOCH_LO .BS_PEPOCH_HI n = num % 2 ^ 64 := by
  have ws : Regs.wf ((s.windowOpened [n]).slotSwapped n).regs = true := slotSwapped_wf (s := s.windowOpened [n]) w n
  rw [(pressGo_agree_noted num htwin hcheck).get64_same ((pressNoted_agree _ num n).regsWf ws)
    (ok_of_lt hn (by decide) (by decide)) (ok_of_lt hn (by decide) (by decide)) (by decide) (by decide)]
  exact pressNoted_epoch num ws hn

end passes

/-- A single WRITE entry of a domain that is live is swapped in. -/
theorem bsSwap_one {s : State} {n : Nat} {e : Entry} (hentries : (s.slot n).entries = [e]) (hop : e.op = 0)
    (hlive : (pageInfo (e.at / 0x1000)).any (fun i => s.domLive i.1) = true) : s.bsSwap n = s.swapEntry e := by
  simp [State.bsSwap, hentries, hop, forEach, hlive]

/-- Snapshots do not replace a WRITE entry. -/
theorem bsSnap_entries {s : State} {n op : Nat} {e : Entry} (hentries : (s.slot n).entries = [e]) (hop : e.op ≠ op) :
    ((s.bsSnap n op).slot n).entries = [e] := by
  rw [bsSnap_slot, hentries]
  simp [hop]

theorem slotSwapped_reg {s : State} {n k : Nat} {e : Entry} {r : Reg} (w : Regs.wf s.regs = true)
    (hentries : (s.slot n).entries = [e]) (hop : e.op = 0) (hat : regAt e.at = some (r, k)) (ok : r.ok k = true)
    (hlive : (pageInfo (e.at / 0x1000)).any (fun i => s.domLive i.1) = true) :
    (s.slotSwapped n).reg r k = (s.reg r k &&& ~~~e.mask) ||| (e.value &&& e.mask) := by
  have hsnap : ((s.bsSnap n 1).slot n).entries = [e] := bsSnap_entries hentries (by omega)
  have hswap : (s.bsSnap n 1).bsSwap n = (s.bsSnap n 1).swapEntry e := bsSwap_one hsnap hop hlive
  have hreg : (s.slotSwapped n).reg r k = ((s.bsSnap n 1).bsSwap n).reg r k := reg_of_regs rfl r k
  rw [hreg, hswap]
  exact swapEntry_reg_same (s := s.bsSnap n 1) w hat ok

/-- The WRITE entry of a slot that presses stands in its register (R232). -/
theorem pressGo_entry {s : State} {n k : Nat} {e : Entry} {r : Reg} (num : Nat) (w : Regs.wf s.regs = true)
    (htwin : (s.slot n).twin = 0) (hcheck : s.pressCheck n = none) (hentries : (s.slot n).entries = [e]) (hop : e.op = 0)
    (hat : regAt e.at = some (r, k)) (ok : r.ok k = true)
    (hlive : (pageInfo (e.at / 0x1000)).any (fun i => s.domLive i.1) = true) (hr : r ∉ recordRegs) :
    (s.pressGo num [n]).reg r k = (s.reg r k &&& ~~~e.mask) ||| (e.value &&& e.mask) := by
  have ws : Regs.wf ((s.windowOpened [n]).slotSwapped n).regs = true := slotSwapped_wf (s := s.windowOpened [n]) w n
  have hnoted := pressNoted_agree ((s.windowOpened [n]).slotSwapped n) num n
  rw [(pressGo_agree_noted num htwin hcheck).sameArraysBut (L := []) (hnoted.regsWf ws) (by decide +kernel) r k ok (by simp),
    hnoted.sameArraysBut ws (by decide +kernel) r k ok hr]
  exact slotSwapped_reg (s := s.windowOpened [n]) w hentries hop hat ok hlive

/-! ### The presses of an epoch edge -/

/-- The seams of edge `num` at tick `t` have fallen, and the slots that meet them have pressed. -/
def State.edgePressed (s : State) (t num phase : Nat) : State :=
  ((s.edgeStart t num).edgeSeams t num phase).pressEdge (s.edgeStart t num) num t

/-- What the epoch that begins may touch, and what is sent of the edge: every register, but not the basket. -/
def begunMask : Nat := landMask ||| qSettleMask ||| 1 <<< 15 ||| 1 <<< 20 ||| 1 <<< 21 ||| 1 <<< 25

/-- What the epoch that begins does, and the checkpoints of the edge, leave the basket alone. -/
theorem edgeAt_basket (s : State) (t num : Nat) (x : Conversions) (phase : Nat) :
    (s.edgeAt t num x phase).basket = (s.edgePressed t num phase).basket := by
  have h : Agree begunMask (s.edgePressed t num phase) (s.edgeAt t num x phase) := by
    unfold State.edgeAt
    extract_lets live olds quals states p live' a b c d f
    have ha : Agree begunMask p a := State.withOld_touch (by decide) (.refl _ p)
    have hb : Agree begunMask p b := State.epochBegin_touch (by decide) ha
    have hc : Agree begunMask p c := State.epochData_touch (by decide) hb
    have hd : Agree begunMask p d := State.putBack_touch (by decide) hc
    exact State.sendCheckpoints_touch (by decide) (hd.set_late (by decide) _)
  exact h.basket_same (by decide)

/-- The state when the next edge falls: the router has settled, time has passed, and the epoch before it has closed. -/
def State.edgeReached (s : State) (due : Nat) : State :=
  ((s.routerDrain 16).elapse (max due (s.routerDrain 16).now - (s.routerDrain 16).now)).epochClose

/-- The number of the edge that falls. -/
def State.edgeNum (s : State) : Nat :=
  (if s.epoch.running then (s.epoch.edges.headD (0, 0)).1 + 1 else s.epoch.firstNum.getD 0) % 2 ^ 64

theorem epochEdge_falls {s : State} {due : Nat} (x : Conversions) (phase : Nat) (hnext : s.epoch.next = some due)
    (hlive : s.domLive .acq = true) (hpage : s.pageClocked 0x20 = true) (hclock : s.adcClock = true)
    (hruns : (s.edgeReached due).epoch.running = false ∨ (s.edgeReached due).flag F.AIN_CTRL_RUN = true) :
    s.epochEdge x phase =
      (s.edgeReached due).edgeAt (max due (s.routerDrain 16).now) (s.edgeReached due).edgeNum x phase := by
  have hgo : ((s.edgeReached due).epoch.running && !(s.edgeReached due).flag F.AIN_CTRL_RUN) = false := by
    rcases hruns with h | h <;> simp [h]
  unfold State.edgeNum State.edgeReached at *
  simp only [State.epochEdge, hnext, hlive, hpage, hclock, hgo, Bool.and_true, Bool.not_true, Bool.false_eq_true, if_false]

/-! ### The statement -/

/-- Settles O34: by the seams and the presses of an edge, the verdict on a slot that presses alone, the swap of an entry, and the
check of a slot that has lost a shadow. -/
theorem basketPress : Obligations.BasketPress := by
  unfold Obligations.BasketPress
  refine ⟨?_, ?_, ?_, ?_⟩
  · intro s conv phase due hnext hlive hpage hclock d t u hruns num a
    exact ⟨_, rfl, by rw [epochEdge_falls conv phase hnext hlive hpage hclock hruns]; exact edgeAt_basket _ _ _ _ _⟩
  · intro s old n num t hwf hn hpassed hmeets hwaits htwin p
    have w := State.wf_regs hwf
    have hp : p = s.pressGo num [n] := pressEdge_alone hn hpassed hmeets hwaits
    rw [hp]
    refine ⟨pressGo_window num htwin, fun reason i hcheck hr hi => ?_, fun hcheck => ?_⟩
    · obtain ⟨hclosing, ⟨hstate, hreason, -⟩, hentry⟩ := pressGo_fails num w hn htwin hcheck hr (by omega)
      exact ⟨hclosing, hstate, hreason, hentry⟩
    · obtain ⟨hclosing, hpages⟩ := pressGo_basket num htwin hcheck
      refine ⟨hclosing, pressGo_epoch num htwin hcheck w hn, fun e r k hentries hop hat ok hlive hr => ?_⟩
      refine ⟨pressGo_entry num w htwin hcheck hentries hop hat ok hlive hr, ?_⟩
      rw [hpages, hentries]
      rfl
  · intro s e r n hwf hat ok
    have w := State.wf_regs hwf
    exact ⟨swapEntry_reg_same w hat ok, fun r' n' ok' hne hstatus hmap => swapEntry_reg_other w hat ok' hne hstatus hmap⟩
  · intro s n i hwf hn hi hlost
    have w := State.wf_regs hwf
    obtain ⟨j, hj, hcheck, hlower⟩ := pressCheck_lost hlost
    refine ⟨j, hj, hcheck, hlower, fun htwin => ?_⟩
    obtain ⟨⟨hstate, hreason, harmed⟩, hentry⟩ := pressFail_shows (i := j) w hn (by decide : 3 < 16) (by omega)
    exact ⟨hstate, hreason, hentry, harmed, (pressFail_agree htwin).sameArraysBut w (by decide +kernel)⟩

end Sys2Proof.Machine
end

section
/-!
PROOF. The issue of an instruction by a Kiltur core: what the shared issue comes to when the word is the instruction's, and with it
branches, loop and rpt, the system group, the dual fetch and the events of a core.
-/

namespace Sys2Proof.Machine

/-! ### Issue -/

theorem coreRun_of_issues {s : State} {x : Nat} (h : s.coreIssues x = true) : s.flag F.CORE_CTRL_RUN (coreReg x) = true := by
  simp only [State.coreIssues, State.coreRuns, Bool.and_eq_true] at h
  exact h.1.2

theorem coreSteps_of_issues {s : State} {x : Nat} (h : s.coreIssues x = true) : s.coreSteps x = true := by
  rw [State.coreSteps, h, Bool.true_or]

/-- A core whose RUN was 1 does not stop after the instruction. -/
theorem kBoundary_run (s : State) (x : Nat) : s.kBoundary x true = s := by simp [State.kBoundary]

/-- A DETAIL code that does not apply. -/
theorem detailIf_not {b : Bool} (h : b = false) (d : Nat) : detailIf b d = [] := by rw [h]; rfl

theorem detailIf_does {b : Bool} (h : b = true) (d : Nat) : detailIf b d = [d] := by rw [h]; rfl

section issue
variable {s u : State} {x : Nat} {w : Word} {is : Word → Bool} {details : Core → Word → List Nat}
  {f : State → Core → Word → State × KEnd} (hi : s.coreIssues x = true) (hf : s.fetch x = (u, .ok w)) (his : is w = true)
include hi hf his

/-- An instruction to which no DETAIL code applies ends as its meaning says. -/
theorem kIssue_ends (hd : details (u.core x) w = []) {t : State} {e : KEnd} (he : f u (u.core x) w = (t, e)) :
    s.kIssue x is details f = t.kEnd x (u.core x) w e := by
  unfold State.kIssue
  simp only [coreSteps_of_issues hi, hf, his, hd, he, coreRun_of_issues hi, kBoundary_run, Bool.not_true, Bool.false_eq_true,
    if_false]

theorem kIssue_done (hd : details (u.core x) w = []) {ws : List KWrite} {acc : Option (Nat × BitVec 72)} {flow : Flow}
    (he : f u (u.core x) w = (u, .done ws acc flow)) (hflow : flow ≠ .wait) :
    s.kIssue x is details f = u.setCore x ((u.core x).finish ws acc flow) := by
  rw [kIssue_ends hi hf his hd he, State.kEnd, if_neg (by simpa using hflow)]

theorem kIssue_raise (hd : details (u.core x) w = []) {code detail : Nat}
    (he : f u (u.core x) w = (u, .raise code detail)) :
    s.kIssue x is details f = u.setCore x ((u.core x).enter code detail 0) := kIssue_ends hi hf his hd he

/-- The one DETAIL code that applies is that of Illegal Instruction. -/
theorem kIssue_illegal {d : Nat} (hd : details (u.core x) w = [d]) :
    s.kIssue x is details f = u.setCore x ((u.core x).enter 1 d 0) := by
  unfold State.kIssue
  simp only [coreSteps_of_issues hi, hf, his, hd, Bool.not_true, Bool.false_eq_true, if_false, List.length_nil, Nat.zero_add,
    Nat.mod_one, List.getD_cons_zero]
  rfl

end issue

/-! ### Branches, loop and rpt -/

/-- No DETAIL code of control flow applies outside a delay slot and away from the end of an active loop. -/
theorem kFlowDetails_none {c : Core} (hs : c.slot = none) (he : c.atEnd c.next = false) : kFlowDetails c = [] := by
  simp [kFlowDetails, detailIf, hs, he]

section flow
variable {s u : State} {x : Fin 5} {w : Word} (hi : s.coreIssues x.val = true) (hf : s.fetch x.val = (u, .ok w))
  (hs : (u.core x.val).slot = none) (he : (u.core x.val).atEnd (u.core x.val).next = false)
include hi hf hs he

/-- A compare branch goes where its condition, as a proposition, says. -/
theorem kBranch_goes {major : Nat} (hm : kMajor w = major) {taken : Word → Word → Bool} {p : Prop} [Decidable p]
    (hp : taken ((u.core x.val).gr (kRd w)) ((u.core x.val).gr (kRa w)) = decide p) :
    s.kBranch x.val major taken = u.setCore x.val ((u.core x.val).finish [] none (.branch
      (if p then some ((u.core x.val).next + ((w.extractLsb' 0 16).signExtend 32 <<< 2)) else none))) :=
  kIssue_done hi hf (by simp [hm]) (kFlowDetails_none hs he) (by simp only [hp, decide_eq_true_eq]) (by simp)

theorem kLong_goes {major : Nat} (hm : kMajor w = major) (link : Bool) :
    s.kLong x.val major link =
      u.setCore x.val ((u.core x.val).finish (if link then [(.g 30, (u.core x.val).next + 8#32, 1)] else []) none
        (.branch (some ((u.core x.val).next + ((w.extractLsb' 0 26).signExtend 32 <<< 2))))) :=
  kIssue_done hi hf (by simp [hm]) (kFlowDetails_none hs he) rfl (by simp)

theorem callr_goes (hm : kMajor w = 0x2A) (hz : bits w 0 16 = 0) (hr : kRd w ≠ kRa w ∨ kRd w = 0) :
    exec (.kCallr x) s = .next (u.setCore x.val ((u.core x.val).finish [(.g (kRd w), (u.core x.val).next + 8#32, 1)] none
      (.branch (some ((u.core x.val).gr (kRa w) &&& 0xFFFFFFFC#32))))) := by
  have hbad : (bits w 0 16 != 0 || (kRd w == kRa w && kRd w != 0)) = false := by
    rcases hr with h | h <;> simp [hz, h]
  exact congrArg Host.Outcome.next (kIssue_done hi hf (by simp [hm])
    (by rw [detailIf_not hbad, kFlowDetails_none hs he, List.append_nil]) rfl (by simp))

/-- A loop instruction without a reserved field: the shared completion, and then the mechanism takes its values. -/
theorem kLoop_ends (hm : kMajor w = 0x30) (hn : bits w 24 2 ≠ 3) (hb : bits w 12 11 ≠ 0) (hr : bits w 23 1 = 1 → bits w 5 7 = 0)
    {ws : List KWrite} {flow : Flow} (hd : u.kLoopDo (u.core x.val) w = (u, .done ws none flow)) (hflow : flow ≠ .wait) :
    s.kLoop x.val = u.setCore x.val (((u.core x.val).finish ws none flow).loopSet (u.core x.val) w) := by
  have hbad : (bits w 24 2 == 3 || bits w 12 11 == 0 || (bits w 23 1 == 1 && bits w 5 7 != 0)) = false := by
    by_cases h : bits w 23 1 = 1 <;> simp [hn, hb, h, hr]
  have hflows := kFlowDetails_none hs he
  have hissue := kIssue_done (is := fun w => kMajor w == 0x30)
    (details := fun c w => detailIf (bits w 24 2 == 3 || bits w 12 11 == 0 || (bits w 23 1 == 1 && bits w 5 7 != 0)) 1 ++ kFlowDetails c)
    (f := fun s c w => s.kLoopDo c w) hi hf (by simp [hm]) (by rw [detailIf_not hbad, hflows, List.append_nil]) hd hflow
  unfold State.kLoop
  simp only [hissue, hf, hi, hm, hbad, hflows, beq_self_eq_true, Bool.not_false, Bool.and_self, List.isEmpty_nil, if_true,
    setCore_core]
  simp only [State.setCore, setAt_setAt]

end flow

theorem bits_low (v : Word) (n : Nat) : bits v 0 n = v.toNat % 2 ^ n := by rw [bits_eq, Nat.pow_zero, Nat.div_one]

/-- The count of loop instruction `w`. -/
def Core.loopCount (c : Core) (w : Word) : Nat := if bits w 23 1 = 1 then bits (c.gr (bits w 0 5)) 0 16 else bits w 0 12

/-- With count 0 the body is skipped. -/
theorem kLoopDo_zero {c : Core} {w : Word} (u : State) (h : c.loopCount w = 0) :
    u.kLoopDo c w = (u, .done [(.le (bits w 24 2), c.next + BitVec.ofNat 32 (4 * bits w 12 11), 4), (.lc (bits w 24 2), 0#32, 4),
      (.la (bits w 24 2), 0#32, 4)] none (.skip (c.next + BitVec.ofNat 32 (4 * bits w 12 11) + 4#32))) := if_pos h

theorem kLoopDo_succ {c : Core} {w : Word} (u : State) (h : c.loopCount w ≠ 0) :
    u.kLoopDo c w = (u, .done [(.ls (bits w 24 2), c.next + 4#32, 4), (.le (bits w 24 2), c.next + BitVec.ofNat 32 (4 * bits w 12 11), 4),
      (.lc (bits w 24 2), BitVec.ofNat 32 (c.loopCount w), 4), (.la (bits w 24 2), 1#32, 4)] none (.skip (c.next + 4#32))) := if_neg h

theorem loopSet_zero {c : Core} {w : Word} (c' : Core) (h : c.loopCount w = 0) :
    c'.loopSet c w = { c' with
      loopE := c'.loopE.set (bits w 24 2) (c.next + BitVec.ofNat 32 (4 * bits w 12 11))
      loopC := c'.loopC.set (bits w 24 2) 0
      loopA := c'.loopA.set (bits w 24 2) false } := by
  unfold Core.loopSet
  rw [Core.loopCount] at h
  simp [h]

theorem loopSet_succ {c : Core} {w : Word} (c' : Core) (h : c.loopCount w ≠ 0) :
    c'.loopSet c w = { c' with
      loopS := c'.loopS.set (bits w 24 2) (c.next + 4#32)
      loopE := c'.loopE.set (bits w 24 2) (c.next + BitVec.ofNat 32 (4 * bits w 12 11))
      loopC := c'.loopC.set (bits w 24 2) (c.loopCount w)
      loopA := c'.loopA.set (bits w 24 2) true } := by
  have ha : (c.loopCount w != 0) = true := by simpa using h
  unfold Core.loopSet
  rw [Core.loopCount] at h ha
  rw [if_neg h, ha]
  rfl

/-- The count that an rpt latches, before it is checked. -/
def Core.rptCount (c : Core) (w : Word) : Nat := if bits w 23 1 = 1 then (c.gr (bits w 0 5)).toNat else bits w 0 12 + 1

/-- DETAIL 5 applies to an rpt exactly when its count is above 4,096, which only one in a register can be. -/
theorem rptCount_over (c : Core) (w : Word) :
    (bits w 23 1 == 1 && decide (4096 < (c.gr (bits w 0 5)).toNat)) = decide (4096 < c.rptCount w) := by
  have hk : bits w 0 12 < 2 ^ 12 := Nat.mod_lt _ (by decide)
  by_cases h : bits w 23 1 = 1
  · simp [Core.rptCount, h]
  · rw [Core.rptCount, if_neg h, decide_eq_false (by omega : ¬4096 < bits w 0 12 + 1)]
    simp [h]

/-- The DETAIL codes that apply to an rpt. -/
def State.rptDetails (s : State) (x : Nat) (c : Core) (w : Word) : List Nat :=
  detailIf (bits w 24 2 != 0 || bits w 12 11 != 0 || (bits w 23 1 == 1 && bits w 5 7 != 0)) 1 ++
    detailIf (s.rptForbidden x) 2 ++ kFlowDetails c ++
      detailIf (bits w 23 1 == 1 && decide (4096 < (c.gr (bits w 0 5)).toNat)) 5

theorem exec_kRpt (s : State) (x : Fin 5) :
    exec (.kRpt x) s = .next (s.kIssue x.val (fun w => kMajor w == 0x31) (s.rptDetails x.val)
      (fun t c w => (t, .done [] none (.rpt (c.rptCount w))))) := rfl

/-- Of an rpt without reserved fields only the count is still to be checked. -/
theorem rptDetails_eq {s : State} {x : Nat} {c : Core} {w : Word} (hflow : kFlowDetails c = []) (hn : bits w 24 2 = 0)
    (hb : bits w 12 11 = 0) (hr : bits w 23 1 = 1 → bits w 5 7 = 0) (hnext : s.rptForbidden x = false) :
    s.rptDetails x c w = detailIf (decide (4096 < c.rptCount w)) 5 := by
  have hbad : (bits w 24 2 != 0 || bits w 12 11 != 0 || (bits w 23 1 == 1 && bits w 5 7 != 0)) = false := by
    by_cases h : bits w 23 1 = 1 <;> simp [hn, hb, h, hr]
  rw [State.rptDetails, detailIf_not hbad, detailIf_not hnext, hflow, rptCount_over]
  rfl

theorem bne_eq_decide_ne (a b : Word) : (a != b) = decide (a ≠ b) := by rw [decide_not]; rfl

theorem not_slt_eq_decide (a b : Word) : (!a.slt b) = decide (b.toInt ≤ a.toInt) := by
  rw [BitVec.slt, ← decide_not, decide_eq_decide, Int.not_lt]

theorem not_ult_eq_decide (a b : Word) : (!a.ult b) = decide (b.toNat ≤ a.toNat) := by
  rw [BitVec.ult, ← decide_not, decide_eq_decide, Nat.not_lt]

/-- Settles O21, with each instruction by the shared issue outside delay slots and loop ends. -/
theorem kControlFlow : Obligations.KControlFlow := by
  unfold Obligations.KControlFlow
  intro s u x w hi hf hs he c ra rb near far goes branch illegal n e k r
  have hcount : c.loopCount w = k := by rw [Core.loopCount, bits_low]; rfl
  refine ⟨fun hm => ?_, fun hm => ?_, fun hm => ?_, fun hm => ?_, fun hm => ?_, fun hm => ?_, fun hm => ?_, fun hm => ?_,
    fun hm hz hr => callr_goes hi hf hs he hm hz hr, fun hm hn hb hr => ⟨fun hk => ?_, fun hk => ?_⟩, fun hm hn hb hr hnext => ?_⟩
  · exact congrArg Host.Outcome.next (kBranch_goes hi hf hs he hm rfl)
  · exact congrArg Host.Outcome.next (kBranch_goes hi hf hs he hm (bne_eq_decide_ne _ _))
  · exact congrArg Host.Outcome.next (kBranch_goes hi hf hs he hm rfl)
  · exact congrArg Host.Outcome.next (kBranch_goes hi hf hs he hm (not_slt_eq_decide _ _))
  · exact congrArg Host.Outcome.next (kBranch_goes hi hf hs he hm rfl)
  · exact congrArg Host.Outcome.next (kBranch_goes hi hf hs he hm (not_ult_eq_decide _ _))
  · exact congrArg Host.Outcome.next (kLong_goes hi hf hs he hm false)
  · exact congrArg Host.Outcome.next (kLong_goes hi hf hs he hm true)
  · have hend := kLoop_ends hi hf hs he hm hn hb hr (kLoopDo_zero u (hcount.trans hk)) (by simp)
    rw [loopSet_zero _ (hcount.trans hk)] at hend
    exact congrArg Host.Outcome.next hend
  · have hne : c.loopCount w ≠ 0 := fun h => hk (hcount.symm.trans h)
    have hend := kLoop_ends hi hf hs he hm hn hb hr (kLoopDo_succ u hne) (by simp)
    rw [loopSet_succ _ hne, hcount] at hend
    exact congrArg Host.Outcome.next hend
  · have hdetails := rptDetails_eq (s := s) (kFlowDetails_none hs he) hn hb hr hnext
    refine ⟨fun hc => ?_, fun hc => ?_⟩
    · exact congrArg Host.Outcome.next (kIssue_done hi hf (by simp [hm])
        (hdetails.trans (detailIf_not (decide_eq_false (Nat.not_lt.mpr hc)) 5)) rfl (by simp))
    · exact congrArg Host.Outcome.next (kIssue_illegal hi hf (by simp [hm]) (hdetails.trans (detailIf_does (decide_eq_true hc) 5)))

end Sys2Proof.Machine
end

section
/-!
PROOF. The system group of a Kiltur core: the control registers as rdcr and wrcr see them, and what trap, brk, exret and wait come to.
-/

namespace Sys2Proof.Machine

/-! ### Control registers -/

/-- What rdcr sees of a listed control register, by the ranges of its number. -/
theorem cr_listed (c : Core) {n : Nat} (h : n ∈ crNumbers) :
    c.cr n = if n = 0 then c.psw else if n = 1 then c.vbase else if n = 2 then c.epc else if n = 3 then c.ecause
      else if n = 4 then c.estate else if n < 12 then c.ls.getD (n - 8) 0 else if n < 16 then c.le.getD (n - 12) 0
      else c.lc.getD (n - 16) 0 := by
  simp only [crNumbers, List.mem_cons, List.not_mem_nil, or_false] at h
  rcases h with rfl | rfl | rfl | rfl | rfl | rfl | rfl | rfl | rfl | rfl | rfl | rfl | rfl | rfl <;> rfl

theorem crMask_listed {n : Nat} (h : n ∈ crNumbers) :
    crMask n = if n = 0 then 0x7F else if n = 1 then 0xFFFFF000 else if n = 3 then 0x003F0F0F
      else if n = 4 then 0x001FFF7F else if n ≤ 14 then 0xFFFFFFFC else 0xFFFF := by
  simp only [crNumbers, List.mem_cons, List.not_mem_nil, or_false] at h
  rcases h with rfl | rfl | rfl | rfl | rfl | rfl | rfl | rfl | rfl | rfl | rfl | rfl | rfl | rfl <;> rfl

/-! ### The system group -/

section system
variable {s u : State} {x : Nat} {w : Word} {fn : Nat} {bad : Word → Bool} {details : Core → Word → List Nat}
  {f : Core → Word → KEnd} (hi : s.coreIssues x = true) (hf : s.fetch x = (u, .ok w)) (hm : kMajor w = 0x3C)
  (hz : bits w 0 5 = 0) (hfn : kFn w = fn) (hbad : bad w = false)
include hi hf hm hz hfn hbad

/-- A system instruction without a reserved field to which no further DETAIL code applies ends as its meaning says. -/
theorem kSys_ends (hd : details (u.core x) w = []) {e : KEnd} (he : f (u.core x) w = e) :
    s.kSys x fn bad details f = u.kEnd x (u.core x) w e :=
  kIssue_ends hi hf (by simp [hm, hfn]) (by rw [hd, detailIf_not (by simp [hz, hbad])]; rfl) (by rw [he])

theorem kSys_raise (hd : details (u.core x) w = []) {code detail : Nat} (he : f (u.core x) w = .raise code detail) :
    s.kSys x fn bad details f = u.setCore x ((u.core x).enter code detail 0) := kSys_ends hi hf hm hz hfn hbad hd he

theorem kSys_done (hd : details (u.core x) w = []) {ws : List KWrite} {flow : Flow}
    (he : f (u.core x) w = .done ws none flow) (hflow : flow ≠ .wait) :
    s.kSys x fn bad details f = u.setCore x ((u.core x).finish ws none flow) := by
  rw [kSys_ends hi hf hm hz hfn hbad hd he, State.kEnd, if_neg (by simpa using hflow)]

/-- An instruction that stops issue begins a wait. -/
theorem kSys_waits (hd : details (u.core x) w = []) (he : f (u.core x) w = .done [] none .wait) :
    s.kSys x fn bad details f = (u.waitBegin x).setCore x ((u.core x).finish [] none .wait) :=
  kSys_ends hi hf hm hz hfn hbad hd he

theorem kSys_illegal {d : Nat} (hd : details (u.core x) w = [d]) :
    s.kSys x fn bad details f = u.setCore x ((u.core x).enter 1 d 0) :=
  kIssue_illegal hi hf (by simp [hm, hfn]) (by rw [hd, detailIf_not (by simp [hz, hbad])]; rfl)

end system

/-- The return from an exception, field by field. -/
theorem leave_eq (d : Core) : d.leave = { d with
    psw := withBits (withBits d.psw 0 2 (bits d.estate 0 2)) 4 3 (bits d.estate 2 3)
    loopA := [bits d.estate 2 1 == 1, bits d.estate 3 1 == 1, bits d.estate 4 1 == 1]
    next := d.epc
    slot := none
    waiting := false
    rpt := if bits d.estate 6 1 = 1 then some (bits d.estate 8 13, true) else none } := by
  have hbit (i : Nat) (hi : i < 3) : (bits d.estate 2 3).testBit i = (bits d.estate (2 + i) 1 == 1) := by
    rw [testBit_bits, bits_one]
    cases d.estate.getLsbD (2 + i) <;> simp [hi]
  rw [Core.leave, hbit 0 (by decide), hbit 1 (by decide), hbit 2 (by decide)]

/-- The control registers that user level may not read. -/
theorem contains_hidden (n : Nat) : [1, 2, 3, 4].contains n = decide (1 ≤ n ∧ n ≤ 4) := by
  rw [Bool.eq_iff_iff, List.contains_iff_mem, decide_eq_true_eq]
  simp only [List.mem_cons, List.not_mem_nil, or_false]
  omega

theorem detail_listed {n : Nat} (h : n ∈ crNumbers) : detailIf (!crNumbers.contains n) 6 = [] :=
  detailIf_not (by rw [List.contains_iff_mem.mpr h]; rfl) 6

theorem detail_unlisted {n : Nat} (h : n ∉ crNumbers) : detailIf (!crNumbers.contains n) 6 = [6] :=
  detailIf_does (by rw [Bool.not_eq_true', ← Bool.not_eq_true, List.contains_iff_mem]; exact h) 6

/-- Settles O24, with each system instruction by the shared issue. -/
theorem kSystem : Obligations.KSystem := by
  unfold Obligations.KSystem
  intro s u x w hi hf hm hz c n done raise listed kept value
  refine ⟨fun hfn ha => ⟨fun hn => ?_, fun hn hu h1 h4 => ?_, fun hn hu => ?_⟩,
    fun hfn hd => ⟨fun hn => ?_, fun hn hu h4 => ?_, fun hn hu => ?_⟩,
    fun hs => ⟨fun hfn => ?_, fun hfn => ?_, fun hfn hb he hr => ⟨fun hu => ?_, fun hu => ?_⟩,
      fun hfn hb => ⟨fun hu => ?_, fun hu hirq => ?_, fun i hu hirq => ?_⟩⟩⟩
  · exact congrArg Host.Outcome.next (kSys_illegal hi hf hm hz hfn (by simp [ha]) (detail_unlisted hn))
  · exact congrArg Host.Outcome.next (kSys_raise hi hf hm hz hfn (by simp [ha]) (detail_listed hn)
      (if_pos (by rw [contains_hidden, hu, decide_eq_true ⟨h1, h4⟩]; rfl)))
  · have hopen : (!c.sup && [1, 2, 3, 4].contains n) = false := by
      rw [contains_hidden]
      rcases hu with h | h
      · rw [h]; rfl
      · rw [decide_eq_false (by omega), Bool.and_false]
    exact congrArg Host.Outcome.next (kSys_done hi hf hm hz hfn (by simp [ha]) (detail_listed hn)
      (by rw [hopen, cr_listed c hn]; rfl) (by simp))
  · exact congrArg Host.Outcome.next (kSys_illegal hi hf hm hz hfn (by simp [hd]) (detail_unlisted hn))
  · exact congrArg Host.Outcome.next (kSys_raise hi hf hm hz hfn (by simp [hd]) (detail_listed hn)
      (if_pos (by rw [hu, decide_eq_true h4]; rfl)))
  · have hopen : (!c.sup && decide (n ≤ 4)) = false := by
      rcases hu with h | h
      · rw [h]; rfl
      · rw [decide_eq_false (by omega), Bool.and_false]
    exact congrArg Host.Outcome.next (kSys_done hi hf hm hz hfn (by simp [hd]) (detail_listed hn)
      (by rw [hopen, crMask_listed hn]; rfl) (by simp))
  · exact congrArg Host.Outcome.next (kSys_raise hi hf hm hz hfn rfl (detailIf_not (by rw [hs]; rfl) 3) rfl)
  · exact congrArg Host.Outcome.next (kSys_raise hi hf hm hz hfn rfl (detailIf_not (by rw [hs]; rfl) 3) rfl)
  · exact congrArg Host.Outcome.next (kSys_raise hi hf hm hz hfn (by simp [hb])
      (by rw [kFlowDetails_none hs he, detailIf_not hr]; rfl) (if_pos (by rw [hu]; rfl)))
  · refine ⟨_, congrArg Host.Outcome.next (kSys_ends hi hf hm hz hfn (by simp [hb])
      (by rw [kFlowDetails_none hs he, detailIf_not hr]; rfl) (if_neg (by rw [hu]; decide))), ?_⟩
    exact congrArg (u.setCore x.val) (leave_eq c.landAll)
  · exact congrArg Host.Outcome.next (kSys_raise hi hf hm hz hfn (by simp [hb]) (detailIf_not (by rw [hs]; rfl) 3)
      (if_pos (by rw [hu]; rfl)))
  · exact congrArg Host.Outcome.next (kSys_waits hi hf hm hz hfn (by simp [hb]) (detailIf_not (by rw [hs]; rfl) 3)
      (by rw [hu, hirq]; rfl))
  · exact congrArg Host.Outcome.next (kSys_done hi hf hm hz hfn (by simp [hb]) (detailIf_not (by rw [hs]; rfl) 3)
      (by rw [hu, hirq]; rfl) (by simp))

end Sys2Proof.Machine
end

section
/-!
PROOF. The check bits of a core's own memory, and what rests on them: the events of a core and the dual fetch.
-/

namespace Sys2Proof.Machine

/-! ### Check bits of a core's memory -/

/-- What a core's read of its own memory can touch: the router, PAGE_IRQ, EVR_STATUS and CORE_ECC. -/
def eccMask : Nat := pulseMask ||| 1 <<< (64 + Reg.CORE_ECC.ctorIdx)

theorem coreEcc_agree (s : State) (x a n : Nat) : Agree eccMask s (s.coreEcc x a n).1 :=
  State.coreEcc_touch (by decide) (.refl _ s)

/-- The word at `a` has an uncorrectable error. -/
theorem privRead_uncorrectable {s : State} {x a w : Nat} (ha : a % 4 = 0) (hw : a / 8 * 8 = w)
    (h : s.ecc.find? (fun e => e.1 == w) = some (w, true)) : s.privRead x a 4 = (s, true) := by
  have hcount : (a % 8 + 4 + 7) / 8 = 1 := by omega
  unfold State.privRead
  extract_lets words
  have hwords : words = [w] := by rw [← hw]; simp only [words, hcount]; rfl
  rw [hwords, List.foldl_cons, List.foldl_nil]
  simp only [h]

/-- Private memories begin at a word. -/
theorem privBase_mod (x : Nat) : privBase x % 8 = 0 := by
  rw [privBase, Nat.add_mod, Nat.mul_mod, show 2 ^ 32 % 8 = 0 by decide]
  simp

theorem coreEcc_of_bad {s : State} {x a n : Nat} (h : s.privRead x (privBase x + a) n = (s, true)) : (s.coreEcc x a n).2 = true := by
  simp only [State.coreEcc, h]
  split <;> rfl

theorem coreEcc_uncorrectable {s : State} {x a : Nat} (ha : a % 4 = 0)
    (h : s.ecc.find? (fun e => e.1 == privBase x + a / 8 * 8) = some (privBase x + a / 8 * 8, true)) :
    (s.coreEcc x a 4).2 = true := by
  refine coreEcc_of_bad ?_
  have hbase := privBase_mod x
  generalize privBase x = b at h hbase ⊢
  exact privRead_uncorrectable (by omega) (by omega) h

/-- A fold none of whose steps changes anything. -/
theorem foldl_stays {α β : Type} {f : β → α → β} {b : β} {l : List α} (h : ∀ x ∈ l, f b x = b) : l.foldl f b = b := by
  induction l with
  | nil => rfl
  | cons x xs ih =>
    rw [List.foldl_cons, h x List.mem_cons_self]
    exact ih (fun y hy => h y (List.mem_cons_of_mem _ hy))

/-- No word of the bytes has an error. -/
theorem privRead_clean {s : State} {x a n : Nat} (h : ∀ e ∈ s.ecc, e.1 + 8 ≤ a ∨ a + n ≤ e.1) :
    s.privRead x a n = (s, false) := by
  refine foldl_stays (fun w hw => ?_)
  obtain ⟨k, hk, rfl⟩ := List.mem_map.mp hw
  have hnone : s.ecc.find? (fun e => e.1 == a / 8 * 8 + 8 * k) = none :=
    List.find?_eq_none.mpr (fun e he => by
      have := h e he
      have := List.mem_range.mp hk
      simp only [beq_iff_eq]
      omega)
  simp only [hnone]

theorem coreEcc_clean {s : State} {x a n : Nat} (h : ∀ e ∈ s.ecc, e.1 + 8 ≤ privBase x + a ∨ privBase x + a + n ≤ e.1) :
    s.coreEcc x a n = (s, false) := by
  simp only [State.coreEcc, privRead_clean h, Bool.not_false, Bool.true_or, if_true]

/-! ### The events of a core -/

theorem irqTaken_lowest {s : State} {x i : Nat} {enabled : Nat → Bool}
    (he : ∀ j, enabled j = if j < 32 then (s.irqWord x 0 &&& (s.core x).irqEn.getD 0 0#32).getLsbD j
      else (s.irqWord x 32 &&& (s.core x).irqEn.getD 1 0#32).getLsbD (j - 32))
    (hi : i < 64) (hon : enabled i = true) (hlow : ∀ j, j < i → enabled j = false) : s.irqTaken x = some i := by
  have hfun : enabled = fun j => if j < 32 then (s.irqWord x 0 &&& (s.core x).irqEn.getD 0 0#32).getLsbD j
      else (s.irqWord x 32 &&& (s.core x).irqEn.getD 1 0#32).getLsbD (j - 32) := funext he
  have hfind : (List.range 64).find? enabled = some i :=
    List.find?_range_eq_some.mpr ⟨hon, List.mem_range.mpr hi, fun j hj => by simp [hlow j hj]⟩
  rw [hfun] at hfind
  exact hfind

/-- Outside a delay slot, past a first iteration and without a data access in progress a core takes what is high and enabled. -/
theorem irqDue_open {s : State} {x : Nat} (hie : (s.core x).psw.getLsbD 1 = true) (hs : (s.core x).slot = none)
    (hr : ∀ k, (s.core x).rpt ≠ some (k, false)) (hst : (s.core x).stall = none) : s.irqDue x = s.irqTaken x := by
  cases h : (s.core x).rpt with
  | none => simp only [State.irqDue, h, hie, hs, hst, Option.isSome_none, Bool.not_true, Bool.or_self, Bool.false_eq_true, if_false]
  | some r =>
    obtain ⟨k, ran⟩ := r
    cases ran with
    | false => exact absurd h (hr k)
    | true => simp only [State.irqDue, h, hie, hs, hst, Option.isSome_none, Bool.not_true, Bool.or_self, Bool.false_eq_true, if_false]

theorem kInterrupt_takes {s : State} {x i : Nat} (hrun : s.coreRuns x = true) (hdue : s.irqDue x = some i) :
    s.kInterrupt x = s.setCore x ((s.core x).enter 9 0 i) := by
  simp only [State.kInterrupt, hrun, hdue, Bool.not_true, Bool.false_eq_true, if_false]
  rfl

theorem fetch_outside {s : State} {x : Nat} (hst : (s.core x).stall = none) (h : inImem x (s.core x).next = false) :
    s.fetch x = (s, .error 5) := by
  simp only [State.fetch, hst, h, Bool.not_false, if_true]

theorem fetch_uncorrectable {s : State} {x : Nat} (hst : (s.core x).stall = none) (h : inImem x (s.core x).next = true)
    (he : (s.coreEcc x (s.core x).next.toNat 4).2 = true) :
    s.fetch x = ((s.coreEcc x (s.core x).next.toNat 4).1, .error 10) := by
  simp only [State.fetch, hst, h, he, Bool.not_true, Bool.false_eq_true, if_false, if_true]

theorem kFetchError_raises {s t : State} {x code : Nat} (hi : s.coreIssues x = true) (hf : s.fetch x = (t, .error code)) :
    s.kFetchError x = t.setCore x ((t.core x).enter code 0 0) := by
  simp only [State.kFetchError, hi, hf, Bool.not_true, Bool.false_eq_true, if_false]
  rfl

theorem kIllegal_undefined {s u : State} {x : Nat} {w : Word} (hi : s.coreIssues x = true) (hf : s.fetch x = (u, .ok w))
    (hw : kUndefined w = true) : s.kIllegal x = u.setCore x ((u.core x).enter 1 0 0) := by
  unfold State.kIllegal
  exact kIssue_illegal hi hf (by simp [hw]) (by simp [hw])

theorem inImem_eq (x : Nat) (a : Word) : inImem x a = decide (a.toNat < if x = 0 then 0x8000 else 0x20000) := rfl

theorem core_of_cores {s t : State} (h : t.cores = s.cores) (x : Nat) : t.core x = s.core x := by
  rw [State.core, State.core, h]

/-- Settles O25, by what is due to a core, by the failing fetches and by the issue of an undefined word. -/
theorem kEvents : Obligations.KEvents := by
  unfold Obligations.KEvents
  intro s x c enabled
  refine ⟨fun i hrun hie hs hr hst hi hon hlow => ?_, fun hi hst => ⟨fun hout => ?_, fun hin herr hal => ?_,
    fun u w hf hw => ?_⟩⟩
  · have htaken := irqTaken_lowest (s := s) (x := x.val) (fun _ => rfl) hi hon hlow
    exact congrArg Host.Outcome.next (kInterrupt_takes hrun ((irqDue_open hie hs hr hst).trans htaken))
  · have hmem : inImem x.val c.next = false := by rw [inImem_eq]; exact decide_eq_false (Nat.not_lt.mpr hout)
    exact congrArg Host.Outcome.next (kFetchError_raises hi (fetch_outside hst hmem))
  · have hmem : inImem x.val c.next = true := by rw [inImem_eq]; exact decide_eq_true hin
    have hagree := coreEcc_agree s x.val c.next.toNat 4
    have hcores := hagree.cores_same (by decide)
    refine ⟨_, congrArg Host.Outcome.next (kFetchError_raises hi
      (fetch_uncorrectable hst hmem (coreEcc_uncorrectable hal herr))), ?_, ?_⟩
    · rw [core_of_cores hcores, State.setCore, hcores]
    · have hpart := (hagree.mono (M := eccMask ||| 1 <<< 27) (by decide)).set_cores (by decide)
      exact (hpart _).samePartsBut (by decide)
  · exact congrArg Host.Outcome.next (kIllegal_undefined hi hf hw)

end Sys2Proof.Machine
end

section
/-!
PROOF. The dual-fetch multiply-accumulate of a Kiltur core, over banks X and Y whose check bits show no error.
-/

namespace Sys2Proof.Machine

/-! ### The banks -/

/-- The bytes that bank X and bank Y of core `x` have. -/
def bankSize (x : Nat) : Nat := if x = 0 then 0x4000 else 0x10000

theorem bankSize_le (x : Nat) : bankSize x ≤ 0x10000 := by unfold bankSize; split <;> decide

theorem bankOfCore_x {x a : Nat} (h : 0x20000 ≤ a ∧ a < 0x20000 + bankSize x) : bankOfCore x a = 1 := if_pos h

theorem bankOfCore_y {x a : Nat} (h : 0x30000 ≤ a ∧ a < 0x30000 + bankSize x) : bankOfCore x a = 2 := by
  have hsize := bankSize_le x
  exact (if_neg (by change ¬(_ ∧ a < 0x20000 + bankSize x); omega)).trans (if_pos h)

theorem bankOfCore_none {x a : Nat} (hx : ¬(0x20000 ≤ a ∧ a < 0x20000 + bankSize x))
    (hy : ¬(0x30000 ≤ a ∧ a < 0x30000 + bankSize x)) : bankOfCore x a = 0 := (if_neg hx).trans (if_neg hy)

theorem bounds_of_bank {x a : Nat} (h : bankOfCore x a ≠ 0) : 0x20000 ≤ a ∧ a < 0x40000 := by
  have hsize := bankSize_le x
  by_contra hout
  exact h (bankOfCore_none (by omega) (by omega))

/-- The check bits of the own memory of core `x` show no error. -/
def State.privClean (s : State) (x : Nat) : Prop := ∀ e ∈ s.ecc, e.1 < privBase x ∨ privBase x + 0x40000 ≤ e.1

theorem dualEcc_clean {s : State} {x : Nat} (h : s.privClean x) (a : Nat) (read : Bool) : s.dualEcc x a read = (s, false) := by
  unfold State.dualEcc
  split
  · rename_i hc
    simp only [Bool.and_eq_true, bne_iff_ne, ne_eq, beq_iff_eq] at hc
    obtain ⟨⟨-, hbank⟩, hal⟩ := hc
    have hb := bounds_of_bank hbank
    exact coreEcc_clean (fun e he => by
      have := h e he
      generalize privBase x = b at *
      omega)
  · rfl

/-! ### The end of a dual fetch -/

/-- The two operand addresses are in one bank. -/
def dualSame (x ax ay : Nat) : Bool := bankOfCore x ax != 0 && bankOfCore x ax == bankOfCore x ay

/-- What a dual fetch comes to when its operands show no error. -/
def State.dualEnd (s : State) (x : Nat) (c : Core) (w : Word) (f : BitVec 72 → BitVec 72 → BitVec 72) : KEnd :=
  let rx := bits w 20 5
  let ry := bits w 15 5
  let ax := (c.gr rx).toNat
  let ay := (c.gr ry).toNat
  if ax % 4 ≠ 0 ∨ ay % 4 ≠ 0 then .raise 3 0
  else if dualSame x ax ay && c.psw.getLsbD 2 then .raise 6 0
  else if bankOfCore x ax = 0 ∨ bankOfCore x ay = 0 then .raise 4 0
  else
    let vx := BitVec.ofNat 32 (s.memVal (privBase x + ax) 4)
    let vy := if dualSame x ax ay then vx else BitVec.ofNat 32 (s.memVal (privBase x + ay) 4)
    let a := bits w 25 1
    .done ((if bits w 12 1 = 1 then [(CoreDest.g rx, c.gr rx + 4#32, 1)] else []) ++
      (if bits w 11 1 = 1 then [(CoreDest.g ry, c.gr ry + 4#32, 1)] else []) ++
      (if dualSame x ax ay then [(CoreDest.dfc, 1#32, 4)] else [])) (some (a, f (c.accum a) (prod72 vx vy))) .seq

theorem kDual_ends {s u : State} {x : Nat} {w : Word} (hi : s.coreIssues x = true) (hf : s.fetch x = (u, .ok w))
    (hm : kMajor w = 0x34) (hz : bits w 0 11 = 0) (hclean : u.privClean x) {op : Nat} (hop : bits w 13 2 = op)
    (f : BitVec 72 → BitVec 72 → BitVec 72) :
    s.kDual x op f = u.kEnd x (u.core x) w (u.dualEnd x (u.core x) w f) := by
  refine kIssue_ends hi hf (by simp [hm, hop]) (detailIf_not (by simp [hz]) 1) (Prod.ext ?_ ?_)
  · simp only [dualEcc_clean hclean, Bool.or_self, Bool.false_eq_true, if_false, apply_ite Prod.fst, ite_self]
  · simp only [dualEcc_clean hclean, Bool.or_self, Bool.false_eq_true, if_false, apply_ite Prod.snd, State.dualEnd, dualSame]
    rfl

theorem prod72_eq (a b : Word) : prod72 a b = BitVec.ofInt 72 (a.toInt * b.toInt) := (BitVec.ofInt_mul _ _).symm

theorem add_ofInt72 (a : BitVec 72) (p : Int) : a + BitVec.ofInt 72 p = BitVec.ofInt 72 (a.toInt + p) := by
  rw [BitVec.ofInt_add, BitVec.ofInt_toInt]

theorem sub_ofInt72 (a : BitVec 72) (p : Int) : a - BitVec.ofInt 72 p = BitVec.ofInt 72 (a.toInt - p) := by
  rw [BitVec.sub_eq_add_neg, ← BitVec.ofInt_neg, add_ofInt72, Int.sub_eq_add_neg]

section ends
variable {s : State} {x : Nat} {c : Core} {w : Word} {f : BitVec 72 → BitVec 72 → BitVec 72} {ax ay : Nat}
  (hax : (c.gr (bits w 20 5)).toNat = ax) (hay : (c.gr (bits w 15 5)).toNat = ay)
include hax hay

theorem dualEnd_misaligned (h : ax % 4 ≠ 0 ∨ ay % 4 ≠ 0) : s.dualEnd x c w f = .raise 3 0 := by
  subst hax hay
  exact if_pos h

section aligned
variable (hal : ¬(ax % 4 ≠ 0 ∨ ay % 4 ≠ 0))
include hal

theorem dualEnd_conflict (hsame : dualSame x ax ay = true) (hdfx : c.psw.getLsbD 2 = true) : s.dualEnd x c w f = .raise 6 0 := by
  subst hax hay
  exact (if_neg hal).trans (if_pos (by rw [hsame, hdfx]; rfl))

theorem dualEnd_outside (h : bankOfCore x ax = 0 ∨ bankOfCore x ay = 0) : s.dualEnd x c w f = .raise 4 0 := by
  have hsame : dualSame x ax ay = false := by
    rw [dualSame]
    by_cases h0 : bankOfCore x ax = 0
    · rw [h0]; rfl
    · rw [h.resolve_left h0, beq_false_of_ne h0, Bool.and_false]
  subst hax hay
  exact (if_neg hal).trans ((if_neg (by rw [hsame]; simp)).trans (if_pos h))

/-- The writes of a dual fetch: the updates of its registers, and what the second operand adds. -/
def dualWrites (c : Core) (w : Word) (dfc : List KWrite) : List KWrite :=
  (if bits w 12 1 = 1 then [(.g (bits w 20 5), c.gr (bits w 20 5) + 4#32, 1)] else []) ++
    (if bits w 11 1 = 1 then [(.g (bits w 15 5), c.gr (bits w 15 5) + 4#32, 1)] else []) ++ dfc

variable (hb : ¬(bankOfCore x ax = 0 ∨ bankOfCore x ay = 0))
include hb

/-- Both operands in one bank: the first one's data, and DFC. -/
theorem dualEnd_same (hsame : dualSame x ax ay = true) (hdfx : c.psw.getLsbD 2 = false) :
    s.dualEnd x c w f = .done (dualWrites c w [(.dfc, 1#32, 4)]) (some (bits w 25 1, f (c.accum (bits w 25 1))
      (prod72 (BitVec.ofNat 32 (s.memVal (privBase x + ax) 4)) (BitVec.ofNat 32 (s.memVal (privBase x + ax) 4))))) .seq := by
  subst hax hay
  refine (if_neg hal).trans ((if_neg (by rw [hdfx]; simp)).trans ((if_neg hb).trans ?_))
  rw [hsame]
  rfl

theorem dualEnd_apart (hsame : dualSame x ax ay = false) :
    s.dualEnd x c w f = .done (dualWrites c w []) (some (bits w 25 1, f (c.accum (bits w 25 1))
      (prod72 (BitVec.ofNat 32 (s.memVal (privBase x + ax) 4)) (BitVec.ofNat 32 (s.memVal (privBase x + ay) 4))))) .seq := by
  subst hax hay
  refine (if_neg hal).trans ((if_neg (by rw [hsame]; simp)).trans ((if_neg hb).trans ?_))
  rw [hsame]
  rfl

end aligned

end ends

/-! ### The statement -/

theorem dualSame_of_banks {x ax ay k : Nat} (hk : k ≠ 0) (hx : bankOfCore x ax = k) (hy : bankOfCore x ay = k) :
    dualSame x ax ay = true := by simp [dualSame, hx, hy, hk]

theorem dualSame_of_apart {x ax ay : Nat} (h : bankOfCore x ax ≠ bankOfCore x ay) : dualSame x ax ay = false := by
  rw [dualSame, beq_false_of_ne h, Bool.and_false]

/-- Settles O23, by the end of a dual fetch in each placing of its operands. -/
theorem kDualFetch : Obligations.KDualFetch := by
  unfold Obligations.KDualFetch
  intro s u x w hi hf hm hz hclean c rx ry ax ay size inX inY same word raise acc ws done ends
  have hX {a : Nat} (h : inX a) : bankOfCore x.val a = 1 := bankOfCore_x h
  have hY {a : Nat} (h : inY a) : bankOfCore x.val a = 2 := bankOfCore_y h
  have hnone {a : Nat} (h : ¬inX a ∧ ¬inY a) : bankOfCore x.val a = 0 := bankOfCore_none h.1 h.2
  have hsame (h : same) : dualSame x.val ax ay = true ∧ ¬(bankOfCore x.val ax = 0 ∨ bankOfCore x.val ay = 0) := by
    rcases h with ⟨h1, h2⟩ | ⟨h1, h2⟩
    · exact ⟨dualSame_of_banks one_ne_zero (hX h1) (hX h2), by simp [hX h1, hX h2]⟩
    · exact ⟨dualSame_of_banks two_ne_zero (hY h1) (hY h2), by simp [hY h1, hY h2]⟩
  have hapart (h : (inX ax ∧ inY ay) ∨ (inY ax ∧ inX ay)) :
      dualSame x.val ax ay = false ∧ ¬(bankOfCore x.val ax = 0 ∨ bankOfCore x.val ay = 0) := by
    rcases h with ⟨h1, h2⟩ | ⟨h1, h2⟩
    · exact ⟨dualSame_of_apart (by simp [hX h1, hY h2]), by simp [hX h1, hY h2]⟩
    · exact ⟨dualSame_of_apart (by simp [hY h1, hX h2]), by simp [hY h1, hX h2]⟩
  have key (op : Nat) (i : Instr) (f : BitVec 72 → BitVec 72 → BitVec 72) (g : Int → Int)
      (hex : exec i s = .next (s.kDual x.val op f)) (hop : bits w 13 2 = op)
      (hfg : ∀ p : Int, f (c.accum (bits w 25 1)) (BitVec.ofInt 72 p) = BitVec.ofInt 72 (g p)) : ends i g := by
    rw [kDual_ends hi hf hm hz hclean hop f] at hex
    refine ⟨fun h => ?_, fun hx hy => ?_⟩
    · rw [hex, dualEnd_misaligned rfl rfl h]
      rfl
    · have hal : ¬(ax % 4 ≠ 0 ∨ ay % 4 ≠ 0) := by omega
      refine ⟨fun h hd => ?_, fun h hd => ?_, fun h => ?_, fun h => ?_⟩
      · rw [hex, dualEnd_conflict rfl rfl hal (hsame h).1 hd]
        rfl
      · rw [hex, dualEnd_same rfl rfl hal (hsame h).2 (hsame h).1 hd, prod72_eq, hfg]
        rfl
      · rw [hex, dualEnd_apart rfl rfl hal (hapart h).2 (hapart h).1, prod72_eq, hfg]
        rfl
      · rw [hex, dualEnd_outside rfl rfl hal (h.imp hnone hnone)]
        rfl
  exact ⟨fun hop => key 0 (.kMacD x) (fun a p => a + p) (fun p => acc + p) rfl hop (add_ofInt72 _),
    fun hop => key 1 (.kMsuD x) (fun a p => a - p) (fun p => acc - p) rfl hop (sub_ofInt72 _),
    fun hop => key 2 (.kMulaD x) (fun _ p => p) (fun p => p) rfl hop (fun _ => rfl)⟩

end Sys2Proof.Machine
end

section
/-!
PROOF. How pending writes of a Kiltur core land beside its flow, what entry to an exception saves, and how an instruction completes.
-/

namespace Sys2Proof.Machine

/-! ### Where a write lands -/

theorem landCr_flow (c : Core) (n : Nat) (v : Word) :
    (c.landCr n v).next = c.next ∧ (c.landCr n v).slot = c.slot ∧ (c.landCr n v).rpt = c.rpt := by
  unfold Core.landCr
  split <;> exact ⟨rfl, rfl, rfl⟩

/-- A write that lands leaves where the core stands. -/
theorem land_flow (c : Core) (w : CoreWrite) :
    (c.land w).next = c.next ∧ (c.land w).slot = c.slot ∧ (c.land w).rpt = c.rpt := by
  unfold Core.land
  split
  case h_1 n _ => split <;> exact ⟨rfl, rfl, rfl⟩
  case h_2 n _ => exact landCr_flow c n _
  all_goals exact ⟨rfl, rfl, rfl⟩

theorem foldl_land_flow (l : List CoreWrite) : ∀ c : Core,
    (l.foldl Core.land c).next = c.next ∧ (l.foldl Core.land c).slot = c.slot ∧ (l.foldl Core.land c).rpt = c.rpt := by
  induction l with
  | nil => exact fun c => ⟨rfl, rfl, rfl⟩
  | cons w l ih =>
    intro c
    obtain ⟨hn, hs, hr⟩ := ih (c.land w)
    obtain ⟨gn, gs, gr⟩ := land_flow c w
    exact ⟨hn.trans gn, hs.trans gs, hr.trans gr⟩

/-- The core with the pending writes `l`. -/
def Core.withWrites (c : Core) (l : List CoreWrite) : Core := { c with writes := l }

theorem landCr_withWrites (c : Core) (n : Nat) (v : Word) (l : List CoreWrite) :
    (c.withWrites l).landCr n v = (c.landCr n v).withWrites l := by
  unfold Core.landCr
  split <;> rfl

/-- A write lands the same whatever else is pending. -/
theorem land_withWrites (c : Core) (w : CoreWrite) (l : List CoreWrite) :
    (c.withWrites l).land w = (c.land w).withWrites l := by
  unfold Core.land
  split
  case h_1 n _ => split <;> rfl
  case h_2 n _ => exact landCr_withWrites c n _ l
  all_goals rfl

theorem foldl_land_withWrites (l due : List CoreWrite) : ∀ c : Core,
    due.foldl Core.land (c.withWrites l) = (due.foldl Core.land c).withWrites l := by
  induction due with
  | nil => exact fun _ => rfl
  | cons w due ih =>
    intro c
    rw [List.foldl_cons, land_withWrites, ih]
    rfl

theorem landAll_writes (c : Core) : c.landAll.writes = [] := by
  rw [Core.landAll, show ({ c with writes := [] } : Core) = c.withWrites [] from rfl, foldl_land_withWrites]
  rfl

theorem landAll_flow (c : Core) : c.landAll.next = c.next ∧ c.landAll.slot = c.slot ∧ c.landAll.rpt = c.rpt :=
  foldl_land_flow c.writes { c with writes := [] }

/-! ### Entry to an exception -/

/-- What ESTATE holds of a repetition: RV and the iterations left. -/
def rptState : Option (Nat × Bool) → Nat
  | some (k, _) => 2 ^ 6 + 2 ^ 8 * k
  | none => 0

/-- What ESTATE holds of a delay slot: BD. -/
def slotState (o : Option (Word × Option Word)) : Nat := if o.isSome then 2 ^ 5 else 0

theorem enter_estate (c : Core) (code detail input : Nat) : (c.enter code detail input).estate =
    BitVec.ofNat 32 (bits c.landAll.psw 0 1 + 2 * bits c.landAll.psw 1 1 + 4 * bits c.landAll.psw 4 3 + slotState c.slot
      + rptState c.rpt) := by
  obtain ⟨-, hs, hr⟩ := landAll_flow c
  rw [← hs, ← hr]
  rfl

theorem enter_epc (c : Core) (code detail input : Nat) :
    (c.enter code detail input).epc = (match c.slot with | some (b, _) => b | none => c.next) := by
  obtain ⟨hn, hs, -⟩ := landAll_flow c
  rw [← hs, ← hn]
  rfl

theorem bits_ofNat (m lo w : Nat) (h : m < 2 ^ 32) : bits (BitVec.ofNat 32 m) lo w = m / 2 ^ lo % 2 ^ w := by
  rw [bits_eq, BitVec.toNat_ofNat, Nat.mod_eq_of_lt h]

/-- The fields of ESTATE: SUP, IE, LA, BD, RV, the iterations left, and 0 in the bits between and above. -/
theorem estate_fields {sup ie la bd rv k m : Nat} (hsup : sup < 2) (hie : ie < 2) (hla : la < 8) (hbd : bd < 2) (hrv : rv < 2)
    (hk : k ≤ 4096) (hm : m = sup + 2 * ie + 4 * la + 2 ^ 5 * bd + (2 ^ 6 * rv + 2 ^ 8 * k)) :
    let e := BitVec.ofNat 32 m
    bits e 0 1 = sup ∧ bits e 1 1 = ie ∧ bits e 2 3 = la ∧ bits e 5 1 = bd ∧ bits e 6 1 = rv ∧ bits e 7 1 = 0 ∧ bits e 8 13 = k ∧
      bits e 21 11 = 0 := by
  intro e
  have h : m < 2 ^ 32 := by omega
  simp only [e, bits_ofNat _ _ _ h]
  refine ⟨?_, ?_, ?_, ?_, ?_, ?_, ?_, ?_⟩ <;> omega

theorem ecause_fields {code detail input : Nat} (hc : code < 16) (hd : detail < 16) (hi : input < 64) :
    let e := BitVec.ofNat 32 (code + 2 ^ 8 * detail + 2 ^ 16 * input)
    bits e 0 4 = code ∧ bits e 8 4 = detail ∧ bits e 16 6 = input := by
  intro e
  have h : code + 2 ^ 8 * detail + 2 ^ 16 * input < 2 ^ 32 := by omega
  simp only [e, bits_ofNat _ _ _ h]
  refine ⟨?_, ?_, ?_⟩ <;> omega

/-- Entry sets SUP and clears IE and LA, and leaves the rest of PSW. -/
theorem enter_psw_fields (p : Word) :
    let e := withBits (withBits p 0 2 1) 4 3 0
    bits e 0 1 = 1 ∧ bits e 1 1 = 0 ∧ bits e 4 3 = 0 ∧ bits e 2 2 = bits p 2 2 := by
  intro e
  have h : bits e 0 2 = 1 := by
    rw [bits_withBits_other _ _ _ _ _ _ (by decide), bits_withBits_same _ _ _ _ (by decide)]
    rfl
  refine ⟨?_, ?_, bits_withBits_same _ _ _ _ (by decide), ?_⟩
  · rw [bits_eq] at h ⊢; omega
  · rw [bits_eq] at h ⊢; omega
  · rw [bits_withBits_other _ _ _ _ _ _ (by decide), bits_withBits_other _ _ _ _ _ _ (by decide)]

/-- Settles O26: entry lands the pending writes, saves the address, the level and the repetition, and goes to the handler. -/
theorem kEntry : Obligations.KEntry := by
  unfold Obligations.KEntry
  intro c code detail input hcode hdetail hinput hk d e
  obtain ⟨hsup, hie, hla⟩ : bits d.psw 0 1 < 2 ∧ bits d.psw 1 1 < 2 ∧ bits d.psw 4 3 < 8 :=
    ⟨Nat.mod_lt _ (by decide), Nat.mod_lt _ (by decide), Nat.mod_lt _ (by decide)⟩
  have hslot : slotState c.slot = 2 ^ 5 * (if c.slot.isSome then 1 else 0) := by unfold slotState; split <;> rfl
  have hbd : (if c.slot.isSome then 1 else 0) < 2 := by split <;> decide
  obtain ⟨hcode', hdetail', hinput'⟩ := ecause_fields hcode hdetail hinput
  obtain ⟨psup, pie, pla, pkeep⟩ := enter_psw_fields d.psw
  have hest : e.estate = BitVec.ofNat 32 (bits d.psw 0 1 + 2 * bits d.psw 1 1 + 4 * bits d.psw 4 3 + slotState c.slot
      + rptState c.rpt) := enter_estate c code detail input
  refine ⟨landAll_writes c, rfl, rfl, rfl, enter_epc c code detail input, ?_⟩
  rw [hest, hslot]
  cases hr : c.rpt with
  | none =>
    obtain ⟨e0, e1, e2, e5, e6, e7, e8, e21⟩ := estate_fields hsup hie hla hbd (by decide : 0 < 2) (by decide : 0 ≤ 4096) rfl
    exact ⟨e0, e1, e2, e5, nofun, fun _ => ⟨e6, e8⟩, e7, e21, hcode', hdetail', hinput', psup, pie, pla, pkeep, rfl, rfl, rfl, rfl⟩
  | some p =>
    obtain ⟨k, b⟩ := p
    obtain ⟨e0, e1, e2, e5, e6, e7, e8, e21⟩ := estate_fields hsup hie hla hbd (by decide : 1 < 2) (hk k b hr) rfl
    refine ⟨e0, e1, e2, e5, ?_, nofun, e7, e21, hcode', hdetail', hinput', psup, pie, pla, pkeep, rfl, rfl, rfl, rfl⟩
    intro k' b' hkb
    cases hkb
    exact ⟨e6, e8⟩

end Sys2Proof.Machine
end

section
/-!
PROOF. How an instruction of a Kiltur core completes: what is due lands with its writes, and the loop ends decide where it goes on.
-/

namespace Sys2Proof.Machine

/-! ### Loop ends -/

/-- Loop `n` of the core is active and ends at `a`. -/
def Core.endsAt (c : Core) (a : Word) (n : Nat) : Bool := c.loopA.getD n false && c.loopE.getD n 0#32 == a

theorem endsAt_eq_true {c : Core} {a : Word} {n : Nat} (ha : c.loopA.getD n false = true) (he : c.loopE.getD n 0#32 = a) :
    c.endsAt a n = true := by rw [Core.endsAt, ha, he]; exact beq_self_eq_true a

theorem endsAt_eq_false {c : Core} {a : Word} {n : Nat} (h : ¬(c.loopA.getD n false = true ∧ c.loopE.getD n 0#32 = a)) :
    c.endsAt a n = false := by
  rw [Core.endsAt, Bool.eq_false_iff]
  intro hend
  rw [Bool.and_eq_true, beq_iff_eq] at hend
  exact h hend

theorem atEnd_none {c : Core} {a : Word} (h : c.atEnd a = false) {n : Nat} (hn : n < 3) : c.endsAt a n = false :=
  Bool.not_eq_true _ |>.mp (List.any_eq_false.mp h n (List.mem_range.mpr hn))

theorem loopTest_skips {c : Core} {a : Word} {n : Nat} (ws : List KWrite) (h : c.endsAt a n = false) :
    c.loopTest a (n + 1) ws = c.loopTest a n ws := by
  rw [Core.loopTest, ← Core.endsAt, h]
  rfl

/-- Loops from `n + 1` up to `k` that do not end here are passed over. -/
theorem loopTest_above {c : Core} {a : Word} {n : Nat} (ws : List KWrite) : ∀ k, (∀ m, n < m → m < n + 1 + k → c.endsAt a m = false) →
    c.loopTest a (n + 1 + k) ws = c.loopTest a (n + 1) ws
  | 0, _ => rfl
  | k + 1, h => (loopTest_skips ws (h (n + 1 + k) (by omega) (by omega))).trans
      (loopTest_above ws k fun m hm hk => h m hm (by omega))

/-- The test from the top comes to the loop above which none ends here. -/
theorem loopTest_at {c : Core} {a : Word} {n : Nat} (ws : List KWrite) (hn : n < 3)
    (h : ∀ m, n < m → m < 3 → c.endsAt a m = false) : c.loopTest a 3 ws = c.loopTest a (n + 1) ws := by
  obtain ⟨k, hk⟩ : ∃ k, 3 = n + 1 + k := ⟨2 - n, by omega⟩
  rw [hk] at h ⊢
  exact loopTest_above ws k h

/-- Where no loop ends the core goes on behind the instruction. -/
theorem loopTest_none {c : Core} {a : Word} (ws : List KWrite) : ∀ k, (∀ m, m < k → c.endsAt a m = false) →
    c.loopTest a k ws = (c, ws, a + 4#32)
  | 0, _ => rfl
  | k + 1, h => (loopTest_skips ws (h k (by omega))).trans (loopTest_none ws k fun m hm => h m (by omega))

/-- The end of a loop with iterations left goes back to its start. -/
theorem loopTest_back {c : Core} {a : Word} {n : Nat} (ws : List KWrite) (h : c.endsAt a n = true) (hk : 1 < c.loopC.getD n 0) :
    c.loopTest a (n + 1) ws = ({ c with loopC := c.loopC.set n (c.loopC.getD n 0 - 1) },
      ws ++ [(CoreDest.lc n, BitVec.ofNat 32 (c.loopC.getD n 0 - 1), 4)], c.loopS.getD n 0#32) := by
  rw [Core.loopTest, ← Core.endsAt, h]
  simp only [Bool.not_true, Bool.false_eq_true, if_false, if_pos hk]

/-- Loop `n` of the core has run its last iteration. -/
def Core.loopOver (c : Core) (n : Nat) : Core := { c with loopC := c.loopC.set n 0, loopA := c.loopA.set n false }

theorem loopTest_over {c : Core} {a : Word} {n : Nat} (ws : List KWrite) (h : c.endsAt a n = true) (hk : c.loopC.getD n 0 ≤ 1) :
    c.loopTest a (n + 1) ws = (c.loopOver n).loopTest a n (ws ++ [(CoreDest.lc n, 0#32, 4), (CoreDest.la n, 0#32, 4)]) := by
  rw [Core.loopTest, ← Core.endsAt, h]
  simp only [Bool.not_true, Bool.false_eq_true, if_false, if_neg (Nat.not_lt.mpr hk)]
  rfl

theorem loopOver_endsAt (c : Core) (a : Word) {n m : Nat} (h : m ≠ n) : (c.loopOver n).endsAt a m = c.endsAt a m := by
  have hget : (c.loopA.set n false).getD m false = c.loopA.getD m false := by
    simp only [List.getD_eq_getElem?_getD, List.getElem?_set_ne h.symm]
  rw [Core.endsAt, Core.endsAt, ← hget]
  rfl

/-- What the loop ends write is seen by rdcr at distance 4. -/
theorem loopTest_late (a : Word) : ∀ (n : Nat) (c : Core) (ws : List KWrite), (∀ w ∈ ws, w.2.2 = 4) →
    ∀ w ∈ (c.loopTest a n ws).2.1, w.2.2 = 4
  | 0, _, _, h => h
  | n + 1, c, ws, h => by
    cases hend : c.endsAt a n with
    | false => rw [loopTest_skips ws hend]; exact loopTest_late a n c ws h
    | true =>
      by_cases hk : 1 < c.loopC.getD n 0
      · rw [loopTest_back ws hend hk]
        exact List.forall_mem_append.mpr ⟨h, by simp⟩
      · rw [loopTest_over ws hend (by omega)]
        exact loopTest_late a n _ _ (List.forall_mem_append.mpr ⟨h, by simp⟩)

theorem advance_late (c : Core) (f : Flow) : ∀ w ∈ (c.advance f).2, w.2.2 = 4 := by
  unfold Core.advance
  split
  · split
    · exact nofun
    · exact loopTest_late _ _ _ _ nofun
  · exact nofun
  · exact nofun
  · exact nofun
  · split <;> exact nofun
  · exact loopTest_late _ _ _ _ nofun

/-! ### Completion -/

/-- The pending writes, one instruction nearer. -/
def Core.older (c : Core) : List CoreWrite := c.writes.map fun x => { x with left := x.left - 1 }

/-- The pending writes that the writes `ws` of an instruction become. -/
def freshWrites (ws : List KWrite) : List CoreWrite := ws.map fun x => ⟨x.1, x.2.1, x.2.2 - 1⟩

/-- The core whose instruction neither waits nor has a data access in progress. -/
def Core.begun (c : Core) : Core := { c with waiting := false, stall := none }

/-- The core where its instruction takes it, and what the loop ends write. -/
def Core.moved (c : Core) (f : Flow) : Core × List KWrite := c.begun.advance f

/-- The writes of `l` that land now. -/
def landsNow (l : List CoreWrite) : List CoreWrite := l.filter fun w => w.left == 0

/-- The writes of `l` that stay pending. -/
def landsLater (l : List CoreWrite) : List CoreWrite := l.filter fun w => w.left != 0

theorem landsNow_append (l m : List CoreWrite) : landsNow (l ++ m) = landsNow l ++ landsNow m := List.filter_append ..

theorem landsNow_late {ws : List KWrite} (h : ∀ w ∈ ws, 2 ≤ w.2.2) : landsNow (freshWrites ws) = [] := by
  rw [landsNow, List.filter_eq_nil_iff]
  intro w hw
  obtain ⟨x, hx, rfl⟩ := List.mem_map.mp hw
  have := h x hx
  simp only [beq_iff_eq]
  omega

theorem finish_lands (c : Core) (ws : List KWrite) (f : Flow) : c.finish ws none f =
    ((landsNow (c.older ++ freshWrites (ws ++ (c.moved f).2))).foldl Core.land (c.moved f).1).withWrites
      (landsLater (c.older ++ freshWrites (ws ++ (c.moved f).2))) :=
  foldl_land_withWrites (landsLater (c.older ++ freshWrites (ws ++ (c.moved f).2))) (landsNow (c.older ++ freshWrites (ws ++ (c.moved f).2)))
    (c.moved f).1

theorem moved_late (c : Core) (f : Flow) : landsNow (freshWrites (c.moved f).2) = [] :=
  landsNow_late fun w hw => by rw [advance_late _ f w hw]; decide

/-- What lands when an instruction completes: what was due, then its own writes at distance 1. -/
theorem finish_landsNow (c : Core) (ws : List KWrite) (f : Flow) :
    landsNow (c.older ++ freshWrites (ws ++ (c.moved f).2)) = landsNow c.older ++ landsNow (freshWrites ws) := by
  rw [freshWrites, List.map_append, ← freshWrites, ← freshWrites, landsNow_append, landsNow_append, moved_late, List.append_nil]

theorem finish_g (c : Core) (ws : List KWrite) (f : Flow) :
    (c.finish ws none f).g = ((landsNow (freshWrites ws)).foldl Core.land (c.finish [] none f)).g := by
  rw [finish_lands, finish_lands c [], finish_landsNow, finish_landsNow c [], foldl_land_withWrites, List.foldl_append]
  simp only [freshWrites, List.map_nil, landsNow, List.filter_nil, List.append_nil]
  rfl

/-- With no write pending nothing lands, and the core is where its instruction takes it. -/
theorem finish_moved {c : Core} (h : c.writes = []) (f : Flow) :
    c.finish [] none f = (c.moved f).1.withWrites (landsLater (freshWrites (c.moved f).2)) := by
  have hold : c.older = [] := by rw [Core.older, h]; rfl
  rw [finish_lands, finish_landsNow, hold]
  rfl

theorem advance_seq {c d : Core} {ws : List KWrite} {n : Word} (hr : c.rpt = none) (hs : c.slot = none)
    (h : c.loopTest c.next 3 [] = (d, ws, n)) : c.advance .seq = ({ d with next := n, waiting := false }, ws) := by
  cases c
  cases hr
  cases hs
  simp only [Core.advance, h]
  rfl

theorem advance_branch {c : Core} (hr : c.rpt = none) (hs : c.slot = none) (t : Option Word) :
    c.advance (.branch t) = ({ c with slot := some (c.next, t), next := c.next + 4#32 }, []) := by
  cases c
  cases hr
  cases hs
  rfl

theorem advance_slot {c : Core} {b t : Word} (hr : c.rpt = none) (hs : c.slot = some (b, some t)) (f : Flow) :
    c.advance f = ({ c with slot := none, next := t }, []) := by
  cases c
  cases hr
  cases hs
  rfl

theorem advance_rpt {c : Core} {k : Nat} {b : Bool} (hr : c.rpt = some (k, b)) (hk : 1 < k) (f : Flow) :
    c.advance f = ({ c with rpt := some (k - 1, true) }, []) := by
  cases c
  cases hr
  exact if_pos hk

/-- Settles O27: what is due lands in order with the instruction's own writes, and the flow goes as the slot, the loop ends and the
repetition say. -/
theorem kPipeline : Obligations.KPipeline := by
  unfold Obligations.KPipeline
  refine ⟨fun c n v f hn => ⟨?_, ?_⟩, fun c n d v f hd => ⟨?_, ?_⟩, fun c hw hr => ⟨?_, ?_, ?_, ?_, ?_⟩, fun c k b hw hr hk => ?_⟩
  · rw [finish_g, show landsNow (freshWrites [(.g n, v, 1)]) = [⟨.g n, v, 0⟩] from rfl, List.foldl_cons, List.foldl_nil, Core.land]
    simp only [if_neg hn]
  · rw [finish_g, show landsNow (freshWrites [(.g 0, v, 1)]) = [⟨.g 0, v, 0⟩] from rfl, List.foldl_cons, List.foldl_nil, Core.land]
    simp only [if_true]
  · rw [finish_g, landsNow_late (by simpa using hd)]
    rfl
  · rw [finish_lands]
    refine List.mem_filter.mpr ⟨List.mem_append_right _ List.mem_cons_self, ?_⟩
    simp only [bne_iff_ne]
    omega
  · intro hs hend
    have hnone := loopTest_none [] 3 fun m hm => atEnd_none (c := c.begun) hend hm
    rw [finish_moved hw, Core.moved, advance_seq (c := c.begun) hr hs hnone]
    rfl
  · intro t hs
    rw [finish_moved hw, Core.moved, advance_branch (c := c.begun) hr hs]
    exact ⟨rfl, rfl⟩
  · intro b t hs
    rw [finish_moved hw, Core.moved, advance_slot (c := c.begun) hr hs]
    exact ⟨rfl, rfl⟩
  · intro n hs hn ha he hk habove
    have hback := loopTest_at (c := c.begun) [] hn fun m hm h3 => endsAt_eq_false (habove m hm h3)
    rw [loopTest_back [] (endsAt_eq_true (c := c.begun) ha he) hk] at hback
    rw [finish_moved hw, Core.moved, advance_seq (c := c.begun) hr hs hback]
    exact ⟨rfl, rfl⟩
  · intro n hs hn ha he hk hother
    have hover := loopTest_at (c := c.begun) [] hn fun m hm h3 => endsAt_eq_false (hother m (by omega) h3)
    have hbelow : ∀ m, m < n → (c.begun.loopOver n).endsAt c.next m = false := fun m hm =>
      (loopOver_endsAt c.begun c.next (by omega)).trans (endsAt_eq_false (hother m (by omega) (by omega)))
    rw [loopTest_over [] (endsAt_eq_true (c := c.begun) ha he) hk, loopTest_none _ n hbelow] at hover
    rw [finish_moved hw, Core.moved, advance_seq (c := c.begun) hr hs hover]
    exact ⟨rfl, rfl, rfl⟩
  · rw [finish_moved hw, Core.moved, advance_rpt (c := c.begun) hr hk]
    exact ⟨rfl, rfl, rfl⟩

end Sys2Proof.Machine
end

section
/-!
PROOF. What an instruction of a Kiltur core that accesses no data leaves: its fetch counts errors of its own memory, its end
changes the core, and no other part of the block is touched.
-/

namespace Sys2Proof.Machine

/-- What such an instruction may touch: the router, the cores, and the registers that its fetch and its interrupts set. -/
def quietMask : Nat := eccMask ||| 1 <<< 27

/-- The end of an instruction stores data. -/
def KEnd.stores : KEnd → Bool
  | .store .. => true
  | _ => false

theorem kEnd_quiet {s t : State} {x : Nat} {c : Core} {w : Word} {e : KEnd} (he : e.stores = false) (h : Agree quietMask s t) :
    Agree quietMask s (t.kEnd x c w e) := by
  cases e with
  | raise code detail => exact State.kRaise_touch (by decide) h
  | done ws acc flow => exact State.setCore_touch (by decide) (.ite (State.waitBegin_touch (by decide) h) h)
  | store ws a n v => cases he
  | exret => exact State.setCore_touch (by decide) h
  | hold => exact State.setCore_touch (by decide) h

/-- An instruction that leaves its state to the fetch and stores nothing touches no more than the fetch and the core. -/
theorem kIssue_quiet {s : State} {x : Nat} {is : Word → Bool} {details : Core → Word → List Nat}
    {f : State → Core → Word → State × KEnd} (hf : ∀ t c w, (f t c w).1 = t ∧ (f t c w).2.stores = false) :
    Agree quietMask s (s.kIssue x is details f) := by
  have hfetch : AgreeP quietMask s (s.fetch x) := State.fetch_touch (by decide) (.refl _ s)
  unfold State.kIssue
  split
  · exact .refl _ s
  · split
    next => exact .refl _ s
    next t w heq =>
      have ht := AgreeP.of_eq heq hfetch
      extract_lets c
      split
      · exact .refl _ s
      · split
        · exact State.kRaise_touch (by decide) ht
        · obtain ⟨hstate, hend⟩ := hf t c w
          refine State.kBoundary_touch (by decide) (kEnd_quiet hend ?_)
          rw [hstate]
          exact ht

theorem kLoop_quiet (s : State) (x : Nat) : Agree quietMask s (s.kLoop x) := by
  have hissue : ∀ is details, Agree quietMask s (s.kIssue x is details fun t c w => t.kLoopDo c w) := fun is details =>
    kIssue_quiet fun t c w => by
      unfold State.kLoopDo
      extract_lets n e k first
      split <;> exact ⟨rfl, rfl⟩
  unfold State.kLoop
  extract_lets isLoop bad t
  split
  · split
    · exact State.setCore_touch (by decide) (hissue _ _)
    · exact hissue _ _
  · exact hissue _ _

/-- Instruction `i` touches no more than the fetch of its word and its core. -/
def Quiet (i : Instr) : Prop := ∀ s t : State, exec i s = .next t → Agree quietMask s t

theorem Quiet.of_issue {i : Instr} {x : Nat} {is : State → Word → Bool} {details : State → Core → Word → List Nat}
    {g : State → Core → Word → KEnd} (hi : ∀ s, exec i s = .next (s.kIssue x (is s) (details s) fun t c w => (t, g s c w)))
    (hg : ∀ s c w, (g s c w).stores = false) : Quiet i := fun s t h => by
  rw [hi] at h
  cases h
  exact kIssue_quiet fun t c w => ⟨rfl, hg s c w⟩

theorem Quiet.of_aform {i : Instr} {x major fn dist : Nat} {f : Word → Word → Word}
    (hi : ∀ s, exec i s = .next (s.kAform x major fn dist f)) : Quiet i := .of_issue hi fun _ _ _ => rfl

theorem Quiet.of_imm {i : Instr} {x major : Nat} {bad : Word → Bool} {f : Word → Word → Word}
    (hi : ∀ s, exec i s = .next (s.kImm x major bad f)) : Quiet i := .of_issue hi fun _ _ _ => rfl

theorem Quiet.of_shift {i : Instr} {x typ : Nat} {f : Word → Nat → Word}
    (hi : ∀ s, exec i s = .next (s.kShift x typ f)) : Quiet i := .of_issue hi fun _ _ _ => rfl

theorem Quiet.of_branch {i : Instr} {x major : Nat} {taken : Word → Word → Bool}
    (hi : ∀ s, exec i s = .next (s.kBranch x major taken)) : Quiet i := .of_issue hi fun _ _ _ => rfl

theorem Quiet.of_long {i : Instr} {x major : Nat} {link : Bool}
    (hi : ∀ s, exec i s = .next (s.kLong x major link)) : Quiet i := .of_issue hi fun _ _ _ => rfl

theorem Quiet.of_acc {i : Instr} {x fn : Nat} {bad : Word → Bool} {f : Core → Word → BitVec 72 → BitVec 72}
    (hi : ∀ s, exec i s = .next (s.kAcc x fn bad f)) : Quiet i := .of_issue hi fun _ _ _ => rfl

theorem Quiet.of_fromAcc {i : Instr} {x fn : Nat} {bad : Word → Bool} {f : Word → BitVec 72 → Word}
    (hi : ∀ s, exec i s = .next (s.kFromAcc x fn bad f)) : Quiet i := .of_issue hi fun _ _ _ => rfl

theorem Quiet.of_sys {i : Instr} {x fn : Nat} {bad : Word → Bool} {details : Core → Word → List Nat} {f : State → Core → Word → KEnd}
    (hi : ∀ s, exec i s = .next (s.kSys x fn bad details (f s))) (hf : ∀ s c w, (f s c w).stores = false) : Quiet i :=
  .of_issue hi hf

/-- The end of an instruction that user level may not issue stores nothing when it stores nothing at supervisor level. -/
theorem stores_ite {p : Prop} [Decidable p] {a b : KEnd} (ha : a.stores = false) (hb : b.stores = false) :
    (if p then a else b).stores = false := by split <;> assumption

/-- The instructions that access no data. -/
def noDataInstrs (x : Fin 5) : List Instr :=
  [.kAdd x, .kSub x, .kAnd x, .kOr x, .kXor x, .kAndn x, .kClt x, .kCltu x, .kShl x, .kShr x, .kAsr x, .kMin x, .kMax x,
    .kMinu x, .kMaxu x, .kAdds x, .kSubs x, .kMul x, .kMulx x, .kMulxu x, .kMovl x, .kAddk x, .kAndk x, .kOrk x, .kXork x,
    .kMovh x, .kCltk x, .kCltku x, .kShlk x, .kShrk x, .kAsrk x, .kBreq x, .kBrne x, .kBrlt x, .kBrge x, .kBrltu x,
    .kBrgeu x, .kBra x, .kCall x, .kCallr x, .kLoop x, .kRpt x, .kMac x, .kMsu x, .kMula x, .kMfacc x, .kRdacc x, .kWracc x,
    .kClracc x, .kRdcr x, .kWrcr x, .kTrap x, .kBrk x, .kExret x, .kWait x]

/-- Each of them is one of the shared forms, whose end stores nothing. -/
theorem noDataInstrs_quiet (x : Fin 5) : ∀ i ∈ noDataInstrs x, Quiet i := by
  have hloop : Quiet (.kLoop x) := fun s t h => by
    cases h
    exact kLoop_quiet s x
  simp only [noDataInstrs, List.forall_mem_cons]
  exact ⟨.of_aform fun _ => rfl, .of_aform fun _ => rfl, .of_aform fun _ => rfl, .of_aform fun _ => rfl, .of_aform fun _ => rfl,
    .of_aform fun _ => rfl, .of_aform fun _ => rfl, .of_aform fun _ => rfl, .of_aform fun _ => rfl, .of_aform fun _ => rfl,
    .of_aform fun _ => rfl, .of_aform fun _ => rfl, .of_aform fun _ => rfl, .of_aform fun _ => rfl, .of_aform fun _ => rfl,
    .of_aform fun _ => rfl, .of_aform fun _ => rfl, .of_aform fun _ => rfl, .of_aform fun _ => rfl, .of_aform fun _ => rfl,
    .of_imm fun _ => rfl, .of_imm fun _ => rfl, .of_imm fun _ => rfl, .of_imm fun _ => rfl, .of_imm fun _ => rfl,
    .of_imm fun _ => rfl, .of_imm fun _ => rfl, .of_imm fun _ => rfl, .of_shift fun _ => rfl, .of_shift fun _ => rfl,
    .of_shift fun _ => rfl, .of_branch fun _ => rfl, .of_branch fun _ => rfl, .of_branch fun _ => rfl, .of_branch fun _ => rfl,
    .of_branch fun _ => rfl, .of_branch fun _ => rfl, .of_long fun _ => rfl, .of_long fun _ => rfl,
    .of_issue (fun _ => rfl) fun _ _ _ => rfl, hloop, .of_issue (fun _ => rfl) fun _ _ _ => rfl, .of_acc fun _ => rfl,
    .of_acc fun _ => rfl, .of_acc fun _ => rfl, .of_fromAcc fun _ => rfl, .of_fromAcc fun _ => rfl, .of_acc fun _ => rfl,
    .of_acc fun _ => rfl, .of_sys (fun _ => rfl) fun _ _ _ => stores_ite rfl rfl,
    .of_sys (fun _ => rfl) fun _ _ _ => stores_ite rfl rfl, .of_sys (fun _ => rfl) fun _ _ _ => rfl,
    .of_sys (fun _ => rfl) fun _ _ _ => rfl, .of_sys (fun _ => rfl) fun _ _ _ => stores_ite rfl rfl,
    .of_sys (fun _ => rfl) fun _ _ _ => stores_ite rfl rfl, nofun⟩

/-- Settles O28: the fetch touches the registers of its memory errors, the end of the instruction its core, and nothing else. -/
theorem kFrame : Obligations.KFrame := by
  unfold Obligations.KFrame
  intro s t x i hwf hi hexec
  have h := noDataInstrs_quiet x i hi s t hexec
  refine ⟨h.samePartsBut (by decide), h.sameArraysBut (State.wf_regs hwf) (by decide +kernel), fun a => ?_⟩
  rw [State.byte, State.byte, h.mem_same (by decide)]

end Sys2Proof.Machine
end

section
/-!
PROOF. Writes to the control word of a core, to EVR_FIRE and to the settings of a logic cell, the ends of guard windows and filters,
and changes at a pin.
-/

namespace Sys2Proof.Machine

/-! ### CORE_CTRL -/

theorem coreOf_coreReg (x : Fin 5) : coreOf (coreReg x.val) = x.val := by revert x; decide

theorem coreReg_lt (x : Fin 5) : coreReg x.val < 5 := by revert x; decide

theorem corePage_eq (x : Fin 5) : corePage x.val = 0x70 + coreReg x.val := by revert x; decide

theorem coreCtrl_ok (x : Fin 5) : Reg.CORE_CTRL.ok (coreReg x.val) = true := by revert x; decide

section
variable {s : State} {q : Requester} {v : Word} {x : Fin 5}

theorem writeReg_coreCtrl (h : s.admits q .CORE_CTRL (coreReg x.val) v = true) : s.writeReg q .CORE_CTRL (coreReg x.val) v =
    s.taken ((s.merged .CORE_CTRL (coreReg x.val) v).coreCtrl (coreReg x.val) v (s.flag F.CORE_CTRL_RUN (coreReg x.val))) :=
  writeReg_unstaged (f := fun t => t.coreCtrl (coreReg x.val) v (s.flag F.CORE_CTRL_RUN (coreReg x.val))) (coreCtrl_ok x) h rfl
    (by decide) rfl

theorem merged_coreRun (w : Regs.wf s.regs = true) :
    (s.merged .CORE_CTRL (coreReg x.val) v).fget F.CORE_CTRL_RUN (coreReg x.val) = bits v 0 1 :=
  (congrArg (bits · 0 1) (merged_reg v w (coreCtrl_ok x))).trans
    (bits_mergeWord (f := ⟨"RUN", 0, 1, .rw, 0, []⟩) _ v (by decide) fun _ _ => rfl)

/-- A write with RESET to a core whose RUN was 0 resets the core, and does not stop it. -/
theorem coreCtrl_resets {t : State} (hv : bits v 1 1 = 1) : t.coreCtrl (coreReg x.val) v false =
    (t.fsetB F.CORE_CTRL_RESET (coreReg x.val) false).coreZero x.val := by
  rw [State.coreCtrl, if_pos hv, coreOf_coreReg]
  rfl

theorem coreCtrl_run {t : State} (hv : bits v 1 1 = 0) {old : Bool} : t.coreCtrl (coreReg x.val) v old =
    if old && t.coreStands (coreReg x.val) then t.coreStopped x.val else t := by
  simp only [State.coreCtrl, hv, Nat.zero_ne_one, if_false, coreOf_coreReg]

/-- RESET of a stopped core puts it to its reset state (R265). -/
theorem coreReset_resets (w : Regs.wf s.regs = true)
    (h : s.admits q .CORE_CTRL (coreReg x.val) (v ||| maskOf 1 1) = true) (hrun : s.flag F.CORE_CTRL_RUN (coreReg x.val) = false) :
    let t := s.writeReg q .CORE_CTRL (coreReg x.val) (v ||| maskOf 1 1)
    t.flag F.CORE_CTRL_RESET (coreReg x.val) = false ∧
      t.cores = setAt Core.reset s.cores x.val { Core.reset with
        irqEn := [s.reg .CORE_IRQ_EN_LO (coreReg x.val), s.reg .CORE_IRQ_EN_HI (coreReg x.val)],
        win := (List.range 8).map (fun k => s.reg .WIN (8 * coreReg x.val + k)) } := by
  intro t
  have hv : bits (v ||| maskOf 1 1) 1 1 = 1 := by
    rw [bits_one, BitVec.getLsbD_or, maskOf_one_getLsbD (by decide), decide_eq_true rfl, Bool.or_true]
    rfl
  generalize hm : s.merged .CORE_CTRL (coreReg x.val) (v ||| maskOf 1 1) = m
  have hag : Agree (1 <<< (64 + Reg.CORE_CTRL.ctorIdx)) s m := hm ▸ merged_agree s (by decide) _ _
  have wm := hag.regsWf w
  have hclear : Agree (1 <<< (64 + Reg.CORE_CTRL.ctorIdx)) s (m.fsetB F.CORE_CTRL_RESET (coreReg x.val) false) :=
    hag.fsetB (by decide) _ _
  have ht : t = s.taken ((m.fsetB F.CORE_CTRL_RESET (coreReg x.val) false).coreZero x.val) := by
    rw [← coreCtrl_resets hv, ← hrun, ← hm]
    exact writeReg_coreCtrl h
  generalize hu : m.fsetB F.CORE_CTRL_RESET (coreReg x.val) false = u at hclear ht
  have wu : Regs.wf (u.coreZero x.val).regs = true := hclear.regsWf w
  rw [ht]
  refine ⟨?_, ?_⟩
  · have hclr : u.flag F.CORE_CTRL_RESET (coreReg x.val) = false := hu ▸ flag_fsetB_same false wm (coreCtrl_ok x) (by decide)
    exact ((taken_agree s _).flag_same (f := F.CORE_CTRL_RESET) wu (coreCtrl_ok x) (by decide)).trans hclr
  · have hn := coreReg_lt x
    have hlo := hclear.regs w .CORE_IRQ_EN_LO _ (ok_of_lt hn (by decide) (by decide)) (by decide)
    have hhi := hclear.regs w .CORE_IRQ_EN_HI _ (ok_of_lt hn (by decide) (by decide)) (by decide)
    have hwin : (List.range 8).map (fun k => u.reg .WIN (8 * coreReg x.val + k)) =
        (List.range 8).map fun k => s.reg .WIN (8 * coreReg x.val + k) :=
      List.map_congr_left fun k hk => hclear.regs w .WIN _
        (ok_of_lt (by have := List.mem_range.mp hk; omega : _ < 40) (by decide) (by decide)) (by decide)
    rw [(taken_agree _ _).cores_same (by decide), State.coreZero]
    simp only [hlo, hhi, hwin, hclear.cores_same (by decide)]

/-- RUN takes the bit written; a core that it stops raises interrupt 0 of its page once no data access of its own is left (R265). -/
theorem coreRun_written (w : Regs.wf s.regs = true) (h : s.admits q .CORE_CTRL (coreReg x.val) v = true) (hv : bits v 1 1 = 0) :
    let t := s.writeReg q .CORE_CTRL (coreReg x.val) v
    t.fget F.CORE_CTRL_RUN (coreReg x.val) = bits v 0 1 ∧ (bits v 0 1 = 1 → t.cores = s.cores) ∧
      (bits v 0 1 = 0 → s.flag F.CORE_CTRL_RUN (coreReg x.val) = true → (s.core x.val).stall = none →
        t.fbit F.PAGE_IRQ_SOURCES (0x70 + coreReg x.val) 0 = true) := by
  intro t
  have hrun := merged_coreRun (v := v) (x := x) w
  have ht := writeReg_coreCtrl h
  rw [coreCtrl_run hv] at ht
  generalize hm : s.merged .CORE_CTRL (coreReg x.val) v = m at hrun ht
  have hag : Agree (1 <<< (64 + Reg.CORE_CTRL.ctorIdx)) s m := hm ▸ merged_agree s (by decide) _ _
  have wm := hag.regsWf w
  have hn := coreReg_lt x
  have hstop : Agree (pulseMask ||| 1 <<< 27) m (m.coreStopped x.val) := State.coreStopped_touch (by decide) (.refl _ m)
  have hnext : Agree (pulseMask ||| 1 <<< 27) m
      (if s.flag F.CORE_CTRL_RUN (coreReg x.val) && m.coreStands (coreReg x.val) then m.coreStopped x.val else m) :=
    .ite hstop (.refl _ m)
  have htaken := taken_agree s
    (if s.flag F.CORE_CTRL_RUN (coreReg x.val) && m.coreStands (coreReg x.val) then m.coreStopped x.val else m)
  refine ⟨?_, fun h1 => ?_, fun h0 hold hstall => ?_⟩
  · show (s.writeReg q .CORE_CTRL (coreReg x.val) v).fget _ _ = _
    rw [ht, htaken.fget_same (f := F.CORE_CTRL_RUN) (hnext.regsWf wm) (coreCtrl_ok x) (by decide), hnext.fget_same (f := F.CORE_CTRL_RUN) wm (coreCtrl_ok x) (by decide), hrun]
  · have hstands : m.coreStands (coreReg x.val) = false := by
      rw [State.coreStands, State.flag, hrun, h1]
      rfl
    show (s.writeReg q .CORE_CTRL (coreReg x.val) v).cores = _
    rw [ht, htaken.cores_same (by decide), hstands, Bool.and_false, ← hag.cores_same (by decide)]
    rfl
  · have hstands : m.coreStands (coreReg x.val) = true := by
      have hcore : (m.cores.getD (coreOf (coreReg x.val)) Core.reset).stall = none := by
        rw [hag.cores_same (by decide), coreOf_coreReg]
        exact hstall
      rw [State.coreStands, State.flag, hrun, h0, hcore]
      rfl
    show (s.writeReg q .CORE_CTRL (coreReg x.val) v).fbit _ _ _ = _
    rw [ht, htaken.fbit_same (f := F.PAGE_IRQ_SOURCES) (hnext.regsWf wm) (pageIrq_ok (by omega)) (by decide), hold, hstands]
    simp only [Bool.and_self, if_true, State.coreStopped, corePage_eq x]
    exact irq_sets (s := m.setCore x.val (m.core x.val).landAll) (p := 0x70 + coreReg x.val) wm (by omega) (by omega)
      (by decide : 0 < 31)

end

/-! ### EVR_FIRE, guard windows and filters -/

/-- The channels that bits of a write of `v` to EVR_FIRE word `n` name. -/
def firedChannels (n : Nat) (v : Word) : List Nat := (indices 32 fun i => v.getLsbD i).map fun i => 32 * n + i

theorem mem_firedChannels {n i : Nat} {v : Word} (hi : i < 32) (hv : v.getLsbD i = true) : 32 * n + i ∈ firedChannels n v :=
  List.mem_map.mpr ⟨i, mem_indices hi hv, rfl⟩

theorem of_mem_firedChannels {n c : Nat} {v : Word} (h : c ∈ firedChannels n v) : ∃ i, i < 32 ∧ v.getLsbD i = true ∧ 32 * n + i = c := by
  obtain ⟨i, hi, rfl⟩ := List.mem_map.mp h
  obtain ⟨hlt, hv⟩ := List.mem_filter.mp hi
  exact ⟨i, List.mem_range.mp hlt, hv, rfl⟩

/-- Channels that all pass the channel check wait for the next cycle, and nothing else changes (R286). -/
theorem fireWrite_passes {s : State} {a : Who} {n : Nat} {v : Word} (h : ∀ c ∈ firedChannels n v, s.chanPass a c = true) :
    s.fireWrite a n v = { s with router := { s.router with
      fires := s.router.fires ++ (firedChannels n v).filter fun c => s.chanPass a c && !s.router.fires.contains c } } := by
  have hall : ((indices 32 fun i => v.getLsbD i).map fun i => 32 * n + i).all (fun c => s.chanPass a c) = true :=
    List.all_eq_true.mpr h
  simp only [State.fireWrite, hall, if_true]
  rfl

theorem fireWrite_fires {s : State} {a : Who} {n i : Nat} {v : Word} (h : ∀ c ∈ firedChannels n v, s.chanPass a c = true)
    (hi : i < 32) (hv : v.getLsbD i = true) : 32 * n + i ∈ (s.fireWrite a n v).router.fires := by
  have hmem := mem_firedChannels (n := n) hi hv
  rw [fireWrite_passes h]
  by_cases hin : 32 * n + i ∈ s.router.fires
  · exact List.mem_append_left _ hin
  · refine List.mem_append_right _ (List.mem_filter.mpr ⟨hmem, ?_⟩)
    simp [h _ hmem, hin]

theorem cellAccept_takes {s : State} {j : Nat} (hmode : s.fget F.EVL_CELL_MODE_FMODE j ≠ 0) (hpage : s.pageEn 0x0A = true) :
    let cell := s.router.cells.getD j ⟨false, false, false, false⟩
    s.cellAccept j = { s with router := { s.router with
      cells := setAt ⟨false, false, false, false⟩ s.router.cells j { cell with out := cell.raw } } } := by
  intro cell
  unfold State.cellAccept
  extract_lets c
  simp only [hmode, hpage]
  rfl

/-! ### The settings of a cell -/

/-- The registers of a cell. -/
def cellReg (k : Nat) : Reg := if k = 0 then .EVL_CELL_IN else if k = 1 then .EVL_CELL_TT else .EVL_CELL_MODE

/-- What follows a write of register `k` of cell `j`: the cell restarts, and new inputs or a new mode are checked for loops. -/
def State.cellWritten (s : State) (j k : Nat) : State :=
  if k = 1 then s.cellRestart j else (s.cellRestart j).checkBegin 0x0A 40

/-- A write to a register outside D_ACQ is the stored word and what follows it. -/
theorem writeReg_outsideAcq {s : State} {q : Requester} {r : Reg} {n : Nat} {v : Word} {f : State → State} (ok : r.ok n = true)
    (h : s.admits q r n v = true) (hp : s.portWrite (s.who q) r n v = none) (ha : addrIn .acq (r.addr n) = false)
    (hland : s.landWrite (s.who q) r n v =
      f ((s.setReg r n (mergeWord r (s.reg r n) v &&& 0xFFFFFFFF#32)).noteStaged s r n)) :
    s.writeReg q r n v = s.taken (f (s.merged r n v)) := by
  have hword (x : Word) : x &&& 0xFFFFFFFF#32 = x := BitVec.and_allOnes
  have hstaged (t : State) : t.noteStaged s r n = t := by simp [State.noteStaged, ha]
  rw [writeReg_taken ok h hp, hland, hstaged, hword]
  rfl

theorem cellReg_ok (j : Fin 32) (k : Fin 3) : (cellReg k.val).ok j.val = true := by revert j k; decide

theorem cellReg_sen (j : Fin 32) (k : Fin 3) : addrIn .acq ((cellReg k.val).addr j.val) = false := by revert j k; decide

theorem writeReg_cell {s : State} {q : Requester} {v : Word} (j : Fin 32) (k : Fin 3)
    (h : s.admits q (cellReg k.val) j.val v = true) :
    s.writeReg q (cellReg k.val) j.val v = s.taken ((s.merged (cellReg k.val) j.val v).cellWritten j.val k.val) := by
  have hport : s.portWrite (s.who q) (cellReg k.val) j.val v = none := by
    match k with
    | 0 => rfl
    | 1 => rfl
    | 2 => rfl
  refine writeReg_outsideAcq (f := fun t => t.cellWritten j.val k.val) (cellReg_ok j k) h hport (cellReg_sen j k) ?_
  match k with
  | 0 => rfl
  | 1 => rfl
  | 2 => rfl

theorem evlWrite_eq (q : Requester) (j : Fin 32) (k : Fin 3) (v : Word) (s : State) :
    exec (.evlWrite q j k v) s = .next (s.writeReg q (cellReg k.val) j.val v) := by
  match k with
  | 0 => rfl
  | 1 => rfl
  | 2 => rfl

theorem cellWritten_regs (s : State) (j k : Nat) : (s.cellWritten j k).regs = s.regs := by
  unfold State.cellWritten
  split <;> rfl

theorem cellWritten_router (s : State) (j k : Nat) : (s.cellWritten j k).router = (s.cellRestart j).router := by
  unfold State.cellWritten
  split <;> rfl

/-- A write to a register of a cell stands in it, and the cell starts afresh at the INIT that is then set (R291). -/
theorem cellWrite_restarts {s : State} {q : Requester} {v : Word} (w : Regs.wf s.regs = true) (j : Fin 32) (k : Fin 3)
    (h : s.admits q (cellReg k.val) j.val v = true) :
    let cell := s.router.cells.getD j.val ⟨false, false, false, false⟩
    let t := s.writeReg q (cellReg k.val) j.val v
    let i := t.flag F.EVL_CELL_MODE_INIT j.val
    t.reg (cellReg k.val) j.val = mergeWord (cellReg k.val) (s.reg (cellReg k.val) j.val) v ∧
      t.router = { s.router with
        cells := setAt ⟨false, false, false, false⟩ s.router.cells j.val { cell with q := i, outReg := i } } := by
  intro cell t i
  have ht : t = s.taken ((s.merged (cellReg k.val) j.val v).cellWritten j.val k.val) := writeReg_cell j k h
  have hregs : t.regs = (s.merged (cellReg k.val) j.val v).regs := by rw [ht, taken_regs, cellWritten_regs]
  refine ⟨(reg_of_regs hregs _ _).trans (merged_reg v w (cellReg_ok j k)), ?_⟩
  have hi : (s.merged (cellReg k.val) j.val v).flag F.EVL_CELL_MODE_INIT j.val = i := by
    show _ = t.flag _ _
    rw [State.flag, State.flag, State.fget, State.fget, reg_of_regs hregs]
  have hrouter : (s.merged (cellReg k.val) j.val v).router = s.router := setReg_router _ _ _ _
  rw [ht, (taken_agree _ _).router_same (by decide), cellWritten_router, State.cellRestart]
  simp only [hi, hrouter]
  rfl

/-! ### Pins -/

/-- GPIO_IN shows the level at a ball that has been looked at. -/
theorem ballSync_shows {s : State} {pin : Nat} (w : Regs.wf s.regs = true) (hp : pin < 48) :
    (s.ballSync pin).fbit F.GPIO_IN_IN (pin / 32) (pin % 32) = s.ballLevel pin := by
  have ok : Reg.GPIO_IN.ok (pin / 32) = true := ok_of_lt (by omega : pin / 32 < 2) (by decide) (by decide)
  unfold State.ballSync
  extract_lets level t hit
  split
  next h => exact (beq_iff_eq.mp h).symm
  next =>
    have ht : t.fbit F.GPIO_IN_IN (pin / 32) (pin % 32) = level :=
      fbit_fsetBit_same level w ok (by show 0 + pin % 32 < 32; omega)
    have wt : Regs.wf t.regs = true := fsetBit_wf _ _ _ _ _ w
    split
    · exact ht
    · have hpulses : Agree pulseMask t (forEach (indices 8 hit) (fun g u => u.pulse (0x1E8 + g)) t) :=
        (Agree.refl _ t).forEach (fun g u hu => State.pulse_touch (by decide) hu) _
      exact (hpulses.fbit_same (f := F.GPIO_IN_IN) wt ok (by decide)).trans ht

/-- The ring with what the board gives at ball `pin`. -/
def Ring.driven (r : Ring) (pin : Nat) (level : Bool) : Ring :=
  { r with ext := setAt 0#32 r.ext (pin / 32) (withBits (r.ext.getD (pin / 32) 0#32) (pin % 32) 1 (if level then 1 else 0)) }

theorem driven_ext (r : Ring) (pin : Nat) (level : Bool) :
    ((r.driven pin level).ext.getD (pin / 32) 0#32).getLsbD (pin % 32) = level := by
  have hlt : pin % 32 < 32 := Nat.mod_lt _ (by decide)
  rw [Ring.driven, getD_setAt, if_pos rfl, withBits_getLsbD, if_pos ⟨Nat.le_refl _, Nat.lt_succ_self _, hlt⟩, Nat.sub_self]
  cases level <;> rfl

/-- A change at a pin shows in GPIO_IN unless the device drives the pin (R284, R481). -/
theorem gpioEdge_shows {s : State} (pin : Fin 48) (level : Bool) (w : Regs.wf s.regs = true) :
    (s.gpioEdge pin.val level).fbit F.GPIO_IN_IN (pin.val / 32) (pin.val % 32) = (s.gpioDrive pin.val).getD level := by
  refine (ballSync_shows (s := { s with power := { s.power with ring := s.power.ring.driven pin.val level } }) w pin.isLt).trans ?_
  rw [State.ballLevel, driven_ext]
  rfl

end Sys2Proof.Machine
end

section
/-!
PROOF. The timers: what the ticks of a clock leave of each timer, and the match and the wrap that they bring.
-/

namespace Sys2Proof.Machine

/-! ### What concerns one timer -/

/-- The arrays of the timers. -/
def timerArrays : List Reg := [.TIM_CTRL, .TIM_COUNT, .TIM_TOP, .TIM_CMP]

theorem timerArrays_ok {r : Reg} {n : Nat} (hr : r ∈ timerArrays) (hn : n < 8) : r.ok n = true := by
  revert r
  simp only [timerArrays, List.forall_mem_cons]
  exact ⟨ok_of_lt hn (by decide) (by decide), ok_of_lt hn (by decide) (by decide), ok_of_lt hn (by decide) (by decide),
    ok_of_lt hn (by decide) (by decide), nofun⟩

/-- Timer `n` stands in `t` as it does in `s`: its registers, and what waits of its START, MATCH and WRAP. -/
structure TimerSame (n : Nat) (s t : State) : Prop where
  wf : Regs.wf s.regs = true → Regs.wf t.regs = true
  regs : Regs.wf s.regs = true → ∀ r ∈ timerArrays, t.reg r n = s.reg r n
  waits : ∀ x, x % 8 = n → (x ∈ t.timers ↔ x ∈ s.timers)

theorem TimerSame.refl (n : Nat) (s : State) : TimerSame n s s := ⟨id, fun _ _ _ => rfl, fun _ _ => Iff.rfl⟩

theorem TimerSame.trans {n : Nat} {s t u : State} (h : TimerSame n s t) (k : TimerSame n t u) : TimerSame n s u where
  wf w := k.wf (h.wf w)
  regs w r hr := (k.regs (h.wf w) r hr).trans (h.regs w r hr)
  waits x hx := (k.waits x hx).trans (h.waits x hx)

theorem TimerSame.fget {n : Nat} {s t : State} (h : TimerSame n s t) (w : Regs.wf s.regs = true) {f : Fld} (hf : f.reg ∈ timerArrays) :
    t.fget f n = s.fget f n := by
  rw [State.fget, State.fget, h.regs w _ hf]

theorem TimerSame.flag {n : Nat} {s t : State} (h : TimerSame n s t) (w : Regs.wf s.regs = true) {f : Fld} (hf : f.reg ∈ timerArrays) :
    t.flag f n = s.flag f n := by
  rw [State.flag, State.flag, h.fget w hf]

/-! ### MATCH and WRAP are raised -/

/-- The registers that a raised event of a timer may change. -/
def timerEventRegs : List (Reg × Nat) := (.PAGE_IRQ, 0x66) :: tapRegs

theorem timerEvent_frame (s : State) (k u : Nat) : RegFrame timerEventRegs s (s.timerEvent k u) := by
  unfold State.timerEvent
  refine .ite (.refl _ s) ?_
  have hclear : RegFrame timerEventRegs s { s with timers := s.timers.filter fun x => x != 8 + 8 * k + u } := .of_regs rfl
  exact (hclear.trans (irq_frame _ 0x66 _)).trans ((pulseWith_frame _ _ genMergedTaps_frame).mono (List.subset_cons_self _ _))

theorem timerEvent_agree (s : State) (k u : Nat) : Agree (pulseMask ||| 1 <<< 39) s (s.timerEvent k u) :=
  State.timerEvent_touch (by decide) (.refl _ s)

/-- An event that is raised waits no longer. -/
theorem timerEvent_timers (s : State) (k u : Nat) : (s.timerEvent k u).timers = s.timers.filter (fun x => x != 8 + 8 * k + u) := by
  unfold State.timerEvent
  split
  next h =>
    refine (List.filter_eq_self.mpr fun x hx => ?_).symm
    rw [State.timerDue, Bool.not_eq_true', ← Bool.not_eq_true, List.contains_iff_mem] at h
    exact bne_iff_ne.mpr fun e => h (e ▸ hx)
  next =>
    have hirq (t : State) : Agree pulseMask t ((t.irq 0x66 (8 * k + u)).pulse (0x1D0 + 2 * u + k)) :=
      State.pulse_touch (by decide) (irq_agree _ _ _)
    exact (hirq _).timers_same (by decide)

theorem timerEvent_idle {s : State} {k u : Nat} (h : 8 + 8 * k + u ∉ s.timers) : s.timerEvent k u = s := by
  rw [State.timerEvent, State.timerDue, if_pos (by simpa using h)]

/-- The interrupt of an event that has come about (R298). -/
theorem timerEvent_irq {s : State} {k u : Nat} (w : Regs.wf s.regs = true) (h : 8 + 8 * k + u ∈ s.timers) (hb : 8 * k + u < 31) :
    (s.timerEvent k u).fbit F.PAGE_IRQ_SOURCES 0x66 (8 * k + u) = true := by
  rw [State.timerEvent, State.timerDue, if_neg (by simpa using h)]
  generalize ht : ({ s with timers := s.timers.filter (fun x => x != 8 + 8 * k + u) } : State) = t
  have wt : Regs.wf t.regs = true := ht ▸ w
  have wi : Regs.wf (t.irq 0x66 (8 * k + u)).regs = true := (irq_agree t _ _).regsWf wt
  rw [fbit_of_reg (f := F.PAGE_IRQ_SOURCES) (pulse_pageIrq wi (by decide) (by decide) _)]
  exact irq_sets wt (by decide) (by decide) hb

/-! ### Ticks -/

/-- The registers that the ticks of timer `u` may change. -/
def timerRegs (u : Nat) : List (Reg × Nat) := (.TIM_CTRL, u) :: (.TIM_COUNT, u) :: timerEventRegs

theorem timerEventRegs_subset (u : Nat) : timerEventRegs ⊆ timerRegs u :=
  fun _ h => List.mem_cons_of_mem _ (List.mem_cons_of_mem _ h)

theorem timerStore_frame (s : State) (u : Nat) (r : Nat × Bool × Bool) : RegFrame (timerRegs u) s (s.timerStore u r) := by
  unfold State.timerStore
  extract_lets t v
  have ht : RegFrame (timerRegs u) s t := .setReg s _ (List.mem_cons_of_mem _ List.mem_cons_self)
  have hv : RegFrame (timerRegs u) t v := .ite (.setReg t _ List.mem_cons_self) (.refl _ t)
  exact (ht.trans hv).trans (.of_regs rfl)

theorem timerTicks_frame (s : State) (u d : Nat) : RegFrame (timerRegs u) s (s.timerTicks u d) := by
  unfold State.timerTicks
  extract_lets t v
  have ht : RegFrame (timerRegs u) s t :=
    ((timerEvent_frame s 0 u).trans (timerEvent_frame _ 1 u)).mono (timerEventRegs_subset u)
  have hclear : RegFrame (timerRegs u) t { t with timers := t.timers.filter fun x => x != u } := .of_regs rfl
  have hv : RegFrame (timerRegs u) t v := hclear.trans (.setReg _ _ List.mem_cons_self)
  refine ht.trans (.ite (hv.trans (timerStore_frame v u _)) (.ite (timerStore_frame t u _) (.refl _ t)))

theorem timerStore_timers (s : State) (u : Nat) (r : Nat × Bool × Bool) :
    (s.timerStore u r).timers = s.timers ++ (if r.2.1 then [8 + u] else []) ++ (if r.2.2 then [16 + u] else []) := by
  unfold State.timerStore
  extract_lets t v
  have hv : v.timers = s.timers := by
    have ht : t.timers = s.timers := setReg_timers _ _ _ _
    rw [← ht]
    simp only [v]
    split
    · exact setReg_timers _ _ _ _
    · rfl
  rw [hv]

/-- What waits of another timer waits on. -/
theorem timerStore_mem {s : State} {u x : Nat} (r : Nat × Bool × Bool) (hu : u < 8) (hx : x % 8 ≠ u) :
    x ∈ (s.timerStore u r).timers ↔ x ∈ s.timers := by
  have h8 : x ≠ 8 + u := by omega
  have h16 : x ≠ 16 + u := by omega
  rw [timerStore_timers]
  split <;> split <;> simp [h8, h16]

theorem timerTicks_mem {s : State} {u x : Nat} (d : Nat) (hu : u < 8) (hx : x % 8 ≠ u) :
    x ∈ (s.timerTicks u d).timers ↔ x ∈ s.timers := by
  unfold State.timerTicks
  extract_lets t v
  have ht : x ∈ t.timers ↔ x ∈ s.timers := by
    have h8 : x ≠ 8 + 8 * 0 + u := by omega
    have h16 : x ≠ 8 + 8 * 1 + u := by omega
    simp only [t, timerEvent_timers, List.mem_filter, bne_iff_ne, h8, h16, ne_eq, not_false_eq_true, and_true]
  have hv : x ∈ v.timers ↔ x ∈ t.timers := by
    have hne : x ≠ u := by omega
    have hvt : v.timers = t.timers.filter (fun y => y != u) := setReg_timers _ _ _ _
    rw [hvt, List.mem_filter, bne_iff_ne]
    exact and_iff_left hne
  split
  · exact ((timerStore_mem _ hu hx).trans hv).trans ht
  · split
    · exact (timerStore_mem _ hu hx).trans ht
    · exact ht

/-- Ticks of one timer leave the others. -/
theorem timerTicks_other {s : State} {n u : Nat} (d : Nat) (hn : n < 8) (hu : u < 8) (h : u ≠ n) : TimerSame n s (s.timerTicks u d) where
  wf w := (timerTicks_frame s u d w).1
  regs w r hr := (timerTicks_frame s u d).reg w (timerArrays_ok hr hn) (by
    revert r
    simp [timerArrays, timerRegs, timerEventRegs, tapRegs, h.symm])
  waits x hx := timerTicks_mem d hu (by omega)

/-- Of the ticks of PLL_ADC timer `n` takes its own, and nothing else concerns it. -/
theorem timersCount_takes {s : State} {n d : Nat} (hn : n < 8) (hpage : s.pageEn 0x66 = true) (hclock : s.adcClock = true)
    (hd : d ≠ 0) (hclk : s.fget F.TIM_CTRL_CLK n = 0) :
    ∃ u, TimerSame n s u ∧ TimerSame n (u.timerTicks n d) (s.timersCount 0 d) := by
  have hcount : s.timersCount 0 d = forEach (indices 8 fun t => s.fget F.TIM_CTRL_CLK t == 0) (fun t s => s.timerTicks t d) s := by
    rw [State.timersCount, hpage, hclock]
    simp [hd]
  obtain ⟨as, bs, hxs⟩ := List.append_of_mem (mem_indices (p := fun t => s.fget F.TIM_CTRL_CLK t == 0) hn (beq_iff_eq.mpr hclk))
  have hnodup := indices_nodup 8 fun t => s.fget F.TIM_CTRL_CLK t == 0
  have hlt : ∀ t ∈ indices 8 (fun t => s.fget F.TIM_CTRL_CLK t == 0), t < 8 := fun t ht => List.mem_range.mp (List.mem_filter.mp ht).1
  rw [hxs] at hnodup hlt
  have hother : ∀ t ∈ as ++ bs, t < 8 ∧ t ≠ n := fun t ht => by
    obtain ⟨hnot, -⟩ := List.nodup_cons.mp (List.nodup_middle.mp hnodup)
    exact ⟨hlt t (List.mem_append.mpr ((List.mem_append.mp ht).imp id (List.mem_cons_of_mem n))), fun e => hnot (e ▸ ht)⟩
  refine ⟨forEach as (fun t s => s.timerTicks t d) s, ?_, ?_⟩
  · exact forEach_keeps (P := TimerSame n s) as (.refl n s) fun t ht v hv =>
      hv.trans (timerTicks_other d hn (hother t (List.mem_append_left _ ht)).1 (hother t (List.mem_append_left _ ht)).2)
  · rw [hcount, hxs, show forEach (as ++ n :: bs) (fun t s => s.timerTicks t d) s =
      forEach bs (fun t s => s.timerTicks t d) ((forEach as (fun t s => s.timerTicks t d) s).timerTicks n d) from List.foldl_append]
    exact forEach_keeps (P := TimerSame n _) bs (.refl n _) fun t ht v hv =>
      hv.trans (timerTicks_other d hn (hother t (List.mem_append_right _ ht)).1 (hother t (List.mem_append_right _ ht)).2)

/-! ### A count goes on -/

section
variable {s : State} {n : Nat} (r : Nat × Bool × Bool) (w : Regs.wf s.regs = true) (hn : n < 8)
include w hn

theorem timerStore_count : (s.timerStore n r).fget F.TIM_COUNT_COUNT n = r.1 % 2 ^ 32 := by
  have okc : Reg.TIM_COUNT.ok n = true := ok_of_lt hn (by decide) (by decide)
  have hset := fget_fset_same s F.TIM_COUNT_COUNT n r.1 w okc (by decide)
  have wset : Regs.wf (s.fset F.TIM_COUNT_COUNT n r.1).regs = true := setReg_wf _ _ _ _ w
  unfold State.timerStore
  extract_lets t v
  refine Eq.trans ?_ hset
  show v.fget _ _ = t.fget _ _
  simp only [v]
  split
  · exact fget_fset_ne t F.TIM_CTRL_RUN F.TIM_COUNT_COUNT n n _ wset okc (Or.inl (by decide))
  · rfl

theorem timerStore_run : (s.timerStore n r).flag F.TIM_CTRL_RUN n =
    if r.2.2 && s.flag F.TIM_CTRL_ONESHOT n then false else s.flag F.TIM_CTRL_RUN n := by
  have okc : Reg.TIM_CTRL.ok n = true := ok_of_lt hn (by decide) (by decide)
  have hctrl (f : Fld) (hf : f.reg = .TIM_CTRL) : (s.fset F.TIM_COUNT_COUNT n r.1).flag f n = s.flag f n := by
    rw [State.flag, State.flag, fget_fset_ne s F.TIM_COUNT_COUNT f n n _ w (hf ▸ okc) (Or.inl (by rw [hf]; decide))]
  have wset : Regs.wf (s.fset F.TIM_COUNT_COUNT n r.1).regs = true := setReg_wf _ _ _ _ w
  unfold State.timerStore
  extract_lets t v
  rw [← hctrl F.TIM_CTRL_ONESHOT rfl, ← hctrl F.TIM_CTRL_RUN rfl]
  show v.flag _ _ = _
  simp only [v]
  split
  · exact flag_fsetB_same false wset okc (by decide)
  · rfl

end

/-- A timer that runs, with nothing of it waiting, counts the ticks on. -/
theorem timerTicks_counts {s : State} {n : Nat} (d : Nat) (hrun : s.flag F.TIM_CTRL_RUN n = true) (hidle : ∀ x, x % 8 = n → x ∉ s.timers)
    (hn : n < 8) : s.timerTicks n d = s.timerStore n (s.timerAhead n d) := by
  have hstart : s.timers.contains n = false := by simpa using hidle n (by omega)
  rw [State.timerTicks, timerEvent_idle (hidle _ (by omega)), timerEvent_idle (hidle _ (by omega))]
  simp only [hstart, hrun]
  rfl

theorem timerAhead_same {n : Nat} {s t : State} (h : TimerSame n s t) (w : Regs.wf s.regs = true) (d : Nat) :
    t.timerAhead n d = s.timerAhead n d := by
  rw [State.timerAhead, State.timerAhead, h.fget w (f := F.TIM_COUNT_COUNT) (by decide), h.fget w (f := F.TIM_TOP_TOP) (by decide),
    h.fget w (f := F.TIM_CMP_CMP) (by decide), h.flag w (f := F.TIM_CTRL_ONESHOT) (by decide)]

/-- Timer `n` counts PLL_ADC ticks and no event of a timer waits. -/
structure TimerFree (s : State) (n : Nat) : Prop where
  page : s.pageEn 0x66 = true
  clock : s.adcClock = true
  select : s.fget F.TIM_CTRL_CLK n = 0
  run : s.flag F.TIM_CTRL_RUN n = true
  idle : s.timers = []

/-- What `d` ticks make of a timer that runs. -/
theorem elapse_timer {s : State} {n d : Nat} (w : Regs.wf s.regs = true) (hn : n < 8) (h : TimerFree s n) (hd : d ≠ 0) :
    let r := s.timerAhead n d
    (s.elapse d).fget F.TIM_COUNT_COUNT n = r.1 % 2 ^ 32 ∧
      (s.elapse d).flag F.TIM_CTRL_RUN n = !(r.2.2 && s.flag F.TIM_CTRL_ONESHOT n) ∧
      (r.2.1 = true → 8 + n ∈ (s.elapse d).timers) ∧ (r.2.2 = true → 16 + n ∈ (s.elapse d).timers) := by
  intro r
  generalize hp : ({ s with now := s.now + d } : State).checksAge (d / 10) = p
  have hsp : TimerSame n s p := by subst hp; exact ⟨id, fun _ _ _ => rfl, fun _ _ => Iff.rfl⟩
  have hpage : p.pageEn 0x66 = true := by subst hp; exact h.page
  have hclock : p.adcClock = true := by subst hp; exact h.clock
  have hclk : p.fget F.TIM_CTRL_CLK n = 0 := by subst hp; exact h.select
  obtain ⟨u, hpu, hue⟩ := timersCount_takes hn hpage hclock hd hclk
  have hsu := hsp.trans hpu
  have wu := hsu.wf w
  have hrun : u.flag F.TIM_CTRL_RUN n = true := (hsu.flag w (by decide)).trans h.run
  have hidle : ∀ x, x % 8 = n → x ∉ u.timers := fun x hx hmem => by
    have := (hsu.waits x hx).mp hmem
    rw [h.idle] at this
    cases this
  rw [timerTicks_counts d hrun hidle hn, timerAhead_same hsu w] at hue
  have wt : Regs.wf (u.timerStore n (s.timerAhead n d)).regs = true := (timerStore_frame u n _ wu).1
  have he : s.elapse d = p.timersCount 0 d := by rw [State.elapse, hp]
  rw [he]
  refine ⟨?_, ?_, fun hm => ?_, fun hm => ?_⟩
  · rw [hue.fget wt (by decide), timerStore_count _ wu hn]
  · rw [hue.flag wt (by decide), timerStore_run _ wu hn, hrun, hsu.flag w (f := F.TIM_CTRL_ONESHOT) (by decide)]
    cases r.2.2 && s.flag F.TIM_CTRL_ONESHOT n <;> rfl
  · rw [hue.waits _ (by omega), timerStore_timers, if_pos hm]
    simp
  · rw [hue.waits _ (by omega), timerStore_timers, if_pos hm]
    simp

/-! ### Match and wrap -/

theorem timerCount_match {count top cmp : Nat} (once : Bool) (hlt : count < cmp) (hle : cmp ≤ top) :
    timerCount count top cmp (cmp - count) once = (cmp, true, false) := by
  have htop : count ≤ top := by omega
  have hsum : count + (cmp - count) = cmp := by omega
  simp only [timerCount, if_pos htop, hsum, if_pos hle, hlt, Nat.le_refl, and_self, decide_true]

theorem timerCount_wrap {count top cmp : Nat} (once : Bool) (hle : count ≤ top) :
    (timerCount count top cmp (top - count + 1) once).1 = 0 ∧ (timerCount count top cmp (top - count + 1) once).2.2 = true := by
  have hsum : count + (top - count + 1) = top + 1 := by omega
  have hover : ¬ top + 1 ≤ top := by omega
  have hzero : top + 1 - top - 1 = 0 := by omega
  simp only [timerCount, if_pos hle, hsum, if_neg hover, hzero, timerFromZero, Nat.zero_le, if_true]
  cases once <;> simp [hle]

theorem timerEvent_gone (s : State) (k n : Nat) : 8 + 8 * k + n ∉ (s.timerEvent k n).timers := by
  rw [timerEvent_timers, List.mem_filter]
  simp

theorem timerEvent_fget {s : State} {n : Nat} (k : Nat) (w : Regs.wf s.regs = true) (hn : n < 8) {f : Fld} (hf : f.reg ∈ timerArrays) :
    (s.timerEvent k n).fget f n = s.fget f n := by
  refine (timerEvent_frame s k n).fget w (timerArrays_ok hf hn) fun hmem => ?_
  have hnot : ∀ r ∈ timerArrays, (r, n) ∉ timerEventRegs := by simp [timerArrays, timerEventRegs, tapRegs]
  exact hnot _ hf hmem

/-- A match (kind 0) or a wrap (kind 1) that ticks have brought is raised, and nothing else of the timer changes (R298). -/
theorem timerEvent_raises {s : State} {k n : Nat} (w : Regs.wf s.regs = true) (hn : n < 8) (hk : k < 2) (h : 8 + 8 * k + n ∈ s.timers) :
    let t := s.timerEvent k n
    8 + 8 * k + n ∉ t.timers ∧ t.now = s.now ∧ t.fget F.TIM_COUNT_COUNT n = s.fget F.TIM_COUNT_COUNT n ∧
      t.fbit F.PAGE_IRQ_SOURCES 0x66 (8 * k + n) = true :=
  ⟨timerEvent_gone s k n, (timerEvent_agree s k n).now_same (by decide), timerEvent_fget k w hn (by decide),
    timerEvent_irq w h (by omega)⟩

theorem timerMatch_due {s : State} {n : Nat} (h : 8 + n ∈ s.timers) : s.timerMatch n = s.timerEvent 0 n := by
  have hdue : s.timerDue 0 n = true := List.contains_iff_mem.mpr h
  simp only [State.timerMatch, hdue, Bool.not_true, Bool.false_and, Bool.false_eq_true, if_false]

theorem timerWrap_due {s : State} {n : Nat} (h : 16 + n ∈ s.timers) : s.timerWrap n = s.timerEvent 1 n := by
  have hdue : s.timerDue 1 n = true := List.contains_iff_mem.mpr h
  simp only [State.timerWrap, hdue, Bool.not_true, Bool.false_and, Bool.false_eq_true, if_false]

section
variable {s : State} {n : Nat} (w : Regs.wf s.regs = true) (hn : n < 8) (h : TimerFree s n)
include h

theorem TimerFree.runs : s.timerRuns n = true := by
  rw [State.timerRuns, h.page, h.clock, h.select, h.run]
  rfl

theorem TimerFree.not_due (k : Nat) : s.timerDue k n = false := by
  rw [State.timerDue, h.idle]
  rfl

/-- A count below CMP comes to CMP after the ticks between, and its match is raised (R298, log entry 62). -/
theorem timerMatch_timed (hlt : s.fget F.TIM_COUNT_COUNT n < s.fget F.TIM_CMP_CMP n)
    (hle : s.fget F.TIM_CMP_CMP n ≤ s.fget F.TIM_TOP_TOP n) :
    s.timerMatch n = (s.elapse (s.fget F.TIM_CMP_CMP n - s.fget F.TIM_COUNT_COUNT n)).timerEvent 0 n := by
  have hahead : (s.timerAhead n (s.fget F.TIM_CMP_CMP n - s.fget F.TIM_COUNT_COUNT n)).2.1 = true := by
    rw [State.timerAhead, timerCount_match _ hlt hle]
  have hticks : s.fget F.TIM_COUNT_COUNT n < s.fget F.TIM_CMP_CMP n ∧ (s.fget F.TIM_CMP_CMP n ≤ s.fget F.TIM_TOP_TOP n ∨
      s.fget F.TIM_TOP_TOP n < s.fget F.TIM_COUNT_COUNT n) := ⟨hlt, Or.inl hle⟩
  simp only [State.timerMatch, if_pos hticks, h.runs, h.not_due, hahead]
  rfl

/-- A count not above TOP comes to 0 with the tick after TOP, and its wrap is raised (R298). -/
theorem timerWrap_timed (hle : s.fget F.TIM_COUNT_COUNT n ≤ s.fget F.TIM_TOP_TOP n) :
    s.timerWrap n = (s.elapse (s.fget F.TIM_TOP_TOP n - s.fget F.TIM_COUNT_COUNT n + 1)).timerEvent 1 n := by
  have hahead : (s.timerAhead n (s.fget F.TIM_TOP_TOP n - s.fget F.TIM_COUNT_COUNT n + 1)).2.2 = true :=
    (timerCount_wrap _ hle).2
  simp only [State.timerWrap, h.runs, h.not_due, hahead]
  rfl

include w hn

theorem timerMatch_raises (hlt : s.fget F.TIM_COUNT_COUNT n < s.fget F.TIM_CMP_CMP n)
    (hle : s.fget F.TIM_CMP_CMP n ≤ s.fget F.TIM_TOP_TOP n) :
    let t := s.timerMatch n
    t.now = s.now + (s.fget F.TIM_CMP_CMP n - s.fget F.TIM_COUNT_COUNT n) ∧
      t.fget F.TIM_COUNT_COUNT n = s.fget F.TIM_CMP_CMP n ∧ t.fbit F.PAGE_IRQ_SOURCES 0x66 n = true ∧
      t.flag F.TIM_CTRL_RUN n = true := by
  intro t
  have ht : t = (s.elapse (s.fget F.TIM_CMP_CMP n - s.fget F.TIM_COUNT_COUNT n)).timerEvent 0 n := timerMatch_timed h hlt hle
  have hr : s.timerAhead n (s.fget F.TIM_CMP_CMP n - s.fget F.TIM_COUNT_COUNT n) = (s.fget F.TIM_CMP_CMP n, true, false) :=
    timerCount_match _ hlt hle
  obtain ⟨hcount, hrun, hmatch, -⟩ := elapse_timer w hn h (d := s.fget F.TIM_CMP_CMP n - s.fget F.TIM_COUNT_COUNT n) (by omega)
  rw [hr] at hcount hrun hmatch
  have wt := (elapse_agree s (s.fget F.TIM_CMP_CMP n - s.fget F.TIM_COUNT_COUNT n)).regsWf w
  obtain ⟨-, hnow, hkeep, hirq⟩ := timerEvent_raises (k := 0) wt hn (by decide) (hmatch rfl)
  have hlt32 : s.fget F.TIM_CMP_CMP n < 2 ^ 32 := fget_lt _ _ _
  rw [ht]
  refine ⟨hnow.trans (elapse_now _ _), hkeep.trans (hcount.trans (Nat.mod_eq_of_lt hlt32)), by simpa using hirq, ?_⟩
  rw [State.flag, timerEvent_fget 0 wt hn (by decide), ← State.flag, hrun]
  rfl

theorem timerWrap_raises (hle : s.fget F.TIM_COUNT_COUNT n ≤ s.fget F.TIM_TOP_TOP n) :
    let t := s.timerWrap n
    t.now = s.now + (s.fget F.TIM_TOP_TOP n - s.fget F.TIM_COUNT_COUNT n + 1) ∧
      t.fget F.TIM_COUNT_COUNT n = 0 ∧ t.fbit F.PAGE_IRQ_SOURCES 0x66 (8 + n) = true ∧
      t.flag F.TIM_CTRL_RUN n = !s.flag F.TIM_CTRL_ONESHOT n := by
  intro t
  have ht : t = (s.elapse (s.fget F.TIM_TOP_TOP n - s.fget F.TIM_COUNT_COUNT n + 1)).timerEvent 1 n := timerWrap_timed h hle
  have hr := timerCount_wrap (cmp := s.fget F.TIM_CMP_CMP n) (s.flag F.TIM_CTRL_ONESHOT n) hle
  obtain ⟨hcount, hrun, -, hwrap⟩ := elapse_timer w hn h (d := s.fget F.TIM_TOP_TOP n - s.fget F.TIM_COUNT_COUNT n + 1) (by omega)
  rw [State.timerAhead, hr.2] at hrun hwrap
  rw [State.timerAhead, hr.1] at hcount
  have wt := (elapse_agree s (s.fget F.TIM_TOP_TOP n - s.fget F.TIM_COUNT_COUNT n + 1)).regsWf w
  obtain ⟨-, hnow, hkeep, hirq⟩ := timerEvent_raises (k := 1) wt hn (by decide) (hwrap rfl)
  rw [ht]
  refine ⟨hnow.trans (elapse_now _ _), hkeep.trans hcount, hirq, ?_⟩
  rw [State.flag, timerEvent_fget 1 wt hn (by decide), ← State.flag, hrun]
  rfl

end

end Sys2Proof.Machine
end

section
/-!
PROOF. What a pulse, an interrupt or a change of level leaves of the router: pulses reach its input and waits end, and the stages, the
cells and the guards stay as they are.
-/

namespace Sys2Proof.Machine

/-- Of the router only the pulses at its input have grown, and waits may have ended. -/
structure Pulsed (s t : State) : Prop where
  router : t.router = { s.router with inp := t.router.inp, woken := t.router.woken }
  inp : s.router.inp ⊆ t.router.inp

namespace Pulsed

theorem of_router {s t : State} (h : t.router = s.router) : Pulsed s t := ⟨by rw [h], by rw [h]; exact List.Subset.refl _⟩

theorem refl (s : State) : Pulsed s s := of_router rfl

theorem trans {s t u : State} (h : Pulsed s t) (k : Pulsed t u) : Pulsed s u where
  router := by rw [k.router, h.router]
  inp := List.Subset.trans h.inp k.inp

theorem ite {s t u : State} {c : Prop} [Decidable c] (h : Pulsed s t) (k : Pulsed s u) : Pulsed s (if c then t else u) := by
  split
  · exact h
  · exact k

theorem forEach {α : Type} {f : α → State → State} (hf : ∀ x t, Pulsed t (f x t)) (xs : List α) (s : State) :
    Pulsed s (forEach xs f s) := by
  unfold Sys2Proof.Machine.forEach
  induction xs generalizing s with
  | nil => exact refl s
  | cons x xs ih => exact (hf x s).trans (ih (f x s))

theorem setReg (s : State) (r : Reg) (n : Nat) (v : Word) : Pulsed s (s.setReg r n v) := of_router (setReg_router s r n v)

theorem fset (s : State) (f : Fld) (n x : Nat) : Pulsed s (s.fset f n x) := setReg s _ _ _

theorem fsetB (s : State) (f : Fld) (n : Nat) (b : Bool) : Pulsed s (s.fsetB f n b) := setReg s _ _ _

theorem fsetBit (s : State) (f : Fld) (n i : Nat) (b : Bool) : Pulsed s (s.fsetBit f n i b) := setReg s _ _ _

theorem darn (s : State) (x : Darn) : Pulsed s { s with darn := x } := of_router (s := s) rfl

/-- A change that cannot touch the router is none. -/
theorem of_agree {M : Nat} {s t : State} (h : Agree M s t) (hM : M.testBit 9 = false) : Pulsed s t := of_router (h.router_same hM)

end Pulsed

/-! ### Pulses and interrupts -/

theorem irqWake_pulsed (s : State) : Pulsed s s.irqWake := by
  unfold State.irqWake
  extract_lets up
  exact .ite (.refl s) ⟨rfl, List.Subset.refl _⟩

theorem pulseWith_pulsed {s : State} {g : Nat} {merged : State → State} (hm : Pulsed s (merged s)) : Pulsed s (s.pulseWith g merged) := by
  unfold State.pulseWith
  split
  · exact .refl s
  · exact .ite (.refl s) (.ite hm ⟨rfl, List.subset_append_left _ _⟩)

theorem genMerged_pulsed (s : State) : Pulsed s s.genMerged := (Pulsed.fsetB s _ _ _).trans (.fsetBit _ _ _ _ _)

theorem genMergedTaps_pulsed (s : State) : Pulsed s s.genMergedTaps := by
  unfold State.genMergedTaps
  extract_lets t
  refine .ite (((genMerged_pulsed s).trans (irqWake_pulsed t)).trans ?_) (genMerged_pulsed s)
  exact .forEach (fun j u => pulseWith_pulsed (genMerged_pulsed u)) _ _

theorem pulse_pulsed (s : State) (g : Nat) : Pulsed s (s.pulse g) := pulseWith_pulsed (genMergedTaps_pulsed s)

theorem withTaps_pulsed (s t : State) (p : Nat) : Pulsed t (s.withTaps t p) := by
  unfold State.withTaps
  exact .ite ((irqWake_pulsed t).trans (.forEach (fun _ u => pulse_pulsed u _) _ _)) (.refl t)

theorem irq_pulsed (s : State) (p b : Nat) : Pulsed s (s.irq p b) := (Pulsed.setReg s _ _ _).trans (withTaps_pulsed _ _ p)

theorem ballSync_pulsed (s : State) (pin : Nat) : Pulsed s (s.ballSync pin) := by
  unfold State.ballSync
  extract_lets level t hit
  have ht : Pulsed s t := .fsetBit s _ _ _ _
  exact .ite (.refl s) (.ite ht (ht.trans (.forEach (fun g u => pulse_pulsed u _) _ _)))

theorem gpioFollow_pulsed (s : State) : Pulsed s s.gpioFollow := .forEach (fun pin t => ballSync_pulsed t pin) _ _

/-! ### A block's own read -/

theorem logBusErr_pulsed (s : State) (a : Nat) (wr : Bool) (src cause : Nat) : Pulsed s (s.logBusErr a wr src cause) := by
  unfold State.logBusErr
  extract_lets t1 t2 t3 t4 t5
  have h3 : Pulsed s t3 := ((Pulsed.setReg s _ _ _).trans (.setReg t1 _ _ _)).trans (.fset t2 _ _ _)
  have h5 : Pulsed s t5 := (h3.trans (.fsetB t3 _ _ _)).trans (.fset t4 _ _ _)
  exact .ite (.fsetB s _ _ _) ((h5.trans (.fsetB t5 _ _ _)).trans (irq_pulsed _ _ _))

theorem darnShow_pulsed (s : State) : Pulsed s s.darnShow :=
  .of_agree (M := darnShowMask) (State.darnShow_touch (by decide) (.refl _ s)) (by decide)

theorem darnLog_pulsed (s : State) (kind flags target repl : Nat) : Pulsed s (s.darnLog kind flags target repl) := by
  have hshow (x : Darn) : Pulsed s ({ s with darn := x } : State).darnShow := (Pulsed.darn s x).trans (darnShow_pulsed _)
  exact .ite (.refl s) (.ite ((Pulsed.fsetB s _ _ _).trans (irq_pulsed _ _ _)) (hshow _))

theorem darnDone_pulsed (s : State) (kind flags target repl : Nat) : Pulsed s (s.darnDone kind flags target repl) :=
  ((darnLog_pulsed s kind flags target repl).trans (irq_pulsed _ _ _)).trans (darnShow_pulsed _)

theorem propose_pulsed (s : State) (kind target : Nat) : Pulsed s (s.propose kind target) := by
  have hshow (x : Darn) : Pulsed s ({ s with darn := x } : State).darnShow := (Pulsed.darn s x).trans (darnShow_pulsed _)
  exact .ite (.refl s) (.ite (.refl s) (.ite ((Pulsed.fsetB s _ _ _).trans (irq_pulsed _ _ _))
    (.ite ((hshow _).trans (irq_pulsed _ _ _)) (hshow _))))

theorem proposeBank_pulsed (s : State) (d b : Nat) : Pulsed s (s.proposeBank d b) := by
  have h := propose_pulsed s 5 (bankTarget d b)
  exact .ite (.refl s) (.ite (h.trans (.of_router rfl)) h)

theorem scrubRow_pulsed (s : State) (a : Nat) : Pulsed s (s.scrubRow a) := .of_router (s := s) rfl

theorem rowTrigger_pulsed (s : State) (a : Nat) : Pulsed s (s.rowTrigger a) := by
  unfold State.rowTrigger
  split
  · exact .refl s
  · refine .ite (.refl s) (.ite ((Pulsed.darn s _).trans (darnLog_pulsed _ _ _ _ _)) ?_)
    split
    · exact (Pulsed.darn s _).trans (proposeBank_pulsed _ _ _)
    · exact (((Pulsed.darn s _).trans (.darn _ _)).trans (scrubRow_pulsed _ a)).trans (darnDone_pulsed _ _ _ _ _)

theorem rowCorrected_pulsed (s : State) (a : Nat) : Pulsed s (s.rowCorrected a) := by
  unfold State.rowCorrected
  split
  · exact .refl s
  · exact .ite (.refl s) (.ite ((Pulsed.darn s _).trans (rowTrigger_pulsed _ a)) (Pulsed.darn s _))

theorem sramRead_pulsed (s : State) (a n : Nat) : Pulsed s (s.sramRead a n).1 := by
  unfold State.sramRead
  generalize s.ecc.filter (fun x => a / 8 * 8 ≤ x.1 && x.1 < a + n) = words
  generalize hacc : (s, false) = acc
  have hs : Pulsed s acc.1 := hacc ▸ .refl s
  clear hacc
  induction words generalizing acc with
  | nil => exact hs
  | cons x words ih =>
    refine ih _ ?_
    dsimp only
    split
    · exact hs
    · split
      · exact hs.trans (rowTrigger_pulsed _ _)
      · exact hs.trans (rowCorrected_pulsed _ _)

theorem sramOwnRead_pulsed (s : State) (src a n : Nat) : Pulsed s (s.sramOwnRead src a n).1 := by
  unfold State.sramOwnRead
  extract_lets dead
  cases dead
  · exact .ite ((sramRead_pulsed s a n).trans (logBusErr_pulsed _ _ _ _ _)) (sramRead_pulsed s a n)
  · exact logBusErr_pulsed s _ _ _ _

end Sys2Proof.Machine
end

section
/-!
PROOF. A cycle of the router, stage by stage, and the channel that a pulse reaches.
-/

namespace Sys2Proof.Machine

/-! ### The stages of a cycle -/

/-- The state at which the stages of a cycle begin: taps that drove a pin for the cycle before have let go of it. -/
def State.cycleStart (s : State) : State :=
  (if s.router.tapHigh = [] then s else { s with router := { s.router with tapHigh := [] } }.gpioFollow).checksAge 1

/-- The cells have taken their cycle, and the channels that hold a pulse are seen at the task stage next. -/
def State.channelsMove (s : State) (cells : List Cell) : State :=
  { s with router := { s.router with cells := cells, task := s.router.chan } }

/-- The outputs of the cells are kept for the edges of the next cycle. -/
def State.outputsKept (s : State) (outs : List Bool) : State := { s with router := { s.router with prevOut := outs } }

/-- What a trigger on a task input may touch. -/
def taskMask : Nat :=
  0x43e0000001005000000000000000000000040000000000500c00000000018000000000000000018000001881000000000000001c180000008000d88208

/-- What the channel stage may touch. -/
def chanMask : Nat := 0x310300000000079060100000004002000a00

theorem taskAct_agree (s : State) (k : Nat) : Agree taskMask s (s.taskAct k) := State.taskAct_touch (by decide) (.refl _ s)

theorem taskStage_agree (s : State) : Agree taskMask s s.taskStage := State.taskStage_touch (by decide) (.refl _ s)

theorem channelStage_agree (s : State) (outs : List Bool) : Agree chanMask s (s.channelStage outs) :=
  State.channelStage_touch (by decide) (.refl _ s)

theorem cycleStart_agree (s : State) : Agree (gpioMask ||| 1 <<< 9 ||| 1 <<< 38) s s.cycleStart :=
  State.checksAge_touch (by decide)
    (.ite (.refl _ s) (State.gpioFollow_touch (by decide) ((Agree.refl _ s).set_router (by decide) _)))

theorem cycleStart_quiet {s : State} (h : s.router.tapHigh = []) : s.cycleStart = s.checksAge 1 := by rw [State.cycleStart, if_pos h]

/-- One cycle of the cells changes the cells. -/
theorem cellCycle_cells (s : State) (task : List Nat) :
    ∃ cells, (s.cellCycle task).1 = { s with router := { s.router with cells := cells } } := by
  unfold State.cellCycle
  split
  · exact ⟨s.router.cells, rfl⟩
  · exact ⟨_, rfl⟩

/-- A cycle outside a press window: the task stage, the cells, the channel stage. -/
theorem routerCycle_stages {s : State} (hsen : s.power.senOn = true) (hwin : s.basket.window = 0) :
    ∃ cells outs, s.routerCycle = ((s.cycleStart.taskStage.channelsMove cells).channelStage outs).outputsKept outs := by
  obtain ⟨cells, hcells⟩ := cellCycle_cells s.cycleStart.taskStage s.cycleStart.taskStage.router.task
  generalize hp : s.cycleStart.taskStage.cellCycle s.cycleStart.taskStage.router.task = p at hcells
  obtain ⟨u, outs⟩ := p
  refine ⟨cells, outs, ?_⟩
  have hu : { u with router := { u.router with task := u.router.chan } } = s.cycleStart.taskStage.channelsMove cells := by
    rw [show u = _ from hcells]
    rfl
  have hbasket : (((s.cycleStart.taskStage.channelsMove cells).channelStage outs).outputsKept outs).basket.window = 0 := by
    have hstage := (channelStage_agree (s.cycleStart.taskStage.channelsMove cells) outs).basket_same (by decide)
    have htask := (taskStage_agree s.cycleStart).basket_same (by decide)
    have hstart := (cycleStart_agree s).basket_same (by decide)
    show ((s.cycleStart.taskStage.channelsMove cells).channelStage outs).basket.window = 0
    rw [hstage, show (s.cycleStart.taskStage.channelsMove cells).basket = s.cycleStart.taskStage.basket from rfl, htask, hstart, hwin]
  rw [← hu] at hbasket ⊢
  unfold State.routerCycle
  rw [if_neg (by rw [hsen]; decide)]
  rw [← State.cycleStart]
  simp only [hp]
  split
  next => rfl
  next h => exact absurd (hbasket.symm.trans h) (by decide)
  next n h => exact absurd (hbasket.symm.trans h) (Nat.succ_ne_zero _).symm

/-! ### The channel stage -/

/-- The generator of channel `c` pulses, with the outputs `outs` of the cells. -/
def State.channelGen (s : State) (outs : List Bool) (c : Nat) : Bool :=
  let g := s.fget F.EVR_CFG_SRC c
  if 0x190 ≤ g ∧ g ≤ 0x1AF then
    shaped (s.fget F.EVR_CFG_EDGE c) (s.router.prevOut.getD (g - 0x190) false) (outs.getD (g - 0x190) false)
  else s.router.inp.contains g

/-- Channel `c` is open and a pulse reaches it. -/
def State.channelTakes (s : State) (outs : List Bool) (c : Nat) : Bool :=
  s.pageEn (0x08 + c / 64) && s.flag F.EVR_CFG_EN c && (s.channelGen outs c || s.router.fires.contains c)

/-- The pulses of this cycle have reached the channels. -/
def State.pulsesTaken (s : State) : State := { s with router := { s.router with inp := [], fires := [], chan := [] } }

/-- What channel `c` makes of the pulses that reach it. -/
def State.channelPass (s : State) (gen fire : Bool) (c : Nat) : State :=
  let r := s.channelHold c gen fire
  if r.2 then { r.1 with router := { r.1.router with chan := r.1.router.chan ++ [c] } } else r.1

theorem channelStage_passes (s : State) (outs : List Bool) : s.channelStage outs =
    forEach (if s.router.inp.isEmpty && s.router.fires.isEmpty && !outs.any id && !s.router.prevOut.any id then []
        else indices 128 (s.channelTakes outs))
      (fun c t => t.channelPass (s.channelGen outs c) (s.router.fires.contains c) c) s.pulsesTaken := by
  unfold State.channelStage State.channelPass
  rfl

theorem channelStage_none {s : State} {outs : List Bool} (h : ∀ c, c < 128 → s.channelTakes outs c = false) :
    s.channelStage outs = s.pulsesTaken := by
  rw [channelStage_passes, indices_none h, ite_self]
  rfl

/-- A generator or a fired channel wakes the stage, and one open channel takes the pulse. -/
theorem channelStage_one {s : State} {outs : List Bool} {c : Nat} (hc : c < 128)
    (h : ∀ u, u < 128 → (s.channelTakes outs u = true ↔ u = c)) (hloud : s.router.inp ≠ [] ∨ s.router.fires ≠ []) :
    s.channelStage outs = s.pulsesTaken.channelPass (s.channelGen outs c) (s.router.fires.contains c) c := by
  have hquiet : (s.router.inp.isEmpty && s.router.fires.isEmpty) = false := by
    rw [Bool.and_eq_false_iff, List.isEmpty_eq_false_iff, List.isEmpty_eq_false_iff]
    exact hloud
  rw [channelStage_passes, hquiet, indices_one hc h]
  rfl

/-- What a counted pulse may touch beside the guards. -/
def countMask : Nat :=
  1 <<< 9 ||| 1 <<< 25 ||| 1 <<< (64 + Reg.EVR_CSTAT.ctorIdx) ||| 1 <<< (64 + Reg.EVR_CCOUNT.ctorIdx)

/-- A pulse on a channel with room in its guard window is counted and held (R285, R294). -/
theorem channelHold_counts {s : State} {c : Nat} {gen fire : Bool} (w : Regs.wf s.regs = true) (hc : c < 128)
    (hpulse : (gen || fire) = true) (htrip : s.flag F.EVR_CSTAT_LOOP_TRIP c = false)
    (hguard : s.router.guard.getD c 0 < s.fget F.EVR_GUARD_N c) (hwake : s.fget F.WAKE_CFG_CH ≠ c) :
    let t := (s.channelHold c gen fire).1
    (s.channelHold c gen fire).2 = true ∧ Agree countMask s t ∧
      t.fget F.EVR_CCOUNT_COUNT c = (s.fget F.EVR_CCOUNT_COUNT c + 1) % 2 ^ 32 ∧
      t.router = { s.router with guard := setAt 0 s.router.guard c (s.router.guard.getD c 0 + 1) } := by
  have okcount : Reg.EVR_CCOUNT.ok c = true := ok_of_lt hc (by decide) (by decide)
  generalize hg : ({ s with router := { s.router with guard := setAt 0 s.router.guard c (s.router.guard.getD c 0 + 1) } } : State) = g
  generalize hm : (if gen && fire then g.fsetB F.EVR_CSTAT_FIRE_MERGED c true else g) = m
  have hsg : Agree (1 <<< 9) s g := hg ▸ (Agree.refl _ s).set_router (by decide) _
  have hgm : Agree (1 <<< (64 + Reg.EVR_CSTAT.ctorIdx)) g m :=
    hm ▸ .ite ((Agree.refl _ g).fsetB (by decide) _ _) (.refl _ g)
  have wm := hgm.regsWf (hsg.regsWf w)
  have hch : (m.fadd F.EVR_CCOUNT_COUNT c 1).fget F.WAKE_CFG_CH ≠ c := by
    rw [State.fadd, fget_fset_ne _ _ _ _ _ _ wm (by decide) (.inl (by decide)),
      hgm.fget_same (f := F.WAKE_CFG_CH) (hsg.regsWf w) (by decide) (by decide),
      hsg.fget_same (f := F.WAKE_CFG_CH) w (by decide) (by decide)]
    exact hwake
  have hhold : s.channelHold c gen fire = ((m.fadd F.EVR_CCOUNT_COUNT c 1).mangleArm c, true) := by
    have hroom : ¬(s.fget F.EVR_GUARD_N c < 2 ^ s.fget F.EVR_GUARD_K c ∧ s.fget F.EVR_GUARD_N c ≤ s.router.guard.getD c 0) := by omega
    unfold State.channelHold
    rw [hpulse, htrip]
    simp only [Bool.not_true, Bool.or_self, Bool.false_eq_true, if_false, if_neg hroom]
    simp only [hg, hm, if_neg hch]
  have harm : Agree (1 <<< 25) (m.fadd F.EVR_CCOUNT_COUNT c 1) ((m.fadd F.EVR_CCOUNT_COUNT c 1).mangleArm c) :=
    State.mangleArm_touch (by decide) (.refl _ _)
  have hcount : Agree (1 <<< (64 + Reg.EVR_CCOUNT.ctorIdx)) m (m.fadd F.EVR_CCOUNT_COUNT c 1) := (Agree.refl _ m).fadd (by decide) _ _
  rw [hhold]
  refine ⟨rfl, ?_, ?_, ?_⟩
  · exact (((hsg.mono (by decide)).trans (hgm.mono (by decide))).trans (hcount.mono (by decide))).trans (harm.mono (by decide))
  · rw [harm.fget_same (f := F.EVR_CCOUNT_COUNT) (hcount.regsWf wm) okcount (by decide), State.fadd,
      fget_fset_same m F.EVR_CCOUNT_COUNT c _ wm okcount (by decide), hgm.fget_same (f := F.EVR_CCOUNT_COUNT) (hsg.regsWf w) okcount (by decide),
      hsg.fget_same (f := F.EVR_CCOUNT_COUNT) w okcount (by decide)]
    rfl
  · rw [harm.router_same (by decide), hcount.router_same (by decide), hgm.router_same (by decide), ← hg]

/-- The one channel that a pulse reaches counts it and holds it. -/
theorem channelStage_counts {s : State} {outs : List Bool} {c : Nat} (w : Regs.wf s.regs = true) (hc : c < 128)
    (htakes : ∀ u, u < 128 → (s.channelTakes outs u = true ↔ u = c)) (hloud : s.router.inp ≠ [] ∨ s.router.fires ≠ [])
    (htrip : s.flag F.EVR_CSTAT_LOOP_TRIP c = false) (hguard : s.router.guard.getD c 0 < s.fget F.EVR_GUARD_N c)
    (hwake : s.fget F.WAKE_CFG_CH ≠ c) :
    let t := s.channelStage outs
    Agree countMask s t ∧ t.fget F.EVR_CCOUNT_COUNT c = (s.fget F.EVR_CCOUNT_COUNT c + 1) % 2 ^ 32 ∧
      t.router = { s.pulsesTaken.router with guard := t.router.guard, chan := [c] } := by
  have hpulse : (s.channelGen outs c || s.router.fires.contains c) = true := by
    have h := (htakes c hc).mpr rfl
    rw [State.channelTakes, Bool.and_eq_true] at h
    exact h.2
  obtain ⟨hheld, hag, hcount, hrouter⟩ := channelHold_counts (s := s.pulsesTaken) w hc hpulse htrip hguard hwake
  have hpass : s.channelStage outs = { (s.pulsesTaken.channelHold c (s.channelGen outs c) (s.router.fires.contains c)).1 with
      router := { (s.pulsesTaken.channelHold c (s.channelGen outs c) (s.router.fires.contains c)).1.router with
        chan := (s.pulsesTaken.channelHold c (s.channelGen outs c) (s.router.fires.contains c)).1.router.chan ++ [c] } } := by
    rw [channelStage_one hc htakes hloud, State.channelPass, hheld]
    rfl
  rw [hpass]
  refine ⟨?_, hcount, ?_⟩
  · exact (((Agree.refl countMask s).set_router (by decide) _).trans hag).set_router (by decide) _
  · rw [hrouter]
    rfl

/-- No open channel listens to a logic cell. -/
def State.noCellChannel (s : State) : Prop :=
  ∀ c, c < 128 → s.flag F.EVR_CFG_EN c = true → ¬(0x190 ≤ s.fget F.EVR_CFG_SRC c ∧ s.fget F.EVR_CFG_SRC c ≤ 0x1AF)

/-- Without pulses no channel takes any. -/
theorem channelTakes_quiet {s : State} (outs : List Bool) (hinp : s.router.inp = []) (hfires : s.router.fires = [])
    (hcell : s.noCellChannel) : ∀ c, c < 128 → s.channelTakes outs c = false := fun c hc => by
  rw [State.channelTakes]
  cases hen : s.flag F.EVR_CFG_EN c with
  | false => rw [Bool.and_false, Bool.false_and]
  | true =>
    have hgen : s.channelGen outs c = false := by
      rw [State.channelGen, if_neg (hcell c hc hen), hinp]
      rfl
    rw [hgen, hfires]
    exact Bool.and_false _

/-! ### The task stage without a listener -/

theorem taskStage_idle {s : State} (h : s.router.task = []) : s.taskStage = s := by
  rw [State.taskStage, h]
  rfl

theorem evrTsel_ok {u : Nat} (hu : u < 224) (hm : taskMapped u = true) : Reg.EVR_TSEL.ok u = true := by
  simp [Reg.ok, hm, show Reg.EVR_TSEL.count = 224 from rfl, hu]

/-- No task input is connected. -/
def State.tasksDeaf (s : State) : Prop := ∀ u, u < 224 → taskMapped u = true → s.flag F.EVR_TSEL_EN u = false

theorem taskStage_deaf {s : State} (h : s.tasksDeaf) : s.taskStage = s := by
  unfold State.taskStage
  extract_lets ch a b
  have hnone : ∀ u, u < 224 → (taskMapped u && s.flag F.EVR_TSEL_EN u && (a u || b u)) = false := fun u hu => by
    cases hm : taskMapped u with
    | false => rfl
    | true => rw [h u hu hm, Bool.and_false, Bool.false_and]
  rw [indices_none hnone]
  exact ite_self s

/-- A cycle that finds no pulse and no listener only moves the channels on. -/
theorem routerCycle_moves {s : State} (hsen : s.power.senOn = true) (hwin : s.basket.window = 0) (htap : s.router.tapHigh = [])
    (htask : s.router.task = [] ∨ s.tasksDeaf) (hinp : s.router.inp = [])
    (hfires : s.router.fires = []) (hcell : s.noCellChannel) :
    ∃ cells outs, s.routerCycle = { s.checksAge 1 with
      router := { s.router with cells := cells, task := s.router.chan, inp := [], fires := [], chan := [], prevOut := outs } } := by
  obtain ⟨cells, outs, hcycle⟩ := routerCycle_stages hsen hwin
  have hstage : s.cycleStart.taskStage = s.checksAge 1 := by
    rw [cycleStart_quiet htap]
    exact htask.elim (fun h => taskStage_idle (s := s.checksAge 1) h) fun h => taskStage_deaf (s := s.checksAge 1) h
  refine ⟨cells, outs, ?_⟩
  rw [hcycle, hstage,
    channelStage_none (channelTakes_quiet (s := (s.checksAge 1).channelsMove cells) outs hinp hfires hcell)]
  rfl

/-- EVR_FIRE: a fired channel counts its pulse and holds it (R285, R286). -/
theorem routerCycle_fires {s : State} {c : Nat} (w : Regs.wf s.regs = true) (hc : c < 128) (hfire : c ∈ s.router.fires)
    (hsen : s.power.senOn = true) (hwin : s.basket.window = 0) (htask : s.router.task = []) (htap : s.router.tapHigh = [])
    (hpage : s.pageEn (0x08 + c / 64) = true) (hen : ∀ u, u < 128 → (s.flag F.EVR_CFG_EN u = true ↔ u = c))
    (htrip : s.flag F.EVR_CSTAT_LOOP_TRIP c = false) (hguard : s.router.guard.getD c 0 < s.fget F.EVR_GUARD_N c)
    (hwake : s.fget F.WAKE_CFG_CH ≠ c) :
    let t := s.routerCycle
    t.fget F.EVR_CCOUNT_COUNT c = (s.fget F.EVR_CCOUNT_COUNT c + 1) % 2 ^ 32 ∧ t.router.fires = [] ∧ t.router.chan = [c] := by
  obtain ⟨cells, outs, hcycle⟩ := routerCycle_stages hsen hwin
  have hstage : s.cycleStart.taskStage = s.checksAge 1 := by
    rw [cycleStart_quiet htap]
    exact taskStage_idle (s := s.checksAge 1) htask
  rw [hstage] at hcycle
  have htakes : ∀ u, u < 128 → (((s.checksAge 1).channelsMove cells).channelTakes outs u = true ↔ u = c) := fun u hu => by
    rw [State.channelTakes, Bool.and_eq_true, Bool.and_eq_true]
    refine ⟨fun h => (hen u hu).mp h.1.2, fun h => ?_⟩
    subst h
    exact ⟨⟨hpage, (hen u hu).mpr rfl⟩, Bool.or_eq_true _ _ |>.mpr (.inr (List.contains_iff_mem.mpr hfire))⟩
  obtain ⟨-, hcount, hrouter⟩ := channelStage_counts (s := (s.checksAge 1).channelsMove cells) w hc htakes
    (.inr (List.ne_nil_of_mem hfire)) htrip hguard hwake
  rw [hcycle]
  refine ⟨hcount, ?_, ?_⟩
  · show (State.channelStage _ _).router.fires = []
    rw [hrouter]
    rfl
  · show (State.channelStage _ _).router.chan = [c]
    rw [hrouter]

end Sys2Proof.Machine
end

section
/-!
PROOF. A generator's pulse through the two stages of the router, and a pulse that reaches a latch.
-/

namespace Sys2Proof.Machine

/-! ### A generator's pulse -/

/-- A generator of a live domain puts its pulse at the input. -/
theorem pulse_enters {s : State} {g : Nat} {d : Domain} (hd : genDomain g = some d) (hlive : s.domLive d = true)
    (hsen : s.power.senOn = true) (hinp : s.router.inp = []) :
    s.pulse g = { s with router := { s.router with inp := [g] } } := by
  rw [State.pulse, State.pulseWith, hd]
  simp only [hlive, hsen, Bool.not_true, Bool.or_self, Bool.false_eq_true, if_false, hinp]
  rfl

/-- At the start of a cycle taps have let go of their pins, and of the router only the input has grown. -/
theorem cycleStart_router (s : State) : s.cycleStart.router =
    { s.router with tapHigh := [], inp := s.cycleStart.router.inp, woken := s.cycleStart.router.woken } ∧
      s.router.inp ⊆ s.cycleStart.router.inp := by
  by_cases h : s.router.tapHigh = []
  · have hsame : s.cycleStart.router = s.router := by rw [cycleStart_quiet h, State.checksAge]
    have hnone : ∀ r : Router, r.tapHigh = [] → r = { r with tapHigh := [] } := fun r hr => by
      cases r
      cases hr
      rfl
    rw [hsame]
    exact ⟨hnone s.router h, List.Subset.refl _⟩
  · have hp := gpioFollow_pulsed { s with router := { s.router with tapHigh := [] } }
    have hsame : s.cycleStart.router = ({ s with router := { s.router with tapHigh := [] } } : State).gpioFollow.router := by
      rw [State.cycleStart, if_neg h, State.checksAge]
    rw [hsame]
    exact ⟨hp.router, hp.inp⟩

/-- What the pulse of generator `g` finds: channel `c` alone is open, listens to it and has room in its guard window. -/
structure Listens (s : State) (g c : Nat) : Prop where
  alone : ∀ u, u < 128 → (s.flag F.EVR_CFG_EN u = true ↔ u = c)
  page : s.pageEn (0x08 + c / 64) = true
  source : s.fget F.EVR_CFG_SRC c = g
  trip : s.flag F.EVR_CSTAT_LOOP_TRIP c = false
  guard : s.router.guard.getD c 0 < s.fget F.EVR_GUARD_N c
  wake : s.fget F.WAKE_CFG_CH ≠ c

theorem Listens.noCellChannel {s : State} {g c : Nat} (h : Listens s g c) (hg : ¬(0x190 ≤ g ∧ g ≤ 0x1AF)) : s.noCellChannel :=
  fun u hu hen => by
    rw [(h.alone u hu).mp hen, h.source]
    exact hg

theorem Listens.takes {s : State} {g c : Nat} (h : Listens s g c) (hg : ¬(0x190 ≤ g ∧ g ≤ 0x1AF)) (hinp : g ∈ s.router.inp)
    (outs : List Bool) : ∀ u, u < 128 → (s.channelTakes outs u = true ↔ u = c) := fun u hu => by
  have hgen : s.channelGen outs c = true := by
    rw [State.channelGen, h.source, if_neg hg]
    exact List.contains_iff_mem.mpr hinp
  rw [State.channelTakes, Bool.and_eq_true, Bool.and_eq_true]
  refine ⟨fun k => (h.alone u hu).mp k.1.2, fun k => ?_⟩
  subst k
  exact ⟨⟨h.page, (h.alone u hu).mpr rfl⟩, by rw [hgen]; rfl⟩

/-- What is left of the registers of a state by the start of a cycle leaves what a pulse finds. -/
theorem Listens.of_agree {M : Nat} {s t : State} {g c : Nat} (h : Listens s g c) (w : Regs.wf s.regs = true) (hc : c < 128)
    (hag : Agree M s t) (hlive : M &&& liveMask = 0)
    (hregs : ∀ r ∈ [Reg.EVR_CFG, .EVR_CSTAT, .EVR_GUARD, .WAKE_CFG], M.testBit (64 + r.ctorIdx) = false)
    (hguard : t.router.guard = s.router.guard) : Listens t g c where
  alone u hu := by
    rw [hag.flag_same (f := F.EVR_CFG_EN) w (ok_of_lt hu (by decide) (by decide)) (hregs _ (by decide))]
    exact h.alone u hu
  page := (hag.pageEn_same w hlive (by omega)).trans h.page
  source := (hag.fget_same (f := F.EVR_CFG_SRC) w (ok_of_lt hc (by decide) (by decide)) (hregs _ (by decide))).trans h.source
  trip := (hag.flag_same (f := F.EVR_CSTAT_LOOP_TRIP) w (ok_of_lt hc (by decide) (by decide)) (hregs _ (by decide))).trans h.trip
  guard := by
    rw [hguard, hag.fget_same (f := F.EVR_GUARD_N) w (ok_of_lt hc (by decide) (by decide)) (hregs _ (by decide))]
    exact h.guard
  wake := by
    rw [hag.fget_same (f := F.WAKE_CFG_CH) w (by decide) (hregs _ (by decide))]
    exact h.wake

/-- The first cycle of a pulse: the channel that listens to it counts it. -/
theorem routerCycle_hears {s : State} {g c : Nat} (w : Regs.wf s.regs = true) (hc : c < 128) (hsen : s.power.senOn = true)
    (hwin : s.basket.window = 0) (h : Listens s g c) (hg : ¬(0x190 ≤ g ∧ g ≤ 0x1AF)) (hinp : g ∈ s.router.inp)
    (htask : s.router.task = []) :
    let t := s.routerCycle
    Agree (gpioMask ||| 1 <<< 38 ||| countMask) s t ∧
      t.fget F.EVR_CCOUNT_COUNT c = (s.fget F.EVR_CCOUNT_COUNT c + 1) % 2 ^ 32 ∧
      t.router.inp = [] ∧ t.router.fires = [] ∧ t.router.chan = [c] ∧ t.router.task = s.router.chan ∧ t.router.tapHigh = [] := by
  intro t
  obtain ⟨cells, outs, hcycle⟩ := routerCycle_stages hsen hwin
  obtain ⟨hrouter, hgrown⟩ := cycleStart_router s
  have hstart := cycleStart_agree s
  have hidle : s.cycleStart.taskStage = s.cycleStart := taskStage_idle (by rw [hrouter]; exact htask)
  rw [hidle] at hcycle
  have hguard : s.cycleStart.router.guard = s.router.guard := by rw [hrouter]
  have hmoved : Listens (s.cycleStart.channelsMove cells) g c :=
    h.of_agree w hc (hstart.set_router (by decide) _) (by decide) (by decide) hguard
  have wm : Regs.wf (s.cycleStart.channelsMove cells).regs = true := hstart.regsWf w
  have hin : g ∈ (s.cycleStart.channelsMove cells).router.inp := hgrown hinp
  obtain ⟨hag, hcount, hafter⟩ := channelStage_counts wm hc (hmoved.takes hg hin outs) (.inl (List.ne_nil_of_mem hin)) hmoved.trip
    hmoved.guard hmoved.wake
  have ht : t = ((s.cycleStart.channelsMove cells).channelStage outs).outputsKept outs := hcycle
  have hfinal : t.router = { ((s.cycleStart.channelsMove cells).channelStage outs).router with prevOut := outs } := by rw [ht]; rfl
  rw [hafter] at hfinal
  refine ⟨?_, ?_, by rw [hfinal]; rfl, by rw [hfinal]; rfl, by rw [hfinal], ?_, ?_⟩
  · rw [ht]
    exact (((hstart.set_router (by decide) _).mono (by decide)).trans (hag.mono (by decide))).set_router (by decide) _
  · have hsame : (s.cycleStart.channelsMove cells).fget F.EVR_CCOUNT_COUNT c = s.fget F.EVR_CCOUNT_COUNT c :=
      hstart.fget_same (f := F.EVR_CCOUNT_COUNT) w (ok_of_lt hc (by decide) (by decide)) (by decide)
    rw [← hsame, ← hcount, ht]
    rfl
  · rw [hfinal]
    show s.cycleStart.router.chan = s.router.chan
    rw [hrouter]
  · rw [hfinal]
    show s.cycleStart.router.tapHigh = []
    rw [hrouter]

/-- GENERATOR_PULSE: the channel that listens counts the pulse, which passes both stages (R282, R285). -/
theorem generatorPulse_counts {s : State} {g c : Nat} {d : Domain} (w : Regs.wf s.regs = true) (hc : c < 128)
    (hd : genDomain g = some d) (hlive : s.domLive d = true) (hsen : s.power.senOn = true) (hg : ¬(0x190 ≤ g ∧ g ≤ 0x1AF))
    (hinp : s.router.inp = []) (hchan : s.router.chan = []) (htask : s.router.task = []) (hwin : s.basket.window = 0)
    (h : Listens s g c) (hdeaf : s.tasksDeaf) :
    let t := s.generatorPulse g
    t.fget F.EVR_CCOUNT_COUNT c = (s.fget F.EVR_CCOUNT_COUNT c + 1) % 2 ^ 32 ∧ t.router.inp = [] ∧ t.router.chan = [] := by
  intro t
  have hnone : s.router.inp.contains g = false := by rw [hinp]; rfl
  generalize hs1 : ({ s with router := { s.router with inp := [g] } } : State) = s1
  have ht : t = s1.routerCycle.routerCycle.routerCycle := by
    show s.generatorPulse g = _
    rw [State.generatorPulse, hnone, if_neg (by decide), pulse_enters hd hlive hsen hinp, hs1]
    rfl
  have hin : g ∈ s1.router.inp := by rw [← hs1]; exact List.mem_cons_self
  have h1 : Listens s1 g c := by subst hs1; exact ⟨h.alone, h.page, h.source, h.trip, h.guard, h.wake⟩
  have w1 : Regs.wf s1.regs = true := hs1 ▸ w
  obtain ⟨hag, hcount, inp2, fires2, chan2, task2, tap2⟩ := routerCycle_hears w1 hc (by rw [← hs1]; exact hsen)
    (by rw [← hs1]; exact hwin) h1 hg hin (by rw [← hs1]; exact htask)
  generalize s1.routerCycle = s2 at ht hag hcount inp2 fires2 chan2 task2 tap2
  have sen2 : s2.power.senOn = true := by rw [hag.power_same (by decide), ← hs1]; exact hsen
  have win2 : s2.basket.window = 0 := by rw [hag.basket_same (by decide), ← hs1]; exact hwin
  have htask2 : s2.router.task = [] := by rw [task2, ← hs1]; exact hchan
  have hcell2 : s2.noCellChannel := fun u hu hen => by
    have oku : Reg.EVR_CFG.ok u = true := ok_of_lt hu (by decide) (by decide)
    rw [hag.flag_same (f := F.EVR_CFG_EN) w1 oku (by decide)] at hen
    rw [hag.fget_same (f := F.EVR_CFG_SRC) w1 oku (by decide)]
    exact h1.noCellChannel hg u hu hen
  have hdeaf2 : s2.tasksDeaf := fun u hu hm => by
    rw [hag.flag_same (f := F.EVR_TSEL_EN) w1 (evrTsel_ok hu hm) (by decide), ← hs1]
    exact hdeaf u hu hm
  obtain ⟨cells2, outs2, hmove2⟩ := routerCycle_moves sen2 win2 tap2 (.inl htask2) inp2 fires2 hcell2
  generalize hs3 : s2.routerCycle = s3 at ht
  rw [hs3] at hmove2
  obtain ⟨cells3, outs3, hmove3⟩ := routerCycle_moves (s := s3) (by rw [hmove2]; exact sen2) (by rw [hmove2]; exact win2)
    (by rw [hmove2]; exact tap2) (.inr (by rw [hmove2]; exact hdeaf2)) (by rw [hmove2]) (by rw [hmove2]) (by rw [hmove2]; exact hcell2)
  rw [ht, hmove3, hmove2]
  refine ⟨?_, rfl, rfl⟩
  have hsame : s1.fget F.EVR_CCOUNT_COUNT c = s.fget F.EVR_CCOUNT_COUNT c := by rw [← hs1]; rfl
  rw [← hsame, ← hcount]
  rfl

/-! ### A latch -/

theorem latch_mapped {x i : Nat} (hx : x < 5) (hi : i < 32) : taskMapped (0x40 + 32 * x + i) = true := by
  simp only [taskMapped, Bool.or_eq_true, Bool.and_eq_true, decide_eq_true_eq]
  omega

/-- What a trigger on a task input other than a latch may touch. -/
def consumerMask : Nat := taskMask ^^^ 1 <<< (64 + Reg.EVR_CIRQ.ctorIdx)

theorem taskAct_consumer {s : State} {k : Nat} (hk : k < 0x40) : Agree consumerMask s (s.taskAct k) := by
  have h := Agree.refl consumerMask s
  have hdrop : Agree consumerMask s (s.taskDrop k) := State.taskDrop_touch (by decide) h
  unfold State.taskAct
  rw [if_neg (by omega)]
  refine .ite (.ite hdrop (State.launch_touch (by decide) (.ite hdrop h))) (.ite hdrop (.ite ?_ (.ite ?_ (.ite ?_ (.ite ?_ ?_)))))
  · exact State.pegTrigger_touch (by decide) h
  · exact State.scanTrigger_touch (by decide) h
  · exact State.softSeamRequest_touch (by decide) h
  · exact State.timerTrigger_touch (by decide) h
  · exact State.gpioTap_touch (by decide) h

section
variable {s : State} {x i : Nat} (w : Regs.wf s.regs = true) (hx : x < 5) (hi : i < 32)
include w hx hi

/-- A latch that is set stays set while other triggers act. -/
theorem latchTrigger_keeps {k x' i' : Nat} (hset : s.fbit F.EVR_CIRQ_LATCH x i = true) :
    (s.latchTrigger k x' i').fbit F.EVR_CIRQ_LATCH x i = true := by
  have okx : Reg.EVR_CIRQ.ok x = true := ok_of_lt hx (by decide) (by decide)
  unfold State.latchTrigger
  split
  next =>
    have hdrop : Agree (taskMask ^^^ 1 <<< (64 + Reg.EVR_CIRQ.ctorIdx)) s
        (((s.taskDrop k).fsetBit F.EVR_CIRQ_OVR_OVR x' i' true).irq 0x09 1) :=
      State.irq_touch (by decide) ((State.taskDrop_touch (by decide) (.refl _ s)).fsetBit (by decide) _ _ _)
    exact (hdrop.fbit_same (f := F.EVR_CIRQ_LATCH) w okx (by decide)).trans hset
  next =>
    have wake := State.irqWake_touch (MM := 1 <<< 9) (by decide) (Agree.refl _ (s.fsetBit F.EVR_CIRQ_LATCH x' i' true))
    rw [wake.fbit_same (f := F.EVR_CIRQ_LATCH) (fsetBit_wf _ _ _ _ _ w) okx (by decide)]
    by_cases hsame : x' = x ∧ i' = i
    · obtain ⟨rfl, rfl⟩ := hsame
      exact fbit_fsetBit_same true w okx (by show 0 + i' < 32; omega)
    · by_cases hrow : x' = x
      · subst hrow
        rw [fbit_fsetBit_other (f := F.EVR_CIRQ_LATCH) (g := F.EVR_CIRQ_LATCH) true w okx rfl (by show 0 + i ≠ 0 + i'; omega)]
        exact hset
      · have hother : (s.fsetBit F.EVR_CIRQ_LATCH x' i' true).reg .EVR_CIRQ x = s.reg .EVR_CIRQ x :=
          reg_setReg_ne _ _ w okx (.inr fun e => hrow e.symm)
        exact (fbit_of_reg (f := F.EVR_CIRQ_LATCH) hother i).trans hset

/-- A trigger on a latch of a live page and domain leaves it set (R289). -/
theorem latchTrigger_sets (k : Nat) (hpage : s.pageEn 0x09 = true) (hlive : s.domLive (latchDomain x) = true) :
    (s.latchTrigger k x i).fbit F.EVR_CIRQ_LATCH x i = true := by
  by_cases hset : s.fbit F.EVR_CIRQ_LATCH x i = true
  · exact latchTrigger_keeps w hx hi hset
  · have okx : Reg.EVR_CIRQ.ok x = true := ok_of_lt hx (by decide) (by decide)
    have wake := State.irqWake_touch (MM := 1 <<< 9) (by decide) (Agree.refl _ (s.fsetBit F.EVR_CIRQ_LATCH x i true))
    unfold State.latchTrigger
    rw [if_neg (by simp [hset, hpage, hlive]), wake.fbit_same (f := F.EVR_CIRQ_LATCH) (fsetBit_wf _ _ _ _ _ w) okx (by decide)]
    exact fbit_fsetBit_same true w okx (by show 0 + i < 32; omega)

theorem taskAct_keepsLatch (k : Nat) (hset : s.fbit F.EVR_CIRQ_LATCH x i = true) :
    (s.taskAct k).fbit F.EVR_CIRQ_LATCH x i = true := by
  by_cases hk : k < 0x40
  · exact ((taskAct_consumer hk).fbit_same (f := F.EVR_CIRQ_LATCH) w (ok_of_lt hx (by decide) (by decide)) (by decide)).trans hset
  · rw [State.taskAct, if_pos (by omega)]
    exact latchTrigger_keeps w hx hi hset

end

/-- Task input `k` as the task stage triggers it: SELA and SELB both with a pulse are one trigger. -/
def State.taskTrigger (s : State) (both : Bool) (k : Nat) : State :=
  (if both then s.fsetB F.EVR_TSTAT_COALESCED k true else s).taskAct k

/-- What the mark of a trigger that both channels bring may touch. -/
theorem coalesced_agree (s : State) (both : Bool) (k : Nat) :
    Agree (1 <<< (64 + Reg.EVR_TSTAT.ctorIdx)) s (if both then s.fsetB F.EVR_TSTAT_COALESCED k true else s) :=
  .ite ((Agree.refl _ s).fsetB (by decide) _ _) (.refl _ s)

theorem taskTrigger_agree (s : State) (both : Bool) (k : Nat) : Agree taskMask s (s.taskTrigger both k) :=
  ((coalesced_agree s both k).mono (by decide)).trans (taskAct_agree _ k)

/-- SELA of input `k` names a channel with a pulse. -/
def State.hearsA (s : State) (k : Nat) : Bool := s.router.task.contains (s.fget F.EVR_TSEL_SELA k)

/-- SELB of input `k` is used and names a channel with a pulse. -/
def State.hearsB (s : State) (k : Nat) : Bool :=
  s.flag F.EVR_TSEL_B_EN k && s.router.task.contains (s.fget F.EVR_TSEL_SELB k)

theorem taskStage_triggers {s : State} (htask : s.router.task ≠ []) (hpage : s.pageEn 0x08 = true) : s.taskStage =
    forEach (indices 224 fun t => taskMapped t && s.flag F.EVR_TSEL_EN t && (s.hearsA t || s.hearsB t))
      (fun t u => u.taskTrigger (s.hearsA t && s.hearsB t) t) s := by
  have hsome : s.router.task.isEmpty = false := List.isEmpty_eq_false_iff.mpr htask
  unfold State.taskStage
  extract_lets ch a b
  rw [show ch.isEmpty = false from hsome, hpage]
  rfl

/-- A pulse on a channel that a latch listens to leaves the latch set (R287, R289). -/
theorem taskStage_latches {s : State} {c x i : Nat} (w : Regs.wf s.regs = true) (hx : x < 5) (hi : i < 32) (hc : c ∈ s.router.task)
    (h8 : s.pageEn 0x08 = true) (h9 : s.pageEn 0x09 = true) (hlive : s.domLive (latchDomain x) = true)
    (hen : s.flag F.EVR_TSEL_EN (0x40 + 32 * x + i) = true) (hsel : s.fget F.EVR_TSEL_SELA (0x40 + 32 * x + i) = c) :
    s.taskStage.fbit F.EVR_CIRQ_LATCH x i = true := by
  have hmapped := latch_mapped hx hi
  have hhears : s.hearsA (0x40 + 32 * x + i) = true := by rw [State.hearsA, hsel]; exact List.contains_iff_mem.mpr hc
  have hmem : 0x40 + 32 * x + i ∈ indices 224 fun t => taskMapped t && s.flag F.EVR_TSEL_EN t && (s.hearsA t || s.hearsB t) :=
    mem_indices (by omega) (by rw [hmapped, hen, hhears]; rfl)
  rw [taskStage_triggers (List.ne_nil_of_mem hc) h8]
  refine forEach_establishes (P := fun t : State => t.fbit F.EVR_CIRQ_LATCH x i = true)
    (Q := fun t : State => Regs.wf t.regs = true ∧ t.pageEn 0x09 = true ∧ t.domLive (latchDomain x) = true) hmem ⟨w, h9, hlive⟩ ?_ ?_ ?_
  · intro k _ t ht
    obtain ⟨wt, h9t, hlivet⟩ := ht
    have hag := taskTrigger_agree t (s.hearsA k && s.hearsB k) k
    exact ⟨hag.regsWf wt, (hag.pageEn_same wt (by decide) (by decide)).trans h9t, (hag.domLive_same wt (by decide) _).trans hlivet⟩
  · intro t ht
    obtain ⟨wt, h9t, hlivet⟩ := ht
    have hag := coalesced_agree t (s.hearsA (0x40 + 32 * x + i) && s.hearsB (0x40 + 32 * x + i)) (0x40 + 32 * x + i)
    have hindex : (0x40 + 32 * x + i - 0x40) / 32 = x ∧ (0x40 + 32 * x + i - 0x40) % 32 = i := by omega
    rw [State.taskTrigger, State.taskAct, if_pos (by omega), hindex.1, hindex.2]
    exact latchTrigger_sets (hag.regsWf wt) hx hi _ ((hag.pageEn_same wt (by decide) (by decide)).trans h9t)
      ((hag.domLive_same wt (by decide) _).trans hlivet)
  · intro k _ t ht hset
    obtain ⟨wt, -, -⟩ := ht
    have hag := coalesced_agree t (s.hearsA k && s.hearsB k) k
    exact taskAct_keepsLatch (hag.regsWf wt) hx hi k
      ((hag.fbit_same (f := F.EVR_CIRQ_LATCH) wt (ok_of_lt hx (by decide) (by decide)) (by decide)).trans hset)

theorem routerCycle_latches {s : State} {c x i : Nat} (w : Regs.wf s.regs = true) (hx : x < 5) (hi : i < 32) (hc : c ∈ s.router.task)
    (hsen : s.power.senOn = true) (hwin : s.basket.window = 0)
    (h8 : s.pageEn 0x08 = true) (h9 : s.pageEn 0x09 = true) (hlive : s.domLive (latchDomain x) = true)
    (hen : s.flag F.EVR_TSEL_EN (0x40 + 32 * x + i) = true) (hsel : s.fget F.EVR_TSEL_SELA (0x40 + 32 * x + i) = c) :
    s.routerCycle.fbit F.EVR_CIRQ_LATCH x i = true := by
  have okx : Reg.EVR_CIRQ.ok x = true := ok_of_lt hx (by decide) (by decide)
  have okt : Reg.EVR_TSEL.ok (0x40 + 32 * x + i) = true := evrTsel_ok (by omega) (latch_mapped hx hi)
  obtain ⟨cells, outs, hcycle⟩ := routerCycle_stages hsen hwin
  have hstart := cycleStart_agree s
  obtain ⟨hrouter, -⟩ := cycleStart_router s
  have hlatch := taskStage_latches (c := c) (hstart.regsWf w) hx hi (by rw [hrouter]; exact hc)
    ((hstart.pageEn_same w (by decide) (by decide)).trans h8) ((hstart.pageEn_same w (by decide) (by decide)).trans h9)
    ((hstart.domLive_same w (by decide) _).trans hlive) ((hstart.flag_same (f := F.EVR_TSEL_EN) w okt (by decide)).trans hen)
    ((hstart.fget_same (f := F.EVR_TSEL_SELA) w okt (by decide)).trans hsel)
  have wm : Regs.wf (s.cycleStart.taskStage.channelsMove cells).regs = true :=
    (taskStage_agree _).regsWf (hstart.regsWf w)
  rw [hcycle]
  exact ((channelStage_agree (s.cycleStart.taskStage.channelsMove cells) outs).fbit_same (f := F.EVR_CIRQ_LATCH) wm okx
    (by decide)).trans hlatch

end Sys2Proof.Machine
end

section
/-!
PROOF. The consumers of the task inputs: what each does with a trigger, and that none of them touches the channels.
-/

namespace Sys2Proof.Machine

/-! ### What a trigger leaves of the router -/

theorem taskDrop_pulsed (s : State) (k : Nat) : Pulsed s (s.taskDrop k) :=
  ((Pulsed.fsetB s _ _ _).trans (.fset _ _ _ _)).trans (irq_pulsed _ _ _)

theorem launch_pulsed (s : State) (u : Nat) : Pulsed s (s.launch u) := by
  have hdropped : Pulsed s s.launchDropped := ((Pulsed.fsetB s _ _ _).trans (.fset _ _ _ _)).trans (irq_pulsed _ _ _)
  unfold State.launch
  extract_lets q going
  refine .ite (.refl s) (.ite hdropped ?_)
  exact (sramOwnRead_pulsed s _ _ _).trans (.of_router rfl)

/-- The registers that show a peg. -/
def pegShowMask : Nat :=
  1 <<< (64 + Reg.PEG_BUSY.ctorIdx) ||| 1 <<< (64 + Reg.LINE_AVAIL.ctorIdx) ||| 1 <<< (64 + Reg.LINE_STATUS.ctorIdx)

theorem putPeg_pulsed (s : State) (i : Nat) (p : Peg) : Pulsed s (s.putPeg i p) :=
  .of_agree (M := 1 <<< 22 ||| pegShowMask) (State.putPeg_touch (by decide) (.refl _ s)) (by decide)

theorem pegHold_pulsed (s : State) (i : Nat) (short : Bool) : Pulsed s (s.pegHold i short) := by
  have hpeg (x : Lines) : Pulsed s { s with lines := x } := .of_router (s := s) rfl
  exact (hpeg _).trans (irq_pulsed _ _ _)

theorem pegStart_pulsed (s : State) (i : Nat) : Pulsed s (s.pegStart i) :=
  (putPeg_pulsed s i _).trans (.forEach (fun j t => .ite (pegHold_pulsed t j true) (.refl t)) _ _)

theorem pegTrigger_pulsed (s : State) (k : Nat) : Pulsed s (s.pegTrigger k) :=
  .ite (pegStart_pulsed s _) ((Pulsed.fsetB s _ _ _).trans (irq_pulsed _ _ _))

theorem setScan_pulsed (s : State) (x : Option Nat) : Pulsed s (s.setScan x) :=
  .of_agree (M := 1 <<< 20 ||| 1 <<< (64 + Reg.PAGE_STATUS.ctorIdx)) (State.setScan_touch (by decide) (.refl _ s)) (by decide)

theorem scanTrigger_pulsed (s : State) : Pulsed s (s.scanTrigger 1) :=
  .ite (.refl s) (.ite ((Pulsed.fsetB s _ _ _).trans (irq_pulsed _ _ _)) (setScan_pulsed s _))

theorem softSeamRequest_pulsed (s : State) : Pulsed s s.softSeamRequest :=
  .ite ((Pulsed.fsetB s _ _ _).trans (irq_pulsed _ _ _)) ((Pulsed.fsetB s _ _ _).trans (.of_router rfl))

theorem timerTrigger_pulsed (s : State) (n : Nat) (cap : Bool) : Pulsed s (s.timerTrigger n cap) :=
  .ite (.refl s) (.ite (.setReg s _ _ _) (.ite (.refl s) (.of_router rfl)))

/-- An output tap may drive a pin for this cycle, and leaves the channels. -/
theorem gpioTap_chan (s : State) (g : Nat) : (s.gpioTap g).router.chan = s.router.chan := by
  unfold State.gpioTap
  extract_lets pin act old r t
  have ht : t.router.chan = s.router.chan := by
    simp only [t]
    split
    · rfl
    · rw [(Pulsed.fsetBit s _ _ _ _).router]
  split
  · rfl
  · rw [(ballSync_pulsed t pin).router]
    exact ht

/-! ### Which consumer a task input has -/

/-- What task input `k` of D_ACQ does with a trigger where its domain runs. -/
def State.acqTask (s : State) (k : Nat) : State :=
  if k < 8 then s.pegTrigger k
  else if k = 0x18 then s.scanTrigger 1
  else if k = 0x19 then s.softSeamRequest
  else if k < 0x2A then s.timerTrigger ((k - 0x1A) / 2) (k % 2 == 1)
  else s.gpioTap (k - 0x2A)

theorem taskAct_acq (s : State) {k : Nat} (hk : k < 8 ∨ 0x18 ≤ k ∧ k < 0x40) :
    s.taskAct k = if s.domLive .acq then s.acqTask k else s.taskDrop k := by
  have hana : (decide (8 ≤ k) && decide (k < 0x18)) = false := by
    rw [Bool.and_eq_false_iff, decide_eq_false_iff_not, decide_eq_false_iff_not]
    omega
  unfold State.taskAct
  rw [if_neg (by omega), hana]
  cases s.domLive .acq <;> rfl

/-- A template launch that would find no room is marked on its task input. -/
def State.launchTask (s : State) (u : Nat) : State :=
  let q := s.fget F.WELQ_TPL_CTRL_QUEUE u
  let going := (s.wel.copies.filter (fun (x : Nat × Nat × List Byte) => x.2.1 == q)).length
  let busy := s.pageEn 0x52 && s.flag F.WELQ_TPL_CTRL_EN u &&
    (s.wel.copies.any (fun x => x.1 == u) || decide (s.qSlots q ≤ s.qCount q + going + 1))
  (if busy then s.taskDrop (u + 8) else s).launch u

theorem taskAct_ana (s : State) {k : Nat} (h8 : 8 ≤ k) (h18 : k < 0x18) :
    s.taskAct k = if s.domLive .ana then s.launchTask (k - 8) else s.taskDrop k := by
  have hana : (decide (8 ≤ k) && decide (k < 0x18)) = true := by
    rw [Bool.and_eq_true, decide_eq_true_eq, decide_eq_true_eq]
    omega
  unfold State.taskAct State.launchTask
  rw [if_neg (by omega), hana, Nat.sub_add_cancel h8]
  cases s.domLive .ana <;> rfl

theorem acqTask_chan (s : State) (k : Nat) : (s.acqTask k).router.chan = s.router.chan := by
  unfold State.acqTask
  split
  · rw [(pegTrigger_pulsed s k).router]
  · split
    · rw [(scanTrigger_pulsed s).router]
    · split
      · rw [(softSeamRequest_pulsed s).router]
      · split
        · rw [(timerTrigger_pulsed s _ _).router]
        · exact gpioTap_chan s _

theorem taskAct_chan (s : State) {k : Nat} (hk : k < 0x40) : (s.taskAct k).router.chan = s.router.chan := by
  have hdrop : (s.taskDrop k).router.chan = s.router.chan := by rw [(taskDrop_pulsed s k).router]
  by_cases hana : 8 ≤ k ∧ k < 0x18
  · rw [taskAct_ana s hana.1 hana.2]
    have hlaunch : Pulsed s (s.launchTask (k - 8)) := (Pulsed.ite (taskDrop_pulsed s _) (.refl s)).trans (launch_pulsed _ _)
    split
    · rw [hlaunch.router]
    · exact hdrop
  · rw [taskAct_acq s (by omega)]
    split
    · exact acqTask_chan s k
    · exact hdrop

/-! ### A trigger that is dropped -/

theorem taskMapped_low {k : Nat} (hk : k < 0x32) : taskMapped k = true := by
  simp only [taskMapped, Bool.or_eq_true, decide_eq_true_eq]
  omega

/-- Interrupt 1 of EVR0 stands in `t` when it stood in `s`. -/
structure OverrunKept (s t : State) : Prop where
  wf : Regs.wf s.regs = true → Regs.wf t.regs = true
  irq : Regs.wf s.regs = true → s.fbit F.PAGE_IRQ_SOURCES 0x08 1 = true → t.fbit F.PAGE_IRQ_SOURCES 0x08 1 = true

namespace OverrunKept

theorem refl (s : State) : OverrunKept s s := ⟨id, fun _ => id⟩

theorem trans {s t u : State} (h : OverrunKept s t) (k : OverrunKept t u) : OverrunKept s u :=
  ⟨fun w => k.wf (h.wf w), fun w hs => k.irq (h.wf w) (h.irq w hs)⟩

theorem of_regs {s t : State} (h : t.regs = s.regs) : OverrunKept s t :=
  ⟨fun w => by rwa [h], fun _ hs => (fbit_of_reg (f := F.PAGE_IRQ_SOURCES) (reg_of_regs h _ _) 1).trans hs⟩

theorem ite {s t u : State} {c : Prop} [Decidable c] (h : OverrunKept s t) (k : OverrunKept s u) :
    OverrunKept s (if c then t else u) := by
  split
  · exact h
  · exact k

theorem forEach {α : Type} {f : α → State → State} (hf : ∀ x t, OverrunKept t (f x t)) (xs : List α) (s : State) :
    OverrunKept s (forEach xs f s) :=
  forEach_keeps (P := OverrunKept s) xs (refl s) fun x _ t ht => ht.trans (hf x t)

end OverrunKept

theorem genMerged_overrun (s : State) : OverrunKept s s.genMerged where
  wf w := fsetBit_wf _ _ _ _ _ (fsetB_wf _ _ _ _ w)
  irq w hs := by
    have wm : Regs.wf (s.fsetB F.EVR_STATUS_GEN_MERGED 0 true).regs = true := fsetB_wf _ _ _ _ w
    have hmerged : (s.fsetB F.EVR_STATUS_GEN_MERGED 0 true).reg .PAGE_IRQ 0x08 = s.reg .PAGE_IRQ 0x08 :=
      reg_setReg_ne _ _ w (by decide) (.inl (by decide))
    rw [State.genMerged, fbit_fsetBit_other true wm (by decide) rfl (by decide), fbit_of_reg (f := F.PAGE_IRQ_SOURCES) hmerged]
    exact hs

theorem pulseWith_overrun {s : State} {g : Nat} {merged : State → State} (hm : OverrunKept s (merged s)) :
    OverrunKept s (s.pulseWith g merged) := by
  unfold State.pulseWith
  split
  · exact .refl s
  · exact .ite (.refl s) (.ite hm (.of_regs rfl))

theorem genMergedTaps_overrun (s : State) : OverrunKept s s.genMergedTaps := by
  unfold State.genMergedTaps
  extract_lets t
  refine .ite (((genMerged_overrun s).trans (.of_regs (irqWake_regs t))).trans ?_) (genMerged_overrun s)
  exact .forEach (fun j u => pulseWith_overrun (genMerged_overrun u)) _ _

theorem withTaps_overrun (s t : State) (p : Nat) : OverrunKept t (s.withTaps t p) := by
  unfold State.withTaps
  exact .ite ((OverrunKept.of_regs (irqWake_regs t)).trans
    (.forEach (fun _ u => pulseWith_overrun (genMergedTaps_overrun u)) _ _)) (.refl t)

/-- A dropped trigger leaves EVT_OVERRUN and interrupt 1 of EVR0 (R287). -/
theorem taskDrop_marks {s : State} {k : Nat} (w : Regs.wf s.regs = true) (hk : k < 0x32) :
    (s.taskDrop k).flag F.EVR_TSTAT_EVT_OVERRUN k = true ∧ (s.taskDrop k).fbit F.PAGE_IRQ_SOURCES 0x08 1 = true := by
  have ok : Reg.EVR_TSTAT.ok k = true := by
    simp [Reg.ok, taskMapped_low hk, show Reg.EVR_TSTAT.count = 224 from rfl, show k < 224 by omega]
  generalize hm : (s.fsetB F.EVR_TSTAT_EVT_OVERRUN k true).faddSat F.EVR_TSTAT_OVR_COUNT k 1 = m
  have wset : Regs.wf (s.fsetB F.EVR_TSTAT_EVT_OVERRUN k true).regs = true := fsetB_wf _ _ _ _ w
  have wm : Regs.wf m.regs = true := hm ▸ setReg_wf _ _ _ _ wset
  have hmark : m.flag F.EVR_TSTAT_EVT_OVERRUN k = true := by
    rw [← hm, State.flag, State.faddSat,
      fget_fset_field _ F.EVR_TSTAT_OVR_COUNT F.EVR_TSTAT_EVT_OVERRUN k _ wset ok rfl (by decide)]
    exact flag_fsetB_same true w ok (by decide)
  rw [State.taskDrop, hm]
  refine ⟨((irq_agree m 0x08 1).flag_same (f := F.EVR_TSTAT_EVT_OVERRUN) wm ok (by decide)).trans hmark, ?_⟩
  have hset : (m.setReg .PAGE_IRQ 0x08 (withBits (m.reg .PAGE_IRQ 0x08) 1 1 1)).fbit F.PAGE_IRQ_SOURCES 0x08 1 = true :=
    fbit_fsetBit_same (f := F.PAGE_IRQ_SOURCES) (n := 0x08) (i := 1) true wm (by decide) (by decide)
  exact (withTaps_overrun m _ 0x08).irq (setReg_wf _ _ _ _ wm) hset

/-! ### The consumers -/

/-- A launch of an enabled template whose queue has room begins a copy (R188). -/
theorem launchTask_copies {s : State} {u : Nat} (hpage : s.pageEn 0x52 = true) (hen : s.flag F.WELQ_TPL_CTRL_EN u = true)
    (hcopies : s.wel.copies = []) (hroom : s.qCount (s.fget F.WELQ_TPL_CTRL_QUEUE u) + 1 < s.qSlots (s.fget F.WELQ_TPL_CTRL_QUEUE u)) :
    ∃ d, (s.launchTask u).wel.copies = [(u, s.fget F.WELQ_TPL_CTRL_QUEUE u, d)] := by
  have hfree : ¬ s.qSlots (s.fget F.WELQ_TPL_CTRL_QUEUE u) ≤ s.qCount (s.fget F.WELQ_TPL_CTRL_QUEUE u) + 0 + 1 := by omega
  have hlaunch : s.launchTask u = s.launch u := by
    simp only [State.launchTask, hcopies, List.filter_nil, List.length_nil, List.any_nil, decide_eq_false hfree, Bool.or_self,
      Bool.and_false, Bool.false_eq_true, if_false]
  have hwel : (s.sramOwnRead (blockSource 0x52) (sramBase 2 + s.fget F.WELQ_TPL_ADDR_ADDR u * 64) 64).1.wel = s.wel :=
    (sramOwnRead_agree s _ _ _).wel_same (by decide)
  refine ⟨(s.sramOwnRead (blockSource 0x52) (sramBase 2 + s.fget F.WELQ_TPL_ADDR_ADDR u * 64) 64).2, ?_⟩
  rw [hlaunch]
  unfold State.launch
  simp only [hpage, hen, hcopies, List.filter_nil, List.length_nil, List.any_nil, decide_eq_false hfree, Bool.not_true,
    Bool.or_self, Bool.false_eq_true, if_false, hwel, List.nil_append]

/-- A peg stands HELD or GROWING. -/
def State.pegged (s : State) (i : Nat) : Prop := (s.peg i).state = 3 ∨ (s.peg i).state = 1

theorem peg_setPeg (s : State) (i j : Nat) (p : Peg) :
    ({ s with lines := { s.lines with pegs := setAt Peg.reset s.lines.pegs i p } } : State).peg j = if j = i then p else s.peg j :=
  getD_setAt _ _ _ _ _

theorem peg_of_lines {s t : State} (h : t.lines = s.lines) (i : Nat) : t.peg i = s.peg i := by rw [State.peg, State.peg, h]

theorem pegHold_pegged {s : State} {i j : Nat} (short : Bool) (h : s.pegged i) : (s.pegHold j short).pegged i := by
  rw [State.pegged, State.pegHold, peg_of_lines ((irq_agree _ 0x39 0).lines_same (by decide)), peg_setPeg]
  split
  · exact .inr rfl
  · exact h

theorem putPeg_peg (s : State) (i : Nat) (p : Peg) : (s.putPeg i p).peg i = p := by
  have hshow : Agree pegShowMask { s with lines := { s.lines with pegs := setAt Peg.reset s.lines.pegs i p } } (s.putPeg i p) :=
    State.lineShow_touch (by decide) ((Agree.refl _ _).fsetBit (by decide) _ _ _)
  rw [peg_of_lines (hshow.lines_same (by decide)), peg_setPeg, if_pos rfl]

/-- A trigger on an armed peg starts its growth (R155, R156). -/
theorem pegStart_sets (s : State) (i : Nat) : (s.pegStart i).pegged i := by
  unfold State.pegStart
  extract_lets p b k first
  refine forEach_keeps (P := fun t : State => t.pegged i) _ ?_ ?_
  · rw [State.pegged, putPeg_peg]
    dsimp only
    split
    · exact .inr rfl
    · exact .inl rfl
  · intro j _ t ht
    split
    · exact pegHold_pegged true ht
    · exact ht

end Sys2Proof.Machine
end

section
/-!
PROOF. A cycle with one task input that hears a pulse, and the statement on cores' pages, router, cells, timers and pins.
-/

namespace Sys2Proof.Machine

/-! ### One task input -/

/-- Task input `k` alone is connected, to channel `c`, which has a pulse; no channel is open, and no tap or press window is about. -/
structure OneTask (s : State) (k c : Nat) : Prop where
  heard : c ∈ s.router.task
  sela : s.fget F.EVR_TSEL_SELA k = c
  sen : s.power.senOn = true
  page : s.pageEn 0x08 = true
  only : ∀ u, u < 224 → (s.flag F.EVR_TSEL_EN u = true ↔ u = k)
  closed : ∀ u, u < 128 → s.flag F.EVR_CFG_EN u = false
  window : s.basket.window = 0
  tap : s.router.tapHigh = []

/-- What a cycle changes before the consumer of a task input acts: the checks that hold a page, and COALESCED. -/
def markMask : Nat := 1 <<< 38 ||| 1 <<< (64 + Reg.EVR_TSTAT.ctorIdx)

theorem taskStage_one {s : State} {k c : Nat} (hk : k < 0x32) (h : OneTask s k c) :
    s.taskStage = s.taskTrigger (s.hearsA k && s.hearsB k) k := by
  have hhears : s.hearsA k = true := by rw [State.hearsA, h.sela]; exact List.contains_iff_mem.mpr h.heard
  have hone : ∀ u, u < 224 → ((taskMapped u && s.flag F.EVR_TSEL_EN u && (s.hearsA u || s.hearsB u)) = true ↔ u = k) := fun u hu => by
    rw [Bool.and_eq_true, Bool.and_eq_true]
    refine ⟨fun hu' => (h.only u hu).mp hu'.1.2, fun hu' => ?_⟩
    subst hu'
    exact ⟨⟨taskMapped_low hk, (h.only u hu).mpr rfl⟩, by rw [hhears]; rfl⟩
  rw [taskStage_triggers (List.ne_nil_of_mem h.heard) h.page, indices_one (by omega) hone]
  rfl

/-- What follows the task stage where no channel is open changes the router only. -/
theorem channelsMove_router (s : State) (cells : List Cell) (outs : List Bool) :
    (s.channelsMove cells).pulsesTaken.outputsKept outs = { s with router :=
      { s.router with cells := cells, task := s.router.chan, inp := [], fires := [], chan := [], prevOut := outs } } := rfl

/-- The consumer of the one task input that hears a pulse acts in the cycle, and the channels move on (R282, R287). -/
theorem routerCycle_acts {s : State} {k c : Nat} (w : Regs.wf s.regs = true) (hk : k < 0x32) (h : OneTask s k c) {P : State → Prop}
    (hP : ∀ x, Agree markMask s x → ∀ r : Router, P { x.taskAct k with router := r }) :
    ∃ t, exec .routerCycle s = .next t ∧ t.router.task = s.router.chan ∧ P t := by
  obtain ⟨cells, outs, hcycle⟩ := routerCycle_stages h.sen h.window
  generalize hp : s.checksAge 1 = p
  have hsp : Agree markMask s p := hp ▸ State.checksAge_touch (by decide) (.refl _ s)
  have hrouter : p.router = s.router := by rw [← hp]; rfl
  have hone : OneTask p k c := by rw [← hp]; exact ⟨h.heard, h.sela, h.sen, h.page, h.only, h.closed, h.window, h.tap⟩
  generalize hx : (if p.hearsA k && p.hearsB k then p.fsetB F.EVR_TSTAT_COALESCED k true else p) = x
  have hpx := coalesced_agree p (p.hearsA k && p.hearsB k) k
  rw [hx] at hpx
  have hsx : Agree markMask s x := hsp.trans (hpx.mono (by decide))
  have hstage : s.cycleStart.taskStage = x.taskAct k := by
    rw [cycleStart_quiet h.tap, hp, taskStage_one hk hone, State.taskTrigger, hx]
  have hchan : (x.taskAct k).router.chan = s.router.chan := by
    rw [taskAct_chan x (by omega), hpx.router_same (by decide), hrouter]
  have hnone : ∀ u, u < 128 → ((x.taskAct k).channelsMove cells).channelTakes outs u = false := fun u hu => by
    have oku : Reg.EVR_CFG.ok u = true := ok_of_lt hu (by decide) (by decide)
    have hoff : ((x.taskAct k).channelsMove cells).flag F.EVR_CFG_EN u = false := by
      show (x.taskAct k).flag F.EVR_CFG_EN u = false
      rw [(taskAct_agree x k).flag_same (f := F.EVR_CFG_EN) (hsx.regsWf w) oku (by decide),
        hsx.flag_same (f := F.EVR_CFG_EN) w oku (by decide)]
      exact h.closed u hu
    rw [State.channelTakes, hoff, Bool.and_false, Bool.false_and]
  rw [hstage, channelStage_none hnone, channelsMove_router] at hcycle
  exact ⟨s.routerCycle, rfl, by rw [hcycle]; exact hchan, hcycle ▸ hP x hsx _⟩

/-! ### The consumers in a cycle -/

theorem softSeamRequest_asks {s : State} (w : Regs.wf s.regs = true) :
    s.softSeamRequest.flag F.SEAM_SOFT_FIRE = true ∧
      (s.flag F.SEAM_SOFT_FIRE = true → s.softSeamRequest.flag F.SEAM_STATUS_SOFT_MERGED = true) := by
  unfold State.softSeamRequest
  split
  next hfire =>
    have wm : Regs.wf (s.fsetB F.SEAM_STATUS_SOFT_MERGED 0 true).regs = true := fsetB_wf _ _ _ _ w
    have hirq := irq_agree (s.fsetB F.SEAM_STATUS_SOFT_MERGED 0 true) 0x0C 0
    refine ⟨?_, fun _ => (hirq.flag_same (f := F.SEAM_STATUS_SOFT_MERGED) wm (by decide) (by decide)).trans
      (flag_fsetB_same true w (by decide) (by decide))⟩
    have hmerged : Agree (1 <<< (64 + Reg.SEAM_STATUS.ctorIdx)) s (s.fsetB F.SEAM_STATUS_SOFT_MERGED 0 true) :=
      (Agree.refl _ s).fsetB (by decide) _ _
    exact ((hirq.flag_same (f := F.SEAM_SOFT_FIRE) wm (by decide) (by decide)).trans
      (hmerged.flag_same (f := F.SEAM_SOFT_FIRE) w (by decide) (by decide))).trans hfire
  next hfire => exact ⟨flag_fsetB_same true w (by decide) (by decide), fun h => absurd h hfire⟩

/-- An event that triggers the converter asks for a scan now (R116). -/
theorem scanTrigger_asks {s : State} (hpage : s.pageEn 0x23 = true) (htrig : s.fget F.RESULT_CTRL_TRIG = 1)
    (hscan : s.adc.scan = none) : (s.scanTrigger 1).adc.scan = some s.now := by
  rw [State.scanTrigger, hpage, htrig, hscan]
  rfl

theorem timerTrigger_starts {s : State} {n : Nat} (hpage : s.pageEn 0x66 = true) : n ∈ (s.timerTrigger n false).timers := by
  rw [State.timerTrigger, hpage]
  simp only [Bool.not_true, Bool.false_eq_true, if_false]
  split
  next h => exact List.contains_iff_mem.mp h
  next => exact List.mem_cons_self

theorem timerTrigger_captures {s : State} {n : Nat} (w : Regs.wf s.regs = true) (hn : n < 8) (hpage : s.pageEn 0x66 = true) :
    (s.timerTrigger n true).reg .TIM_CAPT n = s.reg .TIM_COUNT n := by
  rw [State.timerTrigger, hpage]
  exact reg_setReg_same _ _ _ _ w (ok_of_lt hn (by decide) (by decide))

/-- An output tap sets, clears or turns its pin (R288). -/
theorem gpioTap_drives {s : State} {g : Nat} (w : Regs.wf s.regs = true) (h9 : s.pageEn 0x09 = true) (h65 : s.pageLive 0x65 = true)
    (hen : s.flag F.EVR_GOUT_EN g = true) (hpin : s.fget F.EVR_GOUT_PIN g < 48) (hact : s.fget F.EVR_GOUT_ACTION g < 3) :
    let pin := s.fget F.EVR_GOUT_PIN g
    (s.gpioTap g).fbit F.GPIO_OUT_OUT (pin / 32) (pin % 32) =
      if s.fget F.EVR_GOUT_ACTION g = 0 then true else if s.fget F.EVR_GOUT_ACTION g = 1 then false
      else !s.fbit F.GPIO_OUT_OUT (pin / 32) (pin % 32) := by
  intro pin
  have ok : Reg.GPIO_OUT.ok (pin / 32) = true := ok_of_lt (by omega : pin / 32 < 2) (by decide) (by decide)
  generalize hlevel : (if s.fget F.EVR_GOUT_ACTION g = 0 then true else if s.fget F.EVR_GOUT_ACTION g = 1 then false
    else !s.fbit F.GPIO_OUT_OUT (pin / 32) (pin % 32)) = level
  have htap : s.gpioTap g = (s.fsetBit F.GPIO_OUT_OUT (pin / 32) (pin % 32) level).ballSync pin := by
    unfold State.gpioTap
    rw [h9, hen, h65, if_neg (by decide)]
    simp only [if_neg (show ¬ s.fget F.EVR_GOUT_ACTION g = 3 by omega)]
    rw [← hlevel]
  have hsync : Agree gpioMask (s.fsetBit F.GPIO_OUT_OUT (pin / 32) (pin % 32) level)
      ((s.fsetBit F.GPIO_OUT_OUT (pin / 32) (pin % 32) level).ballSync pin) := State.ballSync_touch (by decide) (.refl _ _)
  rw [htap, hsync.fbit_same (f := F.GPIO_OUT_OUT) (fsetBit_wf _ _ _ _ _ w) ok (by decide)]
  exact fbit_fsetBit_same level w ok (by show 0 + pin % 32 < 32; omega)

/-- A cycle moves the channels on and leaves `P`. -/
def State.acts (s : State) (P : State → Prop) : Prop :=
  ∃ t, exec .routerCycle s = .next t ∧ t.router.task = s.router.chan ∧ P t

section acts
variable {s : State} {k c : Nat} (w : Regs.wf s.regs = true) (h : OneTask s k c)
include w h

/-- Where the domain of the task input does not run, its trigger is dropped. -/
theorem acts_dropped (hk : k < 0x32)
    (hdead : (k < 8 ∨ 0x18 ≤ k) ∧ s.domLive .acq = false ∨ (8 ≤ k ∧ k < 0x18) ∧ s.domLive .ana = false) :
    s.acts fun t => t.flag F.EVR_TSTAT_EVT_OVERRUN k = true ∧ t.fbit F.PAGE_IRQ_SOURCES 0x08 1 = true :=
  routerCycle_acts w hk h fun x hx r => by
    have hdrop : x.taskAct k = x.taskDrop k := by
      rcases hdead with ⟨hacq, hdead⟩ | ⟨⟨h8, h18⟩, hdead⟩
      · rw [taskAct_acq x (by omega), hx.domLive_same w (by decide), hdead]
        rfl
      · rw [taskAct_ana x h8 h18, hx.domLive_same w (by decide), hdead]
        rfl
    rw [hdrop]
    exact taskDrop_marks (hx.regsWf w) hk

theorem acts_launches (h8 : 8 ≤ k) (h18 : k < 0x18) (hpage : s.pageEn 0x52 = true) (hen : s.flag F.WELQ_TPL_CTRL_EN (k - 8) = true)
    (hcopies : s.wel.copies = [])
    (hroom : s.qCount (s.fget F.WELQ_TPL_CTRL_QUEUE (k - 8)) + 1 < s.qSlots (s.fget F.WELQ_TPL_CTRL_QUEUE (k - 8))) :
    s.acts fun t => ∃ d, t.wel.copies = [(k - 8, s.fget F.WELQ_TPL_CTRL_QUEUE (k - 8), d)] :=
  routerCycle_acts w (by omega) h fun x hx r => by
    have hana : s.domLive .ana = true := by
      have hlive : s.pageLive 0x52 = true := (Bool.and_eq_true_iff.mp hpage).1
      exact (Bool.and_eq_true_iff.mp hlive).1
    have oktpl : Reg.WELQ_TPL_CTRL.ok (k - 8) = true := ok_of_lt (by omega : k - 8 < 16) (by decide) (by decide)
    have hqueue : x.fget F.WELQ_TPL_CTRL_QUEUE (k - 8) = s.fget F.WELQ_TPL_CTRL_QUEUE (k - 8) := hx.fget_same w oktpl (by decide)
    have hq : s.fget F.WELQ_TPL_CTRL_QUEUE (k - 8) < 64 := fget_lt _ _ _
    have hslots : x.qSlots (s.fget F.WELQ_TPL_CTRL_QUEUE (k - 8)) = s.qSlots (s.fget F.WELQ_TPL_CTRL_QUEUE (k - 8)) := by
      rw [State.qSlots, State.qSlots, hx.fget_same (f := F.WELQ_QCFG_LOG2) w (ok_of_lt hq (by decide) (by decide)) (by decide)]
    have hcount : x.qCount (s.fget F.WELQ_TPL_CTRL_QUEUE (k - 8)) = s.qCount (s.fget F.WELQ_TPL_CTRL_QUEUE (k - 8)) := by
      rw [State.qCount, State.qCount, hslots,
        hx.fget_same (f := F.WELQ_QTAIL_TAIL) w (ok_of_lt hq (by decide) (by decide)) (by decide),
        hx.fget_same (f := F.WELQ_QHEAD_HEAD) w (ok_of_lt hq (by decide) (by decide)) (by decide)]
    rw [taskAct_ana x h8 h18, hx.domLive_same w (by decide), hana, if_pos rfl]
    rw [← hqueue]
    refine launchTask_copies ((hx.pageEn_same w (by decide) (by decide)).trans hpage)
      ((hx.flag_same (f := F.WELQ_TPL_CTRL_EN) w oktpl (by decide)).trans hen) ((congrArg _ (hx.wel_same (by decide))).trans hcopies) ?_
    rw [hqueue, hslots, hcount]
    exact hroom

/-- Where D_ACQ runs, the consumer of a task input of it acts. -/
theorem acts_acq {P : State → Prop} (hk : k < 8 ∨ 0x18 ≤ k ∧ k < 0x32) (hlive : s.domLive .acq = true)
    (hP : ∀ x, Agree markMask s x → ∀ r : Router, P { x.acqTask k with router := r }) : s.acts P :=
  routerCycle_acts w (by omega) h fun x hx r => by
    rw [taskAct_acq x (by omega), hx.domLive_same w (by decide), hlive, if_pos rfl]
    exact hP x hx r

variable (hlive : s.domLive .acq = true)
include hlive

theorem acts_peg (hk : k < 8) (hen : s.flag F.PEG_TRIG_EN k = true) (hpage : s.pageEn 0x39 = true)
    (hpeg : (s.peg (s.fget F.PEG_TRIG_PEG k)).state = 2) : s.acts fun t => t.pegged (s.fget F.PEG_TRIG_PEG k) :=
  acts_acq w h (.inl hk) hlive fun x hx r => by
    have ok : Reg.PEG_TRIG.ok k = true := ok_of_lt hk (by decide) (by decide)
    have hi : x.fget F.PEG_TRIG_PEG k = s.fget F.PEG_TRIG_PEG k := hx.fget_same w ok (by decide)
    have harmed : (x.peg (s.fget F.PEG_TRIG_PEG k)).state = 2 := by rw [peg_of_lines (hx.lines_same (by decide))]; exact hpeg
    rw [State.acqTask, if_pos hk, State.pegTrigger, hi, hx.flag_same (f := F.PEG_TRIG_EN) w ok (by decide), hen,
      hx.pageEn_same w (by decide) (by decide), hpage, harmed]
    exact pegStart_sets x _

theorem acts_scan (hk : k = 0x18) (hpage : s.pageEn 0x23 = true) (htrig : s.fget F.RESULT_CTRL_TRIG = 1) (hscan : s.adc.scan = none) :
    s.acts fun t => t.adc.scan = some s.now :=
  acts_acq w h (by omega) hlive fun x hx r => by
    rw [State.acqTask, if_neg (by omega), if_pos hk, ← hx.now_same (by decide)]
    exact scanTrigger_asks ((hx.pageEn_same w (by decide) (by decide)).trans hpage)
      ((hx.fget_same (f := F.RESULT_CTRL_TRIG) w (by decide) (by decide)).trans htrig)
      ((congrArg _ (hx.adc_same (by decide))).trans hscan)

theorem acts_soft (hk : k = 0x19) : s.acts fun t => t.flag F.SEAM_SOFT_FIRE = true ∧
    (s.flag F.SEAM_SOFT_FIRE = true → t.flag F.SEAM_STATUS_SOFT_MERGED = true) :=
  acts_acq w h (by omega) hlive fun x hx r => by
    rw [State.acqTask, if_neg (by omega), if_neg (by omega), if_pos hk, ← hx.flag_same (f := F.SEAM_SOFT_FIRE) w (by decide) (by decide)]
    exact softSeamRequest_asks (hx.regsWf w)

theorem acts_timer_start {n : Nat} (hn : n < 8) (hpage : s.pageEn 0x66 = true) (hk : k = 0x1A + 2 * n) :
    s.acts fun t => n ∈ t.timers :=
  acts_acq w h (by omega) hlive fun x hx r => by
    have hindex : (k - 0x1A) / 2 = n ∧ (k % 2 == 1) = false := ⟨by omega, beq_eq_false_iff_ne.mpr (by omega)⟩
    rw [State.acqTask, if_neg (by omega), if_neg (by omega), if_neg (by omega), if_pos (by omega), hindex.1, hindex.2]
    exact timerTrigger_starts ((hx.pageEn_same w (by decide) (by decide)).trans hpage)

theorem acts_timer_capture {n : Nat} (hn : n < 8) (hpage : s.pageEn 0x66 = true) (hk : k = 0x1B + 2 * n) :
    s.acts fun t => t.reg .TIM_CAPT n = s.reg .TIM_COUNT n :=
  acts_acq w h (by omega) hlive fun x hx r => by
    have hindex : (k - 0x1A) / 2 = n ∧ (k % 2 == 1) = true := ⟨by omega, beq_iff_eq.mpr (by omega)⟩
    rw [State.acqTask, if_neg (by omega), if_neg (by omega), if_neg (by omega), if_pos (by omega), hindex.1, hindex.2,
      ← hx.regs w .TIM_COUNT n (ok_of_lt hn (by decide) (by decide)) (by decide)]
    exact timerTrigger_captures (hx.regsWf w) hn ((hx.pageEn_same w (by decide) (by decide)).trans hpage)

theorem acts_tap {g : Nat} (hk : k = 0x2A + g) (hg : g < 8) (h9 : s.pageEn 0x09 = true) (h65 : s.pageLive 0x65 = true)
    (hen : s.flag F.EVR_GOUT_EN g = true) (hpin : s.fget F.EVR_GOUT_PIN g < 48) (hact : s.fget F.EVR_GOUT_ACTION g < 3) :
    let pin := s.fget F.EVR_GOUT_PIN g
    s.acts fun t => t.fbit F.GPIO_OUT_OUT (pin / 32) (pin % 32) =
      if s.fget F.EVR_GOUT_ACTION g = 0 then true else if s.fget F.EVR_GOUT_ACTION g = 1 then false
      else !s.fbit F.GPIO_OUT_OUT (pin / 32) (pin % 32) :=
  acts_acq w h (by omega) hlive fun x hx r => by
    have ok : Reg.EVR_GOUT.ok g = true := ok_of_lt hg (by decide) (by decide)
    have hindex : k - 0x2A = g := by omega
    have hxpin : x.fget F.EVR_GOUT_PIN g = s.fget F.EVR_GOUT_PIN g := hx.fget_same w ok (by decide)
    have hxact : x.fget F.EVR_GOUT_ACTION g = s.fget F.EVR_GOUT_ACTION g := hx.fget_same w ok (by decide)
    have hxout : x.fbit F.GPIO_OUT_OUT (s.fget F.EVR_GOUT_PIN g / 32) (s.fget F.EVR_GOUT_PIN g % 32) =
        s.fbit F.GPIO_OUT_OUT (s.fget F.EVR_GOUT_PIN g / 32) (s.fget F.EVR_GOUT_PIN g % 32) :=
      hx.fbit_same w (ok_of_lt (by omega : s.fget F.EVR_GOUT_PIN g / 32 < 2) (by decide) (by decide)) (by decide)
    rw [State.acqTask, if_neg (by omega), if_neg (by omega), if_neg (by omega), if_neg (by omega), hindex, ← hxout, ← hxpin, ← hxact]
    exact gpioTap_drives (hx.regsWf w) ((hx.pageEn_same w (by decide) (by decide)).trans h9)
      ((hx.pageLive_same w (by decide) (by decide)).trans h65) ((hx.flag_same (f := F.EVR_GOUT_EN) w ok (by decide)).trans hen)
      (by rw [hxpin]; exact hpin) (by rw [hxact]; exact hact)

end acts

/-! ### The statement -/

/-- Settles O49: the writes to the core pages, EVR_FIRE and the cells through what each leaves; the pulses through the stages of a
cycle; the timers through the ticks that concern one of them; the pins through the ball that is looked at. -/
theorem routerAndCells : Obligations.RouterAndCells := by
  unfold Obligations.RouterAndCells
  intro s q v hwf
  have w := State.wf_regs hwf
  refine ⟨fun x => ⟨?_, ?_⟩, ?_, ?_, ?_, ?_, ?_, ?_, fun j => ⟨?_, ?_⟩, fun n => ⟨?_, ?_, ?_⟩, ?_⟩
  · intro hadmits hrun
    exact ⟨_, rfl, coreReset_resets w hadmits hrun⟩
  · intro hadmits hv
    exact ⟨_, rfl, coreRun_written w hadmits hv⟩
  · intro g c d hc hd hlive hsen hcell hinp _ hchan htask hwin _ hopen hpage hsrc htrip hguard hwake hdeaf
    exact ⟨_, rfl, generatorPulse_counts w hc hd hlive hsen hcell hinp hchan htask hwin
      ⟨hopen, hpage, hsrc, htrip, hguard, hwake⟩ fun u hu _ => hdeaf u hu⟩
  · intro c x i hx hi hc hsen h8 h9 hlive hen hsel hwin
    exact ⟨_, rfl, routerCycle_latches w hx hi hc hsen hwin h8 h9 hlive hen hsel⟩
  · intro n hadmits hpass
    have hall : ∀ c ∈ firedChannels n.val v, s.chanPass (s.who q) c = true := fun c hc => by
      obtain ⟨i, hi, hv, rfl⟩ := of_mem_firedChannels hc
      exact hpass i hi hv
    have hwrite : s.writeReg q .EVR_FIRE n.val v = s.taken (s.fireWrite (s.who q) n.val v) :=
      writeReg_port (ok_of_lt n.isLt (by decide) (by decide)) hadmits rfl
    refine ⟨_, rfl, by rw [hwrite]; rfl, ?_, fun i hi hv => ?_⟩
    · rw [hwrite, taken_regs, fireWrite_passes hall]
    · rw [hwrite, (taken_agree _ _).router_same (by decide)]
      exact fireWrite_fires hall hi hv
  · intro c hc hfire hsen hwin htask htap hpage hopen htrip hguard hwake
    exact ⟨_, rfl, routerCycle_fires w hc hfire hsen hwin htask htap hpage hopen htrip hguard hwake⟩
  · intro k c hk hc hsel hsen h8 honly hclosed hwin htap _ acts
    have h : OneTask s k c := ⟨hc, hsel, hsen, h8, honly, hclosed, hwin, htap⟩
    refine ⟨fun hacq hdead => ?_, fun h8 h18 hdead => ?_, ?_, fun hlive => ⟨?_, ?_, ?_, fun n hn hpage => ⟨?_, ?_⟩, ?_⟩⟩
    · exact acts_dropped w h (by omega) (.inl ⟨by omega, hdead⟩)
    · exact acts_dropped w h (by omega) (.inr ⟨⟨h8, h18⟩, hdead⟩)
    · intro h8 h18 hpage hen hcopies hroom
      exact acts_launches w h h8 h18 hpage hen hcopies hroom
    · intro p hk hp hen hpage hpeg
      subst hp
      exact acts_peg w h hlive hk hen hpage hpeg
    · intro hk hpage htrig hscan
      exact acts_scan w h hlive hk hpage htrig hscan
    · exact acts_soft w h hlive
    · exact acts_timer_start w h hlive hn hpage
    · exact acts_timer_capture w h hlive hn hpage
    · intro g hk hg h9 h65 hen pin hpin hact
      exact acts_tap w h hlive hk hg h9 h65 hen hpin hact
  · intro c hlive
    exact congrArg Host.Outcome.next (if_pos hlive)
  · intro hmode hpage
    exact congrArg Host.Outcome.next (cellAccept_takes hmode hpage)
  · intro k r hadmits
    exact ⟨_, evlWrite_eq q j k v s, cellWrite_restarts w j k hadmits⟩
  · intro hdue
    refine ⟨_, congrArg Host.Outcome.next (timerMatch_due hdue), ?_⟩
    simpa using timerEvent_raises (k := 0) w n.isLt (by decide) hdue
  · intro hdue
    exact ⟨_, congrArg Host.Outcome.next (timerWrap_due hdue), timerEvent_raises (k := 1) w n.isLt (by decide) hdue⟩
  · intro hpage hclock hclk hrun hidle
    have h : TimerFree s n.val := ⟨hpage, hclock, hclk, hrun, hidle⟩
    exact ⟨fun hlt hle => ⟨_, rfl, timerMatch_raises w n.isLt h hlt hle⟩, fun hle => ⟨_, rfl, timerWrap_raises w n.isLt h hle⟩⟩
  · intro pin level
    exact ⟨_, rfl, gpioEdge_shows pin level w⟩

end Sys2Proof.Machine
end
